-- ==== Sys2Proof/Word.lean ====
section
/-!
DEFINITION. The word types of the model: a byte (one Selvage symbol), a 32-bit and a 64-bit word, and the
128-bit value of one vector register.
-/

namespace Sys2Proof

/-- One 8-bit symbol: a data byte or a check symbol of a Selvage codeword (R383). -/
abbrev Byte := BitVec 8

/-- One 32-bit word: an instruction word, half a control register. -/
abbrev Half := BitVec 32

/-- One 64-bit word: a scalar register, a memory word, a 64-bit control register. -/
abbrev Word := BitVec 64

/-- One 128-bit vector register. -/
abbrev Vec := BitVec 128

end Sys2Proof
end

