-- ==== Sys2Proof/Operand.lean ====
section
/-!
DEFINITION. The operand forms of Elryn instructions, addressing modes (R137, R180) and element types (R161), and what
crosses a stitch (R38, R41) and a Seam link (R356, R357, R366 to R377).
-/

namespace Sys2Proof

/-- The addressing modes of R137, with the fields of R180. -/
inductive AddrMode where
  | offset (imm : BitVec 12)
  | postImm (imm : BitVec 12)
  | postReg (k : BitVec 3)
  | circular (c : BitVec 2) (k : BitVec 3)
deriving DecidableEq, Repr

/-- The element types of R161. -/
inductive ElemType where
  | b | h | w | d | ch | cw
deriving DecidableEq, Repr

/-! ## What crosses a stitch beside queue traffic -/

/-- What a flit that is no queue traffic asks for or brings. A word is none where it is the poison mark. -/
inductive LooseBody where
  /-- a pop of a queue -/
  | pop (queue : Nat)
  /-- a read of some words of memory -/
  | read (addr words : Nat)
  /-- a write of a run of bytes, each with its enable -/
  | write (addr : Nat) (data : List (Option Byte))
  /-- any other request: a register access or an event message -/
  | request (data : List Word)
  /-- read data or a write acknowledgement -/
  | response (data : List Word)
deriving DecidableEq, Repr

/-- A flit that is no queue traffic, as it stands at a stitch: its unit and epoch, the deadline and class of the job or
queue entry that caused it (R42), and what it carries. -/
structure LooseFlit where
  unit : Nat
  epoch : Nat
  deadline : Nat
  cls : Nat
  body : LooseBody
deriving DecidableEq, Repr

/-- Who asks, as the flits of the request name it: the unit and the epoch it carries (R54). -/
structure Requester where
  unit : Nat
  epoch : Nat
deriving DecidableEq, Repr

/-! ## What a unit meets when it acts -/

/-- A bank of a Gusset, and which of its uncommitted instructions is meant, 0 the oldest. -/
structure BankWork where
  bank : Nat
  order : Nat
deriving DecidableEq, Repr

/-- A row of a Gusset register, the register-file words (register × 8 + word) whose read was corrected, and whether one was
uncorrectable. -/
structure RowRead where
  row : BitVec 2
  corrected : List Nat
  uncorrectable : Bool
deriving DecidableEq, Repr

/-- A frame from the destination address to the FCS, and the codewords that the port's FEC found uncorrectable up to it. -/
structure PortFrame where
  bytes : List Byte
  uncorrectable : Nat
deriving DecidableEq, Repr

/-- The words by which the receiver of a lane in a far-end loop has got ahead of its transmitter. -/
structure LoopDrift where
  lane : Nat
  words : Int
deriving DecidableEq, Repr

/-! ## What crosses a Seam link -/

/-- A lane of a Seam link. -/
structure LinkLane where
  link : Nat
  lane : Nat
deriving DecidableEq, Repr

/-- The header blocks that a codeword holds, and the blocks by which the lane's receiver has got ahead of the link layer
since the codeword before. -/
structure CodewordBlocks where
  headers : List (BitVec 80)
  drift : Int
deriving DecidableEq, Repr

/-- An inbound window (R379): first and last 4 KiB page, reads and writes allowed. -/
structure SeamWindow where
  base : Nat
  last : Nat
  rd : Bool
  wr : Bool
deriving DecidableEq, Repr

/-- What one die allows another: its windows and its queue range. -/
structure SeamRights where
  windows : List SeamWindow
  queueEn : Bool
  queueBase : Nat
  queueLast : Nat
deriving DecidableEq, Repr

/-- An epoch change as one member receives it (R367): its number E + 1, the new members (bit n: die n), the leader, T_E,
the admission epoch of each die, the route to each die as hops and first link (0 hops: none), and what each die allows
the receiver. -/
structure SeamChange where
  epoch : Nat
  members : Nat
  leader : Nat
  te : Nat
  aepochs : List Nat
  routes : List (Nat × Nat)
  rights : List SeamRights
deriving DecidableEq, Repr

/-- What a lane's search for alignment receives (R312 to R314): bits of an 8b/10b lane in the order of arrival; windows of a Seam
lane with the bit positions at which they begin; a report of the PCS of a 64b/66b lane. -/
inductive LineInput where
  | bits (l : List Bool)
  | windows (l : List (Nat × BitVec 80))
  | pcs
deriving DecidableEq, Repr

/-- What a lane's search for alignment receives next. -/
structure LaneInput where
  lane : Nat
  input : LineInput
deriving DecidableEq, Repr

/-- What a unit carries. A word is none where it is the poison mark. -/
inductive SeamBody where
  /-- a queue entry -/
  | entry (queue producer : Nat) (words : List (Option Word))
  | creditRequest (queue unit : Nat)
  | pop (queue unit : Nat)
  /-- a read of one word -/
  | read (unit addr : Nat)
  | writeWord (unit addr : Nat) (word : Option Word)
  /-- some bytes of one word -/
  | writeBytes (unit addr : Nat) (bytes : List (Option Byte))
  | readReply (unit addr : Nat) (word : Option Word)
  /-- an entry of the unit has landed in the queue, or a write of it has been made or discarded -/
  | landed (queue unit : Nat)
  | written (unit : Nat)
  | grant (queue unit credits : Nat)
  /-- an entry, or none from an empty queue; denied to a unit that is not the consumer -/
  | popReply (queue unit : Nat) (entry : Option (List (Option Word))) (denied : Bool)
  | event (e : Nat)
  | heartbeat
  | heartbeatAnswer
  /-- spare instances by accelerator type -/
  | advert (spare : List Nat)
  | offer (number : Nat) (descriptor : List (Option Word)) (inputs : List (List (Option Word)))
  | offerAccept (number : Nat)
  /-- the offering die lets the acceptor run the job, or withdraws it -/
  | offerTake (number : Nat)
  | offerWithdraw (number : Nat)
  | offerOutput (number : Nat) (words : List (Option Word))
  | offerReport (number code result ext : Nat)
  | change (c : SeamChange)
  | changeAck (epoch : Nat)
  | commit (epoch : Nat)
  | abandon (epoch : Nat)
  /-- a member without an outcome asks the proposer -/
  | askOutcome (epoch : Nat)
  /-- a member wishes to leave -/
  | leave
  /-- a member wishes its staged registers to take effect -/
  | republish
  | join (boltId : Nat) (nonce certificate : List Byte)
  | chal (boltId epoch : Nat) (nonce certificate signature : List Byte)
  | proof (boltId : Nat) (measure : List Byte) (sample : Nat) (signature : List Byte)
  | admitted
  | refuse (reason : Nat)
  | swatch (data : List Byte)
deriving DecidableEq, Repr

/-- A unit with the fields of its header block that go with it from die to die (R357). VC: 0 QUEUE, 1 REQ, 2 RSP,
3 CTRL. -/
structure SeamUnit where
  vc : Nat
  hop : Nat
  dest : Nat
  src : Nat
  aepoch : Nat
  bepoch : Nat
  body : SeamBody
deriving DecidableEq, Repr

/-- The fields of a header block that belong to one link (R357). -/
structure SeamHeader where
  seq : Nat
  ackSeq : Nat
  ackValid : Bool
  crHop : Nat
  crVc : Nat
  crCount : Nat
deriving DecidableEq, Repr

/-! ## Services -/

/-- How a Swatch message reaches the die (R521): the mailbox of a host function, a frame on a management lane (64 or 65) or
on a fronthaul port, or a relay from a bolt peer. -/
inductive SwatchVia where
  | mailbox (function : Nat)
  | lane (lane : Nat)
  | port (port : Nat)
  | relay (die : Nat)
deriving DecidableEq, Repr

/-- What the die draws at random or senses while it serves a request: a session ID and a nonce, the private X448 key of a
session, VPP_FUSE in millivolts, what reaches islands during a vote, and whether flash reads back as it was written. -/
structure Sensed where
  session : Nat
  nonce : List Byte
  secret : List Byte
  millivolts : Nat
  hits : List (Nat × Nat)
  programmed : Bool
deriving DecidableEq, Repr

/-! ## MB-DSP operations (R196, R198) -/

/-- Integer operations of the scalar datapath. -/
inductive MbAlu where
  | add | sub | and | or | xor | slt | sltu | min | max | minu | maxu | mul | mulh | mulhu
deriving DecidableEq, Repr

/-- Branch conditions. -/
inductive MbCond where
  | eq | ne | lt | ge | ltu | geu
deriving DecidableEq, Repr

/-- Packed element operations. -/
inductive MbVec where
  | add | sub | adds | subs | maxe | mine | and | or | xor
  | mulq | cmulq | cmuljq
deriving DecidableEq, Repr

/-- Packed operations of one source. -/
inductive MbVec1 where
  | negs | abss | conjs | widl | widh
deriving DecidableEq, Repr

/-- Searches. -/
inductive MbSearch where
  | srchi | smax | smin | cmaxm
deriving DecidableEq, Repr

/-- The addressing of an MB-DSP load or store: pointer plus offset, post-increment by an immediate or a modifier, or
circular. -/
abbrev MbMode := AddrMode

/-- An MB-DSP operation of the classes that R198 puts on the native datapath, decoded. D, P, M, A and V registers are named
by their numbers. -/
inductive MbOp where
  | alu (f : MbAlu) (d s t : BitVec 4)
  | aluImm (f : MbAlu) (d s : BitVec 4) (imm : BitVec 16)
  /-- a shift by a register count: MD5 -/
  | shift (d s t : BitVec 4)
  | shiftImm (right arith : Bool) (d s : BitVec 4) (n : BitVec 5)
  | loadHalf (keep : Bool) (d : BitVec 4) (imm : BitVec 16) (high : Bool)
  | toPointer (p : BitVec 3) (s : BitVec 4)
  | fromPointer (d : BitVec 4) (p : BitVec 3)
  | toModifier (m : BitVec 3) (s : BitVec 4)
  | branch (c : MbCond) (s t : BitVec 4) (off : BitVec 16)
  | jump (off : BitVec 26) (link : Option (BitVec 4))
  | jumpReg (s : BitVec 4) (link : Option (BitVec 4))
  /-- a load or store of 2^sz bytes, sz below 3 -/
  | load (sz : BitVec 2) (signed : Bool) (d : BitVec 4) (p : BitVec 3) (mode : MbMode)
  | store (sz : BitVec 2) (s : BitVec 4) (p : BitVec 3) (mode : MbMode)
  | loadVec (t : ElemType) (v : BitVec 5) (p : BitVec 3) (mode : MbMode)
  | storeVec (t : ElemType) (v : BitVec 5) (p : BitVec 3) (mode : MbMode)
  /-- fractional multiply (`fresh`: the accumulators start at 0) and multiply-accumulate -/
  | macr (fresh sub : Bool) (s t : BitVec 4)
  | cmac (fresh conj pair : Bool) (s t : BitVec 4)
  | vmacr (s u : BitVec 5)
  | vcmac (conj pair : Bool) (s u : BitVec 5)
  | accZero (mask : BitVec 4)
  | accRead (d : BitVec 4) (k : BitVec 2)
  | accWrite (k : BitVec 2) (s : BitVec 4)
  /-- the accumulator stores; `trunc` where the operation itself names truncation (MD3) -/
  | accStore (d : BitVec 4) (k : BitVec 2) (n : BitVec 5) (wide trunc : Bool)
  | cAccStore (d : BitVec 4) (pair : Bool) (n : BitVec 5) (trunc : Bool)
  | vec (f : MbVec) (t : ElemType) (d s u : BitVec 5) (trunc : Bool)
  | vec1 (f : MbVec1) (t : ElemType) (d s : BitVec 5)
  | vecShift (left : Bool) (t : ElemType) (d s : BitVec 5) (n : BitVec 5) (trunc : Bool)
  | vecNarrow (d s u : BitVec 5) (n : BitVec 5) (trunc : Bool)
  | norm (t : ElemType) (d : BitVec 4) (s : BitVec 5)
  | search (f : MbSearch) (s : BitVec 4)
  | vecSearch (f : MbSearch) (s : BitVec 5)
  | searchRead (which : BitVec 2) (d : BitVec 4)
  | searchWrite (which : BitVec 2) (s : BitVec 4)
  | statusRead (d : BitVec 4)
  /-- a read of MB_GQSR (R214) -/
  | gqsrRead (d : BitVec 4)
  | nop
deriving DecidableEq, Repr

/-- A Gusset operation of an MB-DSP command (R207, R212), its registers and the vector register that GMOVT names. -/
inductive MbGusset where
  | movt (q : BitVec 4) (v : BitVec 5) (row : BitVec 2)
  | mul (d a b : BitVec 4)
  | mulh (d a b : BitVec 4)
  | mulbh (d a b : BitVec 4)
  | mac (d a b : BitVec 4)
  | msu (d a b : BitVec 4)
  | add (d a b : BitVec 4)
  | sub (d a b : BitVec 4)
  | herm (d a : BitVec 4)
  | zero (d : BitVec 4)
  | shr (d a count : BitVec 4)
deriving DecidableEq, Repr

/-- A command that the accelerator command translator finds in an MB-416 ring (R628, R629): opcode, priority, the number
that the job carries, its queues and counts, ARGS, and the addresses in them as (word, lowest bit, MB address). -/
structure MbCommand where
  opcode : Nat
  priority : Nat
  number : Nat
  inQueue : Nat
  inCount : Nat
  outQueue : Nat
  outCount : Nat
  size : Nat
  args : List Word
  addrs : List (Nat × Nat × Nat)
deriving DecidableEq, Repr

/-- What a host access goes through: a function's BAR0 or BAR2 (R492, R619), or, of its configuration space as PCIe defines it,
the Message Control word of the MSI-X capability (R503) or the header (R492, R618). -/
inductive HostWindow where
  | bar0 | bar2 | msixControl | header
deriving DecidableEq, Repr

end Sys2Proof
end

