-- ==== Sys2Proof/Syntax.lean ====
section
/-!
DEFINITION. The commands of the block: one constructor for each row of spec/opcode_table.json. A row states no operands;
a constructor's operands are what arrives with the command (who sends it, which unit or register it names, the value
it carries) and, for a happening outside the die, what is measured there.
-/

namespace Sys2Proof

/-- The commands. -/
inductive Instr where
  /-- REGISTER_WRITE (R30). A write of `width` bytes at a device address, or at an offset of the page of a function. -/
  | registerWrite (requester : Nat) (page : Option Nat) (address width : Nat) (value : Word)
  /-- REGISTER_LOW_HALF_READ (R30). A 32-bit read of the low half of the 64-bit register at an address. -/
  | registerLowHalfRead (requester : Nat) (page : Option Nat) (address : Nat)
  /-- REGISTER_HIGH_HALF_READ (R30). A 32-bit read of the high half of the 64-bit register at an address. -/
  | registerHighHalfRead (requester : Nat) (page : Option Nat) (address : Nat)
  /-- RC_REGISTER_READ (R3). A read of a register of its own width. -/
  | rcRegisterRead (requester : Nat) (page : Option Nat) (address width : Nat)
  /-- PART_CREATE (R21). PART.COMMAND 1. -/
  | partCreate (session part : Nat)
  /-- PART_START (R21). PART.COMMAND 2. -/
  | partStart (session part : Nat)
  /-- PART_UNITS_READY (R21). Every unit of a partition in STARTING is ready. -/
  | partUnitsReady (part : Nat)
  /-- PART_STOP (R21). PART.COMMAND 3. -/
  | partStop (session part : Nat)
  /-- PART_DRAIN_DONE (R21). Every job of a partition in DRAINING has completed. -/
  | partDrainDone (part : Nat)
  /-- PART_DELETE (R21). PART.COMMAND 4. -/
  | partDelete (session part : Nat)
  /-- PARTITION_RESET (R25). A partition reset. -/
  | partitionReset (part : Nat)
  /-- STITCH_TRANSFER (R38). The islands at the stitch; the errors that the copies of the route codeword and the payload codewords pick up; the requests, and the answers, that wait there beside the queue traffic. -/
  | stitchTransfer (sender receiver : Nat) (routeA routeB : BitVec 80) (errors : List (BitVec 80)) (requests answers : List LooseFlit)
  /-- CLOCK_FLOOR (R37). The island's frequency, averaged over 64 periods, is mhz. -/
  | clockFloor (island mhz : Nat)
  /-- QUEUE_ENTRY_LAND (R46). The oldest flit on its way from the unit to the queue lands. -/
  | queueEntryLand (queue unit : Nat)
  /-- QUEUE_POP_REQUEST (R46). The unit asks for the head entry, under an epoch. -/
  | queuePopRequest (queue : Nat) (unit : Requester)
  /-- CREDIT_REQUEST (R48). The port's request reaches the queue manager. -/
  | creditRequest (queue unit : Nat)
  /-- CREDIT_GRANT_ARRIVE (R47). The oldest grant on its way to the port arrives. -/
  | creditGrantArrive (queue unit : Nat)
  /-- QUEUE_STALL (R50). The port has waited longer than the limit. -/
  | queueStall (queue unit : Nat)
  /-- QUEUE_ENABLE (R61). A QM_QCFG write with ENABLE 1. -/
  | queueEnable (requester queue depthLog grantLog consumer : Nat)
  /-- QUEUE_DISABLE (R61). A QM_QCFG write with ENABLE 0. -/
  | queueDisable (requester queue depthLog grantLog consumer : Nat)
  /-- QUEUE_DRAIN_MARK (R61). The port's drain mark arrives. -/
  | queueDrainMark (queue unit : Nat)
  /-- DRAIN_MARK_RESEND (R61). The port's mark has gone 10 µs without acknowledgement. -/
  | drainMarkResend (queue unit : Nat)
  /-- TB_STEP (R67). The unit that writes TB_STEP, and DELTA. -/
  | tbStep (requester : Nat) (delta : Word)
  /-- SYNC_SOURCE_VALID (R70). The count minus the source's time, in ticks. -/
  | syncSourceValid (error : Int)
  /-- SYNC_SOURCE_LOST (R70). The servo finds the source lost. -/
  | syncSourceLost
  /-- SYNC_LOCKED (R70). The servo has found the phase within 100 ns for 60 s. -/
  | syncLocked
  /-- HOLDOVER_EXPIRED (R70). HOLDOVER has lasted its limit. -/
  | holdoverExpired
  /-- HOST_STATE_WRITE (R72). The value host software of PF0 reports. -/
  | hostStateWrite (value : Nat)
  /-- HOST_STATE_TIMEOUT (R72). 2 s have passed without a report. -/
  | hostStateTimeout
  /-- DEFERRED_STEP (R73). The count minus the source's time, in ticks, when the step is made. -/
  | deferredStep (error : Int)
  /-- SYSREF_LOST (R75). 50 ns without an edge. -/
  | sysrefLost
  /-- SYSREF_RETURN (R75). The system reference has edges again. -/
  | sysrefReturn
  /-- PPS_OUT_EDGE (R77). PPS_OUT follows the count. -/
  | ppsOutEdge
  /-- PPS_IN_EDGE (R77). Sixteenths of a tick after the present count. -/
  | ppsInEdge (sub : Nat)
  /-- PPS_IN_LOST (R77). 1.1 s without an edge. -/
  | ppsInLost
  /-- TOD_RX_MESSAGE (R78). The bytes received on TOD_RX. -/
  | todRxMessage (message : List Byte)
  /-- TOD_TX_MESSAGE (R78). The die sends its message on TOD_TX. -/
  | todTxMessage
  /-- CARRIER_TIMER_CONFIG (R81). Register 0 is TM_CAR_CFG, 1 TM_CAR_OFFSET. -/
  | carrierTimerConfig (requester carrier register : Nat) (value : Half)
  /-- CARRIER_TIMER_START (R81). A frame boundary of the carrier timer. -/
  | carrierTimerStart (carrier : Nat)
  /-- CARRIER_SLOT_START (R80). A slot start of the carrier timer. -/
  | carrierSlotStart (carrier : Nat)
  /-- COMPARATOR_ARM (R85). The TM_CMP_CTRL value written, its ARM bit 1. -/
  | comparatorArm (requester comparator : Nat) (control : Half)
  /-- COMPARATOR_WRITE (R85). Register 0 MATCH, 1 PERIOD, 2 SEL, 3 OFFSET, 4 TM_CMP_CTRL with ARM 0. -/
  | comparatorWrite (requester comparator register : Nat) (value : Word)
  /-- COMPARATOR_FIRE (R84). The timing island issues the next fire that is due. -/
  | comparatorFire
  /-- DESCRIPTOR_STAGE (R87). The next submission queue's descriptor is popped. -/
  | descriptorStage
  /-- SHUTTLE_TRIGGER_FIRE (R96). The oldest trigger flit for the Shuttle is processed. -/
  | shuttleTriggerFire
  /-- SH_TRIGGER_WRITE (R96). A write of SH_TRIGGER of partition p. -/
  | shTriggerWrite (requester p : Nat) (value : Half)
  /-- SH_CANCEL (R112). A write of SH_CANCEL of partition p. -/
  | shCancel (requester p : Nat) (value : Word)
  /-- JOB_CANCEL (R112). The oldest cancellation takes effect. -/
  | jobCancel
  /-- JOB_DISPATCH (R99). The job that comes first is dispatched. -/
  | jobDispatch
  /-- JOB_LATE_CHECK (R104). The late policy of a job is applied. -/
  | jobLateCheck (job : Nat)
  /-- JOB_COMPLETION_REPORT (R106). The oldest report is processed. -/
  | jobCompletionReport
  /-- COMPLETION_RECORD_PUSH (R111). The next completion record is pushed. -/
  | completionRecordPush
  /-- SQ_ENABLE (R118). A write of SH_SQ_CFG of queue index p × 16 + s with ENABLE 1. -/
  | sqEnable (requester index : Nat) (value : Word)
  /-- SQ_DISABLE (R118). A write of SH_SQ_CFG with ENABLE 0. -/
  | sqDisable (requester index : Nat) (value : Word)
  /-- FORECAST_SEND (R113). NEXT_USE of an island goes to the power manager. -/
  | forecastSend (island : Nat)
  /-- OFFER_SEND (R114). The first offerable job goes to the peers. -/
  | offerSend
  /-- OFFER_RECEIVE (R376). The oldest offer that has arrived is taken. -/
  | offerReceive
  /-- OFFER_ACCEPT (R115). The oldest acceptance that has arrived is processed. -/
  | offerAccept
  /-- OFFER_TIMEOUT (R115). Offers and reservations whose time has passed end. -/
  | offerTimeout
  /-- OFFER_ADVERTISE (R376). Spare capacity is advertised. -/
  | offerAdvertise
  /-- NOP (R183). The logical global engine that executes it. -/
  | iNop (engine : Nat)
  /-- FENCE (R134). -/
  | iFence (engine : Nat)
  /-- ERET (R145). -/
  | iEret (engine : Nat)
  /-- BREAK (R144). -/
  | iBreak (engine : Nat)
  /-- SIGNAL (R154). -/
  | iSignal (engine : Nat)
  /-- WAITJOB (R153). -/
  | iWaitjob (engine : Nat)
  /-- EXIT (R150). -/
  | iExit (engine : Nat) (gs : BitVec 5)
  /-- MFS (R126). -/
  | iMfs (engine : Nat) (gd sr : BitVec 5)
  /-- MTS (R126). -/
  | iMts (engine : Nat) (sr gs : BitVec 5)
  /-- ADD (R184). -/
  | iAdd (engine : Nat) (gd gs gt : BitVec 5)
  /-- SUB (R184). -/
  | iSub (engine : Nat) (gd gs gt : BitVec 5)
  /-- AND (R184). -/
  | iAnd (engine : Nat) (gd gs gt : BitVec 5)
  /-- OR (R184). -/
  | iOr (engine : Nat) (gd gs gt : BitVec 5)
  /-- XOR (R184). -/
  | iXor (engine : Nat) (gd gs gt : BitVec 5)
  /-- SLL (R184). -/
  | iSll (engine : Nat) (gd gs gt : BitVec 5)
  /-- SRL (R184). -/
  | iSrl (engine : Nat) (gd gs gt : BitVec 5)
  /-- SRA (R184). -/
  | iSra (engine : Nat) (gd gs gt : BitVec 5)
  /-- SLT (R184). -/
  | iSlt (engine : Nat) (gd gs gt : BitVec 5)
  /-- SLTU (R184). -/
  | iSltu (engine : Nat) (gd gs gt : BitVec 5)
  /-- MIN (R184). -/
  | iMin (engine : Nat) (gd gs gt : BitVec 5)
  /-- MAX (R184). -/
  | iMax (engine : Nat) (gd gs gt : BitVec 5)
  /-- MINU (R184). -/
  | iMinu (engine : Nat) (gd gs gt : BitVec 5)
  /-- MAXU (R184). -/
  | iMaxu (engine : Nat) (gd gs gt : BitVec 5)
  /-- MUL (R184). -/
  | iMul (engine : Nat) (gd gs gt : BitVec 5)
  /-- MULH (R184). -/
  | iMulh (engine : Nat) (gd gs gt : BitVec 5)
  /-- MULHU (R184). -/
  | iMulhu (engine : Nat) (gd gs gt : BitVec 5)
  /-- ADDI (R185). -/
  | iAddi (engine : Nat) (gd gs : BitVec 5) (imm : BitVec 16)
  /-- ANDI (R185). -/
  | iAndi (engine : Nat) (gd gs : BitVec 5) (imm : BitVec 16)
  /-- ORI (R185). -/
  | iOri (engine : Nat) (gd gs : BitVec 5) (imm : BitVec 16)
  /-- XORI (R185). -/
  | iXori (engine : Nat) (gd gs : BitVec 5) (imm : BitVec 16)
  /-- SLTI (R185). -/
  | iSlti (engine : Nat) (gd gs : BitVec 5) (imm : BitVec 16)
  /-- SLTIU (R185). -/
  | iSltiu (engine : Nat) (gd gs : BitVec 5) (imm : BitVec 16)
  /-- SLLI (R185). -/
  | iSlli (engine : Nat) (gd gs : BitVec 5) (count : BitVec 6)
  /-- SRLI (R185). -/
  | iSrli (engine : Nat) (gd gs : BitVec 5) (count : BitVec 6)
  /-- SRAI (R185). -/
  | iSrai (engine : Nat) (gd gs : BitVec 5) (count : BitVec 6)
  /-- LIS (R185). -/
  | iLis (engine : Nat) (gd : BitVec 5) (imm : BitVec 16) (hw : BitVec 2)
  /-- LIK (R185). -/
  | iLik (engine : Nat) (gd : BitVec 5) (imm : BitVec 16) (hw : BitVec 2)
  /-- BEQ (R186). -/
  | iBeq (engine : Nat) (gs gt : BitVec 5) (off : BitVec 16)
  /-- BNE (R186). -/
  | iBne (engine : Nat) (gs gt : BitVec 5) (off : BitVec 16)
  /-- BLT (R186). -/
  | iBlt (engine : Nat) (gs gt : BitVec 5) (off : BitVec 16)
  /-- BGE (R186). -/
  | iBge (engine : Nat) (gs gt : BitVec 5) (off : BitVec 16)
  /-- BLTU (R186). -/
  | iBltu (engine : Nat) (gs gt : BitVec 5) (off : BitVec 16)
  /-- BGEU (R186). -/
  | iBgeu (engine : Nat) (gs gt : BitVec 5) (off : BitVec 16)
  /-- J (R186). -/
  | iJ (engine : Nat) (off : BitVec 26)
  /-- JAL (R186). -/
  | iJal (engine : Nat) (off : BitVec 26)
  /-- JR (R186). -/
  | iJr (engine : Nat) (gs : BitVec 5)
  /-- JALR (R186). -/
  | iJalr (engine : Nat) (gd gs : BitVec 5)
  /-- LD (R187). Of 2^sz bytes. -/
  | iLd (engine : Nat) (sz : BitVec 2) (gd gb : BitVec 5) (mode : AddrMode)
  /-- LDU (R187). Of 2^sz bytes. -/
  | iLdu (engine : Nat) (sz : BitVec 2) (gd gb : BitVec 5) (mode : AddrMode)
  /-- ST (R187). Of 2^sz bytes. -/
  | iSt (engine : Nat) (sz : BitVec 2) (gs gb : BitVec 5) (mode : AddrMode)
  /-- PUSH (R143). -/
  | iPush (engine : Nat) (gq gb : BitVec 5) (mode : AddrMode)
  /-- POP (R143). -/
  | iPop (engine : Nat) (gd gb : BitVec 5) (mode : AddrMode)
  /-- POPW (R143). -/
  | iPopw (engine : Nat) (gq gb : BitVec 5) (mode : AddrMode)
  /-- MACR (R139). -/
  | iMacr (engine : Nat) (gs gt : BitVec 5)
  /-- MSUR (R139). -/
  | iMsur (engine : Nat) (gs gt : BitVec 5)
  /-- CMAC (R139). -/
  | iCmac (engine : Nat) (pair : Bool) (gs gt : BitVec 5)
  /-- CMACJ (R139). -/
  | iCmacj (engine : Nat) (pair : Bool) (gs gt : BitVec 5)
  /-- ACCZ (R139). -/
  | iAccz (engine : Nat) (mask : BitVec 4)
  /-- ACCX (R140). w is 32 where wide, else 16. -/
  | iAccx (engine : Nat) (gd : BitVec 5) (k : BitVec 2) (n : BitVec 5) (wide : Bool)
  /-- CACCX (R140). -/
  | iCaccx (engine : Nat) (gd : BitVec 5) (pair : Bool) (n : BitVec 5)
  /-- ACCR (R188). -/
  | iAccr (engine : Nat) (gd : BitVec 5) (k : BitVec 2)
  /-- ACCW (R188). -/
  | iAccw (engine : Nat) (k : BitVec 2) (gs : BitVec 5)
  /-- SRCHI (R141). -/
  | iSrchi (engine : Nat) (gs : BitVec 5)
  /-- SMAX (R141). -/
  | iSmax (engine : Nat) (gs : BitVec 5)
  /-- SMIN (R141). -/
  | iSmin (engine : Nat) (gs : BitVec 5)
  /-- CMAXM (R141). -/
  | iCmaxm (engine : Nat) (gs : BitVec 5)
  /-- VADD (R169). -/
  | iVadd (engine : Nat) (t : ElemType) (vd vs vt : BitVec 5)
  /-- VSUB (R169). -/
  | iVsub (engine : Nat) (t : ElemType) (vd vs vt : BitVec 5)
  /-- VADDS (R169). -/
  | iVadds (engine : Nat) (t : ElemType) (vd vs vt : BitVec 5)
  /-- VSUBS (R169). -/
  | iVsubs (engine : Nat) (t : ElemType) (vd vs vt : BitVec 5)
  /-- VNEGS (R169). -/
  | iVnegs (engine : Nat) (t : ElemType) (vd vs : BitVec 5)
  /-- VABSS (R169). -/
  | iVabss (engine : Nat) (t : ElemType) (vd vs : BitVec 5)
  /-- VCONJS (R169). -/
  | iVconjs (engine : Nat) (t : ElemType) (vd vs : BitVec 5)
  /-- VMAXE (R169). -/
  | iVmaxe (engine : Nat) (t : ElemType) (vd vs vt : BitVec 5)
  /-- VMINE (R169). -/
  | iVmine (engine : Nat) (t : ElemType) (vd vs vt : BitVec 5)
  /-- VAND (R169). -/
  | iVand (engine : Nat) (t : ElemType) (vd vs vt : BitVec 5)
  /-- VOR (R169). -/
  | iVor (engine : Nat) (t : ElemType) (vd vs vt : BitVec 5)
  /-- VXOR (R169). -/
  | iVxor (engine : Nat) (t : ElemType) (vd vs vt : BitVec 5)
  /-- VSHRR (R169). -/
  | iVshrr (engine : Nat) (t : ElemType) (vd vs count : BitVec 5)
  /-- VSHLS (R169). -/
  | iVshls (engine : Nat) (t : ElemType) (vd vs count : BitVec 5)
  /-- VPERM (R169). -/
  | iVperm (engine : Nat) (t : ElemType) (vd vs vt : BitVec 5)
  /-- VMULQ (R169). -/
  | iVmulq (engine : Nat) (t : ElemType) (vd vs vt : BitVec 5)
  /-- VCMULQ (R170). -/
  | iVcmulq (engine : Nat) (t : ElemType) (vd vs vt : BitVec 5)
  /-- VCMULJQ (R170). -/
  | iVcmuljq (engine : Nat) (t : ElemType) (vd vs vt : BitVec 5)
  /-- VMACR (R171). -/
  | iVmacr (engine : Nat) (t : ElemType) (vs vt : BitVec 5)
  /-- VCMAC (R171). -/
  | iVcmac (engine : Nat) (t : ElemType) (pair : Bool) (vs vt : BitVec 5)
  /-- VCMACJ (R171). -/
  | iVcmacj (engine : Nat) (t : ElemType) (pair : Bool) (vs vt : BitVec 5)
  /-- VSMAX (R171). -/
  | iVsmax (engine : Nat) (t : ElemType) (vs : BitVec 5)
  /-- VSMIN (R171). -/
  | iVsmin (engine : Nat) (t : ElemType) (vs : BitVec 5)
  /-- VCMAXM (R171). -/
  | iVcmaxm (engine : Nat) (t : ElemType) (vs : BitVec 5)
  /-- VEXP (R171). -/
  | iVexp (engine : Nat) (t : ElemType) (gd vs : BitVec 5)
  /-- VSPLAT (R169). -/
  | iVsplat (engine : Nat) (t : ElemType) (vd gs : BitVec 5)
  /-- VINSR (R169). -/
  | iVinsr (engine : Nat) (t : ElemType) (vd gs k : BitVec 5)
  /-- VEXTR (R169). -/
  | iVextr (engine : Nat) (t : ElemType) (gd vs k : BitVec 5)
  /-- VWIDL (R169). -/
  | iVwidl (engine : Nat) (t : ElemType) (vd vs : BitVec 5)
  /-- VWIDH (R169). -/
  | iVwidh (engine : Nat) (t : ElemType) (vd vs : BitVec 5)
  /-- SETVL (R164). -/
  | iSetvl (engine : Nat) (t : ElemType) (gd gs : BitVec 5)
  /-- VNARW (R169). -/
  | iVnarw (engine : Nat) (t : ElemType) (vd vs vt count : BitVec 5)
  /-- VLD (R172). -/
  | iVld (engine : Nat) (t : ElemType) (vd gb : BitVec 5) (mode : AddrMode)
  /-- VST (R172). -/
  | iVst (engine : Nat) (t : ElemType) (vd gb : BitVec 5) (mode : AddrMode)
  /-- VLDFF (R175). -/
  | iVldff (engine : Nat) (t : ElemType) (vd gb : BitVec 5) (mode : AddrMode)
  /-- VLDS (R172). -/
  | iVlds (engine : Nat) (t : ElemType) (vd gb : BitVec 5) (k : BitVec 3)
  /-- VSTS (R172). -/
  | iVsts (engine : Nat) (t : ElemType) (vd gb : BitVec 5) (k : BitVec 3)
  /-- VGATHER (R172). -/
  | iVgather (engine : Nat) (t : ElemType) (vd gb vi : BitVec 5) (sc : BitVec 3)
  /-- VSCATTER (R173). -/
  | iVscatter (engine : Nat) (t : ElemType) (vd gb vi : BitVec 5) (sc : BitVec 3)
  /-- VGATHERFF (R175). -/
  | iVgatherff (engine : Nat) (t : ElemType) (vd gb vi : BitVec 5) (sc : BitVec 3)
  /-- GMOVT (R207). -/
  | iGmovt (engine : Nat) (qd : BitVec 4) (vs : BitVec 5) (row : BitVec 2)
  /-- GMOVF (R207). -/
  | iGmovf (engine : Nat) (vd : BitVec 5) (qs : BitVec 4) (row : BitVec 2)
  /-- GMUL (R207). -/
  | iGmul (engine : Nat) (qd qa qb : BitVec 4)
  /-- GMULH (R207). -/
  | iGmulh (engine : Nat) (qd qa qb : BitVec 4)
  /-- GMULBH (R207). -/
  | iGmulbh (engine : Nat) (qd qa qb : BitVec 4)
  /-- GMAC (R207). -/
  | iGmac (engine : Nat) (qd qa qb : BitVec 4)
  /-- GMSU (R207). -/
  | iGmsu (engine : Nat) (qd qa qb : BitVec 4)
  /-- GADD (R207). -/
  | iGadd (engine : Nat) (qd qa qb : BitVec 4)
  /-- GSUB (R207). -/
  | iGsub (engine : Nat) (qd qa qb : BitVec 4)
  /-- GHERM (R207). -/
  | iGherm (engine : Nat) (qd qa : BitVec 4)
  /-- GZERO (R207). -/
  | iGzero (engine : Nat) (qd : BitVec 4)
  /-- GSHR (R207). -/
  | iGshr (engine : Nat) (qd qa count : BitVec 4)
  /-- GSTAT (R211). -/
  | iGstat (engine : Nat) (gd : BitVec 5)
  /-- GUSSET_ACCEPT (R204). One panel cycle of the Gusset's arbitration. -/
  | gussetAccept (gusset : Nat)
  /-- GUSSET_BEGIN (R206). The bank whose next instruction begins; the register-file words (register × 8 + word) that read corrected, and whether one was uncorrectable. -/
  | gussetBegin (gusset bank : Nat) (corrected : List Nat) (uncorrectable : Bool)
  /-- GUSSET_COMMIT (R209). The bank, and which of its uncommitted instructions, oldest first, commits. -/
  | gussetCommit (gusset : Nat) (work : BankWork)
  /-- GUSSET_SRESET (R216). A GUS_CTRL write with SRESET 1. -/
  | gussetSreset (requester gusset : Nat) (control : Half)
  /-- ENG_SRESET (R155). The value written to ENG_CTRL, its SRESET bit 1. -/
  | engSreset (requester engine : Nat) (control : Half)
  /-- ENG_GO (R155). The value written to ENG_CTRL, its GO bit 1. -/
  | engGo (requester engine : Nat) (control : Half)
  /-- ENG_OPEN (R155). The value written to ENG_CTRL, its OPEN bit 1. -/
  | engOpen (requester engine : Nat) (control : Half)
  /-- ENG_HALT_REQ (R155). The value written to ENG_CTRL, its HALT_REQ bit 1. -/
  | engHaltReq (requester engine : Nat) (control : Half)
  /-- ENGINE_JOB_LATE_SIGNAL (R151). The engine whose job the Shuttle has abandoned. -/
  | engineJobLateSignal (engine : Nat)
  /-- LATE_JOB_STOP (R151). 1,024 cycles have passed since its job-late signal. -/
  | lateJobStop (engine : Nat)
  /-- ENGINE_EVENT_DELIVER (R154). The oldest event on its way to an engine. -/
  | engineEventDeliver
  /-- MB_DSP_OPERATION (R198). An MB-DSP operation of R198, decoded. -/
  | mbDspOperation (engine : Nat) (op : MbOp)
  /-- MB_STATUS_WRITE (R197). A write of MB_SR from a D register. -/
  | mbStatusWrite (engine : Nat) (source : BitVec 4)
  /-- MB_GUSSET_COMMAND (R212). A tagged Gusset command. -/
  | mbGussetCommand (engine : Nat) (tag : BitVec 4) (op : MbGusset)
  /-- MB_GUSSET_READ (R213). A Gusset row moves to a vector register; the row as the register file gives it. -/
  | mbGussetRead (engine : Nat) (vd : BitVec 5) (qs : BitVec 4) (read : RowRead)
  /-- MB_SEND_MESSAGE (R626). A message of 32 bytes in memory goes to an inbox of a core. -/
  | mbSendMessage (engine : Nat) (core : BitVec 6) (inbox : BitVec 2) (p : BitVec 3) (mode : MbMode)
  /-- MB_RECEIVE_MESSAGE (R626). A message of the core's own inbox: blocking where no result register is named. -/
  | mbReceiveMessage (engine : Nat) (inbox : BitVec 2) (result : Option (BitVec 4)) (p : BitVec 3) (mode : MbMode)
  /-- MB_RAISE_HOST_INTERRUPT (R626). SIGNAL. -/
  | mbRaiseHostInterrupt (engine : Nat)
  /-- MB_HALT (R626). WAITJOB. -/
  | mbHalt (engine : Nat)
  /-- MB_READ_CYCLE_COUNTER (R626). Elapsed time at 1 GHz into a D register. -/
  | mbReadCycleCounter (engine : Nat) (d : BitVec 4)
  /-- LDPC_DECODE (R233). The instance that runs the job. -/
  | ldpcDecode (unit : Nat)
  /-- LDPC_ENCODE (R248). The instance that runs the job. -/
  | ldpcEncode (unit : Nat)
  /-- TURBO_DECODE (R249). The instance that runs the job. -/
  | turboDecode (unit : Nat)
  /-- POLAR_DECODE (R252). The instance that runs the job. -/
  | polarDecode (unit : Nat)
  /-- POLAR_ENCODE (R252). The instance that runs the job. -/
  | polarEncode (unit : Nat)
  /-- TBCC_DECODE (R252). The instance that runs the job. -/
  | tbccDecode (unit : Nat)
  /-- TBCC_ENCODE (R251). The instance that runs the job. -/
  | tbccEncode (unit : Nat)
  /-- TB_SEGMENT (R246). The instance that runs the job. -/
  | tbSegment (unit : Nat)
  /-- TB_ASSEMBLE (R247). The instance that runs the job. -/
  | tbAssemble (unit : Nat)
  /-- LDPC_RATE_MATCH (R244). The instance that runs the job. -/
  | ldpcRateMatch (unit : Nat)
  /-- LDPC_RATE_RECOVER (R243). The instance that runs the job. -/
  | ldpcRateRecover (unit : Nat)
  /-- TURBO_ENCODE (R250). The instance that runs the job. -/
  | turboEncode (unit : Nat)
  /-- TURBO_RATE_MATCH (R244). The instance that runs the job. -/
  | turboRateMatch (unit : Nat)
  /-- TURBO_RATE_RECOVER (R243). The instance that runs the job. -/
  | turboRateRecover (unit : Nat)
  /-- CHEST (R264). The instance that runs the job. -/
  | chest (unit : Nat)
  /-- EQ_WEIGHTS (R266). The instance that runs the job. -/
  | eqWeights (unit : Nat)
  /-- BF_WEIGHTS (R277). The instance that runs the job. -/
  | bfWeights (unit : Nat)
  /-- WEIGHT_APPLY (R278). The instance that runs the job. -/
  | weightApply (unit : Nat)
  /-- EQ_APPLY (R268). The instance that runs the job. -/
  | eqApply (unit : Nat)
  /-- JM_STATS (R279). The instance that runs the job. -/
  | jmStats (unit : Nat)
  /-- JM_SOLVE (R279). The instance that runs the job. -/
  | jmSolve (unit : Nat)
  /-- SOFT_DEMAP (R274). The instance that runs the job. -/
  | softDemap (unit : Nat)
  /-- MOD_MAP (R276). The instance that runs the job. -/
  | modMap (unit : Nat)
  /-- FFT (R298). The instance that runs the job. -/
  | fft (unit : Nat)
  /-- IFFT (R298). The instance that runs the job. -/
  | ifft (unit : Nat)
  /-- PRACH_DETECT (R297). The chain that runs the job. -/
  | prachDetect (chain : Nat)
  /-- SEQ_DETECT (R297). The chain that runs the job. -/
  | seqDetect (chain : Nat)
  /-- PATCH_JOB (R465). A patch's job is delivered to its logic. -/
  | patchJob (patch : Nat)
  /-- PATCH_JOB_END (R465). The logic has pushed its output entries and ends its job. -/
  | patchJobEnd (patch code : Nat) (result : Half) (ext : Word) (outputs : List (List Word))
  /-- PATCH_JOB_LATE_TIMEOUT (R465). The limit after the job-late signal has passed. -/
  | patchJobLateTimeout (patch : Nat)
  /-- ACC_SRESET (R255). The value written to the instance's control register, its SRESET bit 1. -/
  | accSreset (requester unit : Nat) (control : Half)
  /-- HEM_INTAKE_ENTRY (R289). The chain takes the entry at the head of its intake queue. -/
  | hemIntakeEntry (chain : Nat)
  /-- HEM_WINDOW_PROCESS (R290). A stream's next window is complete; fft is the reserved instance that takes it. -/
  | hemWindowProcess (chain stream fft : Nat)
  /-- HEM_WINDOW_MISSING (R291). A stream's next window has come to its budget. -/
  | hemWindowMissing (chain stream : Nat)
  /-- HEM_TRANSMIT_REQUEST (R293). The chain takes the transmit request at the head of its intake queue. -/
  | hemTransmitRequest (chain : Nat)
  /-- HEM_SGAIN_WRITE (R295). A write of HEM_SGAIN. -/
  | hemSgainWrite (requester chain stream : Nat) (value : Half)
  /-- HEM_STREAM_ENABLE (R299). A write of HEM_SCFG with ENABLE 1. -/
  | hemStreamEnable (requester chain stream : Nat) (config : Half)
  /-- HEM_STREAM_DISABLE (R299). A write of HEM_SCFG with ENABLE 0. -/
  | hemStreamDisable (requester chain stream : Nat) (config : Half)
  /-- HEM_SRESET (R299). A write of HEM_CTRL with SRESET 1. -/
  | hemSreset (requester chain : Nat) (control : Half)
  /-- LANE_ENABLE (R322). A write of LANE_CTRL with ENABLE 1. -/
  | laneEnable (requester lane : Nat) (control : Half)
  /-- LANE_DISABLE (R306). A write of LANE_CTRL with ENABLE 0. -/
  | laneDisable (requester lane : Nat) (control : Half)
  /-- LANE_CAL_DONE (R306). The lane has calibrated. -/
  | laneCalDone (lane : Nat)
  /-- LANE_ADAPT_DONE (R306). The receiver has adapted; eye is the opening it measures, in mV. -/
  | laneAdaptDone (lane eye : Nat)
  /-- TRAINING_REQUEST_ACCEPT (R310). Training frames received one after the other, each with its control and status field. -/
  | trainingRequestAccept (lane : Nat) (frames : List (BitVec 16 × BitVec 16))
  /-- LANE_TRAINING_DONE (R311). This end has sent RX_READY in three frames. -/
  | laneTrainingDone (lane : Nat)
  /-- LANE_TRAIN_TIMEOUT (R311). Training has come to its limit. -/
  | laneTrainTimeout (lane : Nat)
  /-- LANE_FAILED_RETRY (R306). The second after FAILED is over. -/
  | laneFailedRetry (lane : Nat)
  /-- LANE_ALIGNED (R312, R313). What the lane in ALIGNING receives next. -/
  | laneAligned (received : LaneInput)
  /-- LANE_ALIGN_LOST (R312 to R314). What an aligned lane receives next. -/
  | laneAlignLost (received : LaneInput)
  /-- LANE_LOS (R306). The input has been below the threshold for 1 µs. -/
  | laneLos (lane : Nat)
  /-- LANE_SIGNAL_RETURN (R306). The signal is back. -/
  | laneSignalReturn (lane : Nat)
  /-- LANE_RETRAIN (R322). A write of LANE_CTRL with RETRAIN 1. -/
  | laneRetrain (requester lane : Nat) (control : Half)
  /-- PLL_ENABLE (R321). A write of LQ_PLL_A or LQ_PLL_B with ENABLE 1. -/
  | pllEnable (requester quad : Nat) (pllB : Bool) (value : Half)
  /-- PLL_LOCK_LOST (R321). The PLL has lost lock. -/
  | pllLockLost (quad : Nat) (pllB : Bool)
  /-- LOOPBACK_SLIP (R315). By how many words a far-end loop has received more than it has sent. -/
  | loopbackSlip (drift : LoopDrift)
  /-- CHECKER_LOCK (R316). The bits that arrive at a lane in TEST next, the first first; in a near-end loop the number of bits
  that its own generator sends, and the bits that the analog path inverts. -/
  | checkerLock (lane : Nat) (arriving : List Bool) (looped : Nat) (inverted : List Bool)
  /-- LANE_INJECT (R316). A write of LANE_TEST with INJECT 1. -/
  | laneInject (requester lane : Nat) (value : Half)
  /-- LANE_POWER_REQUEST (R318). A write of LANE_CTRL; frozen says that a request for ACTIVE came after the driver had idled or the receiver had frozen. -/
  | lanePowerRequest (requester lane : Nat) (control : Half) (frozen : Bool)
  /-- LANE_POWER_WAKE_DONE (R317). A direction has woken. -/
  | lanePowerWakeDone (lane : Nat) (transmit : Bool)
  /-- LANE_RETIRE (R319). The health monitor or Thimble firmware retires the lane. -/
  | laneRetire (lane : Nat)
  /-- LANES_RETIRE_COMMAND (R320). The value written to LANES.RETIRE. -/
  | lanesRetireCommand (value : Nat)
  /-- FH_PORT_ENABLE (R326). A write of FH_PORT_CTRL with ENABLE 1. -/
  | fhPortEnable (requester port : Nat) (control : Half)
  /-- FRAME_RECEIVE (R327). An Ethernet frame, at sub Tc after the tick. -/
  | frameReceive (port sub : Nat) (frame : PortFrame)
  /-- UPLINK_SYMBOL_CLOSE (R340). A symbol of the entry closes. -/
  | uplinkSymbolClose (entry : Nat)
  /-- CPLANE_SEND (R329). The entry at the head of TXQ_C comes to its send tick. -/
  | cplaneSend (port : Nat)
  /-- DOWNLINK_REQUEST (R342). A request of TXQ_U is popped. -/
  | downlinkRequest (port : Nat)
  /-- DOWNLINK_SYMBOL_SEND (R342). The port's next downlink symbol comes to its window. -/
  | downlinkSymbolSend (port : Nat)
  /-- ST_WRITE (R336). A write of FH_ST_CMD with OP 1. -/
  | stWrite (requester part index : Nat)
  /-- ST_READ (R336). A write of FH_ST_CMD with OP 2. -/
  | stRead (requester part index : Nat)
  /-- ST_INVALIDATE (R336). A write of FH_ST_CMD with OP 3. -/
  | stInvalidate (requester part index : Nat)
  /-- CPRI_ENABLE (R351). A write of CPRI_CFG with ENABLE 1. -/
  | cpriEnable (requester lane : Nat) (value : Half)
  /-- CPRI_HFSYNC_ACHIEVED (R344). Three hyperframes in a row have started well. -/
  | cpriHfsyncAchieved (lane : Nat)
  /-- CPRI_HFSYNC_LOST (R344). Three hyperframe starts in a row are missing. -/
  | cpriHfsyncLost (lane : Nat)
  /-- CPRI_HYPERFRAME_RX (R345). A hyperframe start is received at sub Tc after the tick. -/
  | cpriHyperframeRx (lane sub hfn bfn : Nat) (rai : Bool)
  /-- CPRI_BASIC_FRAME_RX (R346). A basic frame is received; credit says whether the patch takes entries. -/
  | cpriBasicFrameRx (lane x hfn bfn : Nat) (control iq : List Byte) (credit : Bool)
  /-- CPRI_BASIC_FRAME_TX (R346). A basic frame's send time; its control word and IQ where the patch has supplied them. -/
  | cpriBasicFrameTx (lane : Nat) (supplied : Option (List Byte × List Byte))
  /-- SEAM_LINK_ENABLE (R380). A write of SEAM_LINK_CTRL with ENABLE 1. -/
  | seamLinkEnable (requester link : Nat) (control : Half)
  /-- SEAM_CODEWORD_RECEIVE (R305, R355). A codeword of a lane, with the header blocks it holds and the blocks by which the
  receiver has got ahead of the link layer. -/
  | seamCodewordReceive (place : LinkLane) (errors uncorrectable : Bool) (blocks : CodewordBlocks)
  /-- SEAM_IDENT_RECEIVE (R365). An IDENT block. -/
  | seamIdentReceive (link self boltId peerLink : Nat) (leader : Bool)
  /-- SEAM_UNIT_RECEIVE (R358). A unit, with the errors of its codewords. -/
  | seamUnitReceive (link : Nat) (header : SeamHeader) (unit : SeamUnit) (route : BitVec 80) (errors : List (BitVec 80))
  /-- SEAM_UNIT_SEND (R360). The next unit of a link goes out. -/
  | seamUnitSend (link : Nat)
  /-- SEAM_ACK_SEND (R359). The receiver acknowledges. -/
  | seamAckSend (link : Nat)
  /-- SEAM_ACK_RECEIVE (R359). An ACK block. -/
  | seamAckReceive (link seq : Nat)
  /-- SEAM_NAK_RECEIVE (R359). A NAK block. -/
  | seamNakReceive (link seq : Nat)
  /-- SEAM_NAK_RESEND_TIMEOUT (R359). 2 µs after a NAK. -/
  | seamNakResendTimeout (link : Nat)
  /-- SEAM_REPLAY_TIMEOUT (R359). 2 µs without an acknowledgement. -/
  | seamReplayTimeout (link : Nat)
  /-- SEAM_POWER_RECEIVE (R362). A POWER block. -/
  | seamPowerReceive (link op index : Nat)
  /-- SEAM_LANE_QUIET (R362). An idle lane goes quiet. -/
  | seamLaneQuiet (lane : Nat)
  /-- SEAM_TIME_RECEIVE (R358). A TIME block, and how long it was on its way. -/
  | seamTimeReceive (link tick delay : Nat)
  /-- BOLT_FORM_ALONE (R363). A founder forms a bolt; reachable says that one can be reached. -/
  | boltFormAlone (reachable : Bool)
  /-- BOLT_JOIN (R366). The leader takes the oldest JOIN; most is the members' least MAX_DEVICES. -/
  | boltJoin (nonce : List Byte) (most : Nat)
  /-- BOLT_CHAL (R366). The candidate takes CHAL. -/
  | boltChal
  /-- BOLT_PROOF (R366). The leader takes PROOF; measured is the candidate's tick by its TIME block measurement. -/
  | boltProof (measured : Nat)
  /-- BOLT_ADMIT (R366). The candidate takes ADMIT. -/
  | boltAdmit
  /-- BOLT_REFUSE (R366). REFUSE is taken. -/
  | boltRefuse
  /-- BOLT_ADMISSION_TIMEOUT (R366). Exchanges that have waited 100 ms end. -/
  | boltAdmissionTimeout
  /-- EPOCH_CHANGE_PROPOSE (R367). An epoch change is proposed; the operands say which links are up, what the others allow, and which dies may lead. -/
  | epochChangePropose (links : List (Nat × Nat × Nat)) (rights : List (Nat × Nat × SeamRights)) (eligible : Nat)
  /-- EPOCH_CHANGE_RECEIVE (R367). The oldest CHANGE is taken. -/
  | epochChangeReceive
  /-- EPOCH_CHANGE_DECIDE (R367). The proposer decides, 8,192 ticks before T_E. -/
  | epochChangeDecide
  /-- EPOCH_COMMIT_RECEIVE (R367). The oldest COMMIT is taken. -/
  | epochCommitReceive
  /-- EPOCH_ABANDON_RECEIVE (R367). The oldest ABANDON is taken. -/
  | epochAbandonReceive
  /-- EPOCH_CHANGE_APPLY (R367). T_E has come. -/
  | epochChangeApply
  /-- EPOCH_WINDOW_SWITCH (R367). 8,192 ticks after T_E. -/
  | epochWindowSwitch
  /-- EPOCH_CHANGE_NO_OUTCOME (R367). T_E has come without an outcome. -/
  | epochChangeNoOutcome
  /-- BOLT_HEARTBEAT_SEND (R368). Once per 1,024 ticks. -/
  | boltHeartbeatSend
  /-- BOLT_HEARTBEAT_RECEIVE (R368). The oldest heartbeat, or answer, is taken. -/
  | boltHeartbeatReceive
  /-- BOLT_PEER_LOST (R368). Heartbeats have failed; first says that this die is next to lead. -/
  | boltPeerLost (peer : Nat) (first : Bool)
  /-- BOLT_COMMAND_JOIN (R381). BOLT.COMMAND 1. -/
  | boltCommandJoin (nonce : List Byte)
  /-- BOLT_COMMAND_LEAVE (R368). BOLT.COMMAND 2. -/
  | boltCommandLeave
  /-- BOLT_COMMAND_REPUBLISH (R379). BOLT.COMMAND 3. -/
  | boltCommandRepublish
  /-- REMOTE_READ_TIMEOUT (R373). The oldest remote read that is overdue is answered. -/
  | remoteReadTimeout
  /-- PEER_EVENT_RECEIVE (R375). The oldest event of a peer is taken. -/
  | peerEventReceive
  /-- SEAM_PEER_EVT_POP (R379). A read of SEAM_PEER_EVT. -/
  | seamPeerEvtPop (requester : Nat)
  /-- MEMORY_READ_REQUEST (R391). A unit reads words, under an epoch; the upsets are what the stored words have suffered. -/
  | memoryReadRequest (unit : Requester) (address words : Nat) (upsets : List (BitVec 80))
  /-- MEMORY_WRITE_REQUEST (R390). A unit writes bytes with their enables, under an epoch. -/
  | memoryWriteRequest (unit : Requester) (address : Nat) (data : List (Option Byte)) (upsets : List (BitVec 80))
  /-- SCRUB_READ (R393). The scrubber of a memory reads a word, which has suffered an upset. -/
  | scrubRead (memid word : Nat) (upset : BitVec 80)
  /-- DARNING_WATCH_EXPIRE (R395). 2^20 ticks after a write-back. -/
  | darningWatchExpire (memid word : Nat)
  /-- ROW_REPAIR_COPY_DONE (R396). The oldest row copy has ended. -/
  | rowRepairCopyDone
  /-- DRAM_REQUEST (R411). Requests (unit, write, address, deadline, class) arrive at a subchannel, which serves one. -/
  | dramRequest (channel sub : Nat) (arrivals : List (Nat × Bool × Nat × Nat × Nat))
  /-- DRAM_RH_THROTTLE_END (R421). A throttle ends. -/
  | dramRhThrottleEnd (channel unit : Nat)
  /-- DRAM_RH_WINDOW_END (R419). A refresh window ends. -/
  | dramRhWindowEnd (channel : Nat)
  /-- DRAM_PORT_URGENT (R413). A port has waited too long. -/
  | dramPortUrgent (port : Nat)
  /-- DRAM_REFRESH (R416). A rank is refreshed, or a refresh is pulled in. -/
  | dramRefresh (channel rank : Nat) (pull : Bool)
  /-- DRAM_TEMP_POLL (R415). The temperature poll of a rank answers a rate. -/
  | dramTempPoll (channel rank rate : Nat)
  /-- DRAM_ZQ_CAL (R408). The impedance calibration of a rank. -/
  | dramZqCal (channel rank : Nat)
  /-- DRAM_DQS_OSC_READ (R408). The strobe oscillator of a rank is read. -/
  | dramDqsOscRead (channel rank : Nat) (drift : Int) (inRange : Bool)
  /-- DRAM_RANK_RETRAIN (R408). A rank is retrained. -/
  | dramRankRetrain (channel rank blocked : Nat)
  /-- DRAM_POWER_DOWN (R422). An idle rank enters power-down. -/
  | dramPowerDown (channel rank : Nat)
  /-- DRAM_SELF_REFRESH_ENTRY (R423). A rank enters self-refresh. -/
  | dramSelfRefreshEntry (channel rank : Nat)
  /-- DRAM_SELF_REFRESH_EXIT (R424). A rank leaves self-refresh. -/
  | dramSelfRefreshExit (channel rank : Nat)
  /-- DRAM_ROW_REPAIR (R426). The oldest permanent fault is repaired. -/
  | dramRowRepair (chip : Nat) (row : List Nat) (resource : Bool) (blocked : Nat)
  /-- DRAM_RETIRE_RANK_COMMAND (R427). A write of DRAM.RETIRE_RANK. -/
  | dramRetireRankCommand (value : Nat)
  /-- DRAM_MIGRATION_REGION (R428). The next region of a migrating rank is moved. -/
  | dramMigrationRegion (channel : Nat)
  /-- DRAM_XLATE (R406). A write of DRAM_XLATE asks where an address lies. -/
  | dramXlate (requester : Nat) (address : Word)
  /-- DMA_CH_ENABLE (R449). A write of DMA_CH_CFG with ENABLE 1. -/
  | dmaChEnable (requester channel prio : Nat)
  /-- DMA_CH_DISABLE (R454). A write of DMA_CH_CFG with ENABLE 0. -/
  | dmaChDisable (requester channel prio : Nat)
  /-- DMA_RING (R451). A RING doorbell. -/
  | dmaRing (requester channel : Nat)
  /-- DMA_TRIG (R445). A TRIG doorbell. -/
  | dmaTrig (requester channel : Nat)
  /-- DMA_CH_SRESET (R454). A DMA-channel reset. -/
  | dmaChSreset (requester channel : Nat)
  /-- DMA_TRIGGER_ARRIVE (R445). The oldest trigger flit for a DMA channel arrives. -/
  | dmaTriggerArrive
  /-- DMA_TRIGGER_QUEUE_POP (R446). The channel pops its trigger queue. -/
  | dmaTriggerQueuePop (channel : Nat)
  /-- DMA_CH_LINKS_WRITE (R446). A write of DMA_CH_LINKS. -/
  | dmaChLinksWrite (requester channel : Nat) (value : Half)
  /-- DMA_DESCRIPTOR_FETCH (R438). The channel reads and checks its descriptor. -/
  | dmaDescriptorFetch (channel : Nat)
  /-- DMA_TRIGGER_TAKE (R446). A waiting descriptor takes the oldest pending item. -/
  | dmaTriggerTake (channel : Nat)
  /-- DMA_BURST (R443). The engine issues its next burst. -/
  | dmaBurst (engine : Nat)
  /-- DMA_DESCRIPTOR_COMPLETE (R447). The last write or push of a descriptor has landed. -/
  | dmaDescriptorComplete (channel : Nat)
  /-- DMA_LINK_REREAD (R451). A link word read afresh arrives. -/
  | dmaLinkReread (channel : Nat)
  /-- QUILT_BEGIN (R467). Command BEGIN. -/
  | quiltBegin (requester patch : Nat)
  /-- QUILT_START (R473). Command START. -/
  | quiltStart (requester patch : Nat)
  /-- QUILT_STOP (R472). Command STOP. -/
  | quiltStop (requester patch : Nat)
  /-- QUILT_ABORT (R467). Command ABORT. -/
  | quiltAbort (requester patch : Nat)
  /-- QUILT_READ_FRAME (R467). Command READ_FRAME. -/
  | quiltReadFrame (requester patch : Nat)
  /-- QUILT_RESET (R474). Command RESET. -/
  | quiltReset (requester patch : Nat)
  /-- QUILT_AUTHORIZE (R467). Command AUTHORIZE. -/
  | quiltAuthorize (requester patch : Nat)
  /-- QUILT_STREAM_WORD (R468). The stream engine of a patch takes its oldest word. -/
  | quiltStreamWord (patch : Nat)
  /-- QP_FDRO_READ (R467). A read of QP_FDRO. -/
  | qpFdroRead (requester patch : Nat)
  /-- QP_ENDPOINT_BIND (R484). A write of QP_EPIN or QP_EPOUT. -/
  | qpEndpointBind (requester patch endpoint : Nat) (out : Bool) (value : Half)
  /-- QUILT_USER_EVENT (R462). The logic drives a border output to a level. -/
  | quiltUserEvent (patch output : Nat) (level : Bool)
  /-- QUILT_POISON_READ (R474). The logic reads a block memory word. -/
  | quiltPoisonRead (patch block word : Nat)
  /-- SCRUB_SWEEP_START (R478). A sweep begins; the copies of the control registers may have been upset. -/
  | scrubSweepStart (upsets : List (Nat × Nat))
  /-- QUILT_FRAME_SCRUB (R476). The scrubber checks the next frame, whose words have suffered upsets, and whose digest may be lost. -/
  | quiltFrameScrub (upsets : List (BitVec 80)) (lost : Bool)
  /-- FIRMWARE_QUILT_SWEEP (R480). Firmware sweeps every loaded patch. -/
  | firmwareQuiltSweep (upsets : List (Nat × Nat × List (BitVec 80) × Bool))
  /-- HOST_LINK_RETRAIN (R490). Cause 0 replays, of which value are counted, 1 a write of value to HP_CTRL by the requester, 2 the partner's request; then the lanes repaired and the width that the training finds of M0 and M1. -/
  | hostLinkRetrain (cause requester value repaired0 width0 repaired1 width1 : Nat)
  /-- HOST_LINK_DOWN (R507). The UCIe link has gone down. -/
  | hostLinkDown
  /-- HOST_LINK_DOWN_TIMEOUT (R507). It has been down for CPL_TIMEOUT_US. -/
  | hostLinkDownTimeout
  /-- HOST_LINK_UP (R488). What the training reaches. -/
  | hostLinkUp (rate repaired0 width0 repaired1 width1 : Nat)
  /-- HOST_MEMORY_READ (R493). A host read, and what the stored words have suffered. -/
  | hostMemoryRead (function : Nat) (window : HostWindow) (offset bytes : Nat) (upsets : List (BitVec 80))
  /-- HOST_MEMORY_WRITE (R493). A host write: bytes with their enables. -/
  | hostMemoryWrite (function : Nat) (window : HostWindow) (offset : Nat) (data : List (Option Byte)) (poisoned : Bool) (upsets : List (BitVec 80))
  /-- HOST_COMPLETION_RECEIVE (R506). The unit that reads, or the ring; status 0 success, 1 poison, 2 Unsupported Request, 3 Completer Abort. -/
  | hostCompletionReceive (unit addr status : Nat) (ring : Option Nat) (data : List Word)
  /-- HOST_COMPLETION_TIMEOUT (R506). The read that has had no completion in time. -/
  | hostCompletionTimeout (unit addr words : Nat) (ring : Option Nat)
  /-- HOST_RING_ENABLE (R498). An HR_CFG value with ENABLE 1. -/
  | hostRingEnable (requester function ring : Nat) (config : Half)
  /-- HOST_RING_DISABLE (R501). An HR_CFG value with ENABLE 0. -/
  | hostRingDisable (requester function ring : Nat) (config : Half)
  /-- HOST_RING_DOORBELL (R498). The INDEX written. -/
  | hostRingDoorbell (requester function ring index : Nat)
  /-- HOST_RING_ENTRY_PUSH (R499). The entry fetched from host memory. -/
  | hostRingEntryPush (function ring : Nat) (entry : List Word)
  /-- HOST_RING_ENTRY_WRITE (R500). The ring takes an entry of its queue. -/
  | hostRingEntryWrite (function ring : Nat)
  /-- EVENT_RAISE (R503). An event and the detail it records. -/
  | eventRaise (event info : Nat)
  /-- MAILBOX_GO (R505). A write of MBX_CTRL with GO 1. -/
  | mailboxGo (requester function : Nat) (control : Half)
  /-- MAILBOX_TIMEOUT (R589). A request has waited for 10 ms during a Thimble restart. -/
  | mailboxTimeout (function : Nat)
  /-- FUNCTION_LEVEL_RESET (R508). An FLR of a host function, coded as PART.HOST_FUNCTION. -/
  | functionLevelReset (function : Nat)
  /-- HOT_RESET (R508). A hot reset of the host link. -/
  | hotReset
  /-- SWATCH_OPEN (R531). An OPEN arrives: by which transport, the frame where it is one, and what the die draws and senses. -/
  | swatchOpen (via : SwatchVia) (bytes : List Byte) (sensed : List Sensed)
  /-- SWATCH_PROOF (R531). A PROOF arrives. -/
  | swatchProof (via : SwatchVia) (bytes : List Byte) (sensed : List Sensed)
  /-- SWATCH_OPEN_TIMEOUT (R531). No PROOF has come within 1 s. -/
  | swatchOpenTimeout (session : Nat)
  /-- SWATCH_READ (R526). A READ arrives. -/
  | swatchRead (via : SwatchVia) (bytes : List Byte) (sensed : List Sensed)
  /-- SWATCH_WRITE (R527). A WRITE arrives. -/
  | swatchWrite (via : SwatchVia) (bytes : List Byte) (sensed : List Sensed)
  /-- SWATCH_DESCRIBE (R528). A DESCRIBE arrives. -/
  | swatchDescribe (via : SwatchVia) (bytes : List Byte) (sensed : List Sensed)
  /-- SWATCH_SUBSCRIBE (R535). A SUBSCRIBE arrives. -/
  | swatchSubscribe (via : SwatchVia) (bytes : List Byte) (sensed : List Sensed)
  /-- SWATCH_UNSUBSCRIBE (R525). An UNSUBSCRIBE arrives. -/
  | swatchUnsubscribe (via : SwatchVia) (bytes : List Byte) (sensed : List Sensed)
  /-- SWATCH_POLL (R536). A POLL arrives. -/
  | swatchPoll (via : SwatchVia) (bytes : List Byte) (sensed : List Sensed)
  /-- SWATCH_KEEPALIVE (R525). A KEEPALIVE arrives. -/
  | swatchKeepalive (via : SwatchVia) (bytes : List Byte) (sensed : List Sensed)
  /-- SWATCH_CLOSE (R533). A CLOSE arrives. -/
  | swatchClose (via : SwatchVia) (bytes : List Byte) (sensed : List Sensed)
  /-- SWATCH_NOTIFY (R535). A change or a period of an object of a subscription. -/
  | swatchNotify (session sub subindex : Nat)
  /-- SWATCH_RELAY (R539). A message for another die, or a member's answer to one. -/
  | swatchRelay (via : SwatchVia) (bytes : List Byte)
  /-- SWATCH_SESSION_IDLE_TIMEOUT (R533). A session has been idle for SWATCH.IDLE_S. -/
  | swatchSessionIdleTimeout (session : Nat)
  /-- RWS_APPLY (R515). A slot boundary at which written values take effect. -/
  | rwsApply
  /-- STORE_COMPACT (R518). The journal is three-quarters full. -/
  | storeCompact
  /-- STORE_CLEAR (R542). The value written to STORE.COMMAND. -/
  | storeClear (session value : Nat)
  /-- TOLERANCE_WRITE (R549). A write of PM.G.TOL_US. A hit names an island and the reason (5 to 7) of what reaches it during a vote. -/
  | toleranceWrite (group us : Nat) (hits : List (Nat × Nat))
  /-- NEXT_USE_RECEIVE (R551). The values of NEXT_USE under way reach the power manager. -/
  | nextUseReceive (hits : List (Nat × Nat))
  /-- ISLAND_QUIET_EXPIRE (R551). No flit has crossed an island's stitches for so many ticks. -/
  | islandQuietExpire (island quiet : Nat)
  /-- ISLAND_ENTRY_STEP (R554). An island takes its next entry step. -/
  | islandEntryStep (island : Nat)
  /-- POWER_VOTE_RETRY (R559). A refused decision is taken again. -/
  | powerVoteRetry (hits : List (Nat × Nat))
  /-- ISLAND_PREWAKE (R552). An island wakes ahead of its NEXT_USE. -/
  | islandPrewake (island : Nat)
  /-- ISLAND_WAKE_REQUEST (R553). A flit stalls at an island's stitches, which it may need for a bank. -/
  | islandWakeRequest (island : Nat) (bank : Option Nat)
  /-- ISLAND_WAKE_COMPLETE (R553). The wake of an island ends. -/
  | islandWakeComplete (island : Nat)
  /-- RETENTION_BANK_SWEEP_DONE (R560). A bank's sweep ends; what its words have suffered. -/
  | retentionBankSweepDone (memid : Nat) (upsets : List (Nat × BitVec 80)) (corrected : Nat) (lost : Bool)
  /-- WAKE_PIN (R563). WAKE_N has been low for 1 µs. -/
  | wakePin
  /-- PM_END_DEEP_HOLD (R564). PM.DEVICE_CMD 1. -/
  | pmEndDeepHold
  /-- PM_DEVICE_DEEP (R565). PM.DEVICE_CMD 2. -/
  | pmDeviceDeep (hits : List (Nat × Nat))
  /-- PM_DEVICE_OFF (R568). PM.DEVICE_CMD 3. -/
  | pmDeviceOff
  /-- UPSET_REPORT (R573). A unit of a class of R573 reports an upset. -/
  | upsetReport (cls ident : Nat)
  /-- UNIT_RETIRE (R575). The health monitor retires a unit for a cause of R593. -/
  | unitRetire (cls ident cause : Nat)
  /-- FAULT_RETIRE_COMMAND (R574). The value written to FAULT.RETIRE. -/
  | faultRetireCommand (value : Nat)
  /-- FAULT_REINSTATE_COMMAND (R581). The record number written to FAULT.REINSTATE. -/
  | faultReinstateCommand (record : Nat)
  /-- PANEL_RESET (R584). A write of 1 to PNL_CTRL.SRESET. -/
  | panelReset (requester panel : Nat)
  /-- FAULT_WARM_RESET_COMMAND (R585). A write of FAULT.WARM_RESET. -/
  | faultWarmResetCommand (session value : Nat)
  /-- WARM_N_ASSERT (R585). WARM_N has been low for 10 µs. -/
  | warmNAssert
  /-- WARM_RESET (R586). A warm reset, by its cause of R585, and what training the UCIe link finds. -/
  | warmReset (cause : Nat) (link : Nat × Nat × Nat × Nat × Nat)
  /-- THIMBLE_CHECKPOINT (R587). The standby pair receives a checkpoint. -/
  | thimbleCheckpoint
  /-- THIMBLE_FAILOVER (R588). A lockstep mismatch or watchdog expiry in a pair (0 A, 1 B). -/
  | thimbleFailover (pair : Nat)
  /-- THIMBLE_RESTART (R589). A Thimble restart ends; which pairs pass their self-test. -/
  | thimbleRestart (passes : List Nat)
  /-- COLD_BOOT (R599). POR_N has risen: units that fail their self-test, store areas and journal records whose digests fail, each channel's DRAM_CH_CFG, ranks that fail training, and the host link as trained. -/
  | coldBoot (failed : List (Nat × Nat)) (badCopies badRecords : List Nat) (config untrained : List (Nat × Nat)) (link : Nat × Nat × Nat × Nat × Nat)
  /-- FW_UPDATE (R601). A write of FW.UPDATE; the slot reads back as written. -/
  | fwUpdate (session address : Nat) (programmed : Bool)
  /-- FW_SWITCH (R601). FW.COMMAND 1. -/
  | fwSwitch (session : Nat)
  /-- FW_CONFIRM (R601). FW.COMMAND 2. -/
  | fwConfirm (session : Nat)
  /-- FW_REVERT (R601). FW.COMMAND 3. -/
  | fwRevert (session : Nat)
  /-- FW_TRIAL_TIMEOUT (R601). The trial has lasted FW.TRIAL_S seconds. -/
  | fwTrialTimeout
  /-- FW_RAISE_FW_SVN (R602). FW.COMMAND 4 with VPP_FUSE in mV. -/
  | fwRaiseFwSvn (session millivolts : Nat)
  /-- FW_RAISE_MB_SVN (R602). FW.COMMAND 5 with VPP_FUSE in mV. -/
  | fwRaiseMbSvn (session millivolts : Nat)
  /-- ATTEST_NONCE_WRITE (R604). A write of SEC.ATTEST. -/
  | attestNonceWrite (session : Nat) (nonce : List Byte)
  /-- ATTEST_REPORT_READ (R604). A read of SEC.ATTEST. -/
  | attestReportRead (session : Nat)
  /-- KEY_SLOT0_WRITE (R609). A write of SEC.KEY_SLOT0 with VPP_FUSE in mV. -/
  | keySlot0Write (session : Nat) (value : List Byte) (millivolts : Nat)
  /-- KEY_SLOT1_WRITE (R609). A write of SEC.KEY_SLOT1. -/
  | keySlot1Write (session : Nat) (value : List Byte)
  /-- FUSE_CUST_KEY (R611). A write of SEC.FUSE_CUST_KEY with VPP_FUSE in mV. -/
  | fuseCustKey (session : Nat) (value : List Byte) (millivolts : Nat)
  /-- FUSE_REVOKE (R611). A write of SEC.FUSE_REVOKE with VPP_FUSE in mV. -/
  | fuseRevoke (session key millivolts : Nat)
  /-- FUSE_POLICY (R611). A write of SEC.FUSE_POLICY with VPP_FUSE in mV. -/
  | fusePolicy (session value millivolts : Nat)
  /-- IMAGE_LOAD (R606). A write of SEC.IMAGE_LOAD. -/
  | imageLoad (session : Nat) (value : List Byte)
  /-- QUILT_AUTH (R608). A write of SEC.QUILT_AUTH. -/
  | quiltAuth (session : Nat) (value : List Byte)
  /-- DIAG_CHALLENGE (R612). A read of SEC.DIAG_CHALLENGE; the nonce drawn. -/
  | diagChallenge (session : Nat) (nonce : List Byte)
  /-- DIAG_UNLOCK (R612). A write of SEC.DIAG_UNLOCK. -/
  | diagUnlock (session : Nat) (signature : List Byte)
  /-- TAMPER (R610). TAMPER_N has been low for 1 µs. -/
  | tamper
  /-- MB_FRAMING_STORE (R641). A write of MB.FRAMING_STORE; the image area reads back as written. -/
  | mbFramingStore (session address : Nat) (programmed : Bool)
  /-- THERM_WARN (R661). The sensors report: island and temperature in 1/16 °C. -/
  | thermWarn (readings : List (Nat × Int))
  /-- THROTTLE_STEP (R661). A step down of the target frequency falls due. -/
  | throttleStep (readings : List (Nat × Int))
  /-- THROTTLE_RELEASE_STEP (R661). A step up of the target frequency falls due. -/
  | throttleReleaseStep (readings : List (Nat × Int))
  /-- THERMAL_TRIP (R661). The sensors report 120 °C or more. -/
  | thermalTrip (readings : List (Nat × Int))
  /-- THERMAL_TRIP_RELEASE (R661). The sensors report during a trip. -/
  | thermalTripRelease (readings : List (Nat × Int))
  /-- SUPPLY_ALERT (R668). PMB_ALERT_N falls, or a PMBus transaction fails three times. -/
  | supplyAlert
  /-- MB_CORE_RELEASE (R625). A write of the release action of core c of slot k (R625). -/
  | mbCoreRelease (requester slot core : Nat)
  /-- MB_CORE_START (R625). The start action, at an address. -/
  | mbCoreStart (requester slot core address : Nat)
  /-- MB_CORE_STOP (R625). The stop action. -/
  | mbCoreStop (requester slot core : Nat)
  /-- MB_CORE_CLEAR_FAULT (R625). The clear-fault action. -/
  | mbCoreClearFault (requester slot core : Nat)
  /-- MB_CMDQ_DOORBELL (R628). A doorbell of a command queue, with the new commands that the translator finds in the ring. -/
  | mbCmdqDoorbell (requester slot queue : Nat) (commands : List MbCommand)
  /-- MB_CMDQ_COMPLETION (R630). The translator pops a completion record. -/
  | mbCmdqCompletion (slot queue : Nat)
  /-- MB_COUNTER_WRITE (R627). A write of the 30.72 MHz counter. -/
  | mbCounterWrite (requester slot : Nat) (value : Word)
  /-- MB_TIMER_SET (R627). A timer is set to fire at a counter value. -/
  | mbTimerSet (requester slot timer : Nat) (value : Word)
  /-- MB_END_OF_INTERRUPT (R631). An end-of-interrupt write for a vector. -/
  | mbEndOfInterrupt (requester slot vector : Nat)
  /-- MB_MAILBOX_COMMAND (R638). A mailbox command; `board` marks those for board firmware, flash and fan control. -/
  | mbMailboxCommand (requester slot command argument : Nat) (board : Bool)
  /-- JTAG_EXTEST (R658). EXTEST; the levels that the pins show. -/
  | jtagExtest (levels : List Bool)
  /-- JTAG_SAMPLE_PRELOAD (R658). SAMPLE/PRELOAD; the levels that the pins show and the bits shifted in. -/
  | jtagSamplePreload (levels preload : List Bool)
  /-- JTAG_BYPASS (R658). BYPASS; the bits shifted in. -/
  | jtagBypass (tdi : List Bool)
  /-- JTAG_IDCODE (R658). IDCODE. -/
  | jtagIdcode
  /-- TIME_BASE_REFERENCE_PERIOD (R62). How far the replica of each island named lags after its refresh. -/
  | timeBaseReferencePeriod (lags : List (Nat × Nat))
  /-- TOD_MESSAGE_MISSING (R78). 900 ms after a PPS edge. -/
  | todMessageMissing
  /-- LANE_REFERENCE_LOST (R75). The 156.25 MHz lane reference has no edges. -/
  | laneReferenceLost
  /-- SEAM_TIME_BLOCK_SEND (R358). Once per 1,024 ticks. -/
  | seamTimeBlockSend (link : Nat)
  /-- SEAM_IDENT_BLOCK_SEND (R358). Once per superframe. -/
  | seamIdentBlockSend (link : Nat)
  /-- BOLT_JOIN_RETRY (R366). JOIN again, 1 s after a refusal. -/
  | boltJoinRetry (nonce : List Byte)
  /-- PCS_REMOTE_FAULT (R326). What the PCS reports. -/
  | pcsRemoteFault (port : Nat) (localFault remoteFault : Bool)
  /-- THIMBLE_PAIR_SELF_TEST_DONE (R588). The self-test of a failed pair ends. -/
  | thimblePairSelfTestDone (pair : Nat) (passes : Bool)
  /-- POR_N_ASSERT (R653). POR_N falls. -/
  | porNAssert
  /-- VBAT_LOSS (R610). VBAT is lost. -/
  | vbatLoss
  /-- ILLEGAL_ENCODING (R193). The word executed; none where it was poisoned as fetched. -/
  | illegalEncoding (engine : Nat) (word : Option Half)
deriving DecidableEq, Repr

end Sys2Proof
end

