-- ==== Sys2Proof/Decode.lean ====
section
/-!
DEFINITION. The command that a word spells by the bits of spec/opcode_table.json. The table gives none of its rows bits: every
command is an event at the block's edge, named with its operands.
-/

namespace Sys2Proof

/-- The command that a word of so many bits spells: none, since no row of the table has bits. -/
def decodeTableWord (_nbits _w : Nat) : Option Instr := none

end Sys2Proof
end

