-- ==== Sys2Proof/Machine/Crc.lean ====
section
/-!
DEFINITION. Cyclic redundancy checks over bits, most significant bit of the register first.
-/

namespace Sys2Proof.Machine

/-- One bit enters a CRC register of `w` bits. -/
def crcStep (w poly reg : Nat) (b : Bool) : Nat :=
  let r := reg * 2 % 2 ^ w
  if reg.testBit (w - 1) != b then r ^^^ poly else r

/-- The CRC of bits, from an initial register. -/
def crcBits (w poly init : Nat) (bits : List Bool) : Nat := bits.foldl (crcStep w poly) init

/-- The bits of a byte, most significant first. -/
def byteBits (b : Byte) : List Bool := (List.range 8).map (fun i => b.getLsbD (7 - i))

/-- The bits of bytes, each byte most significant bit first. -/
def bytesBits (l : List Byte) : List Bool := l.flatMap byteBits

/-- The CRC of bytes. -/
def crcBytes (w poly init : Nat) (l : List Byte) : Nat := crcBits w poly init (bytesBits l)

/-- The low `w` bits of a number, most significant first. -/
def natBits (w v : Nat) : List Bool := (List.range w).map (fun i => v.testBit (w - 1 - i))

/-- The number of bits, most significant first. -/
def bitsNat (l : List Bool) : Nat := l.foldl (fun a b => 2 * a + b.toNat) 0

end Sys2Proof.Machine
end

