-- ==== Sys2Proof/Config.lean ====
section
/-!
DEFINITION. The free values of the model: what the spec leaves open. Each is an opaque constant, so no proof can see
its value and a statement holds whatever it is. State.free counts how many have been taken.
-/

namespace Sys2Proof.Config

/-- What host memory returns to a device read, which is not the die's state: a word, or none where the completion carries
an error or does not come (R506). -/
opaque hostWord : Nat → Nat → Option (BitVec 64)

/-- What a bolt peer returns to a read through its window, which is that die's state: a word, or none where it is
refused, poisoned or late. -/
opaque peerWord : Nat → Nat → Nat → Option (BitVec 64)

/-- The word that a Quilt patch's logic returns to a read of its user register space. -/
opaque quiltWord : Nat → Nat → Nat → BitVec 64

/-- What MP_UE_LOG records of an uncorrectable word met in flight, which is no word of any memory. -/
opaque flightLog : Nat → Nat

/-- The places, beyond one, of a virtual channel's buffer at the receiving side of a stitch (R41). -/
opaque linkPlaces : Nat → Nat → Nat

/-- The clockClass advertised while ACQUIRING, or while LOCKED as a slave or boundary clock: R71 states none. -/
opaque clockClass : Nat → Nat

/-- The leap-second flags of a time-of-day message sent: R78 names no source for them. -/
opaque leapFlags : Nat → Nat

/-- The engine cycles that pass in a span of ticks, by which CYCLE advances (R126): no rule gives the clock's exact rate. -/
opaque engineCycles : Nat → BitVec 64

/-! ## Tables and decoders of the 3GPP standards that the spec names and does not print (R223)

Base graph 2 where the first argument is true. -/

/-- The edges of one row of a base graph for a lifting size: columns in ascending order with their cyclic shifts. -/
opaque ldpcRow : Bool → Nat → Nat → List (Nat × Nat)

/-- A max-log-MAP turbo decode: from block length, scale and soft values, the hard decision on a bit after a count of
half-iterations. -/
opaque turboBit : Nat → Nat → List Int → Nat → Nat → Bool

/-- The half-iterations after which the turbo decoder makes its tests. -/
opaque turboTested : Nat → Bool

/-- The paths that a list decoder of polar codes is left with, best metric first: from payload length, list size and soft
values, the bit at a place of the path of a rank, and its metric. -/
opaque polarBit : Nat → Nat → List Int → Nat → Nat → Bool
opaque polarMetric : Nat → Nat → List Int → Nat → Nat

/-- A tail-biting Viterbi decode: from length, passes and soft values, the bit at a place, and the path's metric. -/
opaque tbccBit : Nat → Nat → List Int → Nat → Bool
opaque tbccMetric : Nat → Nat → List Int → Nat

/-! ## Arithmetic in an order that the device fixes (R259, R269)

The first argument of the first three is every byte that the job has read, the second the place of the result, and the
rational the exact value that the result stands for. -/

/-- A result in binary32. -/
opaque f32 : List Byte → Nat → ℚ → BitVec 32

/-- A result in binary32 that stands for the first rational divided by the square root of the second. -/
opaque f32Unit : List Byte → Nat → ℚ → ℚ → BitVec 32

/-- Whether a result in PREC or GAIN that is no whole number of units is taken from the unit above: the rounding from binary32
is not stated. -/
opaque u16Up : List Byte → Nat → Bool

/-- A result in PREC or GAIN that lies outside the format, where the format does not saturate. -/
opaque u16 : List Byte → Nat → BitVec 16

/-- Whether the magnitude of a complex integer that binary32 does not hold is taken from the number above: its rounding is not
stated. -/
opaque absUp : Int → Int → Bool

/-- Whether the cosine, or the sine, of an angle of 16 bits in Q1.15 is taken from the whole number above it. -/
opaque trigUp : Bool → Nat → Bool

/-- How far arg lies from the floor of its true value, within the bound of R259. -/
opaque argOff : Int → Int → Nat

/-! ## Hem chains: values stated within a bound (R290, R294, R297), or not stated at all -/

/-- How far an output part of a transform lies from its exact value: of the input, a number naming the transform, and the
place of the part. -/
opaque fftOff : List (Int × Int) → Nat → Nat → Nat

/-- How far the linear gain of a code, and a level, lie from their exact values. -/
opaque gainOff : Int → Nat
opaque levelOff : Nat → Nat → Nat

/-- L, the count of saturated parts and BURST of a window that has no samples or poisoned ones. -/
opaque lostLevel : Nat → BitVec 16
opaque lostClips : Nat → BitVec 16
opaque lostBurst : Nat → Bool

/-- A value of a delay profile in binary32: of the bytes read, the index, and the sum of powers that it stands for. -/
opaque profile : List Byte → Nat → Nat → BitVec 32

/-- A sample behind the low-pass filter of PRACH detection, of which the spec gives the stop band alone: of the samples in front
of it, the decimation and the place, in the units of the samples. -/
opaque lowPass : List (Int × Int) → Nat → Nat → Int × Int

/-! ## Serial lanes (R308 to R310, R316) -/

/-- Where in its sequence a lane's PRBS is, as a free value of a count. -/
opaque prbsSeed : Nat → BitVec 64

/-- What a lane's receiver asks of the far transmitter, as a free value of a count (R310). -/
opaque laneRequest : Nat → Nat

/-- The bit behind the last bits of SSPRQ, which the spec takes from IEEE 802.3. -/
opaque ssprq : List Bool → Bool

/-! ## DRAM -/

/-- The place of a rank-local offset in the order that is fixed at training (R406): logical rank, bank group, bank, row and
column, for 0 to 4 as first argument. -/
opaque dramField : Nat → Nat → Nat

/-! ## Seam and security -/

/-- How many units the far end's buffer of a virtual channel and hop class holds, at vc × 8 + hop: R360 states no size. -/
opaque seamCredits : Nat → Nat

/-- SHAKE256 with 64 bytes of output, Ed448 by the die's identity key and against a certificate's key, whether a
certificate chains to the Lemolser root, and the digest of the key it certifies: standard functions that the spec names
and does not print. -/
opaque shake256 : List (BitVec 8) → List (BitVec 8)
opaque ed448Sign : List (BitVec 8) → List (BitVec 8)
opaque ed448Ok : List (BitVec 8) → List (BitVec 8) → List (BitVec 8) → Bool
opaque certOk : List (BitVec 8) → Bool
/-- AES-256-GCM (R470): the keystream word at a place of the body, and the tag of associated data and ciphertext, under a
key and an IV. -/
opaque gcmStream : List (BitVec 8) → List (BitVec 8) → Nat → BitVec 64
opaque gcmTag : List (BitVec 8) → List (BitVec 8) → List (BitVec 8) → List (BitVec 8) → List (BitVec 8)

/-- What the DRAM devices of a channel tell of refresh management (R418, JESD79-5): whether they require it, their initial
management threshold, the rolling activation count that no bank may pass, and what a refresh takes off the count. -/
opaque rfmRequired : Nat → Bool
opaque rfmThreshold : Nat → Nat
opaque rfmLimit : Nat → Nat
opaque rfmRefresh : Nat → Nat

/-- The level to which clamp mode 3, which is reserved, holds a border output (R484). -/
opaque clampReserved : Nat → Nat → Bool

opaque certDigest : List (BitVec 8) → List (BitVec 8)

/-- Ed448 verification under a raw public key: key, message, signature. -/
opaque ed448Verify : List (BitVec 8) → List (BitVec 8) → List (BitVec 8) → Bool

/-- The fused SHAKE256 digest of Lemolser's image key, and the public key of its diagnostics signatures. -/
opaque imageKeyDigest : List (BitVec 8)
opaque diagKey : List (BitVec 8)

/-- X448 (RFC 7748): the public key of a private key, and the shared value of a private and a public key. -/
opaque x448Public : List (BitVec 8) → List (BitVec 8)
opaque x448 : List (BitVec 8) → List (BitVec 8) → List (BitVec 8)

/-- KMAC256 with 32 bytes of output and the customization string "SWATCH" (R523): key, message. -/
opaque kmac : List (BitVec 8) → List (BitVec 8) → List (BitVec 8)

/-! ## MB personality -/

/-- Where Thimble firmware puts the storage of queue i of an MB partition's reserved range, and how it configures it: R634
names neither. -/
opaque mbQueueBase : Nat → Nat → Nat
opaque mbQueueDepth : Nat → Nat → Nat
opaque mbQueueGrant : Nat → Nat → Nat

/-- What a register of the MB-416 view reads as whose layout is the MB-416 manual's: of the slot, the view offset, what stands
behind the block, and how often it has been asked. -/
opaque mbView : Nat → Nat → List Nat → Nat → BitVec 64

/-- Flag 0 of a result entry whose record counts some of its flags as set, and Lemolser's default cost of a job type: per unit
and per job (R628). -/
opaque mbCrcFlag : Nat → Bool
opaque mbCost : Nat → Nat × Nat

/-- What Thimble firmware answers to an MB-416 mailbox command that it serves. -/
opaque mbMailbox : Nat → Nat → Nat → Nat

/-- The view offset of MB_HOSTWIN; the sources whose status bits a view write clears; and the vectors that a view write gives
to sources: of the view offset and the value written. The layouts are the MB-416 manual's. -/
opaque mbHostWinOffset : Nat
opaque mbClears : Nat → Nat → List Nat
opaque mbRoutes : Nat → Nat → List (Nat × Nat)

/-- A byte of a function's configuration header that the spec gives no value: of the function and the offset. -/
opaque headerByte : Nat → Nat → BitVec 8

/-! ## Pins -/

/-- The level that the board drives on a general-purpose pin: of the pin and how often it has been asked. -/
opaque pinLevel : Nat → Nat → Bool

end Sys2Proof.Config
end

