-- ==== Sys2Proof/Machine/Table.lean ====
section
/-!
DEFINITION. The two list forms in which the state holds numbered things: a table from a number to a value, and memory
as cells in canonical form. Both are association lists with strictly rising keys.
-/

namespace Sys2Proof.Machine

/-- A table from numbers to values, keys strictly rising. What an unlisted key reads as is given at the read. -/
abbrev Tab (α : Type) := List (Nat × α)

/-- The value at key `k`, or `d` where the table lists none. -/
def Tab.get {α : Type} (d : α) : Tab α → Nat → α
  | [], _ => d
  | (j, v) :: r, k => if j = k then v else if k < j then d else Tab.get d r k

/-- The table with `v` at key `k`. -/
def Tab.set {α : Type} : Tab α → Nat → α → Tab α
  | [], k, v => [(k, v)]
  | (j, w) :: r, k, v =>
    if j < k then (j, w) :: Tab.set r k v
    else if j = k then (k, v) :: r
    else (k, v) :: (j, w) :: r

/-- The table without key `k`. -/
def Tab.del {α : Type} : Tab α → Nat → Tab α
  | [], _ => []
  | (j, w) :: r, k => if j = k then r else (j, w) :: Tab.del r k

/-- Keys strictly rise. -/
def Tab.Sorted {α : Type} : Tab α → Prop
  | [] => True
  | [_] => True
  | (j, _) :: (k, w) :: r => j < k ∧ Tab.Sorted ((k, w) :: r)

/-- Where the check symbols of the word at address `a` are kept: cells `checkBase + a` (c8) and `checkBase + a + 1`
(c9). Data cells are below `checkBase`, since addresses are 48 bits. -/
def checkBase : Nat := 2 ^ 48

/-- What a cell that nothing has written reads as: the poison mark of R385, data symbols 0, c8 = 0x02 and c9 = 0x03,
which R388 puts into every word of every memory. -/
def unwritten (a : Nat) : Byte :=
  if a < checkBase then 0 else if a % 8 = 0 then 2 else 3

/-- The memories of the die as cells: every symbol of every stored codeword at an address of its own. -/
abbrev Memory := List Host.Cell

/-- The symbol at cell `a`. -/
def Memory.get : Memory → Nat → Byte
  | [], a => unwritten a
  | (b, v) :: r, a => if b = a then v else Memory.get r a

/-- The memory with symbol `v` at cell `a`; a cell that would hold what an unlisted cell reads as is not listed. -/
def Memory.put : Memory → Nat → Byte → Memory
  | [], a, v => if v = unwritten a then [] else [(a, v)]
  | (b, w) :: r, a, v =>
    if b < a then (b, w) :: Memory.put r a v
    else if b = a then (if v = unwritten a then r else (a, v) :: r)
    else (if v = unwritten a then (b, w) :: r else (a, v) :: (b, w) :: r)

/-- Every cell of `m` is listed above address `lo`, in rising order, and none holds what an unlisted cell reads as. -/
def Memory.wfFrom : Nat → Memory → Bool
  | _, [] => true
  | lo, (b, v) :: r => decide (lo ≤ b) && decide (v ≠ unwritten b) && Memory.wfFrom (b + 1) r

/-- The canonical form of memory: cells strictly rising, none equal to what an unlisted cell reads as. -/
def Memory.wf (m : Memory) : Bool := Memory.wfFrom 0 m

end Sys2Proof.Machine
end

