-- ==== Sys2Proof/Machine/Types.lean ====
section
/-!
DEFINITION. The plain-data types of the registers and objects of the die.
-/

namespace Sys2Proof.Machine

/-- The access codes of R3. -/
inductive Acc where
  | ro | rw | w1c | w1s | rc | wo
deriving DecidableEq, Repr

/-- One field of a control register: its number, its bits, its access code and its reset value. -/
structure Fld where
  id : Nat
  hi : Nat
  lo : Nat
  acc : Acc
  reset : Nat
deriving DecidableEq, Repr

/-- Who may write a register. Writes from any other source are ignored. -/
inductive WriteBy where
  /-- no source writes it -/
  | none
  /-- Thimble firmware only -/
  | thimble
  /-- Thimble firmware and host software of PF0 -/
  | tpf0
  /-- a queue context: Thimble firmware, and host software of the partition that owns the queue (R60) -/
  | queue
  /-- the time base: R66 -/
  | timebase
  /-- a carrier timer: R83 -/
  | carrier
  /-- a comparator: R83 -/
  | comparator
  /-- Thimble firmware and host software of the partition that the register's first index names (R118, R350) -/
  | partition
  /-- Thimble firmware and host software of the partition that owns the panel (R155, R219, R591) -/
  | panel
  /-- Thimble firmware and host software of the partition that owns the Hem chain (R299) -/
  | hem
  /-- a serial lane: R321 -/
  | lane
  /-- a CPRI lane: R351 -/
  | cprilane
  /-- SEAM_QALIAS: also the partition that owns the entry's local range (R379) -/
  | seamAlias
  /-- a DMA channel: Thimble firmware and host software of the owning partition (R457) -/
  | channel
  /-- a Quilt patch: Thimble firmware and host software of the owning partition (R484) -/
  | patch
  /-- an event route: R502 -/
  | route
  /-- the event pending bits: R503 -/
  | evpend
  /-- MP_WIN: Thimble firmware, while the partition is STOPPED (R398) -/
  | mpwin
deriving DecidableEq, Repr

/-- Where a register map lies. -/
inductive Space where
  /-- the device address map (R27) -/
  | device
  /-- the accelerator slots, whose base depends on the kind of instance (R254, R282, R299) -/
  | accel
  /-- the function page of a host function, at function code × 0x4_0000 (R496) -/
  | functionPage
deriving DecidableEq, Repr

/-- One register map: address, index ranges (count, stride), width in bytes, write rights, fields. -/
structure RegDef where
  name : String
  space : Space
  base : Nat
  dims : List (Nat × Nat)
  bytes : Nat
  wr : WriteBy
  flds : List Fld
deriving DecidableEq, Repr

/-- The object types of R512. -/
inductive ObjTy where
  | bool | u8 | u16 | u32 | u64 | i8 | i16 | i32 | i64 | q15 | q31 | ticks48 | string | domain
deriving DecidableEq, Repr

/-- The object access codes of R513. -/
inductive ObjAcc where
  | ro | const | rw | wo | rws
deriving DecidableEq, Repr

/-- One object: its number, index (and how many indices follow), subindex (and how many follow), type, access,
default, least and greatest value, persistence (R519), and whether it is written only in STOPPED (R19). -/
structure Obj where
  id : Nat
  index : Nat
  count : Nat
  sub : Nat
  subs : Nat
  ty : ObjTy
  acc : ObjAcc
  dflt : Nat
  lo : Nat
  hi : Nat
  persistent : Bool
  history : Bool
  stopped : Bool
deriving DecidableEq, Repr

/-! ## Words in flight -/

/-- A word as a unit hands it on: its value, or none for the poison mark (R39, R391). -/
abbrev Carried := Option Word

/-- What a flit of the queue traffic is. -/
inductive FlitKind where
  /-- a queue entry -/
  | entry
  /-- the drain mark a port sends behind its last entry (R61) -/
  | drain
  /-- a port's request for credits (R48) -/
  | request
  /-- credits granted to a port (R48) -/
  | grant (credits : Nat)
deriving DecidableEq, Repr

/-- A flit between a producer port and the queue manager (R38, R45, R48). -/
structure Flit where
  kind : FlitKind
  queue : Nat
  /-- the unit whose port sends it, or that a grant goes to -/
  producer : Nat
  epoch : Nat
  /-- the stitch, sender × 256 + receiver, in whose receiving buffer it waits since it has crossed it; the first stitch
  compares its epoch (R54) -/
  buffer : Option Nat
  /-- a partition reset has struck it: it is discarded when it lands (R56) -/
  dropped : Bool
  payload : List Carried
deriving DecidableEq, Repr

/-- The flit has crossed a stitch. -/
def Flit.crossed (f : Flit) : Bool := f.buffer.isSome

/-- A producer port's standing at one queue (R47, R48, R50). -/
structure Port where
  /-- unspent credits -/
  credits : Nat
  /-- a request for credits is outstanding -/
  requested : Bool
  /-- credits have been granted to it since the queue was enabled (R61) -/
  granted : Bool
  /-- pushes that stall for want of a credit, oldest first, each with the epoch of the unit that made it -/
  stalled : List (Nat × List Carried)
  /-- the tick at which the oldest stalled push began to wait -/
  since : Nat
  /-- EV_QUEUE_STALL has been raised in this stall episode -/
  raised : Bool
deriving DecidableEq, Repr

/-- A port that has pushed nothing. -/
def Port.idle : Port := ⟨0, false, false, [], 0, false⟩

/-- What R37 watches of an island: since when its frequency has been below half its target, or back above it, and
whether EV_CLOCK_FLOOR has been raised in this episode. -/
structure FloorWatch where
  low : Option Nat
  high : Option Nat
  raised : Bool
deriving DecidableEq, Repr

/-- An island whose frequency has not been measured. -/
def FloorWatch.idle : FloorWatch := ⟨none, none, false⟩

/-- The Weft: what is under way between producer ports and the queue manager. -/
structure Weft where
  /-- flits under way, oldest first -/
  flits : List Flit
  /-- producer ports, at queue × 4096 + unit ID -/
  ports : Tab Port
  /-- credit requests (queue, unit) that wait at the queue manager, in arrival order -/
  waiting : List (Nat × Nat)
  /-- drain marks (queue, unit, tick last sent) that the queue manager awaits (R61) -/
  drains : List (Nat × Nat × Nat)
  /-- the unit whose flit each stitch, sender × 256 + receiver, has served last (R42) -/
  served : Tab Nat
  /-- the islands' frequencies (R37) -/
  floors : Tab FloorWatch
  /-- retired units whose first fenced flit has been recorded (R579) -/
  retiredSpoke : List Nat
deriving DecidableEq, Repr

/-! ## Memory protection -/

/-- The state of a Darning log entry (R394). -/
inductive DarnState where
  | counting | watch
deriving DecidableEq, Repr

/-- One Darning log entry: word address, count 1 to 4, state, and the tick of its write-back. -/
structure Darn where
  word : Nat
  count : Nat
  state : DarnState
  tick : Nat
deriving DecidableEq, Repr

/-- Memory protection beside its registers. -/
structure Protect where
  /-- Darning logs, at MEMID, oldest entry first -/
  logs : Tab (List Darn)
  /-- rows remapped: (MEMID × 128 + SRAM number, row) in the order of their spares -/
  remaps : List (Nat × Nat)
  /-- rows being copied, and DRAM words handed to the DRAM controller (R396): (MEMID, SRAM number, row, word address) -/
  copying : List (Nat × Nat × Nat × Nat)
  /-- the aligned second of device time whose corrections are being counted, and the count (R402) -/
  ceSecond : Nat
  ceCount : Nat
  /-- the tick of the last EV_MP_DENIED, and whether there has been one (R397) -/
  deniedTick : Option Nat
deriving DecidableEq, Repr

/-! ## The host port -/

/-- One MSI-X vector: message address, message data, mask bit. -/
structure Vector16 where
  addr : Nat
  data : Nat
  masked : Bool
deriving DecidableEq, Repr

/-- The MSI-X state of a host function (R503, R631). -/
structure Msix where
  enable : Bool
  functionMask : Bool
  table : Tab Vector16
  /-- the pending bit array: vectors set -/
  pend : List Nat
  /-- PF1 to PF4: vectors that have sent a message since their last end-of-interrupt write (R631) -/
  sent : List Nat
deriving DecidableEq, Repr

/-- A function's MSI-X state after reset: disabled, every vector masked. -/
def Msix.reset : Msix := ⟨false, false, [], [], []⟩

/-- A vector after reset, as PCIe defines it: masked. -/
def Vector16.reset : Vector16 := ⟨0, 0, true⟩

/-- A function's mailbox buffers (R505). -/
structure Mailbox where
  request : List Byte
  response : List Byte
  /-- the tick of the GO being served -/
  since : Nat
deriving DecidableEq, Repr

/-- A mailbox with empty buffers. -/
def Mailbox.empty : Mailbox := ⟨[], [], 0⟩

/-- What a host ring holds beside its registers (R499 to R501). -/
structure Ring where
  /-- the vector has been sent since the last head doorbell -/
  vectorSent : Bool
  /-- ENABLE has been written 0 and entries are still in flight -/
  disabling : Bool
deriving DecidableEq, Repr

/-- A ring that is off. -/
def Ring.off : Ring := ⟨false, false⟩

/-- A request that the host port holds while the link is down (R507). -/
inductive HeldRequest where
  /-- a read of host memory by a unit -/
  | read (unit addr bytes : Nat)
  /-- a write to host memory by a unit, for a ring or for none; a poisoned one carries a word that is POISON -/
  | write (unit : Nat) (ring : Option Nat) (addr : Nat) (data : List Byte) (poisoned : Bool)
  /-- an MSI-X message of a function, a posted write like any other (R491, R503) -/
  | message (function vector addr data : Nat)
deriving DecidableEq, Repr

/-- The host port beside its registers. -/
structure HostPort where
  msix : Tab Msix
  mailboxes : Tab Mailbox
  /-- host rings, at function × 256 + ring -/
  rings : Tab Ring
  /-- entries that rings have pushed and that have not landed, oldest first: unit, queue, ring -/
  pushes : List (Nat × Nat × Nat)
  /-- requests held while the link is down or retraining -/
  held : List HeldRequest
  /-- the tick from which the link has been down (R507) -/
  downSince : Nat
  /-- the second of device time whose replays are being counted, and the count (R490) -/
  replaySecond : Nat
  replayCount : Nat
deriving DecidableEq, Repr

/-! ## What the die sends -/

/-- What leaves the modelled machine, newest first in the state's list. -/
inductive Msg where
  /-- an event delivered to Thimble firmware, with the detail it records -/
  | event (e info : Nat)
  /-- an MSI-X message of a function (encoded as PART.HOST_FUNCTION) -/
  | msix (function vector addr data : Nat)
  /-- a unit sent on a Seam link, and the lane that carries it -/
  | seamUnit (link lane : Nat) (header : SeamHeader) (unit : SeamUnit)
  /-- a FILL block on a lane of a link -/
  | seamFill (link lane : Nat)
  /-- the control blocks of a Seam link (R357) -/
  | seamAck (link seq : Nat)
  | seamNak (link seq : Nat)
  | seamPower (link op index : Nat)
  | seamTime (link tick : Nat)
  | seamIdent (link self boltId : Nat) (leader : Bool)
  /-- a job given to a patch's logic: ARGS, descriptor and input entries go with it -/
  | patchJob (patch : Nat) (descriptor : List Carried) (inputs : List (List Carried))
  /-- the job-late signal of a patch's job port -/
  | patchLate (patch : Nat)
  /-- bytes written to a Quilt patch -/
  | quiltWrite (patch off : Nat) (data : List Byte)
  /-- bytes written to host memory; a poisoned write carries a word that is POISON, whose bytes nobody may use -/
  | hostWrite (addr : Nat) (data : List Byte) (poisoned : Bool)
  /-- a read of host memory issued -/
  | hostRead (unit addr bytes : Nat)
  /-- a register read answered: requester, address, value -/
  | registerRead (requester addr : Nat) (value : Word)
  /-- a memory read answered: requester, address, words -/
  | readData (requester addr : Nat) (data : List Carried)
  /-- a read or write refused, with the completion code of R8 -/
  | refused (requester addr code : Nat)
  /-- an Unsupported Request completion -/
  | unsupported (requester addr : Nat)
  /-- a memory write answered with its completion code -/
  | writeDone (requester addr code : Nat)
  /-- an entry delivered to its consumer -/
  | popEntry (queue unit : Nat) (entry : List Carried)
  /-- a pop of an empty queue -/
  | popEmpty (queue unit : Nat)
  /-- a pop by a unit that is not the consumer -/
  | popDenied (queue unit : Nat)
  /-- the level of a named output pin -/
  | pin (name : String) (level : Bool)
  /-- bytes on TOD_TX -/
  | todTx (data : List Byte)
  /-- an Ethernet frame sent by a fronthaul port -/
  | frame (port : Nat) (data : List Byte)
  /-- an RFM command to a bank of a DRAM channel (R418) -/
  | rfm (channel bank : Nat)
  /-- a frame passed to Thimble firmware with its ingress timestamp in Tc -/
  | thimbleFrame (port stamp : Nat) (data : List Byte)
  /-- the egress timestamp of a PTP frame, in Tc, for Thimble firmware -/
  | egressStamp (port stamp : Nat)
  /-- training frames that a lane sends from now on, or the last ones before data, in levels -/
  | training (lane : Nat) (last : Bool) (symbols : List Nat)
  /-- the first levels of the test pattern that a lane's generator starts to send -/
  | laneTest (lane : Nat) (levels : List Nat)
  /-- one transmitted bit of a lane is inverted -/
  | laneInvert (lane : Nat)
  /-- the L1 inband bits that a CPRI link sends -/
  | cpriL1 (lane : Nat) (los lof rai reset : Bool)
  /-- a basic frame sent on a CPRI link -/
  | cpriFrame (lane bfn hfn x : Nat) (data : List Byte)
  /-- entries of basic frames passed to the framing patch -/
  | cpriPatch (lane : Nat) (entries : List (List Byte))
  /-- a flit that is no queue entry passed on by a stitch -/
  | flit (unit : Nat) (payload : List Carried)
  /-- a command or a write of an object completes with a code of R8 -/
  | objectDone (index sub code : Nat)
  /-- the value that a read of an object returns -/
  | objectValue (index sub : Nat) (data : List Byte)
  /-- a frame sent on a management lane -/
  | mgmtFrame (lane : Nat) (data : List Byte)
  /-- a completion written to the MB-416 completion ring of a slot's command queue: the job's number and its status -/
  | mbCompletion (slot queue number status result extension : Nat) (crcFail : Bool)
  /-- the answer to an MB-416 mailbox command: none is "not supported" -/
  | mbMailbox (slot : Nat) (answer : Option Nat)
  /-- what an MB-416 view register, or a place behind BAR2, answers -/
  | mbRead (slot addr : Nat) (data : List Carried)
  /-- the value that the test port shifts out -/
  | tdo (data : List Bool)
  /-- the boundary register drives the pins -/
  | boundary (data : List Bool)
  /-- the power controller is told to remove the rails, or to restore them -/
  | rails (on : Bool)
  /-- pages of the fuses programmed: SVN minimums, keys and policy bits -/
  | fused (what value : Nat)
deriving DecidableEq, Repr

/-! ## The die -/

/-- The four parts (R642). -/
inductive Variant where
  | cx9840 | cx9832 | cx9820 | cx9816
deriving DecidableEq, Repr

/-- What differs from die to die and no command changes: the variant, the stepping, the serial number, the identity
key's digest and certificate (R540), and the fused VDD_CORE setpoint (R651). -/
structure Die where
  variant : Variant
  stepping : Nat
  serial : Nat
  keyDigest : List Byte
  certificate : List Byte
  coreMillivolts : Nat
deriving DecidableEq, Repr

/-- A half of a 64-bit register kept for a requester (R30): requester, register address, half. -/
structure HalfKept where
  requester : Nat
  addr : Nat
  half : Nat
deriving DecidableEq, Repr

/-! ## The time base -/

/-- A carrier timer as it runs (R81): what its registers have put into effect, whether software has written them in this
tick, and where it stands. -/
structure Carrier where
  on : Bool
  slotEvent : Bool
  ty : Nat
  ecp : Bool
  offset : Nat
  written : Bool
  /-- the tick at which ENABLE took effect -/
  since : Nat
  /-- the frame boundary at which it started, none until then -/
  start : Option Nat
  /-- the last slot start whose EV_CARRIER_SLOT has been raised -/
  lastSlot : Option Nat
deriving DecidableEq, Repr

/-- A carrier timer that is off. -/
def Carrier.off : Carrier := ⟨false, false, 0, false, 0, false, 0, none, none⟩

/-- A comparator as it runs (R84, R85): what its registers have put into effect, what software has written in this tick,
and its schedule. -/
structure Comparator where
  arm : Bool
  mode : Nat
  kind : Nat
  anchor : Nat
  carrier : Nat
  target : Nat
  /-- the match tick -/
  due : Nat
  period : Nat
  mask : Nat
  offset : Nat
  /-- TM_CMP_CTRL, TM_CMP_MATCH, or another of its registers has been written in this tick -/
  ctrl : Bool
  matched : Bool
  other : Bool
  /-- the tick at which its arming took effect -/
  armedAt : Nat
  /-- mode 2: the scheduled fire's tick and the boundary it is for -/
  next : Option (Nat × Nat)
  /-- mode 2: the last boundary fired -/
  lastBoundary : Option Nat
deriving DecidableEq, Repr

/-- A comparator that has not been written. -/
def Comparator.idle : Comparator where
  arm := false
  mode := 0
  kind := 0
  anchor := 0
  carrier := 0
  target := 0
  due := 0
  period := 0
  mask := 0x3FFF
  offset := 0
  ctrl := false
  matched := false
  other := false
  armedAt := 0
  next := none
  lastBoundary := none

/-- A trigger flit on its way to a DMA channel or to the Shuttle (R84, R445). -/
inductive Trigger where
  | dma (channel cls deadline : Nat)
  | shuttle (trigger deadline : Nat)
deriving DecidableEq, Repr

/-- What drives the time base (R75): the system reference, the synthesis from the lane reference, or the timing island's
internal oscillator. -/
inductive Reference where
  | system | lane | internal
deriving DecidableEq, Repr

/-- The time base and the servo (R62 to R78). -/
structure TimeBase where
  /-- the 64-bit integer count of ticks -/
  count : Nat
  /-- the 44-bit fraction -/
  frac : Nat
  /-- reference periods since the last cold reset -/
  periods : Nat
  /-- how far each island's replica lags the count, in ticks (R64); unlisted 0 -/
  lags : Tab Nat
  /-- the shadow of count, fraction and ADJ in the Thimble island (R69) -/
  shadowCount : Nat
  shadowFrac : Nat
  shadowAdj : Nat
  /-- the tick at which the synchronization state was entered -/
  stateSince : Nat
  /-- phase error of a waiting step, count minus source in ticks (R73) -/
  stepWaiting : Option Int
  /-- since when the count has been within 100 ns of the source (R70) -/
  within : Option Nat
  /-- the tick at which TIME.SOURCE was last written -/
  sourceTick : Nat
  /-- the tick of the last TIME.HOST_STATE write (R72) -/
  hostStateTick : Option Nat
  /-- past values of ADJ with the tick at which each ended, newest first (R71) -/
  adjHistory : List (Nat × Int)
  /-- the system reference is lost, and it has returned since the last tick; the 156.25 MHz lane reference is lost (R75) -/
  sysrefLost : Bool
  sysrefBack : Bool
  laneRefLost : Bool
  /-- the level of PPS_OUT -/
  ppsOut : Bool
  /-- the tick of the last PPS_IN edge -/
  ppsInTick : Option Nat
  /-- EV_PPS_IN_LOST has been raised since that edge -/
  ppsInLost : Bool
  /-- a time-of-day message has completed, or has been found missing, since that edge -/
  todSeen : Bool
  /-- the second for which TOD_TX has sent its message -/
  todSent : Option Nat
  /-- bad time-of-day messages in a row (R78) -/
  todBad : Nat
  carriers : Tab Carrier
  comparators : Tab Comparator
  /-- fires issued in this tick (R84) -/
  fired : Nat
  /-- trigger flits under way -/
  triggers : List Trigger
deriving DecidableEq, Repr

/-- What drives the time base at present (R75). -/
def TimeBase.reference (t : TimeBase) : Reference :=
  if !t.sysrefLost then .system else if !t.laneRefLost then .lane else .internal

/-! ## Engines -/

/-- The states of R153. -/
inductive EngState where
  | held | halted | waiting | running | free
deriving DecidableEq, Repr

/-- The value of ENG_STATE.STATE. -/
def EngState.code : EngState → Nat
  | .held => 0 | .halted => 1 | .waiting => 2 | .running => 3 | .free => 4

/-- What an instruction of an engine waits for (R128). -/
inductive EngWait where
  /-- nothing -/
  | none
  /-- PUSH waits for a credit of the queue (R143): the queue, the base register, and its new value when PUSH retires -/
  | credit (queue base : Nat) (updated : Word)
  /-- POPW waits for an entry of the queue, to be stored at `ea`; its base register and that register's new value -/
  | entry (queue ea base : Nat) (updated : Word)
  /-- POP or POPW at an aliased queue waits for the peer's answer (R374): the queue, ea, the base register and its new
  value, and POP's result register -/
  | peer (queue ea base : Nat) (updated : Word) (result : Option Nat)
  /-- EXIT waits for the job's pushes to land (R150): the code, RESULT and RESULT_EXT it reports -/
  | exit (code result ext : Nat)
  /-- a fused instruction waits for the quad's Gusset (R192, R205) -/
  | gusset
  /-- an instruction waits in E4 for an island or a bank to answer, or FENCE for acknowledgements (R14, R134): it is
  presented again. Memory has accepted the elements of a vector store below `done` (R177) -/
  | again (done : Nat)
deriving DecidableEq, Repr

/-- The engine state of R125, R126, R160, R162 and R197, and what the Shuttle has given the engine. -/
structure Engine where
  state : EngState
  g : Vector Word 32
  m : Vector Word 8
  a : Vector (BitVec 40) 4
  v : Vector Vec 32
  pc : Nat
  status : BitVec 32
  estatus : BitVec 32
  epc : Nat
  ecause : Nat
  eaddr : Nat
  evec : Nat
  jobTag : Word
  srchVal : BitVec 32
  srchIdx : BitVec 32
  srchBase : BitVec 32
  /-- SRCHI has run since the last replacement (R141) -/
  srchArmed : Bool
  cbBase : Vector (BitVec 48) 4
  cbLen : Vector (BitVec 24) 4
  vl : Nat
  vfault : BitVec 16
  eindex : Nat
  /-- MB_SR bits RNDM and SATM (R197); OV is read from STATUS -/
  mbSr : Nat
  /-- the event inbox, oldest first, at most 8 -/
  inbox : List Nat
  /-- the Shuttle job that runs, by its number -/
  job : Option Nat
  /-- the job-late signal has been raised and not yet taken (R151) -/
  late : Bool
  /-- the tick of the job-late signal -/
  lateTick : Option Nat
  /-- the job has executed a PUSH (R152) -/
  pushed : Bool
  /-- the job's DONE is to be reported as POISON (R136, R143) -/
  poisoned : Bool
  /-- the next instruction is the one that ERET resumes at EPC (R174) -/
  resumed : Bool
  wait : EngWait
  /-- the tick of the last engine reset or release (R626) -/
  resetTick : Nat
  /-- CYCLE as far as it has been counted (R126), and the tick since which it has not been -/
  cycle : Word
  cycleTick : Nat
  /-- the aliased queue from which a pop was asked for a POPW that no longer waits, and the entry that came for it (R374) -/
  popAsked : Option Nat
  popKept : Option (Nat × List Carried)
  /-- the view of an MB partition shows RESET for the engine in HALTED: it has not been released or started since its last
  reset (R625) -/
  fresh : Bool
deriving DecidableEq, Repr

/-- The register state that an engine reset gives (R125, R126, R160, R162). -/
def Engine.cleared (st : EngState) : Engine where
  state := st
  g := Vector.replicate 32 0
  m := Vector.replicate 8 0
  a := Vector.replicate 4 0
  v := Vector.replicate 32 0
  pc := 0
  status := 0
  estatus := 0
  epc := 0
  ecause := 0
  eaddr := 0
  evec := 0
  jobTag := 0
  srchVal := 0
  srchIdx := 0
  srchBase := 0
  srchArmed := false
  cbBase := Vector.replicate 4 0
  cbLen := Vector.replicate 4 0
  vl := 16
  vfault := 0
  eindex := 0
  mbSr := 0
  inbox := []
  job := none
  late := false
  lateTick := none
  pushed := false
  poisoned := false
  resumed := false
  wait := .none
  resetTick := 0
  cycle := 0
  cycleTick := 0
  popAsked := none
  popKept := none
  fresh := true

/-- The MB-416 core states of R625. -/
inductive MbCoreState where
  | reset | stopped | running | waiting | faulted
deriving DecidableEq, Repr

/-- A number for each MB-416 core state. -/
def MbCoreState.toNat : MbCoreState → Nat
  | .reset => 0 | .stopped => 1 | .running => 2 | .waiting => 3 | .faulted => 4

/-! ## Gussets -/

/-- One 512-bit Gusset register: a 4×4 matrix of complex 16-bit elements (R202). -/
abbrev GReg := BitVec 512

/-- An operation on Gusset registers (R207). -/
inductive GOp where
  | movt (d row : Nat) (value : Vec)
  | movf (vd q row : Nat)
  | mul (d a b : Nat)
  | mulh (d a b : Nat)
  | mulbh (d a b : Nat)
  | mac (d a b : Nat)
  | msu (d a b : Nat)
  | add (d a b : Nat)
  | sub (d a b : Nat)
  | herm (d a : Nat)
  | zero (d : Nat)
  | shr (d a n : Nat)
  /-- GSTAT into scalar register gd (R211) -/
  | stat (gd : Nat)
deriving DecidableEq, Repr

/-- An instruction that a Gusset has been given: its bank, operation, rounding mode, its tag where it is an MB command,
and its result once it has begun (the register written, its value, whether a part saturated). -/
structure GWork where
  bank : Nat
  op : GOp
  rnd : Nat
  tag : Option Nat
  /-- the engine has retired it; an MB command has before it is queued (R209, R212) -/
  retired : Bool
  begun : Bool
  value : GReg
  saturated : Bool
deriving DecidableEq, Repr

/-- A Gusset (R202 to R214). -/
structure Gusset where
  /-- registers 0–63; unlisted 0 -/
  regs : Tab GReg
  /-- per bank: the instruction its engine presents -/
  presented : Tab GWork
  /-- accepted instructions, oldest first -/
  work : List GWork
  /-- MB commands queued and not yet accepted, oldest first (R212) -/
  queued : List GWork
  /-- the round-robin pointer (R204) -/
  next : Nat
  /-- banks with QSAT set -/
  qsat : List Nat
  /-- words (register × 8 + word) that hold the poison mark (R561) -/
  poison : List Nat
deriving DecidableEq, Repr

/-- A Gusset after reset. -/
def Gusset.reset : Gusset := ⟨[], [], [], [], 0, [], []⟩

/-! ## Hem chains -/

/-- A run of samples that a stream has accepted: the tick of its first sample, its length, its ring index (R288). -/
structure HemRun where
  first : Nat
  count : Nat
  pos : Nat
deriving DecidableEq, Repr

/-- A stream of a Hem chain beside its registers (R289 to R295). -/
structure HemStream where
  /-- runs accepted, newest first -/
  runs : List HemRun
  /-- the start tick of the symbol whose window comes next -/
  next : Nat
  /-- the last tick of the last window processed -/
  done : Option Nat
  /-- L of the previous window -/
  level : Option Int
  freezeEnd : Nat
  /-- a gain that host software has written and the next window takes -/
  gain : Option Nat
deriving DecidableEq, Repr

/-- A stream that has seen nothing. -/
def HemStream.idle : HemStream := ⟨[], 0, none, none, 0, none⟩

/-- A stream without its runs and windows; its freeze and a gain that waits stay. -/
def HemStream.quiet (x : HemStream) : HemStream := { HemStream.idle with freezeEnd := x.freezeEnd, gain := x.gain }

/-! ## Serial lanes -/

/-- A lane's search for alignment (R312, R313). -/
structure LaneSearch where
  /-- the last bits received of an 8b/10b lane, newest first, and the place of the last one, mod 10 -/
  window : List Bool
  pos : Nat
  /-- the alignment: the place of a comma's last bit mod 10, or the bit position of a Seam comma -/
  place : Option Nat
  /-- commas counted at it -/
  count : Nat
  /-- while aligned: invalid code groups in a row, or superframe positions without a hit -/
  invalid : Nat
  /-- commas in a row at another alignment, and that alignment -/
  stray : Nat
  strays : Nat
  /-- Seam commas seen, with how many lie one superframe apart up to each -/
  hits : List (Nat × Nat)
deriving DecidableEq, Repr

/-- A search that has seen nothing. -/
def LaneSearch.idle : LaneSearch := ⟨[], 0, none, 0, 0, 0, 0, []⟩

/-- A lane's checker (R316): the last bits of its sequence and the errors of the last bits checked, both newest first, and the
bits in a row without error while it seeks. -/
structure LaneCheck where
  history : List Bool
  clean : Nat
  errors : List Bool
deriving DecidableEq, Repr

/-- A checker that has seen nothing. -/
def LaneCheck.idle : LaneCheck := ⟨[], 0, []⟩

/-- A serial lane beside its registers (R306 to R318). -/
structure Lane where
  /-- the tick at which its state was entered -/
  since : Nat
  /-- the status field: PRESET_ACK, TAP, RESULT (R309) -/
  ack : Nat
  tap : Nat
  result : Nat
  /-- RX_READY has been accepted from the far end -/
  farReady : Bool
  /-- ticks of training failures and alignment losses, newest first (R320) -/
  failures : List Nat
  /-- the ticks at which the transmitter and the receiver last left ACTIVE -/
  txTick : Nat
  rxTick : Nat
  /-- training (R308 to R311): the control field that it sends, the frames sent with RX_READY, the control field last received
  and in how many frames in a row -/
  control : Nat
  readySent : Nat
  heard : Nat
  heardFor : Nat
  search : LaneSearch
  /-- test (R315, R316): the generator's register, newest bit first, a bit to be inverted, the checker, and the words in the
  buffer of the far-end loop -/
  gen : List Bool
  inject : Bool
  check : LaneCheck
  loopWords : Nat
deriving DecidableEq, Repr

/-- A lane that has done nothing. -/
def Lane.idle : Lane :=
  ⟨0, 0, 0, 0, false, [], 0, 0, 0, 0, 0, 0, LaneSearch.idle, [], false, LaneCheck.idle, 32⟩

/-! ## Fronthaul -/

/-- A stream-table entry: its four words (R335). -/
structure StEntry where
  w0 : Nat
  w1 : Nat
  w2 : Nat
  w3 : Nat
deriving DecidableEq, Repr

/-- An entry never written: not valid. -/
def StEntry.empty : StEntry := ⟨0, 0, 0, 0⟩

/-- An uplink symbol that has had a message (R338 to R341). -/
structure UpSymbol where
  entry : Nat
  sfn : Nat
  slot : Nat
  sym : Nat
  /-- the tick at which its window closes -/
  close : Nat
  /-- it has been closed because every PRB has landed -/
  closed : Bool
  /-- PRBs received -/
  prbs : List Nat
  early : Bool
  late : Bool
  dup : Bool
  sat : Bool
  first : Nat
  last : Nat
deriving DecidableEq, Repr

/-- A downlink symbol to be sent: port, entry, place in time, start tick (R342). -/
structure DownSymbol where
  port : Nat
  entry : Nat
  sfn : Nat
  slot : Nat
  sym : Nat
  start : Nat
deriving DecidableEq, Repr

/-- A CPRI link beside its registers (R344 to R346). -/
structure Cpri where
  /-- consecutive hyperframe starts whose HFN rose by one -/
  good : Nat
  /-- the tick of the last hyperframe start -/
  last : Nat
  /-- basic frames that wait for the patch, oldest first, as entries -/
  waiting : List (List (List Byte))
deriving DecidableEq, Repr

/-- A link that has seen nothing. -/
def Cpri.idle : Cpri := ⟨0, 0, []⟩

/-- The fronthaul block beside its registers. -/
structure Fronthaul where
  table : Tab StEntry
  /-- symbols open or closed early, oldest first -/
  ups : List UpSymbol
  downs : List DownSymbol
  /-- sequence IDs last received and last sent, by entry (R328) -/
  rxSeq : Tab (Option Nat)
  txSeq : Tab Nat
  /-- ticks of the last reasons 0x04 and 0x05 of a port, at port × 2 + 0 or 1 -/
  ticks : Tab (Option Nat)
  /-- the last 64 quarantined keys with their ticks, newest first (R343) -/
  keys : List (Nat × Nat)
  cpri : Tab Cpri
  /-- an entry popped from a port's TXQ_C whose payload read waits at a stitch (R14) -/
  held : Tab (Option (List Carried))
deriving DecidableEq, Repr

/-! ## DRAM -/

/-- A request at a DRAM channel (R411). -/
structure DramReq where
  unit : Nat
  write : Bool
  addr : Nat
  deadline : Nat
  cls : Nat
  arrival : Nat
deriving DecidableEq, Repr

/-- An entry of the activation tracker (R419): the row as subchannel, rank, bank group, bank and row in one number. -/
structure DramRow where
  key : Nat
  count : Nat
  repeats : Nat
  unit : Nat
  vote : Nat
deriving DecidableEq, Repr

/-- A throttled unit (R421): until when, at which bank, and its last activation there. -/
structure DramThrottle where
  unit : Nat
  bank : Nat
  until_ : Nat
  last : Nat
deriving DecidableEq, Repr

/-- A rank beside its registers: what R408, R415, R416, R422 and R423 keep of it. -/
structure DramRank where
  /-- debt D in ns at tick `at_` -/
  debt : Int
  at_ : Nat
  /-- it runs at the 2x refresh rate -/
  fast : Bool
  /-- the ticks of its last use, temperature poll, ZQ calibration and oscillator read -/
  used : Nat
  polled : Option Nat
  zq : Option Nat
  dqs : Option Nat
  /-- the write timing's adjustment -/
  drift : Int
  /-- it is to be retrained -/
  retrain : Bool
  powerDown : Bool
  /-- the tick at which it entered self-refresh -/
  selfRefresh : Option Nat
  /-- ticks of whole-chip corrections, and bursts with uncorrectable reads with their ticks, newest first (R427) -/
  chips : List Nat
  bursts : List (Nat × Nat)
  /-- the burst last judged for them, with its tick -/
  seen : Option (Nat × Nat)
  /-- it has left self-refresh, and a temperature poll comes before the first request (R424) -/
  pollFirst : Bool
deriving DecidableEq, Repr

/-- A rank after reset. -/
def DramRank.idle : DramRank where
  debt := 0
  at_ := 0
  fast := false
  used := 0
  polled := none
  zq := none
  dqs := none
  drift := 0
  retrain := false
  powerDown := false
  selfRefresh := none
  chips := []
  bursts := []
  seen := none
  pollFirst := false

/-- A channel beside its registers. -/
structure DramCh where
  waiting : List DramReq
  /-- requests that wait at their unit's own side for a credit (R410) -/
  held : List DramReq
  /-- open rows by bank -/
  opened : Tab Nat
  /-- row hits in a row that have passed over the first request, by subchannel -/
  hits : Tab Nat
  /-- writes go ahead of reads, by subchannel (R414) -/
  draining : Tab Bool
  tracker : List DramRow
  /-- the tick at which the refresh window began -/
  window : Nat
  throttles : List DramThrottle
  ranks : Tab DramRank
  /-- the rolling activation count of each bank (R418) -/
  activations : Tab Nat
deriving DecidableEq, Repr

/-- A channel that has done nothing. -/
def DramCh.idle : DramCh := ⟨[], [], [], [], [], [], 0, [], [], []⟩

/-! ## DMA channels -/

/-- What a channel holds for its next waiting descriptor (R445, R446): a trigger, with the tag that it brings, or a void
entry's code. -/
inductive DmaItem where
  | trigger (tag : Option (Nat × Nat))
  | gone (code : Nat)
deriving DecidableEq, Repr

/-- A descriptor as fetched (R437), without its status word. -/
structure DmaDesc where
  op : Nat
  wait : Bool
  evt : Bool
  wb : Bool
  tagSrc : Bool
  dst : Nat
  /-- the source address, or the pattern -/
  src : Nat
  len : Nat
  cls : Nat
  deadline : Nat
  stop : Bool
  next : Nat
deriving DecidableEq, Repr

/-- A DMA channel beside its registers (R437 to R454). -/
structure DmaCh where
  desc : Option DmaDesc
  /-- class and deadline in force -/
  cls : Nat
  deadline : Nat
  /-- bytes moved or pushed -/
  moved : Nat
  poisoned : Bool
  /-- entries that the engine has pushed to the descriptor's queue behind the last of this channel -/
  behind : Nat
  /-- triggers and void entries held, oldest first -/
  items : List DmaItem
  /-- a fresh read of the link word: not served yet, since it waits at a stitch, or on its way back with the word -/
  link : Option (Option Carried)
deriving DecidableEq, Repr

/-- A channel that has done nothing. -/
def DmaCh.idle : DmaCh := ⟨none, 0, 0, 0, false, 0, [], none⟩

/-- The DMA engines beside their registers: the channels, and the channel that each engine served last (R443). -/
structure Dma where
  channels : Tab DmaCh
  last : Tab Nat
deriving DecidableEq, Repr

/-! ## The Quilt -/

/-- Where the configuration stream of a patch stands (R468): before SYNC, at a command, or with words left of a KEY's IV, of
frame data, of block memory data or of a TAG. -/
inductive StreamPhase where
  | sync
  | command
  | iv (left : Nat)
  | frames (left : Nat)
  | bmem (block word left : Nat)
  | tag (words : List Word)
deriving DecidableEq, Repr

/-- The KEY of a stream (R468, R470): slot, words of body left, place of the body's first word, IV, the words that are
authenticated, the body so far, and whether the tag has been found good. -/
structure StreamKey where
  slot : Nat
  left : Nat
  body : Nat
  iv : List Word
  aad : List Word
  cipher : List Word
  good : Bool
deriving DecidableEq, Repr

/-- A Quilt patch beside its registers and block memories. -/
structure Patch where
  /-- configuration frames as 64 codewords each, at column × 96 + frame; unlisted zero (R460) -/
  frames : Tab (List (BitVec 80))
  /-- the digest store: digest and byte offset in the stream; unlisted a zero frame (R471) -/
  digests : Tab (List Byte × Nat)
  /-- stream words that have arrived, oldest first; none is a write that is no whole word -/
  stream : List (Option Word)
  /-- words taken -/
  count : Nat
  phase : StreamPhase
  key : Option StreamKey
  /-- the frame that the stream writes next, its words so far, and the offset of the first of them -/
  frame : Nat
  buf : List Word
  first : Nat
  /-- plaintext words from SYNC on, TAG words left out (R471) -/
  plain : List Word
  /-- words that QP_FDRO pops -/
  readback : List Word
  /-- the levels of the border outputs (R462) -/
  outs : Nat
  /-- the job that the logic has been given, and the tick of its job-late signal (R465) -/
  given : Option Nat
  late : Option Nat
deriving DecidableEq, Repr

/-- A patch that has never been loaded. -/
def Patch.empty : Patch := ⟨[], [], [], 0, .sync, none, 0, [], 0, [], [], 0, none, none⟩

/-- The scrubber beside its registers (R476 to R480). -/
structure Scrub where
  /-- the tick at which the last sweep began; none where the next may begin at once -/
  since : Option Nat
  /-- patches of the sweep not yet finished, rising, and the next frame of the first of them -/
  left : List Nat
  frame : Nat
  /-- the number of the sweep, which decides what its test errors are -/
  test : Nat
  /-- the three copies of QS_CTRL.ENABLE and QS_PERIOD (R479) -/
  copies : List (Nat × Nat)
deriving DecidableEq, Repr

/-- The scrubber after reset. -/
def Scrub.reset : Scrub := ⟨none, [], 0, 0, [(1, 10000), (1, 10000), (1, 10000)]⟩

/-! ## Power -/

/-- An island beside its registers (R551 to R560). -/
structure Isl where
  /-- how many of the five steps of entry it has taken (R554) -/
  step : Nat
  /-- it wakes; true where that aborts an entry -/
  waking : Option Bool
  /-- the NEXT_USE last received: a tick, or NONE -/
  nextUse : Option Nat
  /-- the tick of the last flit across its stitches -/
  lastFlit : Nat
  /-- the tick at which a flit began to wait for it, and the bank that the flit needs -/
  stall : Option (Nat × Option Nat)
  /-- the tick of its last EV_WAKE_OVERRUN -/
  overrunTick : Option Nat
  /-- retained banks that have not been swept (R560) -/
  closed : List Nat
  /-- its target under the hold of R566 -/
  goal : Nat
deriving DecidableEq, Repr

/-- An island that runs. -/
def Isl.run : Isl := ⟨0, none, none, 0, none, none, [], 0⟩

/-- The power manager beside its registers. -/
structure Pm where
  islands : Tab Isl
  /-- refused decisions, a group or 16 for device DEEP, with the tick before which they are not retried (R559) -/
  retries : List (Nat × Nat)
  /-- the tick of the last EV_PM_REFUSED -/
  refusedTick : Option Nat
  /-- device OFF (R568) -/
  off : Bool
deriving DecidableEq, Repr

/-! ## Seam links and the bolt -/

/-- A Seam link beside its registers (R357 to R362). -/
structure SeamLink where
  /-- units that wait to be sent, oldest first -/
  queue : List SeamUnit
  /-- the replay buffer: units sent and not acknowledged, with their SEQ, oldest first -/
  replay : List (Nat × SeamUnit)
  /-- the SEQ of the next unit sent, and the SEQ expected -/
  nextSeq : Nat
  expected : Nat
  /-- units received and not acknowledged -/
  unacked : Nat
  /-- the tick of the NAK that is outstanding -/
  nak : Option Nat
  /-- the tick of the last acknowledgement received or resend -/
  progress : Nat
  /-- the SEQ last resent first, and how often in a row -/
  resentSeq : Nat
  resends : Nat
  /-- credits for the far end's buffers spent (R360), and credits of the own buffers to be returned, at vc × 8 + hop -/
  spent : Tab Nat
  owed : Tab Nat
  /-- blocks put on each lane in the tick `laneTick` -/
  laneBlocks : Tab Nat
  laneTick : Nat
  /-- lanes whose transmitter is quiet or has been woken and not yet answered for (R362) -/
  quiet : List Nat
  /-- the tick since which the queue has held at most one unit -/
  idleSince : Nat
  /-- the ticks of the last TIME and IDENT blocks sent -/
  timeSent : Option Nat
  identSent : Option Nat
  /-- by lane: blocks sent since its last FILL block, and the blocks in its receiver's elastic buffer less 16 (R305) -/
  sinceFill : Tab Nat
  elastic : Tab Int
deriving DecidableEq, Repr

/-- A link that has carried nothing. -/
def SeamLink.idle : SeamLink := ⟨[], [], 0, 0, 0, none, 0, 0, 0, [], [], [], 0, [], 0, none, none, [], []⟩

/-- An alias in effect (R374). -/
structure SeamAlias where
  en : Bool
  peer : Nat
  remoteBase : Nat
  localLast : Nat
  localBase : Nat
deriving DecidableEq, Repr

/-- An epoch change at its proposer (R367). -/
structure Proposal where
  epoch : Nat
  te : Nat
  /-- the members of E and of E + 1 -/
  old : Nat
  new : Nat
  acks : List Nat
  /-- the outcome that it has sent -/
  outcome : Option Bool
deriving DecidableEq, Repr

/-- A change that a member has acknowledged, its proposer, and its outcome so far. -/
structure HeldChange where
  change : SeamChange
  proposer : Nat
  outcome : Option Bool
deriving DecidableEq, Repr

/-- How far an admission has come, seen from one side (R366). -/
structure Admission where
  peer : Nat
  /-- 1 JOIN sent or received, 2 CHAL, 3 PROOF -/
  stage : Nat
  /-- the tick of its last step -/
  tick : Nat
  nonceC : List Byte
  nonceL : List Byte
  certificate : List Byte
deriving DecidableEq, Repr

/-- A read of a peer's memory that has not been answered (R373). -/
structure PeerRead where
  peer : Nat
  unit : Nat
  addr : Nat
  tick : Nat
deriving DecidableEq, Repr

/-- The Seam block and the bolt beside their registers. -/
structure Seam where
  links : Tab SeamLink
  /-- units for a die to which there is no route, or whose old route has not acknowledged all (R368, R372) -/
  parked : List SeamUnit
  /-- the link on which die n, not a member, was last heard (R366) -/
  paths : Tab (Option Nat)
  /-- the old link of a die whose route has changed -/
  oldRoute : Tab (Option Nat)
  /-- what this die allows die n, under the present and the last window set, and until when the last one is in force -/
  inbound : Tab SeamRights
  inboundOld : Tab SeamRights
  switchAt : Option Nat
  /-- what die n allows this die -/
  outbound : Tab SeamRights
  aliases : Tab SeamAlias
  reads : List PeerRead
  /-- entries and writes sent to peers whose acknowledgement has not come back: die, unit, an entry's queue there (R134,
  R150) -/
  awaited : List (Nat × Nat × Option Nat)
  /-- entries of peers on their way to a queue here: die, queue, unit there, oldest first -/
  landing : List (Nat × Nat × Nat)
  /-- credit requests of peers: die, queue, unit there, oldest first -/
  asks : List (Nat × Nat × Nat)
  /-- events from peers, oldest first (R375) -/
  events : List (Nat × Nat)
  /-- CTRL messages that have arrived and wait to be taken, oldest first: sender, message -/
  arrivals : List (Nat × SeamBody)
  proposal : Option Proposal
  held : Option HeldChange
  /-- the last epoch number for which this die has acknowledged a CHANGE -/
  ackedEpoch : Nat
  /-- members that the leader has admitted, lost, or heard to be leaving -/
  admitted : Nat
  leaving : Nat
  /-- a member has asked for an epoch change (R379) -/
  wanted : Bool
  /-- this die proposes in the leader's place (R368) -/
  candidate : Bool
  /-- heartbeats in a row that die n has not answered, the ticks of the last one sent and of the last one heard -/
  missed : Tab Nat
  beatSent : Option Nat
  beatHeard : Nat
  /-- members declared lost -/
  lost : List Nat
  /-- this die's own admission, and those that it handles as leader -/
  joining : Option Admission
  joiners : List Admission
  /-- the tick before which JOIN is not sent again -/
  retryAt : Nat
  /-- the time offset last measured to a peer (R376) -/
  offsets : Tab Int
  advertTick : Option Nat
deriving DecidableEq, Repr

/-- No rights. -/
def SeamRights.none : SeamRights := ⟨[], false, 0, 0⟩

/-- An alias that is off. -/
def SeamAlias.off : SeamAlias := ⟨false, 0, 0, 0, 0⟩

/-- The Seam block after reset. -/
def Seam.reset : Seam where
  links := []
  parked := []
  paths := []
  oldRoute := []
  inbound := []
  inboundOld := []
  switchAt := .none
  outbound := []
  aliases := []
  reads := []
  awaited := []
  landing := []
  asks := []
  events := []
  arrivals := []
  proposal := .none
  held := .none
  ackedEpoch := 0
  admitted := 0
  leaving := 0
  wanted := false
  candidate := false
  missed := []
  beatSent := .none
  beatHeard := 0
  lost := []
  joining := .none
  joiners := []
  retryAt := 0
  offsets := []
  advertTick := .none

end Sys2Proof.Machine
end

