-- ==== Sys2Proof/Machine/ObjMap.lean ====
section
/-!
DEFINITION. Every object of the object dictionary: index, subindex, type, access code, default, range, whether it is
persistent, a history object, or writable only in STOPPED (R511 to R519).
-/

namespace Sys2Proof.Machine

namespace Ob

/-- PART.STATE, R20. -/
def oPART_STATE : Obj := ⟨0, 0x2100, 8, 1, 1, .u8, .ro, 0, 0, 0xff, false, false, false⟩
/-- PART.PERSONALITY, R20. -/
def oPART_PERSONALITY : Obj := ⟨1, 0x2100, 8, 2, 1, .u8, .rw, 0, 0, 1, true, false, true⟩
/-- PART.PANEL_MASK, R20. -/
def oPART_PANEL_MASK : Obj := ⟨2, 0x2100, 8, 3, 1, .u64, .rw, 0, 0, 0xffffffffffffffff, true, false, true⟩
/-- PART.PATCH_MASK, R20. -/
def oPART_PATCH_MASK : Obj := ⟨3, 0x2100, 8, 4, 1, .u8, .rw, 0, 0, 0xff, true, false, true⟩
/-- PART.LANE_MASK, R20. -/
def oPART_LANE_MASK : Obj := ⟨4, 0x2100, 8, 5, 1, .u64, .rw, 0, 0, 0xffffffffffffffff, true, false, true⟩
/-- PART.QUEUE_BASE, R20. -/
def oPART_QUEUE_BASE : Obj := ⟨5, 0x2100, 8, 6, 1, .u16, .rw, 0, 0, 0xffff, true, false, true⟩
/-- PART.QUEUE_COUNT, R20. -/
def oPART_QUEUE_COUNT : Obj := ⟨6, 0x2100, 8, 7, 1, .u32, .rw, 0, 0, 0x10000, true, false, true⟩
/-- PART.HOST_FUNCTION, R20. -/
def oPART_HOST_FUNCTION : Obj := ⟨7, 0x2100, 8, 8, 1, .u8, .rw, 0xff, 0, 0xff, true, false, true⟩
/-- PART.COMMAND, R20. -/
def oPART_COMMAND : Obj := ⟨8, 0x2100, 8, 9, 1, .u8, .wo, 0, 0, 0xff, false, false, false⟩
/-- TIME.SOURCE, R76. -/
def oTIME_SOURCE : Obj := ⟨9, 0x3000, 1, 1, 1, .u8, .rw, 0, 0, 3, true, false, false⟩
/-- TIME.STATE, R76. -/
def oTIME_STATE : Obj := ⟨10, 0x3000, 1, 2, 1, .u8, .ro, 0, 0, 0xff, false, false, false⟩
/-- TIME.PTP_DOMAIN, R76. -/
def oTIME_PTP_DOMAIN : Obj := ⟨11, 0x3000, 1, 3, 1, .u8, .rw, 0x18, 0x18, 0x2b, true, false, false⟩
/-- TIME.PTP_PORT_MASK, R76. -/
def oTIME_PTP_PORT_MASK : Obj := ⟨12, 0x3000, 1, 4, 1, .u64, .rw, 0, 0, 0xffffffffffffffff, true, false, false⟩
/-- TIME.SYNCE_LANE, R76. -/
def oTIME_SYNCE_LANE : Obj := ⟨13, 0x3000, 1, 5, 1, .u8, .rw, 0xff, 0, 0xff, true, false, false⟩
/-- TIME.HOLDOVER_AVG_S, R76. -/
def oTIME_HOLDOVER_AVG_S : Obj := ⟨14, 0x3000, 1, 6, 1, .u32, .rw, 0x12c, 0, 0xffffffff, true, false, false⟩
/-- TIME.HOLDOVER_LIMIT_S, R76. -/
def oTIME_HOLDOVER_LIMIT_S : Obj := ⟨15, 0x3000, 1, 7, 1, .u32, .rw, 0x3840, 0, 0xffffffff, true, false, false⟩
/-- TIME.PPS_OUT_WIDTH_US, R76. -/
def oTIME_PPS_OUT_WIDTH_US : Obj := ⟨16, 0x3000, 1, 8, 1, .u16, .rw, 0x64, 1, 0x7a120, true, false, false⟩
/-- TIME.UTC_OFFSET_S, R76. -/
def oTIME_UTC_OFFSET_S : Obj := ⟨17, 0x3000, 1, 9, 1, .i16, .rw, 0x25, 0, 0xffff, true, false, false⟩
/-- TIME.CLOCK_CLASS, R76. -/
def oTIME_CLOCK_CLASS : Obj := ⟨18, 0x3000, 1, 10, 1, .u8, .ro, 0xf8, 0, 0xff, false, false, false⟩
/-- TIME.HOST_STATE, R76. -/
def oTIME_HOST_STATE : Obj := ⟨19, 0x3000, 1, 11, 1, .u8, .rw, 0, 0, 3, false, false, false⟩
/-- TIME.PHASE_ERR_NS, R76. -/
def oTIME_PHASE_ERR_NS : Obj := ⟨20, 0x3000, 1, 12, 1, .i64, .ro, 0, 0, 0xffffffffffffffff, false, false, false⟩
/-- SHUTTLE.MAX_PENDING, R121. -/
def oSHUTTLE_MAX_PENDING : Obj := ⟨21, 0x6200, 1, 1, 1, .u16, .const, 0x4000, 0, 0xffff, false, false, false⟩
/-- SHUTTLE.LEND_MAX_TICKS, R121. -/
def oSHUTTLE_LEND_MAX_TICKS : Obj := ⟨22, 0x6200, 1, 2, 1, .ticks48, .rws, 0x2240, 0, 0xffffffffffff, true, false, false⟩
/-- SHUTTLE.RETRY_LIMIT, R121. -/
def oSHUTTLE_RETRY_LIMIT : Obj := ⟨23, 0x6200, 1, 3, 1, .u8, .rws, 1, 0, 2, true, false, false⟩
/-- SHUTTLE.GRACE_TICKS, R121. -/
def oSHUTTLE_GRACE_TICKS : Obj := ⟨24, 0x6200, 1, 4, 1, .ticks48, .rws, 0x1120, 1, 0xffffff, true, false, false⟩
/-- SHUTTLE.OFFER_TIMEOUT_TICKS, R121. -/
def oSHUTTLE_OFFER_TIMEOUT_TICKS : Obj := ⟨25, 0x6200, 1, 5, 1, .ticks48, .rws, 0x100, 0, 0xffffffffffff, true, false, false⟩
/-- SHUTTLE.FORECAST_HORIZON, R121. -/
def oSHUTTLE_FORECAST_HORIZON : Obj := ⟨26, 0x6200, 1, 6, 1, .ticks48, .rws, 0x12c000, 0, 0xffffffffffff, true, false, false⟩
/-- SHUTTLE.P.GUAR_LDPC_DEC, R122. -/
def oSHUTTLE_P_GUAR_LDPC_DEC : Obj := ⟨27, 0x6210, 8, 1, 1, .u8, .rw, 0, 0, 0xff, true, false, true⟩
/-- SHUTTLE.P.GUAR_LDPC_ENC, R122. -/
def oSHUTTLE_P_GUAR_LDPC_ENC : Obj := ⟨28, 0x6210, 8, 2, 1, .u8, .rw, 0, 0, 0xff, true, false, true⟩
/-- SHUTTLE.P.GUAR_TURBO, R122. -/
def oSHUTTLE_P_GUAR_TURBO : Obj := ⟨29, 0x6210, 8, 3, 1, .u8, .rw, 0, 0, 0xff, true, false, true⟩
/-- SHUTTLE.P.GUAR_POLAR, R122. -/
def oSHUTTLE_P_GUAR_POLAR : Obj := ⟨30, 0x6210, 8, 4, 1, .u8, .rw, 0, 0, 0xff, true, false, true⟩
/-- SHUTTLE.P.GUAR_FFT, R122. -/
def oSHUTTLE_P_GUAR_FFT : Obj := ⟨31, 0x6210, 8, 5, 1, .u8, .rw, 0, 0, 0xff, true, false, true⟩
/-- SHUTTLE.P.GUAR_MATRIX, R122. -/
def oSHUTTLE_P_GUAR_MATRIX : Obj := ⟨32, 0x6210, 8, 6, 1, .u8, .rw, 0, 0, 0xff, true, false, true⟩
/-- SHUTTLE.P.GUAR_BIT, R122. -/
def oSHUTTLE_P_GUAR_BIT : Obj := ⟨33, 0x6210, 8, 7, 1, .u8, .rw, 0, 0, 0xff, true, false, true⟩
/-- SHUTTLE.P.MAX_PENDING, R122. -/
def oSHUTTLE_P_MAX_PENDING : Obj := ⟨34, 0x6210, 8, 8, 1, .u16, .rw, 0x800, 0x40, 0x4000, true, false, true⟩
/-- SHUTTLE.P.LEND, R122. -/
def oSHUTTLE_P_LEND : Obj := ⟨35, 0x6210, 8, 9, 1, .bool, .rws, 0, 0, 1, true, false, false⟩
/-- SHUTTLE.P.TRIG_BASE, R122. -/
def oSHUTTLE_P_TRIG_BASE : Obj := ⟨36, 0x6210, 8, 10, 1, .u16, .rw, 0, 0, 0xffff, true, false, true⟩
/-- SHUTTLE.P.TRIG_COUNT, R122. -/
def oSHUTTLE_P_TRIG_COUNT : Obj := ⟨37, 0x6210, 8, 11, 1, .u16, .rw, 0, 0, 0xffff, true, false, true⟩
/-- HEM.OWNER, R286. -/
def oHEM_OWNER : Obj := ⟨38, 0x6300, 4, 1, 1, .u8, .rw, 0xff, 0, 0xff, true, false, true⟩
/-- HEM.FFT_RESERVE, R286. -/
def oHEM_FFT_RESERVE : Obj := ⟨39, 0x6300, 4, 2, 1, .u8, .rw, 2, 0, 8, true, false, true⟩
/-- LANES.AUTO_RETIRE, R320. -/
def oLANES_AUTO_RETIRE : Obj := ⟨40, 0x4f00, 1, 1, 1, .bool, .rw, 1, 0, 1, true, false, false⟩
/-- LANES.TRAIN_TIMEOUT_MS, R320. -/
def oLANES_TRAIN_TIMEOUT_MS : Obj := ⟨41, 0x4f00, 1, 2, 1, .u16, .rw, 0x1f4, 0xa, 0x2710, true, false, false⟩
/-- LANES.RETRAIN_LIMIT, R320. -/
def oLANES_RETRAIN_LIMIT : Obj := ⟨42, 0x4f00, 1, 3, 1, .u8, .rw, 3, 1, 0xff, true, false, false⟩
/-- LANES.RETIRED_LO, R320. -/
def oLANES_RETIRED_LO : Obj := ⟨43, 0x4f00, 1, 4, 1, .u64, .ro, 0, 0, 0xffffffffffffffff, true, true, false⟩
/-- LANES.RETIRED_HI, R320. -/
def oLANES_RETIRED_HI : Obj := ⟨44, 0x4f00, 1, 5, 1, .u8, .ro, 0, 0, 0xff, true, true, false⟩
/-- LANES.RETIRE, R320. -/
def oLANES_RETIRE : Obj := ⟨45, 0x4f00, 1, 6, 1, .u8, .wo, 0, 0, 0xff, false, false, false⟩
/-- FH.QUARANTINE_Q, R352. -/
def oFH_QUARANTINE_Q : Obj := ⟨46, 0x4000, 1, 1, 1, .u16, .rw, 0, 0, 0xffff, true, false, false⟩
/-- FH.QUARANTINE_EN, R352. -/
def oFH_QUARANTINE_EN : Obj := ⟨47, 0x4000, 1, 2, 1, .bool, .rw, 0, 0, 1, true, false, false⟩
/-- FH.MGMT_VLAN, R352. -/
def oFH_MGMT_VLAN : Obj := ⟨48, 0x4000, 1, 3, 1, .u16, .rw, 0xffff, 0, 0xffff, true, false, false⟩
/-- FH_QUAR_FRAMES, R352. -/
def oFH_QUAR_FRAMES : Obj := ⟨49, 0x4000, 1, 4, 1, .u64, .ro, 0, 0, 0xffffffffffffffff, false, false, false⟩
/-- FH_QUAR_LOST, R352. -/
def oFH_QUAR_LOST : Obj := ⟨50, 0x4000, 1, 5, 1, .u64, .ro, 0, 0, 0xffffffffffffffff, false, false, false⟩
/-- FH.P.ST_BASE, R352. -/
def oFH_P_ST_BASE : Obj := ⟨51, 0x4100, 8, 1, 1, .u16, .rw, 0, 0, 0xffff, true, false, true⟩
/-- FH.P.ST_COUNT, R352. -/
def oFH_P_ST_COUNT : Obj := ⟨52, 0x4100, 8, 2, 1, .u16, .rw, 0, 0, 0xffff, true, false, true⟩
/-- BOLT.ID, R381. -/
def oBOLT_ID : Obj := ⟨53, 0x5000, 1, 1, 1, .u64, .rw, 0, 0, 0xffffffffffffffff, true, false, false⟩
/-- BOLT.SELF, R381. -/
def oBOLT_SELF : Obj := ⟨54, 0x5000, 1, 2, 1, .u8, .rw, 0, 0, 7, true, false, false⟩
/-- BOLT.FOUNDER, R381. -/
def oBOLT_FOUNDER : Obj := ⟨55, 0x5000, 1, 3, 1, .bool, .rw, 0, 0, 1, true, false, false⟩
/-- BOLT.ELIGIBLE, R381. -/
def oBOLT_ELIGIBLE : Obj := ⟨56, 0x5000, 1, 4, 1, .bool, .rw, 1, 0, 1, true, false, false⟩
/-- BOLT.MEMBER_KEYS, R381. -/
def oBOLT_MEMBER_KEYS : Obj := ⟨57, 0x5000, 1, 5, 1, .domain, .rw, 0, 0, 0, true, false, false⟩
/-- BOLT.TIME_TOL_TICKS, R381. -/
def oBOLT_TIME_TOL_TICKS : Obj := ⟨58, 0x5000, 1, 6, 1, .u32, .rw, 0x7b, 0, 0xffffffff, true, false, false⟩
/-- BOLT.CHANGE_LEAD_TICKS, R381. -/
def oBOLT_CHANGE_LEAD_TICKS : Obj := ⟨59, 0x5000, 1, 7, 1, .ticks48, .rw, 0xf000, 0, 0xffffffffffff, true, false, false⟩
/-- BOLT.MISS_LIMIT, R381. -/
def oBOLT_MISS_LIMIT : Obj := ⟨60, 0x5000, 1, 8, 1, .u8, .rw, 4, 2, 0x40, true, false, false⟩
/-- BOLT.READ_TIMEOUT_TICKS, R381. -/
def oBOLT_READ_TIMEOUT_TICKS : Obj := ⟨61, 0x5000, 1, 9, 1, .ticks48, .rw, 0x2000, 0, 0xffffffffffff, true, false, false⟩
/-- BOLT.OFFERS_EN, R381. -/
def oBOLT_OFFERS_EN : Obj := ⟨62, 0x5000, 1, 10, 1, .bool, .rws, 0, 0, 1, true, false, false⟩
/-- BOLT.STATE, R381. -/
def oBOLT_STATE : Obj := ⟨63, 0x5000, 1, 11, 1, .u8, .ro, 0, 0, 0xff, false, false, false⟩
/-- BOLT.MEMBERS, R381. -/
def oBOLT_MEMBERS : Obj := ⟨64, 0x5000, 1, 12, 1, .u8, .ro, 0, 0, 0xff, false, false, false⟩
/-- BOLT.EPOCH, R381. -/
def oBOLT_EPOCH : Obj := ⟨65, 0x5000, 1, 13, 1, .u32, .ro, 0, 0, 0xffffffff, false, false, false⟩
/-- BOLT.LAST_REFUSAL, R381. -/
def oBOLT_LAST_REFUSAL : Obj := ⟨66, 0x5000, 1, 14, 1, .u8, .ro, 0, 0, 0xff, false, false, false⟩
/-- BOLT.TIME_OFFSET, R381. -/
def oBOLT_TIME_OFFSET : Obj := ⟨67, 0x5000, 1, 15, 1, .i32, .ro, 0, 0, 0xffffffff, false, false, false⟩
/-- BOLT.COMMAND, R381. -/
def oBOLT_COMMAND : Obj := ⟨68, 0x5000, 1, 16, 1, .u8, .wo, 0, 0, 0xff, false, false, false⟩
/-- MEM.SRAM_SCRUB_TICKS, R401. -/
def oMEM_SRAM_SCRUB_TICKS : Obj := ⟨69, 0x7000, 1, 1, 1, .ticks48, .rw, 0x8000000, 0x100000, 0x100000000, true, false, false⟩
/-- MEM.DRAM_SCRUB_S, R401. -/
def oMEM_DRAM_SCRUB_S : Obj := ⟨70, 0x7000, 1, 2, 1, .u32, .rw, 0x15180, 0xe10, 0x93a80, true, false, false⟩
/-- MEM.CE_THRESHOLD, R401. -/
def oMEM_CE_THRESHOLD : Obj := ⟨71, 0x7000, 1, 3, 1, .u32, .rw, 0x3e8, 0, 0xffffffff, true, false, false⟩
/-- MEM.REPAIR_COUNT, R401. -/
def oMEM_REPAIR_COUNT : Obj := ⟨72, 0x7000, 1, 4, 1, .u32, .ro, 0, 0, 0xffffffff, true, true, false⟩
/-- MEM.REPAIRS, R401. -/
def oMEM_REPAIRS : Obj := ⟨73, 0x7000, 1, 5, 1, .domain, .ro, 0, 0, 0, true, true, false⟩
/-- DRAM.MIGRATE_MIBPS, R433. -/
def oDRAM_MIGRATE_MIBPS : Obj := ⟨74, 0x7100, 1, 1, 1, .u32, .rw, 0x1000, 0x100, 0x4000, true, false, false⟩
/-- DRAM.CHIP_CE_LIMIT, R433. -/
def oDRAM_CHIP_CE_LIMIT : Obj := ⟨75, 0x7100, 1, 2, 1, .u16, .rw, 0x10, 0, 0xffff, true, false, false⟩
/-- DRAM.CHIP_WINDOW_S, R433. -/
def oDRAM_CHIP_WINDOW_S : Obj := ⟨76, 0x7100, 1, 3, 1, .u32, .rw, 0x3c, 1, 0x15180, true, false, false⟩
/-- DRAM.RH_THRESH, R433. -/
def oDRAM_RH_THRESH : Obj := ⟨77, 0x7100, 1, 4, 1, .u16, .rw, 0x800, 0x100, 0x8000, true, false, false⟩
/-- DRAM.RH_REPEAT, R433. -/
def oDRAM_RH_REPEAT : Obj := ⟨78, 0x7100, 1, 5, 1, .u8, .rw, 4, 1, 0xff, true, false, false⟩
/-- DRAM.RH_GAP_NS, R433. -/
def oDRAM_RH_GAP_NS : Obj := ⟨79, 0x7100, 1, 6, 1, .u32, .rw, 0x3e8, 0, 0xffffffff, true, false, false⟩
/-- DRAM.RH_THROTTLE_TICKS, R433. -/
def oDRAM_RH_THROTTLE_TICKS : Obj := ⟨80, 0x7100, 1, 7, 1, .ticks48, .rw, 0x12c000, 0, 0xffffffffffff, true, false, false⟩
/-- DRAM.UNIT_CREDITS, R433. -/
def oDRAM_UNIT_CREDITS : Obj := ⟨81, 0x7100, 1, 8, 1, .u8, .rw, 0x20, 4, 0x40, true, false, false⟩
/-- DRAM.HIT_WINDOW, R433. -/
def oDRAM_HIT_WINDOW : Obj := ⟨82, 0x7100, 1, 9, 1, .ticks48, .rw, 0x40, 0, 0xffffffffffff, true, false, false⟩
/-- DRAM.PD_IDLE_NS, R433. -/
def oDRAM_PD_IDLE_NS : Obj := ⟨83, 0x7100, 1, 10, 1, .u32, .rw, 0x40, 0, 0xffffffff, true, false, false⟩
/-- DRAM.SR_IDLE_US, R433. -/
def oDRAM_SR_IDLE_US : Obj := ⟨84, 0x7100, 1, 11, 1, .u32, .rw, 0, 0, 0xffffffff, true, false, false⟩
/-- DRAM.TEMP_POLL_TICKS, R433. -/
def oDRAM_TEMP_POLL_TICKS : Obj := ⟨85, 0x7100, 1, 12, 1, .u32, .rw, 0x400, 0x100, 0x2000, true, false, false⟩
/-- DRAM.HPPR_EN, R433. -/
def oDRAM_HPPR_EN : Obj := ⟨86, 0x7100, 1, 13, 1, .bool, .rw, 0, 0, 1, true, false, false⟩
/-- DRAM.RETIRED, R433. -/
def oDRAM_RETIRED : Obj := ⟨87, 0x7100, 1, 14, 1, .u32, .ro, 0, 0, 0xffffffff, true, true, false⟩
/-- DRAM.RETIRE_RANK, R433. -/
def oDRAM_RETIRE_RANK : Obj := ⟨88, 0x7100, 1, 15, 1, .u8, .wo, 0, 0, 0xff, false, false, false⟩
/-- DRAM.REPAIRS, R433. -/
def oDRAM_REPAIRS : Obj := ⟨89, 0x7100, 1, 16, 1, .domain, .ro, 0, 0, 0, true, true, false⟩
/-- DMA.P.CH_BASE, R436. -/
def oDMA_P_CH_BASE : Obj := ⟨90, 0x6400, 8, 1, 1, .u16, .rw, 0, 0, 0xffff, true, false, true⟩
/-- DMA.P.CH_COUNT, R436. -/
def oDMA_P_CH_COUNT : Obj := ⟨91, 0x6400, 8, 2, 1, .u16, .rw, 0, 0, 0x1000, true, false, true⟩
/-- ID.VENDOR, R540. -/
def oID_VENDOR : Obj := ⟨92, 0x1000, 1, 1, 1, .string, .const, 0, 0, 0, false, false, false⟩
/-- ID.PART, R540. -/
def oID_PART : Obj := ⟨93, 0x1000, 1, 2, 1, .string, .const, 0, 0, 0, false, false, false⟩
/-- ID.STEPPING, R540. -/
def oID_STEPPING : Obj := ⟨94, 0x1000, 1, 3, 1, .u8, .const, 0, 0, 0xff, false, false, false⟩
/-- ID.SERIAL, R540. -/
def oID_SERIAL : Obj := ⟨95, 0x1000, 1, 4, 1, .u64, .const, 0, 0, 0xffffffffffffffff, false, false, false⟩
/-- ID.KEY_DIGEST, R540. -/
def oID_KEY_DIGEST : Obj := ⟨96, 0x1000, 1, 5, 1, .domain, .const, 0, 0, 0, false, false, false⟩
/-- ID.CERT, R540. -/
def oID_CERT : Obj := ⟨97, 0x1000, 1, 6, 1, .domain, .const, 0, 0, 0, false, false, false⟩
/-- ID.FW_VERSION, R540. -/
def oID_FW_VERSION : Obj := ⟨98, 0x1000, 1, 7, 1, .u32, .ro, 0, 0, 0xffffffff, false, false, false⟩
/-- ID.UPTIME_S, R540. -/
def oID_UPTIME_S : Obj := ⟨99, 0x1000, 1, 8, 1, .u64, .ro, 0, 0, 0xffffffffffffffff, false, false, false⟩
/-- ID.BOOT_COUNT, R540. -/
def oID_BOOT_COUNT : Obj := ⟨100, 0x1000, 1, 9, 1, .u32, .ro, 0, 0, 0xffffffff, true, true, false⟩
/-- ID.PCI_VENDOR, R540. -/
def oID_PCI_VENDOR : Obj := ⟨101, 0x1000, 1, 10, 1, .u16, .const, 0x1f5c, 0, 0xffff, false, false, false⟩
/-- ID.PCI_DEVICE, R540. -/
def oID_PCI_DEVICE : Obj := ⟨102, 0x1000, 1, 11, 1, .u16, .const, 0, 0, 0xffff, false, false, false⟩
/-- STORE.STATE, R542. -/
def oSTORE_STATE : Obj := ⟨103, 0x1f00, 1, 1, 1, .u8, .ro, 0, 0, 0xff, false, false, false⟩
/-- STORE.GENERATION, R542. -/
def oSTORE_GENERATION : Obj := ⟨104, 0x1f00, 1, 2, 1, .u32, .ro, 0, 0, 0xffffffff, false, false, false⟩
/-- STORE.COMMITS, R542. -/
def oSTORE_COMMITS : Obj := ⟨105, 0x1f00, 1, 3, 1, .u64, .ro, 0, 0, 0xffffffffffffffff, true, true, false⟩
/-- STORE.JOURNAL_USED, R542. -/
def oSTORE_JOURNAL_USED : Obj := ⟨106, 0x1f00, 1, 4, 1, .u32, .ro, 0, 0, 0xffffffff, false, false, false⟩
/-- STORE.COMMAND, R542. -/
def oSTORE_COMMAND : Obj := ⟨107, 0x1f00, 1, 5, 1, .u8, .wo, 0, 0, 0xff, false, false, false⟩
/-- SWATCH.CLIENT_KEYS, R543. -/
def oSWATCH_CLIENT_KEYS : Obj := ⟨108, 0xa100, 1, 1, 1, .domain, .rw, 0, 0, 0, true, false, false⟩
/-- SWATCH.MAC, R543. -/
def oSWATCH_MAC : Obj := ⟨109, 0xa100, 1, 2, 1, .u64, .rw, 0, 0, 0xffffffffffff, true, false, false⟩
/-- SWATCH.IDLE_S, R543. -/
def oSWATCH_IDLE_S : Obj := ⟨110, 0xa100, 1, 3, 1, .u16, .rw, 0x3c, 0xa, 0xe10, true, false, false⟩
/-- SWATCH.SESSIONS, R543. -/
def oSWATCH_SESSIONS : Obj := ⟨111, 0xa100, 1, 4, 1, .u8, .ro, 0, 0, 0xff, false, false, false⟩
/-- SWATCH.TAG_FAILS, R543. -/
def oSWATCH_TAG_FAILS : Obj := ⟨112, 0xa100, 1, 5, 1, .u32, .ro, 0, 0, 0xffffffff, false, false, false⟩
/-- SWATCH.MGMT_PORT, R543. -/
def oSWATCH_MGMT_PORT : Obj := ⟨113, 0xa100, 1, 6, 1, .u8, .rw, 0, 0, 3, true, false, false⟩
/-- SWATCH.DISCARDS, R543. -/
def oSWATCH_DISCARDS : Obj := ⟨114, 0xa100, 1, 7, 1, .u32, .ro, 0, 0, 0xffffffff, false, false, false⟩
/-- PM.DEVICE_STATE, R571. -/
def oPM_DEVICE_STATE : Obj := ⟨115, 0x8000, 1, 1, 1, .u8, .ro, 0, 0, 0xff, false, false, false⟩
/-- PM.DEVICE_CMD, R571. -/
def oPM_DEVICE_CMD : Obj := ⟨116, 0x8000, 1, 2, 1, .u8, .wo, 0, 0, 0xff, false, false, false⟩
/-- PM.BACKOFF_US, R571. -/
def oPM_BACKOFF_US : Obj := ⟨117, 0x8000, 1, 3, 1, .u32, .rw, 0x3e8, 0xa, 0xf4240, true, false, false⟩
/-- PM.HOLD_FACTOR, R571. -/
def oPM_HOLD_FACTOR : Obj := ⟨118, 0x8000, 1, 4, 1, .u8, .rw, 0xa, 1, 0x64, true, false, false⟩
/-- PM.LAST_REFUSER, R571. -/
def oPM_LAST_REFUSER : Obj := ⟨119, 0x8000, 1, 5, 1, .u8, .ro, 0xff, 0, 0xff, false, false, false⟩
/-- PM.LAST_REASON, R571. -/
def oPM_LAST_REASON : Obj := ⟨120, 0x8000, 1, 6, 1, .u8, .ro, 0, 0, 0xff, false, false, false⟩
/-- PM.REFUSALS, R571. -/
def oPM_REFUSALS : Obj := ⟨121, 0x8000, 1, 7, 1, .u32, .ro, 0, 0, 0xffffffff, false, false, false⟩
/-- PM.LAST_REFUSAL_TICK, R571. -/
def oPM_LAST_REFUSAL_TICK : Obj := ⟨122, 0x8000, 1, 8, 1, .ticks48, .ro, 0, 0, 0xffffffffffff, false, false, false⟩
/-- FAULT.WINDOW_S, R592. -/
def oFAULT_WINDOW_S : Obj := ⟨123, 0x9000, 1, 1, 1, .u32, .rw, 0x15180, 0x3c, 0x278d00, true, false, false⟩
/-- FAULT.ENGINE_LIMIT, R592. -/
def oFAULT_ENGINE_LIMIT : Obj := ⟨124, 0x9000, 1, 2, 1, .u8, .rw, 3, 1, 0xff, true, false, false⟩
/-- FAULT.GUSSET_LIMIT, R592. -/
def oFAULT_GUSSET_LIMIT : Obj := ⟨125, 0x9000, 1, 3, 1, .u8, .rw, 3, 0, 0xff, true, false, false⟩
/-- FAULT.ACCEL_LIMIT, R592. -/
def oFAULT_ACCEL_LIMIT : Obj := ⟨126, 0x9000, 1, 4, 1, .u8, .rw, 4, 0, 0xff, true, false, false⟩
/-- FAULT.PATCH_LIMIT, R592. -/
def oFAULT_PATCH_LIMIT : Obj := ⟨127, 0x9000, 1, 5, 1, .u8, .rw, 3, 0, 0xff, true, false, false⟩
/-- FAULT.PANEL_LIMIT, R592. -/
def oFAULT_PANEL_LIMIT : Obj := ⟨128, 0x9000, 1, 6, 1, .u8, .rw, 2, 0, 0xff, true, false, false⟩
/-- FAULT.AUTO_RETIRE, R592. -/
def oFAULT_AUTO_RETIRE : Obj := ⟨129, 0x9000, 1, 7, 1, .u16, .rw, 0x67, 0, 0xffff, true, false, false⟩
/-- FAULT.RETIRE, R592. -/
def oFAULT_RETIRE : Obj := ⟨130, 0x9000, 1, 8, 1, .u32, .wo, 0, 0, 0xffffffff, false, false, false⟩
/-- FAULT.REINSTATE, R592. -/
def oFAULT_REINSTATE : Obj := ⟨131, 0x9000, 1, 9, 1, .u16, .wo, 0, 0, 0xffff, false, false, false⟩
/-- FAULT.RETIREMENTS, R592. -/
def oFAULT_RETIREMENTS : Obj := ⟨132, 0x9000, 1, 10, 1, .domain, .ro, 0, 0, 0, true, true, false⟩
/-- FAULT.RECENT, R592. -/
def oFAULT_RECENT : Obj := ⟨133, 0x9000, 1, 11, 1, .domain, .ro, 0, 0, 0, false, false, false⟩
/-- FAULT.WARM_CAUSES, R592. -/
def oFAULT_WARM_CAUSES : Obj := ⟨134, 0x9000, 1, 12, 1, .domain, .ro, 0, 0, 0, true, true, false⟩
/-- FAULT.WARM_RESET, R592. -/
def oFAULT_WARM_RESET : Obj := ⟨135, 0x9000, 1, 13, 1, .u8, .wo, 0, 0, 0xff, false, false, false⟩
/-- FAULT.THIMBLE, R592. -/
def oFAULT_THIMBLE : Obj := ⟨136, 0x9000, 1, 14, 1, .u8, .ro, 0, 0, 0xff, false, false, false⟩
/-- FW.ACTIVE, R615. -/
def oFW_ACTIVE : Obj := ⟨137, 0xa000, 1, 1, 1, .u8, .ro, 0, 0, 0xff, false, false, false⟩
/-- FW.VERSION_A, R615. -/
def oFW_VERSION_A : Obj := ⟨138, 0xa000, 1, 2, 1, .u32, .ro, 0, 0, 0xffffffff, false, false, false⟩
/-- FW.VERSION_B, R615. -/
def oFW_VERSION_B : Obj := ⟨139, 0xa000, 1, 3, 1, .u32, .ro, 0, 0, 0xffffffff, false, false, false⟩
/-- FW.UPDATE, R615. -/
def oFW_UPDATE : Obj := ⟨140, 0xa000, 1, 4, 1, .u64, .wo, 0, 0, 0xffffffffffffffff, false, false, false⟩
/-- FW.UPDATE_STATE, R615. -/
def oFW_UPDATE_STATE : Obj := ⟨141, 0xa000, 1, 5, 1, .u8, .ro, 0, 0, 0xff, false, false, false⟩
/-- FW.COMMAND, R615. -/
def oFW_COMMAND : Obj := ⟨142, 0xa000, 1, 6, 1, .u8, .wo, 0, 0, 0xff, false, false, false⟩
/-- FW.TRIAL_S, R615. -/
def oFW_TRIAL_S : Obj := ⟨143, 0xa000, 1, 7, 1, .u32, .rw, 0x258, 0x3c, 0x15180, false, false, false⟩
/-- SEC.ATTEST, R615. -/
def oSEC_ATTEST : Obj := ⟨144, 0xa200, 1, 1, 1, .domain, .rw, 0, 0, 0, false, false, false⟩
/-- SEC.KEY_SLOT0, R615. -/
def oSEC_KEY_SLOT0 : Obj := ⟨145, 0xa200, 1, 2, 1, .domain, .wo, 0, 0, 0, false, false, false⟩
/-- SEC.KEY_SLOT1, R615. -/
def oSEC_KEY_SLOT1 : Obj := ⟨146, 0xa200, 1, 3, 1, .domain, .wo, 0, 0, 0, false, false, false⟩
/-- SEC.FUSE_CUST_KEY, R615. -/
def oSEC_FUSE_CUST_KEY : Obj := ⟨147, 0xa200, 1, 4, 1, .domain, .wo, 0, 0, 0, false, false, false⟩
/-- SEC.FUSE_REVOKE, R615. -/
def oSEC_FUSE_REVOKE : Obj := ⟨148, 0xa200, 1, 5, 1, .u8, .wo, 0, 0, 0xff, false, false, false⟩
/-- SEC.FUSE_POLICY, R615. -/
def oSEC_FUSE_POLICY : Obj := ⟨149, 0xa200, 1, 6, 1, .u8, .wo, 0, 0, 0xff, false, false, false⟩
/-- SEC.IMAGE_LOAD, R615. -/
def oSEC_IMAGE_LOAD : Obj := ⟨150, 0xa200, 1, 7, 1, .domain, .wo, 0, 0, 0, false, false, false⟩
/-- SEC.QUILT_AUTH, R615. -/
def oSEC_QUILT_AUTH : Obj := ⟨151, 0xa200, 1, 8, 1, .domain, .wo, 0, 0, 0, false, false, false⟩
/-- SEC.DIAG_CHALLENGE, R615. -/
def oSEC_DIAG_CHALLENGE : Obj := ⟨152, 0xa200, 1, 9, 1, .domain, .ro, 0, 0, 0, false, false, false⟩
/-- SEC.DIAG_UNLOCK, R615. -/
def oSEC_DIAG_UNLOCK : Obj := ⟨153, 0xa200, 1, 10, 1, .domain, .wo, 0, 0, 0, false, false, false⟩
/-- SEC.LAST_REJECT, R615. -/
def oSEC_LAST_REJECT : Obj := ⟨154, 0xa200, 1, 11, 1, .u8, .ro, 0, 0, 0xff, false, false, false⟩
/-- MB.FRAMING_STORE, R641. -/
def oMB_FRAMING_STORE : Obj := ⟨155, 0xc000, 1, 1, 1, .u64, .wo, 0, 0, 0xffffffffffffffff, false, false, false⟩
/-- MB.FRAMING_STATE, R641. -/
def oMB_FRAMING_STATE : Obj := ⟨156, 0xc000, 1, 2, 1, .u8, .ro, 0, 0, 0xff, false, false, false⟩
/-- MB.IMAGES, R641. -/
def oMB_IMAGES : Obj := ⟨157, 0xc000, 1, 3, 1, .domain, .ro, 0, 0, 0, false, false, false⟩
/-- MB.P.SUBSYS_VENDOR, R641. -/
def oMB_P_SUBSYS_VENDOR : Obj := ⟨158, 0xc100, 8, 1, 1, .u16, .rw, 0x1d2e, 0, 0xffff, true, false, true⟩
/-- MB.P.SUBSYS_ID, R641. -/
def oMB_P_SUBSYS_ID : Obj := ⟨159, 0xc100, 8, 2, 1, .u16, .rw, 0x416, 0, 0xffff, true, false, true⟩
/-- MB.P.DRAM_BASE, R641. -/
def oMB_P_DRAM_BASE : Obj := ⟨160, 0xc100, 8, 3, 1, .u64, .rw, 0, 0, 0xffffffffffffffff, true, false, true⟩
/-- MB.P.DRAM_SIZE, R641. -/
def oMB_P_DRAM_SIZE : Obj := ⟨161, 0xc100, 8, 4, 1, .u16, .rw, 0, 0, 0x800, true, false, true⟩
/-- MB.P.FRAMING_IMAGE, R641. -/
def oMB_P_FRAMING_IMAGE : Obj := ⟨162, 0xc100, 8, 5, 1, .u32, .rw, 0, 0, 0xffffffff, true, false, true⟩
/-- MB.P.AUTO_RESTART, R641. -/
def oMB_P_AUTO_RESTART : Obj := ⟨163, 0xc100, 8, 6, 1, .bool, .rw, 1, 0, 1, true, false, true⟩
/-- MB.P.CMD_BUDGET_TICKS, R641. -/
def oMB_P_CMD_BUDGET_TICKS : Obj := ⟨164, 0xc100, 8, 7, 1, .ticks48, .rws, 0xf000, 0, 0xffffffffffff, false, false, false⟩
/-- MB.P.LATE_CMDS, R641. -/
def oMB_P_LATE_CMDS : Obj := ⟨165, 0xc100, 8, 8, 1, .u32, .ro, 0, 0, 0xffffffff, false, false, false⟩
/-- THERM.WARN_C, R667. -/
def oTHERM_WARN_C : Obj := ⟨166, 0x8200, 1, 1, 1, .i8, .rw, 0x64, 0x55, 0x69, true, false, false⟩
/-- THERM.THROTTLE_C, R667. -/
def oTHERM_THROTTLE_C : Obj := ⟨167, 0x8200, 1, 2, 1, .i8, .rw, 0x69, 0x5f, 0x6e, true, false, false⟩
/-- THERM.MAX_C, R667. -/
def oTHERM_MAX_C : Obj := ⟨168, 0x8200, 1, 3, 1, .i8, .ro, 0, 0, 0xff, false, false, false⟩
/-- THERM.AVG_C, R667. -/
def oTHERM_AVG_C : Obj := ⟨169, 0x8200, 1, 4, 1, .i16, .ro, 0, 0, 0xffff, false, false, false⟩
/-- CAP.PANEL_MASK, R541. -/
def oCAP_PANEL_MASK : Obj := ⟨170, 0x1100, 1, 1, 1, .u64, .const, 0, 0, 0xffffffffffffffff, false, false, false⟩
/-- CAP.ENGINES, R541. -/
def oCAP_ENGINES : Obj := ⟨171, 0x1100, 1, 2, 1, .u16, .const, 0, 0, 0xffff, false, false, false⟩
/-- CAP.GUSSETS, R541. -/
def oCAP_GUSSETS : Obj := ⟨172, 0x1100, 1, 3, 1, .u16, .const, 0, 0, 0xffff, false, false, false⟩
/-- CAP.LDPC_DEC, R541. -/
def oCAP_LDPC_DEC : Obj := ⟨173, 0x1100, 1, 4, 1, .u16, .const, 0, 0, 0xffff, false, false, false⟩
/-- CAP.LDPC_ENC, R541. -/
def oCAP_LDPC_ENC : Obj := ⟨174, 0x1100, 1, 5, 1, .u16, .const, 0, 0, 0xffff, false, false, false⟩
/-- CAP.TURBO, R541. -/
def oCAP_TURBO : Obj := ⟨175, 0x1100, 1, 6, 1, .u16, .const, 0, 0, 0xffff, false, false, false⟩
/-- CAP.POLAR, R541. -/
def oCAP_POLAR : Obj := ⟨176, 0x1100, 1, 7, 1, .u16, .const, 0, 0, 0xffff, false, false, false⟩
/-- CAP.FFT, R541. -/
def oCAP_FFT : Obj := ⟨177, 0x1100, 1, 8, 1, .u16, .const, 0, 0, 0xffff, false, false, false⟩
/-- CAP.MATRIX, R541. -/
def oCAP_MATRIX : Obj := ⟨178, 0x1100, 1, 9, 1, .u16, .const, 0, 0, 0xffff, false, false, false⟩
/-- CAP.BIT, R541. -/
def oCAP_BIT : Obj := ⟨179, 0x1100, 1, 10, 1, .u16, .const, 0, 0, 0xffff, false, false, false⟩
/-- CAP.ACC_ISLAND_MASK, R541. -/
def oCAP_ACC_ISLAND_MASK : Obj := ⟨180, 0x1100, 1, 11, 1, .u64, .const, 0, 0, 0xffffffffffffffff, false, false, false⟩
/-- CAP.HEM_MASK, R541. -/
def oCAP_HEM_MASK : Obj := ⟨181, 0x1100, 1, 12, 1, .u64, .const, 0, 0, 0xffffffffffffffff, false, false, false⟩
/-- CAP.PATCH_MASK, R541. -/
def oCAP_PATCH_MASK : Obj := ⟨182, 0x1100, 1, 13, 1, .u64, .const, 0, 0, 0xffffffffffffffff, false, false, false⟩
/-- CAP.LANE_MASK, R541. -/
def oCAP_LANE_MASK : Obj := ⟨183, 0x1100, 1, 14, 1, .u64, .const, 0, 0, 0xffffffffffffffff, false, false, false⟩
/-- CAP.LANE_MASK_HI, R541. -/
def oCAP_LANE_MASK_HI : Obj := ⟨184, 0x1100, 1, 15, 1, .u64, .const, 0, 0, 0xffffffffffffffff, false, false, false⟩
/-- CAP.DRAM_CH_MASK, R541. -/
def oCAP_DRAM_CH_MASK : Obj := ⟨185, 0x1100, 1, 16, 1, .u64, .const, 0, 0, 0xffffffffffffffff, false, false, false⟩
/-- CAP.DMA_ENG_MASK, R541. -/
def oCAP_DMA_ENG_MASK : Obj := ⟨186, 0x1100, 1, 17, 1, .u64, .const, 0, 0, 0xffffffffffffffff, false, false, false⟩
/-- CAP.MB_PARTITIONS, R541. -/
def oCAP_MB_PARTITIONS : Obj := ⟨187, 0x1100, 1, 18, 1, .u16, .const, 0, 0, 0xffff, false, false, false⟩
/-- CAP.BOLT_MAX, R541. -/
def oCAP_BOLT_MAX : Obj := ⟨188, 0x1100, 1, 19, 1, .u16, .const, 0, 0, 0xffff, false, false, false⟩
/-- TIMER.CMP_BASE, R83. -/
def oTIMER_CMP_BASE : Obj := ⟨189, 0x3100, 8, 1, 1, .u16, .rw, 0, 0, 0xffff, true, false, true⟩
/-- TIMER.CMP_COUNT, R83. -/
def oTIMER_CMP_COUNT : Obj := ⟨190, 0x3100, 8, 2, 1, .u16, .rw, 0, 0, 0xffff, true, false, true⟩
/-- TIMER.CARRIER_MASK, R83. -/
def oTIMER_CARRIER_MASK : Obj := ⟨191, 0x3100, 8, 3, 1, .u64, .rw, 0, 0, 0xffffffffffffffff, true, false, true⟩
/-- MEM.P.WIN, R399. -/
def oMEM_P_WIN : Obj := ⟨192, 0x7200, 8, 1, 16, .domain, .rw, 0, 0, 0, true, false, true⟩
/-- PM.G.TOL_US, R549. -/
def oPM_G_TOL_US : Obj := ⟨193, 0x8100, 0x10, 1, 1, .u32, .rw, 0, 0, 0xf4240, true, false, false⟩
/-- QUILT.SCRUB_PERIOD_US, R485. -/
def oQUILT_SCRUB_PERIOD_US : Obj := ⟨194, 0xb000, 1, 1, 1, .u32, .rw, 0x2710, 0x1f40, 0xf4240, true, false, false⟩
/-- QUILT.SCRUBBER, R485. -/
def oQUILT_SCRUBBER : Obj := ⟨195, 0xb000, 1, 2, 1, .u8, .ro, 0, 0, 0xff, false, false, false⟩
/-- QUILT.P.IMAGE_ID, R485. -/
def oQUILT_P_IMAGE_ID : Obj := ⟨196, 0xb100, 8, 1, 1, .u32, .ro, 0, 0, 0xffffffff, false, false, false⟩
/-- HOST.MAX_RATE, R510. -/
def oHOST_MAX_RATE : Obj := ⟨197, 0x2800, 1, 1, 1, .u8, .rw, 5, 0, 5, true, false, false⟩
/-- HOST.RETRAIN_REPLAYS, R510. -/
def oHOST_RETRAIN_REPLAYS : Obj := ⟨198, 0x2800, 1, 2, 1, .u32, .rw, 0x3e8, 0, 0xffffffff, true, false, false⟩
/-- HOST.LANE_REPAIRS, R510. -/
def oHOST_LANE_REPAIRS : Obj := ⟨199, 0x2800, 1, 3, 1, .u32, .ro, 0, 0, 0xffffffff, true, true, false⟩
/-- CUST.DATA, R544. -/
def oCUST_DATA : Obj := ⟨200, 0xd000, 0x2000, 1, 1, .domain, .rw, 0, 0, 0, true, false, false⟩

end Ob

open Ob

/-- Objects, part 0. -/
def objMap0 : List Obj := [
  oPART_STATE,
  oPART_PERSONALITY,
  oPART_PANEL_MASK,
  oPART_PATCH_MASK,
  oPART_LANE_MASK,
  oPART_QUEUE_BASE,
  oPART_QUEUE_COUNT,
  oPART_HOST_FUNCTION,
  oPART_COMMAND,
  oTIME_SOURCE,
  oTIME_STATE,
  oTIME_PTP_DOMAIN,
  oTIME_PTP_PORT_MASK,
  oTIME_SYNCE_LANE,
  oTIME_HOLDOVER_AVG_S,
  oTIME_HOLDOVER_LIMIT_S,
  oTIME_PPS_OUT_WIDTH_US,
  oTIME_UTC_OFFSET_S,
  oTIME_CLOCK_CLASS,
  oTIME_HOST_STATE,
  oTIME_PHASE_ERR_NS,
  oSHUTTLE_MAX_PENDING,
  oSHUTTLE_LEND_MAX_TICKS,
  oSHUTTLE_RETRY_LIMIT,
  oSHUTTLE_GRACE_TICKS]

/-- Objects, part 1. -/
def objMap1 : List Obj := [
  oSHUTTLE_OFFER_TIMEOUT_TICKS,
  oSHUTTLE_FORECAST_HORIZON,
  oSHUTTLE_P_GUAR_LDPC_DEC,
  oSHUTTLE_P_GUAR_LDPC_ENC,
  oSHUTTLE_P_GUAR_TURBO,
  oSHUTTLE_P_GUAR_POLAR,
  oSHUTTLE_P_GUAR_FFT,
  oSHUTTLE_P_GUAR_MATRIX,
  oSHUTTLE_P_GUAR_BIT,
  oSHUTTLE_P_MAX_PENDING,
  oSHUTTLE_P_LEND,
  oSHUTTLE_P_TRIG_BASE,
  oSHUTTLE_P_TRIG_COUNT,
  oHEM_OWNER,
  oHEM_FFT_RESERVE,
  oLANES_AUTO_RETIRE,
  oLANES_TRAIN_TIMEOUT_MS,
  oLANES_RETRAIN_LIMIT,
  oLANES_RETIRED_LO,
  oLANES_RETIRED_HI,
  oLANES_RETIRE,
  oFH_QUARANTINE_Q,
  oFH_QUARANTINE_EN,
  oFH_MGMT_VLAN,
  oFH_QUAR_FRAMES]

/-- Objects, part 2. -/
def objMap2 : List Obj := [
  oFH_QUAR_LOST,
  oFH_P_ST_BASE,
  oFH_P_ST_COUNT,
  oBOLT_ID,
  oBOLT_SELF,
  oBOLT_FOUNDER,
  oBOLT_ELIGIBLE,
  oBOLT_MEMBER_KEYS,
  oBOLT_TIME_TOL_TICKS,
  oBOLT_CHANGE_LEAD_TICKS,
  oBOLT_MISS_LIMIT,
  oBOLT_READ_TIMEOUT_TICKS,
  oBOLT_OFFERS_EN,
  oBOLT_STATE,
  oBOLT_MEMBERS,
  oBOLT_EPOCH,
  oBOLT_LAST_REFUSAL,
  oBOLT_TIME_OFFSET,
  oBOLT_COMMAND,
  oMEM_SRAM_SCRUB_TICKS,
  oMEM_DRAM_SCRUB_S,
  oMEM_CE_THRESHOLD,
  oMEM_REPAIR_COUNT,
  oMEM_REPAIRS,
  oDRAM_MIGRATE_MIBPS]

/-- Objects, part 3. -/
def objMap3 : List Obj := [
  oDRAM_CHIP_CE_LIMIT,
  oDRAM_CHIP_WINDOW_S,
  oDRAM_RH_THRESH,
  oDRAM_RH_REPEAT,
  oDRAM_RH_GAP_NS,
  oDRAM_RH_THROTTLE_TICKS,
  oDRAM_UNIT_CREDITS,
  oDRAM_HIT_WINDOW,
  oDRAM_PD_IDLE_NS,
  oDRAM_SR_IDLE_US,
  oDRAM_TEMP_POLL_TICKS,
  oDRAM_HPPR_EN,
  oDRAM_RETIRED,
  oDRAM_RETIRE_RANK,
  oDRAM_REPAIRS,
  oDMA_P_CH_BASE,
  oDMA_P_CH_COUNT,
  oID_VENDOR,
  oID_PART,
  oID_STEPPING,
  oID_SERIAL,
  oID_KEY_DIGEST,
  oID_CERT,
  oID_FW_VERSION,
  oID_UPTIME_S]

/-- Objects, part 4. -/
def objMap4 : List Obj := [
  oID_BOOT_COUNT,
  oID_PCI_VENDOR,
  oID_PCI_DEVICE,
  oSTORE_STATE,
  oSTORE_GENERATION,
  oSTORE_COMMITS,
  oSTORE_JOURNAL_USED,
  oSTORE_COMMAND,
  oSWATCH_CLIENT_KEYS,
  oSWATCH_MAC,
  oSWATCH_IDLE_S,
  oSWATCH_SESSIONS,
  oSWATCH_TAG_FAILS,
  oSWATCH_MGMT_PORT,
  oSWATCH_DISCARDS,
  oPM_DEVICE_STATE,
  oPM_DEVICE_CMD,
  oPM_BACKOFF_US,
  oPM_HOLD_FACTOR,
  oPM_LAST_REFUSER,
  oPM_LAST_REASON,
  oPM_REFUSALS,
  oPM_LAST_REFUSAL_TICK,
  oFAULT_WINDOW_S,
  oFAULT_ENGINE_LIMIT]

/-- Objects, part 5. -/
def objMap5 : List Obj := [
  oFAULT_GUSSET_LIMIT,
  oFAULT_ACCEL_LIMIT,
  oFAULT_PATCH_LIMIT,
  oFAULT_PANEL_LIMIT,
  oFAULT_AUTO_RETIRE,
  oFAULT_RETIRE,
  oFAULT_REINSTATE,
  oFAULT_RETIREMENTS,
  oFAULT_RECENT,
  oFAULT_WARM_CAUSES,
  oFAULT_WARM_RESET,
  oFAULT_THIMBLE,
  oFW_ACTIVE,
  oFW_VERSION_A,
  oFW_VERSION_B,
  oFW_UPDATE,
  oFW_UPDATE_STATE,
  oFW_COMMAND,
  oFW_TRIAL_S,
  oSEC_ATTEST,
  oSEC_KEY_SLOT0,
  oSEC_KEY_SLOT1,
  oSEC_FUSE_CUST_KEY,
  oSEC_FUSE_REVOKE,
  oSEC_FUSE_POLICY]

/-- Objects, part 6. -/
def objMap6 : List Obj := [
  oSEC_IMAGE_LOAD,
  oSEC_QUILT_AUTH,
  oSEC_DIAG_CHALLENGE,
  oSEC_DIAG_UNLOCK,
  oSEC_LAST_REJECT,
  oMB_FRAMING_STORE,
  oMB_FRAMING_STATE,
  oMB_IMAGES,
  oMB_P_SUBSYS_VENDOR,
  oMB_P_SUBSYS_ID,
  oMB_P_DRAM_BASE,
  oMB_P_DRAM_SIZE,
  oMB_P_FRAMING_IMAGE,
  oMB_P_AUTO_RESTART,
  oMB_P_CMD_BUDGET_TICKS,
  oMB_P_LATE_CMDS,
  oTHERM_WARN_C,
  oTHERM_THROTTLE_C,
  oTHERM_MAX_C,
  oTHERM_AVG_C,
  oCAP_PANEL_MASK,
  oCAP_ENGINES,
  oCAP_GUSSETS,
  oCAP_LDPC_DEC,
  oCAP_LDPC_ENC]

/-- Objects, part 7. -/
def objMap7 : List Obj := [
  oCAP_TURBO,
  oCAP_POLAR,
  oCAP_FFT,
  oCAP_MATRIX,
  oCAP_BIT,
  oCAP_ACC_ISLAND_MASK,
  oCAP_HEM_MASK,
  oCAP_PATCH_MASK,
  oCAP_LANE_MASK,
  oCAP_LANE_MASK_HI,
  oCAP_DRAM_CH_MASK,
  oCAP_DMA_ENG_MASK,
  oCAP_MB_PARTITIONS,
  oCAP_BOLT_MAX,
  oTIMER_CMP_BASE,
  oTIMER_CMP_COUNT,
  oTIMER_CARRIER_MASK,
  oMEM_P_WIN,
  oPM_G_TOL_US,
  oQUILT_SCRUB_PERIOD_US,
  oQUILT_SCRUBBER,
  oQUILT_P_IMAGE_ID,
  oHOST_MAX_RATE,
  oHOST_RETRAIN_REPLAYS,
  oHOST_LANE_REPAIRS]

/-- Objects, part 8. -/
def objMap8 : List Obj := [
  oCUST_DATA]

/-- Every object of the dictionary but the subindex 0 of each index, which R511 computes. -/
def objMap : List Obj :=
  objMap0 ++ objMap1 ++ objMap2 ++ objMap3 ++ objMap4 ++ objMap5 ++ objMap6 ++ objMap7 ++ objMap8

end Sys2Proof.Machine
end

