-- ==== Sys2Proof/Machine/RegMap.lean ====
section
/-!
DEFINITION. Every control register of the spec's register maps: each field with its bits, access code and reset value
(one constant a field, named REGISTER_FIELD), and each register with its address, width and write rights.
-/

namespace Sys2Proof.Machine

namespace Reg

/-! PM_ISLAND_FREQ: R36. -/
def PM_ISLAND_FREQ_CUR_MHZ : Fld := ⟨0, 15, 0, .ro, 0⟩
/-! PM_ISLAND_FMIN: R36. -/
def PM_ISLAND_FMIN_MIN_MHZ : Fld := ⟨1, 15, 0, .rc, 0xffff⟩
/-! QM_CAP: R57. -/
def QM_CAP_MAX_DEPTH_LOG2 : Fld := ⟨2, 20, 17, .ro, 0xf⟩
def QM_CAP_QUEUE_COUNT : Fld := ⟨3, 16, 0, .ro, 0x10000⟩
/-! QM_STALL_LIMIT: R57. -/
def QM_STALL_LIMIT_LIMIT : Fld := ⟨4, 31, 0, .rw, 0xf000⟩
/-! QM_FENCED_TOTAL: R57. -/
def QM_FENCED_TOTAL_COUNT : Fld := ⟨5, 31, 0, .rc, 0⟩
/-! QM_ROUTE_LOST: R57. -/
def QM_ROUTE_LOST_COUNT : Fld := ⟨6, 31, 0, .rc, 0⟩
/-! QM_STALL_LAST: R57. -/
def QM_STALL_LAST_PRODUCER : Fld := ⟨7, 27, 16, .ro, 0xfff⟩
def QM_STALL_LAST_QUEUE : Fld := ⟨8, 15, 0, .ro, 0⟩
/-! QM_EPOCH: R58. -/
def QM_EPOCH_RETIRED : Fld := ⟨9, 9, 9, .ro, 0⟩
def QM_EPOCH_PRESENT : Fld := ⟨10, 8, 8, .ro, 0⟩
def QM_EPOCH_EPOCH : Fld := ⟨11, 7, 0, .ro, 0⟩
/-! QM_QBASE: R59. -/
def QM_QBASE_BASE : Fld := ⟨12, 47, 6, .rw, 0⟩
/-! QM_QCFG: R59. -/
def QM_QCFG_ENABLE : Fld := ⟨13, 31, 31, .rw, 0⟩
def QM_QCFG_DEPTH_LOG2 : Fld := ⟨14, 27, 24, .rw, 0⟩
def QM_QCFG_GRANT_LOG2 : Fld := ⟨15, 23, 20, .rw, 0⟩
def QM_QCFG_OWNED : Fld := ⟨16, 19, 19, .ro, 0⟩
def QM_QCFG_PARTITION : Fld := ⟨17, 18, 16, .ro, 0⟩
def QM_QCFG_CONSUMER : Fld := ⟨18, 11, 0, .rw, 0xfff⟩
/-! QM_QPTR: R59. -/
def QM_QPTR_TAIL : Fld := ⟨19, 31, 16, .ro, 0⟩
def QM_QPTR_HEAD : Fld := ⟨20, 15, 0, .ro, 0⟩
/-! QM_QCREDIT: R59. -/
def QM_QCREDIT_HELD : Fld := ⟨21, 31, 16, .ro, 0⟩
def QM_QCREDIT_AVAIL : Fld := ⟨22, 15, 0, .ro, 0⟩
/-! QM_QSTAT: R59. -/
def QM_QSTAT_STALLED : Fld := ⟨23, 31, 31, .ro, 0⟩
def QM_QSTAT_POISONED : Fld := ⟨24, 30, 30, .w1c, 0⟩
def QM_QSTAT_FENCED : Fld := ⟨25, 29, 29, .w1c, 0⟩
def QM_QSTAT_DISABLING : Fld := ⟨26, 28, 28, .ro, 0⟩
def QM_QSTAT_OCCUPANCY : Fld := ⟨27, 15, 0, .ro, 0⟩
/-! QM_QSTALL_MAX: R59. -/
def QM_QSTALL_MAX_TICKS : Fld := ⟨28, 31, 0, .rc, 0⟩
/-! QM_QFENCED: R59. -/
def QM_QFENCED_COUNT : Fld := ⟨29, 31, 0, .rc, 0⟩
/-! TB_TIME: R65. -/
def TB_TIME_COUNT : Fld := ⟨30, 63, 0, .ro, 0⟩
/-! TB_FRAC: R65. -/
def TB_FRAC_FRAC : Fld := ⟨31, 31, 0, .ro, 0⟩
/-! TB_FREQ_ADJ: R65. -/
def TB_FREQ_ADJ_ADJ : Fld := ⟨32, 31, 0, .rw, 0⟩
/-! TB_STEP: R65. -/
def TB_STEP_DELTA : Fld := ⟨33, 63, 0, .wo, 0⟩
/-! TB_STATUS: R65. -/
def TB_STATUS_FALLBACK : Fld := ⟨34, 7, 7, .ro, 0⟩
def TB_STATUS_STEP_DENIED : Fld := ⟨35, 6, 6, .w1c, 0⟩
def TB_STATUS_STATE : Fld := ⟨36, 2, 0, .ro, 0⟩
/-! TB_PPS_IN_TS: R65. -/
def TB_PPS_IN_TS_TICKS : Fld := ⟨37, 63, 4, .ro, 0⟩
def TB_PPS_IN_TS_SUB : Fld := ⟨38, 3, 0, .ro, 0⟩
/-! TM_CAR_CFG: R80. -/
def TM_CAR_CFG_ENABLE : Fld := ⟨39, 31, 31, .rw, 0⟩
def TM_CAR_CFG_SLOT_EVENT : Fld := ⟨40, 30, 30, .rw, 0⟩
def TM_CAR_CFG_TYPE : Fld := ⟨41, 26, 24, .rw, 0⟩
def TM_CAR_CFG_ECP : Fld := ⟨42, 23, 23, .rw, 0⟩
/-! TM_CAR_OFFSET: R80. -/
def TM_CAR_OFFSET_OFFSET : Fld := ⟨43, 20, 0, .rw, 0⟩
/-! TM_CAR_POS: R80. -/
def TM_CAR_POS_SFN : Fld := ⟨44, 31, 22, .ro, 0⟩
def TM_CAR_POS_SLOT : Fld := ⟨45, 21, 14, .ro, 0⟩
def TM_CAR_POS_SYMBOL : Fld := ⟨46, 13, 10, .ro, 0⟩
/-! TM_CMP_MATCH: R82. -/
def TM_CMP_MATCH_MATCH : Fld := ⟨47, 47, 0, .rw, 0⟩
/-! TM_CMP_PERIOD: R82. -/
def TM_CMP_PERIOD_PERIOD : Fld := ⟨48, 31, 0, .rw, 0⟩
/-! TM_CMP_CTRL: R82. -/
def TM_CMP_CTRL_ARM : Fld := ⟨49, 31, 31, .rw, 0⟩
def TM_CMP_CTRL_MODE : Fld := ⟨50, 30, 29, .rw, 0⟩
def TM_CMP_CTRL_KIND : Fld := ⟨51, 28, 27, .rw, 0⟩
def TM_CMP_CTRL_ANCHOR : Fld := ⟨52, 26, 25, .rw, 0⟩
def TM_CMP_CTRL_CARRIER : Fld := ⟨53, 24, 19, .rw, 0⟩
def TM_CMP_CTRL_TARGET : Fld := ⟨54, 11, 0, .rw, 0⟩
/-! TM_CMP_SEL: R82. -/
def TM_CMP_SEL_SYMBOL_MASK : Fld := ⟨55, 13, 0, .rw, 0x3fff⟩
/-! TM_CMP_OFFSET: R82. -/
def TM_CMP_OFFSET_OFFSET : Fld := ⟨56, 31, 0, .rw, 0⟩
/-! TM_CMP_STAT: R82. -/
def TM_CMP_STAT_LATE : Fld := ⟨57, 31, 31, .w1c, 0⟩
def TM_CMP_STAT_SKIPPED : Fld := ⟨58, 15, 0, .ro, 0⟩
/-! SH_CAP: R117. -/
def SH_CAP_OFFER : Fld := ⟨59, 31, 31, .ro, 0⟩
def SH_CAP_MAX_PENDING : Fld := ⟨60, 14, 0, .ro, 0x4000⟩
/-! SH_STATUS: R117. -/
def SH_STATUS_PENDING : Fld := ⟨61, 14, 0, .ro, 0⟩
/-! SH_SQ_CFG: R118. -/
def SH_SQ_CFG_ENABLE : Fld := ⟨62, 63, 63, .rw, 0⟩
def SH_SQ_CFG_ERROR : Fld := ⟨63, 62, 62, .ro, 0⟩
def SH_SQ_CFG_CQ : Fld := ⟨64, 31, 16, .rw, 0⟩
def SH_SQ_CFG_SQ : Fld := ⟨65, 15, 0, .rw, 0⟩
/-! SH_CANCEL: R118. -/
def SH_CANCEL_VALUE : Fld := ⟨66, 63, 32, .wo, 0⟩
def SH_CANCEL_MASK : Fld := ⟨67, 31, 0, .wo, 0⟩
/-! SH_CANCEL_COUNT: R118. -/
def SH_CANCEL_COUNT_COUNT : Fld := ⟨68, 31, 0, .rc, 0⟩
/-! SH_PART_STAT: R118. -/
def SH_PART_STAT_RUNNING : Fld := ⟨69, 31, 16, .ro, 0⟩
def SH_PART_STAT_PENDING : Fld := ⟨70, 15, 0, .ro, 0⟩
/-! SH_LATE_COUNT: R118. -/
def SH_LATE_COUNT_COUNT : Fld := ⟨71, 31, 0, .rc, 0⟩
/-! SH_OFFERED_COUNT: R118. -/
def SH_OFFERED_COUNT_COUNT : Fld := ⟨72, 31, 0, .rc, 0⟩
/-! SH_TRIGGER: R118. -/
def SH_TRIGGER_TRIGGER : Fld := ⟨73, 9, 0, .wo, 0⟩
/-! SH_COST: R119. -/
def SH_COST_PER_UNIT : Fld := ⟨74, 63, 32, .rw, 0⟩
def SH_COST_BASE : Fld := ⟨75, 31, 0, .rw, 0⟩
/-! SH_COST_OBS: R119. -/
def SH_COST_OBS_OVERRUNS : Fld := ⟨76, 63, 32, .rc, 0⟩
def SH_COST_OBS_MAX_TICKS : Fld := ⟨77, 31, 0, .rc, 0⟩
/-! SH_FORECAST: R120. -/
def SH_FORECAST_NONE : Fld := ⟨78, 63, 63, .ro, 1⟩
def SH_FORECAST_NEXT_USE : Fld := ⟨79, 47, 0, .ro, 0⟩
/-! ENG_CTRL: R155. -/
def ENG_CTRL_SRESET : Fld := ⟨80, 8, 8, .w1s, 0⟩
def ENG_CTRL_RESET_ACTION : Fld := ⟨81, 4, 4, .rw, 0⟩
def ENG_CTRL_HALT_REQ : Fld := ⟨82, 2, 2, .rw, 0⟩
def ENG_CTRL_OPEN : Fld := ⟨83, 1, 1, .w1s, 0⟩
def ENG_CTRL_GO : Fld := ⟨84, 0, 0, .w1s, 0⟩
/-! ENG_STATE: R155. -/
def ENG_STATE_LAST_REASON : Fld := ⟨85, 31, 24, .ro, 0⟩
def ENG_STATE_PHYS_SITE : Fld := ⟨86, 20, 16, .ro, 0⟩
def ENG_STATE_SPARE_ACTIVE : Fld := ⟨87, 9, 9, .ro, 0⟩
def ENG_STATE_LEAD : Fld := ⟨88, 8, 8, .ro, 0⟩
def ENG_STATE_STATE : Fld := ⟨89, 2, 0, .ro, 0⟩
/-! ENG_START_PC: R155. -/
def ENG_START_PC_PC : Fld := ⟨90, 14, 0, .rw, 0⟩
/-! ENG_FAULT: R155. -/
def ENG_FAULT_CAUSE : Fld := ⟨91, 31, 24, .rc, 0⟩
def ENG_FAULT_PC : Fld := ⟨92, 14, 0, .rc, 0⟩
/-! ENG_JOBS: R155. -/
def ENG_JOBS_COUNT : Fld := ⟨93, 31, 0, .rc, 0⟩
/-! ENG_RESETS: R155. -/
def ENG_RESETS_COUNT : Fld := ⟨94, 31, 0, .rc, 0⟩
/-! ENG_EVQ_LOST: R155. -/
def ENG_EVQ_LOST_COUNT : Fld := ⟨95, 31, 0, .rc, 0⟩
/-! ENG_WIN_BASE: R155. -/
def ENG_WIN_BASE_BASE : Fld := ⟨96, 47, 12, .rw, 0⟩
def ENG_WIN_BASE_W : Fld := ⟨97, 1, 1, .rw, 0⟩
def ENG_WIN_BASE_RD : Fld := ⟨98, 0, 0, .rw, 0⟩
/-! ENG_WIN_LIMIT: R155. -/
def ENG_WIN_LIMIT_LAST : Fld := ⟨99, 47, 12, .rw, 0⟩
/-! GUS_CTRL: R219. -/
def GUS_CTRL_SRESET : Fld := ⟨100, 8, 8, .w1s, 0⟩
def GUS_CTRL_EXCLUDE : Fld := ⟨101, 0, 0, .rw, 0⟩
/-! GUS_STATE: R219. -/
def GUS_STATE_LAST_REASON : Fld := ⟨102, 31, 24, .ro, 0⟩
def GUS_STATE_RETIRED : Fld := ⟨103, 9, 9, .ro, 0⟩
def GUS_STATE_PRESENT : Fld := ⟨104, 8, 8, .ro, 0⟩
def GUS_STATE_LOST : Fld := ⟨105, 3, 0, .w1c, 0⟩
/-! GUS_OPS: R219. -/
def GUS_OPS_COUNT : Fld := ⟨106, 31, 0, .rc, 0⟩
/-! GUS_RESETS: R219. -/
def GUS_RESETS_COUNT : Fld := ⟨107, 31, 0, .rc, 0⟩
/-! GUS_CORR: R219. -/
def GUS_CORR_COUNT : Fld := ⟨108, 31, 0, .rc, 0⟩
/-! ACC_CTRL: R254, R282, R299. -/
def ACC_CTRL_SRESET : Fld := ⟨109, 8, 8, .w1s, 0⟩
/-! ACC_STATE: R254, R282, R299. -/
def ACC_STATE_LAST_REASON : Fld := ⟨110, 31, 24, .ro, 0⟩
def ACC_STATE_RETIRED : Fld := ⟨111, 9, 9, .ro, 0⟩
def ACC_STATE_PRESENT : Fld := ⟨112, 8, 8, .ro, 0⟩
def ACC_STATE_BUSY : Fld := ⟨113, 0, 0, .ro, 0⟩
/-! ACC_JOBS: R254, R282, R299. -/
def ACC_JOBS_COUNT : Fld := ⟨114, 31, 0, .rc, 0⟩
/-! ACC_BLOCKS: R254, R282, R299. -/
def ACC_BLOCKS_COUNT : Fld := ⟨115, 31, 0, .rc, 0⟩
/-! ACC_ITER: R254, R282, R299. -/
def ACC_ITER_COUNT : Fld := ⟨116, 31, 0, .rc, 0⟩
/-! ACC_RESETS: R254, R282, R299. -/
def ACC_RESETS_COUNT : Fld := ⟨117, 31, 0, .rc, 0⟩
/-! ACC_CORR: R254, R282, R299. -/
def ACC_CORR_COUNT : Fld := ⟨118, 31, 0, .rc, 0⟩
/-! MX_FILT_CFG: R283. -/
def MX_FILT_CFG_NC : Fld := ⟨119, 31, 16, .rw, 0x1000⟩
def MX_FILT_CFG_NTAP : Fld := ⟨120, 2, 0, .rw, 1⟩
/-! MX_FILT_T0: R283. -/
def MX_FILT_T0_H1 : Fld := ⟨121, 31, 16, .rw, 0⟩
def MX_FILT_T0_H0 : Fld := ⟨122, 15, 0, .rw, 0x4000⟩
/-! MX_FILT_T1: R283. -/
def MX_FILT_T1_H3 : Fld := ⟨123, 31, 16, .rw, 0⟩
def MX_FILT_T1_H2 : Fld := ⟨124, 15, 0, .rw, 0⟩
/-! MX_FILT_T2: R283. -/
def MX_FILT_T2_HM2 : Fld := ⟨125, 31, 16, .rw, 0⟩
def MX_FILT_T2_HM1 : Fld := ⟨126, 15, 0, .rw, 0⟩
/-! MX_FILT_T3: R283. -/
def MX_FILT_T3_HM3 : Fld := ⟨127, 15, 0, .rw, 0⟩
/-! HEM_CTRL: R299. -/
def HEM_CTRL_SRESET : Fld := ⟨128, 8, 8, .w1s, 0⟩
/-! HEM_STATE: R299. -/
def HEM_STATE_LAST_REASON : Fld := ⟨129, 31, 24, .ro, 0⟩
def HEM_STATE_LAST_STREAM : Fld := ⟨130, 20, 16, .ro, 0⟩
def HEM_STATE_RETIRED : Fld := ⟨131, 9, 9, .ro, 0⟩
def HEM_STATE_PRESENT : Fld := ⟨132, 8, 8, .ro, 0⟩
def HEM_STATE_BUSY : Fld := ⟨133, 0, 0, .ro, 0⟩
/-! HEM_CFG: R299. -/
def HEM_CFG_INQ : Fld := ⟨134, 31, 16, .rw, 0⟩
def HEM_CFG_CLASS : Fld := ⟨135, 15, 13, .rw, 0⟩
/-! HEM_BUDGET: R299. -/
def HEM_BUDGET_TICKS : Fld := ⟨136, 23, 0, .rw, 0x1120⟩
/-! HEM_SYMBOLS: R299. -/
def HEM_SYMBOLS_COUNT : Fld := ⟨137, 31, 0, .rc, 0⟩
/-! HEM_MISSING: R299. -/
def HEM_MISSING_COUNT : Fld := ⟨138, 31, 0, .rc, 0⟩
/-! HEM_DISCARDS: R299. -/
def HEM_DISCARDS_COUNT : Fld := ⟨139, 31, 0, .rc, 0⟩
/-! HEM_CLIPS: R299. -/
def HEM_CLIPS_COUNT : Fld := ⟨140, 31, 0, .rc, 0⟩
/-! HEM_SCFG: R299. -/
def HEM_SCFG_ENABLE : Fld := ⟨141, 31, 31, .rw, 0⟩
def HEM_SCFG_DIR : Fld := ⟨142, 30, 30, .rw, 0⟩
def HEM_SCFG_HALF : Fld := ⟨143, 29, 29, .rw, 0⟩
def HEM_SCFG_AGC : Fld := ⟨144, 28, 28, .rw, 0⟩
def HEM_SCFG_CARRIER : Fld := ⟨145, 27, 22, .rw, 0⟩
def HEM_SCFG_LOG2N : Fld := ⟨146, 21, 18, .rw, 0⟩
def HEM_SCFG_RING_LOG2 : Fld := ⟨147, 17, 13, .rw, 0⟩
def HEM_SCFG_NSC : Fld := ⟨148, 12, 0, .rw, 0⟩
/-! HEM_SRING: R299. -/
def HEM_SRING_BASE : Fld := ⟨149, 47, 6, .rw, 0⟩
/-! HEM_SGRID: R299. -/
def HEM_SGRID_BASE : Fld := ⟨150, 47, 6, .rw, 0⟩
/-! HEM_SSTRIDE: R299. -/
def HEM_SSTRIDE_NBUF : Fld := ⟨151, 31, 30, .rw, 0⟩
def HEM_SSTRIDE_SYM_STRIDE : Fld := ⟨152, 29, 0, .rw, 0⟩
/-! HEM_SBUF: R299. -/
def HEM_SBUF_BUF_STRIDE : Fld := ⟨153, 31, 0, .rw, 0⟩
/-! HEM_SWIN: R299. -/
def HEM_SWIN_SHIFT : Fld := ⟨154, 19, 16, .rw, 0⟩
def HEM_SWIN_ADV : Fld := ⟨155, 15, 0, .rw, 0⟩
/-! HEM_SOUT: R299. -/
def HEM_SOUT_OUT_Q : Fld := ⟨156, 31, 16, .rw, 0⟩
/-! HEM_SAGC0: R299. -/
def HEM_SAGC0_TARGET : Fld := ⟨157, 31, 16, .rw, 0xfee0⟩
def HEM_SAGC0_ATTACK : Fld := ⟨158, 15, 8, .rw, 0x60⟩
def HEM_SAGC0_RELEASE : Fld := ⟨159, 7, 0, .rw, 8⟩
/-! HEM_SAGC1: R299. -/
def HEM_SAGC1_WINDOW : Fld := ⟨160, 31, 24, .rw, 0x10⟩
def HEM_SAGC1_BURST : Fld := ⟨161, 23, 16, .rw, 0xa0⟩
def HEM_SAGC1_FREEZE_SPAN : Fld := ⟨162, 15, 12, .rw, 0⟩
/-! HEM_SAGC2: R299. -/
def HEM_SAGC2_GMAX : Fld := ⟨163, 31, 16, .rw, 0x180⟩
def HEM_SAGC2_GMIN : Fld := ⟨164, 15, 0, .rw, 0xfe20⟩
/-! HEM_SGAIN: R299. -/
def HEM_SGAIN_FROZEN : Fld := ⟨165, 31, 31, .ro, 0⟩
def HEM_SGAIN_G : Fld := ⟨166, 15, 0, .rw, 0⟩
/-! LQ_PLL_A: R321. -/
def LQ_PLL_A_ENABLE : Fld := ⟨167, 31, 31, .rw, 0⟩
def LQ_PLL_A_LOCKED : Fld := ⟨168, 30, 30, .ro, 0⟩
def LQ_PLL_A_RATE : Fld := ⟨169, 20, 16, .rw, 0⟩
def LQ_PLL_A_SPREAD_PPM : Fld := ⟨170, 12, 0, .rw, 0⟩
/-! LQ_PLL_B: R321. -/
def LQ_PLL_B_ENABLE : Fld := ⟨171, 31, 31, .rw, 0⟩
def LQ_PLL_B_LOCKED : Fld := ⟨172, 30, 30, .ro, 0⟩
def LQ_PLL_B_RATE : Fld := ⟨173, 20, 16, .rw, 0⟩
def LQ_PLL_B_SPREAD_PPM : Fld := ⟨174, 12, 0, .rw, 0⟩
/-! LANE_CTRL: R322. -/
def LANE_CTRL_ENABLE : Fld := ⟨175, 31, 31, .rw, 0⟩
def LANE_CTRL_PLL_SEL : Fld := ⟨176, 30, 30, .rw, 0⟩
def LANE_CTRL_MODE : Fld := ⟨177, 29, 28, .rw, 0⟩
def LANE_CTRL_LOOP : Fld := ⟨178, 27, 26, .rw, 0⟩
def LANE_CTRL_TRAIN_EN : Fld := ⟨179, 25, 25, .rw, 0⟩
def LANE_CTRL_POL_TX : Fld := ⟨180, 24, 24, .rw, 0⟩
def LANE_CTRL_POL_RX : Fld := ⟨181, 23, 23, .rw, 0⟩
def LANE_CTRL_PRECODE : Fld := ⟨182, 22, 22, .rw, 0⟩
def LANE_CTRL_TX_PWR : Fld := ⟨183, 21, 20, .rw, 0⟩
def LANE_CTRL_RX_PWR : Fld := ⟨184, 19, 18, .rw, 0⟩
def LANE_CTRL_RETRAIN : Fld := ⟨185, 17, 17, .w1s, 0⟩
/-! LANE_STATE: R322. -/
def LANE_STATE_LAST_REASON : Fld := ⟨186, 31, 24, .ro, 0⟩
def LANE_STATE_RETIRED : Fld := ⟨187, 11, 11, .ro, 0⟩
def LANE_STATE_PRESENT : Fld := ⟨188, 10, 10, .ro, 0⟩
def LANE_STATE_TX_PWR_NOW : Fld := ⟨189, 9, 8, .ro, 0⟩
def LANE_STATE_RX_PWR_NOW : Fld := ⟨190, 7, 6, .ro, 0⟩
def LANE_STATE_LOS : Fld := ⟨191, 5, 5, .ro, 0⟩
def LANE_STATE_ALIGNED : Fld := ⟨192, 4, 4, .ro, 0⟩
def LANE_STATE_STATE : Fld := ⟨193, 2, 0, .ro, 0⟩
/-! LANE_TXEQ: R322. -/
def LANE_TXEQ_C_M3 : Fld := ⟨194, 27, 21, .rw, 0⟩
def LANE_TXEQ_C_M2 : Fld := ⟨195, 20, 14, .rw, 0⟩
def LANE_TXEQ_C_M1 : Fld := ⟨196, 13, 7, .rw, 0⟩
def LANE_TXEQ_C_P1 : Fld := ⟨197, 6, 0, .rw, 0⟩
/-! LANE_TEST: R322. -/
def LANE_TEST_GEN_PAT : Fld := ⟨198, 31, 28, .rw, 0⟩
def LANE_TEST_CHK_PAT : Fld := ⟨199, 27, 24, .rw, 0⟩
def LANE_TEST_GEN_EN : Fld := ⟨200, 23, 23, .rw, 0⟩
def LANE_TEST_CHK_EN : Fld := ⟨201, 22, 22, .rw, 0⟩
def LANE_TEST_CHK_LOCK : Fld := ⟨202, 21, 21, .ro, 0⟩
def LANE_TEST_INJECT : Fld := ⟨203, 20, 20, .w1s, 0⟩
/-! LANE_USERPAT: R322. -/
def LANE_USERPAT_PATTERN : Fld := ⟨204, 63, 0, .rw, 0⟩
/-! LANE_ERRS: R322. -/
def LANE_ERRS_COUNT : Fld := ⟨205, 47, 0, .rc, 0⟩
/-! LANE_BITS: R322. -/
def LANE_BITS_COUNT : Fld := ⟨206, 47, 0, .rc, 0⟩
/-! LANE_ALIGN_LOSS: R322. -/
def LANE_ALIGN_LOSS_COUNT : Fld := ⟨207, 31, 0, .rc, 0⟩
/-! LANE_TRAIN_FAILS: R322. -/
def LANE_TRAIN_FAILS_COUNT : Fld := ⟨208, 31, 0, .rc, 0⟩
/-! LANE_EYE: R322. -/
def LANE_EYE_EYE_MV : Fld := ⟨209, 15, 0, .ro, 0⟩
/-! FH_PORT_CTRL: R348. -/
def FH_PORT_CTRL_ENABLE : Fld := ⟨210, 31, 31, .rw, 0⟩
def FH_PORT_CTRL_SPEED : Fld := ⟨211, 30, 28, .rw, 0⟩
def FH_PORT_CTRL_LANES : Fld := ⟨212, 27, 26, .rw, 0⟩
def FH_PORT_CTRL_FEC : Fld := ⟨213, 25, 25, .rw, 1⟩
def FH_PORT_CTRL_MTU : Fld := ⟨214, 24, 11, .rw, 0x5dc⟩
/-! FH_PORT_STATE: R348. -/
def FH_PORT_STATE_LAST_REASON : Fld := ⟨215, 31, 24, .ro, 0⟩
def FH_PORT_STATE_LOCAL_FAULT : Fld := ⟨216, 3, 3, .ro, 0⟩
def FH_PORT_STATE_REMOTE_FAULT : Fld := ⟨217, 2, 2, .ro, 0⟩
def FH_PORT_STATE_ALIGNED : Fld := ⟨218, 1, 1, .ro, 0⟩
def FH_PORT_STATE_UP : Fld := ⟨219, 0, 0, .ro, 0⟩
/-! FH_PORT_MAC: R348. -/
def FH_PORT_MAC_MAC : Fld := ⟨220, 47, 0, .rw, 0⟩
/-! FH_PORT_QUEUES: R348. -/
def FH_PORT_QUEUES_TXQ_C : Fld := ⟨221, 31, 16, .rw, 0⟩
def FH_PORT_QUEUES_MISCQ : Fld := ⟨222, 15, 0, .rw, 0⟩
/-! FH_PORT_TXQ_U: R348. -/
def FH_PORT_TXQ_U_TXQ_U : Fld := ⟨223, 15, 0, .rw, 0⟩
/-! FH_PORT_RX_CORR: R348. -/
def FH_PORT_RX_CORR_PS : Fld := ⟨224, 31, 0, .rw, 0⟩
/-! FH_PORT_TX_CORR: R348. -/
def FH_PORT_TX_CORR_PS : Fld := ⟨225, 31, 0, .rw, 0⟩
/-! FH_ST_CMD: R350. -/
def FH_ST_CMD_BUSY : Fld := ⟨226, 31, 31, .ro, 0⟩
def FH_ST_CMD_STATUS : Fld := ⟨227, 30, 28, .ro, 0⟩
def FH_ST_CMD_OP : Fld := ⟨228, 16, 15, .rw, 0⟩
def FH_ST_CMD_INDEX : Fld := ⟨229, 14, 0, .rw, 0⟩
/-! CPRI_CFG: R351. -/
def CPRI_CFG_ENABLE : Fld := ⟨230, 31, 31, .rw, 0⟩
def CPRI_CFG_L1_RESET : Fld := ⟨231, 30, 30, .rw, 0⟩
def CPRI_CFG_PVER : Fld := ⟨232, 29, 27, .rw, 1⟩
def CPRI_CFG_CARRIER : Fld := ⟨233, 26, 21, .rw, 0⟩
/-! CPRI_STATE: R351. -/
def CPRI_STATE_LAST_REASON : Fld := ⟨234, 31, 24, .ro, 0⟩
def CPRI_STATE_FAR_RAI : Fld := ⟨235, 1, 1, .ro, 0⟩
def CPRI_STATE_HFSYNC : Fld := ⟨236, 0, 0, .ro, 0⟩
/-! CPRI_RX_TS: R351. -/
def CPRI_RX_TS_TICKS : Fld := ⟨237, 63, 4, .ro, 0⟩
def CPRI_RX_TS_SUB : Fld := ⟨238, 3, 0, .ro, 0⟩
/-! CPRI_RX_HF: R351. -/
def CPRI_RX_HF_BFN : Fld := ⟨239, 19, 8, .ro, 0⟩
def CPRI_RX_HF_HFN : Fld := ⟨240, 7, 0, .ro, 0⟩
/-! CPRI_RX_OVERFLOW: R351. -/
def CPRI_RX_OVERFLOW_COUNT : Fld := ⟨241, 31, 0, .rc, 0⟩
/-! CPRI_TX_UNDERRUN: R351. -/
def CPRI_TX_UNDERRUN_COUNT : Fld := ⟨242, 31, 0, .rc, 0⟩
/-! SEAM_CAP: R379. -/
def SEAM_CAP_MAX_DEVICES : Fld := ⟨243, 11, 8, .ro, 0⟩
def SEAM_CAP_SLOTS : Fld := ⟨244, 7, 0, .ro, 0⟩
/-! SEAM_BOLT: R379. -/
def SEAM_BOLT_MEMBERS : Fld := ⟨245, 31, 24, .ro, 0⟩
def SEAM_BOLT_AEPOCH : Fld := ⟨246, 23, 16, .ro, 0⟩
def SEAM_BOLT_VALID : Fld := ⟨247, 15, 15, .ro, 0⟩
def SEAM_BOLT_LEADER : Fld := ⟨248, 10, 8, .ro, 0⟩
def SEAM_BOLT_SELF : Fld := ⟨249, 2, 0, .ro, 0⟩
/-! SEAM_EPOCH: R379. -/
def SEAM_EPOCH_EPOCH : Fld := ⟨250, 31, 0, .ro, 0⟩
/-! SEAM_ROUTE: R379. -/
def SEAM_ROUTE_VALID : Fld := ⟨251, 31, 31, .ro, 0⟩
def SEAM_ROUTE_HOPS : Fld := ⟨252, 6, 4, .ro, 0⟩
def SEAM_ROUTE_LINK : Fld := ⟨253, 2, 0, .ro, 0⟩
/-! SEAM_PEER_EVT: R379. -/
def SEAM_PEER_EVT_VALID : Fld := ⟨254, 31, 31, .rc, 0⟩
def SEAM_PEER_EVT_SRC : Fld := ⟨255, 15, 13, .rc, 0⟩
def SEAM_PEER_EVT_EVENT : Fld := ⟨256, 12, 0, .rc, 0⟩
/-! SEAM_PEER_EVT_LOST: R379. -/
def SEAM_PEER_EVT_LOST_COUNT : Fld := ⟨257, 31, 0, .rc, 0⟩
/-! SEAM_DENIED: R379. -/
def SEAM_DENIED_COUNT : Fld := ⟨258, 31, 0, .rc, 0⟩
/-! SEAM_BAD_BLOCKS: R379. -/
def SEAM_BAD_BLOCKS_COUNT : Fld := ⟨259, 31, 0, .rc, 0⟩
/-! SEAM_IN_BASE: R379. -/
def SEAM_IN_BASE_BASE : Fld := ⟨260, 47, 12, .rw, 0⟩
def SEAM_IN_BASE_W : Fld := ⟨261, 1, 1, .rw, 0⟩
def SEAM_IN_BASE_RD : Fld := ⟨262, 0, 0, .rw, 0⟩
/-! SEAM_IN_LIMIT: R379. -/
def SEAM_IN_LIMIT_LAST : Fld := ⟨263, 47, 12, .rw, 0⟩
/-! SEAM_IN_QUEUE: R379. -/
def SEAM_IN_QUEUE_EN : Fld := ⟨264, 32, 32, .rw, 0⟩
def SEAM_IN_QUEUE_LAST : Fld := ⟨265, 31, 16, .rw, 0⟩
def SEAM_IN_QUEUE_BASE : Fld := ⟨266, 15, 0, .rw, 0⟩
/-! SEAM_QALIAS: R379. -/
def SEAM_QALIAS_EN : Fld := ⟨267, 63, 63, .rw, 0⟩
def SEAM_QALIAS_PEER : Fld := ⟨268, 58, 56, .rw, 0⟩
def SEAM_QALIAS_REMOTE_BASE : Fld := ⟨269, 47, 32, .rw, 0⟩
def SEAM_QALIAS_LOCAL_LAST : Fld := ⟨270, 31, 16, .rw, 0⟩
def SEAM_QALIAS_LOCAL_BASE : Fld := ⟨271, 15, 0, .rw, 0⟩
/-! SEAM_LINK_CTRL: R380. -/
def SEAM_LINK_CTRL_ENABLE : Fld := ⟨272, 31, 31, .rw, 0⟩
def SEAM_LINK_CTRL_SLOT_MASK : Fld := ⟨273, 7, 0, .rw, 0⟩
/-! SEAM_LINK_STATE: R380. -/
def SEAM_LINK_STATE_LAST_REASON : Fld := ⟨274, 31, 24, .ro, 0⟩
def SEAM_LINK_STATE_LANES_UP : Fld := ⟨275, 23, 8, .ro, 0⟩
def SEAM_LINK_STATE_PEER : Fld := ⟨276, 7, 5, .ro, 0⟩
def SEAM_LINK_STATE_PEER_VALID : Fld := ⟨277, 4, 4, .ro, 0⟩
def SEAM_LINK_STATE_STATE : Fld := ⟨278, 2, 0, .ro, 0⟩
/-! SEAM_LINK_PWR: R380. -/
def SEAM_LINK_PWR_IDLE_TICKS : Fld := ⟨279, 31, 16, .rw, 0x400⟩
def SEAM_LINK_PWR_WAKE_UNITS : Fld := ⟨280, 15, 8, .rw, 0x20⟩
def SEAM_LINK_PWR_SLEEP_EN : Fld := ⟨281, 0, 0, .rw, 0⟩
/-! SEAM_CW_CORR: R380. -/
def SEAM_CW_CORR_COUNT : Fld := ⟨282, 31, 0, .rc, 0⟩
/-! SEAM_CW_UNCORR: R380. -/
def SEAM_CW_UNCORR_COUNT : Fld := ⟨283, 31, 0, .rc, 0⟩
/-! SEAM_REPLAYS: R380. -/
def SEAM_REPLAYS_COUNT : Fld := ⟨284, 31, 0, .rc, 0⟩
/-! SEAM_FENCED: R380. -/
def SEAM_FENCED_COUNT : Fld := ⟨285, 31, 0, .rc, 0⟩
/-! SEAM_FWD_UNITS: R380. -/
def SEAM_FWD_UNITS_COUNT : Fld := ⟨286, 31, 0, .rc, 0⟩
/-! MP_CE_COUNT: R400. -/
def MP_CE_COUNT_COUNT : Fld := ⟨287, 31, 0, .rc, 0⟩
/-! MP_CE_FLIGHT: R400. -/
def MP_CE_FLIGHT_COUNT : Fld := ⟨288, 31, 0, .rc, 0⟩
/-! MP_UE_COUNT: R400. -/
def MP_UE_COUNT_COUNT : Fld := ⟨289, 31, 0, .rc, 0⟩
/-! MP_POISON_READS: R400. -/
def MP_POISON_READS_COUNT : Fld := ⟨290, 31, 0, .rc, 0⟩
/-! MP_PARTIAL_POISON: R400. -/
def MP_PARTIAL_POISON_COUNT : Fld := ⟨291, 31, 0, .rc, 0⟩
/-! MP_DARN_WB: R400. -/
def MP_DARN_WB_COUNT : Fld := ⟨292, 31, 0, .rc, 0⟩
/-! MP_DARN_OVERFLOW: R400. -/
def MP_DARN_OVERFLOW_COUNT : Fld := ⟨293, 31, 0, .rc, 0⟩
/-! MP_REPAIRS: R400. -/
def MP_REPAIRS_COUNT : Fld := ⟨294, 31, 0, .ro, 0⟩
/-! MP_UE_LOG: R400. -/
def MP_UE_LOG_MEMID : Fld := ⟨295, 63, 48, .ro, 0⟩
def MP_UE_LOG_ADDRESS : Fld := ⟨296, 47, 0, .ro, 0⟩
/-! MP_UE_SRC: R400. -/
def MP_UE_SRC_UNIT : Fld := ⟨297, 27, 16, .ro, 0xfff⟩
def MP_UE_SRC_KIND : Fld := ⟨298, 1, 0, .ro, 0⟩
/-! MP_DENY_LOG: R400. -/
def MP_DENY_LOG_PARTITION : Fld := ⟨299, 63, 61, .ro, 0⟩
def MP_DENY_LOG_WRITE : Fld := ⟨300, 60, 60, .ro, 0⟩
def MP_DENY_LOG_UNIT : Fld := ⟨301, 59, 48, .ro, 0xfff⟩
def MP_DENY_LOG_ADDRESS : Fld := ⟨302, 47, 0, .ro, 0⟩
/-! MP_DENIED: R400. -/
def MP_DENIED_COUNT : Fld := ⟨303, 31, 0, .rc, 0⟩
/-! DRAM_CAP: R431. -/
def DRAM_CAP_CH_PRESENT : Fld := ⟨304, 15, 8, .ro, 0⟩
/-! DRAM_STATUS: R431. -/
def DRAM_STATUS_CH_UP : Fld := ⟨305, 15, 8, .ro, 0⟩
def DRAM_STATUS_NCH : Fld := ⟨306, 3, 0, .ro, 0⟩
/-! DRAM_CAPACITY: R431. -/
def DRAM_CAPACITY_BYTES : Fld := ⟨307, 40, 0, .ro, 0⟩
/-! DRAM_XLATE_ADDR: R431. -/
def DRAM_XLATE_ADDR_ADDR : Fld := ⟨308, 47, 0, .rw, 0⟩
/-! DRAM_XLATE_OUT: R431. -/
def DRAM_XLATE_OUT_VALID : Fld := ⟨309, 63, 63, .ro, 0⟩
def DRAM_XLATE_OUT_CHANNEL : Fld := ⟨310, 62, 60, .ro, 0⟩
def DRAM_XLATE_OUT_SUB : Fld := ⟨311, 59, 59, .ro, 0⟩
def DRAM_XLATE_OUT_RANK : Fld := ⟨312, 58, 57, .ro, 0⟩
def DRAM_XLATE_OUT_LRANK : Fld := ⟨313, 56, 55, .ro, 0⟩
def DRAM_XLATE_OUT_BG : Fld := ⟨314, 54, 52, .ro, 0⟩
def DRAM_XLATE_OUT_BANK : Fld := ⟨315, 51, 50, .ro, 0⟩
def DRAM_XLATE_OUT_ROW : Fld := ⟨316, 49, 32, .ro, 0⟩
def DRAM_XLATE_OUT_COLUMN : Fld := ⟨317, 31, 21, .ro, 0⟩
/-! DRAM_AGE: R431. -/
def DRAM_AGE_TICKS : Fld := ⟨318, 31, 0, .rw, 0⟩
/-! DRAM_PORT_CFG: R431. -/
def DRAM_PORT_CFG_URGENT : Fld := ⟨319, 31, 31, .ro, 0⟩
def DRAM_PORT_CFG_TARGET_NS : Fld := ⟨320, 19, 0, .rw, 0⟩
/-! DRAM_PORT_LAT_MAX: R431. -/
def DRAM_PORT_LAT_MAX_NS : Fld := ⟨321, 31, 0, .rc, 0⟩
/-! DRAM_PORT_OVERRUNS: R431. -/
def DRAM_PORT_OVERRUNS_COUNT : Fld := ⟨322, 31, 0, .rc, 0⟩
/-! DRAM_CH_CFG: R432. -/
def DRAM_CH_CFG_ENABLE : Fld := ⟨323, 31, 31, .rw, 0⟩
def DRAM_CH_CFG_RATE : Fld := ⟨324, 30, 28, .rw, 0⟩
def DRAM_CH_CFG_WIDTH : Fld := ⟨325, 27, 27, .rw, 0⟩
def DRAM_CH_CFG_DENSITY : Fld := ⟨326, 26, 25, .rw, 0⟩
def DRAM_CH_CFG_STACK : Fld := ⟨327, 24, 23, .rw, 0⟩
def DRAM_CH_CFG_RANKS : Fld := ⟨328, 22, 20, .rw, 0⟩
def DRAM_CH_CFG_SPARE_EN : Fld := ⟨329, 19, 19, .rw, 0⟩
def DRAM_CH_CFG_REF_SB : Fld := ⟨330, 18, 18, .rw, 0⟩
def DRAM_CH_CFG_DRFM : Fld := ⟨331, 17, 17, .rw, 0⟩
def DRAM_CH_CFG_RDIMM : Fld := ⟨332, 16, 16, .rw, 0⟩
/-! DRAM_CH_STATE: R432. -/
def DRAM_CH_STATE_LAST_REASON : Fld := ⟨333, 31, 24, .ro, 0⟩
def DRAM_CH_STATE_TEMP_2X : Fld := ⟨334, 19, 19, .ro, 0⟩
def DRAM_CH_STATE_TRAINED : Fld := ⟨335, 18, 18, .ro, 0⟩
def DRAM_CH_STATE_DEGRADED : Fld := ⟨336, 11, 8, .ro, 0⟩
def DRAM_CH_STATE_RANK_STATE : Fld := ⟨337, 7, 0, .ro, 0⟩
/-! DRAM_CH_CTRL: R432. -/
def DRAM_CH_CTRL_RANK : Fld := ⟨338, 5, 4, .rw, 0⟩
def DRAM_CH_CTRL_RETRAIN : Fld := ⟨339, 0, 0, .w1s, 0⟩
/-! DRAM_CH_TIMING: R432. -/
def DRAM_CH_TIMING_XSDLL_NS : Fld := ⟨340, 31, 16, .rw, 0⟩
def DRAM_CH_TIMING_TRFC_NS : Fld := ⟨341, 15, 0, .rw, 0⟩
/-! DRAM_CH_SRTIME: R432. -/
def DRAM_CH_SRTIME_XS_NS : Fld := ⟨342, 31, 16, .rw, 0⟩
def DRAM_CH_SRTIME_SR_MIN_NS : Fld := ⟨343, 15, 0, .rw, 0⟩
/-! DRAM_MIG_STATE: R432. -/
def DRAM_MIG_STATE_STATE : Fld := ⟨344, 31, 30, .ro, 0⟩
def DRAM_MIG_STATE_FROM : Fld := ⟨345, 29, 28, .ro, 0⟩
def DRAM_MIG_STATE_TO : Fld := ⟨346, 27, 26, .ro, 0⟩
def DRAM_MIG_STATE_REGION : Fld := ⟨347, 16, 0, .ro, 0⟩
/-! DRAM_RH_LAST: R432. -/
def DRAM_RH_LAST_UNIT : Fld := ⟨348, 63, 52, .ro, 0xfff⟩
def DRAM_RH_LAST_RANK : Fld := ⟨349, 51, 50, .ro, 0⟩
def DRAM_RH_LAST_SUB : Fld := ⟨350, 49, 49, .ro, 0⟩
def DRAM_RH_LAST_BG : Fld := ⟨351, 48, 46, .ro, 0⟩
def DRAM_RH_LAST_BANK : Fld := ⟨352, 45, 44, .ro, 0⟩
def DRAM_RH_LAST_ROW : Fld := ⟨353, 43, 26, .ro, 0⟩
/-! DRAM_RH_REFRESHES: R432. -/
def DRAM_RH_REFRESHES_COUNT : Fld := ⟨354, 31, 0, .rc, 0⟩
/-! DRAM_RH_THROTTLES: R432. -/
def DRAM_RH_THROTTLES_COUNT : Fld := ⟨355, 31, 0, .rc, 0⟩
/-! DRAM_WHOLECHIP: R432. -/
def DRAM_WHOLECHIP_COUNT : Fld := ⟨356, 31, 0, .rc, 0⟩
/-! DRAM_RANK_DEBT: R432. -/
def DRAM_RANK_DEBT_NS : Fld := ⟨357, 31, 0, .ro, 0⟩
/-! DRAM_RANK_STALL: R432. -/
def DRAM_RANK_STALL_NS : Fld := ⟨358, 31, 0, .rc, 0⟩
/-! DRAM_RANK_FORCED: R432. -/
def DRAM_RANK_FORCED_COUNT : Fld := ⟨359, 31, 0, .rc, 0⟩
/-! DMA_CAP: R456. -/
def DMA_CAP_ENG_PRESENT : Fld := ⟨360, 31, 16, .ro, 0⟩
def DMA_CAP_CHANNELS : Fld := ⟨361, 12, 0, .ro, 0x1000⟩
/-! DMA_CH_CFG: R457. -/
def DMA_CH_CFG_ENABLE : Fld := ⟨362, 31, 31, .rw, 0⟩
def DMA_CH_CFG_PRIO : Fld := ⟨363, 30, 29, .rw, 0⟩
/-! DMA_CH_LINKS: R457. -/
def DMA_CH_LINKS_CHAIN_EN : Fld := ⟨364, 31, 31, .rw, 0⟩
def DMA_CH_LINKS_TRIGQ_EN : Fld := ⟨365, 30, 30, .rw, 0⟩
def DMA_CH_LINKS_CHAIN : Fld := ⟨366, 27, 16, .rw, 0⟩
def DMA_CH_LINKS_TRIGQ : Fld := ⟨367, 15, 0, .rw, 0⟩
/-! DMA_CH_HEAD: R457. -/
def DMA_CH_HEAD_ADDR : Fld := ⟨368, 47, 6, .rw, 0⟩
/-! DMA_CH_CUR: R457. -/
def DMA_CH_CUR_ADDR : Fld := ⟨369, 47, 6, .ro, 0⟩
/-! DMA_CH_DOORBELL: R457. -/
def DMA_CH_DOORBELL_SRESET : Fld := ⟨370, 2, 2, .w1s, 0⟩
def DMA_CH_DOORBELL_TRIG : Fld := ⟨371, 1, 1, .w1s, 0⟩
def DMA_CH_DOORBELL_RING : Fld := ⟨372, 0, 0, .w1s, 0⟩
/-! DMA_CH_STATE: R457. -/
def DMA_CH_STATE_LAST_CODE : Fld := ⟨373, 31, 24, .ro, 0⟩
def DMA_CH_STATE_TRIG_PENDING : Fld := ⟨374, 23, 16, .ro, 0⟩
def DMA_CH_STATE_LAST_REASON : Fld := ⟨375, 15, 8, .ro, 0⟩
def DMA_CH_STATE_DB_PENDING : Fld := ⟨376, 3, 3, .ro, 0⟩
def DMA_CH_STATE_STATE : Fld := ⟨377, 2, 0, .ro, 0⟩
/-! DMA_CH_DONE: R457. -/
def DMA_CH_DONE_COUNT : Fld := ⟨378, 31, 0, .rc, 0⟩
/-! DMA_CH_TRIG_LOST: R457. -/
def DMA_CH_TRIG_LOST_COUNT : Fld := ⟨379, 31, 0, .rc, 0⟩
/-! QC_CAP: R483. -/
def QC_CAP_PATCHES : Fld := ⟨380, 7, 0, .ro, 0⟩
/-! QS_CTRL: R483. -/
def QS_CTRL_ENABLE : Fld := ⟨381, 31, 31, .rw, 1⟩
/-! QS_PERIOD: R483. -/
def QS_PERIOD_US : Fld := ⟨382, 31, 0, .rw, 0x2710⟩
/-! QS_STATUS: R483. -/
def QS_STATUS_FAULTY : Fld := ⟨383, 31, 31, .ro, 0⟩
def QS_STATUS_FIRMWARE : Fld := ⟨384, 30, 30, .ro, 0⟩
def QS_STATUS_LAST_REASON : Fld := ⟨385, 23, 16, .ro, 0⟩
def QS_STATUS_SWEEPS : Fld := ⟨386, 15, 0, .ro, 0⟩
/-! QS_VOTE_FIX: R483. -/
def QS_VOTE_FIX_COUNT : Fld := ⟨387, 31, 0, .rc, 0⟩
/-! QP_CMD: R484. -/
def QP_CMD_BUSY : Fld := ⟨388, 31, 31, .ro, 0⟩
def QP_CMD_STATUS : Fld := ⟨389, 30, 28, .ro, 0⟩
def QP_CMD_OP : Fld := ⟨390, 3, 0, .rw, 0⟩
/-! QP_STATE: R484. -/
def QP_STATE_LAST_REASON : Fld := ⟨391, 31, 24, .ro, 0⟩
def QP_STATE_SCRUB_DEGRADED : Fld := ⟨392, 12, 12, .ro, 0⟩
def QP_STATE_ENCRYPTED : Fld := ⟨393, 11, 11, .ro, 0⟩
def QP_STATE_AUTH : Fld := ⟨394, 10, 10, .ro, 0⟩
def QP_STATE_RETIRED : Fld := ⟨395, 9, 9, .ro, 0⟩
def QP_STATE_PRESENT : Fld := ⟨396, 8, 8, .ro, 0⟩
def QP_STATE_STATE : Fld := ⟨397, 2, 0, .ro, 0⟩
/-! QP_FAR: R484. -/
def QP_FAR_COLUMN : Fld := ⟨398, 13, 8, .rw, 0⟩
def QP_FAR_FRAME : Fld := ⟨399, 6, 0, .rw, 0⟩
/-! QP_FDRI: R484. -/
def QP_FDRI_WORD : Fld := ⟨400, 63, 0, .wo, 0⟩
/-! QP_FDRO: R484. -/
def QP_FDRO_WORD : Fld := ⟨401, 63, 0, .rc, 0⟩
/-! QP_START_ORDER: R484. -/
def QP_START_ORDER_GAP : Fld := ⟨402, 31, 24, .rw, 0x20⟩
def QP_START_ORDER_STEPS : Fld := ⟨403, 23, 0, .rw, 0x654321⟩
/-! QP_CLK: R484. -/
def QP_CLK_DIV : Fld := ⟨404, 3, 0, .rw, 2⟩
/-! QP_CLAMP: R484. -/
def QP_CLAMP_MODE : Fld := ⟨405, 63, 0, .rw, 0⟩
/-! QP_IMAGE: R484. -/
def QP_IMAGE_VALID : Fld := ⟨406, 63, 63, .rw, 0⟩
def QP_IMAGE_ADDR : Fld := ⟨407, 47, 0, .rw, 0⟩
/-! QP_DIGEST: R484. -/
def QP_DIGEST_DIGEST : Fld := ⟨408, 31, 0, .ro, 0⟩
/-! QP_EPIN: R484. -/
def QP_EPIN_EN : Fld := ⟨409, 31, 31, .rw, 0⟩
def QP_EPIN_READY : Fld := ⟨410, 30, 30, .ro, 0⟩
def QP_EPIN_QUEUE : Fld := ⟨411, 15, 0, .rw, 0⟩
/-! QP_EPOUT: R484. -/
def QP_EPOUT_EN : Fld := ⟨412, 31, 31, .rw, 0⟩
def QP_EPOUT_READY : Fld := ⟨413, 30, 30, .ro, 0⟩
def QP_EPOUT_QUEUE : Fld := ⟨414, 15, 0, .rw, 0⟩
/-! QP_JOBS: R484. -/
def QP_JOBS_COUNT : Fld := ⟨415, 31, 0, .rc, 0⟩
/-! QP_RESETS: R484. -/
def QP_RESETS_COUNT : Fld := ⟨416, 31, 0, .rc, 0⟩
/-! QP_CORR: R484. -/
def QP_CORR_COUNT : Fld := ⟨417, 31, 0, .rc, 0⟩
/-! QP_RELOADS: R484. -/
def QP_RELOADS_COUNT : Fld := ⟨418, 31, 0, .rc, 0⟩
/-! HR_CFG: R497. -/
def HR_CFG_ENABLE : Fld := ⟨419, 31, 31, .rw, 0⟩
def HR_CFG_DIR : Fld := ⟨420, 30, 30, .rw, 0⟩
def HR_CFG_INTR : Fld := ⟨421, 29, 29, .rw, 0⟩
def HR_CFG_ERROR : Fld := ⟨422, 28, 28, .ro, 0⟩
def HR_CFG_SIZE_LOG2 : Fld := ⟨423, 27, 24, .rw, 0⟩
def HR_CFG_QUEUE : Fld := ⟨424, 15, 0, .rw, 0⟩
/-! HR_VEC: R497. -/
def HR_VEC_VECTOR : Fld := ⟨425, 10, 0, .rw, 0⟩
/-! HR_BASE: R497. -/
def HR_BASE_BASE : Fld := ⟨426, 45, 6, .rw, 0⟩
/-! HR_WB: R497. -/
def HR_WB_ADDR : Fld := ⟨427, 45, 3, .rw, 0⟩
def HR_WB_WB_EN : Fld := ⟨428, 0, 0, .rw, 0⟩
/-! HR_DOORBELL: R497. -/
def HR_DOORBELL_INDEX : Fld := ⟨429, 15, 0, .wo, 0⟩
/-! HR_PTR: R497. -/
def HR_PTR_DEVICE : Fld := ⟨430, 31, 16, .ro, 0⟩
def HR_PTR_HOST : Fld := ⟨431, 15, 0, .ro, 0⟩
/-! EVR_ROUTE: R502. -/
def EVR_ROUTE_THIMBLE : Fld := ⟨432, 31, 31, .rw, 1⟩
def EVR_ROUTE_DEST : Fld := ⟨433, 30, 28, .rw, 0⟩
def EVR_ROUTE_FUNCTION : Fld := ⟨434, 27, 21, .rw, 0⟩
def EVR_ROUTE_TARGET : Fld := ⟨435, 10, 0, .rw, 0⟩
/-! HP_LINK_STATE: R509. -/
def HP_LINK_STATE_LAST_REASON : Fld := ⟨436, 31, 24, .ro, 0⟩
def HP_LINK_STATE_M1_REPAIRED : Fld := ⟨437, 23, 20, .ro, 0⟩
def HP_LINK_STATE_M0_REPAIRED : Fld := ⟨438, 19, 16, .ro, 0⟩
def HP_LINK_STATE_RATE : Fld := ⟨439, 10, 8, .ro, 0⟩
def HP_LINK_STATE_M1_WIDTH : Fld := ⟨440, 5, 4, .ro, 0⟩
def HP_LINK_STATE_M0_WIDTH : Fld := ⟨441, 3, 2, .ro, 0⟩
def HP_LINK_STATE_RETRAINING : Fld := ⟨442, 1, 1, .ro, 0⟩
def HP_LINK_STATE_UP : Fld := ⟨443, 0, 0, .ro, 0⟩
/-! HP_CTRL: R509. -/
def HP_CTRL_RETRAIN : Fld := ⟨444, 31, 31, .w1s, 0⟩
def HP_CTRL_CPL_TIMEOUT_US : Fld := ⟨445, 19, 0, .rw, 0xc350⟩
/-! HP_REPLAYS: R509. -/
def HP_REPLAYS_COUNT : Fld := ⟨446, 31, 0, .rc, 0⟩
/-! HP_RX_POISONED: R509. -/
def HP_RX_POISONED_COUNT : Fld := ⟨447, 31, 0, .rc, 0⟩
/-! HP_RX_UR: R509. -/
def HP_RX_UR_COUNT : Fld := ⟨448, 31, 0, .rc, 0⟩
/-! HP_CPL_TIMEOUTS: R509. -/
def HP_CPL_TIMEOUTS_COUNT : Fld := ⟨449, 31, 0, .rc, 0⟩
/-! HP_WR_DROPPED: R509. -/
def HP_WR_DROPPED_COUNT : Fld := ⟨450, 31, 0, .rc, 0⟩
/-! HP_RING_LAST: R509. -/
def HP_RING_LAST_CODE : Fld := ⟨451, 31, 24, .ro, 0⟩
def HP_RING_LAST_RING : Fld := ⟨452, 23, 16, .ro, 0⟩
def HP_RING_LAST_FUNCTION : Fld := ⟨453, 6, 0, .ro, 0⟩
/-! PM_DEVICE: R569. -/
def PM_DEVICE_HOLD_DEEP : Fld := ⟨454, 3, 3, .ro, 0⟩
def PM_DEVICE_STATE : Fld := ⟨455, 2, 0, .ro, 0⟩
/-! PM_VOTE_LAST: R569. -/
def PM_VOTE_LAST_REASON : Fld := ⟨456, 31, 24, .ro, 0⟩
def PM_VOTE_LAST_ISLAND : Fld := ⟨457, 7, 0, .ro, 0xff⟩
/-! PM_REFUSALS: R569. -/
def PM_REFUSALS_COUNT : Fld := ⟨458, 31, 0, .rc, 0⟩
/-! PM_RET_LOST_LAST: R569. -/
def PM_RET_LOST_LAST_MEMID : Fld := ⟨459, 15, 0, .ro, 0⟩
/-! PM_RET_LOST: R569. -/
def PM_RET_LOST_COUNT : Fld := ⟨460, 31, 0, .rc, 0⟩
/-! PM_ISLAND_STATE: R570. -/
def PM_ISLAND_STATE_LAST_REASON : Fld := ⟨461, 31, 24, .ro, 0⟩
def PM_ISLAND_STATE_GROUP : Fld := ⟨462, 20, 16, .ro, 0⟩
def PM_ISLAND_STATE_FLOOR : Fld := ⟨463, 10, 8, .ro, 0⟩
def PM_ISLAND_STATE_TARGET : Fld := ⟨464, 6, 4, .ro, 0⟩
def PM_ISLAND_STATE_TRANSIT : Fld := ⟨465, 3, 3, .ro, 0⟩
def PM_ISLAND_STATE_STATE : Fld := ⟨466, 2, 0, .ro, 0⟩
/-! PM_ISLAND_ENTRIES: R570. -/
def PM_ISLAND_ENTRIES_COUNT : Fld := ⟨467, 31, 0, .rc, 0⟩
/-! PM_ISLAND_ABORTS: R570. -/
def PM_ISLAND_ABORTS_COUNT : Fld := ⟨468, 31, 0, .rc, 0⟩
/-! PM_ISLAND_WAKES: R570. -/
def PM_ISLAND_WAKES_COUNT : Fld := ⟨469, 31, 0, .rc, 0⟩
/-! PM_ISLAND_OVERRUNS: R570. -/
def PM_ISLAND_OVERRUNS_COUNT : Fld := ⟨470, 31, 0, .rc, 0⟩
/-! PM_ISLAND_STALL_MAX: R570. -/
def PM_ISLAND_STALL_MAX_NS : Fld := ⟨471, 31, 0, .rc, 0⟩
/-! PNL_CTRL: R591. -/
def PNL_CTRL_SRESET : Fld := ⟨472, 0, 0, .w1s, 0⟩
/-! PNL_STATE: R591. -/
def PNL_STATE_SPARE_FOR : Fld := ⟨473, 31, 24, .ro, 0xff⟩
def PNL_STATE_RETIRED : Fld := ⟨474, 18, 18, .ro, 0⟩
def PNL_STATE_PRESENT : Fld := ⟨475, 17, 17, .ro, 0⟩
def PNL_STATE_SITES_RETIRED : Fld := ⟨476, 16, 0, .ro, 0⟩
/-! PNL_RESETS: R591. -/
def PNL_RESETS_COUNT : Fld := ⟨477, 31, 0, .rc, 0⟩
/-! SEC_STATUS: R614. -/
def SEC_STATUS_TAMPERED : Fld := ⟨478, 31, 31, .w1c, 0⟩
def SEC_STATUS_DIAG_UNLOCKED : Fld := ⟨479, 30, 30, .ro, 0⟩
def SEC_STATUS_SLOT1_VALID : Fld := ⟨480, 29, 29, .ro, 0⟩
def SEC_STATUS_SLOT0_VALID : Fld := ⟨481, 28, 28, .ro, 0⟩
def SEC_STATUS_FW_SLOT : Fld := ⟨482, 27, 26, .ro, 0⟩
def SEC_STATUS_FW_TRIAL : Fld := ⟨483, 25, 25, .ro, 0⟩
/-! SEC_POLICY: R614. -/
def SEC_POLICY_DIAG_LOCK : Fld := ⟨484, 10, 10, .ro, 0⟩
def SEC_POLICY_QUILT_SIGNED : Fld := ⟨485, 9, 9, .ro, 0⟩
def SEC_POLICY_ENG_SIGNED : Fld := ⟨486, 8, 8, .ro, 0⟩
def SEC_POLICY_KEY_REVOKED : Fld := ⟨487, 7, 4, .ro, 0⟩
def SEC_POLICY_KEY_PRESENT : Fld := ⟨488, 3, 0, .ro, 0⟩
/-! SEC_SVN_FW: R614. -/
def SEC_SVN_FW_MIN : Fld := ⟨489, 31, 0, .ro, 0⟩
/-! SEC_SVN_MB: R614. -/
def SEC_SVN_MB_MIN : Fld := ⟨490, 31, 0, .ro, 0⟩
/-! SEC_M: R614. -/
def SEC_M_WORD : Fld := ⟨491, 31, 0, .ro, 0⟩
/-! GPIO_PIN: R659. -/
def GPIO_PIN_MODE : Fld := ⟨492, 31, 30, .rw, 0⟩
def GPIO_PIN_PATCH : Fld := ⟨493, 29, 27, .rw, 0⟩
def GPIO_PIN_OUTPUT : Fld := ⟨494, 26, 23, .rw, 0⟩
def GPIO_PIN_OUT : Fld := ⟨495, 1, 1, .rw, 0⟩
def GPIO_PIN_IN : Fld := ⟨496, 0, 0, .ro, 0⟩
/-! PM_ISLAND_TEMP: R666. -/
def PM_ISLAND_TEMP_TEMP : Fld := ⟨497, 15, 0, .ro, 0⟩
/-! PM_THERM_STATE: R666. -/
def PM_THERM_STATE_FREQ_PCT : Fld := ⟨498, 23, 16, .ro, 0x64⟩
def PM_THERM_STATE_HOT_ISLAND : Fld := ⟨499, 15, 8, .ro, 0⟩
def PM_THERM_STATE_TRIP : Fld := ⟨500, 2, 2, .ro, 0⟩
def PM_THERM_STATE_THROTTLE : Fld := ⟨501, 1, 1, .ro, 0⟩
def PM_THERM_STATE_WARN : Fld := ⟨502, 0, 0, .ro, 0⟩
/-! FH_RX_FRAMES: R348. -/
def FH_RX_FRAMES_COUNT : Fld := ⟨503, 63, 0, .rc, 0⟩
/-! FH_RX_BYTES: R348. -/
def FH_RX_BYTES_COUNT : Fld := ⟨504, 63, 0, .rc, 0⟩
/-! FH_RX_FCS_ERR: R348. -/
def FH_RX_FCS_ERR_COUNT : Fld := ⟨505, 63, 0, .rc, 0⟩
/-! FH_RX_MALFORMED: R348. -/
def FH_RX_MALFORMED_COUNT : Fld := ⟨506, 63, 0, .rc, 0⟩
/-! FH_RX_OVERFLOW: R348. -/
def FH_RX_OVERFLOW_COUNT : Fld := ⟨507, 63, 0, .rc, 0⟩
/-! FH_RX_EARLY: R348. -/
def FH_RX_EARLY_COUNT : Fld := ⟨508, 63, 0, .rc, 0⟩
/-! FH_RX_LATE: R348. -/
def FH_RX_LATE_COUNT : Fld := ⟨509, 63, 0, .rc, 0⟩
/-! FH_RX_SEQ_GAP: R348. -/
def FH_RX_SEQ_GAP_COUNT : Fld := ⟨510, 63, 0, .rc, 0⟩
/-! FH_RX_OTHER: R348. -/
def FH_RX_OTHER_COUNT : Fld := ⟨511, 63, 0, .rc, 0⟩
/-! FH_TX_FRAMES: R348. -/
def FH_TX_FRAMES_COUNT : Fld := ⟨512, 63, 0, .rc, 0⟩
/-! FH_TX_BYTES: R348. -/
def FH_TX_BYTES_COUNT : Fld := ⟨513, 63, 0, .rc, 0⟩
/-! FH_TX_LATE: R348. -/
def FH_TX_LATE_COUNT : Fld := ⟨514, 63, 0, .rc, 0⟩
/-! FH_TX_REFUSED: R348. -/
def FH_TX_REFUSED_COUNT : Fld := ⟨515, 63, 0, .rc, 0⟩
/-! FH_TX_SAT: R348. -/
def FH_TX_SAT_COUNT : Fld := ⟨516, 63, 0, .rc, 0⟩
/-! FH_FEC_UNCORR: R348. -/
def FH_FEC_UNCORR_COUNT : Fld := ⟨517, 63, 0, .rc, 0⟩
/-! FH_DEST: R349. -/
def FH_DEST_PCP : Fld := ⟨518, 50, 48, .rw, 0⟩
def FH_DEST_MAC : Fld := ⟨519, 47, 0, .rw, 0⟩
/-! FH_ST_DATA0: R350. -/
def FH_ST_DATA0_W : Fld := ⟨520, 63, 0, .rw, 0⟩
/-! FH_ST_DATA1: R350. -/
def FH_ST_DATA1_W : Fld := ⟨521, 63, 0, .rw, 0⟩
/-! FH_ST_DATA2: R350. -/
def FH_ST_DATA2_W : Fld := ⟨522, 63, 0, .rw, 0⟩
/-! FH_ST_DATA3: R350. -/
def FH_ST_DATA3_W : Fld := ⟨523, 63, 0, .rw, 0⟩
/-! MP_WIN_BASE: R398. -/
def MP_WIN_BASE_BASE : Fld := ⟨524, 47, 12, .rw, 0⟩
def MP_WIN_BASE_W : Fld := ⟨525, 1, 1, .rw, 0⟩
def MP_WIN_BASE_RD : Fld := ⟨526, 0, 0, .rw, 0⟩
/-! MP_WIN_LIMIT: R398. -/
def MP_WIN_LIMIT_LAST : Fld := ⟨527, 47, 12, .rw, 0⟩
/-! EVR_PEND: R503. -/
def EVR_PEND_PEND : Fld := ⟨528, 31, 0, .w1c, 0⟩
/-! MBX_CTRL: R505. -/
def MBX_CTRL_GO : Fld := ⟨529, 31, 31, .w1s, 0⟩
def MBX_CTRL_BUSY : Fld := ⟨530, 30, 30, .ro, 0⟩
def MBX_CTRL_DONE : Fld := ⟨531, 29, 29, .w1c, 0⟩
def MBX_CTRL_VECTOR : Fld := ⟨532, 23, 13, .rw, 0⟩
def MBX_CTRL_REQ_LEN : Fld := ⟨533, 12, 0, .rw, 0⟩
/-! MBX_STATUS: R505. -/
def MBX_STATUS_RSP_LEN : Fld := ⟨534, 12, 0, .ro, 0⟩

end Reg

open Reg

/-- Registers, part 0. -/
def regMap0 : List RegDef := [
  ⟨"PM_ISLAND_FREQ", .device, 0xc010000, [(83, 8)], 4, .none, [PM_ISLAND_FREQ_CUR_MHZ]⟩,
  ⟨"PM_ISLAND_FMIN", .device, 0xc010004, [(83, 8)], 4, .none, [PM_ISLAND_FMIN_MIN_MHZ]⟩,
  ⟨"QM_CAP", .device, 0x2000000, [], 4, .tpf0, [QM_CAP_MAX_DEPTH_LOG2, QM_CAP_QUEUE_COUNT]⟩,
  ⟨"QM_STALL_LIMIT", .device, 0x2000008, [], 4, .tpf0, [QM_STALL_LIMIT_LIMIT]⟩,
  ⟨"QM_FENCED_TOTAL", .device, 0x200000c, [], 4, .tpf0, [QM_FENCED_TOTAL_COUNT]⟩,
  ⟨"QM_ROUTE_LOST", .device, 0x2000010, [], 4, .tpf0, [QM_ROUTE_LOST_COUNT]⟩,
  ⟨"QM_STALL_LAST", .device, 0x2000014, [], 4, .tpf0, [QM_STALL_LAST_PRODUCER, QM_STALL_LAST_QUEUE]⟩,
  ⟨"QM_EPOCH", .device, 0x2004000, [(4096, 4)], 4, .none, [QM_EPOCH_RETIRED, QM_EPOCH_PRESENT, QM_EPOCH_EPOCH]⟩,
  ⟨"QM_QBASE", .device, 0x2100000, [(65536, 0x20)], 8, .queue, [QM_QBASE_BASE]⟩,
  ⟨"QM_QCFG", .device, 0x2100008, [(65536, 0x20)], 4, .queue, [QM_QCFG_ENABLE, QM_QCFG_DEPTH_LOG2, QM_QCFG_GRANT_LOG2, QM_QCFG_OWNED, QM_QCFG_PARTITION, QM_QCFG_CONSUMER]⟩,
  ⟨"QM_QPTR", .device, 0x210000c, [(65536, 0x20)], 4, .queue, [QM_QPTR_TAIL, QM_QPTR_HEAD]⟩,
  ⟨"QM_QCREDIT", .device, 0x2100010, [(65536, 0x20)], 4, .queue, [QM_QCREDIT_HELD, QM_QCREDIT_AVAIL]⟩,
  ⟨"QM_QSTAT", .device, 0x2100014, [(65536, 0x20)], 4, .queue, [QM_QSTAT_STALLED, QM_QSTAT_POISONED, QM_QSTAT_FENCED, QM_QSTAT_DISABLING, QM_QSTAT_OCCUPANCY]⟩,
  ⟨"QM_QSTALL_MAX", .device, 0x2100018, [(65536, 0x20)], 4, .queue, [QM_QSTALL_MAX_TICKS]⟩,
  ⟨"QM_QFENCED", .device, 0x210001c, [(65536, 0x20)], 4, .queue, [QM_QFENCED_COUNT]⟩,
  ⟨"TB_TIME", .device, 0x3000000, [], 8, .timebase, [TB_TIME_COUNT]⟩,
  ⟨"TB_FRAC", .device, 0x3000008, [], 4, .timebase, [TB_FRAC_FRAC]⟩,
  ⟨"TB_FREQ_ADJ", .device, 0x300000c, [], 4, .timebase, [TB_FREQ_ADJ_ADJ]⟩,
  ⟨"TB_STEP", .device, 0x3000010, [], 8, .timebase, [TB_STEP_DELTA]⟩,
  ⟨"TB_STATUS", .device, 0x3000018, [], 4, .tpf0, [TB_STATUS_FALLBACK, TB_STATUS_STEP_DENIED, TB_STATUS_STATE]⟩]

/-- Registers, part 1. -/
def regMap1 : List RegDef := [
  ⟨"TB_PPS_IN_TS", .device, 0x3000020, [], 8, .timebase, [TB_PPS_IN_TS_TICKS, TB_PPS_IN_TS_SUB]⟩,
  ⟨"TM_CAR_CFG", .device, 0x3001000, [(64, 0x10)], 4, .carrier, [TM_CAR_CFG_ENABLE, TM_CAR_CFG_SLOT_EVENT, TM_CAR_CFG_TYPE, TM_CAR_CFG_ECP]⟩,
  ⟨"TM_CAR_OFFSET", .device, 0x3001004, [(64, 0x10)], 4, .carrier, [TM_CAR_OFFSET_OFFSET]⟩,
  ⟨"TM_CAR_POS", .device, 0x3001008, [(64, 0x10)], 4, .carrier, [TM_CAR_POS_SFN, TM_CAR_POS_SLOT, TM_CAR_POS_SYMBOL]⟩,
  ⟨"TM_CMP_MATCH", .device, 0x3008000, [(1024, 0x20)], 8, .comparator, [TM_CMP_MATCH_MATCH]⟩,
  ⟨"TM_CMP_PERIOD", .device, 0x3008008, [(1024, 0x20)], 4, .comparator, [TM_CMP_PERIOD_PERIOD]⟩,
  ⟨"TM_CMP_CTRL", .device, 0x300800c, [(1024, 0x20)], 4, .comparator, [TM_CMP_CTRL_ARM, TM_CMP_CTRL_MODE, TM_CMP_CTRL_KIND, TM_CMP_CTRL_ANCHOR, TM_CMP_CTRL_CARRIER, TM_CMP_CTRL_TARGET]⟩,
  ⟨"TM_CMP_SEL", .device, 0x3008010, [(1024, 0x20)], 4, .comparator, [TM_CMP_SEL_SYMBOL_MASK]⟩,
  ⟨"TM_CMP_OFFSET", .device, 0x3008014, [(1024, 0x20)], 4, .comparator, [TM_CMP_OFFSET_OFFSET]⟩,
  ⟨"TM_CMP_STAT", .device, 0x3008018, [(1024, 0x20)], 4, .comparator, [TM_CMP_STAT_LATE, TM_CMP_STAT_SKIPPED]⟩,
  ⟨"SH_CAP", .device, 0x1000000, [], 4, .none, [SH_CAP_OFFER, SH_CAP_MAX_PENDING]⟩,
  ⟨"SH_STATUS", .device, 0x1000004, [], 4, .none, [SH_STATUS_PENDING]⟩,
  ⟨"SH_SQ_CFG", .device, 0x1001000, [(8, 0x400), (16, 8)], 8, .partition, [SH_SQ_CFG_ENABLE, SH_SQ_CFG_ERROR, SH_SQ_CFG_CQ, SH_SQ_CFG_SQ]⟩,
  ⟨"SH_CANCEL", .device, 0x1001080, [(8, 0x400)], 8, .partition, [SH_CANCEL_VALUE, SH_CANCEL_MASK]⟩,
  ⟨"SH_CANCEL_COUNT", .device, 0x1001088, [(8, 0x400)], 4, .partition, [SH_CANCEL_COUNT_COUNT]⟩,
  ⟨"SH_PART_STAT", .device, 0x100108c, [(8, 0x400)], 4, .partition, [SH_PART_STAT_RUNNING, SH_PART_STAT_PENDING]⟩,
  ⟨"SH_LATE_COUNT", .device, 0x1001090, [(8, 0x400)], 4, .partition, [SH_LATE_COUNT_COUNT]⟩,
  ⟨"SH_OFFERED_COUNT", .device, 0x1001094, [(8, 0x400)], 4, .partition, [SH_OFFERED_COUNT_COUNT]⟩,
  ⟨"SH_TRIGGER", .device, 0x1001098, [(8, 0x400)], 4, .partition, [SH_TRIGGER_TRIGGER]⟩,
  ⟨"SH_COST", .device, 0x1010000, [(8, 0x800), (256, 8)], 8, .partition, [SH_COST_PER_UNIT, SH_COST_BASE]⟩]

/-- Registers, part 2. -/
def regMap2 : List RegDef := [
  ⟨"SH_COST_OBS", .device, 0x1020000, [(8, 0x800), (256, 8)], 8, .partition, [SH_COST_OBS_OVERRUNS, SH_COST_OBS_MAX_TICKS]⟩,
  ⟨"SH_FORECAST", .device, 0x1030000, [(72, 8)], 8, .none, [SH_FORECAST_NONE, SH_FORECAST_NEXT_USE]⟩,
  ⟨"ENG_CTRL", .device, 0x10008000, [(64, 0x100000), (17, 0x400)], 4, .panel, [ENG_CTRL_SRESET, ENG_CTRL_RESET_ACTION, ENG_CTRL_HALT_REQ, ENG_CTRL_OPEN, ENG_CTRL_GO]⟩,
  ⟨"ENG_STATE", .device, 0x10008004, [(64, 0x100000), (17, 0x400)], 4, .panel, [ENG_STATE_LAST_REASON, ENG_STATE_PHYS_SITE, ENG_STATE_SPARE_ACTIVE, ENG_STATE_LEAD, ENG_STATE_STATE]⟩,
  ⟨"ENG_START_PC", .device, 0x10008008, [(64, 0x100000), (17, 0x400)], 4, .panel, [ENG_START_PC_PC]⟩,
  ⟨"ENG_FAULT", .device, 0x1000800c, [(64, 0x100000), (17, 0x400)], 4, .panel, [ENG_FAULT_CAUSE, ENG_FAULT_PC]⟩,
  ⟨"ENG_JOBS", .device, 0x10008010, [(64, 0x100000), (17, 0x400)], 4, .panel, [ENG_JOBS_COUNT]⟩,
  ⟨"ENG_RESETS", .device, 0x10008014, [(64, 0x100000), (17, 0x400)], 4, .panel, [ENG_RESETS_COUNT]⟩,
  ⟨"ENG_EVQ_LOST", .device, 0x10008018, [(64, 0x100000), (17, 0x400)], 4, .panel, [ENG_EVQ_LOST_COUNT]⟩,
  ⟨"ENG_WIN_BASE", .device, 0x10008020, [(64, 0x100000), (17, 0x400), (8, 0x10)], 8, .panel, [ENG_WIN_BASE_BASE, ENG_WIN_BASE_W, ENG_WIN_BASE_RD]⟩,
  ⟨"ENG_WIN_LIMIT", .device, 0x10008028, [(64, 0x100000), (17, 0x400), (8, 0x10)], 8, .panel, [ENG_WIN_LIMIT_LAST]⟩,
  ⟨"GUS_CTRL", .device, 0x10004000, [(64, 0x100000), (4, 0x100)], 4, .panel, [GUS_CTRL_SRESET, GUS_CTRL_EXCLUDE]⟩,
  ⟨"GUS_STATE", .device, 0x10004004, [(64, 0x100000), (4, 0x100)], 4, .panel, [GUS_STATE_LAST_REASON, GUS_STATE_RETIRED, GUS_STATE_PRESENT, GUS_STATE_LOST]⟩,
  ⟨"GUS_OPS", .device, 0x10004008, [(64, 0x100000), (4, 0x100)], 4, .panel, [GUS_OPS_COUNT]⟩,
  ⟨"GUS_RESETS", .device, 0x1000400c, [(64, 0x100000), (4, 0x100)], 4, .panel, [GUS_RESETS_COUNT]⟩,
  ⟨"GUS_CORR", .device, 0x10004010, [(64, 0x100000), (4, 0x100)], 4, .panel, [GUS_CORR_COUNT]⟩,
  ⟨"ACC_CTRL", .accel, 0x9000000, [(312, 0x100)], 4, .tpf0, [ACC_CTRL_SRESET]⟩,
  ⟨"ACC_STATE", .accel, 0x9000004, [(312, 0x100)], 4, .tpf0, [ACC_STATE_LAST_REASON, ACC_STATE_RETIRED, ACC_STATE_PRESENT, ACC_STATE_BUSY]⟩,
  ⟨"ACC_JOBS", .accel, 0x9000008, [(312, 0x100)], 4, .tpf0, [ACC_JOBS_COUNT]⟩,
  ⟨"ACC_BLOCKS", .accel, 0x900000c, [(312, 0x100)], 4, .tpf0, [ACC_BLOCKS_COUNT]⟩]

/-- Registers, part 3. -/
def regMap3 : List RegDef := [
  ⟨"ACC_ITER", .accel, 0x9000010, [(312, 0x100)], 4, .tpf0, [ACC_ITER_COUNT]⟩,
  ⟨"ACC_RESETS", .accel, 0x9000014, [(312, 0x100)], 4, .tpf0, [ACC_RESETS_COUNT]⟩,
  ⟨"ACC_CORR", .accel, 0x9000018, [(312, 0x100)], 4, .tpf0, [ACC_CORR_COUNT]⟩,
  ⟨"MX_FILT_CFG", .device, 0xa080000, [(8, 0x20)], 4, .tpf0, [MX_FILT_CFG_NC, MX_FILT_CFG_NTAP]⟩,
  ⟨"MX_FILT_T0", .device, 0xa080004, [(8, 0x20)], 4, .tpf0, [MX_FILT_T0_H1, MX_FILT_T0_H0]⟩,
  ⟨"MX_FILT_T1", .device, 0xa080008, [(8, 0x20)], 4, .tpf0, [MX_FILT_T1_H3, MX_FILT_T1_H2]⟩,
  ⟨"MX_FILT_T2", .device, 0xa08000c, [(8, 0x20)], 4, .tpf0, [MX_FILT_T2_HM2, MX_FILT_T2_HM1]⟩,
  ⟨"MX_FILT_T3", .device, 0xa080010, [(8, 0x20)], 4, .tpf0, [MX_FILT_T3_HM3]⟩,
  ⟨"HEM_CTRL", .device, 0xa014000, [(4, 0x100)], 4, .hem, [HEM_CTRL_SRESET]⟩,
  ⟨"HEM_STATE", .device, 0xa014004, [(4, 0x100)], 4, .hem, [HEM_STATE_LAST_REASON, HEM_STATE_LAST_STREAM, HEM_STATE_RETIRED, HEM_STATE_PRESENT, HEM_STATE_BUSY]⟩,
  ⟨"HEM_CFG", .device, 0xa014008, [(4, 0x100)], 4, .hem, [HEM_CFG_INQ, HEM_CFG_CLASS]⟩,
  ⟨"HEM_BUDGET", .device, 0xa01400c, [(4, 0x100)], 4, .hem, [HEM_BUDGET_TICKS]⟩,
  ⟨"HEM_SYMBOLS", .device, 0xa014010, [(4, 0x100)], 4, .hem, [HEM_SYMBOLS_COUNT]⟩,
  ⟨"HEM_MISSING", .device, 0xa014014, [(4, 0x100)], 4, .hem, [HEM_MISSING_COUNT]⟩,
  ⟨"HEM_DISCARDS", .device, 0xa014018, [(4, 0x100)], 4, .hem, [HEM_DISCARDS_COUNT]⟩,
  ⟨"HEM_CLIPS", .device, 0xa01401c, [(4, 0x100)], 4, .hem, [HEM_CLIPS_COUNT]⟩,
  ⟨"HEM_SCFG", .device, 0xa040000, [(4, 0x1000), (32, 0x80)], 4, .hem, [HEM_SCFG_ENABLE, HEM_SCFG_DIR, HEM_SCFG_HALF, HEM_SCFG_AGC, HEM_SCFG_CARRIER, HEM_SCFG_LOG2N, HEM_SCFG_RING_LOG2, HEM_SCFG_NSC]⟩,
  ⟨"HEM_SRING", .device, 0xa040008, [(4, 0x1000), (32, 0x80)], 8, .hem, [HEM_SRING_BASE]⟩,
  ⟨"HEM_SGRID", .device, 0xa040010, [(4, 0x1000), (32, 0x80)], 8, .hem, [HEM_SGRID_BASE]⟩,
  ⟨"HEM_SSTRIDE", .device, 0xa040018, [(4, 0x1000), (32, 0x80)], 4, .hem, [HEM_SSTRIDE_NBUF, HEM_SSTRIDE_SYM_STRIDE]⟩]

/-- Registers, part 4. -/
def regMap4 : List RegDef := [
  ⟨"HEM_SBUF", .device, 0xa04001c, [(4, 0x1000), (32, 0x80)], 4, .hem, [HEM_SBUF_BUF_STRIDE]⟩,
  ⟨"HEM_SWIN", .device, 0xa040020, [(4, 0x1000), (32, 0x80)], 4, .hem, [HEM_SWIN_SHIFT, HEM_SWIN_ADV]⟩,
  ⟨"HEM_SOUT", .device, 0xa040024, [(4, 0x1000), (32, 0x80)], 4, .hem, [HEM_SOUT_OUT_Q]⟩,
  ⟨"HEM_SAGC0", .device, 0xa040028, [(4, 0x1000), (32, 0x80)], 4, .hem, [HEM_SAGC0_TARGET, HEM_SAGC0_ATTACK, HEM_SAGC0_RELEASE]⟩,
  ⟨"HEM_SAGC1", .device, 0xa04002c, [(4, 0x1000), (32, 0x80)], 4, .hem, [HEM_SAGC1_WINDOW, HEM_SAGC1_BURST, HEM_SAGC1_FREEZE_SPAN]⟩,
  ⟨"HEM_SAGC2", .device, 0xa040030, [(4, 0x1000), (32, 0x80)], 4, .hem, [HEM_SAGC2_GMAX, HEM_SAGC2_GMIN]⟩,
  ⟨"HEM_SGAIN", .device, 0xa040034, [(4, 0x1000), (32, 0x80)], 4, .hem, [HEM_SGAIN_FROZEN, HEM_SGAIN_G]⟩,
  ⟨"LQ_PLL_A", .device, 0x6000800, [(17, 0x20)], 4, .tpf0, [LQ_PLL_A_ENABLE, LQ_PLL_A_LOCKED, LQ_PLL_A_RATE, LQ_PLL_A_SPREAD_PPM]⟩,
  ⟨"LQ_PLL_B", .device, 0x6000804, [(17, 0x20)], 4, .tpf0, [LQ_PLL_B_ENABLE, LQ_PLL_B_LOCKED, LQ_PLL_B_RATE, LQ_PLL_B_SPREAD_PPM]⟩,
  ⟨"LANE_CTRL", .device, 0x6001000, [(66, 0x100)], 4, .lane, [LANE_CTRL_ENABLE, LANE_CTRL_PLL_SEL, LANE_CTRL_MODE, LANE_CTRL_LOOP, LANE_CTRL_TRAIN_EN, LANE_CTRL_POL_TX, LANE_CTRL_POL_RX, LANE_CTRL_PRECODE, LANE_CTRL_TX_PWR, LANE_CTRL_RX_PWR, LANE_CTRL_RETRAIN]⟩,
  ⟨"LANE_STATE", .device, 0x6001004, [(66, 0x100)], 4, .lane, [LANE_STATE_LAST_REASON, LANE_STATE_RETIRED, LANE_STATE_PRESENT, LANE_STATE_TX_PWR_NOW, LANE_STATE_RX_PWR_NOW, LANE_STATE_LOS, LANE_STATE_ALIGNED, LANE_STATE_STATE]⟩,
  ⟨"LANE_TXEQ", .device, 0x6001008, [(66, 0x100)], 4, .lane, [LANE_TXEQ_C_M3, LANE_TXEQ_C_M2, LANE_TXEQ_C_M1, LANE_TXEQ_C_P1]⟩,
  ⟨"LANE_TEST", .device, 0x600100c, [(66, 0x100)], 4, .lane, [LANE_TEST_GEN_PAT, LANE_TEST_CHK_PAT, LANE_TEST_GEN_EN, LANE_TEST_CHK_EN, LANE_TEST_CHK_LOCK, LANE_TEST_INJECT]⟩,
  ⟨"LANE_USERPAT", .device, 0x6001010, [(66, 0x100)], 8, .lane, [LANE_USERPAT_PATTERN]⟩,
  ⟨"LANE_ERRS", .device, 0x6001018, [(66, 0x100)], 8, .lane, [LANE_ERRS_COUNT]⟩,
  ⟨"LANE_BITS", .device, 0x6001020, [(66, 0x100)], 8, .lane, [LANE_BITS_COUNT]⟩,
  ⟨"LANE_ALIGN_LOSS", .device, 0x6001028, [(66, 0x100)], 4, .lane, [LANE_ALIGN_LOSS_COUNT]⟩,
  ⟨"LANE_TRAIN_FAILS", .device, 0x600102c, [(66, 0x100)], 4, .lane, [LANE_TRAIN_FAILS_COUNT]⟩,
  ⟨"LANE_EYE", .device, 0x6001030, [(66, 0x100)], 4, .lane, [LANE_EYE_EYE_MV]⟩,
  ⟨"FH_PORT_CTRL", .device, 0x4000000, [(48, 0x100)], 4, .tpf0, [FH_PORT_CTRL_ENABLE, FH_PORT_CTRL_SPEED, FH_PORT_CTRL_LANES, FH_PORT_CTRL_FEC, FH_PORT_CTRL_MTU]⟩]

/-- Registers, part 5. -/
def regMap5 : List RegDef := [
  ⟨"FH_PORT_STATE", .device, 0x4000004, [(48, 0x100)], 4, .tpf0, [FH_PORT_STATE_LAST_REASON, FH_PORT_STATE_LOCAL_FAULT, FH_PORT_STATE_REMOTE_FAULT, FH_PORT_STATE_ALIGNED, FH_PORT_STATE_UP]⟩,
  ⟨"FH_PORT_MAC", .device, 0x4000008, [(48, 0x100)], 8, .tpf0, [FH_PORT_MAC_MAC]⟩,
  ⟨"FH_PORT_QUEUES", .device, 0x4000010, [(48, 0x100)], 4, .tpf0, [FH_PORT_QUEUES_TXQ_C, FH_PORT_QUEUES_MISCQ]⟩,
  ⟨"FH_PORT_TXQ_U", .device, 0x4000014, [(48, 0x100)], 4, .tpf0, [FH_PORT_TXQ_U_TXQ_U]⟩,
  ⟨"FH_PORT_RX_CORR", .device, 0x4000018, [(48, 0x100)], 4, .tpf0, [FH_PORT_RX_CORR_PS]⟩,
  ⟨"FH_PORT_TX_CORR", .device, 0x400001c, [(48, 0x100)], 4, .tpf0, [FH_PORT_TX_CORR_PS]⟩,
  ⟨"FH_ST_CMD", .device, 0x4004020, [(8, 0x40)], 4, .partition, [FH_ST_CMD_BUSY, FH_ST_CMD_STATUS, FH_ST_CMD_OP, FH_ST_CMD_INDEX]⟩,
  ⟨"CPRI_CFG", .device, 0x4008000, [(48, 0x40)], 4, .cprilane, [CPRI_CFG_ENABLE, CPRI_CFG_L1_RESET, CPRI_CFG_PVER, CPRI_CFG_CARRIER]⟩,
  ⟨"CPRI_STATE", .device, 0x4008004, [(48, 0x40)], 4, .cprilane, [CPRI_STATE_LAST_REASON, CPRI_STATE_FAR_RAI, CPRI_STATE_HFSYNC]⟩,
  ⟨"CPRI_RX_TS", .device, 0x4008008, [(48, 0x40)], 8, .cprilane, [CPRI_RX_TS_TICKS, CPRI_RX_TS_SUB]⟩,
  ⟨"CPRI_RX_HF", .device, 0x4008010, [(48, 0x40)], 4, .cprilane, [CPRI_RX_HF_BFN, CPRI_RX_HF_HFN]⟩,
  ⟨"CPRI_RX_OVERFLOW", .device, 0x4008014, [(48, 0x40)], 4, .cprilane, [CPRI_RX_OVERFLOW_COUNT]⟩,
  ⟨"CPRI_TX_UNDERRUN", .device, 0x4008018, [(48, 0x40)], 4, .cprilane, [CPRI_TX_UNDERRUN_COUNT]⟩,
  ⟨"SEAM_CAP", .device, 0x5000000, [], 4, .tpf0, [SEAM_CAP_MAX_DEVICES, SEAM_CAP_SLOTS]⟩,
  ⟨"SEAM_BOLT", .device, 0x5000004, [], 4, .tpf0, [SEAM_BOLT_MEMBERS, SEAM_BOLT_AEPOCH, SEAM_BOLT_VALID, SEAM_BOLT_LEADER, SEAM_BOLT_SELF]⟩,
  ⟨"SEAM_EPOCH", .device, 0x5000008, [], 4, .tpf0, [SEAM_EPOCH_EPOCH]⟩,
  ⟨"SEAM_ROUTE", .device, 0x5000010, [(8, 4)], 4, .tpf0, [SEAM_ROUTE_VALID, SEAM_ROUTE_HOPS, SEAM_ROUTE_LINK]⟩,
  ⟨"SEAM_PEER_EVT", .device, 0x5000040, [], 4, .tpf0, [SEAM_PEER_EVT_VALID, SEAM_PEER_EVT_SRC, SEAM_PEER_EVT_EVENT]⟩,
  ⟨"SEAM_PEER_EVT_LOST", .device, 0x5000044, [], 4, .tpf0, [SEAM_PEER_EVT_LOST_COUNT]⟩,
  ⟨"SEAM_DENIED", .device, 0x5000048, [], 4, .tpf0, [SEAM_DENIED_COUNT]⟩]

/-- Registers, part 6. -/
def regMap6 : List RegDef := [
  ⟨"SEAM_BAD_BLOCKS", .device, 0x500004c, [], 4, .tpf0, [SEAM_BAD_BLOCKS_COUNT]⟩,
  ⟨"SEAM_IN_BASE", .device, 0x5004000, [(8, 0x100), (8, 0x10)], 8, .tpf0, [SEAM_IN_BASE_BASE, SEAM_IN_BASE_W, SEAM_IN_BASE_RD]⟩,
  ⟨"SEAM_IN_LIMIT", .device, 0x5004008, [(8, 0x100), (8, 0x10)], 8, .tpf0, [SEAM_IN_LIMIT_LAST]⟩,
  ⟨"SEAM_IN_QUEUE", .device, 0x5004080, [(8, 0x100)], 8, .tpf0, [SEAM_IN_QUEUE_EN, SEAM_IN_QUEUE_LAST, SEAM_IN_QUEUE_BASE]⟩,
  ⟨"SEAM_QALIAS", .device, 0x5006000, [(16, 8)], 8, .seamAlias, [SEAM_QALIAS_EN, SEAM_QALIAS_PEER, SEAM_QALIAS_REMOTE_BASE, SEAM_QALIAS_LOCAL_LAST, SEAM_QALIAS_LOCAL_BASE]⟩,
  ⟨"SEAM_LINK_CTRL", .device, 0x5001000, [(8, 0x100)], 4, .tpf0, [SEAM_LINK_CTRL_ENABLE, SEAM_LINK_CTRL_SLOT_MASK]⟩,
  ⟨"SEAM_LINK_STATE", .device, 0x5001004, [(8, 0x100)], 4, .tpf0, [SEAM_LINK_STATE_LAST_REASON, SEAM_LINK_STATE_LANES_UP, SEAM_LINK_STATE_PEER, SEAM_LINK_STATE_PEER_VALID, SEAM_LINK_STATE_STATE]⟩,
  ⟨"SEAM_LINK_PWR", .device, 0x5001008, [(8, 0x100)], 4, .tpf0, [SEAM_LINK_PWR_IDLE_TICKS, SEAM_LINK_PWR_WAKE_UNITS, SEAM_LINK_PWR_SLEEP_EN]⟩,
  ⟨"SEAM_CW_CORR", .device, 0x5001010, [(8, 0x100)], 4, .tpf0, [SEAM_CW_CORR_COUNT]⟩,
  ⟨"SEAM_CW_UNCORR", .device, 0x5001014, [(8, 0x100)], 4, .tpf0, [SEAM_CW_UNCORR_COUNT]⟩,
  ⟨"SEAM_REPLAYS", .device, 0x5001018, [(8, 0x100)], 4, .tpf0, [SEAM_REPLAYS_COUNT]⟩,
  ⟨"SEAM_FENCED", .device, 0x500101c, [(8, 0x100)], 4, .tpf0, [SEAM_FENCED_COUNT]⟩,
  ⟨"SEAM_FWD_UNITS", .device, 0x5001020, [(8, 0x100)], 4, .tpf0, [SEAM_FWD_UNITS_COUNT]⟩,
  ⟨"MP_CE_COUNT", .device, 0xd000000, [], 4, .none, [MP_CE_COUNT_COUNT]⟩,
  ⟨"MP_CE_FLIGHT", .device, 0xd000004, [], 4, .none, [MP_CE_FLIGHT_COUNT]⟩,
  ⟨"MP_UE_COUNT", .device, 0xd000008, [], 4, .none, [MP_UE_COUNT_COUNT]⟩,
  ⟨"MP_POISON_READS", .device, 0xd00000c, [], 4, .none, [MP_POISON_READS_COUNT]⟩,
  ⟨"MP_PARTIAL_POISON", .device, 0xd000010, [], 4, .none, [MP_PARTIAL_POISON_COUNT]⟩,
  ⟨"MP_DARN_WB", .device, 0xd000014, [], 4, .none, [MP_DARN_WB_COUNT]⟩,
  ⟨"MP_DARN_OVERFLOW", .device, 0xd000018, [], 4, .none, [MP_DARN_OVERFLOW_COUNT]⟩]

/-- Registers, part 7. -/
def regMap7 : List RegDef := [
  ⟨"MP_REPAIRS", .device, 0xd00001c, [], 4, .none, [MP_REPAIRS_COUNT]⟩,
  ⟨"MP_UE_LOG", .device, 0xd000020, [], 8, .none, [MP_UE_LOG_MEMID, MP_UE_LOG_ADDRESS]⟩,
  ⟨"MP_UE_SRC", .device, 0xd000028, [], 4, .none, [MP_UE_SRC_UNIT, MP_UE_SRC_KIND]⟩,
  ⟨"MP_DENY_LOG", .device, 0xd000030, [], 8, .none, [MP_DENY_LOG_PARTITION, MP_DENY_LOG_WRITE, MP_DENY_LOG_UNIT, MP_DENY_LOG_ADDRESS]⟩,
  ⟨"MP_DENIED", .device, 0xd000038, [], 4, .none, [MP_DENIED_COUNT]⟩,
  ⟨"DRAM_CAP", .device, 0x7000000, [], 4, .thimble, [DRAM_CAP_CH_PRESENT]⟩,
  ⟨"DRAM_STATUS", .device, 0x7000004, [], 4, .thimble, [DRAM_STATUS_CH_UP, DRAM_STATUS_NCH]⟩,
  ⟨"DRAM_CAPACITY", .device, 0x7000008, [], 8, .thimble, [DRAM_CAPACITY_BYTES]⟩,
  ⟨"DRAM_XLATE_ADDR", .device, 0x7000010, [], 8, .tpf0, [DRAM_XLATE_ADDR_ADDR]⟩,
  ⟨"DRAM_XLATE_OUT", .device, 0x7000018, [], 8, .thimble, [DRAM_XLATE_OUT_VALID, DRAM_XLATE_OUT_CHANNEL, DRAM_XLATE_OUT_SUB, DRAM_XLATE_OUT_RANK, DRAM_XLATE_OUT_LRANK, DRAM_XLATE_OUT_BG, DRAM_XLATE_OUT_BANK, DRAM_XLATE_OUT_ROW, DRAM_XLATE_OUT_COLUMN]⟩,
  ⟨"DRAM_AGE", .device, 0x7000040, [(8, 4)], 4, .tpf0, [DRAM_AGE_TICKS]⟩,
  ⟨"DRAM_PORT_CFG", .device, 0x7000100, [(32, 0x10)], 4, .tpf0, [DRAM_PORT_CFG_URGENT, DRAM_PORT_CFG_TARGET_NS]⟩,
  ⟨"DRAM_PORT_LAT_MAX", .device, 0x7000104, [(32, 0x10)], 4, .thimble, [DRAM_PORT_LAT_MAX_NS]⟩,
  ⟨"DRAM_PORT_OVERRUNS", .device, 0x7000108, [(32, 0x10)], 4, .thimble, [DRAM_PORT_OVERRUNS_COUNT]⟩,
  ⟨"DRAM_CH_CFG", .device, 0x7001000, [(8, 0x200)], 4, .thimble, [DRAM_CH_CFG_ENABLE, DRAM_CH_CFG_RATE, DRAM_CH_CFG_WIDTH, DRAM_CH_CFG_DENSITY, DRAM_CH_CFG_STACK, DRAM_CH_CFG_RANKS, DRAM_CH_CFG_SPARE_EN, DRAM_CH_CFG_REF_SB, DRAM_CH_CFG_DRFM, DRAM_CH_CFG_RDIMM]⟩,
  ⟨"DRAM_CH_STATE", .device, 0x7001004, [(8, 0x200)], 4, .thimble, [DRAM_CH_STATE_LAST_REASON, DRAM_CH_STATE_TEMP_2X, DRAM_CH_STATE_TRAINED, DRAM_CH_STATE_DEGRADED, DRAM_CH_STATE_RANK_STATE]⟩,
  ⟨"DRAM_CH_CTRL", .device, 0x7001008, [(8, 0x200)], 4, .thimble, [DRAM_CH_CTRL_RANK, DRAM_CH_CTRL_RETRAIN]⟩,
  ⟨"DRAM_CH_TIMING", .device, 0x700100c, [(8, 0x200)], 4, .thimble, [DRAM_CH_TIMING_XSDLL_NS, DRAM_CH_TIMING_TRFC_NS]⟩,
  ⟨"DRAM_CH_SRTIME", .device, 0x7001010, [(8, 0x200)], 4, .thimble, [DRAM_CH_SRTIME_XS_NS, DRAM_CH_SRTIME_SR_MIN_NS]⟩,
  ⟨"DRAM_MIG_STATE", .device, 0x7001020, [(8, 0x200)], 4, .thimble, [DRAM_MIG_STATE_STATE, DRAM_MIG_STATE_FROM, DRAM_MIG_STATE_TO, DRAM_MIG_STATE_REGION]⟩]

/-- Registers, part 8. -/
def regMap8 : List RegDef := [
  ⟨"DRAM_RH_LAST", .device, 0x7001028, [(8, 0x200)], 8, .thimble, [DRAM_RH_LAST_UNIT, DRAM_RH_LAST_RANK, DRAM_RH_LAST_SUB, DRAM_RH_LAST_BG, DRAM_RH_LAST_BANK, DRAM_RH_LAST_ROW]⟩,
  ⟨"DRAM_RH_REFRESHES", .device, 0x7001030, [(8, 0x200)], 4, .thimble, [DRAM_RH_REFRESHES_COUNT]⟩,
  ⟨"DRAM_RH_THROTTLES", .device, 0x7001034, [(8, 0x200)], 4, .thimble, [DRAM_RH_THROTTLES_COUNT]⟩,
  ⟨"DRAM_WHOLECHIP", .device, 0x7001038, [(8, 0x200)], 4, .thimble, [DRAM_WHOLECHIP_COUNT]⟩,
  ⟨"DRAM_RANK_DEBT", .device, 0x7001040, [(8, 0x200), (4, 0x10)], 4, .thimble, [DRAM_RANK_DEBT_NS]⟩,
  ⟨"DRAM_RANK_STALL", .device, 0x7001044, [(8, 0x200), (4, 0x10)], 4, .thimble, [DRAM_RANK_STALL_NS]⟩,
  ⟨"DRAM_RANK_FORCED", .device, 0x7001048, [(8, 0x200), (4, 0x10)], 4, .thimble, [DRAM_RANK_FORCED_COUNT]⟩,
  ⟨"DMA_CAP", .device, 0x8000000, [], 4, .none, [DMA_CAP_ENG_PRESENT, DMA_CAP_CHANNELS]⟩,
  ⟨"DMA_CH_CFG", .device, 0x8001000, [(4096, 0x40)], 4, .channel, [DMA_CH_CFG_ENABLE, DMA_CH_CFG_PRIO]⟩,
  ⟨"DMA_CH_LINKS", .device, 0x8001004, [(4096, 0x40)], 4, .channel, [DMA_CH_LINKS_CHAIN_EN, DMA_CH_LINKS_TRIGQ_EN, DMA_CH_LINKS_CHAIN, DMA_CH_LINKS_TRIGQ]⟩,
  ⟨"DMA_CH_HEAD", .device, 0x8001008, [(4096, 0x40)], 8, .channel, [DMA_CH_HEAD_ADDR]⟩,
  ⟨"DMA_CH_CUR", .device, 0x8001010, [(4096, 0x40)], 8, .channel, [DMA_CH_CUR_ADDR]⟩,
  ⟨"DMA_CH_DOORBELL", .device, 0x8001018, [(4096, 0x40)], 4, .channel, [DMA_CH_DOORBELL_SRESET, DMA_CH_DOORBELL_TRIG, DMA_CH_DOORBELL_RING]⟩,
  ⟨"DMA_CH_STATE", .device, 0x800101c, [(4096, 0x40)], 4, .channel, [DMA_CH_STATE_LAST_CODE, DMA_CH_STATE_TRIG_PENDING, DMA_CH_STATE_LAST_REASON, DMA_CH_STATE_DB_PENDING, DMA_CH_STATE_STATE]⟩,
  ⟨"DMA_CH_DONE", .device, 0x8001020, [(4096, 0x40)], 4, .channel, [DMA_CH_DONE_COUNT]⟩,
  ⟨"DMA_CH_TRIG_LOST", .device, 0x8001024, [(4096, 0x40)], 4, .channel, [DMA_CH_TRIG_LOST_COUNT]⟩,
  ⟨"QC_CAP", .device, 0xb000000, [], 4, .thimble, [QC_CAP_PATCHES]⟩,
  ⟨"QS_CTRL", .device, 0xb000100, [], 4, .thimble, [QS_CTRL_ENABLE]⟩,
  ⟨"QS_PERIOD", .device, 0xb000104, [], 4, .thimble, [QS_PERIOD_US]⟩,
  ⟨"QS_STATUS", .device, 0xb000108, [], 4, .thimble, [QS_STATUS_FAULTY, QS_STATUS_FIRMWARE, QS_STATUS_LAST_REASON, QS_STATUS_SWEEPS]⟩]

/-- Registers, part 9. -/
def regMap9 : List RegDef := [
  ⟨"QS_VOTE_FIX", .device, 0xb00010c, [], 4, .thimble, [QS_VOTE_FIX_COUNT]⟩,
  ⟨"QP_CMD", .device, 0xb001000, [(8, 0x200)], 4, .patch, [QP_CMD_BUSY, QP_CMD_STATUS, QP_CMD_OP]⟩,
  ⟨"QP_STATE", .device, 0xb001004, [(8, 0x200)], 4, .patch, [QP_STATE_LAST_REASON, QP_STATE_SCRUB_DEGRADED, QP_STATE_ENCRYPTED, QP_STATE_AUTH, QP_STATE_RETIRED, QP_STATE_PRESENT, QP_STATE_STATE]⟩,
  ⟨"QP_FAR", .device, 0xb001008, [(8, 0x200)], 4, .patch, [QP_FAR_COLUMN, QP_FAR_FRAME]⟩,
  ⟨"QP_FDRI", .device, 0xb001010, [(8, 0x200)], 8, .patch, [QP_FDRI_WORD]⟩,
  ⟨"QP_FDRO", .device, 0xb001018, [(8, 0x200)], 8, .patch, [QP_FDRO_WORD]⟩,
  ⟨"QP_START_ORDER", .device, 0xb001020, [(8, 0x200)], 4, .patch, [QP_START_ORDER_GAP, QP_START_ORDER_STEPS]⟩,
  ⟨"QP_CLK", .device, 0xb001024, [(8, 0x200)], 4, .patch, [QP_CLK_DIV]⟩,
  ⟨"QP_CLAMP", .device, 0xb001028, [(8, 0x200)], 8, .patch, [QP_CLAMP_MODE]⟩,
  ⟨"QP_IMAGE", .device, 0xb001030, [(8, 0x200)], 8, .patch, [QP_IMAGE_VALID, QP_IMAGE_ADDR]⟩,
  ⟨"QP_DIGEST", .device, 0xb001040, [(8, 0x200), (16, 4)], 4, .patch, [QP_DIGEST_DIGEST]⟩,
  ⟨"QP_EPIN", .device, 0xb001080, [(8, 0x200), (8, 4)], 4, .patch, [QP_EPIN_EN, QP_EPIN_READY, QP_EPIN_QUEUE]⟩,
  ⟨"QP_EPOUT", .device, 0xb0010a0, [(8, 0x200), (8, 4)], 4, .patch, [QP_EPOUT_EN, QP_EPOUT_READY, QP_EPOUT_QUEUE]⟩,
  ⟨"QP_JOBS", .device, 0xb0010c0, [(8, 0x200)], 4, .patch, [QP_JOBS_COUNT]⟩,
  ⟨"QP_RESETS", .device, 0xb0010c4, [(8, 0x200)], 4, .patch, [QP_RESETS_COUNT]⟩,
  ⟨"QP_CORR", .device, 0xb0010c8, [(8, 0x200)], 4, .patch, [QP_CORR_COUNT]⟩,
  ⟨"QP_RELOADS", .device, 0xb0010cc, [(8, 0x200)], 4, .patch, [QP_RELOADS_COUNT]⟩,
  ⟨"HR_CFG", .functionPage, 0x10000, [(80, 0x40000), (256, 0x20)], 4, .none, [HR_CFG_ENABLE, HR_CFG_DIR, HR_CFG_INTR, HR_CFG_ERROR, HR_CFG_SIZE_LOG2, HR_CFG_QUEUE]⟩,
  ⟨"HR_VEC", .functionPage, 0x10004, [(80, 0x40000), (256, 0x20)], 4, .none, [HR_VEC_VECTOR]⟩,
  ⟨"HR_BASE", .functionPage, 0x10008, [(80, 0x40000), (256, 0x20)], 8, .none, [HR_BASE_BASE]⟩]

/-- Registers, part 10. -/
def regMap10 : List RegDef := [
  ⟨"HR_WB", .functionPage, 0x10010, [(80, 0x40000), (256, 0x20)], 8, .none, [HR_WB_ADDR, HR_WB_WB_EN]⟩,
  ⟨"HR_DOORBELL", .functionPage, 0x10018, [(80, 0x40000), (256, 0x20)], 4, .none, [HR_DOORBELL_INDEX]⟩,
  ⟨"HR_PTR", .functionPage, 0x1001c, [(80, 0x40000), (256, 0x20)], 4, .none, [HR_PTR_DEVICE, HR_PTR_HOST]⟩,
  ⟨"EVR_ROUTE", .device, 0x500000, [(8192, 4)], 4, .route, [EVR_ROUTE_THIMBLE, EVR_ROUTE_DEST, EVR_ROUTE_FUNCTION, EVR_ROUTE_TARGET]⟩,
  ⟨"HP_LINK_STATE", .device, 0x400000, [], 4, .tpf0, [HP_LINK_STATE_LAST_REASON, HP_LINK_STATE_M1_REPAIRED, HP_LINK_STATE_M0_REPAIRED, HP_LINK_STATE_RATE, HP_LINK_STATE_M1_WIDTH, HP_LINK_STATE_M0_WIDTH, HP_LINK_STATE_RETRAINING, HP_LINK_STATE_UP]⟩,
  ⟨"HP_CTRL", .device, 0x400004, [], 4, .tpf0, [HP_CTRL_RETRAIN, HP_CTRL_CPL_TIMEOUT_US]⟩,
  ⟨"HP_REPLAYS", .device, 0x400008, [], 4, .tpf0, [HP_REPLAYS_COUNT]⟩,
  ⟨"HP_RX_POISONED", .device, 0x40000c, [], 4, .tpf0, [HP_RX_POISONED_COUNT]⟩,
  ⟨"HP_RX_UR", .device, 0x400010, [], 4, .tpf0, [HP_RX_UR_COUNT]⟩,
  ⟨"HP_CPL_TIMEOUTS", .device, 0x400014, [], 4, .tpf0, [HP_CPL_TIMEOUTS_COUNT]⟩,
  ⟨"HP_WR_DROPPED", .device, 0x400018, [], 4, .tpf0, [HP_WR_DROPPED_COUNT]⟩,
  ⟨"HP_RING_LAST", .device, 0x40001c, [], 4, .tpf0, [HP_RING_LAST_CODE, HP_RING_LAST_RING, HP_RING_LAST_FUNCTION]⟩,
  ⟨"PM_DEVICE", .device, 0xc000000, [], 4, .none, [PM_DEVICE_HOLD_DEEP, PM_DEVICE_STATE]⟩,
  ⟨"PM_VOTE_LAST", .device, 0xc000004, [], 4, .none, [PM_VOTE_LAST_REASON, PM_VOTE_LAST_ISLAND]⟩,
  ⟨"PM_REFUSALS", .device, 0xc000008, [], 4, .none, [PM_REFUSALS_COUNT]⟩,
  ⟨"PM_RET_LOST_LAST", .device, 0xc000010, [], 4, .none, [PM_RET_LOST_LAST_MEMID]⟩,
  ⟨"PM_RET_LOST", .device, 0xc000014, [], 4, .none, [PM_RET_LOST_COUNT]⟩,
  ⟨"PM_ISLAND_STATE", .device, 0xc001000, [(83, 0x20)], 4, .none, [PM_ISLAND_STATE_LAST_REASON, PM_ISLAND_STATE_GROUP, PM_ISLAND_STATE_FLOOR, PM_ISLAND_STATE_TARGET, PM_ISLAND_STATE_TRANSIT, PM_ISLAND_STATE_STATE]⟩,
  ⟨"PM_ISLAND_ENTRIES", .device, 0xc001004, [(83, 0x20)], 4, .none, [PM_ISLAND_ENTRIES_COUNT]⟩,
  ⟨"PM_ISLAND_ABORTS", .device, 0xc001008, [(83, 0x20)], 4, .none, [PM_ISLAND_ABORTS_COUNT]⟩]

/-- Registers, part 11. -/
def regMap11 : List RegDef := [
  ⟨"PM_ISLAND_WAKES", .device, 0xc00100c, [(83, 0x20)], 4, .none, [PM_ISLAND_WAKES_COUNT]⟩,
  ⟨"PM_ISLAND_OVERRUNS", .device, 0xc001010, [(83, 0x20)], 4, .none, [PM_ISLAND_OVERRUNS_COUNT]⟩,
  ⟨"PM_ISLAND_STALL_MAX", .device, 0xc001014, [(83, 0x20)], 4, .none, [PM_ISLAND_STALL_MAX_NS]⟩,
  ⟨"PNL_CTRL", .device, 0x10000000, [(64, 0x100000)], 4, .panel, [PNL_CTRL_SRESET]⟩,
  ⟨"PNL_STATE", .device, 0x10000004, [(64, 0x100000)], 4, .panel, [PNL_STATE_SPARE_FOR, PNL_STATE_RETIRED, PNL_STATE_PRESENT, PNL_STATE_SITES_RETIRED]⟩,
  ⟨"PNL_RESETS", .device, 0x10000008, [(64, 0x100000)], 4, .panel, [PNL_RESETS_COUNT]⟩,
  ⟨"SEC_STATUS", .device, 0xe000000, [], 4, .thimble, [SEC_STATUS_TAMPERED, SEC_STATUS_DIAG_UNLOCKED, SEC_STATUS_SLOT1_VALID, SEC_STATUS_SLOT0_VALID, SEC_STATUS_FW_SLOT, SEC_STATUS_FW_TRIAL]⟩,
  ⟨"SEC_POLICY", .device, 0xe000004, [], 4, .thimble, [SEC_POLICY_DIAG_LOCK, SEC_POLICY_QUILT_SIGNED, SEC_POLICY_ENG_SIGNED, SEC_POLICY_KEY_REVOKED, SEC_POLICY_KEY_PRESENT]⟩,
  ⟨"SEC_SVN_FW", .device, 0xe000008, [], 4, .thimble, [SEC_SVN_FW_MIN]⟩,
  ⟨"SEC_SVN_MB", .device, 0xe00000c, [], 4, .thimble, [SEC_SVN_MB_MIN]⟩,
  ⟨"SEC_M", .device, 0xe001000, [(10, 0x40), (16, 4)], 4, .thimble, [SEC_M_WORD]⟩,
  ⟨"GPIO_PIN", .device, 0x600000, [(16, 4)], 4, .tpf0, [GPIO_PIN_MODE, GPIO_PIN_PATCH, GPIO_PIN_OUTPUT, GPIO_PIN_OUT, GPIO_PIN_IN]⟩,
  ⟨"PM_ISLAND_TEMP", .device, 0xc020000, [(83, 4)], 4, .none, [PM_ISLAND_TEMP_TEMP]⟩,
  ⟨"PM_THERM_STATE", .device, 0xc020200, [], 4, .none, [PM_THERM_STATE_FREQ_PCT, PM_THERM_STATE_HOT_ISLAND, PM_THERM_STATE_TRIP, PM_THERM_STATE_THROTTLE, PM_THERM_STATE_WARN]⟩,
  ⟨"FH_RX_FRAMES", .device, 0x4000040, [(48, 0x100)], 8, .tpf0, [FH_RX_FRAMES_COUNT]⟩,
  ⟨"FH_RX_BYTES", .device, 0x4000048, [(48, 0x100)], 8, .tpf0, [FH_RX_BYTES_COUNT]⟩,
  ⟨"FH_RX_FCS_ERR", .device, 0x4000050, [(48, 0x100)], 8, .tpf0, [FH_RX_FCS_ERR_COUNT]⟩,
  ⟨"FH_RX_MALFORMED", .device, 0x4000058, [(48, 0x100)], 8, .tpf0, [FH_RX_MALFORMED_COUNT]⟩,
  ⟨"FH_RX_OVERFLOW", .device, 0x4000060, [(48, 0x100)], 8, .tpf0, [FH_RX_OVERFLOW_COUNT]⟩,
  ⟨"FH_RX_EARLY", .device, 0x4000068, [(48, 0x100)], 8, .tpf0, [FH_RX_EARLY_COUNT]⟩]

/-- Registers, part 12. -/
def regMap12 : List RegDef := [
  ⟨"FH_RX_LATE", .device, 0x4000070, [(48, 0x100)], 8, .tpf0, [FH_RX_LATE_COUNT]⟩,
  ⟨"FH_RX_SEQ_GAP", .device, 0x4000078, [(48, 0x100)], 8, .tpf0, [FH_RX_SEQ_GAP_COUNT]⟩,
  ⟨"FH_RX_OTHER", .device, 0x4000080, [(48, 0x100)], 8, .tpf0, [FH_RX_OTHER_COUNT]⟩,
  ⟨"FH_TX_FRAMES", .device, 0x4000088, [(48, 0x100)], 8, .tpf0, [FH_TX_FRAMES_COUNT]⟩,
  ⟨"FH_TX_BYTES", .device, 0x4000090, [(48, 0x100)], 8, .tpf0, [FH_TX_BYTES_COUNT]⟩,
  ⟨"FH_TX_LATE", .device, 0x4000098, [(48, 0x100)], 8, .tpf0, [FH_TX_LATE_COUNT]⟩,
  ⟨"FH_TX_REFUSED", .device, 0x40000a0, [(48, 0x100)], 8, .tpf0, [FH_TX_REFUSED_COUNT]⟩,
  ⟨"FH_TX_SAT", .device, 0x40000a8, [(48, 0x100)], 8, .tpf0, [FH_TX_SAT_COUNT]⟩,
  ⟨"FH_FEC_UNCORR", .device, 0x40000b0, [(48, 0x100)], 8, .tpf0, [FH_FEC_UNCORR_COUNT]⟩,
  ⟨"FH_DEST", .device, 0x4006000, [(256, 8)], 8, .tpf0, [FH_DEST_PCP, FH_DEST_MAC]⟩,
  ⟨"FH_ST_DATA0", .device, 0x4004000, [(8, 0x40)], 8, .partition, [FH_ST_DATA0_W]⟩,
  ⟨"FH_ST_DATA1", .device, 0x4004008, [(8, 0x40)], 8, .partition, [FH_ST_DATA1_W]⟩,
  ⟨"FH_ST_DATA2", .device, 0x4004010, [(8, 0x40)], 8, .partition, [FH_ST_DATA2_W]⟩,
  ⟨"FH_ST_DATA3", .device, 0x4004018, [(8, 0x40)], 8, .partition, [FH_ST_DATA3_W]⟩,
  ⟨"MP_WIN_BASE", .device, 0xd010000, [(8, 0x400), (16, 0x10)], 8, .mpwin, [MP_WIN_BASE_BASE, MP_WIN_BASE_W, MP_WIN_BASE_RD]⟩,
  ⟨"MP_WIN_LIMIT", .device, 0xd010008, [(8, 0x400), (16, 0x10)], 8, .mpwin, [MP_WIN_LIMIT_LAST]⟩,
  ⟨"EVR_PEND", .device, 0x508000, [(256, 4)], 4, .evpend, [EVR_PEND_PEND]⟩,
  ⟨"MBX_CTRL", .functionPage, 0x20000, [(80, 0x40000)], 4, .none, [MBX_CTRL_GO, MBX_CTRL_BUSY, MBX_CTRL_DONE, MBX_CTRL_VECTOR, MBX_CTRL_REQ_LEN]⟩,
  ⟨"MBX_STATUS", .functionPage, 0x20004, [(80, 0x40000)], 4, .none, [MBX_STATUS_RSP_LEN]⟩]

/-- Every control register of the die. -/
def regMap : List RegDef :=
  regMap0 ++ regMap1 ++ regMap2 ++ regMap3 ++ regMap4 ++ regMap5 ++ regMap6 ++ regMap7 ++ regMap8 ++ regMap9 ++ regMap10 ++ regMap11 ++ regMap12

end Sys2Proof.Machine
end

