-- ==== Sys2Proof/Machine/Service.lean ====
section
/-!
DEFINITION. The plain-data types of the services of Thimble firmware: the health monitor, the boot flash and the fuses,
Swatch sessions, MB slots, thermal control and the test port.
-/

namespace Sys2Proof.Machine

/-! ## Faults -/

/-- The health monitor beside its objects (R573 to R589). -/
structure Health where
  /-- upsets counted: class, identifier, tick, newest first -/
  upsets : List (Nat × Nat × Nat)
  /-- the tick of the last EV_UPSET -/
  upsetTick : Option Nat
  /-- lockstep mismatches and watchdog expiries: pair (0 A, 1 B), tick, newest first -/
  mismatches : List (Nat × Nat)
  /-- pairs that are reset and self-tested -/
  testing : List Nat
  /-- pairs that the standby has taken over from (R588) -/
  taken : List Nat
  /-- the tick of the last checkpoint -/
  checkpoint : Nat
  /-- events for Thimble firmware that wait in its inbox during a restart, oldest first (R588, R589) -/
  inbox : List (Nat × Nat)
  /-- the cause of a warm reset that has been asked for -/
  warm : Option Nat
  /-- epoch changes of unit IDs since the last cold reset (R580) -/
  epochs : Tab Nat
  /-- reinstated retirements that wait for their reset: class, identifier, record number (R581) -/
  returns : List (Nat × Nat × Nat)
deriving DecidableEq, Repr

/-- The health monitor after a cold reset. -/
def Health.reset : Health := ⟨[], none, [], [], [], 0, [], none, [], []⟩

/-! ## Boot -/

/-- A valid directory record (R596). -/
structure DirRecord where
  generation : Nat
  active : Nat
  trial : Bool
  attempts : Nat
deriving DecidableEq, Repr

/-- The boot flash, the fuses and the store (R518, R595 to R612). -/
structure Boot where
  /-- 0 firmware runs, 1 POR_N is low, 2 no image can be loaded, 3 device OFF -/
  phase : Nat
  /-- the directory copies that are valid -/
  dirs : Tab DirRecord
  /-- the firmware images in slots A, B and G (0, 1, 2); unlisted: no image -/
  slots : Tab (List Byte)
  /-- the image area -/
  images : List (List Byte)
  /-- the copy areas of the store: generation, and values by object key -/
  copies : Tab (Nat × Tab (List Byte))
  /-- the journal: object key and value, oldest first -/
  journal : List (Nat × List Byte)
  /-- the tick at which the firmware in trial became active, and the slot that ran before -/
  trial : Option (Nat × Nat)
  /-- fused customer key digests, by key number -/
  custKeys : Tab (List Byte)
  /-- policy bits fused and not yet in effect (R611) -/
  burnt : Nat
  /-- the nonce of the last diagnostics challenge (R612) -/
  nonce : Option (List Byte)
  /-- a tamper that the next boot reports (R610) -/
  tampered : Bool
deriving DecidableEq, Repr

/-- A flash with nothing in it and fuses with nothing programmed. -/
def Boot.blank : Boot := ⟨0, [], [], [], [], [], none, [], 0, none, false⟩

/-! ## Swatch -/

/-- A subscription (R535). -/
structure Sub where
  id : Nat
  index : Nat
  sub : Nat
  mode : Nat
  minMs : Nat
  periodMs : Nat
  /-- the tick at which it began -/
  since : Nat
  /-- by object key: its changes when the subscription began, its changes when last told of, and the tick of that notice -/
  marks : Tab (Nat × Nat × Option Nat)
deriving DecidableEq, Repr

/-- The way to the client of a session (R537, R538). -/
inductive Reply where
  | mailbox (function : Nat)
  | lane (lane mac vlan : Nat)
  | port (port mac vlan : Nat)
  | relay (die : Nat)
deriving DecidableEq, Repr

/-- A WRITE of PART.COMMAND whose start is under way: the partition, its SEQ and DEVICE, and the way back. -/
structure StartWait where
  part : Nat
  seq : Nat
  device : Nat
  reply : Reply
deriving DecidableEq, Repr

/-- A Swatch session (R523 to R535). -/
structure Session where
  id : Nat
  role : Nat
  part : Nat
  /-- PROOF has been accepted -/
  accepted : Bool
  reply : Reply
  /-- the client's public key -/
  client : List Byte
  /-- T followed by the device signature (R531) -/
  transcript : List Byte
  kcd : List Byte
  kdc : List Byte
  /-- the tick of the CHALLENGE, then of the last request whose tag checked -/
  tick : Nat
  /-- the SEQ of the last request processed -/
  last : Nat
  /-- requests held until a gap is filled, and the last 8 replies, by SEQ -/
  held : Tab (List Byte)
  replies : Tab (List Byte)
  /-- tag failures in a row -/
  fails : Nat
  /-- the object and the bytes staged -/
  staging : Option (Nat × List Byte)
  subs : List Sub
  /-- NOTIFY bodies that wait for a POLL, oldest first -/
  notes : List (List Byte)
  /-- the SEQ of the next NOTIFY -/
  notifySeq : Nat
  /-- the nonce last written to SEC.ATTEST -/
  nonce : Option (List Byte)
  /-- it has unlocked the diagnostics objects -/
  diag : Bool
  /-- start commands whose reply is to come -/
  starts : List StartWait
deriving DecidableEq, Repr

/-! ## MB slots -/

/-- An MB slot beside the device registers behind its view (R617 to R632). -/
structure MbSlot where
  /-- MB_TOFFSET (R627) and MB_HOSTWIN (R620) -/
  toffset : Int
  hostWin : Nat
  /-- interrupt sources that no event of the die carries: those raised, and the vector of each -/
  raised : List Nat
  routes : Tab Nat
deriving DecidableEq, Repr

/-- A slot after a start. -/
def MbSlot.reset : MbSlot := ⟨0, 0, [], []⟩

/-! ## Thermal control and the test port -/

/-- Thermal control beside its registers (R661), and the temperatures measured since the last cold reset: their sum in
1/16 °C and their count. -/
structure Thermal where
  warnTick : Option Nat
  /-- the tick of the last step of the target frequency -/
  stepTick : Option Nat
  /-- the tick since which T has been at 110 °C or below after a trip -/
  cool : Option Nat
  sum : Int
  count : Nat
deriving DecidableEq, Repr

/-- Thermal control after a cold reset. -/
def Thermal.reset : Thermal := ⟨none, none, none, 0, 0⟩

/-- The instructions of the test port (R658). -/
inductive JtagIr where
  | idcode | bypass | sample | extest
deriving DecidableEq, Repr

/-- The test port: the instruction in force and the boundary register. -/
structure Jtag where
  ir : JtagIr
  boundary : List Bool
deriving DecidableEq, Repr

end Sys2Proof.Machine
end

