-- ==== Sys2Proof/Machine/ShuttleTypes.lean ====
section
/-!
DEFINITION. The plain-data types of the Shuttle: jobs, their reports, the input order, offers.
-/

namespace Sys2Proof.Machine

/-- How far a job has come. -/
inductive JobPhase where
  /-- staged: its plan has not been accepted (R87) -/
  | staged
  /-- accepted and not yet ready -/
  | waiting
  /-- ready, or to be dispatched again (R94, R107) -/
  | ready
  /-- dispatched to a unit, or taken by a bolt peer -/
  | running
  /-- ended; its completion record has not been pushed (R111) -/
  | ended
deriving DecidableEq, Repr

/-- What a unit reports at a job's end. -/
structure JobReport where
  code : Nat
  result : Nat
  ext : Nat
  /-- a retryable upset (R107) -/
  retryable : Bool
deriving DecidableEq, Repr

/-- A job. -/
structure Job where
  /-- the model's number of the job, in staging order -/
  id : Nat
  part : Nat
  sq : Nat
  /-- the completion queue of its submission queue -/
  cq : Nat
  /-- the descriptor as popped: eight words, none where poisoned -/
  desc : List Carried
  phase : JobPhase
  /-- the code with which it completes at acceptance (R92, R112) -/
  early : Option Nat
  acceptTick : Nat
  readyTick : Nat
  dispatchTick : Nat
  endTick : Nat
  /-- its place among the jobs that have ended -/
  endSeq : Nat
  wasReady : Bool
  released : Bool
  estimate : Nat
  attempts : Nat
  unit : Nat
  /-- the copy of its input entries (R95) -/
  inputs : List (List Carried)
  taken : Bool
  /-- output entries it has pushed -/
  pushed : Nat
  abandoned : Bool
  report : Option JobReport
  code : Nat
  upstream : Bool
  late : Bool
  lateTicks : Nat
  result : Nat
  ext : Nat
  /-- it has been offered to bolt peers, and until which tick the offer is open (R114, R115) -/
  offeredOnce : Bool
  offerUntil : Option Nat
  /-- the bolt peer that runs it -/
  peer : Option Nat
  /-- the smoothing filter that a CHEST job has kept from its dispatch: NC, NTAP and the taps −3 to 3 (R283) -/
  filter : List Nat
deriving DecidableEq, Repr

/-! ## The descriptor -/

/-- Word i of the descriptor; 0 where it is poisoned. -/
def Job.word (j : Job) (i : Nat) : Nat := ((j.desc.getD i none).getD 0).toNat

/-- Word i of the descriptor is poisoned. -/
def Job.bad (j : Job) (i : Nat) : Bool := (j.desc.getD i none).isNone

def Job.typ (j : Job) : Nat := j.word 0 / 2 ^ 56 % 256
def Job.policy (j : Job) : Nat := j.word 0 / 2 ^ 53 % 8
def Job.endOfPlan (j : Job) : Bool := j.bad 0 || (j.word 0).testBit 52
def Job.trigEn (j : Job) : Bool := (j.word 0).testBit 51
def Job.offerOk (j : Job) : Bool := (j.word 0).testBit 50
def Job.pin (j : Job) : Bool := (j.word 0).testBit 49
def Job.unitField (j : Job) : Nat := j.word 0 / 2 ^ 36 % 4096
def Job.trigger (j : Job) : Nat := j.word 0 / 2 ^ 24 % 1024
def Job.graceField (j : Job) : Nat := j.word 0 % 2 ^ 24
def Job.jobId (j : Job) : Nat := if j.bad 1 then 0xFFFFFFFF else j.word 1 / 2 ^ 32 % 2 ^ 32
def Job.inQueue (j : Job) : Nat := j.word 1 / 2 ^ 16 % 65536
def Job.outQueue (j : Job) : Nat := j.word 1 % 65536
/-- IN_COUNT and OUT_COUNT are taken as 0 where bytes 8–15 or 16–23 are poisoned (R92). -/
def Job.inCount (j : Job) : Nat := if j.bad 1 || j.bad 2 then 0 else j.word 2 / 2 ^ 50 % 128
def Job.outCount (j : Job) : Nat := if j.bad 1 || j.bad 2 then 0 else j.word 2 / 2 ^ 40 % 1024
def Job.size (j : Job) : Nat := j.word 2 % 2 ^ 32
def Job.cls (j : Job) : Nat := j.word 7 / 2 ^ 48 % 8
def Job.deadline (j : Job) : Nat := j.word 7 % 2 ^ 48
/-- ARGS: bytes 24–55. -/
def Job.arg (j : Job) (i : Nat) : Nat := j.word (3 + i)

/-- A word of the descriptor is poisoned. -/
def Job.anyBad (j : Job) : Bool := (List.range 8).any j.bad

/-- The reserved fields of the descriptor are zero (R91). -/
def Job.reservedZero (j : Job) : Bool :=
  !(j.word 0).testBit 48 && j.word 0 / 2 ^ 34 % 4 == 0 && j.word 2 / 2 ^ 57 == 0 && j.word 2 / 2 ^ 32 % 256 == 0

/-- A job's place in the input order of its input queue (R95). -/
structure Turn where
  queue : Nat
  job : Nat
  count : Nat
  /-- the job has ended: the entries are popped and discarded -/
  discard : Bool
deriving DecidableEq, Repr

/-- An instance reserved for a bolt peer's offer (R115). -/
structure Reservation where
  peer : Nat
  offer : Nat
  unit : Nat
  untilTick : Nat
  descriptor : List Carried
  inputs : List (List Carried)
  /-- the check of its ARGS that this die makes (R228) -/
  valid : Bool
  /-- the job runs here -/
  started : Bool
deriving DecidableEq, Repr

/-- The Shuttle beside its registers. -/
structure Shuttle where
  jobs : List Job
  nextJob : Nat
  turns : List Turn
  /-- submission queues (p × 16 + s) whose plan has been rejected up to its END_OF_PLAN (R88) -/
  rejecting : List Nat
  /-- the submission queue served next (R89) -/
  next : Nat
  /-- jobs with a report to process, in arrival order -/
  reports : List Nat
  /-- SH_CANCEL writes not yet in effect: partition, value, mask (R112) -/
  cancels : List (Nat × Nat × Nat)
  /-- the tick of the last dispatch and how many it has had; the same of reports (R90) -/
  dispatchTick : Nat
  dispatchCount : Nat
  reportTick : Nat
  reportCount : Nat
  /-- the last tick in which the Shuttle has acted, and the furthest of the seven steps of R90 that it took there -/
  stepTick : Nat
  stepNo : Nat
  /-- jobs that have ended so far -/
  ends : Nat
  /-- the tick of the last event of each kind 2 and 3, at p × 8 + k (R123) -/
  eventTicks : Tab Nat
  /-- NEXT_USE values last sent, by island: value and tick (R113) -/
  sent : Tab (Option Nat × Nat)
  /-- NEXT_USE values on their way to the power manager -/
  forecasts : List (Nat × Option Nat)
  /-- spare capacity that peers last advertised, at peer × 8 + type (R376) -/
  adverts : Tab Nat
  /-- offers this die has accepted from peers (R115) -/
  reservations : List Reservation
deriving DecidableEq, Repr

/-- The Shuttle after reset. -/
def Shuttle.reset : Shuttle := ⟨[], 0, [], [], 0, [], [], 0, 0, 0, 0, 0, 0, 0, [], [], [], [], []⟩

end Sys2Proof.Machine
end

