-- ==== Sys2Proof/Machine/State.lean ====
section
/-!
DEFINITION. The state of the die as plain data, and the state after reset.
-/

namespace Sys2Proof.Machine

/-- Why the block stops with a fault. No meaning answers with one. -/
inductive Fault where
  /-- Raised by nobody: the spec gives every command an effect. Safe. -/
  | never
deriving DecidableEq, Repr

/-- Why a command is refused. -/
inductive Refusal where
  /-- Raised by an arm of exec whose command has no meaning yet. Safe: the block stops. -/
  | notModelled (mnemonic : String)
deriving DecidableEq, Repr

/-- The state of the die. -/
structure State where
  /-- the commands that wait, first in, first out -/
  pending : List Instr
  /-- the model's own counter of free values taken -/
  free : Nat
  /-- what the die has sent, newest first -/
  out : List Msg
  die : Die
  /-- the fields of every control register, at Fld.id + 1024 × index -/
  flds : Tab Nat
  /-- the numeric objects of the dictionary, at Obj.id + 256 × place -/
  objs : Tab Nat
  /-- the STRING and DOMAIN objects -/
  doms : Tab (List Byte)
  /-- staged low halves (R30) -/
  staged : List HalfKept
  /-- latched high halves (R30, R65) -/
  latched : List HalfKept
  mem : Memory
  weft : Weft
  protect : Protect
  host : HostPort
  tb : TimeBase
  /-- engine sites, by physical global engine number -/
  engines : Tab Engine
  /-- Gussets, at panel × 4 + quad -/
  gussets : Tab Gusset
  /-- events on their way to engines: (logical global engine, event) -/
  engineEvents : List (Nat × Nat)
  sh : Shuttle
  /-- Hem streams, at chain × 32 + stream -/
  hem : Tab HemStream
  lanes : Tab Lane
  fh : Fronthaul
  seam : Seam
  dram : Tab DramCh
  /-- the ticks of the last EV_DRAM_PORT_LATE by port (R413) -/
  dramPorts : Tab (Option Nat)
  dma : Dma
  patches : Tab Patch
  scrub : Scrub
  /-- the two key slots for Quilt images, empty where they hold no key (R609) -/
  keys : Tab (List Byte)
  pm : Pm
  /-- the ten measurement registers of 64 bytes (R603) -/
  measures : Tab (List Byte)
  /-- changes of each object: how many, and the tick of the last (R526, R535) -/
  changes : Tab (Nat × Nat)
  /-- RWS values that wait: object key, value, the tick at which it takes effect (R515), oldest first -/
  rws : List (Nat × Nat × Nat)
  health : Health
  boot : Boot
  sessions : List Session
  /-- Swatch messages relayed for bolt members and not answered: die, session, and the way back, oldest first (R539) -/
  relays : List (Nat × Nat × Reply)
  mb : Tab MbSlot
  thermal : Thermal
  jtag : Jtag
deriving DecidableEq, Repr

/-- The machine right after reset. -/
def State.reset : State where
  pending := []
  free := 0
  out := []
  die := ⟨.cx9840, 0, 0, [], [], 750⟩
  flds := []
  objs := []
  doms := []
  staged := []
  latched := []
  mem := []
  weft := ⟨[], [], [], [], [], [], []⟩
  protect := ⟨[], [], [], 0, 0, none⟩
  host := ⟨[], [], [], [], [], 0, 0, 0⟩
  tb := { count := 0, frac := 0, periods := 0, lags := [], shadowCount := 0, shadowFrac := 0, shadowAdj := 0, stateSince := 0,
          stepWaiting := none, within := none, sourceTick := 0, hostStateTick := none, adjHistory := [], sysrefLost := false,
          sysrefBack := false, laneRefLost := false, ppsOut := false,
          ppsInTick := none, ppsInLost := false, todSeen := false, todSent := none, todBad := 0, carriers := [], comparators := [],
          fired := 0, triggers := [] }
  engines := []
  gussets := []
  engineEvents := []
  sh := Shuttle.reset
  hem := []
  lanes := []
  fh := ⟨[], [], [], [], [], [], [], [], []⟩
  seam := Seam.reset
  dram := []
  dramPorts := []
  dma := ⟨[], []⟩
  patches := []
  scrub := Scrub.reset
  keys := []
  pm := ⟨[], [], none, false⟩
  measures := []
  changes := []
  rws := []
  health := Health.reset
  boot := Boot.blank
  sessions := []
  relays := []
  mb := []
  thermal := Thermal.reset
  jtag := ⟨.idcode, []⟩

end Sys2Proof.Machine
end

