-- ==== Sys2Proof/Machine/Variant.lean ====
section
/-!
DEFINITION. What each variant carries as fused (R642), and the placement of units by unit ID (R43) and address (R27).
-/

namespace Sys2Proof.Machine

/-- Panels present: P0 upward. -/
def Variant.panels : Variant → Nat
  | .cx9840 => 64 | .cx9832 => 48 | .cx9820 => 32 | .cx9816 => 16

/-- Accelerator islands present: A0 upward. -/
def Variant.accIslands : Variant → Nat
  | .cx9840 => 8 | .cx9832 => 6 | .cx9820 => 4 | .cx9816 => 2

/-- Hem chains present. -/
def Variant.hems : Variant → Nat
  | .cx9840 => 4 | .cx9832 => 3 | .cx9820 => 2 | .cx9816 => 0

/-- Quilt patches present. -/
def Variant.patches : Variant → Nat
  | .cx9840 => 8 | .cx9832 => 6 | .cx9820 => 2 | .cx9816 => 0

/-- Fronthaul lanes present: L0 upward. -/
def Variant.lanes : Variant → Nat
  | .cx9840 => 48 | .cx9832 => 32 | .cx9820 => 24 | .cx9816 => 12

/-- Seam slots present. -/
def Variant.seamSlots : Variant → Nat
  | .cx9840 => 8 | .cx9832 => 8 | .cx9820 => 4 | .cx9816 => 0

/-- DRAM channels present. -/
def Variant.dramChannels : Variant → Nat
  | .cx9840 => 8 | .cx9832 => 6 | .cx9820 => 4 | .cx9816 => 2

/-- DMA engines present. -/
def Variant.dmaEngines : Variant → Nat
  | .cx9840 => 16 | .cx9832 => 12 | .cx9820 => 8 | .cx9816 => 4

/-- The largest number of MB partitions. -/
def Variant.mbPartitions : Variant → Nat
  | .cx9840 => 4 | .cx9832 => 3 | .cx9820 => 2 | .cx9816 => 0

/-- The largest bolt. -/
def Variant.boltMax : Variant → Nat
  | .cx9840 => 8 | .cx9832 => 8 | .cx9820 => 4 | .cx9816 => 0

/-- ID.PCI_DEVICE (R540). -/
def Variant.pciDevice : Variant → Nat
  | .cx9840 => 0x9840 | .cx9832 => 0x9832 | .cx9820 => 0x9820 | .cx9816 => 0x9816

/-- Serial lane n is present: fronthaul lanes by count, the two lanes of each Seam slot, the management lanes. -/
def Variant.lanePresent (v : Variant) (n : Nat) : Bool :=
  if n < 48 then decide (n < v.lanes)
  else if n < 64 then decide (n - 48 < 2 * v.seamSlots)
  else decide (n < 66)

/-- The accelerator types in the order of R11. -/
inductive AccType where
  | ldpcDec | ldpcEnc | turbo | polar | fft | matrix | bit
deriving DecidableEq, Repr

/-- Instances of a type per island (R11). -/
def AccType.perIsland : AccType → Nat
  | .ldpcDec => 12 | .ldpcEnc => 4 | .turbo => 3 | .polar => 2 | .fft => 8 | .matrix => 4 | .bit => 6

/-- The first index of a type within an island (R43). -/
def AccType.firstIndex : AccType → Nat
  | .ldpcDec => 0 | .ldpcEnc => 12 | .turbo => 16 | .polar => 19 | .fft => 21 | .matrix => 29 | .bit => 33

/-- The type of the instance at an index 0–38 of an island (R43). -/
def AccType.ofIndex (k : Nat) : AccType :=
  if k < 12 then .ldpcDec else if k < 16 then .ldpcEnc else if k < 19 then .turbo else if k < 21 then .polar
  else if k < 29 then .fft else if k < 33 then .matrix else .bit

/-- The place of a type in the order of R11, 0–6. -/
def AccType.ordinal : AccType → Nat
  | .ldpcDec => 0 | .ldpcEnc => 1 | .turbo => 2 | .polar => 3 | .fft => 4 | .matrix => 5 | .bit => 6

/-- Every accelerator type, in the order of R11. -/
def AccType.all : List AccType := [.ldpcDec, .ldpcEnc, .turbo, .polar, .fft, .matrix, .bit]

/-! ## Unit IDs (R43) -/

/-- The unit ID of the Gusset of a quad of a panel. -/
def gussetUnit (panel quad : Nat) : Nat := 0x440 + panel * 4 + quad

/-- The unit IDs of the single units. -/
def unitShuttle : Nat := 0x540
def unitQueueManager : Nat := 0x541
def unitManagement : Nat := 0x940
def unitTiming : Nat := 0xB00
def unitThimble : Nat := 0xC80
def unitNone : Nat := 0xFFF

/-- The unit ID of accelerator instance `k` of island `i`. -/
def accUnit (i k : Nat) : Nat := 0x600 + i * 39 + k

/-- The unit ID of a host function, by its code in PART.HOST_FUNCTION (R20): 0–4 PF0–PF4, 0x10 + v VFv. -/
def functionUnit (f : Nat) : Nat := if f < 0x10 then 0x980 + f else 0x9C0 + (f - 0x10)

/-- The host function a unit ID names, as PART.HOST_FUNCTION encodes it. -/
def functionOf (u : Nat) : Option Nat :=
  if 0x980 ≤ u ∧ u ≤ 0x984 then some (u - 0x980)
  else if 0x9C0 ≤ u ∧ u ≤ 0x9FF then some (0x10 + (u - 0x9C0))
  else none

/-- The unit ID names a unit present on the variant (QM_EPOCH.PRESENT). -/
def Variant.unitPresent (v : Variant) (u : Nat) : Bool :=
  if u < 0x440 then decide (u / 17 < v.panels)
  else if u < 0x540 then decide ((u - 0x440) / 4 < v.panels)
  else if u = 0x540 ∨ u = 0x541 then true
  else if 0x600 ≤ u ∧ u ≤ 0x737 then decide ((u - 0x600) / 39 < v.accIslands)
  else if 0x740 ≤ u ∧ u ≤ 0x743 then decide (u - 0x740 < v.hems)
  else if 0x800 ≤ u ∧ u ≤ 0x80F then decide (u - 0x800 < v.dmaEngines)
  else if 0x820 ≤ u ∧ u ≤ 0x84F then decide (u - 0x820 < v.lanes)
  else if 0x900 ≤ u ∧ u ≤ 0x907 then decide (u - 0x900 < v.boltMax)
  else if u = 0x940 then true
  else if 0x980 ≤ u ∧ u ≤ 0x984 then true
  else if 0x9C0 ≤ u ∧ u ≤ 0x9FF then true
  else if 0xA00 ≤ u ∧ u ≤ 0xA07 then decide (u - 0xA00 < v.patches)
  else u = 0xB00 ∨ u = 0xC80

/-! ## The address map (R27) -/

/-- What an address reaches. -/
inductive Region where
  /-- control registers -/
  | control
  /-- the populated 2 MiB of a panel memory -/
  | panel (p off : Nat)
  /-- engine data memory, by global engine number -/
  | engineData (g off : Nat)
  /-- engine instruction memory -/
  | engineCode (g off : Nat)
  /-- a Quilt patch -/
  | quilt (n off : Nat)
  /-- the DRAM range -/
  | dram (off : Nat)
  /-- host memory through UCIe -/
  | host (off : Nat)
  /-- the window of a bolt peer -/
  | peer (n off : Nat)
  /-- nothing -/
  | nothing
deriving DecidableEq, Repr

/-- The region of an address (R27). -/
def regionOf (a : Nat) : Region :=
  if a < 0x40000000 then .control
  else if a < 0x50000000 then
    (let o := a - 0x40000000
     if o % 0x400000 < 0x200000 then .panel (o / 0x400000) (o % 0x400000) else .nothing)
  else if a < 0x80000000 then .nothing
  else if a < 0x91000000 then
    (let o := a - 0x80000000
     let x := o % 0x40000
     if x < 0x18000 then .engineData (o / 0x40000) x
     else if 0x20000 ≤ x ∧ x < 0x28000 then .engineCode (o / 0x40000) (x - 0x20000)
     else .nothing)
  else if a < 0xA0000000 then .nothing
  else if a < 0xA8000000 then .quilt ((a - 0xA0000000) / 0x1000000) ((a - 0xA0000000) % 0x1000000)
  else if a < 0x010000000000 then .nothing
  else if a < 0x020000000000 then .dram (a - 0x010000000000)
  else if a < 0x400000000000 then .nothing
  else if a < 0x800000000000 then .host (a - 0x400000000000)
  else if a < 0x900000000000 then .peer ((a - 0x800000000000) / 0x020000000000) ((a - 0x800000000000) % 0x020000000000)
  else .nothing

/-- The address of the data memory of global engine g. -/
def engineDataBase (g : Nat) : Nat := 0x80000000 + g * 0x40000

/-- The address of the instruction memory of global engine g. -/
def engineCodeBase (g : Nat) : Nat := 0x80020000 + g * 0x40000

/-- The address of panel p's memory. -/
def panelBase (p : Nat) : Nat := 0x40000000 + p * 0x400000

/-- The DRAM base. -/
def dramBase : Nat := 0x010000000000

end Sys2Proof.Machine
end

