-- ==== Sys2Proof/Machine/Ops.lean ====
section
/-!
DEFINITION. The named operations over the state: register fields, objects, time, what the die sends, events and
messages, partitions and ownership.
-/

namespace Sys2Proof.Machine

open Reg Ob

/-! ## Register fields -/

/-- Where a field's value is kept. -/
def Fld.key (f : Fld) (i : Nat) : Nat := f.id + 1024 * i

/-- How many bits a field has. -/
def Fld.width (f : Fld) : Nat := f.hi + 1 - f.lo

/-- The reset value of a field at an index. Three fields have one that depends on the index (R431, R155, R570). -/
def Fld.resetAt (f : Fld) (i : Nat) : Nat :=
  if f.id = DRAM_AGE_TICKS.id then 256 * 2 ^ i
  else if f.id = ENG_STATE_PHYS_SITE.id then i % 17
  else if f.id = PM_ISLAND_STATE_STATE.id then (if i < 64 then 4 else 0)
  else f.reset

/-- The stored value of field `f` at index `i`. -/
def State.rf (s : State) (f : Fld) (i : Nat := 0) : Nat := Tab.get (f.resetAt i) s.flds (f.key i)

/-- The state with field `f` at index `i` set to `v`, cut to the field's width. -/
def State.sf (s : State) (f : Fld) (i : Nat) (v : Nat) : State :=
  { s with flds := s.flds.set (f.key i) (v % 2 ^ f.width) }

/-- The state with field `f` back at its reset value. -/
def State.clearf (s : State) (f : Fld) (i : Nat := 0) : State := s.sf f i (f.resetAt i)

/-- A saturating count: field `f` plus `n`, at most its largest value. -/
def State.incf (s : State) (f : Fld) (i : Nat := 0) (n : Nat := 1) : State :=
  s.sf f i (min (s.rf f i + n) (2 ^ f.width - 1))

/-- Field `f` raised to at least `v` (a longest or largest value seen). -/
def State.maxf (s : State) (f : Fld) (i : Nat) (v : Nat) : State :=
  s.sf f i (max (s.rf f i) (min v (2 ^ f.width - 1)))

/-- Field `f` at index `i` is 1. -/
def State.bit (s : State) (f : Fld) (i : Nat := 0) : Bool := s.rf f i == 1

/-! ## Objects -/

/-- Where an object's value is kept. -/
def Obj.key (o : Obj) (i : Nat) : Nat := o.id + 256 * i

/-- The value of a numeric object (signed objects in two's complement). -/
def State.ob (s : State) (o : Obj) (i : Nat := 0) : Nat := Tab.get o.dflt s.objs (o.key i)

/-- A number as `n` little-endian bytes (R16). -/
def valBytes : Nat → Nat → List Byte
  | 0, _ => []
  | n + 1, v => BitVec.ofNat 8 v :: valBytes n (v / 256)

/-- The bytes of a value of a type (R512); 0 for STRING and DOMAIN. -/
def ObjTy.size : ObjTy → Nat
  | .bool => 1 | .u8 => 1 | .u16 => 2 | .u32 => 4 | .u64 => 8 | .i8 => 1 | .i16 => 2 | .i32 => 4 | .i64 => 8
  | .q15 => 2 | .q31 => 4 | .ticks48 => 8 | .string => 0 | .domain => 0

/-- A journal record for a persistent object (R518), while the store works (R520): index, subindex, value and a digest of
32 bytes. STORE.COMMITS counts the records itself. -/
def State.commit (s : State) (o : Obj) (i : Nat) (value : List Byte) : State :=
  if !o.persistent || Tab.get 0 s.objs (oSTORE_STATE.key 0) == 3 || o.id == oSTORE_COMMITS.id then s
  else
    let bump := fun (t : Tab Nat) (c : Obj) (n : Nat) => t.set (c.key 0) (Tab.get 0 t (c.key 0) + n)
    { s with
      boot := { s.boot with journal := s.boot.journal ++ [(o.key i, value)] }
      objs := bump (bump s.objs oSTORE_COMMITS 1) oSTORE_JOURNAL_USED (35 + value.length) }

/-- The state having noted a change of the object with a key. -/
def State.touch (s : State) (key : Nat) : State :=
  { s with changes := s.changes.set key ((Tab.get (0, 0) s.changes key).1 + 1, s.tb.count % 2 ^ 48) }

/-- The state with a numeric object set. -/
def State.so (s : State) (o : Obj) (i : Nat) (v : Nat) : State :=
  let t := { s with objs := s.objs.set (o.key i) v }
  (if s.ob o i = v then t else t.touch (o.key i)).commit o i (valBytes o.ty.size v)

/-- The bytes of a STRING or DOMAIN object. -/
def State.dom (s : State) (o : Obj) (i : Nat := 0) : List Byte := Tab.get [] s.doms (o.key i)

/-- The state with a DOMAIN object set. -/
def State.sdom (s : State) (o : Obj) (i : Nat) (v : List Byte) : State :=
  let t := { s with doms := s.doms.set (o.key i) v }
  (if s.dom o i = v then t else t.touch (o.key i)).commit o i v

/-- A saturating object count of `w` bits. -/
def State.inco (s : State) (o : Obj) (i : Nat) (w : Nat) (n : Nat := 1) : State :=
  s.so o i (min (s.ob o i + n) (2 ^ w - 1))

/-- A value of `w` bits read as signed. -/
def toSigned (w : Nat) (v : Nat) : Int := if v < 2 ^ (w - 1) then (v : Int) else (v : Int) - 2 ^ w

/-- A signed value in `w` bits, two's complement. -/
def ofSigned (w : Nat) (v : Int) : Nat := (v % 2 ^ w).toNat

/-- A signed value clamped to `w` bits. -/
def clampSigned (w : Nat) (v : Int) : Int := max (-(2 ^ (w - 1) : Int)) (min v (2 ^ (w - 1) - 1))

/-- Bit `n` of a number. -/
def natBit (v n : Nat) : Bool := v.testBit n

/-- The numbers below `n` whose bit is set in `v`, rising. -/
def bitsSet (n v : Nat) : List Nat := (List.range n).filter (fun k => v.testBit k)

/-! ## Bytes and numbers -/

/-- The value of little-endian bytes (R16). -/
def bytesVal : List Byte → Nat
  | [] => 0
  | b :: r => b.toNat + 256 * bytesVal r

/-- `n` bytes of a list from an offset, 0 beyond its end. -/
def sliceBytes (l : List Byte) (off n : Nat) : List Byte :=
  (List.range n).map (fun i => l.getD (off + i) 0)

/-- The value of `n` bytes of a list from an offset. -/
def fieldAt (l : List Byte) (off n : Nat) : Nat := bytesVal (sliceBytes l off n)

/-- The bytes of a word. -/
def wordBytes (w : Word) : List Byte := valBytes 8 w.toNat

/-- The bytes of carried words; a poison mark's data symbols are 0. -/
def carriedBytes (l : List Carried) : List Byte := l.flatMap (fun w => wordBytes (w.getD 0))

/-- Bytes as words, the last one filled with zeros. -/
def bytesWords (l : List Byte) : List Word :=
  (List.range ((l.length + 7) / 8)).map (fun i => BitVec.ofNat 64 (fieldAt l (8 * i) 8))

/-! ## Time -/

/-- The low 48 bits of the count, which deadlines are compared with (R5). -/
def State.now (s : State) : Nat := s.tb.count % 2 ^ 48

/-- The time base replica of an island (R64). -/
def State.replica (s : State) (island : Nat) : Nat := s.tb.count - Tab.get 0 s.tb.lags island

/-- The low 48 bits of an island's replica. -/
def State.nowAt (s : State) (island : Nat) : Nat := s.replica island % 2 ^ 48

/-- How far deadline `d` lies ahead of `now`, modulo 2^48 (R6). -/
def deadlineDiff (d now : Nat) : Nat := (d + 2 ^ 48 - now % 2 ^ 48) % 2 ^ 48

/-- The deadline has passed (R6). -/
def deadlinePassed (d now : Nat) : Bool := decide (2 ^ 47 ≤ deadlineDiff d now)

/-- The signed distance of a deadline, negative once it has passed (R42). -/
def slack (d now : Nat) : Int := toSigned 48 (deadlineDiff d now)

/-- Ticks in a second. -/
def ticksPerSecond : Nat := 122880000

/-- A span of ticks is at least a time in ns. -/
def spansNs (ticks ns : Nat) : Bool := decide (ns * 12288 ≤ ticks * 100000)

/-! ## What the die sends -/

/-- The state having sent `m`. -/
def State.send (s : State) (m : Msg) : State := { s with out := m :: s.out }

/-- A fresh free word: a value that the spec leaves open and nothing constrains. -/
def State.fresh (s : State) : State := { s with free := s.free + 1 }

/-- The reset of some registers discards the halves that requesters have staged for them or latched from them (R30). -/
def State.dropHalves (s : State) (mine : Nat → Bool) : State :=
  { s with staged := s.staged.filter (fun (h : HalfKept) => !mine h.addr)
           latched := s.latched.filter (fun (h : HalfKept) => !mine h.addr) }

/-- Where the registers of the function page of f are counted from, beyond every device address. -/
def pageKey (f : Nat) : Nat := 2 ^ 48 + f * 0x40000

/-! ## Partitions -/

/-- PART.STATE of partition p (R20): 0 UNASSIGNED, 1 STOPPED, 2 STARTING, 3 RUNNING, 4 DRAINING. -/
def State.pstate (s : State) (p : Nat) : Nat := s.ob oPART_STATE p

/-- The partitions, 0–7. -/
def partitions : List Nat := List.range 8

/-- Partition p is not UNASSIGNED. -/
def State.assigned (s : State) (p : Nat) : Bool := s.pstate p != 0

/-- Some partition is in STARTING, RUNNING or DRAINING (R67). -/
def State.anyRunning (s : State) : Bool :=
  partitions.any (fun p => s.pstate p == 2 || s.pstate p == 3 || s.pstate p == 4)

/-- Partition p is an MB partition. -/
def State.isMb (s : State) (p : Nat) : Bool := s.ob oPART_PERSONALITY p == 1

/-- The first partition satisfying `f`. -/
def firstPartition (f : Nat → Bool) : Option Nat := partitions.find? f

/-- The partition that owns panel n. -/
def State.panelOwner (s : State) (n : Nat) : Option Nat :=
  firstPartition (fun p => s.assigned p && natBit (s.ob oPART_PANEL_MASK p) n)

/-- The partition that owns queue q: the one whose range holds it (R20). -/
def State.queueOwner (s : State) (q : Nat) : Option Nat :=
  firstPartition (fun p => s.assigned p && decide (s.ob oPART_QUEUE_BASE p ≤ q)
    && decide (q < s.ob oPART_QUEUE_BASE p + s.ob oPART_QUEUE_COUNT p))

/-- The partition that owns Quilt patch n. -/
def State.patchOwner (s : State) (n : Nat) : Option Nat :=
  firstPartition (fun p => s.assigned p && natBit (s.ob oPART_PATCH_MASK p) n)

/-- The partition that owns CPRI lane n. -/
def State.laneOwner (s : State) (n : Nat) : Option Nat :=
  firstPartition (fun p => s.assigned p && natBit (s.ob oPART_LANE_MASK p) n)

/-- The partition that owns DMA channel c (R436). -/
def State.channelOwner (s : State) (c : Nat) : Option Nat :=
  firstPartition (fun p => s.assigned p && decide (s.ob oDMA_P_CH_BASE p ≤ c)
    && decide (c < s.ob oDMA_P_CH_BASE p + s.ob oDMA_P_CH_COUNT p))

/-- The partition that owns Hem chain h (R286). -/
def State.hemOwner (s : State) (h : Nat) : Option Nat :=
  let p := s.ob oHEM_OWNER h
  if p < 8 ∧ s.assigned p = true then some p else none

/-- The owner of a timer resource: the partition in STARTING, RUNNING or DRAINING that holds it, else the
lowest-numbered partition in STOPPED that holds it (R83). -/
def State.timerOwner (s : State) (holds : Nat → Bool) : Option Nat :=
  match firstPartition (fun p => decide (2 ≤ s.pstate p) && holds p) with
  | some p => some p
  | none => firstPartition (fun p => s.pstate p == 1 && holds p)

/-- The owner of comparator n (R83). -/
def State.comparatorOwner (s : State) (n : Nat) : Option Nat :=
  s.timerOwner (fun p => decide (s.ob oTIMER_CMP_BASE p ≤ n)
    && decide (n < s.ob oTIMER_CMP_BASE p + s.ob oTIMER_CMP_COUNT p))

/-- The owner of carrier timer c (R83). -/
def State.carrierOwner (s : State) (c : Nat) : Option Nat :=
  s.timerOwner (fun p => natBit (s.ob oTIMER_CARRIER_MASK p) c)

/-- The owner of Shuttle trigger t (R122). -/
def State.triggerOwner (s : State) (t : Nat) : Option Nat :=
  firstPartition (fun p => s.assigned p && decide (s.ob oSHUTTLE_P_TRIG_BASE p ≤ t)
    && decide (t < s.ob oSHUTTLE_P_TRIG_BASE p + s.ob oSHUTTLE_P_TRIG_COUNT p))

/-- The partition that names host function f. -/
def State.functionPartition (s : State) (f : Nat) : Option Nat :=
  firstPartition (fun p => s.assigned p && s.ob oPART_HOST_FUNCTION p == f)

/-- Requester u is Thimble firmware. -/
def isThimble (u : Nat) : Bool := u == unitThimble

/-- Requester u is host software of PF0. -/
def isPf0 (u : Nat) : Bool := u == 0x980

/-- Requester u is host software of partition p: the function that PART.HOST_FUNCTION names. -/
def State.isHostOf (s : State) (u p : Nat) : Bool :=
  match functionOf u with
  | some f => s.assigned p && s.ob oPART_HOST_FUNCTION p == f
  | none => false

/-- Requester u is host software of the owner named by `o`. -/
def State.isOwnerHost (s : State) (u : Nat) (o : Option Nat) : Bool :=
  match o with
  | some p => s.isHostOf u p
  | none => false

/-- Unit u is retired (QM_EPOCH.RETIRED). -/
def State.retired (s : State) (u : Nat) : Bool := s.bit QM_EPOCH_RETIRED u

/-- Unit u is present on this variant. -/
def State.present (s : State) (u : Nat) : Bool := s.die.variant.unitPresent u

/-- Unit u is present and not retired. -/
def State.usable (s : State) (u : Nat) : Bool := s.present u && !s.retired u

/-! ## Engines and their places -/

/-- The logical global engine number of site k of panel p. -/
def engineNumber (p k : Nat) : Nat := p * 17 + k

/-- The physical global engine that serves logical global engine g (R157): the spare where it has taken g over. -/
def State.physical (s : State) (g : Nat) : Nat := g / 17 * 17 + s.rf ENG_STATE_PHYS_SITE g

/-- Site 16 of the panel serves another site, so that its own range reads zero (R157). -/
def State.spareBusy (s : State) (p : Nat) : Bool := s.rf PNL_STATE_SPARE_FOR p != 0xFF

/-- The engine that serves logical global engine g. -/
def State.eng (s : State) (g : Nat) : Engine := Tab.get (Engine.cleared .held) s.engines (s.physical g)

/-- The state with the engine that serves g replaced. -/
def State.setEng (s : State) (g : Nat) (e : Engine) : State := { s with engines := s.engines.set (s.physical g) e }

/-! ## Units for bolt peers (R356, R372) -/

/-- The link state. -/
def State.slink (s : State) (l : Nat) : SeamLink := Tab.get SeamLink.idle s.seam.links l
def State.setLink (s : State) (l : Nat) (x : SeamLink) : State :=
  { s with seam := { s.seam with links := s.seam.links.set l x } }
def State.setSeam (s : State) (x : Seam) : State := { s with seam := x }

/-- The virtual channel of a unit (R357, R374). -/
def bodyVc : SeamBody → Nat
  | .entry _ _ _ => 0
  | .creditRequest _ _ => 1
  | .pop _ _ => 1
  | .read _ _ => 1
  | .writeWord _ _ _ => 1
  | .writeBytes _ _ _ => 1
  | .readReply _ _ _ => 2
  | .grant _ _ _ => 2
  | .popReply _ _ _ _ => 2
  | .landed _ _ => 2
  | .written _ => 2
  | _ => 3

/-- The link to die n, where there is a route. -/
def State.routeTo (s : State) (n : Nat) : Option Nat :=
  if s.bit SEAM_ROUTE_VALID n then some (s.rf SEAM_ROUTE_LINK n) else none

/-- A unit joins the transmit queue of its route's link, or waits where there is no route or the old route has not
acknowledged every unit. -/
def State.postUnit (s : State) (u : SeamUnit) : State :=
  match s.routeTo u.dest, Tab.get none s.seam.oldRoute u.dest with
  | some l, none =>
    let x := s.slink l
    s.setLink l { x with queue := x.queue ++ [u], idleSince := if x.queue.isEmpty then x.idleSince else s.tb.count }
  | _, _ => s.setSeam { s.seam with parked := s.seam.parked ++ [u] }

/-- A new unit of this die for die n. -/
def State.newUnit (s : State) (n : Nat) (b : SeamBody) : SeamUnit :=
  ⟨bodyVc b, 0, n, s.ob oBOLT_SELF, s.rf SEAM_BOLT_AEPOCH, s.rf SEAM_EPOCH_EPOCH % 256, b⟩

/-- What is acknowledged: the unit that sent it, and an entry's queue. -/
def awaitedOf : SeamBody → Option (Nat × Option Nat)
  | .entry q u _ => some (u, some q)
  | .writeWord u _ _ => some (u, none)
  | .writeBytes u _ _ => some (u, none)
  | _ => none

/-- Send die n a unit. An entry and a write are awaited until die n acknowledges them: the acknowledgements that FENCE and
EXIT wait for (R134, R150) return as messages, of a form that the model chooses. DESIGN CHOICE. -/
def State.post (s : State) (n : Nat) (b : SeamBody) : State :=
  let s := match awaitedOf b with
    | some x => s.setSeam { s.seam with awaited := s.seam.awaited ++ [(n, x)] }
    | none => s
  s.postUnit (s.newUnit n b)

/-! ## Scalar registers of an engine -/

/-- Scalar register i; g0 reads zero (R125). -/
def Engine.reg (e : Engine) (i : BitVec 5) : Word := if i = 0 then 0 else e.g[i.toNat]'(i.isLt)

/-- The engine with scalar register i written; a write of g0 is discarded (R125). -/
def Engine.setReg (e : Engine) (i : BitVec 5) (v : Word) : Engine :=
  if i = 0 then e else { e with g := e.g.set i.toNat v i.isLt }

/-! ## Quilt patches -/

/-- The patch, and the state with it replaced. -/
def State.patch (s : State) (n : Nat) : Patch := Tab.get Patch.empty s.patches n
def State.setPatch (s : State) (n : Nat) (x : Patch) : State := { s with patches := s.patches.set n x }

/-- The states of R466. -/
def qEmpty : Nat := 0
def qLoading : Nat := 1
def qLoaded : Nat := 2
def qRunning : Nat := 4
def qFaulted : Nat := 6
def qRetired : Nat := 7

/-- The state of a patch (R466), and the state with it changed. -/
def State.qstate (s : State) (n : Nat) : Nat := s.rf QP_STATE_STATE n
def State.setQstate (s : State) (n v : Nat) : State := s.sf QP_STATE_STATE n v

/-- The patch of an MB partition. -/
def State.mbPatch (s : State) (p : Nat) : Nat := (bitsSet 8 (s.ob oPART_PATCH_MASK p)).headD 0

/-- A patch is RUNNING. -/
def State.patchRuns (s : State) (n : Nat) : Bool := s.qstate n == 4

/-- A word reaches the stream of a patch that is LOADING or LOADED; other patches take none (R466, R469). -/
def State.streamWord (s : State) (n : Nat) (w : Option Word) : State :=
  if s.qstate n = 1 ∨ s.qstate n = 2 then s.setPatch n { s.patch n with stream := (s.patch n).stream ++ [w] } else s

/-! ## Islands -/

/-- The island of a unit (R32, R43, R12). -/
def islandOf (u : Nat) : Nat :=
  if u < 0x440 then u / 17
  else if u < 0x540 then (u - 0x440) / 4
  else if u < 0x600 then 81
  else if u < 0x740 then 64 + (u - 0x600) / 39
  else if u < 0x750 then 64 + (u - 0x740)
  else if u < 0x820 then 77
  else if u < 0x900 then 72
  else if u < 0x940 then 73
  else if u < 0x980 then 74
  else if u < 0xA00 then 76
  else if u < 0xB00 then 78
  else if u < 0xC00 then 80
  else 82

/-- The island of the Weft core. -/
def weftIsland : Nat := 81

/-- Island i beside its registers, and the state with it replaced. -/
def State.isl (s : State) (i : Nat) : Isl := Tab.get Isl.run s.pm.islands i
def State.setIsl (s : State) (i : Nat) (x : Isl) : State := { s with pm := { s.pm with islands := s.pm.islands.set i x } }

/-- PM_ISLAND_STATE.STATE of island i. -/
def State.istate (s : State) (i : Nat) : Nat := s.rf PM_ISLAND_STATE_STATE i

/-- The islands whose clocks a thermal trip gates (R661). -/
def tripGates (i : Nat) : Bool := decide (i ≤ 74) || (decide (76 ≤ i) && decide (i ≤ 79)) || i == 81

/-- A trip is in force and island i is gated. -/
def State.gated (s : State) (i : Nat) : Bool := s.bit PM_THERM_STATE_TRIP && tripGates i

/-- Flits do not cross to island i: it is gated, is not in RUN, or has stopped passing them (R553, R554, R661). An OFF panel
answers at once (R557). -/
def State.islandStops (s : State) (i : Nat) : Bool :=
  s.gated i || (s.istate i != 4 && (s.istate i != 0 || decide (0 < (s.isl i).step)))

/-- A flit waits at the stitches of island i, which it may need for one bank: the stall begins, and the power manager wakes
the island (R14, R553). -/
def State.stallAt (s : State) (i : Nat) (bank : Option Nat := none) : State :=
  let x := s.isl i
  if x.stall.isNone then s.setIsl i { x with stall := some (s.tb.count, bank) } else s

/-- A flit crosses a stitch of island i, which the power manager notes (R551). -/
def State.noteFlit (s : State) (i : Nat) : State := s.setIsl i { s.isl i with lastFlit := s.tb.count }

/-- Traffic of unit u that a block of island i takes in: it waits at the stitch while the island is stopped (R14, R553), and
until then nothing else changes; whoever sends it presents it again. -/
def State.atIsland (s : State) (u i : Nat) (f : State → State) : State :=
  if i ≠ islandOf u ∧ s.islandStops i = true then s.stallAt i else f s

/-- The island of a serial lane (R13). -/
def laneIsland (n : Nat) : Nat := if n < 48 then 72 else if n < 64 then 73 else 74

/-! ## Requests to the host (R490, R507) -/

/-- A request to host memory goes out, or waits in the host port while the link is down or retraining. -/
def State.hostRequest (s : State) (r : HeldRequest) : State :=
  if s.bit HP_LINK_STATE_UP && !s.bit HP_LINK_STATE_RETRAINING then
    match r with
    | .read u a n => s.send (.hostRead u a n)
    | .write _ _ a d poisoned => s.send (.hostWrite a d poisoned)
    | .message f v a d => s.send (.msix f v a d)
  else { s with host := { s.host with held := s.host.held ++ [r] } }

/-! ## MSI-X and events -/

/-- The MSI-X vectors of a function (R492, R618). -/
def vectorCount (f : Nat) : Nat := if f = 0 then 2048 else if f < 0x10 then 32 else 64

/-- The MSI-X state of function f. -/
def State.msixOf (s : State) (f : Nat) : Msix := Tab.get Msix.reset s.host.msix f

/-- The state with function f's MSI-X state replaced. -/
def State.setMsix (s : State) (f : Nat) (x : Msix) : State := { s with host := { s.host with msix := s.host.msix.set f x } }

/-- Send vector v of function f, or set its pending bit where the vector is masked or the function has MSI-X disabled
(R503). A vector of PF1–PF4 that has sent a message sends no other until its end-of-interrupt write (R631). -/
def State.sendVector (s : State) (f v : Nat) : State :=
  if vectorCount f ≤ v then s else
  let x := s.msixOf f
  let e := Tab.get Vector16.reset x.table v
  if x.enable && !x.functionMask && !e.masked then
    if decide (1 ≤ f) && decide (f ≤ 4) then
      if x.sent.contains v then s
      else (s.setMsix f { x with sent := v :: x.sent }).hostRequest (.message f v e.addr e.data)
    else s.hostRequest (.message f v e.addr e.data)
  else s.setMsix f { x with pend := if x.pend.contains v then x.pend else v :: x.pend }

/-- MB slot k beside the device registers, and the state with it replaced. -/
def State.mbSlot (s : State) (k : Nat) : MbSlot := Tab.get MbSlot.reset s.mb k
def State.setMbSlot (s : State) (k : Nat) (x : MbSlot) : State := { s with mb := s.mb.set k x }

/-- An interrupt source of slot k that no event of the die carries is raised (R631): its status is kept, and the vector that
its route register selects is sent. -/
def State.mbSource (s : State) (k source : Nat) : State :=
  let x := s.mbSlot k
  let s := s.setMbSlot k { x with raised := if x.raised.contains source then x.raised else x.raised ++ [source] }
  s.sendVector (k + 1) (Tab.get 0 x.routes source)

/-- The slot of partition p, where it is an MB partition that runs (R617). -/
def State.slotRunning (s : State) (p : Nat) : Option Nat :=
  let f := s.ob oPART_HOST_FUNCTION p
  if s.pstate p = 3 ∧ s.isMb p = true ∧ 1 ≤ f ∧ f ≤ 4 then some (f - 1) else none

/-- A comparator that fires as MB-416 timer 0–15 of a slot raises the timer's source (R627, R631). -/
def State.mbTimer (s : State) (n : Nat) : State :=
  match s.comparatorOwner n with
  | some p =>
    let i := n - s.ob oTIMER_CMP_BASE p
    match s.slotRunning p with
    | some k => if i < 16 then s.mbSource k (136 + i) else s
    | none => s
  | none => s

/-- An event reaches Thimble firmware, or waits in its inbox of 1,024 entries while no pair runs (R588, R589). -/
def State.tellThimble (s : State) (e info : Nat) : State :=
  if s.ob oFAULT_THIMBLE ≠ 4 then s.send (.event e info)
  else if s.health.inbox.length < 1024 then { s with health := { s.health with inbox := s.health.inbox ++ [(e, info)] } }
  else s

/-- Raise event e with the detail the die records: its EVR_PEND bit is set, and it is delivered under its route to
Thimble firmware and to an MSI-X vector, an engine inbox or a bolt peer (R502, R503). -/
def State.raise (s : State) (e : Nat) (info : Nat := 0) : State :=
  let s := s.sf EVR_PEND_PEND (e / 32) (s.rf EVR_PEND_PEND (e / 32) ||| 2 ^ (e % 32))
  let s := if s.bit EVR_ROUTE_THIMBLE e then s.tellThimble e info else s
  let t := s.rf EVR_ROUTE_TARGET e
  match s.rf EVR_ROUTE_DEST e with
  | 1 => s.sendVector (s.rf EVR_ROUTE_FUNCTION e) t
  | 2 => { s with engineEvents := s.engineEvents ++ [(t, e)] }
  | 3 => s.post (t % 8) (.event e)
  | _ => s

/-- Raise a unit's event with a reason, recorded in its LAST_REASON field. -/
def State.raiseReason (s : State) (e reason : Nat) (f : Fld) (i : Nat) : State := (s.sf f i reason).raise e reason

/-! ## Event numbers -/

def evEngine (g : Nat) : Nat := g
def evQueueStall : Nat := 0x05C0
def evEpochFenced : Nat := 0x05C1
def evQueueConfig : Nat := 0x05C2
def evRouteLost : Nat := 0x05C3
def evHostRing : Nat := 0x05D0
def evHostLink : Nat := 0x05D1
def evCarrierSlot (c : Nat) : Nat := 0x0B00 + c
def evTimeState : Nat := 0x0B40
def evPpsInLost : Nat := 0x0B41
def evSysrefLost : Nat := 0x0B42
def evTodError : Nat := 0x0B43
def evTbStep : Nat := 0x0B45
def evComparator : Nat := 0x0B48
def evTimerConfig : Nat := 0x0B4A
def evClockFloor : Nat := 0x0BE0
def evThermal : Nat := 0x0BE1
def evSupply : Nat := 0x0BE2
def evMemCeRate : Nat := 0x0C00
def evMemUncorr : Nat := 0x0C01
def evDarnRepair : Nat := 0x0C02
def evDarnExhausted : Nat := 0x0C03
def evDarnOverflow : Nat := 0x0C04
def evMpDenied : Nat := 0x0C06

def evRetiredSpeaks : Nat := 0x0C93

/-! ## Fault records -/

/-- The class of R573 and the identifier of a unit, by its unit ID. -/
def unitClass (u : Nat) : Nat :=
  if u < 0x440 then 0 else if u < 0x540 then 1 else if u < 0x740 then 2 else if u < 0x750 then 3
  else if u < 0x820 then 7 else if u < 0x900 then 4 else 5

/-- A fault record of 32 bytes (R593). -/
def State.faultRecord (s : State) (cls cause ident epoch flags logical : Nat) : List Byte :=
  valBytes 1 cls ++ valBytes 1 cause ++ valBytes 2 ident ++ valBytes 1 epoch ++ valBytes 1 flags ++ valBytes 2 logical
    ++ valBytes 8 s.now ++ valBytes 4 (s.ob oID_BOOT_COUNT) ++ valBytes 12 0

/-- A list of 32-byte records with one more, of which the last `n` are kept. -/
def keepRecords (n : Nat) (old new : List Byte) : List Byte := (old ++ new).drop ((old ++ new).length - 32 * n)

/-- A record added to FAULT.RECENT, which keeps the last 256 (R592). -/
def State.addRecent (s : State) (cls cause ident epoch flags logical : Nat) : State :=
  s.sdom oFAULT_RECENT 0 (keepRecords 256 (s.dom oFAULT_RECENT) (s.faultRecord cls cause ident epoch flags logical))

/-- The epoch of unit u's identity advances (R55); R580 counts how often. -/
def State.advanceEpoch (s : State) (u : Nat) : State :=
  let s := s.sf QM_EPOCH_EPOCH u (s.rf QM_EPOCH_EPOCH u + 1)
  { s with health := { s.health with epochs := s.health.epochs.set u (Tab.get 0 s.health.epochs u + 1) } }

/-- Physical site k of panel p is retired (R157). -/
def State.siteRetired (s : State) (p k : Nat) : Bool := natBit (s.rf PNL_STATE_SITES_RETIRED p) k

def evUnitRetired : Nat := 0x0C90

/-- A retirement is recorded and announced (R575, R592, R593): flag bits RETIRED, SPARE and MANUAL. -/
def State.recordRetirement (s : State) (cls cause ident epoch : Nat) (spare : Bool) (logical : Nat) : State :=
  let flags := 1 + (if spare then 2 else 0) + (if cause = 3 then 8 else 0)
  let l := s.dom oFAULT_RETIREMENTS
  let s := if l.length < 32 * 2048 then
      s.sdom oFAULT_RETIREMENTS 0 (l ++ s.faultRecord cls cause ident epoch flags logical) else s
  s.raise evUnitRetired (cls * 65536 + ident)

/-! ## Completion codes (R8) -/

def codeDone : Nat := 0x00
def codeDoneLate : Nat := 0x01
def codeDroppedLate : Nat := 0x02
def codeDoneRetried : Nat := 0x03
def codeUnitReset : Nat := 0x04
def codePoison : Nat := 0x05
def codeNoUnit : Nat := 0x06
/-- No completion code: the answer to a valid start command comes later. -/
def codeLater : Nat := 0x100
def codeFenced : Nat := 0x07
def codeBadDescriptor : Nat := 0x08
def codeAborted : Nat := 0x09
def codePartial : Nat := 0x0A
def codeDenied : Nat := 0x0B
def codeBusy : Nat := 0x0C

end Sys2Proof.Machine
end

