-- ==== Sys2Proof/Machine/TimeBase.lean ====
section
/-!
DEFINITION. The time base and synchronization: counting and steps (R62 to R69), the synchronization states (R70 to R75),
PPS and time of day (R77, R78), carrier timers (R79 to R81) and comparators (R82 to R85).
-/

namespace Sys2Proof.Machine

open Reg Ob

/-- The state with its time base replaced. -/
def State.setTb (s : State) (t : TimeBase) : State := { s with tb := t }

/-! ## Counting -/

/-- TB_FREQ_ADJ.ADJ as a signed number. -/
def State.adj (s : State) : Int := toSigned 32 (s.rf TB_FREQ_ADJ_ADJ)

/-- The clamp of ADJ (R65). -/
def clampAdj (v : Int) : Int := max (-1759218604) (min v 1759218604)

/-- Set ADJ, clamped, and remember its former value for the mean of R71. -/
def State.setAdj (s : State) (v : Int) : State :=
  (s.setTb { s.tb with adjHistory := (s.tb.count, s.adj) :: s.tb.adjHistory }).sf TB_FREQ_ADJ_ADJ 0 (ofSigned 32 (clampAdj v))

/-- How far a replica may lag after a refresh that reports lag `l`, so that it lags at most 8 ticks and never runs
backward (R64). -/
def newLag (oldCount oldLag newCount l : Nat) : Nat := min (min l 8) (newCount - (oldCount - oldLag))

/-! ## Carrier timers -/

/-- The numerology of a carrier type: symbols in each 0.5 ms, symbols in a slot, the length of the first symbol of each
0.5 ms and of the others (R79). -/
structure Numerology where
  perHalf : Nat
  perSlot : Nat
  first : Nat
  other : Nat
deriving DecidableEq, Repr

/-- The numerologies of R79, by TYPE and ECP. -/
def numerology (ty : Nat) (ecp : Bool) : Numerology :=
  match ty, ecp with
  | 0, _ => ⟨7, 14, 8832, 8768⟩
  | 1, _ => ⟨14, 14, 4448, 4384⟩
  | 2, false => ⟨28, 14, 2256, 2192⟩
  | 2, true => ⟨24, 12, 2560, 2560⟩
  | 3, _ => ⟨56, 14, 1160, 1096⟩
  | 4, _ => ⟨112, 14, 612, 548⟩
  | _, false => ⟨7, 7, 8832, 8768⟩
  | _, true => ⟨6, 6, 10240, 10240⟩

/-- Ticks in a frame and in half a subframe. -/
def frameTicks : Nat := 1228800
def halfTicks : Nat := 61440

/-- The start of symbol k of a half-subframe. -/
def Numerology.symbolStart (n : Numerology) (k : Nat) : Nat := if k = 0 then 0 else n.first + (k - 1) * n.other

/-- The symbol of a half-subframe that holds a tick of it. -/
def Numerology.symbolAt (n : Numerology) (t : Nat) : Nat := if t < n.first then 0 else 1 + (t - n.first) / n.other

/-- The number of the symbol, counted from the first frame boundary of the count, that holds tick `t`. -/
def Numerology.symbolNumber (n : Numerology) (t : Nat) : Nat :=
  t / halfTicks * n.perHalf + n.symbolAt (t % halfTicks)

/-- The tick at which symbol number j starts. -/
def Numerology.symbolTick (n : Numerology) (j : Nat) : Nat :=
  j / n.perHalf * halfTicks + n.symbolStart (j % n.perHalf)

/-- The least spacing of an anchor's boundaries (R83). -/
def Numerology.spacing (n : Numerology) (anchor : Nat) : Nat :=
  match anchor with
  | 0 => n.other
  | 1 => if n.perSlot < n.perHalf then n.perSlot * n.other else halfTicks * n.perSlot / n.perHalf
  | _ => frameTicks

/-- The state of carrier timer c, and the state with it replaced. -/
def State.carrier (s : State) (c : Nat) : Carrier := Tab.get Carrier.off s.tb.carriers c
def State.setCarrier (s : State) (c : Nat) (x : Carrier) : State :=
  s.setTb { s.tb with carriers := s.tb.carriers.set c x }

/-- The numerology of carrier timer c. -/
def State.carNum (s : State) (c : Nat) : Numerology := numerology (s.carrier c).ty (s.carrier c).ecp

/-- Ticks since a frame boundary of carrier timer c that lies 1,024 frames before tick OFFSET. -/
def State.carRel (s : State) (c t : Nat) : Nat := t + 1024 * frameTicks - (s.carrier c).offset

/-- The tick that lies `r` ticks after that boundary. -/
def State.carTick (s : State) (c r : Nat) : Nat := r + (s.carrier c).offset - 1024 * frameTicks

/-- The first frame boundary of carrier timer c at or after tick t (R79, R81). -/
def State.frameAfter (s : State) (c t : Nat) : Nat :=
  s.carTick c ((s.carRel c t + frameTicks - 1) / frameTicks * frameTicks)

/-- The tick at which an enabled carrier timer starts or has started (R81). -/
def State.carStart (s : State) (c : Nat) : Nat :=
  match (s.carrier c).start with
  | some t => t
  | none => s.frameAfter c (s.carrier c).since

/-- SFN, slot and symbol of carrier timer c: 0 until it has started (R79, R81). -/
def State.carPos (s : State) (c : Nat) : Nat × Nat × Nat :=
  if (s.carrier c).on && (s.carrier c).start.isSome then
    let n := s.carNum c
    let r := s.carRel c s.tb.count
    let g := n.symbolNumber (r % frameTicks)
    (r / frameTicks % 1024, g / n.perSlot, g % n.perSlot)
  else (0, 0, 0)

/-- The start of the slot of carrier timer c that holds the present tick. -/
def State.slotStart (s : State) (c : Nat) : Nat :=
  let n := s.carNum c
  let g := n.symbolNumber (s.carRel c s.tb.count)
  s.carTick c (n.symbolTick (g / n.perSlot * n.perSlot))

/-! ## Comparators -/

/-- The state of comparator n beside its registers. -/
def State.cmp (s : State) (n : Nat) : Comparator := Tab.get Comparator.idle s.tb.comparators n

/-- The state with that of comparator n replaced. -/
def State.setCmp (s : State) (n : Nat) (x : Comparator) : State :=
  s.setTb { s.tb with comparators := s.tb.comparators.set n x }

/-- Symbol number j of a carrier is a boundary that anchor and mask select (R82). -/
def selects (n : Numerology) (anchor mask j : Nat) : Bool :=
  match anchor with
  | 0 => natBit mask (j % n.perSlot)
  | 1 => j % n.perSlot == 0
  | _ => j % (20 * n.perHalf) == 0

/-- The first selected symbol number from j on, looking `fuel` symbols ahead. -/
def nextSelected (n : Numerology) (anchor mask j : Nat) : Nat → Option Nat
  | 0 => none
  | f + 1 => if selects n anchor mask j then some j else nextSelected n anchor mask (j + 1) f

/-- The next fire of a comparator in mode 2: its tick and its boundary (R84). It is for the first selected boundary at
or after the start of its carrier timer, after the last boundary fired, whose fire tick is not before the arming. A change
of SEL or OFFSET may so select boundaries that have passed since the last fire: they fire late (DESIGN CHOICE). -/
def State.nextFire (s : State) (n : Nat) : Option (Nat × Nat) :=
  let x := s.cmp n
  let c := x.carrier
  if !(s.carrier c).on then none else
  let num := s.carNum c
  let off := toSigned 32 x.offset
  let floor := ((x.armedAt : Int) - off).toNat
  let lo := max (max (s.carStart c) floor) (match x.lastBoundary with | some b => b + 1 | none => 0)
  let r := s.carRel c lo
  let j := num.symbolNumber r
  let j := if num.symbolTick j = r then j else j + 1
  match nextSelected num x.anchor x.mask j (20 * num.perHalf) with
  | none => none
  | some k =>
    let b := s.carTick c (num.symbolTick k)
    some (((b : Int) + off).toNat, b)

/-- The device writes a match tick (R84, R85); a MATCH that software has written in this tick still reads as written. -/
def State.setMatch (s : State) (n v : Nat) : State :=
  let x := s.cmp n
  let s := s.setCmp n { x with due := v % 2 ^ 48 }
  if x.matched then s else s.sf TM_CMP_MATCH_MATCH n v

/-- The device disarms a comparator. -/
def State.clearArm (s : State) (n : Nat) : State :=
  let x := s.cmp n
  let s := s.setCmp n { x with arm := false, next := none }
  if x.ctrl then s else s.sf TM_CMP_CTRL_ARM n 0

/-- Compute the schedule of a comparator in mode 2 afresh; a scheduled fire's tick is written into MATCH (R84). -/
def State.reschedule (s : State) (n : Nat) : State :=
  let f := s.nextFire n
  let s := s.setCmp n { s.cmp n with next := f }
  match f with
  | some (t, _) => s.setMatch n t
  | none => s

/-- The comparators that hold anything. -/
def State.cmpKeys (s : State) : List Nat := s.tb.comparators.map Prod.fst

/-- Compute afresh the schedule of every comparator armed in mode 2 on carrier timer c. -/
def State.rescheduleAll (s : State) (c : Nat) : State :=
  s.cmpKeys.foldl (fun s n =>
    if (s.cmp n).arm && (s.cmp n).mode == 2 && (s.cmp n).carrier == c then s.reschedule n else s) s

/-- Comparator n is due: armed, and its match tick reached. -/
def State.cmpDue (s : State) (n : Nat) : Bool :=
  let x := s.cmp n
  x.arm && (if x.mode = 2 then
      match x.next with
      | some (t, _) => decide (t ≤ s.tb.count)
      | none => false
    else x.due == s.now || deadlinePassed x.due s.now)

/-- Ticks by which the match of comparator n has passed. -/
def State.cmpLate (s : State) (n : Nat) : Nat := (s.now + 2 ^ 48 - (s.cmp n).due) % 2 ^ 48

/-- How many ticks ahead the next fire of a comparator lies: none while it has none to come. -/
def State.cmpAhead (s : State) (n : Nat) : Option Nat :=
  let x := s.cmp n
  if !x.arm then none
  else if x.mode = 2 then x.next.map (fun f => f.1 - s.tb.count)
  else some (if deadlinePassed x.due s.now then 0 else deadlineDiff x.due s.now)

/-- The owner of a fire's target: a DMA channel or a Shuttle trigger (R83). -/
def State.targetOwner (s : State) (kind target : Nat) : Option Nat :=
  if kind = 1 then s.channelOwner target else s.triggerOwner target

/-- The flit of a fire (R82, R84): an event, a DMA channel trigger or a Shuttle trigger of the same owner. -/
def State.fireFlit (s : State) (n : Nat) : State :=
  let x := s.cmp n
  if x.kind = 0 then (s.raise evComparator n).mbTimer n
  else if s.targetOwner x.kind x.target ≠ s.comparatorOwner n then s
  else if x.kind = 1 then s.setTb { s.tb with triggers := s.tb.triggers ++ [.dma x.target 0 x.due] }
  else s.setTb { s.tb with triggers := s.tb.triggers ++ [.shuttle (x.target % 1024) x.due] }

/-- Comparator n fires (R84, R85). `late` is how far its match has passed. A one-shot disarms; a periodic one advances
by whole periods until it no longer has passed, counting those passed over (a match on the present tick counts as lying
ahead, DESIGN CHOICE); a carrier-relative one is rescheduled. -/
def State.fireCmp (s : State) (n late : Nat) : State :=
  let s := s.fireFlit n
  let s := s.setTb { s.tb with fired := s.tb.fired + 1 }
  let s := if 0 < late then s.sf TM_CMP_STAT_LATE n 1 else s
  let x := s.cmp n
  match x.mode with
  | 0 => s.clearArm n
  | 1 =>
    let k := max 1 ((late + x.period - 1) / x.period)
    (s.setMatch n (x.due + k * x.period)).incf TM_CMP_STAT_SKIPPED n (k - 1)
  | _ =>
    (s.setCmp n { x with lastBoundary := match x.next with | some (_, b) => some b | none => x.lastBoundary }).reschedule n

/-- Of two due comparators, the one whose fire goes first: earlier match, then lower number (R84). -/
def State.cmpFirst (s : State) : List Nat → Option Nat
  | [] => none
  | n :: r =>
    match s.cmpFirst r with
    | none => if s.cmpDue n then some n else none
    | some m => if s.cmpDue n && decide (s.cmpLate m ≤ s.cmpLate n) then some n else some m

/-- The checks of an arming (R83), of what has been put into effect. -/
def State.armValid (s : State) (n : Nat) : Bool :=
  let x := s.cmp n
  let owner := s.comparatorOwner n
  x.mode != 3 && x.kind != 3 && x.anchor != 3
    && (x.kind == 0 || (owner.isSome && s.targetOwner x.kind x.target == owner))
    && (x.mode != 1 || decide (16 ≤ x.period))
    && (x.mode != 2 || ((s.carrier x.carrier).on && owner.isSome && s.carrierOwner x.carrier == owner
        && decide ((toSigned 32 x.offset).natAbs < (s.carNum x.carrier).spacing x.anchor)))

/-- An arming takes effect (R83, R85): checked, SKIPPED cleared, the schedule computed afresh, and a match already passed
fires at once in modes 0 and 1. -/
def State.arm (s : State) (n : Nat) : State :=
  if s.armValid n then
    let s := s.sf TM_CMP_STAT_SKIPPED n 0
    let s := s.setCmp n { s.cmp n with armedAt := s.tb.count, next := none, lastBoundary := none }
    if (s.cmp n).mode = 2 then s.reschedule n
    else if deadlinePassed (s.cmp n).due s.now then s.fireCmp n (s.cmpLate n) else s
  else (s.clearArm n).raise evTimerConfig n

/-- What software has written of comparator n takes effect, a tick after the write (R85). -/
def State.takeCmp (s : State) (n : Nat) : State :=
  let x := s.cmp n
  if !(x.ctrl || x.matched || x.other) then s else
  let s := s.setCmp n { x with
    arm := if x.ctrl then s.bit TM_CMP_CTRL_ARM n else x.arm
    mode := s.rf TM_CMP_CTRL_MODE n
    kind := s.rf TM_CMP_CTRL_KIND n
    anchor := s.rf TM_CMP_CTRL_ANCHOR n
    carrier := s.rf TM_CMP_CTRL_CARRIER n
    target := s.rf TM_CMP_CTRL_TARGET n
    due := if x.matched then s.rf TM_CMP_MATCH_MATCH n else x.due
    period := s.rf TM_CMP_PERIOD_PERIOD n
    mask := s.rf TM_CMP_SEL_SYMBOL_MASK n
    offset := s.rf TM_CMP_OFFSET_OFFSET n
    ctrl := false, matched := false, other := false }
  let y := s.cmp n
  if !y.arm then s.setCmp n { y with next := none }
  else if x.ctrl then s.arm n
  else if y.mode = 2 then s.reschedule n
  else if x.matched && deadlinePassed y.due s.now then s.fireCmp n (s.cmpLate n) else s

/-- Requester u may write comparator n (R83). -/
def State.mayWriteCmp (s : State) (u n : Nat) : Bool := isThimble u || s.isOwnerHost u (s.comparatorOwner n)

/-- Requester u may write carrier timer c (R83). -/
def State.mayWriteCar (s : State) (u c : Nat) : Bool := isThimble u || s.isOwnerHost u (s.carrierOwner c)

/-- A write of TM_CMP_CTRL (R82, R85): it reads as written at once and takes effect at the next tick. -/
def State.writeCmpCtrl (s : State) (u n v : Nat) : State :=
  if !s.mayWriteCmp u n then s else
  let s := (((s.sf TM_CMP_CTRL_MODE n (v / 2 ^ 29)).sf TM_CMP_CTRL_KIND n (v / 2 ^ 27)).sf TM_CMP_CTRL_ANCHOR n
    (v / 2 ^ 25)).sf TM_CMP_CTRL_CARRIER n (v / 2 ^ 19)
  let s := (s.sf TM_CMP_CTRL_TARGET n v).sf TM_CMP_CTRL_ARM n (v / 2 ^ 31)
  s.setCmp n { s.cmp n with ctrl := true }

/-- A write of TM_CMP_MATCH, TM_CMP_PERIOD, TM_CMP_SEL or TM_CMP_OFFSET, numbered 0 to 3 (R85). -/
def State.writeCmpField (s : State) (u n reg v : Nat) : State :=
  if !s.mayWriteCmp u n then s else
  let s := match reg with
    | 0 => s.sf TM_CMP_MATCH_MATCH n v
    | 1 => s.sf TM_CMP_PERIOD_PERIOD n v
    | 2 => s.sf TM_CMP_SEL_SYMBOL_MASK n v
    | _ => s.sf TM_CMP_OFFSET_OFFSET n v
  let x := s.cmp n
  s.setCmp n (if reg = 0 then { x with matched := true } else { x with other := true })

/-- A write of TM_CAR_CFG (R80, R81): TYPE and ECP stand while ENABLE is 1; what is written takes effect at the next
tick. -/
def State.writeCarCfg (s : State) (u c v : Nat) : State :=
  if !s.mayWriteCar u c then s else
  let free := !s.bit TM_CAR_CFG_ENABLE c
  let s := (s.sf TM_CAR_CFG_ENABLE c (v / 2 ^ 31)).sf TM_CAR_CFG_SLOT_EVENT c (v / 2 ^ 30)
  let s := if free then (s.sf TM_CAR_CFG_TYPE c (v / 2 ^ 24)).sf TM_CAR_CFG_ECP c (v / 2 ^ 23) else s
  s.setCarrier c { s.carrier c with written := true }

/-- A write of TM_CAR_OFFSET: ignored while ENABLE is 1 (R81). -/
def State.writeCarOffset (s : State) (u c v : Nat) : State :=
  if s.mayWriteCar u c && !s.bit TM_CAR_CFG_ENABLE c then
    (s.sf TM_CAR_OFFSET_OFFSET c v).setCarrier c { s.carrier c with written := true }
  else s

/-- A carrier timer is disabled. -/
def State.disableCarrier (s : State) (c : Nat) : State :=
  ((s.sf TM_CAR_CFG_ENABLE c 0).setCarrier c
    { Carrier.off with slotEvent := (s.carrier c).slotEvent, ty := (s.carrier c).ty, ecp := (s.carrier c).ecp,
                       offset := (s.carrier c).offset }).rescheduleAll c

/-- What software has written of carrier timer c takes effect, a tick after the write (R81). -/
def State.takeCarrier (s : State) (c : Nat) : State :=
  let x := s.carrier c
  if !x.written then s else
  let s := s.setCarrier c { x with slotEvent := s.bit TM_CAR_CFG_SLOT_EVENT c, written := false }
  if !s.bit TM_CAR_CFG_ENABLE c then
    (s.setCarrier c { s.carrier c with ty := s.rf TM_CAR_CFG_TYPE c, ecp := s.bit TM_CAR_CFG_ECP c,
                                       offset := s.rf TM_CAR_OFFSET_OFFSET c }).disableCarrier c
  else if x.on then s
  else
    let ty := s.rf TM_CAR_CFG_TYPE c
    let ecp := s.bit TM_CAR_CFG_ECP c
    let offset := s.rf TM_CAR_OFFSET_OFFSET c
    if 6 ≤ ty ∨ (ecp = true ∧ ty ≠ 2 ∧ ty ≠ 5) ∨ frameTicks ≤ offset then (s.sf TM_CAR_CFG_ENABLE c 0).raise evTimerConfig c
    else (s.setCarrier c ⟨true, s.bit TM_CAR_CFG_SLOT_EVENT c, ty, ecp, offset, false, s.tb.count, none, none⟩).rescheduleAll c

/-- Disarm a comparator, as a delete does (R21). -/
def State.disarm (s : State) (n : Nat) : State :=
  (s.sf TM_CMP_CTRL_ARM n 0).setCmp n { s.cmp n with arm := false, ctrl := false, next := none }

/-- One period of the reference (R62): ADJ is added, islands' replicas lag as `lags` says, within R64, the shadow follows
(R69), and the time base is back on a system reference that has returned (R75). -/
def State.countTick (s : State) (lags : List (Nat × Nat)) : State :=
  let t := s.tb
  let total := ((t.frac : Int) + 2 ^ 44 + s.adj).toNat
  let count := (t.count + total / 2 ^ 44) % 2 ^ 64
  let keep := lags.foldl (fun (l : Tab Nat) (p : Nat × Nat) =>
    l.set p.1 (newLag t.count (Tab.get 0 t.lags p.1) count p.2)) []
  let s := s.setTb { t with count := count, frac := total % 2 ^ 44, periods := t.periods + 1, lags := keep, fired := 0,
                            shadowCount := count, shadowFrac := total % 2 ^ 44, shadowAdj := s.rf TB_FREQ_ADJ_ADJ }
  if t.sysrefBack then
    (s.setTb { s.tb with sysrefLost := false, sysrefBack := false, laneRefLost := false }).sf TB_STATUS_FALLBACK 0 0
  else s

/-- The comparators that software has written in this tick. -/
def State.cmpWritten (s : State) : List Nat :=
  s.cmpKeys.filter (fun n => (s.cmp n).ctrl || (s.cmp n).matched || (s.cmp n).other)

/-- A tick: a written comparator whose match falls on the tick of the write still fires; the count goes on; then what has
been written takes effect (R62, R81, R85). -/
def State.tick (s : State) (lags : List (Nat × Nat)) : State :=
  let s := s.cmpWritten.foldl (fun s n => if s.cmpDue n then s.fireCmp n (s.cmpLate n) else s) s
  let s := s.countTick lags
  let s := (s.tb.carriers.map Prod.fst).foldl (fun s c => s.takeCarrier c) s
  s.cmpWritten.foldl (fun s n => s.takeCmp n) s

/-- TIME_BASE_REFERENCE_PERIOD (R62, R64, R69). -/
def execTimeBaseReferencePeriod (lags : List (Nat × Nat)) (s : State) : Host.Outcome State Fault Refusal :=
  .next (s.tick lags)

/-- CARRIER_TIMER_CONFIG (R81): register 0 is TM_CAR_CFG, 1 is TM_CAR_OFFSET. -/
def execCarrierTimerConfig (requester carrier register : Nat) (value : Half) (s : State) :
    Host.Outcome State Fault Refusal :=
  .next (s.atIsland requester 80 (fun s =>
    if register = 0 then s.writeCarCfg requester (carrier % 64) value.toNat
           else s.writeCarOffset requester (carrier % 64) value.toNat))

/-- CARRIER_TIMER_START (R81): at the frame boundary the timer starts. -/
def execCarrierTimerStart (carrier : Nat) (s : State) : Host.Outcome State Fault Refusal :=
  let c := carrier % 64
  .next (if (s.carrier c).on && (s.carrier c).start.isNone && decide (s.carStart c ≤ s.tb.count) then
      s.setCarrier c { s.carrier c with start := some (s.carStart c) }
    else s)

/-- CARRIER_SLOT_START (R80): the slot that holds the present tick is announced once. -/
def execCarrierSlotStart (carrier : Nat) (s : State) : Host.Outcome State Fault Refusal :=
  let c := carrier % 64
  let x := s.carrier c
  .next (if x.on && x.slotEvent && x.start.isSome && x.lastSlot != some (s.slotStart c) then
      (s.setCarrier c { x with lastSlot := some (s.slotStart c) }).raise (evCarrierSlot c)
    else s)

/-- COMPARATOR_ARM (R85): a TM_CMP_CTRL write with ARM 1. -/
def execComparatorArm (requester comparator : Nat) (control : Half) (s : State) : Host.Outcome State Fault Refusal :=
  .next (s.atIsland requester 80 (fun s => s.writeCmpCtrl requester (comparator % 1024) (control.toNat % 2 ^ 31 + 2 ^ 31)))

/-- COMPARATOR_WRITE (R85): register 0 MATCH, 1 PERIOD, 2 SEL, 3 OFFSET, 4 TM_CMP_CTRL with ARM 0. -/
def execComparatorWrite (requester comparator register : Nat) (value : Word) (s : State) :
    Host.Outcome State Fault Refusal :=
  .next (s.atIsland requester 80 (fun s =>
    if register = 4 then s.writeCmpCtrl requester (comparator % 1024) (value.toNat % 2 ^ 31)
           else s.writeCmpField requester (comparator % 1024) register value.toNat))

/-- COMPARATOR_FIRE (R84): the first of the comparators that are due fires, one of at most 16 in a tick. -/
def execComparatorFire (s : State) : Host.Outcome State Fault Refusal :=
  .next (if 16 ≤ s.tb.fired then s else match s.cmpFirst s.cmpKeys with
    | some n => s.fireCmp n (s.cmpLate n)
    | none => s)

/-! ## Steps -/

/-- A tick of the count after a step by `d`. -/
def stepped (d : Int) (t : Nat) : Nat := ((t : Int) + d).toNat

/-- The time base with the count moved by `d` ticks: every replica and the shadow have the new count, what is measured
from earlier ticks moves along, and timers not yet started wait for a boundary of the new count (R68). -/
def TimeBase.step (t : TimeBase) (d : Int) : TimeBase :=
  let new := (((t.count : Int) + d) % 2 ^ 64).toNat
  { t with
    count := new, shadowCount := new, lags := []
    stateSince := stepped d t.stateSince
    within := t.within.map (stepped d)
    sourceTick := stepped d t.sourceTick
    hostStateTick := t.hostStateTick.map (stepped d)
    ppsInTick := t.ppsInTick.map (stepped d)
    adjHistory := t.adjHistory.map (fun h => (stepped d h.1, h.2))
    carriers := t.carriers.map (fun (p : Nat × Carrier) =>
      (p.1, { p.2 with since := new, start := p.2.start.map (fun t => min t new), lastSlot := none }))
    comparators := t.comparators.map (fun (p : Nat × Comparator) =>
      (p.1, { p.2 with armedAt := if d < 0 then min p.2.armedAt new else p.2.armedAt })) }

/-- The slot that a step lands in counts as announced unless the step lands on its start (DESIGN CHOICE: R68 does not speak of
slot events across a step). -/
def State.markSlots (s : State) : State :=
  s.setTb { s.tb with carriers := s.tb.carriers.map (fun (p : Nat × Carrier) =>
    (p.1, { p.2 with lastSlot := if p.2.on && s.slotStart p.1 != s.tb.count then some (s.slotStart p.1) else none })) }

/-- A comparator armed in mode 2 follows a carrier timer that has not started. -/
def State.awaitsStart (s : State) (n : Nat) : Bool :=
  let x := s.cmp n
  x.arm && x.mode == 2 && (s.carrier x.carrier).start.isNone

/-- An accepted step of the count by `d` ticks (R67, R68): comparators of timers that have not started are scheduled
afresh, and a forward step fires, as late, every other comparator whose match it skips. -/
def State.stepCount (s : State) (d : Int) : State :=
  let old := s.tb.count
  let s := (s.setTb (s.tb.step d)).markSlots
  let s := (s.cmpKeys.filter s.awaitsStart).foldl (fun s n => s.reschedule n) s
  let skipped := s.cmpKeys.filter (fun n => (s.cmp n).arm && !s.awaitsStart n
    && decide (((deadlineDiff (s.cmp n).due old : Nat) : Int) < d)
    && !deadlinePassed (s.cmp n).due old
    && ((s.cmp n).mode != 2 || (s.cmp n).next.isSome))
  let order := skipped.mergeSort (fun a b => decide (deadlineDiff (s.cmp a).due old ≤ deadlineDiff (s.cmp b).due old))
  order.foldl (fun s n =>
    let late := (d - deadlineDiff (s.cmp n).due old).toNat
    (s.setCmp n { s.cmp n with armedAt := s.tb.count }).fireCmp n late) s

/-- A write of TB_STEP (R66, R67). -/
def State.writeStep (s : State) (u : Nat) (delta : Int) : State :=
  if isThimble u || (isPf0 u && s.ob oTIME_SOURCE == 3) then
    if s.anyRunning then (s.sf TB_STATUS_STEP_DENIED 0 1).raise evTbStep else s.stepCount delta
  else s

/-- A write of TB_FREQ_ADJ (R65, R66). -/
def State.writeAdj (s : State) (u v : Nat) : State :=
  if isThimble u || (isPf0 u && s.ob oTIME_SOURCE == 3) then s.setAdj (toSigned 32 v) else s

/-- TB_STEP (R67). -/
def execTbStep (requester : Nat) (delta : Word) (s : State) : Host.Outcome State Fault Refusal :=
  .next (s.atIsland requester 80 (fun s => s.writeStep requester delta.toInt))

/-! ## Synchronization states -/

/-- The values of R70. -/
def freerun : Nat := 0
def acquiring : Nat := 1
def locked : Nat := 2
def holdover : Nat := 3
def holdoverExpired : Nat := 4

/-- The synchronization state. -/
def State.sync (s : State) : Nat := s.rf TB_STATUS_STATE

/-- PPS_OUT is held low in FREERUN and ACQUIRING (R77). -/
def State.setPps (s : State) (level : Bool) : State :=
  if s.tb.ppsOut = level then s else (s.setTb { s.tb with ppsOut := level }).send (.pin "PPS_OUT" level)

/-- The clockClass advertised in a synchronization state (R71): 6 only as grandmaster, whose source is PPS_IN. -/
def State.setClass (s : State) (st : Nat) : State :=
  let cls := match st with
    | 0 => 248
    | 2 => if s.ob oTIME_SOURCE = 2 then 6 else Config.clockClass s.free % 256
    | 3 => 135
    | 4 => 165
    | _ => Config.clockClass s.free % 256
  s.fresh.so oTIME_CLOCK_CLASS 0 cls

/-- Enter a synchronization state (R70, R71, R76): TIME.STATE, the clockClass, PPS_OUT and the event. -/
def State.enterSync (s : State) (st : Nat) : State :=
  if s.sync = st then s else
  let s := ((s.sf TB_STATUS_STATE 0 st).so oTIME_STATE 0 st).setTb { s.tb with stateSince := s.tb.count }
  let s := s.setClass st
  let s := if st ≤ 1 then s.setPps false else s
  s.raise evTimeState st

/-- The sum of ADJ over time from tick `lo`, from past values, newest first, and the tick at which the value after them
began. -/
def adjSum (lo : Nat) : List (Nat × Int) → Int
  | [] => 0
  | [(t, v)] => v * ((t - min t lo : Nat) : Int)
  | (t, v) :: (u, w) :: r => v * ((t - min t (max lo u) : Nat) : Int) + adjSum lo ((u, w) :: r)

/-- The mean of ADJ over the last `w` ticks (R71). -/
def State.adjMean (s : State) (w : Nat) : Int :=
  let now := s.tb.count
  let lo := now - w
  if now = lo then s.adj else adjSum lo ((now, s.adj) :: s.tb.adjHistory) / ((now - lo : Nat) : Int)

/-- The source is lost (R70, R71): LOCKED goes to HOLDOVER with the rate frozen at its mean, unless host software runs
the servo, and ACQUIRING to FREERUN. -/
def State.loseSource (s : State) : State :=
  let s := s.setTb { s.tb with stepWaiting := none, within := none }
  if s.sync = locked then
    let s := if s.ob oTIME_SOURCE = 3 then s
      else s.setAdj (s.adjMean (s.ob oTIME_HOLDOVER_AVG_S * ticksPerSecond))
    s.enterSync holdover
  else if s.sync = acquiring then s.enterSync freerun
  else s

/-- Ticks in nanoseconds. -/
def ticksNs (t : Int) : Int := t * 15625 / 1920

/-- TIME.PHASE_ERR_NS for an error in ticks. -/
def State.setPhase (s : State) (e : Int) : State := s.so oTIME_PHASE_ERR_NS 0 (ofSigned 64 (ticksNs e))

/-- A servo update: the error in ticks is TIME.PHASE_ERR_NS, and how long it has been within 100 ns is watched (R70, R76). -/
def State.servoUpdate (s : State) (e : Int) : State :=
  let s := s.setPhase e
  s.setTb { s.tb with within := if (ticksNs e).natAbs ≤ 100 then some (s.tb.within.getD s.tb.count) else none }

/-- The servo meets a valid source from which the count differs by `e` ticks (R70, R73). In LOCKED it only reports the
error (DESIGN CHOICE: no rule says what takes LOCKED back to ACQUIRING). -/
def State.sourceValid (s : State) (e : Int) : State :=
  if s.ob oTIME_SOURCE = 0 ∨ s.ob oTIME_SOURCE = 3 then s
  else if s.sync = locked then s.setPhase e
  else
  let s := (s.enterSync acquiring).servoUpdate e
  if e.natAbs ≤ 122880 then s
  else if s.anyRunning then
    (if s.tb.stepWaiting.isSome then s else
      (s.setTb { s.tb with stepWaiting := some e }).raise evTimeState acquiring)
  else (s.stepCount (-e)).servoUpdate 0

/-- SYNC_SOURCE_VALID (R70, R73): `error` is the count minus the source's time, in ticks. -/
def execSyncSourceValid (error : Int) (s : State) : Host.Outcome State Fault Refusal := .next (s.sourceValid error)

/-- SYNC_SOURCE_LOST (R70, R71). -/
def execSyncSourceLost (s : State) : Host.Outcome State Fault Refusal :=
  .next (if s.ob oTIME_SOURCE = 3 then s else s.loseSource)

/-- SYNC_LOCKED (R70): the count has been within 100 ns of the source for 60 s. TIME.PHASE_ERR_NS keeps the last measurement
(DESIGN CHOICE: R73 does not say what becoming LOCKED writes there). -/
def execSyncLocked (s : State) : Host.Outcome State Fault Refusal :=
  .next (match s.tb.within with
    | some t => if s.sync = acquiring ∧ s.ob oTIME_SOURCE ≠ 3 ∧ s.tb.stepWaiting = none
        ∧ t + 60 * ticksPerSecond ≤ s.tb.count then s.enterSync locked else s
    | none => s)

/-- HOLDOVER_EXPIRED (R70). -/
def execHoldoverExpired (s : State) : Host.Outcome State Fault Refusal :=
  .next (if s.sync = holdover ∧ s.tb.stateSince + s.ob oTIME_HOLDOVER_LIMIT_S * ticksPerSecond ≤ s.tb.count then
      s.enterSync holdoverExpired else s)

/-- A write of TIME.HOST_STATE (R72). A repeated 3 gives HOLDOVER anew, from HOLDOVER_EXPIRED too (DESIGN CHOICE). -/
def State.writeHostState (s : State) (v : Nat) : State :=
  let s := (s.so oTIME_HOST_STATE 0 v).setTb { s.tb with hostStateTick := some s.tb.count }
  if s.ob oTIME_SOURCE ≠ 3 then s
  else match v with
    | 0 => s.loseSource
    | 1 => s.enterSync acquiring
    | 2 => s.enterSync locked
    | _ => s.enterSync holdover

/-- HOST_STATE_WRITE (R72). -/
def execHostStateWrite (value : Nat) (s : State) : Host.Outcome State Fault Refusal :=
  .next (if value ≤ 3 then s.writeHostState value else s)

/-- HOST_STATE_TIMEOUT (R72): 2 s without a write. -/
def execHostStateTimeout (s : State) : Host.Outcome State Fault Refusal :=
  .next (match s.tb.hostStateTick with
    | some t =>
      if s.ob oTIME_SOURCE = 3 ∧ t + 2 * ticksPerSecond ≤ s.tb.count then
        let r := (s.setTb { s.tb with hostStateTick := none }).loseSource
        if r.sync = s.sync then r.raise evTimeState r.sync else r
      else s
    | none => s)

/-- A write of TIME.SOURCE (R70, R72, R76). A change among 1, 2 and 3 leaves the synchronization state (DESIGN CHOICE);
the clockClass of LOCKED follows the source. -/
def State.writeSource (s : State) (v : Nat) : State :=
  let s := s.so oTIME_SOURCE 0 v
  let s := s.setTb { s.tb with sourceTick := s.tb.count, within := none, hostStateTick := if v = 3 then some s.tb.count else none,
                               stepWaiting := none, todBad := 0 }
  if v = 0 then s.enterSync freerun else if s.sync = locked then s.setClass locked else s

/-- DEFERRED_STEP (R73): the error as it is when the step is made. -/
def execDeferredStep (error : Int) (s : State) : Host.Outcome State Fault Refusal :=
  .next (if s.tb.stepWaiting.isSome && !s.anyRunning then
      ((s.setTb { s.tb with stepWaiting := none }).stepCount (-error)).servoUpdate 0
    else s)

/-- SYSREF_LOST (R75): the time base goes over to the lane reference, or where that is lost to the internal oscillator. -/
def execSysrefLost (s : State) : Host.Outcome State Fault Refusal :=
  .next (if s.tb.sysrefLost then s.setTb { s.tb with sysrefBack := false }
    else ((s.setTb { s.tb with sysrefLost := true, sysrefBack := false }).sf TB_STATUS_FALLBACK 0 1).raise evSysrefLost)

/-- SYSREF_RETURN (R75): the time base goes back to the system reference on the next tick. -/
def execSysrefReturn (s : State) : Host.Outcome State Fault Refusal :=
  .next (if s.tb.sysrefLost then s.setTb { s.tb with sysrefBack := true } else s)

/-- LANE_REFERENCE_LOST (R75): without the system reference, the internal oscillator takes over. -/
def execLaneReferenceLost (s : State) : Host.Outcome State Fault Refusal :=
  .next (s.setTb { s.tb with laneRefLost := true })

/-! ## PPS and time of day -/

/-- PPS_OUT_EDGE (R77): PPS_OUT takes the level of the present tick: it rises where a second begins, and stays high for
its width. -/
def execPpsOutEdge (s : State) : Host.Outcome State Fault Refusal :=
  let into := s.tb.count % ticksPerSecond
  .next (s.setPps (decide (2 ≤ s.sync) && (into == 0 || s.tb.ppsOut)
    && decide (into * 100 < s.ob oTIME_PPS_OUT_WIDTH_US * 12288)))

/-- PPS_IN_EDGE (R77): `sub` sixteenths of a tick after the present one. -/
def execPpsInEdge (sub : Nat) (s : State) : Host.Outcome State Fault Refusal :=
  .next (((s.sf TB_PPS_IN_TS_TICKS 0 s.tb.count).sf TB_PPS_IN_TS_SUB 0 sub).setTb
    { s.tb with ppsInTick := some s.tb.count, ppsInLost := false, todSeen := false })

/-- PPS_IN_LOST (R77): 1.1 s without an edge, counted from the last edge or from when the source became 2. -/
def execPpsInLost (s : State) : Host.Outcome State Fault Refusal :=
  .next (if s.ob oTIME_SOURCE = 2 ∧ s.tb.ppsInLost = false
        ∧ max (s.tb.ppsInTick.getD 0) s.tb.sourceTick + 11 * ticksPerSecond / 10 ≤ s.tb.count then
      ((s.setTb { s.tb with ppsInLost := true }).raise evPpsInLost).loseSource
    else s)

/-- A bad, late or missing time-of-day message (R78): three in a row make the source lost. -/
def State.todError (s : State) : State :=
  let n := s.tb.todBad + 1
  let s := (s.setTb { s.tb with todBad := n, todSeen := true }).raise evTodError
  if 3 ≤ n ∧ s.ob oTIME_SOURCE = 2 then s.loseSource else s

/-- A time-of-day message of 16 bytes with its CRC (R78). -/
def todMessage (seconds offset flags cls : Nat) : List Byte :=
  let b := [0x54, 0x44] ++ valBytes 6 seconds ++ valBytes 2 offset ++ valBytes 1 flags ++ valBytes 1 cls ++ [0, 0]
  b ++ valBytes 2 (crcBytes 16 0x1021 0xFFFF b)

/-- A received time-of-day message is well formed (R78). -/
def todGood (m : List Byte) : Bool :=
  decide (m.length = 16) && sliceBytes m 0 2 == [0x54, 0x44]
    && fieldAt m 14 2 == crcBytes 16 0x1021 0xFFFF (sliceBytes m 0 14)

/-- TOD_RX_MESSAGE (R78). A message that completes less than 100 ms after an edge is late for that edge (DEDUCED). -/
def execTodRxMessage (message : List Byte) (s : State) : Host.Outcome State Fault Refusal :=
  let late := match s.tb.ppsInTick with
    | some t => decide (t + 9 * ticksPerSecond / 10 < s.tb.count) || decide (s.tb.count < t + ticksPerSecond / 10)
    | none => false
  .next (if todGood message && !late then s.setTb { s.tb with todBad := 0, todSeen := true } else s.todError)

/-- TOD_MESSAGE_MISSING (R78): no message has completed by 900 ms after a PPS edge. -/
def execTodMessageMissing (s : State) : Host.Outcome State Fault Refusal :=
  .next (match s.tb.ppsInTick with
    | some t => if s.tb.todSeen = false ∧ t + 9 * ticksPerSecond / 10 ≤ s.tb.count then s.todError else s
    | none => s)

/-- TOD_TX_MESSAGE (R78): once per second, between 100 ms and 900 ms after the edge, the message of the next edge. -/
def execTodTxMessage (s : State) : Host.Outcome State Fault Refusal :=
  let sec := s.tb.count / ticksPerSecond
  let into := s.tb.count % ticksPerSecond
  .next (if s.tb.todSent ≠ some sec ∧ ticksPerSecond / 10 ≤ into ∧ into ≤ 9 * ticksPerSecond / 10 then
      let valid := if s.sync = locked ∨ s.sync = holdover then 4 else 0
      let m := todMessage (sec + 1) (s.ob oTIME_UTC_OFFSET_S) (valid + Config.leapFlags s.free % 4) (s.ob oTIME_CLOCK_CLASS)
      (s.fresh.setTb { s.tb with todSent := some sec }).send (.todTx m)
    else s)

end Sys2Proof.Machine
end

