-- ==== Sys2Proof/Machine/Selvage.lean ====
section
/-!
DEFINITION. The Selvage code (R383 to R385) and words as memory stores them (R386, R388, R396).
-/

namespace Sys2Proof.Machine

open Reg Ob

/-! ## The Selvage code -/

/-- Multiplication by α = 0x02 in GF(2^8) with polynomial x^8 + x^4 + x^3 + x^2 + 1 (R383). -/
def gfAlpha (b : Byte) : Byte := if b.getLsbD 7 then (b <<< 1) ^^^ 0x1D else b <<< 1

/-- Multiplication by α^n. -/
def gfAlphaPow : Nat → Byte → Byte
  | 0, b => b
  | n + 1, b => gfAlphaPow n (gfAlpha b)

/-- Multiplication in GF(2^8). -/
def gfMul (a b : Byte) : Byte :=
  (List.range 8).foldl (fun acc i => if b.getLsbD i then acc ^^^ gfAlphaPow i a else acc) 0

/-- The sum of symbols, each multiplied by α to its place. -/
def gfWeighted : Nat → List Byte → Byte
  | _, [] => 0
  | i, c :: r => gfAlphaPow i c ^^^ gfWeighted (i + 1) r

/-- The sum of symbols. -/
def gfSum : List Byte → Byte
  | [] => 0
  | c :: r => c ^^^ gfSum r

/-- The check symbols (c8, c9) of eight data bytes: c9 = α^222 · (D1 + α^8 · D0), c8 = D0 + c9 (R383). α^222 is 0x8A. -/
def checkSymbols (data : List Byte) : Byte × Byte :=
  let d0 := gfSum data
  let d1 := gfWeighted 0 data
  let c9 := gfMul 0x8A (d1 ^^^ gfAlphaPow 8 d0)
  (d0 ^^^ c9, c9)

/-- How the decoder classifies a word (R384). -/
inductive Decoded where
  | clean (w : Word)
  | corrected (w : Word)
  | poison
  | bad
deriving DecidableEq, Repr

/-- The word of eight data symbols. -/
def dataWord (data : List Byte) : Word := BitVec.ofNat 64 (fieldAt data 0 8)

/-- Decode ten symbols (R384). The locator j of a correctable error is the j in 0–9 with S1 = S0 · α^j. -/
def decodeSymbols (c : List Byte) : Decoded :=
  let s0 := gfSum c
  let s1 := gfWeighted 0 c
  if s0 = 0 ∧ s1 = 0 then .clean (dataWord c)
  else if s0 = 0x01 ∧ s1 = 0x74 then .poison
  else if s0 = 0 ∨ s1 = 0 then .bad
  else match (List.range 10).find? (fun j => gfAlphaPow j s0 = s1) with
    | some j => .corrected (dataWord (c.set j (c.getD j 0 ^^^ s0)))
    | none => .bad

/-- The ten symbols of a codeword carried as 80 bits, symbol i at bits 8i + 7 to 8i. -/
def codewordSymbols (w : BitVec 80) : List Byte := (List.range 10).map (fun i => w.extractLsb' (8 * i) 8)

/-- The codeword of a carried word: a valid codeword, or the poison mark (R385). -/
def codewordOf (w : Carried) : List Byte :=
  match w with
  | some v => let d := wordBytes v; let c := checkSymbols d; d ++ [c.1, c.2]
  | none => [0, 0, 0, 0, 0, 0, 0, 0, 2, 3]

/-- What a decoder that forwards hands on: the word, or the poison mark (R39). -/
def Decoded.carried : Decoded → Carried
  | .clean w => some w
  | .corrected w => some w
  | .poison => none
  | .bad => none

/-! ## Stored words -/

/-- The ten symbols stored for the word at cell address `a`, a multiple of 8. -/
def storedSymbols (m : Memory) (a : Nat) : List Byte :=
  (List.range 8).map (fun i => m.get (a + i)) ++ [m.get (checkBase + a), m.get (checkBase + a + 1)]

/-- The memory with the codeword of `w` stored at `a`. -/
def storeSymbols (m : Memory) (a : Nat) (syms : List Byte) : Memory :=
  (List.range 10).foldl
    (fun m i => m.put (if i < 8 then a + i else checkBase + a + (i - 8)) (syms.getD i 0)) m

/-- The memory with a word stored at `a` with valid check symbols, or the poison mark. -/
def Memory.storeWord (m : Memory) (a : Nat) (w : Carried) : Memory := storeSymbols m a (codewordOf w)

/-- Every word from `a` on, `n` bytes, becomes POISON, which is what an unlisted word reads as. -/
def Memory.poisonRange (m : Memory) (a n : Nat) : Memory :=
  m.filter (fun (c : Host.Cell) => !((decide (a ≤ c.1) && decide (c.1 < a + n))
    || (decide (checkBase + a ≤ c.1) && decide (c.1 < checkBase + a + n))))

/-- Zero is written to `n` words from `a` on. -/
def Memory.zeroRange (m : Memory) (a : Nat) : Nat → Memory
  | 0 => m
  | n + 1 => (m.storeWord a (some 0)).zeroRange (a + 8) n

/-- Zero is written to every word of `n` bytes from `a` on. -/
def Memory.zeroBytes (m : Memory) (a n : Nat) : Memory := m.zeroRange a (n / 8)

/-- A word is copied (R396): clean and corrected words are written back clean, any other as the poison mark. -/
def copyWord (m : Memory) (a : Nat) : Memory :=
  match decodeSymbols (storedSymbols m a) with
  | .clean w => m.storeWord a (some w)
  | .corrected w => m.storeWord a (some w)
  | _ => m.storeWord a none

/-- The addresses of the words between `a` and `a + n` of which memory lists a cell. -/
def Memory.listed (m : Memory) (a n : Nat) : List Nat :=
  (m.filterMap (fun (c : Host.Cell) =>
    let w := (if c.1 < checkBase then c.1 else c.1 - checkBase) / 8 * 8
    if a ≤ w ∧ w < a + n then some w else none)).dedup

end Sys2Proof.Machine
end

