-- ==== Sys2Proof/Machine/DramMap.lean ====
section
/-!
DEFINITION. DRAM beside its registers: the mapping of its range (R403, R406, R428), degraded ranks (R427), and the watch on the
bursts that are read.
-/

namespace Sys2Proof.Machine

open Reg Ob

/-- Channel c, and its rank r, beside their registers. -/
def State.dch (s : State) (c : Nat) : DramCh := Tab.get DramCh.idle s.dram c
def State.setDch (s : State) (c : Nat) (x : DramCh) : State := { s with dram := s.dram.set c x }
def State.drank (s : State) (c r : Nat) : DramRank := Tab.get DramRank.idle (s.dch c).ranks r
def State.setDrank (s : State) (c r : Nat) (x : DramRank) : State :=
  s.setDch c { s.dch c with ranks := (s.dch c).ranks.set r x }

/-- EV_DRAM_CH of a channel with a reason (R434). -/
def State.dramEvent (s : State) (c reason : Nat) : State := s.raiseReason (0x0980 + c) reason DRAM_CH_STATE_LAST_REASON c

/-- Ticks as ns: a tick is 15,625 / 1,920 ns. -/
def nsOf (ticks : Nat) : Nat := ticks * 15625 / 1920

/-! ## Mapping (R403, R406) -/

/-- Bytes of a rank: 32 data bits in each of two subchannels, from x4 or x8 devices of a density and a stack height. -/
def State.rankBytes (s : State) (c : Nat) : Nat :=
  (if s.bit DRAM_CH_CFG_WIDTH c then 8 else 16) * ((2 + s.rf DRAM_CH_CFG_DENSITY c) * 2 ^ 30) * 2 ^ s.rf DRAM_CH_CFG_STACK c

/-- Active ranks of a channel, the spare apart, and CAP. -/
def State.activeRanks (s : State) (c : Nat) : Nat := s.rf DRAM_CH_CFG_RANKS c - s.rf DRAM_CH_CFG_SPARE_EN c
def State.channelBytes (s : State) (c : Nat) : Nat := s.activeRanks c * s.rankBytes c

/-- The state of rank r: 0 absent, 1 active, 2 spare, 3 retired. -/
def State.rankState (s : State) (c r : Nat) : Nat := s.rf DRAM_CH_STATE_RANK_STATE c / 4 ^ r % 4
def State.setRankState (s : State) (c r v : Nat) : State :=
  let old := s.rf DRAM_CH_STATE_RANK_STATE c
  s.sf DRAM_CH_STATE_RANK_STATE c (old - s.rankState c r * 4 ^ r + v * 4 ^ r)

/-- The channel, and the channel-local offset q, of an offset of the DRAM range. -/
def State.dramLocal (s : State) (o : Nat) : Nat × Nat :=
  let up := bitsSet 8 (s.rf DRAM_STATUS_CH_UP)
  let n := max 1 up.length
  (up.getD (o / 256 % n) 0, o / 256 / n * 256 + o % 256)

/-- The physical rank that serves a rank-local place: the spare, the highest rank, where the rank is retired (R407, R430), or
where its region has moved (R428). -/
def State.physRank (s : State) (c r off : Nat) : Nat :=
  let moved := s.rf DRAM_MIG_STATE_FROM c == r && (s.rf DRAM_MIG_STATE_STATE c == 1 || s.rf DRAM_MIG_STATE_STATE c == 3)
    && decide (off / 2 ^ 20 < s.rf DRAM_MIG_STATE_REGION c)
  if s.rankState c r = 3 then s.rf DRAM_CH_CFG_RANKS c - 1 else if moved then s.rf DRAM_MIG_STATE_TO c else r

/-- Where an offset of the DRAM range lies. -/
structure DramPlace where
  channel : Nat
  sub : Nat
  rank : Nat
  lrank : Nat
  bg : Nat
  bank : Nat
  row : Nat
  column : Nat

/-- The place of an offset of the DRAM range (R406). -/
def State.dramPlace (s : State) (o : Nat) : DramPlace :=
  let (c, q) := s.dramLocal o
  let rb := s.rankBytes c
  let off := q % rb
  let f := Config.dramField
  ⟨c, q / 64 % 2, s.physRank c (q / rb) off, f 0 off % 4, f 1 off % 8, f 2 off % 4, f 3 off % 2 ^ 18, f 4 off % 2 ^ 11⟩

/-- A bank of a channel, and a row of it, in one number. -/
def DramPlace.bankKey (p : DramPlace) : Nat := (((p.sub * 4 + p.rank) * 4 + p.lrank) * 8 + p.bg) * 4 + p.bank
def DramPlace.rowKey (p : DramPlace) : Nat := p.bankKey * 2 ^ 18 + p.row

/-! ## Degraded ranks (R427) -/

/-- The spare of a channel that is unused. -/
def State.spareRank (s : State) (c : Nat) : Option Nat := (List.range 4).find? (fun r => s.rankState c r == 2)

/-- Rank r of channel c becomes DEGRADED. -/
def State.degradeRank (s : State) (c r : Nat) (cause : Nat := 5) : State :=
  if natBit (s.rf DRAM_CH_STATE_DEGRADED c) r || s.rankState c r == 0 || s.rankState c r == 3 then s
  else
    let s := s.sf DRAM_CH_STATE_DEGRADED c (s.rf DRAM_CH_STATE_DEGRADED c ||| 2 ^ r)
    let s := s.so oDRAM_RETIRED 0 (s.ob oDRAM_RETIRED ||| 2 ^ (4 * c + r))
    let s := s.recordRetirement 8 cause (4 * c + r) 0 false 0xFFFF
    let spare := (s.spareRank c).filter (fun t => t != r && !natBit (s.rf DRAM_CH_STATE_DEGRADED c) t)
    match spare with
    | some t =>
      if s.rf DRAM_MIG_STATE_STATE c = 1 then s.dramEvent c 0x09
      else
        let s := ((s.sf DRAM_MIG_STATE_STATE c 1).sf DRAM_MIG_STATE_FROM c r).sf DRAM_MIG_STATE_TO c t
        (s.sf DRAM_MIG_STATE_REGION c 0).dramEvent c 0x07
    | none => s.dramEvent c 0x09

/-- The symbol that a stored word's decoder corrects. -/
def faultSymbol (c : List Byte) : Option Nat :=
  match decodeSymbols c with
  | .corrected _ => (List.range 10).find? (fun j => gfAlphaPow j (gfSum c) = gfWeighted 0 c)
  | _ => none

/-- A burst has been read (R427), once for what a tick reads of it: x4 counts a whole-chip correction where one chip was corrected in 4 of its codewords, x8
a burst with an uncorrectable word; the limit within the window degrades the rank. -/
def State.burstRead (s : State) (before : Memory) (a : Nat) : State :=
  let b := a / 64 * 64
  let p := s.dramPlace (b - dramBase)
  let c := p.channel
  let words := (List.range 8).map (fun i => storedSymbols before (b + 8 * i))
  let x := s.drank c p.rank
  if x.seen = some (b, s.tb.count) then s else
  let x := { x with seen := some (b, s.tb.count) }
  let s := s.setDrank c p.rank x
  let since := fun t => decide (s.tb.count < t + s.ob oDRAM_CHIP_WINDOW_S * ticksPerSecond)
  if s.bit DRAM_CH_CFG_WIDTH c then
    if words.any (fun w => decodeSymbols w == .bad) then
      let l := ((b, s.tb.count) :: x.bursts.filter (fun e => e.1 != b)).filter (fun e => since e.2)
      let s := s.setDrank c p.rank { x with bursts := l }
      if 8 ≤ l.length then s.degradeRank c p.rank else s
    else s
  else
    let faults := words.filterMap faultSymbol
    if (List.range 10).any (fun k => decide (4 ≤ (faults.filter (fun j => j == k)).length)) then
      let l := (s.tb.count :: x.chips).filter since
      let s := (s.setDrank c p.rank { x with chips := l }).incf DRAM_WHOLECHIP_COUNT c
      if s.ob oDRAM_CHIP_CE_LIMIT ≤ l.length then s.degradeRank c p.rank else s
    else s

end Sys2Proof.Machine
end

