-- ==== Sys2Proof/Machine/Memory.lean ====
section
/-!
DEFINITION. Memory protection: the places an address reaches (R27, R2, R157, R557), reads and writes of stored words with their accounting (R388 to R391, R402), the Darning log (R394 to R396), and the
partition windows (R397).
-/

namespace Sys2Proof.Machine

open Reg Ob

/-! ## Places -/

/-- What an access to a device address reaches. -/
inductive Place where
  /-- a stored word, at a cell address, in the memory named by MEMID -/
  | cell (a memid : Nat)
  /-- the memory of a unit that is absent, retired or off: reads zero, ignores writes (R2, R157, R557) -/
  | zero
  /-- a control register address -/
  | control (a : Nat)
  /-- a Quilt patch and an offset in it -/
  | quilt (n off : Nat)
  /-- host memory -/
  | host (off : Nat)
  /-- the window of another die of the bolt -/
  | peer (n off : Nat)
  /-- nothing: a decode error (R31) -/
  | nothing
deriving DecidableEq, Repr

/-- Panel p's memories answer: the panel is present, not retired and its island is not OFF. -/
def State.panelUp (s : State) (p : Nat) : Bool :=
  decide (p < s.die.variant.panels) && !s.bit PNL_STATE_RETIRED p && s.rf PM_ISLAND_STATE_STATE p != 4

/-- The place of an engine memory: the physical site that serves the logical site (R157), zero where it is absent or
retired, and for site 16 while it serves another site. `code` selects instruction memory. -/
def State.enginePlace (s : State) (g off : Nat) (code : Bool) : Place :=
  let p := g / 17
  let phys := s.physical g
  if !s.panelUp p || (g % 17 == 16 && s.spareBusy p) || natBit (s.rf PNL_STATE_SITES_RETIRED p) (phys % 17) then .zero
  else if code then .cell (engineCodeBase phys + off) (0x1000 + phys)
  else .cell (engineDataBase phys + off) phys

/-- The DRAM channel that holds an offset of the DRAM range: channels interleave every 256 bytes in the order of R406
over the channels in service. -/
def State.dramChannelOf (s : State) (off : Nat) : Nat :=
  let up := bitsSet 8 (s.rf DRAM_STATUS_CH_UP)
  up.getD (if up.length = 0 then 0 else off / 256 % up.length) 0

/-- The place that a device address of this die reaches, bolt windows apart. -/
def State.placeLocal (s : State) (a : Nat) : Place :=
  match regionOf a with
  | .control => .control a
  | .panel p off => if s.panelUp p then .cell a (0x2000 + p * 16 + off / 0x20000) else .zero
  | .engineData g off => s.enginePlace g off false
  | .engineCode g off => s.enginePlace g off true
  | .quilt n off =>
    if !s.usable (0xA00 + n) then .zero
    else if off < 0x300000 then .cell a (0x7000 + n)
    else if (0x800000 ≤ off ∧ off < 0x900000) ∨ 0xF00000 ≤ off then .quilt n off
    else .nothing
  | .dram off => if off < s.rf DRAM_CAPACITY_BYTES then .cell a (0x6000 + s.dramChannelOf off) else .nothing
  | .host off => .host off
  | .peer n off => .peer n off
  | .nothing => .nothing

/-- The place an address reaches. The window of the die's own bolt number reaches its own addresses (R28). -/
def State.place (s : State) (a : Nat) : Place :=
  match s.placeLocal a with
  | .peer n off => if n = s.ob oBOLT_SELF then s.placeLocal off else .peer n off
  | p => p

/-- The address that an access to the window of the die's own bolt number reaches (R28). -/
def State.ownAddress (s : State) (a : Nat) : Nat :=
  match regionOf a with
  | .peer n off => if n = s.ob oBOLT_SELF then off else a
  | _ => a

/-! ## Islands that an access reaches -/

/-- The island of a memory by its MEMID (R13, R396). -/
def memIsland (memid : Nat) : Nat :=
  let i := memid % 0x1000
  match memid / 0x1000 with
  | 0 => i / 17
  | 1 => i / 17
  | 2 => i / 16
  | 3 => islandOf i
  | 4 => islandOf i
  | 5 => islandOf 0x940
  | 6 => 75
  | _ => 78

/-- What stops an access of unit u to a place (R14, R553, R560): the island that must wake, and the bank that must open. -/
def State.stopsAt (s : State) (u : Nat) (p : Place) : Option (Nat × Option Nat) :=
  let island := fun i => if i ≠ islandOf u ∧ s.islandStops i = true then some (i, none) else none
  match p with
  | .cell _ m =>
    (island (memIsland m)).or (if (s.isl (memIsland m)).closed.contains m then some (memIsland m, some m) else none)
  | .quilt _ _ => island 78
  | .host _ => island 76
  | .peer _ _ => island 73
  | _ => none

/-- What stops an access of unit u to `n` bytes from a device address. -/
def State.accessStops (s : State) (u a n : Nat) : Option (Nat × Option Nat) :=
  (s.stopsAt u (s.place a)).or (s.stopsAt u (s.place (a + n - 1)))

/-- The stall of an access begins. -/
def State.stallOn (s : State) (x : Nat × Option Nat) : State := s.stallAt x.1 x.2

/-! ## The Darning log -/

/-- Entries a Darning log holds (R396). -/
def darnSize (memid : Nat) : Nat := if memid / 0x1000 = 6 then 256 else 16

/-- The SRAM instance within a memory, and the row of 64 words, of a cell address or of a word's byte offset (R396).
Engine data memory has three instances of 32 KiB, a Quilt patch 96 block memories; every other memory named by a MEMID
has one. -/
def sramRow (memid a : Nat) : Nat × Nat :=
  match memid / 0x1000 with
  | 0 => ((a % 0x40000) / 0x8000, (a % 0x8000) / 512)
  | 1 => (0, (a % 0x8000) / 512)
  | 2 => (0, (a % 0x20000) / 512)
  | 7 => (a % 0x1000000 / 0x8000, (a % 0x8000) / 512)
  | _ => (0, a / 512)

/-- Spare rows already used in an SRAM instance. -/
def State.sparesUsed (s : State) (memid sram : Nat) : Nat :=
  (s.protect.remaps.filter (fun r => r.1 == memid * 128 + sram)).length

/-- The state with the Darning log of a memory replaced. -/
def State.setLog (s : State) (memid : Nat) (l : List Darn) : State :=
  { s with protect := { s.protect with logs := s.protect.logs.set memid l } }

/-- The Darning log of a memory. -/
def State.log (s : State) (memid : Nat) : List Darn := Tab.get [] s.protect.logs memid

/-- Of COUNTING entries, the one with the lowest count, the oldest among equal counts (R394). -/
def darnVictim : List Darn → Option Darn
  | [] => none
  | d :: r =>
    match darnVictim r with
    | none => if d.state = .counting then some d else none
    | some v => if d.state = .counting ∧ d.count ≤ v.count then some d else some v

/-- A permanent fault (R396): in SRAM with a spare left, the row's copy to the next spare begins; with four used,
EV_DARN_EXHAUSTED; in DRAM the word is handed to the DRAM controller. -/
def State.permanentFault (s : State) (memid a : Nat) : State :=
  let r := sramRow memid a
  let entry := (memid, r.1, r.2, a)
  if s.protect.copying.contains entry then s
  else if memid / 0x1000 = 6 then { s with protect := { s.protect with copying := s.protect.copying ++ [entry] } }
  else if 4 ≤ s.sparesUsed memid r.1 then s.raise evDarnExhausted memid
  else { s with protect := { s.protect with copying := s.protect.copying ++ [entry],
                                            remaps := s.protect.remaps ++ [(memid * 128 + r.1, r.2)] } }

/-- A corrected read in the Darning log (R394, R395): the word is counted; at count 4 the answer says that it is to be
written back; a correction within 2^20 ticks of the write-back declares a permanent fault. -/
def State.darnNote (s : State) (memid a : Nat) : Bool × State :=
  let l := (s.log memid).filter (fun d => !(d.state == .watch && decide (d.tick + 2 ^ 20 < s.tb.count)))
  match l.find? (fun d => d.word == a) with
  | some d =>
    match d.state with
    | .watch => (false, (s.setLog memid l).permanentFault memid a)
    | .counting =>
      if d.count + 1 < 4 then
        (false, s.setLog memid (l.map (fun e => if e.word == a then { e with count := e.count + 1 } else e)))
      else
        (true, (s.setLog memid (l.map (fun e => if e.word == a then ⟨a, 4, .watch, s.tb.count⟩ else e))).incf
          MP_DARN_WB_COUNT)
  | none =>
    if l.length < darnSize memid then (false, s.setLog memid (l ++ [⟨a, 1, .counting, s.tb.count⟩]))
    else match darnVictim l with
      | some v => (false, s.setLog memid (l.filter (fun e => e.word != v.word) ++ [⟨a, 1, .counting, s.tb.count⟩]))
      | none => (false, ((s.setLog memid l).incf MP_DARN_OVERFLOW_COUNT).raise evDarnOverflow memid)

/-- A corrected read of a stored word: the corrected word is written back at count 4. -/
def State.darnRead (s : State) (memid a : Nat) (w : Word) : State :=
  let r := s.darnNote memid a
  if r.1 then { r.2 with mem := r.2.mem.storeWord a (some w) } else r.2

/-- A write by a unit to a word frees its entry (R394). -/
def State.darnWrite (s : State) (memid a : Nat) : State :=
  let l := s.log memid
  if l.any (fun d => d.word == a) then s.setLog memid (l.filter (fun d => d.word != a)) else s

/-! ## Reads and writes of stored words -/

/-- Count one correction in stored words, and raise EV_MEM_CE_RATE when the count of the aligned second reaches
MEM.CE_THRESHOLD (R402). -/
def State.countCorrection (s : State) : State :=
  let sec := s.tb.count / ticksPerSecond
  let n := if sec = s.protect.ceSecond then s.protect.ceCount + 1 else 1
  let s := { s.incf MP_CE_COUNT_COUNT with protect := { s.protect with ceSecond := sec, ceCount := n } }
  if n = s.ob oMEM_CE_THRESHOLD then s.raise evMemCeRate else s

/-- Account for an uncorrectable read that is not POISON (R391): kind 0 a consumer, 1 a forwarder, 2 a scrubber. -/
def State.countUncorrectable (s : State) (memid a unit kind : Nat) : State :=
  let s := s.incf MP_UE_COUNT_COUNT
  let s := (s.sf MP_UE_LOG_MEMID 0 memid).sf MP_UE_LOG_ADDRESS 0 a
  let s := (s.sf MP_UE_SRC_UNIT 0 unit).sf MP_UE_SRC_KIND 0 kind
  s.raise evMemUncorr memid

/-- The watch on DRAM ranks sees the read of a word that memory held so (R427). -/
def State.watchBurst (s : State) (before : Memory) (memid a : Nat) : State :=
  if memid / 0x1000 = 6 then s.burstRead before a else s

/-- Read the stored word at cell address `a` for unit `unit`: what the reader is given, none where the word is POISON or
uncorrectable, and the state with the read accounted for. -/
def State.readCell (s : State) (a memid unit kind : Nat) : Carried × State :=
  let r : Carried × State := match decodeSymbols (storedSymbols s.mem a) with
    | .clean w => (some w, s)
    | .corrected w => (some w, s.countCorrection.darnRead memid a w)
    | .poison => (none, s.incf MP_POISON_READS_COUNT)
    | .bad => (none, s.countUncorrectable memid a unit kind)
  (r.1, r.2.watchBurst s.mem memid a)

/-- Write a whole word at cell address `a` (R390, R394). -/
def State.writeCell (s : State) (a memid : Nat) (w : Carried) : State :=
  { s.darnWrite memid a with mem := s.mem.storeWord a w }

/-- Write some bytes of the word at cell address `a`: a read-modify-write of the whole word, which stores the poison
mark where the word reads POISON or uncorrectable (R390). Answers whether it did. -/
def State.mergeCell (s : State) (a memid unit : Nat) (new : List (Option Byte)) : Bool × State :=
  match s.readCell a memid unit 1 with
  | (some w, s) =>
    let old := wordBytes w
    let d := (List.range 8).map (fun i => (new.getD i none).getD (old.getD i 0))
    (false, s.writeCell a memid (some (dataWord d)))
  | (none, s) => (true, (s.writeCell a memid none).incf MP_PARTIAL_POISON_COUNT)

/-! ## Accesses by address -/

/-- The word addresses that the bytes `a` to `a + n − 1` touch. -/
def wordsOf (a n : Nat) : List Nat :=
  if n = 0 then [] else (List.range ((a % 8 + n + 7) / 8)).map (fun i => a / 8 * 8 + 8 * i)

/-- A read of a peer's word goes out and is remembered until its answer, or its limit, comes (R373). -/
def State.peerRead (s : State) (n unit off : Nat) : State :=
  let s := s.post n (.read unit off)
  s.setSeam { s.seam with reads := s.seam.reads ++ [⟨n, unit, off, s.tb.count⟩] }

/-- Read the word at a device address by a local path: stored memory through its accounting, zero where the unit is
absent or off, a free value from host memory and from a peer. `kind` is that of MP_UE_SRC. -/
def State.readWordAt (s : State) (a unit kind : Nat) : Carried × State :=
  match s.place a with
  | .cell c m => s.readCell c m unit kind
  | .zero => (some 0, s)
  | .host off => (Config.hostWord s.free off, (s.fresh).hostRequest (.read unit off 8))
  | .peer n off => (Config.peerWord s.free n off, (s.fresh).peerRead n unit off)
  | .quilt n off =>
    if off < 0xF00000 ∧ s.patchRuns n = true then (some (Config.quiltWord s.free n off), s.fresh) else (some 0, s)
  | .control _ => (some 0, s)
  | .nothing => (some 0, s)

/-- Read `n` words from a device address, a multiple of 8. -/
def State.readWords (s : State) (a : Nat) (unit kind : Nat) : Nat → List Carried × State
  | 0 => ([], s)
  | n + 1 =>
    let r := s.readWordAt a unit kind
    let t := r.2.readWords (a + 8) unit kind n
    (r.1 :: t.1, t.2)

/-- Read up to `n` words from a device address, a multiple of 8; a consumer stops at the first that is POISON or
uncorrectable (R391). -/
def State.readUntilBad (s : State) (a : Nat) (unit : Nat) : Nat → List Carried × State
  | 0 => ([], s)
  | n + 1 =>
    let r := s.readWordAt a unit 0
    if r.1.isNone then ([none], r.2) else
    let t := r.2.readUntilBad (a + 8) unit n
    (r.1 :: t.1, t.2)

/-- Read `n` bytes from a device address: the bytes, none where a word they touch is POISON or uncorrectable. -/
def State.readBytes (s : State) (a n unit kind : Nat) : Option (List Byte) × State :=
  let ws := wordsOf a n
  let r := if kind = 0 then s.readUntilBad (a / 8 * 8) unit ws.length else s.readWords (a / 8 * 8) unit kind ws.length
  if r.1.all Option.isSome then (some (sliceBytes (carriedBytes r.1) (a % 8) n), r.2) else (none, r.2)

/-- A write to a patch's window outside its block memories (R461): a whole word of the aperture is a stream word, and any
other write there is none; the logic of a running patch takes writes to its user registers. -/
def State.quiltWrite (s : State) (n off : Nat) (bytes : Option (List (Option Byte))) : State :=
  match bytes with
  | some l =>
    if 0xF00000 ≤ off then
      s.streamWord n (if l.all Option.isSome then some (dataWord (l.map (fun b => b.getD 0))) else none)
    else if s.patchRuns n then s.send (.quiltWrite n off (l.filterMap id)) else s
  | none =>
    if 0xF00000 ≤ off then s.streamWord n none
    else if s.patchRuns n then s.send (.quiltWrite n off (wordBytes 0)) else s

/-- Write a carried word at a device address. -/
def State.writeWordAt (s : State) (a unit : Nat) (w : Carried) : State :=
  match s.place a with
  | .cell c m => s.writeCell c m w
  | .host off => s.hostRequest (.write unit none off (wordBytes (w.getD 0)) w.isNone)
  | .peer n off => s.post n (.writeWord unit off w)
  | .quilt n off => s.quiltWrite n off (w.map (fun v => (wordBytes v).map some))
  | .zero => s
  | .control _ => s
  | .nothing => s

/-- Write carried words from a device address, a multiple of 8. -/
def State.writeWords (s : State) (a unit : Nat) : List Carried → State
  | [] => s
  | w :: r => (s.writeWordAt a unit w).writeWords (a + 8) unit r

/-- Write some bytes of one word at a device address; answers whether the word became POISON (R390). -/
def State.mergeWordAt (s : State) (a unit : Nat) (new : List (Option Byte)) : Bool × State :=
  match s.place a with
  | .cell c m =>
    if new.all Option.isSome then (false, s.writeCell c m (some (dataWord (new.map (fun b => b.getD 0)))))
    else s.mergeCell c m unit new
  | .host off => (false, s.hostRequest (.write unit none off (new.filterMap id) false))
  | .peer n off => (false, s.post n (.writeBytes unit off new))
  | .quilt n off => (false, s.quiltWrite n off (some new))
  | _ => (false, s)

/-- The bytes of a run that fall into the word at `wa`, for a run of bytes at `a`. -/
def runInWord (a : Nat) (data : List Byte) (wa : Nat) : List (Option Byte) :=
  (List.range 8).map (fun i => if a ≤ wa + i ∧ wa + i < a + data.length then data[wa + i - a]? else none)

/-- Write the words of a run of bytes; answers whether any became POISON. -/
def State.writeRun (s : State) (a unit : Nat) (data : List Byte) : List Nat → Bool × State
  | [] => (false, s)
  | wa :: r =>
    let h := s.mergeWordAt wa unit (runInWord a data wa)
    let t := h.2.writeRun a unit data r
    (h.1 || t.1, t.2)

/-- Write bytes at a device address; answers whether a word became POISON (R390). -/
def State.writeBytes (s : State) (a unit : Nat) (data : List Byte) : Bool × State :=
  s.writeRun a unit data (wordsOf a data.length)

/-! ## Upsets -/

/-- An upset hits the word stored at cell address `a`: its symbols are changed by the error. -/
def State.upsetCell (s : State) (a : Nat) (e : BitVec 80) : State :=
  if e = 0 then s else
  { s with mem := storeSymbols s.mem a ((List.range 10).map (fun i =>
    (storedSymbols s.mem a).getD i 0 ^^^ (codewordSymbols e).getD i 0)) }

/-- Upsets hit the words from address `a` on. -/
def State.upsetWords (s : State) (a : Nat) : List (BitVec 80) → State
  | [] => s
  | e :: r =>
    (match s.place a with
      | .cell c _ => s.upsetCell c e
      | _ => s).upsetWords (a + 8) r

/-! ## Partition windows -/

/-- A window grants an access: it names no empty range, grants the kind of access, and the access lies wholly in it. -/
def windowGrants (base last : Nat) (rd w : Bool) (a n : Nat) (write : Bool) : Bool :=
  decide (base ≤ last) && (if write then w else rd)
    && decide (base * 4096 ≤ a) && decide (a + n ≤ (last + 1) * 4096)

/-- Window w of partition p grants the access (R398). -/
def State.partWindow (s : State) (p w a n : Nat) (write : Bool) : Bool :=
  let i := p * 16 + w
  windowGrants (s.rf MP_WIN_BASE_BASE i) (s.rf MP_WIN_LIMIT_LAST i) (s.bit MP_WIN_BASE_RD i) (s.bit MP_WIN_BASE_W i)
    a n write

/-- The access lies in the memories of the partition's own panels and engine sites (R397). -/
def State.ownMemory (s : State) (p a n : Nat) : Bool :=
  let own := fun q => natBit (s.ob oPART_PANEL_MASK p) q
  match regionOf a, regionOf (a + n - 1) with
  | .panel q _, .panel r _ => q == r && own q
  | .engineData g _, .engineData h _ => g == h && own (g / 17)
  | .engineCode g _, .engineCode h _ => g == h && own (g / 17)
  | _, _ => false

/-- The access does not lie in host memory, or the partition has a host function to make it for (R495). -/
def State.hostGranted (s : State) (p a : Nat) : Bool :=
  match regionOf a with
  | .host _ => s.ob oPART_HOST_FUNCTION p != 0xFF
  | _ => true

/-- One window of a die grants an access to its addresses. -/
def seamWindowGrants (w : SeamWindow) (a n : Nat) (write : Bool) : Bool := windowGrants w.base w.last w.rd w.wr a n write

/-- A die's rights grant an access. -/
def rightsGrant (r : SeamRights) (a n : Nat) (write : Bool) : Bool := r.windows.any (fun w => seamWindowGrants w a n write)

/-- A die's rights reach a queue. -/
def rightsQueue (r : SeamRights) (q : Nat) : Bool :=
  r.queueEn && decide (r.queueBase ≤ q) && decide (q ≤ r.queueLast)

/-- What die n allows this die. -/
def State.outboundOf (s : State) (n : Nat) : SeamRights := Tab.get SeamRights.none s.seam.outbound n

/-- The access does not lie in a peer's window, or the outbound copy of that peer's windows grants it (R373). -/
def State.peerGranted (s : State) (a n : Nat) (write : Bool) : Bool :=
  match regionOf a with
  | .peer d off => d == s.ob oBOLT_SELF || rightsGrant (s.outboundOf d) off n write
  | _ => true

/-- The address lies in an engine's instruction memory, by its own range or through the window of the die's own number. -/
def State.inCode (s : State) (a : Nat) : Bool :=
  match regionOf a with
  | .engineCode _ _ => true
  | .peer d off => d == s.ob oBOLT_SELF && (match regionOf off with
    | .engineCode _ _ => true
    | _ => false)
  | _ => false

/-- ENG_SIGNED denies a write to instruction memory by any source but Thimble firmware (R607). -/
def State.codeLocked (s : State) (a n : Nat) (write : Bool) : Bool :=
  write && s.bit SEC_POLICY_ENG_SIGNED && (s.inCode a || s.inCode (a + n - 1))

/-- The partition may make the access (R397). A job that runs here for a bolt peer (8 + n) reaches only that peer. -/
def State.mayAccess (s : State) (p a n : Nat) (write : Bool) : Bool :=
  if s.codeLocked a n write then false
  else if p < 8 then
    (s.ownMemory p a n || (List.range 16).any (fun w => s.partWindow p w a n write)) && s.hostGranted p a
      && s.peerGranted a n write
  else (match regionOf a with
    | .peer _ _ => true
    | _ => false) && s.peerGranted a n write

/-- Account for a denial (R397): counted and logged, and EV_MP_DENIED at most once per 1 ms. -/
def State.countDenial (s : State) (p unit a : Nat) (write : Bool) : State :=
  let s := s.incf MP_DENIED_COUNT
  let s := ((s.sf MP_DENY_LOG_PARTITION 0 p).sf MP_DENY_LOG_WRITE 0 write.toNat).sf MP_DENY_LOG_UNIT 0 unit
  let s := s.sf MP_DENY_LOG_ADDRESS 0 a
  let due := match s.protect.deniedTick with
    | none => true
    | some t => decide (t + 122880 ≤ s.tb.count)
  if due then { s.raise evMpDenied unit with protect := { s.protect with deniedTick := some s.tb.count } } else s

end Sys2Proof.Machine
end

