-- ==== Sys2Proof/Machine/Weft.lean ====
section
/-!
DEFINITION. The Weft: producer ports and their credits (R47, R48, R50), flits and stitches (R38 to R42, R54, R579), the
queue manager's landing, popping and granting (R46, R48), enabling and disabling a queue (R60, R61), and the reset of a
partition's queues (R56).
-/

namespace Sys2Proof.Machine

open Reg Ob

/-! ## Ports -/

/-- Where a port's standing is kept. -/
def portKey (q u : Nat) : Nat := q * 4096 + u

/-- The standing of unit u's port at queue q. -/
def State.port (s : State) (q u : Nat) : Port := Tab.get Port.idle s.weft.ports (portKey q u)

/-- The state with the standing of unit u's port at queue q replaced. -/
def State.setPort (s : State) (q u : Nat) (p : Port) : State :=
  { s with weft := { s.weft with ports := s.weft.ports.set (portKey q u) p } }

/-- The units that have a standing at queue q. -/
def State.portsOf (s : State) (q : Nat) : List Nat :=
  (s.weft.ports.filter (fun p => p.1 / 4096 == q)).map (fun p => p.1 % 4096)

/-- The current epoch of a unit ID (R54). -/
def State.epoch (s : State) (u : Nat) : Nat := s.rf QM_EPOCH_EPOCH u

/-- The ring size of queue q. -/
def State.depth (s : State) (q : Nat) : Nat := 2 ^ s.rf QM_QCFG_DEPTH_LOG2 q

/-- The grant size of queue q. -/
def State.grantSize (s : State) (q : Nat) : Nat := 2 ^ s.rf QM_QCFG_GRANT_LOG2 q

/-- QM_QSTAT.OCCUPANCY: (TAIL − HEAD) mod 2^16 (R59). -/
def State.occupancy (s : State) (q : Nat) : Nat :=
  (s.rf QM_QPTR_TAIL q + 65536 - s.rf QM_QPTR_HEAD q) % 65536

/-- The storage address of queue q. -/
def State.queueBase (s : State) (q : Nat) : Nat := s.rf QM_QBASE_BASE q * 64

/-- The storage address of the entry of queue q at a push or pop count. -/
def State.slotAddr (s : State) (q count : Nat) : Nat := s.queueBase q + count % s.depth q * 64

/-- Queue q is enabled and is not being disabled. -/
def State.queueOpen (s : State) (q : Nat) : Bool := s.bit QM_QCFG_ENABLE q && !s.bit QM_QSTAT_DISABLING q

/-- The word of an entry's tag (R45): class and deadline, and the epoch that the producer's port stamps. -/
def tagWord (epoch cls deadline : Nat) : Word :=
  BitVec.ofNat 64 (epoch % 256 * 2 ^ 56 + cls % 8 * 2 ^ 48 + deadline % 2 ^ 48)

/-- The entry as the port sends it: its EPOCH field stamped, whatever the producer supplied (R45). -/
def stampEpoch (epoch : Nat) (entry : List Carried) : List Carried :=
  (List.range 8).map (fun i =>
    let w := entry.getD i (some 0)
    if i = 7 then w.map (fun v => BitVec.ofNat 64 (v.toNat % 2 ^ 56 + epoch % 256 * 2 ^ 56)) else w)

/-- The deadline and class of an entry's tag; those of a poisoned tag are read from its zero data symbols. Flits without an
entry (drain marks, credit requests and grants) have no tag in the spec: the model gives them deadline 0 and class 0
(DESIGN CHOICE). -/
def entryTag (entry : List Carried) : Nat × Nat :=
  let t := ((entry.getD 7 none).getD 0).toNat
  (t % 2 ^ 48, t / 2 ^ 48 % 8)

/-- Put a flit on its way. -/
def State.addFlit (s : State) (f : Flit) : State := { s with weft := { s.weft with flits := s.weft.flits ++ [f] } }

/-- The flit of an entry as unit u's port sends it, under the epoch that the unit had when it pushed it. -/
def entryFlit (q u epoch : Nat) (entry : List Carried) : Flit := ⟨.entry, q, u, epoch, none, false, stampEpoch epoch entry⟩

/-- A port that holds half a grant or less asks for more, unless its request is outstanding (R48). It asks at a push, so a port
that has never pushed has not asked (DESIGN CHOICE). -/
def State.askCredits (s : State) (q u : Nat) : State :=
  let p := s.port q u
  if !p.requested && decide (p.credits ≤ s.grantSize q / 2) then
    (s.setPort q u { p with requested := true }).addFlit ⟨.request, q, u, s.epoch u, none, false, []⟩
  else s

/-- Unit u pushes one whole entry to queue q (R46, R47): it spends a credit, or stalls at its own side of the first
stitch. -/
def State.pushEntry (s : State) (q u : Nat) (entry : List Carried) : State :=
  let p := s.port q u
  if p.stalled.isEmpty && decide (0 < p.credits) then
    let s := s.setPort q u { p with credits := p.credits - 1 }
    (s.addFlit (entryFlit q u (s.epoch u) entry)).askCredits q u
  else
    let since := if p.stalled.isEmpty then s.tb.count else p.since
    (s.setPort q u { p with stalled := p.stalled ++ [(s.epoch u, entry)], since := since }).askCredits q u

/-- Push one entry made of bytes 0–55 and a tag. -/
def State.pushBytes (s : State) (q u : Nat) (payload : List Byte) (cls deadline : Nat) : State :=
  let words := (bytesWords (sliceBytes payload 0 56)).map some
  s.pushEntry q u (words ++ [some (tagWord 0 cls deadline)])

/-- The PUSH of engine u to queue q that waits at its port retires once its entry has left (R143), and only then writes its
base register (R128, R137); an entry for its job's output queue counts among those the job has pushed (R109). -/
def State.releaseEngine (s : State) (q u : Nat) : State :=
  let e := s.eng u
  match e.wait with
  | .credit k base v =>
    if 0x440 ≤ u ∨ k ≠ q then s else
    let s := s.setEng u { e.setReg (BitVec.ofNat 5 base) v with
      wait := .none, pc := (e.pc + 4) % 2 ^ 15, pushed := true, resumed := false }
    match e.job with
    | some id => { s with sh := { s.sh with jobs := s.sh.jobs.map (fun j =>
        if j.id = id ∧ j.outQueue = q then { j with pushed := j.pushed + 1 } else j) } }
    | none => s
  | _ => s

/-- A port that holds credits sends what has stalled, oldest first (R47, R50). -/
def State.releaseStalled (s : State) (q u : Nat) : Nat → State
  | 0 => s
  | n + 1 =>
    let p := s.port q u
    match p.stalled with
    | [] => s
    | e :: rest =>
      if p.credits = 0 then s else
      let s := s.maxf QM_QSTALL_MAX_TICKS q (s.tb.count - p.since)
      let s := s.setPort q u { p with credits := p.credits - 1, stalled := rest, since := s.tb.count, raised := false }
      let s := if (s.portsOf q).any (fun v => (s.port q v).raised) then s else s.sf QM_QSTAT_STALLED q 0
      let s := (s.addFlit (entryFlit q u e.1 e.2)).releaseEngine q u
      (s.askCredits q u).releaseStalled q u n

/-! ## Grants -/

/-- The queue manager grants min(GRANT, AVAIL) credits to one waiting request (R48). -/
def State.grantOne (s : State) (q u : Nat) : State :=
  let n := min (s.grantSize q) (s.rf QM_QCREDIT_AVAIL q)
  let s := (s.sf QM_QCREDIT_AVAIL q (s.rf QM_QCREDIT_AVAIL q - n)).sf QM_QCREDIT_HELD q (s.rf QM_QCREDIT_HELD q + n)
  let s := s.setPort q u { s.port q u with granted := true }
  let s := s.addFlit ⟨.grant n, q, u, s.epoch unitQueueManager, none, false, []⟩
  { s with weft := { s.weft with waiting := s.weft.waiting.erase (q, u) } }

/-- Requests for queue q are served in arrival order while AVAIL is above zero (R48). -/
def State.serveRequests (s : State) (q : Nat) : Nat → State
  | 0 => s
  | n + 1 =>
    match s.weft.waiting.find? (fun r => r.1 == q) with
    | none => s
    | some r =>
      if s.queueOpen q && decide (0 < s.rf QM_QCREDIT_AVAIL q) then (s.grantOne q r.2).serveRequests q n else s

/-- Serve every waiting request of queue q. -/
def State.serve (s : State) (q : Nat) : State := s.serveRequests q s.weft.waiting.length

/-! ## Aliases (R374) -/

/-- The peer and the queue there that a queue ID names under an alias in effect. -/
def State.aliasOf (s : State) (q : Nat) : Option (Nat × Nat) :=
  ((List.range 16).find? (fun a =>
    let x := Tab.get SeamAlias.off s.seam.aliases a
    x.en && decide (x.localBase ≤ q) && decide (q ≤ x.localLast))).map (fun a =>
      let x := Tab.get SeamAlias.off s.seam.aliases a
      (x.peer, x.remoteBase + (q - x.localBase)))

/-- The local ID under which a peer's queue is known here. -/
def State.aliasFor (s : State) (n q : Nat) : Option Nat :=
  ((List.range 16).find? (fun a =>
    let x := Tab.get SeamAlias.off s.seam.aliases a
    x.en && x.peer == n && decide (x.remoteBase ≤ q) && decide (q ≤ x.remoteBase + (x.localLast - x.localBase)))).map
      (fun a =>
        let x := Tab.get SeamAlias.off s.seam.aliases a
        x.localBase + (q - x.remoteBase))

/-- A queue ID may be used: it names a local queue, or one in the range that the peer allows. -/
def State.queueReach (s : State) (q : Nat) : Bool :=
  match s.aliasOf q with
  | some (n, r) => rightsQueue (s.outboundOf n) r
  | none => true

/-- Credits for queue q arrive at unit u's port; stalled pushes go (R47, R48). -/
def State.creditsArrive (s : State) (q u n : Nat) : State :=
  let p := s.port q u
  let s := s.setPort q u { p with credits := p.credits + n, requested := false }
  (s.releaseStalled q u p.stalled.length).askCredits q u

/-! ## Landing and popping -/

/-- Read the eight words of an entry from its slot (R46). -/
def State.readSlot (s : State) (a : Nat) : List Carried × State := s.readWords a unitQueueManager 1 8

/-- A flit is one that its producer sends, rather than a grant to it. -/
def Flit.outward (f : Flit) : Bool :=
  match f.kind with
  | .grant _ => false
  | _ => true

/-- A queue entry or a drain mark, which stay in the order in which they were sent (R52, R61). -/
def Flit.ordered (f : Flit) : Bool := f.kind == FlitKind.entry || f.kind == FlitKind.drain

/-- The first entry or drain mark on its way from unit u to queue q. -/
def State.firstFlit (s : State) (q u : Nat) : Option Flit :=
  s.weft.flits.find? (fun f => f.queue == q && f.producer == u && f.ordered)

/-- The state without the first flit equal to `f`. -/
def State.dropFlit (s : State) (f : Flit) : State := { s with weft := { s.weft with flits := s.weft.flits.erase f } }

/-- An entry lands (R46): it is stored at the tail, TAIL counts, its credit leaves HELD, and a poisoned word sets
QM_QSTAT.POISONED. -/
def State.landEntry (s : State) (q : Nat) (payload : List Carried) : State :=
  let tail := s.rf QM_QPTR_TAIL q
  let s := s.writeWords (s.slotAddr q tail) unitQueueManager payload
  let s := (s.sf QM_QPTR_TAIL q (tail + 1)).sf QM_QCREDIT_HELD q (s.rf QM_QCREDIT_HELD q - 1)
  if payload.any Option.isNone then s.sf QM_QSTAT_POISONED q 1 else s

/-- The queue manager's access to a slot stalls where the storage's island or bank is stopped (R553). -/
def State.stallSlot (s : State) (q count : Nat) : State :=
  match s.accessStops unitQueueManager (s.slotAddr q count) 64 with
  | some x => s.stallOn x
  | none => s

/-- What a pop answers; none of it where the storage's island or bank stops the read of the entry (R553). -/
inductive Popped where
  | entry (words : List Carried)
  | empty
  | denied
  | stalled
deriving DecidableEq, Repr

/-- Unit u pops queue q (R46): the entry at HEAD, an empty indication, or a denied one. The credit returned to AVAIL is
granted at once to the oldest waiting request (R48). -/
def State.popQueue (s : State) (q u : Nat) : Popped × State :=
  if s.rf QM_QCFG_CONSUMER q ≠ u then (.denied, s)
  else if s.islandStops weftIsland && islandOf u != weftIsland then (.stalled, s.stallAt weftIsland)
  else if s.occupancy q = 0 then (.empty, s)
  else if (s.accessStops unitQueueManager (s.slotAddr q (s.rf QM_QPTR_HEAD q)) 64).isSome then
    (.stalled, s.stallSlot q (s.rf QM_QPTR_HEAD q))
  else
    let head := s.rf QM_QPTR_HEAD q
    let r := s.readSlot (s.slotAddr q head)
    let t := (r.2.sf QM_QPTR_HEAD q (head + 1)).sf QM_QCREDIT_AVAIL q (s.rf QM_QCREDIT_AVAIL q + 1)
    (.entry r.1, t.serve q)

/-! ## Stitches -/

/-- Account for an uncorrectable word met in flight by a forwarder (R391): MP_UE_LOG names no stored word, so what it
records is open. -/
def State.flightUncorrectable (s : State) (unit : Nat) : State :=
  let s := s.incf MP_UE_COUNT_COUNT
  let s := (s.sf MP_UE_LOG_MEMID 0 (Config.flightLog s.free)).sf MP_UE_LOG_ADDRESS 0 (Config.flightLog (s.free + 1))
  let s := { s with free := s.free + 2 }
  ((s.sf MP_UE_SRC_UNIT 0 unit).sf MP_UE_SRC_KIND 0 1).raise evMemUncorr

/-- A word crosses with the error `e` added to its codeword (R39): corrections are counted, an uncorrectable word goes
on as the poison mark, and a poison mark unchanged. -/
def State.crossWord (s : State) (unit : Nat) (w : Carried) (e : BitVec 80) : Carried × State :=
  let syms := (List.range 10).map (fun i => (codewordOf w).getD i 0 ^^^ (codewordSymbols e).getD i 0)
  let d := decodeSymbols syms
  match d with
  | .clean _ => (d.carried, s)
  | .corrected _ => (d.carried, s.incf MP_CE_FLIGHT_COUNT)
  | .poison => (none, s.incf MP_POISON_READS_COUNT)
  | .bad => (none, s.flightUncorrectable unit)

/-- The words of a flit cross. -/
def State.crossWords (s : State) (unit : Nat) : List Carried → List (BitVec 80) → List Carried × State
  | [], _ => ([], s)
  | w :: ws, es =>
    let r := s.crossWord unit w (es.headD 0)
    let t := r.2.crossWords unit ws es.tail
    (r.1 :: t.1, t.2)

/-- A copy of the route codeword with the error `e` is usable: clean or correctable (R40). -/
def routeUsable (e : BitVec 80) : Bool :=
  match decodeSymbols (codewordSymbols e) with
  | .clean _ => true
  | .corrected _ => true
  | _ => false

/-- A copy of the route codeword is decoded, and its correction counted (R39). -/
def State.routeCopy (s : State) (e : BitVec 80) : State :=
  match decodeSymbols (codewordSymbols e) with
  | .corrected _ => s.incf MP_CE_FLIGHT_COUNT
  | _ => s

/-- Where a flit stands at an arbitration point: its deadline and class, and its unit (R42). -/
structure Bid where
  deadline : Nat
  cls : Nat
  unit : Nat
deriving DecidableEq, Repr

/-- How far behind the unit last served a unit comes in round-robin order. -/
def turn (last u : Nat) : Nat := (u + 4095 - last % 4096) % 4096

/-- A bid wins over another (R42): by signed slack, then by class, then by its turn. -/
def Bid.before (now last : Nat) (a b : Bid) : Bool :=
  let x := slack a.deadline now
  let y := slack b.deadline now
  decide (x < y) || (x == y && (decide (a.cls < b.cls) || (a.cls == b.cls && decide (turn last a.unit < turn last b.unit))))

/-- The winner of what competes: the first that no other wins over. -/
def arbitrate {α : Type} (bid : α → Bid) (now last : Nat) : List α → Option α
  | [] => none
  | f :: r =>
    match arbitrate bid now last r with
    | none => some f
    | some g => if (bid g).before now last (bid f) then some g else some f

/-! ### Virtual channels and link credits (R41) -/

/-- The virtual channel of a queue flit: QUEUE 0 carries entries, drain marks and grants; a port's request goes with the
requests on REQ 1 (DEDUCED). -/
def Flit.vc (f : Flit) : Nat :=
  match f.kind with
  | .request => 1
  | _ => 0

/-- The virtual channel of any other flit: REQ 1 or RSP 2. -/
def looseVc : LooseBody → Nat
  | .response _ => 2
  | _ => 1

/-- The island at which a flit stands. -/
def Flit.at_ (f : Flit) : Nat :=
  match f.buffer with
  | some b => b % 256
  | none => if f.outward then islandOf f.producer else weftIsland

/-- The island that a flit goes to. -/
def Flit.goal (f : Flit) : Nat := if f.outward then weftIsland else islandOf f.producer

/-- The flits that a virtual channel's buffer at the receiving side of a stitch holds. -/
def State.buffered (s : State) (pair vc : Nat) : Nat :=
  (s.weft.flits.filter (fun f => f.buffer == some pair && f.vc == vc)).length

/-- A virtual channel holds link credit at a stitch: its own buffer there has a place left (R41). How many places a buffer
has is open; it has one at least. -/
def State.linkCredit (s : State) (pair vc : Nat) : Bool := decide (s.buffered pair vc < 1 + Config.linkPlaces pair vc)

/-- The queue flits that compete at the stitch from one island to another (R42): those that stand at the sender, go to the
receiver, hold link credit, and follow no other of their port for their queue. -/
def State.competing (s : State) (sender receiver : Nat) : List Flit :=
  let here := s.weft.flits.filter (fun f => f.at_ == sender && f.goal == receiver && sender != receiver)
  let first := here.filter (fun f => !f.ordered || here.find? (fun g => g.queue == f.queue && g.producer == f.producer && g.ordered) == some f)
  first.filter (fun f => s.linkCredit (sender * 256 + receiver) f.vc)

/-- A flit carries a stale epoch at its first stitch (R54): counted, reported, and for a retired unit recorded once
after each boot (R579). -/
def State.fenceFlit (s : State) (u : Nat) (queue : Option Nat) : State :=
  let s := match queue with
    | some q => (s.incf QM_QFENCED_COUNT q).sf QM_QSTAT_FENCED q 1
    | none => s
  let s := (s.incf QM_FENCED_TOTAL_COUNT).raise evEpochFenced u
  let gone := s.retired u || (decide (u < 0x440) && s.siteRetired (u / 17) (u % 17))
  if gone && !s.weft.retiredSpoke.contains u then
    let s := { s with weft := { s.weft with retiredSpoke := s.weft.retiredSpoke ++ [u] } }
    (s.addRecent (unitClass u) 0x11 u (s.epoch u) 0 (if u < 0x440 then u else 0xFFFF)).raise evRetiredSpeaks u
  else s

/-- A queue entry that the stitch fences spends no credit (R54): its port has it back; while the queue is being disabled
the port has returned its credits, and this one follows them to AVAIL (R61). A credit that a partition reset has revoked is
gone. -/
def State.refundCredit (s : State) (f : Flit) : State :=
  let q := f.queue
  if f.dropped then s
  else if s.bit QM_QSTAT_DISABLING q then
    (s.sf QM_QCREDIT_AVAIL q (s.rf QM_QCREDIT_AVAIL q + 1)).sf QM_QCREDIT_HELD q (s.rf QM_QCREDIT_HELD q - 1)
  else
    let p := s.port q f.producer
    (s.setPort q f.producer { p with credits := p.credits + 1 }).releaseStalled q f.producer p.stalled.length

/-- The unit under whose identity a flit travels. -/
def Flit.sender (f : Flit) : Nat := if f.outward then f.producer else unitQueueManager

/-- One queue flit crosses a stitch, `pair` (R38 to R40, R54). -/
def State.crossFlit (s : State) (f : Flit) (pair : Nat) (routeA routeB : BitVec 80) (errors : List (BitVec 80)) :
    State :=
  let s := { s with weft := { s.weft with served := s.weft.served.set pair f.sender } }
  let s := (s.routeCopy routeA).routeCopy routeB
  if !routeUsable routeA && !routeUsable routeB then
    ((s.dropFlit f).incf QM_ROUTE_LOST_COUNT).raise evRouteLost pair
  else if !f.crossed && f.epoch != s.epoch f.sender then
    let s := (s.dropFlit f).fenceFlit f.sender (if f.kind = FlitKind.entry then some f.queue else none)
    if f.kind = FlitKind.entry then s.refundCredit f else s
  else
    let r := ((s.noteFlit (pair / 256)).noteFlit (pair % 256)).crossWords f.sender f.payload errors
    { r.2 with weft := { r.2.weft with flits := r.2.weft.flits.replace f { f with buffer := some pair, payload := r.1 } } }

/-! ## Enabling and disabling a queue -/

/-- A run of `n` bytes from `a` lies in the populated memory of one present panel, or in the DRAM that the die has. -/
def State.storageAddress (s : State) (a n : Nat) : Bool :=
  match regionOf a, regionOf (a + n - 1) with
  | .panel p _, .panel r _ => p == r && decide (p < s.die.variant.panels)
  | .dram _, .dram last => decide (last < s.rf DRAM_CAPACITY_BYTES)
  | _, _ => false

/-- What QM_QCFG holds that only an enable check may change. -/
structure QueueShape where
  depthLog : Nat
  grantLog : Nat
  consumer : Nat
deriving DecidableEq, Repr

/-- The shape that queue q has. -/
def State.queueShape (s : State) (q : Nat) : QueueShape :=
  ⟨s.rf QM_QCFG_DEPTH_LOG2 q, s.rf QM_QCFG_GRANT_LOG2 q, s.rf QM_QCFG_CONSUMER q⟩

/-- The checks of R61 before a queue is enabled. Its storage must be both readable and writable in the owner's windows
(DESIGN CHOICE: R61 says only that it lies within them). -/
def State.queueValid (s : State) (q : Nat) (c : QueueShape) : Bool :=
  match s.queueOwner q with
  | none => false
  | some p =>
    let n := 64 * 2 ^ c.depthLog
    decide (1 ≤ c.depthLog) && decide (c.depthLog ≤ 15) && decide (c.grantLog ≤ 8) && decide (c.grantLog ≤ c.depthLog)
      && s.storageAddress (s.queueBase q) n && s.mayAccess p (s.queueBase q) n true
      && s.mayAccess p (s.queueBase q) n false && s.usable c.consumer

/-- Requester u may write the context of queue q (R60). -/
def State.mayWriteQueue (s : State) (u q : Nat) : Bool :=
  isThimble u || s.isOwnerHost u (s.queueOwner q)

/-- A flit is a grant for unit u's port at queue q. -/
def Flit.grantTo (f : Flit) (q u : Nat) : Bool := f.queue == q && f.producer == u && !f.outward

/-- The credits that a flit brings. -/
def Flit.credits (f : Flit) : Nat :=
  match f.kind with
  | .grant n => n
  | _ => 0

/-- A port gives back what it holds and what is on its way to it (R61): its credits return to AVAIL. -/
def State.returnCredits (s : State) (q u : Nat) : State :=
  let p := s.port q u
  let coming := ((s.weft.flits.filter (fun f => f.grantTo q u)).map Flit.credits).sum
  let n := p.credits + coming
  let s := s.setPort q u { p with credits := 0, requested := if 0 < coming then false else p.requested }
  let s := { s with weft := { s.weft with flits := s.weft.flits.filter (fun f => !f.grantTo q u) } }
  let s := (s.sf QM_QCREDIT_AVAIL q (s.rf QM_QCREDIT_AVAIL q + n)).sf QM_QCREDIT_HELD q (s.rf QM_QCREDIT_HELD q - n)
  if p.stalled.isEmpty then s else s.askCredits q u

/-- A port sends its drain mark behind the last entry it pushed (R61). -/
def State.sendDrain (s : State) (q u : Nat) : State :=
  let s := s.addFlit ⟨.drain, q, u, s.epoch u, none, false, []⟩
  { s with weft := { s.weft with drains := s.weft.drains.filter (fun d => !(d.1 == q && d.2.1 == u)) ++ [(q, u, s.tb.count)] } }

/-- Once every drain mark has arrived the queue is off: HELD, ENABLE and DISABLING read 0 (R61). -/
def State.endDisable (s : State) (q : Nat) : State :=
  if s.bit QM_QSTAT_DISABLING q && !s.weft.drains.any (fun d => d.1 == q) then
    ((s.sf QM_QCREDIT_HELD q 0).sf QM_QCFG_ENABLE q 0).sf QM_QSTAT_DISABLING q 0
  else s

/-- Begin to disable queue q (R61): no more grants, and a revocation to every port that has been granted credits. -/
def State.beginDisable (s : State) (q : Nat) : State :=
  let s := s.sf QM_QSTAT_DISABLING q 1
  let s := ((s.portsOf q).filter (fun u => (s.port q u).granted)).foldl
    (fun s u => (s.returnCredits q u).sendDrain q u) s
  s.endDisable q

/-- Set the configuration of a queue that is off. -/
def State.setShape (s : State) (q : Nat) (c : QueueShape) : State :=
  ((s.sf QM_QCFG_DEPTH_LOG2 q c.depthLog).sf QM_QCFG_GRANT_LOG2 q c.grantLog).sf QM_QCFG_CONSUMER q c.consumer

/-- A queue's pointers and credits at the start (R61, R56). -/
def State.clearQueue (s : State) (q : Nat) : State :=
  (((s.sf QM_QPTR_HEAD q 0).sf QM_QPTR_TAIL q 0).sf QM_QCREDIT_AVAIL q (s.depth q)).sf QM_QCREDIT_HELD q 0

/-- Enable queue q with the configuration just written, or raise EV_QUEUE_CONFIG (R61). -/
def State.enableQueue (s : State) (q : Nat) : State :=
  if s.queueValid q (s.queueShape q) then
    let s := (s.portsOf q).foldl (fun s u => s.setPort q u { s.port q u with granted := false }) s
    ((s.clearQueue q).sf QM_QCFG_ENABLE q 1).serve q
  else s.raise evQueueConfig q

/-- A write of QM_QCFG by requester u (R60, R61). -/
def State.writeQcfg (s : State) (u q : Nat) (enable : Bool) (c : QueueShape) : State :=
  if !s.mayWriteQueue u q then s
  else if s.bit QM_QCFG_ENABLE q then
    if c = s.queueShape q then
      (if !enable && !s.bit QM_QSTAT_DISABLING q then s.beginDisable q else s)
    else s.raise evQueueConfig q
  else
    let s := s.setShape q c
    if enable then s.enableQueue q else s

/-- Partition reset of queue q (R56): unspent credits are revoked, entries in flight are marked to be discarded when
they land, pointers and credits start again, and the configuration and ENABLE stay. -/
def State.resetQueue (s : State) (q : Nat) : State :=
  let s := (s.portsOf q).foldl (fun s u => s.returnCredits q u) s
  let s := { s with weft := { s.weft with
    flits := s.weft.flits.map (fun (f : Flit) => if f.queue == q && f.kind == FlitKind.entry then { f with dropped := true } else f) } }
  (s.clearQueue q).serve q

/-- Partition reset of every queue that partition p owns (R56). -/
def State.resetQueues (s : State) (p : Nat) : State :=
  let b := s.ob oPART_QUEUE_BASE p
  (List.range (s.ob oPART_QUEUE_COUNT p)).foldl (fun s i => s.resetQueue (b + i)) s

/-- A queue is disabled at once, its entries lost, because its storage is lost (R577). -/
def State.dropQueue (s : State) (q : Nat) : State :=
  if s.bit QM_QCFG_ENABLE q then ((s.beginDisable q).raise evQueueConfig q) else s

end Sys2Proof.Machine
end

