-- ==== Sys2Proof/Machine/Shuttle.lean ====
section
/-!
DEFINITION. The Shuttle's operations: the job descriptor (R91 to R93), readiness and the input order (R94 to R96), cost and
laxity (R97, R98), the choice of job and unit (R99 to R103), late policies (R104 to R106), the end of a job with its void
entries and its record (R107 to R111), cancellation (R112) and forecasts (R113).
-/

namespace Sys2Proof.Machine

open Reg Ob

/-! ## Kinds of unit (R93) -/

/-- What a job type runs on. -/
inductive UnitKind where
  | nop
  | engine
  | lead
  | acc (t : AccType)
  | hem
  | patch
deriving DecidableEq, Repr

/-- The job types that some chapter defines, with what they run on (R93, R222, R256, R296, R298, R465). -/
def kindOf (typ : Nat) : Option UnitKind :=
  match typ with
  | 0x00 => some .nop
  | 0x01 => some .engine
  | 0x02 => some .lead
  | 0x10 => some (.acc .ldpcDec)
  | 0x20 => some (.acc .ldpcEnc)
  | 0x28 => some (.acc .turbo)
  | 0x30 => some (.acc .polar)
  | 0x31 => some (.acc .polar)
  | 0x32 => some (.acc .polar)
  | 0x33 => some (.acc .polar)
  | 0x38 => some (.acc .fft)
  | 0x39 => some (.acc .fft)
  | 0x40 => some (.acc .matrix)
  | 0x41 => some (.acc .matrix)
  | 0x42 => some (.acc .matrix)
  | 0x43 => some (.acc .matrix)
  | 0x44 => some (.acc .matrix)
  | 0x48 => some (.acc .matrix)
  | 0x49 => some (.acc .matrix)
  | 0x60 => some (.acc .bit)
  | 0x61 => some (.acc .bit)
  | 0x62 => some (.acc .bit)
  | 0x63 => some (.acc .bit)
  | 0x64 => some (.acc .bit)
  | 0x65 => some (.acc .bit)
  | 0x66 => some (.acc .bit)
  | 0x70 => some (.acc .bit)
  | 0x71 => some (.acc .bit)
  | 0x80 => some .hem
  | 0x81 => some .hem
  | 0x88 => some .patch
  | _ => none

/-- The accelerator type of a job. -/
def Job.accType (j : Job) : Option AccType :=
  match kindOf j.typ with
  | some (.acc t) => some t
  | _ => none

/-- The instances of a type, present or not, by unit ID. -/
def accUnits (t : AccType) : List Nat :=
  (List.range 8).flatMap (fun i => (List.range t.perIsland).map (fun k => accUnit i (t.firstIndex + k)))

/-- The units of a job type's kind that partition p may use, whether present or not (R92). Site 16 serves no jobs of
its own while it serves another site. -/
def State.unitsFor (s : State) (p typ : Nat) : List Nat :=
  let panels := bitsSet 64 (s.ob oPART_PANEL_MASK p)
  match kindOf typ with
  | some .engine => panels.flatMap (fun n =>
      (List.range (if s.spareBusy n then 16 else 17)).map (fun k => engineNumber n k))
  | some .lead => panels.map (fun n => engineNumber n 0)
  | some (.acc t) => accUnits t
  | some .hem => ((List.range 4).filter (fun h => s.hemOwner h == some p)).map (fun h => 0x740 + h)
  | some .patch => (bitsSet 8 (s.ob oPART_PATCH_MASK p)).map (fun n => 0xA00 + n)
  | _ => []

/-- The variant has a unit of a job type's kind. -/
def State.kindPresent (s : State) (typ : Nat) : Bool :=
  match kindOf typ with
  | some (.acc t) => (accUnits t).any s.present
  | some .hem => decide (0 < s.die.variant.hems)
  | some .patch => decide (0 < s.die.variant.patches)
  | _ => true

/-- The FFT instances reserved for the Hem chain of island i: the last HEM.FFT_RESERVE instances in service, while a
partition owns the chain (R286, R287). -/
def State.reservedFfts (s : State) (i : Nat) : List Nat :=
  if i < 4 ∧ (s.hemOwner i).isSome = true then
    let up := ((List.range 8).map (fun k => accUnit i (21 + k))).filter s.usable
    up.drop (up.length - s.ob oHEM_FFT_RESERVE i)
  else []

/-- FFT instance u is one of those. -/
def State.fftReserved (s : State) (u : Nat) : Bool := (s.reservedFfts ((u - 0x600) / 39)).contains u

/-! ## Jobs -/

/-- The present tick of the Shuttle's island (R64). -/
def State.shTick (s : State) : Nat := s.replica weftIsland

/-- The signed distance to a job's deadline (R42). -/
def State.jobSlack (s : State) (j : Job) : Int := slack j.deadline (s.shTick % 2 ^ 48)

/-- The job of a number. -/
def State.job (s : State) (id : Nat) : Option Job := s.sh.jobs.find? (fun j => j.id == id)

/-- The state with the Shuttle replaced. -/
def State.setSh (s : State) (h : Shuttle) : State := { s with sh := h }

/-- The state with a job replaced by `f` of it. -/
def State.modJob (s : State) (id : Nat) (f : Job → Job) : State :=
  s.setSh { s.sh with jobs := s.sh.jobs.map (fun j => if j.id = id then f j else j) }

/-- A job that runs on unit u of this die. -/
def State.runningOn (s : State) (u : Nat) : Option Job :=
  s.sh.jobs.find? (fun j => j.phase == .running && j.peer == none && j.unit == u)

/-- A job has been staged or accepted and not yet been dispatched. -/
def Job.pending (j : Job) : Bool := j.phase == .staged || j.phase == .waiting || (j.phase == .ready && j.attempts == 0)

/-- The number of pending jobs of partition p (R87). -/
def State.pendingCount (s : State) (p : Nat) : Nat := (s.sh.jobs.filter (fun j => j.part == p && j.pending)).length

/-- The number of dispatched jobs of partition p not yet completed (R118). -/
def State.runningCount (s : State) (p : Nat) : Nat :=
  (s.sh.jobs.filter (fun j => j.part == p && (j.phase == .running || (j.phase == .ready && j.attempts != 0)))).length

/-- The Shuttle event of kind k of partition p; kinds 2 and 3 at most once per 61,440 ticks (R123). -/
def State.shEvent (s : State) (p k : Nat) : State :=
  let e := 0x0550 + p * 8 + k
  if k = 2 ∨ k = 3 then
    match Tab.get none (s.sh.eventTicks.map (fun (x : Nat × Nat) => (x.1, some x.2))) (p * 8 + k) with
    | some t =>
      if s.tb.count < t + 61440 then s
      else (s.setSh { s.sh with eventTicks := s.sh.eventTicks.set (p * 8 + k) s.tb.count }).raise e
    | none => (s.setSh { s.sh with eventTicks := s.sh.eventTicks.set (p * 8 + k) s.tb.count }).raise e
  else s.raise e

/-- The grace n of a job (R104). -/
def State.grace (s : State) (j : Job) : Nat := if j.graceField = 0 then s.ob oSHUTTLE_GRACE_TICKS else j.graceField

/-- The policy ends the job before it completes, at distance x of its deadline (R104). -/
def State.dropDue (s : State) (j : Job) (x : Int) : Bool :=
  match j.policy with
  | 0 => decide (x < 0)
  | 2 => decide (x < -(s.grace j : Int))
  | _ => false

/-- The code with which DONE or DONE_RETRIED completes (R104); every other code stands (R10). -/
def State.lateCode (s : State) (j : Job) (code : Nat) (x : Int) : Nat :=
  if code ≠ codeDone ∧ code ≠ codeDoneRetried then code
  else if 0 ≤ x then code
  else match j.policy with
    | 0 => codeDroppedLate
    | 1 => codeDoneLate
    | _ => if x < -(s.grace j : Int) then codeDroppedLate else codeDoneLate

/-- The codes of clean output (R9). -/
def codeClean (c : Nat) : Bool := c == codeDone || c == codeDoneRetried || c == codeDoneLate

/-! ## Void entries -/

/-- The marker of a void entry (R108). -/
def voidMark : Nat := 0x44494F56

/-- A void entry of a job, without its tag word (R108). -/
def voidBytes (j : Job) (code : Nat) : List Byte :=
  valBytes 4 voidMark ++ valBytes 4 code ++ valBytes 4 j.jobId ++ valBytes 4 j.part ++ valBytes 40 0

/-- The code an entry carries if it is void (R108). A code that R8 reserves, which no device pushes, is passed on as it
stands (DESIGN CHOICE: R109 gives the job the code of the void entry). -/
def voidCode (entry : List Carried) : Option Nat :=
  match entry.getD 0 none with
  | some w => if w.toNat % 2 ^ 32 = voidMark then some (w.toNat / 2 ^ 32 % 256) else none
  | none => none

/-- Push n void entries of a job. -/
def State.pushVoids (s : State) (j : Job) (code : Nat) : Nat → State
  | 0 => s
  | n + 1 => (s.pushBytes j.outQueue unitShuttle (voidBytes j code) j.cls j.deadline).pushVoids j code n

/-- Queue q is in the range of partition p. -/
def State.inRange (s : State) (p q : Nat) : Bool :=
  decide (s.ob oPART_QUEUE_BASE p ≤ q) && decide (q < s.ob oPART_QUEUE_BASE p + s.ob oPART_QUEUE_COUNT p)

/-! ## The input order (R95) -/

/-- The job takes its inputs from an enabled queue of the partition that the Shuttle consumes (R92). -/
def State.inputOk (s : State) (j : Job) : Bool :=
  decide (0 < j.inCount) && decide (j.inCount ≤ 64) && s.bit QM_QCFG_ENABLE j.inQueue && s.inRange j.part j.inQueue
    && s.rf QM_QCFG_CONSUMER j.inQueue == unitShuttle

/-- Give a job its place in the input order. -/
def State.addTurn (s : State) (j : Job) (discard : Bool) : State :=
  if s.inputOk j then s.setSh { s.sh with turns := s.sh.turns ++ [⟨j.inQueue, j.id, j.inCount, discard⟩] } else s

/-- The entries that the turns of queue q up to that of job `id` need. -/
def turnsNeed (q id : Nat) : List Turn → Nat
  | [] => 0
  | t :: r => if t.queue = q then (if t.job = id then t.count else t.count + turnsNeed q id r) else turnsNeed q id r

/-- A job's entries are present for it: after those of every earlier job of its input queue (R94, R95). -/
def State.presentFor (s : State) (j : Job) : Bool :=
  j.inCount == 0 || j.taken || (s.sh.turns.any (fun t => t.job == j.id)
    && decide (turnsNeed j.inQueue j.id s.sh.turns ≤ s.occupancy j.inQueue))

/-- A job is the next to take entries from its input queue. -/
def State.atHead (s : State) (j : Job) : Bool :=
  j.inCount == 0 || j.taken ||
    (match s.sh.turns.find? (fun t => t.queue == j.inQueue) with
     | some t => t.job == j.id
     | none => false)

/-- What stops the queue manager's reads of the next n entries of queue q (R553). -/
def State.slotsStop (s : State) (q n : Nat) : Option (Nat × Option Nat) :=
  (List.range n).findSome? (fun i => s.accessStops unitQueueManager (s.slotAddr q (s.rf QM_QPTR_HEAD q + i)) 64)

/-- Pop n entries of queue q for the Shuttle. -/
def State.popN (s : State) (q : Nat) : Nat → List (List Carried) × State
  | 0 => ([], s)
  | n + 1 =>
    match s.popQueue q unitShuttle with
    | (.entry e, t) => let r := t.popN q n; (e :: r.1, r.2)
    | (_, t) => ([], t)

/-- Remove a job's turn. -/
def State.dropTurn (s : State) (id : Nat) : State :=
  s.setSh { s.sh with turns := s.sh.turns.filter (fun t => t.job != id) }

/-- A job takes its input entries; a copy stays with it until it completes (R95). -/
def State.takeInputs (s : State) (j : Job) : State :=
  if j.taken || j.inCount == 0 then s else
  let r := (s.dropTurn j.id).popN j.inQueue j.inCount
  r.2.modJob j.id (fun j => { j with inputs := r.1, taken := true })

/-- The entry at place i of queue q, looked at in its storage. -/
def State.peek (s : State) (q i : Nat) : List Carried := (s.readSlot (s.slotAddr q (s.rf QM_QPTR_HEAD q + i))).1

/-- The code of the first void entry among a job's inputs (R109). -/
def State.inputVoid (s : State) (j : Job) : Option Nat :=
  if j.taken then j.inputs.findSome? voidCode
  else (List.range j.inCount).findSome? (fun i => voidCode (s.peek j.inQueue i))

/-! ## Cost (R97, R98) -/

/-- The index of a cost table entry. -/
def costIx (p typ : Nat) : Nat := p * 256 + typ

/-- A job's estimated duration (R97). -/
def State.estimateOf (s : State) (j : Job) : Nat :=
  let i := costIx j.part j.typ
  min (2 ^ 47 - 1) (s.rf SH_COST_BASE i + s.rf SH_COST_PER_UNIT i * j.size / 256)

/-- Every accepted job whose conditions hold becomes ready; its ready tick and estimate are fixed (R94, R97). -/
def State.markReady (s : State) : State :=
  let tick := s.shTick
  s.setSh { s.sh with jobs := s.sh.jobs.map (fun j =>
    if j.phase == .waiting && (j.released || !j.trigEn) && s.presentFor j then
      { j with phase := .ready, readyTick := tick, wasReady := true, estimate := s.estimateOf j }
    else j) }

/-! ## The end of a job -/

/-- A job ends with a code (R104, R109): its missing output entries are made up with void entries, a clean code with too
few entries becomes PARTIAL, its place in the input order becomes one whose entries are discarded, and its completion
record waits to be pushed. -/
def State.endJob (s : State) (id code : Nat) (endTick : Nat) (upstream : Bool) : State :=
  match s.job id with
  | none => s
  | some j =>
    if j.phase = .ended then s else
    let x := slack j.deadline (endTick % 2 ^ 48)
    let late := decide (x < 0)
    let missing := j.outCount - j.pushed
    let code := if 0 < missing ∧ codeClean code = true then codePartial else code
    let ran := decide (0 < j.attempts)
    let s := s.modJob id (fun j => { j with
      phase := .ended, code := code, endTick := endTick, endSeq := s.sh.ends, late := late, upstream := upstream,
      lateTicks := if late then min ((-x).toNat) (2 ^ 32 - 1) else 0 })
    let s := s.setSh { s.sh with ends := s.sh.ends + 1 }
    let s := if s.inRange j.part j.outQueue then s.pushVoids j code missing else s
    let s :=
      if j.taken || j.inCount == 0 then s
      else if s.sh.turns.any (fun t => t.job == id) then
        s.setSh { s.sh with turns := s.sh.turns.map (fun t => if t.job = id then { t with discard := true } else t) }
      else s.addTurn j true
    let s := if code = codeDoneLate ∨ code = codeDroppedLate then (s.incf SH_LATE_COUNT_COUNT j.part).shEvent j.part 2
      else s
    if ran && j.peer.isNone then
      let spent := endTick - j.dispatchTick
      let i := costIx j.part j.typ
      let s := s.maxf SH_COST_OBS_MAX_TICKS i spent
      if j.estimate < spent then (s.incf SH_COST_OBS_OVERRUNS i).shEvent j.part 3 else s
    else s

/-- Work through the input order (R95, R109): entries of ended jobs are popped and discarded when their turn has come and
they are present, and a ready job whose inputs include a void entry ends with its code. -/
def State.settleWith (s : State) : Nat → State
  | 0 => s
  | n + 1 =>
    let heads := s.sh.turns.filter (fun t => (s.sh.turns.find? (fun u => u.queue == t.queue)) == some t)
    match heads.find? (fun t => t.discard && decide (t.count ≤ s.occupancy t.queue) && (s.slotsStop t.queue t.count).isNone) with
    | some t => ((s.dropTurn t.job).popN t.queue t.count).2.settleWith n
    | none =>
      match s.sh.jobs.find? (fun j => j.phase == .ready && j.attempts == 0 && decide (0 < j.inCount) && s.atHead j
          && s.presentFor j && (j.taken || (s.slotsStop j.inQueue j.inCount).isNone) && (s.inputVoid j).isSome) with
      | some j =>
        let code := (s.inputVoid j).getD codePartial
        let s := s.takeInputs j
        (s.endJob j.id code s.shTick true).settleWith n
      | none => s

/-- Readiness and the input order brought up to date. -/
def State.settle (s : State) : State :=
  let s := s.markReady
  (s.settleWith (s.sh.turns.length + s.sh.jobs.length)).markReady

/-! ## Reports (R106, R107) -/

/-- A unit reports the end of a job. -/
def State.reportJob (s : State) (id : Nat) (r : JobReport) : State :=
  let s := s.modJob id (fun j => { j with report := some r })
  if s.sh.reports.contains id then s else s.setSh { s.sh with reports := s.sh.reports ++ [id] }

/-- A job pushes one output entry from its unit with its own tag (R45); one that runs for a bolt peer sends it there
(R115). -/
def State.jobPush (s : State) (id : Nat) (payload : List Carried) : State :=
  match s.job id with
  | none => s
  | some j =>
    let w := sliceBytesC payload
    if 8 ≤ j.part then
      match s.sh.reservations.find? (fun r => r.started && r.unit == j.unit) with
      | some r => s.post r.peer (.offerOutput r.offer w)
      | none => s
    else
    (s.modJob id (fun j => { j with pushed := j.pushed + 1 })).pushEntry j.outQueue j.unit
      (w ++ [some (tagWord 0 j.cls j.deadline)])
where
  /-- the seven payload words -/
  sliceBytesC (l : List Carried) : List Carried := (List.range 7).map (fun i => l.getD i (some 0))

/-- A job pushes one output entry given as bytes 0–55. -/
def State.jobPushBytes (s : State) (id : Nat) (payload : List Byte) : State :=
  s.jobPush id ((bytesWords (sliceBytes payload 0 56)).map some)

/-- A job that runs here for a bolt peer reports there, and its instance is free again (R115). -/
def State.reportPeer (s : State) (j : Job) (r : JobReport) : State :=
  match s.sh.reservations.find? (fun x => x.started && x.unit == j.unit) with
  | some x => (s.setSh { s.sh with jobs := s.sh.jobs.filter (fun k => k.id != j.id),
                                    reservations := s.sh.reservations.erase x }).post x.peer
      (.offerReport x.offer r.code r.result r.ext)
  | none => s.setSh { s.sh with jobs := s.sh.jobs.filter (fun k => k.id != j.id) }

/-- The Shuttle processes a report (R104 to R107). -/
def State.processReport (s : State) (id : Nat) : State :=
  match s.job id with
  | none => s
  | some j =>
    match j.report with
    | none => s
    | some r =>
      if 8 ≤ j.part then s.reportPeer j r else
      let s := s.modJob id (fun j => { j with report := none, result := r.result % 2 ^ 32, ext := r.ext % 2 ^ 64 })
      if j.phase ≠ .running then s
      else if j.abandoned then s.endJob id codeDroppedLate s.shTick false
      else if r.retryable && j.pushed == 0 && decide (j.attempts ≤ s.ob oSHUTTLE_RETRY_LIMIT) then
        s.modJob id (fun j => { j with phase := .ready, unit := j.unit })
      else
        let tick := s.shTick
        let x := s.jobSlack j
        let c := if r.code = codeDone ∧ 1 < j.attempts then codeDoneRetried else r.code
        s.endJob id (s.lateCode j c x) tick false

/-! ## The completion record (R110) -/

/-- A job's completion record, bytes 0–55. -/
def recordBytes (j : Job) : List Byte :=
  let w0 := j.code * 2 ^ 56 + j.typ * 2 ^ 48 + j.unit * 2 ^ 36 + j.late.toNat * 2 ^ 35
    + (if j.peer.isSome then 2 ^ 33 else 0) + j.upstream.toNat * 2 ^ 32 + j.peer.getD 0 * 2 ^ 29 + j.sq * 2 ^ 25
    + min j.attempts 3 * 2 ^ 23 + j.wasReady.toNat * 2 ^ 22
  valBytes 8 w0 ++ valBytes 4 j.result ++ valBytes 4 j.jobId
    ++ valBytes 8 (if j.wasReady then j.readyTick % 2 ^ 48 else 0)
    ++ valBytes 8 (if j.attempts = 0 then 0 else j.dispatchTick % 2 ^ 48)
    ++ valBytes 8 (j.endTick % 2 ^ 48)
    ++ valBytes 4 j.lateTicks ++ valBytes 4 (min j.estimate (2 ^ 32 - 1)) ++ valBytes 8 j.ext

/-- A peer has not acknowledged an entry of unit u for aliased queue q (R374). -/
def State.entryAwaited (s : State) (q u : Nat) : Bool :=
  match s.aliasOf q with
  | some (n, r) => s.seam.awaited.contains (n, u, some r)
  | none => false

/-- Every output entry of a job has landed: none of its unit or of the Shuttle is under way to its output queue or
stalls for a credit of it (R111). -/
def State.outputsLanded (s : State) (j : Job) : Bool :=
  j.outCount == 0 ||
    (!s.entryAwaited j.outQueue j.unit && !s.entryAwaited j.outQueue unitShuttle && !s.weft.flits.any (fun f => f.kind == .entry && f.queue == j.outQueue && (f.producer == j.unit || f.producer == unitShuttle))
      && (s.port j.outQueue j.unit).stalled.isEmpty && (s.port j.outQueue unitShuttle).stalled.isEmpty)

/-- No other job of the completion queue ended before j (R111). -/
def State.firstEnded (s : State) (j : Job) : Bool :=
  !s.sh.jobs.any (fun k => k.phase == .ended && k.cq == j.cq && decide (k.endSeq < j.endSeq))

/-- Push a job's completion record and forget the job (R110, R111). -/
def State.pushRecord (s : State) (j : Job) : State :=
  let s := s.pushBytes j.cq unitShuttle (recordBytes j) j.cls j.deadline
  s.setSh { s.sh with jobs := s.sh.jobs.filter (fun k => k.id != j.id) }

/-! ## Pooling (R102) -/

/-- G(p,t): the guaranteed count of an accelerator type. -/
def State.guarantee (s : State) (p : Nat) (t : AccType) : Nat :=
  match t with
  | .ldpcDec => s.ob oSHUTTLE_P_GUAR_LDPC_DEC p
  | .ldpcEnc => s.ob oSHUTTLE_P_GUAR_LDPC_ENC p
  | .turbo => s.ob oSHUTTLE_P_GUAR_TURBO p
  | .polar => s.ob oSHUTTLE_P_GUAR_POLAR p
  | .fft => s.ob oSHUTTLE_P_GUAR_FFT p
  | .matrix => s.ob oSHUTTLE_P_GUAR_MATRIX p
  | .bit => s.ob oSHUTTLE_P_GUAR_BIT p

/-- busy(p,t): instances that run jobs of partition p. -/
def State.busyCount (s : State) (p : Nat) (t : AccType) : Nat :=
  (s.sh.jobs.filter (fun j => j.part == p && j.phase == .running && j.peer == none && j.accType == some t)).length

/-- An accelerator instance takes Shuttle jobs: in service, not reserved for a Hem chain, and neither running a job nor
promised to a bolt peer. -/
def State.accFree (s : State) (u : Nat) : Bool :=
  s.usable u && (s.runningOn u).isNone && !s.fftReserved u && !s.sh.reservations.any (fun r => r.unit == u)

/-- The free instances of a type. -/
def State.freeAcc (s : State) (t : AccType) : List Nat := (accUnits t).filter s.accFree

/-- The unused guarantees of the other partitions, those that lend or those that do not. -/
def State.unusedGuarantee (s : State) (p : Nat) (t : AccType) (lend : Bool) : Nat :=
  ((partitions.filter (fun q => q != p && s.assigned q && (s.ob oSHUTTLE_P_LEND q == 1) == lend)).map
    (fun q => s.guarantee q t - s.busyCount q t)).sum

/-- A ready accelerator job may take a free instance (R102). -/
def State.poolOk (s : State) (j : Job) (t : AccType) : Bool :=
  let free := (s.freeAcc t).length
  let h := s.unusedGuarantee j.part t false
  let l := s.unusedGuarantee j.part t true
  decide (s.busyCount j.part t < s.guarantee j.part t) || decide (h + l < free)
    || (decide (h < free) && decide (j.estimate ≤ s.ob oSHUTTLE_LEND_MAX_TICKS))

/-! ## The choice of unit (R100) -/

/-- Engine g of an excluded quad takes no unpinned job (R218). -/
def State.excluded (s : State) (g : Nat) : Bool :=
  g % 17 < 16 && s.bit GUS_CTRL_EXCLUDE (g / 17 * 4 + g % 17 / 4)

/-- A unit of the job's kind is free for it. -/
def State.unitFree (s : State) (j : Job) (u : Nat) : Bool :=
  match kindOf j.typ with
  | some .engine => (s.eng u).state == .waiting && (s.runningOn u).isNone && (j.pin || !s.excluded u)
  | some .lead => (s.eng u).state == .waiting && (s.runningOn u).isNone && (j.pin || !s.excluded u)
  | some (.acc t) => s.accFree u && s.poolOk j t
  | some .hem => s.usable u && (s.runningOn u).isNone
  | some .patch => s.usable u && (s.runningOn u).isNone && s.patchRuns (u - 0xA00)
  | _ => false

/-- The island of a unit is in RUN. -/
def State.inRun (s : State) (u : Nat) : Bool := s.rf PM_ISLAND_STATE_STATE (islandOf u) == 0

/-- The unit a job would take now: its own if it is pinned, else a free unit of its kind, one in an island in RUN first,
then the lowest unit ID. -/
def State.unitChoice (s : State) (j : Job) : Option Nat :=
  if kindOf j.typ = some .nop then some unitNone else
  let free := ((if j.pin then [j.unitField] else s.unitsFor j.part j.typ)).filter (s.unitFree j)
  match free.find? s.inRun with
  | some u => some u
  | none => free.head?

/-! ## The choice of job (R99) -/

/-- Lexicographic order. -/
def lexBefore : List Int → List Int → Bool
  | a :: r, b :: t => decide (a < b) || (a == b && lexBefore r t)
  | _, _ => false

/-- The rank of a ready job (R98, R99). -/
def State.rank (s : State) (j : Job) : List Int :=
  [s.jobSlack j - j.estimate, j.cls, j.readyTick, j.acceptTick, j.part, j.sq, j.id]

/-- The job that comes first among those that may be dispatched now, with its unit. -/
def State.bestJob (s : State) : List Job → Option (Job × Nat)
  | [] => none
  | j :: r =>
    match (if j.phase == .ready && s.atHead j then s.unitChoice j else none), s.bestJob r with
    | none, b => b
    | some u, none => some (j, u)
    | some u, some (k, v) => if lexBefore (s.rank k) (s.rank j) then some (k, v) else some (j, u)

/-! ## Staging (R87, R88, R92) -/

/-- A pinned unit is absent or retired. -/
def State.pinGone (s : State) (j : Job) : Bool :=
  j.pin && (s.unitsFor j.part j.typ).contains j.unitField && !s.usable j.unitField

/-- The checks of R92 that every descriptor meets; `argsOk` is the check of its type's ARGS. -/
def State.stagingCode (s : State) (j : Job) (argsOk : Bool) : Option Nat :=
  if j.anyBad then some codePoison
  else if !j.reservedZero || (kindOf j.typ).isNone || decide (3 ≤ j.policy) || decide (64 < j.inCount)
      || (j.inCount != 0 && !s.inputOk j)
      || (j.outCount != 0 && !s.inRange j.part j.outQueue)
      || (j.trigEn && s.triggerOwner j.trigger != some j.part)
      || (!j.pin && j.unitField != 0)
      || (j.pin && !(s.unitsFor j.part j.typ).contains j.unitField)
      || (j.offerOk && j.accType.isNone)
      || !argsOk
      || (j.typ == 0 && j.outCount != 0) then some codeBadDescriptor
  else if !s.kindPresent j.typ || s.pinGone j then some codeNoUnit
  else none

/-- What a job keeps of the smoothing filters when it is dispatched: a CHEST job its filter (R283). -/
def State.filterOf (s : State) (j : Job) : List Nat :=
  if j.typ = 0x40 then
    [MX_FILT_CFG_NC, MX_FILT_CFG_NTAP, MX_FILT_T3_HM3, MX_FILT_T2_HM2, MX_FILT_T2_HM1, MX_FILT_T0_H0, MX_FILT_T0_H1,
      MX_FILT_T1_H2, MX_FILT_T1_H3].map (fun f => s.rf f (j.arg 0 / 2 ^ 61))
  else []

/-- A job as it is staged. -/
def Job.staged (id p sq cq : Nat) (desc : List Carried) : Job where
  id := id
  part := p
  sq := sq
  cq := cq
  desc := desc
  phase := .staged
  early := none
  acceptTick := 0
  readyTick := 0
  dispatchTick := 0
  endTick := 0
  endSeq := 0
  wasReady := false
  released := false
  estimate := 0
  attempts := 0
  unit := unitNone
  inputs := []
  taken := false
  pushed := 0
  abandoned := false
  report := none
  code := 0
  upstream := false
  late := false
  lateTicks := 0
  result := 0
  ext := 0
  offeredOnce := false
  offerUntil := none
  peer := none
  filter := []

/-- The staged jobs of submission queue s of partition p. -/
def State.plan (s : State) (p sq : Nat) : List Job :=
  s.sh.jobs.filter (fun j => j.part == p && j.sq == sq && j.phase == .staged)

/-- Accept one job of a plan (R87, R92). -/
def State.acceptJob (s : State) (j : Job) : State :=
  let tick := s.shTick
  let s := s.modJob j.id (fun j => { j with phase := .waiting, acceptTick := tick, released := !j.trigEn })
  let s := s.addTurn j false
  match j.early with
  | some c => s.endJob j.id c tick false
  | none => if s.pinGone j then s.endJob j.id codeNoUnit tick false else s

/-- Accept the plan of a submission queue: all its jobs together (R87), with EV_BAD_DESCRIPTOR once where one of them
fails a check (R92). -/
def State.acceptPlan (s : State) (p sq : Nat) : State :=
  let plan := s.plan p sq
  let bad := plan.any (fun j => j.early == some codeBadDescriptor || j.early == some codeNoUnit
    || j.early == some codePoison)
  let s := plan.foldl State.acceptJob s
  let s := if bad then s.shEvent p 4 else s
  s.settle

/-- End the staged jobs of a submission queue with a code, those cancelled with ABORTED and those late with DROPPED_LATE
(R88, R104, R112, R118). -/
def State.endPlan (s : State) (p sq code : Nat) : State :=
  (s.plan p sq).foldl (fun s j =>
    s.endJob j.id (if j.early = some codeAborted ∨ j.early = some codeDroppedLate then j.early.getD code else code)
      s.shTick false) s

/-- Submission queue index k = p × 16 + s is served: enabled, its partition RUNNING, entries in it, and the pending
limit not reached (R87). -/
def State.servable (s : State) (k : Nat) : Bool :=
  let p := k / 16
  s.bit SH_SQ_CFG_ENABLE k && s.pstate p == 3 && decide (0 < s.occupancy (s.rf SH_SQ_CFG_SQ k))
    && decide (s.pendingCount p < s.ob oSHUTTLE_P_MAX_PENDING p)

/-- The next submission queue in round-robin order that is served (R89). -/
def State.nextSq (s : State) : Option Nat :=
  ((List.range 128).map (fun i => (s.sh.next + i) % 128)).find? s.servable

/-- Stage one descriptor of submission queue k (R87, R88, R92). -/
def State.stage (s : State) (k : Nat) (argsOk : State → Job → Bool) : State :=
  let p := k / 16
  let sq := k % 16
  let s := s.setSh { s.sh with next := (k + 1) % 128 }
  match s.popQueue (s.rf SH_SQ_CFG_SQ k) unitShuttle with
  | (.entry e, s) =>
    let j := Job.staged s.sh.nextJob p sq (s.rf SH_SQ_CFG_CQ k) e
    let s := s.setSh { s.sh with jobs := s.sh.jobs ++ [j], nextJob := s.sh.nextJob + 1 }
    if s.sh.rejecting.contains k then
      let s := if j.endOfPlan then s.setSh { s.sh with rejecting := s.sh.rejecting.filter (fun x => x != k) } else s
      (s.endJob j.id codeBadDescriptor s.shTick false).settle
    else
      let s := s.modJob j.id (fun j => { j with early := s.stagingCode j (argsOk s j) })
      if j.endOfPlan then s.acceptPlan p sq
      else if s.ob oSHUTTLE_P_MAX_PENDING p ≤ (s.plan p sq).length then
        let s := s.setSh { s.sh with rejecting := s.sh.rejecting ++ [k] }
        ((s.endPlan p sq codeBadDescriptor).shEvent p 1).settle
      else s
  | (_, s) => s

/-! ## Triggers and cancellation -/

/-- A fire of trigger t releases every accepted job that waits on it (R96). -/
def State.fireTrigger (s : State) (t : Nat) : State :=
  (s.setSh { s.sh with jobs := s.sh.jobs.map (fun j =>
    if j.phase == .waiting && j.trigEn && j.trigger == t then { j with released := true } else j) }).settle

/-- A job matches a cancellation (R112). -/
def cancelMatches (j : Job) (p value mask : Nat) : Bool :=
  j.part == p && (j.jobId &&& mask) == (value &&& mask)

/-- A cancellation takes effect (R112). -/
def State.cancelJobs (s : State) (p value mask : Nat) : State :=
  let hit := s.sh.jobs.filter (fun j => cancelMatches j p value mask && j.pending
    && (j.phase != .staged || j.early != some codeAborted))
  let s := hit.foldl (fun s j =>
    if j.phase == .staged then s.modJob j.id (fun j => { j with early := some codeAborted })
    else s.endJob j.id codeAborted s.shTick false) s
  (s.incf SH_CANCEL_COUNT_COUNT p hit.length).settle

/-- Every job of partition p not yet dispatched completes with ABORTED (R21). -/
def State.abortPending (s : State) (p : Nat) : State :=
  ((s.sh.jobs.filter (fun j => j.part == p && j.pending)).foldl
    (fun s j => s.endJob j.id codeAborted s.shTick false) s).settle

/-- A partition reset ends every job of the partition with ABORTED (R25, R101): void entries and records are pushed, and
its queues, with the input order, are emptied next (R56). -/
def State.abortAll (s : State) (p : Nat) : State :=
  let open_ := s.sh.jobs.filter (fun j => j.part == p && j.phase != .ended)
  let s := open_.foldl (fun s j => s.endJob j.id codeAborted s.shTick false) s
  let ended := s.sh.jobs.filter (fun j => j.part == p)
  let s := (ended.mergeSort (fun a b => decide (a.endSeq ≤ b.endSeq))).foldl State.pushRecord s
  s.setSh { s.sh with turns := s.sh.turns.filter (fun t => !s.inRange p t.queue),
                      reports := s.sh.reports.filter (fun i => !ended.any (fun j => j.id == i)),
                      rejecting := s.sh.rejecting.filter (fun k => k / 16 != p) }

/-! ## Submission queues (R118) -/

/-- Requester u may write the registers of partition p. -/
def State.mayWritePart (s : State) (u p : Nat) : Bool := isThimble u || s.isHostOf u p

/-! ### The order of a tick (R90) -/

/-- The late policy is due to act on a job that has not completed (R104). -/
def State.lateWaits (s : State) (j : Job) : Bool :=
  s.dropDue j (s.jobSlack j) && (match j.phase with
    | .staged => j.early.isNone
    | .waiting => true
    | .ready => true
    | .running => !j.abandoned
    | .ended => false)

/-- How many reports the Shuttle has processed, and how many dispatches it has made, in this tick. -/
def State.reportsNow (s : State) : Nat := if s.sh.reportTick = s.shTick then s.sh.reportCount else 0
def State.dispatchesNow (s : State) : Nat := if s.sh.dispatchTick = s.shTick then s.sh.dispatchCount else 0

/-- A step of R90 has work in this tick: 1 reports, 3 fires, 4 cancellations, 5 late checks, 6 dispatches. -/
def State.stepWaits (s : State) (step : Nat) : Bool :=
  match step with
  | 1 => !s.sh.reports.isEmpty && decide (s.reportsNow < 4)
  | 3 => s.tb.triggers.any (fun t => match t with
      | .shuttle _ _ => true
      | .dma _ _ _ => false)
  | 4 => !s.sh.cancels.isEmpty
  | 5 => s.sh.jobs.any s.lateWaits
  | 6 => (s.bestJob s.sh.jobs).isSome && decide (s.dispatchesNow < 4)
  | _ => false

/-- The Shuttle may act in a step of R90: it has taken no later step in this tick, and no earlier one has work left. -/
def State.stepMay (s : State) (step : Nat) : Bool :=
  (s.sh.stepTick != s.shTick || decide (s.sh.stepNo ≤ step)) && !(List.range step).any s.stepWaits

/-- The Shuttle has taken a step. -/
def State.markStep (s : State) (step : Nat) : State := s.setSh { s.sh with stepTick := s.shTick, stepNo := step }

/-- A write of SH_SQ_CFG of submission queue k (R118). -/
def State.writeSqCfg (s : State) (u k : Nat) (v : Nat) : State :=
  let p := k / 16
  if !s.mayWritePart u p then s else
  let on := natBit v 63
  if s.bit SH_SQ_CFG_ENABLE k then
    if on then s else
    let s := s.sf SH_SQ_CFG_ENABLE k 0
    let s := s.setSh { s.sh with rejecting := s.sh.rejecting.filter (fun x => x != k) }
    (s.endPlan p (k % 16) codeAborted).settle
  else
    let s := (s.sf SH_SQ_CFG_CQ k (v / 2 ^ 16)).sf SH_SQ_CFG_SQ k v
    if !on then s else
    let sq := s.rf SH_SQ_CFG_SQ k
    let cq := s.rf SH_SQ_CFG_CQ k
    if s.inRange p sq && s.inRange p cq && s.bit QM_QCFG_ENABLE sq && s.bit QM_QCFG_ENABLE cq
        && s.rf QM_QCFG_CONSUMER sq == unitShuttle then
      (s.sf SH_SQ_CFG_ENABLE k 1).sf SH_SQ_CFG_ERROR k 0
    else (s.sf SH_SQ_CFG_ERROR k 1).shEvent p 0

/-- A write of SH_CANCEL: held until it takes effect (R112). -/
def State.writeCancel (s : State) (u p : Nat) (v : Nat) : State :=
  if s.mayWritePart u p then s.setSh { s.sh with cancels := s.sh.cancels ++ [(p, v / 2 ^ 32 % 2 ^ 32, v % 2 ^ 32)] }
  else s

/-- A write of SH_TRIGGER: fires a trigger that the partition owns (R96, R118). -/
def State.writeTrigger (s : State) (u p v : Nat) : State :=
  if s.mayWritePart u p && s.triggerOwner (v % 1024) == some p then
    { s with tb := { s.tb with triggers := s.tb.triggers ++ [.shuttle (v % 1024) s.now] } }
  else s

/-! ## Forecasts (R113) -/

/-- A job could use a unit of an island: its own unit if it is pinned or runs, else any unit of its kind in service. -/
def State.couldUse (s : State) (j : Job) (island : Nat) : Bool :=
  if j.phase == .running then j.peer.isNone && islandOf j.unit == island
  else if j.pin then islandOf j.unitField == island && s.usable j.unitField
  else (s.unitsFor j.part j.typ).any (fun u => islandOf u == island && s.usable u)

/-- The next match tick, as ticks from now, of the armed comparators of KIND 2 that target a trigger. -/
def State.triggerAhead (s : State) (t : Nat) : Option Nat :=
  ((s.cmpKeys.filter (fun n => (s.cmp n).kind == 2 && (s.cmp n).target % 1024 == t)).filterMap s.cmpAhead).min?

/-- NEXT_USE of an island as ticks from now; none where no pending job could use it. -/
def State.nextUse (s : State) (island : Nat) : Option Nat :=
  let js := s.sh.jobs.filter (fun j => j.phase != .ended && s.couldUse j island)
  if js.isEmpty then none
  else if js.any (fun j => j.phase == .ready || j.phase == .running || !j.trigEn || j.released) then some 0
  else
    some (js.foldl (fun m j => match s.triggerAhead j.trigger with
      | some d => min m d
      | none => m) (s.ob oSHUTTLE_FORECAST_HORIZON))

end Sys2Proof.Machine
end

