-- ==== Sys2Proof/Machine/Engine.lean ====
section
/-!
DEFINITION. The engine's shared operations: its registers (R125 to R127), the check and the effect of its memory accesses
(R134 to R138, R142), exceptions (R144 to R147), resets and states (R153), its events (R154), its jobs (R148 to R152) and its
control register (R155).
-/

namespace Sys2Proof.Machine

open Reg Ob

/-! ## Registers -/

/-- Offset register k. -/
def Engine.off (e : Engine) (k : BitVec 3) : Word := e.m[k.toNat]'(k.isLt)

/-- Accumulator k as a signed number. -/
def Engine.acc (e : Engine) (k : BitVec 2) : Int := (e.a[k.toNat]'(k.isLt)).toInt

/-- The engine with accumulator k set. -/
def Engine.setAcc (e : Engine) (k : BitVec 2) (v : Int) : Engine :=
  { e with a := e.a.set k.toNat (BitVec.ofInt 40 v) k.isLt }

/-- Vector register i. -/
def Engine.vec (e : Engine) (i : BitVec 5) : Vec := e.v[i.toNat]'(i.isLt)

/-- The engine with vector register i set. -/
def Engine.setVec (e : Engine) (i : BitVec 5) (x : Vec) : Engine := { e with v := e.v.set i.toNat x i.isLt }

/-- The bits of STATUS that can be written (R127). -/
def statusMask : BitVec 32 := 0x337

/-- STATUS bits (R127). -/
def Engine.exc (e : Engine) : Bool := e.status.getLsbD 0
def Engine.lie (e : Engine) : Bool := e.status.getLsbD 1
def Engine.eie (e : Engine) : Bool := e.status.getLsbD 2
def Engine.sat (e : Engine) : Bool := e.status.getLsbD 8
def Engine.asat (e : Engine) : Bool := e.status.getLsbD 9

/-- STATUS.RND, its reserved value 3 treated as 0 (R127). -/
def Engine.rnd (e : Engine) : Nat := let r := (e.status.extractLsb' 4 2).toNat; if r = 3 then 0 else r

/-- SAT set where `b` holds: it is sticky. -/
def Engine.orSat (e : Engine) (b : Bool) : Engine := if b then { e with status := e.status ||| 0x100 } else e

/-- ASAT set where `b` holds. -/
def Engine.orAsat (e : Engine) (b : Bool) : Engine := if b then { e with status := e.status ||| 0x200 } else e

/-- Engine g acts as lead: its logical site is 0 (R127, R157). -/
def isLead (g : Nat) : Bool := g % 17 == 0

/-- Engine g decodes MB-DSP: its panel belongs to an MB partition (R127, R159). -/
def State.mbDsp (s : State) (g : Nat) : Bool :=
  match s.panelOwner (g / 17) with
  | some p => s.isMb p
  | none => false

/-- The STATUS that MFS reads: the writable fields, LEAD and MBDSP (R127). -/
def State.statusOf (s : State) (g : Nat) : BitVec 32 :=
  (s.eng g).status ||| (if isLead g then 0x10000 else 0) ||| (if s.mbDsp g then 0x20000 else 0)

/-! ## Events, jobs and resets -/

/-- Raise EV_ENGINE_g with a reason (R154). -/
def State.engEvent (s : State) (g reason : Nat) : State := s.raiseReason (evEngine g) reason ENG_STATE_LAST_REASON g

/-- Count a job that engine g has completed (R155). -/
def State.countJob (s : State) (g : Nat) : State := s.incf ENG_JOBS_COUNT g

/-- The port of engine g forgets the entry of a squashed PUSH: it never goes (R143). -/
def State.squashPush (s : State) (g : Nat) : State :=
  match (s.eng g).wait with
  | .credit q _ _ => s.setPort q g { s.port q g with stalled := [], raised := false }
  | _ => s

/-- The Gusset of engine g's quad, and g's bank in it (R201). -/
def gussetOf (g : Nat) : Nat := g / 17 * 4 + g % 17 / 4
def bankOf (g : Nat) : Nat := g % 17 % 4

/-- The state of Gusset n. -/
def State.gus (s : State) (n : Nat) : Gusset := Tab.get Gusset.reset s.gussets n

/-- The state with Gusset n replaced. -/
def State.setGus (s : State) (n : Nat) (x : Gusset) : State := { s with gussets := s.gussets.set n x }

/-- An engine reset discards what the engine's bank has not committed and clears its QSAT (R208, R210). -/
def Gusset.dropBank (x : Gusset) (b : Nat) : Gusset :=
  { x with presented := x.presented.del b, work := x.work.filter (fun w => w.bank != b),
           queued := x.queued.filter (fun w => w.bank != b), qsat := x.qsat.filter (fun c => c != b) }

/-- The state with the bank of engine g dropped. -/
def State.dropBank (s : State) (g : Nat) : State :=
  if g % 17 = 16 then s else s.setGus (gussetOf g) ((s.gus (gussetOf g)).dropBank (bankOf g))

/-- The fused instructions of engine g that have not retired are squashed: the Gusset discards what it holds of them
(R130, R209). -/
def State.squashFused (s : State) (g : Nat) : State :=
  let b := bankOf g
  let x := s.gus (gussetOf g)
  if g % 17 ≠ 16 ∧ ((x.presented.find? (fun p => p.1 == b)).isSome = true ∨ x.work.any (fun w => w.bank == b && !w.retired) = true) then
    s.setGus (gussetOf g) { x with presented := x.presented.del b,
                                   work := x.work.filter (fun w => !(w.bank == b && !w.retired)) }
  else s

/-- The start address for GO and RESET_ACTION 1; bits 1:0 are ignored (R155). -/
def State.startPc (s : State) (g : Nat) : Nat := s.rf ENG_START_PC_PC g / 4 * 4

/-- The pop of an aliased queue that engine g waits for, or whose POPW was interrupted (R374). -/
def Engine.asked (e : Engine) : Option Nat :=
  match e.wait with
  | .peer q _ _ _ _ => some q
  | _ => e.popAsked

/-- CYCLE of engine g is brought up to now (R126): it stands still in WAITING, where the clock is gated, and at reset. The
cycles in a span of ticks follow the panel's clock, whose exact rate no rule gives: they are a free number, none in no
ticks. -/
def State.countCycles (s : State) (g : Nat) : State :=
  let e := s.eng g
  if e.state = .waiting ∨ e.cycleTick = s.tb.count then s.setEng g { e with cycleTick := s.tb.count }
  else (s.setEng g { e with cycle := e.cycle + Config.engineCycles s.free, cycleTick := s.tb.count }).fresh

/-- The registers of engine g return to their reset values in state `st`, and its inbox is emptied (R153). PC is
ENG_START_PC (R126). An entry that a peer has handed over for a squashed POPW stays for the next pop of its queue. -/
def State.clearEngine (s : State) (g : Nat) (st : EngState) : State :=
  let s := (s.squashPush g).dropBank g
  s.setEng g { Engine.cleared st with
    pc := s.startPc g, resetTick := s.tb.count, cycleTick := s.tb.count, popAsked := (s.eng g).asked,
    popKept := (s.eng g).popKept }

/-- The state an engine reset leads to: HELD stays, else FREE or HALTED as RESET_ACTION selects (R153). -/
def State.afterReset (s : State) (g : Nat) : EngState :=
  if (s.eng g).state = .held then .held else if s.bit ENG_CTRL_RESET_ACTION g then .free else .halted

/-- An engine reset (R153): the running job completes as `report` says, by default with UNIT_RESET. -/
def State.resetEngine (s : State) (g : Nat) (report : JobReport := ⟨codeUnitReset, 0, 0, false⟩) : State :=
  let job := (s.eng g).job
  let s := (s.clearEngine g (s.afterReset g)).incf ENG_RESETS_COUNT g
  match job with
  | some id => (s.reportJob id report).countJob g
  | none => s

/-- The job of engine g is to be reported as POISON (R136, R143). -/
def State.poisonJob (s : State) (g : Nat) : State := s.setEng g { s.eng g with poisoned := true }

/-- A load or fetch of an uncorrectable or poisoned word (R136). -/
def State.poisonReset (s : State) (g : Nat) : State := (s.resetEngine g).engEvent g 0x01

/-! ## Exceptions -/

/-- The causes of R144. -/
def causeIllegal : Nat := 0x01
def causeMisaligned : Nat := 0x02
def causeCircRange : Nat := 0x03
def causeAccess : Nat := 0x04
def causeGusset : Nat := 0x05
def causeBreak : Nat := 0x06
def causeJobLate : Nat := 0x10
def causeEvent : Nat := 0x11

/-- An exception that cannot be handled (R147). -/
def State.unhandled (s : State) (g cause epc : Nat) : State :=
  let reason := if (s.eng g).exc then 0x03 else 0x02
  let s := s.resetEngine g ⟨codeUnitReset, cause * 2 ^ 24 + epc, 0, false⟩
  ((s.sf ENG_FAULT_CAUSE g cause).sf ENG_FAULT_PC g epc).engEvent g reason

/-- Taking an exception (R145 to R147): every unretired instruction is squashed; `epc` is the address saved, `eaddr` the
faulting address. An exception that does not belong to a vector element sets EINDEX to 0 (R174). -/
def State.takeException (s : State) (g cause epc eaddr : Nat) (element : Bool := false) : State :=
  let e := s.eng g
  if e.evec = 0 ∨ (e.exc = true ∧ cause < 0x10) then s.unhandled g cause epc
  else (s.squashFused g).setEng g { e with
    estatus := s.statusOf g
    epc := epc
    ecause := cause
    eaddr := eaddr % 2 ^ 48
    status := (e.status ||| 1) &&& ~~~(6 : BitVec 32)
    pc := e.evec
    wait := .none
    popAsked := e.asked
    resumed := false
    eindex := if element then e.eindex else 0 }

/-- A synchronous exception of the instruction at PC (R146). -/
def State.raiseSync (s : State) (g cause eaddr : Nat) : State := s.takeException g cause (s.eng g).pc eaddr

/-- The reserved or disallowed instruction exception. -/
def State.illegal (s : State) (g : Nat) : State := s.raiseSync g causeIllegal 0

/-- The engine stands between instructions, or waits at a POPW, which an asynchronous exception interrupts (R143). -/
def Engine.between (e : Engine) : Bool :=
  match e.wait with
  | .none => true
  | .entry _ _ _ _ => true
  | .peer _ _ _ _ none => true
  | _ => false

/-- The asynchronous cause that is due: JOB_LATE before EVENT, and neither while STATUS.EXC is 1 (R144). -/
def Engine.asyncCause (e : Engine) : Option Nat :=
  if !(e.state == .running || e.state == .free) || !e.between || e.exc then none
  else if e.late && e.lie then some causeJobLate
  else if e.eie && !e.inbox.isEmpty then some causeEvent
  else none

/-- Between instructions, a pending asynchronous cause is taken (R144). -/
def State.takeAsync (s : State) (g : Nat) : State :=
  let e := s.eng g
  match e.asyncCause with
  | some c => (if c = causeJobLate then s.setEng g { e with late := false } else s).takeException g c e.pc 0
  | none => s

/-- The instruction of engine g retires with engine state e, going on at `pc` (R128). -/
def State.retireAt (s : State) (g : Nat) (e : Engine) (pc : Nat) : State :=
  (s.setEng g { e with pc := pc % 2 ^ 15, resumed := false, wait := .none }).takeAsync g

/-- The instruction of engine g retires with engine state e, going on at the next word. -/
def State.retire (s : State) (g : Nat) (e : Engine) : State := s.retireAt g e (e.pc + 4)

/-- No earlier instruction of the engine waits; one that is presented again does not count (R14, R134). -/
def Engine.ready (e : Engine) : Bool :=
  match e.wait with
  | .none => true
  | .again _ => true
  | _ => false

/-- A taken branch or jump retires with engine state e, going on at `pc`: a target that is not a multiple of 4 raises
MISALIGNED in its place and is not fetched (R129). -/
def State.jumpTo (s : State) (g : Nat) (e : Engine) (pc : Nat) : State :=
  if pc % 4 ≠ 0 then s.raiseSync g causeMisaligned pc else s.retireAt g e pc

/-- Engine g executes instructions: it is in RUNNING or FREE, no earlier instruction of it waits, and its panel's clocks run:
the island is in RUN and no thermal trip gates it (R553, R661). -/
def State.executes (s : State) (g : Nat) : Bool :=
  let e := s.eng g
  decide (g < 1088) && (e.state == .running || e.state == .free) && e.ready && !s.islandStops (g / 17)

/-- Execute an instruction on engine g. An asynchronous cause that became due as a waiting PUSH retired is taken in its
place, and squashes it (R144, R145). -/
def State.execute (s : State) (g : Nat) (body : Engine → State) : State :=
  if !s.executes g then s else if (s.eng g).asyncCause.isSome then s.takeAsync g else body (s.eng g)

/-- Execute an Elryn instruction on engine g; in MB-DSP decode mode its word has no Elryn meaning (R195, R144). -/
def State.native (s : State) (g : Nat) (body : Engine → State) : State :=
  s.execute g (fun e => if s.mbDsp g then s.illegal g else body e)

/-- Execute an MB-DSP instruction on engine g; it is not valid in Elryn decode. -/
def State.mbNative (s : State) (g : Nat) (body : Engine → State) : State :=
  s.execute g (fun e => if s.mbDsp g then body e else s.illegal g)

/-- An instruction that only changes engine registers. -/
def State.regOp (s : State) (g : Nat) (f : Engine → Engine) : State := s.native g (fun e => s.retire g (f e))

/-- An instruction that writes one scalar register. -/
def State.alu (s : State) (g : Nat) (rd : BitVec 5) (f : Engine → Word) : State :=
  s.regOp g (fun e => e.setReg rd (f e))

/-! ## Addresses -/

/-- The effective address of a memory instruction, and the base register after it; or the exception it raises (R137,
R138). -/
inductive Address where
  | at (ea : Nat) (base : Word)
  | raises (cause eaddr : Nat)
deriving DecidableEq, Repr

/-- Address generation (R137, R138). -/
def State.address (s : State) (g : Nat) (rb : BitVec 5) (m : AddrMode) : Address :=
  let e := s.eng g
  let b := e.reg rb
  match m with
  | .offset i => .at ((b + i.signExtend 64).toNat % 2 ^ 48) b
  | .postImm i => .at (b.toNat % 2 ^ 48) (b + i.signExtend 64)
  | .postReg k => .at (b.toNat % 2 ^ 48) (b + e.off k)
  | .circular c k =>
    if !isLead g then .raises causeIllegal 0 else
    let a : Int := (b.toNat % 2 ^ 48 : Nat)
    let len : Int := ((e.cbLen[c.toNat]'(c.isLt)).toNat : Nat)
    let base : Int := ((e.cbBase[c.toNat]'(c.isLt)).toNat : Nat)
    let mk := (e.off k).toInt
    let o := a - base
    if len = 0 ∨ o < 0 ∨ len ≤ o ∨ len < mk.natAbs then .raises causeCircRange (b.toNat % 2 ^ 48) else
    let n := o + mk
    let n := if len ≤ n then n - len else if n < 0 then n + len else n
    .at (b.toNat % 2 ^ 48) (BitVec.ofInt 64 ((base + n) % 2 ^ 48))

/-- The address of an access that must be aligned: a misaligned address comes before an address outside its ring
(R144). -/
def State.addressAligned (s : State) (g : Nat) (rb : BitVec 5) (m : AddrMode) (align : Nat) : Address :=
  match s.address g rb m with
  | .raises c x => if c = causeCircRange ∧ x % align ≠ 0 then .raises causeMisaligned x else .raises c x
  | a => a

/-- A window of engine g grants the access (R142, R155). -/
def State.engWindow (s : State) (g w a n : Nat) (write : Bool) : Bool :=
  let i := g * 8 + w
  windowGrants (s.rf ENG_WIN_BASE_BASE i) (s.rf ENG_WIN_LIMIT_LAST i) (s.bit ENG_WIN_BASE_RD i) (s.bit ENG_WIN_BASE_W i)
    a n write

/-- The access lies in `n` bytes from `base` of length `len`. -/
def insideRange (base len a n : Nat) : Bool := decide (base ≤ a) && decide (a + n ≤ base + len)

/-- The address maps something an engine may reach, or names an absent unit (R142). -/
def State.engMaps (s : State) (a : Nat) : Bool :=
  match s.place a with
  | .control _ => false
  | .nothing => false
  | _ => true

/-- The access passes the E3 check of the engine's own windows (R142). Its own instruction memory does not, by its address
or through the window of the die's own number (R28, R135). -/
def State.engPasses (s : State) (g a n : Nat) (write : Bool) : Bool :=
  let ownCode := fun x => insideRange (engineCodeBase g) 0x8000 (s.ownAddress x) 1
  (insideRange (engineDataBase g) 0x18000 a n || insideRange (panelBase (g / 17)) 0x200000 a n
      || (List.range 8).any (fun w => s.engWindow g w a n write))
    && s.engMaps a && s.engMaps (a + n - 1) && !ownCode a && !ownCode (a + n - 1)

/-- The windows of the partition that owns engine g's panel grant the access (R397). -/
def State.engGranted (s : State) (g a n : Nat) (write : Bool) : Bool :=
  match s.panelOwner (g / 17) with
  | some p => s.mayAccess p a n write
  | none => false

/-- Engine g may make the access (R142, R397). -/
def State.engMay (s : State) (g a n : Nat) (write : Bool) : Bool := s.engPasses g a n write && s.engGranted g a n write

/-- Account for an access that the partition's windows deny (R397). -/
def State.engDenied (s : State) (g a n : Nat) (write : Bool) : State :=
  match s.panelOwner (g / 17) with
  | some p => if s.engPasses g a n write && !s.mayAccess p a n write then s.countDenial p g a write else s
  | none => s

/-- Check an aligned access of n bytes: the exception it raises, if any (R135, R142). -/
def State.accessFault (s : State) (g a n align : Nat) (write : Bool) : Option Nat :=
  if a % align ≠ 0 then some causeMisaligned
  else if s.engMay g a n write then none else some causeAccess

/-- Raise the exception of a refused access. -/
def State.raiseFault (s : State) (g cause a n : Nat) (write : Bool) : State :=
  (if cause = causeAccess then s.engDenied g a n write else s).raiseSync g cause a

/-- The instruction of engine g waits in E4 for an island or a bank, and is presented again (R14, R134); memory has
accepted the elements below `done`. -/
def State.holdE4 (s : State) (g : Nat) (x : Nat × Option Nat) (done : Nat := 0) : State :=
  (s.stallOn x).setEng g { s.eng g with wait := .again done }

/-- An access of engine g that no check refuses: it waits where an island or a bank is stopped (R14). -/
def State.whenOpen (s : State) (g a n : Nat) (body : State) : State :=
  match s.accessStops g a n with
  | some x => s.holdE4 g x
  | none => body

/-- Every store of unit g, an engine or a DMA engine, that left the die has been acknowledged (R134, R447): none is held at the host port or awaited from a
peer. -/
def State.storesDone (s : State) (g : Nat) : Bool :=
  !s.seam.awaited.any (fun a => a.2.1 == g && a.2.2.isNone)
    && !s.host.held.any (fun h => match h with
      | .write u _ _ _ _ => u == g
      | _ => false)

/-- A load of n bytes at an aligned address: the bytes' value, none where the word is bad (R136). -/
def State.loadBytes (s : State) (g a n : Nat) : Option Nat × State :=
  let r := s.readWordAt (a / 8 * 8) g 0
  (r.1.map (fun w => w.toNat / 2 ^ (a % 8 * 8) % 2 ^ (8 * n)), r.2)

/-- A store of n bytes at an aligned address: answers whether the word became POISON (R136, R390). -/
def State.storeBytes (s : State) (g a n v : Nat) : Bool × State := s.writeBytes a g (valBytes n v)

/-! ## Events and states -/

/-- An event enters engine g's inbox of 8; one that arrives at a full inbox is discarded and counted (R154). -/
def State.enterInbox (s : State) (g ev : Nat) : State :=
  let e := s.eng g
  if e.inbox.length < 8 then (s.setEng g { e with inbox := e.inbox ++ [ev] }).takeAsync g
  else s.incf ENG_EVQ_LOST_COUNT g

/-- Engine g, in WAITING with HALT_REQ set, is HALTED (R153). -/
def State.haltWaiting (s : State) (g : Nat) : State :=
  let e := s.eng g
  if e.state = .waiting ∧ s.bit ENG_CTRL_HALT_REQ g = true then
    let s := s.countCycles g
    s.setEng g { s.eng g with state := .halted }
  else s

/-- The state after EXIT or WAITJOB (R153). -/
def State.restState (s : State) (g : Nat) : EngState := if s.bit ENG_CTRL_HALT_REQ g then .halted else .waiting

/-- WAITJOB in FREE: the engine comes to rest (R153). -/
def State.waitJob (s : State) (g : Nat) : State :=
  let s := s.countCycles g
  let e := s.eng g
  s.setEng g { e with state := s.restState g, pc := (e.pc + 4) % 2 ^ 15, resumed := false, wait := .none }

/-- The entries that engine g has pushed have all landed (R150), those for a peer's queues too. -/
def State.pushesLanded (s : State) (g : Nat) : Bool :=
  !s.weft.flits.any (fun f => f.producer == g && f.kind == .entry)
    && !s.seam.awaited.any (fun a => a.2.1 == g && a.2.2.isSome)

/-- EXIT ends the job (R150): the engine reports and leaves RUNNING. -/
def State.finishExit (s : State) (g code result ext : Nat) : State :=
  let s := s.countCycles g
  let e := s.eng g
  let c := if code = codeDone ∨ code = codePartial ∨ code = codeBadDescriptor then code else codePartial
  let c := if c = codeDone ∧ e.poisoned = true then codePoison else c
  let s := s.setEng g { e with state := s.restState g, wait := .none, job := none, late := false, lateTick := none,
                               pushed := false, poisoned := false, jobTag := 0, pc := (e.pc + 4) % 2 ^ 15,
                               resumed := false }
  match e.job with
  | some id => (s.reportJob id ⟨c, result, ext, false⟩).countJob g
  | none => s

/-- An engine whose EXIT waits goes on once its last push has landed (R150). -/
def State.exitLanded (s : State) (g : Nat) : State :=
  match (s.eng g).wait with
  | .exit c r x => if s.pushesLanded g then s.finishExit g c r x else s
  | _ => s

/-- Store the words of a popped entry at an address (R143). -/
def State.storeEntry (s : State) (g ea : Nat) (words : List Carried) : State := s.writeWords ea g words

/-- An engine whose POPW waits takes the entry that has arrived (R143); under MB-DSP the message, its bytes 0–31 (R626). -/
def State.popwArrived (s : State) (g q : Nat) : State :=
  let e := s.eng g
  match e.wait with
  | .entry k ea base updated =>
    if k ≠ q then s else
    match s.popQueue q g with
    | (.entry w, t) =>
      let t := t.storeEntry g ea (if s.mbDsp g then w.take 4 else w)
      t.retire g ({ t.eng g with wait := .none }.setReg (BitVec.ofNat 5 base) updated)
    | (_, t) => t
  | _ => s

/-- The POP or POPW of engine g that waits takes an entry from a peer: it is stored, and the instruction retires with 1 in
POP's result register. -/
def State.takePopped (s : State) (g ea base : Nat) (updated : Word) (result : Option Nat) (w : List Carried) : State :=
  let t := s.storeEntry g ea w
  let f := { t.eng g with wait := .none }.setReg (BitVec.ofNat 5 base) updated
  t.retire g (match result with
    | some d => f.setReg (BitVec.ofNat 5 d) 1
    | none => f)

/-- The peer's answer to a pop at an aliased queue (R374): an entry is taken; an empty queue answers POP with 0, and POPW
asks again; a denial raises ACCESS. The entry that comes for a POPW that an asynchronous exception has interrupted, or a
reset or a stop has squashed, waits for the engine's next pop of that queue. DESIGN CHOICE. -/
def State.peerPopped (s : State) (g n r : Nat) (entry : Option (List Carried)) (denied : Bool) : State :=
  let e := s.eng g
  match e.wait with
  | .peer q ea base updated result =>
    if s.aliasOf q ≠ some (n, r) then s
    else if denied then (s.setEng g { e with wait := .none }).raiseSync g causeAccess ea
    else
      match entry, result with
      | some w, _ => s.takePopped g ea base updated result w
      | none, some d =>
        s.retire g (({ e with wait := .none }.setReg (BitVec.ofNat 5 base) updated).setReg (BitVec.ofNat 5 d) 0)
      | none, none => s.post n (.pop r g)
  | _ =>
    match e.popAsked with
    | some q =>
      if s.aliasOf q ≠ some (n, r) then s
      else s.setEng g { e with popAsked := none, popKept := match entry with
        | some w => if denied then e.popKept else some (q, w)
        | none => e.popKept }
    | none => s

/-! ## Jobs -/

/-- The job area of engine g (R149). -/
def jobArea (g : Nat) : Nat := engineDataBase g + 0x16000

/-- The ARGS check of an engine job (R148). -/
def engineArgsOk (j : Job) : Bool :=
  let entry := j.arg 0 % 2 ^ 32
  decide (entry < 0x8000) && entry % 4 == 0 && j.arg 0 / 2 ^ 32 == 0

/-- Write the input entries of a job one behind the other. -/
def State.writeEntries (s : State) (a : Nat) : List (List Carried) → State
  | [] => s
  | e :: r => (s.writeWords a unitShuttle e).writeEntries (a + 64) r

/-- Dispatch of a job to engine g (R149): the job area is written, the engine's job registers set, and it runs from
ENTRY. -/
def State.startEngineJob (s : State) (g : Nat) (j : Job) : State :=
  let s := s.writeWords (jobArea g) unitShuttle j.desc
  let s := (s.writeEntries (jobArea g + 0x40) j.inputs).countCycles g
  let x := s.gus (gussetOf g)
  let s := s.setGus (gussetOf g) { x with qsat := x.qsat.filter (fun c => c != bankOf g) }
  let e := s.eng g
  let e := ((e.setReg 1 (BitVec.ofNat 64 (jobArea g))).setReg 2 (BitVec.ofNat 64 j.inCount)).setReg 3
    (BitVec.ofNat 64 (jobArea g + 0x40))
  s.setEng g { e with
    state := .running, pc := j.arg 0 % 2 ^ 15, jobTag := BitVec.ofNat 64 (j.word 7), status := e.status &&& ~~~(0x300 : BitVec 32),
    job := some j.id, late := false, lateTick := none, pushed := false, poisoned := false, wait := .none,
    resumed := false }

/-- The engine stops a late job without a reset (R151): unretired instructions are squashed, every register keeps its
value, and it enters WAITING. -/
def State.stopLate (s : State) (g : Nat) : State :=
  let e := s.eng g
  match e.job with
  | none => s
  | some id =>
    let s := ((s.squashPush g).squashFused g).countCycles g
    let s := s.setEng g { s.eng g with
      state := .waiting, wait := .none, popAsked := e.asked, job := none, late := false, lateTick := none,
      pushed := false, poisoned := false, jobTag := 0, resumed := false }
    (((s.haltWaiting g).reportJob id ⟨codeDroppedLate, 0, 0, false⟩).countJob g).engEvent g 0x05

/-- The Shuttle's job-late signal (R151): JOB_LATE where STATUS.LIE is 1, else the job stops at once. -/
def State.jobLate (s : State) (g : Nat) : State :=
  let e := s.eng g
  if e.job = none ∨ e.lateTick.isSome = true then s
  else if e.lie then (s.setEng g { e with late := true, lateTick := some s.tb.count }).takeAsync g
  else (s.setEng g { e with lateTick := some s.tb.count }).stopLate g

/-! ## Control (R155, R156) -/

/-- Engine site g's registers answer: its panel is present and not retired, the site is not retired, and it is not the
spare's own block while the spare serves another site (R2, R157). -/
def State.siteUp (s : State) (g : Nat) : Bool :=
  let p := g / 17
  decide (p < s.die.variant.panels) && !s.bit PNL_STATE_RETIRED p && !(g % 17 == 16 && s.spareBusy p)
    && !natBit (s.rf PNL_STATE_SITES_RETIRED p) (s.physical g % 17)

/-- Requester u may write the registers of panel p (R155, R219, R591). -/
def State.mayWritePanel (s : State) (u p : Nat) : Bool := isThimble u || s.isOwnerHost u (s.panelOwner p)

/-- GO: from HALTED, FREE at ENG_START_PC (R155). -/
def State.goEngine (s : State) (g : Nat) : State :=
  let e := s.eng g
  if e.state = .halted then s.setEng g { e with state := .free, pc := s.startPc g, fresh := false } else s

/-- OPEN: from HALTED, WAITING (R155), and at once HALTED again where HALT_REQ is set (R153). -/
def State.openEngine (s : State) (g : Nat) : State :=
  let e := s.eng g
  if e.state = .halted then
    let s := s.countCycles g
    (s.setEng g { s.eng g with state := .waiting }).haltWaiting g
  else s

/-- A write of ENG_CTRL (R155): RESET_ACTION and HALT_REQ first, then SRESET, GO and OPEN. -/
def State.writeEngCtrl (s : State) (u g v : Nat) : State :=
  if !s.mayWritePanel u (g / 17) || !s.siteUp g then s else
  let s := (s.sf ENG_CTRL_RESET_ACTION g (v / 16)).sf ENG_CTRL_HALT_REQ g (v / 4)
  let s := s.haltWaiting g
  let s := if natBit v 8 then s.resetEngine g else s
  let s := if natBit v 0 then s.goEngine g else s
  if natBit v 1 then s.openEngine g else s

/-- The site's registers take writes that R156 allows only in HELD and HALTED. -/
def State.siteQuiet (s : State) (g : Nat) : Bool := (s.eng g).state == .held || (s.eng g).state == .halted

/-- Release engine g from HELD into HALTED, or back (R153). -/
def State.releaseHeld (s : State) (g : Nat) : State :=
  let e := s.eng g
  if e.state = .held ∧ s.siteUp g = true ∧ ¬ (g % 17 = 16) then
    s.setEng g { e with state := .halted, pc := s.startPc g, resetTick := s.tb.count, cycleTick := s.tb.count } else s

/-- Hold engine g in reset (R153, R157): the job that runs on it completes with UNIT_RESET. -/
def State.holdEngine (s : State) (g : Nat) : State :=
  let job := (s.eng g).job
  let s := s.clearEngine g .held
  match job with
  | some id => (s.reportJob id ⟨codeUnitReset, 0, 0, false⟩).countJob g
  | none => s

end Sys2Proof.Machine
end

