-- ==== Sys2Proof/Machine/Accel.lean ====
section
/-!
DEFINITION. What every accelerator job shares: its ARGS (R228), its reads and writes of buffers, its stop at a poisoned word
or a denied access, its result entry and its report (R226 to R231), and the instance's registers (R254, R255).
-/

namespace Sys2Proof.Machine

open Reg Ob

/-! ## ARGS -/

/-- Bits hi to lo of a word. -/
def bitsOf (w hi lo : Nat) : Nat := w / 2 ^ lo % 2 ^ (hi + 1 - lo)

/-- A buffer address in bits 47:0 of a word of ARGS. -/
def Job.addr (j : Job) (i : Nat) : Nat := bitsOf (j.arg i) 47 0

/-- A field of a word of ARGS. -/
def Job.fld (j : Job) (i hi lo : Nat) : Nat := bitsOf (j.arg i) hi lo

/-- ceil(a / b). -/
def ceilDiv (a b : Nat) : Nat := (a + b - 1) / b

/-- The stride of blocks of n bits and of n soft values (R225). -/
def bitStride (n : Nat) : Nat := 64 * ceilDiv n 512
def llrStride (n : Nat) : Nat := 64 * ceilDiv n 64

/-- The address by which a job of partition `part` reaches a buffer: a job of a bolt peer (8 + n) through that die's window
(R376). -/
def reachOf (part a : Nat) : Nat :=
  if part < 8 then a
  else match regionOf a with
    | .peer _ _ => a
    | _ => 0x800000000000 + (part - 8) * 0x020000000000 + a

/-- A run of bytes, not empty, lies wholly in one populated memory that R228 names. -/
def State.oneMemory (s : State) (a n : Nat) : Bool :=
  match regionOf a, regionOf (a + n - 1) with
  | .panel p _, .panel q _ => p == q && decide (p < s.die.variant.panels)
  | .engineData g _, .engineData h _ => g == h && decide (g / 17 < s.die.variant.panels)
  | .dram _, .dram y => decide (y < s.rf DRAM_CAPACITY_BYTES)
  | .host _, .host _ => true
  | .peer p _, .peer q _ => p == q
  | _, _ => false

/-- Two buffers share no byte. -/
def apart (x y : Nat × Nat) : Bool := decide (x.1 + x.2 ≤ y.1) || decide (y.1 + y.2 ≤ x.1)

/-- Each buffer lies apart from those behind it. -/
def allApart : List (Nat × Nat) → Bool
  | [] => true
  | b :: r => r.all (apart b) && allApart r

/-- The buffers of a job of partition `part`, each an address and a length in bytes, meet R228. A buffer of no bytes has an
address to check and no extent. -/
def State.buffersOk (s : State) (part : Nat) (l : List (Nat × Nat)) : Bool :=
  l.all (fun b => b.1 % 64 == 0 && (b.2 == 0 || s.oneMemory (reachOf part b.1) b.2))
    && allApart (l.filter (fun b => b.2 != 0))

/-! ## A job under way -/

/-- A job under way on an accelerator: the state it has reached, why it has stopped, and what it has done. -/
structure AccRun where
  st : State
  job : Nat
  part : Nat
  unit : Nat
  stop : Option Nat
  blocks : Nat
  flags : List Bool
  /-- decoder iterations of the blocks so far, and the largest -/
  iters : Nat
  most : Nat
  /-- the metric that a decoder of one block reports -/
  metric : Nat
  /-- every byte read so far -/
  seen : List Byte
  /-- a partial write has met a poisoned word (R390) -/
  spoiled : Bool
  /-- the island, and the bank in it, at which an access of the job stalls (R14) -/
  stall : Option (Nat × Option Nat)

/-- The job at its start. -/
def AccRun.start (s : State) (j : Job) : AccRun := ⟨s, j.id, j.part, j.unit, none, 0, [], 0, 0, 0, [], false, none⟩

/-- The job still runs. -/
def AccRun.live (r : AccRun) : Bool := r.stop.isNone && r.stall.isNone

/-- The job stops with a code. -/
def AccRun.halt (r : AccRun) (code : Nat) : AccRun := if r.live then { r with stop := some code } else r

/-- The buffers of the job under way meet R228. -/
def AccRun.buffersOk (r : AccRun) (l : List (Nat × Nat)) : Bool := r.st.buffersOk r.part l

/-- Read bytes of a buffer; a denied access ends the job with DENIED (R228), a bad word with POISON (R230). At an island that stops, the access stalls. -/
def AccRun.read (r : AccRun) (a n : Nat) : List Byte × AccRun :=
  let a := reachOf r.part a
  if !r.live || n == 0 then ([], r)
  else if !r.st.mayAccess r.part a n false then
    ([], { r with st := r.st.countDenial r.part r.unit a false }.halt codeDenied)
  else if (r.st.accessStops r.unit a n).isSome then ([], { r with stall := r.st.accessStops r.unit a n })
  else
    match r.st.readBytes a n r.unit 0 with
    | (some l, s) => (l, { r with st := s, seen := r.seen ++ l })
    | (none, s) => ([], { r with st := s }.halt codePoison)

/-- Write bytes of a buffer. -/
def AccRun.write (r : AccRun) (a : Nat) (data : List Byte) : AccRun :=
  let a := reachOf r.part a
  if !r.live || data.isEmpty then r
  else if !r.st.mayAccess r.part a data.length true then
    { r with st := r.st.countDenial r.part r.unit a true }.halt codeDenied
  else if (r.st.accessStops r.unit a data.length).isSome then
    { r with stall := r.st.accessStops r.unit a data.length }
  else
    let w := r.st.writeBytes a r.unit data
    { r with st := w.2, spoiled := r.spoiled || w.1 }

/-- A check of a record that the job has read; the job stops with BAD_DESCRIPTOR where it fails (R257). -/
def AccRun.require (r : AccRun) (ok : Bool) : AccRun := if ok then r else r.halt codeBadDescriptor

/-- Flag i of the job is set. -/
def AccRun.setFlag (r : AccRun) (i : Nat) : AccRun :=
  { r with flags := (List.range (max r.flags.length (i + 1))).map (fun k => k == i || r.flags.getD k false) }

/-- A block is complete; its type sets flags otherwise. -/
def AccRun.done (r : AccRun) : AccRun := if r.live then { r with blocks := r.blocks + 1 } else r

/-- A block is complete, with its flag. -/
def AccRun.block (r : AccRun) (flag : Bool) : AccRun :=
  if r.live then { r with blocks := r.blocks + 1, flags := r.flags ++ [flag] } else r

/-- Count the iterations of a block. -/
def AccRun.iterate (r : AccRun) (n : Nat) : AccRun := { r with iters := r.iters + n, most := max r.most n }

/-- Process blocks in ascending order (R229). -/
def AccRun.each (r : AccRun) (n : Nat) (f : Nat → AccRun → AccRun) : AccRun :=
  (List.range n).foldl (fun r b => if r.live then f b r else r) r

/-! ## Its end -/

/-- The event of an accelerator instance (R255). -/
def State.accEvent (s : State) (u reason : Nat) : State := s.raiseReason u reason ACC_STATE_LAST_REASON (u - 0x600)

/-- An accelerator-instance reset with the reason it reports (R255). -/
def State.resetAcc (s : State) (u reason : Nat) : State := (s.incf ACC_RESETS_COUNT (u - 0x600)).accEvent u reason

/-- The flag map of a result entry (R227). -/
def flagMap (l : List Bool) : List Byte :=
  (List.range 32).map (fun i => BitVec.ofNat 8
    (((List.range 8).map (fun k => if l.getD (8 * i + k) false then 2 ^ k else 0)).sum))

/-- RESULT: blocks completed and flags set (R227). -/
def AccRun.result (r : AccRun) : Nat := r.blocks * 2 ^ 16 + (r.flags.filter id).length

/-- The job ends (R226 to R230): it reports, with its result entry where it has not stopped, and with POISON where a
partial write met a poisoned word (R390), or DENIED where its output queue is an alias that the peer refuses (R374); a
poison stop resets the instance. `info` is bytes 32–47 of the result entry. -/
def AccRun.finish (r : AccRun) (outCount : Nat) (info : List Byte) (reset : State → State) : State :=
  let ext := fieldAt info 0 8
  match r.stop with
  | none =>
    let reach := match r.st.job r.job with
      | some j => r.st.queueReach j.outQueue || outCount == 0
      | none => true
    if !reach then r.st.reportJob r.job ⟨codeDenied, r.result, ext, false⟩ else
    let s := if outCount = 1 then r.st.jobPushBytes r.job (flagMap r.flags ++ sliceBytes info 0 16 ++ valBytes 8 0) else r.st
    s.reportJob r.job ⟨if r.spoiled then codePoison else codeDone, r.result, ext, false⟩
  | some c =>
    let s := r.st.reportJob r.job ⟨c, r.result, ext, false⟩
    if c = codePoison then reset s else s

/-- The counters of an accelerator instance (R254). -/
def AccRun.count (r : AccRun) : AccRun :=
  let i := r.unit - 0x600
  { r with st := ((r.st.incf ACC_JOBS_COUNT i).incf ACC_BLOCKS_COUNT i r.blocks).incf ACC_ITER_COUNT i r.iters }

/-- The job of type `typ` that unit u runs and has not yet reported. -/
def State.accJob (s : State) (u typ : Nat) : Option Job :=
  match s.runningOn u with
  | some j => if j.typ = typ ∧ j.report = none ∧ j.abandoned = false then some j else none
  | none => none

/-- Unit u runs its job of type `typ`. Where an access of the job stalls, the run begins anew when the command is given again:
what it would have done until then is not kept. -/
def State.accRun (s : State) (u typ : Nat) (body : Job → AccRun → AccRun) (info : AccRun → List Byte) : State :=
  match s.accJob u typ with
  | some j =>
    let r := body j (AccRun.start s j)
    if let some x := r.stall then s.stallOn x else
    r.count.finish j.outCount (info r) (fun s => s.resetAcc u 0x01)
  | none => s

/-- No type-specific bytes. -/
def noInfo (_ : AccRun) : List Byte := []

/-! ## The instance's registers (R254) -/

/-- The indices in an island whose registers lie at 0x0900_0000 (R254); the matrix accelerators lie elsewhere (R282). -/
def accSlot (u : Nat) : Bool :=
  let k := (u - 0x600) % 39
  decide (0x600 ≤ u) && decide (u < 0x740) && (decide (k ≤ 20) || decide (33 ≤ k))

/-- ACC_CTRL.SRESET (R255): the job on the instance completes with ABORTED. -/
def State.resetAccByWrite (s : State) (u : Nat) : State :=
  let s := match s.runningOn u with
    | some j => if j.report = none then s.reportJob j.id ⟨codeAborted, 0, 0, false⟩ else s
    | none => s
  s.resetAcc u 0x02

/-- A write of an instance's control register by requester r. -/
def State.writeAccCtrl (s : State) (r u v : Nat) : State :=
  if (isThimble r || isPf0 r) && s.usable u && natBit v 8 then s.resetAccByWrite u else s

/-- ACC_SRESET (R255). -/
def execAccSreset (requester unit : Nat) (control : Half) (s : State) : Host.Outcome State Fault Refusal :=
  .next (s.atIsland requester (islandOf unit) (fun s => s.writeAccCtrl requester unit (control ||| 0x100).toNat))

end Sys2Proof.Machine
end

