-- ==== Sys2Proof/Machine/CodeTables.lean ====
section
/-!
DEFINITION. Tables of the channel codes that R223 names, as TS 38.212 and TS 36.212 print them. The spec prints none of
them: PRESUMED, taken from those standards (the assumption log's entry on the coding standards).
-/

namespace Sys2Proof.Machine

/-! ## Polar codes (TS 38.212) -/

/-- Places 0 to 63 of the polar sequence, by rising reliability (table 5.3.1.2-1). -/
def polarOrder0 : List Nat :=
  [0, 1, 2, 4, 8, 16, 32, 3, 5, 64, 9, 6, 17, 10, 18, 128, 12, 33, 65, 20, 256, 34, 24, 36, 7, 129, 66, 512, 11, 40,
  68, 130, 19, 13, 48, 14, 72, 257, 21, 132, 35, 258, 26, 513, 80, 37, 25, 22, 136, 260, 264, 38, 514, 96, 67, 41,
  144, 28, 69, 42, 516, 49, 74, 272]

/-- Places 64 to 127 of the polar sequence, by rising reliability (table 5.3.1.2-1). -/
def polarOrder1 : List Nat :=
  [160, 520, 288, 528, 192, 544, 70, 44, 131, 81, 50, 73, 15, 320, 133, 52, 23, 134, 384, 76, 137, 82, 56, 27, 97, 39,
  259, 84, 138, 145, 261, 29, 43, 98, 515, 88, 140, 30, 146, 71, 262, 265, 161, 576, 45, 100, 640, 51, 148, 46, 75,
  266, 273, 517, 104, 162, 53, 193, 152, 77, 164, 768, 268, 274]

/-- Places 128 to 191 of the polar sequence, by rising reliability (table 5.3.1.2-1). -/
def polarOrder2 : List Nat :=
  [518, 54, 83, 57, 521, 112, 135, 78, 289, 194, 85, 276, 522, 58, 168, 139, 99, 86, 60, 280, 89, 290, 529, 524, 196,
  141, 101, 147, 176, 142, 530, 321, 31, 200, 90, 545, 292, 322, 532, 263, 149, 102, 105, 304, 296, 163, 92, 47, 267,
  385, 546, 324, 208, 386, 150, 153, 165, 106, 55, 328, 536, 577, 548, 113]

/-- Places 192 to 255 of the polar sequence, by rising reliability (table 5.3.1.2-1). -/
def polarOrder3 : List Nat :=
  [154, 79, 269, 108, 578, 224, 166, 519, 552, 195, 270, 641, 523, 275, 580, 291, 59, 169, 560, 114, 277, 156, 87,
  197, 116, 170, 61, 531, 525, 642, 281, 278, 526, 177, 293, 388, 91, 584, 769, 198, 172, 120, 201, 336, 62, 282, 143,
  103, 178, 294, 93, 644, 202, 592, 323, 392, 297, 770, 107, 180, 151, 209, 284, 648]

/-- Places 256 to 319 of the polar sequence, by rising reliability (table 5.3.1.2-1). -/
def polarOrder4 : List Nat :=
  [94, 204, 298, 400, 608, 352, 325, 533, 155, 210, 305, 547, 300, 109, 184, 534, 537, 115, 167, 225, 326, 306, 772,
  157, 656, 329, 110, 117, 212, 171, 776, 330, 226, 549, 538, 387, 308, 216, 416, 271, 279, 158, 337, 550, 672, 118,
  332, 579, 540, 389, 173, 121, 553, 199, 784, 179, 228, 338, 312, 704, 390, 174, 554, 581]

/-- Places 320 to 383 of the polar sequence, by rising reliability (table 5.3.1.2-1). -/
def polarOrder5 : List Nat :=
  [393, 283, 122, 448, 353, 561, 203, 63, 340, 394, 527, 582, 556, 181, 295, 285, 232, 124, 205, 182, 643, 562, 286,
  585, 299, 354, 211, 401, 185, 396, 344, 586, 645, 593, 535, 240, 206, 95, 327, 564, 800, 402, 356, 307, 301, 417,
  213, 568, 832, 588, 186, 646, 404, 227, 896, 594, 418, 302, 649, 771, 360, 539, 111, 331]

/-- Places 384 to 447 of the polar sequence, by rising reliability (table 5.3.1.2-1). -/
def polarOrder6 : List Nat :=
  [214, 309, 188, 449, 217, 408, 609, 596, 551, 650, 229, 159, 420, 310, 541, 773, 610, 657, 333, 119, 600, 339, 218,
  368, 652, 230, 391, 313, 450, 542, 334, 233, 555, 774, 175, 123, 658, 612, 341, 777, 220, 314, 424, 395, 673, 583,
  355, 287, 183, 234, 125, 557, 660, 616, 342, 316, 241, 778, 563, 345, 452, 397, 403, 207]

/-- Places 448 to 511 of the polar sequence, by rising reliability (table 5.3.1.2-1). -/
def polarOrder7 : List Nat :=
  [674, 558, 785, 432, 357, 187, 236, 664, 624, 587, 780, 705, 126, 242, 565, 398, 346, 456, 358, 405, 303, 569, 244,
  595, 189, 566, 676, 361, 706, 589, 215, 786, 647, 348, 419, 406, 464, 680, 801, 362, 590, 409, 570, 788, 597, 572,
  219, 311, 708, 598, 601, 651, 421, 792, 802, 611, 602, 410, 231, 688, 653, 248, 369, 190]

/-- Places 512 to 575 of the polar sequence, by rising reliability (table 5.3.1.2-1). -/
def polarOrder8 : List Nat :=
  [364, 654, 659, 335, 480, 315, 221, 370, 613, 422, 425, 451, 614, 543, 235, 412, 343, 372, 775, 317, 222, 426, 453,
  237, 559, 833, 804, 712, 834, 661, 808, 779, 617, 604, 433, 720, 816, 836, 347, 897, 243, 662, 454, 318, 675, 618,
  898, 781, 376, 428, 665, 736, 567, 840, 625, 238, 359, 457, 399, 787, 591, 678, 434, 677]

/-- Places 576 to 639 of the polar sequence, by rising reliability (table 5.3.1.2-1). -/
def polarOrder9 : List Nat :=
  [349, 245, 458, 666, 620, 363, 127, 191, 782, 407, 436, 626, 571, 465, 681, 246, 707, 350, 599, 668, 790, 460, 249,
  682, 573, 411, 803, 789, 709, 365, 440, 628, 689, 374, 423, 466, 793, 250, 371, 481, 574, 413, 603, 366, 468, 655,
  900, 805, 615, 684, 710, 429, 794, 252, 373, 605, 848, 690, 713, 632, 482, 806, 427, 904]

/-- Places 640 to 703 of the polar sequence, by rising reliability (table 5.3.1.2-1). -/
def polarOrder10 : List Nat :=
  [414, 223, 663, 692, 835, 619, 472, 455, 796, 809, 714, 721, 837, 716, 864, 810, 606, 912, 722, 696, 377, 435, 817,
  319, 621, 812, 484, 430, 838, 667, 488, 239, 378, 459, 622, 627, 437, 380, 818, 461, 496, 669, 679, 724, 841, 629,
  351, 467, 438, 737, 251, 462, 442, 441, 469, 247, 683, 842, 738, 899, 670, 783, 849, 820]

/-- Places 704 to 767 of the polar sequence, by rising reliability (table 5.3.1.2-1). -/
def polarOrder11 : List Nat :=
  [728, 928, 791, 367, 901, 630, 685, 844, 633, 711, 253, 691, 824, 902, 686, 740, 850, 375, 444, 470, 483, 415, 485,
  905, 795, 473, 634, 744, 852, 960, 865, 693, 797, 906, 715, 807, 474, 636, 694, 254, 717, 575, 913, 798, 811, 379,
  697, 431, 607, 489, 866, 723, 486, 908, 718, 813, 476, 856, 839, 725, 698, 914, 752, 868]

/-- Places 768 to 831 of the polar sequence, by rising reliability (table 5.3.1.2-1). -/
def polarOrder12 : List Nat :=
  [819, 814, 439, 929, 490, 623, 671, 739, 916, 463, 843, 381, 497, 930, 821, 726, 961, 872, 492, 631, 729, 700, 443,
  741, 845, 920, 382, 822, 851, 730, 498, 880, 742, 445, 471, 635, 932, 687, 903, 825, 500, 846, 745, 826, 732, 446,
  962, 936, 475, 853, 867, 637, 907, 487, 695, 746, 828, 753, 854, 857, 504, 799, 255, 964]

/-- Places 832 to 895 of the polar sequence, by rising reliability (table 5.3.1.2-1). -/
def polarOrder13 : List Nat :=
  [909, 719, 477, 915, 638, 748, 944, 869, 491, 699, 754, 858, 478, 968, 383, 910, 815, 976, 870, 917, 727, 493, 873,
  701, 931, 756, 860, 499, 731, 823, 922, 874, 918, 502, 933, 743, 760, 881, 494, 702, 921, 501, 876, 847, 992, 447,
  733, 827, 934, 882, 937, 963, 747, 505, 855, 924, 734, 829, 965, 938, 884, 506, 749, 945]

/-- Places 896 to 959 of the polar sequence, by rising reliability (table 5.3.1.2-1). -/
def polarOrder14 : List Nat :=
  [966, 755, 859, 940, 830, 911, 871, 639, 888, 479, 946, 750, 969, 508, 861, 757, 970, 919, 875, 862, 758, 948, 977,
  923, 972, 761, 877, 952, 495, 703, 935, 978, 883, 762, 503, 925, 878, 735, 993, 885, 939, 994, 980, 926, 764, 941,
  967, 886, 831, 947, 507, 889, 984, 751, 942, 996, 971, 890, 509, 949, 973, 1000, 892, 950]

/-- Places 960 to 1023 of the polar sequence, by rising reliability (table 5.3.1.2-1). -/
def polarOrder15 : List Nat :=
  [863, 759, 1008, 510, 979, 953, 763, 974, 954, 879, 981, 982, 927, 995, 765, 956, 887, 985, 997, 986, 943, 891, 998,
  766, 511, 988, 1001, 951, 1002, 893, 975, 894, 1009, 955, 1004, 1010, 957, 983, 958, 987, 1012, 999, 1016, 767, 989,
  1003, 990, 1005, 959, 1011, 1013, 895, 1006, 1014, 1017, 1018, 991, 1020, 1007, 1015, 1019, 1021, 1022, 1023]

/-- The polar sequence. -/
def polarOrder : List Nat :=
  polarOrder0 ++ polarOrder1 ++ polarOrder2 ++ polarOrder3 ++ polarOrder4 ++ polarOrder5 ++ polarOrder6 ++
    polarOrder7 ++ polarOrder8 ++ polarOrder9 ++ polarOrder10 ++ polarOrder11 ++ polarOrder12 ++ polarOrder13
    ++ polarOrder14 ++ polarOrder15

/-- Places 0 to 81 of the interleaver pattern of 164 bits (table 5.3.1.1-1). -/
def polarPattern0 : List Nat :=
  [0, 2, 4, 7, 9, 14, 19, 20, 24, 25, 26, 28, 31, 34, 42, 45, 49, 50, 51, 53, 54, 56, 58, 59, 61, 62, 65, 66, 67, 69,
  70, 71, 72, 76, 77, 81, 82, 83, 87, 88, 89, 91, 93, 95, 98, 101, 104, 106, 108, 110, 111, 113, 115, 118, 119, 120,
  122, 123, 126, 127, 129, 132, 134, 138, 139, 140, 1, 3, 5, 8, 10, 15, 21, 27, 29, 32, 35, 43, 46, 52, 55, 57]

/-- Places 82 to 163 of the interleaver pattern of 164 bits (table 5.3.1.1-1). -/
def polarPattern1 : List Nat :=
  [60, 63, 68, 73, 78, 84, 90, 92, 94, 96, 99, 102, 105, 107, 109, 112, 114, 116, 121, 124, 128, 130, 133, 135, 141,
  6, 11, 16, 22, 30, 33, 36, 44, 47, 64, 74, 79, 85, 97, 100, 103, 117, 125, 131, 136, 142, 12, 17, 23, 37, 48, 75,
  80, 86, 137, 143, 13, 18, 38, 144, 39, 145, 40, 146, 41, 147, 148, 149, 150, 151, 152, 153, 154, 155, 156, 157, 158,
  159, 160, 161, 162, 163]

/-- The interleaver of a code of `k` bits (TS 38.212, 5.3.1.1): the places of the pattern from 164 − k on, less that start. -/
def polarInterleaver (k : Nat) : List Nat :=
  ((polarPattern0 ++ polarPattern1).filter (fun p => decide (164 ≤ p + k))).map (fun p => p - (164 - k))

/-! ## Turbo codes (TS 36.212) -/

/-- K, f1 and f2 of the turbo internal interleaver (table 5.1.3-3), entries 1 to 47. -/
def turboTable0 : List (Nat × Nat × Nat) :=
  [(40, 3, 10), (48, 7, 12), (56, 19, 42), (64, 7, 16), (72, 7, 18), (80, 11, 20), (88, 5, 22), (96, 11, 24), (104, 7,
  26), (112, 41, 84), (120, 103, 90), (128, 15, 32), (136, 9, 34), (144, 17, 108), (152, 9, 38), (160, 21, 120), (168,
  101, 84), (176, 21, 44), (184, 57, 46), (192, 23, 48), (200, 13, 50), (208, 27, 52), (216, 11, 36), (224, 27, 56),
  (232, 85, 58), (240, 29, 60), (248, 33, 62), (256, 15, 32), (264, 17, 198), (272, 33, 68), (280, 103, 210), (288,
  19, 36), (296, 19, 74), (304, 37, 76), (312, 19, 78), (320, 21, 120), (328, 21, 82), (336, 115, 84), (344, 193, 86),
  (352, 21, 44), (360, 133, 90), (368, 81, 46), (376, 45, 94), (384, 23, 48), (392, 243, 98), (400, 151, 40), (408,
  155, 102)]

/-- K, f1 and f2 of the turbo internal interleaver (table 5.1.3-3), entries 48 to 94. -/
def turboTable1 : List (Nat × Nat × Nat) :=
  [(416, 25, 52), (424, 51, 106), (432, 47, 72), (440, 91, 110), (448, 29, 168), (456, 29, 114), (464, 247, 58), (472,
  29, 118), (480, 89, 180), (488, 91, 122), (496, 157, 62), (504, 55, 84), (512, 31, 64), (528, 17, 66), (544, 35,
  68), (560, 227, 420), (576, 65, 96), (592, 19, 74), (608, 37, 76), (624, 41, 234), (640, 39, 80), (656, 185, 82),
  (672, 43, 252), (688, 21, 86), (704, 155, 44), (720, 79, 120), (736, 139, 92), (752, 23, 94), (768, 217, 48), (784,
  25, 98), (800, 17, 80), (816, 127, 102), (832, 25, 52), (848, 239, 106), (864, 17, 48), (880, 137, 110), (896, 215,
  112), (912, 29, 114), (928, 15, 58), (944, 147, 118), (960, 29, 60), (976, 59, 122), (992, 65, 124), (1008, 55, 84),
  (1024, 31, 64), (1056, 17, 66), (1088, 171, 204)]

/-- K, f1 and f2 of the turbo internal interleaver (table 5.1.3-3), entries 95 to 141. -/
def turboTable2 : List (Nat × Nat × Nat) :=
  [(1120, 67, 140), (1152, 35, 72), (1184, 19, 74), (1216, 39, 76), (1248, 19, 78), (1280, 199, 240), (1312, 21, 82),
  (1344, 211, 252), (1376, 21, 86), (1408, 43, 88), (1440, 149, 60), (1472, 45, 92), (1504, 49, 846), (1536, 71, 48),
  (1568, 13, 28), (1600, 17, 80), (1632, 25, 102), (1664, 183, 104), (1696, 55, 954), (1728, 127, 96), (1760, 27,
  110), (1792, 29, 112), (1824, 29, 114), (1856, 57, 116), (1888, 45, 354), (1920, 31, 120), (1952, 59, 610), (1984,
  185, 124), (2016, 113, 420), (2048, 31, 64), (2112, 17, 66), (2176, 171, 136), (2240, 209, 420), (2304, 253, 216),
  (2368, 367, 444), (2432, 265, 456), (2496, 181, 468), (2560, 39, 80), (2624, 27, 164), (2688, 127, 504), (2752, 143,
  172), (2816, 43, 88), (2880, 29, 300), (2944, 45, 92), (3008, 157, 188), (3072, 47, 96), (3136, 13, 28)]

/-- K, f1 and f2 of the turbo internal interleaver (table 5.1.3-3), entries 142 to 188. -/
def turboTable3 : List (Nat × Nat × Nat) :=
  [(3200, 111, 240), (3264, 443, 204), (3328, 51, 104), (3392, 51, 212), (3456, 451, 192), (3520, 257, 220), (3584,
  57, 336), (3648, 313, 228), (3712, 271, 232), (3776, 179, 236), (3840, 331, 120), (3904, 363, 244), (3968, 375,
  248), (4032, 127, 168), (4096, 31, 64), (4160, 33, 130), (4224, 43, 264), (4288, 33, 134), (4352, 477, 408), (4416,
  35, 138), (4480, 233, 280), (4544, 357, 142), (4608, 337, 480), (4672, 37, 146), (4736, 71, 444), (4800, 71, 120),
  (4864, 37, 152), (4928, 39, 462), (4992, 127, 234), (5056, 39, 158), (5120, 39, 80), (5184, 31, 96), (5248, 113,
  902), (5312, 41, 166), (5376, 251, 336), (5440, 43, 170), (5504, 21, 86), (5568, 43, 174), (5632, 45, 176), (5696,
  45, 178), (5760, 161, 120), (5824, 89, 182), (5888, 323, 184), (5952, 47, 186), (6016, 23, 94), (6080, 47, 190),
  (6144, 263, 480)]

/-- The 188 entries of the table. -/
def turboTable : List (Nat × Nat × Nat) := turboTable0 ++ turboTable1 ++ turboTable2 ++ turboTable3

/-- f1 and f2 of block length `k`. -/
def turboQpp (k : Nat) : Nat × Nat :=
  match turboTable.find? (fun e => e.1 == k) with
  | some e => e.2
  | none => (1, 0)

end Sys2Proof.Machine
end

