-- ==== Sys2Proof/Machine/ElrynMac.lean ====
section
/-!
DEFINITION. The multiply-accumulate, extraction and search instructions (R139 to R141, R188).
-/

namespace Sys2Proof.Machine

/-- Signed 16-bit field i of a word. -/
def half16 (w : Word) (i : Nat) : Int := (w.extractLsb' (16 * i) 16).toInt

/-- Clamp to a signed width; the flag says whether it clamped. -/
def satTo (w : Nat) (v : Int) : Int × Bool :=
  if 2 ^ (w - 1) - 1 < v then (2 ^ (w - 1) - 1, true) else if v < -(2 ^ (w - 1)) then (-(2 ^ (w - 1)), true) else (v, false)

/-- v / 2^n rounded: mode 0 half up, 1 half to even, 2 truncated downward (R140, R168). -/
def roundShift (rnd n : Nat) (v : Int) : Int :=
  if n = 0 then v
  else match rnd with
    | 2 => v / 2 ^ n
    | 1 =>
      let q := v / 2 ^ n
      let r := v - q * 2 ^ n
      if 2 * r < 2 ^ n then q else if 2 ^ n < 2 * r then q + 1 else if q % 2 = 0 then q else q + 1
    | _ => (v + 2 ^ (n - 1)) / 2 ^ n

/-- Accumulate v into accumulator k with sat40 (R139). -/
def Engine.accumulate (e : Engine) (k : BitVec 2) (v : Int) : Engine :=
  let r := satTo 40 (e.acc k + v)
  (e.setAcc k r.1).orAsat r.2

/-- MACR (sign 1) and MSUR (sign −1) on four products. -/
def Engine.macr (e : Engine) (sign : Int) (x y : Word) : Engine :=
  (((e.accumulate 0 (sign * (half16 x 0 * half16 y 0))).accumulate 1 (sign * (half16 x 1 * half16 y 1))).accumulate 2
    (sign * (half16 x 2 * half16 y 2))).accumulate 3 (sign * (half16 x 3 * half16 y 3))

/-- The real and imaginary accumulators of a pair. -/
def pairRe (p : Bool) : BitVec 2 := if p then 2 else 0
def pairIm (p : Bool) : BitVec 2 := if p then 3 else 1

/-- CMAC, or CMACJ where `conj` holds, on pair p (R139). -/
def Engine.cmac (e : Engine) (conj p : Bool) (xr xi yr yi : Int) : Engine :=
  let re := if conj then xr * yr + xi * yi else xr * yr - xi * yi
  let im := if conj then xi * yr - xr * yi else xr * yi + xi * yr
  (e.accumulate (pairRe p) re).accumulate (pairIm p) im

/-- ACCX's value of a 40-bit number: rounded, clamped to w bits (R140). -/
def extractAcc (rnd n w : Nat) (v : Int) : Int × Bool := satTo w (roundShift rnd n v)

/-- MACR (R139). -/
def execIMacr (engine : Nat) (gs gt : BitVec 5) (s : State) : Host.Outcome State Fault Refusal :=
  .next (s.regOp engine (fun e => e.macr 1 (e.reg gs) (e.reg gt)))
/-- MSUR (R139). -/
def execIMsur (engine : Nat) (gs gt : BitVec 5) (s : State) : Host.Outcome State Fault Refusal :=
  .next (s.regOp engine (fun e => e.macr (-1) (e.reg gs) (e.reg gt)))
/-- CMAC (R139), on the complex values in bits 31:0. -/
def execICmac (engine : Nat) (pair : Bool) (gs gt : BitVec 5) (s : State) : Host.Outcome State Fault Refusal :=
  .next (s.regOp engine (fun e =>
    e.cmac false pair (half16 (e.reg gs) 0) (half16 (e.reg gs) 1) (half16 (e.reg gt) 0) (half16 (e.reg gt) 1)))
/-- CMACJ (R139). -/
def execICmacj (engine : Nat) (pair : Bool) (gs gt : BitVec 5) (s : State) : Host.Outcome State Fault Refusal :=
  .next (s.regOp engine (fun e =>
    e.cmac true pair (half16 (e.reg gs) 0) (half16 (e.reg gs) 1) (half16 (e.reg gt) 0) (half16 (e.reg gt) 1)))
/-- ACCZ (R139): the accumulators of the mask. -/
def execIAccz (engine : Nat) (mask : BitVec 4) (s : State) : Host.Outcome State Fault Refusal :=
  .next (s.regOp engine (fun e =>
    (List.range 4).foldl (fun e k => if mask.getLsbD k then e.setAcc (BitVec.ofNat 2 k) 0 else e) e))
/-- ACCX (R140). -/
def execIAccx (engine : Nat) (gd : BitVec 5) (k : BitVec 2) (n : BitVec 5) (wide : Bool) (s : State) :
    Host.Outcome State Fault Refusal :=
  .next (s.regOp engine (fun e =>
    let r := extractAcc e.rnd n.toNat (if wide then 32 else 16) (e.acc k)
    (e.setReg gd (BitVec.ofInt 64 r.1)).orSat r.2))
/-- CACCX (R140): a packed complex value, sign-extended from bit 31. -/
def execICaccx (engine : Nat) (gd : BitVec 5) (pair : Bool) (n : BitVec 5) (s : State) :
    Host.Outcome State Fault Refusal :=
  .next (s.regOp engine (fun e =>
    let a := extractAcc e.rnd n.toNat 16 (e.acc (pairRe pair))
    let b := extractAcc e.rnd n.toNat 16 (e.acc (pairIm pair))
    let v : BitVec 32 := BitVec.ofInt 16 b.1 ++ BitVec.ofInt 16 a.1
    (e.setReg gd (v.signExtend 64)).orSat (a.2 || b.2)))
/-- ACCR (R188). -/
def execIAccr (engine : Nat) (gd : BitVec 5) (k : BitVec 2) (s : State) : Host.Outcome State Fault Refusal :=
  .next (s.regOp engine (fun e => e.setReg gd (BitVec.ofInt 64 (e.acc k))))
/-- ACCW (R188). -/
def execIAccw (engine : Nat) (k : BitVec 2) (gs : BitVec 5) (s : State) : Host.Outcome State Fault Refusal :=
  .next (s.regOp engine (fun e => e.setAcc k (e.reg gs).toInt))

/-! ## Search (R141) -/

/-- Candidate e of a search: it replaces the best value where it is better, or where SRCHI has run since the last
replacement. -/
def Engine.candidate (e : Engine) (i : Nat) (key : BitVec 32) (better : BitVec 32 → BitVec 32 → Bool) : Engine :=
  if e.srchArmed || better key e.srchVal then
    { e with srchVal := key, srchIdx := e.srchBase + BitVec.ofNat 32 i, srchArmed := false }
  else e

/-- Examine keys in ascending order and advance SRCH_BASE past them. -/
def Engine.search (e : Engine) (keys : List (BitVec 32)) (better : BitVec 32 → BitVec 32 → Bool) : Engine :=
  let f := (keys.zipIdx).foldl (fun (e : Engine) p => e.candidate p.2 p.1 better) e
  { f with srchBase := f.srchBase + BitVec.ofNat 32 keys.length }

/-- The greater of signed keys wins, the smaller, the greater of unsigned ones. -/
def searchMax (k v : BitVec 32) : Bool := v.slt k
def searchMin (k v : BitVec 32) : Bool := k.slt v
def searchMag (k v : BitVec 32) : Bool := v.ult k

/-- The keys of four 16-bit fields, and of two complex values. -/
def keysOf (w : Word) : List (BitVec 32) := (List.range 4).map (fun i => BitVec.ofInt 32 (half16 w i))
def magKey (re im : Int) : BitVec 32 := BitVec.ofInt 32 (re * re + im * im)
def magKeysOf (w : Word) : List (BitVec 32) :=
  [magKey (half16 w 0) (half16 w 1), magKey (half16 w 2) (half16 w 3)]

/-- SRCHI (R141). -/
def execISrchi (engine : Nat) (gs : BitVec 5) (s : State) : Host.Outcome State Fault Refusal :=
  .next (s.regOp engine (fun e => { e with srchBase := (e.reg gs).setWidth 32, srchArmed := true }))
/-- SMAX (R141). -/
def execISmax (engine : Nat) (gs : BitVec 5) (s : State) : Host.Outcome State Fault Refusal :=
  .next (s.regOp engine (fun e => e.search (keysOf (e.reg gs)) searchMax))
/-- SMIN (R141). -/
def execISmin (engine : Nat) (gs : BitVec 5) (s : State) : Host.Outcome State Fault Refusal :=
  .next (s.regOp engine (fun e => e.search (keysOf (e.reg gs)) searchMin))
/-- CMAXM (R141). -/
def execICmaxm (engine : Nat) (gs : BitVec 5) (s : State) : Host.Outcome State Fault Refusal :=
  .next (s.regOp engine (fun e => e.search (magKeysOf (e.reg gs)) searchMag))

end Sys2Proof.Machine
end

