-- ==== Sys2Proof/Machine/VectorOps.lean ====
section
/-!
DEFINITION. The element operations of the vector side (R161 to R171), on `len` elements and under a rounding mode: native
code passes VLe and STATUS.RND, MB-DSP code every element and MB_SR.RNDM (R199).
-/

namespace Sys2Proof

/-- The width of an element (R161). -/
def ElemType.width : ElemType → Nat
  | .b => 8 | .h => 16 | .w => 32 | .d => 64 | .ch => 32 | .cw => 64

/-- Elements per register (R161). -/
def ElemType.count : ElemType → Nat
  | .b => 16 | .h => 8 | .w => 4 | .d => 2 | .ch => 4 | .cw => 2

/-- The parts of an element: two for complex types. -/
def ElemType.parts : ElemType → Nat
  | .ch => 2 | .cw => 2 | _ => 1

/-- The width of a part. -/
def ElemType.partWidth : ElemType → Nat
  | .ch => 16 | .cw => 32 | t => t.width

end Sys2Proof

namespace Sys2Proof.Machine

/-- Field i of w bits of a vector register. -/
def vField (x : Vec) (w i : Nat) : Nat := x.toNat / 2 ^ (w * i) % 2 ^ w

/-- Field i of w bits as a signed number. -/
def vPart (x : Vec) (w i : Nat) : Int := toSigned w (vField x w i)

/-- The register with field i of w bits replaced. -/
def vPut (x : Vec) (w i v : Nat) : Vec :=
  (x &&& ~~~(BitVec.ofNat 128 ((2 ^ w - 1) * 2 ^ (w * i)))) ||| BitVec.ofNat 128 (v % 2 ^ w * 2 ^ (w * i))

/-- The register with fields 0 to n − 1 of w bits replaced by `f`. -/
def vFill (x : Vec) (w n : Nat) (f : Nat → Nat) : Vec := (List.range n).foldl (fun x i => vPut x w i (f i)) x

/-- VLe of type t (R163). -/
def Engine.vle (e : Engine) (t : ElemType) : Nat := min e.vl t.count

/-- Write `f i` into parts of the first `len` elements of vd, with SAT where one of them saturated. -/
def Engine.vParts (e : Engine) (t : ElemType) (len : Nat) (vd : BitVec 5) (f : Nat → Int × Bool) : Engine :=
  let n := len * t.parts
  (e.setVec vd (vFill (e.vec vd) t.partWidth n (fun i => ofSigned t.partWidth (f i).1))).orSat
    ((List.range n).any (fun i => (f i).2))

/-- An operation of two operands on each part, saturating or wrapping. -/
def Engine.vBin (e : Engine) (t : ElemType) (len : Nat) (sat : Bool) (vd vs vt : BitVec 5) (f : Int → Int → Int) : Engine :=
  let x := e.vec vs
  let y := e.vec vt
  let w := t.partWidth
  e.vParts t len vd (fun i => let v := f (vPart x w i) (vPart y w i); if sat then satTo w v else (v, false))

/-- An operation of one operand on each part. -/
def Engine.vUn (e : Engine) (t : ElemType) (len : Nat) (vd vs : BitVec 5) (f : Int → Int × Bool) : Engine :=
  let x := e.vec vs
  e.vParts t len vd (fun i => f (vPart x t.partWidth i))

/-- Both parts of complex element i of 16-bit parts. -/
def chPart (x : Vec) (i : Nat) : Int × Int := (vPart x 16 (2 * i), vPart x 16 (2 * i + 1))

/-- Real and imaginary parts of x times y, or of x times the conjugate of y (R170). -/
def cmulExact (conj : Bool) (x y : Int × Int) : Int × Int :=
  if conj then (x.1 * y.1 + x.2 * y.2, x.2 * y.1 - x.1 * y.2) else (x.1 * y.1 - x.2 * y.2, x.1 * y.2 + x.2 * y.1)

/-- A complex result on each CH element. -/
def Engine.vComplex (e : Engine) (len : Nat) (vd vs vt : BitVec 5) (f : Int × Int → Int × Int → (Int × Bool) × (Int × Bool)) :
    Engine :=
  let x := e.vec vs
  let y := e.vec vt
  e.vParts .ch len vd (fun i =>
    let r := f (chPart x (i / 2)) (chPart y (i / 2))
    if i % 2 = 0 then r.1 else r.2)

/-- VCONJS (R169). -/
def Engine.vConj (e : Engine) (len : Nat) (vd vs : BitVec 5) : Engine :=
  let x := e.vec vs
  e.vParts .ch len vd (fun i => if i % 2 = 0 then (vPart x 16 i, false) else satTo 16 (-vPart x 16 i))

/-- VMULQ (R169). -/
def Engine.vMulq (e : Engine) (rnd len : Nat) (vd vs vt : BitVec 5) : Engine :=
  e.vBin .h len true vd vs vt (fun x y => roundShift rnd 15 (x * y))

/-- VCMULQ and VCMULJQ (R170). -/
def Engine.vCmulq (e : Engine) (conj : Bool) (rnd len : Nat) (vd vs vt : BitVec 5) : Engine :=
  e.vComplex len vd vs vt (fun x y =>
    let r := cmulExact conj x y
    (satTo 16 (roundShift rnd 15 r.1), satTo 16 (roundShift rnd 15 r.2)))

/-- VSHRR (R169). -/
def Engine.vShrr (e : Engine) (t : ElemType) (rnd len n : Nat) (vd vs : BitVec 5) : Engine :=
  e.vUn t len vd vs (fun x => (roundShift rnd n x, false))

/-- VSHLS (R169). -/
def Engine.vShls (e : Engine) (t : ElemType) (len n : Nat) (vd vs : BitVec 5) : Engine :=
  e.vUn t len vd vs (fun x => satTo t.partWidth (x * 2 ^ n))

/-- VNARW (R169). -/
def Engine.vNarw (e : Engine) (rnd len n : Nat) (vd vs vt : BitVec 5) : Engine :=
  let x := e.vec vs
  let y := e.vec vt
  e.vParts .h len vd (fun i => satTo 16 (roundShift rnd n (if i < 4 then vPart x 32 i else vPart y 32 (i - 4))))

/-- VWIDL and VWIDH, with `off` 0 and 4 (R169). -/
def Engine.vWid (e : Engine) (len off : Nat) (vd vs : BitVec 5) : Engine :=
  let x := e.vec vs
  e.vParts .w len vd (fun i => (vPart x 16 (i + off), false))

/-- VPERM (R169). -/
def Engine.vPerm (e : Engine) (len : Nat) (vd vs vt : BitVec 5) : Engine :=
  let x := e.vec vs
  let y := e.vec vt
  e.setVec vd (vFill (e.vec vd) 8 len (fun i =>
    let k := vField y 8 i
    if k.testBit 7 then 0 else vField x 8 (k % 16)))

/-- VSPLAT (R169). -/
def Engine.vSplat (e : Engine) (t : ElemType) (len : Nat) (vd : BitVec 5) (v : Word) : Engine :=
  e.setVec vd (vFill (e.vec vd) t.width len (fun _ => v.toNat))

/-- Pairs of products go to the accumulators in ascending order (R171): the term of element i goes to accumulator
i mod 4. -/
def Engine.vMac (e : Engine) (len : Nat) (vs vt : BitVec 5) (acc : Engine → BitVec 2 → Int → Int → Engine) : Engine :=
  let x := e.vec vs
  let y := e.vec vt
  (List.range len).foldl (fun e i => acc e (BitVec.ofNat 2 i) (vPart x 16 i) (vPart y 16 i)) e

/-- The complex accumulation of R171 on each CH element. -/
def Engine.vCmac (e : Engine) (len : Nat) (vs vt : BitVec 5) (acc : Engine → Int × Int → Int × Int → Engine) : Engine :=
  let x := e.vec vs
  let y := e.vec vt
  (List.range len).foldl (fun e i => acc e (chPart x i) (chPart y i)) e

/-- The search keys of H elements and of CH elements (R171). -/
def vKeys (x : Vec) (len : Nat) : List (BitVec 32) := (List.range len).map (fun i => BitVec.ofInt 32 (vPart x 16 i))
def vMagKeys (x : Vec) (len : Nat) : List (BitVec 32) :=
  (List.range len).map (fun i => magKey (chPart x i).1 (chPart x i).2)

/-- The count of bits after the sign bit that equal it (R171). -/
def redundantSign (w : Nat) (v : Int) : Nat :=
  let m := (if v < 0 then -v - 1 else v).toNat
  w - 1 - (if m = 0 then 0 else m.log2 + 1)

/-- VEXP: the least such count over the parts of the first `len` elements; w − 1 where there is none. -/
def vExponent (x : Vec) (t : ElemType) (len : Nat) : Nat :=
  (List.range (len * t.parts)).foldl (fun m i => min m (redundantSign t.partWidth (vPart x t.partWidth i))) (t.partWidth - 1)

/-- Field k of w bits, sign-extended to 64 bits. -/
def vExtract (x : Vec) (w k : Nat) : Word := BitVec.ofInt 64 (vPart x w k)

end Sys2Proof.Machine
end

