-- ==== Sys2Proof/Machine/Coding.lean ====
section
/-!
DEFINITION. The arithmetic of channel coding (R224, R225, R232 to R252). What R223 leaves to TS 38.212 and TS 36.212 is taken
from those standards (PRESUMED): polynomials, the scrambling sequence, block lengths, rate matching, the encoders and
the tables of CodeTables. The LDPC base graphs, and the decoders whose arithmetic the spec does not print, are opaque (Config).
-/

namespace Sys2Proof.Machine

/-! ## Bits and soft values -/

/-- The first n bits of a buffer (R225). -/
def bitsIn (l : List Byte) (n : Nat) : List Bool :=
  (List.range n).map (fun i => (l.getD (i / 8) 0).getLsbD (i % 8))

/-- Bits as the bytes of a buffer of n bytes, zeros behind them (R225). -/
def bitsOut (n : Nat) (l : List Bool) : List Byte :=
  (List.range n).map (fun i => BitVec.ofNat 8
    (((List.range 8).map (fun k => if l.getD (8 * i + k) false then 2 ^ k else 0)).sum))

/-- A soft value: a signed byte, −128 read as −127 (R224). -/
def llrIn (b : Byte) : Int := max b.toInt (-127)

/-- The first n soft values of a buffer. -/
def llrsIn (l : List Byte) (n : Nat) : List Int := (List.range n).map (fun i => llrIn (l.getD i 0))

/-- Soft values as the bytes of a buffer of n bytes. -/
def llrsOut (n : Nat) (l : List Int) : List Byte := (List.range n).map (fun i => BitVec.ofInt 8 (l.getD i 0))

/-- Clamp to ±m. -/
def clampTo (m v : Int) : Int := max (-m) (min v m)

/-- A number of w bits as bits, most significant first, exclusive-ored into the end of a CRC. -/
def maskBits (crc : List Bool) (mask : Nat) : List Bool :=
  let n := crc.length
  (List.range n).map (fun i => (crc.getD i false) != (decide (n ≤ i + 16) && mask.testBit (n - 1 - i)))

/-- The CRCs of TS 38.212 and TS 36.212 by width and polynomial. -/
def crc24A : Nat × Nat := (24, 0x864CFB)
def crc24B : Nat × Nat := (24, 0x800063)
def crc24C : Nat × Nat := (24, 0xB2B117)
def crc16 : Nat × Nat := (16, 0x1021)
def crc11 : Nat × Nat := (11, 0x621)
def crc8 : Nat × Nat := (8, 0x9B)
def crc6 : Nat × Nat := (6, 0x21)

/-- The parity bits of a bit sequence. -/
def crcOf (c : Nat × Nat) (l : List Bool) : List Bool := natBits c.1 (crcBits c.1 c.2 0 l)

/-- A sequence that ends with its CRC checks. -/
def crcPasses (c : Nat × Nat) (l : List Bool) : Bool := crcBits c.1 c.2 0 l == 0

/-- One step of the two registers of the scrambling sequence of TS 38.211, 31 bits each. -/
def goldStep (x : Nat × Nat) : Nat × Nat :=
  let a := (x.1.testBit 3) != (x.1.testBit 0)
  let b := ((x.2.testBit 3) != (x.2.testBit 2)) != ((x.2.testBit 1) != (x.2.testBit 0))
  (x.1 / 2 + (if a then 2 ^ 30 else 0), x.2 / 2 + (if b then 2 ^ 30 else 0))

/-- The registers n steps on. -/
def goldSkip : Nat → Nat × Nat → Nat × Nat
  | 0, x => x
  | n + 1, x => goldSkip n (goldStep x)

/-- n bits of the sequence from registers. -/
def goldRun : Nat → Nat × Nat → List Bool
  | 0, _ => []
  | n + 1, x => ((x.1.testBit 0) != (x.2.testBit 0)) :: goldRun n (goldStep x)

/-- n bits of the scrambling sequence of c_init from sequence index `from_`. -/
def goldBits (cinit from_ n : Nat) : List Bool := goldRun n (goldSkip (1600 + from_) (1, cinit % 2 ^ 31))

/-- Bits scrambled from a sequence index. -/
def scramble (cinit from_ : Nat) (l : List Bool) : List Bool :=
  (l.zip (goldBits cinit from_ l.length)).map (fun p => p.1 != p.2)

/-! ## LDPC -/

/-- The 51 lifting sizes. -/
def zcValid (z : Nat) : Bool :=
  decide (2 ≤ z) && decide (z ≤ 384)
    && (List.range 8).any (fun j => [2, 3, 5, 7, 9, 11, 13, 15].any (fun a => a * 2 ^ j == z))

/-- K, N and the rows of a base graph for a lifting size (R232). -/
def ldpcK (bg2 : Bool) (z : Nat) : Nat := (if bg2 then 10 else 22) * z
def ldpcN (bg2 : Bool) (z : Nat) : Nat := (if bg2 then 50 else 66) * z
def ldpcRows (bg2 : Bool) : Nat := if bg2 then 42 else 46

/-- The codeword positions that row r of layer j checks, in column order. -/
def ldpcEdges (bg2 : Bool) (z j r : Nat) : List Nat :=
  (Config.ldpcRow bg2 z j).map (fun e => e.1 * z + (r + e.2) % z)

/-- A posterior per codeword position, and the messages of each check row (R233). -/
structure LdpcState where
  p : List Int
  r : List (List Int)

/-- The least magnitude of a list, the place where it comes first, and the least of the others. -/
def twoLeast (l : List Nat) : Nat × Nat × Nat :=
  let m := l.foldl min 0xFFFF
  let i := l.findIdx (fun x => x == m)
  (m, i, (l.eraseIdx i).foldl min 0xFFFF)

/-- The sign of a message: the hard decision of R233 takes 0 as positive. -/
def signOf (v : Int) : Int := if v < 0 then -1 else 1

/-- One row of one layer (R233). -/
def ldpcRowStep (alpha : Nat) (edges : List Nat) (row : Nat) (s : LdpcState) : LdpcState :=
  let old := s.r.getD row []
  let q := edges.zipIdx.map (fun e => clampTo 127 (s.p.getD e.1 0 - old.getD e.2 0))
  let t := twoLeast (q.map Int.natAbs)
  let sgn := q.foldl (fun a v => a * signOf v) 1
  let msg := q.zipIdx.map (fun e =>
    let mag := if e.2 = t.2.1 then min t.2.2 127 else t.1
    sgn * signOf e.1 * ((alpha * mag / 16 : Nat) : Int))
  let p := (edges.zipIdx).foldl (fun (p : List Int) e =>
    p.set e.1 (clampTo 511 (q.getD e.2 0 + msg.getD e.2 0))) s.p
  ⟨p, s.r.set row msg⟩

/-- One iteration: the layers in row order. -/
def ldpcIterate (bg2 : Bool) (z m alpha : Nat) (s : LdpcState) : LdpcState :=
  (List.range m).foldl (fun s j =>
    (List.range z).foldl (fun s r => ldpcRowStep alpha (ldpcEdges bg2 z j r) (j * z + r) s) s) s

/-- The hard decisions. -/
def hardBits (p : List Int) : List Bool := p.map (fun v => decide (v < 0))

/-- The syndrome test of the m layers (R234). -/
def ldpcSyndrome (bg2 : Bool) (z m : Nat) (p : List Int) : Bool :=
  (List.range m).all (fun j => (List.range z).all (fun r =>
    !((ldpcEdges bg2 z j r).foldl (fun b e => b != decide (p.getD e 0 < 0)) false)))

/-- The stopping rule of ES_MODE (R234): 0 none, 1 syndrome, 2 CRC, 3 both. -/
def ldpcStops (mode : Nat) (syn crc : Bool) : Bool :=
  match mode with
  | 1 => syn | 2 => crc | 3 => syn && crc | _ => false

/-- Iterate until the stopping rule holds or the limit is reached: the state and the iterations run. -/
def ldpcLoop (bg2 : Bool) (z m alpha mode kp : Nat) : Nat → Nat → LdpcState → LdpcState × Nat
  | 0, n, s => (s, n)
  | fuel + 1, n, s =>
    let s := ldpcIterate bg2 z m alpha s
    let syn := ldpcSyndrome bg2 z m s.p
    let crc := crcPasses crc24B ((hardBits s.p).take kp)
    if ldpcStops mode syn crc then (s, n + 1) else ldpcLoop bg2 z m alpha mode kp fuel (n + 1) s

/-- The posteriors at the start (R233). -/
def ldpcInit (bg2 : Bool) (z ncb kp : Nat) (staging : List Int) : List Int :=
  (List.range (ldpcN bg2 z + 2 * z)).map (fun k =>
    if kp ≤ k ∧ k < ldpcK bg2 z then 127
    else if k < 2 * z then 0
    else if k - 2 * z < ncb then staging.getD (k - 2 * z) 0 else 0)

/-- One decoded block: K' bits, whether it is good, and the iterations run. -/
def ldpcDecodeBlock (bg2 : Bool) (z m ncb kp alpha mode limit : Nat) (cbCrc : Bool) (staging : List Int) :
    List Bool × Bool × Nat :=
  let a := if alpha = 0 then 16 else alpha
  let r := ldpcLoop bg2 z m a mode kp limit 0
    ⟨ldpcInit bg2 z ncb kp staging, List.replicate (m * z) []⟩
  let bits := (hardBits r.1.p).take kp
  (bits, ldpcSyndrome bg2 z m r.1.p && (!cbCrc || crcPasses crc24B bits), r.2)

/-- Bits that satisfy parity checks: each check is the coefficients of the bits and the parity they must have. Elimination over
GF(2); a bit that the checks leave free is 0. -/
def solveBits : Nat → List (List Bool × Bool) → List Bool
  | 0, _ => []
  | n + 1, eqs =>
    match eqs.find? (fun e => e.1.headD false) with
    | none => false :: solveBits n (eqs.map (fun e => (e.1.tail, e.2)))
    | some p =>
      let rest := (eqs.erase p).map (fun e =>
        if e.1.headD false then (List.zipWith bne e.1.tail p.1.tail, e.2 != p.2) else (e.1.tail, e.2))
      let sol := solveBits n rest
      ((List.zipWith and p.1.tail sol).foldl bne p.2) :: sol

/-- The parity bits of `m` layers: those that satisfy every check of the layers with the systematic bits. -/
def ldpcParity (bg2 : Bool) (z m : Nat) (sys : List Bool) : List Bool :=
  let k := ldpcK bg2 z
  solveBits (m * z) ((List.range m).flatMap (fun j => (List.range z).map (fun r =>
    let edges := ldpcEdges bg2 z j r
    ((List.range (m * z)).map (fun i => edges.contains (k + i)),
      edges.foldl (fun b e => b != (decide (e < k) && sys.getD e false)) false))))

/-- Codeword bits 2·Zc to 2·Zc + NCB_LEN − 1 of a block, filler positions 0 (R248). -/
def ldpcEncodeBlock (bg2 : Bool) (z ncb filler : Nat) (info : List Bool) : List Bool :=
  let k := ldpcK bg2 z
  let kb := if bg2 then 10 else 22
  let m := max 4 (ceilDiv ncb z + 2 - kb)
  let sys := info ++ List.replicate filler false
  let par := ldpcParity bg2 z m sys
  (List.range ncb).map (fun i => let p := i + 2 * z; if p < k then sys.getD p false else par.getD (p - k) false)

/-! ## Soft buffers (R236, R237) -/

/-- Bits per stored value. -/
def sbWidth (fmt : Nat) : Nat := match fmt with | 0 => 8 | 1 => 6 | _ => 4

/-- The bytes of the LLR area, and the stride. -/
def sbArea (ncb fmt : Nat) : Nat := 64 * ceilDiv (ncb * sbWidth fmt) 512
def sbStride (ncb fmt : Nat) : Nat := 64 + sbArea ncb fmt

/-- The header (R236). -/
def sbHeader (ncb fmt shift : Nat) (valid : Bool) (job : Nat) : List Byte :=
  valBytes 2 ncb ++ valBytes 1 (fmt + 4 * shift + (if valid then 128 else 0)) ++ valBytes 1 0 ++ valBytes 4 job ++ valBytes 56 0

/-- A stored value (R237). -/
def sbStore (fmt shift : Nat) (v : Int) : Int :=
  let h : Int := if shift = 0 then 0 else 2 ^ (shift - 1)
  clampTo (2 ^ (sbWidth fmt - 1) - 1) ((v + h) / 2 ^ shift)

/-- A restored value (R237). -/
def sbRestore (shift : Nat) (v : Int) : Int := clampTo 127 (v * 2 ^ shift)

/-- The area of stored values. -/
def sbPack (ncb fmt shift : Nat) (l : List Int) : List Byte :=
  let w := sbWidth fmt
  bitsOut (sbArea ncb fmt) (((List.range ncb).map (fun i =>
    (List.range w).map (fun k => (ofSigned w (sbStore fmt shift (l.getD i 0))).testBit k))).flatten)

/-- The values of an area. -/
def sbUnpack (ncb fmt shift : Nat) (l : List Byte) : List Int :=
  let w := sbWidth fmt
  let n := bytesVal l
  (List.range ncb).map (fun i => sbRestore shift (toSigned w (n / 2 ^ (w * i) % 2 ^ w)))

/-! ## Rate matching (R242 to R244) -/

/-- E_r of scheduled block r (R242). -/
def blockBits (g qm nl c r : Nat) : Nat :=
  let u := g / (nl * qm)
  if r + u % c + 1 ≤ c then nl * qm * (u / c) else nl * qm * ceilDiv u c

/-- E_0 + … + E_(r−1). -/
def bitsBefore (g qm nl c r : Nat) : Nat := ((List.range r).map (blockBits g qm nl c)).sum

/-- k0 of the LDPC circular buffer. -/
def ldpcK0 (bg2 : Bool) (z ncb rv : Nat) : Nat :=
  let f := fun (n1 n2 : Nat) => if bg2 then n2 * ncb / (50 * z) * z else n1 * ncb / (66 * z) * z
  match rv with
  | 0 => 0
  | 1 => f 17 13
  | 2 => f 33 25
  | _ => f 56 43

/-- Rows of the sub-block interleaver of 32 columns. -/
def sbRows (d : Nat) : Nat := ceilDiv d 32

/-- Kw of a turbo block (R241). -/
def turboKw (k : Nat) : Nat := 3 * 32 * sbRows (k + 4)

/-- k0 of the turbo circular buffer. -/
def turboK0 (k ncb rv : Nat) : Nat :=
  let r := sbRows (k + 4)
  r * (2 * ceilDiv ncb (8 * r) * rv + 2)

/-- The column permutation of turbo streams: five bits reversed. -/
def turboColumn (c : Nat) : Nat := ((List.range 5).map (fun i => if c.testBit i then 2 ^ (4 - i) else 0)).sum

/-- Position of the stream bit read k-th from the sub-block interleaver of streams 0 and 1, counted with the dummies in
front. -/
def subBlock (col : Nat → Nat) (rows k : Nat) : Nat := col (k / rows) + 32 * (k % rows)

/-- Where position i of a turbo circular buffer comes from: stream and place, none for a dummy. -/
def turboSource (k i : Nat) : Option (Nat × Nat) :=
  let rows := sbRows (k + 4)
  let kp := 32 * rows
  let nd := kp - (k + 4)
  let s := if i < kp then 0 else 1 + (i - kp) % 2
  let n := if i < kp then i else (i - kp) / 2
  let y := if s = 2 then (subBlock turboColumn rows n + 1) % kp else subBlock turboColumn rows n
  if y < nd then none else some (s, y - nd)

/-- What a position of a circular buffer holds: a coded bit, a filler bit's systematic position, or nothing. -/
inductive Slot where
  | bit | filler | dummy
deriving DecidableEq, Repr

/-- The positions of an LDPC circular buffer. -/
def ldpcSlot (bg2 : Bool) (z filler i : Nat) : Slot :=
  let p := i + 2 * z
  if ldpcK bg2 z - filler ≤ p ∧ p < ldpcK bg2 z then .filler else .bit

/-- The positions of a turbo circular buffer with F filler bits at the block's start. -/
def turboSlot (k filler i : Nat) : Slot :=
  match turboSource k i with
  | none => .dummy
  | some (s, n) => if n < filler then (if s = 0 then .filler else if s = 1 then .dummy else .bit) else .bit

/-- The positions that carry the e bits of a block in order: from k0, wrapping, over coded bits only. -/
def selectFrom (slot : Nat → Slot) (ncb : Nat) : Nat → Nat → Nat → List Nat
  | 0, _, _ => []
  | _, _, 0 => []
  | fuel + 1, i, e + 1 =>
    if slot (i % ncb) = .bit then (i % ncb) :: selectFrom slot ncb fuel (i + 1) e
    else selectFrom slot ncb fuel (i + 1) (e + 1)

/-- The same, with the fuel that suffices: each turn of the buffer that has a coded bit gives one at least. -/
def selected (slot : Nat → Slot) (ncb k0 e : Nat) : List Nat := selectFrom slot ncb ((e + 1) * ncb) k0 e

/-- The place of interleaved bit i among the e bits before interleaving, for qm rows. -/
def interleaved (e qm i : Nat) : Nat := i % qm * (e / qm) + i / qm

/-- The bits of a block after selection and interleaving. -/
def matchBits (slot : Nat → Slot) (ncb k0 e qm : Nat) (buf : List Bool) : List Bool :=
  let pos := selected slot ncb k0 e
  (List.range e).map (fun i => buf.getD (pos.getD (interleaved e qm i) 0) false)

/-- The circular buffer that recovery builds from received values, before combining (R243). -/
def recoverLlrs (slot : Nat → Slot) (ncb k0 e qm : Nat) (rx : List Int) : List Int :=
  let pos := selected slot ncb k0 e
  (List.range e).foldl (fun (b : List Int) i =>
    let p := pos.getD (interleaved e qm i) 0
    b.set p (clampTo 127 (b.getD p 0 + rx.getD i 0))) (List.replicate ncb 0)

/-- Combining and the fixed positions (R243). -/
def finishStaging (slot : Nat → Slot) (ncb : Nat) (buf stored : List Int) : List Int :=
  (List.range ncb).map (fun i =>
    match slot i with
    | .filler => 127
    | .dummy => 0
    | .bit => clampTo 127 (buf.getD i 0 + stored.getD i 0))

/-! ## Turbo encoding -/

/-- The block lengths of the interleaver table. -/
def turboKValid (k : Nat) : Bool :=
  (decide (40 ≤ k) && decide (k ≤ 512) && k % 8 == 0) || (decide (512 < k) && decide (k ≤ 1024) && k % 16 == 0)
    || (decide (1024 < k) && decide (k ≤ 2048) && k % 32 == 0) || (decide (2048 < k) && decide (k ≤ 6144) && k % 64 == 0)

/-- One step of a constituent encoder: state (three bits, newest first), input; the parity bit and the next state. -/
def rscStep (s : Bool × Bool × Bool) (c : Bool) : Bool × (Bool × Bool × Bool) :=
  let f := c != (s.2.1 != s.2.2)
  (((f != s.1) != s.2.2), (f, s.1, s.2.1))

/-- The parity bits of a sequence, and the last state. -/
def rscRun : List Bool → (Bool × Bool × Bool) → List Bool × (Bool × Bool × Bool)
  | [], s => ([], s)
  | c :: r, s =>
    let x := rscStep s c
    let y := rscRun r x.2
    (x.1 :: y.1, y.2)

/-- The three tail steps: inputs that bring the state to zero, with their parity. -/
def rscTail : Nat → (Bool × Bool × Bool) → List (Bool × Bool)
  | 0, _ => []
  | n + 1, s =>
    let c := s.2.1 != s.2.2
    let x := rscStep s c
    (c, x.1) :: rscTail n x.2

/-- The three streams of K + 4 bits. -/
def turboStreams (k : Nat) (l : List Bool) : List (List Bool) :=
  let f := turboQpp k
  let perm := (List.range k).map (fun i => l.getD ((f.1 * i + f.2 * i * i) % k) false)
  let a := rscRun l (false, false, false)
  let b := rscRun perm (false, false, false)
  let ta := rscTail 3 a.2
  let tb := rscTail 3 b.2
  let x := fun (t : List (Bool × Bool)) i => (t.getD i (false, false)).1
  let z := fun (t : List (Bool × Bool)) i => (t.getD i (false, false)).2
  [l ++ [x ta 0, z ta 1, x tb 0, z tb 1],
   a.1 ++ [z ta 0, x ta 2, z tb 0, x tb 2],
   b.1 ++ [x ta 1, z ta 2, x tb 1, z tb 2]]

/-- The circular buffer of a turbo block, dummies 0 (R250). -/
def turboBuffer (k : Nat) (l : List Bool) : List Bool :=
  let d := turboStreams k l
  (List.range (turboKw k)).map (fun i =>
    match turboSource k i with
    | some (s, n) => (d.getD s []).getD n false
    | none => false)

/-! ## Polar and convolutional codes -/

/-- ceil(log2 n) for n of at least 1. -/
def clog2 (n : Nat) : Nat := if n ≤ 1 then 0 else (n - 1).log2 + 1

/-- log2 of the polar code length (TS 38.212, 5.3.1). -/
def polarLog (k e nmax : Nat) : Nat :=
  let c := clog2 e
  let n1 := if 8 * e ≤ 9 * 2 ^ (c - 1) ∧ 16 * k < 9 * e then c - 1 else c
  max 5 (min (min n1 (clog2 (8 * k))) nmax)

/-- The sub-block interleaver pattern of TS 38.212, table 5.4.1.1-1. -/
def polarPattern : List Nat :=
  [0, 1, 2, 4, 3, 5, 6, 7, 8, 16, 9, 17, 10, 18, 11, 19, 12, 20, 13, 21, 14, 22, 15, 23, 24, 25, 26, 28, 27, 29, 30, 31]

/-- The sub-block interleaver of a code of length n. -/
def polarJ (n i : Nat) : Nat := polarPattern.getD (32 * i / n) 0 * (n / 32) + i % (n / 32)

/-- The bits that rate matching freezes. -/
def polarFrozen (n k e : Nat) : List Nat :=
  if n ≤ e then []
  else if 16 * k ≤ 7 * e then
    (List.range (n - e)).map (polarJ n)
      ++ List.range (if 3 * n ≤ 4 * e then ceilDiv (3 * n - 2 * e) 4 else ceilDiv (9 * n - 4 * e) 16)
  else (List.range (n - e)).map (fun i => polarJ n (e + i))

/-- The information places, ascending. -/
def polarInfo (n k e : Nat) : List Nat :=
  let fz := polarFrozen n k e
  let order := polarOrder.filter (fun i => decide (i < n) && !fz.contains i)
  let best := order.drop (order.length - k)
  (List.range n).filter (fun i => best.contains i)

/-- Multiplication by the polar matrix of 2^n. -/
def polarTransform : Nat → List Bool → List Bool
  | 0, l => l
  | n + 1, l =>
    let a := polarTransform n (l.take (2 ^ n))
    let b := polarTransform n (l.drop (2 ^ n))
    (a.zip b).map (fun p => p.1 != p.2) ++ b

/-- The e coded bits of a polar payload (R251, R252). -/
def polarEncodeBits (payload : List Bool) (e mask : Nat) (ones : Bool) : List Bool :=
  let crc := maskBits (crcOf crc24C ((if ones then List.replicate 24 true else []) ++ payload)) mask
  let c := payload ++ crc
  let k := c.length
  let c' := (polarInterleaver k).map (fun i => c.getD i false)
  let lg := polarLog k e 9
  let n := 2 ^ lg
  let places := polarInfo n k e
  let u := (List.range n).map (fun i => if places.contains i then c'.getD (places.findIdx (fun x => x == i)) false else false)
  let d := polarTransform lg u
  let y := (List.range n).map (fun i => d.getD (polarJ n i) false)
  (List.range e).map (fun i =>
    if n ≤ e then y.getD (i % n) false
    else if 16 * k ≤ 7 * e then y.getD (i + n - e) false
    else y.getD i false)

/-- The column permutation of convolutional streams (TS 36.212, table 5.1.4-2). -/
def convPattern : List Nat :=
  [1, 17, 9, 25, 5, 21, 13, 29, 3, 19, 11, 27, 7, 23, 15, 31, 0, 16, 8, 24, 4, 20, 12, 28, 2, 18, 10, 26, 6, 22, 14, 30]

/-- One coded bit of the tail-biting code: generators 133, 171 and 165 in octal. -/
def tbccBitAt (l : List Bool) (g i : Nat) : Bool :=
  let n := l.length
  (List.range 7).foldl (fun b d => b != (g.testBit (6 - d) && l.getD ((i + 7 * n - d) % n) false)) false

/-- The circular buffer of the three interleaved streams: none for a dummy. -/
def tbccBuffer (l : List Bool) : List (Option Bool) :=
  let rows := sbRows l.length
  let kp := 32 * rows
  let nd := kp - l.length
  [0o133, 0o171, 0o165].flatMap (fun g => (List.range kp).map (fun k =>
    let y := subBlock (fun c => convPattern.getD c 0) rows k
    if y < nd then none else some (tbccBitAt l g (y - nd))))

/-- The e coded bits of a tail-biting payload with its CRC (R251). -/
def tbccEncodeBits (payload : List Bool) (e mask : Nat) : List Bool :=
  let c := payload ++ maskBits (crcOf crc16 payload) mask
  let w := (tbccBuffer c).filterMap id
  (List.range e).map (fun i => w.getD (i % w.length) false)

end Sys2Proof.Machine
end

