-- ==== Sys2Proof/Machine/CodingJobs.lean ====
section
/-!
DEFINITION. The jobs of channel coding: the checks of their ARGS and their meanings (R232 to R252).
-/

namespace Sys2Proof.Machine

open Reg Ob

/-- OUT_COUNT is 0 or 1 (R226). -/
def outOk (j : Job) : Bool := decide (j.outCount ≤ 1)

/-! ## LDPC (R232, R248) -/

/-- Fields common to LDPC decoding and encoding: base graph, lifting size, block count, filler bits. -/
def Job.bg2 (j : Job) : Bool := j.fld 0 63 63 == 1
def Job.zc (j : Job) : Nat := j.fld 0 62 54
def Job.ncb (j : Job) : Nat := j.fld 1 63 49
def Job.count (j : Job) : Nat := j.fld 3 51 43
def Job.filler (j : Job) : Nat := j.fld 3 42 29
def Job.ldpcKp (j : Job) : Nat := ldpcK j.bg2 j.zc - j.filler

/-- The soft-buffer fields of a decoder (R232). -/
def Job.wb (j : Job) : Nat := j.fld 2 63 62
def Job.sbFmt (j : Job) : Nat := j.fld 2 61 60
def Job.sbShift (j : Job) : Nat := j.fld 2 59 58

/-- Ranges that LDPC decoding and turbo decoding share. -/
def decoderFieldsOk (j : Job) : Bool :=
  decide (j.wb ≤ 2) && decide (j.sbFmt ≤ 2) && j.fld 2 57 48 == 0 && decide (1 ≤ j.count) && decide (j.count ≤ 256)

/-- The soft buffers of a decoder, where it writes any. -/
def softBuffer (j : Job) : Nat × Nat := (j.addr 2, if j.wb = 0 then 0 else j.count * sbStride j.ncb j.sbFmt)

/-- The ARGS check of LDPC_DECODE (R232). -/
def ldpcDecodeOk (s : State) (j : Job) : Bool :=
  let m := j.fld 0 53 48
  let crc := j.fld 1 48 48 == 1
  let mode := j.fld 3 57 56
  outOk j && zcValid j.zc && decide (4 ≤ m) && decide (m ≤ ldpcRows j.bg2) && decide (1 ≤ j.ncb)
    && decide (j.ncb ≤ ldpcN j.bg2 j.zc) && decoderFieldsOk j && decide (1 ≤ j.fld 3 63 58) && decide (j.fld 3 63 58 ≤ 32)
    && decide (j.filler + (if crc then 25 else 1) ≤ ldpcK j.bg2 j.zc) && j.fld 3 28 0 == 0
    && (crc || decide (mode < 2))
    && s.buffersOk j.part [(j.addr 0, j.count * llrStride j.ncb), (j.addr 1, j.count * bitStride j.ldpcKp), softBuffer j]

/-- Write a block's soft buffer in the three steps of R238. -/
def AccRun.writeBack (r : AccRun) (j : Job) (b : Nat) (values : List Int) : AccRun :=
  let a := j.addr 2 + b * sbStride j.ncb j.sbFmt
  let r := r.write a (sbHeader j.ncb j.sbFmt j.sbShift false j.jobId)
  let r := r.write (a + 64) (sbPack j.ncb j.sbFmt j.sbShift values)
  r.write a (sbHeader j.ncb j.sbFmt j.sbShift true j.jobId)

/-- LDPC_DECODE of one block (R233 to R238). -/
def ldpcDecodeJob (j : Job) (b : Nat) (r : AccRun) : AccRun :=
  let (l, r) := r.read (j.addr 0 + b * llrStride j.ncb) j.ncb
  if !r.live then r else
  let x := llrsIn l j.ncb
  let (bits, good, n) := ldpcDecodeBlock j.bg2 j.zc (j.fld 0 53 48) j.ncb j.ldpcKp (j.fld 3 55 52) (j.fld 3 57 56)
    (j.fld 3 63 58) (j.fld 1 48 48 == 1) x
  let r := (r.iterate n).write (j.addr 1 + b * bitStride j.ldpcKp) (bitsOut (bitStride j.ldpcKp) bits)
  let r := if j.wb = 2 ∨ (j.wb = 1 ∧ good = false) then r.writeBack j b x else r
  r.block (!good)

/-- Bytes 32–47 of a decoder's result entry (R235). -/
def decoderInfo (r : AccRun) : List Byte := valBytes 4 r.iters ++ valBytes 1 r.most ++ valBytes 11 0

/-- LDPC_DECODE. -/
def execLdpcDecode (unit : Nat) (s : State) : Host.Outcome State Fault Refusal :=
  .next (s.accRun unit 0x10 (fun j r => r.each j.count (ldpcDecodeJob j)) decoderInfo)

/-- The ARGS check of LDPC_ENCODE (R248). -/
def ldpcEncodeOk (s : State) (j : Job) : Bool :=
  outOk j && zcValid j.zc && j.fld 0 53 48 == 0 && decide (1 ≤ j.ncb) && decide (j.ncb ≤ ldpcN j.bg2 j.zc)
    && j.fld 1 48 48 == 0 && j.arg 2 == 0 && j.fld 3 63 52 == 0 && decide (1 ≤ j.count) && decide (j.count ≤ 256)
    && j.fld 3 28 0 == 0 && decide (j.filler + 1 ≤ ldpcK j.bg2 j.zc)
    && s.buffersOk j.part [(j.addr 0, j.count * bitStride j.ldpcKp), (j.addr 1, j.count * bitStride j.ncb)]

/-- LDPC_ENCODE (R248). -/
def execLdpcEncode (unit : Nat) (s : State) : Host.Outcome State Fault Refusal :=
  .next (s.accRun unit 0x20 (fun j r => r.each j.count (fun b r =>
    let kp := j.ldpcKp
    let (l, r) := r.read (j.addr 0 + b * bitStride kp) (ceilDiv kp 8)
    (r.write (j.addr 1 + b * bitStride j.ncb)
      (bitsOut (bitStride j.ncb) (ldpcEncodeBlock j.bg2 j.zc j.ncb j.filler (bitsIn l kp)))).block false)) noInfo)

/-! ## Turbo (R249, R250) -/

/-- The block length of a turbo job. -/
def Job.turboK (j : Job) : Nat := j.fld 0 62 50

/-- The ARGS check of TURBO_DECODE (R249). -/
def turboDecodeOk (s : State) (j : Job) : Bool :=
  let crcB := j.fld 1 48 48 == 1
  let crcA := j.fld 3 28 28 == 1
  let mode := j.fld 3 57 56
  outOk j && j.fld 0 63 63 == 0 && j.fld 0 49 48 == 0 && turboKValid j.turboK && decide (1 ≤ j.ncb)
    && decide (j.ncb ≤ turboKw j.turboK) && decoderFieldsOk j && decide (1 ≤ j.fld 3 63 58) && decide (j.fld 3 63 58 ≤ 16)
    && decide (j.filler ≤ 63) && j.fld 3 27 0 == 0 && !(crcA && crcB) && (mode % 2 == 0 || crcA || crcB)
    && s.buffersOk j.part [(j.addr 0, j.count * llrStride j.ncb), (j.addr 1, j.count * bitStride j.turboK), softBuffer j]

/-- The half-iteration after which the stopping rule of ES_MODE holds first (R249): 1 the CRC passes, 2 the hard decisions are
as they were one full iteration before, 3 either; 0 none. -/
def turboStop (at_ : Nat → List Bool) (mode : Nat) (crcOk : List Bool → Bool) (limit : Nat) : Option Nat :=
  let same := fun h => decide (2 < h) && at_ h == at_ (h - 2)
  ((List.range (2 * limit)).map (fun i => i + 1)).find? (fun h => Config.turboTested h
    && match mode with
      | 1 => crcOk (at_ h)
      | 2 => same h
      | 3 => crcOk (at_ h) || same h
      | _ => false)

/-- TURBO_DECODE of one block: filler bits are written as 0; it is good when its CRC passes, or without one when the hard
decisions settled under ES_MODE 2 (R249). -/
def turboDecodeJob (j : Job) (b : Nat) (r : AccRun) : AccRun :=
  let k := j.turboK
  let (l, r) := r.read (j.addr 0 + b * llrStride j.ncb) j.ncb
  if !r.live then r else
  let x := llrsIn l j.ncb
  let limit := j.fld 3 63 58
  let mode := j.fld 3 57 56
  let crc := j.fld 1 48 48 + 2 * j.fld 3 28 28
  let fill := if b = 0 then j.filler else 0
  let at_ := fun h => (List.range k).map (fun i => decide (fill ≤ i) && Config.turboBit k (j.fld 3 55 52) x h i)
  let crcOk := fun (bits : List Bool) => match crc with
    | 0 => false
    | 1 => crcPasses crc24B bits
    | _ => crcPasses crc24A bits
  let met := turboStop at_ mode crcOk limit
  let n := met.getD (2 * limit)
  let bits := at_ n
  let good := if crc = 0 then mode == 2 && met.isSome else crcOk bits
  let r := (r.iterate n).write (j.addr 1 + b * bitStride k) (bitsOut (bitStride k) bits)
  let r := if j.wb = 2 ∨ (j.wb = 1 ∧ good = false) then r.writeBack j b x else r
  r.block (!good)

/-- TURBO_DECODE. -/
def execTurboDecode (unit : Nat) (s : State) : Host.Outcome State Fault Refusal :=
  .next (s.accRun unit 0x28 (fun j r => r.each j.count (turboDecodeJob j)) decoderInfo)

/-- The ARGS check of TURBO_ENCODE (R250). -/
def turboEncodeOk (s : State) (j : Job) : Bool :=
  outOk j && j.fld 0 63 63 == 0 && j.fld 0 49 48 == 0 && turboKValid j.turboK && j.fld 1 63 48 == 0 && j.arg 2 == 0
    && j.fld 3 63 52 == 0 && decide (1 ≤ j.count) && decide (j.count ≤ 256) && j.fld 3 42 0 == 0
    && s.buffersOk j.part [(j.addr 0, j.count * bitStride j.turboK), (j.addr 1, j.count * bitStride (turboKw j.turboK))]

/-- TURBO_ENCODE (R250). -/
def execTurboEncode (unit : Nat) (s : State) : Host.Outcome State Fault Refusal :=
  .next (s.accRun unit 0x64 (fun j r => r.each j.count (fun b r =>
    let k := j.turboK
    let (l, r) := r.read (j.addr 0 + b * bitStride k) (ceilDiv k 8)
    (r.write (j.addr 1 + b * bitStride (turboKw k)) (bitsOut (bitStride (turboKw k)) (turboBuffer k (bitsIn l k)))).block
      false)) noInfo)

/-! ## Rate matching and recovery (R241 to R244) -/

/-- A rate-matching job's fields (R241). -/
structure RateJob where
  turbo : Bool
  bg2 : Bool
  /-- Zc, or K of a turbo block -/
  size : Nat
  ncb : Nat
  bit48 : Bool
  rv : Nat
  qm : Nat
  nl : Nat
  g : Nat
  c : Nat
  first : Nat
  count : Nat
  filler : Nat

/-- The fields of a job. -/
def rateJob (turbo : Bool) (j : Job) : RateJob :=
  ⟨turbo, j.bg2, if turbo then j.turboK else j.zc, j.ncb, j.fld 1 48 48 == 1, j.fld 2 63 62, j.fld 2 61 58, j.fld 2 57 54,
    j.fld 3 63 43, j.fld 3 42 34, j.fld 3 33 25, j.fld 3 24 16, j.fld 3 15 2⟩

/-- E_r of the job's block b. -/
def RateJob.bits (x : RateJob) (b : Nat) : Nat := blockBits x.g x.qm x.nl x.c (x.first + b)

/-- S, and the bits of the job's blocks below b. -/
def RateJob.before (x : RateJob) : Nat := bitsBefore x.g x.qm x.nl x.c x.first
def RateJob.offset (x : RateJob) (b : Nat) : Nat := ((List.range b).map x.bits).sum

/-- What the circular buffer of the job's block b holds. -/
def RateJob.slot (x : RateJob) (b i : Nat) : Slot :=
  if x.turbo then turboSlot x.size (if x.first + b = 0 then x.filler else 0) i else ldpcSlot x.bg2 x.size x.filler i

/-- Where selection starts. -/
def RateJob.k0 (x : RateJob) : Nat := if x.turbo then turboK0 x.size x.ncb x.rv else ldpcK0 x.bg2 x.size x.ncb x.rv

/-- Ranges of R241; S is a multiple of `align` (R242). -/
def rateFieldsOk (x : RateJob) (j : Job) (align : Nat) : Bool :=
  (if x.turbo then j.fld 0 63 63 == 0 && j.fld 0 49 48 == 0 && turboKValid x.size && decide (x.ncb ≤ turboKw x.size)
      && decide (x.filler ≤ 63)
    else zcValid x.size && j.fld 0 53 48 == 0 && decide (x.ncb ≤ ldpcN x.bg2 x.size)
      && decide (x.filler < ldpcK x.bg2 x.size))
    && outOk j && decide (1 ≤ x.ncb) && [1, 2, 4, 6, 8, 10].contains x.qm && decide (1 ≤ x.nl) && decide (x.nl ≤ 8)
    && j.fld 2 53 48 == 0 && decide (1 ≤ x.g) && decide (1 ≤ x.c) && decide (x.c ≤ 256) && decide (x.first < x.c)
    && decide (1 ≤ x.count) && decide (x.first + x.count ≤ x.c) && j.fld 3 1 0 == 0 && x.before % align == 0

/-- The ARGS check of a recover job. The soft buffers take at least the 4-bit format's room; their headers tell the rest. -/
def recoverOk (s : State) (turbo : Bool) (j : Job) : Bool :=
  let x := rateJob turbo j
  rateFieldsOk x j 64
    && s.buffersOk j.part [(j.addr 0, llrStride (x.offset x.count)), (j.addr 1, x.count * llrStride x.ncb),
      (j.addr 2, if x.bit48 then x.count * sbStride x.ncb 2 else 0)]

/-- The ARGS check of a match job. -/
def matchOk (s : State) (turbo : Bool) (j : Job) : Bool :=
  let x := rateJob turbo j
  rateFieldsOk x j 512 && j.fld 2 16 0 == 0
    && s.buffersOk j.part [(j.addr 0, x.count * bitStride x.ncb), (j.addr 1, bitStride (x.offset x.count))]

/-- The stored values of block b, zeros where its buffer is stale, with the stale flag (R239). The stride is that of the
format in the first block's header. A buffer that its header's format makes reach into `out`, what the job writes, stops the
job as R228 has it at staging: no job reads a buffer that it writes (R231). -/
def AccRun.stored (r : AccRun) (x : RateJob) (out : Nat × Nat) (a b : Nat) : List Int × Bool × AccRun :=
  let (h0, r) := r.read a 64
  let fmt0 := min (fieldAt h0 2 1 % 4) 2
  let at_ := a + b * sbStride x.ncb fmt0
  let (h, r) := if b = 0 then (h0, r) else r.read at_ 64
  let flags := fieldAt h 2 1
  let fmt := min (flags % 4) 2
  if flags < 128 ∨ fieldAt h 0 2 ≠ x.ncb then ([], true, r) else
  let r := if r.live then r.require (apart (at_, sbStride x.ncb fmt) out) else r
  let (l, r) := r.read (at_ + 64) (sbArea x.ncb fmt)
  (sbUnpack x.ncb fmt (flags / 4 % 4) l, false, r)

/-- A recover job's block b (R243). -/
def recoverBlock (x : RateJob) (j : Job) (b : Nat) (r : AccRun) : AccRun :=
  let e := x.bits b
  let (l, r) := r.read (j.addr 0 + x.offset b) e
  let (old, stale, r) := if x.bit48 then r.stored x (j.addr 1, x.count * llrStride x.ncb) (j.addr 2) b else ([], false, r)
  let buf := recoverLlrs (x.slot b) x.ncb x.k0 e x.qm (llrsIn l e)
  (r.write (j.addr 1 + b * llrStride x.ncb)
    (llrsOut (llrStride x.ncb) (finishStaging (x.slot b) x.ncb buf old))).block stale

/-- A match job's block b: its e bits, scrambled from index S plus the bits of the job's blocks before it (R242, R244). -/
def matchBlock (x : RateJob) (j : Job) (b : Nat) (r : AccRun) : List Bool × AccRun :=
  let (l, r) := r.read (j.addr 0 + b * bitStride x.ncb) (ceilDiv x.ncb 8)
  let bits := matchBits (x.slot b) x.ncb x.k0 (x.bits b) x.qm (bitsIn l x.ncb)
  (if x.bit48 then scramble (j.fld 2 47 17) (x.before + x.offset b) bits else bits, r)

/-- A match job: the bits of its blocks one behind the other. A block is written in whole words before it counts as complete
(R229): `p` holds the bits of the word that the blocks so far have begun and not filled. Behind the last block come zeros up
to the stride (R225). -/
def matchJob (x : RateJob) (j : Job) (r : AccRun) : AccRun :=
  ((List.range x.count).foldl (fun (p : List Bool × AccRun) b =>
    if p.2.live then
      let q := matchBlock x j b p.2
      let bits := p.1 ++ q.1
      let from_ := (x.offset b - p.1.length) / 8
      let n := if b + 1 = x.count then bitStride (x.offset x.count) - from_ else 8 * ceilDiv bits.length 64
      (bits.drop (bits.length / 64 * 64), (q.2.write (j.addr 1 + from_) (bitsOut n bits)).block false)
    else p) (([] : List Bool), r)).2

/-- LDPC_RATE_MATCH. -/
def execLdpcRateMatch (unit : Nat) (s : State) : Host.Outcome State Fault Refusal :=
  .next (s.accRun unit 0x62 (fun j r => matchJob (rateJob false j) j r) noInfo)
/-- TURBO_RATE_MATCH. -/
def execTurboRateMatch (unit : Nat) (s : State) : Host.Outcome State Fault Refusal :=
  .next (s.accRun unit 0x65 (fun j r => matchJob (rateJob true j) j r) noInfo)
/-- LDPC_RATE_RECOVER. -/
def execLdpcRateRecover (unit : Nat) (s : State) : Host.Outcome State Fault Refusal :=
  .next (s.accRun unit 0x63 (fun j r => r.each (rateJob false j).count (recoverBlock (rateJob false j) j)) noInfo)
/-- TURBO_RATE_RECOVER. -/
def execTurboRateRecover (unit : Nat) (s : State) : Host.Outcome State Fault Refusal :=
  .next (s.accRun unit 0x66 (fun j r => r.each (rateJob true j).count (recoverBlock (rateJob true j) j)) noInfo)

/-! ## Transport blocks (R245 to R247) -/

/-- A transport block's fields (R245). -/
structure TbJob where
  a : Nat
  crcA : Bool
  lte : Bool
  c : Nat
  kp : Nat
  filler : Nat
  c2 : Nat
  kp2 : Nat

/-- The fields of a job. -/
def tbJob (j : Job) : TbJob :=
  ⟨j.fld 2 63 43, j.fld 2 42 42 == 1, j.fld 2 41 41 == 1, j.fld 2 40 32, j.fld 2 31 18, j.fld 2 17 4, j.fld 3 63 55,
    j.fld 3 54 41⟩

/-- The TB CRC, its length, the length of block r, and its data bits: without filler bits in front and CRC24B behind. -/
def TbJob.crc (t : TbJob) : Nat × Nat := if t.crcA then crc24A else crc16
def TbJob.len (t : TbJob) (r : Nat) : Nat := if r < t.c2 then t.kp2 else t.kp
def TbJob.fill (t : TbJob) (r : Nat) : Nat := if r = 0 then t.filler else 0
def TbJob.tail (t : TbJob) : Nat := if 1 < t.c then 24 else 0
def TbJob.data (t : TbJob) (r : Nat) : Nat := t.len r - t.tail - t.fill r

/-- The bits of the sequence before block r's. -/
def TbJob.start (t : TbJob) (r : Nat) : Nat := ((List.range r).map t.data).sum

/-- The ARGS check of TB_SEGMENT and TB_ASSEMBLE, with the check of the total length (R245). -/
def tbOk (s : State) (j : Job) : Bool :=
  let t := tbJob j
  outOk j && j.fld 0 63 48 == 0 && j.fld 1 63 48 == 0 && decide (1 ≤ t.a) && decide (t.a ≤ 2097127) && decide (1 ≤ t.c)
    && decide (t.c ≤ 256) && j.fld 2 3 0 == 0 && j.fld 3 40 0 == 0
    && (t.lte || (t.filler == 0 && t.c2 == 0 && t.kp2 == 0)) && decide (t.c2 ≤ t.c)
    && t.a + t.crc.1 + t.tail * t.c + t.filler == ((List.range t.c).map t.len).sum
    && s.buffersOk j.part [(j.addr 0, bitStride t.a), (j.addr 1, t.c * bitStride t.kp)]

/-- TB_SEGMENT (R246). -/
def tbSegment (j : Job) (r : AccRun) : AccRun :=
  let t := tbJob j
  let (l, r) := r.read (j.addr 0) (ceilDiv t.a 8)
  let tb := bitsIn l t.a
  let tb := tb ++ crcOf t.crc tb
  r.each t.c (fun i r =>
    let body := List.replicate (t.fill i) false ++ (tb.drop (t.start i)).take (t.data i)
    let blk := if 1 < t.c then body ++ crcOf crc24B body else body
    (r.write (j.addr 1 + i * bitStride t.kp) (bitsOut (bitStride t.kp) blk)).block false)

/-- TB_ASSEMBLE (R247): the payload is written whether or not the TB CRC passes; flag 0 says that it fails. -/
def tbAssemble (j : Job) (r : AccRun) : AccRun :=
  let t := tbJob j
  let res := (List.range t.c).foldl (fun (p : List Bool × AccRun) i =>
    let (l, r) := p.2.read (j.addr 1 + i * bitStride t.kp) (ceilDiv (t.len i) 8)
    (p.1 ++ ((bitsIn l (t.len i)).drop (t.fill i)).take (t.data i), r)) (([] : List Bool), r)
  let tb := res.1
  let r := res.2.write (j.addr 0) (bitsOut (bitStride t.a) (tb.take t.a))
  r.each t.c (fun i r => r.block (i == 0 && !crcPasses t.crc tb))

/-- TB_SEGMENT. -/
def execTbSegment (unit : Nat) (s : State) : Host.Outcome State Fault Refusal :=
  .next (s.accRun unit 0x60 tbSegment noInfo)
/-- TB_ASSEMBLE. -/
def execTbAssemble (unit : Nat) (s : State) : Host.Outcome State Fault Refusal :=
  .next (s.accRun unit 0x61 tbAssemble noInfo)

/-! ## Polar and convolutional codes (R251, R252) -/

/-- A polar or convolutional job's fields (R251). -/
structure PolarJob where
  e : Nat
  k : Nat
  crc : Nat
  list : Nat
  mask : Nat
  ones : Bool
  cinit : Nat
  scr : Bool

/-- The fields of a job. -/
def polarJob (j : Job) : PolarJob :=
  ⟨j.fld 2 63 50, j.fld 2 49 40, j.fld 2 39 38, j.fld 2 37 36, j.fld 2 35 20, j.fld 2 19 19 == 1, j.fld 3 63 33,
    j.fld 3 32 32 == 1⟩

/-- What the four types check alike. -/
def polarCommonOk (j : Job) (x : PolarJob) : Bool :=
  outOk j && j.fld 0 63 48 == 0 && j.fld 1 63 48 == 0 && decide (1 ≤ x.e) && decide (x.e ≤ 8192) && j.fld 2 18 0 == 0
    && j.fld 3 31 0 == 0

/-- The ARGS checks. -/
def polarDecodeOk (s : State) (j : Job) : Bool :=
  let x := polarJob j
  polarCommonOk j x && decide (12 ≤ x.k) && decide (x.k ≤ 1013) && x.crc != 3 && !x.ones && x.cinit == 0 && !x.scr
    && s.buffersOk j.part [(j.addr 0, llrStride x.e), (j.addr 1, bitStride x.k)]
def tbccDecodeOk (s : State) (j : Job) : Bool :=
  let x := polarJob j
  polarCommonOk j x && decide (8 ≤ x.k) && decide (x.k ≤ 1023) && x.crc != 3 && x.list != 0 && !x.ones && x.cinit == 0
    && !x.scr && s.buffersOk j.part [(j.addr 0, llrStride x.e), (j.addr 1, bitStride x.k)]
def polarEncodeOk (s : State) (j : Job) : Bool :=
  let x := polarJob j
  polarCommonOk j x && decide (x.k + 24 ≤ 164) && x.crc == 0 && x.list == 0
    && s.buffersOk j.part [(j.addr 0, bitStride x.k), (j.addr 1, bitStride x.e)]
def tbccEncodeOk (s : State) (j : Job) : Bool :=
  let x := polarJob j
  polarCommonOk j x && decide (x.k + 16 ≤ 1023) && x.crc == 0 && x.list == 0 && !x.ones
    && s.buffersOk j.part [(j.addr 0, bitStride x.k), (j.addr 1, bitStride x.e)]

/-- The CRC of decoded bits, its mask taken off, fails. -/
def maskedCrcFails (c : Nat × Nat) (bits : List Bool) (mask : Nat) : Bool :=
  let n := bits.length - c.1
  maskBits (crcOf c (bits.take n)) mask != bits.drop n

/-- Bytes 32–47 of a polar or convolutional decoder's result entry: the metric (R252). -/
def metricInfo (r : AccRun) : List Byte := valBytes 4 r.metric ++ valBytes 12 0

/-- The path that a list decoder puts out: the best of those whose CRC passes, or the best of all where none does (R252). -/
def polarBest (x : PolarJob) (c : Nat × Nat) (v : List Int) : List Bool × Nat :=
  let path := fun i => (List.range x.k).map (Config.polarBit x.k x.list v i)
  let i := ((List.range (2 ^ x.list)).find? (fun i => !maskedCrcFails c (path i) x.mask)).getD 0
  (path i, Config.polarMetric x.k x.list v i)

/-- A decoder of one block: its bits, its metric, its flag. -/
def decodeOne (j : Job) (x : PolarJob) (dec : List Int → List Bool × Nat) (fails : List Bool → Bool) (r : AccRun) : AccRun :=
  let (l, r) := r.read (j.addr 0) x.e
  if !r.live then r else
  let d := dec (llrsIn l x.e)
  (({ r with metric := d.2 % 2 ^ 32 }).write (j.addr 1) (bitsOut (bitStride x.k) d.1)).block (fails d.1)

/-- POLAR_DECODE: flag 0 where no path's CRC passed. -/
def execPolarDecode (unit : Nat) (s : State) : Host.Outcome State Fault Refusal :=
  .next (s.accRun unit 0x30 (fun j r =>
    let x := polarJob j
    let c := match x.crc with | 0 => crc6 | 1 => crc11 | _ => crc24C
    decodeOne j x (polarBest x c) (fun b => maskedCrcFails c b x.mask) r) metricInfo)

/-- TBCC_DECODE. -/
def execTbccDecode (unit : Nat) (s : State) : Host.Outcome State Fault Refusal :=
  .next (s.accRun unit 0x32 (fun j r =>
    let x := polarJob j
    decodeOne j x (fun v => ((List.range x.k).map (Config.tbccBit x.k x.list v), Config.tbccMetric x.k x.list v))
      (fun b => match x.crc with
        | 0 => false
        | 1 => maskedCrcFails crc8 b x.mask
        | _ => maskedCrcFails crc16 b x.mask) r) metricInfo)

/-- An encoder of one block. -/
def encodeOne (j : Job) (x : PolarJob) (enc : List Bool → List Bool) (r : AccRun) : AccRun :=
  let (l, r) := r.read (j.addr 0) (ceilDiv x.k 8)
  let b := enc (bitsIn l x.k)
  let b := if x.scr then scramble x.cinit 0 b else b
  (r.write (j.addr 1) (bitsOut (bitStride x.e) b)).block false

/-- POLAR_ENCODE. -/
def execPolarEncode (unit : Nat) (s : State) : Host.Outcome State Fault Refusal :=
  .next (s.accRun unit 0x31 (fun j r =>
    let x := polarJob j
    encodeOne j x (fun b => polarEncodeBits b x.e x.mask x.ones) r) metricInfo)
/-- TBCC_ENCODE. -/
def execTbccEncode (unit : Nat) (s : State) : Host.Outcome State Fault Refusal :=
  .next (s.accRun unit 0x33 (fun j r =>
    let x := polarJob j
    encodeOne j x (fun b => tbccEncodeBits b x.e x.mask) r) metricInfo)

/-- The ARGS check of a type of this chapter. -/
def codingArgsOk (s : State) (j : Job) : Bool :=
  match j.typ with
  | 0x10 => ldpcDecodeOk s j | 0x20 => ldpcEncodeOk s j | 0x28 => turboDecodeOk s j
  | 0x30 => polarDecodeOk s j | 0x31 => polarEncodeOk s j | 0x32 => tbccDecodeOk s j | 0x33 => tbccEncodeOk s j
  | 0x60 => tbOk s j | 0x61 => tbOk s j | 0x62 => matchOk s false j | 0x63 => recoverOk s false j
  | 0x64 => turboEncodeOk s j | 0x65 => matchOk s true j | 0x66 => recoverOk s true j
  | _ => true

end Sys2Proof.Machine
end

