-- ==== Sys2Proof/Machine/Binary32.lean ====
section
/-!
DEFINITION. The binary32 arithmetic of R259: the device rounds each operation to nearest even and flushes subnormal values to
zero, in an operation order that it fixes and the spec does not print. A result is exact where every order gives it exactly,
and free (Config) elsewhere.
-/

namespace Sys2Proof.Machine

/-! ## Values -/

/-- Two to an integer power. -/
def twoPow (e : Int) : ℚ := if 0 ≤ e then ((2 ^ e.toNat : Nat) : ℚ) else 1 / ((2 ^ (-e).toNat : Nat) : ℚ)

/-- A binary32 in units of 2^−149; a subnormal counts as zero. -/
def f32Units (b : Nat) : Int :=
  let e := b / 2 ^ 23 % 256
  let m : Int := if e = 0 then 0 else (2 ^ 23 + b % 2 ^ 23) * 2 ^ (e - 1)
  if b.testBit 31 then -m else m

/-- The value of a binary32. -/
def f32Val (b : Nat) : ℚ := f32Units b * twoPow (-149)

/-- A binary32 with a subnormal flushed to zero. -/
def f32Flush (b : Nat) : Nat := if b / 2 ^ 23 % 256 = 0 then b / 2 ^ 31 * 2 ^ 31 else b

/-- The binary32 of m · 2^e, of which the first 24 bits are kept. -/
def f32Of (negative : Bool) (m : Nat) (e : Int) : Nat :=
  if m = 0 then 0 else
  let l := m.log2
  let frac := if l ≤ 23 then m * 2 ^ (23 - l) else m / 2 ^ (l - 23)
  negative.toNat * 2 ^ 31 + (e + l + 127).toNat * 2 ^ 23 + frac % 2 ^ 23

/-! ## Numbers that operations arrive at -/

/-- What a formula arrives at: its exact value, a bound of every partial sum that an order of its operations can meet, a
power of two that makes every term whole, 0 where some term is no such fraction, and whether no order can divide by zero on
the way. -/
structure FQ where
  val : ℚ
  mag : ℚ
  den : Nat
  finite : Bool
deriving DecidableEq, Repr

/-- A number that is given. -/
def FQ.of (q : ℚ) : FQ := ⟨q, |q|, if 2 ^ q.den.log2 = q.den then q.den else 0, true⟩

/-- Every order of the operations gives the value itself: all they can meet are whole numbers of 24 bits of one unit. -/
def FQ.exact (x : FQ) : Bool :=
  x.finite && (decide (x.mag = 0) || (x.den != 0 && decide (x.mag * x.den ≤ 2 ^ 24) && decide (x.den ≤ 2 ^ 126)))

def FQ.zero : FQ := ⟨0, 0, 1, true⟩
def FQ.neg (x : FQ) : FQ := ⟨-x.val, x.mag, x.den, x.finite⟩
def FQ.add (x y : FQ) : FQ :=
  ⟨x.val + y.val, x.mag + y.mag,
   if x.mag = 0 then y.den else if y.mag = 0 then x.den else if x.den = 0 ∨ y.den = 0 then 0 else max x.den y.den,
   x.finite && y.finite⟩
def FQ.sub (x y : FQ) : FQ := x.add y.neg
def FQ.mul (x y : FQ) : FQ := ⟨x.val * y.val, x.mag * y.mag, x.den * y.den, x.finite && y.finite⟩
def FQ.sum (l : List FQ) : FQ := l.foldl FQ.add FQ.zero

/-- The quotient: exact for a power of two as divisor only. A divisor whose terms all have one sign, and which is not too
small, cannot be zero in any order. -/
def FQ.div (x y : FQ) : FQ :=
  let d := y.val.den
  let n := y.val.num.natAbs
  let safe := y.finite && decide (y.mag = |y.val|) && decide (twoPow (-100) ≤ y.mag)
  let two := y.exact && 2 ^ d.log2 == d && 2 ^ n.log2 == n
  ⟨x.val / y.val, if safe then x.mag / y.mag else 1, if two then x.den * n else 0, x.finite && safe⟩

/-- The larger of two. -/
def FQ.max (x y : FQ) : FQ := if x.val ≤ y.val then y else x

/-- An F32 result of a job, at a place among its results. Where the operations are not exact it is free but for the flush,
and so is the sign of a zero. -/
def AccRun.f32 (r : AccRun) (place : Nat) (x : FQ) : Nat :=
  let free := (Config.f32 r.seen place x.val).toNat
  if x.exact then (if x.val = 0 then free / 2 ^ 31 * 2 ^ 31 else f32Of (decide (x.val < 0)) x.val.num.natAbs (-(x.val.den.log2 : Int)))
  else f32Flush free

/-- An F32 result that is a sum of squares: no negative zero. -/
def AccRun.f32Power (r : AccRun) (place : Nat) (x : FQ) : Nat := r.f32 place x % 2 ^ 31

/-- A binary32 as a U16 of units 1 ÷ `scale`: the whole number below it or, where it is none, the one above. What does not fit
saturates for `sat`, and is free otherwise. -/
def AccRun.u16 (r : AccRun) (place scale : Nat) (sat : Bool) (b : Nat) : Nat :=
  let v := f32Val b * scale
  let n := v.floor + (if v = v.floor then 0 else if Config.u16Up r.seen place then 1 else 0)
  if 0 ≤ n ∧ n ≤ 65535 then n.toNat
  else if sat ∧ 65535 < n then 65535
  else (Config.u16 r.seen place).toNat

/-! ## Complex numbers and matrices -/

/-- A complex number that operations arrive at. -/
structure CQ where
  re : FQ
  im : FQ
deriving DecidableEq, Repr

def CQ.zero : CQ := ⟨.zero, .zero⟩
def CQ.one : CQ := ⟨.of 1, .zero⟩
def CQ.add (x y : CQ) : CQ := ⟨x.re.add y.re, x.im.add y.im⟩
def CQ.sub (x y : CQ) : CQ := ⟨x.re.sub y.re, x.im.sub y.im⟩
def CQ.mul (x y : CQ) : CQ := ⟨(x.re.mul y.re).sub (x.im.mul y.im), (x.re.mul y.im).add (x.im.mul y.re)⟩
def CQ.conj (x : CQ) : CQ := ⟨x.re, x.im.neg⟩
def CQ.norm2 (x : CQ) : FQ := (x.re.mul x.re).add (x.im.mul x.im)
def CQ.scale (q : FQ) (x : CQ) : CQ := ⟨q.mul x.re, q.mul x.im⟩
def CQ.div (x : CQ) (q : FQ) : CQ := ⟨x.re.div q, x.im.div q⟩
def CQ.inv (x : CQ) : CQ := (x.conj).div x.norm2
def CQ.sum (l : List CQ) : CQ := l.foldl CQ.add CQ.zero
def CQ.ofInt (x : Int × Int) (q : ℚ) : CQ := ⟨.of (x.1 * q), .of (x.2 * q)⟩
def CQ.isZero (x : CQ) : Bool := decide (x.re.val = 0) && decide (x.im.val = 0)

/-- A complex F32 result. -/
def AccRun.cf32 (r : AccRun) (place : Nat) (x : CQ) : List Nat := [r.f32 (2 * place) x.re, r.f32 (2 * place + 1) x.im]

/-- A matrix by rows. -/
abbrev CMat := List (List CQ)

/-- The matrix of r rows and c columns whose element (i, j) is `f i j`. -/
def matOf (r c : Nat) (f : Nat → Nat → CQ) : CMat := (List.range r).map (fun i => (List.range c).map (f i))

/-- Element (i, j). -/
def CMat.at (m : CMat) (i j : Nat) : CQ := (m.getD i []).getD j CQ.zero

/-- The product, `n` the inner size. -/
def CMat.mul (r n c : Nat) (x y : CMat) : CMat :=
  matOf r c (fun i j => CQ.sum ((List.range n).map (fun k => (x.at i k).mul (y.at k j))))

/-- The conjugate transpose of a matrix of r rows and c columns. -/
def CMat.herm (r c : Nat) (x : CMat) : CMat := matOf c r (fun i j => (x.at j i).conj)

/-- A square matrix plus q times the identity. -/
def CMat.addI (n : Nat) (q : FQ) (x : CMat) : CMat :=
  matOf n n (fun i j => if i = j then (x.at i j).add ⟨q, .zero⟩ else x.at i j)

/-- A matrix divided by a number. -/
def CMat.div (q : FQ) (x : CMat) : CMat := x.map (fun r => r.map (fun e => e.div q))

/-- One elimination step of column k on a matrix with the identity beside it. -/
def eliminate (n k : Nat) (m : CMat) : CMat :=
  match (List.range n).find? (fun i => decide (k ≤ i) && !(CMat.at m i k).isZero) with
  | none => m
  | some p =>
    let m := (m.set k (m.getD p [])).set p (m.getD k [])
    let row := (m.getD k []).map (CQ.mul (CMat.at m k k).inv)
    (List.range n).map (fun i =>
      if i = k then row
      else (List.zip (m.getD i []) row).map (fun e => e.1.sub ((CMat.at m i k).mul e.2)))

/-- The inverse of an n by n matrix. -/
def CMat.inv (n : Nat) (x : CMat) : CMat :=
  let m := (List.range n).foldl (fun m k => eliminate n k m)
    (matOf n (2 * n) (fun i j => if j < n then x.at i j else if j = n + i then CQ.one else CQ.zero))
  m.map (fun r => r.drop n)

end Sys2Proof.Machine
end

