-- ==== Sys2Proof/Machine/Matrix.lean ====
section
/-!
DEFINITION. Numbers, records and layouts of equalization and demapping (R258 to R262, R265, R267): conversion to SCALED,
fixed-point rounding and angles are exact.
-/

namespace Sys2Proof.Machine

open Reg Ob

/-! ## SCALED (R258, R259) -/

/-- The nearest multiple of 2^n, in units of it, halves to even. -/
def roundEven (v : Int) (n : Nat) : Int :=
  let q := v / 2 ^ n
  let r := 2 * (v % 2 ^ n)
  if r < 2 ^ n then q else if 2 ^ n < r then q + 1 else if q % 2 = 0 then q else q + 1

/-- A record's F32 values in SCALED: EXP, whether it was clamped, and the parts. -/
def toScaled (l : List Nat) : Int × Bool × List Int :=
  let parts := fun (x : Int) => l.map (fun b => roundEven (f32Units b) (134 + x).toNat)
  let fits := fun (x : Int) => (parts x).all (fun p => decide (p.natAbs ≤ 32767))
  match ((List.range 128).map (fun i => (i : Int) - 64)).find? fits with
  | some x => (x, false, parts x)
  | none => (63, true, (parts 63).map (clampTo 32767))

/-- A SCALED part. -/
def scaledVal (exp p : Int) : ℚ := p * twoPow (exp - 15)

/-- The complex value of two parts of SCALED. -/
def scaledC (exp : Int) (x : Int × Int) : CQ := ⟨.of (scaledVal exp x.1), .of (scaledVal exp x.2)⟩

/-- A complex number of two signed 16-bit parts at an offset. -/
def pairAt (l : List Byte) (off : Nat) : Int × Int := (toSigned 16 (fieldAt l off 2), toSigned 16 (fieldAt l (off + 2) 2))

/-- Its bytes. -/
def pairBytes (x : Int × Int) : List Byte := valBytes 2 (ofSigned 16 x.1) ++ valBytes 2 (ofSigned 16 x.2)

/-- A CF32 at an offset. -/
def cf32At (l : List Byte) (off : Nat) : CQ :=
  ⟨.of (f32Val (fieldAt l off 4)), .of (f32Val (fieldAt l (off + 4) 4))⟩

/-- The bytes of SCALED parts. -/
def partBytes (l : List Int) : List Byte := l.flatMap (fun p => valBytes 2 (ofSigned 16 p))

/-- n bytes of a list, zeros behind it. -/
def fillTo (n : Nat) (l : List Byte) : List Byte := l ++ List.replicate (n - l.length) 0

/-! ## Fixed point (R168) -/

/-- round_n, halves upward; a negative n multiplies. -/
def roundAt (n : Int) (v : Int) : Int :=
  if n < 0 then v * 2 ^ (-n).toNat else if n = 0 then v else (v + 2 ^ (n.toNat - 1)) / 2 ^ n.toNat

/-- sat16, with whether it saturated. -/
def sat16 (v : Int) : Int × Bool := let c := clampSigned 16 v; (c, c != v)

/-- round_n and sat16 of both parts. -/
def satPair (n : Int) (x : Int × Int) : (Int × Int) × Bool :=
  let a := sat16 (roundAt n x.1)
  let b := sat16 (roundAt n x.2)
  ((a.1, b.1), a.2 || b.2)

/-- The product of complex integers, and the conjugate. -/
def cmul (x y : Int × Int) : Int × Int := (x.1 * y.1 - x.2 * y.2, x.1 * y.2 + x.2 * y.1)
def cconj (x : Int × Int) : Int × Int := (x.1, -x.2)
def cadd (x y : Int × Int) : Int × Int := (x.1 + y.1, x.2 + y.2)
def csum (l : List (Int × Int)) : Int × Int := l.foldl cadd (0, 0)

/-- The rational rounded to an integer, halves upward. -/
def roundUp (num den : Int) : Int := if den < 0 then (-2 * num - den) / (-2 * den) else (2 * num + den) / (2 * den)

/-! ## Angles (R259) -/

/-- π × 2^64, floor. -/
def piUnits : Int := 57952155664616982739

/-- The Taylor terms of sine or cosine of x, all in units of 2^−64, from the term number n. -/
def trigTerms (x : Int) : Nat → Nat → Int → Int
  | 0, _, _ => 0
  | fuel + 1, n, t => t + trigTerms x fuel (n + 2) (-(t * x / 2 ^ 64 * x / 2 ^ 64) / ((n + 1) * (n + 2)))

/-- Cosine and sine, in units of 2^−64, of a part of a quarter turn: a ÷ 2^30. -/
def quarterTrig (a : Nat) : Int × Int :=
  let x := piUnits * a / 2 ^ 31
  (trigTerms x 16 0 (2 ^ 64), trigTerms x 16 1 x)

/-- Cosine and sine of an ANGLE, in units of 2^−64. -/
def angleTrig (a : Nat) : Int × Int :=
  let t := quarterTrig (a % 2 ^ 30)
  match a / 2 ^ 30 % 4 with
  | 0 => t
  | 1 => (-t.2, t.1)
  | 2 => (-t.1, -t.2)
  | _ => (t.2, -t.1)

/-- The rotation factor e^(jφ) in Q1.15 from bits 31:16 of the angle: a whole number within 1 of the true value, within
±32,767. -/
def rotor (a : Nat) : Int × Int :=
  let h := a % 2 ^ 32 / 2 ^ 16
  let t := angleTrig (h * 2 ^ 16)
  (clampTo 32767 (t.1 / 2 ^ 49 + (if Config.trigUp false h then 1 else 0)),
   clampTo 32767 (t.2 / 2 ^ 49 + (if Config.trigUp true h then 1 else 0)))

/-- The largest a below 2^30 whose direction does not lie beyond (x, y) of the first quadrant, by bisection. -/
def quarterArg (x y : Int) : Nat :=
  (List.range 30).foldl (fun a i =>
    let b := a + 2 ^ (29 - i)
    let t := quarterTrig b
    if x * t.2 ≤ y * t.1 then b else a) 0

/-- arg of a complex integer as a signed ANGLE, accurate to ±2^17 (R259). -/
def argOf (z : Int × Int) : Int :=
  let q := if 0 < z.1 ∧ 0 ≤ z.2 then (0, z.1, z.2) else if z.1 ≤ 0 ∧ 0 < z.2 then (1, z.2, -z.1)
    else if z.1 < 0 ∧ z.2 ≤ 0 then (2, -z.1, -z.2) else ((3 : Nat), -z.2, z.1)
  let a : Int := (q.1 * 2 ^ 30 + quarterArg q.2.1 q.2.2 : Nat)
  toSigned 32 (ofSigned 32 (a + (Config.argOff z.1 z.2 % 2 ^ 18 : Nat) - (2 ^ 17 - 1)))

/-! ## The allocation record (R260, R261) -/

/-- The allocation record. -/
structure Alloc where
  prbStart : Nat
  nprb : Nat
  nrx : Nat
  nl : Nat
  scg : Nat
  ngrp : Nat
  dmrs : Nat
  data : Nat
  pattern : Nat
  cdm : Nat
  double : Bool
  fdl : Nat
  ptrsK : Nat
  ptrsOffset : Nat
  ptrsRe : Nat
  ptrsLayer : Nat
  antStride : Nat
  symStride : Nat
  layerPat : Nat
  ptrsMask : Nat
  pilotAddr : Nat
  trackBase : Nat

/-- The record of 64 bytes, none where a field is out of range. -/
def allocOf (l : List Byte) : Option Alloc :=
  let f := fieldAt l
  let pc := f 12 1
  let pt := f 13 1
  let a : Alloc := ⟨f 0 2, f 2 2, f 4 1, f 5 1, f 6 1, f 7 1, f 8 2, f 10 2, pc % 4, pc / 4 % 4, pc.testBit 4,
    2 ^ (pc / 32 % 4), pt % 4, pt / 4 % 4, pt / 16, f 14 1, f 16 4, f 20 4, f 24 4, f 28 2, f 32 8, f 40 8⟩
  if a.prbStart ≤ 274 ∧ 1 ≤ a.nprb ∧ a.prbStart + a.nprb ≤ 275 ∧ 1 ≤ a.nrx ∧ a.nrx ≤ 64 ∧ 1 ≤ a.nl ∧ a.nl ≤ 16
      ∧ a.scg ∈ [1, 2, 3, 4, 6, 12] ∧ 1 ≤ a.ngrp ∧ a.ngrp ≤ 16 ∧ a.dmrs < 2 ^ 14 ∧ a.data < 2 ^ 14 ∧ 1 ≤ a.cdm
      ∧ pc < 128 ∧ a.ptrsK ≤ 2 ∧ a.ptrsRe ≤ 11 ∧ a.ptrsLayer ≤ 15 ∧ a.antStride % 64 = 0 ∧ a.symStride % 64 = 0
      ∧ a.ptrsMask < 2 ^ 14 ∧ a.pilotAddr < 2 ^ 48 ∧ a.trackBase < 2 ^ 48 ∧ a.pilotAddr % 64 = 0 ∧ a.trackBase % 64 = 0
      ∧ f 15 1 = 0 ∧ f 30 2 = 0 ∧ f 48 8 = 0 ∧ f 56 8 = 0 then some a else none

/-- The first allocation subcarrier, their number, and all of them. -/
def Alloc.first (a : Alloc) : Nat := 12 * a.prbStart
def Alloc.nsc (a : Alloc) : Nat := 12 * a.nprb
def Alloc.carriers (a : Alloc) : List Nat := (List.range a.nsc).map (fun i => a.first + i)

/-- Weight groups, and the group of a subcarrier. -/
def Alloc.groups (a : Alloc) : Nat := a.nsc / a.scg
def Alloc.groupOf (a : Alloc) (k : Nat) : Nat := (k - a.first) / a.scg

/-- Subcarrier k lies in the pattern of a group or offset. -/
def Alloc.inPattern (a : Alloc) (c k : Nat) : Bool :=
  match a.pattern with
  | 0 => k % 2 == c
  | 1 => k % 6 == 2 * c || k % 6 == 2 * c + 1
  | 2 => k % 2 == c
  | _ => k % 4 == c

/-- LAYER_PAT of a layer, and the layer's pilot REs of a DMRS symbol. -/
def Alloc.patOf (a : Alloc) (l : Nat) : Nat := a.layerPat / 4 ^ l % 4
def Alloc.pilots (a : Alloc) (l : Nat) : List Nat := a.carriers.filter (a.inPattern (a.patOf l))

/-- A symbol carries DMRS; RE (sym, k) is a PTRS RE. -/
def Alloc.isDmrs (a : Alloc) (sym : Nat) : Bool := a.dmrs.testBit sym
def Alloc.isPtrs (a : Alloc) (sym k : Nat) : Bool :=
  let prb := k / 12 - a.prbStart
  let n := 2 * a.ptrsK
  a.ptrsMask.testBit sym && a.ptrsK != 0 && k % 12 == a.ptrsRe
    && decide (((prb : Int) - a.ptrsOffset) % n = 0)

/-- The PTRS REs of a symbol. -/
def Alloc.ptrs (a : Alloc) (sym : Nat) : List Nat := a.carriers.filter (a.isPtrs sym)

/-- The data REs of a symbol in ascending k. -/
def Alloc.dataRes (a : Alloc) (sym : Nat) : List Nat :=
  if a.data.testBit sym then
    a.carriers.filter (fun k => !a.isPtrs sym k
      && !(a.isDmrs sym && (List.range a.cdm).any (fun c => a.inPattern c k)))
  else []

/-- The run of DMRS symbols that contains a symbol; none where it is no DMRS symbol. -/
def Alloc.run (a : Alloc) (sym : Nat) : List Nat :=
  (List.range 14).filter (fun l => (List.range 14).all (fun m =>
    decide (m < min l sym) || decide (max l sym < m) || a.isDmrs m))

/-! ## Reads of grids, pilots and records -/

/-- Read the 64-byte lines at `base` that hold the complex numbers of 4 bytes at places `ks`. -/
def AccRun.lines (r : AccRun) (base : Nat) (ks : List Nat) : Tab (List Byte) × AccRun :=
  ((ks.map (fun k => k / 16)).dedup).foldl (fun (p : Tab (List Byte) × AccRun) n =>
    let q := p.2.read (base + 64 * n) 64
    (Tab.set p.1 n q.1, q.2)) ([], r)

/-- The complex number at place k of lines read. -/
def linePair (t : Tab (List Byte)) (k : Nat) : Int × Int := pairAt (Tab.get [] t (k / 16)) (4 * (k % 16))

/-- Where the samples of an antenna or layer of a grid start, in a symbol (R262). -/
def Alloc.row (a : Alloc) (grid ant sym : Nat) : Nat := grid + ant * a.antStride + sym * a.symStride

/-- The bytes of a grid from its address on, of n antennas and symbols up to `sym`. -/
def Alloc.gridExtent (a : Alloc) (n sym : Nat) : Nat :=
  (n - 1) * a.antStride + sym * a.symStride + 64 * ceilDiv (4 * (a.first + a.nsc)) 64

/-- The pilot row of a layer in a symbol, indexed from the first allocation subcarrier. -/
def Alloc.pilotStride (a : Alloc) : Nat := 64 * ceilDiv (48 * a.nprb) 64
def Alloc.pilotRow (a : Alloc) (sym l : Nat) : Nat := a.pilotAddr + (16 * sym + l) * a.pilotStride

/-- The layers whose pilot rows a symbol's tracking or mapping uses: all in a DMRS symbol, else that of the PTRS REs. -/
def Alloc.pilotLayers (a : Alloc) (sym : Nat) : List Nat :=
  if a.isDmrs sym then List.range a.nl
  else if (a.ptrs sym).isEmpty || decide (a.nl ≤ a.ptrsLayer) then [] else [a.ptrsLayer]

/-- The part of the pilot buffer from the first row to the last of the symbols and layers that a job uses. -/
def Alloc.pilotRoom (a : Alloc) (syms lays : List Nat) : Nat × Nat :=
  let first := a.pilotRow (syms.headD 0) (lays.headD 0)
  (first, if syms.isEmpty || lays.isEmpty then 0
    else a.pilotRow (syms.getLastD 0) (lays.getLastD 0) + a.pilotStride - first)

/-- ES, CS and WS (R265, R267), and SS (R279). -/
def Alloc.es (a : Alloc) : Nat := 64 + 64 * ceilDiv (48 * a.nrx * a.nl) 64
def Alloc.cs (a : Alloc) : Nat := 64 + 64 * ceilDiv (8 * a.nrx ^ 2) 64
def weightStride (nout nin : Nat) : Nat := 128 + 64 * ceilDiv (4 * nout * nin) 64
def Alloc.ss (a : Alloc) : Nat := 64 + 64 * ceilDiv (8 * a.nl ^ 2) 64

/-- A record's EXP and ANCHOR are in range. -/
def expOk (e : Int) : Bool := decide (-64 ≤ e) && decide (e ≤ 63)

/-- A weight record (R267). -/
structure Weights where
  exp : Int
  anchor : Nat
  nout : Nat
  nin : Nat
  prec : List Nat
  gain : List Nat
  w : List (Int × Int)

/-- Weight (o, i). -/
def Weights.at (x : Weights) (o i : Nat) : Int × Int := x.w.getD (o * x.nin + i) (0, 0)

/-- The weights as complex rationals. -/
def Weights.mat (x : Weights) : CMat := matOf x.nout x.nin (fun o i => scaledC x.exp (x.at o i))

/-- Read weight record g of `nout` outputs and `nin` inputs at `base`; a header of others stops the job (R257). -/
def AccRun.weights (r : AccRun) (base g nout nin : Nat) : Weights × AccRun :=
  let (l, r) := r.read (base + g * weightStride nout nin) (weightStride nout nin)
  let u16s := fun off => (List.range 16).map (fun i => fieldAt l (off + 2 * i) 2)
  let x : Weights := ⟨toSigned 8 (fieldAt l 0 1), fieldAt l 1 1, fieldAt l 2 1, fieldAt l 3 1, u16s 64, u16s 96,
    (List.range (nout * nin)).map (fun i => pairAt l (128 + 4 * i))⟩
  (x, if r.live then r.require (expOk x.exp && decide (x.anchor ≤ 13) && x.nout == nout && x.nin == nin) else r)

/-- Write a weight record of F32 values (R267); flag 0 where it was clamped. -/
def AccRun.putWeights (r : AccRun) (base g nout nin anchor : Nat) (unbiased : Bool) (prec gain vals : List Nat) : AccRun :=
  let (exp, clamped, parts) := toScaled vals
  let u16s := fun (l : List Nat) => (List.range 16).flatMap (fun i => valBytes 2 (l.getD i 0))
  let head := valBytes 1 (ofSigned 8 exp) ++ valBytes 1 anchor ++ valBytes 1 nout ++ valBytes 1 nin
    ++ valBytes 1 (unbiased.toNat + 2 * clamped.toNat)
  let r := r.write (base + g * weightStride nout nin)
    (fillTo (weightStride nout nin) (fillTo 64 head ++ u16s prec ++ u16s gain ++ partBytes parts))
  (if clamped then r.setFlag 0 else r).done

/-- A PRB record (R265): ANCHOR, NOISE, and the estimates of its twelve subcarriers. -/
structure PrbRecord where
  anchor : Nat
  noise : ℚ
  h : Nat → Nat → Nat → CQ

/-- Read PRB record p of an estimate. -/
def AccRun.prb (r : AccRun) (a : Alloc) (est p : Nat) : PrbRecord × AccRun :=
  let (l, r) := r.read (est + p * a.es) a.es
  let exp := toSigned 8 (fieldAt l 0 1)
  (⟨fieldAt l 1 1, f32Val (fieldAt l 8 4), fun lay ant sc => scaledC exp (pairAt l (64 + 48 * (lay * a.nrx + ant) + 4 * sc))⟩,
   if r.live then r.require (expOk exp && decide (fieldAt l 1 1 ≤ 13) && fieldAt l 2 1 == a.nrx && fieldAt l 3 1 == a.nl)
   else r)

/-- H of a group: the mean over its subcarriers, NRX rows and NL columns, with its record (R266). -/
def AccRun.groupH (r : AccRun) (a : Alloc) (est g : Nat) : CMat × PrbRecord × AccRun :=
  let k := g * a.scg
  let (p, r) := r.prb a est (k / 12)
  (matOf a.nrx a.nl (fun i l =>
    (CQ.sum ((List.range a.scg).map (fun s => p.h l i (k % 12 + s)))).div (.of a.scg)), p, r)

/-- The noise of a record, floored at 2^−60. -/
def PrbRecord.sigma (p : PrbRecord) : FQ := FQ.max (.of p.noise) (.of (twoPow (-60)))

/-- Run a job with its allocation record; the extents that depend on it are checked then (R257). -/
def AccRun.withAlloc (r : AccRun) (j : Job) (extents : Alloc → List (Nat × Nat)) (body : Alloc → AccRun → AccRun) : AccRun :=
  let (l, r) := r.read (j.addr 0) 64
  if !r.live then r else
  match allocOf l with
  | none => r.halt codeBadDescriptor
  | some a => if r.buffersOk ((j.addr 0, 64) :: extents a) then body a r else r.halt codeBadDescriptor

end Sys2Proof.Machine
end

