-- ==== Sys2Proof/Machine/MatrixJobs.lean ====
section
/-!
DEFINITION. Channel estimation, weights and joint processing: the checks of their ARGS (R263) and their meanings (R264 to
R267, R277 to R280).
-/

namespace Sys2Proof.Machine

open Reg Ob

/-- The ARGS words of a matrix job whose addresses are in words 0 to 3: each a multiple of 64, the allocation record in one
memory. -/
def matrixAddrsOk (s : State) (j : Job) : Bool :=
  outOk j && (List.range 4).all (fun i => j.addr i % 64 == 0) && s.buffersOk j.part [(j.addr 0, 64)]

/-- Bytes 32–47 of a result entry, packed into one number by the job. -/
def packedInfo (r : AccRun) : List Byte := valBytes 16 r.metric

/-! ## CHEST (R264, R265) -/

/-- The ARGS check of CHEST. -/
def chestOk (s : State) (j : Job) : Bool :=
  matrixAddrsOk s j && decide (j.fld 0 60 57 ≤ 13) && j.fld 0 55 48 == 0 && j.fld 1 63 48 == 0 && j.arg 2 == 0
    && j.fld 3 63 48 == 0

/-- Tap t of the filter that a job has kept from its dispatch: signed Q2.14 (R283). -/
def Job.tap (j : Job) (t : Int) : ℚ := (toSigned 16 (j.filter.getD (t + 5).toNat 0) : ℚ) / 2 ^ 14

/-- The offsets −T to T of the filter, and its noise correction. -/
def Job.taps (j : Job) : List Int :=
  let t := (j.filter.getD 1 0 - 1) / 2
  (List.range (2 * t + 1)).map (fun i => (i : Int) - t)
def Job.noiseCorrection (j : Job) : FQ := .of ((j.filter.getD 0 0 : ℚ) / 4096)

/-- A list in blocks of n, the last one perhaps shorter. -/
def blocksOf {α : Type} (n : Nat) (l : List α) : List (List α) :=
  (List.range (ceilDiv l.length n)).map (fun b => (l.drop (b * n)).take n)

/-- The value at k between given positions, held outside them (R264 step 4). -/
def interpolate (pts : List (ℚ × CQ)) (k : ℚ) : CQ :=
  match pts with
  | [] => CQ.zero
  | p :: r =>
    if k ≤ p.1 then p.2 else
    match (List.zip pts r).find? (fun e => decide (k ≤ e.2.1)) with
    | some (x, y) => x.2.add ((y.2.sub x.2).scale (.of ((k - x.1) / (y.1 - x.1))))
    | none => (r.getLastD p).2

/-- What CHEST has read: samples by symbol × 64 + antenna, pilots by symbol × 16 + layer. -/
structure ChestIn where
  y : Tab (Tab (List Byte))
  p : Tab (Tab (List Byte))

/-- The sample and the pilot of an RE, in the values that the formats represent. -/
def ChestIn.sample (c : ChestIn) (sym ant k : Nat) : CQ :=
  CQ.ofInt (linePair (Tab.get [] c.y (sym * 64 + ant)) k) (twoPow (-15))
def ChestIn.pilot (c : ChestIn) (a : Alloc) (sym l k : Nat) : CQ :=
  CQ.ofInt (linePair (Tab.get [] c.p (sym * 16 + l)) (k - a.first)) (twoPow (-12))

/-- Read the samples and pilots of an occasion. -/
def AccRun.chestIn (r : AccRun) (a : Alloc) (grid : Nat) (occ : List Nat) : ChestIn × AccRun :=
  let used := a.carriers.filter (fun k => (List.range a.nl).any (fun l => a.inPattern (a.patOf l) k))
  occ.foldl (fun (q : ChestIn × AccRun) sym =>
    let q := (List.range a.nrx).foldl (fun (q : ChestIn × AccRun) ant =>
      let x := q.2.lines (a.row grid ant sym) used
      ({ q.1 with y := Tab.set q.1.y (sym * 64 + ant) x.1 }, x.2)) q
    (List.range a.nl).foldl (fun (q : ChestIn × AccRun) l =>
      let x := q.2.lines (a.pilotRow sym l) ((a.pilots l).map (fun k => k - a.first))
      ({ q.1 with p := Tab.set q.1.p (sym * 16 + l) x.1 }, x.2)) q) (⟨[], []⟩, r)

/-- The smoothed block estimates of a layer and an antenna, with their positions (R264 steps 1 to 3). -/
def chestBlocks (j : Job) (a : Alloc) (c : ChestIn) (syms : List Nat) (l ant : Nat) : List (ℚ × CQ) :=
  let blocks := blocksOf a.fdl (a.pilots l)
  let u := blocks.map (fun ks =>
    let res := syms.flatMap (fun sym => ks.map (fun k => (c.sample sym ant k, c.pilot a sym l k)))
    let energy := FQ.sum (res.map (fun e => e.2.norm2))
    if energy.val = 0 then CQ.zero else (CQ.sum (res.map (fun e => e.1.mul e.2.conj))).div energy)
  let ts := j.taps
  let h := j.tap
  blocks.zipIdx.map (fun e =>
    let valid := ts.filter (fun t => decide (0 ≤ (e.2 : Int) + t) && decide ((e.2 : Int) + t < blocks.length))
    let sv := (valid.map h).sum
    let ub := u.getD e.2 CQ.zero
    (((e.1.map (fun k => (k : ℚ))).sum / e.1.length,
      if sv = 0 then ub
      else (CQ.sum (valid.map (fun t => (u.getD ((e.2 : Int) + t).toNat CQ.zero).scale (.of (h t))))).scale
        (.of ((ts.map h).sum / sv)))))

/-- CHEST. -/
def chest (j : Job) (r : AccRun) : AccRun :=
  let dsym := j.fld 0 60 57
  let ncov := j.fld 0 56 56 == 1
  let ext := fun (a : Alloc) => ceilDiv a.nprb a.ngrp
  r.withAlloc j (fun a => [(j.addr 1, a.gridExtent a.nrx ((a.run dsym).getLastD 0)), a.pilotRoom (a.run dsym) (List.range a.nl),
      (j.addr 3, a.nprb * a.es + (if ncov then ext a * a.cs else 0))]) fun a r =>
    let occ := a.run dsym
    let r := r.require (!occ.isEmpty && (!ncov || decide (a.nrx ≤ 16)))
    if !r.live then r else
    let (c, r) := r.chestIn a (j.addr 1) occ
    if !r.live then r else
    let syms := occ.take (if a.double then 2 else 1)
    let pts := (List.range a.nl).map (fun l => (List.range a.nrx).map (chestBlocks j a c syms l))
    let h := fun l ant k => interpolate ((pts.getD l []).getD ant []) (k : ℚ)
    let residual := fun sym ant k =>
      ((List.range a.nl).filter (fun l => a.inPattern (a.patOf l) k)).foldl
        (fun x l => x.sub ((h l ant k).mul (c.pilot a sym l k))) (c.sample sym ant k)
    let res := fun n => occ.flatMap (fun sym => (a.carriers.filter (fun k =>
      ((k - a.first) / 12 / a.ngrp == n) && (List.range a.nl).any (fun l => a.inPattern (a.patOf l) k))).map (fun k => (sym, k)))
    let sigma : Nat → FQ := fun n =>
      let l := res n
      (j.noiseCorrection.mul (FQ.sum (l.flatMap (fun e => (List.range a.nrx).map (fun i => (residual e.1 i e.2).norm2))))).div
        (.of (l.length * a.nrx : Nat))
    let power : Nat → FQ := fun p =>
      (FQ.sum ((List.range a.nl).flatMap (fun l => (List.range a.nrx).flatMap (fun i => (List.range 12).map (fun sc =>
        (h l i (a.first + 12 * p + sc)).norm2))))).div (.of (12 * a.nl * a.nrx : Nat))
    let r := r.each a.nprb (fun p r =>
      let vals := (List.range a.nl).flatMap (fun l => (List.range a.nrx).flatMap (fun i => (List.range 12).flatMap (fun sc =>
        r.cf32 ((l * 64 + i) * 4096 + 12 * p + sc) (h l i (a.first + 12 * p + sc)))))
      let (exp, clamped, parts) := toScaled vals
      let head := valBytes 1 (ofSigned 8 exp) ++ valBytes 1 (occ.headD 0) ++ valBytes 1 a.nrx ++ valBytes 1 a.nl
        ++ valBytes 4 (2 * clamped.toNat) ++ valBytes 4 (r.f32Power (2 ^ 24 + p / a.ngrp) (sigma (p / a.ngrp)))
        ++ valBytes 4 (r.f32Power (2 ^ 25 + p) (power p))
      let r := r.write (j.addr 3 + p * a.es) (fillTo a.es (fillTo 64 head ++ partBytes parts))
      (if clamped then r.setFlag 0 else r).done)
    let r := if ncov then
        (List.range (ext a)).foldl (fun r n =>
          let l := res n
          let vals := (List.range a.nrx).flatMap (fun i => (List.range a.nrx).flatMap (fun k =>
            r.cf32 (2 ^ 26 + (n * 16 + i) * 16 + k) (((CQ.sum (l.map (fun e =>
              (residual e.1 i e.2).mul (residual e.1 k e.2).conj))).scale j.noiseCorrection).div (.of l.length))))
          r.write (j.addr 3 + a.nprb * a.es + n * a.cs)
            (fillTo a.cs (fillTo 64 (valBytes 2 0 ++ valBytes 1 a.nrx) ++ vals.flatMap (valBytes 4)))) r
      else r
    let mean : (Nat → FQ) → FQ := fun f => (FQ.sum ((List.range a.nprb).map f)).div (.of a.nprb)
    { r with metric := r.f32Power (2 ^ 27) (mean (fun p => sigma (p / a.ngrp)))
        + 2 ^ 32 * r.f32Power (2 ^ 27 + 1) (mean power) }

/-- CHEST. -/
def execChest (unit : Nat) (s : State) : Host.Outcome State Fault Refusal := .next (s.accRun unit 0x40 chest packedInfo)

/-! ## EQ_WEIGHTS (R266) -/

/-- The ARGS check of EQ_WEIGHTS. -/
def eqWeightsOk (s : State) (j : Job) : Bool :=
  matrixAddrsOk s j && decide (j.fld 0 63 62 ≤ 2) && j.fld 0 61 48 == 0 && j.fld 1 63 48 == 0 && j.fld 2 63 48 == 0
    && (j.fld 0 63 62 == 2 || j.addr 2 == 0) && j.fld 3 63 48 == 0

/-- PREC and GAIN of rows from their g (R266): PREC is 65,535 where g is 1 or more, and saturates (R258). -/
def AccRun.rows (r : AccRun) (base : Nat) (g : List FQ) : List Nat × List Nat :=
  (g.zipIdx.map (fun e =>
      if 1 ≤ f32Val (r.f32 (base + e.2) e.1) then 65535
      else r.u16 (base + 32 + e.2) 16 true (r.f32 (base + 64 + e.2) (e.1.div ((FQ.of 1).sub e.1)))),
   g.zipIdx.map (fun e => r.u16 (base + 96 + e.2) 65536 false (r.f32 (base + e.2) e.1)))

/-- The F32 values of a matrix, row by row. -/
def AccRun.matVals (r : AccRun) (base rows cols : Nat) (m : CMat) : List Nat :=
  (List.range rows).flatMap (fun o => (List.range cols).flatMap (fun i => r.cf32 (base + o * 64 + i) (m.at o i)))

/-- The noise covariance of a noise group, loaded (R266). -/
def AccRun.covariance (r : AccRun) (a : Alloc) (est n : Nat) : CMat × AccRun :=
  let (l, r) := r.read (est + a.nprb * a.es + n * a.cs) a.cs
  let m := matOf a.nrx a.nrx (fun i k => cf32At l (64 + 8 * (i * a.nrx + k)))
  let tr := FQ.sum ((List.range a.nrx).map (fun i => (m.at i i).re))
  (m.addI a.nrx (FQ.max ((tr.div (.of a.nrx)).mul (.of (twoPow (-20)))) (.of (twoPow (-60)))),
   if r.live then r.require (fieldAt l 2 1 == a.nrx) else r)

/-- EQ_WEIGHTS for one group. -/
def eqWeightsGroup (j : Job) (a : Alloc) (g : Nat) (r : AccRun) : AccRun :=
  let mode := j.fld 0 63 62
  let (h, p, r) := r.groupH a (j.addr 1) g
  if !r.live then r else
  let hh := h.herm a.nrx a.nl
  if mode = 2 then
    let (x, r) := r.weights (j.addr 2) g a.nl a.nl
    if !r.live then r else
    let w := (x.mat.mul a.nl a.nl a.nrx hh).div p.sigma
    r.putWeights (j.addr 3) g a.nl a.nrx p.anchor false x.prec x.gain (r.matVals 0 a.nl a.nrx w)
  else
    let (hr, r) : CMat × AccRun :=
      if mode = 1 then
        let (c, r) := r.covariance a (j.addr 1) (g * a.scg / 12 / a.ngrp)
        (hh.mul a.nl a.nrx a.nrx (c.inv a.nrx), r)
      else (hh.div p.sigma, r)
    if !r.live then r else
    let gamma := hr.mul a.nl a.nrx a.nl h
    let inv := (gamma.addI a.nl (.of 1)).inv a.nl
    let w := inv.mul a.nl a.nl a.nrx hr
    let gs := (List.range a.nl).map (fun i => ((inv.mul a.nl a.nl a.nl gamma).at i i).re)
    let w := matOf a.nl a.nrx (fun o i => (w.at o i).div (gs.getD o .zero))
    let pg := r.rows 8192 gs
    r.putWeights (j.addr 3) g a.nl a.nrx p.anchor true pg.1 pg.2 (r.matVals 0 a.nl a.nrx w)

/-- EQ_WEIGHTS. -/
def execEqWeights (unit : Nat) (s : State) : Host.Outcome State Fault Refusal :=
  .next (s.accRun unit 0x41 (fun j r =>
    let mode := j.fld 0 63 62
    r.withAlloc j (fun a => [(j.addr 1, a.nprb * a.es + (if mode = 1 then ceilDiv a.nprb a.ngrp * a.cs else 0)),
        (j.addr 2, if mode = 2 then a.groups * weightStride a.nl a.nl else 0),
        (j.addr 3, a.groups * weightStride a.nl a.nrx)]) fun a r =>
      (r.require (mode != 1 || decide (a.nrx ≤ 16))).each a.groups (eqWeightsGroup j a)) noInfo)

/-! ## BF_WEIGHTS (R277) -/

/-- The ARGS check of BF_WEIGHTS: ALPHA is 0 or more. -/
def bfWeightsOk (s : State) (j : Job) : Bool :=
  matrixAddrsOk s j && decide (j.fld 0 63 62 ≤ 1) && j.fld 0 61 48 == 0 && j.fld 1 63 48 == 0 && j.fld 2 31 0 == 0
    && (j.fld 2 63 63 == 0 || j.fld 2 62 32 == 0) && decide (j.fld 2 62 32 ≤ 0x7F800000) && j.fld 3 63 48 == 0

/-- A number divided by a norm whose square is `n`: zero where the number is, and free otherwise, but for the flush. -/
def AccRun.f32Unit (r : AccRun) (place : Nat) (x n : FQ) : Nat :=
  if x.exact ∧ x.val = 0 ∧ n.val ≠ 0 then 0 else f32Flush (Config.f32Unit r.seen place x.val n.val).toNat

/-- BF_WEIGHTS for one group. -/
def bfWeightsGroup (j : Job) (a : Alloc) (g : Nat) (r : AccRun) : AccRun :=
  let (h, p, r) := r.groupH a (j.addr 1) g
  if !r.live then r else
  let hc := matOf a.nrx a.nl (fun i l => (h.at i l).conj)
  let ht := matOf a.nl a.nrx (fun l i => h.at i l)
  let m := hc.mul a.nrx a.nl a.nl (((ht.mul a.nl a.nrx a.nl hc).addI a.nl (.of (f32Val (j.fld 2 63 32)))).inv a.nl)
  let col := fun l => FQ.sum ((List.range a.nrx).map (fun i => (m.at i l).norm2))
  let all := FQ.sum ((List.range a.nl).map col)
  let vals := (List.range a.nrx).flatMap (fun i => (List.range a.nl).flatMap (fun l =>
    let n := if j.fld 0 63 62 = 0 then col l else all
    [r.f32Unit (2 * (i * 16 + l)) (m.at i l).re n, r.f32Unit (2 * (i * 16 + l) + 1) (m.at i l).im n]))
  r.putWeights (j.addr 3) g a.nrx a.nl p.anchor false [] [] vals

/-- BF_WEIGHTS. -/
def execBfWeights (unit : Nat) (s : State) : Host.Outcome State Fault Refusal :=
  .next (s.accRun unit 0x42 (fun j r =>
    r.withAlloc j (fun a => [(j.addr 1, a.nprb * a.es), (j.addr 3, a.groups * weightStride a.nrx a.nl)]) fun a r =>
      r.each a.groups (bfWeightsGroup j a)) noInfo)

/-! ## WEIGHT_APPLY (R278) -/

/-- The ARGS check of WEIGHT_APPLY. -/
def weightApplyOk (s : State) (j : Job) : Bool :=
  matrixAddrsOk s j && j.fld 0 49 48 == 0 && j.fld 1 63 48 == 0 && j.fld 2 59 48 == 0 && j.fld 3 63 48 == 0

/-- Read the weight records of every group, all of one size. -/
def AccRun.weightSet (r : AccRun) (base groups nout nin : Nat) : List Weights × AccRun :=
  (List.range groups).foldl (fun (q : List Weights × AccRun) g =>
    let x := q.2.weights base g nout nin
    (q.1 ++ [x.1], x.2)) ([], r)

/-- A weight record that was not read. -/
def Weights.none : Weights := ⟨0, 0, 0, 0, [], [], []⟩

/-- One symbol of WEIGHT_APPLY. -/
def weightApplySymbol (j : Job) (a : Alloc) (nout : Nat) (ws : List Weights) (sym : Nat) (r : AccRun) : AccRun :=
  let q := (List.range a.nrx).foldl (fun (q : Tab (Tab (List Byte)) × AccRun) i =>
    let x := q.2.lines (a.row (j.addr 1) i sym) a.carriers
    (Tab.set q.1 i x.1, x.2)) (([] : Tab (Tab (List Byte))), r)
  if !q.2.live then q.2 else
  ((List.range nout).foldl (fun (r : AccRun) o =>
    let vals := a.carriers.map (fun k =>
      let w := ws.getD (a.groupOf k) Weights.none
      satPair (15 - w.exp + j.fld 2 63 60)
        (csum ((List.range a.nrx).map (fun i => cmul (w.at o i) (linePair (Tab.get [] q.1 i) k)))))
    let r := r.write (a.row (j.addr 3) o sym + 4 * a.first) (vals.flatMap (fun v => pairBytes v.1))
    if vals.any (fun v => v.2) then r.setFlag o else r) q.2).done

/-- WEIGHT_APPLY. -/
def execWeightApply (unit : Nat) (s : State) : Host.Outcome State Fault Refusal :=
  .next (s.accRun unit 0x43 (fun j r =>
    let syms := bitsSet 14 (j.fld 0 63 50)
    r.withAlloc j (fun _ => []) fun a r =>
      let (l, r) := r.read (j.addr 2) 64
      let nout := fieldAt l 2 1
      let last := syms.getLastD 0
      let r := if r.live then r.require (decide (1 ≤ nout) && decide (nout ≤ 64)
        && r.buffersOk [(j.addr 0, 64), (j.addr 1, a.gridExtent a.nrx last), (j.addr 2, a.groups * weightStride nout a.nrx),
          (j.addr 3, a.gridExtent nout last)]) else r
      if !r.live then r else
      let (ws, r) := r.weightSet (j.addr 2) a.groups nout a.nrx
      syms.foldl (fun r sym => if r.live then weightApplySymbol j a nout ws sym r else r) r) noInfo)

/-! ## Joint processing (R279) -/

/-- The ARGS check of JM_STATS. -/
def jmStatsOk (s : State) (j : Job) : Bool :=
  matrixAddrsOk s j && j.fld 0 63 48 == 0 && j.fld 1 63 48 == 0 && j.arg 2 == 0 && j.fld 3 63 48 == 0

/-- JM_STATS. -/
def execJmStats (unit : Nat) (s : State) : Host.Outcome State Fault Refusal :=
  .next (s.accRun unit 0x48 (fun j r =>
    r.withAlloc j (fun a => [(j.addr 1, a.nprb * a.es), (j.addr 3, a.groups * a.ss)]) fun a r =>
      r.each a.groups (fun g r =>
        let (h, p, r) := r.groupH a (j.addr 1) g
        if !r.live then r else
        let m := ((h.herm a.nrx a.nl).mul a.nl a.nrx a.nl h).div p.sigma
        (r.write (j.addr 3 + g * a.ss) (fillTo a.ss (fillTo 64 (valBytes 1 0 ++ valBytes 1 p.anchor ++ valBytes 1 0
          ++ valBytes 1 a.nl) ++ (r.matVals 0 a.nl a.nl m).flatMap (valBytes 4)))).done)) noInfo)

/-- The ARGS check of JM_SOLVE: a source table of 64 bytes holds at most eight addresses. -/
def jmSolveOk (s : State) (j : Job) : Bool :=
  matrixAddrsOk s j && decide (j.fld 0 63 60 ≤ 7) && j.fld 0 59 48 == 0 && j.fld 1 63 48 == 0 && j.arg 2 == 0
    && j.fld 3 63 48 == 0 && s.buffersOk j.part [(j.addr 0, 64), (j.addr 1, 64)]

/-- The addresses of a source table (R263). -/
def sourcesOf (l : List Byte) (n : Nat) : List Nat := (List.range n).map (fun i => fieldAt l (8 * i) 6)

/-- Read the statistics of a group from a source: ANCHOR and the matrix. -/
def AccRun.stats (r : AccRun) (a : Alloc) (base g : Nat) : Nat × CMat × AccRun :=
  let (l, r) := r.read (base + g * a.ss) a.ss
  (fieldAt l 1 1, matOf a.nl a.nl (fun i k => cf32At l (64 + 8 * (i * a.nl + k))),
   if r.live then r.require (fieldAt l 3 1 == a.nl && decide (fieldAt l 1 1 ≤ 13)) else r)

/-- JM_SOLVE. -/
def execJmSolve (unit : Nat) (s : State) : Host.Outcome State Fault Refusal :=
  .next (s.accRun unit 0x49 (fun j r =>
    r.withAlloc j (fun _ => []) fun a r =>
      let (l, r) := r.read (j.addr 1) 64
      let src := sourcesOf l (j.fld 0 63 60 + 1)
      let r := if r.live then r.require (r.buffersOk ([(j.addr 0, 64), (j.addr 1, 64),
        (j.addr 3, a.groups * weightStride a.nl a.nl)] ++ src.map (fun x => (x, a.groups * a.ss)))) else r
      r.each a.groups (fun g r =>
        let q := src.foldl (fun (q : List (Nat × CMat) × AccRun) x =>
          let (anchor, m, r) := q.2.stats a x g
          (q.1 ++ [(anchor, m)], r)) (([] : List (Nat × CMat)), r)
        let r := q.2
        if !r.live then r else
        let gamma := matOf a.nl a.nl (fun i k => CQ.sum (q.1.map (fun e => e.2.at i k)))
        let inv := (gamma.addI a.nl (.of 1)).inv a.nl
        let gs := (List.range a.nl).map (fun i => ((inv.mul a.nl a.nl a.nl gamma).at i i).re)
        let pg := r.rows 8192 gs
        r.putWeights (j.addr 3) g a.nl a.nl (q.1.headD (0, [])).1 false pg.1 pg.2 (r.matVals 0 a.nl a.nl inv))) noInfo)

end Sys2Proof.Machine
end

