-- ==== Sys2Proof/Machine/EqJobs.lean ====
section
/-!
DEFINITION. Equalization with tracking (R268 to R271), soft demapping (R273 to R275) and modulation mapping (R276): the checks
of their ARGS and their meanings.
-/

namespace Sys2Proof.Machine

open Reg Ob

/-! ## EQ_APPLY -/

def Job.eqSrc (j : Job) : Nat := j.fld 0 63 62
def Job.eqSym (j : Job) : Nat := j.fld 0 61 58
def Job.eqPrev (j : Job) : Nat := j.fld 0 57 54
def Job.eqTi (j : Job) : Bool := j.fld 0 53 53 == 1
def Job.eqTrk (j : Job) : Bool := j.fld 0 52 52 == 1

/-- The ARGS check of EQ_APPLY, with the combinations that R263 excludes. -/
def eqApplyOk (s : State) (j : Job) : Bool :=
  matrixAddrsOk s j && decide (j.eqSrc ≤ 2) && decide (j.eqSym ≤ 13) && j.eqPrev != 14 && j.eqPrev != j.eqSym
    && !(j.eqTi && j.eqSrc != 0) && !(j.eqTrk && j.eqSrc == 1) && j.fld 0 48 48 == 0 && j.fld 1 53 48 == 0
    && (j.eqSrc != 2 || decide (j.fld 1 57 54 ≤ 7)) && j.fld 2 63 48 == 0 && j.fld 3 63 48 == 0

/-- A weight of group g in use (R268): set 0, or with TI its interpolation with set 1 by symbol index, at the EXP of the
larger set. -/
def eqWeight (sym : Nat) (w0 : Weights) (w1 : Option Weights) (o i : Nat) : Int × Int :=
  match w1 with
  | none => w0.at o i
  | some w1 =>
    let m := min w0.exp w1.exp
    let e := max w0.exp w1.exp
    let den : Int := ((w1.anchor : Int) - w0.anchor) * 2 ^ (e - m).toNat
    let mix := fun (x y : Int) =>
      (sat16 (roundUp (x * 2 ^ (w0.exp - m).toNat * ((w1.anchor : Int) - sym)
        + y * 2 ^ (w1.exp - m).toNat * ((sym : Int) - w0.anchor)) den)).1
    (mix (w0.at o i).1 (w1.at o i).1, mix (w0.at o i).2 (w1.at o i).2)

/-- The EXP of the weights in use. -/
def eqExp (w0 : Weights) (w1 : Option Weights) : Int := match w1 with | none => w0.exp | some w1 => max w0.exp w1.exp

/-- The set whose PREC holds: the one whose ANCHOR lies nearer to the symbol, set 0 on a tie. -/
def eqPrecSet (sym : Nat) (w0 : Weights) (w1 : Option Weights) : Weights :=
  match w1 with
  | none => w0
  | some w1 => if ((w1.anchor : Int) - sym).natAbs < ((w0.anchor : Int) - sym).natAbs then w1 else w0

/-- The value of a layer before tracking from grid inputs (SRC 0 and 1). -/
def eqFromGrid (sym nrx : Nat) (w0 : Weights) (w1 : Option Weights) (l : Nat) (y : Nat → Int × Int) : (Int × Int) × Bool :=
  satPair (18 - eqExp w0 w1) (csum ((List.range nrx).map (fun i => cmul (eqWeight sym w0 w1 l i) (y i))))

/-- The value of a layer before tracking from partial elements (SRC 2): divided by GAIN, 0 where that is 0. -/
def eqFromPartials (gain : Nat) (sum : Int × Int) : (Int × Int) × Bool :=
  if gain = 0 then ((0, 0), false) else
  let a := sat16 (roundUp (2 ^ 16 * sum.1) gain)
  let b := sat16 (roundUp (2 ^ 16 * sum.2) gain)
  ((a.1, b.1), a.2 || b.2)

/-- Rotation by −φ with the rounding of VCMULQ (R269). -/
def rotateBy (phi : Int) (x : Int × Int) : (Int × Int) × Bool := satPair 15 (cmul x (cconj (rotor (ofSigned 32 phi))))

/-- The state of the tracking loop, and what it measured. -/
structure Track where
  theta : Int
  omega : Int
  beta : Int
  pilots : Bool
  ephi : Int
  ebeta : Int
  z : Int × Int
  used : Nat

/-- The loop of R269 on a symbol: `pilots` gives subcarrier, equalized value before rotation, and pilot. -/
def trackStep (gp gi gb kc : Nat) (theta omega beta : Int) (pilots : List (Nat × (Int × Int) × (Int × Int))) : Track :=
  let terms := pilots.map (fun p =>
    (p.1, cmul (rotateBy (theta + beta * ((p.1 : Int) - kc)) p.2.1).1 (cconj p.2.2)))
  let lo := terms.filter (fun t => decide (t.1 < kc))
  let hi := terms.filter (fun t => decide (kc ≤ t.1))
  let sum := fun (l : List (Nat × (Int × Int))) => csum (l.map (fun t => t.2))
  let mean := fun (l : List (Nat × (Int × Int))) => (l.map (fun t => t.1)).sum / l.length
  let z := sum terms
  if z = (0, 0) then ⟨theta, omega, beta, false, 0, 0, z, pilots.length⟩
  else
    let ephi := argOf z
    let ebeta := if lo.isEmpty || hi.isEmpty then 0
      else Int.tdiv (argOf (cmul (sum hi) (cconj (sum lo)))) ((mean hi : Int) - mean lo)
    ⟨if gp < 7 then theta + roundAt gp ephi else theta, if gi < 7 then omega + roundAt (gi + 3) ephi else omega,
     if gb < 7 then beta + roundAt gb ebeta else beta, true, ephi, ebeta, z, pilots.length⟩

/-- |z| in binary32 (R270): as it is where binary32 holds it, else one of the two numbers beside it. -/
def absF32 (z : Int × Int) : Nat :=
  let n := (z.1 ^ 2 + z.2 ^ 2).toNat
  let e : Int := (n.log2 / 2 : Nat) - 23
  let m := if 0 ≤ e then Nat.sqrt (n / 4 ^ e.toNat) else Nat.sqrt (n * 4 ^ (-e).toNat)
  let whole := if 0 ≤ e then m ^ 2 * 4 ^ e.toNat == n else m ^ 2 == n * 4 ^ (-e).toNat
  f32Of false m e + (if whole then 0 else if Config.absUp z.1 z.2 then 1 else 0)

/-- The tracking record (R270). -/
def trackBytes (sym : Nat) (t : Track) : List Byte :=
  let w := fun (v : Int) => valBytes 4 (ofSigned 32 v)
  fillTo 64 (w t.theta ++ w t.omega ++ w t.beta ++ valBytes 1 sym ++ valBytes 1 t.pilots.toNat ++ valBytes 2 0 ++ w t.ephi
    ++ w t.ebeta ++ valBytes 4 (absF32 t.z))

/-- EQ_APPLY with what it has read: the weights by group, the value of a layer at a data RE before tracking, and the
tracking pilots. -/
def eqFinish (j : Job) (a : Alloc) (res : List Nat) (w0 : List Weights) (w1 : Option (List Weights))
    (value : Nat → Nat × Nat → (Int × Int) × Bool) (track : Option Track) (r : AccRun) : AccRun :=
  let kc := a.first + 6 * a.nprb
  let cells := res.zipIdx.flatMap (fun e => (List.range a.nl).map (fun l =>
    let x := value l (e.2, e.1)
    let y := match track with
      | none => x
      | some t => let q := rotateBy (t.theta + t.beta * ((e.1 : Int) - kc)) x.1; (q.1, x.2 || q.2)
    let g := a.groupOf e.1
    let p := eqPrecSet j.eqSym (w0.getD g Weights.none) (w1.map (fun w => w.getD g Weights.none))
    let prec := if j.eqSrc = 2 ∧ p.gain.getD l 0 = 0 then 0 else p.prec.getD l 0
    (l, y, prec)))
  let bytes := cells.flatMap (fun c => if j.eqSrc = 1 then pairBytes c.2.1.1
    else pairBytes c.2.1.1 ++ valBytes 2 c.2.2 ++ valBytes 2 0)
  let r := r.write (j.addr 3) (fillTo (64 * ceilDiv bytes.length 64) bytes)
  let r := (List.range a.nl).foldl (fun r l => if cells.any (fun c => c.1 == l && c.2.1.2) then r.setFlag l else r) r
  let r := if r.live then { r with blocks := res.length } else r
  match track with
  | none => r
  | some t => { r.write (a.trackBase + 64 * j.eqSym) (trackBytes j.eqSym t) with
      metric := ofSigned 32 t.ephi + 2 ^ 32 * ofSigned 32 t.ebeta + 2 ^ 64 * t.used }

/-- The tracking step of a job: reads the record PREV and the pilots (R269). `value` gives the equalized value of a layer
at a pilot RE. The pilot rows are checked where they are read, beside the job's other buffers (R257). -/
def eqTrack (j : Job) (a : Alloc) (others : List (Nat × Nat)) (anchor : Bool) (pilots : List (Nat × Nat)) (value : Nat → Nat → Int × Int)
    (r : AccRun) : Option Track × AccRun :=
  if !j.eqTrk then (none, r) else
  let (l, r) := r.read (a.trackBase + 64 * j.eqPrev) 64
  if !r.live then (none, r) else
  let sym := fieldAt l 12 1
  let r := r.require (decide (sym ≤ 13) && (j.eqPrev == 15 || sym == j.eqPrev))
  if !r.live then (none, r) else
  let at_ := fun off => toSigned 32 (fieldAt l off 4)
  if anchor then (some ⟨0, at_ 4, 0, false, 0, 0, (0, 0), 0⟩, r) else
  let delta : Int := (j.eqSym : Int) - sym
  let r := if pilots.isEmpty then r
    else r.require (r.buffersOk (a.pilotRoom [j.eqSym] (a.pilotLayers j.eqSym) :: others))
  if !r.live then (none, r) else
  let q := (List.range a.nl).foldl (fun (q : Tab (Tab (List Byte)) × AccRun) lay =>
    let ks := (pilots.filter (fun p => p.1 == lay)).map (fun p => p.2 - a.first)
    if ks.isEmpty then q else
    let x := q.2.lines (a.pilotRow j.eqSym lay) ks
    (Tab.set q.1 lay x.1, x.2)) (([] : Tab (Tab (List Byte))), r)
  (some (trackStep (j.fld 0 51 49) (j.fld 1 63 61) (j.fld 1 60 58) (a.first + 6 * a.nprb) (at_ 0 + at_ 4 * delta) (at_ 4)
    (at_ 8) (pilots.map (fun p => (p.2, value p.1 p.2, linePair (Tab.get [] q.1 p.1) (p.2 - a.first))))), q.2)

/-- The buffers of EQ_APPLY from a grid that its allocation record settles, the record's own apart. -/
def eqGridBuffers (j : Job) (a : Alloc) : List (Nat × Nat) :=
  [(j.addr 1, a.gridExtent a.nrx j.eqSym),
   (j.addr 2, (1 + j.eqTi.toNat) * a.groups * weightStride a.nl a.nrx),
   (j.addr 3, 64 * ceilDiv ((if j.eqSrc = 1 then 4 else 8) * (a.dataRes j.eqSym).length * a.nl) 64),
   (a.trackBase, if j.eqTrk then 1024 else 0)]

/-- EQ_APPLY from a grid (SRC 0 and 1). -/
def eqGrid (j : Job) (a : Alloc) (r : AccRun) : AccRun :=
  let sym := j.eqSym
  let res := a.dataRes sym
  let ws := weightStride a.nl a.nrx
  let (w0, r) := r.weightSet (j.addr 2) a.groups a.nl a.nrx
  let (w1, r) := if j.eqTi then
      let x := r.weightSet (j.addr 2 + a.groups * ws) a.groups a.nl a.nrx
      (some x.1, x.2)
    else (none, r)
  if !r.live then r else
  let r := r.require (match w1 with
    | none => true
    | some w1 => (List.zip w0 w1).all (fun e => e.1.anchor != e.2.anchor))
  let anchor := (w0 ++ w1.getD []).any (fun w => (a.run w.anchor).contains sym)
  let ptrs := a.ptrs sym
  let pilots := if !j.eqTrk || anchor then [] else
    (if a.isDmrs sym then (List.range a.nl).flatMap (fun l => (a.pilots l).map (fun k => (l, k))) else [])
      ++ ptrs.map (fun k => (a.ptrsLayer, k))
  let r := r.require (pilots.all (fun p => decide (p.1 < a.nl)))
  if !r.live then r else
  let ks := (res ++ pilots.map (fun p => p.2)).dedup
  let q := (List.range a.nrx).foldl (fun (q : Tab (Tab (List Byte)) × AccRun) i =>
    let x := q.2.lines (a.row (j.addr 1) i sym) ks
    (Tab.set q.1 i x.1, x.2)) (([] : Tab (Tab (List Byte))), r)
  if !q.2.live then q.2 else
  let value := fun l k =>
    let g := a.groupOf k
    eqFromGrid sym a.nrx (w0.getD g Weights.none) (w1.map (fun w => w.getD g Weights.none)) l
      (fun i => linePair (Tab.get [] q.1 i) k)
  let (t, r) := eqTrack j a ((j.addr 0, 64) :: eqGridBuffers j a) anchor pilots (fun l k => (value l k).1) q.2
  if !r.live then r else
  eqFinish j a res w0 w1 (fun l e => value l e.2) t r

/-- EQ_APPLY from partial elements (SRC 2). Elements stand for data REs only (R271), so the loop uses the pilot REs of a DMRS
symbol that are data REs too, those of layers beyond the CDM groups without data. -/
def eqPartials (j : Job) (a : Alloc) (r : AccRun) : AccRun :=
  let res := a.dataRes j.eqSym
  let (l, r) := r.read (j.addr 1) 64
  let src := sourcesOf l (j.fld 1 57 54 + 1)
  let n := 64 * ceilDiv (4 * res.length * a.nl) 64
  let buffers := [(j.addr 0, 64), (j.addr 1, 64), (j.addr 2, a.groups * weightStride a.nl a.nl),
    (j.addr 3, 64 * ceilDiv (8 * res.length * a.nl) 64), (a.trackBase, if j.eqTrk then 1024 else 0)] ++ src.map (fun x => (x, n))
  let r := if r.live then r.require (r.buffersOk buffers) else r
  let (w0, r) := r.weightSet (j.addr 2) a.groups a.nl a.nl
  let q := src.foldl (fun (q : List (List Byte) × AccRun) x =>
    let y := q.2.read x (4 * res.length * a.nl)
    (q.1 ++ [y.1], y.2)) (([] : List (List Byte)), r)
  let r := q.2
  if !r.live then r else
  let value := fun lay (e : Nat × Nat) => eqFromPartials ((w0.getD (a.groupOf e.2) Weights.none).gain.getD lay 0)
    (csum (q.1.map (fun p => pairAt p (4 * (e.1 * a.nl + lay)))))
  let anchor := w0.any (fun w => (a.run w.anchor).contains j.eqSym)
  let pilots := if !j.eqTrk || anchor || !a.isDmrs j.eqSym then [] else
    (List.range a.nl).flatMap (fun l => ((a.pilots l).filter res.contains).map (fun k => (l, k)))
  let (t, r) := eqTrack j a buffers anchor pilots (fun l k => (value l (res.idxOf k, k)).1) r
  if !r.live then r else
  eqFinish j a res w0 none value t r

/-- EQ_APPLY. -/
def execEqApply (unit : Nat) (s : State) : Host.Outcome State Fault Refusal :=
  .next (s.accRun unit 0x44 (fun j r =>
    if j.eqSrc = 2 then r.withAlloc j (fun _ => []) (eqPartials j)
    else r.withAlloc j (eqGridBuffers j) (eqGrid j)) packedInfo)

/-! ## Constellations (R274) -/

/-- The signed odd level that the bits of one dimension label, TS 38.211. -/
def levelOf : List Bool → Int
  | [] => 0
  | b :: r => (if b then -1 else 1) * (2 ^ r.length - levelOf r)

/-- N of R274. -/
def qamNorm (qm : Nat) : Nat := match qm with | 2 => 2 | 4 => 10 | 6 => 42 | 8 => 170 | _ => 682

/-- c_m = round(4096 × (2m + 1) / √N). -/
def levelSize (qm m : Nat) : Int := (Nat.sqrt (4 * (4096 * (2 * m + 1)) ^ 2 / qamNorm qm) + 1) / 2

/-- The quantized level of the bits of a dimension. -/
def quantLevel (qm : Nat) (bits : List Bool) : Int :=
  let v := levelOf bits
  (if v < 0 then -1 else 1) * levelSize qm ((v.natAbs - 1) / 2)

/-- Every list of n bits. -/
def allBits : Nat → List (List Bool)
  | 0 => [[]]
  | n + 1 => (allBits n).flatMap (fun l => [false :: l, true :: l])

/-- The least of integers. -/
def leastInt : List Int → Int
  | [] => 0
  | x :: r => r.foldl min x

/-- D of bit b of a symbol (R274). -/
def demapD (qm b : Nat) (x : Int × Int) : Int :=
  if qm = 1 then
    let d := fun (p : Int) => (x.1 - p) ^ 2 + (x.2 - p) ^ 2
    d (-2896) - d 2896
  else
    let v := if b % 2 = 0 then x.1 else x.2
    let of_ := fun bit => leastInt (((allBits (qm / 2)).filter (fun l => l.getD (b / 2) false == bit)).map
      (fun l => (v - quantLevel qm l) ^ 2))
    of_ true - of_ false

/-- The point of a symbol's bits in SYMBOL units. -/
def mapPoint (qm : Nat) (bits : List Bool) : Int × Int :=
  if qm = 1 then (let p : Int := if bits.getD 0 false then -2896 else 2896; (p, p))
  else
    let dim := fun i => (List.range (qm / 2)).map (fun n => bits.getD (2 * n + i) false)
    (quantLevel qm (dim 0), quantLevel qm (dim 1))

/-- QM and PI2 are in range. -/
def qmOk (qm : Nat) (pi2 : Bool) : Bool := [1, 2, 4, 6, 8, 10].contains qm && (!pi2 || qm == 1)

/-! ## SOFT_DEMAP (R273 to R275) -/

/-- The LLRs of a job. -/
def Job.demapCount (j : Job) : Nat := j.fld 2 32 17 * j.fld 0 50 48 * j.fld 0 63 60

/-- The ARGS check of SOFT_DEMAP. -/
def softDemapOk (s : State) (j : Job) : Bool :=
  let nl := j.fld 0 59 55
  let cnt := j.fld 0 50 48
  outOk j && qmOk (j.fld 0 63 60) (j.fld 1 51 51 == 1) && decide (1 ≤ nl) && decide (nl ≤ 16) && decide (1 ≤ cnt)
    && decide (cnt ≤ 4) && decide (j.fld 0 54 51 + cnt ≤ nl) && j.fld 1 50 48 == 0 && j.fld 2 16 0 == 0
    && decide (1 ≤ j.fld 2 32 17) && j.fld 3 42 0 == 0
    && s.buffersOk j.part [(j.addr 0, 64 * ceilDiv (8 * j.fld 2 32 17 * nl) 64),
      (j.addr 1, 64 * ceilDiv (j.fld 1 63 58 + j.demapCount) 64)]

/-- One LLR before descrambling, and whether it was clamped. -/
def softBit (qm b f prec : Nat) (x : Int × Int) : Int × Bool :=
  let v := roundAt (28 - toSigned 4 f) (prec * demapD qm b x)
  (clampTo 127 v, clampTo 127 v != v)

/-- SOFT_DEMAP. -/
def softDemap (j : Job) (r : AccRun) : AccRun :=
  let qm := j.fld 0 63 60
  let nl := j.fld 0 59 55
  let nre := j.fld 2 32 17
  let off := j.fld 1 63 58
  let (l, r) := r.read (j.addr 0) (8 * nre * nl)
  if !r.live then r else
  let vals := (List.range nre).flatMap (fun i => (List.range (j.fld 0 50 48)).flatMap (fun c =>
    let at_ := 8 * (i * nl + j.fld 0 54 51 + c)
    let x := pairAt l at_
    let x := if j.fld 1 51 51 = 1 ∧ i % 2 = 1 then (x.2, -x.1) else x
    let prec := if j.fld 1 52 52 = 1 then fieldAt l (at_ + 4) 2 else 16
    (List.range qm).map (fun b => softBit qm b (j.fld 1 57 54) prec x)))
  let seq := if j.fld 1 53 53 = 1 then goldBits (j.fld 2 63 33) (j.fld 3 63 43) vals.length else []
  let llrs := (vals.zipIdx).map (fun e => if seq.getD e.2 false then -e.1.1 else e.1.1)
  let r := r.write (j.addr 1 + off) (llrsOut (64 * ceilDiv (off + vals.length) 64 - off) llrs)
  { r with blocks := if r.live then nre else 0, metric := (vals.filter (fun v => v.2)).length }

/-- SOFT_DEMAP. -/
def execSoftDemap (unit : Nat) (s : State) : Host.Outcome State Fault Refusal := .next (s.accRun unit 0x70 softDemap metricInfo)

/-! ## MOD_MAP (R276) -/

/-- The ARGS check of MOD_MAP. -/
def modMapOk (s : State) (j : Job) : Bool :=
  outOk j && qmOk (j.fld 0 63 60) (j.fld 0 59 59 == 1) && decide (j.fld 0 58 55 ≤ 13) && j.fld 0 54 48 == 0
    && j.fld 1 63 48 == 0 && j.fld 3 42 0 == 0 && j.addr 1 % 64 == 0 && j.addr 2 % 64 == 0 && s.buffersOk j.part [(j.addr 0, 64)]

/-- A value scaled by AMP as a SAMPLE. -/
def ampSample (amp : Nat) (x : Int × Int) : (Int × Int) × Bool :=
  let m := toSigned 16 amp
  satPair 12 (x.1 * m, x.2 * m)

/-- The REs that MOD_MAP writes in a layer row: pilots of the layer itself, zeros at those of other layers, data; by
ascending subcarrier. -/
def modMapRow (j : Job) (a : Alloc) (sym l : Nat) (res : List Nat) (bits : List Bool) (pilot : Nat → Int × Int) :
    List (Nat × (Int × Int) × Bool) :=
  let qm := j.fld 0 63 60
  let amp := j.fld 2 63 48
  a.carriers.filterMap (fun k =>
    let own := (a.isDmrs sym && a.inPattern (a.patOf l) k) || (a.isPtrs sym k && l == a.ptrsLayer)
    let other := (a.isDmrs sym && (List.range a.nl).any (fun m => a.inPattern (a.patOf m) k)) || a.isPtrs sym k
    if own then some (k, ampSample amp (pilot k))
    else if other then some (k, (0, 0), false)
    else if res.contains k then
      let n := res.findIdx (fun x => x == k)
      let p := mapPoint qm ((bits.drop ((n * a.nl + l) * qm)).take qm)
      some (k, ampSample amp (if j.fld 0 59 59 = 1 ∧ n % 2 = 1 then (-p.2, p.1) else p))
    else none)

/-- MOD_MAP. -/
def modMap (j : Job) (r : AccRun) : AccRun :=
  let sym := j.fld 0 58 55
  let qm := j.fld 0 63 60
  let bidx := j.fld 3 63 43
  r.withAlloc j (fun a => [(j.addr 1, 64 * ceilDiv (bidx + (a.dataRes sym).length * a.nl * qm) 512),
      (j.addr 2, a.gridExtent a.nl sym), a.pilotRoom [sym] (a.pilotLayers sym)]) fun a r =>
    let res := a.dataRes sym
    let n := res.length * a.nl * qm
    let (l, r) := r.read (j.addr 1 + bidx / 8) (if n = 0 then 0 else (bidx % 8 + n + 7) / 8)
    if !r.live then r else
    let bits := (List.range n).map (fun i => (l.getD ((bidx % 8 + i) / 8) 0).getLsbD ((bidx + i) % 8))
    let r := (List.range a.nl).foldl (fun r lay =>
      let ks := a.carriers.filter (fun k => (a.isDmrs sym && a.inPattern (a.patOf lay) k)
        || (a.isPtrs sym k && lay == a.ptrsLayer))
      let q := r.lines (a.pilotRow sym lay) (ks.map (fun k => k - a.first))
      if !q.2.live then q.2 else
      let row := modMapRow j a sym lay res bits (fun k => linePair q.1 (k - a.first))
      let r := row.foldl (fun r e => r.write (a.row (j.addr 2) lay sym + 4 * e.1) (pairBytes e.2.1)) q.2
      if row.any (fun e => e.2.2) then r.setFlag 0 else r) r
    if r.live then { r with blocks := res.length } else r

/-- MOD_MAP. -/
def execModMap (unit : Nat) (s : State) : Host.Outcome State Fault Refusal := .next (s.accRun unit 0x71 modMap noInfo)

/-- The ARGS check of a type of this chapter. -/
def matrixArgsOk (s : State) (j : Job) : Bool :=
  match j.typ with
  | 0x40 => chestOk s j | 0x41 => eqWeightsOk s j | 0x42 => bfWeightsOk s j | 0x43 => weightApplyOk s j | 0x44 => eqApplyOk s j
  | 0x48 => jmStatsOk s j | 0x49 => jmSolveOk s j | 0x70 => softDemapOk s j | 0x71 => modMapOk s j
  | _ => true

end Sys2Proof.Machine
end

