-- ==== Sys2Proof/Machine/Transform.lean ====
section
/-!
DEFINITION. Transforms and the logarithmic scales of a Hem chain (R290, R294, R298): exact values computed in fixed point, with
the deviation that the spec allows as a free value.
-/

namespace Sys2Proof.Machine

/-- Cosine and sine, in units of 2^−64, of num ÷ den of a turn. -/
def turnTrig (num : Int) (den : Nat) : Int × Int :=
  let a := (num % den).toNat * 4
  let x := piUnits * (a % den : Nat) / (2 * den : Nat)
  let c := trigTerms x 16 0 (2 ^ 64)
  let s := trigTerms x 16 1 x
  match a / den with
  | 0 => (c, s)
  | 1 => (-s, c)
  | 2 => (-c, -s)
  | _ => (s, -c)

/-- A transform: the exact sum Σ x(i) e^(±j2π·turns(i)/den) in units of 2^−64. -/
def exactSum (x : List (Int × Int)) (turns : Nat → Int) (den : Nat) : Int × Int :=
  csum (x.zipIdx.map (fun e => cmul e.1 (turnTrig (turns e.2) den)))

/-- An output part: its sum rounded at `shift`, within ±2 (R290), and saturated. -/
def transformPart (x : List (Int × Int)) (name place shift : Nat) (v : Int) : Int × Bool :=
  sat16 (roundAt (shift + 64) v + ((Config.fftOff x name place % 5 : Nat) : Int) - 2)

/-- An output of a transform that `name` tells from others. -/
def transformOut (x : List (Int × Int)) (name place shift : Nat) (v : Int × Int) : (Int × Int) × Bool :=
  let a := transformPart x name (2 * place) shift v.1
  let b := transformPart x name (2 * place + 1) shift v.2
  ((a.1, b.1), a.2 || b.2)

/-- The largest n below 2^bits that satisfies a test which holds up to some number and fails beyond it. -/
def greatest (bits : Nat) (f : Nat → Bool) : Nat :=
  (List.range bits).foldl (fun a i => let b := a + 2 ^ (bits - 1 - i); if f b then b else a) 0

/-- The linear gain of code g (R294): within 1 of round(4096 × 10^(g/320)), from 1 to 65,535. -/
def linearGain (g : Int) : Nat :=
  let up := 10 ^ g.toNat
  let down := 10 ^ (-g).toNat
  let twice := greatest 18 (fun n => decide (n ^ 320 * down ≤ 8192 ^ 320 * up))
  (max 1 (min 65535 ((((twice + 1) / 2 : Nat) : Int) + ((Config.gainOff g % 3 : Nat) : Int) - 1))).toNat

/-- The level of power p over n samples (R294): within 1 of floor(160 × log10(p / (n × 2^30))), and −1,600 for p = 0. -/
def levelFor (p n : Nat) : Int :=
  if p = 0 then -1600 else
  let q := n * 2 ^ 30
  let l : Int := (greatest 12 (fun k => if 2048 ≤ k then decide (q ^ 160 * 10 ^ (k - 2048) ≤ p ^ 160)
    else decide (q ^ 160 ≤ p ^ 160 * 10 ^ (2048 - k))) : Nat) - 2048
  l + ((Config.levelOff p n % 3 : Nat) : Int) - 1

/-! ## FFT jobs (R298) -/

/-- The length of an FFT job's transform. -/
def Job.fftLen (j : Job) : Nat := match j.fld 0 58 57 with | 1 => 139 | 2 => 839 | _ => 2 ^ j.fld 0 63 60

/-- The stride of its transforms. -/
def Job.fftStride (j : Job) : Nat := 64 * ceilDiv (4 * j.fftLen) 64

/-- The ARGS check of FFT and IFFT. -/
def fftOk (s : State) (j : Job) : Bool :=
  let n := j.fld 0 63 60
  outOk j && (if j.fld 0 58 57 = 0 then decide (7 ≤ n) && decide (n ≤ 12) else n == 0 && decide (j.fld 0 58 57 ≤ 2))
    && j.fld 0 59 59 == 0 && decide (j.fld 0 56 53 ≤ 12) && j.fld 0 52 48 == 0 && decide (1 ≤ j.fld 1 63 52)
    && j.fld 1 51 48 == 0 && j.arg 2 == 0 && j.arg 3 == 0
    && s.buffersOk j.part [(j.addr 0, j.fld 1 63 52 * j.fftStride), (j.addr 1, j.fld 1 63 52 * j.fftStride)]

/-- One transform. -/
def fftBlock (inverse : Bool) (j : Job) (b : Nat) (r : AccRun) : AccRun :=
  let n := j.fftLen
  let (l, r) := r.read (j.addr 0 + b * j.fftStride) (4 * n)
  if !r.live then r else
  let x := (List.range n).map (fun i => pairAt l (4 * i))
  let name := inverse.toNat + 2 * j.fld 0 56 53
  let out := (List.range n).map (fun k => transformOut x name k (j.fld 0 56 53)
    (exactSum x (fun i => if inverse then (k * i : Nat) else -((k * i : Nat) : Int)) n))
  (r.write (j.addr 1 + b * j.fftStride) (fillTo j.fftStride (out.flatMap (fun v => pairBytes v.1)))).block
    (out.any (fun v => v.2))

/-- FFT. -/
def execFft (unit : Nat) (s : State) : Host.Outcome State Fault Refusal :=
  .next (s.accRun unit 0x38 (fun j r => r.each (j.fld 1 63 52) (fftBlock false j)) noInfo)
/-- IFFT. -/
def execIfft (unit : Nat) (s : State) : Host.Outcome State Fault Refusal :=
  .next (s.accRun unit 0x39 (fun j r => r.each (j.fld 1 63 52) (fftBlock true j)) noInfo)

end Sys2Proof.Machine
end

