-- ==== Sys2Proof/Machine/Hem.lean ====
section
/-!
DEFINITION. Hem chains: intake (R288, R289), windows, transforms and records (R290 to R293), the gain loop (R294, R295), detection
jobs (R296, R297), and their registers' actions (R299).
-/

namespace Sys2Proof.Machine

open Reg Ob

/-- The unit ID of chain h; its event has the same number (R285). -/
def hemUnit (h : Nat) : Nat := 0x740 + h

/-- The index of a stream. -/
def streamIx (h st : Nat) : Nat := h * 32 + st

/-- What stream i holds beside its registers. -/
def State.stream (s : State) (i : Nat) : HemStream := Tab.get HemStream.idle s.hem i

/-- The state with that replaced. -/
def State.setStream (s : State) (i : Nat) (x : HemStream) : State := { s with hem := s.hem.set i x }

/-- EV_HEM of a chain for a stream (R300). -/
def State.hemEvent (s : State) (h st reason : Nat) : State :=
  (s.sf HEM_STATE_LAST_STREAM h st).raiseReason (hemUnit h) reason HEM_STATE_LAST_REASON h

/-- The present tick of a chain's island. -/
def State.hemTick (s : State) (h : Nat) : Nat := s.replica (islandOf (hemUnit h))

/-- The 64-bit tick nearest to now whose low 48 bits are given. -/
def fullTick (now t : Nat) : Nat := ((now : Int) + toSigned 48 (deadlineDiff t now)).toNat

/-! ## A stream's shape (R289, R290) -/

/-- µ of a carrier type; 0 for LTE. -/
def muOf (ty : Nat) : Nat := if ty ≤ 4 then ty else 0

/-- What a stream's fields make it. -/
structure HemShape where
  carrier : Nat
  num : Numerology
  /-- N, and D in ticks a sample; 0 where that is no whole number -/
  n : Nat
  d : Nat
  /-- ticks of a symbol without its cyclic prefix -/
  useful : Nat

/-- The shape of stream i. -/
def State.shape (s : State) (i : Nat) : HemShape :=
  let c := s.rf HEM_SCFG_CARRIER i
  let useful := 8192 / 2 ^ muOf (s.carrier c).ty
  let n := 2 ^ s.rf HEM_SCFG_LOG2N i
  ⟨c, s.carNum c, n, useful / n, useful⟩

/-- A stream may be enabled with its fields (R289, R290, R299). -/
def State.streamValid (s : State) (i : Nat) : Bool :=
  let x := s.shape i
  decide ((s.carrier x.carrier).ty ≤ 5) && decide (7 ≤ s.rf HEM_SCFG_LOG2N i)
    && decide (s.rf HEM_SCFG_LOG2N i ≤ 12) && decide (1 ≤ x.d) && s.rf HEM_SCFG_NSC i % 12 == 0
    && decide (s.rf HEM_SCFG_NSC i ≤ x.n) && decide (12 ≤ s.rf HEM_SCFG_RING_LOG2 i)
    && decide (s.rf HEM_SCFG_RING_LOG2 i ≤ 20) && decide (s.rf HEM_SWIN_ADV i * x.d ≤ x.num.other - x.useful)
    && decide (s.rf HEM_SWIN_SHIFT i ≤ 12) && s.rf HEM_SSTRIDE_SYM_STRIDE i % 64 == 0
    && s.rf HEM_SBUF_BUF_STRIDE i % 64 == 0 && s.rf HEM_SAGC1_FREEZE_SPAN i != 15

/-- The number of the symbol of a stream's carrier that holds tick t, counted as TimeBase counts; its start tick; its length. -/
def State.symAt (s : State) (x : HemShape) (t : Nat) : Nat := x.num.symbolNumber (s.carRel x.carrier t)
def State.symStart (s : State) (x : HemShape) (g : Nat) : Nat := s.carTick x.carrier (x.num.symbolTick g)
def State.symLength (s : State) (x : HemShape) (g : Nat) : Nat := s.symStart x (g + 1) - s.symStart x g

/-- The first symbol start of a stream at or after tick t. -/
def State.symFrom (s : State) (x : HemShape) (t : Nat) : Nat :=
  let g := s.symAt x t
  if s.symStart x g = t then t else s.symStart x (g + 1)

/-- SFN, slot within the frame and symbol within the slot of symbol number g. -/
def HemShape.position (x : HemShape) (g : Nat) : Nat × Nat × Nat :=
  let perFrame := 20 * x.num.perHalf
  (g / perFrame % 1024, g % perFrame / x.num.perSlot, g % x.num.perSlot)

/-- The first tick of the window of the symbol that starts at tick t, and its last (R290). -/
def State.windowStart (s : State) (i t : Nat) : Nat :=
  let x := s.shape i
  t + (s.symLength x (s.symAt x t) - x.useful) - s.rf HEM_SWIN_ADV i * x.d
def State.windowEnd (s : State) (i t : Nat) : Nat :=
  let x := s.shape i
  s.windowStart i t + (x.n - 1) * x.d

/-- The carrier timer of a stream has symbols at tick t: it is on and has started. -/
def State.carrierOn (s : State) (c t : Nat) : Bool := (s.carrier c).on && decide (s.carStart c ≤ t)

/-! ## The ring -/

/-- The ring index of the sample at tick t: of the newest run that holds it, unless a later run has overwritten it. -/
def sampleIndex (d size t : Nat) : List HemRun → List HemRun → Option Nat
  | _, [] => none
  | later, r :: old =>
    if r.first ≤ t ∧ (t - r.first) % d = 0 ∧ (t - r.first) / d < r.count then
      let p := (r.pos + (t - r.first) / d) % size
      if later.any (fun q => decide ((p + size - q.pos % size) % size < q.count)) then none else some p
    else sampleIndex d size t (r :: later) old

/-- The ring index at which stream i holds the sample at tick t. -/
def State.sampleAt (s : State) (i t : Nat) : Option Nat :=
  sampleIndex (s.shape i).d (2 ^ s.rf HEM_SCFG_RING_LOG2 i) t [] (s.stream i).runs

/-- Every sample of the window of the symbol at tick t has landed. -/
def State.windowComplete (s : State) (i t : Nat) : Bool :=
  let x := s.shape i
  (List.range x.n).all (fun k => (s.sampleAt i (s.windowStart i t + k * x.d)).isSome)

/-- Read a sample for a partition: none where it is denied, poisoned or absent. -/
def State.readSample (s : State) (h p i t : Nat) : Option (Int × Int) × State :=
  match s.sampleAt i t with
  | none => (none, s)
  | some k =>
    let a := s.rf HEM_SRING_BASE i * 64 + 4 * k
    if s.mayAccess p a 4 false then
      match s.readBytes a 4 (hemUnit h) 0 with
      | (some l, s) => (some (pairAt l 0), s)
      | (none, s) => (none, s)
    else (none, s.countDenial p (hemUnit h) a false)

/-- Read n samples d ticks apart. -/
def State.readSamples (s : State) (h p i d : Nat) : Nat → Nat → List (Option (Int × Int)) × State
  | _, 0 => ([], s)
  | t, n + 1 =>
    let q := s.readSample h p i t
    let r := q.2.readSamples h p i d (t + d) n
    (q.1 :: r.1, r.2)

/-! ## Intake (R288, R289) -/

/-- The fields of an intake entry. -/
structure Intake where
  ok : Bool
  stream : Nat
  kind : Nat
  count : Nat
  pos : Nat
  tick : Nat

/-- The intake entry of an entry's words; `ok` where its fields are in range. -/
def intakeOf (e : List Carried) : Intake :=
  let l := carriedBytes e
  let f := fieldAt l
  let kind := f 1 1
  ⟨(e.take 7).all Option.isSome && decide (f 0 1 < 32) && decide (kind ≤ 1) && decide (f 4 4 < 2 ^ 20)
      && (if kind = 0 then decide (1 ≤ f 2 2) && decide (f 2 2 ≤ 4096) else f 2 2 == 0),
    f 0 1 % 32, kind, f 2 2, f 4 4 % 2 ^ 20, f 8 6⟩

/-- The chain discards a run (R289). -/
def State.discardRun (s : State) (h st : Nat) : State := (s.incf HEM_DISCARDS_COUNT h).hemEvent h st 0x01

/-- A tick lies a whole number of samples from the carrier's boundaries. -/
def State.onGrid (s : State) (x : HemShape) (t : Nat) : Bool := x.d != 0 && s.carRel x.carrier t % x.d == 0

/-- A run of received samples is accepted or discarded. Runs that the ring no longer holds are forgotten. -/
def State.acceptRun (s : State) (h : Nat) (e : Intake) : State :=
  let i := streamIx h e.stream
  let x := s.shape i
  let y := s.stream i
  let t := fullTick (s.hemTick h) e.tick
  let stale := match y.done with
    | some d => decide (t ≤ d)
    | none => false
  if !e.ok || !s.bit HEM_SCFG_ENABLE i || s.bit HEM_SCFG_DIR i || !s.onGrid x t || stale then s.discardRun h e.stream
  else
    let size := 2 ^ s.rf HEM_SCFG_RING_LOG2 i
    let kept := y.runs.filter (fun r => decide (t < r.first + (r.count + size) * x.d))
    s.setStream i { y with runs := ⟨t, e.count, e.pos⟩ :: kept }

/-- The chain may take the entry at the head of its intake queue, of a kind. -/
def State.intakeHead (s : State) (h kind : Nat) : Bool :=
  let q := s.rf HEM_CFG_INQ h
  s.usable (hemUnit h) && s.queueOpen q && s.rf QM_QCFG_CONSUMER q == hemUnit h && decide (0 < s.occupancy q)
    && (intakeOf (s.peek q 0)).kind % 2 == kind

/-- HEM_INTAKE_ENTRY: the entry at the head describes received samples. -/
def execHemIntakeEntry (chain : Nat) (s : State) : Host.Outcome State Fault Refusal :=
  .next (if s.intakeHead chain 0 then
    match s.popQueue (s.rf HEM_CFG_INQ chain) (hemUnit chain) with
    | (.entry e, s) => s.acceptRun chain (intakeOf e)
    | (_, s) => s
  else s)

/-! ## The gain loop (R294, R295) -/

/-- A sample part after the gain. -/
def gained (gl : Nat) (x : Int × Int) : (Int × Int) × Nat :=
  let a := sat16 (roundAt 12 (gl * x.1))
  let b := sat16 (roundAt 12 (gl * x.2))
  ((a.1, b.1), a.2.toNat + b.2.toNat)

/-- The power of samples before the gain. -/
def power (l : List (Int × Int)) : Nat := (l.map (fun x => (x.1 ^ 2 + x.2 ^ 2).toNat)).sum

/-- A window's level, and whether it has a burst, given the level before it. -/
def windowLevel (x : List (Int × Int)) (burst : Nat) (prev : Option Int) : Int × Bool :=
  let n := x.length
  (levelFor (power x) n,
   match prev with
   | none => false
   | some l => burst != 0 && (List.range 8).any (fun k =>
       decide (l + burst ≤ levelFor (power ((x.drop (k * (n / 8))).take (n / 8))) (n / 8))))

/-- A signed gain field. -/
def State.gain (s : State) (i : Nat) : Int := toSigned 16 (s.rf HEM_SGAIN_G i)

/-- Where a freeze that begins in the symbol number g ends (R295). -/
def State.spanEnd (s : State) (i g : Nat) : Nat :=
  let x := s.shape i
  match s.rf HEM_SAGC1_FREEZE_SPAN i with
  | 0 => s.symStart x ((g / x.num.perSlot + 1) * x.num.perSlot)
  | 1 => s.carTick x.carrier ((s.carRel x.carrier (s.symStart x g) / 122880 + 1) * 122880)
  | n => s.symStart x (g + n)

/-- The loop at the end of the window of symbol g (R295). -/
def State.gainLoop (s : State) (i g : Nat) (level : Int) (burst clipped : Bool) : State :=
  let y := s.stream i
  let nextStart := s.symStart (s.shape i) (g + 1)
  let s := if !s.bit HEM_SCFG_AGC i then s else
    let frozen := s.bit HEM_SGAIN_FROZEN i && !decide (y.freezeEnd ≤ nextStart)
    let s := s.sf HEM_SGAIN_FROZEN i frozen.toNat
    if frozen then s else
    let old := s.gain i
    let e := toSigned 16 (s.rf HEM_SAGC0_TARGET i) - (level + old)
    let attack : Int := s.rf HEM_SAGC0_ATTACK i
    let release : Int := s.rf HEM_SAGC0_RELEASE i
    let window : Int := s.rf HEM_SAGC1_WINDOW i
    let new : Int :=
      if burst then (if e < 0 then old + e else old)
      else if clipped then old - attack
      else if e < -window then old + max e (-attack)
      else if window < e then old + min e release
      else old
    let new := max (toSigned 16 (s.rf HEM_SAGC2_GMIN i)) (min new (toSigned 16 (s.rf HEM_SAGC2_GMAX i)))
    let s := s.sf HEM_SGAIN_G i (ofSigned 16 new)
    if burst then (s.sf HEM_SGAIN_FROZEN i 1).setStream i { y with freezeEnd := s.spanEnd i g } else s
  match (s.stream i).gain with
  | some v => (s.sf HEM_SGAIN_G i v).setStream i { s.stream i with gain := none }
  | none => s

/-! ## Windows (R290 to R292) -/

/-- The address of a row of a stream's grid (R290). -/
def State.gridRow (s : State) (i slot l : Nat) : Nat :=
  s.rf HEM_SGRID_BASE i * 64 + slot % (s.rf HEM_SSTRIDE_NBUF i + 1) * s.rf HEM_SBUF_BUF_STRIDE i
    + l * s.rf HEM_SSTRIDE_SYM_STRIDE i

/-- Write a row of a grid, if memory protection lets the partition. -/
def State.writeRow (s : State) (h p a : Nat) (data : List Byte ⊕ Nat) : State :=
  let n := match data with | .inl l => l.length | .inr n => n
  if n = 0 then s
  else if !s.mayAccess p a n true then s.countDenial p (hemUnit h) a true
  else match data with
    | .inl l => (s.writeBytes a (hemUnit h) l).2
    | .inr n => s.writeWords a (hemUnit h) (List.replicate (n / 8) none)

/-- What the chain found of a window. -/
structure WindowResult where
  level : Int
  sats : Nat
  burst : Bool
  missing : Bool
  poison : Bool
  sat : Bool

/-- The record, the loop and what follows a window of the symbol that starts at tick t (R292, R295). -/
def State.endWindow (s : State) (h st t : Nat) (w : WindowResult) : State :=
  let i := streamIx h st
  let x := s.shape i
  let g := s.symAt x t
  let (sfn, slot, l) := x.position g
  let last := s.windowEnd i t
  let flags := (s.bit HEM_SGAIN_FROZEN i).toNat + 2 * w.burst.toNat + 4 * w.missing.toNat + 8 * w.poison.toNat
    + 16 * w.sat.toNat
  let body := valBytes 1 st ++ valBytes 1 l ++ valBytes 2 slot ++ valBytes 2 sfn ++ valBytes 2 0
    ++ valBytes 2 (s.rf HEM_SGAIN_G i) ++ valBytes 2 (ofSigned 16 w.level) ++ valBytes 2 (min w.sats 65535)
    ++ valBytes 2 flags ++ valBytes 8 (s.windowStart i t % 2 ^ 48)
  let s := s.pushBytes (s.rf HEM_SOUT_OUT_Q i) (hemUnit h) body (s.rf HEM_CFG_CLASS h)
    ((last + s.rf HEM_BUDGET_TICKS h) % 2 ^ 48)
  let s := s.incf HEM_SYMBOLS_COUNT h
  let s := if 0 < w.sats then s.incf HEM_CLIPS_COUNT h else s
  let s := s.gainLoop i g w.level w.burst (decide (0 < w.sats))
  s.setStream i { s.stream i with next := s.symStart x (g + 1), done := some last, level := some w.level }

/-- A window whose samples are missing or poisoned has free levels. -/
def State.lostWindow (s : State) (h st t : Nat) (poison : Bool) : State :=
  (s.fresh).endWindow h st t ⟨(Config.lostLevel s.free).toInt, (Config.lostClips s.free).toNat, Config.lostBurst s.free,
    !poison, poison, false⟩

/-- The transform of a window's samples after the gain: the row's values by ascending grid subcarrier (R290). -/
def State.windowRow (s : State) (i : Nat) (y : List (Int × Int)) : List ((Int × Int) × Bool) :=
  let n := (s.shape i).n
  let nsc := s.rf HEM_SCFG_NSC i
  let half := s.rf HEM_SCFG_HALF i
  let adv : Int := s.rf HEM_SWIN_ADV i
  let shift := s.rf HEM_SWIN_SHIFT i
  (List.range nsc).map (fun kg =>
    let k := (((kg : Int) - (nsc / 2 : Nat)) % n).toNat
    transformOut y (4 + half + 2 * shift + 64 * adv.toNat) k shift
      (exactSum y (fun m => -((2 * k + half : Nat) : Int) * ((m : Int) - adv)) (2 * n)))

/-- What stops a stream's accesses to its ring and its grid (R14). -/
def State.streamStops (s : State) (h st : Nat) : Option (Nat × Option Nat) :=
  let i := streamIx h st
  (s.accessStops (hemUnit h) (s.rf HEM_SRING_BASE i * 64) (4 * 2 ^ s.rf HEM_SCFG_RING_LOG2 i)).or
    (s.accessStops (hemUnit h) (s.rf HEM_SGRID_BASE i * 64) 64)

/-- The stream is an enabled receive stream of a chain in service whose carrier has reached its next symbol. -/
def State.windowOpen (s : State) (h st : Nat) : Bool :=
  let i := streamIx h st
  s.usable (hemUnit h) && decide (st < 32) && s.bit HEM_SCFG_ENABLE i && !s.bit HEM_SCFG_DIR i
    && s.carrierOn (s.rf HEM_SCFG_CARRIER i) (s.stream i).next

/-- Process a stream's next window on FFT instance `fft` (R290, R291). -/
def State.processWindow (s : State) (h st p fft : Nat) : State :=
  let i := streamIx h st
  let x := s.shape i
  let t := (s.stream i).next
  let (_, slot, l) := x.position (s.symAt x t)
  let row := s.gridRow i slot l
  let (vals, s) := s.readSamples h p i x.d (s.windowStart i t) x.n
  if vals.any Option.isNone then
    let s := s.writeRow h p row (.inr (4 * s.rf HEM_SCFG_NSC i))
    ((s.lostWindow h st t true).hemEvent h st 0x04).resetAcc fft 0x01
  else
    let v := vals.map (fun o => o.getD (0, 0))
    let y := v.map (gained (linearGain (s.gain i)))
    let lv := windowLevel v (s.rf HEM_SAGC1_BURST i) (s.stream i).level
    let out := s.windowRow i (y.map (fun e => e.1))
    let s := s.writeRow h p row (.inl (out.flatMap (fun e => pairBytes e.1)))
    s.endWindow h st t ⟨lv.1, (y.map (fun e => e.2)).sum, lv.2, false, false, out.any (fun e => e.2)⟩

/-- HEM_WINDOW_PROCESS: the last sample of a stream's next window has landed, and a reserved FFT instance takes it. -/
def execHemWindowProcess (chain stream fft : Nat) (s : State) : Host.Outcome State Fault Refusal :=
  .next (match s.hemOwner chain with
    | some p =>
      if s.windowOpen chain stream && s.windowComplete (streamIx chain stream) (s.stream (streamIx chain stream)).next
          && s.fftReserved fft && (fft - 0x600) / 39 == chain then
        match s.streamStops chain stream with
        | some x => s.stallOn x
        | none => s.processWindow chain stream p fft
      else s
    | none => s)

/-- HEM_WINDOW_MISSING: the window is still incomplete at its budget (R291). -/
def execHemWindowMissing (chain stream : Nat) (s : State) : Host.Outcome State Fault Refusal :=
  .next (
    let i := streamIx chain stream
    let t := (s.stream i).next
    match s.hemOwner chain with
    | some p =>
      if s.windowOpen chain stream && !s.windowComplete i t
          && decide (s.windowEnd i t + s.rf HEM_BUDGET_TICKS chain ≤ s.hemTick chain) then
        let x := s.shape i
        let (_, slot, l) := x.position (s.symAt x t)
        match s.streamStops chain stream with
        | some x => s.stallOn x
        | none =>
          let s := s.writeRow chain p (s.gridRow i slot l) (.inl (valBytes (4 * s.rf HEM_SCFG_NSC i) 0))
          ((s.lostWindow chain stream t false).incf HEM_MISSING_COUNT chain).hemEvent chain stream 0x02
      else s
    | none => s)

/-! ## Transmission (R293) -/

/-- The samples of a transmit symbol, cyclic prefix first, from a grid row. Without the half-subcarrier shift the prefix repeats
the symbol's end. -/
def State.transmitSamples (s : State) (i cp : Nat) (grid : List (Int × Int)) : List (Int × Int) :=
  let n := (s.shape i).n
  let nsc := s.rf HEM_SCFG_NSC i
  let half := s.rf HEM_SCFG_HALF i
  let shift := s.rf HEM_SWIN_SHIFT i
  let gl := linearGain (s.gain i)
  (List.range (n + cp)).map (fun (j : Nat) =>
    let m : Int := (j : Int) - cp
    let place := if half = 0 then (m % n).toNat else j
    let v := transformOut grid (5 + half + 2 * shift + 64 * n + 2 ^ 20) place shift
      (exactSum grid (fun kg => (2 * ((kg : Int) - (nsc / 2 : Nat)) + half) * m) (2 * n))
    (gained gl v.1).1)

/-- Write samples to the ring from index `pos`, round its end. -/
def State.writeRing (s : State) (h p i pos : Nat) (data : List Byte) : State :=
  let size := 2 ^ s.rf HEM_SCFG_RING_LOG2 i
  let base := s.rf HEM_SRING_BASE i * 64
  let k := min data.length (4 * (size - pos))
  (s.writeRow h p (base + 4 * pos) (.inl (data.take k))).writeRow h p base (.inl (data.drop k))

/-- Serve a transmit request on FFT instance `fft` (R293). -/
def State.transmit (s : State) (h p fft : Nat) (e : Intake) : State :=
  let i := streamIx h e.stream
  let x := s.shape i
  let t := fullTick (s.hemTick h) e.tick
  if !e.ok || !s.bit HEM_SCFG_ENABLE i || !s.bit HEM_SCFG_DIR i || s.symFrom x t != t then s.discardRun h e.stream
  else
    let g := s.symAt x t
    let (_, slot, l) := x.position g
    let nsc := s.rf HEM_SCFG_NSC i
    let cp := (s.symLength x g - x.useful) / x.d
    let size := 2 ^ s.rf HEM_SCFG_RING_LOG2 i
    let pos := s.carRel x.carrier t / x.d % size
    let row := s.gridRow i slot l
    let got :=
      if nsc = 0 then (some [], s)
      else if s.mayAccess p row (4 * nsc) false then s.readBytes row (4 * nsc) (hemUnit h) 0
      else (none, s.countDenial p (hemUnit h) row false)
    let s := match got with
      | (some d, s) => s.writeRing h p i pos ((s.transmitSamples i cp ((List.range nsc).map (fun k => pairAt d (4 * k)))).flatMap
          pairBytes)
      | (none, s) => (((List.range (x.n + cp)).map (fun k => (pos + k) % size / 2)).dedup).foldl (fun s k =>
          s.writeRow h p (s.rf HEM_SRING_BASE i * 64 + 8 * k) (.inr 8)) s
    let s := if got.1.isNone then (s.hemEvent h e.stream 0x04).resetAcc fft 0x01 else s
    let body := valBytes 1 e.stream ++ valBytes 1 0 ++ valBytes 2 (x.n + cp) ++ valBytes 4 pos ++ valBytes 8 (t % 2 ^ 48)
    s.pushBytes (s.rf HEM_SOUT_OUT_Q i) (hemUnit h) body (s.rf HEM_CFG_CLASS h)
      ((t + (x.n + cp - 1) * x.d + s.rf HEM_BUDGET_TICKS h) % 2 ^ 48)

/-- HEM_TRANSMIT_REQUEST: the entry at the head of the intake queue requests a symbol, and a reserved FFT instance takes it
(R287). -/
def execHemTransmitRequest (chain : Nat) (s : State) : Host.Outcome State Fault Refusal :=
  .next (match s.hemOwner chain, s.reservedFfts chain with
    | some p, fft :: _ =>
      if s.intakeHead chain 1 then
        let st := (intakeOf (s.peek (s.rf HEM_CFG_INQ chain) 0)).stream
        match s.streamStops chain st with
        | some x => s.stallOn x
        | none =>
          match s.popQueue (s.rf HEM_CFG_INQ chain) (hemUnit chain) with
          | (.entry e, s) => s.transmit chain p fft (intakeOf e)
          | (_, s) => s
      else s
    | _, _ => s)

/-! ## Registers (R299) -/

/-- Requester u may write the registers of a chain. -/
def State.mayWriteHem (s : State) (u h : Nat) : Bool := isThimble u || s.isOwnerHost u (s.hemOwner h)

/-- A stream with its windows and its loop cleared, its first window to come at tick t or later. -/
def State.clearStream (s : State) (i t : Nat) : State :=
  s.setStream i { (s.stream i).quiet with next := s.symFrom (s.shape i) t }

/-- A stream that is disabled has no unfinished window; a gain that waited for the next window is the gain of the next
window (R295). -/
def State.quietStream (s : State) (i : Nat) : State :=
  let s := match (s.stream i).gain with
    | some v => s.sf HEM_SGAIN_G i v
    | none => s
  s.setStream i { (s.stream i).quiet with gain := none }

/-- A write of HEM_SCFG of a stream. -/
def State.writeScfg (s : State) (u h st v : Nat) : State :=
  let i := streamIx h st
  if !s.mayWriteHem u h || !decide (st < 32) || !s.usable (hemUnit h) then s
  else if s.bit HEM_SCFG_ENABLE i then
    if natBit v 31 then s else (s.sf HEM_SCFG_ENABLE i 0).quietStream i
  else
    let s := (((s.sf HEM_SCFG_DIR i (v / 2 ^ 30)).sf HEM_SCFG_HALF i (v / 2 ^ 29)).sf HEM_SCFG_AGC i (v / 2 ^ 28)).sf
      HEM_SCFG_CARRIER i (v / 2 ^ 22)
    let s := ((s.sf HEM_SCFG_LOG2N i (v / 2 ^ 18)).sf HEM_SCFG_RING_LOG2 i (v / 2 ^ 13)).sf HEM_SCFG_NSC i v
    if !natBit v 31 then s
    else if s.streamValid i then (s.sf HEM_SCFG_ENABLE i 1).clearStream i (s.hemTick h)
    else s.hemEvent h st 0x03

/-- A write of HEM_SGAIN: of a receive stream that runs, G waits for the next window; else it takes effect at once. -/
def State.writeSgain (s : State) (u h st v : Nat) : State :=
  let i := streamIx h st
  if !s.mayWriteHem u h || !decide (st < 32) || !s.usable (hemUnit h) then s
  else if s.bit HEM_SCFG_ENABLE i && !s.bit HEM_SCFG_DIR i then s.setStream i { s.stream i with gain := some (v % 65536) }
  else s.sf HEM_SGAIN_G i v

/-- A reset of a chain (R299): every stream's loop state and pending windows are cleared. -/
def State.resetHem (s : State) (h : Nat) : State :=
  (List.range 32).foldl (fun s st =>
    let i := streamIx h st
    (((s.setStream i HemStream.idle).clearStream i (s.hemTick h)).clearf HEM_SGAIN_FROZEN i).clearf HEM_SGAIN_G i) s

/-- HEM_CTRL.SRESET: the jobs on the chain complete with ABORTED. -/
def State.hemSreset (s : State) (u h v : Nat) : State :=
  if !s.mayWriteHem u h || !natBit v 8 || !s.usable (hemUnit h) then s
  else
    let s := match s.runningOn (hemUnit h) with
      | some j => if j.report = none then s.reportJob j.id ⟨codeAborted, 0, 0, false⟩ else s
      | none => s
    s.resetHem h

/-- HEM_STREAM_ENABLE: a write of HEM_SCFG with ENABLE 1. -/
def execHemStreamEnable (requester chain stream : Nat) (config : Half) (s : State) : Host.Outcome State Fault Refusal :=
  .next (s.atIsland requester (islandOf (0x740 + chain)) (fun s => s.writeScfg requester chain stream (config ||| 0x80000000).toNat))
/-- HEM_STREAM_DISABLE: a write of HEM_SCFG with ENABLE 0. -/
def execHemStreamDisable (requester chain stream : Nat) (config : Half) (s : State) : Host.Outcome State Fault Refusal :=
  .next (s.atIsland requester (islandOf (0x740 + chain)) (fun s => s.writeScfg requester chain stream (config &&& 0x7FFFFFFF).toNat))
/-- HEM_SGAIN_WRITE. -/
def execHemSgainWrite (requester chain stream : Nat) (value : Half) (s : State) : Host.Outcome State Fault Refusal :=
  .next (s.atIsland requester (islandOf (0x740 + chain)) (fun s => s.writeSgain requester chain stream value.toNat))
/-- HEM_SRESET: a write of HEM_CTRL with SRESET 1. -/
def execHemSreset (requester chain : Nat) (control : Half) (s : State) : Host.Outcome State Fault Refusal :=
  .next (s.atIsland requester (islandOf (0x740 + chain)) (fun s => s.hemSreset requester chain (control ||| 0x100).toNat))

/-! ## Detection jobs (R296, R297) -/

/-- The windows of a detection job, and where their table lies. -/
def Job.nwin (j : Job) : Nat := j.fld 3 63 56

/-- What both types check. -/
def detectOk (s : State) (j : Job) (refs : Nat) : Bool :=
  outOk j && j.fld 3 55 48 == 0 && decide (1 ≤ j.nwin) && decide (j.nwin ≤ 64) && j.addr 3 % 64 == 0
    && s.buffersOk j.part [(j.addr 2, 4 * refs), (j.addr 3, 512 + 16 * j.nwin)]

/-- L of PRACH_DETECT, M, and SCS_RA in Hz. -/
def Job.prachLen (j : Job) : Nat := if j.fld 0 31 30 = 1 then 139 else 839
def Job.prachM (j : Job) : Nat := if j.fld 0 31 30 = 1 then 256 else 1024
def Job.prachScs (j : Job) : Nat := [1250, 5000, 15000, 30000, 60000, 120000].getD (j.fld 0 25 23) 0

/-- The ARGS check of PRACH_DETECT. -/
def prachOk (s : State) (j : Job) : Bool :=
  (j.fld 0 31 30 == 1 || j.fld 0 31 30 == 2) && decide (1 ≤ j.fld 0 29 26) && decide (j.fld 0 29 26 ≤ 12)
    && decide (j.fld 0 25 23 ≤ 5) && j.fld 0 22 0 == 0 && j.fld 1 63 48 == 0 && j.addr 2 % 64 == 0
    && detectOk s j j.prachLen

/-- The ARGS check of SEQ_DETECT. -/
def seqOk (s : State) (j : Job) : Bool :=
  let msc := j.fld 2 63 51
  let n := j.fld 2 50 47
  let last := (j.fld 0 63 56 - 1) * j.fld 2 31 0 + 4 * (j.fld 1 63 48 + (msc - 1) * j.fld 0 55 48) + 4
  decide (1 ≤ j.fld 0 63 56) && decide (j.fld 0 63 56 ≤ 64) && [1, 2, 4, 8].contains (j.fld 0 55 48)
    && decide (1 ≤ msc) && decide (msc ≤ 3300) && decide (7 ≤ n) && decide (n ≤ 12) && decide (msc ≤ 2 ^ n)
    && j.fld 2 43 32 == 0 && j.fld 2 31 0 % 64 == 0 && j.addr 0 % 64 == 0 && j.addr 1 % 64 == 0 && outOk j
    && j.fld 3 55 48 == 0 && decide (1 ≤ j.nwin) && decide (j.nwin ≤ 64)
    && s.buffersOk j.part [(j.addr 0, last), (j.addr 1, 4 * msc), (j.addr 3, 512 + 16 * j.nwin)]

/-- The best index of a window and its value: the first of the greatest (R141, R297). -/
def bestOf (p : Nat → Nat) : List Nat → Option (Nat × Nat) → Option (Nat × Nat)
  | [], b => b
  | t :: r, none => bestOf p r (some (t, p t))
  | t :: r, some (u, v) => bestOf p r (if f32Units v < f32Units (p t) then some (t, p t) else some (u, v))

/-- Search the windows of a profile (R297 step 4). -/
def searchWindows (j : Job) (len : Nat) (tseqNum tseqDen : Nat) (profile : Nat → Nat) (nu : Nat) (r : AccRun) : AccRun :=
  r.each j.nwin (fun w r =>
    let (l, r) := r.read (j.addr 3 + 8 * w) 8
    if !r.live then r else
    let first := fieldAt l 0 2
    let n := fieldAt l 2 2
    let r := r.require (decide (1 ≤ n) && decide (n ≤ len))
    if !r.live then r else
    match bestOf (fun t => profile ((first + t) % len)) (List.range n) none with
    | none => r
    | some (t, v) =>
      let found := decide (f32Units nu * fieldAt l 6 2 < f32Units v * 256)
      let tc := roundUp (((t : Int) - fieldAt l 4 2) * tseqNum) (len * tseqDen)
      (r.write (j.addr 3 + 512 + 16 * w) (valBytes 4 v ++ valBytes 2 t ++ valBytes 2 found.toNat
        ++ valBytes 4 (ofSigned 32 tc) ++ valBytes 4 0)).block found)

/-- A value of the delay profile (R297 steps 2 and 3): the powers at index i of the inverse transforms of u × conj(ref), summed
over the rows, in units that only a constant tells from the device's. The sum in F32 is zero where every product is, and free
elsewhere but for the flush. -/
def AccRun.profile (r : AccRun) (n : Nat) (ref : List (Int × Int)) (rows : List (List (Int × Int))) (i : Nat) : Nat :=
  let products := rows.map (fun u => (u.zip ref).map (fun e => cmul e.1 (cconj e.2)))
  if products.all (fun l => l.all (fun x => x == (0, 0))) then 0 else
  f32Flush (Config.profile r.seen i (power (products.map (fun l => exactSum l (fun k => ((k * i : Nat) : Int)) n)))).toNat
    % 2 ^ 31

/-- The rest of a detection job from its rows u and its reference: the profile, its mean, the search. -/
def detect (j : Job) (len tseqNum tseqDen : Nat) (rows : List (List (Int × Int))) (ref : List (Int × Int)) (missing : Bool)
    (r : AccRun) : AccRun :=
  let p := r.profile len ref rows
  let nu := r.f32Power 0 ((FQ.sum ((List.range len).map (fun i => FQ.of (f32Val (p i))))).div (.of len))
  { searchWindows j len tseqNum tseqDen p nu r with metric := nu + 2 ^ 32 * missing.toNat }

/-- Read a sample of a stream for PRACH_DETECT: zero, and noted, where it is missing or overwritten. -/
def AccRun.ringSample (r : AccRun) (i t : Nat) : (Int × Int) × Bool × AccRun :=
  match r.st.sampleAt i t with
  | none => ((0, 0), true, r)
  | some k =>
    let (l, r) := r.read (r.st.rf HEM_SRING_BASE i * 64 + 4 * k) 4
    (pairAt l 0, false, r)

/-- The samples of one repetition shifted by −(F0 + (L − 1)/2) × SCS_RA, in units of 2^−64 (R297 step 1); `d` ticks lie between
samples. -/
def Job.prachShift (j : Job) (d : Nat) (l : List (Int × Int)) : List (Int × Int) :=
  let f := (2 * toSigned 16 (j.fld 2 63 48) + j.prachLen - 1) * j.prachScs
  l.zipIdx.map (fun e => cmul e.1 (turnTrig (-(f * d * e.2)) (2 * 122880000)))

/-- u of one repetition: its samples shifted, filtered and decimated by R, and the L bins of their transform centred on bin
0. -/
def Job.prachRow (j : Job) (d : Nat) (l : List (Int × Int)) : List (Int × Int) :=
  let m := j.prachM
  let ratio := 122880000 / (d * m * j.prachScs)
  let x := j.prachShift d l
  let y := (List.range m).map (Config.lowPass x ratio)
  (List.range j.prachLen).map (fun u => exactSum y (fun k => -(((u : Int) - ((j.prachLen - 1) / 2 : Nat)) * k)) m)

/-- PRACH_DETECT. -/
def prachDetect (j : Job) (r : AccRun) : AccRun :=
  let h := r.unit - 0x740
  let m := j.prachM
  let scs := j.prachScs
  let streams := bitsSet 32 (j.fld 0 63 32)
  let r := r.require (streams.all (fun st =>
    let d := (r.st.shape (streamIx h st)).d
    d != 0 && 122880000 % (d * m * scs) == 0 && decide (1 ≤ 122880000 / (d * m * scs))
      && decide (122880000 / (d * m * scs) ≤ 96)))
  if !r.live then r else
  let start := fullTick (r.st.hemTick h) (j.addr 1)
  let q := streams.foldl (fun (q : List (List (Int × Int)) × Bool × AccRun) st =>
    let i := streamIx h st
    let d := (q.2.2.st.shape i).d
    let len := 122880000 / (d * scs)
    (List.range (j.fld 0 29 26)).foldl (fun (q : List (List (Int × Int)) × Bool × AccRun) rep =>
      let y := (List.range len).foldl (fun (y : List (Int × Int) × Bool × AccRun) k =>
        if !y.2.2.live then y else
        let z := y.2.2.ringSample i (start + (rep * len + k) * d)
        (y.1 ++ [z.1], y.2.1 || z.2.1, z.2.2)) (([] : List (Int × Int)), q.2)
      (q.1 ++ [j.prachRow d y.1], y.2)) q) (([] : List (List (Int × Int))), false, r)
  let r := q.2.2
  let (l, r) := r.read (j.addr 2) (4 * j.prachLen)
  if !r.live then r else
  detect j j.prachLen 1966080000 scs q.1 ((List.range j.prachLen).map (fun i => pairAt l (4 * i))) q.2.1 r

/-- SEQ_DETECT. -/
def seqDetect (j : Job) (r : AccRun) : AccRun :=
  let msc := j.fld 2 63 51
  let q := (List.range (j.fld 0 63 56)).foldl (fun (q : List (List (Int × Int)) × AccRun) a =>
    let x := (List.range msc).foldl (fun (x : List (Int × Int) × AccRun) i =>
      let y := x.2.read (j.addr 0 + a * j.fld 2 31 0 + 4 * (j.fld 1 63 48 + i * j.fld 0 55 48)) 4
      (x.1 ++ [pairAt y.1 0], y.2)) (([] : List (Int × Int)), q.2)
    (q.1 ++ [x.1], x.2)) (([] : List (List (Int × Int))), r)
  let (l, r) := q.2.read (j.addr 1) (4 * msc)
  if !r.live then r else
  detect j (2 ^ j.fld 2 50 47) 131072 (j.fld 0 55 48 * 2 ^ j.fld 2 46 44) q.1
    ((List.range msc).map (fun i => pairAt l (4 * i))) false r

/-- A Hem job of a type on a chain, while a reserved FFT instance can transform for it (R287); a poison stop resets the chain
(R391). -/
def State.hemRun (s : State) (h typ : Nat) (body : Job → AccRun → AccRun) : State :=
  match if (s.reservedFfts h).isEmpty then none else s.accJob (hemUnit h) typ with
  | some j =>
    let r := body j (AccRun.start s j)
    if let some x := r.stall then s.stallOn x else
    r.finish j.outCount (packedInfo r) (fun s => (s.resetHem h).hemEvent h 0 0x04)
  | none => s

/-- PRACH_DETECT. -/
def execPrachDetect (chain : Nat) (s : State) : Host.Outcome State Fault Refusal := .next (s.hemRun chain 0x80 prachDetect)
/-- SEQ_DETECT. -/
def execSeqDetect (chain : Nat) (s : State) : Host.Outcome State Fault Refusal := .next (s.hemRun chain 0x81 seqDetect)

/-- The ARGS check of a type of this chapter. -/
def hemArgsOk (s : State) (j : Job) : Bool :=
  match j.typ with
  | 0x38 => fftOk s j | 0x39 => fftOk s j | 0x80 => prachOk s j | 0x81 => seqOk s j
  | _ => true

end Sys2Proof.Machine
end

