-- ==== Sys2Proof/Machine/Line.lean ====
section
/-!
DEFINITION. What passes on the line of a serial lane: Gray coding and precoding (R302), training frames (R308, R309), the search
for alignment (R312, R313), and the test patterns with their checker (R316). The 8b/10b code groups and the PRBS polynomials
are those of IEEE 802.3 (PRESUMED).
-/

namespace Sys2Proof.Machine

/-! ## Levels (R302) -/

/-- The PAM4 level of a bit pair, its first bit the more significant: 00, 01, 11, 10 to 0, 1, 2, 3. -/
def grayLevel (a b : Bool) : Nat := if a then (if b then 2 else 3) else (if b then 1 else 0)

/-- The levels of bits, in pairs. -/
def grayLevels : List Bool → List Nat
  | a :: b :: r => grayLevel a b :: grayLevels r
  | _ => []

/-- 1/(1+D) mod 4 precoding of levels, behind the level sent last. -/
def precode : Nat → List Nat → List Nat
  | _, [] => []
  | last, x :: r => let y := (x + 4 - last % 4) % 4; y :: precode y r

/-- The levels of bits as a transmitter sends them: two levels 0 and 3 for NRZ; inverted polarity turns them round. -/
def lineLevels (pam4 pre invert : Bool) (bits : List Bool) : List Nat :=
  let l := if pam4 then (let g := grayLevels bits; if pre then precode 0 g else g) else bits.map (fun b => if b then 3 else 0)
  if invert then l.map (fun x => 3 - x) else l

/-! ## Training frames (R308, R309) -/

/-- A field of a training frame, bit 15 first, one bit a symbol. -/
def fieldLevels (v : Nat) : List Nat := (List.range 16).map (fun i => if v.testBit (15 - i) then 3 else 0)

/-- The next bit of PRBS13 behind the bits of a list, newest first. -/
def prbs13Next (h : List Bool) : Bool :=
  (h.getD 12 false != h.getD 11 false) != (h.getD 1 false != h.getD 0 false)

/-- n bits of PRBS13 behind a register. -/
def prbs13Bits : Nat → List Bool → List Bool
  | 0, _ => []
  | n + 1, h => let b := prbs13Next h; b :: prbs13Bits n ((b :: h).take 13)

/-- The 4,096 symbols of a training frame; `seed` is where in PRBS13Q the frame begins. -/
def trainingSymbols (control status : Nat) (seed : BitVec 13) : List Nat :=
  List.replicate 32 3 ++ List.replicate 32 0 ++ fieldLevels control ++ fieldLevels status ++ List.replicate 8 0
    ++ grayLevels (prbs13Bits 7984 ((List.range 13).map (fun i => seed.getLsbD i || i == 0)))

/-- The control field that asks for what a receiver chooses: a preset, a step of a tap, nothing, or no further change. -/
def laneRequest (v : Nat) : Nat :=
  if v / 128 % 2 = 1 then 1
  else if v % 5 ≠ 0 then v % 5 * 2 ^ 13
  else v / 8 % 4 * 2 ^ 10 + v / 32 % 3 * 2 ^ 8

/-- A control field without its request: hold. -/
def laneHold (v : Nat) : Nat := v % 2

/-- The field asks for something. -/
def laneAsks (v : Nat) : Bool := v / 2 ^ 13 != 0 || v / 2 ^ 8 % 4 != 0

/-! ## 8b/10b code groups (R312) -/

/-- The six-bit codes abcdei of D0 to D31 at negative running disparity. -/
def sixBits : List Nat :=
  [0b100111, 0b011101, 0b101101, 0b110001, 0b110101, 0b101001, 0b011001, 0b111000, 0b111001, 0b100101, 0b010101, 0b110100,
   0b001101, 0b101100, 0b011100, 0b010111, 0b011011, 0b100011, 0b010011, 0b110010, 0b001011, 0b101010, 0b011010, 0b111010,
   0b110011, 0b100110, 0b010110, 0b110110, 0b001110, 0b101110, 0b011110, 0b101011]

/-- The four-bit codes fghj of y = 0 to 7 at negative running disparity. -/
def fourBits : List Nat := [0b1011, 0b1001, 0b0101, 0b1100, 0b1101, 0b1010, 0b0110, 0b1110]

/-- How many of the low n bits are 1. -/
def onesOf (n v : Nat) : Nat := ((List.range n).filter (fun i => v.testBit i)).length

/-- The code group of D x.y at a running disparity. -/
def dataGroup (positive : Bool) (x y : Nat) : Nat :=
  let a := sixBits.getD x 0
  let uneven := onesOf 6 a != 3
  let six := if positive && (uneven || x == 7) then 63 - a else a
  let p := positive != uneven
  let b := fourBits.getD y 0
  let four :=
    if y = 7 then
      (if !p && [17, 18, 20].contains x then 0b0111 else if p && [11, 13, 14].contains x then 0b1000
       else if p then 0b0001 else 0b1110)
    else if p && (onesOf 4 b != 2 || y == 3) then 15 - b else b
  six * 16 + four

/-- The special code groups K28.0 to K28.7, K23.7, K27.7, K29.7 and K30.7 at negative running disparity. -/
def specialGroups : List Nat :=
  [0b0011110100, 0b0011111001, 0b0011110101, 0b0011110011, 0b0011110010, 0b0011111010, 0b0011110110, 0b0011111000,
   0b1110101000, 0b1101101000, 0b1011101000, 0b0111101000]

/-- Ten bits are a code group of either running disparity. -/
def validGroup (g : Nat) : Bool :=
  specialGroups.any (fun k => g == k || g == 1023 - k)
    || (List.range 32).any (fun x => (List.range 8).any (fun y => g == dataGroup false x y || g == dataGroup true x y))

/-- Ten bits are the K28.5 comma. -/
def isComma (g : Nat) : Bool := g == 0b0011111010 || g == 0b1100000101

/-- The last ten bits received, newest first, as a number in the order of arrival. -/
def groupOf (l : List Bool) : Nat := ((List.range 10).map (fun i => if l.getD i false then 2 ^ i else 0)).sum

/-! ## The search for alignment (R312, R313) -/

/-- The lane's search. -/
inductive Alignment where
  | searching | found | lost
deriving DecidableEq, Repr

/-- One more bit of an 8b/10b lane, in ALIGNING (R312). -/
def seekBit (x : LaneSearch) (b : Bool) : LaneSearch :=
  let x := { x with window := (b :: x.window).take 10, pos := (x.pos + 1) % 10 }
  if x.window.length < 10 then x
  else
    let g := groupOf x.window
    if isComma g then
      (if x.place = some x.pos then { x with count := x.count + 1 } else { x with place := some x.pos, count := 1 })
    else if x.place = some x.pos ∧ validGroup g = false then { x with count := 0 }
    else x

/-- One more bit of an aligned 8b/10b lane: groups in a row that are invalid, and commas in a row at another alignment. -/
def watchBit (x : LaneSearch) (b : Bool) : LaneSearch :=
  let x := { x with window := (b :: x.window).take 10, pos := (x.pos + 1) % 10 }
  if x.window.length < 10 then x
  else
    let g := groupOf x.window
    if x.place = some x.pos then
      (if isComma g then { x with invalid := 0, strays := 0 }
       else if validGroup g then { x with invalid := 0 } else { x with invalid := x.invalid + 1 })
    else if isComma g then
      (if x.stray = x.pos then { x with strays := x.strays + 1 } else { x with stray := x.pos, strays := 1 })
    else x

/-- The Seam comma, bit 79 first (R313). -/
def seamComma : BitVec 80 := 0xE8C519F27A30D64B0F97

/-- Bits of a superframe with its comma (R313). -/
def superframeBits : Nat := 22282320

/-- A window differs from the comma in at most four bits. -/
def commaHit (w : BitVec 80) : Bool := decide (onesOf 80 (w ^^^ seamComma).toNat ≤ 4)

/-- One window that a Seam lane's search looks at, at a bit position: hits one superframe apart are counted, for each place
where a comma may lie. -/
def seekWindow (x : LaneSearch) (w : Nat × BitVec 80) : LaneSearch :=
  if !commaHit w.2 then x else
  let n := match x.hits.find? (fun h => h.1 + superframeBits == w.1) with
    | some h => h.2 + 1
    | none => 1
  { x with hits := (w.1, n) :: x.hits.filter (fun h => decide (w.1 < h.1 + superframeBits)), count := max x.count n,
           place := if 4 ≤ n then some w.1 else x.place }

/-- The window at a locked lane's next superframe position. -/
def watchWindow (x : LaneSearch) (w : Nat × BitVec 80) : LaneSearch :=
  if x.place.map (fun p => p + superframeBits) ≠ some w.1 then x
  else { x with place := some w.1, invalid := if commaHit w.2 then 0 else x.invalid + 1 }

/-- What a lane's search makes of what it receives. The PCS of a 64b/66b lane reports alignment itself (R314). -/
def LaneSearch.seek (x : LaneSearch) : LineInput → LaneSearch
  | .bits l => l.foldl (fun x b => if 4 ≤ x.count then x else seekBit x b) x
  | .windows l => l.foldl (fun x w => if 4 ≤ x.count then x else seekWindow x w) x
  | .pcs => { x with count := 4 }

/-- What an aligned lane makes of it. -/
def LaneSearch.watch (x : LaneSearch) : LineInput → LaneSearch
  | .bits l => l.foldl watchBit x
  | .windows l => l.foldl watchWindow x
  | .pcs => { x with invalid := 4 }

/-- A search that has found alignment, and one that has lost it. -/
def LaneSearch.aligned (x : LaneSearch) : Bool := decide (4 ≤ x.count)
def LaneSearch.lost (x : LaneSearch) : Bool := decide (4 ≤ x.invalid) || decide (4 ≤ x.strays)

/-- A search at its start; a search that has aligned goes on from where it is. -/
def LaneSearch.restart (x : LaneSearch) : LaneSearch := { LaneSearch.idle with pos := x.pos }
def LaneSearch.keep (x : LaneSearch) : LaneSearch := { x with invalid := 0, strays := 0, hits := [] }

/-- A rate's coding takes an input: bits for 8b/10b, windows for Seam superframes, the PCS for 64b/66b (R302). -/
def inputFits (rate : Nat) : LineInput → Bool
  | .bits _ => rate == 1 || (decide (8 ≤ rate) && decide (rate ≤ 0x0E))
  | .windows _ => rate == 6
  | .pcs => decide (2 ≤ rate) && decide (rate ≤ 5) || decide (0x0F ≤ rate)

/-! ## Patterns (R316) -/

/-- The exclusive or of two earlier bits, counted from the newest as 1. -/
def tapBits (h : List Bool) (a b : Nat) : Bool := h.getD (a - 1) false != h.getD (b - 1) false

/-- The bit behind `h`, newest first, in a pattern that repeats every `n` bits, where the last n bits are part of it. -/
def periodicNext (n : Nat) (p : Nat → Bool) (h : List Bool) : Option Bool :=
  ((List.range n).find? (fun k => (List.range n).all (fun i => h.getD i false == p ((k + n - 1 - i) % n)))).map p

/-- The bit that a pattern has behind the bits `h`, newest first; none where no place of the pattern has these bits. -/
def patternNext (code : Nat) (user : BitVec 64) (h : List Bool) : Option Bool :=
  match code with
  | 0 => some (tapBits h 7 6)
  | 1 => some (tapBits h 9 5)
  | 2 => some (prbs13Next h)
  | 3 => some (tapBits h 15 14)
  | 4 => some (tapBits h 23 18)
  | 5 => some (tapBits h 31 28)
  | 6 => some (prbs13Next h)
  | 7 => some (tapBits h 31 28)
  | 8 => some (Config.ssprq h)
  | 9 => periodicNext 64 user.getLsbD h
  | _ => periodicNext 16 (fun i => decide (i < 8)) h

/-- A generator's register when it starts, newest bit first: behind a user pattern or the square wave its first bit comes next;
where in a PRBS it starts is free. -/
def patternStart (code : Nat) (user : BitVec 64) (seed : BitVec 64) : List Bool :=
  if code = 9 then (List.range 64).map (fun i => user.getLsbD (63 - i))
  else if code = 10 then (List.range 64).map (fun i => decide (8 ≤ i % 16) == true)
  else (List.range 64).map (fun i => seed.getLsbD i || i == 0)

/-- n bits of a pattern behind a register, and the register behind them. -/
def patternBits (code : Nat) (user : BitVec 64) : Nat → List Bool → List Bool × List Bool
  | 0, h => ([], h)
  | n + 1, h =>
    let b := (patternNext code user h).getD false
    let r := patternBits code user n ((b :: h).take 64)
    (b :: r.1, r.2)

/-! ## The checker (R316) -/

/-- What a run of bits makes of a checker: itself, whether it is locked, and the bits checked and in error. -/
structure CheckResult where
  check : LaneCheck
  locked : Bool
  bits : Nat
  errors : Nat

/-- One received bit. While it seeks, the checker seeds itself from the received bits, and 64 in a row without error lock it;
locked, it goes on by itself, and more than 256 errors in 1,024 bits unlock it. -/
def checkBit (code : Nat) (user : BitVec 64) (r : CheckResult) (b : Bool) : CheckResult :=
  let x := r.check
  let expected := patternNext code user x.history
  let bad := expected != some b
  if r.locked then
    let errs := (bad :: x.errors).take 1024
    if 256 < (errs.filter id).length then
      { r with check := ⟨(b :: x.history).take 64, 0, []⟩, locked := false, bits := r.bits + 1, errors := r.errors + bad.toNat }
    else
      { r with check := ⟨((expected.getD b) :: x.history).take 64, x.clean, errs⟩, bits := r.bits + 1, errors := r.errors + bad.toNat }
  else
    let clean := if bad || decide (x.history.length < 64) then 0 else x.clean + 1
    if clean = 64 then { r with check := ⟨(b :: x.history).take 64, 0, []⟩, locked := true }
    else { r with check := ⟨(b :: x.history).take 64, clean, []⟩ }

/-- A run of received bits. -/
def checkBits (code : Nat) (user : BitVec 64) (locked : Bool) (x : LaneCheck) (l : List Bool) : CheckResult :=
  l.foldl (checkBit code user) ⟨x, locked, 0, 0⟩

end Sys2Proof.Machine
end

