-- ==== Sys2Proof/Machine/Lanes.lean ====
section
/-!
DEFINITION. Serial lanes: rates and PLLs (R302, R303, R321), lane states (R306), the transmitter equalizer and training (R307 to
R311), alignment (R312 to R314), test loops (R315, R316), direction power (R317, R318), retirement (R319, R320), and what
follows for the port or link that uses a lane.
-/

namespace Sys2Proof.Machine

open Reg Ob

/-! ## The states of R306 -/

def laneDisabled : Nat := 0
def laneCal : Nat := 1
def laneAdapt : Nat := 2
def laneTraining : Nat := 3
def laneAligning : Nat := 4
def laneUp : Nat := 5
def laneFailed : Nat := 6
def laneTest : Nat := 7

/-- The state of lane n. -/
def State.laneState (s : State) (n : Nat) : Nat := s.rf LANE_STATE_STATE n

/-- What lane n holds beside its registers. -/
def State.lane (s : State) (n : Nat) : Lane := Tab.get Lane.idle s.lanes n

/-- The state with that replaced. -/
def State.setLane (s : State) (n : Nat) (x : Lane) : State := { s with lanes := s.lanes.set n x }

/-- Lane n exists on this variant and is not retired. -/
def State.laneUsable (s : State) (n : Nat) : Bool := s.die.variant.lanePresent n && !s.bit LANE_STATE_RETIRED n

/-- EV_LANE of lane n with a reason (R323). -/
def State.laneEvent (s : State) (n reason : Nat) : State := s.raiseReason (0x0800 + n) reason LANE_STATE_LAST_REASON n

/-! ## Rates (R302) -/

/-- The lane is a CPRI lane: in the PART.LANE_MASK of an MB partition. -/
def State.cpriLane (s : State) (n : Nat) : Bool :=
  match s.laneOwner n with
  | some p => s.isMb p
  | none => false

/-- A rate is allowed on lane n. -/
def State.rateAllowed (s : State) (n rate : Nat) : Bool :=
  if n < 48 then (decide (3 ≤ rate) && decide (rate ≤ 5)) || (decide (8 ≤ rate) && decide (rate ≤ 0x12) && s.cpriLane n)
  else if n < 64 then rate == 6
  else decide (1 ≤ rate) && decide (rate ≤ 3)

/-- The lanes of a quad. -/
def quadLanes (k : Nat) : List Nat := (List.range 4).map (fun i => 4 * k + i) |>.filter (fun n => n < 66)

/-- The PLL that lane n uses is on; its rate. -/
def State.lanePllOn (s : State) (n : Nat) : Bool :=
  if s.bit LANE_CTRL_PLL_SEL n then s.bit LQ_PLL_B_ENABLE (n / 4) else s.bit LQ_PLL_A_ENABLE (n / 4)
def State.laneRate (s : State) (n : Nat) : Nat :=
  if s.bit LANE_CTRL_PLL_SEL n then s.rf LQ_PLL_B_RATE (n / 4) else s.rf LQ_PLL_A_RATE (n / 4)

/-- The lane runs PAM4. -/
def State.lanePam4 (s : State) (n : Nat) : Bool := decide (4 ≤ s.laneRate n) && decide (s.laneRate n ≤ 6)

/-- The lane's receiver takes what arrives, and its transmitter sends (R317, R319). -/
def State.laneHears (s : State) (n : Nat) : Bool :=
  s.bit LANE_CTRL_ENABLE n && s.laneUsable n && s.rf LANE_STATE_RX_PWR_NOW n == 0
def State.laneSends (s : State) (n : Nat) : Bool :=
  s.bit LANE_CTRL_ENABLE n && s.laneUsable n && s.rf LANE_STATE_TX_PWR_NOW n == 0

/-- A direction of the lane is ACTIVE (R317). -/
def State.laneActive (s : State) (n : Nat) : Bool := s.laneHears n || s.laneSends n

/-- Data passes on the lane: it is UP (R306), and not in TEST. -/
def State.laneHearsData (s : State) (n : Nat) : Bool := s.laneState n == laneUp && s.laneHears n
def State.laneSendsData (s : State) (n : Nat) : Bool := s.laneState n == laneUp && s.laneSends n

/-! ## What uses a lane -/

/-- EV_CPRI of lane n with a reason (R353). -/
def State.cpriEvent (s : State) (n reason : Nat) : State := s.raiseReason (0x08D0 + n) reason CPRI_STATE_LAST_REASON n

/-- The CPRI link on lane n is lost (R319). -/
def State.cpriLost (s : State) (n : Nat) : State :=
  if n < 48 ∧ s.bit CPRI_CFG_ENABLE n = true ∧ s.bit CPRI_STATE_HFSYNC n = true then
    (s.sf CPRI_STATE_HFSYNC n 0).cpriEvent n 0x01
  else s

/-- How many lanes a port has (R348). -/
def State.portWidth (s : State) (p : Nat) : Nat := 2 ^ s.rf FH_PORT_CTRL_LANES p

/-- The lanes of a port. -/
def State.portLanes (s : State) (p : Nat) : List Nat := (List.range (s.portWidth p)).map (fun i => p + i)

/-- A port is UP and its receivers, or its transmitters, are ACTIVE (R317). -/
def State.portHears (s : State) (p : Nat) : Bool := s.bit FH_PORT_STATE_UP p && (s.portLanes p).all s.laneHears
def State.portSends (s : State) (p : Nat) : Bool := s.bit FH_PORT_STATE_UP p && (s.portLanes p).all s.laneSends

/-- The enabled port that a lane belongs to. -/
def State.portOf (s : State) (n : Nat) : Option Nat :=
  (List.range 48).find? (fun p => s.bit FH_PORT_CTRL_ENABLE p && (s.portLanes p).contains n)

/-- The enabled Seam link that a lane belongs to. -/
def State.linkOf (s : State) (n : Nat) : Option Nat :=
  if 48 ≤ n ∧ n < 64 then
    (List.range 8).find? (fun l => s.bit SEAM_LINK_CTRL_ENABLE l && natBit (s.rf SEAM_LINK_CTRL_SLOT_MASK l) ((n - 48) / 2))
  else none

/-- The states of a Seam link (R380). -/
def linkDown : Nat := 0
def linkLanes : Nat := 1
def linkIdent : Nat := 2
def linkUp : Nat := 3
def linkForeign : Nat := 4
def linkFailed : Nat := 5

/-- The lane belongs to a Seam link that is up. -/
def State.seamActive (s : State) (n : Nat) : Bool :=
  match s.linkOf n with
  | some l => s.rf SEAM_LINK_STATE_STATE l == linkUp
  | none => false

/-- EV_FH_PORT of a port with a reason (R353). -/
def State.portEvent (s : State) (p reason : Nat) : State := s.raiseReason (0x0880 + p) reason FH_PORT_STATE_LAST_REASON p

/-- EV_SEAM_LINK of a link with a reason (R382). -/
def State.linkEvent (s : State) (l reason : Nat) : State := s.raiseReason (0x0900 + l) reason SEAM_LINK_STATE_LAST_REASON l

/-- A port is up while every lane is aligned and the PCS reports no fault (R326); a change raises its event, with the
given reason where the port goes down. -/
def State.refreshPort (s : State) (p down : Nat) : State :=
  let aligned := s.bit FH_PORT_CTRL_ENABLE p && (s.portLanes p).all (fun n => s.laneState n == laneUp)
  let up := aligned && !s.bit FH_PORT_STATE_LOCAL_FAULT p && !s.bit FH_PORT_STATE_REMOTE_FAULT p
  let was := s.bit FH_PORT_STATE_UP p
  let s := (s.sf FH_PORT_STATE_ALIGNED p aligned.toNat).sf FH_PORT_STATE_UP p up.toNat
  if was && !up then s.portEvent p down else if up && !was then s.portEvent p 0x02 else s

/-- The lanes of a link that are up, as bits m for L(48 + m). -/
def State.linkLanesUp (s : State) (l : Nat) : Nat :=
  ((List.range 16).map (fun m =>
    if natBit (s.rf SEAM_LINK_CTRL_SLOT_MASK l) (m / 2) && s.laneState (48 + m) == laneUp then 2 ^ m else 0)).sum

/-- The lanes of a link, and the keeper lane: the lowest-numbered one in UP (R358). -/
def State.linkLaneList (s : State) (l : Nat) : List Nat :=
  ((List.range 16).filter (fun m => natBit (s.rf SEAM_LINK_CTRL_SLOT_MASK l) (m / 2))).map (fun m => 48 + m)
def State.keeper (s : State) (l : Nat) : Option Nat := (s.linkLaneList l).find? (fun n => s.laneState n == laneUp)

/-- The index of a lane within its link. -/
def State.laneIndex (s : State) (l n : Nat) : Nat := (s.linkLaneList l).idxOf n

/-- Room for n more blocks on a lane of a link: a FILL block goes first where 128 blocks in a row would have none (R305, R358). -/
def State.putBlocks (s : State) (l lane n : Nat) : State :=
  let x := s.slink l
  let c := Tab.get 0 x.sinceFill lane
  if 127 < c + n then (s.setLink l { x with sinceFill := x.sinceFill.set lane n }).send (.seamFill l lane)
  else s.setLink l { x with sinceFill := x.sinceFill.set lane (c + n) }

/-- A control block goes out on the keeper lane. -/
def State.sendControl (s : State) (l : Nat) (o : Msg) : State :=
  match s.keeper l with
  | some k => (s.putBlocks l k 1).send o
  | none => s.send o

/-- A quiet lane that takes over as keeper is woken (R362). -/
def State.wakeKeeper (s : State) (l : Nat) : State :=
  match s.keeper l with
  | some k =>
    if (s.slink l).quiet.contains k then (s.sf LANE_CTRL_TX_PWR k 0).sendControl l (.seamPower l 1 (s.laneIndex l k)) else s
  | none => s

/-- A link takes up lanes that have reached UP and goes on without those that have left it (R354, R359, R362, R382). -/
def State.refreshLink (s : State) (l : Nat) : State :=
  if !s.bit SEAM_LINK_CTRL_ENABLE l then s else
  let old := s.rf SEAM_LINK_STATE_LANES_UP l
  let new := s.linkLanesUp l
  let st := s.rf SEAM_LINK_STATE_STATE l
  let s := s.sf SEAM_LINK_STATE_LANES_UP l new
  let s :=
    if new = 0 then (if st = linkFailed then s else s.sf SEAM_LINK_STATE_STATE l linkLanes)
    else if st = linkFailed then (s.sf SEAM_LINK_STATE_STATE l linkUp).linkEvent l 0x01
    else if st = linkLanes then s.sf SEAM_LINK_STATE_STATE l linkIdent
    else s
  let x := s.slink l
  let s := (s.setLink l { x with quiet := x.quiet.filter (fun n => natBit new (n - 48)) }).wakeKeeper l
  if old &&& new = old then s else s.linkEvent l 0x06

/-- A lane has come up or gone down: its port or its link follows. -/
def State.laneChanged (s : State) (n : Nat) (down : Nat := 0x01) : State :=
  match s.portOf n with
  | some p => s.refreshPort p down
  | none =>
    match s.linkOf n with
    | some l => s.refreshLink l
    | none => s

/-! ## Moving between states -/

/-- Requests that waited for CAL, ADAPT or TRAINING to end take effect (R318). -/
def State.applyDeferred (s : State) (n : Nat) : State :=
  let busy := decide (laneCal ≤ s.laneState n) && decide (s.laneState n ≤ laneTraining)
  if busy then s else
  let x := s.lane n
  let tx := s.rf LANE_CTRL_TX_PWR n
  let rx := s.rf LANE_CTRL_RX_PWR n
  let s := if tx ≠ 0 ∧ s.rf LANE_STATE_TX_PWR_NOW n ≠ tx then
      (s.sf LANE_STATE_TX_PWR_NOW n tx).setLane n { x with txTick := s.tb.count } else s
  if rx ≠ 0 ∧ s.rf LANE_STATE_RX_PWR_NOW n ≠ rx then
    (s.sf LANE_STATE_RX_PWR_NOW n rx).setLane n { s.lane n with rxTick := s.tb.count } else s

/-- Lane n enters a state. -/
def State.enterLane (s : State) (n st : Nat) (down : Nat := 0x01) : State :=
  let s := (s.sf LANE_STATE_STATE n st).setLane n { s.lane n with
    since := s.tb.count, search := if st = laneUp then (s.lane n).search.keep else (s.lane n).search.restart }
  let s := s.sf LANE_STATE_ALIGNED n (if st = laneUp then 1 else 0)
  (s.laneChanged n down).applyDeferred n

/-- Lane n is disabled (R306). -/
def State.disableLane (s : State) (n : Nat) : State :=
  ((s.sf LANE_CTRL_ENABLE n 0).sf LANE_STATE_LOS n 0).enterLane n laneDisabled

/-! ## Retirement (R319, R320) -/

/-- Lane n is retired, for a cause of R593: by default the limit of R320. -/
def State.retireLane (s : State) (n : Nat) (cause : Nat := 4) : State :=
  if s.die.variant.lanePresent n && !s.bit LANE_STATE_RETIRED n then
    let s := ((s.sf LANE_STATE_TX_PWR_NOW n 2).sf LANE_STATE_RX_PWR_NOW n 2).sf LANE_STATE_LOS n 0
    let s := if n < 48 then (s.advanceEpoch (0x820 + n)).sf QM_EPOCH_RETIRED (0x820 + n) 1 else s
    let s := (((s.sf LANE_STATE_RETIRED n 1).sf LANE_CTRL_ENABLE n 0).enterLane n laneDisabled 0x06).cpriLost n
    let s := s.laneEvent n 0x05
    let s := s.recordRetirement 4 cause n (if n < 48 then s.rf QM_EPOCH_EPOCH (0x820 + n) else 0) false 0xFFFF
    if n < 64 then s.so oLANES_RETIRED_LO 0 (s.ob oLANES_RETIRED_LO ||| 2 ^ n)
    else s.so oLANES_RETIRED_HI 0 (s.ob oLANES_RETIRED_HI ||| 2 ^ (n - 64))
  else s

/-- A training failure or an alignment loss counts toward automatic retirement (R320). -/
def State.laneFailure (s : State) (n : Nat) : State :=
  let x := s.lane n
  let l := (s.tb.count :: x.failures).filter (fun t => decide (s.tb.count < t + 3600 * ticksPerSecond))
  let s := s.setLane n { x with failures := l }
  if s.ob oLANES_AUTO_RETIRE == 1 && decide (s.ob oLANES_RETRAIN_LIMIT ≤ l.length) then s.retireLane n else s

/-- LANE_RETIRE: the health monitor or Thimble firmware retires a lane. -/
def execLaneRetire (lane : Nat) (s : State) : Host.Outcome State Fault Refusal := .next (s.retireLane lane)

/-- LANES_RETIRE_COMMAND: a write of LANES.RETIRE; 0xFF has no effect. -/
def execLanesRetireCommand (value : Nat) (s : State) : Host.Outcome State Fault Refusal :=
  .next (if value < 66 then s.retireLane value 3 else s)

/-! ## The transmitter equalizer (R307) -/

/-- The taps c(−3), c(−2), c(−1), c(1) are within their limits. -/
def tapsOk (m3 m2 m1 p1 : Int) : Bool :=
  decide (-6 ≤ m3) && decide (m3 ≤ 6) && decide (-8 ≤ m2) && decide (m2 ≤ 12) && decide (-24 ≤ m1) && decide (m1 ≤ 0)
    && decide (-16 ≤ p1) && decide (p1 ≤ 0) && decide (m3.natAbs + m2.natAbs + m1.natAbs + p1.natAbs ≤ 40)

/-- The taps of lane n. -/
def State.txTaps (s : State) (n : Nat) : List Int :=
  [toSigned 7 (s.rf LANE_TXEQ_C_M3 n), toSigned 7 (s.rf LANE_TXEQ_C_M2 n), toSigned 7 (s.rf LANE_TXEQ_C_M1 n),
   toSigned 7 (s.rf LANE_TXEQ_C_P1 n)]

/-- The state with the taps of lane n set. -/
def State.setTaps (s : State) (n : Nat) (l : List Int) : State :=
  let f := fun i => ofSigned 7 (l.getD i 0)
  (((s.sf LANE_TXEQ_C_M3 n (f 0)).sf LANE_TXEQ_C_M2 n (f 1)).sf LANE_TXEQ_C_M1 n (f 2)).sf LANE_TXEQ_C_P1 n (f 3)

/-- The presets P1 to P4. -/
def lanePreset (i : Nat) : List Int :=
  [[0, 0, 0, 0], [0, 0, -8, -4], [0, 2, -12, -6], [-2, 4, -16, -6]].getD (i - 1) []

/-- The taps of a list are within their limits. -/
def tapListOk (l : List Int) : Bool := tapsOk (l.getD 0 0) (l.getD 1 0) (l.getD 2 0) (l.getD 3 0)

/-- Requester u may write the registers of lane n (R321). -/
def State.mayWriteLane (s : State) (u n : Nat) : Bool :=
  isThimble u || isPf0 u || (s.cpriLane n && s.isOwnerHost u (s.laneOwner n))

/-- A write of LANE_TXEQ. -/
def State.writeTxeq (s : State) (u n v : Nat) : State :=
  if !s.mayWriteLane u n || !s.die.variant.lanePresent n then s else
  let f := fun lo => toSigned 7 (v / 2 ^ lo % 128)
  if tapsOk (f 21) (f 14) (f 7) (f 0) then s.setTaps n [f 21, f 14, f 7, f 0] else s.laneEvent n 0x04

/-! ## Direction power (R317, R318) -/

/-- One direction's power request. A request for ACTIVE that comes before the driver has idled, or the receiver frozen,
leaves the direction ACTIVE; entry takes 100 ns, about 12 ticks. -/
def State.requestPower (s : State) (n : Nat) (tx : Bool) (level : Nat) (frozen : Bool) : State :=
  let (ctrl, now) := if tx then (LANE_CTRL_TX_PWR, LANE_STATE_TX_PWR_NOW) else (LANE_CTRL_RX_PWR, LANE_STATE_RX_PWR_NOW)
  let s := s.sf ctrl n level
  let entered := if tx then (s.lane n).txTick else (s.lane n).rxTick
  if level % 4 ≠ 0 then s.applyDeferred n
  else if s.rf now n = 0 then s
  else if !frozen && decide (s.tb.count ≤ entered + 12) then s.sf now n 0
  else if s.rf now n = 2 ∧ s.bit LANE_CTRL_ENABLE n = true then s.enterLane n laneCal
  else s

/-- The receiver of a lane of an active Seam link is ACTIVE: POWER wake done goes to the far end (R362). -/
def State.answerWake (s : State) (n : Nat) : State :=
  match s.linkOf n with
  | some l => if s.seamActive n then s.sendControl l (.seamPower l 2 (s.laneIndex l n)) else s
  | none => s

/-- LANE_POWER_WAKE_DONE: a direction that wakes reaches ACTIVE; from DOWN once the lane has adapted and trained again. -/
def execLanePowerWakeDone (lane : Nat) (transmit : Bool) (s : State) : Host.Outcome State Fault Refusal :=
  let (ctrl, now) := if transmit then (LANE_CTRL_TX_PWR, LANE_STATE_TX_PWR_NOW)
    else (LANE_CTRL_RX_PWR, LANE_STATE_RX_PWR_NOW)
  .next (if s.rf ctrl lane = 0 ∧ s.rf now lane ≠ 0
      ∧ (s.rf now lane = 1 ∨ s.laneState lane ∈ [laneAligning, laneUp, laneTest]) then
    (let s := s.sf now lane 0
     if transmit then s else s.answerWake lane)
  else s)

/-! ## LANE_CTRL (R322) -/

/-- An enable of lane n may be granted. -/
def State.laneEnableOk (s : State) (n : Nat) : Bool :=
  s.laneUsable n && s.lanePllOn n && s.rateAllowed n (s.laneRate n)
    && (!s.bit LANE_CTRL_TRAIN_EN n || s.laneRate n == 6) && decide (s.rf LANE_CTRL_MODE n ≤ 1)
    && !(s.rf LANE_CTRL_MODE n == 1 && ((s.portOf n).isSome || s.seamActive n
      || (s.bit CPRI_CFG_ENABLE n && s.cpriLane n && (match s.laneOwner n with
          | some p => s.pstate p == 3
          | none => false))))

/-- A write of LANE_CTRL. `frozen` says of a request for ACTIVE whether it came too late to stop an entry (R318). -/
def State.writeLaneCtrl (s : State) (u n v : Nat) (frozen : Bool) : State :=
  if !s.mayWriteLane u n || !s.die.variant.lanePresent n then s else
  let tx := v / 2 ^ 20 % 4
  let rx := v / 2 ^ 18 % 4
  let power := fun (s : State) =>
    if s.seamActive n then s else
    let s := if tx = s.rf LANE_CTRL_TX_PWR n then s else s.requestPower n true tx frozen
    if rx = s.rf LANE_CTRL_RX_PWR n then s else s.requestPower n false rx frozen
  if s.bit LANE_CTRL_ENABLE n then
    if !natBit v 31 then power (s.disableLane n)
    else
      let s := power s
      if natBit v 17 then (s.sf LANE_STATE_LOS n 0).enterLane n laneAdapt else s
  else
    let s := ((s.sf LANE_CTRL_PLL_SEL n (v / 2 ^ 30)).sf LANE_CTRL_MODE n (v / 2 ^ 28)).sf LANE_CTRL_LOOP n (v / 2 ^ 26)
    let s := ((s.sf LANE_CTRL_TRAIN_EN n (v / 2 ^ 25)).sf LANE_CTRL_POL_TX n (v / 2 ^ 24)).sf LANE_CTRL_POL_RX n (v / 2 ^ 23)
    let s := power (s.sf LANE_CTRL_PRECODE n (v / 2 ^ 22))
    if !natBit v 31 then s
    else if s.laneEnableOk n then (s.sf LANE_CTRL_ENABLE n 1).enterLane n laneCal
    else s.laneEvent n 0x04

/-- A lane that leaves its partition is reset and put into its lowest power (R17). -/
def State.laneOff (s : State) (n : Nat) : State :=
  let s := (s.cpriLost n).sf CPRI_CFG_ENABLE n 0
  let s := if s.bit LANE_CTRL_ENABLE n then s.disableLane n else s
  let s := (s.sf LANE_CTRL_TX_PWR n 2).sf LANE_CTRL_RX_PWR n 2
  (s.sf LANE_STATE_TX_PWR_NOW n 2).sf LANE_STATE_RX_PWR_NOW n 2

/-- LANE_ENABLE: a write of LANE_CTRL with ENABLE 1. -/
def execLaneEnable (requester lane : Nat) (control : Half) (s : State) : Host.Outcome State Fault Refusal :=
  .next (s.atIsland requester (laneIsland lane) (fun s => s.writeLaneCtrl requester lane (control ||| 0x80000000).toNat true))
/-- LANE_DISABLE: a write of LANE_CTRL with ENABLE 0. -/
def execLaneDisable (requester lane : Nat) (control : Half) (s : State) : Host.Outcome State Fault Refusal :=
  .next (s.atIsland requester (laneIsland lane) (fun s => s.writeLaneCtrl requester lane (control &&& 0x7FFFFFFF).toNat true))
/-- LANE_RETRAIN: a write of LANE_CTRL with RETRAIN 1. -/
def execLaneRetrain (requester lane : Nat) (control : Half) (s : State) : Host.Outcome State Fault Refusal :=
  .next (s.atIsland requester (laneIsland lane) (fun s => s.writeLaneCtrl requester lane (control ||| 0x20000).toNat true))
/-- LANE_POWER_REQUEST: a write of LANE_CTRL that asks for direction power states. -/
def execLanePowerRequest (requester lane : Nat) (control : Half) (frozen : Bool) (s : State) :
    Host.Outcome State Fault Refusal :=
  .next (s.atIsland requester (laneIsland lane) (fun s => s.writeLaneCtrl requester lane control.toNat frozen))

/-! ## What happens on a lane -/

/-- A lane in a state does something. -/
def State.inLane (s : State) (n st : Nat) (f : State → State) : State :=
  if s.bit LANE_CTRL_ENABLE n && s.laneState n == st then f s else s

/-- LANE_CAL_DONE: calibration is done. The PLL of the lane has a clock, so it is locked. -/
def execLaneCalDone (lane : Nat) (s : State) : Host.Outcome State Fault Refusal :=
  .next (s.inLane lane laneCal (fun s =>
    let pll := if s.bit LANE_CTRL_PLL_SEL lane then LQ_PLL_B_LOCKED else LQ_PLL_A_LOCKED
    (s.sf pll (lane / 4) 1).enterLane lane laneAdapt))

/-- A lane sends training frames with its fields, from a free place in PRBS13Q on (R308, R309). -/
def State.sendTraining (s : State) (n : Nat) (last : Bool) : State :=
  let x := s.lane n
  let status := x.ack * 2 ^ 13 + x.tap * 2 ^ 10 + x.result * 2 ^ 8
  s.fresh.send (.training n last (trainingSymbols x.control status ((Config.prbsSeed s.free).extractLsb' 0 13)))

/-- The generator of a lane that has entered TEST, or whose LANE_TEST is written there, starts; in the far-end loop it is off
(R316). -/
def State.startGenerator (s : State) (n : Nat) : State :=
  if s.laneState n = laneTest ∧ s.bit LANE_TEST_GEN_EN n = true ∧ s.rf LANE_CTRL_LOOP n ≠ 3 ∧ s.rf LANE_TEST_GEN_PAT n ≤ 10 then
    let user := BitVec.ofNat 64 (s.rf LANE_USERPAT_PATTERN n)
    let start := patternStart (s.rf LANE_TEST_GEN_PAT n) user (Config.prbsSeed s.free)
    let s := s.fresh.setLane n { s.lane n with gen := start }
    if s.rf LANE_CTRL_LOOP n = 0 then
      s.send (.laneTest n (lineLevels (s.lanePam4 n) (s.bit LANE_CTRL_PRECODE n) (s.bit LANE_CTRL_POL_TX n)
        (patternBits (s.rf LANE_TEST_GEN_PAT n) user 64 start).1))
    else s
  else s.setLane n { s.lane n with gen := [] }

/-- LANE_ADAPT_DONE: adaptation is done, with the eye opening measured. Training starts at preset P1 (R308). -/
def execLaneAdaptDone (lane eye : Nat) (s : State) : Host.Outcome State Fault Refusal :=
  .next (s.inLane lane laneAdapt (fun s =>
    let s := s.sf LANE_EYE_EYE_MV lane eye
    if s.rf LANE_CTRL_MODE lane = 1 then
      ((s.setLane lane { s.lane lane with loopWords := 32, inject := false }).enterLane lane laneTest).startGenerator lane
    else if s.bit LANE_CTRL_TRAIN_EN lane then
      (((s.setTaps lane (lanePreset 1)).setLane lane
        { s.lane lane with ack := 0, tap := 0, result := 0, farReady := false, control := 0, readySent := 0, heard := 0,
                           heardFor := 0 }).enterLane lane laneTraining).sendTraining lane false
    else s.enterLane lane laneAligning))

/-- The answer of a training request: PRESET_ACK, TAP and RESULT, and the taps it leaves (R310). -/
def trainingAnswer (taps : List Int) (preset tap cmd : Nat) : Nat × Nat × List Int :=
  if 5 ≤ preset ∨ 4 ≤ tap ∨ cmd = 3 ∨ (preset ≠ 0 ∧ cmd ≠ 0) then (0, 3, taps)
  else if preset ≠ 0 then (preset, 1, lanePreset preset)
  else
    let new := taps.set tap (taps.getD tap 0 + (if cmd = 1 then 1 else -1))
    if tapListOk new then (0, 1, new) else (0, 2, taps)

/-- A control value is accepted (R310 steps 2 and 4). -/
def State.acceptControl (s : State) (lane c : Nat) : State :=
  let preset := c / 2 ^ 13
  let tap := c / 2 ^ 10 % 8
  let cmd := c / 2 ^ 8 % 4
  let x := { s.lane lane with farReady := natBit c 0 }
  if preset = 0 ∧ cmd = 0 then
    if x.result = 0 then s.setLane lane x
    else (s.setLane lane { x with ack := 0, tap := 0, result := 0 }).sendTraining lane false
  else if x.result ≠ 0 then s.setLane lane x
  else
    let (ack, result, taps) := trainingAnswer (s.txTaps lane) preset tap cmd
    ((s.setTaps lane taps).setLane lane { x with ack := ack, tap := tap, result := result }).sendTraining lane false

/-- The requester's side (R310 step 3): a request is held until a RESULT comes, and then hold is sent; while RESULT is 0 the
receiver asks for what it chooses, which is free, and at the end for nothing more. -/
def State.stepRequest (s : State) (lane status : Nat) : State :=
  let x := s.lane lane
  let result := status / 2 ^ 8 % 4
  if laneAsks x.control then
    (if result = 0 then s else (s.setLane lane { x with control := laneHold x.control }).sendTraining lane false)
  else if result ≠ 0 ∨ x.control = 1 then s
  else
    let c := laneRequest (Config.laneRequest s.free)
    let s := s.fresh
    if c = x.control then s else (s.setLane lane { x with control := c }).sendTraining lane false

/-- One training frame has come, and one has gone out; a control value that has come in three frames in a row is accepted. -/
def State.trainFrame (s : State) (lane : Nat) (f : BitVec 16 × BitVec 16) : State :=
  let x := s.lane lane
  let c := f.1.toNat
  let n := if c = x.heard then x.heardFor + 1 else 1
  let s := s.setLane lane { x with heard := c, heardFor := n, readySent := x.readySent + x.control % 2 }
  let s := if n = 3 then s.acceptControl lane c else s
  s.stepRequest lane f.2.toNat

/-- TRAINING_REQUEST_ACCEPT: training frames arrive, each a control and a status field, and the control values that come three
times in a row are accepted (R310). -/
def execTrainingRequestAccept (lane : Nat) (frames : List (BitVec 16 × BitVec 16)) (s : State) :
    Host.Outcome State Fault Refusal :=
  .next (s.inLane lane laneTraining (fun s => frames.foldl (fun s f => s.trainFrame lane f) s))

/-- LANE_TRAINING_DONE: the marker stops arriving. This end has sent RX_READY in three frames and has accepted it from the far
end; it sends its last 16 frames (R311). -/
def execLaneTrainingDone (lane : Nat) (s : State) : Host.Outcome State Fault Refusal :=
  .next (s.inLane lane laneTraining (fun s =>
    if (s.lane lane).farReady && decide (3 ≤ (s.lane lane).readySent) then
      (s.sendTraining lane true).enterLane lane laneAligning
    else s))

/-- LANE_TRAIN_TIMEOUT (R311). -/
def execLaneTrainTimeout (lane : Nat) (s : State) : Host.Outcome State Fault Refusal :=
  .next (s.inLane lane laneTraining (fun s =>
    if (s.lane lane).since + s.ob oLANES_TRAIN_TIMEOUT_MS * 122880 < s.tb.count then
      (((s.enterLane lane laneFailed).incf LANE_TRAIN_FAILS_COUNT lane).laneEvent lane 0x03).laneFailure lane
    else s))

/-- LANE_FAILED_RETRY: one second after FAILED (R306). -/
def execLaneFailedRetry (lane : Nat) (s : State) : Host.Outcome State Fault Refusal :=
  .next (s.inLane lane laneFailed (fun s =>
    if (s.lane lane).since + ticksPerSecond ≤ s.tb.count then s.enterLane lane laneAdapt else s))

/-- LANE_ALIGNED: what a lane in ALIGNING receives goes through its search; where that finds alignment the lane is UP (R312 to
R314). -/
def execLaneAligned (received : LaneInput) (s : State) : Host.Outcome State Fault Refusal :=
  .next (
    let lane := received.lane
    s.inLane lane laneAligning (fun s =>
    if !s.laneHears lane || !inputFits (s.laneRate lane) received.input then s else
    let s := s.setLane lane { s.lane lane with search := (s.lane lane).search.seek received.input }
    if (s.lane lane).search.aligned then s.enterLane lane laneUp else s))

/-- LANE_ALIGN_LOST: what a lane that is UP receives; where it shows that alignment is lost the lane returns to ALIGNING
(R314). -/
def execLaneAlignLost (received : LaneInput) (s : State) : Host.Outcome State Fault Refusal :=
  .next (
    let lane := received.lane
    s.inLane lane laneUp (fun s =>
    if !s.laneHears lane || !inputFits (s.laneRate lane) received.input then s else
    let s := s.setLane lane { s.lane lane with search := (s.lane lane).search.watch received.input }
    if (s.lane lane).search.lost then
      (((s.enterLane lane laneAligning).incf LANE_ALIGN_LOSS_COUNT lane).laneEvent lane 0x02).laneFailure lane
    else s))

/-- The receiver is armed for loss of signal. -/
def State.losArmed (s : State) (n : Nat) : Bool :=
  s.bit LANE_CTRL_ENABLE n && s.rf LANE_STATE_RX_PWR_NOW n == 0 && !s.bit LANE_STATE_LOS n
    && [laneAdapt, laneTraining, laneAligning, laneUp, laneTest].contains (s.laneState n)

/-- LANE_LOS (R306). -/
def execLaneLos (lane : Nat) (s : State) : Host.Outcome State Fault Refusal :=
  .next (if s.losArmed lane then (s.sf LANE_STATE_LOS lane 1).laneEvent lane 0x01 else s)

/-- LANE_SIGNAL_RETURN (R306). -/
def execLaneSignalReturn (lane : Nat) (s : State) : Host.Outcome State Fault Refusal :=
  .next (if s.bit LANE_CTRL_ENABLE lane && s.bit LANE_STATE_LOS lane then
    (s.sf LANE_STATE_LOS lane 0).enterLane lane laneAdapt else s)

/-- LOOPBACK_SLIP: in a far-end loop the receiver has got words of 64 bits ahead of the transmitter, or behind it; each word
that the buffer of 64 words cannot hold, or has not, is dropped or repeated, and is a slip (R315). -/
def execLoopbackSlip (drift : LoopDrift) (s : State) : Host.Outcome State Fault Refusal :=
  .next (
    let lane := drift.lane
    s.inLane lane laneTest (fun s =>
    if s.rf LANE_CTRL_LOOP lane ≠ 3 then s else
    let n : Int := (s.lane lane).loopWords + drift.words
    let s := s.setLane lane { s.lane lane with loopWords := (max 0 (min n 64)).toNat }
    if n < 0 ∨ 64 < n then s.laneEvent lane 0x06 else s))

/-- The bits that a lane's receiver hands to its checker: what arrives, or in the near-end loops what the lane's own generator
sends, with the bits that the analog path inverts in the serial loop (R315). -/
def State.receivedBits (s : State) (n : Nat) (arriving : List Bool) (looped : Nat) (inverted : List Bool) : List Bool × State :=
  let x := s.lane n
  let loop := s.rf LANE_CTRL_LOOP n
  if s.laneState n = laneTest ∧ (loop = 1 ∨ loop = 2) ∧ x.gen ≠ [] then
    let r := patternBits (s.rf LANE_TEST_GEN_PAT n) (BitVec.ofNat 64 (s.rf LANE_USERPAT_PATTERN n)) looped x.gen
    let sent := if x.inject then (match r.1 with
      | b :: l => (!b) :: l
      | [] => []) else r.1
    (if loop = 1 then sent.zipIdx.map (fun b => bne b.1 (inverted.getD b.2 false)) else sent,
     s.setLane n { x with gen := r.2, inject := x.inject && looped == 0 })
  else (arriving, s)

/-- CHECKER_LOCK: bits go through a lane's checker, which locks, counts and loses lock (R316). -/
def execCheckerLock (lane : Nat) (arriving : List Bool) (looped : Nat) (inverted : List Bool) (s : State) :
    Host.Outcome State Fault Refusal :=
  .next (if s.bit LANE_CTRL_ENABLE lane && s.bit LANE_TEST_CHK_EN lane && decide (s.rf LANE_TEST_CHK_PAT lane ≤ 10) then
    let (l, s) := s.receivedBits lane arriving looped inverted
    let r := checkBits (s.rf LANE_TEST_CHK_PAT lane) (BitVec.ofNat 64 (s.rf LANE_USERPAT_PATTERN lane))
      (s.bit LANE_TEST_CHK_LOCK lane) (s.lane lane).check l
    let s := (s.incf LANE_BITS_COUNT lane r.bits).incf LANE_ERRS_COUNT lane r.errors
    (s.setLane lane { s.lane lane with check := r.check }).sf LANE_TEST_CHK_LOCK lane r.locked.toNat
  else s)

/-- A write of LANE_TEST: INJECT inverts one transmitted bit; a checker that is off is not locked. -/
def State.writeLaneTest (s : State) (u n v : Nat) : State :=
  if !s.mayWriteLane u n || !s.die.variant.lanePresent n then s else
  let same := s.rf LANE_TEST_GEN_PAT n == v / 2 ^ 28 % 16 && s.bit LANE_TEST_GEN_EN n == natBit v 23
  let chk := s.rf LANE_TEST_CHK_PAT n == v / 2 ^ 24 % 16 && natBit v 22
  let s := ((s.sf LANE_TEST_GEN_PAT n (v / 2 ^ 28)).sf LANE_TEST_CHK_PAT n (v / 2 ^ 24)).sf LANE_TEST_GEN_EN n (v / 2 ^ 23)
  let s := s.sf LANE_TEST_CHK_EN n (v / 2 ^ 22)
  let s := if same then s else s.startGenerator n
  let s := if chk then s else (s.sf LANE_TEST_CHK_LOCK n 0).setLane n { s.lane n with check := LaneCheck.idle }
  if !natBit v 20 then s
  else if s.laneState n = laneTest ∧ (s.rf LANE_CTRL_LOOP n = 1 ∨ s.rf LANE_CTRL_LOOP n = 2) then
    s.setLane n { s.lane n with inject := true }
  else s.send (.laneInvert n)

/-- LANE_INJECT: a write of LANE_TEST with INJECT 1. -/
def execLaneInject (requester lane : Nat) (value : Half) (s : State) : Host.Outcome State Fault Refusal :=
  .next (s.atIsland requester (laneIsland lane) (fun s => s.writeLaneTest requester lane (value ||| 0x100000).toNat))

/-! ## PLLs (R321) -/

/-- The fields of a quad's PLL A or B. -/
structure PllFields where
  enable : Fld
  locked : Fld
  rate : Fld
  spread : Fld

/-- PLL B where `b`. -/
def pllFields (b : Bool) : PllFields :=
  if b then ⟨LQ_PLL_B_ENABLE, LQ_PLL_B_LOCKED, LQ_PLL_B_RATE, LQ_PLL_B_SPREAD_PPM⟩
  else ⟨LQ_PLL_A_ENABLE, LQ_PLL_A_LOCKED, LQ_PLL_A_RATE, LQ_PLL_A_SPREAD_PPM⟩

/-- A write of a PLL register. -/
def State.writePll (s : State) (u k : Nat) (b : Bool) (v : Nat) : State :=
  let f := pllFields b
  let may := isThimble u || isPf0 u || (quadLanes k).any (fun n => s.mayWriteLane u n)
  if !may || !(quadLanes k).any s.die.variant.lanePresent then s
  else if s.bit f.enable k then
    if natBit v 31 then s else (s.sf f.enable k 0).sf f.locked k 0
  else
    let s := (s.sf f.rate k (v / 2 ^ 16)).sf f.spread k v
    if !natBit v 31 then s
    else if (quadLanes k).any (fun n => s.rateAllowed n (s.rf f.rate k)) && decide (s.rf f.spread k ≤ 5000)
        && (s.rf f.spread k == 0 || (decide (12 ≤ k) && decide (k ≤ 15))) then
      (s.sf f.enable k 1).sf f.locked k 1
    else (quadLanes k).foldl (fun s n => s.laneEvent n 0x04) s

/-- PLL_ENABLE: a write of a PLL register with ENABLE 1. -/
def execPllEnable (requester quad : Nat) (pllB : Bool) (value : Half) (s : State) : Host.Outcome State Fault Refusal :=
  .next (s.atIsland requester (laneIsland (4 * quad)) (fun s => s.writePll requester quad pllB (value ||| 0x80000000).toNat))

/-- PLL_LOCK_LOST: each enabled lane that uses the PLL enters CAL. -/
def execPllLockLost (quad : Nat) (pllB : Bool) (s : State) : Host.Outcome State Fault Refusal :=
  let f := pllFields pllB
  .next (if s.bit f.enable quad && s.bit f.locked quad then
    (quadLanes quad).foldl (fun s n =>
      if s.bit LANE_CTRL_ENABLE n && s.bit LANE_CTRL_PLL_SEL n == pllB then (s.laneEvent n 0x07).enterLane n laneCal else s)
      (s.sf f.locked quad 0)
  else s)

end Sys2Proof.Machine
end

