-- ==== Sys2Proof/Machine/Fronthaul.lean ====
section
/-!
DEFINITION. Fronthaul ports: enabling (R324, R326), Ethernet frames and eCPRI (R325, R327, R328), compression (R331 to R334), the
stream table (R335 to R337), uplink symbols (R338 to R341), downlink symbols (R342) and quarantine (R343).
-/

namespace Sys2Proof.Machine

open Reg Ob

/-- The unit ID of a port (R348). -/
def portUnit (p : Nat) : Nat := 0x820 + p

/-- The fronthaul island's time (R64). -/
def State.fhTick (s : State) : Nat := s.replica 72

/-- The state with the fronthaul block replaced. -/
def State.setFh (s : State) (f : Fronthaul) : State := { s with fh := f }

/-- A reason of a port raised at most once per 1 ms: 0x04 where `refused` is false, else 0x05. -/
def State.portReasonMs (s : State) (p : Nat) (refused : Bool) : State :=
  let k := p * 2 + refused.toNat
  let due := match Tab.get none s.fh.ticks k with
    | none => true
    | some t => decide (t + 122880 ≤ s.fhTick)
  if due then
    (s.setFh { s.fh with ticks := s.fh.ticks.set k (some s.fhTick) }).portEvent p (if refused then 0x05 else 0x04)
  else s

/-! ## Ports (R324, R326, R348) -/

/-- The rate code of a port's lanes, none where R324 has no such port. -/
def portRate (speed width : Nat) (fec : Bool) : Option Nat :=
  match speed, width with
  | 0, 1 => some 3
  | 1, 1 => if fec then some 4 else none
  | 2, 4 => some 3
  | 2, 2 => if fec then some 4 else none
  | 2, 1 => if fec then some 5 else none
  | 3, 4 => if fec then some 4 else none
  | 3, 2 => if fec then some 5 else none
  | 4, 4 => if fec then some 5 else none
  | _, _ => none

/-- A port may be enabled (R326). -/
def State.portValid (s : State) (p : Nat) : Bool :=
  let n := s.portWidth p
  match portRate (s.rf FH_PORT_CTRL_SPEED p) n (s.bit FH_PORT_CTRL_FEC p) with
  | none => false
  | some rate => decide (n ≤ 4) && p % n == 0 && (s.portLanes p).all (fun l =>
      s.laneUsable l && s.bit LANE_CTRL_ENABLE l && s.laneRate l == rate && (s.laneOwner l).isNone
        && (s.portOf l).isNone)

/-- A write of FH_PORT_CTRL. -/
def State.writePortCtrl (s : State) (u p v : Nat) : State :=
  if !(isThimble u || isPf0 u) || decide (48 ≤ p) || !s.die.variant.lanePresent p then s
  else if s.bit FH_PORT_CTRL_ENABLE p then
    if natBit v 31 then s else (s.sf FH_PORT_CTRL_ENABLE p 0).refreshPort p 0x01
  else
    let s := ((s.sf FH_PORT_CTRL_SPEED p (v / 2 ^ 28)).sf FH_PORT_CTRL_LANES p (v / 2 ^ 26)).sf FH_PORT_CTRL_FEC p
      (v / 2 ^ 25)
    let mtu := v / 2 ^ 11 % 2 ^ 14
    let s := if 1500 ≤ mtu ∧ mtu ≤ 9194 then s.sf FH_PORT_CTRL_MTU p mtu else s
    if !natBit v 31 then s
    else if s.portValid p then (s.sf FH_PORT_CTRL_ENABLE p 1).refreshPort p 0x01
    else s.portEvent p 0x03

/-- FH_PORT_ENABLE: a write of FH_PORT_CTRL with ENABLE 1. -/
def execFhPortEnable (requester port : Nat) (control : Half) (s : State) : Host.Outcome State Fault Refusal :=
  .next (s.atIsland requester 72 (fun s => s.writePortCtrl requester port (control ||| 0x80000000).toNat))

/-- PCS_REMOTE_FAULT: the PCS reports local and remote fault (R326). -/
def execPcsRemoteFault (port : Nat) (localFault remoteFault : Bool) (s : State) : Host.Outcome State Fault Refusal :=
  .next (if s.bit FH_PORT_CTRL_ENABLE port then
    ((s.sf FH_PORT_STATE_LOCAL_FAULT port localFault.toNat).sf FH_PORT_STATE_REMOTE_FAULT port remoteFault.toNat).refreshPort
      port 0x01
  else s)

/-! ## Network order -/

/-- n bytes of a list from an offset, most significant first (R328). -/
def beAt (l : List Byte) (off n : Nat) : Nat := bytesVal (sliceBytes l off n).reverse

/-- A number as n bytes, most significant first. -/
def beBytes (n v : Nat) : List Byte := (valBytes n v).reverse

/-- Field i of w bits of a packed string, most significant bit first. -/
def packedAt (l : List Byte) (w i : Nat) : Nat := bitsNat ((List.range w).map (fun k =>
  (l.getD ((w * i + k) / 8) 0).getLsbD (7 - (w * i + k) % 8)))

/-- Fields of w bits as a packed string. -/
def packFields (w : Nat) (l : List Nat) : List Byte :=
  let bits := l.flatMap (natBits w)
  (List.range ((bits.length + 7) / 8)).map (fun i => BitVec.ofNat 8 (bitsNat ((List.range 8).map (fun k =>
    bits.getD (8 * i + k) false))))

/-- The frame check sequence of a frame, as it is sent (IEEE 802.3). -/
def ethernetFcs (l : List Byte) : List Byte :=
  let bits := l.flatMap (fun b => (List.range 8).map (fun i => b.getLsbD i))
  let r := crcBits 32 0x04C11DB7 0xFFFFFFFF bits
  valBytes 4 (bitsNat ((natBits 32 (r ^^^ 0xFFFFFFFF)).reverse))

/-- A received frame: addresses, VLAN ID, EtherType, and what follows it without the FCS. -/
structure EthFrame where
  dst : Nat
  src : Nat
  vlan : Nat
  ethertype : Nat
  body : List Byte

/-- The EtherTypes of VLAN tags: a frame with a second tag matches no row of R327 (R325). -/
def isTag (ethertype : Nat) : Bool := ethertype == 0x8100 || ethertype == 0x88A8

/-- The parts of a frame. -/
def parseFrame (l : List Byte) : EthFrame :=
  let tagged := beAt l 12 2 == 0x8100
  let off := if tagged then 16 else 12
  ⟨beAt l 0 6, beAt l 6 6, if tagged then beAt l 14 2 % 4096 else 0, beAt l off 2, (l.take (l.length - 4)).drop (off + 2)⟩

/-- A frame to be sent, with its FCS, filled to 64 bytes. -/
def buildFrame (dst src vlan pcp ethertype : Nat) (body : List Byte) : List Byte :=
  let tag := if vlan = 0 ∧ pcp = 0 then [] else beBytes 2 0x8100 ++ beBytes 2 (pcp * 2 ^ 13 + vlan)
  let l := fillTo 60 (beBytes 6 dst ++ beBytes 6 src ++ tag ++ beBytes 2 ethertype ++ body)
  l ++ ethernetFcs l

/-- The port sends a frame. -/
def State.sendFrame (s : State) (p : Nat) (frame : List Byte) : State :=
  ((s.incf FH_TX_FRAMES_COUNT p).incf FH_TX_BYTES_COUNT p frame.length).send (.frame p frame)

/-- An eCPRI message: common header and body (R328). -/
def ecpriMessage (typ : Nat) (body : List Byte) : List Byte := [0x10, BitVec.ofNat 8 typ] ++ beBytes 2 body.length ++ body

/-- Send an eCPRI message from a port to a MAC address. -/
def State.sendEcpri (s : State) (p dst vlan pcp typ : Nat) (body : List Byte) : State :=
  s.sendFrame p (buildFrame dst (s.rf FH_PORT_MAC_MAC p) vlan pcp 0xAEFE (ecpriMessage typ body))

/-! ## The stream table (R335) -/

/-- Entry i. -/
def State.st (s : State) (i : Nat) : StEntry := Tab.get StEntry.empty s.fh.table i

/-- The state with entry i replaced. -/
def State.setSt (s : State) (i : Nat) (e : StEntry) : State := s.setFh { s.fh with table := s.fh.table.set i e }

def StEntry.valid (e : StEntry) : Bool := e.w0.testBit 63
def StEntry.dir (e : StEntry) : Nat := bitsOf e.w0 62 62
def StEntry.port (e : StEntry) : Nat := bitsOf e.w0 61 56
def StEntry.vlan (e : StEntry) : Nat := bitsOf e.w0 55 44
def StEntry.eaxc (e : StEntry) : Nat := bitsOf e.w0 43 28
def StEntry.winAct (e : StEntry) : Bool := e.w0.testBit 27
def StEntry.carrier (e : StEntry) : Nat := bitsOf e.w0 23 18
def StEntry.comp (e : StEntry) : Nat := bitsOf e.w0 17 14
def StEntry.iqwField (e : StEntry) : Nat := bitsOf e.w0 13 10
def StEntry.iqw (e : StEntry) : Nat := if e.iqwField = 0 then 16 else e.iqwField
def StEntry.static_ (e : StEntry) : Bool := e.w0.testBit 9
def StEntry.prbStart (e : StEntry) : Nat := bitsOf e.w0 8 0
def StEntry.nprb (e : StEntry) : Nat := bitsOf e.w1 63 55
def StEntry.filter (e : StEntry) : Nat := bitsOf e.w1 54 51
def StEntry.cls (e : StEntry) : Nat := bitsOf e.w1 50 48
def StEntry.grid (e : StEntry) : Nat := bitsOf e.w1 47 6 * 64
def StEntry.buf (e : StEntry) : Nat := bitsOf e.w2 63 40 * 64
def StEntry.nbuf (e : StEntry) : Nat := bitsOf e.w2 39 38 + 1
def StEntry.symStride (e : StEntry) : Nat := bitsOf e.w2 37 20 * 64
def StEntry.sectionId (e : StEntry) : Nat := bitsOf e.w2 19 8
def StEntry.dest (e : StEntry) : Nat := bitsOf e.w2 7 0
def StEntry.queue (e : StEntry) : Nat := bitsOf e.w3 63 48
def StEntry.winEarly (e : StEntry) : Nat := bitsOf e.w3 47 32
def StEntry.winLate (e : StEntry) : Nat := bitsOf e.w3 31 16
def StEntry.mcAmp (e : StEntry) : Nat := bitsOf e.w3 15 0

/-- The key of an entry (R335). -/
def StEntry.key (e : StEntry) : Nat := ((e.dir * 64 + e.port) * 4096 + e.vlan) * 65536 + e.eaxc

/-- The address of PRB n of symbol l in slot s of a frame (R335). -/
def StEntry.prbAddr (e : StEntry) (slot l n : Nat) : Nat := e.grid + slot % e.nbuf * e.buf + l * e.symStride + 48 * n

/-- The valid entry with a key. -/
def State.lookup (s : State) (key : Nat) : Option Nat :=
  (s.fh.table.find? (fun x => x.2.valid && x.2.key == key)).map (fun x => x.1)

/-- The partition that owns entry i (R336). -/
def State.entryOwner (s : State) (i : Nat) : Option Nat :=
  firstPartition (fun p => s.assigned p && decide (s.ob oFH_P_ST_BASE p ≤ i)
    && decide (i < s.ob oFH_P_ST_BASE p + s.ob oFH_P_ST_COUNT p))

/-- The widths that a compression method has (R331). -/
def compOk (comp iqw dir : Nat) : Bool :=
  match comp with
  | 0 => iqw == 0
  | 1 => [0, 8, 9, 10, 12, 14].contains iqw
  | 4 => decide (1 ≤ iqw) && decide (iqw ≤ 4) && dir == 1
  | _ => false

/-- The fields of an entry that partition p writes are in range (R336, R340, R342). -/
def State.entryFieldsOk (s : State) (p : Nat) (e : StEntry) : Bool :=
  let extent := (e.nbuf - 1) * e.buf + 13 * e.symStride + 48 * (e.prbStart + e.nprb)
  bitsOf e.w0 26 24 == 0 && bitsOf e.w1 5 0 == 0 && decide (e.port ≤ 47) && compOk e.comp e.iqwField e.dir
    && decide (e.prbStart ≤ 274) && decide (1 ≤ e.nprb) && decide (e.prbStart + e.nprb ≤ 275)
    && s.carrierOwner e.carrier == some p && (e.dir == 1 || s.inRange p e.queue)
    && (if e.dir = 0 then decide (e.winEarly ≤ e.winLate) else decide (e.winLate < e.winEarly))
    && s.mayAccess p e.grid extent (e.dir == 0)

/-! ## Symbol records (R340, R341) -/

/-- Push the record of an uplink symbol. -/
def State.pushSymbol (s : State) (y : UpSymbol) (filled : Nat) (abandoned : Bool) : State :=
  let e := s.st y.entry
  let flags := y.early.toNat + 2 * y.late.toNat + 4 * y.dup.toNat + 8 * y.sat.toNat + 16 * abandoned.toNat
  s.pushBytes e.queue (portUnit e.port) (valBytes 2 y.entry ++ valBytes 1 y.sym ++ valBytes 1 y.slot ++ valBytes 2 y.sfn
    ++ valBytes 2 y.prbs.length ++ valBytes 2 filled ++ valBytes 6 flags ++ valBytes 8 (y.first % 2 ^ 48)
    ++ valBytes 8 (y.last % 2 ^ 48)) e.cls (y.close % 2 ^ 48)

/-- Close every open symbol of an entry at once, with a record that says ABANDONED (R337). -/
def State.abandonSymbols (s : State) (i : Nat) : State :=
  let open_ := s.fh.ups.filter (fun y => y.entry == i && !y.closed)
  open_.foldl (fun s y => s.pushSymbol y 0 true)
    (s.setFh { s.fh with ups := s.fh.ups.filter (fun y => y.entry != i) })

/-- A partition reset closes the open symbols of the partition's entries without records (R337). -/
def State.resetSymbols (s : State) (p : Nat) : State :=
  s.setFh { s.fh with ups := s.fh.ups.filter (fun y => s.entryOwner y.entry != some p),
                      downs := s.fh.downs.filter (fun d => s.entryOwner d.entry != some p) }

/-- UPLINK_SYMBOL_CLOSE: the first symbol of an entry whose window has ended (R340). While a write of its zeros waits at a
stitch the symbol stays, and takes no message any more. -/
def State.closeSymbol (s : State) (i : Nat) : State :=
  match s.fh.ups.find? (fun y => y.entry == i && decide (y.close ≤ s.fhTick)) with
  | none => s
  | some y =>
    let s := s.setFh { s.fh with ups := s.fh.ups.erase y }
    if y.closed then s else
    let e := s.st i
    let missing := ((List.range e.nprb).map (fun n => e.prbStart + n)).filter (fun n => !y.prbs.contains n)
    match missing.findSome? (fun n => s.accessStops (portUnit e.port) (e.prbAddr y.slot y.sym n) 48) with
    | some x => { s with fh := { s.fh with ups := y :: s.fh.ups } }.stallOn x
    | none =>
      let s := missing.foldl (fun s n => (s.writeBytes (e.prbAddr y.slot y.sym n) (portUnit e.port)
        (List.replicate 48 0)).2) s
      s.pushSymbol y missing.length false

/-- UPLINK_SYMBOL_CLOSE. -/
def execUplinkSymbolClose (entry : Nat) (s : State) : Host.Outcome State Fault Refusal := .next (s.closeSymbol entry)

/-! ## Stream-table commands (R336, R350) -/

/-- The staged words of partition p. -/
def State.stagedEntry (s : State) (p : Nat) : StEntry :=
  ⟨s.rf FH_ST_DATA0_W p, s.rf FH_ST_DATA1_W p, s.rf FH_ST_DATA2_W p, s.rf FH_ST_DATA3_W p⟩

/-- A command ends with a status; a nonzero one raises EV_FH_ST. -/
def State.stDone (s : State) (p status : Nat) : State :=
  let s := s.sf FH_ST_CMD_STATUS p status
  if status = 0 then s else s.raise (0x08B8 + p)

/-- The status of a write of the staged words into entry i. -/
def State.stWriteStatus (s : State) (p i : Nat) : Nat :=
  let e := s.stagedEntry p
  let old := s.st i
  if s.entryOwner i ≠ some p then 1
  else if e.valid && s.fh.table.any (fun x => x.1 != i && x.2.valid && x.2.key == e.key) then 2
  else if !s.entryFieldsOk p e then 3
  else if old.valid && old.key != e.key then 4
  else 0

/-- A write of FH_ST_CMD: a nonzero OP runs a command at once. -/
def State.writeStCmd (s : State) (u p v : Nat) : State :=
  if !s.mayWritePart u p then s else
  let i := v % 2 ^ 15
  let op := v / 2 ^ 15 % 4
  let s := (s.sf FH_ST_CMD_INDEX p i).sf FH_ST_CMD_OP p op
  match op with
  | 1 =>
    let status := s.stWriteStatus p i
    (if status = 0 then s.setSt i (s.stagedEntry p) else s).stDone p status
  | 2 =>
    if s.entryOwner i ≠ some p then s.stDone p 1
    else
      let e := s.st i
      ((((s.sf FH_ST_DATA0_W p e.w0).sf FH_ST_DATA1_W p e.w1).sf FH_ST_DATA2_W p e.w2).sf FH_ST_DATA3_W p e.w3).stDone p 0
  | 3 =>
    if s.entryOwner i ≠ some p then s.stDone p 1
    else
      let s := s.abandonSymbols i
      let e := s.st i
      (s.setSt i { e with w0 := e.w0 % 2 ^ 63 }).stDone p 0
  | _ => s

/-- ST_WRITE: a write of FH_ST_CMD with OP 1. -/
def execStWrite (requester part index : Nat) (s : State) : Host.Outcome State Fault Refusal :=
  .next (s.atIsland requester 72 (fun s => s.writeStCmd requester part (2 ^ 15 + index % 2 ^ 15)))
/-- ST_READ: a write of FH_ST_CMD with OP 2. -/
def execStRead (requester part index : Nat) (s : State) : Host.Outcome State Fault Refusal :=
  .next (s.atIsland requester 72 (fun s => s.writeStCmd requester part (2 * 2 ^ 15 + index % 2 ^ 15)))
/-- ST_INVALIDATE: a write of FH_ST_CMD with OP 3. -/
def execStInvalidate (requester part index : Nat) (s : State) : Host.Outcome State Fault Refusal :=
  .next (s.atIsland requester 72 (fun s => s.writeStCmd requester part (3 * 2 ^ 15 + index % 2 ^ 15)))

/-! ## Quarantine (R343) -/

/-- Bytes that wait in a port's ingress buffer: entries that stall for credit. -/
def State.ingressBytes (s : State) (p : Nat) : Nat :=
  ((s.weft.ports.filter (fun x => x.1 % 4096 == portUnit p)).map (fun x => 64 * x.2.stalled.length)).sum

/-- Quarantine a message. -/
def State.quarantine (s : State) (p reason key : Nat) (frame : List Byte) : State :=
  let s := s.inco oFH_QUAR_FRAMES 0 64
  let s :=
    if s.ob oFH_QUARANTINE_EN = 1 then
      if 262144 < s.ingressBytes p + 64 then s.inco oFH_QUAR_LOST 0 64
      else s.pushBytes (s.ob oFH_QUARANTINE_Q) (portUnit p)
        (valBytes 1 p ++ valBytes 1 reason ++ valBytes 2 frame.length ++ valBytes 4 0 ++ valBytes 8 (s.nowAt 72)
          ++ sliceBytes frame 0 40) 7 ((s.fhTick + 1228800) % 2 ^ 48)
    else s
  let seen := s.fh.keys.any (fun k => k.1 == key && decide (s.fhTick < k.2 + ticksPerSecond))
  let s := s.setFh { s.fh with keys := ((key, s.fhTick) :: s.fh.keys.filter (fun k => k.1 != key)).take 64 }
  if seen then s else s.raise 0x08B0

/-! ## Uplink messages (R329, R331, R332, R338 to R340) -/

/-- One section of a U-plane message: its first PRB, its PRBs, and where their bytes start in the message. -/
structure Section where
  start : Nat
  count : Nat
  off : Nat

/-- Bytes of a PRB under an entry (R331). -/
def StEntry.prbBytes (e : StEntry) : Nat :=
  match e.comp with
  | 0 => 48
  | 1 => 1 + 3 * e.iqw
  | _ => 3 * e.iqw

/-- The sections of a message from an offset; none where one is malformed (R331, R338). A numPrbu of 0 names the whole
allocation. -/
def sectionsOf (e : StEntry) (l : List Byte) : Nat → Nat → Option (List Section)
  | 0, _ => none
  | fuel + 1, off =>
    if l.length = off then some [] else
    if l.length < off + 4 then none else
    let w := beAt l off 4
    let n := w % 256
    let start := w / 256 % 1024
    let count := if n = 0 then e.nprb else n
    let hdr := if e.static_ then off + 4 else off + 6
    let comp := beAt l (off + 4) 1
    let last := hdr + count * e.prbBytes
    if w / 2 ^ 19 % 2 = 1 ∨ w / 2 ^ 18 % 2 = 1 ∨ start < e.prbStart ∨ e.prbStart + e.nprb < start + count
        ∨ l.length < last ∨ (e.static_ = false ∧ comp ≠ e.iqwField * 16 + e.comp) then none
    else
      match sectionsOf e l fuel last with
      | some r => some (⟨start, count, hdr⟩ :: r)
      | none => none

/-- A PRB's bytes in memory, with whether a part was clamped (R332). -/
def expandPrb (e : StEntry) (l : List Byte) : List Byte × Bool :=
  if e.comp = 0 then
    ((List.range 24).flatMap (fun i => valBytes 2 (packedAt l 16 i)), false)
  else
    let x := (l.getD 0 0).toNat % 16
    let v := (List.range 24).map (fun i => sat16 (toSigned e.iqw (packedAt (l.drop 1) e.iqw i) * 2 ^ x))
    (v.flatMap (fun p => valBytes 2 (ofSigned 16 p.1)), v.any (fun p => p.2))

/-- Where a message's symbol lies: SFN, slot, symbol, start and end (R338); none where the numerology has no such symbol. -/
def State.symbolOf (s : State) (e : StEntry) (frameId subframe slotId sym : Nat) : Option (Nat × Nat × Nat × Nat) :=
  let n := s.carNum e.carrier
  let mu := muOf (s.carrier e.carrier).ty
  let slot := subframe * 2 ^ mu + slotId
  if 20 * n.perHalf / n.perSlot ≤ slot ∨ n.perSlot ≤ sym then none else
  let now := s.carRel e.carrier s.fhTick / frameTicks
  let frame := ((now : Int) + toSigned 8 ((frameId + 256 - now % 256) % 256)).toNat
  let g := frame * (20 * n.perHalf) + slot * n.perSlot + sym
  some (frame % 1024, slot, s.carTick e.carrier (n.symbolTick g), s.carTick e.carrier (n.symbolTick (g + 1)))

/-- The PRBs of a message's sections, each with its offset in the message. -/
def sectionPrbs (e : StEntry) (secs : List Section) : List (Nat × Nat) :=
  secs.flatMap (fun c => (List.range c.count).map (fun i => (c.start + i, c.off + i * e.prbBytes)))

/-- The PRBs of sections that are all accepted are written to the grid and noted in the symbol. -/
def State.writePrbs (s : State) (e : StEntry) (l : List Byte) (y : UpSymbol) (secs : List Section) : UpSymbol × State :=
  (sectionPrbs e secs).foldl
    (fun (q : UpSymbol × State) p =>
      let d := expandPrb e (sliceBytes l p.2 e.prbBytes)
      let s := (q.2.writeBytes (e.prbAddr y.slot y.sym p.1) (portUnit e.port) d.1).2
      ({ q.1 with prbs := if q.1.prbs.contains p.1 then q.1.prbs else q.1.prbs ++ [p.1],
                  dup := q.1.dup || q.1.prbs.contains p.1, sat := q.1.sat || d.2 }, s)) (y, s)

/-- A message of an entry for the symbol that starts at S and ends at T (R340). -/
def State.symbolMessage (s : State) (i p sfn slot sym : Nat) (tEnd : Nat) (l : List Byte) (secs : List Section) : State :=
  let e := s.st i
  let now := s.fhTick
  let close := tEnd + e.winLate
  let old := s.fh.ups.find? (fun y => y.entry == i && y.close == close && y.sfn == sfn && y.slot == slot && y.sym == sym)
  let early := decide (now < tEnd + e.winEarly)
  let late := decide (close < now)
  let s := if early then s.incf FH_RX_EARLY_COUNT p else if late then s.incf FH_RX_LATE_COUNT p else s
  let closed := match old with
    | some y => y.closed
    | none => false
  if late || closed then (if !early && !late then s.incf FH_RX_LATE_COUNT p else s)
  else
    let y := old.getD ⟨i, sfn, slot, sym, close, false, [], false, false, false, false, now, now⟩
    let s := match old with
      | some y => s.setFh { s.fh with ups := s.fh.ups.erase y }
      | none => s
    let y := { y with early := y.early || early, last := now }
    let r := if early && !e.winAct then (y, s) else s.writePrbs e l y secs
    let y := { r.1 with closed := decide (e.nprb ≤ r.1.prbs.length) }
    let s := r.2.setFh { r.2.fh with ups := r.2.fh.ups ++ [y] }
    if y.closed then s.pushSymbol y 0 false else s

/-- A sequence ID received for an entry (R328). -/
def State.checkSeq (s : State) (p i seq : Nat) : State :=
  let gap := match Tab.get none s.fh.rxSeq i with
    | none => false
    | some q => (q + 1) % 256 != seq
  let s := if gap then s.incf FH_RX_SEQ_GAP_COUNT p else s
  s.setFh { s.fh with rxSeq := s.fh.rxSeq.set i (some seq) }

/-- The key of a type 0 message, its body behind the common header (R335). -/
def messageKey (p : Nat) (f : EthFrame) (l : List Byte) : Nat := (p * 4096 + f.vlan) * 65536 + beAt l 0 2

/-- Where a type 0 message of an entry goes: SFN, slot, symbol, the symbol's end and the sections; none where it is
malformed (R338). -/
def State.messageTarget (s : State) (e : StEntry) (l : List Byte) : Option (Nat × Nat × Nat × Nat × List Section) :=
  let t := beAt l 6 2
  match s.symbolOf e (beAt l 5 1) (t / 2 ^ 12) (t / 2 ^ 6 % 64) (t % 64), sectionsOf e l l.length 8 with
  | some (sfn, slot, _, tEnd), some secs => some (sfn, slot, t % 64, tEnd, secs)
  | _, _ => none

/-- An entry takes messages: its partition is RUNNING (R337). -/
def State.entryRuns (s : State) (i : Nat) : Bool :=
  match s.entryOwner i with
  | some q => s.pstate q == 3
  | none => false

/-- The stitch at which a write of a type 0 message of a valid length stops (R14): the message waits in the ingress
buffer until the island has waked. -/
def State.messageStops (s : State) (p : Nat) (f : EthFrame) (l : List Byte) : Option (Nat × Option Nat) :=
  match s.lookup (messageKey p f l) with
  | none => none
  | some i =>
    let e := s.st i
    if beAt l 4 1 ≠ 0x10 + e.filter ∨ s.entryRuns i = false then none else
    match s.messageTarget e l with
    | none => none
    | some (_, slot, sym, tEnd, secs) =>
      let now := s.fhTick
      if tEnd + e.winLate < now ∨ (now < tEnd + e.winEarly ∧ e.winAct = false) then none
      else (sectionPrbs e secs).findSome? (fun x => s.accessStops (portUnit p) (e.prbAddr slot sym x.1) 48)

/-- ECPRI_IQ_MESSAGE: a type 0 message, its body behind the common header. -/
def State.iqMessage (s : State) (p : Nat) (f : EthFrame) (frame : List Byte) : State :=
  let l := f.body.drop 4
  let size := beAt f.body 2 2
  let l := l.take size
  let malformed := s.incf FH_RX_MALFORMED_COUNT p
  if l.length < size ∨ l.length < 8 ∨ beAt l 3 1 ≠ 0x80 then malformed else
  let key := messageKey p f l
  match s.lookup key with
  | none => s.quarantine p 0 key frame
  | some i =>
    let e := s.st i
    if beAt l 4 1 ≠ 0x10 + e.filter then s.quarantine p 1 key frame
    else if !s.entryRuns i then s.quarantine p 2 key frame
    else
      match s.messageTarget e l with
      | some (sfn, slot, sym, tEnd, secs) => (s.checkSeq p i (beAt l 2 1)).symbolMessage i p sfn slot sym tEnd l secs
      | none => malformed

/-! ## Received frames (R327, R328, R330, R347) -/

/-- The timestamp of an ingress in Tc, with the board's correction (R347). -/
def State.stamp (s : State) (corr : Fld) (p sub : Nat) : Nat :=
  ((s.tb.count * 16 + sub : Nat) + toSigned 32 (s.rf corr p) * 196608 / 100000000 : Int).toNat

/-- A PTP timestamp of 10 bytes from a time in Tc. -/
def ptpStamp (tc : Nat) : List Byte :=
  let sec := 16 * ticksPerSecond
  beBytes 6 (tc / sec) ++ beBytes 4 (tc % sec * 1000000000 / sec)

/-- Push a frame whole to a queue, in entries of 56 payload bytes. -/
def State.pushFrame (s : State) (p q : Nat) (frame : List Byte) : State :=
  (List.range ((frame.length + 55) / 56)).foldl (fun s i =>
    s.pushBytes q (portUnit p) (sliceBytes frame (56 * i) 56) 7 ((s.fhTick + 1228800) % 2 ^ 48)) s

/-- A type 5 message (R330). -/
def State.delayMessage (s : State) (p sub : Nat) (f : EthFrame) (frame : List Byte) : State :=
  let l := f.body.drop 4
  let action := beAt l 1 1
  if action ≤ 1 then
    s.sendEcpri p f.src f.vlan 0 5 ([l.getD 0 0, 0x02] ++ ptpStamp (s.stamp FH_PORT_RX_CORR_PS p sub) ++ beBytes 8 0)
  else if action = 5 then s
  else s.pushFrame p (s.rf FH_PORT_QUEUES_MISCQ p) frame

/-- An eCPRI message of a frame (R327, R328). -/
def State.ecpri (s : State) (p sub : Nat) (f : EthFrame) (frame : List Byte) : State :=
  let first := beAt f.body 0 1
  let typ := beAt f.body 1 1
  if first / 16 ≠ 1 ∨ first % 2 ≠ 0 then s.incf FH_RX_MALFORMED_COUNT p
  else match typ with
    | 0 => s.iqMessage p f frame
    | 2 =>
      if beAt f.body 7 1 = 0x80 ∧ f.body.length ≥ 8 then s.pushFrame p (s.rf FH_PORT_QUEUES_MISCQ p) frame
      else s.incf FH_RX_MALFORMED_COUNT p
    | 5 => s.delayMessage p sub f frame
    | _ => s.incf FH_RX_MALFORMED_COUNT p

/-- A received frame (R327), with the Tc after its tick at which it came. -/
def State.receiveFrame (s : State) (p sub : Nat) (frame : List Byte) : State :=
  let n := frame.length
  if frame.drop (n - 4) ≠ ethernetFcs (frame.take (n - 4)) then s.incf FH_RX_FCS_ERR_COUNT p
  else
    let s := (s.incf FH_RX_FRAMES_COUNT p).incf FH_RX_BYTES_COUNT p n
    if 262144 < s.ingressBytes p + n then (s.incf FH_RX_OVERFLOW_COUNT p).portReasonMs p false
    else
      let f := parseFrame frame
      if n < 64 ∨ s.rf FH_PORT_CTRL_MTU p + 22 < n ∨ isTag f.ethertype = true then s.incf FH_RX_OTHER_COUNT p
      else if f.ethertype = 0x88F7 ∧ natBit (s.ob oTIME_PTP_PORT_MASK) p = true then
        s.send (.thimbleFrame p (s.stamp FH_PORT_RX_CORR_PS p sub) frame)
      else if f.vlan = s.ob oFH_MGMT_VLAN then s.send (.thimbleFrame p (s.stamp FH_PORT_RX_CORR_PS p sub) frame)
      else if f.ethertype = 0xAEFE then s.ecpri p sub f frame
      else s.incf FH_RX_OTHER_COUNT p

/-- The stitch at which a received frame waits before it is handled: that of a type 0 message's grid. -/
def State.frameStops (s : State) (p : Nat) (frame : List Byte) : Option (Nat × Option Nat) :=
  let n := frame.length
  let f := parseFrame frame
  let size := beAt f.body 2 2
  let l := (f.body.drop 4).take size
  if frame.drop (n - 4) = ethernetFcs (frame.take (n - 4)) ∧ s.ingressBytes p + n ≤ 262144 ∧ 64 ≤ n
      ∧ n ≤ s.rf FH_PORT_CTRL_MTU p + 22 ∧ f.vlan ≠ s.ob oFH_MGMT_VLAN ∧ f.ethertype = 0xAEFE
      ∧ beAt f.body 0 1 / 16 = 1 ∧ beAt f.body 0 1 % 2 = 0 ∧ beAt f.body 1 1 = 0 ∧ size ≤ l.length ∧ 8 ≤ l.length
      ∧ beAt l 3 1 = 0x80 then s.messageStops p f l
  else none

/-- FRAME_RECEIVE: a frame from the destination address to the FCS, on a port that is up. FEC_UNCORR counts what the FEC of
the port, where it has one, reports. -/
def execFrameReceive (port sub : Nat) (frame : PortFrame) (s : State) : Host.Outcome State Fault Refusal :=
  .next (if !s.portHears port then s else
    match s.frameStops port frame.bytes with
    | some x => s.stallOn x
    | none =>
      (if s.bit FH_PORT_CTRL_FEC port then s.incf FH_FEC_UNCORR_COUNT port frame.uncorrectable else s).receiveFrame port
        (sub % 16) frame.bytes)

/-! ## Sending (R329, R333, R334, R342) -/

/-- A message is refused: it is counted and raises reason 0x05. -/
def State.refuseTx (s : State) (p : Nat) : State := (s.incf FH_TX_REFUSED_COUNT p).portReasonMs p true

/-- The section extensions of a C-plane section from an offset: where they end, none where one is outside the subset. -/
def extensionsEnd (l : List Byte) : Nat → Nat → Option Nat
  | 0, _ => none
  | fuel + 1, off =>
    let t := beAt l off 1 % 128
    let len := if t = 11 then beAt l (off + 1) 2 else beAt l (off + 1) 1
    if l.length ≤ off ∨ [1, 4, 5, 6, 10, 11].contains t = false ∨ len = 0 then none
    else if 128 ≤ beAt l off 1 then extensionsEnd l fuel (off + 4 * len) else some (off + 4 * len)

/-- The sections of a C-plane message lie within the subset (R329). -/
def cplaneSections (l : List Byte) (size : Nat) : Nat → Nat → Bool
  | 0, _ => true
  | n + 1, off =>
    if l.length < off + size then false
    else if beAt l (off + 6) 1 < 128 then cplaneSections l size n (off + size)
    else match extensionsEnd l l.length (off + size) with
      | some e => cplaneSections l size n e
      | none => false

/-- A C-plane payload behind the eCPRI common header may be sent (R329). -/
def cplaneOk (l : List Byte) : Bool :=
  match beAt l 9 1 with
  | 1 => cplaneSections l 8 (beAt l 8 1) 12
  | 3 => cplaneSections l 12 (beAt l 8 1) 16
  | _ => false

/-- Send or refuse the TXQ_C entry popped for a port. A payload read that waits at a stitch keeps the entry at the port
(R14). A type 2 message goes out with the E bit 1 and a subsequence of 0, whatever the payload holds there (R328: DEDUCED). -/
def State.sendCplane (s : State) (p : Nat) (e : List Carried) : State :=
  let l := carriedBytes e
  let f := fieldAt l
  let len := f 6 2
  let typ := f 8 1
  let rtc := f 10 2
  let dest := f 12 1
  if !(e.take 7).all Option.isSome || !(typ == 2 || typ == 5) || f 9 1 != 0 || f 13 3 != 0 || f 22 2 != 0
      || !((l.drop 24).take 32).all (fun b => b == 0) || decide (len = 0)
      || decide (s.rf FH_PORT_CTRL_MTU p < len + 4) then s.refuseTx p
  else if let some x := s.accessStops (portUnit p) (f 0 6) len then
    (s.setFh { s.fh with held := s.fh.held.set p (some e) }).stallOn x
  else
    match s.readBytes (f 0 6) len (portUnit p) 0 with
    | (none, s) => s.refuseTx p
    | (some d, s) =>
      let body := if typ = 2 then beBytes 2 rtc ++ (d.drop 2).take 1 ++ [0x80] ++ d.drop 4 else beBytes 1 rtc ++ d.drop 1
      if typ = 2 && !cplaneOk body then s.refuseTx p
      else s.sendEcpri p (s.rf FH_DEST_MAC dest) 0 (s.rf FH_DEST_PCP dest) typ body

/-- DOWNLINK_REQUEST: a request of TXQ_U is popped; its symbols are scheduled in ascending order (R342). -/
def State.downlinkRequest (s : State) (p : Nat) (e : List Carried) : State :=
  let l := carriedBytes e
  let i := fieldAt l 0 2
  let mask := fieldAt l 2 2
  let x := s.st i
  if !(e.take 7).all Option.isSome || decide (32768 ≤ i) || !x.valid || x.dir != 1 || x.port != p || decide (16384 ≤ mask)
      || !((l.drop 7).take 49).all (fun b => b == 0) then s.refuseTx p
  else
    let n := s.carNum x.carrier
    let now := s.carRel x.carrier s.fhTick / frameTicks
    let frame := ((now : Int) + toSigned 10 ((fieldAt l 4 2 % 1024 + 1024 - now % 1024) % 1024)).toNat
    let slot := fieldAt l 6 1
    if 20 * n.perHalf / n.perSlot ≤ slot then s.refuseTx p
    else
      ((bitsSet 14 mask).filter (fun m => decide (m < n.perSlot))).foldl (fun s m =>
        let start := s.carTick x.carrier (n.symbolTick (frame * (20 * n.perHalf) + slot * n.perSlot + m))
        if start < s.fhTick + x.winLate then s.incf FH_TX_LATE_COUNT p
        else s.setFh { s.fh with downs := s.fh.downs ++ [⟨p, i, frame % 1024, slot, m, start⟩] }) s

/-- DOWNLINK_REQUEST. -/
def execDownlinkRequest (port : Nat) (s : State) : Host.Outcome State Fault Refusal :=
  .next (if s.bit FH_PORT_STATE_UP port then
    match s.popQueue (s.rf FH_PORT_TXQ_U_TXQ_U port) (portUnit port) with
    | (.entry e, s) => s.downlinkRequest port e
    | (_, s) => s
  else s)

/-- Bits after the sign bit that equal it, of 16 (VEXP). -/
def signRun (x : Int) : Nat := 15 - (if x < 0 then Nat.size (-x - 1).toNat else Nat.size x.toNat)

/-- A PRB of 24 parts compressed under an entry, and how many parts were clamped or matched no level (R333, R334). -/
def compressPrb (e : StEntry) (x : List Int) : List Byte × Nat :=
  let w := e.iqw
  match e.comp with
  | 0 => (packFields 16 (x.map (ofSigned 16)), 0)
  | 1 =>
    let r := x.foldl (fun m v => min m (signRun v)) 15
    let k := 16 - r - w
    let v := x.map (fun p => roundAt k p)
    let c := v.map (clampSigned w)
    (beBytes 1 k ++ packFields w (c.map (ofSigned w)), ((v.zip c).filter (fun p => p.1 != p.2)).length)
  | _ =>
    let level := fun (neg : Bool) (m : Nat) =>
      (sat16 (roundAt 12 ((if neg then -1 else 1) * levelSize (2 * w) m * toSigned 16 e.mcAmp))).1
    let codes := x.map (fun v =>
      match (List.range (2 ^ (w - 1))).find? (fun m => level false m == v) with
      | some m => ((m : Int), 0)
      | none =>
        match (List.range (2 ^ (w - 1))).find? (fun m => level true m == v) with
        | some m => (-(m : Int) - 1, 0)
        | none => (0, 1))
    (packFields w (codes.map (fun c => ofSigned w c.1)), (codes.map (fun c => c.2)).sum)

/-- One downlink message with PRBs from `start` (R328, R329, R342). -/
def downMessage (e : StEntry) (d : DownSymbol) (mu seq start : Nat) (prbs : List (List Byte)) : List Byte :=
  beBytes 2 e.eaxc ++ beBytes 1 seq ++ beBytes 1 0x80 ++ beBytes 1 (0x90 + e.filter) ++ beBytes 1 (d.sfn % 256)
    ++ beBytes 2 (d.slot / 2 ^ mu * 2 ^ 12 + d.slot % 2 ^ mu * 2 ^ 6 + d.sym)
    ++ beBytes 4 (e.sectionId * 2 ^ 20 + start * 256 + prbs.length)
    ++ (if e.static_ then [] else beBytes 1 (e.iqwField * 16 + e.comp) ++ beBytes 1 0) ++ prbs.flatten

/-- The messages of a row, as many whole PRBs in each as fit, 255 at most. -/
def State.sendRow (s : State) (e : StEntry) (d : DownSymbol) (start : Nat) : List (List (List Byte)) → State
  | [] => s
  | g :: r =>
    let seq := Tab.get 0 s.fh.txSeq d.entry
    let mu := muOf (s.carrier e.carrier).ty
    let s := s.sendEcpri d.port (s.rf FH_DEST_MAC e.dest) e.vlan (s.rf FH_DEST_PCP e.dest) 0 (downMessage e d mu seq start g)
    (s.setFh { s.fh with txSeq := s.fh.txSeq.set d.entry ((seq + 1) % 256) }).sendRow e d (start + g.length) r

/-- Read, compress and send a downlink symbol's row. -/
def State.sendDown (s : State) (d : DownSymbol) : State :=
  let e := s.st d.entry
  match s.readBytes (e.prbAddr d.slot d.sym e.prbStart) (48 * e.nprb) (portUnit d.port) 0 with
  | (none, s) => s.refuseTx d.port
  | (some l, s) =>
    let prbs := (List.range e.nprb).map (fun n => compressPrb e ((List.range 24).map (fun i =>
      toSigned 16 (fieldAt l (48 * n + 2 * i) 2))))
    let hdr := if e.static_ then 16 else 18
    let per := max 1 (min 255 ((s.rf FH_PORT_CTRL_MTU d.port - hdr) / e.prbBytes))
    (s.incf FH_TX_SAT_COUNT d.port ((prbs.map (fun p => p.2)).sum)).sendRow e d e.prbStart
      (blocksOf per (prbs.map (fun p => p.1)))

/-- The stitch at which the read of a downlink symbol's row stops (R14); a symbol that is late reads nothing. -/
def State.downStops (s : State) (d : DownSymbol) : Option (Nat × Option Nat) :=
  let e := s.st d.entry
  if d.start < s.fhTick + e.winLate ∨ e.valid = false ∨ e.dir ≠ 1 then none
  else s.accessStops (portUnit d.port) (e.prbAddr d.slot d.sym e.prbStart) (48 * e.nprb)

/-- The scheduled symbol of a port that is sent next: the one with the earliest send tick. -/
def State.nextDown (s : State) (p : Nat) : Option DownSymbol :=
  (s.fh.downs.filter (fun d => d.port == p)).foldl (fun m d =>
    match m with
    | none => some d
    | some b => if (d.start : Int) - (s.st d.entry).winEarly < (b.start : Int) - (s.st b.entry).winEarly then some d
      else some b) none

/-- Ticks since the send tick of the entry at the head of a port's TXQ_C, none where it is not yet due. -/
def State.cplaneDue (s : State) (p : Nat) : Option Nat :=
  let q := s.rf FH_PORT_QUEUES_TXQ_C p
  let tick := fieldAt (carriedBytes (s.peek q 0)) 16 6
  if decide (0 < s.occupancy q) && (tick == s.nowAt 72 || deadlinePassed tick (s.nowAt 72)) then
    some ((s.nowAt 72 + 2 ^ 48 - tick) % 2 ^ 48)
  else none

/-- Ticks since the send tick of a scheduled symbol, negative before it. -/
def State.downSince (s : State) (d : DownSymbol) : Int := s.fhTick + (s.st d.entry).winEarly - d.start

/-- CPLANE_SEND: the entry at the head of TXQ_C has come to its send tick, or has passed it. A symbol of TXQ_U whose send
tick is earlier goes first (R342); an entry whose payload read waited at a stitch goes on. -/
def execCplaneSend (port : Nat) (s : State) : Host.Outcome State Fault Refusal :=
  .next (if !s.portSends port then s else
    match Tab.get none s.fh.held port with
    | some e => (s.setFh { s.fh with held := s.fh.held.set port none }).sendCplane port e
    | none =>
      match s.cplaneDue port with
      | none => s
      | some since =>
        if (s.nextDown port).any (fun d => decide ((since : Int) < s.downSince d)) then s else
        match s.popQueue (s.rf FH_PORT_QUEUES_TXQ_C port) (portUnit port) with
        | (.entry e, s) => if since = 0 then s.sendCplane port e else s.incf FH_TX_LATE_COUNT port
        | (_, s) => s)

/-- DOWNLINK_SYMBOL_SEND: the next symbol of a port is sent once its window has opened, or skipped late (R342). -/
def execDownlinkSymbolSend (port : Nat) (s : State) : Host.Outcome State Fault Refusal :=
  .next (match s.nextDown port with
    | none => s
    | some d =>
      let e := s.st d.entry
      if !s.portSends port || decide (s.fhTick + e.winEarly < d.start) || (Tab.get none s.fh.held port).isSome
          || (s.cplaneDue port).any (fun since => decide (s.downSince d ≤ since)) then s
      else if let some x := s.downStops d then s.stallOn x
      else
        let s := s.setFh { s.fh with downs := s.fh.downs.erase d }
        if d.start < s.fhTick + e.winLate then s.incf FH_TX_LATE_COUNT port
        else if e.valid && e.dir == 1 then s.sendDown d
        else s.refuseTx port)

end Sys2Proof.Machine
end

