-- ==== Sys2Proof/Machine/Cpri.lean ====
section
/-!
DEFINITION. CPRI links: enabling (R351), hyperframe synchronisation and the control words that the device ends (R344), transmit
and receive timing (R345), basic frames exchanged with the framing patch (R346), and their events (R353).
-/

namespace Sys2Proof.Machine

open Reg Ob

/-- Link n beside its registers. -/
def State.cpri (s : State) (n : Nat) : Cpri := Tab.get Cpri.idle s.fh.cpri n
def State.setCpri (s : State) (n : Nat) (x : Cpri) : State := s.setFh { s.fh with cpri := s.fh.cpri.set n x }

/-- Lane n is a CPRI lane of a RUNNING MB partition. -/
def State.cpriAllowed (s : State) (n : Nat) : Bool :=
  s.laneUsable n && (match s.laneOwner n with
    | some p => s.isMb p && s.pstate p == 3
    | none => false)

/-- Requester u may write the registers of CPRI lane n (R351). -/
def State.mayWriteCpri (s : State) (u n : Nat) : Bool :=
  isThimble u || isPf0 u || (s.cpriLane n && s.isOwnerHost u (s.laneOwner n))

/-- A write of CPRI_CFG. An enable that is refused leaves ENABLE at 0. -/
def State.writeCpriCfg (s : State) (u n v : Nat) : State :=
  if !s.mayWriteCpri u n || !s.die.variant.lanePresent n then s else
  let s := ((s.sf CPRI_CFG_L1_RESET n (v / 2 ^ 30)).sf CPRI_CFG_PVER n (v / 2 ^ 27)).sf CPRI_CFG_CARRIER n (v / 2 ^ 21)
  if natBit v 31 then
    if s.bit CPRI_CFG_ENABLE n || !s.cpriAllowed n then s
    else (s.sf CPRI_CFG_ENABLE n 1).setCpri n { Cpri.idle with last := s.tb.count }
  else ((s.sf CPRI_CFG_ENABLE n 0).sf CPRI_STATE_HFSYNC n 0).setCpri n Cpri.idle

/-- CPRI_ENABLE: a write of CPRI_CFG with ENABLE 1. -/
def execCpriEnable (requester lane : Nat) (value : Half) (s : State) : Host.Outcome State Fault Refusal :=
  .next (s.atIsland requester 72 (fun s => s.writeCpriCfg requester lane (value ||| 0x80000000).toNat))

/-- The L1 inband bits that link n sends: LOS, LOF, RAI and the reset bit (R344). -/
def State.l1Bits (s : State) (n : Nat) : Bool × Bool × Bool × Bool :=
  let los := s.bit LANE_STATE_LOS n
  let lof := !s.bit CPRI_STATE_HFSYNC n
  (los, lof, los || lof, s.bit CPRI_CFG_L1_RESET n)

/-- The L1 inband bits go out. -/
def State.sendL1 (s : State) (n : Nat) : State :=
  let b := s.l1Bits n
  s.send (.cpriL1 n b.1 b.2.1 b.2.2.1 b.2.2.2)

/-- CPRI_HYPERFRAME_RX: a hyperframe start is received at `sub` Tc after the tick, with its HFN, its BFN and the far
end's RAI. -/
def execCpriHyperframeRx (lane sub hfn bfn : Nat) (rai : Bool) (s : State) : Host.Outcome State Fault Refusal :=
  .next (if !s.bit CPRI_CFG_ENABLE lane || !s.laneHearsData lane then s else
    let x := s.cpri lane
    let good := if hfn = (s.rf CPRI_RX_HF_HFN lane + 1) % 150 then x.good + 1 else 1
    let s := s.setCpri lane { x with good := good, last := s.tb.count }
    let s := (s.sf CPRI_RX_TS_TICKS lane s.tb.count).sf CPRI_RX_TS_SUB lane sub
    let s := (s.sf CPRI_RX_HF_HFN lane hfn).sf CPRI_RX_HF_BFN lane bfn
    s.sf CPRI_STATE_FAR_RAI lane rai.toNat)

/-- CPRI_HFSYNC_ACHIEVED: three hyperframes in a row have started with HFN values that rise by one. -/
def execCpriHfsyncAchieved (lane : Nat) (s : State) : Host.Outcome State Fault Refusal :=
  .next (if s.bit CPRI_CFG_ENABLE lane && !s.bit CPRI_STATE_HFSYNC lane && decide (3 ≤ (s.cpri lane).good) then
    (s.sf CPRI_STATE_HFSYNC lane 1).sendL1 lane
  else s)

/-- CPRI_HFSYNC_LOST: three hyperframe starts in a row are missing. -/
def execCpriHfsyncLost (lane : Nat) (s : State) : Host.Outcome State Fault Refusal :=
  let x := s.cpri lane
  .next (if s.bit CPRI_CFG_ENABLE lane && s.bit CPRI_STATE_HFSYNC lane && decide (x.last + 3 * 8192 < s.tb.count) then
    (((s.sf CPRI_STATE_HFSYNC lane 0).setCpri lane { x with good := 0 }).sendL1 lane).cpriEvent lane 0x01
  else s)

/-- One entry of a basic frame (R346). -/
def cpriEntry (x hfn bfn : Nat) (control : Bool) (off : Nat) (data : List Byte) : List Byte :=
  valBytes 1 x ++ valBytes 1 hfn ++ valBytes 2 (bfn % 4096 + if control then 32768 else 0) ++ valBytes 2 off
    ++ valBytes 2 data.length ++ sliceBytes data 0 48 ++ valBytes 8 0

/-- The pieces of a block of a basic frame, at most 48 bytes each. -/
def cpriPieces (x hfn bfn : Nat) (control : Bool) : Nat → Nat → List Byte → List (List Byte)
  | 0, _, _ => []
  | _, _, [] => []
  | fuel + 1, off, l => cpriEntry x hfn bfn control off (l.take 48) :: cpriPieces x hfn bfn control fuel (off + 48) (l.drop 48)

/-- The entries of a basic frame: its IQ data block, then its control word. -/
def cpriEntries (x hfn bfn : Nat) (control iq : List Byte) : List (List Byte) :=
  cpriPieces x hfn bfn false iq.length 0 iq ++ cpriPieces x hfn bfn true control.length 0 control

/-- The control words whose first byte the device itself ends (R344). -/
def cpriTerminated (x : Nat) : Bool := [0, 2, 64, 128, 130, 192].contains x

/-- The framing patch of the partition that owns a CPRI lane runs, and so takes and supplies entries. -/
def State.framingRuns (s : State) (n : Nat) : Bool :=
  match s.laneOwner n with
  | some p => s.isMb p && s.qstate (s.mbPatch p) == qRunning
  | none => false

/-- CPRI_BASIC_FRAME_RX: a basic frame is received. `credit` says that the patch, which has to run, takes entries: then
those that wait go first. Without credit up to 64 basic frames wait. A control word that the device ends passes without its first byte. -/
def execCpriBasicFrameRx (lane x hfn bfn : Nat) (control iq : List Byte) (credit : Bool) (s : State) :
    Host.Outcome State Fault Refusal :=
  .next (if !s.bit CPRI_CFG_ENABLE lane || !s.bit CPRI_STATE_HFSYNC lane || !s.laneHearsData lane then s else
    let c := s.cpri lane
    let e := cpriEntries x hfn bfn (if cpriTerminated x then control.drop 1 else control) iq
    if credit && s.framingRuns lane then
      (c.waiting ++ [e]).foldl (fun s e => s.send (.cpriPatch lane e)) (s.setCpri lane { c with waiting := [] })
    else if c.waiting.length < 64 then s.setCpri lane { c with waiting := c.waiting ++ [e] }
    else (s.incf CPRI_RX_OVERFLOW_COUNT lane).cpriEvent lane 0x02)

/-- Bytes of a control word at the rate code of a CPRI option (CPRI 7.0: PRESUMED); the IQ data block has 15 times as
many. -/
def cpriWordBytes (rate : Nat) : Nat := [1, 2, 4, 5, 8, 10, 16, 16, 20, 24, 48].getD (rate - 8) 0

/-- The first byte of a control word that the device ends (R344; the bit places are those of CPRI 7.0: PRESUMED). -/
def State.cpriControl (s : State) (n x hfn bfn : Nat) : Byte :=
  let b := s.l1Bits n
  BitVec.ofNat 8 (match x with
    | 2 => s.rf CPRI_CFG_PVER n
    | 64 => hfn
    | 128 => bfn % 256
    | 192 => bfn / 256
    | 130 => b.2.2.2.toNat + 2 * b.2.2.1.toNat + 8 * b.1.toNat + 16 * b.2.1.toNat
    | _ => 0xBC)

/-- CPRI_BASIC_FRAME_TX: the send time of a basic frame has come. `supplied` holds its control word and its IQ data where
the patch has supplied them. Its numbers follow from the carrier timer (R345). -/
def execCpriBasicFrameTx (lane : Nat) (supplied : Option (List Byte × List Byte)) (s : State) :
    Host.Outcome State Fault Refusal :=
  .next (if !s.bit CPRI_CFG_ENABLE lane || !s.laneSendsData lane then s else
    let rel := s.carRel (s.rf CPRI_CFG_CARRIER lane) s.tb.count
    let bfn := (rel / frameTicks + 3072) % 4096
    let hfn := rel % frameTicks / 8192
    let x := rel % 8192 / 32
    let w := cpriWordBytes (s.laneRate lane)
    let supplied := if s.framingRuns lane then supplied else none
    let (c, iq) := supplied.getD (List.replicate w 0, List.replicate (15 * w) 0)
    let c := if cpriTerminated x then s.cpriControl lane x hfn bfn :: c.drop 1 else c
    let s := s.send (.cpriFrame lane bfn hfn x (c ++ iq))
    if supplied.isSome then s else (s.incf CPRI_TX_UNDERRUN_COUNT lane).cpriEvent lane 0x03)

end Sys2Proof.Machine
end

