-- ==== Sys2Proof/Machine/Host.lean ====
section
/-!
DEFINITION. The host port's shared operations: host rings (R497 to R501), the link (R488 to R490, R507) and the reset of a
function (R508).
-/

namespace Sys2Proof.Machine

open Reg Ob

/-! ## Rings -/

/-- The index of ring r of function f among the ring registers. -/
def ringIx (f r : Nat) : Nat := f * 256 + r

/-- Rings of a function (R492). -/
def ringCount (f : Nat) : Nat := if f = 0 then 256 else if f < 0x10 then 0 else 32

/-- A function whose rings and mailbox the die has: PF0 and the VFs. -/
def hasPage (f : Nat) : Bool := f == 0 || (decide (0x10 ≤ f) && decide (f < 0x50))

/-- What ring i holds beside its registers. -/
def State.ring (s : State) (i : Nat) : Ring := Tab.get Ring.off s.host.rings i

/-- The state with that replaced. -/
def State.setRing (s : State) (i : Nat) (x : Ring) : State := { s with host := { s.host with rings := s.host.rings.set i x } }

/-- Requester u may write ring i: host software of its function and Thimble firmware (R497). -/
def mayWriteRing (u i : Nat) : Bool := isThimble u || functionOf u == some (i / 256)

/-- Entries of ring i pushed and not landed. -/
def State.ringFlying (s : State) (i : Nat) : Nat := (s.host.pushes.filter (fun p => p.2.2 == i)).length

/-- Ring i is enabled and is not being disabled. -/
def State.ringRuns (s : State) (i : Nat) : Bool := s.bit HR_CFG_ENABLE i && !(s.ring i).disabling

/-- Ring i is off; what it has in flight is no longer its own. -/
def State.ringOff (s : State) (i : Nat) : State :=
  let s := { s with host := { s.host with pushes := s.host.pushes.filter (fun p => p.2.2 != i) } }
  (s.sf HR_CFG_ENABLE i 0).setRing i Ring.off

/-- A ring stops (R501). -/
def State.stopRing (s : State) (i code : Nat) : State :=
  if s.bit HR_CFG_ENABLE i then
    let s := (s.ringOff i).sf HR_CFG_ERROR i 1
    (((s.sf HP_RING_LAST_CODE 0 code).sf HP_RING_LAST_RING 0 (i % 256)).sf HP_RING_LAST_FUNCTION 0 (i / 256)).raise
      evHostRing i
  else s

/-- The write-back word of ring i (R497). -/
def State.writeBack (s : State) (i : Nat) : State :=
  if s.bit HR_WB_WB_EN i then
    s.hostRequest (.write (functionUnit (i / 256)) (some i) (s.rf HR_WB_ADDR i * 8) (valBytes 8 (s.rf HR_PTR_DEVICE i))
      false)
  else s

/-- An entry of unit u lands in queue q: where a ring pushed it, DEVICE advances (R499). -/
def State.ringLanded (s : State) (q u : Nat) : State :=
  match s.host.pushes.find? (fun p => p.1 == u && p.2.1 == q) with
  | none => s
  | some p =>
    let i := p.2.2
    let s := { s with host := { s.host with pushes := s.host.pushes.erase p } }
    let s := (s.sf HR_PTR_DEVICE i (s.rf HR_PTR_DEVICE i + 1)).writeBack i
    if (s.ring i).disabling && s.ringFlying i == 0 then s.ringOff i else s

/-- The checks of R498. -/
def State.ringValid (s : State) (i : Nat) : Bool :=
  let f := i / 256
  let q := s.rf HR_CFG_QUEUE i
  decide (1 ≤ s.rf HR_CFG_SIZE_LOG2 i) && decide (s.rf HR_CFG_SIZE_LOG2 i ≤ 15)
    && decide (s.rf HR_VEC_VECTOR i < vectorCount f) && s.queueOpen q
    && (match s.functionPartition f, s.queueOwner q with
        | some p, some o => p == o
        | _, _ => false)
    && (!s.bit HR_CFG_DIR i || s.rf QM_QCFG_CONSUMER q == functionUnit f)

/-- A write of HR_CFG (R497, R498, R501). -/
def State.writeRingCfg (s : State) (u i v : Nat) : State :=
  if !mayWriteRing u i || !hasPage (i / 256) || decide (ringCount (i / 256) ≤ i % 256) then s
  else if s.bit HR_CFG_ENABLE i then
    if natBit v 31 || (s.ring i).disabling then s
    else if s.ringFlying i = 0 then s.ringOff i
    else s.setRing i { s.ring i with disabling := true }
  else
    let s := ((s.sf HR_CFG_DIR i (v / 2 ^ 30)).sf HR_CFG_INTR i (v / 2 ^ 29)).sf HR_CFG_SIZE_LOG2 i (v / 2 ^ 24)
    let s := s.sf HR_CFG_QUEUE i v
    if natBit v 31 then
      let s := ((s.sf HR_PTR_DEVICE i 0).sf HR_PTR_HOST i 0).setRing i Ring.off
      if s.ringValid i then (s.sf HR_CFG_ENABLE i 1).sf HR_CFG_ERROR i 0 else s.sf HR_CFG_ERROR i 1
    else s

/-- A doorbell (R498 to R501). -/
def State.ringDoorbell (s : State) (u i index : Nat) : State :=
  if !mayWriteRing u i || !hasPage (i / 256) || decide (ringCount (i / 256) ≤ i % 256) then s else
  let index := index % 65536
  if !s.bit HR_CFG_ENABLE i then s.sf HR_PTR_HOST i index else
  let dev := s.rf HR_PTR_DEVICE i
  let ahead := if s.bit HR_CFG_DIR i then (dev + 65536 - index) % 65536 else (index + 65536 - dev) % 65536
  if 2 ^ s.rf HR_CFG_SIZE_LOG2 i < ahead then s.stopRing i codeBadDescriptor
  else
    let s := s.sf HR_PTR_HOST i index
    if s.bit HR_CFG_DIR i then s.setRing i { s.ring i with vectorSent := false } else s

/-- A fetched entry of a host-to-device ring is pushed as the function's (R499); at most 16 are ahead of DEVICE. -/
def State.ringPush (s : State) (i : Nat) (entry : List Word) : State :=
  let waiting := (s.rf HR_PTR_HOST i + 65536 - s.rf HR_PTR_DEVICE i) % 65536
  if s.ringRuns i && !s.bit HR_CFG_DIR i && decide (s.ringFlying i < min waiting 16) then
    let u := functionUnit (i / 256)
    let q := s.rf HR_CFG_QUEUE i
    let s := { s with host := { s.host with pushes := s.host.pushes ++ [(u, q, i)] } }
    s.pushEntry q u (entry.map some)
  else s

/-- A device-to-host ring takes an entry of its queue and writes it to its slot (R500): the entry, the write-back word
and the message, in that order. -/
def State.ringWrite (s : State) (i : Nat) : State :=
  let f := i / 256
  let dev := s.rf HR_PTR_DEVICE i
  let used := (dev + 65536 - s.rf HR_PTR_HOST i) % 65536
  if s.ringRuns i && s.bit HR_CFG_DIR i && decide (used < 2 ^ s.rf HR_CFG_SIZE_LOG2 i) then
    match s.popQueue (s.rf HR_CFG_QUEUE i) (functionUnit f) with
    | (.entry w, s) =>
      let slot := s.rf HR_BASE_BASE i * 64 + dev % 2 ^ s.rf HR_CFG_SIZE_LOG2 i * 64
      let s := s.hostRequest (.write (functionUnit f) (some i) slot (carriedBytes w) (w.any Option.isNone))
      let s := (s.sf HR_PTR_DEVICE i (dev + 1)).writeBack i
      if s.bit HR_CFG_INTR i && !(s.ring i).vectorSent then
        (s.sendVector f (s.rf HR_VEC_VECTOR i)).setRing i { s.ring i with vectorSent := true }
      else s
    | (_, s) => s
  else s

/-! ## The link -/

/-- EV_HOST_LINK with a reason (R510). -/
def State.hostLinkEvent (s : State) (reason : Nat) : State := s.raiseReason evHostLink reason HP_LINK_STATE_LAST_REASON 0

/-- What a training finds of a module: lanes repaired, and its width (0 out, 1 x32, 2 x64), which was `before` (R489). Each
lane newly repaired, and a width lost, is counted and raises the event. -/
def State.trainModule (s : State) (repaired width : Fld) (before r w : Nat) : State :=
  let more := r - s.rf repaired 0
  let s := (s.sf repaired 0 r).sf width 0 w
  let s := (List.range more).foldl (fun s _ => (s.inco oHOST_LANE_REPAIRS 0 32).hostLinkEvent 0x01) s
  if w < before then (s.inco oHOST_LANE_REPAIRS 0 32).hostLinkEvent 0x02 else s

/-- Both modules are trained; before the first training since a reset neither has lost any width. -/
def State.trainLink (s : State) (r0 w0 r1 w1 : Nat) : State :=
  let first := s.rf HP_LINK_STATE_M0_WIDTH == 0 && s.rf HP_LINK_STATE_M1_WIDTH == 0
  let b0 := if first then 2 else s.rf HP_LINK_STATE_M0_WIDTH
  let b1 := if first then 2 else s.rf HP_LINK_STATE_M1_WIDTH
  (s.trainModule HP_LINK_STATE_M0_REPAIRED HP_LINK_STATE_M0_WIDTH b0 r0 w0).trainModule HP_LINK_STATE_M1_REPAIRED
    HP_LINK_STATE_M1_WIDTH b1 r1 w1

/-- The requests that have waited go out in order. -/
def State.releaseHeldRequests (s : State) : State :=
  let l := s.host.held
  l.foldl (fun s r => s.hostRequest r) { s with host := { s.host with held := [] } }

/-- The link has been down for its limit (R507): reads are answered with the poison mark, writes discarded and counted,
and the rings of discarded writes stop. -/
def State.dropHeld (s : State) : List HeldRequest → State
  | [] => s
  | .read u a n :: r => (s.send (.readData u a (List.replicate ((n + 7) / 8) none))).dropHeld r
  | .message .. :: r => (s.incf HP_WR_DROPPED_COUNT).dropHeld r
  | .write _ ring _ _ _ :: r =>
    let s := s.incf HP_WR_DROPPED_COUNT
    (match ring with
      | some i => s.stopRing i codeAborted
      | none => s).dropHeld r

/-! ## Function reset -/

/-- An FLR of one function, its partition's reset apart (R508). -/
def State.clearFunction (s : State) (f : Nat) : State :=
  let s := (List.range (ringCount f)).foldl (fun s r => s.ringOff (ringIx f r)) s
  let s := s.dropHalves (fun a => decide (pageKey f ≤ a) && decide (a < pageKey (f + 1)))
  let mine := fun (r : HeldRequest) => match r with
    | .message g .. => g == f
    | _ => false
  let s := { s with host := { s.host with
      mailboxes := s.host.mailboxes.del f, msix := s.host.msix.del f, held := s.host.held.filter (fun r => !mine r) } }
  ((((s.sf MBX_CTRL_BUSY f 0).sf MBX_CTRL_DONE f 0).sf MBX_CTRL_VECTOR f 0).sf MBX_CTRL_REQ_LEN f 0).sf
    MBX_STATUS_RSP_LEN f 0

end Sys2Proof.Machine
end

