-- ==== Sys2Proof/Machine/WeftCommands.lean ====
section
/-!
DEFINITION. The meanings of the commands of the Weft and the queue manager.
-/

namespace Sys2Proof.Machine

open Reg Ob

/-- The DDR5 data rate in units of 100 MT/s: the highest of the channels in service, or of any channel where none is
(R34, R403). -/
def State.dramRate (s : State) : Nat :=
  let up := (List.range 8).filter (fun c => s.bit DRAM_CH_CFG_ENABLE c)
  ((if up.isEmpty then List.range 8 else up).map (fun c => 48 + 8 * s.rf DRAM_CH_CFG_RATE c)).foldl max 0

/-- The target frequency of an island in MHz: its nominal target (R34), lowered by a thermal throttle (R661). Of a panel
island it is that of the engine clock, which CUR_MHZ shows (DESIGN CHOICE). -/
def State.targetMhz (s : State) (i : Nat) : Nat :=
  let nominal :=
    if i < 64 then 1500 else if i < 72 then 1200 else if i < 74 then 1000 else if i = 74 then 400
    else if i = 75 then s.dramRate * 100 / 8
    else if i = 76 then 1000 else if i = 77 then 1200 else if i < 80 then 600 else if i = 80 then 1000
    else if i = 81 then 1600 else 500
  if i < 72 then nominal * s.rf PM_THERM_STATE_FREQ_PCT / 100 else nominal

/-- The panel clock of a panel whose engine clock runs at `mhz`: 4/5 of it (R34). -/
def panelMhz (mhz : Nat) : Nat := mhz * 4 / 5

/-- What R37 watches of an island after a measurement at tick `now`: below half the target, above it, or at it. -/
def FloorWatch.measured (x : FloorWatch) (now mhz target : Nat) : FloorWatch :=
  if 2 * mhz < target then { x with low := some (x.low.getD now), high := none }
  else if target < 2 * mhz then
    let since := x.high.getD now
    ⟨none, some since, x.raised && !spansNs (now - since) 1000⟩
  else ⟨none, none, x.raised⟩

/-- The frequency has stayed below half the target for longer than 1 µs, which has not been reported in this episode. -/
def FloorWatch.due (x : FloorWatch) (now : Nat) : Bool :=
  match x.low with
  | some t => !x.raised && decide (1000 * 12288 < (now - t) * 100000)
  | none => false

/-- CLOCK_FLOOR (R36, R37): an island's frequency has been measured. -/
def execClockFloor (island mhz : Nat) (s : State) : Host.Outcome State Fault Refusal :=
  .next (if 83 ≤ island then s else
    let s := s.sf PM_ISLAND_FREQ_CUR_MHZ island mhz
    let s := s.sf PM_ISLAND_FMIN_MIN_MHZ island (min mhz (s.rf PM_ISLAND_FMIN_MIN_MHZ island))
    let x := (Tab.get FloorWatch.idle s.weft.floors island).measured s.tb.count mhz (s.targetMhz island)
    let due := x.due s.tb.count
    let s := { s with weft := { s.weft with floors := s.weft.floors.set island { x with raised := x.raised || due } } }
    if due then s.raise evClockFloor island else s)

/-- A unit whose flits reach the queue manager without a stitch: it lies in the Weft core's island. -/
def inWeftCore (u : Nat) : Bool := islandOf u == weftIsland

/-- What follows when queue q has an entry more: jobs become ready (R94), and an engine that waits at POPW goes on. -/
def State.entryArrived (s : State) (q : Nat) : State :=
  let c := s.rf QM_QCFG_CONSUMER q
  let s := s.settle
  if c < 0x440 then s.popwArrived c q else s

/-- What follows when an entry of unit u for queue q has landed: the port of a host ring learns of it (R499), and an engine
whose EXIT waits may go on (R150). -/
def State.entryLanded (s : State) (q u : Nat) : State :=
  let s := s.ringLanded q u
  if u < 0x440 then s.exitLanded u
  else match s.seam.landing.find? (fun a => 0x900 + a.1 == u && a.2.1 == q) with
    | some a => (s.setSeam { s.seam with landing := s.seam.landing.erase a }).post a.1 (.landed q a.2.2)
    | none => s

/-- QUEUE_ENTRY_LAND (R46): the oldest flit of the unit for the queue, an entry that has crossed to the queue manager.
An entry for an aliased queue goes on to the peer (R374). -/
def execQueueEntryLand (queue unit : Nat) (s : State) : Host.Outcome State Fault Refusal :=
  .next (match s.firstFlit queue unit with
    | none => s
    | some f =>
      if f.kind = .entry ∧ (f.crossed = true ∨ inWeftCore unit = true) then
        if !f.dropped && (s.aliasOf queue).isNone && (s.accessStops unitQueueManager (s.slotAddr queue (s.rf QM_QPTR_TAIL queue)) 64).isSome then
          s.stallSlot queue (s.rf QM_QPTR_TAIL queue)
        else
        let s := s.dropFlit f
        if f.dropped then s.entryLanded queue unit
        else match s.aliasOf queue with
          | some (n, r) => s.post n (.entry r unit f.payload)
          | none => ((s.landEntry queue f.payload).entryArrived queue).entryLanded queue unit
      else s)

/-- Unit u's pop reaches the queue manager (R46); at an aliased queue it goes on to the peer (R374). -/
def State.servePop (s : State) (queue unit : Nat) : State :=
  match s.aliasOf queue with
  | some (n, r) => if s.queueReach queue then s.post n (.pop r unit) else s.send (.popDenied queue unit)
  | none =>
    match s.popQueue queue unit with
    | (.entry w, t) => t.send (.popEntry queue unit w)
    | (.empty, t) => t.send (.popEmpty queue unit)
    | (.denied, t) => t.send (.popDenied queue unit)
    | (.stalled, t) => t

/-- A request of unit u under an epoch passes its first stitch, or needs none (R54). -/
def State.epochCurrent (s : State) (u epoch goal : Nat) : Bool := islandOf u == goal || epoch == s.epoch u

/-- An inbound endpoint of patch n is bound to a queue and pops it: the patch runs (R463, R472, R473). -/
def State.inboundPops (s : State) (n queue : Nat) : Bool :=
  s.patchRuns n && (List.range 8).any (fun j => s.bit QP_EPIN_EN (n * 8 + j) && s.rf QP_EPIN_QUEUE (n * 8 + j) == queue)

/-- Unit u pops a queue: a patch does so only through its endpoints. -/
def State.mayPop (s : State) (u queue : Nat) : Bool := u < 0xA00 || 0xA08 ≤ u || s.inboundPops (u - 0xA00) queue

/-- QUEUE_POP_REQUEST (R46): a pop that goes its way without a fault; a stale epoch is fenced (R54). -/
def execQueuePopRequest (queue : Nat) (unit : Requester) (s : State) : Host.Outcome State Fault Refusal :=
  .next (if !s.mayPop unit.unit queue then s
    else if s.islandStops weftIsland && !inWeftCore unit.unit then s.stallAt weftIsland
    else if s.epochCurrent unit.unit unit.epoch weftIsland then s.servePop queue unit.unit
    else s.fenceFlit unit.unit none)

/-- The flit of a kind on its way that has crossed its stitch, or needs none. -/
def State.arrived (s : State) (p : Flit → Bool) : Option Flit :=
  s.weft.flits.find? (fun f => p f && (f.crossed || inWeftCore f.producer))

/-- CREDIT_REQUEST (R48): the port's request reaches the queue manager and is served in arrival order; for an aliased
queue it goes to the peer (R374). -/
def execCreditRequest (queue unit : Nat) (s : State) : Host.Outcome State Fault Refusal :=
  .next (match s.arrived (fun f => f.kind == .request && f.queue == queue && f.producer == unit) with
    | none => s
    | some f =>
      let s := s.dropFlit f
      match s.aliasOf queue with
      | some (n, r) => s.post n (.creditRequest r unit)
      | none => { s with weft := { s.weft with waiting := s.weft.waiting ++ [(queue, unit)] } }.serve queue)

/-- A grant for a bolt peer goes to the unit there whose request is the oldest (R374). -/
def State.grantPeer (s : State) (queue n credits : Nat) : State :=
  match s.seam.asks.find? (fun a => a.1 == n && a.2.1 == queue) with
  | some a =>
    let p := s.port queue (0x900 + n)
    let s := s.setPort queue (0x900 + n) { p with credits := p.credits + credits }
    (s.setSeam { s.seam with asks := s.seam.asks.erase a }).post n (.grant queue a.2.2 credits)
  | none => s

/-- CREDIT_GRANT_ARRIVE (R47, R48): the oldest grant on its way to the port that has crossed its stitch, or needs none,
arrives; stalled pushes go. -/
def execCreditGrantArrive (queue unit : Nat) (s : State) : Host.Outcome State Fault Refusal :=
  .next (match s.arrived (fun f => f.grantTo queue unit) with
    | none => s
    | some f =>
      let s := s.dropFlit f
      if 0x900 ≤ unit ∧ unit < 0x908 then s.grantPeer queue (unit - 0x900) f.credits
      else
        let s := s.creditsArrive queue unit f.credits
        if unit < 0x440 then s.takeAsync unit else s)

/-- QUEUE_STALL (R50): the port has waited for a credit longer than QM_STALL_LIMIT. A limit of 0 switches off the report
as a whole, STALLED and QM_STALL_LAST with the event (DESIGN CHOICE: R57 names the event only). -/
def execQueueStall (queue unit : Nat) (s : State) : Host.Outcome State Fault Refusal :=
  .next (
    let p := s.port queue unit
    let limit := s.rf QM_STALL_LIMIT_LIMIT
    if p.stalled.isEmpty ∨ p.raised = true ∨ limit = 0 ∨ s.tb.count - p.since ≤ limit then s else
    let s := s.setPort queue unit { p with raised := true }
    let s := (s.sf QM_QSTAT_STALLED queue 1).maxf QM_QSTALL_MAX_TICKS queue (s.tb.count - p.since)
    ((s.sf QM_STALL_LAST_PRODUCER 0 unit).sf QM_STALL_LAST_QUEUE 0 queue).raise evQueueStall (queue * 4096 + unit))

/-- QUEUE_ENABLE: a QM_QCFG write with ENABLE 1 (R60, R61). -/
def execQueueEnable (requester queue depthLog grantLog consumer : Nat) (s : State) :
    Host.Outcome State Fault Refusal :=
  .next (s.atIsland requester weftIsland (fun s => s.writeQcfg requester queue true ⟨depthLog % 16, grantLog % 16, consumer % 4096⟩))

/-- QUEUE_DISABLE: a QM_QCFG write with ENABLE 0 (R60, R61). -/
def execQueueDisable (requester queue depthLog grantLog consumer : Nat) (s : State) :
    Host.Outcome State Fault Refusal :=
  .next (s.atIsland requester weftIsland (fun s => s.writeQcfg requester queue false ⟨depthLog % 16, grantLog % 16, consumer % 4096⟩))

/-- QUEUE_DRAIN_MARK (R61): the port's drain mark arrives behind its last entry. -/
def execQueueDrainMark (queue unit : Nat) (s : State) : Host.Outcome State Fault Refusal :=
  .next (match s.firstFlit queue unit with
    | none => s
    | some f =>
      if f.kind = .drain ∧ (f.crossed = true ∨ inWeftCore unit = true) then
        let s := s.dropFlit f
        { s with weft := { s.weft with drains := s.weft.drains.filter (fun d => !(d.1 == queue && d.2.1 == unit)) } }.endDisable queue
      else s)

/-- DRAIN_MARK_RESEND (R61): a drain mark that has not been acknowledged within 10 µs is sent again. -/
def execDrainMarkResend (queue unit : Nat) (s : State) : Host.Outcome State Fault Refusal :=
  .next (match s.weft.drains.find? (fun d => d.1 == queue && d.2.1 == unit) with
    | some d => if spansNs (s.tb.count - d.2.2) 10000 then s.sendDrain queue unit else s
    | none => s)

end Sys2Proof.Machine
end

