-- ==== Sys2Proof/Machine/Seam.lean ====
section
/-!
DEFINITION. The Seam link layer: enabling a link (R354, R380), codewords (R355), identification (R365), sending and
receiving units with replay and credits (R358 to R360), lane power (R362), fencing and forwarding (R364, R370, R372), and
what a unit does where it arrives (R373, R374).
-/

namespace Sys2Proof.Machine

open Reg Ob

/-- This die's number. -/
def State.self (s : State) : Nat := s.ob oBOLT_SELF

/-- Die n is a member of the bolt. -/
def State.member (s : State) (n : Nat) : Bool := natBit (s.rf SEAM_BOLT_MEMBERS) n

/-- Ticks in 2 µs, in 100 ms and in a superframe (R359, R366, R313), rounded up. -/
def twoMicros : Nat := 246
def hundredMillis : Nat := 12288000
def superframeTicks : Nat := 24447

/-- A message of admission (R366). -/
def isAdmission : SeamBody → Bool
  | .join _ _ _ => true
  | .chal _ _ _ _ _ => true
  | .proof _ _ _ _ => true
  | .admitted => true
  | .refuse _ => true
  | _ => false

/-- A unit of a die that enters the bolt: a message of admission, or a message of the epoch change that makes it a member, to
or from a die that is no member yet. R367 sends CHANGE and COMMIT to every new member, so R370's "messages of admission" take
these in. DEDUCED. -/
def State.entering (s : State) (u : SeamUnit) : Bool :=
  isAdmission u.body || (match u.body with
    | .change _ => !s.member u.dest
    | .commit _ => !s.member u.dest
    | .abandon _ => !s.member u.dest
    | .changeAck _ => !s.member u.src
    | .askOutcome _ => !s.member u.src
    | _ => false)

/-! ## Links -/

/-- A slot's lanes are present, and not both retired. -/
def State.slotUsable (s : State) (j : Nat) : Bool :=
  decide (j < s.die.variant.seamSlots) && (s.laneUsable (48 + 2 * j) || s.laneUsable (49 + 2 * j))

/-- Slot j belongs to an enabled link other than l. -/
def State.slotTaken (s : State) (l j : Nat) : Bool :=
  (List.range 8).any (fun k => k != l && s.bit SEAM_LINK_CTRL_ENABLE k && natBit (s.rf SEAM_LINK_CTRL_SLOT_MASK k) j)

/-- A write of SEAM_LINK_CTRL (R380). -/
def State.writeLinkCtrl (s : State) (u l v : Nat) : State :=
  if !(isThimble u || isPf0 u) || s.die.variant.boltMax == 0 then s
  else if s.bit SEAM_LINK_CTRL_ENABLE l then
    if natBit v 31 then s
    else
      let s := (s.sf SEAM_LINK_CTRL_ENABLE l 0).sf SEAM_LINK_STATE_STATE l linkDown
      (s.sf SEAM_LINK_STATE_LANES_UP l 0).sf SEAM_LINK_STATE_PEER_VALID l 0
  else
    let s := s.sf SEAM_LINK_CTRL_SLOT_MASK l v
    if !natBit v 31 then s
    else if (bitsSet 8 v).all (fun j => s.slotUsable j && !s.slotTaken l j) then
      ((s.sf SEAM_LINK_CTRL_ENABLE l 1).sf SEAM_LINK_STATE_STATE l linkLanes).refreshLink l
    else s.linkEvent l 0x05

/-- SEAM_LINK_ENABLE: a write of SEAM_LINK_CTRL with ENABLE 1. -/
def execSeamLinkEnable (requester link : Nat) (control : Half) (s : State) : Host.Outcome State Fault Refusal :=
  .next (s.atIsland requester 73 (fun s => s.writeLinkCtrl requester link (control ||| 0x80000000).toNat))

/-- The link's peer is a member. -/
def State.peerMember (s : State) (l : Nat) : Bool :=
  s.bit SEAM_LINK_STATE_PEER_VALID l && s.member (s.rf SEAM_LINK_STATE_PEER l)

/-- Link l is UP. -/
def State.linkIsUp (s : State) (l : Nat) : Bool := s.rf SEAM_LINK_STATE_STATE l == linkUp

/-- The block has a reserved header type (R357). -/
def badBlock (b : BitVec 80) : Bool := b.getLsbD 79

/-- A lane's elastic buffer, its level counted from half full, behind the header blocks of a codeword: a FILL block is deleted
where the buffer is more than half full, and one is inserted beside it where it is less than half full (R305). -/
def elasticLevel (level : Int) (headers : List (BitVec 80)) : Int :=
  (headers.filter (fun b => b == 0)).foldl (fun (l : Int) _ => if 0 < l then l - 1 else if l < 0 then l + 1 else l) level

/-- SEAM_CODEWORD_RECEIVE: a codeword on a lane of a link: whether it had errors, whether they can be corrected, the header
blocks it holds, and by how many blocks the lane's receiver has got ahead of the link layer since the codeword before. -/
def execSeamCodewordReceive (place : LinkLane) (errors uncorrectable : Bool) (blocks : CodewordBlocks) (s : State) :
    Host.Outcome State Fault Refusal :=
  .next (
    let link := place.link
    let lane := place.lane
    if !s.bit SEAM_LINK_CTRL_ENABLE link || !(s.linkLaneList link).contains lane || !s.laneHearsData lane then s
    else
      let x := s.slink link
      let level := max (-16) (min 16 (Tab.get 0 x.elastic lane + blocks.drift))
      let level := if uncorrectable then level else elasticLevel level blocks.headers
      let s := s.setLink link { x with elastic := x.elastic.set lane level }
      if uncorrectable then s.incf SEAM_CW_UNCORR_COUNT link
      else
        let s := if errors then s.incf SEAM_CW_CORR_COUNT link else s
        s.incf SEAM_BAD_BLOCKS_COUNT 0 (blocks.headers.filter badBlock).length)

/-- What an IDENT block finds, and the reason it reports (R365). A die found on a second link stays FOREIGN there. -/
def State.identFinds (s : State) (l boltId self : Nat) : Nat × Option Nat :=
  if s.ob oBOLT_ID = 0 ∨ boltId ≠ s.ob oBOLT_ID then (linkForeign, some 0x02)
  else if self = s.self then (linkForeign, some 0x03)
  else if (List.range 8).any (fun k => k != l && s.linkIsUp k && s.rf SEAM_LINK_STATE_PEER k == self) then (linkForeign, none)
  else (linkUp, some 0x01)

/-- SEAM_IDENT_RECEIVE: an IDENT block arrives: the sender's SELF, BOLT.ID, link number and LEADER bit. -/
def execSeamIdentReceive (link self boltId _peerLink : Nat) (_leader : Bool) (s : State) :
    Host.Outcome State Fault Refusal :=
  let st := s.rf SEAM_LINK_STATE_STATE link
  .next (if !s.bit SEAM_LINK_CTRL_ENABLE link || st == linkDown || st == linkLanes || st == linkFailed then s else
    let (next, reason) := s.identFinds link boltId (self % 8)
    let s := (s.sf SEAM_LINK_STATE_PEER link self).sf SEAM_LINK_STATE_PEER_VALID link 1
    if next = st then s
    else
      let s := s.sf SEAM_LINK_STATE_STATE link next
      match reason with
      | some r => s.linkEvent link r
      | none => s)

/-- SEAM_IDENT_BLOCK_SEND: once per superframe on the keeper lane (R358). -/
def execSeamIdentBlockSend (link : Nat) (s : State) : Host.Outcome State Fault Refusal :=
  let x := s.slink link
  let st := s.rf SEAM_LINK_STATE_STATE link
  .next (if s.bit SEAM_LINK_CTRL_ENABLE link && (s.keeper link).isSome
      && (st == linkIdent || st == linkUp || st == linkForeign)
      && (match x.identSent with
        | some t => decide (t + superframeTicks ≤ s.tb.count)
        | none => true) then
    (s.setLink link { x with identSent := some s.tb.count }).sendControl link
      (.seamIdent link s.self (s.ob oBOLT_ID) (s.ob oBOLT_STATE == 3))
  else s)

/-- SEAM_TIME_BLOCK_SEND: every 1,024 ticks on the keeper lane (R358). -/
def execSeamTimeBlockSend (link : Nat) (s : State) : Host.Outcome State Fault Refusal :=
  let x := s.slink link
  .next (if s.linkIsUp link && (s.keeper link).isSome
      && (match x.timeSent with
        | some t => decide (t + 1024 ≤ s.tb.count)
        | none => true) then
    (s.setLink link { x with timeSent := some s.tb.count }).sendControl link (.seamTime link s.now)
  else s)

/-! ## Offsets (R376) -/

/-- An offset lies beyond BOLT.TIME_TOL_TICKS. -/
def State.beyondTol (s : State) (d : Int) : Bool := decide ((s.ob oBOLT_TIME_TOL_TICKS : Int) < d.natAbs)

/-- Offers between this die and die n are suspended. -/
def State.offersSuspended (s : State) (n : Nat) : Bool :=
  s.beyondTol (Tab.get 0 s.seam.offsets n) || s.beyondTol (toSigned 32 (s.ob oBOLT_TIME_OFFSET))

/-- SEAM_TIME_RECEIVE: a TIME block with the peer's tick arrives `delay` ticks after it was sent. -/
def execSeamTimeReceive (link tick delay : Nat) (s : State) : Host.Outcome State Fault Refusal :=
  .next (if !s.linkIsUp link then s else
    let n := s.rf SEAM_LINK_STATE_PEER link
    let d := toSigned 48 ((s.now + 2 ^ 48 - (tick + delay) % 2 ^ 48) % 2 ^ 48)
    let was := s.beyondTol (Tab.get 0 s.seam.offsets n)
    let s := s.setSeam { s.seam with offsets := s.seam.offsets.set n d }
    let s := if s.bit SEAM_BOLT_VALID && s.rf SEAM_BOLT_LEADER == n then s.so oBOLT_TIME_OFFSET 0 (ofSigned 32 (clampSigned 32 d)) else s
    if s.beyondTol d && !was then s.raise 0x0914 n else s)

/-! ## Sending (R358 to R360) -/

/-- The unit carries payload codewords: a data unit of 10 blocks; otherwise a short one of 2 (R356). -/
def hasPayload : SeamBody → Bool
  | .creditRequest _ _ => false
  | .pop _ _ => false
  | .read _ _ => false
  | .grant _ _ _ => false
  | .popReply _ _ none _ => false
  | .landed _ _ => false
  | .written _ => false
  | _ => true

/-- The buffer that a unit occupies at the far end. -/
def bufferOf (u : SeamUnit) : Nat := u.vc * 8 + u.hop

/-- A unit may go out: the far end has room, and a peer that is no member gets units of its entry only (R360, R370). -/
def State.sendable (s : State) (l : Nat) (u : SeamUnit) : Bool :=
  decide (Tab.get 0 (s.slink l).spent (bufferOf u) < Config.seamCredits (bufferOf u))
    && (s.peerMember l || s.entering u)

/-- The lane that takes a unit: of those that carry units, the one with the fewest blocks queued in this tick. -/
def State.unitLane (s : State) (l : Nat) : Option Nat :=
  let x := s.slink l
  let blocks := fun n => if x.laneTick = s.tb.count then Tab.get 0 x.laneBlocks n else 0
  ((s.linkLaneList l).filter (fun n => s.laneState n == laneUp && !x.quiet.contains n)).foldl (fun m n =>
    match m with
    | none => some n
    | some b => if blocks n < blocks b then some n else some b) none

/-- The buffer for which credits are returned with the next header: the first that is owed any. -/
def owedBuffer (t : Tab Nat) : Option Nat := (List.range 32).find? (fun k => 0 < Tab.get 0 t k)

/-- Put a unit on a lane with a header. Answers the header's effect on the link. -/
def State.emit (s : State) (l lane seq : Nat) (u : SeamUnit) : State :=
  let x := s.slink l
  let k := owedBuffer x.owed
  let n := match k with
    | some k => min 63 (Tab.get 0 x.owed k)
    | none => 0
  let b := k.getD 0
  let h : SeamHeader := ⟨seq, (x.expected + 4095) % 4096, true, b % 8, b / 8, n⟩
  let old := if x.laneTick = s.tb.count then x.laneBlocks else []
  let s := s.setLink l { x with
    owed := match k with
      | some k => x.owed.set k (Tab.get 0 x.owed k - n)
      | none => x.owed
    unacked := 0
    laneTick := s.tb.count
    laneBlocks := old.set lane (Tab.get 0 old lane + if hasPayload u.body then 10 else 2) }
  (s.putBlocks l lane (if hasPayload u.body then 10 else 2)).send (.seamUnit l lane h u)

/-- Lanes that are quiet wake while the queue holds more than WAKE_UNITS units (R362). -/
def State.wakeLanes (s : State) (l : Nat) : State :=
  if s.bit SEAM_LINK_PWR_SLEEP_EN l && decide (s.rf SEAM_LINK_PWR_WAKE_UNITS l < (s.slink l).queue.length) then
    (s.slink l).quiet.foldl (fun s n =>
      if s.rf LANE_CTRL_TX_PWR n = 0 then s
      else (s.sendControl l (.seamPower l 1 (s.laneIndex l n))).requestPower n true 0 true) s
  else s

/-- SEAM_UNIT_SEND: the first unit of the link's queue that may go out is sent, and kept for replay. -/
def execSeamUnitSend (link : Nat) (s : State) : Host.Outcome State Fault Refusal :=
  .next (if !s.linkIsUp link then s else
    let s := s.wakeLanes link
    let x := s.slink link
    match x.queue.find? (s.sendable link), s.unitLane link with
    | some u, some lane =>
      if 1024 ≤ x.replay.length then s else
      let queue := x.queue.erase u
      let s := s.setLink link { x with
        queue := queue
        idleSince := if queue.length = 1 then s.tb.count else x.idleSince
        replay := x.replay ++ [(x.nextSeq, u)]
        progress := if x.replay.isEmpty then s.tb.count else x.progress
        nextSeq := (x.nextSeq + 1) % 4096
        spent := x.spent.set (bufferOf u) (Tab.get 0 x.spent (bufferOf u) + 1) }
      s.emit link lane x.nextSeq u
    | _, _ => s)

/-! ## Acknowledgement and replay (R359) -/

/-- Units that waited for a die's old route, or for a route, join the queue where they now may (R372). -/
def State.releaseParked (s : State) : State :=
  let done := (List.range 8).filter (fun n => match Tab.get none s.seam.oldRoute n with
    | some l => !((s.slink l).queue.any (fun u => u.dest == n && u.src == s.self)
        || (s.slink l).replay.any (fun r => r.2.dest == n && r.2.src == s.self))
    | none => false)
  let s := s.setSeam { s.seam with oldRoute := done.foldl (fun t n => t.set n none) s.seam.oldRoute }
  let l := s.seam.parked
  l.foldl (fun s u => s.postUnit u) (s.setSeam { s.seam with parked := [] })

/-- Units up to `seq` are acknowledged. -/
def State.acked (s : State) (l seq : Nat) : State :=
  let x := s.slink l
  let keep := x.replay.filter (fun r => decide (2048 ≤ (seq + 4096 - r.1) % 4096))
  if keep.length = x.replay.length then s
  else (s.setLink l { x with replay := keep, progress := s.tb.count, resends := 0 }).releaseParked

/-- The link fails (R359): its lanes retrain, and what is in the replay buffer stays. -/
def State.failLink (s : State) (l : Nat) : State :=
  let lanes := (s.linkLaneList l).filter (fun n => s.laneState n == laneUp)
  let s := ((s.sf SEAM_LINK_STATE_STATE l linkFailed).sf SEAM_LINK_STATE_LANES_UP l 0).linkEvent l 0x04
  let s := s.setLink l { s.slink l with resends := 0 }
  let s := lanes.foldl (fun s n => s.sf LANE_STATE_STATE n laneAdapt) s
  lanes.foldl (fun s n => s.enterLane n laneAdapt) s

/-- Resend every unit from `seq` on. Eight resends of one SEQ in a row fail the link. -/
def State.resend (s : State) (l seq : Nat) : State :=
  let x := s.slink l
  let again := x.replay.filter (fun r => decide ((r.1 + 4096 - seq) % 4096 < 2048))
  match again with
  | [] => s
  | (q, _) :: _ =>
    let n := if x.resentSeq = q then x.resends + 1 else 1
    let s := (s.incf SEAM_REPLAYS_COUNT l).setLink l { x with resentSeq := q, resends := n, progress := s.tb.count }
    let s := again.foldl (fun s r => match s.unitLane l with
      | some lane => s.emit l lane r.1 r.2
      | none => s) s
    if 8 ≤ n then s.failLink l else s

/-- SEAM_ACK_SEND. -/
def execSeamAckSend (link : Nat) (s : State) : Host.Outcome State Fault Refusal :=
  let x := s.slink link
  .next (if s.linkIsUp link && decide (0 < x.unacked) then
    (s.setLink link { x with unacked := 0 }).sendControl link (.seamAck link ((x.expected + 4095) % 4096))
  else s)

/-- SEAM_ACK_RECEIVE. -/
def execSeamAckReceive (link seq : Nat) (s : State) : Host.Outcome State Fault Refusal :=
  .next (if s.linkIsUp link then s.acked link seq else s)

/-- SEAM_NAK_RECEIVE. -/
def execSeamNakReceive (link seq : Nat) (s : State) : Host.Outcome State Fault Refusal :=
  .next (if s.linkIsUp link then s.resend link seq else s)

/-- SEAM_NAK_RESEND_TIMEOUT: the missing unit has not arrived within 2 µs of the NAK. -/
def execSeamNakResendTimeout (link : Nat) (s : State) : Host.Outcome State Fault Refusal :=
  let x := s.slink link
  .next (match x.nak with
    | some t =>
      if s.linkIsUp link && decide (t + twoMicros ≤ s.tb.count) then
        (s.setLink link { x with nak := some s.tb.count }).sendControl link (.seamNak link x.expected)
      else s
    | none => s)

/-- SEAM_REPLAY_TIMEOUT: 2 µs have passed without an acknowledgement. -/
def execSeamReplayTimeout (link : Nat) (s : State) : Host.Outcome State Fault Refusal :=
  let x := s.slink link
  .next (match x.replay with
    | (q, _) :: _ =>
      if s.linkIsUp link && decide (x.progress + twoMicros ≤ s.tb.count) then s.resend link q else s
    | [] => s)

/-! ## Lane power (R362) -/

/-- SEAM_LANE_QUIET: a lane whose link has been idle for IDLE_TICKS quiets its transmitter. -/
def execSeamLaneQuiet (lane : Nat) (s : State) : Host.Outcome State Fault Refusal :=
  .next (match s.linkOf lane with
    | some l =>
      let x := s.slink l
      if s.bit SEAM_LINK_PWR_SLEEP_EN l && s.linkIsUp l && s.laneState lane == laneUp && s.keeper l != some lane
          && !x.quiet.contains lane && decide (x.queue.length ≤ 1)
          && decide (x.idleSince + s.rf SEAM_LINK_PWR_IDLE_TICKS l ≤ s.tb.count) then
        ((s.setLink l { x with quiet := x.quiet ++ [lane] }).sendControl l (.seamPower l 0 (s.laneIndex l lane))).requestPower lane true 1 true
      else s
    | none => s)

/-- SEAM_POWER_RECEIVE: a POWER block for the lane with an index in the link: quiet, wake, or wake done. -/
def execSeamPowerReceive (link op index : Nat) (s : State) : Host.Outcome State Fault Refusal :=
  .next (match s.linkIsUp link, (s.linkLaneList link)[index]? with
    | true, some n =>
      if op = 0 then s.requestPower n false 1 true
      else if op = 1 then
        let awake := s.rf LANE_STATE_RX_PWR_NOW n == 0
        let s := s.requestPower n false 0 true
        if awake then s.answerWake n else s
      else if op = 2 then
        let x := s.slink link
        if s.rf LANE_CTRL_TX_PWR n = 0 then s.setLink link { x with quiet := x.quiet.filter (fun k => k != n) } else s
      else s
    | _, _ => s)

end Sys2Proof.Machine
end

