-- ==== Sys2Proof/Machine/ShuttleCommands.lean ====
section
/-!
DEFINITION. The meanings of the Shuttle's commands: staging (R87 to R92), triggers (R96), cancellation (R112), dispatch (R99 to
R102), late jobs (R104, R105), reports and completion records (R106 to R111), forecasts (R113) and offers to bolt peers
(R114 to R116, R376).
-/

namespace Sys2Proof.Machine

open Reg Ob

/-- The ARGS check of a job's type (R92). A patch job's ARGS reach the logic as they are (R465). -/
def argsOk (s : State) (j : Job) : Bool :=
  match kindOf j.typ with
  | some .engine => engineArgsOk j
  | some .lead => engineArgsOk j
  | some (.acc .matrix) => matrixArgsOk s j
  | some (.acc .bit) => if j.typ < 0x70 then codingArgsOk s j else matrixArgsOk s j
  | some (.acc .fft) => hemArgsOk s j
  | some (.acc _) => codingArgsOk s j
  | some .hem => hemArgsOk s j
  | _ => true

/-- DESCRIPTOR_STAGE: one descriptor of the next submission queue in round-robin order (R87, R89). -/
def execDescriptorStage (s : State) : Host.Outcome State Fault Refusal :=
  .next (if !s.stepMay 2 then s else match s.nextSq with
    | some k => (s.markStep 2).stage k argsOk
    | none => s)

/-- The first trigger flit for the Shuttle. -/
def shuttleTrigger : List Trigger → Option (Nat × Nat)
  | [] => none
  | .shuttle t d :: _ => some (t, d)
  | .dma _ _ _ :: r => shuttleTrigger r

/-- SHUTTLE_TRIGGER_FIRE: the oldest trigger flit for the Shuttle is processed (R96). -/
def execShuttleTriggerFire (s : State) : Host.Outcome State Fault Refusal :=
  .next (if !s.stepMay 3 then s else match shuttleTrigger s.tb.triggers with
    | some (t, d) => { s.markStep 3 with tb := { s.tb with triggers := s.tb.triggers.erase (.shuttle t d) } }.fireTrigger t
    | none => s)

/-- SH_TRIGGER_WRITE. -/
def execShTriggerWrite (requester p : Nat) (value : Half) (s : State) : Host.Outcome State Fault Refusal :=
  .next (s.atIsland requester weftIsland (fun s => s.writeTrigger requester p value.toNat))

/-- SH_CANCEL. -/
def execShCancel (requester p : Nat) (value : Word) (s : State) : Host.Outcome State Fault Refusal :=
  .next (s.atIsland requester weftIsland (fun s => s.writeCancel requester p value.toNat))

/-- JOB_CANCEL: the oldest cancellation takes effect. -/
def execJobCancel (s : State) : Host.Outcome State Fault Refusal :=
  .next (if !s.stepMay 4 then s else match s.sh.cancels with
    | (p, v, m) :: r => ((s.markStep 4).setSh { (s.markStep 4).sh with cancels := r }).cancelJobs p v m
    | [] => s)

/-- SQ_ENABLE: a write of SH_SQ_CFG with ENABLE 1. -/
def execSqEnable (requester index : Nat) (value : Word) (s : State) : Host.Outcome State Fault Refusal :=
  .next (s.atIsland requester weftIsland (fun s => s.writeSqCfg requester index (value ||| 0x8000000000000000).toNat))

/-- SQ_DISABLE: a write of SH_SQ_CFG with ENABLE 0. -/
def execSqDisable (requester index : Nat) (value : Word) (s : State) : Host.Outcome State Fault Refusal :=
  .next (s.atIsland requester weftIsland (fun s => s.writeSqCfg requester index (value &&& 0x7FFFFFFFFFFFFFFF).toNat))

/-! ## Dispatch -/

/-- Job j goes to unit u: it takes its inputs, and a job of no unit completes at once (R93, R95, R149). -/
def State.dispatch (s : State) (j : Job) (u : Nat) : State :=
  let s := s.takeInputs j
  let tick := s.shTick
  let filter := s.filterOf j
  let s := s.modJob j.id (fun j => { j with
    phase := .running, unit := u, attempts := j.attempts + 1, dispatchTick := tick, filter := filter })
  match kindOf j.typ, s.job j.id with
  | some .nop, some k => (s.endJob k.id (s.lateCode k codeDone (s.jobSlack k)) tick false).settle
  | some .engine, some k => (s.startEngineJob u k).settle
  | some .lead, some k => (s.startEngineJob u k).settle
  | _, _ => s.settle

/-- The read of the entries that a job takes stalls (R553). -/
def State.inputsStop (s : State) (j : Job) : Option (Nat × Option Nat) :=
  if j.taken then none else s.slotsStop j.inQueue j.inCount

/-- JOB_DISPATCH: the job that comes first is dispatched, at most four in a tick (R90, R99). -/
def execJobDispatch (s : State) : Host.Outcome State Fault Refusal :=
  .next (if 4 ≤ s.dispatchesNow || !s.stepMay 6 then s
    else match s.bestJob s.sh.jobs with
      | some (j, u) =>
        match s.inputsStop j with
        | some x => s.stallOn x
        | none =>
          let n := s.dispatchesNow
          let s := s.markStep 6
          (s.setSh { s.sh with dispatchTick := s.shTick, dispatchCount := n + 1 }).dispatch j u
      | none => s)

/-! ## Late jobs -/

/-- A running job is abandoned (R105): an accelerator or Hem instance stops, an engine or a patch gets its job-late
signal. -/
def State.abandonJob (s : State) (j : Job) : State :=
  let s := s.modJob j.id (fun j => { j with abandoned := true })
  if j.peer.isSome then s
  else match kindOf j.typ with
    | some .engine => s.jobLate j.unit
    | some .lead => s.jobLate j.unit
    | some (.acc _) => s.reportJob j.id ⟨codeDroppedLate, 0, 0, false⟩
    | some .hem => s.reportJob j.id ⟨codeDroppedLate, 0, 0, false⟩
    | some .patch =>
      (s.setPatch (j.unit - 0xA00) { s.patch (j.unit - 0xA00) with late := some s.tb.count }).send (.patchLate (j.unit - 0xA00))
    | _ => s

/-- JOB_LATE_CHECK: the late policy is applied to a job that has not completed (R104). A job that is only staged is marked
and completes with its plan, as one that is cancelled does (DEDUCED from R112). -/
def execJobLateCheck (job : Nat) (s : State) : Host.Outcome State Fault Refusal :=
  .next (if !s.stepMay 5 then s else match s.job job with
    | none => s
    | some j =>
      if !s.lateWaits j then s else
      let s := s.markStep 5
      match j.phase with
      | .staged => s.modJob j.id (fun j => { j with early := some codeDroppedLate })
      | .running => s.abandonJob j
      | _ => (s.endJob j.id codeDroppedLate s.shTick false).settle)

/-! ## Completion -/

/-- JOB_COMPLETION_REPORT: the oldest report is processed, at most four in a tick (R90, R106). -/
def execJobCompletionReport (s : State) : Host.Outcome State Fault Refusal :=
  .next (if !s.stepMay 1 then s else match s.sh.reports with
    | id :: r =>
      if 4 ≤ s.reportsNow then s
      else
        let n := s.reportsNow
        let s := s.markStep 1
        ((s.setSh { s.sh with reports := r, reportTick := s.shTick, reportCount := n + 1 }).processReport id).settle
    | [] => s)

/-- The ended job whose record goes next: its outputs have landed, and no job of its completion queue ended before it
(R111). -/
def State.nextRecord (s : State) : Option Job :=
  s.sh.jobs.find? (fun j => j.phase == .ended && s.outputsLanded j && s.firstEnded j)

/-- COMPLETION_RECORD_PUSH (R110, R111). -/
def execCompletionRecordPush (s : State) : Host.Outcome State Fault Refusal :=
  .next (match s.nextRecord with
    | some j => s.pushRecord j
    | none => s)

/-! ## Forecasts -/

/-- FORECAST_SEND: NEXT_USE of an island goes to the power manager when it has become earlier than the value last sent, or
1,024 ticks after that. -/
def execForecastSend (island : Nat) (s : State) : Host.Outcome State Fault Refusal :=
  .next (if 72 ≤ island then s else
    let v := (s.nextUse island).map (fun d => s.shTick + d)
    let last := s.sh.sent.find? (fun e => e.1 == island)
    let due := match last with
      | none => true
      | some (_, w, t) => decide (t + 1024 ≤ s.shTick) || (match v, w with
        | some a, some b => decide (a < b)
        | some _, none => true
        | none, _ => false)
    if due then s.setSh { s.sh with sent := s.sh.sent.set island (v, s.shTick), forecasts := s.sh.forecasts ++ [(island, v)] }
    else s)

/-! ## Offers to bolt peers -/

/-- Spare instances of a type: free ones beyond every partition's unused guarantee (R376). -/
def State.spareOf (s : State) (t : AccType) : Nat :=
  (s.freeAcc t).length - (partitions.map (fun q => if s.assigned q then s.guarantee q t - s.busyCount q t else 0)).sum

/-- The accelerator types in the order of an advertisement. -/
def accTypes : List AccType := [.ldpcDec, .ldpcEnc, .turbo, .polar, .fft, .matrix, .bit]

/-- The other members. -/
def State.peers (s : State) : List Nat := (List.range 8).filter (fun n => n != s.self && s.member n)

/-- Offers are on here and the die is a member. -/
def State.offersOn (s : State) : Bool := s.ob oBOLT_OFFERS_EN == 1 && s.bit SEAM_BOLT_VALID

/-- OFFER_ADVERTISE: every 1,024 ticks. -/
def execOfferAdvertise (s : State) : Host.Outcome State Fault Refusal :=
  .next (if s.offersOn && (match s.seam.advertTick with
      | some t => decide (t + 1024 ≤ s.tb.count)
      | none => true) then
    let l := accTypes.map s.spareOf
    s.peers.foldl (fun s n => s.post n (.advert l)) (s.setSeam { s.seam with advertTick := some s.tb.count })
  else s)

/-- The instances that a job may use: its own if it is pinned, else every one of its type. -/
def Job.instances (j : Job) (t : AccType) : List Nat := if j.pin then [j.unitField] else accUnits t

/-- W: the time until the earliest instance that a job may use becomes free (R114): 0 where it may take one now. -/
def State.waitFor (s : State) (j : Job) (t : AccType) : Nat :=
  if (s.unitChoice j).isSome then 0
  else (((s.sh.jobs.filter (fun k => k.phase == .running && k.peer == none && k.accType == some t
      && (j.instances t).contains k.unit)).map (fun k => k.dispatchTick + k.estimate - s.shTick)).min?).getD 0

/-- A job names host memory in its ARGS (R376). -/
def Job.namesHost (j : Job) : Bool :=
  (List.range 4).any (fun i => match regionOf (j.addr i) with
    | .host _ => true
    | _ => false)

/-- A ready job is to be offered (R114). -/
def State.offerable (s : State) (j : Job) : Bool :=
  match j.accType with
  | some t => j.part < 8 && j.phase == .ready && j.offerOk && !j.offeredOnce && !j.namesHost && s.offersOn
      && decide (s.jobSlack j < s.waitFor j t + j.estimate)
  | none => false

/-- The input entries of a job, before it has taken them. -/
def State.inputsOf (s : State) (j : Job) : List (List Carried) :=
  if j.taken then j.inputs
  else (List.range j.inCount).map (fun i => s.peek j.inQueue (turnsNeed j.inQueue j.id s.sh.turns - j.inCount + i))

/-- A number's place in the order of spare capacity last advertised, the largest first. -/
def insertBySpare (f : Nat → Nat) (n : Nat) : List Nat → List Nat
  | [] => [n]
  | m :: r => if f m < f n then n :: m :: r else m :: insertBySpare f n r

/-- The index of an accelerator type in an advertisement. -/
def accTypeIndex (t : AccType) : Nat := accTypes.idxOf t

/-- OFFER_SEND: the first job that is to be offered goes to the peers. -/
def execOfferSend (s : State) : Host.Outcome State Fault Refusal :=
  .next (match s.sh.jobs.find? s.offerable with
    | some j =>
      let spare := fun n => Tab.get 0 s.sh.adverts (n * 8 + (j.accType.map accTypeIndex).getD 0)
      let order := (s.peers.filter (fun n => !s.offersSuspended n)).foldr (insertBySpare spare) []
      if order.isEmpty then s else
      let l := s.inputsOf j
      let s := s.modJob j.id (fun j => { j with
        offeredOnce := true, offerUntil := some (s.shTick + s.ob oSHUTTLE_OFFER_TIMEOUT_TICKS) })
      order.foldl (fun s n => s.post n (.offer j.id j.desc l)) s
    | none => s)

/-- The oldest arrival that a function accepts, removed from the others. -/
def State.takeArrival {α : Type} (s : State) (f : SeamBody → Option α) : Option (Nat × α) × State :=
  match s.seam.arrivals.findSome? (fun a => (f a.2).map (fun x => (a, x))) with
  | some (a, x) => (some (a.1, x), s.setSeam { s.seam with arrivals := s.seam.arrivals.erase a })
  | none => (none, s)

/-- OFFER_RECEIVE: the oldest offer is accepted, and an instance reserved, while there is spare capacity. -/
def execOfferReceive (s : State) : Host.Outcome State Fault Refusal :=
  .next (match s.takeArrival (fun b => match b with
      | .offer k d i => some (k, d, i)
      | _ => none) with
    | (some (n, k, d, i), s) =>
      match (Job.staged 0 0 0 0 d).accType with
      | some t =>
        if s.offersOn && !s.offersSuspended n && decide (0 < s.spareOf t) then
          match s.freeAcc t with
          | u :: _ =>
            (s.setSh { s.sh with reservations := s.sh.reservations
              ++ [⟨n, k, u, s.shTick + s.ob oSHUTTLE_OFFER_TIMEOUT_TICKS, d, i, argsOk s (Job.staged 0 (8 + n) 0 0 d), false⟩] }).post n (.offerAccept k)
          | [] => s
        else s
      | none => s
    | (none, s) => s)

/-- OFFER_ACCEPT: the oldest acceptance is processed; the first in time takes the job, another is answered with a
withdrawal. -/
def execOfferAccept (s : State) : Host.Outcome State Fault Refusal :=
  .next (if !s.stepMay 7 then s else match s.takeArrival (fun b => match b with
      | .offerAccept k => some k
      | _ => none) with
    | (some (n, k), s) =>
      match s.job k with
      | some j =>
        let open_ := match j.offerUntil with
          | some t => decide (s.shTick ≤ t)
          | none => false
        if j.phase == .ready && open_ && s.atHead j then
          let tick := s.shTick
          let s := (s.incf SH_OFFERED_COUNT_COUNT j.part).takeInputs j
          let s := s.modJob k (fun j => { j with
            phase := .running, unit := 0x900 + n, attempts := j.attempts + 1, dispatchTick := tick, peer := some n,
            offerUntil := none })
          (s.post n (.offerTake k)).settle
        else s.post n (.offerWithdraw k)
      | none => s.post n (.offerWithdraw k)
    | (none, s) => s)

/-- OFFER_TIMEOUT: offers whose time has passed stay local, and reservations whose time has passed are released. -/
def execOfferTimeout (s : State) : Host.Outcome State Fault Refusal :=
  let t := s.shTick
  .next (s.setSh { s.sh with
    jobs := s.sh.jobs.map (fun j => match j.offerUntil with
      | some u => if u < t then { j with offerUntil := none } else j
      | none => j)
    reservations := s.sh.reservations.filter (fun r => r.started || decide (t ≤ r.untilTick)) })

end Sys2Proof.Machine
end

