-- ==== Sys2Proof/Machine/Bolt.lean ====
section
/-!
DEFINITION. Bolts: forming one alone (R363), admission (R366), epoch changes (R367), heartbeats and loss (R368), removal of a peer
(R369, R370), routes (R372), remote reads (R373), events of peers (R375), and the bolt's commands (R381).
-/

namespace Sys2Proof.Machine

open Reg Ob

/-- The values of BOLT.STATE. -/
def boltAlone : Nat := 0
def boltJoining : Nat := 1
def boltMember : Nat := 2
def boltLeader : Nat := 3

/-- BOLT.STATE. -/
def State.boltState (s : State) : Nat := s.ob oBOLT_STATE

/-- This die's membership as its registers and objects show it. -/
def State.setMembership (s : State) (st members epoch leader aepoch : Nat) : State :=
  let s := ((s.so oBOLT_STATE 0 st).so oBOLT_MEMBERS 0 members).so oBOLT_EPOCH 0 epoch
  let s := ((s.sf SEAM_BOLT_MEMBERS 0 members).sf SEAM_EPOCH_EPOCH 0 epoch).sf SEAM_BOLT_LEADER 0 leader
  (s.sf SEAM_BOLT_AEPOCH 0 aepoch).sf SEAM_BOLT_VALID 0 (if boltMember ≤ st then 1 else 0)

/-- This die stands alone. -/
def State.standAlone (s : State) : State := s.setMembership boltAlone 0 0 0 0

/-- A bolt of this die alone, at epoch 1 (R363). -/
def State.formAlone (s : State) : State :=
  (s.setMembership boltLeader (2 ^ s.self) 1 s.self 1).sf QM_EPOCH_EPOCH (0x900 + s.self) 1

/-- BOLT_FORM_ALONE: a founder forms a bolt; `reachable` says that a bolt can be reached through a link in UP. -/
def execBoltFormAlone (reachable : Bool) (s : State) : Host.Outcome State Fault Refusal :=
  .next (if s.ob oBOLT_FOUNDER == 1 && s.ob oBOLT_ID != 0 && decide (s.boltState ≤ boltJoining)
      && !(reachable && (List.range 8).any s.linkIsUp) then s.formAlone else s)

/-! ## Admission (R366) -/

/-- The bytes that a signature of admission covers. -/
def State.signed (s : State) (tag : List Byte) (self : Nat) (nc nl tail : List Byte) : List Byte :=
  Config.shake256 (tag ++ valBytes 8 (s.ob oBOLT_ID) ++ valBytes 1 self ++ nc ++ nl ++ tail)

/-- "CHAL" and "PROOF". -/
def tagChal : List Byte := [0x43, 0x48, 0x41, 0x4C]
def tagProof : List Byte := [0x50, 0x52, 0x4F, 0x4F, 0x46]

/-- A certificate's key is listed in BOLT.MEMBER_KEYS. -/
def State.keyListed (s : State) (cert : List Byte) : Bool :=
  let l := s.dom oBOLT_MEMBER_KEYS
  (List.range (l.length / 64)).any (fun i => sliceBytes l (64 * i) 64 == Config.certDigest cert)

/-- Send a message of admission to die n: on the link it was heard on, else on the first link in UP. -/
def State.postAdmission (s : State) (n : Nat) (b : SeamBody) : State :=
  let l := match Tab.get none s.seam.paths n with
    | some l => some l
    | none => (List.range 8).find? s.linkIsUp
  match l with
  | some l => let x := s.slink l; s.setLink l { x with queue := x.queue ++ [s.newUnit n b] }
  | none => s.setSeam { s.seam with parked := s.seam.parked ++ [s.newUnit n b] }

/-- Send die n a message of an epoch change: by the routes among members, else the way admission goes. -/
def State.postChange (s : State) (n : Nat) (b : SeamBody) : State :=
  if s.member s.self && s.member n then s.post n b else s.postAdmission n b

/-- This side refuses die n (R366). -/
def State.refuseJoin (s : State) (n reason : Nat) : State :=
  ((s.so oBOLT_LAST_REFUSAL 0 reason).postAdmission n (.refuse reason)).raise 0x0911 reason

/-- The candidate sends JOIN: to the peer of its first link in UP, which passes it on to the leader. -/
def State.sendJoin (s : State) (nonce : List Byte) : State :=
  match (List.range 8).find? s.linkIsUp with
  | some l =>
    let n := s.rf SEAM_LINK_STATE_PEER l
    (s.setSeam { s.seam with joining := some ⟨n, 1, s.tb.count, nonce, [], []⟩, retryAt := 0 }).postAdmission n
      (.join (s.ob oBOLT_ID) nonce s.die.certificate)
  | none => s

/-- BOLT.COMMAND 1. -/
def State.joinCommand (s : State) (nonce : List Byte) : State :=
  if s.boltState = boltAlone ∧ s.ob oBOLT_ID ≠ 0 then (s.so oBOLT_STATE 0 boltJoining).sendJoin nonce else s

/-- BOLT_COMMAND_JOIN: BOLT.COMMAND 1; the nonce is what the random number generator gives. -/
def execBoltCommandJoin (nonce : List Byte) (s : State) : Host.Outcome State Fault Refusal := .next (s.joinCommand nonce)

/-- BOLT_JOIN_RETRY: 1 s after a refusal JOIN may be sent again. -/
def execBoltJoinRetry (nonce : List Byte) (s : State) : Host.Outcome State Fault Refusal :=
  .next (if s.boltState = boltJoining ∧ s.seam.joining = none ∧ s.seam.retryAt ≠ 0 ∧ s.seam.retryAt ≤ s.tb.count then
    s.sendJoin nonce
  else s)

/-- How many members a mask has. -/
def memberCount (m : Nat) : Nat := (bitsSet 8 m).length

/-- The reason for which the leader refuses a JOIN of die n, none where it passes. `most` is the least MAX_DEVICES among
the members. -/
def State.joinFault (s : State) (n most : Nat) (cert : List Byte) : Option Nat :=
  if !Config.certOk cert then some 1
  else if !s.keyListed cert then some 2
  else if s.member n || n == s.self then some 3
  else if min most s.die.variant.boltMax < memberCount (s.rf SEAM_BOLT_MEMBERS ||| s.seam.admitted) + 1 then some 4
  else none

/-- BOLT_JOIN: the leader takes the oldest JOIN. -/
def execBoltJoin (nonce : List Byte) (most : Nat) (s : State) : Host.Outcome State Fault Refusal :=
  .next (if s.boltState ≠ boltLeader then s else
    match s.takeArrival (fun b => match b with
      | .join id nc c => some (id, nc, c)
      | _ => none) with
    | (some (n, id, nc, c), s) =>
      if id ≠ s.ob oBOLT_ID then s
      else match s.joinFault n most c with
        | some r => s.refuseJoin n r
        | none =>
          let e := s.rf SEAM_EPOCH_EPOCH
          let sig := Config.ed448Sign (s.signed tagChal s.self nc nonce (valBytes 4 e))
          let a : Admission := ⟨n, 2, s.tb.count, nc, nonce, c⟩
          (s.setSeam { s.seam with joiners := s.seam.joiners.filter (fun x => x.peer != n) ++ [a] }).postAdmission n
            (.chal id e nonce s.die.certificate sig)
    | (none, s) => s)

/-- The reason for which the candidate refuses a CHAL. -/
def State.chalFault (s : State) (n e : Nat) (nc nl cert sig : List Byte) : Option Nat :=
  if !Config.ed448Ok cert (s.signed tagChal n nc nl (valBytes 4 e)) sig then some 5
  else if !Config.certOk cert then some 1
  else if !s.keyListed cert then some 2
  else none

/-- The exchange of this candidate has ended without success; JOIN is sent no sooner than 1 s from now. -/
def State.endJoining (s : State) : State :=
  s.setSeam { s.seam with joining := none, retryAt := s.tb.count + ticksPerSecond }

/-- BOLT_CHAL: the candidate takes the oldest CHAL and answers with PROOF. -/
def execBoltChal (s : State) : Host.Outcome State Fault Refusal :=
  .next (match s.seam.joining, s.takeArrival (fun b => match b with
      | .chal id e nl c g => some (id, e, nl, c, g)
      | _ => none) with
    | some a, (some (n, id, e, nl, c, g), s) =>
      if id ≠ s.ob oBOLT_ID ∨ a.stage ≠ 1 then s
      else match s.chalFault n e a.nonceC nl c g with
        | some r => (s.refuseJoin n r).endJoining
        | none =>
          let m := sliceBytes (Tab.get [] s.measures 0) 0 64
          let sig := Config.ed448Sign (s.signed tagProof s.self a.nonceC nl m)
          (s.setSeam { s.seam with joining := some { a with peer := n, stage := 3, tick := s.tb.count, nonceL := nl } }).postAdmission n
            (.proof id m s.now sig)
    | _, _ => s)

/-- BOLT_PROOF: the leader takes the oldest PROOF; `measured` is the candidate's tick by the leader's TIME block
measurement. -/
def execBoltProof (measured : Nat) (s : State) : Host.Outcome State Fault Refusal :=
  .next (match s.takeArrival (fun b => match b with
      | .proof id m t g => some (id, m, t, g)
      | _ => none) with
    | (some (n, id, m, t, g), s) =>
      match s.seam.joiners.find? (fun a => a.peer == n) with
      | some a =>
        let s := s.setSeam { s.seam with joiners := s.seam.joiners.filter (fun x => x.peer != n) }
        if id ≠ s.ob oBOLT_ID then s
        else if !Config.ed448Ok a.certificate (s.signed tagProof n a.nonceC a.nonceL m) g then s.refuseJoin n 5
        else if s.beyondTol (slack t measured) then s.refuseJoin n 6
        else (s.setSeam { s.seam with admitted := s.seam.admitted ||| 2 ^ n }).postAdmission n .admitted
      | none => s
    | (none, s) => s)

/-- BOLT_ADMIT: the candidate takes ADMIT, which ends the exchange; it becomes a member at an epoch change. -/
def execBoltAdmit (s : State) : Host.Outcome State Fault Refusal :=
  .next (match s.takeArrival (fun b => match b with
      | .admitted => some ()
      | _ => none) with
    | (some _, s) => s.setSeam { s.seam with joining := none, retryAt := 0 }
    | (none, s) => s)

/-- BOLT_REFUSE: the other side's REFUSE ends the exchange. -/
def execBoltRefuse (s : State) : Host.Outcome State Fault Refusal :=
  .next (match s.takeArrival (fun b => match b with
      | .refuse r => some r
      | _ => none) with
    | (some (n, r), s) =>
      let s := s.so oBOLT_LAST_REFUSAL 0 r
      if s.seam.joining.isSome then s.endJoining
      else s.setSeam { s.seam with joiners := s.seam.joiners.filter (fun x => x.peer != n) }
    | (none, s) => s)

/-- BOLT_ADMISSION_TIMEOUT: an exchange whose next step has not come within 100 ms ends with reason 7. -/
def execBoltAdmissionTimeout (s : State) : Host.Outcome State Fault Refusal :=
  let late := fun (a : Admission) => decide (a.tick + hundredMillis < s.tb.count)
  .next (
    let s := match s.seam.joining with
      | some a => if late a then (s.refuseJoin a.peer 7).endJoining else s
      | none => s
    (s.seam.joiners.filter late).foldl (fun s a =>
      (s.setSeam { s.seam with joiners := s.seam.joiners.filter (fun x => x.peer != a.peer) }).refuseJoin a.peer 7) s)

/-! ## Routes (R372) -/

/-- The dies that `n` links reach from die a over a set of links (die, far die, link number at the die). -/
def reach (links : List (Nat × Nat × Nat)) (a : Nat) : Nat → List Nat
  | 0 => [a]
  | n + 1 =>
    let r := reach links a n
    (List.range 8).filter (fun d => r.contains d || links.any (fun l => r.contains l.1 && l.2.1 == d))

/-- The distance from die a to die b in links, none where there is no way of at most 7. -/
def hops (links : List (Nat × Nat × Nat)) (a b : Nat) : Option Nat :=
  (List.range 8).find? (fun n => (reach links a n).contains b)

/-- The route from die a to die b: hops and first link; fewest hops, then the lowest link number (R372). -/
def routeOf (links : List (Nat × Nat × Nat)) (a b : Nat) : Nat × Nat :=
  match hops links a b with
  | none => (0, 0)
  | some 0 => (0, 0)
  | some (n + 1) =>
    let first := (links.filter (fun l => l.1 == a && hops links l.2.1 b == some n)).map (fun l => l.2.2)
    (n + 1, first.foldl min (first.headD 0))

/-! ## Epoch changes (R367) -/

/-- The windows and the queue range that this die has staged for peer n. -/
def State.stagedRights (s : State) (n : Nat) : SeamRights :=
  ⟨(List.range 8).map (fun w =>
      let i := n * 8 + w
      ⟨s.rf SEAM_IN_BASE_BASE i, s.rf SEAM_IN_LIMIT_LAST i, s.bit SEAM_IN_BASE_RD i, s.bit SEAM_IN_BASE_W i⟩),
   s.bit SEAM_IN_QUEUE_EN n, s.rf SEAM_IN_QUEUE_BASE n, s.rf SEAM_IN_QUEUE_LAST n⟩

/-- The aliases that this die has staged. -/
def State.stagedAliases (s : State) : Tab SeamAlias :=
  (List.range 16).foldl (fun t a => t.set a ⟨s.bit SEAM_QALIAS_EN a, s.rf SEAM_QALIAS_PEER a, s.rf SEAM_QALIAS_REMOTE_BASE a,
    s.rf SEAM_QALIAS_LOCAL_LAST a, s.rf SEAM_QALIAS_LOCAL_BASE a⟩) []

/-- The lowest die of a mask. -/
def lowestDie (m : Nat) : Nat := (bitsSet 8 m).headD 0

/-- T_E: the first multiple of 61,440 ticks at least BOLT.CHANGE_LEAD_TICKS from now, and later than that of a proposal to
the same epoch number that was abandoned. -/
def State.changeTick (s : State) : Nat :=
  let t := ceilDiv (s.tb.count + s.ob oBOLT_CHANGE_LEAD_TICKS) 61440 * 61440
  match s.seam.proposal with
  | some p => if p.epoch = s.rf SEAM_EPOCH_EPOCH + 1 then max t (p.te + 61440) else t
  | none => t

/-- The new members that a proposal names. -/
def State.newMembers (s : State) : Nat :=
  ((bitsSet 8 (s.rf SEAM_BOLT_MEMBERS ||| s.seam.admitted)).filter (fun n =>
    !s.seam.lost.contains n && !natBit s.seam.leaving n)).foldl (fun m n => m ||| 2 ^ n) 0

/-- The change as die n gets it. `links` are the links in UP among the members, `rights` what each die allows each. -/
def State.changeFor (s : State) (new leader te n : Nat) (links : List (Nat × Nat × Nat))
    (rights : List (Nat × Nat × SeamRights)) : SeamChange :=
  let e := s.rf SEAM_EPOCH_EPOCH + 1
  let links := links.filter (fun l => natBit new l.1 && natBit new l.2.1)
  { epoch := e, members := new, leader := leader, te := te
    aepochs := (List.range 8).map (fun m =>
      if natBit (s.rf SEAM_BOLT_MEMBERS) m then (if m = s.self then s.rf SEAM_BOLT_AEPOCH else s.epoch (0x900 + m)) else e % 256)
    routes := (List.range 8).map (fun m => if natBit new n && natBit new m && m != n then routeOf links n m else (0, 0))
    rights := (List.range 8).map (fun m =>
      if m = s.self then s.stagedRights n
      else ((rights.find? (fun r => r.1 == m && r.2.1 == n)).map (fun r => r.2.2)).getD SeamRights.none) }

/-- EPOCH_CHANGE_PROPOSE: the leader, or the candidate leader, proposes. It is told the links in UP among the members
(die, far die, link number at the die), what the other dies allow, and which dies are eligible to lead. -/
def execEpochChangePropose (links : List (Nat × Nat × Nat)) (rights : List (Nat × Nat × SeamRights)) (eligible : Nat)
    (s : State) : Host.Outcome State Fault Refusal :=
  let open_ := match s.seam.proposal with
    | some p => p.outcome != some false
    | none => false
  .next (if !(s.boltState == boltLeader || s.seam.candidate) || open_ then s else
    let old := s.rf SEAM_BOLT_MEMBERS
    let new := s.newMembers
    let able := new &&& (if s.ob oBOLT_ELIGIBLE == 1 then eligible ||| 2 ^ s.self else eligible)
    let leader := if s.seam.candidate then s.self else lowestDie able
    let te := s.changeTick
    let e := s.rf SEAM_EPOCH_EPOCH + 1
    let mine := s.changeFor new leader te s.self links rights
    let s := s.setSeam { s.seam with
      proposal := some ⟨e, te, old, new, [s.self], none⟩
      held := some ⟨mine, s.self, none⟩
      ackedEpoch := e }
    (bitsSet 8 (old ||| new)).foldl (fun s n =>
      if n = s.self then s else s.postChange n (.change (s.changeFor new leader te n links rights))) s)

/-- EPOCH_CHANGE_RECEIVE: a member checks the oldest CHANGE against its epoch and acknowledges one for each epoch number,
until 8,192 ticks before T_E; a candidate takes one that makes it a member. -/
def execEpochChangeReceive (s : State) : Host.Outcome State Fault Refusal :=
  .next (match s.takeArrival (fun b => match b with
      | .change c => some c
      | _ => none) with
    | (some (n, c), s) =>
      let applies := if boltMember ≤ s.boltState then c.epoch == s.rf SEAM_EPOCH_EPOCH + 1
        else s.boltState == boltJoining && natBit c.members s.self
      if applies && s.seam.ackedEpoch != c.epoch && decide (s.tb.count + 8192 ≤ c.te) then
        (s.setSeam { s.seam with held := some ⟨c, n, none⟩, ackedEpoch := c.epoch }).postChange n (.changeAck c.epoch)
      else s
    | (none, s) => s)

/-- More than half of the old members and every new member have acknowledged. -/
def Proposal.carried (p : Proposal) : Bool :=
  decide (memberCount p.old < 2 * ((bitsSet 8 p.old).filter p.acks.contains).length)
    && (bitsSet 8 p.new).all (fun n => p.acks.contains n)

/-- EPOCH_CHANGE_DECIDE: 8,192 ticks before T_E the proposer sends COMMIT or ABANDON. -/
def execEpochChangeDecide (s : State) : Host.Outcome State Fault Refusal :=
  .next (match s.seam.proposal with
    | some p =>
      if p.outcome.isSome ∨ s.tb.count + 8192 < p.te then s
      else
        let ok := p.carried
        let held := match s.seam.held with
          | some h => if h.proposer = s.self then some { h with outcome := some ok } else some h
          | none => none
        let s := s.setSeam { s.seam with proposal := some { p with outcome := some ok }, held := held,
                                         ackedEpoch := if ok then s.seam.ackedEpoch else 0 }
        (bitsSet 8 (p.old ||| p.new)).foldl (fun s n =>
          if n = s.self then s else s.postChange n (if ok then .commit p.epoch else .abandon p.epoch)) s
    | none => s)

/-- The outcome of the change that this die holds. -/
def State.heldOutcome (s : State) (n epoch : Nat) (ok : Bool) : State :=
  match s.seam.held with
  | some h =>
    if h.proposer = n ∧ h.change.epoch = epoch then
      if ok then s.setSeam { s.seam with held := some { h with outcome := some true } }
      else s.setSeam { s.seam with held := none, ackedEpoch := 0 }
    else s
  | none => s

/-- EPOCH_COMMIT_RECEIVE. -/
def execEpochCommitReceive (s : State) : Host.Outcome State Fault Refusal :=
  .next (match s.takeArrival (fun b => match b with
      | .commit e => some e
      | _ => none) with
    | (some (n, e), s) => s.heldOutcome n e true
    | (none, s) => s)

/-- EPOCH_ABANDON_RECEIVE: the die keeps its epoch, and may acknowledge another CHANGE to the same number. -/
def execEpochAbandonReceive (s : State) : Host.Outcome State Fault Refusal :=
  .next (match s.takeArrival (fun b => match b with
      | .abandon e => some e
      | _ => none) with
    | (some (n, e), s) => s.heldOutcome n e false
    | (none, s) => s)

/-- EPOCH_CHANGE_NO_OUTCOME: T_E has come without an outcome; the die keeps its epoch and asks the proposer. -/
def execEpochChangeNoOutcome (s : State) : Host.Outcome State Fault Refusal :=
  .next (match s.seam.held with
    | some h => if h.outcome = none ∧ h.change.te ≤ s.tb.count then s.postChange h.proposer (.askOutcome h.change.epoch) else s
    | none => s)

/-! ## Removing a peer (R369, R370) -/

/-- Offered jobs that run on die n end with FENCED; those that run here for it are dropped (R116, R369). -/
def State.endOffers (s : State) (n : Nat) : State :=
  let lost := s.sh.jobs.filter (fun j => j.peer == some n && j.phase == .running)
  let s := lost.foldl (fun s j => (s.endJob j.id codeFenced s.shTick false).shEvent j.part 5) s
  (s.setSh { s.sh with jobs := s.sh.jobs.filter (fun j => j.part != 8 + n),
                       reservations := s.sh.reservations.filter (fun r => r.peer != n) }).settle

/-- The unit is a write to a peer's memory. -/
def isWrite : SeamBody → Bool
  | .writeWord _ _ _ => true
  | .writeBytes _ _ _ => true
  | _ => false

/-- The unit comes from or goes to die n. -/
def concerns (n : Nat) (u : SeamUnit) : Bool := u.src == n || u.dest == n

/-- Every unit from or to die n is discarded on link l. -/
def State.purgeLink (s : State) (n l : Nat) : State :=
  let x := s.slink l
  let gone := x.queue.filter (concerns n) ++ (x.replay.filter (fun r => concerns n r.2)).map (fun r => r.2)
  let writes := (x.queue.filter (fun u => u.dest == n && isWrite u.body)).length
  if gone.isEmpty then s else
  ((s.setLink l { x with queue := x.queue.filter (fun u => !concerns n u), replay := x.replay.filter (fun r => !concerns n r.2) }).incf
    SEAM_FENCED_COUNT l gone.length).incf SEAM_DENIED_COUNT 0 writes

/-- Units from or to die n that wait for a route are discarded. -/
def State.purgeParked (s : State) (n : Nat) : State :=
  let gone := s.seam.parked.filter (concerns n)
  ((s.setSeam { s.seam with parked := s.seam.parked.filter (fun u => !concerns n u) }).incf SEAM_FENCED_COUNT
    (s.rf SEAM_ROUTE_LINK n) gone.length).incf SEAM_DENIED_COUNT 0 (gone.filter (fun u => u.dest == n && isWrite u.body)).length

/-- For a local queue: the credits that producers on die n hold return to AVAIL, and its entries still in flight are
discarded with theirs. -/
def State.revokePeer (s : State) (n q : Nat) : State :=
  let u := 0x900 + n
  let flying := s.weft.flits.filter (fun f => f.queue == q && f.producer == u && f.kind == FlitKind.entry)
  let s := { s with weft := { s.weft with
    flits := s.weft.flits.filter (fun f => !(f.queue == q && f.producer == u && f.kind == FlitKind.entry))
    waiting := s.weft.waiting.filter (fun r => !(r.1 == q && r.2 == u)) } }
  let k := flying.length
  let s := (s.sf QM_QCREDIT_AVAIL q (s.rf QM_QCREDIT_AVAIL q + k)).sf QM_QCREDIT_HELD q (s.rf QM_QCREDIT_HELD q - k)
  (s.returnCredits q u).serve q

/-- The queues at which unit u holds or awaits anything. -/
def State.queuesOf (s : State) (u : Nat) : List Nat :=
  let held : List Nat := (s.weft.ports.filter (fun (e : Nat × Port) => e.1 % 4096 == u)).map (fun (e : Nat × Port) => e.1 / 4096)
  let flying : List Nat := (s.weft.flits.filter (fun f => f.producer == u)).map Flit.queue
  let asked : List Nat := (s.weft.waiting.filter (fun r => r.2 == u)).map Prod.fst
  (held ++ flying ++ asked).dedup

/-- Die n leaves the bolt. -/
def State.removePeer (s : State) (n : Nat) : State :=
  let u := 0x900 + n
  let gone := ((s.seam.awaited.filter (fun a => a.1 == n)).map (fun a => a.2.1)).dedup
  let s := s.advanceEpoch u
  let s := s.endOffers n
  let s := (s.seam.reads.filter (fun r => r.peer == n)).foldl (fun s r => s.send (.readData r.unit r.addr [none])) s
  let s := s.setSeam { s.seam with
    reads := s.seam.reads.filter (fun r => r.peer != n), awaited := s.seam.awaited.filter (fun a => a.1 != n)
    landing := s.seam.landing.filter (fun a => a.1 != n), asks := s.seam.asks.filter (fun a => a.1 != n)
    lost := s.seam.lost.filter (fun m => m != n), missed := s.seam.missed.del n, offsets := s.seam.offsets.del n
    arrivals := s.seam.arrivals.filter (fun a => a.1 != n || isAdmission a.2)
    outbound := s.seam.outbound.del n, inbound := s.seam.inbound.del n, inboundOld := s.seam.inboundOld.del n
    oldRoute := s.seam.oldRoute.del n }
  let s := (s.queuesOf u).foldl (fun s q => s.revokePeer n q) s
  let s := ((List.range 8).foldl (fun s l => s.purgeLink n l) s).purgeParked n
  gone.foldl (fun s u => if u < 0x440 then s.exitLanded u else s) s

/-! ## Applying a change -/

/-- The routes of a change; a die whose route changes while units to it are unacknowledged keeps new ones back (R372). -/
def State.setRoutes (s : State) (routes : List (Nat × Nat)) : State :=
  (List.range 8).foldl (fun s n =>
    let (h, l) := routes.getD n (0, 0)
    let was := s.routeTo n
    let s := ((s.sf SEAM_ROUTE_VALID n (if h = 0 then 0 else 1)).sf SEAM_ROUTE_HOPS n h).sf SEAM_ROUTE_LINK n l
    match was with
    | some k => if h ≠ 0 ∧ k ≠ l then s.setSeam { s.seam with oldRoute := s.seam.oldRoute.set n (some k) } else s
    | none => s) s

/-- This die applies a change as a member of the new epoch. -/
def State.applyChange (s : State) (c : SeamChange) : State :=
  let old := s.rf SEAM_BOLT_MEMBERS
  let s := ((bitsSet 8 old).filter (fun n => !natBit c.members n && n != s.self)).foldl State.removePeer s
  let s := (bitsSet 8 c.members).foldl (fun s n => s.sf QM_EPOCH_EPOCH (0x900 + n) (c.aepochs.getD n 0)) s
  let s := s.setMembership (if c.leader = s.self then boltLeader else boltMember) c.members c.epoch c.leader
    (c.aepochs.getD s.self 0)
  let s := s.setRoutes c.routes
  let s := s.setSeam { s.seam with
    inboundOld := s.seam.inbound
    inbound := (List.range 8).foldl (fun t n => t.set n (s.stagedRights n)) s.seam.inbound
    switchAt := some (c.te + 8192)
    outbound := (List.range 8).foldl (fun t n => t.set n (c.rights.getD n SeamRights.none)) s.seam.outbound
    aliases := s.stagedAliases
    held := none, proposal := none, candidate := false, wanted := false
    admitted := s.seam.admitted &&& (255 - c.members), leaving := s.seam.leaving &&& c.members
    joining := none, beatHeard := s.tb.count }
  (s.raise 0x0910 c.epoch).releaseParked

/-- A die removed from the bolt treats every peer as removed; it stands alone, or forms a bolt alone (R369). -/
def State.expelled (s : State) : State :=
  let s := ((bitsSet 8 (s.rf SEAM_BOLT_MEMBERS)).filter (fun n => n != s.self)).foldl State.removePeer s
  let s := s.setRoutes []
  let s := s.setSeam { s.seam with held := none, proposal := none, candidate := false, switchAt := none, aliases := [] }
  let s := s.raise 0x0910 (s.rf SEAM_EPOCH_EPOCH + 1)
  if s.ob oBOLT_FOUNDER = 1 then s.formAlone else s.standAlone

/-- EPOCH_CHANGE_APPLY: at T_E a die that holds COMMIT applies the change. -/
def execEpochChangeApply (s : State) : Host.Outcome State Fault Refusal :=
  .next (match s.seam.held with
    | some h =>
      if h.outcome = some true ∧ h.change.te ≤ s.tb.count then
        if natBit h.change.members s.self then s.applyChange h.change else s.expelled
      else s
    | none => s)

/-- EPOCH_WINDOW_SWITCH: 8,192 ticks after T_E only the new window set holds. -/
def execEpochWindowSwitch (s : State) : Host.Outcome State Fault Refusal :=
  .next (match s.seam.switchAt with
    | some t => if t ≤ s.tb.count then s.setSeam { s.seam with switchAt := none, inboundOld := [] } else s
    | none => s)

/-! ## Heartbeats (R368) -/

/-- BOLT_HEARTBEAT_SEND: the leader sends a heartbeat to each member every 1,024 ticks. -/
def execBoltHeartbeatSend (s : State) : Host.Outcome State Fault Refusal :=
  .next (if s.boltState == boltLeader && (match s.seam.beatSent with
      | some t => decide (t + 1024 ≤ s.tb.count)
      | none => true) then
    s.peers.foldl (fun s n =>
      (s.setSeam { s.seam with missed := s.seam.missed.set n (Tab.get 0 s.seam.missed n + 1) }).post n .heartbeat)
      (s.setSeam { s.seam with beatSent := some s.tb.count })
  else s)

/-- BOLT_HEARTBEAT_RECEIVE: a member answers the oldest heartbeat; the leader records the oldest answer. -/
def execBoltHeartbeatReceive (s : State) : Host.Outcome State Fault Refusal :=
  .next (match s.takeArrival (fun b => match b with
      | .heartbeat => some false
      | .heartbeatAnswer => some true
      | _ => none) with
    | (some (n, false), s) =>
      if s.rf SEAM_BOLT_LEADER = n then (s.setSeam { s.seam with beatHeard := s.tb.count }).post n .heartbeatAnswer else s
    | (some (n, true), s) => s.setSeam { s.seam with missed := s.seam.missed.set n 0 }
    | (none, s) => s)

/-- BOLT_PEER_LOST: BOLT.MISS_LIMIT heartbeats in a row have failed. `first` says of a member that it is the lowest-numbered
eligible one that can still reach a majority of the old members. -/
def execBoltPeerLost (peer : Nat) (first : Bool) (s : State) : Host.Outcome State Fault Refusal :=
  let limit := s.ob oBOLT_MISS_LIMIT
  .next (if !s.member peer || peer == s.self || s.seam.lost.contains peer then s
    else if s.boltState = boltLeader then
      if limit ≤ Tab.get 0 s.seam.missed peer ∧ s.seam.beatSent.getD 0 + 1024 ≤ s.tb.count then
        (s.setSeam { s.seam with lost := s.seam.lost ++ [peer], wanted := true }).raise 0x0912 peer
      else s
    else if s.boltState = boltMember ∧ s.rf SEAM_BOLT_LEADER = peer ∧ s.seam.beatHeard + limit * 1024 < s.tb.count then
      (s.setSeam { s.seam with lost := s.seam.lost ++ [peer], candidate := first && s.ob oBOLT_ELIGIBLE == 1 }).raise 0x0912 peer
    else s)

/-- BOLT.COMMAND 2. -/
def State.leaveCommand (s : State) : State :=
  if s.boltState = boltLeader then s.setSeam { s.seam with leaving := s.seam.leaving ||| 2 ^ s.self }
  else if s.boltState = boltMember then s.post (s.rf SEAM_BOLT_LEADER) .leave
  else s

/-- BOLT.COMMAND 3. -/
def State.republishCommand (s : State) : State :=
  if s.boltState = boltLeader then s.setSeam { s.seam with wanted := true }
  else if s.boltState = boltMember then s.post (s.rf SEAM_BOLT_LEADER) .republish
  else s

/-- BOLT_COMMAND_LEAVE: BOLT.COMMAND 2. -/
def execBoltCommandLeave (s : State) : Host.Outcome State Fault Refusal := .next s.leaveCommand

/-- BOLT_COMMAND_REPUBLISH: BOLT.COMMAND 3. -/
def execBoltCommandRepublish (s : State) : Host.Outcome State Fault Refusal := .next s.republishCommand

/-! ## Remote reads and events of peers -/

/-- REMOTE_READ_TIMEOUT: the oldest read that has waited BOLT.READ_TIMEOUT_TICKS is answered with the poison mark. -/
def execRemoteReadTimeout (s : State) : Host.Outcome State Fault Refusal :=
  .next (match s.seam.reads.find? (fun r => decide (r.tick + s.ob oBOLT_READ_TIMEOUT_TICKS ≤ s.tb.count)) with
    | some r => (s.setSeam { s.seam with reads := s.seam.reads.erase r }).send (.readData r.unit r.addr [none])
    | none => s)

/-- PEER_EVENT_RECEIVE: the oldest event of a peer is raised as EV_PEER_EVENT and joins the FIFO of 16 (R375). -/
def execPeerEventReceive (s : State) : Host.Outcome State Fault Refusal :=
  .next (match s.takeArrival (fun b => match b with
      | .event e => some e
      | _ => none) with
    | (some (n, e), s) =>
      let s := if s.seam.events.length < 16 then s.setSeam { s.seam with events := s.seam.events ++ [(n, e)] }
        else s.incf SEAM_PEER_EVT_LOST_COUNT
      s.raise (0x0940 + n) e
    | (none, s) => s)

/-- SEAM_PEER_EVT_POP: a read of SEAM_PEER_EVT answers the oldest entry and pops it; 0 from an empty FIFO. -/
def execSeamPeerEvtPop (requester : Nat) (s : State) : Host.Outcome State Fault Refusal :=
  .next (s.atIsland requester 73 (fun s =>
    match s.seam.events with
      | (n, e) :: r => (s.setSeam { s.seam with events := r }).send (.registerRead requester 0x5000040
          (BitVec.ofNat 64 (2 ^ 31 + n * 2 ^ 13 + e % 2 ^ 13)))
      | [] => s.send (.registerRead requester 0x5000040 0)))

end Sys2Proof.Machine
end

