-- ==== Sys2Proof/Machine/Dma.lean ====
section
/-!
DEFINITION. The DMA engines: descriptors and their checks (R437 to R441), arbitration (R442, R443), triggers (R445, R446),
completion (R447, R448), chains (R449 to R453), stopping (R454, R455) and the channel registers (R457).
-/

namespace Sys2Proof.Machine

open Reg Ob

/-! ## Channels -/

/-- Channel c, and the state with it replaced; TRIG_PENDING counts what it holds. -/
def State.dmaCh (s : State) (c : Nat) : DmaCh := Tab.get DmaCh.idle s.dma.channels c
def State.setDmaCh (s : State) (c : Nat) (x : DmaCh) : State :=
  { s.sf DMA_CH_STATE_TRIG_PENDING c x.items.length with dma := { s.dma with channels := s.dma.channels.set c x } }

/-- The unit ID of the engine of channel c (R435). -/
def dmaUnit (c : Nat) : Nat := 0x800 + c / 256

/-- The island of the engines. -/
def dmaIsland : Nat := 77

/-- The states of R449. -/
def dmaIdle : Nat := 0
def dmaFetch : Nat := 1
def dmaWait : Nat := 2
def dmaRun : Nat := 3
def dmaParked : Nat := 4
def dmaError : Nat := 5

/-- The channel's state, and the state with it changed. -/
def State.dstate (s : State) (c : Nat) : Nat := s.rf DMA_CH_STATE_STATE c
def State.setDstate (s : State) (c v : Nat) : State := s.sf DMA_CH_STATE_STATE c v

/-- The channel takes part: it has an owner, is enabled, and its engine is usable. -/
def State.dmaUp (s : State) (c : Nat) : Bool :=
  decide (c < 4096) && (s.channelOwner c).isSome && s.bit DMA_CH_CFG_ENABLE c && s.usable (dmaUnit c)

/-- The event of channel n (R458). -/
def State.dmaEvent (s : State) (c reason : Nat) : State := s.raiseReason (0x1000 + c) reason DMA_CH_STATE_LAST_REASON c

/-- The current descriptor's address. -/
def State.dmaCur (s : State) (c : Nat) : Nat := s.rf DMA_CH_CUR_ADDR c * 64

/-- The channel begins to fetch at an address. -/
def State.dmaFetchAt (s : State) (c addr : Nat) : State :=
  ((s.setDmaCh c { s.dmaCh c with desc := none, link := none, moved := 0, poisoned := false, behind := 0 }).sf DMA_CH_CUR_ADDR c
    (addr / 64)).setDstate c dmaFetch

/-- The channel enters ERROR (R448). -/
def State.dmaFail (s : State) (c : Nat) : State :=
  ((s.setDmaCh c { s.dmaCh c with link := none }).setDstate c dmaError).dmaEvent c 0x02

/-! ## Triggers (R445, R446) -/

/-- A trigger reaches channel c, with the tag that it brings. -/
def State.dmaTrigger (s : State) (c : Nat) (tag : Option (Nat × Nat)) : State :=
  let x := s.dmaCh c
  if s.dmaUp c && decide (x.items.length < 255) then s.setDmaCh c { x with items := x.items ++ [.trigger tag] }
  else (s.incf DMA_CH_TRIG_LOST_COUNT c).dmaEvent c 0x03

/-! ## Descriptors (R437, R438) -/

/-- A descriptor's fields from its words. -/
def dmaDesc (w : List Nat) : DmaDesc :=
  let a := w.getD 0 0
  let t := w.getD 3 0
  let l := w.getD 7 0
  { op := bitsOf a 63 60, wait := natBit a 59, evt := natBit a 58, wb := natBit a 57, tagSrc := natBit a 56,
    dst := bitsOf a 47 0, src := w.getD 1 0, len := bitsOf (w.getD 2 0) 31 0, cls := bitsOf t 50 48,
    deadline := bitsOf t 47 0, stop := natBit l 63, next := bitsOf l 47 0 }

/-- Every reserved field is zero, and OP is not reserved. -/
def dmaReserved (w : List Nat) : Bool :=
  let a := w.getD 0 0
  let d := dmaDesc w
  decide (d.op ≤ 2) && bitsOf a 55 48 == 0 && (d.op != 2 || bitsOf a 47 16 == 0)
    && (d.op == 1 || bitsOf d.src 63 48 == 0) && bitsOf (w.getD 2 0) 63 32 == 0 && bitsOf (w.getD 3 0) 63 51 == 0
    && w.getD 4 0 == 0 && w.getD 5 0 == 0 && bitsOf (w.getD 6 0) 54 32 == 0 && bitsOf (w.getD 7 0) 62 48 == 0

/-- A run of bytes lies wholly in one memory that a descriptor may name. The window of the die's own number names this die's
memories (R28). -/
def State.dmaExtent (s : State) (a n : Nat) : Bool :=
  s.place a != .nothing && s.place (a + n - 1) != .nothing &&
  match regionOf (s.ownAddress a), regionOf (s.ownAddress (a + n - 1)) with
  | .panel p _, .panel q _ => p == q && decide (p < s.die.variant.panels)
  | .engineData g _, .engineData h _ => g == h
  | .engineCode g _, .engineCode h _ => g == h
  | .quilt x _, .quilt y _ => x == y
  | .dram _, .dram _ => true
  | .host _, .host _ => true
  | .peer p _, .peer q _ => p == q
  | _, _ => false

/-- The memory of a unit that is absent: an engine of an absent panel, or an absent patch. R2 makes a descriptor addressed to it
complete with NO_UNIT; of panel memory R438 itself says that it must be populated. DEDUCED. -/
def State.dmaAbsent (s : State) (a : Nat) : Bool :=
  match regionOf (s.ownAddress a) with
  | .engineData g _ => decide (s.die.variant.panels ≤ g / 17)
  | .engineCode g _ => decide (s.die.variant.panels ≤ g / 17)
  | .quilt n _ => !s.present (0xA00 + n)
  | _ => false

/-- The descriptor names the memory of an absent unit (R2). -/
def State.dmaNoUnit (s : State) (d : DmaDesc) : Bool :=
  d.len != 0 && ((d.op != 1 && s.dmaAbsent d.src) || (d.op != 2 && s.dmaAbsent d.dst))

/-- The queue that a PUSH names is an enabled queue of partition p, or an alias in its range (R374). -/
def State.dmaQueueOk (s : State) (p q : Nat) : Bool :=
  s.queueOwner q == some p && (s.queueOpen q || (s.aliasOf q).isSome)

/-- The checks of R438 on a descriptor of partition p. -/
def State.dmaCheck (s : State) (p : Nat) (w : List Nat) : Bool :=
  let d := dmaDesc w
  let named := d.len != 0
  dmaReserved w && (d.stop || d.next % 64 == 0)
    && (match d.op with
      | 0 => !named || (s.dmaExtent d.src d.len && s.dmaExtent d.dst d.len
          && (let x := s.ownAddress d.src
              let y := s.ownAddress d.dst
              decide (x + d.len ≤ y) || decide (y + d.len ≤ x)))
      | 1 => !named || s.dmaExtent d.dst d.len
      | _ => s.dmaQueueOk p d.dst && d.len % 64 == 0 && (!named || (d.src % 64 == 0 && s.dmaExtent d.src d.len)))

/-! ## Completion (R447, R448) -/

/-- The channel reads its descriptor's link word afresh; the word is on its way back, or its read waits at a stitch (R451,
R553). -/
def State.dmaReadLink (s : State) (c : Nat) : State :=
  match s.accessStops (dmaUnit c) (s.dmaCur c + 56) 8 with
  | some x => (s.stallOn x).setDmaCh c { s.dmaCh c with link := some none }
  | none =>
    let r := s.readWordAt (s.dmaCur c + 56) (dmaUnit c) 0
    r.2.setDmaCh c { r.2.dmaCh c with link := some (some r.1) }

/-- The status word is written, where the descriptor asks for one and the windows allow it; answers the code that stands. -/
def State.dmaStatus (s : State) (c p code : Nat) (d : DmaDesc) : Nat × State :=
  let a := s.dmaCur c + 48
  if !d.wb then (code, s)
  else if s.mayAccess p a 8 true then
    (code, s.writeWordAt a (dmaUnit c)
      (some (BitVec.ofNat 64 (code * 2 ^ 56 + 2 ^ 55 + (s.dmaCh c).moved % 2 ^ 32))))
  else (codeDenied, s.countDenial p (dmaUnit c) a true)

/-- A trigger flit of a completed descriptor to the channel it chains to. -/
def State.dmaChain (s : State) (c : Nat) : State :=
  if s.bit DMA_CH_LINKS_CHAIN_EN c then
    let x := s.dmaCh c
    { s with tb := { s.tb with triggers := s.tb.triggers ++ [.dma (s.rf DMA_CH_LINKS_CHAIN c) x.cls x.deadline] } }
  else s

/-- The descriptor of channel c completes with a code. -/
def State.dmaComplete (s : State) (c p code : Nat) : State :=
  match (s.dmaCh c).desc with
  | none => s
  | some d =>
    let r := s.dmaStatus c p code d
    let s := (r.2.sf DMA_CH_STATE_LAST_CODE c r.1).incf DMA_CH_DONE_COUNT c
    if r.1 = codeDone ∨ r.1 = codeDoneLate then
      let s := if d.evt then s.dmaEvent c 0x01 else s
      let s := s.dmaChain c
      if d.stop then (s.sf DMA_CH_STATE_DB_PENDING c 0).dmaReadLink c else s.dmaFetchAt c d.next
    else if r.1 = codeAborted then (if d.evt then s.dmaEvent c 0x01 else s)
    else s.dmaFail c

/-- A descriptor whose own words cannot be read completes with no status word (R438). -/
def State.dmaUnread (s : State) (c code : Nat) : State :=
  ((s.sf DMA_CH_STATE_LAST_CODE c code).incf DMA_CH_DONE_COUNT c).dmaFail c

/-! ## Stopping (R454, R455) -/

/-- The channel stops: its running descriptor completes with ABORTED, and it enters IDLE with nothing pending. A descriptor
runs from the end of its fetch to its completion. -/
def State.dmaStop (s : State) (c : Nat) : State :=
  let running := (s.dstate c == dmaRun || s.dstate c == dmaWait) && (s.dmaCh c).link.isNone
  let s := match s.channelOwner c with
    | some p => if running then s.dmaComplete c p codeAborted else s
    | none => s
  ((s.setDmaCh c DmaCh.idle).setDstate c dmaIdle).sf DMA_CH_STATE_DB_PENDING c 0

/-- A DMA-channel reset. -/
def State.dmaReset (s : State) (c : Nat) : State := (s.dmaStop c).sf DMA_CH_CFG_ENABLE c 0

/-- DMA-channel resets; trigger flits on their way to the channels are discarded (R455). -/
def State.dmaResetThese (s : State) (mine : List Nat) : State :=
  let s := mine.foldl (fun s c => s.dmaReset c) s
  { s with tb := { s.tb with triggers := s.tb.triggers.filter (fun t => match t with
    | .dma c _ _ => !mine.contains c
    | _ => true) } }

/-- The channels of partition p. -/
def State.channelsOf (s : State) (p : Nat) : List Nat := (List.range 4096).filter (fun c => s.channelOwner c == some p)

/-- Partition reset of every channel of partition p. -/
def State.dmaResetAll (s : State) (p : Nat) : State := s.dmaResetThese (s.channelsOf p)

/-! ## Register writes (R457) -/

/-- Requester r writes the registers of channel c. -/
def State.mayWriteDma (s : State) (r c : Nat) : Bool :=
  (isThimble r || s.isOwnerHost r (s.channelOwner c)) && s.present (dmaUnit c)

/-- A write of DMA_CH_CFG. -/
def State.writeDmaCfg (s : State) (r c v : Nat) : State :=
  if !s.mayWriteDma r c then s else
  let was := s.bit DMA_CH_CFG_ENABLE c
  let s := s.sf DMA_CH_CFG_PRIO c (bitsOf v 30 29)
  if natBit v 31 then s.sf DMA_CH_CFG_ENABLE c 1
  else
    let s := s.sf DMA_CH_CFG_ENABLE c 0
    if was then s.dmaStop c else s

/-- A write of DMA_CH_LINKS, ignored whole where it names what is not the channel's partition's (R446). -/
def State.writeDmaLinks (s : State) (r c v : Nat) : State :=
  let p := s.channelOwner c
  if !s.mayWriteDma r c then s
  else if natBit v 31 && (p.isNone || s.channelOwner (bitsOf v 27 16) != p) then s
  else if natBit v 30 && (p.isNone || s.queueOwner (bitsOf v 15 0) != p) then s
  else (((s.sf DMA_CH_LINKS_CHAIN_EN c (bitsOf v 31 31)).sf DMA_CH_LINKS_TRIGQ_EN c (bitsOf v 30 30)).sf
    DMA_CH_LINKS_CHAIN c (bitsOf v 27 16)).sf DMA_CH_LINKS_TRIGQ c (bitsOf v 15 0)

/-- A write of DMA_CH_HEAD, in IDLE and ERROR only. -/
def State.writeDmaHead (s : State) (r c v : Nat) : State :=
  if s.mayWriteDma r c && (s.dstate c == dmaIdle || s.dstate c == dmaError) then s.sf DMA_CH_HEAD_ADDR c (bitsOf v 47 6) else s

/-- RING (R449, R451). -/
def State.dmaRing (s : State) (c : Nat) : State :=
  let st := s.dstate c
  if !s.dmaUp c then s
  else if st == dmaIdle || st == dmaError then s.dmaFetchAt c (s.rf DMA_CH_HEAD_ADDR c * 64)
  else if st == dmaParked && (s.dmaCh c).link.isNone then s.dmaReadLink c
  else s.sf DMA_CH_STATE_DB_PENDING c 1

/-- A write of DMA_CH_DOORBELL: SRESET alone, or TRIG and then RING (R457). A channel without an owner ignores it. -/
def State.writeDmaDoorbell (s : State) (r c v : Nat) : State :=
  if !s.mayWriteDma r c || (s.channelOwner c).isNone then s
  else if natBit v 2 then s.dmaReset c
  else
    let s := if natBit v 1 then s.dmaTrigger c none else s
    if natBit v 0 then s.dmaRing c else s

/-! ## Bursts (R439 to R443) -/

/-- Where a descriptor's next burst ends: at the next 256-byte boundary of the destination, or after one entry. -/
def burstLen (d : DmaDesc) (moved : Nat) : Nat :=
  if d.op = 2 then 64 else min (d.len - moved) (256 - (d.dst + moved) % 256)

/-- The entries of an engine on their way to queue q, or to the peer's queue that it names. -/
def State.dmaFlight (s : State) (u q : Nat) : Nat :=
  (s.weft.flits.filter (fun f => f.queue == q && f.producer == u && f.kind == .entry)).length + (s.port q u).stalled.length
    + (match s.aliasOf q with
      | some (n, r) => s.seam.awaited.count (n, u, some r)
      | none => 0)

/-- Channel c is ready to issue a burst. -/
def State.dmaReady (s : State) (c : Nat) : Bool :=
  s.dmaUp c && s.dstate c == dmaRun && (s.dmaCh c).link.isNone &&
  match (s.dmaCh c).desc with
  | some d => decide ((s.dmaCh c).moved < d.len) && (d.op != 2 || (s.port d.dst (dmaUnit c)).stalled.isEmpty)
  | none => false

/-- Channel a goes before channel b: by priority level, then by tag (R42). -/
def State.dmaBefore (s : State) (a b : Nat) : Bool :=
  let x := s.rf DMA_CH_CFG_PRIO a
  let y := s.rf DMA_CH_CFG_PRIO b
  let i := slack (s.dmaCh a).deadline (s.nowAt dmaIsland)
  let j := slack (s.dmaCh b).deadline (s.nowAt dmaIsland)
  decide (x < y) || (x == y && (decide (i < j) || (i == j && decide ((s.dmaCh a).cls < (s.dmaCh b).cls))))

/-- The first of a list that no other goes before. -/
def State.dmaPick (s : State) : List Nat → Option Nat
  | [] => none
  | c :: r =>
    match s.dmaPick r with
    | none => some c
    | some d => if s.dmaBefore d c then some d else some c

/-- The bytes of a range of carried words from an address: each with whether its word is bad. -/
def carriedAt (ws : List Carried) (first i : Nat) : Option Byte :=
  match ws.getD ((first % 8 + i) / 8) none with
  | some w => (wordBytes w)[(first % 8 + i) % 8]?
  | none => none

/-- Write the bytes of a burst word by word: a word that takes a byte from a bad one becomes POISON whole (R441). Answers
whether any word is, or became, POISON. -/
def State.dmaWrite (s : State) (u a n : Nat) (byte : Nat → Option Byte) : List Nat → Bool × State
  | [] => (false, s)
  | wa :: r =>
    let inside := (List.range 8).map (fun i => decide (a ≤ wa + i) && decide (wa + i < a + n))
    let data := (List.range 8).map (fun i => if inside.getD i false then byte (wa + i - a) else none)
    let bad := (List.range 8).any (fun i => inside.getD i false && (data.getD i none).isNone)
    let h := if bad then (true, s.writeWordAt wa u none) else s.mergeWordAt wa u data
    let t := h.2.dmaWrite u a n byte r
    (h.1 || t.1, t.2)

/-- A burst of COPY or FILL: n bytes at `moved`. -/
def State.dmaMove (s : State) (c p : Nat) (d : DmaDesc) (n : Nat) : State :=
  let u := dmaUnit c
  let x := s.dmaCh c
  let a := d.dst + x.moved
  let b := d.src + x.moved
  if d.op = 0 ∧ s.mayAccess p b n false = false then (s.countDenial p u b false).dmaComplete c p codeDenied
  else if s.mayAccess p a n true = false then (s.countDenial p u a true).dmaComplete c p codeDenied
  else match (if d.op = 0 then s.accessStops u b n else none).or (s.accessStops u a n) with
  | some x => s.stallOn x
  | none =>
    let read := if d.op = 0 then s.readWords (b / 8 * 8) u 1 (wordsOf b n).length else ([], s)
    let byte := fun i => if d.op = 0 then carriedAt read.1 b i else (valBytes 8 d.src)[(a + i) % 8]?
    let w := read.2.dmaWrite u a n byte (wordsOf a n)
    w.2.setDmaCh c { w.2.dmaCh c with moved := x.moved + n, poisoned := x.poisoned || w.1 }

/-- A burst of PUSH: one entry (R439), its tag word the descriptor's. -/
def State.dmaPush (s : State) (c p : Nat) (d : DmaDesc) : State :=
  let u := dmaUnit c
  let x := s.dmaCh c
  let b := d.src + x.moved
  if s.mayAccess p b 64 false = false then (s.countDenial p u b false).dmaComplete c p codeDenied
  else if s.queueReach d.dst = false then s.dmaComplete c p codeDenied
  else match s.accessStops u b 64 with
  | some x => s.stallOn x
  | none =>
    let r := s.readWords b u 1 8
    let entry := r.1.take 7 ++ [some (tagWord 0 x.cls x.deadline)]
    let s := r.2.pushEntry d.dst u entry
    let s := s.setDmaCh c { s.dmaCh c with moved := x.moved + 64, behind := 0,
                                           poisoned := x.poisoned || (r.1.take 7).any Option.isNone }
    let others := ((List.range 256).map (fun k => c / 256 * 256 + k)).filter (fun k => k != c &&
      match (s.dmaCh k).desc with
      | some e => e.op == 2 && e.dst == d.dst && s.dstate k == dmaRun
      | none => false)
    others.foldl (fun s k => s.setDmaCh k { s.dmaCh k with behind := (s.dmaCh k).behind + 1 }) s

/-! ## The commands -/

/-- DMA_CH_ENABLE: a write of DMA_CH_CFG with ENABLE 1. -/
def execDmaChEnable (requester channel prio : Nat) (s : State) : Host.Outcome State Fault Refusal :=
  .next (s.atIsland requester 77 (fun s => s.writeDmaCfg requester channel (2 ^ 31 + prio % 4 * 2 ^ 29)))

/-- DMA_CH_DISABLE: a write of DMA_CH_CFG with ENABLE 0 (R454). -/
def execDmaChDisable (requester channel prio : Nat) (s : State) : Host.Outcome State Fault Refusal :=
  .next (s.atIsland requester 77 (fun s => s.writeDmaCfg requester channel (prio % 4 * 2 ^ 29)))

/-- DMA_RING (R451). -/
def execDmaRing (requester channel : Nat) (s : State) : Host.Outcome State Fault Refusal :=
  .next (s.atIsland requester 77 (fun s => s.writeDmaDoorbell requester channel 1))

/-- DMA_TRIG (R445). -/
def execDmaTrig (requester channel : Nat) (s : State) : Host.Outcome State Fault Refusal :=
  .next (s.atIsland requester 77 (fun s => s.writeDmaDoorbell requester channel 2))

/-- DMA_CH_SRESET (R454). -/
def execDmaChSreset (requester channel : Nat) (s : State) : Host.Outcome State Fault Refusal :=
  .next (s.atIsland requester 77 (fun s => s.writeDmaDoorbell requester channel 4))

/-- DMA_CH_LINKS_WRITE (R446). -/
def execDmaChLinksWrite (requester channel : Nat) (value : Half) (s : State) : Host.Outcome State Fault Refusal :=
  .next (s.atIsland requester 77 (fun s => s.writeDmaLinks requester channel value.toNat))

/-- The first trigger flit for a DMA channel. -/
def dmaTriggerFlit : List Trigger → Option (Nat × Nat × Nat)
  | [] => none
  | .dma c k d :: _ => some (c, k, d)
  | .shuttle _ _ :: r => dmaTriggerFlit r

/-- DMA_TRIGGER_ARRIVE: the oldest trigger flit of a comparator or of a chained channel arrives (R445). -/
def execDmaTriggerArrive (s : State) : Host.Outcome State Fault Refusal :=
  .next (match dmaTriggerFlit s.tb.triggers with
    | some (c, k, d) => { s with tb := { s.tb with triggers := s.tb.triggers.erase (.dma c k d) } }.dmaTrigger c (some (k, d))
    | none => s)

/-- DMA_TRIGGER_QUEUE_POP: the channel pops its trigger queue (R446). -/
def execDmaTriggerQueuePop (channel : Nat) (s : State) : Host.Outcome State Fault Refusal :=
  .next (
    if s.dmaUp channel && s.bit DMA_CH_LINKS_TRIGQ_EN channel && decide ((s.dmaCh channel).items.length < 255) then
      match s.popQueue (s.rf DMA_CH_LINKS_TRIGQ channel) (dmaUnit channel) with
      | (.stalled, t) => t
      | (.entry w, s) =>
        match voidCode w with
        | some code => s.setDmaCh channel { s.dmaCh channel with items := (s.dmaCh channel).items ++ [.gone code] }
        | none => s.dmaTrigger channel (some ((entryTag w).2, (entryTag w).1))
      | (_, s) => s
    else s)

/-- DMA_DESCRIPTOR_FETCH: the channel reads and checks its descriptor (R438). -/
def execDmaDescriptorFetch (channel : Nat) (s : State) : Host.Outcome State Fault Refusal :=
  .next (match s.channelOwner channel with
    | none => s
    | some p =>
      let a := s.dmaCur channel
      let u := dmaUnit channel
      if !s.dmaUp channel || s.dstate channel != dmaFetch then s
      else if !s.dmaExtent a 64 then s.dmaUnread channel codeBadDescriptor
      else if !s.mayAccess p a 64 false then (s.countDenial p u a false).dmaUnread channel codeDenied
      else match s.accessStops u a 64 with
      | some x => s.stallOn x
      | none =>
        let r := s.readWords a u 0 8
        if r.1.any Option.isNone then r.2.dmaUnread channel codePoison else
        let w := r.1.map (fun v => (v.getD 0).toNat)
        let d := dmaDesc w
        let s := r.2.setDmaCh channel { (r.2.dmaCh channel) with
          desc := some d, cls := d.cls, deadline := d.deadline, moved := 0, poisoned := false, behind := 0, link := none }
        if !s.dmaCheck p w then s.dmaComplete channel p codeBadDescriptor
        else if s.dmaNoUnit d then s.dmaComplete channel p codeNoUnit
        else if d.wait then s.setDstate channel dmaWait
        else s.setDstate channel dmaRun)

/-- DMA_TRIGGER_TAKE: a waiting descriptor takes the oldest pending item (R446), and with TAGSRC 1 its tag (R442). -/
def execDmaTriggerTake (channel : Nat) (s : State) : Host.Outcome State Fault Refusal :=
  .next (match s.channelOwner channel, (s.dmaCh channel).desc, (s.dmaCh channel).items with
    | some p, some d, i :: rest =>
      if !s.dmaUp channel || s.dstate channel != dmaWait then s else
      let x := s.dmaCh channel
      match i with
      | .gone code => (s.setDmaCh channel { x with items := rest }).dmaComplete channel p code
      | .trigger tag =>
        let t := match tag, d.tagSrc with
          | some t, true => t
          | _, _ => (d.cls, d.deadline)
        (s.setDmaCh channel { x with items := rest, cls := t.1, deadline := t.2 }).setDstate channel dmaRun
    | _, _, _ => s)

/-- DMA_BURST: the engine issues its next burst (R443); among equal tags the channel that follows the last one served. A burst
that an island stops is issued again, in its turn. -/
def execDmaBurst (engine : Nat) (s : State) : Host.Outcome State Fault Refusal :=
  .next (if 16 ≤ engine then s else
    let base := Tab.get 0 s.dma.last engine + 1
    let ready := ((List.range 256).map (fun k => 256 * engine + (base + k) % 256)).filter (fun c => s.dmaReady c)
    match s.dmaPick ready with
    | none => s
    | some c =>
      let s := { s with dma := { s.dma with last := s.dma.last.set engine (c % 256) } }
      match s.channelOwner c, (s.dmaCh c).desc with
      | some p, some d => if d.op = 2 then s.dmaPush c p d else s.dmaMove c p d (burstLen d (s.dmaCh c).moved)
      | _, _ => s)

/-- DMA_DESCRIPTOR_COMPLETE: every byte has been moved, every write that left the die has been acknowledged, and every pushed
entry has landed (R447). -/
def execDmaDescriptorComplete (channel : Nat) (s : State) : Host.Outcome State Fault Refusal :=
  .next (match s.channelOwner channel, (s.dmaCh channel).desc with
    | some p, some d =>
      let x := s.dmaCh channel
      if !s.dmaUp channel || s.dstate channel != dmaRun || x.link.isSome || decide (x.moved < d.len)
          || (d.op == 2 && d.len != 0 && decide (x.behind < s.dmaFlight (dmaUnit channel) d.dst))
          || (d.op != 2 && d.len != 0 && !s.storesDone (dmaUnit channel)) then s
      else match (if d.wb then s.accessStops (dmaUnit channel) (s.dmaCur channel + 48) 8 else none) with
      | some y => s.stallOn y
      | none =>
        let code := if x.poisoned then codePoison
          else if slack x.deadline (s.nowAt dmaIsland) < 0 then codeDoneLate else codeDone
        s.dmaComplete channel p code
    | _, _ => s)

/-- DMA_LINK_REREAD: the link word read afresh arrives (R451), or its read goes on from the stitch where it has waited. A word
that cannot be read ends as a descriptor's would. -/
def execDmaLinkReread (channel : Nat) (s : State) : Host.Outcome State Fault Refusal :=
  .next (match (s.dmaCh channel).link with
    | none => s
    | some none => s.dmaReadLink channel
    | some (some w) =>
      let s := s.setDmaCh channel { s.dmaCh channel with link := none }
      match w with
      | none => (s.sf DMA_CH_STATE_LAST_CODE channel codePoison).dmaFail channel
      | some v =>
        let next := bitsOf v.toNat 47 0
        if !natBit v.toNat 63 then
          if next % 64 = 0 then s.dmaFetchAt channel next
          else (s.sf DMA_CH_STATE_LAST_CODE channel codeBadDescriptor).dmaFail channel
        else if s.bit DMA_CH_STATE_DB_PENDING channel then
          (s.sf DMA_CH_STATE_DB_PENDING channel 0).dmaReadLink channel
        else s.setDstate channel dmaParked)

end Sys2Proof.Machine
end

