-- ==== Sys2Proof/Machine/Gusset.lean ====
section
/-!
DEFINITION. The Gusset (R201 to R220): its arithmetic, acceptance, beginning and commit of instructions, its reset, and the
meanings of the fused instructions (R191).
-/

namespace Sys2Proof.Machine

open Reg Ob

/-! ## Matrices (R202, R207) -/

/-- A matrix as a function of row and column. -/
abbrev GMat := Nat → Nat → Int × Int

/-- Element (i, c) of a register. -/
def gElem (x : GReg) (i c : Nat) : Int × Int :=
  let v := x.toNat / 2 ^ (32 * (4 * i + c))
  (toSigned 16 (v % 2 ^ 16), toSigned 16 (v / 2 ^ 16 % 2 ^ 16))

/-- The register value of a matrix of 16-bit parts. -/
def gPack (f : GMat) : GReg :=
  BitVec.ofNat 512 ((List.range 16).foldl (fun n k =>
    let e := f (k / 4) (k % 4)
    n + (ofSigned 16 e.1 + 2 ^ 16 * ofSigned 16 e.2) * 2 ^ (32 * k)) 0)

/-- Some part of the matrix does not fit 16 bits. -/
def gSaturates (f : GMat) : Bool :=
  (List.range 16).any (fun k =>
    let e := f (k / 4) (k % 4)
    (satTo 16 e.1).2 || (satTo 16 e.2).2)

/-- The saturated value of a matrix, and whether a part saturated. -/
def gSat (f : GMat) : GReg × Bool :=
  (gPack (fun i c => ((satTo 16 (f i c).1).1, (satTo 16 (f i c).2).1)), gSaturates f)

/-- The exact product of two matrices. -/
def gMul (a b : GMat) : GMat := fun i c =>
  (List.range 4).foldl (fun z k =>
    let p := cmulExact false (a i k) (b k c)
    (z.1 + p.1, z.2 + p.2)) (0, 0)

/-- The conjugate transpose, exact. -/
def gConjT (a : GMat) : GMat := fun i c => ((a c i).1, -(a c i).2)

/-- Both parts of each element under a function. -/
def gMap (f : Int → Int) (a : GMat) : GMat := fun i c => (f (a i c).1, f (a i c).2)

/-- d × 2^15 plus or minus a product. -/
def gAcc (sign : Int) (d p : GMat) : GMat := fun i c =>
  ((d i c).1 * 2 ^ 15 + sign * (p i c).1, (d i c).2 * 2 ^ 15 + sign * (p i c).2)

/-- The result of an operation under a rounding mode, on the registers that `rd` gives, and whether it saturated. -/
def gResult (op : GOp) (rnd : Nat) (rd : Nat → GReg) : GReg × Bool :=
  let m := fun r => gElem (rd r)
  let q := fun f => gSat (gMap (roundShift rnd 15) f)
  match op with
  | .mul _ a b => q (gMul (m a) (m b))
  | .mulh _ a b => q (gMul (gConjT (m a)) (m b))
  | .mulbh _ a b => q (gMul (m a) (gConjT (m b)))
  | .mac d a b => q (gAcc 1 (m d) (gMul (m a) (m b)))
  | .msu d a b => q (gAcc (-1) (m d) (gMul (m a) (m b)))
  | .add _ a b => gSat (fun i c => ((m a i c).1 + (m b i c).1, (m a i c).2 + (m b i c).2))
  | .sub _ a b => gSat (fun i c => ((m a i c).1 - (m b i c).1, (m a i c).2 - (m b i c).2))
  | .herm _ a => gSat (gConjT (m a))
  | .zero _ => (0, false)
  | .shr _ a n => gSat (gMap (roundShift rnd n) (m a))
  | .movt d row v =>
    (gPack (fun i c => if i = row then chPart v c else m d i c), false)
  | .movf _ a row => ((rd a >>> (128 * row)) &&& BitVec.ofNat 512 (2 ^ 128 - 1), false)
  | .stat _ => (0, false)

/-- The register that an operation writes. -/
def GOp.dest : GOp → Option Nat
  | .mul d _ _ => some d | .mulh d _ _ => some d | .mulbh d _ _ => some d | .mac d _ _ => some d | .msu d _ _ => some d
  | .add d _ _ => some d | .sub d _ _ => some d | .herm d _ => some d | .zero d => some d | .shr d _ _ => some d
  | .movt d _ _ => some d | .movf _ _ _ => none | .stat _ => none

/-- A GMOVF, which holds its engine in E4 until its row has moved. -/
def GOp.isMovf : GOp → Bool
  | .movf _ _ _ => true
  | _ => false

/-- GSTAT occupies no place in flight (R205). -/
def GOp.isStat : GOp → Bool
  | .stat _ => true
  | _ => false

/-! ## The state of a Gusset -/

/-- A bank's in-flight count (R205). -/
def Gusset.inFlight (x : Gusset) (b : Nat) : Nat := (x.work.filter (fun w => w.bank == b)).length

/-- A bank's MB commands queued or uncommitted (R214). -/
def Gusset.mbCount (x : Gusset) (b : Nat) : Nat := (x.queued.filter (fun w => w.bank == b)).length + x.inFlight b

/-- Register r of bank b as a later instruction of the bank sees it: the latest begun result, else the committed
register (R206, R209). -/
def Gusset.shadow (x : Gusset) (b r : Nat) : GReg :=
  match (x.work.filter (fun w => w.bank == b && w.begun && w.op.dest == some r)).getLast? with
  | some w => w.value
  | none => Tab.get 0 x.regs (16 * b + r)

/-- Unit ID of Gusset n. -/
def gussetId (n : Nat) : Nat := 0x440 + n

def evGusset (n : Nat) : Nat := 0x0440 + n

/-- The engine at bank b of Gusset n. -/
def engineOf (n b : Nat) : Nat := n / 4 * 17 + n % 4 * 4 + b

/-- Gusset n is present and not retired (R192). -/
def State.gussetUp (s : State) (n : Nat) : Bool := s.present (gussetId n) && !s.bit GUS_STATE_RETIRED n

/-! ## Presenting an instruction -/

/-- A fused instruction of engine g waits in E1 for acceptance (R204, R205). -/
def State.gussetPresent (s : State) (g rnd : Nat) (op : GOp) : State :=
  let n := gussetOf g
  let x := s.gus n
  let w : GWork := { bank := bankOf g, op := op, rnd := rnd, tag := none, retired := false, begun := false, value := 0,
                     saturated := false }
  let s := s.setGus n { x with presented := x.presented.set (bankOf g) w }
  s.setEng g { s.eng g with wait := .gusset }

/-- A fused instruction may be sent ahead (R130, R209): a GMOVF of the engine waits in E4, and behind it, in E1 to E3, stand
at most two others, all of them accepted. GSTAT is not sent ahead. DESIGN CHOICE: of what the pipeline may send to the
Gusset before older instructions have retired, the model has the fused instructions that follow a GMOVF directly. -/
def State.gussetAhead (s : State) (g : Nat) (op : GOp) : Bool :=
  let x := s.gus (gussetOf g)
  let unretired := x.work.filter (fun w => w.bank == bankOf g && !w.retired)
  (s.eng g).wait == .gusset && !(x.presented.any (fun p => p.1 == bankOf g)) && decide (1 ≤ unretired.length)
    && decide (unretired.length ≤ 3) && !op.isStat && !s.mbDsp g && !s.islandStops (g / 17)

/-- A fused instruction executes: GUSSET where the Gusset is absent or retired (R192). -/
def State.gussetOp (s : State) (g : Nat) (op : Engine → GOp) : State :=
  if s.gussetAhead g (op (s.eng g)) then s.gussetPresent g (s.eng g).rnd (op (s.eng g)) else
  s.native g (fun e =>
    if s.gussetUp (gussetOf g) && g % 17 != 16 then s.gussetPresent g e.rnd (op e) else s.raiseSync g causeGusset 0)

/-- GMOVT (R207). -/
def execIGmovt (engine : Nat) (qd : BitVec 4) (vs : BitVec 5) (row : BitVec 2) (s : State) :
    Host.Outcome State Fault Refusal :=
  .next (s.gussetOp engine (fun e => .movt qd.toNat row.toNat (e.vec vs)))
/-- GMOVF (R207). -/
def execIGmovf (engine : Nat) (vd : BitVec 5) (qs : BitVec 4) (row : BitVec 2) (s : State) :
    Host.Outcome State Fault Refusal :=
  .next (s.gussetOp engine (fun _ => .movf vd.toNat qs.toNat row.toNat))
/-- GMUL (R207). -/
def execIGmul (engine : Nat) (qd qa qb : BitVec 4) (s : State) : Host.Outcome State Fault Refusal :=
  .next (s.gussetOp engine (fun _ => .mul qd.toNat qa.toNat qb.toNat))
/-- GMULH (R207). -/
def execIGmulh (engine : Nat) (qd qa qb : BitVec 4) (s : State) : Host.Outcome State Fault Refusal :=
  .next (s.gussetOp engine (fun _ => .mulh qd.toNat qa.toNat qb.toNat))
/-- GMULBH (R207). -/
def execIGmulbh (engine : Nat) (qd qa qb : BitVec 4) (s : State) : Host.Outcome State Fault Refusal :=
  .next (s.gussetOp engine (fun _ => .mulbh qd.toNat qa.toNat qb.toNat))
/-- GMAC (R207). -/
def execIGmac (engine : Nat) (qd qa qb : BitVec 4) (s : State) : Host.Outcome State Fault Refusal :=
  .next (s.gussetOp engine (fun _ => .mac qd.toNat qa.toNat qb.toNat))
/-- GMSU (R207). -/
def execIGmsu (engine : Nat) (qd qa qb : BitVec 4) (s : State) : Host.Outcome State Fault Refusal :=
  .next (s.gussetOp engine (fun _ => .msu qd.toNat qa.toNat qb.toNat))
/-- GADD (R207). -/
def execIGadd (engine : Nat) (qd qa qb : BitVec 4) (s : State) : Host.Outcome State Fault Refusal :=
  .next (s.gussetOp engine (fun _ => .add qd.toNat qa.toNat qb.toNat))
/-- GSUB (R207). -/
def execIGsub (engine : Nat) (qd qa qb : BitVec 4) (s : State) : Host.Outcome State Fault Refusal :=
  .next (s.gussetOp engine (fun _ => .sub qd.toNat qa.toNat qb.toNat))
/-- GHERM (R207). -/
def execIGherm (engine : Nat) (qd qa : BitVec 4) (s : State) : Host.Outcome State Fault Refusal :=
  .next (s.gussetOp engine (fun _ => .herm qd.toNat qa.toNat))
/-- GZERO (R207). -/
def execIGzero (engine : Nat) (qd : BitVec 4) (s : State) : Host.Outcome State Fault Refusal :=
  .next (s.gussetOp engine (fun _ => .zero qd.toNat))
/-- GSHR (R207). -/
def execIGshr (engine : Nat) (qd qa count : BitVec 4) (s : State) : Host.Outcome State Fault Refusal :=
  .next (s.gussetOp engine (fun _ => .shr qd.toNat qa.toNat count.toNat))
/-- GSTAT (R211): answered when the Gusset accepts it. -/
def execIGstat (engine : Nat) (gd : BitVec 5) (s : State) : Host.Outcome State Fault Refusal :=
  .next (s.gussetOp engine (fun _ => .stat gd.toNat))

/-! ## Acceptance (R204, R205) -/

/-- What bank b of Gusset n offers for acceptance: an MB partition's queued commands in queue order, else what the engine
presents. -/
def State.gussetOffer (s : State) (n b : Nat) : Option GWork :=
  let x := s.gus n
  if s.mbDsp (engineOf n b) then x.queued.find? (fun w => w.bank == b)
  else (x.presented.find? (fun p => p.1 == b)).map (fun p => p.2)

/-- Bank b has an instruction that its in-flight limit does not block. -/
def State.gussetReady (s : State) (n b : Nat) : Bool :=
  match s.gussetOffer n b with
  | some w => w.op.isStat || decide ((s.gus n).inFlight b < 8)
  | none => false

/-- The value of GSTAT (R211). -/
def State.gussetStatus (s : State) (n b : Nat) : Nat :=
  let x := s.gus n
  let k := x.inFlight b
  (x.work.length - k) * 2 ^ 24 + (if natBit (s.rf GUS_STATE_LOST n) b then 2 ^ 17 else 0)
    + (if x.qsat.contains b then 2 ^ 16 else 0) + (if k = 8 then 16 else 0) + k

/-- The first work of bank b that `p` selects, under `f`. -/
def Gusset.mapWork (x : Gusset) (p : GWork → Bool) (f : GWork → GWork) : Gusset :=
  match x.work.findIdx? p, x.work.find? p with
  | some i, some w => { x with work := x.work.set i (f w) }
  | _, _ => x

/-- A fused instruction of bank b that has not retired. -/
def GWork.open (w : GWork) (b : Nat) : Bool := w.bank == b && !w.retired

/-- The accepted fused instructions of engine g retire in order, up to a GMOVF, which waits for its row (R191, R209). -/
def State.retireFused (s : State) (g : Nat) : Nat → State
  | 0 => s
  | k + 1 =>
    let n := gussetOf g
    let b := bankOf g
    let x := s.gus n
    match x.work.find? (fun w => w.open b) with
    | some w =>
      if w.op.isMovf then s.setEng g { s.eng g with wait := .gusset } else
      let s := s.setGus n (x.mapWork (fun w => w.open b) (fun w => { w with retired := true }))
      let e := s.eng g
      let s := s.setEng g { e with pc := (e.pc + 4) % 2 ^ 15, resumed := false, wait := .none }
      s.retireFused g k
    | none => if x.presented.any (fun p => p.1 == b) then s.setEng g { s.eng g with wait := .gusset } else s

/-- Bank b's instruction is accepted: a GSTAT is answered, a GMOVF goes on holding its engine, and every other native
instruction retires once it is the engine's oldest. -/
def State.gussetTake (s : State) (n b : Nat) (w : GWork) : State :=
  let g := engineOf n b
  let status := s.gussetStatus n b
  let x := s.gus n
  let x := { x with next := (b + 1) % 4, presented := if s.mbDsp g then x.presented else x.presented.del b,
                    queued := if s.mbDsp g then x.queued.eraseP (fun w => w.bank == b) else x.queued }
  let s := s.incf GUS_OPS_COUNT n
  match w.op with
  | .stat gd => (s.setGus n x).retire g { (s.eng g).setReg (BitVec.ofNat 5 gd) (BitVec.ofNat 64 status) with wait := .none }
  | _ =>
    let s := s.setGus n { x with work := x.work ++ [w] }
    if w.tag.isSome then s else (s.retireFused g 4).takeAsync g

/-- GUSSET_ACCEPT (R204): the round-robin pointer chooses among the banks that offer an instruction. -/
def execGussetAccept (gusset : Nat) (s : State) : Host.Outcome State Fault Refusal :=
  .next (
    let first := (s.gus gusset).next
    match ((List.range 4).map (fun i => (first + i) % 4)).find? (fun b => s.gussetReady gusset b) with
    | none => s
    | some b =>
      match s.gussetOffer gusset b with
      | none => s
      | some w => s.gussetTake gusset b w)

/-! ## Beginning and commit (R206, R209) -/

/-- The register words (register × 8 + word) that an operation reads. -/
def GOp.sources : GOp → List Nat
  | .mul _ a b => words a ++ words b | .mulh _ a b => words a ++ words b | .mulbh _ a b => words a ++ words b
  | .mac d a b => words d ++ words a ++ words b | .msu d a b => words d ++ words a ++ words b
  | .add _ a b => words a ++ words b | .sub _ a b => words a ++ words b | .herm _ a => words a | .zero _ => []
  | .shr _ a _ => words a | .movt _ _ _ => [] | .movf _ q row => [q * 8 + 2 * row, q * 8 + 2 * row + 1] | .stat _ => []
where words (r : Nat) : List Nat := (List.range 8).map (fun i => r * 8 + i)

/-- The register words that an operation writes. -/
def GOp.writes : GOp → List Nat
  | .movt d row _ => [d * 8 + 2 * row, d * 8 + 2 * row + 1]
  | op => match op.dest with
    | some d => (List.range 8).map (fun i => d * 8 + i)
    | none => []

/-- A word that the operation reads holds the poison mark, and no earlier operation of the bank writes it. -/
def Gusset.readsPoison (x : Gusset) (b : Nat) (op : GOp) : Bool :=
  op.sources.any (fun w => x.poison.contains (128 * b + w)
    && !x.work.any (fun y => y.bank == b && y.begun && y.op.writes.contains w))


/-- The MEMID of the register file of Gusset n (R396), in which word w of the file lies at byte offset 8w. -/
def gussetMem (n : Nat) : Nat := 0x3000 + gussetId n

/-- A Gusset reset (R216): its registers are written with zero, which frees their Darning log entries (R203, R394). -/
def State.resetGusset (s : State) (n reason : Nat) : State :=
  let s := (s.setGus n Gusset.reset).setLog (gussetMem n) []
  let s := (List.range 4).foldl (fun s b =>
    let g := engineOf n b
    let st := (s.eng g).state
    if st = .running ∨ st = .free then s.resetEngine g else s) s
  ((s.sf GUS_STATE_LOST n 0xF).incf GUS_RESETS_COUNT n).raiseReason (evGusset n) reason GUS_STATE_LAST_REASON n

/-- The row that an MB read moves is usable: no command of the bank that writes its register is queued or uncommitted
(R213). Having retired, they commit as their results become usable (R209). -/
def Gusset.rowUsable (x : Gusset) (b r : Nat) : Bool :=
  !(x.queued ++ x.work).any (fun w => w.bank == b && w.op.dest == some r)

/-- Of the register-file words (register × 8 + word) that a read by `op` of bank b corrects, each is counted and noted in the
Darning log (R215). -/
def State.gussetCorrected (s : State) (n b : Nat) (op : GOp) (corrected : List Nat) : State :=
  (corrected.filter (fun a => (op.sources.map (fun w => 128 * b + w)).contains a)).foldl (fun s a =>
    ((s.countCorrection.incf GUS_CORR_COUNT n).darnNote (gussetMem n) (8 * a)).2) s

/-- A read of the register file meets a bad word (R216, R391): one that is uncorrectable is counted and logged, at an offset
that is open, a poison mark is counted only; the Gusset is reset. -/
def State.gussetBadRead (s : State) (n : Nat) (uncorrectable : Bool) : State :=
  (if uncorrectable then (s.fresh).countUncorrectable (gussetMem n) (Config.flightLog s.free % 512) (gussetId n) 0
    else s.incf MP_POISON_READS_COUNT).resetGusset n 0x01

/-- GUSSET_BEGIN (R206): the bank's oldest instruction that has not begun. `corrected` lists the register-file words
(register × 8 + word, of the 64 registers) whose read was corrected; an uncorrectable one causes a Gusset reset (R215). -/
def execGussetBegin (gusset bank : Nat) (corrected : List Nat) (uncorrectable : Bool) (s : State) :
    Host.Outcome State Fault Refusal :=
  .next (
    let x := s.gus gusset
    match x.work.find? (fun w => w.bank == bank && !w.begun) with
    | none => s
    | some w =>
      if uncorrectable || x.readsPoison bank w.op then s.gussetBadRead gusset uncorrectable else
      let s := s.gussetCorrected gusset bank w.op corrected
      let r := gResult w.op w.rnd (x.shadow bank)
      s.setGus gusset (x.mapWork (fun w => w.bank == bank && !w.begun)
        (fun w => { w with begun := true, value := r.1, saturated := r.2 })))

/-- A place in the MB queue has come free: the command that the engine holds enters it and retires (R212). -/
def State.mbHeldEnters (s : State) (n b : Nat) : State :=
  let g := engineOf n b
  let x := s.gus n
  match x.presented.find? (fun p => p.1 == b) with
  | some (_, w) =>
    if s.mbDsp g && w.tag.isSome && decide (x.mbCount b < 8) then
      let s := s.setGus n { x with presented := x.presented.del b, queued := x.queued ++ [w] }
      s.retire g { s.eng g with wait := .none }
    else s
  | none => s

/-- The committing instruction of a bank: of its uncommitted ones, the one at place `order`. It has begun, and has retired or
is a GMOVF that the engine's oldest instruction is. DESIGN CHOICE: two that write one register commit in the order of
acceptance. -/
def Gusset.committing (x : Gusset) (b order : Nat) : Option GWork :=
  let l := x.work.filter (fun w => w.bank == b)
  match l[order]? with
  | some w =>
    let older := l.take order
    if w.begun && (w.retired || (w.op.isMovf && older.all (fun y => y.retired)))
        && !(w.op.dest.isSome && older.any (fun y => y.op.dest == w.op.dest)) then some w
    else none
  | none => none

/-- The state of a Gusset once work of a bank has committed (R208, R209). -/
def Gusset.commit (x : Gusset) (b order : Nat) (w : GWork) : Gusset :=
  let i := ((List.range x.work.length).filter (fun i => x.work[i]?.any (fun y => y.bank == b))).getD order 0
  { x with
    work := x.work.eraseIdx i
    poison := x.poison.filter (fun k => !(w.op.writes.map (fun v => 128 * b + v)).contains k)
    qsat := if w.saturated && !x.qsat.contains b then b :: x.qsat else x.qsat
    regs := match w.op.dest with
      | some d => x.regs.set (16 * b + d) w.value
      | none => x.regs }

/-- GUSSET_COMMIT (R209): the result of a bank's uncommitted instruction has become usable and the instruction has retired:
it commits. A saturation sets QSAT (R208); a write frees the Darning log entries of its words
(R394); a GMOVF gives its row to the engine, retires, and lets those behind it retire. -/
def execGussetCommit (gusset : Nat) (work : BankWork) (s : State) : Host.Outcome State Fault Refusal :=
  .next (
    let bank := work.bank
    let x := s.gus gusset
    match x.committing bank work.order with
    | none => s
    | some w =>
      let s := s.setGus gusset (x.commit bank work.order w)
      let s := (w.op.writes.map (fun v => 8 * (128 * bank + v))).foldl (fun s a => s.darnWrite (gussetMem gusset) a) s
      let s := match w.op with
        | .movf vd _ _ =>
          let g := engineOf gusset bank
          let e := (s.eng g).setVec (BitVec.ofNat 5 vd) (w.value.setWidth 128)
          let s := s.setEng g { e with pc := (e.pc + 4) % 2 ^ 15, resumed := false, wait := .none }
          (s.retireFused g 4).takeAsync g
        | _ => s
      s.mbHeldEnters gusset bank)

/-- A write of GUS_CTRL (R219): EXCLUDE takes its value, SRESET causes a reset with reason 0x02. A retired Gusset is held
in reset already (R217). -/
def State.writeGusCtrl (s : State) (u n v : Nat) : State :=
  if !s.mayWritePanel u (n / 4) || !s.present (gussetId n) then s else
  let s := s.sf GUS_CTRL_EXCLUDE n v
  if natBit v 8 && !s.bit GUS_STATE_RETIRED n then s.resetGusset n 0x02 else s

/-- GUSSET_SRESET (R216): a GUS_CTRL write with SRESET 1. -/
def execGussetSreset (requester gusset : Nat) (control : Half) (s : State) : Host.Outcome State Fault Refusal :=
  .next (s.atIsland requester (gusset / 4) (fun s => s.writeGusCtrl requester gusset (control ||| 0x100).toNat))

/-- The health monitor retires Gusset n, fences apart (R217): its uncommitted work is dropped and its quad's engines are
reset, then it is held in reset. -/
def State.retireGusset (s : State) (n : Nat) : State :=
  let s := s.setGus n Gusset.reset
  let s := (List.range 4).foldl (fun s b =>
    let g := engineOf n b
    let st := (s.eng g).state
    if st = .running ∨ st = .free then s.resetEngine g else s) s
  ((s.sf GUS_STATE_RETIRED n 1).sf GUS_CTRL_EXCLUDE n 1).raiseReason (evGusset n) 0x03 GUS_STATE_LAST_REASON n

end Sys2Proof.Machine
end

