-- ==== Sys2Proof/Machine/Dram.lean ====
section
/-!
DEFINITION. The DRAM subsystem: mapping (R406), requests and their scheduling (R409 to R414), refresh (R415 to R417), refresh management and row
hammer (R418 to R421), power states (R422 to R424), periodic actions (R408), row repair (R426), and rank migration and retirement
(R427 to R430).
-/

namespace Sys2Proof.Machine

open Reg Ob

/-! ## Mapping (R406) -/

/-- A write of DRAM_XLATE_ADDR (R406, R431). -/
def State.writeXlate (s : State) (u addr : Nat) : State :=
  if !(isThimble u || isPf0 u) then s else
  let s := s.sf DRAM_XLATE_ADDR_ADDR 0 addr
  let a := addr % 2 ^ 48
  let o := a - dramBase
  if dramBase ≤ a ∧ o < s.rf DRAM_CAPACITY_BYTES then
    let p := s.dramPlace o
    let s := ((s.sf DRAM_XLATE_OUT_VALID 0 1).sf DRAM_XLATE_OUT_CHANNEL 0 p.channel).sf DRAM_XLATE_OUT_SUB 0 p.sub
    let s := ((s.sf DRAM_XLATE_OUT_RANK 0 p.rank).sf DRAM_XLATE_OUT_LRANK 0 p.lrank).sf DRAM_XLATE_OUT_BG 0 p.bg
    ((s.sf DRAM_XLATE_OUT_BANK 0 p.bank).sf DRAM_XLATE_OUT_ROW 0 p.row).sf DRAM_XLATE_OUT_COLUMN 0 p.column
  else
    [DRAM_XLATE_OUT_CHANNEL, DRAM_XLATE_OUT_SUB, DRAM_XLATE_OUT_RANK, DRAM_XLATE_OUT_LRANK, DRAM_XLATE_OUT_BG,
      DRAM_XLATE_OUT_BANK, DRAM_XLATE_OUT_ROW, DRAM_XLATE_OUT_COLUMN].foldl (fun s f => s.sf f 0 0) (s.sf DRAM_XLATE_OUT_VALID 0 0)

/-- DRAM_XLATE. -/
def execDramXlate (requester : Nat) (address : Word) (s : State) : Host.Outcome State Fault Refusal :=
  .next (s.atIsland requester 75 (fun s => s.writeXlate requester address.toNat))

/-! ## Refresh debt (R415, R416) -/

/-- Channel c is enabled and its rank r present and not retired. -/
def State.rankLive (s : State) (c r : Nat) : Bool :=
  s.bit DRAM_CH_CFG_ENABLE c && decide (r < 4) && (s.rankState c r == 1 || s.rankState c r == 2)

/-- tREFI of a rank in ns. -/
def DramRank.trefi (x : DramRank) : Nat := if x.fast then 1950 else 3900

/-- D of a rank now; 0 in self-refresh. -/
def State.debt (s : State) (x : DramRank) : Int := if x.selfRefresh.isSome then 0 else x.debt + nsOf (s.tb.count - x.at_)

/-- The rank with D brought to `d` now. -/
def State.withDebt (s : State) (x : DramRank) (d : Int) : DramRank := { x with debt := d, at_ := s.tb.count }

/-- The rank of a request. -/
def State.reqPlace (s : State) (q : DramReq) : DramPlace := s.dramPlace (q.addr - dramBase)

/-- No request waits for the rank. -/
def State.rankIdle (s : State) (c r : Nat) : Bool := !(s.dch c).waiting.any (fun q => (s.reqPlace q).rank == r)

/-- D has reached 4 × tREFI: a refresh cannot wait. -/
def State.refreshDue (s : State) (c r : Nat) : Bool :=
  s.rankLive c r && decide (4 * ((s.drank c r).trefi : Int) ≤ s.debt (s.drank c r))

/-- The rank of a bank's number. -/
def bankRank (key : Nat) : Nat := key / 128 % 4

/-- n refreshes of a rank take their share off the rolling activation counts of its banks (R418, as JESD79-5 defines them).
PRESUMED. -/
def State.refreshCounts (s : State) (c r n : Nat) : State :=
  let x := s.dch c
  s.setDch c { x with activations := x.activations.map (fun (e : Nat × Nat) =>
    if bankRank e.1 = r then (e.1, e.2 - n * Config.rfmRefresh c) else e) }

/-- An RFM command to a bank takes the threshold off its rolling activation count. -/
def State.manageRefresh (s : State) (c bank : Nat) : State :=
  let x := s.dch c
  (s.setDch c { x with activations := x.activations.set bank (Tab.get 0 x.activations bank - max 1 (Config.rfmThreshold c)) }).send
    (.rfm c bank)

/-- Before an activation of a bank whose count stands at the limit, where the devices require it, RFM goes out (R418); then the
activation counts. -/
def State.countActivation (s : State) (c bank : Nat) : State :=
  if !Config.rfmRequired c then s else
  let s := if Config.rfmLimit c ≤ Tab.get 0 (s.dch c).activations bank then s.manageRefresh c bank else s
  let x := s.dch c
  s.setDch c { x with activations := x.activations.set bank (Tab.get 0 x.activations bank + 1) }

/-- DRAM_REFRESH: a refresh unit for a rank: at once at the limit, else on an idle rank where one is owed, or pulled in
down to D = −4 × tREFI. -/
def execDramRefresh (channel rank : Nat) (pull : Bool) (s : State) : Host.Outcome State Fault Refusal :=
  let x := s.drank channel rank
  let d := s.debt x
  let t : Int := x.trefi
  .next (if s.rankLive channel rank && x.selfRefresh.isNone
      && (decide (4 * t ≤ d) || (s.rankIdle channel rank && (decide (t ≤ d) || (pull && decide (-4 * t ≤ d - t))))) then
    (s.setDrank channel rank (s.withDebt x (d - t))).refreshCounts channel rank 1
  else s)

/-- The smallest k for which D, after k refreshes of `rfc` ns each at the interval `t`, is at most 4 × t (R417). -/
def payCount (d t rfc : Int) : Nat := if t ≤ rfc then 0 else ((d - 4 * t + (t - rfc) - 1) / (t - rfc)).toNat

/-- DRAM_TEMP_POLL: a poll reads the highest refresh rate that a device of the rank reports: 1, 2, or more. -/
def execDramTempPoll (channel rank rate : Nat) (s : State) : Host.Outcome State Fault Refusal :=
  let x := s.drank channel rank
  let due := match x.polled with
    | some t => decide (t + s.ob oDRAM_TEMP_POLL_TICKS ≤ s.tb.count)
    | none => true
  .next (if !s.rankLive channel rank || x.selfRefresh.isSome || !due then s else
    let fast := decide (2 ≤ rate)
    let d := s.debt x
    let rfc := s.rf DRAM_CH_TIMING_TRFC_NS channel
    let i := channel * 4 + rank
    let pay := fast && !x.fast && decide (4 * 1950 < d)
    let k := if pay then payCount d 1950 rfc else 0
    let s := (s.setDrank channel rank { s.withDebt x (d - k * 1950) with fast := fast, polled := some s.tb.count, pollFirst := false }).refreshCounts
      channel rank k
    let s := s.sf DRAM_CH_STATE_TEMP_2X channel
      ((List.range 4).any (fun r => s.rankLive channel r && (s.drank channel r).fast)).toNat
    let s := if pay then ((s.incf DRAM_RANK_STALL_NS i (k * rfc)).incf DRAM_RANK_FORCED_COUNT i).dramEvent channel 0x02 else s
    if 2 < rate then s.dramEvent channel 0x0B else s)

/-! ## Periodic actions (R408) -/

/-- An action of a period in ms is due. -/
def State.periodic (s : State) (last : Option Nat) (ms : Nat) : Bool :=
  match last with
  | some t => decide (t + ms * 122880 ≤ s.tb.count)
  | none => true

/-- DRAM_ZQ_CAL: every 128 ms. -/
def execDramZqCal (channel rank : Nat) (s : State) : Host.Outcome State Fault Refusal :=
  let x := s.drank channel rank
  .next (if s.rankLive channel rank && s.periodic x.zq 128 then s.setDrank channel rank { x with zq := some s.tb.count } else s)

/-- DRAM_DQS_OSC_READ: every 64 ms; the write timing is adjusted to the drift measured, or the rank is to be retrained
where the drift exceeds the range. -/
def execDramDqsOscRead (channel rank : Nat) (drift : Int) (inRange : Bool) (s : State) : Host.Outcome State Fault Refusal :=
  let x := s.drank channel rank
  .next (if s.rankLive channel rank && s.periodic x.dqs 64 then
    s.setDrank channel rank (if inRange then { x with dqs := some s.tb.count, drift := drift }
      else { x with dqs := some s.tb.count, retrain := true })
  else s)

/-- A write of DRAM_CH_CTRL: RETRAIN has its rank retrained (R408, R432). -/
def State.writeChCtrl (s : State) (u c v : Nat) : State :=
  if !isThimble u then s else
  let s := s.sf DRAM_CH_CTRL_RANK c (v / 16)
  let r := v / 16 % 4
  if natBit v 0 then s.setDrank c r { s.drank c r with retrain := true } else s

/-- DRAM_RANK_RETRAIN: a rank that is to be retrained is, which blocks it for some ns, at most 50 µs. -/
def execDramRankRetrain (channel rank blocked : Nat) (s : State) : Host.Outcome State Fault Refusal :=
  let x := s.drank channel rank
  .next (if s.rankLive channel rank && x.retrain then
    ((s.setDrank channel rank { x with retrain := false, drift := 0 }).incf DRAM_RANK_STALL_NS (channel * 4 + rank)
      (min blocked 50000)).dramEvent channel 0x03
  else s)

/-! ## Ports (R409, R413) -/

/-- The port of a unit. -/
def dramPort (u : Nat) : Nat :=
  if u < 0x540 then 0
  else if u < 0x542 then 1
  else if 0x600 ≤ u ∧ u < 0x738 then (if (u - 0x600) % 39 ≤ 20 then 2 else if (u - 0x600) % 39 ≤ 32 then 3 else 4)
  else if 0x740 ≤ u ∧ u < 0x744 then 3
  else if 0x800 ≤ u ∧ u < 0x810 then 5
  else if 0x820 ≤ u ∧ u < 0x850 then 6
  else if 0x900 ≤ u ∧ u < 0x908 then 7
  else if (functionOf u).isSome then 8
  else if 0xA00 ≤ u ∧ u < 0xA08 then 9
  else if u = unitNone then 11
  else 10

/-- The requests of a port that wait, on any channel. -/
def State.portWaiting (s : State) (p : Nat) : List DramReq :=
  (s.dram.flatMap (fun (e : Nat × DramCh) => e.2.waiting)).filter (fun q => dramPort q.unit == p)

/-- How long a port's oldest request has waited, in ns. -/
def State.portWait (s : State) (p : Nat) : Nat :=
  (s.portWaiting p).foldl (fun m q => max m (nsOf (s.replica 75 - q.arrival))) 0

/-- The port's oldest request has waited longer than its target. -/
def State.portOver (s : State) (p : Nat) : Bool :=
  decide (0 < s.rf DRAM_PORT_CFG_TARGET_NS p) && decide (s.rf DRAM_PORT_CFG_TARGET_NS p < s.portWait p)

/-- DRAM_PORT_URGENT: a port's oldest request has waited too long. -/
def execDramPortUrgent (port : Nat) (s : State) : Host.Outcome State Fault Refusal :=
  .next (if decide (port < 12) && s.portOver port && !s.bit DRAM_PORT_CFG_URGENT port then
    let s := (s.sf DRAM_PORT_CFG_URGENT port 1).incf DRAM_PORT_OVERRUNS_COUNT port
    let due := match Tab.get none s.dramPorts port with
      | some t => decide (t + 122880 ≤ s.tb.count)
      | none => true
    if due then { s with dramPorts := s.dramPorts.set port (some s.tb.count) }.raise (0x09A0 + port) else s
  else s)

/-! ## Row hammer (R419 to R421) -/

/-- The entry of least count. -/
def leastRow : List DramRow → Option DramRow
  | [] => none
  | d :: r =>
    match leastRow r with
    | none => some d
    | some m => if d.count ≤ m.count then some d else some m

/-- Boyer–Moore voting of R419. -/
def DramRow.vote1 (d : DramRow) (u : Nat) : DramRow :=
  if d.unit = u then { d with vote := d.vote + 1 }
  else if d.vote = 0 then { d with unit := u, vote := 1 }
  else { d with vote := d.vote - 1 }

/-- The tracker after an activation of a row by a unit, and the row's entry in it. -/
def trackRow (l : List DramRow) (key unit : Nat) : List DramRow × DramRow :=
  match l.find? (fun d => d.key == key) with
  | some d =>
    let e := { d with count := d.count + 1 }.vote1 unit
    (l.map (fun x => if x.key = key then e else x), e)
  | none =>
    if l.length < 1024 then
      let e : DramRow := ⟨key, 1, 0, unit, 1⟩
      (l ++ [e], e)
    else match leastRow l with
      | some m =>
        let e : DramRow := { (⟨key, m.count + 1, 0, m.unit, m.vote⟩ : DramRow) with }.vote1 unit
        (l.map (fun x => if x.key = m.key then e else x), e)
      | none => (l, ⟨key, 1, 0, unit, 1⟩)

/-- The candidate of an entry is throttled on the channel. Units of ports 10 and 11 are not. -/
def State.throttle (s : State) (c unit bank : Nat) : State :=
  let s := if dramPort unit = 10 ∨ dramPort unit = 11 then s
    else
      let x := s.dch c
      let t : DramThrottle := ⟨unit, bank, s.tb.count + s.ob oDRAM_RH_THROTTLE_TICKS, s.tb.count⟩
      (s.setDch c { x with throttles := x.throttles.filter (fun y => y.unit != unit) ++ [t] }).incf DRAM_RH_THROTTLES_COUNT c
  s.dramEvent c 0x04

/-- An activation at a place by a unit. A targeted refresh is DRFMsb for the row, or RFMsb to its bank (R420). -/
def State.activate (s : State) (p : DramPlace) (unit : Nat) : State :=
  let c := p.channel
  let s := s.countActivation c p.bankKey
  let x := s.dch c
  let (l, e) := trackRow x.tracker p.rowKey unit
  let s := s.setDch c { x with tracker := l, opened := x.opened.set p.bankKey p.row
                               throttles := x.throttles.map (fun t =>
                                 if t.unit = unit ∧ t.bank = p.bankKey then { t with last := s.tb.count } else t) }
  if e.count < s.ob oDRAM_RH_THRESH then s
  else
    let f := { e with count := 0, repeats := e.repeats + 1 }
    let x := s.dch c
    let s := s.setDch c { x with tracker := x.tracker.map (fun y => if y.key = e.key then f else y) }
    let s := ((s.incf DRAM_RH_REFRESHES_COUNT c).sf DRAM_RH_LAST_UNIT c e.unit).sf DRAM_RH_LAST_RANK c p.rank
    let s := ((s.sf DRAM_RH_LAST_SUB c p.sub).sf DRAM_RH_LAST_BG c p.bg).sf DRAM_RH_LAST_BANK c p.bank
    let s := s.sf DRAM_RH_LAST_ROW c p.row
    let s := if s.bit DRAM_CH_CFG_DRFM c then s else s.manageRefresh c p.bankKey
    if f.repeats = s.ob oDRAM_RH_REPEAT then s.throttle c e.unit p.bankKey else s

/-- DRAM_RH_THROTTLE_END. -/
def execDramRhThrottleEnd (channel unit : Nat) (s : State) : Host.Outcome State Fault Refusal :=
  let x := s.dch channel
  .next (s.setDch channel { x with throttles := x.throttles.filter (fun t => t.unit != unit || decide (s.tb.count < t.until_)) })

/-- DRAM_RH_WINDOW_END: after 32 ms, 16 ms at the 2x rate, the tracker is cleared. -/
def execDramRhWindowEnd (channel : Nat) (s : State) : Host.Outcome State Fault Refusal :=
  let x := s.dch channel
  let ms := if s.bit DRAM_CH_STATE_TEMP_2X channel then 16 else 32
  .next (if x.window + ms * 122880 ≤ s.tb.count then s.setDch channel { x with tracker := [], window := s.tb.count } else s)

/-! ## Scheduling (R410 to R414) -/

/-- The credits of a unit on a channel. -/
def State.dramCredits (s : State) (c u : Nat) : Nat :=
  if (s.dch c).throttles.any (fun t => t.unit == u && decide (s.tb.count < t.until_)) then 1 else s.ob oDRAM_UNIT_CREDITS

/-- Requests held for a credit join the queue where they now may, in order. -/
def State.admitHeld (s : State) (c : Nat) : State :=
  (s.dch c).held.foldl (fun s q =>
    let x := s.dch c
    if (x.waiting.filter (fun w => w.unit == q.unit)).length < s.dramCredits c q.unit then
      s.setDch c { x with waiting := x.waiting ++ [q] }
    else s.setDch c { x with held := x.held ++ [q] }) (s.setDch c { s.dch c with held := [] })

/-- The signed distance of a request's effective deadline by the DRAM island's time (R64), and its class (R412). -/
def State.reqRank (s : State) (q : DramReq) : Int × Nat :=
  let now := s.nowAt 75
  (min (slack q.deadline now) (slack ((q.arrival + s.rf DRAM_AGE_TICKS q.cls) % 2 ^ 48) now), q.cls)

/-- The request goes to the row that its bank has open. -/
def State.rowHit (s : State) (c : Nat) (q : DramReq) : Bool :=
  let p := s.reqPlace q
  match (s.dch c).opened.find? (fun e => e.1 == p.bankKey) with
  | some e => e.2 == p.row
  | none => false

/-- The request may be served: its rank takes commands, no request of its unit to its burst came before, and a throttled
unit's activations are spaced. -/
def State.servableReq (s : State) (c sub : Nat) (q : DramReq) : Bool :=
  let p := s.reqPlace q
  let x := s.dch c
  p.sub == sub && s.rankLive c p.rank && (s.drank c p.rank).selfRefresh.isNone && !(s.drank c p.rank).pollFirst
    && (x.waiting.find? (fun w => w.unit == q.unit && w.addr / 64 == q.addr / 64)) == some q
    && (s.rowHit c q || !x.throttles.any (fun t => t.unit == q.unit && t.bank == p.bankKey
      && decide (nsOf (s.tb.count - t.last) < s.ob oDRAM_RH_GAP_NS)))

/-- The first of a list by R42. -/
def State.firstReq (s : State) : List DramReq → Option DramReq
  | [] => none
  | q :: r =>
    match s.firstReq r with
    | none => some q
    | some b =>
      let x := s.reqRank q
      let y := s.reqRank b
      if y.1 < x.1 ∨ (y.1 = x.1 ∧ y.2 < x.2) then some b else some q

/-- The choice within a tier: the first by R42, unless a row hit within DRAM.HIT_WINDOW passes over it. -/
def State.chooseReq (s : State) (c sub : Nat) (l : List DramReq) : Option (DramReq × Bool) :=
  match s.firstReq l with
  | none => none
  | some q =>
    if s.rowHit c q then some (q, false)
    else match s.firstReq (l.filter (s.rowHit c)) with
      | some h =>
        if (s.reqRank h).1 ≤ (s.reqRank q).1 + s.ob oDRAM_HIT_WINDOW ∧ Tab.get 0 (s.dch c).hits sub < 16 then some (h, true)
        else some (q, false)
      | none => some (q, false)

/-- The request that a subchannel serves next: none while a refresh cannot wait; urgent ports first; then writes while
they drain. -/
def State.nextReq (s : State) (c sub : Nat) : Option (DramReq × Bool) :=
  if (List.range 4).any (s.refreshDue c) then none else
  let l := (s.dch c).waiting.filter (s.servableReq c sub)
  match s.chooseReq c sub (l.filter (fun q => s.bit DRAM_PORT_CFG_URGENT (dramPort q.unit))) with
  | some q => some q
  | none =>
    match (if Tab.get false (s.dch c).draining sub then s.chooseReq c sub (l.filter (fun q => q.write)) else none) with
    | some q => some q
    | none => s.chooseReq c sub l

/-- Buffered writes of a subchannel. -/
def State.writesWaiting (s : State) (c sub : Nat) : Nat :=
  ((s.dch c).waiting.filter (fun q => q.write && (s.reqPlace q).sub == sub)).length

/-- Writes go ahead from 56 buffered until 32 are left (R414). -/
def State.setDraining (s : State) (c sub : Nat) : State :=
  let n := s.writesWaiting c sub
  let x := s.dch c
  if 56 ≤ n then s.setDch c { x with draining := x.draining.set sub true }
  else if n ≤ 32 then s.setDch c { x with draining := x.draining.set sub false }
  else s

/-- A request is served. -/
def State.serveReq (s : State) (c sub : Nat) (q : DramReq) (passed : Bool) : State :=
  let p := s.reqPlace q
  let hit := s.rowHit c q
  let x := s.dch c
  let s := s.setDch c { x with
    waiting := x.waiting.erase q
    hits := x.hits.set sub (if passed then Tab.get 0 x.hits sub + 1 else 0) }
  let s := s.setDrank c p.rank { s.drank c p.rank with used := s.tb.count, powerDown := false }
  let port := dramPort q.unit
  let s := s.maxf DRAM_PORT_LAT_MAX_NS port (nsOf (s.replica 75 - q.arrival))
  let s := if hit then s else s.activate p q.unit
  let s := if s.portOver port then s else s.sf DRAM_PORT_CFG_URGENT port 0
  s.admitHeld c

/-- Reads of bursts that the write buffer holds (R414), with the state in which it has answered them. -/
def State.answerBuffered (s : State) (c : Nat) : State :=
  let l := (s.dch c).waiting
  let held := fun (q : DramReq) => !q.write
    && (l.takeWhile (fun w => w != q)).any (fun w => w.write && w.addr / 64 == q.addr / 64)
  let answered := l.filter held
  let s := s.setDch c { s.dch c with waiting := l.filter (fun q => !held q) }
  (answered.foldl (fun s q => s.maxf DRAM_PORT_LAT_MAX_NS (dramPort q.unit) (nsOf (s.replica 75 - q.arrival))) s).admitHeld c

/-- DRAM_REQUEST: requests arrive at a channel, and one of its subchannels chooses what it serves next. -/
def execDramRequest (channel sub : Nat) (arrivals : List (Nat × Bool × Nat × Nat × Nat)) (s : State) :
    Host.Outcome State Fault Refusal :=
  .next (
    let l := arrivals.map (fun a => (⟨a.1, a.2.1, a.2.2.1, a.2.2.2.1 % 2 ^ 48, a.2.2.2.2 % 8, s.replica 75⟩ : DramReq))
    let l := l.filter (fun q => (s.reqPlace q).channel == channel)
    let s := s.setDch channel { s.dch channel with held := (s.dch channel).held ++ l }
    let s := ((s.admitHeld channel).answerBuffered channel).setDraining channel sub
    match s.nextReq channel sub with
    | some (q, passed) => (s.serveReq channel sub q passed).setDraining channel sub
    | none => s)

/-! ## Power-down and self-refresh (R422 to R424) -/

/-- DRAM_POWER_DOWN: the rank has been idle for DRAM.PD_IDLE_NS. -/
def execDramPowerDown (channel rank : Nat) (s : State) : Host.Outcome State Fault Refusal :=
  let x := s.drank channel rank
  .next (if s.rankLive channel rank && s.rankIdle channel rank && x.selfRefresh.isNone
      && decide (s.ob oDRAM_PD_IDLE_NS ≤ nsOf (s.tb.count - x.used)) then
    s.setDrank channel rank { x with powerDown := true }
  else s)

/-- A rank enters self-refresh; D is held at 0. -/
def State.enterSelfRefresh (s : State) (c r : Nat) : State :=
  s.setDrank c r { s.withDebt (s.drank c r) 0 with selfRefresh := some s.tb.count, powerDown := false }

/-- DRAM_SELF_REFRESH_ENTRY: the DRAM island goes to SLEEP or DEEP, or the rank has been idle for DRAM.SR_IDLE_US. A
request that waits for the rank abandons the entry. -/
def execDramSelfRefreshEntry (channel rank : Nat) (s : State) : Host.Outcome State Fault Refusal :=
  let x := s.drank channel rank
  let idle := s.ob oDRAM_SR_IDLE_US
  let wanted := s.rf PM_ISLAND_STATE_STATE 75 == 2 || s.rf PM_ISLAND_STATE_STATE 75 == 3
    || (decide (0 < idle) && decide (1000 * idle ≤ nsOf (s.tb.count - x.used)))
  .next (if s.rankLive channel rank && wanted && x.selfRefresh.isNone && s.rankIdle channel rank then
    s.enterSelfRefresh channel rank
  else s)

/-- DRAM_SELF_REFRESH_EXIT: a request waits for the rank: after SR_MIN_NS of residency, D starts from 0, and the first poll
comes before the first request. -/
def execDramSelfRefreshExit (channel rank : Nat) (s : State) : Host.Outcome State Fault Refusal :=
  let x := s.drank channel rank
  .next (match x.selfRefresh with
    | some t =>
      if s.rf DRAM_CH_SRTIME_SR_MIN_NS channel ≤ nsOf (s.tb.count - t) ∧ s.rankIdle channel rank = false then
        s.setDrank channel rank { s.withDebt x 0 with
          selfRefresh := none, polled := none, pollFirst := true, used := s.tb.count }
      else s
    | none => s)

/-! ## Degradation and migration (R427 to R430) -/

/-- DRAM_RETIRE_RANK_COMMAND: a write of DRAM.RETIRE_RANK; 0xFF has no effect. -/
def execDramRetireRankCommand (value : Nat) (s : State) : Host.Outcome State Fault Refusal :=
  .next (if value < 32 then s.degradeRank (value / 4) (value % 4) 3 else s)

/-- The word addresses of a region of a rank that memory lists. -/
def State.regionWords (s : State) (c r region : Nat) : List Nat :=
  (s.mem.filterMap (fun (e : Host.Cell) =>
    let a := e.1 / 8 * 8
    let a := if a < checkBase then a else a - checkBase
    if dramBase ≤ a ∧ a < 2 * dramBase then
      let (k, q) := s.dramLocal (a - dramBase)
      if k = c ∧ q / s.rankBytes c = r ∧ q % s.rankBytes c / 2 ^ 20 = region then some a else none
    else none)).dedup

/-- DRAM_MIGRATION_REGION: the next region is mirrored, copied, journalled and redirected. The step stalls during a thermal trip
(R662). -/
def execDramMigrationRegion (channel : Nat) (s : State) : Host.Outcome State Fault Refusal :=
  .next (if s.rf DRAM_MIG_STATE_STATE channel ≠ 1 ∨ s.bit PM_THERM_STATE_TRIP = true then s else
    let r := s.rf DRAM_MIG_STATE_FROM channel
    let t := s.rf DRAM_MIG_STATE_TO channel
    let k := s.rf DRAM_MIG_STATE_REGION channel
    if natBit (s.rf DRAM_CH_STATE_DEGRADED channel) t then (s.sf DRAM_MIG_STATE_STATE channel 3).dramEvent channel 0x0A
    else
      let s := { s with mem := (s.regionWords channel r k).foldl copyWord s.mem }
      let s := s.sf DRAM_MIG_STATE_REGION channel (k + 1)
      if (k + 1) * 2 ^ 20 < s.rankBytes channel then s
      else (((s.sf DRAM_MIG_STATE_STATE channel 2).setRankState channel r 3).setRankState channel t 1).dramEvent channel 0x08)

/-! ## Row repair (R426) -/

/-- A record of DRAM.REPAIRS (R433). -/
def State.repairRecord (s : State) (p : DramPlace) (chip : Nat) : List Byte :=
  valBytes 1 p.channel ++ valBytes 1 (p.sub * 4 + p.rank) ++ valBytes 1 chip ++ valBytes 1 (p.bg * 4 + p.bank)
    ++ valBytes 4 p.row ++ valBytes 8 (s.nowAt 75)

/-- DRAM_ROW_REPAIR: the oldest permanent fault that the Darning log has handed over, with the chip that the locator named,
the word addresses of the row, whether the bank group has a repair resource left, and the ns for which the rank was
blocked, at most 5 µs. -/
def execDramRowRepair (chip : Nat) (row : List Nat) (resource : Bool) (blocked : Nat) (s : State) :
    Host.Outcome State Fault Refusal :=
  .next (match s.protect.copying.find? (fun c => c.1 / 0x1000 == 6) with
    | some f =>
      let memid := f.1
      let a := f.2.2.2
      let p := s.dramPlace (a - dramBase)
      let c := p.channel
      let s := { s with protect := { s.protect with copying := s.protect.copying.erase f } }
      let s := s.setLog memid ((s.log memid).filter (fun d => d.word != a))
      if resource then
        let s := { s with mem := (row.map (fun w => w / 8 * 8)).foldl copyWord s.mem }
        ((s.incf DRAM_RANK_STALL_NS (c * 4 + p.rank) (min blocked 5000)).sdom oDRAM_REPAIRS 0
          (s.dom oDRAM_REPAIRS ++ s.repairRecord p chip)).dramEvent c 0x05
      else
        let x := s.drank c p.rank
        let l := (s.tb.count :: x.chips).filter (fun t => decide (s.tb.count < t + s.ob oDRAM_CHIP_WINDOW_S * ticksPerSecond))
        let s := (s.setDrank c p.rank { x with chips := l }).dramEvent c 0x06
        if !s.bit DRAM_CH_CFG_WIDTH c && decide (s.ob oDRAM_CHIP_CE_LIMIT ≤ l.length) then s.degradeRank c p.rank else s
    | none => s)

end Sys2Proof.Machine
end

