-- ==== Sys2Proof/Machine/Quilt.lean ====
section
/-!
DEFINITION. The Quilt: patch jobs (R465), patch states and commands (R466, R467), the configuration stream (R468 to R471),
isolation and start-up (R472 to R475), the scrubber (R476 to R480), and what follows a partition or a reset (R481, R482).
-/

namespace Sys2Proof.Machine

open Reg Ob

/-- The unit ID of patch n. -/
def patchUnit (n : Nat) : Nat := 0xA00 + n

/-- The island of the patches. -/
def quiltIsland : Nat := 78

/-- Frames of a patch (R460); the last is the sentinel. -/
def patchFrames : Nat := 4608
def sentinel : Nat := 4607

/-- The event of patch n, and that of the scrubber (R486). -/
def State.patchEvent (s : State) (n reason : Nat) : State := s.raiseReason (0xA80 + n) reason QP_STATE_LAST_REASON n
def State.scrubEvent (s : State) (reason : Nat) : State := s.raiseReason 0xA90 reason QS_STATUS_LAST_REASON 0

/-! ## Frames -/

/-- Ten symbols as one number of 80 bits. -/
def symbolBits (l : List Byte) : BitVec 80 := BitVec.ofNat 80 (bytesVal l)

/-- The codewords of a frame, and of a zero frame. -/
def frameCodes (ws : List Word) : List (BitVec 80) := ws.map (fun w => symbolBits (codewordOf (some w)))
def zeroFrame : List (BitVec 80) := List.replicate 64 0

/-- Frame f of patch x, and the patch with it replaced. -/
def Patch.frameAt (x : Patch) (f : Nat) : List (BitVec 80) := Tab.get zeroFrame x.frames f
def Patch.setFrame (x : Patch) (f : Nat) (l : List (BitVec 80)) : Patch := { x with frames := x.frames.set f l }

/-- The first n bytes of SHAKE256 over bytes (R471). -/
def shakeBytes (n : Nat) (l : List Byte) : List Byte := sliceBytes (Config.shake256 l) 0 n

/-- The bytes of words. -/
def wordsBytes (ws : List Word) : List Byte := ws.flatMap wordBytes

/-! ## Isolation and start-up (R472 to R475) -/

/-- The level of border output k once it is clamped (R472, R484). -/
def State.clamped (s : State) (n k : Nat) : Bool :=
  match s.rf QP_CLAMP_MODE n / 4 ^ k % 4 with
  | 0 => false
  | 1 => true
  | 2 => natBit (s.patch n).outs k
  | _ => Config.clampReserved n k

/-- The patch's job completes with a code. -/
def State.endPatchJob (s : State) (n code : Nat) : State :=
  let s := match s.runningOn (patchUnit n) with
    | some j => if j.report = none then s.reportJob j.id ⟨code, 0, 0, false⟩ else s
    | none => s
  s.setPatch n { s.patch n with given := none, late := none }

/-- The level that the die drives on pin i, where it drives one (R659). -/
def State.pinDriven (s : State) (i : Nat) : Option Bool :=
  match s.rf GPIO_PIN_MODE i with
  | 1 => some (s.bit GPIO_PIN_OUT i)
  | 2 => some (natBit (s.patch (s.rf GPIO_PIN_PATCH i)).outs (16 + s.rf GPIO_PIN_OUTPUT i))
  | 3 => if s.bit GPIO_PIN_OUT i then none else some false
  | _ => none

/-- The pins whose driven level differs from that in an earlier state take it. -/
def State.drivePins (s old : State) : State :=
  (List.range 16).foldl (fun s i =>
    match s.pinDriven i with
    | some b => if old.pinDriven i = some b then s else s.send (.pin ("GPIO" ++ toString i) b)
    | none => s) s

/-- The six steps of isolation: a job that runs completes with ABORTED, and the outputs are clamped. -/
def State.isolate (s : State) (n : Nat) : State :=
  let o := ((List.range 32).map (fun k => if s.clamped n k then 2 ^ k else 0)).sum
  let s := s.endPatchJob n codeAborted
  (s.setPatch n { s.patch n with outs := o }).drivePins s

/-- The start order releases CLOCK first and every step once. -/
def State.startOrderOk (s : State) (n : Nat) : Bool :=
  let st := (List.range 6).map (fun i => s.rf QP_START_ORDER_STEPS n / 16 ^ i % 16)
  st.headD 0 == 1 && [1, 2, 3, 4, 5, 6].all (fun c => st.contains c)

/-- The patch is isolated and LOADED again. -/
def State.stopPatch (s : State) (n : Nat) : State := (s.isolate n).setQstate n qLoaded

/-- The accelerator-instance reset of a patch (R474): isolation and start again. -/
def State.resetPatch (s : State) (n : Nat) : State :=
  (((s.isolate n).setQstate n qRunning).incf QP_RESETS_COUNT n).patchEvent n 0x05

/-- Every block memory word of patch n becomes POISON. -/
def poisonPatch (m : Memory) (n : Nat) : Memory := m.poisonRange (0xA0000000 + n * 0x1000000) 0x300000

/-- Frames are zero, block memories poisoned, and nothing of a stream is left (R467). -/
def State.clearPatch (s : State) (n st : Nat) : State :=
  let s := { s with mem := poisonPatch s.mem n }
  let s := s.setPatch n { Patch.empty with outs := (s.patch n).outs }
  let s := ((s.sf QP_STATE_AUTH n 0).sf QP_STATE_ENCRYPTED n 0).sf QP_STATE_SCRUB_DEGRADED n 0
  s.setQstate n st

/-! ## Commands (R467) -/

/-- Read the frame at QP_FAR into the readback buffer. -/
def State.readFrame (s : State) (n : Nat) : State :=
  let x := s.patch n
  let f := x.frameAt (s.rf QP_FAR_COLUMN n * 96 + s.rf QP_FAR_FRAME n)
  s.setPatch n { x with readback := f.map (fun c => ((decodeSymbols (codewordSymbols c)).carried).getD 0) }

/-- What a command does, or the STATUS with which it is refused. -/
def State.patchCommand (s : State) (r n op : Nat) : Except Nat State :=
  let st := s.qstate n
  let fw := isThimble r
  if !fw && (match s.patchOwner n with
      | some p => s.isMb p
      | none => true) then .error 2
  else match op with
  | 1 => if (st = qEmpty ∨ st = qLoaded ∨ st = qFaulted) ∧ (s.patchOwner n).isSome then .ok (s.clearPatch n qLoading) else .error 1
  | 2 =>
    if st ≠ qLoaded then .error 1
    else if !s.bit QP_STATE_AUTH n then .error 4
    else if !s.startOrderOk n then .error 3
    else .ok (s.setQstate n qRunning)
  | 3 => if st = qRunning then .ok (s.stopPatch n) else .error 1
  | 4 => if st = qLoading ∨ st = qLoaded ∨ st = qFaulted then .ok (s.clearPatch n qEmpty) else .error 1
  | 5 =>
    if st = qRetired then .error 1
    else if !fw && s.bit QP_STATE_ENCRYPTED n then .error 2
    else if 47 < s.rf QP_FAR_COLUMN n ∨ 95 < s.rf QP_FAR_FRAME n then .error 3
    else .ok (s.readFrame n)
  | 6 => if st = qRunning then .ok (s.resetPatch n) else .error 1
  | 7 => if !fw then .error 2 else if st = qLoaded then .ok (s.sf QP_STATE_AUTH n 1) else .error 1
  | _ => .error 3

/-- A write of QP_CMD by requester r: firmware and host software of the owner write it (R484). -/
def State.writeQpCmd (s : State) (r n v : Nat) : State :=
  let op := v % 16
  if !(isThimble r || s.isOwnerHost r (s.patchOwner n)) || !s.present (patchUnit n) || op == 0 then s
  else
    match (s.sf QP_CMD_OP n op).patchCommand r n op with
    | .ok t => t.sf QP_CMD_STATUS n 0
    | .error e => ((s.sf QP_CMD_OP n op).sf QP_CMD_STATUS n e).patchEvent n 0x01

/-- A write of an endpoint register: of endpoint j of patch n, by field and flag (R484). -/
def State.writeEndpoint (s : State) (r n j v : Nat) (out : Bool) : State :=
  let i := n * 8 + j
  let q := bitsOf v 15 0
  if !(isThimble r || s.isOwnerHost r (s.patchOwner n)) || !s.present (patchUnit n)
      || !(s.qstate n == qEmpty || s.qstate n == qLoaded) then s
  else if (s.queueOwner q).isNone || s.queueOwner q != s.patchOwner n then s.patchEvent n 0x01
  else if out then (s.sf QP_EPOUT_EN i (bitsOf v 31 31)).sf QP_EPOUT_QUEUE i q
  else (s.sf QP_EPIN_EN i (bitsOf v 31 31)).sf QP_EPIN_QUEUE i q

/-! ## The configuration stream (R468 to R471) -/

/-- The stream fails (R469). -/
def State.streamFail (s : State) (n : Nat) : State :=
  ((s.setPatch n { s.patch n with stream := [] }).setQstate n qFaulted).patchEvent n 0x02

/-- The key of a stream. -/
def State.streamKey (s : State) (k : StreamKey) : List Byte := Tab.get [] s.keys k.slot

/-- The 12 bytes of an IV. -/
def ivBytes (k : StreamKey) : List Byte := valBytes 8 (k.iv.getD 0 0).toNat ++ valBytes 4 (k.iv.getD 1 0).toNat

/-- A word as the stream's commands see it: decrypted where it belongs to the body (R470). -/
def State.streamPlain (s : State) (x : Patch) (w : Word) : Word × Patch :=
  match x.key, x.phase with
  | some _, .iv _ => (w, x)
  | some k, _ =>
    if k.left = 0 then (w, x)
    else (w ^^^ Config.gcmStream (s.streamKey k) (ivBytes k) k.cipher.length,
      { x with key := some { k with left := k.left - 1, cipher := k.cipher ++ [w] } })
  | none, _ => (w, x)

/-- The frame whose words are complete is written, with its digest and offset. -/
def Patch.writeFrame (x : Patch) (ws : List Word) : Patch :=
  { x.setFrame x.frame (frameCodes ws) with
    digests := x.digests.set x.frame (shakeBytes 16 (wordsBytes ws), 8 * x.first), frame := x.frame + 1, buf := [] }

/-- END: the digest and the image's number, and LOADED (R471, R485). -/
def State.streamEnd (s : State) (n : Nat) (w : Nat) : State :=
  let d := shakeBytes 64 (wordsBytes (s.patch n).plain)
  let s := (List.range 16).foldl (fun s i => s.sf QP_DIGEST_DIGEST (n * 16 + i) (fieldAt d (4 * i) 4)) s
  (s.so oQUILT_P_IMAGE_ID n (bitsOf w 31 0)).setQstate n qLoaded

/-- A command word. -/
def State.streamCommand (s : State) (n : Nat) (x : Patch) (w : Nat) : State :=
  let next := fun (y : Patch) => s.setPatch n y
  match w / 2 ^ 56 with
  | 0xE0 =>
    let slot := w % 2
    let len := bitsOf w 55 24
    if x.key.isSome ∨ bitsOf w 23 1 ≠ 0 ∨ Tab.get [] s.keys slot = [] then s.streamFail n
    else next { x with phase := .iv 2, key := some ⟨slot, len, x.count + 2, [], x.plain, [], false⟩ }
  | 0x01 =>
    if bitsOf w 55 14 ≠ 0 ∨ bitsOf w 7 7 ≠ 0 ∨ 47 < bitsOf w 13 8 ∨ 95 < bitsOf w 6 0 then s.streamFail n
    else next { x with frame := bitsOf w 13 8 * 96 + bitsOf w 6 0 }
  | 0x02 =>
    let m := bitsOf w 12 0
    if bitsOf w 55 13 ≠ 0 ∨ m = 0 ∨ 4607 < m ∨ sentinel ≤ x.frame then s.streamFail n
    else next { x with phase := .frames (64 * m), buf := [] }
  | 0x03 =>
    let c := bitsOf w 12 0
    if bitsOf w 55 39 ≠ 0 ∨ bitsOf w 31 28 ≠ 0 ∨ bitsOf w 15 13 ≠ 0 ∨ 95 < bitsOf w 38 32 ∨ c = 0
        ∨ 4096 < bitsOf w 27 16 + c then s.streamFail n
    else next { x with phase := .bmem (bitsOf w 38 32) (bitsOf w 27 16) c }
  | 0xE1 =>
    match x.key with
    | some k => if bitsOf w 55 0 ≠ 0 ∨ k.left ≠ 0 ∨ k.good = true then s.streamFail n
                else next { x with phase := .tag [], plain := x.plain.dropLast }
    | none => s.streamFail n
  | 0x0F =>
    if bitsOf w 55 32 ≠ 0 ∨ (x.key.any (fun k => !k.good)) = true then s.streamFail n
    else (next x).streamEnd n w
  | _ => s.streamFail n

/-- One word of the stream of patch n, in its phase. `x` is the patch with the word counted and decrypted. -/
def State.streamStep (s : State) (n : Nat) (x : Patch) (w : Word) : State :=
  match x.phase with
  | .sync =>
    if w.toNat = 0xA500000051544C54 then s.setPatch n { x with phase := .command } else s.streamFail n
  | .command => s.streamCommand n x w.toNat
  | .iv left =>
    match x.key with
    | some k =>
      if left = 1 ∧ w.toNat / 2 ^ 32 ≠ 0 then s.streamFail n
      else s.setPatch n { x with phase := if left = 1 then .command else .iv 1, key := some { k with iv := k.iv ++ [w] } }
    | none => s.streamFail n
  | .frames left =>
    if x.buf.isEmpty ∧ sentinel ≤ x.frame then s.streamFail n else
    let x := if x.buf.isEmpty then { x with first := x.count - 1 } else x
    let ws := x.buf ++ [w]
    let x := if ws.length = 64 then x.writeFrame ws else { x with buf := ws }
    s.setPatch n { x with phase := if left = 1 then .command else .frames (left - 1) }
  | .bmem b i left =>
    let s := s.writeCell (0xA0000000 + n * 0x1000000 + b * 0x8000 + 8 * i) (0x7000 + n) (some w)
    s.setPatch n { x with phase := if left = 1 then .command else .bmem b (i + 1) (left - 1) }
  | .tag ws =>
    let x := { x with plain := x.plain.dropLast }
    if ws.isEmpty then s.setPatch n { x with phase := .tag [w] }
    else match x.key with
      | some k =>
        if Config.gcmTag (s.streamKey k) (ivBytes k) (wordsBytes k.aad) (wordsBytes k.cipher) = wordsBytes (ws ++ [w]) then
          (s.setPatch n { x with phase := .command, key := some { k with good := true } }).sf QP_STATE_ENCRYPTED n 1
        else s.streamFail n
      | none => s.streamFail n

/-- Take the oldest word of the stream. -/
def State.streamTake (s : State) (n : Nat) : State :=
  let x := s.patch n
  match x.stream with
  | [] => s
  | o :: rest =>
    let s := s.setPatch n { x with stream := rest }
    match o with
    | none => if s.qstate n = qLoading ∨ s.qstate n = qLoaded then s.streamFail n else s
    | some w =>
      if s.qstate n = qLoading then
        let r := s.streamPlain { x with stream := rest } w
        s.streamStep n { r.2 with count := x.count + 1, plain := x.plain ++ [r.1] } r.1
      else if s.qstate n = qLoaded then s.streamFail n
      else s

/-- TAMPER_N: a stream that uses slot 1 fails (R475). -/
def State.tamperStreams (s : State) : State :=
  (List.range 8).foldl (fun s n =>
    if s.qstate n = qLoading ∧ ((s.patch n).key.any (fun k => k.slot == 1)) = true then s.streamFail n else s) s

/-! ## The scrubber (R476 to R480) -/

/-- A patch that the scrubber sweeps. -/
def State.swept (s : State) (n : Nat) : Bool := decide (2 ≤ s.qstate n) && decide (s.qstate n ≤ 5)

/-- A frame read for scrubbing: what each codeword decodes to after the upsets it has suffered. -/
def scrubRead (f upsets : List (BitVec 80)) : List Decoded :=
  (List.range 64).map (fun i => decodeSymbols (codewordSymbols (f.getD i 0 ^^^ upsets.getD i 0)))

/-- The word was corrected. -/
def Decoded.fixed : Decoded → Bool
  | .corrected _ => true
  | _ => false

/-- Isolate an unrepairable patch (R477). -/
def State.faultPatch (s : State) (n : Nat) : State := ((s.isolate n).setQstate n qFaulted).patchEvent n 0x04

/-- The words of a frame as the retained stream gives them (R477), decrypted where the image is encrypted. -/
def State.retained (s : State) (n off : Nat) : Option (List Word) × State :=
  if !s.bit QP_IMAGE_VALID n then (none, s) else
  let r := s.readWords (s.rf QP_IMAGE_ADDR n + off) (patchUnit n) 2 64
  if r.1.any Option.isNone then (none, r.2) else
  let ws := r.1.map (fun w => w.getD 0)
  match (s.patch n).key with
  | none => (some ws, r.2)
  | some k =>
    if off / 8 < k.body ∨ k.body + k.cipher.length ≤ off / 8 then (some ws, r.2)
    else if s.streamKey k = [] then (none, r.2)
    else (some ((List.range 64).map (fun i =>
      ws.getD i 0 ^^^ Config.gcmStream (s.streamKey k) (ivBytes k) (off / 8 - k.body + i))), r.2)

/-- Repair frame f of patch n from what the digest store says of it. -/
def State.repairFrame (s : State) (n f : Nat) : State :=
  let good := fun (s : State) (l : List (BitVec 80)) =>
    ((s.setPatch n ((s.patch n).setFrame f l)).incf QP_RELOADS_COUNT n).patchEvent n 0x03
  match Tab.get ([], 0) (s.patch n).digests f with
  | ([], _) => good s zeroFrame
  | (d, off) =>
    match s.retained n off with
    | (some ws, s) => if shakeBytes 16 (wordsBytes ws) = d then good s (frameCodes ws) else s.faultPatch n
    | (none, s) => s.faultPatch n

/-- The stored digest of a frame that holds `ws`. -/
def digestHolds (stored : List Byte × Nat) (ws : List Word) : Bool :=
  if stored.1.isEmpty then ws.all (fun w => w == 0) else shakeBytes 16 (wordsBytes ws) == stored.1

/-- One frame is scrubbed (R476): what its words have suffered, and whether the digest store's entry is uncorrectable. -/
def State.scrubFrame (s : State) (n f : Nat) (upsets : List (BitVec 80)) (lost : Bool) : State :=
  let x := s.patch n
  let ds := scrubRead (x.frameAt f) upsets
  let fixed := (ds.filter Decoded.fixed).length
  let bad := ds.any (fun d => d.carried.isNone)
  let ws := ds.map (fun d => d.carried.getD 0)
  let s := s.incf QP_CORR_COUNT n fixed
  let s := if bad then s else s.setPatch n (x.setFrame f (frameCodes ws))
  if lost then
    let s := (s.sf QP_STATE_SCRUB_DEGRADED n 1).patchEvent n 0x07
    if bad then s.faultPatch n else s
  else if bad || !digestHolds (Tab.get ([], 0) x.digests f) ws then s.repairFrame n f
  else s

/-- The retained stream must be read to repair frame f of patch n (R477): the target whose island stops the read. -/
def State.repairStops (s : State) (n f : Nat) (upsets : List (BitVec 80)) (lost : Bool) : Option (Nat × Option Nat) :=
  let x := s.patch n
  let ds := scrubRead (x.frameAt f) upsets
  let ws := ds.map (fun d => d.carried.getD 0)
  match Tab.get ([], 0) x.digests f with
  | ([], _) => none
  | (d, off) =>
    if !lost && s.bit QP_IMAGE_VALID n && (ds.any (fun d => d.carried.isNone) || !digestHolds (d, off) ws) then
      s.accessStops (patchUnit n) (s.rf QP_IMAGE_ADDR n + off) 512
    else none

/-- The scrubber is faulty and stops; firmware takes over (R480). -/
def State.scrubFaulty (s : State) (reason : Nat) : State :=
  let s := { s.sf QS_STATUS_FAULTY 0 1 with scrub := { s.scrub with left := [], since := none } }
  (s.so oQUILT_SCRUBBER 0 1).scrubEvent reason

/-- The three copies of the scrubber's control registers are compared (R479). -/
def State.vote (s : State) : State :=
  let c := s.scrub.copies
  let a := c.getD 0 (0, 0)
  let b := c.getD 1 (0, 0)
  let d := c.getD 2 (0, 0)
  let set := fun (v : Nat × Nat) =>
    { ((s.sf QS_CTRL_ENABLE 0 v.1).sf QS_PERIOD_US 0 v.2).so oQUILT_SCRUB_PERIOD_US 0 v.2 with
      scrub := { s.scrub with copies := [v, v, v] } }
  if a = b ∧ b = d then s
  else if a = b ∨ a = d then ((set a).incf QS_VOTE_FIX_COUNT).scrubEvent 0x01
  else if b = d then ((set b).incf QS_VOTE_FIX_COUNT).scrubEvent 0x01
  else s.scrubFaulty 0x03

/-- A write of the control registers goes to the three copies, and the period to the object that mirrors it (R485). -/
def State.setScrub (s : State) (enable us : Nat) : State :=
  { ((s.sf QS_CTRL_ENABLE 0 enable).sf QS_PERIOD_US 0 us).so oQUILT_SCRUB_PERIOD_US 0 us with
    scrub := { s.scrub with copies := List.replicate 3 (enable, us) } }

/-- The period is what the kept or restored object says (R485). -/
def State.restoreScrub (s : State) : State := s.setScrub (s.rf QS_CTRL_ENABLE) (s.ob oQUILT_SCRUB_PERIOD_US)

/-- The copies of the control registers are upset: each with what changes in it. -/
def State.upsetCopies (s : State) (u : List (Nat × Nat)) : State :=
  { s with scrub := { s.scrub with copies := (List.range 3).map (fun i =>
    ((s.scrub.copies.getD i (0, 0)).1 ^^^ (u.getD i (0, 0)).1 % 2, (s.scrub.copies.getD i (0, 0)).2 ^^^ (u.getD i (0, 0)).2 % 2 ^ 32)) } }

/-- The error that sweep k writes into a sentinel frame (R478). -/
def sentinelError (k : Nat) : BitVec 80 :=
  let p := k % 10
  if k % 2 = 0 then BitVec.ofNat 80 (2 ^ (8 * p)) else BitVec.ofNat 80 (2 ^ (8 * p) + 2 ^ (8 * ((p + 1) % 10)))

/-- The test error is written into the sentinel frame of patch n. -/
def State.testSentinel (s : State) (k n : Nat) : State :=
  let x := s.patch n
  s.setPatch n (x.setFrame sentinel ((x.frameAt sentinel).set (k % 64) ((x.frameAt sentinel).getD (k % 64) 0 ^^^ sentinelError k)))

/-- The sentinel's outcome is the one that sweep k must see. -/
def sentinelFound (k : Nat) (ds : List Decoded) : Bool :=
  match ds.getD (k % 64) .poison with
  | .corrected w => k % 2 == 0 && w == 0
  | .bad => k % 2 == 1
  | _ => false

/-! ## Partitions, resets and retirement (R481, R482) -/

/-- A start of partition p starts its LOADED patches with AUTH 1. -/
def State.startPatches (s : State) (p : Nat) : State :=
  (bitsSet 8 (s.ob oPART_PATCH_MASK p)).foldl (fun s n =>
    if s.qstate n = qLoaded ∧ s.bit QP_STATE_AUTH n = true ∧ s.startOrderOk n = true then s.setQstate n qRunning else s) s

/-- A stop or a reset of partition p stops its running patches, and abandons a load (R475). -/
def State.stopPatches (s : State) (p : Nat) : State :=
  (bitsSet 8 (s.ob oPART_PATCH_MASK p)).foldl (fun s n =>
    if s.qstate n = qRunning then s.stopPatch n
    else if s.qstate n = qLoading then s.clearPatch n qEmpty else s) s

/-- Patch n is retired (R482); its unit ID gets a new epoch (R55). -/
def State.retirePatch (s : State) (n : Nat) : State :=
  let u := patchUnit n
  let s := (s.isolate n).setQstate n qRetired
  let s := (s.sf QP_STATE_RETIRED n 1).patchEvent n 0x06
  (s.advanceEpoch u).sf QM_EPOCH_RETIRED u 1

/-! ## The commands -/

/-- PATCH_JOB: the patch's job is delivered to the logic through the job port (R465). -/
def execPatchJob (patch : Nat) (s : State) : Host.Outcome State Fault Refusal :=
  .next (match s.runningOn (patchUnit patch) with
    | some j =>
      if j.typ = 0x88 ∧ j.report = none ∧ (s.patch patch).given ≠ some j.id ∧ s.patchRuns patch = true then
        ((s.setPatch patch { s.patch patch with given := some j.id }).incf QP_JOBS_COUNT patch).send
          (.patchJob patch j.desc j.inputs)
      else s
    | none => s)

/-- The code that a logic's ending is reported with (R465). -/
def patchCode (c : Nat) : Nat :=
  if c = codeDone ∨ c = codePartial ∨ c = codeBadDescriptor ∨ c = codePoison then c else codePartial

/-- PATCH_JOB_END: the logic has pushed these entries and ends its job. -/
def execPatchJobEnd (patch code : Nat) (result : Half) (ext : Word) (outputs : List (List Word)) (s : State) :
    Host.Outcome State Fault Refusal :=
  .next (match s.runningOn (patchUnit patch) with
    | some j =>
      if (s.patch patch).given = some j.id ∧ j.report = none ∧ s.patchRuns patch = true then
        let s := outputs.foldl (fun s e => s.jobPush j.id (e.map some)) s
        (s.reportJob j.id ⟨patchCode code, result.toNat, ext.toNat, false⟩).setPatch patch
          { s.patch patch with given := none, late := none }
      else s
    | none => s)

/-- PATCH_JOB_LATE_TIMEOUT: 1,024 patch cycles have passed since the job-late signal (R465). -/
def execPatchJobLateTimeout (patch : Nat) (s : State) : Host.Outcome State Fault Refusal :=
  .next (match (s.patch patch).late, s.runningOn (patchUnit patch) with
    | some t, some j =>
      if j.report = none ∧ 1024 * s.rf QP_CLK_DIV patch * 12288 ≤ (s.tb.count - t) * 60000 then
        s.endPatchJob patch codeDroppedLate
      else s
    | _, _ => s)

/-- The commands of QP_CMD (R467). -/
def execQuiltBegin (requester patch : Nat) (s : State) : Host.Outcome State Fault Refusal :=
  .next (s.atIsland requester 78 (fun s => s.writeQpCmd requester patch 1))
def execQuiltStart (requester patch : Nat) (s : State) : Host.Outcome State Fault Refusal :=
  .next (s.atIsland requester 78 (fun s => s.writeQpCmd requester patch 2))
def execQuiltStop (requester patch : Nat) (s : State) : Host.Outcome State Fault Refusal :=
  .next (s.atIsland requester 78 (fun s => s.writeQpCmd requester patch 3))
def execQuiltAbort (requester patch : Nat) (s : State) : Host.Outcome State Fault Refusal :=
  .next (s.atIsland requester 78 (fun s => s.writeQpCmd requester patch 4))
def execQuiltReadFrame (requester patch : Nat) (s : State) : Host.Outcome State Fault Refusal :=
  .next (s.atIsland requester 78 (fun s => s.writeQpCmd requester patch 5))
def execQuiltReset (requester patch : Nat) (s : State) : Host.Outcome State Fault Refusal :=
  .next (s.atIsland requester 78 (fun s => s.writeQpCmd requester patch 6))
def execQuiltAuthorize (requester patch : Nat) (s : State) : Host.Outcome State Fault Refusal :=
  .next (s.atIsland requester 78 (fun s => s.writeQpCmd requester patch 7))

/-- QUILT_STREAM_WORD: the stream engine takes the oldest word that has reached the patch (R468). -/
def execQuiltStreamWord (patch : Nat) (s : State) : Host.Outcome State Fault Refusal := .next (s.streamTake patch)

/-- The next readback word, 0 where there is none. -/
def State.readFdro (s : State) (n : Nat) : Word × State :=
  let x := s.patch n
  (x.readback.headD 0, s.setPatch n { x with readback := x.readback.tail })

/-- The address of QP_FDRO of patch n. -/
def fdroAddr (n : Nat) : Nat := 0x0B001018 + n * 0x200

/-- QP_FDRO_READ (R467). -/
def execQpFdroRead (requester patch : Nat) (s : State) : Host.Outcome State Fault Refusal :=
  .next (s.atIsland requester 78 (fun s =>
    let r := s.readFdro patch
    r.2.send (.registerRead requester (fdroAddr patch) r.1)))

/-- QP_ENDPOINT_BIND (R484). -/
def execQpEndpointBind (requester patch endpoint : Nat) (out : Bool) (value : Half) (s : State) :
    Host.Outcome State Fault Refusal :=
  .next (s.atIsland requester 78 (fun s =>
    if 8 ≤ patch ∨ 8 ≤ endpoint then s else s.writeEndpoint requester patch endpoint value.toNat out))

/-- QUILT_USER_EVENT: the logic of a running patch drives a border output to a level (R462). -/
def execQuiltUserEvent (patch output : Nat) (level : Bool) (s : State) : Host.Outcome State Fault Refusal :=
  .next (
    let x := s.patch patch
    let was := natBit x.outs output
    if s.patchRuns patch && decide (output < 32) && decide (was ≠ level) then
      let s := (s.setPatch patch { x with outs := x.outs ^^^ 2 ^ output }).drivePins s
      if level && decide (output < 16) then s.raise (0xA00 + patch * 16 + output) else s
    else s)

/-- QUILT_POISON_READ: the logic reads a block memory word; a bad one ends its job and resets the patch (R474). -/
def execQuiltPoisonRead (patch block word : Nat) (s : State) : Host.Outcome State Fault Refusal :=
  .next (if s.patchRuns patch && decide (block < 96) && decide (word < 4096) then
      match s.readCell (0xA0000000 + patch * 0x1000000 + block * 0x8000 + 8 * word) (0x7000 + patch) (patchUnit patch) 0 with
      | (some _, s) => s
      | (none, s) => (s.endPatchJob patch codePoison).resetPatch patch
    else s)

/-- SCRUB_SWEEP_START: the next sweep begins once the last has ended and its period has passed (R476, R478, R479). The copies
of the control registers may have been upset. -/
def execScrubSweepStart (upsets : List (Nat × Nat)) (s : State) : Host.Outcome State Fault Refusal :=
  .next (
    let due := match s.scrub.since with
      | none => true
      | some t => decide (s.rf QS_PERIOD_US * 12288 ≤ (s.tb.count - t) * 100)
    if s.bit QS_STATUS_FAULTY || !s.bit QS_CTRL_ENABLE || !s.scrub.left.isEmpty || !due
        || s.rf PM_ISLAND_STATE_STATE quiltIsland != 0 || s.rf PM_ISLAND_STATE_STATE 79 != 0 then s
    else
      let s := (s.upsetCopies upsets).vote
      if s.bit QS_STATUS_FAULTY then s else
      let k := s.rf QS_STATUS_SWEEPS
      let left := (List.range 8).filter s.swept
      let s := left.foldl (fun s n => s.testSentinel k n) s
      { s.sf QS_STATUS_SWEEPS 0 (k + 1) with
        scrub := { s.scrub with since := some s.tb.count, left := left, frame := 0, test := k } })

/-- QUILT_FRAME_SCRUB: the scrubber checks the next frame of its sweep (R476 to R478). Where its repair must read a retained
stream whose island stops the read, the frame waits (R14). -/
def execQuiltFrameScrub (upsets : List (BitVec 80)) (lost : Bool) (s : State) : Host.Outcome State Fault Refusal :=
  .next (match s.scrub.left with
    | [] => s
    | n :: rest =>
      let f := s.scrub.frame
      let skip := { s with scrub := { s.scrub with left := rest, frame := 0 } }
      if s.rf PM_ISLAND_STATE_STATE quiltIsland ≠ 0 ∨ s.rf PM_ISLAND_STATE_STATE 79 ≠ 0 then s
      else if s.swept n = false then skip
      else match s.repairStops n f upsets lost with
      | some x => s.stallOn x
      | none =>
        let found := f ≠ sentinel ∨ sentinelFound s.scrub.test (scrubRead ((s.patch n).frameAt f) upsets) = true
        let s := s.scrubFrame n f upsets lost
        let s := { s with scrub := if f = sentinel then { s.scrub with left := rest, frame := 0 }
                                   else { s.scrub with frame := f + 1 } }
        if found then s else s.scrubFaulty 0x02)

/-- FIRMWARE_QUILT_SWEEP: while the scrubber is faulty Thimble firmware sweeps every loaded patch, once per 100 ms (R480). -/
def execFirmwareQuiltSweep (upsets : List (Nat × Nat × List (BitVec 80) × Bool)) (s : State) :
    Host.Outcome State Fault Refusal :=
  .next (
    let due := match s.scrub.since with
      | none => true
      | some t => decide (t + 12288000 ≤ s.tb.count)
    if !s.bit QS_STATUS_FAULTY || !due then s else
    let s := { s.sf QS_STATUS_FIRMWARE 0 1 with scrub := { s.scrub with since := some s.tb.count } }
    ((List.range 8).filter s.swept).foldl (fun s n => (List.range patchFrames).foldl (fun s f =>
      match upsets.find? (fun u => u.1 == n && u.2.1 == f) with
      | some u => s.scrubFrame n f u.2.2.1 u.2.2.2
      | none => s.scrubFrame n f [] false) s) s)

end Sys2Proof.Machine
end

