-- ==== Sys2Proof/Machine/Power.lean ====
section
/-!
DEFINITION. The power manager: groups and tolerances (R549), floors (R550), the choice of a state (R551, R552), waking on
access (R553), entry (R554, R555), votes (R558, R559), retention (R560, R561), and the device DEEP hold (R564 to R567).
-/

namespace Sys2Proof.Machine

open Reg Ob

/-! ## Time -/

/-- Worst-case entry time, wake latency and minimum residency of a state, in ns (R547). -/
def entryNs : Nat → Nat
  | 1 => 20 | 2 => 1000 | 3 => 10000 | _ => 0
def wakeNs : Nat → Nat
  | 1 => 50 | 2 => 2000 | 3 => 40000 | _ => 0
def stayNs : Nat → Nat
  | 2 => 10000 | 3 => 500000 | _ => 0

/-! ## Groups (R549) -/

/-- The group of an island; 0x1F for none. -/
def State.pmGroup (s : State) (i : Nat) : Nat :=
  if i < 64 then (s.panelOwner i).getD 0x1F
  else if i < 72 then 8 else if i < 78 then i - 63 else if i < 80 then 15 else 0x1F

/-- The tolerance of an island's group, in µs; without a group it is 0. -/
def State.tolerance (s : State) (i : Nat) : Nat :=
  let g := s.pmGroup i
  if g < 16 then s.ob oPM_G_TOL_US g else 0

/-- The tolerance allows a state. -/
def tolAllows (tol st : Nat) : Bool :=
  match st with
  | 0 => true
  | 1 => decide (1 ≤ tol)
  | 2 => decide (2 ≤ tol)
  | 3 => decide (40 ≤ tol)
  | _ => false

/-! ## Floors (R550) -/

/-- An engine of panel p is RUNNING or FREE, a Gusset of it has work, or a row of it is under repair. -/
def State.panelBusy (s : State) (p : Nat) : Bool :=
  (List.range 17).any (fun k => (s.eng (engineNumber p k)).state == .running || (s.eng (engineNumber p k)).state == .free)
    || (List.range 4).any (fun q => !(s.gus (p * 4 + q)).work.isEmpty || !(s.gus (p * 4 + q)).queued.isEmpty)
    || s.protect.copying.any (fun c => c.1 / 0x1000 != 6 && memIsland c.1 == p)

/-- DRAM maintenance is under way. -/
def State.dramBusy (s : State) : Bool :=
  (List.range 8).any (fun c => s.rf DRAM_MIG_STATE_STATE c == 1
    || (List.range 4).any (fun r => (s.drank c r).retrain || decide (0 < s.debt (s.drank c r))))
    || s.protect.copying.any (fun c => c.1 / 0x1000 == 6)

/-- The floor of an island. The scrubber follows the Quilt island (R459): of that island the state it is in, or is entering,
counts, so that both can agree to one decision. -/
def State.floor (s : State) (i : Nat) : Nat :=
  let idleIf := fun (b : Bool) => if b then 1 else 3
  if i < 64 then (if s.istate i = 4 then 4 else if s.panelBusy i then 0 else 3)
  else if i < 72 then
    if (List.range 39).any (fun k => (s.runningOn (accUnit (i - 64) k)).isSome) then 0
    else idleIf (decide (i < 68) && (List.range 32).any (fun t => s.bit HEM_SCFG_ENABLE ((i - 64) * 32 + t)))
  else if i = 72 then idleIf ((List.range 48).any (fun p => s.bit FH_PORT_CTRL_ENABLE p || s.bit CPRI_CFG_ENABLE p || s.laneActive p))
  else if i = 73 then idleIf ((List.range 8).any (fun l => s.bit SEAM_LINK_CTRL_ENABLE l)
    || (List.range 16).any (fun m => s.laneActive (48 + m)))
  else if i = 74 then idleIf (s.bit LANE_CTRL_ENABLE 64 || s.bit LANE_CTRL_ENABLE 65 || s.laneActive 64 || s.laneActive 65)
  else if i = 75 then (if s.dramBusy then 0 else 3)
  else if i = 76 then (if s.bit HP_LINK_STATE_RETRAINING then 0 else 2)
  else if i = 77 then (if (List.range 4096).any (fun c => s.dstate c == dmaFetch || s.dstate c == dmaRun) then 0 else 3)
  else if i = 78 then
    (if (List.range 8).any (fun n => [1, 3, 4, 5].contains (s.qstate n)) then 0
     else if (List.range 8).all (fun n => s.qstate n == qEmpty || s.qstate n == qRetired) then 3 else 2)
  else if i = 79 then (if s.bit QS_STATUS_FIRMWARE then 0 else s.rf PM_ISLAND_STATE_TARGET 78)
  else if i = 81 then (if s.bit PM_DEVICE_HOLD_DEEP then 2 else 1)
  else 0

/-- The reason with which an island refuses a target below its floor (R559). -/
def refusalReason (i : Nat) : Nat :=
  if 72 ≤ i ∧ i ≤ 74 then 2 else if i = 75 then 4 else if i = 78 then 3 else 1

/-! ## The choice (R551) -/

/-- NEXT_USE of an island: of the DMA island the earliest match tick of the armed comparators of KIND 1. -/
def State.pmNextUse (s : State) (i : Nat) : Option Nat :=
  if i = 77 then
    (((s.cmpKeys.filter (fun n => (s.cmp n).kind == 1)).filterMap s.cmpAhead).map (fun d => s.tb.count + d)).min?
  else (s.isl i).nextUse

/-- Condition 3: NEXT_USE leaves time for the state. -/
def State.forecastAllows (s : State) (i st : Nat) : Bool :=
  match s.pmNextUse i with
  | none => true
  | some t => decide (s.tb.count + s.ob oSHUTTLE_FORECAST_HORIZON ≤ t)
      || spansNs (t - s.tb.count) (entryNs st + wakeNs st + stayNs st)

/-- Condition 4: islands 72–79 have been quiet for long enough. -/
def State.quietAllows (s : State) (i st : Nat) : Bool :=
  decide (i < 72) || spansNs (s.tb.count - (s.isl i).lastFlit) (s.ob oPM_HOLD_FACTOR * wakeNs st)

/-- The deepest state that the conditions allow island i, the floor apart where `free` says so. -/
def State.chooseState (s : State) (i : Nat) (free : Bool) : Nat :=
  ([3, 2, 1].find? (fun st => (free || decide (st ≤ s.floor i)) && tolAllows (s.tolerance i) st
    && s.forecastAllows i st && s.quietAllows i st)).getD 0

/-! ## The device state (R548) -/

/-- Bring PM_DEVICE up to date; a change raises EV_PM_DEVICE. -/
def State.refreshDevice (s : State) : State :=
  let v := if s.bit PM_DEVICE_HOLD_DEEP then 3
    else ((((List.range 80) ++ [81]).map s.istate).min?).getD 0
  if s.rf PM_DEVICE_STATE = v then s
  else ((s.sf PM_DEVICE_STATE 0 v).so oPM_DEVICE_STATE 0 v).raise 0xBDB v

/-! ## Entry and waking (R553 to R555, R560) -/

/-- The island state after so many steps of entry, and the steps that a state takes. -/
def stepState : Nat → Nat
  | 0 => 0 | 1 => 0 | 2 => 1 | 3 => 2 | 4 => 2 | _ => 3
def stateSteps : Nat → Nat
  | 0 => 0 | 1 => 2 | 2 => 3 | _ => 5

/-- Set STATE, TARGET and TRANSIT of an island and its steps. -/
def State.setIstate (s : State) (i st target steps : Nat) : State :=
  let s := ((s.sf PM_ISLAND_STATE_STATE i st).sf PM_ISLAND_STATE_TARGET i target).sf PM_ISLAND_STATE_TRANSIT i
    (if st = target then 0 else 1)
  s.setIsl i { s.isl i with step := steps }

/-- Island i is to wake to a shallower state: an entry under way is aborted, a state reached is left. -/
def State.startWake (s : State) (i target : Nat) : State :=
  let x := s.isl i
  let st := s.istate i
  if st = 4 then s
  else if x.waking.isSome then s.sf PM_ISLAND_STATE_TARGET i (min target (s.rf PM_ISLAND_STATE_TARGET i))
  else
    let entering := decide (st < s.rf PM_ISLAND_STATE_TARGET i) || decide (stateSteps st < x.step)
    if entering then
      let s := s.incf PM_ISLAND_ABORTS_COUNT i
      if x.step ≤ 1 then s.setIstate i 0 0 0
      else if st ≤ target then s.setIstate i st st (stateSteps st)
      else
        let s := s.setIstate i st target x.step
        s.setIsl i { s.isl i with waking := some true }
    else if target < st then
      let s := s.setIstate i st target x.step
      s.setIsl i { s.isl i with waking := some false }
    else s

/-- Island i is to enter a deeper state. -/
def State.startEntry (s : State) (i target : Nat) : State :=
  (s.sf PM_ISLAND_STATE_TARGET i target).sf PM_ISLAND_STATE_TRANSIT i 1

/-- A refused decision that covers island i waits to be retried. -/
def State.retryPending (s : State) (i : Nat) : Bool := s.pm.retries.any (fun (r : Nat × Nat) => r.1 == s.pmGroup i)

/-- Firmware evaluates an island (R551): it wakes to a shallower state or enters a deeper one. Under the hold its target
is that of the hold. -/
def State.evaluate (s : State) (i : Nat) : State :=
  let hold := s.bit PM_DEVICE_HOLD_DEEP
  if s.istate i = 4 ∨ (80 ≤ i ∧ hold = false) then s else
  let t := if hold then (s.isl i).goal else s.chooseState i false
  let goal := s.rf PM_ISLAND_STATE_TARGET i
  if (s.isl i).waking.isSome then (if t < goal then s.sf PM_ISLAND_STATE_TARGET i t else s)
  else if t = goal then s
  else if t < goal then s.startWake i t
  else if s.retryPending i then s
  else s.startEntry i t

/-- A stall of island i ends: it is recorded, and an overrun is counted and reported (R553). -/
def State.endStall (s : State) (i : Nat) : State :=
  match (s.isl i).stall with
  | none => s
  | some (t, _) =>
    let ticks := s.tb.count - t
    let s := (s.setIsl i { s.isl i with stall := none }).maxf PM_ISLAND_STALL_MAX_NS i (ticks * 100000 / 12288)
    if decide (s.tolerance i * 12288 < ticks * 100) && !s.bit PM_DEVICE_HOLD_DEEP && decide (i < 80) then
      let s := s.incf PM_ISLAND_OVERRUNS_COUNT i
      let due := match (s.isl i).overrunTick with
        | none => true
        | some u => decide (u + 122880 ≤ s.tb.count)
      if due then (s.setIsl i { s.isl i with overrunTick := some s.tb.count }).raise (0xB80 + i) else s
    else s

/-- The banks that island i keeps in DEEP (R560). -/
def retainedBanks (i : Nat) : List Nat :=
  if i < 64 then
    (List.range 16).map (fun b => 0x2000 + i * 16 + b) ++ (List.range 17).map (fun k => engineNumber i k)
      ++ (List.range 17).map (fun k => 0x1000 + engineNumber i k) ++ (List.range 4).map (fun q => 0x3000 + gussetUnit i q)
  else []

/-- What island i does not keep becomes POISON; of what an address reaches, the block memories of patches. -/
def State.loseUnretained (s : State) (i : Nat) : State :=
  if i = quiltIsland then { s with mem := (List.range 8).foldl poisonPatch s.mem } else s

/-- The wake of island i ends (R553, R560). -/
def State.wakeDone (s : State) (i : Nat) : State :=
  match (s.isl i).waking with
  | none => s
  | some aborted =>
    let from_ := s.istate i
    let t := s.rf PM_ISLAND_STATE_TARGET i
    let s := s.setIstate i t t (stateSteps t)
    let s := if aborted then s else s.incf PM_ISLAND_WAKES_COUNT i
    let deep := from_ = 3
    let s := s.setIsl i { s.isl i with waking := none, closed := if deep then retainedBanks i else (s.isl i).closed }
    let s := if deep then s.loseUnretained i else s
    let s := if i = quiltIsland ∧ t = 0 then { s with scrub := { s.scrub with since := none, left := [] } } else s
    match (s.isl i).stall with
    | some (_, some b) => if (s.isl i).closed.contains b then s else s.endStall i
    | some (_, none) => s.endStall i
    | none => s.evaluate i

/-- The scrubber's island is evaluated after the Quilt's, on which its floor depends (R550, R551). -/
def State.followQuilt (s : State) (i : Nat) : State := if i = quiltIsland then s.evaluate 79 else s

/-! ## Votes (R558, R559) -/

/-- The order of voting. -/
def voteOrder : List Nat := List.range 72 ++ [78, 79, 77, 72, 73, 74, 76, 75, 81]

/-- An island that agrees stops: it is in IDLE at once. -/
def State.voteStop (s : State) (i target : Nat) : State :=
  if s.istate i = 0 ∧ 0 < target then s.setIstate i 1 target 2
  else if s.istate i < target then s.startEntry i target
  else s

/-- A refusal: the islands that have agreed go back, in reverse order, to the states they were in, and it is recorded
(R559). -/
def State.voteRefused (s : State) (decision refuser reason : Nat) (stopped : List (Nat × Nat)) : State :=
  let s := stopped.foldl (fun s e => (s.setIstate e.1 e.2 e.2 (stateSteps e.2)).incf PM_ISLAND_ABORTS_COUNT e.1) s
  let s := (((s.sf PM_VOTE_LAST_REASON 0 reason).sf PM_VOTE_LAST_ISLAND 0 refuser).incf PM_REFUSALS_COUNT).sf
    PM_ISLAND_STATE_LAST_REASON refuser reason
  let s := ((s.so oPM_LAST_REFUSER 0 refuser).so oPM_LAST_REASON 0 reason).so oPM_LAST_REFUSAL_TICK 0 s.now
  let s := s.inco oPM_REFUSALS 0 32
  let s := { s with pm := { s.pm with
    retries := s.pm.retries.filter (fun (r : Nat × Nat) => r.1 != decision) ++ [(decision, s.tb.count + s.ob oPM_BACKOFF_US * 12288 / 100)] } }
  let due := match s.pm.refusedTick with
    | none => true
    | some t => decide (t + ticksPerSecond ≤ s.tb.count)
  if due then { s.raise 0xBD8 refuser with pm := { s.pm with refusedTick := some s.tb.count } } else s

/-- Votes are collected in order. `hits` names what reaches an island meanwhile, as reasons 5 to 7; `stopped` the islands
that have agreed and the states they were in, the last first. Answers whether all agreed. -/
def State.collectVotes (s : State) (decision : Nat) (hits : List (Nat × Nat)) (stopped : List (Nat × Nat)) :
    List (Nat × Nat) → Bool × State
  | [] => (true, s)
  | (i, t) :: r =>
    match hits.find? (fun h => h.1 == i) with
    | some h => (false, s.voteRefused decision i h.2 stopped)
    | none =>
      if s.floor i < t then (false, s.voteRefused decision i (refusalReason i) stopped)
      else (s.voteStop i t).collectVotes decision hits (if s.istate i < t then (i, s.istate i) :: stopped else stopped) r

/-- The islands of a group that take part in its decisions. -/
def State.groupIslands (s : State) (g : Nat) : List Nat :=
  voteOrder.filter (fun i => s.pmGroup i == g && s.istate i != 4 && (s.isl i).waking.isNone)

/-- The common deeper state that a group of several islands is to move to, floors apart. -/
def State.groupState (s : State) (g : Nat) : Option Nat :=
  let l := s.groupIslands g
  match l with
  | i :: _ :: _ =>
    let t := s.chooseState i true
    if decide (0 < t) && l.all (fun j => s.chooseState j true == t) && l.any (fun j => decide (s.rf PM_ISLAND_STATE_TARGET j < t))
    then some t else none
  | _ => none

/-- A group is evaluated: it votes for a common deeper state, or each island is evaluated. -/
def State.evaluateGroup (s : State) (g : Nat) (hits : List (Nat × Nat)) : State :=
  if s.bit PM_DEVICE_HOLD_DEEP then s
  else match s.groupState g with
  | some t =>
    let s := ((s.groupIslands g).filter (fun i => decide (t < s.rf PM_ISLAND_STATE_TARGET i))).foldl (fun s i => s.evaluate i) s
    if s.pm.retries.any (fun (r : Nat × Nat) => r.1 == g) then s
    else
      let l := (s.groupIslands g).filter (fun i => decide (s.rf PM_ISLAND_STATE_TARGET i < t))
      (s.collectVotes g hits [] (l.map (fun i => (i, t)))).2
  | none => (s.groupIslands g).foldl (fun s i => s.evaluate i) s

/-- The target of an island in the device DEEP vote (R565); the scrubber's is that of the Quilt island, which it follows. -/
def State.deepTarget (s : State) (i : Nat) : Nat :=
  if i = 76 ∨ i = 81 then 2 else if i = 79 ∧ s.bit QS_STATUS_FIRMWARE = false then s.floor 78 else s.floor i

/-- The targets of the device DEEP vote (R565). -/
def State.deepTargets (s : State) : List (Nat × Nat) :=
  (voteOrder.filter (fun i => s.istate i != 4)).map (fun i => (i, s.deepTarget i))

/-- PM.DEVICE_CMD 2 (R565): one vote over the device; where all agree the hold is in force. -/
def State.deviceDeep (s : State) (hits : List (Nat × Nat)) : State :=
  if s.bit PM_DEVICE_HOLD_DEEP then s else
  let l := s.deepTargets
  let held := s.sf PM_DEVICE_HOLD_DEEP 0 1
  let r := held.collectVotes 16 hits [] l
  if r.1 then (l.foldl (fun s e => s.setIsl e.1 { s.isl e.1 with goal := e.2 }) r.2).refreshDevice
  else (r.2.sf PM_DEVICE_HOLD_DEEP 0 0).refreshDevice

/-- The hold ends (R566): every island goes to its chosen state. -/
def State.endHold (s : State) : State :=
  if s.bit PM_DEVICE_HOLD_DEEP then
    let s := s.sf PM_DEVICE_HOLD_DEEP 0 0
    (((List.range 80).foldl (fun s i => s.evaluate i) s).startWake 81 0).refreshDevice
  else s

/-! ## The commands -/

/-- TOLERANCE_WRITE: a write of PM.G.TOL_US; the group is evaluated (R549). -/
def execToleranceWrite (group us : Nat) (hits : List (Nat × Nat)) (s : State) : Host.Outcome State Fault Refusal :=
  .next (if group < 16 ∧ us ≤ 1000000 then ((s.so oPM_G_TOL_US group us).evaluateGroup group hits).refreshDevice else s)

/-- NEXT_USE_RECEIVE: the values of NEXT_USE that the Shuttle has sent arrive, and their groups are evaluated (R551). -/
def execNextUseReceive (hits : List (Nat × Nat)) (s : State) : Host.Outcome State Fault Refusal :=
  .next (
    let l := s.sh.forecasts
    let s := l.foldl (fun s f => s.setIsl f.1 { s.isl f.1 with nextUse := f.2 }) { s with sh := { s.sh with forecasts := [] } }
    ((l.map (fun f => s.pmGroup f.1)).dedup.foldl (fun s g => s.evaluateGroup g hits) s).refreshDevice)

/-- ISLAND_QUIET_EXPIRE: no flit has crossed an island's stitches for so many ticks; its group is evaluated. -/
def execIslandQuietExpire (island quiet : Nat) (s : State) : Host.Outcome State Fault Refusal :=
  .next (
    let s := s.setIsl island { s.isl island with lastFlit := s.tb.count - quiet }
    ((s.evaluate island).followQuilt island).refreshDevice)

/-- ISLAND_ENTRY_STEP: an island takes the next step toward its target (R554). -/
def execIslandEntryStep (island : Nat) (s : State) : Host.Outcome State Fault Refusal :=
  .next (
    let x := s.isl island
    let t := s.rf PM_ISLAND_STATE_TARGET island
    if x.waking.isSome || s.istate island == 4 || decide (stateSteps t ≤ x.step) || decide (3 < t) then s else
    let s := s.setIstate island (stepState (x.step + 1)) t (x.step + 1)
    let s := if stateSteps t = x.step + 1 then (s.incf PM_ISLAND_ENTRIES_COUNT island).evaluate island else s
    (s.followQuilt island).refreshDevice)

/-- POWER_VOTE_RETRY: a refused decision is taken again once its back-off has passed (R559). -/
def execPowerVoteRetry (hits : List (Nat × Nat)) (s : State) : Host.Outcome State Fault Refusal :=
  .next (match s.pm.retries.find? (fun (r : Nat × Nat) => decide (r.2 ≤ s.tb.count)) with
    | some r =>
      let s := { s with pm := { s.pm with retries := s.pm.retries.erase r } }
      if r.1 = 16 then s.deviceDeep hits else (s.evaluateGroup r.1 hits).refreshDevice
    | none => s)

/-- ISLAND_PREWAKE: an island in SLEEP or DEEP wakes at NEXT_USE minus its wake latency (R552), forecasts aside while the hold
is in force (R565, R566). -/
def execIslandPrewake (island : Nat) (s : State) : Host.Outcome State Fault Refusal :=
  .next (match s.pmNextUse island with
    | some t =>
      let st := s.istate island
      if (st = 2 ∨ st = 3) ∧ s.bit PM_DEVICE_HOLD_DEEP = false ∧ t < s.tb.count + s.ob oSHUTTLE_FORECAST_HORIZON
          ∧ t ≤ s.tb.count + (wakeNs st * 12288 + 99999) / 100000 then s.startWake island 0 else s
    | none => s)

/-- ISLAND_WAKE_REQUEST: a flit stalls at the stitches of an island, which it may need for one bank (R553). -/
def execIslandWakeRequest (island : Nat) (bank : Option Nat) (s : State) : Host.Outcome State Fault Refusal :=
  .next (
    let x := s.isl island
    let waits := s.islandStops island || (match bank with
      | some b => x.closed.contains b
      | none => false)
    if s.istate island = 4 ∨ waits = false then s else
    let s := s.setIsl island { x with lastFlit := s.tb.count, stall := if x.stall.isNone then some (s.tb.count, bank) else x.stall }
    let t := s.startWake island 0
    ((if t.islandStops island then t else t.endStall island).followQuilt island).refreshDevice)

/-- ISLAND_WAKE_COMPLETE: the wake of an island ends. -/
def execIslandWakeComplete (island : Nat) (s : State) : Host.Outcome State Fault Refusal :=
  .next (((s.wakeDone island).followQuilt island).refreshDevice)

/-- The range of a bank by its MEMID: address and bytes (R396). -/
def bankRange (memid : Nat) : Nat × Nat :=
  let i := memid % 0x1000
  match memid / 0x1000 with
  | 0 => (engineDataBase i, 0x18000)
  | 1 => (engineCodeBase i, 0x8000)
  | _ => (panelBase (i / 16) + i % 16 * 0x20000, 0x20000)

/-- A bank has lost what it held (R561): POISON, or zeros for an MB partition. -/
def State.bankLost (s : State) (p memid : Nat) : State :=
  let r := bankRange memid
  let mb := match s.panelOwner p with
    | some q => s.isMb q
    | none => false
  let s := if memid / 0x1000 = 3 then
      let n := memid % 0x1000 - 0x440
      let x := s.gus n
      if mb then s.setGus n { x with regs := [] } else s.setGus n { x with poison := List.range 512 }
    else { s with mem := if mb then s.mem.zeroBytes r.1 r.2 else s.mem.poisonRange r.1 r.2 }
  ((s.incf PM_RET_LOST_COUNT).sf PM_RET_LOST_LAST_MEMID 0 memid).raise 0xBD9 memid

/-- A word of a bank is swept: corrected words are written back and counted; answers whether it is uncorrectable. -/
def State.sweepWord (s : State) (a : Nat) : Bool × State :=
  match decodeSymbols (storedSymbols s.mem a) with
  | .corrected w => (false, { s.countCorrection with mem := s.mem.storeWord a (some w) })
  | .bad => (true, s)
  | _ => (false, s)

/-- RETENTION_BANK_SWEEP_DONE: the sweep of a bank of a panel that has left DEEP ends (R560, R561). The upsets are what
retention has done to its words; `corrected` and `lost` say it of a Gusset register file. -/
def execRetentionBankSweepDone (memid : Nat) (upsets : List (Nat × BitVec 80)) (corrected : Nat) (lost : Bool) (s : State) :
    Host.Outcome State Fault Refusal :=
  .next (
    let p := memIsland memid
    if !(s.isl p).closed.contains memid then s else
    let s := s.setIsl p { s.isl p with closed := (s.isl p).closed.erase memid }
    let r := bankRange memid
    let swept : Bool × State :=
      if memid / 0x1000 = 3 then (lost, (List.range corrected).foldl (fun s _ => s.countCorrection) s)
      else
        let s := upsets.foldl (fun (s : State) u => if r.1 ≤ u.1 ∧ u.1 < r.1 + r.2 then s.upsetCell (u.1 / 8 * 8) u.2 else s) s
        (s.mem.listed r.1 r.2).foldl (fun (x : Bool × State) a =>
          let y := x.2.sweepWord a
          (x.1 || y.1, y.2)) (false, s)
    let s := if swept.1 then swept.2.bankLost p memid else swept.2
    match (s.isl p).stall with
    | some (_, some b) => if b = memid then s.endStall p else s
    | _ => s)

/-- PM.DEVICE_CMD 1 and 2, which the hold forbids or requires (R564). -/
def State.endHoldCommand (s : State) : Nat × State :=
  if s.bit PM_DEVICE_HOLD_DEEP then (codeDone, s.endHold) else (codeDenied, s)
def State.deepCommand (s : State) (hits : List (Nat × Nat)) : Nat × State :=
  if s.bit PM_DEVICE_HOLD_DEEP then (codeDenied, s) else (codeDone, s.deviceDeep hits)

/-- PM_END_DEEP_HOLD: PM.DEVICE_CMD 1 (R564). -/
def execPmEndDeepHold (s : State) : Host.Outcome State Fault Refusal :=
  .next (let r := s.endHoldCommand; r.2.send (.objectDone 0x8000 2 r.1))

/-- PM_DEVICE_DEEP: PM.DEVICE_CMD 2 (R565). -/
def execPmDeviceDeep (hits : List (Nat × Nat)) (s : State) : Host.Outcome State Fault Refusal :=
  .next (let r := s.deepCommand hits; r.2.send (.objectDone 0x8000 2 r.1))

end Sys2Proof.Machine
end

