-- ==== Sys2Proof/Machine/SwatchReply.lean ====
section
/-!
DEFINITION. How Swatch answers: the mailbox's response (R505), messages with their tags (R522, R523), the ways back (R521,
R537 to R539), and the replies to start commands, which come when the start has ended (R21, R26, R527).
-/

namespace Sys2Proof.Machine

open Reg Ob

def State.mailboxOf (s : State) (f : Nat) : Mailbox := Tab.get Mailbox.empty s.host.mailboxes f
def State.setMailbox (s : State) (f : Nat) (x : Mailbox) : State :=
  { s with host := { s.host with mailboxes := s.host.mailboxes.set f x } }

/-- The request of function f has been served: the response is in the buffer, DONE is set and the vector sent. -/
def State.mailboxDone (s : State) (f : Nat) (l : List Byte) : State :=
  if s.bit MBX_CTRL_BUSY f then
    let s := s.setMailbox f { s.mailboxOf f with response := if l.isEmpty then (s.mailboxOf f).response else l }
    let s := ((s.sf MBX_CTRL_BUSY f 0).sf MBX_CTRL_DONE f 1).sf MBX_STATUS_RSP_LEN f l.length
    s.sendVector f (s.rf MBX_CTRL_VECTOR f)
  else s

/-- The tag of the bytes before it (R523). -/
def swTagOf (key bytes : List Byte) : List Byte := sliceBytes (Config.kmac key bytes) 0 32

/-- The key of OPEN, its reply, and RELAY_FAIL. -/
def zeroKey : List Byte := List.replicate 32 0

/-- A message with its tag. -/
def swMessage (type device flags code session seq : Nat) (body key : List Byte) : List Byte :=
  let l := [1] ++ valBytes 1 type ++ valBytes 2 (48 + body.length) ++ valBytes 1 device ++ valBytes 1 flags ++ valBytes 1 code
    ++ [0] ++ valBytes 4 session ++ valBytes 4 seq ++ body
  l ++ swTagOf key l

/-- A message goes back. -/
def State.answer (s : State) (r : Reply) (m : List Byte) : State :=
  match r with
  | .mailbox f => s.mailboxDone f m
  | .lane n mac vlan => s.send (.mgmtFrame n (buildFrame mac (s.ob oSWATCH_MAC) vlan 0 0x88B5 m))
  | .port p mac vlan => s.sendFrame p (buildFrame mac (s.ob oSWATCH_MAC) vlan 0 0x88B5 m)
  | .relay d => s.post d (.swatch m)

/-- A message that gets no reply leaves a mailbox with DONE and no response. -/
def State.unanswered (s : State) (r : Reply) : State :=
  match r with
  | .mailbox f => s.mailboxDone f []
  | _ => s

/-- The sessions that `keep` does not keep end (R533), and the unlock of diagnostics with its session (R612). A mailbox whose
start command waited gets no response. -/
def State.keepSessions (s : State) (keep : Session → Bool) : State :=
  let l := s.sessions.filter keep
  let s := (s.sessions.filter (fun x => !keep x)).foldl (fun s x => x.starts.foldl (fun s w => s.unanswered w.reply) s) s
  let s := { s with sessions := l }.so oSWATCH_SESSIONS 0 l.length
  if l.any (fun x => x.diag) then s else s.sf SEC_STATUS_DIAG_UNLOCKED 0 0

/-- The state with a session changed. -/
def State.modSession (s : State) (id : Nat) (f : Session → Session) : State :=
  { s with sessions := s.sessions.map (fun (x : Session) => if x.id = id then f x else x) }

/-- The body of a WRITE's reply. -/
def writeBody (index sub tick : Nat) : List Byte := valBytes 2 index ++ valBytes 1 sub ++ [0] ++ valBytes 8 tick

/-- A start command of partition p has ended with a code: it is answered, and so is every WRITE of PART.COMMAND that waits for
it. -/
def State.startDone (s : State) (p code : Nat) : State :=
  let s := s.send (.objectDone (0x2100 + p) 9 code)
  s.sessions.foldl (fun s x => (x.starts.filter (fun w => w.part == p)).foldl (fun s w =>
    let reply := swMessage 0x91 w.device 0 code x.id w.seq (if code = codeDone then writeBody (0x2100 + p) 9 0 else []) x.kdc
    (s.modSession x.id (fun x => { x with
      starts := x.starts.filter (fun v => v.seq != w.seq)
      replies := x.replies.set w.seq reply })).answer w.reply reply) s) s

end Sys2Proof.Machine
end

