-- ==== Sys2Proof/Machine/Health.lean ====
section
/-!
DEFINITION. Faults, spares and continuity (spec chapter 22): upset reports, retirement, spares, reinstatement, panel resets
and the Thimble pairs.
-/

namespace Sys2Proof.Machine

open Reg Ob

/-! ## Units and identifiers (R573) -/

def evUpset : Nat := 0x0C91
def evRetireDue : Nat := 0x0C92
def evPanelReset : Nat := 0x0C94
def evThimbleFailover : Nat := 0x0C95
def evThimbleRestart : Nat := 0x0C96

/-- A unit of a class with identifier `ident` is on this variant. -/
def State.healthPresent (s : State) (cls ident : Nat) : Bool :=
  match cls with
  | 0 => decide (ident < 1088) && s.present ident
  | 1 => decide (0x440 ≤ ident) && decide (ident < 0x540) && s.present ident
  | 2 => decide (0x600 ≤ ident) && decide (ident < 0x738) && s.present ident
  | 3 => decide (0x740 ≤ ident) && decide (ident < 0x744) && s.present ident
  | 4 => s.die.variant.lanePresent ident
  | 5 => decide (0xA00 ≤ ident) && decide (ident < 0xA08) && s.present ident
  | 6 => decide (ident < s.die.variant.panels)
  | 7 => decide (0x800 ≤ ident) && decide (ident < 0x810) && s.present ident
  | 8 => decide (ident < 32) && s.rankState (ident / 4) (ident % 4) != 0
  | 9 => decide (ident < 2)
  | _ => false

/-- The pair 0 A or 1 B has been retired: FAULT.RETIREMENTS says so. -/
def State.pairRetired (s : State) (pair : Nat) : Bool :=
  let l := s.dom oFAULT_RETIREMENTS
  (List.range (l.length / 32)).any (fun r => fieldAt l (32 * r) 1 == 9 && fieldAt l (32 * r + 2) 2 == pair
    && !natBit (fieldAt l (32 * r + 5) 1) 2)

/-- A unit of a class is retired. -/
def State.healthRetired (s : State) (cls ident : Nat) : Bool :=
  match cls with
  | 0 => s.siteRetired (ident / 17) (ident % 17) || s.bit PNL_STATE_RETIRED (ident / 17)
  | 1 => s.bit GUS_STATE_RETIRED (ident - 0x440)
  | 4 => s.bit LANE_STATE_RETIRED ident
  | 6 => s.bit PNL_STATE_RETIRED ident
  | 8 => natBit (s.rf DRAM_CH_STATE_DEGRADED (ident / 4)) (ident % 4) || s.rankState (ident / 4) (ident % 4) == 3
  | 9 => s.pairRetired ident
  | _ => s.retired ident

/-- The island of a unit, which wakes before the unit is reset, the waiting time counting as a stall (R562, R582, R583). -/
def State.wakeFor (s : State) (u : Nat) : State :=
  let i := islandOf u
  if s.istate i ≠ 4 ∧ s.islandStops i = true then
    let t := (s.stallAt i).startWake i 0
    if t.islandStops i then t else t.endStall i
  else s

/-! ## Sites and spares (R157, R578) -/

/-- Hold logical engine g in reset and advance the epoch of its identity: steps 1 and 2 of R575. -/
def State.dropSite (s : State) (g : Nat) : State := ((s.holdEngine g).incf ENG_RESETS_COUNT g).advanceEpoch g

/-- Logical engine g serves no jobs. -/
def State.unserved (s : State) (g : Nat) : State :=
  ((s.sf QM_EPOCH_RETIRED g 1).sf ENG_STATE_PHYS_SITE g (g % 17)).sf ENG_STATE_SPARE_ACTIVE g 0

/-- The state that a site enters when it is released: HALTED, or HELD while its partition is not RUNNING (R153). -/
def State.releaseState (s : State) (p : Nat) : EngState :=
  match s.panelOwner p with
  | some q => if s.pstate q = 3 then .halted else .held
  | none => .held

/-- Site 16 of panel p takes over logical site k (R157): steps 3 and 4. For an MB partition its memories are zero-filled
(R158). -/
def State.takeover (s : State) (p k : Nat) : State :=
  let g := engineNumber p k
  let s := ((s.sf ENG_STATE_PHYS_SITE g 16).sf ENG_STATE_SPARE_ACTIVE g 1).sf PNL_STATE_SPARE_FOR p k
  let s := s.sf QM_EPOCH_RETIRED g 0
  let phys := engineNumber p 16
  let s := if s.mbDsp g then
      { s with mem := Memory.zeroBytes (Memory.zeroBytes s.mem (engineDataBase phys) 0x18000) (engineCodeBase phys) 0x8000 }
    else s
  let s := s.clearEngine g (s.releaseState p)
  s.engEvent g 0x06

/-- Site 16 can take over a logical site: it is not retired and serves none. -/
def State.spareIdle (s : State) (p : Nat) : Bool := !s.siteRetired p 16 && !s.spareBusy p

/-- Physical site k of panel p is retired (R157, R575, R578); answers whether a takeover was done, and the logical engine
concerned. -/
def State.retireSite (s : State) (p k : Nat) : State × Bool × Nat :=
  let mark := fun (s : State) => s.sf PNL_STATE_SITES_RETIRED p (s.rf PNL_STATE_SITES_RETIRED p ||| 2 ^ k)
  let g := engineNumber p k
  if k = 16 then
    let j := s.rf PNL_STATE_SPARE_FOR p
    if j = 0xFF then ((mark ((s.dropSite g).sf QM_EPOCH_RETIRED g 1)), false, g)
    else
      let h := engineNumber p j
      let s := mark (s.dropSite h)
      ((s.unserved h).sf PNL_STATE_SPARE_FOR p 0xFF, false, h)
  else
    let s := mark (s.dropSite g)
    if s.spareIdle p then (s.takeover p k, true, g)
    else if k = 0 ∧ s.siteRetired p 16 = false then
      let h := engineNumber p (s.rf PNL_STATE_SPARE_FOR p)
      (((s.dropSite h).unserved h).takeover p 0, true, g)
    else (s.unserved g, false, g)

/-! ## Retirement (R575) -/

/-- The job that runs on unit u ends with its reset (R575): retried where it is an accelerator job that has pushed nothing. -/
def State.unitJobEnds (s : State) (u : Nat) (retry : Bool) : State :=
  match s.runningOn u with
  | some j => if j.report = none then s.reportJob j.id ⟨codeUnitReset, 0, 0, retry && j.pushed == 0⟩ else s
  | none => s

/-- A unit's identity is fenced and marked retired. -/
def State.fenceUnit (s : State) (u : Nat) : State := (s.advanceEpoch u).sf QM_EPOCH_RETIRED u 1

/-- Queues whose storage lies in the memory of panel p are disabled (R577). -/
def State.dropPanelQueues (s : State) (p : Nat) : State :=
  (List.range 65536).foldl (fun s q =>
    let b := s.queueBase q
    if s.bit QM_QCFG_ENABLE q && decide (panelBase p ≤ b) && decide (b < panelBase p + 0x200000) then s.dropQueue q else s) s

/-- Panel p is retired: its 17 sites and four Gussets. -/
def State.retirePanel (s : State) (p : Nat) : State :=
  let s := (List.range 17).foldl (fun s k => (s.dropSite (engineNumber p k)).sf QM_EPOCH_RETIRED (engineNumber p k) 1) s
  let s := (List.range 4).foldl (fun s q =>
    (s.setGus (4 * p + q) Gusset.reset).fenceUnit (gussetUnit p q)) s
  (s.sf PNL_STATE_RETIRED p 1).dropPanelQueues p

/-- A cluster of an MB partition that runs loses its panel: the sources of its 16 cores are raised once (R638). -/
def State.clusterLost (s : State) (p : Nat) : State :=
  if ((s.panelOwner p).bind s.slotRunning).isSome then
    (List.range 16).foldl (fun s k => s.raise (evEngine (engineNumber p k))) s
  else s

/-- The DMA channels of engine e are reset (R454). -/
def State.resetEngineChannels (s : State) (e : Nat) : State :=
  (List.range 256).foldl (fun s i =>
    let c := 256 * e + i
    if s.dmaUp c then s.dmaReset c else s) s

/-- A cause of R593. -/
def causeLimit : Nat := 0x01
def causeSpares : Nat := 0x02
def causeManual : Nat := 0x03
def causeSelfTest : Nat := 0x06
def causeLockstep : Nat := 0x07

/-- A Thimble pair takes no part any more: FAULT.THIMBLE names those that are left. -/
def State.pairGone (s : State) (pair : Nat) : State :=
  { (s.so oFAULT_THIMBLE 0 (if pair = 0 then 3 else 2)) with
    health := { s.health with testing := s.health.testing.filter (fun p => p != pair) } }

/-- A retirement of a present unit that is not retired (R575): the unit is held in reset, fenced and marked, its spare takes
over, and the record and EV_UNIT_RETIRED follow. Lanes and ranks follow R320 and R427. -/
def State.retireUnit (s : State) (cls ident cause : Nat) : State :=
  let s := { s with health := { s.health with upsets := s.health.upsets.filter (fun e => !(e.1 == cls && e.2.1 == ident)) } }
  match cls with
  | 0 =>
    let s := s.wakeFor ident
    let r := s.retireSite (ident / 17) (ident % 17)
    r.1.recordRetirement 0 cause ident (r.1.epoch r.2.2) r.2.1 r.2.2
  | 1 =>
    let s := ((s.wakeFor ident).retireGusset (ident - 0x440)).fenceUnit ident
    s.recordRetirement 1 cause ident (s.epoch ident) false 0xFFFF
  | 2 =>
    let s := ((s.wakeFor ident).unitJobEnds ident true).fenceUnit ident
    let s := (s.sf ACC_STATE_RETIRED (ident - 0x600) 1).accEvent ident 0x04
    s.recordRetirement 2 cause ident (s.epoch ident) false 0xFFFF
  | 3 =>
    let h := ident - 0x740
    let s := (((s.wakeFor ident).unitJobEnds ident false).resetHem h).fenceUnit ident
    (s.sf HEM_STATE_RETIRED h 1).recordRetirement 3 cause ident (s.epoch ident) false 0xFFFF
  | 4 => s.retireLane ident cause
  | 5 =>
    let s := (s.wakeFor ident).retirePatch (ident - 0xA00)
    s.recordRetirement 5 cause ident (s.epoch ident) false 0xFFFF
  | 6 =>
    let s := ((s.wakeFor (engineNumber ident 0)).retirePanel ident).clusterLost ident
    s.recordRetirement 6 cause ident (s.epoch (engineNumber ident 0)) false 0xFFFF
  | 7 =>
    let s := ((s.wakeFor ident).resetEngineChannels (ident - 0x800)).fenceUnit ident
    s.recordRetirement 7 cause ident (s.epoch ident) false 0xFFFF
  | 8 => s.degradeRank (ident / 4) (ident % 4) cause
  | 9 => (s.pairGone ident).recordRetirement 9 cause ident 0 (s.health.taken.contains ident) 0xFFFF
  | _ => s

/-- UNIT_RETIRE: the health monitor's decision (R574), for a cause of R593. -/
def execUnitRetire (cls ident cause : Nat) (s : State) : Host.Outcome State Fault Refusal :=
  .next (if s.healthPresent cls ident && !s.healthRetired cls ident then s.retireUnit cls ident cause else s)

/-! ## Thimble pairs (R587 to R589) -/

/-- The pair that is active: 0 A, 1 B. -/
def State.activePair (s : State) : Nat := if s.ob oFAULT_THIMBLE = 1 ∨ s.ob oFAULT_THIMBLE = 3 then 1 else 0

/-- A standby pair is ready. -/
def State.standbyReady (s : State) : Bool := s.ob oFAULT_THIMBLE == 0 || s.ob oFAULT_THIMBLE == 1

/-- Firmware runs. -/
def State.thimbleUp (s : State) : Bool := s.ob oFAULT_THIMBLE != 4

/-- Swatch sessions end (R533). -/
def State.endSessions (s : State) : State := s.keepSessions (fun _ => false)

/-- The standby becomes active (R588): sessions end, and the pair that failed is reset and self-tested. -/
def State.failover (s : State) : State :=
  let old := s.activePair
  let s := (s.so oFAULT_THIMBLE 0 (if old = 0 then 3 else 2)).endSessions
  let s := { s with health := { s.health with
      testing := old :: s.health.testing.filter (fun p => p != old)
      taken := old :: s.health.taken.filter (fun p => p != old) } }
  s.raise evThimbleFailover old

/-- No pair can run (R589). -/
def State.restartThimble (s : State) : State :=
  let s := (s.so oFAULT_THIMBLE 0 4).endSessions
  { s with health := { s.health with testing := [0, 1], taken := [] } }

/-- Mismatches of a pair within the counting window, that of now apart. -/
def State.mismatchesOf (s : State) (pair : Nat) : Nat :=
  (s.health.mismatches.filter (fun e => e.1 == pair
    && decide (s.tb.count < e.2 + s.ob oFAULT_WINDOW_S * ticksPerSecond))).length

/-- A lockstep mismatch or watchdog expiry of a pair (R588): in the active pair a failover, or a restart where no standby is
ready; a second one within the window retires the pair. -/
def State.pairFails (s : State) (pair : Nat) : State :=
  if s.thimbleUp = false ∨ 2 ≤ pair ∨ s.pairRetired pair = true ∨ s.health.testing.contains pair = true then s
  else
    let again := decide (1 ≤ s.mismatchesOf pair)
    let s := { s with health := { s.health with mismatches := (pair, s.tb.count) :: s.health.mismatches } }
    let s := if pair = s.activePair then (if s.standbyReady then s.failover else s.restartThimble)
      else
        let t := s.so oFAULT_THIMBLE 0 (if s.activePair = 0 then 2 else 3)
        { t with health := { t.health with testing := pair :: t.health.testing } }
    if again && s.thimbleUp then s.retireUnit 9 pair causeLockstep else s

/-- THIMBLE_CHECKPOINT: the standby pair receives a checkpoint of the active pair's state every 1 ms (R587). -/
def execThimbleCheckpoint (s : State) : Host.Outcome State Fault Refusal :=
  .next (if s.standbyReady && decide (s.health.checkpoint + ticksPerSecond / 1000 ≤ s.tb.count) then
      { s with health := { s.health with checkpoint := s.tb.count } }
    else s)

/-- THIMBLE_FAILOVER: a mismatch or a watchdog expiry in a pair. -/
def execThimbleFailover (pair : Nat) (s : State) : Host.Outcome State Fault Refusal := .next (s.pairFails pair)

/-- The events that wait for firmware are handed to it. -/
def State.flushInbox (s : State) : State :=
  { s with out := (s.health.inbox.map (fun e => Msg.event e.1 e.2)).reverse ++ s.out,
           health := { s.health with inbox := [] } }

/-- THIMBLE_RESTART: the restart ends with the pairs that pass their self-test (R589). With none the condition stays. -/
def execThimbleRestart (passes : List Nat) (s : State) : Host.Outcome State Fault Refusal :=
  .next (
    if s.ob oFAULT_THIMBLE ≠ 4 then s else
    let ok := fun p => passes.contains p && !s.pairRetired p
    if !ok 0 && !ok 1 then s else
    let s := s.so oFAULT_THIMBLE 0 (if ok 0 && ok 1 then 0 else if ok 0 then 2 else 3)
    let s := { s with health := { s.health with testing := [] } }
    (s.flushInbox).raise evThimbleRestart)

/-- THIMBLE_PAIR_SELF_TEST_DONE: a pair that passes becomes standby; one that fails is retired. -/
def execThimblePairSelfTestDone (pair : Nat) (passes : Bool) (s : State) : Host.Outcome State Fault Refusal :=
  .next (
    if !s.thimbleUp || !s.health.testing.contains pair then s
    else if passes then
      { (s.so oFAULT_THIMBLE 0 (if pair = 1 then 0 else 1)) with
        health := { s.health with
          testing := s.health.testing.filter (fun p => p != pair)
          taken := s.health.taken.filter (fun p => p != pair) } }
    else s.retireUnit 9 pair causeSelfTest)

/-! ## Panel resets (R584) -/

/-- The spare of panel p serves the lowest-numbered retired site among 0–15; the others of them serve no jobs. -/
def State.assignSpare (s : State) (p : Nat) : State :=
  let s := s.sf PNL_STATE_SPARE_FOR p 0xFF
  let s := (List.range 16).foldl (fun s k =>
    let g := engineNumber p k
    if s.siteRetired p k then s.unserved g
    else ((s.sf QM_EPOCH_RETIRED g 0).sf ENG_STATE_PHYS_SITE g k).sf ENG_STATE_SPARE_ACTIVE g 0) s
  match (List.range 16).find? (fun k => s.siteRetired p k) with
  | some k =>
    if s.siteRetired p 16 then s else
    let g := engineNumber p k
    ((((s.sf ENG_STATE_PHYS_SITE g 16).sf ENG_STATE_SPARE_ACTIVE g 1).sf PNL_STATE_SPARE_FOR p k).sf QM_EPOCH_RETIRED g 0)
  | none => s

/-- A reinstated unit of class 0, 1 or 6 returns with its epoch incremented (R581). -/
def State.rejoin (s : State) (cls ident : Nat) : State :=
  match cls with
  | 0 =>
    let p := ident / 17
    (s.sf PNL_STATE_SITES_RETIRED p (s.rf PNL_STATE_SITES_RETIRED p &&& (0x1FFFF - 2 ^ (ident % 17)))).advanceEpoch ident
  | 1 => (((s.sf GUS_STATE_RETIRED (ident - 0x440) 0).sf GUS_CTRL_EXCLUDE (ident - 0x440) 0).sf QM_EPOCH_RETIRED ident 0).advanceEpoch ident
  | 6 =>
    let s := s.sf PNL_STATE_RETIRED ident 0
    let s := (List.range 17).foldl (fun s k =>
      (s.sf QM_EPOCH_RETIRED (engineNumber ident k) 0).advanceEpoch (engineNumber ident k)) s
    (List.range 4).foldl (fun s q => (s.sf QM_EPOCH_RETIRED (gussetUnit ident q)
      (s.rf GUS_STATE_RETIRED (4 * ident + q))).advanceEpoch (gussetUnit ident q)) s
  | 2 => ((s.sf ACC_STATE_RETIRED (ident - 0x600) 0).sf QM_EPOCH_RETIRED ident 0).advanceEpoch ident
  | 3 => ((s.sf HEM_STATE_RETIRED (ident - 0x740) 0).sf QM_EPOCH_RETIRED ident 0).advanceEpoch ident
  | 4 =>
    let s := s.sf LANE_STATE_RETIRED ident 0
    let s := if ident < 64 then s.so oLANES_RETIRED_LO 0 (s.ob oLANES_RETIRED_LO &&& (2 ^ 64 - 1 - 2 ^ ident))
      else s.so oLANES_RETIRED_HI 0 (s.ob oLANES_RETIRED_HI &&& (255 - 2 ^ (ident - 64)))
    if ident < 48 then (s.sf QM_EPOCH_RETIRED (0x820 + ident) 0).advanceEpoch (0x820 + ident) else s
  | 5 => (((s.sf QP_STATE_RETIRED (ident - 0xA00) 0).setQstate (ident - 0xA00) qEmpty).sf QM_EPOCH_RETIRED ident 0).advanceEpoch ident
  | 7 => (s.sf QM_EPOCH_RETIRED ident 0).advanceEpoch ident
  | _ => s

/-- The panel that a reinstatement returns with, none for the classes that wait for another reset. -/
def returnPanel (cls ident : Nat) : Option Nat :=
  match cls with
  | 0 => some (ident / 17)
  | 1 => some ((ident - 0x440) / 4)
  | 6 => some ident
  | _ => none

/-- Panel p is reset (R584); its Gussets report a reset through SRESET (R220). -/
def State.resetPanel (s : State) (p : Nat) : State :=
  let s := (s.wakeFor (engineNumber p 0)).dropHalves (fun a =>
    decide (0x10000000 + p * 0x100000 ≤ a) && decide (a < 0x10000000 + (p + 1) * 0x100000))
  let s := (List.range 17).foldl (fun s k => (s.holdEngine (engineNumber p k)).incf ENG_RESETS_COUNT (engineNumber p k)) s
  let s := (List.range 4).foldl (fun s q =>
    let n := 4 * p + q
    if s.bit GUS_STATE_RETIRED n then s else s.resetGusset n 0x02) s
  let back := s.health.returns.filter (fun e => returnPanel e.1 e.2.1 == some p)
  let s := { s with health := { s.health with returns := s.health.returns.filter (fun e => returnPanel e.1 e.2.1 != some p) } }
  let s := back.foldl (fun s e => s.rejoin e.1 e.2.1) s
  if s.bit PNL_STATE_RETIRED p then s else
  let s := s.assignSpare p
  let s := (List.range 16).foldl (fun s k =>
    let g := engineNumber p k
    if s.retired g then s else s.clearEngine g (s.releaseState p)) s
  (s.incf PNL_RESETS_COUNT p).raise evPanelReset p

/-- PANEL_RESET: a write of 1 to PNL_CTRL.SRESET (R584, R591). -/
def execPanelReset (requester panel : Nat) (s : State) : Host.Outcome State Fault Refusal :=
  .next (s.atIsland requester panel (fun s => if s.mayWritePanel requester panel && s.panelUp panel then s.resetPanel panel else s))

/-! ## Upsets (R573, R574) -/

/-- How an upset is handled at once, at the unit's own scope (R573). -/
def State.handleUpset (s : State) (cls ident : Nat) : State :=
  match cls with
  | 0 =>
    match (List.range 17).find? (fun k => s.physical (engineNumber (ident / 17) k) == ident
        && !s.retired (engineNumber (ident / 17) k)) with
    | some k =>
      let g := engineNumber (ident / 17) k
      s.resetEngine g ⟨codeUnitReset, 0, 0, !(s.eng g).pushed⟩
    | none => s
  | 1 => s.resetGusset (ident - 0x440) 0x01
  | 2 => (s.unitJobEnds ident true).resetAcc ident 0x03
  | 3 => (s.unitJobEnds ident true).resetHem (ident - 0x740)
  | 5 => if s.qstate (ident - 0xA00) = qFaulted then s else s.faultPatch (ident - 0xA00)
  | 6 => s.resetPanel ident
  | 9 => s.pairFails ident
  | _ => s

/-- The limit of a class (R592). -/
def State.upsetLimit (s : State) (cls : Nat) : Nat :=
  match cls with
  | 0 => s.ob oFAULT_ENGINE_LIMIT
  | 1 => s.ob oFAULT_GUSSET_LIMIT
  | 5 => s.ob oFAULT_PATCH_LIMIT
  | 6 => s.ob oFAULT_PANEL_LIMIT
  | _ => s.ob oFAULT_ACCEL_LIMIT

/-- The upset is recorded, with CAUSE 0x10, and EV_UPSET raised at most once per second (R593, R594). -/
def State.noteUpset (s : State) (cls ident : Nat) : State :=
  let s := s.addRecent cls 0x10 ident 0 0 (if cls = 0 then ident else 0xFFFF)
  match s.health.upsetTick with
  | some t => if s.tb.count < t + ticksPerSecond then s
      else { s with health := { s.health with upsetTick := some s.tb.count } }.raise evUpset (cls * 65536 + ident)
  | none => { s with health := { s.health with upsetTick := some s.tb.count } }.raise evUpset (cls * 65536 + ident)

/-- The health monitor counts an upset of class 0–3 or 5–7 and retires the unit at its limit, or raises EV_RETIRE_DUE
(R574). -/
def State.countUpset (s : State) (cls ident : Nat) : State :=
  let l := ((cls, ident, s.tb.count) :: s.health.upsets).filter
    (fun e => decide (s.tb.count < e.2.2 + s.ob oFAULT_WINDOW_S * ticksPerSecond))
  let s := { s with health := { s.health with upsets := l } }
  let n := (l.filter (fun e => e.1 == cls && e.2.1 == ident)).length
  if n < s.upsetLimit cls then s.noteUpset cls ident
  else if natBit (s.ob oFAULT_AUTO_RETIRE) cls then s.retireUnit cls ident causeLimit
  else (s.noteUpset cls ident).raise evRetireDue (cls * 65536 + ident)

/-- UPSET_REPORT (R573): a report from a retired unit is ignored (R582); during a Thimble restart nothing is counted
(R589). -/
def execUpsetReport (cls ident : Nat) (s : State) : Host.Outcome State Fault Refusal :=
  .next (
    if !s.healthPresent cls ident || s.healthRetired cls ident then s else
    let s := s.handleUpset cls ident
    if !s.thimbleUp then s
    else if cls < 8 ∧ cls ≠ 4 then s.countUpset cls ident
    else s.noteUpset cls ident)

/-! ## The commands of FAULT (R574, R581, R592) -/

/-- A write of FAULT.RETIRE: its completion code and its effect. -/
def State.faultRetire (s : State) (v : Nat) : Nat × State :=
  let cls := v / 2 ^ 24 % 256
  let ident := v % 65536
  if v / 65536 % 256 ≠ 0 ∨ 9 < cls then (codeBadDescriptor, s)
  else if !s.healthPresent cls ident then (codeNoUnit, s)
  else if s.healthRetired cls ident then (codeDone, s)
  else
    let s := if cls = 9 ∧ ident = s.activePair then (if s.standbyReady then s.failover else s.restartThimble) else s
    (codeDone, if s.thimbleUp then s.retireUnit cls ident causeManual else s)

/-- FAULT_RETIRE_COMMAND. -/
def execFaultRetireCommand (value : Nat) (s : State) : Host.Outcome State Fault Refusal :=
  .next (let r := s.faultRetire value; r.2.send (.objectDone 0x9000 8 r.1))

/-- The unit IDs whose epochs a reinstatement increments. -/
def returnUnits (cls ident : Nat) : List Nat :=
  match cls with
  | 4 => if ident < 48 then [0x820 + ident] else []
  | 6 => (List.range 17).map (engineNumber ident) ++ (List.range 4).map (gussetUnit ident)
  | 8 => []
  | _ => [ident]

/-- Byte 5 of record r with REINSTATED set. -/
def markReinstated (l : List Byte) (r : Nat) : List Byte :=
  l.set (32 * r + 5) (l.getD (32 * r + 5) 0 ||| 4)

/-- A write of FAULT.REINSTATE (R581). -/
def State.faultReinstate (s : State) (r : Nat) : Nat × State :=
  let l := s.dom oFAULT_RETIREMENTS
  if l.length < 32 * (r + 1) then (codeBadDescriptor, s)
  else
    let cls := fieldAt l (32 * r) 1
    let ident := fieldAt l (32 * r + 2) 2
    if cls = 9 then (codeDenied, s)
    else if natBit (fieldAt l (32 * r + 5) 1) 2 then (codeDone, s)
    else if cls = 8 ∧ s.rf DRAM_MIG_STATE_STATE (ident / 4) = 1 then (codeBusy, s)
    else if (returnUnits cls ident).any (fun u => decide (250 ≤ Tab.get 0 s.health.epochs u)) then (codeDenied, s)
    else
      let s := s.sdom oFAULT_RETIREMENTS 0 (markReinstated l r)
      let s := { s with health := { s.health with returns := s.health.returns ++ [(cls, ident, r)] } }
      (codeDone, match returnPanel cls ident with
        | some p => s.resetPanel p
        | none => s)

/-- FAULT_REINSTATE_COMMAND. -/
def execFaultReinstateCommand (record : Nat) (s : State) : Host.Outcome State Fault Refusal :=
  .next (let r := s.faultReinstate record; r.2.send (.objectDone 0x9000 9 r.1))

end Sys2Proof.Machine
end

