-- ==== Sys2Proof/Machine/Boot.lean ====
section
/-!
DEFINITION. Boot, images and security (spec chapter 23): images and their checks, firmware updates, measurement and
attestation, key slots, fuses, diagnostics, and the cold boot with the persistent store (R518 to R520).
-/

namespace Sys2Proof.Machine

open Reg Ob

def evImage : Nat := 0x0C80
def evTamper : Nat := 0x0C81
def evFw : Nat := 0x0C82
def evBootDone : Nat := 0x0C83
def evDiagUnlock : Nat := 0x0C84
def evStore : Nat := 0x0CA1
def evWakePin : Nat := 0x0BDA

/-- The bytes of a text. -/
def textBytes (t : String) : List Byte := t.toList.map (fun c => BitVec.ofNat 8 c.toNat)

/-! ## Sessions and supplies -/

/-- An accepted session. -/
def State.session (s : State) (id : Nat) : Option Session := s.sessions.find? (fun x => x.id == id && x.accepted)

/-- The state with a session replaced. -/
def State.setSession (s : State) (x : Session) : State :=
  { s with sessions := s.sessions.map (fun (y : Session) => if y.id = x.id then x else y) }

/-- The session has role ADMIN (R530). -/
def State.isAdmin (s : State) (id : Nat) : Bool :=
  match s.session id with
  | some x => x.role == 0
  | none => false

/-- The fuse programming supply is present (R652). -/
def fuseSupply (millivolts : Nat) : Bool := decide (1710 ≤ millivolts)

/-- Every partition is UNASSIGNED. -/
def State.allUnassigned (s : State) : Bool := partitions.all (fun p => s.pstate p == 0)

/-! ## Measurement (R603) -/

/-- Measurement register m. -/
def State.measure (s : State) (m : Nat) : List Byte := sliceBytes (Tab.get [] s.measures m) 0 64

/-- An extension: M ← SHAKE256(M ‖ d). -/
def State.extend (s : State) (m : Nat) (d : List Byte) : State :=
  { s with measures := s.measures.set m (shakeBytes 64 (s.measure m ++ d)) }

/-- M1 is extended with SHAKE256 of some bytes. -/
def State.extendEvent (s : State) (l : List Byte) : State := s.extend 1 (shakeBytes 64 l)

/-! ## Images (R597, R598) -/

def imageType (l : List Byte) : Nat := fieldAt l 4 1
def imageSigner (l : List Byte) : Nat := fieldAt l 5 1
def imageVersion (l : List Byte) : Nat := fieldAt l 8 4
def imageSvn (l : List Byte) : Nat := fieldAt l 12 4
def imageLen (l : List Byte) : Nat := fieldAt l 16 4
def imageId (l : List Byte) : Nat := fieldAt l 20 4
def imageDigest (l : List Byte) : List Byte := sliceBytes l 32 64
def imageKey (l : List Byte) : List Byte := sliceBytes l 96 57
def imageBody (l : List Byte) : List Byte := sliceBytes l 320 (imageLen l)

/-- Bytes of the header are zero. -/
def headerZero (l : List Byte) (off n : Nat) : Bool := (sliceBytes l off n).all (fun b => b == 0)

/-- Reason 0x01: MAGIC, reserved bytes and BODY_LEN. -/
def headerFormed (l : List Byte) : Bool :=
  let t := imageType l
  fieldAt l 0 4 == 0x4D495843 && headerZero l 6 2 && headerZero l 24 8 && headerZero l 153 7 && headerZero l 274 46
    && (t == 2 || t == 3 || imageId l == 0)
    && decide (t = 1 → imageLen l ≤ 0x200000 - 320) && decide (t = 4 → imageLen l ≤ 0x8000)

/-- Reason 0x03: the signer's key. -/
def State.signerOk (s : State) (l : List Byte) : Bool :=
  let k := imageSigner l
  let digest := shakeBytes 64 (imageKey l)
  if k = 0 then decide (digest = Config.imageKeyDigest)
  else if k ≤ 4 then
    natBit (s.rf SEC_POLICY_KEY_PRESENT) (k - 1) && decide (digest = Tab.get [] s.boot.custKeys k)
      && !natBit (s.rf SEC_POLICY_KEY_REVOKED) (k - 1)
  else k == 0xFF && ((imageType l == 2 && !s.bit SEC_POLICY_QUILT_SIGNED) || (imageType l == 4 && !s.bit SEC_POLICY_ENG_SIGNED))

/-- The checks of R598 in order for an image of type `use`: `digest` is the digest computed, `ready` says that the target
is in the state that the use requires. The reason of the first that fails. -/
def State.imageFault (s : State) (l : List Byte) (use : Nat) (digest : List Byte) (ready : Bool) : Option Nat :=
  let t := imageType l
  if !headerFormed l then some 1
  else if t ≠ use ∨ ((t = 1 ∨ t = 3) ∧ imageSigner l ≠ 0) then some 2
  else if !s.signerOk l then some 3
  else if imageSigner l ≠ 0xFF ∧ Config.ed448Verify (imageKey l) (shakeBytes 64 (textBytes "IMAGE" ++ sliceBytes l 0 160))
      (sliceBytes l 160 114) = false then some 4
  else if imageDigest l ≠ digest then some 5
  else if (t = 1 ∧ imageSvn l < s.rf SEC_SVN_FW_MIN) ∨ (t = 3 ∧ imageSvn l < s.rf SEC_SVN_MB_MIN) then some 6
  else if !ready then some 7
  else none

/-- A rejection: its reason is stored and announced. -/
def State.rejectImage (s : State) (reason : Nat) : State := (s.so oSEC_LAST_REJECT 0 reason).raise evImage reason

/-- The digest of types 1 and 4: over the body. -/
def bodyDigest (l : List Byte) : List Byte := shakeBytes 64 (imageBody l)

/-- The digest of types 2 and 3: over the plaintext of the stream, as a patch computes it (R471). Place 8, which is no
patch, serves to read the stream. -/
def State.streamDigest (s : State) (l : List Byte) : List Byte :=
  let s := (s.setPatch 8 Patch.empty).setQstate 8 qLoading
  let s := (bytesWords (imageBody l)).foldl (fun s w => (s.streamWord 8 (some w)).streamTake 8) s
  shakeBytes 64 (wordsBytes (s.patch 8).plain)

/-- An access of Thimble firmware waits where its island or bank is stopped, which the stall wakes (R14, R553). What the access
does is the same before and after. -/
def State.firmwareWaits (s : State) (a n : Nat) : State :=
  match s.accessStops unitThimble a n with
  | some x => s.stallOn x
  | none => s

/-- Thimble firmware reads an image from device-reachable memory: header and body, none where a word is bad. -/
def State.readImage (s : State) (a : Nat) : Option (List Byte) × State :=
  match (s.firmwareWaits a 320).readBytes a 320 unitThimble 0 with
  | (none, s) => (none, s)
  | (some h, s) =>
    if 0x1000000 < imageLen h then (some h, s) else
    match (s.firmwareWaits (a + 320) (imageLen h)).readBytes (a + 320) (imageLen h) unitThimble 0 with
    | (none, s) => (none, s)
    | (some b, s) => (some (h ++ b), s)

/-! ## The directory and the firmware slots (R595, R596, R600, R601) -/

/-- The directory record in force: the valid copy with the higher GENERATION; without one slot A and no trial. -/
def State.directory (s : State) : DirRecord :=
  match Tab.get none (s.boot.dirs.map (fun e => (e.1, some e.2))) 0, Tab.get none (s.boot.dirs.map (fun e => (e.1, some e.2))) 1 with
  | some a, some b => if a.generation < b.generation then b else a
  | some a, none => a
  | none, some b => b
  | none, none => ⟨0, 0, false, 0⟩

/-- A new record goes to the copy that is invalid or holds the lower GENERATION, with GENERATION one higher. -/
def State.writeDirectory (s : State) (active : Nat) (trial : Bool) (attempts : Nat) : State :=
  let d := s.directory
  let get := fun i => Tab.get none (s.boot.dirs.map (fun e => (e.1, some e.2))) i
  let place := match get 0, get 1 with
    | none, _ => 0
    | _, none => 1
    | some a, some b => if b.generation < a.generation then 1 else 0
  { s with boot := { s.boot with dirs := s.boot.dirs.set place ⟨d.generation + 1, active, trial, attempts⟩ } }

/-- The image in a slot: 0 A, 1 B, 2 G. -/
def State.slotImage (s : State) (k : Nat) : List Byte := Tab.get [] s.boot.slots k

/-- The VERSION of a slot, 0 where it is invalid. -/
def State.slotVersion (s : State) (k : Nat) : Nat := imageVersion (s.slotImage k)

/-- The registers and objects that name the running firmware. -/
def State.nameFirmware (s : State) (k : Nat) (trial : Bool) : State :=
  let s := (s.sf SEC_STATUS_FW_SLOT 0 k).sf SEC_STATUS_FW_TRIAL 0 (if trial then 1 else 0)
  (((s.so oFW_ACTIVE 0 k).so oID_FW_VERSION 0 (s.slotVersion k)).so oFW_VERSION_A 0 (s.slotVersion 0)).so oFW_VERSION_B 0
    (s.slotVersion 1)

/-- The standby pair loads slot k and the device fails over to it (R601): sessions end, M0 is extended, and the former
active pair becomes standby with the same image. -/
def State.switchTo (s : State) (k : Nat) (trial : Bool) : State :=
  let old := s.activePair
  let s := (s.so oFAULT_THIMBLE 0 (1 - old)).endSessions
  let s := s.extend 0 (imageDigest (s.slotImage k))
  (s.nameFirmware k trial).raise evThimbleFailover old

/-- A write of FW.UPDATE (R601, steps 1 and 2); `programmed` says that the slot reads back as written. -/
def State.fwUpdate (s : State) (a : Nat) (programmed : Bool) : Nat × State :=
  if s.ob oFW_UPDATE_STATE = 1 then (codeDenied, s) else
  let k := 1 - s.directory.active
  let fail := fun (s : State) => (s.so oFW_UPDATE_STATE 0 3).raise evFw 0x02
  match s.readImage (a % 2 ^ 48) with
  | (none, s) => (codeDone, fail s)
  | (some l, s) =>
    match s.imageFault l 1 (bodyDigest l) true with
    | some r => (codeDone, fail (s.rejectImage r))
    | none =>
      let version := if k = 0 then oFW_VERSION_A else oFW_VERSION_B
      if programmed then
        let s := { s with boot := { s.boot with slots := s.boot.slots.set k l } }
        (codeDone, ((s.so version 0 (imageVersion l)).so oFW_UPDATE_STATE 0 2).raise evFw 0x01)
      else
        let s := { s with boot := { s.boot with slots := s.boot.slots.del k } }
        (codeDone, fail (s.so version 0 0))

/-- FW.COMMAND 1 (R601, step 3): accepted while the new slot is ready and a standby pair can take it. -/
def State.fwSwitch (s : State) : Nat × State :=
  if s.ob oFW_UPDATE_STATE ≠ 2 ∨ s.standbyReady = false then (codeDenied, s) else
  let was := s.rf SEC_STATUS_FW_SLOT
  let k := 1 - s.directory.active
  let s := (s.writeDirectory k true 0).switchTo k true
  let s := { s with boot := { s.boot with trial := some (s.tb.count, was) } }
  (codeDone, (s.so oFW_UPDATE_STATE 0 0).raise evFw 0x03)

/-- FW.COMMAND 2. -/
def State.fwConfirm (s : State) : Nat × State :=
  if s.boot.trial.isNone && !s.bit SEC_STATUS_FW_TRIAL then (codeDenied, s) else
  let s := s.writeDirectory s.directory.active false 0
  let s := { s with boot := { s.boot with trial := none } }
  (codeDone, (s.sf SEC_STATUS_FW_TRIAL 0 0).raise evFw 0x05)

/-- Back to the slot that ran before (R601, step 4). -/
def State.fwRevert (s : State) : Nat × State :=
  if s.standbyReady = false then (codeDenied, s) else
  match s.boot.trial with
  | none => (codeDenied, s)
  | some (_, was) =>
    let s := (s.writeDirectory (if was = 2 then 0 else was) false 0).switchTo was false
    let s := { s with boot := { s.boot with trial := none } }
    (codeDone, s.raise evFw 0x04)

/-- FW.COMMAND 4 and 5 (R602). -/
def State.raiseFwSvn (s : State) (admin : Bool) (millivolts : Nat) : Nat × State :=
  if !admin || !fuseSupply millivolts || s.bit SEC_STATUS_FW_TRIAL then (codeDenied, s)
  else (codeDone, s.sf SEC_SVN_FW_MIN 0 (max (s.rf SEC_SVN_FW_MIN) (imageSvn (s.slotImage (s.rf SEC_STATUS_FW_SLOT)))))

def State.raiseMbSvn (s : State) (admin : Bool) (millivolts : Nat) : Nat × State :=
  if !admin || !fuseSupply millivolts then (codeDenied, s)
  else
    let good := s.boot.images.filter (fun l => imageType l == 3 && (s.imageFault l 3 (s.streamDigest l) true).isNone)
    (codeDone, s.sf SEC_SVN_MB_MIN 0 (good.foldl (fun m l => max m (imageSvn l)) (s.rf SEC_SVN_MB_MIN)))

/-- FW_UPDATE: a write of FW.UPDATE in a session. -/
def execFwUpdate (session address : Nat) (programmed : Bool) (s : State) : Host.Outcome State Fault Refusal :=
  .next (let r := if s.isAdmin session then s.fwUpdate address programmed else (codeDenied, s)
    r.2.send (.objectDone 0xA000 4 r.1))
/-- FW_SWITCH. -/
def execFwSwitch (session : Nat) (s : State) : Host.Outcome State Fault Refusal :=
  .next (let r := if s.isAdmin session then s.fwSwitch else (codeDenied, s); r.2.send (.objectDone 0xA000 6 r.1))
/-- FW_CONFIRM. -/
def execFwConfirm (session : Nat) (s : State) : Host.Outcome State Fault Refusal :=
  .next (let r := if s.isAdmin session then s.fwConfirm else (codeDenied, s); r.2.send (.objectDone 0xA000 6 r.1))
/-- FW_REVERT. -/
def execFwRevert (session : Nat) (s : State) : Host.Outcome State Fault Refusal :=
  .next (let r := if s.isAdmin session then s.fwRevert else (codeDenied, s); r.2.send (.objectDone 0xA000 6 r.1))
/-- FW_TRIAL_TIMEOUT: FW.TRIAL_S seconds have passed without a confirm. -/
def execFwTrialTimeout (s : State) : Host.Outcome State Fault Refusal :=
  .next (match s.boot.trial with
    | some (t, _) => if t + s.ob oFW_TRIAL_S * ticksPerSecond ≤ s.tb.count then s.fwRevert.2 else s
    | none => s)
/-- FW_RAISE_FW_SVN. -/
def execFwRaiseFwSvn (session millivolts : Nat) (s : State) : Host.Outcome State Fault Refusal :=
  .next (let r := s.raiseFwSvn (s.isAdmin session) millivolts; r.2.send (.objectDone 0xA000 6 r.1))
/-- FW_RAISE_MB_SVN. -/
def execFwRaiseMbSvn (session millivolts : Nat) (s : State) : Host.Outcome State Fault Refusal :=
  .next (let r := s.raiseMbSvn (s.isAdmin session) millivolts; r.2.send (.objectDone 0xA000 6 r.1))

/-! ## Attestation (R604) -/

/-- A session writes a nonce. -/
def State.attestWrite (s : State) (x : Session) (nonce : List Byte) : Nat × State :=
  if nonce.length ≠ 32 then (codeBadDescriptor, s) else (codeDone, s.setSession { x with nonce := some nonce })

/-- SEC_POLICY as a word. -/
def State.policyWord (s : State) : Nat :=
  s.rf SEC_POLICY_DIAG_LOCK * 2 ^ 10 + s.rf SEC_POLICY_QUILT_SIGNED * 2 ^ 9 + s.rf SEC_POLICY_ENG_SIGNED * 2 ^ 8
    + s.rf SEC_POLICY_KEY_REVOKED * 16 + s.rf SEC_POLICY_KEY_PRESENT

/-- The report for a session: 818 bytes, with zeros for the measurement registers of other partitions. -/
def State.attestReport (s : State) (x : Session) (nonce : List Byte) : List Byte :=
  let m := fun i => if x.role = 1 ∧ 2 ≤ i ∧ i ≠ 2 + x.part then List.replicate 64 0 else s.measure i
  let body := valBytes 8 s.die.serial ++ valBytes 4 (s.ob oID_BOOT_COUNT) ++ valBytes 4 (s.ob oID_FW_VERSION)
    ++ valBytes 8 s.now ++ nonce ++ valBytes 8 s.policyWord ++ (List.range 10).flatMap m
  body ++ sliceBytes (Config.ed448Sign (shakeBytes 64 (textBytes "ATTEST" ++ body))) 0 114

/-- ATTEST_NONCE_WRITE. -/
def execAttestNonceWrite (session : Nat) (nonce : List Byte) (s : State) : Host.Outcome State Fault Refusal :=
  .next (match s.session session with
    | some x => let r := s.attestWrite x nonce; r.2.send (.objectDone 0xA200 1 r.1)
    | none => s)
/-- ATTEST_REPORT_READ: without a prior write it completes with BAD_DESCRIPTOR. -/
def execAttestReportRead (session : Nat) (s : State) : Host.Outcome State Fault Refusal :=
  .next (match s.session session with
    | some x => match x.nonce with
      | some n => s.send (.objectValue 0xA200 1 (s.attestReport x n))
      | none => s.send (.objectDone 0xA200 1 codeBadDescriptor)
    | none => s)

/-! ## Key slots (R609) -/

/-- The key of a value of 60 bytes, where its tag holds. -/
def Session.unwrap (x : Session) (sub : Nat) (v : List Byte) : Option (List Byte) :=
  let kek := sliceBytes (shakeBytes 64 (x.kcd ++ textBytes "KEYWRAP")) 0 32
  let iv := sliceBytes v 0 12
  let c := sliceBytes v 12 32
  if v.length = 60 ∧ Config.gcmTag kek iv (valBytes 2 0xA200 ++ valBytes 1 sub) c = sliceBytes v 44 16 then
    some ((List.range 4).flatMap (fun i => wordBytes (BitVec.ofNat 64 (fieldAt c (8 * i) 8) ^^^ Config.gcmStream kek iv i)))
  else none

/-- A write of SEC.KEY_SLOT0 or SEC.KEY_SLOT1 by a session. -/
def State.keyWrite (s : State) (x : Session) (slot : Nat) (v : List Byte) (millivolts : Nat) : Nat × State :=
  if x.role ≠ 0 then (codeDenied, s)
  else if slot = 0 ∧ (s.bit SEC_STATUS_SLOT0_VALID = true ∨ fuseSupply millivolts = false) then (codeDenied, s)
  else if slot = 1 ∧ ((List.range 8).any (fun n => s.qstate n == qLoading
      && (match (s.patch n).key with | some k => k.slot == 1 | none => false))) = true then (codeBusy, s)
  else match x.unwrap (2 + slot) v with
    | none => (codeBadDescriptor, s)
    | some key =>
      let s := { s with keys := s.keys.set slot key }
      let s := if slot = 0 then s.sf SEC_STATUS_SLOT0_VALID 0 1 else s.sf SEC_STATUS_SLOT1_VALID 0 1
      (codeDone, s.extendEvent (textBytes (if slot = 0 then "SLOT0" else "SLOT1")))

/-- KEY_SLOT0_WRITE. -/
def execKeySlot0Write (session : Nat) (value : List Byte) (millivolts : Nat) (s : State) : Host.Outcome State Fault Refusal :=
  .next (match s.session session with
    | some x => let r := s.keyWrite x 0 value millivolts; r.2.send (.objectDone 0xA200 2 r.1)
    | none => s)
/-- KEY_SLOT1_WRITE. -/
def execKeySlot1Write (session : Nat) (value : List Byte) (s : State) : Host.Outcome State Fault Refusal :=
  .next (match s.session session with
    | some x => let r := s.keyWrite x 1 value 0; r.2.send (.objectDone 0xA200 3 r.1)
    | none => s)

/-- Slot 1 is erased, and a stream that uses it fails (R475, R610). -/
def State.eraseSlot1 (s : State) : State :=
  (({ s with keys := s.keys.del 1 }).sf SEC_STATUS_SLOT1_VALID 0 0).tamperStreams

/-- TAMPER (R610): while firmware runs it extends M1 and raises EV_TAMPER, at the next boot otherwise. -/
def execTamper (s : State) : Host.Outcome State Fault Refusal :=
  .next (
    let s := s.eraseSlot1.sf SEC_STATUS_TAMPERED 0 1
    if s.boot.phase = 0 then (s.extendEvent (textBytes "TAMPER")).raise evTamper
    else { s with boot := { s.boot with tampered := true } })

/-- VBAT_LOSS: slot 1 is erased, TAMPERED keeps its value. -/
def execVbatLoss (s : State) : Host.Outcome State Fault Refusal := .next s.eraseSlot1

/-! ## Fuses and diagnostics (R611, R612) -/

/-- Fuses may be programmed. -/
def State.mayFuse (s : State) (admin : Bool) (millivolts : Nat) : Bool := admin && s.allUnassigned && fuseSupply millivolts

/-- A write of SEC.FUSE_CUST_KEY. -/
def State.fuseKey (s : State) (admin : Bool) (v : List Byte) (millivolts : Nat) : Nat × State :=
  let k := fieldAt v 0 1
  if !s.mayFuse admin millivolts then (codeDenied, s)
  else if v.length ≠ 65 ∨ k < 1 ∨ 4 < k then (codeBadDescriptor, s)
  else if natBit (s.rf SEC_POLICY_KEY_PRESENT) (k - 1) then (codeDenied, s)
  else
    let s := { s with boot := { s.boot with custKeys := s.boot.custKeys.set k (sliceBytes v 1 64) } }
    (codeDone, s.sf SEC_POLICY_KEY_PRESENT 0 (s.rf SEC_POLICY_KEY_PRESENT ||| 2 ^ (k - 1)))

/-- A write of SEC.FUSE_REVOKE. -/
def State.fuseRevoke (s : State) (admin : Bool) (k millivolts : Nat) : Nat × State :=
  if !s.mayFuse admin millivolts then (codeDenied, s)
  else if k < 1 ∨ 4 < k then (codeBadDescriptor, s)
  else (codeDone, s.sf SEC_POLICY_KEY_REVOKED 0 (s.rf SEC_POLICY_KEY_REVOKED ||| 2 ^ (k - 1)))

/-- A write of SEC.FUSE_POLICY: a 0 bit changes nothing; DIAG_LOCK acts at once, the others at the next cold reset. -/
def State.fusePolicy (s : State) (admin : Bool) (v millivolts : Nat) : Nat × State :=
  if !s.mayFuse admin millivolts then (codeDenied, s)
  else if 8 ≤ v then (codeBadDescriptor, s)
  else
    let s := { s with boot := { s.boot with burnt := s.boot.burnt ||| v } }
    (codeDone, if natBit v 2 then s.sf SEC_POLICY_DIAG_LOCK 0 1 else s)

/-- FUSE_CUST_KEY. -/
def execFuseCustKey (session : Nat) (value : List Byte) (millivolts : Nat) (s : State) : Host.Outcome State Fault Refusal :=
  .next (let r := s.fuseKey (s.isAdmin session) value millivolts; r.2.send (.objectDone 0xA200 4 r.1))
/-- FUSE_REVOKE. -/
def execFuseRevoke (session key millivolts : Nat) (s : State) : Host.Outcome State Fault Refusal :=
  .next (let r := s.fuseRevoke (s.isAdmin session) key millivolts; r.2.send (.objectDone 0xA200 5 r.1))
/-- FUSE_POLICY. -/
def execFusePolicy (session value millivolts : Nat) (s : State) : Host.Outcome State Fault Refusal :=
  .next (let r := s.fusePolicy (s.isAdmin session) value millivolts; r.2.send (.objectDone 0xA200 6 r.1))

/-- A read of SEC.DIAG_CHALLENGE: a fresh nonce replaces the last. -/
def State.challenge (s : State) (nonce : List Byte) : List Byte × State :=
  (nonce ++ valBytes 8 s.die.serial, { s with boot := { s.boot with nonce := some nonce } })

/-- A write of SEC.DIAG_UNLOCK by a session. -/
def State.diagUnlock (s : State) (x : Session) (signature : List Byte) : Nat × State :=
  match s.boot.nonce with
  | none => (codeDenied, s)
  | some n =>
    let c := n ++ valBytes 8 s.die.serial
    if x.role ≠ 0 ∨ s.bit SEC_POLICY_DIAG_LOCK = true
        ∨ Config.ed448Verify Config.diagKey (shakeBytes 64 (textBytes "DIAG" ++ c)) signature = false then (codeDenied, s)
    else
      let s := (s.setSession { x with diag := true }).sf SEC_STATUS_DIAG_UNLOCKED 0 1
      (codeDone, (s.extendEvent c).raise evDiagUnlock)

/-- DIAG_CHALLENGE: an ADMIN session reads the challenge. -/
def execDiagChallenge (session : Nat) (nonce : List Byte) (s : State) : Host.Outcome State Fault Refusal :=
  .next (if s.isAdmin session then
      let r := s.challenge (sliceBytes nonce 0 32)
      r.2.send (.objectValue 0xA200 9 r.1)
    else s.send (.objectDone 0xA200 9 codeDenied))
/-- DIAG_UNLOCK. -/
def execDiagUnlock (session : Nat) (signature : List Byte) (s : State) : Host.Outcome State Fault Refusal :=
  .next (match s.session session with
    | some x => let r := s.diagUnlock x signature; r.2.send (.objectDone 0xA200 10 r.1)
    | none => s)

/-! ## Loading images for partitions (R606 to R608) -/

/-- The words of instruction memory that a body gives: the rest is 0xFFFF_FFFF (R194). -/
def codeWords (body : List Byte) : List Carried :=
  let l := body ++ List.replicate (0x8000 - body.length) (0xFF : Byte)
  (bytesWords l).map some

/-- Engine g may be loaded by the session: its partition, or any for ADMIN, in HELD or HALTED. -/
def State.loadable (s : State) (x : Session) (g : Nat) : Bool :=
  (match s.panelOwner (g / 17) with
    | some p => x.role == 0 || (x.role == 1 && x.part == p)
    | none => false) && s.siteQuiet g

/-- A write of SEC.IMAGE_LOAD. -/
def State.imageLoad (s : State) (x : Session) (v : List Byte) : Nat × State :=
  let first := fieldAt v 8 2
  let count := fieldAt v 10 2
  if v.length ≠ 16 ∨ headerZero v 12 4 = false ∨ count = 0 ∨ 1088 < first + count then
    (codeBadDescriptor, s)
  else match s.readImage (fieldAt v 0 6) with
    | (none, s) => (codeDenied, s.rejectImage 1)
    | (some l, s) =>
      let gs := (List.range count).map (fun i => first + i)
      match s.imageFault l 4 (bodyDigest l) (gs.all (fun g => s.loadable x g)) with
      | some r => (codeDenied, s.rejectImage r)
      | none =>
        let s := gs.foldl (fun s g => (s.firmwareWaits (engineCodeBase g) 0x8000).writeWords (engineCodeBase g) unitThimble (codeWords (imageBody l))) s
        let owners := partitions.filter (fun p => gs.any (fun g => s.panelOwner (g / 17) == some p))
        (codeDone, owners.foldl (fun s p => s.extend (2 + p) (imageDigest l)) s)

/-- IMAGE_LOAD. -/
def execImageLoad (session : Nat) (value : List Byte) (s : State) : Host.Outcome State Fault Refusal :=
  .next (match s.session session with
    | some x => let r := s.imageLoad x value; r.2.send (.objectDone 0xA200 7 r.1)
    | none => s)

/-- QP_DIGEST of patch n as bytes. -/
def State.patchDigest (s : State) (n : Nat) : List Byte :=
  (List.range 16).flatMap (fun i => valBytes 4 (s.rf QP_DIGEST_DIGEST (n * 16 + i)))

/-- Thimble firmware checks an image against a LOADED patch and authorizes it (R608). -/
def State.authorize (s : State) (n p : Nat) (l : List Byte) (use : Nat) (ready : Bool) : Nat × State :=
  match s.imageFault l use (s.patchDigest n) (ready && s.qstate n == qLoaded && imageId l == s.ob oQUILT_P_IMAGE_ID n) with
  | some r => (codeDenied, s.rejectImage r)
  | none => (codeDone, (s.sf QP_STATE_AUTH n 1).extend (2 + p) (imageDigest l))

/-- A write of SEC.QUILT_AUTH. -/
def State.quiltAuth (s : State) (x : Session) (v : List Byte) : Nat × State :=
  let n := fieldAt v 0 1
  if v.length ≠ 16 ∨ headerZero v 1 7 = false ∨ headerZero v 14 2 = false then (codeBadDescriptor, s)
  else match s.patchOwner n with
    | none => (codeDenied, s)
    | some p =>
      if s.isMb p then (codeDenied, s)
      else match (s.firmwareWaits (fieldAt v 8 6) 320).readBytes (fieldAt v 8 6) 320 unitThimble 0 with
        | (none, s) => (codeDenied, s.rejectImage 1)
        | (some l, s) => s.authorize n p l 2 (x.role == 0 || (x.role == 1 && x.part == p))

/-- QUILT_AUTH. -/
def execQuiltAuth (session : Nat) (value : List Byte) (s : State) : Host.Outcome State Fault Refusal :=
  .next (match s.session session with
    | some x => let r := s.quiltAuth x value; r.2.send (.objectDone 0xA200 8 r.1)
    | none => s)

/-! ## The persistent store (R518 to R520) -/

/-- The object that a key names. -/
def objectOf (key : Nat) : Option Obj := objMap.find? (fun o => o.id == key % 256)

/-- The values of a copy with journal records laid over it. -/
def mergeStore (base : Tab (List Byte)) (journal : List (Nat × List Byte)) : Tab (List Byte) :=
  journal.foldl (fun t (e : Nat × List Byte) => t.set e.1 e.2) base

/-- The copy area with the highest generation among those that are not `bad`: area, generation, values. -/
def State.storeCopy (s : State) (bad : List Nat) : Option (Nat × Nat × Tab (List Byte)) :=
  (s.boot.copies.filter (fun c => !bad.contains c.1)).foldl (fun best (c : Nat × Nat × Tab (List Byte)) =>
    match best with
    | none => some c
    | some b => if b.2.1 < c.2.1 then some c else best) none

/-- STORE_COMPACT: the journal is three-quarters full, and its records go into the inactive copy area (R518). -/
def execStoreCompact (s : State) : Host.Outcome State Fault Refusal :=
  .next (
    if s.ob oSTORE_JOURNAL_USED * 4 < 3 * 0x200000 ∨ s.ob oSTORE_STATE = 3 then s else
    let c := (s.storeCopy []).getD (1, 0, [])
    let s := { s with boot := { s.boot with
      copies := s.boot.copies.set (1 - c.1) (c.2.1 + 1, mergeStore c.2.2 s.boot.journal), journal := [] } }
    (s.so oSTORE_GENERATION 0 (c.2.1 + 1)).so oSTORE_JOURNAL_USED 0 0)

/-- The object of a key is a history object. -/
def isHistory (key : Nat) : Bool := match objectOf key with
  | some o => o.history
  | none => false

/-- The bytes that the journal's records take. -/
def State.journalBytes (s : State) : Nat := (s.boot.journal.map (fun e => 35 + e.2.length)).sum

/-- STORE.JOURNAL_USED follows the journal. -/
def State.countJournal (s : State) : State := s.so oSTORE_JOURNAL_USED 0 s.journalBytes

/-- STORE.COMMAND 1: every stored value that is not a history value is cleared (R542). -/
def State.clearStore (s : State) (admin : Bool) (v : Nat) : Nat × State :=
  if !admin || !s.allUnassigned then (codeDenied, s)
  else if v ≠ 1 then (codeBadDescriptor, s)
  else
    let t := { s with boot := { s.boot with
      copies := s.boot.copies.map (fun (c : Nat × Nat × Tab (List Byte)) => (c.1, c.2.1, c.2.2.filter (fun (e : Nat × List Byte) => isHistory e.1)))
      journal := s.boot.journal.filter (fun e => isHistory e.1) } }
    (codeDone, t.countJournal)

/-- STORE_CLEAR. -/
def execStoreClear (session value : Nat) (s : State) : Host.Outcome State Fault Refusal :=
  .next (let r := s.clearStore (s.isAdmin session) value; r.2.send (.objectDone 0x1F00 5 r.1))

/-- Objects take their stored values: numbers and byte strings. -/
def State.restoreObjects (s : State) (t : Tab (List Byte)) : State :=
  t.foldl (fun s (e : Nat × List Byte) =>
    match objectOf e.1 with
    | some o =>
      if o.ty = .domain ∨ o.ty = .string then { s with doms := s.doms.set e.1 e.2 }
      else { s with objs := s.objs.set e.1 (bytesVal e.2) }
    | none => s) s

/-- The store is opened at a cold reset: `bad` areas and journal records are those whose digests fail. STORE.STATE is 2 where
an older copy is taken, 3 where no area checks though one has been written. -/
def State.openStore (s : State) (bad badRecords : List Nat) : State :=
  let copy := s.storeCopy bad
  let best := s.storeCopy []
  let journal := ((List.range s.boot.journal.length).zip s.boot.journal).filterMap
    (fun e => if badRecords.contains e.1 then none else some e.2)
  match best, copy with
  | some _, none => s.so oSTORE_STATE 0 3
  | some b, some c =>
    let s := s.restoreObjects (mergeStore c.2.2 journal)
    let s := { s with objs := s.objs.set (oSTORE_GENERATION.key 0) c.2.1 }
    if b.1 = c.1 then s else (s.so oSTORE_STATE 0 2).raise evStore 0x01
  | none, _ => s.restoreObjects (mergeStore [] journal)

/-! ## Cold reset and cold boot (R599, R600) -/

/-- The state as POR_N falls: everything is lost but the fuses, the flash, the VBAT domain and what lies outside the die. -/
def State.coldReset (s : State) (phase : Nat) : State :=
  let s := s.setPps false
  let s := if s.bit PM_THERM_STATE_TRIP then s.send (.pin "THERMTRIP_N" true) else s
  let r := { State.reset with
    pending := s.pending, free := s.free, out := s.out, die := s.die, keys := s.keys,
    protect := { State.reset.protect with remaps := s.protect.remaps },
    boot := { s.boot with phase := phase, trial := none, nonce := none },
    objs := [(oSTORE_COMMITS.key 0, s.ob oSTORE_COMMITS)] }
  let keep := [SEC_STATUS_TAMPERED, SEC_STATUS_SLOT1_VALID, SEC_STATUS_SLOT0_VALID, SEC_POLICY_DIAG_LOCK,
    SEC_POLICY_KEY_REVOKED, SEC_POLICY_KEY_PRESENT, SEC_SVN_FW_MIN, SEC_SVN_MB_MIN]
  let r := keep.foldl (fun r f => r.sf f 0 (s.rf f)) r
  (r.sf SEC_POLICY_QUILT_SIGNED 0 (max (s.rf SEC_POLICY_QUILT_SIGNED) (s.boot.burnt / 2 % 2))).sf SEC_POLICY_ENG_SIGNED 0
    (max (s.rf SEC_POLICY_ENG_SIGNED) (s.boot.burnt % 2))

/-- ROM selects a slot (R600): answers the slots to try in order, whether the first runs in trial, and whether a trial has
been given up. -/
def State.selectSlot (s : State) : List Nat × Bool × Bool × State :=
  let d := s.directory
  if s.boot.dirs.isEmpty then ([0, 1, 2], false, false, s)
  else if !d.trial then ([d.active, 1 - d.active, 2], false, false, s)
  else if d.attempts + 1 < 3 then ([d.active, 1 - d.active, 2], true, false, s.writeDirectory d.active true (d.attempts + 1))
  else ([1 - d.active, d.active, 2], false, true, s.writeDirectory (1 - d.active) false 3)

/-- A retirement recorded is applied again (R56, R575): the unit is marked and its epoch advances. -/
def State.reapply (s : State) (cls ident : Nat) : State :=
  match cls with
  | 0 =>
    let p := ident / 17
    let s := (s.sf PNL_STATE_SITES_RETIRED p (s.rf PNL_STATE_SITES_RETIRED p ||| 2 ^ (ident % 17))).advanceEpoch ident
    s.assignSpare p
  | 1 => ((s.sf GUS_STATE_RETIRED (ident - 0x440) 1).sf GUS_CTRL_EXCLUDE (ident - 0x440) 1).fenceUnit ident
  | 2 => (s.sf ACC_STATE_RETIRED (ident - 0x600) 1).fenceUnit ident
  | 3 => (s.sf HEM_STATE_RETIRED (ident - 0x740) 1).fenceUnit ident
  | 4 =>
    let s := s.sf LANE_STATE_RETIRED ident 1
    if ident < 48 then s.fenceUnit (0x820 + ident) else s
  | 5 => ((s.setQstate (ident - 0xA00) qRetired).sf QP_STATE_RETIRED (ident - 0xA00) 1).fenceUnit ident
  | 6 =>
    let s := s.sf PNL_STATE_RETIRED ident 1
    let s := (List.range 17).foldl (fun s k => s.fenceUnit (engineNumber ident k)) s
    (List.range 4).foldl (fun s q => s.fenceUnit (gussetUnit ident q)) s
  | 7 => s.fenceUnit ident
  | _ => s

/-- Every retirement of FAULT.RETIREMENTS that is in force is applied. -/
def State.reapplyAll (s : State) : State :=
  let l := s.dom oFAULT_RETIREMENTS
  (List.range (l.length / 32)).foldl (fun s r =>
    if natBit (fieldAt l (32 * r + 5) 1) 2 then s else s.reapply (fieldAt l (32 * r) 1) (fieldAt l (32 * r + 2) 2)) s

/-- A retirement of rank r of channel c has been recorded whose REINSTATED bit is as given. -/
def State.rankRecord (s : State) (c r : Nat) (back : Bool) : Bool :=
  let l := s.dom oFAULT_RETIREMENTS
  (List.range (l.length / 32)).any (fun k => fieldAt l (32 * k) 1 == 8 && fieldAt l (32 * k + 2) 2 == 4 * c + r
    && natBit (fieldAt l (32 * k + 5) 1) 2 == back)

/-- Rank r of channel c has been reinstated and comes back with a cold reset (R581). -/
def State.rankBack (s : State) (c r : Nat) : Bool := s.rankRecord c r true && !s.rankRecord c r false

/-- Reinstated ranks are no longer in DRAM.RETIRED. -/
def State.returnRanks (s : State) : State :=
  let l := (List.range 32).filter (fun k => natBit (s.ob oDRAM_RETIRED) k && s.rankBack (k / 4) (k % 4))
  l.foldl (fun s k => s.so oDRAM_RETIRED 0 (s.ob oDRAM_RETIRED &&& (2 ^ 32 - 1 - 2 ^ k))) s

/-- DRAM training (R405 to R407): `config` gives each channel's DRAM_CH_CFG, `failed` the ranks that fail training. A
channel that breaks R403 or R405, or cannot bring up its active capacity, is left out of service with reason 0x01. A rank that
fails is recorded as retired; a channel with a reinstated rank has no spare (R581). -/
def State.trainChannel (s : State) (c cfg first : Nat) (failed : List (Nat × Nat)) : State :=
  let s := [(DRAM_CH_CFG_ENABLE, 31), (DRAM_CH_CFG_RATE, 28), (DRAM_CH_CFG_WIDTH, 27), (DRAM_CH_CFG_DENSITY, 25),
    (DRAM_CH_CFG_STACK, 23), (DRAM_CH_CFG_RANKS, 20), (DRAM_CH_CFG_SPARE_EN, 19), (DRAM_CH_CFG_REF_SB, 18),
    (DRAM_CH_CFG_DRFM, 17), (DRAM_CH_CFG_RDIMM, 16)].foldl (fun (s : State) (f : Fld × Nat) => s.sf f.1 c (cfg / 2 ^ f.2)) s
  let n := s.rf DRAM_CH_CFG_RANKS c
  let spareEn := s.bit DRAM_CH_CFG_SPARE_EN c
  let shape := cfg == first && decide (1 ≤ n) && decide (n ≤ 4) && decide (s.rf DRAM_CH_CFG_DENSITY c < 3)
    && decide (s.rf DRAM_CH_CFG_STACK c < 3) && decide (s.rf DRAM_CH_CFG_RATE c < 4) && decide (s.channelBytes c ≤ 128 * 2 ^ 30)
    && decide (1 ≤ s.activeRanks c)
  let lost := fun r => failed.contains (c, r) || natBit (s.ob oDRAM_RETIRED) (4 * c + r)
  let spareUsed := (List.range (s.activeRanks c)).filter lost
  let spareGood := spareEn && !lost (n - 1)
  let s := ((List.range n).filter (fun r => failed.contains (c, r) && !natBit (s.ob oDRAM_RETIRED) (4 * c + r))).foldl (fun s r =>
    (s.so oDRAM_RETIRED 0 (s.ob oDRAM_RETIRED ||| 2 ^ (4 * c + r))).recordRetirement 8 causeSelfTest (4 * c + r) 0 false 0xFFFF) s
  if !shape || decide ((if spareGood then 1 else 0) < spareUsed.length) then (s.sf DRAM_CH_CFG_ENABLE c 0).dramEvent c 0x01
  else
    let s := (List.range n).foldl (fun s r =>
      s.setRankState c r (if lost r then 3
        else if spareEn && r == n - 1 && spareUsed.isEmpty && !(List.range n).any (s.rankBack c) then 2 else 1)) s
    ((s.sf DRAM_CH_STATE_TRAINED c 1).sf DRAM_STATUS_CH_UP 0 (s.rf DRAM_STATUS_CH_UP ||| 2 ^ c)).sf DRAM_STATUS_NCH 0
      (s.rf DRAM_STATUS_NCH + 1)

/-- Training of every enabled channel, and the capacity that it gives. -/
def State.trainDram (s : State) (config : List (Nat × Nat)) (failed : List (Nat × Nat)) : State :=
  let on := config.filter (fun e => natBit e.2 31 && decide (e.1 < 8) && decide (e.1 < s.die.variant.dramChannels))
  let first := match on with
    | e :: _ => e.2
    | [] => 0
  let s := on.foldl (fun s e => s.trainChannel e.1 e.2 first failed) s
  match bitsSet 8 (s.rf DRAM_STATUS_CH_UP) with
  | c :: _ => s.sf DRAM_CAPACITY_BYTES 0 (s.rf DRAM_STATUS_NCH * s.channelBytes c)
  | [] => s

/-- Partitions with stored resources enter STOPPED (R519). -/
def State.restorePartitions (s : State) : State :=
  partitions.foldl (fun s p =>
    if [oPART_PERSONALITY, oPART_PANEL_MASK, oPART_PATCH_MASK, oPART_LANE_MASK, oPART_QUEUE_BASE, oPART_QUEUE_COUNT,
        oPART_HOST_FUNCTION].any (fun o => s.objs.any (fun e => e.1 == o.key p)) then s.so oPART_STATE p 1 else s) s

/-- The firmware of slot k starts (R599 to R601): it is measured with the policy and keys, the store is opened, recorded
retirements are applied, the boot is counted, and what happened before it is announced. -/
def State.bootFirmware (s : State) (k : Nat) (inTrial reverted tampered : Bool) (badCopies badRecords : List Nat) : State :=
  let s := s.extend 0 (imageDigest (s.slotImage k))
  let s := s.extendEvent (valBytes 4 s.policyWord ++ (List.range 4).flatMap (fun i => Tab.get [] s.boot.custKeys (i + 1)))
  let s := ((s.openStore badCopies badRecords).countJournal).restoreScrub
  let s := s.nameFirmware k inTrial
  let s := { s with boot := { s.boot with tampered := false,
                                          trial := if inTrial then some (s.tb.count, 1 - k) else none } }
  let s := s.reapplyAll
  let s := s.so oID_BOOT_COUNT 0 (s.ob oID_BOOT_COUNT + 1)
  let s := if reverted then s.raise evFw 0x04 else s
  if tampered then (s.extendEvent (textBytes "TAMPER")).raise evTamper else s

/-- The rest of the die starts (R599): units that fail their self-test are retired, DRAM and the host link are trained, and
partitions with stored resources are STOPPED. -/
def State.bootUnits (s : State) (failed config untrained : List (Nat × Nat)) (link : Nat × Nat × Nat × Nat × Nat) : State :=
  let s := s.returnRanks
  let s := failed.foldl (fun s e =>
    if s.healthPresent e.1 e.2 && !s.healthRetired e.1 e.2 then s.retireUnit e.1 e.2 causeSelfTest else s) s
  let s := s.trainDram config untrained
  let s := (s.sf HP_LINK_STATE_UP 0 1).sf HP_LINK_STATE_RATE 0 (min link.1 (s.ob oHOST_MAX_RATE))
  (s.trainLink link.2.1 link.2.2.1 link.2.2.2.1 link.2.2.2.2).restorePartitions

/-- COLD_BOOT (R599): what the self-tests, the store's digests and DRAM training find are operands. -/
def execColdBoot (failed : List (Nat × Nat)) (badCopies badRecords : List Nat) (config untrained : List (Nat × Nat))
    (link : Nat × Nat × Nat × Nat × Nat) (s : State) : Host.Outcome State Fault Refusal :=
  .next (
    let tampered := s.boot.tampered
    let (slots, trial, reverted, s) := (s.coldReset 0).selectSlot
    match slots.find? (fun k => (s.imageFault (s.slotImage k) 1 (bodyDigest (s.slotImage k)) true).isNone) with
    | none => { s with boot := { s.boot with phase := 2 } }.send (.pin "GPIO15" false)
    | some k =>
      let s := s.bootFirmware k (trial && k == slots.headD 0) reverted tampered badCopies badRecords
      (s.bootUnits failed config untrained link).raise evBootDone)

/-- POR_N_ASSERT: the die is held in reset (R653). -/
def execPorNAssert (s : State) : Host.Outcome State Fault Refusal := .next (s.coldReset 1)

/-- PM.DEVICE_CMD 3 (R568). -/
def State.deviceOff (s : State) : Nat × State :=
  if partitions.all (fun p => decide (s.pstate p ≤ 1)) && s.boltState == boltAlone then
    let s := (s.coldReset 3).send (.rails false)
    (codeDone, { s with pm := { s.pm with off := true } })
  else (codeDenied, s)

/-- PM_DEVICE_OFF. -/
def execPmDeviceOff (s : State) : Host.Outcome State Fault Refusal :=
  .next (let r := s.deviceOff; r.2.send (.objectDone 0x8000 2 r.1))

/-- WAKE_PIN (R563): ends the DEEP hold; in OFF the rails come back and the die waits for its cold boot. A die that is held
in reset sees nothing of it. -/
def execWakePin (s : State) : Host.Outcome State Fault Refusal :=
  .next (
    if s.boot.phase = 3 then
      let t := s.send (.rails true)
      { t with boot := { t.boot with phase := 1 }, pm := { t.pm with off := false } }
    else if s.boot.phase ≠ 0 then s
    else if s.ob oPM_DEVICE_STATE = 3 then s.endHold
    else s.raise evWakePin)

end Sys2Proof.Machine
end

