-- ==== Sys2Proof/Machine/ElrynMemory.lean ====
section
/-!
DEFINITION. The meanings of the scalar loads and stores and the queue instructions (R187, R143).
-/

namespace Sys2Proof.Machine

open Reg Ob

/-- A load of 2^sz bytes into gd: its value signed or not; the base register updated first, so that the loaded value
stands where both are one register (R137). -/
def State.loadOp (s : State) (g : Nat) (sz : Nat) (signed : Bool) (gd gb : BitVec 5) (m : AddrMode) : State :=
  s.native g (fun _ =>
    let n := 2 ^ sz
    match s.addressAligned g gb m n with
    | .raises c x => s.raiseSync g c x
    | .at ea base =>
      match s.accessFault g ea n n false with
      | some c => s.raiseFault g c ea n false
      | none => s.whenOpen g ea n (
        match s.loadBytes g ea n with
        | (none, t) => t.poisonReset g
        | (some v, t) =>
          let v := if signed then BitVec.ofInt 64 (toSigned (8 * n) v) else BitVec.ofNat 64 v
          t.retire g (((t.eng g).setReg gb base).setReg gd v)))

/-- LD (R187): sign-extended. -/
def execILd (engine : Nat) (sz : BitVec 2) (gd gb : BitVec 5) (mode : AddrMode) (s : State) :
    Host.Outcome State Fault Refusal :=
  .next (s.loadOp engine sz.toNat true gd gb mode)

/-- LDU (R187): zero-extended; width 3 is reserved. -/
def execILdu (engine : Nat) (sz : BitVec 2) (gd gb : BitVec 5) (mode : AddrMode) (s : State) :
    Host.Outcome State Fault Refusal :=
  .next (if sz = 3 then s.native engine (fun _ => s.illegal engine) else s.loadOp engine sz.toNat false gd gb mode)

/-- ST (R187): a partial store into a bad word leaves it poisoned, and the job's code becomes POISON (R136). -/
def execISt (engine : Nat) (sz : BitVec 2) (gs gb : BitVec 5) (mode : AddrMode) (s : State) :
    Host.Outcome State Fault Refusal :=
  .next (s.native engine (fun e =>
    let n := 2 ^ sz.toNat
    match s.addressAligned engine gb mode n with
    | .raises c x => s.raiseSync engine c x
    | .at ea base =>
      match s.accessFault engine ea n n true with
      | some c => s.raiseFault engine c ea n true
      | none => s.whenOpen engine ea n (
        let r := s.storeBytes engine ea n (e.reg gs).toNat
        let t := if r.1 then r.2.poisonJob engine else r.2
        t.retire engine ((t.eng engine).setReg gb base))))

/-- The tag that PUSH puts into an entry (R143): the job's, or class 7 and a deadline 2^47 − 1 ticks ahead. -/
def State.pushTag (s : State) (g : Nat) : Word :=
  let e := s.eng g
  if e.job.isSome then e.jobTag else tagWord 0 7 (s.nowAt (g / 17) + 2 ^ 47 - 1)

/-- PUSH (R143): the 64 bytes at ea, their last word replaced by the tag; a bad word goes on as the poison mark. It
waits where its port holds no credit, and writes its base register when it retires (R128). -/
def execIPush (engine : Nat) (gq gb : BitVec 5) (mode : AddrMode) (s : State) : Host.Outcome State Fault Refusal :=
  .next (s.native engine (fun e =>
    match s.addressAligned engine gb mode 8 with
    | .raises c x => s.raiseSync engine c x
    | .at ea base =>
      match s.accessFault engine ea 64 8 false with
      | some c => s.raiseFault engine c ea 64 false
      | none =>
        let q := (e.reg gq).toNat % 65536
        if !s.queueReach q then s.raiseSync engine causeAccess ea else s.whenOpen engine ea 64 (
        let r := s.readWords ea engine 1 7
        let t := if r.1.any Option.isNone then r.2.poisonJob engine else r.2
        let p := t.port q engine
        let stalls := !p.stalled.isEmpty || p.credits == 0
        let t := t.setEng engine { t.eng engine with wait := .credit q gb.toNat base }
        let t := t.pushEntry q engine (r.1 ++ [some (t.pushTag engine)])
        if stalls then t else (t.releaseEngine q engine).takeAsync engine)))

/-- A pop at an aliased queue asks the peer and waits for its answer (R374). An entry that has come for an interrupted
POPW is taken first, and what has been asked is not asked again. -/
def State.popPeer (s : State) (g q ea base : Nat) (updated : Word) (result : Option Nat) : State :=
  let e := s.eng g
  match s.aliasOf q with
  | some (n, r) =>
    if !s.queueReach q then s.raiseSync g causeAccess ea else
    match e.popKept with
    | some (k, w) =>
      if k = q then (s.setEng g { e with popKept := none }).takePopped g ea base updated result w
      else ((s.post n (.pop r g)).setEng g { e with wait := .peer q ea base updated result }).takeAsync g
    | none =>
      let t := if e.popAsked = some q then s else s.post n (.pop r g)
      (t.setEng g { e with wait := .peer q ea base updated result, popAsked := none }).takeAsync g
  | none => s

/-- POP (R143): one entry to ea and 1 to gd, or 0 where the queue is empty; another unit's queue raises ACCESS. -/
def execIPop (engine : Nat) (gd gb : BitVec 5) (mode : AddrMode) (s : State) : Host.Outcome State Fault Refusal :=
  .next (s.native engine (fun e =>
    match s.addressAligned engine gb mode 8 with
    | .raises c x => s.raiseSync engine c x
    | .at ea base =>
      match s.accessFault engine ea 64 8 true with
      | some c => s.raiseFault engine c ea 64 true
      | none => s.whenOpen engine ea 64 (
        let q := (e.reg gd).toNat % 65536
        if (s.aliasOf q).isSome then s.popPeer engine q ea gb.toNat base (some gd.toNat) else
        match s.popQueue q engine with
        | (.denied, _) => s.raiseSync engine causeAccess ea
        | (.stalled, t) => t.setEng engine { e with wait := .again 0 }
        | (.empty, t) => t.retire engine (((t.eng engine).setReg gb base).setReg gd 0)
        | (.entry w, t) =>
          let t := t.storeEntry engine ea w
          t.retire engine (((t.eng engine).setReg gb base).setReg gd 1))))

/-- POPW (R143): as POP, but it waits for an entry and leaves gq as it is. -/
def execIPopw (engine : Nat) (gq gb : BitVec 5) (mode : AddrMode) (s : State) : Host.Outcome State Fault Refusal :=
  .next (s.native engine (fun e =>
    match s.addressAligned engine gb mode 8 with
    | .raises c x => s.raiseSync engine c x
    | .at ea base =>
      match s.accessFault engine ea 64 8 true with
      | some c => s.raiseFault engine c ea 64 true
      | none => s.whenOpen engine ea 64 (
        let q := (e.reg gq).toNat % 65536
        if (s.aliasOf q).isSome then s.popPeer engine q ea gb.toNat base none else
        match s.popQueue q engine with
        | (.denied, _) => s.raiseSync engine causeAccess ea
        | (.stalled, t) => t.setEng engine { e with wait := .again 0 }
        | (.empty, t) => (t.setEng engine { t.eng engine with wait := .entry q ea gb.toNat base }).takeAsync engine
        | (.entry w, t) =>
          let t := t.storeEntry engine ea w
          t.retire engine ((t.eng engine).setReg gb base))))

end Sys2Proof.Machine
end

