-- ==== Sys2Proof/Machine/ElrynScalar.lean ====
section
/-!
DEFINITION. The meanings of the system, scalar, immediate, branch and jump instructions (R183 to R186).
-/

namespace Sys2Proof.Machine

open Reg Ob

/-! ## Special registers (R126, R162) -/

/-- The value MFS reads from special register n on engine g, with the state after the read (EVQ pops); none where the
read raises ILLEGAL. -/
def State.readSpecial (s : State) (g : Nat) (n : BitVec 5) : Option (Word × State) :=
  let e := s.eng g
  match n.toNat with
  | 0x00 => some (BitVec.ofNat 64 e.pc, s)
  | 0x01 => some ((s.statusOf g).setWidth 64, s)
  | 0x02 => some (e.estatus.setWidth 64, s)
  | 0x03 => some (BitVec.ofNat 64 e.epc, s)
  | 0x04 => some (BitVec.ofNat 64 e.ecause, s)
  | 0x05 => some (BitVec.ofNat 64 e.eaddr, s)
  | 0x06 => some (BitVec.ofNat 64 e.evec, s)
  | 0x07 => some (BitVec.ofNat 64 (s.physical g * 2 ^ 16 + g), s)
  | 0x08 => let t := s.countCycles g; some ((t.eng g).cycle, t)
  | 0x09 => some (BitVec.ofNat 64 (s.replica (g / 17)), s)
  | 0x0A => some (e.jobTag, s)
  | 0x0B => some (e.srchVal.setWidth 64, s)
  | 0x0C => some (e.srchIdx.setWidth 64, s)
  | 0x0D => some (e.srchBase.setWidth 64, s)
  | 0x0E =>
    match e.inbox with
    | [] => some (0xFFFF, s)
    | v :: r => some (BitVec.ofNat 64 v, s.setEng g { e with inbox := r })
  | 0x18 => some (BitVec.ofNat 64 e.vl, s)
  | 0x19 => some (e.vfault.setWidth 64, s)
  | 0x1A => some (BitVec.ofNat 64 e.eindex, s)
  | k =>
    if isLead g ∧ 0x10 ≤ k ∧ k ≤ 0x13 then some ((e.cbBase[k % 4]'(Nat.mod_lt _ (by decide))).setWidth 64, s)
    else if isLead g ∧ 0x14 ≤ k ∧ k ≤ 0x17 then some ((e.cbLen[k % 4]'(Nat.mod_lt _ (by decide))).setWidth 64, s)
    else none

/-- The engine after an MTS of v to special register n on engine g; none where the write raises ILLEGAL. -/
def Engine.writeSpecial (e : Engine) (g : Nat) (n : BitVec 5) (v : Word) : Option Engine :=
  match n.toNat with
  | 0x01 => some { e with status := v.setWidth 32 &&& statusMask }
  | 0x02 => some { e with estatus := v.setWidth 32 }
  | 0x03 => some { e with epc := v.toNat % 2 ^ 15 }
  | 0x04 => some { e with ecause := v.toNat % 2 ^ 8 }
  | 0x05 => some { e with eaddr := v.toNat % 2 ^ 48 }
  | 0x06 => some { e with evec := v.toNat % 2 ^ 15 }
  | 0x0B => some { e with srchVal := v.setWidth 32 }
  | 0x0C => some { e with srchIdx := v.setWidth 32 }
  | 0x0D => some { e with srchBase := v.setWidth 32 }
  | 0x18 => some { e with vl := min v.toNat 16 }
  | 0x19 => some { e with vfault := v.setWidth 16 }
  | 0x1A => some { e with eindex := v.toNat % 16 }
  | k =>
    if isLead g ∧ 0x10 ≤ k ∧ k ≤ 0x13 then
      some { e with cbBase := e.cbBase.set (k % 4) (v.setWidth 48) (Nat.mod_lt _ (by decide)) }
    else if isLead g ∧ 0x14 ≤ k ∧ k ≤ 0x17 then
      some { e with cbLen := e.cbLen.set (k % 4) (v.setWidth 24) (Nat.mod_lt _ (by decide)) }
    else none

/-! ## System group (R183) -/

/-- NOP. -/
def execINop (engine : Nat) (s : State) : Host.Outcome State Fault Refusal := .next (s.regOp engine id)

/-- FENCE (R134) waits until every earlier store of the engine has been acknowledged. -/
def execIFence (engine : Nat) (s : State) : Host.Outcome State Fault Refusal :=
  .next (s.native engine (fun e =>
    if s.storesDone engine then s.retire engine e else s.setEng engine { e with wait := .again 0 }))

/-- ERET (R145): STATUS from ESTATUS, and on at EPC; the instruction there resumes at EINDEX (R174). -/
def execIEret (engine : Nat) (s : State) : Host.Outcome State Fault Refusal :=
  .next (s.native engine (fun e =>
    (s.setEng engine { e with status := e.estatus &&& statusMask, pc := e.epc, resumed := true, wait := .none }).takeAsync
      engine))

/-- BREAK: exception 0x06, EPC the next instruction (R146). -/
def execIBreak (engine : Nat) (s : State) : Host.Outcome State Fault Refusal :=
  .next (s.native engine (fun e => s.takeException engine causeBreak ((e.pc + 4) % 2 ^ 15) 0))

/-- SIGNAL: the engine event with reason 0x04 (R154). -/
def execISignal (engine : Nat) (s : State) : Host.Outcome State Fault Refusal :=
  .next (s.native engine (fun e => (s.engEvent engine 0x04).retire engine e))

/-- WAITJOB: from FREE only (R153, R183). -/
def execIWaitjob (engine : Nat) (s : State) : Host.Outcome State Fault Refusal :=
  .next (s.native engine (fun e =>
    if e.state = .free then s.waitJob engine else s.illegal engine))

/-- EXIT (R150): waits until the job's pushes have landed. -/
def execIExit (engine : Nat) (gs : BitVec 5) (s : State) : Host.Outcome State Fault Refusal :=
  .next (s.native engine (fun e =>
    if e.state = .running ∧ e.job.isSome = true then
      let code := (e.reg gs).toNat % 256
      let result := (e.reg 4).toNat % 2 ^ 32
      let ext := (e.reg 5).toNat
      if s.pushesLanded engine then s.finishExit engine code result ext
      else s.setEng engine { e with wait := .exit code result ext }
    else s.illegal engine))

/-- MFS gd, sr (R126). -/
def execIMfs (engine : Nat) (gd sr : BitVec 5) (s : State) : Host.Outcome State Fault Refusal :=
  .next (s.native engine (fun _ =>
    match s.readSpecial engine sr with
    | some (v, t) => t.retire engine ((t.eng engine).setReg gd v)
    | none => s.illegal engine))

/-- MTS sr, gs (R126). -/
def execIMts (engine : Nat) (sr gs : BitVec 5) (s : State) : Host.Outcome State Fault Refusal :=
  .next (s.native engine (fun e =>
    match e.writeSpecial engine sr (e.reg gs) with
    | some f => s.retire engine f
    | none => s.illegal engine))

/-! ## Scalar ALU group (R184) -/

/-- ADD. -/
def execIAdd (engine : Nat) (gd gs gt : BitVec 5) (s : State) : Host.Outcome State Fault Refusal :=
  .next (s.alu engine gd (fun e => e.reg gs + e.reg gt))
/-- SUB. -/
def execISub (engine : Nat) (gd gs gt : BitVec 5) (s : State) : Host.Outcome State Fault Refusal :=
  .next (s.alu engine gd (fun e => e.reg gs - e.reg gt))
/-- AND. -/
def execIAnd (engine : Nat) (gd gs gt : BitVec 5) (s : State) : Host.Outcome State Fault Refusal :=
  .next (s.alu engine gd (fun e => e.reg gs &&& e.reg gt))
/-- OR. -/
def execIOr (engine : Nat) (gd gs gt : BitVec 5) (s : State) : Host.Outcome State Fault Refusal :=
  .next (s.alu engine gd (fun e => e.reg gs ||| e.reg gt))
/-- XOR. -/
def execIXor (engine : Nat) (gd gs gt : BitVec 5) (s : State) : Host.Outcome State Fault Refusal :=
  .next (s.alu engine gd (fun e => e.reg gs ^^^ e.reg gt))
/-- SLL: by bits 5:0 of gt. -/
def execISll (engine : Nat) (gd gs gt : BitVec 5) (s : State) : Host.Outcome State Fault Refusal :=
  .next (s.alu engine gd (fun e => e.reg gs <<< ((e.reg gt).toNat % 64)))
/-- SRL. -/
def execISrl (engine : Nat) (gd gs gt : BitVec 5) (s : State) : Host.Outcome State Fault Refusal :=
  .next (s.alu engine gd (fun e => e.reg gs >>> ((e.reg gt).toNat % 64)))
/-- SRA. -/
def execISra (engine : Nat) (gd gs gt : BitVec 5) (s : State) : Host.Outcome State Fault Refusal :=
  .next (s.alu engine gd (fun e => (e.reg gs).sshiftRight ((e.reg gt).toNat % 64)))
/-- SLT. -/
def execISlt (engine : Nat) (gd gs gt : BitVec 5) (s : State) : Host.Outcome State Fault Refusal :=
  .next (s.alu engine gd (fun e => if (e.reg gs).slt (e.reg gt) then 1 else 0))
/-- SLTU. -/
def execISltu (engine : Nat) (gd gs gt : BitVec 5) (s : State) : Host.Outcome State Fault Refusal :=
  .next (s.alu engine gd (fun e => if (e.reg gs).ult (e.reg gt) then 1 else 0))
/-- MIN. -/
def execIMin (engine : Nat) (gd gs gt : BitVec 5) (s : State) : Host.Outcome State Fault Refusal :=
  .next (s.alu engine gd (fun e => if (e.reg gs).slt (e.reg gt) then e.reg gs else e.reg gt))
/-- MAX. -/
def execIMax (engine : Nat) (gd gs gt : BitVec 5) (s : State) : Host.Outcome State Fault Refusal :=
  .next (s.alu engine gd (fun e => if (e.reg gs).slt (e.reg gt) then e.reg gt else e.reg gs))
/-- MINU. -/
def execIMinu (engine : Nat) (gd gs gt : BitVec 5) (s : State) : Host.Outcome State Fault Refusal :=
  .next (s.alu engine gd (fun e => if (e.reg gs).ult (e.reg gt) then e.reg gs else e.reg gt))
/-- MAXU. -/
def execIMaxu (engine : Nat) (gd gs gt : BitVec 5) (s : State) : Host.Outcome State Fault Refusal :=
  .next (s.alu engine gd (fun e => if (e.reg gs).ult (e.reg gt) then e.reg gt else e.reg gs))
/-- MUL: the low 64 bits of the product. -/
def execIMul (engine : Nat) (gd gs gt : BitVec 5) (s : State) : Host.Outcome State Fault Refusal :=
  .next (s.alu engine gd (fun e => e.reg gs * e.reg gt))
/-- MULH: the high 64 bits of the signed product. -/
def execIMulh (engine : Nat) (gd gs gt : BitVec 5) (s : State) : Host.Outcome State Fault Refusal :=
  .next (s.alu engine gd (fun e => BitVec.ofInt 64 ((e.reg gs).toInt * (e.reg gt).toInt / 2 ^ 64)))
/-- MULHU: the high 64 bits of the unsigned product. -/
def execIMulhu (engine : Nat) (gd gs gt : BitVec 5) (s : State) : Host.Outcome State Fault Refusal :=
  .next (s.alu engine gd (fun e => BitVec.ofNat 64 ((e.reg gs).toNat * (e.reg gt).toNat / 2 ^ 64)))

/-! ## Immediate groups (R185) -/

/-- ADDI. -/
def execIAddi (engine : Nat) (gd gs : BitVec 5) (imm : BitVec 16) (s : State) : Host.Outcome State Fault Refusal :=
  .next (s.alu engine gd (fun e => e.reg gs + imm.signExtend 64))
/-- ANDI. -/
def execIAndi (engine : Nat) (gd gs : BitVec 5) (imm : BitVec 16) (s : State) : Host.Outcome State Fault Refusal :=
  .next (s.alu engine gd (fun e => e.reg gs &&& imm.setWidth 64))
/-- ORI. -/
def execIOri (engine : Nat) (gd gs : BitVec 5) (imm : BitVec 16) (s : State) : Host.Outcome State Fault Refusal :=
  .next (s.alu engine gd (fun e => e.reg gs ||| imm.setWidth 64))
/-- XORI. -/
def execIXori (engine : Nat) (gd gs : BitVec 5) (imm : BitVec 16) (s : State) : Host.Outcome State Fault Refusal :=
  .next (s.alu engine gd (fun e => e.reg gs ^^^ imm.setWidth 64))
/-- SLTI. -/
def execISlti (engine : Nat) (gd gs : BitVec 5) (imm : BitVec 16) (s : State) : Host.Outcome State Fault Refusal :=
  .next (s.alu engine gd (fun e => if (e.reg gs).slt (imm.signExtend 64) then 1 else 0))
/-- SLTIU: unsigned, against the sign-extended immediate. -/
def execISltiu (engine : Nat) (gd gs : BitVec 5) (imm : BitVec 16) (s : State) : Host.Outcome State Fault Refusal :=
  .next (s.alu engine gd (fun e => if (e.reg gs).ult (imm.signExtend 64) then 1 else 0))
/-- SLLI. -/
def execISlli (engine : Nat) (gd gs : BitVec 5) (count : BitVec 6) (s : State) : Host.Outcome State Fault Refusal :=
  .next (s.alu engine gd (fun e => e.reg gs <<< count.toNat))
/-- SRLI. -/
def execISrli (engine : Nat) (gd gs : BitVec 5) (count : BitVec 6) (s : State) : Host.Outcome State Fault Refusal :=
  .next (s.alu engine gd (fun e => e.reg gs >>> count.toNat))
/-- SRAI. -/
def execISrai (engine : Nat) (gd gs : BitVec 5) (count : BitVec 6) (s : State) : Host.Outcome State Fault Refusal :=
  .next (s.alu engine gd (fun e => (e.reg gs).sshiftRight count.toNat))
/-- LIS: the sign-extended immediate at halfword hw. -/
def execILis (engine : Nat) (gd : BitVec 5) (imm : BitVec 16) (hw : BitVec 2) (s : State) :
    Host.Outcome State Fault Refusal :=
  .next (s.alu engine gd (fun _ => imm.signExtend 64 <<< (16 * hw.toNat)))
/-- LIK: halfword hw of gd replaced. -/
def execILik (engine : Nat) (gd : BitVec 5) (imm : BitVec 16) (hw : BitVec 2) (s : State) :
    Host.Outcome State Fault Refusal :=
  .next (s.alu engine gd (fun e =>
    (e.reg gd &&& ~~~((0xFFFF : Word) <<< (16 * hw.toNat))) ||| (imm.setWidth 64 <<< (16 * hw.toNat))))

/-! ## Branches and jumps (R186) -/

/-- The target of an offset counted in words from PC. -/
def branchTarget (pc : Nat) (off : Int) : Nat := (((pc : Int) + 4 * off) % 2 ^ 15).toNat

/-- A conditional branch: taken, it jumps. -/
def State.branch (s : State) (g : Nat) (off : BitVec 16) (cond : Engine → Bool) : State :=
  s.native g (fun e => if cond e then s.jumpTo g e (branchTarget e.pc off.toInt) else s.retire g e)

/-- The engine with the address of the next instruction in a link register. -/
def Engine.link (e : Engine) (gd : BitVec 5) : Engine := e.setReg gd (BitVec.ofNat 64 ((e.pc + 4) % 2 ^ 15))

/-- A jump to a register's address. -/
def State.jumpReg (s : State) (g : Nat) (gs : BitVec 5) (link : Option (BitVec 5)) : State :=
  s.native g (fun e => s.jumpTo g (match link with
    | some gd => e.link gd
    | none => e) ((e.reg gs).toNat % 2 ^ 15))

/-- BEQ. -/
def execIBeq (engine : Nat) (gs gt : BitVec 5) (off : BitVec 16) (s : State) : Host.Outcome State Fault Refusal :=
  .next (s.branch engine off (fun e => e.reg gs == e.reg gt))
/-- BNE. -/
def execIBne (engine : Nat) (gs gt : BitVec 5) (off : BitVec 16) (s : State) : Host.Outcome State Fault Refusal :=
  .next (s.branch engine off (fun e => e.reg gs != e.reg gt))
/-- BLT. -/
def execIBlt (engine : Nat) (gs gt : BitVec 5) (off : BitVec 16) (s : State) : Host.Outcome State Fault Refusal :=
  .next (s.branch engine off (fun e => (e.reg gs).slt (e.reg gt)))
/-- BGE. -/
def execIBge (engine : Nat) (gs gt : BitVec 5) (off : BitVec 16) (s : State) : Host.Outcome State Fault Refusal :=
  .next (s.branch engine off (fun e => !(e.reg gs).slt (e.reg gt)))
/-- BLTU. -/
def execIBltu (engine : Nat) (gs gt : BitVec 5) (off : BitVec 16) (s : State) : Host.Outcome State Fault Refusal :=
  .next (s.branch engine off (fun e => (e.reg gs).ult (e.reg gt)))
/-- BGEU. -/
def execIBgeu (engine : Nat) (gs gt : BitVec 5) (off : BitVec 16) (s : State) : Host.Outcome State Fault Refusal :=
  .next (s.branch engine off (fun e => !(e.reg gs).ult (e.reg gt)))
/-- J. -/
def execIJ (engine : Nat) (off : BitVec 26) (s : State) : Host.Outcome State Fault Refusal :=
  .next (s.native engine (fun e => s.jumpTo engine e (branchTarget e.pc off.toInt)))
/-- JAL: g31 holds PC + 4. -/
def execIJal (engine : Nat) (off : BitVec 26) (s : State) : Host.Outcome State Fault Refusal :=
  .next (s.native engine (fun e => s.jumpTo engine (e.link 31) (branchTarget e.pc off.toInt)))
/-- JR. -/
def execIJr (engine : Nat) (gs : BitVec 5) (s : State) : Host.Outcome State Fault Refusal :=
  .next (s.jumpReg engine gs none)
/-- JALR. -/
def execIJalr (engine : Nat) (gd gs : BitVec 5) (s : State) : Host.Outcome State Fault Refusal :=
  .next (s.jumpReg engine gs (some gd))

end Sys2Proof.Machine
end

