-- ==== Sys2Proof/Machine/ElrynVector.lean ====
section
/-!
DEFINITION. The meanings of the vector instructions that access no memory (R164, R169 to R171, R189). A type, count or index
that the mnemonic does not accept raises ILLEGAL (R193).
-/

namespace Sys2Proof.Machine

/-- A vector instruction with a condition on its fields. -/
def State.vecOp (s : State) (g : Nat) (ok : Bool) (f : Engine → Engine) : State :=
  s.native g (fun e => if ok then s.retire g (f e) else s.illegal g)

/-- The types that a group of mnemonics accepts (R169). -/
def typesAll (_ : ElemType) : Bool := true
def typesBHW (t : ElemType) : Bool := t == .b || t == .h || t == .w
def typesBHWD (t : ElemType) : Bool := typesBHW t || t == .d
def typesBHWCH (t : ElemType) : Bool := typesBHW t || t == .ch
def typesHWCH (t : ElemType) : Bool := t == .h || t == .w || t == .ch

/-- A bitwise operation on active elements. -/
def State.vecLogic (s : State) (g : Nat) (t : ElemType) (vd vs vt : BitVec 5) (f : Nat → Nat → Nat) : State :=
  s.vecOp g (typesBHWD t) (fun e =>
    e.setVec vd (vFill (e.vec vd) t.width (e.vle t) (fun i => f (vField (e.vec vs) t.width i) (vField (e.vec vt) t.width i))))

/-- VADD (R169). -/
def execIVadd (engine : Nat) (t : ElemType) (vd vs vt : BitVec 5) (s : State) : Host.Outcome State Fault Refusal :=
  .next (s.vecOp engine (typesAll t) (fun e => e.vBin t (e.vle t) false vd vs vt (fun x y => x + y)))
/-- VSUB (R169). -/
def execIVsub (engine : Nat) (t : ElemType) (vd vs vt : BitVec 5) (s : State) : Host.Outcome State Fault Refusal :=
  .next (s.vecOp engine (typesAll t) (fun e => e.vBin t (e.vle t) false vd vs vt (fun x y => x - y)))
/-- VADDS (R169). -/
def execIVadds (engine : Nat) (t : ElemType) (vd vs vt : BitVec 5) (s : State) : Host.Outcome State Fault Refusal :=
  .next (s.vecOp engine (typesBHWCH t) (fun e => e.vBin t (e.vle t) true vd vs vt (fun x y => x + y)))
/-- VSUBS (R169). -/
def execIVsubs (engine : Nat) (t : ElemType) (vd vs vt : BitVec 5) (s : State) : Host.Outcome State Fault Refusal :=
  .next (s.vecOp engine (typesBHWCH t) (fun e => e.vBin t (e.vle t) true vd vs vt (fun x y => x - y)))
/-- VNEGS (R169). -/
def execIVnegs (engine : Nat) (t : ElemType) (vd vs : BitVec 5) (s : State) : Host.Outcome State Fault Refusal :=
  .next (s.vecOp engine (typesBHWCH t) (fun e => e.vUn t (e.vle t) vd vs (fun x => satTo t.partWidth (-x))))
/-- VABSS (R169). -/
def execIVabss (engine : Nat) (t : ElemType) (vd vs : BitVec 5) (s : State) : Host.Outcome State Fault Refusal :=
  .next (s.vecOp engine (typesBHW t) (fun e => e.vUn t (e.vle t) vd vs (fun x => satTo t.partWidth x.natAbs)))
/-- VCONJS (R169). -/
def execIVconjs (engine : Nat) (t : ElemType) (vd vs : BitVec 5) (s : State) : Host.Outcome State Fault Refusal :=
  .next (s.vecOp engine (t == .ch) (fun e => e.vConj (e.vle t) vd vs))
/-- VMAXE (R169). -/
def execIVmaxe (engine : Nat) (t : ElemType) (vd vs vt : BitVec 5) (s : State) : Host.Outcome State Fault Refusal :=
  .next (s.vecOp engine (typesBHW t) (fun e => e.vBin t (e.vle t) false vd vs vt (fun x y => max x y)))
/-- VMINE (R169). -/
def execIVmine (engine : Nat) (t : ElemType) (vd vs vt : BitVec 5) (s : State) : Host.Outcome State Fault Refusal :=
  .next (s.vecOp engine (typesBHW t) (fun e => e.vBin t (e.vle t) false vd vs vt (fun x y => min x y)))
/-- VAND (R169). -/
def execIVand (engine : Nat) (t : ElemType) (vd vs vt : BitVec 5) (s : State) : Host.Outcome State Fault Refusal :=
  .next (s.vecLogic engine t vd vs vt (fun x y => x &&& y))
/-- VOR (R169). -/
def execIVor (engine : Nat) (t : ElemType) (vd vs vt : BitVec 5) (s : State) : Host.Outcome State Fault Refusal :=
  .next (s.vecLogic engine t vd vs vt (fun x y => x ||| y))
/-- VXOR (R169). -/
def execIVxor (engine : Nat) (t : ElemType) (vd vs vt : BitVec 5) (s : State) : Host.Outcome State Fault Refusal :=
  .next (s.vecLogic engine t vd vs vt (fun x y => x ^^^ y))
/-- VSHRR (R169). -/
def execIVshrr (engine : Nat) (t : ElemType) (vd vs count : BitVec 5) (s : State) : Host.Outcome State Fault Refusal :=
  .next (s.vecOp engine (typesHWCH t && decide (count.toNat < t.partWidth)) (fun e =>
    e.vShrr t e.rnd (e.vle t) count.toNat vd vs))
/-- VSHLS (R169). -/
def execIVshls (engine : Nat) (t : ElemType) (vd vs count : BitVec 5) (s : State) : Host.Outcome State Fault Refusal :=
  .next (s.vecOp engine (typesHWCH t && decide (count.toNat < t.partWidth)) (fun e =>
    e.vShls t (e.vle t) count.toNat vd vs))
/-- VPERM (R169). -/
def execIVperm (engine : Nat) (t : ElemType) (vd vs vt : BitVec 5) (s : State) : Host.Outcome State Fault Refusal :=
  .next (s.vecOp engine (t == .b) (fun e => e.vPerm (e.vle t) vd vs vt))
/-- VMULQ (R169). -/
def execIVmulq (engine : Nat) (t : ElemType) (vd vs vt : BitVec 5) (s : State) : Host.Outcome State Fault Refusal :=
  .next (s.vecOp engine (t == .h) (fun e => e.vMulq e.rnd (e.vle t) vd vs vt))
/-- VCMULQ (R170). -/
def execIVcmulq (engine : Nat) (t : ElemType) (vd vs vt : BitVec 5) (s : State) : Host.Outcome State Fault Refusal :=
  .next (s.vecOp engine (t == .ch) (fun e => e.vCmulq false e.rnd (e.vle t) vd vs vt))
/-- VCMULJQ (R170). -/
def execIVcmuljq (engine : Nat) (t : ElemType) (vd vs vt : BitVec 5) (s : State) : Host.Outcome State Fault Refusal :=
  .next (s.vecOp engine (t == .ch) (fun e => e.vCmulq true e.rnd (e.vle t) vd vs vt))
/-- VMACR (R171). -/
def execIVmacr (engine : Nat) (t : ElemType) (vs vt : BitVec 5) (s : State) : Host.Outcome State Fault Refusal :=
  .next (s.vecOp engine (t == .h) (fun e => e.vMac (e.vle t) vs vt (fun e k x y => e.accumulate k (x * y))))
/-- VCMAC (R171). -/
def execIVcmac (engine : Nat) (t : ElemType) (pair : Bool) (vs vt : BitVec 5) (s : State) :
    Host.Outcome State Fault Refusal :=
  .next (s.vecOp engine (t == .ch) (fun e =>
    e.vCmac (e.vle t) vs vt (fun e x y => e.cmac false pair x.1 x.2 y.1 y.2)))
/-- VCMACJ (R171). -/
def execIVcmacj (engine : Nat) (t : ElemType) (pair : Bool) (vs vt : BitVec 5) (s : State) :
    Host.Outcome State Fault Refusal :=
  .next (s.vecOp engine (t == .ch) (fun e =>
    e.vCmac (e.vle t) vs vt (fun e x y => e.cmac true pair x.1 x.2 y.1 y.2)))
/-- VSMAX (R171). -/
def execIVsmax (engine : Nat) (t : ElemType) (vs : BitVec 5) (s : State) : Host.Outcome State Fault Refusal :=
  .next (s.vecOp engine (t == .h) (fun e => e.search (vKeys (e.vec vs) (e.vle t)) searchMax))
/-- VSMIN (R171). -/
def execIVsmin (engine : Nat) (t : ElemType) (vs : BitVec 5) (s : State) : Host.Outcome State Fault Refusal :=
  .next (s.vecOp engine (t == .h) (fun e => e.search (vKeys (e.vec vs) (e.vle t)) searchMin))
/-- VCMAXM (R171). -/
def execIVcmaxm (engine : Nat) (t : ElemType) (vs : BitVec 5) (s : State) : Host.Outcome State Fault Refusal :=
  .next (s.vecOp engine (t == .ch) (fun e => e.search (vMagKeys (e.vec vs) (e.vle t)) searchMag))
/-- VEXP (R171). -/
def execIVexp (engine : Nat) (t : ElemType) (gd vs : BitVec 5) (s : State) : Host.Outcome State Fault Refusal :=
  .next (s.vecOp engine (typesHWCH t) (fun e => e.setReg gd (BitVec.ofNat 64 (vExponent (e.vec vs) t (e.vle t)))))
/-- VSPLAT (R169). -/
def execIVsplat (engine : Nat) (t : ElemType) (vd gs : BitVec 5) (s : State) : Host.Outcome State Fault Refusal :=
  .next (s.vecOp engine (typesAll t) (fun e => e.vSplat t (e.vle t) vd (e.reg gs)))
/-- VINSR (R169), whatever VL holds. -/
def execIVinsr (engine : Nat) (t : ElemType) (vd gs k : BitVec 5) (s : State) : Host.Outcome State Fault Refusal :=
  .next (s.vecOp engine (decide (k.toNat < t.count)) (fun e =>
    e.setVec vd (vPut (e.vec vd) t.width k.toNat (e.reg gs).toNat)))
/-- VEXTR (R169), whatever VL holds. -/
def execIVextr (engine : Nat) (t : ElemType) (gd vs k : BitVec 5) (s : State) : Host.Outcome State Fault Refusal :=
  .next (s.vecOp engine (decide (k.toNat < t.count)) (fun e => e.setReg gd (vExtract (e.vec vs) t.width k.toNat)))
/-- VWIDL (R169). -/
def execIVwidl (engine : Nat) (t : ElemType) (vd vs : BitVec 5) (s : State) : Host.Outcome State Fault Refusal :=
  .next (s.vecOp engine (t == .w) (fun e => e.vWid (e.vle t) 0 vd vs))
/-- VWIDH (R169). -/
def execIVwidh (engine : Nat) (t : ElemType) (vd vs : BitVec 5) (s : State) : Host.Outcome State Fault Refusal :=
  .next (s.vecOp engine (t == .w) (fun e => e.vWid (e.vle t) 4 vd vs))
/-- SETVL (R164). -/
def execISetvl (engine : Nat) (t : ElemType) (gd gs : BitVec 5) (s : State) : Host.Outcome State Fault Refusal :=
  .next (s.vecOp engine (typesAll t) (fun e =>
    let n := min (e.reg gs).toNat t.count
    { e with vl := n }.setReg gd (BitVec.ofNat 64 n)))
/-- VNARW (R169). -/
def execIVnarw (engine : Nat) (t : ElemType) (vd vs vt count : BitVec 5) (s : State) : Host.Outcome State Fault Refusal :=
  .next (s.vecOp engine (t == .h) (fun e => e.vNarw e.rnd (e.vle t) count.toNat vd vs vt))

end Sys2Proof.Machine
end

