-- ==== Sys2Proof/Machine/ElrynVecMemory.lean ====
section
/-!
DEFINITION. The vector memory instructions (R172 to R177, R190).
-/

namespace Sys2Proof.Machine

/-- What a vector memory instruction does with its elements. -/
inductive VMode where
  | load | store | firstFault
deriving DecidableEq, Repr

/-- Load elements in ascending order into a register value; none where one is uncorrectable or poisoned (R176). -/
def State.loadElems (s : State) (g bytes : Nat) (addr : Nat → Nat) (x : Vec) : List Nat → Option Vec × State
  | [] => (some x, s)
  | i :: r =>
    match s.loadBytes g (addr i) bytes with
    | (none, t) => (none, t)
    | (some v, t) => t.loadElems g bytes addr (vPut x (8 * bytes) i v) r

/-- Store elements in ascending order; a partial store that leaves a word poisoned makes the job's code POISON (R136). -/
def State.storeElems (s : State) (g bytes : Nat) (addr : Nat → Nat) (x : Vec) : List Nat → State
  | [] => s
  | i :: r =>
    let h := s.storeBytes g (addr i) bytes (vField x (8 * bytes) i)
    (if h.1 then h.2.poisonJob g else h.2).storeElems g bytes addr x r

/-- The elements that an instruction acts on: from EINDEX where ERET resumes it, else from 0 (R174). -/
def Engine.elements (e : Engine) (t : ElemType) : List Nat :=
  let first := if e.resumed then e.eindex else 0
  (List.range (e.vle t)).filter (fun i => decide (first ≤ i))

/-- The element fault of R173: the first element that fails its check, with its cause. -/
def State.elementFault (s : State) (g bytes : Nat) (write : Bool) (addr : Nat → Nat) (l : List Nat) : Option (Nat × Nat) :=
  l.findSome? (fun i => (s.accessFault g (addr i) bytes bytes write).map (fun c => (i, c)))

/-- Load consecutive elements that lie one behind the other: one access for each 64-bit word that they touch (R167). -/
def State.loadRun (s : State) (g bytes : Nat) (addr : Nat → Nat) (x : Vec) : List Nat → Option Vec × State
  | [] => (some x, s)
  | i :: r =>
    match s.readBytes (addr i) (bytes * (r.length + 1)) g 0 with
    | (some d, t) =>
      (some ((i :: r).foldl (fun x j => vPut x (8 * bytes) j (fieldAt d ((j - i) * bytes) bytes)) x), t)
    | (none, t) => (none, t)

/-- Store consecutive elements that lie one behind the other: a word that they cover is written whole (R167, R173). -/
def State.storeRun (s : State) (g bytes : Nat) (addr : Nat → Nat) (x : Vec) : List Nat → State
  | [] => s
  | i :: r =>
    let h := s.writeBytes (addr i) g ((i :: r).flatMap (fun j => valBytes bytes (vField x (8 * bytes) j)))
    if h.1 then h.2.poisonJob g else h.2

/-- The elements that memory has accepted while the instruction waited in E4 (R177). -/
def Engine.accepted (e : Engine) : Nat :=
  match e.wait with
  | .again n => n
  | _ => 0

/-- The first of the elements that an island or a bank holds up (R176). -/
def State.elementStop (s : State) (g bytes : Nat) (addr : Nat → Nat) (l : List Nat) : Option (Nat × Nat × Option Nat) :=
  l.findSome? (fun i => (s.accessStops g (addr i) bytes).map (fun x => (i, x)))

/-- Store elements, as a run where they lie one behind the other. -/
def State.storeAll (s : State) (g bytes : Nat) (run : Bool) (addr : Nat → Nat) (x : Vec) (l : List Nat) : State :=
  if run then s.storeRun g bytes addr x l else s.storeElems g bytes addr x l

/-- Load elements, as a run where they lie one behind the other. -/
def State.loadAll (s : State) (g bytes : Nat) (run : Bool) (addr : Nat → Nat) (x : Vec) (l : List Nat) :
    Option Vec × State :=
  if run then s.loadRun g bytes addr x l else s.loadElems g bytes addr x l

/-- A vector memory instruction on elements at `addr`, which lie one behind the other where `run` holds, with the base
register it updates where it retires without an exception (R172). With VLe 0 it changes nothing (R163). Where an island
or a bank holds an element up, it waits in E4 (R176): a store has had the elements below accepted. -/
def State.vecMem (s : State) (g : Nat) (mode : VMode) (t : ElemType) (run : Bool) (vd : BitVec 5) (addr : Nat → Nat)
    (base : BitVec 5 × Word) : State :=
  let e := s.eng g
  let bytes := t.width / 8
  let write := mode == .store
  if e.vle t = 0 then s.retire g e else
  let l := e.elements t
  let fault := s.elementFault g bytes write addr l
  let ok := match fault with
    | some (j, _) => l.filter (fun i => decide (i < j))
    | none => l
  let due := if write then ok.filter (fun i => decide (e.accepted ≤ i)) else ok
  match s.elementStop g bytes addr due with
  | some (j, x) =>
    if write then
      (s.storeAll g bytes run addr (e.vec vd) (due.filter (fun i => decide (i < j)))).holdE4 g x j
    else s.holdE4 g x
  | none =>
  let r : Option Vec × State :=
    if write then (some (e.vec vd), s.storeAll g bytes run addr (e.vec vd) due)
    else s.loadAll g bytes run addr (e.vec vd) due
  match r with
  | (none, u) => u.poisonReset g
  | (some x, u) =>
    let f := (u.eng g).setVec vd x
    match fault with
    | none =>
      let f := { f with eindex := 0, vfault := if mode == VMode.firstFault then 0 else f.vfault }
      u.retire g (f.setReg base.1 base.2)
    | some (j, c) =>
      let f := { f with vfault := BitVec.ofNat 16 (2 ^ j) }
      if mode = VMode.firstFault ∧ l.head? ≠ some j then u.retire g { f with vl := j, eindex := 0 }
      else
        let u := u.setEng g { f with eindex := j }
        (if c = causeAccess then u.engDenied g (addr j) bytes write else u).takeException g c f.pc (addr j) true

/-- A contiguous access (R172): misalignment comes before an address outside its ring (R144). -/
def State.vecContiguous (s : State) (g : Nat) (mode : VMode) (t : ElemType) (vd gb : BitVec 5) (m : AddrMode) : State :=
  s.native g (fun e =>
    let bytes := t.width / 8
    match s.address g gb m with
    | .at ea base => s.vecMem g mode t true vd (fun i => (ea + i * bytes) % 2 ^ 48) (gb, base)
    | .raises c x =>
      if c = causeCircRange ∧ x % bytes ≠ 0 ∧ ¬ (e.elements t = []) then
        s.vecMem g mode t true vd (fun i => (x + i * bytes) % 2 ^ 48) (gb, e.reg gb)
      else if c = causeCircRange ∧ e.vle t = 0 then s.retire g e
      else s.raiseSync g c x)

/-- The address of a strided element. -/
def Engine.stride (e : Engine) (gb : BitVec 5) (k : BitVec 3) (i : Nat) : Nat :=
  (e.reg gb + BitVec.ofNat 64 i * e.off k).toNat % 2 ^ 48

/-- The address of a gathered element: its index is 16-bit field i of vi, or of the pair vi:vi+1 (R172). -/
def Engine.gatherAt (e : Engine) (gb vi : BitVec 5) (sc : BitVec 3) (i : Nat) : Nat :=
  let idx := vPart (e.vec (if i < 8 then vi else vi + 1)) 16 (i % 8)
  (e.reg gb + BitVec.ofInt 64 (idx * 2 ^ sc.toNat)).toNat % 2 ^ 48

/-- A strided access. -/
def State.vecStrided (s : State) (g : Nat) (mode : VMode) (t : ElemType) (vd gb : BitVec 5) (k : BitVec 3) : State :=
  s.native g (fun e => s.vecMem g mode t false vd (e.stride gb k) (gb, e.reg gb))

/-- A gather or scatter: an odd vi raises ILLEGAL for B elements (R172). -/
def State.vecGather (s : State) (g : Nat) (mode : VMode) (t : ElemType) (vd gb vi : BitVec 5) (sc : BitVec 3) : State :=
  s.native g (fun e =>
    if t = .b ∧ vi.toNat % 2 = 1 then s.illegal g else s.vecMem g mode t false vd (e.gatherAt gb vi sc) (gb, e.reg gb))

/-- VLD (R172). -/
def execIVld (engine : Nat) (t : ElemType) (vd gb : BitVec 5) (mode : AddrMode) (s : State) :
    Host.Outcome State Fault Refusal :=
  .next (s.vecContiguous engine .load t vd gb mode)
/-- VST (R172). -/
def execIVst (engine : Nat) (t : ElemType) (vd gb : BitVec 5) (mode : AddrMode) (s : State) :
    Host.Outcome State Fault Refusal :=
  .next (s.vecContiguous engine .store t vd gb mode)
/-- VLDFF (R175), in offset mode only. -/
def execIVldff (engine : Nat) (t : ElemType) (vd gb : BitVec 5) (mode : AddrMode) (s : State) :
    Host.Outcome State Fault Refusal :=
  .next (match mode with
    | .offset _ => s.vecContiguous engine .firstFault t vd gb mode
    | _ => s.native engine (fun _ => s.illegal engine))
/-- VLDS (R172). -/
def execIVlds (engine : Nat) (t : ElemType) (vd gb : BitVec 5) (k : BitVec 3) (s : State) :
    Host.Outcome State Fault Refusal :=
  .next (s.vecStrided engine .load t vd gb k)
/-- VSTS (R172). -/
def execIVsts (engine : Nat) (t : ElemType) (vd gb : BitVec 5) (k : BitVec 3) (s : State) :
    Host.Outcome State Fault Refusal :=
  .next (s.vecStrided engine .store t vd gb k)
/-- VGATHER (R172). -/
def execIVgather (engine : Nat) (t : ElemType) (vd gb vi : BitVec 5) (sc : BitVec 3) (s : State) :
    Host.Outcome State Fault Refusal :=
  .next (s.vecGather engine .load t vd gb vi sc)
/-- VSCATTER (R172, R173). -/
def execIVscatter (engine : Nat) (t : ElemType) (vd gb vi : BitVec 5) (sc : BitVec 3) (s : State) :
    Host.Outcome State Fault Refusal :=
  .next (s.vecGather engine .store t vd gb vi sc)
/-- VGATHERFF (R175). -/
def execIVgatherff (engine : Nat) (t : ElemType) (vd gb vi : BitVec 5) (sc : BitVec 3) (s : State) :
    Host.Outcome State Fault Refusal :=
  .next (s.vecGather engine .firstFault t vd gb vi sc)

end Sys2Proof.Machine
end

