-- ==== Sys2Proof/Machine/Encoding.lean ====
section
/-!
DEFINITION. The Elryn instruction words (R178 to R193): the instruction that a 32-bit word encodes, none where the word is
reserved or malformed. Rules that look at the engine's state (R126, R138, R150, R183) are the instructions' own.
-/

namespace Sys2Proof.Machine

/-! ## Fields (R179, R180) -/

/-- The register fields at bits 25:21, 20:16 and 15:11. -/
def fieldD (w : Half) : BitVec 5 := w.extractLsb' 21 5
def fieldS (w : Half) : BitVec 5 := w.extractLsb' 16 5
def fieldT (w : Half) : BitVec 5 := w.extractLsb' 11 5

/-- The immediate at bits 15:0. -/
def fieldI (w : Half) : BitVec 16 := w.extractLsb' 0 16

/-- A Gusset register number; one of 16 or more is reserved. -/
def quadReg (r : BitVec 5) : Option (BitVec 4) := if r.toNat < 16 then some (r.setWidth 4) else none

/-- The element type that a T field names. -/
def typeOf : Nat → Option ElemType
  | 0 => some .b | 1 => some .h | 2 => some .w | 3 => some .d | 4 => some .ch | 5 => some .cw
  | _ => none

/-- The addressing mode of MODE and imm12, none where a bit that must be zero is not. -/
def modeOf (w : Half) : Option AddrMode :=
  let i : BitVec 12 := w.extractLsb' 0 12
  match (w.extractLsb' 12 2).toNat with
  | 0 => some (.offset i)
  | 1 => some (.postImm i)
  | 2 => if i.extractLsb' 3 9 = 0 then some (.postReg (i.extractLsb' 0 3)) else none
  | _ => if i.extractLsb' 5 7 = 0 then some (.circular (i.extractLsb' 3 2) (i.extractLsb' 0 3)) else none

/-- The instruction, where a condition on its fields holds. -/
def onlyIf (b : Bool) (i : Instr) : Option Instr := if b then some i else none

/-! ## Groups -/

/-- The system group (R183). -/
def systemOf (g : Nat) (w : Half) : Option Instr :=
  let d := fieldD w
  let x := fieldS w
  let bare := d == 0 && x == 0 && fieldT w == 0
  match (w.extractLsb' 0 11).toNat with
  | 0x000 => onlyIf bare (.iNop g)
  | 0x001 => onlyIf bare (.iFence g)
  | 0x002 => onlyIf bare (.iEret g)
  | 0x003 => onlyIf bare (.iBreak g)
  | 0x004 => onlyIf bare (.iSignal g)
  | 0x005 => onlyIf bare (.iWaitjob g)
  | 0x006 => onlyIf (d == 0 && fieldT w == 0) (.iExit g x)
  | 0x010 => onlyIf (fieldT w == 0) (.iMfs g d x)
  | 0x011 => onlyIf (fieldT w == 0) (.iMts g d x)
  | _ => none

/-- The scalar ALU group (R184). -/
def aluOf (g : Nat) (w : Half) : Option Instr :=
  let d := fieldD w
  let x := fieldS w
  let y := fieldT w
  match (w.extractLsb' 0 11).toNat with
  | 0x000 => some (.iAdd g d x y) | 0x001 => some (.iSub g d x y) | 0x002 => some (.iAnd g d x y)
  | 0x003 => some (.iOr g d x y) | 0x004 => some (.iXor g d x y) | 0x005 => some (.iSll g d x y)
  | 0x006 => some (.iSrl g d x y) | 0x007 => some (.iSra g d x y) | 0x008 => some (.iSlt g d x y)
  | 0x009 => some (.iSltu g d x y) | 0x00A => some (.iMin g d x y) | 0x00B => some (.iMax g d x y)
  | 0x00C => some (.iMinu g d x y) | 0x00D => some (.iMaxu g d x y) | 0x010 => some (.iMul g d x y)
  | 0x011 => some (.iMulh g d x y) | 0x012 => some (.iMulhu g d x y)
  | _ => none

/-- Shifts by an immediate, OP 0x08 (R185). -/
def shiftOf (g : Nat) (w : Half) : Option Instr :=
  let n : BitVec 6 := w.extractLsb' 0 6
  if (w.extractLsb' 8 8) ≠ 0 then none else
  match (w.extractLsb' 6 2).toNat with
  | 0 => some (.iSlli g (fieldD w) (fieldS w) n)
  | 1 => some (.iSrli g (fieldD w) (fieldS w) n)
  | 2 => some (.iSrai g (fieldD w) (fieldS w) n)
  | _ => none

/-- Immediate loads, OP 0x09 (R185). -/
def loadImmOf (g : Nat) (w : Half) : Option Instr :=
  let hw : BitVec 2 := w.extractLsb' 16 2
  if w.extractLsb' 18 2 ≠ 0 then none
  else if w.getLsbD 20 then some (.iLik g (fieldD w) (fieldI w) hw) else some (.iLis g (fieldD w) (fieldI w) hw)

/-- Register jumps, OP 0x18 (R186). -/
def jumpOf (g : Nat) (w : Half) : Option Instr :=
  match (w.extractLsb' 0 11).toNat with
  | 0 => onlyIf (fieldD w == 0 && fieldT w == 0) (.iJr g (fieldS w))
  | 1 => onlyIf (fieldT w == 0) (.iJalr g (fieldD w) (fieldS w))
  | _ => none

/-- The multiply-accumulate group, OP 0x28 (R188). -/
def macOf (g : Nat) (w : Half) : Option Instr :=
  let d := fieldD w
  let x := fieldS w
  let y := fieldT w
  match (w.extractLsb' 0 11).toNat with
  | 0x00 => onlyIf (d == 0) (.iMacr g x y)
  | 0x01 => onlyIf (d == 0) (.iMsur g x y)
  | 0x02 => onlyIf (decide (d.toNat ≤ 1)) (.iCmac g (d == 1) x y)
  | 0x03 => onlyIf (decide (d.toNat ≤ 1)) (.iCmacj g (d == 1) x y)
  | 0x04 => onlyIf (decide (d.toNat < 16) && x == 0 && y == 0) (.iAccz g (d.setWidth 4))
  | 0x10 => onlyIf (decide (y.toNat < 8)) (.iAccx g d (y.setWidth 2) x (y.getLsbD 2))
  | 0x11 => onlyIf (decide (y.toNat < 2)) (.iCaccx g d (y == 1) x)
  | 0x12 => onlyIf (x == 0 && decide (y.toNat < 4)) (.iAccr g d (y.setWidth 2))
  | 0x13 => onlyIf (d == 0 && decide (y.toNat < 4)) (.iAccw g (y.setWidth 2) x)
  | _ => none

/-- The search group, OP 0x29 (R188). -/
def searchOf (g : Nat) (w : Half) : Option Instr :=
  let bare := fieldD w == 0 && fieldT w == 0
  match (w.extractLsb' 0 11).toNat with
  | 0 => onlyIf bare (.iSrchi g (fieldS w))
  | 1 => onlyIf bare (.iSmax g (fieldS w))
  | 2 => onlyIf bare (.iSmin g (fieldS w))
  | 3 => onlyIf bare (.iCmaxm g (fieldS w))
  | _ => none

/-- The vector element group, OP 0x38 (R169, R189). -/
def elementOf (g : Nat) (t : ElemType) (w : Half) : Option Instr :=
  let d := fieldD w
  let x := fieldS w
  let y := fieldT w
  match (w.extractLsb' 0 8).toNat with
  | 0x00 => some (.iVadd g t d x y)
  | 0x01 => some (.iVsub g t d x y)
  | 0x02 => onlyIf (typesBHWCH t) (.iVadds g t d x y)
  | 0x03 => onlyIf (typesBHWCH t) (.iVsubs g t d x y)
  | 0x04 => onlyIf (typesBHWCH t && y == 0) (.iVnegs g t d x)
  | 0x05 => onlyIf (typesBHW t && y == 0) (.iVabss g t d x)
  | 0x06 => onlyIf (t == .ch && y == 0) (.iVconjs g t d x)
  | 0x07 => onlyIf (typesBHW t) (.iVmaxe g t d x y)
  | 0x08 => onlyIf (typesBHW t) (.iVmine g t d x y)
  | 0x09 => onlyIf (typesBHWD t) (.iVand g t d x y)
  | 0x0A => onlyIf (typesBHWD t) (.iVor g t d x y)
  | 0x0B => onlyIf (typesBHWD t) (.iVxor g t d x y)
  | 0x0C => onlyIf (typesHWCH t && decide (y.toNat < t.partWidth)) (.iVshrr g t d x y)
  | 0x0D => onlyIf (typesHWCH t && decide (y.toNat < t.partWidth)) (.iVshls g t d x y)
  | 0x0E => onlyIf (t == .b) (.iVperm g t d x y)
  | _ => none

/-- The vector multiply, accumulate and search group, OP 0x39 (R189). -/
def multiplyOf (g : Nat) (t : ElemType) (w : Half) : Option Instr :=
  let d := fieldD w
  let x := fieldS w
  let y := fieldT w
  match (w.extractLsb' 0 8).toNat with
  | 0x00 => onlyIf (t == .h) (.iVmulq g t d x y)
  | 0x01 => onlyIf (t == .ch) (.iVcmulq g t d x y)
  | 0x02 => onlyIf (t == .ch) (.iVcmuljq g t d x y)
  | 0x03 => onlyIf (t == .h && d == 0) (.iVmacr g t x y)
  | 0x04 => onlyIf (t == .ch && decide (d.toNat ≤ 1)) (.iVcmac g t (d == 1) x y)
  | 0x05 => onlyIf (t == .ch && decide (d.toNat ≤ 1)) (.iVcmacj g t (d == 1) x y)
  | 0x06 => onlyIf (t == .h && d == 0 && y == 0) (.iVsmax g t x)
  | 0x07 => onlyIf (t == .h && d == 0 && y == 0) (.iVsmin g t x)
  | 0x08 => onlyIf (t == .ch && d == 0 && y == 0) (.iVcmaxm g t x)
  | 0x09 => onlyIf (typesHWCH t && y == 0) (.iVexp g t d x)
  | _ => none

/-- The vector move group, OP 0x3A (R189). -/
def moveOf (g : Nat) (t : ElemType) (w : Half) : Option Instr :=
  let d := fieldD w
  let x := fieldS w
  let y := fieldT w
  let fn := (w.extractLsb' 0 8).toNat
  match fn with
  | 0x00 => onlyIf (y == 0) (.iVsplat g t d x)
  | 0x01 => onlyIf (decide (y.toNat < t.count)) (.iVinsr g t d x y)
  | 0x02 => onlyIf (decide (y.toNat < t.count)) (.iVextr g t d x y)
  | 0x03 => onlyIf (t == .w && y == 0) (.iVwidl g t d x)
  | 0x04 => onlyIf (t == .w && y == 0) (.iVwidh g t d x)
  | 0x05 => onlyIf (y == 0) (.iSetvl g t d x)
  | _ => onlyIf (decide (0x40 ≤ fn) && decide (fn < 0x60) && t == .h) (.iVnarw g t d x y (BitVec.ofNat 5 (fn - 0x40)))

/-- The strided, gather and scatter group, OP 0x36 (R190); an odd vi with B elements is illegal (R172). -/
def stridedOf (g : Nat) (t : ElemType) (w : Half) : Option Instr :=
  let d := fieldD w
  let b := fieldS w
  let k : BitVec 3 := w.extractLsb' 11 3
  let sc : BitVec 3 := w.extractLsb' 5 3
  let plain := w.extractLsb' 14 2 == (0 : BitVec 2) && sc == 0
  let even := t != .b || !(fieldT w).getLsbD 0
  match (w.extractLsb' 0 5).toNat with
  | 0x00 => onlyIf plain (.iVlds g t d b k)
  | 0x01 => onlyIf plain (.iVsts g t d b k)
  | 0x02 => onlyIf even (.iVgather g t d b (fieldT w) sc)
  | 0x03 => onlyIf even (.iVscatter g t d b (fieldT w) sc)
  | 0x04 => onlyIf even (.iVgatherff g t d b (fieldT w) sc)
  | _ => none

/-- The Gusset group, OP 0x3C (R191). -/
def gussetInstrOf (g : Nat) (w : Half) : Option Instr :=
  let d := fieldD w
  let x := fieldS w
  let y := fieldT w
  let three := fun (f : BitVec 4 → BitVec 4 → BitVec 4 → Instr) =>
    match quadReg d, quadReg x, quadReg y with
    | some a, some b, some c => some (f a b c)
    | _, _, _ => none
  match (w.extractLsb' 0 11).toNat with
  | 0x000 => if y.toNat < 4 then (quadReg d).map (fun q => .iGmovt g q x (y.setWidth 2)) else none
  | 0x001 => if y.toNat < 4 then (quadReg x).map (fun q => .iGmovf g d q (y.setWidth 2)) else none
  | 0x010 => three (.iGmul g)
  | 0x011 => three (.iGmulh g)
  | 0x012 => three (.iGmulbh g)
  | 0x013 => three (.iGmac g)
  | 0x014 => three (.iGmsu g)
  | 0x018 => three (.iGadd g)
  | 0x019 => three (.iGsub g)
  | 0x01A => if y = 0 then three (fun a b _ => .iGherm g a b) else none
  | 0x01B => if x = 0 ∧ y = 0 then three (fun a _ _ => .iGzero g a) else none
  | 0x01C => three (.iGshr g)
  | 0x020 => onlyIf (x == 0 && y == 0) (.iGstat g d)
  | _ => none

/-- The memory and queue groups, format M (R187, R190). -/
def memoryOf (g : Nat) (op : Nat) (m : AddrMode) (w : Half) : Option Instr :=
  let d := fieldD w
  let b := fieldS w
  let sz : BitVec 2 := w.extractLsb' 14 2
  let t := typeOf (op % 2 * 4 + sz.toNat)
  match op with
  | 0x20 => some (.iLd g sz d b m)
  | 0x21 => onlyIf (sz != 3) (.iLdu g sz d b m)
  | 0x22 => some (.iSt g sz d b m)
  | 0x23 => onlyIf (sz == 0) (.iPush g d b m)
  | 0x24 => onlyIf (sz == 0) (.iPop g d b m)
  | 0x25 => onlyIf (sz == 0) (.iPopw g d b m)
  | 0x30 => t.map (fun t => .iVld g t d b m)
  | 0x31 => t.map (fun t => .iVld g t d b m)
  | 0x32 => t.map (fun t => .iVst g t d b m)
  | 0x33 => t.map (fun t => .iVst g t d b m)
  | _ => match m with
    | .offset _ => t.map (fun t => .iVldff g t d b m)
    | _ => none

/-- The Elryn instruction of engine g that a word encodes (R181). -/
def elrynOf (g : Nat) (w : Half) : Option Instr :=
  let op := (w.extractLsb' 26 6).toNat
  let d := fieldD w
  let x := fieldS w
  let i := fieldI w
  let typed := fun (f : Nat → ElemType → Half → Option Instr) => (typeOf (w.extractLsb' 8 3).toNat).bind (fun t => f g t w)
  match op with
  | 0x00 => systemOf g w
  | 0x01 => aluOf g w
  | 0x02 => some (.iAddi g d x i)
  | 0x03 => some (.iAndi g d x i)
  | 0x04 => some (.iOri g d x i)
  | 0x05 => some (.iXori g d x i)
  | 0x06 => some (.iSlti g d x i)
  | 0x07 => some (.iSltiu g d x i)
  | 0x08 => shiftOf g w
  | 0x09 => loadImmOf g w
  | 0x10 => some (.iBeq g d x i)
  | 0x11 => some (.iBne g d x i)
  | 0x12 => some (.iBlt g d x i)
  | 0x13 => some (.iBge g d x i)
  | 0x14 => some (.iBltu g d x i)
  | 0x15 => some (.iBgeu g d x i)
  | 0x16 => some (.iJ g (w.extractLsb' 0 26))
  | 0x17 => some (.iJal g (w.extractLsb' 0 26))
  | 0x18 => jumpOf g w
  | 0x28 => macOf g w
  | 0x29 => searchOf g w
  | 0x36 => typed stridedOf
  | 0x38 => typed elementOf
  | 0x39 => typed multiplyOf
  | 0x3A => typed moveOf
  | 0x3C => gussetInstrOf g w
  | op =>
    if (0x20 ≤ op ∧ op ≤ 0x25) ∨ (0x30 ≤ op ∧ op ≤ 0x35) then (modeOf w).bind (fun m => memoryOf g op m w) else none

end Sys2Proof.Machine
end

