-- ==== Sys2Proof/Machine/EngineCommands.lean ====
section
/-!
DEFINITION. The meanings of the engine control register's actions (R155), the job-late signal (R151), event delivery (R154) and
the execution of a word that is no instruction (R136, R193, R194).
-/

namespace Sys2Proof.Machine

open Reg Ob

/-- ENG_SRESET: an ENG_CTRL write with SRESET 1 (R155). -/
def execEngSreset (requester engine : Nat) (control : Half) (s : State) : Host.Outcome State Fault Refusal :=
  .next (s.atIsland requester (engine / 17) (fun s => s.writeEngCtrl requester engine (control ||| 0x100).toNat))
/-- ENG_GO: an ENG_CTRL write with GO 1 (R155). -/
def execEngGo (requester engine : Nat) (control : Half) (s : State) : Host.Outcome State Fault Refusal :=
  .next (s.atIsland requester (engine / 17) (fun s => s.writeEngCtrl requester engine (control ||| 1).toNat))
/-- ENG_OPEN: an ENG_CTRL write with OPEN 1 (R155). -/
def execEngOpen (requester engine : Nat) (control : Half) (s : State) : Host.Outcome State Fault Refusal :=
  .next (s.atIsland requester (engine / 17) (fun s => s.writeEngCtrl requester engine (control ||| 2).toNat))
/-- ENG_HALT_REQ: an ENG_CTRL write with HALT_REQ 1 (R155, R153). -/
def execEngHaltReq (requester engine : Nat) (control : Half) (s : State) : Host.Outcome State Fault Refusal :=
  .next (s.atIsland requester (engine / 17) (fun s => s.writeEngCtrl requester engine (control ||| 4).toNat))

/-- ENGINE_JOB_LATE_SIGNAL: the engine runs a job that the Shuttle has abandoned (R151). -/
def execEngineJobLateSignal (engine : Nat) (s : State) : Host.Outcome State Fault Refusal :=
  .next (match (s.eng engine).job with
    | some id => if s.sh.jobs.any (fun j => j.id == id && j.abandoned) then s.jobLate engine else s
    | none => s)

/-- LATE_JOB_STOP: 1,024 engine cycles have passed since the signal without EXIT (R151). At 1.8 GHz, the fastest clock
(R34), they last more than 69 ticks. -/
def execLateJobStop (engine : Nat) (s : State) : Host.Outcome State Fault Refusal :=
  .next (match (s.eng engine).lateTick with
    | some t => if t + 69 ≤ s.tb.count then s.stopLate engine else s
    | none => s)

/-- ENGINE_EVENT_DELIVER: the oldest event on its way to an engine enters its inbox (R154). -/
def execEngineEventDeliver (s : State) : Host.Outcome State Fault Refusal :=
  .next (match s.engineEvents with
    | [] => s
    | (g, ev) :: r =>
      let s := { s with engineEvents := r }
      if s.siteUp g then s.enterInbox g ev else s)

/-! ## Words that are no instruction (R136, R193, R194) -/

/-- A well-formed instruction is illegal on engine g as it stands: a special register of R126, circular mode without LEAD
(R138), EXIT outside a job (R150), or WAITJOB outside FREE (R183). -/
def State.illegalHere (s : State) (g : Nat) : Instr → Bool
  | .iMfs _ _ sr => (s.readSpecial g sr).isNone
  | .iMts _ sr _ => ((s.eng g).writeSpecial g sr 0).isNone
  | .iExit _ _ => !((s.eng g).state == .running && (s.eng g).job.isSome)
  | .iWaitjob _ => (s.eng g).state != .free
  | .iLd _ _ _ _ m => needsLead g m
  | .iLdu _ _ _ _ m => needsLead g m
  | .iSt _ _ _ _ m => needsLead g m
  | .iPush _ _ _ m => needsLead g m
  | .iPop _ _ _ m => needsLead g m
  | .iPopw _ _ _ m => needsLead g m
  | .iVld _ _ _ _ m => needsLead g m
  | .iVst _ _ _ _ m => needsLead g m
  | _ => false
where needsLead (g : Nat) : AddrMode → Bool
  | .circular _ _ => !isLead g
  | _ => false

/-- ILLEGAL_ENCODING: the engine executes a word. One that was uncorrectable or poisoned as it was fetched causes an
engine reset (R136); one that is no instruction of the current decode mode, or one that the engine's state makes illegal,
raises ILLEGAL (R193, R194). Under MB-DSP the words without an operation are the MB-416's own (R195), and the command says
that this is one. A legal word has a command of its own. -/
def execIllegalEncoding (engine : Nat) (word : Option Half) (s : State) : Host.Outcome State Fault Refusal :=
  .next (s.execute engine (fun _ =>
    match word with
    | none => s.poisonReset engine
    | some w =>
      if s.mbDsp engine then s.illegal engine
      else match elrynOf engine w with
        | none => s.illegal engine
        | some i => if s.illegalHere engine i then s.illegal engine else s))

end Sys2Proof.Machine
end

