-- ==== Sys2Proof/Machine/HostCommands.lean ====
section
/-!
DEFINITION. The meanings of the host link, completion, ring and event commands.
-/

namespace Sys2Proof.Machine

open Reg Ob

/-- The link retrains (R490): for replays, only above HOST.RETRAIN_REPLAYS in the current second. -/
def State.retrainDue (s : State) (cause : Nat) : Bool :=
  cause != 0 || decide (s.ob oHOST_RETRAIN_REPLAYS < s.host.replayCount)

/-- Replays counted in the current second (R490). -/
def State.countReplays (s : State) (n : Nat) : State :=
  let sec := s.tb.count / ticksPerSecond
  let s := s.incf HP_REPLAYS_COUNT 0 n
  { s with host := { s.host with
      replaySecond := sec, replayCount := if sec = s.host.replaySecond then s.host.replayCount + n else n } }

/-- HOST_LINK_RETRAIN (R489, R490): `cause` is 0 replays, of which `value` are counted, 1 a write of `value` to HP_CTRL
with RETRAIN by `requester`, 2 the partner's request. What the training finds: lanes repaired and width of M0 and M1. A
retraining that a write of HP_CTRL has begun ends here too, and what has waited goes. -/
def execHostLinkRetrain (cause requester value repaired0 width0 repaired1 width1 : Nat) (s : State) :
    Host.Outcome State Fault Refusal :=
  .next (
    let s := if cause = 0 then s.countReplays value else s
    let allowed := cause != 1 || isThimble requester || isPf0 requester
    let s := if cause = 1 ∧ allowed = true ∧ 1000 ≤ value ∧ value ≤ 1000000 then s.sf HP_CTRL_CPL_TIMEOUT_US 0 value else s
    if s.bit HP_LINK_STATE_UP && (s.bit HP_LINK_STATE_RETRAINING || (allowed && s.retrainDue cause)) then
      ((s.trainLink repaired0 width0 repaired1 width1).sf HP_LINK_STATE_RETRAINING 0 0).releaseHeldRequests
    else s)

/-- HOST_LINK_DOWN (R507): traffic waits from now on. -/
def execHostLinkDown (s : State) : Host.Outcome State Fault Refusal :=
  .next (
    if s.bit HP_LINK_STATE_UP then
      let s := ((s.sf HP_LINK_STATE_UP 0 0).sf HP_LINK_STATE_RETRAINING 0 0).hostLinkEvent 0x03
      { s with host := { s.host with downSince := s.tb.count } }
    else s)

/-- The link has been down for CPL_TIMEOUT_US, and is (R507). -/
def State.linkTimedOut (s : State) : Bool :=
  !s.bit HP_LINK_STATE_UP && decide (s.rf HP_CTRL_CPL_TIMEOUT_US * 12288 ≤ (s.tb.count - s.host.downSince) * 100)

/-- HOST_LINK_DOWN_TIMEOUT (R507). -/
def execHostLinkDownTimeout (s : State) : Host.Outcome State Fault Refusal :=
  .next (
    if s.linkTimedOut then
      let l := s.host.held
      { s with host := { s.host with held := [] } }.dropHeld l
    else s)

/-- HOST_LINK_UP (R488, R489): training ends at a rate of at most HOST.MAX_RATE, and held traffic goes. -/
def execHostLinkUp (rate repaired0 width0 repaired1 width1 : Nat) (s : State) : Host.Outcome State Fault Refusal :=
  .next (
    let s := s.trainLink repaired0 width0 repaired1 width1
    let s := (s.sf HP_LINK_STATE_RATE 0 (min rate (s.ob oHOST_MAX_RATE))).sf HP_LINK_STATE_UP 0 1
    s.releaseHeldRequests)

/-- HOST_COMPLETION_RECEIVE (R506): `status` is 0 success, 1 poison, 2 Unsupported Request, 3 Completer Abort. A failed
one is delivered as the poison mark and counted; one for a ring stops it (R501). -/
def execHostCompletionReceive (unit addr status : Nat) (ring : Option Nat) (data : List Word) (s : State) :
    Host.Outcome State Fault Refusal :=
  .next (
    let s := match status with
      | 0 => s
      | 1 => s.incf HP_RX_POISONED_COUNT
      | _ => s.incf HP_RX_UR_COUNT
    match ring with
    | some i => if status = 0 then s else s.stopRing i codePoison
    | none => s.send (.readData unit addr (data.map (fun w => if status = 0 then some w else none))))

/-- HOST_COMPLETION_TIMEOUT (R506). -/
def execHostCompletionTimeout (unit addr words : Nat) (ring : Option Nat) (s : State) :
    Host.Outcome State Fault Refusal :=
  .next (
    let s := s.incf HP_CPL_TIMEOUTS_COUNT
    match ring with
    | some i => s.stopRing i codePoison
    | none => s.send (.readData unit addr (List.replicate words none)))

/-- HOST_RING_ENABLE: an HR_CFG write with ENABLE 1 (R498). -/
def execHostRingEnable (requester function ring : Nat) (config : Half) (s : State) : Host.Outcome State Fault Refusal :=
  .next (s.atIsland requester 76 (fun s => s.writeRingCfg requester (ringIx function ring) (config ||| 0x80000000).toNat))

/-- HOST_RING_DISABLE: an HR_CFG write with ENABLE 0 (R501). -/
def execHostRingDisable (requester function ring : Nat) (config : Half) (s : State) : Host.Outcome State Fault Refusal :=
  .next (s.atIsland requester 76 (fun s => s.writeRingCfg requester (ringIx function ring) (config &&& 0x7FFFFFFF).toNat))

/-- HOST_RING_DOORBELL (R498, R501). -/
def execHostRingDoorbell (requester function ring index : Nat) (s : State) : Host.Outcome State Fault Refusal :=
  .next (s.atIsland requester 76 (fun s => s.ringDoorbell requester (ringIx function ring) index))

/-- HOST_RING_ENTRY_PUSH (R499): the eight words of the next entry have been read. -/
def execHostRingEntryPush (function ring : Nat) (entry : List Word) (s : State) : Host.Outcome State Fault Refusal :=
  .next (s.ringPush (ringIx function ring) entry)

/-- HOST_RING_ENTRY_WRITE (R500). -/
def execHostRingEntryWrite (function ring : Nat) (s : State) : Host.Outcome State Fault Refusal :=
  .next (s.ringWrite (ringIx function ring))

/-- EVENT_RAISE (R503). -/
def execEventRaise (event info : Nat) (s : State) : Host.Outcome State Fault Refusal :=
  .next (if event < 8192 then s.raise event info else s)

end Sys2Proof.Machine
end

