-- ==== Sys2Proof/Machine/MemCommands.lean ====
section
/-!
DEFINITION. The meanings of the commands on memories: reads and writes by a unit (R390, R391, R397), scrubber reads (R392,
R393), and the Darning log's watch and row repair (R394 to R396).
-/

namespace Sys2Proof.Machine

open Reg Ob

/-- The partition on whose behalf unit u makes an access (R397): none for a source that is not checked. -/
def State.actsFor (s : State) (u : Nat) : Option Nat :=
  if u < 0x440 then s.panelOwner (u / 17)
  else if u < 0x540 then s.panelOwner ((u - 0x440) / 4)
  else if 0x600 ≤ u ∧ u < 0x740 then (s.runningOn u).map Job.part
  else if 0x740 ≤ u ∧ u < 0x744 then s.hemOwner (u - 0x740)
  else if 0xA00 ≤ u ∧ u < 0xA08 then s.patchOwner (u - 0xA00)
  else match functionOf u with
    | some f => s.functionPartition f
    | none => none

/-- The access of unit u passes the partition windows (R397). Host functions of no partition, and units that no partition
owns, reach nothing; Thimble firmware and the units that act for many partitions are checked elsewhere, and a peer's access
by the windows that it has here. -/
def State.passes (s : State) (u a n : Nat) (write : Bool) : Bool :=
  if 0x900 ≤ u ∧ u < 0x908 then rightsGrant (Tab.get SeamRights.none s.seam.inbound (u - 0x900)) a n write
      && !s.codeLocked a n write
  else match s.actsFor u with
  | some p => s.mayAccess p a n write
  | none => decide (0x744 ≤ u) && (functionOf u).isNone && (isThimble u || !s.codeLocked a n write)

/-- An access that does not pass is accounted for: a peer's in SEAM_DENIED (R373), any other in MP_DENIED (R397). -/
def State.refuseAccess (s : State) (u a : Nat) (write : Bool) : State :=
  (if 0x900 ≤ u ∧ u < 0x908 then (s.incf SEAM_DENIED_COUNT).raise 0x0913 (u - 0x900)
    else s.countDenial ((s.actsFor u).getD 0) u a write).send (.refused u a codeDenied)

/-- Unit u has consumed an uncorrectable or poisoned word (R391). -/
def State.consumedBad (s : State) (u : Nat) : State :=
  if u < 0x440 then s.poisonReset u
  else if u < 0x540 then s.resetGusset (u - 0x440) 0x01
  else if 0x600 ≤ u ∧ u < 0x744 then
    let s := match s.runningOn u with
      | some j => if j.report = none then s.reportJob j.id ⟨codePoison, 0, 0, false⟩ else s
      | none => s
    if u < 0x740 then s.resetAcc u 0x01 else s.resetHem (u - 0x740)
  else s

/-- A unit consumes what it reads, rather than passing it on (MP_UE_SRC.KIND, R400). -/
def consumes (u : Nat) : Bool := decide (u < 0x540) || (decide (0x600 ≤ u) && decide (u < 0x744))

/-- An access reaches an address that maps nothing (R31): an engine has its access fault; another unit is answered as
unsupported. Nothing else changes. -/
def State.decodeError (s : State) (unit a : Nat) : State :=
  if unit < 0x440 then s.raiseSync unit causeAccess a else s.send (.unsupported unit a)

/-- Some of the words that `n` bytes from an address touch map nothing, or are control registers, which are accessed
otherwise. -/
def State.unmapped (s : State) (a n : Nat) : Bool :=
  (wordsOf a n).any (fun w => match s.place w with
    | .nothing => true
    | .control _ => true
    | _ => false)

/-- A unit reads `words` words from an address. The upsets are what the stored words have suffered since they were last accessed. -/
def State.memoryRead (s : State) (unit address words : Nat) (upsets : List (BitVec 80)) : State :=
  let a := address / 8 * 8
  if !s.passes unit a (8 * words) false then s.refuseAccess unit address false
  else if s.unmapped a (8 * words) then s.decodeError unit address
  else match s.accessStops unit a (8 * words) with
    | some x => s.stallOn x
    | none =>
      let t := s.upsetWords a upsets
      let r := if consumes unit then t.readUntilBad a unit words else t.readWords a unit 1 words
      let s := r.2.send (.readData unit address r.1)
      if consumes unit && r.1.any Option.isNone then s.consumedBad unit else s

/-- The bytes of a run with byte enables that fall into the word at `wa`. -/
def enabledInWord (a : Nat) (data : List (Option Byte)) (wa : Nat) : List (Option Byte) :=
  (List.range 8).map (fun i => if a ≤ wa + i then data.getD (wa + i - a) none else none)

/-- Write words as they arrive, each with its byte enables, or as the poison mark; answers whether a word became POISON
(R390). -/
def State.writeEnabled (s : State) (unit : Nat) : List (Nat × Option (List (Option Byte))) → Bool × State
  | [] => (false, s)
  | (wa, w) :: r =>
    let h : Bool × State := match w with
      | some new => if new.all Option.isNone then (false, s) else s.mergeWordAt wa unit new
      | none => (true, s.writeWordAt wa unit none)
    let t := h.2.writeEnabled unit r
    (h.1 || t.1, t.2)

/-- A unit writes words that start at an address, `n` bytes of which it names; upsets as for a read. -/
def State.memoryWrite (s : State) (unit address n : Nat) (words : List (Nat × Option (List (Option Byte))))
    (upsets : List (BitVec 80)) : State :=
  if !s.passes unit address n true then s.refuseAccess unit address true
  else if s.unmapped address n then s.decodeError unit address
  else match s.accessStops unit address n with
    | some x => s.stallOn x
    | none =>
      let r := (s.upsetWords (address / 8 * 8) upsets).writeEnabled unit words
      let s := if r.1 && decide (unit < 0x440) then r.2.poisonJob unit else r.2
      s.send (.writeDone unit address (if r.1 then codePoison else codeDone))

/-- The words of a run of bytes with their enables. -/
def enabledWords (address : Nat) (data : List (Option Byte)) : List (Nat × Option (List (Option Byte))) :=
  (wordsOf address data.length).map (fun wa => (wa, some (enabledInWord address data wa)))

/-- The island that an access to an address goes to. -/
def State.accessIsland (s : State) (a : Nat) : Nat :=
  match s.place a with
  | .cell _ m => memIsland m
  | .quilt _ _ => 78
  | .host _ => 76
  | .peer _ _ => 73
  | _ => weftIsland

/-- MEMORY_READ_REQUEST: a unit reads words; a request under a stale epoch is fenced at its first stitch (R54). -/
def execMemoryReadRequest (unit : Requester) (address words : Nat) (upsets : List (BitVec 80)) (s : State) :
    Host.Outcome State Fault Refusal :=
  .next (if s.epochCurrent unit.unit unit.epoch (s.accessIsland address) then s.memoryRead unit.unit address words upsets
    else s.fenceFlit unit.unit none)

/-- MEMORY_WRITE_REQUEST: a unit writes bytes, each with its enable; fenced as a read is. -/
def execMemoryWriteRequest (unit : Requester) (address : Nat) (data : List (Option Byte)) (upsets : List (BitVec 80))
    (s : State) : Host.Outcome State Fault Refusal :=
  .next (if s.epochCurrent unit.unit unit.epoch (s.accessIsland address) then
      s.memoryWrite unit.unit address data.length (enabledWords address data) upsets
    else s.fenceFlit unit.unit none)

/-! ## Stitches -/

/-- The words of a write cross a stitch, each with the error that its codeword picks up: an uncorrectable one arrives as
the poison mark (R39). -/
def State.crossRun (s : State) (unit : Nat) : List (Nat × Option (List (Option Byte))) → List (BitVec 80) →
    List (Nat × Option (List (Option Byte))) × State
  | [], _ => ([], s)
  | (wa, w) :: r, es =>
    let h := s.crossWord unit (w.map (fun l => dataWord (l.map (fun b => b.getD 0)))) (es.headD 0)
    let t := h.2.crossRun unit r es.tail
    ((wa, if h.1.isSome then w else none) :: t.1, t.2)

/-- A flit that is no queue traffic crosses the stitch `pair`, whose first it is where the sender is its unit's island, and
does what it asks for (R38 to R40, R54). -/
def State.crossLoose (s : State) (f : LooseFlit) (sender pair : Nat) (routeA routeB : BitVec 80) (errors : List (BitVec 80)) :
    State :=
  let s := { s with weft := { s.weft with served := s.weft.served.set pair f.unit } }
  let s := (s.routeCopy routeA).routeCopy routeB
  if !routeUsable routeA && !routeUsable routeB then (s.incf QM_ROUTE_LOST_COUNT).raise evRouteLost pair
  else if islandOf f.unit = sender ∧ f.epoch ≠ s.epoch f.unit then s.fenceFlit f.unit none
  else match f.body with
    | .pop q => s.servePop q f.unit
    | .read a n => s.memoryRead f.unit a n []
    | .write a data =>
      let r := s.crossRun f.unit (enabledWords a data) errors
      r.2.memoryWrite f.unit a data.length r.1 []
    | .request data =>
      let r := s.crossWords f.unit (data.map some) errors
      r.2.send (.flit f.unit r.1)
    | .response data =>
      let r := s.crossWords f.unit (data.map some) errors
      r.2.send (.flit f.unit r.1)

/-- What a flit that competes at a stitch bids (R42). -/
def bidOf : Flit ⊕ LooseFlit → Bid
  | .inl f => ⟨(entryTag f.payload).1, (entryTag f.payload).2, f.sender⟩
  | .inr f => ⟨f.deadline, f.cls, f.unit⟩

/-- STITCH_TRANSFER (R38 to R42, R54): of the flits that compete at the stitch between two islands and hold link credit the
winner crosses, judged by the sending island's time (R64), unless the receiving island stops them (R553). The errors are
what the copies of the route codeword and the payload codewords pick up on the way; the requests and answers wait on
their own virtual channels (R41). -/
def execStitchTransfer (sender receiver : Nat) (routeA routeB : BitVec 80) (errors : List (BitVec 80))
    (requests answers : List LooseFlit) (s : State) : Host.Outcome State Fault Refusal :=
  .next (
    let pair := sender * 256 + receiver
    let queued : List (Flit ⊕ LooseFlit) := (s.competing sender receiver).map Sum.inl
    let rivals := queued ++ ((requests ++ answers).filter (fun f => s.linkCredit pair (looseVc f.body))).map Sum.inr
    match arbitrate bidOf (s.nowAt sender) (Tab.get 4095 s.weft.served pair) rivals with
    | none => s
    | some w =>
      if s.islandStops receiver then s.stallAt receiver
      else match w with
        | .inl f => s.crossFlit f pair routeA routeB errors
        | .inr f => s.crossLoose f sender pair routeA routeB errors)

/-! ## Scrubbing -/

/-- The memory's content is addressed in the device address map. -/
def mapped (memid : Nat) : Bool := [0, 1, 2, 6, 7].contains (memid / 0x1000)

/-- Scrubbing goes on in an island in RUN or IDLE (R392). -/
def State.scrubs (s : State) (memid : Nat) : Bool := decide (s.rf PM_ISLAND_STATE_STATE (memIsland memid) ≤ 1)

/-- The counter of the Gusset or the instance whose internal memory gave a corrected word (R219, R254). -/
def State.internalCorrected (s : State) (memid : Nat) : State :=
  let u := memid % 0x1000
  match memid / 0x1000 with
  | 3 => if 0x440 ≤ u ∧ u < 0x540 then s.incf GUS_CORR_COUNT (u - 0x440) else s
  | 4 => if 0x600 ≤ u ∧ u < 0x738 then s.incf ACC_CORR_COUNT (u - 0x600) else s
  | _ => s

/-- SCRUB_READ: the scrubber of a memory reads the word at a cell address, or at a byte offset of an internal memory; the
upset is what the word has suffered. -/
def execScrubRead (memid word : Nat) (upset : BitVec 80) (s : State) : Host.Outcome State Fault Refusal :=
  let a := word / 8 * 8
  .next (if !s.scrubs memid then s
    else if mapped memid then
      let s := s.upsetCell a upset
      (match decodeSymbols (storedSymbols s.mem a) with
        | .clean _ => s
        | .corrected w => s.countCorrection.darnRead memid a w
        | .poison => s
        | .bad => { s.countUncorrectable memid a unitNone 2 with mem := s.mem.storeWord a none }).watchBurst s.mem memid a
    else
      match decodeSymbols (codewordSymbols upset) with
      | .clean _ => s
      | .corrected _ => ((s.countCorrection.internalCorrected memid).darnNote memid a).2
      | .poison => s
      | .bad => s.countUncorrectable memid (a / 8) unitNone 2)

/-- DARNING_WATCH_EXPIRE: a WATCH entry without a further correction within 2^20 ticks is freed. -/
def execDarningWatchExpire (memid word : Nat) (s : State) : Host.Outcome State Fault Refusal :=
  let l := s.log memid
  .next (s.setLog memid (l.filter (fun d =>
    !(d.word == word && d.state == .watch && decide (d.tick + 2 ^ 20 < s.tb.count)))))

/-! ## Row repair -/

/-- The words of the row that holds a cell address. -/
def rowWords (a : Nat) : List Nat := (List.range 64).map (fun i => a / 512 * 512 + 8 * i)

/-- The record of a remap (R401). -/
def State.remapRecord (s : State) (memid row spare : Nat) : List Byte :=
  valBytes 2 memid ++ valBytes 4 row ++ valBytes 2 spare ++ valBytes 8 s.now

/-- ROW_REPAIR_COPY_DONE: the copy of the oldest row of an SRAM under repair has ended. -/
def execRowRepairCopyDone (s : State) : Host.Outcome State Fault Refusal :=
  .next (match s.protect.copying.find? (fun c => c.1 / 0x1000 != 6) with
    | some (memid, sram, row, a) =>
      let spares := s.protect.remaps.filter (fun r => r.1 == memid * 128 + sram)
      let spare := spares.length - 1 - spares.reverse.idxOf (memid * 128 + sram, row)
      let s := { s with
        mem := if mapped memid then (rowWords a).foldl copyWord s.mem else s.mem
        protect := { s.protect with copying := s.protect.copying.erase (memid, sram, row, a) } }
      let s := s.setLog memid ((s.log memid).filter (fun d => d.word != a))
      let s := (s.incf MP_REPAIRS_COUNT).inco oMEM_REPAIR_COUNT 0 32
      (s.sdom oMEM_REPAIRS 0 (s.dom oMEM_REPAIRS ++ s.remapRecord memid row spare)).raise evDarnRepair memid
    | none => s)

end Sys2Proof.Machine
end

