-- ==== Sys2Proof/Machine/MbPersonality.lean ====
section
/-!
DEFINITION. The MB-416 personality (spec chapter 24): slots, the MB address map, core control, the accelerator command
translator, the counter and timers, interrupts, the framing image and the start of an MB partition.
-/

namespace Sys2Proof.Machine

open Reg Ob

/-! ## Slots and places -/

/-- The MB partition presented in slot k (R617). -/
def State.slotPart (s : State) (k : Nat) : Option Nat :=
  firstPartition (fun p => s.assigned p && s.isMb p && s.ob oPART_HOST_FUNCTION p == k + 1 && decide (k < 4))

/-- The partition of slot k where it is in RUNNING; the view of any other slot reads zero and ignores writes. -/
def State.slotLive (s : State) (k : Nat) : Option Nat :=
  match s.slotPart k with
  | some p => if s.pstate p = 3 then some p else none
  | none => none

/-- b: the first panel of an MB partition. -/
def State.mbPanel (s : State) (p : Nat) : Nat := (bitsSet 64 (s.ob oPART_PANEL_MASK p)).headD 0

/-- The global engine number of core c (R624). -/
def State.mbCore (s : State) (p c : Nat) : Nat := engineNumber (s.mbPanel p + c / 16) (c % 16)

/-- The core that engine g of an MB partition is. -/
def State.coreOf (s : State) (p g : Nat) : Nat := (g / 17 - s.mbPanel p) * 16 + g % 17

/-- The Hem chain of an MB partition. -/
def State.mbHem (s : State) (p : Nat) : Nat := ((List.range 4).find? (fun h => s.hemOwner h == some p)).getD 0

/-- Requester u writes the view of slot k (R623): BAR0 of PF(k + 1), the partition's cores, Thimble firmware. -/
def State.mayWriteView (s : State) (u k : Nat) : Bool :=
  isThimble u || functionOf u == some (k + 1) ||
    (decide (u < 0x440) && (s.panelOwner (u / 17)).isSome && s.panelOwner (u / 17) == s.slotPart k)

/-- What an MB address names (R620). -/
inductive MbPlace where
  /-- a device address -/
  | device (a : Nat)
  /-- an offset of the register view -/
  | view (off : Nat)
  /-- reads zero and ignores writes -/
  | zero
  | nothing
deriving DecidableEq, Repr

/-- Translation of an MB address of partition p; `core` is the engine that issues it. -/
def State.mbAddress (s : State) (p : Nat) (core : Option Nat) (a : Nat) : MbPlace :=
  if a < 0x18000 then
    match core with
    | some g => .device (engineDataBase g + a)
    | none => .nothing
  else if 0x1000000 ≤ a ∧ a < 0x2000000 then
    let x := a - 0x1000000
    .device (engineDataBase (s.mbCore p (x / 0x40000)) + x % 0x40000)
  else if 0x4000000 ≤ a ∧ a < 0x5000000 then
    let x := a - 0x4000000
    if x % 0x400000 < 0x200000 then .device (panelBase (s.mbPanel p + x / 0x400000) + x % 0x400000) else .nothing
  else if 0x8000000 ≤ a ∧ a < 0xC000000 then .view (a - 0x8000000)
  else if 0xC000000 ≤ a ∧ a < 0xC100000 then .device (0xA0800000 + s.mbPatch p * 0x1000000 + (a - 0xC000000))
  else if 0xC100000 ≤ a ∧ a < 0xD000000 then .zero
  else if 0x40000000 ≤ a ∧ a < 0x80000000 then
    .device ((0x400000000000 + (s.mbSlot (s.ob oPART_HOST_FUNCTION p - 1)).hostWin + (a - 0x40000000)) % 2 ^ 48)
  else if 0x80000000 ≤ a ∧ a < 2 ^ 32 then
    let x := a - 0x80000000
    if x < s.ob oMB_P_DRAM_SIZE p * 2 ^ 20 then .device (s.ob oMB_P_DRAM_BASE p % 2 ^ 48 + x) else .nothing
  else .nothing

/-! ## Cores (R625) -/

/-- A write of a core's control block: of core c of slot k, where the slot runs, the requester may write and the core's site
answers. -/
def State.coreWrite (s : State) (requester k c : Nat) (f : State → Nat → State) : State :=
  match s.slotLive k with
  | some p =>
    let g := s.mbCore p c
    if c < 64 ∧ s.mayWriteView requester k = true ∧ s.siteUp g = true then s.atIsland requester (g / 17) (fun s => f s g) else s
  | none => s

/-- MB_CORE_RELEASE: no engine action; the view no longer shows the core in RESET. -/
def execMbCoreRelease (requester slot core : Nat) (s : State) : Host.Outcome State Fault Refusal :=
  .next (s.coreWrite requester slot core (fun s g => s.setEng g { s.eng g with fresh := false }))

/-- MB_CORE_START: ENG_START_PC ← x, then GO. -/
def execMbCoreStart (requester slot core address : Nat) (s : State) : Host.Outcome State Fault Refusal :=
  .next (s.coreWrite requester slot core (fun s g => (s.sf ENG_START_PC_PC g address).goEngine g))

/-- MB_CORE_STOP: ENG_CTRL.SRESET. -/
def execMbCoreStop (requester slot core : Nat) (s : State) : Host.Outcome State Fault Refusal :=
  .next (s.coreWrite requester slot core (fun s g => s.resetEngine g))

/-- MB_CORE_CLEAR_FAULT: ENG_STATE.LAST_REASON is read and cleared by the view. -/
def execMbCoreClearFault (requester slot core : Nat) (s : State) : Host.Outcome State Fault Refusal :=
  .next (s.coreWrite requester slot core (fun s g => s.sf ENG_STATE_LAST_REASON g 0))

/-! ## Accelerator command queues (R628 to R630) -/

/-- The job type of an MB-416 opcode (R629). -/
def mbJobType : Nat → Option Nat
  | 0x01 => some 0x28 | 0x02 => some 0x66 | 0x03 => some 0x64 | 0x04 => some 0x65
  | 0x05 => some 0x32 | 0x06 => some 0x33 | 0x07 => some 0x38 | 0x08 => some 0x39
  | 0x09 => some 0x60 | 0x0A => some 0x61
  | 0x10 => some 0x40 | 0x11 => some 0x41 | 0x12 => some 0x44
  | 0x13 => some 0x70 | 0x14 => some 0x71 | 0x15 => some 0x43
  | 0x20 => some 0x80
  | _ => none

/-- The MB-416 status of a completion code (R630). -/
def mbStatus (code : Nat) : Nat :=
  if code = codeDone ∨ code = codeDoneRetried ∨ code = codeDoneLate then 0
  else if code = codePoison ∨ code = codeUnitReset then 2
  else if code = codeAborted ∨ code = codeDroppedLate ∨ code = codeFenced then 3
  else 4

/-- The MB-416's CRC-fail flag is flag 0 of the result entry (R630). The record counts the flags set among the blocks
completed (R227): none, or all, fixes flag 0. -/
def mbCrcFail (type result : Nat) (open_ : Bool) : Bool :=
  if type ∈ [0x28, 0x32, 0x61] then
    if result % 2 ^ 16 = 0 then false else if result / 2 ^ 16 ≤ result % 2 ^ 16 then true else open_
  else false

/-- A completion is written to the ring of queue q of slot k, and the queue's interrupt source is raised. -/
def State.mbComplete (s : State) (k q number status : Nat) (result extension : Nat := 0) (crcFail : Bool := false) : State :=
  (s.send (.mbCompletion k q number status result extension crcFail)).mbSource k (80 + q)

/-- ARGS with the device addresses of a command's MB addresses; none where one names no memory. -/
def State.mbArgs (s : State) (p : Nat) (args : List Word) : List (Nat × Nat × Nat) → Option (List Word)
  | [] => some args
  | (w, low, a) :: r =>
    match s.mbAddress p none a with
    | .device d => s.mbArgs p (args.set w (args.getD w 0 ||| BitVec.ofNat 64 (d * 2 ^ low))) r
    | _ => none

/-- The descriptor, bytes 0–55, of a command's job (R628): POLICY FINISH, END_OF_PLAN 1, OFFER_OK 0, PIN 0. -/
def mbDescriptor (c : MbCommand) (typ : Nat) (args : List Word) : List Byte :=
  valBytes 8 (typ * 2 ^ 56 + 2 ^ 53 + 2 ^ 52)
    ++ valBytes 8 (c.number % 2 ^ 32 * 2 ^ 32 + c.inQueue % 2 ^ 16 * 2 ^ 16 + c.outQueue % 2 ^ 16)
    ++ valBytes 8 (c.inCount % 128 * 2 ^ 50 + c.outCount % 1024 * 2 ^ 40 + c.size % 2 ^ 32)
    ++ (List.range 4).flatMap (fun i => wordBytes (args.getD i 0))

/-- The translator turns one command of queue q of slot k into a job, or completes it. -/
def State.mbCommand (s : State) (p k q : Nat) (c : MbCommand) : State :=
  if s.pstate p = 4 then s.mbComplete k q c.number 3
  else match mbJobType c.opcode, s.mbArgs p c.args c.addrs with
    | some typ, some args =>
      s.pushBytes (s.ob oPART_QUEUE_BASE p + 256 + q) unitThimble (mbDescriptor c typ args) (1 + 2 * (c.priority % 4))
        ((s.now + s.ob oMB_P_CMD_BUDGET_TICKS p) % 2 ^ 48)
    | _, _ => s.mbComplete k q c.number 4

/-- MB_CMDQ_DOORBELL: the translator reads the new commands of a ring. In DRAINING they complete with status 3 (R640). -/
def execMbCmdqDoorbell (requester slot queue : Nat) (commands : List MbCommand) (s : State) :
    Host.Outcome State Fault Refusal :=
  .next (match s.slotPart slot with
    | some p =>
      if (s.pstate p = 3 ∨ s.pstate p = 4) ∧ queue < 16 ∧ s.mayWriteView requester slot = true then
        commands.foldl (fun s c => s.mbCommand p slot queue c) s
      else s
    | none => s)

/-- MB_CMDQ_COMPLETION: a completion record of queue q of slot k is popped and becomes an MB-416 completion. DONE_LATE adds one
to MB.P.LATE_CMDS. -/
def execMbCmdqCompletion (slot queue : Nat) (s : State) : Host.Outcome State Fault Refusal :=
  .next (match s.slotPart slot with
    | none => s
    | some p =>
      if 16 ≤ queue then s else
      match s.popQueue (s.ob oPART_QUEUE_BASE p + 272 + queue) unitThimble with
      | (.entry e, s) =>
        match e.getD 0 none, e.getD 1 none with
        | some w, some v =>
          let code := w.toNat / 2 ^ 56
          let s := if code = codeDoneLate then s.inco oMB_P_LATE_CMDS p 32 else s
          let result := v.toNat % 2 ^ 32
          (s.mbComplete slot queue (v.toNat / 2 ^ 32) (mbStatus code) result (((e.getD 6 none).map (fun x => x.toNat)).getD 0)
            (mbCrcFail (w.toNat / 2 ^ 48 % 256) result (Config.mbCrcFlag s.free))).fresh
        | _, some v => s.mbComplete slot queue (v.toNat / 2 ^ 32) (mbStatus codePoison)
        | _, none => s.mbComplete slot queue 0xFFFFFFFF (mbStatus codePoison)
      | (_, s) => s)

/-! ## Counter, timers and interrupts (R627, R631) -/

/-- MB_COUNTER_WRITE: MB_TOFFSET becomes what makes the counter read `value`, as a signed 64-bit value. -/
def execMbCounterWrite (requester slot : Nat) (value : Word) (s : State) : Host.Outcome State Fault Refusal :=
  .next (
    if (s.slotLive slot).isSome && s.mayWriteView requester slot then
      s.setMbSlot slot { s.mbSlot slot with toffset := (BitVec.ofInt 64 ((value.toNat : Int) - (s.tb.count / 4 : Nat))).toInt }
    else s)

/-- The 30.72 MHz counter of slot k. -/
def State.mbCounter (s : State) (k : Nat) : Word := BitVec.ofInt 64 (((s.tb.count / 4 : Nat) : Int) + (s.mbSlot k).toffset)

/-- MB_TIMER_SET: timer t of a slot is armed to fire at a counter value: mode 0, KIND 0. -/
def execMbTimerSet (requester slot timer : Nat) (value : Word) (s : State) : Host.Outcome State Fault Refusal :=
  .next (match s.slotLive slot with
    | some p =>
      if timer < 16 ∧ s.mayWriteView requester slot = true then
        let n := s.ob oTIMER_CMP_BASE p + timer
        let m := (4 * ((value.toNat : Int) - (s.mbSlot slot).toffset)) % 2 ^ 48
        let s := s.writeCmpCtrl unitThimble n 0
        let s := s.writeCmpField unitThimble n 0 m.toNat
        s.writeCmpCtrl unitThimble n (2 ^ 31)
      else s
    | none => s)

/-- The n-th lane of PART.LANE_MASK, which is CPRI link n (R632). -/
def State.mbLane (s : State) (p n : Nat) : Option Nat := (bitsSet 48 (s.ob oPART_LANE_MASK p))[n]?

/-- The event that source i of partition p is, where an event of the die carries it (R631). -/
def State.mbEvent (s : State) (p i : Nat) : Option Nat :=
  if i < 64 then some (evEngine (s.mbCore p i))
  else if i < 80 then some (evGusset ((s.mbPanel p + (i - 64) / 4) * 4 + (i - 64) % 4))
  else if 96 ≤ i ∧ i < 128 then some (0x1000 + s.ob oDMA_P_CH_BASE p + (i - 96))
  else if 128 ≤ i ∧ i < 134 then (s.mbLane p (i - 128)).map (fun n => 0x08D0 + n)
  else if i = 134 then some (0x0740 + s.mbHem p)
  else if 152 ≤ i ∧ i < 168 then some (0x0A00 + s.mbPatch p * 16 + (i - 152))
  else none

/-- The sources that events carry, with their events. -/
def State.mbSources (s : State) (p : Nat) : List (Nat × Nat) :=
  (List.range 168).filterMap (fun i => (s.mbEvent p i).map (fun e => (i, e)))

/-- The status bit of an event. -/
def State.eventPending (s : State) (e : Nat) : Bool := natBit (s.rf EVR_PEND_PEND (e / 32)) (e % 32)

/-- A source routed to vector v of slot k is pending. -/
def State.mbVectorPending (s : State) (p k v : Nat) : Bool :=
  let x := s.mbSlot k
  (s.mbSources p).any (fun e => Tab.get 0 x.routes e.1 == v && s.eventPending e.2)
    || x.raised.any (fun i => Tab.get 0 x.routes i == v)

/-- MB_END_OF_INTERRUPT: the vector may send again, and sends one message where a source routed to it is pending. -/
def execMbEndOfInterrupt (requester slot vector : Nat) (s : State) : Host.Outcome State Fault Refusal :=
  .next (match s.slotLive slot with
    | some p =>
      if s.mayWriteView requester slot then
        let x := s.msixOf (slot + 1)
        let s := s.setMsix (slot + 1) { x with sent := x.sent.filter (fun v => v != vector) }
        if s.mbVectorPending p slot vector then s.sendVector (slot + 1) vector else s
      else s
    | none => s)

/-- MB_MAILBOX_COMMAND: commands for board firmware, flash and fan control are answered "not supported" (R638); what
Thimble firmware answers to another is the MB-416 manual's. The response raises source 168. -/
def execMbMailboxCommand (requester slot command argument : Nat) (board : Bool) (s : State) :
    Host.Outcome State Fault Refusal :=
  .next (
    if (s.slotLive slot).isSome && s.mayWriteView requester slot then
      let answer := if board then none else some (Config.mbMailbox slot command argument)
      (s.send (.mbMailbox slot answer)).mbSource slot 168
    else s)

/-- A write of a view register whose layout is the MB-416 manual's: the host window, status bits and route registers take
effect; of the others the spec states none. -/
def State.writeView (s : State) (k off v : Nat) : State :=
  match s.slotLive k with
  | none => s
  | some p =>
    let x := s.mbSlot k
    let cleared := Config.mbClears off v
    let routes := Config.mbRoutes off v
    let s := s.setMbSlot k { x with
      hostWin := if off = Config.mbHostWinOffset then v else x.hostWin
      raised := x.raised.filter (fun i => !cleared.contains i)
      routes := routes.foldl (fun t e => t.set e.1 e.2) x.routes }
    let s := cleared.foldl (fun s i => match s.mbEvent p i with
      | some e =>
        let w := s.rf EVR_PEND_PEND (e / 32)
        if s.eventPending e then s.sf EVR_PEND_PEND (e / 32) (w - 2 ^ (e % 32)) else s
      | none => s) s
    routes.foldl (fun s e => match s.mbEvent p e.1 with
      | some ev => s.sf EVR_ROUTE_TARGET ev e.2
      | none => s) s

/-- The state in which the view presents core c (R625). A core of a retired panel reads FAULTED permanently (R638). -/
def State.mbCoreState (s : State) (p c : Nat) : MbCoreState :=
  let g := s.mbCore p c
  let e := s.eng g
  let reason := s.rf ENG_STATE_LAST_REASON g
  if s.bit PNL_STATE_RETIRED (g / 17) then .faulted
  else match e.state with
    | .held => .reset
    | .halted => if 1 ≤ reason ∧ reason ≤ 3 then .faulted else if e.fresh then .reset else .stopped
    | _ => match e.wait with
      | .entry .. => .waiting
      | .peer .. => .waiting
      | _ => .running

/-- CPRI link n of partition p reads as in loss of signal: it has no lane, or a retired one, or its signal is lost (R632,
R638). -/
def State.mbLinkLost (s : State) (p n : Nat) : Bool :=
  match s.mbLane p n with
  | some l => s.bit LANE_STATE_RETIRED l || s.bit LANE_STATE_LOS l
  | none => true

/-- What stands behind the block of the view at an offset (R622): of a core its presented state and start address, of the
timers the counter, of the interrupt controller the pending sources, of a CPRI link its loss of signal. -/
def State.viewPresents (s : State) (k p off : Nat) : List Nat :=
  if off < 0x100000 then []
  else if off < 0x200000 then
    (s.mbSources p).filterMap (fun e => if s.eventPending e.2 then some e.1 else none) ++ (s.mbSlot k).raised
  else if off < 0x300000 then [(s.mbCounter k).toNat]
  else if off < 0x310000 then
    let c := (off - 0x300000) / 0x400
    [(s.mbCoreState p c).toNat, s.rf ENG_START_PC_PC (s.mbCore p c)]
  else if 0x600000 ≤ off ∧ off < 0x606000 then [(s.mbLinkLost p ((off - 0x600000) / 0x1000)).toNat]
  else []

/-! ## The MSI-X tables -/

/-- A byte of the MSI-X table of function f. -/
def State.tableByte (s : State) (f off : Nat) : Byte :=
  let e := Tab.get Vector16.reset (s.msixOf f).table (off / 16)
  (valBytes 8 e.addr ++ valBytes 4 e.data ++ valBytes 4 e.masked.toNat).getD (off % 16) 0

/-- A byte of its pending bit array. -/
def State.pendByte (s : State) (f off : Nat) : Byte :=
  BitVec.ofNat 8 ((List.range 8).map (fun b => if (s.msixOf f).pend.contains (8 * off + b) then 2 ^ b else 0)).sum

/-- Vectors that are pending and no longer masked send their messages, as PCIe defines it. -/
def State.flushVectors (s : State) (f : Nat) : State :=
  let x := s.msixOf f
  x.pend.foldr (fun v s => s.sendVector f v) (s.setMsix f { x with pend := [] })

/-- Bytes are written to the MSI-X table of function f from an offset of it on. -/
def State.writeTable (s : State) (f off : Nat) (data : List (Option Byte)) : State :=
  let n := data.length
  let byte := fun (i : Nat) => if off ≤ i then ((data.getD (i - off) none).getD (s.tableByte f i)) else s.tableByte f i
  let vs := (List.range (off % 16 + n + 15)).filterMap (fun i => if i % 16 = 0 ∧ i < off % 16 + n then some (off / 16 + i / 16) else none)
  let x := s.msixOf f
  let t := (vs.filter (fun v => decide (v < vectorCount f))).foldl (fun t v =>
    let l := (List.range 16).map (fun i => byte (16 * v + i))
    t.set v ⟨fieldAt l 0 8, fieldAt l 8 4, fieldAt l 12 4 % 2 == 1⟩) x.table
  (s.setMsix f { x with table := t }).flushVectors f

/-! ## The register view -/

/-- View offset x lies in the framing block's user registers (R622). -/
def viewFraming (off : Nat) : Bool := decide (0x1000000 ≤ off) && decide (off < 0x1100000)

/-- The device address of the user register at a view offset of partition p's slot. -/
def State.framingAddr (s : State) (p off : Nat) : Nat := 0xA0800000 + s.mbPatch p * 0x1000000 + (off - 0x1000000)

/-- A read of n bytes of slot k's view by unit u: the MSI-X table and pending bits, the framing block, and for the rest what
the block presents in the layout of the MB-416 manual, which is open. -/
def State.viewRead (s : State) (u k off n : Nat) : List Carried × State :=
  match s.slotLive k with
  | none => (List.replicate ((n + 7) / 8) (some 0), s)
  | some p =>
    let table := decide (0x108000 ≤ off) && decide (off < 0x108000 + 16 * vectorCount (k + 1))
    let pend := decide (0x109000 ≤ off) && decide (off < 0x109000 + vectorCount (k + 1) / 8)
    if table || pend then
      ((bytesWords ((List.range n).map (fun i =>
        if table then s.tableByte (k + 1) (off - 0x108000 + i) else s.pendByte (k + 1) (off - 0x109000 + i)))).map some, s)
    else if viewFraming off then
      s.readWords (s.framingAddr p off / 8 * 8) u 1 (wordsOf (s.framingAddr p off) n).length
    else if 0x1100000 ≤ off then (List.replicate ((n + 7) / 8) (some 0), s)
    else ([some (Config.mbView k off (s.viewPresents k p off) s.free)], s.fresh)

/-- A write of slot k's view by unit u (R623). -/
def State.viewWrite (s : State) (u k off : Nat) (data : List (Option Byte)) : State :=
  match s.slotLive k with
  | none => s
  | some p =>
    if !s.mayWriteView u k then s
    else if 0x108000 ≤ off ∧ off < 0x108000 + 16 * vectorCount (k + 1) then s.writeTable (k + 1) (off - 0x108000) data
    else if viewFraming off then
      (s.writeEnabled u (enabledWords (s.framingAddr p off) data)).2
    else if 0x1100000 ≤ off then s
    else s.writeView k off (bytesVal (data.map (fun b => b.getD 0)))

/-- What stops an access to a view: the logic of its framing block lies in a patch. -/
def State.viewStops (s : State) (u k off n : Nat) : Option (Nat × Option Nat) :=
  match s.slotLive k with
  | some p => if viewFraming off then s.accessStops u (s.framingAddr p off) n else none
  | none => none

/-! ## Framing images (R641) -/

/-- MB.IMAGES: 8 bytes for each stored image. -/
def State.storedImages (s : State) : List Byte :=
  (s.boot.images.filter (fun l => imageType l == 3)).flatMap (fun l => valBytes 4 (imageId l) ++ valBytes 4 (imageVersion l))

/-- The value of MB.IMAGES has changed. -/
def State.refreshImages (s : State) : State := s.sdom oMB_IMAGES 0 s.storedImages

/-- A write of MB.FRAMING_STORE: the image is checked and stored, in place of one with its IMAGE_ID; `programmed` says that the
image area reads back as written. -/
def State.framingStore (s : State) (a : Nat) (programmed : Bool) : Nat × State :=
  let fail := fun (s : State) (r : Nat) => (s.rejectImage r).so oMB_FRAMING_STATE 0 3
  match s.readImage (a % 2 ^ 48) with
  | (none, s) => (codeDone, fail s 1)
  | (some l, s) =>
    match s.imageFault l 3 (s.streamDigest l) true with
    | some r => (codeDone, fail s r)
    | none =>
      if programmed then
        let keep := s.boot.images.filter (fun m => !(imageType m == 3 && imageId m == imageId l))
        let s := { s with boot := { s.boot with images := keep ++ [l] } }
        (codeDone, s.refreshImages.so oMB_FRAMING_STATE 0 2)
      else (codeDone, (s.so oMB_FRAMING_STATE 0 3).raise evImage (s.ob oSEC_LAST_REJECT))

/-- MB_FRAMING_STORE: ADMIN only. -/
def execMbFramingStore (session address : Nat) (programmed : Bool) (s : State) : Host.Outcome State Fault Refusal :=
  .next (let r := if s.isAdmin session then s.framingStore address programmed else (codeDenied, s)
    r.2.send (.objectDone 0xC000 1 r.1))

/-! ## Starting an MB partition (R24, R634) -/

/-- The framing image of an IMAGE_ID in the image area. -/
def State.framingImage (s : State) (i : Nat) : Option (List Byte) :=
  s.boot.images.find? (fun l => imageType l == 3 && imageId l == i)

/-- The patch is LOADED with the authorized image that the partition names. -/
def State.framingLoaded (s : State) (p : Nat) : Bool :=
  let n := s.mbPatch p
  s.qstate n == qLoaded && s.bit QP_STATE_AUTH n && s.ob oQUILT_P_IMAGE_ID n == s.ob oMB_P_FRAMING_IMAGE p

/-- Steps 2 and 3: zero in the engine sites, panel memories and DRAM windows. -/
def State.mbZeroFill (s : State) (p : Nat) : State :=
  let panels := bitsSet 64 (s.ob oPART_PANEL_MASK p)
  let m := panels.foldl (fun m n =>
    let m := (List.range 17).foldl (fun m k =>
      Memory.zeroBytes (Memory.zeroBytes m (engineDataBase (engineNumber n k)) 0x18000)
        (engineCodeBase (engineNumber n k)) 0x8000) m
    Memory.zeroBytes m (panelBase n) 0x200000) s.mem
  let m := (List.range 16).foldl (fun m w =>
    let i := p * 16 + w
    let a := s.rf MP_WIN_BASE_BASE i * 4096
    let last := s.rf MP_WIN_LIMIT_LAST i
    if (s.bit MP_WIN_BASE_RD i || s.bit MP_WIN_BASE_W i) && decide (dramBase ≤ a) && decide (a < dramBase + 2 ^ 40) then
      Memory.zeroBytes m a (min (last * 4096 + 4096 - a) (dramBase + s.rf DRAM_CAPACITY_BYTES - a))
    else m) m
  { s with mem := m }

/-- Step 4: the image is streamed into the patch and authorized, where the patch does not hold it. Answers whether the patch
holds it then. -/
def State.mbFraming (s : State) (p : Nat) : Bool × State :=
  if s.framingLoaded p then (true, s) else
  let n := s.mbPatch p
  match s.framingImage (s.ob oMB_P_FRAMING_IMAGE p) with
  | none => (false, s)
  | some l =>
    let s := s.clearPatch n qLoading
    let s := (bytesWords (imageBody l)).foldl (fun s w => (s.streamWord n (some w)).streamTake n) s
    let r := s.authorize n p l 3 true
    (r.1 == codeDone, r.2)

/-- The consumer of queue i of the reserved range: inbox 4c + f of core c, the Shuttle for submission queues, Thimble firmware
for completion queues. -/
def State.mbConsumer (s : State) (p i : Nat) : Nat :=
  if i < 256 then s.mbCore p (i / 4) else if i < 272 then unitShuttle else unitThimble

/-- The four carrier timers of the MB-416's radio frame timers: the lowest in the mask. -/
def State.mbCarriers (s : State) (p : Nat) : List Nat := (bitsSet 64 (s.ob oTIMER_CARRIER_MASK p)).take 4

/-- Step 5: queues, DMA channels, the cost table (R628), carrier timers and event routes. -/
def State.mbEnable (s : State) (p : Nat) : State :=
  let k := s.ob oPART_HOST_FUNCTION p - 1
  let b := s.ob oPART_QUEUE_BASE p
  let s := (List.range 288).foldl (fun s i =>
    let q := b + i
    if s.bit QM_QCFG_ENABLE q then s else
    (s.sf QM_QBASE_BASE q (Config.mbQueueBase p i)).writeQcfg unitThimble q true
      ⟨Config.mbQueueDepth p i, Config.mbQueueGrant p i, s.mbConsumer p i⟩) s
  let s := (List.range 16).foldl (fun s q =>
    s.writeSqCfg unitThimble (p * 16 + q) (2 ^ 63 + (b + 272 + q) * 2 ^ 16 + (b + 256 + q))) s
  let s := (List.range 32).foldl (fun s i => s.writeDmaCfg unitThimble (s.ob oDMA_P_CH_BASE p + i) (2 ^ 31)) s
  let s := (List.range 256).foldl (fun s t =>
    let c := Config.mbCost t
    (s.sf SH_COST_PER_UNIT (p * 256 + t) c.1).sf SH_COST_BASE (p * 256 + t) c.2) s
  let s := (s.mbCarriers p).foldl (fun s c => s.writeCarCfg unitThimble c (2 ^ 31 + 5 * 2 ^ 24)) s
  let s := (s.mbSources p).foldl (fun s e =>
    ((s.sf EVR_ROUTE_DEST e.2 1).sf EVR_ROUTE_FUNCTION e.2 (k + 1)).sf EVR_ROUTE_TARGET e.2 0) s
  s.setMbSlot k MbSlot.reset

/-- ENG_CTRL.HALT_REQ 1 and RESET_ACTION 0 on every engine of an MB partition. -/
def State.mbEngines (s : State) (p : Nat) : State :=
  (bitsSet 64 (s.ob oPART_PANEL_MASK p)).foldl (fun s n =>
    (List.range 17).foldl (fun s k =>
      (s.sf ENG_CTRL_HALT_REQ (engineNumber n k) 1).sf ENG_CTRL_RESET_ACTION (engineNumber n k) 0) s) s

end Sys2Proof.Machine
end

