-- ==== Sys2Proof/Machine/Partition.lean ====
section
/-!
DEFINITION. Partition commands and resets (R17 to R26), and the resets of host functions (R508, R635).
-/

namespace Sys2Proof.Machine

open Reg Ob

/-! ## Who commands a partition -/

/-- The session may command partition p (R530): ADMIN, or the partition's own. -/
def Session.commands (x : Session) (p : Nat) : Bool := x.role == 0 || (x.role == 1 && x.part == p)

/-- A partition command through a session. -/
def State.partCommand (s : State) (session p : Nat) (f : State → Nat × State) : State :=
  match s.session session with
  | none => s
  | some x =>
    let r := if 8 ≤ p then (codeBadDescriptor, s) else if x.commands p then f s else (codeDenied, s)
    r.2.send (.objectDone (0x2100 + p) 9 r.1)

/-! ## Create and delete (R21) -/

/-- The create command. -/
def State.createPart (s : State) (p : Nat) : Nat × State :=
  if s.pstate p ≠ 0 then (codeBusy, s)
  else (codeDone, { s.so oPART_STATE p 1 with measures := s.measures.set (2 + p) (List.replicate 64 0) })

/-- The persistent objects of partition p, by object and place (R519). -/
def partObjects (p : Nat) : List (Obj × Nat) :=
  ([oPART_PERSONALITY, oPART_PANEL_MASK, oPART_PATCH_MASK, oPART_LANE_MASK, oPART_QUEUE_BASE, oPART_QUEUE_COUNT,
    oPART_HOST_FUNCTION, oTIMER_CMP_BASE, oTIMER_CMP_COUNT, oTIMER_CARRIER_MASK, oFH_P_ST_BASE, oFH_P_ST_COUNT,
    oSHUTTLE_P_GUAR_LDPC_DEC, oSHUTTLE_P_GUAR_LDPC_ENC, oSHUTTLE_P_GUAR_TURBO, oSHUTTLE_P_GUAR_POLAR, oSHUTTLE_P_GUAR_FFT,
    oSHUTTLE_P_GUAR_MATRIX, oSHUTTLE_P_GUAR_BIT, oSHUTTLE_P_MAX_PENDING, oSHUTTLE_P_LEND, oSHUTTLE_P_TRIG_BASE,
    oSHUTTLE_P_TRIG_COUNT, oDMA_P_CH_BASE, oDMA_P_CH_COUNT, oMB_P_SUBSYS_VENDOR, oMB_P_SUBSYS_ID, oMB_P_DRAM_BASE,
    oMB_P_DRAM_SIZE, oMB_P_FRAMING_IMAGE, oMB_P_AUTO_RESTART, oMB_P_CMD_BUDGET_TICKS].map (fun o => (o, p)))
  ++ (List.range 16).map (fun w => (oMEM_P_WIN, p * 16 + w))

/-- An object returns to its default and leaves the store. -/
def State.dropObject (s : State) (o : Obj) (i : Nat) : State :=
  let k := o.key i
  let t := if s.ob o i = o.dflt ∧ s.dom o i = [] then s else s.touch k
  { t with
    objs := s.objs.del k
    doms := s.doms.del k
    boot := { s.boot with
      copies := s.boot.copies.map (fun (c : Nat × Nat × Tab (List Byte)) => (c.1, c.2.1, c.2.2.del k))
      journal := s.boot.journal.filter (fun e => e.1 != k) } }

/-- A panel is put into OFF (R17). -/
def State.panelOff (s : State) (n : Nat) : State :=
  let s := (List.range 17).foldl (fun s k => s.holdEngine (engineNumber n k)) s
  let s := (List.range 4).foldl (fun s q => s.setGus (4 * n + q) Gusset.reset) s
  (s.setIsl n Isl.run).sf PM_ISLAND_STATE_STATE n 4

/-- A patch that no partition owns is EMPTY. -/
def State.patchOff (s : State) (n : Nat) : State :=
  if s.qstate n = qRetired then s else (s.isolate n).clearPatch n qEmpty

/-- The delete command. -/
def State.deletePart (s : State) (p : Nat) : Nat × State :=
  if s.pstate p ≠ 1 then (codeBusy, s) else
  let cmps := (List.range 1024).filter (fun n => s.comparatorOwner n == some p)
  let cars := (List.range 64).filter (fun c => s.carrierOwner c == some p)
  let s := cmps.foldl (fun s n => s.disarm n) s
  let s := cars.foldl (fun s c => s.disableCarrier c) s
  let s := s.dmaResetAll p
  let panels := bitsSet 64 (s.ob oPART_PANEL_MASK p)
  let patches := bitsSet 8 (s.ob oPART_PATCH_MASK p)
  let chains := (List.range 4).filter (fun h => s.ob oHEM_OWNER h == p)
  let s := panels.foldl (fun s n => s.panelOff n) s
  let s := patches.foldl (fun s n => s.patchOff n) s
  let s := (bitsSet 48 (s.ob oPART_LANE_MASK p)).foldl (fun s n => s.laneOff n) s
  let s := chains.foldl (fun s h => s.so oHEM_OWNER h 0xFF) s
  let s := (partObjects p).foldl (fun s e => s.dropObject e.1 e.2) s
  (codeDone, s.so oPART_STATE p 0)

/-- PART_CREATE: PART.COMMAND 1. -/
def execPartCreate (session part : Nat) (s : State) : Host.Outcome State Fault Refusal :=
  .next (s.partCommand session part (fun s => s.createPart part))
/-- PART_DELETE: PART.COMMAND 4. -/
def execPartDelete (session part : Nat) (s : State) : Host.Outcome State Fault Refusal :=
  .next (s.partCommand session part (fun s => s.deletePart part))

/-! ## Start (R23) -/

/-- The partitions other than p that are not UNASSIGNED. -/
def State.otherParts (s : State) (p : Nat) : List Nat := partitions.filter (fun q => q != p && s.assigned q)

/-- Two ranges, first and count, share a number. -/
def rangesMeet (a n b m : Nat) : Bool := decide (0 < n) && decide (0 < m) && decide (a < b + m) && decide (b < a + n)

/-- A range given by two objects meets that of no other partition and does not pass `most`. -/
def State.rangeOk (s : State) (p : Nat) (base count : Obj) (most : Nat) : Bool :=
  let a := s.ob base p
  let n := s.ob count p
  decide (n = 0 ∨ a + n ≤ most + 1)
    && (s.otherParts p).all (fun q => !rangesMeet a n (s.ob base q) (s.ob count q))

/-- Every assigned unit is present and not retired. -/
def State.unitsOk (s : State) (p : Nat) : Bool :=
  (bitsSet 64 (s.ob oPART_PANEL_MASK p)).all (fun n => decide (n < s.die.variant.panels) && !s.bit PNL_STATE_RETIRED n)
    && (bitsSet 8 (s.ob oPART_PATCH_MASK p)).all (fun n => decide (n < s.die.variant.patches) && !s.bit QP_STATE_RETIRED n)
    && (bitsSet 48 (s.ob oPART_LANE_MASK p)).all (fun n => s.die.variant.lanePresent n && !s.bit LANE_STATE_RETIRED n)
    && (List.range 4).all (fun h => s.ob oHEM_OWNER h != p || s.usable (0x740 + h))

/-- The MB shape of R18 and R287: four panels P(4k) to P(4k + 3), one patch, one chain, one of PF1 to PF4 that the variant lets
present an MB partition (R644). -/
def State.mbShape (s : State) (p : Nat) : Bool :=
  let f := s.ob oPART_HOST_FUNCTION p
  (List.range 16).any (fun k => s.ob oPART_PANEL_MASK p == 15 * 2 ^ (4 * k))
    && (bitsSet 8 (s.ob oPART_PATCH_MASK p)).length == 1
    && ((List.range 4).filter (fun h => s.ob oHEM_OWNER h == p)).length == 1
    && decide (1 ≤ f) && decide (f ≤ s.die.variant.mbPartitions)
    && decide (((s.otherParts p).filter s.isMb).length + 1 ≤ s.die.variant.mbPartitions)

/-- A native partition's host function. -/
def nativeFunction (f : Nat) : Bool := f == 0 || (decide (0x10 ≤ f) && decide (f < 0x50)) || f == 0xFF

/-- The guarantee objects, in the order of R11. -/
def guarantees : List Obj :=
  [oSHUTTLE_P_GUAR_LDPC_DEC, oSHUTTLE_P_GUAR_LDPC_ENC, oSHUTTLE_P_GUAR_TURBO, oSHUTTLE_P_GUAR_POLAR, oSHUTTLE_P_GUAR_FFT,
    oSHUTTLE_P_GUAR_MATRIX, oSHUTTLE_P_GUAR_BIT]

/-- The sum of an object over partition p and the others that are not UNASSIGNED. -/
def State.sumParts (s : State) (p : Nat) (o : Obj) : Nat := ((p :: s.otherParts p).map (fun q => s.ob o q)).sum

/-- Instances of a type present: a retired one is not (R576). -/
def State.instancesOf (s : State) (t : AccType) : Nat :=
  ((accUnits t).filter s.usable).length

/-- The dimensions of yardage (R646). -/
inductive Yard where
  | engines | matrix | ldpc | turbo | bit | fft | lanes | dram
deriving DecidableEq, Repr

/-- The capacity of a variant in yards (R646): 8 engines; one instance; 25 Gbit/s of a fronthaul lane; 5 GB/s of DRAM
bandwidth. -/
def Variant.yards (v : Variant) : Yard → Nat
  | .engines => 16 * v.panels / 8
  | .matrix => v.accIslands * AccType.matrix.perIsland
  | .ldpc => v.accIslands * AccType.ldpcDec.perIsland
  | .turbo => v.accIslands * AccType.turbo.perIsland
  | .bit => v.accIslands * AccType.bit.perIsland
  | .fft => v.accIslands * AccType.fft.perIsland
  | .lanes => 4 * v.lanes
  | .dram => v.dramChannels * 576 / 50

/-- The usable capacity in yards (R645, R649): a retired panel takes 2, a retired lane 4, a retired instance 1. -/
def State.usableYards (s : State) : Yard → Nat
  | .engines => 2 * ((List.range s.die.variant.panels).filter (fun n => !s.bit PNL_STATE_RETIRED n)).length
  | .matrix => s.instancesOf .matrix
  | .ldpc => s.instancesOf .ldpcDec
  | .turbo => s.instancesOf .turbo
  | .bit => s.instancesOf .bit
  | .fft => s.instancesOf .fft
  | .lanes => 4 * ((List.range s.die.variant.lanes).filter (fun n => !s.bit LANE_STATE_RETIRED n)).length
  | .dram => s.die.variant.yards .dram

/-- The guarantees fit the instances present, those of FFT beside the reserves of every owned chain (R23, R287). -/
def State.guaranteesOk (s : State) (p : Nat) : Bool :=
  let reserve := ((List.range 4).map (fun h => if s.ob oHEM_OWNER h = 0xFF then 0 else s.ob oHEM_FFT_RESERVE h)).sum
  (AccType.all.zip guarantees).all (fun e =>
    decide (s.sumParts p e.2 + (if e.1 = .fft then reserve else 0) ≤ s.instancesOf e.1))

/-- Each chain of the partition has its reserve of FFT instances in service (R287). -/
def State.reserveOk (s : State) (p : Nat) : Bool :=
  (List.range 4).all (fun h => s.ob oHEM_OWNER h != p ||
    decide (s.ob oHEM_FFT_RESERVE h ≤ ((List.range 8).filter (fun k => s.usable (accUnit h (21 + k)))).length))

/-- Comparators and carrier timers (R83). -/
def State.timersOk (s : State) (p : Nat) : Bool :=
  s.rangeOk p oTIMER_CMP_BASE oTIMER_CMP_COUNT 1023
    && (s.otherParts p).all (fun q => s.ob oTIMER_CARRIER_MASK p &&& s.ob oTIMER_CARRIER_MASK q == 0)

/-- DMA channels (R436). -/
def State.channelsOk (s : State) (p : Nat) : Bool :=
  let a := s.ob oDMA_P_CH_BASE p
  let n := s.ob oDMA_P_CH_COUNT p
  s.rangeOk p oDMA_P_CH_BASE oDMA_P_CH_COUNT 4095
    && (n == 0 || (List.range 16).all (fun e =>
      !(decide (a / 256 ≤ e) && decide (e ≤ (a + n - 1) / 256)) || s.usable (0x800 + e)))

/-- A window object: first and last page, reads, writes (R399). -/
def State.winObject (s : State) (p w : Nat) : Nat × Nat × Bool × Bool :=
  let l := s.dom oMEM_P_WIN (p * 16 + w)
  let b := fieldAt l 0 8
  (bitsOf b 47 12, bitsOf (fieldAt l 8 8) 47 12, natBit b 0, natBit b 1)

/-- A window that grants something. -/
def winOpen (w : Nat × Nat × Bool × Bool) : Bool := (w.2.2.1 || w.2.2.2) && decide (w.1 ≤ w.2.1)

/-- The windows of a partition that grant something, as first and last page. -/
def State.openWins (s : State) (p : Nat) : List (Nat × Nat) :=
  ((List.range 16).map (fun w => s.winObject p w)).filterMap (fun w => if winOpen w then some (w.1, w.2.1) else none)

/-- The pages of the DRAM range. -/
def dramPage (p : Nat) : Bool := decide (dramBase ≤ p * 4096) && decide (p * 4096 < dramBase + 2 ^ 40)

/-- Two page ranges meet. -/
def pagesMeet (a b : Nat × Nat) : Bool := decide (a.1 ≤ b.2) && decide (b.1 ≤ a.2)

/-- The page ranges of a panel's memories: its panel memory and its engine sites. -/
def panelPages (n : Nat) : List (Nat × Nat) :=
  (panelBase n / 4096, (panelBase n + 0x200000) / 4096 - 1)
    :: (List.range 17).flatMap (fun k =>
      let g := engineNumber n k
      [(engineDataBase g / 4096, (engineDataBase g + 0x18000) / 4096 - 1),
        (engineCodeBase g / 4096, (engineCodeBase g + 0x8000) / 4096 - 1)])

/-- The checks of R398. -/
def State.windowsOk (s : State) (p : Nat) : Bool :=
  (s.openWins p).all (fun w =>
    (s.otherParts p).all (fun q =>
      (!(dramPage w.1 || dramPage w.2) || (s.openWins q).all (fun v => !((dramPage v.1 || dramPage v.2) && pagesMeet w v)))
        && (bitsSet 64 (s.ob oPART_PANEL_MASK q)).all (fun n => (panelPages n).all (fun r => !pagesMeet w r))))

/-- The windows are copied into MP_WIN_BASE and MP_WIN_LIMIT (R399). -/
def State.copyWindows (s : State) (p : Nat) : State :=
  (List.range 16).foldl (fun s w =>
    let i := p * 16 + w
    let x := s.winObject p w
    (((s.sf MP_WIN_BASE_BASE i x.1).sf MP_WIN_BASE_RD i x.2.2.1.toNat).sf MP_WIN_BASE_W i x.2.2.2.toNat).sf
      MP_WIN_LIMIT_LAST i x.2.1) s

/-- The further conditions on an MB partition (R633). -/
def State.mbStartOk (s : State) (p : Nat) : Bool :=
  let size := s.ob oMB_P_DRAM_SIZE p
  let base := s.ob oMB_P_DRAM_BASE p % 2 ^ 48
  decide (512 ≤ s.ob oPART_QUEUE_COUNT p) && decide (32 ≤ s.ob oDMA_P_CH_COUNT p) && decide (16 ≤ s.ob oTIMER_CMP_COUNT p)
    && decide (4 ≤ (bitsSet 64 (s.ob oTIMER_CARRIER_MASK p)).length) && decide (size ≤ 2048)
    && decide (size = 0 ∨ ((s.openWins p).any (fun w => w.1 * 4096 ≤ base ∧ base + size * 2 ^ 20 ≤ (w.2 + 1) * 4096)) = true)
    && (s.framingLoaded p || (s.framingImage (s.ob oMB_P_FRAMING_IMAGE p)).isSome)

/-- A start command is valid (R23). -/
def State.startValid (s : State) (p : Nat) : Bool :=
  s.unitsOk p && s.ob oPART_PANEL_MASK p != 0
    && (if s.isMb p then s.mbShape p && s.mbStartOk p else nativeFunction (s.ob oPART_HOST_FUNCTION p))
    && s.guaranteesOk p && s.reserveOk p && s.timersOk p && s.channelsOk p && s.windowsOk p
    && s.rangeOk p oFH_P_ST_BASE oFH_P_ST_COUNT 32767 && s.rangeOk p oSHUTTLE_P_TRIG_BASE oSHUTTLE_P_TRIG_COUNT 1023
    && decide (s.sumParts p oSHUTTLE_P_MAX_PENDING ≤ 16384)

/-- A panel leaves OFF (R556): its memories become POISON (R388). -/
def State.panelUpFrom (s : State) (n : Nat) : State :=
  if s.istate n ≠ 4 then s else
  let m := (List.range 17).foldl (fun m k =>
    (m.poisonRange (engineDataBase (engineNumber n k)) 0x18000).poisonRange (engineCodeBase (engineNumber n k)) 0x8000)
    (s.mem.poisonRange (panelBase n) 0x200000)
  ({ s with mem := m }.setIsl n { Isl.run with lastFlit := s.tb.count }).sf PM_ISLAND_STATE_STATE n 0

/-- The start command: BUSY, BAD_DESCRIPTOR, or the partition enters STARTING. -/
def State.startPart (s : State) (p : Nat) : Nat × State :=
  if s.pstate p ≠ 1 then (codeBusy, s) else
  let s := s.copyWindows p
  if !s.startValid p then (codeBadDescriptor, s) else
  let s := (bitsSet 64 (s.ob oPART_PANEL_MASK p)).foldl (fun s n => s.panelUpFrom n) s
  (codeDone, s.so oPART_STATE p 2)

/-- PART_START: PART.COMMAND 2. A valid start is answered when the partition runs, or is reset. -/
def execPartStart (session part : Nat) (s : State) : Host.Outcome State Fault Refusal :=
  .next (match s.session session with
    | none => s
    | some x =>
      let r := if 8 ≤ part then (codeBadDescriptor, s) else if x.commands part then s.startPart part else (codeDenied, s)
      if r.1 = codeDone then r.2 else r.2.send (.objectDone (0x2100 + part) 9 r.1))

/-- The units of a partition are released: HELD engines are HALTED, LOADED patches start. -/
def State.releaseUnits (s : State) (p : Nat) : State :=
  let s := (bitsSet 64 (s.ob oPART_PANEL_MASK p)).foldl (fun s n =>
    (List.range 17).foldl (fun s k => s.releaseHeld (engineNumber n k)) s) s
  s.startPatches p

/-- PART_UNITS_READY: a partition in STARTING enters RUNNING. An MB partition is zero-filled, its framing image is loaded and
its view enabled (R24, R634); without the image it stays in STARTING. A thermal trip stalls the step (R662). -/
def execPartUnitsReady (part : Nat) (s : State) : Host.Outcome State Fault Refusal :=
  .next (
    if 8 ≤ part ∨ s.pstate part ≠ 2 ∨ s.bit PM_THERM_STATE_TRIP = true then s else
    let run := fun (s : State) => ((s.releaseUnits part).so oPART_STATE part 3).startDone part codeDone
    if s.isMb part then
      match (s.mbZeroFill part).mbFraming part with
      | (true, s) => run ((s.mbEnable part).mbEngines part)
      | (false, s) => s
    else run s)

/-! ## Stop and reset (R21, R25) -/

/-- The stop command: from RUNNING into DRAINING; jobs not yet dispatched complete with ABORTED. -/
def State.stopPart (s : State) (p : Nat) : Nat × State :=
  if s.pstate p ≠ 3 then (codeBusy, s) else (codeDone, (s.so oPART_STATE p 4).abortPending p)

/-- PART_STOP: PART.COMMAND 3. -/
def execPartStop (session part : Nat) (s : State) : Host.Outcome State Fault Refusal :=
  .next (s.partCommand session part (fun s => s.stopPart part))

/-- The units of a partition are held in reset. -/
def State.holdUnits (s : State) (p : Nat) : State :=
  let panels := bitsSet 64 (s.ob oPART_PANEL_MASK p)
  let s := panels.foldl (fun s n => s.wakeFor (engineNumber n 0)) s
  let s := panels.foldl (fun s n => (List.range 17).foldl (fun s k => s.holdEngine (engineNumber n k)) s) s
  let s := panels.foldl (fun s n => (List.range 4).foldl (fun s q => s.setGus (4 * n + q) Gusset.reset) s) s
  let s := ((List.range 4).filter (fun h => s.hemOwner h == some p)).foldl (fun s h => s.resetHem h) s
  s.stopPatches p

/-- PART_DRAIN_DONE: every job of a DRAINING partition has completed; it enters STOPPED. -/
def execPartDrainDone (part : Nat) (s : State) : Host.Outcome State Fault Refusal :=
  .next (
    if 8 ≤ part ∨ s.pstate part ≠ 4 ∨ s.sh.jobs.any (fun j => j.part == part) = true then s
    else (s.holdUnits part).so oPART_STATE part 1)

/-- A partition reset (R25): a start under way completes with ABORTED (R26). -/
def State.resetPart (s : State) (p : Nat) : State :=
  match s.pstate p with
  | 0 => s
  | 1 => ((s.resetSymbols p).resetQueues p).dmaResetAll p
  | st =>
    let s := if st = 2 then s.startDone p codeAborted else s
    let s := (s.abortAll p).holdUnits p
    let s := s.resetSymbols p
    ((s.resetQueues p).dmaResetAll p).so oPART_STATE p 1

/-- PARTITION_RESET. -/
def execPartitionReset (part : Nat) (s : State) : Host.Outcome State Fault Refusal :=
  .next (if part < 8 then s.resetPart part else s)

/-! ## Function resets (R508, R635) -/

/-- The sessions that a function's mailbox carries end. -/
def State.endMailbox (s : State) (f : Nat) : State :=
  s.keepSessions (fun x => match x.reply with
    | .mailbox g => g != f
    | _ => true)

/-- An FLR of one function. PF1 to PF4 with AUTO_RESTART start their partition again. -/
def State.flrOne (s : State) (f : Nat) : State :=
  let s := (s.clearFunction f).endMailbox f
  match s.functionPartition f with
  | none => s
  | some p =>
    let s := s.resetPart p
    if 1 ≤ f ∧ f ≤ 4 ∧ s.ob oMB_P_AUTO_RESTART p = 1 ∧ s.isMb p = true then (s.startPart p).2 else s

/-- The virtual functions, as PART.HOST_FUNCTION codes them. -/
def virtualFunctions : List Nat := (List.range 64).map (fun v => 0x10 + v)

/-- FUNCTION_LEVEL_RESET: of PF0 also on every VF. -/
def execFunctionLevelReset (function : Nat) (s : State) : Host.Outcome State Fault Refusal :=
  .next ((if function = 0 then 0 :: virtualFunctions else [function]).foldl (fun s f => s.flrOne f) s)

/-- HOT_RESET: an FLR of every function. -/
def execHotReset (s : State) : Host.Outcome State Fault Refusal :=
  .next (([0, 1, 2, 3, 4] ++ virtualFunctions).foldl (fun s f => s.flrOne f) s)

end Sys2Proof.Machine
end

