-- ==== Sys2Proof/Machine/Warm.lean ====
section
/-!
DEFINITION. Warm resets (R585, R586): their causes, and what they keep.
-/

namespace Sys2Proof.Machine

open Reg Ob

def evWarmDone : Nat := 0x0C97

/-! ## Causes (R585) -/

/-- A write of FAULT.WARM_RESET by an ADMIN session: 1 asks for a warm reset. -/
def State.warmCommand (s : State) (admin : Bool) (v : Nat) : Nat × State :=
  if !admin then (codeDenied, s)
  else if v ≠ 1 then (codeBadDescriptor, s)
  else (codeDone, { s with health := { s.health with warm := some 2 } })

/-- FAULT_WARM_RESET_COMMAND. -/
def execFaultWarmResetCommand (session value : Nat) (s : State) : Host.Outcome State Fault Refusal :=
  .next (let r := s.warmCommand (s.isAdmin session) value; r.2.send (.objectDone 0x9000 13 r.1))

/-- WARM_N_ASSERT: WARM_N has been low for 10 µs. -/
def execWarmNAssert (s : State) : Host.Outcome State Fault Refusal :=
  .next (if s.boot.phase = 0 then { s with health := { s.health with warm := some 1 } } else s)

/-! ## What a warm reset keeps (R69, R388, R425, R514, R586) -/

/-- The fields that a warm reset keeps: those of the Thimble island, the servo's, and what DRAM training has found. -/
def warmFields : List Fld :=
  [PM_ISLAND_FREQ_CUR_MHZ, PM_ISLAND_FMIN_MIN_MHZ, TB_FREQ_ADJ_ADJ, TB_STATUS_STATE, MP_REPAIRS_COUNT,
    DRAM_STATUS_CH_UP, DRAM_STATUS_NCH, DRAM_CAPACITY_BYTES, DRAM_CH_CFG_ENABLE, DRAM_CH_CFG_RATE, DRAM_CH_CFG_WIDTH,
    DRAM_CH_CFG_DENSITY, DRAM_CH_CFG_STACK, DRAM_CH_CFG_RANKS, DRAM_CH_CFG_SPARE_EN, DRAM_CH_CFG_REF_SB, DRAM_CH_CFG_DRFM,
    DRAM_CH_CFG_RDIMM, DRAM_CH_STATE_TRAINED, DRAM_CH_STATE_DEGRADED, DRAM_CH_STATE_RANK_STATE, DRAM_CH_TIMING_XSDLL_NS,
    DRAM_CH_TIMING_TRFC_NS, DRAM_CH_SRTIME_XS_NS, DRAM_CH_SRTIME_SR_MIN_NS, DRAM_MIG_STATE_STATE, DRAM_MIG_STATE_FROM,
    DRAM_MIG_STATE_TO, DRAM_MIG_STATE_REGION,
    PM_DEVICE_HOLD_DEEP, PM_DEVICE_STATE, PM_VOTE_LAST_REASON, PM_VOTE_LAST_ISLAND, PM_REFUSALS_COUNT, PM_RET_LOST_LAST_MEMID,
    PM_RET_LOST_COUNT, PM_ISLAND_STATE_LAST_REASON, PM_ISLAND_ENTRIES_COUNT, PM_ISLAND_ABORTS_COUNT, PM_ISLAND_WAKES_COUNT,
    PM_ISLAND_OVERRUNS_COUNT, PM_ISLAND_STALL_MAX_NS, PM_ISLAND_TEMP_TEMP, PM_THERM_STATE_FREQ_PCT,
    PM_THERM_STATE_HOT_ISLAND, PM_THERM_STATE_TRIP, PM_THERM_STATE_THROTTLE, PM_THERM_STATE_WARN,
    SEC_STATUS_TAMPERED, SEC_STATUS_DIAG_UNLOCKED, SEC_STATUS_SLOT1_VALID, SEC_STATUS_SLOT0_VALID, SEC_STATUS_FW_SLOT,
    SEC_STATUS_FW_TRIAL, SEC_POLICY_DIAG_LOCK, SEC_POLICY_QUILT_SIGNED, SEC_POLICY_ENG_SIGNED, SEC_POLICY_KEY_REVOKED,
    SEC_POLICY_KEY_PRESENT, SEC_SVN_FW_MIN, SEC_SVN_MB_MIN]

/-- The fields kept, and the islands back in RUN but for panels in OFF (R562, R586). -/
def State.warmFlds (s : State) : Tab Nat :=
  let ids := warmFields.map (fun f => f.id)
  let kept : Tab Nat := s.flds.filter (fun (e : Nat × Nat) => ids.contains (e.1 % 1024))
  (List.range 83).foldl (fun (t : Tab Nat) i =>
    let v := if s.istate i = 4 then 4 else 0
    (t.set (PM_ISLAND_STATE_STATE.key i) v).set (PM_ISLAND_STATE_TARGET.key i) v) kept

/-- The time base, reloaded from its shadow (R69). -/
def TimeBase.warm (t : TimeBase) : TimeBase :=
  { t with count := t.shadowCount, frac := t.shadowFrac, lags := [], ppsOut := false, sysrefLost := false, sysrefBack := false, carriers := [],
           comparators := [], fired := 0, triggers := [] }

/-- A rank that leaves self-refresh, with D at 0 (R425). -/
def DramRank.warm (x : DramRank) (now : Nat) : DramRank :=
  { DramRank.idle with at_ := now, fast := x.fast, used := now, drift := x.drift, chips := x.chips, bursts := x.bursts }

/-- The channels, of which only the ranks keep anything. -/
def State.warmDram (s : State) : Tab DramCh :=
  s.dram.map (fun (e : Nat × DramCh) =>
    (e.1, { DramCh.idle with window := s.tb.count, ranks := e.2.ranks.map (fun (r : Nat × DramRank) => (r.1, r.2.warm s.tb.count)) }))

/-- The patches: frames are kept and drive nothing (R481). -/
def State.patchesKept (s : State) : Tab Patch :=
  s.patches.map (fun (e : Nat × Patch) => (e.1, { Patch.empty with frames := e.2.frames, digests := e.2.digests }))

/-- The first slot boundary after a tick (R515). -/
def boundaryAfter (t : Nat) : Nat := (t / 61440 + 1) * 61440

/-- The islands run; the targets of a DEEP hold stay, and banks that DEEP retained stay closed till their sweeps end (R562). -/
def State.warmPm (s : State) : Pm :=
  { s.pm with islands := s.pm.islands.map (fun (e : Nat × Isl) =>
      (e.1, { Isl.run with lastFlit := s.tb.count, overrunTick := e.2.overrunTick, goal := e.2.goal
                           closed := if s.istate e.1 = 3 then retainedBanks e.1 else e.2.closed })) }

/-- Everything that a warm reset keeps, the rest as a cold reset leaves it. -/
def State.warmKept (s : State) : State :=
  { State.reset with
    pending := s.pending, free := s.free, out := s.out, die := s.die, objs := s.objs, doms := s.doms, mem := s.mem,
    flds := s.warmFlds, tb := s.tb.warm, dram := s.warmDram, patches := s.patchesKept, keys := s.keys, pm := s.warmPm,
    protect := { State.reset.protect with remaps := s.protect.remaps }, measures := s.measures, changes := s.changes,
    rws := s.rws.map (fun (e : Nat × Nat × Nat) => (e.1, e.2.1, boundaryAfter s.tb.shadowCount)),
    health := { s.health with warm := none, returns := [] }, boot := s.boot, sessions := s.sessions, relays := s.relays,
    thermal := s.thermal, jtag := s.jtag }

/-- A start command under way is cancelled (R8, R26). -/
def State.abortStarts (s : State) : State :=
  partitions.foldl (fun s p => if s.pstate p = 2 then s.startDone p codeAborted else s) s

/-- Partitions that are not UNASSIGNED are STOPPED. -/
def State.stopAll (s : State) : State :=
  partitions.foldl (fun s p => if s.assigned p then s.so oPART_STATE p 1 else s) s

/-- This die has left its bolt (R371). -/
def State.leaveBolt (s : State) : State := if s.boltState = 0 then s else s.standAlone

/-- Reinstated units of the classes that wait for a warm reset rejoin (R581); those of class 8 wait on. -/
def State.warmReturns (s : State) (l : List (Nat × Nat × Nat)) : State :=
  let now := l.filter (fun e => [2, 3, 4, 5, 7].contains e.1)
  let s := now.foldl (fun s e => s.rejoin e.1 e.2.1) s
  { s with health := { s.health with returns := l.filter (fun e => !([2, 3, 4, 5, 7].contains e.1)) } }

/-- A warm reset (R586). -/
def State.warmReset (s : State) (cause : Nat) (link : Nat × Nat × Nat × Nat × Nat) : State :=
  let s := (s.setPps false).sdom oFAULT_WARM_CAUSES 0 (keepRecords 64 (s.dom oFAULT_WARM_CAUSES)
    (s.faultRecord 0xF0 cause 0 0 0 0xFFFF))
  let returns := s.health.returns
  let s := (s.abortStarts.warmKept.reapplyAll).warmReturns returns
  let s := ((s.stopAll.leaveBolt).so oQUILT_SCRUBBER 0 0).restoreScrub.refreshDevice
  let s := (s.sf HP_LINK_STATE_UP 0 1).sf HP_LINK_STATE_RATE 0 (min link.1 (s.ob oHOST_MAX_RATE))
  (s.trainLink link.2.1 link.2.2.1 link.2.2.2.1 link.2.2.2.2).raise evWarmDone cause

/-- A warm reset with this cause is due: asked for, or found by the device itself (causes 0x03 to 0x05). -/
def State.warmDue (s : State) (cause : Nat) : Bool :=
  s.boot.phase == 0 && (s.health.warm == some cause || (decide (3 ≤ cause) && decide (cause ≤ 5)))

/-- WARM_RESET. `link` is what training the UCIe link finds: rate, and the repairs and width of both modules. -/
def execWarmReset (cause : Nat) (link : Nat × Nat × Nat × Nat × Nat) (s : State) : Host.Outcome State Fault Refusal :=
  .next (if s.warmDue cause then s.warmReset cause link else s)

end Sys2Proof.Machine
end

