-- ==== Sys2Proof/Machine/Thermal.lean ====
section
/-!
DEFINITION. Thermal limits and throttling (R660 to R662), the supply alert (R668) and the test port (R658). What the sensors read
is an operand: island and temperature in 1/16 °C.
-/

namespace Sys2Proof.Machine

open Reg Ob

/-! ## The sensors (R660, R666, R667) -/

/-- A signed object of 8 bits, a temperature in °C. -/
def State.celsius (s : State) (o : Obj) : Int := toSigned 8 (s.ob o)

/-- The temperature that island i's sensor last gave. -/
def State.temp (s : State) (i : Nat) : Int := toSigned 16 (s.rf PM_ISLAND_TEMP_TEMP i)

/-- The island with the hottest sensor; the lowest-numbered of several. -/
def State.hottest (s : State) : Nat :=
  (List.range 83).foldl (fun b i => if s.temp b < s.temp i then i else b) 0

/-- T, the hottest sensor, in 1/16 °C. -/
def State.hot (s : State) : Int := s.temp s.hottest

/-- T is at least, or at most, a number of °C. -/
def State.hotAtLeast (s : State) (c : Int) : Bool := decide (16 * c ≤ s.hot)
def State.hotAtMost (s : State) (c : Int) : Bool := decide (s.hot ≤ 16 * c)

/-- The mean of the readings of all islands: the junction temperature that a set of readings stands for. -/
def State.meanTemp (s : State) : Int := ((List.range 83).map s.temp).sum / 83

/-- The sensors report: the registers and objects of R666 and R667 follow. -/
def State.sense (s : State) (readings : List (Nat × Int)) : State :=
  let s := readings.foldl (fun s (e : Nat × Int) =>
    if e.1 < 83 then s.sf PM_ISLAND_TEMP_TEMP e.1 (ofSigned 16 (clampSigned 16 e.2)) else s) s
  let s := s.sf PM_THERM_STATE_HOT_ISLAND 0 s.hottest
  let s := s.sf PM_THERM_STATE_WARN 0 (s.hotAtLeast (s.celsius oTHERM_WARN_C)).toNat
  let first := s.thermal.count == 0
  let t := { s.thermal with sum := s.thermal.sum + s.meanTemp, count := s.thermal.count + 1 }
  let s := { s with thermal := t }
  let top := clampSigned 8 (s.hot / 16)
  let s := if first || decide (s.celsius oTHERM_MAX_C < top) then s.so oTHERM_MAX_C 0 (ofSigned 8 top) else s
  s.so oTHERM_AVG_C 0 (ofSigned 16 (clampSigned 16 (t.sum / t.count)))

/-- EV_THERMAL with a reason (R668). -/
def State.thermalEvent (s : State) (reason : Nat) : State := s.raise evThermal reason

/-- The readings of a command. -/
abbrev Readings := List (Nat × Int)

/-! ## Warning and throttling (R661) -/

/-- THERM_WARN: the sensors report; from THERM.WARN_C on, EV_THERMAL reason 0x01 at most once per second. -/
def execThermWarn (readings : Readings) (s : State) : Host.Outcome State Fault Refusal :=
  .next (
    let s := s.sense readings
    let due := match s.thermal.warnTick with
      | some t => decide (t + ticksPerSecond ≤ s.tb.count)
      | none => true
    if s.bit PM_THERM_STATE_WARN && due then
      { s with thermal := { s.thermal with warnTick := some s.tb.count } }.thermalEvent 0x01
    else s)

/-- So many ticks have passed since the last step of the target frequency. -/
def State.stepDue (s : State) (ticks : Nat) : Bool :=
  match s.thermal.stepTick with
  | some t => decide (t + ticks ≤ s.tb.count)
  | none => true

/-- The target frequency of islands 0–71, in percent of nominal, is set. -/
def State.setTarget (s : State) (pct : Nat) : State :=
  ({ s with thermal := { s.thermal with stepTick := some s.tb.count } }.sf PM_THERM_STATE_FREQ_PCT 0 pct).sf
    PM_THERM_STATE_THROTTLE 0 (if pct < 100 then 1 else 0)

/-- THROTTLE_STEP: every 100 µs from THERM.THROTTLE_C on, 5 % lower, 50 % at most. -/
def execThrottleStep (readings : Readings) (s : State) : Host.Outcome State Fault Refusal :=
  .next (
    let s := s.sense readings
    let p := s.rf PM_THERM_STATE_FREQ_PCT
    if s.hotAtLeast (s.celsius oTHERM_THROTTLE_C) && s.stepDue 12288 && decide (50 < p) then
      let t := s.setTarget (max 50 (p - 5))
      if p = 100 then t.thermalEvent 0x02 else t
    else s)

/-- THROTTLE_RELEASE_STEP: every 1 ms from 3 °C below THERM.THROTTLE_C down, 5 % higher until nominal. -/
def execThrottleReleaseStep (readings : Readings) (s : State) : Host.Outcome State Fault Refusal :=
  .next (
    let s := s.sense readings
    let p := s.rf PM_THERM_STATE_FREQ_PCT
    if s.bit PM_THERM_STATE_THROTTLE && s.hotAtMost (s.celsius oTHERM_THROTTLE_C - 3) && s.stepDue 122880 then
      let t := s.setTarget (min 100 (p + 5))
      if 95 ≤ p then t.thermalEvent 0x03 else t
    else s)

/-! ## The trip (R661, R662) -/

/-- Every rank enters self-refresh without abort points (R423). -/
def State.allSelfRefresh (s : State) : State :=
  (List.range 32).foldl (fun s k =>
    if s.rankLive (k / 4) (k % 4) && (s.drank (k / 4) (k % 4)).selfRefresh.isNone then s.enterSelfRefresh (k / 4) (k % 4)
    else s) s

/-- THERMAL_TRIP: from 120 °C on, the islands are gated and THERMTRIP_N is asserted. -/
def execThermalTrip (readings : Readings) (s : State) : Host.Outcome State Fault Refusal :=
  .next (
    let s := s.sense readings
    if s.hotAtLeast 120 && !s.bit PM_THERM_STATE_TRIP then
      let s := (s.allSelfRefresh.sf PM_THERM_STATE_TRIP 0 1).send (.pin "THERMTRIP_N" false)
      { s with thermal := { s.thermal with cool := none } }.thermalEvent 0x04
    else s)

/-- THERMAL_TRIP_RELEASE: a reading during a trip; after 1 s at 110 °C or below, the trip ends. -/
def execThermalTripRelease (readings : Readings) (s : State) : Host.Outcome State Fault Refusal :=
  .next (
    let s := s.sense readings
    if s.bit PM_THERM_STATE_TRIP then
      if s.hotAtMost 110 then
        match s.thermal.cool with
        | none => { s with thermal := { s.thermal with cool := some s.tb.count } }
        | some t =>
          if t + ticksPerSecond ≤ s.tb.count then
            let s := (s.sf PM_THERM_STATE_TRIP 0 0).send (.pin "THERMTRIP_N" true)
            { s with thermal := { s.thermal with cool := none } }.thermalEvent 0x05
          else s
      else { s with thermal := { s.thermal with cool := none } }
    else s)

/-! ## Supplies and the test port -/

/-- SUPPLY_ALERT: PMB_ALERT_N falls, or a PMBus transaction has failed three times (R668). -/
def execSupplyAlert (s : State) : Host.Outcome State Fault Refusal := .next (s.raise evSupply)

/-- IDCODE (R658). -/
def State.idcode (s : State) : Half :=
  BitVec.ofNat 32 (s.die.stepping % 16 * 2 ^ 28 + s.die.variant.pciDevice % 2 ^ 16 * 2 ^ 12 + 0x2AD * 2 + 1)

/-- The test port takes an instruction. -/
def State.setIr (s : State) (ir : JtagIr) : State := { s with jtag := { s.jtag with ir := ir } }

/-- JTAG_EXTEST: the boundary register drives the pins. `levels` is what the pins show, captured and shifted out. -/
def execJtagExtest (levels : List Bool) (s : State) : Host.Outcome State Fault Refusal :=
  .next (((s.setIr .extest).send (.boundary s.jtag.boundary)).send (.tdo levels))

/-- JTAG_SAMPLE_PRELOAD: the pins are captured and shifted out while the boundary register is loaded. -/
def execJtagSamplePreload (levels preload : List Bool) (s : State) : Host.Outcome State Fault Refusal :=
  .next (
    let t := s.setIr .sample
    { t with jtag := { t.jtag with boundary := preload } }.send (.tdo levels))

/-- JTAG_BYPASS: one bit, captured as 0, stands between TDI and TDO. -/
def execJtagBypass (tdi : List Bool) (s : State) : Host.Outcome State Fault Refusal :=
  .next ((s.setIr .bypass).send (.tdo (false :: tdi)))

/-- JTAG_IDCODE: the identification code, least significant bit first. -/
def execJtagIdcode (s : State) : Host.Outcome State Fault Refusal :=
  .next ((s.setIr .idcode).send (.tdo ((List.range 32).map (fun i => s.idcode.getLsbD i))))

end Sys2Proof.Machine
end

