-- ==== Sys2Proof/Machine/Objects.lean ====
section
/-!
DEFINITION. The object dictionary as Swatch reaches it (R511 to R517, R529, R530): names, values, rights, state rules, value
ranges, and what a write of each object does.
-/

namespace Sys2Proof.Machine

open Reg Ob

/-! ## Names (R511) -/

/-- An object lies at an index, whatever the subindex. -/
def Obj.atIndex (o : Obj) (index : Nat) : Bool := decide (o.index ≤ index) && decide (index < o.index + o.count)

/-- The highest subindex defined at an index, none where the index holds no object. -/
def highestSub (index : Nat) : Option Nat :=
  ((objMap.filter (fun o => o.atIndex index)).map (fun o => o.sub + o.subs - 1)).max?

/-- Subindex 0 of an index: a U8 CONST. -/
def countObject (index highest : Nat) : Obj := ⟨255, index, 1, 0, 1, .u8, .const, highest, 0, 0xFF, false, false, false⟩

/-- The object of a name, and its place. -/
def objectAt (index sub : Nat) : Option (Obj × Nat) :=
  match highestSub index with
  | none => none
  | some h =>
    if sub = 0 then some (countObject index h, 0)
    else match objMap.find? (fun o => o.atIndex index && decide (o.sub ≤ sub) && decide (sub < o.sub + o.subs)) with
      | some o => some (o, (index - o.index) * o.subs + (sub - o.sub))
      | none => none

/-- The index of a place of an object. -/
def Obj.indexOf (o : Obj) (i : Nat) : Nat := o.index + i / o.subs
def Obj.subOf (o : Obj) (i : Nat) : Nat := o.sub + i % o.subs

/-- The code of a type (R512), and of an access (R528). -/
def ObjTy.code : ObjTy → Nat
  | .bool => 1 | .u8 => 2 | .u16 => 3 | .u32 => 4 | .u64 => 5 | .i8 => 6 | .i16 => 7 | .i32 => 8 | .i64 => 9
  | .q15 => 10 | .q31 => 11 | .ticks48 => 12 | .string => 13 | .domain => 14
def ObjAcc.code : ObjAcc → Nat
  | .ro => 0 | .rw => 1 | .wo => 2 | .rws => 3 | .const => 4

/-- The type holds bytes of varying length. -/
def ObjTy.isLong (t : ObjTy) : Bool := t == .string || t == .domain

/-! ## Values -/

/-- The numeric objects whose value is fixed by the die, or follows from the rest of the state (R540, R541). -/
def State.computed (s : State) (o : Obj) : Option Nat :=
  let v := s.die.variant
  let per := fun (t : AccType) => some (s.die.variant.accIslands * t.perIsland)
  if o = oID_STEPPING then some s.die.stepping
  else if o = oID_SERIAL then some s.die.serial
  else if o = oID_UPTIME_S then some (s.tb.periods / ticksPerSecond)
  else if o = oID_PCI_DEVICE then some v.pciDevice
  else if o = oCAP_PANEL_MASK then some (2 ^ v.panels - 1)
  else if o = oCAP_ENGINES then some (16 * v.panels)
  else if o = oCAP_GUSSETS then some (4 * v.panels)
  else if o = oCAP_LDPC_DEC then per .ldpcDec
  else if o = oCAP_LDPC_ENC then per .ldpcEnc
  else if o = oCAP_TURBO then per .turbo
  else if o = oCAP_POLAR then per .polar
  else if o = oCAP_FFT then per .fft
  else if o = oCAP_MATRIX then per .matrix
  else if o = oCAP_BIT then per .bit
  else if o = oCAP_ACC_ISLAND_MASK then some (2 ^ v.accIslands - 1)
  else if o = oCAP_HEM_MASK then some (2 ^ v.hems - 1)
  else if o = oCAP_PATCH_MASK then some (2 ^ v.patches - 1)
  else if o = oCAP_LANE_MASK then some (((List.range 64).map (fun n => if v.lanePresent n then 2 ^ n else 0)).sum)
  else if o = oCAP_LANE_MASK_HI then some 3
  else if o = oCAP_DRAM_CH_MASK then some (2 ^ v.dramChannels - 1)
  else if o = oCAP_DMA_ENG_MASK then some (2 ^ v.dmaEngines - 1)
  else if o = oCAP_MB_PARTITIONS then some v.mbPartitions
  else if o = oCAP_BOLT_MAX then some v.boltMax
  else none

/-- ID.PART. -/
def Variant.partName : Variant → List Byte
  | .cx9840 => textBytes "CX-9840"
  | .cx9832 => textBytes "CX-9832"
  | .cx9820 => textBytes "CX-9820"
  | .cx9816 => textBytes "CX-9816"

/-- The value of an object as bytes, in the byte order of R16. -/
def State.valueOf (s : State) (o : Obj) (i : Nat) : List Byte :=
  if o.ty.isLong then
    if o = oID_VENDOR then textBytes "Lemolser"
    else if o = oID_PART then s.die.variant.partName
    else if o = oID_KEY_DIGEST then s.die.keyDigest
    else if o = oID_CERT then s.die.certificate
    else if o = oMB_IMAGES then s.storedImages
    else if o = oMEM_P_WIN ∧ s.dom o i = [] then List.replicate 16 0
    else s.dom o i
  else valBytes o.ty.size ((s.computed o).getD (s.ob o i))

/-- The default of an object as DESCRIBE reports it (R528): nothing for a write-only object. -/
def State.defaultOf (s : State) (o : Obj) : List Byte :=
  if o.acc = .wo then []
  else if o.acc = .const then s.valueOf o 0
  else if o = oMEM_P_WIN then List.replicate 16 0
  else if o.ty.isLong then []
  else valBytes o.ty.size o.dflt

/-- How often the value has changed, and the tick of the last change. -/
def State.changesOf (s : State) (o : Obj) (i : Nat) : Nat × Nat :=
  if o = oID_UPTIME_S then
    (s.tb.periods / ticksPerSecond, (s.tb.count - s.tb.periods % ticksPerSecond) % 2 ^ 48)
  else Tab.get (0, 0) s.changes (o.key i)

/-! ## Rights (R517, R530) -/

/-- The object belongs to a unit that the variant lacks. -/
def State.unitAbsent (s : State) (o : Obj) (i : Nat) : Bool :=
  let v := s.die.variant
  (o.index == 0x6300 && decide (v.hems ≤ i / o.subs))
    || (o.index == 0xB100 && decide (v.patches ≤ i / o.subs))
    || (o.index == 0xB000 && v.patches == 0)
    || (o.index == 0x5000 && v.boltMax == 0)

/-- The partition in whose family an object is. -/
def State.familyOf (s : State) (o : Obj) (i : Nat) : Option Nat :=
  if [0x2100, 0x3100, 0x4100, 0x6210, 0x6400, 0x7200, 0xC100].contains o.index then some (i / o.subs)
  else if o.index = 0x6300 then s.hemOwner (i / o.subs)
  else none

/-- The role reads an object. -/
def State.roleReads (s : State) (x : Session) (o : Obj) (i : Nat) : Bool :=
  match x.role with
  | 0 => true
  | 1 => o != oSWATCH_CLIENT_KEYS && (match s.familyOf o i with
      | some p => p == x.part
      | none => true)
  | _ => o != oSWATCH_CLIENT_KEYS

/-- The families whose objects a partition's session writes (R530). -/
def writtenFamilies : List Nat := [0x2100, 0x3100, 0x4100, 0x6210, 0x6300, 0x6400]

/-- The role writes an object. A partition's session also attests, loads code and authorizes its images (R604, R606, R608). -/
def State.roleWrites (s : State) (x : Session) (o : Obj) (i : Nat) : Bool :=
  match x.role with
  | 0 => true
  | 1 => o == oCUST_DATA || [oSEC_ATTEST, oSEC_IMAGE_LOAD, oSEC_QUILT_AUTH].contains o
      || (s.familyOf o i == some x.part && writtenFamilies.contains o.index)
  | _ => false

/-! ## State rules and ranges (R529, steps 4 and 5) -/

/-- Codes R19, R22 and R381: some objects are written only in STOPPED, or while the bolt state is ALONE. -/
def State.stateRule (s : State) (o : Obj) (i : Nat) : Option Nat :=
  if o.index = 0x5000 ∧ o.sub ≤ 5 then (if s.boltState ≠ boltAlone then some codeBusy else none)
  else if o.stopped ∧ o.index ≠ 0x6300 then (if s.pstate (i / o.subs) ≠ 1 then some codeBusy else none)
  else none

/-- A partition other than p satisfies a condition. -/
def State.otherHas (s : State) (p : Nat) (f : Nat → Bool) : Bool := (s.otherParts p).any f

/-- The rules of a chain's owner (R286): a write needs the owner and the partition named in STOPPED; naming a partition
while another owns the chain is denied. -/
def State.hemRule (s : State) (o : Obj) (h v : Nat) : Option Nat :=
  let owner := s.hemOwner h
  let stopped := fun (p : Nat) => s.pstate p == 1
  let named := if o = oHEM_OWNER ∧ v < 8 then stopped v else true
  let held := match owner with
    | some p => stopped p
    | none => true
  if !named || !held then some codeBusy
  else match owner with
    | some p => if o = oHEM_OWNER ∧ v < 8 ∧ v ≠ p then some codeDenied else none
    | none => none

/-- The rules that depend on the value: a resource that another partition owns (R22), and those of a chain's owner. -/
def State.valueRule (s : State) (o : Obj) (i v : Nat) : Option Nat :=
  let deny := fun (b : Bool) => if b then some codeDenied else none
  if o = oPART_PANEL_MASK then deny (s.otherHas i (fun q => s.ob o q &&& v != 0))
  else if o = oPART_PATCH_MASK then deny (s.otherHas i (fun q => s.ob o q &&& v != 0))
  else if o = oPART_LANE_MASK then deny (s.otherHas i (fun q => s.ob o q &&& v != 0))
  else if o = oPART_HOST_FUNCTION then deny (v != 0xFF && s.otherHas i (fun q => s.ob o q == v))
  else if o = oPART_QUEUE_BASE then deny (s.otherHas i (fun q =>
    rangesMeet v (s.ob oPART_QUEUE_COUNT i) (s.ob oPART_QUEUE_BASE q) (s.ob oPART_QUEUE_COUNT q)))
  else if o = oPART_QUEUE_COUNT then deny (s.otherHas i (fun q =>
    rangesMeet (s.ob oPART_QUEUE_BASE i) v (s.ob oPART_QUEUE_BASE q) (s.ob oPART_QUEUE_COUNT q)))
  else if o.index = 0x6300 then s.hemRule o (i / o.subs) v
  else none

/-- A window object's bytes (R399). -/
def windowOk (l : List Byte) : Bool :=
  let b := fieldAt l 0 8
  let t := fieldAt l 8 8
  l.length == 16 && b / 2 ^ 48 == 0 && t / 2 ^ 48 == 0 && bitsOf b 11 2 == 0 && bitsOf t 11 0 == 0
    && (b % 4 == 0 || decide (bitsOf b 47 12 ≤ bitsOf t 47 12))

/-- A list of client keys (R534). -/
def clientKeysOk (l : List Byte) : Bool :=
  decide (l.length ≤ 2304) && l.length % 72 == 0
    && (List.range (l.length / 72)).all (fun k => headerZero l (72 * k + 66) 6 && fieldAt l (72 * k + 64) 1 / 8 == 0)

/-- A value in the range of a long object. The security objects check theirs themselves. -/
def longOk (o : Obj) (l : List Byte) : Bool :=
  if o = oMEM_P_WIN then windowOk l
  else if o = oSWATCH_CLIENT_KEYS then clientKeysOk l
  else if o = oBOLT_MEMBER_KEYS then decide (l.length ≤ 512) && l.length % 64 == 0
  else if o = oCUST_DATA then decide (l.length ≤ 64)
  else true

/-- A value in the range of a numeric object. -/
def State.numberOk (s : State) (o : Obj) (v : Nat) : Bool :=
  decide (o.lo ≤ v) && decide (v ≤ o.hi)
    && (if o = oPART_HOST_FUNCTION then decide (v ≤ 4) || (decide (0x10 ≤ v) && decide (v < 0x50)) || v == 0xFF
      else if o = oPART_LANE_MASK then decide (v < 2 ^ 48)
      else if o = oPART_COMMAND then decide (1 ≤ v) && decide (v ≤ 4)
      else if o = oTIME_SYNCE_LANE then decide (v < 48) || v == 0xFF
      else if o = oHEM_OWNER then decide (v < 8) || v == 0xFF
      else if o = oLANES_RETIRE then decide (v < 66) || v == 0xFF
      else if o = oDRAM_RETIRE_RANK then decide (v < 32) || v == 0xFF
      else if o = oBOLT_COMMAND then decide (1 ≤ v) && decide (v ≤ 3)
      else if o = oPM_DEVICE_CMD then decide (1 ≤ v) && decide (v ≤ 3)
      else if o = oFW_COMMAND then decide (1 ≤ v) && decide (v ≤ 5)
      else if o = oFAULT_AUTO_RETIRE then v &&& 0xFF10 == 0
      else if o = oTHERM_THROTTLE_C then decide (s.celsius oTHERM_WARN_C ≤ toSigned 8 v)
      else if o = oMB_P_DRAM_BASE then
        v == 0 || (v % 2 ^ 20 == 0 && decide (dramBase ≤ v) && decide (v < dramBase + 2 ^ 40))
      else true)

/-! ## What a write does -/

/-- The channels that leave partition i by a write of its range are reset (R17). -/
def State.writeChannels (s : State) (o : Obj) (i v : Nat) : State :=
  let t := s.so o i v
  (s.dmaResetThese ((s.channelsOf i).filter (fun c => t.channelOwner c != some i))).so o i v

/-- A value of an object of chapter "The device as a whole" or of a chain's owner takes effect: what leaves a partition is reset
and put into its lowest power state (R17, R286). -/
def State.writeResource (s : State) (o : Obj) (i v : Nat) : State :=
  if o = oDMA_P_CH_BASE ∨ o = oDMA_P_CH_COUNT then s.writeChannels o i v else
  let old := s.ob o i
  let s := s.so o i v
  if o = oPART_PANEL_MASK then (bitsSet 64 (old - (old &&& v))).foldl (fun s n => s.panelOff n) s
  else if o = oPART_PATCH_MASK then (bitsSet 8 (old - (old &&& v))).foldl (fun s n => s.patchOff n) s
  else if o = oPART_LANE_MASK then (bitsSet 48 (old - (old &&& v))).foldl (fun s n => s.laneOff n) s
  else s

/-- PART.COMMAND (R21). The reply to a valid start comes when the start has ended. -/
def State.partCommandValue (s : State) (p v : Nat) : Nat × State :=
  match v with
  | 1 => s.createPart p
  | 2 => let r := s.startPart p; (if r.1 = codeDone then codeLater else r.1, r.2)
  | 3 => s.stopPart p
  | _ => s.deletePart p

/-- BOLT.COMMAND (R381): BUSY where the bolt state does not allow it. -/
def State.boltCommandValue (s : State) (v : Nat) (y : Sensed) : Nat × State :=
  let inBolt := decide (boltMember ≤ s.boltState)
  match v with
  | 1 => if s.boltState = boltAlone then (codeDone, s.joinCommand y.nonce) else (codeBusy, s)
  | 2 => if inBolt then (codeDone, s.leaveCommand) else (codeBusy, s)
  | _ => if inBolt then (codeDone, s.republishCommand) else (codeBusy, s)

/-- PM.DEVICE_CMD (R564). -/
def State.deviceCommandValue (s : State) (v : Nat) (y : Sensed) : Nat × State :=
  match v with
  | 1 => s.endHoldCommand
  | 2 => s.deepCommand y.hits
  | _ => s.deviceOff

/-- FW.COMMAND (R601, R602). -/
def State.fwCommandValue (s : State) (v : Nat) (y : Sensed) : Nat × State :=
  match v with
  | 1 => s.fwSwitch
  | 2 => s.fwConfirm
  | 3 => s.fwRevert
  | 4 => s.raiseFwSvn true y.millivolts
  | _ => s.raiseMbSvn true y.millivolts

/-- A write of a numeric object whose rules and range hold: its code and its effect. -/
def State.applyNumber (s : State) (x : Session) (o : Obj) (i v : Nat) (y : Sensed) : Nat × State :=
  let admin := x.role == 0
  let done := fun (s : State) => (codeDone, s)
  if o = oPART_COMMAND then s.partCommandValue i v
  else if o = oTIME_SOURCE then done (s.writeSource v)
  else if o = oTIME_HOST_STATE then done (s.writeHostState v)
  else if o = oLANES_RETIRE then
    if v = 0xFF then done s else if s.die.variant.lanePresent v then done (s.retireLane v causeManual) else (codeNoUnit, s)
  else if o = oDRAM_RETIRE_RANK then
    if v = 0xFF then done s else if s.rankState (v / 4) (v % 4) = 0 then (codeNoUnit, s)
    else done (s.degradeRank (v / 4) (v % 4) causeManual)
  else if o = oBOLT_COMMAND then s.boltCommandValue v y
  else if o = oSTORE_COMMAND then s.clearStore admin v
  else if o = oPM_DEVICE_CMD then s.deviceCommandValue v y
  else if o = oPM_G_TOL_US then done (((s.so o i v).evaluateGroup i y.hits).refreshDevice)
  else if o = oQUILT_SCRUB_PERIOD_US then done (s.setScrub (s.rf QS_CTRL_ENABLE) v)
  else if o = oFAULT_RETIRE then s.faultRetire v
  else if o = oFAULT_REINSTATE then s.faultReinstate v
  else if o = oFAULT_WARM_RESET then s.warmCommand admin v
  else if o = oFW_UPDATE then s.fwUpdate v y.programmed
  else if o = oFW_COMMAND then s.fwCommandValue v y
  else if o = oSEC_FUSE_REVOKE then s.fuseRevoke admin v y.millivolts
  else if o = oSEC_FUSE_POLICY then s.fusePolicy admin v y.millivolts
  else if o = oMB_FRAMING_STORE then s.framingStore v y.programmed
  else done (s.writeResource o i v)

/-- The key list allows a role, and a partition where the role is PARTITION, to a key (R531, R534). -/
def keyAllows (l client : List Byte) (role part : Nat) : Bool :=
  (List.range (l.length / 72)).any (fun k =>
    sliceBytes l (72 * k) 64 == shakeBytes 64 client && natBit (fieldAt l (72 * k + 64) 1) role
      && (role != 1 || natBit (fieldAt l (72 * k + 65) 1) part))

/-- A new key list: the sessions whose role's key it no longer lists end (R533). -/
def State.setClientKeys (s : State) (l : List Byte) : State :=
  let old := s.dom oSWATCH_CLIENT_KEYS
  let s := s.sdom oSWATCH_CLIENT_KEYS 0 l
  s.keepSessions (fun x => !keyAllows old x.client x.role x.part || keyAllows l x.client x.role x.part)

/-- A write of a long object. -/
def State.applyLong (s : State) (x : Session) (o : Obj) (i : Nat) (l : List Byte) (y : Sensed) : Nat × State :=
  let admin := x.role == 0
  if o = oSWATCH_CLIENT_KEYS then (codeDone, s.setClientKeys l)
  else if o = oSEC_ATTEST then s.attestWrite x l
  else if o = oSEC_KEY_SLOT0 then s.keyWrite x 0 l y.millivolts
  else if o = oSEC_KEY_SLOT1 then s.keyWrite x 1 l y.millivolts
  else if o = oSEC_FUSE_CUST_KEY then s.fuseKey admin l y.millivolts
  else if o = oSEC_IMAGE_LOAD then s.imageLoad x l
  else if o = oSEC_QUILT_AUTH then s.quiltAuth x l
  else if o = oSEC_DIAG_UNLOCK then s.diagUnlock x l
  else (codeDone, s.sdom o i l)

/-! ## Slot-boundary writes (R515) -/

/-- The boundary at which a write processed at tick `t` takes effect. -/
def applyTick (t : Nat) : Nat := (t + 2048 + 61439) / 61440 * 61440

/-- A written value waits for its boundary; it is journaled at once. -/
def State.deferNumber (s : State) (o : Obj) (i v : Nat) : State :=
  let s := s.commit o i (valBytes o.ty.size v)
  { s with rws := s.rws ++ [(o.key i, v, applyTick s.tb.count)] }

/-- A written value waits. -/
def State.waits (s : State) (o : Obj) (i : Nat) : Bool := s.rws.any (fun e => e.1 == o.key i)

/-- A waiting value takes effect at its boundary. -/
def State.applyRws (s : State) (e : Nat × Nat × Nat) : State :=
  let old := Tab.get (match objectOf e.1 with
    | some o => o.dflt
    | none => 0) s.objs e.1
  let t := { s with objs := s.objs.set e.1 e.2.1 }
  if old = e.2.1 then t
  else { t with changes := t.changes.set e.1 ((Tab.get (0, 0) t.changes e.1).1 + 1, e.2.2 % 2 ^ 48) }

/-- RWS_APPLY: the values whose boundary has come take effect together, in the order in which they were processed. -/
def execRwsApply (s : State) : Host.Outcome State Fault Refusal :=
  .next (
    let due := s.rws.filter (fun (e : Nat × Nat × Nat) => decide (e.2.2 ≤ s.tb.count))
    let s := { s with rws := s.rws.filter (fun (e : Nat × Nat × Nat) => !decide (e.2.2 ≤ s.tb.count)) }
    due.foldl (fun s e => s.applyRws e) s)

/-! ## A write as a whole (R529) -/

/-- Steps 2 and 3 of R529 for a write; subindices are served by `sub` and what is no object has been refused. -/
def State.writeBarred (s : State) (x : Session) (o : Obj) (i : Nat) : Option Nat :=
  if s.unitAbsent o i then some codeNoUnit
  else if o.acc = .ro ∨ o.acc = .const ∨ s.roleWrites x o i = false then some codeDenied
  else none

/-- DONE of a persistent write is PARTIAL while the store has failed (R520). -/
def State.storeCode (s : State) (o : Obj) (code : Nat) : Nat :=
  if code = codeDone ∧ o.persistent = true ∧ s.ob oSTORE_STATE = 3 then codePartial else code

/-- Steps 4 to 6 for a numeric object whose type agrees: the code and the state. -/
def State.writeNumber (s : State) (x : Session) (o : Obj) (i v : Nat) (y : Sensed) : Nat × State :=
  match s.stateRule o i, s.valueRule o i v with
  | some c, _ => (c, s)
  | none, some c => (c, s)
  | none, none =>
    if !s.numberOk o v then (codeBadDescriptor, s)
    else if o.acc = .rws then (s.storeCode o codeDone, s.deferNumber o i v)
    else
      let r := s.applyNumber x o i v y
      (r.2.storeCode o r.1, r.2)

/-- Steps 4 to 6 for a long object, whose value has been staged. -/
def State.writeLong (s : State) (x : Session) (o : Obj) (i : Nat) (l : List Byte) (y : Sensed) : Nat × State :=
  match s.stateRule o i with
  | some c => (c, s)
  | none =>
    if !longOk o l then (codeBadDescriptor, s)
    else
      let r := s.applyLong x o i l y
      (r.2.storeCode o r.1, r.2)

end Sys2Proof.Machine
end

