-- ==== Sys2Proof/Machine/Swatch.lean ====
section
/-!
DEFINITION. Swatch (R521 to R539): messages, their transports and tags, sequence numbers, sessions, requests, subscriptions
and relays; and the mailbox (R505).
-/

namespace Sys2Proof.Machine

open Reg Ob

def evSwatch : Nat := 0x0CA0

/-! ## The mailbox (R505) -/

/-- A requester reaches the page of function f: its own host software, and Thimble firmware. -/
def reachesPage (u f : Nat) : Bool := hasPage f && (isThimble u || functionOf u == some f)

/-- A write of MBX_CTRL. -/
def State.writeMbxCtrl (s : State) (u f v : Nat) : State :=
  if !reachesPage u f then s else
  let s := (s.sf MBX_CTRL_VECTOR f (bitsOf v 23 13)).sf MBX_CTRL_REQ_LEN f (bitsOf v 12 0)
  let s := if natBit v 29 then s.sf MBX_CTRL_DONE f 0 else s
  let n := s.rf MBX_CTRL_REQ_LEN f
  if natBit v 31 && !s.bit MBX_CTRL_BUSY f && decide (1 ≤ n) && decide (n ≤ 4096) then
    (s.sf MBX_CTRL_BUSY f 1).setMailbox f { s.mailboxOf f with since := s.tb.count }
  else s

/-- MAILBOX_GO: a write of MBX_CTRL with GO 1. -/
def execMailboxGo (requester function : Nat) (control : Half) (s : State) : Host.Outcome State Fault Refusal :=
  .next (s.atIsland requester 76 (fun s => s.writeMbxCtrl requester function (control ||| 0x80000000).toNat))

/-- MAILBOX_TIMEOUT: during a Thimble restart a request has waited 10 ms (R589). -/
def execMailboxTimeout (function : Nat) (s : State) : Host.Outcome State Fault Refusal :=
  .next (
    if s.thimbleUp = false ∧ (s.mailboxOf function).since + ticksPerSecond / 100 ≤ s.tb.count then s.mailboxDone function []
    else s)

/-! ## Messages (R522, R523) -/

def swType (m : List Byte) : Nat := fieldAt m 1 1
def swDevice (m : List Byte) : Nat := fieldAt m 4 1
def swFlags (m : List Byte) : Nat := fieldAt m 5 1
def swSession (m : List Byte) : Nat := fieldAt m 8 4
def swSeq (m : List Byte) : Nat := fieldAt m 12 4
def swBody (m : List Byte) : List Byte := sliceBytes m 16 (m.length - 48)
def swTag (m : List Byte) : List Byte := sliceBytes m (m.length - 32) 32

/-- The types of requests, and of what a die sends (R525). -/
def swRequests : List Nat := [0x01, 0x02, 0x10, 0x11, 0x12, 0x13, 0x14, 0x15, 0x30, 0x31]
def swReplies : List Nat := [0x40, 0x7F] ++ swRequests.map (fun t => t + 0x80)

/-- The parts of the header that all messages share. -/
def swHeader (m : List Byte) : Bool :=
  fieldAt m 0 1 == 1 && decide (48 ≤ m.length) && decide (m.length ≤ 1440) && fieldAt m 2 2 == m.length
    && fieldAt m 7 1 == 0 && (decide (swDevice m < 8) || swDevice m == 0xFF)

/-- A request that is not discarded under R522. -/
def swRequest (m : List Byte) : Bool :=
  swHeader m && swRequests.contains (swType m) && fieldAt m 6 1 == 0
    && (swFlags m == 0 || (swFlags m == 2 && swType m == 0x11)) && (swType m != 1 || swSession m == 0)

/-- What a member sends back to the leader. -/
def swReply (m : List Byte) : Bool := swHeader m && swReplies.contains (swType m)

/-- The tag of a message holds under a key. -/
def swTagOk (key m : List Byte) : Bool := swTagOf key (m.take (m.length - 32)) == swTag m

/-! ## Transports (R521, R537, R538) -/

/-- A message is discarded and counted. -/
def State.discard (s : State) : State := s.inco oSWATCH_DISCARDS 0 32

/-- A Swatch frame for this die: source, VLAN ID and message; another EtherType is counted and discarded. -/
def State.swatchFrame (s : State) (frame : List Byte) : Option (Nat × Nat × List Byte) × State :=
  let n := frame.length
  let f := parseFrame frame
  if n < 64 ∨ 1522 < n ∨ frame.drop (n - 4) ≠ ethernetFcs (frame.take (n - 4)) then (none, s)
  else if f.ethertype ≠ 0x88B5 then (none, s.discard)
  else if f.dst ≠ s.ob oSWATCH_MAC then (none, s)
  else (some (f.src, f.vlan, f.body), s)

/-- The message that a transport delivers, and the way back. -/
def State.incoming (s : State) (via : SwatchVia) (bytes : List Byte) : Option (List Byte × Reply) × State :=
  match via with
  | .mailbox f =>
    if s.bit MBX_CTRL_BUSY f then (some (sliceBytes (s.mailboxOf f).request 0 (s.rf MBX_CTRL_REQ_LEN f), .mailbox f), s)
    else (none, s)
  | .lane n =>
    if 64 ≤ n ∧ n < 66 ∧ natBit (s.ob oSWATCH_MGMT_PORT) (n - 64) = true ∧ s.laneHears n = true then
      match s.swatchFrame bytes with
      | (some (mac, vlan, m), s) => (some (m, .lane n mac vlan), s)
      | (none, s) => (none, s)
    else (none, s)
  | .port p =>
    if s.bit FH_PORT_STATE_UP p && (parseFrame bytes).vlan == s.ob oFH_MGMT_VLAN then
      match s.swatchFrame bytes with
      | (some (mac, vlan, m), s) => (some (m, .port p mac vlan), s)
      | (none, s) => (none, s)
    else (none, s)
  | .relay d =>
    match s.seam.arrivals.findSome? (fun (a : Nat × SeamBody) => match a.2 with
      | .swatch m => if a.1 = d then some (a, m) else none
      | _ => none) with
    | some (a, m) => (some (m, .relay d), s.setSeam { s.seam with arrivals := s.seam.arrivals.erase a })
    | none => (none, s)

/-! ## Sessions (R530 to R534) -/

/-- A session by its ID, whether or not it has been accepted. -/
def State.anySession (s : State) (id : Nat) : Option Session := s.sessions.find? (fun x => x.id == id)

/-- A session's time has not run out: 1 s for its PROOF (R531), then SWATCH.IDLE_S (R533). -/
def State.alive (s : State) (x : Session) : Bool :=
  if x.accepted then decide (s.tb.count < x.tick + s.ob oSWATCH_IDLE_S * ticksPerSecond)
  else decide (s.tb.count ≤ x.tick + ticksPerSecond)

/-- A session ends, with its subscriptions and staging. -/
def State.closeSession (s : State) (id : Nat) : State := s.keepSessions (fun x => x.id != id)

/-- The partition that a mailbox serves. -/
def State.mailboxPart (s : State) (f p : Nat) : Bool := s.assigned p && s.ob oPART_HOST_FUNCTION p == f

/-- The transport allows a role (R538). -/
def State.viaAllows (s : State) (r : Reply) (role part : Nat) : Bool :=
  match r with
  | .mailbox f => role == 2 || (role == 0 && f == 0) || (role == 1 && s.mailboxPart f part)
  | _ => true

/-- An OPEN is allowed (R531, R534); the second part says that it is so only for want of a key list. -/
def State.openAllowed (s : State) (r : Reply) (role part : Nat) (client : List Byte) : Bool × Bool :=
  let l := s.dom oSWATCH_CLIENT_KEYS
  if l.isEmpty then (role == 0 && r == .mailbox 0, true)
  else (keyAllows l client role part && s.viaAllows r role part, false)

/-- SWATCH.SESSIONS follows the sessions held. -/
def State.countSessions (s : State) : State := s.so oSWATCH_SESSIONS 0 s.sessions.length

/-- An OPEN whose tag holds, with what the die draws at random: the reply, and the state with the session. -/
def State.openRequest (s : State) (m : List Byte) (r : Reply) (y : Sensed) : State :=
  let b := swBody m
  let role := fieldAt b 0 1
  let part := fieldAt b 1 1
  let client := sliceBytes b 92 57
  let say := fun (s : State) (code : Nat) (body : List Byte) =>
    s.answer r (swMessage 0x81 (swDevice m) 0 code 0 (swSeq m) body zeroKey)
  if b.length ≠ 152 ∨ headerZero b 2 2 = false ∨ headerZero b 149 3 = false ∨ 2 < role
      ∨ (if role = 1 then 8 ≤ part else part ≠ 0xFF) then say s codeBadDescriptor []
  else
    let ok := s.openAllowed r role part client
    if !ok.1 then say s codeDenied []
    else if 16 ≤ s.sessions.length then (say s codeBusy []).raise evSwatch 0x02
    else if y.session % 2 ^ 32 = 0 ∨ (s.anySession (y.session % 2 ^ 32)).isSome = true then s
    else
      let id := y.session % 2 ^ 32
      let nd := sliceBytes y.nonce 0 32
      let xd := sliceBytes (Config.x448Public y.secret) 0 56
      let head := valBytes 4 id ++ nd ++ xd ++ valBytes 2 s.die.certificate.length ++ [0, 0]
      let t := b ++ head ++ s.die.certificate
      let sig := sliceBytes (Config.ed448Sign (shakeBytes 64 (textBytes "SWATCH-D" ++ t))) 0 114
      let k := shakeBytes 64 (Config.x448 y.secret (sliceBytes b 36 56) ++ sliceBytes b 4 32 ++ nd ++ valBytes 4 id)
      let x : Session := { id := id, role := role, part := part, accepted := false, reply := r, client := client,
                           transcript := t ++ sig, kcd := sliceBytes k 0 32, kdc := sliceBytes k 32 32, tick := s.tb.count,
                           last := swSeq m, held := [], replies := [], fails := 0, staging := none, subs := [], notes := [],
                           notifySeq := 1, nonce := none, diag := false,
                           starts := [] }
      let s := { s with sessions := s.sessions ++ [x] }.countSessions
      let s := say s codeDone (head ++ sig ++ s.die.certificate)
      if ok.2 then s.raise evSwatch 0x01 else s

/-- SWATCH_OPEN_TIMEOUT: PROOF has not come within 1 s of CHALLENGE. -/
def execSwatchOpenTimeout (session : Nat) (s : State) : Host.Outcome State Fault Refusal :=
  .next (match s.anySession session with
    | some x => if x.accepted = false ∧ s.alive x = false then s.closeSession session else s
    | none => s)

/-- SWATCH_SESSION_IDLE_TIMEOUT. -/
def execSwatchSessionIdleTimeout (session : Nat) (s : State) : Host.Outcome State Fault Refusal :=
  .next (match s.session session with
    | some x => if s.alive x = false then s.closeSession session else s
    | none => s)

/-! ## Requests -/

/-- What a request answers: code, flags, body. -/
structure SwAnswer where
  code : Nat
  flags : Nat
  body : List Byte

/-- An answer without a body. -/
def SwAnswer.bare (code : Nat) : SwAnswer := ⟨code, 0, []⟩

/-- PROOF (R531): a signature that fails ends the session. -/
def State.proofRequest (s : State) (x : Session) (b : List Byte) : SwAnswer × State :=
  if b.length ≠ 116 ∨ headerZero b 114 2 = false ∨ x.accepted = true then (.bare codeBadDescriptor, s)
  else if Config.ed448Verify x.client (shakeBytes 64 (textBytes "SWATCH-C" ++ x.transcript)) (sliceBytes b 0 114) then
    (⟨codeDone, 0, valBytes 1 x.role ++ valBytes 1 x.part ++ [0, 0] ++ valBytes 4 (s.ob oSWATCH_IDLE_S)⟩,
      s.modSession x.id (fun x => { x with accepted := true, tick := s.tb.count }))
  else (.bare codeDenied, s.closeSession x.id)

/-- A request that names index 0xF000 or above: no object there is described, and without an unlock every request is
denied (R545, R612). -/
def diagCode (x : Session) : Nat := if x.diag then codeBadDescriptor else codeDenied

/-- The value that a READ returns, with the session's own report and challenge among them; or the code that refuses it. -/
def State.readValue (s : State) (x : Session) (o : Obj) (i : Nat) (y : Sensed) : Except Nat (List Byte) × State :=
  if o.acc = .wo ∨ s.roleReads x o i = false then (.error codeDenied, s)
  else if o = oSEC_ATTEST then
    match x.nonce with
    | some n => (.ok (s.attestReport x n), s)
    | none => (.error codeBadDescriptor, s)
  else if o = oSEC_DIAG_CHALLENGE then
    if x.role = 0 then let r := s.challenge (sliceBytes y.nonce 0 32); (.ok r.1, r.2) else (.error codeDenied, s)
  else (.ok (s.valueOf o i), s)

/-- READ (R526). -/
def State.readRequest (s : State) (x : Session) (b : List Byte) (y : Sensed) : SwAnswer × State :=
  let index := fieldAt b 0 2
  let sub := fieldAt b 2 1
  let off := fieldAt b 4 4
  let most := fieldAt b 8 2
  if b.length ≠ 12 ∨ headerZero b 3 1 = false ∨ headerZero b 10 2 = false ∨ most < 1 ∨ 1024 < most then
    (.bare codeBadDescriptor, s)
  else if 0xF000 ≤ index then (.bare (diagCode x), s)
  else match objectAt index sub with
    | none => (.bare codeBadDescriptor, s)
    | some (o, i) =>
      match s.readValue x o i y with
      | (.error c, s) => (.bare c, s)
      | (.ok v, s) =>
        if v.length < off ∨ (o.ty.isLong = false ∧ off ≠ 0) then (.bare codeBadDescriptor, s)
        else
          let n := min most (v.length - off)
          let flags := (if off + n < v.length then 4 else 0) + (if s.waits o i then 1 else 0)
          (⟨codeDone, flags, valBytes 2 index ++ valBytes 1 sub ++ valBytes 1 o.ty.code ++ valBytes 4 off
            ++ valBytes 4 v.length ++ valBytes 2 n ++ valBytes 2 (s.changesOf o i).1 ++ sliceBytes v off n⟩, s)

/-- The segments of a STRING or DOMAIN value: the bytes staged with this one, none where it does not continue them. -/
def Session.stage (x : Session) (key off : Nat) (data : List Byte) : Option (List Byte) :=
  let l := if off = 0 then some data
    else match x.staging with
      | some (k, old) => if k = key ∧ old.length = off then some (old ++ data) else none
      | none => none
  match l with
  | some l => if l.length ≤ 65535 then some l else none
  | none => none

/-- A WRITE of a long object. -/
def State.writeSegment (s : State) (x : Session) (o : Obj) (i off : Nat) (final : Bool) (data : List Byte) (y : Sensed) :
    Nat × State :=
  match x.stage (o.key i) off data with
  | none => (codeBadDescriptor, s.modSession x.id (fun x => { x with staging := none }))
  | some l =>
    if final then
      let s := s.modSession x.id (fun x => { x with staging := none })
      s.writeLong { x with staging := none } o i l y
    else (codeDone, s.modSession x.id (fun x => { x with staging := some (o.key i, l) }))

/-- WRITE (R527), judged in the order of R529. -/
def State.writeRequest (s : State) (x : Session) (final : Bool) (b : List Byte) (y : Sensed) : SwAnswer × State :=
  let index := fieldAt b 0 2
  let sub := fieldAt b 2 1
  let off := fieldAt b 4 4
  let n := fieldAt b 8 2
  let data := b.drop 12
  if b.length < 12 ∨ headerZero b 10 2 = false ∨ 1024 < n ∨ data.length ≠ n then (.bare codeBadDescriptor, s)
  else if 0xF000 ≤ index then (.bare (diagCode x), s)
  else match objectAt index sub with
    | none => (.bare codeBadDescriptor, s)
    | some (o, i) =>
      match s.writeBarred x o i, s.stateRule o i with
      | some c, _ => (.bare c, s)
      | none, some c => (.bare c, s)
      | none, none =>
        if fieldAt b 3 1 ≠ o.ty.code then (.bare codeBadDescriptor, s)
        else
          let r := if o.ty.isLong then s.writeSegment x o i off final data y
            else if off = 0 ∧ n = o.ty.size ∧ final = true then s.writeNumber x o i (bytesVal data) y
            else (codeBadDescriptor, s)
          if r.1 = codeDone ∨ r.1 = codePartial then
            let slot := o.acc == .rws
            (⟨r.1, if slot then 1 else 0, writeBody index sub (if slot then applyTick s.tb.count % 2 ^ 48 else 0)⟩, r.2)
          else (.bare r.1, r.2)

/-- DESCRIBE (R528). -/
def State.describeRequest (s : State) (x : Session) (b : List Byte) : SwAnswer × State :=
  let index := fieldAt b 0 2
  let sub := fieldAt b 2 1
  if b.length ≠ 12 ∨ headerZero b 3 9 = false then (.bare codeBadDescriptor, s)
  else if 0xF000 ≤ index then (.bare (diagCode x), s)
  else match objectAt index sub with
    | none => (.bare codeBadDescriptor, s)
    | some (o, _) =>
      let d := s.defaultOf o
      let d := if 64 < d.length then [] else d
      (⟨codeDone, 0, valBytes 2 index ++ valBytes 1 sub ++ valBytes 1 o.ty.code ++ valBytes 1 o.acc.code
        ++ valBytes 1 ((if o.persistent then 1 else 0) + (if o.history then 2 else 0)) ++ valBytes 2 d.length
        ++ sliceBytes d 0 64⟩, s)

/-! ## Subscriptions (R535, R536) -/

/-- The objects that a subscription names: for subindex 0xFF those of the index that can be read. -/
def subObjects (index sub : Nat) : List (Obj × Nat) :=
  if sub = 0xFF then
    match highestSub index with
    | some h => (((List.range (h + 1)).filterMap (fun k => objectAt index k))).filter (fun e => e.1.acc != .wo)
    | none => []
  else match objectAt index sub with
    | some e => [e]
    | none => []

/-- SUBSCRIBE. -/
def State.subscribeRequest (s : State) (x : Session) (b : List Byte) : SwAnswer × State :=
  let index := fieldAt b 0 2
  let sub := fieldAt b 2 1
  let mode := fieldAt b 3 1
  let minMs := fieldAt b 4 2
  let period := fieldAt b 6 2
  let l := subObjects index sub
  if b.length ≠ 8 then (.bare codeBadDescriptor, s)
  else if 0xF000 ≤ index then (.bare (diagCode x), s)
  else if l.isEmpty then (.bare codeBadDescriptor, s)
  else if l.any (fun e => e.1.acc == .wo || !s.roleReads x e.1 e.2) then (.bare codeDenied, s)
  else if 64 ≤ x.subs.length ∨ 256 ≤ (s.sessions.map (fun y => y.subs.length)).sum then (.bare codeBusy, s)
  else if 2 < mode ∨ minMs < 10 ∨ 60000 < minMs ∨ (mode ≠ 0 ∧ (period < 10 ∨ 60000 < period)) then (.bare codeBadDescriptor, s)
  else
    let id := ((List.range 64).find? (fun k => !x.subs.any (fun u => u.id == k))).getD 0
    let marks := l.foldl (fun (t : Tab (Nat × Nat × Option Nat)) e =>
      t.set (e.1.key e.2) ((s.changesOf e.1 e.2).1, (s.changesOf e.1 e.2).1, none)) []
    let u : Sub := ⟨id, index, sub, mode, minMs, period, s.tb.count, marks⟩
    (⟨codeDone, 0, valBytes 1 id ++ List.replicate 7 0⟩, s.modSession x.id (fun x => { x with subs := x.subs ++ [u] }))

/-- UNSUBSCRIBE: its body is laid out as the reply to SUBSCRIBE is. -/
def State.unsubscribeRequest (s : State) (x : Session) (b : List Byte) : SwAnswer × State :=
  let id := fieldAt b 0 1
  if b.length ≠ 8 ∨ headerZero b 1 7 = false ∨ x.subs.any (fun u => u.id == id) = false then (.bare codeBadDescriptor, s)
  else (.bare codeDone, s.modSession x.id (fun x => { x with subs := x.subs.filter (fun u => u.id != id) }))

/-- POLL: the oldest NOTIFY body queued. -/
def State.pollRequest (s : State) (x : Session) (b : List Byte) : SwAnswer × State :=
  if !b.isEmpty then (.bare codeBadDescriptor, s)
  else match x.notes with
    | [] => (.bare codeDone, s)
    | n :: r => (⟨codeDone, if r.isEmpty then 0 else 4, n⟩, s.modSession x.id (fun x => { x with notes := r }))

/-- KEEPALIVE, and CLOSE, after whose reply the session ends. -/
def State.keepaliveRequest (s : State) (b : List Byte) : SwAnswer × State :=
  (.bare (if b.isEmpty then codeDone else codeBadDescriptor), s)
def State.closeRequest (s : State) (x : Session) (b : List Byte) : SwAnswer × State :=
  if b.isEmpty then (.bare codeDone, s.closeSession x.id) else (.bare codeBadDescriptor, s)

/-- A NOTIFY body goes to a session's client, or waits for its POLL. -/
def State.notify (s : State) (x : Session) (body : List Byte) : State :=
  match x.reply with
  | .mailbox _ =>
    s.modSession x.id (fun x => { x with notes := (x.notes ++ [body]).drop ((x.notes ++ [body]).length - 64) })
  | r =>
    (s.modSession x.id (fun x => { x with notifySeq := x.notifySeq + 1 })).answer r
      (swMessage 0x40 0xFF 0 0 x.id x.notifySeq body x.kdc)

/-- A span of milliseconds in ticks. -/
def msTicks (n : Nat) : Nat := n * (ticksPerSecond / 1000)

/-- A notice of a subscription falls due for an object: whether for a change, or for its period. -/
def State.noticeDue (s : State) (u : Sub) (o : Obj) (i : Nat) (mark : Nat × Nat × Option Nat) : Option Bool :=
  let changed := decide (u.mode ≠ 1) && (s.changesOf o i).1 != mark.2.1
    && (match mark.2.2 with
      | some t => decide (t + msTicks u.minMs ≤ s.tb.count)
      | none => true)
  let periodic := decide (u.mode ≠ 0) && decide (mark.2.2.getD u.since + msTicks u.periodMs ≤ s.tb.count)
  if changed then some true else if periodic then some false else none

/-- SWATCH_NOTIFY: a change or a period of one object of a subscription. -/
def execSwatchNotify (session sub subindex : Nat) (s : State) : Host.Outcome State Fault Refusal :=
  .next (match s.session session with
    | none => s
    | some x =>
      match x.subs.find? (fun u => u.id == sub) with
      | none => s
      | some u =>
        match objectAt u.index subindex with
        | none => s
        | some (o, i) =>
          match u.marks.find? (fun (e : Nat × Nat × Nat × Option Nat) => e.1 == o.key i) with
          | none => s
          | some (_, mark) =>
            match s.noticeDue u o i mark with
            | none => s
            | some change =>
              let c := s.changesOf o i
              let v := s.valueOf o i
              let v := if v.length ≤ 64 then v else []
              let body := valBytes 1 u.id ++ valBytes 1 subindex ++ valBytes 2 u.index ++ valBytes 4 (c.1 - mark.1)
                ++ valBytes 8 (if change then c.2 else s.now) ++ valBytes 1 o.ty.code ++ valBytes 1 v.length ++ [0, 0] ++ v
              let s := s.modSession x.id (fun x => { x with subs := x.subs.map (fun (w : Sub) =>
                if w.id = sub then { w with marks := w.marks.set (o.key i) (mark.1, c.1, some s.tb.count) } else w) })
              s.notify x body)

/-! ## Receiving (R523, R524) -/

/-- One request of a session, by its type. -/
def State.serve1 (s : State) (x : Session) (m : List Byte) (y : Sensed) : SwAnswer × State :=
  let b := swBody m
  match swType m with
  | 0x02 => s.proofRequest x b
  | 0x10 => s.readRequest x b y
  | 0x11 => s.writeRequest x (natBit (swFlags m) 1) b y
  | 0x12 => s.describeRequest x b
  | 0x13 => s.subscribeRequest x b
  | 0x14 => s.unsubscribeRequest x b
  | 0x15 => s.pollRequest x b
  | 0x30 => s.keepaliveRequest b
  | _ => s.closeRequest x b

/-- What stands for what the die senses where a command gives no more of it. -/
def Sensed.none : Sensed := ⟨0, [], [], 0, [], false⟩

/-- The next request of a session is processed: its reply is kept and sent. A valid start command is answered when the start
has ended (R26). -/
def State.process (s : State) (x : Session) (r : Reply) (m : List Byte) (y : Sensed) : State :=
  let a := s.serve1 x m y
  if a.1.code = codeLater then
    a.2.modSession x.id (fun x => { x with
      last := swSeq m, held := x.held.del (swSeq m)
      starts := x.starts ++ [⟨fieldAt (swBody m) 0 2 % 8, swSeq m, swDevice m, r⟩] })
  else
  let reply := swMessage (swType m + 0x80) (swDevice m) a.1.flags a.1.code x.id (swSeq m) a.1.body x.kdc
  let s := a.2.modSession x.id (fun x => { x with
    last := swSeq m, held := x.held.del (swSeq m)
    replies := Tab.set (x.replies.filter (fun (e : Nat × List Byte) => decide (swSeq m < e.1 + 8))) (swSeq m) reply })
  s.answer r reply

/-- The requests held are processed while the gap stays filled. -/
def State.drainHeld (s : State) (id : Nat) (r : Reply) : Nat → List Sensed → State
  | 0, _ => s
  | n + 1, y =>
    match s.session id with
    | none => s
    | some x =>
      match x.held.find? (fun (e : Nat × List Byte) => e.1 == x.last + 1) with
      | none => s
      | some (_, m) => (s.process x r m (y.headD Sensed.none)).drainHeld id r n y.tail

/-- A session message whose tag has failed (R523). -/
def State.tagFailed (s : State) (x : Session) : State :=
  let s := (s.inco oSWATCH_TAG_FAILS 0 32).modSession x.id (fun x => { x with fails := x.fails + 1 })
  if 16 ≤ x.fails + 1 then (s.closeSession x.id).raise evSwatch 0x03 else s

/-- A request of a session, by its sequence number (R524). -/
def State.sequence (s : State) (x : Session) (r : Reply) (m : List Byte) (y : List Sensed) : State :=
  let n := swSeq m
  if n = x.last + 1 then (s.process x r m (y.headD Sensed.none)).drainHeld x.id r 8 y.tail
  else if x.last + 2 ≤ n ∧ n ≤ x.last + 8 then s.modSession x.id (fun x => { x with held := x.held.set n m })
  else if n ≤ x.last ∧ x.last ≤ n + 7 then
    match x.replies.find? (fun (e : Nat × List Byte) => e.1 == n) with
    | some (_, l) => s.answer r l
    | none => s
  else s

/-- A request for this die that is well-formed. -/
def State.request (s : State) (m : List Byte) (r : Reply) (y : List Sensed) : State :=
  if swType m = 0x01 then (if swTagOk zeroKey m then s.openRequest m r (y.headD Sensed.none) else s)
  else match s.anySession (swSession m) with
    | none => s
    | some x =>
      if !s.alive x then s
      else if !swTagOk x.kcd m then s.tagFailed x
      else if !x.accepted && swType m != 0x02 then s
      else
        let y0 := { x with tick := if x.accepted then s.tb.count else x.tick, fails := 0, reply := r }
        (s.setSession y0).sequence y0 r m y

/-- Thimble firmware serves Swatch. -/
def State.serves (s : State) : Bool := s.thimbleUp && s.boot.phase == 0

/-- The message is for another die: DEVICE names a bolt member other than this one (R539). -/
def State.foreign (s : State) (m : List Byte) : Bool := decide (swDevice m < 8) && swDevice m != s.self

/-- A message of type `t` reaches this die. One that is malformed is discarded and counted; one of another type, or for
another die, is not what the command says and changes nothing. -/
def State.receive (s : State) (t : Nat) (via : SwatchVia) (bytes : List Byte) (y : List Sensed) : State :=
  if !s.serves then s else
  match s.incoming via bytes with
  | (none, s1) => s1
  | (some (m, r), s1) =>
    if !swRequest m then (if via matches .relay _ then (if swReply m then s else s1.discard) else (s1.discard).unanswered r)
    else if swType m ≠ t ∨ s.foreign m = true then s
    else
      let t := s1.request m r y
      if t.sessions.any (fun x => x.starts.any (fun w => w.reply == r)) then t else t.unanswered r

/-! ## The commands -/

/-- SWATCH_OPEN. -/
def execSwatchOpen (via : SwatchVia) (bytes : List Byte) (sensed : List Sensed) (s : State) :
    Host.Outcome State Fault Refusal := .next (s.receive 0x01 via bytes sensed)
/-- SWATCH_PROOF. -/
def execSwatchProof (via : SwatchVia) (bytes : List Byte) (sensed : List Sensed) (s : State) :
    Host.Outcome State Fault Refusal := .next (s.receive 0x02 via bytes sensed)
/-- SWATCH_READ. -/
def execSwatchRead (via : SwatchVia) (bytes : List Byte) (sensed : List Sensed) (s : State) :
    Host.Outcome State Fault Refusal := .next (s.receive 0x10 via bytes sensed)
/-- SWATCH_WRITE. -/
def execSwatchWrite (via : SwatchVia) (bytes : List Byte) (sensed : List Sensed) (s : State) :
    Host.Outcome State Fault Refusal := .next (s.receive 0x11 via bytes sensed)
/-- SWATCH_DESCRIBE. -/
def execSwatchDescribe (via : SwatchVia) (bytes : List Byte) (sensed : List Sensed) (s : State) :
    Host.Outcome State Fault Refusal := .next (s.receive 0x12 via bytes sensed)
/-- SWATCH_SUBSCRIBE. -/
def execSwatchSubscribe (via : SwatchVia) (bytes : List Byte) (sensed : List Sensed) (s : State) :
    Host.Outcome State Fault Refusal := .next (s.receive 0x13 via bytes sensed)
/-- SWATCH_UNSUBSCRIBE. -/
def execSwatchUnsubscribe (via : SwatchVia) (bytes : List Byte) (sensed : List Sensed) (s : State) :
    Host.Outcome State Fault Refusal := .next (s.receive 0x14 via bytes sensed)
/-- SWATCH_POLL. -/
def execSwatchPoll (via : SwatchVia) (bytes : List Byte) (sensed : List Sensed) (s : State) :
    Host.Outcome State Fault Refusal := .next (s.receive 0x15 via bytes sensed)
/-- SWATCH_KEEPALIVE. -/
def execSwatchKeepalive (via : SwatchVia) (bytes : List Byte) (sensed : List Sensed) (s : State) :
    Host.Outcome State Fault Refusal := .next (s.receive 0x30 via bytes sensed)
/-- SWATCH_CLOSE. -/
def execSwatchClose (via : SwatchVia) (bytes : List Byte) (sensed : List Sensed) (s : State) :
    Host.Outcome State Fault Refusal := .next (s.receive 0x31 via bytes sensed)

/-! ## Relays (R539) -/

/-- A request for another die: the leader sends it on to a member, and remembers the way back; otherwise RELAY_FAIL. -/
def State.relayRequest (s : State) (m : List Byte) (r : Reply) : State :=
  let d := swDevice m
  if s.boltState = boltLeader ∧ natBit (s.ob oBOLT_MEMBERS) d = true then
    let old := if swSession m = 0 then s.relays
      else s.relays.filter (fun (e : Nat × Nat × Reply) => !(e.1 == d && e.2.1 == swSession m))
    { s with relays := old ++ [(d, swSession m, r)] }.post d (.swatch m)
  else s.answer r (swMessage 0x7F d 0 codeNoUnit (swSession m) (swSeq m) [] zeroKey)

/-- A reply or a notice of member d goes back by the path of its session's last request. A notice is not placed in a
mailbox. -/
def State.relayReply (s : State) (d : Nat) (m : List Byte) : State :=
  match s.relays.find? (fun (e : Nat × Nat × Reply) => e.1 == d && e.2.1 == swSession m) with
  | none => s
  | some e =>
    let s := if swSession m = 0 ∨ swType m = 0xB1 then { s with relays := s.relays.erase e } else s
    match e.2.2 with
    | .mailbox f => if swType m = 0x40 then s else s.mailboxDone f m
    | r => s.answer r m

/-- SWATCH_RELAY. -/
def execSwatchRelay (via : SwatchVia) (bytes : List Byte) (s : State) : Host.Outcome State Fault Refusal :=
  .next (
    if !s.serves then s else
    match s.incoming via bytes with
    | (none, s1) => s1
    | (some (m, r), s1) =>
      if swRequest m then (if s.foreign m then s1.relayRequest m r else s)
      else match via with
        | .relay d => if swReply m then s1.relayReply d m else s1.discard
        | _ => s1.discard.unanswered r)

end Sys2Proof.Machine
end

