-- ==== Sys2Proof/Machine/Registers.lean ====
section
/-!
DEFINITION. Register accesses: where the registers lie (R29, R155, R254 and the maps of the other chapters), access codes
and write rights (R3, R4), half accesses (R30), decode errors and absent units (R2, R31), what registers read, and the
commands that write and read registers that have no command of their own.
-/

namespace Sys2Proof.Machine

open Reg Ob

/-! ## Decoding -/

/-- A register as an access finds it: its map, its index, and the byte offset in it. -/
structure RegHit where
  reg : RegDef
  index : Nat
  off : Nat
deriving DecidableEq, Repr

/-- The places of a map with these dimensions. -/
def placeCount (dims : List (Nat × Nat)) : Nat := (dims.map Prod.fst).prod

/-- The index at an offset from a map's base, and what remains of the offset. -/
def placeIn : List (Nat × Nat) → Nat → Option (Nat × Nat)
  | [], x => some (0, x)
  | (n, stride) :: r, x =>
    if x / stride < n then (placeIn r (x % stride)).map (fun y => (x / stride * placeCount r + y.1, y.2)) else none

/-- The instance slots of the decoding block are those of indices 0–20 and 33–38, those of the other block 21–32 (R254,
R282, R299). -/
def accelSlot (x : Nat) : Bool :=
  let k := x % 0x1000000 / 0x100 % 39
  if x / 0x1000000 = 9 then decide (k ≤ 20) || decide (33 ≤ k) else decide (21 ≤ k) && decide (k ≤ 32)

/-- The offset of an address from the base of a register map, in the device's space or in the page of a function. -/
def RegDef.offset (r : RegDef) (page : Option Nat) (a : Nat) : Option Nat :=
  match r.space, page with
  | .device, none => if r.base ≤ a then some (a - r.base) else none
  | .accel, none =>
    if (a / 0x1000000 = 9 ∨ a / 0x1000000 = 10) ∧ accelSlot a = true ∧ r.base % 0x1000000 ≤ a % 0x1000000 then
      some (a % 0x1000000 - r.base % 0x1000000)
    else none
  | .functionPage, some f => if r.base ≤ f * 0x40000 + a then some (f * 0x40000 + a - r.base) else none
  | _, _ => none

/-- A register map holds an address. -/
def RegDef.hit (r : RegDef) (page : Option Nat) (a : Nat) : Option RegHit :=
  match (r.offset page a).bind (placeIn r.dims) with
  | some (i, off) => if off < r.bytes then some ⟨r, i, off⟩ else none
  | none => none

/-- The register at an address. -/
def regAt (page : Option Nat) (a : Nat) : Option RegHit := regMap.findSome? (fun r => r.hit page a)

/-- The register is the one whose first field is f. -/
def RegDef.is (r : RegDef) (f : Fld) : Bool :=
  match r.flds with
  | g :: _ => g.id == f.id
  | [] => false

/-- What the first of a register's indices is: the partition, panel, chain or patch it belongs to. -/
def RegDef.first (r : RegDef) (i : Nat) : Nat := i / placeCount r.dims.tail

/-- The island of the block that holds a register (R13, R29). The spec names no island for the blocks of bases
0x0000_0000_0000, 0x0000_0C00_0000, 0x0000_0D00_0000 and 0x0000_0E00_0000 nor for the interpolation filters: they are taken to
answer where Thimble is, which always runs. DESIGN CHOICE. -/
def regIsland (r : RegDef) (i : Nat) : Nat :=
  if r.space = Space.functionPage then 76
  else if r.space = Space.accel then islandOf (0x600 + i)
  else match r.base / 0x1000000 with
    | 1 => 81
    | 2 => 81
    | 3 => 80
    | 4 => 72
    | 5 => 73
    | 6 => if r.base < 0x6001000 then laneIsland (4 * i) else laneIsland i
    | 7 => 75
    | 8 => 77
    | 10 => if r.wr = .hem then islandOf (0x740 + r.first i) else 82
    | 11 => if 0xB000100 ≤ r.base ∧ r.base < 0xB000200 then 79 else 78
    | b => if 16 ≤ b then r.first i else 82

/-! ## Whose registers they are -/

/-- The register belongs to a unit that is absent, retired or off, so that it reads zero and ignores writes (R2, R31,
R157, R557, R644). The register that shows RETIRED answers, and so do those of Gussets, lanes and patches, whose rules
(R218, R322, R467) say what a write to a retired one does. -/
def State.regGone (s : State) (r : RegDef) (i : Nat) : Bool :=
  match r.wr with
  | .panel =>
    let p := r.first i
    if p ≥ s.die.variant.panels ∨ s.rf PM_ISLAND_STATE_STATE p = 4 then true
    else if r.is PNL_STATE_SPARE_FOR then false
    else if s.bit PNL_STATE_RETIRED p then true
    else if 0x10008000 ≤ r.base then !s.siteUp (i / placeCount (r.dims.drop 2))
    else false
  | .hem => !s.present (0x740 + r.first i) || (s.bit HEM_STATE_RETIRED (r.first i) && !r.is HEM_STATE_LAST_REASON)
  | .lane => !s.die.variant.lanePresent i
  | .cprilane => !s.die.variant.lanePresent i
  | .patch => !s.present (patchUnit (r.first i))
  | .channel => !s.present (dmaUnit i)
  | _ =>
    if r.space = Space.accel then
      !s.present (0x600 + i) || (s.bit ACC_STATE_RETIRED i && !r.is ACC_STATE_LAST_REASON)
    else if 0x4000000 ≤ r.base ∧ r.base < 0x4000100 then !s.die.variant.lanePresent i
    else if 0x6000800 ≤ r.base ∧ r.base < 0x6000A20 then !(quadLanes i).any s.die.variant.lanePresent
    else if r.base / 0x1000000 = 5 then s.die.variant.boltMax == 0
    else if 0xB000100 ≤ r.base ∧ r.base < 0xB000200 then s.die.variant.patches == 0
    else if 0x7001000 ≤ r.base ∧ r.base < 0x7002000 then decide (s.die.variant.dramChannels ≤ r.first i)
    else false

/-- The partition that owns the unit, queue or channel to which a register belongs. -/
def State.regOwner (s : State) (r : RegDef) (i : Nat) : Option Nat :=
  match r.wr with
  | .queue => s.queueOwner i
  | .channel => s.channelOwner i
  | .patch => s.patchOwner (r.first i)
  | .hem => s.hemOwner (r.first i)
  | .panel => s.panelOwner (r.first i)
  | .lane => s.laneOwner i
  | .cprilane => s.laneOwner i
  | _ => none

/-- A function other than PF0 reads zero from what belongs to another partition (R493). -/
def State.regForeign (s : State) (u : Nat) (r : RegDef) (i : Nat) : Bool :=
  match functionOf u, s.regOwner r i with
  | some f, some p => f != 0 && s.functionPartition f != some p
  | _, _ => false

/-- The partition that owns the source of an event (R17, R83, R502). -/
def State.eventOwner (s : State) (e : Nat) : Option Nat :=
  if e < 0x440 then s.panelOwner (e / 17)
  else if e < 0x540 then s.panelOwner ((e - 0x440) / 4)
  else if 0x550 ≤ e ∧ e < 0x590 then (if s.assigned ((e - 0x550) / 8) then some ((e - 0x550) / 8) else none)
  else if 0x740 ≤ e ∧ e < 0x744 then s.hemOwner (e - 0x740)
  else if 0x800 ≤ e ∧ e < 0x830 then s.laneOwner (e - 0x800)
  else if 0x8B8 ≤ e ∧ e < 0x8C0 then (if s.assigned (e - 0x8B8) then some (e - 0x8B8) else none)
  else if 0x8D0 ≤ e ∧ e < 0x900 then s.laneOwner (e - 0x8D0)
  else if 0xA00 ≤ e ∧ e < 0xA80 then s.patchOwner ((e - 0xA00) / 16)
  else if 0xA80 ≤ e ∧ e < 0xA88 then s.patchOwner (e - 0xA80)
  else if 0xB00 ≤ e ∧ e < 0xB40 then s.carrierOwner (e - 0xB00)
  else if 0x1000 ≤ e ∧ e < 0x2000 then s.channelOwner (e - 0x1000)
  else none

/-- The events of pending word w that host software of function f sees and clears (R503). -/
def State.eventMask (s : State) (f w : Nat) : Nat :=
  match s.functionPartition f with
  | some p => ((List.range 32).map (fun b => if s.eventOwner (32 * w + b) = some p then 2 ^ b else 0)).sum
  | none => 0

/-! ## What registers read -/

/-- The fields whose value follows from other state: each with what it reads at an index. -/
def readHooks0 : List (Fld × (State → Nat → Nat)) := [
  (QM_EPOCH_PRESENT, fun s i => (s.present i).toNat),
  (QM_QCFG_OWNED, fun s i => (s.queueOwner i).isSome.toNat),
  (QM_QCFG_PARTITION, fun s i => (s.queueOwner i).getD 0),
  (QM_QSTAT_OCCUPANCY, fun s i => s.occupancy i),
  (TB_TIME_COUNT, fun s _ => s.tb.count % 2 ^ 64),
  (TB_FRAC_FRAC, fun s _ => s.tb.frac / 2 ^ 12 % 2 ^ 32),
  (TM_CAR_POS_SFN, fun s i => (s.carPos i).1),
  (TM_CAR_POS_SLOT, fun s i => (s.carPos i).2.1),
  (TM_CAR_POS_SYMBOL, fun s i => (s.carPos i).2.2),
  (SEAM_BOLT_SELF, fun s _ => s.self),
  (SH_CAP_OFFER, fun s _ => if s.die.variant.boltMax = 0 then 0 else 1),
  (SH_STATUS_PENDING, fun s _ => (s.sh.jobs.filter Job.pending).length % 2 ^ 15),
  (SH_PART_STAT_RUNNING, fun s i => min (s.runningCount i) 65535),
  (SH_PART_STAT_PENDING, fun s i => min (s.pendingCount i) 65535),
  (SH_FORECAST_NONE, fun s i => (s.nextUse i).isNone.toNat),
  (SH_FORECAST_NEXT_USE, fun s i => match s.nextUse i with
    | some d => (s.shTick + d) % 2 ^ 48
    | none => 0),
  (ENG_STATE_STATE, fun s i => (s.eng i).state.code),
  (ENG_STATE_LEAD, fun _ i => (isLead i).toNat),
  (GUS_STATE_PRESENT, fun s i => (s.present (gussetId i)).toNat),
  (ACC_STATE_PRESENT, fun s i => (s.present (0x600 + i)).toNat),
  (ACC_STATE_BUSY, fun s i => (s.runningOn (0x600 + i)).isSome.toNat),
  (HEM_STATE_PRESENT, fun s i => (s.present (0x740 + i)).toNat),
  (HEM_STATE_BUSY, fun s i => (s.runningOn (0x740 + i)).isSome.toNat),
  (LANE_STATE_PRESENT, fun s i => (s.die.variant.lanePresent i).toNat)]

def readHooks1 : List (Fld × (State → Nat → Nat)) := [
  (SEAM_CAP_MAX_DEVICES, fun s _ => s.die.variant.boltMax),
  (SEAM_CAP_SLOTS, fun s _ => 2 ^ s.die.variant.seamSlots - 1),
  (SEAM_PEER_EVT_VALID, fun s _ => if s.seam.events.isEmpty then 0 else 1),
  (SEAM_PEER_EVT_SRC, fun s _ => (s.seam.events.headD (0, 0)).1),
  (SEAM_PEER_EVT_EVENT, fun s _ => (s.seam.events.headD (0, 0)).2 % 2 ^ 13),
  (DRAM_CAP_CH_PRESENT, fun s _ => 2 ^ s.die.variant.dramChannels - 1),
  (DRAM_RANK_DEBT_NS, fun s i => ofSigned 32 (s.debt (s.drank (i / 4) (i % 4)))),
  (DMA_CAP_ENG_PRESENT, fun s _ => 2 ^ s.die.variant.dmaEngines - 1),
  (QC_CAP_PATCHES, fun s _ => 2 ^ s.die.variant.patches - 1),
  (QP_STATE_PRESENT, fun s i => (s.present (patchUnit i)).toNat),
  (QP_FDRO_WORD, fun s i => ((s.patch i).readback.headD 0).toNat),
  (QP_EPIN_READY, fun s i => (s.bit QP_EPIN_EN i && s.patchRuns (i / 8)).toNat),
  (QP_EPOUT_READY, fun s i => (s.bit QP_EPOUT_EN i && s.patchRuns (i / 8)).toNat),
  (PM_ISLAND_STATE_GROUP, fun s i => s.pmGroup i),
  (PM_ISLAND_STATE_FLOOR, fun s i => s.floor i),
  (PNL_STATE_PRESENT, fun s i => (decide (i < s.die.variant.panels)).toNat),
  (SEC_M_WORD, fun s i => fieldAt (Tab.get [] s.measures (i / 16)) (4 * (i % 16)) 4),
  (GPIO_PIN_IN, fun s i => ((s.pinDriven i).getD (Config.pinLevel s.free i)).toNat)]

/-- What a field reads at an index: WO and W1S fields read zero. -/
def State.readFld (s : State) (f : Fld) (i : Nat) : Nat :=
  match (readHooks0 ++ readHooks1).find? (fun e => e.1.id == f.id) with
  | some (_, g) => g s i % 2 ^ f.width
  | none => if f.acc = Acc.wo ∨ f.acc = Acc.w1s then 0 else s.rf f i

/-- What a register reads for requester u. -/
def State.regValue (s : State) (u : Nat) (r : RegDef) (i : Nat) : Nat :=
  let v := (r.flds.map (fun f => s.readFld f i * 2 ^ f.lo)).sum
  match r.wr, functionOf u with
  | .evpend, some f => if f = 0 then v else v &&& s.eventMask f i
  | _, _ => v

/-- The clear-on-read bits of a register from bit `from32` up are cleared (R3, R30): a field returns to its reset value,
one that lies across the halves loses its high bits. A FIFO gives up its oldest entry. -/
def State.clearRead (s : State) (r : RegDef) (i from32 : Nat) : State :=
  if r.is QP_FDRO_WORD then (if from32 = 0 then (s.readFdro i).2 else s)
  else if r.is SEAM_PEER_EVT_VALID then s.setSeam { s.seam with events := s.seam.events.tail }
  else r.flds.foldl (fun s f =>
    if f.acc = Acc.rc then
      (if from32 ≤ f.lo then s.clearf f i
       else if from32 ≤ f.hi then s.sf f i (s.rf f i % 2 ^ (from32 - f.lo)) else s)
    else s) s

/-- An access compares the copies of the scrubber's control registers (R479); a read of a pin asks it. -/
def State.touchReg (s : State) (r : RegDef) : State :=
  if r.is QS_CTRL_ENABLE || r.is QS_PERIOD_US then s.vote else if r.is GPIO_PIN_MODE then s.fresh else s

/-! ## What writes do -/

/-- Host software of the partition that owns the local range of an alias entry may write it (R379): of the range that is
written, and of that of an entry that is enabled. -/
def State.mayWriteAlias (s : State) (u a v : Nat) : Bool :=
  let owns := fun (lo hi : Nat) =>
    s.isOwnerHost u (s.queueOwner lo) && s.queueOwner lo == s.queueOwner hi
  owns (v % 65536) (v / 65536 % 65536)
    && (!s.bit SEAM_QALIAS_EN a || owns (s.rf SEAM_QALIAS_LOCAL_BASE a) (s.rf SEAM_QALIAS_LOCAL_LAST a))

/-- Requester u may write the register (each map's own rule). -/
def State.mayWriteReg (s : State) (u : Nat) (r : RegDef) (i v : Nat) : Bool :=
  match r.wr with
  | .none => false
  | .thimble => isThimble u
  | .tpf0 => isThimble u || isPf0 u
  | .queue => s.mayWriteQueue u i
  | .timebase => isThimble u || (isPf0 u && s.ob oTIME_SOURCE == 3)
  | .carrier => s.mayWriteCar u i
  | .comparator => s.mayWriteCmp u i
  | .partition => s.mayWritePart u (r.first i)
  | .panel => s.mayWritePanel u (r.first i)
  | .hem => s.mayWriteHem u (r.first i)
  | .lane => s.mayWriteLane u i
  | .cprilane => s.mayWriteCpri u i
  | .seamAlias => isThimble u || isPf0 u || s.mayWriteAlias u i v
  | .channel => s.mayWriteDma u i
  | .patch => isThimble u || s.isOwnerHost u (s.patchOwner (r.first i))
  | .route => true
  | .evpend => isThimble u || (functionOf u).isSome
  | .mpwin => isThimble u && s.pstate (r.first i) == 1

/-- The RW, W1C and W1S fields of a register take a written value (R3). -/
def State.writeFields (s : State) (l : List Fld) (i v : Nat) : State :=
  l.foldl (fun s f =>
    let x := v / 2 ^ f.lo % 2 ^ f.width
    match f.acc with
    | .rw => s.sf f i x
    | .w1c => s.sf f i (s.rf f i - (s.rf f i &&& x))
    | _ => s) s

/-- A plain write of register r. -/
def State.plainWrite (s : State) (u : Nat) (r : RegDef) (i v : Nat) : State :=
  if s.mayWriteReg u r i v then s.writeFields r.flds i v else s

/-- A plain write that is ignored unless a condition holds. -/
def State.writeIf (s : State) (ok : Bool) (u : Nat) (r : RegDef) (i v : Nat) : State := if ok then s.plainWrite u r i v else s

/-- A function that the die has (R492). -/
def functionExists (f : Nat) : Bool := decide (f ≤ 4) || (decide (0x10 ≤ f) && decide (f < 0x50))

/-- A write of the route of event e (R502): any by Thimble firmware; by host software of PF0 one that leaves THIMBLE as it
stands and neither takes nor gives DEST 3; by host software of the partition that owns the source one that names its own
function or one of its own engines. A reserved DEST, and a vector that the function has not, are ignored. -/
def State.writeRoute (s : State) (u : Nat) (r : RegDef) (e v : Nat) : State :=
  let thimble := v / 2 ^ 31 % 2
  let dest := v / 2 ^ 28 % 8
  let f := v / 2 ^ 21 % 128
  let target := v % 2048
  let keeps := thimble == s.rf EVR_ROUTE_THIMBLE e
  let pf0 := isPf0 u && keeps && dest != 3 && s.rf EVR_ROUTE_DEST e != 3
  let own := match functionOf u with
    | some g => match s.functionPartition g with
      | some p => s.eventOwner e == some p && keeps &&
          (dest == 0 || (dest == 1 && f == g) || (dest == 2 && s.panelOwner (target / 17) == some p))
      | none => false
    | none => false
  let valid := decide (dest < 4) && (dest != 1 || (functionExists f && decide (target < vectorCount f)))
  if valid && (isThimble u || pf0 || own) then s.writeFields r.flds e v else s

/-- A write of EVR_PEND: host software of a function other than PF0 clears what its partition owns (R503). -/
def State.writePend (s : State) (u : Nat) (r : RegDef) (w v : Nat) : State :=
  if isThimble u || isPf0 u then s.writeFields r.flds w v
  else match functionOf u with
    | some f => s.writeFields r.flds w (v &&& s.eventMask f w)
    | none => s

/-- A write of QM_QBASE (R60). -/
def State.writeQbase (s : State) (u q v : Nat) : State :=
  let b := bitsOf v 47 6
  if !s.mayWriteQueue u q || b == s.rf QM_QBASE_BASE q then s
  else if s.bit QM_QCFG_ENABLE q then s.raise evQueueConfig q
  else s.sf QM_QBASE_BASE q b

/-- A write of the configuration of a general-purpose pin (R659): one that names a patch that is absent or retired is
ignored. -/
def State.writePin (s : State) (u : Nat) (r : RegDef) (i v : Nat) : State :=
  if bitsOf v 31 30 = 2 ∧ s.usable (patchUnit (bitsOf v 29 27)) = false then s else (s.plainWrite u r i v).drivePins s

/-- HEM stream fields other than ENABLE and G take writes only while ENABLE is 0 (R299). -/
def State.streamOff (s : State) (i : Nat) : Bool := !s.bit HEM_SCFG_ENABLE i

/-- Patch n is in EMPTY or LOADED (R484). -/
def State.patchOpen (s : State) (n : Nat) : Bool := s.qstate n == qEmpty || s.qstate n == qLoaded

/-- Ring i is one of a function's rings, requester u may write it, and it is off (R497). -/
def State.ringOpen (s : State) (u i : Nat) : Bool :=
  mayWriteRing u i && hasPage (i / 256) && decide (i % 256 < ringCount (i / 256)) && !s.bit HR_CFG_ENABLE i

/-- A write of HP_CTRL (R507): RETRAIN begins the link's retraining, which HOST_LINK_RETRAIN ends; a CPL_TIMEOUT_US outside
its range is ignored. -/
def State.writeHpCtrl (s : State) (u : Nat) (r : RegDef) (i v : Nat) : State :=
  let s := s.writeIf (decide (1000 ≤ v % 2 ^ 20) && decide (v % 2 ^ 20 ≤ 1000000)) u r i v
  if s.mayWriteReg u r i v && natBit v 31 && s.bit HP_LINK_STATE_UP then s.sf HP_LINK_STATE_RETRAINING 0 1 else s

/-- A write of DMA_CH_*, SH_*, TM_* and QM_* registers that does more than store its fields. -/
def writeHooks0 : List (Fld × (State → Nat → RegDef → Nat → Nat → State)) := [
  (QM_QBASE_BASE, fun s u _ i v => s.writeQbase u i v),
  (QM_QCFG_ENABLE, fun s u _ i v => s.writeQcfg u i (natBit v 31) ⟨bitsOf v 27 24, bitsOf v 23 20, bitsOf v 11 0⟩),
  (TB_FREQ_ADJ_ADJ, fun s u _ _ v => s.writeAdj u v),
  (TB_STEP_DELTA, fun s u _ _ v => s.writeStep u (toSigned 64 v)),
  (TM_CAR_CFG_ENABLE, fun s u _ i v => s.writeCarCfg u i v),
  (TM_CAR_OFFSET_OFFSET, fun s u _ i v => s.writeCarOffset u i v),
  (TM_CMP_MATCH_MATCH, fun s u _ i v => s.writeCmpField u i 0 v),
  (TM_CMP_PERIOD_PERIOD, fun s u _ i v => s.writeCmpField u i 1 v),
  (TM_CMP_SEL_SYMBOL_MASK, fun s u _ i v => s.writeCmpField u i 2 v),
  (TM_CMP_OFFSET_OFFSET, fun s u _ i v => s.writeCmpField u i 3 v),
  (TM_CMP_CTRL_ARM, fun s u _ i v => s.writeCmpCtrl u i v),
  (SH_SQ_CFG_ENABLE, fun s u _ i v => s.writeSqCfg u i v),
  (SH_CANCEL_VALUE, fun s u _ i v => s.writeCancel u i v),
  (SH_TRIGGER_TRIGGER, fun s u _ i v => s.writeTrigger u i v),
  (DMA_CH_CFG_ENABLE, fun s u _ i v => s.writeDmaCfg u i v),
  (DMA_CH_LINKS_CHAIN_EN, fun s u _ i v => s.writeDmaLinks u i v),
  (DMA_CH_HEAD_ADDR, fun s u _ i v => s.writeDmaHead u i v),
  (DMA_CH_DOORBELL_SRESET, fun s u _ i v => s.writeDmaDoorbell u i v)]

/-- The same of engines, Gussets, panels, accelerators and Hem chains. -/
def writeHooks1 : List (Fld × (State → Nat → RegDef → Nat → Nat → State)) := [
  (ENG_CTRL_SRESET, fun s u _ i v => s.writeEngCtrl u i v),
  (ENG_START_PC_PC, fun s u r i v => s.writeIf (s.siteQuiet i) u r i v),
  (ENG_WIN_BASE_BASE, fun s u r i v => s.writeIf (s.siteQuiet (i / 8)) u r i v),
  (ENG_WIN_LIMIT_LAST, fun s u r i v => s.writeIf (s.siteQuiet (i / 8)) u r i v),
  (GUS_CTRL_SRESET, fun s u _ i v => s.writeGusCtrl u i v),
  (PNL_CTRL_SRESET, fun s u _ i v => if s.mayWritePanel u i && natBit v 0 then s.resetPanel i else s),
  (ACC_CTRL_SRESET, fun s u _ i v => s.writeAccCtrl u (0x600 + i) v),
  (MX_FILT_CFG_NC, fun s u r i v => s.writeIf (natBit v 0) u r i v),
  (HEM_CTRL_SRESET, fun s u _ i v => s.hemSreset u i v),
  (HEM_SCFG_ENABLE, fun s u _ i v => s.writeScfg u (i / 32) (i % 32) v),
  (HEM_SRING_BASE, fun s u r i v => s.writeIf (s.streamOff i) u r i v),
  (HEM_SGRID_BASE, fun s u r i v => s.writeIf (s.streamOff i) u r i v),
  (HEM_SSTRIDE_NBUF, fun s u r i v => s.writeIf (s.streamOff i) u r i v),
  (HEM_SBUF_BUF_STRIDE, fun s u r i v => s.writeIf (s.streamOff i) u r i v),
  (HEM_SWIN_SHIFT, fun s u r i v => s.writeIf (s.streamOff i) u r i v),
  (HEM_SOUT_OUT_Q, fun s u r i v => s.writeIf (s.streamOff i) u r i v),
  (HEM_SAGC0_TARGET, fun s u r i v => s.writeIf (s.streamOff i) u r i v),
  (HEM_SAGC1_WINDOW, fun s u r i v => s.writeIf (s.streamOff i) u r i v),
  (HEM_SAGC2_GMAX, fun s u r i v => s.writeIf (s.streamOff i) u r i v),
  (HEM_SGAIN_FROZEN, fun s u _ i v => s.writeSgain u (i / 32) (i % 32) v)]

/-- The same of lanes, ports, links and DRAM. -/
def writeHooks2 : List (Fld × (State → Nat → RegDef → Nat → Nat → State)) := [
  (LQ_PLL_A_ENABLE, fun s u _ i v => s.writePll u i false v),
  (LQ_PLL_B_ENABLE, fun s u _ i v => s.writePll u i true v),
  (LANE_CTRL_ENABLE, fun s u _ i v => s.writeLaneCtrl u i v false),
  (LANE_TXEQ_C_M3, fun s u _ i v => s.writeTxeq u i v),
  (LANE_TEST_GEN_PAT, fun s u _ i v => s.writeLaneTest u i v),
  (FH_PORT_CTRL_ENABLE, fun s u _ i v => s.writePortCtrl u i v),
  (FH_ST_CMD_BUSY, fun s u _ i v => s.writeStCmd u i v),
  (CPRI_CFG_ENABLE, fun s u _ i v => s.writeCpriCfg u i v),
  (SEAM_LINK_CTRL_ENABLE, fun s u _ i v => s.writeLinkCtrl u i v),
  (DRAM_XLATE_ADDR_ADDR, fun s u _ _ v => s.writeXlate u (v % 2 ^ 48)),
  (DRAM_CH_CFG_ENABLE, fun s u r i v => s.writeIf (!s.bit DRAM_CH_CFG_ENABLE i) u r i v),
  (DRAM_CH_TIMING_XSDLL_NS, fun s u r i v => s.writeIf (!s.bit DRAM_CH_CFG_ENABLE i) u r i v),
  (DRAM_CH_SRTIME_XS_NS, fun s u r i v => s.writeIf (!s.bit DRAM_CH_CFG_ENABLE i) u r i v),
  (DRAM_CH_CTRL_RANK, fun s u _ i v => s.writeChCtrl u i v)]

/-- The same of the Quilt, the host port, the event router and pins. Values outside a stated range are ignored. -/
def writeHooks3 : List (Fld × (State → Nat → RegDef → Nat → Nat → State)) := [
  (QS_CTRL_ENABLE, fun s u _ _ v => if isThimble u then s.setScrub (v / 2 ^ 31 % 2) (s.rf QS_PERIOD_US) else s),
  (QS_PERIOD_US, fun s u _ _ v => if isThimble u && decide (8000 ≤ v) && decide (v ≤ 1000000) then
    s.setScrub (s.rf QS_CTRL_ENABLE) v else s),
  (QP_CMD_BUSY, fun s u _ i v => s.writeQpCmd u i v),
  (QP_FDRI_WORD, fun s u r i v => if s.mayWriteReg u r i v then s.streamWord i (some (BitVec.ofNat 64 v)) else s),
  (QP_START_ORDER_GAP, fun s u r i v => s.writeIf (s.patchOpen i) u r i v),
  (QP_CLK_DIV, fun s u r i v => s.writeIf (s.patchOpen i && decide (1 ≤ v % 16) && decide (v % 16 ≤ 8)) u r i v),
  (QP_CLAMP_MODE, fun s u r i v => s.writeIf (s.patchOpen i) u r i v),
  (QP_IMAGE_VALID, fun s u r i v => s.writeIf (isThimble u || !((s.patchOwner i).any s.isMb)) u r i v),
  (QP_EPIN_EN, fun s u _ i v => s.writeEndpoint u (i / 8) (i % 8) v false),
  (QP_EPOUT_EN, fun s u _ i v => s.writeEndpoint u (i / 8) (i % 8) v true),
  (HR_CFG_ENABLE, fun s u _ i v => s.writeRingCfg u i v),
  (HR_VEC_VECTOR, fun s u r i v => if s.ringOpen u i then s.writeFields r.flds i v else s),
  (HR_BASE_BASE, fun s u r i v => if s.ringOpen u i then s.writeFields r.flds i v else s),
  (HR_WB_ADDR, fun s u r i v => if s.ringOpen u i then s.writeFields r.flds i v else s),
  (HR_DOORBELL_INDEX, fun s u _ i v => s.ringDoorbell u i v),
  (MBX_CTRL_GO, fun s u _ i v => s.writeMbxCtrl u i v),
  (HP_CTRL_RETRAIN, fun s u r i v => s.writeHpCtrl u r i v),
  (EVR_ROUTE_THIMBLE, fun s u r i v => s.writeRoute u r i v),
  (EVR_PEND_PEND, fun s u r i v => s.writePend u r i v),
  (GPIO_PIN_MODE, fun s u r i v => s.writePin u r i v)]

/-- A write of a register's full value by requester u. -/
def State.writeReg (s : State) (u : Nat) (r : RegDef) (i v : Nat) : State :=
  match (writeHooks0 ++ writeHooks1 ++ writeHooks2 ++ writeHooks3).find? (fun e => r.is e.1) with
  | some (_, g) => g s u r i v
  | none => s.plainWrite u r i v

/-! ## Accesses (R30, R31) -/

/-- Who reaches a register: Thimble firmware, host software of PF0 and of the VFs through their device windows (R492,
R493), bolt peers whose windows grant it (R28, R373), and a function's own page by the function and Thimble firmware
(R496). -/
def reaches (u : Nat) (page : Option Nat) : Bool :=
  match page with
  | none => isThimble u || (decide (0x900 ≤ u) && decide (u < 0x908)) || (match functionOf u with
    | some f => hasPage f
    | none => false)
  | some f => reachesPage u f

/-- What halves of a register are kept under. -/
def regKey (page : Option Nat) (a : Nat) : Nat :=
  match page with
  | none => a
  | some f => pageKey f + a

/-- The half that a requester has in a list of halves for a register. -/
def halfOf (l : List HalfKept) (u key : Nat) : Option Nat :=
  (l.find? (fun h => h.requester == u && h.addr == key)).map HalfKept.half

/-- The list without that half, and with it. -/
def halfDrop (l : List HalfKept) (u key : Nat) : List HalfKept := l.filter (fun h => !(h.requester == u && h.addr == key))
def halfKeep (l : List HalfKept) (u key v : Nat) : List HalfKept := ⟨u, key, v⟩ :: halfDrop l u key

/-- The low half of a register as a write of the high half alone leaves it: its RW fields stand and none of its W1C or
W1S bits acts (R30). -/
def State.lowAsItStands (s : State) (r : RegDef) (i : Nat) : Nat :=
  (r.flds.map (fun f => if f.acc = Acc.rw then s.rf f i * 2 ^ f.lo else 0)).sum % 2 ^ 32

/-- A write of `width` bytes at a register's address, after what the address names. -/
def State.hitWrite (s : State) (u key : Nat) (h : RegHit) (width v : Nat) : State :=
  let v := v % 2 ^ (8 * width)
  if s.regGone h.reg h.index then s
  else if width = h.reg.bytes ∧ h.off = 0 then (s.touchReg h.reg).writeReg u h.reg h.index v
  else if width = 4 ∧ h.reg.bytes = 8 ∧ h.off = 0 then { s with staged := halfKeep s.staged u key v }
  else if width = 4 ∧ h.reg.bytes = 8 ∧ h.off = 4 then
    let low := (halfOf s.staged u key).getD (s.lowAsItStands h.reg h.index)
    { s with staged := halfDrop s.staged u key }.writeReg u h.reg h.index (v * 2 ^ 32 + low)
  else s

/-- A read of `width` bytes at a register's address: the value, none for a decode error. -/
def State.hitRead (s : State) (u key : Nat) (h : RegHit) (width : Nat) : Option Nat × State :=
  let full := decide (width = h.reg.bytes) && h.off == 0
  let low := decide (width = 4) && h.reg.bytes == 8 && h.off == 0
  let high := decide (width = 4) && h.reg.bytes == 8 && h.off == 4
  if !(full || low || high) then (none, s)
  else if s.regGone h.reg h.index || s.regForeign u h.reg h.index then (some 0, s)
  else
    let s := s.touchReg h.reg
    let v := s.regValue u h.reg h.index
    if full then (some v, s.clearRead h.reg h.index 0)
    else if low then
      (some (v % 2 ^ 32), { s.clearRead h.reg h.index 0 with latched := halfKeep s.latched u key (v / 2 ^ 32) })
    else match halfOf s.latched u key with
      | some x => (some x, { s with latched := halfDrop s.latched u key })
      | none => (some (v / 2 ^ 32), s.clearRead h.reg h.index 32)

/-- The MB-416 register view that a device address lies in: its slot and the offset in it (R617). -/
def viewOf (page : Option Nat) (a : Nat) : Option (Nat × Nat) :=
  if page = none ∧ 0x20000000 ≤ a ∧ a < 0x40000000 ∧ (a - 0x20000000) / 0x8000000 < 4 ∧ (a - 0x20000000) % 0x8000000 < 0x4000000 then
    some ((a - 0x20000000) / 0x8000000, (a - 0x20000000) % 0x8000000)
  else none

end Sys2Proof.Machine
end

