-- ==== Sys2Proof/Machine/HostMemory.lean ====
section
/-!
DEFINITION. The host's accesses through its windows: the device window (R493, R494), the function page (R496, R505), the
register view and the memory of an MB partition (R617 to R623), and the commands that read and write registers and
windows.
-/

namespace Sys2Proof.Machine

open Reg Ob

/-! ## The function page -/

/-- A byte of a function page, registers apart (R496, R505). -/
def State.pageByte (s : State) (f off : Nat) : Byte :=
  if off < 16 * vectorCount f then s.tableByte f off
  else if 0x8000 ≤ off ∧ off < 0x8000 + vectorCount f / 8 then s.pendByte f (off - 0x8000)
  else if 0x21000 ≤ off ∧ off < 0x22000 then (s.mailboxOf f).request.getD (off - 0x21000) 0
  else if 0x22000 ≤ off ∧ off < 0x23000 then (s.mailboxOf f).response.getD (off - 0x22000) 0
  else 0

/-- Bytes are written to the request buffer of function f's mailbox (R505). -/
def State.writeBuffer (s : State) (f off : Nat) (data : List (Option Byte)) : State :=
  if s.bit MBX_CTRL_BUSY f then s else
  let x := s.mailboxOf f
  let n := min 4096 (max x.request.length (off + data.length))
  s.setMailbox f { x with request := (List.range n).map (fun i =>
    if off ≤ i then ((data.getD (i - off) none).getD (x.request.getD i 0)) else x.request.getD i 0) }

/-- The page offset is a register's. -/
def pageRegister (off : Nat) : Bool := (decide (0x10000 ≤ off) && decide (off < 0x12000)) || (decide (0x20000 ≤ off) && decide (off < 0x20008))

/-- A write to a function page by requester u: registers by whole accesses, the table and the request buffer by bytes. -/
def State.pageWrite (s : State) (u f off : Nat) (data : List (Option Byte)) : State :=
  if !reachesPage u f then s
  else if pageRegister off then
    match regAt (some f) off with
    | some h =>
      if data.all Option.isSome && off % data.length == 0 then
        s.hitWrite u (regKey (some f) (off - h.off)) h data.length (bytesVal (data.map (fun b => b.getD 0)))
      else s
    | none => s
  else if off < 16 * vectorCount f then s.writeTable f off data
  else if 0x21000 ≤ off ∧ off < 0x22000 then s.writeBuffer f (off - 0x21000) data
  else s

/-- A read of n bytes of a function page: every other offset reads zero. None for a wrong-width register access. -/
def State.pageRead (s : State) (u f off n : Nat) : Option (List Byte) × State :=
  if !reachesPage u f then (some (List.replicate n 0), s)
  else if pageRegister off then
    match regAt (some f) off with
    | some h =>
      let r := s.hitRead u (regKey (some f) (off - h.off)) h n
      (if off % n = 0 then r.1.map (valBytes n) else none, if off % n = 0 then r.2 else s)
    | none => (some (List.replicate n 0), s)
  else (some ((List.range n).map (fun i => s.pageByte f (off + i))), s)

/-! ## Register accesses by address -/

/-- What stops a register access: the island of the register's block (R14, R553). -/
def State.regStops (s : State) (u : Nat) (page : Option Nat) (a n : Nat) : Option (Nat × Option Nat) :=
  match viewOf page a with
  | some (k, off) => s.viewStops u k off n
  | none => match regAt page a with
    | some h =>
      let i := regIsland h.reg h.index
      if i ≠ islandOf u ∧ s.islandStops i = true then some (i, none) else none
    | none => none

/-- A register write by requester u at a device address, or at an offset of a function page. -/
def State.regWrite (s : State) (u : Nat) (page : Option Nat) (a width v : Nat) : State :=
  match viewOf page a with
  | some (k, off) => s.viewWrite u k off ((valBytes width v).map some)
  | none =>
    if !reaches u page || a % width != 0 then s else
    match regAt page a with
    | some h => s.hitWrite u (regKey page (a - h.off)) h width v
    | none => s

/-- A register read: the value, none for a decode error (R31). A view is read by PF0, Thimble firmware and those that may
write it. -/
def State.regRead (s : State) (u : Nat) (page : Option Nat) (a width : Nat) : Option Nat × State :=
  match viewOf page a with
  | some (k, off) =>
    if isPf0 u || s.mayWriteView u k then
      let r := s.viewRead u k off width
      (some (bytesVal (sliceBytes (carriedBytes r.1) (if viewFraming off then off % 8 else 0) width)), r.2)
    else (some 0, s)
  | none =>
    if !reaches u page || a % width != 0 then (none, s) else
    match regAt page a with
    | some h => s.hitRead u (regKey page (a - h.off)) h width
    | none => (none, s)

/-- The answer to a register read. -/
def State.answerRead (s : State) (u : Nat) (page : Option Nat) (a width : Nat) : State :=
  match s.regStops u page a width with
  | some x => s.stallOn x
  | none => match s.regRead u page a width with
    | (some v, s) => s.send (.registerRead u (regKey page a) (BitVec.ofNat 64 v))
    | (none, s) => s.send (.unsupported u (regKey page a))

/-- A register write reaches its block, or waits for it. -/
def State.presentWrite (s : State) (u : Nat) (page : Option Nat) (a width v : Nat) : State :=
  match s.regStops u page a width with
  | some x => s.stallOn x
  | none => s.regWrite u page a width v

/-- The address by which a register access reaches its block: the window of the die's own bolt number reaches the same
registers (R28). -/
def State.ownRegister (s : State) (page : Option Nat) (a : Nat) : Nat := if page.isNone then s.ownAddress a else a

/-- REGISTER_WRITE (R3, R30): `width` bytes at an address, or at an offset of the page of a function. -/
def execRegisterWrite (requester : Nat) (page : Option Nat) (address width : Nat) (value : Word) (s : State) :
    Host.Outcome State Fault Refusal :=
  .next (s.presentWrite requester page (s.ownRegister page address) width value.toNat)

/-- RC_REGISTER_READ (R3): a read of a register of the register's width returns its value and then clears its RC fields. -/
def execRcRegisterRead (requester : Nat) (page : Option Nat) (address width : Nat) (s : State) :
    Host.Outcome State Fault Refusal :=
  .next (s.answerRead requester page (s.ownRegister page address) width)

/-- REGISTER_LOW_HALF_READ (R30, R65): of the 64-bit register at an address. -/
def execRegisterLowHalfRead (requester : Nat) (page : Option Nat) (address : Nat) (s : State) :
    Host.Outcome State Fault Refusal :=
  .next (s.answerRead requester page (s.ownRegister page address) 4)

/-- REGISTER_HIGH_HALF_READ (R30, R65): of the 64-bit register at an address. -/
def execRegisterHighHalfRead (requester : Nat) (page : Option Nat) (address : Nat) (s : State) :
    Host.Outcome State Fault Refusal :=
  .next (s.answerRead requester page (s.ownRegister page address + 4) 4)

/-! ## Memory through a window -/

/-- A host function's access to memory passes (R494): of the function that a partition names, what that partition may
reach; of PF0 that no partition names, everything but what ENG_SIGNED protects (R607). -/
def State.hostPasses (s : State) (f a n : Nat) (write : Bool) : Bool :=
  match s.functionPartition f with
  | some p => s.mayAccess p a n write
  | none => f == 0 && !s.codeLocked a n write

/-- Some byte of a range maps nothing, or is a register (R31). -/
def State.rangeUnmapped (s : State) (a n : Nat) : Bool :=
  n == 0 || s.unmapped a n

/-- The denial of a host access is accounted for (R397). -/
def State.hostDenied (s : State) (f a : Nat) (write : Bool) : State :=
  s.countDenial ((s.functionPartition f).getD 0) (functionUnit f) a write

/-- A read of n bytes of memory at a device address by function f, answered as a read at `shown`. -/
def State.hostFetch (s : State) (f shown a n : Nat) (upsets : List (BitVec 80)) : State :=
  let u := functionUnit f
  if s.rangeUnmapped a n then s.send (.unsupported u shown)
  else if !s.hostPasses f a n false then (s.hostDenied f a false).send (.unsupported u shown)
  else match s.accessStops u a n with
    | some x => s.stallOn x
    | none =>
      let r := (s.upsetWords (a / 8 * 8) upsets).readWords (a / 8 * 8) u 1 (wordsOf a n).length
      r.2.send (.readData u shown r.1)

/-- A write of bytes to memory at a device address by function f; a poisoned one stores the poison mark in every word it
touches (R506). -/
def State.hostStore (s : State) (f a : Nat) (data : List (Option Byte)) (poisoned : Bool) (upsets : List (BitVec 80)) : State :=
  let u := functionUnit f
  let n := data.length
  if s.rangeUnmapped a n then s
  else if !s.hostPasses f a n true then s.hostDenied f a true
  else match s.accessStops u a n with
    | some x => s.stallOn x
    | none =>
      let s := s.upsetWords (a / 8 * 8) upsets
      if poisoned then (wordsOf a n).foldl (fun s w => s.writeWordAt w u none) s
      else (s.writeEnabled u (enabledWords a data)).2

/-- The answer that carries bytes. -/
def State.answerBytes (s : State) (f shown : Nat) (l : List Byte) : State :=
  s.send (.readData (functionUnit f) shown ((bytesWords l).map some))

/-- A host read of a view, answered with its bytes. -/
def State.hostViewRead (s : State) (u k shown off n : Nat) : State :=
  match s.viewStops u k off n with
  | some x => s.stallOn x
  | none =>
    let r := s.viewRead u k off n
    r.2.send (.mbRead k shown r.1)

/-- A host write of a view. -/
def State.hostViewWrite (s : State) (u k off : Nat) (data : List (Option Byte)) : State :=
  match s.viewStops u k off data.length with
  | some x => s.stallOn x
  | none => s.viewWrite u k off data

/-- The MB partition that a function of PF1 to PF4 presents in RUNNING (R492). -/
def State.functionSlot (s : State) (f : Nat) : Option Nat := if 1 ≤ f ∧ f ≤ 4 then s.slotLive (f - 1) else none

/-- BAR2 of PF(k + 1) reads zero and ignores writes here: the own-core range and the host window range (R619). -/
def bar2Zero (a : Nat) : Bool := decide (a < 0x18000) || (decide (0x40000000 ≤ a) && decide (a < 0x80000000))

/-- The identity fields of the configuration header of function f, by offset and bytes: PF1 to PF4 carry the MB-416's with the
subsystem of their partition (R618), every other function the device's (R540). -/
def State.identity (s : State) (f : Nat) : List (Nat × List Byte) :=
  if 1 ≤ f ∧ f ≤ 4 then
    let sub := match s.slotPart (f - 1) with
      | some p => [(0x2C, valBytes 2 (s.ob oMB_P_SUBSYS_VENDOR p)), (0x2E, valBytes 2 (s.ob oMB_P_SUBSYS_ID p))]
      | none => []
    [(0, valBytes 2 0x1D2E), (2, valBytes 2 0x0416), (8, valBytes 1 3), (9, valBytes 3 0x118000)] ++ sub
  else [(0, valBytes 2 0x1F5C), (2, valBytes 2 s.die.variant.pciDevice)]

/-- A byte of the configuration header of function f: what the spec gives no value is open. -/
def State.headerByte (s : State) (f i : Nat) : Byte :=
  match (s.identity f).find? (fun e => e.1 ≤ i && i < e.1 + e.2.length) with
  | some e => e.2.getD (i - e.1) 0
  | none => Config.headerByte f i

/-- A host read. -/
def State.hostRead (s : State) (f : Nat) (w : HostWindow) (off n : Nat) (upsets : List (BitVec 80)) : State :=
  let u := functionUnit f
  let zero := fun (s : State) => s.answerBytes f off (List.replicate n 0)
  match w with
  | .msixControl => s.answerBytes f off (valBytes 2 ((s.msixOf f).enable.toNat * 2 ^ 15 + (s.msixOf f).functionMask.toNat * 2 ^ 14))
  | .header => s.answerBytes f off ((List.range n).map (fun i => s.headerByte f (off + i)))
  | .bar0 =>
    if hasPage f then
      if 2 ^ 41 < off + n then s.send (.unsupported u off)
      else if off < 0x40000000 then (if n = 4 ∨ n = 8 then s.answerRead u none off n else s.send (.unsupported u off))
      else s.hostFetch f off off n upsets
    else match s.functionSlot f with
      | some _ => s.hostViewRead u (f - 1) off off n
      | none => zero s
  | .bar2 =>
    if hasPage f then
      match s.pageRead u f off n with
      | (some l, s) => s.answerBytes f off l
      | (none, s) => s.send (.unsupported u off)
    else match s.functionSlot f with
      | some p =>
        if bar2Zero off then zero s else
        match s.mbAddress p none off with
        | .device d => s.hostFetch f off d n upsets
        | .view x => s.hostViewRead u (f - 1) off x n
        | .zero => zero s
        | .nothing => s.send (.unsupported u off)
      | none => zero s

/-- A host write. A poisoned one to anything but memory is discarded. -/
def State.hostWrite (s : State) (f : Nat) (w : HostWindow) (off : Nat) (data : List (Option Byte)) (poisoned : Bool)
    (upsets : List (BitVec 80)) : State :=
  let u := functionUnit f
  let n := data.length
  let v := bytesVal (data.map (fun b => b.getD 0))
  let s := if poisoned then s.incf HP_RX_POISONED_COUNT else s
  match w with
  | .msixControl =>
    if poisoned then s else
    (s.setMsix f { s.msixOf f with enable := natBit v 15, functionMask := natBit v 14 }).flushVectors f
  | .header => s
  | .bar0 =>
    if hasPage f then
      if 2 ^ 41 < off + n then s
      else if off < 0x40000000 then
        (if !poisoned && (n == 4 || n == 8) && data.all Option.isSome then s.presentWrite u none off n v else s)
      else s.hostStore f off data poisoned upsets
    else if poisoned then s else s.hostViewWrite u (f - 1) off data
  | .bar2 =>
    if hasPage f then (if poisoned then s else s.pageWrite u f off data)
    else match s.functionSlot f with
      | some p =>
        if bar2Zero off then s else
        match s.mbAddress p none off with
        | .device d => s.hostStore f d data poisoned upsets
        | .view x => if poisoned then s else s.hostViewWrite u (f - 1) x data
        | .zero => s
        | .nothing => s
      | none => s

/-- HOST_MEMORY_READ (R493): `bytes` bytes at an offset of a window of a function. The upsets are what the stored words
have suffered since they were last accessed. -/
def execHostMemoryRead (function : Nat) (window : HostWindow) (offset bytes : Nat) (upsets : List (BitVec 80)) (s : State) :
    Host.Outcome State Fault Refusal :=
  .next (if functionExists function then s.hostRead function window offset bytes upsets else s)

/-- HOST_MEMORY_WRITE (R493): bytes, each with its enable. -/
def execHostMemoryWrite (function : Nat) (window : HostWindow) (offset : Nat) (data : List (Option Byte)) (poisoned : Bool)
    (upsets : List (BitVec 80)) (s : State) : Host.Outcome State Fault Refusal :=
  .next (if functionExists function then s.hostWrite function window offset data poisoned upsets else s)

end Sys2Proof.Machine
end

