-- ==== Sys2Proof/Machine/MbDsp.lean ====
section
/-!
DEFINITION. MB-DSP decode (R195 to R200), the tagged command queue of a Gusset (R212 to R214) and the queue, job and event
operations of an MB core (R626). A command carries an operation as decoded; the MB-416's own encodings are not in the spec.
-/

namespace Sys2Proof.Machine

open Reg Ob

/-! ## Registers (R196, R197) -/

/-- D register n: bits 31:0 of g16 + n; a write sign-extends. -/
def dReg (n : BitVec 4) : BitVec 5 := BitVec.ofNat 5 (16 + n.toNat)
def Engine.dGet (e : Engine) (n : BitVec 4) : Half := (e.reg (dReg n)).setWidth 32
def Engine.dSet (e : Engine) (n : BitVec 4) (v : Half) : Engine := e.setReg (dReg n) (v.signExtend 64)

/-- P register n: bits 31:0 of g8 + n. -/
def pReg (n : BitVec 3) : BitVec 5 := BitVec.ofNat 5 (8 + n.toNat)
def Engine.pGet (e : Engine) (n : BitVec 3) : Half := (e.reg (pReg n)).setWidth 32
def Engine.pSet (e : Engine) (n : BitVec 3) (v : Half) : Engine :=
  e.setReg (pReg n) ((e.reg (pReg n) &&& 0xFFFFFFFF00000000) ||| v.setWidth 64)

/-- MB_SR.RNDM as a rounding mode, and MB_SR.SATM. -/
def Engine.rndm (e : Engine) : Nat := e.mbSr / 2 % 2
def Engine.satm (e : Engine) : Bool := e.mbSr % 2 == 1

/-- MB_SR. -/
def Engine.mbStatus (e : Engine) : Half := BitVec.ofNat 32 ((if e.sat || e.asat then 256 else 0) + e.mbSr % 4)

/-- A write of MB_SR whose reserved fields are zero: OV 0 clears SAT and ASAT, OV 1 sets SAT. -/
def Engine.setMbStatus (e : Engine) (v : Half) : Engine :=
  { e with mbSr := v.toNat % 4,
           status := if v.getLsbD 8 then e.status ||| 0x100 else e.status &&& ~~~(0x300 : BitVec 32) }

/-- The bits of MB_SR that are not reserved. -/
def mbStatusMask : Half := 0x103

/-- MB_STATUS_WRITE: a reserved field that is set raises ILLEGAL, and nothing is stored (R200). -/
def execMbStatusWrite (engine : Nat) (source : BitVec 4) (s : State) : Host.Outcome State Fault Refusal :=
  .next (s.mbNative engine (fun e =>
    let v := e.dGet source
    if v &&& ~~~mbStatusMask = 0 then s.retire engine (e.setMbStatus v) else s.illegal engine))

/-! ## Arithmetic (R199) -/

/-- MD1: 2·x·y, and whether it saturated. -/
def mbProduct (x y : Int) : Int × Bool := if x = -32768 ∧ y = -32768 then (2 ^ 31 - 1, true) else (2 * x * y, false)

/-- MD2: accumulation with sat40, or with sat32 where SATM is 1. -/
def Engine.mbAccumulate (e : Engine) (k : BitVec 2) (v : Int) : Engine :=
  let r := satTo (if e.satm then 32 else 40) (e.acc k + v)
  (e.setAcc k r.1).orAsat r.2

/-- One product accumulated. -/
def Engine.mbMacOne (e : Engine) (k : BitVec 2) (sign : Int) (x y : Int) : Engine :=
  let p := mbProduct x y
  (e.mbAccumulate k (sign * p.1)).orSat p.2

/-- A complex product accumulated into a pair. -/
def Engine.mbCmac (e : Engine) (conj pair : Bool) (x y : Int × Int) : Engine :=
  let rr := mbProduct x.1 y.1
  let ii := mbProduct x.2 y.2
  let ri := mbProduct x.1 y.2
  let ir := mbProduct x.2 y.1
  let re := if conj then rr.1 + ii.1 else rr.1 - ii.1
  let im := if conj then ir.1 - ri.1 else ri.1 + ir.1
  ((e.mbAccumulate (pairRe pair) re).mbAccumulate (pairIm pair) im).orSat (rr.2 || ii.2 || ri.2 || ir.2)

/-- Signed half i of a D register, and both halves as a complex value. -/
def dHalf (v : Half) (i : Nat) : Int := (v.extractLsb' (16 * i) 16).toInt
def dComplex (v : Half) : Int × Int := (dHalf v 0, dHalf v 1)

/-- The rounding of an operation (MD3). -/
def Engine.mbRound (e : Engine) (trunc : Bool) : Nat := if trunc then 2 else e.rndm

/-- MD4: a complex product whose four products are rounded first. -/
def mbCmulq (conj : Bool) (rnd : Nat) (x y : Int × Int) : (Int × Bool) × (Int × Bool) :=
  let r := fun v => roundShift rnd 15 v
  if conj then (satTo 16 (r (x.1 * y.1) + r (x.2 * y.2)), satTo 16 (r (x.2 * y.1) - r (x.1 * y.2)))
  else (satTo 16 (r (x.1 * y.1) - r (x.2 * y.2)), satTo 16 (r (x.1 * y.2) + r (x.2 * y.1)))

/-- An integer operation on D registers. -/
def mbAlu (f : MbAlu) (x y : Half) : Half :=
  match f with
  | .add => x + y | .sub => x - y | .and => x &&& y | .or => x ||| y | .xor => x ^^^ y
  | .slt => if x.slt y then 1 else 0 | .sltu => if x.ult y then 1 else 0
  | .min => if x.slt y then x else y | .max => if x.slt y then y else x
  | .minu => if x.ult y then x else y | .maxu => if x.ult y then y else x
  | .mul => x * y
  | .mulh => BitVec.ofInt 32 (x.toInt * y.toInt / 2 ^ 32) | .mulhu => BitVec.ofNat 32 (x.toNat * y.toNat / 2 ^ 32)

/-- MD5: a register shift count is bits 5:0 as signed. -/
def mbShift (x : Half) (count : Half) : Half :=
  let c := (count.setWidth 6).toInt
  if 0 ≤ c then x <<< c.toNat else x.sshiftRight (-c).toNat

/-- A branch condition. -/
def mbCond (c : MbCond) (x y : Half) : Bool :=
  match c with
  | .eq => x == y | .ne => x != y | .lt => x.slt y | .ge => !x.slt y | .ltu => x.ult y | .geu => !x.ult y

/-- MD7: NORM, 0 for an all-zero input. -/
def mbNorm (x : Vec) (t : ElemType) : Nat :=
  if (List.range (t.count * t.parts)).all (fun i => vPart x t.partWidth i == 0) then 0 else vExponent x t t.count

/-! ## Memory (R620) -/

/-- The partition whose core engine g is. -/
def State.mbPart (s : State) (g : Nat) : Nat := (s.panelOwner (g / 17)).getD 0

/-- The exception that an access of n bytes at MB address a raises. -/
def State.mbFault (s : State) (g a n align : Nat) (write : Bool) : Option Nat :=
  if a % align ≠ 0 then some causeMisaligned
  else match s.mbAddress (s.mbPart g) (some g) a with
    | .device d => s.accessFault g d n align write
    | .nothing => some causeAccess
    | _ => none

/-- A denial of the partition's windows is accounted for. -/
def State.mbDenied (s : State) (g cause a n : Nat) (write : Bool) : State :=
  if cause = causeAccess then match s.mbAddress (s.mbPart g) (some g) a with
    | .device d => s.engDenied g d n write
    | _ => s
  else s

/-- Raise the exception of a refused access. -/
def State.mbRaise (s : State) (g cause a n : Nat) (write : Bool) : State := (s.mbDenied g cause a n write).raiseSync g cause a

/-- A read of n bytes at an MB address that raises nothing: none where the word is bad. -/
def State.mbLoad (s : State) (g a n : Nat) : Option Nat × State :=
  match s.mbAddress (s.mbPart g) (some g) a with
  | .device d => s.loadBytes g d n
  | .view off =>
    if viewFraming off && (s.slotLive (s.ob oPART_HOST_FUNCTION (s.mbPart g) - 1)).isSome then s.loadBytes g (s.framingAddr (s.mbPart g) off) n
    else
      let r := s.viewRead g (s.ob oPART_HOST_FUNCTION (s.mbPart g) - 1) off n
      (some (((r.1.headD none).getD 0).toNat % 2 ^ (8 * n)), r.2)
  | _ => (some 0, s)

/-- A write of n bytes: answers whether the word became POISON. -/
def State.mbStore (s : State) (g a n v : Nat) : Bool × State :=
  match s.mbAddress (s.mbPart g) (some g) a with
  | .device d => s.storeBytes g d n v
  | .view off =>
    if viewFraming off && (s.slotLive (s.ob oPART_HOST_FUNCTION (s.mbPart g) - 1)).isSome then s.storeBytes g (s.framingAddr (s.mbPart g) off) n v
    else (false, s.viewWrite g (s.ob oPART_HOST_FUNCTION (s.mbPart g) - 1) off ((valBytes n v).map some))
  | _ => (false, s)

/-- What holds up an access of engine g to n bytes at an MB address (R14). -/
def State.mbStops (s : State) (g a n : Nat) : Option (Nat × Option Nat) :=
  match s.mbAddress (s.mbPart g) (some g) a with
  | .device d => s.accessStops g d n
  | .view off => s.viewStops g (s.ob oPART_HOST_FUNCTION (s.mbPart g) - 1) off n
  | _ => none

/-- The address and the pointer's new value under an addressing mode. -/
def State.mbPointer (s : State) (g : Nat) (p : BitVec 3) (m : MbMode) (align : Nat) : Address :=
  match s.addressAligned g (pReg p) m align with
  | .at ea base => .at (ea % 2 ^ 32) base
  | .raises c x => .raises c x

/-- A load into a D register. -/
def State.mbLoadOp (s : State) (g sz : Nat) (signed : Bool) (d : BitVec 4) (p : BitVec 3) (m : MbMode) : State :=
  let n := 2 ^ sz
  match s.mbPointer g p m n with
  | .raises c x => s.raiseSync g c x
  | .at a base =>
    match s.mbFault g a n n false with
    | some c => s.mbRaise g c a n false
    | none =>
      match s.mbStops g a n with
      | some x => s.holdE4 g x
      | none =>
      match s.mbLoad g a n with
      | (none, t) => t.poisonReset g
      | (some v, t) =>
        let v := if signed then BitVec.ofInt 32 (toSigned (8 * n) v) else BitVec.ofNat 32 v
        t.retire g (((t.eng g).pSet p (base.setWidth 32)).dSet d v)

/-- A store of a D register. -/
def State.mbStoreOp (s : State) (g sz : Nat) (d : BitVec 4) (p : BitVec 3) (m : MbMode) : State :=
  let n := 2 ^ sz
  match s.mbPointer g p m n with
  | .raises c x => s.raiseSync g c x
  | .at a base =>
    match s.mbFault g a n n true with
    | some c => s.mbRaise g c a n true
    | none =>
      match s.mbStops g a n with
      | some x => s.holdE4 g x
      | none =>
      let r := s.mbStore g a n ((s.eng g).dGet d).toNat
      let t := if r.1 then r.2.poisonJob g else r.2
      t.retire g ((t.eng g).pSet p (base.setWidth 32))

/-- The elements of a vector register, loaded or stored in ascending order at MB addresses. -/
def State.mbLoadElems (s : State) (g bytes : Nat) (a : Nat) (x : Vec) : List Nat → Option Vec × State
  | [] => (some x, s)
  | i :: r =>
    match s.mbLoad g ((a + i * bytes) % 2 ^ 32) bytes with
    | (none, t) => (none, t)
    | (some v, t) => t.mbLoadElems g bytes a (vPut x (8 * bytes) i v) r

def State.mbStoreElems (s : State) (g bytes : Nat) (a : Nat) (x : Vec) : List Nat → State
  | [] => s
  | i :: r =>
    let h := s.mbStore g ((a + i * bytes) % 2 ^ 32) bytes (vField x (8 * bytes) i)
    (if h.1 then h.2.poisonJob g else h.2).mbStoreElems g bytes a x r

/-- A contiguous vector access of every element (R172, MD6), with the native exceptions and waits (R198): elements below the
first that fails are accessed, and EINDEX and VFAULT name it (R174); an element that an island or a bank holds up is waited
for (R176). -/
def State.mbVecMem (s : State) (g : Nat) (write : Bool) (t : ElemType) (v : BitVec 5) (p : BitVec 3) (m : MbMode) : State :=
  let bytes := t.width / 8
  let e := s.eng g
  match s.mbPointer g p m bytes with
  | .raises c x => s.raiseSync g c x
  | .at a base =>
    let at_ := fun i => (a + i * bytes) % 2 ^ 32
    let all := (List.range t.count).filter (fun i => decide ((if e.resumed then e.eindex else 0) ≤ i))
    let fault := all.findSome? (fun i => (s.mbFault g (at_ i) bytes bytes write).map (fun c => (i, c)))
    let ok := match fault with
      | some (j, _) => all.filter (fun i => decide (i < j))
      | none => all
    let due := if write then ok.filter (fun i => decide (e.accepted ≤ i)) else ok
    match due.findSome? (fun i => (s.mbStops g (at_ i) bytes).map (fun x => (i, x))) with
    | some (j, x) =>
      if write then (s.mbStoreElems g bytes a (e.vec v) (due.filter (fun i => decide (i < j)))).holdE4 g x j
      else s.holdE4 g x
    | none =>
    let r : Option Vec × State :=
      if write then (some (e.vec v), s.mbStoreElems g bytes a (e.vec v) due)
      else s.mbLoadElems g bytes a (e.vec v) due
    match r with
    | (none, u) => u.poisonReset g
    | (some x, u) =>
      let f := (u.eng g).setVec v x
      match fault with
      | none => u.retire g ({ f with eindex := 0 }.pSet p (base.setWidth 32))
      | some (j, c) =>
        let u := u.setEng g { f with eindex := j, vfault := BitVec.ofNat 16 (2 ^ j) }
        (u.mbDenied g c (at_ j) bytes write).takeException g c f.pc (at_ j) true

/-! ## Operations (R198) -/

/-- The types that a packed operation accepts, as its native mnemonic does (R169). -/
def mbVecTypes : MbVec → ElemType → Bool
  | .add, _ => true | .sub, _ => true
  | .adds, t => typesBHWCH t | .subs, t => typesBHWCH t
  | .maxe, t => typesBHW t | .mine, t => typesBHW t
  | .and, t => typesBHWD t | .or, t => typesBHWD t | .xor, t => typesBHWD t
  | .mulq, t => t == .h | .cmulq, t => t == .ch | .cmuljq, t => t == .ch

/-- A packed operation of two sources on every element. -/
def Engine.mbVec (e : Engine) (f : MbVec) (t : ElemType) (d x y : BitVec 5) (trunc : Bool) : Engine :=
  let n := t.count
  let rnd := e.mbRound trunc
  let logic := fun (g : Nat → Nat → Nat) =>
    e.setVec d (vFill (e.vec d) t.width n (fun i => g (vField (e.vec x) t.width i) (vField (e.vec y) t.width i)))
  match f with
  | .add => e.vBin t n false d x y (fun a b => a + b)
  | .sub => e.vBin t n false d x y (fun a b => a - b)
  | .adds => e.vBin t n true d x y (fun a b => a + b)
  | .subs => e.vBin t n true d x y (fun a b => a - b)
  | .maxe => e.vBin t n false d x y (fun a b => max a b)
  | .mine => e.vBin t n false d x y (fun a b => min a b)
  | .and => logic (fun a b => a &&& b)
  | .or => logic (fun a b => a ||| b)
  | .xor => logic (fun a b => a ^^^ b)
  | .mulq => e.vMulq rnd n d x y
  | .cmulq => e.vComplex n d x y (mbCmulq false rnd)
  | .cmuljq => e.vComplex n d x y (mbCmulq true rnd)

/-- The types of a packed operation of one source. -/
def mbVec1Types : MbVec1 → ElemType → Bool
  | .negs, t => typesBHWCH t | .abss, t => typesBHW t | .conjs, t => t == .ch
  | .widl, t => t == .w | .widh, t => t == .w

/-- A packed operation of one source on every element. -/
def Engine.mbVec1 (e : Engine) (f : MbVec1) (t : ElemType) (d x : BitVec 5) : Engine :=
  let n := t.count
  match f with
  | .negs => e.vUn t n d x (fun a => satTo t.partWidth (-a))
  | .abss => e.vUn t n d x (fun a => satTo t.partWidth a.natAbs)
  | .conjs => e.vConj n d x
  | .widl => e.vWid n 0 d x
  | .widh => e.vWid n 4 d x

/-- A search over keys. -/
def Engine.mbSearch (e : Engine) (f : MbSearch) (signed mag : List (BitVec 32)) : Engine :=
  match f with
  | .srchi => e
  | .smax => e.search signed searchMax
  | .smin => e.search signed searchMin
  | .cmaxm => e.search mag searchMag

/-- The search register that an operation names: SRCH_VAL, SRCH_IDX or SRCH_BASE. -/
def Engine.searchReg (e : Engine) (k : BitVec 2) : Half :=
  if k = 0 then e.srchVal else if k = 1 then e.srchIdx else e.srchBase
def Engine.setSearchReg (e : Engine) (k : BitVec 2) (v : Half) : Engine :=
  if k = 0 then { e with srchVal := v } else if k = 1 then { e with srchIdx := v } else { e with srchBase := v }

/-- MB_GQSR of engine g (R214). -/
def State.gqsr (s : State) (g : Nat) : Half :=
  let n := gussetOf g
  let b := bankOf g
  let x := s.gus n
  let busy := (x.queued ++ x.work).filterMap (fun w => if w.bank == b then w.tag else none)
  let done := ((List.range 16).map (fun t => if busy.contains t then 0 else 2 ^ t)).sum
  let k := x.mbCount b
  BitVec.ofNat 32 (done * 2 ^ 16 + k * 256 + (if natBit (s.rf GUS_STATE_LOST n) b then 4 else 0)
    + (if x.qsat.contains b then 2 else 0) + (if k = 8 then 1 else 0))

/-- A vector register that an operation names is one of V0–V15 (R200). -/
def mbV (v : BitVec 5) : Bool := decide (v.toNat < 16)

/-- The operation names only registers that MB-DSP has, and types and counts that its native counterpart accepts. -/
def mbLegal : MbOp → Bool
  | .loadVec _ v _ _ => mbV v
  | .storeVec _ v _ _ => mbV v
  | .vmacr x y => mbV x && mbV y
  | .vcmac _ _ x y => mbV x && mbV y
  | .vec f t d x y _ => mbV d && mbV x && mbV y && mbVecTypes f t
  | .vec1 f t d x => mbV d && mbV x && mbVec1Types f t
  | .vecShift _ t d x n _ => mbV d && mbV x && typesHWCH t && decide (n.toNat < t.partWidth)
  | .vecNarrow d x y _ _ => mbV d && mbV x && mbV y
  | .norm t _ x => mbV x && typesHWCH t
  | .vecSearch f x => mbV x && f != .srchi
  | .load sz _ _ _ _ => sz != 3
  | .store sz _ _ _ => sz != 3
  | _ => true

/-- An operation that only changes engine registers. -/
def Engine.mbCompute (e : Engine) : MbOp → Engine
  | .alu f d x y => e.dSet d (mbAlu f (e.dGet x) (e.dGet y))
  | .aluImm f d x imm =>
    e.dSet d (mbAlu f (e.dGet x) (match f with
      | .and => imm.setWidth 32 | .or => imm.setWidth 32 | .xor => imm.setWidth 32
      | _ => imm.signExtend 32))
  | .shift d x y => e.dSet d (mbShift (e.dGet x) (e.dGet y))
  | .shiftImm right arith d x n =>
    e.dSet d (if !right then e.dGet x <<< n.toNat else if arith then (e.dGet x).sshiftRight n.toNat else e.dGet x >>> n.toNat)
  | .loadHalf keep d imm high =>
    let v : Half := imm.setWidth 32 <<< (if high then 16 else 0)
    if keep then e.dSet d ((e.dGet d &&& (if high then 0xFFFF else 0xFFFF0000)) ||| v)
    else e.dSet d (if high then v else imm.signExtend 32)
  | .toPointer p x => e.pSet p (e.dGet x)
  | .fromPointer d p => e.dSet d (e.pGet p)
  | .toModifier m x => { e with m := e.m.set m.toNat ((e.dGet x).signExtend 64) m.isLt }
  | .macr fresh sub x y =>
    let sign : Int := if sub then -1 else 1
    (List.range 2).foldl (fun (e : Engine) i =>
      let k := BitVec.ofNat 2 i
      let e := if fresh then e.setAcc k 0 else e
      e.mbMacOne k sign (dHalf (e.dGet x) i) (dHalf (e.dGet y) i)) e
  | .cmac fresh conj pair x y =>
    let e := if fresh then (e.setAcc (pairRe pair) 0).setAcc (pairIm pair) 0 else e
    e.mbCmac conj pair (dComplex (e.dGet x)) (dComplex (e.dGet y))
  | .vmacr x y => e.vMac 8 x y (fun e k a b => e.mbMacOne k 1 a b)
  | .vcmac conj pair x y => e.vCmac 4 x y (fun e a b => e.mbCmac conj pair a b)
  | .accZero mask => (List.range 4).foldl (fun e k => if mask.getLsbD k then e.setAcc (BitVec.ofNat 2 k) 0 else e) e
  | .accRead d k => e.dSet d (BitVec.ofInt 32 (e.acc k))
  | .accWrite k x => e.setAcc k (e.dGet x).toInt
  | .accStore d k n wide trunc =>
    let r := extractAcc (e.mbRound trunc) n.toNat (if wide then 32 else 16) (e.acc k)
    (e.dSet d (BitVec.ofInt 32 r.1)).orSat r.2
  | .cAccStore d pair n trunc =>
    let a := extractAcc (e.mbRound trunc) n.toNat 16 (e.acc (pairRe pair))
    let b := extractAcc (e.mbRound trunc) n.toNat 16 (e.acc (pairIm pair))
    (e.dSet d (BitVec.ofInt 16 b.1 ++ BitVec.ofInt 16 a.1)).orSat (a.2 || b.2)
  | .vec f t d x y trunc => e.mbVec f t d x y trunc
  | .vec1 f t d x => e.mbVec1 f t d x
  | .vecShift left t d x n trunc =>
    if left then e.vShls t t.count n.toNat d x else e.vShrr t (e.mbRound trunc) t.count n.toNat d x
  | .vecNarrow d x y n trunc => e.vNarw (e.mbRound trunc) 8 n.toNat d x y
  | .norm t d x => e.dSet d (BitVec.ofNat 32 (mbNorm (e.vec x) t))
  | .search f x =>
    let v := e.dGet x
    if f = .srchi then { e with srchBase := v, srchArmed := true }
    else e.mbSearch f [BitVec.ofInt 32 (dHalf v 0), BitVec.ofInt 32 (dHalf v 1)] [magKey (dHalf v 0) (dHalf v 1)]
  | .vecSearch f x => e.mbSearch f (vKeys (e.vec x) 8) (vMagKeys (e.vec x) 4)
  | .searchRead k d => e.dSet d (e.searchReg k)
  | .searchWrite k x => e.setSearchReg k (e.dGet x)
  | .statusRead d => e.dSet d e.mbStatus
  | _ => e

/-- The engine with the address of the next instruction in a link register. -/
def Engine.mbLink (e : Engine) : Option (BitVec 4) → Engine
  | some d => e.dSet d (BitVec.ofNat 32 ((e.pc + 4) % 2 ^ 15))
  | none => e

/-- MB_DSP_OPERATION: an operation of R198 executes on its native datapath. -/
def execMbDspOperation (engine : Nat) (op : MbOp) (s : State) : Host.Outcome State Fault Refusal :=
  .next (s.mbNative engine (fun e =>
    if !mbLegal op then s.illegal engine else
    match op with
    | .branch c x y off =>
      if mbCond c (e.dGet x) (e.dGet y) then s.jumpTo engine e (branchTarget e.pc off.toInt) else s.retire engine e
    | .jump off link => s.jumpTo engine (e.mbLink link) (branchTarget e.pc off.toInt)
    | .jumpReg x link => s.jumpTo engine (e.mbLink link) ((e.dGet x).toNat % 2 ^ 15)
    | .load sz signed d p m => s.mbLoadOp engine sz.toNat signed d p m
    | .store sz x p m => s.mbStoreOp engine sz.toNat x p m
    | .loadVec t v p m => s.mbVecMem engine false t v p m
    | .storeVec t v p m => s.mbVecMem engine true t v p m
    | .gqsrRead d => s.retire engine (e.dSet d (s.gqsr engine))
    | _ => s.retire engine (e.mbCompute op)))

/-! ## Gusset commands (R212, R213) -/

/-- The Gusset operation of a command, with the value of the vector register that it names. -/
def mbGussetOp (e : Engine) : MbGusset → GOp
  | .movt q v row => .movt q.toNat row.toNat (e.vec v)
  | .mul d a b => .mul d.toNat a.toNat b.toNat
  | .mulh d a b => .mulh d.toNat a.toNat b.toNat
  | .mulbh d a b => .mulbh d.toNat a.toNat b.toNat
  | .mac d a b => .mac d.toNat a.toNat b.toNat
  | .msu d a b => .msu d.toNat a.toNat b.toNat
  | .add d a b => .add d.toNat a.toNat b.toNat
  | .sub d a b => .sub d.toNat a.toNat b.toNat
  | .herm d a => .herm d.toNat a.toNat
  | .zero d => .zero d.toNat
  | .shr d a n => .shr d.toNat a.toNat n.toNat

/-- The command names a register that MB-DSP has. -/
def mbGussetLegal : MbGusset → Bool
  | .movt _ v _ => mbV v
  | _ => true

/-- MB_GUSSET_COMMAND: it enters the queue as it retires, or holds the engine while eight are queued or uncommitted. -/
def execMbGussetCommand (engine : Nat) (tag : BitVec 4) (op : MbGusset) (s : State) :
    Host.Outcome State Fault Refusal :=
  .next (s.mbNative engine (fun e =>
    let n := gussetOf engine
    let b := bankOf engine
    if !mbGussetLegal op then s.illegal engine
    else if !s.gussetUp n || engine % 17 == 16 then s.raiseSync engine causeGusset 0
    else
      let x := s.gus n
      let w : GWork := { bank := b, op := mbGussetOp e op, rnd := e.rndm, tag := some tag.toNat, retired := true,
                         begun := false, value := 0, saturated := false }
      if x.mbCount b < 8 then (s.setGus n { x with queued := x.queued ++ [w] }).retire engine e
      else (s.setGus n { x with presented := x.presented.set b w }).setEng engine { e with wait := .gusset }))

/-- MB_GUSSET_READ: a row moves to V0–V15. The engine waits, and presents the operation again, until the row is usable
(R213). Its read of the register file is like a GMOVF's (R215). -/
def execMbGussetRead (engine : Nat) (vd : BitVec 5) (qs : BitVec 4) (read : RowRead) (s : State) :
    Host.Outcome State Fault Refusal :=
  .next (s.mbNative engine (fun e =>
    let n := gussetOf engine
    let b := bankOf engine
    let x := s.gus n
    let op : GOp := .movf vd.toNat qs.toNat read.row.toNat
    if !mbV vd then s.illegal engine
    else if !s.gussetUp n || engine % 17 == 16 then s.raiseSync engine causeGusset 0
    else if !x.rowUsable b qs.toNat then s.setEng engine { e with wait := .again 0 }
    else if read.uncorrectable || x.readsPoison b op then s.gussetBadRead n read.uncorrectable
    else
      (s.gussetCorrected n b op read.corrected).retire engine
        (e.setVec vd ((gResult op 0 (x.shadow b)).1.setWidth 128))))

/-! ## Queues, jobs and events (R626) -/

/-- The queue of inbox f of core c. -/
def State.mbInbox (s : State) (p c f : Nat) : Nat := s.ob oPART_QUEUE_BASE p + 4 * c + f

/-- Where a message of 32 bytes lies: a device address, or the exception. -/
def State.mbMessage (s : State) (g : Nat) (p : BitVec 3) (m : MbMode) (write : Bool) : (Nat × Word) ⊕ (Nat × Nat) :=
  match s.mbPointer g p m 8 with
  | .raises c x => .inr (c, x)
  | .at a base =>
    match s.mbFault g a 32 8 write, s.mbAddress (s.mbPart g) (some g) a with
    | some c, _ => .inr (c, a)
    | none, .device d => .inl (d, base)
    | none, _ => .inr (causeAccess, a)

/-- MB_SEND_MESSAGE: PUSH to inbox f of core c, the message in bytes 0–31 of the entry. -/
def execMbSendMessage (engine : Nat) (core : BitVec 6) (inbox : BitVec 2) (p : BitVec 3) (mode : MbMode) (s : State) :
    Host.Outcome State Fault Refusal :=
  .next (s.mbNative engine (fun _ =>
    match s.mbMessage engine p mode false with
    | .inr (c, a) => s.mbRaise engine c a 32 false
    | .inl (d, base) =>
      let q := s.mbInbox (s.mbPart engine) core.toNat inbox.toNat
      if !s.queueReach q then s.raiseSync engine causeAccess d else s.whenOpen engine d 32 (
      let r := s.readWords d engine 1 4
      let t := if r.1.any Option.isNone then r.2.poisonJob engine else r.2
      let x := t.port q engine
      let stalls := !x.stalled.isEmpty || x.credits == 0
      let e := t.eng engine
      let t := t.setEng engine { e with wait := .credit q (pReg p).toNat ((e.pSet p (base.setWidth 32)).reg (pReg p)) }
      let t := t.pushEntry q engine (r.1 ++ [some 0, some 0, some 0, some (t.pushTag engine)])
      if stalls then t else (t.releaseEngine q engine).takeAsync engine)))

/-- MB_RECEIVE_MESSAGE: POPW or POP of the core's own inbox; POP gives 1 or 0 in D register `result`. -/
def execMbReceiveMessage (engine : Nat) (inbox : BitVec 2) (result : Option (BitVec 4)) (p : BitVec 3) (mode : MbMode)
    (s : State) : Host.Outcome State Fault Refusal :=
  .next (s.mbNative engine (fun e =>
    match s.mbMessage engine p mode true with
    | .inr (c, a) => s.mbRaise engine c a 32 true
    | .inl (d, base) => s.whenOpen engine d 32 (
      let q := s.mbInbox (s.mbPart engine) (s.coreOf (s.mbPart engine) engine) inbox.toNat
      let answer := fun (e : Engine) (v : Half) => match result with
        | some n => e.dSet n v
        | none => e
      match s.popQueue q engine with
      | (.denied, _) => s.raiseSync engine causeAccess d
      | (.stalled, t) => t.setEng engine { e with wait := .again 0 }
      | (.empty, t) =>
        if result.isSome then t.retire engine (answer ((t.eng engine).pSet p (base.setWidth 32)) 0)
        else
          let kept := ((t.eng engine).pSet p (base.setWidth 32)).reg (pReg p)
          (t.setEng engine { t.eng engine with wait := .entry q d (pReg p).toNat kept }).takeAsync engine
      | (.entry w, t) =>
        let t := t.storeEntry engine d (w.take 4)
        t.retire engine (answer ((t.eng engine).pSet p (base.setWidth 32)) 1))))

/-- MB_RAISE_HOST_INTERRUPT: SIGNAL, reason 0x04. -/
def execMbRaiseHostInterrupt (engine : Nat) (s : State) : Host.Outcome State Fault Refusal :=
  .next (s.mbNative engine (fun e => (s.engEvent engine 0x04).retire engine e))

/-- MB_HALT: WAITJOB, which enters HALTED because HALT_REQ is set. -/
def execMbHalt (engine : Nat) (s : State) : Host.Outcome State Fault Refusal :=
  .next (s.mbNative engine (fun e =>
    if e.state = .free then s.waitJob engine else s.illegal engine))

/-- MB_READ_CYCLE_COUNTER: elapsed time at 1 GHz since the engine's last reset or release. -/
def execMbReadCycleCounter (engine : Nat) (d : BitVec 4) (s : State) : Host.Outcome State Fault Refusal :=
  .next (s.mbNative engine (fun e =>
    s.retire engine (e.dSet d (BitVec.ofNat 32 ((s.replica (engine / 17) - e.resetTick) * 3125 / 384)))))

end Sys2Proof.Machine
end

