-- ==== Sys2Proof/Machine/SeamReceive.lean ====
section
/-!
DEFINITION. What units of the Seam do where they arrive: fencing (R364), rights (R367, R373), queue and memory traffic of
peers, control registers among it (R28, R373, R374), forwarding (R372), and the order of arrival (R359).
-/

namespace Sys2Proof.Machine

open Reg Ob

/-! ## What a unit does where it arrives -/

/-- What this die allows die n, for a unit of bolt epoch `e`: for 8,192 ticks after a change the sets of both epochs are
in force (R367). -/
def State.rightsFor (s : State) (n e : Nat) : SeamRights :=
  match s.seam.switchAt with
  | some t =>
    if s.tb.count < t ∧ e % 256 = (s.rf SEAM_EPOCH_EPOCH + 255) % 256 then Tab.get SeamRights.none s.seam.inboundOld n
    else Tab.get SeamRights.none s.seam.inbound n
  | none => Tab.get SeamRights.none s.seam.inbound n

/-- An access of a peer is denied (R373). -/
def State.seamDenied (s : State) (n : Nat) : State := (s.incf SEAM_DENIED_COUNT).raise 0x0913 n

/-- A message waits to be taken. -/
def State.arrive (s : State) (n : Nat) (b : SeamBody) : State :=
  s.setSeam { s.seam with arrivals := s.seam.arrivals ++ [(n, b)] }

/-- The job that runs here for a bolt peer starts (R115), or completes at once where its ARGS fail (R228). -/
def State.takeOffer (s : State) (n number : Nat) : State :=
  match s.sh.reservations.find? (fun r => r.peer == n && r.offer == number && !r.started) with
  | some r =>
    let j := { Job.staged s.sh.nextJob (8 + n) 0 0 r.descriptor with
      phase := .running, unit := r.unit, inputs := r.inputs, taken := true, attempts := 1, dispatchTick := s.shTick,
      filter := s.filterOf (Job.staged s.sh.nextJob (8 + n) 0 0 r.descriptor) }
    let s := s.setSh { s.sh with nextJob := s.sh.nextJob + 1, jobs := s.sh.jobs ++ [j],
                                 reservations := s.sh.reservations.map (fun x => if x = r then { x with started := true } else x) }
    if r.valid then s else s.reportJob j.id ⟨codeBadDescriptor, 0, 0, false⟩
  | none => s

/-- A write by a peer, of the bytes that it enables; one to a control register is an access of unit 0x900 + n (R28, R30). -/
def State.peerWrite (s : State) (n a : Nat) (w : List (Option Byte)) : State :=
  let u := 0x900 + n
  match s.place a with
  | .control c =>
    let at0 := (w.findIdx? Option.isSome).getD 0
    let bytes := w.filterMap id
    if (bytes.length = 4 ∨ bytes.length = 8) ∧ at0 % bytes.length = 0 then
      s.regWrite u none (c + at0) bytes.length (bytesVal bytes)
    else s
  | _ => (s.mergeWordAt a u w).2

/-- A write of a whole word by a peer; a poisoned write to a control register is discarded. -/
def State.peerStore (s : State) (n a : Nat) (w : Carried) : State :=
  match s.place a, w with
  | .control c, some v => s.regWrite (0x900 + n) none c 8 v.toNat
  | .control _, none => s
  | _, _ => s.writeWordAt a (0x900 + n) w

/-- What stops a peer's access. -/
def State.peerStops (s : State) (n a : Nat) : Option (Nat × Option Nat) :=
  match s.place a with
  | .control c => s.regStops (0x900 + n) none c 8
  | _ => s.accessStops (0x900 + n) a 8

/-- A read of a word by a peer. Of the control registers it is an access of eight bytes; what R31 makes a decode error answers
with the poison mark, as a denial does. DESIGN CHOICE. -/
def State.peerFetch (s : State) (n a : Nat) : Carried × State :=
  let u := 0x900 + n
  match s.place a with
  | .control c =>
    let r := s.regRead u none c 8
    (r.1.map (BitVec.ofNat 64), r.2)
  | _ => s.readWordAt a u 1

/-- A unit of this die does its work (R373, R374). -/
def State.deliver (s : State) (n e : Nat) : SeamBody → State
  | .entry q v w =>
    if rightsQueue (s.rightsFor n e) q then
      let u := 0x900 + n
      let p := s.port q u
      let s := s.setSeam { s.seam with landing := s.seam.landing ++ [(n, q, v)] }
      (s.setPort q u { p with credits := p.credits - 1 }).addFlit ⟨.entry, q, u, s.epoch u, some (73 * 256 + weftIsland), false, w⟩
    else (s.seamDenied n).post n (.landed q v)
  | .creditRequest q u =>
    if rightsQueue (s.rightsFor n e) q then
      let s := s.setSeam { s.seam with asks := s.seam.asks ++ [(n, q, u)] }
      { s with weft := { s.weft with waiting := s.weft.waiting ++ [(q, 0x900 + n)] } }.serve q
    else s.seamDenied n
  | .pop q u =>
    if rightsQueue (s.rightsFor n e) q then
      match s.popQueue q (0x900 + n) with
      | (.entry w, t) => t.post n (.popReply q u (some w) false)
      | (.empty, t) => t.post n (.popReply q u none false)
      | (.denied, t) => t.post n (.popReply q u none true)
      | (.stalled, t) => t
    else (s.seamDenied n).post n (.popReply q u none true)
  | .read u a =>
    if rightsGrant (s.rightsFor n e) a 8 false then
      let r := s.peerFetch n a
      r.2.post n (.readReply u a r.1)
    else (s.seamDenied n).post n (.readReply u a none)
  | .writeWord u a w =>
    (if rightsGrant (s.rightsFor n e) a 8 true && !s.codeLocked a 8 true then s.peerStore n a w
      else s.seamDenied n).post n (.written u)
  | .writeBytes u a w =>
    (if rightsGrant (s.rightsFor n e) a 8 true && !s.codeLocked a 8 true then s.peerWrite n a w
      else s.seamDenied n).post n (.written u)
  | .written u => s.setSeam { s.seam with awaited := s.seam.awaited.erase (n, u, none) }
  | .landed q u =>
    (s.setSeam { s.seam with awaited := s.seam.awaited.erase (n, u, some q) }).entryLanded ((s.aliasFor n q).getD q) u
  | .readReply u a _ =>
    match s.seam.reads.find? (fun r => r.peer == n && r.unit == u && r.addr == a) with
    | some r => s.setSeam { s.seam with reads := s.seam.reads.erase r }
    | none => s
  | .grant q u c =>
    match s.aliasFor n q with
    | some k =>
      let s := s.creditsArrive k u c
      if u < 0x440 then s.takeAsync u else s
    | none => s
  | .popReply q u w d =>
    if u < 0x440 then s.peerPopped u n q w d
    else
      let k := (s.aliasFor n q).getD q
      s.send (if d then .popDenied k u else match w with
        | some l => .popEntry k u l
        | none => .popEmpty k u)
  | .advert l => s.setSh { s.sh with adverts := (List.range 7).foldl (fun t i => t.set (n * 8 + i) (l.getD i 0)) s.sh.adverts }
  | .offerTake k => s.takeOffer n k
  | .offerWithdraw k =>
    s.setSh { s.sh with reservations := s.sh.reservations.filter (fun r => !(r.peer == n && r.offer == k && !r.started)) }
  | .offerOutput k w =>
    match s.job k with
    | some j => if j.peer = some n ∧ j.phase = .running then s.jobPush k w else s
    | none => s
  | .offerReport k c r x =>
    match s.job k with
    | some j => if j.peer = some n ∧ j.phase = .running then s.reportJob k ⟨c, r, x, false⟩ else s
    | none => s
  | .changeAck k =>
    match s.seam.proposal with
    | some p => if p.epoch = k then s.setSeam { s.seam with proposal := some { p with acks := n :: p.acks.erase n } } else s
    | none => s
  | .askOutcome k =>
    match s.seam.proposal with
    | some p => if p.epoch = k then (match p.outcome with
        | some ok => s.postChange n (if ok then .commit k else .abandon k)
        | none => s) else s
    | none => if s.bit SEAM_BOLT_VALID && s.rf SEAM_EPOCH_EPOCH == k then s.postChange n (.commit k) else s
  | .leave => s.setSeam { s.seam with leaving := s.seam.leaving ||| 2 ^ n }
  | .republish => s.setSeam { s.seam with wanted := true }
  | b => s.arrive n b

/-! ## Receiving (R39, R359, R364, R370, R372) -/

/-- The payload of a unit crosses with errors (R39). -/
def State.crossBody (s : State) (unit : Nat) (b : SeamBody) (errors : List (BitVec 80)) : SeamBody × State :=
  match b with
  | .entry q u w => let r := s.crossWords unit w errors; (.entry q u r.1, r.2)
  | .writeWord u a w => let r := s.crossWords unit [w] errors; (.writeWord u a (r.1.headD none), r.2)
  | .readReply u a w => let r := s.crossWords unit [w] errors; (.readReply u a (r.1.headD none), r.2)
  | .popReply q u (some w) d => let r := s.crossWords unit w errors; (.popReply q u (some r.1) d, r.2)
  | .offerOutput k w => let r := s.crossWords unit w errors; (.offerOutput k r.1, r.2)
  | b => (b, s)

/-- Pass a unit on (R372): to the next link of the route; a unit of entry for a die that is no member goes back the way that
die's own came. -/
def State.forward (s : State) (l : Nat) (u : SeamUnit) : State :=
  if u.hop = 7 then s.incf SEAM_FENCED_COUNT l
  else
    let s := s.incf SEAM_FWD_UNITS_COUNT l
    let v := { u with hop := u.hop + 1 }
    match s.entering u && !s.member u.dest, Tab.get none s.seam.paths u.dest with
    | true, some k => s.setLink k { s.slink k with queue := (s.slink k).queue ++ [v] }
    | _, _ => s.postUnit v

/-- A message of admission that is meant for the leader goes on to it (R366). -/
def State.relayed (s : State) (u : SeamUnit) : Bool :=
  (match u.body with
    | .join _ _ _ => true
    | .proof _ _ _ _ => true
    | _ => false) && s.bit SEAM_BOLT_VALID && s.rf SEAM_BOLT_LEADER != s.self

/-- A unit accepted in order: fenced, forwarded or delivered. -/
def State.takeUnit (s : State) (l : Nat) (u : SeamUnit) (route : BitVec 80) (errors : List (BitVec 80)) : State :=
  let id := 0x900 + u.src
  let s := s.setLink l { s.slink l with owed := (s.slink l).owed.set (bufferOf u) (Tab.get 0 (s.slink l).owed (bufferOf u) + 1) }
  if s.entering u then
    let s := s.setSeam { s.seam with paths := s.seam.paths.set u.src (some l) }
    if u.dest ≠ s.self then s.forward l u
    else if s.relayed u then s.forward l { u with dest := s.rf SEAM_BOLT_LEADER }
    else s.deliver u.src u.bepoch u.body
  else if !s.peerMember l then s.incf SEAM_FENCED_COUNT l
  else if u.aepoch ≠ s.epoch id then
    (s.incf SEAM_FENCED_COUNT l).fenceFlit id (match u.body with
      | .entry q _ _ => if u.dest = s.self then some q else none
      | _ => none)
  else if !routeUsable route then (s.incf QM_ROUTE_LOST_COUNT).raise evRouteLost (islandOf id * 256 + islandOf id)
  else
    let s := s.routeCopy route
    let r := s.crossBody id u.body errors
    if u.dest = r.2.self then r.2.deliver u.src u.bepoch r.1 else r.2.forward l { u with body := r.1 }

/-- What a unit that would do its work here has to wait for, and the state with its stall begun: the island of what it reads,
writes or pops (R14, R553). -/
def State.bodyStalls (s : State) (n e : Nat) : SeamBody → Option State
  | .read _ a => if rightsGrant (s.rightsFor n e) a 8 false then (s.peerStops n a).map s.stallOn else none
  | .writeWord _ a _ => if rightsGrant (s.rightsFor n e) a 8 true then (s.peerStops n a).map s.stallOn else none
  | .writeBytes _ a _ => if rightsGrant (s.rightsFor n e) a 8 true then (s.peerStops n a).map s.stallOn else none
  | .pop q _ =>
    if rightsQueue (s.rightsFor n e) q then
      (if s.islandStops weftIsland then some (s.stallAt weftIsland) else
      match s.popQueue q (0x900 + n) with
      | (.stalled, t) => some t
      | _ => none)
    else none
  | _ => none

/-- A unit for this die that would be taken has to wait: it is not accepted, and comes again. -/
def State.unitStalls (s : State) (l : Nat) (u : SeamUnit) (route : BitVec 80) : Option State :=
  if u.dest = s.self ∧ s.peerMember l = true ∧ u.aepoch = s.epoch (0x900 + u.src) ∧ routeUsable route = true then
    s.bodyStalls u.src u.bepoch u.body
  else none

/-- SEAM_UNIT_RECEIVE: a unit arrives on a link. The errors are what its route codeword and its payload codewords have
picked up. A SEQ that is missing is asked for once; a unit received before is discarded. -/
def execSeamUnitReceive (link : Nat) (header : SeamHeader) (unit : SeamUnit) (route : BitVec 80)
    (errors : List (BitVec 80)) (s : State) : Host.Outcome State Fault Refusal :=
  .next (if !s.linkIsUp link then s else
    let x := s.slink link
    let unit := { unit with src := unit.src % 8, dest := unit.dest % 8 }
    match (if header.seq % 4096 = x.expected then s.unitStalls link unit route else none) with
    | some t => t
    | none =>
    let k := header.crVc * 8 + header.crHop
    let s := s.setLink link { x with spent := x.spent.set k (Tab.get 0 x.spent k - header.crCount) }
    let s := if header.ackValid then s.acked link header.ackSeq else s
    let x := s.slink link
    let ahead := (header.seq % 4096 + 4096 - x.expected) % 4096
    if ahead = 0 then
      let s := s.setLink link { x with expected := (x.expected + 1) % 4096, unacked := x.unacked + 1, nak := none }
      s.takeUnit link unit route errors
    else if ahead < 2048 then
      if x.nak.isSome then s else (s.setLink link { x with nak := some s.tb.count }).sendControl link (.seamNak link x.expected)
    else s.setLink link { x with unacked := x.unacked + 1 })

end Sys2Proof.Machine
end

