-- ==== Sys2Proof/Machine/Dispatch.lean ====
section
/-!
DEFINITION. One arm for each command: the meaning it calls.
-/

namespace Sys2Proof.Machine

def exec (i : Instr) (s : State) : Host.Outcome State Fault Refusal :=
  match i with
  | .registerWrite requester page address width value => Sys2Proof.Machine.execRegisterWrite requester page address width value s
  | .registerLowHalfRead requester page address => Sys2Proof.Machine.execRegisterLowHalfRead requester page address s
  | .registerHighHalfRead requester page address => Sys2Proof.Machine.execRegisterHighHalfRead requester page address s
  | .rcRegisterRead requester page address width => Sys2Proof.Machine.execRcRegisterRead requester page address width s
  | .partCreate session part => Sys2Proof.Machine.execPartCreate session part s
  | .partStart session part => Sys2Proof.Machine.execPartStart session part s
  | .partUnitsReady part => Sys2Proof.Machine.execPartUnitsReady part s
  | .partStop session part => Sys2Proof.Machine.execPartStop session part s
  | .partDrainDone part => Sys2Proof.Machine.execPartDrainDone part s
  | .partDelete session part => Sys2Proof.Machine.execPartDelete session part s
  | .partitionReset part => Sys2Proof.Machine.execPartitionReset part s
  | .stitchTransfer sender receiver routeA routeB errors requests answers => Sys2Proof.Machine.execStitchTransfer sender receiver routeA routeB errors requests answers s
  | .clockFloor island mhz => Sys2Proof.Machine.execClockFloor island mhz s
  | .queueEntryLand queue unit => Sys2Proof.Machine.execQueueEntryLand queue unit s
  | .queuePopRequest queue unit => Sys2Proof.Machine.execQueuePopRequest queue unit s
  | .creditRequest queue unit => Sys2Proof.Machine.execCreditRequest queue unit s
  | .creditGrantArrive queue unit => Sys2Proof.Machine.execCreditGrantArrive queue unit s
  | .queueStall queue unit => Sys2Proof.Machine.execQueueStall queue unit s
  | .queueEnable requester queue depthLog grantLog consumer => Sys2Proof.Machine.execQueueEnable requester queue depthLog grantLog consumer s
  | .queueDisable requester queue depthLog grantLog consumer => Sys2Proof.Machine.execQueueDisable requester queue depthLog grantLog consumer s
  | .queueDrainMark queue unit => Sys2Proof.Machine.execQueueDrainMark queue unit s
  | .drainMarkResend queue unit => Sys2Proof.Machine.execDrainMarkResend queue unit s
  | .tbStep requester delta => Sys2Proof.Machine.execTbStep requester delta s
  | .syncSourceValid error => Sys2Proof.Machine.execSyncSourceValid error s
  | .syncSourceLost => Sys2Proof.Machine.execSyncSourceLost s
  | .syncLocked => Sys2Proof.Machine.execSyncLocked s
  | .holdoverExpired => Sys2Proof.Machine.execHoldoverExpired s
  | .hostStateWrite value => Sys2Proof.Machine.execHostStateWrite value s
  | .hostStateTimeout => Sys2Proof.Machine.execHostStateTimeout s
  | .deferredStep error => Sys2Proof.Machine.execDeferredStep error s
  | .sysrefLost => Sys2Proof.Machine.execSysrefLost s
  | .sysrefReturn => Sys2Proof.Machine.execSysrefReturn s
  | .ppsOutEdge => Sys2Proof.Machine.execPpsOutEdge s
  | .ppsInEdge sub => Sys2Proof.Machine.execPpsInEdge sub s
  | .ppsInLost => Sys2Proof.Machine.execPpsInLost s
  | .todRxMessage message => Sys2Proof.Machine.execTodRxMessage message s
  | .todTxMessage => Sys2Proof.Machine.execTodTxMessage s
  | .carrierTimerConfig requester carrier register value => Sys2Proof.Machine.execCarrierTimerConfig requester carrier register value s
  | .carrierTimerStart carrier => Sys2Proof.Machine.execCarrierTimerStart carrier s
  | .carrierSlotStart carrier => Sys2Proof.Machine.execCarrierSlotStart carrier s
  | .comparatorArm requester comparator control => Sys2Proof.Machine.execComparatorArm requester comparator control s
  | .comparatorWrite requester comparator register value => Sys2Proof.Machine.execComparatorWrite requester comparator register value s
  | .comparatorFire => Sys2Proof.Machine.execComparatorFire s
  | .descriptorStage => Sys2Proof.Machine.execDescriptorStage s
  | .shuttleTriggerFire => Sys2Proof.Machine.execShuttleTriggerFire s
  | .shTriggerWrite requester p value => Sys2Proof.Machine.execShTriggerWrite requester p value s
  | .shCancel requester p value => Sys2Proof.Machine.execShCancel requester p value s
  | .jobCancel => Sys2Proof.Machine.execJobCancel s
  | .jobDispatch => Sys2Proof.Machine.execJobDispatch s
  | .jobLateCheck job => Sys2Proof.Machine.execJobLateCheck job s
  | .jobCompletionReport => Sys2Proof.Machine.execJobCompletionReport s
  | .completionRecordPush => Sys2Proof.Machine.execCompletionRecordPush s
  | .sqEnable requester index value => Sys2Proof.Machine.execSqEnable requester index value s
  | .sqDisable requester index value => Sys2Proof.Machine.execSqDisable requester index value s
  | .forecastSend island => Sys2Proof.Machine.execForecastSend island s
  | .offerSend => Sys2Proof.Machine.execOfferSend s
  | .offerReceive => Sys2Proof.Machine.execOfferReceive s
  | .offerAccept => Sys2Proof.Machine.execOfferAccept s
  | .offerTimeout => Sys2Proof.Machine.execOfferTimeout s
  | .offerAdvertise => Sys2Proof.Machine.execOfferAdvertise s
  | .iNop engine => Sys2Proof.Machine.execINop engine s
  | .iFence engine => Sys2Proof.Machine.execIFence engine s
  | .iEret engine => Sys2Proof.Machine.execIEret engine s
  | .iBreak engine => Sys2Proof.Machine.execIBreak engine s
  | .iSignal engine => Sys2Proof.Machine.execISignal engine s
  | .iWaitjob engine => Sys2Proof.Machine.execIWaitjob engine s
  | .iExit engine gs => Sys2Proof.Machine.execIExit engine gs s
  | .iMfs engine gd sr => Sys2Proof.Machine.execIMfs engine gd sr s
  | .iMts engine sr gs => Sys2Proof.Machine.execIMts engine sr gs s
  | .iAdd engine gd gs gt => Sys2Proof.Machine.execIAdd engine gd gs gt s
  | .iSub engine gd gs gt => Sys2Proof.Machine.execISub engine gd gs gt s
  | .iAnd engine gd gs gt => Sys2Proof.Machine.execIAnd engine gd gs gt s
  | .iOr engine gd gs gt => Sys2Proof.Machine.execIOr engine gd gs gt s
  | .iXor engine gd gs gt => Sys2Proof.Machine.execIXor engine gd gs gt s
  | .iSll engine gd gs gt => Sys2Proof.Machine.execISll engine gd gs gt s
  | .iSrl engine gd gs gt => Sys2Proof.Machine.execISrl engine gd gs gt s
  | .iSra engine gd gs gt => Sys2Proof.Machine.execISra engine gd gs gt s
  | .iSlt engine gd gs gt => Sys2Proof.Machine.execISlt engine gd gs gt s
  | .iSltu engine gd gs gt => Sys2Proof.Machine.execISltu engine gd gs gt s
  | .iMin engine gd gs gt => Sys2Proof.Machine.execIMin engine gd gs gt s
  | .iMax engine gd gs gt => Sys2Proof.Machine.execIMax engine gd gs gt s
  | .iMinu engine gd gs gt => Sys2Proof.Machine.execIMinu engine gd gs gt s
  | .iMaxu engine gd gs gt => Sys2Proof.Machine.execIMaxu engine gd gs gt s
  | .iMul engine gd gs gt => Sys2Proof.Machine.execIMul engine gd gs gt s
  | .iMulh engine gd gs gt => Sys2Proof.Machine.execIMulh engine gd gs gt s
  | .iMulhu engine gd gs gt => Sys2Proof.Machine.execIMulhu engine gd gs gt s
  | .iAddi engine gd gs imm => Sys2Proof.Machine.execIAddi engine gd gs imm s
  | .iAndi engine gd gs imm => Sys2Proof.Machine.execIAndi engine gd gs imm s
  | .iOri engine gd gs imm => Sys2Proof.Machine.execIOri engine gd gs imm s
  | .iXori engine gd gs imm => Sys2Proof.Machine.execIXori engine gd gs imm s
  | .iSlti engine gd gs imm => Sys2Proof.Machine.execISlti engine gd gs imm s
  | .iSltiu engine gd gs imm => Sys2Proof.Machine.execISltiu engine gd gs imm s
  | .iSlli engine gd gs count => Sys2Proof.Machine.execISlli engine gd gs count s
  | .iSrli engine gd gs count => Sys2Proof.Machine.execISrli engine gd gs count s
  | .iSrai engine gd gs count => Sys2Proof.Machine.execISrai engine gd gs count s
  | .iLis engine gd imm hw => Sys2Proof.Machine.execILis engine gd imm hw s
  | .iLik engine gd imm hw => Sys2Proof.Machine.execILik engine gd imm hw s
  | .iBeq engine gs gt off => Sys2Proof.Machine.execIBeq engine gs gt off s
  | .iBne engine gs gt off => Sys2Proof.Machine.execIBne engine gs gt off s
  | .iBlt engine gs gt off => Sys2Proof.Machine.execIBlt engine gs gt off s
  | .iBge engine gs gt off => Sys2Proof.Machine.execIBge engine gs gt off s
  | .iBltu engine gs gt off => Sys2Proof.Machine.execIBltu engine gs gt off s
  | .iBgeu engine gs gt off => Sys2Proof.Machine.execIBgeu engine gs gt off s
  | .iJ engine off => Sys2Proof.Machine.execIJ engine off s
  | .iJal engine off => Sys2Proof.Machine.execIJal engine off s
  | .iJr engine gs => Sys2Proof.Machine.execIJr engine gs s
  | .iJalr engine gd gs => Sys2Proof.Machine.execIJalr engine gd gs s
  | .iLd engine sz gd gb mode => Sys2Proof.Machine.execILd engine sz gd gb mode s
  | .iLdu engine sz gd gb mode => Sys2Proof.Machine.execILdu engine sz gd gb mode s
  | .iSt engine sz gs gb mode => Sys2Proof.Machine.execISt engine sz gs gb mode s
  | .iPush engine gq gb mode => Sys2Proof.Machine.execIPush engine gq gb mode s
  | .iPop engine gd gb mode => Sys2Proof.Machine.execIPop engine gd gb mode s
  | .iPopw engine gq gb mode => Sys2Proof.Machine.execIPopw engine gq gb mode s
  | .iMacr engine gs gt => Sys2Proof.Machine.execIMacr engine gs gt s
  | .iMsur engine gs gt => Sys2Proof.Machine.execIMsur engine gs gt s
  | .iCmac engine pair gs gt => Sys2Proof.Machine.execICmac engine pair gs gt s
  | .iCmacj engine pair gs gt => Sys2Proof.Machine.execICmacj engine pair gs gt s
  | .iAccz engine mask => Sys2Proof.Machine.execIAccz engine mask s
  | .iAccx engine gd k n wide => Sys2Proof.Machine.execIAccx engine gd k n wide s
  | .iCaccx engine gd pair n => Sys2Proof.Machine.execICaccx engine gd pair n s
  | .iAccr engine gd k => Sys2Proof.Machine.execIAccr engine gd k s
  | .iAccw engine k gs => Sys2Proof.Machine.execIAccw engine k gs s
  | .iSrchi engine gs => Sys2Proof.Machine.execISrchi engine gs s
  | .iSmax engine gs => Sys2Proof.Machine.execISmax engine gs s
  | .iSmin engine gs => Sys2Proof.Machine.execISmin engine gs s
  | .iCmaxm engine gs => Sys2Proof.Machine.execICmaxm engine gs s
  | .iVadd engine t vd vs vt => Sys2Proof.Machine.execIVadd engine t vd vs vt s
  | .iVsub engine t vd vs vt => Sys2Proof.Machine.execIVsub engine t vd vs vt s
  | .iVadds engine t vd vs vt => Sys2Proof.Machine.execIVadds engine t vd vs vt s
  | .iVsubs engine t vd vs vt => Sys2Proof.Machine.execIVsubs engine t vd vs vt s
  | .iVnegs engine t vd vs => Sys2Proof.Machine.execIVnegs engine t vd vs s
  | .iVabss engine t vd vs => Sys2Proof.Machine.execIVabss engine t vd vs s
  | .iVconjs engine t vd vs => Sys2Proof.Machine.execIVconjs engine t vd vs s
  | .iVmaxe engine t vd vs vt => Sys2Proof.Machine.execIVmaxe engine t vd vs vt s
  | .iVmine engine t vd vs vt => Sys2Proof.Machine.execIVmine engine t vd vs vt s
  | .iVand engine t vd vs vt => Sys2Proof.Machine.execIVand engine t vd vs vt s
  | .iVor engine t vd vs vt => Sys2Proof.Machine.execIVor engine t vd vs vt s
  | .iVxor engine t vd vs vt => Sys2Proof.Machine.execIVxor engine t vd vs vt s
  | .iVshrr engine t vd vs count => Sys2Proof.Machine.execIVshrr engine t vd vs count s
  | .iVshls engine t vd vs count => Sys2Proof.Machine.execIVshls engine t vd vs count s
  | .iVperm engine t vd vs vt => Sys2Proof.Machine.execIVperm engine t vd vs vt s
  | .iVmulq engine t vd vs vt => Sys2Proof.Machine.execIVmulq engine t vd vs vt s
  | .iVcmulq engine t vd vs vt => Sys2Proof.Machine.execIVcmulq engine t vd vs vt s
  | .iVcmuljq engine t vd vs vt => Sys2Proof.Machine.execIVcmuljq engine t vd vs vt s
  | .iVmacr engine t vs vt => Sys2Proof.Machine.execIVmacr engine t vs vt s
  | .iVcmac engine t pair vs vt => Sys2Proof.Machine.execIVcmac engine t pair vs vt s
  | .iVcmacj engine t pair vs vt => Sys2Proof.Machine.execIVcmacj engine t pair vs vt s
  | .iVsmax engine t vs => Sys2Proof.Machine.execIVsmax engine t vs s
  | .iVsmin engine t vs => Sys2Proof.Machine.execIVsmin engine t vs s
  | .iVcmaxm engine t vs => Sys2Proof.Machine.execIVcmaxm engine t vs s
  | .iVexp engine t gd vs => Sys2Proof.Machine.execIVexp engine t gd vs s
  | .iVsplat engine t vd gs => Sys2Proof.Machine.execIVsplat engine t vd gs s
  | .iVinsr engine t vd gs k => Sys2Proof.Machine.execIVinsr engine t vd gs k s
  | .iVextr engine t gd vs k => Sys2Proof.Machine.execIVextr engine t gd vs k s
  | .iVwidl engine t vd vs => Sys2Proof.Machine.execIVwidl engine t vd vs s
  | .iVwidh engine t vd vs => Sys2Proof.Machine.execIVwidh engine t vd vs s
  | .iSetvl engine t gd gs => Sys2Proof.Machine.execISetvl engine t gd gs s
  | .iVnarw engine t vd vs vt count => Sys2Proof.Machine.execIVnarw engine t vd vs vt count s
  | .iVld engine t vd gb mode => Sys2Proof.Machine.execIVld engine t vd gb mode s
  | .iVst engine t vd gb mode => Sys2Proof.Machine.execIVst engine t vd gb mode s
  | .iVldff engine t vd gb mode => Sys2Proof.Machine.execIVldff engine t vd gb mode s
  | .iVlds engine t vd gb k => Sys2Proof.Machine.execIVlds engine t vd gb k s
  | .iVsts engine t vd gb k => Sys2Proof.Machine.execIVsts engine t vd gb k s
  | .iVgather engine t vd gb vi sc => Sys2Proof.Machine.execIVgather engine t vd gb vi sc s
  | .iVscatter engine t vd gb vi sc => Sys2Proof.Machine.execIVscatter engine t vd gb vi sc s
  | .iVgatherff engine t vd gb vi sc => Sys2Proof.Machine.execIVgatherff engine t vd gb vi sc s
  | .iGmovt engine qd vs row => Sys2Proof.Machine.execIGmovt engine qd vs row s
  | .iGmovf engine vd qs row => Sys2Proof.Machine.execIGmovf engine vd qs row s
  | .iGmul engine qd qa qb => Sys2Proof.Machine.execIGmul engine qd qa qb s
  | .iGmulh engine qd qa qb => Sys2Proof.Machine.execIGmulh engine qd qa qb s
  | .iGmulbh engine qd qa qb => Sys2Proof.Machine.execIGmulbh engine qd qa qb s
  | .iGmac engine qd qa qb => Sys2Proof.Machine.execIGmac engine qd qa qb s
  | .iGmsu engine qd qa qb => Sys2Proof.Machine.execIGmsu engine qd qa qb s
  | .iGadd engine qd qa qb => Sys2Proof.Machine.execIGadd engine qd qa qb s
  | .iGsub engine qd qa qb => Sys2Proof.Machine.execIGsub engine qd qa qb s
  | .iGherm engine qd qa => Sys2Proof.Machine.execIGherm engine qd qa s
  | .iGzero engine qd => Sys2Proof.Machine.execIGzero engine qd s
  | .iGshr engine qd qa count => Sys2Proof.Machine.execIGshr engine qd qa count s
  | .iGstat engine gd => Sys2Proof.Machine.execIGstat engine gd s
  | .gussetAccept gusset => Sys2Proof.Machine.execGussetAccept gusset s
  | .gussetBegin gusset bank corrected uncorrectable => Sys2Proof.Machine.execGussetBegin gusset bank corrected uncorrectable s
  | .gussetCommit gusset work => Sys2Proof.Machine.execGussetCommit gusset work s
  | .gussetSreset requester gusset control => Sys2Proof.Machine.execGussetSreset requester gusset control s
  | .engSreset requester engine control => Sys2Proof.Machine.execEngSreset requester engine control s
  | .engGo requester engine control => Sys2Proof.Machine.execEngGo requester engine control s
  | .engOpen requester engine control => Sys2Proof.Machine.execEngOpen requester engine control s
  | .engHaltReq requester engine control => Sys2Proof.Machine.execEngHaltReq requester engine control s
  | .engineJobLateSignal engine => Sys2Proof.Machine.execEngineJobLateSignal engine s
  | .lateJobStop engine => Sys2Proof.Machine.execLateJobStop engine s
  | .engineEventDeliver => Sys2Proof.Machine.execEngineEventDeliver s
  | .mbDspOperation engine op => Sys2Proof.Machine.execMbDspOperation engine op s
  | .mbStatusWrite engine source => Sys2Proof.Machine.execMbStatusWrite engine source s
  | .mbGussetCommand engine tag op => Sys2Proof.Machine.execMbGussetCommand engine tag op s
  | .mbGussetRead engine vd qs read => Sys2Proof.Machine.execMbGussetRead engine vd qs read s
  | .mbSendMessage engine core inbox p mode => Sys2Proof.Machine.execMbSendMessage engine core inbox p mode s
  | .mbReceiveMessage engine inbox result p mode => Sys2Proof.Machine.execMbReceiveMessage engine inbox result p mode s
  | .mbRaiseHostInterrupt engine => Sys2Proof.Machine.execMbRaiseHostInterrupt engine s
  | .mbHalt engine => Sys2Proof.Machine.execMbHalt engine s
  | .mbReadCycleCounter engine d => Sys2Proof.Machine.execMbReadCycleCounter engine d s
  | .ldpcDecode unit => Sys2Proof.Machine.execLdpcDecode unit s
  | .ldpcEncode unit => Sys2Proof.Machine.execLdpcEncode unit s
  | .turboDecode unit => Sys2Proof.Machine.execTurboDecode unit s
  | .polarDecode unit => Sys2Proof.Machine.execPolarDecode unit s
  | .polarEncode unit => Sys2Proof.Machine.execPolarEncode unit s
  | .tbccDecode unit => Sys2Proof.Machine.execTbccDecode unit s
  | .tbccEncode unit => Sys2Proof.Machine.execTbccEncode unit s
  | .tbSegment unit => Sys2Proof.Machine.execTbSegment unit s
  | .tbAssemble unit => Sys2Proof.Machine.execTbAssemble unit s
  | .ldpcRateMatch unit => Sys2Proof.Machine.execLdpcRateMatch unit s
  | .ldpcRateRecover unit => Sys2Proof.Machine.execLdpcRateRecover unit s
  | .turboEncode unit => Sys2Proof.Machine.execTurboEncode unit s
  | .turboRateMatch unit => Sys2Proof.Machine.execTurboRateMatch unit s
  | .turboRateRecover unit => Sys2Proof.Machine.execTurboRateRecover unit s
  | .chest unit => Sys2Proof.Machine.execChest unit s
  | .eqWeights unit => Sys2Proof.Machine.execEqWeights unit s
  | .bfWeights unit => Sys2Proof.Machine.execBfWeights unit s
  | .weightApply unit => Sys2Proof.Machine.execWeightApply unit s
  | .eqApply unit => Sys2Proof.Machine.execEqApply unit s
  | .jmStats unit => Sys2Proof.Machine.execJmStats unit s
  | .jmSolve unit => Sys2Proof.Machine.execJmSolve unit s
  | .softDemap unit => Sys2Proof.Machine.execSoftDemap unit s
  | .modMap unit => Sys2Proof.Machine.execModMap unit s
  | .fft unit => Sys2Proof.Machine.execFft unit s
  | .ifft unit => Sys2Proof.Machine.execIfft unit s
  | .prachDetect chain => Sys2Proof.Machine.execPrachDetect chain s
  | .seqDetect chain => Sys2Proof.Machine.execSeqDetect chain s
  | .patchJob patch => Sys2Proof.Machine.execPatchJob patch s
  | .patchJobEnd patch code result ext outputs => Sys2Proof.Machine.execPatchJobEnd patch code result ext outputs s
  | .patchJobLateTimeout patch => Sys2Proof.Machine.execPatchJobLateTimeout patch s
  | .accSreset requester unit control => Sys2Proof.Machine.execAccSreset requester unit control s
  | .hemIntakeEntry chain => Sys2Proof.Machine.execHemIntakeEntry chain s
  | .hemWindowProcess chain stream fft => Sys2Proof.Machine.execHemWindowProcess chain stream fft s
  | .hemWindowMissing chain stream => Sys2Proof.Machine.execHemWindowMissing chain stream s
  | .hemTransmitRequest chain => Sys2Proof.Machine.execHemTransmitRequest chain s
  | .hemSgainWrite requester chain stream value => Sys2Proof.Machine.execHemSgainWrite requester chain stream value s
  | .hemStreamEnable requester chain stream config => Sys2Proof.Machine.execHemStreamEnable requester chain stream config s
  | .hemStreamDisable requester chain stream config => Sys2Proof.Machine.execHemStreamDisable requester chain stream config s
  | .hemSreset requester chain control => Sys2Proof.Machine.execHemSreset requester chain control s
  | .laneEnable requester lane control => Sys2Proof.Machine.execLaneEnable requester lane control s
  | .laneDisable requester lane control => Sys2Proof.Machine.execLaneDisable requester lane control s
  | .laneCalDone lane => Sys2Proof.Machine.execLaneCalDone lane s
  | .laneAdaptDone lane eye => Sys2Proof.Machine.execLaneAdaptDone lane eye s
  | .trainingRequestAccept lane frames => Sys2Proof.Machine.execTrainingRequestAccept lane frames s
  | .laneTrainingDone lane => Sys2Proof.Machine.execLaneTrainingDone lane s
  | .laneTrainTimeout lane => Sys2Proof.Machine.execLaneTrainTimeout lane s
  | .laneFailedRetry lane => Sys2Proof.Machine.execLaneFailedRetry lane s
  | .laneAligned received => Sys2Proof.Machine.execLaneAligned received s
  | .laneAlignLost received => Sys2Proof.Machine.execLaneAlignLost received s
  | .laneLos lane => Sys2Proof.Machine.execLaneLos lane s
  | .laneSignalReturn lane => Sys2Proof.Machine.execLaneSignalReturn lane s
  | .laneRetrain requester lane control => Sys2Proof.Machine.execLaneRetrain requester lane control s
  | .pllEnable requester quad pllB value => Sys2Proof.Machine.execPllEnable requester quad pllB value s
  | .pllLockLost quad pllB => Sys2Proof.Machine.execPllLockLost quad pllB s
  | .loopbackSlip drift => Sys2Proof.Machine.execLoopbackSlip drift s
  | .checkerLock lane arriving looped inverted => Sys2Proof.Machine.execCheckerLock lane arriving looped inverted s
  | .laneInject requester lane value => Sys2Proof.Machine.execLaneInject requester lane value s
  | .lanePowerRequest requester lane control frozen => Sys2Proof.Machine.execLanePowerRequest requester lane control frozen s
  | .lanePowerWakeDone lane transmit => Sys2Proof.Machine.execLanePowerWakeDone lane transmit s
  | .laneRetire lane => Sys2Proof.Machine.execLaneRetire lane s
  | .lanesRetireCommand value => Sys2Proof.Machine.execLanesRetireCommand value s
  | .fhPortEnable requester port control => Sys2Proof.Machine.execFhPortEnable requester port control s
  | .frameReceive port sub frame => Sys2Proof.Machine.execFrameReceive port sub frame s
  | .uplinkSymbolClose entry => Sys2Proof.Machine.execUplinkSymbolClose entry s
  | .cplaneSend port => Sys2Proof.Machine.execCplaneSend port s
  | .downlinkRequest port => Sys2Proof.Machine.execDownlinkRequest port s
  | .downlinkSymbolSend port => Sys2Proof.Machine.execDownlinkSymbolSend port s
  | .stWrite requester part index => Sys2Proof.Machine.execStWrite requester part index s
  | .stRead requester part index => Sys2Proof.Machine.execStRead requester part index s
  | .stInvalidate requester part index => Sys2Proof.Machine.execStInvalidate requester part index s
  | .cpriEnable requester lane value => Sys2Proof.Machine.execCpriEnable requester lane value s
  | .cpriHfsyncAchieved lane => Sys2Proof.Machine.execCpriHfsyncAchieved lane s
  | .cpriHfsyncLost lane => Sys2Proof.Machine.execCpriHfsyncLost lane s
  | .cpriHyperframeRx lane sub hfn bfn rai => Sys2Proof.Machine.execCpriHyperframeRx lane sub hfn bfn rai s
  | .cpriBasicFrameRx lane x hfn bfn control iq credit => Sys2Proof.Machine.execCpriBasicFrameRx lane x hfn bfn control iq credit s
  | .cpriBasicFrameTx lane supplied => Sys2Proof.Machine.execCpriBasicFrameTx lane supplied s
  | .seamLinkEnable requester link control => Sys2Proof.Machine.execSeamLinkEnable requester link control s
  | .seamCodewordReceive place errors uncorrectable blocks => Sys2Proof.Machine.execSeamCodewordReceive place errors uncorrectable blocks s
  | .seamIdentReceive link self boltId peerLink leader => Sys2Proof.Machine.execSeamIdentReceive link self boltId peerLink leader s
  | .seamUnitReceive link header unit route errors => Sys2Proof.Machine.execSeamUnitReceive link header unit route errors s
  | .seamUnitSend link => Sys2Proof.Machine.execSeamUnitSend link s
  | .seamAckSend link => Sys2Proof.Machine.execSeamAckSend link s
  | .seamAckReceive link seq => Sys2Proof.Machine.execSeamAckReceive link seq s
  | .seamNakReceive link seq => Sys2Proof.Machine.execSeamNakReceive link seq s
  | .seamNakResendTimeout link => Sys2Proof.Machine.execSeamNakResendTimeout link s
  | .seamReplayTimeout link => Sys2Proof.Machine.execSeamReplayTimeout link s
  | .seamPowerReceive link op index => Sys2Proof.Machine.execSeamPowerReceive link op index s
  | .seamLaneQuiet lane => Sys2Proof.Machine.execSeamLaneQuiet lane s
  | .seamTimeReceive link tick delay => Sys2Proof.Machine.execSeamTimeReceive link tick delay s
  | .boltFormAlone reachable => Sys2Proof.Machine.execBoltFormAlone reachable s
  | .boltJoin nonce most => Sys2Proof.Machine.execBoltJoin nonce most s
  | .boltChal => Sys2Proof.Machine.execBoltChal s
  | .boltProof measured => Sys2Proof.Machine.execBoltProof measured s
  | .boltAdmit => Sys2Proof.Machine.execBoltAdmit s
  | .boltRefuse => Sys2Proof.Machine.execBoltRefuse s
  | .boltAdmissionTimeout => Sys2Proof.Machine.execBoltAdmissionTimeout s
  | .epochChangePropose links rights eligible => Sys2Proof.Machine.execEpochChangePropose links rights eligible s
  | .epochChangeReceive => Sys2Proof.Machine.execEpochChangeReceive s
  | .epochChangeDecide => Sys2Proof.Machine.execEpochChangeDecide s
  | .epochCommitReceive => Sys2Proof.Machine.execEpochCommitReceive s
  | .epochAbandonReceive => Sys2Proof.Machine.execEpochAbandonReceive s
  | .epochChangeApply => Sys2Proof.Machine.execEpochChangeApply s
  | .epochWindowSwitch => Sys2Proof.Machine.execEpochWindowSwitch s
  | .epochChangeNoOutcome => Sys2Proof.Machine.execEpochChangeNoOutcome s
  | .boltHeartbeatSend => Sys2Proof.Machine.execBoltHeartbeatSend s
  | .boltHeartbeatReceive => Sys2Proof.Machine.execBoltHeartbeatReceive s
  | .boltPeerLost peer first => Sys2Proof.Machine.execBoltPeerLost peer first s
  | .boltCommandJoin nonce => Sys2Proof.Machine.execBoltCommandJoin nonce s
  | .boltCommandLeave => Sys2Proof.Machine.execBoltCommandLeave s
  | .boltCommandRepublish => Sys2Proof.Machine.execBoltCommandRepublish s
  | .remoteReadTimeout => Sys2Proof.Machine.execRemoteReadTimeout s
  | .peerEventReceive => Sys2Proof.Machine.execPeerEventReceive s
  | .seamPeerEvtPop requester => Sys2Proof.Machine.execSeamPeerEvtPop requester s
  | .memoryReadRequest unit address words upsets => Sys2Proof.Machine.execMemoryReadRequest unit address words upsets s
  | .memoryWriteRequest unit address data upsets => Sys2Proof.Machine.execMemoryWriteRequest unit address data upsets s
  | .scrubRead memid word upset => Sys2Proof.Machine.execScrubRead memid word upset s
  | .darningWatchExpire memid word => Sys2Proof.Machine.execDarningWatchExpire memid word s
  | .rowRepairCopyDone => Sys2Proof.Machine.execRowRepairCopyDone s
  | .dramRequest channel sub arrivals => Sys2Proof.Machine.execDramRequest channel sub arrivals s
  | .dramRhThrottleEnd channel unit => Sys2Proof.Machine.execDramRhThrottleEnd channel unit s
  | .dramRhWindowEnd channel => Sys2Proof.Machine.execDramRhWindowEnd channel s
  | .dramPortUrgent port => Sys2Proof.Machine.execDramPortUrgent port s
  | .dramRefresh channel rank pull => Sys2Proof.Machine.execDramRefresh channel rank pull s
  | .dramTempPoll channel rank rate => Sys2Proof.Machine.execDramTempPoll channel rank rate s
  | .dramZqCal channel rank => Sys2Proof.Machine.execDramZqCal channel rank s
  | .dramDqsOscRead channel rank drift inRange => Sys2Proof.Machine.execDramDqsOscRead channel rank drift inRange s
  | .dramRankRetrain channel rank blocked => Sys2Proof.Machine.execDramRankRetrain channel rank blocked s
  | .dramPowerDown channel rank => Sys2Proof.Machine.execDramPowerDown channel rank s
  | .dramSelfRefreshEntry channel rank => Sys2Proof.Machine.execDramSelfRefreshEntry channel rank s
  | .dramSelfRefreshExit channel rank => Sys2Proof.Machine.execDramSelfRefreshExit channel rank s
  | .dramRowRepair chip row resource blocked => Sys2Proof.Machine.execDramRowRepair chip row resource blocked s
  | .dramRetireRankCommand value => Sys2Proof.Machine.execDramRetireRankCommand value s
  | .dramMigrationRegion channel => Sys2Proof.Machine.execDramMigrationRegion channel s
  | .dramXlate requester address => Sys2Proof.Machine.execDramXlate requester address s
  | .dmaChEnable requester channel prio => Sys2Proof.Machine.execDmaChEnable requester channel prio s
  | .dmaChDisable requester channel prio => Sys2Proof.Machine.execDmaChDisable requester channel prio s
  | .dmaRing requester channel => Sys2Proof.Machine.execDmaRing requester channel s
  | .dmaTrig requester channel => Sys2Proof.Machine.execDmaTrig requester channel s
  | .dmaChSreset requester channel => Sys2Proof.Machine.execDmaChSreset requester channel s
  | .dmaTriggerArrive => Sys2Proof.Machine.execDmaTriggerArrive s
  | .dmaTriggerQueuePop channel => Sys2Proof.Machine.execDmaTriggerQueuePop channel s
  | .dmaChLinksWrite requester channel value => Sys2Proof.Machine.execDmaChLinksWrite requester channel value s
  | .dmaDescriptorFetch channel => Sys2Proof.Machine.execDmaDescriptorFetch channel s
  | .dmaTriggerTake channel => Sys2Proof.Machine.execDmaTriggerTake channel s
  | .dmaBurst engine => Sys2Proof.Machine.execDmaBurst engine s
  | .dmaDescriptorComplete channel => Sys2Proof.Machine.execDmaDescriptorComplete channel s
  | .dmaLinkReread channel => Sys2Proof.Machine.execDmaLinkReread channel s
  | .quiltBegin requester patch => Sys2Proof.Machine.execQuiltBegin requester patch s
  | .quiltStart requester patch => Sys2Proof.Machine.execQuiltStart requester patch s
  | .quiltStop requester patch => Sys2Proof.Machine.execQuiltStop requester patch s
  | .quiltAbort requester patch => Sys2Proof.Machine.execQuiltAbort requester patch s
  | .quiltReadFrame requester patch => Sys2Proof.Machine.execQuiltReadFrame requester patch s
  | .quiltReset requester patch => Sys2Proof.Machine.execQuiltReset requester patch s
  | .quiltAuthorize requester patch => Sys2Proof.Machine.execQuiltAuthorize requester patch s
  | .quiltStreamWord patch => Sys2Proof.Machine.execQuiltStreamWord patch s
  | .qpFdroRead requester patch => Sys2Proof.Machine.execQpFdroRead requester patch s
  | .qpEndpointBind requester patch endpoint out value => Sys2Proof.Machine.execQpEndpointBind requester patch endpoint out value s
  | .quiltUserEvent patch output level => Sys2Proof.Machine.execQuiltUserEvent patch output level s
  | .quiltPoisonRead patch block word => Sys2Proof.Machine.execQuiltPoisonRead patch block word s
  | .scrubSweepStart upsets => Sys2Proof.Machine.execScrubSweepStart upsets s
  | .quiltFrameScrub upsets lost => Sys2Proof.Machine.execQuiltFrameScrub upsets lost s
  | .firmwareQuiltSweep upsets => Sys2Proof.Machine.execFirmwareQuiltSweep upsets s
  | .hostLinkRetrain cause requester value repaired0 width0 repaired1 width1 => Sys2Proof.Machine.execHostLinkRetrain cause requester value repaired0 width0 repaired1 width1 s
  | .hostLinkDown => Sys2Proof.Machine.execHostLinkDown s
  | .hostLinkDownTimeout => Sys2Proof.Machine.execHostLinkDownTimeout s
  | .hostLinkUp rate repaired0 width0 repaired1 width1 => Sys2Proof.Machine.execHostLinkUp rate repaired0 width0 repaired1 width1 s
  | .hostMemoryRead function window offset bytes upsets => Sys2Proof.Machine.execHostMemoryRead function window offset bytes upsets s
  | .hostMemoryWrite function window offset data poisoned upsets => Sys2Proof.Machine.execHostMemoryWrite function window offset data poisoned upsets s
  | .hostCompletionReceive unit addr status ring data => Sys2Proof.Machine.execHostCompletionReceive unit addr status ring data s
  | .hostCompletionTimeout unit addr words ring => Sys2Proof.Machine.execHostCompletionTimeout unit addr words ring s
  | .hostRingEnable requester function ring config => Sys2Proof.Machine.execHostRingEnable requester function ring config s
  | .hostRingDisable requester function ring config => Sys2Proof.Machine.execHostRingDisable requester function ring config s
  | .hostRingDoorbell requester function ring index => Sys2Proof.Machine.execHostRingDoorbell requester function ring index s
  | .hostRingEntryPush function ring entry => Sys2Proof.Machine.execHostRingEntryPush function ring entry s
  | .hostRingEntryWrite function ring => Sys2Proof.Machine.execHostRingEntryWrite function ring s
  | .eventRaise event info => Sys2Proof.Machine.execEventRaise event info s
  | .mailboxGo requester function control => Sys2Proof.Machine.execMailboxGo requester function control s
  | .mailboxTimeout function => Sys2Proof.Machine.execMailboxTimeout function s
  | .functionLevelReset function => Sys2Proof.Machine.execFunctionLevelReset function s
  | .hotReset => Sys2Proof.Machine.execHotReset s
  | .swatchOpen via bytes sensed => Sys2Proof.Machine.execSwatchOpen via bytes sensed s
  | .swatchProof via bytes sensed => Sys2Proof.Machine.execSwatchProof via bytes sensed s
  | .swatchOpenTimeout session => Sys2Proof.Machine.execSwatchOpenTimeout session s
  | .swatchRead via bytes sensed => Sys2Proof.Machine.execSwatchRead via bytes sensed s
  | .swatchWrite via bytes sensed => Sys2Proof.Machine.execSwatchWrite via bytes sensed s
  | .swatchDescribe via bytes sensed => Sys2Proof.Machine.execSwatchDescribe via bytes sensed s
  | .swatchSubscribe via bytes sensed => Sys2Proof.Machine.execSwatchSubscribe via bytes sensed s
  | .swatchUnsubscribe via bytes sensed => Sys2Proof.Machine.execSwatchUnsubscribe via bytes sensed s
  | .swatchPoll via bytes sensed => Sys2Proof.Machine.execSwatchPoll via bytes sensed s
  | .swatchKeepalive via bytes sensed => Sys2Proof.Machine.execSwatchKeepalive via bytes sensed s
  | .swatchClose via bytes sensed => Sys2Proof.Machine.execSwatchClose via bytes sensed s
  | .swatchNotify session sub subindex => Sys2Proof.Machine.execSwatchNotify session sub subindex s
  | .swatchRelay via bytes => Sys2Proof.Machine.execSwatchRelay via bytes s
  | .swatchSessionIdleTimeout session => Sys2Proof.Machine.execSwatchSessionIdleTimeout session s
  | .rwsApply => Sys2Proof.Machine.execRwsApply s
  | .storeCompact => Sys2Proof.Machine.execStoreCompact s
  | .storeClear session value => Sys2Proof.Machine.execStoreClear session value s
  | .toleranceWrite group us hits => Sys2Proof.Machine.execToleranceWrite group us hits s
  | .nextUseReceive hits => Sys2Proof.Machine.execNextUseReceive hits s
  | .islandQuietExpire island quiet => Sys2Proof.Machine.execIslandQuietExpire island quiet s
  | .islandEntryStep island => Sys2Proof.Machine.execIslandEntryStep island s
  | .powerVoteRetry hits => Sys2Proof.Machine.execPowerVoteRetry hits s
  | .islandPrewake island => Sys2Proof.Machine.execIslandPrewake island s
  | .islandWakeRequest island bank => Sys2Proof.Machine.execIslandWakeRequest island bank s
  | .islandWakeComplete island => Sys2Proof.Machine.execIslandWakeComplete island s
  | .retentionBankSweepDone memid upsets corrected lost => Sys2Proof.Machine.execRetentionBankSweepDone memid upsets corrected lost s
  | .wakePin => Sys2Proof.Machine.execWakePin s
  | .pmEndDeepHold => Sys2Proof.Machine.execPmEndDeepHold s
  | .pmDeviceDeep hits => Sys2Proof.Machine.execPmDeviceDeep hits s
  | .pmDeviceOff => Sys2Proof.Machine.execPmDeviceOff s
  | .upsetReport cls ident => Sys2Proof.Machine.execUpsetReport cls ident s
  | .unitRetire cls ident cause => Sys2Proof.Machine.execUnitRetire cls ident cause s
  | .faultRetireCommand value => Sys2Proof.Machine.execFaultRetireCommand value s
  | .faultReinstateCommand record => Sys2Proof.Machine.execFaultReinstateCommand record s
  | .panelReset requester panel => Sys2Proof.Machine.execPanelReset requester panel s
  | .faultWarmResetCommand session value => Sys2Proof.Machine.execFaultWarmResetCommand session value s
  | .warmNAssert => Sys2Proof.Machine.execWarmNAssert s
  | .warmReset cause link => Sys2Proof.Machine.execWarmReset cause link s
  | .thimbleCheckpoint => Sys2Proof.Machine.execThimbleCheckpoint s
  | .thimbleFailover pair => Sys2Proof.Machine.execThimbleFailover pair s
  | .thimbleRestart passes => Sys2Proof.Machine.execThimbleRestart passes s
  | .coldBoot failed badCopies badRecords config untrained link => Sys2Proof.Machine.execColdBoot failed badCopies badRecords config untrained link s
  | .fwUpdate session address programmed => Sys2Proof.Machine.execFwUpdate session address programmed s
  | .fwSwitch session => Sys2Proof.Machine.execFwSwitch session s
  | .fwConfirm session => Sys2Proof.Machine.execFwConfirm session s
  | .fwRevert session => Sys2Proof.Machine.execFwRevert session s
  | .fwTrialTimeout => Sys2Proof.Machine.execFwTrialTimeout s
  | .fwRaiseFwSvn session millivolts => Sys2Proof.Machine.execFwRaiseFwSvn session millivolts s
  | .fwRaiseMbSvn session millivolts => Sys2Proof.Machine.execFwRaiseMbSvn session millivolts s
  | .attestNonceWrite session nonce => Sys2Proof.Machine.execAttestNonceWrite session nonce s
  | .attestReportRead session => Sys2Proof.Machine.execAttestReportRead session s
  | .keySlot0Write session value millivolts => Sys2Proof.Machine.execKeySlot0Write session value millivolts s
  | .keySlot1Write session value => Sys2Proof.Machine.execKeySlot1Write session value s
  | .fuseCustKey session value millivolts => Sys2Proof.Machine.execFuseCustKey session value millivolts s
  | .fuseRevoke session key millivolts => Sys2Proof.Machine.execFuseRevoke session key millivolts s
  | .fusePolicy session value millivolts => Sys2Proof.Machine.execFusePolicy session value millivolts s
  | .imageLoad session value => Sys2Proof.Machine.execImageLoad session value s
  | .quiltAuth session value => Sys2Proof.Machine.execQuiltAuth session value s
  | .diagChallenge session nonce => Sys2Proof.Machine.execDiagChallenge session nonce s
  | .diagUnlock session signature => Sys2Proof.Machine.execDiagUnlock session signature s
  | .tamper => Sys2Proof.Machine.execTamper s
  | .mbFramingStore session address programmed => Sys2Proof.Machine.execMbFramingStore session address programmed s
  | .thermWarn readings => Sys2Proof.Machine.execThermWarn readings s
  | .throttleStep readings => Sys2Proof.Machine.execThrottleStep readings s
  | .throttleReleaseStep readings => Sys2Proof.Machine.execThrottleReleaseStep readings s
  | .thermalTrip readings => Sys2Proof.Machine.execThermalTrip readings s
  | .thermalTripRelease readings => Sys2Proof.Machine.execThermalTripRelease readings s
  | .supplyAlert => Sys2Proof.Machine.execSupplyAlert s
  | .mbCoreRelease requester slot core => Sys2Proof.Machine.execMbCoreRelease requester slot core s
  | .mbCoreStart requester slot core address => Sys2Proof.Machine.execMbCoreStart requester slot core address s
  | .mbCoreStop requester slot core => Sys2Proof.Machine.execMbCoreStop requester slot core s
  | .mbCoreClearFault requester slot core => Sys2Proof.Machine.execMbCoreClearFault requester slot core s
  | .mbCmdqDoorbell requester slot queue commands => Sys2Proof.Machine.execMbCmdqDoorbell requester slot queue commands s
  | .mbCmdqCompletion slot queue => Sys2Proof.Machine.execMbCmdqCompletion slot queue s
  | .mbCounterWrite requester slot value => Sys2Proof.Machine.execMbCounterWrite requester slot value s
  | .mbTimerSet requester slot timer value => Sys2Proof.Machine.execMbTimerSet requester slot timer value s
  | .mbEndOfInterrupt requester slot vector => Sys2Proof.Machine.execMbEndOfInterrupt requester slot vector s
  | .mbMailboxCommand requester slot command argument board => Sys2Proof.Machine.execMbMailboxCommand requester slot command argument board s
  | .jtagExtest levels => Sys2Proof.Machine.execJtagExtest levels s
  | .jtagSamplePreload levels preload => Sys2Proof.Machine.execJtagSamplePreload levels preload s
  | .jtagBypass tdi => Sys2Proof.Machine.execJtagBypass tdi s
  | .jtagIdcode => Sys2Proof.Machine.execJtagIdcode s
  | .timeBaseReferencePeriod lags => Sys2Proof.Machine.execTimeBaseReferencePeriod lags s
  | .todMessageMissing => Sys2Proof.Machine.execTodMessageMissing s
  | .laneReferenceLost => Sys2Proof.Machine.execLaneReferenceLost s
  | .seamTimeBlockSend link => Sys2Proof.Machine.execSeamTimeBlockSend link s
  | .seamIdentBlockSend link => Sys2Proof.Machine.execSeamIdentBlockSend link s
  | .boltJoinRetry nonce => Sys2Proof.Machine.execBoltJoinRetry nonce s
  | .pcsRemoteFault port localFault remoteFault => Sys2Proof.Machine.execPcsRemoteFault port localFault remoteFault s
  | .thimblePairSelfTestDone pair passes => Sys2Proof.Machine.execThimblePairSelfTestDone pair passes s
  | .porNAssert => Sys2Proof.Machine.execPorNAssert s
  | .vbatLoss => Sys2Proof.Machine.execVbatLoss s
  | .illegalEncoding engine word => Sys2Proof.Machine.execIllegalEncoding engine word s

end Sys2Proof.Machine
end

