-- ==== Sys2Proof/Machine/Step.lean ====
section
/-!
DEFINITION. One step of the block: the command at the front of its queue runs on the state with the queue's rest. On an empty
queue the block idles.
-/

namespace Sys2Proof.Machine

/-- One step. -/
def step (s : State) : Host.Outcome State Fault Refusal :=
  match s.pending with
  | [] => .next s
  | c :: r => exec c { s with pending := r }

/-- The command is put at the front of the queue. -/
def State.command (s : State) (c : Instr) : State := { s with pending := c :: s.pending }

/-- The command that a word spells is put at the front of the queue. The table gives no row any bits, so no word spells a
command. -/
def State.withFetchWord (s : State) (nbits w : Nat) : State :=
  match decodeTableWord nbits w with
  | some c => s.command c
  | none => s

end Sys2Proof.Machine
end

