-- ==== Sys2Proof/Safety.lean ====
section
/-!
DEFINITION. What counts as a safe state and a safe run, in the terms that claims use.
-/

namespace Sys2Proof.Machine

/-- The memory of the state is in its canonical form. -/
def State.MemoryOk (s : State) : Prop := Memory.wf s.mem = true

/-- A command completes from a state: its meaning answers a next state. -/
def Completes (c : Instr) (s : State) : Prop := ∃ t, exec c s = Host.Outcome.next t

/-- Engine g executes its next Elryn instruction: it runs, its panel belongs to no MB partition, and no asynchronous cause is
due that would be taken in the instruction's place (R144). -/
def State.runsElryn (s : State) (g : Nat) : Prop :=
  s.executes g = true ∧ s.mbDsp g = false ∧ (s.eng g).asyncCause = none

/-- The same in MB-DSP decode mode. -/
def State.runsMbDsp (s : State) (g : Nat) : Prop :=
  s.executes g = true ∧ s.mbDsp g = true ∧ (s.eng g).asyncCause = none

/-- The engine on which a command executes one Elryn instruction. -/
def elrynOn : Instr → Option Nat
  | .iNop g => some g
  | .iFence g => some g
  | .iEret g => some g
  | .iBreak g => some g
  | .iSignal g => some g
  | .iWaitjob g => some g
  | .iExit g _ => some g
  | .iMfs g _ _ => some g
  | .iMts g _ _ => some g
  | .iAdd g _ _ _ => some g
  | .iSub g _ _ _ => some g
  | .iAnd g _ _ _ => some g
  | .iOr g _ _ _ => some g
  | .iXor g _ _ _ => some g
  | .iSll g _ _ _ => some g
  | .iSrl g _ _ _ => some g
  | .iSra g _ _ _ => some g
  | .iSlt g _ _ _ => some g
  | .iSltu g _ _ _ => some g
  | .iMin g _ _ _ => some g
  | .iMax g _ _ _ => some g
  | .iMinu g _ _ _ => some g
  | .iMaxu g _ _ _ => some g
  | .iMul g _ _ _ => some g
  | .iMulh g _ _ _ => some g
  | .iMulhu g _ _ _ => some g
  | .iAddi g _ _ _ => some g
  | .iAndi g _ _ _ => some g
  | .iOri g _ _ _ => some g
  | .iXori g _ _ _ => some g
  | .iSlti g _ _ _ => some g
  | .iSltiu g _ _ _ => some g
  | .iSlli g _ _ _ => some g
  | .iSrli g _ _ _ => some g
  | .iSrai g _ _ _ => some g
  | .iLis g _ _ _ => some g
  | .iLik g _ _ _ => some g
  | .iBeq g _ _ _ => some g
  | .iBne g _ _ _ => some g
  | .iBlt g _ _ _ => some g
  | .iBge g _ _ _ => some g
  | .iBltu g _ _ _ => some g
  | .iBgeu g _ _ _ => some g
  | .iJ g _ => some g
  | .iJal g _ => some g
  | .iJr g _ => some g
  | .iJalr g _ _ => some g
  | .iLd g _ _ _ _ => some g
  | .iLdu g _ _ _ _ => some g
  | .iSt g _ _ _ _ => some g
  | .iPush g _ _ _ => some g
  | .iPop g _ _ _ => some g
  | .iPopw g _ _ _ => some g
  | .iMacr g _ _ => some g
  | .iMsur g _ _ => some g
  | .iCmac g _ _ _ => some g
  | .iCmacj g _ _ _ => some g
  | .iAccz g _ => some g
  | .iAccx g _ _ _ _ => some g
  | .iCaccx g _ _ _ => some g
  | .iAccr g _ _ => some g
  | .iAccw g _ _ => some g
  | .iSrchi g _ => some g
  | .iSmax g _ => some g
  | .iSmin g _ => some g
  | .iCmaxm g _ => some g
  | .iVadd g _ _ _ _ => some g
  | .iVsub g _ _ _ _ => some g
  | .iVadds g _ _ _ _ => some g
  | .iVsubs g _ _ _ _ => some g
  | .iVnegs g _ _ _ => some g
  | .iVabss g _ _ _ => some g
  | .iVconjs g _ _ _ => some g
  | .iVmaxe g _ _ _ _ => some g
  | .iVmine g _ _ _ _ => some g
  | .iVand g _ _ _ _ => some g
  | .iVor g _ _ _ _ => some g
  | .iVxor g _ _ _ _ => some g
  | .iVshrr g _ _ _ _ => some g
  | .iVshls g _ _ _ _ => some g
  | .iVperm g _ _ _ _ => some g
  | .iVmulq g _ _ _ _ => some g
  | .iVcmulq g _ _ _ _ => some g
  | .iVcmuljq g _ _ _ _ => some g
  | .iVmacr g _ _ _ => some g
  | .iVcmac g _ _ _ _ => some g
  | .iVcmacj g _ _ _ _ => some g
  | .iVsmax g _ _ => some g
  | .iVsmin g _ _ => some g
  | .iVcmaxm g _ _ => some g
  | .iVexp g _ _ _ => some g
  | .iVsplat g _ _ _ => some g
  | .iVinsr g _ _ _ _ => some g
  | .iVextr g _ _ _ _ => some g
  | .iVwidl g _ _ _ => some g
  | .iVwidh g _ _ _ => some g
  | .iSetvl g _ _ _ => some g
  | .iVnarw g _ _ _ _ _ => some g
  | .iVld g _ _ _ _ => some g
  | .iVst g _ _ _ _ => some g
  | .iVldff g _ _ _ _ => some g
  | .iVlds g _ _ _ _ => some g
  | .iVsts g _ _ _ _ => some g
  | .iVgather g _ _ _ _ _ => some g
  | .iVscatter g _ _ _ _ _ => some g
  | .iVgatherff g _ _ _ _ _ => some g
  | .iGmovt g _ _ _ => some g
  | .iGmovf g _ _ _ => some g
  | .iGmul g _ _ _ => some g
  | .iGmulh g _ _ _ => some g
  | .iGmulbh g _ _ _ => some g
  | .iGmac g _ _ _ => some g
  | .iGmsu g _ _ _ => some g
  | .iGadd g _ _ _ => some g
  | .iGsub g _ _ _ => some g
  | .iGherm g _ _ => some g
  | .iGzero g _ => some g
  | .iGshr g _ _ _ => some g
  | .iGstat g _ => some g
  | _ => none

/-- The engine on which a command executes one MB-DSP operation. -/
def mbDspOn : Instr → Option Nat
  | .mbDspOperation g _ => some g
  | .mbStatusWrite g _ => some g
  | .mbGussetCommand g _ _ => some g
  | .mbGussetRead g _ _ _ => some g
  | .mbSendMessage g _ _ _ _ => some g
  | .mbReceiveMessage g _ _ _ _ => some g
  | .mbRaiseHostInterrupt g => some g
  | .mbHalt g => some g
  | .mbReadCycleCounter g _ => some g
  | _ => none

/-- Engine g has retired its instruction: its registers are those of e, and it goes on at pc. -/
def State.goesOn (s : State) (g : Nat) (e : Engine) (pc : Nat) : State :=
  s.setEng g { e with pc := pc % 2 ^ 15, resumed := false, wait := .none }

/-- Event e stands in the pending bits (R502). -/
def State.Pending (s : State) (e : Nat) : Prop := natBit (s.rf Reg.EVR_PEND_PEND (e / 32)) (e % 32) = true

/-- What the command at the front of the queue leads to. -/
def Leads (c : Instr) (s t : State) : Prop := exec c s = Host.Outcome.next t

/-- The parts of the state, for saying what a command leaves as it is. -/
inductive Part where
  | pending | free | out | die | flds | objs | doms | staged | latched | mem
  | weft | protect | host | tb | engines | gussets | engineEvents | sh | hem | lanes
  | fh | seam | dram | dramPorts | dma | patches | scrub | keys | pm | measures
  | changes | rws | health | boot | sessions | relays | mb | thermal | jtag
deriving DecidableEq, Repr

/-- The number of a part, in the order of the state's fields. -/
def Part.toNat (k : Part) : Nat := k.ctorIdx

/-- The states s and t agree in a part. -/
def Part.same (k : Part) (s t : State) : Prop :=
  match k with
  | .pending => t.pending = s.pending
  | .free => t.free = s.free
  | .out => t.out = s.out
  | .die => t.die = s.die
  | .flds => t.flds = s.flds
  | .objs => t.objs = s.objs
  | .doms => t.doms = s.doms
  | .staged => t.staged = s.staged
  | .latched => t.latched = s.latched
  | .mem => t.mem = s.mem
  | .weft => t.weft = s.weft
  | .protect => t.protect = s.protect
  | .host => t.host = s.host
  | .tb => t.tb = s.tb
  | .engines => t.engines = s.engines
  | .gussets => t.gussets = s.gussets
  | .engineEvents => t.engineEvents = s.engineEvents
  | .sh => t.sh = s.sh
  | .hem => t.hem = s.hem
  | .lanes => t.lanes = s.lanes
  | .fh => t.fh = s.fh
  | .seam => t.seam = s.seam
  | .dram => t.dram = s.dram
  | .dramPorts => t.dramPorts = s.dramPorts
  | .dma => t.dma = s.dma
  | .patches => t.patches = s.patches
  | .scrub => t.scrub = s.scrub
  | .keys => t.keys = s.keys
  | .pm => t.pm = s.pm
  | .measures => t.measures = s.measures
  | .changes => t.changes = s.changes
  | .rws => t.rws = s.rws
  | .health => t.health = s.health
  | .boot => t.boot = s.boot
  | .sessions => t.sessions = s.sessions
  | .relays => t.relays = s.relays
  | .mb => t.mb = s.mb
  | .thermal => t.thermal = s.thermal
  | .jtag => t.jtag = s.jtag

/-- Every part. -/
def Part.all : List Part :=
  [.pending, .free, .out, .die, .flds, .objs, .doms, .staged, .latched, .mem, .weft, .protect, .host, .tb, .engines,
   .gussets, .engineEvents, .sh, .hem, .lanes, .fh, .seam, .dram, .dramPorts, .dma, .patches, .scrub, .keys, .pm,
   .measures, .changes, .rws, .health, .boot, .sessions, .relays, .mb, .thermal, .jtag]

/-- What raising an event may write: its pending bit (R502), and what its delivery writes, to Thimble firmware, to an MSI-X
vector, to an engine or to a bolt peer (R503). -/
def events : List Part := [.out, .flds, .host, .engineEvents, .seam, .health]

/-- The parts that an event writes, and some more. -/
def eventsAnd (l : List Part) : List Part := events ++ l

/-- Every part but some. -/
def allBut (l : List Part) : List Part := Part.all.filter (fun k => !(l.contains k))

/-- The parts of the state that a command may write. It leaves every other part as it is. -/
def writes : Instr → List Part
  | .registerWrite _ _ _ _ _ => eventsAnd [.free, .objs, .doms, .staged, .latched, .mem, .weft, .protect, .tb, .engines, .gussets, .sh, .hem, .lanes, .fh, .dram, .dma, .patches, .scrub, .pm, .changes, .boot, .mb]
  | .registerLowHalfRead _ _ _ => eventsAnd [.free, .objs, .doms, .latched, .mem, .protect, .dram, .patches, .scrub, .pm, .changes, .boot]
  | .registerHighHalfRead _ _ _ => eventsAnd [.free, .objs, .doms, .latched, .mem, .protect, .dram, .patches, .scrub, .pm, .changes, .boot]
  | .rcRegisterRead _ _ _ _ => eventsAnd [.free, .objs, .doms, .latched, .mem, .protect, .dram, .patches, .scrub, .pm, .changes, .boot]
  | .partCreate _ _ => [.out, .objs, .measures, .changes, .boot]
  | .partStart _ _ => [.out, .flds, .objs, .mem, .pm, .changes, .boot]
  | .partUnitsReady _ => eventsAnd [.free, .objs, .doms, .mem, .weft, .protect, .tb, .engines, .sh, .dram, .dma, .patches, .pm, .measures, .changes, .boot, .sessions, .mb]
  | .partStop _ _ => eventsAnd [.free, .objs, .doms, .mem, .weft, .protect, .sh, .dram, .pm, .changes, .boot]
  | .partDrainDone _ => eventsAnd [.objs, .mem, .weft, .engines, .gussets, .sh, .hem, .patches, .pm, .changes, .boot]
  | .partDelete _ _ => eventsAnd [.free, .objs, .doms, .mem, .weft, .protect, .tb, .engines, .gussets, .sh, .lanes, .dram, .dma, .patches, .pm, .changes, .boot]
  | .partitionReset _ => eventsAnd [.free, .objs, .doms, .mem, .weft, .protect, .tb, .engines, .gussets, .sh, .hem, .fh, .dram, .dma, .patches, .pm, .changes, .boot, .sessions]
  | .stitchTransfer _ _ _ _ _ _ _ => eventsAnd [.free, .objs, .doms, .mem, .weft, .protect, .engines, .gussets, .sh, .hem, .dram, .patches, .pm, .changes, .boot]
  | .clockFloor _ _ => eventsAnd [.weft]
  | .queueEntryLand _ _ => eventsAnd [.free, .objs, .doms, .mem, .weft, .protect, .engines, .gussets, .sh, .dram, .patches, .pm, .changes, .boot]
  | .queuePopRequest _ _ => eventsAnd [.free, .objs, .doms, .mem, .weft, .protect, .dram, .pm, .changes, .boot]
  | .creditRequest _ _ => [.flds, .weft, .seam]
  | .creditGrantArrive _ _ => eventsAnd [.weft, .engines, .gussets, .sh]
  | .queueStall _ _ => eventsAnd [.weft]
  | .queueEnable _ _ _ _ _ => eventsAnd [.weft, .pm]
  | .queueDisable _ _ _ _ _ => eventsAnd [.weft, .pm]
  | .queueDrainMark _ _ => [.flds, .weft]
  | .drainMarkResend _ _ => [.weft]
  | .tbStep _ _ => eventsAnd [.tb, .pm, .mb]
  | .syncSourceValid _ => eventsAnd [.free, .objs, .tb, .changes, .boot, .mb]
  | .syncSourceLost => eventsAnd [.free, .objs, .tb, .changes, .boot]
  | .syncLocked => eventsAnd [.free, .objs, .tb, .changes, .boot]
  | .holdoverExpired => eventsAnd [.free, .objs, .tb, .changes, .boot]
  | .hostStateWrite _ => eventsAnd [.free, .objs, .tb, .changes, .boot]
  | .hostStateTimeout => eventsAnd [.free, .objs, .tb, .changes, .boot]
  | .deferredStep _ => eventsAnd [.objs, .tb, .changes, .boot, .mb]
  | .sysrefLost => eventsAnd [.tb]
  | .sysrefReturn => [.tb]
  | .ppsOutEdge => [.out, .tb]
  | .ppsInEdge _ => [.flds, .tb]
  | .ppsInLost => eventsAnd [.free, .objs, .tb, .changes, .boot]
  | .todRxMessage _ => eventsAnd [.free, .objs, .tb, .changes, .boot]
  | .todTxMessage => [.free, .out, .tb]
  | .carrierTimerConfig _ _ _ _ => [.flds, .tb, .pm]
  | .carrierTimerStart _ => [.tb]
  | .carrierSlotStart _ => eventsAnd [.tb]
  | .comparatorArm _ _ _ => [.flds, .tb, .pm]
  | .comparatorWrite _ _ _ _ => [.flds, .tb, .pm]
  | .comparatorFire => eventsAnd [.tb, .mb]
  | .descriptorStage => eventsAnd [.free, .objs, .doms, .mem, .weft, .protect, .sh, .dram, .pm, .changes, .boot]
  | .shuttleTriggerFire => eventsAnd [.free, .objs, .doms, .mem, .weft, .protect, .tb, .sh, .dram, .pm, .changes, .boot]
  | .shTriggerWrite _ _ _ => [.tb, .pm]
  | .shCancel _ _ _ => [.sh, .pm]
  | .jobCancel => eventsAnd [.free, .objs, .doms, .mem, .weft, .protect, .sh, .dram, .pm, .changes, .boot]
  | .jobDispatch => eventsAnd [.free, .objs, .doms, .mem, .weft, .protect, .engines, .gussets, .sh, .dram, .patches, .pm, .changes, .boot]
  | .jobLateCheck _ => eventsAnd [.free, .objs, .doms, .mem, .weft, .protect, .engines, .gussets, .sh, .dram, .patches, .pm, .changes, .boot]
  | .jobCompletionReport => eventsAnd [.free, .objs, .doms, .mem, .weft, .protect, .sh, .dram, .pm, .changes, .boot]
  | .completionRecordPush => [.weft, .sh]
  | .sqEnable _ _ _ => eventsAnd [.free, .objs, .doms, .mem, .weft, .protect, .sh, .dram, .pm, .changes, .boot]
  | .sqDisable _ _ _ => eventsAnd [.free, .objs, .doms, .mem, .weft, .protect, .sh, .dram, .pm, .changes, .boot]
  | .forecastSend _ => [.sh]
  | .offerSend => eventsAnd [.free, .objs, .doms, .mem, .protect, .sh, .dram, .changes, .boot]
  | .offerReceive => [.sh, .seam]
  | .offerAccept => eventsAnd [.free, .objs, .doms, .mem, .weft, .protect, .sh, .dram, .pm, .changes, .boot]
  | .offerTimeout => [.sh]
  | .offerAdvertise => [.seam]
  | .iNop _ => eventsAnd [.weft, .engines, .gussets, .sh]
  | .iFence _ => eventsAnd [.weft, .engines, .gussets, .sh]
  | .iEret _ => eventsAnd [.weft, .engines, .gussets, .sh]
  | .iBreak _ => eventsAnd [.weft, .engines, .gussets, .sh]
  | .iSignal _ => eventsAnd [.weft, .engines, .gussets, .sh]
  | .iWaitjob _ => eventsAnd [.free, .weft, .engines, .gussets, .sh]
  | .iExit _ _ => eventsAnd [.free, .weft, .engines, .gussets, .sh]
  | .iMfs _ _ _ => eventsAnd [.free, .weft, .engines, .gussets, .sh]
  | .iMts _ _ _ => eventsAnd [.weft, .engines, .gussets, .sh]
  | .iAdd _ _ _ _ => eventsAnd [.weft, .engines, .gussets, .sh]
  | .iSub _ _ _ _ => eventsAnd [.weft, .engines, .gussets, .sh]
  | .iAnd _ _ _ _ => eventsAnd [.weft, .engines, .gussets, .sh]
  | .iOr _ _ _ _ => eventsAnd [.weft, .engines, .gussets, .sh]
  | .iXor _ _ _ _ => eventsAnd [.weft, .engines, .gussets, .sh]
  | .iSll _ _ _ _ => eventsAnd [.weft, .engines, .gussets, .sh]
  | .iSrl _ _ _ _ => eventsAnd [.weft, .engines, .gussets, .sh]
  | .iSra _ _ _ _ => eventsAnd [.weft, .engines, .gussets, .sh]
  | .iSlt _ _ _ _ => eventsAnd [.weft, .engines, .gussets, .sh]
  | .iSltu _ _ _ _ => eventsAnd [.weft, .engines, .gussets, .sh]
  | .iMin _ _ _ _ => eventsAnd [.weft, .engines, .gussets, .sh]
  | .iMax _ _ _ _ => eventsAnd [.weft, .engines, .gussets, .sh]
  | .iMinu _ _ _ _ => eventsAnd [.weft, .engines, .gussets, .sh]
  | .iMaxu _ _ _ _ => eventsAnd [.weft, .engines, .gussets, .sh]
  | .iMul _ _ _ _ => eventsAnd [.weft, .engines, .gussets, .sh]
  | .iMulh _ _ _ _ => eventsAnd [.weft, .engines, .gussets, .sh]
  | .iMulhu _ _ _ _ => eventsAnd [.weft, .engines, .gussets, .sh]
  | .iAddi _ _ _ _ => eventsAnd [.weft, .engines, .gussets, .sh]
  | .iAndi _ _ _ _ => eventsAnd [.weft, .engines, .gussets, .sh]
  | .iOri _ _ _ _ => eventsAnd [.weft, .engines, .gussets, .sh]
  | .iXori _ _ _ _ => eventsAnd [.weft, .engines, .gussets, .sh]
  | .iSlti _ _ _ _ => eventsAnd [.weft, .engines, .gussets, .sh]
  | .iSltiu _ _ _ _ => eventsAnd [.weft, .engines, .gussets, .sh]
  | .iSlli _ _ _ _ => eventsAnd [.weft, .engines, .gussets, .sh]
  | .iSrli _ _ _ _ => eventsAnd [.weft, .engines, .gussets, .sh]
  | .iSrai _ _ _ _ => eventsAnd [.weft, .engines, .gussets, .sh]
  | .iLis _ _ _ _ => eventsAnd [.weft, .engines, .gussets, .sh]
  | .iLik _ _ _ _ => eventsAnd [.weft, .engines, .gussets, .sh]
  | .iBeq _ _ _ _ => eventsAnd [.weft, .engines, .gussets, .sh]
  | .iBne _ _ _ _ => eventsAnd [.weft, .engines, .gussets, .sh]
  | .iBlt _ _ _ _ => eventsAnd [.weft, .engines, .gussets, .sh]
  | .iBge _ _ _ _ => eventsAnd [.weft, .engines, .gussets, .sh]
  | .iBltu _ _ _ _ => eventsAnd [.weft, .engines, .gussets, .sh]
  | .iBgeu _ _ _ _ => eventsAnd [.weft, .engines, .gussets, .sh]
  | .iJ _ _ => eventsAnd [.weft, .engines, .gussets, .sh]
  | .iJal _ _ => eventsAnd [.weft, .engines, .gussets, .sh]
  | .iJr _ _ => eventsAnd [.weft, .engines, .gussets, .sh]
  | .iJalr _ _ _ => eventsAnd [.weft, .engines, .gussets, .sh]
  | .iLd _ _ _ _ _ => eventsAnd [.free, .objs, .doms, .mem, .weft, .protect, .engines, .gussets, .sh, .dram, .pm, .changes, .boot]
  | .iLdu _ _ _ _ _ => eventsAnd [.free, .objs, .doms, .mem, .weft, .protect, .engines, .gussets, .sh, .dram, .pm, .changes, .boot]
  | .iSt _ _ _ _ _ => eventsAnd [.objs, .doms, .mem, .weft, .protect, .engines, .gussets, .sh, .dram, .patches, .pm, .changes, .boot]
  | .iPush _ _ _ _ => eventsAnd [.free, .objs, .doms, .mem, .weft, .protect, .engines, .gussets, .sh, .dram, .pm, .changes, .boot]
  | .iPop _ _ _ _ => eventsAnd [.free, .objs, .doms, .mem, .weft, .protect, .engines, .gussets, .sh, .dram, .patches, .pm, .changes, .boot]
  | .iPopw _ _ _ _ => eventsAnd [.free, .objs, .doms, .mem, .weft, .protect, .engines, .gussets, .sh, .dram, .patches, .pm, .changes, .boot]
  | .iMacr _ _ _ => eventsAnd [.weft, .engines, .gussets, .sh]
  | .iMsur _ _ _ => eventsAnd [.weft, .engines, .gussets, .sh]
  | .iCmac _ _ _ _ => eventsAnd [.weft, .engines, .gussets, .sh]
  | .iCmacj _ _ _ _ => eventsAnd [.weft, .engines, .gussets, .sh]
  | .iAccz _ _ => eventsAnd [.weft, .engines, .gussets, .sh]
  | .iAccx _ _ _ _ _ => eventsAnd [.weft, .engines, .gussets, .sh]
  | .iCaccx _ _ _ _ => eventsAnd [.weft, .engines, .gussets, .sh]
  | .iAccr _ _ _ => eventsAnd [.weft, .engines, .gussets, .sh]
  | .iAccw _ _ _ => eventsAnd [.weft, .engines, .gussets, .sh]
  | .iSrchi _ _ => eventsAnd [.weft, .engines, .gussets, .sh]
  | .iSmax _ _ => eventsAnd [.weft, .engines, .gussets, .sh]
  | .iSmin _ _ => eventsAnd [.weft, .engines, .gussets, .sh]
  | .iCmaxm _ _ => eventsAnd [.weft, .engines, .gussets, .sh]
  | .iVadd _ _ _ _ _ => eventsAnd [.weft, .engines, .gussets, .sh]
  | .iVsub _ _ _ _ _ => eventsAnd [.weft, .engines, .gussets, .sh]
  | .iVadds _ _ _ _ _ => eventsAnd [.weft, .engines, .gussets, .sh]
  | .iVsubs _ _ _ _ _ => eventsAnd [.weft, .engines, .gussets, .sh]
  | .iVnegs _ _ _ _ => eventsAnd [.weft, .engines, .gussets, .sh]
  | .iVabss _ _ _ _ => eventsAnd [.weft, .engines, .gussets, .sh]
  | .iVconjs _ _ _ _ => eventsAnd [.weft, .engines, .gussets, .sh]
  | .iVmaxe _ _ _ _ _ => eventsAnd [.weft, .engines, .gussets, .sh]
  | .iVmine _ _ _ _ _ => eventsAnd [.weft, .engines, .gussets, .sh]
  | .iVand _ _ _ _ _ => eventsAnd [.weft, .engines, .gussets, .sh]
  | .iVor _ _ _ _ _ => eventsAnd [.weft, .engines, .gussets, .sh]
  | .iVxor _ _ _ _ _ => eventsAnd [.weft, .engines, .gussets, .sh]
  | .iVshrr _ _ _ _ _ => eventsAnd [.weft, .engines, .gussets, .sh]
  | .iVshls _ _ _ _ _ => eventsAnd [.weft, .engines, .gussets, .sh]
  | .iVperm _ _ _ _ _ => eventsAnd [.weft, .engines, .gussets, .sh]
  | .iVmulq _ _ _ _ _ => eventsAnd [.weft, .engines, .gussets, .sh]
  | .iVcmulq _ _ _ _ _ => eventsAnd [.weft, .engines, .gussets, .sh]
  | .iVcmuljq _ _ _ _ _ => eventsAnd [.weft, .engines, .gussets, .sh]
  | .iVmacr _ _ _ _ => eventsAnd [.weft, .engines, .gussets, .sh]
  | .iVcmac _ _ _ _ _ => eventsAnd [.weft, .engines, .gussets, .sh]
  | .iVcmacj _ _ _ _ _ => eventsAnd [.weft, .engines, .gussets, .sh]
  | .iVsmax _ _ _ => eventsAnd [.weft, .engines, .gussets, .sh]
  | .iVsmin _ _ _ => eventsAnd [.weft, .engines, .gussets, .sh]
  | .iVcmaxm _ _ _ => eventsAnd [.weft, .engines, .gussets, .sh]
  | .iVexp _ _ _ _ => eventsAnd [.weft, .engines, .gussets, .sh]
  | .iVsplat _ _ _ _ => eventsAnd [.weft, .engines, .gussets, .sh]
  | .iVinsr _ _ _ _ _ => eventsAnd [.weft, .engines, .gussets, .sh]
  | .iVextr _ _ _ _ _ => eventsAnd [.weft, .engines, .gussets, .sh]
  | .iVwidl _ _ _ _ => eventsAnd [.weft, .engines, .gussets, .sh]
  | .iVwidh _ _ _ _ => eventsAnd [.weft, .engines, .gussets, .sh]
  | .iSetvl _ _ _ _ => eventsAnd [.weft, .engines, .gussets, .sh]
  | .iVnarw _ _ _ _ _ _ => eventsAnd [.weft, .engines, .gussets, .sh]
  | .iVld _ _ _ _ _ => eventsAnd [.free, .objs, .doms, .mem, .weft, .protect, .engines, .gussets, .sh, .dram, .patches, .pm, .changes, .boot]
  | .iVst _ _ _ _ _ => eventsAnd [.free, .objs, .doms, .mem, .weft, .protect, .engines, .gussets, .sh, .dram, .patches, .pm, .changes, .boot]
  | .iVldff _ _ _ _ _ => eventsAnd [.free, .objs, .doms, .mem, .weft, .protect, .engines, .gussets, .sh, .dram, .patches, .pm, .changes, .boot]
  | .iVlds _ _ _ _ _ => eventsAnd [.free, .objs, .doms, .mem, .weft, .protect, .engines, .gussets, .sh, .dram, .patches, .pm, .changes, .boot]
  | .iVsts _ _ _ _ _ => eventsAnd [.free, .objs, .doms, .mem, .weft, .protect, .engines, .gussets, .sh, .dram, .patches, .pm, .changes, .boot]
  | .iVgather _ _ _ _ _ _ => eventsAnd [.free, .objs, .doms, .mem, .weft, .protect, .engines, .gussets, .sh, .dram, .patches, .pm, .changes, .boot]
  | .iVscatter _ _ _ _ _ _ => eventsAnd [.free, .objs, .doms, .mem, .weft, .protect, .engines, .gussets, .sh, .dram, .patches, .pm, .changes, .boot]
  | .iVgatherff _ _ _ _ _ _ => eventsAnd [.free, .objs, .doms, .mem, .weft, .protect, .engines, .gussets, .sh, .dram, .patches, .pm, .changes, .boot]
  | .iGmovt _ _ _ _ => eventsAnd [.weft, .engines, .gussets, .sh]
  | .iGmovf _ _ _ _ => eventsAnd [.weft, .engines, .gussets, .sh]
  | .iGmul _ _ _ _ => eventsAnd [.weft, .engines, .gussets, .sh]
  | .iGmulh _ _ _ _ => eventsAnd [.weft, .engines, .gussets, .sh]
  | .iGmulbh _ _ _ _ => eventsAnd [.weft, .engines, .gussets, .sh]
  | .iGmac _ _ _ _ => eventsAnd [.weft, .engines, .gussets, .sh]
  | .iGmsu _ _ _ _ => eventsAnd [.weft, .engines, .gussets, .sh]
  | .iGadd _ _ _ _ => eventsAnd [.weft, .engines, .gussets, .sh]
  | .iGsub _ _ _ _ => eventsAnd [.weft, .engines, .gussets, .sh]
  | .iGherm _ _ _ => eventsAnd [.weft, .engines, .gussets, .sh]
  | .iGzero _ _ => eventsAnd [.weft, .engines, .gussets, .sh]
  | .iGshr _ _ _ _ => eventsAnd [.weft, .engines, .gussets, .sh]
  | .iGstat _ _ => eventsAnd [.weft, .engines, .gussets, .sh]
  | .gussetAccept _ => eventsAnd [.weft, .engines, .gussets, .sh]
  | .gussetBegin _ _ _ _ => eventsAnd [.free, .weft, .protect, .engines, .gussets, .sh]
  | .gussetCommit _ _ => eventsAnd [.weft, .protect, .engines, .gussets, .sh]
  | .gussetSreset _ _ _ => eventsAnd [.weft, .protect, .engines, .gussets, .sh, .pm]
  | .engSreset _ _ _ => [.free, .flds, .weft, .engines, .gussets, .sh, .pm]
  | .engGo _ _ _ => [.free, .flds, .weft, .engines, .gussets, .sh, .pm]
  | .engOpen _ _ _ => [.free, .flds, .weft, .engines, .gussets, .sh, .pm]
  | .engHaltReq _ _ _ => [.free, .flds, .weft, .engines, .gussets, .sh, .pm]
  | .engineJobLateSignal _ => eventsAnd [.free, .weft, .engines, .gussets, .sh]
  | .lateJobStop _ => eventsAnd [.free, .weft, .engines, .gussets, .sh]
  | .engineEventDeliver => eventsAnd [.weft, .engines, .gussets, .sh]
  | .mbDspOperation _ _ => eventsAnd [.free, .objs, .doms, .mem, .weft, .protect, .engines, .gussets, .sh, .dram, .patches, .pm, .changes, .boot, .mb]
  | .mbStatusWrite _ _ => eventsAnd [.weft, .engines, .gussets, .sh]
  | .mbGussetCommand _ _ _ => eventsAnd [.weft, .engines, .gussets, .sh]
  | .mbGussetRead _ _ _ _ => eventsAnd [.free, .weft, .protect, .engines, .gussets, .sh]
  | .mbSendMessage _ _ _ _ _ => eventsAnd [.free, .objs, .doms, .mem, .weft, .protect, .engines, .gussets, .sh, .dram, .pm, .changes, .boot]
  | .mbReceiveMessage _ _ _ _ _ => eventsAnd [.free, .objs, .doms, .mem, .weft, .protect, .engines, .gussets, .sh, .dram, .patches, .pm, .changes, .boot]
  | .mbRaiseHostInterrupt _ => eventsAnd [.weft, .engines, .gussets, .sh]
  | .mbHalt _ => eventsAnd [.free, .weft, .engines, .gussets, .sh]
  | .mbReadCycleCounter _ _ => eventsAnd [.weft, .engines, .gussets, .sh]
  | .ldpcDecode _ => eventsAnd [.free, .objs, .doms, .mem, .weft, .protect, .sh, .dram, .patches, .pm, .changes, .boot]
  | .ldpcEncode _ => eventsAnd [.free, .objs, .doms, .mem, .weft, .protect, .sh, .dram, .patches, .pm, .changes, .boot]
  | .turboDecode _ => eventsAnd [.free, .objs, .doms, .mem, .weft, .protect, .sh, .dram, .patches, .pm, .changes, .boot]
  | .polarDecode _ => eventsAnd [.free, .objs, .doms, .mem, .weft, .protect, .sh, .dram, .patches, .pm, .changes, .boot]
  | .polarEncode _ => eventsAnd [.free, .objs, .doms, .mem, .weft, .protect, .sh, .dram, .patches, .pm, .changes, .boot]
  | .tbccDecode _ => eventsAnd [.free, .objs, .doms, .mem, .weft, .protect, .sh, .dram, .patches, .pm, .changes, .boot]
  | .tbccEncode _ => eventsAnd [.free, .objs, .doms, .mem, .weft, .protect, .sh, .dram, .patches, .pm, .changes, .boot]
  | .tbSegment _ => eventsAnd [.free, .objs, .doms, .mem, .weft, .protect, .sh, .dram, .patches, .pm, .changes, .boot]
  | .tbAssemble _ => eventsAnd [.free, .objs, .doms, .mem, .weft, .protect, .sh, .dram, .patches, .pm, .changes, .boot]
  | .ldpcRateMatch _ => eventsAnd [.free, .objs, .doms, .mem, .weft, .protect, .sh, .dram, .patches, .pm, .changes, .boot]
  | .ldpcRateRecover _ => eventsAnd [.free, .objs, .doms, .mem, .weft, .protect, .sh, .dram, .patches, .pm, .changes, .boot]
  | .turboEncode _ => eventsAnd [.free, .objs, .doms, .mem, .weft, .protect, .sh, .dram, .patches, .pm, .changes, .boot]
  | .turboRateMatch _ => eventsAnd [.free, .objs, .doms, .mem, .weft, .protect, .sh, .dram, .patches, .pm, .changes, .boot]
  | .turboRateRecover _ => eventsAnd [.free, .objs, .doms, .mem, .weft, .protect, .sh, .dram, .patches, .pm, .changes, .boot]
  | .chest _ => eventsAnd [.free, .objs, .doms, .mem, .weft, .protect, .sh, .dram, .patches, .pm, .changes, .boot]
  | .eqWeights _ => eventsAnd [.free, .objs, .doms, .mem, .weft, .protect, .sh, .dram, .patches, .pm, .changes, .boot]
  | .bfWeights _ => eventsAnd [.free, .objs, .doms, .mem, .weft, .protect, .sh, .dram, .patches, .pm, .changes, .boot]
  | .weightApply _ => eventsAnd [.free, .objs, .doms, .mem, .weft, .protect, .sh, .dram, .patches, .pm, .changes, .boot]
  | .eqApply _ => eventsAnd [.free, .objs, .doms, .mem, .weft, .protect, .sh, .dram, .patches, .pm, .changes, .boot]
  | .jmStats _ => eventsAnd [.free, .objs, .doms, .mem, .weft, .protect, .sh, .dram, .patches, .pm, .changes, .boot]
  | .jmSolve _ => eventsAnd [.free, .objs, .doms, .mem, .weft, .protect, .sh, .dram, .patches, .pm, .changes, .boot]
  | .softDemap _ => eventsAnd [.free, .objs, .doms, .mem, .weft, .protect, .sh, .dram, .patches, .pm, .changes, .boot]
  | .modMap _ => eventsAnd [.free, .objs, .doms, .mem, .weft, .protect, .sh, .dram, .patches, .pm, .changes, .boot]
  | .fft _ => eventsAnd [.free, .objs, .doms, .mem, .weft, .protect, .sh, .dram, .patches, .pm, .changes, .boot]
  | .ifft _ => eventsAnd [.free, .objs, .doms, .mem, .weft, .protect, .sh, .dram, .patches, .pm, .changes, .boot]
  | .prachDetect _ => eventsAnd [.free, .objs, .doms, .mem, .weft, .protect, .sh, .hem, .dram, .patches, .pm, .changes, .boot]
  | .seqDetect _ => eventsAnd [.free, .objs, .doms, .mem, .weft, .protect, .sh, .hem, .dram, .patches, .pm, .changes, .boot]
  | .patchJob _ => [.out, .flds, .patches]
  | .patchJobEnd _ _ _ _ _ => [.weft, .sh, .seam, .patches]
  | .patchJobLateTimeout _ => [.sh, .patches]
  | .accSreset _ _ _ => eventsAnd [.sh, .pm]
  | .hemIntakeEntry _ => eventsAnd [.free, .objs, .doms, .mem, .weft, .protect, .hem, .dram, .pm, .changes, .boot]
  | .hemWindowProcess _ _ _ => eventsAnd [.free, .objs, .doms, .mem, .weft, .protect, .hem, .dram, .patches, .pm, .changes, .boot]
  | .hemWindowMissing _ _ => eventsAnd [.free, .objs, .doms, .mem, .weft, .protect, .hem, .dram, .patches, .pm, .changes, .boot]
  | .hemTransmitRequest _ => eventsAnd [.free, .objs, .doms, .mem, .weft, .protect, .dram, .patches, .pm, .changes, .boot]
  | .hemSgainWrite _ _ _ _ => [.flds, .hem, .pm]
  | .hemStreamEnable _ _ _ _ => eventsAnd [.hem, .pm]
  | .hemStreamDisable _ _ _ _ => eventsAnd [.hem, .pm]
  | .hemSreset _ _ _ => [.flds, .sh, .hem, .pm]
  | .laneEnable _ _ _ => eventsAnd [.lanes, .pm]
  | .laneDisable _ _ _ => eventsAnd [.lanes, .pm]
  | .laneCalDone _ => eventsAnd [.lanes]
  | .laneAdaptDone _ _ => eventsAnd [.free, .lanes]
  | .trainingRequestAccept _ _ => [.free, .out, .flds, .lanes]
  | .laneTrainingDone _ => eventsAnd [.free, .lanes]
  | .laneTrainTimeout _ => eventsAnd [.objs, .doms, .lanes, .changes, .boot]
  | .laneFailedRetry _ => eventsAnd [.lanes]
  | .laneAligned _ => eventsAnd [.lanes]
  | .laneAlignLost _ => eventsAnd [.objs, .doms, .lanes, .changes, .boot]
  | .laneLos _ => events
  | .laneSignalReturn _ => eventsAnd [.lanes]
  | .laneRetrain _ _ _ => eventsAnd [.lanes, .pm]
  | .pllEnable _ _ _ _ => eventsAnd [.pm]
  | .pllLockLost _ _ => eventsAnd [.lanes]
  | .loopbackSlip _ => eventsAnd [.lanes]
  | .checkerLock _ _ _ _ => [.flds, .lanes]
  | .laneInject _ _ _ => [.free, .out, .flds, .lanes, .pm]
  | .lanePowerRequest _ _ _ _ => eventsAnd [.lanes, .pm]
  | .lanePowerWakeDone _ _ => [.out, .flds, .seam]
  | .laneRetire _ => eventsAnd [.objs, .doms, .lanes, .changes, .boot]
  | .lanesRetireCommand _ => eventsAnd [.objs, .doms, .lanes, .changes, .boot]
  | .fhPortEnable _ _ _ => eventsAnd [.pm]
  | .frameReceive _ _ _ => eventsAnd [.objs, .doms, .mem, .weft, .protect, .fh, .dram, .patches, .pm, .changes, .boot]
  | .uplinkSymbolClose _ => eventsAnd [.objs, .doms, .mem, .weft, .protect, .fh, .dram, .patches, .pm, .changes, .boot]
  | .cplaneSend _ => eventsAnd [.free, .objs, .doms, .mem, .weft, .protect, .fh, .dram, .pm, .changes, .boot]
  | .downlinkRequest _ => eventsAnd [.free, .objs, .doms, .mem, .weft, .protect, .fh, .dram, .pm, .changes, .boot]
  | .downlinkSymbolSend _ => eventsAnd [.free, .objs, .doms, .mem, .protect, .fh, .dram, .pm, .changes, .boot]
  | .stWrite _ _ _ => eventsAnd [.weft, .fh, .pm]
  | .stRead _ _ _ => eventsAnd [.weft, .fh, .pm]
  | .stInvalidate _ _ _ => eventsAnd [.weft, .fh, .pm]
  | .cpriEnable _ _ _ => [.flds, .fh, .pm]
  | .cpriHfsyncAchieved _ => [.out, .flds]
  | .cpriHfsyncLost _ => eventsAnd [.fh]
  | .cpriHyperframeRx _ _ _ _ _ => [.flds, .fh]
  | .cpriBasicFrameRx _ _ _ _ _ _ _ => eventsAnd [.fh]
  | .cpriBasicFrameTx _ _ => events
  | .seamLinkEnable _ _ _ => eventsAnd [.pm]
  | .seamCodewordReceive _ _ _ _ => [.flds, .seam]
  | .seamIdentReceive _ _ _ _ _ => events
  | .seamUnitReceive _ _ _ _ _ => eventsAnd [.free, .objs, .doms, .staged, .latched, .mem, .weft, .protect, .tb, .engines, .gussets, .sh, .hem, .lanes, .fh, .dram, .dma, .patches, .scrub, .pm, .changes, .boot, .mb]
  | .seamUnitSend _ => eventsAnd [.lanes]
  | .seamAckSend _ => [.out, .seam]
  | .seamAckReceive _ _ => [.seam]
  | .seamNakReceive _ _ => eventsAnd [.lanes]
  | .seamNakResendTimeout _ => [.out, .seam]
  | .seamReplayTimeout _ => eventsAnd [.lanes]
  | .seamPowerReceive _ _ _ => eventsAnd [.lanes]
  | .seamLaneQuiet _ => eventsAnd [.lanes]
  | .seamTimeReceive _ _ _ => eventsAnd [.objs, .changes, .boot]
  | .boltFormAlone _ => [.flds, .objs, .changes, .boot]
  | .boltJoin _ _ => eventsAnd [.objs, .changes, .boot]
  | .boltChal => eventsAnd [.objs, .changes, .boot]
  | .boltProof _ => eventsAnd [.objs, .changes, .boot]
  | .boltAdmit => [.seam]
  | .boltRefuse => [.objs, .seam, .changes, .boot]
  | .boltAdmissionTimeout => eventsAnd [.objs, .changes, .boot]
  | .epochChangePropose _ _ _ => [.seam]
  | .epochChangeReceive => [.seam]
  | .epochChangeDecide => [.seam]
  | .epochCommitReceive => [.seam]
  | .epochAbandonReceive => [.seam]
  | .epochChangeApply => eventsAnd [.free, .objs, .doms, .mem, .weft, .protect, .engines, .sh, .dram, .pm, .changes, .boot]
  | .epochWindowSwitch => [.seam]
  | .epochChangeNoOutcome => [.seam]
  | .boltHeartbeatSend => [.seam]
  | .boltHeartbeatReceive => [.seam]
  | .boltPeerLost _ _ => events
  | .boltCommandJoin _ => [.objs, .seam, .changes, .boot]
  | .boltCommandLeave => [.seam]
  | .boltCommandRepublish => [.seam]
  | .remoteReadTimeout => [.out, .seam]
  | .peerEventReceive => events
  | .seamPeerEvtPop _ => [.out, .seam, .pm]
  | .memoryReadRequest _ _ _ _ => eventsAnd [.free, .objs, .doms, .mem, .weft, .protect, .engines, .gussets, .sh, .hem, .dram, .pm, .changes, .boot]
  | .memoryWriteRequest _ _ _ _ => eventsAnd [.objs, .doms, .mem, .weft, .protect, .engines, .gussets, .sh, .dram, .patches, .pm, .changes, .boot]
  | .scrubRead _ _ _ => eventsAnd [.objs, .doms, .mem, .protect, .dram, .changes, .boot]
  | .darningWatchExpire _ _ => [.protect]
  | .rowRepairCopyDone => eventsAnd [.objs, .doms, .mem, .protect, .changes, .boot]
  | .dramRequest _ _ _ => eventsAnd [.dram]
  | .dramRhThrottleEnd _ _ => [.dram]
  | .dramRhWindowEnd _ => [.dram]
  | .dramPortUrgent _ => eventsAnd [.dramPorts]
  | .dramRefresh _ _ _ => [.dram]
  | .dramTempPoll _ _ _ => eventsAnd [.dram]
  | .dramZqCal _ _ => [.dram]
  | .dramDqsOscRead _ _ _ _ => [.dram]
  | .dramRankRetrain _ _ _ => eventsAnd [.dram]
  | .dramPowerDown _ _ => [.dram]
  | .dramSelfRefreshEntry _ _ => [.dram]
  | .dramSelfRefreshExit _ _ => [.dram]
  | .dramRowRepair _ _ _ _ => eventsAnd [.objs, .doms, .mem, .protect, .dram, .changes, .boot]
  | .dramRetireRankCommand _ => eventsAnd [.objs, .doms, .changes, .boot]
  | .dramMigrationRegion _ => eventsAnd [.mem]
  | .dramXlate _ _ => [.flds, .pm]
  | .dmaChEnable _ _ _ => eventsAnd [.free, .objs, .doms, .mem, .protect, .tb, .dram, .dma, .patches, .pm, .changes, .boot]
  | .dmaChDisable _ _ _ => eventsAnd [.free, .objs, .doms, .mem, .protect, .tb, .dram, .dma, .patches, .pm, .changes, .boot]
  | .dmaRing _ _ => eventsAnd [.free, .objs, .doms, .mem, .protect, .tb, .dram, .dma, .patches, .pm, .changes, .boot]
  | .dmaTrig _ _ => eventsAnd [.free, .objs, .doms, .mem, .protect, .tb, .dram, .dma, .patches, .pm, .changes, .boot]
  | .dmaChSreset _ _ => eventsAnd [.free, .objs, .doms, .mem, .protect, .tb, .dram, .dma, .patches, .pm, .changes, .boot]
  | .dmaTriggerArrive => eventsAnd [.tb, .dma]
  | .dmaTriggerQueuePop _ => eventsAnd [.free, .objs, .doms, .mem, .weft, .protect, .dram, .dma, .pm, .changes, .boot]
  | .dmaChLinksWrite _ _ _ => [.flds, .pm]
  | .dmaDescriptorFetch _ => eventsAnd [.free, .objs, .doms, .mem, .protect, .tb, .dram, .dma, .patches, .pm, .changes, .boot]
  | .dmaTriggerTake _ => eventsAnd [.free, .objs, .doms, .mem, .protect, .tb, .dram, .dma, .patches, .pm, .changes, .boot]
  | .dmaBurst _ => eventsAnd [.free, .objs, .doms, .mem, .weft, .protect, .tb, .dram, .dma, .patches, .pm, .changes, .boot]
  | .dmaDescriptorComplete _ => eventsAnd [.free, .objs, .doms, .mem, .protect, .tb, .dram, .dma, .patches, .pm, .changes, .boot]
  | .dmaLinkReread _ => eventsAnd [.free, .objs, .doms, .mem, .protect, .dram, .dma, .pm, .changes, .boot]
  | .quiltBegin _ _ => eventsAnd [.mem, .sh, .patches, .pm]
  | .quiltStart _ _ => eventsAnd [.mem, .sh, .patches, .pm]
  | .quiltStop _ _ => eventsAnd [.mem, .sh, .patches, .pm]
  | .quiltAbort _ _ => eventsAnd [.mem, .sh, .patches, .pm]
  | .quiltReadFrame _ _ => eventsAnd [.mem, .sh, .patches, .pm]
  | .quiltReset _ _ => eventsAnd [.mem, .sh, .patches, .pm]
  | .quiltAuthorize _ _ => eventsAnd [.mem, .sh, .patches, .pm]
  | .quiltStreamWord _ => eventsAnd [.objs, .mem, .protect, .patches, .changes, .boot]
  | .qpFdroRead _ _ => [.out, .patches, .pm]
  | .qpEndpointBind _ _ _ _ _ => eventsAnd [.pm]
  | .quiltUserEvent _ _ _ => eventsAnd [.patches]
  | .quiltPoisonRead _ _ _ => eventsAnd [.objs, .doms, .mem, .protect, .sh, .dram, .patches, .changes, .boot]
  | .scrubSweepStart _ => eventsAnd [.objs, .patches, .scrub, .changes, .boot]
  | .quiltFrameScrub _ _ => eventsAnd [.free, .objs, .doms, .mem, .protect, .sh, .dram, .patches, .scrub, .pm, .changes, .boot]
  | .firmwareQuiltSweep _ => eventsAnd [.free, .objs, .doms, .mem, .protect, .sh, .dram, .patches, .scrub, .changes, .boot]
  | .hostLinkRetrain _ _ _ _ _ _ _ => eventsAnd [.objs, .changes, .boot]
  | .hostLinkDown => events
  | .hostLinkDownTimeout => events
  | .hostLinkUp _ _ _ _ _ => eventsAnd [.objs, .changes, .boot]
  | .hostMemoryRead _ _ _ _ _ => eventsAnd [.free, .objs, .doms, .latched, .mem, .protect, .dram, .patches, .scrub, .pm, .changes, .boot]
  | .hostMemoryWrite _ _ _ _ _ _ => eventsAnd [.free, .objs, .doms, .staged, .latched, .mem, .weft, .protect, .tb, .engines, .gussets, .sh, .hem, .lanes, .fh, .dram, .dma, .patches, .scrub, .pm, .changes, .boot, .mb]
  | .hostCompletionReceive _ _ _ _ _ => events
  | .hostCompletionTimeout _ _ _ _ => events
  | .hostRingEnable _ _ _ _ => [.flds, .host, .pm]
  | .hostRingDisable _ _ _ _ => [.flds, .host, .pm]
  | .hostRingDoorbell _ _ _ _ => eventsAnd [.pm]
  | .hostRingEntryPush _ _ _ => [.weft, .host]
  | .hostRingEntryWrite _ _ => eventsAnd [.free, .objs, .doms, .mem, .weft, .protect, .dram, .pm, .changes, .boot]
  | .eventRaise _ _ => events
  | .mailboxGo _ _ _ => [.flds, .host, .pm]
  | .mailboxTimeout _ => [.out, .flds, .host]
  | .functionLevelReset _ => eventsAnd [.free, .objs, .doms, .staged, .latched, .mem, .weft, .protect, .tb, .engines, .gussets, .sh, .hem, .fh, .dram, .dma, .patches, .pm, .changes, .boot, .sessions]
  | .hotReset => eventsAnd [.free, .objs, .doms, .staged, .latched, .mem, .weft, .protect, .tb, .engines, .gussets, .sh, .hem, .fh, .dram, .dma, .patches, .pm, .changes, .boot, .sessions]
  | .swatchOpen _ _ _ => allBut [.pending, .die]
  | .swatchProof _ _ _ => allBut [.pending, .die]
  | .swatchOpenTimeout _ => [.out, .flds, .objs, .host, .changes, .boot, .sessions]
  | .swatchRead _ _ _ => allBut [.pending, .die]
  | .swatchWrite _ _ _ => allBut [.pending, .die]
  | .swatchDescribe _ _ _ => allBut [.pending, .die]
  | .swatchSubscribe _ _ _ => allBut [.pending, .die]
  | .swatchUnsubscribe _ _ _ => allBut [.pending, .die]
  | .swatchPoll _ _ _ => allBut [.pending, .die]
  | .swatchKeepalive _ _ _ => allBut [.pending, .die]
  | .swatchClose _ _ _ => allBut [.pending, .die]
  | .swatchNotify _ _ _ => [.out, .flds, .host, .seam, .sessions]
  | .swatchRelay _ _ => [.out, .flds, .objs, .host, .seam, .changes, .boot, .relays]
  | .swatchSessionIdleTimeout _ => [.out, .flds, .objs, .host, .changes, .boot, .sessions]
  | .rwsApply => [.objs, .changes, .rws]
  | .storeCompact => [.objs, .changes, .boot]
  | .storeClear _ _ => [.out, .objs, .changes, .boot]
  | .toleranceWrite _ _ _ => eventsAnd [.objs, .pm, .changes, .boot]
  | .nextUseReceive _ => eventsAnd [.objs, .sh, .pm, .changes, .boot]
  | .islandQuietExpire _ _ => eventsAnd [.objs, .pm, .changes, .boot]
  | .islandEntryStep _ => eventsAnd [.objs, .pm, .changes, .boot]
  | .powerVoteRetry _ => eventsAnd [.objs, .pm, .changes, .boot]
  | .islandPrewake _ => [.flds, .pm]
  | .islandWakeRequest _ _ => eventsAnd [.objs, .pm, .changes, .boot]
  | .islandWakeComplete _ => eventsAnd [.objs, .mem, .scrub, .pm, .changes, .boot]
  | .retentionBankSweepDone _ _ _ _ => eventsAnd [.mem, .protect, .gussets, .pm]
  | .wakePin => eventsAnd [.objs, .pm, .changes, .boot]
  | .pmEndDeepHold => eventsAnd [.objs, .pm, .changes, .boot]
  | .pmDeviceDeep _ => eventsAnd [.objs, .pm, .changes, .boot]
  | .pmDeviceOff => allBut [.pending, .die]
  | .upsetReport _ _ => eventsAnd [.free, .objs, .doms, .staged, .latched, .mem, .weft, .protect, .tb, .engines, .gussets, .sh, .hem, .lanes, .dram, .dma, .patches, .pm, .changes, .boot, .sessions]
  | .unitRetire _ _ _ => eventsAnd [.free, .objs, .doms, .mem, .weft, .protect, .tb, .engines, .gussets, .sh, .hem, .lanes, .dram, .dma, .patches, .pm, .changes, .boot]
  | .faultRetireCommand _ => eventsAnd [.free, .objs, .doms, .mem, .weft, .protect, .tb, .engines, .gussets, .sh, .hem, .lanes, .dram, .dma, .patches, .pm, .changes, .boot, .sessions]
  | .faultReinstateCommand _ => eventsAnd [.objs, .doms, .staged, .latched, .weft, .protect, .engines, .gussets, .sh, .pm, .changes, .boot]
  | .panelReset _ _ => eventsAnd [.objs, .staged, .latched, .weft, .protect, .engines, .gussets, .sh, .pm, .changes, .boot]
  | .faultWarmResetCommand _ _ => [.out, .health]
  | .warmNAssert => [.health]
  | .warmReset _ _ => eventsAnd [.objs, .doms, .staged, .latched, .weft, .protect, .tb, .engines, .gussets, .sh, .hem, .lanes, .fh, .dram, .dramPorts, .dma, .patches, .scrub, .pm, .changes, .rws, .boot, .sessions, .mb]
  | .thimbleCheckpoint => [.health]
  | .thimbleFailover _ => eventsAnd [.free, .objs, .doms, .mem, .weft, .protect, .tb, .engines, .gussets, .sh, .hem, .lanes, .dram, .dma, .patches, .pm, .changes, .boot, .sessions]
  | .thimbleRestart _ => eventsAnd [.objs, .changes, .boot]
  | .coldBoot _ _ _ _ _ _ => allBut [.pending, .die]
  | .fwUpdate _ _ _ => eventsAnd [.free, .objs, .doms, .mem, .protect, .dram, .pm, .changes, .boot]
  | .fwSwitch _ => eventsAnd [.objs, .measures, .changes, .boot, .sessions]
  | .fwConfirm _ => eventsAnd [.boot]
  | .fwRevert _ => eventsAnd [.objs, .measures, .changes, .boot, .sessions]
  | .fwTrialTimeout => eventsAnd [.objs, .measures, .changes, .boot, .sessions]
  | .fwRaiseFwSvn _ _ => [.out, .flds]
  | .fwRaiseMbSvn _ _ => eventsAnd [.objs, .mem, .protect, .patches, .changes, .boot]
  | .attestNonceWrite _ _ => [.out, .sessions]
  | .attestReportRead _ => [.out]
  | .keySlot0Write _ _ _ => [.out, .flds, .keys, .measures]
  | .keySlot1Write _ _ => [.out, .flds, .keys, .measures]
  | .fuseCustKey _ _ _ => [.out, .flds, .boot]
  | .fuseRevoke _ _ _ => [.out, .flds]
  | .fusePolicy _ _ _ => [.out, .flds, .boot]
  | .imageLoad _ _ => eventsAnd [.free, .objs, .doms, .mem, .protect, .dram, .patches, .pm, .measures, .changes, .boot]
  | .quiltAuth _ _ => eventsAnd [.free, .objs, .doms, .mem, .protect, .dram, .pm, .measures, .changes, .boot]
  | .diagChallenge _ _ => [.out, .boot]
  | .diagUnlock _ _ => eventsAnd [.measures, .sessions]
  | .tamper => eventsAnd [.patches, .keys, .measures, .boot]
  | .mbFramingStore _ _ _ => eventsAnd [.free, .objs, .doms, .mem, .protect, .dram, .patches, .pm, .changes, .boot]
  | .thermWarn _ => eventsAnd [.objs, .changes, .boot, .thermal]
  | .throttleStep _ => eventsAnd [.objs, .changes, .boot, .thermal]
  | .throttleReleaseStep _ => eventsAnd [.objs, .changes, .boot, .thermal]
  | .thermalTrip _ => eventsAnd [.objs, .dram, .changes, .boot, .thermal]
  | .thermalTripRelease _ => eventsAnd [.objs, .changes, .boot, .thermal]
  | .supplyAlert => events
  | .mbCoreRelease _ _ _ => [.engines, .pm]
  | .mbCoreStart _ _ _ _ => [.flds, .engines, .pm]
  | .mbCoreStop _ _ _ => [.flds, .weft, .engines, .gussets, .sh, .pm]
  | .mbCoreClearFault _ _ _ => [.flds, .pm]
  | .mbCmdqDoorbell _ _ _ _ => [.out, .weft, .host, .mb]
  | .mbCmdqCompletion _ _ => eventsAnd [.free, .objs, .doms, .mem, .weft, .protect, .dram, .pm, .changes, .boot, .mb]
  | .mbCounterWrite _ _ _ => [.mb]
  | .mbTimerSet _ _ _ _ => [.flds, .tb]
  | .mbEndOfInterrupt _ _ _ => [.out, .host]
  | .mbMailboxCommand _ _ _ _ _ => [.out, .host, .mb]
  | .jtagExtest _ => [.out, .jtag]
  | .jtagSamplePreload _ _ => [.out, .jtag]
  | .jtagBypass _ => [.out, .jtag]
  | .jtagIdcode => [.out, .jtag]
  | .timeBaseReferencePeriod _ => eventsAnd [.tb, .mb]
  | .todMessageMissing => eventsAnd [.free, .objs, .tb, .changes, .boot]
  | .laneReferenceLost => [.tb]
  | .seamTimeBlockSend _ => [.out, .seam]
  | .seamIdentBlockSend _ => [.out, .seam]
  | .boltJoinRetry _ => [.seam]
  | .pcsRemoteFault _ _ _ => events
  | .thimblePairSelfTestDone _ _ => eventsAnd [.free, .objs, .doms, .mem, .weft, .protect, .tb, .engines, .gussets, .sh, .hem, .lanes, .dram, .dma, .patches, .pm, .changes, .boot]
  | .porNAssert => allBut [.pending, .die]
  | .vbatLoss => eventsAnd [.patches, .keys]
  | .illegalEncoding _ _ => eventsAnd [.free, .weft, .engines, .gussets, .sh]

end Sys2Proof.Machine
end

