-- ==== Sys2Proof/WellFormed.lean ====
section
/-!
DEFINITION. Which commands are well formed: each operand that names a numbered thing of the die names one that the die's
numbering has. What the thing's absence on a variant means is for the command's meaning.
-/

namespace Sys2Proof

namespace WellFormed

/-- A unit ID (R43). -/
def unitNo (n : Nat) : Bool := decide (n < 4096)

/-- The width of a register access in bytes (R30). -/
def widthOk (n : Nat) : Bool := n == 4 || n == 8

/-- A partition. -/
def partNo (n : Nat) : Bool := decide (n < 8)

/-- An island (R13). -/
def islandNo (n : Nat) : Bool := decide (n < 83)

/-- A queue ID (R44). -/
def queueNo (n : Nat) : Bool := decide (n < 65536)

/-- An epoch of a unit (R54). -/
def epochNo (n : Nat) : Bool := decide (n < 256)

/-- The value of a 4-bit field. -/
def log4 (n : Nat) : Bool := decide (n < 16)

/-- A carrier timer (R80). -/
def carrierNo (n : Nat) : Bool := decide (n < 64)

/-- A comparator (R82). -/
def comparatorNo (n : Nat) : Bool := decide (n < 1024)

/-- A global engine number (R4: 64 panels of 17 sites). -/
def engineNo (n : Nat) : Bool := decide (n < 1088)

/-- A Gusset, panel × 4 + quad. -/
def gussetNo (n : Nat) : Bool := decide (n < 256)

/-- A register bank of a Gusset. -/
def bankNo (n : Nat) : Bool := decide (n < 4)

/-- A Hem chain (R285). -/
def chainNo (n : Nat) : Bool := decide (n < 4)

/-- A Quilt patch. -/
def patchNo (n : Nat) : Bool := decide (n < 8)

/-- A stream of a chain (R285). -/
def streamNo (n : Nat) : Bool := decide (n < 32)

/-- A serial lane (R301). -/
def laneNo (n : Nat) : Bool := decide (n < 66)

/-- A lane quad (R301). -/
def quadNo (n : Nat) : Bool := decide (n < 17)

/-- A fronthaul port (R348). -/
def portNo (n : Nat) : Bool := decide (n < 48)

/-- A Seam link. -/
def linkNo (n : Nat) : Bool := decide (n < 8)

/-- A die of the bolt. -/
def dieNo (n : Nat) : Bool := decide (n < 8)

/-- A DRAM channel (R432). -/
def dramChannelNo (n : Nat) : Bool := decide (n < 8)

/-- A DRAM port (R409). -/
def dramPortNo (n : Nat) : Bool := decide (n < 12)

/-- A rank of a DRAM channel (R432). -/
def rankNo (n : Nat) : Bool := decide (n < 4)

/-- A DMA channel (R457). -/
def dmaChannelNo (n : Nat) : Bool := decide (n < 4096)

/-- An endpoint of a patch (R484). -/
def endpointNo (n : Nat) : Bool := decide (n < 8)

/-- A border output (R462). -/
def outputNo (n : Nat) : Bool := decide (n < 32)

/-- A host function, encoded as PART.HOST_FUNCTION (R18, R492): PF0 to PF4, or 0x10 and up for a VF. -/
def functionNo (f : Nat) : Bool := decide (f < 5) || (decide (16 ≤ f) && decide (f < 80))

/-- A host ring (R492). -/
def ringNo (n : Nat) : Bool := decide (n < 256)

/-- An event number (R502). -/
def eventNo (n : Nat) : Bool := decide (n < 8192)

/-- A power group (R549). -/
def groupNo (n : Nat) : Bool := decide (n < 16)

/-- A panel. -/
def panelNo (n : Nat) : Bool := decide (n < 64)

/-- A slot of the MB-416 register view (R617). -/
def slotNo (n : Nat) : Bool := decide (n < 4)

/-- A core of an MB partition (R620). -/
def coreNo (n : Nat) : Bool := decide (n < 64)

/-- A command queue of a slot (R628). -/
def mbQueueNo (n : Nat) : Bool := decide (n < 16)

/-- A timer of a slot (R627). -/
def timerNo (n : Nat) : Bool := decide (n < 16)

/-- An MSI-X vector of PF1 to PF4 (R618). -/
def mbVectorNo (n : Nat) : Bool := decide (n < 32)

end WellFormed

open WellFormed

/-- The command is well formed. -/
def Instr.wf : Instr → Bool
  | .registerWrite requester _ _ width .. => unitNo requester && widthOk width
  | .registerLowHalfRead requester .. => unitNo requester
  | .registerHighHalfRead requester .. => unitNo requester
  | .rcRegisterRead requester _ _ width => unitNo requester && widthOk width
  | .partCreate _ part => partNo part
  | .partStart _ part => partNo part
  | .partUnitsReady part => partNo part
  | .partStop _ part => partNo part
  | .partDrainDone part => partNo part
  | .partDelete _ part => partNo part
  | .partitionReset part => partNo part
  | .stitchTransfer .. => true
  | .clockFloor island .. => islandNo island
  | .queueEntryLand queue unit => queueNo queue && unitNo unit
  | .queuePopRequest queue unit => queueNo queue && unitNo unit.unit && epochNo unit.epoch
  | .creditRequest queue unit => queueNo queue && unitNo unit
  | .creditGrantArrive queue unit => queueNo queue && unitNo unit
  | .queueStall queue unit => queueNo queue && unitNo unit
  | .queueEnable requester queue depthLog grantLog consumer => unitNo requester && queueNo queue && log4 depthLog && log4 grantLog && unitNo consumer
  | .queueDisable requester queue depthLog grantLog consumer => unitNo requester && queueNo queue && log4 depthLog && log4 grantLog && unitNo consumer
  | .queueDrainMark queue unit => queueNo queue && unitNo unit
  | .drainMarkResend queue unit => queueNo queue && unitNo unit
  | .tbStep requester .. => unitNo requester
  | .syncSourceValid .. => true
  | .syncSourceLost => true
  | .syncLocked => true
  | .holdoverExpired => true
  | .hostStateWrite .. => true
  | .hostStateTimeout => true
  | .deferredStep .. => true
  | .sysrefLost => true
  | .sysrefReturn => true
  | .ppsOutEdge => true
  | .ppsInEdge .. => true
  | .ppsInLost => true
  | .todRxMessage .. => true
  | .todTxMessage => true
  | .carrierTimerConfig requester carrier .. => unitNo requester && carrierNo carrier
  | .carrierTimerStart carrier => carrierNo carrier
  | .carrierSlotStart carrier => carrierNo carrier
  | .comparatorArm requester comparator .. => unitNo requester && comparatorNo comparator
  | .comparatorWrite requester comparator .. => unitNo requester && comparatorNo comparator
  | .comparatorFire => true
  | .descriptorStage => true
  | .shuttleTriggerFire => true
  | .shTriggerWrite requester p .. => unitNo requester && partNo p
  | .shCancel requester p .. => unitNo requester && partNo p
  | .jobCancel => true
  | .jobDispatch => true
  | .jobLateCheck .. => true
  | .jobCompletionReport => true
  | .completionRecordPush => true
  | .sqEnable requester .. => unitNo requester
  | .sqDisable requester .. => unitNo requester
  | .forecastSend island => islandNo island
  | .offerSend => true
  | .offerReceive => true
  | .offerAccept => true
  | .offerTimeout => true
  | .offerAdvertise => true
  | .iNop engine => engineNo engine
  | .iFence engine => engineNo engine
  | .iEret engine => engineNo engine
  | .iBreak engine => engineNo engine
  | .iSignal engine => engineNo engine
  | .iWaitjob engine => engineNo engine
  | .iExit engine .. => engineNo engine
  | .iMfs engine .. => engineNo engine
  | .iMts engine .. => engineNo engine
  | .iAdd engine .. => engineNo engine
  | .iSub engine .. => engineNo engine
  | .iAnd engine .. => engineNo engine
  | .iOr engine .. => engineNo engine
  | .iXor engine .. => engineNo engine
  | .iSll engine .. => engineNo engine
  | .iSrl engine .. => engineNo engine
  | .iSra engine .. => engineNo engine
  | .iSlt engine .. => engineNo engine
  | .iSltu engine .. => engineNo engine
  | .iMin engine .. => engineNo engine
  | .iMax engine .. => engineNo engine
  | .iMinu engine .. => engineNo engine
  | .iMaxu engine .. => engineNo engine
  | .iMul engine .. => engineNo engine
  | .iMulh engine .. => engineNo engine
  | .iMulhu engine .. => engineNo engine
  | .iAddi engine .. => engineNo engine
  | .iAndi engine .. => engineNo engine
  | .iOri engine .. => engineNo engine
  | .iXori engine .. => engineNo engine
  | .iSlti engine .. => engineNo engine
  | .iSltiu engine .. => engineNo engine
  | .iSlli engine .. => engineNo engine
  | .iSrli engine .. => engineNo engine
  | .iSrai engine .. => engineNo engine
  | .iLis engine .. => engineNo engine
  | .iLik engine .. => engineNo engine
  | .iBeq engine .. => engineNo engine
  | .iBne engine .. => engineNo engine
  | .iBlt engine .. => engineNo engine
  | .iBge engine .. => engineNo engine
  | .iBltu engine .. => engineNo engine
  | .iBgeu engine .. => engineNo engine
  | .iJ engine .. => engineNo engine
  | .iJal engine .. => engineNo engine
  | .iJr engine .. => engineNo engine
  | .iJalr engine .. => engineNo engine
  | .iLd engine .. => engineNo engine
  | .iLdu engine .. => engineNo engine
  | .iSt engine .. => engineNo engine
  | .iPush engine .. => engineNo engine
  | .iPop engine .. => engineNo engine
  | .iPopw engine .. => engineNo engine
  | .iMacr engine .. => engineNo engine
  | .iMsur engine .. => engineNo engine
  | .iCmac engine .. => engineNo engine
  | .iCmacj engine .. => engineNo engine
  | .iAccz engine .. => engineNo engine
  | .iAccx engine .. => engineNo engine
  | .iCaccx engine .. => engineNo engine
  | .iAccr engine .. => engineNo engine
  | .iAccw engine .. => engineNo engine
  | .iSrchi engine .. => engineNo engine
  | .iSmax engine .. => engineNo engine
  | .iSmin engine .. => engineNo engine
  | .iCmaxm engine .. => engineNo engine
  | .iVadd engine .. => engineNo engine
  | .iVsub engine .. => engineNo engine
  | .iVadds engine .. => engineNo engine
  | .iVsubs engine .. => engineNo engine
  | .iVnegs engine .. => engineNo engine
  | .iVabss engine .. => engineNo engine
  | .iVconjs engine .. => engineNo engine
  | .iVmaxe engine .. => engineNo engine
  | .iVmine engine .. => engineNo engine
  | .iVand engine .. => engineNo engine
  | .iVor engine .. => engineNo engine
  | .iVxor engine .. => engineNo engine
  | .iVshrr engine .. => engineNo engine
  | .iVshls engine .. => engineNo engine
  | .iVperm engine .. => engineNo engine
  | .iVmulq engine .. => engineNo engine
  | .iVcmulq engine .. => engineNo engine
  | .iVcmuljq engine .. => engineNo engine
  | .iVmacr engine .. => engineNo engine
  | .iVcmac engine .. => engineNo engine
  | .iVcmacj engine .. => engineNo engine
  | .iVsmax engine .. => engineNo engine
  | .iVsmin engine .. => engineNo engine
  | .iVcmaxm engine .. => engineNo engine
  | .iVexp engine .. => engineNo engine
  | .iVsplat engine .. => engineNo engine
  | .iVinsr engine .. => engineNo engine
  | .iVextr engine .. => engineNo engine
  | .iVwidl engine .. => engineNo engine
  | .iVwidh engine .. => engineNo engine
  | .iSetvl engine .. => engineNo engine
  | .iVnarw engine .. => engineNo engine
  | .iVld engine .. => engineNo engine
  | .iVst engine .. => engineNo engine
  | .iVldff engine .. => engineNo engine
  | .iVlds engine .. => engineNo engine
  | .iVsts engine .. => engineNo engine
  | .iVgather engine .. => engineNo engine
  | .iVscatter engine .. => engineNo engine
  | .iVgatherff engine .. => engineNo engine
  | .iGmovt engine .. => engineNo engine
  | .iGmovf engine .. => engineNo engine
  | .iGmul engine .. => engineNo engine
  | .iGmulh engine .. => engineNo engine
  | .iGmulbh engine .. => engineNo engine
  | .iGmac engine .. => engineNo engine
  | .iGmsu engine .. => engineNo engine
  | .iGadd engine .. => engineNo engine
  | .iGsub engine .. => engineNo engine
  | .iGherm engine .. => engineNo engine
  | .iGzero engine .. => engineNo engine
  | .iGshr engine .. => engineNo engine
  | .iGstat engine .. => engineNo engine
  | .gussetAccept gusset => gussetNo gusset
  | .gussetBegin gusset bank .. => gussetNo gusset && bankNo bank
  | .gussetCommit gusset work => gussetNo gusset && bankNo work.bank
  | .gussetSreset requester gusset .. => unitNo requester && gussetNo gusset
  | .engSreset requester engine .. => unitNo requester && engineNo engine
  | .engGo requester engine .. => unitNo requester && engineNo engine
  | .engOpen requester engine .. => unitNo requester && engineNo engine
  | .engHaltReq requester engine .. => unitNo requester && engineNo engine
  | .engineJobLateSignal engine => engineNo engine
  | .lateJobStop engine => engineNo engine
  | .engineEventDeliver => true
  | .mbDspOperation engine .. => engineNo engine
  | .mbStatusWrite engine .. => engineNo engine
  | .mbGussetCommand engine .. => engineNo engine
  | .mbGussetRead engine .. => engineNo engine
  | .mbSendMessage engine .. => engineNo engine
  | .mbReceiveMessage engine .. => engineNo engine
  | .mbRaiseHostInterrupt engine => engineNo engine
  | .mbHalt engine => engineNo engine
  | .mbReadCycleCounter engine .. => engineNo engine
  | .ldpcDecode unit => unitNo unit
  | .ldpcEncode unit => unitNo unit
  | .turboDecode unit => unitNo unit
  | .polarDecode unit => unitNo unit
  | .polarEncode unit => unitNo unit
  | .tbccDecode unit => unitNo unit
  | .tbccEncode unit => unitNo unit
  | .tbSegment unit => unitNo unit
  | .tbAssemble unit => unitNo unit
  | .ldpcRateMatch unit => unitNo unit
  | .ldpcRateRecover unit => unitNo unit
  | .turboEncode unit => unitNo unit
  | .turboRateMatch unit => unitNo unit
  | .turboRateRecover unit => unitNo unit
  | .chest unit => unitNo unit
  | .eqWeights unit => unitNo unit
  | .bfWeights unit => unitNo unit
  | .weightApply unit => unitNo unit
  | .eqApply unit => unitNo unit
  | .jmStats unit => unitNo unit
  | .jmSolve unit => unitNo unit
  | .softDemap unit => unitNo unit
  | .modMap unit => unitNo unit
  | .fft unit => unitNo unit
  | .ifft unit => unitNo unit
  | .prachDetect chain => chainNo chain
  | .seqDetect chain => chainNo chain
  | .patchJob patch => patchNo patch
  | .patchJobEnd patch .. => patchNo patch
  | .patchJobLateTimeout patch => patchNo patch
  | .accSreset requester unit .. => unitNo requester && unitNo unit
  | .hemIntakeEntry chain => chainNo chain
  | .hemWindowProcess chain stream .. => chainNo chain && streamNo stream
  | .hemWindowMissing chain stream => chainNo chain && streamNo stream
  | .hemTransmitRequest chain => chainNo chain
  | .hemSgainWrite requester chain stream .. => unitNo requester && chainNo chain && streamNo stream
  | .hemStreamEnable requester chain stream .. => unitNo requester && chainNo chain && streamNo stream
  | .hemStreamDisable requester chain stream .. => unitNo requester && chainNo chain && streamNo stream
  | .hemSreset requester chain .. => unitNo requester && chainNo chain
  | .laneEnable requester lane .. => unitNo requester && laneNo lane
  | .laneDisable requester lane .. => unitNo requester && laneNo lane
  | .laneCalDone lane => laneNo lane
  | .laneAdaptDone lane .. => laneNo lane
  | .trainingRequestAccept lane .. => laneNo lane
  | .laneTrainingDone lane => laneNo lane
  | .laneTrainTimeout lane => laneNo lane
  | .laneFailedRetry lane => laneNo lane
  | .laneAligned received => laneNo received.lane
  | .laneAlignLost received => laneNo received.lane
  | .laneLos lane => laneNo lane
  | .laneSignalReturn lane => laneNo lane
  | .laneRetrain requester lane .. => unitNo requester && laneNo lane
  | .pllEnable requester quad .. => unitNo requester && quadNo quad
  | .pllLockLost quad .. => quadNo quad
  | .loopbackSlip drift => laneNo drift.lane
  | .checkerLock lane .. => laneNo lane
  | .laneInject requester lane .. => unitNo requester && laneNo lane
  | .lanePowerRequest requester lane .. => unitNo requester && laneNo lane
  | .lanePowerWakeDone lane .. => laneNo lane
  | .laneRetire lane => laneNo lane
  | .lanesRetireCommand .. => true
  | .fhPortEnable requester port .. => unitNo requester && portNo port
  | .frameReceive port .. => portNo port
  | .uplinkSymbolClose .. => true
  | .cplaneSend port => portNo port
  | .downlinkRequest port => portNo port
  | .downlinkSymbolSend port => portNo port
  | .stWrite requester part .. => unitNo requester && partNo part
  | .stRead requester part .. => unitNo requester && partNo part
  | .stInvalidate requester part .. => unitNo requester && partNo part
  | .cpriEnable requester lane .. => unitNo requester && laneNo lane
  | .cpriHfsyncAchieved lane => laneNo lane
  | .cpriHfsyncLost lane => laneNo lane
  | .cpriHyperframeRx lane .. => laneNo lane
  | .cpriBasicFrameRx lane .. => laneNo lane
  | .cpriBasicFrameTx lane .. => laneNo lane
  | .seamLinkEnable requester link .. => unitNo requester && linkNo link
  | .seamCodewordReceive place .. => linkNo place.link && laneNo place.lane
  | .seamIdentReceive link .. => linkNo link
  | .seamUnitReceive link .. => linkNo link
  | .seamUnitSend link => linkNo link
  | .seamAckSend link => linkNo link
  | .seamAckReceive link .. => linkNo link
  | .seamNakReceive link .. => linkNo link
  | .seamNakResendTimeout link => linkNo link
  | .seamReplayTimeout link => linkNo link
  | .seamPowerReceive link .. => linkNo link
  | .seamLaneQuiet lane => laneNo lane
  | .seamTimeReceive link .. => linkNo link
  | .boltFormAlone .. => true
  | .boltJoin .. => true
  | .boltChal => true
  | .boltProof .. => true
  | .boltAdmit => true
  | .boltRefuse => true
  | .boltAdmissionTimeout => true
  | .epochChangePropose .. => true
  | .epochChangeReceive => true
  | .epochChangeDecide => true
  | .epochCommitReceive => true
  | .epochAbandonReceive => true
  | .epochChangeApply => true
  | .epochWindowSwitch => true
  | .epochChangeNoOutcome => true
  | .boltHeartbeatSend => true
  | .boltHeartbeatReceive => true
  | .boltPeerLost peer .. => dieNo peer
  | .boltCommandJoin .. => true
  | .boltCommandLeave => true
  | .boltCommandRepublish => true
  | .remoteReadTimeout => true
  | .peerEventReceive => true
  | .seamPeerEvtPop requester => unitNo requester
  | .memoryReadRequest unit .. => unitNo unit.unit && epochNo unit.epoch
  | .memoryWriteRequest unit .. => unitNo unit.unit && epochNo unit.epoch
  | .scrubRead .. => true
  | .darningWatchExpire .. => true
  | .rowRepairCopyDone => true
  | .dramRequest channel .. => dramChannelNo channel
  | .dramRhThrottleEnd channel unit => dramChannelNo channel && unitNo unit
  | .dramRhWindowEnd channel => dramChannelNo channel
  | .dramPortUrgent port => dramPortNo port
  | .dramRefresh channel rank .. => dramChannelNo channel && rankNo rank
  | .dramTempPoll channel rank .. => dramChannelNo channel && rankNo rank
  | .dramZqCal channel rank => dramChannelNo channel && rankNo rank
  | .dramDqsOscRead channel rank .. => dramChannelNo channel && rankNo rank
  | .dramRankRetrain channel rank .. => dramChannelNo channel && rankNo rank
  | .dramPowerDown channel rank => dramChannelNo channel && rankNo rank
  | .dramSelfRefreshEntry channel rank => dramChannelNo channel && rankNo rank
  | .dramSelfRefreshExit channel rank => dramChannelNo channel && rankNo rank
  | .dramRowRepair .. => true
  | .dramRetireRankCommand .. => true
  | .dramMigrationRegion channel => dramChannelNo channel
  | .dramXlate requester .. => unitNo requester
  | .dmaChEnable requester channel .. => unitNo requester && dmaChannelNo channel
  | .dmaChDisable requester channel .. => unitNo requester && dmaChannelNo channel
  | .dmaRing requester channel => unitNo requester && dmaChannelNo channel
  | .dmaTrig requester channel => unitNo requester && dmaChannelNo channel
  | .dmaChSreset requester channel => unitNo requester && dmaChannelNo channel
  | .dmaTriggerArrive => true
  | .dmaTriggerQueuePop channel => dmaChannelNo channel
  | .dmaChLinksWrite requester channel .. => unitNo requester && dmaChannelNo channel
  | .dmaDescriptorFetch channel => dmaChannelNo channel
  | .dmaTriggerTake channel => dmaChannelNo channel
  | .dmaBurst engine => engineNo engine
  | .dmaDescriptorComplete channel => dmaChannelNo channel
  | .dmaLinkReread channel => dmaChannelNo channel
  | .quiltBegin requester patch => unitNo requester && patchNo patch
  | .quiltStart requester patch => unitNo requester && patchNo patch
  | .quiltStop requester patch => unitNo requester && patchNo patch
  | .quiltAbort requester patch => unitNo requester && patchNo patch
  | .quiltReadFrame requester patch => unitNo requester && patchNo patch
  | .quiltReset requester patch => unitNo requester && patchNo patch
  | .quiltAuthorize requester patch => unitNo requester && patchNo patch
  | .quiltStreamWord patch => patchNo patch
  | .qpFdroRead requester patch => unitNo requester && patchNo patch
  | .qpEndpointBind requester patch endpoint .. => unitNo requester && patchNo patch && endpointNo endpoint
  | .quiltUserEvent patch output .. => patchNo patch && outputNo output
  | .quiltPoisonRead patch .. => patchNo patch
  | .scrubSweepStart .. => true
  | .quiltFrameScrub .. => true
  | .firmwareQuiltSweep .. => true
  | .hostLinkRetrain _ requester .. => unitNo requester
  | .hostLinkDown => true
  | .hostLinkDownTimeout => true
  | .hostLinkUp .. => true
  | .hostMemoryRead function .. => functionNo function
  | .hostMemoryWrite function .. => functionNo function
  | .hostCompletionReceive unit .. => unitNo unit
  | .hostCompletionTimeout unit .. => unitNo unit
  | .hostRingEnable requester function ring .. => unitNo requester && functionNo function && ringNo ring
  | .hostRingDisable requester function ring .. => unitNo requester && functionNo function && ringNo ring
  | .hostRingDoorbell requester function ring .. => unitNo requester && functionNo function && ringNo ring
  | .hostRingEntryPush function ring .. => functionNo function && ringNo ring
  | .hostRingEntryWrite function ring => functionNo function && ringNo ring
  | .eventRaise event .. => eventNo event
  | .mailboxGo requester function .. => unitNo requester && functionNo function
  | .mailboxTimeout function => functionNo function
  | .functionLevelReset function => functionNo function
  | .hotReset => true
  | .swatchOpen .. => true
  | .swatchProof .. => true
  | .swatchOpenTimeout .. => true
  | .swatchRead .. => true
  | .swatchWrite .. => true
  | .swatchDescribe .. => true
  | .swatchSubscribe .. => true
  | .swatchUnsubscribe .. => true
  | .swatchPoll .. => true
  | .swatchKeepalive .. => true
  | .swatchClose .. => true
  | .swatchNotify .. => true
  | .swatchRelay .. => true
  | .swatchSessionIdleTimeout .. => true
  | .rwsApply => true
  | .storeCompact => true
  | .storeClear .. => true
  | .toleranceWrite group .. => groupNo group
  | .nextUseReceive .. => true
  | .islandQuietExpire island .. => islandNo island
  | .islandEntryStep island => islandNo island
  | .powerVoteRetry .. => true
  | .islandPrewake island => islandNo island
  | .islandWakeRequest island .. => islandNo island
  | .islandWakeComplete island => islandNo island
  | .retentionBankSweepDone .. => true
  | .wakePin => true
  | .pmEndDeepHold => true
  | .pmDeviceDeep .. => true
  | .pmDeviceOff => true
  | .upsetReport .. => true
  | .unitRetire .. => true
  | .faultRetireCommand .. => true
  | .faultReinstateCommand .. => true
  | .panelReset requester panel => unitNo requester && panelNo panel
  | .faultWarmResetCommand .. => true
  | .warmNAssert => true
  | .warmReset .. => true
  | .thimbleCheckpoint => true
  | .thimbleFailover .. => true
  | .thimbleRestart .. => true
  | .coldBoot .. => true
  | .fwUpdate .. => true
  | .fwSwitch .. => true
  | .fwConfirm .. => true
  | .fwRevert .. => true
  | .fwTrialTimeout => true
  | .fwRaiseFwSvn .. => true
  | .fwRaiseMbSvn .. => true
  | .attestNonceWrite .. => true
  | .attestReportRead .. => true
  | .keySlot0Write .. => true
  | .keySlot1Write .. => true
  | .fuseCustKey .. => true
  | .fuseRevoke .. => true
  | .fusePolicy .. => true
  | .imageLoad .. => true
  | .quiltAuth .. => true
  | .diagChallenge .. => true
  | .diagUnlock .. => true
  | .tamper => true
  | .mbFramingStore .. => true
  | .thermWarn .. => true
  | .throttleStep .. => true
  | .throttleReleaseStep .. => true
  | .thermalTrip .. => true
  | .thermalTripRelease .. => true
  | .supplyAlert => true
  | .mbCoreRelease requester slot core => unitNo requester && slotNo slot && coreNo core
  | .mbCoreStart requester slot core .. => unitNo requester && slotNo slot && coreNo core
  | .mbCoreStop requester slot core => unitNo requester && slotNo slot && coreNo core
  | .mbCoreClearFault requester slot core => unitNo requester && slotNo slot && coreNo core
  | .mbCmdqDoorbell requester slot queue .. => unitNo requester && slotNo slot && mbQueueNo queue
  | .mbCmdqCompletion slot queue => slotNo slot && mbQueueNo queue
  | .mbCounterWrite requester slot .. => unitNo requester && slotNo slot
  | .mbTimerSet requester slot timer .. => unitNo requester && slotNo slot && timerNo timer
  | .mbEndOfInterrupt requester slot vector => unitNo requester && slotNo slot && mbVectorNo vector
  | .mbMailboxCommand requester slot .. => unitNo requester && slotNo slot
  | .jtagExtest .. => true
  | .jtagSamplePreload .. => true
  | .jtagBypass .. => true
  | .jtagIdcode => true
  | .timeBaseReferencePeriod .. => true
  | .todMessageMissing => true
  | .laneReferenceLost => true
  | .seamTimeBlockSend link => linkNo link
  | .seamIdentBlockSend link => linkNo link
  | .boltJoinRetry .. => true
  | .pcsRemoteFault port .. => portNo port
  | .thimblePairSelfTestDone .. => true
  | .porNAssert => true
  | .vbatLoss => true
  | .illegalEncoding engine .. => engineNo engine

end Sys2Proof
end

