-- ==== Sys2Proof/Certificates/Slice0/Obligations.lean ====
section
/-!
DEFINITION. The statements about the model, each a proposition that formalises rules of the spec or says what a command does.
-/

open Sys2Proof Sys2Proof.Machine Sys2Proof.Machine.Reg Sys2Proof.Machine.Ob

/-- A step runs the command at the front of the queue; on an empty queue the block idles (the model's choice, log entry 1). -/
def Obligations.StepRunsTheFrontCommand : Prop :=
  (∀ (c : Instr) (l : List Instr) (s : State), s.pending = c :: l → step s = exec c { s with pending := l }) ∧
  (∀ (s : State), s.pending = [] → step s = .next s) ∧
  (∀ (c : Instr) (s : State), step (s.command c) = exec c s)

/-- After reset every register and object holds its value, the queue of commands is empty and memory reads as poison. -/
def Obligations.ResetHoldsTheStatedValues : Prop :=
  State.reset.MemoryOk ∧ State.reset.pending = [] ∧ State.reset.tb.count = 0 ∧ State.reset.sh.jobs = [] ∧
  State.reset.weft.flits = [] ∧ State.reset.sessions = [] ∧
  (∀ (f : Fld) (i : Nat), State.reset.rf f i = f.resetAt i) ∧
  (∀ (o : Obj) (i : Nat), State.reset.ob o i = o.dflt) ∧
  (State.reset.rf QM_STALL_LIMIT_LIMIT = 0xF000 ∧ State.reset.rf QM_CAP_QUEUE_COUNT = 0x10000 ∧
    State.reset.rf QM_STALL_LAST_PRODUCER = 0xFFF ∧ State.reset.rf PM_ISLAND_FMIN_MIN_MHZ = 0xFFFF ∧
    State.reset.rf QM_QCFG_CONSUMER 7 = 0xFFF) ∧
  (∀ (n : Nat) (i : BitVec 5) (k : BitVec 3) (j : BitVec 2), (State.reset.eng n).reg i = 0 ∧ (State.reset.eng n).off k = 0 ∧
    (State.reset.eng n).acc j = 0 ∧ (State.reset.eng n).status = 0 ∧ (State.reset.eng n).ecause = 0) ∧
  (∀ (a : Nat), a % 8 = 0 → a + 8 ≤ checkBase → decodeSymbols (storedSymbols State.reset.mem a) = .poison)

/-- Every step of every command keeps memory in its canonical form, so that equal memories are equal data. -/
def Obligations.EveryStepKeepsMemoryCanonical : Prop :=
  ∀ (s t : State), s.MemoryOk → step s = .next t → t.MemoryOk

/-- A step takes exactly one command from the queue, adds none, and leaves the die's variant, steppings and fuses as they are. -/
def Obligations.EveryStepTakesOneCommandAndKeepsTheDie : Prop :=
  ∀ (s t : State), step s = .next t → t.pending = s.pending.tail ∧ t.die = s.die

/-- A command changes only the parts of the state that are listed for it; every other part is as it was. -/
def Obligations.CommandsWriteOnlyTheirParts : Prop :=
  (∀ (c : Instr) (s t : State) (k : Part), exec c s = .next t → k ∉ writes c → k.same s t) ∧
  (∀ (s t : State) (u : Nat) (d : Word), exec (.tbStep u d) s = .next t →
    t.mem = s.mem ∧ t.engines = s.engines ∧ t.weft = s.weft ∧ t.sessions = s.sessions) ∧
  (∀ (s t : State), exec .sysrefReturn s = .next t → t.mem = s.mem ∧ t.sh = s.sh ∧ t.engines = s.engines ∧ t.objs = s.objs) ∧
  (∀ (s t : State) (l m : List Bool), exec (.jtagSamplePreload l m) s = .next t →
    t.mem = s.mem ∧ t.flds = s.flds ∧ t.objs = s.objs ∧ t.engines = s.engines ∧ t.sh = s.sh)

/-- Customer keys, Swatch sessions and relays, and DMA channels change only by the commands that their rules name. -/
def Obligations.KeysSessionsAndChannelsChangeOnlyByTheirCommands : Prop :=
  (∀ (c : Instr) (s t : State), exec c s = .next t → match c with
    | .swatchOpen _ _ _ | .swatchProof _ _ _ | .swatchRead _ _ _ | .swatchWrite _ _ _ | .swatchDescribe _ _ _
    | .swatchSubscribe _ _ _ | .swatchUnsubscribe _ _ _ | .swatchPoll _ _ _ | .swatchKeepalive _ _ _ | .swatchClose _ _ _
    | .pmDeviceOff | .coldBoot _ _ _ _ _ _ | .keySlot0Write _ _ _ | .keySlot1Write _ _ | .tamper | .porNAssert
    | .vbatLoss => True
    | _ => t.keys = s.keys) ∧
  (∀ (c : Instr) (s t : State), exec c s = .next t → match c with
    | .partUnitsReady _ | .partitionReset _ | .warmReset _ _ | .functionLevelReset _ | .hotReset | .swatchOpen _ _ _ | .swatchProof _ _ _ | .swatchOpenTimeout _
    | .swatchRead _ _ _ | .swatchWrite _ _ _ | .swatchDescribe _ _ _ | .swatchSubscribe _ _ _ | .swatchUnsubscribe _ _ _
    | .swatchPoll _ _ _ | .swatchKeepalive _ _ _ | .swatchClose _ _ _ | .swatchNotify _ _ _ | .swatchSessionIdleTimeout _
    | .pmDeviceOff | .upsetReport _ _ | .faultRetireCommand _ | .thimbleFailover _ | .coldBoot _ _ _ _ _ _ | .fwSwitch _
    | .fwRevert _ | .fwTrialTimeout | .attestNonceWrite _ _ | .diagUnlock _ _ | .porNAssert => True
    | _ => t.sessions = s.sessions) ∧
  (∀ (c : Instr) (s t : State), exec c s = .next t → match c with
    | .registerWrite _ _ _ _ _ | .seamUnitReceive _ _ _ _ _ | .partUnitsReady _ | .partDelete _ _ | .partitionReset _ | .dmaChEnable _ _ _
    | .dmaChDisable _ _ _ | .dmaRing _ _ | .dmaTrig _ _ | .dmaChSreset _ _ | .dmaTriggerArrive | .dmaTriggerQueuePop _
    | .dmaDescriptorFetch _ | .dmaTriggerTake _ | .dmaBurst _ | .dmaDescriptorComplete _ | .dmaLinkReread _
    | .hostMemoryWrite _ _ _ _ _ _ | .functionLevelReset _ | .hotReset | .swatchOpen _ _ _ | .swatchProof _ _ _
    | .swatchRead _ _ _ | .swatchWrite _ _ _ | .swatchDescribe _ _ _ | .swatchSubscribe _ _ _ | .swatchUnsubscribe _ _ _
    | .swatchPoll _ _ _ | .swatchKeepalive _ _ _ | .swatchClose _ _ _ | .pmDeviceOff | .upsetReport _ _
    | .unitRetire _ _ _ | .faultRetireCommand _ | .warmReset _ _ | .thimbleFailover _ | .coldBoot _ _ _ _ _ _
    | .thimblePairSelfTestDone _ _ | .porNAssert => True
    | _ => t.dma = s.dma) ∧
  (∀ (c : Instr) (s t : State), exec c s = .next t → match c with
    | .swatchOpen _ _ _ | .swatchProof _ _ _ | .swatchRead _ _ _ | .swatchWrite _ _ _ | .swatchDescribe _ _ _
    | .swatchSubscribe _ _ _ | .swatchUnsubscribe _ _ _ | .swatchPoll _ _ _ | .swatchKeepalive _ _ _ | .swatchClose _ _ _
    | .swatchRelay _ _ | .pmDeviceOff | .coldBoot _ _ _ _ _ _ | .porNAssert => True
    | _ => t.relays = s.relays)

/-- Ten symbols: the data bytes in their order and two check symbols that make both syndromes zero. -/
def Obligations.SelvageCheckSymbolsMakeBothSyndromesZero : Prop :=
  (∀ (b : Byte), gfAlpha b = b <<< 1 ^^^ (if b.getLsbD 7 then 0x1D else 0)) ∧
  (gfAlpha 1 = 0x02 ∧ gfAlphaPow 222 1 = 0x8A) ∧
  (∀ (a b : Byte) (n : Nat), gfMul (gfAlphaPow n 1) b = gfAlphaPow n b) ∧
  (∀ (c : List Byte), gfSum c = c.foldr (· ^^^ ·) 0) ∧
  (∀ (c : List Byte) (x : Byte) (n : Nat), gfWeighted n [] = 0 ∧ gfWeighted n (x :: c) = gfAlphaPow n x ^^^ gfWeighted (n + 1) c) ∧
  (∀ (d : List Byte), d.length = 8 →
    (checkSymbols d).2 = gfMul 0x8A (gfWeighted 0 d ^^^ gfAlphaPow 8 (gfSum d)) ∧
    (checkSymbols d).1 = gfSum d ^^^ (checkSymbols d).2 ∧
    gfSum (d ++ [(checkSymbols d).1, (checkSymbols d).2]) = 0 ∧
    gfWeighted 0 (d ++ [(checkSymbols d).1, (checkSymbols d).2]) = 0) ∧
  (∀ (w : Word), codewordOf (some w) = wordBytes w ++ [(checkSymbols (wordBytes w)).1, (checkSymbols (wordBytes w)).2] ∧
    (wordBytes w).length = 8 ∧ (∀ i, i < 8 → (wordBytes w).getD i 0 = BitVec.ofNat 8 (w.toNat / 2 ^ (8 * i)))) ∧
  codewordOf (some 0) = List.replicate 10 0

/-- The decoder's outcome follows from the two syndromes, by the first row of the table that matches. -/
def Obligations.SelvageDecoderClassifiesBySyndromes : Prop :=
  ∀ (c : List Byte), c.length = 10 →
    (gfSum c = 0 → gfWeighted 0 c = 0 → decodeSymbols c = .clean (dataWord c)) ∧
    (gfSum c = 0x01 → gfWeighted 0 c = 0x74 → decodeSymbols c = .poison) ∧
    (gfSum c = 0 → gfWeighted 0 c ≠ 0 → decodeSymbols c = .bad) ∧
    (gfSum c ≠ 0 → gfWeighted 0 c = 0 → decodeSymbols c = .bad) ∧
    (∀ k0 k1 j, k0 < 255 → k1 < 255 → gfSum c = gfAlphaPow k0 1 → gfWeighted 0 c = gfAlphaPow k1 1 →
      ¬(gfSum c = 0x01 ∧ gfWeighted 0 c = 0x74) → j = (k1 + 255 - k0) % 255 →
      (j ≤ 9 → decodeSymbols c = .corrected (dataWord (c.set j (c.getD j 0 ^^^ gfSum c)))) ∧
      (9 < j → decodeSymbols c = .bad))

/-- Decoding the codeword of any word gives that word, with any one of its ten symbols changed in any way too; the mark is POISON. -/
def Obligations.SelvageDecodesWhatItEncodesAndAnyOneWrongSymbol : Prop :=
  (∀ (w : Word), decodeSymbols (codewordOf (some w)) = .clean w) ∧
  (∀ (w : Word) (i : Nat) (e : Byte), i < 10 → e ≠ 0 →
    decodeSymbols ((codewordOf (some w)).set i ((codewordOf (some w)).getD i 0 ^^^ e)) = .corrected w) ∧
  decodeSymbols (codewordOf none) = .poison

/-- A stored word reads back as it was written, POISON where the mark was written; every other word of memory stays. -/
def Obligations.StoredWordsReadBackAndOthersStay : Prop :=
  ∀ (s : State) (a memid unit kind : Nat), s.MemoryOk → a % 8 = 0 → a < checkBase →
    (∀ (w : Word), ((s.writeCell a memid (some w)).readCell a memid unit kind).1 = some w ∧
      (memid / 0x1000 ≠ 6 →
        ((s.writeCell a memid (some w)).readCell a memid unit kind).2 = s.writeCell a memid (some w))) ∧
    (((s.writeCell a memid none).readCell a memid unit kind).1 = none ∧
      (memid / 0x1000 ≠ 6 →
        ((s.writeCell a memid none).readCell a memid unit kind).2
          = (s.writeCell a memid none).incf MP_POISON_READS_COUNT)) ∧
    (∀ (w : Carried) (b : Nat), b % 8 = 0 → b < checkBase → b ≠ a →
      storedSymbols (s.writeCell a memid w).mem b = storedSymbols s.mem b) ∧
    (∀ (w : Carried), (s.writeCell a memid w).MemoryOk)

/-- The commands that move queue entries, credits and drain marks across the Weft complete with their own effect. -/
def Obligations.WeftEntriesMove : Prop :=
  (∀ (s : State) (sender receiver : Nat) (ra rb : BitVec 80) (es : List (BitVec 80)) (rq an : List LooseFlit) (w : Flit ⊕ LooseFlit),
    s.islandStops receiver = false →
    arbitrate bidOf (s.nowAt sender) (Tab.get 4095 s.weft.served (sender * 256 + receiver))
      ((s.competing sender receiver).map Sum.inl
        ++ ((rq ++ an).filter (fun f => s.linkCredit (sender * 256 + receiver) (looseVc f.body))).map Sum.inr) = some w →
    exec (.stitchTransfer sender receiver ra rb es rq an) s
      = .next (match w with
        | .inl f => s.crossFlit f (sender * 256 + receiver) ra rb es
        | .inr f => s.crossLoose f sender (sender * 256 + receiver) ra rb es)) ∧
  (∀ (s : State) (q u : Nat) (f : Flit),
    s.firstFlit q u = some f → f.kind = FlitKind.entry → f.crossed = true → f.dropped = false → s.aliasOf q = none →
    s.accessStops unitQueueManager (s.slotAddr q (s.rf QM_QPTR_TAIL q)) 64 = none →
    exec (.queueEntryLand q u) s
      = .next ((((s.dropFlit f).landEntry q f.payload).entryArrived q).entryLanded q u)) ∧
  (∀ (s : State) (q u e : Nat),
    s.mayPop u q = true → s.islandStops weftIsland = false → s.epochCurrent u e weftIsland = true →
    s.aliasOf q = none → s.rf QM_QCFG_CONSUMER q = u → s.occupancy q ≠ 0 →
    s.accessStops unitQueueManager (s.slotAddr q (s.rf QM_QPTR_HEAD q)) 64 = none →
    exec (.queuePopRequest q ⟨u, e⟩) s
      = .next ((s.popQueue q u).2.send (.popEntry q u (s.readSlot (s.slotAddr q (s.rf QM_QPTR_HEAD q))).1))) ∧
  (∀ (s : State) (q u e : Nat),
    s.mayPop u q = true → s.islandStops weftIsland = false → s.epochCurrent u e weftIsland = true →
    s.aliasOf q = none → s.rf QM_QCFG_CONSUMER q = u → s.occupancy q = 0 →
    exec (.queuePopRequest q ⟨u, e⟩) s = .next (s.send (.popEmpty q u))) ∧
  (∀ (s : State) (q u e : Nat),
    s.mayPop u q = true → s.islandStops weftIsland = false → s.epochCurrent u e weftIsland = true →
    s.aliasOf q = none → s.rf QM_QCFG_CONSUMER q ≠ u →
    exec (.queuePopRequest q ⟨u, e⟩) s = .next (s.send (.popDenied q u))) ∧
  (∀ (s : State) (q u : Nat) (f : Flit),
    s.arrived (fun f => f.kind == .request && f.queue == q && f.producer == u) = some f → s.aliasOf q = none →
    exec (.creditRequest q u) s
      = .next (State.serve { s.dropFlit f with weft := { (s.dropFlit f).weft with
          waiting := s.weft.waiting ++ [(q, u)] } } q)) ∧
  (∀ (s : State) (q u : Nat) (f : Flit),
    s.arrived (fun f => f.grantTo q u) = some f → 0x440 ≤ u → u < 0x900 ∨ 0x908 ≤ u →
    exec (.creditGrantArrive q u) s = .next ((s.dropFlit f).creditsArrive q u f.credits)) ∧
  (∀ (s : State) (q u : Nat),
    (s.port q u).stalled ≠ [] → (s.port q u).raised = false → s.rf QM_STALL_LIMIT_LIMIT ≠ 0 →
    s.rf QM_STALL_LIMIT_LIMIT < s.tb.count - (s.port q u).since →
    exec (.queueStall q u) s
      = .next ((((((s.setPort q u { s.port q u with raised := true }).sf QM_QSTAT_STALLED q 1).maxf QM_QSTALL_MAX_TICKS q
          (s.tb.count - (s.port q u).since)).sf QM_STALL_LAST_PRODUCER 0 u).sf QM_STALL_LAST_QUEUE 0 q).raise
          evQueueStall (q * 4096 + u))) ∧
  (∀ (s : State) (q u : Nat) (f : Flit),
    s.firstFlit q u = some f → f.kind = FlitKind.drain → f.crossed = true →
    exec (.queueDrainMark q u) s
      = .next (State.endDisable { s.dropFlit f with weft := { (s.dropFlit f).weft with
          drains := s.weft.drains.filter (fun d => !(d.1 == q && d.2.1 == u)) } } q)) ∧
  (∀ (s : State) (q u tick : Nat),
    s.weft.drains.find? (fun d => d.1 == q && d.2.1 == u) = some (q, u, tick) → spansNs (s.tb.count - tick) 10000 = true →
    exec (.drainMarkResend q u) s = .next (s.sendDrain q u)) ∧
  (∀ (s : State) (i mhz : Nat) (t : State) (x : FloorWatch),
    i < 83 → t = (s.sf PM_ISLAND_FREQ_CUR_MHZ i mhz).sf PM_ISLAND_FMIN_MIN_MHZ i (min mhz (s.rf PM_ISLAND_FMIN_MIN_MHZ i)) →
    x = (Tab.get FloorWatch.idle s.weft.floors i).measured s.tb.count mhz (t.targetMhz i) →
    exec (.clockFloor i mhz) s
      = .next (if x.due s.tb.count then
          State.raise { t with weft := { t.weft with floors := t.weft.floors.set i { x with raised := true } } } evClockFloor i
        else { t with weft := { t.weft with floors := t.weft.floors.set i x } }))

/-- The time base's steps, its synchronization states and its references: each command completes with its own effect. -/
def Obligations.TimeSynchronizationFollowsItsStates : Prop :=
  (∀ (s : State) (d : Word), s.islandStops 80 = false → s.anyRunning = false → exec (.tbStep unitThimble d) s = .next (s.stepCount d.toInt)) ∧
  (∀ (s : State) (d : Word), s.islandStops 80 = false → s.anyRunning = true →
    exec (.tbStep unitThimble d) s = .next ((s.sf TB_STATUS_STEP_DENIED 0 1).raise evTbStep)) ∧
  (∀ (s : State) (e : Int), s.ob oTIME_SOURCE ≠ 0 → s.ob oTIME_SOURCE ≠ 3 → s.sync ≠ locked → e.natAbs ≤ 122880 →
    exec (.syncSourceValid e) s = .next ((s.enterSync acquiring).servoUpdate e)) ∧
  (∀ (s : State), s.ob oTIME_SOURCE ≠ 3 → s.sync = acquiring →
    ∃ t, exec .syncSourceLost s = .next t ∧ t.sync = freerun ∧ t.Pending evTimeState ∧ t.tb.stepWaiting = none) ∧
  (∀ (s : State), s.ob oTIME_SOURCE ≠ 3 → s.sync = locked →
    ∃ t, exec .syncSourceLost s = .next t ∧ t.sync = holdover ∧ t.Pending evTimeState) ∧
  (∀ (s : State) (k : Nat), s.sync = acquiring → s.ob oTIME_SOURCE ≠ 3 → s.tb.stepWaiting = none →
    s.tb.within = some k → k + 60 * ticksPerSecond ≤ s.tb.count →
    exec .syncLocked s = .next (s.enterSync locked)) ∧
  (∀ (s : State), s.sync = holdover → s.tb.stateSince + s.ob oTIME_HOLDOVER_LIMIT_S * ticksPerSecond ≤ s.tb.count →
    exec .holdoverExpired s = .next (s.enterSync holdoverExpired)) ∧
  (∀ (s : State) (v : Nat), v ≤ 3 → v ≠ 0 → s.ob oTIME_SOURCE = 3 →
    ∃ t, exec (.hostStateWrite v) s = .next t ∧ t.sync = v ∧ t.tb.hostStateTick = some s.tb.count) ∧
  (∀ (s : State) (k : Nat), s.tb.hostStateTick = some k → s.ob oTIME_SOURCE = 3 → k + 2 * ticksPerSecond ≤ s.tb.count →
    ∃ t, exec .hostStateTimeout s = .next t ∧ t.Pending evTimeState ∧ t.tb.hostStateTick = none) ∧
  (∀ (s : State) (e : Int), s.tb.stepWaiting.isSome = true → s.anyRunning = false →
    exec (.deferredStep e) s = .next (((s.setTb { s.tb with stepWaiting := none }).stepCount (-e)).servoUpdate 0)) ∧
  (∀ (s : State), s.tb.sysrefLost = false →
    ∃ t, exec .sysrefLost s = .next t ∧ t.bit TB_STATUS_FALLBACK = true ∧ t.Pending evSysrefLost ∧ t.tb.sysrefLost = true) ∧
  (∀ (s : State), s.tb.sysrefLost = true →
    exec .sysrefReturn s = .next (s.setTb { s.tb with sysrefBack := true })) ∧
  (∀ (s : State) (lags : List (Nat × Nat)), s.tb.sysrefBack = true →
    (s.countTick lags).bit TB_STATUS_FALLBACK = false ∧ (s.countTick lags).tb.sysrefLost = false) ∧
  (∀ (s : State), exec .laneReferenceLost s = .next (s.setTb { s.tb with laneRefLost := true })) ∧
  (∀ (s : State), ∃ t, exec .ppsOutEdge s = .next t ∧ t.tb.ppsOut = (decide (2 ≤ s.sync) &&
    (s.tb.count % ticksPerSecond == 0 || s.tb.ppsOut) &&
    decide (s.tb.count % ticksPerSecond * 100 < s.ob oTIME_PPS_OUT_WIDTH_US * 12288))) ∧
  (∀ (s : State) (sub : Nat), sub < 16 → s.tb.count < 2 ^ 60 →
    ∃ t, exec (.ppsInEdge sub) s = .next t ∧ t.rf TB_PPS_IN_TS_TICKS = s.tb.count ∧ t.rf TB_PPS_IN_TS_SUB = sub) ∧
  (∀ (s : State), s.ob oTIME_SOURCE = 2 → s.tb.ppsInLost = false →
    max (s.tb.ppsInTick.getD 0) s.tb.sourceTick + 11 * ticksPerSecond / 10 ≤ s.tb.count →
    exec .ppsInLost s = .next (((s.setTb { s.tb with ppsInLost := true }).raise evPpsInLost).loseSource)) ∧
  (∀ (s : State) (st : Nat), st ≤ 4 → s.sync ≠ st → (s.enterSync st).sync = st ∧ (s.enterSync st).Pending evTimeState)

/-- A reference period, carrier timers, comparators and time-of-day messages: each command completes with its own effect. -/
def Obligations.TimeBaseTimersAndComparatorsAct : Prop :=
  (∀ (s : State) (lags : List (Nat × Nat)), s.tb.count + 2 < 2 ^ 64 → s.tb.frac < 2 ^ 44 → -2 ^ 44 ≤ s.adj → s.adj < 2 ^ 44 →
    ∃ t, exec (.timeBaseReferencePeriod lags) s = .next t ∧
      (2 ^ 44 * (t.tb.count : Int) + t.tb.frac = 2 ^ 44 * ((s.tb.count : Int) + 1) + s.tb.frac + s.adj) ∧
      ∀ i, t.tb.count - t.replica i ≤ 8 ∧ s.replica i ≤ t.replica i) ∧
  (∀ (s : State) (m : List Byte), todGood m = true →
    (∀ e, s.tb.ppsInTick = some e → s.tb.count ≤ e + 9 * ticksPerSecond / 10 ∧ e + ticksPerSecond / 10 ≤ s.tb.count) →
    exec (.todRxMessage m) s = .next (s.setTb { s.tb with todBad := 0, todSeen := true })) ∧
  (∀ (s : State) (m : List Byte), todGood m = false → s.tb.todBad < 2 ∨ s.ob oTIME_SOURCE ≠ 2 →
    ∃ t, exec (.todRxMessage m) s = .next t ∧ t.tb.todBad = s.tb.todBad + 1 ∧ t.Pending evTodError) ∧
  (∀ (s : State) (e : Nat), s.tb.ppsInTick = some e → s.tb.todSeen = false → e + 9 * ticksPerSecond / 10 ≤ s.tb.count →
    s.tb.todBad < 2 ∨ s.ob oTIME_SOURCE ≠ 2 → ∃ t, exec .todMessageMissing s = .next t ∧ t.tb.todBad = s.tb.todBad + 1 ∧ t.Pending evTodError) ∧
  (∀ (s : State), s.tb.todSent ≠ some (s.tb.count / ticksPerSecond) →
    ticksPerSecond / 10 ≤ s.tb.count % ticksPerSecond → s.tb.count % ticksPerSecond ≤ 9 * ticksPerSecond / 10 →
    ∃ t m, exec .todTxMessage s = .next t ∧ t.out = .todTx m :: s.out ∧ m.length = 16 ∧
      t.tb.todSent = some (s.tb.count / ticksPerSecond)) ∧
  (∀ (s : State) (m : List Byte), todGood m = false → 2 ≤ s.tb.todBad → s.ob oTIME_SOURCE = 2 →
    exec (.todRxMessage m) s = .next ((s.setTb { s.tb with todBad := s.tb.todBad + 1, todSeen := true }).raise
      evTodError).loseSource) ∧
  (∀ (s : State) (u c : Nat) (v : Half), c < 64 → s.islandStops 80 = false → s.mayWriteCar u c = true →
    s.bit TM_CAR_CFG_ENABLE c = false →
    exec (.carrierTimerConfig u c 0 v) s = .next (((((s.sf TM_CAR_CFG_ENABLE c (v.toNat / 2 ^ 31)).sf TM_CAR_CFG_SLOT_EVENT c
      (v.toNat / 2 ^ 30)).sf TM_CAR_CFG_TYPE c (v.toNat / 2 ^ 24)).sf TM_CAR_CFG_ECP c (v.toNat / 2 ^ 23)).setCarrier c
      { s.carrier c with written := true }) ∧
    exec (.carrierTimerConfig u c 1 v) s
      = .next ((s.sf TM_CAR_OFFSET_OFFSET c v.toNat).setCarrier c { s.carrier c with written := true })) ∧
  (∀ (s : State) (c : Nat), (s.carrier c).written = true → s.bit TM_CAR_CFG_ENABLE c = true → (s.carrier c).on = false →
    s.rf TM_CAR_CFG_TYPE c < 6 → (s.bit TM_CAR_CFG_ECP c = true → s.rf TM_CAR_CFG_TYPE c = 2 ∨ s.rf TM_CAR_CFG_TYPE c = 5) →
    s.rf TM_CAR_OFFSET_OFFSET c < frameTicks →
    s.takeCarrier c = State.rescheduleAll (s.setCarrier c ⟨true, s.bit TM_CAR_CFG_SLOT_EVENT c, s.rf TM_CAR_CFG_TYPE c,
      s.bit TM_CAR_CFG_ECP c, s.rf TM_CAR_OFFSET_OFFSET c, false, s.tb.count, none, none⟩) c) ∧
  (∀ (s : State) (c : Nat), (s.carrier c).written = true → s.bit TM_CAR_CFG_ENABLE c = true → (s.carrier c).on = false →
    6 ≤ s.rf TM_CAR_CFG_TYPE c ∨ (s.bit TM_CAR_CFG_ECP c = true ∧ s.rf TM_CAR_CFG_TYPE c ≠ 2 ∧ s.rf TM_CAR_CFG_TYPE c ≠ 5) ∨
      frameTicks ≤ s.rf TM_CAR_OFFSET_OFFSET c →
    (s.takeCarrier c).Pending evTimerConfig ∧ (s.takeCarrier c).bit TM_CAR_CFG_ENABLE c = false) ∧
  (∀ (s : State) (c : Nat), c < 64 → (s.carrier c).on = true → (s.carrier c).start = none →
    s.carStart c ≤ s.tb.count →
    exec (.carrierTimerStart c) s = .next (s.setCarrier c { s.carrier c with start := some (s.carStart c) })) ∧
  (∀ (s : State) (c : Nat), c < 64 → (s.carrier c).on = true → (s.carrier c).slotEvent = true →
    (s.carrier c).start.isSome = true → (s.carrier c).lastSlot ≠ some (s.slotStart c) →
    exec (.carrierSlotStart c) s
      = .next ((s.setCarrier c { s.carrier c with lastSlot := some (s.slotStart c) }).raise (evCarrierSlot c))) ∧
  (∀ (s : State) (u n : Nat) (v : Word), n < 1024 → s.islandStops 80 = false → s.mayWriteCmp u n = true →
    exec (.comparatorWrite u n 0 v) s
      = .next ((s.sf TM_CMP_MATCH_MATCH n v.toNat).setCmp n { s.cmp n with matched := true }) ∧
    exec (.comparatorWrite u n 1 v) s
      = .next ((s.sf TM_CMP_PERIOD_PERIOD n v.toNat).setCmp n { s.cmp n with other := true }) ∧
    exec (.comparatorWrite u n 2 v) s
      = .next ((s.sf TM_CMP_SEL_SYMBOL_MASK n v.toNat).setCmp n { s.cmp n with other := true }) ∧
    exec (.comparatorWrite u n 3 v) s
      = .next ((s.sf TM_CMP_OFFSET_OFFSET n v.toNat).setCmp n { s.cmp n with other := true })) ∧
  (∀ (s : State) (u n : Nat) (v : Half), n < 1024 → s.islandStops 80 = false → s.mayWriteCmp u n = true →
    exec (.comparatorArm u n v) s
      = .next ((((((((s.sf TM_CMP_CTRL_MODE n ((v.toNat % 2 ^ 31 + 2 ^ 31) / 2 ^ 29)).sf TM_CMP_CTRL_KIND n
      ((v.toNat % 2 ^ 31 + 2 ^ 31) / 2 ^ 27)).sf TM_CMP_CTRL_ANCHOR n ((v.toNat % 2 ^ 31 + 2 ^ 31) / 2 ^ 25)).sf
      TM_CMP_CTRL_CARRIER n ((v.toNat % 2 ^ 31 + 2 ^ 31) / 2 ^ 19)).sf TM_CMP_CTRL_TARGET n (v.toNat % 2 ^ 31 + 2 ^ 31)).sf
      TM_CMP_CTRL_ARM n ((v.toNat % 2 ^ 31 + 2 ^ 31) / 2 ^ 31)).setCmp n { s.cmp n with ctrl := true }))) ∧
  (∀ (s : State) (n : Nat), (s.cmp n).ctrl = true → s.bit TM_CMP_CTRL_ARM n = true →
    s.takeCmp n = State.arm (s.setCmp n { s.cmp n with
      arm := true, mode := s.rf TM_CMP_CTRL_MODE n, kind := s.rf TM_CMP_CTRL_KIND n, anchor := s.rf TM_CMP_CTRL_ANCHOR n,
      carrier := s.rf TM_CMP_CTRL_CARRIER n, target := s.rf TM_CMP_CTRL_TARGET n,
      due := if (s.cmp n).matched then s.rf TM_CMP_MATCH_MATCH n else (s.cmp n).due,
      period := s.rf TM_CMP_PERIOD_PERIOD n, mask := s.rf TM_CMP_SEL_SYMBOL_MASK n, offset := s.rf TM_CMP_OFFSET_OFFSET n,
      ctrl := false, matched := false, other := false }) n) ∧
  (∀ (s : State) (n : Nat), s.armValid n = true → (s.cmp n).mode < 2 → deadlinePassed (s.cmp n).due s.now = false →
    s.arm n = (s.sf TM_CMP_STAT_SKIPPED n 0).setCmp n { s.cmp n with
      armedAt := s.tb.count, next := none, lastBoundary := none }) ∧
  (∀ (s : State) (n : Nat), s.armValid n = false →
    (s.arm n).Pending evTimerConfig ∧ ((s.arm n).cmp n).arm = false) ∧
  (∀ (s : State) (n : Nat), s.tb.fired < 16 → s.cmpFirst s.cmpKeys = some n → s.cmpLate n = 0 → (s.cmp n).kind = 0 →
    (s.cmp n).mode = 0 → s.comparatorOwner n = none →
    exec .comparatorFire s
      = .next (((s.raise evComparator n).setTb { s.tb with fired := s.tb.fired + 1 }).clearArm n)) ∧
  (∀ (s : State), 16 ≤ s.tb.fired → exec .comparatorFire s = .next s)

/-- The Shuttle's staging, triggers, cancellations, dispatch, reports and records: each command completes with its own effect. -/
def Obligations.ShuttleCommandsComplete : Prop :=
  (∀ (s w x y : State) (k : Nat) (e : List Carried) (j : Job),
    s.stepMay 2 = true → s.nextSq = some k →
    w = (s.markStep 2).setSh { (s.markStep 2).sh with next := (k + 1) % 128 } →
    w.popQueue (w.rf SH_SQ_CFG_SQ k) unitShuttle = (.entry e, x) →
    j = Job.staged x.sh.nextJob (k / 16) (k % 16) (x.rf SH_SQ_CFG_CQ k) e →
    y = x.setSh { x.sh with jobs := x.sh.jobs ++ [j], nextJob := x.sh.nextJob + 1 } →
    x.sh.rejecting.contains k = false → j.endOfPlan = false →
    ((y.modJob j.id (fun i => { i with early := y.stagingCode i (argsOk y i) })).plan (k / 16) (k % 16)).length
      < y.ob oSHUTTLE_P_MAX_PENDING (k / 16) →
    exec .descriptorStage s = .next (y.modJob j.id (fun i => { i with early := y.stagingCode i (argsOk y i) }))) ∧
  (∀ (s : State) (t d : Nat), s.stepMay 3 = true → shuttleTrigger s.tb.triggers = some (t, d) →
    exec .shuttleTriggerFire s
      = .next (State.fireTrigger { s.markStep 3 with tb := { s.tb with triggers := s.tb.triggers.erase (.shuttle t d) } } t)) ∧
  (∀ (s : State) (u p : Nat) (v : Half), s.islandStops weftIsland = false → s.mayWritePart u p = true → s.triggerOwner (v.toNat % 1024) = some p →
    exec (.shTriggerWrite u p v) s
      = .next { s with tb := { s.tb with triggers := s.tb.triggers ++ [.shuttle (v.toNat % 1024) s.now] } }) ∧
  (∀ (s : State) (u p : Nat) (v : Word), s.islandStops weftIsland = false → s.mayWritePart u p = true →
    exec (.shCancel u p v) s
      = .next (s.setSh { s.sh with
          cancels := s.sh.cancels ++ [(p, v.toNat / 2 ^ 32 % 2 ^ 32, v.toNat % 2 ^ 32)] })) ∧
  (∀ (s : State) (p v m : Nat) (r : List (Nat × Nat × Nat)), s.stepMay 4 = true → s.sh.cancels = (p, v, m) :: r →
    exec .jobCancel s = .next (((s.markStep 4).setSh { (s.markStep 4).sh with cancels := r }).cancelJobs p v m)) ∧
  (∀ (s x : State) (j : Job) (u : Nat), x = s.markStep 6 → s.dispatchesNow < 4 → s.stepMay 6 = true →
    s.bestJob s.sh.jobs = some (j, u) → s.inputsStop j = none →
    exec .jobDispatch s
      = .next ((x.setSh { x.sh with dispatchTick := s.shTick, dispatchCount := s.dispatchesNow + 1 }).dispatch j u)) ∧
  (∀ (s : State) (j : Job) (id : Nat), s.stepMay 5 = true → s.job id = some j → s.dropDue j (s.jobSlack j) = true →
    j.phase = .waiting ∨ j.phase = .ready →
    exec (.jobLateCheck id) s = .next (((s.markStep 5).endJob j.id codeDroppedLate (s.markStep 5).shTick false).settle)) ∧
  (∀ (s : State) (j : Job) (id : Nat), s.stepMay 5 = true → s.job id = some j → s.dropDue j (s.jobSlack j) = true →
    j.phase = .staged → j.early = none →
    exec (.jobLateCheck id) s
      = .next ((s.markStep 5).modJob j.id (fun i => { i with early := some codeDroppedLate }))) ∧
  (∀ (s : State) (j : Job) (id : Nat), s.stepMay 5 = true → s.job id = some j → s.dropDue j (s.jobSlack j) = true →
    j.phase = .running → j.abandoned = false → exec (.jobLateCheck id) s = .next ((s.markStep 5).abandonJob j)) ∧
  (∀ (s x : State) (id : Nat) (r : List Nat), x = s.markStep 1 → s.stepMay 1 = true → s.sh.reports = id :: r →
    s.reportsNow < 4 →
    exec .jobCompletionReport s
      = .next (((x.setSh { x.sh with reports := r, reportTick := x.shTick, reportCount := s.reportsNow + 1 }).processReport
          id).settle)) ∧
  (∀ (s : State) (j : Job), s.nextRecord = some j → exec .completionRecordPush s = .next (s.pushRecord j)) ∧
  (∀ (s x : State) (u k : Nat) (v : Word), s.islandStops weftIsland = false → s.mayWritePart u (k / 16) = true →
    s.bit SH_SQ_CFG_ENABLE k = false →
    x = (s.sf SH_SQ_CFG_CQ k ((v ||| 0x8000000000000000).toNat / 2 ^ 16)).sf SH_SQ_CFG_SQ k
      (v ||| 0x8000000000000000).toNat →
    exec (.sqEnable u k v) s = .next (
      if x.inRange (k / 16) (x.rf SH_SQ_CFG_SQ k) && x.inRange (k / 16) (x.rf SH_SQ_CFG_CQ k)
          && x.bit QM_QCFG_ENABLE (x.rf SH_SQ_CFG_SQ k) && x.bit QM_QCFG_ENABLE (x.rf SH_SQ_CFG_CQ k)
          && x.rf QM_QCFG_CONSUMER (x.rf SH_SQ_CFG_SQ k) == unitShuttle then
        (x.sf SH_SQ_CFG_ENABLE k 1).sf SH_SQ_CFG_ERROR k 0
      else (x.sf SH_SQ_CFG_ERROR k 1).shEvent (k / 16) 0)) ∧
  (∀ (s x : State) (u k : Nat) (v : Word), s.islandStops weftIsland = false → s.mayWritePart u (k / 16) = true →
    s.bit SH_SQ_CFG_ENABLE k = true →
    x = (s.sf SH_SQ_CFG_ENABLE k 0).setSh { s.sh with rejecting := s.sh.rejecting.filter (fun i => i != k) } →
    exec (.sqDisable u k v) s = .next ((x.endPlan (k / 16) (k % 16) codeAborted).settle))

/-- The Shuttle's forecasts and its offers to bolt peers: each command completes with its own effect. -/
def Obligations.ForecastsAndOffersComplete : Prop :=
  (∀ (s : State) (i : Nat) (v : Option Nat), i < 72 → s.sh.sent.find? (fun e => e.1 == i) = none →
    v = (s.nextUse i).map (fun d => s.shTick + d) →
    exec (.forecastSend i) s
      = .next (s.setSh { s.sh with sent := s.sh.sent.set i (v, s.shTick), forecasts := s.sh.forecasts ++ [(i, v)] })) ∧
  (∀ (s : State) (j : Job) (order : List Nat), s.sh.jobs.find? s.offerable = some j →
    order = (s.peers.filter (fun n => !s.offersSuspended n)).foldr
      (insertBySpare (fun n => Tab.get 0 s.sh.adverts (n * 8 + (j.accType.map accTypeIndex).getD 0))) [] →
    order ≠ [] →
    exec .offerSend s
      = .next (order.foldl (fun t n => t.post n (.offer j.id j.desc (s.inputsOf j))) (s.modJob j.id (fun j =>
          { j with offeredOnce := true, offerUntil := some (s.shTick + s.ob oSHUTTLE_OFFER_TIMEOUT_TICKS) })))) ∧
  (∀ (s : State) (n k u : Nat) (d : List Carried) (l : List (List Carried)) (t : AccType) (us : List Nat),
    s.seam.arrivals = [(n, .offer k d l)] → (Job.staged 0 0 0 0 d).accType = some t →
    State.offersOn (s.setSeam { s.seam with arrivals := [] }) = true →
    State.offersSuspended (s.setSeam { s.seam with arrivals := [] }) n = false →
    0 < State.spareOf (s.setSeam { s.seam with arrivals := [] }) t →
    State.freeAcc (s.setSeam { s.seam with arrivals := [] }) t = u :: us →
    exec .offerReceive s
      = .next (State.post (State.setSh (s.setSeam { s.seam with arrivals := [] }) { s.sh with
          reservations := s.sh.reservations ++
            [⟨n, k, u, (s.setSeam { s.seam with arrivals := [] }).shTick + s.ob oSHUTTLE_OFFER_TIMEOUT_TICKS, d, l,
              argsOk (s.setSeam { s.seam with arrivals := [] }) (Job.staged 0 (8 + n) 0 0 d), false⟩] }) n (.offerAccept k))) ∧
  (∀ (s x : State) (n k until_ : Nat) (j : Job), s.stepMay 7 = true → s.seam.arrivals = [(n, .offerAccept k)] →
    x = s.setSeam { s.seam with arrivals := [] } → x.job k = some j → j.phase = .ready → j.offerUntil = some until_ →
    x.shTick ≤ until_ → x.atHead j = true →
    exec .offerAccept s
      = .next (((((x.incf SH_OFFERED_COUNT_COUNT j.part).takeInputs j).modJob k (fun i => { i with
          phase := .running, unit := 0x900 + n, attempts := i.attempts + 1, dispatchTick := x.shTick, peer := some n,
          offerUntil := none })).post n (.offerTake k)).settle)) ∧
  (∀ (s x : State) (n k : Nat), s.stepMay 7 = true → s.seam.arrivals = [(n, .offerAccept k)] →
    x = s.setSeam { s.seam with arrivals := [] } → x.job k = none →
    exec .offerAccept s = .next (x.post n (.offerWithdraw k))) ∧
  (∀ (s : State), exec .offerTimeout s
    = .next (s.setSh { s.sh with
        jobs := s.sh.jobs.map (fun j => match j.offerUntil with
          | some u => if u < s.shTick then { j with offerUntil := none } else j
          | none => j)
        reservations := s.sh.reservations.filter (fun r => r.started || decide (s.shTick ≤ r.untilTick)) })) ∧
  (∀ (s : State), s.offersOn = true → s.seam.advertTick = none →
    exec .offerAdvertise s
      = .next (s.peers.foldl (fun t n => t.post n (.advert (accTypes.map s.spareOf)))
          (s.setSeam { s.seam with advertTick := some s.tb.count })))

/-- Who may write a queue context, what a write of an enabled queue's context does, and how a queue is enabled and disabled. -/
def Obligations.QueueContextsAreWrittenAsTheRuleSays : Prop :=
  (evQueueConfig = 0x05C2) ∧
  (∀ (s : State) (u q d g c b : Nat) (r : RegDef), r.is QM_QBASE_BASE = true → s.writeReg u r q b = s.writeQbase u q b) ∧
  (∀ (s : State) (u q d g c b : Nat), s.islandStops weftIsland = false → isThimble u = false →
    ((∀ p, s.queueOwner q = some p → s.isHostOf u p = false) ∨ s.queueOwner q = none) →
    exec (.queueEnable u q d g c) s = .next s ∧ exec (.queueDisable u q d g c) s = .next s ∧ s.writeQbase u q b = s) ∧
  (∀ (s : State) (u q d g c b : Nat), s.islandStops weftIsland = false →
    (isThimble u = true ∨ ∃ p, s.queueOwner q = some p ∧ s.isHostOf u p = true) → s.bit QM_QCFG_ENABLE q = true →
    ((d % 16, g % 16, c % 4096) ≠ (s.rf QM_QCFG_DEPTH_LOG2 q, s.rf QM_QCFG_GRANT_LOG2 q, s.rf QM_QCFG_CONSUMER q) →
      exec (.queueEnable u q d g c) s = .next (s.raise 0x05C2 q) ∧
      exec (.queueDisable u q d g c) s = .next (s.raise 0x05C2 q)) ∧
    ((d % 16, g % 16, c % 4096) = (s.rf QM_QCFG_DEPTH_LOG2 q, s.rf QM_QCFG_GRANT_LOG2 q, s.rf QM_QCFG_CONSUMER q) →
      exec (.queueEnable u q d g c) s = .next s ∧
      (s.bit QM_QSTAT_DISABLING q = false → exec (.queueDisable u q d g c) s = .next (s.beginDisable q))) ∧
    (bitsOf b 47 6 ≠ s.rf QM_QBASE_BASE q → s.writeQbase u q b = s.raise 0x05C2 q) ∧
    (bitsOf b 47 6 = s.rf QM_QBASE_BASE q → s.writeQbase u q b = s)) ∧
  (∀ (s : State) (u q d g c b : Nat), s.islandStops weftIsland = false →
    (isThimble u = true ∨ ∃ p, s.queueOwner q = some p ∧ s.isHostOf u p = true) → s.bit QM_QCFG_ENABLE q = false →
    ∀ t, t = ((s.sf QM_QCFG_DEPTH_LOG2 q (d % 16)).sf QM_QCFG_GRANT_LOG2 q (g % 16)).sf QM_QCFG_CONSUMER q (c % 4096) →
      exec (.queueDisable u q d g c) s = .next t ∧
      (t.queueValid q (t.queueShape q) = false → exec (.queueEnable u q d g c) s = .next (t.raise 0x05C2 q)) ∧
      (∀ x, t.queueValid q (t.queueShape q) = true →
        x = (t.portsOf q).foldl (fun s u => s.setPort q u { s.port q u with granted := false }) t →
        exec (.queueEnable u q d g c) s = .next ((((((x.sf QM_QPTR_HEAD q 0).sf QM_QPTR_TAIL q 0).sf QM_QCREDIT_AVAIL q
          (x.depth q)).sf QM_QCREDIT_HELD q 0).sf QM_QCFG_ENABLE q 1).serve q)) ∧
      (bitsOf b 47 6 ≠ s.rf QM_QBASE_BASE q → s.writeQbase u q b = s.sf QM_QBASE_BASE q (bitsOf b 47 6)))

/-- A deadline less than 2^47 ticks ahead modulo 2^48 lies ahead by that many ticks; any other passed 2^48 - diff ticks ago. -/
def Obligations.DeadlinesAreComparedModulo48Bits : Prop :=
  ∀ (d now : Nat), d < 2 ^ 48 →
    ((deadlineDiff d now : Int) = ((d : Int) - (now : Int)) % 2 ^ 48) ∧
    (deadlineDiff d now < 2 ^ 47 → deadlinePassed d now = false ∧ d = (now + deadlineDiff d now) % 2 ^ 48 ∧
      slack d now = deadlineDiff d now) ∧
    (deadlineDiff d now = 0 ↔ d = now % 2 ^ 48) ∧
    (2 ^ 47 ≤ deadlineDiff d now → deadlinePassed d now = true ∧
      (d + (2 ^ 48 - deadlineDiff d now)) % 2 ^ 48 = now % 2 ^ 48 ∧
      slack d now = -((2 ^ 48 - deadlineDiff d now : Nat) : Int))

/-- Window and start registers take writes only while their engine is in HELD or HALTED; a window without RD and W matches nothing. -/
def Obligations.EngineWindowsAndStartTakeWritesOnlyWhileStopped : Prop :=
  (∀ (s : State) (u i v : Nat) (r : RegDef),
    (r.is ENG_START_PC_PC = true → (s.eng i).state ≠ .held → (s.eng i).state ≠ .halted → s.writeReg u r i v = s) ∧
    (r.is ENG_WIN_BASE_BASE = true ∨ r.is ENG_WIN_LIMIT_LAST = true → (s.eng (i / 8)).state ≠ .held →
      (s.eng (i / 8)).state ≠ .halted → s.writeReg u r i v = s) ∧
    (r.is ENG_START_PC_PC = true → (s.eng i).state = .held ∨ (s.eng i).state = .halted → s.mayWriteReg u r i v = true →
      s.writeReg u r i v = s.writeFields r.flds i v) ∧
    (r.is ENG_WIN_BASE_BASE = true ∨ r.is ENG_WIN_LIMIT_LAST = true → (s.eng (i / 8)).state = .held ∨
      (s.eng (i / 8)).state = .halted → s.mayWriteReg u r i v = true → s.writeReg u r i v = s.writeFields r.flds i v)) ∧
  (∀ (base last a n : Nat) (write : Bool), windowGrants base last false false a n write = false)

/-- Each scalar arithmetic and immediate instruction writes its result to gd, retires, and changes nothing else. -/
def Obligations.ScalarArithmeticWritesItsRegister : Prop :=
  ∀ (s : State) (g : Nat) (e : Engine) (d a b : BitVec 5) (imm : BitVec 16) (n : BitVec 6) (hw : BitVec 2) (x y : Word),
    s.runsElryn g → e = s.eng g → x = e.reg a → y = e.reg b →
    exec (.iAdd g d a b) s = .next (s.retireAt g (e.setReg d (x + y)) (e.pc + 4)) ∧
    exec (.iSub g d a b) s = .next (s.retireAt g (e.setReg d (x - y)) (e.pc + 4)) ∧
    exec (.iAnd g d a b) s = .next (s.retireAt g (e.setReg d (x &&& y)) (e.pc + 4)) ∧
    exec (.iOr g d a b) s = .next (s.retireAt g (e.setReg d (x ||| y)) (e.pc + 4)) ∧
    exec (.iXor g d a b) s = .next (s.retireAt g (e.setReg d (x ^^^ y)) (e.pc + 4)) ∧
    exec (.iSll g d a b) s = .next (s.retireAt g (e.setReg d (x <<< (y.toNat % 64))) (e.pc + 4)) ∧
    exec (.iSrl g d a b) s = .next (s.retireAt g (e.setReg d (x >>> (y.toNat % 64))) (e.pc + 4)) ∧
    exec (.iSra g d a b) s = .next (s.retireAt g (e.setReg d (x.sshiftRight (y.toNat % 64))) (e.pc + 4)) ∧
    exec (.iSlt g d a b) s = .next (s.retireAt g (e.setReg d (if x.slt y then 1 else 0)) (e.pc + 4)) ∧
    exec (.iSltu g d a b) s = .next (s.retireAt g (e.setReg d (if x.ult y then 1 else 0)) (e.pc + 4)) ∧
    exec (.iMin g d a b) s = .next (s.retireAt g (e.setReg d (if x.slt y then x else y)) (e.pc + 4)) ∧
    exec (.iMax g d a b) s = .next (s.retireAt g (e.setReg d (if x.slt y then y else x)) (e.pc + 4)) ∧
    exec (.iMinu g d a b) s = .next (s.retireAt g (e.setReg d (if x.ult y then x else y)) (e.pc + 4)) ∧
    exec (.iMaxu g d a b) s = .next (s.retireAt g (e.setReg d (if x.ult y then y else x)) (e.pc + 4)) ∧
    exec (.iMul g d a b) s = .next (s.retireAt g (e.setReg d (x * y)) (e.pc + 4)) ∧
    exec (.iMulh g d a b) s = .next (s.retireAt g (e.setReg d (BitVec.ofInt 64 (x.toInt * y.toInt / 2 ^ 64))) (e.pc + 4)) ∧
    exec (.iMulhu g d a b) s = .next (s.retireAt g (e.setReg d (BitVec.ofNat 64 (x.toNat * y.toNat / 2 ^ 64))) (e.pc + 4)) ∧
    exec (.iAddi g d a imm) s = .next (s.retireAt g (e.setReg d (x + imm.signExtend 64)) (e.pc + 4)) ∧
    exec (.iAndi g d a imm) s = .next (s.retireAt g (e.setReg d (x &&& imm.setWidth 64)) (e.pc + 4)) ∧
    exec (.iOri g d a imm) s = .next (s.retireAt g (e.setReg d (x ||| imm.setWidth 64)) (e.pc + 4)) ∧
    exec (.iXori g d a imm) s = .next (s.retireAt g (e.setReg d (x ^^^ imm.setWidth 64)) (e.pc + 4)) ∧
    exec (.iSlti g d a imm) s = .next (s.retireAt g (e.setReg d (if x.slt (imm.signExtend 64) then 1 else 0)) (e.pc + 4)) ∧
    exec (.iSltiu g d a imm) s = .next (s.retireAt g (e.setReg d (if x.ult (imm.signExtend 64) then 1 else 0)) (e.pc + 4)) ∧
    exec (.iSlli g d a n) s = .next (s.retireAt g (e.setReg d (x <<< n.toNat)) (e.pc + 4)) ∧
    exec (.iSrli g d a n) s = .next (s.retireAt g (e.setReg d (x >>> n.toNat)) (e.pc + 4)) ∧
    exec (.iSrai g d a n) s = .next (s.retireAt g (e.setReg d (x.sshiftRight n.toNat)) (e.pc + 4)) ∧
    exec (.iLis g d imm hw) s = .next (s.retireAt g (e.setReg d (imm.signExtend 64 <<< (16 * hw.toNat))) (e.pc + 4)) ∧
    exec (.iLik g d imm hw) s = .next (s.retireAt g (e.setReg d ((e.reg d &&& ~~~((0xFFFF : Word) <<< (16 * hw.toNat))) ||| (imm.setWidth 64 <<< (16 * hw.toNat)))) (e.pc + 4))

/-- Branches, jumps, special-register moves and the system group of an Elryn engine complete with their own effect. -/
def Obligations.ControlInstructionsGoWhereTheRulesSay : Prop :=
  ∀ (s : State) (g : Nat) (e : Engine) (d a b : BitVec 5) (off : BitVec 16) (far : BitVec 26) (x y : Word),
    s.runsElryn g → e = s.eng g → x = e.reg a → y = e.reg b →
    (∀ go : Nat → State, go = (fun dst => if dst % 4 = 0 then s.retireAt g e dst else s.raiseSync g causeMisaligned dst) →
      exec (.iBeq g a b off) s = .next (if x = y then go (branchTarget e.pc off.toInt) else s.retire g e) ∧
      exec (.iBne g a b off) s = .next (if x ≠ y then go (branchTarget e.pc off.toInt) else s.retire g e) ∧
      exec (.iBlt g a b off) s = .next (if x.toInt < y.toInt then go (branchTarget e.pc off.toInt) else s.retire g e) ∧
      exec (.iBge g a b off) s = .next (if y.toInt ≤ x.toInt then go (branchTarget e.pc off.toInt) else s.retire g e) ∧
      exec (.iBltu g a b off) s = .next (if x.toNat < y.toNat then go (branchTarget e.pc off.toInt) else s.retire g e) ∧
      exec (.iBgeu g a b off) s = .next (if y.toNat ≤ x.toNat then go (branchTarget e.pc off.toInt) else s.retire g e) ∧
      exec (.iJ g far) s = .next (go (branchTarget e.pc far.toInt)) ∧
      exec (.iJr g a) s = .next (go (x.toNat % 2 ^ 15))) ∧
    (∀ go : BitVec 5 → Nat → State, go = (fun r dst => if dst % 4 = 0
        then s.retireAt g (e.setReg r (BitVec.ofNat 64 ((e.pc + 4) % 2 ^ 15))) dst else s.raiseSync g causeMisaligned dst) →
      exec (.iJal g far) s = .next (go 31 (branchTarget e.pc far.toInt)) ∧
      exec (.iJalr g d a) s = .next (go d (x.toNat % 2 ^ 15))) ∧
    (∀ f : Engine, s.retire g f = s.retireAt g f (f.pc + 4)) ∧
    (e.pc % 4 = 0 → branchTarget e.pc off.toInt % 4 = 0 ∧ branchTarget e.pc far.toInt % 4 = 0) ∧
    exec (.iNop g) s = .next (s.retireAt g e (e.pc + 4)) ∧
    (s.storesDone g = true → exec (.iFence g) s = .next (s.retireAt g e (e.pc + 4))) ∧
    (s.storesDone g = false → exec (.iFence g) s = .next (s.setEng g { e with wait := .again 0 })) ∧
    exec (.iEret g) s
      = .next ((s.setEng g { e with status := e.estatus &&& statusMask, pc := e.epc, resumed := true, wait := .none }).takeAsync g) ∧
    (e.evec ≠ 0 → e.exc = false → exec (.iBreak g) s = .next ((s.squashFused g).setEng g { e with
      estatus := s.statusOf g, epc := (e.pc + 4) % 2 ^ 15, ecause := causeBreak, eaddr := 0,
      status := (e.status ||| 1) &&& ~~~(6 : BitVec 32), pc := e.evec, wait := .none, popAsked := e.asked, resumed := false, eindex := 0 })) ∧
    exec (.iSignal g) s = .next ((s.engEvent g 0x04).retireAt g e (e.pc + 4)) ∧
    (∀ z, z = s.countCycles g → e.state = .free → exec (.iWaitjob g) s = .next (z.setEng g { z.eng g with
      state := if z.bit ENG_CTRL_HALT_REQ g then .halted else .waiting, pc := ((z.eng g).pc + 4) % 2 ^ 15,
      resumed := false, wait := .none })) ∧
    (e.state = .running → e.job.isSome = true → s.pushesLanded g = true →
      exec (.iExit g a) s
        = .next (s.finishExit g (x.toNat % 256) ((e.reg 4).toNat % 2 ^ 32) (e.reg 5).toNat)) ∧
    (e.state = .running → e.job.isSome = true → s.pushesLanded g = false →
      exec (.iExit g a) s = .next (s.setEng g { e with
        wait := .exit (x.toNat % 256) ((e.reg 4).toNat % 2 ^ 32) (e.reg 5).toNat })) ∧
    (∀ v t, s.readSpecial g b = some (v, t) → exec (.iMfs g d b) s = .next (t.retire g ((t.eng g).setReg d v))) ∧
    (s.readSpecial g b = none → exec (.iMfs g d b) s = .next (s.illegal g)) ∧
    (∀ f, e.writeSpecial g b x = some f → exec (.iMts g b a) s = .next (s.retireAt g f (e.pc + 4))) ∧
    (e.writeSpecial g b x = none → exec (.iMts g b a) s = .next (s.illegal g))

/-- Scalar loads, stores and queue instructions of an Elryn engine: what each writes, and the exception of a refused access. -/
def Obligations.ScalarMemoryAndQueueInstructionsComplete : Prop :=
  ∀ (s : State) (g : Nat) (e : Engine) (sz : BitVec 2) (d b : BitVec 5) (m : AddrMode) (ea : Nat) (base : Word) (q : Nat),
    s.runsElryn g → e = s.eng g → q = (e.reg d).toNat % 65536 →
    (∀ r, s.addressAligned g b m (2 ^ sz.toNat) = .at ea base →
      s.accessFault g ea (2 ^ sz.toNat) (2 ^ sz.toNat) false = none → s.accessStops g ea (2 ^ sz.toNat) = none →
      r = s.loadBytes g ea (2 ^ sz.toNat) →
      (∀ v, r.1 = some v →
        exec (.iLd g sz d b m) s = .next (r.2.retire g (((r.2.eng g).setReg b base).setReg d (BitVec.ofInt 64
          (toSigned (8 * 2 ^ sz.toNat) v)))) ∧
        (sz ≠ 3 → exec (.iLdu g sz d b m) s
          = .next (r.2.retire g (((r.2.eng g).setReg b base).setReg d (BitVec.ofNat 64 v))))) ∧
      (r.1 = none → exec (.iLd g sz d b m) s = .next (r.2.poisonReset g)) ∧
      (∀ (c k : Nat) (w : Word), s.place (ea / 8 * 8) = .cell c k → decodeSymbols (storedSymbols s.mem c) = .clean w →
        r.1 = some (w.toNat / 2 ^ (ea % 8 * 8) % 2 ^ (8 * 2 ^ sz.toNat)) ∧ (k / 0x1000 ≠ 6 → r.2 = s))) ∧
    (∀ x, s.addressAligned g b m (2 ^ sz.toNat) = .at ea base → s.accessStops g ea (2 ^ sz.toNat) = some x →
      (s.accessFault g ea (2 ^ sz.toNat) (2 ^ sz.toNat) false = none → exec (.iLd g sz d b m) s = .next (s.holdE4 g x)) ∧
      (s.accessFault g ea (2 ^ sz.toNat) (2 ^ sz.toNat) true = none → exec (.iSt g sz d b m) s = .next (s.holdE4 g x))) ∧
    (exec (.iLdu g 3 d b m) s = .next (s.illegal g)) ∧
    (∀ r t, s.addressAligned g b m (2 ^ sz.toNat) = .at ea base →
      s.accessFault g ea (2 ^ sz.toNat) (2 ^ sz.toNat) true = none → s.accessStops g ea (2 ^ sz.toNat) = none →
      r = s.storeBytes g ea (2 ^ sz.toNat) (e.reg d).toNat → t = (if r.1 then r.2.poisonJob g else r.2) →
      exec (.iSt g sz d b m) s = .next (t.retire g ((t.eng g).setReg b base))) ∧
    (∀ c, s.addressAligned g b m (2 ^ sz.toNat) = .at ea base →
      (s.accessFault g ea (2 ^ sz.toNat) (2 ^ sz.toNat) false = some c →
        exec (.iLd g sz d b m) s = .next (s.raiseFault g c ea (2 ^ sz.toNat) false)) ∧
      (s.accessFault g ea (2 ^ sz.toNat) (2 ^ sz.toNat) true = some c →
        exec (.iSt g sz d b m) s = .next (s.raiseFault g c ea (2 ^ sz.toNat) true))) ∧
    (∀ r t, s.addressAligned g b m 8 = .at ea base → s.accessFault g ea 64 8 false = none → s.queueReach q = true →
      s.accessStops g ea 64 = none →
      r = s.readWords ea g 1 7 → t = (if r.1.any Option.isNone then r.2.poisonJob g else r.2) →
      exec (.iPush g d b m) s = .next (
        let u := t.setEng g { t.eng g with wait := .credit q b.toNat base }
        let v := u.pushEntry q g (r.1 ++ [some (u.pushTag g)])
        if !(t.port q g).stalled.isEmpty || (t.port q g).credits == 0 then v else (v.releaseEngine q g).takeAsync g)) ∧
    (s.addressAligned g b m 8 = .at ea base → s.accessFault g ea 64 8 true = none → s.aliasOf q = none →
      s.accessStops g ea 64 = none →
      (∀ w t, s.popQueue q g = (.entry w, t) →
        exec (.iPop g d b m) s = .next ((t.storeEntry g ea w).retire g
          ((((t.storeEntry g ea w).eng g).setReg b base).setReg d 1)) ∧
        exec (.iPopw g d b m) s
          = .next ((t.storeEntry g ea w).retire g (((t.storeEntry g ea w).eng g).setReg b base))) ∧
      (∀ t, s.popQueue q g = (.empty, t) →
        exec (.iPop g d b m) s = .next (t.retire g (((t.eng g).setReg b base).setReg d 0)) ∧
        exec (.iPopw g d b m) s
          = .next ((t.setEng g { t.eng g with wait := .entry q ea b.toNat base }).takeAsync g)) ∧
      (∀ t, s.popQueue q g = (.stalled, t) →
        exec (.iPop g d b m) s = .next (t.setEng g { e with wait := .again 0 }) ∧
        exec (.iPopw g d b m) s = .next (t.setEng g { e with wait := .again 0 })) ∧
      (∀ t, s.popQueue q g = (.denied, t) →
        exec (.iPop g d b m) s = .next (s.raiseSync g causeAccess ea) ∧
        exec (.iPopw g d b m) s = .next (s.raiseSync g causeAccess ea)))

/-- The accumulator and search instructions of an Elryn engine complete; MACR and MSUR saturate each accumulator at 40 bits. -/
def Obligations.AccumulatorsAndSearchesComplete : Prop :=
  (∀ (s : State) (g : Nat) (e : Engine) (d a b : BitVec 5) (k : BitVec 2) (n : BitVec 5) (wide pair : Bool)
      (mask : BitVec 4) (x y : Word),
    s.runsElryn g → e = s.eng g → x = e.reg a → y = e.reg b →
    exec (.iMacr g a b) s = .next (s.retireAt g (e.macr 1 x y) (e.pc + 4)) ∧
    exec (.iMsur g a b) s = .next (s.retireAt g (e.macr (-1) x y) (e.pc + 4)) ∧
    exec (.iCmac g pair a b) s = .next (s.retireAt g
      (e.cmac false pair (half16 x 0) (half16 x 1) (half16 y 0) (half16 y 1)) (e.pc + 4)) ∧
    exec (.iCmacj g pair a b) s = .next (s.retireAt g
      (e.cmac true pair (half16 x 0) (half16 x 1) (half16 y 0) (half16 y 1)) (e.pc + 4)) ∧
    exec (.iAccz g mask) s = .next (s.retireAt g ((List.range 4).foldl
      (fun e k => if mask.getLsbD k then e.setAcc (BitVec.ofNat 2 k) 0 else e) e) (e.pc + 4)) ∧
    exec (.iAccx g d k n wide) s = .next (s.retireAt g ((e.setReg d (BitVec.ofInt 64
      (extractAcc e.rnd n.toNat (if wide then 32 else 16) (e.acc k)).1)).orSat
      (extractAcc e.rnd n.toNat (if wide then 32 else 16) (e.acc k)).2) (e.pc + 4)) ∧
    exec (.iCaccx g d pair n) s = .next (s.retireAt g ((e.setReg d
      ((BitVec.ofInt 16 (extractAcc e.rnd n.toNat 16 (e.acc (pairIm pair))).1
        ++ BitVec.ofInt 16 (extractAcc e.rnd n.toNat 16 (e.acc (pairRe pair))).1 : BitVec 32).signExtend 64)).orSat
      ((extractAcc e.rnd n.toNat 16 (e.acc (pairRe pair))).2 || (extractAcc e.rnd n.toNat 16 (e.acc (pairIm pair))).2))
      (e.pc + 4)) ∧
    exec (.iAccr g d k) s = .next (s.retireAt g (e.setReg d (BitVec.ofInt 64 (e.acc k))) (e.pc + 4)) ∧
    exec (.iAccw g k a) s = .next (s.retireAt g (e.setAcc k x.toInt) (e.pc + 4)) ∧
    exec (.iSrchi g a) s = .next (s.retireAt g { e with srchBase := x.setWidth 32, srchArmed := true } (e.pc + 4)) ∧
    exec (.iSmax g a) s = .next (s.retireAt g (e.search (keysOf x) searchMax) (e.pc + 4)) ∧
    exec (.iSmin g a) s = .next (s.retireAt g (e.search (keysOf x) searchMin) (e.pc + 4)) ∧
    exec (.iCmaxm g a) s = .next (s.retireAt g (e.search (magKeysOf x) searchMag) (e.pc + 4))) ∧
  (∀ (e : Engine) (sign : Int) (x y : Word) (k : BitVec 2),
    (e.macr sign x y).acc k = max (-2 ^ 39) (min (2 ^ 39 - 1) (e.acc k + sign * (half16 x k.toNat * half16 y k.toNat))) ∧
    (e.macr sign x y).g = e.g ∧ (e.macr sign x y).v = e.v) ∧
  (∀ (e : Engine) (k : BitVec 2) (x : Word), (e.setAcc k x.toInt).acc k = (x.setWidth 40).toInt)

/-- Each vector element, multiply, accumulate, search and move instruction retires with its result, or is ILLEGAL for its type. -/
def Obligations.VectorInstructionsComplete : Prop :=
  ∀ (s : State) (g : Nat) (e : Engine) (t : ElemType) (d a b n : BitVec 5) (pair : Bool),
    s.runsElryn g → e = s.eng g →
    exec (.iVadd g t d a b) s = .next (s.retireAt g (e.vBin t (e.vle t) false d a b (fun x y => x + y)) (e.pc + 4)) ∧
    exec (.iVsub g t d a b) s = .next (s.retireAt g (e.vBin t (e.vle t) false d a b (fun x y => x - y)) (e.pc + 4)) ∧
    exec (.iVadds g t d a b) s = .next (if typesBHWCH t then
      s.retireAt g (e.vBin t (e.vle t) true d a b (fun x y => x + y)) (e.pc + 4) else s.illegal g) ∧
    exec (.iVsubs g t d a b) s = .next (if typesBHWCH t then
      s.retireAt g (e.vBin t (e.vle t) true d a b (fun x y => x - y)) (e.pc + 4) else s.illegal g) ∧
    exec (.iVnegs g t d a) s = .next (if typesBHWCH t then
      s.retireAt g (e.vUn t (e.vle t) d a (fun x => satTo t.partWidth (-x))) (e.pc + 4) else s.illegal g) ∧
    exec (.iVabss g t d a) s = .next (if typesBHW t then
      s.retireAt g (e.vUn t (e.vle t) d a (fun x => satTo t.partWidth x.natAbs)) (e.pc + 4) else s.illegal g) ∧
    exec (.iVconjs g t d a) s = .next (if t == .ch then
      s.retireAt g (e.vConj (e.vle t) d a) (e.pc + 4) else s.illegal g) ∧
    exec (.iVmaxe g t d a b) s = .next (if typesBHW t then
      s.retireAt g (e.vBin t (e.vle t) false d a b (fun x y => max x y)) (e.pc + 4) else s.illegal g) ∧
    exec (.iVmine g t d a b) s = .next (if typesBHW t then
      s.retireAt g (e.vBin t (e.vle t) false d a b (fun x y => min x y)) (e.pc + 4) else s.illegal g) ∧
    exec (.iVand g t d a b) s = .next (if typesBHWD t then
      s.retireAt g (e.setVec d (vFill (e.vec d) t.width (e.vle t)
        (fun i => vField (e.vec a) t.width i &&& vField (e.vec b) t.width i))) (e.pc + 4) else s.illegal g) ∧
    exec (.iVor g t d a b) s = .next (if typesBHWD t then
      s.retireAt g (e.setVec d (vFill (e.vec d) t.width (e.vle t)
        (fun i => vField (e.vec a) t.width i ||| vField (e.vec b) t.width i))) (e.pc + 4) else s.illegal g) ∧
    exec (.iVxor g t d a b) s = .next (if typesBHWD t then
      s.retireAt g (e.setVec d (vFill (e.vec d) t.width (e.vle t)
        (fun i => vField (e.vec a) t.width i ^^^ vField (e.vec b) t.width i))) (e.pc + 4) else s.illegal g) ∧
    exec (.iVshrr g t d a n) s = .next (if typesHWCH t && decide (n.toNat < t.partWidth) then
      s.retireAt g (e.vShrr t e.rnd (e.vle t) n.toNat d a) (e.pc + 4) else s.illegal g) ∧
    exec (.iVshls g t d a n) s = .next (if typesHWCH t && decide (n.toNat < t.partWidth) then
      s.retireAt g (e.vShls t (e.vle t) n.toNat d a) (e.pc + 4) else s.illegal g) ∧
    exec (.iVperm g t d a b) s = .next (if t == .b then
      s.retireAt g (e.vPerm (e.vle t) d a b) (e.pc + 4) else s.illegal g) ∧
    exec (.iVmulq g t d a b) s = .next (if t == .h then
      s.retireAt g (e.vMulq e.rnd (e.vle t) d a b) (e.pc + 4) else s.illegal g) ∧
    exec (.iVcmulq g t d a b) s = .next (if t == .ch then
      s.retireAt g (e.vCmulq false e.rnd (e.vle t) d a b) (e.pc + 4) else s.illegal g) ∧
    exec (.iVcmuljq g t d a b) s = .next (if t == .ch then
      s.retireAt g (e.vCmulq true e.rnd (e.vle t) d a b) (e.pc + 4) else s.illegal g) ∧
    exec (.iVmacr g t a b) s = .next (if t == .h then
      s.retireAt g (e.vMac (e.vle t) a b (fun e k x y => e.accumulate k (x * y))) (e.pc + 4) else s.illegal g) ∧
    exec (.iVcmac g t pair a b) s = .next (if t == .ch then
      s.retireAt g (e.vCmac (e.vle t) a b
        (fun e x y => e.cmac false pair x.1 x.2 y.1 y.2)) (e.pc + 4) else s.illegal g) ∧
    exec (.iVcmacj g t pair a b) s = .next (if t == .ch then
      s.retireAt g (e.vCmac (e.vle t) a b
        (fun e x y => e.cmac true pair x.1 x.2 y.1 y.2)) (e.pc + 4) else s.illegal g) ∧
    exec (.iVsmax g t a) s = .next (if t == .h then
      s.retireAt g (e.search (vKeys (e.vec a) (e.vle t)) searchMax) (e.pc + 4) else s.illegal g) ∧
    exec (.iVsmin g t a) s = .next (if t == .h then
      s.retireAt g (e.search (vKeys (e.vec a) (e.vle t)) searchMin) (e.pc + 4) else s.illegal g) ∧
    exec (.iVcmaxm g t a) s = .next (if t == .ch then
      s.retireAt g (e.search (vMagKeys (e.vec a) (e.vle t)) searchMag) (e.pc + 4) else s.illegal g) ∧
    exec (.iVexp g t d a) s = .next (if typesHWCH t then
      s.retireAt g (e.setReg d (BitVec.ofNat 64 (vExponent (e.vec a) t (e.vle t)))) (e.pc + 4) else s.illegal g) ∧
    exec (.iVsplat g t d a) s = .next (s.retireAt g (e.vSplat t (e.vle t) d (e.reg a)) (e.pc + 4)) ∧
    exec (.iVinsr g t d a n) s = .next (if decide (n.toNat < t.count) then
      s.retireAt g (e.setVec d (vPut (e.vec d) t.width n.toNat (e.reg a).toNat)) (e.pc + 4) else s.illegal g) ∧
    exec (.iVextr g t d a n) s = .next (if decide (n.toNat < t.count) then
      s.retireAt g (e.setReg d (vExtract (e.vec a) t.width n.toNat)) (e.pc + 4) else s.illegal g) ∧
    exec (.iVwidl g t d a) s = .next (if t == .w then
      s.retireAt g (e.vWid (e.vle t) 0 d a) (e.pc + 4) else s.illegal g) ∧
    exec (.iVwidh g t d a) s = .next (if t == .w then
      s.retireAt g (e.vWid (e.vle t) 4 d a) (e.pc + 4) else s.illegal g) ∧
    exec (.iVnarw g t d a b n) s = .next (if t == .h then
      s.retireAt g (e.vNarw e.rnd (e.vle t) n.toNat d a b) (e.pc + 4) else s.illegal g) ∧
    exec (.iSetvl g t d a) s = .next (
      s.retireAt g ({ e with vl := min (e.reg a).toNat t.count }.setReg d (BitVec.ofNat 64 (min (e.reg a).toNat
        t.count))) (e.pc + 4))

/-- A part-by-part vector operation writes each active part with its own result, leaves the others, and sets SAT only where one clamped. -/
def Obligations.VectorPartsAreWrittenPartByPart : Prop :=
  ∀ (e : Engine) (t : ElemType) (len : Nat) (sat : Bool) (d a b r : BitVec 5) (f : Int → Int → Int) (i : Nat) (v : Int)
      (h : Engine),
    len ≤ t.count → i * t.partWidth < 128 → h = e.vBin t len sat d a b f →
    v = f (vPart (e.vec a) t.partWidth i) (vPart (e.vec b) t.partWidth i) →
    (i < len * t.parts → vField (h.vec d) t.partWidth i
      = ofSigned t.partWidth (if sat then max (-2 ^ (t.partWidth - 1)) (min (2 ^ (t.partWidth - 1) - 1) v) else v)) ∧
    (len * t.parts ≤ i → vField (h.vec d) t.partWidth i = vField (e.vec d) t.partWidth i) ∧
    (r ≠ d → h.vec r = e.vec r) ∧ h.g = e.g ∧ h.a = e.a ∧
    (h.sat = true ↔ e.sat = true ∨ (sat = true ∧ ∃ k < len * t.parts,
      let z := f (vPart (e.vec a) t.partWidth k) (vPart (e.vec b) t.partWidth k)
      2 ^ (t.partWidth - 1) - 1 < z ∨ z < -2 ^ (t.partWidth - 1)))

/-- Vector loads, stores, gathers and scatters: the addresses of their elements, what they write, and where an element fault leaves them. -/
def Obligations.VectorMemoryInstructionsComplete : Prop :=
  (∀ (s : State) (g : Nat) (e : Engine) (t : ElemType) (d b i : BitVec 5) (m : AddrMode) (k c : BitVec 3),
    s.runsElryn g → e = s.eng g →
    (∀ ea base, s.address g b m = .at ea base →
      exec (.iVld g t d b m) s
        = .next (s.vecMem g .load t true d (fun n => (ea + n * (t.width / 8)) % 2 ^ 48) (b, base)) ∧
      exec (.iVst g t d b m) s
        = .next (s.vecMem g .store t true d (fun n => (ea + n * (t.width / 8)) % 2 ^ 48) (b, base)) ∧
      exec (.iVldff g t d b m) s = .next (match m with
        | .offset _ => s.vecMem g .firstFault t true d (fun n => (ea + n * (t.width / 8)) % 2 ^ 48) (b, base)
        | _ => s.illegal g)) ∧
    exec (.iVlds g t d b k) s = .next (s.vecMem g .load t false d
      (fun n => (e.reg b + BitVec.ofNat 64 n * e.off k).toNat % 2 ^ 48) (b, e.reg b)) ∧
    exec (.iVsts g t d b k) s = .next (s.vecMem g .store t false d
      (fun n => (e.reg b + BitVec.ofNat 64 n * e.off k).toNat % 2 ^ 48) (b, e.reg b)) ∧
    (t = .b ∧ i.toNat % 2 = 1 → exec (.iVgather g t d b i c) s = .next (s.illegal g) ∧
      exec (.iVscatter g t d b i c) s = .next (s.illegal g) ∧ exec (.iVgatherff g t d b i c) s = .next (s.illegal g)) ∧
    (¬(t = .b ∧ i.toNat % 2 = 1) →
      exec (.iVgather g t d b i c) s = .next (s.vecMem g .load t false d (e.gatherAt b i c) (b, e.reg b)) ∧
      exec (.iVscatter g t d b i c) s = .next (s.vecMem g .store t false d (e.gatherAt b i c) (b, e.reg b)) ∧
      exec (.iVgatherff g t d b i c) s = .next (s.vecMem g .firstFault t false d (e.gatherAt b i c) (b, e.reg b)))) ∧
  (∀ (s u : State) (g : Nat) (e : Engine) (t : ElemType) (run : Bool) (d : BitVec 5) (addr : Nat → Nat)
      (base : BitVec 5 × Word) (x : Vec) (mode : VMode) (j cause : Nat) (at_ : Nat × Option Nat) (l due : List Nat),
    e = s.eng g → l = e.elements t → due = l.filter (fun n => decide (e.accepted ≤ n)) →
    (e.vle t = 0 → s.vecMem g mode t run d addr base = s.retire g e) ∧
    (e.vle t ≠ 0 → mode ≠ .store → s.elementFault g (t.width / 8) false addr l = none →
      s.elementStop g (t.width / 8) addr l = none →
      (s.loadAll g (t.width / 8) run addr (e.vec d) l = (some x, u) →
        s.vecMem g mode t run d addr base = u.retire g ({ (u.eng g).setVec d x with
          eindex := 0, vfault := if mode == VMode.firstFault then 0 else ((u.eng g).setVec d x).vfault }.setReg base.1 base.2)) ∧
      (s.loadAll g (t.width / 8) run addr (e.vec d) l = (none, u) →
        s.vecMem g mode t run d addr base = u.poisonReset g)) ∧
    (e.vle t ≠ 0 → s.elementFault g (t.width / 8) true addr l = none → s.elementStop g (t.width / 8) addr due = none →
      u = s.storeAll g (t.width / 8) run addr (e.vec d) due →
      s.vecMem g .store t run d addr base
        = u.retire g ({ (u.eng g).setVec d (e.vec d) with eindex := 0 }.setReg base.1 base.2)) ∧
    (e.vle t ≠ 0 → mode ≠ .store → s.elementFault g (t.width / 8) false addr l = none →
      s.elementStop g (t.width / 8) addr l = some (j, at_) → s.vecMem g mode t run d addr base = s.holdE4 g at_) ∧
    (e.vle t ≠ 0 → s.elementFault g (t.width / 8) true addr l = none →
      s.elementStop g (t.width / 8) addr due = some (j, at_) →
      s.vecMem g .store t run d addr base
        = (s.storeAll g (t.width / 8) run addr (e.vec d) (due.filter (fun n => decide (n < j)))).holdE4 g at_ j) ∧
    (e.vle t ≠ 0 → s.elementFault g (t.width / 8) false addr l = some (j, cause) → mode ≠ .store →
      s.elementStop g (t.width / 8) addr (l.filter (fun n => decide (n < j))) = none →
      s.loadAll g (t.width / 8) run addr (e.vec d) (l.filter (fun n => decide (n < j))) = (some x, u) →
      (mode = .firstFault → l.head? ≠ some j → s.vecMem g mode t run d addr base
        = u.retire g { (u.eng g).setVec d x with vfault := BitVec.ofNat 16 (2 ^ j), vl := j, eindex := 0 }) ∧
      (mode = .load → cause ≠ causeAccess → s.vecMem g mode t run d addr base
        = (u.setEng g { (u.eng g).setVec d x with vfault := BitVec.ofNat 16 (2 ^ j), eindex := j }).takeException g cause
            ((u.eng g).setVec d x).pc (addr j) true)) ∧
    (e.vle t ≠ 0 → s.elementFault g (t.width / 8) true addr l = some (j, cause) → cause ≠ causeAccess →
      s.elementStop g (t.width / 8) addr ((l.filter (fun n => decide (n < j))).filter (fun n => decide (e.accepted ≤ n))) = none →
      u = s.storeAll g (t.width / 8) run addr (e.vec d)
        ((l.filter (fun n => decide (n < j))).filter (fun n => decide (e.accepted ≤ n))) →
      s.vecMem g .store t run d addr base
        = (u.setEng g { (u.eng g).setVec d (e.vec d) with vfault := BitVec.ofNat 16 (2 ^ j), eindex := j }).takeException g
            cause ((u.eng g).setVec d (e.vec d)).pc (addr j) true))

/-- Each fused instruction is presented to its Gusset, and a Gusset accepts, begins, commits and resets as its rules say. -/
def Obligations.GussetCommandsComplete : Prop :=
  (∀ (s : State) (g : Nat) (e : Engine) (x : Gusset) (p : GOp → State) (a : BitVec 5) (qd qa qb : BitVec 4) (row : BitVec 2),
    s.runsElryn g → e = s.eng g → x = s.gus (gussetOf g) →
    p = (fun op => (s.setGus (gussetOf g) { x with
      presented := x.presented.set (bankOf g) ⟨bankOf g, op, e.rnd, none, false, false, 0, false⟩ }).setEng g { e with
        wait := .gusset }) →
    (s.gussetUp (gussetOf g) = true → g % 17 ≠ 16 →
      exec (.iGmovt g qd a row) s = .next (p (.movt qd.toNat row.toNat (e.vec a))) ∧
      exec (.iGmovf g a qd row) s = .next (p (.movf a.toNat qd.toNat row.toNat)) ∧
      exec (.iGmul g qd qa qb) s = .next (p (.mul qd.toNat qa.toNat qb.toNat)) ∧
      exec (.iGmulh g qd qa qb) s = .next (p (.mulh qd.toNat qa.toNat qb.toNat)) ∧
      exec (.iGmulbh g qd qa qb) s = .next (p (.mulbh qd.toNat qa.toNat qb.toNat)) ∧
      exec (.iGmac g qd qa qb) s = .next (p (.mac qd.toNat qa.toNat qb.toNat)) ∧
      exec (.iGmsu g qd qa qb) s = .next (p (.msu qd.toNat qa.toNat qb.toNat)) ∧
      exec (.iGadd g qd qa qb) s = .next (p (.add qd.toNat qa.toNat qb.toNat)) ∧
      exec (.iGsub g qd qa qb) s = .next (p (.sub qd.toNat qa.toNat qb.toNat)) ∧
      exec (.iGherm g qd qa) s = .next (p (.herm qd.toNat qa.toNat)) ∧
      exec (.iGzero g qd) s = .next (p (.zero qd.toNat)) ∧
      exec (.iGshr g qd qa qb) s = .next (p (.shr qd.toNat qa.toNat qb.toNat)) ∧
      exec (.iGstat g a) s = .next (p (.stat a.toNat))) ∧
    (s.gussetUp (gussetOf g) = false ∨ g % 17 = 16 →
      exec (.iGmovt g qd a row) s = .next (s.raiseSync g causeGusset 0) ∧
      exec (.iGmovf g a qd row) s = .next (s.raiseSync g causeGusset 0) ∧
      exec (.iGmul g qd qa qb) s = .next (s.raiseSync g causeGusset 0) ∧
      exec (.iGmulh g qd qa qb) s = .next (s.raiseSync g causeGusset 0) ∧
      exec (.iGmulbh g qd qa qb) s = .next (s.raiseSync g causeGusset 0) ∧
      exec (.iGmac g qd qa qb) s = .next (s.raiseSync g causeGusset 0) ∧
      exec (.iGmsu g qd qa qb) s = .next (s.raiseSync g causeGusset 0) ∧
      exec (.iGadd g qd qa qb) s = .next (s.raiseSync g causeGusset 0) ∧
      exec (.iGsub g qd qa qb) s = .next (s.raiseSync g causeGusset 0) ∧
      exec (.iGherm g qd qa) s = .next (s.raiseSync g causeGusset 0) ∧
      exec (.iGzero g qd) s = .next (s.raiseSync g causeGusset 0) ∧
      exec (.iGshr g qd qa qb) s = .next (s.raiseSync g causeGusset 0) ∧
      exec (.iGstat g a) s = .next (s.raiseSync g causeGusset 0))) ∧
  (∀ (s : State) (n b : Nat) (w : GWork),
    ((List.range 4).map (fun i => ((s.gus n).next + i) % 4)).find? (fun b => s.gussetReady n b) = some b →
    s.gussetOffer n b = some w → exec (.gussetAccept n) s = .next (s.gussetTake n b w)) ∧
  (∀ (s : State) (n b : Nat) (w : GWork) (x : Gusset), x = s.gus n →
    x.work.find? (fun w => w.bank == b && !w.begun) = some w → x.readsPoison b w.op = false →
    exec (.gussetBegin n b [] false) s = .next (s.setGus n (x.mapWork (fun w => w.bank == b && !w.begun) (fun y => { y with
      begun := true, value := (gResult w.op w.rnd (x.shadow b)).1, saturated := (gResult w.op w.rnd (x.shadow b)).2 })))) ∧
  (∀ (s : State) (n b : Nat), (∃ w, (s.gus n).work.find? (fun w => w.bank == b && !w.begun) = some w) →
    exec (.gussetBegin n b [] true) s
      = .next ((s.fresh.countUncorrectable (gussetMem n) (Config.flightLog s.free % 512) (gussetId n) 0).resetGusset n 0x01)) ∧
  (∀ (s : State) (n b order d qa qb : Nat) (w : GWork) (x : Gusset), x = s.gus n →
    x.committing b order = some w → w.op = .mul d qa qb →
    exec (.gussetCommit n ⟨b, order⟩) s = .next (State.mbHeldEnters
      ((w.op.writes.map (fun v => 8 * (128 * b + v))).foldl (fun s a => s.darnWrite (gussetMem n) a)
        (s.setGus n (x.commit b order w))) n b) ∧
    (x.commit b order w).regs = x.regs.set (16 * b + d) w.value ∧
    (w.saturated = true → b ∈ (x.commit b order w).qsat)) ∧
  (∀ (x : Gusset) (b : Nat) (w : GWork), x.work.find? (fun w => w.bank == b) = some w → w.begun = true →
    w.retired = true ∨ w.op.isMovf = true → x.committing b 0 = some w) ∧
  (∀ (s : State) (u n : Nat) (v : Half), s.islandStops (n / 4) = false → s.mayWritePanel u (n / 4) = true → s.present (gussetId n) = true →
    s.bit GUS_STATE_RETIRED n = false →
    exec (.gussetSreset u n v) s = .next ((s.sf GUS_CTRL_EXCLUDE n (v ||| 0x100).toNat).resetGusset n 0x02))

/-- The engine control register's commands, late jobs, events and illegal words act on an engine as its rules say. -/
def Obligations.EngineControlCommandsComplete : Prop :=
  (∀ (s x : State) (u g : Nat), s.islandStops (g / 17) = false → s.mayWritePanel u (g / 17) = true → s.siteUp g = true → (s.eng g).state = .halted →
    x = (s.sf ENG_CTRL_RESET_ACTION g 0).sf ENG_CTRL_HALT_REQ g 0 →
    exec (.engGo u g 0) s = .next (x.setEng g { s.eng g with
      state := .free, pc := s.rf ENG_START_PC_PC g / 4 * 4, fresh := false }) ∧
    (∀ y, y = x.countCycles g → exec (.engOpen u g 0) s = .next (y.setEng g { y.eng g with state := .waiting }))) ∧
  (∀ (s x : State) (u g : Nat), s.islandStops (g / 17) = false → s.mayWritePanel u (g / 17) = true → s.siteUp g = true →
    x = (s.sf ENG_CTRL_RESET_ACTION g 0).sf ENG_CTRL_HALT_REQ g 0 →
    exec (.engSreset u g 0) s = .next (x.resetEngine g)) ∧
  (∀ (s x : State) (u g : Nat), s.islandStops (g / 17) = false → s.mayWritePanel u (g / 17) = true → s.siteUp g = true → (s.eng g).state = .waiting →
    x = (s.sf ENG_CTRL_RESET_ACTION g 0).sf ENG_CTRL_HALT_REQ g 1 →
    ∀ y, y = x.countCycles g → exec (.engHaltReq u g 0) s = .next (y.setEng g { y.eng g with state := .halted })) ∧
  (∀ (s : State) (g id : Nat), (s.eng g).job = some id → s.sh.jobs.any (fun j => j.id == id && j.abandoned) = true →
    (s.eng g).lateTick = none →
    ((s.eng g).lie = false → exec (.engineJobLateSignal g) s
      = .next ((s.setEng g { s.eng g with lateTick := some s.tb.count }).stopLate g)) ∧
    ((s.eng g).lie = true → exec (.engineJobLateSignal g) s
      = .next ((s.setEng g { s.eng g with late := true, lateTick := some s.tb.count }).takeAsync g))) ∧
  (∀ (s : State) (g tick : Nat), (s.eng g).lateTick = some tick → tick + 69 ≤ s.tb.count → exec (.lateJobStop g) s = .next (s.stopLate g)) ∧
  (∀ (s x : State) (g ev : Nat) (r : List (Nat × Nat)), s.engineEvents = (g, ev) :: r → x = { s with engineEvents := r } →
    s.siteUp g = true →
    ((s.eng g).inbox.length < 8 → exec .engineEventDeliver s
      = .next ((x.setEng g { s.eng g with inbox := (s.eng g).inbox ++ [ev] }).takeAsync g)) ∧
    (8 ≤ (s.eng g).inbox.length → exec .engineEventDeliver s = .next (x.incf ENG_EVQ_LOST_COUNT g))) ∧
  (∀ (s : State) (g : Nat) (w : Half), s.executes g = true → (s.eng g).asyncCause = none →
    exec (.illegalEncoding g none) s = .next ((s.resetEngine g).engEvent g 0x01) ∧
    (s.mbDsp g = true → exec (.illegalEncoding g (some w)) s = .next (s.illegal g)) ∧
    (elrynOf g w = none → exec (.illegalEncoding g (some w)) s = .next (s.illegal g)) ∧
    (∀ i, elrynOf g w = some i → s.illegalHere g i = true → exec (.illegalEncoding g (some w)) s = .next (s.illegal g)))

/-- An engine of an MB partition executes MB-DSP operations, Gusset commands, messages and status writes as their rules say. -/
def Obligations.MbDspOperationsExecuteOnTheEngine : Prop :=
  (∀ (s : State) (g : Nat) (e : Engine) (d a b : BitVec 4) (x y : Half) (off : BitVec 16) (v1 v2 : BitVec 5),
    s.runsMbDsp g → e = s.eng g → x = e.dGet a → y = e.dGet b →
    exec (.mbDspOperation g (.alu .add d a b)) s = .next (s.retireAt g (e.dSet d (x + y)) (e.pc + 4)) ∧
    exec (.mbDspOperation g (.shift d a b)) s = .next (s.retireAt g (e.dSet d (
      if 0 ≤ (y.setWidth 6).toInt then x <<< (y.setWidth 6).toInt.toNat
      else x.sshiftRight (-(y.setWidth 6).toInt).toNat)) (e.pc + 4)) ∧
    exec (.mbDspOperation g (.macr false false a b)) s = .next (s.retireAt g
      ((e.mbMacOne 0 1 (dHalf x 0) (dHalf y 0)).mbMacOne 1 1 (dHalf x 1) (dHalf y 1)) (e.pc + 4)) ∧
    (∀ dst, dst = branchTarget e.pc off.toInt → exec (.mbDspOperation g (.branch .eq a b off)) s = .next (
      if x = y then (if dst % 4 = 0 then s.retireAt g e dst else s.raiseSync g causeMisaligned dst) else s.retire g e)) ∧
    (x.toNat % 4 ≠ 0 → exec (.mbDspOperation g (.jumpReg a none)) s
      = .next (s.raiseSync g causeMisaligned (x.toNat % 2 ^ 15))) ∧
    (x.toNat % 4 = 0 → exec (.mbDspOperation g (.jumpReg a none)) s = .next (s.retireAt g e (x.toNat % 2 ^ 15))) ∧
    (16 ≤ v1.toNat → exec (.mbDspOperation g (.vmacr v1 v2)) s = .next (s.illegal g)) ∧
    (x &&& ~~~(0x103 : Half) ≠ 0 → exec (.mbStatusWrite g a) s = .next (s.illegal g)) ∧
    (x &&& ~~~(0x103 : Half) = 0 → exec (.mbStatusWrite g a) s = .next (s.retireAt g { e with
      mbSr := x.toNat % 4
      status := if x.getLsbD 8 then e.status ||| 0x100 else e.status &&& ~~~(0x300 : BitVec 32) } (e.pc + 4)))) ∧
  (∀ (s : State) (g : Nat) (e : Engine) (x : Gusset) (tag d a b : BitVec 4) (w : GWork) (v : BitVec 5) (row : BitVec 2),
    s.runsMbDsp g → e = s.eng g → x = s.gus (gussetOf g) → s.gussetUp (gussetOf g) = true → g % 17 ≠ 16 →
    w = ⟨bankOf g, .mul d.toNat a.toNat b.toNat, e.rndm, some tag.toNat, true, false, 0, false⟩ →
    (x.mbCount (bankOf g) < 8 → exec (.mbGussetCommand g tag (.mul d a b)) s
      = .next ((s.setGus (gussetOf g) { x with queued := x.queued ++ [w] }).retireAt g e (e.pc + 4))) ∧
    (8 ≤ x.mbCount (bankOf g) → exec (.mbGussetCommand g tag (.mul d a b)) s
      = .next ((s.setGus (gussetOf g) { x with presented := x.presented.set (bankOf g) w }).setEng g
          { e with wait := .gusset })) ∧
    (v.toNat < 16 → x.rowUsable (bankOf g) d.toNat = true →
      x.readsPoison (bankOf g) (.movf v.toNat d.toNat row.toNat) = false →
      exec (.mbGussetRead g v d ⟨row, [], false⟩) s = .next (s.retire g
        (e.setVec v ((gResult (.movf v.toNat d.toNat row.toNat) 0 (x.shadow (bankOf g))).1.setWidth 128)))) ∧
    (v.toNat < 16 → x.rowUsable (bankOf g) d.toNat = false →
      exec (.mbGussetRead g v d ⟨row, [], false⟩) s = .next (s.setEng g { e with wait := .again 0 }))) ∧
  (∀ (s t u : State) (g d : Nat) (core : BitVec 6) (inbox : BitVec 2) (p : BitVec 3) (m : MbMode) (base : Word)
      (ws : List Carried),
    s.runsMbDsp g → s.mbMessage g p m false = .inl (d, base) → s.accessStops g d 32 = none → s.queueReach (s.mbInbox (s.mbPart g) core.toNat inbox.toNat) = true →
    s.readWords d g 1 4 = (ws, t) → ws.any Option.isNone = false →
    (t.port (s.mbInbox (s.mbPart g) core.toNat inbox.toNat) g).stalled = [] →
    (t.port (s.mbInbox (s.mbPart g) core.toNat inbox.toNat) g).credits ≠ 0 →
    u = t.setEng g { t.eng g with
      wait := .credit (s.mbInbox (s.mbPart g) core.toNat inbox.toNat) (pReg p).toNat
        (((t.eng g).pSet p (base.setWidth 32)).reg (pReg p)) } →
    exec (.mbSendMessage g core inbox p m) s = .next ((((u.pushEntry (s.mbInbox (s.mbPart g) core.toNat inbox.toNat) g
      (ws ++ [some 0, some 0, some 0, some (u.pushTag g)])).releaseEngine
        (s.mbInbox (s.mbPart g) core.toNat inbox.toNat) g).takeAsync g))) ∧
  (∀ (s t u : State) (g d q : Nat) (inbox : BitVec 2) (r : BitVec 4) (p : BitVec 3) (m : MbMode) (base : Word)
      (ws : List Carried),
    s.runsMbDsp g → s.mbMessage g p m true = .inl (d, base) → s.accessStops g d 32 = none →
    q = s.mbInbox (s.mbPart g) (s.coreOf (s.mbPart g) g) inbox.toNat → s.popQueue q g = (.entry ws, t) →
    u = t.storeEntry g d (ws.take 4) →
    exec (.mbReceiveMessage g inbox (some r) p m) s
      = .next (u.retireAt g (((u.eng g).pSet p (base.setWidth 32)).dSet r 1) ((u.eng g).pc + 4))) ∧
  (∀ (s : State) (g : Nat) (e : Engine) (d : BitVec 4), s.runsMbDsp g → e = s.eng g →
    exec (.mbRaiseHostInterrupt g) s = .next ((s.engEvent g 0x04).retireAt g e (e.pc + 4)) ∧
    (∀ z, z = s.countCycles g → e.state = .free → exec (.mbHalt g) s
      = .next (z.setEng g { z.eng g with
          state := z.restState g, pc := ((z.eng g).pc + 4) % 2 ^ 15, resumed := false, wait := .none })) ∧
    (e.state = .running → exec (.mbHalt g) s = .next (s.illegal g)) ∧
    exec (.mbReadCycleCounter g d) s = .next (s.retireAt g
      (e.dSet d (BitVec.ofNat 32 ((s.replica (g / 17) - e.resetTick) * 3125 / 384))) (e.pc + 4)))

/-- An engine that retires goes on at the given word or takes JOB_LATE before EVENT, and a cause it cannot handle resets it. -/
def Obligations.RetiringTakesAsynchronousCauses : Prop :=
  (∀ (s : State) (g pc : Nat) (e : Engine),
    (e.exc = true ∨ ((e.late = false ∨ e.lie = false) ∧ (e.inbox = [] ∨ e.eie = false)) →
      s.retireAt g e pc = s.goesOn g e pc)) ∧
  (∀ (s : State) (g pc : Nat) (e f : Engine), (e.state = .running ∨ e.state = .free) → e.exc = false →
    e.evec ≠ 0 → f = { e with
      estatus := (s.setEng g e).statusOf g, epc := pc % 2 ^ 15, eaddr := 0, eindex := 0, resumed := false, wait := .none
      status := (e.status ||| 1) &&& ~~~(6 : BitVec 32), pc := e.evec } →
    (e.late = true → e.lie = true →
      s.retireAt g e pc = (s.squashFused g).setEng g { f with ecause := 0x10, late := false }) ∧
    ((e.late = false ∨ e.lie = false) → e.inbox ≠ [] → e.eie = true →
      s.retireAt g e pc = (s.squashFused g).setEng g { f with ecause := 0x11 })) ∧
  (∀ (s : State) (g cause a : Nat) (e : Engine), e = s.eng g → cause < 0x10 →
    (e.exc = false → e.evec ≠ 0 → s.raiseSync g cause a = (s.squashFused g).setEng g { e with
      estatus := s.statusOf g, epc := e.pc, ecause := cause, eaddr := a % 2 ^ 48
      status := (e.status ||| 1) &&& ~~~(6 : BitVec 32), pc := e.evec, wait := .none, popAsked := e.asked, resumed := false
      eindex := 0 }) ∧
    (e.exc = true ∨ e.evec = 0 → s.raiseSync g cause a =
      (((s.resetEngine g ⟨codeUnitReset, cause * 2 ^ 24 + e.pc, 0, false⟩).sf ENG_FAULT_CAUSE g cause).sf
        ENG_FAULT_PC g e.pc).engEvent g (if e.exc then 0x03 else 0x02)))

/-- A command of an engine that does not execute changes nothing, and one of the other decode mode raises ILLEGAL. -/
def Obligations.EngineCommandsNeedTheirDecodeMode : Prop :=
  ∀ (c : Instr) (s : State) (g : Nat),
    (elrynOn c = some g ∨ mbDspOn c = some g → s.executes g = false → (∀ op, s.gussetAhead g op = false) → exec c s = .next s) ∧
    (elrynOn c = some g ∨ mbDspOn c = some g → s.executes g = true → (s.eng g).asyncCause ≠ none →
      exec c s = .next (s.takeAsync g)) ∧
    (elrynOn c = some g → s.executes g = true → (s.eng g).asyncCause = none → s.mbDsp g = true → exec c s = .next (s.raiseSync g causeIllegal 0)) ∧
    (mbDspOn c = some g → s.executes g = true → (s.eng g).asyncCause = none → s.mbDsp g = false → exec c s = .next (s.raiseSync g causeIllegal 0))

/-- Each channel coding and transform job runs its blocks, counts them, and completes with its report. -/
def Obligations.CodingJobsCompleteWithTheirReport : Prop :=
  (∀ (s : State) (u : Nat) (j : Job) (r0 r : AccRun) (info : List Byte) (t : State) (c : Instr),
    r0 = AccRun.start s j →
    ((c = .ldpcDecode u ∧ s.accJob u 0x10 = some j ∧ r = r0.each j.count (ldpcDecodeJob j) ∧ info = decoderInfo r) ∨
     (c = .ldpcEncode u ∧ s.accJob u 0x20 = some j ∧ info = noInfo r ∧ r = r0.each j.count (fun b r =>
       let l := r.read (j.addr 0 + b * bitStride j.ldpcKp) (ceilDiv j.ldpcKp 8)
       (l.2.write (j.addr 1 + b * bitStride j.ncb) (bitsOut (bitStride j.ncb)
         (ldpcEncodeBlock j.bg2 j.zc j.ncb j.filler (bitsIn l.1 j.ldpcKp)))).block false)) ∨
     (c = .turboDecode u ∧ s.accJob u 0x28 = some j ∧ r = r0.each j.count (turboDecodeJob j) ∧ info = decoderInfo r) ∨
     (c = .turboEncode u ∧ s.accJob u 0x64 = some j ∧ info = noInfo r ∧ r = r0.each j.count (fun b r =>
       let l := r.read (j.addr 0 + b * bitStride j.turboK) (ceilDiv j.turboK 8)
       (l.2.write (j.addr 1 + b * bitStride (turboKw j.turboK)) (bitsOut (bitStride (turboKw j.turboK))
         (turboBuffer j.turboK (bitsIn l.1 j.turboK)))).block false)) ∨
     (c = .polarDecode u ∧ s.accJob u 0x30 = some j ∧ info = metricInfo r ∧ (∃ x, x = polarJob j ∧
       ∃ p, p = (match x.crc with | 0 => crc6 | 1 => crc11 | _ => crc24C) ∧
       r = decodeOne j x (polarBest x p) (fun b => maskedCrcFails p b x.mask) r0)) ∨
     (c = .polarEncode u ∧ s.accJob u 0x31 = some j ∧ info = metricInfo r ∧ (∃ x, x = polarJob j ∧
       r = encodeOne j x (fun b => polarEncodeBits b x.e x.mask x.ones) r0)) ∨
     (c = .tbccDecode u ∧ s.accJob u 0x32 = some j ∧ info = metricInfo r ∧ (∃ x, x = polarJob j ∧
       r = decodeOne j x (fun v => ((List.range x.k).map (Config.tbccBit x.k x.list v), Config.tbccMetric x.k x.list v))
         (fun b => match x.crc with
           | 0 => false
           | 1 => maskedCrcFails crc8 b x.mask
           | _ => maskedCrcFails crc16 b x.mask) r0)) ∨
     (c = .tbccEncode u ∧ s.accJob u 0x33 = some j ∧ info = metricInfo r ∧ (∃ x, x = polarJob j ∧
       r = encodeOne j x (fun b => tbccEncodeBits b x.e x.mask) r0)) ∨
     (c = .tbSegment u ∧ s.accJob u 0x60 = some j ∧ r = tbSegment j r0 ∧ info = noInfo r) ∨
     (c = .tbAssemble u ∧ s.accJob u 0x61 = some j ∧ r = tbAssemble j r0 ∧ info = noInfo r) ∨
     (c = .ldpcRateMatch u ∧ s.accJob u 0x62 = some j ∧ r = matchJob (rateJob false j) j r0 ∧ info = noInfo r) ∨
     (c = .turboRateMatch u ∧ s.accJob u 0x65 = some j ∧ r = matchJob (rateJob true j) j r0 ∧ info = noInfo r) ∨
     (c = .ldpcRateRecover u ∧ s.accJob u 0x63 = some j ∧
       r = r0.each (rateJob false j).count (recoverBlock (rateJob false j) j) ∧ info = noInfo r) ∨
     (c = .turboRateRecover u ∧ s.accJob u 0x66 = some j ∧
       r = r0.each (rateJob true j).count (recoverBlock (rateJob true j) j) ∧ info = noInfo r) ∨
     (c = .fft u ∧ s.accJob u 0x38 = some j ∧ r = r0.each (j.fld 1 63 52) (fftBlock false j) ∧ info = noInfo r) ∨
     (c = .ifft u ∧ s.accJob u 0x39 = some j ∧ r = r0.each (j.fld 1 63 52) (fftBlock true j) ∧ info = noInfo r)) →
    t = ((r.st.incf ACC_JOBS_COUNT (r.unit - 0x600)).incf ACC_BLOCKS_COUNT (r.unit - 0x600) r.blocks).incf
      ACC_ITER_COUNT (r.unit - 0x600) r.iters →
    (∀ x, r.stall = some x → exec c s = .next (s.stallOn x)) ∧
    (r.stall = none →
    (r.stop = none → r.spoiled = false → j.outCount = 0 → exec c s
      = .next (t.reportJob r.job ⟨codeDone, r.result, fieldAt info 0 8, false⟩)) ∧
    (∀ i : Job, r.stop = none → r.spoiled = false → j.outCount = 1 → t.job r.job = some i →
      t.queueReach i.outQueue = true → exec c s
        = .next ((t.jobPushBytes r.job (flagMap r.flags ++ sliceBytes info 0 16 ++ valBytes 8 0)).reportJob r.job
            ⟨codeDone, r.result, fieldAt info 0 8, false⟩)) ∧
    (∀ k, r.stop = some k → k ≠ codePoison → exec c s = .next (t.reportJob r.job ⟨k, r.result, fieldAt info 0 8, false⟩)) ∧
    (r.stop = some codePoison → exec c s
      = .next ((t.reportJob r.job ⟨codePoison, r.result, fieldAt info 0 8, false⟩).resetAcc u 0x01)))) ∧
  (∀ (s : State) (w u : Nat) (v : Half) (j : Job), s.islandStops (islandOf u) = false →
    (isThimble w = true ∨ isPf0 w = true) → s.usable u = true →
    (s.runningOn u = none → exec (.accSreset w u v) s = .next (s.resetAcc u 0x02)) ∧
    (s.runningOn u = some j → j.report = none → exec (.accSreset w u v) s
      = .next ((s.reportJob j.id ⟨codeAborted, 0, 0, false⟩).resetAcc u 0x02)))

/-- Each matrix and equalization job runs over its allocation and completes with its report. -/
def Obligations.MatrixJobsCompleteWithTheirReport : Prop :=
  ∀ (s : State) (u : Nat) (j : Job) (r0 r : AccRun) (info : List Byte) (t : State) (c : Instr),
    r0 = AccRun.start s j →
    ((c = .chest u ∧ s.accJob u 0x40 = some j ∧ r = chest j r0 ∧ info = packedInfo r) ∨
     (c = .eqWeights u ∧ s.accJob u 0x41 = some j ∧ info = noInfo r ∧
       r = r0.withAlloc j (fun a =>
         [(j.addr 1, a.nprb * a.es + (if j.fld 0 63 62 = 1 then ceilDiv a.nprb a.ngrp * a.cs else 0)),
          (j.addr 2, if j.fld 0 63 62 = 2 then a.groups * weightStride a.nl a.nl else 0),
          (j.addr 3, a.groups * weightStride a.nl a.nrx)])
         (fun a x => (x.require (j.fld 0 63 62 != 1 || decide (a.nrx ≤ 16))).each a.groups (eqWeightsGroup j a))) ∨
     (c = .bfWeights u ∧ s.accJob u 0x42 = some j ∧ info = noInfo r ∧
       r = r0.withAlloc j (fun a => [(j.addr 1, a.nprb * a.es), (j.addr 3, a.groups * weightStride a.nrx a.nl)])
         (fun a x => x.each a.groups (bfWeightsGroup j a))) ∨
     (c = .weightApply u ∧ s.accJob u 0x43 = some j ∧ info = noInfo r ∧
       r = r0.withAlloc j (fun _ => []) (fun a x =>
         let l := x.read (j.addr 2) 64
         let nout := fieldAt l.1 2 1
         let last := (bitsSet 14 (j.fld 0 63 50)).getLastD 0
         let y := if l.2.live then l.2.require (decide (1 ≤ nout) && decide (nout ≤ 64)
           && l.2.buffersOk [(j.addr 0, 64), (j.addr 1, a.gridExtent a.nrx last), (j.addr 2, a.groups * weightStride nout a.nrx),
             (j.addr 3, a.gridExtent nout last)]) else l.2
         if !y.live then y else
         let w := y.weightSet (j.addr 2) a.groups nout a.nrx
         (bitsSet 14 (j.fld 0 63 50)).foldl (fun z sym => if z.live then weightApplySymbol j a nout w.1 sym z else z) w.2)) ∨
     (c = .eqApply u ∧ s.accJob u 0x44 = some j ∧ info = packedInfo r ∧
       ((j.eqSrc = 2 ∧ r = r0.withAlloc j (fun _ => []) (eqPartials j)) ∨
        (j.eqSrc ≠ 2 ∧ r = r0.withAlloc j (eqGridBuffers j) (eqGrid j)))) ∨
     (c = .jmStats u ∧ s.accJob u 0x48 = some j ∧ info = noInfo r ∧
       r = r0.withAlloc j (fun a => [(j.addr 1, a.nprb * a.es), (j.addr 3, a.groups * a.ss)]) (fun a x =>
         x.each a.groups (fun g x =>
           let h := x.groupH a (j.addr 1) g
           if !h.2.2.live then h.2.2 else
           (h.2.2.write (j.addr 3 + g * a.ss) (fillTo a.ss (fillTo 64 (valBytes 1 0 ++ valBytes 1 h.2.1.anchor
             ++ valBytes 1 0 ++ valBytes 1 a.nl) ++ (h.2.2.matVals 0 a.nl a.nl
               (((h.1.herm a.nrx a.nl).mul a.nl a.nrx a.nl h.1).div h.2.1.sigma)).flatMap (valBytes 4)))).done))) ∨
     (c = .jmSolve u ∧ s.accJob u 0x49 = some j ∧ info = noInfo r ∧
       r = r0.withAlloc j (fun _ => []) (fun a x =>
         let l := x.read (j.addr 1) 64
         let src := sourcesOf l.1 (j.fld 0 63 60 + 1)
         let y := if l.2.live then l.2.require (l.2.buffersOk ([(j.addr 0, 64), (j.addr 1, 64),
           (j.addr 3, a.groups * weightStride a.nl a.nl)] ++ src.map (fun b => (b, a.groups * a.ss)))) else l.2
         y.each a.groups (fun g z =>
           let q := src.foldl (fun (q : List (Nat × CMat) × AccRun) b =>
             let m := q.2.stats a b g
             (q.1 ++ [(m.1, m.2.1)], m.2.2)) (([] : List (Nat × CMat)), z)
           if !q.2.live then q.2 else
           let gamma := matOf a.nl a.nl (fun i k => CQ.sum (q.1.map (fun e => e.2.at i k)))
           let inv := (gamma.addI a.nl (.of 1)).inv a.nl
           let pg := q.2.rows 8192 ((List.range a.nl).map (fun i => ((inv.mul a.nl a.nl a.nl gamma).at i i).re))
           q.2.putWeights (j.addr 3) g a.nl a.nl (q.1.headD (0, [])).1 false pg.1 pg.2 (q.2.matVals 0 a.nl a.nl inv)))) ∨
     (c = .softDemap u ∧ s.accJob u 0x70 = some j ∧ r = softDemap j r0 ∧ info = metricInfo r) ∨
     (c = .modMap u ∧ s.accJob u 0x71 = some j ∧ r = modMap j r0 ∧ info = noInfo r)) →
    t = ((r.st.incf ACC_JOBS_COUNT (r.unit - 0x600)).incf ACC_BLOCKS_COUNT (r.unit - 0x600) r.blocks).incf
      ACC_ITER_COUNT (r.unit - 0x600) r.iters →
    (∀ x, r.stall = some x → exec c s = .next (s.stallOn x)) ∧
    (r.stall = none →
    (r.stop = none → r.spoiled = false → j.outCount = 0 → exec c s
      = .next (t.reportJob r.job ⟨codeDone, r.result, fieldAt info 0 8, false⟩)) ∧
    (∀ i : Job, r.stop = none → r.spoiled = false → j.outCount = 1 → t.job r.job = some i →
      t.queueReach i.outQueue = true → exec c s
        = .next ((t.jobPushBytes r.job (flagMap r.flags ++ sliceBytes info 0 16 ++ valBytes 8 0)).reportJob r.job
            ⟨codeDone, r.result, fieldAt info 0 8, false⟩)) ∧
    (∀ k, r.stop = some k → k ≠ codePoison → exec c s = .next (t.reportJob r.job ⟨k, r.result, fieldAt info 0 8, false⟩)) ∧
    (r.stop = some codePoison → exec c s
      = .next ((t.reportJob r.job ⟨codePoison, r.result, fieldAt info 0 8, false⟩).resetAcc u 0x01)))

/-- A Hem chain takes intake entries, processes windows and symbols, runs its jobs and obeys its registers. -/
def Obligations.HemCommandsComplete : Prop :=
  (∀ (s : State) (h : Nat) (j : Job) (r : AccRun) (info : List Byte) (c : Instr),
    s.reservedFfts h ≠ [] → ((c = .prachDetect h ∧ s.accJob (hemUnit h) 0x80 = some j ∧ r = prachDetect j (AccRun.start s j)) ∨
     (c = .seqDetect h ∧ s.accJob (hemUnit h) 0x81 = some j ∧ r = seqDetect j (AccRun.start s j))) → info = packedInfo r →
    (∀ x, r.stall = some x → exec c s = .next (s.stallOn x)) ∧
    (r.stall = none → (r.stop = none → r.spoiled = false → j.outCount = 0 → exec c s
      = .next (r.st.reportJob r.job ⟨codeDone, r.result, fieldAt info 0 8, false⟩)) ∧
    (∀ k, r.stop = some k → k ≠ codePoison → exec c s
      = .next (r.st.reportJob r.job ⟨k, r.result, fieldAt info 0 8, false⟩)) ∧
    (r.stop = some codePoison → exec c s = .next (((r.st.reportJob r.job
      ⟨codePoison, r.result, fieldAt info 0 8, false⟩).resetHem h).hemEvent h 0 0x04)))) ∧
  (∀ (s t : State) (h i : Nat) (w : List Carried) (e : Intake) (y : HemStream) (x : HemShape) (tick : Nat),
    s.intakeHead h 0 = true → s.popQueue (s.rf HEM_CFG_INQ h) (hemUnit h) = (.entry w, t) → e = intakeOf w →
    i = streamIx h e.stream → y = t.stream i → x = t.shape i → tick = fullTick (t.hemTick h) e.tick →
    (e.ok = true → t.bit HEM_SCFG_ENABLE i = true → t.bit HEM_SCFG_DIR i = false → t.onGrid x tick = true →
      (∀ d, y.done = some d → d < tick) → exec (.hemIntakeEntry h) s = .next (t.setStream i { y with
        runs := ⟨tick, e.count, e.pos⟩ ::
          y.runs.filter (fun r => decide (tick < r.first + (r.count + 2 ^ t.rf HEM_SCFG_RING_LOG2 i) * x.d)) })) ∧
    (e.ok = false ∨ t.bit HEM_SCFG_ENABLE i = false ∨ t.onGrid x tick = false ∨ (∃ d, y.done = some d ∧ tick ≤ d) →
      exec (.hemIntakeEntry h) s = .next ((t.incf HEM_DISCARDS_COUNT h).hemEvent h e.stream 0x01))) ∧
  (∀ (s t : State) (h st p u i row tick : Nat) (x : HemShape) (vals : List (Option (Int × Int))) (v y : List (Int × Int)),
    s.hemOwner h = some p → s.windowOpen h st = true → i = streamIx h st → tick = (s.stream i).next → x = s.shape i →
    s.windowComplete i tick = true → s.fftReserved u = true → (u - 0x600) / 39 = h →
    (∀ x, s.streamStops h st = some x → exec (.hemWindowProcess h st u) s = .next (s.stallOn x)) ∧
    (s.streamStops h st = none →
    row = s.gridRow i (x.position (s.symAt x tick)).2.1 (x.position (s.symAt x tick)).2.2 →
    s.readSamples h p i x.d (s.windowStart i tick) x.n = (vals, t) →
    v = vals.map (fun o => o.getD (0, 0)) → y = (v.map (gained (linearGain (t.gain i)))).map (fun e => e.1) →
    (vals.any Option.isNone = true → exec (.hemWindowProcess h st u) s
      = .next ((((t.writeRow h p row (.inr (4 * t.rf HEM_SCFG_NSC i))).lostWindow h st tick true).hemEvent h st 0x04).resetAcc
          u 0x01)) ∧
    (vals.any Option.isNone = false → exec (.hemWindowProcess h st u) s
      = .next ((t.writeRow h p row (.inl ((t.windowRow i y).flatMap (fun e => pairBytes e.1)))).endWindow h st tick
          ⟨(windowLevel v (t.rf HEM_SAGC1_BURST i) (t.stream i).level).1,
           ((v.map (gained (linearGain (t.gain i)))).map (fun e => e.2)).sum,
           (windowLevel v (t.rf HEM_SAGC1_BURST i) (t.stream i).level).2, false, false,
           (t.windowRow i y).any (fun e => e.2)⟩)))) ∧
  (∀ (s : State) (h st p i row tick : Nat) (x : HemShape), s.hemOwner h = some p → s.windowOpen h st = true →
    i = streamIx h st → tick = (s.stream i).next → x = s.shape i → s.windowComplete i tick = false →
    s.windowEnd i tick + s.rf HEM_BUDGET_TICKS h ≤ s.hemTick h →
    (∀ x, s.streamStops h st = some x → exec (.hemWindowMissing h st) s = .next (s.stallOn x)) ∧
    (s.streamStops h st = none → row = s.gridRow i (x.position (s.symAt x tick)).2.1 (x.position (s.symAt x tick)).2.2 →
    exec (.hemWindowMissing h st) s = .next ((((s.writeRow h p row (.inl (valBytes (4 * s.rf HEM_SCFG_NSC i) 0))).lostWindow
      h st tick false).incf HEM_MISSING_COUNT h).hemEvent h st 0x02))) ∧
  (∀ (s t : State) (h p f st : Nat) (fs : List Nat) (w : List Carried), s.hemOwner h = some p → s.intakeHead h 1 = true → s.reservedFfts h = f :: fs →
    st = (intakeOf (s.peek (s.rf HEM_CFG_INQ h) 0)).stream →
    (∀ x, s.streamStops h st = some x → exec (.hemTransmitRequest h) s = .next (s.stallOn x)) ∧
    (s.streamStops h st = none → s.popQueue (s.rf HEM_CFG_INQ h) (hemUnit h) = (.entry w, t) →
      exec (.hemTransmitRequest h) s = .next (t.transmit h p f (intakeOf w)))) ∧
  (∀ (s x : State) (u h st i : Nat) (v : Half), s.islandStops (islandOf (0x740 + h)) = false →
    s.mayWriteHem u h = true → st < 32 → s.usable (hemUnit h) = true → i = streamIx h st →
    (s.bit HEM_SCFG_ENABLE i = true → s.bit HEM_SCFG_DIR i = false → exec (.hemSgainWrite u h st v) s
      = .next (s.setStream i { s.stream i with gain := some (v.toNat % 65536) })) ∧
    (s.bit HEM_SCFG_ENABLE i = false ∨ s.bit HEM_SCFG_DIR i = true → exec (.hemSgainWrite u h st v) s
      = .next (s.sf HEM_SGAIN_G i v.toNat)) ∧
    (s.bit HEM_SCFG_ENABLE i = true → exec (.hemStreamDisable u h st v) s
      = .next ((s.sf HEM_SCFG_ENABLE i 0).quietStream i)) ∧
    (s.bit HEM_SCFG_ENABLE i = false → x = ((((((s.sf HEM_SCFG_DIR i 0).sf HEM_SCFG_HALF i 0).sf HEM_SCFG_AGC i 1).sf
        HEM_SCFG_CARRIER i 3).sf HEM_SCFG_LOG2N i 9).sf HEM_SCFG_RING_LOG2 i 13).sf HEM_SCFG_NSC i 12 →
      (x.streamValid i = true → exec (.hemStreamEnable u h st 0x10E5A00C) s
        = .next ((x.sf HEM_SCFG_ENABLE i 1).clearStream i (x.hemTick h))) ∧
      (x.streamValid i = false → exec (.hemStreamEnable u h st 0x10E5A00C) s = .next (x.hemEvent h st 0x03)))) ∧
  (∀ (s : State) (u h : Nat) (v : Half) (j : Job), s.islandStops (islandOf (0x740 + h)) = false → s.mayWriteHem u h = true → s.usable (hemUnit h) = true →
    (s.runningOn (hemUnit h) = none → exec (.hemSreset u h v) s = .next (s.resetHem h)) ∧
    (s.runningOn (hemUnit h) = some j → j.report = none → exec (.hemSreset u h v) s
      = .next ((s.reportJob j.id ⟨codeAborted, 0, 0, false⟩).resetHem h)))

/-- Lanes enable, calibrate, adapt, train, align, lose and regain signal, change power, test and retire as their rules say. -/
def Obligations.LaneCommandsComplete : Prop :=
  (∀ (s x : State) (u n k : Nat) (v : Half), s.islandStops (laneIsland n) = false → s.mayWriteLane u n = true → s.die.variant.lanePresent n = true →
    (s.bit LANE_CTRL_ENABLE n = false → k = (v ||| 0x80000000).toNat →
      x = ((((((s.sf LANE_CTRL_PLL_SEL n (k / 2 ^ 30)).sf LANE_CTRL_MODE n (k / 2 ^ 28)).sf LANE_CTRL_LOOP n (k / 2 ^ 26)).sf
        LANE_CTRL_TRAIN_EN n (k / 2 ^ 25)).sf LANE_CTRL_POL_TX n (k / 2 ^ 24)).sf LANE_CTRL_POL_RX n (k / 2 ^ 23)).sf
        LANE_CTRL_PRECODE n (k / 2 ^ 22) → x.seamActive n = true ∨
        (k / 2 ^ 20 % 4 = x.rf LANE_CTRL_TX_PWR n ∧ k / 2 ^ 18 % 4 = x.rf LANE_CTRL_RX_PWR n) →
      (x.laneEnableOk n = true → exec (.laneEnable u n v) s = .next ((x.sf LANE_CTRL_ENABLE n 1).enterLane n laneCal)) ∧
      (x.laneEnableOk n = false → exec (.laneEnable u n v) s = .next (x.laneEvent n 0x04))) ∧
    (s.bit LANE_CTRL_ENABLE n = true → s.seamActive n = true → (s.disableLane n).seamActive n = true →
      exec (.laneDisable u n v) s = .next (s.disableLane n)) ∧
    (s.bit LANE_CTRL_ENABLE n = true → s.seamActive n = true → natBit v.toNat 31 = true →
      exec (.laneRetrain u n v) s = .next ((s.sf LANE_STATE_LOS n 0).enterLane n laneAdapt)) ∧
    (s.bit LANE_CTRL_ENABLE n = true → s.seamActive n = false → s.rf LANE_CTRL_TX_PWR n = 0 → s.rf LANE_CTRL_RX_PWR n = 0 →
      exec (.lanePowerRequest u n 0x80100000 false) s = .next ((s.sf LANE_CTRL_TX_PWR n 1).applyDeferred n)) ∧
    (∀ y, k = (v ||| 0x100000).toNat → y = (((s.sf LANE_TEST_GEN_PAT n (k / 2 ^ 28)).sf LANE_TEST_CHK_PAT n (k / 2 ^ 24)).sf
      LANE_TEST_GEN_EN n (k / 2 ^ 23)).sf LANE_TEST_CHK_EN n (k / 2 ^ 22) →
      s.rf LANE_TEST_GEN_PAT n = k / 2 ^ 28 % 16 → s.bit LANE_TEST_GEN_EN n = natBit k 23 →
      s.rf LANE_TEST_CHK_PAT n = k / 2 ^ 24 % 16 → natBit k 22 = true →
      (y.laneState n = laneTest → y.rf LANE_CTRL_LOOP n = 1 ∨ y.rf LANE_CTRL_LOOP n = 2 →
        exec (.laneInject u n v) s = .next (y.setLane n { y.lane n with inject := true })) ∧
      (y.laneState n ≠ laneTest ∨ y.rf LANE_CTRL_LOOP n = 0 ∨ y.rf LANE_CTRL_LOOP n = 3 →
        exec (.laneInject u n v) s = .next (y.send (.laneInvert n))))) ∧
  (∀ (s : State) (n eye : Nat), s.bit LANE_CTRL_ENABLE n = true →
    (s.laneState n = laneCal → exec (.laneCalDone n) s = .next ((s.sf (if s.bit LANE_CTRL_PLL_SEL n then LQ_PLL_B_LOCKED
      else LQ_PLL_A_LOCKED) (n / 4) 1).enterLane n laneAdapt)) ∧
    (s.laneState n = laneAdapt → ∀ x, x = s.sf LANE_EYE_EYE_MV n eye →
      (x.rf LANE_CTRL_MODE n = 1 → exec (.laneAdaptDone n eye) s = .next (((x.setLane n { x.lane n with loopWords := 32, inject := false }).enterLane n
          laneTest).startGenerator n)) ∧
      (x.rf LANE_CTRL_MODE n ≠ 1 → x.bit LANE_CTRL_TRAIN_EN n = true → exec (.laneAdaptDone n eye) s
        = .next ((((x.setTaps n [0, 0, 0, 0]).setLane n
          { x.lane n with ack := 0, tap := 0, result := 0, farReady := false, control := 0, readySent := 0, heard := 0,
                          heardFor := 0 }).enterLane n laneTraining).sendTraining n false)) ∧
      (x.rf LANE_CTRL_MODE n ≠ 1 → x.bit LANE_CTRL_TRAIN_EN n = false → exec (.laneAdaptDone n eye) s
        = .next (x.enterLane n laneAligning))) ∧
    (s.laneState n = laneTraining →
      ((s.lane n).farReady = true → 3 ≤ (s.lane n).readySent → exec (.laneTrainingDone n) s
        = .next ((s.sendTraining n true).enterLane n laneAligning)) ∧
      ((s.lane n).since + s.ob oLANES_TRAIN_TIMEOUT_MS * 122880 < s.tb.count → exec (.laneTrainTimeout n) s
        = .next ((((s.enterLane n laneFailed).incf LANE_TRAIN_FAILS_COUNT n).laneEvent n 0x03).laneFailure n)) ∧
      (∀ (preset : Nat) (x : Lane) (y : State) (st : BitVec 16), 1 ≤ preset → preset ≤ 4 → (s.lane n).result = 0 →
        (s.lane n).heard = preset * 2 ^ 13 → (s.lane n).heardFor = 2 → (s.lane n).control = 1 →
        x = { s.lane n with heardFor := 3, readySent := (s.lane n).readySent + 1 } → y = s.setLane n x →
        exec (.trainingRequestAccept n [(BitVec.ofNat 16 (preset * 2 ^ 13), st)]) s
          = .next (((y.setTaps n (lanePreset preset)).setLane n
              { x with farReady := false, ack := preset, tap := 0, result := 1 }).sendTraining n false))) ∧
    (s.laneState n = laneFailed → (s.lane n).since + ticksPerSecond ≤ s.tb.count →
      exec (.laneFailedRetry n) s = .next (s.enterLane n laneAdapt)) ∧
    (∀ (input : LineInput) (y : State), s.laneHears n = true → inputFits (s.laneRate n) input = true →
      (s.laneState n = laneAligning → y = s.setLane n { s.lane n with search := (s.lane n).search.seek input } →
        ((y.lane n).search.aligned = true → exec (.laneAligned ⟨n, input⟩) s = .next (y.enterLane n laneUp)) ∧
        ((y.lane n).search.aligned = false → exec (.laneAligned ⟨n, input⟩) s = .next y)) ∧
      (s.laneState n = laneUp → y = s.setLane n { s.lane n with search := (s.lane n).search.watch input } →
        ((y.lane n).search.lost = true → exec (.laneAlignLost ⟨n, input⟩) s
          = .next ((((y.enterLane n laneAligning).incf LANE_ALIGN_LOSS_COUNT n).laneEvent n 0x02).laneFailure n)) ∧
        ((y.lane n).search.lost = false → exec (.laneAlignLost ⟨n, input⟩) s = .next y))) ∧
    (s.losArmed n = true → exec (.laneLos n) s = .next ((s.sf LANE_STATE_LOS n 1).laneEvent n 0x01)) ∧
    (s.bit LANE_STATE_LOS n = true → exec (.laneSignalReturn n) s = .next ((s.sf LANE_STATE_LOS n 0).enterLane n laneAdapt)) ∧
    (s.laneState n = laneTest → s.rf LANE_CTRL_LOOP n = 3 → ∀ (drift w : Int) (y : State), w = (s.lane n).loopWords + drift →
      y = s.setLane n { s.lane n with loopWords := (max 0 (min w 64)).toNat } →
      (0 ≤ w → w ≤ 64 → exec (.loopbackSlip ⟨n, drift⟩) s = .next y) ∧
      (w < 0 ∨ 64 < w → exec (.loopbackSlip ⟨n, drift⟩) s = .next (y.laneEvent n 0x06))) ∧
    (s.bit LANE_TEST_CHK_EN n = true → s.rf LANE_TEST_CHK_PAT n ≤ 10 →
      ∀ (line inverted l : List Bool) (looped : Nat) (t : State) (r : CheckResult),
      s.receivedBits n line looped inverted = (l, t) →
      r = checkBits (t.rf LANE_TEST_CHK_PAT n) (BitVec.ofNat 64 (t.rf LANE_USERPAT_PATTERN n)) (t.bit LANE_TEST_CHK_LOCK n)
        (t.lane n).check l →
      exec (.checkerLock n line looped inverted) s = .next ((((t.incf LANE_BITS_COUNT n r.bits).incf LANE_ERRS_COUNT n r.errors).setLane n
        { t.lane n with check := r.check }).sf LANE_TEST_CHK_LOCK n r.locked.toNat))) ∧
  (∀ (s : State) (n : Nat),
    (s.rf LANE_CTRL_TX_PWR n = 0 → s.rf LANE_STATE_TX_PWR_NOW n = 1 →
      exec (.lanePowerWakeDone n true) s = .next (s.sf LANE_STATE_TX_PWR_NOW n 0)) ∧
    (s.rf LANE_CTRL_RX_PWR n = 0 → s.rf LANE_STATE_RX_PWR_NOW n = 1 →
      exec (.lanePowerWakeDone n false) s = .next ((s.sf LANE_STATE_RX_PWR_NOW n 0).answerWake n)) ∧
    exec (.laneRetire n) s = .next (s.retireLane n) ∧
    (n < 66 → exec (.lanesRetireCommand n) s = .next (s.retireLane n 3)) ∧
    exec (.lanesRetireCommand 0xFF) s = .next s) ∧
  (∀ (s x : State) (u k i : Nat) (v : Half), s.islandStops (laneIsland (4 * k)) = false →
    (isThimble u = true ∨ isPf0 u = true) → (quadLanes k).any s.die.variant.lanePresent = true → s.bit LQ_PLL_A_ENABLE k = false →
    i = (v ||| 0x80000000).toNat → x = (s.sf LQ_PLL_A_RATE k (i / 2 ^ 16)).sf LQ_PLL_A_SPREAD_PPM k i →
    x.rf LQ_PLL_A_SPREAD_PPM k = 0 → (quadLanes k).any (fun n => x.rateAllowed n (x.rf LQ_PLL_A_RATE k)) = true →
    exec (.pllEnable u k false v) s = .next ((x.sf LQ_PLL_A_ENABLE k 1).sf LQ_PLL_A_LOCKED k 1)) ∧
  (∀ (s : State) (k : Nat), s.bit LQ_PLL_A_ENABLE k = true → s.bit LQ_PLL_A_LOCKED k = true →
    exec (.pllLockLost k false) s = .next ((quadLanes k).foldl (fun s n =>
      if s.bit LANE_CTRL_ENABLE n && s.bit LANE_CTRL_PLL_SEL n == false then (s.laneEvent n 0x07).enterLane n laneCal else s)
      (s.sf LQ_PLL_A_LOCKED k 0)))

/-- Ports, stream-table commands, frames, symbols and CPRI links act as their rules say. -/
def Obligations.FronthaulCommandsComplete : Prop :=
  (∀ (s x : State) (u p k : Nat) (v : Half), s.islandStops 72 = false → s.die.variant.lanePresent p = true →
    (isThimble u = true ∨ isPf0 u = true) → p < 48 →
    s.bit FH_PORT_CTRL_ENABLE p = false → k = (v ||| 0x80000000).toNat → 1500 ≤ k / 2 ^ 11 % 2 ^ 14 → k / 2 ^ 11 % 2 ^ 14 ≤ 9194 →
    x = (((s.sf FH_PORT_CTRL_SPEED p (k / 2 ^ 28)).sf FH_PORT_CTRL_LANES p (k / 2 ^ 26)).sf FH_PORT_CTRL_FEC p
      (k / 2 ^ 25)).sf FH_PORT_CTRL_MTU p (k / 2 ^ 11 % 2 ^ 14) →
    (x.portValid p = true → exec (.fhPortEnable u p v) s = .next ((x.sf FH_PORT_CTRL_ENABLE p 1).refreshPort p 0x01)) ∧
    (x.portValid p = false → exec (.fhPortEnable u p v) s = .next (x.portEvent p 0x03))) ∧
  (∀ (s : State) (p : Nat) (a b : Bool), s.bit FH_PORT_CTRL_ENABLE p = true → exec (.pcsRemoteFault p a b) s
    = .next (((s.sf FH_PORT_STATE_LOCAL_FAULT p a.toNat).sf FH_PORT_STATE_REMOTE_FAULT p b.toNat).refreshPort p 0x01)) ∧
  (∀ (s z x : State) (p sub n uc : Nat) (l : List Byte), s.portHears p = true → n = l.length →
    z = (if s.bit FH_PORT_CTRL_FEC p then s.incf FH_FEC_UNCORR_COUNT p uc else s) →
    x = (z.incf FH_RX_FRAMES_COUNT p).incf FH_RX_BYTES_COUNT p n →
    (∀ i, s.frameStops p l = some i → exec (.frameReceive p sub ⟨l, uc⟩) s = .next (s.stallOn i)) ∧
    (s.frameStops p l = none →
    (l.drop (n - 4) ≠ ethernetFcs (l.take (n - 4)) → exec (.frameReceive p sub ⟨l, uc⟩) s
      = .next (z.incf FH_RX_FCS_ERR_COUNT p)) ∧
    (l.drop (n - 4) = ethernetFcs (l.take (n - 4)) → x.ingressBytes p + n ≤ 262144 → n < 64 →
      exec (.frameReceive p sub ⟨l, uc⟩) s = .next (x.incf FH_RX_OTHER_COUNT p)) ∧
    (l.drop (n - 4) = ethernetFcs (l.take (n - 4)) → x.ingressBytes p + n ≤ 262144 → 64 ≤ n →
      n ≤ x.rf FH_PORT_CTRL_MTU p + 22 → (parseFrame l).ethertype = 0x88F7 → natBit (x.ob oTIME_PTP_PORT_MASK) p = true →
      exec (.frameReceive p sub ⟨l, uc⟩) s
        = .next (x.send (.thimbleFrame p (x.stamp FH_PORT_RX_CORR_PS p (sub % 16)) l))))) ∧
  (∀ (s x : State) (u p i : Nat) (e : StEntry), s.islandStops 72 = false → s.mayWritePart u p = true → i < 2 ^ 15 →
    (x = (s.sf FH_ST_CMD_INDEX p i).sf FH_ST_CMD_OP p 1 →
      (x.stWriteStatus p i = 0 → exec (.stWrite u p i) s
        = .next ((x.setSt i (x.stagedEntry p)).sf FH_ST_CMD_STATUS p 0)) ∧
      (∀ k, x.stWriteStatus p i = k + 1 → exec (.stWrite u p i) s
        = .next ((x.sf FH_ST_CMD_STATUS p (k + 1)).raise (0x08B8 + p)))) ∧
    (x = (s.sf FH_ST_CMD_INDEX p i).sf FH_ST_CMD_OP p 2 → e = x.st i →
      (x.entryOwner i = some p → exec (.stRead u p i) s = .next (((((x.sf FH_ST_DATA0_W p e.w0).sf FH_ST_DATA1_W p e.w1).sf
        FH_ST_DATA2_W p e.w2).sf FH_ST_DATA3_W p e.w3).sf FH_ST_CMD_STATUS p 0)) ∧
      (x.entryOwner i ≠ some p → exec (.stRead u p i) s = .next ((x.sf FH_ST_CMD_STATUS p 1).raise (0x08B8 + p)))) ∧
    (x = (s.sf FH_ST_CMD_INDEX p i).sf FH_ST_CMD_OP p 3 → e = (x.abandonSymbols i).st i →
      (x.entryOwner i = some p → exec (.stInvalidate u p i) s
        = .next (((x.abandonSymbols i).setSt i { e with w0 := e.w0 % 2 ^ 63 }).sf FH_ST_CMD_STATUS p 0)) ∧
      (x.entryOwner i ≠ some p → exec (.stInvalidate u p i) s
        = .next ((x.sf FH_ST_CMD_STATUS p 1).raise (0x08B8 + p))))) ∧
  (∀ (s x : State) (i : Nat) (y : UpSymbol) (missing : List Nat),
    s.fh.ups.find? (fun y => y.entry == i && decide (y.close ≤ s.fhTick)) = some y → y.closed = false →
    x = s.setFh { s.fh with ups := s.fh.ups.erase y } →
    missing = ((List.range (x.st i).nprb).map (fun n => (x.st i).prbStart + n)).filter (fun n => !y.prbs.contains n) →
    missing.findSome? (fun n => x.accessStops (portUnit (x.st i).port) ((x.st i).prbAddr y.slot y.sym n) 48) = none →
    exec (.uplinkSymbolClose i) s = .next ((missing.foldl (fun t n => (t.writeBytes ((x.st i).prbAddr y.slot y.sym n)
      (portUnit (x.st i).port) (List.replicate 48 0)).2) x).pushSymbol y missing.length false)) ∧
  (∀ (s t : State) (p since : Nat) (e : List Carried), s.portSends p = true →
    (Tab.get none s.fh.held p = some e → exec (.cplaneSend p) s
      = .next ((s.setFh { s.fh with held := s.fh.held.set p none }).sendCplane p e)) ∧
    (Tab.get none s.fh.held p = none → s.cplaneDue p = some since →
      (∀ d, s.nextDown p = some d → s.downSince d ≤ since) →
      s.popQueue (s.rf FH_PORT_QUEUES_TXQ_C p) (portUnit p) = (.entry e, t) →
      (since = 0 → exec (.cplaneSend p) s = .next (t.sendCplane p e)) ∧
      (since ≠ 0 → exec (.cplaneSend p) s = .next (t.incf FH_TX_LATE_COUNT p)))) ∧
  (∀ (s t : State) (p i frame : Nat) (e : List Carried) (x : StEntry) (n : Numerology), s.bit FH_PORT_STATE_UP p = true →
    s.popQueue (s.rf FH_PORT_TXQ_U_TXQ_U p) (portUnit p) = (.entry e, t) →
    i = fieldAt (carriedBytes e) 0 2 → x = t.st i →
    (x.valid = false ∨ x.port ≠ p → exec (.downlinkRequest p) s = .next (t.refuseTx p)) ∧
    ((e.take 7).all Option.isSome = true → i < 32768 → x.valid = true → x.dir = 1 → x.port = p →
      fieldAt (carriedBytes e) 2 2 < 16384 → (((carriedBytes e).drop 7).take 49).all (fun b => b == 0) = true →
      n = t.carNum x.carrier → fieldAt (carriedBytes e) 6 1 < 20 * n.perHalf / n.perSlot →
      frame = (((t.carRel x.carrier t.fhTick / frameTicks : Nat) : Int)
        + toSigned 10 ((fieldAt (carriedBytes e) 4 2 % 1024 + 1024 - t.carRel x.carrier t.fhTick / frameTicks % 1024)
          % 1024)).toNat →
      exec (.downlinkRequest p) s = .next (((bitsSet 14 (fieldAt (carriedBytes e) 2 2)).filter
        (fun m => decide (m < n.perSlot))).foldl (fun s m =>
          let start := s.carTick x.carrier
            (n.symbolTick (frame * (20 * n.perHalf) + fieldAt (carriedBytes e) 6 1 * n.perSlot + m))
          if start < s.fhTick + x.winLate then s.incf FH_TX_LATE_COUNT p
          else s.setFh { s.fh with downs := s.fh.downs ++ [⟨p, i, frame % 1024, fieldAt (carriedBytes e) 6 1, m, start⟩] })
        t))) ∧
  (∀ (s x : State) (p : Nat) (d : DownSymbol), s.nextDown p = some d → s.portSends p = true →
    (Tab.get none s.fh.held p).isSome = false → (∀ since, s.cplaneDue p = some since → (since : Int) < s.downSince d) →
    d.start ≤ s.fhTick + (s.st d.entry).winEarly → x = s.setFh { s.fh with downs := s.fh.downs.erase d } →
    (∀ i, s.downStops d = some i → exec (.downlinkSymbolSend p) s = .next (s.stallOn i)) ∧
    (s.downStops d = none → (x.fhTick + (s.st d.entry).winLate ≤ d.start → (s.st d.entry).valid = true → (s.st d.entry).dir = 1 →
      exec (.downlinkSymbolSend p) s = .next (x.sendDown d)) ∧
    (d.start < x.fhTick + (s.st d.entry).winLate → exec (.downlinkSymbolSend p) s
      = .next (x.incf FH_TX_LATE_COUNT p)))) ∧
  (∀ (s x : State) (u n k : Nat) (v : Half), s.islandStops 72 = false → s.die.variant.lanePresent n = true → s.mayWriteCpri u n = true → k = (v ||| 0x80000000).toNat →
    x = ((s.sf CPRI_CFG_L1_RESET n (k / 2 ^ 30)).sf CPRI_CFG_PVER n (k / 2 ^ 27)).sf CPRI_CFG_CARRIER n (k / 2 ^ 21) →
    x.bit CPRI_CFG_ENABLE n = false → x.cpriAllowed n = true →
    exec (.cpriEnable u n v) s = .next ((x.sf CPRI_CFG_ENABLE n 1).setCpri n { Cpri.idle with last := x.tb.count })) ∧
  (∀ (s : State) (n : Nat) (c : Cpri), s.bit CPRI_CFG_ENABLE n = true → c = s.cpri n →
    (∀ (sub hfn bfn : Nat) (rai : Bool), s.laneHearsData n = true → exec (.cpriHyperframeRx n sub hfn bfn rai) s
      = .next ((((((s.setCpri n { c with good := if hfn = (s.rf CPRI_RX_HF_HFN n + 1) % 150 then c.good + 1 else 1
                                         last := s.tb.count }).sf CPRI_RX_TS_TICKS n s.tb.count).sf CPRI_RX_TS_SUB n sub).sf
          CPRI_RX_HF_HFN n hfn).sf CPRI_RX_HF_BFN n bfn).sf CPRI_STATE_FAR_RAI n rai.toNat)) ∧
    (s.bit CPRI_STATE_HFSYNC n = false → 3 ≤ c.good → exec (.cpriHfsyncAchieved n) s
      = .next ((s.sf CPRI_STATE_HFSYNC n 1).sendL1 n)) ∧
    (s.bit CPRI_STATE_HFSYNC n = true → c.last + 3 * 8192 < s.tb.count → exec (.cpriHfsyncLost n) s
      = .next ((((s.sf CPRI_STATE_HFSYNC n 0).setCpri n { c with good := 0 }).sendL1 n).cpriEvent n 0x01)) ∧
    (∀ (x hfn bfn : Nat) (ctl iq : List Byte) (e : List (List Byte)), s.bit CPRI_STATE_HFSYNC n = true → s.laneHearsData n = true →
      e = cpriEntries x hfn bfn (if cpriTerminated x then ctl.drop 1 else ctl) iq →
      (s.framingRuns n = true → exec (.cpriBasicFrameRx n x hfn bfn ctl iq true) s = .next ((c.waiting ++ [e]).foldl
        (fun t w => t.send (.cpriPatch n w)) (s.setCpri n { c with waiting := [] }))) ∧
      (c.waiting.length < 64 → exec (.cpriBasicFrameRx n x hfn bfn ctl iq false) s
        = .next (s.setCpri n { c with waiting := c.waiting ++ [e] })) ∧
      (64 ≤ c.waiting.length → exec (.cpriBasicFrameRx n x hfn bfn ctl iq false) s
        = .next ((s.incf CPRI_RX_OVERFLOW_COUNT n).cpriEvent n 0x02))) ∧
    (∀ (rel x w bfn hfn : Nat) (ctl iq : List Byte), rel = s.carRel (s.rf CPRI_CFG_CARRIER n) s.tb.count →
      bfn = (rel / frameTicks + 3072) % 4096 → hfn = rel % frameTicks / 8192 →
      x = rel % 8192 / 32 → w = cpriWordBytes (s.laneRate n) → s.laneSendsData n = true →
      (cpriTerminated x = false → s.framingRuns n = true → exec (.cpriBasicFrameTx n (some (ctl, iq))) s = .next (s.send
        (.cpriFrame n bfn hfn x (ctl ++ iq)))) ∧
      (cpriTerminated x = true → s.framingRuns n = true → exec (.cpriBasicFrameTx n (some (ctl, iq))) s = .next (s.send
        (.cpriFrame n bfn hfn x (s.cpriControl n x hfn bfn :: ctl.drop 1 ++ iq)))) ∧
      (cpriTerminated x = false → exec (.cpriBasicFrameTx n none) s = .next (((s.send (.cpriFrame n bfn hfn x
        (List.replicate w 0 ++ List.replicate (15 * w) 0))).incf CPRI_TX_UNDERRUN_COUNT n).cpriEvent n 0x03))))

/-- A Seam link enables, identifies its peer, sends, receives, acknowledges and replays units, and powers lanes as stated. -/
def Obligations.SeamLinkCommandsComplete : Prop :=
  (∀ (s x : State) (u l k : Nat) (v : Half), s.islandStops 73 = false → s.die.variant.boltMax ≠ 0 →
    (isThimble u = true ∨ isPf0 u = true) → s.bit SEAM_LINK_CTRL_ENABLE l = false →
    k = (v ||| 0x80000000).toNat → x = s.sf SEAM_LINK_CTRL_SLOT_MASK l k →
    ((bitsSet 8 k).all (fun j => x.slotUsable j && !x.slotTaken l j) = true → exec (.seamLinkEnable u l v) s
      = .next (((x.sf SEAM_LINK_CTRL_ENABLE l 1).sf SEAM_LINK_STATE_STATE l linkLanes).refreshLink l)) ∧
    ((bitsSet 8 k).all (fun j => x.slotUsable j && !x.slotTaken l j) = false → exec (.seamLinkEnable u l v) s
      = .next (x.linkEvent l 0x05))) ∧
  (∀ (s x y : State) (l n : Nat) (e : Bool) (h : List (BitVec 80)) (drift w : Int), s.bit SEAM_LINK_CTRL_ENABLE l = true →
    (s.linkLaneList l).contains n = true → s.laneHearsData n = true →
    w = max (-16) (min 16 (Tab.get 0 (s.slink l).elastic n + drift)) →
    x = s.setLink l { s.slink l with elastic := (s.slink l).elastic.set n w } →
    y = s.setLink l { s.slink l with elastic := (s.slink l).elastic.set n (elasticLevel w h) } →
    exec (.seamCodewordReceive ⟨l, n⟩ e true ⟨h, drift⟩) s = .next (x.incf SEAM_CW_UNCORR_COUNT l) ∧
    exec (.seamCodewordReceive ⟨l, n⟩ true false ⟨h, drift⟩) s
      = .next ((y.incf SEAM_CW_CORR_COUNT l).incf SEAM_BAD_BLOCKS_COUNT 0 (h.filter badBlock).length) ∧
    exec (.seamCodewordReceive ⟨l, n⟩ false false ⟨h, drift⟩) s = .next (y.incf SEAM_BAD_BLOCKS_COUNT 0 (h.filter badBlock).length)) ∧
  (∀ (s x : State) (l self id pl next : Nat) (ld : Bool) (reason : Option Nat), s.bit SEAM_LINK_CTRL_ENABLE l = true →
    (s.rf SEAM_LINK_STATE_STATE l = linkIdent ∨ s.rf SEAM_LINK_STATE_STATE l = linkUp ∨
      s.rf SEAM_LINK_STATE_STATE l = linkForeign) → s.identFinds l id (self % 8) = (next, reason) →
    x = (s.sf SEAM_LINK_STATE_PEER l self).sf SEAM_LINK_STATE_PEER_VALID l 1 →
    (next = s.rf SEAM_LINK_STATE_STATE l → exec (.seamIdentReceive l self id pl ld) s = .next x) ∧
    (∀ r, next ≠ s.rf SEAM_LINK_STATE_STATE l → reason = some r → exec (.seamIdentReceive l self id pl ld) s
      = .next ((x.sf SEAM_LINK_STATE_STATE l next).linkEvent l r))) ∧
  (∀ (s y : State) (l : Nat) (x z : SeamLink) (h : SeamHeader) (u : SeamUnit) (route : BitVec 80) (errors : List (BitVec 80)),
    s.linkIsUp l = true → x = s.slink l → h.ackValid = false →
    y = s.setLink l { x with
      spent := x.spent.set (h.crVc * 8 + h.crHop) (Tab.get 0 x.spent (h.crVc * 8 + h.crHop) - h.crCount) } → z = y.slink l →
    (∀ t, h.seq % 4096 = x.expected → s.unitStalls l { u with src := u.src % 8, dest := u.dest % 8 } route = some t →
      exec (.seamUnitReceive l h u route errors) s = .next t) ∧
    (h.seq % 4096 = x.expected → s.unitStalls l { u with src := u.src % 8, dest := u.dest % 8 } route = none →
      exec (.seamUnitReceive l h u route errors) s
      = .next ((y.setLink l { z with expected := (x.expected + 1) % 4096, unacked := x.unacked + 1, nak := none }).takeUnit l
          { u with src := u.src % 8, dest := u.dest % 8 } route errors)) ∧
    (0 < (h.seq % 4096 + 4096 - x.expected) % 4096 → (h.seq % 4096 + 4096 - x.expected) % 4096 < 2048 →
      (x.nak = none → exec (.seamUnitReceive l h u route errors) s
        = .next ((y.setLink l { z with nak := some s.tb.count }).sendControl l (.seamNak l x.expected))) ∧
      (x.nak.isSome = true → exec (.seamUnitReceive l h u route errors) s = .next y)) ∧
    (2048 ≤ (h.seq % 4096 + 4096 - x.expected) % 4096 → exec (.seamUnitReceive l h u route errors) s
      = .next (y.setLink l { z with unacked := x.unacked + 1 }))) ∧
  (∀ (s t : State) (l lane : Nat) (x : SeamLink) (u : SeamUnit) (q : List SeamUnit), s.linkIsUp l = true →
    t = s.wakeLanes l → x = t.slink l → x.queue.find? (t.sendable l) = some u → t.unitLane l = some lane →
    x.replay.length < 1024 → q = x.queue.erase u →
    exec (.seamUnitSend l) s = .next ((t.setLink l { x with
      queue := q
      idleSince := if q.length = 1 then t.tb.count else x.idleSince
      replay := x.replay ++ [(x.nextSeq, u)]
      progress := if x.replay.isEmpty then t.tb.count else x.progress
      nextSeq := (x.nextSeq + 1) % 4096
      spent := x.spent.set (bufferOf u) (Tab.get 0 x.spent (bufferOf u) + 1) }).emit l lane x.nextSeq u)) ∧
  (∀ (s : State) (l n : Nat) (x : SeamLink), s.linkIsUp l = true → x = s.slink l →
    (0 < x.unacked → exec (.seamAckSend l) s
      = .next ((s.setLink l { x with unacked := 0 }).sendControl l (.seamAck l ((x.expected + 4095) % 4096)))) ∧
    exec (.seamAckReceive l n) s = .next (s.acked l n) ∧
    exec (.seamNakReceive l n) s = .next (s.resend l n) ∧
    (∀ t, x.nak = some t → t + twoMicros ≤ s.tb.count → exec (.seamNakResendTimeout l) s
      = .next ((s.setLink l { x with nak := some s.tb.count }).sendControl l (.seamNak l x.expected))) ∧
    (∀ u r, x.replay = (n, u) :: r → x.progress + twoMicros ≤ s.tb.count → exec (.seamReplayTimeout l) s
      = .next (s.resend l n)) ∧
    (∀ lane, s.linkOf lane = some l → s.bit SEAM_LINK_PWR_SLEEP_EN l = true → s.laneState lane = laneUp →
      s.keeper l ≠ some lane → x.quiet.contains lane = false → x.queue.length ≤ 1 →
      x.idleSince + s.rf SEAM_LINK_PWR_IDLE_TICKS l ≤ s.tb.count → exec (.seamLaneQuiet lane) s
        = .next (((s.setLink l { x with quiet := x.quiet ++ [lane] }).sendControl l (.seamPower l 0 (s.laneIndex l lane))).requestPower
            lane true 1 true)) ∧
    (∀ i lane, (s.linkLaneList l)[i]? = some lane →
      exec (.seamPowerReceive l 0 i) s = .next (s.requestPower lane false 1 true) ∧
      (s.rf LANE_STATE_RX_PWR_NOW lane = 0 → exec (.seamPowerReceive l 1 i) s
        = .next ((s.requestPower lane false 0 true).answerWake lane)) ∧
      (s.rf LANE_STATE_RX_PWR_NOW lane ≠ 0 → exec (.seamPowerReceive l 1 i) s
        = .next (s.requestPower lane false 0 true)) ∧
      (s.rf LANE_CTRL_TX_PWR lane = 0 → exec (.seamPowerReceive l 2 i) s
        = .next (s.setLink l { x with quiet := x.quiet.filter (fun k => k != lane) }))) ∧
    ((s.keeper l).isSome = true → (∀ t, x.timeSent = some t → t + 1024 ≤ s.tb.count) → exec (.seamTimeBlockSend l) s
      = .next ((s.setLink l { x with timeSent := some s.tb.count }).sendControl l (.seamTime l s.now))) ∧
    (s.bit SEAM_LINK_CTRL_ENABLE l = true → (s.keeper l).isSome = true →
      (∀ t, x.identSent = some t → t + superframeTicks ≤ s.tb.count) → exec (.seamIdentBlockSend l) s
        = .next ((s.setLink l { x with identSent := some s.tb.count }).sendControl l
            (.seamIdent l s.self (s.ob oBOLT_ID) (s.ob oBOLT_STATE == 3)))) ∧
    (∀ tick delay d y, d = toSigned 48 ((s.now + 2 ^ 48 - (tick + delay) % 2 ^ 48) % 2 ^ 48) →
      y = s.setSeam { s.seam with offsets := s.seam.offsets.set (s.rf SEAM_LINK_STATE_PEER l) d } →
      y.bit SEAM_BOLT_VALID = false →
      (y.beyondTol d = true → s.beyondTol (Tab.get 0 s.seam.offsets (s.rf SEAM_LINK_STATE_PEER l)) = false →
        exec (.seamTimeReceive l tick delay) s = .next (y.raise 0x0914 (s.rf SEAM_LINK_STATE_PEER l))) ∧
      (y.beyondTol d = false → exec (.seamTimeReceive l tick delay) s = .next y)))

/-- A die forms a bolt alone, and admission runs from JOIN to ADMIT or REFUSE as its steps say. -/
def Obligations.BoltAdmissionCommandsComplete : Prop :=
  (∀ (s : State), s.ob oBOLT_FOUNDER = 1 → s.ob oBOLT_ID ≠ 0 → s.boltState ≤ boltJoining →
    exec (.boltFormAlone false) s = .next s.formAlone) ∧
  (∀ (s : State) (nonce : List Byte),
    (s.boltState = boltAlone → s.ob oBOLT_ID ≠ 0 → exec (.boltCommandJoin nonce) s
      = .next ((s.so oBOLT_STATE 0 boltJoining).sendJoin nonce)) ∧
    (s.boltState = boltJoining → s.seam.joining = none → s.seam.retryAt ≠ 0 → s.seam.retryAt ≤ s.tb.count →
      exec (.boltJoinRetry nonce) s = .next (s.sendJoin nonce))) ∧
  (∀ (s t : State) (nonce nc cert : List Byte) (most n id : Nat) (rest : List (Nat × SeamBody)), s.boltState = boltLeader →
    s.seam.arrivals = (n, .join id nc cert) :: rest → t = s.setSeam { s.seam with arrivals := rest } → id = t.ob oBOLT_ID →
    (∀ r, t.joinFault n most cert = some r → exec (.boltJoin nonce most) s = .next (t.refuseJoin n r)) ∧
    (t.joinFault n most cert = none → exec (.boltJoin nonce most) s
      = .next ((t.setSeam { t.seam with
          joiners := t.seam.joiners.filter (fun x => x.peer != n) ++ [⟨n, 2, t.tb.count, nc, nonce, cert⟩] }).postAdmission n
        (.chal id (t.rf SEAM_EPOCH_EPOCH) nonce t.die.certificate
          (Config.ed448Sign (t.signed tagChal t.self nc nonce (valBytes 4 (t.rf SEAM_EPOCH_EPOCH)))))))) ∧
  (∀ (s t : State) (a : Admission) (n id e : Nat) (nl c g m : List Byte) (rest : List (Nat × SeamBody)),
    s.seam.joining = some a → s.seam.arrivals = (n, .chal id e nl c g) :: rest →
    t = s.setSeam { s.seam with arrivals := rest } → id = t.ob oBOLT_ID → a.stage = 1 →
    m = sliceBytes (Tab.get [] t.measures 0) 0 64 →
    (∀ r, t.chalFault n e a.nonceC nl c g = some r → exec .boltChal s = .next ((t.refuseJoin n r).endJoining)) ∧
    (t.chalFault n e a.nonceC nl c g = none → exec .boltChal s = .next ((t.setSeam { t.seam with
      joining := some { a with peer := n, stage := 3, tick := t.tb.count, nonceL := nl } }).postAdmission n
        (.proof id m t.now (Config.ed448Sign (t.signed tagProof t.self a.nonceC nl m)))))) ∧
  (∀ (s t x : State) (a : Admission) (n id tick measured : Nat) (m g : List Byte) (rest : List (Nat × SeamBody)),
    s.seam.arrivals = (n, .proof id m tick g) :: rest → t = s.setSeam { s.seam with arrivals := rest } →
    t.seam.joiners.find? (fun a => a.peer == n) = some a →
    x = t.setSeam { t.seam with joiners := t.seam.joiners.filter (fun x => x.peer != n) } → id = x.ob oBOLT_ID →
    (Config.ed448Ok a.certificate (x.signed tagProof n a.nonceC a.nonceL m) g = false →
      exec (.boltProof measured) s = .next (x.refuseJoin n 5)) ∧
    (Config.ed448Ok a.certificate (x.signed tagProof n a.nonceC a.nonceL m) g = true →
      (x.beyondTol (slack tick measured) = true → exec (.boltProof measured) s = .next (x.refuseJoin n 6)) ∧
      (x.beyondTol (slack tick measured) = false → exec (.boltProof measured) s
        = .next ((x.setSeam { x.seam with admitted := x.seam.admitted ||| 2 ^ n }).postAdmission n .admitted)))) ∧
  (∀ (s t : State) (n r : Nat) (rest : List (Nat × SeamBody)), t = s.setSeam { s.seam with arrivals := rest } →
    (s.seam.arrivals = (n, .admitted) :: rest → exec .boltAdmit s
      = .next (t.setSeam { t.seam with joining := none, retryAt := 0 })) ∧
    (s.seam.arrivals = (n, .refuse r) :: rest → s.seam.joining.isSome = true → exec .boltRefuse s
      = .next ((t.so oBOLT_LAST_REFUSAL 0 r).endJoining))) ∧
  (∀ (s x : State) (a : Admission), a.tick + hundredMillis < s.tb.count →
    (s.seam.joining = some a → x = (s.refuseJoin a.peer 7).endJoining →
      x.seam.joiners.all (fun b => decide (s.tb.count ≤ b.tick + hundredMillis)) = true →
      exec .boltAdmissionTimeout s = .next x) ∧
    (s.seam.joining = none → s.seam.joiners = [a] → exec .boltAdmissionTimeout s
      = .next ((s.setSeam { s.seam with joiners := [] }).refuseJoin a.peer 7)))

/-- Epoch changes, heartbeats, losses, remote reads and peer events act as their rules say. -/
def Obligations.BoltEpochCommandsComplete : Prop :=
  (∀ (s t : State) (links : List (Nat × Nat × Nat)) (rights : List (Nat × Nat × SeamRights)) (el e ld : Nat),
    s.boltState = boltLeader → s.seam.proposal = none → s.seam.candidate = false → e = s.rf SEAM_EPOCH_EPOCH + 1 →
    s.rf SEAM_BOLT_MEMBERS = 2 ^ s.self → s.newMembers = 2 ^ s.self →
    ld = lowestDie (s.newMembers &&& (if s.ob oBOLT_ELIGIBLE == 1 then el ||| 2 ^ s.self else el)) →
    bitsSet 8 (2 ^ s.self) = [s.self] →
    exec (.epochChangePropose links rights el) s = .next (s.setSeam { s.seam with
      proposal := some ⟨e, s.changeTick, s.rf SEAM_BOLT_MEMBERS, s.newMembers, [s.self], none⟩
      held := some ⟨s.changeFor s.newMembers ld s.changeTick s.self links rights, s.self, none⟩
      ackedEpoch := e })) ∧
  (∀ (s t : State) (n : Nat) (c : SeamChange) (rest : List (Nat × SeamBody)), s.seam.arrivals = (n, .change c) :: rest →
    t = s.setSeam { s.seam with arrivals := rest } → boltMember ≤ t.boltState → c.epoch = t.rf SEAM_EPOCH_EPOCH + 1 →
    (t.seam.ackedEpoch ≠ c.epoch → t.tb.count + 8192 ≤ c.te → exec .epochChangeReceive s
      = .next ((t.setSeam { t.seam with held := some ⟨c, n, none⟩, ackedEpoch := c.epoch }).postChange n (.changeAck c.epoch))) ∧
    (t.seam.ackedEpoch = c.epoch ∨ c.te < t.tb.count + 8192 → exec .epochChangeReceive s = .next t)) ∧
  (∀ (s t : State) (p : Proposal) (h : HeldChange), s.seam.proposal = some p → p.outcome = none →
    p.te ≤ s.tb.count + 8192 → s.seam.held = some h → h.proposer = s.self →
    t = s.setSeam { s.seam with
      proposal := some { p with outcome := some p.carried }, held := some { h with outcome := some p.carried }
      ackedEpoch := if p.carried then s.seam.ackedEpoch else 0 } →
    exec .epochChangeDecide s = .next ((bitsSet 8 (p.old ||| p.new)).foldl (fun s n =>
      if n = s.self then s else s.postChange n (if p.carried then .commit p.epoch else .abandon p.epoch)) t)) ∧
  (∀ (s t : State) (n e : Nat) (h : HeldChange) (rest : List (Nat × SeamBody)),
    t = s.setSeam { s.seam with arrivals := rest } → t.seam.held = some h → h.proposer = n → h.change.epoch = e →
    (s.seam.arrivals = (n, .commit e) :: rest → exec .epochCommitReceive s
      = .next (t.setSeam { t.seam with held := some { h with outcome := some true } })) ∧
    (s.seam.arrivals = (n, .abandon e) :: rest → exec .epochAbandonReceive s
      = .next (t.setSeam { t.seam with held := none, ackedEpoch := 0 }))) ∧
  (∀ (s : State) (h : HeldChange), s.seam.held = some h → h.change.te ≤ s.tb.count →
    (h.outcome = some true → natBit h.change.members s.self = true → exec .epochChangeApply s
      = .next (s.applyChange h.change)) ∧
    (h.outcome = some true → natBit h.change.members s.self = false → exec .epochChangeApply s = .next s.expelled) ∧
    (h.outcome = none → exec .epochChangeNoOutcome s = .next (s.postChange h.proposer (.askOutcome h.change.epoch)))) ∧
  (∀ (s : State) (t : Nat), s.seam.switchAt = some t → t ≤ s.tb.count → exec .epochWindowSwitch s
    = .next (s.setSeam { s.seam with switchAt := none, inboundOld := [] })) ∧
  (∀ (s : State), s.boltState = boltLeader → (∀ t, s.seam.beatSent = some t → t + 1024 ≤ s.tb.count) →
    exec .boltHeartbeatSend s = .next (s.peers.foldl (fun s n =>
      (s.setSeam { s.seam with missed := s.seam.missed.set n (Tab.get 0 s.seam.missed n + 1) }).post n .heartbeat)
      (s.setSeam { s.seam with beatSent := some s.tb.count }))) ∧
  (∀ (s t : State) (n : Nat) (rest : List (Nat × SeamBody)), t = s.setSeam { s.seam with arrivals := rest } →
    (s.seam.arrivals = (n, .heartbeat) :: rest → t.rf SEAM_BOLT_LEADER = n → exec .boltHeartbeatReceive s
      = .next ((t.setSeam { t.seam with beatHeard := t.tb.count }).post n .heartbeatAnswer)) ∧
    (s.seam.arrivals = (n, .heartbeatAnswer) :: rest → exec .boltHeartbeatReceive s
      = .next (t.setSeam { t.seam with missed := t.seam.missed.set n 0 }))) ∧
  (∀ (s : State) (n : Nat) (first : Bool), s.member n = true → n ≠ s.self → s.seam.lost.contains n = false →
    (s.boltState = boltLeader → s.ob oBOLT_MISS_LIMIT ≤ Tab.get 0 s.seam.missed n →
      s.seam.beatSent.getD 0 + 1024 ≤ s.tb.count → exec (.boltPeerLost n first) s
        = .next ((s.setSeam { s.seam with lost := s.seam.lost ++ [n], wanted := true }).raise 0x0912 n)) ∧
    (s.boltState = boltMember → s.rf SEAM_BOLT_LEADER = n →
      s.seam.beatHeard + s.ob oBOLT_MISS_LIMIT * 1024 < s.tb.count → exec (.boltPeerLost n first) s
        = .next ((s.setSeam { s.seam with lost := s.seam.lost ++ [n]
                                          candidate := first && s.ob oBOLT_ELIGIBLE == 1 }).raise 0x0912 n))) ∧
  (∀ (s : State),
    (s.boltState = boltLeader →
      exec .boltCommandLeave s = .next (s.setSeam { s.seam with leaving := s.seam.leaving ||| 2 ^ s.self }) ∧
      exec .boltCommandRepublish s = .next (s.setSeam { s.seam with wanted := true })) ∧
    (s.boltState = boltMember →
      exec .boltCommandLeave s = .next (s.post (s.rf SEAM_BOLT_LEADER) .leave) ∧
      exec .boltCommandRepublish s = .next (s.post (s.rf SEAM_BOLT_LEADER) .republish))) ∧
  (∀ (s : State) (r : PeerRead), s.seam.reads.find? (fun r => decide (r.tick + s.ob oBOLT_READ_TIMEOUT_TICKS ≤ s.tb.count))
      = some r → exec .remoteReadTimeout s
        = .next ((s.setSeam { s.seam with reads := s.seam.reads.erase r }).send (.readData r.unit r.addr [none]))) ∧
  (∀ (s t : State) (n e u : Nat) (rest : List (Nat × SeamBody)) (q : List (Nat × Nat)),
    t = s.setSeam { s.seam with arrivals := rest } →
    (s.seam.arrivals = (n, .event e) :: rest → s.seam.events.length < 16 → exec .peerEventReceive s
      = .next ((t.setSeam { t.seam with events := t.seam.events ++ [(n, e)] }).raise (0x0940 + n) e)) ∧
    (s.seam.arrivals = (n, .event e) :: rest → 16 ≤ s.seam.events.length → exec .peerEventReceive s
      = .next ((t.incf SEAM_PEER_EVT_LOST_COUNT).raise (0x0940 + n) e)) ∧
    (s.seam.events = (n, e) :: q → s.islandStops 73 = false → exec (.seamPeerEvtPop u) s = .next ((s.setSeam { s.seam with events := q }).send
      (.registerRead u 0x5000040 (BitVec.ofNat 64 (2 ^ 31 + n * 2 ^ 13 + e % 2 ^ 13))))) ∧
    (s.seam.events = [] → s.islandStops 73 = false → exec (.seamPeerEvtPop u) s = .next (s.send (.registerRead u 0x5000040 0))))

/-- DRAM requests are served by tier and deadline, refresh debt is paid, and rows are watched, as their rules say. -/
def Obligations.DramServingCommandsComplete : Prop :=
  (∀ (s : State) (u : Nat) (a : Word) (p : DramPlace), s.islandStops 75 = false → (isThimble u || isPf0 u) = true →
    (dramBase ≤ a.toNat % 2 ^ 48 → a.toNat % 2 ^ 48 - dramBase < (s.sf DRAM_XLATE_ADDR_ADDR 0 a.toNat).rf DRAM_CAPACITY_BYTES 0 →
      p = (s.sf DRAM_XLATE_ADDR_ADDR 0 a.toNat).dramPlace (a.toNat % 2 ^ 48 - dramBase) →
      exec (.dramXlate u a) s = .next
        (((((((((s.sf DRAM_XLATE_ADDR_ADDR 0 a.toNat).sf DRAM_XLATE_OUT_VALID 0 1).sf DRAM_XLATE_OUT_CHANNEL 0 p.channel).sf
          DRAM_XLATE_OUT_SUB 0 p.sub).sf DRAM_XLATE_OUT_RANK 0 p.rank).sf DRAM_XLATE_OUT_LRANK 0 p.lrank).sf
          DRAM_XLATE_OUT_BG 0 p.bg |>.sf DRAM_XLATE_OUT_BANK 0 p.bank).sf DRAM_XLATE_OUT_ROW 0 p.row).sf
          DRAM_XLATE_OUT_COLUMN 0 p.column)) ∧
    (a.toNat % 2 ^ 48 < dramBase → exec (.dramXlate u a) s = .next ([DRAM_XLATE_OUT_CHANNEL, DRAM_XLATE_OUT_SUB,
      DRAM_XLATE_OUT_RANK, DRAM_XLATE_OUT_LRANK, DRAM_XLATE_OUT_BG, DRAM_XLATE_OUT_BANK, DRAM_XLATE_OUT_ROW,
      DRAM_XLATE_OUT_COLUMN].foldl (fun s f => s.sf f 0 0)
        ((s.sf DRAM_XLATE_ADDR_ADDR 0 a.toNat).sf DRAM_XLATE_OUT_VALID 0 0)))) ∧
  (∀ (s t : State) (c sub : Nat) (l : List (Nat × Bool × Nat × Nat × Nat)) (new : List DramReq),
    new = (l.map (fun a => (⟨a.1, a.2.1, a.2.2.1, a.2.2.2.1 % 2 ^ 48, a.2.2.2.2 % 8, s.replica 75⟩ : DramReq))).filter
      (fun q => (s.reqPlace q).channel == c) →
    t = (((s.setDch c { s.dch c with held := (s.dch c).held ++ new }).admitHeld c).answerBuffered c).setDraining c sub →
    (∀ q passed, t.nextReq c sub = some (q, passed) →
      exec (.dramRequest c sub l) s = .next ((t.serveReq c sub q passed).setDraining c sub)) ∧
    (t.nextReq c sub = none → exec (.dramRequest c sub l) s = .next t)) ∧
  (∀ (s : State) (c r : Nat) (pull : Bool) (d v : Int), s.rankLive c r = true → (s.drank c r).selfRefresh = none →
    d = s.debt (s.drank c r) → v = (s.drank c r).trefi →
    (4 * v ≤ d ∨ (s.rankIdle c r = true ∧ (v ≤ d ∨ (pull = true ∧ -4 * v ≤ d - v))) →
      exec (.dramRefresh c r pull) s = .next ((s.setDrank c r (s.withDebt (s.drank c r) (d - v))).refreshCounts c r 1)) ∧
    (d < 4 * v → s.rankIdle c r = false → exec (.dramRefresh c r pull) s = .next s)) ∧
  (∀ (s t : State) (c r rate k : Nat) (d : Int), s.rankLive c r = true → (s.drank c r).selfRefresh = none →
    (s.drank c r).polled = none → d = s.debt (s.drank c r) → rate ≤ 2 →
    ((rate < 2 ∨ (s.drank c r).fast = true ∨ d ≤ 4 * 1950) →
      t = (s.setDrank c r { s.withDebt (s.drank c r) d with
        fast := decide (2 ≤ rate), polled := some s.tb.count, pollFirst := false }).refreshCounts c r 0 →
      exec (.dramTempPoll c r rate) s = .next (t.sf DRAM_CH_STATE_TEMP_2X c
        ((List.range 4).any (fun r => t.rankLive c r && (t.drank c r).fast)).toNat)) ∧
    (rate = 2 → (s.drank c r).fast = false → 4 * 1950 < d → k = payCount d 1950 (s.rf DRAM_CH_TIMING_TRFC_NS c) →
      t = (s.setDrank c r { s.withDebt (s.drank c r) (d - k * 1950) with
        fast := true, polled := some s.tb.count, pollFirst := false }).refreshCounts c r k →
      exec (.dramTempPoll c r rate) s = .next ((((t.sf DRAM_CH_STATE_TEMP_2X c
        ((List.range 4).any (fun r => t.rankLive c r && (t.drank c r).fast)).toNat).incf DRAM_RANK_STALL_NS (c * 4 + r)
          (k * s.rf DRAM_CH_TIMING_TRFC_NS c)).incf DRAM_RANK_FORCED_COUNT (c * 4 + r)).dramEvent c 2))) ∧
  (∀ (s t : State) (p : Nat), p < 12 → s.portOver p = true → s.bit DRAM_PORT_CFG_URGENT p = false →
    t = (s.sf DRAM_PORT_CFG_URGENT p 1).incf DRAM_PORT_OVERRUNS_COUNT p →
    (Tab.get none t.dramPorts p = none → exec (.dramPortUrgent p) s
      = .next (({ t with dramPorts := t.dramPorts.set p (some t.tb.count) } : State).raise (0x09A0 + p))) ∧
    (∀ n, Tab.get none t.dramPorts p = some n → t.tb.count < n + 122880 → exec (.dramPortUrgent p) s = .next t)) ∧
  (∀ (s : State) (c u : Nat),
    exec (.dramRhThrottleEnd c u) s = .next (s.setDch c { s.dch c with
      throttles := (s.dch c).throttles.filter (fun t => t.unit != u || decide (s.tb.count < t.until_)) }) ∧
    (s.bit DRAM_CH_STATE_TEMP_2X c = false → (s.dch c).window + 32 * 122880 ≤ s.tb.count →
      exec (.dramRhWindowEnd c) s = .next (s.setDch c { s.dch c with tracker := [], window := s.tb.count })) ∧
    (s.bit DRAM_CH_STATE_TEMP_2X c = true → (s.dch c).window + 16 * 122880 ≤ s.tb.count →
      exec (.dramRhWindowEnd c) s = .next (s.setDch c { s.dch c with tracker := [], window := s.tb.count })))

/-- The periodic actions, power states, rank retirement, migration and row repair of DRAM act as their rules say. -/
def Obligations.DramCareCommandsComplete : Prop :=
  (∀ (s : State) (c r : Nat), s.rankLive c r = true →
    (s.periodic (s.drank c r).zq 128 = true →
      exec (.dramZqCal c r) s = .next (s.setDrank c r { s.drank c r with zq := some s.tb.count })) ∧
    (s.periodic (s.drank c r).dqs 64 = true → ∀ drift,
      exec (.dramDqsOscRead c r drift true) s
        = .next (s.setDrank c r { s.drank c r with dqs := some s.tb.count, drift := drift }) ∧
      exec (.dramDqsOscRead c r drift false) s
        = .next (s.setDrank c r { s.drank c r with dqs := some s.tb.count, retrain := true })) ∧
    ((s.drank c r).retrain = true → ∀ blocked, exec (.dramRankRetrain c r blocked) s
      = .next (((s.setDrank c r { s.drank c r with retrain := false, drift := 0 }).incf DRAM_RANK_STALL_NS (c * 4 + r)
        (min blocked 50000)).dramEvent c 3)) ∧
    ((s.drank c r).selfRefresh = none → s.rankIdle c r = true →
      (s.ob oDRAM_PD_IDLE_NS ≤ nsOf (s.tb.count - (s.drank c r).used) →
        exec (.dramPowerDown c r) s = .next (s.setDrank c r { s.drank c r with powerDown := true })) ∧
      (s.rf PM_ISLAND_STATE_STATE 75 = 2 ∨ s.rf PM_ISLAND_STATE_STATE 75 = 3 →
        exec (.dramSelfRefreshEntry c r) s = .next (s.setDrank c r { s.withDebt (s.drank c r) 0 with
          selfRefresh := some s.tb.count, powerDown := false })))) ∧
  (∀ (s : State) (c r n : Nat), (s.drank c r).selfRefresh = some n →
    s.rf DRAM_CH_SRTIME_SR_MIN_NS c ≤ nsOf (s.tb.count - n) → s.rankIdle c r = false → exec (.dramSelfRefreshExit c r) s
      = .next (s.setDrank c r { s.withDebt (s.drank c r) 0 with
        selfRefresh := none, polled := none, pollFirst := true, used := s.tb.count })) ∧
  (∀ (s t : State) (v c r : Nat), v < 32 → c = v / 4 → r = v % 4 → natBit (s.rf DRAM_CH_STATE_DEGRADED c) r = false →
    s.rankState c r = 1 ∨ s.rankState c r = 2 →
    t = ((s.sf DRAM_CH_STATE_DEGRADED c (s.rf DRAM_CH_STATE_DEGRADED c ||| 2 ^ r)).so oDRAM_RETIRED 0
      ((s.sf DRAM_CH_STATE_DEGRADED c (s.rf DRAM_CH_STATE_DEGRADED c ||| 2 ^ r)).ob oDRAM_RETIRED
        ||| 2 ^ (4 * c + r))).recordRetirement 8 3 (4 * c + r) 0 false 0xFFFF →
    (t.spareRank c = none → exec (.dramRetireRankCommand v) s = .next (t.dramEvent c 9)) ∧
    (∀ k, t.spareRank c = some k → k ≠ r → natBit (t.rf DRAM_CH_STATE_DEGRADED c) k = false →
      (t.rf DRAM_MIG_STATE_STATE c = 1 → exec (.dramRetireRankCommand v) s = .next (t.dramEvent c 9)) ∧
      (t.rf DRAM_MIG_STATE_STATE c ≠ 1 → exec (.dramRetireRankCommand v) s
        = .next (((((t.sf DRAM_MIG_STATE_STATE c 1).sf DRAM_MIG_STATE_FROM c r).sf DRAM_MIG_STATE_TO c k).sf
          DRAM_MIG_STATE_REGION c 0).dramEvent c 7)))) ∧
  (∀ (s t : State) (c r k : Nat), s.rf DRAM_MIG_STATE_STATE c = 1 → s.rf DRAM_MIG_STATE_REGION c = k →
    r = s.rf DRAM_MIG_STATE_FROM c → s.bit PM_THERM_STATE_TRIP = false →
    (natBit (s.rf DRAM_CH_STATE_DEGRADED c) (s.rf DRAM_MIG_STATE_TO c) = true →
      exec (.dramMigrationRegion c) s = .next ((s.sf DRAM_MIG_STATE_STATE c 3).dramEvent c 10)) ∧
    (natBit (s.rf DRAM_CH_STATE_DEGRADED c) (s.rf DRAM_MIG_STATE_TO c) = false →
      t = ({ s with mem := (s.regionWords c r k).foldl copyWord s.mem } : State).sf DRAM_MIG_STATE_REGION c (k + 1) →
      ((k + 1) * 2 ^ 20 < t.rankBytes c → exec (.dramMigrationRegion c) s = .next t) ∧
      (t.rankBytes c ≤ (k + 1) * 2 ^ 20 → exec (.dramMigrationRegion c) s
        = .next ((((t.sf DRAM_MIG_STATE_STATE c 2).setRankState c r 3).setRankState c (s.rf DRAM_MIG_STATE_TO c) 1).dramEvent
          c 8)))) ∧
  (∀ (s t x : State) (f : Nat × Nat × Nat × Nat) (p : DramPlace) (chip blocked : Nat) (row l : List Nat),
    s.protect.copying.find? (fun c => c.1 / 0x1000 == 6) = some f → p = s.dramPlace (f.2.2.2 - dramBase) →
    x = { s with protect := { s.protect with copying := s.protect.copying.erase f } } →
    t = x.setLog f.1 ((x.log f.1).filter (fun d => d.word != f.2.2.2)) →
    (∀ y : State, y = { t with mem := (row.map (fun w => w / 8 * 8)).foldl copyWord t.mem } →
      exec (.dramRowRepair chip row true blocked) s
        = .next (((y.incf DRAM_RANK_STALL_NS (p.channel * 4 + p.rank) (min blocked 5000)).sdom oDRAM_REPAIRS 0
          (y.dom oDRAM_REPAIRS ++ y.repairRecord p chip)).dramEvent p.channel 5)) ∧
    (l = (t.tb.count :: (t.drank p.channel p.rank).chips).filter
        (fun n => decide (t.tb.count < n + t.ob oDRAM_CHIP_WINDOW_S * ticksPerSecond)) →
      l.length < ((t.setDrank p.channel p.rank { t.drank p.channel p.rank with chips := l }).dramEvent p.channel 6).ob
        oDRAM_CHIP_CE_LIMIT →
      exec (.dramRowRepair chip row false blocked) s
        = .next ((t.setDrank p.channel p.rank { t.drank p.channel p.rank with chips := l }).dramEvent p.channel 6)))

/-- Reads, writes, scrubber reads and row repair of memory act as the rules of protection say. -/
def Obligations.MemoryCommandsComplete : Prop :=
  (∀ (s x t : State) (u ep a n : Nat) (up : List (BitVec 80)) (r : List Carried × State), x = s.upsetWords (a / 8 * 8) up →
    (s.epochCurrent u ep (s.accessIsland a) = false → exec (.memoryReadRequest ⟨u, ep⟩ a n up) s = .next (s.fenceFlit u none)) ∧
    (s.epochCurrent u ep (s.accessIsland a) = true →
    (s.passes u (a / 8 * 8) (8 * n) false = false → exec (.memoryReadRequest ⟨u, ep⟩ a n up) s = .next (s.refuseAccess u a false)) ∧
    (s.passes u (a / 8 * 8) (8 * n) false = true →
      (s.unmapped (a / 8 * 8) (8 * n) = true → exec (.memoryReadRequest ⟨u, ep⟩ a n up) s = .next (s.decodeError u a)) ∧
      (s.unmapped (a / 8 * 8) (8 * n) = false →
        (∀ i, s.accessStops u (a / 8 * 8) (8 * n) = some i → exec (.memoryReadRequest ⟨u, ep⟩ a n up) s = .next (s.stallOn i)) ∧
        (s.accessStops u (a / 8 * 8) (8 * n) = none →
          r = (if consumes u then x.readUntilBad (a / 8 * 8) u n else x.readWords (a / 8 * 8) u 1 n) →
          t = r.2.send (.readData u a r.1) →
          ((consumes u && r.1.any Option.isNone) = false → exec (.memoryReadRequest ⟨u, ep⟩ a n up) s = .next t) ∧
          ((consumes u && r.1.any Option.isNone) = true → exec (.memoryReadRequest ⟨u, ep⟩ a n up) s
            = .next (t.consumedBad u))))))) ∧
  (∀ (s x : State) (u ep a : Nat) (data : List (Option Byte)) (up : List (BitVec 80)) (bad : Bool),
    (s.epochCurrent u ep (s.accessIsland a) = false → exec (.memoryWriteRequest ⟨u, ep⟩ a data up) s
      = .next (s.fenceFlit u none)) ∧
    (s.epochCurrent u ep (s.accessIsland a) = true →
    (s.passes u a data.length true = false → exec (.memoryWriteRequest ⟨u, ep⟩ a data up) s = .next (s.refuseAccess u a true)) ∧
    (s.passes u a data.length true = true →
      (s.unmapped a data.length = true → exec (.memoryWriteRequest ⟨u, ep⟩ a data up) s = .next (s.decodeError u a)) ∧
      (s.unmapped a data.length = false →
        (∀ i, s.accessStops u a data.length = some i → exec (.memoryWriteRequest ⟨u, ep⟩ a data up) s = .next (s.stallOn i)) ∧
        (s.accessStops u a data.length = none →
          (s.upsetWords (a / 8 * 8) up).writeEnabled u (enabledWords a data) = (bad, x) →
          exec (.memoryWriteRequest ⟨u, ep⟩ a data up) s = .next ((if bad = true ∧ u < 0x440 then x.poisonJob u else x).send
            (.writeDone u a (if bad then codePoison else codeDone)))))))) ∧
  (∀ (s x : State) (m w : Nat) (e : BitVec 80) (d : Word), s.scrubs m = true →
    (mapped m = true → x = s.upsetCell (w / 8 * 8) e →
      (decodeSymbols (storedSymbols x.mem (w / 8 * 8)) = .clean d → exec (.scrubRead m w e) s
        = .next (x.watchBurst x.mem m (w / 8 * 8))) ∧
      (decodeSymbols (storedSymbols x.mem (w / 8 * 8)) = .poison → exec (.scrubRead m w e) s
        = .next (x.watchBurst x.mem m (w / 8 * 8))) ∧
      (decodeSymbols (storedSymbols x.mem (w / 8 * 8)) = .corrected d →
        exec (.scrubRead m w e) s = .next ((x.countCorrection.darnRead m (w / 8 * 8) d).watchBurst x.mem m (w / 8 * 8))) ∧
      (decodeSymbols (storedSymbols x.mem (w / 8 * 8)) = .bad → exec (.scrubRead m w e) s
        = .next (({ x.countUncorrectable m (w / 8 * 8) unitNone 2 with
            mem := x.mem.storeWord (w / 8 * 8) none } : State).watchBurst x.mem m (w / 8 * 8)))) ∧
    (mapped m = false →
      (decodeSymbols (codewordSymbols e) = .clean d → exec (.scrubRead m w e) s = .next s) ∧
      (decodeSymbols (codewordSymbols e) = .corrected d →
        exec (.scrubRead m w e) s = .next ((s.countCorrection.internalCorrected m).darnNote m (w / 8 * 8)).2) ∧
      (decodeSymbols (codewordSymbols e) = .bad →
        exec (.scrubRead m w e) s = .next (s.countUncorrectable m (w / 8 * 8 / 8) unitNone 2)))) ∧
  (∀ (s : State) (m w : Nat), exec (.darningWatchExpire m w) s = .next (s.setLog m ((s.log m).filter (fun d =>
    !(d.word == w && d.state == .watch && decide (d.tick + 2 ^ 20 < s.tb.count)))))) ∧
  (∀ (s t x y : State) (m sram row a : Nat) (spares : List (Nat × Nat)), s.protect.copying.find? (fun c => c.1 / 0x1000 != 6) = some (m, sram, row, a) →
    t = { s with
      mem := if mapped m then (rowWords a).foldl copyWord s.mem else s.mem
      protect := { s.protect with copying := s.protect.copying.erase (m, sram, row, a) } } →
    x = t.setLog m ((t.log m).filter (fun d => d.word != a)) →
    spares = s.protect.remaps.filter (fun r => r.1 == m * 128 + sram) →
    y = (x.incf MP_REPAIRS_COUNT).inco oMEM_REPAIR_COUNT 0 32 →
    exec .rowRepairCopyDone s = .next ((y.sdom oMEM_REPAIRS 0 (y.dom oMEM_REPAIRS ++ y.remapRecord m row
      (spares.length - 1 - spares.reverse.idxOf (m * 128 + sram, row)))).raise evDarnRepair m))

/-- DMA channels are enabled, ring, fetch, wait, move and complete as their rules say. -/
def Obligations.DmaCommandsComplete : Prop :=
  (∀ (s : State) (r c prio : Nat), s.islandStops 77 = false → s.mayWriteDma r c = true → prio < 4 →
    exec (.dmaChEnable r c prio) s = .next ((s.sf DMA_CH_CFG_PRIO c prio).sf DMA_CH_CFG_ENABLE c 1) ∧
    (s.bit DMA_CH_CFG_ENABLE c = true → exec (.dmaChDisable r c prio) s
      = .next (((s.sf DMA_CH_CFG_PRIO c prio).sf DMA_CH_CFG_ENABLE c 0).dmaStop c)) ∧
    (s.bit DMA_CH_CFG_ENABLE c = false → exec (.dmaChDisable r c prio) s
      = .next ((s.sf DMA_CH_CFG_PRIO c prio).sf DMA_CH_CFG_ENABLE c 0))) ∧
  (∀ (s : State) (r c : Nat), s.islandStops 77 = false → s.mayWriteDma r c = true → (s.channelOwner c).isSome = true →
    exec (.dmaChSreset r c) s = .next ((s.dmaStop c).sf DMA_CH_CFG_ENABLE c 0) ∧
    (s.dmaUp c = true →
      (s.dstate c = dmaIdle ∨ s.dstate c = dmaError →
        exec (.dmaRing r c) s = .next (s.dmaFetchAt c (s.rf DMA_CH_HEAD_ADDR c * 64))) ∧
      (s.dstate c = dmaParked → (s.dmaCh c).link = none → exec (.dmaRing r c) s = .next (s.dmaReadLink c)) ∧
      (s.dstate c = dmaFetch ∨ s.dstate c = dmaWait ∨ s.dstate c = dmaRun →
        exec (.dmaRing r c) s = .next (s.sf DMA_CH_STATE_DB_PENDING c 1)) ∧
      ((s.dmaCh c).items.length < 255 → exec (.dmaTrig r c) s
        = .next (s.setDmaCh c { s.dmaCh c with items := (s.dmaCh c).items ++ [.trigger none] })) ∧
      (255 ≤ (s.dmaCh c).items.length → exec (.dmaTrig r c) s
        = .next ((s.incf DMA_CH_TRIG_LOST_COUNT c).dmaEvent c 3)))) ∧
  (∀ (s : State) (r c p : Nat) (v : Half), s.islandStops 77 = false → s.mayWriteDma r c = true → s.channelOwner c = some p →
    (natBit v.toNat 31 = true → s.channelOwner (bitsOf v.toNat 27 16) = some p) →
    (natBit v.toNat 30 = true → s.queueOwner (bitsOf v.toNat 15 0) = some p) →
    exec (.dmaChLinksWrite r c v) s = .next ((((s.sf DMA_CH_LINKS_CHAIN_EN c (bitsOf v.toNat 31 31)).sf DMA_CH_LINKS_TRIGQ_EN c
      (bitsOf v.toNat 30 30)).sf DMA_CH_LINKS_CHAIN c (bitsOf v.toNat 27 16)).sf DMA_CH_LINKS_TRIGQ c (bitsOf v.toNat 15 0))) ∧
  (∀ (s t : State) (c k d : Nat) (rest : List Trigger), s.tb.triggers = .dma c k d :: rest →
    t = { s with tb := { s.tb with triggers := rest } } → t.dmaUp c = true → (t.dmaCh c).items.length < 255 →
    exec .dmaTriggerArrive s
      = .next (t.setDmaCh c { t.dmaCh c with items := (t.dmaCh c).items ++ [.trigger (some (k, d))] })) ∧
  (∀ (s t : State) (c : Nat) (w : List Carried), s.dmaUp c = true → s.bit DMA_CH_LINKS_TRIGQ_EN c = true →
    (s.dmaCh c).items.length < 255 → s.popQueue (s.rf DMA_CH_LINKS_TRIGQ c) (dmaUnit c) = (.entry w, t) →
    (∀ code, voidCode w = some code → exec (.dmaTriggerQueuePop c) s
      = .next (t.setDmaCh c { t.dmaCh c with items := (t.dmaCh c).items ++ [.gone code] })) ∧
    (voidCode w = none → exec (.dmaTriggerQueuePop c) s
      = .next (t.dmaTrigger c (some ((entryTag w).2, (entryTag w).1))))) ∧
  (∀ (s t x : State) (c p : Nat) (l : List Carried) (w : List Nat), s.channelOwner c = some p → s.dmaUp c = true →
    s.dstate c = dmaFetch →
    (s.dmaExtent (s.dmaCur c) 64 = false → exec (.dmaDescriptorFetch c) s = .next (s.dmaUnread c codeBadDescriptor)) ∧
    (s.dmaExtent (s.dmaCur c) 64 = true →
      (s.mayAccess p (s.dmaCur c) 64 false = false → exec (.dmaDescriptorFetch c) s
        = .next ((s.countDenial p (dmaUnit c) (s.dmaCur c) false).dmaUnread c codeDenied)) ∧
      (∀ i, s.mayAccess p (s.dmaCur c) 64 false = true → s.accessStops (dmaUnit c) (s.dmaCur c) 64 = some i →
        exec (.dmaDescriptorFetch c) s = .next (s.stallOn i)) ∧
      (s.mayAccess p (s.dmaCur c) 64 false = true → s.accessStops (dmaUnit c) (s.dmaCur c) 64 = none → s.readWords (s.dmaCur c) (dmaUnit c) 0 8 = (l, t) →
        (l.any Option.isNone = true → exec (.dmaDescriptorFetch c) s = .next (t.dmaUnread c codePoison)) ∧
        (l.any Option.isNone = false → w = l.map (fun v => (v.getD 0).toNat) →
          x = t.setDmaCh c { t.dmaCh c with desc := some (dmaDesc w), cls := (dmaDesc w).cls, deadline := (dmaDesc w).deadline, moved := 0, poisoned := false, behind := 0, link := none } →
          (x.dmaCheck p w = false → exec (.dmaDescriptorFetch c) s = .next (x.dmaComplete c p codeBadDescriptor)) ∧
          (x.dmaCheck p w = true → x.dmaNoUnit (dmaDesc w) = true → exec (.dmaDescriptorFetch c) s
            = .next (x.dmaComplete c p codeNoUnit)) ∧
          (x.dmaCheck p w = true → x.dmaNoUnit (dmaDesc w) = false → exec (.dmaDescriptorFetch c) s
            = .next (x.setDstate c (if (dmaDesc w).wait then dmaWait else dmaRun))))))) ∧
  (∀ (s : State) (c p : Nat) (d : DmaDesc) (rest : List DmaItem), s.channelOwner c = some p → (s.dmaCh c).desc = some d →
    s.dmaUp c = true → s.dstate c = dmaWait →
    (∀ code, (s.dmaCh c).items = .gone code :: rest → exec (.dmaTriggerTake c) s
      = .next ((s.setDmaCh c { s.dmaCh c with items := rest }).dmaComplete c p code)) ∧
    (∀ k n, (s.dmaCh c).items = .trigger (some (k, n)) :: rest → d.tagSrc = true → exec (.dmaTriggerTake c) s
      = .next ((s.setDmaCh c { s.dmaCh c with items := rest, cls := k, deadline := n }).setDstate c dmaRun)) ∧
    (∀ tag, (s.dmaCh c).items = .trigger tag :: rest → tag = none ∨ d.tagSrc = false → exec (.dmaTriggerTake c) s
      = .next ((s.setDmaCh c { s.dmaCh c with items := rest, cls := d.cls, deadline := d.deadline }).setDstate c dmaRun))) ∧
  (∀ (s t : State) (e c p : Nat) (d : DmaDesc), e < 16 →
    s.dmaPick (((List.range 256).map (fun k => 256 * e + (Tab.get 0 s.dma.last e + 1 + k) % 256)).filter
      (fun c => s.dmaReady c)) = some c →
    t = { s with dma := { s.dma with last := s.dma.last.set e (c % 256) } } → t.channelOwner c = some p →
    (t.dmaCh c).desc = some d →
    (d.op = 2 → exec (.dmaBurst e) s = .next (t.dmaPush c p d)) ∧
    (d.op ≠ 2 → exec (.dmaBurst e) s = .next (t.dmaMove c p d (burstLen d (t.dmaCh c).moved)))) ∧
  (∀ (s : State) (c p : Nat) (d : DmaDesc), s.channelOwner c = some p → (s.dmaCh c).desc = some d → s.dmaUp c = true →
    s.dstate c = dmaRun → (s.dmaCh c).link = none → d.len ≤ (s.dmaCh c).moved →
    (d.op = 2 → d.len ≠ 0 → s.dmaFlight (dmaUnit c) d.dst ≤ (s.dmaCh c).behind) →
    (d.op ≠ 2 → d.len ≠ 0 → s.storesDone (dmaUnit c) = true) →
    (∀ i, d.wb = true → s.accessStops (dmaUnit c) (s.dmaCur c + 48) 8 = some i →
      exec (.dmaDescriptorComplete c) s = .next (s.stallOn i)) ∧
    ((d.wb = true → s.accessStops (dmaUnit c) (s.dmaCur c + 48) 8 = none) →
    exec (.dmaDescriptorComplete c) s = .next (s.dmaComplete c p (if (s.dmaCh c).poisoned then codePoison
      else if slack (s.dmaCh c).deadline (s.nowAt dmaIsland) < 0 then codeDoneLate else codeDone)))) ∧
  (∀ (s t : State) (c : Nat), t = s.setDmaCh c { s.dmaCh c with link := none } →
    ((s.dmaCh c).link = some none → exec (.dmaLinkReread c) s = .next (s.dmaReadLink c)) ∧
    ((s.dmaCh c).link = some (some none) →
      exec (.dmaLinkReread c) s = .next ((t.sf DMA_CH_STATE_LAST_CODE c codePoison).dmaFail c)) ∧
    (∀ v : Word, (s.dmaCh c).link = some (some (some v)) →
      (natBit v.toNat 63 = false →
        (bitsOf v.toNat 47 0 % 64 = 0 → exec (.dmaLinkReread c) s = .next (t.dmaFetchAt c (bitsOf v.toNat 47 0))) ∧
        (bitsOf v.toNat 47 0 % 64 ≠ 0 →
          exec (.dmaLinkReread c) s = .next ((t.sf DMA_CH_STATE_LAST_CODE c codeBadDescriptor).dmaFail c))) ∧
      (natBit v.toNat 63 = true →
        (t.bit DMA_CH_STATE_DB_PENDING c = true →
          exec (.dmaLinkReread c) s = .next ((t.sf DMA_CH_STATE_DB_PENDING c 0).dmaReadLink c)) ∧
        (t.bit DMA_CH_STATE_DB_PENDING c = false → exec (.dmaLinkReread c) s = .next (t.setDstate c dmaParked)))))

/-- Patch jobs, patch commands, the configuration stream and the scrubber act as the Quilt's rules say. -/
def Obligations.QuiltCommandsComplete : Prop :=
  (∀ (s t : State) (n : Nat) (j : Job), s.runningOn (patchUnit n) = some j → j.report = none → s.patchRuns n = true →
    (j.typ = 0x88 → (s.patch n).given ≠ some j.id → exec (.patchJob n) s
      = .next (((s.setPatch n { s.patch n with given := some j.id }).incf QP_JOBS_COUNT n).send
        (.patchJob n j.desc j.inputs))) ∧
    ((s.patch n).given = some j.id → ∀ code (result : Half) (ext : Word) (outs : List (List Word)),
      t = outs.foldl (fun s e => s.jobPush j.id (e.map some)) s →
      exec (.patchJobEnd n code result ext outs) s = .next ((t.reportJob j.id
        ⟨if code = codeDone ∨ code = codePartial ∨ code = codeBadDescriptor ∨ code = codePoison then code else codePartial,
          result.toNat, ext.toNat, false⟩).setPatch n { t.patch n with given := none, late := none }))) ∧
  (∀ (s t : State) (n k : Nat) (j : Job), s.runningOn (patchUnit n) = some j → j.report = none → (s.patch n).late = some k →
    1024 * s.rf QP_CLK_DIV n * 12288 ≤ (s.tb.count - k) * 60000 → t = s.reportJob j.id ⟨codeDroppedLate, 0, 0, false⟩ →
    exec (.patchJobLateTimeout n) s = .next (t.setPatch n { t.patch n with given := none, late := none })) ∧
  (∀ (s : State) (r n p : Nat) (x : Nat → State), s.islandStops 78 = false → s.patchOwner n = some p → s.present (patchUnit n) = true →
    isThimble r = true ∨ (s.isOwnerHost r (some p) = true ∧ s.isMb p = false) → (∀ op, x op = s.sf QP_CMD_OP n op) →
    ((x 1).qstate n = qEmpty ∨ (x 1).qstate n = qLoaded ∨ (x 1).qstate n = qFaulted →
      exec (.quiltBegin r n) s = .next (((x 1).clearPatch n qLoading).sf QP_CMD_STATUS n 0)) ∧
    ((x 2).qstate n = qLoaded → (x 2).bit QP_STATE_AUTH n = true → (x 2).startOrderOk n = true →
      exec (.quiltStart r n) s = .next (((x 2).setQstate n qRunning).sf QP_CMD_STATUS n 0)) ∧
    ((x 3).qstate n = qRunning →
      exec (.quiltStop r n) s = .next ((((x 3).isolate n).setQstate n qLoaded).sf QP_CMD_STATUS n 0)) ∧
    ((x 4).qstate n = qLoading ∨ (x 4).qstate n = qLoaded ∨ (x 4).qstate n = qFaulted →
      exec (.quiltAbort r n) s = .next (((x 4).clearPatch n qEmpty).sf QP_CMD_STATUS n 0)) ∧
    ((x 5).qstate n ≠ qRetired → isThimble r = true ∨ (x 5).bit QP_STATE_ENCRYPTED n = false →
      (x 5).rf QP_FAR_COLUMN n ≤ 47 → (x 5).rf QP_FAR_FRAME n ≤ 95 →
      exec (.quiltReadFrame r n) s = .next (((x 5).readFrame n).sf QP_CMD_STATUS n 0)) ∧
    ((x 6).qstate n = qRunning → exec (.quiltReset r n) s
      = .next ((((((x 6).isolate n).setQstate n qRunning).incf QP_RESETS_COUNT n).patchEvent n 5).sf QP_CMD_STATUS n 0)) ∧
    (isThimble r = true → (x 7).qstate n = qLoaded →
      exec (.quiltAuthorize r n) s = .next (((x 7).sf QP_STATE_AUTH n 1).sf QP_CMD_STATUS n 0))) ∧
  (∀ (s : State) (r n e q : Nat) (v : Half), s.islandStops 78 = false → n < 8 → e < 8 → s.present (patchUnit n) = true →
    isThimble r = true ∨ s.isOwnerHost r (s.patchOwner n) = true → s.qstate n = qEmpty ∨ s.qstate n = qLoaded →
    q = bitsOf v.toNat 15 0 → s.queueOwner q = s.patchOwner n → (s.queueOwner q).isSome = true →
    exec (.qpEndpointBind r n e true v) s
      = .next ((s.sf QP_EPOUT_EN (n * 8 + e) (bitsOf v.toNat 31 31)).sf QP_EPOUT_QUEUE (n * 8 + e) q) ∧
    exec (.qpEndpointBind r n e false v) s
      = .next ((s.sf QP_EPIN_EN (n * 8 + e) (bitsOf v.toNat 31 31)).sf QP_EPIN_QUEUE (n * 8 + e) q)) ∧
  (∀ (s t : State) (n : Nat) (w : Word) (rest : List Carried), (s.patch n).stream = some w :: rest →
    t = s.setPatch n { s.patch n with stream := rest } → t.qstate n = qLoading →
    exec (.quiltStreamWord n) s = .next (t.streamStep n
      { (t.streamPlain { s.patch n with stream := rest } w).2 with
        count := (s.patch n).count + 1
        plain := (s.patch n).plain ++ [(t.streamPlain { s.patch n with stream := rest } w).1] }
      (t.streamPlain { s.patch n with stream := rest } w).1)) ∧
  (∀ (s : State) (n k : Nat) (level : Bool) (r : Nat),
    (s.islandStops 78 = false → exec (.qpFdroRead r n) s = .next ((s.setPatch n { s.patch n with readback := (s.patch n).readback.tail }).send
      (.registerRead r (0x0B001018 + n * 0x200) ((s.patch n).readback.headD 0)))) ∧
    (s.patchRuns n = true → natBit (s.patch n).outs k ≠ level →
      (level = true → k < 16 → exec (.quiltUserEvent n k level) s
        = .next (((s.setPatch n { s.patch n with outs := (s.patch n).outs ^^^ 2 ^ k }).drivePins s).raise
          (0xA00 + n * 16 + k))) ∧
      (level = false ∨ 16 ≤ k → k < 32 → exec (.quiltUserEvent n k level) s
        = .next ((s.setPatch n { s.patch n with outs := (s.patch n).outs ^^^ 2 ^ k }).drivePins s)))) ∧
  (∀ (s t : State) (n b w : Nat), s.patchRuns n = true → b < 96 → w < 4096 →
    (∀ v, s.readCell (0xA0000000 + n * 0x1000000 + b * 0x8000 + 8 * w) (0x7000 + n) (patchUnit n) 0 = (some v, t) →
      exec (.quiltPoisonRead n b w) s = .next t) ∧
    (s.readCell (0xA0000000 + n * 0x1000000 + b * 0x8000 + 8 * w) (0x7000 + n) (patchUnit n) 0 = (none, t) →
      exec (.quiltPoisonRead n b w) s = .next ((t.endPatchJob n codePoison).resetPatch n))) ∧
  (∀ (s t x : State) (u : List (Nat × Nat)), s.bit QS_STATUS_FAULTY = false → s.bit QS_CTRL_ENABLE = true →
    s.scrub.left = [] → s.rf PM_ISLAND_STATE_STATE 78 = 0 → s.rf PM_ISLAND_STATE_STATE 79 = 0 →
    s.scrub.since = none ∨ (∃ k, s.scrub.since = some k ∧ s.rf QS_PERIOD_US * 12288 ≤ (s.tb.count - k) * 100) →
    t = (s.upsetCopies u).vote →
    (t.bit QS_STATUS_FAULTY = true → exec (.scrubSweepStart u) s = .next t) ∧
    (t.bit QS_STATUS_FAULTY = false →
      x = ((List.range 8).filter t.swept).foldl (fun y n => y.testSentinel (t.rf QS_STATUS_SWEEPS) n) t →
      exec (.scrubSweepStart u) s = .next { x.sf QS_STATUS_SWEEPS 0 (t.rf QS_STATUS_SWEEPS + 1) with
        scrub := { x.scrub with since := some x.tb.count, left := (List.range 8).filter t.swept, frame := 0, test := t.rf QS_STATUS_SWEEPS } })) ∧
  (∀ (s t : State) (n : Nat) (rest : List Nat) (up : List (BitVec 80)) (lost : Bool), s.scrub.left = n :: rest →
    s.rf PM_ISLAND_STATE_STATE 78 = 0 → s.rf PM_ISLAND_STATE_STATE 79 = 0 →
    (s.swept n = false → exec (.quiltFrameScrub up lost) s
      = .next { s with scrub := { s.scrub with left := rest, frame := 0 } }) ∧
    (∀ i, s.swept n = true → s.repairStops n s.scrub.frame up lost = some i →
      exec (.quiltFrameScrub up lost) s = .next (s.stallOn i)) ∧
    (s.swept n = true → s.repairStops n s.scrub.frame up lost = none → t = s.scrubFrame n s.scrub.frame up lost →
      (s.scrub.frame ≠ sentinel → exec (.quiltFrameScrub up lost) s
        = .next { t with scrub := { t.scrub with frame := s.scrub.frame + 1 } }) ∧
      (s.scrub.frame = sentinel → sentinelFound s.scrub.test (scrubRead ((s.patch n).frameAt sentinel) up) = true →
        exec (.quiltFrameScrub up lost) s = .next { t with scrub := { t.scrub with left := rest, frame := 0 } }) ∧
      (s.scrub.frame = sentinel → sentinelFound s.scrub.test (scrubRead ((s.patch n).frameAt sentinel) up) = false →
        exec (.quiltFrameScrub up lost) s
          = .next (({ t with scrub := { t.scrub with left := rest, frame := 0 } } : State).scrubFaulty 2)))) ∧
  (∀ (s t : State) (u : List (Nat × Nat × List (BitVec 80) × Bool)), s.bit QS_STATUS_FAULTY = true →
    s.scrub.since = none ∨ (∃ k, s.scrub.since = some k ∧ k + 12288000 ≤ s.tb.count) →
    t = { s.sf QS_STATUS_FIRMWARE 0 1 with scrub := { s.scrub with since := some s.tb.count } } →
    exec (.firmwareQuiltSweep u) s = .next (((List.range 8).filter t.swept).foldl (fun y n =>
      (List.range patchFrames).foldl (fun z f => match u.find? (fun e => e.1 == n && e.2.1 == f) with
        | some e => z.scrubFrame n f e.2.2.1 e.2.2.2
        | none => z.scrubFrame n f [] false) y) t))

/-- The host link, completions, rings and events act as the host port's rules say. -/
def Obligations.HostLinkRingAndEventCommandsComplete : Prop :=
  (∀ (s t : State) (v r0 w0 r1 w1 : Nat) (req : Nat), s.bit HP_LINK_STATE_UP = true →
    (t = s.countReplays v → t.ob oHOST_RETRAIN_REPLAYS < t.host.replayCount → t.bit HP_LINK_STATE_UP = true →
      exec (.hostLinkRetrain 0 req v r0 w0 r1 w1) s
        = .next ((t.trainLink r0 w0 r1 w1).sf HP_LINK_STATE_RETRAINING 0 0).releaseHeldRequests) ∧
    (t = s.countReplays v → t.host.replayCount ≤ t.ob oHOST_RETRAIN_REPLAYS → t.bit HP_LINK_STATE_RETRAINING = false →
      exec (.hostLinkRetrain 0 req v r0 w0 r1 w1) s = .next t) ∧
    (isThimble req = true ∨ isPf0 req = true → t = (if 1000 ≤ v ∧ v ≤ 1000000 then s.sf HP_CTRL_CPL_TIMEOUT_US 0 v else s) →
      exec (.hostLinkRetrain 1 req v r0 w0 r1 w1) s
        = .next ((t.trainLink r0 w0 r1 w1).sf HP_LINK_STATE_RETRAINING 0 0).releaseHeldRequests) ∧
    exec (.hostLinkRetrain 2 req v r0 w0 r1 w1) s
      = .next ((s.trainLink r0 w0 r1 w1).sf HP_LINK_STATE_RETRAINING 0 0).releaseHeldRequests ∧
    (t = ((s.sf HP_LINK_STATE_UP 0 0).sf HP_LINK_STATE_RETRAINING 0 0).hostLinkEvent 3 →
      exec .hostLinkDown s = .next { t with host := { t.host with downSince := t.tb.count } })) ∧
  (∀ (s t : State) (rate r0 w0 r1 w1 : Nat),
    (s.bit HP_LINK_STATE_UP = false → s.rf HP_CTRL_CPL_TIMEOUT_US * 12288 ≤ (s.tb.count - s.host.downSince) * 100 →
      exec .hostLinkDownTimeout s
        = .next (({ s with host := { s.host with held := [] } } : State).dropHeld s.host.held)) ∧
    (t = ((s.trainLink r0 w0 r1 w1).sf HP_LINK_STATE_RATE 0 (min rate ((s.trainLink r0 w0 r1 w1).ob oHOST_MAX_RATE))).sf
        HP_LINK_STATE_UP 0 1 →
      exec (.hostLinkUp rate r0 w0 r1 w1) s = .next t.releaseHeldRequests)) ∧
  (∀ (s : State) (u a n i : Nat) (d : List Word),
    exec (.hostCompletionReceive u a 0 none d) s = .next (s.send (.readData u a (d.map some))) ∧
    exec (.hostCompletionReceive u a 1 none d) s
      = .next ((s.incf HP_RX_POISONED_COUNT).send (.readData u a (d.map (fun _ => none)))) ∧
    (∀ st, 2 ≤ st → exec (.hostCompletionReceive u a st none d) s
      = .next ((s.incf HP_RX_UR_COUNT).send (.readData u a (d.map (fun _ => none))))) ∧
    exec (.hostCompletionReceive u a 0 (some i) d) s = .next s ∧
    exec (.hostCompletionReceive u a 1 (some i) d) s = .next ((s.incf HP_RX_POISONED_COUNT).stopRing i codePoison) ∧
    (∀ st, 2 ≤ st → exec (.hostCompletionReceive u a st (some i) d) s = .next ((s.incf HP_RX_UR_COUNT).stopRing i codePoison)) ∧
    exec (.hostCompletionTimeout u a n none) s
      = .next ((s.incf HP_CPL_TIMEOUTS_COUNT).send (.readData u a (List.replicate n none))) ∧
    exec (.hostCompletionTimeout u a n (some i)) s = .next ((s.incf HP_CPL_TIMEOUTS_COUNT).stopRing i codePoison)) ∧
  (∀ (s t : State) (u f r i v : Nat) (c : Half), i = ringIx f r → s.islandStops 76 = false → mayWriteRing u i = true → hasPage (i / 256) = true →
    i % 256 < ringCount (i / 256) →
    (s.bit HR_CFG_ENABLE i = false → v = (c ||| 0x80000000).toNat →
      t = ((((((s.sf HR_CFG_DIR i (v / 2 ^ 30)).sf HR_CFG_INTR i (v / 2 ^ 29)).sf HR_CFG_SIZE_LOG2 i (v / 2 ^ 24)).sf
        HR_CFG_QUEUE i v).sf HR_PTR_DEVICE i 0).sf HR_PTR_HOST i 0).setRing i Ring.off →
      exec (.hostRingEnable u f r c) s = .next (if t.ringValid i then (t.sf HR_CFG_ENABLE i 1).sf HR_CFG_ERROR i 0
        else t.sf HR_CFG_ERROR i 1)) ∧
    (s.bit HR_CFG_ENABLE i = true →
      exec (.hostRingEnable u f r c) s = .next s ∧
      ((s.ring i).disabling = false → s.ringFlying i = 0 → exec (.hostRingDisable u f r c) s = .next (s.ringOff i)) ∧
      ((s.ring i).disabling = false → s.ringFlying i ≠ 0 → exec (.hostRingDisable u f r c) s
        = .next (s.setRing i { s.ring i with disabling := true })) ∧
      (∀ index, index < 65536 →
        (s.bit HR_CFG_DIR i = false →
          2 ^ s.rf HR_CFG_SIZE_LOG2 i < (index + 65536 - s.rf HR_PTR_DEVICE i) % 65536 →
          exec (.hostRingDoorbell u f r index) s = .next (s.stopRing i codeBadDescriptor)) ∧
        (s.bit HR_CFG_DIR i = true →
          2 ^ s.rf HR_CFG_SIZE_LOG2 i < (s.rf HR_PTR_DEVICE i + 65536 - index) % 65536 →
          exec (.hostRingDoorbell u f r index) s = .next (s.stopRing i codeBadDescriptor)) ∧
        (s.bit HR_CFG_DIR i = false →
          (index + 65536 - s.rf HR_PTR_DEVICE i) % 65536 ≤ 2 ^ s.rf HR_CFG_SIZE_LOG2 i →
          exec (.hostRingDoorbell u f r index) s = .next (s.sf HR_PTR_HOST i index)) ∧
        (s.bit HR_CFG_DIR i = true →
          (s.rf HR_PTR_DEVICE i + 65536 - index) % 65536 ≤ 2 ^ s.rf HR_CFG_SIZE_LOG2 i →
          exec (.hostRingDoorbell u f r index) s = .next ((s.sf HR_PTR_HOST i index).setRing i
            { (s.sf HR_PTR_HOST i index).ring i with vectorSent := false })))) ∧
    (s.bit HR_CFG_ENABLE i = false → ∀ index, index < 65536 →
      exec (.hostRingDoorbell u f r index) s = .next (s.sf HR_PTR_HOST i index))) ∧
  (∀ (s t : State) (f r i : Nat), i = ringIx f r → s.ringRuns i = true →
    (∀ e : List Word, s.bit HR_CFG_DIR i = false →
      s.ringFlying i < min ((s.rf HR_PTR_HOST i + 65536 - s.rf HR_PTR_DEVICE i) % 65536) 16 →
      t = { s with host := { s.host with pushes := s.host.pushes ++ [(functionUnit (i / 256), s.rf HR_CFG_QUEUE i, i)] } } →
      exec (.hostRingEntryPush f r e) s
        = .next (t.pushEntry (s.rf HR_CFG_QUEUE i) (functionUnit (i / 256)) (e.map some))) ∧
    (∀ (x y : State) (w : List Carried) (slot : Nat), s.bit HR_CFG_DIR i = true →
      (s.rf HR_PTR_DEVICE i + 65536 - s.rf HR_PTR_HOST i) % 65536 < 2 ^ s.rf HR_CFG_SIZE_LOG2 i →
      s.popQueue (s.rf HR_CFG_QUEUE i) (functionUnit (i / 256)) = (.entry w, x) →
      slot = x.rf HR_BASE_BASE i * 64 + s.rf HR_PTR_DEVICE i % 2 ^ x.rf HR_CFG_SIZE_LOG2 i * 64 →
      y = ((x.hostRequest (.write (functionUnit (i / 256)) (some i) slot (carriedBytes w) (w.any Option.isNone))).sf HR_PTR_DEVICE i
        (s.rf HR_PTR_DEVICE i + 1)).writeBack i →
      ((y.bit HR_CFG_INTR i && !(y.ring i).vectorSent) = true → exec (.hostRingEntryWrite f r) s
        = .next ((y.sendVector (i / 256) (y.rf HR_VEC_VECTOR i)).setRing i { y.ring i with vectorSent := true })) ∧
      ((y.bit HR_CFG_INTR i && !(y.ring i).vectorSent) = false → exec (.hostRingEntryWrite f r) s = .next y))) ∧
  (∀ (s : State) (e info : Nat), e < 8192 → exec (.eventRaise e info) s = .next (s.raise e info))

/-- Tolerances, forecasts, island entry and waking, votes and the DEEP hold act as the power manager's rules say. -/
def Obligations.PowerManagerCommandsComplete : Prop :=
  (∀ (s : State) (g us : Nat) (hits : List (Nat × Nat)),
    (g < 16 → us ≤ 1000000 → exec (.toleranceWrite g us hits) s
      = .next (((s.so oPM_G_TOL_US g us).evaluateGroup g hits).refreshDevice)) ∧
    (1000000 < us → exec (.toleranceWrite g us hits) s = .next s)) ∧
  (∀ (s t : State) (hits : List (Nat × Nat)), t = s.sh.forecasts.foldl
      (fun s f => s.setIsl f.1 { s.isl f.1 with nextUse := f.2 }) { s with sh := { s.sh with forecasts := [] } } →
    exec (.nextUseReceive hits) s = .next (((s.sh.forecasts.map (fun f => t.pmGroup f.1)).dedup.foldl
      (fun s g => s.evaluateGroup g hits) t).refreshDevice)) ∧
  (∀ (s : State) (i q : Nat), exec (.islandQuietExpire i q) s
    = .next ((((s.setIsl i { s.isl i with lastFlit := s.tb.count - q }).evaluate i).followQuilt i).refreshDevice)) ∧
  (∀ (s t : State) (i k v : Nat), (s.isl i).waking = none → s.istate i ≠ 4 → k = (s.isl i).step →
    v = s.rf PM_ISLAND_STATE_TARGET i → v ≤ 3 →
    t = s.setIstate i (stepState (k + 1)) v (k + 1) →
    (k + 1 < stateSteps v → exec (.islandEntryStep i) s = .next (t.followQuilt i).refreshDevice) ∧
    (k + 1 = stateSteps v → exec (.islandEntryStep i) s
      = .next (((t.incf PM_ISLAND_ENTRIES_COUNT i).evaluate i).followQuilt i).refreshDevice)) ∧
  (∀ (s t : State) (hits : List (Nat × Nat)) (r : Nat × Nat),
    s.pm.retries.find? (fun (r : Nat × Nat) => decide (r.2 ≤ s.tb.count)) = some r →
    t = { s with pm := { s.pm with retries := s.pm.retries.erase r } } →
    (r.1 = 16 → exec (.powerVoteRetry hits) s = .next (t.deviceDeep hits)) ∧
    (r.1 ≠ 16 → exec (.powerVoteRetry hits) s = .next ((t.evaluateGroup r.1 hits).refreshDevice))) ∧
  (∀ (s : State) (i n : Nat), s.istate i = 2 ∨ s.istate i = 3 → s.pmNextUse i = some n →
    s.bit PM_DEVICE_HOLD_DEEP = false → n < s.tb.count + s.ob oSHUTTLE_FORECAST_HORIZON →
    n ≤ s.tb.count + (wakeNs (s.istate i) * 12288 + 99999) / 100000 →
    (s.isl i).waking = none → (s.isl i).step = stateSteps (s.istate i) → s.rf PM_ISLAND_STATE_TARGET i = s.istate i →
    exec (.islandPrewake i) s = .next ((s.setIstate i (s.istate i) 0 (s.isl i).step).setIsl i
      { (s.setIstate i (s.istate i) 0 (s.isl i).step).isl i with waking := some false })) ∧
  (∀ (s t : State) (i : Nat) (b : Option Nat), s.istate i ≠ 4 →
    s.islandStops i = true ∨ (∃ m, b = some m ∧ (s.isl i).closed.contains m = true) → (s.isl i).stall = none →
    t = (s.setIsl i { s.isl i with lastFlit := s.tb.count, stall := some (s.tb.count, b) }).startWake i 0 →
    (t.islandStops i = true → exec (.islandWakeRequest i b) s = .next (t.followQuilt i).refreshDevice) ∧
    (t.islandStops i = false → exec (.islandWakeRequest i b) s = .next ((t.endStall i).followQuilt i).refreshDevice)) ∧
  (∀ (s t : State) (i v : Nat), (s.isl i).waking = some false → s.istate i = 2 → v = s.rf PM_ISLAND_STATE_TARGET i →
    i ≠ quiltIsland → t = (s.setIstate i v v (stateSteps v)).incf PM_ISLAND_WAKES_COUNT i → (t.isl i).stall = none →
    exec (.islandWakeComplete i) s
      = .next ((((t.setIsl i { t.isl i with waking := none, closed := (t.isl i).closed }).evaluate i).followQuilt i).refreshDevice)) ∧
  (∀ (s t : State) (m : Nat) (up : List (Nat × BitVec 80)), m / 0x1000 = 3 → (s.isl (memIsland m)).closed.contains m = true →
    t = s.setIsl (memIsland m) { s.isl (memIsland m) with closed := (s.isl (memIsland m)).closed.erase m } →
    (s.isl (memIsland m)).stall = none →
    exec (.retentionBankSweepDone m up 0 false) s = .next t ∧
    ((((t.bankLost (memIsland m) m).isl (memIsland m)).stall = none) →
      exec (.retentionBankSweepDone m up 0 true) s = .next (t.bankLost (memIsland m) m))) ∧
  (∀ (s : State) (hits : List (Nat × Nat)),
    (s.bit PM_DEVICE_HOLD_DEEP = true →
      exec .pmEndDeepHold s = .next ((((((List.range 80).foldl (fun s i => s.evaluate i)
        (s.sf PM_DEVICE_HOLD_DEEP 0 0)).startWake 81 0).refreshDevice)).send (.objectDone 0x8000 2 codeDone)) ∧
      exec (.pmDeviceDeep hits) s = .next (s.send (.objectDone 0x8000 2 codeDenied))) ∧
    (s.bit PM_DEVICE_HOLD_DEEP = false →
      exec .pmEndDeepHold s = .next (s.send (.objectDone 0x8000 2 codeDenied)) ∧
      (∀ t, (s.sf PM_DEVICE_HOLD_DEEP 0 1).collectVotes 16 hits [] s.deepTargets = (true, t) →
        exec (.pmDeviceDeep hits) s = .next ((s.deepTargets.foldl (fun s e => s.setIsl e.1 { s.isl e.1 with goal := e.2 })
          t).refreshDevice.send (.objectDone 0x8000 2 codeDone))) ∧
      (∀ t, (s.sf PM_DEVICE_HOLD_DEEP 0 1).collectVotes 16 hits [] s.deepTargets = (false, t) →
        exec (.pmDeviceDeep hits) s
          = .next ((t.sf PM_DEVICE_HOLD_DEEP 0 0).refreshDevice.send (.objectDone 0x8000 2 codeDone)))))

/-- Upsets, retirement, reinstatement, the Thimble pairs and resets act as the fault rules say. -/
def Obligations.HealthAndResetCommandsComplete : Prop :=
  (∀ (s t : State) (c u n : Nat), s.healthPresent c u = true → s.healthRetired c u = false → t = s.handleUpset c u →
    t.thimbleUp = true →
    (c = 4 ∨ 8 ≤ c → exec (.upsetReport c u) s = .next (t.noteUpset c u)) ∧
    (∀ (x : State) (l : List (Nat × Nat × Nat)), c < 8 → c ≠ 4 →
      l = ((c, u, t.tb.count) :: t.health.upsets).filter
        (fun e => decide (t.tb.count < e.2.2 + t.ob oFAULT_WINDOW_S * ticksPerSecond)) →
      x = { t with health := { t.health with upsets := l } } → n = (l.filter (fun e => e.1 == c && e.2.1 == u)).length →
      (n < x.upsetLimit c → exec (.upsetReport c u) s = .next (x.noteUpset c u)) ∧
      (x.upsetLimit c ≤ n → natBit (x.ob oFAULT_AUTO_RETIRE) c = true →
        exec (.upsetReport c u) s = .next (x.retireUnit c u causeLimit)) ∧
      (x.upsetLimit c ≤ n → natBit (x.ob oFAULT_AUTO_RETIRE) c = false →
        exec (.upsetReport c u) s = .next ((x.noteUpset c u).raise evRetireDue (c * 65536 + u))))) ∧
  (∀ (s : State) (c u cause : Nat), s.healthPresent c u = true → s.healthRetired c u = false →
    exec (.unitRetire c u cause) s = .next (s.retireUnit c u cause)) ∧
  (∀ (s : State) (v c u : Nat), c = v / 2 ^ 24 % 256 → u = v % 65536 →
    (v / 65536 % 256 ≠ 0 ∨ 9 < c →
      exec (.faultRetireCommand v) s = .next (s.send (.objectDone 0x9000 8 codeBadDescriptor))) ∧
    (v / 65536 % 256 = 0 → c ≤ 9 → s.healthPresent c u = false →
      exec (.faultRetireCommand v) s = .next (s.send (.objectDone 0x9000 8 codeNoUnit))) ∧
    (v / 65536 % 256 = 0 → c ≤ 8 → s.healthPresent c u = true → s.healthRetired c u = true →
      exec (.faultRetireCommand v) s = .next (s.send (.objectDone 0x9000 8 codeDone))) ∧
    (v / 65536 % 256 = 0 → c ≤ 8 → s.healthPresent c u = true → s.healthRetired c u = false → s.thimbleUp = true →
      exec (.faultRetireCommand v) s = .next ((s.retireUnit c u causeManual).send (.objectDone 0x9000 8 codeDone)))) ∧
  (∀ (s t : State) (r c u : Nat) (l : List Byte), l = s.dom oFAULT_RETIREMENTS →
    (l.length < 32 * (r + 1) →
      exec (.faultReinstateCommand r) s = .next (s.send (.objectDone 0x9000 9 codeBadDescriptor))) ∧
    (32 * (r + 1) ≤ l.length → c = fieldAt l (32 * r) 1 → u = fieldAt l (32 * r + 2) 2 →
      natBit (fieldAt l (32 * r + 5) 1) 2 = false → c < 8 →
      (returnUnits c u).all (fun k => decide (Tab.get 0 s.health.epochs k < 250)) = true →
      t = s.sdom oFAULT_RETIREMENTS 0 (markReinstated l r) →
      (returnPanel c u = none → exec (.faultReinstateCommand r) s
        = .next (({ t with health := { t.health with returns := t.health.returns ++ [(c, u, r)] } } : State).send
          (.objectDone 0x9000 9 codeDone))) ∧
      (∀ p, returnPanel c u = some p → exec (.faultReinstateCommand r) s
        = .next ((({ t with health := { t.health with returns := t.health.returns ++ [(c, u, r)] } } : State).resetPanel p).send
          (.objectDone 0x9000 9 codeDone))))) ∧
  (∀ (s : State), s.standbyReady = true → s.health.checkpoint + ticksPerSecond / 1000 ≤ s.tb.count →
    exec .thimbleCheckpoint s = .next { s with health := { s.health with checkpoint := s.tb.count } }) ∧
  (∀ (s t : State) (p : Nat), s.thimbleUp = true → p = s.activePair → s.pairRetired p = false →
    s.health.testing.contains p = false → s.mismatchesOf p = 0 →
    t = { s with health := { s.health with mismatches := (p, s.tb.count) :: s.health.mismatches } } →
    (t.standbyReady = true → exec (.thimbleFailover p) s = .next t.failover) ∧
    (t.standbyReady = false → exec (.thimbleFailover p) s = .next t.restartThimble)) ∧
  (∀ (s t : State) (ok : List Nat), s.ob oFAULT_THIMBLE = 4 → s.pairRetired 0 = false → s.pairRetired 1 = false →
    ok.contains 0 = true ∨ ok.contains 1 = true →
    t = s.so oFAULT_THIMBLE 0 (if ok.contains 0 && ok.contains 1 then 0 else if ok.contains 0 then 2 else 3) →
    exec (.thimbleRestart ok) s = .next (({ t with health := { t.health with testing := [] } } : State).flushInbox.raise
      evThimbleRestart)) ∧
  (∀ (s t : State) (p : Nat), s.thimbleUp = true → s.health.testing.contains p = true →
    (t = s.so oFAULT_THIMBLE 0 (if p = 1 then 0 else 1) → exec (.thimblePairSelfTestDone p true) s
      = .next { t with health := { s.health with
        testing := s.health.testing.filter (fun k => k != p)
        taken := s.health.taken.filter (fun k => k != p) } }) ∧
    exec (.thimblePairSelfTestDone p false) s = .next (s.retireUnit 9 p causeSelfTest)) ∧
  (∀ (s : State) (r p : Nat), s.islandStops p = false → s.mayWritePanel r p = true → s.panelUp p = true →
    exec (.panelReset r p) s = .next (s.resetPanel p)) ∧
  (∀ (s : State) (session v cause : Nat) (link : Nat × Nat × Nat × Nat × Nat),
    (s.isAdmin session = false → exec (.faultWarmResetCommand session v) s
      = .next (s.send (.objectDone 0x9000 13 codeDenied))) ∧
    (s.isAdmin session = true → v ≠ 1 → exec (.faultWarmResetCommand session v) s
      = .next (s.send (.objectDone 0x9000 13 codeBadDescriptor))) ∧
    (s.isAdmin session = true → exec (.faultWarmResetCommand session 1) s
      = .next (({ s with health := { s.health with warm := some 2 } } : State).send (.objectDone 0x9000 13 codeDone))) ∧
    (s.boot.phase = 0 → exec .warmNAssert s = .next { s with health := { s.health with warm := some 1 } }) ∧
    (s.boot.phase = 0 → s.health.warm = some cause ∨ (3 ≤ cause ∧ cause ≤ 5) →
      exec (.warmReset cause link) s = .next (s.warmReset cause link)))

/-- Cold boot, firmware updates, images, attestation, the store and device power act as the boot rules say. -/
def Obligations.BootAndImageCommandsComplete : Prop :=
  (∀ s : State, exec .porNAssert s = .next (s.coldReset 1)) ∧
  (∀ (s t : State) (slots : List Nat) (trial reverted : Bool) (failed : List (Nat × Nat)) (bc br : List Nat)
      (cfg un : List (Nat × Nat)) (link : Nat × Nat × Nat × Nat × Nat) (r : Option Nat),
    (s.coldReset 0).selectSlot = (slots, trial, reverted, t) →
    slots.find? (fun k => (t.imageFault (t.slotImage k) 1 (bodyDigest (t.slotImage k)) true).isNone) = r →
    (r = none → exec (.coldBoot failed bc br cfg un link) s
      = .next (({ t with boot := { t.boot with phase := 2 } } : State).send (.pin "GPIO15" false))) ∧
    (∀ k, r = some k → exec (.coldBoot failed bc br cfg un link) s
      = .next (((t.bootFirmware k (trial && k == slots.headD 0) reverted s.boot.tampered bc br).bootUnits failed cfg un
        link).raise evBootDone))) ∧
  (∀ (s a b c d : State) (k : Nat) (inTrial reverted : Bool) (bc br : List Nat), a = s.extend 0 (imageDigest (s.slotImage k)) →
    b = ((((a.extendEvent (valBytes 4 a.policyWord ++ (List.range 4).flatMap (fun i =>
      Tab.get [] a.boot.custKeys (i + 1)))).openStore bc br).countJournal).restoreScrub).nameFirmware k inTrial →
    c = ({ b with boot := { b.boot with tampered := false, trial := if inTrial then some (b.tb.count, 1 - k) else none } } : State).reapplyAll →
    d = (if reverted then (c.so oID_BOOT_COUNT 0 (c.ob oID_BOOT_COUNT + 1)).raise evFw 4
      else c.so oID_BOOT_COUNT 0 (c.ob oID_BOOT_COUNT + 1)) →
    s.bootFirmware k inTrial reverted false bc br = d ∧
    s.bootFirmware k inTrial reverted true bc br = (d.extendEvent (textBytes "TAMPER")).raise evTamper) ∧
  (∀ (s : State) (n a mv : Nat) (b : Bool), s.isAdmin n = false →
    exec (.fwUpdate n a b) s = .next (s.send (.objectDone 0xA000 4 codeDenied)) ∧
    exec (.fwSwitch n) s = .next (s.send (.objectDone 0xA000 6 codeDenied)) ∧
    exec (.fwConfirm n) s = .next (s.send (.objectDone 0xA000 6 codeDenied)) ∧
    exec (.fwRevert n) s = .next (s.send (.objectDone 0xA000 6 codeDenied)) ∧
    exec (.fwRaiseFwSvn n mv) s = .next (s.send (.objectDone 0xA000 6 codeDenied)) ∧
    exec (.fwRaiseMbSvn n mv) s = .next (s.send (.objectDone 0xA000 6 codeDenied))) ∧
  (∀ (s t : State) (n a : Nat) (l : List Byte) (r : Option Nat), s.isAdmin n = true → s.ob oFW_UPDATE_STATE ≠ 1 →
    s.directory.active = 1 → s.readImage (a % 2 ^ 48) = (some l, t) → t.imageFault l 1 (bodyDigest l) true = r →
    exec (.fwUpdate n a true) s = .next (match r with
      | some k => (((t.rejectImage k).so oFW_UPDATE_STATE 0 3).raise evFw 2).send (.objectDone 0xA000 4 codeDone)
      | none => (((({ t with boot := { t.boot with slots := t.boot.slots.set 0 l } } : State).so oFW_VERSION_A 0
        (imageVersion l)).so oFW_UPDATE_STATE 0 2).raise evFw 1).send (.objectDone 0xA000 4 codeDone))) ∧
  (∀ (s t : State) (n : Nat), s.isAdmin n = true →
    (s.ob oFW_UPDATE_STATE = 2 → s.standbyReady = true →
      t = (s.writeDirectory (1 - s.directory.active) true 0).switchTo (1 - s.directory.active) true →
      exec (.fwSwitch n) s = .next (((({ t with boot := { t.boot with trial := some (t.tb.count, s.rf SEC_STATUS_FW_SLOT) } } : State).so
        oFW_UPDATE_STATE 0 0).raise evFw 3).send (.objectDone 0xA000 6 codeDone))) ∧
    (s.boot.trial.isSome = true → t = s.writeDirectory s.directory.active false 0 →
      exec (.fwConfirm n) s = .next (((({ t with boot := { t.boot with trial := none } } : State).sf SEC_STATUS_FW_TRIAL 0 0).raise
        evFw 5).send (.objectDone 0xA000 6 codeDone))) ∧
    (∀ w m, s.standbyReady = true → s.boot.trial = some (w, m) →
      t = (s.writeDirectory (if m = 2 then 0 else m) false 0).switchTo m false →
      exec (.fwRevert n) s = .next ((({ t with boot := { t.boot with trial := none } } : State).raise evFw 4).send
        (.objectDone 0xA000 6 codeDone)) ∧
      (w + s.ob oFW_TRIAL_S * ticksPerSecond ≤ s.tb.count →
        exec .fwTrialTimeout s = .next (({ t with boot := { t.boot with trial := none } } : State).raise evFw 4)))) ∧
  (∀ (s : State) (n mv : Nat), s.isAdmin n = true → fuseSupply mv = true → s.bit SEC_STATUS_FW_TRIAL = false →
    exec (.fwRaiseFwSvn n mv) s = .next ((s.sf SEC_SVN_FW_MIN 0 (max (s.rf SEC_SVN_FW_MIN)
      (imageSvn (s.slotImage (s.rf SEC_STATUS_FW_SLOT))))).send (.objectDone 0xA000 6 codeDone)) ∧
    exec (.fwRaiseMbSvn n mv) s = .next ((s.sf SEC_SVN_MB_MIN 0 (((s.boot.images.filter (fun l => imageType l == 3
      && (s.imageFault l 3 (s.streamDigest l) true).isNone)).foldl (fun m l => max m (imageSvn l))
        (s.rf SEC_SVN_MB_MIN)))).send (.objectDone 0xA000 6 codeDone))) ∧
  (∀ (s : State) (n : Nat) (x : Session) (nonce : List Byte), s.session n = some x →
    (nonce.length = 32 → exec (.attestNonceWrite n nonce) s
      = .next ((s.setSession { x with nonce := some nonce }).send (.objectDone 0xA200 1 codeDone))) ∧
    (nonce.length ≠ 32 → exec (.attestNonceWrite n nonce) s = .next (s.send (.objectDone 0xA200 1 codeBadDescriptor))) ∧
    (x.nonce = none → exec (.attestReportRead n) s = .next (s.send (.objectDone 0xA200 1 codeBadDescriptor))) ∧
    (∀ c, x.nonce = some c → exec (.attestReportRead n) s = .next (s.send (.objectValue 0xA200 1 (s.attestReport x c))))) ∧
  (∀ (s t y : State) (n : Nat) (x : Session) (v l : List Byte) (gs : List Nat) (r : Option Nat), s.session n = some x →
    v.length = 16 → headerZero v 12 4 = true → fieldAt v 10 2 ≠ 0 →
    fieldAt v 8 2 + fieldAt v 10 2 ≤ 1088 → s.readImage (fieldAt v 0 6) = (some l, t) →
    gs = (List.range (fieldAt v 10 2)).map (fun i => fieldAt v 8 2 + i) →
    t.imageFault l 4 (bodyDigest l) (gs.all (fun g => t.loadable x g)) = r →
    y = gs.foldl (fun s g => (s.firmwareWaits (engineCodeBase g) 0x8000).writeWords (engineCodeBase g) unitThimble (codeWords (imageBody l))) t →
    exec (.imageLoad n v) s = .next (match r with
      | some k => (t.rejectImage k).send (.objectDone 0xA200 7 codeDenied)
      | none => ((partitions.filter (fun p => gs.any (fun g => y.panelOwner (g / 17) == some p))).foldl
        (fun s p => s.extend (2 + p) (imageDigest l)) y).send (.objectDone 0xA200 7 codeDone))) ∧
  (∀ (s t : State) (n p k : Nat) (x : Session) (v l : List Byte) (r : Option Nat), s.session n = some x → v.length = 16 →
    headerZero v 1 7 = true → headerZero v 14 2 = true → k = fieldAt v 0 1 → s.patchOwner k = some p → s.isMb p = false →
    (s.firmwareWaits (fieldAt v 8 6) 320).readBytes (fieldAt v 8 6) 320 unitThimble 0 = (some l, t) →
    t.imageFault l 2 (t.patchDigest k) ((x.role == 0 || (x.role == 1 && x.part == p)) && t.qstate k == qLoaded
      && imageId l == t.ob oQUILT_P_IMAGE_ID k) = r →
    exec (.quiltAuth n v) s = .next (match r with
      | some e => (t.rejectImage e).send (.objectDone 0xA200 8 codeDenied)
      | none => ((t.sf QP_STATE_AUTH k 1).extend (2 + p) (imageDigest l)).send (.objectDone 0xA200 8 codeDone))) ∧
  (∀ (s t : State) (n v : Nat) (c : Nat × Nat × Tab (List Byte)),
    (c = (s.storeCopy []).getD (1, 0, []) → 3 * 0x200000 ≤ s.ob oSTORE_JOURNAL_USED * 4 → s.ob oSTORE_STATE ≠ 3 →
      t = { s with boot := { s.boot with
        copies := s.boot.copies.set (1 - c.1) (c.2.1 + 1, mergeStore c.2.2 s.boot.journal)
        journal := [] } } →
      exec .storeCompact s = .next ((t.so oSTORE_GENERATION 0 (c.2.1 + 1)).so oSTORE_JOURNAL_USED 0 0)) ∧
    (s.isAdmin n = true → s.allUnassigned = true → v = 1 →
      t = { s with boot := { s.boot with
        copies := s.boot.copies.map (fun c => (c.1, c.2.1, c.2.2.filter (fun (e : Nat × List Byte) => isHistory e.1)))
        journal := s.boot.journal.filter (fun e => isHistory e.1) } } →
      exec (.storeClear n v) s = .next (t.countJournal.send (.objectDone 0x1F00 5 codeDone))) ∧
    (s.isAdmin n = false → exec (.storeClear n v) s = .next (s.send (.objectDone 0x1F00 5 codeDenied)))) ∧
  (∀ (s t : State),
    (partitions.all (fun p => decide (s.pstate p ≤ 1)) = true → s.boltState = boltAlone →
      t = (s.coldReset 3).send (.rails false) →
      exec .pmDeviceOff s = .next (({ t with pm := { t.pm with off := true } } : State).send (.objectDone 0x8000 2 codeDone))) ∧
    (s.boltState ≠ boltAlone → exec .pmDeviceOff s = .next (s.send (.objectDone 0x8000 2 codeDenied))) ∧
    (s.boot.phase = 3 → t = s.send (.rails true) → exec .wakePin s
      = .next { t with boot := { t.boot with phase := 1 }, pm := { t.pm with off := false } }) ∧
    (s.boot.phase = 0 → s.ob oPM_DEVICE_STATE = 3 → exec .wakePin s = .next s.endHold) ∧
    (s.boot.phase = 0 → s.ob oPM_DEVICE_STATE ≠ 3 → exec .wakePin s = .next (s.raise evWakePin)))

/-- Key slots, tampering, fuses and the diagnostics lock act as the security rules say. -/
def Obligations.KeyFuseAndDiagnosticCommandsComplete : Prop :=
  (∀ (s : State) (n mv : Nat) (x : Session) (v : List Byte), s.session n = some x →
    (x.role ≠ 0 → exec (.keySlot0Write n v mv) s = .next (s.send (.objectDone 0xA200 2 codeDenied)) ∧
      exec (.keySlot1Write n v) s = .next (s.send (.objectDone 0xA200 3 codeDenied))) ∧
    (s.bit SEC_STATUS_SLOT0_VALID = true ∨ fuseSupply mv = false →
      exec (.keySlot0Write n v mv) s = .next (s.send (.objectDone 0xA200 2 codeDenied))) ∧
    (x.role = 0 → s.bit SEC_STATUS_SLOT0_VALID = false → fuseSupply mv = true →
      exec (.keySlot0Write n v mv) s = .next (match x.unwrap 2 v with
        | none => s.send (.objectDone 0xA200 2 codeBadDescriptor)
        | some k => ((({ s with keys := s.keys.set 0 k } : State).sf SEC_STATUS_SLOT0_VALID 0 1).extendEvent
          (textBytes "SLOT0")).send (.objectDone 0xA200 2 codeDone))) ∧
    (x.role = 0 → (List.range 8).all (fun p => s.qstate p != qLoading) = true →
      exec (.keySlot1Write n v) s = .next (match x.unwrap 3 v with
        | none => s.send (.objectDone 0xA200 3 codeBadDescriptor)
        | some k => ((({ s with keys := s.keys.set 1 k } : State).sf SEC_STATUS_SLOT1_VALID 0 1).extendEvent
          (textBytes "SLOT1")).send (.objectDone 0xA200 3 codeDone)))) ∧
  (∀ (s t : State), t = ((({ s with keys := s.keys.del 1 } : State).sf SEC_STATUS_SLOT1_VALID 0 0).tamperStreams).sf
      SEC_STATUS_TAMPERED 0 1 →
    (t.boot.phase = 0 → exec .tamper s = .next ((t.extendEvent (textBytes "TAMPER")).raise evTamper)) ∧
    (t.boot.phase ≠ 0 → exec .tamper s = .next { t with boot := { t.boot with tampered := true } }) ∧
    exec .vbatLoss s = .next ((({ s with keys := s.keys.del 1 } : State).sf SEC_STATUS_SLOT1_VALID 0 0).tamperStreams)) ∧
  (∀ (s t : State) (n k w mv : Nat) (v : List Byte),
    (s.isAdmin n = false →
      exec (.fuseCustKey n v mv) s = .next (s.send (.objectDone 0xA200 4 codeDenied)) ∧
      exec (.fuseRevoke n k mv) s = .next (s.send (.objectDone 0xA200 5 codeDenied)) ∧
      exec (.fusePolicy n w mv) s = .next (s.send (.objectDone 0xA200 6 codeDenied))) ∧
    (s.isAdmin n = true → s.allUnassigned = true → fuseSupply mv = true →
      (v.length = 65 → k = fieldAt v 0 1 → 1 ≤ k → k ≤ 4 → natBit (s.rf SEC_POLICY_KEY_PRESENT) (k - 1) = false →
        t = { s with boot := { s.boot with custKeys := s.boot.custKeys.set k (sliceBytes v 1 64) } } →
        exec (.fuseCustKey n v mv) s = .next ((t.sf SEC_POLICY_KEY_PRESENT 0 (t.rf SEC_POLICY_KEY_PRESENT
          ||| 2 ^ (k - 1))).send (.objectDone 0xA200 4 codeDone))) ∧
      (v.length ≠ 65 → exec (.fuseCustKey n v mv) s = .next (s.send (.objectDone 0xA200 4 codeBadDescriptor))) ∧
      (1 ≤ k → k ≤ 4 → exec (.fuseRevoke n k mv) s = .next ((s.sf SEC_POLICY_KEY_REVOKED 0
        (s.rf SEC_POLICY_KEY_REVOKED ||| 2 ^ (k - 1))).send (.objectDone 0xA200 5 codeDone))) ∧
      (k < 1 ∨ 4 < k → exec (.fuseRevoke n k mv) s = .next (s.send (.objectDone 0xA200 5 codeBadDescriptor))) ∧
      (8 ≤ w → exec (.fusePolicy n w mv) s = .next (s.send (.objectDone 0xA200 6 codeBadDescriptor))) ∧
      (w < 8 → t = { s with boot := { s.boot with burnt := s.boot.burnt ||| w } } →
        exec (.fusePolicy n w mv) s = .next ((if natBit w 2 then t.sf SEC_POLICY_DIAG_LOCK 0 1 else t).send
          (.objectDone 0xA200 6 codeDone))))) ∧
  (∀ (s : State) (n : Nat) (nonce : List Byte),
    (s.isAdmin n = true → exec (.diagChallenge n nonce) s
      = .next (({ s with boot := { s.boot with nonce := some (sliceBytes nonce 0 32) } } : State).send
        (.objectValue 0xA200 9 (sliceBytes nonce 0 32 ++ valBytes 8 s.die.serial)))) ∧
    (s.isAdmin n = false → exec (.diagChallenge n nonce) s = .next (s.send (.objectDone 0xA200 9 codeDenied)))) ∧
  (∀ (s : State) (n : Nat) (x : Session) (sig c : List Byte), s.session n = some x →
    (s.boot.nonce = none → exec (.diagUnlock n sig) s = .next (s.send (.objectDone 0xA200 10 codeDenied))) ∧
    (s.boot.nonce = some c →
      (x.role ≠ 0 ∨ s.bit SEC_POLICY_DIAG_LOCK = true →
        exec (.diagUnlock n sig) s = .next (s.send (.objectDone 0xA200 10 codeDenied))) ∧
      (x.role = 0 → s.bit SEC_POLICY_DIAG_LOCK = false → exec (.diagUnlock n sig) s
        = .next (if Config.ed448Verify Config.diagKey
            (shakeBytes 64 (textBytes "DIAG" ++ (c ++ valBytes 8 s.die.serial))) sig = false
          then s.send (.objectDone 0xA200 10 codeDenied)
          else ((((s.setSession { x with diag := true }).sf SEC_STATUS_DIAG_UNLOCKED 0 1).extendEvent
            (c ++ valBytes 8 s.die.serial)).raise evDiagUnlock).send (.objectDone 0xA200 10 codeDone)))))

/-- Cores, command queues, counter, timers, interrupts and framing images of an MB partition act as its rules say. -/
def Obligations.MbPersonalityCommandsComplete : Prop :=
  (∀ (s : State) (u k p c g : Nat), s.slotLive k = some p → c < 64 → s.mayWriteView u k = true → g = s.mbCore p c →
    s.siteUp g = true → s.islandStops (g / 17) = false →
    exec (.mbCoreRelease u k c) s = .next (s.setEng g { s.eng g with fresh := false }) ∧
    (∀ a, exec (.mbCoreStart u k c a) s = .next ((s.sf ENG_START_PC_PC g a).goEngine g)) ∧
    exec (.mbCoreStop u k c) s = .next (s.resetEngine g) ∧
    exec (.mbCoreClearFault u k c) s = .next (s.sf ENG_STATE_LAST_REASON g 0)) ∧
  (∀ (s : State) (u k p q : Nat) (c : MbCommand), s.slotPart k = some p → q < 16 → s.mayWriteView u k = true →
    (s.pstate p = 4 → exec (.mbCmdqDoorbell u k q [c]) s = .next (s.mbComplete k q c.number 3)) ∧
    (s.pstate p = 3 →
      (mbJobType c.opcode = none → exec (.mbCmdqDoorbell u k q [c]) s = .next (s.mbComplete k q c.number 4)) ∧
      (s.mbArgs p c.args c.addrs = none → exec (.mbCmdqDoorbell u k q [c]) s = .next (s.mbComplete k q c.number 4)) ∧
      (∀ typ args, mbJobType c.opcode = some typ → s.mbArgs p c.args c.addrs = some args →
        exec (.mbCmdqDoorbell u k q [c]) s = .next (s.pushBytes (s.ob oPART_QUEUE_BASE p + 256 + q) unitThimble
          (mbDescriptor c typ args) (1 + 2 * (c.priority % 4)) ((s.now + s.ob oMB_P_CMD_BUDGET_TICKS p) % 2 ^ 48))))) ∧
  (∀ (s t : State) (k p q : Nat) (e : List Carried), s.slotPart k = some p → q < 16 →
    s.popQueue (s.ob oPART_QUEUE_BASE p + 272 + q) unitThimble = (.entry e, t) →
    (∀ (w v : Word) (x : State), e.getD 0 none = some w → e.getD 1 none = some v →
      x = (if w.toNat / 2 ^ 56 = codeDoneLate then t.inco oMB_P_LATE_CMDS p 32 else t) →
      exec (.mbCmdqCompletion k q) s = .next (x.mbComplete k q (v.toNat / 2 ^ 32) (mbStatus (w.toNat / 2 ^ 56))
        (v.toNat % 2 ^ 32) (((e.getD 6 none).map (fun y => y.toNat)).getD 0)
        (mbCrcFail (w.toNat / 2 ^ 48 % 256) (v.toNat % 2 ^ 32) (Config.mbCrcFlag x.free))).fresh) ∧
    (∀ v : Word, e.getD 0 none = none → e.getD 1 none = some v →
      exec (.mbCmdqCompletion k q) s = .next (t.mbComplete k q (v.toNat / 2 ^ 32) 2)) ∧
    (e.getD 1 none = none → exec (.mbCmdqCompletion k q) s = .next (t.mbComplete k q 0xFFFFFFFF 2))) ∧
  (∀ (s t : State) (u k p : Nat) (v : Word), s.slotLive k = some p → s.mayWriteView u k = true →
    exec (.mbCounterWrite u k v) s = .next (s.setMbSlot k { s.mbSlot k with
      toffset := (BitVec.ofInt 64 ((v.toNat : Int) - (s.tb.count / 4 : Nat))).toInt }) ∧
    (∀ n, n < 16 → exec (.mbTimerSet u k n v) s = .next (((s.writeCmpCtrl unitThimble (s.ob oTIMER_CMP_BASE p + n) 0).writeCmpField
      unitThimble (s.ob oTIMER_CMP_BASE p + n) 0 ((4 * ((v.toNat : Int) - (s.mbSlot k).toffset)) % 2 ^ 48).toNat).writeCmpCtrl
        unitThimble (s.ob oTIMER_CMP_BASE p + n) (2 ^ 31))) ∧
    (∀ n, t = s.setMsix (k + 1) { s.msixOf (k + 1) with sent := (s.msixOf (k + 1)).sent.filter (fun v => v != n) } →
      (t.mbVectorPending p k n = true → exec (.mbEndOfInterrupt u k n) s = .next (t.sendVector (k + 1) n)) ∧
      (t.mbVectorPending p k n = false → exec (.mbEndOfInterrupt u k n) s = .next t)) ∧
    (∀ c a, exec (.mbMailboxCommand u k c a true) s = .next ((s.send (.mbMailbox k none)).mbSource k 168) ∧
      exec (.mbMailboxCommand u k c a false) s
        = .next ((s.send (.mbMailbox k (some (Config.mbMailbox k c a)))).mbSource k 168))) ∧
  (∀ (s t : State) (n a : Nat) (l : List Byte) (r : Option Nat),
    (s.isAdmin n = false → exec (.mbFramingStore n a true) s = .next (s.send (.objectDone 0xC000 1 codeDenied))) ∧
    (s.isAdmin n = true → s.readImage (a % 2 ^ 48) = (none, t) → exec (.mbFramingStore n a true) s
      = .next (((t.rejectImage 1).so oMB_FRAMING_STATE 0 3).send (.objectDone 0xC000 1 codeDone))) ∧
    (s.isAdmin n = true → s.readImage (a % 2 ^ 48) = (some l, t) → t.imageFault l 3 (t.streamDigest l) true = r →
      exec (.mbFramingStore n a true) s = .next (match r with
        | some e => ((t.rejectImage e).so oMB_FRAMING_STATE 0 3).send (.objectDone 0xC000 1 codeDone)
        | none => ((({ t with boot := { t.boot with images := t.boot.images.filter (fun m => !(imageType m == 3 && imageId m == imageId l)) ++ [l] } } : State).refreshImages).so
          oMB_FRAMING_STATE 0 2).send (.objectDone 0xC000 1 codeDone))))

/-- Partition commands and the resets of partitions and functions act as their rules say. -/
def Obligations.PartitionAndFunctionResetCommandsComplete : Prop :=
  (∀ (s : State) (n p : Nat) (x : Session), s.session n = some x →
    (p < 8 → x.commands p = false →
      exec (.partCreate n p) s = .next (s.send (.objectDone (0x2100 + p) 9 codeDenied)) ∧
      exec (.partStart n p) s = .next (s.send (.objectDone (0x2100 + p) 9 codeDenied)) ∧
      exec (.partStop n p) s = .next (s.send (.objectDone (0x2100 + p) 9 codeDenied)) ∧
      exec (.partDelete n p) s = .next (s.send (.objectDone (0x2100 + p) 9 codeDenied))) ∧
    (p < 8 → x.commands p = true →
      (s.pstate p = 0 → exec (.partCreate n p) s = .next (({ s.so oPART_STATE p 1 with
        measures := s.measures.set (2 + p) (List.replicate 64 0) } : State).send (.objectDone (0x2100 + p) 9 codeDone))) ∧
      (s.pstate p ≠ 0 → exec (.partCreate n p) s = .next (s.send (.objectDone (0x2100 + p) 9 codeBusy))) ∧
      (s.pstate p ≠ 1 → exec (.partStart n p) s = .next (s.send (.objectDone (0x2100 + p) 9 codeBusy)) ∧
        exec (.partDelete n p) s = .next (s.send (.objectDone (0x2100 + p) 9 codeBusy))) ∧
      (s.pstate p = 1 →
        ((s.copyWindows p).startValid p = false → exec (.partStart n p) s
          = .next ((s.copyWindows p).send (.objectDone (0x2100 + p) 9 codeBadDescriptor))) ∧
        ((s.copyWindows p).startValid p = true → exec (.partStart n p) s
          = .next (((bitsSet 64 ((s.copyWindows p).ob oPART_PANEL_MASK p)).foldl (fun s n => s.panelUpFrom n)
            (s.copyWindows p)).so oPART_STATE p 2)) ∧
        (∀ (a b c l d : State),
          a = ((List.range 64).filter (fun c => s.carrierOwner c == some p)).foldl (fun s c => s.disableCarrier c)
            (((List.range 1024).filter (fun n => s.comparatorOwner n == some p)).foldl (fun s n => s.disarm n) s) →
          b = (bitsSet 64 ((a.dmaResetAll p).ob oPART_PANEL_MASK p)).foldl (fun s n => s.panelOff n) (a.dmaResetAll p) →
          c = (bitsSet 8 ((a.dmaResetAll p).ob oPART_PATCH_MASK p)).foldl (fun s n => s.patchOff n) b →
          l = (bitsSet 48 (c.ob oPART_LANE_MASK p)).foldl (fun s n => s.laneOff n) c →
          d = ((List.range 4).filter (fun h => (a.dmaResetAll p).ob oHEM_OWNER h == p)).foldl
            (fun s h => s.so oHEM_OWNER h 0xFF) l →
          exec (.partDelete n p) s = .next ((((partObjects p).foldl (fun s e => s.dropObject e.1 e.2) d).so oPART_STATE p 0).send
            (.objectDone (0x2100 + p) 9 codeDone)))) ∧
      (s.pstate p = 3 → exec (.partStop n p) s
        = .next (((s.so oPART_STATE p 4).abortPending p).send (.objectDone (0x2100 + p) 9 codeDone))) ∧
      (s.pstate p ≠ 3 → exec (.partStop n p) s = .next (s.send (.objectDone (0x2100 + p) 9 codeBusy)))) ∧
    (8 ≤ p → exec (.partCreate n p) s = .next (s.send (.objectDone (0x2100 + p) 9 codeBadDescriptor)))) ∧
  (∀ (s t : State) (p : Nat), p < 8 → s.pstate p = 2 → s.bit PM_THERM_STATE_TRIP = false →
    (s.isMb p = false → exec (.partUnitsReady p) s
      = .next (((s.releaseUnits p).so oPART_STATE p 3).startDone p codeDone)) ∧
    (s.isMb p = true → (s.mbZeroFill p).mbFraming p = (true, t) → exec (.partUnitsReady p) s
      = .next (((((t.mbEnable p).mbEngines p).releaseUnits p).so oPART_STATE p 3).startDone p codeDone)) ∧
    (s.isMb p = true → (s.mbZeroFill p).mbFraming p = (false, t) → exec (.partUnitsReady p) s = .next t)) ∧
  (∀ (s : State) (p : Nat), p < 8 →
    (s.pstate p = 4 → s.sh.jobs.any (fun j => j.part == p) = false →
      exec (.partDrainDone p) s = .next ((s.holdUnits p).so oPART_STATE p 1)) ∧
    (s.pstate p = 0 → exec (.partitionReset p) s = .next s) ∧
    (s.pstate p = 1 → exec (.partitionReset p) s = .next (((s.resetSymbols p).resetQueues p).dmaResetAll p)) ∧
    (s.pstate p = 3 ∨ s.pstate p = 4 → exec (.partitionReset p) s
      = .next ((((((s.abortAll p).holdUnits p).resetSymbols p).resetQueues p).dmaResetAll p).so oPART_STATE p 1)) ∧
    (s.pstate p = 2 → exec (.partitionReset p) s = .next (((((((s.startDone p codeAborted).abortAll
      p).holdUnits p).resetSymbols p).resetQueues p).dmaResetAll p).so oPART_STATE p 1))) ∧
  (∀ (s t : State) (f p : Nat), f ≠ 0 → t = (s.clearFunction f).endMailbox f →
    (t.functionPartition f = none → exec (.functionLevelReset f) s = .next t) ∧
    (t.functionPartition f = some p →
      ((t.resetPart p).ob oMB_P_AUTO_RESTART p ≠ 1 ∨ 4 < f → exec (.functionLevelReset f) s = .next (t.resetPart p)) ∧
      (f ≤ 4 → (t.resetPart p).ob oMB_P_AUTO_RESTART p = 1 → (t.resetPart p).isMb p = true →
        exec (.functionLevelReset f) s = .next ((t.resetPart p).startPart p).2)) ∧
    exec (.functionLevelReset 0) s = .next ((0 :: virtualFunctions).foldl (fun s f => s.flrOne f) s) ∧
    exec .hotReset s = .next (([0, 1, 2, 3, 4] ++ virtualFunctions).foldl (fun s f => s.flrOne f) s))

/-- Thermal limits, the supply alert and the test port act as the thermal and pin rules say. -/
def Obligations.ThermalSupplyAndTestPortCommandsComplete : Prop :=
  (∀ (s t : State) (l : List (Nat × Int)), t = s.sense l →
    (t.bit PM_THERM_STATE_WARN = true → t.thermal.warnTick = none ∨ (∃ n, t.thermal.warnTick = some n
        ∧ n + ticksPerSecond ≤ t.tb.count) →
      exec (.thermWarn l) s
        = .next (({ t with thermal := { t.thermal with warnTick := some t.tb.count } } : State).raise evThermal 1)) ∧
    (t.bit PM_THERM_STATE_WARN = false → exec (.thermWarn l) s = .next t) ∧
    (t.hotAtLeast (t.celsius oTHERM_THROTTLE_C) = true → t.stepDue 12288 = true → 50 < t.rf PM_THERM_STATE_FREQ_PCT →
      (t.rf PM_THERM_STATE_FREQ_PCT = 100 →
        exec (.throttleStep l) s = .next ((t.setTarget 95).raise evThermal 2)) ∧
      (t.rf PM_THERM_STATE_FREQ_PCT ≠ 100 →
        exec (.throttleStep l) s = .next (t.setTarget (max 50 (t.rf PM_THERM_STATE_FREQ_PCT - 5))))) ∧
    (t.bit PM_THERM_STATE_THROTTLE = true → t.hotAtMost (t.celsius oTHERM_THROTTLE_C - 3) = true →
      t.stepDue 122880 = true →
      (t.rf PM_THERM_STATE_FREQ_PCT < 95 → exec (.throttleReleaseStep l) s
        = .next (t.setTarget (t.rf PM_THERM_STATE_FREQ_PCT + 5))) ∧
      (95 ≤ t.rf PM_THERM_STATE_FREQ_PCT → exec (.throttleReleaseStep l) s
        = .next ((t.setTarget 100).raise evThermal 3))) ∧
    (∀ x, t.hotAtLeast 120 = true → t.bit PM_THERM_STATE_TRIP = false →
      x = (t.allSelfRefresh.sf PM_THERM_STATE_TRIP 0 1).send (.pin "THERMTRIP_N" false) →
      exec (.thermalTrip l) s = .next (({ x with thermal := { x.thermal with cool := none } } : State).raise evThermal 4)) ∧
    (t.bit PM_THERM_STATE_TRIP = true →
      (t.hotAtMost 110 = false → exec (.thermalTripRelease l) s
        = .next { t with thermal := { t.thermal with cool := none } }) ∧
      (t.hotAtMost 110 = true → t.thermal.cool = none → exec (.thermalTripRelease l) s
        = .next { t with thermal := { t.thermal with cool := some t.tb.count } }) ∧
      (∀ n x, t.hotAtMost 110 = true → t.thermal.cool = some n → n + ticksPerSecond ≤ t.tb.count →
        x = (t.sf PM_THERM_STATE_TRIP 0 0).send (.pin "THERMTRIP_N" true) → exec (.thermalTripRelease l) s
          = .next (({ x with thermal := { x.thermal with cool := none } } : State).raise evThermal 5)))) ∧
  (∀ (s : State) (p : Nat), s.setTarget p = ({ s with thermal := { s.thermal with stepTick := some s.tb.count } }.sf
    PM_THERM_STATE_FREQ_PCT 0 p).sf PM_THERM_STATE_THROTTLE 0 (if p < 100 then 1 else 0)) ∧
  (∀ (s : State) (l m : List Bool),
    exec .supplyAlert s = .next (s.raise evSupply) ∧
    exec (.jtagExtest l) s = .next ((({ s with jtag := { s.jtag with ir := .extest } } : State).send
      (.boundary s.jtag.boundary)).send (.tdo l)) ∧
    exec (.jtagSamplePreload l m) s
      = .next (({ s with jtag := { s.jtag with ir := .sample, boundary := m } } : State).send (.tdo l)) ∧
    exec (.jtagBypass l) s
      = .next (({ s with jtag := { s.jtag with ir := .bypass } } : State).send (.tdo (false :: l))) ∧
    exec .jtagIdcode s = .next (({ s with jtag := { s.jtag with ir := .idcode } } : State).send (.tdo ((List.range 32).map
      (fun i => (BitVec.ofNat 32 (s.die.stepping % 16 * 2 ^ 28 + s.die.variant.pciDevice % 2 ^ 16 * 2 ^ 12
        + 0x55B)).getLsbD i)))))

/-- Swatch requests, notices, relays and timeouts and the mailbox act as the Swatch rules say. -/
def Obligations.SwatchAndMailboxCommandsComplete : Prop :=
  (∀ (s : State) (v : SwatchVia) (b : List Byte) (y : List Sensed), s.serves = true →
    (∀ (m : List Byte) (r : Reply) (s1 z : State), s.incoming v b = (some (m, r), s1) → swRequest m = true →
      s.foreign m = false → z = (if (s1.request m r y).sessions.any (fun x => x.starts.any (fun w => w.reply == r))
        then s1.request m r y else (s1.request m r y).unanswered r) →
      (swType m = 0x01 → exec (.swatchOpen v b y) s = .next z) ∧
      (swType m = 0x02 → exec (.swatchProof v b y) s = .next z) ∧
      (swType m = 0x10 → exec (.swatchRead v b y) s = .next z) ∧
      (swType m = 0x11 → exec (.swatchWrite v b y) s = .next z) ∧
      (swType m = 0x12 → exec (.swatchDescribe v b y) s = .next z) ∧
      (swType m = 0x13 → exec (.swatchSubscribe v b y) s = .next z) ∧
      (swType m = 0x14 → exec (.swatchUnsubscribe v b y) s = .next z) ∧
      (swType m = 0x15 → exec (.swatchPoll v b y) s = .next z) ∧
      (swType m = 0x30 → exec (.swatchKeepalive v b y) s = .next z) ∧
      (swType m = 0x31 → exec (.swatchClose v b y) s = .next z)) ∧
    (∀ (m : List Byte) (r : Reply) (s1 : State) (c : Instr), s.incoming v b = (some (m, r), s1) → swRequest m = false →
      (∀ d, v ≠ .relay d) →
      c ∈ [.swatchOpen v b y, .swatchProof v b y, .swatchRead v b y, .swatchWrite v b y, .swatchDescribe v b y,
        .swatchSubscribe v b y, .swatchUnsubscribe v b y, .swatchPoll v b y, .swatchKeepalive v b y, .swatchClose v b y,
        .swatchRelay v b] →
      exec c s = .next ((s1.inco oSWATCH_DISCARDS 0 32).unanswered r))) ∧
  (∀ (s : State) (m : List Byte) (r : Reply) (y : List Sensed),
    (swType m = 0x01 →
      s.request m r y = if swTagOk (List.replicate 32 0) m then s.openRequest m r (y.headD Sensed.none) else s) ∧
    (∀ (x : Session), swType m ≠ 0x01 → s.anySession (swSession m) = some x → s.alive x = true → x.accepted = true →
      (swSeq m = x.last + 1 → s.request m r y = if swTagOk x.kcd m
        then ((s.setSession { x with tick := s.tb.count, fails := 0, reply := r }).process
          { x with tick := s.tb.count, fails := 0, reply := r } r m (y.headD Sensed.none)).drainHeld x.id r 8 y.tail
        else s.tagFailed x) ∧
      (∀ l, swSeq m ≤ x.last → x.last ≤ swSeq m + 7 →
        x.replies.find? (fun (e : Nat × List Byte) => e.1 == swSeq m) = some (swSeq m, l) →
        s.request m r y = if swTagOk x.kcd m
          then (s.setSession { x with tick := s.tb.count, fails := 0, reply := r }).answer r l else s.tagFailed x))) ∧
  (∀ (s s1 : State) (x : Session) (r : Reply) (m : List Byte) (y : Sensed) (a : SwAnswer), s.serve1 x m y = (a, s1) →
    (a.code = codeLater → s.process x r m y = s1.modSession x.id (fun w => { w with
      last := swSeq m, held := w.held.del (swSeq m)
      starts := w.starts ++ [⟨fieldAt (swBody m) 0 2 % 8, swSeq m, swDevice m, r⟩] })) ∧
    (a.code ≠ codeLater → ∃ l, l = swMessage (swType m + 0x80) (swDevice m) a.flags a.code x.id (swSeq m) a.body x.kdc ∧
      s.process x r m y = (s1.modSession x.id (fun w => { w with
        last := swSeq m, held := w.held.del (swSeq m)
        replies := Tab.set (w.replies.filter (fun (e : Nat × List Byte) => decide (swSeq m < e.1 + 8))) (swSeq m) l })).answer r
          l)) ∧
  (∀ (s : State) (m : List Byte) (r : Reply) (y : Sensed), (swBody m).length = 152 → headerZero (swBody m) 2 2 = true →
    headerZero (swBody m) 149 3 = true → fieldAt (swBody m) 0 1 = 0 → fieldAt (swBody m) 1 1 = 0xFF →
    s.dom oSWATCH_CLIENT_KEYS = [] →
    (r ≠ .mailbox 0 → s.openRequest m r y = s.answer r (swMessage 0x81 (swDevice m) 0 codeDenied 0 (swSeq m) [] zeroKey)) ∧
    (r = .mailbox 0 → 16 ≤ s.sessions.length → s.openRequest m r y = (s.answer r (swMessage 0x81 (swDevice m) 0 codeBusy 0
      (swSeq m) [] zeroKey)).raise evSwatch 0x02)) ∧
  (∀ (s : State) (x : Session) (m : List Byte) (y : Sensed),
    (swType m = 0x02 → (swBody m).length = 116 → headerZero (swBody m) 114 2 = true → x.accepted = false →
      s.serve1 x m y = if Config.ed448Verify x.client (shakeBytes 64 (textBytes "SWATCH-C" ++ x.transcript)) (sliceBytes (swBody m) 0 114)
        then (⟨codeDone, 0, valBytes 1 x.role ++ valBytes 1 x.part ++ [0, 0] ++ valBytes 4 (s.ob oSWATCH_IDLE_S)⟩,
          s.modSession x.id (fun x => { x with accepted := true, tick := s.tb.count }))
        else (.bare codeDenied, s.closeSession x.id)) ∧
    (∀ (o : Obj) (i n : Nat), swType m = 0x10 → (swBody m).length = 12 → headerZero (swBody m) 3 1 = true →
      headerZero (swBody m) 10 2 = true → 1 ≤ fieldAt (swBody m) 8 2 → fieldAt (swBody m) 8 2 ≤ 1024 →
      fieldAt (swBody m) 0 2 < 0xF000 → objectAt (fieldAt (swBody m) 0 2) (fieldAt (swBody m) 2 1) = some (o, i) →
      o.acc ≠ .wo → s.roleReads x o i = true → o ≠ oSEC_ATTEST → o ≠ oSEC_DIAG_CHALLENGE →
      fieldAt (swBody m) 4 4 ≤ (s.valueOf o i).length → (o.ty.isLong = true ∨ fieldAt (swBody m) 4 4 = 0) →
      n = min (fieldAt (swBody m) 8 2) ((s.valueOf o i).length - fieldAt (swBody m) 4 4) →
      s.serve1 x m y = (⟨codeDone, (if fieldAt (swBody m) 4 4 + n < (s.valueOf o i).length then 4 else 0) + (if s.waits o i then 1 else 0),
        valBytes 2 (fieldAt (swBody m) 0 2) ++ valBytes 1 (fieldAt (swBody m) 2 1) ++ valBytes 1 o.ty.code ++
        valBytes 4 (fieldAt (swBody m) 4 4) ++ valBytes 4 (s.valueOf o i).length ++ valBytes 2 n ++ valBytes 2 (s.changesOf o i).1
        ++ sliceBytes (s.valueOf o i) (fieldAt (swBody m) 4 4) n⟩, s)) ∧
    (∀ (o : Obj) (i : Nat) (r : Nat × State), swType m = 0x11 → 12 ≤ (swBody m).length → headerZero (swBody m) 10 2 = true →
      fieldAt (swBody m) 8 2 ≤ 1024 → ((swBody m).drop 12).length = fieldAt (swBody m) 8 2 → fieldAt (swBody m) 0 2 < 0xF000 →
      objectAt (fieldAt (swBody m) 0 2) (fieldAt (swBody m) 2 1) = some (o, i) → s.writeBarred x o i = none →
      s.stateRule o i = none → fieldAt (swBody m) 3 1 = o.ty.code → o.ty.isLong = false → fieldAt (swBody m) 4 4 = 0 →
      fieldAt (swBody m) 8 2 = o.ty.size → natBit (swFlags m) 1 = true →
      r = s.writeNumber x o i (bytesVal ((swBody m).drop 12)) y →
      s.serve1 x m y = if r.1 = codeDone ∨ r.1 = codePartial
        then (⟨r.1, if o.acc = .rws then 1 else 0, writeBody (fieldAt (swBody m) 0 2) (fieldAt (swBody m) 2 1)
          (if o.acc = .rws then applyTick s.tb.count % 2 ^ 48 else 0)⟩, r.2)
        else (.bare r.1, r.2)) ∧
    (∀ (o : Obj) (i : Nat), swType m = 0x12 → (swBody m).length = 12 → headerZero (swBody m) 3 9 = true →
      fieldAt (swBody m) 0 2 < 0xF000 → objectAt (fieldAt (swBody m) 0 2) (fieldAt (swBody m) 2 1) = some (o, i) →
      (s.serve1 x m y).1.code = codeDone ∧ (s.serve1 x m y).2 = s) ∧
    (∀ e, swType m = 0x13 → (swBody m).length = 8 → fieldAt (swBody m) 0 2 < 0xF000 →
      subObjects (fieldAt (swBody m) 0 2) (fieldAt (swBody m) 2 1) = [e] → e.1.acc ≠ .wo → s.roleReads x e.1 e.2 = true →
      64 ≤ x.subs.length → s.serve1 x m y = (.bare codeBusy, s)) ∧
    (swType m = 0x14 → (swBody m).length = 8 → headerZero (swBody m) 1 7 = true →
      x.subs.any (fun u => u.id == fieldAt (swBody m) 0 1) = true → s.serve1 x m y = (.bare codeDone,
        s.modSession x.id (fun x => { x with subs := x.subs.filter (fun u => u.id != fieldAt (swBody m) 0 1) }))) ∧
    (swType m = 0x15 → swBody m = [] → (x.notes = [] → s.serve1 x m y = (.bare codeDone, s)) ∧
      (∀ n l, x.notes = n :: l → s.serve1 x m y = (⟨codeDone, if l.isEmpty then 0 else 4, n⟩,
        s.modSession x.id (fun x => { x with notes := l })))) ∧
    (swType m = 0x30 → swBody m = [] → s.serve1 x m y = (.bare codeDone, s)) ∧
    (swType m = 0x31 → swBody m = [] → s.serve1 x m y = (.bare codeDone, s.closeSession x.id))) ∧
  (∀ (s s1 : State) (v : SwatchVia) (b m : List Byte) (r : Reply), s.serves = true → s.incoming v b = (some (m, r), s1) →
    (swRequest m = true → s.foreign m = true → (s1.boltState = boltLeader → natBit (s1.ob oBOLT_MEMBERS) (swDevice m) = true →
      swSession m = 0 → exec (.swatchRelay v b) s
        = .next ({ s1 with relays := s1.relays ++ [(swDevice m, swSession m, r)] }.post (swDevice m) (.swatch m))) ∧
      (s1.boltState ≠ boltLeader ∨ natBit (s1.ob oBOLT_MEMBERS) (swDevice m) = false → exec (.swatchRelay v b) s
        = .next (s1.answer r (swMessage 0x7F (swDevice m) 0 codeNoUnit (swSession m) (swSeq m) [] zeroKey)))) ∧
    (∀ d, v = .relay d → swRequest m = false → swReply m = true → exec (.swatchRelay v b) s = .next (s1.relayReply d m))) ∧
  (∀ (s : State) (n f u : Nat) (x : Session) (c : Half),
    (s.anySession n = some x → x.accepted = false → x.tick + ticksPerSecond < s.tb.count →
      exec (.swatchOpenTimeout n) s = .next (s.keepSessions (fun x => x.id != n))) ∧
    (s.session n = some x → x.accepted = true → x.tick + s.ob oSWATCH_IDLE_S * ticksPerSecond ≤ s.tb.count →
      exec (.swatchSessionIdleTimeout n) s = .next (s.keepSessions (fun x => x.id != n))) ∧
    (∀ w o i p mark, s.session n = some x → x.subs.find? (fun u => u.id == f) = some w → objectAt w.index u = some (o, i) →
      w.marks.find? (fun (e : Nat × Nat × Nat × Option Nat) => e.1 == o.key i) = some (p, mark) →
      (s.noticeDue w o i mark = none → exec (.swatchNotify n f u) s = .next s) ∧
      (∀ (change : Bool) (t : State) (v body : List Byte), s.noticeDue w o i mark = some change →
        v = (if (s.valueOf o i).length ≤ 64 then s.valueOf o i else []) →
        body = valBytes 1 w.id ++ valBytes 1 u ++ valBytes 2 w.index ++ valBytes 4 ((s.changesOf o i).1 - mark.1)
          ++ valBytes 8 (if change then (s.changesOf o i).2 else s.now) ++ valBytes 1 o.ty.code ++ valBytes 1 v.length
          ++ [0, 0] ++ v →
        t = s.modSession x.id (fun x => { x with subs := x.subs.map (fun (w : Sub) => if w.id = f then
          { w with marks := w.marks.set (o.key i) (mark.1, (s.changesOf o i).1, some s.tb.count) } else w) }) →
        (∀ g, x.reply = .mailbox g → exec (.swatchNotify n f u) s = .next (t.modSession x.id (fun x => { x with
          notes := (x.notes ++ [body]).drop ((x.notes ++ [body]).length - 64) }))) ∧
        ((∀ g, x.reply ≠ .mailbox g) → exec (.swatchNotify n f u) s
          = .next ((t.modSession x.id (fun x => { x with notifySeq := x.notifySeq + 1 })).answer x.reply
            (swMessage 0x40 0xFF 0 0 x.id x.notifySeq body x.kdc))))) ∧
    (s.islandStops 76 = false → exec (.mailboxGo u f c) s = .next (s.writeMbxCtrl u f (c ||| 0x80000000).toNat)) ∧
    (s.ob oFAULT_THIMBLE = 4 → (s.mailboxOf f).since + ticksPerSecond / 100 ≤ s.tb.count → s.bit MBX_CTRL_BUSY f = true →
      exec (.mailboxTimeout f) s = .next (((((s.setMailbox f (s.mailboxOf f)).sf MBX_CTRL_BUSY f 0).sf MBX_CTRL_DONE f 1).sf
        MBX_STATUS_RSP_LEN f 0).sendVector f (((((s.setMailbox f (s.mailboxOf f)).sf MBX_CTRL_BUSY f 0).sf MBX_CTRL_DONE f 1).sf
        MBX_STATUS_RSP_LEN f 0).rf MBX_CTRL_VECTOR f)))) ∧
  (∀ (s : State),
    ((∀ e ∈ s.rws, s.tb.count < e.2.2) → exec .rwsApply s = .next s) ∧
    ((∀ e ∈ s.rws, e.2.2 ≤ s.tb.count) →
      exec .rwsApply s = .next (s.rws.foldl (fun (t : State) e => t.applyRws e) { s with rws := [] })))

/-- Register accesses, whole and by halves, and the host's accesses to memory act as the access rules say. -/
def Obligations.RegisterAndHostMemoryCommandsComplete : Prop :=
  (∀ (s : State) (u b a w : Nat) (page : Option Nat) (v : Word), a = s.ownRegister page b → viewOf page a = none →
    (∀ x, s.regStops u page a w = some x → exec (.registerWrite u page b w v) s = .next (s.stallOn x) ∧
      exec (.rcRegisterRead u page b w) s = .next (s.stallOn x)) ∧
    (∀ x, s.regStops u page a 4 = some x → exec (.registerLowHalfRead u page b) s = .next (s.stallOn x)) ∧
    ((∀ n, s.regStops u page a n = none) →
    ((reaches u page = false ∨ a % w ≠ 0 ∨ regAt page a = none) →
      exec (.registerWrite u page b w v) s = .next s ∧
      exec (.rcRegisterRead u page b w) s = .next (s.send (.unsupported u (regKey page a)))) ∧
    ((reaches u page = false ∨ a % 4 ≠ 0 ∨ regAt page a = none) →
      exec (.registerLowHalfRead u page b) s = .next (s.send (.unsupported u (regKey page a)))) ∧
    (∀ h k, reaches u page = true → regAt page a = some h → k = regKey page (a - h.off) → a % w = 0 →
      s.regGone h.reg h.index = true → exec (.registerWrite u page b w v) s = .next s) ∧
    (∀ h k, reaches u page = true → regAt page a = some h → k = regKey page (a - h.off) → h.off = 0 → a % w = 0 →
      s.regGone h.reg h.index = false →
      (w = h.reg.bytes → exec (.registerWrite u page b w v) s
        = .next ((s.touchReg h.reg).writeReg u h.reg h.index (v.toNat % 2 ^ (8 * w)))) ∧
      (w = 4 → h.reg.bytes = 8 → exec (.registerWrite u page b w v) s
        = .next { s with staged := ⟨u, k, v.toNat % 2 ^ 32⟩ :: s.staged.filter (fun x => !(x.requester == u && x.addr == k)) }) ∧
      (w = h.reg.bytes → s.regForeign u h.reg h.index = false → exec (.rcRegisterRead u page b w) s
        = .next (((s.touchReg h.reg).clearRead h.reg h.index 0).send
          (.registerRead u (regKey page a) (BitVec.ofNat 64 ((s.touchReg h.reg).regValue u h.reg h.index))))) ∧
      (w = h.reg.bytes → s.regForeign u h.reg h.index = true → exec (.rcRegisterRead u page b w) s
        = .next (s.send (.registerRead u (regKey page a) 0))) ∧
      (∀ t x, t = s.touchReg h.reg → x = t.regValue u h.reg h.index → w = 4 → h.reg.bytes = 8 →
        s.regForeign u h.reg h.index = false → exec (.registerLowHalfRead u page b) s
          = .next ({ t.clearRead h.reg h.index 0 with
              latched := ⟨u, k, x / 2 ^ 32⟩ :: t.latched.filter (fun y => !(y.requester == u && y.addr == k)) }.send
            (.registerRead u (regKey page a) (BitVec.ofNat 64 (x % 2 ^ 32)))))) ∧
    (∀ h k, reaches u page = true → regAt page a = some h → k = regKey page (a - h.off) → h.off = 4 → h.reg.bytes = 8 →
      a % 4 = 0 → s.regGone h.reg h.index = false → exec (.registerWrite u page b 4 v) s
        = .next ({ s with staged := s.staged.filter (fun x => !(x.requester == u && x.addr == k)) }.writeReg u h.reg h.index
          (v.toNat % 2 ^ 32 * 2 ^ 32 + (halfOf s.staged u k).getD (s.lowAsItStands h.reg h.index)))))) ∧
  (∀ (s t : State) (u b a : Nat) (page : Option Nat) (h : RegHit) (k : Nat), a = s.ownRegister page b → s.regStops u page (a + 4) 4 = none →
    viewOf page (a + 4) = none → reaches u page = true →
    regAt page (a + 4) = some h → k = regKey page (a + 4 - h.off) → h.off = 4 → h.reg.bytes = 8 → (a + 4) % 4 = 0 →
    s.regGone h.reg h.index = false → s.regForeign u h.reg h.index = false → t = s.touchReg h.reg →
    (∀ x, halfOf t.latched u k = some x → exec (.registerHighHalfRead u page b) s
      = .next ({ t with latched := t.latched.filter (fun y => !(y.requester == u && y.addr == k)) }.send
        (.registerRead u (regKey page (a + 4)) (BitVec.ofNat 64 x)))) ∧
    (halfOf t.latched u k = none → exec (.registerHighHalfRead u page b) s = .next ((t.clearRead h.reg h.index 32).send
      (.registerRead u (regKey page (a + 4)) (BitVec.ofNat 64 (t.regValue u h.reg h.index / 2 ^ 32)))))) ∧
  (∀ (s : State) (f a n : Nat) (e : List (BitVec 80)) (d : List (Option Byte)), functionExists f = true → hasPage f = true →
    0x40000000 ≤ a → a + n ≤ 2 ^ 41 → d.length = n →
    (s.rangeUnmapped a n = true →
      exec (.hostMemoryRead f .bar0 a n e) s = .next (s.send (.unsupported (functionUnit f) a)) ∧
      exec (.hostMemoryWrite f .bar0 a d false e) s = .next s) ∧
    (s.rangeUnmapped a n = false →
      (s.hostPasses f a n false = false → exec (.hostMemoryRead f .bar0 a n e) s = .next ((s.countDenial
        ((s.functionPartition f).getD 0) (functionUnit f) a false).send (.unsupported (functionUnit f) a))) ∧
      (s.hostPasses f a n true = false → exec (.hostMemoryWrite f .bar0 a d false e) s = .next (s.countDenial
        ((s.functionPartition f).getD 0) (functionUnit f) a true)) ∧
      (∀ x, s.accessStops (functionUnit f) a n = some x →
        (s.hostPasses f a n false = true → exec (.hostMemoryRead f .bar0 a n e) s = .next (s.stallOn x)) ∧
        (s.hostPasses f a n true = true → exec (.hostMemoryWrite f .bar0 a d false e) s = .next (s.stallOn x))) ∧
      (s.hostPasses f a n false = true → s.accessStops (functionUnit f) a n = none → ∀ r, r = (s.upsetWords (a / 8 * 8) e).readWords (a / 8 * 8) (functionUnit f) 1
          (wordsOf a n).length →
        exec (.hostMemoryRead f .bar0 a n e) s = .next (r.2.send (.readData (functionUnit f) a r.1))) ∧
      (s.hostPasses f a n true = true → s.accessStops (functionUnit f) a n = none → exec (.hostMemoryWrite f .bar0 a d false e) s
        = .next ((s.upsetWords (a / 8 * 8) e).writeEnabled (functionUnit f) (enabledWords a d)).2)) ∧
    (∀ t, t = s.incf HP_RX_POISONED_COUNT → t.rangeUnmapped a n = false → t.hostPasses f a n true = true →
      t.accessStops (functionUnit f) a n = none →
      exec (.hostMemoryWrite f .bar0 a d true e) s
        = .next ((wordsOf a n).foldl (fun (t : State) w => t.writeWordAt w (functionUnit f) none) (t.upsetWords (a / 8 * 8) e)))) ∧
  (∀ (s : State) (f : Nat) (p : Option Nat), s.functionPartition f = p →
    (∀ q a n w, p = some q → s.hostPasses f a n w = s.mayAccess q a n w) ∧
    (∀ a n w, p = none → f ≠ 0 → s.hostPasses f a n w = false))

/-- A command to a block whose island does not run waits at the stitch and changes nothing but the note of its stall. -/
def Obligations.CommandsToAStoppedIslandOnlyNoteTheStall : Prop :=
  (∀ (s : State) (island : Nat) (c : Instr) (i k p q r x1 x2 x3 : Nat) (h : Half) (w : Word) (b : Bool),
    s.islandStops island = true → island ≠ islandOf r → (island, c) ∈ (
      [(weftIsland, .queueEnable r q x1 x2 x3), (weftIsland, .queueDisable r q x1 x2 x3), (weftIsland, .shTriggerWrite r p h),
       (weftIsland, .shCancel r p w), (weftIsland, .sqEnable r i w), (weftIsland, .sqDisable r i w), (80, .tbStep r w),
       (80, .carrierTimerConfig r k x1 h), (80, .comparatorArm r k h), (80, .comparatorWrite r k x1 w),
       (k / 4, .gussetSreset r k h), (k / 17, .engSreset r k h), (k / 17, .engGo r k h), (k / 17, .engOpen r k h),
       (k / 17, .engHaltReq r k h), (islandOf k, .accSreset r k h), (islandOf (0x740 + k), .hemSgainWrite r k x1 h),
       (islandOf (0x740 + k), .hemSreset r k h), (islandOf (0x740 + k), .hemStreamEnable r k x1 h),
       (islandOf (0x740 + k), .hemStreamDisable r k x1 h), (laneIsland k, .laneEnable r k h),
       (laneIsland k, .laneDisable r k h), (laneIsland k, .laneRetrain r k h), (laneIsland k, .laneInject r k h),
       (laneIsland k, .lanePowerRequest r k h b), (laneIsland (4 * k), .pllEnable r k b h), (72, .fhPortEnable r k h),
       (72, .stWrite r p i), (72, .stRead r p i), (72, .stInvalidate r p i), (72, .cpriEnable r k h),
       (73, .seamLinkEnable r k h), (73, .seamPeerEvtPop r), (75, .dramXlate r w), (77, .dmaChEnable r k x1),
       (77, .dmaChDisable r k x1), (77, .dmaRing r k), (77, .dmaTrig r k), (77, .dmaChSreset r k),
       (77, .dmaChLinksWrite r k h), (78, .quiltBegin r k), (78, .quiltStart r k), (78, .quiltStop r k),
       (78, .quiltAbort r k), (78, .quiltReadFrame r k), (78, .quiltReset r k), (78, .quiltAuthorize r k),
       (78, .qpFdroRead r k), (78, .qpEndpointBind r k x1 b h), (76, .hostRingEnable r k x1 h),
       (76, .hostRingDisable r k x1 h), (76, .hostRingDoorbell r k x1 x2), (76, .mailboxGo r k h), (k, .panelReset r k)] : List (Nat × Instr)) →
    exec c s = .next (s.stallAt island)) ∧
  (∀ (s : State) (island : Nat),
    ((s.isl island).stall = none → s.stallAt island = s.setIsl island { s.isl island with stall := some (s.tb.count, none) }) ∧
    ((s.isl island).stall ≠ none → s.stallAt island = s))

/-- A word of a format spells the instruction of its major opcode with every field where the format puts it. -/
def Obligations.ElrynWordsSpellTheirInstructions : Prop :=
  (∀ (g : Nat) (d x : BitVec 5) (i : BitVec 16),
    elrynOf g (2#6 ++ d ++ x ++ i) = some (.iAddi g d x i) ∧ elrynOf g (3#6 ++ d ++ x ++ i) = some (.iAndi g d x i) ∧
    elrynOf g (4#6 ++ d ++ x ++ i) = some (.iOri g d x i) ∧ elrynOf g (5#6 ++ d ++ x ++ i) = some (.iXori g d x i) ∧
    elrynOf g (6#6 ++ d ++ x ++ i) = some (.iSlti g d x i) ∧ elrynOf g (7#6 ++ d ++ x ++ i) = some (.iSltiu g d x i) ∧
    elrynOf g (0x10#6 ++ d ++ x ++ i) = some (.iBeq g d x i) ∧ elrynOf g (0x11#6 ++ d ++ x ++ i) = some (.iBne g d x i) ∧
    elrynOf g (0x12#6 ++ d ++ x ++ i) = some (.iBlt g d x i) ∧ elrynOf g (0x13#6 ++ d ++ x ++ i) = some (.iBge g d x i) ∧
    elrynOf g (0x14#6 ++ d ++ x ++ i) = some (.iBltu g d x i) ∧ elrynOf g (0x15#6 ++ d ++ x ++ i) = some (.iBgeu g d x i)) ∧
  (∀ (g : Nat) (o : BitVec 26), elrynOf g (0x16#6 ++ o) = some (.iJ g o) ∧ elrynOf g (0x17#6 ++ o) = some (.iJal g o)) ∧
  (∀ (g : Nat) (d x y : BitVec 5),
    elrynOf g (1#6 ++ d ++ x ++ y ++ 0x000#11) = some (.iAdd g d x y) ∧ elrynOf g (1#6 ++ d ++ x ++ y ++ 0x001#11) = some (.iSub g d x y) ∧
    elrynOf g (1#6 ++ d ++ x ++ y ++ 0x002#11) = some (.iAnd g d x y) ∧ elrynOf g (1#6 ++ d ++ x ++ y ++ 0x003#11) = some (.iOr g d x y) ∧
    elrynOf g (1#6 ++ d ++ x ++ y ++ 0x004#11) = some (.iXor g d x y) ∧ elrynOf g (1#6 ++ d ++ x ++ y ++ 0x005#11) = some (.iSll g d x y) ∧
    elrynOf g (1#6 ++ d ++ x ++ y ++ 0x006#11) = some (.iSrl g d x y) ∧ elrynOf g (1#6 ++ d ++ x ++ y ++ 0x007#11) = some (.iSra g d x y) ∧
    elrynOf g (1#6 ++ d ++ x ++ y ++ 0x008#11) = some (.iSlt g d x y) ∧ elrynOf g (1#6 ++ d ++ x ++ y ++ 0x009#11) = some (.iSltu g d x y) ∧
    elrynOf g (1#6 ++ d ++ x ++ y ++ 0x00A#11) = some (.iMin g d x y) ∧ elrynOf g (1#6 ++ d ++ x ++ y ++ 0x00B#11) = some (.iMax g d x y) ∧
    elrynOf g (1#6 ++ d ++ x ++ y ++ 0x00C#11) = some (.iMinu g d x y) ∧ elrynOf g (1#6 ++ d ++ x ++ y ++ 0x00D#11) = some (.iMaxu g d x y) ∧
    elrynOf g (1#6 ++ d ++ x ++ y ++ 0x010#11) = some (.iMul g d x y) ∧ elrynOf g (1#6 ++ d ++ x ++ y ++ 0x011#11) = some (.iMulh g d x y) ∧
    elrynOf g (1#6 ++ d ++ x ++ y ++ 0x012#11) = some (.iMulhu g d x y) ∧
    elrynOf g (0#6 ++ d ++ x ++ 0#5 ++ 0x010#11) = some (.iMfs g d x) ∧ elrynOf g (0#6 ++ d ++ x ++ 0#5 ++ 0x011#11) = some (.iMts g d x) ∧
    (y ≠ 0 → elrynOf g (0#6 ++ d ++ x ++ y ++ 0x010#11) = none) ∧
    elrynOf g (0#6 ++ 0#5 ++ x ++ 0#5 ++ 0x006#11) = some (.iExit g x) ∧ elrynOf g (0x18#6 ++ 0#5 ++ x ++ 0#5 ++ 0#11) = some (.iJr g x) ∧
    elrynOf g (0x18#6 ++ d ++ x ++ 0#5 ++ 1#11) = some (.iJalr g d x)) ∧
  (∀ (g : Nat) (d x : BitVec 5) (n : BitVec 6) (i : BitVec 16) (h : BitVec 2),
    elrynOf g (8#6 ++ d ++ x ++ 0#8 ++ 0#2 ++ n) = some (.iSlli g d x n) ∧ elrynOf g (8#6 ++ d ++ x ++ 0#8 ++ 1#2 ++ n) = some (.iSrli g d x n) ∧
    elrynOf g (8#6 ++ d ++ x ++ 0#8 ++ 2#2 ++ n) = some (.iSrai g d x n) ∧
    elrynOf g (9#6 ++ d ++ 0#1 ++ 0#2 ++ h ++ i) = some (.iLis g d i h) ∧ elrynOf g (9#6 ++ d ++ 1#1 ++ 0#2 ++ h ++ i) = some (.iLik g d i h)) ∧
  (∀ (g : Nat) (d b : BitVec 5) (z : BitVec 2) (i : BitVec 12) (c : BitVec 2) (k : BitVec 3),
    elrynOf g (0x20#6 ++ d ++ b ++ z ++ 0#2 ++ i) = some (.iLd g z d b (.offset i)) ∧
    elrynOf g (0x20#6 ++ d ++ b ++ z ++ 1#2 ++ i) = some (.iLd g z d b (.postImm i)) ∧
    elrynOf g (0x20#6 ++ d ++ b ++ z ++ 2#2 ++ 0#9 ++ k) = some (.iLd g z d b (.postReg k)) ∧
    elrynOf g (0x20#6 ++ d ++ b ++ z ++ 3#2 ++ 0#7 ++ c ++ k) = some (.iLd g z d b (.circular c k)) ∧
    (z ≠ 3 → elrynOf g (0x21#6 ++ d ++ b ++ z ++ 0#2 ++ i) = some (.iLdu g z d b (.offset i))) ∧
    elrynOf g (0x22#6 ++ d ++ b ++ z ++ 0#2 ++ i) = some (.iSt g z d b (.offset i)) ∧
    elrynOf g (0x23#6 ++ d ++ b ++ 0#2 ++ 0#2 ++ i) = some (.iPush g d b (.offset i)) ∧
    elrynOf g (0x24#6 ++ d ++ b ++ 0#2 ++ 0#2 ++ i) = some (.iPop g d b (.offset i)) ∧
    elrynOf g (0x25#6 ++ d ++ b ++ 0#2 ++ 0#2 ++ i) = some (.iPopw g d b (.offset i)) ∧
    elrynOf g (0x30#6 ++ d ++ b ++ 2#2 ++ 0#2 ++ i) = some (.iVld g .w d b (.offset i)) ∧
    elrynOf g (0x31#6 ++ d ++ b ++ 0#2 ++ 0#2 ++ i) = some (.iVld g .ch d b (.offset i)) ∧
    elrynOf g (0x33#6 ++ d ++ b ++ 1#2 ++ 1#2 ++ i) = some (.iVst g .cw d b (.postImm i)) ∧
    elrynOf g (0x31#6 ++ d ++ b ++ 2#2 ++ 0#2 ++ i) = none) ∧
  (∀ (g : Nat) (op : BitVec 6) (o : BitVec 26), op.toNat ∈ ([0x0A, 0x0B, 0x0C, 0x0D, 0x0E, 0x0F, 0x19, 0x1A, 0x1B, 0x1C, 0x1D, 0x1E, 0x1F,
    0x26, 0x27, 0x2A, 0x2B, 0x2C, 0x2D, 0x2E, 0x2F, 0x37, 0x3B, 0x3D, 0x3E, 0x3F] : List Nat) → elrynOf g (op ++ o) = none)
end

