-- ==== Sys2Proof/Laws/Accel.lean ====
section
/-!
SUPPORT. Accelerators: how the run of a job ends.
-/

namespace Sys2Proof.Machine

open Reg

/-- What a run leads to: an access that stalls only leaves its note, and else it is DONE, with a result entry where one is asked for, DENIED, or POISON with a
reset. -/
theorem State.accRun_ends (s : State) (u typ : Nat) (j : Job) (r : AccRun) (info : List Byte) (t : State) (body : Job → AccRun → AccRun)
    (inf : AccRun → List Byte) (hj : s.accJob u typ = some j) (hr : r = body j (AccRun.start s j)) (hi : info = inf r)
    (ht : t = ((r.st.incf ACC_JOBS_COUNT (r.unit - 0x600)).incf ACC_BLOCKS_COUNT (r.unit - 0x600) r.blocks).incf
      ACC_ITER_COUNT (r.unit - 0x600) r.iters) :
    (∀ x, r.stall = some x → s.accRun u typ body inf = s.stallOn x) ∧
    (r.stall = none →
    (r.stop = none → r.spoiled = false → j.outCount = 0 → s.accRun u typ body inf
      = (t.reportJob r.job ⟨codeDone, r.result, fieldAt info 0 8, false⟩)) ∧
    (∀ i : Job, r.stop = none → r.spoiled = false → j.outCount = 1 → t.job r.job = some i →
      t.queueReach i.outQueue = true → s.accRun u typ body inf
        = ((t.jobPushBytes r.job (flagMap r.flags ++ sliceBytes info 0 16 ++ valBytes 8 0)).reportJob r.job
            ⟨codeDone, r.result, fieldAt info 0 8, false⟩)) ∧
    (∀ k, r.stop = some k → k ≠ codePoison → s.accRun u typ body inf = (t.reportJob r.job ⟨k, r.result, fieldAt info 0 8, false⟩)) ∧
    (r.stop = some codePoison → s.accRun u typ body inf
      = ((t.reportJob r.job ⟨codePoison, r.result, fieldAt info 0 8, false⟩).resetAcc u 0x01))) := by
  refine ⟨fun x hx => by unfold State.accRun; rw [hj]; dsimp only; rw [← hr, hx], fun hn => ?_⟩
  have h0 : s.accRun u typ body inf = r.count.finish j.outCount info (fun s => s.resetAcc u 0x01) := by
    unfold State.accRun; rw [hj]; dsimp only; rw [← hr, ← hi, hn]
  have e1 : r.count.stop = r.stop := rfl
  have e2 : r.count.spoiled = r.spoiled := rfl
  have e3 : r.count.job = r.job := rfl
  have e4 : r.count.result = r.result := rfl
  have e5 : r.count.st = t := by rw [ht]; rfl
  have e6 : r.count.flags = r.flags := rfl
  rw [h0]
  unfold AccRun.finish
  rw [e1, e2, e3, e4, e5, e6]
  refine ⟨?_, ?_, ?_, ?_⟩
  · intro a b d; rw [a]; cases h : t.job r.job <;> simp [b, d]
  · intro i a b d e f; rw [a]; simp [b, d, e, f]
  · intro k a b; rw [a]; simp [b]
  · intro a; rw [a]; simp

end Sys2Proof.Machine
end

