-- ==== Sys2Proof/Laws/Table.lean ====
section
/-!
SUPPORT. The laws of the two list forms: a read after a write, in tables and in memory, and that every write keeps
memory canonical.
-/

namespace Sys2Proof.Machine

@[simp] theorem Tab.get_nil {α : Type} (d : α) (k : Nat) : Tab.get d [] k = d := rfl

@[simp] theorem Tab.get_set_self {α : Type} (d : α) (t : Tab α) (k : Nat) (v : α) :
    Tab.get d (Tab.set t k v) k = v := by
  induction t with
  | nil => simp [Tab.set, Tab.get]
  | cons h r ih =>
    obtain ⟨j, w⟩ := h
    by_cases hjk : j < k
    · simp [Tab.set, Tab.get, hjk, ih, Nat.ne_of_lt hjk, Nat.not_lt_of_lt hjk]
    · by_cases hj : j = k <;> simp [Tab.set, Tab.get, hjk, hj]

theorem Tab.get_set_ne {α : Type} (d : α) (t : Tab α) (k i : Nat) (v : α) (h : i ≠ k) :
    Tab.get d (Tab.set t k v) i = Tab.get d t i := by
  induction t with
  | nil => simp [Tab.set, Tab.get, Ne.symm h]
  | cons e r ih =>
    obtain ⟨j, w⟩ := e
    by_cases hjk : j < k
    · simp [Tab.set, Tab.get, hjk, ih]
    · by_cases hj : j = k
      · subst hj; simp [Tab.set, Tab.get, Ne.symm h]
      · have hkj : k < j := by omega
        by_cases hik : i < k
        · have h1 : j ≠ i := by omega
          have h2 : i < j := by omega
          simp [Tab.set, Tab.get, hjk, hj, Ne.symm h, hik, h1, h2]
        · simp [Tab.set, Tab.get, hjk, hj, Ne.symm h, hik]

/-- A read of a table after a write: the written value at its own key, the old value at every other. -/
theorem Tab.get_set {α : Type} (d : α) (t : Tab α) (k i : Nat) (v : α) :
    Tab.get d (Tab.set t k v) i = if i = k then v else Tab.get d t i := by
  by_cases h : i = k
  · subst h; simp
  · simp [h, Tab.get_set_ne d t k i v h]

theorem Memory.wfFrom_mono {lo hi : Nat} (h : lo ≤ hi) :
    ∀ m : Memory, Memory.wfFrom hi m = true → Memory.wfFrom lo m = true
  | [], _ => rfl
  | (b, v) :: r, hm => by
    simp only [Memory.wfFrom, Bool.and_eq_true, decide_eq_true_eq] at hm ⊢
    exact ⟨⟨by omega, hm.1.2⟩, hm.2⟩

theorem Memory.get_of_wfFrom {a : Nat} :
    ∀ (lo : Nat) (m : Memory), Memory.wfFrom lo m = true → a < lo → Memory.get m a = unwritten a
  | _, [], _, _ => rfl
  | lo, (b, v) :: r, hm, ha => by
    simp only [Memory.wfFrom, Bool.and_eq_true, decide_eq_true_eq] at hm
    have hb : b ≠ a := by omega
    simp only [Memory.get, hb, if_false]
    exact Memory.get_of_wfFrom (b + 1) r hm.2 (by omega)

/-- Writing a cell keeps the canonical form. -/
theorem Memory.put_wfFrom (a : Nat) (v : Byte) :
    ∀ (lo : Nat) (m : Memory), lo ≤ a → Memory.wfFrom lo m = true → Memory.wfFrom lo (Memory.put m a v) = true
  | lo, [], h, _ => by
    unfold Memory.put; split
    · rfl
    · simp [Memory.wfFrom, *]
  | lo, (b, w) :: r, h, hm => by
    have hm' := hm
    simp only [Memory.wfFrom, Bool.and_eq_true, decide_eq_true_eq] at hm
    unfold Memory.put
    split
    · next hba =>
      simp only [Memory.wfFrom, Bool.and_eq_true, decide_eq_true_eq]
      exact ⟨hm.1, Memory.put_wfFrom a v (b + 1) r (by omega) hm.2⟩
    · split
      · next hba hb =>
        subst hb
        split
        · exact Memory.wfFrom_mono (by omega) r hm.2
        · next hv => simp only [Memory.wfFrom, Bool.and_eq_true, decide_eq_true_eq]; exact ⟨⟨h, hv⟩, hm.2⟩
      · next hba hb =>
        split
        · exact hm'
        · next hv =>
          simp only [Memory.wfFrom, Bool.and_eq_true, decide_eq_true_eq]
          exact ⟨⟨h, hv⟩, ⟨by omega, hm.1.2⟩, hm.2⟩

theorem Memory.put_wf (m : Memory) (a : Nat) (v : Byte) (h : Memory.wf m = true) :
    Memory.wf (Memory.put m a v) = true :=
  Memory.put_wfFrom a v 0 m (Nat.zero_le _) h

/-- A read of memory after a write: the written symbol at its own cell, the old one at every other. -/
theorem Memory.get_putFrom (a i : Nat) (v : Byte) :
    ∀ (lo : Nat) (m : Memory), Memory.wfFrom lo m = true →
      Memory.get (Memory.put m a v) i = if i = a then v else Memory.get m i
  | _, [], _ => by
    by_cases hv : v = unwritten a
    · by_cases hi : i = a
      · subst hi; simp [Memory.put, Memory.get, hv]
      · simp [Memory.put, Memory.get, hv, hi]
    · by_cases hi : i = a
      · subst hi; simp [Memory.put, Memory.get, hv]
      · simp [Memory.put, Memory.get, hv, hi, Ne.symm hi]
  | lo, (b, w) :: r, hm => by
    have hm' := hm
    simp only [Memory.wfFrom, Bool.and_eq_true, decide_eq_true_eq] at hm
    have ih := Memory.get_putFrom a i v (b + 1) r hm.2
    by_cases hba : b < a
    · by_cases hi : i = a
      · subst hi
        have : b ≠ i := by omega
        simp [Memory.put, Memory.get, hba, this] at ih ⊢
        exact ih
      · simp [Memory.put, Memory.get, hba, hi] at ih ⊢
        rw [ih]
    · by_cases hb : b = a
      · subst hb
        by_cases hv : v = unwritten b
        · by_cases hi : i = b
          · subst hi
            simp only [Memory.put, Nat.lt_irrefl, if_false, if_true, hv]
            exact Memory.get_of_wfFrom (i + 1) r hm.2 (by omega)
          · simp [Memory.put, Memory.get, hv, hi, Ne.symm hi]
        · by_cases hi : i = b
          · subst hi; simp [Memory.put, Memory.get, hv]
          · simp [Memory.put, Memory.get, hv, hi, Ne.symm hi]
      · by_cases hv : v = unwritten a
        · by_cases hi : i = a
          · subst hi
            simp only [Memory.put, hba, hb, if_false, if_true, hv]
            have h1 : b ≠ i := hb
            simp only [Memory.get, h1, if_false]
            exact Memory.get_of_wfFrom (b + 1) r hm.2 (by omega)
          · simp [Memory.put, Memory.get, hba, hb, hv, hi]
        · by_cases hi : i = a
          · subst hi; simp [Memory.put, Memory.get, hba, hb, hv]
          · simp [Memory.put, Memory.get, hba, hb, hv, hi, Ne.symm hi]

theorem Memory.get_put (m : Memory) (a i : Nat) (v : Byte) (h : Memory.wf m = true) :
    Memory.get (Memory.put m a v) i = if i = a then v else Memory.get m i :=
  Memory.get_putFrom a i v 0 m h

theorem Memory.wfFrom_filter (f : Host.Cell → Bool) :
    ∀ (lo : Nat) (m : Memory), Memory.wfFrom lo m = true → Memory.wfFrom lo (m.filter f) = true
  | _, [], _ => rfl
  | lo, (b, v) :: r, h => by
    simp only [Memory.wfFrom, Bool.and_eq_true, decide_eq_true_eq] at h
    have ih := Memory.wfFrom_filter f (b + 1) r h.2
    by_cases hf : f (b, v) = true
    · simp only [List.filter, hf, Memory.wfFrom, Bool.and_eq_true, decide_eq_true_eq]
      exact ⟨h.1, ih⟩
    · simp only [List.filter, hf]
      exact Memory.wfFrom_mono (by omega) _ ih

theorem Memory.foldl_wf {α : Type} {p : Prop} {m : Memory} {f : Memory → α → Memory} {l : List α}
    (h : p → Memory.wf m = true) (hf : ∀ m x, (p → Memory.wf m = true) → p → Memory.wf (f m x) = true) :
    p → Memory.wf (l.foldl f m) = true := by
  induction l generalizing m with
  | nil => exact h
  | cons x l ih => exact ih (hf _ _ h)

end Sys2Proof.Machine
end

