-- ==== Sys2Proof/Laws/Keep.lean ====
section
/-!
SUPPORT. What an operation leaves as it is: Keep w s t says that t differs from s in no part outside the mask w, and that
memory keeps its canonical form. One law per operation says which parts it may write.
-/

namespace Sys2Proof.Machine

/-- The state t differs from s in no part outside the mask w (bit n is the n-th part), and memory keeps its canonical form. -/
structure Keep (w : Nat) (s t : State) : Prop where
  same : ∀ k : Part, w.testBit k.toNat = false → k.same s t
  wf : Memory.wf s.mem = true → Memory.wf t.mem = true

/-- The same of an outcome that is a next state. -/
def KeepOut (w : Nat) (s : State) : Host.Outcome State Fault Refusal → Prop
  | .next t => Keep w s t
  | .fault _ => True
  | .refused _ => True

theorem Part.same_refl (k : Part) (s : State) : k.same s s := by cases k <;> rfl

theorem Part.same_trans {k : Part} {s t u : State} (h : k.same s t) (h' : k.same t u) : k.same s u := by
  cases k <;> exact h'.trans h

theorem Keep.refl {w : Nat} (s : State) : Keep w s s := ⟨fun k _ => k.same_refl s, id⟩

theorem Nat.testBit_of_sub {v w k : Nat} (h : v &&& w = v) (hk : w.testBit k = false) : v.testBit k = false := by
  rw [← h, Nat.testBit_and, hk, Bool.and_false]

theorem Nat.sub_trans {a b c : Nat} (h : a &&& b = a) (h' : b &&& c = b) : a &&& c = a := by
  rw [← h, Nat.and_assoc, h']

theorem Keep.app {v w : Nat} {s t u : State} (h : Keep w s t) (k : Keep v t u) (hs : v &&& w = v) : Keep w s u :=
  ⟨fun p hp => Part.same_trans (h.same p hp) (k.same p (Nat.testBit_of_sub hs hp)), fun hw => k.wf (h.wf hw)⟩

theorem Keep.cut {w : Nat} {s t u : State} (h : Keep w s t) (hb : Keep w s t → Keep w s u) : Keep w s u := hb h

theorem Keep.cutO {w : Nat} {s t : State} {u : Host.Outcome State Fault Refusal} (h : Keep w s t)
    (hb : Keep w s t → KeepOut w s u) : KeepOut w s u := hb h

theorem Keep.out {w : Nat} {s t : State} (h : Keep w s t) : KeepOut w s (.next t) := h

theorem Keep.of_pair {α : Type} {w : Nat} {s t : State} {r : α × State} {n : α} (h : r = (n, t)) (k : Keep w s r.2) :
    Keep w s t := by subst h; exact k

theorem Keep.snd {α : Type} {w : Nat} {s t : State} {n : α} (h : Keep w s t) : Keep w s (n, t).2 := h

theorem Keep.foldl {α : Type} {w : Nat} {s s0 : State} {f : State → α → State} {l : List α} (h : Keep w s s0)
    (hf : ∀ t x, Keep w s t → Keep w s (f t x)) : Keep w s (l.foldl f s0) := by
  induction l generalizing s0 with
  | nil => exact h
  | cons x l ih => exact ih (hf _ _ h)

theorem Keep.foldlP {α β : Type} {w : Nat} {s : State} (p : β → State) {f : β → α → β} {l : List α} {b : β}
    (h : Keep w s (p b)) (hf : ∀ t x, Keep w s (p t) → Keep w s (p (f t x))) : Keep w s (p (l.foldl f b)) := by
  induction l generalizing b with
  | nil => exact h
  | cons x l ih => exact ih (hf _ _ h)

theorem Keep.foldl_triple {α β γ : Type} {w : Nat} {s : State} {f : β × γ × State → α → β × γ × State} {l : List α}
    {b : β × γ × State} (h : Keep w s b.2.2) (hf : ∀ t x, Keep w s t.2.2 → Keep w s (f t x).2.2) :
    Keep w s (l.foldl f b).2.2 :=
  Keep.foldlP (fun (b : β × γ × State) => b.2.2) h hf

theorem Keep.of_triple {α β : Type} {w : Nat} {s t : State} {r : α × β × State} {m : α} {n : β} (h : r = (m, n, t))
    (k : Keep w s r.2.2) : Keep w s t := by subst h; exact k

theorem Keep.of_quad {α β γ : Type} {w : Nat} {s t : State} {r : α × β × γ × State} {l : α} {m : β} {n : γ}
    (h : r = (l, m, n, t)) (k : Keep w s r.2.2.2) : Keep w s t := by subst h; exact k

theorem Keep.cutF0 {α : Type} {w : Nat} {s u : State} (f : α → State) (h : ∀ a, Keep w s (f a))
    (hb : (∀ a, Keep w s (f a)) → Keep w s u) : Keep w s u := hb h

theorem Keep.cutF1 {w : Nat} {s u : State} (f : State → State) (h : ∀ t, Keep w s t → Keep w s (f t))
    (hb : (∀ t, Keep w s t → Keep w s (f t)) → Keep w s u) : Keep w s u := hb h

theorem Keep.cutF1p {α : Type} {w : Nat} {s u : State} (f : State → α × State) (h : ∀ t, Keep w s t → Keep w s (f t).2)
    (hb : (∀ t, Keep w s t → Keep w s (f t).2) → Keep w s u) : Keep w s u := hb h

theorem Keep.ite {w : Nat} {s a b : State} {c : Prop} [Decidable c] (ha : Keep w s a) (hb : Keep w s b) :
    Keep w s (if c then a else b) := by split <;> assumption

theorem Keep.ite_snd {α : Type} {w : Nat} {s : State} {a b : α × State} {c : Prop} [Decidable c] (ha : Keep w s a.2)
    (hb : Keep w s b.2) : Keep w s (if c then a else b).2 := by split <;> assumption

theorem Keep.cutF3 {α β : Type} {w : Nat} {s u : State} (f : State → α → β → State)
    (h : ∀ t a b, Keep w s t → Keep w s (f t a b)) (hb : (∀ t a b, Keep w s t → Keep w s (f t a b)) → Keep w s u) :
    Keep w s u := hb h

theorem Keep.foldr {α : Type} {w : Nat} {s s0 : State} {f : α → State → State} {l : List α} (h : Keep w s s0)
    (hf : ∀ t x, Keep w s t → Keep w s (f x t)) : Keep w s (l.foldr f s0) := by
  induction l with
  | nil => exact h
  | cons x l ih => exact hf _ _ ih

theorem Keep.cutF2 {α : Type} {w : Nat} {s u : State} (f : State → α → State) (h : ∀ t a, Keep w s t → Keep w s (f t a))
    (hb : (∀ t a, Keep w s t → Keep w s (f t a)) → Keep w s u) : Keep w s u := hb h

theorem Keep.foldl_pair {α β : Type} {w : Nat} {s : State} {f : β × State → α → β × State} {l : List α} {p : β × State}
    (h : Keep w s p.2) (hf : ∀ t x, Keep w s t.2 → Keep w s (f t x).2) : Keep w s (l.foldl f p).2 := by
  induction l generalizing p with
  | nil => exact h
  | cons x l ih => exact ih (hf _ _ h)

theorem Keep.set_pending {w : Nat} {s t : State} {v0 : List Instr}
    (hw : 1 &&& w = 1) (h : Keep w s t) :
    Keep w s { t with pending := v0 } :=
  ⟨fun k hk => by
    have hk' := Nat.testBit_of_sub hw hk
    have hs := h.same k hk
    cases k <;> first | exact hs | exact absurd hk' (by decide), h.wf⟩

theorem Keep.set_free {w : Nat} {s t : State} {v0 : Nat}
    (hw : 2 &&& w = 2) (h : Keep w s t) :
    Keep w s { t with free := v0 } :=
  ⟨fun k hk => by
    have hk' := Nat.testBit_of_sub hw hk
    have hs := h.same k hk
    cases k <;> first | exact hs | exact absurd hk' (by decide), h.wf⟩

theorem Keep.set_out {w : Nat} {s t : State} {v0 : List Msg}
    (hw : 4 &&& w = 4) (h : Keep w s t) :
    Keep w s { t with out := v0 } :=
  ⟨fun k hk => by
    have hk' := Nat.testBit_of_sub hw hk
    have hs := h.same k hk
    cases k <;> first | exact hs | exact absurd hk' (by decide), h.wf⟩

theorem Keep.set_flds {w : Nat} {s t : State} {v0 : Tab Nat}
    (hw : 16 &&& w = 16) (h : Keep w s t) :
    Keep w s { t with flds := v0 } :=
  ⟨fun k hk => by
    have hk' := Nat.testBit_of_sub hw hk
    have hs := h.same k hk
    cases k <;> first | exact hs | exact absurd hk' (by decide), h.wf⟩

theorem Keep.set_objs {w : Nat} {s t : State} {v0 : Tab Nat}
    (hw : 32 &&& w = 32) (h : Keep w s t) :
    Keep w s { t with objs := v0 } :=
  ⟨fun k hk => by
    have hk' := Nat.testBit_of_sub hw hk
    have hs := h.same k hk
    cases k <;> first | exact hs | exact absurd hk' (by decide), h.wf⟩

theorem Keep.set_doms {w : Nat} {s t : State} {v0 : Tab (List Byte)}
    (hw : 64 &&& w = 64) (h : Keep w s t) :
    Keep w s { t with doms := v0 } :=
  ⟨fun k hk => by
    have hk' := Nat.testBit_of_sub hw hk
    have hs := h.same k hk
    cases k <;> first | exact hs | exact absurd hk' (by decide), h.wf⟩

theorem Keep.set_staged {w : Nat} {s t : State} {v0 : List HalfKept}
    (hw : 128 &&& w = 128) (h : Keep w s t) :
    Keep w s { t with staged := v0 } :=
  ⟨fun k hk => by
    have hk' := Nat.testBit_of_sub hw hk
    have hs := h.same k hk
    cases k <;> first | exact hs | exact absurd hk' (by decide), h.wf⟩

theorem Keep.set_latched {w : Nat} {s t : State} {v0 : List HalfKept}
    (hw : 256 &&& w = 256) (h : Keep w s t) :
    Keep w s { t with latched := v0 } :=
  ⟨fun k hk => by
    have hk' := Nat.testBit_of_sub hw hk
    have hs := h.same k hk
    cases k <;> first | exact hs | exact absurd hk' (by decide), h.wf⟩

theorem Keep.set_mem {w : Nat} {s t : State} {v0 : Memory}
    (hw : 512 &&& w = 512) (h : Keep w s t) (hm : Memory.wf s.mem = true → Memory.wf v0 = true) :
    Keep w s { t with mem := v0 } :=
  ⟨fun k hk => by
    have hk' := Nat.testBit_of_sub hw hk
    have hs := h.same k hk
    cases k <;> first | exact hs | exact absurd hk' (by decide), hm⟩

theorem Keep.set_weft {w : Nat} {s t : State} {v0 : Weft}
    (hw : 1024 &&& w = 1024) (h : Keep w s t) :
    Keep w s { t with weft := v0 } :=
  ⟨fun k hk => by
    have hk' := Nat.testBit_of_sub hw hk
    have hs := h.same k hk
    cases k <;> first | exact hs | exact absurd hk' (by decide), h.wf⟩

theorem Keep.set_protect {w : Nat} {s t : State} {v0 : Protect}
    (hw : 2048 &&& w = 2048) (h : Keep w s t) :
    Keep w s { t with protect := v0 } :=
  ⟨fun k hk => by
    have hk' := Nat.testBit_of_sub hw hk
    have hs := h.same k hk
    cases k <;> first | exact hs | exact absurd hk' (by decide), h.wf⟩

theorem Keep.set_host {w : Nat} {s t : State} {v0 : HostPort}
    (hw : 4096 &&& w = 4096) (h : Keep w s t) :
    Keep w s { t with host := v0 } :=
  ⟨fun k hk => by
    have hk' := Nat.testBit_of_sub hw hk
    have hs := h.same k hk
    cases k <;> first | exact hs | exact absurd hk' (by decide), h.wf⟩

theorem Keep.set_tb {w : Nat} {s t : State} {v0 : TimeBase}
    (hw : 8192 &&& w = 8192) (h : Keep w s t) :
    Keep w s { t with tb := v0 } :=
  ⟨fun k hk => by
    have hk' := Nat.testBit_of_sub hw hk
    have hs := h.same k hk
    cases k <;> first | exact hs | exact absurd hk' (by decide), h.wf⟩

theorem Keep.set_engines {w : Nat} {s t : State} {v0 : Tab Engine}
    (hw : 16384 &&& w = 16384) (h : Keep w s t) :
    Keep w s { t with engines := v0 } :=
  ⟨fun k hk => by
    have hk' := Nat.testBit_of_sub hw hk
    have hs := h.same k hk
    cases k <;> first | exact hs | exact absurd hk' (by decide), h.wf⟩

theorem Keep.set_gussets {w : Nat} {s t : State} {v0 : Tab Gusset}
    (hw : 32768 &&& w = 32768) (h : Keep w s t) :
    Keep w s { t with gussets := v0 } :=
  ⟨fun k hk => by
    have hk' := Nat.testBit_of_sub hw hk
    have hs := h.same k hk
    cases k <;> first | exact hs | exact absurd hk' (by decide), h.wf⟩

theorem Keep.set_engineEvents {w : Nat} {s t : State} {v0 : List (Nat × Nat)}
    (hw : 65536 &&& w = 65536) (h : Keep w s t) :
    Keep w s { t with engineEvents := v0 } :=
  ⟨fun k hk => by
    have hk' := Nat.testBit_of_sub hw hk
    have hs := h.same k hk
    cases k <;> first | exact hs | exact absurd hk' (by decide), h.wf⟩

theorem Keep.set_sh {w : Nat} {s t : State} {v0 : Shuttle}
    (hw : 131072 &&& w = 131072) (h : Keep w s t) :
    Keep w s { t with sh := v0 } :=
  ⟨fun k hk => by
    have hk' := Nat.testBit_of_sub hw hk
    have hs := h.same k hk
    cases k <;> first | exact hs | exact absurd hk' (by decide), h.wf⟩

theorem Keep.set_hem {w : Nat} {s t : State} {v0 : Tab HemStream}
    (hw : 262144 &&& w = 262144) (h : Keep w s t) :
    Keep w s { t with hem := v0 } :=
  ⟨fun k hk => by
    have hk' := Nat.testBit_of_sub hw hk
    have hs := h.same k hk
    cases k <;> first | exact hs | exact absurd hk' (by decide), h.wf⟩

theorem Keep.set_lanes {w : Nat} {s t : State} {v0 : Tab Lane}
    (hw : 524288 &&& w = 524288) (h : Keep w s t) :
    Keep w s { t with lanes := v0 } :=
  ⟨fun k hk => by
    have hk' := Nat.testBit_of_sub hw hk
    have hs := h.same k hk
    cases k <;> first | exact hs | exact absurd hk' (by decide), h.wf⟩

theorem Keep.set_fh {w : Nat} {s t : State} {v0 : Fronthaul}
    (hw : 1048576 &&& w = 1048576) (h : Keep w s t) :
    Keep w s { t with fh := v0 } :=
  ⟨fun k hk => by
    have hk' := Nat.testBit_of_sub hw hk
    have hs := h.same k hk
    cases k <;> first | exact hs | exact absurd hk' (by decide), h.wf⟩

theorem Keep.set_seam {w : Nat} {s t : State} {v0 : Seam}
    (hw : 2097152 &&& w = 2097152) (h : Keep w s t) :
    Keep w s { t with seam := v0 } :=
  ⟨fun k hk => by
    have hk' := Nat.testBit_of_sub hw hk
    have hs := h.same k hk
    cases k <;> first | exact hs | exact absurd hk' (by decide), h.wf⟩

theorem Keep.set_dram {w : Nat} {s t : State} {v0 : Tab DramCh}
    (hw : 4194304 &&& w = 4194304) (h : Keep w s t) :
    Keep w s { t with dram := v0 } :=
  ⟨fun k hk => by
    have hk' := Nat.testBit_of_sub hw hk
    have hs := h.same k hk
    cases k <;> first | exact hs | exact absurd hk' (by decide), h.wf⟩

theorem Keep.set_dramPorts {w : Nat} {s t : State} {v0 : Tab (Option Nat)}
    (hw : 8388608 &&& w = 8388608) (h : Keep w s t) :
    Keep w s { t with dramPorts := v0 } :=
  ⟨fun k hk => by
    have hk' := Nat.testBit_of_sub hw hk
    have hs := h.same k hk
    cases k <;> first | exact hs | exact absurd hk' (by decide), h.wf⟩

theorem Keep.set_dma {w : Nat} {s t : State} {v0 : Dma}
    (hw : 16777216 &&& w = 16777216) (h : Keep w s t) :
    Keep w s { t with dma := v0 } :=
  ⟨fun k hk => by
    have hk' := Nat.testBit_of_sub hw hk
    have hs := h.same k hk
    cases k <;> first | exact hs | exact absurd hk' (by decide), h.wf⟩

theorem Keep.set_patches {w : Nat} {s t : State} {v0 : Tab Patch}
    (hw : 33554432 &&& w = 33554432) (h : Keep w s t) :
    Keep w s { t with patches := v0 } :=
  ⟨fun k hk => by
    have hk' := Nat.testBit_of_sub hw hk
    have hs := h.same k hk
    cases k <;> first | exact hs | exact absurd hk' (by decide), h.wf⟩

theorem Keep.set_scrub {w : Nat} {s t : State} {v0 : Scrub}
    (hw : 67108864 &&& w = 67108864) (h : Keep w s t) :
    Keep w s { t with scrub := v0 } :=
  ⟨fun k hk => by
    have hk' := Nat.testBit_of_sub hw hk
    have hs := h.same k hk
    cases k <;> first | exact hs | exact absurd hk' (by decide), h.wf⟩

theorem Keep.set_keys {w : Nat} {s t : State} {v0 : Tab (List Byte)}
    (hw : 134217728 &&& w = 134217728) (h : Keep w s t) :
    Keep w s { t with keys := v0 } :=
  ⟨fun k hk => by
    have hk' := Nat.testBit_of_sub hw hk
    have hs := h.same k hk
    cases k <;> first | exact hs | exact absurd hk' (by decide), h.wf⟩

theorem Keep.set_pm {w : Nat} {s t : State} {v0 : Pm}
    (hw : 268435456 &&& w = 268435456) (h : Keep w s t) :
    Keep w s { t with pm := v0 } :=
  ⟨fun k hk => by
    have hk' := Nat.testBit_of_sub hw hk
    have hs := h.same k hk
    cases k <;> first | exact hs | exact absurd hk' (by decide), h.wf⟩

theorem Keep.set_measures {w : Nat} {s t : State} {v0 : Tab (List Byte)}
    (hw : 536870912 &&& w = 536870912) (h : Keep w s t) :
    Keep w s { t with measures := v0 } :=
  ⟨fun k hk => by
    have hk' := Nat.testBit_of_sub hw hk
    have hs := h.same k hk
    cases k <;> first | exact hs | exact absurd hk' (by decide), h.wf⟩

theorem Keep.set_changes {w : Nat} {s t : State} {v0 : Tab (Nat × Nat)}
    (hw : 1073741824 &&& w = 1073741824) (h : Keep w s t) :
    Keep w s { t with changes := v0 } :=
  ⟨fun k hk => by
    have hk' := Nat.testBit_of_sub hw hk
    have hs := h.same k hk
    cases k <;> first | exact hs | exact absurd hk' (by decide), h.wf⟩

theorem Keep.set_rws {w : Nat} {s t : State} {v0 : List (Nat × Nat × Nat)}
    (hw : 2147483648 &&& w = 2147483648) (h : Keep w s t) :
    Keep w s { t with rws := v0 } :=
  ⟨fun k hk => by
    have hk' := Nat.testBit_of_sub hw hk
    have hs := h.same k hk
    cases k <;> first | exact hs | exact absurd hk' (by decide), h.wf⟩

theorem Keep.set_health {w : Nat} {s t : State} {v0 : Health}
    (hw : 4294967296 &&& w = 4294967296) (h : Keep w s t) :
    Keep w s { t with health := v0 } :=
  ⟨fun k hk => by
    have hk' := Nat.testBit_of_sub hw hk
    have hs := h.same k hk
    cases k <;> first | exact hs | exact absurd hk' (by decide), h.wf⟩

theorem Keep.set_boot {w : Nat} {s t : State} {v0 : Boot}
    (hw : 8589934592 &&& w = 8589934592) (h : Keep w s t) :
    Keep w s { t with boot := v0 } :=
  ⟨fun k hk => by
    have hk' := Nat.testBit_of_sub hw hk
    have hs := h.same k hk
    cases k <;> first | exact hs | exact absurd hk' (by decide), h.wf⟩

theorem Keep.set_sessions {w : Nat} {s t : State} {v0 : List Session}
    (hw : 17179869184 &&& w = 17179869184) (h : Keep w s t) :
    Keep w s { t with sessions := v0 } :=
  ⟨fun k hk => by
    have hk' := Nat.testBit_of_sub hw hk
    have hs := h.same k hk
    cases k <;> first | exact hs | exact absurd hk' (by decide), h.wf⟩

theorem Keep.set_relays {w : Nat} {s t : State} {v0 : List (Nat × Nat × Reply)}
    (hw : 34359738368 &&& w = 34359738368) (h : Keep w s t) :
    Keep w s { t with relays := v0 } :=
  ⟨fun k hk => by
    have hk' := Nat.testBit_of_sub hw hk
    have hs := h.same k hk
    cases k <;> first | exact hs | exact absurd hk' (by decide), h.wf⟩

theorem Keep.set_mb {w : Nat} {s t : State} {v0 : Tab MbSlot}
    (hw : 68719476736 &&& w = 68719476736) (h : Keep w s t) :
    Keep w s { t with mb := v0 } :=
  ⟨fun k hk => by
    have hk' := Nat.testBit_of_sub hw hk
    have hs := h.same k hk
    cases k <;> first | exact hs | exact absurd hk' (by decide), h.wf⟩

theorem Keep.set_thermal {w : Nat} {s t : State} {v0 : Thermal}
    (hw : 137438953472 &&& w = 137438953472) (h : Keep w s t) :
    Keep w s { t with thermal := v0 } :=
  ⟨fun k hk => by
    have hk' := Nat.testBit_of_sub hw hk
    have hs := h.same k hk
    cases k <;> first | exact hs | exact absurd hk' (by decide), h.wf⟩

theorem Keep.set_jtag {w : Nat} {s t : State} {v0 : Jtag}
    (hw : 274877906944 &&& w = 274877906944) (h : Keep w s t) :
    Keep w s { t with jtag := v0 } :=
  ⟨fun k hk => by
    have hk' := Nat.testBit_of_sub hw hk
    have hs := h.same k hk
    cases k <;> first | exact hs | exact absurd hk' (by decide), h.wf⟩

theorem Keep.set_out_health {w : Nat} {s t : State} {v0 : List Msg} {v1 : Health}
    (hw : 4294967300 &&& w = 4294967300) (h : Keep w s t) :
    Keep w s { t with out := v0, health := v1 } :=
  ⟨fun k hk => by
    have hk' := Nat.testBit_of_sub hw hk
    have hs := h.same k hk
    cases k <;> first | exact hs | exact absurd hk' (by decide), h.wf⟩

theorem Keep.set_objs_boot {w : Nat} {s t : State} {v0 : Tab Nat} {v1 : Boot}
    (hw : 8589934624 &&& w = 8589934624) (h : Keep w s t) :
    Keep w s { t with objs := v0, boot := v1 } :=
  ⟨fun k hk => by
    have hk' := Nat.testBit_of_sub hw hk
    have hs := h.same k hk
    cases k <;> first | exact hs | exact absurd hk' (by decide), h.wf⟩

theorem Keep.set_staged_latched {w : Nat} {s t : State} {v0 : List HalfKept} {v1 : List HalfKept}
    (hw : 384 &&& w = 384) (h : Keep w s t) :
    Keep w s { t with staged := v0, latched := v1 } :=
  ⟨fun k hk => by
    have hk' := Nat.testBit_of_sub hw hk
    have hs := h.same k hk
    cases k <;> first | exact hs | exact absurd hk' (by decide), h.wf⟩

theorem Keep.set_mem_protect {w : Nat} {s t : State} {v0 : Memory} {v1 : Protect}
    (hw : 2560 &&& w = 2560) (h : Keep w s t) (hm : Memory.wf s.mem = true → Memory.wf v0 = true) :
    Keep w s { t with mem := v0, protect := v1 } :=
  ⟨fun k hk => by
    have hk' := Nat.testBit_of_sub hw hk
    have hs := h.same k hk
    cases k <;> first | exact hs | exact absurd hk' (by decide), hm⟩

theorem Keep.set_pm_boot {w : Nat} {s t : State} {v0 : Pm} {v1 : Boot}
    (hw : 8858370048 &&& w = 8858370048) (h : Keep w s t) :
    Keep w s { t with pm := v0, boot := v1 } :=
  ⟨fun k hk => by
    have hk' := Nat.testBit_of_sub hw hk
    have hs := h.same k hk
    cases k <;> first | exact hs | exact absurd hk' (by decide), h.wf⟩

theorem Keep.set_objs_doms_boot {w : Nat} {s t : State} {v0 : Tab Nat} {v1 : Tab (List Byte)} {v2 : Boot}
    (hw : 8589934688 &&& w = 8589934688) (h : Keep w s t) :
    Keep w s { t with objs := v0, doms := v1, boot := v2 } :=
  ⟨fun k hk => by
    have hk' := Nat.testBit_of_sub hw hk
    have hs := h.same k hk
    cases k <;> first | exact hs | exact absurd hk' (by decide), h.wf⟩

theorem Keep.set_objs_protect_boot {w : Nat} {s t : State} {v0 : Tab Nat} {v1 : Protect} {v2 : Boot}
    (hw : 8589936672 &&& w = 8589936672) (h : Keep w s t) :
    Keep w s { t with objs := v0, protect := v1, boot := v2 } :=
  ⟨fun k hk => by
    have hk' := Nat.testBit_of_sub hw hk
    have hs := h.same k hk
    cases k <;> first | exact hs | exact absurd hk' (by decide), h.wf⟩

theorem Keep.set_flds_protect_tb_dram_patches_pm_rws_health {w : Nat} {s t : State} {v0 : Tab Nat} {v1 : Protect} {v2 : TimeBase} {v3 : Tab DramCh} {v4 : Tab Patch} {v5 : Pm} {v6 : List (Nat × Nat × Nat)} {v7 : Health}
    (hw : 6748645392 &&& w = 6748645392) (h : Keep w s t) :
    Keep w s { t with flds := v0, protect := v1, tb := v2, dram := v3, patches := v4, pm := v5, rws := v6, health := v7 } :=
  ⟨fun k hk => by
    have hk' := Nat.testBit_of_sub hw hk
    have hs := h.same k hk
    cases k <;> first | exact hs | exact absurd hk' (by decide), h.wf⟩

/-- Storing ten symbols keeps memory canonical. -/
theorem storeSymbols_wf {p : Prop} {m : Memory} {a : Nat} {l : List Byte} (h : p → Memory.wf m = true) :
    p → Memory.wf (storeSymbols m a l) = true :=
  Memory.foldl_wf h fun _ _ ih hp => Memory.put_wf _ _ _ (ih hp)

/-- Storing a word keeps memory canonical. -/
theorem Memory.storeWord_wf {p : Prop} {m : Memory} {a : Nat} {w : Carried} (h : p → Memory.wf m = true) :
    p → Memory.wf (m.storeWord a w) = true :=
  storeSymbols_wf h

/-- Poisoning a range keeps memory canonical. -/
theorem Memory.poisonRange_wf {p : Prop} {m : Memory} {a n : Nat} (h : p → Memory.wf m = true) :
    p → Memory.wf (m.poisonRange a n) = true :=
  fun hp => Memory.wfFrom_filter _ 0 m (h hp)

/-- Zeroing a range keeps memory canonical. -/
theorem Memory.zeroRange_wf {p : Prop} {m : Memory} {a n : Nat} (h : p → Memory.wf m = true) :
    p → Memory.wf (m.zeroRange a n) = true := by
  induction n generalizing m a with
  | zero => exact h
  | succ n ih => exact ih (Memory.storeWord_wf h)

/-- Zeroing a range of bytes keeps memory canonical. -/
theorem Memory.zeroBytes_wf {p : Prop} {m : Memory} {a n : Nat} (h : p → Memory.wf m = true) :
    p → Memory.wf (m.zeroBytes a n) = true :=
  Memory.zeroRange_wf h

end Sys2Proof.Machine
end

