-- ==== Sys2Proof/Laws/KeepOps.lean ====
section
/-!
SUPPORT. The parts of the state that the operations of Machine/Ops.lean may write.
-/

namespace Sys2Proof.Machine

open Reg Ob

theorem State.sf_keep {wr : Nat} {s₀ : State} (s : State) (f : Fld) (i : Nat) (v : Nat) (hk : Keep wr s₀ s) (hs : 16 &&& wr = 16) :
    Keep wr s₀ (State.sf s f i v) := by
  refine Keep.app hk ?_ hs
  unfold State.sf
  repeat' (first
    | with_reducible exact Keep.refl _
    | fail_if_no_progress (with_reducible refine Keep.set_flds (by decide) ?_))

theorem State.incf_keep {wr : Nat} {s₀ : State} (s : State) (f : Fld) (i : Nat) (n : Nat) (hk : Keep wr s₀ s) (hs : 16 &&& wr = 16) :
    Keep wr s₀ (State.incf s f i n) := by
  refine Keep.app hk ?_ hs
  unfold State.incf
  repeat' (first
    | with_reducible exact Keep.refl _
    | with_reducible apply State.sf_keep
    | rfl)

theorem State.send_keep {wr : Nat} {s₀ : State} (s : State) (m : Msg) (hk : Keep wr s₀ s) (hs : 4 &&& wr = 4) :
    Keep wr s₀ (State.send s m) := by
  refine Keep.app hk ?_ hs
  unfold State.send
  repeat' (first
    | with_reducible exact Keep.refl _
    | fail_if_no_progress (with_reducible refine Keep.set_out (by decide) ?_))

theorem State.tellThimble_keep {wr : Nat} {s₀ : State} (s : State) (e info : Nat) (hk : Keep wr s₀ s) (hs : 4294967300 &&& wr = 4294967300) :
    Keep wr s₀ (State.tellThimble s e info) := by
  refine Keep.app hk ?_ hs
  unfold State.tellThimble
  repeat' (first
    | with_reducible exact Keep.refl _
    | (fail_if_no_progress (extract_lets +onlyGivenNames x); first
        | clear_value x)
    | with_reducible apply State.send_keep
    | with_reducible refine Keep.ite ?_ ?_
    | rfl
    | fail_if_no_progress (with_reducible refine Keep.set_health (by decide) ?_))

theorem State.hostRequest_keep {wr : Nat} {s₀ : State} (s : State) (r : HeldRequest) (hk : Keep wr s₀ s) (hs : 4100 &&& wr = 4100) :
    Keep wr s₀ (State.hostRequest s r) := by
  refine Keep.app hk ?_ hs
  unfold State.hostRequest
  repeat' (first
    | with_reducible exact Keep.refl _
    | (fail_if_no_progress (extract_lets +onlyGivenNames x); first
        | clear_value x)
    | with_reducible apply State.send_keep
    | with_reducible refine Keep.ite ?_ ?_
    | split
    | rfl
    | fail_if_no_progress (with_reducible refine Keep.set_host (by decide) ?_))

theorem State.setMsix_keep {wr : Nat} {s₀ : State} (s : State) (f : Nat) (x : Msix) (hk : Keep wr s₀ s) (hs : 4096 &&& wr = 4096) :
    Keep wr s₀ (State.setMsix s f x) := by
  refine Keep.app hk ?_ hs
  unfold State.setMsix
  repeat' (first
    | with_reducible exact Keep.refl _
    | (fail_if_no_progress (extract_lets +onlyGivenNames x); first
        | clear_value x)
    | fail_if_no_progress (with_reducible refine Keep.set_host (by decide) ?_))

theorem State.sendVector_keep {wr : Nat} {s₀ : State} (s : State) (f v : Nat) (hk : Keep wr s₀ s) (hs : 4100 &&& wr = 4100) :
    Keep wr s₀ (State.sendVector s f v) := by
  refine Keep.app hk ?_ hs
  unfold State.sendVector
  repeat' (first
    | with_reducible exact Keep.refl _
    | (fail_if_no_progress (extract_lets +onlyGivenNames x); first
        | clear_value x)
    | with_reducible apply State.hostRequest_keep
    | with_reducible apply State.setMsix_keep
    | with_reducible refine Keep.ite ?_ ?_
    | rfl)

theorem State.setSeam_keep {wr : Nat} {s₀ : State} (s : State) (x : Seam) (hk : Keep wr s₀ s) (hs : 2097152 &&& wr = 2097152) :
    Keep wr s₀ (State.setSeam s x) := by
  refine Keep.app hk ?_ hs
  unfold State.setSeam
  repeat' (first
    | with_reducible exact Keep.refl _
    | fail_if_no_progress (with_reducible refine Keep.set_seam (by decide) ?_))

theorem State.setLink_keep {wr : Nat} {s₀ : State} (s : State) (l : Nat) (x : SeamLink) (hk : Keep wr s₀ s) (hs : 2097152 &&& wr = 2097152) :
    Keep wr s₀ (State.setLink s l x) := by
  refine Keep.app hk ?_ hs
  unfold State.setLink
  repeat' (first
    | with_reducible exact Keep.refl _
    | (fail_if_no_progress (extract_lets +onlyGivenNames x); first
        | clear_value x)
    | fail_if_no_progress (with_reducible refine Keep.set_seam (by decide) ?_))

theorem State.postUnit_keep {wr : Nat} {s₀ : State} (s : State) (u : SeamUnit) (hk : Keep wr s₀ s) (hs : 2097152 &&& wr = 2097152) :
    Keep wr s₀ (State.postUnit s u) := by
  refine Keep.app hk ?_ hs
  unfold State.postUnit
  repeat' (first
    | with_reducible exact Keep.refl _
    | (fail_if_no_progress (extract_lets +onlyGivenNames x); first
        | clear_value x)
    | with_reducible apply State.setLink_keep
    | with_reducible apply State.setSeam_keep
    | split
    | rfl)

theorem State.post_keep {wr : Nat} {s₀ : State} (s : State) (n : Nat) (b : SeamBody) (hk : Keep wr s₀ s) (hs : 2097152 &&& wr = 2097152) :
    Keep wr s₀ (State.post s n b) := by
  refine Keep.app hk ?_ hs
  unfold State.post
  repeat' (first
    | with_reducible exact Keep.refl _
    | with_reducible assumption
    | (fail_if_no_progress (extract_lets +onlyGivenNames x); first
        | (with_reducible refine Keep.cut (t := x) ?_ ?_; (on_goal 1 => (unfold x; clear x)); (on_goal 2 => (intro hx; clear_value x)))
        | clear_value x)
    | with_reducible apply State.setSeam_keep
    | with_reducible apply State.postUnit_keep
    | split
    | rfl)

theorem State.raise_keep {wr : Nat} {s₀ : State} (s : State) (e : Nat) (info : Nat) (hk : Keep wr s₀ s) (hs : 4297134100 &&& wr = 4297134100) :
    Keep wr s₀ (State.raise s e info) := by
  refine Keep.app hk ?_ hs
  unfold State.raise
  repeat' (first
    | with_reducible exact Keep.refl _
    | with_reducible assumption
    | (fail_if_no_progress (extract_lets +onlyGivenNames x); first
        | (with_reducible refine Keep.cut (t := x) ?_ ?_; (on_goal 1 => (unfold x; clear x)); (on_goal 2 => (intro hx; clear_value x)))
        | clear_value x)
    | with_reducible apply State.sf_keep
    | with_reducible apply State.tellThimble_keep
    | with_reducible apply State.sendVector_keep
    | with_reducible apply State.post_keep
    | with_reducible refine Keep.ite ?_ ?_
    | split
    | rfl
    | fail_if_no_progress (with_reducible refine Keep.set_engineEvents (by decide) ?_))

theorem State.commit_keep {wr : Nat} {s₀ : State} (s : State) (o : Obj) (i : Nat) (value : List Byte) (hk : Keep wr s₀ s) (hs : 8589934624 &&& wr = 8589934624) :
    Keep wr s₀ (State.commit s o i value) := by
  refine Keep.app hk ?_ hs
  unfold State.commit
  repeat' (first
    | with_reducible exact Keep.refl _
    | (fail_if_no_progress (extract_lets +onlyGivenNames x); first
        | clear_value x)
    | with_reducible refine Keep.ite ?_ ?_
    | fail_if_no_progress (with_reducible refine Keep.set_objs_boot (by decide) ?_))

theorem State.touch_keep {wr : Nat} {s₀ : State} (s : State) (key : Nat) (hk : Keep wr s₀ s) (hs : 1073741824 &&& wr = 1073741824) :
    Keep wr s₀ (State.touch s key) := by
  refine Keep.app hk ?_ hs
  unfold State.touch
  repeat' (first
    | with_reducible exact Keep.refl _
    | fail_if_no_progress (with_reducible refine Keep.set_changes (by decide) ?_))

theorem State.so_keep {wr : Nat} {s₀ : State} (s : State) (o : Obj) (i : Nat) (v : Nat) (hk : Keep wr s₀ s) (hs : 9663676448 &&& wr = 9663676448) :
    Keep wr s₀ (State.so s o i v) := by
  refine Keep.app hk ?_ hs
  unfold State.so
  repeat' (first
    | with_reducible exact Keep.refl _
    | with_reducible assumption
    | (fail_if_no_progress (extract_lets +onlyGivenNames x); first
        | (with_reducible refine Keep.cut (t := x) ?_ ?_; (on_goal 1 => (unfold x; clear x)); (on_goal 2 => (intro hx; clear_value x))))
    | with_reducible apply State.commit_keep
    | with_reducible apply State.touch_keep
    | with_reducible refine Keep.ite ?_ ?_
    | rfl
    | fail_if_no_progress (with_reducible refine Keep.set_objs (by decide) ?_))

theorem State.sdom_keep {wr : Nat} {s₀ : State} (s : State) (o : Obj) (i : Nat) (v : List Byte) (hk : Keep wr s₀ s) (hs : 9663676512 &&& wr = 9663676512) :
    Keep wr s₀ (State.sdom s o i v) := by
  refine Keep.app hk ?_ hs
  unfold State.sdom
  repeat' (first
    | with_reducible exact Keep.refl _
    | with_reducible assumption
    | (fail_if_no_progress (extract_lets +onlyGivenNames x); first
        | (with_reducible refine Keep.cut (t := x) ?_ ?_; (on_goal 1 => (unfold x; clear x)); (on_goal 2 => (intro hx; clear_value x))))
    | with_reducible apply State.commit_keep
    | with_reducible apply State.touch_keep
    | with_reducible refine Keep.ite ?_ ?_
    | rfl
    | fail_if_no_progress (with_reducible refine Keep.set_doms (by decide) ?_))

theorem State.recordRetirement_keep {wr : Nat} {s₀ : State} (s : State) (cls cause ident epoch : Nat) (spare : Bool) (logical : Nat) (hk : Keep wr s₀ s) (hs : 13960810612 &&& wr = 13960810612) :
    Keep wr s₀ (State.recordRetirement s cls cause ident epoch spare logical) := by
  refine Keep.app hk ?_ hs
  unfold State.recordRetirement
  repeat' (first
    | with_reducible exact Keep.refl _
    | with_reducible assumption
    | (fail_if_no_progress (extract_lets +onlyGivenNames x); first
        | (with_reducible refine Keep.cut (t := x) ?_ ?_; (on_goal 1 => (unfold x; clear x)); (on_goal 2 => (intro hx; clear_value x)))
        | clear_value x)
    | with_reducible apply State.sdom_keep
    | with_reducible apply State.raise_keep
    | with_reducible refine Keep.ite ?_ ?_
    | rfl)

theorem State.raiseReason_keep {wr : Nat} {s₀ : State} (s : State) (e reason : Nat) (f : Fld) (i : Nat) (hk : Keep wr s₀ s) (hs : 4297134100 &&& wr = 4297134100) :
    Keep wr s₀ (State.raiseReason s e reason f i) := by
  refine Keep.app hk ?_ hs
  unfold State.raiseReason
  repeat' (first
    | with_reducible exact Keep.refl _
    | with_reducible apply State.raise_keep
    | with_reducible apply State.sf_keep
    | rfl)

theorem State.fresh_keep {wr : Nat} {s₀ : State} (s : State) (hk : Keep wr s₀ s) (hs : 2 &&& wr = 2) :
    Keep wr s₀ (State.fresh s) := by
  refine Keep.app hk ?_ hs
  unfold State.fresh
  repeat' (first
    | with_reducible exact Keep.refl _
    | fail_if_no_progress (with_reducible refine Keep.set_free (by decide) ?_))

theorem State.setPatch_keep {wr : Nat} {s₀ : State} (s : State) (n : Nat) (x : Patch) (hk : Keep wr s₀ s) (hs : 33554432 &&& wr = 33554432) :
    Keep wr s₀ (State.setPatch s n x) := by
  refine Keep.app hk ?_ hs
  unfold State.setPatch
  repeat' (first
    | with_reducible exact Keep.refl _
    | fail_if_no_progress (with_reducible refine Keep.set_patches (by decide) ?_))

theorem State.streamWord_keep {wr : Nat} {s₀ : State} (s : State) (n : Nat) (w : Option Word) (hk : Keep wr s₀ s) (hs : 33554432 &&& wr = 33554432) :
    Keep wr s₀ (State.streamWord s n w) := by
  refine Keep.app hk ?_ hs
  unfold State.streamWord
  repeat' (first
    | with_reducible exact Keep.refl _
    | (fail_if_no_progress (extract_lets +onlyGivenNames x); first
        | clear_value x)
    | with_reducible apply State.setPatch_keep
    | with_reducible refine Keep.ite ?_ ?_
    | rfl)

theorem State.setEng_keep {wr : Nat} {s₀ : State} (s : State) (g : Nat) (e : Engine) (hk : Keep wr s₀ s) (hs : 16384 &&& wr = 16384) :
    Keep wr s₀ (State.setEng s g e) := by
  refine Keep.app hk ?_ hs
  unfold State.setEng
  repeat' (first
    | with_reducible exact Keep.refl _
    | fail_if_no_progress (with_reducible refine Keep.set_engines (by decide) ?_))

theorem State.maxf_keep {wr : Nat} {s₀ : State} (s : State) (f : Fld) (i : Nat) (v : Nat) (hk : Keep wr s₀ s) (hs : 16 &&& wr = 16) :
    Keep wr s₀ (State.maxf s f i v) := by
  refine Keep.app hk ?_ hs
  unfold State.maxf
  repeat' (first
    | with_reducible exact Keep.refl _
    | with_reducible apply State.sf_keep
    | rfl)

theorem State.setIsl_keep {wr : Nat} {s₀ : State} (s : State) (i : Nat) (x : Isl) (hk : Keep wr s₀ s) (hs : 268435456 &&& wr = 268435456) :
    Keep wr s₀ (State.setIsl s i x) := by
  refine Keep.app hk ?_ hs
  unfold State.setIsl
  repeat' (first
    | with_reducible exact Keep.refl _
    | (fail_if_no_progress (extract_lets +onlyGivenNames x); first
        | clear_value x)
    | fail_if_no_progress (with_reducible refine Keep.set_pm (by decide) ?_))

theorem State.stallAt_keep {wr : Nat} {s₀ : State} (s : State) (i : Nat) (bank : Option Nat) (hk : Keep wr s₀ s) (hs : 268435456 &&& wr = 268435456) :
    Keep wr s₀ (State.stallAt s i bank) := by
  refine Keep.app hk ?_ hs
  unfold State.stallAt
  repeat' (first
    | with_reducible exact Keep.refl _
    | (fail_if_no_progress (extract_lets +onlyGivenNames x); first
        | clear_value x)
    | with_reducible apply State.setIsl_keep
    | with_reducible refine Keep.ite ?_ ?_
    | rfl)

theorem State.addRecent_keep {wr : Nat} {s₀ : State} (s : State) (cls cause ident epoch flags logical : Nat) (hk : Keep wr s₀ s) (hs : 9663676512 &&& wr = 9663676512) :
    Keep wr s₀ (State.addRecent s cls cause ident epoch flags logical) := by
  refine Keep.app hk ?_ hs
  unfold State.addRecent
  repeat' (first
    | with_reducible exact Keep.refl _
    | with_reducible apply State.sdom_keep
    | rfl)

theorem State.advanceEpoch_keep {wr : Nat} {s₀ : State} (s : State) (u : Nat) (hk : Keep wr s₀ s) (hs : 4294967312 &&& wr = 4294967312) :
    Keep wr s₀ (State.advanceEpoch s u) := by
  refine Keep.app hk ?_ hs
  unfold State.advanceEpoch
  repeat' (first
    | with_reducible exact Keep.refl _
    | with_reducible assumption
    | (fail_if_no_progress (extract_lets +onlyGivenNames x); first
        | (with_reducible refine Keep.cut (t := x) ?_ ?_; (on_goal 1 => (unfold x; clear x)); (on_goal 2 => (intro hx; clear_value x)))
        | clear_value x)
    | with_reducible apply State.sf_keep
    | rfl
    | fail_if_no_progress (with_reducible refine Keep.set_health (by decide) ?_))

theorem State.clearf_keep {wr : Nat} {s₀ : State} (s : State) (f : Fld) (i : Nat) (hk : Keep wr s₀ s) (hs : 16 &&& wr = 16) :
    Keep wr s₀ (State.clearf s f i) := by
  refine Keep.app hk ?_ hs
  unfold State.clearf
  repeat' (first
    | with_reducible exact Keep.refl _
    | with_reducible apply State.sf_keep
    | rfl)

theorem State.setQstate_keep {wr : Nat} {s₀ : State} (s : State) (n v : Nat) (hk : Keep wr s₀ s) (hs : 16 &&& wr = 16) :
    Keep wr s₀ (State.setQstate s n v) := by
  refine Keep.app hk ?_ hs
  unfold State.setQstate
  repeat' (first
    | with_reducible exact Keep.refl _
    | with_reducible apply State.sf_keep
    | rfl)

theorem State.inco_keep {wr : Nat} {s₀ : State} (s : State) (o : Obj) (i : Nat) (w : Nat) (n : Nat) (hk : Keep wr s₀ s) (hs : 9663676448 &&& wr = 9663676448) :
    Keep wr s₀ (State.inco s o i w n) := by
  refine Keep.app hk ?_ hs
  unfold State.inco
  repeat' (first
    | with_reducible exact Keep.refl _
    | with_reducible apply State.so_keep
    | rfl)

theorem State.dropHalves_keep {wr : Nat} {s₀ : State} (s : State) (mine : Nat → Bool) (hk : Keep wr s₀ s) (hs : 384 &&& wr = 384) :
    Keep wr s₀ (State.dropHalves s mine) := by
  refine Keep.app hk ?_ hs
  unfold State.dropHalves
  repeat' (first
    | with_reducible exact Keep.refl _
    | fail_if_no_progress (with_reducible refine Keep.set_staged_latched (by decide) ?_))

theorem State.setMbSlot_keep {wr : Nat} {s₀ : State} (s : State) (k : Nat) (x : MbSlot) (hk : Keep wr s₀ s) (hs : 68719476736 &&& wr = 68719476736) :
    Keep wr s₀ (State.setMbSlot s k x) := by
  refine Keep.app hk ?_ hs
  unfold State.setMbSlot
  repeat' (first
    | with_reducible exact Keep.refl _
    | fail_if_no_progress (with_reducible refine Keep.set_mb (by decide) ?_))

theorem State.mbSource_keep {wr : Nat} {s₀ : State} (s : State) (k source : Nat) (hk : Keep wr s₀ s) (hs : 68719480836 &&& wr = 68719480836) :
    Keep wr s₀ (State.mbSource s k source) := by
  refine Keep.app hk ?_ hs
  unfold State.mbSource
  repeat' (first
    | with_reducible exact Keep.refl _
    | with_reducible assumption
    | (fail_if_no_progress (extract_lets +onlyGivenNames x); first
        | (with_reducible refine Keep.cut (t := x) ?_ ?_; (on_goal 1 => (unfold x; clear x)); (on_goal 2 => (intro hx; clear_value x)))
        | clear_value x)
    | with_reducible apply State.setMbSlot_keep
    | with_reducible apply State.sendVector_keep
    | rfl)

theorem State.mbTimer_keep {wr : Nat} {s₀ : State} (s : State) (n : Nat) (hk : Keep wr s₀ s) (hs : 68719480836 &&& wr = 68719480836) :
    Keep wr s₀ (State.mbTimer s n) := by
  refine Keep.app hk ?_ hs
  unfold State.mbTimer
  repeat' (first
    | with_reducible exact Keep.refl _
    | (fail_if_no_progress (extract_lets +onlyGivenNames x); first
        | clear_value x)
    | with_reducible apply State.mbSource_keep
    | with_reducible refine Keep.ite ?_ ?_
    | split
    | rfl)

theorem State.atIsland_keep {wr : Nat} {s₀ : State} (s : State) (u i : Nat) (f : State → State) (hk : Keep wr s₀ s) (hs : 268435456 &&& wr = 268435456)
    (hb_f : ∀ t, Keep wr s₀ t → Keep wr s₀ (f t)) :
    Keep wr s₀ (State.atIsland s u i f) := by
  unfold State.atIsland
  repeat' (first
    | with_reducible assumption
    | with_reducible apply hb_f
    | with_reducible apply State.stallAt_keep
    | with_reducible refine Keep.ite ?_ ?_)

theorem State.noteFlit_keep {wr : Nat} {s₀ : State} (s : State) (i : Nat) (hk : Keep wr s₀ s) (hs : 268435456 &&& wr = 268435456) :
    Keep wr s₀ (State.noteFlit s i) := by
  refine Keep.app hk ?_ hs
  unfold State.noteFlit
  repeat' (first
    | with_reducible exact Keep.refl _
    | (fail_if_no_progress (extract_lets +onlyGivenNames x); first
        | clear_value x)
    | with_reducible apply State.setIsl_keep
    | rfl)

end Sys2Proof.Machine
end

