-- ==== Sys2Proof/Laws/State.lean ====
section
/-!
SUPPORT. The state's updates field by field, and what a register field or an object reads after an update.
-/

namespace Sys2Proof.Machine

@[simp] theorem State.sf_pending (s : State) (f : Fld) (i v : Nat) : (s.sf f i v).pending = s.pending := rfl
@[simp] theorem State.sf_free (s : State) (f : Fld) (i v : Nat) : (s.sf f i v).free = s.free := rfl
@[simp] theorem State.sf_out (s : State) (f : Fld) (i v : Nat) : (s.sf f i v).out = s.out := rfl
@[simp] theorem State.sf_die (s : State) (f : Fld) (i v : Nat) : (s.sf f i v).die = s.die := rfl
@[simp] theorem State.sf_objs (s : State) (f : Fld) (i v : Nat) : (s.sf f i v).objs = s.objs := rfl
@[simp] theorem State.sf_doms (s : State) (f : Fld) (i v : Nat) : (s.sf f i v).doms = s.doms := rfl
@[simp] theorem State.sf_staged (s : State) (f : Fld) (i v : Nat) : (s.sf f i v).staged = s.staged := rfl
@[simp] theorem State.sf_latched (s : State) (f : Fld) (i v : Nat) : (s.sf f i v).latched = s.latched := rfl
@[simp] theorem State.sf_mem (s : State) (f : Fld) (i v : Nat) : (s.sf f i v).mem = s.mem := rfl
@[simp] theorem State.sf_weft (s : State) (f : Fld) (i v : Nat) : (s.sf f i v).weft = s.weft := rfl
@[simp] theorem State.sf_protect (s : State) (f : Fld) (i v : Nat) : (s.sf f i v).protect = s.protect := rfl
@[simp] theorem State.sf_host (s : State) (f : Fld) (i v : Nat) : (s.sf f i v).host = s.host := rfl
@[simp] theorem State.sf_tb (s : State) (f : Fld) (i v : Nat) : (s.sf f i v).tb = s.tb := rfl
@[simp] theorem State.sf_engines (s : State) (f : Fld) (i v : Nat) : (s.sf f i v).engines = s.engines := rfl
@[simp] theorem State.sf_gussets (s : State) (f : Fld) (i v : Nat) : (s.sf f i v).gussets = s.gussets := rfl
@[simp] theorem State.sf_engineEvents (s : State) (f : Fld) (i v : Nat) : (s.sf f i v).engineEvents = s.engineEvents := rfl
@[simp] theorem State.sf_sh (s : State) (f : Fld) (i v : Nat) : (s.sf f i v).sh = s.sh := rfl
@[simp] theorem State.sf_hem (s : State) (f : Fld) (i v : Nat) : (s.sf f i v).hem = s.hem := rfl
@[simp] theorem State.sf_lanes (s : State) (f : Fld) (i v : Nat) : (s.sf f i v).lanes = s.lanes := rfl
@[simp] theorem State.sf_fh (s : State) (f : Fld) (i v : Nat) : (s.sf f i v).fh = s.fh := rfl
@[simp] theorem State.sf_seam (s : State) (f : Fld) (i v : Nat) : (s.sf f i v).seam = s.seam := rfl
@[simp] theorem State.sf_dram (s : State) (f : Fld) (i v : Nat) : (s.sf f i v).dram = s.dram := rfl
@[simp] theorem State.sf_dramPorts (s : State) (f : Fld) (i v : Nat) : (s.sf f i v).dramPorts = s.dramPorts := rfl
@[simp] theorem State.sf_dma (s : State) (f : Fld) (i v : Nat) : (s.sf f i v).dma = s.dma := rfl
@[simp] theorem State.sf_patches (s : State) (f : Fld) (i v : Nat) : (s.sf f i v).patches = s.patches := rfl
@[simp] theorem State.sf_scrub (s : State) (f : Fld) (i v : Nat) : (s.sf f i v).scrub = s.scrub := rfl
@[simp] theorem State.sf_keys (s : State) (f : Fld) (i v : Nat) : (s.sf f i v).keys = s.keys := rfl
@[simp] theorem State.sf_pm (s : State) (f : Fld) (i v : Nat) : (s.sf f i v).pm = s.pm := rfl
@[simp] theorem State.sf_measures (s : State) (f : Fld) (i v : Nat) : (s.sf f i v).measures = s.measures := rfl
@[simp] theorem State.sf_changes (s : State) (f : Fld) (i v : Nat) : (s.sf f i v).changes = s.changes := rfl
@[simp] theorem State.sf_rws (s : State) (f : Fld) (i v : Nat) : (s.sf f i v).rws = s.rws := rfl
@[simp] theorem State.sf_health (s : State) (f : Fld) (i v : Nat) : (s.sf f i v).health = s.health := rfl
@[simp] theorem State.sf_boot (s : State) (f : Fld) (i v : Nat) : (s.sf f i v).boot = s.boot := rfl
@[simp] theorem State.sf_sessions (s : State) (f : Fld) (i v : Nat) : (s.sf f i v).sessions = s.sessions := rfl
@[simp] theorem State.sf_relays (s : State) (f : Fld) (i v : Nat) : (s.sf f i v).relays = s.relays := rfl
@[simp] theorem State.sf_mb (s : State) (f : Fld) (i v : Nat) : (s.sf f i v).mb = s.mb := rfl
@[simp] theorem State.sf_thermal (s : State) (f : Fld) (i v : Nat) : (s.sf f i v).thermal = s.thermal := rfl
@[simp] theorem State.sf_jtag (s : State) (f : Fld) (i v : Nat) : (s.sf f i v).jtag = s.jtag := rfl

@[simp] theorem State.send_pending (s : State) (m : Msg) : (s.send m).pending = s.pending := rfl
@[simp] theorem State.send_free (s : State) (m : Msg) : (s.send m).free = s.free := rfl
@[simp] theorem State.send_die (s : State) (m : Msg) : (s.send m).die = s.die := rfl
@[simp] theorem State.send_flds (s : State) (m : Msg) : (s.send m).flds = s.flds := rfl
@[simp] theorem State.send_objs (s : State) (m : Msg) : (s.send m).objs = s.objs := rfl
@[simp] theorem State.send_doms (s : State) (m : Msg) : (s.send m).doms = s.doms := rfl
@[simp] theorem State.send_staged (s : State) (m : Msg) : (s.send m).staged = s.staged := rfl
@[simp] theorem State.send_latched (s : State) (m : Msg) : (s.send m).latched = s.latched := rfl
@[simp] theorem State.send_mem (s : State) (m : Msg) : (s.send m).mem = s.mem := rfl
@[simp] theorem State.send_weft (s : State) (m : Msg) : (s.send m).weft = s.weft := rfl
@[simp] theorem State.send_protect (s : State) (m : Msg) : (s.send m).protect = s.protect := rfl
@[simp] theorem State.send_host (s : State) (m : Msg) : (s.send m).host = s.host := rfl
@[simp] theorem State.send_tb (s : State) (m : Msg) : (s.send m).tb = s.tb := rfl
@[simp] theorem State.send_engines (s : State) (m : Msg) : (s.send m).engines = s.engines := rfl
@[simp] theorem State.send_gussets (s : State) (m : Msg) : (s.send m).gussets = s.gussets := rfl
@[simp] theorem State.send_engineEvents (s : State) (m : Msg) : (s.send m).engineEvents = s.engineEvents := rfl
@[simp] theorem State.send_sh (s : State) (m : Msg) : (s.send m).sh = s.sh := rfl
@[simp] theorem State.send_hem (s : State) (m : Msg) : (s.send m).hem = s.hem := rfl
@[simp] theorem State.send_lanes (s : State) (m : Msg) : (s.send m).lanes = s.lanes := rfl
@[simp] theorem State.send_fh (s : State) (m : Msg) : (s.send m).fh = s.fh := rfl
@[simp] theorem State.send_seam (s : State) (m : Msg) : (s.send m).seam = s.seam := rfl
@[simp] theorem State.send_dram (s : State) (m : Msg) : (s.send m).dram = s.dram := rfl
@[simp] theorem State.send_dramPorts (s : State) (m : Msg) : (s.send m).dramPorts = s.dramPorts := rfl
@[simp] theorem State.send_dma (s : State) (m : Msg) : (s.send m).dma = s.dma := rfl
@[simp] theorem State.send_patches (s : State) (m : Msg) : (s.send m).patches = s.patches := rfl
@[simp] theorem State.send_scrub (s : State) (m : Msg) : (s.send m).scrub = s.scrub := rfl
@[simp] theorem State.send_keys (s : State) (m : Msg) : (s.send m).keys = s.keys := rfl
@[simp] theorem State.send_pm (s : State) (m : Msg) : (s.send m).pm = s.pm := rfl
@[simp] theorem State.send_measures (s : State) (m : Msg) : (s.send m).measures = s.measures := rfl
@[simp] theorem State.send_changes (s : State) (m : Msg) : (s.send m).changes = s.changes := rfl
@[simp] theorem State.send_rws (s : State) (m : Msg) : (s.send m).rws = s.rws := rfl
@[simp] theorem State.send_health (s : State) (m : Msg) : (s.send m).health = s.health := rfl
@[simp] theorem State.send_boot (s : State) (m : Msg) : (s.send m).boot = s.boot := rfl
@[simp] theorem State.send_sessions (s : State) (m : Msg) : (s.send m).sessions = s.sessions := rfl
@[simp] theorem State.send_relays (s : State) (m : Msg) : (s.send m).relays = s.relays := rfl
@[simp] theorem State.send_mb (s : State) (m : Msg) : (s.send m).mb = s.mb := rfl
@[simp] theorem State.send_thermal (s : State) (m : Msg) : (s.send m).thermal = s.thermal := rfl
@[simp] theorem State.send_jtag (s : State) (m : Msg) : (s.send m).jtag = s.jtag := rfl

@[simp] theorem State.fresh_pending (s : State) : s.fresh.pending = s.pending := rfl
@[simp] theorem State.fresh_out (s : State) : s.fresh.out = s.out := rfl
@[simp] theorem State.fresh_die (s : State) : s.fresh.die = s.die := rfl
@[simp] theorem State.fresh_flds (s : State) : s.fresh.flds = s.flds := rfl
@[simp] theorem State.fresh_objs (s : State) : s.fresh.objs = s.objs := rfl
@[simp] theorem State.fresh_doms (s : State) : s.fresh.doms = s.doms := rfl
@[simp] theorem State.fresh_staged (s : State) : s.fresh.staged = s.staged := rfl
@[simp] theorem State.fresh_latched (s : State) : s.fresh.latched = s.latched := rfl
@[simp] theorem State.fresh_mem (s : State) : s.fresh.mem = s.mem := rfl
@[simp] theorem State.fresh_weft (s : State) : s.fresh.weft = s.weft := rfl
@[simp] theorem State.fresh_protect (s : State) : s.fresh.protect = s.protect := rfl
@[simp] theorem State.fresh_host (s : State) : s.fresh.host = s.host := rfl
@[simp] theorem State.fresh_tb (s : State) : s.fresh.tb = s.tb := rfl
@[simp] theorem State.fresh_engines (s : State) : s.fresh.engines = s.engines := rfl
@[simp] theorem State.fresh_gussets (s : State) : s.fresh.gussets = s.gussets := rfl
@[simp] theorem State.fresh_engineEvents (s : State) : s.fresh.engineEvents = s.engineEvents := rfl
@[simp] theorem State.fresh_sh (s : State) : s.fresh.sh = s.sh := rfl
@[simp] theorem State.fresh_hem (s : State) : s.fresh.hem = s.hem := rfl
@[simp] theorem State.fresh_lanes (s : State) : s.fresh.lanes = s.lanes := rfl
@[simp] theorem State.fresh_fh (s : State) : s.fresh.fh = s.fh := rfl
@[simp] theorem State.fresh_seam (s : State) : s.fresh.seam = s.seam := rfl
@[simp] theorem State.fresh_dram (s : State) : s.fresh.dram = s.dram := rfl
@[simp] theorem State.fresh_dramPorts (s : State) : s.fresh.dramPorts = s.dramPorts := rfl
@[simp] theorem State.fresh_dma (s : State) : s.fresh.dma = s.dma := rfl
@[simp] theorem State.fresh_patches (s : State) : s.fresh.patches = s.patches := rfl
@[simp] theorem State.fresh_scrub (s : State) : s.fresh.scrub = s.scrub := rfl
@[simp] theorem State.fresh_keys (s : State) : s.fresh.keys = s.keys := rfl
@[simp] theorem State.fresh_pm (s : State) : s.fresh.pm = s.pm := rfl
@[simp] theorem State.fresh_measures (s : State) : s.fresh.measures = s.measures := rfl
@[simp] theorem State.fresh_changes (s : State) : s.fresh.changes = s.changes := rfl
@[simp] theorem State.fresh_rws (s : State) : s.fresh.rws = s.rws := rfl
@[simp] theorem State.fresh_health (s : State) : s.fresh.health = s.health := rfl
@[simp] theorem State.fresh_boot (s : State) : s.fresh.boot = s.boot := rfl
@[simp] theorem State.fresh_sessions (s : State) : s.fresh.sessions = s.sessions := rfl
@[simp] theorem State.fresh_relays (s : State) : s.fresh.relays = s.relays := rfl
@[simp] theorem State.fresh_mb (s : State) : s.fresh.mb = s.mb := rfl
@[simp] theorem State.fresh_thermal (s : State) : s.fresh.thermal = s.thermal := rfl
@[simp] theorem State.fresh_jtag (s : State) : s.fresh.jtag = s.jtag := rfl

@[simp] theorem State.setEng_pending (s : State) (g : Nat) (e : Engine) : (s.setEng g e).pending = s.pending := rfl
@[simp] theorem State.setEng_free (s : State) (g : Nat) (e : Engine) : (s.setEng g e).free = s.free := rfl
@[simp] theorem State.setEng_out (s : State) (g : Nat) (e : Engine) : (s.setEng g e).out = s.out := rfl
@[simp] theorem State.setEng_die (s : State) (g : Nat) (e : Engine) : (s.setEng g e).die = s.die := rfl
@[simp] theorem State.setEng_flds (s : State) (g : Nat) (e : Engine) : (s.setEng g e).flds = s.flds := rfl
@[simp] theorem State.setEng_objs (s : State) (g : Nat) (e : Engine) : (s.setEng g e).objs = s.objs := rfl
@[simp] theorem State.setEng_doms (s : State) (g : Nat) (e : Engine) : (s.setEng g e).doms = s.doms := rfl
@[simp] theorem State.setEng_staged (s : State) (g : Nat) (e : Engine) : (s.setEng g e).staged = s.staged := rfl
@[simp] theorem State.setEng_latched (s : State) (g : Nat) (e : Engine) : (s.setEng g e).latched = s.latched := rfl
@[simp] theorem State.setEng_mem (s : State) (g : Nat) (e : Engine) : (s.setEng g e).mem = s.mem := rfl
@[simp] theorem State.setEng_weft (s : State) (g : Nat) (e : Engine) : (s.setEng g e).weft = s.weft := rfl
@[simp] theorem State.setEng_protect (s : State) (g : Nat) (e : Engine) : (s.setEng g e).protect = s.protect := rfl
@[simp] theorem State.setEng_host (s : State) (g : Nat) (e : Engine) : (s.setEng g e).host = s.host := rfl
@[simp] theorem State.setEng_tb (s : State) (g : Nat) (e : Engine) : (s.setEng g e).tb = s.tb := rfl
@[simp] theorem State.setEng_gussets (s : State) (g : Nat) (e : Engine) : (s.setEng g e).gussets = s.gussets := rfl
@[simp] theorem State.setEng_engineEvents (s : State) (g : Nat) (e : Engine) : (s.setEng g e).engineEvents = s.engineEvents := rfl
@[simp] theorem State.setEng_sh (s : State) (g : Nat) (e : Engine) : (s.setEng g e).sh = s.sh := rfl
@[simp] theorem State.setEng_hem (s : State) (g : Nat) (e : Engine) : (s.setEng g e).hem = s.hem := rfl
@[simp] theorem State.setEng_lanes (s : State) (g : Nat) (e : Engine) : (s.setEng g e).lanes = s.lanes := rfl
@[simp] theorem State.setEng_fh (s : State) (g : Nat) (e : Engine) : (s.setEng g e).fh = s.fh := rfl
@[simp] theorem State.setEng_seam (s : State) (g : Nat) (e : Engine) : (s.setEng g e).seam = s.seam := rfl
@[simp] theorem State.setEng_dram (s : State) (g : Nat) (e : Engine) : (s.setEng g e).dram = s.dram := rfl
@[simp] theorem State.setEng_dramPorts (s : State) (g : Nat) (e : Engine) : (s.setEng g e).dramPorts = s.dramPorts := rfl
@[simp] theorem State.setEng_dma (s : State) (g : Nat) (e : Engine) : (s.setEng g e).dma = s.dma := rfl
@[simp] theorem State.setEng_patches (s : State) (g : Nat) (e : Engine) : (s.setEng g e).patches = s.patches := rfl
@[simp] theorem State.setEng_scrub (s : State) (g : Nat) (e : Engine) : (s.setEng g e).scrub = s.scrub := rfl
@[simp] theorem State.setEng_keys (s : State) (g : Nat) (e : Engine) : (s.setEng g e).keys = s.keys := rfl
@[simp] theorem State.setEng_pm (s : State) (g : Nat) (e : Engine) : (s.setEng g e).pm = s.pm := rfl
@[simp] theorem State.setEng_measures (s : State) (g : Nat) (e : Engine) : (s.setEng g e).measures = s.measures := rfl
@[simp] theorem State.setEng_changes (s : State) (g : Nat) (e : Engine) : (s.setEng g e).changes = s.changes := rfl
@[simp] theorem State.setEng_rws (s : State) (g : Nat) (e : Engine) : (s.setEng g e).rws = s.rws := rfl
@[simp] theorem State.setEng_health (s : State) (g : Nat) (e : Engine) : (s.setEng g e).health = s.health := rfl
@[simp] theorem State.setEng_boot (s : State) (g : Nat) (e : Engine) : (s.setEng g e).boot = s.boot := rfl
@[simp] theorem State.setEng_sessions (s : State) (g : Nat) (e : Engine) : (s.setEng g e).sessions = s.sessions := rfl
@[simp] theorem State.setEng_relays (s : State) (g : Nat) (e : Engine) : (s.setEng g e).relays = s.relays := rfl
@[simp] theorem State.setEng_mb (s : State) (g : Nat) (e : Engine) : (s.setEng g e).mb = s.mb := rfl
@[simp] theorem State.setEng_thermal (s : State) (g : Nat) (e : Engine) : (s.setEng g e).thermal = s.thermal := rfl
@[simp] theorem State.setEng_jtag (s : State) (g : Nat) (e : Engine) : (s.setEng g e).jtag = s.jtag := rfl

@[simp] theorem State.setSeam_pending (s : State) (x : Seam) : (s.setSeam x).pending = s.pending := rfl
@[simp] theorem State.setSeam_free (s : State) (x : Seam) : (s.setSeam x).free = s.free := rfl
@[simp] theorem State.setSeam_out (s : State) (x : Seam) : (s.setSeam x).out = s.out := rfl
@[simp] theorem State.setSeam_die (s : State) (x : Seam) : (s.setSeam x).die = s.die := rfl
@[simp] theorem State.setSeam_flds (s : State) (x : Seam) : (s.setSeam x).flds = s.flds := rfl
@[simp] theorem State.setSeam_objs (s : State) (x : Seam) : (s.setSeam x).objs = s.objs := rfl
@[simp] theorem State.setSeam_doms (s : State) (x : Seam) : (s.setSeam x).doms = s.doms := rfl
@[simp] theorem State.setSeam_staged (s : State) (x : Seam) : (s.setSeam x).staged = s.staged := rfl
@[simp] theorem State.setSeam_latched (s : State) (x : Seam) : (s.setSeam x).latched = s.latched := rfl
@[simp] theorem State.setSeam_mem (s : State) (x : Seam) : (s.setSeam x).mem = s.mem := rfl
@[simp] theorem State.setSeam_weft (s : State) (x : Seam) : (s.setSeam x).weft = s.weft := rfl
@[simp] theorem State.setSeam_protect (s : State) (x : Seam) : (s.setSeam x).protect = s.protect := rfl
@[simp] theorem State.setSeam_host (s : State) (x : Seam) : (s.setSeam x).host = s.host := rfl
@[simp] theorem State.setSeam_tb (s : State) (x : Seam) : (s.setSeam x).tb = s.tb := rfl
@[simp] theorem State.setSeam_engines (s : State) (x : Seam) : (s.setSeam x).engines = s.engines := rfl
@[simp] theorem State.setSeam_gussets (s : State) (x : Seam) : (s.setSeam x).gussets = s.gussets := rfl
@[simp] theorem State.setSeam_engineEvents (s : State) (x : Seam) : (s.setSeam x).engineEvents = s.engineEvents := rfl
@[simp] theorem State.setSeam_sh (s : State) (x : Seam) : (s.setSeam x).sh = s.sh := rfl
@[simp] theorem State.setSeam_hem (s : State) (x : Seam) : (s.setSeam x).hem = s.hem := rfl
@[simp] theorem State.setSeam_lanes (s : State) (x : Seam) : (s.setSeam x).lanes = s.lanes := rfl
@[simp] theorem State.setSeam_fh (s : State) (x : Seam) : (s.setSeam x).fh = s.fh := rfl
@[simp] theorem State.setSeam_dram (s : State) (x : Seam) : (s.setSeam x).dram = s.dram := rfl
@[simp] theorem State.setSeam_dramPorts (s : State) (x : Seam) : (s.setSeam x).dramPorts = s.dramPorts := rfl
@[simp] theorem State.setSeam_dma (s : State) (x : Seam) : (s.setSeam x).dma = s.dma := rfl
@[simp] theorem State.setSeam_patches (s : State) (x : Seam) : (s.setSeam x).patches = s.patches := rfl
@[simp] theorem State.setSeam_scrub (s : State) (x : Seam) : (s.setSeam x).scrub = s.scrub := rfl
@[simp] theorem State.setSeam_keys (s : State) (x : Seam) : (s.setSeam x).keys = s.keys := rfl
@[simp] theorem State.setSeam_pm (s : State) (x : Seam) : (s.setSeam x).pm = s.pm := rfl
@[simp] theorem State.setSeam_measures (s : State) (x : Seam) : (s.setSeam x).measures = s.measures := rfl
@[simp] theorem State.setSeam_changes (s : State) (x : Seam) : (s.setSeam x).changes = s.changes := rfl
@[simp] theorem State.setSeam_rws (s : State) (x : Seam) : (s.setSeam x).rws = s.rws := rfl
@[simp] theorem State.setSeam_health (s : State) (x : Seam) : (s.setSeam x).health = s.health := rfl
@[simp] theorem State.setSeam_boot (s : State) (x : Seam) : (s.setSeam x).boot = s.boot := rfl
@[simp] theorem State.setSeam_sessions (s : State) (x : Seam) : (s.setSeam x).sessions = s.sessions := rfl
@[simp] theorem State.setSeam_relays (s : State) (x : Seam) : (s.setSeam x).relays = s.relays := rfl
@[simp] theorem State.setSeam_mb (s : State) (x : Seam) : (s.setSeam x).mb = s.mb := rfl
@[simp] theorem State.setSeam_thermal (s : State) (x : Seam) : (s.setSeam x).thermal = s.thermal := rfl
@[simp] theorem State.setSeam_jtag (s : State) (x : Seam) : (s.setSeam x).jtag = s.jtag := rfl

@[simp] theorem State.setLink_pending (s : State) (l : Nat) (x : SeamLink) : (s.setLink l x).pending = s.pending := rfl
@[simp] theorem State.setLink_free (s : State) (l : Nat) (x : SeamLink) : (s.setLink l x).free = s.free := rfl
@[simp] theorem State.setLink_out (s : State) (l : Nat) (x : SeamLink) : (s.setLink l x).out = s.out := rfl
@[simp] theorem State.setLink_die (s : State) (l : Nat) (x : SeamLink) : (s.setLink l x).die = s.die := rfl
@[simp] theorem State.setLink_flds (s : State) (l : Nat) (x : SeamLink) : (s.setLink l x).flds = s.flds := rfl
@[simp] theorem State.setLink_objs (s : State) (l : Nat) (x : SeamLink) : (s.setLink l x).objs = s.objs := rfl
@[simp] theorem State.setLink_doms (s : State) (l : Nat) (x : SeamLink) : (s.setLink l x).doms = s.doms := rfl
@[simp] theorem State.setLink_staged (s : State) (l : Nat) (x : SeamLink) : (s.setLink l x).staged = s.staged := rfl
@[simp] theorem State.setLink_latched (s : State) (l : Nat) (x : SeamLink) : (s.setLink l x).latched = s.latched := rfl
@[simp] theorem State.setLink_mem (s : State) (l : Nat) (x : SeamLink) : (s.setLink l x).mem = s.mem := rfl
@[simp] theorem State.setLink_weft (s : State) (l : Nat) (x : SeamLink) : (s.setLink l x).weft = s.weft := rfl
@[simp] theorem State.setLink_protect (s : State) (l : Nat) (x : SeamLink) : (s.setLink l x).protect = s.protect := rfl
@[simp] theorem State.setLink_host (s : State) (l : Nat) (x : SeamLink) : (s.setLink l x).host = s.host := rfl
@[simp] theorem State.setLink_tb (s : State) (l : Nat) (x : SeamLink) : (s.setLink l x).tb = s.tb := rfl
@[simp] theorem State.setLink_engines (s : State) (l : Nat) (x : SeamLink) : (s.setLink l x).engines = s.engines := rfl
@[simp] theorem State.setLink_gussets (s : State) (l : Nat) (x : SeamLink) : (s.setLink l x).gussets = s.gussets := rfl
@[simp] theorem State.setLink_engineEvents (s : State) (l : Nat) (x : SeamLink) : (s.setLink l x).engineEvents = s.engineEvents := rfl
@[simp] theorem State.setLink_sh (s : State) (l : Nat) (x : SeamLink) : (s.setLink l x).sh = s.sh := rfl
@[simp] theorem State.setLink_hem (s : State) (l : Nat) (x : SeamLink) : (s.setLink l x).hem = s.hem := rfl
@[simp] theorem State.setLink_lanes (s : State) (l : Nat) (x : SeamLink) : (s.setLink l x).lanes = s.lanes := rfl
@[simp] theorem State.setLink_fh (s : State) (l : Nat) (x : SeamLink) : (s.setLink l x).fh = s.fh := rfl
@[simp] theorem State.setLink_dram (s : State) (l : Nat) (x : SeamLink) : (s.setLink l x).dram = s.dram := rfl
@[simp] theorem State.setLink_dramPorts (s : State) (l : Nat) (x : SeamLink) : (s.setLink l x).dramPorts = s.dramPorts := rfl
@[simp] theorem State.setLink_dma (s : State) (l : Nat) (x : SeamLink) : (s.setLink l x).dma = s.dma := rfl
@[simp] theorem State.setLink_patches (s : State) (l : Nat) (x : SeamLink) : (s.setLink l x).patches = s.patches := rfl
@[simp] theorem State.setLink_scrub (s : State) (l : Nat) (x : SeamLink) : (s.setLink l x).scrub = s.scrub := rfl
@[simp] theorem State.setLink_keys (s : State) (l : Nat) (x : SeamLink) : (s.setLink l x).keys = s.keys := rfl
@[simp] theorem State.setLink_pm (s : State) (l : Nat) (x : SeamLink) : (s.setLink l x).pm = s.pm := rfl
@[simp] theorem State.setLink_measures (s : State) (l : Nat) (x : SeamLink) : (s.setLink l x).measures = s.measures := rfl
@[simp] theorem State.setLink_changes (s : State) (l : Nat) (x : SeamLink) : (s.setLink l x).changes = s.changes := rfl
@[simp] theorem State.setLink_rws (s : State) (l : Nat) (x : SeamLink) : (s.setLink l x).rws = s.rws := rfl
@[simp] theorem State.setLink_health (s : State) (l : Nat) (x : SeamLink) : (s.setLink l x).health = s.health := rfl
@[simp] theorem State.setLink_boot (s : State) (l : Nat) (x : SeamLink) : (s.setLink l x).boot = s.boot := rfl
@[simp] theorem State.setLink_sessions (s : State) (l : Nat) (x : SeamLink) : (s.setLink l x).sessions = s.sessions := rfl
@[simp] theorem State.setLink_relays (s : State) (l : Nat) (x : SeamLink) : (s.setLink l x).relays = s.relays := rfl
@[simp] theorem State.setLink_mb (s : State) (l : Nat) (x : SeamLink) : (s.setLink l x).mb = s.mb := rfl
@[simp] theorem State.setLink_thermal (s : State) (l : Nat) (x : SeamLink) : (s.setLink l x).thermal = s.thermal := rfl
@[simp] theorem State.setLink_jtag (s : State) (l : Nat) (x : SeamLink) : (s.setLink l x).jtag = s.jtag := rfl

@[simp] theorem State.setPatch_pending (s : State) (n : Nat) (x : Patch) : (s.setPatch n x).pending = s.pending := rfl
@[simp] theorem State.setPatch_free (s : State) (n : Nat) (x : Patch) : (s.setPatch n x).free = s.free := rfl
@[simp] theorem State.setPatch_out (s : State) (n : Nat) (x : Patch) : (s.setPatch n x).out = s.out := rfl
@[simp] theorem State.setPatch_die (s : State) (n : Nat) (x : Patch) : (s.setPatch n x).die = s.die := rfl
@[simp] theorem State.setPatch_flds (s : State) (n : Nat) (x : Patch) : (s.setPatch n x).flds = s.flds := rfl
@[simp] theorem State.setPatch_objs (s : State) (n : Nat) (x : Patch) : (s.setPatch n x).objs = s.objs := rfl
@[simp] theorem State.setPatch_doms (s : State) (n : Nat) (x : Patch) : (s.setPatch n x).doms = s.doms := rfl
@[simp] theorem State.setPatch_staged (s : State) (n : Nat) (x : Patch) : (s.setPatch n x).staged = s.staged := rfl
@[simp] theorem State.setPatch_latched (s : State) (n : Nat) (x : Patch) : (s.setPatch n x).latched = s.latched := rfl
@[simp] theorem State.setPatch_mem (s : State) (n : Nat) (x : Patch) : (s.setPatch n x).mem = s.mem := rfl
@[simp] theorem State.setPatch_weft (s : State) (n : Nat) (x : Patch) : (s.setPatch n x).weft = s.weft := rfl
@[simp] theorem State.setPatch_protect (s : State) (n : Nat) (x : Patch) : (s.setPatch n x).protect = s.protect := rfl
@[simp] theorem State.setPatch_host (s : State) (n : Nat) (x : Patch) : (s.setPatch n x).host = s.host := rfl
@[simp] theorem State.setPatch_tb (s : State) (n : Nat) (x : Patch) : (s.setPatch n x).tb = s.tb := rfl
@[simp] theorem State.setPatch_engines (s : State) (n : Nat) (x : Patch) : (s.setPatch n x).engines = s.engines := rfl
@[simp] theorem State.setPatch_gussets (s : State) (n : Nat) (x : Patch) : (s.setPatch n x).gussets = s.gussets := rfl
@[simp] theorem State.setPatch_engineEvents (s : State) (n : Nat) (x : Patch) : (s.setPatch n x).engineEvents = s.engineEvents := rfl
@[simp] theorem State.setPatch_sh (s : State) (n : Nat) (x : Patch) : (s.setPatch n x).sh = s.sh := rfl
@[simp] theorem State.setPatch_hem (s : State) (n : Nat) (x : Patch) : (s.setPatch n x).hem = s.hem := rfl
@[simp] theorem State.setPatch_lanes (s : State) (n : Nat) (x : Patch) : (s.setPatch n x).lanes = s.lanes := rfl
@[simp] theorem State.setPatch_fh (s : State) (n : Nat) (x : Patch) : (s.setPatch n x).fh = s.fh := rfl
@[simp] theorem State.setPatch_seam (s : State) (n : Nat) (x : Patch) : (s.setPatch n x).seam = s.seam := rfl
@[simp] theorem State.setPatch_dram (s : State) (n : Nat) (x : Patch) : (s.setPatch n x).dram = s.dram := rfl
@[simp] theorem State.setPatch_dramPorts (s : State) (n : Nat) (x : Patch) : (s.setPatch n x).dramPorts = s.dramPorts := rfl
@[simp] theorem State.setPatch_dma (s : State) (n : Nat) (x : Patch) : (s.setPatch n x).dma = s.dma := rfl
@[simp] theorem State.setPatch_scrub (s : State) (n : Nat) (x : Patch) : (s.setPatch n x).scrub = s.scrub := rfl
@[simp] theorem State.setPatch_keys (s : State) (n : Nat) (x : Patch) : (s.setPatch n x).keys = s.keys := rfl
@[simp] theorem State.setPatch_pm (s : State) (n : Nat) (x : Patch) : (s.setPatch n x).pm = s.pm := rfl
@[simp] theorem State.setPatch_measures (s : State) (n : Nat) (x : Patch) : (s.setPatch n x).measures = s.measures := rfl
@[simp] theorem State.setPatch_changes (s : State) (n : Nat) (x : Patch) : (s.setPatch n x).changes = s.changes := rfl
@[simp] theorem State.setPatch_rws (s : State) (n : Nat) (x : Patch) : (s.setPatch n x).rws = s.rws := rfl
@[simp] theorem State.setPatch_health (s : State) (n : Nat) (x : Patch) : (s.setPatch n x).health = s.health := rfl
@[simp] theorem State.setPatch_boot (s : State) (n : Nat) (x : Patch) : (s.setPatch n x).boot = s.boot := rfl
@[simp] theorem State.setPatch_sessions (s : State) (n : Nat) (x : Patch) : (s.setPatch n x).sessions = s.sessions := rfl
@[simp] theorem State.setPatch_relays (s : State) (n : Nat) (x : Patch) : (s.setPatch n x).relays = s.relays := rfl
@[simp] theorem State.setPatch_mb (s : State) (n : Nat) (x : Patch) : (s.setPatch n x).mb = s.mb := rfl
@[simp] theorem State.setPatch_thermal (s : State) (n : Nat) (x : Patch) : (s.setPatch n x).thermal = s.thermal := rfl
@[simp] theorem State.setPatch_jtag (s : State) (n : Nat) (x : Patch) : (s.setPatch n x).jtag = s.jtag := rfl

@[simp] theorem State.setIsl_pending (s : State) (i : Nat) (x : Isl) : (s.setIsl i x).pending = s.pending := rfl
@[simp] theorem State.setIsl_free (s : State) (i : Nat) (x : Isl) : (s.setIsl i x).free = s.free := rfl
@[simp] theorem State.setIsl_out (s : State) (i : Nat) (x : Isl) : (s.setIsl i x).out = s.out := rfl
@[simp] theorem State.setIsl_die (s : State) (i : Nat) (x : Isl) : (s.setIsl i x).die = s.die := rfl
@[simp] theorem State.setIsl_flds (s : State) (i : Nat) (x : Isl) : (s.setIsl i x).flds = s.flds := rfl
@[simp] theorem State.setIsl_objs (s : State) (i : Nat) (x : Isl) : (s.setIsl i x).objs = s.objs := rfl
@[simp] theorem State.setIsl_doms (s : State) (i : Nat) (x : Isl) : (s.setIsl i x).doms = s.doms := rfl
@[simp] theorem State.setIsl_staged (s : State) (i : Nat) (x : Isl) : (s.setIsl i x).staged = s.staged := rfl
@[simp] theorem State.setIsl_latched (s : State) (i : Nat) (x : Isl) : (s.setIsl i x).latched = s.latched := rfl
@[simp] theorem State.setIsl_mem (s : State) (i : Nat) (x : Isl) : (s.setIsl i x).mem = s.mem := rfl
@[simp] theorem State.setIsl_weft (s : State) (i : Nat) (x : Isl) : (s.setIsl i x).weft = s.weft := rfl
@[simp] theorem State.setIsl_protect (s : State) (i : Nat) (x : Isl) : (s.setIsl i x).protect = s.protect := rfl
@[simp] theorem State.setIsl_host (s : State) (i : Nat) (x : Isl) : (s.setIsl i x).host = s.host := rfl
@[simp] theorem State.setIsl_tb (s : State) (i : Nat) (x : Isl) : (s.setIsl i x).tb = s.tb := rfl
@[simp] theorem State.setIsl_engines (s : State) (i : Nat) (x : Isl) : (s.setIsl i x).engines = s.engines := rfl
@[simp] theorem State.setIsl_gussets (s : State) (i : Nat) (x : Isl) : (s.setIsl i x).gussets = s.gussets := rfl
@[simp] theorem State.setIsl_engineEvents (s : State) (i : Nat) (x : Isl) : (s.setIsl i x).engineEvents = s.engineEvents := rfl
@[simp] theorem State.setIsl_sh (s : State) (i : Nat) (x : Isl) : (s.setIsl i x).sh = s.sh := rfl
@[simp] theorem State.setIsl_hem (s : State) (i : Nat) (x : Isl) : (s.setIsl i x).hem = s.hem := rfl
@[simp] theorem State.setIsl_lanes (s : State) (i : Nat) (x : Isl) : (s.setIsl i x).lanes = s.lanes := rfl
@[simp] theorem State.setIsl_fh (s : State) (i : Nat) (x : Isl) : (s.setIsl i x).fh = s.fh := rfl
@[simp] theorem State.setIsl_seam (s : State) (i : Nat) (x : Isl) : (s.setIsl i x).seam = s.seam := rfl
@[simp] theorem State.setIsl_dram (s : State) (i : Nat) (x : Isl) : (s.setIsl i x).dram = s.dram := rfl
@[simp] theorem State.setIsl_dramPorts (s : State) (i : Nat) (x : Isl) : (s.setIsl i x).dramPorts = s.dramPorts := rfl
@[simp] theorem State.setIsl_dma (s : State) (i : Nat) (x : Isl) : (s.setIsl i x).dma = s.dma := rfl
@[simp] theorem State.setIsl_patches (s : State) (i : Nat) (x : Isl) : (s.setIsl i x).patches = s.patches := rfl
@[simp] theorem State.setIsl_scrub (s : State) (i : Nat) (x : Isl) : (s.setIsl i x).scrub = s.scrub := rfl
@[simp] theorem State.setIsl_keys (s : State) (i : Nat) (x : Isl) : (s.setIsl i x).keys = s.keys := rfl
@[simp] theorem State.setIsl_measures (s : State) (i : Nat) (x : Isl) : (s.setIsl i x).measures = s.measures := rfl
@[simp] theorem State.setIsl_changes (s : State) (i : Nat) (x : Isl) : (s.setIsl i x).changes = s.changes := rfl
@[simp] theorem State.setIsl_rws (s : State) (i : Nat) (x : Isl) : (s.setIsl i x).rws = s.rws := rfl
@[simp] theorem State.setIsl_health (s : State) (i : Nat) (x : Isl) : (s.setIsl i x).health = s.health := rfl
@[simp] theorem State.setIsl_boot (s : State) (i : Nat) (x : Isl) : (s.setIsl i x).boot = s.boot := rfl
@[simp] theorem State.setIsl_sessions (s : State) (i : Nat) (x : Isl) : (s.setIsl i x).sessions = s.sessions := rfl
@[simp] theorem State.setIsl_relays (s : State) (i : Nat) (x : Isl) : (s.setIsl i x).relays = s.relays := rfl
@[simp] theorem State.setIsl_mb (s : State) (i : Nat) (x : Isl) : (s.setIsl i x).mb = s.mb := rfl
@[simp] theorem State.setIsl_thermal (s : State) (i : Nat) (x : Isl) : (s.setIsl i x).thermal = s.thermal := rfl
@[simp] theorem State.setIsl_jtag (s : State) (i : Nat) (x : Isl) : (s.setIsl i x).jtag = s.jtag := rfl

@[simp] theorem State.setMsix_pending (s : State) (f : Nat) (x : Msix) : (s.setMsix f x).pending = s.pending := rfl
@[simp] theorem State.setMsix_free (s : State) (f : Nat) (x : Msix) : (s.setMsix f x).free = s.free := rfl
@[simp] theorem State.setMsix_out (s : State) (f : Nat) (x : Msix) : (s.setMsix f x).out = s.out := rfl
@[simp] theorem State.setMsix_die (s : State) (f : Nat) (x : Msix) : (s.setMsix f x).die = s.die := rfl
@[simp] theorem State.setMsix_flds (s : State) (f : Nat) (x : Msix) : (s.setMsix f x).flds = s.flds := rfl
@[simp] theorem State.setMsix_objs (s : State) (f : Nat) (x : Msix) : (s.setMsix f x).objs = s.objs := rfl
@[simp] theorem State.setMsix_doms (s : State) (f : Nat) (x : Msix) : (s.setMsix f x).doms = s.doms := rfl
@[simp] theorem State.setMsix_staged (s : State) (f : Nat) (x : Msix) : (s.setMsix f x).staged = s.staged := rfl
@[simp] theorem State.setMsix_latched (s : State) (f : Nat) (x : Msix) : (s.setMsix f x).latched = s.latched := rfl
@[simp] theorem State.setMsix_mem (s : State) (f : Nat) (x : Msix) : (s.setMsix f x).mem = s.mem := rfl
@[simp] theorem State.setMsix_weft (s : State) (f : Nat) (x : Msix) : (s.setMsix f x).weft = s.weft := rfl
@[simp] theorem State.setMsix_protect (s : State) (f : Nat) (x : Msix) : (s.setMsix f x).protect = s.protect := rfl
@[simp] theorem State.setMsix_tb (s : State) (f : Nat) (x : Msix) : (s.setMsix f x).tb = s.tb := rfl
@[simp] theorem State.setMsix_engines (s : State) (f : Nat) (x : Msix) : (s.setMsix f x).engines = s.engines := rfl
@[simp] theorem State.setMsix_gussets (s : State) (f : Nat) (x : Msix) : (s.setMsix f x).gussets = s.gussets := rfl
@[simp] theorem State.setMsix_engineEvents (s : State) (f : Nat) (x : Msix) : (s.setMsix f x).engineEvents = s.engineEvents := rfl
@[simp] theorem State.setMsix_sh (s : State) (f : Nat) (x : Msix) : (s.setMsix f x).sh = s.sh := rfl
@[simp] theorem State.setMsix_hem (s : State) (f : Nat) (x : Msix) : (s.setMsix f x).hem = s.hem := rfl
@[simp] theorem State.setMsix_lanes (s : State) (f : Nat) (x : Msix) : (s.setMsix f x).lanes = s.lanes := rfl
@[simp] theorem State.setMsix_fh (s : State) (f : Nat) (x : Msix) : (s.setMsix f x).fh = s.fh := rfl
@[simp] theorem State.setMsix_seam (s : State) (f : Nat) (x : Msix) : (s.setMsix f x).seam = s.seam := rfl
@[simp] theorem State.setMsix_dram (s : State) (f : Nat) (x : Msix) : (s.setMsix f x).dram = s.dram := rfl
@[simp] theorem State.setMsix_dramPorts (s : State) (f : Nat) (x : Msix) : (s.setMsix f x).dramPorts = s.dramPorts := rfl
@[simp] theorem State.setMsix_dma (s : State) (f : Nat) (x : Msix) : (s.setMsix f x).dma = s.dma := rfl
@[simp] theorem State.setMsix_patches (s : State) (f : Nat) (x : Msix) : (s.setMsix f x).patches = s.patches := rfl
@[simp] theorem State.setMsix_scrub (s : State) (f : Nat) (x : Msix) : (s.setMsix f x).scrub = s.scrub := rfl
@[simp] theorem State.setMsix_keys (s : State) (f : Nat) (x : Msix) : (s.setMsix f x).keys = s.keys := rfl
@[simp] theorem State.setMsix_pm (s : State) (f : Nat) (x : Msix) : (s.setMsix f x).pm = s.pm := rfl
@[simp] theorem State.setMsix_measures (s : State) (f : Nat) (x : Msix) : (s.setMsix f x).measures = s.measures := rfl
@[simp] theorem State.setMsix_changes (s : State) (f : Nat) (x : Msix) : (s.setMsix f x).changes = s.changes := rfl
@[simp] theorem State.setMsix_rws (s : State) (f : Nat) (x : Msix) : (s.setMsix f x).rws = s.rws := rfl
@[simp] theorem State.setMsix_health (s : State) (f : Nat) (x : Msix) : (s.setMsix f x).health = s.health := rfl
@[simp] theorem State.setMsix_boot (s : State) (f : Nat) (x : Msix) : (s.setMsix f x).boot = s.boot := rfl
@[simp] theorem State.setMsix_sessions (s : State) (f : Nat) (x : Msix) : (s.setMsix f x).sessions = s.sessions := rfl
@[simp] theorem State.setMsix_relays (s : State) (f : Nat) (x : Msix) : (s.setMsix f x).relays = s.relays := rfl
@[simp] theorem State.setMsix_mb (s : State) (f : Nat) (x : Msix) : (s.setMsix f x).mb = s.mb := rfl
@[simp] theorem State.setMsix_thermal (s : State) (f : Nat) (x : Msix) : (s.setMsix f x).thermal = s.thermal := rfl
@[simp] theorem State.setMsix_jtag (s : State) (f : Nat) (x : Msix) : (s.setMsix f x).jtag = s.jtag := rfl

@[simp] theorem State.setMbSlot_pending (s : State) (k : Nat) (x : MbSlot) : (s.setMbSlot k x).pending = s.pending := rfl
@[simp] theorem State.setMbSlot_free (s : State) (k : Nat) (x : MbSlot) : (s.setMbSlot k x).free = s.free := rfl
@[simp] theorem State.setMbSlot_out (s : State) (k : Nat) (x : MbSlot) : (s.setMbSlot k x).out = s.out := rfl
@[simp] theorem State.setMbSlot_die (s : State) (k : Nat) (x : MbSlot) : (s.setMbSlot k x).die = s.die := rfl
@[simp] theorem State.setMbSlot_flds (s : State) (k : Nat) (x : MbSlot) : (s.setMbSlot k x).flds = s.flds := rfl
@[simp] theorem State.setMbSlot_objs (s : State) (k : Nat) (x : MbSlot) : (s.setMbSlot k x).objs = s.objs := rfl
@[simp] theorem State.setMbSlot_doms (s : State) (k : Nat) (x : MbSlot) : (s.setMbSlot k x).doms = s.doms := rfl
@[simp] theorem State.setMbSlot_staged (s : State) (k : Nat) (x : MbSlot) : (s.setMbSlot k x).staged = s.staged := rfl
@[simp] theorem State.setMbSlot_latched (s : State) (k : Nat) (x : MbSlot) : (s.setMbSlot k x).latched = s.latched := rfl
@[simp] theorem State.setMbSlot_mem (s : State) (k : Nat) (x : MbSlot) : (s.setMbSlot k x).mem = s.mem := rfl
@[simp] theorem State.setMbSlot_weft (s : State) (k : Nat) (x : MbSlot) : (s.setMbSlot k x).weft = s.weft := rfl
@[simp] theorem State.setMbSlot_protect (s : State) (k : Nat) (x : MbSlot) : (s.setMbSlot k x).protect = s.protect := rfl
@[simp] theorem State.setMbSlot_host (s : State) (k : Nat) (x : MbSlot) : (s.setMbSlot k x).host = s.host := rfl
@[simp] theorem State.setMbSlot_tb (s : State) (k : Nat) (x : MbSlot) : (s.setMbSlot k x).tb = s.tb := rfl
@[simp] theorem State.setMbSlot_engines (s : State) (k : Nat) (x : MbSlot) : (s.setMbSlot k x).engines = s.engines := rfl
@[simp] theorem State.setMbSlot_gussets (s : State) (k : Nat) (x : MbSlot) : (s.setMbSlot k x).gussets = s.gussets := rfl
@[simp] theorem State.setMbSlot_engineEvents (s : State) (k : Nat) (x : MbSlot) : (s.setMbSlot k x).engineEvents = s.engineEvents := rfl
@[simp] theorem State.setMbSlot_sh (s : State) (k : Nat) (x : MbSlot) : (s.setMbSlot k x).sh = s.sh := rfl
@[simp] theorem State.setMbSlot_hem (s : State) (k : Nat) (x : MbSlot) : (s.setMbSlot k x).hem = s.hem := rfl
@[simp] theorem State.setMbSlot_lanes (s : State) (k : Nat) (x : MbSlot) : (s.setMbSlot k x).lanes = s.lanes := rfl
@[simp] theorem State.setMbSlot_fh (s : State) (k : Nat) (x : MbSlot) : (s.setMbSlot k x).fh = s.fh := rfl
@[simp] theorem State.setMbSlot_seam (s : State) (k : Nat) (x : MbSlot) : (s.setMbSlot k x).seam = s.seam := rfl
@[simp] theorem State.setMbSlot_dram (s : State) (k : Nat) (x : MbSlot) : (s.setMbSlot k x).dram = s.dram := rfl
@[simp] theorem State.setMbSlot_dramPorts (s : State) (k : Nat) (x : MbSlot) : (s.setMbSlot k x).dramPorts = s.dramPorts := rfl
@[simp] theorem State.setMbSlot_dma (s : State) (k : Nat) (x : MbSlot) : (s.setMbSlot k x).dma = s.dma := rfl
@[simp] theorem State.setMbSlot_patches (s : State) (k : Nat) (x : MbSlot) : (s.setMbSlot k x).patches = s.patches := rfl
@[simp] theorem State.setMbSlot_scrub (s : State) (k : Nat) (x : MbSlot) : (s.setMbSlot k x).scrub = s.scrub := rfl
@[simp] theorem State.setMbSlot_keys (s : State) (k : Nat) (x : MbSlot) : (s.setMbSlot k x).keys = s.keys := rfl
@[simp] theorem State.setMbSlot_pm (s : State) (k : Nat) (x : MbSlot) : (s.setMbSlot k x).pm = s.pm := rfl
@[simp] theorem State.setMbSlot_measures (s : State) (k : Nat) (x : MbSlot) : (s.setMbSlot k x).measures = s.measures := rfl
@[simp] theorem State.setMbSlot_changes (s : State) (k : Nat) (x : MbSlot) : (s.setMbSlot k x).changes = s.changes := rfl
@[simp] theorem State.setMbSlot_rws (s : State) (k : Nat) (x : MbSlot) : (s.setMbSlot k x).rws = s.rws := rfl
@[simp] theorem State.setMbSlot_health (s : State) (k : Nat) (x : MbSlot) : (s.setMbSlot k x).health = s.health := rfl
@[simp] theorem State.setMbSlot_boot (s : State) (k : Nat) (x : MbSlot) : (s.setMbSlot k x).boot = s.boot := rfl
@[simp] theorem State.setMbSlot_sessions (s : State) (k : Nat) (x : MbSlot) : (s.setMbSlot k x).sessions = s.sessions := rfl
@[simp] theorem State.setMbSlot_relays (s : State) (k : Nat) (x : MbSlot) : (s.setMbSlot k x).relays = s.relays := rfl
@[simp] theorem State.setMbSlot_thermal (s : State) (k : Nat) (x : MbSlot) : (s.setMbSlot k x).thermal = s.thermal := rfl
@[simp] theorem State.setMbSlot_jtag (s : State) (k : Nat) (x : MbSlot) : (s.setMbSlot k x).jtag = s.jtag := rfl

@[simp] theorem State.send_out (s : State) (m : Msg) : (s.send m).out = m :: s.out := rfl
@[simp] theorem State.fresh_free (s : State) : s.fresh.free = s.free + 1 := rfl

/-- A field reads only the register part. -/
theorem State.rf_congr {s t : State} (h : t.flds = s.flds) (f : Fld) (i : Nat) : t.rf f i = s.rf f i := by
  simp only [State.rf, h]

/-- An object reads only the object part. -/
theorem State.ob_congr {s t : State} (h : t.objs = s.objs) (o : Obj) (i : Nat) : t.ob o i = s.ob o i := by
  simp only [State.ob, h]

/-- A field written reads what was written, cut to its width. -/
@[simp] theorem State.rf_sf (s : State) (f : Fld) (i v : Nat) : (s.sf f i v).rf f i = v % 2 ^ f.width := by
  simp [State.rf, State.sf]

/-- A field written is unchanged at every other index. -/
theorem State.rf_sf_index (s : State) (f : Fld) {i j : Nat} (v : Nat) (h : i ≠ j) : (s.sf f i v).rf f j = s.rf f j := by
  have : f.key j ≠ f.key i := by simp only [Fld.key]; omega
  simp [State.rf, State.sf, Tab.get_set, this]

/-- Another field is unchanged. -/
theorem State.rf_sf_other (s : State) {f g : Fld} (i j v : Nat) (h : f.id % 1024 ≠ g.id % 1024) :
    (s.sf f i v).rf g j = s.rf g j := by
  have : g.key j ≠ f.key i := by simp only [Fld.key]; omega
  simp [State.rf, State.sf, Tab.get_set, this]

@[simp] theorem State.rf_send (s : State) (m : Msg) (f : Fld) (i : Nat) : (s.send m).rf f i = s.rf f i := rfl
@[simp] theorem State.ob_send (s : State) (m : Msg) (o : Obj) (i : Nat) : (s.send m).ob o i = s.ob o i := rfl
@[simp] theorem State.ob_sf (s : State) (f : Fld) (k v : Nat) (o : Obj) (i : Nat) : (s.sf f k v).ob o i = s.ob o i := rfl
@[simp] theorem State.rf_fresh (s : State) (f : Fld) (i : Nat) : s.fresh.rf f i = s.rf f i := rfl
@[simp] theorem State.ob_fresh (s : State) (o : Obj) (i : Nat) : s.fresh.ob o i = s.ob o i := rfl

theorem State.clearf_eq (s : State) (f : Fld) (i : Nat) : s.clearf f i = s.sf f i (f.resetAt i) := rfl

/-! ## Objects -/

/-- A commit writes no register. -/
@[simp] theorem State.flds_commit (s : State) (o : Obj) (i : Nat) (v : List Byte) : (s.commit o i v).flds = s.flds := by
  unfold State.commit; split <;> rfl

@[simp] theorem State.flds_so (s : State) (o : Obj) (i v : Nat) : (s.so o i v).flds = s.flds := by
  unfold State.so; split <;> simp [State.touch]

@[simp] theorem State.rf_so (s : State) (o : Obj) (i v : Nat) (f : Fld) (j : Nat) : (s.so o i v).rf f j = s.rf f j :=
  State.rf_congr (State.flds_so s o i v) f j

/-- A commit changes no object but the two that count the journal. -/
theorem State.ob_commit (s : State) (o : Obj) (i : Nat) (v : List Byte) (p : Obj) (j : Nat)
    (h1 : p.key j ≠ Ob.oSTORE_COMMITS.key 0) (h2 : p.key j ≠ Ob.oSTORE_JOURNAL_USED.key 0) :
    (s.commit o i v).ob p j = s.ob p j := by
  unfold State.commit
  split
  · rfl
  · simp [State.ob, Tab.get_set, h1, h2]

/-- An object written reads what was written. -/
theorem State.ob_so (s : State) (o : Obj) (i v : Nat)
    (h1 : o.key i ≠ Ob.oSTORE_COMMITS.key 0) (h2 : o.key i ≠ Ob.oSTORE_JOURNAL_USED.key 0) : (s.so o i v).ob o i = v := by
  unfold State.so
  dsimp only
  rw [State.ob_commit _ _ _ _ _ _ h1 h2]
  split <;> simp [State.ob, State.touch]

/-- Every other object is unchanged, but the two that count the journal. -/
theorem State.ob_so_other (s : State) (o : Obj) (i v : Nat) (p : Obj) (j : Nat) (h : p.key j ≠ o.key i)
    (h1 : p.key j ≠ Ob.oSTORE_COMMITS.key 0) (h2 : p.key j ≠ Ob.oSTORE_JOURNAL_USED.key 0) :
    (s.so o i v).ob p j = s.ob p j := by
  unfold State.so
  dsimp only
  rw [State.ob_commit _ _ _ _ _ _ h1 h2]
  split <;> simp [State.ob, State.touch, Tab.get_set, h]

/-! ## Events -/

@[simp] theorem State.flds_setMsix (s : State) (f : Nat) (x : Msix) : (s.setMsix f x).flds = s.flds := rfl

/-- A request to the host writes no register. -/
@[simp] theorem State.flds_hostRequest (s : State) (r : HeldRequest) : (s.hostRequest r).flds = s.flds := by
  unfold State.hostRequest
  split
  · split <;> rfl
  · rfl

@[simp] theorem State.flds_sendVector (s : State) (f v : Nat) : (s.sendVector f v).flds = s.flds := by
  unfold State.sendVector
  split
  · rfl
  · dsimp only
    repeat' (first | rfl | rw [State.flds_hostRequest] | split)

@[simp] theorem State.flds_tellThimble (s : State) (e info : Nat) : (s.tellThimble e info).flds = s.flds := by
  unfold State.tellThimble
  repeat' (first | rfl | split)

@[simp] theorem State.flds_post (s : State) (n : Nat) (b : SeamBody) : (s.post n b).flds = s.flds := by
  unfold State.post State.postUnit
  dsimp only
  split <;> split <;> rfl

/-- Raising an event writes no register but its pending bit. -/
theorem State.flds_raise (s : State) (e info : Nat) :
    (s.raise e info).flds =
      (s.sf Reg.EVR_PEND_PEND (e / 32) (s.rf Reg.EVR_PEND_PEND (e / 32) ||| 2 ^ (e % 32))).flds := by
  have h : ∀ (b : Bool) (t : State), (if b = true then t.tellThimble e info else t).flds = t.flds := by
    intro b t; cases b <;> simp
  unfold State.raise
  dsimp only
  split
  · rw [State.flds_sendVector]; exact h _ _
  · exact h _ _
  · rw [State.flds_post]; exact h _ _
  · exact h _ _

/-- A field other than the pending bits is unchanged when an event is raised. -/
theorem State.rf_raise (s : State) (e info : Nat) {f : Fld} (i : Nat) (h : f.id % 1024 ≠ Reg.EVR_PEND_PEND.id % 1024) :
    (s.raise e info).rf f i = s.rf f i := by
  rw [State.rf_congr (State.flds_raise s e info), State.rf_sf_other _ _ _ _ h.symm]

/-- An event raised is pending. -/
theorem State.pend_raise (s : State) (e info : Nat) :
    natBit ((s.raise e info).rf Reg.EVR_PEND_PEND (e / 32)) (e % 32) = true := by
  rw [State.rf_congr (State.flds_raise s e info), State.rf_sf]
  have : Reg.EVR_PEND_PEND.width = 32 := rfl
  have hl : e % 32 < 32 := Nat.mod_lt _ (by decide)
  rw [natBit, this, Nat.testBit_mod_two_pow, Nat.testBit_or, Nat.testBit_two_pow_self]
  simp [hl]

@[simp] theorem State.objs_commit_of_not (s : State) (o : Obj) (i : Nat) (v : List Byte) (h : o.persistent = false) :
    s.commit o i v = s := by
  unfold State.commit; simp [h]


end Sys2Proof.Machine
end

