-- ==== Sys2Proof/Laws/Raise.lean ====
section
/-!
SUPPORT. What raising an event and setting an object leave as they are, part by part.
-/

namespace Sys2Proof.Machine

@[simp] theorem State.raise_pending (s : State) (e i : Nat) : (s.raise e i).pending = s.pending :=
  (State.raise_keep (wr := 4297134100) s e i (Keep.refl s) rfl).same .pending rfl
@[simp] theorem State.raise_free (s : State) (e i : Nat) : (s.raise e i).free = s.free :=
  (State.raise_keep (wr := 4297134100) s e i (Keep.refl s) rfl).same .free rfl
@[simp] theorem State.raise_die (s : State) (e i : Nat) : (s.raise e i).die = s.die :=
  (State.raise_keep (wr := 4297134100) s e i (Keep.refl s) rfl).same .die rfl
@[simp] theorem State.raise_objs (s : State) (e i : Nat) : (s.raise e i).objs = s.objs :=
  (State.raise_keep (wr := 4297134100) s e i (Keep.refl s) rfl).same .objs rfl
@[simp] theorem State.raise_doms (s : State) (e i : Nat) : (s.raise e i).doms = s.doms :=
  (State.raise_keep (wr := 4297134100) s e i (Keep.refl s) rfl).same .doms rfl
@[simp] theorem State.raise_staged (s : State) (e i : Nat) : (s.raise e i).staged = s.staged :=
  (State.raise_keep (wr := 4297134100) s e i (Keep.refl s) rfl).same .staged rfl
@[simp] theorem State.raise_latched (s : State) (e i : Nat) : (s.raise e i).latched = s.latched :=
  (State.raise_keep (wr := 4297134100) s e i (Keep.refl s) rfl).same .latched rfl
@[simp] theorem State.raise_mem (s : State) (e i : Nat) : (s.raise e i).mem = s.mem :=
  (State.raise_keep (wr := 4297134100) s e i (Keep.refl s) rfl).same .mem rfl
@[simp] theorem State.raise_weft (s : State) (e i : Nat) : (s.raise e i).weft = s.weft :=
  (State.raise_keep (wr := 4297134100) s e i (Keep.refl s) rfl).same .weft rfl
@[simp] theorem State.raise_protect (s : State) (e i : Nat) : (s.raise e i).protect = s.protect :=
  (State.raise_keep (wr := 4297134100) s e i (Keep.refl s) rfl).same .protect rfl
@[simp] theorem State.raise_tb (s : State) (e i : Nat) : (s.raise e i).tb = s.tb :=
  (State.raise_keep (wr := 4297134100) s e i (Keep.refl s) rfl).same .tb rfl
@[simp] theorem State.raise_engines (s : State) (e i : Nat) : (s.raise e i).engines = s.engines :=
  (State.raise_keep (wr := 4297134100) s e i (Keep.refl s) rfl).same .engines rfl
@[simp] theorem State.raise_gussets (s : State) (e i : Nat) : (s.raise e i).gussets = s.gussets :=
  (State.raise_keep (wr := 4297134100) s e i (Keep.refl s) rfl).same .gussets rfl
@[simp] theorem State.raise_sh (s : State) (e i : Nat) : (s.raise e i).sh = s.sh :=
  (State.raise_keep (wr := 4297134100) s e i (Keep.refl s) rfl).same .sh rfl
@[simp] theorem State.raise_hem (s : State) (e i : Nat) : (s.raise e i).hem = s.hem :=
  (State.raise_keep (wr := 4297134100) s e i (Keep.refl s) rfl).same .hem rfl
@[simp] theorem State.raise_lanes (s : State) (e i : Nat) : (s.raise e i).lanes = s.lanes :=
  (State.raise_keep (wr := 4297134100) s e i (Keep.refl s) rfl).same .lanes rfl
@[simp] theorem State.raise_fh (s : State) (e i : Nat) : (s.raise e i).fh = s.fh :=
  (State.raise_keep (wr := 4297134100) s e i (Keep.refl s) rfl).same .fh rfl
@[simp] theorem State.raise_dram (s : State) (e i : Nat) : (s.raise e i).dram = s.dram :=
  (State.raise_keep (wr := 4297134100) s e i (Keep.refl s) rfl).same .dram rfl
@[simp] theorem State.raise_dramPorts (s : State) (e i : Nat) : (s.raise e i).dramPorts = s.dramPorts :=
  (State.raise_keep (wr := 4297134100) s e i (Keep.refl s) rfl).same .dramPorts rfl
@[simp] theorem State.raise_dma (s : State) (e i : Nat) : (s.raise e i).dma = s.dma :=
  (State.raise_keep (wr := 4297134100) s e i (Keep.refl s) rfl).same .dma rfl
@[simp] theorem State.raise_patches (s : State) (e i : Nat) : (s.raise e i).patches = s.patches :=
  (State.raise_keep (wr := 4297134100) s e i (Keep.refl s) rfl).same .patches rfl
@[simp] theorem State.raise_scrub (s : State) (e i : Nat) : (s.raise e i).scrub = s.scrub :=
  (State.raise_keep (wr := 4297134100) s e i (Keep.refl s) rfl).same .scrub rfl
@[simp] theorem State.raise_keys (s : State) (e i : Nat) : (s.raise e i).keys = s.keys :=
  (State.raise_keep (wr := 4297134100) s e i (Keep.refl s) rfl).same .keys rfl
@[simp] theorem State.raise_pm (s : State) (e i : Nat) : (s.raise e i).pm = s.pm :=
  (State.raise_keep (wr := 4297134100) s e i (Keep.refl s) rfl).same .pm rfl
@[simp] theorem State.raise_measures (s : State) (e i : Nat) : (s.raise e i).measures = s.measures :=
  (State.raise_keep (wr := 4297134100) s e i (Keep.refl s) rfl).same .measures rfl
@[simp] theorem State.raise_changes (s : State) (e i : Nat) : (s.raise e i).changes = s.changes :=
  (State.raise_keep (wr := 4297134100) s e i (Keep.refl s) rfl).same .changes rfl
@[simp] theorem State.raise_rws (s : State) (e i : Nat) : (s.raise e i).rws = s.rws :=
  (State.raise_keep (wr := 4297134100) s e i (Keep.refl s) rfl).same .rws rfl
@[simp] theorem State.raise_boot (s : State) (e i : Nat) : (s.raise e i).boot = s.boot :=
  (State.raise_keep (wr := 4297134100) s e i (Keep.refl s) rfl).same .boot rfl
@[simp] theorem State.raise_sessions (s : State) (e i : Nat) : (s.raise e i).sessions = s.sessions :=
  (State.raise_keep (wr := 4297134100) s e i (Keep.refl s) rfl).same .sessions rfl
@[simp] theorem State.raise_relays (s : State) (e i : Nat) : (s.raise e i).relays = s.relays :=
  (State.raise_keep (wr := 4297134100) s e i (Keep.refl s) rfl).same .relays rfl
@[simp] theorem State.raise_mb (s : State) (e i : Nat) : (s.raise e i).mb = s.mb :=
  (State.raise_keep (wr := 4297134100) s e i (Keep.refl s) rfl).same .mb rfl
@[simp] theorem State.raise_thermal (s : State) (e i : Nat) : (s.raise e i).thermal = s.thermal :=
  (State.raise_keep (wr := 4297134100) s e i (Keep.refl s) rfl).same .thermal rfl
@[simp] theorem State.raise_jtag (s : State) (e i : Nat) : (s.raise e i).jtag = s.jtag :=
  (State.raise_keep (wr := 4297134100) s e i (Keep.refl s) rfl).same .jtag rfl

@[simp] theorem State.ob_raise (s : State) (e i : Nat) (o : Obj) (k : Nat) : (s.raise e i).ob o k = s.ob o k :=
  State.ob_congr (State.raise_objs s e i) o k

/-- An event raised is pending. -/
@[simp] theorem State.Pending_raise (s : State) (e i : Nat) : (s.raise e i).Pending e := State.pend_raise s e i

/-- A field written leaves the pending bits. -/
theorem State.Pending_sf (s : State) (f : Fld) (i v e : Nat) (h : f.id % 1024 ≠ Reg.EVR_PEND_PEND.id % 1024) :
    (s.sf f i v).Pending e ↔ s.Pending e := by
  unfold State.Pending
  rw [State.rf_sf_other _ _ _ _ h]

/-- What is pending reads the registers only. -/
theorem State.Pending_congr {s t : State} (h : t.flds = s.flds) (e : Nat) : t.Pending e ↔ s.Pending e := by
  unfold State.Pending
  rw [State.rf_congr h]

/-- Another event stays pending when one is raised. -/
theorem State.Pending_mono (s : State) (e i d : Nat) (h : s.Pending d) : (s.raise e i).Pending d := by
  unfold State.Pending at *
  rw [State.rf_congr (State.flds_raise s e i)]
  by_cases hd : d / 32 = e / 32
  · rw [hd, State.rf_sf, natBit, Nat.testBit_mod_two_pow, Nat.testBit_or]
    rw [hd, natBit] at h
    have : d % 32 < 32 := Nat.mod_lt _ (by decide)
    have hw : Reg.EVR_PEND_PEND.width = 32 := rfl
    simp [h, hw, this]
  · rw [State.rf_sf_index _ _ _ (Ne.symm hd)]; exact h

/-! ## What so leaves -/

@[simp] theorem State.so_pending (s : State) (o : Obj) (i v : Nat) : (s.so o i v).pending = s.pending :=
  (State.so_keep (wr := 9663676448) s o i v (Keep.refl s) rfl).same .pending rfl
@[simp] theorem State.so_free (s : State) (o : Obj) (i v : Nat) : (s.so o i v).free = s.free :=
  (State.so_keep (wr := 9663676448) s o i v (Keep.refl s) rfl).same .free rfl
@[simp] theorem State.so_out (s : State) (o : Obj) (i v : Nat) : (s.so o i v).out = s.out :=
  (State.so_keep (wr := 9663676448) s o i v (Keep.refl s) rfl).same .out rfl
@[simp] theorem State.so_die (s : State) (o : Obj) (i v : Nat) : (s.so o i v).die = s.die :=
  (State.so_keep (wr := 9663676448) s o i v (Keep.refl s) rfl).same .die rfl
@[simp] theorem State.so_doms (s : State) (o : Obj) (i v : Nat) : (s.so o i v).doms = s.doms :=
  (State.so_keep (wr := 9663676448) s o i v (Keep.refl s) rfl).same .doms rfl
@[simp] theorem State.so_staged (s : State) (o : Obj) (i v : Nat) : (s.so o i v).staged = s.staged :=
  (State.so_keep (wr := 9663676448) s o i v (Keep.refl s) rfl).same .staged rfl
@[simp] theorem State.so_latched (s : State) (o : Obj) (i v : Nat) : (s.so o i v).latched = s.latched :=
  (State.so_keep (wr := 9663676448) s o i v (Keep.refl s) rfl).same .latched rfl
@[simp] theorem State.so_mem (s : State) (o : Obj) (i v : Nat) : (s.so o i v).mem = s.mem :=
  (State.so_keep (wr := 9663676448) s o i v (Keep.refl s) rfl).same .mem rfl
@[simp] theorem State.so_weft (s : State) (o : Obj) (i v : Nat) : (s.so o i v).weft = s.weft :=
  (State.so_keep (wr := 9663676448) s o i v (Keep.refl s) rfl).same .weft rfl
@[simp] theorem State.so_protect (s : State) (o : Obj) (i v : Nat) : (s.so o i v).protect = s.protect :=
  (State.so_keep (wr := 9663676448) s o i v (Keep.refl s) rfl).same .protect rfl
@[simp] theorem State.so_host (s : State) (o : Obj) (i v : Nat) : (s.so o i v).host = s.host :=
  (State.so_keep (wr := 9663676448) s o i v (Keep.refl s) rfl).same .host rfl
@[simp] theorem State.so_tb (s : State) (o : Obj) (i v : Nat) : (s.so o i v).tb = s.tb :=
  (State.so_keep (wr := 9663676448) s o i v (Keep.refl s) rfl).same .tb rfl
@[simp] theorem State.so_engines (s : State) (o : Obj) (i v : Nat) : (s.so o i v).engines = s.engines :=
  (State.so_keep (wr := 9663676448) s o i v (Keep.refl s) rfl).same .engines rfl
@[simp] theorem State.so_gussets (s : State) (o : Obj) (i v : Nat) : (s.so o i v).gussets = s.gussets :=
  (State.so_keep (wr := 9663676448) s o i v (Keep.refl s) rfl).same .gussets rfl
@[simp] theorem State.so_engineEvents (s : State) (o : Obj) (i v : Nat) : (s.so o i v).engineEvents = s.engineEvents :=
  (State.so_keep (wr := 9663676448) s o i v (Keep.refl s) rfl).same .engineEvents rfl
@[simp] theorem State.so_sh (s : State) (o : Obj) (i v : Nat) : (s.so o i v).sh = s.sh :=
  (State.so_keep (wr := 9663676448) s o i v (Keep.refl s) rfl).same .sh rfl
@[simp] theorem State.so_hem (s : State) (o : Obj) (i v : Nat) : (s.so o i v).hem = s.hem :=
  (State.so_keep (wr := 9663676448) s o i v (Keep.refl s) rfl).same .hem rfl
@[simp] theorem State.so_lanes (s : State) (o : Obj) (i v : Nat) : (s.so o i v).lanes = s.lanes :=
  (State.so_keep (wr := 9663676448) s o i v (Keep.refl s) rfl).same .lanes rfl
@[simp] theorem State.so_fh (s : State) (o : Obj) (i v : Nat) : (s.so o i v).fh = s.fh :=
  (State.so_keep (wr := 9663676448) s o i v (Keep.refl s) rfl).same .fh rfl
@[simp] theorem State.so_seam (s : State) (o : Obj) (i v : Nat) : (s.so o i v).seam = s.seam :=
  (State.so_keep (wr := 9663676448) s o i v (Keep.refl s) rfl).same .seam rfl
@[simp] theorem State.so_dram (s : State) (o : Obj) (i v : Nat) : (s.so o i v).dram = s.dram :=
  (State.so_keep (wr := 9663676448) s o i v (Keep.refl s) rfl).same .dram rfl
@[simp] theorem State.so_dramPorts (s : State) (o : Obj) (i v : Nat) : (s.so o i v).dramPorts = s.dramPorts :=
  (State.so_keep (wr := 9663676448) s o i v (Keep.refl s) rfl).same .dramPorts rfl
@[simp] theorem State.so_dma (s : State) (o : Obj) (i v : Nat) : (s.so o i v).dma = s.dma :=
  (State.so_keep (wr := 9663676448) s o i v (Keep.refl s) rfl).same .dma rfl
@[simp] theorem State.so_patches (s : State) (o : Obj) (i v : Nat) : (s.so o i v).patches = s.patches :=
  (State.so_keep (wr := 9663676448) s o i v (Keep.refl s) rfl).same .patches rfl
@[simp] theorem State.so_scrub (s : State) (o : Obj) (i v : Nat) : (s.so o i v).scrub = s.scrub :=
  (State.so_keep (wr := 9663676448) s o i v (Keep.refl s) rfl).same .scrub rfl
@[simp] theorem State.so_keys (s : State) (o : Obj) (i v : Nat) : (s.so o i v).keys = s.keys :=
  (State.so_keep (wr := 9663676448) s o i v (Keep.refl s) rfl).same .keys rfl
@[simp] theorem State.so_pm (s : State) (o : Obj) (i v : Nat) : (s.so o i v).pm = s.pm :=
  (State.so_keep (wr := 9663676448) s o i v (Keep.refl s) rfl).same .pm rfl
@[simp] theorem State.so_measures (s : State) (o : Obj) (i v : Nat) : (s.so o i v).measures = s.measures :=
  (State.so_keep (wr := 9663676448) s o i v (Keep.refl s) rfl).same .measures rfl
@[simp] theorem State.so_rws (s : State) (o : Obj) (i v : Nat) : (s.so o i v).rws = s.rws :=
  (State.so_keep (wr := 9663676448) s o i v (Keep.refl s) rfl).same .rws rfl
@[simp] theorem State.so_health (s : State) (o : Obj) (i v : Nat) : (s.so o i v).health = s.health :=
  (State.so_keep (wr := 9663676448) s o i v (Keep.refl s) rfl).same .health rfl
@[simp] theorem State.so_sessions (s : State) (o : Obj) (i v : Nat) : (s.so o i v).sessions = s.sessions :=
  (State.so_keep (wr := 9663676448) s o i v (Keep.refl s) rfl).same .sessions rfl
@[simp] theorem State.so_relays (s : State) (o : Obj) (i v : Nat) : (s.so o i v).relays = s.relays :=
  (State.so_keep (wr := 9663676448) s o i v (Keep.refl s) rfl).same .relays rfl
@[simp] theorem State.so_mb (s : State) (o : Obj) (i v : Nat) : (s.so o i v).mb = s.mb :=
  (State.so_keep (wr := 9663676448) s o i v (Keep.refl s) rfl).same .mb rfl
@[simp] theorem State.so_thermal (s : State) (o : Obj) (i v : Nat) : (s.so o i v).thermal = s.thermal :=
  (State.so_keep (wr := 9663676448) s o i v (Keep.refl s) rfl).same .thermal rfl
@[simp] theorem State.so_jtag (s : State) (o : Obj) (i v : Nat) : (s.so o i v).jtag = s.jtag :=
  (State.so_keep (wr := 9663676448) s o i v (Keep.refl s) rfl).same .jtag rfl

/-! ## What sdom leaves -/

@[simp] theorem State.sdom_pending (s : State) (o : Obj) (i : Nat) (v : List Byte) : (s.sdom o i v).pending = s.pending :=
  (State.sdom_keep (wr := 9663676512) s o i v (Keep.refl s) rfl).same .pending rfl
@[simp] theorem State.sdom_free (s : State) (o : Obj) (i : Nat) (v : List Byte) : (s.sdom o i v).free = s.free :=
  (State.sdom_keep (wr := 9663676512) s o i v (Keep.refl s) rfl).same .free rfl
@[simp] theorem State.sdom_out (s : State) (o : Obj) (i : Nat) (v : List Byte) : (s.sdom o i v).out = s.out :=
  (State.sdom_keep (wr := 9663676512) s o i v (Keep.refl s) rfl).same .out rfl
@[simp] theorem State.sdom_die (s : State) (o : Obj) (i : Nat) (v : List Byte) : (s.sdom o i v).die = s.die :=
  (State.sdom_keep (wr := 9663676512) s o i v (Keep.refl s) rfl).same .die rfl
@[simp] theorem State.sdom_flds (s : State) (o : Obj) (i : Nat) (v : List Byte) : (s.sdom o i v).flds = s.flds :=
  (State.sdom_keep (wr := 9663676512) s o i v (Keep.refl s) rfl).same .flds rfl
@[simp] theorem State.sdom_staged (s : State) (o : Obj) (i : Nat) (v : List Byte) : (s.sdom o i v).staged = s.staged :=
  (State.sdom_keep (wr := 9663676512) s o i v (Keep.refl s) rfl).same .staged rfl
@[simp] theorem State.sdom_latched (s : State) (o : Obj) (i : Nat) (v : List Byte) : (s.sdom o i v).latched = s.latched :=
  (State.sdom_keep (wr := 9663676512) s o i v (Keep.refl s) rfl).same .latched rfl
@[simp] theorem State.sdom_mem (s : State) (o : Obj) (i : Nat) (v : List Byte) : (s.sdom o i v).mem = s.mem :=
  (State.sdom_keep (wr := 9663676512) s o i v (Keep.refl s) rfl).same .mem rfl
@[simp] theorem State.sdom_weft (s : State) (o : Obj) (i : Nat) (v : List Byte) : (s.sdom o i v).weft = s.weft :=
  (State.sdom_keep (wr := 9663676512) s o i v (Keep.refl s) rfl).same .weft rfl
@[simp] theorem State.sdom_protect (s : State) (o : Obj) (i : Nat) (v : List Byte) : (s.sdom o i v).protect = s.protect :=
  (State.sdom_keep (wr := 9663676512) s o i v (Keep.refl s) rfl).same .protect rfl
@[simp] theorem State.sdom_host (s : State) (o : Obj) (i : Nat) (v : List Byte) : (s.sdom o i v).host = s.host :=
  (State.sdom_keep (wr := 9663676512) s o i v (Keep.refl s) rfl).same .host rfl
@[simp] theorem State.sdom_tb (s : State) (o : Obj) (i : Nat) (v : List Byte) : (s.sdom o i v).tb = s.tb :=
  (State.sdom_keep (wr := 9663676512) s o i v (Keep.refl s) rfl).same .tb rfl
@[simp] theorem State.sdom_engines (s : State) (o : Obj) (i : Nat) (v : List Byte) : (s.sdom o i v).engines = s.engines :=
  (State.sdom_keep (wr := 9663676512) s o i v (Keep.refl s) rfl).same .engines rfl
@[simp] theorem State.sdom_gussets (s : State) (o : Obj) (i : Nat) (v : List Byte) : (s.sdom o i v).gussets = s.gussets :=
  (State.sdom_keep (wr := 9663676512) s o i v (Keep.refl s) rfl).same .gussets rfl
@[simp] theorem State.sdom_engineEvents (s : State) (o : Obj) (i : Nat) (v : List Byte) : (s.sdom o i v).engineEvents = s.engineEvents :=
  (State.sdom_keep (wr := 9663676512) s o i v (Keep.refl s) rfl).same .engineEvents rfl
@[simp] theorem State.sdom_sh (s : State) (o : Obj) (i : Nat) (v : List Byte) : (s.sdom o i v).sh = s.sh :=
  (State.sdom_keep (wr := 9663676512) s o i v (Keep.refl s) rfl).same .sh rfl
@[simp] theorem State.sdom_hem (s : State) (o : Obj) (i : Nat) (v : List Byte) : (s.sdom o i v).hem = s.hem :=
  (State.sdom_keep (wr := 9663676512) s o i v (Keep.refl s) rfl).same .hem rfl
@[simp] theorem State.sdom_lanes (s : State) (o : Obj) (i : Nat) (v : List Byte) : (s.sdom o i v).lanes = s.lanes :=
  (State.sdom_keep (wr := 9663676512) s o i v (Keep.refl s) rfl).same .lanes rfl
@[simp] theorem State.sdom_fh (s : State) (o : Obj) (i : Nat) (v : List Byte) : (s.sdom o i v).fh = s.fh :=
  (State.sdom_keep (wr := 9663676512) s o i v (Keep.refl s) rfl).same .fh rfl
@[simp] theorem State.sdom_seam (s : State) (o : Obj) (i : Nat) (v : List Byte) : (s.sdom o i v).seam = s.seam :=
  (State.sdom_keep (wr := 9663676512) s o i v (Keep.refl s) rfl).same .seam rfl
@[simp] theorem State.sdom_dram (s : State) (o : Obj) (i : Nat) (v : List Byte) : (s.sdom o i v).dram = s.dram :=
  (State.sdom_keep (wr := 9663676512) s o i v (Keep.refl s) rfl).same .dram rfl
@[simp] theorem State.sdom_dramPorts (s : State) (o : Obj) (i : Nat) (v : List Byte) : (s.sdom o i v).dramPorts = s.dramPorts :=
  (State.sdom_keep (wr := 9663676512) s o i v (Keep.refl s) rfl).same .dramPorts rfl
@[simp] theorem State.sdom_dma (s : State) (o : Obj) (i : Nat) (v : List Byte) : (s.sdom o i v).dma = s.dma :=
  (State.sdom_keep (wr := 9663676512) s o i v (Keep.refl s) rfl).same .dma rfl
@[simp] theorem State.sdom_patches (s : State) (o : Obj) (i : Nat) (v : List Byte) : (s.sdom o i v).patches = s.patches :=
  (State.sdom_keep (wr := 9663676512) s o i v (Keep.refl s) rfl).same .patches rfl
@[simp] theorem State.sdom_scrub (s : State) (o : Obj) (i : Nat) (v : List Byte) : (s.sdom o i v).scrub = s.scrub :=
  (State.sdom_keep (wr := 9663676512) s o i v (Keep.refl s) rfl).same .scrub rfl
@[simp] theorem State.sdom_keys (s : State) (o : Obj) (i : Nat) (v : List Byte) : (s.sdom o i v).keys = s.keys :=
  (State.sdom_keep (wr := 9663676512) s o i v (Keep.refl s) rfl).same .keys rfl
@[simp] theorem State.sdom_pm (s : State) (o : Obj) (i : Nat) (v : List Byte) : (s.sdom o i v).pm = s.pm :=
  (State.sdom_keep (wr := 9663676512) s o i v (Keep.refl s) rfl).same .pm rfl
@[simp] theorem State.sdom_measures (s : State) (o : Obj) (i : Nat) (v : List Byte) : (s.sdom o i v).measures = s.measures :=
  (State.sdom_keep (wr := 9663676512) s o i v (Keep.refl s) rfl).same .measures rfl
@[simp] theorem State.sdom_rws (s : State) (o : Obj) (i : Nat) (v : List Byte) : (s.sdom o i v).rws = s.rws :=
  (State.sdom_keep (wr := 9663676512) s o i v (Keep.refl s) rfl).same .rws rfl
@[simp] theorem State.sdom_health (s : State) (o : Obj) (i : Nat) (v : List Byte) : (s.sdom o i v).health = s.health :=
  (State.sdom_keep (wr := 9663676512) s o i v (Keep.refl s) rfl).same .health rfl
@[simp] theorem State.sdom_sessions (s : State) (o : Obj) (i : Nat) (v : List Byte) : (s.sdom o i v).sessions = s.sessions :=
  (State.sdom_keep (wr := 9663676512) s o i v (Keep.refl s) rfl).same .sessions rfl
@[simp] theorem State.sdom_relays (s : State) (o : Obj) (i : Nat) (v : List Byte) : (s.sdom o i v).relays = s.relays :=
  (State.sdom_keep (wr := 9663676512) s o i v (Keep.refl s) rfl).same .relays rfl
@[simp] theorem State.sdom_mb (s : State) (o : Obj) (i : Nat) (v : List Byte) : (s.sdom o i v).mb = s.mb :=
  (State.sdom_keep (wr := 9663676512) s o i v (Keep.refl s) rfl).same .mb rfl
@[simp] theorem State.sdom_thermal (s : State) (o : Obj) (i : Nat) (v : List Byte) : (s.sdom o i v).thermal = s.thermal :=
  (State.sdom_keep (wr := 9663676512) s o i v (Keep.refl s) rfl).same .thermal rfl
@[simp] theorem State.sdom_jtag (s : State) (o : Obj) (i : Nat) (v : List Byte) : (s.sdom o i v).jtag = s.jtag :=
  (State.sdom_keep (wr := 9663676512) s o i v (Keep.refl s) rfl).same .jtag rfl

end Sys2Proof.Machine
end

