-- ==== Sys2Proof/Laws/Clock.lean ====
section
/-!
SUPPORT. What a tick does to the count: fires and settings that take effect leave the count, its fraction, the replicas'
lags and the frequency adjustment as they are, so a tick changes them as countTick does.
-/

namespace Sys2Proof.Machine

open Reg

/-- The count, its fraction, the replicas' lags and the frequency adjustment. -/
def State.clock (s : State) : Nat × Nat × Tab Nat × Nat := (s.tb.count, s.tb.frac, s.tb.lags, s.rf TB_FREQ_ADJ_ADJ)

theorem State.clock_of {s t : State} (h : t.tb = s.tb) (hf : t.rf TB_FREQ_ADJ_ADJ = s.rf TB_FREQ_ADJ_ADJ) :
    t.clock = s.clock := by
  unfold State.clock; rw [h, hf]

theorem State.clock_setCmp (s : State) (n : Nat) (x : Comparator) : (s.setCmp n x).clock = s.clock := rfl
theorem State.clock_setCarrier (s : State) (n : Nat) (x : Carrier) : (s.setCarrier n x).clock = s.clock := rfl

theorem State.clock_sf (s : State) (f : Fld) (i v : Nat) (h : f.id % 1024 ≠ TB_FREQ_ADJ_ADJ.id % 1024) :
    (s.sf f i v).clock = s.clock :=
  State.clock_of rfl (State.rf_sf_other _ _ _ _ h)

theorem State.clock_raise (s : State) (e i : Nat) : (s.raise e i).clock = s.clock :=
  State.clock_of (State.raise_tb ..) (State.rf_raise _ _ _ _ (by decide))

theorem State.clock_mbTimer (s : State) (n : Nat) : (s.mbTimer n).clock = s.clock := by
  have k := (State.mbTimer_keep (wr := 68719480836) s n (Keep.refl s) rfl).same
  exact State.clock_of (k .tb rfl) (State.rf_congr (k .flds rfl) _ _)

theorem State.clock_fold {α : Type} (f : State → α → State) (h : ∀ s a, (f s a).clock = s.clock) (l : List α) (s : State) :
    (l.foldl f s).clock = s.clock := by
  induction l generalizing s with
  | nil => rfl
  | cons a l ih => exact (ih _).trans (h s a)

theorem State.clock_fireFlit (s : State) (n : Nat) : (s.fireFlit n).clock = s.clock := by
  unfold State.fireFlit
  dsimp only
  split
  · rw [State.clock_mbTimer, State.clock_raise]
  · split
    · rfl
    · split <;> rfl

theorem State.clock_setMatch (s : State) (n v : Nat) : (s.setMatch n v).clock = s.clock := by
  unfold State.setMatch
  dsimp only
  split
  · rfl
  · exact State.clock_sf _ _ _ _ (by decide)

theorem State.clock_clearArm (s : State) (n : Nat) : (s.clearArm n).clock = s.clock := by
  unfold State.clearArm
  dsimp only
  split
  · rfl
  · exact State.clock_sf _ _ _ _ (by decide)

theorem State.clock_reschedule (s : State) (n : Nat) : (s.reschedule n).clock = s.clock := by
  unfold State.reschedule
  dsimp only
  split
  · exact State.clock_setMatch _ _ _
  · rfl

theorem State.clock_rescheduleAll (s : State) (c : Nat) : (s.rescheduleAll c).clock = s.clock := by
  unfold State.rescheduleAll
  refine State.clock_fold _ (fun t n => ?_) _ _
  split
  · exact State.clock_reschedule _ _
  · rfl

theorem State.clock_fireCmp (s : State) (n l : Nat) : (s.fireCmp n l).clock = s.clock := by
  have h0 : ∀ t : State, (if 0 < l then t.sf TM_CMP_STAT_LATE n 1 else t).clock = t.clock := by
    intro t; split
    · exact State.clock_sf _ _ _ _ (by decide)
    · rfl
  unfold State.fireCmp
  dsimp only
  split
  · rw [State.clock_clearArm, h0]; exact State.clock_fireFlit s n
  · rw [State.incf, State.clock_sf _ _ _ _ (by decide), State.clock_setMatch, h0]; exact State.clock_fireFlit s n
  · rw [State.clock_reschedule, State.clock_setCmp, h0]; exact State.clock_fireFlit s n

theorem State.clock_arm (s : State) (n : Nat) : (s.arm n).clock = s.clock := by
  unfold State.arm
  dsimp only
  split
  · split
    · rw [State.clock_reschedule, State.clock_setCmp]; exact State.clock_sf _ _ _ _ (by decide)
    · split
      · rw [State.clock_fireCmp, State.clock_setCmp]; exact State.clock_sf _ _ _ _ (by decide)
      · rw [State.clock_setCmp]; exact State.clock_sf _ _ _ _ (by decide)
  · rw [State.clock_raise, State.clock_clearArm]

theorem State.clock_takeCmp (s : State) (n : Nat) : (s.takeCmp n).clock = s.clock := by
  unfold State.takeCmp
  extract_lets x t y
  split
  · rfl
  · have ht : t.clock = s.clock := rfl
    clear_value t
    repeat' split
    · exact ht
    · rw [State.clock_arm, ht]
    · rw [State.clock_reschedule, ht]
    · rw [State.clock_fireCmp, ht]
    · exact ht

theorem State.clock_disableCarrier (s : State) (c : Nat) : (s.disableCarrier c).clock = s.clock := by
  unfold State.disableCarrier
  rw [State.clock_rescheduleAll, State.clock_setCarrier, State.clock_sf _ _ _ _ (by decide)]

theorem State.clock_takeCarrier (s : State) (c : Nat) : (s.takeCarrier c).clock = s.clock := by
  unfold State.takeCarrier
  dsimp only
  split
  · rfl
  · split
    · rw [State.clock_disableCarrier]; rfl
    · split
      · rfl
      · split
        · rw [State.clock_raise, State.clock_sf _ _ _ _ (by decide)]; rfl
        · rw [State.clock_rescheduleAll]; rfl

/-- The count after a reference period depends on the count before it alone. -/
theorem State.clock_countTick (s : State) (lags : List (Nat × Nat)) :
    (s.countTick lags).clock =
      let total := ((s.tb.frac : Int) + 2 ^ 44 + s.adj).toNat
      let count := (s.tb.count + total / 2 ^ 44) % 2 ^ 64
      (count, total % 2 ^ 44,
        lags.foldl (fun (l : Tab Nat) (p : Nat × Nat) => l.set p.1 (newLag s.tb.count (Tab.get 0 s.tb.lags p.1) count p.2)) [],
        s.rf TB_FREQ_ADJ_ADJ) := by
  unfold State.countTick
  dsimp only
  split
  · rw [State.clock_sf _ _ _ _ (by decide)]; rfl
  · rfl

/-- A tick changes the count, its fraction and the replicas as one reference period does. -/
theorem State.clock_tick (s : State) (lags : List (Nat × Nat)) : (s.tick lags).clock = (s.countTick lags).clock := by
  unfold State.tick
  dsimp only
  rw [State.clock_fold _ (fun t n => State.clock_takeCmp t n), State.clock_fold _ (fun t c => State.clock_takeCarrier t c),
    State.clock_countTick, State.clock_countTick]
  generalize hx : s.cmpWritten.foldl (fun s n => if s.cmpDue n then s.fireCmp n (s.cmpLate n) else s) s = x
  have h : x.clock = s.clock := by
    rw [← hx]
    refine State.clock_fold _ (fun t n => ?_) _ _
    split
    · exact State.clock_fireCmp _ _ _
    · rfl
  have h1 : x.tb.count = s.tb.count := congrArg Prod.fst h
  have h2 : x.tb.frac = s.tb.frac := congrArg (fun p => p.2.1) h
  have h3 : x.tb.lags = s.tb.lags := congrArg (fun p => p.2.2.1) h
  have h4 : x.rf TB_FREQ_ADJ_ADJ = s.rf TB_FREQ_ADJ_ADJ := congrArg (fun p => p.2.2.2) h
  simp only [State.adj, h1, h2, h3, h4]

end Sys2Proof.Machine
end

