-- ==== Sys2Proof/Laws/Dispatch.lean ====
section
/-!
SUPPORT. The arms of exec, one law for each command: exec of the command is its meaning.
-/

namespace Sys2Proof.Machine

theorem exec_registerWrite (requester : Nat) (page : Option Nat) (address width : Nat) (value : Word) (s : State) :
    exec (.registerWrite requester page address width value) s = execRegisterWrite requester page address width value s := rfl
theorem exec_registerLowHalfRead (requester : Nat) (page : Option Nat) (address : Nat) (s : State) :
    exec (.registerLowHalfRead requester page address) s = execRegisterLowHalfRead requester page address s := rfl
theorem exec_registerHighHalfRead (requester : Nat) (page : Option Nat) (address : Nat) (s : State) :
    exec (.registerHighHalfRead requester page address) s = execRegisterHighHalfRead requester page address s := rfl
theorem exec_rcRegisterRead (requester : Nat) (page : Option Nat) (address width : Nat) (s : State) :
    exec (.rcRegisterRead requester page address width) s = execRcRegisterRead requester page address width s := rfl
theorem exec_partCreate (session part : Nat) (s : State) :
    exec (.partCreate session part) s = execPartCreate session part s := rfl
theorem exec_partStart (session part : Nat) (s : State) :
    exec (.partStart session part) s = execPartStart session part s := rfl
theorem exec_partUnitsReady (part : Nat) (s : State) : exec (.partUnitsReady part) s = execPartUnitsReady part s := rfl
theorem exec_partStop (session part : Nat) (s : State) :
    exec (.partStop session part) s = execPartStop session part s := rfl
theorem exec_partDrainDone (part : Nat) (s : State) : exec (.partDrainDone part) s = execPartDrainDone part s := rfl
theorem exec_partDelete (session part : Nat) (s : State) :
    exec (.partDelete session part) s = execPartDelete session part s := rfl
theorem exec_partitionReset (part : Nat) (s : State) : exec (.partitionReset part) s = execPartitionReset part s := rfl
theorem exec_stitchTransfer (sender receiver : Nat) (routeA routeB : BitVec 80) (errors : List (BitVec 80)) (requests answers : List LooseFlit) (s : State) :
    exec (.stitchTransfer sender receiver routeA routeB errors requests answers) s = execStitchTransfer sender receiver routeA routeB errors requests answers s := rfl
theorem exec_clockFloor (island mhz : Nat) (s : State) :
    exec (.clockFloor island mhz) s = execClockFloor island mhz s := rfl
theorem exec_queueEntryLand (queue unit : Nat) (s : State) :
    exec (.queueEntryLand queue unit) s = execQueueEntryLand queue unit s := rfl
theorem exec_queuePopRequest (queue : Nat) (unit : Requester) (s : State) :
    exec (.queuePopRequest queue unit) s = execQueuePopRequest queue unit s := rfl
theorem exec_creditRequest (queue unit : Nat) (s : State) :
    exec (.creditRequest queue unit) s = execCreditRequest queue unit s := rfl
theorem exec_creditGrantArrive (queue unit : Nat) (s : State) :
    exec (.creditGrantArrive queue unit) s = execCreditGrantArrive queue unit s := rfl
theorem exec_queueStall (queue unit : Nat) (s : State) :
    exec (.queueStall queue unit) s = execQueueStall queue unit s := rfl
theorem exec_queueEnable (requester queue depthLog grantLog consumer : Nat) (s : State) :
    exec (.queueEnable requester queue depthLog grantLog consumer) s = execQueueEnable requester queue depthLog grantLog consumer s := rfl
theorem exec_queueDisable (requester queue depthLog grantLog consumer : Nat) (s : State) :
    exec (.queueDisable requester queue depthLog grantLog consumer) s = execQueueDisable requester queue depthLog grantLog consumer s := rfl
theorem exec_queueDrainMark (queue unit : Nat) (s : State) :
    exec (.queueDrainMark queue unit) s = execQueueDrainMark queue unit s := rfl
theorem exec_drainMarkResend (queue unit : Nat) (s : State) :
    exec (.drainMarkResend queue unit) s = execDrainMarkResend queue unit s := rfl
theorem exec_tbStep (requester : Nat) (delta : Word) (s : State) :
    exec (.tbStep requester delta) s = execTbStep requester delta s := rfl
theorem exec_syncSourceValid (error : Int) (s : State) :
    exec (.syncSourceValid error) s = execSyncSourceValid error s := rfl
theorem exec_syncSourceLost (s : State) : exec .syncSourceLost s = execSyncSourceLost s := rfl
theorem exec_syncLocked (s : State) : exec .syncLocked s = execSyncLocked s := rfl
theorem exec_holdoverExpired (s : State) : exec .holdoverExpired s = execHoldoverExpired s := rfl
theorem exec_hostStateWrite (value : Nat) (s : State) :
    exec (.hostStateWrite value) s = execHostStateWrite value s := rfl
theorem exec_hostStateTimeout (s : State) : exec .hostStateTimeout s = execHostStateTimeout s := rfl
theorem exec_deferredStep (error : Int) (s : State) : exec (.deferredStep error) s = execDeferredStep error s := rfl
theorem exec_sysrefLost (s : State) : exec .sysrefLost s = execSysrefLost s := rfl
theorem exec_sysrefReturn (s : State) : exec .sysrefReturn s = execSysrefReturn s := rfl
theorem exec_ppsOutEdge (s : State) : exec .ppsOutEdge s = execPpsOutEdge s := rfl
theorem exec_ppsInEdge (sub : Nat) (s : State) : exec (.ppsInEdge sub) s = execPpsInEdge sub s := rfl
theorem exec_ppsInLost (s : State) : exec .ppsInLost s = execPpsInLost s := rfl
theorem exec_todRxMessage (message : List Byte) (s : State) :
    exec (.todRxMessage message) s = execTodRxMessage message s := rfl
theorem exec_todTxMessage (s : State) : exec .todTxMessage s = execTodTxMessage s := rfl
theorem exec_carrierTimerConfig (requester carrier register : Nat) (value : Half) (s : State) :
    exec (.carrierTimerConfig requester carrier register value) s = execCarrierTimerConfig requester carrier register value s := rfl
theorem exec_carrierTimerStart (carrier : Nat) (s : State) :
    exec (.carrierTimerStart carrier) s = execCarrierTimerStart carrier s := rfl
theorem exec_carrierSlotStart (carrier : Nat) (s : State) :
    exec (.carrierSlotStart carrier) s = execCarrierSlotStart carrier s := rfl
theorem exec_comparatorArm (requester comparator : Nat) (control : Half) (s : State) :
    exec (.comparatorArm requester comparator control) s = execComparatorArm requester comparator control s := rfl
theorem exec_comparatorWrite (requester comparator register : Nat) (value : Word) (s : State) :
    exec (.comparatorWrite requester comparator register value) s = execComparatorWrite requester comparator register value s := rfl
theorem exec_comparatorFire (s : State) : exec .comparatorFire s = execComparatorFire s := rfl
theorem exec_descriptorStage (s : State) : exec .descriptorStage s = execDescriptorStage s := rfl
theorem exec_shuttleTriggerFire (s : State) : exec .shuttleTriggerFire s = execShuttleTriggerFire s := rfl
theorem exec_shTriggerWrite (requester p : Nat) (value : Half) (s : State) :
    exec (.shTriggerWrite requester p value) s = execShTriggerWrite requester p value s := rfl
theorem exec_shCancel (requester p : Nat) (value : Word) (s : State) :
    exec (.shCancel requester p value) s = execShCancel requester p value s := rfl
theorem exec_jobCancel (s : State) : exec .jobCancel s = execJobCancel s := rfl
theorem exec_jobDispatch (s : State) : exec .jobDispatch s = execJobDispatch s := rfl
theorem exec_jobLateCheck (job : Nat) (s : State) : exec (.jobLateCheck job) s = execJobLateCheck job s := rfl
theorem exec_jobCompletionReport (s : State) : exec .jobCompletionReport s = execJobCompletionReport s := rfl
theorem exec_completionRecordPush (s : State) : exec .completionRecordPush s = execCompletionRecordPush s := rfl
theorem exec_sqEnable (requester index : Nat) (value : Word) (s : State) :
    exec (.sqEnable requester index value) s = execSqEnable requester index value s := rfl
theorem exec_sqDisable (requester index : Nat) (value : Word) (s : State) :
    exec (.sqDisable requester index value) s = execSqDisable requester index value s := rfl
theorem exec_forecastSend (island : Nat) (s : State) : exec (.forecastSend island) s = execForecastSend island s := rfl
theorem exec_offerSend (s : State) : exec .offerSend s = execOfferSend s := rfl
theorem exec_offerReceive (s : State) : exec .offerReceive s = execOfferReceive s := rfl
theorem exec_offerAccept (s : State) : exec .offerAccept s = execOfferAccept s := rfl
theorem exec_offerTimeout (s : State) : exec .offerTimeout s = execOfferTimeout s := rfl
theorem exec_offerAdvertise (s : State) : exec .offerAdvertise s = execOfferAdvertise s := rfl
theorem exec_iNop (engine : Nat) (s : State) : exec (.iNop engine) s = execINop engine s := rfl
theorem exec_iFence (engine : Nat) (s : State) : exec (.iFence engine) s = execIFence engine s := rfl
theorem exec_iEret (engine : Nat) (s : State) : exec (.iEret engine) s = execIEret engine s := rfl
theorem exec_iBreak (engine : Nat) (s : State) : exec (.iBreak engine) s = execIBreak engine s := rfl
theorem exec_iSignal (engine : Nat) (s : State) : exec (.iSignal engine) s = execISignal engine s := rfl
theorem exec_iWaitjob (engine : Nat) (s : State) : exec (.iWaitjob engine) s = execIWaitjob engine s := rfl
theorem exec_iExit (engine : Nat) (gs : BitVec 5) (s : State) : exec (.iExit engine gs) s = execIExit engine gs s := rfl
theorem exec_iMfs (engine : Nat) (gd sr : BitVec 5) (s : State) :
    exec (.iMfs engine gd sr) s = execIMfs engine gd sr s := rfl
theorem exec_iMts (engine : Nat) (sr gs : BitVec 5) (s : State) :
    exec (.iMts engine sr gs) s = execIMts engine sr gs s := rfl
theorem exec_iAdd (engine : Nat) (gd gs gt : BitVec 5) (s : State) :
    exec (.iAdd engine gd gs gt) s = execIAdd engine gd gs gt s := rfl
theorem exec_iSub (engine : Nat) (gd gs gt : BitVec 5) (s : State) :
    exec (.iSub engine gd gs gt) s = execISub engine gd gs gt s := rfl
theorem exec_iAnd (engine : Nat) (gd gs gt : BitVec 5) (s : State) :
    exec (.iAnd engine gd gs gt) s = execIAnd engine gd gs gt s := rfl
theorem exec_iOr (engine : Nat) (gd gs gt : BitVec 5) (s : State) :
    exec (.iOr engine gd gs gt) s = execIOr engine gd gs gt s := rfl
theorem exec_iXor (engine : Nat) (gd gs gt : BitVec 5) (s : State) :
    exec (.iXor engine gd gs gt) s = execIXor engine gd gs gt s := rfl
theorem exec_iSll (engine : Nat) (gd gs gt : BitVec 5) (s : State) :
    exec (.iSll engine gd gs gt) s = execISll engine gd gs gt s := rfl
theorem exec_iSrl (engine : Nat) (gd gs gt : BitVec 5) (s : State) :
    exec (.iSrl engine gd gs gt) s = execISrl engine gd gs gt s := rfl
theorem exec_iSra (engine : Nat) (gd gs gt : BitVec 5) (s : State) :
    exec (.iSra engine gd gs gt) s = execISra engine gd gs gt s := rfl
theorem exec_iSlt (engine : Nat) (gd gs gt : BitVec 5) (s : State) :
    exec (.iSlt engine gd gs gt) s = execISlt engine gd gs gt s := rfl
theorem exec_iSltu (engine : Nat) (gd gs gt : BitVec 5) (s : State) :
    exec (.iSltu engine gd gs gt) s = execISltu engine gd gs gt s := rfl
theorem exec_iMin (engine : Nat) (gd gs gt : BitVec 5) (s : State) :
    exec (.iMin engine gd gs gt) s = execIMin engine gd gs gt s := rfl
theorem exec_iMax (engine : Nat) (gd gs gt : BitVec 5) (s : State) :
    exec (.iMax engine gd gs gt) s = execIMax engine gd gs gt s := rfl
theorem exec_iMinu (engine : Nat) (gd gs gt : BitVec 5) (s : State) :
    exec (.iMinu engine gd gs gt) s = execIMinu engine gd gs gt s := rfl
theorem exec_iMaxu (engine : Nat) (gd gs gt : BitVec 5) (s : State) :
    exec (.iMaxu engine gd gs gt) s = execIMaxu engine gd gs gt s := rfl
theorem exec_iMul (engine : Nat) (gd gs gt : BitVec 5) (s : State) :
    exec (.iMul engine gd gs gt) s = execIMul engine gd gs gt s := rfl
theorem exec_iMulh (engine : Nat) (gd gs gt : BitVec 5) (s : State) :
    exec (.iMulh engine gd gs gt) s = execIMulh engine gd gs gt s := rfl
theorem exec_iMulhu (engine : Nat) (gd gs gt : BitVec 5) (s : State) :
    exec (.iMulhu engine gd gs gt) s = execIMulhu engine gd gs gt s := rfl
theorem exec_iAddi (engine : Nat) (gd gs : BitVec 5) (imm : BitVec 16) (s : State) :
    exec (.iAddi engine gd gs imm) s = execIAddi engine gd gs imm s := rfl
theorem exec_iAndi (engine : Nat) (gd gs : BitVec 5) (imm : BitVec 16) (s : State) :
    exec (.iAndi engine gd gs imm) s = execIAndi engine gd gs imm s := rfl
theorem exec_iOri (engine : Nat) (gd gs : BitVec 5) (imm : BitVec 16) (s : State) :
    exec (.iOri engine gd gs imm) s = execIOri engine gd gs imm s := rfl
theorem exec_iXori (engine : Nat) (gd gs : BitVec 5) (imm : BitVec 16) (s : State) :
    exec (.iXori engine gd gs imm) s = execIXori engine gd gs imm s := rfl
theorem exec_iSlti (engine : Nat) (gd gs : BitVec 5) (imm : BitVec 16) (s : State) :
    exec (.iSlti engine gd gs imm) s = execISlti engine gd gs imm s := rfl
theorem exec_iSltiu (engine : Nat) (gd gs : BitVec 5) (imm : BitVec 16) (s : State) :
    exec (.iSltiu engine gd gs imm) s = execISltiu engine gd gs imm s := rfl
theorem exec_iSlli (engine : Nat) (gd gs : BitVec 5) (count : BitVec 6) (s : State) :
    exec (.iSlli engine gd gs count) s = execISlli engine gd gs count s := rfl
theorem exec_iSrli (engine : Nat) (gd gs : BitVec 5) (count : BitVec 6) (s : State) :
    exec (.iSrli engine gd gs count) s = execISrli engine gd gs count s := rfl
theorem exec_iSrai (engine : Nat) (gd gs : BitVec 5) (count : BitVec 6) (s : State) :
    exec (.iSrai engine gd gs count) s = execISrai engine gd gs count s := rfl
theorem exec_iLis (engine : Nat) (gd : BitVec 5) (imm : BitVec 16) (hw : BitVec 2) (s : State) :
    exec (.iLis engine gd imm hw) s = execILis engine gd imm hw s := rfl
theorem exec_iLik (engine : Nat) (gd : BitVec 5) (imm : BitVec 16) (hw : BitVec 2) (s : State) :
    exec (.iLik engine gd imm hw) s = execILik engine gd imm hw s := rfl
theorem exec_iBeq (engine : Nat) (gs gt : BitVec 5) (off : BitVec 16) (s : State) :
    exec (.iBeq engine gs gt off) s = execIBeq engine gs gt off s := rfl
theorem exec_iBne (engine : Nat) (gs gt : BitVec 5) (off : BitVec 16) (s : State) :
    exec (.iBne engine gs gt off) s = execIBne engine gs gt off s := rfl
theorem exec_iBlt (engine : Nat) (gs gt : BitVec 5) (off : BitVec 16) (s : State) :
    exec (.iBlt engine gs gt off) s = execIBlt engine gs gt off s := rfl
theorem exec_iBge (engine : Nat) (gs gt : BitVec 5) (off : BitVec 16) (s : State) :
    exec (.iBge engine gs gt off) s = execIBge engine gs gt off s := rfl
theorem exec_iBltu (engine : Nat) (gs gt : BitVec 5) (off : BitVec 16) (s : State) :
    exec (.iBltu engine gs gt off) s = execIBltu engine gs gt off s := rfl
theorem exec_iBgeu (engine : Nat) (gs gt : BitVec 5) (off : BitVec 16) (s : State) :
    exec (.iBgeu engine gs gt off) s = execIBgeu engine gs gt off s := rfl
theorem exec_iJ (engine : Nat) (off : BitVec 26) (s : State) : exec (.iJ engine off) s = execIJ engine off s := rfl
theorem exec_iJal (engine : Nat) (off : BitVec 26) (s : State) :
    exec (.iJal engine off) s = execIJal engine off s := rfl
theorem exec_iJr (engine : Nat) (gs : BitVec 5) (s : State) : exec (.iJr engine gs) s = execIJr engine gs s := rfl
theorem exec_iJalr (engine : Nat) (gd gs : BitVec 5) (s : State) :
    exec (.iJalr engine gd gs) s = execIJalr engine gd gs s := rfl
theorem exec_iLd (engine : Nat) (sz : BitVec 2) (gd gb : BitVec 5) (mode : AddrMode) (s : State) :
    exec (.iLd engine sz gd gb mode) s = execILd engine sz gd gb mode s := rfl
theorem exec_iLdu (engine : Nat) (sz : BitVec 2) (gd gb : BitVec 5) (mode : AddrMode) (s : State) :
    exec (.iLdu engine sz gd gb mode) s = execILdu engine sz gd gb mode s := rfl
theorem exec_iSt (engine : Nat) (sz : BitVec 2) (gs gb : BitVec 5) (mode : AddrMode) (s : State) :
    exec (.iSt engine sz gs gb mode) s = execISt engine sz gs gb mode s := rfl
theorem exec_iPush (engine : Nat) (gq gb : BitVec 5) (mode : AddrMode) (s : State) :
    exec (.iPush engine gq gb mode) s = execIPush engine gq gb mode s := rfl
theorem exec_iPop (engine : Nat) (gd gb : BitVec 5) (mode : AddrMode) (s : State) :
    exec (.iPop engine gd gb mode) s = execIPop engine gd gb mode s := rfl
theorem exec_iPopw (engine : Nat) (gq gb : BitVec 5) (mode : AddrMode) (s : State) :
    exec (.iPopw engine gq gb mode) s = execIPopw engine gq gb mode s := rfl
theorem exec_iMacr (engine : Nat) (gs gt : BitVec 5) (s : State) :
    exec (.iMacr engine gs gt) s = execIMacr engine gs gt s := rfl
theorem exec_iMsur (engine : Nat) (gs gt : BitVec 5) (s : State) :
    exec (.iMsur engine gs gt) s = execIMsur engine gs gt s := rfl
theorem exec_iCmac (engine : Nat) (pair : Bool) (gs gt : BitVec 5) (s : State) :
    exec (.iCmac engine pair gs gt) s = execICmac engine pair gs gt s := rfl
theorem exec_iCmacj (engine : Nat) (pair : Bool) (gs gt : BitVec 5) (s : State) :
    exec (.iCmacj engine pair gs gt) s = execICmacj engine pair gs gt s := rfl
theorem exec_iAccz (engine : Nat) (mask : BitVec 4) (s : State) :
    exec (.iAccz engine mask) s = execIAccz engine mask s := rfl
theorem exec_iAccx (engine : Nat) (gd : BitVec 5) (k : BitVec 2) (n : BitVec 5) (wide : Bool) (s : State) :
    exec (.iAccx engine gd k n wide) s = execIAccx engine gd k n wide s := rfl
theorem exec_iCaccx (engine : Nat) (gd : BitVec 5) (pair : Bool) (n : BitVec 5) (s : State) :
    exec (.iCaccx engine gd pair n) s = execICaccx engine gd pair n s := rfl
theorem exec_iAccr (engine : Nat) (gd : BitVec 5) (k : BitVec 2) (s : State) :
    exec (.iAccr engine gd k) s = execIAccr engine gd k s := rfl
theorem exec_iAccw (engine : Nat) (k : BitVec 2) (gs : BitVec 5) (s : State) :
    exec (.iAccw engine k gs) s = execIAccw engine k gs s := rfl
theorem exec_iSrchi (engine : Nat) (gs : BitVec 5) (s : State) :
    exec (.iSrchi engine gs) s = execISrchi engine gs s := rfl
theorem exec_iSmax (engine : Nat) (gs : BitVec 5) (s : State) : exec (.iSmax engine gs) s = execISmax engine gs s := rfl
theorem exec_iSmin (engine : Nat) (gs : BitVec 5) (s : State) : exec (.iSmin engine gs) s = execISmin engine gs s := rfl
theorem exec_iCmaxm (engine : Nat) (gs : BitVec 5) (s : State) :
    exec (.iCmaxm engine gs) s = execICmaxm engine gs s := rfl
theorem exec_iVadd (engine : Nat) (t : ElemType) (vd vs vt : BitVec 5) (s : State) :
    exec (.iVadd engine t vd vs vt) s = execIVadd engine t vd vs vt s := rfl
theorem exec_iVsub (engine : Nat) (t : ElemType) (vd vs vt : BitVec 5) (s : State) :
    exec (.iVsub engine t vd vs vt) s = execIVsub engine t vd vs vt s := rfl
theorem exec_iVadds (engine : Nat) (t : ElemType) (vd vs vt : BitVec 5) (s : State) :
    exec (.iVadds engine t vd vs vt) s = execIVadds engine t vd vs vt s := rfl
theorem exec_iVsubs (engine : Nat) (t : ElemType) (vd vs vt : BitVec 5) (s : State) :
    exec (.iVsubs engine t vd vs vt) s = execIVsubs engine t vd vs vt s := rfl
theorem exec_iVnegs (engine : Nat) (t : ElemType) (vd vs : BitVec 5) (s : State) :
    exec (.iVnegs engine t vd vs) s = execIVnegs engine t vd vs s := rfl
theorem exec_iVabss (engine : Nat) (t : ElemType) (vd vs : BitVec 5) (s : State) :
    exec (.iVabss engine t vd vs) s = execIVabss engine t vd vs s := rfl
theorem exec_iVconjs (engine : Nat) (t : ElemType) (vd vs : BitVec 5) (s : State) :
    exec (.iVconjs engine t vd vs) s = execIVconjs engine t vd vs s := rfl
theorem exec_iVmaxe (engine : Nat) (t : ElemType) (vd vs vt : BitVec 5) (s : State) :
    exec (.iVmaxe engine t vd vs vt) s = execIVmaxe engine t vd vs vt s := rfl
theorem exec_iVmine (engine : Nat) (t : ElemType) (vd vs vt : BitVec 5) (s : State) :
    exec (.iVmine engine t vd vs vt) s = execIVmine engine t vd vs vt s := rfl
theorem exec_iVand (engine : Nat) (t : ElemType) (vd vs vt : BitVec 5) (s : State) :
    exec (.iVand engine t vd vs vt) s = execIVand engine t vd vs vt s := rfl
theorem exec_iVor (engine : Nat) (t : ElemType) (vd vs vt : BitVec 5) (s : State) :
    exec (.iVor engine t vd vs vt) s = execIVor engine t vd vs vt s := rfl
theorem exec_iVxor (engine : Nat) (t : ElemType) (vd vs vt : BitVec 5) (s : State) :
    exec (.iVxor engine t vd vs vt) s = execIVxor engine t vd vs vt s := rfl
theorem exec_iVshrr (engine : Nat) (t : ElemType) (vd vs count : BitVec 5) (s : State) :
    exec (.iVshrr engine t vd vs count) s = execIVshrr engine t vd vs count s := rfl
theorem exec_iVshls (engine : Nat) (t : ElemType) (vd vs count : BitVec 5) (s : State) :
    exec (.iVshls engine t vd vs count) s = execIVshls engine t vd vs count s := rfl
theorem exec_iVperm (engine : Nat) (t : ElemType) (vd vs vt : BitVec 5) (s : State) :
    exec (.iVperm engine t vd vs vt) s = execIVperm engine t vd vs vt s := rfl
theorem exec_iVmulq (engine : Nat) (t : ElemType) (vd vs vt : BitVec 5) (s : State) :
    exec (.iVmulq engine t vd vs vt) s = execIVmulq engine t vd vs vt s := rfl
theorem exec_iVcmulq (engine : Nat) (t : ElemType) (vd vs vt : BitVec 5) (s : State) :
    exec (.iVcmulq engine t vd vs vt) s = execIVcmulq engine t vd vs vt s := rfl
theorem exec_iVcmuljq (engine : Nat) (t : ElemType) (vd vs vt : BitVec 5) (s : State) :
    exec (.iVcmuljq engine t vd vs vt) s = execIVcmuljq engine t vd vs vt s := rfl
theorem exec_iVmacr (engine : Nat) (t : ElemType) (vs vt : BitVec 5) (s : State) :
    exec (.iVmacr engine t vs vt) s = execIVmacr engine t vs vt s := rfl
theorem exec_iVcmac (engine : Nat) (t : ElemType) (pair : Bool) (vs vt : BitVec 5) (s : State) :
    exec (.iVcmac engine t pair vs vt) s = execIVcmac engine t pair vs vt s := rfl
theorem exec_iVcmacj (engine : Nat) (t : ElemType) (pair : Bool) (vs vt : BitVec 5) (s : State) :
    exec (.iVcmacj engine t pair vs vt) s = execIVcmacj engine t pair vs vt s := rfl
theorem exec_iVsmax (engine : Nat) (t : ElemType) (vs : BitVec 5) (s : State) :
    exec (.iVsmax engine t vs) s = execIVsmax engine t vs s := rfl
theorem exec_iVsmin (engine : Nat) (t : ElemType) (vs : BitVec 5) (s : State) :
    exec (.iVsmin engine t vs) s = execIVsmin engine t vs s := rfl
theorem exec_iVcmaxm (engine : Nat) (t : ElemType) (vs : BitVec 5) (s : State) :
    exec (.iVcmaxm engine t vs) s = execIVcmaxm engine t vs s := rfl
theorem exec_iVexp (engine : Nat) (t : ElemType) (gd vs : BitVec 5) (s : State) :
    exec (.iVexp engine t gd vs) s = execIVexp engine t gd vs s := rfl
theorem exec_iVsplat (engine : Nat) (t : ElemType) (vd gs : BitVec 5) (s : State) :
    exec (.iVsplat engine t vd gs) s = execIVsplat engine t vd gs s := rfl
theorem exec_iVinsr (engine : Nat) (t : ElemType) (vd gs k : BitVec 5) (s : State) :
    exec (.iVinsr engine t vd gs k) s = execIVinsr engine t vd gs k s := rfl
theorem exec_iVextr (engine : Nat) (t : ElemType) (gd vs k : BitVec 5) (s : State) :
    exec (.iVextr engine t gd vs k) s = execIVextr engine t gd vs k s := rfl
theorem exec_iVwidl (engine : Nat) (t : ElemType) (vd vs : BitVec 5) (s : State) :
    exec (.iVwidl engine t vd vs) s = execIVwidl engine t vd vs s := rfl
theorem exec_iVwidh (engine : Nat) (t : ElemType) (vd vs : BitVec 5) (s : State) :
    exec (.iVwidh engine t vd vs) s = execIVwidh engine t vd vs s := rfl
theorem exec_iSetvl (engine : Nat) (t : ElemType) (gd gs : BitVec 5) (s : State) :
    exec (.iSetvl engine t gd gs) s = execISetvl engine t gd gs s := rfl
theorem exec_iVnarw (engine : Nat) (t : ElemType) (vd vs vt count : BitVec 5) (s : State) :
    exec (.iVnarw engine t vd vs vt count) s = execIVnarw engine t vd vs vt count s := rfl
theorem exec_iVld (engine : Nat) (t : ElemType) (vd gb : BitVec 5) (mode : AddrMode) (s : State) :
    exec (.iVld engine t vd gb mode) s = execIVld engine t vd gb mode s := rfl
theorem exec_iVst (engine : Nat) (t : ElemType) (vd gb : BitVec 5) (mode : AddrMode) (s : State) :
    exec (.iVst engine t vd gb mode) s = execIVst engine t vd gb mode s := rfl
theorem exec_iVldff (engine : Nat) (t : ElemType) (vd gb : BitVec 5) (mode : AddrMode) (s : State) :
    exec (.iVldff engine t vd gb mode) s = execIVldff engine t vd gb mode s := rfl
theorem exec_iVlds (engine : Nat) (t : ElemType) (vd gb : BitVec 5) (k : BitVec 3) (s : State) :
    exec (.iVlds engine t vd gb k) s = execIVlds engine t vd gb k s := rfl
theorem exec_iVsts (engine : Nat) (t : ElemType) (vd gb : BitVec 5) (k : BitVec 3) (s : State) :
    exec (.iVsts engine t vd gb k) s = execIVsts engine t vd gb k s := rfl
theorem exec_iVgather (engine : Nat) (t : ElemType) (vd gb vi : BitVec 5) (sc : BitVec 3) (s : State) :
    exec (.iVgather engine t vd gb vi sc) s = execIVgather engine t vd gb vi sc s := rfl
theorem exec_iVscatter (engine : Nat) (t : ElemType) (vd gb vi : BitVec 5) (sc : BitVec 3) (s : State) :
    exec (.iVscatter engine t vd gb vi sc) s = execIVscatter engine t vd gb vi sc s := rfl
theorem exec_iVgatherff (engine : Nat) (t : ElemType) (vd gb vi : BitVec 5) (sc : BitVec 3) (s : State) :
    exec (.iVgatherff engine t vd gb vi sc) s = execIVgatherff engine t vd gb vi sc s := rfl
theorem exec_iGmovt (engine : Nat) (qd : BitVec 4) (vs : BitVec 5) (row : BitVec 2) (s : State) :
    exec (.iGmovt engine qd vs row) s = execIGmovt engine qd vs row s := rfl
theorem exec_iGmovf (engine : Nat) (vd : BitVec 5) (qs : BitVec 4) (row : BitVec 2) (s : State) :
    exec (.iGmovf engine vd qs row) s = execIGmovf engine vd qs row s := rfl
theorem exec_iGmul (engine : Nat) (qd qa qb : BitVec 4) (s : State) :
    exec (.iGmul engine qd qa qb) s = execIGmul engine qd qa qb s := rfl
theorem exec_iGmulh (engine : Nat) (qd qa qb : BitVec 4) (s : State) :
    exec (.iGmulh engine qd qa qb) s = execIGmulh engine qd qa qb s := rfl
theorem exec_iGmulbh (engine : Nat) (qd qa qb : BitVec 4) (s : State) :
    exec (.iGmulbh engine qd qa qb) s = execIGmulbh engine qd qa qb s := rfl
theorem exec_iGmac (engine : Nat) (qd qa qb : BitVec 4) (s : State) :
    exec (.iGmac engine qd qa qb) s = execIGmac engine qd qa qb s := rfl
theorem exec_iGmsu (engine : Nat) (qd qa qb : BitVec 4) (s : State) :
    exec (.iGmsu engine qd qa qb) s = execIGmsu engine qd qa qb s := rfl
theorem exec_iGadd (engine : Nat) (qd qa qb : BitVec 4) (s : State) :
    exec (.iGadd engine qd qa qb) s = execIGadd engine qd qa qb s := rfl
theorem exec_iGsub (engine : Nat) (qd qa qb : BitVec 4) (s : State) :
    exec (.iGsub engine qd qa qb) s = execIGsub engine qd qa qb s := rfl
theorem exec_iGherm (engine : Nat) (qd qa : BitVec 4) (s : State) :
    exec (.iGherm engine qd qa) s = execIGherm engine qd qa s := rfl
theorem exec_iGzero (engine : Nat) (qd : BitVec 4) (s : State) :
    exec (.iGzero engine qd) s = execIGzero engine qd s := rfl
theorem exec_iGshr (engine : Nat) (qd qa count : BitVec 4) (s : State) :
    exec (.iGshr engine qd qa count) s = execIGshr engine qd qa count s := rfl
theorem exec_iGstat (engine : Nat) (gd : BitVec 5) (s : State) :
    exec (.iGstat engine gd) s = execIGstat engine gd s := rfl
theorem exec_gussetAccept (gusset : Nat) (s : State) : exec (.gussetAccept gusset) s = execGussetAccept gusset s := rfl
theorem exec_gussetBegin (gusset bank : Nat) (corrected : List Nat) (uncorrectable : Bool) (s : State) :
    exec (.gussetBegin gusset bank corrected uncorrectable) s = execGussetBegin gusset bank corrected uncorrectable s := rfl
theorem exec_gussetCommit (gusset : Nat) (work : BankWork) (s : State) :
    exec (.gussetCommit gusset work) s = execGussetCommit gusset work s := rfl
theorem exec_gussetSreset (requester gusset : Nat) (control : Half) (s : State) :
    exec (.gussetSreset requester gusset control) s = execGussetSreset requester gusset control s := rfl
theorem exec_engSreset (requester engine : Nat) (control : Half) (s : State) :
    exec (.engSreset requester engine control) s = execEngSreset requester engine control s := rfl
theorem exec_engGo (requester engine : Nat) (control : Half) (s : State) :
    exec (.engGo requester engine control) s = execEngGo requester engine control s := rfl
theorem exec_engOpen (requester engine : Nat) (control : Half) (s : State) :
    exec (.engOpen requester engine control) s = execEngOpen requester engine control s := rfl
theorem exec_engHaltReq (requester engine : Nat) (control : Half) (s : State) :
    exec (.engHaltReq requester engine control) s = execEngHaltReq requester engine control s := rfl
theorem exec_engineJobLateSignal (engine : Nat) (s : State) :
    exec (.engineJobLateSignal engine) s = execEngineJobLateSignal engine s := rfl
theorem exec_lateJobStop (engine : Nat) (s : State) : exec (.lateJobStop engine) s = execLateJobStop engine s := rfl
theorem exec_engineEventDeliver (s : State) : exec .engineEventDeliver s = execEngineEventDeliver s := rfl
theorem exec_mbDspOperation (engine : Nat) (op : MbOp) (s : State) :
    exec (.mbDspOperation engine op) s = execMbDspOperation engine op s := rfl
theorem exec_mbStatusWrite (engine : Nat) (source : BitVec 4) (s : State) :
    exec (.mbStatusWrite engine source) s = execMbStatusWrite engine source s := rfl
theorem exec_mbGussetCommand (engine : Nat) (tag : BitVec 4) (op : MbGusset) (s : State) :
    exec (.mbGussetCommand engine tag op) s = execMbGussetCommand engine tag op s := rfl
theorem exec_mbGussetRead (engine : Nat) (vd : BitVec 5) (qs : BitVec 4) (read : RowRead) (s : State) :
    exec (.mbGussetRead engine vd qs read) s = execMbGussetRead engine vd qs read s := rfl
theorem exec_mbSendMessage (engine : Nat) (core : BitVec 6) (inbox : BitVec 2) (p : BitVec 3) (mode : MbMode) (s : State) :
    exec (.mbSendMessage engine core inbox p mode) s = execMbSendMessage engine core inbox p mode s := rfl
theorem exec_mbReceiveMessage (engine : Nat) (inbox : BitVec 2) (result : Option (BitVec 4)) (p : BitVec 3) (mode : MbMode) (s : State) :
    exec (.mbReceiveMessage engine inbox result p mode) s = execMbReceiveMessage engine inbox result p mode s := rfl
theorem exec_mbRaiseHostInterrupt (engine : Nat) (s : State) :
    exec (.mbRaiseHostInterrupt engine) s = execMbRaiseHostInterrupt engine s := rfl
theorem exec_mbHalt (engine : Nat) (s : State) : exec (.mbHalt engine) s = execMbHalt engine s := rfl
theorem exec_mbReadCycleCounter (engine : Nat) (d : BitVec 4) (s : State) :
    exec (.mbReadCycleCounter engine d) s = execMbReadCycleCounter engine d s := rfl
theorem exec_ldpcDecode (unit : Nat) (s : State) : exec (.ldpcDecode unit) s = execLdpcDecode unit s := rfl
theorem exec_ldpcEncode (unit : Nat) (s : State) : exec (.ldpcEncode unit) s = execLdpcEncode unit s := rfl
theorem exec_turboDecode (unit : Nat) (s : State) : exec (.turboDecode unit) s = execTurboDecode unit s := rfl
theorem exec_polarDecode (unit : Nat) (s : State) : exec (.polarDecode unit) s = execPolarDecode unit s := rfl
theorem exec_polarEncode (unit : Nat) (s : State) : exec (.polarEncode unit) s = execPolarEncode unit s := rfl
theorem exec_tbccDecode (unit : Nat) (s : State) : exec (.tbccDecode unit) s = execTbccDecode unit s := rfl
theorem exec_tbccEncode (unit : Nat) (s : State) : exec (.tbccEncode unit) s = execTbccEncode unit s := rfl
theorem exec_tbSegment (unit : Nat) (s : State) : exec (.tbSegment unit) s = execTbSegment unit s := rfl
theorem exec_tbAssemble (unit : Nat) (s : State) : exec (.tbAssemble unit) s = execTbAssemble unit s := rfl
theorem exec_ldpcRateMatch (unit : Nat) (s : State) : exec (.ldpcRateMatch unit) s = execLdpcRateMatch unit s := rfl
theorem exec_ldpcRateRecover (unit : Nat) (s : State) :
    exec (.ldpcRateRecover unit) s = execLdpcRateRecover unit s := rfl
theorem exec_turboEncode (unit : Nat) (s : State) : exec (.turboEncode unit) s = execTurboEncode unit s := rfl
theorem exec_turboRateMatch (unit : Nat) (s : State) : exec (.turboRateMatch unit) s = execTurboRateMatch unit s := rfl
theorem exec_turboRateRecover (unit : Nat) (s : State) :
    exec (.turboRateRecover unit) s = execTurboRateRecover unit s := rfl
theorem exec_chest (unit : Nat) (s : State) : exec (.chest unit) s = execChest unit s := rfl
theorem exec_eqWeights (unit : Nat) (s : State) : exec (.eqWeights unit) s = execEqWeights unit s := rfl
theorem exec_bfWeights (unit : Nat) (s : State) : exec (.bfWeights unit) s = execBfWeights unit s := rfl
theorem exec_weightApply (unit : Nat) (s : State) : exec (.weightApply unit) s = execWeightApply unit s := rfl
theorem exec_eqApply (unit : Nat) (s : State) : exec (.eqApply unit) s = execEqApply unit s := rfl
theorem exec_jmStats (unit : Nat) (s : State) : exec (.jmStats unit) s = execJmStats unit s := rfl
theorem exec_jmSolve (unit : Nat) (s : State) : exec (.jmSolve unit) s = execJmSolve unit s := rfl
theorem exec_softDemap (unit : Nat) (s : State) : exec (.softDemap unit) s = execSoftDemap unit s := rfl
theorem exec_modMap (unit : Nat) (s : State) : exec (.modMap unit) s = execModMap unit s := rfl
theorem exec_fft (unit : Nat) (s : State) : exec (.fft unit) s = execFft unit s := rfl
theorem exec_ifft (unit : Nat) (s : State) : exec (.ifft unit) s = execIfft unit s := rfl
theorem exec_prachDetect (chain : Nat) (s : State) : exec (.prachDetect chain) s = execPrachDetect chain s := rfl
theorem exec_seqDetect (chain : Nat) (s : State) : exec (.seqDetect chain) s = execSeqDetect chain s := rfl
theorem exec_patchJob (patch : Nat) (s : State) : exec (.patchJob patch) s = execPatchJob patch s := rfl
theorem exec_patchJobEnd (patch code : Nat) (result : Half) (ext : Word) (outputs : List (List Word)) (s : State) :
    exec (.patchJobEnd patch code result ext outputs) s = execPatchJobEnd patch code result ext outputs s := rfl
theorem exec_patchJobLateTimeout (patch : Nat) (s : State) :
    exec (.patchJobLateTimeout patch) s = execPatchJobLateTimeout patch s := rfl
theorem exec_accSreset (requester unit : Nat) (control : Half) (s : State) :
    exec (.accSreset requester unit control) s = execAccSreset requester unit control s := rfl
theorem exec_hemIntakeEntry (chain : Nat) (s : State) :
    exec (.hemIntakeEntry chain) s = execHemIntakeEntry chain s := rfl
theorem exec_hemWindowProcess (chain stream fft : Nat) (s : State) :
    exec (.hemWindowProcess chain stream fft) s = execHemWindowProcess chain stream fft s := rfl
theorem exec_hemWindowMissing (chain stream : Nat) (s : State) :
    exec (.hemWindowMissing chain stream) s = execHemWindowMissing chain stream s := rfl
theorem exec_hemTransmitRequest (chain : Nat) (s : State) :
    exec (.hemTransmitRequest chain) s = execHemTransmitRequest chain s := rfl
theorem exec_hemSgainWrite (requester chain stream : Nat) (value : Half) (s : State) :
    exec (.hemSgainWrite requester chain stream value) s = execHemSgainWrite requester chain stream value s := rfl
theorem exec_hemStreamEnable (requester chain stream : Nat) (config : Half) (s : State) :
    exec (.hemStreamEnable requester chain stream config) s = execHemStreamEnable requester chain stream config s := rfl
theorem exec_hemStreamDisable (requester chain stream : Nat) (config : Half) (s : State) :
    exec (.hemStreamDisable requester chain stream config) s = execHemStreamDisable requester chain stream config s := rfl
theorem exec_hemSreset (requester chain : Nat) (control : Half) (s : State) :
    exec (.hemSreset requester chain control) s = execHemSreset requester chain control s := rfl
theorem exec_laneEnable (requester lane : Nat) (control : Half) (s : State) :
    exec (.laneEnable requester lane control) s = execLaneEnable requester lane control s := rfl
theorem exec_laneDisable (requester lane : Nat) (control : Half) (s : State) :
    exec (.laneDisable requester lane control) s = execLaneDisable requester lane control s := rfl
theorem exec_laneCalDone (lane : Nat) (s : State) : exec (.laneCalDone lane) s = execLaneCalDone lane s := rfl
theorem exec_laneAdaptDone (lane eye : Nat) (s : State) :
    exec (.laneAdaptDone lane eye) s = execLaneAdaptDone lane eye s := rfl
theorem exec_trainingRequestAccept (lane : Nat) (frames : List (BitVec 16 × BitVec 16)) (s : State) :
    exec (.trainingRequestAccept lane frames) s = execTrainingRequestAccept lane frames s := rfl
theorem exec_laneTrainingDone (lane : Nat) (s : State) :
    exec (.laneTrainingDone lane) s = execLaneTrainingDone lane s := rfl
theorem exec_laneTrainTimeout (lane : Nat) (s : State) :
    exec (.laneTrainTimeout lane) s = execLaneTrainTimeout lane s := rfl
theorem exec_laneFailedRetry (lane : Nat) (s : State) :
    exec (.laneFailedRetry lane) s = execLaneFailedRetry lane s := rfl
theorem exec_laneAligned (received : LaneInput) (s : State) :
    exec (.laneAligned received) s = execLaneAligned received s := rfl
theorem exec_laneAlignLost (received : LaneInput) (s : State) :
    exec (.laneAlignLost received) s = execLaneAlignLost received s := rfl
theorem exec_laneLos (lane : Nat) (s : State) : exec (.laneLos lane) s = execLaneLos lane s := rfl
theorem exec_laneSignalReturn (lane : Nat) (s : State) :
    exec (.laneSignalReturn lane) s = execLaneSignalReturn lane s := rfl
theorem exec_laneRetrain (requester lane : Nat) (control : Half) (s : State) :
    exec (.laneRetrain requester lane control) s = execLaneRetrain requester lane control s := rfl
theorem exec_pllEnable (requester quad : Nat) (pllB : Bool) (value : Half) (s : State) :
    exec (.pllEnable requester quad pllB value) s = execPllEnable requester quad pllB value s := rfl
theorem exec_pllLockLost (quad : Nat) (pllB : Bool) (s : State) :
    exec (.pllLockLost quad pllB) s = execPllLockLost quad pllB s := rfl
theorem exec_loopbackSlip (drift : LoopDrift) (s : State) :
    exec (.loopbackSlip drift) s = execLoopbackSlip drift s := rfl
theorem exec_checkerLock (lane : Nat) (arriving : List Bool) (looped : Nat) (inverted : List Bool) (s : State) :
    exec (.checkerLock lane arriving looped inverted) s = execCheckerLock lane arriving looped inverted s := rfl
theorem exec_laneInject (requester lane : Nat) (value : Half) (s : State) :
    exec (.laneInject requester lane value) s = execLaneInject requester lane value s := rfl
theorem exec_lanePowerRequest (requester lane : Nat) (control : Half) (frozen : Bool) (s : State) :
    exec (.lanePowerRequest requester lane control frozen) s = execLanePowerRequest requester lane control frozen s := rfl
theorem exec_lanePowerWakeDone (lane : Nat) (transmit : Bool) (s : State) :
    exec (.lanePowerWakeDone lane transmit) s = execLanePowerWakeDone lane transmit s := rfl
theorem exec_laneRetire (lane : Nat) (s : State) : exec (.laneRetire lane) s = execLaneRetire lane s := rfl
theorem exec_lanesRetireCommand (value : Nat) (s : State) :
    exec (.lanesRetireCommand value) s = execLanesRetireCommand value s := rfl
theorem exec_fhPortEnable (requester port : Nat) (control : Half) (s : State) :
    exec (.fhPortEnable requester port control) s = execFhPortEnable requester port control s := rfl
theorem exec_frameReceive (port sub : Nat) (frame : PortFrame) (s : State) :
    exec (.frameReceive port sub frame) s = execFrameReceive port sub frame s := rfl
theorem exec_uplinkSymbolClose (entry : Nat) (s : State) :
    exec (.uplinkSymbolClose entry) s = execUplinkSymbolClose entry s := rfl
theorem exec_cplaneSend (port : Nat) (s : State) : exec (.cplaneSend port) s = execCplaneSend port s := rfl
theorem exec_downlinkRequest (port : Nat) (s : State) :
    exec (.downlinkRequest port) s = execDownlinkRequest port s := rfl
theorem exec_downlinkSymbolSend (port : Nat) (s : State) :
    exec (.downlinkSymbolSend port) s = execDownlinkSymbolSend port s := rfl
theorem exec_stWrite (requester part index : Nat) (s : State) :
    exec (.stWrite requester part index) s = execStWrite requester part index s := rfl
theorem exec_stRead (requester part index : Nat) (s : State) :
    exec (.stRead requester part index) s = execStRead requester part index s := rfl
theorem exec_stInvalidate (requester part index : Nat) (s : State) :
    exec (.stInvalidate requester part index) s = execStInvalidate requester part index s := rfl
theorem exec_cpriEnable (requester lane : Nat) (value : Half) (s : State) :
    exec (.cpriEnable requester lane value) s = execCpriEnable requester lane value s := rfl
theorem exec_cpriHfsyncAchieved (lane : Nat) (s : State) :
    exec (.cpriHfsyncAchieved lane) s = execCpriHfsyncAchieved lane s := rfl
theorem exec_cpriHfsyncLost (lane : Nat) (s : State) : exec (.cpriHfsyncLost lane) s = execCpriHfsyncLost lane s := rfl
theorem exec_cpriHyperframeRx (lane sub hfn bfn : Nat) (rai : Bool) (s : State) :
    exec (.cpriHyperframeRx lane sub hfn bfn rai) s = execCpriHyperframeRx lane sub hfn bfn rai s := rfl
theorem exec_cpriBasicFrameRx (lane x hfn bfn : Nat) (control iq : List Byte) (credit : Bool) (s : State) :
    exec (.cpriBasicFrameRx lane x hfn bfn control iq credit) s = execCpriBasicFrameRx lane x hfn bfn control iq credit s := rfl
theorem exec_cpriBasicFrameTx (lane : Nat) (supplied : Option (List Byte × List Byte)) (s : State) :
    exec (.cpriBasicFrameTx lane supplied) s = execCpriBasicFrameTx lane supplied s := rfl
theorem exec_seamLinkEnable (requester link : Nat) (control : Half) (s : State) :
    exec (.seamLinkEnable requester link control) s = execSeamLinkEnable requester link control s := rfl
theorem exec_seamCodewordReceive (place : LinkLane) (errors uncorrectable : Bool) (blocks : CodewordBlocks) (s : State) :
    exec (.seamCodewordReceive place errors uncorrectable blocks) s = execSeamCodewordReceive place errors uncorrectable blocks s := rfl
theorem exec_seamIdentReceive (link self boltId peerLink : Nat) (leader : Bool) (s : State) :
    exec (.seamIdentReceive link self boltId peerLink leader) s = execSeamIdentReceive link self boltId peerLink leader s := rfl
theorem exec_seamUnitReceive (link : Nat) (header : SeamHeader) (unit : SeamUnit) (route : BitVec 80) (errors : List (BitVec 80)) (s : State) :
    exec (.seamUnitReceive link header unit route errors) s = execSeamUnitReceive link header unit route errors s := rfl
theorem exec_seamUnitSend (link : Nat) (s : State) : exec (.seamUnitSend link) s = execSeamUnitSend link s := rfl
theorem exec_seamAckSend (link : Nat) (s : State) : exec (.seamAckSend link) s = execSeamAckSend link s := rfl
theorem exec_seamAckReceive (link seq : Nat) (s : State) :
    exec (.seamAckReceive link seq) s = execSeamAckReceive link seq s := rfl
theorem exec_seamNakReceive (link seq : Nat) (s : State) :
    exec (.seamNakReceive link seq) s = execSeamNakReceive link seq s := rfl
theorem exec_seamNakResendTimeout (link : Nat) (s : State) :
    exec (.seamNakResendTimeout link) s = execSeamNakResendTimeout link s := rfl
theorem exec_seamReplayTimeout (link : Nat) (s : State) :
    exec (.seamReplayTimeout link) s = execSeamReplayTimeout link s := rfl
theorem exec_seamPowerReceive (link op index : Nat) (s : State) :
    exec (.seamPowerReceive link op index) s = execSeamPowerReceive link op index s := rfl
theorem exec_seamLaneQuiet (lane : Nat) (s : State) : exec (.seamLaneQuiet lane) s = execSeamLaneQuiet lane s := rfl
theorem exec_seamTimeReceive (link tick delay : Nat) (s : State) :
    exec (.seamTimeReceive link tick delay) s = execSeamTimeReceive link tick delay s := rfl
theorem exec_boltFormAlone (reachable : Bool) (s : State) :
    exec (.boltFormAlone reachable) s = execBoltFormAlone reachable s := rfl
theorem exec_boltJoin (nonce : List Byte) (most : Nat) (s : State) :
    exec (.boltJoin nonce most) s = execBoltJoin nonce most s := rfl
theorem exec_boltChal (s : State) : exec .boltChal s = execBoltChal s := rfl
theorem exec_boltProof (measured : Nat) (s : State) : exec (.boltProof measured) s = execBoltProof measured s := rfl
theorem exec_boltAdmit (s : State) : exec .boltAdmit s = execBoltAdmit s := rfl
theorem exec_boltRefuse (s : State) : exec .boltRefuse s = execBoltRefuse s := rfl
theorem exec_boltAdmissionTimeout (s : State) : exec .boltAdmissionTimeout s = execBoltAdmissionTimeout s := rfl
theorem exec_epochChangePropose (links : List (Nat × Nat × Nat)) (rights : List (Nat × Nat × SeamRights)) (eligible : Nat) (s : State) :
    exec (.epochChangePropose links rights eligible) s = execEpochChangePropose links rights eligible s := rfl
theorem exec_epochChangeReceive (s : State) : exec .epochChangeReceive s = execEpochChangeReceive s := rfl
theorem exec_epochChangeDecide (s : State) : exec .epochChangeDecide s = execEpochChangeDecide s := rfl
theorem exec_epochCommitReceive (s : State) : exec .epochCommitReceive s = execEpochCommitReceive s := rfl
theorem exec_epochAbandonReceive (s : State) : exec .epochAbandonReceive s = execEpochAbandonReceive s := rfl
theorem exec_epochChangeApply (s : State) : exec .epochChangeApply s = execEpochChangeApply s := rfl
theorem exec_epochWindowSwitch (s : State) : exec .epochWindowSwitch s = execEpochWindowSwitch s := rfl
theorem exec_epochChangeNoOutcome (s : State) : exec .epochChangeNoOutcome s = execEpochChangeNoOutcome s := rfl
theorem exec_boltHeartbeatSend (s : State) : exec .boltHeartbeatSend s = execBoltHeartbeatSend s := rfl
theorem exec_boltHeartbeatReceive (s : State) : exec .boltHeartbeatReceive s = execBoltHeartbeatReceive s := rfl
theorem exec_boltPeerLost (peer : Nat) (first : Bool) (s : State) :
    exec (.boltPeerLost peer first) s = execBoltPeerLost peer first s := rfl
theorem exec_boltCommandJoin (nonce : List Byte) (s : State) :
    exec (.boltCommandJoin nonce) s = execBoltCommandJoin nonce s := rfl
theorem exec_boltCommandLeave (s : State) : exec .boltCommandLeave s = execBoltCommandLeave s := rfl
theorem exec_boltCommandRepublish (s : State) : exec .boltCommandRepublish s = execBoltCommandRepublish s := rfl
theorem exec_remoteReadTimeout (s : State) : exec .remoteReadTimeout s = execRemoteReadTimeout s := rfl
theorem exec_peerEventReceive (s : State) : exec .peerEventReceive s = execPeerEventReceive s := rfl
theorem exec_seamPeerEvtPop (requester : Nat) (s : State) :
    exec (.seamPeerEvtPop requester) s = execSeamPeerEvtPop requester s := rfl
theorem exec_memoryReadRequest (unit : Requester) (address words : Nat) (upsets : List (BitVec 80)) (s : State) :
    exec (.memoryReadRequest unit address words upsets) s = execMemoryReadRequest unit address words upsets s := rfl
theorem exec_memoryWriteRequest (unit : Requester) (address : Nat) (data : List (Option Byte)) (upsets : List (BitVec 80)) (s : State) :
    exec (.memoryWriteRequest unit address data upsets) s = execMemoryWriteRequest unit address data upsets s := rfl
theorem exec_scrubRead (memid word : Nat) (upset : BitVec 80) (s : State) :
    exec (.scrubRead memid word upset) s = execScrubRead memid word upset s := rfl
theorem exec_darningWatchExpire (memid word : Nat) (s : State) :
    exec (.darningWatchExpire memid word) s = execDarningWatchExpire memid word s := rfl
theorem exec_rowRepairCopyDone (s : State) : exec .rowRepairCopyDone s = execRowRepairCopyDone s := rfl
theorem exec_dramRequest (channel sub : Nat) (arrivals : List (Nat × Bool × Nat × Nat × Nat)) (s : State) :
    exec (.dramRequest channel sub arrivals) s = execDramRequest channel sub arrivals s := rfl
theorem exec_dramRhThrottleEnd (channel unit : Nat) (s : State) :
    exec (.dramRhThrottleEnd channel unit) s = execDramRhThrottleEnd channel unit s := rfl
theorem exec_dramRhWindowEnd (channel : Nat) (s : State) :
    exec (.dramRhWindowEnd channel) s = execDramRhWindowEnd channel s := rfl
theorem exec_dramPortUrgent (port : Nat) (s : State) : exec (.dramPortUrgent port) s = execDramPortUrgent port s := rfl
theorem exec_dramRefresh (channel rank : Nat) (pull : Bool) (s : State) :
    exec (.dramRefresh channel rank pull) s = execDramRefresh channel rank pull s := rfl
theorem exec_dramTempPoll (channel rank rate : Nat) (s : State) :
    exec (.dramTempPoll channel rank rate) s = execDramTempPoll channel rank rate s := rfl
theorem exec_dramZqCal (channel rank : Nat) (s : State) :
    exec (.dramZqCal channel rank) s = execDramZqCal channel rank s := rfl
theorem exec_dramDqsOscRead (channel rank : Nat) (drift : Int) (inRange : Bool) (s : State) :
    exec (.dramDqsOscRead channel rank drift inRange) s = execDramDqsOscRead channel rank drift inRange s := rfl
theorem exec_dramRankRetrain (channel rank blocked : Nat) (s : State) :
    exec (.dramRankRetrain channel rank blocked) s = execDramRankRetrain channel rank blocked s := rfl
theorem exec_dramPowerDown (channel rank : Nat) (s : State) :
    exec (.dramPowerDown channel rank) s = execDramPowerDown channel rank s := rfl
theorem exec_dramSelfRefreshEntry (channel rank : Nat) (s : State) :
    exec (.dramSelfRefreshEntry channel rank) s = execDramSelfRefreshEntry channel rank s := rfl
theorem exec_dramSelfRefreshExit (channel rank : Nat) (s : State) :
    exec (.dramSelfRefreshExit channel rank) s = execDramSelfRefreshExit channel rank s := rfl
theorem exec_dramRowRepair (chip : Nat) (row : List Nat) (resource : Bool) (blocked : Nat) (s : State) :
    exec (.dramRowRepair chip row resource blocked) s = execDramRowRepair chip row resource blocked s := rfl
theorem exec_dramRetireRankCommand (value : Nat) (s : State) :
    exec (.dramRetireRankCommand value) s = execDramRetireRankCommand value s := rfl
theorem exec_dramMigrationRegion (channel : Nat) (s : State) :
    exec (.dramMigrationRegion channel) s = execDramMigrationRegion channel s := rfl
theorem exec_dramXlate (requester : Nat) (address : Word) (s : State) :
    exec (.dramXlate requester address) s = execDramXlate requester address s := rfl
theorem exec_dmaChEnable (requester channel prio : Nat) (s : State) :
    exec (.dmaChEnable requester channel prio) s = execDmaChEnable requester channel prio s := rfl
theorem exec_dmaChDisable (requester channel prio : Nat) (s : State) :
    exec (.dmaChDisable requester channel prio) s = execDmaChDisable requester channel prio s := rfl
theorem exec_dmaRing (requester channel : Nat) (s : State) :
    exec (.dmaRing requester channel) s = execDmaRing requester channel s := rfl
theorem exec_dmaTrig (requester channel : Nat) (s : State) :
    exec (.dmaTrig requester channel) s = execDmaTrig requester channel s := rfl
theorem exec_dmaChSreset (requester channel : Nat) (s : State) :
    exec (.dmaChSreset requester channel) s = execDmaChSreset requester channel s := rfl
theorem exec_dmaTriggerArrive (s : State) : exec .dmaTriggerArrive s = execDmaTriggerArrive s := rfl
theorem exec_dmaTriggerQueuePop (channel : Nat) (s : State) :
    exec (.dmaTriggerQueuePop channel) s = execDmaTriggerQueuePop channel s := rfl
theorem exec_dmaChLinksWrite (requester channel : Nat) (value : Half) (s : State) :
    exec (.dmaChLinksWrite requester channel value) s = execDmaChLinksWrite requester channel value s := rfl
theorem exec_dmaDescriptorFetch (channel : Nat) (s : State) :
    exec (.dmaDescriptorFetch channel) s = execDmaDescriptorFetch channel s := rfl
theorem exec_dmaTriggerTake (channel : Nat) (s : State) :
    exec (.dmaTriggerTake channel) s = execDmaTriggerTake channel s := rfl
theorem exec_dmaBurst (engine : Nat) (s : State) : exec (.dmaBurst engine) s = execDmaBurst engine s := rfl
theorem exec_dmaDescriptorComplete (channel : Nat) (s : State) :
    exec (.dmaDescriptorComplete channel) s = execDmaDescriptorComplete channel s := rfl
theorem exec_dmaLinkReread (channel : Nat) (s : State) :
    exec (.dmaLinkReread channel) s = execDmaLinkReread channel s := rfl
theorem exec_quiltBegin (requester patch : Nat) (s : State) :
    exec (.quiltBegin requester patch) s = execQuiltBegin requester patch s := rfl
theorem exec_quiltStart (requester patch : Nat) (s : State) :
    exec (.quiltStart requester patch) s = execQuiltStart requester patch s := rfl
theorem exec_quiltStop (requester patch : Nat) (s : State) :
    exec (.quiltStop requester patch) s = execQuiltStop requester patch s := rfl
theorem exec_quiltAbort (requester patch : Nat) (s : State) :
    exec (.quiltAbort requester patch) s = execQuiltAbort requester patch s := rfl
theorem exec_quiltReadFrame (requester patch : Nat) (s : State) :
    exec (.quiltReadFrame requester patch) s = execQuiltReadFrame requester patch s := rfl
theorem exec_quiltReset (requester patch : Nat) (s : State) :
    exec (.quiltReset requester patch) s = execQuiltReset requester patch s := rfl
theorem exec_quiltAuthorize (requester patch : Nat) (s : State) :
    exec (.quiltAuthorize requester patch) s = execQuiltAuthorize requester patch s := rfl
theorem exec_quiltStreamWord (patch : Nat) (s : State) :
    exec (.quiltStreamWord patch) s = execQuiltStreamWord patch s := rfl
theorem exec_qpFdroRead (requester patch : Nat) (s : State) :
    exec (.qpFdroRead requester patch) s = execQpFdroRead requester patch s := rfl
theorem exec_qpEndpointBind (requester patch endpoint : Nat) (out : Bool) (value : Half) (s : State) :
    exec (.qpEndpointBind requester patch endpoint out value) s = execQpEndpointBind requester patch endpoint out value s := rfl
theorem exec_quiltUserEvent (patch output : Nat) (level : Bool) (s : State) :
    exec (.quiltUserEvent patch output level) s = execQuiltUserEvent patch output level s := rfl
theorem exec_quiltPoisonRead (patch block word : Nat) (s : State) :
    exec (.quiltPoisonRead patch block word) s = execQuiltPoisonRead patch block word s := rfl
theorem exec_scrubSweepStart (upsets : List (Nat × Nat)) (s : State) :
    exec (.scrubSweepStart upsets) s = execScrubSweepStart upsets s := rfl
theorem exec_quiltFrameScrub (upsets : List (BitVec 80)) (lost : Bool) (s : State) :
    exec (.quiltFrameScrub upsets lost) s = execQuiltFrameScrub upsets lost s := rfl
theorem exec_firmwareQuiltSweep (upsets : List (Nat × Nat × List (BitVec 80) × Bool)) (s : State) :
    exec (.firmwareQuiltSweep upsets) s = execFirmwareQuiltSweep upsets s := rfl
theorem exec_hostLinkRetrain (cause requester value repaired0 width0 repaired1 width1 : Nat) (s : State) :
    exec (.hostLinkRetrain cause requester value repaired0 width0 repaired1 width1) s = execHostLinkRetrain cause requester value repaired0 width0 repaired1 width1 s := rfl
theorem exec_hostLinkDown (s : State) : exec .hostLinkDown s = execHostLinkDown s := rfl
theorem exec_hostLinkDownTimeout (s : State) : exec .hostLinkDownTimeout s = execHostLinkDownTimeout s := rfl
theorem exec_hostLinkUp (rate repaired0 width0 repaired1 width1 : Nat) (s : State) :
    exec (.hostLinkUp rate repaired0 width0 repaired1 width1) s = execHostLinkUp rate repaired0 width0 repaired1 width1 s := rfl
theorem exec_hostMemoryRead (function : Nat) (window : HostWindow) (offset bytes : Nat) (upsets : List (BitVec 80)) (s : State) :
    exec (.hostMemoryRead function window offset bytes upsets) s = execHostMemoryRead function window offset bytes upsets s := rfl
theorem exec_hostMemoryWrite (function : Nat) (window : HostWindow) (offset : Nat) (data : List (Option Byte)) (poisoned : Bool) (upsets : List (BitVec 80)) (s : State) :
    exec (.hostMemoryWrite function window offset data poisoned upsets) s = execHostMemoryWrite function window offset data poisoned upsets s := rfl
theorem exec_hostCompletionReceive (unit addr status : Nat) (ring : Option Nat) (data : List Word) (s : State) :
    exec (.hostCompletionReceive unit addr status ring data) s = execHostCompletionReceive unit addr status ring data s := rfl
theorem exec_hostCompletionTimeout (unit addr words : Nat) (ring : Option Nat) (s : State) :
    exec (.hostCompletionTimeout unit addr words ring) s = execHostCompletionTimeout unit addr words ring s := rfl
theorem exec_hostRingEnable (requester function ring : Nat) (config : Half) (s : State) :
    exec (.hostRingEnable requester function ring config) s = execHostRingEnable requester function ring config s := rfl
theorem exec_hostRingDisable (requester function ring : Nat) (config : Half) (s : State) :
    exec (.hostRingDisable requester function ring config) s = execHostRingDisable requester function ring config s := rfl
theorem exec_hostRingDoorbell (requester function ring index : Nat) (s : State) :
    exec (.hostRingDoorbell requester function ring index) s = execHostRingDoorbell requester function ring index s := rfl
theorem exec_hostRingEntryPush (function ring : Nat) (entry : List Word) (s : State) :
    exec (.hostRingEntryPush function ring entry) s = execHostRingEntryPush function ring entry s := rfl
theorem exec_hostRingEntryWrite (function ring : Nat) (s : State) :
    exec (.hostRingEntryWrite function ring) s = execHostRingEntryWrite function ring s := rfl
theorem exec_eventRaise (event info : Nat) (s : State) :
    exec (.eventRaise event info) s = execEventRaise event info s := rfl
theorem exec_mailboxGo (requester function : Nat) (control : Half) (s : State) :
    exec (.mailboxGo requester function control) s = execMailboxGo requester function control s := rfl
theorem exec_mailboxTimeout (function : Nat) (s : State) :
    exec (.mailboxTimeout function) s = execMailboxTimeout function s := rfl
theorem exec_functionLevelReset (function : Nat) (s : State) :
    exec (.functionLevelReset function) s = execFunctionLevelReset function s := rfl
theorem exec_hotReset (s : State) : exec .hotReset s = execHotReset s := rfl
theorem exec_swatchOpen (via : SwatchVia) (bytes : List Byte) (sensed : List Sensed) (s : State) :
    exec (.swatchOpen via bytes sensed) s = execSwatchOpen via bytes sensed s := rfl
theorem exec_swatchProof (via : SwatchVia) (bytes : List Byte) (sensed : List Sensed) (s : State) :
    exec (.swatchProof via bytes sensed) s = execSwatchProof via bytes sensed s := rfl
theorem exec_swatchOpenTimeout (session : Nat) (s : State) :
    exec (.swatchOpenTimeout session) s = execSwatchOpenTimeout session s := rfl
theorem exec_swatchRead (via : SwatchVia) (bytes : List Byte) (sensed : List Sensed) (s : State) :
    exec (.swatchRead via bytes sensed) s = execSwatchRead via bytes sensed s := rfl
theorem exec_swatchWrite (via : SwatchVia) (bytes : List Byte) (sensed : List Sensed) (s : State) :
    exec (.swatchWrite via bytes sensed) s = execSwatchWrite via bytes sensed s := rfl
theorem exec_swatchDescribe (via : SwatchVia) (bytes : List Byte) (sensed : List Sensed) (s : State) :
    exec (.swatchDescribe via bytes sensed) s = execSwatchDescribe via bytes sensed s := rfl
theorem exec_swatchSubscribe (via : SwatchVia) (bytes : List Byte) (sensed : List Sensed) (s : State) :
    exec (.swatchSubscribe via bytes sensed) s = execSwatchSubscribe via bytes sensed s := rfl
theorem exec_swatchUnsubscribe (via : SwatchVia) (bytes : List Byte) (sensed : List Sensed) (s : State) :
    exec (.swatchUnsubscribe via bytes sensed) s = execSwatchUnsubscribe via bytes sensed s := rfl
theorem exec_swatchPoll (via : SwatchVia) (bytes : List Byte) (sensed : List Sensed) (s : State) :
    exec (.swatchPoll via bytes sensed) s = execSwatchPoll via bytes sensed s := rfl
theorem exec_swatchKeepalive (via : SwatchVia) (bytes : List Byte) (sensed : List Sensed) (s : State) :
    exec (.swatchKeepalive via bytes sensed) s = execSwatchKeepalive via bytes sensed s := rfl
theorem exec_swatchClose (via : SwatchVia) (bytes : List Byte) (sensed : List Sensed) (s : State) :
    exec (.swatchClose via bytes sensed) s = execSwatchClose via bytes sensed s := rfl
theorem exec_swatchNotify (session sub subindex : Nat) (s : State) :
    exec (.swatchNotify session sub subindex) s = execSwatchNotify session sub subindex s := rfl
theorem exec_swatchRelay (via : SwatchVia) (bytes : List Byte) (s : State) :
    exec (.swatchRelay via bytes) s = execSwatchRelay via bytes s := rfl
theorem exec_swatchSessionIdleTimeout (session : Nat) (s : State) :
    exec (.swatchSessionIdleTimeout session) s = execSwatchSessionIdleTimeout session s := rfl
theorem exec_rwsApply (s : State) : exec .rwsApply s = execRwsApply s := rfl
theorem exec_storeCompact (s : State) : exec .storeCompact s = execStoreCompact s := rfl
theorem exec_storeClear (session value : Nat) (s : State) :
    exec (.storeClear session value) s = execStoreClear session value s := rfl
theorem exec_toleranceWrite (group us : Nat) (hits : List (Nat × Nat)) (s : State) :
    exec (.toleranceWrite group us hits) s = execToleranceWrite group us hits s := rfl
theorem exec_nextUseReceive (hits : List (Nat × Nat)) (s : State) :
    exec (.nextUseReceive hits) s = execNextUseReceive hits s := rfl
theorem exec_islandQuietExpire (island quiet : Nat) (s : State) :
    exec (.islandQuietExpire island quiet) s = execIslandQuietExpire island quiet s := rfl
theorem exec_islandEntryStep (island : Nat) (s : State) :
    exec (.islandEntryStep island) s = execIslandEntryStep island s := rfl
theorem exec_powerVoteRetry (hits : List (Nat × Nat)) (s : State) :
    exec (.powerVoteRetry hits) s = execPowerVoteRetry hits s := rfl
theorem exec_islandPrewake (island : Nat) (s : State) :
    exec (.islandPrewake island) s = execIslandPrewake island s := rfl
theorem exec_islandWakeRequest (island : Nat) (bank : Option Nat) (s : State) :
    exec (.islandWakeRequest island bank) s = execIslandWakeRequest island bank s := rfl
theorem exec_islandWakeComplete (island : Nat) (s : State) :
    exec (.islandWakeComplete island) s = execIslandWakeComplete island s := rfl
theorem exec_retentionBankSweepDone (memid : Nat) (upsets : List (Nat × BitVec 80)) (corrected : Nat) (lost : Bool) (s : State) :
    exec (.retentionBankSweepDone memid upsets corrected lost) s = execRetentionBankSweepDone memid upsets corrected lost s := rfl
theorem exec_wakePin (s : State) : exec .wakePin s = execWakePin s := rfl
theorem exec_pmEndDeepHold (s : State) : exec .pmEndDeepHold s = execPmEndDeepHold s := rfl
theorem exec_pmDeviceDeep (hits : List (Nat × Nat)) (s : State) :
    exec (.pmDeviceDeep hits) s = execPmDeviceDeep hits s := rfl
theorem exec_pmDeviceOff (s : State) : exec .pmDeviceOff s = execPmDeviceOff s := rfl
theorem exec_upsetReport (cls ident : Nat) (s : State) :
    exec (.upsetReport cls ident) s = execUpsetReport cls ident s := rfl
theorem exec_unitRetire (cls ident cause : Nat) (s : State) :
    exec (.unitRetire cls ident cause) s = execUnitRetire cls ident cause s := rfl
theorem exec_faultRetireCommand (value : Nat) (s : State) :
    exec (.faultRetireCommand value) s = execFaultRetireCommand value s := rfl
theorem exec_faultReinstateCommand (record : Nat) (s : State) :
    exec (.faultReinstateCommand record) s = execFaultReinstateCommand record s := rfl
theorem exec_panelReset (requester panel : Nat) (s : State) :
    exec (.panelReset requester panel) s = execPanelReset requester panel s := rfl
theorem exec_faultWarmResetCommand (session value : Nat) (s : State) :
    exec (.faultWarmResetCommand session value) s = execFaultWarmResetCommand session value s := rfl
theorem exec_warmNAssert (s : State) : exec .warmNAssert s = execWarmNAssert s := rfl
theorem exec_warmReset (cause : Nat) (link : Nat × Nat × Nat × Nat × Nat) (s : State) :
    exec (.warmReset cause link) s = execWarmReset cause link s := rfl
theorem exec_thimbleCheckpoint (s : State) : exec .thimbleCheckpoint s = execThimbleCheckpoint s := rfl
theorem exec_thimbleFailover (pair : Nat) (s : State) :
    exec (.thimbleFailover pair) s = execThimbleFailover pair s := rfl
theorem exec_thimbleRestart (passes : List Nat) (s : State) :
    exec (.thimbleRestart passes) s = execThimbleRestart passes s := rfl
theorem exec_coldBoot (failed : List (Nat × Nat)) (badCopies badRecords : List Nat) (config untrained : List (Nat × Nat)) (link : Nat × Nat × Nat × Nat × Nat) (s : State) :
    exec (.coldBoot failed badCopies badRecords config untrained link) s = execColdBoot failed badCopies badRecords config untrained link s := rfl
theorem exec_fwUpdate (session address : Nat) (programmed : Bool) (s : State) :
    exec (.fwUpdate session address programmed) s = execFwUpdate session address programmed s := rfl
theorem exec_fwSwitch (session : Nat) (s : State) : exec (.fwSwitch session) s = execFwSwitch session s := rfl
theorem exec_fwConfirm (session : Nat) (s : State) : exec (.fwConfirm session) s = execFwConfirm session s := rfl
theorem exec_fwRevert (session : Nat) (s : State) : exec (.fwRevert session) s = execFwRevert session s := rfl
theorem exec_fwTrialTimeout (s : State) : exec .fwTrialTimeout s = execFwTrialTimeout s := rfl
theorem exec_fwRaiseFwSvn (session millivolts : Nat) (s : State) :
    exec (.fwRaiseFwSvn session millivolts) s = execFwRaiseFwSvn session millivolts s := rfl
theorem exec_fwRaiseMbSvn (session millivolts : Nat) (s : State) :
    exec (.fwRaiseMbSvn session millivolts) s = execFwRaiseMbSvn session millivolts s := rfl
theorem exec_attestNonceWrite (session : Nat) (nonce : List Byte) (s : State) :
    exec (.attestNonceWrite session nonce) s = execAttestNonceWrite session nonce s := rfl
theorem exec_attestReportRead (session : Nat) (s : State) :
    exec (.attestReportRead session) s = execAttestReportRead session s := rfl
theorem exec_keySlot0Write (session : Nat) (value : List Byte) (millivolts : Nat) (s : State) :
    exec (.keySlot0Write session value millivolts) s = execKeySlot0Write session value millivolts s := rfl
theorem exec_keySlot1Write (session : Nat) (value : List Byte) (s : State) :
    exec (.keySlot1Write session value) s = execKeySlot1Write session value s := rfl
theorem exec_fuseCustKey (session : Nat) (value : List Byte) (millivolts : Nat) (s : State) :
    exec (.fuseCustKey session value millivolts) s = execFuseCustKey session value millivolts s := rfl
theorem exec_fuseRevoke (session key millivolts : Nat) (s : State) :
    exec (.fuseRevoke session key millivolts) s = execFuseRevoke session key millivolts s := rfl
theorem exec_fusePolicy (session value millivolts : Nat) (s : State) :
    exec (.fusePolicy session value millivolts) s = execFusePolicy session value millivolts s := rfl
theorem exec_imageLoad (session : Nat) (value : List Byte) (s : State) :
    exec (.imageLoad session value) s = execImageLoad session value s := rfl
theorem exec_quiltAuth (session : Nat) (value : List Byte) (s : State) :
    exec (.quiltAuth session value) s = execQuiltAuth session value s := rfl
theorem exec_diagChallenge (session : Nat) (nonce : List Byte) (s : State) :
    exec (.diagChallenge session nonce) s = execDiagChallenge session nonce s := rfl
theorem exec_diagUnlock (session : Nat) (signature : List Byte) (s : State) :
    exec (.diagUnlock session signature) s = execDiagUnlock session signature s := rfl
theorem exec_tamper (s : State) : exec .tamper s = execTamper s := rfl
theorem exec_mbFramingStore (session address : Nat) (programmed : Bool) (s : State) :
    exec (.mbFramingStore session address programmed) s = execMbFramingStore session address programmed s := rfl
theorem exec_thermWarn (readings : List (Nat × Int)) (s : State) :
    exec (.thermWarn readings) s = execThermWarn readings s := rfl
theorem exec_throttleStep (readings : List (Nat × Int)) (s : State) :
    exec (.throttleStep readings) s = execThrottleStep readings s := rfl
theorem exec_throttleReleaseStep (readings : List (Nat × Int)) (s : State) :
    exec (.throttleReleaseStep readings) s = execThrottleReleaseStep readings s := rfl
theorem exec_thermalTrip (readings : List (Nat × Int)) (s : State) :
    exec (.thermalTrip readings) s = execThermalTrip readings s := rfl
theorem exec_thermalTripRelease (readings : List (Nat × Int)) (s : State) :
    exec (.thermalTripRelease readings) s = execThermalTripRelease readings s := rfl
theorem exec_supplyAlert (s : State) : exec .supplyAlert s = execSupplyAlert s := rfl
theorem exec_mbCoreRelease (requester slot core : Nat) (s : State) :
    exec (.mbCoreRelease requester slot core) s = execMbCoreRelease requester slot core s := rfl
theorem exec_mbCoreStart (requester slot core address : Nat) (s : State) :
    exec (.mbCoreStart requester slot core address) s = execMbCoreStart requester slot core address s := rfl
theorem exec_mbCoreStop (requester slot core : Nat) (s : State) :
    exec (.mbCoreStop requester slot core) s = execMbCoreStop requester slot core s := rfl
theorem exec_mbCoreClearFault (requester slot core : Nat) (s : State) :
    exec (.mbCoreClearFault requester slot core) s = execMbCoreClearFault requester slot core s := rfl
theorem exec_mbCmdqDoorbell (requester slot queue : Nat) (commands : List MbCommand) (s : State) :
    exec (.mbCmdqDoorbell requester slot queue commands) s = execMbCmdqDoorbell requester slot queue commands s := rfl
theorem exec_mbCmdqCompletion (slot queue : Nat) (s : State) :
    exec (.mbCmdqCompletion slot queue) s = execMbCmdqCompletion slot queue s := rfl
theorem exec_mbCounterWrite (requester slot : Nat) (value : Word) (s : State) :
    exec (.mbCounterWrite requester slot value) s = execMbCounterWrite requester slot value s := rfl
theorem exec_mbTimerSet (requester slot timer : Nat) (value : Word) (s : State) :
    exec (.mbTimerSet requester slot timer value) s = execMbTimerSet requester slot timer value s := rfl
theorem exec_mbEndOfInterrupt (requester slot vector : Nat) (s : State) :
    exec (.mbEndOfInterrupt requester slot vector) s = execMbEndOfInterrupt requester slot vector s := rfl
theorem exec_mbMailboxCommand (requester slot command argument : Nat) (board : Bool) (s : State) :
    exec (.mbMailboxCommand requester slot command argument board) s = execMbMailboxCommand requester slot command argument board s := rfl
theorem exec_jtagExtest (levels : List Bool) (s : State) : exec (.jtagExtest levels) s = execJtagExtest levels s := rfl
theorem exec_jtagSamplePreload (levels preload : List Bool) (s : State) :
    exec (.jtagSamplePreload levels preload) s = execJtagSamplePreload levels preload s := rfl
theorem exec_jtagBypass (tdi : List Bool) (s : State) : exec (.jtagBypass tdi) s = execJtagBypass tdi s := rfl
theorem exec_jtagIdcode (s : State) : exec .jtagIdcode s = execJtagIdcode s := rfl
theorem exec_timeBaseReferencePeriod (lags : List (Nat × Nat)) (s : State) :
    exec (.timeBaseReferencePeriod lags) s = execTimeBaseReferencePeriod lags s := rfl
theorem exec_todMessageMissing (s : State) : exec .todMessageMissing s = execTodMessageMissing s := rfl
theorem exec_laneReferenceLost (s : State) : exec .laneReferenceLost s = execLaneReferenceLost s := rfl
theorem exec_seamTimeBlockSend (link : Nat) (s : State) :
    exec (.seamTimeBlockSend link) s = execSeamTimeBlockSend link s := rfl
theorem exec_seamIdentBlockSend (link : Nat) (s : State) :
    exec (.seamIdentBlockSend link) s = execSeamIdentBlockSend link s := rfl
theorem exec_boltJoinRetry (nonce : List Byte) (s : State) :
    exec (.boltJoinRetry nonce) s = execBoltJoinRetry nonce s := rfl
theorem exec_pcsRemoteFault (port : Nat) (localFault remoteFault : Bool) (s : State) :
    exec (.pcsRemoteFault port localFault remoteFault) s = execPcsRemoteFault port localFault remoteFault s := rfl
theorem exec_thimblePairSelfTestDone (pair : Nat) (passes : Bool) (s : State) :
    exec (.thimblePairSelfTestDone pair passes) s = execThimblePairSelfTestDone pair passes s := rfl
theorem exec_porNAssert (s : State) : exec .porNAssert s = execPorNAssert s := rfl
theorem exec_vbatLoss (s : State) : exec .vbatLoss s = execVbatLoss s := rfl
theorem exec_illegalEncoding (engine : Nat) (word : Option Half) (s : State) :
    exec (.illegalEncoding engine word) s = execIllegalEncoding engine word s := rfl

end Sys2Proof.Machine
end

