-- ==== Sys2Proof/Laws/Engine.lean ====
section
/-!
SUPPORT. Engines: what an instruction that only changes engine registers leads to where no asynchronous cause waits, and
what the updates of an engine leave as it is.
-/

namespace Sys2Proof.Machine

/-- Of two values written at one key the last stays. -/
theorem Tab.set_set {α : Type} (t : Tab α) (k : Nat) (v w : α) : (t.set k v).set k w = t.set k w := by
  induction t with
  | nil => simp [Tab.set]
  | cons e r ih =>
    obtain ⟨j, x⟩ := e
    by_cases h : j < k
    · simp [Tab.set, h, ih]
    · by_cases hj : j = k <;> simp [Tab.set, h, hj]

/-- An update of an engine that leaves its program counter and what is taken between instructions as they are. -/
structure Engine.Calm (e f : Engine) : Prop where
  pc : f.pc = e.pc
  late : f.late = e.late
  inbox : f.inbox = e.inbox

theorem Engine.Calm.refl (e : Engine) : e.Calm e := ⟨rfl, rfl, rfl⟩

theorem Engine.Calm.trans {e f h : Engine} (a : e.Calm f) (b : f.Calm h) : e.Calm h :=
  ⟨b.pc.trans a.pc, b.late.trans a.late, b.inbox.trans a.inbox⟩

theorem Engine.Calm.foldl {α : Type} (l : List α) (f : Engine → α → Engine) (h : ∀ (e : Engine) x, e.Calm (f e x)) (e : Engine) :
    e.Calm (l.foldl f e) := by
  induction l generalizing e with
  | nil => exact .refl e
  | cons x l ih => exact (h e x).trans (ih _)

theorem Engine.calm_setReg (e : Engine) (i : BitVec 5) (v : Word) : e.Calm (e.setReg i v) := by
  unfold Engine.setReg; split <;> exact ⟨rfl, rfl, rfl⟩
theorem Engine.calm_setVec (e : Engine) (i : BitVec 5) (x : Vec) : e.Calm (e.setVec i x) := ⟨rfl, rfl, rfl⟩
theorem Engine.calm_setAcc (e : Engine) (k : BitVec 2) (v : Int) : e.Calm (e.setAcc k v) := ⟨rfl, rfl, rfl⟩
theorem Engine.calm_orSat (e : Engine) (b : Bool) : e.Calm (e.orSat b) := by
  unfold Engine.orSat; split <;> exact ⟨rfl, rfl, rfl⟩
theorem Engine.calm_orAsat (e : Engine) (b : Bool) : e.Calm (e.orAsat b) := by
  unfold Engine.orAsat; split <;> exact ⟨rfl, rfl, rfl⟩
theorem Engine.calm_accumulate (e : Engine) (k : BitVec 2) (v : Int) : e.Calm (e.accumulate k v) :=
  (calm_setAcc e k _).trans (calm_orAsat _ _)
theorem Engine.calm_macr (e : Engine) (sign : Int) (x y : Word) : e.Calm (e.macr sign x y) :=
  (((calm_accumulate e _ _).trans (calm_accumulate _ _ _)).trans (calm_accumulate _ _ _)).trans (calm_accumulate _ _ _)
theorem Engine.calm_cmac (e : Engine) (conj p : Bool) (a b c d : Int) : e.Calm (e.cmac conj p a b c d) :=
  (calm_accumulate e _ _).trans (calm_accumulate _ _ _)
theorem Engine.calm_candidate (e : Engine) (i : Nat) (k : BitVec 32) (f : BitVec 32 → BitVec 32 → Bool) :
    e.Calm (e.candidate i k f) := by
  unfold Engine.candidate; split <;> exact ⟨rfl, rfl, rfl⟩
theorem Engine.calm_search (e : Engine) (l : List (BitVec 32)) (f : BitVec 32 → BitVec 32 → Bool) :
    e.Calm (e.search l f) := by
  have := Calm.foldl (l.zipIdx) (fun (e : Engine) p => e.candidate p.2 p.1 f) (fun e x => calm_candidate e _ _ _) e
  exact ⟨this.pc, this.late, this.inbox⟩
theorem Engine.calm_vParts (e : Engine) (t : ElemType) (n : Nat) (d : BitVec 5) (f : Nat → Int × Bool) :
    e.Calm (e.vParts t n d f) := (calm_setVec e d _).trans (calm_orSat _ _)
theorem Engine.calm_vMac (e : Engine) (n : Nat) (x y : BitVec 5) (acc : Engine → BitVec 2 → Int → Int → Engine)
    (h : ∀ (e : Engine) k a b, e.Calm (acc e k a b)) : e.Calm (e.vMac n x y acc) := Calm.foldl _ _ (fun _ _ => h _ _ _ _) e
theorem Engine.calm_vCmac (e : Engine) (n : Nat) (x y : BitVec 5) (acc : Engine → Int × Int → Int × Int → Engine)
    (h : ∀ (e : Engine) a b, e.Calm (acc e a b)) : e.Calm (e.vCmac n x y acc) := Calm.foldl _ _ (fun _ _ => h _ _ _) e

/-- The engine set is the engine read. -/
@[simp] theorem State.eng_setEng (s : State) (g : Nat) (e : Engine) : (s.setEng g e).eng g = e := by
  simp [State.eng, State.setEng, State.physical, State.rf]

/-- The last of two engines set stays. -/
@[simp] theorem State.setEng_setEng (s : State) (g : Nat) (e f : Engine) : (s.setEng g e).setEng g f = s.setEng g f := by
  simp [State.setEng, State.physical, State.rf, Tab.set_set]

/-- No asynchronous cause is taken where none waits. -/
theorem State.takeAsync_calm (s : State) (g : Nat) (h1 : (s.eng g).late = false) (h2 : (s.eng g).inbox = []) :
    s.takeAsync g = s := by
  have h : (s.eng g).asyncCause = none := by
    unfold Engine.asyncCause
    rw [h1, h2]
    split <;> simp
  unfold State.takeAsync
  dsimp only
  rw [h]

/-- Retiring where no asynchronous cause waits. -/
theorem State.retireAt_calm (s : State) (g : Nat) (e : Engine) (pc : Nat) (h1 : e.late = false) (h2 : e.inbox = []) :
    s.retireAt g e pc = s.goesOn g e pc := by
  unfold State.retireAt
  exact State.takeAsync_calm _ _ (by simp [h1]) (by simp [h2])

/-- An Elryn instruction that only changes engine registers. -/
theorem State.native_runs {s : State} {g : Nat} (h : s.runsElryn g) (body : Engine → State) :
    s.native g body = body (s.eng g) := by
  unfold State.native State.execute; simp [h.1, h.2.1, h.2.2]

theorem State.mbNative_runs {s : State} {g : Nat} (h : s.runsMbDsp g) (body : Engine → State) :
    s.mbNative g body = body (s.eng g) := by
  unfold State.mbNative State.execute; simp [h.1, h.2.1, h.2.2]

/-- An engine update that keeps the program counter retires at the next word. -/
theorem State.retire_eq {s : State} {g : Nat} {e f : Engine} (hf : e.Calm f) : s.retire g f = s.retireAt g f (e.pc + 4) := by
  unfold State.retire
  rw [hf.pc]

theorem State.regOp_runs {s : State} {g : Nat} (h : s.runsElryn g) (f : Engine → Engine) (hf : ∀ e : Engine, e.Calm (f e)) :
    s.regOp g f = s.retireAt g (f (s.eng g)) ((s.eng g).pc + 4) := by
  unfold State.regOp
  rw [State.native_runs h, State.retire_eq (hf _)]

theorem State.alu_runs {s : State} {g : Nat} (h : s.runsElryn g) (d : BitVec 5) (f : Engine → Word) :
    s.alu g d f = s.retireAt g ((s.eng g).setReg d (f (s.eng g))) ((s.eng g).pc + 4) := by
  unfold State.alu
  exact State.regOp_runs h _ (fun e => Engine.calm_setReg e _ _)

theorem State.vecOp_runs {s : State} {g : Nat} (h : s.runsElryn g) (f : Engine → Engine) (hf : ∀ e : Engine, e.Calm (f e)) :
    s.vecOp g true f = s.retireAt g (f (s.eng g)) ((s.eng g).pc + 4) := by
  unfold State.vecOp
  rw [State.native_runs h]
  exact State.retire_eq (hf _)

end Sys2Proof.Machine
end

