-- ==== Sys2Proof/Laws/Island.lean ====
section
/-!
SUPPORT. What an access does at the stitches of the island it goes to (R14, R553): it takes effect where the island runs or
is the requester's own, and otherwise only notes the stall.
-/

namespace Sys2Proof.Machine

theorem State.atIsland_runs {s : State} {i : Nat} (u : Nat) (f : State → State) (h : s.islandStops i = false) :
    s.atIsland u i f = f s := by
  simp [State.atIsland, h]

theorem State.atIsland_own {i u : Nat} (s : State) (f : State → State) (h : i = islandOf u) :
    s.atIsland u i f = f s := by
  simp [State.atIsland, h]

theorem State.atIsland_waits {s : State} {i u : Nat} (f : State → State) (h : i ≠ islandOf u)
    (hs : s.islandStops i = true) : s.atIsland u i f = s.stallAt i := by
  simp [State.atIsland, h, hs]

end Sys2Proof.Machine
end

