-- ==== Sys2Proof/Laws/KeepDramMap.lean ====
section
/-!
SUPPORT. The parts of the state that the operations of Machine/DramMap.lean may write.
-/

namespace Sys2Proof.Machine

open Reg Ob

theorem State.setDch_keep {wr : Nat} {s₀ : State} (s : State) (c : Nat) (x : DramCh) (hk : Keep wr s₀ s) (hs : 4194304 &&& wr = 4194304) :
    Keep wr s₀ (State.setDch s c x) := by
  refine Keep.app hk ?_ hs
  unfold State.setDch
  repeat' (first
    | with_reducible exact Keep.refl _
    | fail_if_no_progress (with_reducible refine Keep.set_dram (by decide) ?_))

theorem State.setDrank_keep {wr : Nat} {s₀ : State} (s : State) (c r : Nat) (x : DramRank) (hk : Keep wr s₀ s) (hs : 4194304 &&& wr = 4194304) :
    Keep wr s₀ (State.setDrank s c r x) := by
  refine Keep.app hk ?_ hs
  unfold State.setDrank
  repeat' (first
    | with_reducible exact Keep.refl _
    | (fail_if_no_progress (extract_lets +onlyGivenNames x); first
        | clear_value x)
    | with_reducible apply State.setDch_keep
    | rfl)

theorem State.dramEvent_keep {wr : Nat} {s₀ : State} (s : State) (c reason : Nat) (hk : Keep wr s₀ s) (hs : 4297134100 &&& wr = 4297134100) :
    Keep wr s₀ (State.dramEvent s c reason) := by
  refine Keep.app hk ?_ hs
  unfold State.dramEvent
  repeat' (first
    | with_reducible exact Keep.refl _
    | with_reducible apply State.raiseReason_keep
    | rfl)

theorem State.degradeRank_keep {wr : Nat} {s₀ : State} (s : State) (c r : Nat) (cause : Nat) (hk : Keep wr s₀ s) (hs : 13960810612 &&& wr = 13960810612) :
    Keep wr s₀ (State.degradeRank s c r cause) := by
  refine Keep.app hk ?_ hs
  unfold State.degradeRank
  repeat' (first
    | with_reducible exact Keep.refl _
    | with_reducible assumption
    | (fail_if_no_progress (extract_lets +onlyGivenNames x); first
        | (with_reducible refine Keep.cut (t := x) ?_ ?_; (on_goal 1 => (unfold x; clear x)); (on_goal 2 => (intro hx; clear_value x)))
        | clear_value x)
    | with_reducible apply State.sf_keep
    | with_reducible apply State.so_keep
    | with_reducible apply State.recordRetirement_keep
    | with_reducible apply State.dramEvent_keep
    | with_reducible refine Keep.ite ?_ ?_
    | split
    | rfl)

theorem State.burstRead_keep {wr : Nat} {s₀ : State} (s : State) (before : Memory) (a : Nat) (hk : Keep wr s₀ s) (hs : 13965004916 &&& wr = 13965004916) :
    Keep wr s₀ (State.burstRead s before a) := by
  refine Keep.app hk ?_ hs
  unfold State.burstRead
  repeat' (first
    | with_reducible exact Keep.refl _
    | with_reducible assumption
    | (fail_if_no_progress (extract_lets +onlyGivenNames x); first
        | (with_reducible refine Keep.cut (t := x) ?_ ?_; (on_goal 1 => (unfold x; clear x)); (on_goal 2 => (intro hx; clear_value x)))
        | clear_value x)
    | with_reducible apply State.setDrank_keep
    | with_reducible apply State.degradeRank_keep
    | with_reducible apply State.incf_keep
    | with_reducible refine Keep.ite ?_ ?_
    | rfl)

theorem State.setRankState_keep {wr : Nat} {s₀ : State} (s : State) (c r v : Nat) (hk : Keep wr s₀ s) (hs : 16 &&& wr = 16) :
    Keep wr s₀ (State.setRankState s c r v) := by
  refine Keep.app hk ?_ hs
  unfold State.setRankState
  repeat' (first
    | with_reducible exact Keep.refl _
    | (fail_if_no_progress (extract_lets +onlyGivenNames x); first
        | clear_value x)
    | with_reducible apply State.sf_keep
    | rfl)

end Sys2Proof.Machine
end

