-- ==== Sys2Proof/Laws/KeepMemory.lean ====
section
/-!
SUPPORT. The parts of the state that the operations of Machine/Memory.lean may write.
-/

namespace Sys2Proof.Machine

open Reg Ob

theorem State.countDenial_keep {wr : Nat} {s₀ : State} (s : State) (p unit a : Nat) (write : Bool) (hk : Keep wr s₀ s) (hs : 4297136148 &&& wr = 4297136148) :
    Keep wr s₀ (State.countDenial s p unit a write) := by
  refine Keep.app hk ?_ hs
  unfold State.countDenial
  repeat' (first
    | with_reducible exact Keep.refl _
    | with_reducible assumption
    | (fail_if_no_progress (extract_lets +onlyGivenNames x); first
        | (with_reducible refine Keep.cut (t := x) ?_ ?_; (on_goal 1 => (unfold x; clear x)); (on_goal 2 => (intro hx; clear_value x)))
        | clear_value x)
    | with_reducible apply State.incf_keep
    | with_reducible apply State.sf_keep
    | with_reducible apply State.raise_keep
    | with_reducible refine Keep.ite ?_ ?_
    | rfl
    | fail_if_no_progress (with_reducible refine Keep.set_protect (by decide) ?_))

theorem State.permanentFault_keep {wr : Nat} {s₀ : State} (s : State) (memid a : Nat) (hk : Keep wr s₀ s) (hs : 4297136148 &&& wr = 4297136148) :
    Keep wr s₀ (State.permanentFault s memid a) := by
  refine Keep.app hk ?_ hs
  unfold State.permanentFault
  repeat' (first
    | with_reducible exact Keep.refl _
    | (fail_if_no_progress (extract_lets +onlyGivenNames x); first
        | clear_value x)
    | with_reducible apply State.raise_keep
    | with_reducible refine Keep.ite ?_ ?_
    | rfl
    | fail_if_no_progress (with_reducible refine Keep.set_protect (by decide) ?_))

theorem State.setLog_keep {wr : Nat} {s₀ : State} (s : State) (memid : Nat) (l : List Darn) (hk : Keep wr s₀ s) (hs : 2048 &&& wr = 2048) :
    Keep wr s₀ (State.setLog s memid l) := by
  refine Keep.app hk ?_ hs
  unfold State.setLog
  repeat' (first
    | with_reducible exact Keep.refl _
    | (fail_if_no_progress (extract_lets +onlyGivenNames x); first
        | clear_value x)
    | fail_if_no_progress (with_reducible refine Keep.set_protect (by decide) ?_))

theorem State.darnNote_keep {wr : Nat} {s₀ : State} (s : State) (memid a : Nat) (hk : Keep wr s₀ s) (hs : 4297136148 &&& wr = 4297136148) :
    Keep wr s₀ (State.darnNote s memid a).2 := by
  refine Keep.app hk ?_ hs
  unfold State.darnNote
  repeat' (first
    | with_reducible exact Keep.refl _
    | (fail_if_no_progress (extract_lets +onlyGivenNames x); first
        | clear_value x)
    | with_reducible apply State.permanentFault_keep
    | with_reducible apply State.setLog_keep
    | with_reducible apply State.incf_keep
    | with_reducible apply State.raise_keep
    | with_reducible refine Keep.ite_snd ?_ ?_
    | split
    | rfl)

theorem State.darnRead_keep {wr : Nat} {s₀ : State} (s : State) (memid a : Nat) (w : Word) (hk : Keep wr s₀ s) (hs : 4297136660 &&& wr = 4297136660) :
    Keep wr s₀ (State.darnRead s memid a w) := by
  refine Keep.app hk ?_ hs
  unfold State.darnRead
  repeat' (first
    | with_reducible exact Keep.refl _
    | with_reducible assumption
    | with_reducible apply Memory.storeWord_wf
    | with_reducible exact Keep.wf (by assumption)
    | (fail_if_no_progress (extract_lets +onlyGivenNames x); first
        | (with_reducible refine Keep.cut (t := x) ?_ ?_; (on_goal 1 => (unfold x; clear x)); (on_goal 2 => (intro hx; clear_value x)))
        | (with_reducible refine Keep.cut (t := x.2) ?_ ?_; (on_goal 1 => (unfold x; clear x)); (on_goal 2 => (intro hx; clear_value x))))
    | with_reducible apply State.darnNote_keep
    | with_reducible refine Keep.ite ?_ ?_
    | rfl
    | fail_if_no_progress (with_reducible refine Keep.set_mem (by decide) ?_ ?_))

theorem State.countCorrection_keep {wr : Nat} {s₀ : State} (s : State) (hk : Keep wr s₀ s) (hs : 4297136148 &&& wr = 4297136148) :
    Keep wr s₀ (State.countCorrection s) := by
  refine Keep.app hk ?_ hs
  unfold State.countCorrection
  repeat' (first
    | with_reducible exact Keep.refl _
    | with_reducible assumption
    | (fail_if_no_progress (extract_lets +onlyGivenNames x); first
        | (with_reducible refine Keep.cut (t := x) ?_ ?_; (on_goal 1 => (unfold x; clear x)); (on_goal 2 => (intro hx; clear_value x)))
        | clear_value x)
    | with_reducible apply State.incf_keep
    | with_reducible apply State.raise_keep
    | with_reducible refine Keep.ite ?_ ?_
    | rfl
    | fail_if_no_progress (with_reducible refine Keep.set_protect (by decide) ?_))

theorem State.countUncorrectable_keep {wr : Nat} {s₀ : State} (s : State) (memid a unit kind : Nat) (hk : Keep wr s₀ s) (hs : 4297134100 &&& wr = 4297134100) :
    Keep wr s₀ (State.countUncorrectable s memid a unit kind) := by
  refine Keep.app hk ?_ hs
  unfold State.countUncorrectable
  repeat' (first
    | with_reducible exact Keep.refl _
    | with_reducible assumption
    | (fail_if_no_progress (extract_lets +onlyGivenNames x); first
        | (with_reducible refine Keep.cut (t := x) ?_ ?_; (on_goal 1 => (unfold x; clear x)); (on_goal 2 => (intro hx; clear_value x))))
    | with_reducible apply State.incf_keep
    | with_reducible apply State.sf_keep
    | with_reducible apply State.raise_keep
    | rfl)

theorem State.watchBurst_keep {wr : Nat} {s₀ : State} (s : State) (before : Memory) (memid a : Nat) (hk : Keep wr s₀ s) (hs : 13965004916 &&& wr = 13965004916) :
    Keep wr s₀ (State.watchBurst s before memid a) := by
  refine Keep.app hk ?_ hs
  unfold State.watchBurst
  repeat' (first
    | with_reducible exact Keep.refl _
    | with_reducible apply State.burstRead_keep
    | with_reducible refine Keep.ite ?_ ?_
    | rfl)

theorem State.readCell_keep {wr : Nat} {s₀ : State} (s : State) (a memid unit kind : Nat) (hk : Keep wr s₀ s) (hs : 13965007476 &&& wr = 13965007476) :
    Keep wr s₀ (State.readCell s a memid unit kind).2 := by
  refine Keep.app hk ?_ hs
  unfold State.readCell
  repeat' (first
    | with_reducible exact Keep.refl _
    | with_reducible assumption
    | (fail_if_no_progress (extract_lets +onlyGivenNames x); first
        | (with_reducible refine Keep.cut (t := x.2) ?_ ?_; (on_goal 1 => (unfold x; clear x)); (on_goal 2 => (intro hx; clear_value x))))
    | with_reducible apply State.darnRead_keep
    | with_reducible apply State.countCorrection_keep
    | with_reducible apply State.incf_keep
    | with_reducible apply State.countUncorrectable_keep
    | with_reducible apply State.watchBurst_keep
    | split
    | rfl)

theorem State.peerRead_keep {wr : Nat} {s₀ : State} (s : State) (n unit off : Nat) (hk : Keep wr s₀ s) (hs : 2097152 &&& wr = 2097152) :
    Keep wr s₀ (State.peerRead s n unit off) := by
  refine Keep.app hk ?_ hs
  unfold State.peerRead
  repeat' (first
    | with_reducible exact Keep.refl _
    | with_reducible assumption
    | (fail_if_no_progress (extract_lets +onlyGivenNames x); first
        | (with_reducible refine Keep.cut (t := x) ?_ ?_; (on_goal 1 => (unfold x; clear x)); (on_goal 2 => (intro hx; clear_value x)))
        | clear_value x)
    | with_reducible apply State.post_keep
    | with_reducible apply State.setSeam_keep
    | rfl)

theorem State.readWordAt_keep {wr : Nat} {s₀ : State} (s : State) (a unit kind : Nat) (hk : Keep wr s₀ s) (hs : 13965007478 &&& wr = 13965007478) :
    Keep wr s₀ (State.readWordAt s a unit kind).2 := by
  refine Keep.app hk ?_ hs
  unfold State.readWordAt
  repeat' (first
    | with_reducible exact Keep.refl _
    | with_reducible apply State.readCell_keep
    | with_reducible apply State.hostRequest_keep
    | with_reducible apply State.fresh_keep
    | with_reducible apply State.peerRead_keep
    | with_reducible refine Keep.ite_snd ?_ ?_
    | split
    | rfl)

theorem State.readUntilBad_rec {s₀ : State} (s : State) (a : Nat) (unit : Nat) (n0 : Nat) (hk : Keep 13965007478 s₀ s) :
    Keep 13965007478 s₀ (State.readUntilBad s a unit n0).2 := by
  induction n0 generalizing s a unit with
  | zero =>
    unfold State.readUntilBad
    repeat' (first
      | with_reducible assumption
      | (fail_if_no_progress (extract_lets +onlyGivenNames x); first
          | (with_reducible refine Keep.cut (t := x.2) ?_ ?_; (on_goal 1 => (unfold x; clear x)); (on_goal 2 => (intro hx; clear_value x))))
      | with_reducible apply State.readWordAt_keep
      | with_reducible apply ih
      | with_reducible refine Keep.ite_snd ?_ ?_
      | rfl)
  | succ n ih =>
    unfold State.readUntilBad
    repeat' (first
      | with_reducible assumption
      | (fail_if_no_progress (extract_lets +onlyGivenNames x); first
          | (with_reducible refine Keep.cut (t := x.2) ?_ ?_; (on_goal 1 => (unfold x; clear x)); (on_goal 2 => (intro hx; clear_value x))))
      | with_reducible apply State.readWordAt_keep
      | with_reducible apply ih
      | with_reducible refine Keep.ite_snd ?_ ?_
      | rfl)

theorem State.readUntilBad_keep {wr : Nat} {s₀ : State} (s : State) (a : Nat) (unit : Nat) (n0 : Nat) (hk : Keep wr s₀ s)
    (hs : 13965007478 &&& wr = 13965007478) : Keep wr s₀ (State.readUntilBad s a unit n0).2 :=
  Keep.app hk (State.readUntilBad_rec _ _ _ _ (Keep.refl _)) hs

theorem State.readWords_keep {wr : Nat} {s₀ : State} (s : State) (a : Nat) (unit kind n : Nat) (hk : Keep wr s₀ s)
    (hs : 13965007478 &&& wr = 13965007478) : Keep wr s₀ (s.readWords a unit kind n).2 := by
  induction n generalizing s a with
  | zero => exact hk
  | succ n ih => exact ih _ _ (State.readWordAt_keep _ _ _ _ hk hs)

theorem State.readBytes_keep {wr : Nat} {s₀ : State} (s : State) (a n unit kind : Nat) (hk : Keep wr s₀ s) (hs : 13965007478 &&& wr = 13965007478) :
    Keep wr s₀ (State.readBytes s a n unit kind).2 := by
  refine Keep.app hk ?_ hs
  unfold State.readBytes
  repeat' (first
    | with_reducible exact Keep.refl _
    | with_reducible assumption
    | (fail_if_no_progress (extract_lets +onlyGivenNames x); first
        | (with_reducible refine Keep.cut (t := x.2) ?_ ?_; (on_goal 1 => (unfold x; clear x)); (on_goal 2 => (intro hx; clear_value x)))
        | clear_value x)
    | with_reducible apply State.readUntilBad_keep
    | with_reducible apply State.readWords_keep
    | with_reducible refine Keep.ite_snd ?_ ?_
    | rfl)

theorem State.darnWrite_keep {wr : Nat} {s₀ : State} (s : State) (memid a : Nat) (hk : Keep wr s₀ s) (hs : 2048 &&& wr = 2048) :
    Keep wr s₀ (State.darnWrite s memid a) := by
  refine Keep.app hk ?_ hs
  unfold State.darnWrite
  repeat' (first
    | with_reducible exact Keep.refl _
    | (fail_if_no_progress (extract_lets +onlyGivenNames x); first
        | clear_value x)
    | with_reducible apply State.setLog_keep
    | with_reducible refine Keep.ite ?_ ?_
    | rfl)

theorem State.writeCell_keep {wr : Nat} {s₀ : State} (s : State) (a memid : Nat) (w : Carried) (hk : Keep wr s₀ s) (hs : 2560 &&& wr = 2560) :
    Keep wr s₀ (State.writeCell s a memid w) := by
  refine Keep.app hk ?_ hs
  unfold State.writeCell
  repeat' (first
    | with_reducible exact Keep.refl _
    | with_reducible assumption
    | with_reducible apply Memory.storeWord_wf
    | with_reducible exact id
    | (fail_if_no_progress (extract_lets +onlyGivenNames x); first
        | (with_reducible refine Keep.cut (t := x) ?_ ?_; (on_goal 1 => (unfold x; clear x)); (on_goal 2 => (intro hx; clear_value x))))
    | with_reducible apply State.darnWrite_keep
    | rfl
    | fail_if_no_progress (with_reducible refine Keep.set_mem (by decide) ?_ ?_))

theorem State.mergeCell_keep {wr : Nat} {s₀ : State} (s : State) (a memid unit : Nat) (new : List (Option Byte)) (hk : Keep wr s₀ s) (hs : 13965007476 &&& wr = 13965007476) :
    Keep wr s₀ (State.mergeCell s a memid unit new).2 := by
  refine Keep.app hk ?_ hs
  unfold State.mergeCell
  repeat' (first
    | with_reducible exact Keep.refl _
    | (fail_if_no_progress (extract_lets +onlyGivenNames x); first
        | clear_value x)
    | with_reducible apply State.readCell_keep
    | with_reducible apply State.writeCell_keep
    | with_reducible apply State.incf_keep
    | split
    | with_reducible refine Keep.of_pair (by assumption) ?_
    | rfl)

theorem State.quiltWrite_keep {wr : Nat} {s₀ : State} (s : State) (n off : Nat) (bytes : Option (List (Option Byte))) (hk : Keep wr s₀ s) (hs : 33554436 &&& wr = 33554436) :
    Keep wr s₀ (State.quiltWrite s n off bytes) := by
  refine Keep.app hk ?_ hs
  unfold State.quiltWrite
  repeat' (first
    | with_reducible exact Keep.refl _
    | with_reducible apply State.streamWord_keep
    | with_reducible apply State.send_keep
    | with_reducible refine Keep.ite ?_ ?_
    | split
    | rfl)

theorem State.mergeWordAt_keep {wr : Nat} {s₀ : State} (s : State) (a unit : Nat) (new : List (Option Byte)) (hk : Keep wr s₀ s) (hs : 13998561908 &&& wr = 13998561908) :
    Keep wr s₀ (State.mergeWordAt s a unit new).2 := by
  refine Keep.app hk ?_ hs
  unfold State.mergeWordAt
  repeat' (first
    | with_reducible exact Keep.refl _
    | with_reducible apply State.writeCell_keep
    | with_reducible apply State.mergeCell_keep
    | with_reducible apply State.hostRequest_keep
    | with_reducible apply State.post_keep
    | with_reducible apply State.quiltWrite_keep
    | with_reducible refine Keep.ite_snd ?_ ?_
    | split
    | rfl)

theorem State.writeRun_keep {wr : Nat} {s₀ : State} (s : State) (a unit : Nat) (data : List Byte) (l : List Nat)
    (hk : Keep wr s₀ s) (hs : 13998561908 &&& wr = 13998561908) : Keep wr s₀ (s.writeRun a unit data l).2 := by
  induction l generalizing s with
  | nil => exact hk
  | cons wa r ih => exact ih _ (State.mergeWordAt_keep _ _ _ _ hk hs)

theorem State.writeBytes_keep {wr : Nat} {s₀ : State} (s : State) (a unit : Nat) (data : List Byte) (hk : Keep wr s₀ s) (hs : 13998561908 &&& wr = 13998561908) :
    Keep wr s₀ (State.writeBytes s a unit data).2 := by
  refine Keep.app hk ?_ hs
  unfold State.writeBytes
  repeat' (first
    | with_reducible exact Keep.refl _
    | with_reducible apply State.writeRun_keep
    | rfl)

theorem State.stallOn_keep {wr : Nat} {s₀ : State} (s : State) (x : Nat × Option Nat) (hk : Keep wr s₀ s) (hs : 268435456 &&& wr = 268435456) :
    Keep wr s₀ (State.stallOn s x) := by
  refine Keep.app hk ?_ hs
  unfold State.stallOn
  repeat' (first
    | with_reducible exact Keep.refl _
    | with_reducible apply State.stallAt_keep
    | rfl)

theorem State.writeWordAt_keep {wr : Nat} {s₀ : State} (s : State) (a unit : Nat) (w : Carried) (hk : Keep wr s₀ s) (hs : 35658244 &&& wr = 35658244) :
    Keep wr s₀ (State.writeWordAt s a unit w) := by
  refine Keep.app hk ?_ hs
  unfold State.writeWordAt
  repeat' (first
    | with_reducible exact Keep.refl _
    | with_reducible apply State.writeCell_keep
    | with_reducible apply State.hostRequest_keep
    | with_reducible apply State.post_keep
    | with_reducible apply State.quiltWrite_keep
    | split
    | rfl)

theorem State.writeWords_keep {wr : Nat} {s₀ : State} (s : State) (a unit : Nat) (l : List Carried) (hk : Keep wr s₀ s)
    (hs : 35658244 &&& wr = 35658244) : Keep wr s₀ (s.writeWords a unit l) := by
  induction l generalizing s a with
  | nil => exact hk
  | cons w r ih => exact ih _ _ (State.writeWordAt_keep _ _ _ _ hk hs)

theorem State.upsetCell_keep {wr : Nat} {s₀ : State} (s : State) (a : Nat) (e : BitVec 80) (hk : Keep wr s₀ s) (hs : 512 &&& wr = 512) :
    Keep wr s₀ (State.upsetCell s a e) := by
  refine Keep.app hk ?_ hs
  unfold State.upsetCell
  repeat' (first
    | with_reducible exact Keep.refl _
    | with_reducible apply storeSymbols_wf
    | with_reducible exact id
    | with_reducible refine Keep.ite ?_ ?_
    | fail_if_no_progress (with_reducible refine Keep.set_mem (by decide) ?_ ?_))

theorem State.upsetWords_rec {s₀ : State} (s : State) (a : Nat) (n0 : List (BitVec 80)) (hk : Keep 512 s₀ s) :
    Keep 512 s₀ (State.upsetWords s a n0) := by
  induction n0 generalizing s a with
  | nil =>
    unfold State.upsetWords
    repeat' (first
      | with_reducible assumption
      | with_reducible apply State.upsetCell_keep
      | with_reducible apply ih
      | split
      | rfl)
  | cons x l ih =>
    unfold State.upsetWords
    repeat' (first
      | with_reducible assumption
      | with_reducible apply State.upsetCell_keep
      | with_reducible apply ih
      | split
      | rfl)

theorem State.upsetWords_keep {wr : Nat} {s₀ : State} (s : State) (a : Nat) (n0 : List (BitVec 80)) (hk : Keep wr s₀ s)
    (hs : 512 &&& wr = 512) : Keep wr s₀ (State.upsetWords s a n0) :=
  Keep.app hk (State.upsetWords_rec _ _ _ (Keep.refl _)) hs

end Sys2Proof.Machine
end

