-- ==== Sys2Proof/Laws/KeepWeft.lean ====
section
/-!
SUPPORT. The parts of the state that the operations of Machine/Weft.lean may write.
-/

namespace Sys2Proof.Machine

open Reg Ob

theorem State.setPort_keep {wr : Nat} {s₀ : State} (s : State) (q u : Nat) (p : Port) (hk : Keep wr s₀ s) (hs : 1024 &&& wr = 1024) :
    Keep wr s₀ (State.setPort s q u p) := by
  refine Keep.app hk ?_ hs
  unfold State.setPort
  repeat' (first
    | with_reducible exact Keep.refl _
    | (fail_if_no_progress (extract_lets +onlyGivenNames x); first
        | clear_value x)
    | fail_if_no_progress (with_reducible refine Keep.set_weft (by decide) ?_))

theorem State.addFlit_keep {wr : Nat} {s₀ : State} (s : State) (f : Flit) (hk : Keep wr s₀ s) (hs : 1024 &&& wr = 1024) :
    Keep wr s₀ (State.addFlit s f) := by
  refine Keep.app hk ?_ hs
  unfold State.addFlit
  repeat' (first
    | with_reducible exact Keep.refl _
    | (fail_if_no_progress (extract_lets +onlyGivenNames x); first
        | clear_value x)
    | fail_if_no_progress (with_reducible refine Keep.set_weft (by decide) ?_))

theorem State.askCredits_keep {wr : Nat} {s₀ : State} (s : State) (q u : Nat) (hk : Keep wr s₀ s) (hs : 1024 &&& wr = 1024) :
    Keep wr s₀ (State.askCredits s q u) := by
  refine Keep.app hk ?_ hs
  unfold State.askCredits
  repeat' (first
    | with_reducible exact Keep.refl _
    | (fail_if_no_progress (extract_lets +onlyGivenNames x); first
        | clear_value x)
    | with_reducible apply State.addFlit_keep
    | with_reducible apply State.setPort_keep
    | with_reducible refine Keep.ite ?_ ?_
    | rfl)

theorem State.pushEntry_keep {wr : Nat} {s₀ : State} (s : State) (q u : Nat) (entry : List Carried) (hk : Keep wr s₀ s) (hs : 1024 &&& wr = 1024) :
    Keep wr s₀ (State.pushEntry s q u entry) := by
  refine Keep.app hk ?_ hs
  unfold State.pushEntry
  repeat' (first
    | with_reducible exact Keep.refl _
    | with_reducible assumption
    | (fail_if_no_progress (extract_lets +onlyGivenNames x); first
        | (with_reducible refine Keep.cut (t := x) ?_ ?_; (on_goal 1 => (unfold x; clear x)); (on_goal 2 => (intro hx; clear_value x)))
        | clear_value x)
    | with_reducible apply State.setPort_keep
    | with_reducible apply State.askCredits_keep
    | with_reducible apply State.addFlit_keep
    | with_reducible refine Keep.ite ?_ ?_
    | rfl)

theorem State.pushBytes_keep {wr : Nat} {s₀ : State} (s : State) (q u : Nat) (payload : List Byte) (cls deadline : Nat) (hk : Keep wr s₀ s) (hs : 1024 &&& wr = 1024) :
    Keep wr s₀ (State.pushBytes s q u payload cls deadline) := by
  refine Keep.app hk ?_ hs
  unfold State.pushBytes
  repeat' (first
    | with_reducible exact Keep.refl _
    | (fail_if_no_progress (extract_lets +onlyGivenNames x); first
        | clear_value x)
    | with_reducible apply State.pushEntry_keep
    | rfl)

theorem State.stallSlot_keep {wr : Nat} {s₀ : State} (s : State) (q count : Nat) (hk : Keep wr s₀ s) (hs : 268435456 &&& wr = 268435456) :
    Keep wr s₀ (State.stallSlot s q count) := by
  refine Keep.app hk ?_ hs
  unfold State.stallSlot
  repeat' (first
    | with_reducible exact Keep.refl _
    | with_reducible apply State.stallOn_keep
    | split
    | rfl)

theorem State.readSlot_keep {wr : Nat} {s₀ : State} (s : State) (a : Nat) (hk : Keep wr s₀ s) (hs : 13965007478 &&& wr = 13965007478) :
    Keep wr s₀ (State.readSlot s a).2 := by
  refine Keep.app hk ?_ hs
  unfold State.readSlot
  repeat' (first
    | with_reducible exact Keep.refl _
    | with_reducible apply State.readWords_keep
    | rfl)

theorem State.grantOne_keep {wr : Nat} {s₀ : State} (s : State) (q u : Nat) (hk : Keep wr s₀ s) (hs : 1040 &&& wr = 1040) :
    Keep wr s₀ (State.grantOne s q u) := by
  refine Keep.app hk ?_ hs
  unfold State.grantOne
  repeat' (first
    | with_reducible exact Keep.refl _
    | with_reducible assumption
    | (fail_if_no_progress (extract_lets +onlyGivenNames x); first
        | (with_reducible refine Keep.cut (t := x) ?_ ?_; (on_goal 1 => (unfold x; clear x)); (on_goal 2 => (intro hx; clear_value x)))
        | clear_value x)
    | with_reducible apply State.sf_keep
    | with_reducible apply State.setPort_keep
    | with_reducible apply State.addFlit_keep
    | rfl
    | fail_if_no_progress (with_reducible refine Keep.set_weft (by decide) ?_))

theorem State.serveRequests_rec {s₀ : State} (s : State) (q : Nat) (n0 : Nat) (hk : Keep 1040 s₀ s) :
    Keep 1040 s₀ (State.serveRequests s q n0) := by
  induction n0 generalizing s q with
  | zero =>
    unfold State.serveRequests
    repeat' (first
      | with_reducible assumption
      | with_reducible apply State.grantOne_keep
      | with_reducible apply ih
      | with_reducible refine Keep.ite ?_ ?_
      | split
      | rfl)
  | succ n ih =>
    unfold State.serveRequests
    repeat' (first
      | with_reducible assumption
      | with_reducible apply State.grantOne_keep
      | with_reducible apply ih
      | with_reducible refine Keep.ite ?_ ?_
      | split
      | rfl)

theorem State.serveRequests_keep {wr : Nat} {s₀ : State} (s : State) (q : Nat) (n0 : Nat) (hk : Keep wr s₀ s)
    (hs : 1040 &&& wr = 1040) : Keep wr s₀ (State.serveRequests s q n0) :=
  Keep.app hk (State.serveRequests_rec _ _ _ (Keep.refl _)) hs

theorem State.serve_keep {wr : Nat} {s₀ : State} (s : State) (q : Nat) (hk : Keep wr s₀ s) (hs : 1040 &&& wr = 1040) :
    Keep wr s₀ (State.serve s q) := by
  refine Keep.app hk ?_ hs
  unfold State.serve
  repeat' (first
    | with_reducible exact Keep.refl _
    | with_reducible apply State.serveRequests_keep
    | rfl)

theorem State.popQueue_keep {wr : Nat} {s₀ : State} (s : State) (q u : Nat) (hk : Keep wr s₀ s) (hs : 14233443958 &&& wr = 14233443958) :
    Keep wr s₀ (State.popQueue s q u).2 := by
  refine Keep.app hk ?_ hs
  unfold State.popQueue
  repeat' (first
    | with_reducible exact Keep.refl _
    | with_reducible assumption
    | (fail_if_no_progress (extract_lets +onlyGivenNames x); first
        | (with_reducible refine Keep.cut (t := x) ?_ ?_; (on_goal 1 => (unfold x; clear x)); (on_goal 2 => (intro hx; clear_value x)))
        | (with_reducible refine Keep.cut (t := x.2) ?_ ?_; (on_goal 1 => (unfold x; clear x)); (on_goal 2 => (intro hx; clear_value x)))
        | clear_value x)
    | with_reducible apply State.stallAt_keep
    | with_reducible apply State.stallSlot_keep
    | with_reducible apply State.readSlot_keep
    | with_reducible apply State.sf_keep
    | with_reducible apply State.serve_keep
    | with_reducible refine Keep.ite_snd ?_ ?_
    | rfl)

theorem State.returnCredits_keep {wr : Nat} {s₀ : State} (s : State) (q u : Nat) (hk : Keep wr s₀ s) (hs : 1040 &&& wr = 1040) :
    Keep wr s₀ (State.returnCredits s q u) := by
  refine Keep.app hk ?_ hs
  unfold State.returnCredits
  repeat' (first
    | with_reducible exact Keep.refl _
    | with_reducible assumption
    | (fail_if_no_progress (extract_lets +onlyGivenNames x); first
        | (with_reducible refine Keep.cut (t := x) ?_ ?_; (on_goal 1 => (unfold x; clear x)); (on_goal 2 => (intro hx; clear_value x)))
        | clear_value x)
    | with_reducible apply State.setPort_keep
    | with_reducible apply State.sf_keep
    | with_reducible apply State.askCredits_keep
    | with_reducible refine Keep.ite ?_ ?_
    | rfl
    | fail_if_no_progress (with_reducible refine Keep.set_weft (by decide) ?_))

theorem State.sendDrain_keep {wr : Nat} {s₀ : State} (s : State) (q u : Nat) (hk : Keep wr s₀ s) (hs : 1024 &&& wr = 1024) :
    Keep wr s₀ (State.sendDrain s q u) := by
  refine Keep.app hk ?_ hs
  unfold State.sendDrain
  repeat' (first
    | with_reducible exact Keep.refl _
    | with_reducible assumption
    | (fail_if_no_progress (extract_lets +onlyGivenNames x); first
        | (with_reducible refine Keep.cut (t := x) ?_ ?_; (on_goal 1 => (unfold x; clear x)); (on_goal 2 => (intro hx; clear_value x)))
        | clear_value x)
    | with_reducible apply State.addFlit_keep
    | rfl
    | fail_if_no_progress (with_reducible refine Keep.set_weft (by decide) ?_))

theorem State.endDisable_keep {wr : Nat} {s₀ : State} (s : State) (q : Nat) (hk : Keep wr s₀ s) (hs : 16 &&& wr = 16) :
    Keep wr s₀ (State.endDisable s q) := by
  refine Keep.app hk ?_ hs
  unfold State.endDisable
  repeat' (first
    | with_reducible exact Keep.refl _
    | with_reducible apply State.sf_keep
    | with_reducible refine Keep.ite ?_ ?_
    | rfl)

theorem State.beginDisable_keep {wr : Nat} {s₀ : State} (s : State) (q : Nat) (hk : Keep wr s₀ s) (hs : 1040 &&& wr = 1040) :
    Keep wr s₀ (State.beginDisable s q) := by
  refine Keep.app hk ?_ hs
  unfold State.beginDisable
  repeat' (first
    | with_reducible exact Keep.refl _
    | with_reducible assumption
    | (fail_if_no_progress (extract_lets +onlyGivenNames x); first
        | (with_reducible refine Keep.cut (t := x) ?_ ?_; (on_goal 1 => (unfold x; clear x)); (on_goal 2 => (intro hx; clear_value x))))
    | with_reducible apply State.sf_keep
    | with_reducible apply State.sendDrain_keep
    | with_reducible apply State.returnCredits_keep
    | with_reducible apply State.endDisable_keep
    | refine Keep.foldl ?_ (fun t x ht => ?_)
    | rfl)

theorem State.dropQueue_keep {wr : Nat} {s₀ : State} (s : State) (q : Nat) (hk : Keep wr s₀ s) (hs : 4297135124 &&& wr = 4297135124) :
    Keep wr s₀ (State.dropQueue s q) := by
  refine Keep.app hk ?_ hs
  unfold State.dropQueue
  repeat' (first
    | with_reducible exact Keep.refl _
    | with_reducible apply State.raise_keep
    | with_reducible apply State.beginDisable_keep
    | with_reducible refine Keep.ite ?_ ?_
    | rfl)

theorem State.clearQueue_keep {wr : Nat} {s₀ : State} (s : State) (q : Nat) (hk : Keep wr s₀ s) (hs : 16 &&& wr = 16) :
    Keep wr s₀ (State.clearQueue s q) := by
  refine Keep.app hk ?_ hs
  unfold State.clearQueue
  repeat' (first
    | with_reducible exact Keep.refl _
    | with_reducible apply State.sf_keep
    | rfl)

theorem State.releaseEngine_keep {wr : Nat} {s₀ : State} (s : State) (q u : Nat) (hk : Keep wr s₀ s) (hs : 147456 &&& wr = 147456) :
    Keep wr s₀ (State.releaseEngine s q u) := by
  refine Keep.app hk ?_ hs
  unfold State.releaseEngine
  repeat' (first
    | with_reducible exact Keep.refl _
    | with_reducible assumption
    | (fail_if_no_progress (extract_lets +onlyGivenNames x); first
        | (with_reducible refine Keep.cut (t := x) ?_ ?_; (on_goal 1 => (unfold x; clear x)); (on_goal 2 => (intro hx; clear_value x)))
        | clear_value x)
    | with_reducible apply State.setEng_keep
    | with_reducible refine Keep.ite ?_ ?_
    | split
    | rfl
    | fail_if_no_progress (with_reducible refine Keep.set_sh (by decide) ?_))

theorem State.releaseStalled_rec {s₀ : State} (s : State) (q u : Nat) (n0 : Nat) (hk : Keep 148496 s₀ s) :
    Keep 148496 s₀ (State.releaseStalled s q u n0) := by
  induction n0 generalizing s q u with
  | zero =>
    unfold State.releaseStalled
    repeat' (first
      | with_reducible assumption
      | (fail_if_no_progress (extract_lets +onlyGivenNames x); first
          | (with_reducible refine Keep.cut (t := x) ?_ ?_; (on_goal 1 => (unfold x; clear x)); (on_goal 2 => (intro hx; clear_value x)))
          | clear_value x)
      | with_reducible apply State.maxf_keep
      | with_reducible apply State.setPort_keep
      | with_reducible apply State.sf_keep
      | with_reducible apply State.releaseEngine_keep
      | with_reducible apply State.addFlit_keep
      | with_reducible apply State.askCredits_keep
      | with_reducible apply ih
      | with_reducible refine Keep.ite ?_ ?_
      | split
      | rfl)
  | succ n ih =>
    unfold State.releaseStalled
    repeat' (first
      | with_reducible assumption
      | (fail_if_no_progress (extract_lets +onlyGivenNames x); first
          | (with_reducible refine Keep.cut (t := x) ?_ ?_; (on_goal 1 => (unfold x; clear x)); (on_goal 2 => (intro hx; clear_value x)))
          | clear_value x)
      | with_reducible apply State.maxf_keep
      | with_reducible apply State.setPort_keep
      | with_reducible apply State.sf_keep
      | with_reducible apply State.releaseEngine_keep
      | with_reducible apply State.addFlit_keep
      | with_reducible apply State.askCredits_keep
      | with_reducible apply ih
      | with_reducible refine Keep.ite ?_ ?_
      | split
      | rfl)

theorem State.releaseStalled_keep {wr : Nat} {s₀ : State} (s : State) (q u : Nat) (n0 : Nat) (hk : Keep wr s₀ s)
    (hs : 148496 &&& wr = 148496) : Keep wr s₀ (State.releaseStalled s q u n0) :=
  Keep.app hk (State.releaseStalled_rec _ _ _ _ (Keep.refl _)) hs

theorem State.creditsArrive_keep {wr : Nat} {s₀ : State} (s : State) (q u n : Nat) (hk : Keep wr s₀ s) (hs : 148496 &&& wr = 148496) :
    Keep wr s₀ (State.creditsArrive s q u n) := by
  refine Keep.app hk ?_ hs
  unfold State.creditsArrive
  repeat' (first
    | with_reducible exact Keep.refl _
    | with_reducible assumption
    | (fail_if_no_progress (extract_lets +onlyGivenNames x); first
        | (with_reducible refine Keep.cut (t := x) ?_ ?_; (on_goal 1 => (unfold x; clear x)); (on_goal 2 => (intro hx; clear_value x)))
        | clear_value x)
    | with_reducible apply State.setPort_keep
    | with_reducible apply State.askCredits_keep
    | with_reducible apply State.releaseStalled_keep
    | rfl)

theorem State.flightUncorrectable_keep {wr : Nat} {s₀ : State} (s : State) (unit : Nat) (hk : Keep wr s₀ s) (hs : 4297134102 &&& wr = 4297134102) :
    Keep wr s₀ (State.flightUncorrectable s unit) := by
  refine Keep.app hk ?_ hs
  unfold State.flightUncorrectable
  repeat' (first
    | with_reducible exact Keep.refl _
    | with_reducible assumption
    | (fail_if_no_progress (extract_lets +onlyGivenNames x); first
        | (with_reducible refine Keep.cut (t := x) ?_ ?_; (on_goal 1 => (unfold x; clear x)); (on_goal 2 => (intro hx; clear_value x))))
    | with_reducible apply State.incf_keep
    | with_reducible apply State.sf_keep
    | with_reducible apply State.raise_keep
    | rfl
    | fail_if_no_progress (with_reducible refine Keep.set_free (by decide) ?_))

theorem State.crossWord_keep {wr : Nat} {s₀ : State} (s : State) (unit : Nat) (w : Carried) (e : BitVec 80) (hk : Keep wr s₀ s) (hs : 4297134102 &&& wr = 4297134102) :
    Keep wr s₀ (State.crossWord s unit w e).2 := by
  refine Keep.app hk ?_ hs
  unfold State.crossWord
  repeat' (first
    | with_reducible exact Keep.refl _
    | (fail_if_no_progress (extract_lets +onlyGivenNames x); first
        | clear_value x)
    | with_reducible apply State.incf_keep
    | with_reducible apply State.flightUncorrectable_keep
    | split
    | rfl)

theorem State.crossWords_rec {s₀ : State} (s : State) (unit : Nat) (n0 : List Carried) (n1 : List (BitVec 80)) (hk : Keep 4297134102 s₀ s) :
    Keep 4297134102 s₀ (State.crossWords s unit n0 n1).2 := by
  induction n0 generalizing s unit n1 with
  | nil =>
    unfold State.crossWords
    repeat' (first
      | with_reducible assumption
      | (fail_if_no_progress (extract_lets +onlyGivenNames x); first
          | (with_reducible refine Keep.cut (t := x.2) ?_ ?_; (on_goal 1 => (unfold x; clear x)); (on_goal 2 => (intro hx; clear_value x))))
      | with_reducible apply State.crossWord_keep
      | with_reducible apply ih
      | rfl)
  | cons x l ih =>
    unfold State.crossWords
    repeat' (first
      | with_reducible assumption
      | (fail_if_no_progress (extract_lets +onlyGivenNames x); first
          | (with_reducible refine Keep.cut (t := x.2) ?_ ?_; (on_goal 1 => (unfold x; clear x)); (on_goal 2 => (intro hx; clear_value x))))
      | with_reducible apply State.crossWord_keep
      | with_reducible apply ih
      | rfl)

theorem State.crossWords_keep {wr : Nat} {s₀ : State} (s : State) (unit : Nat) (n0 : List Carried) (n1 : List (BitVec 80)) (hk : Keep wr s₀ s)
    (hs : 4297134102 &&& wr = 4297134102) : Keep wr s₀ (State.crossWords s unit n0 n1).2 :=
  Keep.app hk (State.crossWords_rec _ _ _ _ (Keep.refl _)) hs

theorem State.routeCopy_keep {wr : Nat} {s₀ : State} (s : State) (e : BitVec 80) (hk : Keep wr s₀ s) (hs : 16 &&& wr = 16) :
    Keep wr s₀ (State.routeCopy s e) := by
  refine Keep.app hk ?_ hs
  unfold State.routeCopy
  repeat' (first
    | with_reducible exact Keep.refl _
    | with_reducible apply State.incf_keep
    | split
    | rfl)

theorem State.dropFlit_keep {wr : Nat} {s₀ : State} (s : State) (f : Flit) (hk : Keep wr s₀ s) (hs : 1024 &&& wr = 1024) :
    Keep wr s₀ (State.dropFlit s f) := by
  refine Keep.app hk ?_ hs
  unfold State.dropFlit
  repeat' (first
    | with_reducible exact Keep.refl _
    | (fail_if_no_progress (extract_lets +onlyGivenNames x); first
        | clear_value x)
    | fail_if_no_progress (with_reducible refine Keep.set_weft (by decide) ?_))

theorem State.fenceFlit_keep {wr : Nat} {s₀ : State} (s : State) (u : Nat) (queue : Option Nat) (hk : Keep wr s₀ s) (hs : 13960811636 &&& wr = 13960811636) :
    Keep wr s₀ (State.fenceFlit s u queue) := by
  refine Keep.app hk ?_ hs
  unfold State.fenceFlit
  repeat' (first
    | with_reducible exact Keep.refl _
    | with_reducible assumption
    | (fail_if_no_progress (extract_lets +onlyGivenNames x); first
        | (with_reducible refine Keep.cut (t := x) ?_ ?_; (on_goal 1 => (unfold x; clear x)); (on_goal 2 => (intro hx; clear_value x)))
        | clear_value x)
    | with_reducible apply State.sf_keep
    | with_reducible apply State.incf_keep
    | with_reducible apply State.raise_keep
    | with_reducible apply State.addRecent_keep
    | with_reducible refine Keep.ite ?_ ?_
    | split
    | rfl
    | fail_if_no_progress (with_reducible refine Keep.set_weft (by decide) ?_))

theorem State.refundCredit_keep {wr : Nat} {s₀ : State} (s : State) (f : Flit) (hk : Keep wr s₀ s) (hs : 148496 &&& wr = 148496) :
    Keep wr s₀ (State.refundCredit s f) := by
  refine Keep.app hk ?_ hs
  unfold State.refundCredit
  repeat' (first
    | with_reducible exact Keep.refl _
    | (fail_if_no_progress (extract_lets +onlyGivenNames x); first
        | clear_value x)
    | with_reducible apply State.sf_keep
    | with_reducible apply State.releaseStalled_keep
    | with_reducible apply State.setPort_keep
    | with_reducible refine Keep.ite ?_ ?_
    | rfl)

theorem State.crossFlit_keep {wr : Nat} {s₀ : State} (s : State) (f : Flit) (pair : Nat) (routeA routeB : BitVec 80) (errors : List (BitVec 80)) (hk : Keep wr s₀ s) (hs : 14229394550 &&& wr = 14229394550) :
    Keep wr s₀ (State.crossFlit s f pair routeA routeB errors) := by
  refine Keep.app hk ?_ hs
  unfold State.crossFlit
  repeat' (first
    | with_reducible exact Keep.refl _
    | with_reducible assumption
    | (fail_if_no_progress (extract_lets +onlyGivenNames x); first
        | (with_reducible refine Keep.cut (t := x) ?_ ?_; (on_goal 1 => (unfold x; clear x)); (on_goal 2 => (intro hx; clear_value x)))
        | (with_reducible refine Keep.cut (t := x.2) ?_ ?_; (on_goal 1 => (unfold x; clear x)); (on_goal 2 => (intro hx; clear_value x)))
        | clear_value x)
    | with_reducible apply State.routeCopy_keep
    | with_reducible apply State.raise_keep
    | with_reducible apply State.incf_keep
    | with_reducible apply State.dropFlit_keep
    | with_reducible apply State.fenceFlit_keep
    | with_reducible apply State.refundCredit_keep
    | with_reducible apply State.crossWords_keep
    | with_reducible apply State.noteFlit_keep
    | with_reducible refine Keep.ite ?_ ?_
    | rfl
    | fail_if_no_progress (with_reducible refine Keep.set_weft (by decide) ?_))

theorem State.setShape_keep {wr : Nat} {s₀ : State} (s : State) (q : Nat) (c : QueueShape) (hk : Keep wr s₀ s) (hs : 16 &&& wr = 16) :
    Keep wr s₀ (State.setShape s q c) := by
  refine Keep.app hk ?_ hs
  unfold State.setShape
  repeat' (first
    | with_reducible exact Keep.refl _
    | with_reducible apply State.sf_keep
    | rfl)

theorem State.enableQueue_keep {wr : Nat} {s₀ : State} (s : State) (q : Nat) (hk : Keep wr s₀ s) (hs : 4297135124 &&& wr = 4297135124) :
    Keep wr s₀ (State.enableQueue s q) := by
  refine Keep.app hk ?_ hs
  unfold State.enableQueue
  repeat' (first
    | with_reducible exact Keep.refl _
    | with_reducible assumption
    | (fail_if_no_progress (extract_lets +onlyGivenNames x); first
        | (with_reducible refine Keep.cut (t := x) ?_ ?_; (on_goal 1 => (unfold x; clear x)); (on_goal 2 => (intro hx; clear_value x)))
        | clear_value x)
    | with_reducible apply State.setPort_keep
    | with_reducible apply State.serve_keep
    | with_reducible apply State.sf_keep
    | with_reducible apply State.clearQueue_keep
    | with_reducible apply State.raise_keep
    | with_reducible refine Keep.ite ?_ ?_
    | refine Keep.foldl ?_ (fun t x ht => ?_)
    | rfl)

theorem State.writeQcfg_keep {wr : Nat} {s₀ : State} (s : State) (u q : Nat) (enable : Bool) (c : QueueShape) (hk : Keep wr s₀ s) (hs : 4297135124 &&& wr = 4297135124) :
    Keep wr s₀ (State.writeQcfg s u q enable c) := by
  refine Keep.app hk ?_ hs
  unfold State.writeQcfg
  repeat' (first
    | with_reducible exact Keep.refl _
    | with_reducible assumption
    | (fail_if_no_progress (extract_lets +onlyGivenNames x); first
        | (with_reducible refine Keep.cut (t := x) ?_ ?_; (on_goal 1 => (unfold x; clear x)); (on_goal 2 => (intro hx; clear_value x))))
    | with_reducible apply State.beginDisable_keep
    | with_reducible apply State.raise_keep
    | with_reducible apply State.setShape_keep
    | with_reducible apply State.enableQueue_keep
    | with_reducible refine Keep.ite ?_ ?_
    | rfl)

theorem State.resetQueue_keep {wr : Nat} {s₀ : State} (s : State) (q : Nat) (hk : Keep wr s₀ s) (hs : 1040 &&& wr = 1040) :
    Keep wr s₀ (State.resetQueue s q) := by
  refine Keep.app hk ?_ hs
  unfold State.resetQueue
  repeat' (first
    | with_reducible exact Keep.refl _
    | with_reducible assumption
    | (fail_if_no_progress (extract_lets +onlyGivenNames x); first
        | (with_reducible refine Keep.cut (t := x) ?_ ?_; (on_goal 1 => (unfold x; clear x)); (on_goal 2 => (intro hx; clear_value x)))
        | clear_value x)
    | with_reducible apply State.returnCredits_keep
    | with_reducible apply State.serve_keep
    | with_reducible apply State.clearQueue_keep
    | refine Keep.foldl ?_ (fun t x ht => ?_)
    | rfl
    | fail_if_no_progress (with_reducible refine Keep.set_weft (by decide) ?_))

theorem State.resetQueues_keep {wr : Nat} {s₀ : State} (s : State) (p : Nat) (hk : Keep wr s₀ s) (hs : 1040 &&& wr = 1040) :
    Keep wr s₀ (State.resetQueues s p) := by
  refine Keep.app hk ?_ hs
  unfold State.resetQueues
  repeat' (first
    | with_reducible exact Keep.refl _
    | with_reducible assumption
    | (fail_if_no_progress (extract_lets +onlyGivenNames x); first
        | clear_value x)
    | with_reducible apply State.resetQueue_keep
    | refine Keep.foldl ?_ (fun t x ht => ?_)
    | rfl)

theorem State.landEntry_keep {wr : Nat} {s₀ : State} (s : State) (q : Nat) (payload : List Carried) (hk : Keep wr s₀ s) (hs : 35658260 &&& wr = 35658260) :
    Keep wr s₀ (State.landEntry s q payload) := by
  refine Keep.app hk ?_ hs
  unfold State.landEntry
  repeat' (first
    | with_reducible exact Keep.refl _
    | with_reducible assumption
    | (fail_if_no_progress (extract_lets +onlyGivenNames x); first
        | (with_reducible refine Keep.cut (t := x) ?_ ?_; (on_goal 1 => (unfold x; clear x)); (on_goal 2 => (intro hx; clear_value x)))
        | clear_value x)
    | with_reducible apply State.writeWords_keep
    | with_reducible apply State.sf_keep
    | with_reducible refine Keep.ite ?_ ?_
    | rfl)

end Sys2Proof.Machine
end

