-- ==== Sys2Proof/Laws/KeepShuttle.lean ====
section
/-!
SUPPORT. The parts of the state that the operations of Machine/Shuttle.lean may write.
-/

namespace Sys2Proof.Machine

open Reg Ob

theorem State.setSh_keep {wr : Nat} {s₀ : State} (s : State) (h : Shuttle) (hk : Keep wr s₀ s) (hs : 131072 &&& wr = 131072) :
    Keep wr s₀ (State.setSh s h) := by
  refine Keep.app hk ?_ hs
  unfold State.setSh
  repeat' (first
    | with_reducible exact Keep.refl _
    | fail_if_no_progress (with_reducible refine Keep.set_sh (by decide) ?_))

theorem State.modJob_keep {wr : Nat} {s₀ : State} (s : State) (id : Nat) (f : Job → Job) (hk : Keep wr s₀ s) (hs : 131072 &&& wr = 131072) :
    Keep wr s₀ (State.modJob s id f) := by
  refine Keep.app hk ?_ hs
  unfold State.modJob
  repeat' (first
    | with_reducible exact Keep.refl _
    | (fail_if_no_progress (extract_lets +onlyGivenNames x); first
        | clear_value x)
    | with_reducible apply State.setSh_keep
    | rfl)

theorem State.reportJob_keep {wr : Nat} {s₀ : State} (s : State) (id : Nat) (r : JobReport) (hk : Keep wr s₀ s) (hs : 131072 &&& wr = 131072) :
    Keep wr s₀ (State.reportJob s id r) := by
  refine Keep.app hk ?_ hs
  unfold State.reportJob
  repeat' (first
    | with_reducible exact Keep.refl _
    | with_reducible assumption
    | (fail_if_no_progress (extract_lets +onlyGivenNames x); first
        | (with_reducible refine Keep.cut (t := x) ?_ ?_; (on_goal 1 => (unfold x; clear x)); (on_goal 2 => (intro hx; clear_value x)))
        | clear_value x)
    | with_reducible apply State.modJob_keep
    | with_reducible apply State.setSh_keep
    | with_reducible refine Keep.ite ?_ ?_
    | rfl)

theorem State.jobPush_keep {wr : Nat} {s₀ : State} (s : State) (id : Nat) (payload : List Carried) (hk : Keep wr s₀ s) (hs : 2229248 &&& wr = 2229248) :
    Keep wr s₀ (State.jobPush s id payload) := by
  refine Keep.app hk ?_ hs
  unfold State.jobPush
  repeat' (first
    | with_reducible exact Keep.refl _
    | (fail_if_no_progress (extract_lets +onlyGivenNames x); first
        | clear_value x)
    | with_reducible apply State.post_keep
    | with_reducible apply State.pushEntry_keep
    | with_reducible apply State.modJob_keep
    | with_reducible refine Keep.ite ?_ ?_
    | split
    | rfl)

theorem State.jobPushBytes_keep {wr : Nat} {s₀ : State} (s : State) (id : Nat) (payload : List Byte) (hk : Keep wr s₀ s) (hs : 2229248 &&& wr = 2229248) :
    Keep wr s₀ (State.jobPushBytes s id payload) := by
  refine Keep.app hk ?_ hs
  unfold State.jobPushBytes
  repeat' (first
    | with_reducible exact Keep.refl _
    | with_reducible apply State.jobPush_keep
    | rfl)

theorem State.pushVoids_rec {s₀ : State} (s : State) (j : Job) (code : Nat) (n0 : Nat) (hk : Keep 1024 s₀ s) :
    Keep 1024 s₀ (State.pushVoids s j code n0) := by
  induction n0 generalizing s j code with
  | zero =>
    unfold State.pushVoids
    repeat' (first
      | with_reducible assumption
      | with_reducible apply State.pushBytes_keep
      | with_reducible apply ih
      | rfl)
  | succ n ih =>
    unfold State.pushVoids
    repeat' (first
      | with_reducible assumption
      | with_reducible apply State.pushBytes_keep
      | with_reducible apply ih
      | rfl)

theorem State.pushVoids_keep {wr : Nat} {s₀ : State} (s : State) (j : Job) (code : Nat) (n0 : Nat) (hk : Keep wr s₀ s)
    (hs : 1024 &&& wr = 1024) : Keep wr s₀ (State.pushVoids s j code n0) :=
  Keep.app hk (State.pushVoids_rec _ _ _ _ (Keep.refl _)) hs

theorem State.addTurn_keep {wr : Nat} {s₀ : State} (s : State) (j : Job) (discard : Bool) (hk : Keep wr s₀ s) (hs : 131072 &&& wr = 131072) :
    Keep wr s₀ (State.addTurn s j discard) := by
  refine Keep.app hk ?_ hs
  unfold State.addTurn
  repeat' (first
    | with_reducible exact Keep.refl _
    | (fail_if_no_progress (extract_lets +onlyGivenNames x); first
        | clear_value x)
    | with_reducible apply State.setSh_keep
    | with_reducible refine Keep.ite ?_ ?_
    | rfl)

theorem State.shEvent_keep {wr : Nat} {s₀ : State} (s : State) (p k : Nat) (hk : Keep wr s₀ s) (hs : 4297265172 &&& wr = 4297265172) :
    Keep wr s₀ (State.shEvent s p k) := by
  refine Keep.app hk ?_ hs
  unfold State.shEvent
  repeat' (first
    | with_reducible exact Keep.refl _
    | (fail_if_no_progress (extract_lets +onlyGivenNames x); first
        | clear_value x)
    | with_reducible apply State.raise_keep
    | with_reducible apply State.setSh_keep
    | with_reducible refine Keep.ite ?_ ?_
    | split
    | rfl)

theorem State.endJob_keep {wr : Nat} {s₀ : State} (s : State) (id code : Nat) (endTick : Nat) (upstream : Bool) (hk : Keep wr s₀ s) (hs : 4297266196 &&& wr = 4297266196) :
    Keep wr s₀ (State.endJob s id code endTick upstream) := by
  refine Keep.app hk ?_ hs
  unfold State.endJob
  repeat' (first
    | with_reducible exact Keep.refl _
    | with_reducible assumption
    | (fail_if_no_progress (extract_lets +onlyGivenNames x); first
        | (with_reducible refine Keep.cut (t := x) ?_ ?_; (on_goal 1 => (unfold x; clear x)); (on_goal 2 => (intro hx; clear_value x)))
        | clear_value x)
    | with_reducible apply State.modJob_keep
    | with_reducible apply State.setSh_keep
    | with_reducible apply State.pushVoids_keep
    | with_reducible apply State.addTurn_keep
    | with_reducible apply State.shEvent_keep
    | with_reducible apply State.incf_keep
    | with_reducible apply State.maxf_keep
    | with_reducible refine Keep.ite ?_ ?_
    | split
    | rfl)

theorem State.pushRecord_keep {wr : Nat} {s₀ : State} (s : State) (j : Job) (hk : Keep wr s₀ s) (hs : 132096 &&& wr = 132096) :
    Keep wr s₀ (State.pushRecord s j) := by
  refine Keep.app hk ?_ hs
  unfold State.pushRecord
  repeat' (first
    | with_reducible exact Keep.refl _
    | with_reducible assumption
    | (fail_if_no_progress (extract_lets +onlyGivenNames x); first
        | (with_reducible refine Keep.cut (t := x) ?_ ?_; (on_goal 1 => (unfold x; clear x)); (on_goal 2 => (intro hx; clear_value x)))
        | clear_value x)
    | with_reducible apply State.pushBytes_keep
    | with_reducible apply State.setSh_keep
    | rfl)

theorem State.abortAll_keep {wr : Nat} {s₀ : State} (s : State) (p : Nat) (hk : Keep wr s₀ s) (hs : 4297266196 &&& wr = 4297266196) :
    Keep wr s₀ (State.abortAll s p) := by
  refine Keep.app hk ?_ hs
  unfold State.abortAll
  repeat' (first
    | with_reducible exact Keep.refl _
    | with_reducible assumption
    | (fail_if_no_progress (extract_lets +onlyGivenNames x); first
        | (with_reducible refine Keep.cut (t := x) ?_ ?_; (on_goal 1 => (unfold x; clear x)); (on_goal 2 => (intro hx; clear_value x)))
        | clear_value x)
    | with_reducible apply State.endJob_keep
    | with_reducible apply State.pushRecord_keep
    | with_reducible apply State.setSh_keep
    | refine Keep.foldl ?_ (fun t x ht => ?_)
    | rfl)

theorem State.markReady_keep {wr : Nat} {s₀ : State} (s : State) (hk : Keep wr s₀ s) (hs : 131072 &&& wr = 131072) :
    Keep wr s₀ (State.markReady s) := by
  refine Keep.app hk ?_ hs
  unfold State.markReady
  repeat' (first
    | with_reducible exact Keep.refl _
    | (fail_if_no_progress (extract_lets +onlyGivenNames x); first
        | clear_value x)
    | with_reducible apply State.setSh_keep
    | rfl)

theorem State.popN_rec {s₀ : State} (s : State) (q : Nat) (n0 : Nat) (hk : Keep 14233443958 s₀ s) :
    Keep 14233443958 s₀ (State.popN s q n0).2 := by
  induction n0 generalizing s q with
  | zero =>
    unfold State.popN
    repeat' (first
      | with_reducible assumption
      | (fail_if_no_progress (extract_lets +onlyGivenNames x); first
          | (with_reducible refine Keep.cut (t := x.2) ?_ ?_; (on_goal 1 => (unfold x; clear x)); (on_goal 2 => (intro hx; clear_value x))))
      | with_reducible apply State.popQueue_keep
      | with_reducible apply ih
      | split
      | with_reducible refine Keep.of_pair (by assumption) ?_
      | rfl)
  | succ n ih =>
    unfold State.popN
    repeat' (first
      | with_reducible assumption
      | (fail_if_no_progress (extract_lets +onlyGivenNames x); first
          | (with_reducible refine Keep.cut (t := x.2) ?_ ?_; (on_goal 1 => (unfold x; clear x)); (on_goal 2 => (intro hx; clear_value x))))
      | with_reducible apply State.popQueue_keep
      | with_reducible apply ih
      | split
      | with_reducible refine Keep.of_pair (by assumption) ?_
      | rfl)

theorem State.popN_keep {wr : Nat} {s₀ : State} (s : State) (q : Nat) (n0 : Nat) (hk : Keep wr s₀ s)
    (hs : 14233443958 &&& wr = 14233443958) : Keep wr s₀ (State.popN s q n0).2 :=
  Keep.app hk (State.popN_rec _ _ _ (Keep.refl _)) hs

theorem State.dropTurn_keep {wr : Nat} {s₀ : State} (s : State) (id : Nat) (hk : Keep wr s₀ s) (hs : 131072 &&& wr = 131072) :
    Keep wr s₀ (State.dropTurn s id) := by
  refine Keep.app hk ?_ hs
  unfold State.dropTurn
  repeat' (first
    | with_reducible exact Keep.refl _
    | (fail_if_no_progress (extract_lets +onlyGivenNames x); first
        | clear_value x)
    | with_reducible apply State.setSh_keep
    | rfl)

theorem State.takeInputs_keep {wr : Nat} {s₀ : State} (s : State) (j : Job) (hk : Keep wr s₀ s) (hs : 14233575030 &&& wr = 14233575030) :
    Keep wr s₀ (State.takeInputs s j) := by
  refine Keep.app hk ?_ hs
  unfold State.takeInputs
  repeat' (first
    | with_reducible exact Keep.refl _
    | with_reducible assumption
    | (fail_if_no_progress (extract_lets +onlyGivenNames x); first
        | (with_reducible refine Keep.cut (t := x.2) ?_ ?_; (on_goal 1 => (unfold x; clear x)); (on_goal 2 => (intro hx; clear_value x))))
    | with_reducible apply State.popN_keep
    | with_reducible apply State.dropTurn_keep
    | with_reducible apply State.modJob_keep
    | with_reducible refine Keep.ite ?_ ?_
    | rfl)

theorem State.settleWith_rec {s₀ : State} (s : State) (n0 : Nat) (hk : Keep 14233575030 s₀ s) :
    Keep 14233575030 s₀ (State.settleWith s n0) := by
  induction n0 generalizing s with
  | zero =>
    unfold State.settleWith
    repeat' (first
      | with_reducible assumption
      | (fail_if_no_progress (extract_lets +onlyGivenNames x); first
          | (with_reducible refine Keep.cut (t := x) ?_ ?_; (on_goal 1 => (unfold x; clear x)); (on_goal 2 => (intro hx; clear_value x)))
          | clear_value x)
      | with_reducible apply State.popN_keep
      | with_reducible apply State.dropTurn_keep
      | with_reducible apply State.takeInputs_keep
      | with_reducible apply State.endJob_keep
      | with_reducible apply ih
      | split
      | rfl)
  | succ n ih =>
    unfold State.settleWith
    repeat' (first
      | with_reducible assumption
      | (fail_if_no_progress (extract_lets +onlyGivenNames x); first
          | (with_reducible refine Keep.cut (t := x) ?_ ?_; (on_goal 1 => (unfold x; clear x)); (on_goal 2 => (intro hx; clear_value x)))
          | clear_value x)
      | with_reducible apply State.popN_keep
      | with_reducible apply State.dropTurn_keep
      | with_reducible apply State.takeInputs_keep
      | with_reducible apply State.endJob_keep
      | with_reducible apply ih
      | split
      | rfl)

theorem State.settleWith_keep {wr : Nat} {s₀ : State} (s : State) (n0 : Nat) (hk : Keep wr s₀ s)
    (hs : 14233575030 &&& wr = 14233575030) : Keep wr s₀ (State.settleWith s n0) :=
  Keep.app hk (State.settleWith_rec _ _ (Keep.refl _)) hs

theorem State.settle_keep {wr : Nat} {s₀ : State} (s : State) (hk : Keep wr s₀ s) (hs : 14233575030 &&& wr = 14233575030) :
    Keep wr s₀ (State.settle s) := by
  refine Keep.app hk ?_ hs
  unfold State.settle
  repeat' (first
    | with_reducible exact Keep.refl _
    | with_reducible assumption
    | (fail_if_no_progress (extract_lets +onlyGivenNames x); first
        | (with_reducible refine Keep.cut (t := x) ?_ ?_; (on_goal 1 => (unfold x; clear x)); (on_goal 2 => (intro hx; clear_value x))))
    | with_reducible apply State.markReady_keep
    | with_reducible apply State.settleWith_keep
    | rfl)

theorem State.abortPending_keep {wr : Nat} {s₀ : State} (s : State) (p : Nat) (hk : Keep wr s₀ s) (hs : 14233575030 &&& wr = 14233575030) :
    Keep wr s₀ (State.abortPending s p) := by
  refine Keep.app hk ?_ hs
  unfold State.abortPending
  repeat' (first
    | with_reducible exact Keep.refl _
    | with_reducible assumption
    | with_reducible apply State.settle_keep
    | with_reducible apply State.endJob_keep
    | refine Keep.foldl ?_ (fun t x ht => ?_)
    | rfl)

theorem State.acceptJob_keep {wr : Nat} {s₀ : State} (s : State) (j : Job) (hk : Keep wr s₀ s) (hs : 4297266196 &&& wr = 4297266196) :
    Keep wr s₀ (State.acceptJob s j) := by
  refine Keep.app hk ?_ hs
  unfold State.acceptJob
  repeat' (first
    | with_reducible exact Keep.refl _
    | with_reducible assumption
    | (fail_if_no_progress (extract_lets +onlyGivenNames x); first
        | (with_reducible refine Keep.cut (t := x) ?_ ?_; (on_goal 1 => (unfold x; clear x)); (on_goal 2 => (intro hx; clear_value x)))
        | clear_value x)
    | with_reducible apply State.modJob_keep
    | with_reducible apply State.addTurn_keep
    | with_reducible apply State.endJob_keep
    | with_reducible refine Keep.ite ?_ ?_
    | split
    | rfl)

theorem State.acceptPlan_keep {wr : Nat} {s₀ : State} (s : State) (p sq : Nat) (hk : Keep wr s₀ s) (hs : 14233575030 &&& wr = 14233575030) :
    Keep wr s₀ (State.acceptPlan s p sq) := by
  refine Keep.app hk ?_ hs
  unfold State.acceptPlan
  repeat' (first
    | with_reducible exact Keep.refl _
    | with_reducible assumption
    | (fail_if_no_progress (extract_lets +onlyGivenNames x); first
        | (with_reducible refine Keep.cut (t := x) ?_ ?_; (on_goal 1 => (unfold x; clear x)); (on_goal 2 => (intro hx; clear_value x)))
        | clear_value x)
    | with_reducible apply State.acceptJob_keep
    | with_reducible apply State.shEvent_keep
    | with_reducible apply State.settle_keep
    | with_reducible refine Keep.ite ?_ ?_
    | refine Keep.foldl ?_ (fun t x ht => ?_)
    | rfl)

theorem State.cancelJobs_keep {wr : Nat} {s₀ : State} (s : State) (p value mask : Nat) (hk : Keep wr s₀ s) (hs : 14233575030 &&& wr = 14233575030) :
    Keep wr s₀ (State.cancelJobs s p value mask) := by
  refine Keep.app hk ?_ hs
  unfold State.cancelJobs
  repeat' (first
    | with_reducible exact Keep.refl _
    | with_reducible assumption
    | (fail_if_no_progress (extract_lets +onlyGivenNames x); first
        | (with_reducible refine Keep.cut (t := x) ?_ ?_; (on_goal 1 => (unfold x; clear x)); (on_goal 2 => (intro hx; clear_value x)))
        | clear_value x)
    | with_reducible apply State.modJob_keep
    | with_reducible apply State.endJob_keep
    | with_reducible apply State.settle_keep
    | with_reducible apply State.incf_keep
    | with_reducible refine Keep.ite ?_ ?_
    | refine Keep.foldl ?_ (fun t x ht => ?_)
    | rfl)

theorem State.endPlan_keep {wr : Nat} {s₀ : State} (s : State) (p sq code : Nat) (hk : Keep wr s₀ s) (hs : 4297266196 &&& wr = 4297266196) :
    Keep wr s₀ (State.endPlan s p sq code) := by
  refine Keep.app hk ?_ hs
  unfold State.endPlan
  repeat' (first
    | with_reducible exact Keep.refl _
    | with_reducible assumption
    | with_reducible apply State.endJob_keep
    | refine Keep.foldl ?_ (fun t x ht => ?_)
    | rfl)

theorem State.writeSqCfg_keep {wr : Nat} {s₀ : State} (s : State) (u k : Nat) (v : Nat) (hk : Keep wr s₀ s) (hs : 14233575030 &&& wr = 14233575030) :
    Keep wr s₀ (State.writeSqCfg s u k v) := by
  refine Keep.app hk ?_ hs
  unfold State.writeSqCfg
  repeat' (first
    | with_reducible exact Keep.refl _
    | with_reducible assumption
    | (fail_if_no_progress (extract_lets +onlyGivenNames x); first
        | (with_reducible refine Keep.cut (t := x) ?_ ?_; (on_goal 1 => (unfold x; clear x)); (on_goal 2 => (intro hx; clear_value x)))
        | clear_value x)
    | with_reducible apply State.sf_keep
    | with_reducible apply State.setSh_keep
    | with_reducible apply State.settle_keep
    | with_reducible apply State.endPlan_keep
    | with_reducible apply State.shEvent_keep
    | with_reducible refine Keep.ite ?_ ?_
    | rfl)

theorem State.writeCancel_keep {wr : Nat} {s₀ : State} (s : State) (u p : Nat) (v : Nat) (hk : Keep wr s₀ s) (hs : 131072 &&& wr = 131072) :
    Keep wr s₀ (State.writeCancel s u p v) := by
  refine Keep.app hk ?_ hs
  unfold State.writeCancel
  repeat' (first
    | with_reducible exact Keep.refl _
    | (fail_if_no_progress (extract_lets +onlyGivenNames x); first
        | clear_value x)
    | with_reducible apply State.setSh_keep
    | with_reducible refine Keep.ite ?_ ?_
    | rfl)

theorem State.writeTrigger_keep {wr : Nat} {s₀ : State} (s : State) (u p v : Nat) (hk : Keep wr s₀ s) (hs : 8192 &&& wr = 8192) :
    Keep wr s₀ (State.writeTrigger s u p v) := by
  refine Keep.app hk ?_ hs
  unfold State.writeTrigger
  repeat' (first
    | with_reducible exact Keep.refl _
    | (fail_if_no_progress (extract_lets +onlyGivenNames x); first
        | clear_value x)
    | with_reducible refine Keep.ite ?_ ?_
    | fail_if_no_progress (with_reducible refine Keep.set_tb (by decide) ?_))

theorem State.fireTrigger_keep {wr : Nat} {s₀ : State} (s : State) (t : Nat) (hk : Keep wr s₀ s) (hs : 14233575030 &&& wr = 14233575030) :
    Keep wr s₀ (State.fireTrigger s t) := by
  refine Keep.app hk ?_ hs
  unfold State.fireTrigger
  repeat' (first
    | with_reducible exact Keep.refl _
    | (fail_if_no_progress (extract_lets +onlyGivenNames x); first
        | clear_value x)
    | with_reducible apply State.settle_keep
    | with_reducible apply State.setSh_keep
    | rfl)

theorem State.markStep_keep {wr : Nat} {s₀ : State} (s : State) (step : Nat) (hk : Keep wr s₀ s) (hs : 131072 &&& wr = 131072) :
    Keep wr s₀ (State.markStep s step) := by
  refine Keep.app hk ?_ hs
  unfold State.markStep
  repeat' (first
    | with_reducible exact Keep.refl _
    | (fail_if_no_progress (extract_lets +onlyGivenNames x); first
        | clear_value x)
    | with_reducible apply State.setSh_keep
    | rfl)

theorem State.reportPeer_keep {wr : Nat} {s₀ : State} (s : State) (j : Job) (r : JobReport) (hk : Keep wr s₀ s) (hs : 2228224 &&& wr = 2228224) :
    Keep wr s₀ (State.reportPeer s j r) := by
  refine Keep.app hk ?_ hs
  unfold State.reportPeer
  repeat' (first
    | with_reducible exact Keep.refl _
    | (fail_if_no_progress (extract_lets +onlyGivenNames x); first
        | clear_value x)
    | with_reducible apply State.post_keep
    | with_reducible apply State.setSh_keep
    | split
    | rfl)

theorem State.processReport_keep {wr : Nat} {s₀ : State} (s : State) (id : Nat) (hk : Keep wr s₀ s) (hs : 4297266196 &&& wr = 4297266196) :
    Keep wr s₀ (State.processReport s id) := by
  refine Keep.app hk ?_ hs
  unfold State.processReport
  repeat' (first
    | with_reducible exact Keep.refl _
    | with_reducible assumption
    | (fail_if_no_progress (extract_lets +onlyGivenNames x); first
        | (with_reducible refine Keep.cut (t := x) ?_ ?_; (on_goal 1 => (unfold x; clear x)); (on_goal 2 => (intro hx; clear_value x)))
        | clear_value x)
    | with_reducible apply State.reportPeer_keep
    | with_reducible apply State.modJob_keep
    | with_reducible apply State.endJob_keep
    | with_reducible refine Keep.ite ?_ ?_
    | split
    | rfl)

theorem State.stage_keep {wr : Nat} {s₀ : State} (s : State) (k : Nat) (argsOk : State → Job → Bool) (hk : Keep wr s₀ s) (hs : 14233575030 &&& wr = 14233575030) :
    Keep wr s₀ (State.stage s k argsOk) := by
  refine Keep.app hk ?_ hs
  unfold State.stage
  repeat' (first
    | with_reducible exact Keep.refl _
    | with_reducible assumption
    | (fail_if_no_progress (extract_lets +onlyGivenNames x); first
        | (with_reducible refine Keep.cut (t := x) ?_ ?_; (on_goal 1 => (unfold x; clear x)); (on_goal 2 => (intro hx; clear_value x)))
        | clear_value x)
    | with_reducible apply State.setSh_keep
    | with_reducible apply State.popQueue_keep
    | with_reducible apply State.settle_keep
    | with_reducible apply State.endJob_keep
    | with_reducible apply State.modJob_keep
    | with_reducible apply State.acceptPlan_keep
    | with_reducible apply State.shEvent_keep
    | with_reducible apply State.endPlan_keep
    | with_reducible refine Keep.ite ?_ ?_
    | split
    | with_reducible refine Keep.of_pair (by assumption) ?_
    | rfl)

end Sys2Proof.Machine
end

