-- ==== Sys2Proof/Laws/KeepAccel.lean ====
section
/-!
SUPPORT. The parts of the state that the operations of Machine/Accel.lean may write.
-/

namespace Sys2Proof.Machine

open Reg Ob

theorem Keep.foldl_st {α : Type} {w : Nat} {s : State} {f : AccRun → α → AccRun} {l : List α} {b : AccRun}
    (h : Keep w s b.st) (hf : ∀ t x, Keep w s t.st → Keep w s (f t x).st) : Keep w s (l.foldl f b).st :=
  Keep.foldlP AccRun.st h hf

theorem Keep.foldl_pair_st {α β : Type} {w : Nat} {s : State} {f : β × AccRun → α → β × AccRun} {l : List α} {b : β × AccRun}
    (h : Keep w s b.2.st) (hf : ∀ t x, Keep w s t.2.st → Keep w s (f t x).2.st) : Keep w s (l.foldl f b).2.st :=
  Keep.foldlP (fun (b : β × AccRun) => b.2.st) h hf

theorem Keep.foldl_triple_st {α β γ : Type} {w : Nat} {s : State} {f : β × γ × AccRun → α → β × γ × AccRun} {l : List α}
    {b : β × γ × AccRun} (h : Keep w s b.2.2.st) (hf : ∀ t x, Keep w s t.2.2.st → Keep w s (f t x).2.2.st) :
    Keep w s (l.foldl f b).2.2.st :=
  Keep.foldlP (fun (b : β × γ × AccRun) => b.2.2.st) h hf

theorem Keep.of_pair_st {α : Type} {w : Nat} {s : State} {t : AccRun} {r : α × AccRun} {n : α} (h : r = (n, t))
    (k : Keep w s r.2.st) : Keep w s t.st := by subst h; exact k

theorem Keep.of_triple_st {α β : Type} {w : Nat} {s : State} {t : AccRun} {r : α × β × AccRun} {m : α} {n : β}
    (h : r = (m, n, t)) (k : Keep w s r.2.2.st) : Keep w s t.st := by subst h; exact k

theorem AccRun.block_keep {wr : Nat} {s₀ : State} (r : AccRun) (flag : Bool) (hk : Keep wr s₀ r.st) (hs : 0 &&& wr = 0) :
    Keep wr s₀ (AccRun.block r flag).st := by
  refine Keep.app hk ?_ hs
  unfold AccRun.block
  repeat' (first
    | with_reducible exact Keep.refl _
    | split)

theorem AccRun.halt_keep {wr : Nat} {s₀ : State} (r : AccRun) (code : Nat) (hk : Keep wr s₀ r.st) (hs : 0 &&& wr = 0) :
    Keep wr s₀ (AccRun.halt r code).st := by
  refine Keep.app hk ?_ hs
  unfold AccRun.halt
  repeat' (first
    | with_reducible exact Keep.refl _
    | split)

theorem AccRun.read_keep {wr : Nat} {s₀ : State} (r : AccRun) (a n : Nat) (hk : Keep wr s₀ r.st) (hs : 13965007478 &&& wr = 13965007478) :
    Keep wr s₀ (AccRun.read r a n).2.st := by
  refine Keep.app hk ?_ hs
  unfold AccRun.read
  repeat' (first
    | with_reducible exact Keep.refl _
    | (fail_if_no_progress (extract_lets +onlyGivenNames x); first
        | clear_value x)
    | with_reducible apply AccRun.halt_keep
    | with_reducible apply State.countDenial_keep
    | with_reducible apply State.readBytes_keep
    | split
    | with_reducible refine Keep.of_pair (by assumption) ?_
    | rfl)

theorem AccRun.count_keep {wr : Nat} {s₀ : State} (r : AccRun) (hk : Keep wr s₀ r.st) (hs : 16 &&& wr = 16) :
    Keep wr s₀ (AccRun.count r).st := by
  refine Keep.app hk ?_ hs
  unfold AccRun.count
  repeat' (first
    | with_reducible exact Keep.refl _
    | (fail_if_no_progress (extract_lets +onlyGivenNames x); first
        | clear_value x)
    | with_reducible apply State.incf_keep
    | rfl)

theorem AccRun.require_keep {wr : Nat} {s₀ : State} (r : AccRun) (ok : Bool) (hk : Keep wr s₀ r.st) (hs : 0 &&& wr = 0) :
    Keep wr s₀ (AccRun.require r ok).st := by
  refine Keep.app hk ?_ hs
  unfold AccRun.require
  repeat' (first
    | with_reducible exact Keep.refl _
    | with_reducible apply AccRun.halt_keep
    | split
    | rfl)

theorem AccRun.done_keep {wr : Nat} {s₀ : State} (r : AccRun) (hk : Keep wr s₀ r.st) (hs : 0 &&& wr = 0) :
    Keep wr s₀ (AccRun.done r).st := by
  refine Keep.app hk ?_ hs
  unfold AccRun.done
  repeat' (first
    | with_reducible exact Keep.refl _
    | split)

theorem AccRun.each_keep {wr : Nat} {s₀ : State} (r : AccRun) (n : Nat) (f : Nat → AccRun → AccRun) (hk : Keep wr s₀ r.st) (hs : 0 &&& wr = 0)
    (hb_f : ∀ n r, Keep wr s₀ r.st → Keep wr s₀ (f n r).st) :
    Keep wr s₀ (AccRun.each r n f).st := by
  unfold AccRun.each
  repeat' (first
    | with_reducible assumption
    | with_reducible apply hb_f
    | split
    | refine Keep.foldl_st ?_ (fun t x ht => ?_))

theorem AccRun.finish_keep {wr : Nat} {s₀ : State} (r : AccRun) (outCount : Nat) (info : List Byte) (reset : State → State) (hk : Keep wr s₀ r.st) (hs : 2229248 &&& wr = 2229248)
    (hb_reset : ∀ t, Keep wr s₀ t → Keep wr s₀ (reset t)) :
    Keep wr s₀ (AccRun.finish r outCount info reset) := by
  unfold AccRun.finish
  repeat' (first
    | with_reducible assumption
    | (fail_if_no_progress (extract_lets +onlyGivenNames x); first
        | (with_reducible refine Keep.cut (t := x) ?_ ?_; (on_goal 1 => (unfold x; clear x)); (on_goal 2 => (intro hx; clear_value x)))
        | clear_value x)
    | with_reducible apply hb_reset
    | with_reducible apply State.reportJob_keep
    | with_reducible apply State.jobPushBytes_keep
    | with_reducible refine Keep.ite ?_ ?_
    | split
    | exact Nat.sub_trans (by decide) hs)

theorem AccRun.iterate_keep {wr : Nat} {s₀ : State} (r : AccRun) (n : Nat) (hk : Keep wr s₀ r.st) (hs : 0 &&& wr = 0) :
    Keep wr s₀ (AccRun.iterate r n).st := by
  refine Keep.app hk ?_ hs
  unfold AccRun.iterate
  repeat' (first
    | with_reducible exact Keep.refl _)

theorem AccRun.write_keep {wr : Nat} {s₀ : State} (r : AccRun) (a : Nat) (data : List Byte) (hk : Keep wr s₀ r.st) (hs : 13998561908 &&& wr = 13998561908) :
    Keep wr s₀ (AccRun.write r a data).st := by
  refine Keep.app hk ?_ hs
  unfold AccRun.write
  repeat' (first
    | with_reducible exact Keep.refl _
    | with_reducible assumption
    | (fail_if_no_progress (extract_lets +onlyGivenNames x); first
        | (with_reducible refine Keep.cut (t := x.2) ?_ ?_; (on_goal 1 => (unfold x; clear x)); (on_goal 2 => (intro hx; clear_value x)))
        | clear_value x)
    | with_reducible apply AccRun.halt_keep
    | with_reducible apply State.countDenial_keep
    | with_reducible apply State.writeBytes_keep
    | split
    | rfl)

theorem AccRun.setFlag_keep {wr : Nat} {s₀ : State} (r : AccRun) (i : Nat) (hk : Keep wr s₀ r.st) (hs : 0 &&& wr = 0) :
    Keep wr s₀ (AccRun.setFlag r i).st := by
  refine Keep.app hk ?_ hs
  unfold AccRun.setFlag
  repeat' (first
    | with_reducible exact Keep.refl _)

theorem AccRun.start_keep {wr : Nat} {s₀ : State} (s : State) (j : Job) (hk : Keep wr s₀ s) (hs : 0 &&& wr = 0) :
    Keep wr s₀ (AccRun.start s j).st := by
  refine Keep.app hk ?_ hs
  unfold AccRun.start
  repeat' (first
    | with_reducible exact Keep.refl _)

theorem State.accEvent_keep {wr : Nat} {s₀ : State} (s : State) (u reason : Nat) (hk : Keep wr s₀ s) (hs : 4297134100 &&& wr = 4297134100) :
    Keep wr s₀ (State.accEvent s u reason) := by
  refine Keep.app hk ?_ hs
  unfold State.accEvent
  repeat' (first
    | with_reducible exact Keep.refl _
    | with_reducible apply State.raiseReason_keep
    | rfl)

theorem State.resetAcc_keep {wr : Nat} {s₀ : State} (s : State) (u reason : Nat) (hk : Keep wr s₀ s) (hs : 4297134100 &&& wr = 4297134100) :
    Keep wr s₀ (State.resetAcc s u reason) := by
  refine Keep.app hk ?_ hs
  unfold State.resetAcc
  repeat' (first
    | with_reducible exact Keep.refl _
    | with_reducible apply State.accEvent_keep
    | with_reducible apply State.incf_keep
    | rfl)

theorem State.accRun_keep {wr : Nat} {s₀ : State} (s : State) (u typ : Nat) (body : Job → AccRun → AccRun) (info : AccRun → List Byte) (hk : Keep wr s₀ s) (hs : 4565701652 &&& wr = 4565701652)
    (hb_body : ∀ j r, Keep wr s₀ r.st → Keep wr s₀ (body j r).st) :
    Keep wr s₀ (State.accRun s u typ body info) := by
  unfold State.accRun
  repeat' (first
    | with_reducible assumption
    | (intro _)
    | (fail_if_no_progress (extract_lets +onlyGivenNames x); first
        | (with_reducible refine Keep.cut (t := x.st) ?_ ?_; (on_goal 1 => (unfold x; clear x)); (on_goal 2 => (intro hx; clear_value x))))
    | with_reducible apply hb_body
    | with_reducible apply AccRun.start_keep
    | with_reducible apply State.stallOn_keep
    | with_reducible apply AccRun.finish_keep
    | with_reducible apply AccRun.count_keep
    | with_reducible apply State.resetAcc_keep
    | split
    | exact Nat.sub_trans (by decide) hs)

theorem State.resetAccByWrite_keep {wr : Nat} {s₀ : State} (s : State) (u : Nat) (hk : Keep wr s₀ s) (hs : 4297265172 &&& wr = 4297265172) :
    Keep wr s₀ (State.resetAccByWrite s u) := by
  refine Keep.app hk ?_ hs
  unfold State.resetAccByWrite
  repeat' (first
    | with_reducible exact Keep.refl _
    | with_reducible assumption
    | (fail_if_no_progress (extract_lets +onlyGivenNames x); first
        | (with_reducible refine Keep.cut (t := x) ?_ ?_; (on_goal 1 => (unfold x; clear x)); (on_goal 2 => (intro hx; clear_value x))))
    | with_reducible apply State.reportJob_keep
    | with_reducible apply State.resetAcc_keep
    | with_reducible refine Keep.ite ?_ ?_
    | split
    | rfl)

theorem State.writeAccCtrl_keep {wr : Nat} {s₀ : State} (s : State) (r u v : Nat) (hk : Keep wr s₀ s) (hs : 4297265172 &&& wr = 4297265172) :
    Keep wr s₀ (State.writeAccCtrl s r u v) := by
  refine Keep.app hk ?_ hs
  unfold State.writeAccCtrl
  repeat' (first
    | with_reducible exact Keep.refl _
    | with_reducible apply State.resetAccByWrite_keep
    | with_reducible refine Keep.ite ?_ ?_
    | rfl)

theorem execAccSreset_keep (requester unit : Nat) (control : Half) (s : State) : KeepOut 4565700628 s (execAccSreset requester unit control s) := by
  unfold execAccSreset
  repeat' (first
    | with_reducible exact Keep.refl _
    | with_reducible assumption
    | (intro _)
    | with_reducible refine Keep.out ?_
    | with_reducible apply State.atIsland_keep
    | with_reducible apply State.writeAccCtrl_keep
    | rfl)

end Sys2Proof.Machine
end

