-- ==== Sys2Proof/Laws/KeepEngine.lean ====
section
/-!
SUPPORT. The parts of the state that the operations of Machine/Engine.lean may write.
-/

namespace Sys2Proof.Machine

open Reg Ob

theorem State.setGus_keep {wr : Nat} {s₀ : State} (s : State) (n : Nat) (x : Gusset) (hk : Keep wr s₀ s) (hs : 32768 &&& wr = 32768) :
    Keep wr s₀ (State.setGus s n x) := by
  refine Keep.app hk ?_ hs
  unfold State.setGus
  repeat' (first
    | with_reducible exact Keep.refl _
    | fail_if_no_progress (with_reducible refine Keep.set_gussets (by decide) ?_))

theorem State.dropBank_keep {wr : Nat} {s₀ : State} (s : State) (g : Nat) (hk : Keep wr s₀ s) (hs : 32768 &&& wr = 32768) :
    Keep wr s₀ (State.dropBank s g) := by
  refine Keep.app hk ?_ hs
  unfold State.dropBank
  repeat' (first
    | with_reducible exact Keep.refl _
    | with_reducible apply State.setGus_keep
    | with_reducible refine Keep.ite ?_ ?_
    | rfl)

theorem State.squashPush_keep {wr : Nat} {s₀ : State} (s : State) (g : Nat) (hk : Keep wr s₀ s) (hs : 1024 &&& wr = 1024) :
    Keep wr s₀ (State.squashPush s g) := by
  refine Keep.app hk ?_ hs
  unfold State.squashPush
  repeat' (first
    | with_reducible exact Keep.refl _
    | (fail_if_no_progress (extract_lets +onlyGivenNames x); first
        | clear_value x)
    | with_reducible apply State.setPort_keep
    | split
    | rfl)

theorem State.clearEngine_keep {wr : Nat} {s₀ : State} (s : State) (g : Nat) (st : EngState) (hk : Keep wr s₀ s) (hs : 50176 &&& wr = 50176) :
    Keep wr s₀ (State.clearEngine s g st) := by
  refine Keep.app hk ?_ hs
  unfold State.clearEngine
  repeat' (first
    | with_reducible exact Keep.refl _
    | with_reducible assumption
    | (fail_if_no_progress (extract_lets +onlyGivenNames x); first
        | (with_reducible refine Keep.cut (t := x) ?_ ?_; (on_goal 1 => (unfold x; clear x)); (on_goal 2 => (intro hx; clear_value x)))
        | clear_value x)
    | with_reducible apply State.dropBank_keep
    | with_reducible apply State.squashPush_keep
    | with_reducible apply State.setEng_keep
    | rfl)

theorem State.countJob_keep {wr : Nat} {s₀ : State} (s : State) (g : Nat) (hk : Keep wr s₀ s) (hs : 16 &&& wr = 16) :
    Keep wr s₀ (State.countJob s g) := by
  refine Keep.app hk ?_ hs
  unfold State.countJob
  repeat' (first
    | with_reducible exact Keep.refl _
    | with_reducible apply State.incf_keep
    | rfl)

theorem State.resetEngine_keep {wr : Nat} {s₀ : State} (s : State) (g : Nat) (report : JobReport) (hk : Keep wr s₀ s) (hs : 181264 &&& wr = 181264) :
    Keep wr s₀ (State.resetEngine s g report) := by
  refine Keep.app hk ?_ hs
  unfold State.resetEngine
  repeat' (first
    | with_reducible exact Keep.refl _
    | with_reducible assumption
    | (fail_if_no_progress (extract_lets +onlyGivenNames x); first
        | (with_reducible refine Keep.cut (t := x) ?_ ?_; (on_goal 1 => (unfold x; clear x)); (on_goal 2 => (intro hx; clear_value x)))
        | clear_value x)
    | with_reducible apply State.incf_keep
    | with_reducible apply State.clearEngine_keep
    | with_reducible apply State.countJob_keep
    | with_reducible apply State.reportJob_keep
    | split
    | rfl)

theorem State.engEvent_keep {wr : Nat} {s₀ : State} (s : State) (g reason : Nat) (hk : Keep wr s₀ s) (hs : 4297134100 &&& wr = 4297134100) :
    Keep wr s₀ (State.engEvent s g reason) := by
  refine Keep.app hk ?_ hs
  unfold State.engEvent
  repeat' (first
    | with_reducible exact Keep.refl _
    | with_reducible apply State.raiseReason_keep
    | rfl)

theorem State.unhandled_keep {wr : Nat} {s₀ : State} (s : State) (g cause epc : Nat) (hk : Keep wr s₀ s) (hs : 4297315348 &&& wr = 4297315348) :
    Keep wr s₀ (State.unhandled s g cause epc) := by
  refine Keep.app hk ?_ hs
  unfold State.unhandled
  repeat' (first
    | with_reducible exact Keep.refl _
    | with_reducible assumption
    | (fail_if_no_progress (extract_lets +onlyGivenNames x); first
        | (with_reducible refine Keep.cut (t := x) ?_ ?_; (on_goal 1 => (unfold x; clear x)); (on_goal 2 => (intro hx; clear_value x)))
        | clear_value x)
    | with_reducible apply State.resetEngine_keep
    | with_reducible apply State.engEvent_keep
    | with_reducible apply State.sf_keep
    | rfl)

theorem State.squashFused_keep {wr : Nat} {s₀ : State} (s : State) (g : Nat) (hk : Keep wr s₀ s) (hs : 32768 &&& wr = 32768) :
    Keep wr s₀ (State.squashFused s g) := by
  refine Keep.app hk ?_ hs
  unfold State.squashFused
  repeat' (first
    | with_reducible exact Keep.refl _
    | (fail_if_no_progress (extract_lets +onlyGivenNames x); first
        | clear_value x)
    | with_reducible apply State.setGus_keep
    | with_reducible refine Keep.ite ?_ ?_
    | rfl)

theorem State.takeException_keep {wr : Nat} {s₀ : State} (s : State) (g cause epc eaddr : Nat) (element : Bool) (hk : Keep wr s₀ s) (hs : 4297315348 &&& wr = 4297315348) :
    Keep wr s₀ (State.takeException s g cause epc eaddr element) := by
  refine Keep.app hk ?_ hs
  unfold State.takeException
  repeat' (first
    | with_reducible exact Keep.refl _
    | (fail_if_no_progress (extract_lets +onlyGivenNames x); first
        | clear_value x)
    | with_reducible apply State.unhandled_keep
    | with_reducible apply State.setEng_keep
    | with_reducible apply State.squashFused_keep
    | with_reducible refine Keep.ite ?_ ?_
    | rfl)

theorem State.takeAsync_keep {wr : Nat} {s₀ : State} (s : State) (g : Nat) (hk : Keep wr s₀ s) (hs : 4297315348 &&& wr = 4297315348) :
    Keep wr s₀ (State.takeAsync s g) := by
  refine Keep.app hk ?_ hs
  unfold State.takeAsync
  repeat' (first
    | with_reducible exact Keep.refl _
    | (fail_if_no_progress (extract_lets +onlyGivenNames x); first
        | clear_value x)
    | with_reducible apply State.takeException_keep
    | with_reducible apply State.setEng_keep
    | with_reducible refine Keep.ite ?_ ?_
    | split
    | rfl)

theorem State.countCycles_keep {wr : Nat} {s₀ : State} (s : State) (g : Nat) (hk : Keep wr s₀ s) (hs : 16386 &&& wr = 16386) :
    Keep wr s₀ (State.countCycles s g) := by
  refine Keep.app hk ?_ hs
  unfold State.countCycles
  repeat' (first
    | with_reducible exact Keep.refl _
    | (fail_if_no_progress (extract_lets +onlyGivenNames x); first
        | clear_value x)
    | with_reducible apply State.setEng_keep
    | with_reducible apply State.fresh_keep
    | with_reducible refine Keep.ite ?_ ?_
    | rfl)

theorem State.haltWaiting_keep {wr : Nat} {s₀ : State} (s : State) (g : Nat) (hk : Keep wr s₀ s) (hs : 16386 &&& wr = 16386) :
    Keep wr s₀ (State.haltWaiting s g) := by
  refine Keep.app hk ?_ hs
  unfold State.haltWaiting
  repeat' (first
    | with_reducible exact Keep.refl _
    | with_reducible assumption
    | (fail_if_no_progress (extract_lets +onlyGivenNames x); first
        | (with_reducible refine Keep.cut (t := x) ?_ ?_; (on_goal 1 => (unfold x; clear x)); (on_goal 2 => (intro hx; clear_value x)))
        | clear_value x)
    | with_reducible apply State.countCycles_keep
    | with_reducible apply State.setEng_keep
    | with_reducible refine Keep.ite ?_ ?_
    | rfl)

theorem State.stopLate_keep {wr : Nat} {s₀ : State} (s : State) (g : Nat) (hk : Keep wr s₀ s) (hs : 4297315350 &&& wr = 4297315350) :
    Keep wr s₀ (State.stopLate s g) := by
  refine Keep.app hk ?_ hs
  unfold State.stopLate
  repeat' (first
    | with_reducible exact Keep.refl _
    | with_reducible assumption
    | (fail_if_no_progress (extract_lets +onlyGivenNames x); first
        | (with_reducible refine Keep.cut (t := x) ?_ ?_; (on_goal 1 => (unfold x; clear x)); (on_goal 2 => (intro hx; clear_value x)))
        | clear_value x)
    | with_reducible apply State.countCycles_keep
    | with_reducible apply State.squashFused_keep
    | with_reducible apply State.squashPush_keep
    | with_reducible apply State.setEng_keep
    | with_reducible apply State.engEvent_keep
    | with_reducible apply State.countJob_keep
    | with_reducible apply State.reportJob_keep
    | with_reducible apply State.haltWaiting_keep
    | split
    | rfl)

theorem State.jobLate_keep {wr : Nat} {s₀ : State} (s : State) (g : Nat) (hk : Keep wr s₀ s) (hs : 4297315350 &&& wr = 4297315350) :
    Keep wr s₀ (State.jobLate s g) := by
  refine Keep.app hk ?_ hs
  unfold State.jobLate
  repeat' (first
    | with_reducible exact Keep.refl _
    | (fail_if_no_progress (extract_lets +onlyGivenNames x); first
        | clear_value x)
    | with_reducible apply State.takeAsync_keep
    | with_reducible apply State.setEng_keep
    | with_reducible apply State.stopLate_keep
    | with_reducible refine Keep.ite ?_ ?_
    | rfl)

theorem State.execute_keep {wr : Nat} {s₀ : State} (s : State) (g : Nat) (body : Engine → State) (hk : Keep wr s₀ s) (hs : 4297315348 &&& wr = 4297315348)
    (hb_body : ∀ e, Keep wr s₀ (body e)) :
    Keep wr s₀ (State.execute s g body) := by
  unfold State.execute
  repeat' (first
    | with_reducible assumption
    | with_reducible apply hb_body
    | with_reducible apply State.takeAsync_keep
    | with_reducible refine Keep.ite ?_ ?_)

theorem State.raiseSync_keep {wr : Nat} {s₀ : State} (s : State) (g cause eaddr : Nat) (hk : Keep wr s₀ s) (hs : 4297315348 &&& wr = 4297315348) :
    Keep wr s₀ (State.raiseSync s g cause eaddr) := by
  refine Keep.app hk ?_ hs
  unfold State.raiseSync
  repeat' (first
    | with_reducible exact Keep.refl _
    | with_reducible apply State.takeException_keep
    | rfl)

theorem State.illegal_keep {wr : Nat} {s₀ : State} (s : State) (g : Nat) (hk : Keep wr s₀ s) (hs : 4297315348 &&& wr = 4297315348) :
    Keep wr s₀ (State.illegal s g) := by
  refine Keep.app hk ?_ hs
  unfold State.illegal
  repeat' (first
    | with_reducible exact Keep.refl _
    | with_reducible apply State.raiseSync_keep
    | rfl)

theorem State.native_keep {wr : Nat} {s₀ : State} (s : State) (g : Nat) (body : Engine → State) (hk : Keep wr s₀ s) (hs : 4297315348 &&& wr = 4297315348)
    (hb_body : ∀ e, Keep wr s₀ (body e)) :
    Keep wr s₀ (State.native s g body) := by
  unfold State.native
  repeat' (first
    | with_reducible assumption
    | (intro _)
    | with_reducible apply hb_body
    | with_reducible apply State.execute_keep
    | with_reducible apply State.illegal_keep
    | with_reducible refine Keep.ite ?_ ?_)

theorem State.retireAt_keep {wr : Nat} {s₀ : State} (s : State) (g : Nat) (e : Engine) (pc : Nat) (hk : Keep wr s₀ s) (hs : 4297315348 &&& wr = 4297315348) :
    Keep wr s₀ (State.retireAt s g e pc) := by
  refine Keep.app hk ?_ hs
  unfold State.retireAt
  repeat' (first
    | with_reducible exact Keep.refl _
    | with_reducible apply State.takeAsync_keep
    | with_reducible apply State.setEng_keep
    | rfl)

theorem State.retire_keep {wr : Nat} {s₀ : State} (s : State) (g : Nat) (e : Engine) (hk : Keep wr s₀ s) (hs : 4297315348 &&& wr = 4297315348) :
    Keep wr s₀ (State.retire s g e) := by
  refine Keep.app hk ?_ hs
  unfold State.retire
  repeat' (first
    | with_reducible exact Keep.refl _
    | with_reducible apply State.retireAt_keep
    | rfl)

theorem State.regOp_keep {wr : Nat} {s₀ : State} (s : State) (g : Nat) (f : Engine → Engine) (hk : Keep wr s₀ s) (hs : 4297315348 &&& wr = 4297315348) :
    Keep wr s₀ (State.regOp s g f) := by
  refine Keep.app hk ?_ hs
  unfold State.regOp
  repeat' (first
    | with_reducible exact Keep.refl _
    | (intro _)
    | with_reducible apply State.native_keep
    | with_reducible apply State.retire_keep
    | rfl)

theorem State.alu_keep {wr : Nat} {s₀ : State} (s : State) (g : Nat) (rd : BitVec 5) (f : Engine → Word) (hk : Keep wr s₀ s) (hs : 4297315348 &&& wr = 4297315348) :
    Keep wr s₀ (State.alu s g rd f) := by
  refine Keep.app hk ?_ hs
  unfold State.alu
  repeat' (first
    | with_reducible exact Keep.refl _
    | with_reducible apply State.regOp_keep
    | rfl)

theorem State.finishExit_keep {wr : Nat} {s₀ : State} (s : State) (g code result ext : Nat) (hk : Keep wr s₀ s) (hs : 147474 &&& wr = 147474) :
    Keep wr s₀ (State.finishExit s g code result ext) := by
  refine Keep.app hk ?_ hs
  unfold State.finishExit
  repeat' (first
    | with_reducible exact Keep.refl _
    | with_reducible assumption
    | (fail_if_no_progress (extract_lets +onlyGivenNames x); first
        | (with_reducible refine Keep.cut (t := x) ?_ ?_; (on_goal 1 => (unfold x; clear x)); (on_goal 2 => (intro hx; clear_value x)))
        | clear_value x)
    | with_reducible apply State.countCycles_keep
    | with_reducible apply State.setEng_keep
    | with_reducible apply State.countJob_keep
    | with_reducible apply State.reportJob_keep
    | split
    | rfl)

theorem State.exitLanded_keep {wr : Nat} {s₀ : State} (s : State) (g : Nat) (hk : Keep wr s₀ s) (hs : 147474 &&& wr = 147474) :
    Keep wr s₀ (State.exitLanded s g) := by
  refine Keep.app hk ?_ hs
  unfold State.exitLanded
  repeat' (first
    | with_reducible exact Keep.refl _
    | with_reducible apply State.finishExit_keep
    | with_reducible refine Keep.ite ?_ ?_
    | split
    | rfl)

theorem State.holdEngine_keep {wr : Nat} {s₀ : State} (s : State) (g : Nat) (hk : Keep wr s₀ s) (hs : 181264 &&& wr = 181264) :
    Keep wr s₀ (State.holdEngine s g) := by
  refine Keep.app hk ?_ hs
  unfold State.holdEngine
  repeat' (first
    | with_reducible exact Keep.refl _
    | with_reducible assumption
    | (fail_if_no_progress (extract_lets +onlyGivenNames x); first
        | (with_reducible refine Keep.cut (t := x) ?_ ?_; (on_goal 1 => (unfold x; clear x)); (on_goal 2 => (intro hx; clear_value x)))
        | clear_value x)
    | with_reducible apply State.clearEngine_keep
    | with_reducible apply State.countJob_keep
    | with_reducible apply State.reportJob_keep
    | split
    | rfl)

theorem State.jumpTo_keep {wr : Nat} {s₀ : State} (s : State) (g : Nat) (e : Engine) (pc : Nat) (hk : Keep wr s₀ s) (hs : 4297315348 &&& wr = 4297315348) :
    Keep wr s₀ (State.jumpTo s g e pc) := by
  refine Keep.app hk ?_ hs
  unfold State.jumpTo
  repeat' (first
    | with_reducible exact Keep.refl _
    | with_reducible apply State.raiseSync_keep
    | with_reducible apply State.retireAt_keep
    | with_reducible refine Keep.ite ?_ ?_
    | rfl)

theorem State.poisonReset_keep {wr : Nat} {s₀ : State} (s : State) (g : Nat) (hk : Keep wr s₀ s) (hs : 4297315348 &&& wr = 4297315348) :
    Keep wr s₀ (State.poisonReset s g) := by
  refine Keep.app hk ?_ hs
  unfold State.poisonReset
  repeat' (first
    | with_reducible exact Keep.refl _
    | with_reducible apply State.engEvent_keep
    | with_reducible apply State.resetEngine_keep
    | rfl)

theorem State.poisonJob_keep {wr : Nat} {s₀ : State} (s : State) (g : Nat) (hk : Keep wr s₀ s) (hs : 16384 &&& wr = 16384) :
    Keep wr s₀ (State.poisonJob s g) := by
  refine Keep.app hk ?_ hs
  unfold State.poisonJob
  repeat' (first
    | with_reducible exact Keep.refl _
    | (fail_if_no_progress (extract_lets +onlyGivenNames x); first
        | clear_value x)
    | with_reducible apply State.setEng_keep
    | rfl)

theorem State.goEngine_keep {wr : Nat} {s₀ : State} (s : State) (g : Nat) (hk : Keep wr s₀ s) (hs : 16384 &&& wr = 16384) :
    Keep wr s₀ (State.goEngine s g) := by
  refine Keep.app hk ?_ hs
  unfold State.goEngine
  repeat' (first
    | with_reducible exact Keep.refl _
    | (fail_if_no_progress (extract_lets +onlyGivenNames x); first
        | clear_value x)
    | with_reducible apply State.setEng_keep
    | with_reducible refine Keep.ite ?_ ?_
    | rfl)

theorem State.openEngine_keep {wr : Nat} {s₀ : State} (s : State) (g : Nat) (hk : Keep wr s₀ s) (hs : 16386 &&& wr = 16386) :
    Keep wr s₀ (State.openEngine s g) := by
  refine Keep.app hk ?_ hs
  unfold State.openEngine
  repeat' (first
    | with_reducible exact Keep.refl _
    | with_reducible assumption
    | (fail_if_no_progress (extract_lets +onlyGivenNames x); first
        | (with_reducible refine Keep.cut (t := x) ?_ ?_; (on_goal 1 => (unfold x; clear x)); (on_goal 2 => (intro hx; clear_value x)))
        | clear_value x)
    | with_reducible apply State.countCycles_keep
    | with_reducible apply State.haltWaiting_keep
    | with_reducible apply State.setEng_keep
    | with_reducible refine Keep.ite ?_ ?_
    | rfl)

theorem State.writeEngCtrl_keep {wr : Nat} {s₀ : State} (s : State) (u g v : Nat) (hk : Keep wr s₀ s) (hs : 181266 &&& wr = 181266) :
    Keep wr s₀ (State.writeEngCtrl s u g v) := by
  refine Keep.app hk ?_ hs
  unfold State.writeEngCtrl
  repeat' (first
    | with_reducible exact Keep.refl _
    | with_reducible assumption
    | (fail_if_no_progress (extract_lets +onlyGivenNames x); first
        | (with_reducible refine Keep.cut (t := x) ?_ ?_; (on_goal 1 => (unfold x; clear x)); (on_goal 2 => (intro hx; clear_value x))))
    | with_reducible apply State.sf_keep
    | with_reducible apply State.haltWaiting_keep
    | with_reducible apply State.resetEngine_keep
    | with_reducible apply State.goEngine_keep
    | with_reducible apply State.openEngine_keep
    | with_reducible refine Keep.ite ?_ ?_
    | rfl)

theorem State.storeEntry_keep {wr : Nat} {s₀ : State} (s : State) (g ea : Nat) (words : List Carried) (hk : Keep wr s₀ s) (hs : 35658244 &&& wr = 35658244) :
    Keep wr s₀ (State.storeEntry s g ea words) := by
  refine Keep.app hk ?_ hs
  unfold State.storeEntry
  repeat' (first
    | with_reducible exact Keep.refl _
    | with_reducible apply State.writeWords_keep
    | rfl)

theorem State.takePopped_keep {wr : Nat} {s₀ : State} (s : State) (g ea base : Nat) (updated : Word) (result : Option Nat) (w : List Carried) (hk : Keep wr s₀ s) (hs : 4330872340 &&& wr = 4330872340) :
    Keep wr s₀ (State.takePopped s g ea base updated result w) := by
  refine Keep.app hk ?_ hs
  unfold State.takePopped
  repeat' (first
    | with_reducible exact Keep.refl _
    | with_reducible assumption
    | (fail_if_no_progress (extract_lets +onlyGivenNames x); first
        | (with_reducible refine Keep.cut (t := x) ?_ ?_; (on_goal 1 => (unfold x; clear x)); (on_goal 2 => (intro hx; clear_value x)))
        | clear_value x)
    | with_reducible apply State.storeEntry_keep
    | with_reducible apply State.retire_keep
    | rfl)

theorem State.peerPopped_keep {wr : Nat} {s₀ : State} (s : State) (g n r : Nat) (entry : Option (List Carried)) (denied : Bool) (hk : Keep wr s₀ s) (hs : 4330872340 &&& wr = 4330872340) :
    Keep wr s₀ (State.peerPopped s g n r entry denied) := by
  refine Keep.app hk ?_ hs
  unfold State.peerPopped
  repeat' (first
    | with_reducible exact Keep.refl _
    | (fail_if_no_progress (extract_lets +onlyGivenNames x); first
        | clear_value x)
    | with_reducible apply State.raiseSync_keep
    | with_reducible apply State.setEng_keep
    | with_reducible apply State.takePopped_keep
    | with_reducible apply State.retire_keep
    | with_reducible apply State.post_keep
    | with_reducible refine Keep.ite ?_ ?_
    | split
    | rfl)

theorem State.writeEntries_rec {s₀ : State} (s : State) (a : Nat) (n0 : List (List Carried)) (hk : Keep 35658244 s₀ s) :
    Keep 35658244 s₀ (State.writeEntries s a n0) := by
  induction n0 generalizing s a with
  | nil =>
    unfold State.writeEntries
    repeat' (first
      | with_reducible assumption
      | with_reducible apply State.writeWords_keep
      | with_reducible apply ih
      | rfl)
  | cons x l ih =>
    unfold State.writeEntries
    repeat' (first
      | with_reducible assumption
      | with_reducible apply State.writeWords_keep
      | with_reducible apply ih
      | rfl)

theorem State.writeEntries_keep {wr : Nat} {s₀ : State} (s : State) (a : Nat) (n0 : List (List Carried)) (hk : Keep wr s₀ s)
    (hs : 35658244 &&& wr = 35658244) : Keep wr s₀ (State.writeEntries s a n0) :=
  Keep.app hk (State.writeEntries_rec _ _ _ (Keep.refl _)) hs

theorem State.startEngineJob_keep {wr : Nat} {s₀ : State} (s : State) (g : Nat) (j : Job) (hk : Keep wr s₀ s) (hs : 35707398 &&& wr = 35707398) :
    Keep wr s₀ (State.startEngineJob s g j) := by
  refine Keep.app hk ?_ hs
  unfold State.startEngineJob
  repeat' (first
    | with_reducible exact Keep.refl _
    | with_reducible assumption
    | (fail_if_no_progress (extract_lets +onlyGivenNames x); first
        | (with_reducible refine Keep.cut (t := x) ?_ ?_; (on_goal 1 => (unfold x; clear x)); (on_goal 2 => (intro hx; clear_value x)))
        | clear_value x)
    | with_reducible apply State.writeWords_keep
    | with_reducible apply State.countCycles_keep
    | with_reducible apply State.writeEntries_keep
    | with_reducible apply State.setGus_keep
    | with_reducible apply State.setEng_keep
    | rfl)

theorem State.engDenied_keep {wr : Nat} {s₀ : State} (s : State) (g a n : Nat) (write : Bool) (hk : Keep wr s₀ s) (hs : 4297136148 &&& wr = 4297136148) :
    Keep wr s₀ (State.engDenied s g a n write) := by
  refine Keep.app hk ?_ hs
  unfold State.engDenied
  repeat' (first
    | with_reducible exact Keep.refl _
    | with_reducible apply State.countDenial_keep
    | with_reducible refine Keep.ite ?_ ?_
    | split
    | rfl)

theorem State.enterInbox_keep {wr : Nat} {s₀ : State} (s : State) (g ev : Nat) (hk : Keep wr s₀ s) (hs : 4297315348 &&& wr = 4297315348) :
    Keep wr s₀ (State.enterInbox s g ev) := by
  refine Keep.app hk ?_ hs
  unfold State.enterInbox
  repeat' (first
    | with_reducible exact Keep.refl _
    | (fail_if_no_progress (extract_lets +onlyGivenNames x); first
        | clear_value x)
    | with_reducible apply State.takeAsync_keep
    | with_reducible apply State.setEng_keep
    | with_reducible apply State.incf_keep
    | with_reducible refine Keep.ite ?_ ?_
    | rfl)

theorem State.popwArrived_keep {wr : Nat} {s₀ : State} (s : State) (g q : Nat) (hk : Keep wr s₀ s) (hs : 14267178614 &&& wr = 14267178614) :
    Keep wr s₀ (State.popwArrived s g q) := by
  refine Keep.app hk ?_ hs
  unfold State.popwArrived
  repeat' (first
    | with_reducible exact Keep.refl _
    | with_reducible assumption
    | (fail_if_no_progress (extract_lets +onlyGivenNames x); first
        | (with_reducible refine Keep.cut (t := x) ?_ ?_; (on_goal 1 => (unfold x; clear x)); (on_goal 2 => (intro hx; clear_value x)))
        | clear_value x)
    | with_reducible apply State.popQueue_keep
    | with_reducible apply State.storeEntry_keep
    | with_reducible apply State.retire_keep
    | with_reducible refine Keep.ite ?_ ?_
    | split
    | with_reducible refine Keep.of_pair (by assumption) ?_
    | rfl)

theorem State.holdE4_keep {wr : Nat} {s₀ : State} (s : State) (g : Nat) (x : Nat × Option Nat) (done : Nat) (hk : Keep wr s₀ s) (hs : 268451840 &&& wr = 268451840) :
    Keep wr s₀ (State.holdE4 s g x done) := by
  refine Keep.app hk ?_ hs
  unfold State.holdE4
  repeat' (first
    | with_reducible exact Keep.refl _
    | (fail_if_no_progress (extract_lets +onlyGivenNames x); first
        | clear_value x)
    | with_reducible apply State.setEng_keep
    | with_reducible apply State.stallOn_keep
    | rfl)

theorem State.loadBytes_keep {wr : Nat} {s₀ : State} (s : State) (g a n : Nat) (hk : Keep wr s₀ s) (hs : 13965007478 &&& wr = 13965007478) :
    Keep wr s₀ (State.loadBytes s g a n).2 := by
  refine Keep.app hk ?_ hs
  unfold State.loadBytes
  repeat' (first
    | with_reducible exact Keep.refl _
    | with_reducible assumption
    | (fail_if_no_progress (extract_lets +onlyGivenNames x); first
        | (with_reducible refine Keep.cut (t := x.2) ?_ ?_; (on_goal 1 => (unfold x; clear x)); (on_goal 2 => (intro hx; clear_value x))))
    | with_reducible apply State.readWordAt_keep
    | rfl)

theorem State.raiseFault_keep {wr : Nat} {s₀ : State} (s : State) (g cause a n : Nat) (write : Bool) (hk : Keep wr s₀ s) (hs : 4297317396 &&& wr = 4297317396) :
    Keep wr s₀ (State.raiseFault s g cause a n write) := by
  refine Keep.app hk ?_ hs
  unfold State.raiseFault
  repeat' (first
    | with_reducible exact Keep.refl _
    | with_reducible apply State.raiseSync_keep
    | with_reducible apply State.engDenied_keep
    | with_reducible refine Keep.ite ?_ ?_
    | rfl)

theorem State.whenOpen_keep {wr : Nat} {s₀ : State} (s : State) (g a n : Nat) (body : State) (hk : Keep wr s₀ s)
    (hb : Keep wr s₀ body) (hs : 268451840 &&& wr = 268451840) : Keep wr s₀ (s.whenOpen g a n body) := by
  unfold State.whenOpen
  split
  · exact State.holdE4_keep _ _ _ _ hk hs
  · exact hb

theorem State.mbNative_keep {wr : Nat} {s₀ : State} (s : State) (g : Nat) (body : Engine → State) (hk : Keep wr s₀ s) (hs : 4297315348 &&& wr = 4297315348)
    (hb_body : ∀ e, Keep wr s₀ (body e)) :
    Keep wr s₀ (State.mbNative s g body) := by
  unfold State.mbNative
  repeat' (first
    | with_reducible assumption
    | (intro _)
    | with_reducible apply hb_body
    | with_reducible apply State.execute_keep
    | with_reducible apply State.illegal_keep
    | with_reducible refine Keep.ite ?_ ?_)

theorem State.storeBytes_keep {wr : Nat} {s₀ : State} (s : State) (g a n v : Nat) (hk : Keep wr s₀ s) (hs : 13998561908 &&& wr = 13998561908) :
    Keep wr s₀ (State.storeBytes s g a n v).2 := by
  refine Keep.app hk ?_ hs
  unfold State.storeBytes
  repeat' (first
    | with_reducible exact Keep.refl _
    | with_reducible apply State.writeBytes_keep
    | rfl)

theorem State.releaseHeld_keep {wr : Nat} {s₀ : State} (s : State) (g : Nat) (hk : Keep wr s₀ s) (hs : 16384 &&& wr = 16384) :
    Keep wr s₀ (State.releaseHeld s g) := by
  refine Keep.app hk ?_ hs
  unfold State.releaseHeld
  repeat' (first
    | with_reducible exact Keep.refl _
    | (fail_if_no_progress (extract_lets +onlyGivenNames x); first
        | clear_value x)
    | with_reducible apply State.setEng_keep
    | with_reducible refine Keep.ite ?_ ?_
    | rfl)

theorem State.waitJob_keep {wr : Nat} {s₀ : State} (s : State) (g : Nat) (hk : Keep wr s₀ s) (hs : 16386 &&& wr = 16386) :
    Keep wr s₀ (State.waitJob s g) := by
  refine Keep.app hk ?_ hs
  unfold State.waitJob
  repeat' (first
    | with_reducible exact Keep.refl _
    | with_reducible assumption
    | (fail_if_no_progress (extract_lets +onlyGivenNames x); first
        | (with_reducible refine Keep.cut (t := x) ?_ ?_; (on_goal 1 => (unfold x; clear x)); (on_goal 2 => (intro hx; clear_value x)))
        | clear_value x)
    | with_reducible apply State.countCycles_keep
    | with_reducible apply State.setEng_keep
    | rfl)

end Sys2Proof.Machine
end

