-- ==== Sys2Proof/Laws/KeepLanes.lean ====
section
/-!
SUPPORT. The parts of the state that the operations of Machine/Lanes.lean may write.
-/

namespace Sys2Proof.Machine

open Reg Ob

theorem State.setLane_keep {wr : Nat} {s₀ : State} (s : State) (n : Nat) (x : Lane) (hk : Keep wr s₀ s) (hs : 524288 &&& wr = 524288) :
    Keep wr s₀ (State.setLane s n x) := by
  refine Keep.app hk ?_ hs
  unfold State.setLane
  repeat' (first
    | with_reducible exact Keep.refl _
    | fail_if_no_progress (with_reducible refine Keep.set_lanes (by decide) ?_))

theorem State.sendTraining_keep {wr : Nat} {s₀ : State} (s : State) (n : Nat) (last : Bool) (hk : Keep wr s₀ s) (hs : 6 &&& wr = 6) :
    Keep wr s₀ (State.sendTraining s n last) := by
  refine Keep.app hk ?_ hs
  unfold State.sendTraining
  repeat' (first
    | with_reducible exact Keep.refl _
    | (fail_if_no_progress (extract_lets +onlyGivenNames x); first
        | clear_value x)
    | with_reducible apply State.send_keep
    | with_reducible apply State.fresh_keep
    | rfl)

theorem State.setTaps_keep {wr : Nat} {s₀ : State} (s : State) (n : Nat) (l : List Int) (hk : Keep wr s₀ s) (hs : 16 &&& wr = 16) :
    Keep wr s₀ (State.setTaps s n l) := by
  refine Keep.app hk ?_ hs
  unfold State.setTaps
  repeat' (first
    | with_reducible exact Keep.refl _
    | (fail_if_no_progress (extract_lets +onlyGivenNames x); first
        | clear_value x)
    | with_reducible apply State.sf_keep
    | rfl)

theorem State.acceptControl_keep {wr : Nat} {s₀ : State} (s : State) (lane c : Nat) (hk : Keep wr s₀ s) (hs : 524310 &&& wr = 524310) :
    Keep wr s₀ (State.acceptControl s lane c) := by
  refine Keep.app hk ?_ hs
  unfold State.acceptControl
  repeat' (first
    | with_reducible exact Keep.refl _
    | (fail_if_no_progress (extract_lets +onlyGivenNames x); first
        | clear_value x)
    | with_reducible apply State.setLane_keep
    | with_reducible apply State.sendTraining_keep
    | with_reducible apply State.setTaps_keep
    | with_reducible refine Keep.ite ?_ ?_
    | rfl)

theorem State.putBlocks_keep {wr : Nat} {s₀ : State} (s : State) (l lane n : Nat) (hk : Keep wr s₀ s) (hs : 2097156 &&& wr = 2097156) :
    Keep wr s₀ (State.putBlocks s l lane n) := by
  refine Keep.app hk ?_ hs
  unfold State.putBlocks
  repeat' (first
    | with_reducible exact Keep.refl _
    | (fail_if_no_progress (extract_lets +onlyGivenNames x); first
        | clear_value x)
    | with_reducible apply State.send_keep
    | with_reducible apply State.setLink_keep
    | with_reducible refine Keep.ite ?_ ?_
    | rfl)

theorem State.sendControl_keep {wr : Nat} {s₀ : State} (s : State) (l : Nat) (o : Msg) (hk : Keep wr s₀ s) (hs : 2097156 &&& wr = 2097156) :
    Keep wr s₀ (State.sendControl s l o) := by
  refine Keep.app hk ?_ hs
  unfold State.sendControl
  repeat' (first
    | with_reducible exact Keep.refl _
    | with_reducible apply State.send_keep
    | with_reducible apply State.putBlocks_keep
    | split
    | rfl)

theorem State.answerWake_keep {wr : Nat} {s₀ : State} (s : State) (n : Nat) (hk : Keep wr s₀ s) (hs : 2097156 &&& wr = 2097156) :
    Keep wr s₀ (State.answerWake s n) := by
  refine Keep.app hk ?_ hs
  unfold State.answerWake
  repeat' (first
    | with_reducible exact Keep.refl _
    | with_reducible apply State.sendControl_keep
    | with_reducible refine Keep.ite ?_ ?_
    | split
    | rfl)

theorem State.applyDeferred_keep {wr : Nat} {s₀ : State} (s : State) (n : Nat) (hk : Keep wr s₀ s) (hs : 524304 &&& wr = 524304) :
    Keep wr s₀ (State.applyDeferred s n) := by
  refine Keep.app hk ?_ hs
  unfold State.applyDeferred
  repeat' (first
    | with_reducible exact Keep.refl _
    | with_reducible assumption
    | (fail_if_no_progress (extract_lets +onlyGivenNames x); first
        | (with_reducible refine Keep.cut (t := x) ?_ ?_; (on_goal 1 => (unfold x; clear x)); (on_goal 2 => (intro hx; clear_value x)))
        | clear_value x)
    | with_reducible apply State.setLane_keep
    | with_reducible apply State.sf_keep
    | with_reducible refine Keep.ite ?_ ?_
    | rfl)

theorem State.cpriEvent_keep {wr : Nat} {s₀ : State} (s : State) (n reason : Nat) (hk : Keep wr s₀ s) (hs : 4297134100 &&& wr = 4297134100) :
    Keep wr s₀ (State.cpriEvent s n reason) := by
  refine Keep.app hk ?_ hs
  unfold State.cpriEvent
  repeat' (first
    | with_reducible exact Keep.refl _
    | with_reducible apply State.raiseReason_keep
    | rfl)

theorem State.cpriLost_keep {wr : Nat} {s₀ : State} (s : State) (n : Nat) (hk : Keep wr s₀ s) (hs : 4297134100 &&& wr = 4297134100) :
    Keep wr s₀ (State.cpriLost s n) := by
  refine Keep.app hk ?_ hs
  unfold State.cpriLost
  repeat' (first
    | with_reducible exact Keep.refl _
    | with_reducible apply State.cpriEvent_keep
    | with_reducible apply State.sf_keep
    | with_reducible refine Keep.ite ?_ ?_
    | rfl)

theorem State.portEvent_keep {wr : Nat} {s₀ : State} (s : State) (p reason : Nat) (hk : Keep wr s₀ s) (hs : 4297134100 &&& wr = 4297134100) :
    Keep wr s₀ (State.portEvent s p reason) := by
  refine Keep.app hk ?_ hs
  unfold State.portEvent
  repeat' (first
    | with_reducible exact Keep.refl _
    | with_reducible apply State.raiseReason_keep
    | rfl)

theorem State.refreshPort_keep {wr : Nat} {s₀ : State} (s : State) (p down : Nat) (hk : Keep wr s₀ s) (hs : 4297134100 &&& wr = 4297134100) :
    Keep wr s₀ (State.refreshPort s p down) := by
  refine Keep.app hk ?_ hs
  unfold State.refreshPort
  repeat' (first
    | with_reducible exact Keep.refl _
    | with_reducible assumption
    | (fail_if_no_progress (extract_lets +onlyGivenNames x); first
        | (with_reducible refine Keep.cut (t := x) ?_ ?_; (on_goal 1 => (unfold x; clear x)); (on_goal 2 => (intro hx; clear_value x)))
        | clear_value x)
    | with_reducible apply State.sf_keep
    | with_reducible apply State.portEvent_keep
    | with_reducible refine Keep.ite ?_ ?_
    | rfl)

theorem State.linkEvent_keep {wr : Nat} {s₀ : State} (s : State) (l reason : Nat) (hk : Keep wr s₀ s) (hs : 4297134100 &&& wr = 4297134100) :
    Keep wr s₀ (State.linkEvent s l reason) := by
  refine Keep.app hk ?_ hs
  unfold State.linkEvent
  repeat' (first
    | with_reducible exact Keep.refl _
    | with_reducible apply State.raiseReason_keep
    | rfl)

theorem State.wakeKeeper_keep {wr : Nat} {s₀ : State} (s : State) (l : Nat) (hk : Keep wr s₀ s) (hs : 2097172 &&& wr = 2097172) :
    Keep wr s₀ (State.wakeKeeper s l) := by
  refine Keep.app hk ?_ hs
  unfold State.wakeKeeper
  repeat' (first
    | with_reducible exact Keep.refl _
    | with_reducible apply State.sendControl_keep
    | with_reducible apply State.sf_keep
    | with_reducible refine Keep.ite ?_ ?_
    | split
    | rfl)

theorem State.refreshLink_keep {wr : Nat} {s₀ : State} (s : State) (l : Nat) (hk : Keep wr s₀ s) (hs : 4297134100 &&& wr = 4297134100) :
    Keep wr s₀ (State.refreshLink s l) := by
  refine Keep.app hk ?_ hs
  unfold State.refreshLink
  repeat' (first
    | with_reducible exact Keep.refl _
    | with_reducible assumption
    | (fail_if_no_progress (extract_lets +onlyGivenNames x); first
        | (with_reducible refine Keep.cut (t := x) ?_ ?_; (on_goal 1 => (unfold x; clear x)); (on_goal 2 => (intro hx; clear_value x)))
        | clear_value x)
    | with_reducible apply State.sf_keep
    | with_reducible apply State.linkEvent_keep
    | with_reducible apply State.wakeKeeper_keep
    | with_reducible apply State.setLink_keep
    | with_reducible refine Keep.ite ?_ ?_
    | rfl)

theorem State.laneChanged_keep {wr : Nat} {s₀ : State} (s : State) (n : Nat) (down : Nat) (hk : Keep wr s₀ s) (hs : 4297134100 &&& wr = 4297134100) :
    Keep wr s₀ (State.laneChanged s n down) := by
  refine Keep.app hk ?_ hs
  unfold State.laneChanged
  repeat' (first
    | with_reducible exact Keep.refl _
    | with_reducible apply State.refreshPort_keep
    | with_reducible apply State.refreshLink_keep
    | split
    | rfl)

theorem State.enterLane_keep {wr : Nat} {s₀ : State} (s : State) (n st : Nat) (down : Nat) (hk : Keep wr s₀ s) (hs : 4297658388 &&& wr = 4297658388) :
    Keep wr s₀ (State.enterLane s n st down) := by
  refine Keep.app hk ?_ hs
  unfold State.enterLane
  repeat' (first
    | with_reducible exact Keep.refl _
    | with_reducible assumption
    | (fail_if_no_progress (extract_lets +onlyGivenNames x); first
        | (with_reducible refine Keep.cut (t := x) ?_ ?_; (on_goal 1 => (unfold x; clear x)); (on_goal 2 => (intro hx; clear_value x)))
        | clear_value x)
    | with_reducible apply State.setLane_keep
    | with_reducible apply State.sf_keep
    | with_reducible apply State.applyDeferred_keep
    | with_reducible apply State.laneChanged_keep
    | rfl)

theorem State.disableLane_keep {wr : Nat} {s₀ : State} (s : State) (n : Nat) (hk : Keep wr s₀ s) (hs : 4297658388 &&& wr = 4297658388) :
    Keep wr s₀ (State.disableLane s n) := by
  refine Keep.app hk ?_ hs
  unfold State.disableLane
  repeat' (first
    | with_reducible exact Keep.refl _
    | with_reducible apply State.enterLane_keep
    | with_reducible apply State.sf_keep
    | rfl)

theorem State.laneOff_keep {wr : Nat} {s₀ : State} (s : State) (n : Nat) (hk : Keep wr s₀ s) (hs : 4297658388 &&& wr = 4297658388) :
    Keep wr s₀ (State.laneOff s n) := by
  refine Keep.app hk ?_ hs
  unfold State.laneOff
  repeat' (first
    | with_reducible exact Keep.refl _
    | with_reducible assumption
    | (fail_if_no_progress (extract_lets +onlyGivenNames x); first
        | (with_reducible refine Keep.cut (t := x) ?_ ?_; (on_goal 1 => (unfold x; clear x)); (on_goal 2 => (intro hx; clear_value x))))
    | with_reducible apply State.sf_keep
    | with_reducible apply State.cpriLost_keep
    | with_reducible apply State.disableLane_keep
    | with_reducible refine Keep.ite ?_ ?_
    | rfl)

theorem State.laneEvent_keep {wr : Nat} {s₀ : State} (s : State) (n reason : Nat) (hk : Keep wr s₀ s) (hs : 4297134100 &&& wr = 4297134100) :
    Keep wr s₀ (State.laneEvent s n reason) := by
  refine Keep.app hk ?_ hs
  unfold State.laneEvent
  repeat' (first
    | with_reducible exact Keep.refl _
    | with_reducible apply State.raiseReason_keep
    | rfl)

theorem State.retireLane_keep {wr : Nat} {s₀ : State} (s : State) (n : Nat) (cause : Nat) (hk : Keep wr s₀ s) (hs : 13961334900 &&& wr = 13961334900) :
    Keep wr s₀ (State.retireLane s n cause) := by
  refine Keep.app hk ?_ hs
  unfold State.retireLane
  repeat' (first
    | with_reducible exact Keep.refl _
    | with_reducible assumption
    | (fail_if_no_progress (extract_lets +onlyGivenNames x); first
        | (with_reducible refine Keep.cut (t := x) ?_ ?_; (on_goal 1 => (unfold x; clear x)); (on_goal 2 => (intro hx; clear_value x))))
    | with_reducible apply State.sf_keep
    | with_reducible apply State.advanceEpoch_keep
    | with_reducible apply State.cpriLost_keep
    | with_reducible apply State.enterLane_keep
    | with_reducible apply State.laneEvent_keep
    | with_reducible apply State.recordRetirement_keep
    | with_reducible apply State.so_keep
    | with_reducible refine Keep.ite ?_ ?_
    | rfl)

theorem State.writePll_keep {wr : Nat} {s₀ : State} (s : State) (u k : Nat) (b : Bool) (v : Nat) (hk : Keep wr s₀ s) (hs : 4297134100 &&& wr = 4297134100) :
    Keep wr s₀ (State.writePll s u k b v) := by
  refine Keep.app hk ?_ hs
  unfold State.writePll
  repeat' (first
    | with_reducible exact Keep.refl _
    | with_reducible assumption
    | (fail_if_no_progress (extract_lets +onlyGivenNames x); first
        | (with_reducible refine Keep.cut (t := x) ?_ ?_; (on_goal 1 => (unfold x; clear x)); (on_goal 2 => (intro hx; clear_value x)))
        | clear_value x)
    | with_reducible apply State.sf_keep
    | with_reducible apply State.laneEvent_keep
    | with_reducible refine Keep.ite ?_ ?_
    | refine Keep.foldl ?_ (fun t x ht => ?_)
    | rfl)

theorem State.requestPower_keep {wr : Nat} {s₀ : State} (s : State) (n : Nat) (tx : Bool) (level : Nat) (frozen : Bool) (hk : Keep wr s₀ s) (hs : 4297658388 &&& wr = 4297658388) :
    Keep wr s₀ (State.requestPower s n tx level frozen) := by
  refine Keep.app hk ?_ hs
  unfold State.requestPower
  repeat' (first
    | with_reducible exact Keep.refl _
    | with_reducible apply State.sf_keep
    | with_reducible apply State.applyDeferred_keep
    | with_reducible apply State.enterLane_keep
    | with_reducible refine Keep.ite ?_ ?_
    | rfl)

theorem State.writeLaneCtrl_keep {wr : Nat} {s₀ : State} (s : State) (u n v : Nat) (frozen : Bool) (hk : Keep wr s₀ s) (hs : 4297658388 &&& wr = 4297658388) :
    Keep wr s₀ (State.writeLaneCtrl s u n v frozen) := by
  refine Keep.app hk ?_ hs
  unfold State.writeLaneCtrl
  repeat' (first
    | with_reducible exact Keep.refl _
    | with_reducible assumption
    | (intro _)
    | (fail_if_no_progress (extract_lets +onlyGivenNames x); first
        | (with_reducible refine Keep.cut (t := x) ?_ ?_; (on_goal 1 => (unfold x; clear x)); (on_goal 2 => (intro hx; clear_value x)))
        | (with_reducible refine Keep.cutF1 (f := x) ?_ ?_; (on_goal 1 => (unfold x; clear x)); (on_goal 2 => (intro hg; clear_value x)))
        | clear_value x)
    | with_reducible apply hg
    | with_reducible apply State.requestPower_keep
    | with_reducible apply State.disableLane_keep
    | with_reducible apply State.enterLane_keep
    | with_reducible apply State.sf_keep
    | with_reducible apply State.laneEvent_keep
    | with_reducible refine Keep.ite ?_ ?_
    | rfl)

theorem State.writeTxeq_keep {wr : Nat} {s₀ : State} (s : State) (u n v : Nat) (hk : Keep wr s₀ s) (hs : 4297134100 &&& wr = 4297134100) :
    Keep wr s₀ (State.writeTxeq s u n v) := by
  refine Keep.app hk ?_ hs
  unfold State.writeTxeq
  repeat' (first
    | with_reducible exact Keep.refl _
    | (fail_if_no_progress (extract_lets +onlyGivenNames x); first
        | clear_value x)
    | with_reducible apply State.setTaps_keep
    | with_reducible apply State.laneEvent_keep
    | with_reducible refine Keep.ite ?_ ?_
    | rfl)

theorem State.startGenerator_keep {wr : Nat} {s₀ : State} (s : State) (n : Nat) (hk : Keep wr s₀ s) (hs : 524294 &&& wr = 524294) :
    Keep wr s₀ (State.startGenerator s n) := by
  refine Keep.app hk ?_ hs
  unfold State.startGenerator
  repeat' (first
    | with_reducible exact Keep.refl _
    | with_reducible assumption
    | (fail_if_no_progress (extract_lets +onlyGivenNames x); first
        | (with_reducible refine Keep.cut (t := x) ?_ ?_; (on_goal 1 => (unfold x; clear x)); (on_goal 2 => (intro hx; clear_value x)))
        | clear_value x)
    | with_reducible apply State.setLane_keep
    | with_reducible apply State.fresh_keep
    | with_reducible apply State.send_keep
    | with_reducible refine Keep.ite ?_ ?_
    | rfl)

theorem State.writeLaneTest_keep {wr : Nat} {s₀ : State} (s : State) (u n v : Nat) (hk : Keep wr s₀ s) (hs : 524310 &&& wr = 524310) :
    Keep wr s₀ (State.writeLaneTest s u n v) := by
  refine Keep.app hk ?_ hs
  unfold State.writeLaneTest
  repeat' (first
    | with_reducible exact Keep.refl _
    | with_reducible assumption
    | (fail_if_no_progress (extract_lets +onlyGivenNames x); first
        | (with_reducible refine Keep.cut (t := x) ?_ ?_; (on_goal 1 => (unfold x; clear x)); (on_goal 2 => (intro hx; clear_value x)))
        | clear_value x)
    | with_reducible apply State.sf_keep
    | with_reducible apply State.startGenerator_keep
    | with_reducible apply State.setLane_keep
    | with_reducible apply State.send_keep
    | with_reducible refine Keep.ite ?_ ?_
    | rfl)

theorem State.inLane_keep {wr : Nat} {s₀ : State} (s : State) (n st : Nat) (f : State → State) (hk : Keep wr s₀ s) (hs : 0 &&& wr = 0)
    (hb_f : ∀ t, Keep wr s₀ t → Keep wr s₀ (f t)) :
    Keep wr s₀ (State.inLane s n st f) := by
  unfold State.inLane
  repeat' (first
    | with_reducible assumption
    | with_reducible apply hb_f
    | with_reducible refine Keep.ite ?_ ?_)

theorem State.laneFailure_keep {wr : Nat} {s₀ : State} (s : State) (n : Nat) (hk : Keep wr s₀ s) (hs : 13961334900 &&& wr = 13961334900) :
    Keep wr s₀ (State.laneFailure s n) := by
  refine Keep.app hk ?_ hs
  unfold State.laneFailure
  repeat' (first
    | with_reducible exact Keep.refl _
    | with_reducible assumption
    | (fail_if_no_progress (extract_lets +onlyGivenNames x); first
        | (with_reducible refine Keep.cut (t := x) ?_ ?_; (on_goal 1 => (unfold x; clear x)); (on_goal 2 => (intro hx; clear_value x)))
        | clear_value x)
    | with_reducible apply State.setLane_keep
    | with_reducible apply State.retireLane_keep
    | with_reducible refine Keep.ite ?_ ?_
    | rfl)

theorem State.receivedBits_keep {wr : Nat} {s₀ : State} (s : State) (n : Nat) (arriving : List Bool) (looped : Nat) (inverted : List Bool) (hk : Keep wr s₀ s) (hs : 524288 &&& wr = 524288) :
    Keep wr s₀ (State.receivedBits s n arriving looped inverted).2 := by
  refine Keep.app hk ?_ hs
  unfold State.receivedBits
  repeat' (first
    | with_reducible exact Keep.refl _
    | (fail_if_no_progress (extract_lets +onlyGivenNames x); first
        | clear_value x)
    | with_reducible apply State.setLane_keep
    | with_reducible refine Keep.ite_snd ?_ ?_
    | rfl)

theorem State.stepRequest_keep {wr : Nat} {s₀ : State} (s : State) (lane status : Nat) (hk : Keep wr s₀ s) (hs : 524294 &&& wr = 524294) :
    Keep wr s₀ (State.stepRequest s lane status) := by
  refine Keep.app hk ?_ hs
  unfold State.stepRequest
  repeat' (first
    | with_reducible exact Keep.refl _
    | with_reducible assumption
    | (fail_if_no_progress (extract_lets +onlyGivenNames x); first
        | (with_reducible refine Keep.cut (t := x) ?_ ?_; (on_goal 1 => (unfold x; clear x)); (on_goal 2 => (intro hx; clear_value x)))
        | clear_value x)
    | with_reducible apply State.sendTraining_keep
    | with_reducible apply State.setLane_keep
    | with_reducible apply State.fresh_keep
    | with_reducible refine Keep.ite ?_ ?_
    | rfl)

theorem State.trainFrame_keep {wr : Nat} {s₀ : State} (s : State) (lane : Nat) (f : BitVec 16 × BitVec 16) (hk : Keep wr s₀ s) (hs : 524310 &&& wr = 524310) :
    Keep wr s₀ (State.trainFrame s lane f) := by
  refine Keep.app hk ?_ hs
  unfold State.trainFrame
  repeat' (first
    | with_reducible exact Keep.refl _
    | with_reducible assumption
    | (fail_if_no_progress (extract_lets +onlyGivenNames x); first
        | (with_reducible refine Keep.cut (t := x) ?_ ?_; (on_goal 1 => (unfold x; clear x)); (on_goal 2 => (intro hx; clear_value x)))
        | clear_value x)
    | with_reducible apply State.setLane_keep
    | with_reducible apply State.acceptControl_keep
    | with_reducible apply State.stepRequest_keep
    | with_reducible refine Keep.ite ?_ ?_
    | rfl)

theorem execLaneEnable_keep (requester lane : Nat) (control : Half) (s : State) : KeepOut 4566093844 s (execLaneEnable requester lane control s) := by
  unfold execLaneEnable
  repeat' (first
    | with_reducible exact Keep.refl _
    | with_reducible assumption
    | (intro _)
    | with_reducible refine Keep.out ?_
    | with_reducible apply State.atIsland_keep
    | with_reducible apply State.writeLaneCtrl_keep
    | rfl)

theorem execLaneDisable_keep (requester lane : Nat) (control : Half) (s : State) : KeepOut 4566093844 s (execLaneDisable requester lane control s) := by
  unfold execLaneDisable
  repeat' (first
    | with_reducible exact Keep.refl _
    | with_reducible assumption
    | (intro _)
    | with_reducible refine Keep.out ?_
    | with_reducible apply State.atIsland_keep
    | with_reducible apply State.writeLaneCtrl_keep
    | rfl)

theorem execLaneCalDone_keep (lane : Nat) (s : State) : KeepOut 4297658388 s (execLaneCalDone lane s) := by
  unfold execLaneCalDone
  repeat' (first
    | with_reducible exact Keep.refl _
    | with_reducible assumption
    | (intro _)
    | with_reducible refine Keep.out ?_
    | (fail_if_no_progress (extract_lets +onlyGivenNames x); first
        | clear_value x)
    | with_reducible apply State.inLane_keep
    | with_reducible apply State.enterLane_keep
    | with_reducible apply State.sf_keep
    | rfl)

theorem execLaneAdaptDone_keep (lane eye : Nat) (s : State) : KeepOut 4297658390 s (execLaneAdaptDone lane eye s) := by
  unfold execLaneAdaptDone
  repeat' (first
    | with_reducible exact Keep.refl _
    | with_reducible assumption
    | (intro _)
    | with_reducible refine Keep.out ?_
    | (fail_if_no_progress (extract_lets +onlyGivenNames x); first
        | (with_reducible refine Keep.cut (t := x) ?_ ?_; (on_goal 1 => (unfold x; clear x)); (on_goal 2 => (intro hx; clear_value x)))
        | clear_value x)
    | with_reducible apply State.inLane_keep
    | with_reducible apply State.sf_keep
    | with_reducible apply State.startGenerator_keep
    | with_reducible apply State.enterLane_keep
    | with_reducible apply State.setLane_keep
    | with_reducible apply State.sendTraining_keep
    | with_reducible apply State.setTaps_keep
    | with_reducible refine Keep.ite ?_ ?_
    | rfl)

theorem execTrainingRequestAccept_keep (lane : Nat) (frames : List (BitVec 16 × BitVec 16)) (s : State) : KeepOut 524310 s (execTrainingRequestAccept lane frames s) := by
  unfold execTrainingRequestAccept
  repeat' (first
    | with_reducible exact Keep.refl _
    | with_reducible assumption
    | (intro _)
    | with_reducible refine Keep.out ?_
    | with_reducible apply State.inLane_keep
    | with_reducible apply State.trainFrame_keep
    | refine Keep.foldl ?_ (fun t x ht => ?_)
    | rfl)

theorem execLaneTrainingDone_keep (lane : Nat) (s : State) : KeepOut 4297658390 s (execLaneTrainingDone lane s) := by
  unfold execLaneTrainingDone
  repeat' (first
    | with_reducible exact Keep.refl _
    | with_reducible assumption
    | (intro _)
    | with_reducible refine Keep.out ?_
    | with_reducible apply State.inLane_keep
    | with_reducible apply State.enterLane_keep
    | with_reducible apply State.sendTraining_keep
    | with_reducible refine Keep.ite ?_ ?_
    | rfl)

theorem execLaneTrainTimeout_keep (lane : Nat) (s : State) : KeepOut 13961334900 s (execLaneTrainTimeout lane s) := by
  unfold execLaneTrainTimeout
  repeat' (first
    | with_reducible exact Keep.refl _
    | with_reducible assumption
    | (intro _)
    | with_reducible refine Keep.out ?_
    | with_reducible apply State.inLane_keep
    | with_reducible apply State.laneFailure_keep
    | with_reducible apply State.laneEvent_keep
    | with_reducible apply State.incf_keep
    | with_reducible apply State.enterLane_keep
    | with_reducible refine Keep.ite ?_ ?_
    | rfl)

theorem execLaneFailedRetry_keep (lane : Nat) (s : State) : KeepOut 4297658388 s (execLaneFailedRetry lane s) := by
  unfold execLaneFailedRetry
  repeat' (first
    | with_reducible exact Keep.refl _
    | with_reducible assumption
    | (intro _)
    | with_reducible refine Keep.out ?_
    | with_reducible apply State.inLane_keep
    | with_reducible apply State.enterLane_keep
    | with_reducible refine Keep.ite ?_ ?_
    | rfl)

theorem execLaneAligned_keep (received : LaneInput) (s : State) : KeepOut 4297658388 s (execLaneAligned received s) := by
  unfold execLaneAligned
  repeat' (first
    | with_reducible exact Keep.refl _
    | with_reducible assumption
    | (intro _)
    | with_reducible refine Keep.out ?_
    | (fail_if_no_progress (extract_lets +onlyGivenNames x); first
        | (with_reducible refine Keep.cut (t := x) ?_ ?_; (on_goal 1 => (unfold x; clear x)); (on_goal 2 => (intro hx; clear_value x)))
        | clear_value x)
    | with_reducible apply State.inLane_keep
    | with_reducible apply State.setLane_keep
    | with_reducible apply State.enterLane_keep
    | with_reducible refine Keep.ite ?_ ?_
    | rfl)

theorem execLaneAlignLost_keep (received : LaneInput) (s : State) : KeepOut 13961334900 s (execLaneAlignLost received s) := by
  unfold execLaneAlignLost
  repeat' (first
    | with_reducible exact Keep.refl _
    | with_reducible assumption
    | (intro _)
    | with_reducible refine Keep.out ?_
    | (fail_if_no_progress (extract_lets +onlyGivenNames x); first
        | (with_reducible refine Keep.cut (t := x) ?_ ?_; (on_goal 1 => (unfold x; clear x)); (on_goal 2 => (intro hx; clear_value x)))
        | clear_value x)
    | with_reducible apply State.inLane_keep
    | with_reducible apply State.setLane_keep
    | with_reducible apply State.laneFailure_keep
    | with_reducible apply State.laneEvent_keep
    | with_reducible apply State.incf_keep
    | with_reducible apply State.enterLane_keep
    | with_reducible refine Keep.ite ?_ ?_
    | rfl)

theorem execLaneLos_keep (lane : Nat) (s : State) : KeepOut 4297134100 s (execLaneLos lane s) := by
  unfold execLaneLos
  repeat' (first
    | with_reducible exact Keep.refl _
    | with_reducible refine Keep.out ?_
    | with_reducible apply State.laneEvent_keep
    | with_reducible apply State.sf_keep
    | with_reducible refine Keep.ite ?_ ?_
    | rfl)

theorem execLaneSignalReturn_keep (lane : Nat) (s : State) : KeepOut 4297658388 s (execLaneSignalReturn lane s) := by
  unfold execLaneSignalReturn
  repeat' (first
    | with_reducible exact Keep.refl _
    | with_reducible refine Keep.out ?_
    | with_reducible apply State.enterLane_keep
    | with_reducible apply State.sf_keep
    | with_reducible refine Keep.ite ?_ ?_
    | rfl)

theorem execLaneRetrain_keep (requester lane : Nat) (control : Half) (s : State) : KeepOut 4566093844 s (execLaneRetrain requester lane control s) := by
  unfold execLaneRetrain
  repeat' (first
    | with_reducible exact Keep.refl _
    | with_reducible assumption
    | (intro _)
    | with_reducible refine Keep.out ?_
    | with_reducible apply State.atIsland_keep
    | with_reducible apply State.writeLaneCtrl_keep
    | rfl)

theorem execPllEnable_keep (requester quad : Nat) (pllB : Bool) (value : Half) (s : State) : KeepOut 4565569556 s (execPllEnable requester quad pllB value s) := by
  unfold execPllEnable
  repeat' (first
    | with_reducible exact Keep.refl _
    | with_reducible assumption
    | (intro _)
    | with_reducible refine Keep.out ?_
    | with_reducible apply State.atIsland_keep
    | with_reducible apply State.writePll_keep
    | rfl)

theorem execPllLockLost_keep (quad : Nat) (pllB : Bool) (s : State) : KeepOut 4297658388 s (execPllLockLost quad pllB s) := by
  unfold execPllLockLost
  repeat' (first
    | with_reducible exact Keep.refl _
    | with_reducible assumption
    | with_reducible refine Keep.out ?_
    | with_reducible apply State.enterLane_keep
    | with_reducible apply State.laneEvent_keep
    | with_reducible apply State.sf_keep
    | with_reducible refine Keep.ite ?_ ?_
    | refine Keep.foldl ?_ (fun t x ht => ?_)
    | rfl)

theorem execLoopbackSlip_keep (drift : LoopDrift) (s : State) : KeepOut 4297658388 s (execLoopbackSlip drift s) := by
  unfold execLoopbackSlip
  repeat' (first
    | with_reducible exact Keep.refl _
    | with_reducible assumption
    | (intro _)
    | with_reducible refine Keep.out ?_
    | (fail_if_no_progress (extract_lets +onlyGivenNames x); first
        | (with_reducible refine Keep.cut (t := x) ?_ ?_; (on_goal 1 => (unfold x; clear x)); (on_goal 2 => (intro hx; clear_value x)))
        | clear_value x)
    | with_reducible apply State.inLane_keep
    | with_reducible apply State.setLane_keep
    | with_reducible apply State.laneEvent_keep
    | with_reducible refine Keep.ite ?_ ?_
    | rfl)

theorem execCheckerLock_keep (lane : Nat) (arriving : List Bool) (looped : Nat) (inverted : List Bool) (s : State) : KeepOut 524304 s (execCheckerLock lane arriving looped inverted s) := by
  unfold execCheckerLock
  repeat' (first
    | with_reducible exact Keep.refl _
    | with_reducible refine Keep.out ?_
    | (fail_if_no_progress (extract_lets +onlyGivenNames x); first
        | clear_value x)
    | with_reducible apply State.receivedBits_keep
    | with_reducible apply State.incf_keep
    | with_reducible apply State.sf_keep
    | with_reducible apply State.setLane_keep
    | with_reducible refine Keep.ite ?_ ?_
    | rfl)

theorem execLaneInject_keep (requester lane : Nat) (value : Half) (s : State) : KeepOut 268959766 s (execLaneInject requester lane value s) := by
  unfold execLaneInject
  repeat' (first
    | with_reducible exact Keep.refl _
    | with_reducible assumption
    | (intro _)
    | with_reducible refine Keep.out ?_
    | with_reducible apply State.atIsland_keep
    | with_reducible apply State.writeLaneTest_keep
    | rfl)

theorem execLanePowerRequest_keep (requester lane : Nat) (control : Half) (frozen : Bool) (s : State) : KeepOut 4566093844 s (execLanePowerRequest requester lane control frozen s) := by
  unfold execLanePowerRequest
  repeat' (first
    | with_reducible exact Keep.refl _
    | with_reducible assumption
    | (intro _)
    | with_reducible refine Keep.out ?_
    | with_reducible apply State.atIsland_keep
    | with_reducible apply State.writeLaneCtrl_keep
    | rfl)

theorem execLanePowerWakeDone_keep (lane : Nat) (transmit : Bool) (s : State) : KeepOut 2097172 s (execLanePowerWakeDone lane transmit s) := by
  unfold execLanePowerWakeDone
  repeat' (first
    | with_reducible exact Keep.refl _
    | with_reducible assumption
    | with_reducible refine Keep.out ?_
    | (fail_if_no_progress (extract_lets +onlyGivenNames x); first
        | (with_reducible refine Keep.cut (t := x) ?_ ?_; (on_goal 1 => (unfold x; clear x)); (on_goal 2 => (intro hx; clear_value x))))
    | with_reducible apply State.sf_keep
    | with_reducible apply State.answerWake_keep
    | with_reducible refine Keep.ite ?_ ?_
    | rfl)

theorem execLaneRetire_keep (lane : Nat) (s : State) : KeepOut 13961334900 s (execLaneRetire lane s) := by
  unfold execLaneRetire
  repeat' (first
    | with_reducible exact Keep.refl _
    | with_reducible refine Keep.out ?_
    | with_reducible apply State.retireLane_keep
    | rfl)

theorem execLanesRetireCommand_keep (value : Nat) (s : State) : KeepOut 13961334900 s (execLanesRetireCommand value s) := by
  unfold execLanesRetireCommand
  repeat' (first
    | with_reducible exact Keep.refl _
    | with_reducible refine Keep.out ?_
    | with_reducible apply State.retireLane_keep
    | with_reducible refine Keep.ite ?_ ?_
    | rfl)

end Sys2Proof.Machine
end

