-- ==== Sys2Proof/Laws/KeepSeam.lean ====
section
/-!
SUPPORT. The parts of the state that the operations of Machine/Seam.lean may write.
-/

namespace Sys2Proof.Machine

open Reg Ob

theorem State.releaseParked_keep {wr : Nat} {s₀ : State} (s : State) (hk : Keep wr s₀ s) (hs : 2097152 &&& wr = 2097152) :
    Keep wr s₀ (State.releaseParked s) := by
  refine Keep.app hk ?_ hs
  unfold State.releaseParked
  repeat' (first
    | with_reducible exact Keep.refl _
    | with_reducible assumption
    | (fail_if_no_progress (extract_lets +onlyGivenNames x); first
        | (with_reducible refine Keep.cut (t := x) ?_ ?_; (on_goal 1 => (unfold x; clear x)); (on_goal 2 => (intro hx; clear_value x)))
        | clear_value x)
    | with_reducible apply State.setSeam_keep
    | with_reducible apply State.postUnit_keep
    | refine Keep.foldl ?_ (fun t x ht => ?_)
    | rfl)

theorem State.acked_keep {wr : Nat} {s₀ : State} (s : State) (l seq : Nat) (hk : Keep wr s₀ s) (hs : 2097152 &&& wr = 2097152) :
    Keep wr s₀ (State.acked s l seq) := by
  refine Keep.app hk ?_ hs
  unfold State.acked
  repeat' (first
    | with_reducible exact Keep.refl _
    | (fail_if_no_progress (extract_lets +onlyGivenNames x); first
        | clear_value x)
    | with_reducible apply State.releaseParked_keep
    | with_reducible apply State.setLink_keep
    | with_reducible refine Keep.ite ?_ ?_
    | rfl)

theorem State.writeLinkCtrl_keep {wr : Nat} {s₀ : State} (s : State) (u l v : Nat) (hk : Keep wr s₀ s) (hs : 4297134100 &&& wr = 4297134100) :
    Keep wr s₀ (State.writeLinkCtrl s u l v) := by
  refine Keep.app hk ?_ hs
  unfold State.writeLinkCtrl
  repeat' (first
    | with_reducible exact Keep.refl _
    | with_reducible assumption
    | (fail_if_no_progress (extract_lets +onlyGivenNames x); first
        | (with_reducible refine Keep.cut (t := x) ?_ ?_; (on_goal 1 => (unfold x; clear x)); (on_goal 2 => (intro hx; clear_value x))))
    | with_reducible apply State.sf_keep
    | with_reducible apply State.refreshLink_keep
    | with_reducible apply State.linkEvent_keep
    | with_reducible refine Keep.ite ?_ ?_
    | rfl)

theorem State.emit_keep {wr : Nat} {s₀ : State} (s : State) (l lane seq : Nat) (u : SeamUnit) (hk : Keep wr s₀ s) (hs : 2097156 &&& wr = 2097156) :
    Keep wr s₀ (State.emit s l lane seq u) := by
  refine Keep.app hk ?_ hs
  unfold State.emit
  repeat' (first
    | with_reducible exact Keep.refl _
    | with_reducible assumption
    | (fail_if_no_progress (extract_lets +onlyGivenNames x); first
        | (with_reducible refine Keep.cut (t := x) ?_ ?_; (on_goal 1 => (unfold x; clear x)); (on_goal 2 => (intro hx; clear_value x)))
        | clear_value x)
    | with_reducible apply State.setLink_keep
    | with_reducible apply State.send_keep
    | with_reducible apply State.putBlocks_keep
    | rfl)

theorem State.failLink_keep {wr : Nat} {s₀ : State} (s : State) (l : Nat) (hk : Keep wr s₀ s) (hs : 4297658388 &&& wr = 4297658388) :
    Keep wr s₀ (State.failLink s l) := by
  refine Keep.app hk ?_ hs
  unfold State.failLink
  repeat' (first
    | with_reducible exact Keep.refl _
    | with_reducible assumption
    | (fail_if_no_progress (extract_lets +onlyGivenNames x); first
        | (with_reducible refine Keep.cut (t := x) ?_ ?_; (on_goal 1 => (unfold x; clear x)); (on_goal 2 => (intro hx; clear_value x)))
        | clear_value x)
    | with_reducible apply State.linkEvent_keep
    | with_reducible apply State.sf_keep
    | with_reducible apply State.setLink_keep
    | with_reducible apply State.enterLane_keep
    | refine Keep.foldl ?_ (fun t x ht => ?_)
    | rfl)

theorem State.resend_keep {wr : Nat} {s₀ : State} (s : State) (l seq : Nat) (hk : Keep wr s₀ s) (hs : 4297658388 &&& wr = 4297658388) :
    Keep wr s₀ (State.resend s l seq) := by
  refine Keep.app hk ?_ hs
  unfold State.resend
  repeat' (first
    | with_reducible exact Keep.refl _
    | with_reducible assumption
    | (fail_if_no_progress (extract_lets +onlyGivenNames x); first
        | (with_reducible refine Keep.cut (t := x) ?_ ?_; (on_goal 1 => (unfold x; clear x)); (on_goal 2 => (intro hx; clear_value x)))
        | clear_value x)
    | with_reducible apply State.setLink_keep
    | with_reducible apply State.incf_keep
    | with_reducible apply State.emit_keep
    | with_reducible apply State.failLink_keep
    | with_reducible refine Keep.ite ?_ ?_
    | split
    | refine Keep.foldl ?_ (fun t x ht => ?_)
    | rfl)

theorem State.wakeLanes_keep {wr : Nat} {s₀ : State} (s : State) (l : Nat) (hk : Keep wr s₀ s) (hs : 4297658388 &&& wr = 4297658388) :
    Keep wr s₀ (State.wakeLanes s l) := by
  refine Keep.app hk ?_ hs
  unfold State.wakeLanes
  repeat' (first
    | with_reducible exact Keep.refl _
    | with_reducible assumption
    | with_reducible apply State.requestPower_keep
    | with_reducible apply State.sendControl_keep
    | with_reducible refine Keep.ite ?_ ?_
    | refine Keep.foldl ?_ (fun t x ht => ?_)
    | rfl)

theorem execSeamLinkEnable_keep (requester link : Nat) (control : Half) (s : State) : KeepOut 4565569556 s (execSeamLinkEnable requester link control s) := by
  unfold execSeamLinkEnable
  repeat' (first
    | with_reducible exact Keep.refl _
    | with_reducible assumption
    | (intro _)
    | with_reducible refine Keep.out ?_
    | with_reducible apply State.atIsland_keep
    | with_reducible apply State.writeLinkCtrl_keep
    | rfl)

theorem execSeamCodewordReceive_keep (place : LinkLane) (errors uncorrectable : Bool) (blocks : CodewordBlocks) (s : State) : KeepOut 2097168 s (execSeamCodewordReceive place errors uncorrectable blocks s) := by
  unfold execSeamCodewordReceive
  repeat' (first
    | with_reducible exact Keep.refl _
    | with_reducible assumption
    | with_reducible refine Keep.out ?_
    | (fail_if_no_progress (extract_lets +onlyGivenNames x); first
        | (with_reducible refine Keep.cut (t := x) ?_ ?_; (on_goal 1 => (unfold x; clear x)); (on_goal 2 => (intro hx; clear_value x)))
        | clear_value x)
    | with_reducible apply State.setLink_keep
    | with_reducible apply State.incf_keep
    | with_reducible refine Keep.ite ?_ ?_
    | rfl)

theorem execSeamIdentReceive_keep (link self boltId _peerLink : Nat) (_leader : Bool) (s : State) : KeepOut 4297134100 s (execSeamIdentReceive link self boltId _peerLink _leader s) := by
  unfold execSeamIdentReceive
  repeat' (first
    | with_reducible exact Keep.refl _
    | with_reducible assumption
    | with_reducible refine Keep.out ?_
    | (fail_if_no_progress (extract_lets +onlyGivenNames x); first
        | (with_reducible refine Keep.cut (t := x) ?_ ?_; (on_goal 1 => (unfold x; clear x)); (on_goal 2 => (intro hx; clear_value x))))
    | with_reducible apply State.sf_keep
    | with_reducible apply State.linkEvent_keep
    | with_reducible refine Keep.ite ?_ ?_
    | split
    | rfl)

theorem execSeamUnitSend_keep (link : Nat) (s : State) : KeepOut 4297658388 s (execSeamUnitSend link s) := by
  unfold execSeamUnitSend
  repeat' (first
    | with_reducible exact Keep.refl _
    | with_reducible assumption
    | with_reducible refine Keep.out ?_
    | (fail_if_no_progress (extract_lets +onlyGivenNames x); first
        | (with_reducible refine Keep.cut (t := x) ?_ ?_; (on_goal 1 => (unfold x; clear x)); (on_goal 2 => (intro hx; clear_value x)))
        | clear_value x)
    | with_reducible apply State.wakeLanes_keep
    | with_reducible apply State.setLink_keep
    | with_reducible apply State.emit_keep
    | with_reducible refine Keep.ite ?_ ?_
    | split
    | rfl)

theorem execSeamAckSend_keep (link : Nat) (s : State) : KeepOut 2097156 s (execSeamAckSend link s) := by
  unfold execSeamAckSend
  repeat' (first
    | with_reducible exact Keep.refl _
    | with_reducible refine Keep.out ?_
    | with_reducible apply State.sendControl_keep
    | with_reducible apply State.setLink_keep
    | with_reducible refine Keep.ite ?_ ?_
    | rfl)

theorem execSeamAckReceive_keep (link seq : Nat) (s : State) : KeepOut 2097152 s (execSeamAckReceive link seq s) := by
  unfold execSeamAckReceive
  repeat' (first
    | with_reducible exact Keep.refl _
    | with_reducible refine Keep.out ?_
    | with_reducible apply State.acked_keep
    | with_reducible refine Keep.ite ?_ ?_
    | rfl)

theorem execSeamNakReceive_keep (link seq : Nat) (s : State) : KeepOut 4297658388 s (execSeamNakReceive link seq s) := by
  unfold execSeamNakReceive
  repeat' (first
    | with_reducible exact Keep.refl _
    | with_reducible refine Keep.out ?_
    | with_reducible apply State.resend_keep
    | with_reducible refine Keep.ite ?_ ?_
    | rfl)

theorem execSeamNakResendTimeout_keep (link : Nat) (s : State) : KeepOut 2097156 s (execSeamNakResendTimeout link s) := by
  unfold execSeamNakResendTimeout
  repeat' (first
    | with_reducible exact Keep.refl _
    | with_reducible refine Keep.out ?_
    | with_reducible apply State.sendControl_keep
    | with_reducible apply State.setLink_keep
    | with_reducible refine Keep.ite ?_ ?_
    | split
    | rfl)

theorem execSeamReplayTimeout_keep (link : Nat) (s : State) : KeepOut 4297658388 s (execSeamReplayTimeout link s) := by
  unfold execSeamReplayTimeout
  repeat' (first
    | with_reducible exact Keep.refl _
    | with_reducible refine Keep.out ?_
    | with_reducible apply State.resend_keep
    | with_reducible refine Keep.ite ?_ ?_
    | split
    | rfl)

theorem execSeamPowerReceive_keep (link op index : Nat) (s : State) : KeepOut 4297658388 s (execSeamPowerReceive link op index s) := by
  unfold execSeamPowerReceive
  repeat' (first
    | with_reducible exact Keep.refl _
    | with_reducible assumption
    | with_reducible refine Keep.out ?_
    | (fail_if_no_progress (extract_lets +onlyGivenNames x); first
        | (with_reducible refine Keep.cut (t := x) ?_ ?_; (on_goal 1 => (unfold x; clear x)); (on_goal 2 => (intro hx; clear_value x)))
        | clear_value x)
    | with_reducible apply State.requestPower_keep
    | with_reducible apply State.answerWake_keep
    | with_reducible apply State.setLink_keep
    | with_reducible refine Keep.ite ?_ ?_
    | split
    | rfl)

theorem execSeamLaneQuiet_keep (lane : Nat) (s : State) : KeepOut 4297658388 s (execSeamLaneQuiet lane s) := by
  unfold execSeamLaneQuiet
  repeat' (first
    | with_reducible exact Keep.refl _
    | with_reducible refine Keep.out ?_
    | (fail_if_no_progress (extract_lets +onlyGivenNames x); first
        | clear_value x)
    | with_reducible apply State.requestPower_keep
    | with_reducible apply State.sendControl_keep
    | with_reducible apply State.setLink_keep
    | with_reducible refine Keep.ite ?_ ?_
    | split
    | rfl)

theorem execSeamTimeReceive_keep (link tick delay : Nat) (s : State) : KeepOut 13960810548 s (execSeamTimeReceive link tick delay s) := by
  unfold execSeamTimeReceive
  repeat' (first
    | with_reducible exact Keep.refl _
    | with_reducible assumption
    | with_reducible refine Keep.out ?_
    | (fail_if_no_progress (extract_lets +onlyGivenNames x); first
        | (with_reducible refine Keep.cut (t := x) ?_ ?_; (on_goal 1 => (unfold x; clear x)); (on_goal 2 => (intro hx; clear_value x)))
        | clear_value x)
    | with_reducible apply State.setSeam_keep
    | with_reducible apply State.so_keep
    | with_reducible apply State.raise_keep
    | with_reducible refine Keep.ite ?_ ?_
    | rfl)

theorem execSeamTimeBlockSend_keep (link : Nat) (s : State) : KeepOut 2097156 s (execSeamTimeBlockSend link s) := by
  unfold execSeamTimeBlockSend
  repeat' (first
    | with_reducible exact Keep.refl _
    | with_reducible refine Keep.out ?_
    | with_reducible apply State.sendControl_keep
    | with_reducible apply State.setLink_keep
    | with_reducible refine Keep.ite ?_ ?_
    | rfl)

theorem execSeamIdentBlockSend_keep (link : Nat) (s : State) : KeepOut 2097156 s (execSeamIdentBlockSend link s) := by
  unfold execSeamIdentBlockSend
  repeat' (first
    | with_reducible exact Keep.refl _
    | with_reducible refine Keep.out ?_
    | with_reducible apply State.sendControl_keep
    | with_reducible apply State.setLink_keep
    | with_reducible refine Keep.ite ?_ ?_
    | rfl)

end Sys2Proof.Machine
end

