-- ==== Sys2Proof/Laws/KeepShuttleCommands.lean ====
section
/-!
SUPPORT. The parts of the state that the operations of Machine/ShuttleCommands.lean may write.
-/

namespace Sys2Proof.Machine

open Reg Ob

theorem State.abandonJob_keep {wr : Nat} {s₀ : State} (s : State) (j : Job) (hk : Keep wr s₀ s) (hs : 4330869782 &&& wr = 4330869782) :
    Keep wr s₀ (State.abandonJob s j) := by
  refine Keep.app hk ?_ hs
  unfold State.abandonJob
  repeat' (first
    | with_reducible exact Keep.refl _
    | with_reducible assumption
    | (fail_if_no_progress (extract_lets +onlyGivenNames x); first
        | (with_reducible refine Keep.cut (t := x) ?_ ?_; (on_goal 1 => (unfold x; clear x)); (on_goal 2 => (intro hx; clear_value x)))
        | clear_value x)
    | with_reducible apply State.modJob_keep
    | with_reducible apply State.jobLate_keep
    | with_reducible apply State.reportJob_keep
    | with_reducible apply State.send_keep
    | with_reducible apply State.setPatch_keep
    | with_reducible refine Keep.ite ?_ ?_
    | split
    | rfl)

theorem State.dispatch_keep {wr : Nat} {s₀ : State} (s : State) (j : Job) (u : Nat) (hk : Keep wr s₀ s) (hs : 14267178614 &&& wr = 14267178614) :
    Keep wr s₀ (State.dispatch s j u) := by
  refine Keep.app hk ?_ hs
  unfold State.dispatch
  repeat' (first
    | with_reducible exact Keep.refl _
    | with_reducible assumption
    | (fail_if_no_progress (extract_lets +onlyGivenNames x); first
        | (with_reducible refine Keep.cut (t := x) ?_ ?_; (on_goal 1 => (unfold x; clear x)); (on_goal 2 => (intro hx; clear_value x)))
        | clear_value x)
    | with_reducible apply State.takeInputs_keep
    | with_reducible apply State.modJob_keep
    | with_reducible apply State.settle_keep
    | with_reducible apply State.endJob_keep
    | with_reducible apply State.startEngineJob_keep
    | split
    | rfl)

theorem State.takeArrival_keep {wr : Nat} {s₀ : State} {α : Type} (s : State) (f : SeamBody → Option α) (hk : Keep wr s₀ s) (hs : 2097152 &&& wr = 2097152) :
    Keep wr s₀ (State.takeArrival s f).2 := by
  refine Keep.app hk ?_ hs
  unfold State.takeArrival
  repeat' (first
    | with_reducible exact Keep.refl _
    | (fail_if_no_progress (extract_lets +onlyGivenNames x); first
        | clear_value x)
    | with_reducible apply State.setSeam_keep
    | split
    | rfl)

theorem execDescriptorStage_keep (s : State) : KeepOut 14233575030 s (execDescriptorStage s) := by
  unfold execDescriptorStage
  repeat' (first
    | with_reducible exact Keep.refl _
    | with_reducible refine Keep.out ?_
    | with_reducible apply State.stage_keep
    | with_reducible apply State.markStep_keep
    | with_reducible refine Keep.ite ?_ ?_
    | split
    | rfl)

theorem execShuttleTriggerFire_keep (s : State) : KeepOut 14233583222 s (execShuttleTriggerFire s) := by
  unfold execShuttleTriggerFire
  repeat' (first
    | with_reducible exact Keep.refl _
    | with_reducible assumption
    | with_reducible refine Keep.out ?_
    | (fail_if_no_progress (extract_lets +onlyGivenNames x); first
        | (with_reducible refine Keep.cut (t := x) ?_ ?_; (on_goal 1 => (unfold x; clear x)); (on_goal 2 => (intro hx; clear_value x)))
        | clear_value x)
    | with_reducible apply State.fireTrigger_keep
    | with_reducible apply State.markStep_keep
    | with_reducible refine Keep.ite ?_ ?_
    | split
    | rfl
    | fail_if_no_progress (with_reducible refine Keep.set_tb (by decide) ?_))

theorem execShTriggerWrite_keep (requester p : Nat) (value : Half) (s : State) : KeepOut 268443648 s (execShTriggerWrite requester p value s) := by
  unfold execShTriggerWrite
  repeat' (first
    | with_reducible exact Keep.refl _
    | with_reducible assumption
    | (intro _)
    | with_reducible refine Keep.out ?_
    | with_reducible apply State.atIsland_keep
    | with_reducible apply State.writeTrigger_keep
    | rfl)

theorem execShCancel_keep (requester p : Nat) (value : Word) (s : State) : KeepOut 268566528 s (execShCancel requester p value s) := by
  unfold execShCancel
  repeat' (first
    | with_reducible exact Keep.refl _
    | with_reducible assumption
    | (intro _)
    | with_reducible refine Keep.out ?_
    | with_reducible apply State.atIsland_keep
    | with_reducible apply State.writeCancel_keep
    | rfl)

theorem execJobCancel_keep (s : State) : KeepOut 14233575030 s (execJobCancel s) := by
  unfold execJobCancel
  repeat' (first
    | with_reducible exact Keep.refl _
    | with_reducible refine Keep.out ?_
    | (fail_if_no_progress (extract_lets +onlyGivenNames x); first
        | clear_value x)
    | with_reducible apply State.cancelJobs_keep
    | with_reducible apply State.setSh_keep
    | with_reducible apply State.markStep_keep
    | with_reducible refine Keep.ite ?_ ?_
    | split
    | rfl)

theorem execJobDispatch_keep (s : State) : KeepOut 14267178614 s (execJobDispatch s) := by
  unfold execJobDispatch
  repeat' (first
    | with_reducible exact Keep.refl _
    | with_reducible assumption
    | with_reducible refine Keep.out ?_
    | (fail_if_no_progress (extract_lets +onlyGivenNames x); first
        | (with_reducible refine Keep.cut (t := x) ?_ ?_; (on_goal 1 => (unfold x; clear x)); (on_goal 2 => (intro hx; clear_value x)))
        | clear_value x)
    | with_reducible apply State.stallOn_keep
    | with_reducible apply State.markStep_keep
    | with_reducible apply State.dispatch_keep
    | with_reducible apply State.setSh_keep
    | with_reducible refine Keep.ite ?_ ?_
    | split
    | rfl)

theorem execJobLateCheck_keep (job : Nat) (s : State) : KeepOut 14267178614 s (execJobLateCheck job s) := by
  unfold execJobLateCheck
  repeat' (first
    | with_reducible exact Keep.refl _
    | with_reducible assumption
    | with_reducible refine Keep.out ?_
    | (fail_if_no_progress (extract_lets +onlyGivenNames x); first
        | (with_reducible refine Keep.cut (t := x) ?_ ?_; (on_goal 1 => (unfold x; clear x)); (on_goal 2 => (intro hx; clear_value x))))
    | with_reducible apply State.markStep_keep
    | with_reducible apply State.modJob_keep
    | with_reducible apply State.abandonJob_keep
    | with_reducible apply State.settle_keep
    | with_reducible apply State.endJob_keep
    | with_reducible refine Keep.ite ?_ ?_
    | split
    | rfl)

theorem execJobCompletionReport_keep (s : State) : KeepOut 14233575030 s (execJobCompletionReport s) := by
  unfold execJobCompletionReport
  repeat' (first
    | with_reducible exact Keep.refl _
    | with_reducible assumption
    | with_reducible refine Keep.out ?_
    | (fail_if_no_progress (extract_lets +onlyGivenNames x); first
        | (with_reducible refine Keep.cut (t := x) ?_ ?_; (on_goal 1 => (unfold x; clear x)); (on_goal 2 => (intro hx; clear_value x)))
        | clear_value x)
    | with_reducible apply State.markStep_keep
    | with_reducible apply State.settle_keep
    | with_reducible apply State.processReport_keep
    | with_reducible apply State.setSh_keep
    | with_reducible refine Keep.ite ?_ ?_
    | split
    | rfl)

theorem execCompletionRecordPush_keep (s : State) : KeepOut 132096 s (execCompletionRecordPush s) := by
  unfold execCompletionRecordPush
  repeat' (first
    | with_reducible exact Keep.refl _
    | with_reducible refine Keep.out ?_
    | with_reducible apply State.pushRecord_keep
    | split
    | rfl)

theorem execSqEnable_keep (requester index : Nat) (value : Word) (s : State) : KeepOut 14233575030 s (execSqEnable requester index value s) := by
  unfold execSqEnable
  repeat' (first
    | with_reducible exact Keep.refl _
    | with_reducible assumption
    | (intro _)
    | with_reducible refine Keep.out ?_
    | with_reducible apply State.atIsland_keep
    | with_reducible apply State.writeSqCfg_keep
    | rfl)

theorem execSqDisable_keep (requester index : Nat) (value : Word) (s : State) : KeepOut 14233575030 s (execSqDisable requester index value s) := by
  unfold execSqDisable
  repeat' (first
    | with_reducible exact Keep.refl _
    | with_reducible assumption
    | (intro _)
    | with_reducible refine Keep.out ?_
    | with_reducible apply State.atIsland_keep
    | with_reducible apply State.writeSqCfg_keep
    | rfl)

theorem execForecastSend_keep (island : Nat) (s : State) : KeepOut 131072 s (execForecastSend island s) := by
  unfold execForecastSend
  repeat' (first
    | with_reducible exact Keep.refl _
    | with_reducible refine Keep.out ?_
    | (fail_if_no_progress (extract_lets +onlyGivenNames x); first
        | clear_value x)
    | with_reducible apply State.setSh_keep
    | with_reducible refine Keep.ite ?_ ?_
    | rfl)

theorem execOfferSend_keep (s : State) : KeepOut 13965138550 s (execOfferSend s) := by
  unfold execOfferSend
  repeat' (first
    | with_reducible exact Keep.refl _
    | with_reducible assumption
    | with_reducible refine Keep.out ?_
    | (fail_if_no_progress (extract_lets +onlyGivenNames x); first
        | (with_reducible refine Keep.cut (t := x) ?_ ?_; (on_goal 1 => (unfold x; clear x)); (on_goal 2 => (intro hx; clear_value x)))
        | clear_value x)
    | with_reducible apply State.modJob_keep
    | with_reducible apply State.post_keep
    | with_reducible refine Keep.ite ?_ ?_
    | split
    | refine Keep.foldl ?_ (fun t x ht => ?_)
    | rfl)

theorem execOfferReceive_keep (s : State) : KeepOut 2228224 s (execOfferReceive s) := by
  unfold execOfferReceive
  repeat' (first
    | with_reducible exact Keep.refl _
    | with_reducible refine Keep.out ?_
    | (fail_if_no_progress (extract_lets +onlyGivenNames x); first
        | clear_value x)
    | with_reducible apply State.takeArrival_keep
    | with_reducible apply State.post_keep
    | with_reducible apply State.setSh_keep
    | with_reducible refine Keep.ite ?_ ?_
    | split
    | with_reducible refine Keep.of_pair (by assumption) ?_
    | rfl)

theorem execOfferAccept_keep (s : State) : KeepOut 14233575030 s (execOfferAccept s) := by
  unfold execOfferAccept
  repeat' (first
    | with_reducible exact Keep.refl _
    | with_reducible assumption
    | with_reducible refine Keep.out ?_
    | (fail_if_no_progress (extract_lets +onlyGivenNames x); first
        | (with_reducible refine Keep.cut (t := x) ?_ ?_; (on_goal 1 => (unfold x; clear x)); (on_goal 2 => (intro hx; clear_value x)))
        | clear_value x)
    | with_reducible apply State.takeArrival_keep
    | with_reducible apply State.takeInputs_keep
    | with_reducible apply State.incf_keep
    | with_reducible apply State.modJob_keep
    | with_reducible apply State.settle_keep
    | with_reducible apply State.post_keep
    | with_reducible refine Keep.ite ?_ ?_
    | split
    | with_reducible refine Keep.of_pair (by assumption) ?_
    | rfl)

theorem execOfferTimeout_keep (s : State) : KeepOut 131072 s (execOfferTimeout s) := by
  unfold execOfferTimeout
  repeat' (first
    | with_reducible exact Keep.refl _
    | with_reducible refine Keep.out ?_
    | (fail_if_no_progress (extract_lets +onlyGivenNames x); first
        | clear_value x)
    | with_reducible apply State.setSh_keep
    | rfl)

theorem execOfferAdvertise_keep (s : State) : KeepOut 2097152 s (execOfferAdvertise s) := by
  unfold execOfferAdvertise
  repeat' (first
    | with_reducible exact Keep.refl _
    | with_reducible assumption
    | with_reducible refine Keep.out ?_
    | (fail_if_no_progress (extract_lets +onlyGivenNames x); first
        | clear_value x)
    | with_reducible apply State.post_keep
    | with_reducible apply State.setSeam_keep
    | with_reducible refine Keep.ite ?_ ?_
    | refine Keep.foldl ?_ (fun t x ht => ?_)
    | rfl)

end Sys2Proof.Machine
end

