-- ==== Sys2Proof/Laws/KeepBolt.lean ====
section
/-!
SUPPORT. The parts of the state that the operations of Machine/Bolt.lean may write.
-/

namespace Sys2Proof.Machine

open Reg Ob

theorem State.endOffers_keep {wr : Nat} {s₀ : State} (s : State) (n : Nat) (hk : Keep wr s₀ s) (hs : 14233575030 &&& wr = 14233575030) :
    Keep wr s₀ (State.endOffers s n) := by
  refine Keep.app hk ?_ hs
  unfold State.endOffers
  repeat' (first
    | with_reducible exact Keep.refl _
    | with_reducible assumption
    | (fail_if_no_progress (extract_lets +onlyGivenNames x); first
        | (with_reducible refine Keep.cut (t := x) ?_ ?_; (on_goal 1 => (unfold x; clear x)); (on_goal 2 => (intro hx; clear_value x)))
        | clear_value x)
    | with_reducible apply State.shEvent_keep
    | with_reducible apply State.endJob_keep
    | with_reducible apply State.settle_keep
    | with_reducible apply State.setSh_keep
    | refine Keep.foldl ?_ (fun t x ht => ?_)
    | rfl)

theorem State.revokePeer_keep {wr : Nat} {s₀ : State} (s : State) (n q : Nat) (hk : Keep wr s₀ s) (hs : 1040 &&& wr = 1040) :
    Keep wr s₀ (State.revokePeer s n q) := by
  refine Keep.app hk ?_ hs
  unfold State.revokePeer
  repeat' (first
    | with_reducible exact Keep.refl _
    | with_reducible assumption
    | (fail_if_no_progress (extract_lets +onlyGivenNames x); first
        | (with_reducible refine Keep.cut (t := x) ?_ ?_; (on_goal 1 => (unfold x; clear x)); (on_goal 2 => (intro hx; clear_value x)))
        | clear_value x)
    | with_reducible apply State.sf_keep
    | with_reducible apply State.serve_keep
    | with_reducible apply State.returnCredits_keep
    | rfl
    | fail_if_no_progress (with_reducible refine Keep.set_weft (by decide) ?_))

theorem State.purgeParked_keep {wr : Nat} {s₀ : State} (s : State) (n : Nat) (hk : Keep wr s₀ s) (hs : 2097168 &&& wr = 2097168) :
    Keep wr s₀ (State.purgeParked s n) := by
  refine Keep.app hk ?_ hs
  unfold State.purgeParked
  repeat' (first
    | with_reducible exact Keep.refl _
    | (fail_if_no_progress (extract_lets +onlyGivenNames x); first
        | clear_value x)
    | with_reducible apply State.incf_keep
    | with_reducible apply State.setSeam_keep
    | rfl)

theorem State.purgeLink_keep {wr : Nat} {s₀ : State} (s : State) (n l : Nat) (hk : Keep wr s₀ s) (hs : 2097168 &&& wr = 2097168) :
    Keep wr s₀ (State.purgeLink s n l) := by
  refine Keep.app hk ?_ hs
  unfold State.purgeLink
  repeat' (first
    | with_reducible exact Keep.refl _
    | (fail_if_no_progress (extract_lets +onlyGivenNames x); first
        | clear_value x)
    | with_reducible apply State.incf_keep
    | with_reducible apply State.setLink_keep
    | with_reducible refine Keep.ite ?_ ?_
    | rfl)

theorem State.removePeer_keep {wr : Nat} {s₀ : State} (s : State) (n : Nat) (hk : Keep wr s₀ s) (hs : 14233591414 &&& wr = 14233591414) :
    Keep wr s₀ (State.removePeer s n) := by
  refine Keep.app hk ?_ hs
  unfold State.removePeer
  repeat' (first
    | with_reducible exact Keep.refl _
    | with_reducible assumption
    | (fail_if_no_progress (extract_lets +onlyGivenNames x); first
        | (with_reducible refine Keep.cut (t := x) ?_ ?_; (on_goal 1 => (unfold x; clear x)); (on_goal 2 => (intro hx; clear_value x)))
        | clear_value x)
    | with_reducible apply State.advanceEpoch_keep
    | with_reducible apply State.endOffers_keep
    | with_reducible apply State.send_keep
    | with_reducible apply State.setSeam_keep
    | with_reducible apply State.revokePeer_keep
    | with_reducible apply State.purgeParked_keep
    | with_reducible apply State.purgeLink_keep
    | with_reducible apply State.exitLanded_keep
    | with_reducible refine Keep.ite ?_ ?_
    | refine Keep.foldl ?_ (fun t x ht => ?_)
    | rfl)

theorem State.setMembership_keep {wr : Nat} {s₀ : State} (s : State) (st members epoch leader aepoch : Nat) (hk : Keep wr s₀ s) (hs : 9663676464 &&& wr = 9663676464) :
    Keep wr s₀ (State.setMembership s st members epoch leader aepoch) := by
  refine Keep.app hk ?_ hs
  unfold State.setMembership
  repeat' (first
    | with_reducible exact Keep.refl _
    | with_reducible assumption
    | (fail_if_no_progress (extract_lets +onlyGivenNames x); first
        | (with_reducible refine Keep.cut (t := x) ?_ ?_; (on_goal 1 => (unfold x; clear x)); (on_goal 2 => (intro hx; clear_value x))))
    | with_reducible apply State.so_keep
    | with_reducible apply State.sf_keep
    | rfl)

theorem State.setRoutes_keep {wr : Nat} {s₀ : State} (s : State) (routes : List (Nat × Nat)) (hk : Keep wr s₀ s) (hs : 2097168 &&& wr = 2097168) :
    Keep wr s₀ (State.setRoutes s routes) := by
  refine Keep.app hk ?_ hs
  unfold State.setRoutes
  repeat' (first
    | with_reducible exact Keep.refl _
    | with_reducible assumption
    | (fail_if_no_progress (extract_lets +onlyGivenNames x); first
        | (with_reducible refine Keep.cut (t := x) ?_ ?_; (on_goal 1 => (unfold x; clear x)); (on_goal 2 => (intro hx; clear_value x)))
        | clear_value x)
    | with_reducible apply State.sf_keep
    | with_reducible apply State.setSeam_keep
    | with_reducible refine Keep.ite ?_ ?_
    | split
    | refine Keep.foldl ?_ (fun t x ht => ?_)
    | rfl)

theorem State.applyChange_keep {wr : Nat} {s₀ : State} (s : State) (c : SeamChange) (hk : Keep wr s₀ s) (hs : 14233591414 &&& wr = 14233591414) :
    Keep wr s₀ (State.applyChange s c) := by
  refine Keep.app hk ?_ hs
  unfold State.applyChange
  repeat' (first
    | with_reducible exact Keep.refl _
    | with_reducible assumption
    | (fail_if_no_progress (extract_lets +onlyGivenNames x); first
        | (with_reducible refine Keep.cut (t := x) ?_ ?_; (on_goal 1 => (unfold x; clear x)); (on_goal 2 => (intro hx; clear_value x)))
        | clear_value x)
    | with_reducible apply State.removePeer_keep
    | with_reducible apply State.sf_keep
    | with_reducible apply State.setMembership_keep
    | with_reducible apply State.setRoutes_keep
    | with_reducible apply State.setSeam_keep
    | with_reducible apply State.releaseParked_keep
    | with_reducible apply State.raise_keep
    | refine Keep.foldl ?_ (fun t x ht => ?_)
    | rfl)

theorem State.postAdmission_keep {wr : Nat} {s₀ : State} (s : State) (n : Nat) (b : SeamBody) (hk : Keep wr s₀ s) (hs : 2097152 &&& wr = 2097152) :
    Keep wr s₀ (State.postAdmission s n b) := by
  refine Keep.app hk ?_ hs
  unfold State.postAdmission
  repeat' (first
    | with_reducible exact Keep.refl _
    | (fail_if_no_progress (extract_lets +onlyGivenNames x); first
        | clear_value x)
    | with_reducible apply State.setLink_keep
    | with_reducible apply State.setSeam_keep
    | split
    | rfl)

theorem State.sendJoin_keep {wr : Nat} {s₀ : State} (s : State) (nonce : List Byte) (hk : Keep wr s₀ s) (hs : 2097152 &&& wr = 2097152) :
    Keep wr s₀ (State.sendJoin s nonce) := by
  refine Keep.app hk ?_ hs
  unfold State.sendJoin
  repeat' (first
    | with_reducible exact Keep.refl _
    | (fail_if_no_progress (extract_lets +onlyGivenNames x); first
        | clear_value x)
    | with_reducible apply State.postAdmission_keep
    | with_reducible apply State.setSeam_keep
    | split
    | rfl)

theorem State.joinCommand_keep {wr : Nat} {s₀ : State} (s : State) (nonce : List Byte) (hk : Keep wr s₀ s) (hs : 9665773600 &&& wr = 9665773600) :
    Keep wr s₀ (State.joinCommand s nonce) := by
  refine Keep.app hk ?_ hs
  unfold State.joinCommand
  repeat' (first
    | with_reducible exact Keep.refl _
    | with_reducible apply State.sendJoin_keep
    | with_reducible apply State.so_keep
    | with_reducible refine Keep.ite ?_ ?_
    | rfl)

theorem State.leaveCommand_keep {wr : Nat} {s₀ : State} (s : State) (hk : Keep wr s₀ s) (hs : 2097152 &&& wr = 2097152) :
    Keep wr s₀ (State.leaveCommand s) := by
  refine Keep.app hk ?_ hs
  unfold State.leaveCommand
  repeat' (first
    | with_reducible exact Keep.refl _
    | (fail_if_no_progress (extract_lets +onlyGivenNames x); first
        | clear_value x)
    | with_reducible apply State.setSeam_keep
    | with_reducible apply State.post_keep
    | with_reducible refine Keep.ite ?_ ?_
    | rfl)

theorem State.republishCommand_keep {wr : Nat} {s₀ : State} (s : State) (hk : Keep wr s₀ s) (hs : 2097152 &&& wr = 2097152) :
    Keep wr s₀ (State.republishCommand s) := by
  refine Keep.app hk ?_ hs
  unfold State.republishCommand
  repeat' (first
    | with_reducible exact Keep.refl _
    | (fail_if_no_progress (extract_lets +onlyGivenNames x); first
        | clear_value x)
    | with_reducible apply State.setSeam_keep
    | with_reducible apply State.post_keep
    | with_reducible refine Keep.ite ?_ ?_
    | rfl)

theorem State.postChange_keep {wr : Nat} {s₀ : State} (s : State) (n : Nat) (b : SeamBody) (hk : Keep wr s₀ s) (hs : 2097152 &&& wr = 2097152) :
    Keep wr s₀ (State.postChange s n b) := by
  refine Keep.app hk ?_ hs
  unfold State.postChange
  repeat' (first
    | with_reducible exact Keep.refl _
    | with_reducible apply State.post_keep
    | with_reducible apply State.postAdmission_keep
    | with_reducible refine Keep.ite ?_ ?_
    | rfl)

theorem State.endJoining_keep {wr : Nat} {s₀ : State} (s : State) (hk : Keep wr s₀ s) (hs : 2097152 &&& wr = 2097152) :
    Keep wr s₀ (State.endJoining s) := by
  refine Keep.app hk ?_ hs
  unfold State.endJoining
  repeat' (first
    | with_reducible exact Keep.refl _
    | (fail_if_no_progress (extract_lets +onlyGivenNames x); first
        | clear_value x)
    | with_reducible apply State.setSeam_keep
    | rfl)

theorem State.formAlone_keep {wr : Nat} {s₀ : State} (s : State) (hk : Keep wr s₀ s) (hs : 9663676464 &&& wr = 9663676464) :
    Keep wr s₀ (State.formAlone s) := by
  refine Keep.app hk ?_ hs
  unfold State.formAlone
  repeat' (first
    | with_reducible exact Keep.refl _
    | with_reducible apply State.sf_keep
    | with_reducible apply State.setMembership_keep
    | rfl)

theorem State.standAlone_keep {wr : Nat} {s₀ : State} (s : State) (hk : Keep wr s₀ s) (hs : 9663676464 &&& wr = 9663676464) :
    Keep wr s₀ (State.standAlone s) := by
  refine Keep.app hk ?_ hs
  unfold State.standAlone
  repeat' (first
    | with_reducible exact Keep.refl _
    | with_reducible apply State.setMembership_keep
    | rfl)

theorem State.expelled_keep {wr : Nat} {s₀ : State} (s : State) (hk : Keep wr s₀ s) (hs : 14233591414 &&& wr = 14233591414) :
    Keep wr s₀ (State.expelled s) := by
  refine Keep.app hk ?_ hs
  unfold State.expelled
  repeat' (first
    | with_reducible exact Keep.refl _
    | with_reducible assumption
    | (fail_if_no_progress (extract_lets +onlyGivenNames x); first
        | (with_reducible refine Keep.cut (t := x) ?_ ?_; (on_goal 1 => (unfold x; clear x)); (on_goal 2 => (intro hx; clear_value x)))
        | clear_value x)
    | with_reducible apply State.removePeer_keep
    | with_reducible apply State.setRoutes_keep
    | with_reducible apply State.setSeam_keep
    | with_reducible apply State.raise_keep
    | with_reducible apply State.formAlone_keep
    | with_reducible apply State.standAlone_keep
    | with_reducible refine Keep.ite ?_ ?_
    | refine Keep.foldl ?_ (fun t x ht => ?_)
    | rfl)

theorem State.heldOutcome_keep {wr : Nat} {s₀ : State} (s : State) (n epoch : Nat) (ok : Bool) (hk : Keep wr s₀ s) (hs : 2097152 &&& wr = 2097152) :
    Keep wr s₀ (State.heldOutcome s n epoch ok) := by
  refine Keep.app hk ?_ hs
  unfold State.heldOutcome
  repeat' (first
    | with_reducible exact Keep.refl _
    | (fail_if_no_progress (extract_lets +onlyGivenNames x); first
        | clear_value x)
    | with_reducible apply State.setSeam_keep
    | with_reducible refine Keep.ite ?_ ?_
    | split
    | rfl)

theorem State.refuseJoin_keep {wr : Nat} {s₀ : State} (s : State) (n reason : Nat) (hk : Keep wr s₀ s) (hs : 13960810548 &&& wr = 13960810548) :
    Keep wr s₀ (State.refuseJoin s n reason) := by
  refine Keep.app hk ?_ hs
  unfold State.refuseJoin
  repeat' (first
    | with_reducible exact Keep.refl _
    | with_reducible apply State.raise_keep
    | with_reducible apply State.postAdmission_keep
    | with_reducible apply State.so_keep
    | rfl)

theorem execBoltFormAlone_keep (reachable : Bool) (s : State) : KeepOut 9663676464 s (execBoltFormAlone reachable s) := by
  unfold execBoltFormAlone
  repeat' (first
    | with_reducible exact Keep.refl _
    | with_reducible refine Keep.out ?_
    | with_reducible apply State.formAlone_keep
    | with_reducible refine Keep.ite ?_ ?_
    | rfl)

theorem execBoltJoin_keep (nonce : List Byte) (most : Nat) (s : State) : KeepOut 13960810548 s (execBoltJoin nonce most s) := by
  unfold execBoltJoin
  repeat' (first
    | with_reducible exact Keep.refl _
    | with_reducible refine Keep.out ?_
    | (fail_if_no_progress (extract_lets +onlyGivenNames x); first
        | clear_value x)
    | with_reducible apply State.takeArrival_keep
    | with_reducible apply State.refuseJoin_keep
    | with_reducible apply State.postAdmission_keep
    | with_reducible apply State.setSeam_keep
    | with_reducible refine Keep.ite ?_ ?_
    | split
    | with_reducible refine Keep.of_pair (by assumption) ?_
    | rfl)

theorem execBoltChal_keep (s : State) : KeepOut 13960810548 s (execBoltChal s) := by
  unfold execBoltChal
  repeat' (first
    | with_reducible exact Keep.refl _
    | with_reducible refine Keep.out ?_
    | (fail_if_no_progress (extract_lets +onlyGivenNames x); first
        | clear_value x)
    | with_reducible apply State.takeArrival_keep
    | with_reducible apply State.endJoining_keep
    | with_reducible apply State.refuseJoin_keep
    | with_reducible apply State.postAdmission_keep
    | with_reducible apply State.setSeam_keep
    | with_reducible refine Keep.ite ?_ ?_
    | split
    | with_reducible refine Keep.of_pair (by assumption) ?_
    | rfl)

theorem execBoltProof_keep (measured : Nat) (s : State) : KeepOut 13960810548 s (execBoltProof measured s) := by
  unfold execBoltProof
  repeat' (first
    | with_reducible exact Keep.refl _
    | with_reducible assumption
    | with_reducible refine Keep.out ?_
    | (fail_if_no_progress (extract_lets +onlyGivenNames x); first
        | (with_reducible refine Keep.cut (t := x) ?_ ?_; (on_goal 1 => (unfold x; clear x)); (on_goal 2 => (intro hx; clear_value x)))
        | clear_value x)
    | with_reducible apply State.takeArrival_keep
    | with_reducible apply State.setSeam_keep
    | with_reducible apply State.refuseJoin_keep
    | with_reducible apply State.postAdmission_keep
    | with_reducible refine Keep.ite ?_ ?_
    | split
    | with_reducible refine Keep.of_pair (by assumption) ?_
    | rfl)

theorem execBoltAdmit_keep (s : State) : KeepOut 2097152 s (execBoltAdmit s) := by
  unfold execBoltAdmit
  repeat' (first
    | with_reducible exact Keep.refl _
    | with_reducible refine Keep.out ?_
    | (fail_if_no_progress (extract_lets +onlyGivenNames x); first
        | clear_value x)
    | with_reducible apply State.takeArrival_keep
    | with_reducible apply State.setSeam_keep
    | split
    | with_reducible refine Keep.of_pair (by assumption) ?_
    | rfl)

theorem execBoltRefuse_keep (s : State) : KeepOut 9665773600 s (execBoltRefuse s) := by
  unfold execBoltRefuse
  repeat' (first
    | with_reducible exact Keep.refl _
    | with_reducible assumption
    | with_reducible refine Keep.out ?_
    | (fail_if_no_progress (extract_lets +onlyGivenNames x); first
        | (with_reducible refine Keep.cut (t := x) ?_ ?_; (on_goal 1 => (unfold x; clear x)); (on_goal 2 => (intro hx; clear_value x)))
        | clear_value x)
    | with_reducible apply State.takeArrival_keep
    | with_reducible apply State.so_keep
    | with_reducible apply State.endJoining_keep
    | with_reducible apply State.setSeam_keep
    | with_reducible refine Keep.ite ?_ ?_
    | split
    | with_reducible refine Keep.of_pair (by assumption) ?_
    | rfl)

theorem execBoltAdmissionTimeout_keep (s : State) : KeepOut 13960810548 s (execBoltAdmissionTimeout s) := by
  unfold execBoltAdmissionTimeout
  repeat' (first
    | with_reducible exact Keep.refl _
    | with_reducible assumption
    | with_reducible refine Keep.out ?_
    | (fail_if_no_progress (extract_lets +onlyGivenNames x); first
        | (with_reducible refine Keep.cut (t := x) ?_ ?_; (on_goal 1 => (unfold x; clear x)); (on_goal 2 => (intro hx; clear_value x)))
        | clear_value x)
    | with_reducible apply State.endJoining_keep
    | with_reducible apply State.refuseJoin_keep
    | with_reducible apply State.setSeam_keep
    | with_reducible refine Keep.ite ?_ ?_
    | split
    | refine Keep.foldl ?_ (fun t x ht => ?_)
    | rfl)

theorem execEpochChangePropose_keep (links : List (Nat × Nat × Nat)) (rights : List (Nat × Nat × SeamRights)) (eligible : Nat) (s : State) : KeepOut 2097152 s (execEpochChangePropose links rights eligible s) := by
  unfold execEpochChangePropose
  repeat' (first
    | with_reducible exact Keep.refl _
    | with_reducible assumption
    | with_reducible refine Keep.out ?_
    | (fail_if_no_progress (extract_lets +onlyGivenNames x); first
        | (with_reducible refine Keep.cut (t := x) ?_ ?_; (on_goal 1 => (unfold x; clear x)); (on_goal 2 => (intro hx; clear_value x)))
        | clear_value x)
    | with_reducible apply State.setSeam_keep
    | with_reducible apply State.postChange_keep
    | with_reducible refine Keep.ite ?_ ?_
    | refine Keep.foldl ?_ (fun t x ht => ?_)
    | rfl)

theorem execEpochChangeReceive_keep (s : State) : KeepOut 2097152 s (execEpochChangeReceive s) := by
  unfold execEpochChangeReceive
  repeat' (first
    | with_reducible exact Keep.refl _
    | with_reducible refine Keep.out ?_
    | (fail_if_no_progress (extract_lets +onlyGivenNames x); first
        | clear_value x)
    | with_reducible apply State.takeArrival_keep
    | with_reducible apply State.postChange_keep
    | with_reducible apply State.setSeam_keep
    | with_reducible refine Keep.ite ?_ ?_
    | split
    | with_reducible refine Keep.of_pair (by assumption) ?_
    | rfl)

theorem execEpochChangeDecide_keep (s : State) : KeepOut 2097152 s (execEpochChangeDecide s) := by
  unfold execEpochChangeDecide
  repeat' (first
    | with_reducible exact Keep.refl _
    | with_reducible assumption
    | with_reducible refine Keep.out ?_
    | (fail_if_no_progress (extract_lets +onlyGivenNames x); first
        | (with_reducible refine Keep.cut (t := x) ?_ ?_; (on_goal 1 => (unfold x; clear x)); (on_goal 2 => (intro hx; clear_value x)))
        | clear_value x)
    | with_reducible apply State.setSeam_keep
    | with_reducible apply State.postChange_keep
    | with_reducible refine Keep.ite ?_ ?_
    | split
    | refine Keep.foldl ?_ (fun t x ht => ?_)
    | rfl)

theorem execEpochCommitReceive_keep (s : State) : KeepOut 2097152 s (execEpochCommitReceive s) := by
  unfold execEpochCommitReceive
  repeat' (first
    | with_reducible exact Keep.refl _
    | with_reducible refine Keep.out ?_
    | with_reducible apply State.takeArrival_keep
    | with_reducible apply State.heldOutcome_keep
    | split
    | with_reducible refine Keep.of_pair (by assumption) ?_
    | rfl)

theorem execEpochAbandonReceive_keep (s : State) : KeepOut 2097152 s (execEpochAbandonReceive s) := by
  unfold execEpochAbandonReceive
  repeat' (first
    | with_reducible exact Keep.refl _
    | with_reducible refine Keep.out ?_
    | with_reducible apply State.takeArrival_keep
    | with_reducible apply State.heldOutcome_keep
    | split
    | with_reducible refine Keep.of_pair (by assumption) ?_
    | rfl)

theorem execEpochChangeApply_keep (s : State) : KeepOut 14233591414 s (execEpochChangeApply s) := by
  unfold execEpochChangeApply
  repeat' (first
    | with_reducible exact Keep.refl _
    | with_reducible refine Keep.out ?_
    | with_reducible apply State.applyChange_keep
    | with_reducible apply State.expelled_keep
    | with_reducible refine Keep.ite ?_ ?_
    | split
    | rfl)

theorem execEpochWindowSwitch_keep (s : State) : KeepOut 2097152 s (execEpochWindowSwitch s) := by
  unfold execEpochWindowSwitch
  repeat' (first
    | with_reducible exact Keep.refl _
    | with_reducible refine Keep.out ?_
    | (fail_if_no_progress (extract_lets +onlyGivenNames x); first
        | clear_value x)
    | with_reducible apply State.setSeam_keep
    | with_reducible refine Keep.ite ?_ ?_
    | split
    | rfl)

theorem execEpochChangeNoOutcome_keep (s : State) : KeepOut 2097152 s (execEpochChangeNoOutcome s) := by
  unfold execEpochChangeNoOutcome
  repeat' (first
    | with_reducible exact Keep.refl _
    | with_reducible refine Keep.out ?_
    | with_reducible apply State.postChange_keep
    | with_reducible refine Keep.ite ?_ ?_
    | split
    | rfl)

theorem execBoltHeartbeatSend_keep (s : State) : KeepOut 2097152 s (execBoltHeartbeatSend s) := by
  unfold execBoltHeartbeatSend
  repeat' (first
    | with_reducible exact Keep.refl _
    | with_reducible assumption
    | with_reducible refine Keep.out ?_
    | (fail_if_no_progress (extract_lets +onlyGivenNames x); first
        | clear_value x)
    | with_reducible apply State.post_keep
    | with_reducible apply State.setSeam_keep
    | with_reducible refine Keep.ite ?_ ?_
    | refine Keep.foldl ?_ (fun t x ht => ?_)
    | rfl)

theorem execBoltHeartbeatReceive_keep (s : State) : KeepOut 2097152 s (execBoltHeartbeatReceive s) := by
  unfold execBoltHeartbeatReceive
  repeat' (first
    | with_reducible exact Keep.refl _
    | with_reducible refine Keep.out ?_
    | (fail_if_no_progress (extract_lets +onlyGivenNames x); first
        | clear_value x)
    | with_reducible apply State.takeArrival_keep
    | with_reducible apply State.post_keep
    | with_reducible apply State.setSeam_keep
    | with_reducible refine Keep.ite ?_ ?_
    | split
    | with_reducible refine Keep.of_pair (by assumption) ?_
    | rfl)

theorem execBoltPeerLost_keep (peer : Nat) (first : Bool) (s : State) : KeepOut 4297134100 s (execBoltPeerLost peer first s) := by
  unfold execBoltPeerLost
  repeat' (first
    | with_reducible exact Keep.refl _
    | with_reducible refine Keep.out ?_
    | (fail_if_no_progress (extract_lets +onlyGivenNames x); first
        | clear_value x)
    | with_reducible apply State.raise_keep
    | with_reducible apply State.setSeam_keep
    | with_reducible refine Keep.ite ?_ ?_
    | rfl)

theorem execBoltCommandJoin_keep (nonce : List Byte) (s : State) : KeepOut 9665773600 s (execBoltCommandJoin nonce s) := by
  unfold execBoltCommandJoin
  repeat' (first
    | with_reducible exact Keep.refl _
    | with_reducible refine Keep.out ?_
    | with_reducible apply State.joinCommand_keep
    | rfl)

theorem execBoltCommandLeave_keep (s : State) : KeepOut 2097152 s (execBoltCommandLeave s) := by
  unfold execBoltCommandLeave
  repeat' (first
    | with_reducible exact Keep.refl _
    | with_reducible refine Keep.out ?_
    | with_reducible apply State.leaveCommand_keep
    | rfl)

theorem execBoltCommandRepublish_keep (s : State) : KeepOut 2097152 s (execBoltCommandRepublish s) := by
  unfold execBoltCommandRepublish
  repeat' (first
    | with_reducible exact Keep.refl _
    | with_reducible refine Keep.out ?_
    | with_reducible apply State.republishCommand_keep
    | rfl)

theorem execRemoteReadTimeout_keep (s : State) : KeepOut 2097156 s (execRemoteReadTimeout s) := by
  unfold execRemoteReadTimeout
  repeat' (first
    | with_reducible exact Keep.refl _
    | with_reducible refine Keep.out ?_
    | (fail_if_no_progress (extract_lets +onlyGivenNames x); first
        | clear_value x)
    | with_reducible apply State.send_keep
    | with_reducible apply State.setSeam_keep
    | split
    | rfl)

theorem execPeerEventReceive_keep (s : State) : KeepOut 4297134100 s (execPeerEventReceive s) := by
  unfold execPeerEventReceive
  repeat' (first
    | with_reducible exact Keep.refl _
    | with_reducible assumption
    | with_reducible refine Keep.out ?_
    | (fail_if_no_progress (extract_lets +onlyGivenNames x); first
        | (with_reducible refine Keep.cut (t := x) ?_ ?_; (on_goal 1 => (unfold x; clear x)); (on_goal 2 => (intro hx; clear_value x)))
        | clear_value x)
    | with_reducible apply State.takeArrival_keep
    | with_reducible apply State.setSeam_keep
    | with_reducible apply State.incf_keep
    | with_reducible apply State.raise_keep
    | with_reducible refine Keep.ite ?_ ?_
    | split
    | with_reducible refine Keep.of_pair (by assumption) ?_
    | rfl)

theorem execSeamPeerEvtPop_keep (requester : Nat) (s : State) : KeepOut 270532612 s (execSeamPeerEvtPop requester s) := by
  unfold execSeamPeerEvtPop
  repeat' (first
    | with_reducible exact Keep.refl _
    | with_reducible assumption
    | (intro _)
    | with_reducible refine Keep.out ?_
    | (fail_if_no_progress (extract_lets +onlyGivenNames x); first
        | clear_value x)
    | with_reducible apply State.atIsland_keep
    | with_reducible apply State.send_keep
    | with_reducible apply State.setSeam_keep
    | split
    | rfl)

theorem execBoltJoinRetry_keep (nonce : List Byte) (s : State) : KeepOut 2097152 s (execBoltJoinRetry nonce s) := by
  unfold execBoltJoinRetry
  repeat' (first
    | with_reducible exact Keep.refl _
    | with_reducible refine Keep.out ?_
    | with_reducible apply State.sendJoin_keep
    | with_reducible refine Keep.ite ?_ ?_
    | rfl)

end Sys2Proof.Machine
end

