-- ==== Sys2Proof/Laws/KeepDma.lean ====
section
/-!
SUPPORT. The parts of the state that the operations of Machine/Dma.lean may write.
-/

namespace Sys2Proof.Machine

open Reg Ob

theorem State.dmaStatus_keep {wr : Nat} {s₀ : State} (s : State) (c p code : Nat) (d : DmaDesc) (hk : Keep wr s₀ s) (hs : 4330691092 &&& wr = 4330691092) :
    Keep wr s₀ (State.dmaStatus s c p code d).2 := by
  refine Keep.app hk ?_ hs
  unfold State.dmaStatus
  repeat' (first
    | with_reducible exact Keep.refl _
    | (fail_if_no_progress (extract_lets +onlyGivenNames x); first
        | clear_value x)
    | with_reducible apply State.writeWordAt_keep
    | with_reducible apply State.countDenial_keep
    | with_reducible refine Keep.ite_snd ?_ ?_
    | rfl)

theorem State.dmaEvent_keep {wr : Nat} {s₀ : State} (s : State) (c reason : Nat) (hk : Keep wr s₀ s) (hs : 4297134100 &&& wr = 4297134100) :
    Keep wr s₀ (State.dmaEvent s c reason) := by
  refine Keep.app hk ?_ hs
  unfold State.dmaEvent
  repeat' (first
    | with_reducible exact Keep.refl _
    | with_reducible apply State.raiseReason_keep
    | rfl)

theorem State.dmaChain_keep {wr : Nat} {s₀ : State} (s : State) (c : Nat) (hk : Keep wr s₀ s) (hs : 8192 &&& wr = 8192) :
    Keep wr s₀ (State.dmaChain s c) := by
  refine Keep.app hk ?_ hs
  unfold State.dmaChain
  repeat' (first
    | with_reducible exact Keep.refl _
    | (fail_if_no_progress (extract_lets +onlyGivenNames x); first
        | clear_value x)
    | with_reducible refine Keep.ite ?_ ?_
    | fail_if_no_progress (with_reducible refine Keep.set_tb (by decide) ?_))

theorem State.setDmaCh_keep {wr : Nat} {s₀ : State} (s : State) (c : Nat) (x : DmaCh) (hk : Keep wr s₀ s) (hs : 16777232 &&& wr = 16777232) :
    Keep wr s₀ (State.setDmaCh s c x) := by
  refine Keep.app hk ?_ hs
  unfold State.setDmaCh
  repeat' (first
    | with_reducible exact Keep.refl _
    | with_reducible assumption
    | (fail_if_no_progress (extract_lets +onlyGivenNames x); first
        | (with_reducible refine Keep.cut (t := x) ?_ ?_; (on_goal 1 => (unfold x; clear x)); (on_goal 2 => (intro hx; clear_value x)))
        | clear_value x)
    | with_reducible apply State.sf_keep
    | rfl
    | fail_if_no_progress (with_reducible refine Keep.set_dma (by decide) ?_))

theorem State.dmaReadLink_keep {wr : Nat} {s₀ : State} (s : State) (c : Nat) (hk : Keep wr s₀ s) (hs : 14250220150 &&& wr = 14250220150) :
    Keep wr s₀ (State.dmaReadLink s c) := by
  refine Keep.app hk ?_ hs
  unfold State.dmaReadLink
  repeat' (first
    | with_reducible exact Keep.refl _
    | with_reducible assumption
    | (fail_if_no_progress (extract_lets +onlyGivenNames x); first
        | (with_reducible refine Keep.cut (t := x.2) ?_ ?_; (on_goal 1 => (unfold x; clear x)); (on_goal 2 => (intro hx; clear_value x)))
        | clear_value x)
    | with_reducible apply State.setDmaCh_keep
    | with_reducible apply State.stallOn_keep
    | with_reducible apply State.readWordAt_keep
    | split
    | rfl)

theorem State.setDstate_keep {wr : Nat} {s₀ : State} (s : State) (c v : Nat) (hk : Keep wr s₀ s) (hs : 16 &&& wr = 16) :
    Keep wr s₀ (State.setDstate s c v) := by
  refine Keep.app hk ?_ hs
  unfold State.setDstate
  repeat' (first
    | with_reducible exact Keep.refl _
    | with_reducible apply State.sf_keep
    | rfl)

theorem State.dmaFetchAt_keep {wr : Nat} {s₀ : State} (s : State) (c addr : Nat) (hk : Keep wr s₀ s) (hs : 16777232 &&& wr = 16777232) :
    Keep wr s₀ (State.dmaFetchAt s c addr) := by
  refine Keep.app hk ?_ hs
  unfold State.dmaFetchAt
  repeat' (first
    | with_reducible exact Keep.refl _
    | (fail_if_no_progress (extract_lets +onlyGivenNames x); first
        | clear_value x)
    | with_reducible apply State.setDstate_keep
    | with_reducible apply State.sf_keep
    | with_reducible apply State.setDmaCh_keep
    | rfl)

theorem State.dmaFail_keep {wr : Nat} {s₀ : State} (s : State) (c : Nat) (hk : Keep wr s₀ s) (hs : 4313911316 &&& wr = 4313911316) :
    Keep wr s₀ (State.dmaFail s c) := by
  refine Keep.app hk ?_ hs
  unfold State.dmaFail
  repeat' (first
    | with_reducible exact Keep.refl _
    | (fail_if_no_progress (extract_lets +onlyGivenNames x); first
        | clear_value x)
    | with_reducible apply State.dmaEvent_keep
    | with_reducible apply State.setDstate_keep
    | with_reducible apply State.setDmaCh_keep
    | rfl)

theorem State.dmaComplete_keep {wr : Nat} {s₀ : State} (s : State) (c p code : Nat) (hk : Keep wr s₀ s) (hs : 14283782774 &&& wr = 14283782774) :
    Keep wr s₀ (State.dmaComplete s c p code) := by
  refine Keep.app hk ?_ hs
  unfold State.dmaComplete
  repeat' (first
    | with_reducible exact Keep.refl _
    | with_reducible assumption
    | (fail_if_no_progress (extract_lets +onlyGivenNames x); first
        | (with_reducible refine Keep.cut (t := x) ?_ ?_; (on_goal 1 => (unfold x; clear x)); (on_goal 2 => (intro hx; clear_value x)))
        | (with_reducible refine Keep.cut (t := x.2) ?_ ?_; (on_goal 1 => (unfold x; clear x)); (on_goal 2 => (intro hx; clear_value x))))
    | with_reducible apply State.dmaStatus_keep
    | with_reducible apply State.incf_keep
    | with_reducible apply State.sf_keep
    | with_reducible apply State.dmaEvent_keep
    | with_reducible apply State.dmaChain_keep
    | with_reducible apply State.dmaReadLink_keep
    | with_reducible apply State.dmaFetchAt_keep
    | with_reducible apply State.dmaFail_keep
    | with_reducible refine Keep.ite ?_ ?_
    | split
    | rfl)

theorem State.dmaStop_keep {wr : Nat} {s₀ : State} (s : State) (c : Nat) (hk : Keep wr s₀ s) (hs : 14283782774 &&& wr = 14283782774) :
    Keep wr s₀ (State.dmaStop s c) := by
  refine Keep.app hk ?_ hs
  unfold State.dmaStop
  repeat' (first
    | with_reducible exact Keep.refl _
    | with_reducible assumption
    | (fail_if_no_progress (extract_lets +onlyGivenNames x); first
        | (with_reducible refine Keep.cut (t := x) ?_ ?_; (on_goal 1 => (unfold x; clear x)); (on_goal 2 => (intro hx; clear_value x)))
        | clear_value x)
    | with_reducible apply State.dmaComplete_keep
    | with_reducible apply State.sf_keep
    | with_reducible apply State.setDstate_keep
    | with_reducible apply State.setDmaCh_keep
    | with_reducible refine Keep.ite ?_ ?_
    | split
    | rfl)

theorem State.dmaReset_keep {wr : Nat} {s₀ : State} (s : State) (c : Nat) (hk : Keep wr s₀ s) (hs : 14283782774 &&& wr = 14283782774) :
    Keep wr s₀ (State.dmaReset s c) := by
  refine Keep.app hk ?_ hs
  unfold State.dmaReset
  repeat' (first
    | with_reducible exact Keep.refl _
    | with_reducible apply State.sf_keep
    | with_reducible apply State.dmaStop_keep
    | rfl)

theorem State.dmaResetThese_keep {wr : Nat} {s₀ : State} (s : State) (mine : List Nat) (hk : Keep wr s₀ s) (hs : 14283782774 &&& wr = 14283782774) :
    Keep wr s₀ (State.dmaResetThese s mine) := by
  refine Keep.app hk ?_ hs
  unfold State.dmaResetThese
  repeat' (first
    | with_reducible exact Keep.refl _
    | with_reducible assumption
    | (fail_if_no_progress (extract_lets +onlyGivenNames x); first
        | (with_reducible refine Keep.cut (t := x) ?_ ?_; (on_goal 1 => (unfold x; clear x)); (on_goal 2 => (intro hx; clear_value x)))
        | clear_value x)
    | with_reducible apply State.dmaReset_keep
    | refine Keep.foldl ?_ (fun t x ht => ?_)
    | rfl
    | fail_if_no_progress (with_reducible refine Keep.set_tb (by decide) ?_))

theorem State.dmaResetAll_keep {wr : Nat} {s₀ : State} (s : State) (p : Nat) (hk : Keep wr s₀ s) (hs : 14283782774 &&& wr = 14283782774) :
    Keep wr s₀ (State.dmaResetAll s p) := by
  refine Keep.app hk ?_ hs
  unfold State.dmaResetAll
  repeat' (first
    | with_reducible exact Keep.refl _
    | with_reducible apply State.dmaResetThese_keep
    | rfl)

theorem State.writeDmaCfg_keep {wr : Nat} {s₀ : State} (s : State) (r c v : Nat) (hk : Keep wr s₀ s) (hs : 14283782774 &&& wr = 14283782774) :
    Keep wr s₀ (State.writeDmaCfg s r c v) := by
  refine Keep.app hk ?_ hs
  unfold State.writeDmaCfg
  repeat' (first
    | with_reducible exact Keep.refl _
    | with_reducible assumption
    | (fail_if_no_progress (extract_lets +onlyGivenNames x); first
        | (with_reducible refine Keep.cut (t := x) ?_ ?_; (on_goal 1 => (unfold x; clear x)); (on_goal 2 => (intro hx; clear_value x)))
        | clear_value x)
    | with_reducible apply State.sf_keep
    | with_reducible apply State.dmaStop_keep
    | with_reducible refine Keep.ite ?_ ?_
    | rfl)

theorem State.writeDmaLinks_keep {wr : Nat} {s₀ : State} (s : State) (r c v : Nat) (hk : Keep wr s₀ s) (hs : 16 &&& wr = 16) :
    Keep wr s₀ (State.writeDmaLinks s r c v) := by
  refine Keep.app hk ?_ hs
  unfold State.writeDmaLinks
  repeat' (first
    | with_reducible exact Keep.refl _
    | (fail_if_no_progress (extract_lets +onlyGivenNames x); first
        | clear_value x)
    | with_reducible apply State.sf_keep
    | with_reducible refine Keep.ite ?_ ?_
    | rfl)

theorem State.writeDmaHead_keep {wr : Nat} {s₀ : State} (s : State) (r c v : Nat) (hk : Keep wr s₀ s) (hs : 16 &&& wr = 16) :
    Keep wr s₀ (State.writeDmaHead s r c v) := by
  refine Keep.app hk ?_ hs
  unfold State.writeDmaHead
  repeat' (first
    | with_reducible exact Keep.refl _
    | with_reducible apply State.sf_keep
    | with_reducible refine Keep.ite ?_ ?_
    | rfl)

theorem State.dmaTrigger_keep {wr : Nat} {s₀ : State} (s : State) (c : Nat) (tag : Option (Nat × Nat)) (hk : Keep wr s₀ s) (hs : 4313911316 &&& wr = 4313911316) :
    Keep wr s₀ (State.dmaTrigger s c tag) := by
  refine Keep.app hk ?_ hs
  unfold State.dmaTrigger
  repeat' (first
    | with_reducible exact Keep.refl _
    | (fail_if_no_progress (extract_lets +onlyGivenNames x); first
        | clear_value x)
    | with_reducible apply State.setDmaCh_keep
    | with_reducible apply State.dmaEvent_keep
    | with_reducible apply State.incf_keep
    | with_reducible refine Keep.ite ?_ ?_
    | rfl)

theorem State.dmaRing_keep {wr : Nat} {s₀ : State} (s : State) (c : Nat) (hk : Keep wr s₀ s) (hs : 14250220150 &&& wr = 14250220150) :
    Keep wr s₀ (State.dmaRing s c) := by
  refine Keep.app hk ?_ hs
  unfold State.dmaRing
  repeat' (first
    | with_reducible exact Keep.refl _
    | (fail_if_no_progress (extract_lets +onlyGivenNames x); first
        | clear_value x)
    | with_reducible apply State.dmaFetchAt_keep
    | with_reducible apply State.dmaReadLink_keep
    | with_reducible apply State.sf_keep
    | with_reducible refine Keep.ite ?_ ?_
    | rfl)

theorem State.writeDmaDoorbell_keep {wr : Nat} {s₀ : State} (s : State) (r c v : Nat) (hk : Keep wr s₀ s) (hs : 14283782774 &&& wr = 14283782774) :
    Keep wr s₀ (State.writeDmaDoorbell s r c v) := by
  refine Keep.app hk ?_ hs
  unfold State.writeDmaDoorbell
  repeat' (first
    | with_reducible exact Keep.refl _
    | with_reducible assumption
    | (fail_if_no_progress (extract_lets +onlyGivenNames x); first
        | (with_reducible refine Keep.cut (t := x) ?_ ?_; (on_goal 1 => (unfold x; clear x)); (on_goal 2 => (intro hx; clear_value x))))
    | with_reducible apply State.dmaReset_keep
    | with_reducible apply State.dmaTrigger_keep
    | with_reducible apply State.dmaRing_keep
    | with_reducible refine Keep.ite ?_ ?_
    | rfl)

theorem State.dmaWrite_rec {s₀ : State} (s : State) (u a n : Nat) (byte : Nat → Option Byte) (n0 : List Nat) (hk : Keep 13998561908 s₀ s) :
    Keep 13998561908 s₀ (State.dmaWrite s u a n byte n0).2 := by
  induction n0 generalizing s u a n byte with
  | nil =>
    unfold State.dmaWrite
    repeat' (first
      | with_reducible assumption
      | (fail_if_no_progress (extract_lets +onlyGivenNames x); first
          | (with_reducible refine Keep.cut (t := x.2) ?_ ?_; (on_goal 1 => (unfold x; clear x)); (on_goal 2 => (intro hx; clear_value x)))
          | clear_value x)
      | with_reducible apply State.writeWordAt_keep
      | with_reducible apply State.mergeWordAt_keep
      | with_reducible apply ih
      | with_reducible refine Keep.ite_snd ?_ ?_
      | rfl)
  | cons x l ih =>
    unfold State.dmaWrite
    repeat' (first
      | with_reducible assumption
      | (fail_if_no_progress (extract_lets +onlyGivenNames x); first
          | (with_reducible refine Keep.cut (t := x.2) ?_ ?_; (on_goal 1 => (unfold x; clear x)); (on_goal 2 => (intro hx; clear_value x)))
          | clear_value x)
      | with_reducible apply State.writeWordAt_keep
      | with_reducible apply State.mergeWordAt_keep
      | with_reducible apply ih
      | with_reducible refine Keep.ite_snd ?_ ?_
      | rfl)

theorem State.dmaWrite_keep {wr : Nat} {s₀ : State} (s : State) (u a n : Nat) (byte : Nat → Option Byte) (n0 : List Nat) (hk : Keep wr s₀ s)
    (hs : 13998561908 &&& wr = 13998561908) : Keep wr s₀ (State.dmaWrite s u a n byte n0).2 :=
  Keep.app hk (State.dmaWrite_rec _ _ _ _ _ _ (Keep.refl _)) hs

theorem State.dmaMove_keep {wr : Nat} {s₀ : State} (s : State) (c p : Nat) (d : DmaDesc) (n : Nat) (hk : Keep wr s₀ s) (hs : 14283782774 &&& wr = 14283782774) :
    Keep wr s₀ (State.dmaMove s c p d n) := by
  refine Keep.app hk ?_ hs
  unfold State.dmaMove
  repeat' (first
    | with_reducible exact Keep.refl _
    | with_reducible assumption
    | (fail_if_no_progress (extract_lets +onlyGivenNames x); first
        | (with_reducible refine Keep.cut (t := x.2) ?_ ?_; (on_goal 1 => (unfold x; clear x)); (on_goal 2 => (intro hx; clear_value x)))
        | clear_value x)
    | with_reducible apply State.dmaComplete_keep
    | with_reducible apply State.countDenial_keep
    | with_reducible apply State.stallOn_keep
    | with_reducible apply State.readWords_keep
    | with_reducible apply State.dmaWrite_keep
    | with_reducible apply State.setDmaCh_keep
    | with_reducible refine Keep.ite ?_ ?_
    | with_reducible refine Keep.ite_snd ?_ ?_
    | split
    | rfl)

theorem State.dmaPush_keep {wr : Nat} {s₀ : State} (s : State) (c p : Nat) (d : DmaDesc) (hk : Keep wr s₀ s) (hs : 14283783798 &&& wr = 14283783798) :
    Keep wr s₀ (State.dmaPush s c p d) := by
  refine Keep.app hk ?_ hs
  unfold State.dmaPush
  repeat' (first
    | with_reducible exact Keep.refl _
    | with_reducible assumption
    | (fail_if_no_progress (extract_lets +onlyGivenNames x); first
        | (with_reducible refine Keep.cut (t := x) ?_ ?_; (on_goal 1 => (unfold x; clear x)); (on_goal 2 => (intro hx; clear_value x)))
        | (with_reducible refine Keep.cut (t := x.2) ?_ ?_; (on_goal 1 => (unfold x; clear x)); (on_goal 2 => (intro hx; clear_value x)))
        | clear_value x)
    | with_reducible apply State.dmaComplete_keep
    | with_reducible apply State.countDenial_keep
    | with_reducible apply State.stallOn_keep
    | with_reducible apply State.readWords_keep
    | with_reducible apply State.pushEntry_keep
    | with_reducible apply State.setDmaCh_keep
    | with_reducible refine Keep.ite ?_ ?_
    | split
    | refine Keep.foldl ?_ (fun t x ht => ?_)
    | rfl)

theorem State.dmaUnread_keep {wr : Nat} {s₀ : State} (s : State) (c code : Nat) (hk : Keep wr s₀ s) (hs : 4313911316 &&& wr = 4313911316) :
    Keep wr s₀ (State.dmaUnread s c code) := by
  refine Keep.app hk ?_ hs
  unfold State.dmaUnread
  repeat' (first
    | with_reducible exact Keep.refl _
    | with_reducible apply State.dmaFail_keep
    | with_reducible apply State.incf_keep
    | with_reducible apply State.sf_keep
    | rfl)

theorem execDmaChEnable_keep (requester channel prio : Nat) (s : State) : KeepOut 14283782774 s (execDmaChEnable requester channel prio s) := by
  unfold execDmaChEnable
  repeat' (first
    | with_reducible exact Keep.refl _
    | with_reducible assumption
    | (intro _)
    | with_reducible refine Keep.out ?_
    | with_reducible apply State.atIsland_keep
    | with_reducible apply State.writeDmaCfg_keep
    | rfl)

theorem execDmaChDisable_keep (requester channel prio : Nat) (s : State) : KeepOut 14283782774 s (execDmaChDisable requester channel prio s) := by
  unfold execDmaChDisable
  repeat' (first
    | with_reducible exact Keep.refl _
    | with_reducible assumption
    | (intro _)
    | with_reducible refine Keep.out ?_
    | with_reducible apply State.atIsland_keep
    | with_reducible apply State.writeDmaCfg_keep
    | rfl)

theorem execDmaRing_keep (requester channel : Nat) (s : State) : KeepOut 14283782774 s (execDmaRing requester channel s) := by
  unfold execDmaRing
  repeat' (first
    | with_reducible exact Keep.refl _
    | with_reducible assumption
    | (intro _)
    | with_reducible refine Keep.out ?_
    | with_reducible apply State.atIsland_keep
    | with_reducible apply State.writeDmaDoorbell_keep
    | rfl)

theorem execDmaTrig_keep (requester channel : Nat) (s : State) : KeepOut 14283782774 s (execDmaTrig requester channel s) := by
  unfold execDmaTrig
  repeat' (first
    | with_reducible exact Keep.refl _
    | with_reducible assumption
    | (intro _)
    | with_reducible refine Keep.out ?_
    | with_reducible apply State.atIsland_keep
    | with_reducible apply State.writeDmaDoorbell_keep
    | rfl)

theorem execDmaChSreset_keep (requester channel : Nat) (s : State) : KeepOut 14283782774 s (execDmaChSreset requester channel s) := by
  unfold execDmaChSreset
  repeat' (first
    | with_reducible exact Keep.refl _
    | with_reducible assumption
    | (intro _)
    | with_reducible refine Keep.out ?_
    | with_reducible apply State.atIsland_keep
    | with_reducible apply State.writeDmaDoorbell_keep
    | rfl)

theorem execDmaTriggerArrive_keep (s : State) : KeepOut 4313919508 s (execDmaTriggerArrive s) := by
  unfold execDmaTriggerArrive
  repeat' (first
    | with_reducible exact Keep.refl _
    | with_reducible refine Keep.out ?_
    | (fail_if_no_progress (extract_lets +onlyGivenNames x); first
        | clear_value x)
    | with_reducible apply State.dmaTrigger_keep
    | split
    | rfl
    | fail_if_no_progress (with_reducible refine Keep.set_tb (by decide) ?_))

theorem execDmaTriggerQueuePop_keep (channel : Nat) (s : State) : KeepOut 14250221174 s (execDmaTriggerQueuePop channel s) := by
  unfold execDmaTriggerQueuePop
  repeat' (first
    | with_reducible exact Keep.refl _
    | with_reducible refine Keep.out ?_
    | (fail_if_no_progress (extract_lets +onlyGivenNames x); first
        | clear_value x)
    | with_reducible apply State.popQueue_keep
    | with_reducible apply State.setDmaCh_keep
    | with_reducible apply State.dmaTrigger_keep
    | with_reducible refine Keep.ite ?_ ?_
    | split
    | with_reducible refine Keep.of_pair (by assumption) ?_
    | rfl)

theorem execDmaChLinksWrite_keep (requester channel : Nat) (value : Half) (s : State) : KeepOut 268435472 s (execDmaChLinksWrite requester channel value s) := by
  unfold execDmaChLinksWrite
  repeat' (first
    | with_reducible exact Keep.refl _
    | with_reducible assumption
    | (intro _)
    | with_reducible refine Keep.out ?_
    | with_reducible apply State.atIsland_keep
    | with_reducible apply State.writeDmaLinks_keep
    | rfl)

theorem execDmaDescriptorFetch_keep (channel : Nat) (s : State) : KeepOut 14283782774 s (execDmaDescriptorFetch channel s) := by
  unfold execDmaDescriptorFetch
  repeat' (first
    | with_reducible exact Keep.refl _
    | with_reducible assumption
    | with_reducible refine Keep.out ?_
    | (fail_if_no_progress (extract_lets +onlyGivenNames x); first
        | (with_reducible refine Keep.cut (t := x) ?_ ?_; (on_goal 1 => (unfold x; clear x)); (on_goal 2 => (intro hx; clear_value x)))
        | (with_reducible refine Keep.cut (t := x.2) ?_ ?_; (on_goal 1 => (unfold x; clear x)); (on_goal 2 => (intro hx; clear_value x)))
        | clear_value x)
    | with_reducible apply State.dmaUnread_keep
    | with_reducible apply State.countDenial_keep
    | with_reducible apply State.stallOn_keep
    | with_reducible apply State.readWords_keep
    | with_reducible apply State.setDmaCh_keep
    | with_reducible apply State.dmaComplete_keep
    | with_reducible apply State.setDstate_keep
    | with_reducible refine Keep.ite ?_ ?_
    | split
    | rfl)

theorem execDmaTriggerTake_keep (channel : Nat) (s : State) : KeepOut 14283782774 s (execDmaTriggerTake channel s) := by
  unfold execDmaTriggerTake
  repeat' (first
    | with_reducible exact Keep.refl _
    | with_reducible refine Keep.out ?_
    | (fail_if_no_progress (extract_lets +onlyGivenNames x); first
        | clear_value x)
    | with_reducible apply State.dmaComplete_keep
    | with_reducible apply State.setDmaCh_keep
    | with_reducible apply State.setDstate_keep
    | with_reducible refine Keep.ite ?_ ?_
    | split
    | rfl)

theorem execDmaBurst_keep (engine : Nat) (s : State) : KeepOut 14283783798 s (execDmaBurst engine s) := by
  unfold execDmaBurst
  repeat' (first
    | with_reducible exact Keep.refl _
    | with_reducible assumption
    | with_reducible refine Keep.out ?_
    | (fail_if_no_progress (extract_lets +onlyGivenNames x); first
        | (with_reducible refine Keep.cut (t := x) ?_ ?_; (on_goal 1 => (unfold x; clear x)); (on_goal 2 => (intro hx; clear_value x)))
        | clear_value x)
    | with_reducible apply State.dmaPush_keep
    | with_reducible apply State.dmaMove_keep
    | with_reducible refine Keep.ite ?_ ?_
    | split
    | rfl
    | fail_if_no_progress (with_reducible refine Keep.set_dma (by decide) ?_))

theorem execDmaDescriptorComplete_keep (channel : Nat) (s : State) : KeepOut 14283782774 s (execDmaDescriptorComplete channel s) := by
  unfold execDmaDescriptorComplete
  repeat' (first
    | with_reducible exact Keep.refl _
    | with_reducible refine Keep.out ?_
    | (fail_if_no_progress (extract_lets +onlyGivenNames x); first
        | clear_value x)
    | with_reducible apply State.stallOn_keep
    | with_reducible apply State.dmaComplete_keep
    | with_reducible refine Keep.ite ?_ ?_
    | split
    | rfl)

theorem execDmaLinkReread_keep (channel : Nat) (s : State) : KeepOut 14250220150 s (execDmaLinkReread channel s) := by
  unfold execDmaLinkReread
  repeat' (first
    | with_reducible exact Keep.refl _
    | with_reducible assumption
    | with_reducible refine Keep.out ?_
    | (fail_if_no_progress (extract_lets +onlyGivenNames x); first
        | (with_reducible refine Keep.cut (t := x) ?_ ?_; (on_goal 1 => (unfold x; clear x)); (on_goal 2 => (intro hx; clear_value x)))
        | clear_value x)
    | with_reducible apply State.dmaReadLink_keep
    | with_reducible apply State.setDmaCh_keep
    | with_reducible apply State.dmaFail_keep
    | with_reducible apply State.sf_keep
    | with_reducible apply State.dmaFetchAt_keep
    | with_reducible apply State.setDstate_keep
    | with_reducible refine Keep.ite ?_ ?_
    | split
    | rfl)

end Sys2Proof.Machine
end

