-- ==== Sys2Proof/Laws/KeepGusset.lean ====
section
/-!
SUPPORT. The parts of the state that the operations of Machine/Gusset.lean may write.
-/

namespace Sys2Proof.Machine

open Reg Ob

theorem State.retireGusset_keep {wr : Nat} {s₀ : State} (s : State) (n : Nat) (hk : Keep wr s₀ s) (hs : 4297315348 &&& wr = 4297315348) :
    Keep wr s₀ (State.retireGusset s n) := by
  refine Keep.app hk ?_ hs
  unfold State.retireGusset
  repeat' (first
    | with_reducible exact Keep.refl _
    | with_reducible assumption
    | (fail_if_no_progress (extract_lets +onlyGivenNames x); first
        | (with_reducible refine Keep.cut (t := x) ?_ ?_; (on_goal 1 => (unfold x; clear x)); (on_goal 2 => (intro hx; clear_value x))))
    | with_reducible apply State.setGus_keep
    | with_reducible apply State.resetEngine_keep
    | with_reducible apply State.raiseReason_keep
    | with_reducible apply State.sf_keep
    | with_reducible refine Keep.ite ?_ ?_
    | refine Keep.foldl ?_ (fun t x ht => ?_)
    | rfl)

theorem State.resetGusset_keep {wr : Nat} {s₀ : State} (s : State) (n reason : Nat) (hk : Keep wr s₀ s) (hs : 4297317396 &&& wr = 4297317396) :
    Keep wr s₀ (State.resetGusset s n reason) := by
  refine Keep.app hk ?_ hs
  unfold State.resetGusset
  repeat' (first
    | with_reducible exact Keep.refl _
    | with_reducible assumption
    | (fail_if_no_progress (extract_lets +onlyGivenNames x); first
        | (with_reducible refine Keep.cut (t := x) ?_ ?_; (on_goal 1 => (unfold x; clear x)); (on_goal 2 => (intro hx; clear_value x))))
    | with_reducible apply State.setLog_keep
    | with_reducible apply State.setGus_keep
    | with_reducible apply State.resetEngine_keep
    | with_reducible apply State.raiseReason_keep
    | with_reducible apply State.incf_keep
    | with_reducible apply State.sf_keep
    | with_reducible refine Keep.ite ?_ ?_
    | refine Keep.foldl ?_ (fun t x ht => ?_)
    | rfl)

theorem State.writeGusCtrl_keep {wr : Nat} {s₀ : State} (s : State) (u n v : Nat) (hk : Keep wr s₀ s) (hs : 4297317396 &&& wr = 4297317396) :
    Keep wr s₀ (State.writeGusCtrl s u n v) := by
  refine Keep.app hk ?_ hs
  unfold State.writeGusCtrl
  repeat' (first
    | with_reducible exact Keep.refl _
    | with_reducible assumption
    | (fail_if_no_progress (extract_lets +onlyGivenNames x); first
        | (with_reducible refine Keep.cut (t := x) ?_ ?_; (on_goal 1 => (unfold x; clear x)); (on_goal 2 => (intro hx; clear_value x))))
    | with_reducible apply State.sf_keep
    | with_reducible apply State.resetGusset_keep
    | with_reducible refine Keep.ite ?_ ?_
    | rfl)

theorem State.gussetBadRead_keep {wr : Nat} {s₀ : State} (s : State) (n : Nat) (uncorrectable : Bool) (hk : Keep wr s₀ s) (hs : 4297317398 &&& wr = 4297317398) :
    Keep wr s₀ (State.gussetBadRead s n uncorrectable) := by
  refine Keep.app hk ?_ hs
  unfold State.gussetBadRead
  repeat' (first
    | with_reducible exact Keep.refl _
    | with_reducible apply State.resetGusset_keep
    | with_reducible apply State.countUncorrectable_keep
    | with_reducible apply State.fresh_keep
    | with_reducible apply State.incf_keep
    | with_reducible refine Keep.ite ?_ ?_
    | rfl)

theorem State.gussetCorrected_keep {wr : Nat} {s₀ : State} (s : State) (n b : Nat) (op : GOp) (corrected : List Nat) (hk : Keep wr s₀ s) (hs : 4297136148 &&& wr = 4297136148) :
    Keep wr s₀ (State.gussetCorrected s n b op corrected) := by
  refine Keep.app hk ?_ hs
  unfold State.gussetCorrected
  repeat' (first
    | with_reducible exact Keep.refl _
    | with_reducible assumption
    | with_reducible apply State.darnNote_keep
    | with_reducible apply State.incf_keep
    | with_reducible apply State.countCorrection_keep
    | refine Keep.foldl ?_ (fun t x ht => ?_)
    | rfl)

theorem State.gussetPresent_keep {wr : Nat} {s₀ : State} (s : State) (g rnd : Nat) (op : GOp) (hk : Keep wr s₀ s) (hs : 49152 &&& wr = 49152) :
    Keep wr s₀ (State.gussetPresent s g rnd op) := by
  refine Keep.app hk ?_ hs
  unfold State.gussetPresent
  repeat' (first
    | with_reducible exact Keep.refl _
    | with_reducible assumption
    | (fail_if_no_progress (extract_lets +onlyGivenNames x); first
        | (with_reducible refine Keep.cut (t := x) ?_ ?_; (on_goal 1 => (unfold x; clear x)); (on_goal 2 => (intro hx; clear_value x)))
        | clear_value x)
    | with_reducible apply State.setGus_keep
    | with_reducible apply State.setEng_keep
    | rfl)

theorem State.gussetOp_keep {wr : Nat} {s₀ : State} (s : State) (g : Nat) (op : Engine → GOp) (hk : Keep wr s₀ s) (hs : 4297315348 &&& wr = 4297315348) :
    Keep wr s₀ (State.gussetOp s g op) := by
  refine Keep.app hk ?_ hs
  unfold State.gussetOp
  repeat' (first
    | with_reducible exact Keep.refl _
    | (intro _)
    | with_reducible apply State.gussetPresent_keep
    | with_reducible apply State.native_keep
    | with_reducible apply State.raiseSync_keep
    | with_reducible refine Keep.ite ?_ ?_
    | rfl)

theorem State.retireFused_rec {s₀ : State} (s : State) (g : Nat) (n0 : Nat) (hk : Keep 49152 s₀ s) :
    Keep 49152 s₀ (State.retireFused s g n0) := by
  induction n0 generalizing s g with
  | zero =>
    unfold State.retireFused
    repeat' (first
      | with_reducible assumption
      | (fail_if_no_progress (extract_lets +onlyGivenNames x); first
          | (with_reducible refine Keep.cut (t := x) ?_ ?_; (on_goal 1 => (unfold x; clear x)); (on_goal 2 => (intro hx; clear_value x)))
          | clear_value x)
      | with_reducible apply State.setEng_keep
      | with_reducible apply State.setGus_keep
      | with_reducible apply ih
      | with_reducible refine Keep.ite ?_ ?_
      | split
      | rfl)
  | succ n ih =>
    unfold State.retireFused
    repeat' (first
      | with_reducible assumption
      | (fail_if_no_progress (extract_lets +onlyGivenNames x); first
          | (with_reducible refine Keep.cut (t := x) ?_ ?_; (on_goal 1 => (unfold x; clear x)); (on_goal 2 => (intro hx; clear_value x)))
          | clear_value x)
      | with_reducible apply State.setEng_keep
      | with_reducible apply State.setGus_keep
      | with_reducible apply ih
      | with_reducible refine Keep.ite ?_ ?_
      | split
      | rfl)

theorem State.retireFused_keep {wr : Nat} {s₀ : State} (s : State) (g : Nat) (n0 : Nat) (hk : Keep wr s₀ s)
    (hs : 49152 &&& wr = 49152) : Keep wr s₀ (State.retireFused s g n0) :=
  Keep.app hk (State.retireFused_rec _ _ _ (Keep.refl _)) hs

theorem State.gussetTake_keep {wr : Nat} {s₀ : State} (s : State) (n b : Nat) (w : GWork) (hk : Keep wr s₀ s) (hs : 4297315348 &&& wr = 4297315348) :
    Keep wr s₀ (State.gussetTake s n b w) := by
  refine Keep.app hk ?_ hs
  unfold State.gussetTake
  repeat' (first
    | with_reducible exact Keep.refl _
    | with_reducible assumption
    | (fail_if_no_progress (extract_lets +onlyGivenNames x); first
        | (with_reducible refine Keep.cut (t := x) ?_ ?_; (on_goal 1 => (unfold x; clear x)); (on_goal 2 => (intro hx; clear_value x)))
        | clear_value x)
    | with_reducible apply State.incf_keep
    | with_reducible apply State.retire_keep
    | with_reducible apply State.setGus_keep
    | with_reducible apply State.takeAsync_keep
    | with_reducible apply State.retireFused_keep
    | with_reducible refine Keep.ite ?_ ?_
    | split
    | rfl)

theorem State.mbHeldEnters_keep {wr : Nat} {s₀ : State} (s : State) (n b : Nat) (hk : Keep wr s₀ s) (hs : 4297315348 &&& wr = 4297315348) :
    Keep wr s₀ (State.mbHeldEnters s n b) := by
  refine Keep.app hk ?_ hs
  unfold State.mbHeldEnters
  repeat' (first
    | with_reducible exact Keep.refl _
    | with_reducible assumption
    | (fail_if_no_progress (extract_lets +onlyGivenNames x); first
        | (with_reducible refine Keep.cut (t := x) ?_ ?_; (on_goal 1 => (unfold x; clear x)); (on_goal 2 => (intro hx; clear_value x)))
        | clear_value x)
    | with_reducible apply State.setGus_keep
    | with_reducible apply State.retire_keep
    | with_reducible refine Keep.ite ?_ ?_
    | split
    | rfl)

theorem execIGmovt_keep (engine : Nat) (qd : BitVec 4) (vs : BitVec 5) (row : BitVec 2) (s : State) : KeepOut 4297315348 s (execIGmovt engine qd vs row s) := by
  unfold execIGmovt
  repeat' (first
    | with_reducible exact Keep.refl _
    | with_reducible refine Keep.out ?_
    | with_reducible apply State.gussetOp_keep
    | rfl)

theorem execIGmovf_keep (engine : Nat) (vd : BitVec 5) (qs : BitVec 4) (row : BitVec 2) (s : State) : KeepOut 4297315348 s (execIGmovf engine vd qs row s) := by
  unfold execIGmovf
  repeat' (first
    | with_reducible exact Keep.refl _
    | with_reducible refine Keep.out ?_
    | with_reducible apply State.gussetOp_keep
    | rfl)

theorem execIGmul_keep (engine : Nat) (qd qa qb : BitVec 4) (s : State) : KeepOut 4297315348 s (execIGmul engine qd qa qb s) := by
  unfold execIGmul
  repeat' (first
    | with_reducible exact Keep.refl _
    | with_reducible refine Keep.out ?_
    | with_reducible apply State.gussetOp_keep
    | rfl)

theorem execIGmulh_keep (engine : Nat) (qd qa qb : BitVec 4) (s : State) : KeepOut 4297315348 s (execIGmulh engine qd qa qb s) := by
  unfold execIGmulh
  repeat' (first
    | with_reducible exact Keep.refl _
    | with_reducible refine Keep.out ?_
    | with_reducible apply State.gussetOp_keep
    | rfl)

theorem execIGmulbh_keep (engine : Nat) (qd qa qb : BitVec 4) (s : State) : KeepOut 4297315348 s (execIGmulbh engine qd qa qb s) := by
  unfold execIGmulbh
  repeat' (first
    | with_reducible exact Keep.refl _
    | with_reducible refine Keep.out ?_
    | with_reducible apply State.gussetOp_keep
    | rfl)

theorem execIGmac_keep (engine : Nat) (qd qa qb : BitVec 4) (s : State) : KeepOut 4297315348 s (execIGmac engine qd qa qb s) := by
  unfold execIGmac
  repeat' (first
    | with_reducible exact Keep.refl _
    | with_reducible refine Keep.out ?_
    | with_reducible apply State.gussetOp_keep
    | rfl)

theorem execIGmsu_keep (engine : Nat) (qd qa qb : BitVec 4) (s : State) : KeepOut 4297315348 s (execIGmsu engine qd qa qb s) := by
  unfold execIGmsu
  repeat' (first
    | with_reducible exact Keep.refl _
    | with_reducible refine Keep.out ?_
    | with_reducible apply State.gussetOp_keep
    | rfl)

theorem execIGadd_keep (engine : Nat) (qd qa qb : BitVec 4) (s : State) : KeepOut 4297315348 s (execIGadd engine qd qa qb s) := by
  unfold execIGadd
  repeat' (first
    | with_reducible exact Keep.refl _
    | with_reducible refine Keep.out ?_
    | with_reducible apply State.gussetOp_keep
    | rfl)

theorem execIGsub_keep (engine : Nat) (qd qa qb : BitVec 4) (s : State) : KeepOut 4297315348 s (execIGsub engine qd qa qb s) := by
  unfold execIGsub
  repeat' (first
    | with_reducible exact Keep.refl _
    | with_reducible refine Keep.out ?_
    | with_reducible apply State.gussetOp_keep
    | rfl)

theorem execIGherm_keep (engine : Nat) (qd qa : BitVec 4) (s : State) : KeepOut 4297315348 s (execIGherm engine qd qa s) := by
  unfold execIGherm
  repeat' (first
    | with_reducible exact Keep.refl _
    | with_reducible refine Keep.out ?_
    | with_reducible apply State.gussetOp_keep
    | rfl)

theorem execIGzero_keep (engine : Nat) (qd : BitVec 4) (s : State) : KeepOut 4297315348 s (execIGzero engine qd s) := by
  unfold execIGzero
  repeat' (first
    | with_reducible exact Keep.refl _
    | with_reducible refine Keep.out ?_
    | with_reducible apply State.gussetOp_keep
    | rfl)

theorem execIGshr_keep (engine : Nat) (qd qa count : BitVec 4) (s : State) : KeepOut 4297315348 s (execIGshr engine qd qa count s) := by
  unfold execIGshr
  repeat' (first
    | with_reducible exact Keep.refl _
    | with_reducible refine Keep.out ?_
    | with_reducible apply State.gussetOp_keep
    | rfl)

theorem execIGstat_keep (engine : Nat) (gd : BitVec 5) (s : State) : KeepOut 4297315348 s (execIGstat engine gd s) := by
  unfold execIGstat
  repeat' (first
    | with_reducible exact Keep.refl _
    | with_reducible refine Keep.out ?_
    | with_reducible apply State.gussetOp_keep
    | rfl)

theorem execGussetAccept_keep (gusset : Nat) (s : State) : KeepOut 4297315348 s (execGussetAccept gusset s) := by
  unfold execGussetAccept
  repeat' (first
    | with_reducible exact Keep.refl _
    | with_reducible refine Keep.out ?_
    | (fail_if_no_progress (extract_lets +onlyGivenNames x); first
        | clear_value x)
    | with_reducible apply State.gussetTake_keep
    | split
    | rfl)

theorem execGussetBegin_keep (gusset bank : Nat) (corrected : List Nat) (uncorrectable : Bool) (s : State) : KeepOut 4297317398 s (execGussetBegin gusset bank corrected uncorrectable s) := by
  unfold execGussetBegin
  repeat' (first
    | with_reducible exact Keep.refl _
    | with_reducible assumption
    | with_reducible refine Keep.out ?_
    | (fail_if_no_progress (extract_lets +onlyGivenNames x); first
        | (with_reducible refine Keep.cut (t := x) ?_ ?_; (on_goal 1 => (unfold x; clear x)); (on_goal 2 => (intro hx; clear_value x)))
        | clear_value x)
    | with_reducible apply State.gussetBadRead_keep
    | with_reducible apply State.gussetCorrected_keep
    | with_reducible apply State.setGus_keep
    | with_reducible refine Keep.ite ?_ ?_
    | split
    | rfl)

theorem execGussetCommit_keep (gusset : Nat) (work : BankWork) (s : State) : KeepOut 4297317396 s (execGussetCommit gusset work s) := by
  unfold execGussetCommit
  repeat' (first
    | with_reducible exact Keep.refl _
    | with_reducible assumption
    | with_reducible refine Keep.out ?_
    | (fail_if_no_progress (extract_lets +onlyGivenNames x); first
        | (with_reducible refine Keep.cut (t := x) ?_ ?_; (on_goal 1 => (unfold x; clear x)); (on_goal 2 => (intro hx; clear_value x)))
        | clear_value x)
    | with_reducible apply State.setGus_keep
    | with_reducible apply State.darnWrite_keep
    | with_reducible apply State.setEng_keep
    | with_reducible apply State.takeAsync_keep
    | with_reducible apply State.retireFused_keep
    | with_reducible apply State.mbHeldEnters_keep
    | split
    | refine Keep.foldl ?_ (fun t x ht => ?_)
    | rfl)

theorem execGussetSreset_keep (requester gusset : Nat) (control : Half) (s : State) : KeepOut 4565752852 s (execGussetSreset requester gusset control s) := by
  unfold execGussetSreset
  repeat' (first
    | with_reducible exact Keep.refl _
    | with_reducible assumption
    | (intro _)
    | with_reducible refine Keep.out ?_
    | with_reducible apply State.atIsland_keep
    | with_reducible apply State.writeGusCtrl_keep
    | rfl)

end Sys2Proof.Machine
end

