-- ==== Sys2Proof/Laws/KeepHem.lean ====
section
/-!
SUPPORT. The parts of the state that the operations of Machine/Hem.lean may write.
-/

namespace Sys2Proof.Machine

open Reg Ob

theorem AccRun.ringSample_keep {wr : Nat} {s₀ : State} (r : AccRun) (i t : Nat) (hk : Keep wr s₀ r.st) (hs : 13965007478 &&& wr = 13965007478) :
    Keep wr s₀ (AccRun.ringSample r i t).2.2.st := by
  refine Keep.app hk ?_ hs
  unfold AccRun.ringSample
  repeat' (first
    | with_reducible exact Keep.refl _
    | with_reducible apply AccRun.read_keep
    | split
    | rfl)

theorem State.hemEvent_keep {wr : Nat} {s₀ : State} (s : State) (h st reason : Nat) (hk : Keep wr s₀ s) (hs : 4297134100 &&& wr = 4297134100) :
    Keep wr s₀ (State.hemEvent s h st reason) := by
  refine Keep.app hk ?_ hs
  unfold State.hemEvent
  repeat' (first
    | with_reducible exact Keep.refl _
    | with_reducible apply State.raiseReason_keep
    | with_reducible apply State.sf_keep
    | rfl)

theorem State.discardRun_keep {wr : Nat} {s₀ : State} (s : State) (h st : Nat) (hk : Keep wr s₀ s) (hs : 4297134100 &&& wr = 4297134100) :
    Keep wr s₀ (State.discardRun s h st) := by
  refine Keep.app hk ?_ hs
  unfold State.discardRun
  repeat' (first
    | with_reducible exact Keep.refl _
    | with_reducible apply State.hemEvent_keep
    | with_reducible apply State.incf_keep
    | rfl)

theorem State.setStream_keep {wr : Nat} {s₀ : State} (s : State) (i : Nat) (x : HemStream) (hk : Keep wr s₀ s) (hs : 262144 &&& wr = 262144) :
    Keep wr s₀ (State.setStream s i x) := by
  refine Keep.app hk ?_ hs
  unfold State.setStream
  repeat' (first
    | with_reducible exact Keep.refl _
    | fail_if_no_progress (with_reducible refine Keep.set_hem (by decide) ?_))

theorem State.acceptRun_keep {wr : Nat} {s₀ : State} (s : State) (h : Nat) (e : Intake) (hk : Keep wr s₀ s) (hs : 4297396244 &&& wr = 4297396244) :
    Keep wr s₀ (State.acceptRun s h e) := by
  refine Keep.app hk ?_ hs
  unfold State.acceptRun
  repeat' (first
    | with_reducible exact Keep.refl _
    | (fail_if_no_progress (extract_lets +onlyGivenNames x); first
        | clear_value x)
    | with_reducible apply State.discardRun_keep
    | with_reducible apply State.setStream_keep
    | with_reducible refine Keep.ite ?_ ?_
    | rfl)

theorem State.clearStream_keep {wr : Nat} {s₀ : State} (s : State) (i t : Nat) (hk : Keep wr s₀ s) (hs : 262144 &&& wr = 262144) :
    Keep wr s₀ (State.clearStream s i t) := by
  refine Keep.app hk ?_ hs
  unfold State.clearStream
  repeat' (first
    | with_reducible exact Keep.refl _
    | (fail_if_no_progress (extract_lets +onlyGivenNames x); first
        | clear_value x)
    | with_reducible apply State.setStream_keep
    | rfl)

theorem State.resetHem_keep {wr : Nat} {s₀ : State} (s : State) (h : Nat) (hk : Keep wr s₀ s) (hs : 262160 &&& wr = 262160) :
    Keep wr s₀ (State.resetHem s h) := by
  refine Keep.app hk ?_ hs
  unfold State.resetHem
  repeat' (first
    | with_reducible exact Keep.refl _
    | with_reducible assumption
    | (fail_if_no_progress (extract_lets +onlyGivenNames x); first
        | clear_value x)
    | with_reducible apply State.clearf_keep
    | with_reducible apply State.clearStream_keep
    | with_reducible apply State.setStream_keep
    | refine Keep.foldl ?_ (fun t x ht => ?_)
    | rfl)

theorem State.hemSreset_keep {wr : Nat} {s₀ : State} (s : State) (u h v : Nat) (hk : Keep wr s₀ s) (hs : 393232 &&& wr = 393232) :
    Keep wr s₀ (State.hemSreset s u h v) := by
  refine Keep.app hk ?_ hs
  unfold State.hemSreset
  repeat' (first
    | with_reducible exact Keep.refl _
    | with_reducible assumption
    | (fail_if_no_progress (extract_lets +onlyGivenNames x); first
        | (with_reducible refine Keep.cut (t := x) ?_ ?_; (on_goal 1 => (unfold x; clear x)); (on_goal 2 => (intro hx; clear_value x))))
    | with_reducible apply State.reportJob_keep
    | with_reducible apply State.resetHem_keep
    | with_reducible refine Keep.ite ?_ ?_
    | split
    | rfl)

theorem State.quietStream_keep {wr : Nat} {s₀ : State} (s : State) (i : Nat) (hk : Keep wr s₀ s) (hs : 262160 &&& wr = 262160) :
    Keep wr s₀ (State.quietStream s i) := by
  refine Keep.app hk ?_ hs
  unfold State.quietStream
  repeat' (first
    | with_reducible exact Keep.refl _
    | with_reducible assumption
    | (fail_if_no_progress (extract_lets +onlyGivenNames x); first
        | (with_reducible refine Keep.cut (t := x) ?_ ?_; (on_goal 1 => (unfold x; clear x)); (on_goal 2 => (intro hx; clear_value x)))
        | clear_value x)
    | with_reducible apply State.sf_keep
    | with_reducible apply State.setStream_keep
    | split
    | rfl)

theorem State.writeScfg_keep {wr : Nat} {s₀ : State} (s : State) (u h st v : Nat) (hk : Keep wr s₀ s) (hs : 4297396244 &&& wr = 4297396244) :
    Keep wr s₀ (State.writeScfg s u h st v) := by
  refine Keep.app hk ?_ hs
  unfold State.writeScfg
  repeat' (first
    | with_reducible exact Keep.refl _
    | with_reducible assumption
    | (fail_if_no_progress (extract_lets +onlyGivenNames x); first
        | (with_reducible refine Keep.cut (t := x) ?_ ?_; (on_goal 1 => (unfold x; clear x)); (on_goal 2 => (intro hx; clear_value x)))
        | clear_value x)
    | with_reducible apply State.quietStream_keep
    | with_reducible apply State.sf_keep
    | with_reducible apply State.clearStream_keep
    | with_reducible apply State.hemEvent_keep
    | with_reducible refine Keep.ite ?_ ?_
    | rfl)

theorem State.writeSgain_keep {wr : Nat} {s₀ : State} (s : State) (u h st v : Nat) (hk : Keep wr s₀ s) (hs : 262160 &&& wr = 262160) :
    Keep wr s₀ (State.writeSgain s u h st v) := by
  refine Keep.app hk ?_ hs
  unfold State.writeSgain
  repeat' (first
    | with_reducible exact Keep.refl _
    | (fail_if_no_progress (extract_lets +onlyGivenNames x); first
        | clear_value x)
    | with_reducible apply State.setStream_keep
    | with_reducible apply State.sf_keep
    | with_reducible refine Keep.ite ?_ ?_
    | rfl)

theorem State.gainLoop_keep {wr : Nat} {s₀ : State} (s : State) (i g : Nat) (level : Int) (burst clipped : Bool) (hk : Keep wr s₀ s) (hs : 262160 &&& wr = 262160) :
    Keep wr s₀ (State.gainLoop s i g level burst clipped) := by
  refine Keep.app hk ?_ hs
  unfold State.gainLoop
  repeat' (first
    | with_reducible exact Keep.refl _
    | with_reducible assumption
    | (fail_if_no_progress (extract_lets +onlyGivenNames x); first
        | (with_reducible refine Keep.cut (t := x) ?_ ?_; (on_goal 1 => (unfold x; clear x)); (on_goal 2 => (intro hx; clear_value x)))
        | clear_value x)
    | with_reducible apply State.sf_keep
    | with_reducible apply State.setStream_keep
    | with_reducible refine Keep.ite ?_ ?_
    | split
    | rfl)

theorem State.endWindow_keep {wr : Nat} {s₀ : State} (s : State) (h st t : Nat) (w : WindowResult) (hk : Keep wr s₀ s) (hs : 263184 &&& wr = 263184) :
    Keep wr s₀ (State.endWindow s h st t w) := by
  refine Keep.app hk ?_ hs
  unfold State.endWindow
  repeat' (first
    | with_reducible exact Keep.refl _
    | (fail_if_no_progress (extract_lets +onlyGivenNames x); first
        | clear_value x)
    | with_reducible apply State.pushBytes_keep
    | with_reducible apply State.incf_keep
    | with_reducible apply State.gainLoop_keep
    | with_reducible apply State.setStream_keep
    | with_reducible refine Keep.ite ?_ ?_
    | rfl)

theorem State.hemRun_keep {wr : Nat} {s₀ : State} (s : State) (h typ : Nat) (body : Job → AccRun → AccRun) (hk : Keep wr s₀ s) (hs : 4565963796 &&& wr = 4565963796)
    (hb_body : ∀ j r, Keep wr s₀ r.st → Keep wr s₀ (body j r).st) :
    Keep wr s₀ (State.hemRun s h typ body) := by
  unfold State.hemRun
  repeat' (first
    | with_reducible assumption
    | (intro _)
    | (fail_if_no_progress (extract_lets +onlyGivenNames x); first
        | (with_reducible refine Keep.cut (t := x.st) ?_ ?_; (on_goal 1 => (unfold x; clear x)); (on_goal 2 => (intro hx; clear_value x))))
    | with_reducible apply hb_body
    | with_reducible apply AccRun.start_keep
    | with_reducible apply State.stallOn_keep
    | with_reducible apply AccRun.finish_keep
    | with_reducible apply State.hemEvent_keep
    | with_reducible apply State.resetHem_keep
    | split
    | exact Nat.sub_trans (by decide) hs)

theorem State.lostWindow_keep {wr : Nat} {s₀ : State} (s : State) (h st t : Nat) (poison : Bool) (hk : Keep wr s₀ s) (hs : 263186 &&& wr = 263186) :
    Keep wr s₀ (State.lostWindow s h st t poison) := by
  refine Keep.app hk ?_ hs
  unfold State.lostWindow
  repeat' (first
    | with_reducible exact Keep.refl _
    | with_reducible apply State.endWindow_keep
    | with_reducible apply State.fresh_keep
    | rfl)

theorem State.readSample_keep {wr : Nat} {s₀ : State} (s : State) (h p i t : Nat) (hk : Keep wr s₀ s) (hs : 13965007478 &&& wr = 13965007478) :
    Keep wr s₀ (State.readSample s h p i t).2 := by
  refine Keep.app hk ?_ hs
  unfold State.readSample
  repeat' (first
    | with_reducible exact Keep.refl _
    | (fail_if_no_progress (extract_lets +onlyGivenNames x); first
        | clear_value x)
    | with_reducible apply State.readBytes_keep
    | with_reducible apply State.countDenial_keep
    | with_reducible refine Keep.ite_snd ?_ ?_
    | split
    | with_reducible refine Keep.of_pair (by assumption) ?_
    | rfl)

theorem State.readSamples_keep {wr : Nat} {s₀ : State} (s : State) (h p i d t n : Nat) (hk : Keep wr s₀ s)
    (hs : 13965007478 &&& wr = 13965007478) : Keep wr s₀ (s.readSamples h p i d t n).2 := by
  induction n generalizing s t with
  | zero => exact hk
  | succ n ih => exact ih _ _ (State.readSample_keep _ _ _ _ _ hk hs)

theorem State.writeRow_keep {wr : Nat} {s₀ : State} (s : State) (h p a : Nat) (data : List Byte ⊕ Nat) (hk : Keep wr s₀ s) (hs : 13998561908 &&& wr = 13998561908) :
    Keep wr s₀ (State.writeRow s h p a data) := by
  refine Keep.app hk ?_ hs
  unfold State.writeRow
  repeat' (first
    | with_reducible exact Keep.refl _
    | (fail_if_no_progress (extract_lets +onlyGivenNames x); first
        | clear_value x)
    | with_reducible apply State.countDenial_keep
    | with_reducible apply State.writeBytes_keep
    | with_reducible apply State.writeWords_keep
    | with_reducible refine Keep.ite ?_ ?_
    | split
    | rfl)

theorem State.processWindow_keep {wr : Nat} {s₀ : State} (s : State) (h st p fft : Nat) (hk : Keep wr s₀ s) (hs : 13998825078 &&& wr = 13998825078) :
    Keep wr s₀ (State.processWindow s h st p fft) := by
  refine Keep.app hk ?_ hs
  unfold State.processWindow
  repeat' (first
    | with_reducible exact Keep.refl _
    | with_reducible assumption
    | (fail_if_no_progress (extract_lets +onlyGivenNames x); first
        | (with_reducible refine Keep.cut (t := x) ?_ ?_; (on_goal 1 => (unfold x; clear x)); (on_goal 2 => (intro hx; clear_value x)))
        | clear_value x)
    | with_reducible apply State.readSamples_keep
    | with_reducible apply State.writeRow_keep
    | with_reducible apply State.resetAcc_keep
    | with_reducible apply State.hemEvent_keep
    | with_reducible apply State.lostWindow_keep
    | with_reducible apply State.endWindow_keep
    | with_reducible refine Keep.ite ?_ ?_
    | rfl)

theorem State.writeRing_keep {wr : Nat} {s₀ : State} (s : State) (h p i pos : Nat) (data : List Byte) (hk : Keep wr s₀ s) (hs : 13998561908 &&& wr = 13998561908) :
    Keep wr s₀ (State.writeRing s h p i pos data) := by
  refine Keep.app hk ?_ hs
  unfold State.writeRing
  repeat' (first
    | with_reducible exact Keep.refl _
    | (fail_if_no_progress (extract_lets +onlyGivenNames x); first
        | clear_value x)
    | with_reducible apply State.writeRow_keep
    | rfl)

theorem State.transmit_keep {wr : Nat} {s₀ : State} (s : State) (h p fft : Nat) (e : Intake) (hk : Keep wr s₀ s) (hs : 13998562934 &&& wr = 13998562934) :
    Keep wr s₀ (State.transmit s h p fft e) := by
  refine Keep.app hk ?_ hs
  unfold State.transmit
  repeat' (first
    | with_reducible exact Keep.refl _
    | with_reducible assumption
    | (fail_if_no_progress (extract_lets +onlyGivenNames x); first
        | clear_value x)
    | with_reducible apply State.discardRun_keep
    | with_reducible apply State.readBytes_keep
    | with_reducible apply State.countDenial_keep
    | with_reducible apply State.writeRing_keep
    | with_reducible apply State.writeRow_keep
    | with_reducible apply State.resetAcc_keep
    | with_reducible apply State.hemEvent_keep
    | with_reducible apply State.pushBytes_keep
    | with_reducible refine Keep.ite ?_ ?_
    | with_reducible refine Keep.ite_snd ?_ ?_
    | split
    | refine Keep.foldl ?_ (fun t x ht => ?_)
    | with_reducible refine Keep.of_pair (by assumption) ?_
    | rfl)

theorem searchWindows_keep {wr : Nat} {s₀ : State} (j : Job) (len : Nat) (tseqNum tseqDen : Nat) (profile : Nat → Nat) (nu : Nat) (r : AccRun) (hk : Keep wr s₀ r.st) (hs : 13998561910 &&& wr = 13998561910) :
    Keep wr s₀ (searchWindows j len tseqNum tseqDen profile nu r).st := by
  refine Keep.app hk ?_ hs
  unfold searchWindows
  repeat' (first
    | with_reducible exact Keep.refl _
    | with_reducible assumption
    | (intro _)
    | (fail_if_no_progress (extract_lets +onlyGivenNames x); first
        | (with_reducible refine Keep.cut (t := x.st) ?_ ?_; (on_goal 1 => (unfold x; clear x)); (on_goal 2 => (intro hx; clear_value x)))
        | clear_value x)
    | with_reducible apply AccRun.each_keep
    | with_reducible apply AccRun.read_keep
    | with_reducible apply AccRun.require_keep
    | with_reducible apply AccRun.block_keep
    | with_reducible apply AccRun.write_keep
    | split
    | with_reducible refine Keep.of_pair_st (by assumption) ?_
    | rfl)

theorem detect_keep {wr : Nat} {s₀ : State} (j : Job) (len tseqNum tseqDen : Nat) (rows : List (List (Int × Int))) (ref : List (Int × Int)) (missing : Bool) (r : AccRun) (hk : Keep wr s₀ r.st) (hs : 13998561910 &&& wr = 13998561910) :
    Keep wr s₀ (detect j len tseqNum tseqDen rows ref missing r).st := by
  refine Keep.app hk ?_ hs
  unfold detect
  repeat' (first
    | with_reducible exact Keep.refl _
    | with_reducible assumption
    | (fail_if_no_progress (extract_lets +onlyGivenNames x); first
        | (with_reducible refine Keep.cut (t := x.st) ?_ ?_; (on_goal 1 => (unfold x; clear x)); (on_goal 2 => (intro hx; clear_value x)))
        | clear_value x)
    | with_reducible apply searchWindows_keep
    | rfl)

theorem prachDetect_keep {wr : Nat} {s₀ : State} (j : Job) (r : AccRun) (hk : Keep wr s₀ r.st) (hs : 13998561910 &&& wr = 13998561910) :
    Keep wr s₀ (prachDetect j r).st := by
  refine Keep.app hk ?_ hs
  unfold prachDetect
  repeat' (first
    | with_reducible exact Keep.refl _
    | with_reducible assumption
    | (fail_if_no_progress (extract_lets +onlyGivenNames x); first
        | (with_reducible refine Keep.cut (t := x.st) ?_ ?_; (on_goal 1 => (unfold x; clear x)); (on_goal 2 => (intro hx; clear_value x)))
        | (with_reducible refine Keep.cut (t := x.2.2.st) ?_ ?_; (on_goal 1 => (unfold x; clear x)); (on_goal 2 => (intro hx; clear_value x)))
        | clear_value x)
    | with_reducible apply AccRun.require_keep
    | with_reducible apply AccRun.ringSample_keep
    | with_reducible apply AccRun.read_keep
    | with_reducible apply detect_keep
    | split
    | refine Keep.foldl_triple_st ?_ (fun t x ht => ?_)
    | with_reducible refine Keep.of_pair_st (by assumption) ?_
    | rfl)

theorem execPrachDetect_keep (chain : Nat) (s : State) : KeepOut 14267391606 s (execPrachDetect chain s) := by
  unfold execPrachDetect
  repeat' (first
    | with_reducible exact Keep.refl _
    | with_reducible assumption
    | (intro _)
    | with_reducible refine Keep.out ?_
    | with_reducible apply State.hemRun_keep
    | with_reducible apply prachDetect_keep
    | rfl)

theorem seqDetect_keep {wr : Nat} {s₀ : State} (j : Job) (r : AccRun) (hk : Keep wr s₀ r.st) (hs : 13998561910 &&& wr = 13998561910) :
    Keep wr s₀ (seqDetect j r).st := by
  refine Keep.app hk ?_ hs
  unfold seqDetect
  repeat' (first
    | with_reducible exact Keep.refl _
    | with_reducible assumption
    | (fail_if_no_progress (extract_lets +onlyGivenNames x); first
        | (with_reducible refine Keep.cut (t := x.2.st) ?_ ?_; (on_goal 1 => (unfold x; clear x)); (on_goal 2 => (intro hx; clear_value x)))
        | clear_value x)
    | with_reducible apply AccRun.read_keep
    | with_reducible apply detect_keep
    | split
    | refine Keep.foldl_pair_st ?_ (fun t x ht => ?_)
    | with_reducible refine Keep.of_pair_st (by assumption) ?_
    | rfl)

theorem execSeqDetect_keep (chain : Nat) (s : State) : KeepOut 14267391606 s (execSeqDetect chain s) := by
  unfold execSeqDetect
  repeat' (first
    | with_reducible exact Keep.refl _
    | with_reducible assumption
    | (intro _)
    | with_reducible refine Keep.out ?_
    | with_reducible apply State.hemRun_keep
    | with_reducible apply seqDetect_keep
    | rfl)

theorem execHemIntakeEntry_keep (chain : Nat) (s : State) : KeepOut 14233706102 s (execHemIntakeEntry chain s) := by
  unfold execHemIntakeEntry
  repeat' (first
    | with_reducible exact Keep.refl _
    | with_reducible refine Keep.out ?_
    | with_reducible apply State.popQueue_keep
    | with_reducible apply State.acceptRun_keep
    | with_reducible refine Keep.ite ?_ ?_
    | split
    | with_reducible refine Keep.of_pair (by assumption) ?_
    | rfl)

theorem execHemWindowProcess_keep (chain stream fft : Nat) (s : State) : KeepOut 14267260534 s (execHemWindowProcess chain stream fft s) := by
  unfold execHemWindowProcess
  repeat' (first
    | with_reducible exact Keep.refl _
    | with_reducible refine Keep.out ?_
    | with_reducible apply State.stallOn_keep
    | with_reducible apply State.processWindow_keep
    | with_reducible refine Keep.ite ?_ ?_
    | split
    | rfl)

theorem execHemWindowMissing_keep (chain stream : Nat) (s : State) : KeepOut 14267260534 s (execHemWindowMissing chain stream s) := by
  unfold execHemWindowMissing
  repeat' (first
    | with_reducible exact Keep.refl _
    | with_reducible assumption
    | with_reducible refine Keep.out ?_
    | (fail_if_no_progress (extract_lets +onlyGivenNames x); first
        | (with_reducible refine Keep.cut (t := x) ?_ ?_; (on_goal 1 => (unfold x; clear x)); (on_goal 2 => (intro hx; clear_value x)))
        | clear_value x)
    | with_reducible apply State.stallOn_keep
    | with_reducible apply State.writeRow_keep
    | with_reducible apply State.hemEvent_keep
    | with_reducible apply State.incf_keep
    | with_reducible apply State.lostWindow_keep
    | with_reducible refine Keep.ite ?_ ?_
    | split
    | rfl)

theorem execHemTransmitRequest_keep (chain : Nat) (s : State) : KeepOut 14266998390 s (execHemTransmitRequest chain s) := by
  unfold execHemTransmitRequest
  repeat' (first
    | with_reducible exact Keep.refl _
    | with_reducible refine Keep.out ?_
    | (fail_if_no_progress (extract_lets +onlyGivenNames x); first
        | clear_value x)
    | with_reducible apply State.stallOn_keep
    | with_reducible apply State.popQueue_keep
    | with_reducible apply State.transmit_keep
    | with_reducible refine Keep.ite ?_ ?_
    | split
    | with_reducible refine Keep.of_pair (by assumption) ?_
    | rfl)

theorem execHemSgainWrite_keep (requester chain stream : Nat) (value : Half) (s : State) : KeepOut 268697616 s (execHemSgainWrite requester chain stream value s) := by
  unfold execHemSgainWrite
  repeat' (first
    | with_reducible exact Keep.refl _
    | with_reducible assumption
    | (intro _)
    | with_reducible refine Keep.out ?_
    | with_reducible apply State.atIsland_keep
    | with_reducible apply State.writeSgain_keep
    | rfl)

theorem execHemStreamEnable_keep (requester chain stream : Nat) (config : Half) (s : State) : KeepOut 4565831700 s (execHemStreamEnable requester chain stream config s) := by
  unfold execHemStreamEnable
  repeat' (first
    | with_reducible exact Keep.refl _
    | with_reducible assumption
    | (intro _)
    | with_reducible refine Keep.out ?_
    | with_reducible apply State.atIsland_keep
    | with_reducible apply State.writeScfg_keep
    | rfl)

theorem execHemStreamDisable_keep (requester chain stream : Nat) (config : Half) (s : State) : KeepOut 4565831700 s (execHemStreamDisable requester chain stream config s) := by
  unfold execHemStreamDisable
  repeat' (first
    | with_reducible exact Keep.refl _
    | with_reducible assumption
    | (intro _)
    | with_reducible refine Keep.out ?_
    | with_reducible apply State.atIsland_keep
    | with_reducible apply State.writeScfg_keep
    | rfl)

theorem execHemSreset_keep (requester chain : Nat) (control : Half) (s : State) : KeepOut 268828688 s (execHemSreset requester chain control s) := by
  unfold execHemSreset
  repeat' (first
    | with_reducible exact Keep.refl _
    | with_reducible assumption
    | (intro _)
    | with_reducible refine Keep.out ?_
    | with_reducible apply State.atIsland_keep
    | with_reducible apply State.hemSreset_keep
    | rfl)

end Sys2Proof.Machine
end

