-- ==== Sys2Proof/Laws/KeepQuilt.lean ====
section
/-!
SUPPORT. The parts of the state that the operations of Machine/Quilt.lean may write.
-/

namespace Sys2Proof.Machine

open Reg Ob

theorem poisonPatch_wf {p : Prop} {m : Memory} {n : Nat} (h : p → Memory.wf m = true) :
    p → Memory.wf (poisonPatch m n) = true :=
  Memory.poisonRange_wf h

theorem State.scrubEvent_keep {wr : Nat} {s₀ : State} (s : State) (reason : Nat) (hk : Keep wr s₀ s) (hs : 4297134100 &&& wr = 4297134100) :
    Keep wr s₀ (State.scrubEvent s reason) := by
  refine Keep.app hk ?_ hs
  unfold State.scrubEvent
  repeat' (first
    | with_reducible exact Keep.refl _
    | with_reducible apply State.raiseReason_keep
    | rfl)

theorem State.scrubFaulty_keep {wr : Nat} {s₀ : State} (s : State) (reason : Nat) (hk : Keep wr s₀ s) (hs : 14027919412 &&& wr = 14027919412) :
    Keep wr s₀ (State.scrubFaulty s reason) := by
  refine Keep.app hk ?_ hs
  unfold State.scrubFaulty
  repeat' (first
    | with_reducible exact Keep.refl _
    | with_reducible assumption
    | (fail_if_no_progress (extract_lets +onlyGivenNames x); first
        | (with_reducible refine Keep.cut (t := x) ?_ ?_; (on_goal 1 => (unfold x; clear x)); (on_goal 2 => (intro hx; clear_value x)))
        | clear_value x)
    | with_reducible apply State.sf_keep
    | with_reducible apply State.scrubEvent_keep
    | with_reducible apply State.so_keep
    | rfl
    | fail_if_no_progress (with_reducible refine Keep.set_scrub (by decide) ?_))

theorem State.vote_keep {wr : Nat} {s₀ : State} (s : State) (hk : Keep wr s₀ s) (hs : 14027919412 &&& wr = 14027919412) :
    Keep wr s₀ (State.vote s) := by
  refine Keep.app hk ?_ hs
  unfold State.vote
  repeat' (first
    | with_reducible exact Keep.refl _
    | with_reducible assumption
    | (intro _)
    | (fail_if_no_progress (extract_lets +onlyGivenNames x); first
        | (with_reducible refine Keep.cut (t := x) ?_ ?_; (on_goal 1 => (unfold x; clear x)); (on_goal 2 => (intro hx; clear_value x)))
        | (with_reducible refine Keep.cutF0 (f := x) ?_ ?_; (on_goal 1 => (unfold x; clear x)); (on_goal 2 => (intro hg; clear_value x)))
        | clear_value x)
    | with_reducible apply hg
    | with_reducible apply State.so_keep
    | with_reducible apply State.sf_keep
    | with_reducible apply State.scrubEvent_keep
    | with_reducible apply State.incf_keep
    | with_reducible apply State.scrubFaulty_keep
    | with_reducible refine Keep.ite ?_ ?_
    | rfl
    | fail_if_no_progress (with_reducible refine Keep.set_scrub (by decide) ?_))

theorem State.readFdro_keep {wr : Nat} {s₀ : State} (s : State) (n : Nat) (hk : Keep wr s₀ s) (hs : 33554432 &&& wr = 33554432) :
    Keep wr s₀ (State.readFdro s n).2 := by
  refine Keep.app hk ?_ hs
  unfold State.readFdro
  repeat' (first
    | with_reducible exact Keep.refl _
    | (fail_if_no_progress (extract_lets +onlyGivenNames x); first
        | clear_value x)
    | with_reducible apply State.setPatch_keep
    | rfl)

theorem State.clearPatch_keep {wr : Nat} {s₀ : State} (s : State) (n st : Nat) (hk : Keep wr s₀ s) (hs : 33554960 &&& wr = 33554960) :
    Keep wr s₀ (State.clearPatch s n st) := by
  refine Keep.app hk ?_ hs
  unfold State.clearPatch
  repeat' (first
    | with_reducible exact Keep.refl _
    | with_reducible assumption
    | with_reducible apply poisonPatch_wf
    | with_reducible exact id
    | (fail_if_no_progress (extract_lets +onlyGivenNames x); first
        | (with_reducible refine Keep.cut (t := x) ?_ ?_; (on_goal 1 => (unfold x; clear x)); (on_goal 2 => (intro hx; clear_value x)))
        | clear_value x)
    | with_reducible apply State.setPatch_keep
    | with_reducible apply State.sf_keep
    | with_reducible apply State.setQstate_keep
    | rfl
    | fail_if_no_progress (with_reducible refine Keep.set_mem (by decide) ?_ ?_))

theorem State.endPatchJob_keep {wr : Nat} {s₀ : State} (s : State) (n code : Nat) (hk : Keep wr s₀ s) (hs : 33685504 &&& wr = 33685504) :
    Keep wr s₀ (State.endPatchJob s n code) := by
  refine Keep.app hk ?_ hs
  unfold State.endPatchJob
  repeat' (first
    | with_reducible exact Keep.refl _
    | with_reducible assumption
    | (fail_if_no_progress (extract_lets +onlyGivenNames x); first
        | (with_reducible refine Keep.cut (t := x) ?_ ?_; (on_goal 1 => (unfold x; clear x)); (on_goal 2 => (intro hx; clear_value x)))
        | clear_value x)
    | with_reducible apply State.reportJob_keep
    | with_reducible apply State.setPatch_keep
    | with_reducible refine Keep.ite ?_ ?_
    | split
    | rfl)

theorem State.drivePins_keep {wr : Nat} {s₀ : State} (s old : State) (hk : Keep wr s₀ s)
    (hs : 4 &&& wr = 4) : Keep wr s₀ (s.drivePins old) := by
  unfold State.drivePins
  refine Keep.foldl hk (fun t x ht => ?_)
  split
  · split
    · exact ht
    · exact State.send_keep _ _ ht hs
  · exact ht

theorem State.isolate_keep {wr : Nat} {s₀ : State} (s : State) (n : Nat) (hk : Keep wr s₀ s) (hs : 33685508 &&& wr = 33685508) :
    Keep wr s₀ (State.isolate s n) := by
  refine Keep.app hk ?_ hs
  unfold State.isolate
  repeat' (first
    | with_reducible exact Keep.refl _
    | with_reducible assumption
    | (fail_if_no_progress (extract_lets +onlyGivenNames x); first
        | (with_reducible refine Keep.cut (t := x) ?_ ?_; (on_goal 1 => (unfold x; clear x)); (on_goal 2 => (intro hx; clear_value x)))
        | clear_value x)
    | with_reducible apply State.endPatchJob_keep
    | with_reducible apply State.drivePins_keep
    | with_reducible apply State.setPatch_keep
    | rfl)

theorem State.setScrub_keep {wr : Nat} {s₀ : State} (s : State) (enable us : Nat) (hk : Keep wr s₀ s) (hs : 9730785328 &&& wr = 9730785328) :
    Keep wr s₀ (State.setScrub s enable us) := by
  refine Keep.app hk ?_ hs
  unfold State.setScrub
  repeat' (first
    | with_reducible exact Keep.refl _
    | with_reducible assumption
    | (fail_if_no_progress (extract_lets +onlyGivenNames x); first
        | (with_reducible refine Keep.cut (t := x) ?_ ?_; (on_goal 1 => (unfold x; clear x)); (on_goal 2 => (intro hx; clear_value x)))
        | clear_value x)
    | with_reducible apply State.so_keep
    | with_reducible apply State.sf_keep
    | rfl
    | fail_if_no_progress (with_reducible refine Keep.set_scrub (by decide) ?_))

theorem State.patchEvent_keep {wr : Nat} {s₀ : State} (s : State) (n reason : Nat) (hk : Keep wr s₀ s) (hs : 4297134100 &&& wr = 4297134100) :
    Keep wr s₀ (State.patchEvent s n reason) := by
  refine Keep.app hk ?_ hs
  unfold State.patchEvent
  repeat' (first
    | with_reducible exact Keep.refl _
    | with_reducible apply State.raiseReason_keep
    | rfl)

theorem State.retirePatch_keep {wr : Nat} {s₀ : State} (s : State) (n : Nat) (hk : Keep wr s₀ s) (hs : 4330819604 &&& wr = 4330819604) :
    Keep wr s₀ (State.retirePatch s n) := by
  refine Keep.app hk ?_ hs
  unfold State.retirePatch
  repeat' (first
    | with_reducible exact Keep.refl _
    | with_reducible assumption
    | (fail_if_no_progress (extract_lets +onlyGivenNames x); first
        | (with_reducible refine Keep.cut (t := x) ?_ ?_; (on_goal 1 => (unfold x; clear x)); (on_goal 2 => (intro hx; clear_value x)))
        | clear_value x)
    | with_reducible apply State.setQstate_keep
    | with_reducible apply State.isolate_keep
    | with_reducible apply State.patchEvent_keep
    | with_reducible apply State.sf_keep
    | with_reducible apply State.advanceEpoch_keep
    | rfl)

theorem State.restoreScrub_keep {wr : Nat} {s₀ : State} (s : State) (hk : Keep wr s₀ s) (hs : 9730785328 &&& wr = 9730785328) :
    Keep wr s₀ (State.restoreScrub s) := by
  refine Keep.app hk ?_ hs
  unfold State.restoreScrub
  repeat' (first
    | with_reducible exact Keep.refl _
    | with_reducible apply State.setScrub_keep
    | rfl)

theorem State.stopPatch_keep {wr : Nat} {s₀ : State} (s : State) (n : Nat) (hk : Keep wr s₀ s) (hs : 33685524 &&& wr = 33685524) :
    Keep wr s₀ (State.stopPatch s n) := by
  refine Keep.app hk ?_ hs
  unfold State.stopPatch
  repeat' (first
    | with_reducible exact Keep.refl _
    | with_reducible apply State.setQstate_keep
    | with_reducible apply State.isolate_keep
    | rfl)

theorem State.readFrame_keep {wr : Nat} {s₀ : State} (s : State) (n : Nat) (hk : Keep wr s₀ s) (hs : 33554432 &&& wr = 33554432) :
    Keep wr s₀ (State.readFrame s n) := by
  refine Keep.app hk ?_ hs
  unfold State.readFrame
  repeat' (first
    | with_reducible exact Keep.refl _
    | (fail_if_no_progress (extract_lets +onlyGivenNames x); first
        | clear_value x)
    | with_reducible apply State.setPatch_keep
    | rfl)

theorem State.resetPatch_keep {wr : Nat} {s₀ : State} (s : State) (n : Nat) (hk : Keep wr s₀ s) (hs : 4330819604 &&& wr = 4330819604) :
    Keep wr s₀ (State.resetPatch s n) := by
  refine Keep.app hk ?_ hs
  unfold State.resetPatch
  repeat' (first
    | with_reducible exact Keep.refl _
    | with_reducible apply State.patchEvent_keep
    | with_reducible apply State.incf_keep
    | with_reducible apply State.setQstate_keep
    | with_reducible apply State.isolate_keep
    | rfl)

/-- What a stream command leaves, where it answers a state. -/
def KeepExcept (w : Nat) (s : State) : Except Nat State → Prop
  | .ok t => Keep w s t
  | .error _ => True

theorem KeepExcept.error {w : Nat} {s : State} (e : Nat) : KeepExcept w s (.error e) := trivial

theorem KeepExcept.ok {w : Nat} {s t : State} (h : Keep w s t) : KeepExcept w s (.ok t) := h

theorem State.patchCommand_keepExcept (s : State) (r n op : Nat) : KeepExcept 4330820116 s (s.patchCommand r n op) := by
  unfold State.patchCommand
  extract_lets st fw
  clear_value st fw
  repeat' (first
    | with_reducible exact KeepExcept.error _
    | with_reducible refine KeepExcept.ok ?_
    | with_reducible exact Keep.refl _
    | with_reducible apply State.clearPatch_keep
    | with_reducible apply State.setQstate_keep
    | with_reducible apply State.stopPatch_keep
    | with_reducible apply State.readFrame_keep
    | with_reducible apply State.resetPatch_keep
    | with_reducible apply State.sf_keep
    | split
    | rfl)

theorem State.patchCommand_keep {wr : Nat} {s₀ : State} (s : State) (r n op : Nat) {t : State}
    (h : s.patchCommand r n op = .ok t) (hk : Keep wr s₀ s) (hs : 4330820116 &&& wr = 4330820116) : Keep wr s₀ t := by
  have k := s.patchCommand_keepExcept r n op
  rw [h] at k
  exact Keep.app hk k hs

theorem State.writeQpCmd_keep {wr : Nat} {s₀ : State} (s : State) (r n v : Nat) (hk : Keep wr s₀ s) (hs : 4330820116 &&& wr = 4330820116) :
    Keep wr s₀ (State.writeQpCmd s r n v) := by
  refine Keep.app hk ?_ hs
  unfold State.writeQpCmd
  repeat' (first
    | with_reducible exact Keep.refl _
    | (fail_if_no_progress (extract_lets +onlyGivenNames x); first
        | clear_value x)
    | with_reducible apply State.sf_keep
    | with_reducible apply State.patchEvent_keep
    | with_reducible refine Keep.ite ?_ ?_
    | split
    | exact State.patchCommand_keep _ _ _ _ ‹_› (State.sf_keep _ _ _ _ (Keep.refl _) (by decide)) (by decide)
    | rfl)

theorem State.writeEndpoint_keep {wr : Nat} {s₀ : State} (s : State) (r n j v : Nat) (out : Bool) (hk : Keep wr s₀ s) (hs : 4297134100 &&& wr = 4297134100) :
    Keep wr s₀ (State.writeEndpoint s r n j v out) := by
  refine Keep.app hk ?_ hs
  unfold State.writeEndpoint
  repeat' (first
    | with_reducible exact Keep.refl _
    | (fail_if_no_progress (extract_lets +onlyGivenNames x); first
        | clear_value x)
    | with_reducible apply State.patchEvent_keep
    | with_reducible apply State.sf_keep
    | with_reducible refine Keep.ite ?_ ?_
    | rfl)

theorem State.streamFail_keep {wr : Nat} {s₀ : State} (s : State) (n : Nat) (hk : Keep wr s₀ s) (hs : 4330688532 &&& wr = 4330688532) :
    Keep wr s₀ (State.streamFail s n) := by
  refine Keep.app hk ?_ hs
  unfold State.streamFail
  repeat' (first
    | with_reducible exact Keep.refl _
    | (fail_if_no_progress (extract_lets +onlyGivenNames x); first
        | clear_value x)
    | with_reducible apply State.patchEvent_keep
    | with_reducible apply State.setQstate_keep
    | with_reducible apply State.setPatch_keep
    | rfl)

theorem State.tamperStreams_keep {wr : Nat} {s₀ : State} (s : State) (hk : Keep wr s₀ s) (hs : 4330688532 &&& wr = 4330688532) :
    Keep wr s₀ (State.tamperStreams s) := by
  refine Keep.app hk ?_ hs
  unfold State.tamperStreams
  repeat' (first
    | with_reducible exact Keep.refl _
    | with_reducible assumption
    | with_reducible apply State.streamFail_keep
    | with_reducible refine Keep.ite ?_ ?_
    | refine Keep.foldl ?_ (fun t x ht => ?_)
    | rfl)

theorem State.faultPatch_keep {wr : Nat} {s₀ : State} (s : State) (n : Nat) (hk : Keep wr s₀ s) (hs : 4330819604 &&& wr = 4330819604) :
    Keep wr s₀ (State.faultPatch s n) := by
  refine Keep.app hk ?_ hs
  unfold State.faultPatch
  repeat' (first
    | with_reducible exact Keep.refl _
    | with_reducible apply State.patchEvent_keep
    | with_reducible apply State.setQstate_keep
    | with_reducible apply State.isolate_keep
    | rfl)

theorem State.stopPatches_keep {wr : Nat} {s₀ : State} (s : State) (p : Nat) (hk : Keep wr s₀ s) (hs : 33686036 &&& wr = 33686036) :
    Keep wr s₀ (State.stopPatches s p) := by
  refine Keep.app hk ?_ hs
  unfold State.stopPatches
  repeat' (first
    | with_reducible exact Keep.refl _
    | with_reducible assumption
    | with_reducible apply State.stopPatch_keep
    | with_reducible apply State.clearPatch_keep
    | with_reducible refine Keep.ite ?_ ?_
    | refine Keep.foldl ?_ (fun t x ht => ?_)
    | rfl)

theorem State.streamEnd_keep {wr : Nat} {s₀ : State} (s : State) (n : Nat) (w : Nat) (hk : Keep wr s₀ s) (hs : 9663676464 &&& wr = 9663676464) :
    Keep wr s₀ (State.streamEnd s n w) := by
  refine Keep.app hk ?_ hs
  unfold State.streamEnd
  repeat' (first
    | with_reducible exact Keep.refl _
    | with_reducible assumption
    | (fail_if_no_progress (extract_lets +onlyGivenNames x); first
        | (with_reducible refine Keep.cut (t := x) ?_ ?_; (on_goal 1 => (unfold x; clear x)); (on_goal 2 => (intro hx; clear_value x)))
        | clear_value x)
    | with_reducible apply State.sf_keep
    | with_reducible apply State.setQstate_keep
    | with_reducible apply State.so_keep
    | refine Keep.foldl ?_ (fun t x ht => ?_)
    | rfl)

theorem State.streamCommand_keep {wr : Nat} {s₀ : State} (s : State) (n : Nat) (x : Patch) (w : Nat) (hk : Keep wr s₀ s) (hs : 13994364980 &&& wr = 13994364980) :
    Keep wr s₀ (State.streamCommand s n x w) := by
  refine Keep.app hk ?_ hs
  unfold State.streamCommand
  repeat' (first
    | with_reducible exact Keep.refl _
    | (intro _)
    | (fail_if_no_progress (extract_lets +onlyGivenNames x); first
        | (with_reducible refine Keep.cutF0 (f := x) ?_ ?_; (on_goal 1 => (unfold x; clear x)); (on_goal 2 => (intro hg; clear_value x)))
        | clear_value x)
    | with_reducible apply hg
    | with_reducible apply State.setPatch_keep
    | with_reducible apply State.streamFail_keep
    | with_reducible apply State.streamEnd_keep
    | with_reducible refine Keep.ite ?_ ?_
    | split
    | rfl)

theorem State.streamStep_keep {wr : Nat} {s₀ : State} (s : State) (n : Nat) (x : Patch) (w : Word) (hk : Keep wr s₀ s) (hs : 13994367540 &&& wr = 13994367540) :
    Keep wr s₀ (State.streamStep s n x w) := by
  refine Keep.app hk ?_ hs
  unfold State.streamStep
  repeat' (first
    | with_reducible exact Keep.refl _
    | with_reducible assumption
    | (fail_if_no_progress (extract_lets +onlyGivenNames x); first
        | (with_reducible refine Keep.cut (t := x) ?_ ?_; (on_goal 1 => (unfold x; clear x)); (on_goal 2 => (intro hx; clear_value x)))
        | clear_value x)
    | with_reducible apply State.setPatch_keep
    | with_reducible apply State.streamFail_keep
    | with_reducible apply State.streamCommand_keep
    | with_reducible apply State.writeCell_keep
    | with_reducible apply State.sf_keep
    | with_reducible refine Keep.ite ?_ ?_
    | split
    | rfl)

theorem State.streamTake_keep {wr : Nat} {s₀ : State} (s : State) (n : Nat) (hk : Keep wr s₀ s) (hs : 13994367540 &&& wr = 13994367540) :
    Keep wr s₀ (State.streamTake s n) := by
  refine Keep.app hk ?_ hs
  unfold State.streamTake
  repeat' (first
    | with_reducible exact Keep.refl _
    | with_reducible assumption
    | (fail_if_no_progress (extract_lets +onlyGivenNames x); first
        | (with_reducible refine Keep.cut (t := x) ?_ ?_; (on_goal 1 => (unfold x; clear x)); (on_goal 2 => (intro hx; clear_value x)))
        | clear_value x)
    | with_reducible apply State.setPatch_keep
    | with_reducible apply State.streamFail_keep
    | with_reducible apply State.streamStep_keep
    | with_reducible refine Keep.ite ?_ ?_
    | split
    | rfl)

theorem State.startPatches_keep {wr : Nat} {s₀ : State} (s : State) (p : Nat) (hk : Keep wr s₀ s) (hs : 16 &&& wr = 16) :
    Keep wr s₀ (State.startPatches s p) := by
  refine Keep.app hk ?_ hs
  unfold State.startPatches
  repeat' (first
    | with_reducible exact Keep.refl _
    | with_reducible assumption
    | with_reducible apply State.setQstate_keep
    | with_reducible refine Keep.ite ?_ ?_
    | refine Keep.foldl ?_ (fun t x ht => ?_)
    | rfl)

theorem State.retained_keep {wr : Nat} {s₀ : State} (s : State) (n off : Nat) (hk : Keep wr s₀ s) (hs : 13965007478 &&& wr = 13965007478) :
    Keep wr s₀ (State.retained s n off).2 := by
  refine Keep.app hk ?_ hs
  unfold State.retained
  repeat' (first
    | with_reducible exact Keep.refl _
    | with_reducible assumption
    | (fail_if_no_progress (extract_lets +onlyGivenNames x); first
        | (with_reducible refine Keep.cut (t := x.2) ?_ ?_; (on_goal 1 => (unfold x; clear x)); (on_goal 2 => (intro hx; clear_value x)))
        | clear_value x)
    | with_reducible apply State.readWords_keep
    | with_reducible refine Keep.ite_snd ?_ ?_
    | split
    | rfl)

theorem State.repairFrame_keep {wr : Nat} {s₀ : State} (s : State) (n f : Nat) (hk : Keep wr s₀ s) (hs : 13998692982 &&& wr = 13998692982) :
    Keep wr s₀ (State.repairFrame s n f) := by
  refine Keep.app hk ?_ hs
  unfold State.repairFrame
  repeat' (first
    | with_reducible exact Keep.refl _
    | with_reducible assumption
    | (intro _)
    | (fail_if_no_progress (extract_lets +onlyGivenNames x); first
        | (with_reducible refine Keep.cutF2 (f := x) ?_ ?_; (on_goal 1 => (unfold x; clear x)); (on_goal 2 => (intro hg; clear_value x))))
    | with_reducible apply hg
    | with_reducible apply State.patchEvent_keep
    | with_reducible apply State.incf_keep
    | with_reducible apply State.setPatch_keep
    | with_reducible apply State.retained_keep
    | with_reducible apply State.faultPatch_keep
    | with_reducible refine Keep.ite ?_ ?_
    | split
    | with_reducible refine Keep.of_pair (by assumption) ?_
    | rfl)

theorem State.scrubFrame_keep {wr : Nat} {s₀ : State} (s : State) (n f : Nat) (upsets : List (BitVec 80)) (lost : Bool) (hk : Keep wr s₀ s) (hs : 13998692982 &&& wr = 13998692982) :
    Keep wr s₀ (State.scrubFrame s n f upsets lost) := by
  refine Keep.app hk ?_ hs
  unfold State.scrubFrame
  repeat' (first
    | with_reducible exact Keep.refl _
    | with_reducible assumption
    | (fail_if_no_progress (extract_lets +onlyGivenNames x); first
        | (with_reducible refine Keep.cut (t := x) ?_ ?_; (on_goal 1 => (unfold x; clear x)); (on_goal 2 => (intro hx; clear_value x)))
        | clear_value x)
    | with_reducible apply State.incf_keep
    | with_reducible apply State.setPatch_keep
    | with_reducible apply State.patchEvent_keep
    | with_reducible apply State.sf_keep
    | with_reducible apply State.faultPatch_keep
    | with_reducible apply State.repairFrame_keep
    | with_reducible refine Keep.ite ?_ ?_
    | rfl)

theorem State.testSentinel_keep {wr : Nat} {s₀ : State} (s : State) (k n : Nat) (hk : Keep wr s₀ s) (hs : 33554432 &&& wr = 33554432) :
    Keep wr s₀ (State.testSentinel s k n) := by
  refine Keep.app hk ?_ hs
  unfold State.testSentinel
  repeat' (first
    | with_reducible exact Keep.refl _
    | (fail_if_no_progress (extract_lets +onlyGivenNames x); first
        | clear_value x)
    | with_reducible apply State.setPatch_keep
    | rfl)

theorem State.upsetCopies_keep {wr : Nat} {s₀ : State} (s : State) (u : List (Nat × Nat)) (hk : Keep wr s₀ s) (hs : 67108864 &&& wr = 67108864) :
    Keep wr s₀ (State.upsetCopies s u) := by
  refine Keep.app hk ?_ hs
  unfold State.upsetCopies
  repeat' (first
    | with_reducible exact Keep.refl _
    | (fail_if_no_progress (extract_lets +onlyGivenNames x); first
        | clear_value x)
    | fail_if_no_progress (with_reducible refine Keep.set_scrub (by decide) ?_))

theorem execPatchJob_keep (patch : Nat) (s : State) : KeepOut 33554452 s (execPatchJob patch s) := by
  unfold execPatchJob
  repeat' (first
    | with_reducible exact Keep.refl _
    | with_reducible refine Keep.out ?_
    | (fail_if_no_progress (extract_lets +onlyGivenNames x); first
        | clear_value x)
    | with_reducible apply State.send_keep
    | with_reducible apply State.incf_keep
    | with_reducible apply State.setPatch_keep
    | with_reducible refine Keep.ite ?_ ?_
    | split
    | rfl)

theorem execPatchJobEnd_keep (patch code : Nat) (result : Half) (ext : Word) (outputs : List (List Word)) (s : State) : KeepOut 35783680 s (execPatchJobEnd patch code result ext outputs s) := by
  unfold execPatchJobEnd
  repeat' (first
    | with_reducible exact Keep.refl _
    | with_reducible assumption
    | with_reducible refine Keep.out ?_
    | (fail_if_no_progress (extract_lets +onlyGivenNames x); first
        | (with_reducible refine Keep.cut (t := x) ?_ ?_; (on_goal 1 => (unfold x; clear x)); (on_goal 2 => (intro hx; clear_value x)))
        | clear_value x)
    | with_reducible apply State.jobPush_keep
    | with_reducible apply State.setPatch_keep
    | with_reducible apply State.reportJob_keep
    | with_reducible refine Keep.ite ?_ ?_
    | split
    | refine Keep.foldl ?_ (fun t x ht => ?_)
    | rfl)

theorem execPatchJobLateTimeout_keep (patch : Nat) (s : State) : KeepOut 33685504 s (execPatchJobLateTimeout patch s) := by
  unfold execPatchJobLateTimeout
  repeat' (first
    | with_reducible exact Keep.refl _
    | with_reducible refine Keep.out ?_
    | with_reducible apply State.endPatchJob_keep
    | with_reducible refine Keep.ite ?_ ?_
    | split
    | rfl)

theorem execQuiltBegin_keep (requester patch : Nat) (s : State) : KeepOut 4599255572 s (execQuiltBegin requester patch s) := by
  unfold execQuiltBegin
  repeat' (first
    | with_reducible exact Keep.refl _
    | with_reducible assumption
    | (intro _)
    | with_reducible refine Keep.out ?_
    | with_reducible apply State.atIsland_keep
    | with_reducible apply State.writeQpCmd_keep
    | rfl)

theorem execQuiltStart_keep (requester patch : Nat) (s : State) : KeepOut 4599255572 s (execQuiltStart requester patch s) := by
  unfold execQuiltStart
  repeat' (first
    | with_reducible exact Keep.refl _
    | with_reducible assumption
    | (intro _)
    | with_reducible refine Keep.out ?_
    | with_reducible apply State.atIsland_keep
    | with_reducible apply State.writeQpCmd_keep
    | rfl)

theorem execQuiltStop_keep (requester patch : Nat) (s : State) : KeepOut 4599255572 s (execQuiltStop requester patch s) := by
  unfold execQuiltStop
  repeat' (first
    | with_reducible exact Keep.refl _
    | with_reducible assumption
    | (intro _)
    | with_reducible refine Keep.out ?_
    | with_reducible apply State.atIsland_keep
    | with_reducible apply State.writeQpCmd_keep
    | rfl)

theorem execQuiltAbort_keep (requester patch : Nat) (s : State) : KeepOut 4599255572 s (execQuiltAbort requester patch s) := by
  unfold execQuiltAbort
  repeat' (first
    | with_reducible exact Keep.refl _
    | with_reducible assumption
    | (intro _)
    | with_reducible refine Keep.out ?_
    | with_reducible apply State.atIsland_keep
    | with_reducible apply State.writeQpCmd_keep
    | rfl)

theorem execQuiltReadFrame_keep (requester patch : Nat) (s : State) : KeepOut 4599255572 s (execQuiltReadFrame requester patch s) := by
  unfold execQuiltReadFrame
  repeat' (first
    | with_reducible exact Keep.refl _
    | with_reducible assumption
    | (intro _)
    | with_reducible refine Keep.out ?_
    | with_reducible apply State.atIsland_keep
    | with_reducible apply State.writeQpCmd_keep
    | rfl)

theorem execQuiltReset_keep (requester patch : Nat) (s : State) : KeepOut 4599255572 s (execQuiltReset requester patch s) := by
  unfold execQuiltReset
  repeat' (first
    | with_reducible exact Keep.refl _
    | with_reducible assumption
    | (intro _)
    | with_reducible refine Keep.out ?_
    | with_reducible apply State.atIsland_keep
    | with_reducible apply State.writeQpCmd_keep
    | rfl)

theorem execQuiltAuthorize_keep (requester patch : Nat) (s : State) : KeepOut 4599255572 s (execQuiltAuthorize requester patch s) := by
  unfold execQuiltAuthorize
  repeat' (first
    | with_reducible exact Keep.refl _
    | with_reducible assumption
    | (intro _)
    | with_reducible refine Keep.out ?_
    | with_reducible apply State.atIsland_keep
    | with_reducible apply State.writeQpCmd_keep
    | rfl)

theorem execQuiltStreamWord_keep (patch : Nat) (s : State) : KeepOut 13994367540 s (execQuiltStreamWord patch s) := by
  unfold execQuiltStreamWord
  repeat' (first
    | with_reducible exact Keep.refl _
    | with_reducible refine Keep.out ?_
    | with_reducible apply State.streamTake_keep
    | rfl)

theorem execQpFdroRead_keep (requester patch : Nat) (s : State) : KeepOut 301989892 s (execQpFdroRead requester patch s) := by
  unfold execQpFdroRead
  repeat' (first
    | with_reducible exact Keep.refl _
    | with_reducible assumption
    | (intro _)
    | with_reducible refine Keep.out ?_
    | (fail_if_no_progress (extract_lets +onlyGivenNames x); first
        | (with_reducible refine Keep.cut (t := x.2) ?_ ?_; (on_goal 1 => (unfold x; clear x)); (on_goal 2 => (intro hx; clear_value x))))
    | with_reducible apply State.atIsland_keep
    | with_reducible apply State.readFdro_keep
    | with_reducible apply State.send_keep
    | rfl)

theorem execQpEndpointBind_keep (requester patch endpoint : Nat) (out : Bool) (value : Half) (s : State) : KeepOut 4565569556 s (execQpEndpointBind requester patch endpoint out value s) := by
  unfold execQpEndpointBind
  repeat' (first
    | with_reducible exact Keep.refl _
    | with_reducible assumption
    | (intro _)
    | with_reducible refine Keep.out ?_
    | with_reducible apply State.atIsland_keep
    | with_reducible apply State.writeEndpoint_keep
    | with_reducible refine Keep.ite ?_ ?_
    | rfl)

theorem execQuiltUserEvent_keep (patch output : Nat) (level : Bool) (s : State) : KeepOut 4330688532 s (execQuiltUserEvent patch output level s) := by
  unfold execQuiltUserEvent
  repeat' (first
    | with_reducible exact Keep.refl _
    | with_reducible assumption
    | with_reducible refine Keep.out ?_
    | (fail_if_no_progress (extract_lets +onlyGivenNames x); first
        | (with_reducible refine Keep.cut (t := x) ?_ ?_; (on_goal 1 => (unfold x; clear x)); (on_goal 2 => (intro hx; clear_value x)))
        | clear_value x)
    | with_reducible apply State.drivePins_keep
    | with_reducible apply State.setPatch_keep
    | with_reducible apply State.raise_keep
    | with_reducible refine Keep.ite ?_ ?_
    | rfl)

theorem execQuiltPoisonRead_keep (patch block word : Nat) (s : State) : KeepOut 13998692980 s (execQuiltPoisonRead patch block word s) := by
  unfold execQuiltPoisonRead
  repeat' (first
    | with_reducible exact Keep.refl _
    | with_reducible refine Keep.out ?_
    | with_reducible apply State.readCell_keep
    | with_reducible apply State.resetPatch_keep
    | with_reducible apply State.endPatchJob_keep
    | with_reducible refine Keep.ite ?_ ?_
    | split
    | with_reducible refine Keep.of_pair (by assumption) ?_
    | rfl)

theorem execScrubSweepStart_keep (upsets : List (Nat × Nat)) (s : State) : KeepOut 14061473844 s (execScrubSweepStart upsets s) := by
  unfold execScrubSweepStart
  repeat' (first
    | with_reducible exact Keep.refl _
    | with_reducible assumption
    | with_reducible refine Keep.out ?_
    | (fail_if_no_progress (extract_lets +onlyGivenNames x); first
        | (with_reducible refine Keep.cut (t := x) ?_ ?_; (on_goal 1 => (unfold x; clear x)); (on_goal 2 => (intro hx; clear_value x)))
        | clear_value x)
    | with_reducible apply State.vote_keep
    | with_reducible apply State.upsetCopies_keep
    | with_reducible apply State.testSentinel_keep
    | with_reducible apply State.sf_keep
    | with_reducible refine Keep.ite ?_ ?_
    | refine Keep.foldl ?_ (fun t x ht => ?_)
    | rfl
    | fail_if_no_progress (with_reducible refine Keep.set_scrub (by decide) ?_))

theorem execQuiltFrameScrub_keep (upsets : List (BitVec 80)) (lost : Bool) (s : State) : KeepOut 14334237302 s (execQuiltFrameScrub upsets lost s) := by
  unfold execQuiltFrameScrub
  repeat' (first
    | with_reducible exact Keep.refl _
    | with_reducible assumption
    | with_reducible refine Keep.out ?_
    | (fail_if_no_progress (extract_lets +onlyGivenNames x); first
        | (with_reducible refine Keep.cut (t := x) ?_ ?_; (on_goal 1 => (unfold x; clear x)); (on_goal 2 => (intro hx; clear_value x)))
        | clear_value x)
    | with_reducible apply State.stallOn_keep
    | with_reducible apply State.scrubFrame_keep
    | with_reducible apply State.scrubFaulty_keep
    | with_reducible refine Keep.ite ?_ ?_
    | split
    | rfl
    | fail_if_no_progress (with_reducible refine Keep.set_scrub (by decide) ?_))

theorem execFirmwareQuiltSweep_keep (upsets : List (Nat × Nat × List (BitVec 80) × Bool)) (s : State) : KeepOut 14065801846 s (execFirmwareQuiltSweep upsets s) := by
  unfold execFirmwareQuiltSweep
  repeat' (first
    | with_reducible exact Keep.refl _
    | with_reducible assumption
    | with_reducible refine Keep.out ?_
    | (fail_if_no_progress (extract_lets +onlyGivenNames x); first
        | (with_reducible refine Keep.cut (t := x) ?_ ?_; (on_goal 1 => (unfold x; clear x)); (on_goal 2 => (intro hx; clear_value x)))
        | clear_value x)
    | with_reducible apply State.sf_keep
    | with_reducible apply State.scrubFrame_keep
    | with_reducible refine Keep.ite ?_ ?_
    | split
    | refine Keep.foldl ?_ (fun t x ht => ?_)
    | rfl
    | fail_if_no_progress (with_reducible refine Keep.set_scrub (by decide) ?_))

end Sys2Proof.Machine
end

