-- ==== Sys2Proof/Laws/KeepPower.lean ====
section
/-!
SUPPORT. The parts of the state that the operations of Machine/Power.lean may write.
-/

namespace Sys2Proof.Machine

open Reg Ob

theorem State.refreshDevice_keep {wr : Nat} {s₀ : State} (s : State) (hk : Keep wr s₀ s) (hs : 13960810548 &&& wr = 13960810548) :
    Keep wr s₀ (State.refreshDevice s) := by
  refine Keep.app hk ?_ hs
  unfold State.refreshDevice
  repeat' (first
    | with_reducible exact Keep.refl _
    | (fail_if_no_progress (extract_lets +onlyGivenNames x); first
        | clear_value x)
    | with_reducible apply State.raise_keep
    | with_reducible apply State.so_keep
    | with_reducible apply State.sf_keep
    | with_reducible refine Keep.ite ?_ ?_
    | rfl)

theorem State.setIstate_keep {wr : Nat} {s₀ : State} (s : State) (i st target steps : Nat) (hk : Keep wr s₀ s) (hs : 268435472 &&& wr = 268435472) :
    Keep wr s₀ (State.setIstate s i st target steps) := by
  refine Keep.app hk ?_ hs
  unfold State.setIstate
  repeat' (first
    | with_reducible exact Keep.refl _
    | with_reducible assumption
    | (fail_if_no_progress (extract_lets +onlyGivenNames x); first
        | (with_reducible refine Keep.cut (t := x) ?_ ?_; (on_goal 1 => (unfold x; clear x)); (on_goal 2 => (intro hx; clear_value x)))
        | clear_value x)
    | with_reducible apply State.sf_keep
    | with_reducible apply State.setIsl_keep
    | rfl)

theorem State.startWake_keep {wr : Nat} {s₀ : State} (s : State) (i target : Nat) (hk : Keep wr s₀ s) (hs : 268435472 &&& wr = 268435472) :
    Keep wr s₀ (State.startWake s i target) := by
  refine Keep.app hk ?_ hs
  unfold State.startWake
  repeat' (first
    | with_reducible exact Keep.refl _
    | with_reducible assumption
    | (fail_if_no_progress (extract_lets +onlyGivenNames x); first
        | (with_reducible refine Keep.cut (t := x) ?_ ?_; (on_goal 1 => (unfold x; clear x)); (on_goal 2 => (intro hx; clear_value x)))
        | clear_value x)
    | with_reducible apply State.sf_keep
    | with_reducible apply State.incf_keep
    | with_reducible apply State.setIstate_keep
    | with_reducible apply State.setIsl_keep
    | with_reducible refine Keep.ite ?_ ?_
    | rfl)

theorem State.startEntry_keep {wr : Nat} {s₀ : State} (s : State) (i target : Nat) (hk : Keep wr s₀ s) (hs : 16 &&& wr = 16) :
    Keep wr s₀ (State.startEntry s i target) := by
  refine Keep.app hk ?_ hs
  unfold State.startEntry
  repeat' (first
    | with_reducible exact Keep.refl _
    | with_reducible apply State.sf_keep
    | rfl)

theorem State.evaluate_keep {wr : Nat} {s₀ : State} (s : State) (i : Nat) (hk : Keep wr s₀ s) (hs : 268435472 &&& wr = 268435472) :
    Keep wr s₀ (State.evaluate s i) := by
  refine Keep.app hk ?_ hs
  unfold State.evaluate
  repeat' (first
    | with_reducible exact Keep.refl _
    | (fail_if_no_progress (extract_lets +onlyGivenNames x); first
        | clear_value x)
    | with_reducible apply State.sf_keep
    | with_reducible apply State.startWake_keep
    | with_reducible apply State.startEntry_keep
    | with_reducible refine Keep.ite ?_ ?_
    | rfl)

theorem State.endHold_keep {wr : Nat} {s₀ : State} (s : State) (hk : Keep wr s₀ s) (hs : 14229246004 &&& wr = 14229246004) :
    Keep wr s₀ (State.endHold s) := by
  refine Keep.app hk ?_ hs
  unfold State.endHold
  repeat' (first
    | with_reducible exact Keep.refl _
    | with_reducible assumption
    | (fail_if_no_progress (extract_lets +onlyGivenNames x); first
        | (with_reducible refine Keep.cut (t := x) ?_ ?_; (on_goal 1 => (unfold x; clear x)); (on_goal 2 => (intro hx; clear_value x))))
    | with_reducible apply State.sf_keep
    | with_reducible apply State.refreshDevice_keep
    | with_reducible apply State.startWake_keep
    | with_reducible apply State.evaluate_keep
    | with_reducible refine Keep.ite ?_ ?_
    | refine Keep.foldl ?_ (fun t x ht => ?_)
    | rfl)

theorem State.endHoldCommand_keep {wr : Nat} {s₀ : State} (s : State) (hk : Keep wr s₀ s) (hs : 14229246004 &&& wr = 14229246004) :
    Keep wr s₀ (State.endHoldCommand s).2 := by
  refine Keep.app hk ?_ hs
  unfold State.endHoldCommand
  repeat' (first
    | with_reducible exact Keep.refl _
    | with_reducible apply State.endHold_keep
    | with_reducible refine Keep.ite_snd ?_ ?_
    | rfl)

theorem State.voteRefused_keep {wr : Nat} {s₀ : State} (s : State) (decision refuser reason : Nat) (stopped : List (Nat × Nat)) (hk : Keep wr s₀ s) (hs : 14229246004 &&& wr = 14229246004) :
    Keep wr s₀ (State.voteRefused s decision refuser reason stopped) := by
  refine Keep.app hk ?_ hs
  unfold State.voteRefused
  repeat' (first
    | with_reducible exact Keep.refl _
    | with_reducible assumption
    | (fail_if_no_progress (extract_lets +onlyGivenNames x); first
        | (with_reducible refine Keep.cut (t := x) ?_ ?_; (on_goal 1 => (unfold x; clear x)); (on_goal 2 => (intro hx; clear_value x)))
        | clear_value x)
    | with_reducible apply State.incf_keep
    | with_reducible apply State.setIstate_keep
    | with_reducible apply State.sf_keep
    | with_reducible apply State.so_keep
    | with_reducible apply State.inco_keep
    | with_reducible apply State.raise_keep
    | with_reducible refine Keep.ite ?_ ?_
    | refine Keep.foldl ?_ (fun t x ht => ?_)
    | rfl
    | fail_if_no_progress (with_reducible refine Keep.set_pm (by decide) ?_))

theorem State.voteStop_keep {wr : Nat} {s₀ : State} (s : State) (i target : Nat) (hk : Keep wr s₀ s) (hs : 268435472 &&& wr = 268435472) :
    Keep wr s₀ (State.voteStop s i target) := by
  refine Keep.app hk ?_ hs
  unfold State.voteStop
  repeat' (first
    | with_reducible exact Keep.refl _
    | with_reducible apply State.setIstate_keep
    | with_reducible apply State.startEntry_keep
    | with_reducible refine Keep.ite ?_ ?_
    | rfl)

theorem State.collectVotes_rec {s₀ : State} (s : State) (decision : Nat) (hits : List (Nat × Nat)) (stopped : List (Nat × Nat)) (n0 : List (Nat × Nat)) (hk : Keep 14229246004 s₀ s) :
    Keep 14229246004 s₀ (State.collectVotes s decision hits stopped n0).2 := by
  induction n0 generalizing s decision hits stopped with
  | nil =>
    unfold State.collectVotes
    repeat' (first
      | with_reducible assumption
      | with_reducible apply State.voteRefused_keep
      | with_reducible apply State.voteStop_keep
      | with_reducible apply ih
      | with_reducible refine Keep.ite_snd ?_ ?_
      | split
      | rfl)
  | cons x l ih =>
    unfold State.collectVotes
    repeat' (first
      | with_reducible assumption
      | with_reducible apply State.voteRefused_keep
      | with_reducible apply State.voteStop_keep
      | with_reducible apply ih
      | with_reducible refine Keep.ite_snd ?_ ?_
      | split
      | rfl)

theorem State.collectVotes_keep {wr : Nat} {s₀ : State} (s : State) (decision : Nat) (hits : List (Nat × Nat)) (stopped : List (Nat × Nat)) (n0 : List (Nat × Nat)) (hk : Keep wr s₀ s)
    (hs : 14229246004 &&& wr = 14229246004) : Keep wr s₀ (State.collectVotes s decision hits stopped n0).2 :=
  Keep.app hk (State.collectVotes_rec _ _ _ _ _ (Keep.refl _)) hs

theorem State.deviceDeep_keep {wr : Nat} {s₀ : State} (s : State) (hits : List (Nat × Nat)) (hk : Keep wr s₀ s) (hs : 14229246004 &&& wr = 14229246004) :
    Keep wr s₀ (State.deviceDeep s hits) := by
  refine Keep.app hk ?_ hs
  unfold State.deviceDeep
  repeat' (first
    | with_reducible exact Keep.refl _
    | with_reducible assumption
    | (fail_if_no_progress (extract_lets +onlyGivenNames x); first
        | (with_reducible refine Keep.cut (t := x) ?_ ?_; (on_goal 1 => (unfold x; clear x)); (on_goal 2 => (intro hx; clear_value x)))
        | (with_reducible refine Keep.cut (t := x.2) ?_ ?_; (on_goal 1 => (unfold x; clear x)); (on_goal 2 => (intro hx; clear_value x)))
        | clear_value x)
    | with_reducible apply State.sf_keep
    | with_reducible apply State.collectVotes_keep
    | with_reducible apply State.refreshDevice_keep
    | with_reducible apply State.setIsl_keep
    | with_reducible refine Keep.ite ?_ ?_
    | refine Keep.foldl ?_ (fun t x ht => ?_)
    | rfl)

theorem State.deepCommand_keep {wr : Nat} {s₀ : State} (s : State) (hits : List (Nat × Nat)) (hk : Keep wr s₀ s) (hs : 14229246004 &&& wr = 14229246004) :
    Keep wr s₀ (State.deepCommand s hits).2 := by
  refine Keep.app hk ?_ hs
  unfold State.deepCommand
  repeat' (first
    | with_reducible exact Keep.refl _
    | with_reducible apply State.deviceDeep_keep
    | with_reducible refine Keep.ite_snd ?_ ?_
    | rfl)

theorem State.evaluateGroup_keep {wr : Nat} {s₀ : State} (s : State) (g : Nat) (hits : List (Nat × Nat)) (hk : Keep wr s₀ s) (hs : 14229246004 &&& wr = 14229246004) :
    Keep wr s₀ (State.evaluateGroup s g hits) := by
  refine Keep.app hk ?_ hs
  unfold State.evaluateGroup
  repeat' (first
    | with_reducible exact Keep.refl _
    | with_reducible assumption
    | (fail_if_no_progress (extract_lets +onlyGivenNames x); first
        | (with_reducible refine Keep.cut (t := x) ?_ ?_; (on_goal 1 => (unfold x; clear x)); (on_goal 2 => (intro hx; clear_value x)))
        | clear_value x)
    | with_reducible apply State.evaluate_keep
    | with_reducible apply State.collectVotes_keep
    | with_reducible refine Keep.ite ?_ ?_
    | split
    | refine Keep.foldl ?_ (fun t x ht => ?_)
    | rfl)

theorem State.endStall_keep {wr : Nat} {s₀ : State} (s : State) (i : Nat) (hk : Keep wr s₀ s) (hs : 4565569556 &&& wr = 4565569556) :
    Keep wr s₀ (State.endStall s i) := by
  refine Keep.app hk ?_ hs
  unfold State.endStall
  repeat' (first
    | with_reducible exact Keep.refl _
    | with_reducible assumption
    | (fail_if_no_progress (extract_lets +onlyGivenNames x); first
        | (with_reducible refine Keep.cut (t := x) ?_ ?_; (on_goal 1 => (unfold x; clear x)); (on_goal 2 => (intro hx; clear_value x)))
        | clear_value x)
    | with_reducible apply State.maxf_keep
    | with_reducible apply State.setIsl_keep
    | with_reducible apply State.incf_keep
    | with_reducible apply State.raise_keep
    | with_reducible refine Keep.ite ?_ ?_
    | split
    | rfl)

theorem State.bankLost_keep {wr : Nat} {s₀ : State} (s : State) (p memid : Nat) (hk : Keep wr s₀ s) (hs : 4297167380 &&& wr = 4297167380) :
    Keep wr s₀ (State.bankLost s p memid) := by
  refine Keep.app hk ?_ hs
  unfold State.bankLost
  repeat' (first
    | with_reducible exact Keep.refl _
    | with_reducible assumption
    | with_reducible apply Memory.zeroBytes_wf
    | with_reducible apply Memory.poisonRange_wf
    | with_reducible exact id
    | (fail_if_no_progress (extract_lets +onlyGivenNames x); first
        | (with_reducible refine Keep.cut (t := x) ?_ ?_; (on_goal 1 => (unfold x; clear x)); (on_goal 2 => (intro hx; clear_value x)))
        | clear_value x)
    | with_reducible apply State.setGus_keep
    | with_reducible apply State.raise_keep
    | with_reducible apply State.sf_keep
    | with_reducible apply State.incf_keep
    | with_reducible refine Keep.ite ?_ ?_
    | split
    | rfl
    | fail_if_no_progress (with_reducible refine Keep.set_mem (by decide) ?_ ?_))

theorem State.followQuilt_keep {wr : Nat} {s₀ : State} (s : State) (i : Nat) (hk : Keep wr s₀ s) (hs : 268435472 &&& wr = 268435472) :
    Keep wr s₀ (State.followQuilt s i) := by
  refine Keep.app hk ?_ hs
  unfold State.followQuilt
  repeat' (first
    | with_reducible exact Keep.refl _
    | with_reducible apply State.evaluate_keep
    | with_reducible refine Keep.ite ?_ ?_
    | rfl)

theorem State.loseUnretained_keep {wr : Nat} {s₀ : State} (s : State) (i : Nat) (hk : Keep wr s₀ s) (hs : 512 &&& wr = 512) :
    Keep wr s₀ (State.loseUnretained s i) := by
  refine Keep.app hk ?_ hs
  unfold State.loseUnretained
  repeat' (first
    | with_reducible exact Keep.refl _
    | with_reducible assumption
    | with_reducible apply poisonPatch_wf
    | with_reducible refine Memory.foldl_wf ?_ (fun t x ht => ?_)
    | with_reducible exact id
    | with_reducible refine Keep.ite ?_ ?_
    | fail_if_no_progress (with_reducible refine Keep.set_mem (by decide) ?_ ?_))

theorem State.sweepWord_keep {wr : Nat} {s₀ : State} (s : State) (a : Nat) (hk : Keep wr s₀ s)
    (hs : 4297136660 &&& wr = 4297136660) : Keep wr s₀ (s.sweepWord a).2 := by
  refine Keep.app hk ?_ hs
  unfold State.sweepWord
  generalize decodeSymbols _ = d
  cases d with
  | clean w => exact Keep.refl _
  | corrected w =>
    exact Keep.set_mem (by decide) (State.countCorrection_keep _ (Keep.refl _) (by decide))
      (Memory.storeWord_wf id)
  | poison => exact Keep.refl _
  | bad => exact Keep.refl _

theorem State.wakeDone_keep {wr : Nat} {s₀ : State} (s : State) (i : Nat) (hk : Keep wr s₀ s) (hs : 4632678932 &&& wr = 4632678932) :
    Keep wr s₀ (State.wakeDone s i) := by
  refine Keep.app hk ?_ hs
  unfold State.wakeDone
  repeat' (first
    | with_reducible exact Keep.refl _
    | with_reducible assumption
    | (fail_if_no_progress (extract_lets +onlyGivenNames x); first
        | (with_reducible refine Keep.cut (t := x) ?_ ?_; (on_goal 1 => (unfold x; clear x)); (on_goal 2 => (intro hx; clear_value x)))
        | clear_value x)
    | with_reducible apply State.setIstate_keep
    | with_reducible apply State.incf_keep
    | with_reducible apply State.setIsl_keep
    | with_reducible apply State.loseUnretained_keep
    | with_reducible apply State.endStall_keep
    | with_reducible apply State.evaluate_keep
    | with_reducible refine Keep.ite ?_ ?_
    | split
    | rfl
    | dsimp only
    | fail_if_no_progress (with_reducible refine Keep.set_scrub (by decide) ?_))

theorem execToleranceWrite_keep (group us : Nat) (hits : List (Nat × Nat)) (s : State) : KeepOut 14229246004 s (execToleranceWrite group us hits s) := by
  unfold execToleranceWrite
  repeat' (first
    | with_reducible exact Keep.refl _
    | with_reducible refine Keep.out ?_
    | with_reducible apply State.refreshDevice_keep
    | with_reducible apply State.evaluateGroup_keep
    | with_reducible apply State.so_keep
    | with_reducible refine Keep.ite ?_ ?_
    | rfl)

theorem execNextUseReceive_keep (hits : List (Nat × Nat)) (s : State) : KeepOut 14229377076 s (execNextUseReceive hits s) := by
  unfold execNextUseReceive
  repeat' (first
    | with_reducible exact Keep.refl _
    | with_reducible assumption
    | with_reducible refine Keep.out ?_
    | (fail_if_no_progress (extract_lets +onlyGivenNames x); first
        | (with_reducible refine Keep.cut (t := x) ?_ ?_; (on_goal 1 => (unfold x; clear x)); (on_goal 2 => (intro hx; clear_value x)))
        | clear_value x)
    | with_reducible apply State.setIsl_keep
    | with_reducible apply State.refreshDevice_keep
    | with_reducible apply State.evaluateGroup_keep
    | refine Keep.foldl ?_ (fun t x ht => ?_)
    | rfl
    | fail_if_no_progress (with_reducible refine Keep.set_sh (by decide) ?_))

theorem execIslandQuietExpire_keep (island quiet : Nat) (s : State) : KeepOut 14229246004 s (execIslandQuietExpire island quiet s) := by
  unfold execIslandQuietExpire
  repeat' (first
    | with_reducible exact Keep.refl _
    | with_reducible assumption
    | with_reducible refine Keep.out ?_
    | (fail_if_no_progress (extract_lets +onlyGivenNames x); first
        | (with_reducible refine Keep.cut (t := x) ?_ ?_; (on_goal 1 => (unfold x; clear x)); (on_goal 2 => (intro hx; clear_value x)))
        | clear_value x)
    | with_reducible apply State.setIsl_keep
    | with_reducible apply State.refreshDevice_keep
    | with_reducible apply State.followQuilt_keep
    | with_reducible apply State.evaluate_keep
    | rfl)

theorem execIslandEntryStep_keep (island : Nat) (s : State) : KeepOut 14229246004 s (execIslandEntryStep island s) := by
  unfold execIslandEntryStep
  repeat' (first
    | with_reducible exact Keep.refl _
    | with_reducible assumption
    | with_reducible refine Keep.out ?_
    | (fail_if_no_progress (extract_lets +onlyGivenNames x); first
        | (with_reducible refine Keep.cut (t := x) ?_ ?_; (on_goal 1 => (unfold x; clear x)); (on_goal 2 => (intro hx; clear_value x)))
        | clear_value x)
    | with_reducible apply State.setIstate_keep
    | with_reducible apply State.evaluate_keep
    | with_reducible apply State.incf_keep
    | with_reducible apply State.refreshDevice_keep
    | with_reducible apply State.followQuilt_keep
    | with_reducible refine Keep.ite ?_ ?_
    | rfl)

theorem execPowerVoteRetry_keep (hits : List (Nat × Nat)) (s : State) : KeepOut 14229246004 s (execPowerVoteRetry hits s) := by
  unfold execPowerVoteRetry
  repeat' (first
    | with_reducible exact Keep.refl _
    | with_reducible assumption
    | with_reducible refine Keep.out ?_
    | (fail_if_no_progress (extract_lets +onlyGivenNames x); first
        | (with_reducible refine Keep.cut (t := x) ?_ ?_; (on_goal 1 => (unfold x; clear x)); (on_goal 2 => (intro hx; clear_value x)))
        | clear_value x)
    | with_reducible apply State.deviceDeep_keep
    | with_reducible apply State.refreshDevice_keep
    | with_reducible apply State.evaluateGroup_keep
    | with_reducible refine Keep.ite ?_ ?_
    | split
    | rfl
    | fail_if_no_progress (with_reducible refine Keep.set_pm (by decide) ?_))

theorem execIslandPrewake_keep (island : Nat) (s : State) : KeepOut 268435472 s (execIslandPrewake island s) := by
  unfold execIslandPrewake
  repeat' (first
    | with_reducible exact Keep.refl _
    | with_reducible refine Keep.out ?_
    | (fail_if_no_progress (extract_lets +onlyGivenNames x); first
        | clear_value x)
    | with_reducible apply State.startWake_keep
    | with_reducible refine Keep.ite ?_ ?_
    | split
    | rfl)

theorem execIslandWakeRequest_keep (island : Nat) (bank : Option Nat) (s : State) : KeepOut 14229246004 s (execIslandWakeRequest island bank s) := by
  unfold execIslandWakeRequest
  repeat' (first
    | with_reducible exact Keep.refl _
    | with_reducible assumption
    | with_reducible refine Keep.out ?_
    | (fail_if_no_progress (extract_lets +onlyGivenNames x); first
        | (with_reducible refine Keep.cut (t := x) ?_ ?_; (on_goal 1 => (unfold x; clear x)); (on_goal 2 => (intro hx; clear_value x)))
        | clear_value x)
    | with_reducible apply State.setIsl_keep
    | with_reducible apply State.startWake_keep
    | with_reducible apply State.refreshDevice_keep
    | with_reducible apply State.followQuilt_keep
    | with_reducible apply State.endStall_keep
    | with_reducible refine Keep.ite ?_ ?_
    | rfl)

theorem execIslandWakeComplete_keep (island : Nat) (s : State) : KeepOut 14296355380 s (execIslandWakeComplete island s) := by
  unfold execIslandWakeComplete
  repeat' (first
    | with_reducible exact Keep.refl _
    | with_reducible refine Keep.out ?_
    | with_reducible apply State.refreshDevice_keep
    | with_reducible apply State.followQuilt_keep
    | with_reducible apply State.wakeDone_keep
    | rfl)

theorem execRetentionBankSweepDone_keep (memid : Nat) (upsets : List (Nat × BitVec 80)) (corrected : Nat) (lost : Bool) (s : State) : KeepOut 4565604884 s (execRetentionBankSweepDone memid upsets corrected lost s) := by
  unfold execRetentionBankSweepDone
  repeat' (first
    | with_reducible exact Keep.refl _
    | with_reducible assumption
    | with_reducible refine Keep.out ?_
    | (fail_if_no_progress (extract_lets +onlyGivenNames x); first
        | (with_reducible refine Keep.cut (t := x) ?_ ?_; (on_goal 1 => (unfold x; clear x)); (on_goal 2 => (intro hx; clear_value x)))
        | (with_reducible refine Keep.cut (t := x.2) ?_ ?_; (on_goal 1 => (unfold x; clear x)); (on_goal 2 => (intro hx; clear_value x)))
        | clear_value x)
    | with_reducible apply State.setIsl_keep
    | with_reducible apply State.countCorrection_keep
    | with_reducible apply State.upsetCell_keep
    | with_reducible apply State.sweepWord_keep
    | with_reducible apply State.bankLost_keep
    | with_reducible apply State.endStall_keep
    | with_reducible refine Keep.ite ?_ ?_
    | with_reducible refine Keep.ite_snd ?_ ?_
    | split
    | refine Keep.foldl ?_ (fun t x ht => ?_)
    | refine Keep.foldl_pair ?_ (fun t x ht => ?_)
    | rfl)

theorem execPmEndDeepHold_keep (s : State) : KeepOut 14229246004 s (execPmEndDeepHold s) := by
  unfold execPmEndDeepHold
  repeat' (first
    | with_reducible exact Keep.refl _
    | with_reducible assumption
    | with_reducible refine Keep.out ?_
    | (fail_if_no_progress (extract_lets +onlyGivenNames x); first
        | (with_reducible refine Keep.cut (t := x.2) ?_ ?_; (on_goal 1 => (unfold x; clear x)); (on_goal 2 => (intro hx; clear_value x))))
    | with_reducible apply State.endHoldCommand_keep
    | with_reducible apply State.send_keep
    | rfl)

theorem execPmDeviceDeep_keep (hits : List (Nat × Nat)) (s : State) : KeepOut 14229246004 s (execPmDeviceDeep hits s) := by
  unfold execPmDeviceDeep
  repeat' (first
    | with_reducible exact Keep.refl _
    | with_reducible assumption
    | with_reducible refine Keep.out ?_
    | (fail_if_no_progress (extract_lets +onlyGivenNames x); first
        | (with_reducible refine Keep.cut (t := x.2) ?_ ?_; (on_goal 1 => (unfold x; clear x)); (on_goal 2 => (intro hx; clear_value x))))
    | with_reducible apply State.deepCommand_keep
    | with_reducible apply State.send_keep
    | rfl)

end Sys2Proof.Machine
end

