-- ==== Sys2Proof/Laws/KeepFronthaul.lean ====
section
/-!
SUPPORT. The parts of the state that the operations of Machine/Fronthaul.lean may write.
-/

namespace Sys2Proof.Machine

open Reg Ob

theorem State.pushSymbol_keep {wr : Nat} {s₀ : State} (s : State) (y : UpSymbol) (filled : Nat) (abandoned : Bool) (hk : Keep wr s₀ s) (hs : 1024 &&& wr = 1024) :
    Keep wr s₀ (State.pushSymbol s y filled abandoned) := by
  refine Keep.app hk ?_ hs
  unfold State.pushSymbol
  repeat' (first
    | with_reducible exact Keep.refl _
    | (fail_if_no_progress (extract_lets +onlyGivenNames x); first
        | clear_value x)
    | with_reducible apply State.pushBytes_keep
    | rfl)

theorem State.setFh_keep {wr : Nat} {s₀ : State} (s : State) (f : Fronthaul) (hk : Keep wr s₀ s) (hs : 1048576 &&& wr = 1048576) :
    Keep wr s₀ (State.setFh s f) := by
  refine Keep.app hk ?_ hs
  unfold State.setFh
  repeat' (first
    | with_reducible exact Keep.refl _
    | fail_if_no_progress (with_reducible refine Keep.set_fh (by decide) ?_))

theorem State.abandonSymbols_keep {wr : Nat} {s₀ : State} (s : State) (i : Nat) (hk : Keep wr s₀ s) (hs : 1049600 &&& wr = 1049600) :
    Keep wr s₀ (State.abandonSymbols s i) := by
  refine Keep.app hk ?_ hs
  unfold State.abandonSymbols
  repeat' (first
    | with_reducible exact Keep.refl _
    | with_reducible assumption
    | (fail_if_no_progress (extract_lets +onlyGivenNames x); first
        | clear_value x)
    | with_reducible apply State.pushSymbol_keep
    | with_reducible apply State.setFh_keep
    | refine Keep.foldl ?_ (fun t x ht => ?_)
    | rfl)

theorem State.sendFrame_keep {wr : Nat} {s₀ : State} (s : State) (p : Nat) (frame : List Byte) (hk : Keep wr s₀ s) (hs : 20 &&& wr = 20) :
    Keep wr s₀ (State.sendFrame s p frame) := by
  refine Keep.app hk ?_ hs
  unfold State.sendFrame
  repeat' (first
    | with_reducible exact Keep.refl _
    | with_reducible apply State.send_keep
    | with_reducible apply State.incf_keep
    | rfl)

theorem State.checkSeq_keep {wr : Nat} {s₀ : State} (s : State) (p i seq : Nat) (hk : Keep wr s₀ s) (hs : 1048592 &&& wr = 1048592) :
    Keep wr s₀ (State.checkSeq s p i seq) := by
  refine Keep.app hk ?_ hs
  unfold State.checkSeq
  repeat' (first
    | with_reducible exact Keep.refl _
    | with_reducible assumption
    | (fail_if_no_progress (extract_lets +onlyGivenNames x); first
        | (with_reducible refine Keep.cut (t := x) ?_ ?_; (on_goal 1 => (unfold x; clear x)); (on_goal 2 => (intro hx; clear_value x)))
        | clear_value x)
    | with_reducible apply State.incf_keep
    | with_reducible apply State.setFh_keep
    | with_reducible refine Keep.ite ?_ ?_
    | rfl)

theorem State.closeSymbol_keep {wr : Nat} {s₀ : State} (s : State) (i : Nat) (hk : Keep wr s₀ s) (hs : 14268046964 &&& wr = 14268046964) :
    Keep wr s₀ (State.closeSymbol s i) := by
  refine Keep.app hk ?_ hs
  unfold State.closeSymbol
  repeat' (first
    | with_reducible exact Keep.refl _
    | with_reducible assumption
    | (fail_if_no_progress (extract_lets +onlyGivenNames x); first
        | (with_reducible refine Keep.cut (t := x) ?_ ?_; (on_goal 1 => (unfold x; clear x)); (on_goal 2 => (intro hx; clear_value x)))
        | clear_value x)
    | with_reducible apply State.setFh_keep
    | with_reducible apply State.stallOn_keep
    | with_reducible apply State.writeBytes_keep
    | with_reducible apply State.pushSymbol_keep
    | with_reducible refine Keep.ite ?_ ?_
    | split
    | refine Keep.foldl ?_ (fun t x ht => ?_)
    | rfl
    | fail_if_no_progress (with_reducible refine Keep.set_fh (by decide) ?_))

theorem State.sendEcpri_keep {wr : Nat} {s₀ : State} (s : State) (p dst vlan pcp typ : Nat) (body : List Byte) (hk : Keep wr s₀ s) (hs : 20 &&& wr = 20) :
    Keep wr s₀ (State.sendEcpri s p dst vlan pcp typ body) := by
  refine Keep.app hk ?_ hs
  unfold State.sendEcpri
  repeat' (first
    | with_reducible exact Keep.refl _
    | with_reducible apply State.sendFrame_keep
    | rfl)

theorem State.pushFrame_keep {wr : Nat} {s₀ : State} (s : State) (p q : Nat) (frame : List Byte) (hk : Keep wr s₀ s) (hs : 1024 &&& wr = 1024) :
    Keep wr s₀ (State.pushFrame s p q frame) := by
  refine Keep.app hk ?_ hs
  unfold State.pushFrame
  repeat' (first
    | with_reducible exact Keep.refl _
    | with_reducible assumption
    | with_reducible apply State.pushBytes_keep
    | refine Keep.foldl ?_ (fun t x ht => ?_)
    | rfl)

theorem State.delayMessage_keep {wr : Nat} {s₀ : State} (s : State) (p sub : Nat) (f : EthFrame) (frame : List Byte) (hk : Keep wr s₀ s) (hs : 1044 &&& wr = 1044) :
    Keep wr s₀ (State.delayMessage s p sub f frame) := by
  refine Keep.app hk ?_ hs
  unfold State.delayMessage
  repeat' (first
    | with_reducible exact Keep.refl _
    | (fail_if_no_progress (extract_lets +onlyGivenNames x); first
        | clear_value x)
    | with_reducible apply State.sendEcpri_keep
    | with_reducible apply State.pushFrame_keep
    | with_reducible refine Keep.ite ?_ ?_
    | rfl)

theorem State.writePortCtrl_keep {wr : Nat} {s₀ : State} (s : State) (u p v : Nat) (hk : Keep wr s₀ s) (hs : 4297134100 &&& wr = 4297134100) :
    Keep wr s₀ (State.writePortCtrl s u p v) := by
  refine Keep.app hk ?_ hs
  unfold State.writePortCtrl
  repeat' (first
    | with_reducible exact Keep.refl _
    | with_reducible assumption
    | (fail_if_no_progress (extract_lets +onlyGivenNames x); first
        | (with_reducible refine Keep.cut (t := x) ?_ ?_; (on_goal 1 => (unfold x; clear x)); (on_goal 2 => (intro hx; clear_value x)))
        | clear_value x)
    | with_reducible apply State.refreshPort_keep
    | with_reducible apply State.sf_keep
    | with_reducible apply State.portEvent_keep
    | with_reducible refine Keep.ite ?_ ?_
    | rfl)

theorem State.stDone_keep {wr : Nat} {s₀ : State} (s : State) (p status : Nat) (hk : Keep wr s₀ s) (hs : 4297134100 &&& wr = 4297134100) :
    Keep wr s₀ (State.stDone s p status) := by
  refine Keep.app hk ?_ hs
  unfold State.stDone
  repeat' (first
    | with_reducible exact Keep.refl _
    | with_reducible assumption
    | (fail_if_no_progress (extract_lets +onlyGivenNames x); first
        | (with_reducible refine Keep.cut (t := x) ?_ ?_; (on_goal 1 => (unfold x; clear x)); (on_goal 2 => (intro hx; clear_value x))))
    | with_reducible apply State.sf_keep
    | with_reducible apply State.raise_keep
    | with_reducible refine Keep.ite ?_ ?_
    | rfl)

theorem State.setSt_keep {wr : Nat} {s₀ : State} (s : State) (i : Nat) (e : StEntry) (hk : Keep wr s₀ s) (hs : 1048576 &&& wr = 1048576) :
    Keep wr s₀ (State.setSt s i e) := by
  refine Keep.app hk ?_ hs
  unfold State.setSt
  repeat' (first
    | with_reducible exact Keep.refl _
    | (fail_if_no_progress (extract_lets +onlyGivenNames x); first
        | clear_value x)
    | with_reducible apply State.setFh_keep
    | rfl)

theorem State.writeStCmd_keep {wr : Nat} {s₀ : State} (s : State) (u p v : Nat) (hk : Keep wr s₀ s) (hs : 4298183700 &&& wr = 4298183700) :
    Keep wr s₀ (State.writeStCmd s u p v) := by
  refine Keep.app hk ?_ hs
  unfold State.writeStCmd
  repeat' (first
    | with_reducible exact Keep.refl _
    | with_reducible assumption
    | (fail_if_no_progress (extract_lets +onlyGivenNames x); first
        | (with_reducible refine Keep.cut (t := x) ?_ ?_; (on_goal 1 => (unfold x; clear x)); (on_goal 2 => (intro hx; clear_value x)))
        | clear_value x)
    | with_reducible apply State.sf_keep
    | with_reducible apply State.stDone_keep
    | with_reducible apply State.setSt_keep
    | with_reducible apply State.abandonSymbols_keep
    | with_reducible refine Keep.ite ?_ ?_
    | split
    | rfl)

theorem State.portReasonMs_keep {wr : Nat} {s₀ : State} (s : State) (p : Nat) (refused : Bool) (hk : Keep wr s₀ s) (hs : 4298182676 &&& wr = 4298182676) :
    Keep wr s₀ (State.portReasonMs s p refused) := by
  refine Keep.app hk ?_ hs
  unfold State.portReasonMs
  repeat' (first
    | with_reducible exact Keep.refl _
    | (fail_if_no_progress (extract_lets +onlyGivenNames x); first
        | clear_value x)
    | with_reducible apply State.portEvent_keep
    | with_reducible apply State.setFh_keep
    | with_reducible refine Keep.ite ?_ ?_
    | rfl)

theorem State.refuseTx_keep {wr : Nat} {s₀ : State} (s : State) (p : Nat) (hk : Keep wr s₀ s) (hs : 4298182676 &&& wr = 4298182676) :
    Keep wr s₀ (State.refuseTx s p) := by
  refine Keep.app hk ?_ hs
  unfold State.refuseTx
  repeat' (first
    | with_reducible exact Keep.refl _
    | with_reducible apply State.portReasonMs_keep
    | with_reducible apply State.incf_keep
    | rfl)

theorem State.downlinkRequest_keep {wr : Nat} {s₀ : State} (s : State) (p : Nat) (e : List Carried) (hk : Keep wr s₀ s) (hs : 4298182676 &&& wr = 4298182676) :
    Keep wr s₀ (State.downlinkRequest s p e) := by
  refine Keep.app hk ?_ hs
  unfold State.downlinkRequest
  repeat' (first
    | with_reducible exact Keep.refl _
    | with_reducible assumption
    | (fail_if_no_progress (extract_lets +onlyGivenNames x); first
        | clear_value x)
    | with_reducible apply State.refuseTx_keep
    | with_reducible apply State.incf_keep
    | with_reducible apply State.setFh_keep
    | with_reducible refine Keep.ite ?_ ?_
    | refine Keep.foldl ?_ (fun t x ht => ?_)
    | rfl)

theorem State.quarantine_keep {wr : Nat} {s₀ : State} (s : State) (p reason key : Nat) (frame : List Byte) (hk : Keep wr s₀ s) (hs : 13961860148 &&& wr = 13961860148) :
    Keep wr s₀ (State.quarantine s p reason key frame) := by
  refine Keep.app hk ?_ hs
  unfold State.quarantine
  repeat' (first
    | with_reducible exact Keep.refl _
    | with_reducible assumption
    | (fail_if_no_progress (extract_lets +onlyGivenNames x); first
        | (with_reducible refine Keep.cut (t := x) ?_ ?_; (on_goal 1 => (unfold x; clear x)); (on_goal 2 => (intro hx; clear_value x)))
        | clear_value x)
    | with_reducible apply State.inco_keep
    | with_reducible apply State.pushBytes_keep
    | with_reducible apply State.setFh_keep
    | with_reducible apply State.raise_keep
    | with_reducible refine Keep.ite ?_ ?_
    | rfl)

theorem State.writePrbs_keep {wr : Nat} {s₀ : State} (s : State) (e : StEntry) (l : List Byte) (y : UpSymbol) (secs : List Section) (hk : Keep wr s₀ s) (hs : 13998561908 &&& wr = 13998561908) :
    Keep wr s₀ (State.writePrbs s e l y secs).2 := by
  refine Keep.app hk ?_ hs
  unfold State.writePrbs
  repeat' (first
    | with_reducible exact Keep.refl _
    | with_reducible assumption
    | (fail_if_no_progress (extract_lets +onlyGivenNames x); first
        | (with_reducible refine Keep.cut (t := x) ?_ ?_; (on_goal 1 => (unfold x; clear x)); (on_goal 2 => (intro hx; clear_value x)))
        | clear_value x)
    | with_reducible apply State.writeBytes_keep
    | refine Keep.foldl_pair ?_ (fun t x ht => ?_)
    | rfl)

theorem State.symbolMessage_keep {wr : Nat} {s₀ : State} (s : State) (i p sfn slot sym : Nat) (tEnd : Nat) (l : List Byte) (secs : List Section) (hk : Keep wr s₀ s) (hs : 13999611508 &&& wr = 13999611508) :
    Keep wr s₀ (State.symbolMessage s i p sfn slot sym tEnd l secs) := by
  refine Keep.app hk ?_ hs
  unfold State.symbolMessage
  repeat' (first
    | with_reducible exact Keep.refl _
    | with_reducible assumption
    | (fail_if_no_progress (extract_lets +onlyGivenNames x); first
        | (with_reducible refine Keep.cut (t := x) ?_ ?_; (on_goal 1 => (unfold x; clear x)); (on_goal 2 => (intro hx; clear_value x)))
        | (with_reducible refine Keep.cut (t := x.2) ?_ ?_; (on_goal 1 => (unfold x; clear x)); (on_goal 2 => (intro hx; clear_value x)))
        | clear_value x)
    | with_reducible apply State.incf_keep
    | with_reducible apply State.setFh_keep
    | with_reducible apply State.writePrbs_keep
    | with_reducible apply State.pushSymbol_keep
    | with_reducible refine Keep.ite ?_ ?_
    | with_reducible refine Keep.ite_snd ?_ ?_
    | split
    | rfl)

theorem State.iqMessage_keep {wr : Nat} {s₀ : State} (s : State) (p : Nat) (f : EthFrame) (frame : List Byte) (hk : Keep wr s₀ s) (hs : 13999611508 &&& wr = 13999611508) :
    Keep wr s₀ (State.iqMessage s p f frame) := by
  refine Keep.app hk ?_ hs
  unfold State.iqMessage
  repeat' (first
    | with_reducible exact Keep.refl _
    | with_reducible assumption
    | (fail_if_no_progress (extract_lets +onlyGivenNames x); first
        | (with_reducible refine Keep.cut (t := x) ?_ ?_; (on_goal 1 => (unfold x; clear x)); (on_goal 2 => (intro hx; clear_value x)))
        | clear_value x)
    | with_reducible apply State.incf_keep
    | with_reducible apply State.quarantine_keep
    | with_reducible apply State.symbolMessage_keep
    | with_reducible apply State.checkSeq_keep
    | with_reducible refine Keep.ite ?_ ?_
    | split
    | rfl)

theorem State.ecpri_keep {wr : Nat} {s₀ : State} (s : State) (p sub : Nat) (f : EthFrame) (frame : List Byte) (hk : Keep wr s₀ s) (hs : 13999611508 &&& wr = 13999611508) :
    Keep wr s₀ (State.ecpri s p sub f frame) := by
  refine Keep.app hk ?_ hs
  unfold State.ecpri
  repeat' (first
    | with_reducible exact Keep.refl _
    | (fail_if_no_progress (extract_lets +onlyGivenNames x); first
        | clear_value x)
    | with_reducible apply State.incf_keep
    | with_reducible apply State.iqMessage_keep
    | with_reducible apply State.pushFrame_keep
    | with_reducible apply State.delayMessage_keep
    | with_reducible refine Keep.ite ?_ ?_
    | split
    | rfl)

theorem State.resetSymbols_keep {wr : Nat} {s₀ : State} (s : State) (p : Nat) (hk : Keep wr s₀ s) (hs : 1048576 &&& wr = 1048576) :
    Keep wr s₀ (State.resetSymbols s p) := by
  refine Keep.app hk ?_ hs
  unfold State.resetSymbols
  repeat' (first
    | with_reducible exact Keep.refl _
    | (fail_if_no_progress (extract_lets +onlyGivenNames x); first
        | clear_value x)
    | with_reducible apply State.setFh_keep
    | rfl)

theorem State.receiveFrame_keep {wr : Nat} {s₀ : State} (s : State) (p sub : Nat) (frame : List Byte) (hk : Keep wr s₀ s) (hs : 13999611508 &&& wr = 13999611508) :
    Keep wr s₀ (State.receiveFrame s p sub frame) := by
  refine Keep.app hk ?_ hs
  unfold State.receiveFrame
  repeat' (first
    | with_reducible exact Keep.refl _
    | with_reducible assumption
    | (fail_if_no_progress (extract_lets +onlyGivenNames x); first
        | (with_reducible refine Keep.cut (t := x) ?_ ?_; (on_goal 1 => (unfold x; clear x)); (on_goal 2 => (intro hx; clear_value x)))
        | clear_value x)
    | with_reducible apply State.incf_keep
    | with_reducible apply State.portReasonMs_keep
    | with_reducible apply State.send_keep
    | with_reducible apply State.ecpri_keep
    | with_reducible refine Keep.ite ?_ ?_
    | rfl)

theorem State.sendCplane_keep {wr : Nat} {s₀ : State} (s : State) (p : Nat) (e : List Carried) (hk : Keep wr s₀ s) (hs : 14234491510 &&& wr = 14234491510) :
    Keep wr s₀ (State.sendCplane s p e) := by
  refine Keep.app hk ?_ hs
  unfold State.sendCplane
  repeat' (first
    | with_reducible exact Keep.refl _
    | (fail_if_no_progress (extract_lets +onlyGivenNames x); first
        | clear_value x)
    | with_reducible apply State.refuseTx_keep
    | with_reducible apply State.stallOn_keep
    | with_reducible apply State.setFh_keep
    | with_reducible apply State.readBytes_keep
    | with_reducible apply State.sendEcpri_keep
    | with_reducible refine Keep.ite ?_ ?_
    | split
    | with_reducible refine Keep.of_pair (by assumption) ?_
    | rfl)

theorem State.sendRow_rec {s₀ : State} (s : State) (e : StEntry) (d : DownSymbol) (start : Nat) (n0 : List (List (List Byte))) (hk : Keep 1048596 s₀ s) :
    Keep 1048596 s₀ (State.sendRow s e d start n0) := by
  induction n0 generalizing s e d start with
  | nil =>
    unfold State.sendRow
    repeat' (first
      | with_reducible assumption
      | (fail_if_no_progress (extract_lets +onlyGivenNames x); first
          | (with_reducible refine Keep.cut (t := x) ?_ ?_; (on_goal 1 => (unfold x; clear x)); (on_goal 2 => (intro hx; clear_value x)))
          | clear_value x)
      | with_reducible apply State.sendEcpri_keep
      | with_reducible apply State.setFh_keep
      | with_reducible apply ih
      | rfl)
  | cons x l ih =>
    unfold State.sendRow
    repeat' (first
      | with_reducible assumption
      | (fail_if_no_progress (extract_lets +onlyGivenNames x); first
          | (with_reducible refine Keep.cut (t := x) ?_ ?_; (on_goal 1 => (unfold x; clear x)); (on_goal 2 => (intro hx; clear_value x)))
          | clear_value x)
      | with_reducible apply State.sendEcpri_keep
      | with_reducible apply State.setFh_keep
      | with_reducible apply ih
      | rfl)

theorem State.sendRow_keep {wr : Nat} {s₀ : State} (s : State) (e : StEntry) (d : DownSymbol) (start : Nat) (n0 : List (List (List Byte))) (hk : Keep wr s₀ s)
    (hs : 1048596 &&& wr = 1048596) : Keep wr s₀ (State.sendRow s e d start n0) :=
  Keep.app hk (State.sendRow_rec _ _ _ _ _ (Keep.refl _)) hs

theorem State.sendDown_keep {wr : Nat} {s₀ : State} (s : State) (d : DownSymbol) (hk : Keep wr s₀ s) (hs : 13966056054 &&& wr = 13966056054) :
    Keep wr s₀ (State.sendDown s d) := by
  refine Keep.app hk ?_ hs
  unfold State.sendDown
  repeat' (first
    | with_reducible exact Keep.refl _
    | (fail_if_no_progress (extract_lets +onlyGivenNames x); first
        | clear_value x)
    | with_reducible apply State.readBytes_keep
    | with_reducible apply State.refuseTx_keep
    | with_reducible apply State.sendRow_keep
    | with_reducible apply State.incf_keep
    | split
    | with_reducible refine Keep.of_pair (by assumption) ?_
    | rfl)

theorem execFhPortEnable_keep (requester port : Nat) (control : Half) (s : State) : KeepOut 4565569556 s (execFhPortEnable requester port control s) := by
  unfold execFhPortEnable
  repeat' (first
    | with_reducible exact Keep.refl _
    | with_reducible assumption
    | (intro _)
    | with_reducible refine Keep.out ?_
    | with_reducible apply State.atIsland_keep
    | with_reducible apply State.writePortCtrl_keep
    | rfl)

theorem execFrameReceive_keep (port sub : Nat) (frame : PortFrame) (s : State) : KeepOut 14268046964 s (execFrameReceive port sub frame s) := by
  unfold execFrameReceive
  repeat' (first
    | with_reducible exact Keep.refl _
    | with_reducible refine Keep.out ?_
    | with_reducible apply State.stallOn_keep
    | with_reducible apply State.receiveFrame_keep
    | with_reducible apply State.incf_keep
    | with_reducible refine Keep.ite ?_ ?_
    | split
    | rfl)

theorem execUplinkSymbolClose_keep (entry : Nat) (s : State) : KeepOut 14268046964 s (execUplinkSymbolClose entry s) := by
  unfold execUplinkSymbolClose
  repeat' (first
    | with_reducible exact Keep.refl _
    | with_reducible refine Keep.out ?_
    | with_reducible apply State.closeSymbol_keep
    | rfl)

theorem execCplaneSend_keep (port : Nat) (s : State) : KeepOut 14234492534 s (execCplaneSend port s) := by
  unfold execCplaneSend
  repeat' (first
    | with_reducible exact Keep.refl _
    | with_reducible refine Keep.out ?_
    | (fail_if_no_progress (extract_lets +onlyGivenNames x); first
        | clear_value x)
    | with_reducible apply State.sendCplane_keep
    | with_reducible apply State.setFh_keep
    | with_reducible apply State.popQueue_keep
    | with_reducible apply State.incf_keep
    | with_reducible refine Keep.ite ?_ ?_
    | split
    | with_reducible refine Keep.of_pair (by assumption) ?_
    | rfl)

theorem execDownlinkRequest_keep (port : Nat) (s : State) : KeepOut 14234492534 s (execDownlinkRequest port s) := by
  unfold execDownlinkRequest
  repeat' (first
    | with_reducible exact Keep.refl _
    | with_reducible refine Keep.out ?_
    | with_reducible apply State.popQueue_keep
    | with_reducible apply State.downlinkRequest_keep
    | with_reducible refine Keep.ite ?_ ?_
    | split
    | with_reducible refine Keep.of_pair (by assumption) ?_
    | rfl)

theorem execDownlinkSymbolSend_keep (port : Nat) (s : State) : KeepOut 14234491510 s (execDownlinkSymbolSend port s) := by
  unfold execDownlinkSymbolSend
  repeat' (first
    | with_reducible exact Keep.refl _
    | with_reducible assumption
    | with_reducible refine Keep.out ?_
    | (fail_if_no_progress (extract_lets +onlyGivenNames x); first
        | (with_reducible refine Keep.cut (t := x) ?_ ?_; (on_goal 1 => (unfold x; clear x)); (on_goal 2 => (intro hx; clear_value x)))
        | clear_value x)
    | with_reducible apply State.stallOn_keep
    | with_reducible apply State.setFh_keep
    | with_reducible apply State.incf_keep
    | with_reducible apply State.sendDown_keep
    | with_reducible apply State.refuseTx_keep
    | with_reducible refine Keep.ite ?_ ?_
    | split
    | rfl)

theorem execStWrite_keep (requester part index : Nat) (s : State) : KeepOut 4566619156 s (execStWrite requester part index s) := by
  unfold execStWrite
  repeat' (first
    | with_reducible exact Keep.refl _
    | with_reducible assumption
    | (intro _)
    | with_reducible refine Keep.out ?_
    | with_reducible apply State.atIsland_keep
    | with_reducible apply State.writeStCmd_keep
    | rfl)

theorem execStRead_keep (requester part index : Nat) (s : State) : KeepOut 4566619156 s (execStRead requester part index s) := by
  unfold execStRead
  repeat' (first
    | with_reducible exact Keep.refl _
    | with_reducible assumption
    | (intro _)
    | with_reducible refine Keep.out ?_
    | with_reducible apply State.atIsland_keep
    | with_reducible apply State.writeStCmd_keep
    | rfl)

theorem execStInvalidate_keep (requester part index : Nat) (s : State) : KeepOut 4566619156 s (execStInvalidate requester part index s) := by
  unfold execStInvalidate
  repeat' (first
    | with_reducible exact Keep.refl _
    | with_reducible assumption
    | (intro _)
    | with_reducible refine Keep.out ?_
    | with_reducible apply State.atIsland_keep
    | with_reducible apply State.writeStCmd_keep
    | rfl)

theorem execPcsRemoteFault_keep (port : Nat) (localFault remoteFault : Bool) (s : State) : KeepOut 4297134100 s (execPcsRemoteFault port localFault remoteFault s) := by
  unfold execPcsRemoteFault
  repeat' (first
    | with_reducible exact Keep.refl _
    | with_reducible refine Keep.out ?_
    | with_reducible apply State.refreshPort_keep
    | with_reducible apply State.sf_keep
    | with_reducible refine Keep.ite ?_ ?_
    | rfl)

end Sys2Proof.Machine
end

