-- ==== Sys2Proof/Laws/KeepSwatchReply.lean ====
section
/-!
SUPPORT. The parts of the state that the operations of Machine/SwatchReply.lean may write.
-/

namespace Sys2Proof.Machine

open Reg Ob

theorem State.setMailbox_keep {wr : Nat} {s₀ : State} (s : State) (f : Nat) (x : Mailbox) (hk : Keep wr s₀ s) (hs : 4096 &&& wr = 4096) :
    Keep wr s₀ (State.setMailbox s f x) := by
  refine Keep.app hk ?_ hs
  unfold State.setMailbox
  repeat' (first
    | with_reducible exact Keep.refl _
    | (fail_if_no_progress (extract_lets +onlyGivenNames x); first
        | clear_value x)
    | fail_if_no_progress (with_reducible refine Keep.set_host (by decide) ?_))

theorem State.mailboxDone_keep {wr : Nat} {s₀ : State} (s : State) (f : Nat) (l : List Byte) (hk : Keep wr s₀ s) (hs : 4116 &&& wr = 4116) :
    Keep wr s₀ (State.mailboxDone s f l) := by
  refine Keep.app hk ?_ hs
  unfold State.mailboxDone
  repeat' (first
    | with_reducible exact Keep.refl _
    | with_reducible assumption
    | (fail_if_no_progress (extract_lets +onlyGivenNames x); first
        | (with_reducible refine Keep.cut (t := x) ?_ ?_; (on_goal 1 => (unfold x; clear x)); (on_goal 2 => (intro hx; clear_value x)))
        | clear_value x)
    | with_reducible apply State.setMailbox_keep
    | with_reducible apply State.sf_keep
    | with_reducible apply State.sendVector_keep
    | with_reducible refine Keep.ite ?_ ?_
    | rfl)

theorem State.answer_keep {wr : Nat} {s₀ : State} (s : State) (r : Reply) (m : List Byte) (hk : Keep wr s₀ s) (hs : 2101268 &&& wr = 2101268) :
    Keep wr s₀ (State.answer s r m) := by
  refine Keep.app hk ?_ hs
  unfold State.answer
  repeat' (first
    | with_reducible exact Keep.refl _
    | with_reducible apply State.mailboxDone_keep
    | with_reducible apply State.send_keep
    | with_reducible apply State.sendFrame_keep
    | with_reducible apply State.post_keep
    | split
    | rfl)

theorem State.modSession_keep {wr : Nat} {s₀ : State} (s : State) (id : Nat) (f : Session → Session) (hk : Keep wr s₀ s) (hs : 17179869184 &&& wr = 17179869184) :
    Keep wr s₀ (State.modSession s id f) := by
  refine Keep.app hk ?_ hs
  unfold State.modSession
  repeat' (first
    | with_reducible exact Keep.refl _
    | fail_if_no_progress (with_reducible refine Keep.set_sessions (by decide) ?_))

theorem State.startDone_keep {wr : Nat} {s₀ : State} (s : State) (p code : Nat) (hk : Keep wr s₀ s) (hs : 17181970452 &&& wr = 17181970452) :
    Keep wr s₀ (State.startDone s p code) := by
  refine Keep.app hk ?_ hs
  unfold State.startDone
  repeat' (first
    | with_reducible exact Keep.refl _
    | with_reducible assumption
    | (fail_if_no_progress (extract_lets +onlyGivenNames x); first
        | (with_reducible refine Keep.cut (t := x) ?_ ?_; (on_goal 1 => (unfold x; clear x)); (on_goal 2 => (intro hx; clear_value x)))
        | clear_value x)
    | with_reducible apply State.send_keep
    | with_reducible apply State.answer_keep
    | with_reducible apply State.modSession_keep
    | split
    | refine Keep.foldl ?_ (fun t x ht => ?_)
    | rfl)

theorem State.unanswered_keep {wr : Nat} {s₀ : State} (s : State) (r : Reply) (hk : Keep wr s₀ s) (hs : 4116 &&& wr = 4116) :
    Keep wr s₀ (State.unanswered s r) := by
  refine Keep.app hk ?_ hs
  unfold State.unanswered
  repeat' (first
    | with_reducible exact Keep.refl _
    | with_reducible apply State.mailboxDone_keep
    | split
    | rfl)

theorem State.keepSessions_keep {wr : Nat} {s₀ : State} (s : State) (keep : Session → Bool) (hk : Keep wr s₀ s) (hs : 26843549748 &&& wr = 26843549748) :
    Keep wr s₀ (State.keepSessions s keep) := by
  refine Keep.app hk ?_ hs
  unfold State.keepSessions
  repeat' (first
    | with_reducible exact Keep.refl _
    | with_reducible assumption
    | (fail_if_no_progress (extract_lets +onlyGivenNames x); first
        | (with_reducible refine Keep.cut (t := x) ?_ ?_; (on_goal 1 => (unfold x; clear x)); (on_goal 2 => (intro hx; clear_value x)))
        | clear_value x)
    | with_reducible apply State.unanswered_keep
    | with_reducible apply State.so_keep
    | with_reducible apply State.sf_keep
    | with_reducible refine Keep.ite ?_ ?_
    | refine Keep.foldl ?_ (fun t x ht => ?_)
    | rfl
    | fail_if_no_progress (with_reducible refine Keep.set_sessions (by decide) ?_))

end Sys2Proof.Machine
end

