-- ==== Sys2Proof/Laws/KeepHealth.lean ====
section
/-!
SUPPORT. The parts of the state that the operations of Machine/Health.lean may write.
-/

namespace Sys2Proof.Machine

open Reg Ob

theorem State.endSessions_keep {wr : Nat} {s₀ : State} (s : State) (hk : Keep wr s₀ s) (hs : 26843549748 &&& wr = 26843549748) :
    Keep wr s₀ (State.endSessions s) := by
  refine Keep.app hk ?_ hs
  unfold State.endSessions
  repeat' (first
    | with_reducible exact Keep.refl _
    | with_reducible apply State.keepSessions_keep
    | rfl)

theorem State.failover_keep {wr : Nat} {s₀ : State} (s : State) (hk : Keep wr s₀ s) (hs : 31140679732 &&& wr = 31140679732) :
    Keep wr s₀ (State.failover s) := by
  refine Keep.app hk ?_ hs
  unfold State.failover
  repeat' (first
    | with_reducible exact Keep.refl _
    | with_reducible assumption
    | (fail_if_no_progress (extract_lets +onlyGivenNames x); first
        | (with_reducible refine Keep.cut (t := x) ?_ ?_; (on_goal 1 => (unfold x; clear x)); (on_goal 2 => (intro hx; clear_value x)))
        | clear_value x)
    | with_reducible apply State.endSessions_keep
    | with_reducible apply State.so_keep
    | with_reducible apply State.raise_keep
    | rfl
    | fail_if_no_progress (with_reducible refine Keep.set_health (by decide) ?_))

theorem State.restartThimble_keep {wr : Nat} {s₀ : State} (s : State) (hk : Keep wr s₀ s) (hs : 31138517044 &&& wr = 31138517044) :
    Keep wr s₀ (State.restartThimble s) := by
  refine Keep.app hk ?_ hs
  unfold State.restartThimble
  repeat' (first
    | with_reducible exact Keep.refl _
    | with_reducible assumption
    | (fail_if_no_progress (extract_lets +onlyGivenNames x); first
        | (with_reducible refine Keep.cut (t := x) ?_ ?_; (on_goal 1 => (unfold x; clear x)); (on_goal 2 => (intro hx; clear_value x)))
        | clear_value x)
    | with_reducible apply State.endSessions_keep
    | with_reducible apply State.so_keep
    | rfl
    | fail_if_no_progress (with_reducible refine Keep.set_health (by decide) ?_))

theorem State.wakeFor_keep {wr : Nat} {s₀ : State} (s : State) (u : Nat) (hk : Keep wr s₀ s) (hs : 4565569556 &&& wr = 4565569556) :
    Keep wr s₀ (State.wakeFor s u) := by
  refine Keep.app hk ?_ hs
  unfold State.wakeFor
  repeat' (first
    | with_reducible exact Keep.refl _
    | with_reducible assumption
    | (fail_if_no_progress (extract_lets +onlyGivenNames x); first
        | (with_reducible refine Keep.cut (t := x) ?_ ?_; (on_goal 1 => (unfold x; clear x)); (on_goal 2 => (intro hx; clear_value x)))
        | clear_value x)
    | with_reducible apply State.startWake_keep
    | with_reducible apply State.stallAt_keep
    | with_reducible apply State.endStall_keep
    | with_reducible refine Keep.ite ?_ ?_
    | rfl)

theorem State.dropSite_keep {wr : Nat} {s₀ : State} (s : State) (g : Nat) (hk : Keep wr s₀ s) (hs : 4295148560 &&& wr = 4295148560) :
    Keep wr s₀ (State.dropSite s g) := by
  refine Keep.app hk ?_ hs
  unfold State.dropSite
  repeat' (first
    | with_reducible exact Keep.refl _
    | with_reducible apply State.advanceEpoch_keep
    | with_reducible apply State.incf_keep
    | with_reducible apply State.holdEngine_keep
    | rfl)

theorem State.unserved_keep {wr : Nat} {s₀ : State} (s : State) (g : Nat) (hk : Keep wr s₀ s) (hs : 16 &&& wr = 16) :
    Keep wr s₀ (State.unserved s g) := by
  refine Keep.app hk ?_ hs
  unfold State.unserved
  repeat' (first
    | with_reducible exact Keep.refl _
    | with_reducible apply State.sf_keep
    | rfl)

theorem State.takeover_keep {wr : Nat} {s₀ : State} (s : State) (p k : Nat) (hk : Keep wr s₀ s) (hs : 4297184788 &&& wr = 4297184788) :
    Keep wr s₀ (State.takeover s p k) := by
  refine Keep.app hk ?_ hs
  unfold State.takeover
  repeat' (first
    | with_reducible exact Keep.refl _
    | with_reducible assumption
    | with_reducible apply Memory.zeroBytes_wf
    | with_reducible exact Keep.wf (by assumption)
    | (fail_if_no_progress (extract_lets +onlyGivenNames x); first
        | (with_reducible refine Keep.cut (t := x) ?_ ?_; (on_goal 1 => (unfold x; clear x)); (on_goal 2 => (intro hx; clear_value x)))
        | clear_value x)
    | with_reducible apply State.sf_keep
    | with_reducible apply State.clearEngine_keep
    | with_reducible apply State.engEvent_keep
    | with_reducible refine Keep.ite ?_ ?_
    | rfl
    | fail_if_no_progress (with_reducible refine Keep.set_mem (by decide) ?_ ?_))

theorem State.retireSite_keep {wr : Nat} {s₀ : State} (s : State) (p k : Nat) (hk : Keep wr s₀ s)
    (hs : 4297315860 &&& wr = 4297315860) : Keep wr s₀ (s.retireSite p k).1 := by
  refine Keep.app hk ?_ hs
  unfold State.retireSite
  have hm : ∀ t : State, Keep 4297315860 s t → Keep 4297315860 s
      (t.sf PNL_STATE_SITES_RETIRED p (t.rf PNL_STATE_SITES_RETIRED p ||| 2 ^ k)) :=
    fun t ht => State.sf_keep _ _ _ _ ht (by decide)
  dsimp only
  repeat' (first
    | with_reducible exact Keep.refl _
    | with_reducible assumption
    | with_reducible apply State.takeover_keep
    | with_reducible apply State.unserved_keep
    | with_reducible apply hm
    | with_reducible apply State.dropSite_keep
    | with_reducible apply State.sf_keep
    | rfl
    | split)

theorem State.fenceUnit_keep {wr : Nat} {s₀ : State} (s : State) (u : Nat) (hk : Keep wr s₀ s) (hs : 4294967312 &&& wr = 4294967312) :
    Keep wr s₀ (State.fenceUnit s u) := by
  refine Keep.app hk ?_ hs
  unfold State.fenceUnit
  repeat' (first
    | with_reducible exact Keep.refl _
    | with_reducible apply State.sf_keep
    | with_reducible apply State.advanceEpoch_keep
    | rfl)

theorem State.unitJobEnds_keep {wr : Nat} {s₀ : State} (s : State) (u : Nat) (retry : Bool) (hk : Keep wr s₀ s) (hs : 131072 &&& wr = 131072) :
    Keep wr s₀ (State.unitJobEnds s u retry) := by
  refine Keep.app hk ?_ hs
  unfold State.unitJobEnds
  repeat' (first
    | with_reducible exact Keep.refl _
    | with_reducible apply State.reportJob_keep
    | with_reducible refine Keep.ite ?_ ?_
    | split
    | rfl)

theorem State.clusterLost_keep {wr : Nat} {s₀ : State} (s : State) (p : Nat) (hk : Keep wr s₀ s) (hs : 4297134100 &&& wr = 4297134100) :
    Keep wr s₀ (State.clusterLost s p) := by
  refine Keep.app hk ?_ hs
  unfold State.clusterLost
  repeat' (first
    | with_reducible exact Keep.refl _
    | with_reducible assumption
    | with_reducible apply State.raise_keep
    | with_reducible refine Keep.ite ?_ ?_
    | refine Keep.foldl ?_ (fun t x ht => ?_)
    | rfl)

theorem State.dropPanelQueues_keep {wr : Nat} {s₀ : State} (s : State) (p : Nat) (hk : Keep wr s₀ s) (hs : 4297135124 &&& wr = 4297135124) :
    Keep wr s₀ (State.dropPanelQueues s p) := by
  refine Keep.app hk ?_ hs
  unfold State.dropPanelQueues
  repeat' (first
    | with_reducible exact Keep.refl _
    | with_reducible assumption
    | (fail_if_no_progress (extract_lets +onlyGivenNames x); first
        | clear_value x)
    | with_reducible apply State.dropQueue_keep
    | with_reducible refine Keep.ite ?_ ?_
    | refine Keep.foldl ?_ (fun t x ht => ?_)
    | rfl)

theorem State.retirePanel_keep {wr : Nat} {s₀ : State} (s : State) (p : Nat) (hk : Keep wr s₀ s) (hs : 4297315348 &&& wr = 4297315348) :
    Keep wr s₀ (State.retirePanel s p) := by
  refine Keep.app hk ?_ hs
  unfold State.retirePanel
  repeat' (first
    | with_reducible exact Keep.refl _
    | with_reducible assumption
    | (fail_if_no_progress (extract_lets +onlyGivenNames x); first
        | (with_reducible refine Keep.cut (t := x) ?_ ?_; (on_goal 1 => (unfold x; clear x)); (on_goal 2 => (intro hx; clear_value x))))
    | with_reducible apply State.sf_keep
    | with_reducible apply State.dropSite_keep
    | with_reducible apply State.fenceUnit_keep
    | with_reducible apply State.setGus_keep
    | with_reducible apply State.dropPanelQueues_keep
    | refine Keep.foldl ?_ (fun t x ht => ?_)
    | rfl)

theorem State.resetEngineChannels_keep {wr : Nat} {s₀ : State} (s : State) (e : Nat) (hk : Keep wr s₀ s) (hs : 14283782774 &&& wr = 14283782774) :
    Keep wr s₀ (State.resetEngineChannels s e) := by
  refine Keep.app hk ?_ hs
  unfold State.resetEngineChannels
  repeat' (first
    | with_reducible exact Keep.refl _
    | with_reducible assumption
    | (fail_if_no_progress (extract_lets +onlyGivenNames x); first
        | clear_value x)
    | with_reducible apply State.dmaReset_keep
    | with_reducible refine Keep.ite ?_ ?_
    | refine Keep.foldl ?_ (fun t x ht => ?_)
    | rfl)

theorem State.pairGone_keep {wr : Nat} {s₀ : State} (s : State) (pair : Nat) (hk : Keep wr s₀ s) (hs : 13958643744 &&& wr = 13958643744) :
    Keep wr s₀ (State.pairGone s pair) := by
  refine Keep.app hk ?_ hs
  unfold State.pairGone
  repeat' (first
    | with_reducible exact Keep.refl _
    | with_reducible assumption
    | (fail_if_no_progress (extract_lets +onlyGivenNames x); first
        | (with_reducible refine Keep.cut (t := x) ?_ ?_; (on_goal 1 => (unfold x; clear x)); (on_goal 2 => (intro hx; clear_value x)))
        | clear_value x)
    | with_reducible apply State.so_keep
    | rfl
    | fail_if_no_progress (with_reducible refine Keep.set_health (by decide) ?_))

theorem State.retireUnit_keep {wr : Nat} {s₀ : State} (s : State) (cls ident cause : Nat) (hk : Keep wr s₀ s) (hs : 14284750454 &&& wr = 14284750454) :
    Keep wr s₀ (State.retireUnit s cls ident cause) := by
  refine Keep.app hk ?_ hs
  unfold State.retireUnit
  repeat' (first
    | with_reducible exact Keep.refl _
    | with_reducible assumption
    | (fail_if_no_progress (extract_lets +onlyGivenNames x); first
        | (with_reducible refine Keep.cut (t := x) ?_ ?_; (on_goal 1 => (unfold x; clear x)); (on_goal 2 => (intro hx; clear_value x)))
        | (with_reducible refine Keep.cut (t := x.1) ?_ ?_; (on_goal 1 => (unfold x; clear x)); (on_goal 2 => (intro hx; clear_value x)))
        | clear_value x)
    | with_reducible apply State.wakeFor_keep
    | with_reducible apply State.retireSite_keep
    | with_reducible apply State.recordRetirement_keep
    | with_reducible apply State.fenceUnit_keep
    | with_reducible apply State.retireGusset_keep
    | with_reducible apply State.unitJobEnds_keep
    | with_reducible apply State.accEvent_keep
    | with_reducible apply State.sf_keep
    | with_reducible apply State.resetHem_keep
    | with_reducible apply State.retireLane_keep
    | with_reducible apply State.retirePatch_keep
    | with_reducible apply State.clusterLost_keep
    | with_reducible apply State.retirePanel_keep
    | with_reducible apply State.resetEngineChannels_keep
    | with_reducible apply State.degradeRank_keep
    | with_reducible apply State.pairGone_keep
    | split
    | rfl
    | fail_if_no_progress (with_reducible refine Keep.set_health (by decide) ?_))

theorem State.faultRetire_keep {wr : Nat} {s₀ : State} (s : State) (v : Nat) (hk : Keep wr s₀ s) (hs : 31464619638 &&& wr = 31464619638) :
    Keep wr s₀ (State.faultRetire s v).2 := by
  refine Keep.app hk ?_ hs
  unfold State.faultRetire
  repeat' (first
    | with_reducible exact Keep.refl _
    | with_reducible assumption
    | (fail_if_no_progress (extract_lets +onlyGivenNames x); first
        | (with_reducible refine Keep.cut (t := x) ?_ ?_; (on_goal 1 => (unfold x; clear x)); (on_goal 2 => (intro hx; clear_value x)))
        | clear_value x)
    | with_reducible apply State.failover_keep
    | with_reducible apply State.restartThimble_keep
    | with_reducible apply State.retireUnit_keep
    | with_reducible refine Keep.ite ?_ ?_
    | with_reducible refine Keep.ite_snd ?_ ?_
    | rfl)

theorem State.rejoin_keep {wr : Nat} {s₀ : State} (s : State) (cls ident : Nat) (hk : Keep wr s₀ s) (hs : 13958643760 &&& wr = 13958643760) :
    Keep wr s₀ (State.rejoin s cls ident) := by
  refine Keep.app hk ?_ hs
  unfold State.rejoin
  repeat' (first
    | with_reducible exact Keep.refl _
    | with_reducible assumption
    | (fail_if_no_progress (extract_lets +onlyGivenNames x); first
        | (with_reducible refine Keep.cut (t := x) ?_ ?_; (on_goal 1 => (unfold x; clear x)); (on_goal 2 => (intro hx; clear_value x)))
        | clear_value x)
    | with_reducible apply State.advanceEpoch_keep
    | with_reducible apply State.sf_keep
    | with_reducible apply State.so_keep
    | with_reducible apply State.setQstate_keep
    | with_reducible refine Keep.ite ?_ ?_
    | split
    | refine Keep.foldl ?_ (fun t x ht => ?_)
    | rfl)

theorem State.assignSpare_keep {wr : Nat} {s₀ : State} (s : State) (p : Nat) (hk : Keep wr s₀ s) (hs : 16 &&& wr = 16) :
    Keep wr s₀ (State.assignSpare s p) := by
  refine Keep.app hk ?_ hs
  unfold State.assignSpare
  repeat' (first
    | with_reducible exact Keep.refl _
    | with_reducible assumption
    | (fail_if_no_progress (extract_lets +onlyGivenNames x); first
        | (with_reducible refine Keep.cut (t := x) ?_ ?_; (on_goal 1 => (unfold x; clear x)); (on_goal 2 => (intro hx; clear_value x)))
        | clear_value x)
    | with_reducible apply State.sf_keep
    | with_reducible apply State.unserved_keep
    | with_reducible refine Keep.ite ?_ ?_
    | split
    | refine Keep.foldl ?_ (fun t x ht => ?_)
    | rfl)

theorem State.resetPanel_keep {wr : Nat} {s₀ : State} (s : State) (p : Nat) (hk : Keep wr s₀ s) (hs : 14229429684 &&& wr = 14229429684) :
    Keep wr s₀ (State.resetPanel s p) := by
  refine Keep.app hk ?_ hs
  unfold State.resetPanel
  repeat' (first
    | with_reducible exact Keep.refl _
    | with_reducible assumption
    | (fail_if_no_progress (extract_lets +onlyGivenNames x); first
        | (with_reducible refine Keep.cut (t := x) ?_ ?_; (on_goal 1 => (unfold x; clear x)); (on_goal 2 => (intro hx; clear_value x)))
        | clear_value x)
    | with_reducible apply State.dropHalves_keep
    | with_reducible apply State.wakeFor_keep
    | with_reducible apply State.incf_keep
    | with_reducible apply State.holdEngine_keep
    | with_reducible apply State.resetGusset_keep
    | with_reducible apply State.rejoin_keep
    | with_reducible apply State.assignSpare_keep
    | with_reducible apply State.clearEngine_keep
    | with_reducible apply State.raise_keep
    | with_reducible refine Keep.ite ?_ ?_
    | refine Keep.foldl ?_ (fun t x ht => ?_)
    | rfl
    | fail_if_no_progress (with_reducible refine Keep.set_health (by decide) ?_))

theorem State.faultReinstate_keep {wr : Nat} {s₀ : State} (s : State) (r : Nat) (hk : Keep wr s₀ s) (hs : 14229429748 &&& wr = 14229429748) :
    Keep wr s₀ (State.faultReinstate s r).2 := by
  refine Keep.app hk ?_ hs
  unfold State.faultReinstate
  repeat' (first
    | with_reducible exact Keep.refl _
    | with_reducible assumption
    | (fail_if_no_progress (extract_lets +onlyGivenNames x); first
        | (with_reducible refine Keep.cut (t := x) ?_ ?_; (on_goal 1 => (unfold x; clear x)); (on_goal 2 => (intro hx; clear_value x)))
        | clear_value x)
    | with_reducible apply State.sdom_keep
    | with_reducible apply State.resetPanel_keep
    | with_reducible refine Keep.ite_snd ?_ ?_
    | split
    | rfl
    | fail_if_no_progress (with_reducible refine Keep.set_health (by decide) ?_))

theorem State.noteUpset_keep {wr : Nat} {s₀ : State} (s : State) (cls ident : Nat) (hk : Keep wr s₀ s) (hs : 13960810612 &&& wr = 13960810612) :
    Keep wr s₀ (State.noteUpset s cls ident) := by
  refine Keep.app hk ?_ hs
  unfold State.noteUpset
  repeat' (first
    | with_reducible exact Keep.refl _
    | with_reducible assumption
    | (fail_if_no_progress (extract_lets +onlyGivenNames x); first
        | (with_reducible refine Keep.cut (t := x) ?_ ?_; (on_goal 1 => (unfold x; clear x)); (on_goal 2 => (intro hx; clear_value x)))
        | clear_value x)
    | with_reducible apply State.addRecent_keep
    | with_reducible apply State.raise_keep
    | with_reducible refine Keep.ite ?_ ?_
    | split
    | rfl
    | fail_if_no_progress (with_reducible refine Keep.set_health (by decide) ?_))

theorem State.countUpset_keep {wr : Nat} {s₀ : State} (s : State) (cls ident : Nat) (hk : Keep wr s₀ s) (hs : 14284750454 &&& wr = 14284750454) :
    Keep wr s₀ (State.countUpset s cls ident) := by
  refine Keep.app hk ?_ hs
  unfold State.countUpset
  repeat' (first
    | with_reducible exact Keep.refl _
    | with_reducible assumption
    | (fail_if_no_progress (extract_lets +onlyGivenNames x); first
        | (with_reducible refine Keep.cut (t := x) ?_ ?_; (on_goal 1 => (unfold x; clear x)); (on_goal 2 => (intro hx; clear_value x)))
        | clear_value x)
    | with_reducible apply State.noteUpset_keep
    | with_reducible apply State.retireUnit_keep
    | with_reducible apply State.raise_keep
    | with_reducible refine Keep.ite ?_ ?_
    | rfl
    | fail_if_no_progress (with_reducible refine Keep.set_health (by decide) ?_))

theorem State.flushInbox_keep {wr : Nat} {s₀ : State} (s : State) (hk : Keep wr s₀ s) (hs : 4294967300 &&& wr = 4294967300) :
    Keep wr s₀ (State.flushInbox s) := by
  refine Keep.app hk ?_ hs
  unfold State.flushInbox
  repeat' (first
    | with_reducible exact Keep.refl _
    | (fail_if_no_progress (extract_lets +onlyGivenNames x); first
        | clear_value x)
    | fail_if_no_progress (with_reducible refine Keep.set_out_health (by decide) ?_))

theorem State.pairFails_keep {wr : Nat} {s₀ : State} (s : State) (pair : Nat) (hk : Keep wr s₀ s) (hs : 31464619638 &&& wr = 31464619638) :
    Keep wr s₀ (State.pairFails s pair) := by
  refine Keep.app hk ?_ hs
  unfold State.pairFails
  repeat' (first
    | with_reducible exact Keep.refl _
    | with_reducible assumption
    | (fail_if_no_progress (extract_lets +onlyGivenNames x); first
        | (with_reducible refine Keep.cut (t := x) ?_ ?_; (on_goal 1 => (unfold x; clear x)); (on_goal 2 => (intro hx; clear_value x)))
        | clear_value x)
    | with_reducible apply State.failover_keep
    | with_reducible apply State.restartThimble_keep
    | with_reducible apply State.so_keep
    | with_reducible apply State.retireUnit_keep
    | with_reducible refine Keep.ite ?_ ?_
    | rfl
    | fail_if_no_progress (with_reducible refine Keep.set_health (by decide) ?_))

theorem State.handleUpset_keep {wr : Nat} {s₀ : State} (s : State) (cls ident : Nat) (hk : Keep wr s₀ s) (hs : 31464620022 &&& wr = 31464620022) :
    Keep wr s₀ (State.handleUpset s cls ident) := by
  refine Keep.app hk ?_ hs
  unfold State.handleUpset
  repeat' (first
    | with_reducible exact Keep.refl _
    | (fail_if_no_progress (extract_lets +onlyGivenNames x); first
        | clear_value x)
    | with_reducible apply State.resetEngine_keep
    | with_reducible apply State.resetGusset_keep
    | with_reducible apply State.resetAcc_keep
    | with_reducible apply State.unitJobEnds_keep
    | with_reducible apply State.resetHem_keep
    | with_reducible apply State.faultPatch_keep
    | with_reducible apply State.resetPanel_keep
    | with_reducible apply State.pairFails_keep
    | with_reducible refine Keep.ite ?_ ?_
    | split
    | rfl)

theorem execUpsetReport_keep (cls ident : Nat) (s : State) : KeepOut 31464620022 s (execUpsetReport cls ident s) := by
  unfold execUpsetReport
  repeat' (first
    | with_reducible exact Keep.refl _
    | with_reducible assumption
    | with_reducible refine Keep.out ?_
    | (fail_if_no_progress (extract_lets +onlyGivenNames x); first
        | (with_reducible refine Keep.cut (t := x) ?_ ?_; (on_goal 1 => (unfold x; clear x)); (on_goal 2 => (intro hx; clear_value x))))
    | with_reducible apply State.handleUpset_keep
    | with_reducible apply State.countUpset_keep
    | with_reducible apply State.noteUpset_keep
    | with_reducible refine Keep.ite ?_ ?_
    | rfl)

theorem execUnitRetire_keep (cls ident cause : Nat) (s : State) : KeepOut 14284750454 s (execUnitRetire cls ident cause s) := by
  unfold execUnitRetire
  repeat' (first
    | with_reducible exact Keep.refl _
    | with_reducible refine Keep.out ?_
    | with_reducible apply State.retireUnit_keep
    | with_reducible refine Keep.ite ?_ ?_
    | rfl)

theorem execFaultRetireCommand_keep (value : Nat) (s : State) : KeepOut 31464619638 s (execFaultRetireCommand value s) := by
  unfold execFaultRetireCommand
  repeat' (first
    | with_reducible exact Keep.refl _
    | with_reducible assumption
    | with_reducible refine Keep.out ?_
    | (fail_if_no_progress (extract_lets +onlyGivenNames x); first
        | (with_reducible refine Keep.cut (t := x.2) ?_ ?_; (on_goal 1 => (unfold x; clear x)); (on_goal 2 => (intro hx; clear_value x))))
    | with_reducible apply State.faultRetire_keep
    | with_reducible apply State.send_keep
    | rfl)

theorem execFaultReinstateCommand_keep (record : Nat) (s : State) : KeepOut 14229429748 s (execFaultReinstateCommand record s) := by
  unfold execFaultReinstateCommand
  repeat' (first
    | with_reducible exact Keep.refl _
    | with_reducible assumption
    | with_reducible refine Keep.out ?_
    | (fail_if_no_progress (extract_lets +onlyGivenNames x); first
        | (with_reducible refine Keep.cut (t := x.2) ?_ ?_; (on_goal 1 => (unfold x; clear x)); (on_goal 2 => (intro hx; clear_value x))))
    | with_reducible apply State.faultReinstate_keep
    | with_reducible apply State.send_keep
    | rfl)

theorem execPanelReset_keep (requester panel : Nat) (s : State) : KeepOut 14229429684 s (execPanelReset requester panel s) := by
  unfold execPanelReset
  repeat' (first
    | with_reducible exact Keep.refl _
    | with_reducible assumption
    | (intro _)
    | with_reducible refine Keep.out ?_
    | with_reducible apply State.atIsland_keep
    | with_reducible apply State.resetPanel_keep
    | with_reducible refine Keep.ite ?_ ?_
    | rfl)

theorem execThimbleCheckpoint_keep (s : State) : KeepOut 4294967296 s (execThimbleCheckpoint s) := by
  unfold execThimbleCheckpoint
  repeat' (first
    | with_reducible exact Keep.refl _
    | with_reducible refine Keep.out ?_
    | (fail_if_no_progress (extract_lets +onlyGivenNames x); first
        | clear_value x)
    | with_reducible refine Keep.ite ?_ ?_
    | fail_if_no_progress (with_reducible refine Keep.set_health (by decide) ?_))

theorem execThimbleFailover_keep (pair : Nat) (s : State) : KeepOut 31464619638 s (execThimbleFailover pair s) := by
  unfold execThimbleFailover
  repeat' (first
    | with_reducible exact Keep.refl _
    | with_reducible refine Keep.out ?_
    | with_reducible apply State.pairFails_keep
    | rfl)

theorem execThimbleRestart_keep (passes : List Nat) (s : State) : KeepOut 13960810548 s (execThimbleRestart passes s) := by
  unfold execThimbleRestart
  repeat' (first
    | with_reducible exact Keep.refl _
    | with_reducible assumption
    | with_reducible refine Keep.out ?_
    | (fail_if_no_progress (extract_lets +onlyGivenNames x); first
        | (with_reducible refine Keep.cut (t := x) ?_ ?_; (on_goal 1 => (unfold x; clear x)); (on_goal 2 => (intro hx; clear_value x)))
        | clear_value x)
    | with_reducible apply State.so_keep
    | with_reducible apply State.raise_keep
    | with_reducible apply State.flushInbox_keep
    | with_reducible refine Keep.ite ?_ ?_
    | rfl
    | fail_if_no_progress (with_reducible refine Keep.set_health (by decide) ?_))

theorem execThimblePairSelfTestDone_keep (pair : Nat) (passes : Bool) (s : State) : KeepOut 14284750454 s (execThimblePairSelfTestDone pair passes s) := by
  unfold execThimblePairSelfTestDone
  repeat' (first
    | with_reducible exact Keep.refl _
    | with_reducible assumption
    | with_reducible refine Keep.out ?_
    | (fail_if_no_progress (extract_lets +onlyGivenNames x); first
        | (with_reducible refine Keep.cut (t := x) ?_ ?_; (on_goal 1 => (unfold x; clear x)); (on_goal 2 => (intro hx; clear_value x)))
        | clear_value x)
    | with_reducible apply State.so_keep
    | with_reducible apply State.retireUnit_keep
    | with_reducible refine Keep.ite ?_ ?_
    | rfl
    | fail_if_no_progress (with_reducible refine Keep.set_health (by decide) ?_))

end Sys2Proof.Machine
end

