-- ==== Sys2Proof/Laws/KeepHost.lean ====
section
/-!
SUPPORT. The parts of the state that the operations of Machine/Host.lean may write.
-/

namespace Sys2Proof.Machine

open Reg Ob

theorem State.hostLinkEvent_keep {wr : Nat} {s₀ : State} (s : State) (reason : Nat) (hk : Keep wr s₀ s) (hs : 4297134100 &&& wr = 4297134100) :
    Keep wr s₀ (State.hostLinkEvent s reason) := by
  refine Keep.app hk ?_ hs
  unfold State.hostLinkEvent
  repeat' (first
    | with_reducible exact Keep.refl _
    | with_reducible apply State.raiseReason_keep
    | rfl)

theorem State.trainModule_keep {wr : Nat} {s₀ : State} (s : State) (repaired width : Fld) (before r w : Nat) (hk : Keep wr s₀ s) (hs : 13960810548 &&& wr = 13960810548) :
    Keep wr s₀ (State.trainModule s repaired width before r w) := by
  refine Keep.app hk ?_ hs
  unfold State.trainModule
  repeat' (first
    | with_reducible exact Keep.refl _
    | with_reducible assumption
    | (fail_if_no_progress (extract_lets +onlyGivenNames x); first
        | (with_reducible refine Keep.cut (t := x) ?_ ?_; (on_goal 1 => (unfold x; clear x)); (on_goal 2 => (intro hx; clear_value x)))
        | clear_value x)
    | with_reducible apply State.sf_keep
    | with_reducible apply State.hostLinkEvent_keep
    | with_reducible apply State.inco_keep
    | with_reducible refine Keep.ite ?_ ?_
    | refine Keep.foldl ?_ (fun t x ht => ?_)
    | rfl)

theorem State.trainLink_keep {wr : Nat} {s₀ : State} (s : State) (r0 w0 r1 w1 : Nat) (hk : Keep wr s₀ s) (hs : 13960810548 &&& wr = 13960810548) :
    Keep wr s₀ (State.trainLink s r0 w0 r1 w1) := by
  refine Keep.app hk ?_ hs
  unfold State.trainLink
  repeat' (first
    | with_reducible exact Keep.refl _
    | (fail_if_no_progress (extract_lets +onlyGivenNames x); first
        | clear_value x)
    | with_reducible apply State.trainModule_keep
    | rfl)

theorem State.setRing_keep {wr : Nat} {s₀ : State} (s : State) (i : Nat) (x : Ring) (hk : Keep wr s₀ s) (hs : 4096 &&& wr = 4096) :
    Keep wr s₀ (State.setRing s i x) := by
  refine Keep.app hk ?_ hs
  unfold State.setRing
  repeat' (first
    | with_reducible exact Keep.refl _
    | (fail_if_no_progress (extract_lets +onlyGivenNames x); first
        | clear_value x)
    | fail_if_no_progress (with_reducible refine Keep.set_host (by decide) ?_))

theorem State.ringOff_keep {wr : Nat} {s₀ : State} (s : State) (i : Nat) (hk : Keep wr s₀ s) (hs : 4112 &&& wr = 4112) :
    Keep wr s₀ (State.ringOff s i) := by
  refine Keep.app hk ?_ hs
  unfold State.ringOff
  repeat' (first
    | with_reducible exact Keep.refl _
    | with_reducible assumption
    | (fail_if_no_progress (extract_lets +onlyGivenNames x); first
        | (with_reducible refine Keep.cut (t := x) ?_ ?_; (on_goal 1 => (unfold x; clear x)); (on_goal 2 => (intro hx; clear_value x)))
        | clear_value x)
    | with_reducible apply State.setRing_keep
    | with_reducible apply State.sf_keep
    | rfl
    | fail_if_no_progress (with_reducible refine Keep.set_host (by decide) ?_))

theorem State.clearFunction_keep {wr : Nat} {s₀ : State} (s : State) (f : Nat) (hk : Keep wr s₀ s) (hs : 4496 &&& wr = 4496) :
    Keep wr s₀ (State.clearFunction s f) := by
  refine Keep.app hk ?_ hs
  unfold State.clearFunction
  repeat' (first
    | with_reducible exact Keep.refl _
    | with_reducible assumption
    | (fail_if_no_progress (extract_lets +onlyGivenNames x); first
        | (with_reducible refine Keep.cut (t := x) ?_ ?_; (on_goal 1 => (unfold x; clear x)); (on_goal 2 => (intro hx; clear_value x)))
        | clear_value x)
    | with_reducible apply State.ringOff_keep
    | with_reducible apply State.dropHalves_keep
    | with_reducible apply State.sf_keep
    | refine Keep.foldl ?_ (fun t x ht => ?_)
    | rfl
    | fail_if_no_progress (with_reducible refine Keep.set_host (by decide) ?_))

theorem State.writeRingCfg_keep {wr : Nat} {s₀ : State} (s : State) (u i v : Nat) (hk : Keep wr s₀ s) (hs : 4112 &&& wr = 4112) :
    Keep wr s₀ (State.writeRingCfg s u i v) := by
  refine Keep.app hk ?_ hs
  unfold State.writeRingCfg
  repeat' (first
    | with_reducible exact Keep.refl _
    | with_reducible assumption
    | (fail_if_no_progress (extract_lets +onlyGivenNames x); first
        | (with_reducible refine Keep.cut (t := x) ?_ ?_; (on_goal 1 => (unfold x; clear x)); (on_goal 2 => (intro hx; clear_value x)))
        | clear_value x)
    | with_reducible apply State.ringOff_keep
    | with_reducible apply State.setRing_keep
    | with_reducible apply State.sf_keep
    | with_reducible refine Keep.ite ?_ ?_
    | rfl)

theorem State.stopRing_keep {wr : Nat} {s₀ : State} (s : State) (i code : Nat) (hk : Keep wr s₀ s) (hs : 4297134100 &&& wr = 4297134100) :
    Keep wr s₀ (State.stopRing s i code) := by
  refine Keep.app hk ?_ hs
  unfold State.stopRing
  repeat' (first
    | with_reducible exact Keep.refl _
    | with_reducible assumption
    | (fail_if_no_progress (extract_lets +onlyGivenNames x); first
        | (with_reducible refine Keep.cut (t := x) ?_ ?_; (on_goal 1 => (unfold x; clear x)); (on_goal 2 => (intro hx; clear_value x))))
    | with_reducible apply State.sf_keep
    | with_reducible apply State.ringOff_keep
    | with_reducible apply State.raise_keep
    | with_reducible refine Keep.ite ?_ ?_
    | rfl)

theorem State.ringDoorbell_keep {wr : Nat} {s₀ : State} (s : State) (u i index : Nat) (hk : Keep wr s₀ s) (hs : 4297134100 &&& wr = 4297134100) :
    Keep wr s₀ (State.ringDoorbell s u i index) := by
  refine Keep.app hk ?_ hs
  unfold State.ringDoorbell
  repeat' (first
    | with_reducible exact Keep.refl _
    | with_reducible assumption
    | (fail_if_no_progress (extract_lets +onlyGivenNames x); first
        | (with_reducible refine Keep.cut (t := x) ?_ ?_; (on_goal 1 => (unfold x; clear x)); (on_goal 2 => (intro hx; clear_value x)))
        | clear_value x)
    | with_reducible apply State.sf_keep
    | with_reducible apply State.stopRing_keep
    | with_reducible apply State.setRing_keep
    | with_reducible refine Keep.ite ?_ ?_
    | rfl)

theorem State.writeBack_keep {wr : Nat} {s₀ : State} (s : State) (i : Nat) (hk : Keep wr s₀ s) (hs : 4100 &&& wr = 4100) :
    Keep wr s₀ (State.writeBack s i) := by
  refine Keep.app hk ?_ hs
  unfold State.writeBack
  repeat' (first
    | with_reducible exact Keep.refl _
    | with_reducible apply State.hostRequest_keep
    | with_reducible refine Keep.ite ?_ ?_
    | rfl)

theorem State.ringLanded_keep {wr : Nat} {s₀ : State} (s : State) (q u : Nat) (hk : Keep wr s₀ s) (hs : 4116 &&& wr = 4116) :
    Keep wr s₀ (State.ringLanded s q u) := by
  refine Keep.app hk ?_ hs
  unfold State.ringLanded
  repeat' (first
    | with_reducible exact Keep.refl _
    | with_reducible assumption
    | (fail_if_no_progress (extract_lets +onlyGivenNames x); first
        | (with_reducible refine Keep.cut (t := x) ?_ ?_; (on_goal 1 => (unfold x; clear x)); (on_goal 2 => (intro hx; clear_value x)))
        | clear_value x)
    | with_reducible apply State.writeBack_keep
    | with_reducible apply State.sf_keep
    | with_reducible apply State.ringOff_keep
    | with_reducible refine Keep.ite ?_ ?_
    | split
    | rfl
    | fail_if_no_progress (with_reducible refine Keep.set_host (by decide) ?_))

theorem State.dropHeld_rec {s₀ : State} (s : State) (l : List HeldRequest) (hk : Keep 4297134100 s₀ s) :
    Keep 4297134100 s₀ (s.dropHeld l) := by
  induction l generalizing s with
  | nil => exact hk
  | cons x l ih =>
    cases x with
    | read u a n => exact ih _ (State.send_keep _ _ hk (by decide))
    | message f v a d => exact ih _ (State.incf_keep _ _ _ _ hk (by decide))
    | write u ring a d poisoned =>
      cases ring with
      | none => exact ih _ (State.incf_keep _ _ _ _ hk (by decide))
      | some i => exact ih _ (State.stopRing_keep _ _ _ (State.incf_keep _ _ _ _ hk (by decide)) (by decide))

theorem State.dropHeld_keep {wr : Nat} {s₀ : State} (s : State) (l : List HeldRequest) (hk : Keep wr s₀ s)
    (hs : 4297134100 &&& wr = 4297134100) : Keep wr s₀ (s.dropHeld l) :=
  Keep.app hk (State.dropHeld_rec _ _ (Keep.refl _)) hs

theorem State.releaseHeldRequests_keep {wr : Nat} {s₀ : State} (s : State) (hk : Keep wr s₀ s) (hs : 4100 &&& wr = 4100) :
    Keep wr s₀ (State.releaseHeldRequests s) := by
  refine Keep.app hk ?_ hs
  unfold State.releaseHeldRequests
  repeat' (first
    | with_reducible exact Keep.refl _
    | with_reducible assumption
    | (fail_if_no_progress (extract_lets +onlyGivenNames x); first
        | clear_value x)
    | with_reducible apply State.hostRequest_keep
    | refine Keep.foldl ?_ (fun t x ht => ?_)
    | rfl
    | fail_if_no_progress (with_reducible refine Keep.set_host (by decide) ?_))

theorem State.ringPush_keep {wr : Nat} {s₀ : State} (s : State) (i : Nat) (entry : List Word) (hk : Keep wr s₀ s) (hs : 5120 &&& wr = 5120) :
    Keep wr s₀ (State.ringPush s i entry) := by
  refine Keep.app hk ?_ hs
  unfold State.ringPush
  repeat' (first
    | with_reducible exact Keep.refl _
    | with_reducible assumption
    | (fail_if_no_progress (extract_lets +onlyGivenNames x); first
        | (with_reducible refine Keep.cut (t := x) ?_ ?_; (on_goal 1 => (unfold x; clear x)); (on_goal 2 => (intro hx; clear_value x)))
        | clear_value x)
    | with_reducible apply State.pushEntry_keep
    | with_reducible refine Keep.ite ?_ ?_
    | rfl
    | fail_if_no_progress (with_reducible refine Keep.set_host (by decide) ?_))

theorem State.ringWrite_keep {wr : Nat} {s₀ : State} (s : State) (i : Nat) (hk : Keep wr s₀ s) (hs : 14233443958 &&& wr = 14233443958) :
    Keep wr s₀ (State.ringWrite s i) := by
  refine Keep.app hk ?_ hs
  unfold State.ringWrite
  repeat' (first
    | with_reducible exact Keep.refl _
    | with_reducible assumption
    | (fail_if_no_progress (extract_lets +onlyGivenNames x); first
        | (with_reducible refine Keep.cut (t := x) ?_ ?_; (on_goal 1 => (unfold x; clear x)); (on_goal 2 => (intro hx; clear_value x)))
        | clear_value x)
    | with_reducible apply State.popQueue_keep
    | with_reducible apply State.hostRequest_keep
    | with_reducible apply State.writeBack_keep
    | with_reducible apply State.sf_keep
    | with_reducible apply State.setRing_keep
    | with_reducible apply State.sendVector_keep
    | with_reducible refine Keep.ite ?_ ?_
    | split
    | with_reducible refine Keep.of_pair (by assumption) ?_
    | rfl)

end Sys2Proof.Machine
end

