-- ==== Sys2Proof/Laws/KeepTimeBase.lean ====
section
/-!
SUPPORT. The parts of the state that the operations of Machine/TimeBase.lean may write.
-/

namespace Sys2Proof.Machine

open Reg Ob

theorem State.setTb_keep {wr : Nat} {s₀ : State} (s : State) (t : TimeBase) (hk : Keep wr s₀ s) (hs : 8192 &&& wr = 8192) :
    Keep wr s₀ (State.setTb s t) := by
  refine Keep.app hk ?_ hs
  unfold State.setTb
  repeat' (first
    | with_reducible exact Keep.refl _
    | fail_if_no_progress (with_reducible refine Keep.set_tb (by decide) ?_))

theorem State.setCmp_keep {wr : Nat} {s₀ : State} (s : State) (n : Nat) (x : Comparator) (hk : Keep wr s₀ s) (hs : 8192 &&& wr = 8192) :
    Keep wr s₀ (State.setCmp s n x) := by
  refine Keep.app hk ?_ hs
  unfold State.setCmp
  repeat' (first
    | with_reducible exact Keep.refl _
    | (fail_if_no_progress (extract_lets +onlyGivenNames x); first
        | clear_value x)
    | with_reducible apply State.setTb_keep
    | rfl)

theorem State.disarm_keep {wr : Nat} {s₀ : State} (s : State) (n : Nat) (hk : Keep wr s₀ s) (hs : 8208 &&& wr = 8208) :
    Keep wr s₀ (State.disarm s n) := by
  refine Keep.app hk ?_ hs
  unfold State.disarm
  repeat' (first
    | with_reducible exact Keep.refl _
    | (fail_if_no_progress (extract_lets +onlyGivenNames x); first
        | clear_value x)
    | with_reducible apply State.setCmp_keep
    | with_reducible apply State.sf_keep
    | rfl)

theorem State.setMatch_keep {wr : Nat} {s₀ : State} (s : State) (n v : Nat) (hk : Keep wr s₀ s) (hs : 8208 &&& wr = 8208) :
    Keep wr s₀ (State.setMatch s n v) := by
  refine Keep.app hk ?_ hs
  unfold State.setMatch
  repeat' (first
    | with_reducible exact Keep.refl _
    | with_reducible assumption
    | (fail_if_no_progress (extract_lets +onlyGivenNames x); first
        | (with_reducible refine Keep.cut (t := x) ?_ ?_; (on_goal 1 => (unfold x; clear x)); (on_goal 2 => (intro hx; clear_value x)))
        | clear_value x)
    | with_reducible apply State.setCmp_keep
    | with_reducible apply State.sf_keep
    | with_reducible refine Keep.ite ?_ ?_
    | rfl)

theorem State.reschedule_keep {wr : Nat} {s₀ : State} (s : State) (n : Nat) (hk : Keep wr s₀ s) (hs : 8208 &&& wr = 8208) :
    Keep wr s₀ (State.reschedule s n) := by
  refine Keep.app hk ?_ hs
  unfold State.reschedule
  repeat' (first
    | with_reducible exact Keep.refl _
    | with_reducible assumption
    | (fail_if_no_progress (extract_lets +onlyGivenNames x); first
        | (with_reducible refine Keep.cut (t := x) ?_ ?_; (on_goal 1 => (unfold x; clear x)); (on_goal 2 => (intro hx; clear_value x)))
        | clear_value x)
    | with_reducible apply State.setCmp_keep
    | with_reducible apply State.setMatch_keep
    | split
    | rfl)

theorem State.rescheduleAll_keep {wr : Nat} {s₀ : State} (s : State) (c : Nat) (hk : Keep wr s₀ s) (hs : 8208 &&& wr = 8208) :
    Keep wr s₀ (State.rescheduleAll s c) := by
  refine Keep.app hk ?_ hs
  unfold State.rescheduleAll
  repeat' (first
    | with_reducible exact Keep.refl _
    | with_reducible assumption
    | with_reducible apply State.reschedule_keep
    | with_reducible refine Keep.ite ?_ ?_
    | refine Keep.foldl ?_ (fun t x ht => ?_)
    | rfl)

theorem State.setCarrier_keep {wr : Nat} {s₀ : State} (s : State) (c : Nat) (x : Carrier) (hk : Keep wr s₀ s) (hs : 8192 &&& wr = 8192) :
    Keep wr s₀ (State.setCarrier s c x) := by
  refine Keep.app hk ?_ hs
  unfold State.setCarrier
  repeat' (first
    | with_reducible exact Keep.refl _
    | (fail_if_no_progress (extract_lets +onlyGivenNames x); first
        | clear_value x)
    | with_reducible apply State.setTb_keep
    | rfl)

theorem State.disableCarrier_keep {wr : Nat} {s₀ : State} (s : State) (c : Nat) (hk : Keep wr s₀ s) (hs : 8208 &&& wr = 8208) :
    Keep wr s₀ (State.disableCarrier s c) := by
  refine Keep.app hk ?_ hs
  unfold State.disableCarrier
  repeat' (first
    | with_reducible exact Keep.refl _
    | (fail_if_no_progress (extract_lets +onlyGivenNames x); first
        | clear_value x)
    | with_reducible apply State.rescheduleAll_keep
    | with_reducible apply State.setCarrier_keep
    | with_reducible apply State.sf_keep
    | rfl)

theorem State.setClass_keep {wr : Nat} {s₀ : State} (s : State) (st : Nat) (hk : Keep wr s₀ s) (hs : 9663676450 &&& wr = 9663676450) :
    Keep wr s₀ (State.setClass s st) := by
  refine Keep.app hk ?_ hs
  unfold State.setClass
  repeat' (first
    | with_reducible exact Keep.refl _
    | (fail_if_no_progress (extract_lets +onlyGivenNames x); first
        | clear_value x)
    | with_reducible apply State.so_keep
    | with_reducible apply State.fresh_keep
    | rfl)

theorem State.setPps_keep {wr : Nat} {s₀ : State} (s : State) (level : Bool) (hk : Keep wr s₀ s) (hs : 8196 &&& wr = 8196) :
    Keep wr s₀ (State.setPps s level) := by
  refine Keep.app hk ?_ hs
  unfold State.setPps
  repeat' (first
    | with_reducible exact Keep.refl _
    | (fail_if_no_progress (extract_lets +onlyGivenNames x); first
        | clear_value x)
    | with_reducible apply State.send_keep
    | with_reducible apply State.setTb_keep
    | with_reducible refine Keep.ite ?_ ?_
    | rfl)

theorem State.enterSync_keep {wr : Nat} {s₀ : State} (s : State) (st : Nat) (hk : Keep wr s₀ s) (hs : 13960818742 &&& wr = 13960818742) :
    Keep wr s₀ (State.enterSync s st) := by
  refine Keep.app hk ?_ hs
  unfold State.enterSync
  repeat' (first
    | with_reducible exact Keep.refl _
    | with_reducible assumption
    | (fail_if_no_progress (extract_lets +onlyGivenNames x); first
        | (with_reducible refine Keep.cut (t := x) ?_ ?_; (on_goal 1 => (unfold x; clear x)); (on_goal 2 => (intro hx; clear_value x)))
        | clear_value x)
    | with_reducible apply State.setTb_keep
    | with_reducible apply State.so_keep
    | with_reducible apply State.sf_keep
    | with_reducible apply State.setClass_keep
    | with_reducible apply State.setPps_keep
    | with_reducible apply State.raise_keep
    | with_reducible refine Keep.ite ?_ ?_
    | rfl)

theorem State.writeSource_keep {wr : Nat} {s₀ : State} (s : State) (v : Nat) (hk : Keep wr s₀ s) (hs : 13960818742 &&& wr = 13960818742) :
    Keep wr s₀ (State.writeSource s v) := by
  refine Keep.app hk ?_ hs
  unfold State.writeSource
  repeat' (first
    | with_reducible exact Keep.refl _
    | with_reducible assumption
    | (fail_if_no_progress (extract_lets +onlyGivenNames x); first
        | (with_reducible refine Keep.cut (t := x) ?_ ?_; (on_goal 1 => (unfold x; clear x)); (on_goal 2 => (intro hx; clear_value x)))
        | clear_value x)
    | with_reducible apply State.so_keep
    | with_reducible apply State.setTb_keep
    | with_reducible apply State.enterSync_keep
    | with_reducible apply State.setClass_keep
    | with_reducible refine Keep.ite ?_ ?_
    | rfl)

theorem State.setAdj_keep {wr : Nat} {s₀ : State} (s : State) (v : Int) (hk : Keep wr s₀ s) (hs : 8208 &&& wr = 8208) :
    Keep wr s₀ (State.setAdj s v) := by
  refine Keep.app hk ?_ hs
  unfold State.setAdj
  repeat' (first
    | with_reducible exact Keep.refl _
    | (fail_if_no_progress (extract_lets +onlyGivenNames x); first
        | clear_value x)
    | with_reducible apply State.sf_keep
    | with_reducible apply State.setTb_keep
    | rfl)

theorem State.loseSource_keep {wr : Nat} {s₀ : State} (s : State) (hk : Keep wr s₀ s) (hs : 13960818742 &&& wr = 13960818742) :
    Keep wr s₀ (State.loseSource s) := by
  refine Keep.app hk ?_ hs
  unfold State.loseSource
  repeat' (first
    | with_reducible exact Keep.refl _
    | with_reducible assumption
    | (fail_if_no_progress (extract_lets +onlyGivenNames x); first
        | (with_reducible refine Keep.cut (t := x) ?_ ?_; (on_goal 1 => (unfold x; clear x)); (on_goal 2 => (intro hx; clear_value x)))
        | clear_value x)
    | with_reducible apply State.setTb_keep
    | with_reducible apply State.setAdj_keep
    | with_reducible apply State.enterSync_keep
    | with_reducible refine Keep.ite ?_ ?_
    | rfl)

theorem State.writeHostState_keep {wr : Nat} {s₀ : State} (s : State) (v : Nat) (hk : Keep wr s₀ s) (hs : 13960818742 &&& wr = 13960818742) :
    Keep wr s₀ (State.writeHostState s v) := by
  refine Keep.app hk ?_ hs
  unfold State.writeHostState
  repeat' (first
    | with_reducible exact Keep.refl _
    | with_reducible assumption
    | (fail_if_no_progress (extract_lets +onlyGivenNames x); first
        | (with_reducible refine Keep.cut (t := x) ?_ ?_; (on_goal 1 => (unfold x; clear x)); (on_goal 2 => (intro hx; clear_value x)))
        | clear_value x)
    | with_reducible apply State.setTb_keep
    | with_reducible apply State.so_keep
    | with_reducible apply State.loseSource_keep
    | with_reducible apply State.enterSync_keep
    | with_reducible refine Keep.ite ?_ ?_
    | split
    | rfl)

theorem State.fireFlit_keep {wr : Nat} {s₀ : State} (s : State) (n : Nat) (hk : Keep wr s₀ s) (hs : 73016619028 &&& wr = 73016619028) :
    Keep wr s₀ (State.fireFlit s n) := by
  refine Keep.app hk ?_ hs
  unfold State.fireFlit
  repeat' (first
    | with_reducible exact Keep.refl _
    | (fail_if_no_progress (extract_lets +onlyGivenNames x); first
        | clear_value x)
    | with_reducible apply State.mbTimer_keep
    | with_reducible apply State.raise_keep
    | with_reducible apply State.setTb_keep
    | with_reducible refine Keep.ite ?_ ?_
    | rfl)

theorem State.clearArm_keep {wr : Nat} {s₀ : State} (s : State) (n : Nat) (hk : Keep wr s₀ s) (hs : 8208 &&& wr = 8208) :
    Keep wr s₀ (State.clearArm s n) := by
  refine Keep.app hk ?_ hs
  unfold State.clearArm
  repeat' (first
    | with_reducible exact Keep.refl _
    | with_reducible assumption
    | (fail_if_no_progress (extract_lets +onlyGivenNames x); first
        | (with_reducible refine Keep.cut (t := x) ?_ ?_; (on_goal 1 => (unfold x; clear x)); (on_goal 2 => (intro hx; clear_value x)))
        | clear_value x)
    | with_reducible apply State.setCmp_keep
    | with_reducible apply State.sf_keep
    | with_reducible refine Keep.ite ?_ ?_
    | rfl)

theorem State.fireCmp_keep {wr : Nat} {s₀ : State} (s : State) (n late : Nat) (hk : Keep wr s₀ s) (hs : 73016619028 &&& wr = 73016619028) :
    Keep wr s₀ (State.fireCmp s n late) := by
  refine Keep.app hk ?_ hs
  unfold State.fireCmp
  repeat' (first
    | with_reducible exact Keep.refl _
    | with_reducible assumption
    | (fail_if_no_progress (extract_lets +onlyGivenNames x); first
        | (with_reducible refine Keep.cut (t := x) ?_ ?_; (on_goal 1 => (unfold x; clear x)); (on_goal 2 => (intro hx; clear_value x)))
        | clear_value x)
    | with_reducible apply State.fireFlit_keep
    | with_reducible apply State.setTb_keep
    | with_reducible apply State.sf_keep
    | with_reducible apply State.clearArm_keep
    | with_reducible apply State.incf_keep
    | with_reducible apply State.setMatch_keep
    | with_reducible apply State.reschedule_keep
    | with_reducible apply State.setCmp_keep
    | with_reducible refine Keep.ite ?_ ?_
    | split
    | rfl)

theorem State.arm_keep {wr : Nat} {s₀ : State} (s : State) (n : Nat) (hk : Keep wr s₀ s) (hs : 73016619028 &&& wr = 73016619028) :
    Keep wr s₀ (State.arm s n) := by
  refine Keep.app hk ?_ hs
  unfold State.arm
  repeat' (first
    | with_reducible exact Keep.refl _
    | with_reducible assumption
    | (fail_if_no_progress (extract_lets +onlyGivenNames x); first
        | (with_reducible refine Keep.cut (t := x) ?_ ?_; (on_goal 1 => (unfold x; clear x)); (on_goal 2 => (intro hx; clear_value x)))
        | clear_value x)
    | with_reducible apply State.sf_keep
    | with_reducible apply State.setCmp_keep
    | with_reducible apply State.reschedule_keep
    | with_reducible apply State.fireCmp_keep
    | with_reducible apply State.raise_keep
    | with_reducible apply State.clearArm_keep
    | with_reducible refine Keep.ite ?_ ?_
    | rfl)

theorem State.countTick_keep {wr : Nat} {s₀ : State} (s : State) (lags : List (Nat × Nat)) (hk : Keep wr s₀ s) (hs : 8208 &&& wr = 8208) :
    Keep wr s₀ (State.countTick s lags) := by
  refine Keep.app hk ?_ hs
  unfold State.countTick
  repeat' (first
    | with_reducible exact Keep.refl _
    | with_reducible assumption
    | (fail_if_no_progress (extract_lets +onlyGivenNames x); first
        | (with_reducible refine Keep.cut (t := x) ?_ ?_; (on_goal 1 => (unfold x; clear x)); (on_goal 2 => (intro hx; clear_value x)))
        | clear_value x)
    | with_reducible apply State.setTb_keep
    | with_reducible apply State.sf_keep
    | with_reducible refine Keep.ite ?_ ?_
    | rfl)

theorem State.writeAdj_keep {wr : Nat} {s₀ : State} (s : State) (u v : Nat) (hk : Keep wr s₀ s) (hs : 8208 &&& wr = 8208) :
    Keep wr s₀ (State.writeAdj s u v) := by
  refine Keep.app hk ?_ hs
  unfold State.writeAdj
  repeat' (first
    | with_reducible exact Keep.refl _
    | with_reducible apply State.setAdj_keep
    | with_reducible refine Keep.ite ?_ ?_
    | rfl)

theorem State.markSlots_keep {wr : Nat} {s₀ : State} (s : State) (hk : Keep wr s₀ s) (hs : 8192 &&& wr = 8192) :
    Keep wr s₀ (State.markSlots s) := by
  refine Keep.app hk ?_ hs
  unfold State.markSlots
  repeat' (first
    | with_reducible exact Keep.refl _
    | (fail_if_no_progress (extract_lets +onlyGivenNames x); first
        | clear_value x)
    | with_reducible apply State.setTb_keep
    | rfl)

theorem State.stepCount_keep {wr : Nat} {s₀ : State} (s : State) (d : Int) (hk : Keep wr s₀ s) (hs : 73016619028 &&& wr = 73016619028) :
    Keep wr s₀ (State.stepCount s d) := by
  refine Keep.app hk ?_ hs
  unfold State.stepCount
  repeat' (first
    | with_reducible exact Keep.refl _
    | with_reducible assumption
    | (fail_if_no_progress (extract_lets +onlyGivenNames x); first
        | (with_reducible refine Keep.cut (t := x) ?_ ?_; (on_goal 1 => (unfold x; clear x)); (on_goal 2 => (intro hx; clear_value x)))
        | clear_value x)
    | with_reducible apply State.markSlots_keep
    | with_reducible apply State.setTb_keep
    | with_reducible apply State.reschedule_keep
    | with_reducible apply State.fireCmp_keep
    | with_reducible apply State.setCmp_keep
    | refine Keep.foldl ?_ (fun t x ht => ?_)
    | rfl)

theorem State.writeStep_keep {wr : Nat} {s₀ : State} (s : State) (u : Nat) (delta : Int) (hk : Keep wr s₀ s) (hs : 73016619028 &&& wr = 73016619028) :
    Keep wr s₀ (State.writeStep s u delta) := by
  refine Keep.app hk ?_ hs
  unfold State.writeStep
  repeat' (first
    | with_reducible exact Keep.refl _
    | with_reducible apply State.raise_keep
    | with_reducible apply State.sf_keep
    | with_reducible apply State.stepCount_keep
    | with_reducible refine Keep.ite ?_ ?_
    | rfl)

theorem State.writeCarCfg_keep {wr : Nat} {s₀ : State} (s : State) (u c v : Nat) (hk : Keep wr s₀ s) (hs : 8208 &&& wr = 8208) :
    Keep wr s₀ (State.writeCarCfg s u c v) := by
  refine Keep.app hk ?_ hs
  unfold State.writeCarCfg
  repeat' (first
    | with_reducible exact Keep.refl _
    | with_reducible assumption
    | (fail_if_no_progress (extract_lets +onlyGivenNames x); first
        | (with_reducible refine Keep.cut (t := x) ?_ ?_; (on_goal 1 => (unfold x; clear x)); (on_goal 2 => (intro hx; clear_value x)))
        | clear_value x)
    | with_reducible apply State.sf_keep
    | with_reducible apply State.setCarrier_keep
    | with_reducible refine Keep.ite ?_ ?_
    | rfl)

theorem State.writeCarOffset_keep {wr : Nat} {s₀ : State} (s : State) (u c v : Nat) (hk : Keep wr s₀ s) (hs : 8208 &&& wr = 8208) :
    Keep wr s₀ (State.writeCarOffset s u c v) := by
  refine Keep.app hk ?_ hs
  unfold State.writeCarOffset
  repeat' (first
    | with_reducible exact Keep.refl _
    | (fail_if_no_progress (extract_lets +onlyGivenNames x); first
        | clear_value x)
    | with_reducible apply State.setCarrier_keep
    | with_reducible apply State.sf_keep
    | with_reducible refine Keep.ite ?_ ?_
    | rfl)

theorem State.writeCmpField_keep {wr : Nat} {s₀ : State} (s : State) (u n reg v : Nat) (hk : Keep wr s₀ s) (hs : 8208 &&& wr = 8208) :
    Keep wr s₀ (State.writeCmpField s u n reg v) := by
  refine Keep.app hk ?_ hs
  unfold State.writeCmpField
  repeat' (first
    | with_reducible exact Keep.refl _
    | with_reducible assumption
    | (fail_if_no_progress (extract_lets +onlyGivenNames x); first
        | (with_reducible refine Keep.cut (t := x) ?_ ?_; (on_goal 1 => (unfold x; clear x)); (on_goal 2 => (intro hx; clear_value x)))
        | clear_value x)
    | with_reducible apply State.sf_keep
    | with_reducible apply State.setCmp_keep
    | with_reducible refine Keep.ite ?_ ?_
    | split
    | rfl)

theorem State.writeCmpCtrl_keep {wr : Nat} {s₀ : State} (s : State) (u n v : Nat) (hk : Keep wr s₀ s) (hs : 8208 &&& wr = 8208) :
    Keep wr s₀ (State.writeCmpCtrl s u n v) := by
  refine Keep.app hk ?_ hs
  unfold State.writeCmpCtrl
  repeat' (first
    | with_reducible exact Keep.refl _
    | with_reducible assumption
    | (fail_if_no_progress (extract_lets +onlyGivenNames x); first
        | (with_reducible refine Keep.cut (t := x) ?_ ?_; (on_goal 1 => (unfold x; clear x)); (on_goal 2 => (intro hx; clear_value x)))
        | clear_value x)
    | with_reducible apply State.sf_keep
    | with_reducible apply State.setCmp_keep
    | with_reducible refine Keep.ite ?_ ?_
    | rfl)

theorem State.setPhase_keep {wr : Nat} {s₀ : State} (s : State) (e : Int) (hk : Keep wr s₀ s) (hs : 9663676448 &&& wr = 9663676448) :
    Keep wr s₀ (State.setPhase s e) := by
  refine Keep.app hk ?_ hs
  unfold State.setPhase
  repeat' (first
    | with_reducible exact Keep.refl _
    | with_reducible apply State.so_keep
    | rfl)

theorem State.servoUpdate_keep {wr : Nat} {s₀ : State} (s : State) (e : Int) (hk : Keep wr s₀ s) (hs : 9663684640 &&& wr = 9663684640) :
    Keep wr s₀ (State.servoUpdate s e) := by
  refine Keep.app hk ?_ hs
  unfold State.servoUpdate
  repeat' (first
    | with_reducible exact Keep.refl _
    | with_reducible assumption
    | (fail_if_no_progress (extract_lets +onlyGivenNames x); first
        | (with_reducible refine Keep.cut (t := x) ?_ ?_; (on_goal 1 => (unfold x; clear x)); (on_goal 2 => (intro hx; clear_value x)))
        | clear_value x)
    | with_reducible apply State.setPhase_keep
    | with_reducible apply State.setTb_keep
    | rfl)

theorem State.sourceValid_keep {wr : Nat} {s₀ : State} (s : State) (e : Int) (hk : Keep wr s₀ s) (hs : 82680295478 &&& wr = 82680295478) :
    Keep wr s₀ (State.sourceValid s e) := by
  refine Keep.app hk ?_ hs
  unfold State.sourceValid
  repeat' (first
    | with_reducible exact Keep.refl _
    | with_reducible assumption
    | (fail_if_no_progress (extract_lets +onlyGivenNames x); first
        | (with_reducible refine Keep.cut (t := x) ?_ ?_; (on_goal 1 => (unfold x; clear x)); (on_goal 2 => (intro hx; clear_value x)))
        | clear_value x)
    | with_reducible apply State.setPhase_keep
    | with_reducible apply State.servoUpdate_keep
    | with_reducible apply State.enterSync_keep
    | with_reducible apply State.raise_keep
    | with_reducible apply State.setTb_keep
    | with_reducible apply State.stepCount_keep
    | with_reducible refine Keep.ite ?_ ?_
    | rfl)

theorem State.takeCarrier_keep {wr : Nat} {s₀ : State} (s : State) (c : Nat) (hk : Keep wr s₀ s) (hs : 4297142292 &&& wr = 4297142292) :
    Keep wr s₀ (State.takeCarrier s c) := by
  refine Keep.app hk ?_ hs
  unfold State.takeCarrier
  repeat' (first
    | with_reducible exact Keep.refl _
    | with_reducible assumption
    | (fail_if_no_progress (extract_lets +onlyGivenNames x); first
        | (with_reducible refine Keep.cut (t := x) ?_ ?_; (on_goal 1 => (unfold x; clear x)); (on_goal 2 => (intro hx; clear_value x)))
        | clear_value x)
    | with_reducible apply State.setCarrier_keep
    | with_reducible apply State.disableCarrier_keep
    | with_reducible apply State.raise_keep
    | with_reducible apply State.sf_keep
    | with_reducible apply State.rescheduleAll_keep
    | with_reducible refine Keep.ite ?_ ?_
    | rfl)

theorem State.takeCmp_keep {wr : Nat} {s₀ : State} (s : State) (n : Nat) (hk : Keep wr s₀ s) (hs : 73016619028 &&& wr = 73016619028) :
    Keep wr s₀ (State.takeCmp s n) := by
  refine Keep.app hk ?_ hs
  unfold State.takeCmp
  repeat' (first
    | with_reducible exact Keep.refl _
    | with_reducible assumption
    | (fail_if_no_progress (extract_lets +onlyGivenNames x); first
        | (with_reducible refine Keep.cut (t := x) ?_ ?_; (on_goal 1 => (unfold x; clear x)); (on_goal 2 => (intro hx; clear_value x)))
        | clear_value x)
    | with_reducible apply State.setCmp_keep
    | with_reducible apply State.arm_keep
    | with_reducible apply State.reschedule_keep
    | with_reducible apply State.fireCmp_keep
    | with_reducible refine Keep.ite ?_ ?_
    | rfl)

theorem State.tick_keep {wr : Nat} {s₀ : State} (s : State) (lags : List (Nat × Nat)) (hk : Keep wr s₀ s) (hs : 73016619028 &&& wr = 73016619028) :
    Keep wr s₀ (State.tick s lags) := by
  refine Keep.app hk ?_ hs
  unfold State.tick
  repeat' (first
    | with_reducible exact Keep.refl _
    | with_reducible assumption
    | (fail_if_no_progress (extract_lets +onlyGivenNames x); first
        | (with_reducible refine Keep.cut (t := x) ?_ ?_; (on_goal 1 => (unfold x; clear x)); (on_goal 2 => (intro hx; clear_value x))))
    | with_reducible apply State.fireCmp_keep
    | with_reducible apply State.countTick_keep
    | with_reducible apply State.takeCarrier_keep
    | with_reducible apply State.takeCmp_keep
    | with_reducible refine Keep.ite ?_ ?_
    | refine Keep.foldl ?_ (fun t x ht => ?_)
    | rfl)

theorem State.todError_keep {wr : Nat} {s₀ : State} (s : State) (hk : Keep wr s₀ s) (hs : 13960818742 &&& wr = 13960818742) :
    Keep wr s₀ (State.todError s) := by
  refine Keep.app hk ?_ hs
  unfold State.todError
  repeat' (first
    | with_reducible exact Keep.refl _
    | with_reducible assumption
    | (fail_if_no_progress (extract_lets +onlyGivenNames x); first
        | (with_reducible refine Keep.cut (t := x) ?_ ?_; (on_goal 1 => (unfold x; clear x)); (on_goal 2 => (intro hx; clear_value x)))
        | clear_value x)
    | with_reducible apply State.raise_keep
    | with_reducible apply State.setTb_keep
    | with_reducible apply State.loseSource_keep
    | with_reducible refine Keep.ite ?_ ?_
    | rfl)

theorem execTbStep_keep (requester : Nat) (delta : Word) (s : State) : KeepOut 73285054484 s (execTbStep requester delta s) := by
  unfold execTbStep
  repeat' (first
    | with_reducible exact Keep.refl _
    | with_reducible assumption
    | (intro _)
    | with_reducible refine Keep.out ?_
    | with_reducible apply State.atIsland_keep
    | with_reducible apply State.writeStep_keep
    | rfl)

theorem execSyncSourceValid_keep (error : Int) (s : State) : KeepOut 82680295478 s (execSyncSourceValid error s) := by
  unfold execSyncSourceValid
  repeat' (first
    | with_reducible exact Keep.refl _
    | with_reducible refine Keep.out ?_
    | with_reducible apply State.sourceValid_keep
    | rfl)

theorem execSyncSourceLost_keep (s : State) : KeepOut 13960818742 s (execSyncSourceLost s) := by
  unfold execSyncSourceLost
  repeat' (first
    | with_reducible exact Keep.refl _
    | with_reducible refine Keep.out ?_
    | with_reducible apply State.loseSource_keep
    | with_reducible refine Keep.ite ?_ ?_
    | rfl)

theorem execSyncLocked_keep (s : State) : KeepOut 13960818742 s (execSyncLocked s) := by
  unfold execSyncLocked
  repeat' (first
    | with_reducible exact Keep.refl _
    | with_reducible refine Keep.out ?_
    | with_reducible apply State.enterSync_keep
    | with_reducible refine Keep.ite ?_ ?_
    | split
    | rfl)

theorem execHoldoverExpired_keep (s : State) : KeepOut 13960818742 s (execHoldoverExpired s) := by
  unfold execHoldoverExpired
  repeat' (first
    | with_reducible exact Keep.refl _
    | with_reducible refine Keep.out ?_
    | with_reducible apply State.enterSync_keep
    | with_reducible refine Keep.ite ?_ ?_
    | rfl)

theorem execHostStateWrite_keep (value : Nat) (s : State) : KeepOut 13960818742 s (execHostStateWrite value s) := by
  unfold execHostStateWrite
  repeat' (first
    | with_reducible exact Keep.refl _
    | with_reducible refine Keep.out ?_
    | with_reducible apply State.writeHostState_keep
    | with_reducible refine Keep.ite ?_ ?_
    | rfl)

theorem execHostStateTimeout_keep (s : State) : KeepOut 13960818742 s (execHostStateTimeout s) := by
  unfold execHostStateTimeout
  repeat' (first
    | with_reducible exact Keep.refl _
    | with_reducible assumption
    | with_reducible refine Keep.out ?_
    | (fail_if_no_progress (extract_lets +onlyGivenNames x); first
        | (with_reducible refine Keep.cut (t := x) ?_ ?_; (on_goal 1 => (unfold x; clear x)); (on_goal 2 => (intro hx; clear_value x)))
        | clear_value x)
    | with_reducible apply State.loseSource_keep
    | with_reducible apply State.setTb_keep
    | with_reducible apply State.raise_keep
    | with_reducible refine Keep.ite ?_ ?_
    | split
    | rfl)

theorem execDeferredStep_keep (error : Int) (s : State) : KeepOut 82680295476 s (execDeferredStep error s) := by
  unfold execDeferredStep
  repeat' (first
    | with_reducible exact Keep.refl _
    | with_reducible refine Keep.out ?_
    | (fail_if_no_progress (extract_lets +onlyGivenNames x); first
        | clear_value x)
    | with_reducible apply State.servoUpdate_keep
    | with_reducible apply State.stepCount_keep
    | with_reducible apply State.setTb_keep
    | with_reducible refine Keep.ite ?_ ?_
    | rfl)

theorem execSysrefLost_keep (s : State) : KeepOut 4297142292 s (execSysrefLost s) := by
  unfold execSysrefLost
  repeat' (first
    | with_reducible exact Keep.refl _
    | with_reducible refine Keep.out ?_
    | (fail_if_no_progress (extract_lets +onlyGivenNames x); first
        | clear_value x)
    | with_reducible apply State.setTb_keep
    | with_reducible apply State.raise_keep
    | with_reducible apply State.sf_keep
    | with_reducible refine Keep.ite ?_ ?_
    | rfl)

theorem execSysrefReturn_keep (s : State) : KeepOut 8192 s (execSysrefReturn s) := by
  unfold execSysrefReturn
  repeat' (first
    | with_reducible exact Keep.refl _
    | with_reducible refine Keep.out ?_
    | (fail_if_no_progress (extract_lets +onlyGivenNames x); first
        | clear_value x)
    | with_reducible apply State.setTb_keep
    | with_reducible refine Keep.ite ?_ ?_
    | rfl)

theorem execPpsOutEdge_keep (s : State) : KeepOut 8196 s (execPpsOutEdge s) := by
  unfold execPpsOutEdge
  repeat' (first
    | with_reducible exact Keep.refl _
    | with_reducible refine Keep.out ?_
    | with_reducible apply State.setPps_keep
    | rfl)

theorem execPpsInEdge_keep (sub : Nat) (s : State) : KeepOut 8208 s (execPpsInEdge sub s) := by
  unfold execPpsInEdge
  repeat' (first
    | with_reducible exact Keep.refl _
    | with_reducible refine Keep.out ?_
    | (fail_if_no_progress (extract_lets +onlyGivenNames x); first
        | clear_value x)
    | with_reducible apply State.setTb_keep
    | with_reducible apply State.sf_keep
    | rfl)

theorem execPpsInLost_keep (s : State) : KeepOut 13960818742 s (execPpsInLost s) := by
  unfold execPpsInLost
  repeat' (first
    | with_reducible exact Keep.refl _
    | with_reducible refine Keep.out ?_
    | (fail_if_no_progress (extract_lets +onlyGivenNames x); first
        | clear_value x)
    | with_reducible apply State.loseSource_keep
    | with_reducible apply State.raise_keep
    | with_reducible apply State.setTb_keep
    | with_reducible refine Keep.ite ?_ ?_
    | rfl)

theorem execTodRxMessage_keep (message : List Byte) (s : State) : KeepOut 13960818742 s (execTodRxMessage message s) := by
  unfold execTodRxMessage
  repeat' (first
    | with_reducible exact Keep.refl _
    | with_reducible refine Keep.out ?_
    | (fail_if_no_progress (extract_lets +onlyGivenNames x); first
        | clear_value x)
    | with_reducible apply State.setTb_keep
    | with_reducible apply State.todError_keep
    | with_reducible refine Keep.ite ?_ ?_
    | rfl)

theorem execTodTxMessage_keep (s : State) : KeepOut 8198 s (execTodTxMessage s) := by
  unfold execTodTxMessage
  repeat' (first
    | with_reducible exact Keep.refl _
    | with_reducible refine Keep.out ?_
    | (fail_if_no_progress (extract_lets +onlyGivenNames x); first
        | clear_value x)
    | with_reducible apply State.send_keep
    | with_reducible apply State.setTb_keep
    | with_reducible apply State.fresh_keep
    | with_reducible refine Keep.ite ?_ ?_
    | rfl)

theorem execCarrierTimerConfig_keep (requester carrier register : Nat) (value : Half) (s : State) : KeepOut 268443664 s (execCarrierTimerConfig requester carrier register value s) := by
  unfold execCarrierTimerConfig
  repeat' (first
    | with_reducible exact Keep.refl _
    | with_reducible assumption
    | (intro _)
    | with_reducible refine Keep.out ?_
    | with_reducible apply State.atIsland_keep
    | with_reducible apply State.writeCarCfg_keep
    | with_reducible apply State.writeCarOffset_keep
    | with_reducible refine Keep.ite ?_ ?_
    | rfl)

theorem execCarrierTimerStart_keep (carrier : Nat) (s : State) : KeepOut 8192 s (execCarrierTimerStart carrier s) := by
  unfold execCarrierTimerStart
  repeat' (first
    | with_reducible exact Keep.refl _
    | with_reducible refine Keep.out ?_
    | (fail_if_no_progress (extract_lets +onlyGivenNames x); first
        | clear_value x)
    | with_reducible apply State.setCarrier_keep
    | with_reducible refine Keep.ite ?_ ?_
    | rfl)

theorem execCarrierSlotStart_keep (carrier : Nat) (s : State) : KeepOut 4297142292 s (execCarrierSlotStart carrier s) := by
  unfold execCarrierSlotStart
  repeat' (first
    | with_reducible exact Keep.refl _
    | with_reducible refine Keep.out ?_
    | with_reducible apply State.raise_keep
    | with_reducible apply State.setCarrier_keep
    | with_reducible refine Keep.ite ?_ ?_
    | rfl)

theorem execComparatorArm_keep (requester comparator : Nat) (control : Half) (s : State) : KeepOut 268443664 s (execComparatorArm requester comparator control s) := by
  unfold execComparatorArm
  repeat' (first
    | with_reducible exact Keep.refl _
    | with_reducible assumption
    | (intro _)
    | with_reducible refine Keep.out ?_
    | with_reducible apply State.atIsland_keep
    | with_reducible apply State.writeCmpCtrl_keep
    | rfl)

theorem execComparatorWrite_keep (requester comparator register : Nat) (value : Word) (s : State) : KeepOut 268443664 s (execComparatorWrite requester comparator register value s) := by
  unfold execComparatorWrite
  repeat' (first
    | with_reducible exact Keep.refl _
    | with_reducible assumption
    | (intro _)
    | with_reducible refine Keep.out ?_
    | with_reducible apply State.atIsland_keep
    | with_reducible apply State.writeCmpCtrl_keep
    | with_reducible apply State.writeCmpField_keep
    | with_reducible refine Keep.ite ?_ ?_
    | rfl)

theorem execComparatorFire_keep (s : State) : KeepOut 73016619028 s (execComparatorFire s) := by
  unfold execComparatorFire
  repeat' (first
    | with_reducible exact Keep.refl _
    | with_reducible refine Keep.out ?_
    | with_reducible apply State.fireCmp_keep
    | with_reducible refine Keep.ite ?_ ?_
    | split
    | rfl)

theorem execTimeBaseReferencePeriod_keep (lags : List (Nat × Nat)) (s : State) : KeepOut 73016619028 s (execTimeBaseReferencePeriod lags s) := by
  unfold execTimeBaseReferencePeriod
  repeat' (first
    | with_reducible exact Keep.refl _
    | with_reducible refine Keep.out ?_
    | with_reducible apply State.tick_keep
    | rfl)

theorem execTodMessageMissing_keep (s : State) : KeepOut 13960818742 s (execTodMessageMissing s) := by
  unfold execTodMessageMissing
  repeat' (first
    | with_reducible exact Keep.refl _
    | with_reducible refine Keep.out ?_
    | with_reducible apply State.todError_keep
    | with_reducible refine Keep.ite ?_ ?_
    | split
    | rfl)

theorem execLaneReferenceLost_keep (s : State) : KeepOut 8192 s (execLaneReferenceLost s) := by
  unfold execLaneReferenceLost
  repeat' (first
    | with_reducible exact Keep.refl _
    | with_reducible refine Keep.out ?_
    | (fail_if_no_progress (extract_lets +onlyGivenNames x); first
        | clear_value x)
    | with_reducible apply State.setTb_keep
    | rfl)

end Sys2Proof.Machine
end

