-- ==== Sys2Proof/Laws/KeepBoot.lean ====
section
/-!
SUPPORT. The parts of the state that the operations of Machine/Boot.lean may write.
-/

namespace Sys2Proof.Machine

open Reg Ob

theorem State.setSession_keep {wr : Nat} {s₀ : State} (s : State) (x : Session) (hk : Keep wr s₀ s) (hs : 17179869184 &&& wr = 17179869184) :
    Keep wr s₀ (State.setSession s x) := by
  refine Keep.app hk ?_ hs
  unfold State.setSession
  repeat' (first
    | with_reducible exact Keep.refl _
    | fail_if_no_progress (with_reducible refine Keep.set_sessions (by decide) ?_))

theorem State.attestWrite_keep {wr : Nat} {s₀ : State} (s : State) (x : Session) (nonce : List Byte) (hk : Keep wr s₀ s) (hs : 17179869184 &&& wr = 17179869184) :
    Keep wr s₀ (State.attestWrite s x nonce).2 := by
  refine Keep.app hk ?_ hs
  unfold State.attestWrite
  repeat' (first
    | with_reducible exact Keep.refl _
    | with_reducible apply State.setSession_keep
    | with_reducible refine Keep.ite_snd ?_ ?_
    | rfl)

theorem State.extend_keep {wr : Nat} {s₀ : State} (s : State) (m : Nat) (d : List Byte) (hk : Keep wr s₀ s) (hs : 536870912 &&& wr = 536870912) :
    Keep wr s₀ (State.extend s m d) := by
  refine Keep.app hk ?_ hs
  unfold State.extend
  repeat' (first
    | with_reducible exact Keep.refl _
    | fail_if_no_progress (with_reducible refine Keep.set_measures (by decide) ?_))

theorem State.extendEvent_keep {wr : Nat} {s₀ : State} (s : State) (l : List Byte) (hk : Keep wr s₀ s) (hs : 536870912 &&& wr = 536870912) :
    Keep wr s₀ (State.extendEvent s l) := by
  refine Keep.app hk ?_ hs
  unfold State.extendEvent
  repeat' (first
    | with_reducible exact Keep.refl _
    | with_reducible apply State.extend_keep
    | rfl)

theorem State.keyWrite_keep {wr : Nat} {s₀ : State} (s : State) (x : Session) (slot : Nat) (v : List Byte) (millivolts : Nat) (hk : Keep wr s₀ s) (hs : 671088656 &&& wr = 671088656) :
    Keep wr s₀ (State.keyWrite s x slot v millivolts).2 := by
  refine Keep.app hk ?_ hs
  unfold State.keyWrite
  repeat' (first
    | with_reducible exact Keep.refl _
    | with_reducible assumption
    | (fail_if_no_progress (extract_lets +onlyGivenNames x); first
        | (with_reducible refine Keep.cut (t := x) ?_ ?_; (on_goal 1 => (unfold x; clear x)); (on_goal 2 => (intro hx; clear_value x))))
    | with_reducible apply State.sf_keep
    | with_reducible apply State.extendEvent_keep
    | with_reducible refine Keep.ite ?_ ?_
    | with_reducible refine Keep.ite_snd ?_ ?_
    | split
    | rfl
    | fail_if_no_progress (with_reducible refine Keep.set_keys (by decide) ?_))

theorem State.fuseKey_keep {wr : Nat} {s₀ : State} (s : State) (admin : Bool) (v : List Byte) (millivolts : Nat) (hk : Keep wr s₀ s) (hs : 8589934608 &&& wr = 8589934608) :
    Keep wr s₀ (State.fuseKey s admin v millivolts).2 := by
  refine Keep.app hk ?_ hs
  unfold State.fuseKey
  repeat' (first
    | with_reducible exact Keep.refl _
    | with_reducible assumption
    | (fail_if_no_progress (extract_lets +onlyGivenNames x); first
        | (with_reducible refine Keep.cut (t := x) ?_ ?_; (on_goal 1 => (unfold x; clear x)); (on_goal 2 => (intro hx; clear_value x)))
        | clear_value x)
    | with_reducible apply State.sf_keep
    | with_reducible refine Keep.ite_snd ?_ ?_
    | rfl
    | fail_if_no_progress (with_reducible refine Keep.set_boot (by decide) ?_))

theorem State.firmwareWaits_keep {wr : Nat} {s₀ : State} (s : State) (a n : Nat) (hk : Keep wr s₀ s) (hs : 268435456 &&& wr = 268435456) :
    Keep wr s₀ (State.firmwareWaits s a n) := by
  refine Keep.app hk ?_ hs
  unfold State.firmwareWaits
  repeat' (first
    | with_reducible exact Keep.refl _
    | with_reducible apply State.stallOn_keep
    | split
    | rfl)

theorem State.readImage_keep {wr : Nat} {s₀ : State} (s : State) (a : Nat) (hk : Keep wr s₀ s) (hs : 14233442934 &&& wr = 14233442934) :
    Keep wr s₀ (State.readImage s a).2 := by
  refine Keep.app hk ?_ hs
  unfold State.readImage
  repeat' (first
    | with_reducible exact Keep.refl _
    | with_reducible apply State.readBytes_keep
    | with_reducible apply State.firmwareWaits_keep
    | with_reducible refine Keep.ite_snd ?_ ?_
    | split
    | with_reducible refine Keep.of_pair (by assumption) ?_
    | rfl)

theorem State.rejectImage_keep {wr : Nat} {s₀ : State} (s : State) (reason : Nat) (hk : Keep wr s₀ s) (hs : 13960810548 &&& wr = 13960810548) :
    Keep wr s₀ (State.rejectImage s reason) := by
  refine Keep.app hk ?_ hs
  unfold State.rejectImage
  repeat' (first
    | with_reducible exact Keep.refl _
    | with_reducible apply State.raise_keep
    | with_reducible apply State.so_keep
    | rfl)

theorem State.imageLoad_keep {wr : Nat} {s₀ : State} (s : State) (x : Session) (v : List Byte) (hk : Keep wr s₀ s) (hs : 14803868278 &&& wr = 14803868278) :
    Keep wr s₀ (State.imageLoad s x v).2 := by
  refine Keep.app hk ?_ hs
  unfold State.imageLoad
  repeat' (first
    | with_reducible exact Keep.refl _
    | with_reducible assumption
    | (fail_if_no_progress (extract_lets +onlyGivenNames x); first
        | (with_reducible refine Keep.cut (t := x) ?_ ?_; (on_goal 1 => (unfold x; clear x)); (on_goal 2 => (intro hx; clear_value x)))
        | clear_value x)
    | with_reducible apply State.readImage_keep
    | with_reducible apply State.rejectImage_keep
    | with_reducible apply State.writeWords_keep
    | with_reducible apply State.firmwareWaits_keep
    | with_reducible apply State.extend_keep
    | with_reducible refine Keep.ite_snd ?_ ?_
    | split
    | refine Keep.foldl ?_ (fun t x ht => ?_)
    | with_reducible refine Keep.of_pair (by assumption) ?_
    | rfl)

theorem State.authorize_keep {wr : Nat} {s₀ : State} (s : State) (n p : Nat) (l : List Byte) (use : Nat) (ready : Bool) (hk : Keep wr s₀ s) (hs : 14497681460 &&& wr = 14497681460) :
    Keep wr s₀ (State.authorize s n p l use ready).2 := by
  refine Keep.app hk ?_ hs
  unfold State.authorize
  repeat' (first
    | with_reducible exact Keep.refl _
    | with_reducible apply State.rejectImage_keep
    | with_reducible apply State.extend_keep
    | with_reducible apply State.sf_keep
    | split
    | rfl)

theorem State.quiltAuth_keep {wr : Nat} {s₀ : State} (s : State) (x : Session) (v : List Byte) (hk : Keep wr s₀ s) (hs : 14770313846 &&& wr = 14770313846) :
    Keep wr s₀ (State.quiltAuth s x v).2 := by
  refine Keep.app hk ?_ hs
  unfold State.quiltAuth
  repeat' (first
    | with_reducible exact Keep.refl _
    | (fail_if_no_progress (extract_lets +onlyGivenNames x); first
        | clear_value x)
    | with_reducible apply State.readBytes_keep
    | with_reducible apply State.firmwareWaits_keep
    | with_reducible apply State.rejectImage_keep
    | with_reducible apply State.authorize_keep
    | with_reducible refine Keep.ite_snd ?_ ?_
    | split
    | with_reducible refine Keep.of_pair (by assumption) ?_
    | rfl)

theorem State.diagUnlock_keep {wr : Nat} {s₀ : State} (s : State) (x : Session) (signature : List Byte) (hk : Keep wr s₀ s) (hs : 22013874196 &&& wr = 22013874196) :
    Keep wr s₀ (State.diagUnlock s x signature).2 := by
  refine Keep.app hk ?_ hs
  unfold State.diagUnlock
  repeat' (first
    | with_reducible exact Keep.refl _
    | with_reducible assumption
    | (fail_if_no_progress (extract_lets +onlyGivenNames x); first
        | (with_reducible refine Keep.cut (t := x) ?_ ?_; (on_goal 1 => (unfold x; clear x)); (on_goal 2 => (intro hx; clear_value x)))
        | clear_value x)
    | with_reducible apply State.sf_keep
    | with_reducible apply State.setSession_keep
    | with_reducible apply State.raise_keep
    | with_reducible apply State.extendEvent_keep
    | with_reducible refine Keep.ite_snd ?_ ?_
    | split
    | rfl)

theorem State.countJournal_keep {wr : Nat} {s₀ : State} (s : State) (hk : Keep wr s₀ s) (hs : 9663676448 &&& wr = 9663676448) :
    Keep wr s₀ (State.countJournal s) := by
  refine Keep.app hk ?_ hs
  unfold State.countJournal
  repeat' (first
    | with_reducible exact Keep.refl _
    | with_reducible apply State.so_keep
    | rfl)

theorem State.clearStore_keep {wr : Nat} {s₀ : State} (s : State) (admin : Bool) (v : Nat) (hk : Keep wr s₀ s) (hs : 9663676448 &&& wr = 9663676448) :
    Keep wr s₀ (State.clearStore s admin v).2 := by
  refine Keep.app hk ?_ hs
  unfold State.clearStore
  repeat' (first
    | with_reducible exact Keep.refl _
    | with_reducible assumption
    | (fail_if_no_progress (extract_lets +onlyGivenNames x); first
        | (with_reducible refine Keep.cut (t := x) ?_ ?_; (on_goal 1 => (unfold x; clear x)); (on_goal 2 => (intro hx; clear_value x)))
        | clear_value x)
    | with_reducible apply State.countJournal_keep
    | with_reducible refine Keep.ite_snd ?_ ?_
    | rfl
    | fail_if_no_progress (with_reducible refine Keep.set_boot (by decide) ?_))

theorem State.coldReset_keep {wr : Nat} {s₀ : State} (s : State) (phase : Nat) (hk : Keep wr s₀ s)
    (hs : 549755813878 &&& wr = 549755813878) : Keep wr s₀ (s.coldReset phase) := by
  refine Keep.app hk ?_ hs
  unfold State.coldReset
  have h1 : Keep 549755813878 s (s.setPps false) := State.setPps_keep _ _ (Keep.refl _) (by decide)
  generalize s.setPps false = s1 at h1 ⊢
  extract_lets x0 x1 x2 x3 x4 r keep t
  have h3 : Keep 549755813878 s x1 := Keep.ite (State.send_keep _ _ h1 (by decide)) h1
  have hr : Keep 549755813878 s r := ⟨fun k hk => by
    have hx := h3.same k hk
    cases k <;> first | exact hx | exact absurd hk (by decide), fun _ => rfl⟩
  exact State.sf_keep _ _ _ _ (State.sf_keep _ _ _ _
    (Keep.foldl hr fun _ _ ht => State.sf_keep _ _ _ _ ht (by decide)) (by decide)) (by decide)

theorem State.deviceOff_keep {wr : Nat} {s₀ : State} (s : State) (hk : Keep wr s₀ s) (hs : 549755813878 &&& wr = 549755813878) :
    Keep wr s₀ (State.deviceOff s).2 := by
  refine Keep.app hk ?_ hs
  unfold State.deviceOff
  repeat' (first
    | with_reducible exact Keep.refl _
    | with_reducible assumption
    | (fail_if_no_progress (extract_lets +onlyGivenNames x); first
        | (with_reducible refine Keep.cut (t := x) ?_ ?_; (on_goal 1 => (unfold x; clear x)); (on_goal 2 => (intro hx; clear_value x)))
        | clear_value x)
    | with_reducible apply State.send_keep
    | with_reducible apply State.coldReset_keep
    | with_reducible refine Keep.ite_snd ?_ ?_
    | rfl
    | dsimp -zeta only
    | fail_if_no_progress (with_reducible refine Keep.set_pm (by decide) ?_))

theorem State.fwUpdate_keep {wr : Nat} {s₀ : State} (s : State) (a : Nat) (programmed : Bool) (hk : Keep wr s₀ s) (hs : 14233442934 &&& wr = 14233442934) :
    Keep wr s₀ (State.fwUpdate s a programmed).2 := by
  refine Keep.app hk ?_ hs
  unfold State.fwUpdate
  repeat' (first
    | with_reducible exact Keep.refl _
    | with_reducible assumption
    | (intro _)
    | (fail_if_no_progress (extract_lets +onlyGivenNames x); first
        | (with_reducible refine Keep.cut (t := x) ?_ ?_; (on_goal 1 => (unfold x; clear x)); (on_goal 2 => (intro hx; clear_value x)))
        | (with_reducible refine Keep.cutF1 (f := x) ?_ ?_; (on_goal 1 => (unfold x; clear x)); (on_goal 2 => (intro hg; clear_value x)))
        | clear_value x)
    | with_reducible apply hg
    | with_reducible apply State.raise_keep
    | with_reducible apply State.so_keep
    | with_reducible apply State.readImage_keep
    | with_reducible apply State.rejectImage_keep
    | with_reducible refine Keep.ite_snd ?_ ?_
    | split
    | with_reducible refine Keep.of_pair (by assumption) ?_
    | rfl
    | fail_if_no_progress (with_reducible refine Keep.set_boot (by decide) ?_))

theorem State.nameFirmware_keep {wr : Nat} {s₀ : State} (s : State) (k : Nat) (trial : Bool) (hk : Keep wr s₀ s) (hs : 9663676464 &&& wr = 9663676464) :
    Keep wr s₀ (State.nameFirmware s k trial) := by
  refine Keep.app hk ?_ hs
  unfold State.nameFirmware
  repeat' (first
    | with_reducible exact Keep.refl _
    | with_reducible assumption
    | (fail_if_no_progress (extract_lets +onlyGivenNames x); first
        | (with_reducible refine Keep.cut (t := x) ?_ ?_; (on_goal 1 => (unfold x; clear x)); (on_goal 2 => (intro hx; clear_value x))))
    | with_reducible apply State.sf_keep
    | with_reducible apply State.so_keep
    | rfl)

theorem State.switchTo_keep {wr : Nat} {s₀ : State} (s : State) (k : Nat) (trial : Bool) (hk : Keep wr s₀ s) (hs : 31677550644 &&& wr = 31677550644) :
    Keep wr s₀ (State.switchTo s k trial) := by
  refine Keep.app hk ?_ hs
  unfold State.switchTo
  repeat' (first
    | with_reducible exact Keep.refl _
    | with_reducible assumption
    | (fail_if_no_progress (extract_lets +onlyGivenNames x); first
        | (with_reducible refine Keep.cut (t := x) ?_ ?_; (on_goal 1 => (unfold x; clear x)); (on_goal 2 => (intro hx; clear_value x)))
        | clear_value x)
    | with_reducible apply State.endSessions_keep
    | with_reducible apply State.so_keep
    | with_reducible apply State.extend_keep
    | with_reducible apply State.raise_keep
    | with_reducible apply State.nameFirmware_keep
    | rfl)

theorem State.writeDirectory_keep {wr : Nat} {s₀ : State} (s : State) (active : Nat) (trial : Bool) (attempts : Nat) (hk : Keep wr s₀ s) (hs : 8589934592 &&& wr = 8589934592) :
    Keep wr s₀ (State.writeDirectory s active trial attempts) := by
  refine Keep.app hk ?_ hs
  unfold State.writeDirectory
  repeat' (first
    | with_reducible exact Keep.refl _
    | (fail_if_no_progress (extract_lets +onlyGivenNames x); first
        | clear_value x)
    | fail_if_no_progress (with_reducible refine Keep.set_boot (by decide) ?_))

theorem State.fwSwitch_keep {wr : Nat} {s₀ : State} (s : State) (hk : Keep wr s₀ s) (hs : 31677550644 &&& wr = 31677550644) :
    Keep wr s₀ (State.fwSwitch s).2 := by
  refine Keep.app hk ?_ hs
  unfold State.fwSwitch
  repeat' (first
    | with_reducible exact Keep.refl _
    | with_reducible assumption
    | (fail_if_no_progress (extract_lets +onlyGivenNames x); first
        | (with_reducible refine Keep.cut (t := x) ?_ ?_; (on_goal 1 => (unfold x; clear x)); (on_goal 2 => (intro hx; clear_value x)))
        | clear_value x)
    | with_reducible apply State.switchTo_keep
    | with_reducible apply State.writeDirectory_keep
    | with_reducible apply State.raise_keep
    | with_reducible apply State.so_keep
    | with_reducible refine Keep.ite_snd ?_ ?_
    | rfl
    | fail_if_no_progress (with_reducible refine Keep.set_boot (by decide) ?_))

theorem State.fwConfirm_keep {wr : Nat} {s₀ : State} (s : State) (hk : Keep wr s₀ s) (hs : 12887068692 &&& wr = 12887068692) :
    Keep wr s₀ (State.fwConfirm s).2 := by
  refine Keep.app hk ?_ hs
  unfold State.fwConfirm
  repeat' (first
    | with_reducible exact Keep.refl _
    | with_reducible assumption
    | (fail_if_no_progress (extract_lets +onlyGivenNames x); first
        | (with_reducible refine Keep.cut (t := x) ?_ ?_; (on_goal 1 => (unfold x; clear x)); (on_goal 2 => (intro hx; clear_value x)))
        | clear_value x)
    | with_reducible apply State.writeDirectory_keep
    | with_reducible apply State.raise_keep
    | with_reducible apply State.sf_keep
    | with_reducible refine Keep.ite_snd ?_ ?_
    | rfl
    | fail_if_no_progress (with_reducible refine Keep.set_boot (by decide) ?_))

theorem State.fwRevert_keep {wr : Nat} {s₀ : State} (s : State) (hk : Keep wr s₀ s) (hs : 31677550644 &&& wr = 31677550644) :
    Keep wr s₀ (State.fwRevert s).2 := by
  refine Keep.app hk ?_ hs
  unfold State.fwRevert
  repeat' (first
    | with_reducible exact Keep.refl _
    | with_reducible assumption
    | (fail_if_no_progress (extract_lets +onlyGivenNames x); first
        | (with_reducible refine Keep.cut (t := x) ?_ ?_; (on_goal 1 => (unfold x; clear x)); (on_goal 2 => (intro hx; clear_value x)))
        | clear_value x)
    | with_reducible apply State.switchTo_keep
    | with_reducible apply State.writeDirectory_keep
    | with_reducible apply State.raise_keep
    | with_reducible refine Keep.ite_snd ?_ ?_
    | split
    | rfl
    | fail_if_no_progress (with_reducible refine Keep.set_boot (by decide) ?_))

theorem State.raiseFwSvn_keep {wr : Nat} {s₀ : State} (s : State) (admin : Bool) (millivolts : Nat) (hk : Keep wr s₀ s) (hs : 16 &&& wr = 16) :
    Keep wr s₀ (State.raiseFwSvn s admin millivolts).2 := by
  refine Keep.app hk ?_ hs
  unfold State.raiseFwSvn
  repeat' (first
    | with_reducible exact Keep.refl _
    | with_reducible apply State.sf_keep
    | with_reducible refine Keep.ite_snd ?_ ?_
    | rfl)

theorem State.raiseMbSvn_keep {wr : Nat} {s₀ : State} (s : State) (admin : Bool) (millivolts : Nat) (hk : Keep wr s₀ s) (hs : 13994367540 &&& wr = 13994367540) :
    Keep wr s₀ (State.raiseMbSvn s admin millivolts).2 := by
  refine Keep.app hk ?_ hs
  unfold State.raiseMbSvn
  repeat' (first
    | with_reducible exact Keep.refl _
    | (fail_if_no_progress (extract_lets +onlyGivenNames x); first
        | clear_value x)
    | with_reducible apply State.sf_keep
    | with_reducible refine Keep.ite_snd ?_ ?_
    | rfl)

theorem State.fuseRevoke_keep {wr : Nat} {s₀ : State} (s : State) (admin : Bool) (k millivolts : Nat) (hk : Keep wr s₀ s) (hs : 16 &&& wr = 16) :
    Keep wr s₀ (State.fuseRevoke s admin k millivolts).2 := by
  refine Keep.app hk ?_ hs
  unfold State.fuseRevoke
  repeat' (first
    | with_reducible exact Keep.refl _
    | with_reducible apply State.sf_keep
    | with_reducible refine Keep.ite_snd ?_ ?_
    | rfl)

theorem State.fusePolicy_keep {wr : Nat} {s₀ : State} (s : State) (admin : Bool) (v millivolts : Nat) (hk : Keep wr s₀ s) (hs : 8589934608 &&& wr = 8589934608) :
    Keep wr s₀ (State.fusePolicy s admin v millivolts).2 := by
  refine Keep.app hk ?_ hs
  unfold State.fusePolicy
  repeat' (first
    | with_reducible exact Keep.refl _
    | with_reducible assumption
    | (fail_if_no_progress (extract_lets +onlyGivenNames x); first
        | (with_reducible refine Keep.cut (t := x) ?_ ?_; (on_goal 1 => (unfold x; clear x)); (on_goal 2 => (intro hx; clear_value x)))
        | clear_value x)
    | with_reducible apply State.sf_keep
    | with_reducible refine Keep.ite ?_ ?_
    | with_reducible refine Keep.ite_snd ?_ ?_
    | rfl
    | fail_if_no_progress (with_reducible refine Keep.set_boot (by decide) ?_))

theorem State.restoreObjects_keep {wr : Nat} {s₀ : State} (s : State) (t : Tab (List Byte)) (hk : Keep wr s₀ s) (hs : 96 &&& wr = 96) :
    Keep wr s₀ (State.restoreObjects s t) := by
  refine Keep.app hk ?_ hs
  unfold State.restoreObjects
  repeat' (first
    | with_reducible exact Keep.refl _
    | with_reducible assumption
    | with_reducible refine Keep.ite ?_ ?_
    | split
    | refine Keep.foldl ?_ (fun t x ht => ?_)
    | fail_if_no_progress (with_reducible refine Keep.set_doms (by decide) ?_)
    | fail_if_no_progress (with_reducible refine Keep.set_objs (by decide) ?_))

theorem State.openStore_keep {wr : Nat} {s₀ : State} (s : State) (bad badRecords : List Nat) (hk : Keep wr s₀ s) (hs : 13960810612 &&& wr = 13960810612) :
    Keep wr s₀ (State.openStore s bad badRecords) := by
  refine Keep.app hk ?_ hs
  unfold State.openStore
  repeat' (first
    | with_reducible exact Keep.refl _
    | with_reducible assumption
    | (fail_if_no_progress (extract_lets +onlyGivenNames x); first
        | (with_reducible refine Keep.cut (t := x) ?_ ?_; (on_goal 1 => (unfold x; clear x)); (on_goal 2 => (intro hx; clear_value x)))
        | clear_value x)
    | with_reducible apply State.so_keep
    | with_reducible apply State.restoreObjects_keep
    | with_reducible apply State.raise_keep
    | with_reducible refine Keep.ite ?_ ?_
    | split
    | rfl
    | fail_if_no_progress (with_reducible refine Keep.set_objs (by decide) ?_))

theorem State.reapply_keep {wr : Nat} {s₀ : State} (s : State) (cls ident : Nat) (hk : Keep wr s₀ s) (hs : 4294967312 &&& wr = 4294967312) :
    Keep wr s₀ (State.reapply s cls ident) := by
  refine Keep.app hk ?_ hs
  unfold State.reapply
  repeat' (first
    | with_reducible exact Keep.refl _
    | with_reducible assumption
    | (fail_if_no_progress (extract_lets +onlyGivenNames x); first
        | (with_reducible refine Keep.cut (t := x) ?_ ?_; (on_goal 1 => (unfold x; clear x)); (on_goal 2 => (intro hx; clear_value x)))
        | clear_value x)
    | with_reducible apply State.advanceEpoch_keep
    | with_reducible apply State.sf_keep
    | with_reducible apply State.assignSpare_keep
    | with_reducible apply State.fenceUnit_keep
    | with_reducible apply State.setQstate_keep
    | with_reducible refine Keep.ite ?_ ?_
    | split
    | refine Keep.foldl ?_ (fun t x ht => ?_)
    | rfl)

theorem State.reapplyAll_keep {wr : Nat} {s₀ : State} (s : State) (hk : Keep wr s₀ s) (hs : 4294967312 &&& wr = 4294967312) :
    Keep wr s₀ (State.reapplyAll s) := by
  refine Keep.app hk ?_ hs
  unfold State.reapplyAll
  repeat' (first
    | with_reducible exact Keep.refl _
    | with_reducible assumption
    | (fail_if_no_progress (extract_lets +onlyGivenNames x); first
        | clear_value x)
    | with_reducible apply State.reapply_keep
    | with_reducible refine Keep.ite ?_ ?_
    | refine Keep.foldl ?_ (fun t x ht => ?_)
    | rfl)

theorem State.bootFirmware_keep {wr : Nat} {s₀ : State} (s : State) (k : Nat) (inTrial reverted tampered : Bool) (badCopies badRecords : List Nat) (hk : Keep wr s₀ s) (hs : 14564790388 &&& wr = 14564790388) :
    Keep wr s₀ (State.bootFirmware s k inTrial reverted tampered badCopies badRecords) := by
  refine Keep.app hk ?_ hs
  unfold State.bootFirmware
  repeat' (first
    | with_reducible exact Keep.refl _
    | with_reducible assumption
    | (fail_if_no_progress (extract_lets +onlyGivenNames x); first
        | (with_reducible refine Keep.cut (t := x) ?_ ?_; (on_goal 1 => (unfold x; clear x)); (on_goal 2 => (intro hx; clear_value x)))
        | clear_value x)
    | with_reducible apply State.extend_keep
    | with_reducible apply State.extendEvent_keep
    | with_reducible apply State.restoreScrub_keep
    | with_reducible apply State.countJournal_keep
    | with_reducible apply State.openStore_keep
    | with_reducible apply State.nameFirmware_keep
    | with_reducible apply State.reapplyAll_keep
    | with_reducible apply State.so_keep
    | with_reducible apply State.raise_keep
    | with_reducible refine Keep.ite ?_ ?_
    | split
    | rfl
    | fail_if_no_progress (with_reducible refine Keep.set_boot (by decide) ?_))

theorem State.returnRanks_keep {wr : Nat} {s₀ : State} (s : State) (hk : Keep wr s₀ s) (hs : 9663676448 &&& wr = 9663676448) :
    Keep wr s₀ (State.returnRanks s) := by
  refine Keep.app hk ?_ hs
  unfold State.returnRanks
  repeat' (first
    | with_reducible exact Keep.refl _
    | with_reducible assumption
    | (fail_if_no_progress (extract_lets +onlyGivenNames x); first
        | clear_value x)
    | with_reducible apply State.so_keep
    | refine Keep.foldl ?_ (fun t x ht => ?_)
    | rfl)

theorem State.trainChannel_keep {wr : Nat} {s₀ : State} (s : State) (c cfg first : Nat) (failed : List (Nat × Nat)) (hk : Keep wr s₀ s) (hs : 13960810612 &&& wr = 13960810612) :
    Keep wr s₀ (State.trainChannel s c cfg first failed) := by
  refine Keep.app hk ?_ hs
  unfold State.trainChannel
  repeat' (first
    | with_reducible exact Keep.refl _
    | with_reducible assumption
    | (fail_if_no_progress (extract_lets +onlyGivenNames x); first
        | (with_reducible refine Keep.cut (t := x) ?_ ?_; (on_goal 1 => (unfold x; clear x)); (on_goal 2 => (intro hx; clear_value x)))
        | clear_value x)
    | with_reducible apply State.sf_keep
    | with_reducible apply State.recordRetirement_keep
    | with_reducible apply State.so_keep
    | with_reducible apply State.dramEvent_keep
    | with_reducible apply State.setRankState_keep
    | with_reducible refine Keep.ite ?_ ?_
    | refine Keep.foldl ?_ (fun t x ht => ?_)
    | rfl)

theorem State.trainDram_keep {wr : Nat} {s₀ : State} (s : State) (config : List (Nat × Nat)) (failed : List (Nat × Nat)) (hk : Keep wr s₀ s) (hs : 13960810612 &&& wr = 13960810612) :
    Keep wr s₀ (State.trainDram s config failed) := by
  refine Keep.app hk ?_ hs
  unfold State.trainDram
  repeat' (first
    | with_reducible exact Keep.refl _
    | with_reducible assumption
    | (fail_if_no_progress (extract_lets +onlyGivenNames x); first
        | (with_reducible refine Keep.cut (t := x) ?_ ?_; (on_goal 1 => (unfold x; clear x)); (on_goal 2 => (intro hx; clear_value x)))
        | clear_value x)
    | with_reducible apply State.trainChannel_keep
    | with_reducible apply State.sf_keep
    | split
    | refine Keep.foldl ?_ (fun t x ht => ?_)
    | rfl)

theorem State.restorePartitions_keep {wr : Nat} {s₀ : State} (s : State) (hk : Keep wr s₀ s) (hs : 9663676448 &&& wr = 9663676448) :
    Keep wr s₀ (State.restorePartitions s) := by
  refine Keep.app hk ?_ hs
  unfold State.restorePartitions
  repeat' (first
    | with_reducible exact Keep.refl _
    | with_reducible assumption
    | with_reducible apply State.so_keep
    | with_reducible refine Keep.ite ?_ ?_
    | refine Keep.foldl ?_ (fun t x ht => ?_)
    | rfl)

theorem State.bootUnits_keep {wr : Nat} {s₀ : State} (s : State) (failed config untrained : List (Nat × Nat)) (link : Nat × Nat × Nat × Nat × Nat) (hk : Keep wr s₀ s) (hs : 14284750454 &&& wr = 14284750454) :
    Keep wr s₀ (State.bootUnits s failed config untrained link) := by
  refine Keep.app hk ?_ hs
  unfold State.bootUnits
  repeat' (first
    | with_reducible exact Keep.refl _
    | with_reducible assumption
    | (fail_if_no_progress (extract_lets +onlyGivenNames x); first
        | (with_reducible refine Keep.cut (t := x) ?_ ?_; (on_goal 1 => (unfold x; clear x)); (on_goal 2 => (intro hx; clear_value x))))
    | with_reducible apply State.returnRanks_keep
    | with_reducible apply State.retireUnit_keep
    | with_reducible apply State.trainDram_keep
    | with_reducible apply State.sf_keep
    | with_reducible apply State.restorePartitions_keep
    | with_reducible apply State.trainLink_keep
    | with_reducible refine Keep.ite ?_ ?_
    | refine Keep.foldl ?_ (fun t x ht => ?_)
    | rfl)

theorem State.challenge_keep {wr : Nat} {s₀ : State} (s : State) (nonce : List Byte) (hk : Keep wr s₀ s) (hs : 8589934592 &&& wr = 8589934592) :
    Keep wr s₀ (State.challenge s nonce).2 := by
  refine Keep.app hk ?_ hs
  unfold State.challenge
  repeat' (first
    | with_reducible exact Keep.refl _
    | (fail_if_no_progress (extract_lets +onlyGivenNames x); first
        | clear_value x)
    | dsimp -zeta only
    | fail_if_no_progress (with_reducible refine Keep.set_boot (by decide) ?_))

theorem State.eraseSlot1_keep {wr : Nat} {s₀ : State} (s : State) (hk : Keep wr s₀ s) (hs : 4464906260 &&& wr = 4464906260) :
    Keep wr s₀ (State.eraseSlot1 s) := by
  refine Keep.app hk ?_ hs
  unfold State.eraseSlot1
  repeat' (first
    | with_reducible exact Keep.refl _
    | with_reducible apply State.tamperStreams_keep
    | with_reducible apply State.sf_keep
    | rfl
    | fail_if_no_progress (with_reducible refine Keep.set_keys (by decide) ?_))

theorem State.selectSlot_keep {wr : Nat} {s₀ : State} (s : State) (hk : Keep wr s₀ s) (hs : 8589934592 &&& wr = 8589934592) :
    Keep wr s₀ (State.selectSlot s).2.2.2 := by
  refine Keep.app hk ?_ hs
  unfold State.selectSlot
  repeat' (first
    | with_reducible exact Keep.refl _
    | (fail_if_no_progress (extract_lets +onlyGivenNames x); first
        | clear_value x)
    | with_reducible apply State.writeDirectory_keep
    | split
    | rfl)

theorem execStoreCompact_keep (s : State) : KeepOut 9663676448 s (execStoreCompact s) := by
  unfold execStoreCompact
  repeat' (first
    | with_reducible exact Keep.refl _
    | with_reducible assumption
    | with_reducible refine Keep.out ?_
    | (fail_if_no_progress (extract_lets +onlyGivenNames x); first
        | (with_reducible refine Keep.cut (t := x) ?_ ?_; (on_goal 1 => (unfold x; clear x)); (on_goal 2 => (intro hx; clear_value x)))
        | clear_value x)
    | with_reducible apply State.so_keep
    | with_reducible refine Keep.ite ?_ ?_
    | rfl
    | fail_if_no_progress (with_reducible refine Keep.set_boot (by decide) ?_))

theorem execStoreClear_keep (session value : Nat) (s : State) : KeepOut 9663676452 s (execStoreClear session value s) := by
  unfold execStoreClear
  repeat' (first
    | with_reducible exact Keep.refl _
    | with_reducible assumption
    | with_reducible refine Keep.out ?_
    | (fail_if_no_progress (extract_lets +onlyGivenNames x); first
        | (with_reducible refine Keep.cut (t := x.2) ?_ ?_; (on_goal 1 => (unfold x; clear x)); (on_goal 2 => (intro hx; clear_value x))))
    | with_reducible apply State.clearStore_keep
    | with_reducible apply State.send_keep
    | rfl)

theorem execWakePin_keep (s : State) : KeepOut 14229246004 s (execWakePin s) := by
  unfold execWakePin
  repeat' (first
    | with_reducible exact Keep.refl _
    | with_reducible assumption
    | with_reducible refine Keep.out ?_
    | (fail_if_no_progress (extract_lets +onlyGivenNames x); first
        | (with_reducible refine Keep.cut (t := x) ?_ ?_; (on_goal 1 => (unfold x; clear x)); (on_goal 2 => (intro hx; clear_value x)))
        | clear_value x)
    | with_reducible apply State.send_keep
    | with_reducible apply State.endHold_keep
    | with_reducible apply State.raise_keep
    | with_reducible refine Keep.ite ?_ ?_
    | rfl
    | fail_if_no_progress (with_reducible refine Keep.set_pm_boot (by decide) ?_))

theorem execPmDeviceOff_keep (s : State) : KeepOut 549755813878 s (execPmDeviceOff s) := by
  unfold execPmDeviceOff
  repeat' (first
    | with_reducible exact Keep.refl _
    | with_reducible assumption
    | with_reducible refine Keep.out ?_
    | (fail_if_no_progress (extract_lets +onlyGivenNames x); first
        | (with_reducible refine Keep.cut (t := x.2) ?_ ?_; (on_goal 1 => (unfold x; clear x)); (on_goal 2 => (intro hx; clear_value x))))
    | with_reducible apply State.deviceOff_keep
    | with_reducible apply State.send_keep
    | rfl)

theorem execColdBoot_keep (failed : List (Nat × Nat)) (badCopies badRecords : List Nat) (config untrained : List (Nat × Nat)) (link : Nat × Nat × Nat × Nat × Nat) (s : State) : KeepOut 549755813878 s (execColdBoot failed badCopies badRecords config untrained link s) := by
  unfold execColdBoot
  repeat' (first
    | with_reducible exact Keep.refl _
    | with_reducible assumption
    | with_reducible refine Keep.out ?_
    | (fail_if_no_progress (extract_lets +onlyGivenNames x); first
        | (with_reducible refine Keep.cut (t := x) ?_ ?_; (on_goal 1 => (unfold x; clear x)); (on_goal 2 => (intro hx; clear_value x)))
        | clear_value x)
    | with_reducible apply State.selectSlot_keep
    | with_reducible apply State.coldReset_keep
    | with_reducible apply State.send_keep
    | with_reducible apply State.bootFirmware_keep
    | with_reducible apply State.raise_keep
    | with_reducible apply State.bootUnits_keep
    | split
    | with_reducible refine Keep.of_quad (by assumption) ?_
    | rfl
    | fail_if_no_progress (with_reducible refine Keep.set_boot (by decide) ?_))

theorem execFwUpdate_keep (session address : Nat) (programmed : Bool) (s : State) : KeepOut 14233442934 s (execFwUpdate session address programmed s) := by
  unfold execFwUpdate
  repeat' (first
    | with_reducible exact Keep.refl _
    | with_reducible assumption
    | with_reducible refine Keep.out ?_
    | (fail_if_no_progress (extract_lets +onlyGivenNames x); first
        | (with_reducible refine Keep.cut (t := x.2) ?_ ?_; (on_goal 1 => (unfold x; clear x)); (on_goal 2 => (intro hx; clear_value x))))
    | with_reducible apply State.fwUpdate_keep
    | with_reducible apply State.send_keep
    | with_reducible refine Keep.ite_snd ?_ ?_
    | rfl)

theorem execFwSwitch_keep (session : Nat) (s : State) : KeepOut 31677550644 s (execFwSwitch session s) := by
  unfold execFwSwitch
  repeat' (first
    | with_reducible exact Keep.refl _
    | with_reducible assumption
    | with_reducible refine Keep.out ?_
    | (fail_if_no_progress (extract_lets +onlyGivenNames x); first
        | (with_reducible refine Keep.cut (t := x.2) ?_ ?_; (on_goal 1 => (unfold x; clear x)); (on_goal 2 => (intro hx; clear_value x))))
    | with_reducible apply State.fwSwitch_keep
    | with_reducible apply State.send_keep
    | with_reducible refine Keep.ite_snd ?_ ?_
    | rfl)

theorem execFwConfirm_keep (session : Nat) (s : State) : KeepOut 12887068692 s (execFwConfirm session s) := by
  unfold execFwConfirm
  repeat' (first
    | with_reducible exact Keep.refl _
    | with_reducible assumption
    | with_reducible refine Keep.out ?_
    | (fail_if_no_progress (extract_lets +onlyGivenNames x); first
        | (with_reducible refine Keep.cut (t := x.2) ?_ ?_; (on_goal 1 => (unfold x; clear x)); (on_goal 2 => (intro hx; clear_value x))))
    | with_reducible apply State.fwConfirm_keep
    | with_reducible apply State.send_keep
    | with_reducible refine Keep.ite_snd ?_ ?_
    | rfl)

theorem execFwRevert_keep (session : Nat) (s : State) : KeepOut 31677550644 s (execFwRevert session s) := by
  unfold execFwRevert
  repeat' (first
    | with_reducible exact Keep.refl _
    | with_reducible assumption
    | with_reducible refine Keep.out ?_
    | (fail_if_no_progress (extract_lets +onlyGivenNames x); first
        | (with_reducible refine Keep.cut (t := x.2) ?_ ?_; (on_goal 1 => (unfold x; clear x)); (on_goal 2 => (intro hx; clear_value x))))
    | with_reducible apply State.fwRevert_keep
    | with_reducible apply State.send_keep
    | with_reducible refine Keep.ite_snd ?_ ?_
    | rfl)

theorem execFwTrialTimeout_keep (s : State) : KeepOut 31677550644 s (execFwTrialTimeout s) := by
  unfold execFwTrialTimeout
  repeat' (first
    | with_reducible exact Keep.refl _
    | with_reducible refine Keep.out ?_
    | with_reducible apply State.fwRevert_keep
    | with_reducible refine Keep.ite ?_ ?_
    | split
    | rfl)

theorem execFwRaiseFwSvn_keep (session millivolts : Nat) (s : State) : KeepOut 20 s (execFwRaiseFwSvn session millivolts s) := by
  unfold execFwRaiseFwSvn
  repeat' (first
    | with_reducible exact Keep.refl _
    | with_reducible assumption
    | with_reducible refine Keep.out ?_
    | (fail_if_no_progress (extract_lets +onlyGivenNames x); first
        | (with_reducible refine Keep.cut (t := x.2) ?_ ?_; (on_goal 1 => (unfold x; clear x)); (on_goal 2 => (intro hx; clear_value x))))
    | with_reducible apply State.raiseFwSvn_keep
    | with_reducible apply State.send_keep
    | rfl)

theorem execFwRaiseMbSvn_keep (session millivolts : Nat) (s : State) : KeepOut 13994367540 s (execFwRaiseMbSvn session millivolts s) := by
  unfold execFwRaiseMbSvn
  repeat' (first
    | with_reducible exact Keep.refl _
    | with_reducible assumption
    | with_reducible refine Keep.out ?_
    | (fail_if_no_progress (extract_lets +onlyGivenNames x); first
        | (with_reducible refine Keep.cut (t := x.2) ?_ ?_; (on_goal 1 => (unfold x; clear x)); (on_goal 2 => (intro hx; clear_value x))))
    | with_reducible apply State.raiseMbSvn_keep
    | with_reducible apply State.send_keep
    | rfl)

theorem execAttestNonceWrite_keep (session : Nat) (nonce : List Byte) (s : State) : KeepOut 17179869188 s (execAttestNonceWrite session nonce s) := by
  unfold execAttestNonceWrite
  repeat' (first
    | with_reducible exact Keep.refl _
    | with_reducible assumption
    | with_reducible refine Keep.out ?_
    | (fail_if_no_progress (extract_lets +onlyGivenNames x); first
        | (with_reducible refine Keep.cut (t := x.2) ?_ ?_; (on_goal 1 => (unfold x; clear x)); (on_goal 2 => (intro hx; clear_value x))))
    | with_reducible apply State.attestWrite_keep
    | with_reducible apply State.send_keep
    | split
    | rfl)

theorem execAttestReportRead_keep (session : Nat) (s : State) : KeepOut 4 s (execAttestReportRead session s) := by
  unfold execAttestReportRead
  repeat' (first
    | with_reducible exact Keep.refl _
    | with_reducible refine Keep.out ?_
    | with_reducible apply State.send_keep
    | split
    | rfl)

theorem execKeySlot0Write_keep (session : Nat) (value : List Byte) (millivolts : Nat) (s : State) : KeepOut 671088660 s (execKeySlot0Write session value millivolts s) := by
  unfold execKeySlot0Write
  repeat' (first
    | with_reducible exact Keep.refl _
    | with_reducible assumption
    | with_reducible refine Keep.out ?_
    | (fail_if_no_progress (extract_lets +onlyGivenNames x); first
        | (with_reducible refine Keep.cut (t := x.2) ?_ ?_; (on_goal 1 => (unfold x; clear x)); (on_goal 2 => (intro hx; clear_value x))))
    | with_reducible apply State.keyWrite_keep
    | with_reducible apply State.send_keep
    | split
    | rfl)

theorem execKeySlot1Write_keep (session : Nat) (value : List Byte) (s : State) : KeepOut 671088660 s (execKeySlot1Write session value s) := by
  unfold execKeySlot1Write
  repeat' (first
    | with_reducible exact Keep.refl _
    | with_reducible assumption
    | with_reducible refine Keep.out ?_
    | (fail_if_no_progress (extract_lets +onlyGivenNames x); first
        | (with_reducible refine Keep.cut (t := x.2) ?_ ?_; (on_goal 1 => (unfold x; clear x)); (on_goal 2 => (intro hx; clear_value x))))
    | with_reducible apply State.keyWrite_keep
    | with_reducible apply State.send_keep
    | split
    | rfl)

theorem execFuseCustKey_keep (session : Nat) (value : List Byte) (millivolts : Nat) (s : State) : KeepOut 8589934612 s (execFuseCustKey session value millivolts s) := by
  unfold execFuseCustKey
  repeat' (first
    | with_reducible exact Keep.refl _
    | with_reducible assumption
    | with_reducible refine Keep.out ?_
    | (fail_if_no_progress (extract_lets +onlyGivenNames x); first
        | (with_reducible refine Keep.cut (t := x.2) ?_ ?_; (on_goal 1 => (unfold x; clear x)); (on_goal 2 => (intro hx; clear_value x))))
    | with_reducible apply State.fuseKey_keep
    | with_reducible apply State.send_keep
    | rfl)

theorem execFuseRevoke_keep (session key millivolts : Nat) (s : State) : KeepOut 20 s (execFuseRevoke session key millivolts s) := by
  unfold execFuseRevoke
  repeat' (first
    | with_reducible exact Keep.refl _
    | with_reducible assumption
    | with_reducible refine Keep.out ?_
    | (fail_if_no_progress (extract_lets +onlyGivenNames x); first
        | (with_reducible refine Keep.cut (t := x.2) ?_ ?_; (on_goal 1 => (unfold x; clear x)); (on_goal 2 => (intro hx; clear_value x))))
    | with_reducible apply State.fuseRevoke_keep
    | with_reducible apply State.send_keep
    | rfl)

theorem execFusePolicy_keep (session value millivolts : Nat) (s : State) : KeepOut 8589934612 s (execFusePolicy session value millivolts s) := by
  unfold execFusePolicy
  repeat' (first
    | with_reducible exact Keep.refl _
    | with_reducible assumption
    | with_reducible refine Keep.out ?_
    | (fail_if_no_progress (extract_lets +onlyGivenNames x); first
        | (with_reducible refine Keep.cut (t := x.2) ?_ ?_; (on_goal 1 => (unfold x; clear x)); (on_goal 2 => (intro hx; clear_value x))))
    | with_reducible apply State.fusePolicy_keep
    | with_reducible apply State.send_keep
    | rfl)

theorem execImageLoad_keep (session : Nat) (value : List Byte) (s : State) : KeepOut 14803868278 s (execImageLoad session value s) := by
  unfold execImageLoad
  repeat' (first
    | with_reducible exact Keep.refl _
    | with_reducible assumption
    | with_reducible refine Keep.out ?_
    | (fail_if_no_progress (extract_lets +onlyGivenNames x); first
        | (with_reducible refine Keep.cut (t := x.2) ?_ ?_; (on_goal 1 => (unfold x; clear x)); (on_goal 2 => (intro hx; clear_value x))))
    | with_reducible apply State.imageLoad_keep
    | with_reducible apply State.send_keep
    | split
    | rfl)

theorem execQuiltAuth_keep (session : Nat) (value : List Byte) (s : State) : KeepOut 14770313846 s (execQuiltAuth session value s) := by
  unfold execQuiltAuth
  repeat' (first
    | with_reducible exact Keep.refl _
    | with_reducible assumption
    | with_reducible refine Keep.out ?_
    | (fail_if_no_progress (extract_lets +onlyGivenNames x); first
        | (with_reducible refine Keep.cut (t := x.2) ?_ ?_; (on_goal 1 => (unfold x; clear x)); (on_goal 2 => (intro hx; clear_value x))))
    | with_reducible apply State.quiltAuth_keep
    | with_reducible apply State.send_keep
    | split
    | rfl)

theorem execDiagChallenge_keep (session : Nat) (nonce : List Byte) (s : State) : KeepOut 8589934596 s (execDiagChallenge session nonce s) := by
  unfold execDiagChallenge
  repeat' (first
    | with_reducible exact Keep.refl _
    | with_reducible assumption
    | with_reducible refine Keep.out ?_
    | (fail_if_no_progress (extract_lets +onlyGivenNames x); first
        | (with_reducible refine Keep.cut (t := x.2) ?_ ?_; (on_goal 1 => (unfold x; clear x)); (on_goal 2 => (intro hx; clear_value x))))
    | with_reducible apply State.challenge_keep
    | with_reducible apply State.send_keep
    | with_reducible refine Keep.ite ?_ ?_
    | rfl)

theorem execDiagUnlock_keep (session : Nat) (signature : List Byte) (s : State) : KeepOut 22013874196 s (execDiagUnlock session signature s) := by
  unfold execDiagUnlock
  repeat' (first
    | with_reducible exact Keep.refl _
    | with_reducible assumption
    | with_reducible refine Keep.out ?_
    | (fail_if_no_progress (extract_lets +onlyGivenNames x); first
        | (with_reducible refine Keep.cut (t := x.2) ?_ ?_; (on_goal 1 => (unfold x; clear x)); (on_goal 2 => (intro hx; clear_value x))))
    | with_reducible apply State.diagUnlock_keep
    | with_reducible apply State.send_keep
    | split
    | rfl)

theorem execTamper_keep (s : State) : KeepOut 13591711764 s (execTamper s) := by
  unfold execTamper
  repeat' (first
    | with_reducible exact Keep.refl _
    | with_reducible assumption
    | with_reducible refine Keep.out ?_
    | (fail_if_no_progress (extract_lets +onlyGivenNames x); first
        | (with_reducible refine Keep.cut (t := x) ?_ ?_; (on_goal 1 => (unfold x; clear x)); (on_goal 2 => (intro hx; clear_value x)))
        | clear_value x)
    | with_reducible apply State.sf_keep
    | with_reducible apply State.eraseSlot1_keep
    | with_reducible apply State.raise_keep
    | with_reducible apply State.extendEvent_keep
    | with_reducible refine Keep.ite ?_ ?_
    | rfl
    | fail_if_no_progress (with_reducible refine Keep.set_boot (by decide) ?_))

theorem execPorNAssert_keep (s : State) : KeepOut 549755813878 s (execPorNAssert s) := by
  unfold execPorNAssert
  repeat' (first
    | with_reducible exact Keep.refl _
    | with_reducible refine Keep.out ?_
    | with_reducible apply State.coldReset_keep
    | rfl)

theorem execVbatLoss_keep (s : State) : KeepOut 4464906260 s (execVbatLoss s) := by
  unfold execVbatLoss
  repeat' (first
    | with_reducible exact Keep.refl _
    | with_reducible refine Keep.out ?_
    | with_reducible apply State.eraseSlot1_keep
    | rfl)

end Sys2Proof.Machine
end

