-- ==== Sys2Proof/Laws/KeepCodingJobs.lean ====
section
/-!
SUPPORT. The parts of the state that the operations of Machine/CodingJobs.lean may write.
-/

namespace Sys2Proof.Machine

open Reg Ob

theorem AccRun.stored_keep {wr : Nat} {s₀ : State} (r : AccRun) (x : RateJob) (out : Nat × Nat) (a b : Nat) (hk : Keep wr s₀ r.st) (hs : 13965007478 &&& wr = 13965007478) :
    Keep wr s₀ (AccRun.stored r x out a b).2.2.st := by
  refine Keep.app hk ?_ hs
  unfold AccRun.stored
  repeat' (first
    | with_reducible exact Keep.refl _
    | with_reducible assumption
    | (fail_if_no_progress (extract_lets +onlyGivenNames x); first
        | (with_reducible refine Keep.cut (t := x.st) ?_ ?_; (on_goal 1 => (unfold x; clear x)); (on_goal 2 => (intro hx; clear_value x)))
        | clear_value x)
    | with_reducible apply AccRun.read_keep
    | with_reducible apply AccRun.require_keep
    | split
    | with_reducible refine Keep.of_pair_st (by assumption) ?_
    | rfl)

theorem AccRun.writeBack_keep {wr : Nat} {s₀ : State} (r : AccRun) (j : Job) (b : Nat) (values : List Int) (hk : Keep wr s₀ r.st) (hs : 13998561908 &&& wr = 13998561908) :
    Keep wr s₀ (AccRun.writeBack r j b values).st := by
  refine Keep.app hk ?_ hs
  unfold AccRun.writeBack
  repeat' (first
    | with_reducible exact Keep.refl _
    | with_reducible assumption
    | (fail_if_no_progress (extract_lets +onlyGivenNames x); first
        | (with_reducible refine Keep.cut (t := x.st) ?_ ?_; (on_goal 1 => (unfold x; clear x)); (on_goal 2 => (intro hx; clear_value x)))
        | clear_value x)
    | with_reducible apply AccRun.write_keep
    | rfl)

theorem decodeOne_keep {wr : Nat} {s₀ : State} (j : Job) (x : PolarJob) (dec : List Int → List Bool × Nat) (fails : List Bool → Bool) (r : AccRun) (hk : Keep wr s₀ r.st) (hs : 13998561910 &&& wr = 13998561910) :
    Keep wr s₀ (decodeOne j x dec fails r).st := by
  refine Keep.app hk ?_ hs
  unfold decodeOne
  repeat' (first
    | with_reducible exact Keep.refl _
    | (fail_if_no_progress (extract_lets +onlyGivenNames x); first
        | clear_value x)
    | with_reducible apply AccRun.read_keep
    | with_reducible apply AccRun.block_keep
    | with_reducible apply AccRun.write_keep
    | split
    | with_reducible refine Keep.of_pair_st (by assumption) ?_
    | rfl
    | dsimp -zeta only)

theorem encodeOne_keep {wr : Nat} {s₀ : State} (j : Job) (x : PolarJob) (enc : List Bool → List Bool) (r : AccRun) (hk : Keep wr s₀ r.st) (hs : 13998561910 &&& wr = 13998561910) :
    Keep wr s₀ (encodeOne j x enc r).st := by
  refine Keep.app hk ?_ hs
  unfold encodeOne
  repeat' (first
    | with_reducible exact Keep.refl _
    | with_reducible apply AccRun.read_keep
    | with_reducible apply AccRun.block_keep
    | with_reducible apply AccRun.write_keep
    | rfl)

theorem ldpcDecodeJob_keep {wr : Nat} {s₀ : State} (j : Job) (b : Nat) (r : AccRun) (hk : Keep wr s₀ r.st) (hs : 13998561910 &&& wr = 13998561910) :
    Keep wr s₀ (ldpcDecodeJob j b r).st := by
  refine Keep.app hk ?_ hs
  unfold ldpcDecodeJob
  repeat' (first
    | with_reducible exact Keep.refl _
    | (fail_if_no_progress (extract_lets +onlyGivenNames x); first
        | clear_value x)
    | with_reducible apply AccRun.read_keep
    | with_reducible apply AccRun.write_keep
    | with_reducible apply AccRun.iterate_keep
    | with_reducible apply AccRun.writeBack_keep
    | with_reducible apply AccRun.block_keep
    | split
    | with_reducible refine Keep.of_pair_st (by assumption) ?_
    | rfl)

theorem execLdpcDecode_keep (unit : Nat) (s : State) : KeepOut 14267129462 s (execLdpcDecode unit s) := by
  unfold execLdpcDecode
  repeat' (first
    | with_reducible exact Keep.refl _
    | with_reducible assumption
    | (intro _)
    | with_reducible refine Keep.out ?_
    | with_reducible apply State.accRun_keep
    | with_reducible apply AccRun.each_keep
    | with_reducible apply ldpcDecodeJob_keep
    | rfl)

theorem execLdpcEncode_keep (unit : Nat) (s : State) : KeepOut 14267129462 s (execLdpcEncode unit s) := by
  unfold execLdpcEncode
  repeat' (first
    | with_reducible exact Keep.refl _
    | with_reducible assumption
    | (intro _)
    | with_reducible refine Keep.out ?_
    | (fail_if_no_progress (extract_lets +onlyGivenNames x); first
        | clear_value x)
    | with_reducible apply State.accRun_keep
    | with_reducible apply AccRun.each_keep
    | with_reducible apply AccRun.read_keep
    | with_reducible apply AccRun.block_keep
    | with_reducible apply AccRun.write_keep
    | rfl)

theorem turboDecodeJob_keep {wr : Nat} {s₀ : State} (j : Job) (b : Nat) (r : AccRun) (hk : Keep wr s₀ r.st) (hs : 13998561910 &&& wr = 13998561910) :
    Keep wr s₀ (turboDecodeJob j b r).st := by
  refine Keep.app hk ?_ hs
  unfold turboDecodeJob
  repeat' (first
    | with_reducible exact Keep.refl _
    | with_reducible assumption
    | (fail_if_no_progress (extract_lets +onlyGivenNames x); first
        | (with_reducible refine Keep.cut (t := x.st) ?_ ?_; (on_goal 1 => (unfold x; clear x)); (on_goal 2 => (intro hx; clear_value x)))
        | clear_value x)
    | with_reducible apply AccRun.read_keep
    | with_reducible apply AccRun.write_keep
    | with_reducible apply AccRun.iterate_keep
    | with_reducible apply AccRun.writeBack_keep
    | with_reducible apply AccRun.block_keep
    | split
    | with_reducible refine Keep.of_pair_st (by assumption) ?_
    | rfl)

theorem execTurboDecode_keep (unit : Nat) (s : State) : KeepOut 14267129462 s (execTurboDecode unit s) := by
  unfold execTurboDecode
  repeat' (first
    | with_reducible exact Keep.refl _
    | with_reducible assumption
    | (intro _)
    | with_reducible refine Keep.out ?_
    | with_reducible apply State.accRun_keep
    | with_reducible apply AccRun.each_keep
    | with_reducible apply turboDecodeJob_keep
    | rfl)

theorem execPolarDecode_keep (unit : Nat) (s : State) : KeepOut 14267129462 s (execPolarDecode unit s) := by
  unfold execPolarDecode
  repeat' (first
    | with_reducible exact Keep.refl _
    | with_reducible assumption
    | (intro _)
    | with_reducible refine Keep.out ?_
    | (fail_if_no_progress (extract_lets +onlyGivenNames x); first
        | clear_value x)
    | with_reducible apply State.accRun_keep
    | with_reducible apply decodeOne_keep
    | rfl)

theorem execPolarEncode_keep (unit : Nat) (s : State) : KeepOut 14267129462 s (execPolarEncode unit s) := by
  unfold execPolarEncode
  repeat' (first
    | with_reducible exact Keep.refl _
    | with_reducible assumption
    | (intro _)
    | with_reducible refine Keep.out ?_
    | (fail_if_no_progress (extract_lets +onlyGivenNames x); first
        | clear_value x)
    | with_reducible apply State.accRun_keep
    | with_reducible apply encodeOne_keep
    | rfl)

theorem execTbccDecode_keep (unit : Nat) (s : State) : KeepOut 14267129462 s (execTbccDecode unit s) := by
  unfold execTbccDecode
  repeat' (first
    | with_reducible exact Keep.refl _
    | with_reducible assumption
    | (intro _)
    | with_reducible refine Keep.out ?_
    | (fail_if_no_progress (extract_lets +onlyGivenNames x); first
        | clear_value x)
    | with_reducible apply State.accRun_keep
    | with_reducible apply decodeOne_keep
    | rfl)

theorem execTbccEncode_keep (unit : Nat) (s : State) : KeepOut 14267129462 s (execTbccEncode unit s) := by
  unfold execTbccEncode
  repeat' (first
    | with_reducible exact Keep.refl _
    | with_reducible assumption
    | (intro _)
    | with_reducible refine Keep.out ?_
    | (fail_if_no_progress (extract_lets +onlyGivenNames x); first
        | clear_value x)
    | with_reducible apply State.accRun_keep
    | with_reducible apply encodeOne_keep
    | rfl)

theorem tbSegment_keep {wr : Nat} {s₀ : State} (j : Job) (r : AccRun) (hk : Keep wr s₀ r.st) (hs : 13998561910 &&& wr = 13998561910) :
    Keep wr s₀ (tbSegment j r).st := by
  refine Keep.app hk ?_ hs
  unfold tbSegment
  repeat' (first
    | with_reducible exact Keep.refl _
    | with_reducible assumption
    | (intro _)
    | (fail_if_no_progress (extract_lets +onlyGivenNames x); first
        | clear_value x)
    | with_reducible apply AccRun.read_keep
    | with_reducible apply AccRun.each_keep
    | with_reducible apply AccRun.block_keep
    | with_reducible apply AccRun.write_keep
    | rfl)

theorem execTbSegment_keep (unit : Nat) (s : State) : KeepOut 14267129462 s (execTbSegment unit s) := by
  unfold execTbSegment
  repeat' (first
    | with_reducible exact Keep.refl _
    | with_reducible assumption
    | (intro _)
    | with_reducible refine Keep.out ?_
    | with_reducible apply State.accRun_keep
    | with_reducible apply tbSegment_keep
    | rfl)

theorem tbAssemble_keep {wr : Nat} {s₀ : State} (j : Job) (r : AccRun) (hk : Keep wr s₀ r.st) (hs : 13998561910 &&& wr = 13998561910) :
    Keep wr s₀ (tbAssemble j r).st := by
  refine Keep.app hk ?_ hs
  unfold tbAssemble
  repeat' (first
    | with_reducible exact Keep.refl _
    | with_reducible assumption
    | (intro _)
    | (fail_if_no_progress (extract_lets +onlyGivenNames x); first
        | (with_reducible refine Keep.cut (t := x.st) ?_ ?_; (on_goal 1 => (unfold x; clear x)); (on_goal 2 => (intro hx; clear_value x)))
        | (with_reducible refine Keep.cut (t := x.2.st) ?_ ?_; (on_goal 1 => (unfold x; clear x)); (on_goal 2 => (intro hx; clear_value x)))
        | clear_value x)
    | with_reducible apply AccRun.read_keep
    | with_reducible apply AccRun.write_keep
    | with_reducible apply AccRun.each_keep
    | with_reducible apply AccRun.block_keep
    | refine Keep.foldl_pair_st ?_ (fun t x ht => ?_)
    | rfl)

theorem execTbAssemble_keep (unit : Nat) (s : State) : KeepOut 14267129462 s (execTbAssemble unit s) := by
  unfold execTbAssemble
  repeat' (first
    | with_reducible exact Keep.refl _
    | with_reducible assumption
    | (intro _)
    | with_reducible refine Keep.out ?_
    | with_reducible apply State.accRun_keep
    | with_reducible apply tbAssemble_keep
    | rfl)

theorem matchBlock_keep {wr : Nat} {s₀ : State} (x : RateJob) (j : Job) (b : Nat) (r : AccRun) (hk : Keep wr s₀ r.st) (hs : 13965007478 &&& wr = 13965007478) :
    Keep wr s₀ (matchBlock x j b r).2.st := by
  refine Keep.app hk ?_ hs
  unfold matchBlock
  repeat' (first
    | with_reducible exact Keep.refl _
    | with_reducible apply AccRun.read_keep
    | rfl)

theorem matchJob_keep {wr : Nat} {s₀ : State} (x : RateJob) (j : Job) (r : AccRun) (hk : Keep wr s₀ r.st) (hs : 13998561910 &&& wr = 13998561910) :
    Keep wr s₀ (matchJob x j r).st := by
  refine Keep.app hk ?_ hs
  unfold matchJob
  repeat' (first
    | with_reducible exact Keep.refl _
    | with_reducible assumption
    | (fail_if_no_progress (extract_lets +onlyGivenNames x); first
        | (with_reducible refine Keep.cut (t := x.2.st) ?_ ?_; (on_goal 1 => (unfold x; clear x)); (on_goal 2 => (intro hx; clear_value x)))
        | clear_value x)
    | with_reducible apply matchBlock_keep
    | with_reducible apply AccRun.block_keep
    | with_reducible apply AccRun.write_keep
    | split
    | refine Keep.foldl_pair_st ?_ (fun t x ht => ?_)
    | rfl)

theorem execLdpcRateMatch_keep (unit : Nat) (s : State) : KeepOut 14267129462 s (execLdpcRateMatch unit s) := by
  unfold execLdpcRateMatch
  repeat' (first
    | with_reducible exact Keep.refl _
    | with_reducible assumption
    | (intro _)
    | with_reducible refine Keep.out ?_
    | with_reducible apply State.accRun_keep
    | with_reducible apply matchJob_keep
    | rfl)

theorem recoverBlock_keep {wr : Nat} {s₀ : State} (x : RateJob) (j : Job) (b : Nat) (r : AccRun) (hk : Keep wr s₀ r.st) (hs : 13998561910 &&& wr = 13998561910) :
    Keep wr s₀ (recoverBlock x j b r).st := by
  refine Keep.app hk ?_ hs
  unfold recoverBlock
  repeat' (first
    | with_reducible exact Keep.refl _
    | (fail_if_no_progress (extract_lets +onlyGivenNames x); first
        | clear_value x)
    | with_reducible apply AccRun.read_keep
    | with_reducible apply AccRun.stored_keep
    | with_reducible apply AccRun.block_keep
    | with_reducible apply AccRun.write_keep
    | split
    | rfl)

theorem execLdpcRateRecover_keep (unit : Nat) (s : State) : KeepOut 14267129462 s (execLdpcRateRecover unit s) := by
  unfold execLdpcRateRecover
  repeat' (first
    | with_reducible exact Keep.refl _
    | with_reducible assumption
    | (intro _)
    | with_reducible refine Keep.out ?_
    | with_reducible apply State.accRun_keep
    | with_reducible apply AccRun.each_keep
    | with_reducible apply recoverBlock_keep
    | rfl)

theorem execTurboEncode_keep (unit : Nat) (s : State) : KeepOut 14267129462 s (execTurboEncode unit s) := by
  unfold execTurboEncode
  repeat' (first
    | with_reducible exact Keep.refl _
    | with_reducible assumption
    | (intro _)
    | with_reducible refine Keep.out ?_
    | (fail_if_no_progress (extract_lets +onlyGivenNames x); first
        | clear_value x)
    | with_reducible apply State.accRun_keep
    | with_reducible apply AccRun.each_keep
    | with_reducible apply AccRun.read_keep
    | with_reducible apply AccRun.block_keep
    | with_reducible apply AccRun.write_keep
    | rfl)

theorem execTurboRateMatch_keep (unit : Nat) (s : State) : KeepOut 14267129462 s (execTurboRateMatch unit s) := by
  unfold execTurboRateMatch
  repeat' (first
    | with_reducible exact Keep.refl _
    | with_reducible assumption
    | (intro _)
    | with_reducible refine Keep.out ?_
    | with_reducible apply State.accRun_keep
    | with_reducible apply matchJob_keep
    | rfl)

theorem execTurboRateRecover_keep (unit : Nat) (s : State) : KeepOut 14267129462 s (execTurboRateRecover unit s) := by
  unfold execTurboRateRecover
  repeat' (first
    | with_reducible exact Keep.refl _
    | with_reducible assumption
    | (intro _)
    | with_reducible refine Keep.out ?_
    | with_reducible apply State.accRun_keep
    | with_reducible apply AccRun.each_keep
    | with_reducible apply recoverBlock_keep
    | rfl)

end Sys2Proof.Machine
end

