-- ==== Sys2Proof/Laws/KeepCpri.lean ====
section
/-!
SUPPORT. The parts of the state that the operations of Machine/Cpri.lean may write.
-/

namespace Sys2Proof.Machine

open Reg Ob

theorem State.setCpri_keep {wr : Nat} {s₀ : State} (s : State) (n : Nat) (x : Cpri) (hk : Keep wr s₀ s) (hs : 1048576 &&& wr = 1048576) :
    Keep wr s₀ (State.setCpri s n x) := by
  refine Keep.app hk ?_ hs
  unfold State.setCpri
  repeat' (first
    | with_reducible exact Keep.refl _
    | (fail_if_no_progress (extract_lets +onlyGivenNames x); first
        | clear_value x)
    | with_reducible apply State.setFh_keep
    | rfl)

theorem State.writeCpriCfg_keep {wr : Nat} {s₀ : State} (s : State) (u n v : Nat) (hk : Keep wr s₀ s) (hs : 1048592 &&& wr = 1048592) :
    Keep wr s₀ (State.writeCpriCfg s u n v) := by
  refine Keep.app hk ?_ hs
  unfold State.writeCpriCfg
  repeat' (first
    | with_reducible exact Keep.refl _
    | with_reducible assumption
    | (fail_if_no_progress (extract_lets +onlyGivenNames x); first
        | (with_reducible refine Keep.cut (t := x) ?_ ?_; (on_goal 1 => (unfold x; clear x)); (on_goal 2 => (intro hx; clear_value x)))
        | clear_value x)
    | with_reducible apply State.sf_keep
    | with_reducible apply State.setCpri_keep
    | with_reducible refine Keep.ite ?_ ?_
    | rfl)

theorem State.sendL1_keep {wr : Nat} {s₀ : State} (s : State) (n : Nat) (hk : Keep wr s₀ s) (hs : 4 &&& wr = 4) :
    Keep wr s₀ (State.sendL1 s n) := by
  refine Keep.app hk ?_ hs
  unfold State.sendL1
  repeat' (first
    | with_reducible exact Keep.refl _
    | (fail_if_no_progress (extract_lets +onlyGivenNames x); first
        | clear_value x)
    | with_reducible apply State.send_keep
    | rfl)

theorem execCpriEnable_keep (requester lane : Nat) (value : Half) (s : State) : KeepOut 269484048 s (execCpriEnable requester lane value s) := by
  unfold execCpriEnable
  repeat' (first
    | with_reducible exact Keep.refl _
    | with_reducible assumption
    | (intro _)
    | with_reducible refine Keep.out ?_
    | with_reducible apply State.atIsland_keep
    | with_reducible apply State.writeCpriCfg_keep
    | rfl)

theorem execCpriHfsyncAchieved_keep (lane : Nat) (s : State) : KeepOut 20 s (execCpriHfsyncAchieved lane s) := by
  unfold execCpriHfsyncAchieved
  repeat' (first
    | with_reducible exact Keep.refl _
    | with_reducible refine Keep.out ?_
    | with_reducible apply State.sendL1_keep
    | with_reducible apply State.sf_keep
    | with_reducible refine Keep.ite ?_ ?_
    | rfl)

theorem execCpriHfsyncLost_keep (lane : Nat) (s : State) : KeepOut 4298182676 s (execCpriHfsyncLost lane s) := by
  unfold execCpriHfsyncLost
  repeat' (first
    | with_reducible exact Keep.refl _
    | with_reducible refine Keep.out ?_
    | with_reducible apply State.cpriEvent_keep
    | with_reducible apply State.sendL1_keep
    | with_reducible apply State.setCpri_keep
    | with_reducible apply State.sf_keep
    | with_reducible refine Keep.ite ?_ ?_
    | rfl)

theorem execCpriHyperframeRx_keep (lane sub hfn bfn : Nat) (rai : Bool) (s : State) : KeepOut 1048592 s (execCpriHyperframeRx lane sub hfn bfn rai s) := by
  unfold execCpriHyperframeRx
  repeat' (first
    | with_reducible exact Keep.refl _
    | with_reducible assumption
    | with_reducible refine Keep.out ?_
    | (fail_if_no_progress (extract_lets +onlyGivenNames x); first
        | (with_reducible refine Keep.cut (t := x) ?_ ?_; (on_goal 1 => (unfold x; clear x)); (on_goal 2 => (intro hx; clear_value x)))
        | clear_value x)
    | with_reducible apply State.setCpri_keep
    | with_reducible apply State.sf_keep
    | with_reducible refine Keep.ite ?_ ?_
    | rfl)

theorem execCpriBasicFrameRx_keep (lane x hfn bfn : Nat) (control iq : List Byte) (credit : Bool) (s : State) : KeepOut 4298182676 s (execCpriBasicFrameRx lane x hfn bfn control iq credit s) := by
  unfold execCpriBasicFrameRx
  repeat' (first
    | with_reducible exact Keep.refl _
    | with_reducible assumption
    | with_reducible refine Keep.out ?_
    | (fail_if_no_progress (extract_lets +onlyGivenNames x); first
        | clear_value x)
    | with_reducible apply State.send_keep
    | with_reducible apply State.setCpri_keep
    | with_reducible apply State.cpriEvent_keep
    | with_reducible apply State.incf_keep
    | with_reducible refine Keep.ite ?_ ?_
    | refine Keep.foldl ?_ (fun t x ht => ?_)
    | rfl)

theorem execCpriBasicFrameTx_keep (lane : Nat) (supplied : Option (List Byte × List Byte)) (s : State) : KeepOut 4297134100 s (execCpriBasicFrameTx lane supplied s) := by
  unfold execCpriBasicFrameTx
  repeat' (first
    | with_reducible exact Keep.refl _
    | with_reducible refine Keep.out ?_
    | (fail_if_no_progress (extract_lets +onlyGivenNames x); first
        | clear_value x)
    | with_reducible apply State.send_keep
    | with_reducible apply State.cpriEvent_keep
    | with_reducible apply State.incf_keep
    | with_reducible refine Keep.ite ?_ ?_
    | rfl)

end Sys2Proof.Machine
end

