-- ==== Sys2Proof/Laws/KeepWeftCommands.lean ====
section
/-!
SUPPORT. The parts of the state that the operations of Machine/WeftCommands.lean may write.
-/

namespace Sys2Proof.Machine

open Reg Ob

theorem State.servePop_keep {wr : Nat} {s₀ : State} (s : State) (queue unit : Nat) (hk : Keep wr s₀ s) (hs : 14233443958 &&& wr = 14233443958) :
    Keep wr s₀ (State.servePop s queue unit) := by
  refine Keep.app hk ?_ hs
  unfold State.servePop
  repeat' (first
    | with_reducible exact Keep.refl _
    | with_reducible apply State.post_keep
    | with_reducible apply State.send_keep
    | with_reducible apply State.popQueue_keep
    | with_reducible refine Keep.ite ?_ ?_
    | split
    | with_reducible refine Keep.of_pair (by assumption) ?_
    | rfl)

theorem State.entryLanded_keep {wr : Nat} {s₀ : State} (s : State) (q u : Nat) (hk : Keep wr s₀ s) (hs : 2248726 &&& wr = 2248726) :
    Keep wr s₀ (State.entryLanded s q u) := by
  refine Keep.app hk ?_ hs
  unfold State.entryLanded
  repeat' (first
    | with_reducible exact Keep.refl _
    | with_reducible assumption
    | (fail_if_no_progress (extract_lets +onlyGivenNames x); first
        | (with_reducible refine Keep.cut (t := x) ?_ ?_; (on_goal 1 => (unfold x; clear x)); (on_goal 2 => (intro hx; clear_value x)))
        | clear_value x)
    | with_reducible apply State.ringLanded_keep
    | with_reducible apply State.exitLanded_keep
    | with_reducible apply State.post_keep
    | with_reducible apply State.setSeam_keep
    | with_reducible refine Keep.ite ?_ ?_
    | split
    | rfl)

theorem State.entryArrived_keep {wr : Nat} {s₀ : State} (s : State) (q : Nat) (hk : Keep wr s₀ s) (hs : 14267178614 &&& wr = 14267178614) :
    Keep wr s₀ (State.entryArrived s q) := by
  refine Keep.app hk ?_ hs
  unfold State.entryArrived
  repeat' (first
    | with_reducible exact Keep.refl _
    | with_reducible assumption
    | (fail_if_no_progress (extract_lets +onlyGivenNames x); first
        | (with_reducible refine Keep.cut (t := x) ?_ ?_; (on_goal 1 => (unfold x; clear x)); (on_goal 2 => (intro hx; clear_value x)))
        | clear_value x)
    | with_reducible apply State.settle_keep
    | with_reducible apply State.popwArrived_keep
    | with_reducible refine Keep.ite ?_ ?_
    | rfl)

theorem State.grantPeer_keep {wr : Nat} {s₀ : State} (s : State) (queue n credits : Nat) (hk : Keep wr s₀ s) (hs : 2098176 &&& wr = 2098176) :
    Keep wr s₀ (State.grantPeer s queue n credits) := by
  refine Keep.app hk ?_ hs
  unfold State.grantPeer
  repeat' (first
    | with_reducible exact Keep.refl _
    | with_reducible assumption
    | (fail_if_no_progress (extract_lets +onlyGivenNames x); first
        | (with_reducible refine Keep.cut (t := x) ?_ ?_; (on_goal 1 => (unfold x; clear x)); (on_goal 2 => (intro hx; clear_value x)))
        | clear_value x)
    | with_reducible apply State.setPort_keep
    | with_reducible apply State.post_keep
    | with_reducible apply State.setSeam_keep
    | split
    | rfl)

theorem execClockFloor_keep (island mhz : Nat) (s : State) : KeepOut 4297135124 s (execClockFloor island mhz s) := by
  unfold execClockFloor
  repeat' (first
    | with_reducible exact Keep.refl _
    | with_reducible assumption
    | with_reducible refine Keep.out ?_
    | (fail_if_no_progress (extract_lets +onlyGivenNames x); first
        | (with_reducible refine Keep.cut (t := x) ?_ ?_; (on_goal 1 => (unfold x; clear x)); (on_goal 2 => (intro hx; clear_value x)))
        | clear_value x)
    | with_reducible apply State.sf_keep
    | with_reducible apply State.raise_keep
    | with_reducible refine Keep.ite ?_ ?_
    | rfl
    | fail_if_no_progress (with_reducible refine Keep.set_weft (by decide) ?_))

theorem execQueueEntryLand_keep (queue unit : Nat) (s : State) : KeepOut 14267178614 s (execQueueEntryLand queue unit s) := by
  unfold execQueueEntryLand
  repeat' (first
    | with_reducible exact Keep.refl _
    | with_reducible assumption
    | with_reducible refine Keep.out ?_
    | (fail_if_no_progress (extract_lets +onlyGivenNames x); first
        | (with_reducible refine Keep.cut (t := x) ?_ ?_; (on_goal 1 => (unfold x; clear x)); (on_goal 2 => (intro hx; clear_value x))))
    | with_reducible apply State.stallSlot_keep
    | with_reducible apply State.dropFlit_keep
    | with_reducible apply State.entryLanded_keep
    | with_reducible apply State.post_keep
    | with_reducible apply State.entryArrived_keep
    | with_reducible apply State.landEntry_keep
    | with_reducible refine Keep.ite ?_ ?_
    | split
    | rfl)

theorem execQueuePopRequest_keep (queue : Nat) (unit : Requester) (s : State) : KeepOut 14233443958 s (execQueuePopRequest queue unit s) := by
  unfold execQueuePopRequest
  repeat' (first
    | with_reducible exact Keep.refl _
    | with_reducible refine Keep.out ?_
    | with_reducible apply State.stallAt_keep
    | with_reducible apply State.servePop_keep
    | with_reducible apply State.fenceFlit_keep
    | with_reducible refine Keep.ite ?_ ?_
    | rfl)

theorem execCreditRequest_keep (queue unit : Nat) (s : State) : KeepOut 2098192 s (execCreditRequest queue unit s) := by
  unfold execCreditRequest
  repeat' (first
    | with_reducible exact Keep.refl _
    | with_reducible assumption
    | with_reducible refine Keep.out ?_
    | (fail_if_no_progress (extract_lets +onlyGivenNames x); first
        | (with_reducible refine Keep.cut (t := x) ?_ ?_; (on_goal 1 => (unfold x; clear x)); (on_goal 2 => (intro hx; clear_value x)))
        | clear_value x)
    | with_reducible apply State.dropFlit_keep
    | with_reducible apply State.post_keep
    | with_reducible apply State.serve_keep
    | split
    | rfl
    | fail_if_no_progress (with_reducible refine Keep.set_weft (by decide) ?_))

theorem execCreditGrantArrive_keep (queue unit : Nat) (s : State) : KeepOut 4297315348 s (execCreditGrantArrive queue unit s) := by
  unfold execCreditGrantArrive
  repeat' (first
    | with_reducible exact Keep.refl _
    | with_reducible assumption
    | with_reducible refine Keep.out ?_
    | (fail_if_no_progress (extract_lets +onlyGivenNames x); first
        | (with_reducible refine Keep.cut (t := x) ?_ ?_; (on_goal 1 => (unfold x; clear x)); (on_goal 2 => (intro hx; clear_value x))))
    | with_reducible apply State.dropFlit_keep
    | with_reducible apply State.grantPeer_keep
    | with_reducible apply State.creditsArrive_keep
    | with_reducible apply State.takeAsync_keep
    | with_reducible refine Keep.ite ?_ ?_
    | split
    | rfl)

theorem execQueueStall_keep (queue unit : Nat) (s : State) : KeepOut 4297135124 s (execQueueStall queue unit s) := by
  unfold execQueueStall
  repeat' (first
    | with_reducible exact Keep.refl _
    | with_reducible assumption
    | with_reducible refine Keep.out ?_
    | (fail_if_no_progress (extract_lets +onlyGivenNames x); first
        | (with_reducible refine Keep.cut (t := x) ?_ ?_; (on_goal 1 => (unfold x; clear x)); (on_goal 2 => (intro hx; clear_value x)))
        | clear_value x)
    | with_reducible apply State.setPort_keep
    | with_reducible apply State.maxf_keep
    | with_reducible apply State.sf_keep
    | with_reducible apply State.raise_keep
    | with_reducible refine Keep.ite ?_ ?_
    | rfl)

theorem execQueueEnable_keep (requester queue depthLog grantLog consumer : Nat) (s : State) : KeepOut 4565570580 s (execQueueEnable requester queue depthLog grantLog consumer s) := by
  unfold execQueueEnable
  repeat' (first
    | with_reducible exact Keep.refl _
    | with_reducible assumption
    | (intro _)
    | with_reducible refine Keep.out ?_
    | with_reducible apply State.atIsland_keep
    | with_reducible apply State.writeQcfg_keep
    | rfl)

theorem execQueueDisable_keep (requester queue depthLog grantLog consumer : Nat) (s : State) : KeepOut 4565570580 s (execQueueDisable requester queue depthLog grantLog consumer s) := by
  unfold execQueueDisable
  repeat' (first
    | with_reducible exact Keep.refl _
    | with_reducible assumption
    | (intro _)
    | with_reducible refine Keep.out ?_
    | with_reducible apply State.atIsland_keep
    | with_reducible apply State.writeQcfg_keep
    | rfl)

theorem execQueueDrainMark_keep (queue unit : Nat) (s : State) : KeepOut 1040 s (execQueueDrainMark queue unit s) := by
  unfold execQueueDrainMark
  repeat' (first
    | with_reducible exact Keep.refl _
    | with_reducible assumption
    | with_reducible refine Keep.out ?_
    | (fail_if_no_progress (extract_lets +onlyGivenNames x); first
        | (with_reducible refine Keep.cut (t := x) ?_ ?_; (on_goal 1 => (unfold x; clear x)); (on_goal 2 => (intro hx; clear_value x)))
        | clear_value x)
    | with_reducible apply State.dropFlit_keep
    | with_reducible apply State.endDisable_keep
    | with_reducible refine Keep.ite ?_ ?_
    | split
    | rfl
    | fail_if_no_progress (with_reducible refine Keep.set_weft (by decide) ?_))

theorem execDrainMarkResend_keep (queue unit : Nat) (s : State) : KeepOut 1024 s (execDrainMarkResend queue unit s) := by
  unfold execDrainMarkResend
  repeat' (first
    | with_reducible exact Keep.refl _
    | with_reducible refine Keep.out ?_
    | with_reducible apply State.sendDrain_keep
    | with_reducible refine Keep.ite ?_ ?_
    | split
    | rfl)

end Sys2Proof.Machine
end

