-- ==== Sys2Proof/Laws/KeepMemCommands.lean ====
section
/-!
SUPPORT. The parts of the state that the operations of Machine/MemCommands.lean may write.
-/

namespace Sys2Proof.Machine

open Reg Ob

theorem copyWord_wf {p : Prop} {m : Memory} {a : Nat} (h : p → Memory.wf m = true) :
    p → Memory.wf (copyWord m a) = true := by
  unfold copyWord
  split <;> exact Memory.storeWord_wf h

theorem State.consumedBad_keep {wr : Nat} {s₀ : State} (s : State) (u : Nat) (hk : Keep wr s₀ s) (hs : 4297579540 &&& wr = 4297579540) :
    Keep wr s₀ (State.consumedBad s u) := by
  refine Keep.app hk ?_ hs
  unfold State.consumedBad
  repeat' (first
    | with_reducible exact Keep.refl _
    | with_reducible assumption
    | (fail_if_no_progress (extract_lets +onlyGivenNames x); first
        | (with_reducible refine Keep.cut (t := x) ?_ ?_; (on_goal 1 => (unfold x; clear x)); (on_goal 2 => (intro hx; clear_value x))))
    | with_reducible apply State.poisonReset_keep
    | with_reducible apply State.resetGusset_keep
    | with_reducible apply State.reportJob_keep
    | with_reducible apply State.resetAcc_keep
    | with_reducible apply State.resetHem_keep
    | with_reducible refine Keep.ite ?_ ?_
    | split
    | rfl)

theorem State.refuseAccess_keep {wr : Nat} {s₀ : State} (s : State) (u a : Nat) (write : Bool) (hk : Keep wr s₀ s) (hs : 4297136148 &&& wr = 4297136148) :
    Keep wr s₀ (State.refuseAccess s u a write) := by
  refine Keep.app hk ?_ hs
  unfold State.refuseAccess
  repeat' (first
    | with_reducible exact Keep.refl _
    | with_reducible apply State.send_keep
    | with_reducible apply State.raise_keep
    | with_reducible apply State.incf_keep
    | with_reducible apply State.countDenial_keep
    | with_reducible refine Keep.ite ?_ ?_
    | rfl)

theorem State.decodeError_keep {wr : Nat} {s₀ : State} (s : State) (unit a : Nat) (hk : Keep wr s₀ s) (hs : 4297315348 &&& wr = 4297315348) :
    Keep wr s₀ (State.decodeError s unit a) := by
  refine Keep.app hk ?_ hs
  unfold State.decodeError
  repeat' (first
    | with_reducible exact Keep.refl _
    | with_reducible apply State.raiseSync_keep
    | with_reducible apply State.send_keep
    | with_reducible refine Keep.ite ?_ ?_
    | rfl)

theorem State.memoryRead_keep {wr : Nat} {s₀ : State} (s : State) (unit address words : Nat) (upsets : List (BitVec 80)) (hk : Keep wr s₀ s) (hs : 14233886326 &&& wr = 14233886326) :
    Keep wr s₀ (State.memoryRead s unit address words upsets) := by
  refine Keep.app hk ?_ hs
  unfold State.memoryRead
  repeat' (first
    | with_reducible exact Keep.refl _
    | with_reducible assumption
    | (fail_if_no_progress (extract_lets +onlyGivenNames x); first
        | (with_reducible refine Keep.cut (t := x) ?_ ?_; (on_goal 1 => (unfold x; clear x)); (on_goal 2 => (intro hx; clear_value x)))
        | (with_reducible refine Keep.cut (t := x.2) ?_ ?_; (on_goal 1 => (unfold x; clear x)); (on_goal 2 => (intro hx; clear_value x)))
        | clear_value x)
    | with_reducible apply State.refuseAccess_keep
    | with_reducible apply State.decodeError_keep
    | with_reducible apply State.stallOn_keep
    | with_reducible apply State.upsetWords_keep
    | with_reducible apply State.readUntilBad_keep
    | with_reducible apply State.readWords_keep
    | with_reducible apply State.send_keep
    | with_reducible apply State.consumedBad_keep
    | with_reducible refine Keep.ite ?_ ?_
    | with_reducible refine Keep.ite_snd ?_ ?_
    | split
    | rfl)

theorem State.crossRun_keep {wr : Nat} {s₀ : State} (s : State) (unit : Nat) (l : List (Nat × Option (List (Option Byte))))
    (es : List (BitVec 80)) (hk : Keep wr s₀ s) (hs : 4297134102 &&& wr = 4297134102) : Keep wr s₀ (s.crossRun unit l es).2 := by
  induction l generalizing s es with
  | nil => exact hk
  | cons x r ih => exact ih _ _ (State.crossWord_keep _ _ _ _ hk (Nat.sub_trans (by decide) hs))

theorem State.writeEnabled_keep {wr : Nat} {s₀ : State} (s : State) (unit : Nat)
    (l : List (Nat × Option (List (Option Byte)))) (hk : Keep wr s₀ s) (hs : 13998561908 &&& wr = 13998561908) :
    Keep wr s₀ (s.writeEnabled unit l).2 := by
  induction l generalizing s with
  | nil => exact hk
  | cons x r ih =>
    obtain ⟨wa, w⟩ := x
    cases w with
    | none => exact ih _ (State.writeWordAt_keep _ _ _ _ hk (Nat.sub_trans (by decide) hs))
    | some new =>
      unfold State.writeEnabled
      refine ih _ ?_
      dsimp only
      split
      · exact hk
      · exact State.mergeWordAt_keep _ _ _ _ hk hs

theorem State.memoryWrite_keep {wr : Nat} {s₀ : State} (s : State) (unit address n : Nat) (words : List (Nat × Option (List (Option Byte)))) (upsets : List (BitVec 80)) (hk : Keep wr s₀ s) (hs : 14267178612 &&& wr = 14267178612) :
    Keep wr s₀ (State.memoryWrite s unit address n words upsets) := by
  refine Keep.app hk ?_ hs
  unfold State.memoryWrite
  repeat' (first
    | with_reducible exact Keep.refl _
    | with_reducible assumption
    | (fail_if_no_progress (extract_lets +onlyGivenNames x); first
        | (with_reducible refine Keep.cut (t := x) ?_ ?_; (on_goal 1 => (unfold x; clear x)); (on_goal 2 => (intro hx; clear_value x)))
        | (with_reducible refine Keep.cut (t := x.2) ?_ ?_; (on_goal 1 => (unfold x; clear x)); (on_goal 2 => (intro hx; clear_value x))))
    | with_reducible apply State.refuseAccess_keep
    | with_reducible apply State.decodeError_keep
    | with_reducible apply State.stallOn_keep
    | with_reducible apply State.writeEnabled_keep
    | with_reducible apply State.upsetWords_keep
    | with_reducible apply State.poisonJob_keep
    | with_reducible apply State.send_keep
    | with_reducible refine Keep.ite ?_ ?_
    | split
    | rfl)

theorem State.crossLoose_keep {wr : Nat} {s₀ : State} (s : State) (f : LooseFlit) (sender pair : Nat) (routeA routeB : BitVec 80) (errors : List (BitVec 80)) (hk : Keep wr s₀ s) (hs : 14267440758 &&& wr = 14267440758) :
    Keep wr s₀ (State.crossLoose s f sender pair routeA routeB errors) := by
  refine Keep.app hk ?_ hs
  unfold State.crossLoose
  repeat' (first
    | with_reducible exact Keep.refl _
    | with_reducible assumption
    | (fail_if_no_progress (extract_lets +onlyGivenNames x); first
        | (with_reducible refine Keep.cut (t := x) ?_ ?_; (on_goal 1 => (unfold x; clear x)); (on_goal 2 => (intro hx; clear_value x)))
        | (with_reducible refine Keep.cut (t := x.2) ?_ ?_; (on_goal 1 => (unfold x; clear x)); (on_goal 2 => (intro hx; clear_value x)))
        | clear_value x)
    | with_reducible apply State.routeCopy_keep
    | with_reducible apply State.raise_keep
    | with_reducible apply State.incf_keep
    | with_reducible apply State.fenceFlit_keep
    | with_reducible apply State.servePop_keep
    | with_reducible apply State.memoryRead_keep
    | with_reducible apply State.crossRun_keep
    | with_reducible apply State.memoryWrite_keep
    | with_reducible apply State.crossWords_keep
    | with_reducible apply State.send_keep
    | with_reducible refine Keep.ite ?_ ?_
    | split
    | rfl
    | fail_if_no_progress (with_reducible refine Keep.set_weft (by decide) ?_))

theorem State.internalCorrected_keep {wr : Nat} {s₀ : State} (s : State) (memid : Nat) (hk : Keep wr s₀ s) (hs : 16 &&& wr = 16) :
    Keep wr s₀ (State.internalCorrected s memid) := by
  refine Keep.app hk ?_ hs
  unfold State.internalCorrected
  repeat' (first
    | with_reducible exact Keep.refl _
    | (fail_if_no_progress (extract_lets +onlyGivenNames x); first
        | clear_value x)
    | with_reducible apply State.incf_keep
    | with_reducible refine Keep.ite ?_ ?_
    | split
    | rfl)

theorem execStitchTransfer_keep (sender receiver : Nat) (routeA routeB : BitVec 80) (errors : List (BitVec 80)) (requests answers : List LooseFlit) (s : State) : KeepOut 14267440758 s (execStitchTransfer sender receiver routeA routeB errors requests answers s) := by
  unfold execStitchTransfer
  repeat' (first
    | with_reducible exact Keep.refl _
    | with_reducible refine Keep.out ?_
    | (fail_if_no_progress (extract_lets +onlyGivenNames x); first
        | clear_value x)
    | with_reducible apply State.stallAt_keep
    | with_reducible apply State.crossFlit_keep
    | with_reducible apply State.crossLoose_keep
    | with_reducible refine Keep.ite ?_ ?_
    | split
    | rfl)

theorem execMemoryReadRequest_keep (unit : Requester) (address words : Nat) (upsets : List (BitVec 80)) (s : State) : KeepOut 14233886326 s (execMemoryReadRequest unit address words upsets s) := by
  unfold execMemoryReadRequest
  repeat' (first
    | with_reducible exact Keep.refl _
    | with_reducible refine Keep.out ?_
    | with_reducible apply State.memoryRead_keep
    | with_reducible apply State.fenceFlit_keep
    | with_reducible refine Keep.ite ?_ ?_
    | rfl)

theorem execMemoryWriteRequest_keep (unit : Requester) (address : Nat) (data : List (Option Byte)) (upsets : List (BitVec 80)) (s : State) : KeepOut 14267178612 s (execMemoryWriteRequest unit address data upsets s) := by
  unfold execMemoryWriteRequest
  repeat' (first
    | with_reducible exact Keep.refl _
    | with_reducible refine Keep.out ?_
    | with_reducible apply State.memoryWrite_keep
    | with_reducible apply State.fenceFlit_keep
    | with_reducible refine Keep.ite ?_ ?_
    | rfl)

theorem execScrubRead_keep (memid word : Nat) (upset : BitVec 80) (s : State) : KeepOut 13965007476 s (execScrubRead memid word upset s) := by
  unfold execScrubRead
  repeat' (first
    | with_reducible exact Keep.refl _
    | with_reducible assumption
    | with_reducible apply Memory.storeWord_wf
    | with_reducible exact Keep.wf (by assumption)
    | with_reducible refine Keep.out ?_
    | (fail_if_no_progress (extract_lets +onlyGivenNames x); first
        | (with_reducible refine Keep.cut (t := x) ?_ ?_; (on_goal 1 => (unfold x; clear x)); (on_goal 2 => (intro hx; clear_value x))))
    | with_reducible apply State.upsetCell_keep
    | with_reducible apply State.watchBurst_keep
    | with_reducible apply State.darnRead_keep
    | with_reducible apply State.countCorrection_keep
    | with_reducible apply State.countUncorrectable_keep
    | with_reducible apply State.darnNote_keep
    | with_reducible apply State.internalCorrected_keep
    | with_reducible refine Keep.ite ?_ ?_
    | split
    | rfl
    | fail_if_no_progress (with_reducible refine Keep.set_mem (by decide) ?_ ?_))

theorem execDarningWatchExpire_keep (memid word : Nat) (s : State) : KeepOut 2048 s (execDarningWatchExpire memid word s) := by
  unfold execDarningWatchExpire
  repeat' (first
    | with_reducible exact Keep.refl _
    | with_reducible refine Keep.out ?_
    | with_reducible apply State.setLog_keep
    | rfl)

theorem execRowRepairCopyDone_keep (s : State) : KeepOut 13960813172 s (execRowRepairCopyDone s) := by
  unfold execRowRepairCopyDone
  repeat' (first
    | with_reducible exact Keep.refl _
    | with_reducible assumption
    | with_reducible apply copyWord_wf
    | with_reducible refine Memory.foldl_wf ?_ (fun t x ht => ?_)
    | with_reducible exact id
    | with_reducible refine Keep.out ?_
    | (fail_if_no_progress (extract_lets +onlyGivenNames x); first
        | (with_reducible refine Keep.cut (t := x) ?_ ?_; (on_goal 1 => (unfold x; clear x)); (on_goal 2 => (intro hx; clear_value x)))
        | clear_value x)
    | with_reducible apply State.setLog_keep
    | with_reducible apply State.inco_keep
    | with_reducible apply State.incf_keep
    | with_reducible apply State.raise_keep
    | with_reducible apply State.sdom_keep
    | split
    | rfl
    | fail_if_no_progress (with_reducible refine Keep.set_mem_protect (by decide) ?_ ?_))

end Sys2Proof.Machine
end

