-- ==== Sys2Proof/Laws/KeepDram.lean ====
section
/-!
SUPPORT. The parts of the state that the operations of Machine/Dram.lean may write.
-/

namespace Sys2Proof.Machine

open Reg Ob

theorem State.manageRefresh_keep {wr : Nat} {s₀ : State} (s : State) (c bank : Nat) (hk : Keep wr s₀ s) (hs : 4194308 &&& wr = 4194308) :
    Keep wr s₀ (State.manageRefresh s c bank) := by
  refine Keep.app hk ?_ hs
  unfold State.manageRefresh
  repeat' (first
    | with_reducible exact Keep.refl _
    | (fail_if_no_progress (extract_lets +onlyGivenNames x); first
        | clear_value x)
    | with_reducible apply State.send_keep
    | with_reducible apply State.setDch_keep
    | rfl)

theorem State.countActivation_keep {wr : Nat} {s₀ : State} (s : State) (c bank : Nat) (hk : Keep wr s₀ s) (hs : 4194308 &&& wr = 4194308) :
    Keep wr s₀ (State.countActivation s c bank) := by
  refine Keep.app hk ?_ hs
  unfold State.countActivation
  repeat' (first
    | with_reducible exact Keep.refl _
    | with_reducible assumption
    | (fail_if_no_progress (extract_lets +onlyGivenNames x); first
        | (with_reducible refine Keep.cut (t := x) ?_ ?_; (on_goal 1 => (unfold x; clear x)); (on_goal 2 => (intro hx; clear_value x)))
        | clear_value x)
    | with_reducible apply State.manageRefresh_keep
    | with_reducible apply State.setDch_keep
    | with_reducible refine Keep.ite ?_ ?_
    | rfl)

theorem State.throttle_keep {wr : Nat} {s₀ : State} (s : State) (c unit bank : Nat) (hk : Keep wr s₀ s) (hs : 4301328404 &&& wr = 4301328404) :
    Keep wr s₀ (State.throttle s c unit bank) := by
  refine Keep.app hk ?_ hs
  unfold State.throttle
  repeat' (first
    | with_reducible exact Keep.refl _
    | with_reducible assumption
    | (fail_if_no_progress (extract_lets +onlyGivenNames x); first
        | (with_reducible refine Keep.cut (t := x) ?_ ?_; (on_goal 1 => (unfold x; clear x)); (on_goal 2 => (intro hx; clear_value x)))
        | clear_value x)
    | with_reducible apply State.incf_keep
    | with_reducible apply State.setDch_keep
    | with_reducible apply State.dramEvent_keep
    | with_reducible refine Keep.ite ?_ ?_
    | rfl)

theorem State.activate_keep {wr : Nat} {s₀ : State} (s : State) (p : DramPlace) (unit : Nat) (hk : Keep wr s₀ s) (hs : 4301328404 &&& wr = 4301328404) :
    Keep wr s₀ (State.activate s p unit) := by
  refine Keep.app hk ?_ hs
  unfold State.activate
  repeat' (first
    | with_reducible exact Keep.refl _
    | with_reducible assumption
    | (fail_if_no_progress (extract_lets +onlyGivenNames x); first
        | (with_reducible refine Keep.cut (t := x) ?_ ?_; (on_goal 1 => (unfold x; clear x)); (on_goal 2 => (intro hx; clear_value x)))
        | clear_value x)
    | with_reducible apply State.countActivation_keep
    | with_reducible apply State.setDch_keep
    | with_reducible apply State.sf_keep
    | with_reducible apply State.incf_keep
    | with_reducible apply State.manageRefresh_keep
    | with_reducible apply State.throttle_keep
    | with_reducible refine Keep.ite ?_ ?_
    | rfl)

theorem State.admitHeld_keep {wr : Nat} {s₀ : State} (s : State) (c : Nat) (hk : Keep wr s₀ s) (hs : 4194304 &&& wr = 4194304) :
    Keep wr s₀ (State.admitHeld s c) := by
  refine Keep.app hk ?_ hs
  unfold State.admitHeld
  repeat' (first
    | with_reducible exact Keep.refl _
    | with_reducible assumption
    | (fail_if_no_progress (extract_lets +onlyGivenNames x); first
        | clear_value x)
    | with_reducible apply State.setDch_keep
    | with_reducible refine Keep.ite ?_ ?_
    | refine Keep.foldl ?_ (fun t x ht => ?_)
    | rfl)

theorem State.enterSelfRefresh_keep {wr : Nat} {s₀ : State} (s : State) (c r : Nat) (hk : Keep wr s₀ s) (hs : 4194304 &&& wr = 4194304) :
    Keep wr s₀ (State.enterSelfRefresh s c r) := by
  refine Keep.app hk ?_ hs
  unfold State.enterSelfRefresh
  repeat' (first
    | with_reducible exact Keep.refl _
    | (fail_if_no_progress (extract_lets +onlyGivenNames x); first
        | clear_value x)
    | with_reducible apply State.setDrank_keep
    | rfl)

theorem State.answerBuffered_keep {wr : Nat} {s₀ : State} (s : State) (c : Nat) (hk : Keep wr s₀ s) (hs : 4194320 &&& wr = 4194320) :
    Keep wr s₀ (State.answerBuffered s c) := by
  refine Keep.app hk ?_ hs
  unfold State.answerBuffered
  repeat' (first
    | with_reducible exact Keep.refl _
    | with_reducible assumption
    | (fail_if_no_progress (extract_lets +onlyGivenNames x); first
        | (with_reducible refine Keep.cut (t := x) ?_ ?_; (on_goal 1 => (unfold x; clear x)); (on_goal 2 => (intro hx; clear_value x)))
        | clear_value x)
    | with_reducible apply State.setDch_keep
    | with_reducible apply State.admitHeld_keep
    | with_reducible apply State.maxf_keep
    | refine Keep.foldl ?_ (fun t x ht => ?_)
    | rfl)

theorem State.writeXlate_keep {wr : Nat} {s₀ : State} (s : State) (u addr : Nat) (hk : Keep wr s₀ s) (hs : 16 &&& wr = 16) :
    Keep wr s₀ (State.writeXlate s u addr) := by
  refine Keep.app hk ?_ hs
  unfold State.writeXlate
  repeat' (first
    | with_reducible exact Keep.refl _
    | with_reducible assumption
    | (fail_if_no_progress (extract_lets +onlyGivenNames x); first
        | (with_reducible refine Keep.cut (t := x) ?_ ?_; (on_goal 1 => (unfold x; clear x)); (on_goal 2 => (intro hx; clear_value x)))
        | clear_value x)
    | with_reducible apply State.sf_keep
    | with_reducible refine Keep.ite ?_ ?_
    | refine Keep.foldl ?_ (fun t x ht => ?_)
    | rfl)

theorem State.writeChCtrl_keep {wr : Nat} {s₀ : State} (s : State) (u c v : Nat) (hk : Keep wr s₀ s) (hs : 4194320 &&& wr = 4194320) :
    Keep wr s₀ (State.writeChCtrl s u c v) := by
  refine Keep.app hk ?_ hs
  unfold State.writeChCtrl
  repeat' (first
    | with_reducible exact Keep.refl _
    | with_reducible assumption
    | (fail_if_no_progress (extract_lets +onlyGivenNames x); first
        | (with_reducible refine Keep.cut (t := x) ?_ ?_; (on_goal 1 => (unfold x; clear x)); (on_goal 2 => (intro hx; clear_value x)))
        | clear_value x)
    | with_reducible apply State.sf_keep
    | with_reducible apply State.setDrank_keep
    | with_reducible refine Keep.ite ?_ ?_
    | rfl)

theorem State.refreshCounts_keep {wr : Nat} {s₀ : State} (s : State) (c r n : Nat) (hk : Keep wr s₀ s) (hs : 4194304 &&& wr = 4194304) :
    Keep wr s₀ (State.refreshCounts s c r n) := by
  refine Keep.app hk ?_ hs
  unfold State.refreshCounts
  repeat' (first
    | with_reducible exact Keep.refl _
    | (fail_if_no_progress (extract_lets +onlyGivenNames x); first
        | clear_value x)
    | with_reducible apply State.setDch_keep
    | rfl)

theorem State.serveReq_keep {wr : Nat} {s₀ : State} (s : State) (c sub : Nat) (q : DramReq) (passed : Bool) (hk : Keep wr s₀ s) (hs : 4301328404 &&& wr = 4301328404) :
    Keep wr s₀ (State.serveReq s c sub q passed) := by
  refine Keep.app hk ?_ hs
  unfold State.serveReq
  repeat' (first
    | with_reducible exact Keep.refl _
    | with_reducible assumption
    | (fail_if_no_progress (extract_lets +onlyGivenNames x); first
        | (with_reducible refine Keep.cut (t := x) ?_ ?_; (on_goal 1 => (unfold x; clear x)); (on_goal 2 => (intro hx; clear_value x)))
        | clear_value x)
    | with_reducible apply State.setDch_keep
    | with_reducible apply State.setDrank_keep
    | with_reducible apply State.maxf_keep
    | with_reducible apply State.activate_keep
    | with_reducible apply State.sf_keep
    | with_reducible apply State.admitHeld_keep
    | with_reducible refine Keep.ite ?_ ?_
    | rfl)

theorem State.setDraining_keep {wr : Nat} {s₀ : State} (s : State) (c sub : Nat) (hk : Keep wr s₀ s) (hs : 4194304 &&& wr = 4194304) :
    Keep wr s₀ (State.setDraining s c sub) := by
  refine Keep.app hk ?_ hs
  unfold State.setDraining
  repeat' (first
    | with_reducible exact Keep.refl _
    | (fail_if_no_progress (extract_lets +onlyGivenNames x); first
        | clear_value x)
    | with_reducible apply State.setDch_keep
    | with_reducible refine Keep.ite ?_ ?_
    | rfl)

theorem execDramRequest_keep (channel sub : Nat) (arrivals : List (Nat × Bool × Nat × Nat × Nat)) (s : State) : KeepOut 4301328404 s (execDramRequest channel sub arrivals s) := by
  unfold execDramRequest
  repeat' (first
    | with_reducible exact Keep.refl _
    | with_reducible assumption
    | with_reducible refine Keep.out ?_
    | (fail_if_no_progress (extract_lets +onlyGivenNames x); first
        | (with_reducible refine Keep.cut (t := x) ?_ ?_; (on_goal 1 => (unfold x; clear x)); (on_goal 2 => (intro hx; clear_value x)))
        | clear_value x)
    | with_reducible apply State.setDch_keep
    | with_reducible apply State.setDraining_keep
    | with_reducible apply State.answerBuffered_keep
    | with_reducible apply State.admitHeld_keep
    | with_reducible apply State.serveReq_keep
    | split
    | rfl)

theorem execDramRhThrottleEnd_keep (channel unit : Nat) (s : State) : KeepOut 4194304 s (execDramRhThrottleEnd channel unit s) := by
  unfold execDramRhThrottleEnd
  repeat' (first
    | with_reducible exact Keep.refl _
    | with_reducible refine Keep.out ?_
    | with_reducible apply State.setDch_keep
    | rfl)

theorem execDramRhWindowEnd_keep (channel : Nat) (s : State) : KeepOut 4194304 s (execDramRhWindowEnd channel s) := by
  unfold execDramRhWindowEnd
  repeat' (first
    | with_reducible exact Keep.refl _
    | with_reducible refine Keep.out ?_
    | with_reducible apply State.setDch_keep
    | with_reducible refine Keep.ite ?_ ?_
    | rfl)

theorem execDramPortUrgent_keep (port : Nat) (s : State) : KeepOut 4305522708 s (execDramPortUrgent port s) := by
  unfold execDramPortUrgent
  repeat' (first
    | with_reducible exact Keep.refl _
    | with_reducible assumption
    | with_reducible refine Keep.out ?_
    | (fail_if_no_progress (extract_lets +onlyGivenNames x); first
        | (with_reducible refine Keep.cut (t := x) ?_ ?_; (on_goal 1 => (unfold x; clear x)); (on_goal 2 => (intro hx; clear_value x)))
        | clear_value x)
    | with_reducible apply State.incf_keep
    | with_reducible apply State.sf_keep
    | with_reducible apply State.raise_keep
    | with_reducible refine Keep.ite ?_ ?_
    | rfl
    | fail_if_no_progress (with_reducible refine Keep.set_dramPorts (by decide) ?_))

theorem execDramRefresh_keep (channel rank : Nat) (pull : Bool) (s : State) : KeepOut 4194304 s (execDramRefresh channel rank pull s) := by
  unfold execDramRefresh
  repeat' (first
    | with_reducible exact Keep.refl _
    | with_reducible refine Keep.out ?_
    | with_reducible apply State.refreshCounts_keep
    | with_reducible apply State.setDrank_keep
    | with_reducible refine Keep.ite ?_ ?_
    | rfl)

theorem execDramTempPoll_keep (channel rank rate : Nat) (s : State) : KeepOut 4301328404 s (execDramTempPoll channel rank rate s) := by
  unfold execDramTempPoll
  repeat' (first
    | with_reducible exact Keep.refl _
    | with_reducible assumption
    | with_reducible refine Keep.out ?_
    | (fail_if_no_progress (extract_lets +onlyGivenNames x); first
        | (with_reducible refine Keep.cut (t := x) ?_ ?_; (on_goal 1 => (unfold x; clear x)); (on_goal 2 => (intro hx; clear_value x)))
        | clear_value x)
    | with_reducible apply State.refreshCounts_keep
    | with_reducible apply State.setDrank_keep
    | with_reducible apply State.sf_keep
    | with_reducible apply State.dramEvent_keep
    | with_reducible apply State.incf_keep
    | with_reducible refine Keep.ite ?_ ?_
    | rfl)

theorem execDramZqCal_keep (channel rank : Nat) (s : State) : KeepOut 4194304 s (execDramZqCal channel rank s) := by
  unfold execDramZqCal
  repeat' (first
    | with_reducible exact Keep.refl _
    | with_reducible refine Keep.out ?_
    | with_reducible apply State.setDrank_keep
    | with_reducible refine Keep.ite ?_ ?_
    | rfl)

theorem execDramDqsOscRead_keep (channel rank : Nat) (drift : Int) (inRange : Bool) (s : State) : KeepOut 4194304 s (execDramDqsOscRead channel rank drift inRange s) := by
  unfold execDramDqsOscRead
  repeat' (first
    | with_reducible exact Keep.refl _
    | with_reducible refine Keep.out ?_
    | with_reducible apply State.setDrank_keep
    | with_reducible refine Keep.ite ?_ ?_
    | rfl)

theorem execDramRankRetrain_keep (channel rank blocked : Nat) (s : State) : KeepOut 4301328404 s (execDramRankRetrain channel rank blocked s) := by
  unfold execDramRankRetrain
  repeat' (first
    | with_reducible exact Keep.refl _
    | with_reducible refine Keep.out ?_
    | with_reducible apply State.dramEvent_keep
    | with_reducible apply State.incf_keep
    | with_reducible apply State.setDrank_keep
    | with_reducible refine Keep.ite ?_ ?_
    | rfl)

theorem execDramPowerDown_keep (channel rank : Nat) (s : State) : KeepOut 4194304 s (execDramPowerDown channel rank s) := by
  unfold execDramPowerDown
  repeat' (first
    | with_reducible exact Keep.refl _
    | with_reducible refine Keep.out ?_
    | with_reducible apply State.setDrank_keep
    | with_reducible refine Keep.ite ?_ ?_
    | rfl)

theorem execDramSelfRefreshEntry_keep (channel rank : Nat) (s : State) : KeepOut 4194304 s (execDramSelfRefreshEntry channel rank s) := by
  unfold execDramSelfRefreshEntry
  repeat' (first
    | with_reducible exact Keep.refl _
    | with_reducible refine Keep.out ?_
    | with_reducible apply State.enterSelfRefresh_keep
    | with_reducible refine Keep.ite ?_ ?_
    | rfl)

theorem execDramSelfRefreshExit_keep (channel rank : Nat) (s : State) : KeepOut 4194304 s (execDramSelfRefreshExit channel rank s) := by
  unfold execDramSelfRefreshExit
  repeat' (first
    | with_reducible exact Keep.refl _
    | with_reducible refine Keep.out ?_
    | (fail_if_no_progress (extract_lets +onlyGivenNames x); first
        | clear_value x)
    | with_reducible apply State.setDrank_keep
    | with_reducible refine Keep.ite ?_ ?_
    | split
    | rfl)

theorem execDramRowRepair_keep (chip : Nat) (row : List Nat) (resource : Bool) (blocked : Nat) (s : State) : KeepOut 13965007476 s (execDramRowRepair chip row resource blocked s) := by
  unfold execDramRowRepair
  repeat' (first
    | with_reducible exact Keep.refl _
    | with_reducible assumption
    | with_reducible apply copyWord_wf
    | with_reducible refine Memory.foldl_wf ?_ (fun t x ht => ?_)
    | with_reducible exact Keep.wf (by assumption)
    | with_reducible refine Keep.out ?_
    | (fail_if_no_progress (extract_lets +onlyGivenNames x); first
        | (with_reducible refine Keep.cut (t := x) ?_ ?_; (on_goal 1 => (unfold x; clear x)); (on_goal 2 => (intro hx; clear_value x)))
        | clear_value x)
    | with_reducible apply State.setLog_keep
    | with_reducible apply State.dramEvent_keep
    | with_reducible apply State.sdom_keep
    | with_reducible apply State.incf_keep
    | with_reducible apply State.setDrank_keep
    | with_reducible apply State.degradeRank_keep
    | with_reducible refine Keep.ite ?_ ?_
    | split
    | rfl
    | fail_if_no_progress (with_reducible refine Keep.set_protect (by decide) ?_)
    | fail_if_no_progress (with_reducible refine Keep.set_mem (by decide) ?_ ?_))

theorem execDramRetireRankCommand_keep (value : Nat) (s : State) : KeepOut 13960810612 s (execDramRetireRankCommand value s) := by
  unfold execDramRetireRankCommand
  repeat' (first
    | with_reducible exact Keep.refl _
    | with_reducible refine Keep.out ?_
    | with_reducible apply State.degradeRank_keep
    | with_reducible refine Keep.ite ?_ ?_
    | rfl)

theorem execDramMigrationRegion_keep (channel : Nat) (s : State) : KeepOut 4297134612 s (execDramMigrationRegion channel s) := by
  unfold execDramMigrationRegion
  repeat' (first
    | with_reducible exact Keep.refl _
    | with_reducible assumption
    | with_reducible apply copyWord_wf
    | with_reducible refine Memory.foldl_wf ?_ (fun t x ht => ?_)
    | with_reducible exact id
    | with_reducible refine Keep.out ?_
    | (fail_if_no_progress (extract_lets +onlyGivenNames x); first
        | (with_reducible refine Keep.cut (t := x) ?_ ?_; (on_goal 1 => (unfold x; clear x)); (on_goal 2 => (intro hx; clear_value x)))
        | clear_value x)
    | with_reducible apply State.dramEvent_keep
    | with_reducible apply State.sf_keep
    | with_reducible apply State.setRankState_keep
    | with_reducible refine Keep.ite ?_ ?_
    | rfl
    | fail_if_no_progress (with_reducible refine Keep.set_mem (by decide) ?_ ?_))

theorem execDramXlate_keep (requester : Nat) (address : Word) (s : State) : KeepOut 268435472 s (execDramXlate requester address s) := by
  unfold execDramXlate
  repeat' (first
    | with_reducible exact Keep.refl _
    | with_reducible assumption
    | (intro _)
    | with_reducible refine Keep.out ?_
    | with_reducible apply State.atIsland_keep
    | with_reducible apply State.writeXlate_keep
    | rfl)

end Sys2Proof.Machine
end

