-- ==== Sys2Proof/Laws/KeepElrynMac.lean ====
section
/-!
SUPPORT. The parts of the state that the operations of Machine/ElrynMac.lean may write.
-/

namespace Sys2Proof.Machine



theorem execIMacr_keep (engine : Nat) (gs gt : BitVec 5) (s : State) : KeepOut 4297315348 s (execIMacr engine gs gt s) := by
  unfold execIMacr
  repeat' (first
    | with_reducible exact Keep.refl _
    | with_reducible refine Keep.out ?_
    | with_reducible apply State.regOp_keep
    | rfl)

theorem execIMsur_keep (engine : Nat) (gs gt : BitVec 5) (s : State) : KeepOut 4297315348 s (execIMsur engine gs gt s) := by
  unfold execIMsur
  repeat' (first
    | with_reducible exact Keep.refl _
    | with_reducible refine Keep.out ?_
    | with_reducible apply State.regOp_keep
    | rfl)

theorem execICmac_keep (engine : Nat) (pair : Bool) (gs gt : BitVec 5) (s : State) : KeepOut 4297315348 s (execICmac engine pair gs gt s) := by
  unfold execICmac
  repeat' (first
    | with_reducible exact Keep.refl _
    | with_reducible refine Keep.out ?_
    | with_reducible apply State.regOp_keep
    | rfl)

theorem execICmacj_keep (engine : Nat) (pair : Bool) (gs gt : BitVec 5) (s : State) : KeepOut 4297315348 s (execICmacj engine pair gs gt s) := by
  unfold execICmacj
  repeat' (first
    | with_reducible exact Keep.refl _
    | with_reducible refine Keep.out ?_
    | with_reducible apply State.regOp_keep
    | rfl)

theorem execIAccz_keep (engine : Nat) (mask : BitVec 4) (s : State) : KeepOut 4297315348 s (execIAccz engine mask s) := by
  unfold execIAccz
  repeat' (first
    | with_reducible exact Keep.refl _
    | with_reducible refine Keep.out ?_
    | with_reducible apply State.regOp_keep
    | rfl)

theorem execIAccx_keep (engine : Nat) (gd : BitVec 5) (k : BitVec 2) (n : BitVec 5) (wide : Bool) (s : State) : KeepOut 4297315348 s (execIAccx engine gd k n wide s) := by
  unfold execIAccx
  repeat' (first
    | with_reducible exact Keep.refl _
    | with_reducible refine Keep.out ?_
    | with_reducible apply State.regOp_keep
    | rfl)

theorem execICaccx_keep (engine : Nat) (gd : BitVec 5) (pair : Bool) (n : BitVec 5) (s : State) : KeepOut 4297315348 s (execICaccx engine gd pair n s) := by
  unfold execICaccx
  repeat' (first
    | with_reducible exact Keep.refl _
    | with_reducible refine Keep.out ?_
    | with_reducible apply State.regOp_keep
    | rfl)

theorem execIAccr_keep (engine : Nat) (gd : BitVec 5) (k : BitVec 2) (s : State) : KeepOut 4297315348 s (execIAccr engine gd k s) := by
  unfold execIAccr
  repeat' (first
    | with_reducible exact Keep.refl _
    | with_reducible refine Keep.out ?_
    | with_reducible apply State.regOp_keep
    | rfl)

theorem execIAccw_keep (engine : Nat) (k : BitVec 2) (gs : BitVec 5) (s : State) : KeepOut 4297315348 s (execIAccw engine k gs s) := by
  unfold execIAccw
  repeat' (first
    | with_reducible exact Keep.refl _
    | with_reducible refine Keep.out ?_
    | with_reducible apply State.regOp_keep
    | rfl)

theorem execISrchi_keep (engine : Nat) (gs : BitVec 5) (s : State) : KeepOut 4297315348 s (execISrchi engine gs s) := by
  unfold execISrchi
  repeat' (first
    | with_reducible exact Keep.refl _
    | with_reducible refine Keep.out ?_
    | with_reducible apply State.regOp_keep
    | rfl)

theorem execISmax_keep (engine : Nat) (gs : BitVec 5) (s : State) : KeepOut 4297315348 s (execISmax engine gs s) := by
  unfold execISmax
  repeat' (first
    | with_reducible exact Keep.refl _
    | with_reducible refine Keep.out ?_
    | with_reducible apply State.regOp_keep
    | rfl)

theorem execISmin_keep (engine : Nat) (gs : BitVec 5) (s : State) : KeepOut 4297315348 s (execISmin engine gs s) := by
  unfold execISmin
  repeat' (first
    | with_reducible exact Keep.refl _
    | with_reducible refine Keep.out ?_
    | with_reducible apply State.regOp_keep
    | rfl)

theorem execICmaxm_keep (engine : Nat) (gs : BitVec 5) (s : State) : KeepOut 4297315348 s (execICmaxm engine gs s) := by
  unfold execICmaxm
  repeat' (first
    | with_reducible exact Keep.refl _
    | with_reducible refine Keep.out ?_
    | with_reducible apply State.regOp_keep
    | rfl)

end Sys2Proof.Machine
end

