-- ==== Sys2Proof/Laws/KeepElrynMemory.lean ====
section
/-!
SUPPORT. The parts of the state that the operations of Machine/ElrynMemory.lean may write.
-/

namespace Sys2Proof.Machine

open Reg Ob

theorem State.loadOp_keep {wr : Nat} {s₀ : State} (s : State) (g : Nat) (sz : Nat) (signed : Bool) (gd gb : BitVec 5) (m : AddrMode) (hk : Keep wr s₀ s) (hs : 14233624182 &&& wr = 14233624182) :
    Keep wr s₀ (State.loadOp s g sz signed gd gb m) := by
  refine Keep.app hk ?_ hs
  unfold State.loadOp
  repeat' (first
    | with_reducible exact Keep.refl _
    | (intro _)
    | (fail_if_no_progress (extract_lets +onlyGivenNames x); first
        | clear_value x)
    | with_reducible apply State.native_keep
    | with_reducible apply State.raiseSync_keep
    | with_reducible apply State.raiseFault_keep
    | with_reducible apply State.whenOpen_keep
    | with_reducible apply State.loadBytes_keep
    | with_reducible apply State.poisonReset_keep
    | with_reducible apply State.retire_keep
    | split
    | with_reducible refine Keep.of_pair (by assumption) ?_
    | rfl)

theorem State.popPeer_keep {wr : Nat} {s₀ : State} (s : State) (g q ea base : Nat) (updated : Word) (result : Option Nat) (hk : Keep wr s₀ s) (hs : 4330872340 &&& wr = 4330872340) :
    Keep wr s₀ (State.popPeer s g q ea base updated result) := by
  refine Keep.app hk ?_ hs
  unfold State.popPeer
  repeat' (first
    | with_reducible exact Keep.refl _
    | with_reducible assumption
    | (fail_if_no_progress (extract_lets +onlyGivenNames x); first
        | (with_reducible refine Keep.cut (t := x) ?_ ?_; (on_goal 1 => (unfold x; clear x)); (on_goal 2 => (intro hx; clear_value x)))
        | clear_value x)
    | with_reducible apply State.raiseSync_keep
    | with_reducible apply State.takePopped_keep
    | with_reducible apply State.setEng_keep
    | with_reducible apply State.takeAsync_keep
    | with_reducible apply State.post_keep
    | with_reducible refine Keep.ite ?_ ?_
    | split
    | rfl)

theorem execILd_keep (engine : Nat) (sz : BitVec 2) (gd gb : BitVec 5) (mode : AddrMode) (s : State) : KeepOut 14233624182 s (execILd engine sz gd gb mode s) := by
  unfold execILd
  repeat' (first
    | with_reducible exact Keep.refl _
    | with_reducible refine Keep.out ?_
    | with_reducible apply State.loadOp_keep
    | rfl)

theorem execILdu_keep (engine : Nat) (sz : BitVec 2) (gd gb : BitVec 5) (mode : AddrMode) (s : State) : KeepOut 14233624182 s (execILdu engine sz gd gb mode s) := by
  unfold execILdu
  repeat' (first
    | with_reducible exact Keep.refl _
    | (intro _)
    | with_reducible refine Keep.out ?_
    | with_reducible apply State.native_keep
    | with_reducible apply State.illegal_keep
    | with_reducible apply State.loadOp_keep
    | with_reducible refine Keep.ite ?_ ?_
    | rfl)

theorem execISt_keep (engine : Nat) (sz : BitVec 2) (gs gb : BitVec 5) (mode : AddrMode) (s : State) : KeepOut 14267178612 s (execISt engine sz gs gb mode s) := by
  unfold execISt
  repeat' (first
    | with_reducible exact Keep.refl _
    | with_reducible assumption
    | (intro _)
    | with_reducible refine Keep.out ?_
    | (fail_if_no_progress (extract_lets +onlyGivenNames x); first
        | (with_reducible refine Keep.cut (t := x) ?_ ?_; (on_goal 1 => (unfold x; clear x)); (on_goal 2 => (intro hx; clear_value x)))
        | (with_reducible refine Keep.cut (t := x.2) ?_ ?_; (on_goal 1 => (unfold x; clear x)); (on_goal 2 => (intro hx; clear_value x)))
        | clear_value x)
    | with_reducible apply State.native_keep
    | with_reducible apply State.raiseSync_keep
    | with_reducible apply State.raiseFault_keep
    | with_reducible apply State.whenOpen_keep
    | with_reducible apply State.storeBytes_keep
    | with_reducible apply State.poisonJob_keep
    | with_reducible apply State.retire_keep
    | with_reducible refine Keep.ite ?_ ?_
    | split
    | rfl)

theorem execIPush_keep (engine : Nat) (gq gb : BitVec 5) (mode : AddrMode) (s : State) : KeepOut 14233624182 s (execIPush engine gq gb mode s) := by
  unfold execIPush
  repeat' (first
    | with_reducible exact Keep.refl _
    | with_reducible assumption
    | (intro _)
    | with_reducible refine Keep.out ?_
    | (fail_if_no_progress (extract_lets +onlyGivenNames x); first
        | (with_reducible refine Keep.cut (t := x) ?_ ?_; (on_goal 1 => (unfold x; clear x)); (on_goal 2 => (intro hx; clear_value x)))
        | (with_reducible refine Keep.cut (t := x.2) ?_ ?_; (on_goal 1 => (unfold x; clear x)); (on_goal 2 => (intro hx; clear_value x)))
        | clear_value x)
    | with_reducible apply State.native_keep
    | with_reducible apply State.raiseSync_keep
    | with_reducible apply State.raiseFault_keep
    | with_reducible apply State.whenOpen_keep
    | with_reducible apply State.readWords_keep
    | with_reducible apply State.poisonJob_keep
    | with_reducible apply State.setEng_keep
    | with_reducible apply State.pushEntry_keep
    | with_reducible apply State.takeAsync_keep
    | with_reducible apply State.releaseEngine_keep
    | with_reducible refine Keep.ite ?_ ?_
    | split
    | rfl)

theorem execIPop_keep (engine : Nat) (gd gb : BitVec 5) (mode : AddrMode) (s : State) : KeepOut 14267178614 s (execIPop engine gd gb mode s) := by
  unfold execIPop
  repeat' (first
    | with_reducible exact Keep.refl _
    | with_reducible assumption
    | (intro _)
    | with_reducible refine Keep.out ?_
    | (fail_if_no_progress (extract_lets +onlyGivenNames x); first
        | (with_reducible refine Keep.cut (t := x) ?_ ?_; (on_goal 1 => (unfold x; clear x)); (on_goal 2 => (intro hx; clear_value x)))
        | clear_value x)
    | with_reducible apply State.native_keep
    | with_reducible apply State.raiseSync_keep
    | with_reducible apply State.raiseFault_keep
    | with_reducible apply State.whenOpen_keep
    | with_reducible apply State.popPeer_keep
    | with_reducible apply State.popQueue_keep
    | with_reducible apply State.setEng_keep
    | with_reducible apply State.retire_keep
    | with_reducible apply State.storeEntry_keep
    | with_reducible refine Keep.ite ?_ ?_
    | split
    | with_reducible refine Keep.of_pair (by assumption) ?_
    | rfl)

theorem execIPopw_keep (engine : Nat) (gq gb : BitVec 5) (mode : AddrMode) (s : State) : KeepOut 14267178614 s (execIPopw engine gq gb mode s) := by
  unfold execIPopw
  repeat' (first
    | with_reducible exact Keep.refl _
    | with_reducible assumption
    | (intro _)
    | with_reducible refine Keep.out ?_
    | (fail_if_no_progress (extract_lets +onlyGivenNames x); first
        | (with_reducible refine Keep.cut (t := x) ?_ ?_; (on_goal 1 => (unfold x; clear x)); (on_goal 2 => (intro hx; clear_value x)))
        | clear_value x)
    | with_reducible apply State.native_keep
    | with_reducible apply State.raiseSync_keep
    | with_reducible apply State.raiseFault_keep
    | with_reducible apply State.whenOpen_keep
    | with_reducible apply State.popPeer_keep
    | with_reducible apply State.popQueue_keep
    | with_reducible apply State.setEng_keep
    | with_reducible apply State.takeAsync_keep
    | with_reducible apply State.storeEntry_keep
    | with_reducible apply State.retire_keep
    | with_reducible refine Keep.ite ?_ ?_
    | split
    | with_reducible refine Keep.of_pair (by assumption) ?_
    | rfl)

end Sys2Proof.Machine
end

