-- ==== Sys2Proof/Laws/KeepElrynScalar.lean ====
section
/-!
SUPPORT. The parts of the state that the operations of Machine/ElrynScalar.lean may write.
-/

namespace Sys2Proof.Machine

open Reg Ob

theorem State.branch_keep {wr : Nat} {s₀ : State} (s : State) (g : Nat) (off : BitVec 16) (cond : Engine → Bool) (hk : Keep wr s₀ s) (hs : 4297315348 &&& wr = 4297315348) :
    Keep wr s₀ (State.branch s g off cond) := by
  refine Keep.app hk ?_ hs
  unfold State.branch
  repeat' (first
    | with_reducible exact Keep.refl _
    | (intro _)
    | with_reducible apply State.native_keep
    | with_reducible apply State.jumpTo_keep
    | with_reducible apply State.retire_keep
    | with_reducible refine Keep.ite ?_ ?_
    | rfl)

theorem State.jumpReg_keep {wr : Nat} {s₀ : State} (s : State) (g : Nat) (gs : BitVec 5) (link : Option (BitVec 5)) (hk : Keep wr s₀ s) (hs : 4297315348 &&& wr = 4297315348) :
    Keep wr s₀ (State.jumpReg s g gs link) := by
  refine Keep.app hk ?_ hs
  unfold State.jumpReg
  repeat' (first
    | with_reducible exact Keep.refl _
    | (intro _)
    | with_reducible apply State.native_keep
    | with_reducible apply State.jumpTo_keep
    | rfl)

theorem State.readSpecial_keep {wr : Nat} {s₀ : State} (s : State) (g : Nat) (n : BitVec 5) {v : Word} {t : State}
    (h : s.readSpecial g n = some (v, t)) (hk : Keep wr s₀ s) (hs : 16386 &&& wr = 16386) : Keep wr s₀ t := by
  refine Keep.app hk ?_ hs
  unfold State.readSpecial at h
  extract_lets e at h
  split at h <;> first
    | (cases h; exact Keep.refl _)
    | (cases h; exact Keep.set_free (by decide) (Keep.refl _))
    | (simp only [Option.some.injEq, Prod.mk.injEq] at h; obtain ⟨-, rfl⟩ := h; exact State.countCycles_keep _ _ (Keep.refl _) (by decide))
    | (split at h <;> cases h <;> first | exact Keep.refl _ | exact State.setEng_keep _ _ _ (Keep.refl _) (by decide))
    | (split at h
       · cases h; exact Keep.refl _
       · split at h <;> cases h
         exact Keep.refl _)

theorem execINop_keep (engine : Nat) (s : State) : KeepOut 4297315348 s (execINop engine s) := by
  unfold execINop
  repeat' (first
    | with_reducible exact Keep.refl _
    | with_reducible refine Keep.out ?_
    | with_reducible apply State.regOp_keep
    | rfl)

theorem execIFence_keep (engine : Nat) (s : State) : KeepOut 4297315348 s (execIFence engine s) := by
  unfold execIFence
  repeat' (first
    | with_reducible exact Keep.refl _
    | (intro _)
    | with_reducible refine Keep.out ?_
    | with_reducible apply State.native_keep
    | with_reducible apply State.retire_keep
    | with_reducible apply State.setEng_keep
    | with_reducible refine Keep.ite ?_ ?_
    | rfl)

theorem execIEret_keep (engine : Nat) (s : State) : KeepOut 4297315348 s (execIEret engine s) := by
  unfold execIEret
  repeat' (first
    | with_reducible exact Keep.refl _
    | (intro _)
    | with_reducible refine Keep.out ?_
    | with_reducible apply State.native_keep
    | with_reducible apply State.takeAsync_keep
    | with_reducible apply State.setEng_keep
    | rfl)

theorem execIBreak_keep (engine : Nat) (s : State) : KeepOut 4297315348 s (execIBreak engine s) := by
  unfold execIBreak
  repeat' (first
    | with_reducible exact Keep.refl _
    | (intro _)
    | with_reducible refine Keep.out ?_
    | with_reducible apply State.native_keep
    | with_reducible apply State.takeException_keep
    | rfl)

theorem execISignal_keep (engine : Nat) (s : State) : KeepOut 4297315348 s (execISignal engine s) := by
  unfold execISignal
  repeat' (first
    | with_reducible exact Keep.refl _
    | (intro _)
    | with_reducible refine Keep.out ?_
    | with_reducible apply State.native_keep
    | with_reducible apply State.retire_keep
    | with_reducible apply State.engEvent_keep
    | rfl)

theorem execIWaitjob_keep (engine : Nat) (s : State) : KeepOut 4297315350 s (execIWaitjob engine s) := by
  unfold execIWaitjob
  repeat' (first
    | with_reducible exact Keep.refl _
    | (intro _)
    | with_reducible refine Keep.out ?_
    | with_reducible apply State.native_keep
    | with_reducible apply State.waitJob_keep
    | with_reducible apply State.illegal_keep
    | with_reducible refine Keep.ite ?_ ?_
    | rfl)

theorem execIExit_keep (engine : Nat) (gs : BitVec 5) (s : State) : KeepOut 4297315350 s (execIExit engine gs s) := by
  unfold execIExit
  repeat' (first
    | with_reducible exact Keep.refl _
    | (intro _)
    | with_reducible refine Keep.out ?_
    | (fail_if_no_progress (extract_lets +onlyGivenNames x); first
        | clear_value x)
    | with_reducible apply State.native_keep
    | with_reducible apply State.finishExit_keep
    | with_reducible apply State.setEng_keep
    | with_reducible apply State.illegal_keep
    | with_reducible refine Keep.ite ?_ ?_
    | rfl)

theorem execIMfs_keep (engine : Nat) (gd sr : BitVec 5) (s : State) : KeepOut 4297315350 s (execIMfs engine gd sr s) := by
  unfold execIMfs
  repeat' (first
    | with_reducible exact Keep.refl _
    | (intro _)
    | with_reducible refine Keep.out ?_
    | with_reducible apply State.native_keep
    | with_reducible apply State.retire_keep
    | with_reducible apply State.illegal_keep
    | split
    | exact State.readSpecial_keep _ _ _ ‹_› (Keep.refl _) (by decide)
    | rfl)

theorem execIMts_keep (engine : Nat) (sr gs : BitVec 5) (s : State) : KeepOut 4297315348 s (execIMts engine sr gs s) := by
  unfold execIMts
  repeat' (first
    | with_reducible exact Keep.refl _
    | (intro _)
    | with_reducible refine Keep.out ?_
    | with_reducible apply State.native_keep
    | with_reducible apply State.retire_keep
    | with_reducible apply State.illegal_keep
    | split
    | rfl)

theorem execIAdd_keep (engine : Nat) (gd gs gt : BitVec 5) (s : State) : KeepOut 4297315348 s (execIAdd engine gd gs gt s) := by
  unfold execIAdd
  repeat' (first
    | with_reducible exact Keep.refl _
    | with_reducible refine Keep.out ?_
    | with_reducible apply State.alu_keep
    | rfl)

theorem execISub_keep (engine : Nat) (gd gs gt : BitVec 5) (s : State) : KeepOut 4297315348 s (execISub engine gd gs gt s) := by
  unfold execISub
  repeat' (first
    | with_reducible exact Keep.refl _
    | with_reducible refine Keep.out ?_
    | with_reducible apply State.alu_keep
    | rfl)

theorem execIAnd_keep (engine : Nat) (gd gs gt : BitVec 5) (s : State) : KeepOut 4297315348 s (execIAnd engine gd gs gt s) := by
  unfold execIAnd
  repeat' (first
    | with_reducible exact Keep.refl _
    | with_reducible refine Keep.out ?_
    | with_reducible apply State.alu_keep
    | rfl)

theorem execIOr_keep (engine : Nat) (gd gs gt : BitVec 5) (s : State) : KeepOut 4297315348 s (execIOr engine gd gs gt s) := by
  unfold execIOr
  repeat' (first
    | with_reducible exact Keep.refl _
    | with_reducible refine Keep.out ?_
    | with_reducible apply State.alu_keep
    | rfl)

theorem execIXor_keep (engine : Nat) (gd gs gt : BitVec 5) (s : State) : KeepOut 4297315348 s (execIXor engine gd gs gt s) := by
  unfold execIXor
  repeat' (first
    | with_reducible exact Keep.refl _
    | with_reducible refine Keep.out ?_
    | with_reducible apply State.alu_keep
    | rfl)

theorem execISll_keep (engine : Nat) (gd gs gt : BitVec 5) (s : State) : KeepOut 4297315348 s (execISll engine gd gs gt s) := by
  unfold execISll
  repeat' (first
    | with_reducible exact Keep.refl _
    | with_reducible refine Keep.out ?_
    | with_reducible apply State.alu_keep
    | rfl)

theorem execISrl_keep (engine : Nat) (gd gs gt : BitVec 5) (s : State) : KeepOut 4297315348 s (execISrl engine gd gs gt s) := by
  unfold execISrl
  repeat' (first
    | with_reducible exact Keep.refl _
    | with_reducible refine Keep.out ?_
    | with_reducible apply State.alu_keep
    | rfl)

theorem execISra_keep (engine : Nat) (gd gs gt : BitVec 5) (s : State) : KeepOut 4297315348 s (execISra engine gd gs gt s) := by
  unfold execISra
  repeat' (first
    | with_reducible exact Keep.refl _
    | with_reducible refine Keep.out ?_
    | with_reducible apply State.alu_keep
    | rfl)

theorem execISlt_keep (engine : Nat) (gd gs gt : BitVec 5) (s : State) : KeepOut 4297315348 s (execISlt engine gd gs gt s) := by
  unfold execISlt
  repeat' (first
    | with_reducible exact Keep.refl _
    | with_reducible refine Keep.out ?_
    | with_reducible apply State.alu_keep
    | rfl)

theorem execISltu_keep (engine : Nat) (gd gs gt : BitVec 5) (s : State) : KeepOut 4297315348 s (execISltu engine gd gs gt s) := by
  unfold execISltu
  repeat' (first
    | with_reducible exact Keep.refl _
    | with_reducible refine Keep.out ?_
    | with_reducible apply State.alu_keep
    | rfl)

theorem execIMin_keep (engine : Nat) (gd gs gt : BitVec 5) (s : State) : KeepOut 4297315348 s (execIMin engine gd gs gt s) := by
  unfold execIMin
  repeat' (first
    | with_reducible exact Keep.refl _
    | with_reducible refine Keep.out ?_
    | with_reducible apply State.alu_keep
    | rfl)

theorem execIMax_keep (engine : Nat) (gd gs gt : BitVec 5) (s : State) : KeepOut 4297315348 s (execIMax engine gd gs gt s) := by
  unfold execIMax
  repeat' (first
    | with_reducible exact Keep.refl _
    | with_reducible refine Keep.out ?_
    | with_reducible apply State.alu_keep
    | rfl)

theorem execIMinu_keep (engine : Nat) (gd gs gt : BitVec 5) (s : State) : KeepOut 4297315348 s (execIMinu engine gd gs gt s) := by
  unfold execIMinu
  repeat' (first
    | with_reducible exact Keep.refl _
    | with_reducible refine Keep.out ?_
    | with_reducible apply State.alu_keep
    | rfl)

theorem execIMaxu_keep (engine : Nat) (gd gs gt : BitVec 5) (s : State) : KeepOut 4297315348 s (execIMaxu engine gd gs gt s) := by
  unfold execIMaxu
  repeat' (first
    | with_reducible exact Keep.refl _
    | with_reducible refine Keep.out ?_
    | with_reducible apply State.alu_keep
    | rfl)

theorem execIMul_keep (engine : Nat) (gd gs gt : BitVec 5) (s : State) : KeepOut 4297315348 s (execIMul engine gd gs gt s) := by
  unfold execIMul
  repeat' (first
    | with_reducible exact Keep.refl _
    | with_reducible refine Keep.out ?_
    | with_reducible apply State.alu_keep
    | rfl)

theorem execIMulh_keep (engine : Nat) (gd gs gt : BitVec 5) (s : State) : KeepOut 4297315348 s (execIMulh engine gd gs gt s) := by
  unfold execIMulh
  repeat' (first
    | with_reducible exact Keep.refl _
    | with_reducible refine Keep.out ?_
    | with_reducible apply State.alu_keep
    | rfl)

theorem execIMulhu_keep (engine : Nat) (gd gs gt : BitVec 5) (s : State) : KeepOut 4297315348 s (execIMulhu engine gd gs gt s) := by
  unfold execIMulhu
  repeat' (first
    | with_reducible exact Keep.refl _
    | with_reducible refine Keep.out ?_
    | with_reducible apply State.alu_keep
    | rfl)

theorem execIAddi_keep (engine : Nat) (gd gs : BitVec 5) (imm : BitVec 16) (s : State) : KeepOut 4297315348 s (execIAddi engine gd gs imm s) := by
  unfold execIAddi
  repeat' (first
    | with_reducible exact Keep.refl _
    | with_reducible refine Keep.out ?_
    | with_reducible apply State.alu_keep
    | rfl)

theorem execIAndi_keep (engine : Nat) (gd gs : BitVec 5) (imm : BitVec 16) (s : State) : KeepOut 4297315348 s (execIAndi engine gd gs imm s) := by
  unfold execIAndi
  repeat' (first
    | with_reducible exact Keep.refl _
    | with_reducible refine Keep.out ?_
    | with_reducible apply State.alu_keep
    | rfl)

theorem execIOri_keep (engine : Nat) (gd gs : BitVec 5) (imm : BitVec 16) (s : State) : KeepOut 4297315348 s (execIOri engine gd gs imm s) := by
  unfold execIOri
  repeat' (first
    | with_reducible exact Keep.refl _
    | with_reducible refine Keep.out ?_
    | with_reducible apply State.alu_keep
    | rfl)

theorem execIXori_keep (engine : Nat) (gd gs : BitVec 5) (imm : BitVec 16) (s : State) : KeepOut 4297315348 s (execIXori engine gd gs imm s) := by
  unfold execIXori
  repeat' (first
    | with_reducible exact Keep.refl _
    | with_reducible refine Keep.out ?_
    | with_reducible apply State.alu_keep
    | rfl)

theorem execISlti_keep (engine : Nat) (gd gs : BitVec 5) (imm : BitVec 16) (s : State) : KeepOut 4297315348 s (execISlti engine gd gs imm s) := by
  unfold execISlti
  repeat' (first
    | with_reducible exact Keep.refl _
    | with_reducible refine Keep.out ?_
    | with_reducible apply State.alu_keep
    | rfl)

theorem execISltiu_keep (engine : Nat) (gd gs : BitVec 5) (imm : BitVec 16) (s : State) : KeepOut 4297315348 s (execISltiu engine gd gs imm s) := by
  unfold execISltiu
  repeat' (first
    | with_reducible exact Keep.refl _
    | with_reducible refine Keep.out ?_
    | with_reducible apply State.alu_keep
    | rfl)

theorem execISlli_keep (engine : Nat) (gd gs : BitVec 5) (count : BitVec 6) (s : State) : KeepOut 4297315348 s (execISlli engine gd gs count s) := by
  unfold execISlli
  repeat' (first
    | with_reducible exact Keep.refl _
    | with_reducible refine Keep.out ?_
    | with_reducible apply State.alu_keep
    | rfl)

theorem execISrli_keep (engine : Nat) (gd gs : BitVec 5) (count : BitVec 6) (s : State) : KeepOut 4297315348 s (execISrli engine gd gs count s) := by
  unfold execISrli
  repeat' (first
    | with_reducible exact Keep.refl _
    | with_reducible refine Keep.out ?_
    | with_reducible apply State.alu_keep
    | rfl)

theorem execISrai_keep (engine : Nat) (gd gs : BitVec 5) (count : BitVec 6) (s : State) : KeepOut 4297315348 s (execISrai engine gd gs count s) := by
  unfold execISrai
  repeat' (first
    | with_reducible exact Keep.refl _
    | with_reducible refine Keep.out ?_
    | with_reducible apply State.alu_keep
    | rfl)

theorem execILis_keep (engine : Nat) (gd : BitVec 5) (imm : BitVec 16) (hw : BitVec 2) (s : State) : KeepOut 4297315348 s (execILis engine gd imm hw s) := by
  unfold execILis
  repeat' (first
    | with_reducible exact Keep.refl _
    | with_reducible refine Keep.out ?_
    | with_reducible apply State.alu_keep
    | rfl)

theorem execILik_keep (engine : Nat) (gd : BitVec 5) (imm : BitVec 16) (hw : BitVec 2) (s : State) : KeepOut 4297315348 s (execILik engine gd imm hw s) := by
  unfold execILik
  repeat' (first
    | with_reducible exact Keep.refl _
    | with_reducible refine Keep.out ?_
    | with_reducible apply State.alu_keep
    | rfl)

theorem execIBeq_keep (engine : Nat) (gs gt : BitVec 5) (off : BitVec 16) (s : State) : KeepOut 4297315348 s (execIBeq engine gs gt off s) := by
  unfold execIBeq
  repeat' (first
    | with_reducible exact Keep.refl _
    | with_reducible refine Keep.out ?_
    | with_reducible apply State.branch_keep
    | rfl)

theorem execIBne_keep (engine : Nat) (gs gt : BitVec 5) (off : BitVec 16) (s : State) : KeepOut 4297315348 s (execIBne engine gs gt off s) := by
  unfold execIBne
  repeat' (first
    | with_reducible exact Keep.refl _
    | with_reducible refine Keep.out ?_
    | with_reducible apply State.branch_keep
    | rfl)

theorem execIBlt_keep (engine : Nat) (gs gt : BitVec 5) (off : BitVec 16) (s : State) : KeepOut 4297315348 s (execIBlt engine gs gt off s) := by
  unfold execIBlt
  repeat' (first
    | with_reducible exact Keep.refl _
    | with_reducible refine Keep.out ?_
    | with_reducible apply State.branch_keep
    | rfl)

theorem execIBge_keep (engine : Nat) (gs gt : BitVec 5) (off : BitVec 16) (s : State) : KeepOut 4297315348 s (execIBge engine gs gt off s) := by
  unfold execIBge
  repeat' (first
    | with_reducible exact Keep.refl _
    | with_reducible refine Keep.out ?_
    | with_reducible apply State.branch_keep
    | rfl)

theorem execIBltu_keep (engine : Nat) (gs gt : BitVec 5) (off : BitVec 16) (s : State) : KeepOut 4297315348 s (execIBltu engine gs gt off s) := by
  unfold execIBltu
  repeat' (first
    | with_reducible exact Keep.refl _
    | with_reducible refine Keep.out ?_
    | with_reducible apply State.branch_keep
    | rfl)

theorem execIBgeu_keep (engine : Nat) (gs gt : BitVec 5) (off : BitVec 16) (s : State) : KeepOut 4297315348 s (execIBgeu engine gs gt off s) := by
  unfold execIBgeu
  repeat' (first
    | with_reducible exact Keep.refl _
    | with_reducible refine Keep.out ?_
    | with_reducible apply State.branch_keep
    | rfl)

theorem execIJ_keep (engine : Nat) (off : BitVec 26) (s : State) : KeepOut 4297315348 s (execIJ engine off s) := by
  unfold execIJ
  repeat' (first
    | with_reducible exact Keep.refl _
    | (intro _)
    | with_reducible refine Keep.out ?_
    | with_reducible apply State.native_keep
    | with_reducible apply State.jumpTo_keep
    | rfl)

theorem execIJal_keep (engine : Nat) (off : BitVec 26) (s : State) : KeepOut 4297315348 s (execIJal engine off s) := by
  unfold execIJal
  repeat' (first
    | with_reducible exact Keep.refl _
    | (intro _)
    | with_reducible refine Keep.out ?_
    | with_reducible apply State.native_keep
    | with_reducible apply State.jumpTo_keep
    | rfl)

theorem execIJr_keep (engine : Nat) (gs : BitVec 5) (s : State) : KeepOut 4297315348 s (execIJr engine gs s) := by
  unfold execIJr
  repeat' (first
    | with_reducible exact Keep.refl _
    | with_reducible refine Keep.out ?_
    | with_reducible apply State.jumpReg_keep
    | rfl)

theorem execIJalr_keep (engine : Nat) (gd gs : BitVec 5) (s : State) : KeepOut 4297315348 s (execIJalr engine gd gs s) := by
  unfold execIJalr
  repeat' (first
    | with_reducible exact Keep.refl _
    | with_reducible refine Keep.out ?_
    | with_reducible apply State.jumpReg_keep
    | rfl)

end Sys2Proof.Machine
end

