-- ==== Sys2Proof/Laws/KeepElrynVecMemory.lean ====
section
/-!
SUPPORT. The parts of the state that the operations of Machine/ElrynVecMemory.lean may write.
-/

namespace Sys2Proof.Machine



theorem State.loadRun_rec {s₀ : State} (s : State) (g bytes : Nat) (addr : Nat → Nat) (x : Vec) (n0 : List Nat) (hk : Keep 13965007478 s₀ s) :
    Keep 13965007478 s₀ (State.loadRun s g bytes addr x n0).2 := by
  induction n0 generalizing s g bytes addr x with
  | nil =>
    unfold State.loadRun
    repeat' (first
      | with_reducible assumption
      | with_reducible apply State.readBytes_keep
      | split
      | with_reducible refine Keep.of_pair (by assumption) ?_
      | rfl)
  | cons x l ih =>
    unfold State.loadRun
    repeat' (first
      | with_reducible assumption
      | with_reducible apply State.readBytes_keep
      | split
      | with_reducible refine Keep.of_pair (by assumption) ?_
      | rfl)

theorem State.loadRun_keep {wr : Nat} {s₀ : State} (s : State) (g bytes : Nat) (addr : Nat → Nat) (x : Vec) (n0 : List Nat) (hk : Keep wr s₀ s)
    (hs : 13965007478 &&& wr = 13965007478) : Keep wr s₀ (State.loadRun s g bytes addr x n0).2 :=
  Keep.app hk (State.loadRun_rec _ _ _ _ _ _ (Keep.refl _)) hs

theorem State.loadElems_rec {s₀ : State} (s : State) (g bytes : Nat) (addr : Nat → Nat) (x : Vec) (n0 : List Nat) (hk : Keep 13965007478 s₀ s) :
    Keep 13965007478 s₀ (State.loadElems s g bytes addr x n0).2 := by
  induction n0 generalizing s g bytes addr x with
  | nil =>
    unfold State.loadElems
    repeat' (first
      | with_reducible assumption
      | with_reducible apply State.loadBytes_keep
      | with_reducible apply ih
      | split
      | with_reducible refine Keep.of_pair (by assumption) ?_
      | rfl)
  | cons x l ih =>
    unfold State.loadElems
    repeat' (first
      | with_reducible assumption
      | with_reducible apply State.loadBytes_keep
      | with_reducible apply ih
      | split
      | with_reducible refine Keep.of_pair (by assumption) ?_
      | rfl)

theorem State.loadElems_keep {wr : Nat} {s₀ : State} (s : State) (g bytes : Nat) (addr : Nat → Nat) (x : Vec) (n0 : List Nat) (hk : Keep wr s₀ s)
    (hs : 13965007478 &&& wr = 13965007478) : Keep wr s₀ (State.loadElems s g bytes addr x n0).2 :=
  Keep.app hk (State.loadElems_rec _ _ _ _ _ _ (Keep.refl _)) hs

theorem State.loadAll_keep {wr : Nat} {s₀ : State} (s : State) (g bytes : Nat) (run : Bool) (addr : Nat → Nat) (x : Vec) (l : List Nat) (hk : Keep wr s₀ s) (hs : 13965007478 &&& wr = 13965007478) :
    Keep wr s₀ (State.loadAll s g bytes run addr x l).2 := by
  refine Keep.app hk ?_ hs
  unfold State.loadAll
  repeat' (first
    | with_reducible exact Keep.refl _
    | with_reducible apply State.loadRun_keep
    | with_reducible apply State.loadElems_keep
    | with_reducible refine Keep.ite_snd ?_ ?_
    | rfl)

theorem State.storeRun_rec {s₀ : State} (s : State) (g bytes : Nat) (addr : Nat → Nat) (x : Vec) (n0 : List Nat) (hk : Keep 13998578292 s₀ s) :
    Keep 13998578292 s₀ (State.storeRun s g bytes addr x n0) := by
  induction n0 generalizing s g bytes addr x with
  | nil =>
    unfold State.storeRun
    repeat' (first
      | with_reducible assumption
      | with_reducible apply State.writeBytes_keep
      | with_reducible apply State.poisonJob_keep
      | with_reducible refine Keep.ite ?_ ?_
      | rfl)
  | cons x l ih =>
    unfold State.storeRun
    repeat' (first
      | with_reducible assumption
      | with_reducible apply State.writeBytes_keep
      | with_reducible apply State.poisonJob_keep
      | with_reducible refine Keep.ite ?_ ?_
      | rfl)

theorem State.storeRun_keep {wr : Nat} {s₀ : State} (s : State) (g bytes : Nat) (addr : Nat → Nat) (x : Vec) (n0 : List Nat) (hk : Keep wr s₀ s)
    (hs : 13998578292 &&& wr = 13998578292) : Keep wr s₀ (State.storeRun s g bytes addr x n0) :=
  Keep.app hk (State.storeRun_rec _ _ _ _ _ _ (Keep.refl _)) hs

theorem State.storeElems_rec {s₀ : State} (s : State) (g bytes : Nat) (addr : Nat → Nat) (x : Vec) (n0 : List Nat) (hk : Keep 13998578292 s₀ s) :
    Keep 13998578292 s₀ (State.storeElems s g bytes addr x n0) := by
  induction n0 generalizing s g bytes addr x with
  | nil =>
    unfold State.storeElems
    repeat' (first
      | with_reducible assumption
      | (fail_if_no_progress (extract_lets +onlyGivenNames x); first
          | (with_reducible refine Keep.cut (t := x.2) ?_ ?_; (on_goal 1 => (unfold x; clear x)); (on_goal 2 => (intro hx; clear_value x))))
      | with_reducible apply State.storeBytes_keep
      | with_reducible apply State.poisonJob_keep
      | with_reducible apply ih
      | with_reducible refine Keep.ite ?_ ?_
      | rfl)
  | cons x l ih =>
    unfold State.storeElems
    repeat' (first
      | with_reducible assumption
      | (fail_if_no_progress (extract_lets +onlyGivenNames x); first
          | (with_reducible refine Keep.cut (t := x.2) ?_ ?_; (on_goal 1 => (unfold x; clear x)); (on_goal 2 => (intro hx; clear_value x))))
      | with_reducible apply State.storeBytes_keep
      | with_reducible apply State.poisonJob_keep
      | with_reducible apply ih
      | with_reducible refine Keep.ite ?_ ?_
      | rfl)

theorem State.storeElems_keep {wr : Nat} {s₀ : State} (s : State) (g bytes : Nat) (addr : Nat → Nat) (x : Vec) (n0 : List Nat) (hk : Keep wr s₀ s)
    (hs : 13998578292 &&& wr = 13998578292) : Keep wr s₀ (State.storeElems s g bytes addr x n0) :=
  Keep.app hk (State.storeElems_rec _ _ _ _ _ _ (Keep.refl _)) hs

theorem State.storeAll_keep {wr : Nat} {s₀ : State} (s : State) (g bytes : Nat) (run : Bool) (addr : Nat → Nat) (x : Vec) (l : List Nat) (hk : Keep wr s₀ s) (hs : 13998578292 &&& wr = 13998578292) :
    Keep wr s₀ (State.storeAll s g bytes run addr x l) := by
  refine Keep.app hk ?_ hs
  unfold State.storeAll
  repeat' (first
    | with_reducible exact Keep.refl _
    | with_reducible apply State.storeRun_keep
    | with_reducible apply State.storeElems_keep
    | with_reducible refine Keep.ite ?_ ?_
    | rfl)

theorem State.vecMem_keep {wr : Nat} {s₀ : State} (s : State) (g : Nat) (mode : VMode) (t : ElemType) (run : Bool) (vd : BitVec 5) (addr : Nat → Nat) (base : BitVec 5 × Word) (hk : Keep wr s₀ s) (hs : 14267178614 &&& wr = 14267178614) :
    Keep wr s₀ (State.vecMem s g mode t run vd addr base) := by
  refine Keep.app hk ?_ hs
  unfold State.vecMem
  repeat' (first
    | with_reducible exact Keep.refl _
    | with_reducible assumption
    | (fail_if_no_progress (extract_lets +onlyGivenNames x); first
        | (with_reducible refine Keep.cut (t := x) ?_ ?_; (on_goal 1 => (unfold x; clear x)); (on_goal 2 => (intro hx; clear_value x)))
        | (with_reducible refine Keep.cut (t := x.2) ?_ ?_; (on_goal 1 => (unfold x; clear x)); (on_goal 2 => (intro hx; clear_value x)))
        | clear_value x)
    | with_reducible apply State.retire_keep
    | with_reducible apply State.holdE4_keep
    | with_reducible apply State.storeAll_keep
    | with_reducible apply State.loadAll_keep
    | with_reducible apply State.poisonReset_keep
    | with_reducible apply State.setEng_keep
    | with_reducible apply State.takeException_keep
    | with_reducible apply State.engDenied_keep
    | with_reducible refine Keep.ite ?_ ?_
    | with_reducible refine Keep.ite_snd ?_ ?_
    | split
    | rfl)

theorem State.vecContiguous_keep {wr : Nat} {s₀ : State} (s : State) (g : Nat) (mode : VMode) (t : ElemType) (vd gb : BitVec 5) (m : AddrMode) (hk : Keep wr s₀ s) (hs : 14267178614 &&& wr = 14267178614) :
    Keep wr s₀ (State.vecContiguous s g mode t vd gb m) := by
  refine Keep.app hk ?_ hs
  unfold State.vecContiguous
  repeat' (first
    | with_reducible exact Keep.refl _
    | (intro _)
    | (fail_if_no_progress (extract_lets +onlyGivenNames x); first
        | clear_value x)
    | with_reducible apply State.native_keep
    | with_reducible apply State.vecMem_keep
    | with_reducible apply State.retire_keep
    | with_reducible apply State.raiseSync_keep
    | with_reducible refine Keep.ite ?_ ?_
    | split
    | rfl)

theorem State.vecGather_keep {wr : Nat} {s₀ : State} (s : State) (g : Nat) (mode : VMode) (t : ElemType) (vd gb vi : BitVec 5) (sc : BitVec 3) (hk : Keep wr s₀ s) (hs : 14267178614 &&& wr = 14267178614) :
    Keep wr s₀ (State.vecGather s g mode t vd gb vi sc) := by
  refine Keep.app hk ?_ hs
  unfold State.vecGather
  repeat' (first
    | with_reducible exact Keep.refl _
    | (intro _)
    | with_reducible apply State.native_keep
    | with_reducible apply State.illegal_keep
    | with_reducible apply State.vecMem_keep
    | with_reducible refine Keep.ite ?_ ?_
    | rfl)

theorem State.vecStrided_keep {wr : Nat} {s₀ : State} (s : State) (g : Nat) (mode : VMode) (t : ElemType) (vd gb : BitVec 5) (k : BitVec 3) (hk : Keep wr s₀ s) (hs : 14267178614 &&& wr = 14267178614) :
    Keep wr s₀ (State.vecStrided s g mode t vd gb k) := by
  refine Keep.app hk ?_ hs
  unfold State.vecStrided
  repeat' (first
    | with_reducible exact Keep.refl _
    | (intro _)
    | with_reducible apply State.native_keep
    | with_reducible apply State.vecMem_keep
    | rfl)

theorem execIVld_keep (engine : Nat) (t : ElemType) (vd gb : BitVec 5) (mode : AddrMode) (s : State) : KeepOut 14267178614 s (execIVld engine t vd gb mode s) := by
  unfold execIVld
  repeat' (first
    | with_reducible exact Keep.refl _
    | with_reducible refine Keep.out ?_
    | with_reducible apply State.vecContiguous_keep
    | rfl)

theorem execIVst_keep (engine : Nat) (t : ElemType) (vd gb : BitVec 5) (mode : AddrMode) (s : State) : KeepOut 14267178614 s (execIVst engine t vd gb mode s) := by
  unfold execIVst
  repeat' (first
    | with_reducible exact Keep.refl _
    | with_reducible refine Keep.out ?_
    | with_reducible apply State.vecContiguous_keep
    | rfl)

theorem execIVldff_keep (engine : Nat) (t : ElemType) (vd gb : BitVec 5) (mode : AddrMode) (s : State) : KeepOut 14267178614 s (execIVldff engine t vd gb mode s) := by
  unfold execIVldff
  repeat' (first
    | with_reducible exact Keep.refl _
    | (intro _)
    | with_reducible refine Keep.out ?_
    | with_reducible apply State.vecContiguous_keep
    | with_reducible apply State.native_keep
    | with_reducible apply State.illegal_keep
    | split
    | rfl)

theorem execIVlds_keep (engine : Nat) (t : ElemType) (vd gb : BitVec 5) (k : BitVec 3) (s : State) : KeepOut 14267178614 s (execIVlds engine t vd gb k s) := by
  unfold execIVlds
  repeat' (first
    | with_reducible exact Keep.refl _
    | with_reducible refine Keep.out ?_
    | with_reducible apply State.vecStrided_keep
    | rfl)

theorem execIVsts_keep (engine : Nat) (t : ElemType) (vd gb : BitVec 5) (k : BitVec 3) (s : State) : KeepOut 14267178614 s (execIVsts engine t vd gb k s) := by
  unfold execIVsts
  repeat' (first
    | with_reducible exact Keep.refl _
    | with_reducible refine Keep.out ?_
    | with_reducible apply State.vecStrided_keep
    | rfl)

theorem execIVgather_keep (engine : Nat) (t : ElemType) (vd gb vi : BitVec 5) (sc : BitVec 3) (s : State) : KeepOut 14267178614 s (execIVgather engine t vd gb vi sc s) := by
  unfold execIVgather
  repeat' (first
    | with_reducible exact Keep.refl _
    | with_reducible refine Keep.out ?_
    | with_reducible apply State.vecGather_keep
    | rfl)

theorem execIVscatter_keep (engine : Nat) (t : ElemType) (vd gb vi : BitVec 5) (sc : BitVec 3) (s : State) : KeepOut 14267178614 s (execIVscatter engine t vd gb vi sc s) := by
  unfold execIVscatter
  repeat' (first
    | with_reducible exact Keep.refl _
    | with_reducible refine Keep.out ?_
    | with_reducible apply State.vecGather_keep
    | rfl)

theorem execIVgatherff_keep (engine : Nat) (t : ElemType) (vd gb vi : BitVec 5) (sc : BitVec 3) (s : State) : KeepOut 14267178614 s (execIVgatherff engine t vd gb vi sc s) := by
  unfold execIVgatherff
  repeat' (first
    | with_reducible exact Keep.refl _
    | with_reducible refine Keep.out ?_
    | with_reducible apply State.vecGather_keep
    | rfl)

end Sys2Proof.Machine
end

