-- ==== Sys2Proof/Laws/KeepElrynVector.lean ====
section
/-!
SUPPORT. The parts of the state that the operations of Machine/ElrynVector.lean may write.
-/

namespace Sys2Proof.Machine



theorem State.vecOp_keep {wr : Nat} {s₀ : State} (s : State) (g : Nat) (ok : Bool) (f : Engine → Engine) (hk : Keep wr s₀ s) (hs : 4297315348 &&& wr = 4297315348) :
    Keep wr s₀ (State.vecOp s g ok f) := by
  refine Keep.app hk ?_ hs
  unfold State.vecOp
  repeat' (first
    | with_reducible exact Keep.refl _
    | (intro _)
    | with_reducible apply State.native_keep
    | with_reducible apply State.retire_keep
    | with_reducible apply State.illegal_keep
    | with_reducible refine Keep.ite ?_ ?_
    | rfl)

theorem State.vecLogic_keep {wr : Nat} {s₀ : State} (s : State) (g : Nat) (t : ElemType) (vd vs vt : BitVec 5) (f : Nat → Nat → Nat) (hk : Keep wr s₀ s) (hs : 4297315348 &&& wr = 4297315348) :
    Keep wr s₀ (State.vecLogic s g t vd vs vt f) := by
  refine Keep.app hk ?_ hs
  unfold State.vecLogic
  repeat' (first
    | with_reducible exact Keep.refl _
    | with_reducible apply State.vecOp_keep
    | rfl)

theorem execIVadd_keep (engine : Nat) (t : ElemType) (vd vs vt : BitVec 5) (s : State) : KeepOut 4297315348 s (execIVadd engine t vd vs vt s) := by
  unfold execIVadd
  repeat' (first
    | with_reducible exact Keep.refl _
    | with_reducible refine Keep.out ?_
    | with_reducible apply State.vecOp_keep
    | rfl)

theorem execIVsub_keep (engine : Nat) (t : ElemType) (vd vs vt : BitVec 5) (s : State) : KeepOut 4297315348 s (execIVsub engine t vd vs vt s) := by
  unfold execIVsub
  repeat' (first
    | with_reducible exact Keep.refl _
    | with_reducible refine Keep.out ?_
    | with_reducible apply State.vecOp_keep
    | rfl)

theorem execIVadds_keep (engine : Nat) (t : ElemType) (vd vs vt : BitVec 5) (s : State) : KeepOut 4297315348 s (execIVadds engine t vd vs vt s) := by
  unfold execIVadds
  repeat' (first
    | with_reducible exact Keep.refl _
    | with_reducible refine Keep.out ?_
    | with_reducible apply State.vecOp_keep
    | rfl)

theorem execIVsubs_keep (engine : Nat) (t : ElemType) (vd vs vt : BitVec 5) (s : State) : KeepOut 4297315348 s (execIVsubs engine t vd vs vt s) := by
  unfold execIVsubs
  repeat' (first
    | with_reducible exact Keep.refl _
    | with_reducible refine Keep.out ?_
    | with_reducible apply State.vecOp_keep
    | rfl)

theorem execIVnegs_keep (engine : Nat) (t : ElemType) (vd vs : BitVec 5) (s : State) : KeepOut 4297315348 s (execIVnegs engine t vd vs s) := by
  unfold execIVnegs
  repeat' (first
    | with_reducible exact Keep.refl _
    | with_reducible refine Keep.out ?_
    | with_reducible apply State.vecOp_keep
    | rfl)

theorem execIVabss_keep (engine : Nat) (t : ElemType) (vd vs : BitVec 5) (s : State) : KeepOut 4297315348 s (execIVabss engine t vd vs s) := by
  unfold execIVabss
  repeat' (first
    | with_reducible exact Keep.refl _
    | with_reducible refine Keep.out ?_
    | with_reducible apply State.vecOp_keep
    | rfl)

theorem execIVconjs_keep (engine : Nat) (t : ElemType) (vd vs : BitVec 5) (s : State) : KeepOut 4297315348 s (execIVconjs engine t vd vs s) := by
  unfold execIVconjs
  repeat' (first
    | with_reducible exact Keep.refl _
    | with_reducible refine Keep.out ?_
    | with_reducible apply State.vecOp_keep
    | rfl)

theorem execIVmaxe_keep (engine : Nat) (t : ElemType) (vd vs vt : BitVec 5) (s : State) : KeepOut 4297315348 s (execIVmaxe engine t vd vs vt s) := by
  unfold execIVmaxe
  repeat' (first
    | with_reducible exact Keep.refl _
    | with_reducible refine Keep.out ?_
    | with_reducible apply State.vecOp_keep
    | rfl)

theorem execIVmine_keep (engine : Nat) (t : ElemType) (vd vs vt : BitVec 5) (s : State) : KeepOut 4297315348 s (execIVmine engine t vd vs vt s) := by
  unfold execIVmine
  repeat' (first
    | with_reducible exact Keep.refl _
    | with_reducible refine Keep.out ?_
    | with_reducible apply State.vecOp_keep
    | rfl)

theorem execIVand_keep (engine : Nat) (t : ElemType) (vd vs vt : BitVec 5) (s : State) : KeepOut 4297315348 s (execIVand engine t vd vs vt s) := by
  unfold execIVand
  repeat' (first
    | with_reducible exact Keep.refl _
    | with_reducible refine Keep.out ?_
    | with_reducible apply State.vecLogic_keep
    | rfl)

theorem execIVor_keep (engine : Nat) (t : ElemType) (vd vs vt : BitVec 5) (s : State) : KeepOut 4297315348 s (execIVor engine t vd vs vt s) := by
  unfold execIVor
  repeat' (first
    | with_reducible exact Keep.refl _
    | with_reducible refine Keep.out ?_
    | with_reducible apply State.vecLogic_keep
    | rfl)

theorem execIVxor_keep (engine : Nat) (t : ElemType) (vd vs vt : BitVec 5) (s : State) : KeepOut 4297315348 s (execIVxor engine t vd vs vt s) := by
  unfold execIVxor
  repeat' (first
    | with_reducible exact Keep.refl _
    | with_reducible refine Keep.out ?_
    | with_reducible apply State.vecLogic_keep
    | rfl)

theorem execIVshrr_keep (engine : Nat) (t : ElemType) (vd vs count : BitVec 5) (s : State) : KeepOut 4297315348 s (execIVshrr engine t vd vs count s) := by
  unfold execIVshrr
  repeat' (first
    | with_reducible exact Keep.refl _
    | with_reducible refine Keep.out ?_
    | with_reducible apply State.vecOp_keep
    | rfl)

theorem execIVshls_keep (engine : Nat) (t : ElemType) (vd vs count : BitVec 5) (s : State) : KeepOut 4297315348 s (execIVshls engine t vd vs count s) := by
  unfold execIVshls
  repeat' (first
    | with_reducible exact Keep.refl _
    | with_reducible refine Keep.out ?_
    | with_reducible apply State.vecOp_keep
    | rfl)

theorem execIVperm_keep (engine : Nat) (t : ElemType) (vd vs vt : BitVec 5) (s : State) : KeepOut 4297315348 s (execIVperm engine t vd vs vt s) := by
  unfold execIVperm
  repeat' (first
    | with_reducible exact Keep.refl _
    | with_reducible refine Keep.out ?_
    | with_reducible apply State.vecOp_keep
    | rfl)

theorem execIVmulq_keep (engine : Nat) (t : ElemType) (vd vs vt : BitVec 5) (s : State) : KeepOut 4297315348 s (execIVmulq engine t vd vs vt s) := by
  unfold execIVmulq
  repeat' (first
    | with_reducible exact Keep.refl _
    | with_reducible refine Keep.out ?_
    | with_reducible apply State.vecOp_keep
    | rfl)

theorem execIVcmulq_keep (engine : Nat) (t : ElemType) (vd vs vt : BitVec 5) (s : State) : KeepOut 4297315348 s (execIVcmulq engine t vd vs vt s) := by
  unfold execIVcmulq
  repeat' (first
    | with_reducible exact Keep.refl _
    | with_reducible refine Keep.out ?_
    | with_reducible apply State.vecOp_keep
    | rfl)

theorem execIVcmuljq_keep (engine : Nat) (t : ElemType) (vd vs vt : BitVec 5) (s : State) : KeepOut 4297315348 s (execIVcmuljq engine t vd vs vt s) := by
  unfold execIVcmuljq
  repeat' (first
    | with_reducible exact Keep.refl _
    | with_reducible refine Keep.out ?_
    | with_reducible apply State.vecOp_keep
    | rfl)

theorem execIVmacr_keep (engine : Nat) (t : ElemType) (vs vt : BitVec 5) (s : State) : KeepOut 4297315348 s (execIVmacr engine t vs vt s) := by
  unfold execIVmacr
  repeat' (first
    | with_reducible exact Keep.refl _
    | with_reducible refine Keep.out ?_
    | with_reducible apply State.vecOp_keep
    | rfl)

theorem execIVcmac_keep (engine : Nat) (t : ElemType) (pair : Bool) (vs vt : BitVec 5) (s : State) : KeepOut 4297315348 s (execIVcmac engine t pair vs vt s) := by
  unfold execIVcmac
  repeat' (first
    | with_reducible exact Keep.refl _
    | with_reducible refine Keep.out ?_
    | with_reducible apply State.vecOp_keep
    | rfl)

theorem execIVcmacj_keep (engine : Nat) (t : ElemType) (pair : Bool) (vs vt : BitVec 5) (s : State) : KeepOut 4297315348 s (execIVcmacj engine t pair vs vt s) := by
  unfold execIVcmacj
  repeat' (first
    | with_reducible exact Keep.refl _
    | with_reducible refine Keep.out ?_
    | with_reducible apply State.vecOp_keep
    | rfl)

theorem execIVsmax_keep (engine : Nat) (t : ElemType) (vs : BitVec 5) (s : State) : KeepOut 4297315348 s (execIVsmax engine t vs s) := by
  unfold execIVsmax
  repeat' (first
    | with_reducible exact Keep.refl _
    | with_reducible refine Keep.out ?_
    | with_reducible apply State.vecOp_keep
    | rfl)

theorem execIVsmin_keep (engine : Nat) (t : ElemType) (vs : BitVec 5) (s : State) : KeepOut 4297315348 s (execIVsmin engine t vs s) := by
  unfold execIVsmin
  repeat' (first
    | with_reducible exact Keep.refl _
    | with_reducible refine Keep.out ?_
    | with_reducible apply State.vecOp_keep
    | rfl)

theorem execIVcmaxm_keep (engine : Nat) (t : ElemType) (vs : BitVec 5) (s : State) : KeepOut 4297315348 s (execIVcmaxm engine t vs s) := by
  unfold execIVcmaxm
  repeat' (first
    | with_reducible exact Keep.refl _
    | with_reducible refine Keep.out ?_
    | with_reducible apply State.vecOp_keep
    | rfl)

theorem execIVexp_keep (engine : Nat) (t : ElemType) (gd vs : BitVec 5) (s : State) : KeepOut 4297315348 s (execIVexp engine t gd vs s) := by
  unfold execIVexp
  repeat' (first
    | with_reducible exact Keep.refl _
    | with_reducible refine Keep.out ?_
    | with_reducible apply State.vecOp_keep
    | rfl)

theorem execIVsplat_keep (engine : Nat) (t : ElemType) (vd gs : BitVec 5) (s : State) : KeepOut 4297315348 s (execIVsplat engine t vd gs s) := by
  unfold execIVsplat
  repeat' (first
    | with_reducible exact Keep.refl _
    | with_reducible refine Keep.out ?_
    | with_reducible apply State.vecOp_keep
    | rfl)

theorem execIVinsr_keep (engine : Nat) (t : ElemType) (vd gs k : BitVec 5) (s : State) : KeepOut 4297315348 s (execIVinsr engine t vd gs k s) := by
  unfold execIVinsr
  repeat' (first
    | with_reducible exact Keep.refl _
    | with_reducible refine Keep.out ?_
    | with_reducible apply State.vecOp_keep
    | rfl)

theorem execIVextr_keep (engine : Nat) (t : ElemType) (gd vs k : BitVec 5) (s : State) : KeepOut 4297315348 s (execIVextr engine t gd vs k s) := by
  unfold execIVextr
  repeat' (first
    | with_reducible exact Keep.refl _
    | with_reducible refine Keep.out ?_
    | with_reducible apply State.vecOp_keep
    | rfl)

theorem execIVwidl_keep (engine : Nat) (t : ElemType) (vd vs : BitVec 5) (s : State) : KeepOut 4297315348 s (execIVwidl engine t vd vs s) := by
  unfold execIVwidl
  repeat' (first
    | with_reducible exact Keep.refl _
    | with_reducible refine Keep.out ?_
    | with_reducible apply State.vecOp_keep
    | rfl)

theorem execIVwidh_keep (engine : Nat) (t : ElemType) (vd vs : BitVec 5) (s : State) : KeepOut 4297315348 s (execIVwidh engine t vd vs s) := by
  unfold execIVwidh
  repeat' (first
    | with_reducible exact Keep.refl _
    | with_reducible refine Keep.out ?_
    | with_reducible apply State.vecOp_keep
    | rfl)

theorem execISetvl_keep (engine : Nat) (t : ElemType) (gd gs : BitVec 5) (s : State) : KeepOut 4297315348 s (execISetvl engine t gd gs s) := by
  unfold execISetvl
  repeat' (first
    | with_reducible exact Keep.refl _
    | with_reducible refine Keep.out ?_
    | with_reducible apply State.vecOp_keep
    | rfl)

theorem execIVnarw_keep (engine : Nat) (t : ElemType) (vd vs vt count : BitVec 5) (s : State) : KeepOut 4297315348 s (execIVnarw engine t vd vs vt count s) := by
  unfold execIVnarw
  repeat' (first
    | with_reducible exact Keep.refl _
    | with_reducible refine Keep.out ?_
    | with_reducible apply State.vecOp_keep
    | rfl)

end Sys2Proof.Machine
end

