-- ==== Sys2Proof/Laws/KeepEngineCommands.lean ====
section
/-!
SUPPORT. The parts of the state that the operations of Machine/EngineCommands.lean may write.
-/

namespace Sys2Proof.Machine

open Reg Ob

theorem execEngSreset_keep (requester engine : Nat) (control : Half) (s : State) : KeepOut 268616722 s (execEngSreset requester engine control s) := by
  unfold execEngSreset
  repeat' (first
    | with_reducible exact Keep.refl _
    | with_reducible assumption
    | (intro _)
    | with_reducible refine Keep.out ?_
    | with_reducible apply State.atIsland_keep
    | with_reducible apply State.writeEngCtrl_keep
    | rfl)

theorem execEngGo_keep (requester engine : Nat) (control : Half) (s : State) : KeepOut 268616722 s (execEngGo requester engine control s) := by
  unfold execEngGo
  repeat' (first
    | with_reducible exact Keep.refl _
    | with_reducible assumption
    | (intro _)
    | with_reducible refine Keep.out ?_
    | with_reducible apply State.atIsland_keep
    | with_reducible apply State.writeEngCtrl_keep
    | rfl)

theorem execEngOpen_keep (requester engine : Nat) (control : Half) (s : State) : KeepOut 268616722 s (execEngOpen requester engine control s) := by
  unfold execEngOpen
  repeat' (first
    | with_reducible exact Keep.refl _
    | with_reducible assumption
    | (intro _)
    | with_reducible refine Keep.out ?_
    | with_reducible apply State.atIsland_keep
    | with_reducible apply State.writeEngCtrl_keep
    | rfl)

theorem execEngHaltReq_keep (requester engine : Nat) (control : Half) (s : State) : KeepOut 268616722 s (execEngHaltReq requester engine control s) := by
  unfold execEngHaltReq
  repeat' (first
    | with_reducible exact Keep.refl _
    | with_reducible assumption
    | (intro _)
    | with_reducible refine Keep.out ?_
    | with_reducible apply State.atIsland_keep
    | with_reducible apply State.writeEngCtrl_keep
    | rfl)

theorem execEngineJobLateSignal_keep (engine : Nat) (s : State) : KeepOut 4297315350 s (execEngineJobLateSignal engine s) := by
  unfold execEngineJobLateSignal
  repeat' (first
    | with_reducible exact Keep.refl _
    | with_reducible refine Keep.out ?_
    | with_reducible apply State.jobLate_keep
    | with_reducible refine Keep.ite ?_ ?_
    | split
    | rfl)

theorem execLateJobStop_keep (engine : Nat) (s : State) : KeepOut 4297315350 s (execLateJobStop engine s) := by
  unfold execLateJobStop
  repeat' (first
    | with_reducible exact Keep.refl _
    | with_reducible refine Keep.out ?_
    | with_reducible apply State.stopLate_keep
    | with_reducible refine Keep.ite ?_ ?_
    | split
    | rfl)

theorem execEngineEventDeliver_keep (s : State) : KeepOut 4297315348 s (execEngineEventDeliver s) := by
  unfold execEngineEventDeliver
  repeat' (first
    | with_reducible exact Keep.refl _
    | with_reducible assumption
    | with_reducible refine Keep.out ?_
    | (fail_if_no_progress (extract_lets +onlyGivenNames x); first
        | (with_reducible refine Keep.cut (t := x) ?_ ?_; (on_goal 1 => (unfold x; clear x)); (on_goal 2 => (intro hx; clear_value x))))
    | with_reducible apply State.enterInbox_keep
    | with_reducible refine Keep.ite ?_ ?_
    | split
    | rfl
    | fail_if_no_progress (with_reducible refine Keep.set_engineEvents (by decide) ?_))

theorem execIllegalEncoding_keep (engine : Nat) (word : Option Half) (s : State) : KeepOut 4297315350 s (execIllegalEncoding engine word s) := by
  unfold execIllegalEncoding
  repeat' (first
    | with_reducible exact Keep.refl _
    | (intro _)
    | with_reducible refine Keep.out ?_
    | with_reducible apply State.execute_keep
    | with_reducible apply State.poisonReset_keep
    | with_reducible apply State.illegal_keep
    | with_reducible refine Keep.ite ?_ ?_
    | split
    | rfl)

end Sys2Proof.Machine
end

