-- ==== Sys2Proof/Laws/KeepMatrix.lean ====
section
/-!
SUPPORT. The parts of the state that the operations of Machine/Matrix.lean may write.
-/

namespace Sys2Proof.Machine

open Reg Ob

theorem AccRun.lines_keep {wr : Nat} {s₀ : State} (r : AccRun) (base : Nat) (ks : List Nat) (hk : Keep wr s₀ r.st) (hs : 13965007478 &&& wr = 13965007478) :
    Keep wr s₀ (AccRun.lines r base ks).2.st := by
  refine Keep.app hk ?_ hs
  unfold AccRun.lines
  repeat' (first
    | with_reducible exact Keep.refl _
    | with_reducible assumption
    | (fail_if_no_progress (extract_lets +onlyGivenNames x); first
        | (with_reducible refine Keep.cut (t := x.2.st) ?_ ?_; (on_goal 1 => (unfold x; clear x)); (on_goal 2 => (intro hx; clear_value x))))
    | with_reducible apply AccRun.read_keep
    | refine Keep.foldl_pair_st ?_ (fun t x ht => ?_)
    | rfl)

theorem AccRun.prb_keep {wr : Nat} {s₀ : State} (r : AccRun) (a : Alloc) (est p : Nat) (hk : Keep wr s₀ r.st) (hs : 13965007478 &&& wr = 13965007478) :
    Keep wr s₀ (AccRun.prb r a est p).2.st := by
  refine Keep.app hk ?_ hs
  unfold AccRun.prb
  repeat' (first
    | with_reducible exact Keep.refl _
    | (fail_if_no_progress (extract_lets +onlyGivenNames x); first
        | clear_value x)
    | with_reducible apply AccRun.read_keep
    | with_reducible apply AccRun.require_keep
    | split
    | with_reducible refine Keep.of_pair_st (by assumption) ?_
    | rfl)

theorem AccRun.groupH_keep {wr : Nat} {s₀ : State} (r : AccRun) (a : Alloc) (est g : Nat) (hk : Keep wr s₀ r.st) (hs : 13965007478 &&& wr = 13965007478) :
    Keep wr s₀ (AccRun.groupH r a est g).2.2.st := by
  refine Keep.app hk ?_ hs
  unfold AccRun.groupH
  repeat' (first
    | with_reducible exact Keep.refl _
    | (fail_if_no_progress (extract_lets +onlyGivenNames x); first
        | clear_value x)
    | with_reducible apply AccRun.prb_keep
    | rfl)

theorem AccRun.putWeights_keep {wr : Nat} {s₀ : State} (r : AccRun) (base g nout nin anchor : Nat) (unbiased : Bool) (prec gain vals : List Nat) (hk : Keep wr s₀ r.st) (hs : 13998561908 &&& wr = 13998561908) :
    Keep wr s₀ (AccRun.putWeights r base g nout nin anchor unbiased prec gain vals).st := by
  refine Keep.app hk ?_ hs
  unfold AccRun.putWeights
  repeat' (first
    | with_reducible exact Keep.refl _
    | (fail_if_no_progress (extract_lets +onlyGivenNames x); first
        | clear_value x)
    | with_reducible apply AccRun.write_keep
    | with_reducible apply AccRun.done_keep
    | with_reducible apply AccRun.setFlag_keep
    | split
    | rfl)

theorem AccRun.weights_keep {wr : Nat} {s₀ : State} (r : AccRun) (base g nout nin : Nat) (hk : Keep wr s₀ r.st) (hs : 13965007478 &&& wr = 13965007478) :
    Keep wr s₀ (AccRun.weights r base g nout nin).2.st := by
  refine Keep.app hk ?_ hs
  unfold AccRun.weights
  repeat' (first
    | with_reducible exact Keep.refl _
    | (fail_if_no_progress (extract_lets +onlyGivenNames x); first
        | clear_value x)
    | with_reducible apply AccRun.read_keep
    | with_reducible apply AccRun.require_keep
    | split
    | with_reducible refine Keep.of_pair_st (by assumption) ?_
    | rfl)

theorem AccRun.withAlloc_keep {wr : Nat} {s₀ : State} (r : AccRun) (j : Job) (extents : Alloc → List (Nat × Nat)) (body : Alloc → AccRun → AccRun) (hk : Keep wr s₀ r.st) (hs : 13965007478 &&& wr = 13965007478)
    (hb_body : ∀ a r, Keep wr s₀ r.st → Keep wr s₀ (body a r).st) :
    Keep wr s₀ (AccRun.withAlloc r j extents body).st := by
  unfold AccRun.withAlloc
  repeat' (first
    | with_reducible assumption
    | with_reducible apply hb_body
    | with_reducible apply AccRun.read_keep
    | with_reducible apply AccRun.halt_keep
    | split
    | with_reducible refine Keep.of_pair_st (by assumption) ?_
    | exact Nat.sub_trans (by decide) hs)

end Sys2Proof.Machine
end

