-- ==== Sys2Proof/Laws/KeepMatrixJobs.lean ====
section
/-!
SUPPORT. The parts of the state that the operations of Machine/MatrixJobs.lean may write.
-/

namespace Sys2Proof.Machine

open Reg Ob

theorem AccRun.chestIn_keep {wr : Nat} {s₀ : State} (r : AccRun) (a : Alloc) (grid : Nat) (occ : List Nat) (hk : Keep wr s₀ r.st) (hs : 13965007478 &&& wr = 13965007478) :
    Keep wr s₀ (AccRun.chestIn r a grid occ).2.st := by
  refine Keep.app hk ?_ hs
  unfold AccRun.chestIn
  repeat' (first
    | with_reducible exact Keep.refl _
    | with_reducible assumption
    | (fail_if_no_progress (extract_lets +onlyGivenNames x); first
        | (with_reducible refine Keep.cut (t := x.2.st) ?_ ?_; (on_goal 1 => (unfold x; clear x)); (on_goal 2 => (intro hx; clear_value x)))
        | clear_value x)
    | with_reducible apply AccRun.lines_keep
    | refine Keep.foldl_pair_st ?_ (fun t x ht => ?_)
    | rfl)

theorem AccRun.covariance_keep {wr : Nat} {s₀ : State} (r : AccRun) (a : Alloc) (est n : Nat) (hk : Keep wr s₀ r.st) (hs : 13965007478 &&& wr = 13965007478) :
    Keep wr s₀ (AccRun.covariance r a est n).2.st := by
  refine Keep.app hk ?_ hs
  unfold AccRun.covariance
  repeat' (first
    | with_reducible exact Keep.refl _
    | (fail_if_no_progress (extract_lets +onlyGivenNames x); first
        | clear_value x)
    | with_reducible apply AccRun.read_keep
    | with_reducible apply AccRun.require_keep
    | split
    | with_reducible refine Keep.of_pair_st (by assumption) ?_
    | rfl)

theorem AccRun.stats_keep {wr : Nat} {s₀ : State} (r : AccRun) (a : Alloc) (base g : Nat) (hk : Keep wr s₀ r.st) (hs : 13965007478 &&& wr = 13965007478) :
    Keep wr s₀ (AccRun.stats r a base g).2.2.st := by
  refine Keep.app hk ?_ hs
  unfold AccRun.stats
  repeat' (first
    | with_reducible exact Keep.refl _
    | with_reducible apply AccRun.read_keep
    | with_reducible apply AccRun.require_keep
    | split
    | with_reducible refine Keep.of_pair_st (by assumption) ?_
    | rfl)

theorem AccRun.weightSet_keep {wr : Nat} {s₀ : State} (r : AccRun) (base groups nout nin : Nat) (hk : Keep wr s₀ r.st) (hs : 13965007478 &&& wr = 13965007478) :
    Keep wr s₀ (AccRun.weightSet r base groups nout nin).2.st := by
  refine Keep.app hk ?_ hs
  unfold AccRun.weightSet
  repeat' (first
    | with_reducible exact Keep.refl _
    | with_reducible assumption
    | (fail_if_no_progress (extract_lets +onlyGivenNames x); first
        | (with_reducible refine Keep.cut (t := x.2.st) ?_ ?_; (on_goal 1 => (unfold x; clear x)); (on_goal 2 => (intro hx; clear_value x))))
    | with_reducible apply AccRun.weights_keep
    | refine Keep.foldl_pair_st ?_ (fun t x ht => ?_)
    | rfl)

theorem bfWeightsGroup_keep {wr : Nat} {s₀ : State} (j : Job) (a : Alloc) (g : Nat) (r : AccRun) (hk : Keep wr s₀ r.st) (hs : 13998561910 &&& wr = 13998561910) :
    Keep wr s₀ (bfWeightsGroup j a g r).st := by
  refine Keep.app hk ?_ hs
  unfold bfWeightsGroup
  repeat' (first
    | with_reducible exact Keep.refl _
    | (fail_if_no_progress (extract_lets +onlyGivenNames x); first
        | clear_value x)
    | with_reducible apply AccRun.groupH_keep
    | with_reducible apply AccRun.putWeights_keep
    | split
    | with_reducible refine Keep.of_triple_st (by assumption) ?_
    | rfl)

theorem chest_keep {wr : Nat} {s₀ : State} (j : Job) (r : AccRun) (hk : Keep wr s₀ r.st) (hs : 13998561910 &&& wr = 13998561910) :
    Keep wr s₀ (chest j r).st := by
  refine Keep.app hk ?_ hs
  unfold chest
  repeat' (first
    | with_reducible exact Keep.refl _
    | with_reducible assumption
    | (intro _)
    | (fail_if_no_progress (extract_lets +onlyGivenNames x); first
        | (with_reducible refine Keep.cut (t := x.st) ?_ ?_; (on_goal 1 => (unfold x; clear x)); (on_goal 2 => (intro hx; clear_value x)))
        | clear_value x)
    | with_reducible apply AccRun.withAlloc_keep
    | with_reducible apply AccRun.require_keep
    | with_reducible apply AccRun.chestIn_keep
    | with_reducible apply AccRun.each_keep
    | with_reducible apply AccRun.write_keep
    | with_reducible apply AccRun.done_keep
    | with_reducible apply AccRun.setFlag_keep
    | split
    | refine Keep.foldl_st ?_ (fun t x ht => ?_)
    | with_reducible refine Keep.of_pair_st (by assumption) ?_
    | rfl)

theorem eqWeightsGroup_keep {wr : Nat} {s₀ : State} (j : Job) (a : Alloc) (g : Nat) (r : AccRun) (hk : Keep wr s₀ r.st) (hs : 13998561910 &&& wr = 13998561910) :
    Keep wr s₀ (eqWeightsGroup j a g r).st := by
  refine Keep.app hk ?_ hs
  unfold eqWeightsGroup
  repeat' (first
    | with_reducible exact Keep.refl _
    | (fail_if_no_progress (extract_lets +onlyGivenNames x); first
        | clear_value x)
    | with_reducible apply AccRun.groupH_keep
    | with_reducible apply AccRun.weights_keep
    | with_reducible apply AccRun.putWeights_keep
    | with_reducible apply AccRun.covariance_keep
    | split
    | with_reducible refine Keep.of_pair_st (by assumption) ?_
    | with_reducible refine Keep.of_triple_st (by assumption) ?_
    | rfl)

theorem execChest_keep (unit : Nat) (s : State) : KeepOut 14267129462 s (execChest unit s) := by
  unfold execChest
  repeat' (first
    | with_reducible exact Keep.refl _
    | with_reducible assumption
    | (intro _)
    | with_reducible refine Keep.out ?_
    | with_reducible apply State.accRun_keep
    | with_reducible apply chest_keep
    | rfl)

theorem execEqWeights_keep (unit : Nat) (s : State) : KeepOut 14267129462 s (execEqWeights unit s) := by
  unfold execEqWeights
  repeat' (first
    | with_reducible exact Keep.refl _
    | with_reducible assumption
    | (intro _)
    | with_reducible refine Keep.out ?_
    | (fail_if_no_progress (extract_lets +onlyGivenNames x); first
        | clear_value x)
    | with_reducible apply State.accRun_keep
    | with_reducible apply AccRun.withAlloc_keep
    | with_reducible apply AccRun.each_keep
    | with_reducible apply AccRun.require_keep
    | with_reducible apply eqWeightsGroup_keep
    | rfl)

theorem execBfWeights_keep (unit : Nat) (s : State) : KeepOut 14267129462 s (execBfWeights unit s) := by
  unfold execBfWeights
  repeat' (first
    | with_reducible exact Keep.refl _
    | with_reducible assumption
    | (intro _)
    | with_reducible refine Keep.out ?_
    | with_reducible apply State.accRun_keep
    | with_reducible apply AccRun.withAlloc_keep
    | with_reducible apply AccRun.each_keep
    | with_reducible apply bfWeightsGroup_keep
    | rfl)

theorem weightApplySymbol_keep {wr : Nat} {s₀ : State} (j : Job) (a : Alloc) (nout : Nat) (ws : List Weights) (sym : Nat) (r : AccRun) (hk : Keep wr s₀ r.st) (hs : 13998561910 &&& wr = 13998561910) :
    Keep wr s₀ (weightApplySymbol j a nout ws sym r).st := by
  refine Keep.app hk ?_ hs
  unfold weightApplySymbol
  repeat' (first
    | with_reducible exact Keep.refl _
    | with_reducible assumption
    | (fail_if_no_progress (extract_lets +onlyGivenNames x); first
        | (with_reducible refine Keep.cut (t := x.st) ?_ ?_; (on_goal 1 => (unfold x; clear x)); (on_goal 2 => (intro hx; clear_value x)))
        | (with_reducible refine Keep.cut (t := x.2.st) ?_ ?_; (on_goal 1 => (unfold x; clear x)); (on_goal 2 => (intro hx; clear_value x)))
        | clear_value x)
    | with_reducible apply AccRun.lines_keep
    | with_reducible apply AccRun.done_keep
    | with_reducible apply AccRun.write_keep
    | with_reducible apply AccRun.setFlag_keep
    | split
    | refine Keep.foldl_st ?_ (fun t x ht => ?_)
    | refine Keep.foldl_pair_st ?_ (fun t x ht => ?_)
    | rfl)

theorem execWeightApply_keep (unit : Nat) (s : State) : KeepOut 14267129462 s (execWeightApply unit s) := by
  unfold execWeightApply
  repeat' (first
    | with_reducible exact Keep.refl _
    | with_reducible assumption
    | (intro _)
    | with_reducible refine Keep.out ?_
    | (fail_if_no_progress (extract_lets +onlyGivenNames x); first
        | (with_reducible refine Keep.cut (t := x.st) ?_ ?_; (on_goal 1 => (unfold x; clear x)); (on_goal 2 => (intro hx; clear_value x)))
        | clear_value x)
    | with_reducible apply State.accRun_keep
    | with_reducible apply AccRun.withAlloc_keep
    | with_reducible apply AccRun.read_keep
    | with_reducible apply AccRun.require_keep
    | with_reducible apply AccRun.weightSet_keep
    | with_reducible apply weightApplySymbol_keep
    | split
    | refine Keep.foldl_st ?_ (fun t x ht => ?_)
    | with_reducible refine Keep.of_pair_st (by assumption) ?_
    | rfl)

theorem execJmStats_keep (unit : Nat) (s : State) : KeepOut 14267129462 s (execJmStats unit s) := by
  unfold execJmStats
  repeat' (first
    | with_reducible exact Keep.refl _
    | with_reducible assumption
    | (intro _)
    | with_reducible refine Keep.out ?_
    | (fail_if_no_progress (extract_lets +onlyGivenNames x); first
        | clear_value x)
    | with_reducible apply State.accRun_keep
    | with_reducible apply AccRun.withAlloc_keep
    | with_reducible apply AccRun.each_keep
    | with_reducible apply AccRun.groupH_keep
    | with_reducible apply AccRun.done_keep
    | with_reducible apply AccRun.write_keep
    | split
    | with_reducible refine Keep.of_triple_st (by assumption) ?_
    | rfl)

theorem execJmSolve_keep (unit : Nat) (s : State) : KeepOut 14267129462 s (execJmSolve unit s) := by
  unfold execJmSolve
  repeat' (first
    | with_reducible exact Keep.refl _
    | with_reducible assumption
    | (intro _)
    | with_reducible refine Keep.out ?_
    | (fail_if_no_progress (extract_lets +onlyGivenNames x); first
        | (with_reducible refine Keep.cut (t := x.st) ?_ ?_; (on_goal 1 => (unfold x; clear x)); (on_goal 2 => (intro hx; clear_value x)))
        | (with_reducible refine Keep.cut (t := x.2.st) ?_ ?_; (on_goal 1 => (unfold x; clear x)); (on_goal 2 => (intro hx; clear_value x)))
        | clear_value x)
    | with_reducible apply State.accRun_keep
    | with_reducible apply AccRun.withAlloc_keep
    | with_reducible apply AccRun.read_keep
    | with_reducible apply AccRun.require_keep
    | with_reducible apply AccRun.each_keep
    | with_reducible apply AccRun.stats_keep
    | with_reducible apply AccRun.putWeights_keep
    | split
    | refine Keep.foldl_pair_st ?_ (fun t x ht => ?_)
    | rfl)

end Sys2Proof.Machine
end

