-- ==== Sys2Proof/Laws/KeepEqJobs.lean ====
section
/-!
SUPPORT. The parts of the state that the operations of Machine/EqJobs.lean may write.
-/

namespace Sys2Proof.Machine

open Reg Ob

theorem eqFinish_keep {wr : Nat} {s₀ : State} (j : Job) (a : Alloc) (res : List Nat) (w0 : List Weights) (w1 : Option (List Weights)) (value : Nat → Nat × Nat → (Int × Int) × Bool) (track : Option Track) (r : AccRun) (hk : Keep wr s₀ r.st) (hs : 13998561908 &&& wr = 13998561908) :
    Keep wr s₀ (eqFinish j a res w0 w1 value track r).st := by
  refine Keep.app hk ?_ hs
  unfold eqFinish
  repeat' (first
    | with_reducible exact Keep.refl _
    | with_reducible assumption
    | (fail_if_no_progress (extract_lets +onlyGivenNames x); first
        | (with_reducible refine Keep.cut (t := x.st) ?_ ?_; (on_goal 1 => (unfold x; clear x)); (on_goal 2 => (intro hx; clear_value x)))
        | clear_value x)
    | with_reducible apply AccRun.write_keep
    | with_reducible apply AccRun.setFlag_keep
    | split
    | refine Keep.foldl_st ?_ (fun t x ht => ?_)
    | rfl)

theorem eqTrack_keep {wr : Nat} {s₀ : State} (j : Job) (a : Alloc) (others : List (Nat × Nat)) (anchor : Bool) (pilots : List (Nat × Nat)) (value : Nat → Nat → Int × Int) (r : AccRun) (hk : Keep wr s₀ r.st) (hs : 13965007478 &&& wr = 13965007478) :
    Keep wr s₀ (eqTrack j a others anchor pilots value r).2.st := by
  refine Keep.app hk ?_ hs
  unfold eqTrack
  repeat' (first
    | with_reducible exact Keep.refl _
    | with_reducible assumption
    | (fail_if_no_progress (extract_lets +onlyGivenNames x); first
        | (with_reducible refine Keep.cut (t := x.st) ?_ ?_; (on_goal 1 => (unfold x; clear x)); (on_goal 2 => (intro hx; clear_value x)))
        | (with_reducible refine Keep.cut (t := x.2.st) ?_ ?_; (on_goal 1 => (unfold x; clear x)); (on_goal 2 => (intro hx; clear_value x)))
        | clear_value x)
    | with_reducible apply AccRun.read_keep
    | with_reducible apply AccRun.require_keep
    | with_reducible apply AccRun.lines_keep
    | split
    | refine Keep.foldl_pair_st ?_ (fun t x ht => ?_)
    | with_reducible refine Keep.of_pair_st (by assumption) ?_
    | rfl)

theorem eqGrid_keep {wr : Nat} {s₀ : State} (j : Job) (a : Alloc) (r : AccRun) (hk : Keep wr s₀ r.st) (hs : 13998561910 &&& wr = 13998561910) :
    Keep wr s₀ (eqGrid j a r).st := by
  refine Keep.app hk ?_ hs
  unfold eqGrid
  repeat' (first
    | with_reducible exact Keep.refl _
    | with_reducible assumption
    | (fail_if_no_progress (extract_lets +onlyGivenNames x); first
        | (with_reducible refine Keep.cut (t := x.st) ?_ ?_; (on_goal 1 => (unfold x; clear x)); (on_goal 2 => (intro hx; clear_value x)))
        | (with_reducible refine Keep.cut (t := x.2.st) ?_ ?_; (on_goal 1 => (unfold x; clear x)); (on_goal 2 => (intro hx; clear_value x)))
        | clear_value x)
    | with_reducible apply AccRun.weightSet_keep
    | with_reducible apply AccRun.require_keep
    | with_reducible apply AccRun.lines_keep
    | with_reducible apply eqTrack_keep
    | with_reducible apply eqFinish_keep
    | split
    | refine Keep.foldl_pair_st ?_ (fun t x ht => ?_)
    | with_reducible refine Keep.of_pair_st (by assumption) ?_
    | rfl)

theorem eqPartials_keep {wr : Nat} {s₀ : State} (j : Job) (a : Alloc) (r : AccRun) (hk : Keep wr s₀ r.st) (hs : 13998561910 &&& wr = 13998561910) :
    Keep wr s₀ (eqPartials j a r).st := by
  refine Keep.app hk ?_ hs
  unfold eqPartials
  repeat' (first
    | with_reducible exact Keep.refl _
    | with_reducible assumption
    | (fail_if_no_progress (extract_lets +onlyGivenNames x); first
        | (with_reducible refine Keep.cut (t := x.st) ?_ ?_; (on_goal 1 => (unfold x; clear x)); (on_goal 2 => (intro hx; clear_value x)))
        | (with_reducible refine Keep.cut (t := x.2.st) ?_ ?_; (on_goal 1 => (unfold x; clear x)); (on_goal 2 => (intro hx; clear_value x)))
        | clear_value x)
    | with_reducible apply AccRun.read_keep
    | with_reducible apply AccRun.require_keep
    | with_reducible apply AccRun.weightSet_keep
    | with_reducible apply eqTrack_keep
    | with_reducible apply eqFinish_keep
    | split
    | refine Keep.foldl_pair_st ?_ (fun t x ht => ?_)
    | with_reducible refine Keep.of_pair_st (by assumption) ?_
    | rfl)

theorem execEqApply_keep (unit : Nat) (s : State) : KeepOut 14267129462 s (execEqApply unit s) := by
  unfold execEqApply
  repeat' (first
    | with_reducible exact Keep.refl _
    | with_reducible assumption
    | (intro _)
    | with_reducible refine Keep.out ?_
    | with_reducible apply State.accRun_keep
    | with_reducible apply AccRun.withAlloc_keep
    | with_reducible apply eqPartials_keep
    | with_reducible apply eqGrid_keep
    | split
    | rfl)

theorem softDemap_keep {wr : Nat} {s₀ : State} (j : Job) (r : AccRun) (hk : Keep wr s₀ r.st) (hs : 13998561910 &&& wr = 13998561910) :
    Keep wr s₀ (softDemap j r).st := by
  refine Keep.app hk ?_ hs
  unfold softDemap
  repeat' (first
    | with_reducible exact Keep.refl _
    | with_reducible assumption
    | (fail_if_no_progress (extract_lets +onlyGivenNames x); first
        | (with_reducible refine Keep.cut (t := x.st) ?_ ?_; (on_goal 1 => (unfold x; clear x)); (on_goal 2 => (intro hx; clear_value x)))
        | clear_value x)
    | with_reducible apply AccRun.read_keep
    | with_reducible apply AccRun.write_keep
    | split
    | with_reducible refine Keep.of_pair_st (by assumption) ?_
    | rfl)

theorem execSoftDemap_keep (unit : Nat) (s : State) : KeepOut 14267129462 s (execSoftDemap unit s) := by
  unfold execSoftDemap
  repeat' (first
    | with_reducible exact Keep.refl _
    | with_reducible assumption
    | (intro _)
    | with_reducible refine Keep.out ?_
    | with_reducible apply State.accRun_keep
    | with_reducible apply softDemap_keep
    | rfl)

theorem modMap_keep {wr : Nat} {s₀ : State} (j : Job) (r : AccRun) (hk : Keep wr s₀ r.st) (hs : 13998561910 &&& wr = 13998561910) :
    Keep wr s₀ (modMap j r).st := by
  refine Keep.app hk ?_ hs
  unfold modMap
  repeat' (first
    | with_reducible exact Keep.refl _
    | with_reducible assumption
    | (intro _)
    | (fail_if_no_progress (extract_lets +onlyGivenNames x); first
        | (with_reducible refine Keep.cut (t := x.st) ?_ ?_; (on_goal 1 => (unfold x; clear x)); (on_goal 2 => (intro hx; clear_value x)))
        | (with_reducible refine Keep.cut (t := x.2.st) ?_ ?_; (on_goal 1 => (unfold x; clear x)); (on_goal 2 => (intro hx; clear_value x)))
        | clear_value x)
    | with_reducible apply AccRun.withAlloc_keep
    | with_reducible apply AccRun.read_keep
    | with_reducible apply AccRun.lines_keep
    | with_reducible apply AccRun.write_keep
    | with_reducible apply AccRun.setFlag_keep
    | split
    | refine Keep.foldl_st ?_ (fun t x ht => ?_)
    | with_reducible refine Keep.of_pair_st (by assumption) ?_
    | rfl)

theorem execModMap_keep (unit : Nat) (s : State) : KeepOut 14267129462 s (execModMap unit s) := by
  unfold execModMap
  repeat' (first
    | with_reducible exact Keep.refl _
    | with_reducible assumption
    | (intro _)
    | with_reducible refine Keep.out ?_
    | with_reducible apply State.accRun_keep
    | with_reducible apply modMap_keep
    | rfl)

end Sys2Proof.Machine
end

