-- ==== Sys2Proof/Laws/KeepHostCommands.lean ====
section
/-!
SUPPORT. The parts of the state that the operations of Machine/HostCommands.lean may write.
-/

namespace Sys2Proof.Machine

open Reg Ob

theorem State.countReplays_keep {wr : Nat} {s₀ : State} (s : State) (n : Nat) (hk : Keep wr s₀ s) (hs : 4112 &&& wr = 4112) :
    Keep wr s₀ (State.countReplays s n) := by
  refine Keep.app hk ?_ hs
  unfold State.countReplays
  repeat' (first
    | with_reducible exact Keep.refl _
    | with_reducible assumption
    | (fail_if_no_progress (extract_lets +onlyGivenNames x); first
        | (with_reducible refine Keep.cut (t := x) ?_ ?_; (on_goal 1 => (unfold x; clear x)); (on_goal 2 => (intro hx; clear_value x)))
        | clear_value x)
    | with_reducible apply State.incf_keep
    | split
    | rfl
    | fail_if_no_progress (with_reducible refine Keep.set_host (by decide) ?_))

theorem execHostLinkRetrain_keep (cause requester value repaired0 width0 repaired1 width1 : Nat) (s : State) : KeepOut 13960810548 s (execHostLinkRetrain cause requester value repaired0 width0 repaired1 width1 s) := by
  unfold execHostLinkRetrain
  repeat' (first
    | with_reducible exact Keep.refl _
    | with_reducible assumption
    | with_reducible refine Keep.out ?_
    | (fail_if_no_progress (extract_lets +onlyGivenNames x); first
        | (with_reducible refine Keep.cut (t := x) ?_ ?_; (on_goal 1 => (unfold x; clear x)); (on_goal 2 => (intro hx; clear_value x)))
        | clear_value x)
    | with_reducible apply State.countReplays_keep
    | with_reducible apply State.sf_keep
    | with_reducible apply State.releaseHeldRequests_keep
    | with_reducible apply State.trainLink_keep
    | with_reducible refine Keep.ite ?_ ?_
    | rfl)

theorem execHostLinkDown_keep (s : State) : KeepOut 4297134100 s (execHostLinkDown s) := by
  unfold execHostLinkDown
  repeat' (first
    | with_reducible exact Keep.refl _
    | with_reducible assumption
    | with_reducible refine Keep.out ?_
    | (fail_if_no_progress (extract_lets +onlyGivenNames x); first
        | (with_reducible refine Keep.cut (t := x) ?_ ?_; (on_goal 1 => (unfold x; clear x)); (on_goal 2 => (intro hx; clear_value x)))
        | clear_value x)
    | with_reducible apply State.hostLinkEvent_keep
    | with_reducible apply State.sf_keep
    | with_reducible refine Keep.ite ?_ ?_
    | rfl
    | fail_if_no_progress (with_reducible refine Keep.set_host (by decide) ?_))

theorem execHostLinkDownTimeout_keep (s : State) : KeepOut 4297134100 s (execHostLinkDownTimeout s) := by
  unfold execHostLinkDownTimeout
  repeat' (first
    | with_reducible exact Keep.refl _
    | with_reducible refine Keep.out ?_
    | (fail_if_no_progress (extract_lets +onlyGivenNames x); first
        | clear_value x)
    | with_reducible apply State.dropHeld_keep
    | with_reducible refine Keep.ite ?_ ?_
    | rfl
    | fail_if_no_progress (with_reducible refine Keep.set_host (by decide) ?_))

theorem execHostLinkUp_keep (rate repaired0 width0 repaired1 width1 : Nat) (s : State) : KeepOut 13960810548 s (execHostLinkUp rate repaired0 width0 repaired1 width1 s) := by
  unfold execHostLinkUp
  repeat' (first
    | with_reducible exact Keep.refl _
    | with_reducible assumption
    | with_reducible refine Keep.out ?_
    | (fail_if_no_progress (extract_lets +onlyGivenNames x); first
        | (with_reducible refine Keep.cut (t := x) ?_ ?_; (on_goal 1 => (unfold x; clear x)); (on_goal 2 => (intro hx; clear_value x))))
    | with_reducible apply State.trainLink_keep
    | with_reducible apply State.sf_keep
    | with_reducible apply State.releaseHeldRequests_keep
    | rfl)

theorem execHostCompletionReceive_keep (unit addr status : Nat) (ring : Option Nat) (data : List Word) (s : State) : KeepOut 4297134100 s (execHostCompletionReceive unit addr status ring data s) := by
  unfold execHostCompletionReceive
  repeat' (first
    | with_reducible exact Keep.refl _
    | with_reducible assumption
    | with_reducible refine Keep.out ?_
    | (fail_if_no_progress (extract_lets +onlyGivenNames x); first
        | (with_reducible refine Keep.cut (t := x) ?_ ?_; (on_goal 1 => (unfold x; clear x)); (on_goal 2 => (intro hx; clear_value x))))
    | with_reducible apply State.incf_keep
    | with_reducible apply State.stopRing_keep
    | with_reducible apply State.send_keep
    | with_reducible refine Keep.ite ?_ ?_
    | split
    | rfl)

theorem execHostCompletionTimeout_keep (unit addr words : Nat) (ring : Option Nat) (s : State) : KeepOut 4297134100 s (execHostCompletionTimeout unit addr words ring s) := by
  unfold execHostCompletionTimeout
  repeat' (first
    | with_reducible exact Keep.refl _
    | with_reducible assumption
    | with_reducible refine Keep.out ?_
    | (fail_if_no_progress (extract_lets +onlyGivenNames x); first
        | (with_reducible refine Keep.cut (t := x) ?_ ?_; (on_goal 1 => (unfold x; clear x)); (on_goal 2 => (intro hx; clear_value x))))
    | with_reducible apply State.incf_keep
    | with_reducible apply State.stopRing_keep
    | with_reducible apply State.send_keep
    | split
    | rfl)

theorem execHostRingEnable_keep (requester function ring : Nat) (config : Half) (s : State) : KeepOut 268439568 s (execHostRingEnable requester function ring config s) := by
  unfold execHostRingEnable
  repeat' (first
    | with_reducible exact Keep.refl _
    | with_reducible assumption
    | (intro _)
    | with_reducible refine Keep.out ?_
    | with_reducible apply State.atIsland_keep
    | with_reducible apply State.writeRingCfg_keep
    | rfl)

theorem execHostRingDisable_keep (requester function ring : Nat) (config : Half) (s : State) : KeepOut 268439568 s (execHostRingDisable requester function ring config s) := by
  unfold execHostRingDisable
  repeat' (first
    | with_reducible exact Keep.refl _
    | with_reducible assumption
    | (intro _)
    | with_reducible refine Keep.out ?_
    | with_reducible apply State.atIsland_keep
    | with_reducible apply State.writeRingCfg_keep
    | rfl)

theorem execHostRingDoorbell_keep (requester function ring index : Nat) (s : State) : KeepOut 4565569556 s (execHostRingDoorbell requester function ring index s) := by
  unfold execHostRingDoorbell
  repeat' (first
    | with_reducible exact Keep.refl _
    | with_reducible assumption
    | (intro _)
    | with_reducible refine Keep.out ?_
    | with_reducible apply State.atIsland_keep
    | with_reducible apply State.ringDoorbell_keep
    | rfl)

theorem execHostRingEntryPush_keep (function ring : Nat) (entry : List Word) (s : State) : KeepOut 5120 s (execHostRingEntryPush function ring entry s) := by
  unfold execHostRingEntryPush
  repeat' (first
    | with_reducible exact Keep.refl _
    | with_reducible refine Keep.out ?_
    | with_reducible apply State.ringPush_keep
    | rfl)

theorem execHostRingEntryWrite_keep (function ring : Nat) (s : State) : KeepOut 14233443958 s (execHostRingEntryWrite function ring s) := by
  unfold execHostRingEntryWrite
  repeat' (first
    | with_reducible exact Keep.refl _
    | with_reducible refine Keep.out ?_
    | with_reducible apply State.ringWrite_keep
    | rfl)

theorem execEventRaise_keep (event info : Nat) (s : State) : KeepOut 4297134100 s (execEventRaise event info s) := by
  unfold execEventRaise
  repeat' (first
    | with_reducible exact Keep.refl _
    | with_reducible refine Keep.out ?_
    | with_reducible apply State.raise_keep
    | with_reducible refine Keep.ite ?_ ?_
    | rfl)

end Sys2Proof.Machine
end

