-- ==== Sys2Proof/Laws/KeepMbPersonality.lean ====
section
/-!
SUPPORT. The parts of the state that the operations of Machine/MbPersonality.lean may write.
-/

namespace Sys2Proof.Machine

open Reg Ob

theorem State.viewRead_keep {wr : Nat} {s₀ : State} (s : State) (u k off n : Nat) (hk : Keep wr s₀ s) (hs : 13965007478 &&& wr = 13965007478) :
    Keep wr s₀ (State.viewRead s u k off n).2 := by
  refine Keep.app hk ?_ hs
  unfold State.viewRead
  repeat' (first
    | with_reducible exact Keep.refl _
    | (fail_if_no_progress (extract_lets +onlyGivenNames x); first
        | clear_value x)
    | with_reducible apply State.readWords_keep
    | with_reducible apply State.fresh_keep
    | with_reducible refine Keep.ite_snd ?_ ?_
    | split
    | rfl)

theorem State.refreshImages_keep {wr : Nat} {s₀ : State} (s : State) (hk : Keep wr s₀ s) (hs : 9663676512 &&& wr = 9663676512) :
    Keep wr s₀ (State.refreshImages s) := by
  refine Keep.app hk ?_ hs
  unfold State.refreshImages
  repeat' (first
    | with_reducible exact Keep.refl _
    | with_reducible apply State.sdom_keep
    | rfl)

theorem State.framingStore_keep {wr : Nat} {s₀ : State} (s : State) (a : Nat) (programmed : Bool) (hk : Keep wr s₀ s) (hs : 14266997366 &&& wr = 14266997366) :
    Keep wr s₀ (State.framingStore s a programmed).2 := by
  refine Keep.app hk ?_ hs
  unfold State.framingStore
  repeat' (first
    | with_reducible exact Keep.refl _
    | with_reducible assumption
    | (intro _)
    | (fail_if_no_progress (extract_lets +onlyGivenNames x); first
        | (with_reducible refine Keep.cut (t := x) ?_ ?_; (on_goal 1 => (unfold x; clear x)); (on_goal 2 => (intro hx; clear_value x)))
        | (with_reducible refine Keep.cutF2 (f := x) ?_ ?_; (on_goal 1 => (unfold x; clear x)); (on_goal 2 => (intro hg; clear_value x)))
        | clear_value x)
    | with_reducible apply hg
    | with_reducible apply State.so_keep
    | with_reducible apply State.rejectImage_keep
    | with_reducible apply State.readImage_keep
    | with_reducible apply State.refreshImages_keep
    | with_reducible apply State.raise_keep
    | with_reducible refine Keep.ite_snd ?_ ?_
    | split
    | with_reducible refine Keep.of_pair (by assumption) ?_
    | rfl
    | fail_if_no_progress (with_reducible refine Keep.set_boot (by decide) ?_))

theorem State.coreWrite_keep {wr : Nat} {s₀ : State} (s : State) (requester k c : Nat) (f : State → Nat → State) (hk : Keep wr s₀ s) (hs : 268435456 &&& wr = 268435456)
    (hb_f : ∀ t n, Keep wr s₀ t → Keep wr s₀ (f t n)) :
    Keep wr s₀ (State.coreWrite s requester k c f) := by
  unfold State.coreWrite
  repeat' (first
    | with_reducible assumption
    | (intro _)
    | (fail_if_no_progress (extract_lets +onlyGivenNames x); first
        | clear_value x)
    | with_reducible apply hb_f
    | with_reducible apply State.atIsland_keep
    | with_reducible refine Keep.ite ?_ ?_
    | split)

theorem State.flushVectors_keep {wr : Nat} {s₀ : State} (s : State) (f : Nat) (hk : Keep wr s₀ s) (hs : 4100 &&& wr = 4100) :
    Keep wr s₀ (State.flushVectors s f) := by
  refine Keep.app hk ?_ hs
  unfold State.flushVectors
  repeat' (first
    | with_reducible exact Keep.refl _
    | with_reducible assumption
    | (fail_if_no_progress (extract_lets +onlyGivenNames x); first
        | clear_value x)
    | with_reducible apply State.sendVector_keep
    | with_reducible apply State.setMsix_keep
    | refine Keep.foldr ?_ (fun t x ht => ?_)
    | rfl)

theorem State.writeTable_keep {wr : Nat} {s₀ : State} (s : State) (f off : Nat) (data : List (Option Byte)) (hk : Keep wr s₀ s) (hs : 4100 &&& wr = 4100) :
    Keep wr s₀ (State.writeTable s f off data) := by
  refine Keep.app hk ?_ hs
  unfold State.writeTable
  repeat' (first
    | with_reducible exact Keep.refl _
    | with_reducible apply State.flushVectors_keep
    | with_reducible apply State.setMsix_keep
    | rfl)

theorem State.writeView_keep {wr : Nat} {s₀ : State} (s : State) (k off v : Nat) (hk : Keep wr s₀ s) (hs : 68719476752 &&& wr = 68719476752) :
    Keep wr s₀ (State.writeView s k off v) := by
  refine Keep.app hk ?_ hs
  unfold State.writeView
  repeat' (first
    | with_reducible exact Keep.refl _
    | with_reducible assumption
    | (fail_if_no_progress (extract_lets +onlyGivenNames x); first
        | (with_reducible refine Keep.cut (t := x) ?_ ?_; (on_goal 1 => (unfold x; clear x)); (on_goal 2 => (intro hx; clear_value x)))
        | clear_value x)
    | with_reducible apply State.setMbSlot_keep
    | with_reducible apply State.sf_keep
    | with_reducible refine Keep.ite ?_ ?_
    | split
    | refine Keep.foldl ?_ (fun t x ht => ?_)
    | rfl)

theorem State.viewWrite_keep {wr : Nat} {s₀ : State} (s : State) (u k off : Nat) (data : List (Option Byte)) (hk : Keep wr s₀ s) (hs : 82718038644 &&& wr = 82718038644) :
    Keep wr s₀ (State.viewWrite s u k off data) := by
  refine Keep.app hk ?_ hs
  unfold State.viewWrite
  repeat' (first
    | with_reducible exact Keep.refl _
    | with_reducible apply State.writeTable_keep
    | with_reducible apply State.writeEnabled_keep
    | with_reducible apply State.writeView_keep
    | with_reducible refine Keep.ite ?_ ?_
    | split
    | rfl)

theorem State.mbComplete_keep {wr : Nat} {s₀ : State} (s : State) (k q number status : Nat) (result extension : Nat) (crcFail : Bool) (hk : Keep wr s₀ s) (hs : 68719480836 &&& wr = 68719480836) :
    Keep wr s₀ (State.mbComplete s k q number status result extension crcFail) := by
  refine Keep.app hk ?_ hs
  unfold State.mbComplete
  repeat' (first
    | with_reducible exact Keep.refl _
    | with_reducible apply State.mbSource_keep
    | with_reducible apply State.send_keep
    | rfl)

theorem State.mbCommand_keep {wr : Nat} {s₀ : State} (s : State) (p k q : Nat) (c : MbCommand) (hk : Keep wr s₀ s) (hs : 68719481860 &&& wr = 68719481860) :
    Keep wr s₀ (State.mbCommand s p k q c) := by
  refine Keep.app hk ?_ hs
  unfold State.mbCommand
  repeat' (first
    | with_reducible exact Keep.refl _
    | with_reducible apply State.mbComplete_keep
    | with_reducible apply State.pushBytes_keep
    | with_reducible refine Keep.ite ?_ ?_
    | split
    | rfl)

theorem State.mbEnable_keep {wr : Nat} {s₀ : State} (s : State) (p : Nat) (hk : Keep wr s₀ s) (hs : 83003391606 &&& wr = 83003391606) :
    Keep wr s₀ (State.mbEnable s p) := by
  refine Keep.app hk ?_ hs
  unfold State.mbEnable
  repeat' (first
    | with_reducible exact Keep.refl _
    | with_reducible assumption
    | (fail_if_no_progress (extract_lets +onlyGivenNames x); first
        | (with_reducible refine Keep.cut (t := x) ?_ ?_; (on_goal 1 => (unfold x; clear x)); (on_goal 2 => (intro hx; clear_value x)))
        | clear_value x)
    | with_reducible apply State.writeQcfg_keep
    | with_reducible apply State.sf_keep
    | with_reducible apply State.writeSqCfg_keep
    | with_reducible apply State.writeDmaCfg_keep
    | with_reducible apply State.writeCarCfg_keep
    | with_reducible apply State.setMbSlot_keep
    | with_reducible refine Keep.ite ?_ ?_
    | refine Keep.foldl ?_ (fun t x ht => ?_)
    | rfl)

theorem State.mbEngines_keep {wr : Nat} {s₀ : State} (s : State) (p : Nat) (hk : Keep wr s₀ s) (hs : 16 &&& wr = 16) :
    Keep wr s₀ (State.mbEngines s p) := by
  refine Keep.app hk ?_ hs
  unfold State.mbEngines
  repeat' (first
    | with_reducible exact Keep.refl _
    | with_reducible assumption
    | with_reducible apply State.sf_keep
    | refine Keep.foldl ?_ (fun t x ht => ?_)
    | rfl)

theorem State.mbFraming_keep {wr : Nat} {s₀ : State} (s : State) (p : Nat) (hk : Keep wr s₀ s) (hs : 14531238452 &&& wr = 14531238452) :
    Keep wr s₀ (State.mbFraming s p).2 := by
  refine Keep.app hk ?_ hs
  unfold State.mbFraming
  repeat' (first
    | with_reducible exact Keep.refl _
    | with_reducible assumption
    | (fail_if_no_progress (extract_lets +onlyGivenNames x); first
        | (with_reducible refine Keep.cut (t := x) ?_ ?_; (on_goal 1 => (unfold x; clear x)); (on_goal 2 => (intro hx; clear_value x)))
        | (with_reducible refine Keep.cut (t := x.2) ?_ ?_; (on_goal 1 => (unfold x; clear x)); (on_goal 2 => (intro hx; clear_value x)))
        | clear_value x)
    | with_reducible apply State.clearPatch_keep
    | with_reducible apply State.streamTake_keep
    | with_reducible apply State.streamWord_keep
    | with_reducible apply State.authorize_keep
    | with_reducible refine Keep.ite_snd ?_ ?_
    | split
    | refine Keep.foldl ?_ (fun t x ht => ?_)
    | rfl)

theorem State.mbZeroFill_keep {wr : Nat} {s₀ : State} (s : State) (p : Nat) (hk : Keep wr s₀ s)
    (hs : 512 &&& wr = 512) : Keep wr s₀ (s.mbZeroFill p) := by
  refine Keep.app hk ?_ hs
  unfold State.mbZeroFill
  extract_lets panels m m'
  refine Keep.set_mem (by decide) (Keep.refl _) ?_
  have hm : s.mem.wf = true → m.wf = true :=
    Memory.foldl_wf id fun _ _ h => Memory.zeroBytes_wf (Memory.foldl_wf h fun _ _ h => Memory.zeroBytes_wf (Memory.zeroBytes_wf h))
  refine Memory.foldl_wf hm fun t x ht => ?_
  dsimp only
  split
  · exact Memory.zeroBytes_wf ht
  · exact ht

theorem execMbFramingStore_keep (session address : Nat) (programmed : Bool) (s : State) : KeepOut 14266997366 s (execMbFramingStore session address programmed s) := by
  unfold execMbFramingStore
  repeat' (first
    | with_reducible exact Keep.refl _
    | with_reducible assumption
    | with_reducible refine Keep.out ?_
    | (fail_if_no_progress (extract_lets +onlyGivenNames x); first
        | (with_reducible refine Keep.cut (t := x.2) ?_ ?_; (on_goal 1 => (unfold x; clear x)); (on_goal 2 => (intro hx; clear_value x))))
    | with_reducible apply State.framingStore_keep
    | with_reducible apply State.send_keep
    | with_reducible refine Keep.ite_snd ?_ ?_
    | rfl)

theorem execMbCoreRelease_keep (requester slot core : Nat) (s : State) : KeepOut 268451840 s (execMbCoreRelease requester slot core s) := by
  unfold execMbCoreRelease
  repeat' (first
    | with_reducible exact Keep.refl _
    | with_reducible assumption
    | (intro _)
    | with_reducible refine Keep.out ?_
    | (fail_if_no_progress (extract_lets +onlyGivenNames x); first
        | clear_value x)
    | with_reducible apply State.coreWrite_keep
    | with_reducible apply State.setEng_keep
    | rfl)

theorem execMbCoreStart_keep (requester slot core address : Nat) (s : State) : KeepOut 268451856 s (execMbCoreStart requester slot core address s) := by
  unfold execMbCoreStart
  repeat' (first
    | with_reducible exact Keep.refl _
    | with_reducible assumption
    | (intro _)
    | with_reducible refine Keep.out ?_
    | with_reducible apply State.coreWrite_keep
    | with_reducible apply State.goEngine_keep
    | with_reducible apply State.sf_keep
    | rfl)

theorem execMbCoreStop_keep (requester slot core : Nat) (s : State) : KeepOut 268616720 s (execMbCoreStop requester slot core s) := by
  unfold execMbCoreStop
  repeat' (first
    | with_reducible exact Keep.refl _
    | with_reducible assumption
    | (intro _)
    | with_reducible refine Keep.out ?_
    | with_reducible apply State.coreWrite_keep
    | with_reducible apply State.resetEngine_keep
    | rfl)

theorem execMbCoreClearFault_keep (requester slot core : Nat) (s : State) : KeepOut 268435472 s (execMbCoreClearFault requester slot core s) := by
  unfold execMbCoreClearFault
  repeat' (first
    | with_reducible exact Keep.refl _
    | with_reducible assumption
    | (intro _)
    | with_reducible refine Keep.out ?_
    | with_reducible apply State.coreWrite_keep
    | with_reducible apply State.sf_keep
    | rfl)

theorem execMbCmdqDoorbell_keep (requester slot queue : Nat) (commands : List MbCommand) (s : State) : KeepOut 68719481860 s (execMbCmdqDoorbell requester slot queue commands s) := by
  unfold execMbCmdqDoorbell
  repeat' (first
    | with_reducible exact Keep.refl _
    | with_reducible assumption
    | with_reducible refine Keep.out ?_
    | with_reducible apply State.mbCommand_keep
    | with_reducible refine Keep.ite ?_ ?_
    | split
    | refine Keep.foldl ?_ (fun t x ht => ?_)
    | rfl)

theorem execMbCmdqCompletion_keep (slot queue : Nat) (s : State) : KeepOut 82952920694 s (execMbCmdqCompletion slot queue s) := by
  unfold execMbCmdqCompletion
  repeat' (first
    | with_reducible exact Keep.refl _
    | with_reducible assumption
    | with_reducible refine Keep.out ?_
    | (fail_if_no_progress (extract_lets +onlyGivenNames x); first
        | (with_reducible refine Keep.cut (t := x) ?_ ?_; (on_goal 1 => (unfold x; clear x)); (on_goal 2 => (intro hx; clear_value x)))
        | clear_value x)
    | with_reducible apply State.popQueue_keep
    | with_reducible apply State.inco_keep
    | with_reducible apply State.fresh_keep
    | with_reducible apply State.mbComplete_keep
    | with_reducible refine Keep.ite ?_ ?_
    | split
    | with_reducible refine Keep.of_pair (by assumption) ?_
    | rfl)

theorem execMbCounterWrite_keep (requester slot : Nat) (value : Word) (s : State) : KeepOut 68719476736 s (execMbCounterWrite requester slot value s) := by
  unfold execMbCounterWrite
  repeat' (first
    | with_reducible exact Keep.refl _
    | with_reducible refine Keep.out ?_
    | (fail_if_no_progress (extract_lets +onlyGivenNames x); first
        | clear_value x)
    | with_reducible apply State.setMbSlot_keep
    | with_reducible refine Keep.ite ?_ ?_
    | rfl)

theorem execMbTimerSet_keep (requester slot timer : Nat) (value : Word) (s : State) : KeepOut 8208 s (execMbTimerSet requester slot timer value s) := by
  unfold execMbTimerSet
  repeat' (first
    | with_reducible exact Keep.refl _
    | with_reducible assumption
    | with_reducible refine Keep.out ?_
    | (fail_if_no_progress (extract_lets +onlyGivenNames x); first
        | (with_reducible refine Keep.cut (t := x) ?_ ?_; (on_goal 1 => (unfold x; clear x)); (on_goal 2 => (intro hx; clear_value x)))
        | clear_value x)
    | with_reducible apply State.writeCmpCtrl_keep
    | with_reducible apply State.writeCmpField_keep
    | with_reducible refine Keep.ite ?_ ?_
    | split
    | rfl)

theorem execMbEndOfInterrupt_keep (requester slot vector : Nat) (s : State) : KeepOut 4100 s (execMbEndOfInterrupt requester slot vector s) := by
  unfold execMbEndOfInterrupt
  repeat' (first
    | with_reducible exact Keep.refl _
    | with_reducible assumption
    | with_reducible refine Keep.out ?_
    | (fail_if_no_progress (extract_lets +onlyGivenNames x); first
        | (with_reducible refine Keep.cut (t := x) ?_ ?_; (on_goal 1 => (unfold x; clear x)); (on_goal 2 => (intro hx; clear_value x)))
        | clear_value x)
    | with_reducible apply State.setMsix_keep
    | with_reducible apply State.sendVector_keep
    | with_reducible refine Keep.ite ?_ ?_
    | split
    | rfl)

theorem execMbMailboxCommand_keep (requester slot command argument : Nat) (board : Bool) (s : State) : KeepOut 68719480836 s (execMbMailboxCommand requester slot command argument board s) := by
  unfold execMbMailboxCommand
  repeat' (first
    | with_reducible exact Keep.refl _
    | with_reducible refine Keep.out ?_
    | (fail_if_no_progress (extract_lets +onlyGivenNames x); first
        | clear_value x)
    | with_reducible apply State.mbSource_keep
    | with_reducible apply State.send_keep
    | with_reducible refine Keep.ite ?_ ?_
    | rfl)

end Sys2Proof.Machine
end

