-- ==== Sys2Proof/Laws/KeepPartition.lean ====
section
/-!
SUPPORT. The parts of the state that the operations of Machine/Partition.lean may write.
-/

namespace Sys2Proof.Machine

open Reg Ob

theorem State.createPart_keep {wr : Nat} {s₀ : State} (s : State) (p : Nat) (hk : Keep wr s₀ s) (hs : 10200547360 &&& wr = 10200547360) :
    Keep wr s₀ (State.createPart s p).2 := by
  refine Keep.app hk ?_ hs
  unfold State.createPart
  repeat' (first
    | with_reducible exact Keep.refl _
    | with_reducible assumption
    | (fail_if_no_progress (extract_lets +onlyGivenNames x); first
        | (with_reducible refine Keep.cut (t := x) ?_ ?_; (on_goal 1 => (unfold x; clear x)); (on_goal 2 => (intro hx; clear_value x))))
    | with_reducible apply State.so_keep
    | with_reducible refine Keep.ite_snd ?_ ?_
    | rfl
    | dsimp -zeta only
    | fail_if_no_progress (with_reducible refine Keep.set_measures (by decide) ?_))

theorem State.copyWindows_keep {wr : Nat} {s₀ : State} (s : State) (p : Nat) (hk : Keep wr s₀ s) (hs : 16 &&& wr = 16) :
    Keep wr s₀ (State.copyWindows s p) := by
  refine Keep.app hk ?_ hs
  unfold State.copyWindows
  repeat' (first
    | with_reducible exact Keep.refl _
    | with_reducible assumption
    | (fail_if_no_progress (extract_lets +onlyGivenNames x); first
        | clear_value x)
    | with_reducible apply State.sf_keep
    | refine Keep.foldl ?_ (fun t x ht => ?_)
    | rfl)

theorem State.panelUpFrom_keep {wr : Nat} {s₀ : State} (s : State) (n : Nat) (hk : Keep wr s₀ s)
    (hs : 268435984 &&& wr = 268435984) : Keep wr s₀ (s.panelUpFrom n) := by
  refine Keep.app hk ?_ hs
  unfold State.panelUpFrom
  split
  · exact Keep.refl _
  · exact State.sf_keep _ _ _ _ (State.setIsl_keep _ _ _ (Keep.set_mem (by decide) (Keep.refl _)
      (Memory.foldl_wf (Memory.poisonRange_wf id) fun _ _ h => Memory.poisonRange_wf (Memory.poisonRange_wf h))) (by decide)) (by decide)

theorem State.startPart_keep {wr : Nat} {s₀ : State} (s : State) (p : Nat) (hk : Keep wr s₀ s) (hs : 9932112432 &&& wr = 9932112432) :
    Keep wr s₀ (State.startPart s p).2 := by
  refine Keep.app hk ?_ hs
  unfold State.startPart
  repeat' (first
    | with_reducible exact Keep.refl _
    | with_reducible assumption
    | (fail_if_no_progress (extract_lets +onlyGivenNames x); first
        | (with_reducible refine Keep.cut (t := x) ?_ ?_; (on_goal 1 => (unfold x; clear x)); (on_goal 2 => (intro hx; clear_value x))))
    | with_reducible apply State.copyWindows_keep
    | with_reducible apply State.panelUpFrom_keep
    | with_reducible apply State.so_keep
    | with_reducible refine Keep.ite_snd ?_ ?_
    | refine Keep.foldl ?_ (fun t x ht => ?_)
    | rfl)

theorem State.stopPart_keep {wr : Nat} {s₀ : State} (s : State) (p : Nat) (hk : Keep wr s₀ s) (hs : 14233575030 &&& wr = 14233575030) :
    Keep wr s₀ (State.stopPart s p).2 := by
  refine Keep.app hk ?_ hs
  unfold State.stopPart
  repeat' (first
    | with_reducible exact Keep.refl _
    | with_reducible apply State.abortPending_keep
    | with_reducible apply State.so_keep
    | with_reducible refine Keep.ite_snd ?_ ?_
    | rfl)

theorem State.panelOff_keep {wr : Nat} {s₀ : State} (s : State) (n : Nat) (hk : Keep wr s₀ s) (hs : 268616720 &&& wr = 268616720) :
    Keep wr s₀ (State.panelOff s n) := by
  refine Keep.app hk ?_ hs
  unfold State.panelOff
  repeat' (first
    | with_reducible exact Keep.refl _
    | with_reducible assumption
    | (fail_if_no_progress (extract_lets +onlyGivenNames x); first
        | (with_reducible refine Keep.cut (t := x) ?_ ?_; (on_goal 1 => (unfold x; clear x)); (on_goal 2 => (intro hx; clear_value x))))
    | with_reducible apply State.holdEngine_keep
    | with_reducible apply State.setGus_keep
    | with_reducible apply State.sf_keep
    | with_reducible apply State.setIsl_keep
    | refine Keep.foldl ?_ (fun t x ht => ?_)
    | rfl)

theorem State.patchOff_keep {wr : Nat} {s₀ : State} (s : State) (n : Nat) (hk : Keep wr s₀ s) (hs : 33686036 &&& wr = 33686036) :
    Keep wr s₀ (State.patchOff s n) := by
  refine Keep.app hk ?_ hs
  unfold State.patchOff
  repeat' (first
    | with_reducible exact Keep.refl _
    | with_reducible apply State.clearPatch_keep
    | with_reducible apply State.isolate_keep
    | with_reducible refine Keep.ite ?_ ?_
    | rfl)

theorem State.dropObject_keep {wr : Nat} {s₀ : State} (s : State) (o : Obj) (i : Nat) (hk : Keep wr s₀ s) (hs : 9663676512 &&& wr = 9663676512) :
    Keep wr s₀ (State.dropObject s o i) := by
  refine Keep.app hk ?_ hs
  unfold State.dropObject
  repeat' (first
    | with_reducible exact Keep.refl _
    | with_reducible assumption
    | (fail_if_no_progress (extract_lets +onlyGivenNames x); first
        | (with_reducible refine Keep.cut (t := x) ?_ ?_; (on_goal 1 => (unfold x; clear x)); (on_goal 2 => (intro hx; clear_value x)))
        | clear_value x)
    | with_reducible apply State.touch_keep
    | with_reducible refine Keep.ite ?_ ?_
    | rfl
    | fail_if_no_progress (with_reducible refine Keep.set_objs_doms_boot (by decide) ?_))

theorem State.deletePart_keep {wr : Nat} {s₀ : State} (s : State) (p : Nat) (hk : Keep wr s₀ s) (hs : 14284488310 &&& wr = 14284488310) :
    Keep wr s₀ (State.deletePart s p).2 := by
  refine Keep.app hk ?_ hs
  unfold State.deletePart
  repeat' (first
    | with_reducible exact Keep.refl _
    | with_reducible assumption
    | (fail_if_no_progress (extract_lets +onlyGivenNames x); first
        | (with_reducible refine Keep.cut (t := x) ?_ ?_; (on_goal 1 => (unfold x; clear x)); (on_goal 2 => (intro hx; clear_value x)))
        | clear_value x)
    | with_reducible apply State.disarm_keep
    | with_reducible apply State.disableCarrier_keep
    | with_reducible apply State.dmaResetAll_keep
    | with_reducible apply State.panelOff_keep
    | with_reducible apply State.patchOff_keep
    | with_reducible apply State.laneOff_keep
    | with_reducible apply State.so_keep
    | with_reducible apply State.dropObject_keep
    | with_reducible refine Keep.ite_snd ?_ ?_
    | refine Keep.foldl ?_ (fun t x ht => ?_)
    | rfl)

theorem State.endMailbox_keep {wr : Nat} {s₀ : State} (s : State) (f : Nat) (hk : Keep wr s₀ s) (hs : 26843549748 &&& wr = 26843549748) :
    Keep wr s₀ (State.endMailbox s f) := by
  refine Keep.app hk ?_ hs
  unfold State.endMailbox
  repeat' (first
    | with_reducible exact Keep.refl _
    | with_reducible apply State.keepSessions_keep
    | rfl)

theorem State.holdUnits_keep {wr : Nat} {s₀ : State} (s : State) (p : Nat) (hk : Keep wr s₀ s) (hs : 4599567892 &&& wr = 4599567892) :
    Keep wr s₀ (State.holdUnits s p) := by
  refine Keep.app hk ?_ hs
  unfold State.holdUnits
  repeat' (first
    | with_reducible exact Keep.refl _
    | with_reducible assumption
    | (fail_if_no_progress (extract_lets +onlyGivenNames x); first
        | (with_reducible refine Keep.cut (t := x) ?_ ?_; (on_goal 1 => (unfold x; clear x)); (on_goal 2 => (intro hx; clear_value x)))
        | clear_value x)
    | with_reducible apply State.wakeFor_keep
    | with_reducible apply State.holdEngine_keep
    | with_reducible apply State.setGus_keep
    | with_reducible apply State.resetHem_keep
    | with_reducible apply State.stopPatches_keep
    | refine Keep.foldl ?_ (fun t x ht => ?_)
    | rfl)

theorem State.resetPart_keep {wr : Nat} {s₀ : State} (s : State) (p : Nat) (hk : Keep wr s₀ s) (hs : 31465143926 &&& wr = 31465143926) :
    Keep wr s₀ (State.resetPart s p) := by
  refine Keep.app hk ?_ hs
  unfold State.resetPart
  repeat' (first
    | with_reducible exact Keep.refl _
    | with_reducible assumption
    | (fail_if_no_progress (extract_lets +onlyGivenNames x); first
        | (with_reducible refine Keep.cut (t := x) ?_ ?_; (on_goal 1 => (unfold x; clear x)); (on_goal 2 => (intro hx; clear_value x))))
    | with_reducible apply State.dmaResetAll_keep
    | with_reducible apply State.resetQueues_keep
    | with_reducible apply State.resetSymbols_keep
    | with_reducible apply State.startDone_keep
    | with_reducible apply State.holdUnits_keep
    | with_reducible apply State.abortAll_keep
    | with_reducible apply State.so_keep
    | with_reducible refine Keep.ite ?_ ?_
    | split
    | rfl)

theorem State.flrOne_keep {wr : Nat} {s₀ : State} (s : State) (f : Nat) (hk : Keep wr s₀ s) (hs : 31465144310 &&& wr = 31465144310) :
    Keep wr s₀ (State.flrOne s f) := by
  refine Keep.app hk ?_ hs
  unfold State.flrOne
  repeat' (first
    | with_reducible exact Keep.refl _
    | with_reducible assumption
    | (fail_if_no_progress (extract_lets +onlyGivenNames x); first
        | (with_reducible refine Keep.cut (t := x) ?_ ?_; (on_goal 1 => (unfold x; clear x)); (on_goal 2 => (intro hx; clear_value x))))
    | with_reducible apply State.endMailbox_keep
    | with_reducible apply State.clearFunction_keep
    | with_reducible apply State.resetPart_keep
    | with_reducible apply State.startPart_keep
    | with_reducible refine Keep.ite ?_ ?_
    | split
    | rfl)

theorem State.partCommand_keep {wr : Nat} {s₀ : State} (s : State) (session p : Nat) (f : State → Nat × State) (hk : Keep wr s₀ s) (hs : 4 &&& wr = 4)
    (hb_f : ∀ t, Keep wr s₀ t → Keep wr s₀ (f t).2) :
    Keep wr s₀ (State.partCommand s session p f) := by
  unfold State.partCommand
  repeat' (first
    | with_reducible assumption
    | (fail_if_no_progress (extract_lets +onlyGivenNames x); first
        | (with_reducible refine Keep.cut (t := x.2) ?_ ?_; (on_goal 1 => (unfold x; clear x)); (on_goal 2 => (intro hx; clear_value x))))
    | with_reducible apply hb_f
    | with_reducible apply State.send_keep
    | with_reducible refine Keep.ite_snd ?_ ?_
    | split)

theorem State.releaseUnits_keep {wr : Nat} {s₀ : State} (s : State) (p : Nat) (hk : Keep wr s₀ s) (hs : 16400 &&& wr = 16400) :
    Keep wr s₀ (State.releaseUnits s p) := by
  refine Keep.app hk ?_ hs
  unfold State.releaseUnits
  repeat' (first
    | with_reducible exact Keep.refl _
    | with_reducible assumption
    | (fail_if_no_progress (extract_lets +onlyGivenNames x); first
        | (with_reducible refine Keep.cut (t := x) ?_ ?_; (on_goal 1 => (unfold x; clear x)); (on_goal 2 => (intro hx; clear_value x))))
    | with_reducible apply State.releaseHeld_keep
    | with_reducible apply State.startPatches_keep
    | refine Keep.foldl ?_ (fun t x ht => ?_)
    | rfl)

theorem execPartCreate_keep (session part : Nat) (s : State) : KeepOut 10200547364 s (execPartCreate session part s) := by
  unfold execPartCreate
  repeat' (first
    | with_reducible exact Keep.refl _
    | with_reducible assumption
    | (intro _)
    | with_reducible refine Keep.out ?_
    | with_reducible apply State.partCommand_keep
    | with_reducible apply State.createPart_keep
    | rfl)

theorem execPartStart_keep (session part : Nat) (s : State) : KeepOut 9932112436 s (execPartStart session part s) := by
  unfold execPartStart
  repeat' (first
    | with_reducible exact Keep.refl _
    | with_reducible assumption
    | with_reducible refine Keep.out ?_
    | (fail_if_no_progress (extract_lets +onlyGivenNames x); first
        | (with_reducible refine Keep.cut (t := x.2) ?_ ?_; (on_goal 1 => (unfold x; clear x)); (on_goal 2 => (intro hx; clear_value x))))
    | with_reducible apply State.startPart_keep
    | with_reducible apply State.send_keep
    | with_reducible refine Keep.ite ?_ ?_
    | with_reducible refine Keep.ite_snd ?_ ?_
    | split
    | rfl)

theorem execPartUnitsReady_keep (part : Nat) (s : State) : KeepOut 100720148086 s (execPartUnitsReady part s) := by
  unfold execPartUnitsReady
  repeat' (first
    | with_reducible exact Keep.refl _
    | with_reducible assumption
    | (intro _)
    | with_reducible refine Keep.out ?_
    | (fail_if_no_progress (extract_lets +onlyGivenNames x); first
        | (with_reducible refine Keep.cutF1 (f := x) ?_ ?_; (on_goal 1 => (unfold x; clear x)); (on_goal 2 => (intro hg; clear_value x))))
    | with_reducible apply hg
    | with_reducible apply State.startDone_keep
    | with_reducible apply State.so_keep
    | with_reducible apply State.releaseUnits_keep
    | with_reducible apply State.mbFraming_keep
    | with_reducible apply State.mbZeroFill_keep
    | with_reducible apply State.mbEngines_keep
    | with_reducible apply State.mbEnable_keep
    | with_reducible refine Keep.ite ?_ ?_
    | split
    | with_reducible refine Keep.of_pair (by assumption) ?_
    | rfl)

theorem execPartStop_keep (session part : Nat) (s : State) : KeepOut 14233575030 s (execPartStop session part s) := by
  unfold execPartStop
  repeat' (first
    | with_reducible exact Keep.refl _
    | with_reducible assumption
    | (intro _)
    | with_reducible refine Keep.out ?_
    | with_reducible apply State.partCommand_keep
    | with_reducible apply State.stopPart_keep
    | rfl)

theorem execPartDrainDone_keep (part : Nat) (s : State) : KeepOut 14263244340 s (execPartDrainDone part s) := by
  unfold execPartDrainDone
  repeat' (first
    | with_reducible exact Keep.refl _
    | with_reducible refine Keep.out ?_
    | with_reducible apply State.so_keep
    | with_reducible apply State.holdUnits_keep
    | with_reducible refine Keep.ite ?_ ?_
    | rfl)

theorem execPartDelete_keep (session part : Nat) (s : State) : KeepOut 14284488310 s (execPartDelete session part s) := by
  unfold execPartDelete
  repeat' (first
    | with_reducible exact Keep.refl _
    | with_reducible assumption
    | (intro _)
    | with_reducible refine Keep.out ?_
    | with_reducible apply State.partCommand_keep
    | with_reducible apply State.deletePart_keep
    | rfl)

theorem execPartitionReset_keep (part : Nat) (s : State) : KeepOut 31465143926 s (execPartitionReset part s) := by
  unfold execPartitionReset
  repeat' (first
    | with_reducible exact Keep.refl _
    | with_reducible refine Keep.out ?_
    | with_reducible apply State.resetPart_keep
    | with_reducible refine Keep.ite ?_ ?_
    | rfl)

theorem execFunctionLevelReset_keep (function : Nat) (s : State) : KeepOut 31465144310 s (execFunctionLevelReset function s) := by
  unfold execFunctionLevelReset
  repeat' (first
    | with_reducible exact Keep.refl _
    | with_reducible assumption
    | with_reducible refine Keep.out ?_
    | with_reducible apply State.flrOne_keep
    | split
    | refine Keep.foldl ?_ (fun t x ht => ?_)
    | rfl)

theorem execHotReset_keep (s : State) : KeepOut 31465144310 s (execHotReset s) := by
  unfold execHotReset
  repeat' (first
    | with_reducible exact Keep.refl _
    | with_reducible assumption
    | with_reducible refine Keep.out ?_
    | with_reducible apply State.flrOne_keep
    | refine Keep.foldl ?_ (fun t x ht => ?_)
    | rfl)

end Sys2Proof.Machine
end

