-- ==== Sys2Proof/Laws/KeepWarm.lean ====
section
/-!
SUPPORT. The parts of the state that the operations of Machine/Warm.lean may write.
-/

namespace Sys2Proof.Machine

open Reg Ob

theorem State.abortStarts_keep {wr : Nat} {s₀ : State} (s : State) (hk : Keep wr s₀ s) (hs : 17181970452 &&& wr = 17181970452) :
    Keep wr s₀ (State.abortStarts s) := by
  refine Keep.app hk ?_ hs
  unfold State.abortStarts
  repeat' (first
    | with_reducible exact Keep.refl _
    | with_reducible assumption
    | with_reducible apply State.startDone_keep
    | with_reducible refine Keep.ite ?_ ?_
    | refine Keep.foldl ?_ (fun t x ht => ?_)
    | rfl)

theorem State.warmCommand_keep {wr : Nat} {s₀ : State} (s : State) (admin : Bool) (v : Nat) (hk : Keep wr s₀ s) (hs : 4294967296 &&& wr = 4294967296) :
    Keep wr s₀ (State.warmCommand s admin v).2 := by
  refine Keep.app hk ?_ hs
  unfold State.warmCommand
  repeat' (first
    | with_reducible exact Keep.refl _
    | (fail_if_no_progress (extract_lets +onlyGivenNames x); first
        | clear_value x)
    | with_reducible refine Keep.ite_snd ?_ ?_
    | dsimp -zeta only
    | fail_if_no_progress (with_reducible refine Keep.set_health (by decide) ?_))

theorem State.leaveBolt_keep {wr : Nat} {s₀ : State} (s : State) (hk : Keep wr s₀ s) (hs : 9663676464 &&& wr = 9663676464) :
    Keep wr s₀ (State.leaveBolt s) := by
  refine Keep.app hk ?_ hs
  unfold State.leaveBolt
  repeat' (first
    | with_reducible exact Keep.refl _
    | with_reducible apply State.standAlone_keep
    | with_reducible refine Keep.ite ?_ ?_
    | rfl)

theorem State.stopAll_keep {wr : Nat} {s₀ : State} (s : State) (hk : Keep wr s₀ s) (hs : 9663676448 &&& wr = 9663676448) :
    Keep wr s₀ (State.stopAll s) := by
  refine Keep.app hk ?_ hs
  unfold State.stopAll
  repeat' (first
    | with_reducible exact Keep.refl _
    | with_reducible assumption
    | with_reducible apply State.so_keep
    | with_reducible refine Keep.ite ?_ ?_
    | refine Keep.foldl ?_ (fun t x ht => ?_)
    | rfl)

theorem State.warmKept_keep {wr : Nat} {s₀ : State} (s : State) (hk : Keep wr s₀ s)
    (hs : 75564580240 &&& wr = 75564580240) : Keep wr s₀ s.warmKept := by
  refine Keep.app hk ?_ hs
  unfold State.warmKept
  exact ⟨fun k hk => by cases k <;> first | exact absurd hk (by decide) | exact rfl, id⟩

theorem State.warmReturns_keep {wr : Nat} {s₀ : State} (s : State) (l : List (Nat × Nat × Nat)) (hk : Keep wr s₀ s) (hs : 13958643760 &&& wr = 13958643760) :
    Keep wr s₀ (State.warmReturns s l) := by
  refine Keep.app hk ?_ hs
  unfold State.warmReturns
  repeat' (first
    | with_reducible exact Keep.refl _
    | with_reducible assumption
    | (fail_if_no_progress (extract_lets +onlyGivenNames x); first
        | (with_reducible refine Keep.cut (t := x) ?_ ?_; (on_goal 1 => (unfold x; clear x)); (on_goal 2 => (intro hx; clear_value x)))
        | clear_value x)
    | with_reducible apply State.rejoin_keep
    | refine Keep.foldl ?_ (fun t x ht => ?_)
    | rfl
    | fail_if_no_progress (with_reducible refine Keep.set_health (by decide) ?_))

theorem State.warmReset_keep {wr : Nat} {s₀ : State} (s : State) (cause : Nat) (link : Nat × Nat × Nat × Nat × Nat) (hk : Keep wr s₀ s) (hs : 102408125940 &&& wr = 102408125940) :
    Keep wr s₀ (State.warmReset s cause link) := by
  refine Keep.app hk ?_ hs
  unfold State.warmReset
  repeat' (first
    | with_reducible exact Keep.refl _
    | with_reducible assumption
    | (fail_if_no_progress (extract_lets +onlyGivenNames x); first
        | (with_reducible refine Keep.cut (t := x) ?_ ?_; (on_goal 1 => (unfold x; clear x)); (on_goal 2 => (intro hx; clear_value x)))
        | clear_value x)
    | with_reducible apply State.sdom_keep
    | with_reducible apply State.setPps_keep
    | with_reducible apply State.warmReturns_keep
    | with_reducible apply State.reapplyAll_keep
    | with_reducible apply State.warmKept_keep
    | with_reducible apply State.abortStarts_keep
    | with_reducible apply State.refreshDevice_keep
    | with_reducible apply State.restoreScrub_keep
    | with_reducible apply State.so_keep
    | with_reducible apply State.leaveBolt_keep
    | with_reducible apply State.stopAll_keep
    | with_reducible apply State.sf_keep
    | with_reducible apply State.raise_keep
    | with_reducible apply State.trainLink_keep
    | rfl)

theorem execFaultWarmResetCommand_keep (session value : Nat) (s : State) : KeepOut 4294967300 s (execFaultWarmResetCommand session value s) := by
  unfold execFaultWarmResetCommand
  repeat' (first
    | with_reducible exact Keep.refl _
    | with_reducible assumption
    | with_reducible refine Keep.out ?_
    | (fail_if_no_progress (extract_lets +onlyGivenNames x); first
        | (with_reducible refine Keep.cut (t := x.2) ?_ ?_; (on_goal 1 => (unfold x; clear x)); (on_goal 2 => (intro hx; clear_value x))))
    | with_reducible apply State.warmCommand_keep
    | with_reducible apply State.send_keep
    | rfl)

theorem execWarmNAssert_keep (s : State) : KeepOut 4294967296 s (execWarmNAssert s) := by
  unfold execWarmNAssert
  repeat' (first
    | with_reducible exact Keep.refl _
    | with_reducible refine Keep.out ?_
    | (fail_if_no_progress (extract_lets +onlyGivenNames x); first
        | clear_value x)
    | with_reducible refine Keep.ite ?_ ?_
    | fail_if_no_progress (with_reducible refine Keep.set_health (by decide) ?_))

theorem execWarmReset_keep (cause : Nat) (link : Nat × Nat × Nat × Nat × Nat) (s : State) : KeepOut 102408125940 s (execWarmReset cause link s) := by
  unfold execWarmReset
  repeat' (first
    | with_reducible exact Keep.refl _
    | with_reducible refine Keep.out ?_
    | with_reducible apply State.warmReset_keep
    | with_reducible refine Keep.ite ?_ ?_
    | rfl)

end Sys2Proof.Machine
end

