-- ==== Sys2Proof/Laws/KeepObjects.lean ====
section
/-!
SUPPORT. The parts of the state that the operations of Machine/Objects.lean may write.
-/

namespace Sys2Proof.Machine

open Reg Ob

theorem State.setClientKeys_keep {wr : Nat} {s₀ : State} (s : State) (l : List Byte) (hk : Keep wr s₀ s) (hs : 26843549812 &&& wr = 26843549812) :
    Keep wr s₀ (State.setClientKeys s l) := by
  refine Keep.app hk ?_ hs
  unfold State.setClientKeys
  repeat' (first
    | with_reducible exact Keep.refl _
    | with_reducible assumption
    | (fail_if_no_progress (extract_lets +onlyGivenNames x); first
        | (with_reducible refine Keep.cut (t := x) ?_ ?_; (on_goal 1 => (unfold x; clear x)); (on_goal 2 => (intro hx; clear_value x)))
        | clear_value x)
    | with_reducible apply State.sdom_keep
    | with_reducible apply State.keepSessions_keep
    | rfl)

theorem State.applyLong_keep {wr : Nat} {s₀ : State} (s : State) (x : Session) (o : Obj) (i : Nat) (l : List Byte) (y : Sensed) (hk : Keep wr s₀ s) (hs : 32117955190 &&& wr = 32117955190) :
    Keep wr s₀ (State.applyLong s x o i l y).2 := by
  refine Keep.app hk ?_ hs
  unfold State.applyLong
  repeat' (first
    | with_reducible exact Keep.refl _
    | (fail_if_no_progress (extract_lets +onlyGivenNames x); first
        | clear_value x)
    | with_reducible apply State.setClientKeys_keep
    | with_reducible apply State.attestWrite_keep
    | with_reducible apply State.keyWrite_keep
    | with_reducible apply State.fuseKey_keep
    | with_reducible apply State.imageLoad_keep
    | with_reducible apply State.quiltAuth_keep
    | with_reducible apply State.diagUnlock_keep
    | with_reducible apply State.sdom_keep
    | with_reducible refine Keep.ite_snd ?_ ?_
    | rfl)

theorem State.partCommandValue_keep {wr : Nat} {s₀ : State} (s : State) (p v : Nat) (hk : Keep wr s₀ s) (hs : 14821359222 &&& wr = 14821359222) :
    Keep wr s₀ (State.partCommandValue s p v).2 := by
  refine Keep.app hk ?_ hs
  unfold State.partCommandValue
  repeat' (first
    | with_reducible exact Keep.refl _
    | with_reducible assumption
    | (fail_if_no_progress (extract_lets +onlyGivenNames x); first
        | (with_reducible refine Keep.cut (t := x.2) ?_ ?_; (on_goal 1 => (unfold x; clear x)); (on_goal 2 => (intro hx; clear_value x))))
    | with_reducible apply State.createPart_keep
    | with_reducible apply State.startPart_keep
    | with_reducible apply State.stopPart_keep
    | with_reducible apply State.deletePart_keep
    | split
    | rfl)

theorem State.boltCommandValue_keep {wr : Nat} {s₀ : State} (s : State) (v : Nat) (y : Sensed) (hk : Keep wr s₀ s) (hs : 9665773600 &&& wr = 9665773600) :
    Keep wr s₀ (State.boltCommandValue s v y).2 := by
  refine Keep.app hk ?_ hs
  unfold State.boltCommandValue
  repeat' (first
    | with_reducible exact Keep.refl _
    | (fail_if_no_progress (extract_lets +onlyGivenNames x); first
        | clear_value x)
    | with_reducible apply State.joinCommand_keep
    | with_reducible apply State.leaveCommand_keep
    | with_reducible apply State.republishCommand_keep
    | with_reducible refine Keep.ite_snd ?_ ?_
    | split
    | rfl)

theorem State.deviceCommandValue_keep {wr : Nat} {s₀ : State} (s : State) (v : Nat) (y : Sensed) (hk : Keep wr s₀ s) (hs : 549755813878 &&& wr = 549755813878) :
    Keep wr s₀ (State.deviceCommandValue s v y).2 := by
  refine Keep.app hk ?_ hs
  unfold State.deviceCommandValue
  repeat' (first
    | with_reducible exact Keep.refl _
    | with_reducible apply State.endHoldCommand_keep
    | with_reducible apply State.deepCommand_keep
    | with_reducible apply State.deviceOff_keep
    | split
    | rfl)

theorem State.fwCommandValue_keep {wr : Nat} {s₀ : State} (s : State) (v : Nat) (y : Sensed) (hk : Keep wr s₀ s) (hs : 31711107636 &&& wr = 31711107636) :
    Keep wr s₀ (State.fwCommandValue s v y).2 := by
  refine Keep.app hk ?_ hs
  unfold State.fwCommandValue
  repeat' (first
    | with_reducible exact Keep.refl _
    | with_reducible apply State.fwSwitch_keep
    | with_reducible apply State.fwConfirm_keep
    | with_reducible apply State.fwRevert_keep
    | with_reducible apply State.raiseFwSvn_keep
    | with_reducible apply State.raiseMbSvn_keep
    | split
    | rfl)

theorem State.writeChannels_keep {wr : Nat} {s₀ : State} (s : State) (o : Obj) (i v : Nat) (hk : Keep wr s₀ s) (hs : 14283782774 &&& wr = 14283782774) :
    Keep wr s₀ (State.writeChannels s o i v) := by
  refine Keep.app hk ?_ hs
  unfold State.writeChannels
  repeat' (first
    | with_reducible exact Keep.refl _
    | (fail_if_no_progress (extract_lets +onlyGivenNames x); first
        | (with_reducible refine Keep.cut (t := x) ?_ ?_; (on_goal 1 => (unfold x; clear x)); (on_goal 2 => (intro hx; clear_value x))))
    | with_reducible apply State.so_keep
    | with_reducible apply State.dmaResetThese_keep
    | rfl)

theorem State.writeResource_keep {wr : Nat} {s₀ : State} (s : State) (o : Obj) (i v : Nat) (hk : Keep wr s₀ s) (hs : 14284488310 &&& wr = 14284488310) :
    Keep wr s₀ (State.writeResource s o i v) := by
  refine Keep.app hk ?_ hs
  unfold State.writeResource
  repeat' (first
    | with_reducible exact Keep.refl _
    | with_reducible assumption
    | (fail_if_no_progress (extract_lets +onlyGivenNames x); first
        | (with_reducible refine Keep.cut (t := x) ?_ ?_; (on_goal 1 => (unfold x; clear x)); (on_goal 2 => (intro hx; clear_value x)))
        | clear_value x)
    | with_reducible apply State.writeChannels_keep
    | with_reducible apply State.so_keep
    | with_reducible apply State.panelOff_keep
    | with_reducible apply State.patchOff_keep
    | with_reducible apply State.laneOff_keep
    | with_reducible refine Keep.ite ?_ ?_
    | refine Keep.foldl ?_ (fun t x ht => ?_)
    | rfl)

theorem State.applyNumber_keep {wr : Nat} {s₀ : State} (s : State) (x : Session) (o : Obj) (i v : Nat) (y : Sensed) (hk : Keep wr s₀ s) (hs : 549755813878 &&& wr = 549755813878) :
    Keep wr s₀ (State.applyNumber s x o i v y).2 := by
  refine Keep.app hk ?_ hs
  unfold State.applyNumber
  repeat' (first
    | with_reducible exact Keep.refl _
    | with_reducible assumption
    | (intro _)
    | (fail_if_no_progress (extract_lets +onlyGivenNames x); first
        | (with_reducible refine Keep.cutF1p (f := x) ?_ ?_; (on_goal 1 => (unfold x; clear x)); (on_goal 2 => (intro hg; clear_value x)))
        | clear_value x)
    | with_reducible apply hg
    | with_reducible apply State.partCommandValue_keep
    | with_reducible apply State.writeSource_keep
    | with_reducible apply State.writeHostState_keep
    | with_reducible apply State.retireLane_keep
    | with_reducible apply State.degradeRank_keep
    | with_reducible apply State.boltCommandValue_keep
    | with_reducible apply State.clearStore_keep
    | with_reducible apply State.deviceCommandValue_keep
    | with_reducible apply State.refreshDevice_keep
    | with_reducible apply State.evaluateGroup_keep
    | with_reducible apply State.so_keep
    | with_reducible apply State.setScrub_keep
    | with_reducible apply State.faultRetire_keep
    | with_reducible apply State.faultReinstate_keep
    | with_reducible apply State.warmCommand_keep
    | with_reducible apply State.fwUpdate_keep
    | with_reducible apply State.fwCommandValue_keep
    | with_reducible apply State.fuseRevoke_keep
    | with_reducible apply State.fusePolicy_keep
    | with_reducible apply State.framingStore_keep
    | with_reducible apply State.writeResource_keep
    | with_reducible refine Keep.ite_snd ?_ ?_
    | rfl)

theorem State.applyRws_keep {wr : Nat} {s₀ : State} (s : State) (e : Nat × Nat × Nat) (hk : Keep wr s₀ s) (hs : 1073741856 &&& wr = 1073741856) :
    Keep wr s₀ (State.applyRws s e) := by
  refine Keep.app hk ?_ hs
  unfold State.applyRws
  repeat' (first
    | with_reducible exact Keep.refl _
    | with_reducible assumption
    | (fail_if_no_progress (extract_lets +onlyGivenNames x); first
        | (with_reducible refine Keep.cut (t := x) ?_ ?_; (on_goal 1 => (unfold x; clear x)); (on_goal 2 => (intro hx; clear_value x)))
        | clear_value x)
    | with_reducible refine Keep.ite ?_ ?_
    | fail_if_no_progress (with_reducible refine Keep.set_objs (by decide) ?_)
    | fail_if_no_progress (with_reducible refine Keep.set_changes (by decide) ?_))

theorem State.deferNumber_keep {wr : Nat} {s₀ : State} (s : State) (o : Obj) (i v : Nat) (hk : Keep wr s₀ s) (hs : 10737418272 &&& wr = 10737418272) :
    Keep wr s₀ (State.deferNumber s o i v) := by
  refine Keep.app hk ?_ hs
  unfold State.deferNumber
  repeat' (first
    | with_reducible exact Keep.refl _
    | with_reducible assumption
    | (fail_if_no_progress (extract_lets +onlyGivenNames x); first
        | (with_reducible refine Keep.cut (t := x) ?_ ?_; (on_goal 1 => (unfold x; clear x)); (on_goal 2 => (intro hx; clear_value x))))
    | with_reducible apply State.commit_keep
    | rfl
    | fail_if_no_progress (with_reducible refine Keep.set_rws (by decide) ?_))

theorem State.writeLong_keep {wr : Nat} {s₀ : State} (s : State) (x : Session) (o : Obj) (i : Nat) (l : List Byte) (y : Sensed) (hk : Keep wr s₀ s) (hs : 32117955190 &&& wr = 32117955190) :
    Keep wr s₀ (State.writeLong s x o i l y).2 := by
  refine Keep.app hk ?_ hs
  unfold State.writeLong
  repeat' (first
    | with_reducible exact Keep.refl _
    | with_reducible assumption
    | (fail_if_no_progress (extract_lets +onlyGivenNames x); first
        | (with_reducible refine Keep.cut (t := x.2) ?_ ?_; (on_goal 1 => (unfold x; clear x)); (on_goal 2 => (intro hx; clear_value x))))
    | with_reducible apply State.applyLong_keep
    | with_reducible refine Keep.ite_snd ?_ ?_
    | split
    | rfl)

theorem State.writeNumber_keep {wr : Nat} {s₀ : State} (s : State) (x : Session) (o : Obj) (i v : Nat) (y : Sensed) (hk : Keep wr s₀ s) (hs : 549755813878 &&& wr = 549755813878) :
    Keep wr s₀ (State.writeNumber s x o i v y).2 := by
  refine Keep.app hk ?_ hs
  unfold State.writeNumber
  repeat' (first
    | with_reducible exact Keep.refl _
    | with_reducible assumption
    | (fail_if_no_progress (extract_lets +onlyGivenNames x); first
        | (with_reducible refine Keep.cut (t := x.2) ?_ ?_; (on_goal 1 => (unfold x; clear x)); (on_goal 2 => (intro hx; clear_value x))))
    | with_reducible apply State.deferNumber_keep
    | with_reducible apply State.applyNumber_keep
    | with_reducible refine Keep.ite_snd ?_ ?_
    | split
    | rfl)

theorem execRwsApply_keep (s : State) : KeepOut 3221225504 s (execRwsApply s) := by
  unfold execRwsApply
  repeat' (first
    | with_reducible exact Keep.refl _
    | with_reducible assumption
    | with_reducible refine Keep.out ?_
    | (fail_if_no_progress (extract_lets +onlyGivenNames x); first
        | (with_reducible refine Keep.cut (t := x) ?_ ?_; (on_goal 1 => (unfold x; clear x)); (on_goal 2 => (intro hx; clear_value x)))
        | clear_value x)
    | with_reducible apply State.applyRws_keep
    | refine Keep.foldl ?_ (fun t x ht => ?_)
    | rfl
    | fail_if_no_progress (with_reducible refine Keep.set_rws (by decide) ?_))

end Sys2Proof.Machine
end

