-- ==== Sys2Proof/Laws/KeepSwatch.lean ====
section
/-!
SUPPORT. The parts of the state that the operations of Machine/Swatch.lean may write.
-/

namespace Sys2Proof.Machine

open Reg Ob

theorem State.closeSession_keep {wr : Nat} {s₀ : State} (s : State) (id : Nat) (hk : Keep wr s₀ s) (hs : 26843549748 &&& wr = 26843549748) :
    Keep wr s₀ (State.closeSession s id) := by
  refine Keep.app hk ?_ hs
  unfold State.closeSession
  repeat' (first
    | with_reducible exact Keep.refl _
    | with_reducible apply State.keepSessions_keep
    | rfl)

theorem State.closeRequest_keep {wr : Nat} {s₀ : State} (s : State) (x : Session) (b : List Byte) (hk : Keep wr s₀ s) (hs : 26843549748 &&& wr = 26843549748) :
    Keep wr s₀ (State.closeRequest s x b).2 := by
  refine Keep.app hk ?_ hs
  unfold State.closeRequest
  repeat' (first
    | with_reducible exact Keep.refl _
    | with_reducible apply State.closeSession_keep
    | with_reducible refine Keep.ite_snd ?_ ?_
    | rfl)

theorem State.countSessions_keep {wr : Nat} {s₀ : State} (s : State) (hk : Keep wr s₀ s) (hs : 9663676448 &&& wr = 9663676448) :
    Keep wr s₀ (State.countSessions s) := by
  refine Keep.app hk ?_ hs
  unfold State.countSessions
  repeat' (first
    | with_reducible exact Keep.refl _
    | with_reducible apply State.so_keep
    | rfl)

theorem State.writeMbxCtrl_keep {wr : Nat} {s₀ : State} (s : State) (u f v : Nat) (hk : Keep wr s₀ s) (hs : 4112 &&& wr = 4112) :
    Keep wr s₀ (State.writeMbxCtrl s u f v) := by
  refine Keep.app hk ?_ hs
  unfold State.writeMbxCtrl
  repeat' (first
    | with_reducible exact Keep.refl _
    | with_reducible assumption
    | (fail_if_no_progress (extract_lets +onlyGivenNames x); first
        | (with_reducible refine Keep.cut (t := x) ?_ ?_; (on_goal 1 => (unfold x; clear x)); (on_goal 2 => (intro hx; clear_value x)))
        | clear_value x)
    | with_reducible apply State.sf_keep
    | with_reducible apply State.setMailbox_keep
    | with_reducible refine Keep.ite ?_ ?_
    | rfl)

theorem State.describeRequest_keep {wr : Nat} {s₀ : State} (s : State) (x : Session) (b : List Byte) (hk : Keep wr s₀ s) (hs : 0 &&& wr = 0) :
    Keep wr s₀ (State.describeRequest s x b).2 := by
  refine Keep.app hk ?_ hs
  unfold State.describeRequest
  repeat' (first
    | with_reducible exact Keep.refl _
    | (fail_if_no_progress (extract_lets +onlyGivenNames x); first
        | clear_value x)
    | with_reducible refine Keep.ite_snd ?_ ?_
    | split)

theorem State.discard_keep {wr : Nat} {s₀ : State} (s : State) (hk : Keep wr s₀ s) (hs : 9663676448 &&& wr = 9663676448) :
    Keep wr s₀ (State.discard s) := by
  refine Keep.app hk ?_ hs
  unfold State.discard
  repeat' (first
    | with_reducible exact Keep.refl _
    | with_reducible apply State.inco_keep
    | rfl)

theorem State.proofRequest_keep {wr : Nat} {s₀ : State} (s : State) (x : Session) (b : List Byte) (hk : Keep wr s₀ s) (hs : 26843549748 &&& wr = 26843549748) :
    Keep wr s₀ (State.proofRequest s x b).2 := by
  refine Keep.app hk ?_ hs
  unfold State.proofRequest
  repeat' (first
    | with_reducible exact Keep.refl _
    | with_reducible apply State.modSession_keep
    | with_reducible apply State.closeSession_keep
    | with_reducible refine Keep.ite_snd ?_ ?_
    | rfl)

theorem State.readValue_keep {wr : Nat} {s₀ : State} (s : State) (x : Session) (o : Obj) (i : Nat) (y : Sensed) (hk : Keep wr s₀ s) (hs : 8589934592 &&& wr = 8589934592) :
    Keep wr s₀ (State.readValue s x o i y).2 := by
  refine Keep.app hk ?_ hs
  unfold State.readValue
  repeat' (first
    | with_reducible exact Keep.refl _
    | with_reducible assumption
    | (fail_if_no_progress (extract_lets +onlyGivenNames x); first
        | (with_reducible refine Keep.cut (t := x.2) ?_ ?_; (on_goal 1 => (unfold x; clear x)); (on_goal 2 => (intro hx; clear_value x))))
    | with_reducible apply State.challenge_keep
    | with_reducible refine Keep.ite_snd ?_ ?_
    | split
    | rfl)

theorem State.readRequest_keep {wr : Nat} {s₀ : State} (s : State) (x : Session) (b : List Byte) (y : Sensed) (hk : Keep wr s₀ s) (hs : 8589934592 &&& wr = 8589934592) :
    Keep wr s₀ (State.readRequest s x b y).2 := by
  refine Keep.app hk ?_ hs
  unfold State.readRequest
  repeat' (first
    | with_reducible exact Keep.refl _
    | (fail_if_no_progress (extract_lets +onlyGivenNames x); first
        | clear_value x)
    | with_reducible apply State.readValue_keep
    | with_reducible refine Keep.ite_snd ?_ ?_
    | split
    | with_reducible refine Keep.of_pair (by assumption) ?_
    | rfl)

theorem State.writeSegment_keep {wr : Nat} {s₀ : State} (s : State) (x : Session) (o : Obj) (i off : Nat) (final : Bool) (data : List Byte) (y : Sensed) (hk : Keep wr s₀ s) (hs : 32117955190 &&& wr = 32117955190) :
    Keep wr s₀ (State.writeSegment s x o i off final data y).2 := by
  refine Keep.app hk ?_ hs
  unfold State.writeSegment
  repeat' (first
    | with_reducible exact Keep.refl _
    | with_reducible assumption
    | (fail_if_no_progress (extract_lets +onlyGivenNames x); first
        | (with_reducible refine Keep.cut (t := x) ?_ ?_; (on_goal 1 => (unfold x; clear x)); (on_goal 2 => (intro hx; clear_value x))))
    | with_reducible apply State.modSession_keep
    | with_reducible apply State.writeLong_keep
    | with_reducible refine Keep.ite_snd ?_ ?_
    | split
    | rfl)

theorem State.writeRequest_keep {wr : Nat} {s₀ : State} (s : State) (x : Session) (final : Bool) (b : List Byte) (y : Sensed) (hk : Keep wr s₀ s) (hs : 549755813878 &&& wr = 549755813878) :
    Keep wr s₀ (State.writeRequest s x final b y).2 := by
  refine Keep.app hk ?_ hs
  unfold State.writeRequest
  repeat' (first
    | with_reducible exact Keep.refl _
    | with_reducible assumption
    | (fail_if_no_progress (extract_lets +onlyGivenNames x); first
        | (with_reducible refine Keep.cut (t := x.2) ?_ ?_; (on_goal 1 => (unfold x; clear x)); (on_goal 2 => (intro hx; clear_value x)))
        | clear_value x)
    | with_reducible apply State.writeSegment_keep
    | with_reducible apply State.writeNumber_keep
    | with_reducible refine Keep.ite_snd ?_ ?_
    | split
    | rfl)

theorem State.subscribeRequest_keep {wr : Nat} {s₀ : State} (s : State) (x : Session) (b : List Byte) (hk : Keep wr s₀ s) (hs : 17179869184 &&& wr = 17179869184) :
    Keep wr s₀ (State.subscribeRequest s x b).2 := by
  refine Keep.app hk ?_ hs
  unfold State.subscribeRequest
  repeat' (first
    | with_reducible exact Keep.refl _
    | (fail_if_no_progress (extract_lets +onlyGivenNames x); first
        | clear_value x)
    | with_reducible apply State.modSession_keep
    | with_reducible refine Keep.ite_snd ?_ ?_
    | rfl)

theorem State.unsubscribeRequest_keep {wr : Nat} {s₀ : State} (s : State) (x : Session) (b : List Byte) (hk : Keep wr s₀ s) (hs : 17179869184 &&& wr = 17179869184) :
    Keep wr s₀ (State.unsubscribeRequest s x b).2 := by
  refine Keep.app hk ?_ hs
  unfold State.unsubscribeRequest
  repeat' (first
    | with_reducible exact Keep.refl _
    | (fail_if_no_progress (extract_lets +onlyGivenNames x); first
        | clear_value x)
    | with_reducible apply State.modSession_keep
    | with_reducible refine Keep.ite_snd ?_ ?_
    | rfl)

theorem State.pollRequest_keep {wr : Nat} {s₀ : State} (s : State) (x : Session) (b : List Byte) (hk : Keep wr s₀ s) (hs : 17179869184 &&& wr = 17179869184) :
    Keep wr s₀ (State.pollRequest s x b).2 := by
  refine Keep.app hk ?_ hs
  unfold State.pollRequest
  repeat' (first
    | with_reducible exact Keep.refl _
    | with_reducible apply State.modSession_keep
    | with_reducible refine Keep.ite_snd ?_ ?_
    | split
    | rfl)

theorem State.keepaliveRequest_keep {wr : Nat} {s₀ : State} (s : State) (b : List Byte) (hk : Keep wr s₀ s) (hs : 0 &&& wr = 0) :
    Keep wr s₀ (State.keepaliveRequest s b).2 := by
  refine Keep.app hk ?_ hs
  unfold State.keepaliveRequest
  repeat' (first
    | with_reducible exact Keep.refl _)

theorem State.serve1_keep {wr : Nat} {s₀ : State} (s : State) (x : Session) (m : List Byte) (y : Sensed) (hk : Keep wr s₀ s) (hs : 549755813878 &&& wr = 549755813878) :
    Keep wr s₀ (State.serve1 s x m y).2 := by
  refine Keep.app hk ?_ hs
  unfold State.serve1
  repeat' (first
    | with_reducible exact Keep.refl _
    | (fail_if_no_progress (extract_lets +onlyGivenNames x); first
        | clear_value x)
    | with_reducible apply State.proofRequest_keep
    | with_reducible apply State.readRequest_keep
    | with_reducible apply State.writeRequest_keep
    | with_reducible apply State.describeRequest_keep
    | with_reducible apply State.subscribeRequest_keep
    | with_reducible apply State.unsubscribeRequest_keep
    | with_reducible apply State.pollRequest_keep
    | with_reducible apply State.keepaliveRequest_keep
    | with_reducible apply State.closeRequest_keep
    | split
    | rfl)

theorem State.process_keep {wr : Nat} {s₀ : State} (s : State) (x : Session) (r : Reply) (m : List Byte) (y : Sensed) (hk : Keep wr s₀ s) (hs : 549755813878 &&& wr = 549755813878) :
    Keep wr s₀ (State.process s x r m y) := by
  refine Keep.app hk ?_ hs
  unfold State.process
  repeat' (first
    | with_reducible exact Keep.refl _
    | with_reducible assumption
    | (fail_if_no_progress (extract_lets +onlyGivenNames x); first
        | (with_reducible refine Keep.cut (t := x) ?_ ?_; (on_goal 1 => (unfold x; clear x)); (on_goal 2 => (intro hx; clear_value x)))
        | (with_reducible refine Keep.cut (t := x.2) ?_ ?_; (on_goal 1 => (unfold x; clear x)); (on_goal 2 => (intro hx; clear_value x)))
        | clear_value x)
    | with_reducible apply State.serve1_keep
    | with_reducible apply State.modSession_keep
    | with_reducible apply State.answer_keep
    | with_reducible refine Keep.ite ?_ ?_
    | rfl)

theorem State.drainHeld_rec {s₀ : State} (s : State) (id : Nat) (r : Reply) (n0 : Nat) (n1 : List Sensed) (hk : Keep 549755813878 s₀ s) :
    Keep 549755813878 s₀ (State.drainHeld s id r n0 n1) := by
  induction n0 generalizing s id r n1 with
  | zero =>
    unfold State.drainHeld
    repeat' (first
      | with_reducible assumption
      | with_reducible apply State.process_keep
      | with_reducible apply ih
      | split
      | rfl)
  | succ n ih =>
    unfold State.drainHeld
    repeat' (first
      | with_reducible assumption
      | with_reducible apply State.process_keep
      | with_reducible apply ih
      | split
      | rfl)

theorem State.drainHeld_keep {wr : Nat} {s₀ : State} (s : State) (id : Nat) (r : Reply) (n0 : Nat) (n1 : List Sensed) (hk : Keep wr s₀ s)
    (hs : 549755813878 &&& wr = 549755813878) : Keep wr s₀ (State.drainHeld s id r n0 n1) :=
  Keep.app hk (State.drainHeld_rec _ _ _ _ _ (Keep.refl _)) hs

theorem State.swatchFrame_keep {wr : Nat} {s₀ : State} (s : State) (frame : List Byte) (hk : Keep wr s₀ s) (hs : 9663676448 &&& wr = 9663676448) :
    Keep wr s₀ (State.swatchFrame s frame).2 := by
  refine Keep.app hk ?_ hs
  unfold State.swatchFrame
  repeat' (first
    | with_reducible exact Keep.refl _
    | (fail_if_no_progress (extract_lets +onlyGivenNames x); first
        | clear_value x)
    | with_reducible apply State.discard_keep
    | with_reducible refine Keep.ite_snd ?_ ?_
    | rfl)

theorem State.incoming_keep {wr : Nat} {s₀ : State} (s : State) (via : SwatchVia) (bytes : List Byte) (hk : Keep wr s₀ s) (hs : 9665773600 &&& wr = 9665773600) :
    Keep wr s₀ (State.incoming s via bytes).2 := by
  refine Keep.app hk ?_ hs
  unfold State.incoming
  repeat' (first
    | with_reducible exact Keep.refl _
    | (fail_if_no_progress (extract_lets +onlyGivenNames x); first
        | clear_value x)
    | with_reducible apply State.swatchFrame_keep
    | with_reducible apply State.setSeam_keep
    | with_reducible refine Keep.ite_snd ?_ ?_
    | split
    | with_reducible refine Keep.of_pair (by assumption) ?_
    | rfl)

theorem State.notify_keep {wr : Nat} {s₀ : State} (s : State) (x : Session) (body : List Byte) (hk : Keep wr s₀ s) (hs : 17181970452 &&& wr = 17181970452) :
    Keep wr s₀ (State.notify s x body) := by
  refine Keep.app hk ?_ hs
  unfold State.notify
  repeat' (first
    | with_reducible exact Keep.refl _
    | with_reducible apply State.modSession_keep
    | with_reducible apply State.answer_keep
    | split
    | rfl)

theorem State.openRequest_keep {wr : Nat} {s₀ : State} (s : State) (m : List Byte) (r : Reply) (y : Sensed) (hk : Keep wr s₀ s) (hs : 31140679732 &&& wr = 31140679732) :
    Keep wr s₀ (State.openRequest s m r y) := by
  refine Keep.app hk ?_ hs
  unfold State.openRequest
  repeat' (first
    | with_reducible exact Keep.refl _
    | with_reducible assumption
    | (intro _)
    | (fail_if_no_progress (extract_lets +onlyGivenNames x); first
        | (with_reducible refine Keep.cut (t := x) ?_ ?_; (on_goal 1 => (unfold x; clear x)); (on_goal 2 => (intro hx; clear_value x)))
        | (with_reducible refine Keep.cutF3 (f := x) ?_ ?_; (on_goal 1 => (unfold x; clear x)); (on_goal 2 => (intro hg; clear_value x)))
        | clear_value x)
    | with_reducible apply hg
    | with_reducible apply State.answer_keep
    | with_reducible apply State.raise_keep
    | with_reducible apply State.countSessions_keep
    | with_reducible refine Keep.ite ?_ ?_
    | rfl
    | fail_if_no_progress (with_reducible refine Keep.set_sessions (by decide) ?_))

theorem State.tagFailed_keep {wr : Nat} {s₀ : State} (s : State) (x : Session) (hk : Keep wr s₀ s) (hs : 31140679732 &&& wr = 31140679732) :
    Keep wr s₀ (State.tagFailed s x) := by
  refine Keep.app hk ?_ hs
  unfold State.tagFailed
  repeat' (first
    | with_reducible exact Keep.refl _
    | with_reducible assumption
    | (fail_if_no_progress (extract_lets +onlyGivenNames x); first
        | (with_reducible refine Keep.cut (t := x) ?_ ?_; (on_goal 1 => (unfold x; clear x)); (on_goal 2 => (intro hx; clear_value x))))
    | with_reducible apply State.modSession_keep
    | with_reducible apply State.inco_keep
    | with_reducible apply State.raise_keep
    | with_reducible apply State.closeSession_keep
    | with_reducible refine Keep.ite ?_ ?_
    | rfl)

theorem State.sequence_keep {wr : Nat} {s₀ : State} (s : State) (x : Session) (r : Reply) (m : List Byte) (y : List Sensed) (hk : Keep wr s₀ s) (hs : 549755813878 &&& wr = 549755813878) :
    Keep wr s₀ (State.sequence s x r m y) := by
  refine Keep.app hk ?_ hs
  unfold State.sequence
  repeat' (first
    | with_reducible exact Keep.refl _
    | (fail_if_no_progress (extract_lets +onlyGivenNames x); first
        | clear_value x)
    | with_reducible apply State.drainHeld_keep
    | with_reducible apply State.process_keep
    | with_reducible apply State.modSession_keep
    | with_reducible apply State.answer_keep
    | with_reducible refine Keep.ite ?_ ?_
    | split
    | rfl)

theorem State.request_keep {wr : Nat} {s₀ : State} (s : State) (m : List Byte) (r : Reply) (y : List Sensed) (hk : Keep wr s₀ s) (hs : 549755813878 &&& wr = 549755813878) :
    Keep wr s₀ (State.request s m r y) := by
  refine Keep.app hk ?_ hs
  unfold State.request
  repeat' (first
    | with_reducible exact Keep.refl _
    | (fail_if_no_progress (extract_lets +onlyGivenNames x); first
        | clear_value x)
    | with_reducible apply State.openRequest_keep
    | with_reducible apply State.tagFailed_keep
    | with_reducible apply State.sequence_keep
    | with_reducible apply State.setSession_keep
    | with_reducible refine Keep.ite ?_ ?_
    | split
    | rfl)

theorem State.receive_keep {wr : Nat} {s₀ : State} (s : State) (t : Nat) (via : SwatchVia) (bytes : List Byte) (y : List Sensed) (hk : Keep wr s₀ s) (hs : 549755813878 &&& wr = 549755813878) :
    Keep wr s₀ (State.receive s t via bytes y) := by
  refine Keep.app hk ?_ hs
  unfold State.receive
  repeat' (first
    | with_reducible exact Keep.refl _
    | with_reducible assumption
    | (fail_if_no_progress (extract_lets +onlyGivenNames x); first
        | (with_reducible refine Keep.cut (t := x) ?_ ?_; (on_goal 1 => (unfold x; clear x)); (on_goal 2 => (intro hx; clear_value x))))
    | with_reducible apply State.incoming_keep
    | with_reducible apply State.discard_keep
    | with_reducible apply State.unanswered_keep
    | with_reducible apply State.request_keep
    | with_reducible refine Keep.ite ?_ ?_
    | split
    | with_reducible refine Keep.of_pair (by assumption) ?_
    | rfl)

theorem State.relayReply_keep {wr : Nat} {s₀ : State} (s : State) (d : Nat) (m : List Byte) (hk : Keep wr s₀ s) (hs : 34361839636 &&& wr = 34361839636) :
    Keep wr s₀ (State.relayReply s d m) := by
  refine Keep.app hk ?_ hs
  unfold State.relayReply
  repeat' (first
    | with_reducible exact Keep.refl _
    | with_reducible assumption
    | (fail_if_no_progress (extract_lets +onlyGivenNames x); first
        | (with_reducible refine Keep.cut (t := x) ?_ ?_; (on_goal 1 => (unfold x; clear x)); (on_goal 2 => (intro hx; clear_value x))))
    | with_reducible apply State.mailboxDone_keep
    | with_reducible apply State.answer_keep
    | with_reducible refine Keep.ite ?_ ?_
    | split
    | rfl
    | fail_if_no_progress (with_reducible refine Keep.set_relays (by decide) ?_))

theorem State.relayRequest_keep {wr : Nat} {s₀ : State} (s : State) (m : List Byte) (r : Reply) (hk : Keep wr s₀ s) (hs : 34361839636 &&& wr = 34361839636) :
    Keep wr s₀ (State.relayRequest s m r) := by
  refine Keep.app hk ?_ hs
  unfold State.relayRequest
  repeat' (first
    | with_reducible exact Keep.refl _
    | (fail_if_no_progress (extract_lets +onlyGivenNames x); first
        | clear_value x)
    | with_reducible apply State.post_keep
    | with_reducible apply State.answer_keep
    | with_reducible refine Keep.ite ?_ ?_
    | rfl
    | fail_if_no_progress (with_reducible refine Keep.set_relays (by decide) ?_))

theorem execMailboxGo_keep (requester function : Nat) (control : Half) (s : State) : KeepOut 268439568 s (execMailboxGo requester function control s) := by
  unfold execMailboxGo
  repeat' (first
    | with_reducible exact Keep.refl _
    | with_reducible assumption
    | (intro _)
    | with_reducible refine Keep.out ?_
    | with_reducible apply State.atIsland_keep
    | with_reducible apply State.writeMbxCtrl_keep
    | rfl)

theorem execMailboxTimeout_keep (function : Nat) (s : State) : KeepOut 4116 s (execMailboxTimeout function s) := by
  unfold execMailboxTimeout
  repeat' (first
    | with_reducible exact Keep.refl _
    | with_reducible refine Keep.out ?_
    | with_reducible apply State.mailboxDone_keep
    | with_reducible refine Keep.ite ?_ ?_
    | rfl)

theorem execSwatchOpen_keep (via : SwatchVia) (bytes : List Byte) (sensed : List Sensed) (s : State) : KeepOut 549755813878 s (execSwatchOpen via bytes sensed s) := by
  unfold execSwatchOpen
  repeat' (first
    | with_reducible exact Keep.refl _
    | with_reducible refine Keep.out ?_
    | with_reducible apply State.receive_keep
    | rfl)

theorem execSwatchProof_keep (via : SwatchVia) (bytes : List Byte) (sensed : List Sensed) (s : State) : KeepOut 549755813878 s (execSwatchProof via bytes sensed s) := by
  unfold execSwatchProof
  repeat' (first
    | with_reducible exact Keep.refl _
    | with_reducible refine Keep.out ?_
    | with_reducible apply State.receive_keep
    | rfl)

theorem execSwatchOpenTimeout_keep (session : Nat) (s : State) : KeepOut 26843549748 s (execSwatchOpenTimeout session s) := by
  unfold execSwatchOpenTimeout
  repeat' (first
    | with_reducible exact Keep.refl _
    | with_reducible refine Keep.out ?_
    | with_reducible apply State.closeSession_keep
    | with_reducible refine Keep.ite ?_ ?_
    | split
    | rfl)

theorem execSwatchRead_keep (via : SwatchVia) (bytes : List Byte) (sensed : List Sensed) (s : State) : KeepOut 549755813878 s (execSwatchRead via bytes sensed s) := by
  unfold execSwatchRead
  repeat' (first
    | with_reducible exact Keep.refl _
    | with_reducible refine Keep.out ?_
    | with_reducible apply State.receive_keep
    | rfl)

theorem execSwatchWrite_keep (via : SwatchVia) (bytes : List Byte) (sensed : List Sensed) (s : State) : KeepOut 549755813878 s (execSwatchWrite via bytes sensed s) := by
  unfold execSwatchWrite
  repeat' (first
    | with_reducible exact Keep.refl _
    | with_reducible refine Keep.out ?_
    | with_reducible apply State.receive_keep
    | rfl)

theorem execSwatchDescribe_keep (via : SwatchVia) (bytes : List Byte) (sensed : List Sensed) (s : State) : KeepOut 549755813878 s (execSwatchDescribe via bytes sensed s) := by
  unfold execSwatchDescribe
  repeat' (first
    | with_reducible exact Keep.refl _
    | with_reducible refine Keep.out ?_
    | with_reducible apply State.receive_keep
    | rfl)

theorem execSwatchSubscribe_keep (via : SwatchVia) (bytes : List Byte) (sensed : List Sensed) (s : State) : KeepOut 549755813878 s (execSwatchSubscribe via bytes sensed s) := by
  unfold execSwatchSubscribe
  repeat' (first
    | with_reducible exact Keep.refl _
    | with_reducible refine Keep.out ?_
    | with_reducible apply State.receive_keep
    | rfl)

theorem execSwatchUnsubscribe_keep (via : SwatchVia) (bytes : List Byte) (sensed : List Sensed) (s : State) : KeepOut 549755813878 s (execSwatchUnsubscribe via bytes sensed s) := by
  unfold execSwatchUnsubscribe
  repeat' (first
    | with_reducible exact Keep.refl _
    | with_reducible refine Keep.out ?_
    | with_reducible apply State.receive_keep
    | rfl)

theorem execSwatchPoll_keep (via : SwatchVia) (bytes : List Byte) (sensed : List Sensed) (s : State) : KeepOut 549755813878 s (execSwatchPoll via bytes sensed s) := by
  unfold execSwatchPoll
  repeat' (first
    | with_reducible exact Keep.refl _
    | with_reducible refine Keep.out ?_
    | with_reducible apply State.receive_keep
    | rfl)

theorem execSwatchKeepalive_keep (via : SwatchVia) (bytes : List Byte) (sensed : List Sensed) (s : State) : KeepOut 549755813878 s (execSwatchKeepalive via bytes sensed s) := by
  unfold execSwatchKeepalive
  repeat' (first
    | with_reducible exact Keep.refl _
    | with_reducible refine Keep.out ?_
    | with_reducible apply State.receive_keep
    | rfl)

theorem execSwatchClose_keep (via : SwatchVia) (bytes : List Byte) (sensed : List Sensed) (s : State) : KeepOut 549755813878 s (execSwatchClose via bytes sensed s) := by
  unfold execSwatchClose
  repeat' (first
    | with_reducible exact Keep.refl _
    | with_reducible refine Keep.out ?_
    | with_reducible apply State.receive_keep
    | rfl)

theorem execSwatchNotify_keep (session sub subindex : Nat) (s : State) : KeepOut 17181970452 s (execSwatchNotify session sub subindex s) := by
  unfold execSwatchNotify
  repeat' (first
    | with_reducible exact Keep.refl _
    | with_reducible assumption
    | with_reducible refine Keep.out ?_
    | (fail_if_no_progress (extract_lets +onlyGivenNames x); first
        | (with_reducible refine Keep.cut (t := x) ?_ ?_; (on_goal 1 => (unfold x; clear x)); (on_goal 2 => (intro hx; clear_value x)))
        | clear_value x)
    | with_reducible apply State.modSession_keep
    | with_reducible apply State.notify_keep
    | split
    | rfl)

theorem execSwatchRelay_keep (via : SwatchVia) (bytes : List Byte) (s : State) : KeepOut 44025516084 s (execSwatchRelay via bytes s) := by
  unfold execSwatchRelay
  repeat' (first
    | with_reducible exact Keep.refl _
    | with_reducible refine Keep.out ?_
    | with_reducible apply State.incoming_keep
    | with_reducible apply State.relayRequest_keep
    | with_reducible apply State.relayReply_keep
    | with_reducible apply State.discard_keep
    | with_reducible apply State.unanswered_keep
    | with_reducible refine Keep.ite ?_ ?_
    | split
    | with_reducible refine Keep.of_pair (by assumption) ?_
    | rfl)

theorem execSwatchSessionIdleTimeout_keep (session : Nat) (s : State) : KeepOut 26843549748 s (execSwatchSessionIdleTimeout session s) := by
  unfold execSwatchSessionIdleTimeout
  repeat' (first
    | with_reducible exact Keep.refl _
    | with_reducible refine Keep.out ?_
    | with_reducible apply State.closeSession_keep
    | with_reducible refine Keep.ite ?_ ?_
    | split
    | rfl)

end Sys2Proof.Machine
end

