-- ==== Sys2Proof/Laws/KeepRegisters.lean ====
section
/-!
SUPPORT. The parts of the state that the operations of Machine/Registers.lean may write.
-/

namespace Sys2Proof.Machine

open Reg Ob

theorem State.touchReg_keep {wr : Nat} {s₀ : State} (s : State) (r : RegDef) (hk : Keep wr s₀ s) (hs : 14027919414 &&& wr = 14027919414) :
    Keep wr s₀ (State.touchReg s r) := by
  refine Keep.app hk ?_ hs
  unfold State.touchReg
  repeat' (first
    | with_reducible exact Keep.refl _
    | with_reducible apply State.vote_keep
    | with_reducible apply State.fresh_keep
    | with_reducible refine Keep.ite ?_ ?_
    | rfl)

theorem State.clearRead_keep {wr : Nat} {s₀ : State} (s : State) (r : RegDef) (i from32 : Nat) (hk : Keep wr s₀ s) (hs : 35651600 &&& wr = 35651600) :
    Keep wr s₀ (State.clearRead s r i from32) := by
  refine Keep.app hk ?_ hs
  unfold State.clearRead
  repeat' (first
    | with_reducible exact Keep.refl _
    | with_reducible assumption
    | (fail_if_no_progress (extract_lets +onlyGivenNames x); first
        | clear_value x)
    | with_reducible apply State.readFdro_keep
    | with_reducible apply State.setSeam_keep
    | with_reducible apply State.clearf_keep
    | with_reducible apply State.sf_keep
    | with_reducible refine Keep.ite ?_ ?_
    | refine Keep.foldl ?_ (fun t x ht => ?_)
    | rfl)

theorem State.hitRead_keep {wr : Nat} {s₀ : State} (s : State) (u key : Nat) (h : RegHit) (width : Nat) (hk : Keep wr s₀ s) (hs : 14061474102 &&& wr = 14061474102) :
    Keep wr s₀ (State.hitRead s u key h width).2 := by
  refine Keep.app hk ?_ hs
  unfold State.hitRead
  repeat' (first
    | with_reducible exact Keep.refl _
    | with_reducible assumption
    | (fail_if_no_progress (extract_lets +onlyGivenNames x); first
        | (with_reducible refine Keep.cut (t := x) ?_ ?_; (on_goal 1 => (unfold x; clear x)); (on_goal 2 => (intro hx; clear_value x)))
        | clear_value x)
    | with_reducible apply State.touchReg_keep
    | with_reducible apply State.clearRead_keep
    | with_reducible refine Keep.ite_snd ?_ ?_
    | split
    | rfl
    | dsimp -zeta only
    | fail_if_no_progress (with_reducible refine Keep.set_latched (by decide) ?_))

theorem State.writeQbase_keep {wr : Nat} {s₀ : State} (s : State) (u q v : Nat) (hk : Keep wr s₀ s) (hs : 4297134100 &&& wr = 4297134100) :
    Keep wr s₀ (State.writeQbase s u q v) := by
  refine Keep.app hk ?_ hs
  unfold State.writeQbase
  repeat' (first
    | with_reducible exact Keep.refl _
    | (fail_if_no_progress (extract_lets +onlyGivenNames x); first
        | clear_value x)
    | with_reducible apply State.raise_keep
    | with_reducible apply State.sf_keep
    | with_reducible refine Keep.ite ?_ ?_
    | rfl)

theorem writeHooks0_keep : ∀ e ∈ writeHooks0, ∀ (s : State) (u : Nat) (r : RegDef) (i v : Nat), Keep 83072385014 s (e.2 s u r i v) := by
  unfold writeHooks0
  repeat' (first
    | with_reducible exact List.forall_mem_nil _
    | with_reducible refine List.forall_mem_cons.2 ⟨?_, ?_⟩
    | (intro s u r i v)
    | with_reducible exact Keep.refl _
    | with_reducible apply State.writeQbase_keep
    | with_reducible apply State.writeQcfg_keep
    | with_reducible apply State.writeAdj_keep
    | with_reducible apply State.writeStep_keep
    | with_reducible apply State.writeCarCfg_keep
    | with_reducible apply State.writeCarOffset_keep
    | with_reducible apply State.writeCmpField_keep
    | with_reducible apply State.writeCmpCtrl_keep
    | with_reducible apply State.writeSqCfg_keep
    | with_reducible apply State.writeCancel_keep
    | with_reducible apply State.writeTrigger_keep
    | with_reducible apply State.writeDmaCfg_keep
    | with_reducible apply State.writeDmaLinks_keep
    | with_reducible apply State.writeDmaHead_keep
    | with_reducible apply State.writeDmaDoorbell_keep
    | rfl)

theorem State.writeFields_keep {wr : Nat} {s₀ : State} (s : State) (l : List Fld) (i v : Nat) (hk : Keep wr s₀ s) (hs : 16 &&& wr = 16) :
    Keep wr s₀ (State.writeFields s l i v) := by
  refine Keep.app hk ?_ hs
  unfold State.writeFields
  repeat' (first
    | with_reducible exact Keep.refl _
    | with_reducible assumption
    | (fail_if_no_progress (extract_lets +onlyGivenNames x); first
        | clear_value x)
    | with_reducible apply State.sf_keep
    | split
    | refine Keep.foldl ?_ (fun t x ht => ?_)
    | rfl)

theorem State.plainWrite_keep {wr : Nat} {s₀ : State} (s : State) (u : Nat) (r : RegDef) (i v : Nat) (hk : Keep wr s₀ s) (hs : 16 &&& wr = 16) :
    Keep wr s₀ (State.plainWrite s u r i v) := by
  refine Keep.app hk ?_ hs
  unfold State.plainWrite
  repeat' (first
    | with_reducible exact Keep.refl _
    | with_reducible apply State.writeFields_keep
    | with_reducible refine Keep.ite ?_ ?_
    | rfl)

theorem State.writeIf_keep {wr : Nat} {s₀ : State} (s : State) (ok : Bool) (u : Nat) (r : RegDef) (i v : Nat) (hk : Keep wr s₀ s) (hs : 16 &&& wr = 16) :
    Keep wr s₀ (State.writeIf s ok u r i v) := by
  refine Keep.app hk ?_ hs
  unfold State.writeIf
  repeat' (first
    | with_reducible exact Keep.refl _
    | with_reducible apply State.plainWrite_keep
    | with_reducible refine Keep.ite ?_ ?_
    | rfl)

theorem writeHooks1_keep : ∀ e ∈ writeHooks1, ∀ (s : State) (u : Nat) (r : RegDef) (i v : Nat), Keep 83072385014 s (e.2 s u r i v) := by
  unfold writeHooks1
  repeat' (first
    | with_reducible exact List.forall_mem_nil _
    | with_reducible refine List.forall_mem_cons.2 ⟨?_, ?_⟩
    | (intro s u r i v)
    | with_reducible exact Keep.refl _
    | with_reducible apply State.writeEngCtrl_keep
    | with_reducible apply State.writeIf_keep
    | with_reducible apply State.writeGusCtrl_keep
    | with_reducible apply State.resetPanel_keep
    | with_reducible apply State.writeAccCtrl_keep
    | with_reducible apply State.hemSreset_keep
    | with_reducible apply State.writeScfg_keep
    | with_reducible apply State.writeSgain_keep
    | with_reducible refine Keep.ite ?_ ?_
    | rfl)

theorem writeHooks2_keep : ∀ e ∈ writeHooks2, ∀ (s : State) (u : Nat) (r : RegDef) (i v : Nat), Keep 83072385014 s (e.2 s u r i v) := by
  unfold writeHooks2
  repeat' (first
    | with_reducible exact List.forall_mem_nil _
    | with_reducible refine List.forall_mem_cons.2 ⟨?_, ?_⟩
    | (intro s u r i v)
    | with_reducible exact Keep.refl _
    | with_reducible apply State.writePll_keep
    | with_reducible apply State.writeLaneCtrl_keep
    | with_reducible apply State.writeTxeq_keep
    | with_reducible apply State.writeLaneTest_keep
    | with_reducible apply State.writePortCtrl_keep
    | with_reducible apply State.writeStCmd_keep
    | with_reducible apply State.writeCpriCfg_keep
    | with_reducible apply State.writeLinkCtrl_keep
    | with_reducible apply State.writeXlate_keep
    | with_reducible apply State.writeIf_keep
    | with_reducible apply State.writeChCtrl_keep
    | rfl)

theorem State.writeHpCtrl_keep {wr : Nat} {s₀ : State} (s : State) (u : Nat) (r : RegDef) (i v : Nat) (hk : Keep wr s₀ s) (hs : 16 &&& wr = 16) :
    Keep wr s₀ (State.writeHpCtrl s u r i v) := by
  refine Keep.app hk ?_ hs
  unfold State.writeHpCtrl
  repeat' (first
    | with_reducible exact Keep.refl _
    | with_reducible assumption
    | (fail_if_no_progress (extract_lets +onlyGivenNames x); first
        | (with_reducible refine Keep.cut (t := x) ?_ ?_; (on_goal 1 => (unfold x; clear x)); (on_goal 2 => (intro hx; clear_value x))))
    | with_reducible apply State.writeIf_keep
    | with_reducible apply State.sf_keep
    | with_reducible refine Keep.ite ?_ ?_
    | rfl)

theorem State.writeRoute_keep {wr : Nat} {s₀ : State} (s : State) (u : Nat) (r : RegDef) (e v : Nat) (hk : Keep wr s₀ s) (hs : 16 &&& wr = 16) :
    Keep wr s₀ (State.writeRoute s u r e v) := by
  refine Keep.app hk ?_ hs
  unfold State.writeRoute
  repeat' (first
    | with_reducible exact Keep.refl _
    | (fail_if_no_progress (extract_lets +onlyGivenNames x); first
        | clear_value x)
    | with_reducible apply State.writeFields_keep
    | with_reducible refine Keep.ite ?_ ?_
    | rfl)

theorem State.writePend_keep {wr : Nat} {s₀ : State} (s : State) (u : Nat) (r : RegDef) (w v : Nat) (hk : Keep wr s₀ s) (hs : 16 &&& wr = 16) :
    Keep wr s₀ (State.writePend s u r w v) := by
  refine Keep.app hk ?_ hs
  unfold State.writePend
  repeat' (first
    | with_reducible exact Keep.refl _
    | with_reducible apply State.writeFields_keep
    | with_reducible refine Keep.ite ?_ ?_
    | split
    | rfl)

theorem State.writePin_keep {wr : Nat} {s₀ : State} (s : State) (u : Nat) (r : RegDef) (i v : Nat) (hk : Keep wr s₀ s) (hs : 20 &&& wr = 20) :
    Keep wr s₀ (State.writePin s u r i v) := by
  refine Keep.app hk ?_ hs
  unfold State.writePin
  repeat' (first
    | with_reducible exact Keep.refl _
    | with_reducible apply State.drivePins_keep
    | with_reducible apply State.plainWrite_keep
    | with_reducible refine Keep.ite ?_ ?_
    | rfl)

theorem writeHooks3_keep : ∀ e ∈ writeHooks3, ∀ (s : State) (u : Nat) (r : RegDef) (i v : Nat), Keep 83072385014 s (e.2 s u r i v) := by
  unfold writeHooks3
  repeat' (first
    | with_reducible exact List.forall_mem_nil _
    | with_reducible refine List.forall_mem_cons.2 ⟨?_, ?_⟩
    | (intro s u r i v)
    | with_reducible exact Keep.refl _
    | with_reducible apply State.setScrub_keep
    | with_reducible apply State.writeQpCmd_keep
    | with_reducible apply State.streamWord_keep
    | with_reducible apply State.writeIf_keep
    | with_reducible apply State.writeEndpoint_keep
    | with_reducible apply State.writeRingCfg_keep
    | with_reducible apply State.writeFields_keep
    | with_reducible apply State.ringDoorbell_keep
    | with_reducible apply State.writeMbxCtrl_keep
    | with_reducible apply State.writeHpCtrl_keep
    | with_reducible apply State.writeRoute_keep
    | with_reducible apply State.writePend_keep
    | with_reducible apply State.writePin_keep
    | with_reducible refine Keep.ite ?_ ?_
    | rfl)

theorem State.writeReg_keep {wr : Nat} {s₀ : State} (s : State) (u : Nat) (r : RegDef) (i v : Nat) (hk : Keep wr s₀ s)
    (hs : 83072385014 &&& wr = 83072385014) : Keep wr s₀ (s.writeReg u r i v) := by
  refine Keep.app hk ?_ hs
  unfold State.writeReg
  split
  · next f g h =>
    have hm := List.mem_of_find?_eq_some h
    rcases List.mem_append.1 hm with hm | hm
    · rcases List.mem_append.1 hm with hm | hm
      · rcases List.mem_append.1 hm with hm | hm
        · exact writeHooks0_keep _ hm s u r i v
        · exact writeHooks1_keep _ hm s u r i v
      · exact writeHooks2_keep _ hm s u r i v
    · exact writeHooks3_keep _ hm s u r i v
  · exact State.plainWrite_keep _ _ _ _ _ (Keep.refl _) (by decide)

theorem State.hitWrite_keep {wr : Nat} {s₀ : State} (s : State) (u key : Nat) (h : RegHit) (width v : Nat) (hk : Keep wr s₀ s) (hs : 83072385014 &&& wr = 83072385014) :
    Keep wr s₀ (State.hitWrite s u key h width v) := by
  refine Keep.app hk ?_ hs
  unfold State.hitWrite
  repeat' (first
    | with_reducible exact Keep.refl _
    | (fail_if_no_progress (extract_lets +onlyGivenNames x); first
        | clear_value x)
    | with_reducible apply State.writeReg_keep
    | with_reducible apply State.touchReg_keep
    | with_reducible refine Keep.ite ?_ ?_
    | rfl
    | fail_if_no_progress (with_reducible refine Keep.set_staged (by decide) ?_))

end Sys2Proof.Machine
end

