-- ==== Sys2Proof/Laws/KeepHostMemory.lean ====
section
/-!
SUPPORT. The parts of the state that the operations of Machine/HostMemory.lean may write.
-/

namespace Sys2Proof.Machine

open Reg Ob

theorem State.answerBytes_keep {wr : Nat} {s₀ : State} (s : State) (f shown : Nat) (l : List Byte) (hk : Keep wr s₀ s) (hs : 4 &&& wr = 4) :
    Keep wr s₀ (State.answerBytes s f shown l) := by
  refine Keep.app hk ?_ hs
  unfold State.answerBytes
  repeat' (first
    | with_reducible exact Keep.refl _
    | with_reducible apply State.send_keep
    | rfl)

theorem State.regRead_keep {wr : Nat} {s₀ : State} (s : State) (u : Nat) (page : Option Nat) (a width : Nat) (hk : Keep wr s₀ s) (hs : 14065671030 &&& wr = 14065671030) :
    Keep wr s₀ (State.regRead s u page a width).2 := by
  refine Keep.app hk ?_ hs
  unfold State.regRead
  repeat' (first
    | with_reducible exact Keep.refl _
    | with_reducible assumption
    | (fail_if_no_progress (extract_lets +onlyGivenNames x); first
        | (with_reducible refine Keep.cut (t := x.2) ?_ ?_; (on_goal 1 => (unfold x; clear x)); (on_goal 2 => (intro hx; clear_value x))))
    | with_reducible apply State.viewRead_keep
    | with_reducible apply State.hitRead_keep
    | with_reducible refine Keep.ite_snd ?_ ?_
    | split
    | rfl)

theorem State.answerRead_keep {wr : Nat} {s₀ : State} (s : State) (u : Nat) (page : Option Nat) (a width : Nat) (hk : Keep wr s₀ s) (hs : 14334106486 &&& wr = 14334106486) :
    Keep wr s₀ (State.answerRead s u page a width) := by
  refine Keep.app hk ?_ hs
  unfold State.answerRead
  repeat' (first
    | with_reducible exact Keep.refl _
    | with_reducible apply State.stallOn_keep
    | with_reducible apply State.regRead_keep
    | with_reducible apply State.send_keep
    | split
    | with_reducible refine Keep.of_pair (by assumption) ?_
    | rfl)

theorem State.regWrite_keep {wr : Nat} {s₀ : State} (s : State) (u : Nat) (page : Option Nat) (a width v : Nat) (hk : Keep wr s₀ s) (hs : 83072385014 &&& wr = 83072385014) :
    Keep wr s₀ (State.regWrite s u page a width v) := by
  refine Keep.app hk ?_ hs
  unfold State.regWrite
  repeat' (first
    | with_reducible exact Keep.refl _
    | with_reducible apply State.viewWrite_keep
    | with_reducible apply State.hitWrite_keep
    | with_reducible refine Keep.ite ?_ ?_
    | split
    | rfl)

theorem State.hostDenied_keep {wr : Nat} {s₀ : State} (s : State) (f a : Nat) (write : Bool) (hk : Keep wr s₀ s) (hs : 4297136148 &&& wr = 4297136148) :
    Keep wr s₀ (State.hostDenied s f a write) := by
  refine Keep.app hk ?_ hs
  unfold State.hostDenied
  repeat' (first
    | with_reducible exact Keep.refl _
    | with_reducible apply State.countDenial_keep
    | rfl)

theorem State.hostFetch_keep {wr : Nat} {s₀ : State} (s : State) (f shown a n : Nat) (upsets : List (BitVec 80)) (hk : Keep wr s₀ s) (hs : 14233442934 &&& wr = 14233442934) :
    Keep wr s₀ (State.hostFetch s f shown a n upsets) := by
  refine Keep.app hk ?_ hs
  unfold State.hostFetch
  repeat' (first
    | with_reducible exact Keep.refl _
    | with_reducible assumption
    | (fail_if_no_progress (extract_lets +onlyGivenNames x); first
        | (with_reducible refine Keep.cut (t := x.2) ?_ ?_; (on_goal 1 => (unfold x; clear x)); (on_goal 2 => (intro hx; clear_value x)))
        | clear_value x)
    | with_reducible apply State.send_keep
    | with_reducible apply State.hostDenied_keep
    | with_reducible apply State.stallOn_keep
    | with_reducible apply State.readWords_keep
    | with_reducible apply State.upsetWords_keep
    | with_reducible refine Keep.ite ?_ ?_
    | split
    | rfl)

theorem State.hostViewRead_keep {wr : Nat} {s₀ : State} (s : State) (u k shown off n : Nat) (hk : Keep wr s₀ s) (hs : 14233442934 &&& wr = 14233442934) :
    Keep wr s₀ (State.hostViewRead s u k shown off n) := by
  refine Keep.app hk ?_ hs
  unfold State.hostViewRead
  repeat' (first
    | with_reducible exact Keep.refl _
    | with_reducible assumption
    | (fail_if_no_progress (extract_lets +onlyGivenNames x); first
        | (with_reducible refine Keep.cut (t := x.2) ?_ ?_; (on_goal 1 => (unfold x; clear x)); (on_goal 2 => (intro hx; clear_value x))))
    | with_reducible apply State.stallOn_keep
    | with_reducible apply State.viewRead_keep
    | with_reducible apply State.send_keep
    | split
    | rfl)

theorem State.pageRead_keep {wr : Nat} {s₀ : State} (s : State) (u f off n : Nat) (hk : Keep wr s₀ s) (hs : 14061474102 &&& wr = 14061474102) :
    Keep wr s₀ (State.pageRead s u f off n).2 := by
  refine Keep.app hk ?_ hs
  unfold State.pageRead
  repeat' (first
    | with_reducible exact Keep.refl _
    | with_reducible assumption
    | (fail_if_no_progress (extract_lets +onlyGivenNames x); first
        | (with_reducible refine Keep.cut (t := x.2) ?_ ?_; (on_goal 1 => (unfold x; clear x)); (on_goal 2 => (intro hx; clear_value x))))
    | with_reducible apply State.hitRead_keep
    | with_reducible refine Keep.ite ?_ ?_
    | with_reducible refine Keep.ite_snd ?_ ?_
    | split
    | rfl)

theorem State.hostRead_keep {wr : Nat} {s₀ : State} (s : State) (f : Nat) (w : HostWindow) (off n : Nat) (upsets : List (BitVec 80)) (hk : Keep wr s₀ s) (hs : 14334106486 &&& wr = 14334106486) :
    Keep wr s₀ (State.hostRead s f w off n upsets) := by
  refine Keep.app hk ?_ hs
  unfold State.hostRead
  repeat' (first
    | with_reducible exact Keep.refl _
    | with_reducible assumption
    | (intro _)
    | (fail_if_no_progress (extract_lets +onlyGivenNames x); first
        | (with_reducible refine Keep.cutF1 (f := x) ?_ ?_; (on_goal 1 => (unfold x; clear x)); (on_goal 2 => (intro hg; clear_value x)))
        | clear_value x)
    | with_reducible apply hg
    | with_reducible apply State.answerBytes_keep
    | with_reducible apply State.send_keep
    | with_reducible apply State.answerRead_keep
    | with_reducible apply State.hostFetch_keep
    | with_reducible apply State.hostViewRead_keep
    | with_reducible apply State.pageRead_keep
    | with_reducible refine Keep.ite ?_ ?_
    | split
    | with_reducible refine Keep.of_pair (by assumption) ?_
    | rfl)

theorem State.hostStore_keep {wr : Nat} {s₀ : State} (s : State) (f a : Nat) (data : List (Option Byte)) (poisoned : Bool) (upsets : List (BitVec 80)) (hk : Keep wr s₀ s) (hs : 14266997364 &&& wr = 14266997364) :
    Keep wr s₀ (State.hostStore s f a data poisoned upsets) := by
  refine Keep.app hk ?_ hs
  unfold State.hostStore
  repeat' (first
    | with_reducible exact Keep.refl _
    | with_reducible assumption
    | (fail_if_no_progress (extract_lets +onlyGivenNames x); first
        | (with_reducible refine Keep.cut (t := x) ?_ ?_; (on_goal 1 => (unfold x; clear x)); (on_goal 2 => (intro hx; clear_value x)))
        | clear_value x)
    | with_reducible apply State.hostDenied_keep
    | with_reducible apply State.stallOn_keep
    | with_reducible apply State.upsetWords_keep
    | with_reducible apply State.writeWordAt_keep
    | with_reducible apply State.writeEnabled_keep
    | with_reducible refine Keep.ite ?_ ?_
    | split
    | refine Keep.foldl ?_ (fun t x ht => ?_)
    | rfl)

theorem State.hostViewWrite_keep {wr : Nat} {s₀ : State} (s : State) (u k off : Nat) (data : List (Option Byte)) (hk : Keep wr s₀ s) (hs : 82986474100 &&& wr = 82986474100) :
    Keep wr s₀ (State.hostViewWrite s u k off data) := by
  refine Keep.app hk ?_ hs
  unfold State.hostViewWrite
  repeat' (first
    | with_reducible exact Keep.refl _
    | with_reducible apply State.stallOn_keep
    | with_reducible apply State.viewWrite_keep
    | split
    | rfl)

theorem State.presentWrite_keep {wr : Nat} {s₀ : State} (s : State) (u : Nat) (page : Option Nat) (a width v : Nat) (hk : Keep wr s₀ s) (hs : 83072385014 &&& wr = 83072385014) :
    Keep wr s₀ (State.presentWrite s u page a width v) := by
  refine Keep.app hk ?_ hs
  unfold State.presentWrite
  repeat' (first
    | with_reducible exact Keep.refl _
    | with_reducible apply State.stallOn_keep
    | with_reducible apply State.regWrite_keep
    | split
    | rfl)

theorem State.writeBuffer_keep {wr : Nat} {s₀ : State} (s : State) (f off : Nat) (data : List (Option Byte)) (hk : Keep wr s₀ s) (hs : 4096 &&& wr = 4096) :
    Keep wr s₀ (State.writeBuffer s f off data) := by
  refine Keep.app hk ?_ hs
  unfold State.writeBuffer
  repeat' (first
    | with_reducible exact Keep.refl _
    | (fail_if_no_progress (extract_lets +onlyGivenNames x); first
        | clear_value x)
    | with_reducible apply State.setMailbox_keep
    | with_reducible refine Keep.ite ?_ ?_
    | rfl)

theorem State.pageWrite_keep {wr : Nat} {s₀ : State} (s : State) (u f off : Nat) (data : List (Option Byte)) (hk : Keep wr s₀ s) (hs : 83072385014 &&& wr = 83072385014) :
    Keep wr s₀ (State.pageWrite s u f off data) := by
  refine Keep.app hk ?_ hs
  unfold State.pageWrite
  repeat' (first
    | with_reducible exact Keep.refl _
    | with_reducible apply State.hitWrite_keep
    | with_reducible apply State.writeTable_keep
    | with_reducible apply State.writeBuffer_keep
    | with_reducible refine Keep.ite ?_ ?_
    | split
    | rfl)

theorem State.hostWrite_keep {wr : Nat} {s₀ : State} (s : State) (f : Nat) (w : HostWindow) (off : Nat) (data : List (Option Byte)) (poisoned : Bool) (upsets : List (BitVec 80)) (hk : Keep wr s₀ s) (hs : 83072385014 &&& wr = 83072385014) :
    Keep wr s₀ (State.hostWrite s f w off data poisoned upsets) := by
  refine Keep.app hk ?_ hs
  unfold State.hostWrite
  repeat' (first
    | with_reducible exact Keep.refl _
    | with_reducible assumption
    | (fail_if_no_progress (extract_lets +onlyGivenNames x); first
        | (with_reducible refine Keep.cut (t := x) ?_ ?_; (on_goal 1 => (unfold x; clear x)); (on_goal 2 => (intro hx; clear_value x)))
        | clear_value x)
    | with_reducible apply State.incf_keep
    | with_reducible apply State.flushVectors_keep
    | with_reducible apply State.setMsix_keep
    | with_reducible apply State.presentWrite_keep
    | with_reducible apply State.hostStore_keep
    | with_reducible apply State.hostViewWrite_keep
    | with_reducible apply State.pageWrite_keep
    | with_reducible refine Keep.ite ?_ ?_
    | split
    | rfl)

theorem execRegisterWrite_keep (requester : Nat) (page : Option Nat) (address width : Nat) (value : Word) (s : State) : KeepOut 83072385014 s (execRegisterWrite requester page address width value s) := by
  unfold execRegisterWrite
  repeat' (first
    | with_reducible exact Keep.refl _
    | with_reducible refine Keep.out ?_
    | with_reducible apply State.presentWrite_keep
    | rfl)

theorem execRegisterLowHalfRead_keep (requester : Nat) (page : Option Nat) (address : Nat) (s : State) : KeepOut 14334106486 s (execRegisterLowHalfRead requester page address s) := by
  unfold execRegisterLowHalfRead
  repeat' (first
    | with_reducible exact Keep.refl _
    | with_reducible refine Keep.out ?_
    | with_reducible apply State.answerRead_keep
    | rfl)

theorem execRegisterHighHalfRead_keep (requester : Nat) (page : Option Nat) (address : Nat) (s : State) : KeepOut 14334106486 s (execRegisterHighHalfRead requester page address s) := by
  unfold execRegisterHighHalfRead
  repeat' (first
    | with_reducible exact Keep.refl _
    | with_reducible refine Keep.out ?_
    | with_reducible apply State.answerRead_keep
    | rfl)

theorem execRcRegisterRead_keep (requester : Nat) (page : Option Nat) (address width : Nat) (s : State) : KeepOut 14334106486 s (execRcRegisterRead requester page address width s) := by
  unfold execRcRegisterRead
  repeat' (first
    | with_reducible exact Keep.refl _
    | with_reducible refine Keep.out ?_
    | with_reducible apply State.answerRead_keep
    | rfl)

theorem execHostMemoryRead_keep (function : Nat) (window : HostWindow) (offset bytes : Nat) (upsets : List (BitVec 80)) (s : State) : KeepOut 14334106486 s (execHostMemoryRead function window offset bytes upsets s) := by
  unfold execHostMemoryRead
  repeat' (first
    | with_reducible exact Keep.refl _
    | with_reducible refine Keep.out ?_
    | with_reducible apply State.hostRead_keep
    | with_reducible refine Keep.ite ?_ ?_
    | rfl)

theorem execHostMemoryWrite_keep (function : Nat) (window : HostWindow) (offset : Nat) (data : List (Option Byte)) (poisoned : Bool) (upsets : List (BitVec 80)) (s : State) : KeepOut 83072385014 s (execHostMemoryWrite function window offset data poisoned upsets s) := by
  unfold execHostMemoryWrite
  repeat' (first
    | with_reducible exact Keep.refl _
    | with_reducible refine Keep.out ?_
    | with_reducible apply State.hostWrite_keep
    | with_reducible refine Keep.ite ?_ ?_
    | rfl)

end Sys2Proof.Machine
end

