-- ==== Sys2Proof/Laws/KeepMbDsp.lean ====
section
/-!
SUPPORT. The parts of the state that the operations of Machine/MbDsp.lean may write.
-/

namespace Sys2Proof.Machine

open Reg Ob

theorem State.mbDenied_keep {wr : Nat} {s₀ : State} (s : State) (g cause a n : Nat) (write : Bool) (hk : Keep wr s₀ s) (hs : 4297136148 &&& wr = 4297136148) :
    Keep wr s₀ (State.mbDenied s g cause a n write) := by
  refine Keep.app hk ?_ hs
  unfold State.mbDenied
  repeat' (first
    | with_reducible exact Keep.refl _
    | with_reducible apply State.engDenied_keep
    | with_reducible refine Keep.ite ?_ ?_
    | split
    | rfl)

theorem State.mbLoad_keep {wr : Nat} {s₀ : State} (s : State) (g a n : Nat) (hk : Keep wr s₀ s) (hs : 13965007478 &&& wr = 13965007478) :
    Keep wr s₀ (State.mbLoad s g a n).2 := by
  refine Keep.app hk ?_ hs
  unfold State.mbLoad
  repeat' (first
    | with_reducible exact Keep.refl _
    | with_reducible assumption
    | (fail_if_no_progress (extract_lets +onlyGivenNames x); first
        | (with_reducible refine Keep.cut (t := x.2) ?_ ?_; (on_goal 1 => (unfold x; clear x)); (on_goal 2 => (intro hx; clear_value x))))
    | with_reducible apply State.loadBytes_keep
    | with_reducible apply State.viewRead_keep
    | with_reducible refine Keep.ite_snd ?_ ?_
    | split
    | rfl)

theorem State.mbLoadElems_rec {s₀ : State} (s : State) (g bytes : Nat) (a : Nat) (x : Vec) (n0 : List Nat) (hk : Keep 13965007478 s₀ s) :
    Keep 13965007478 s₀ (State.mbLoadElems s g bytes a x n0).2 := by
  induction n0 generalizing s g bytes a x with
  | nil =>
    unfold State.mbLoadElems
    repeat' (first
      | with_reducible assumption
      | with_reducible apply State.mbLoad_keep
      | with_reducible apply ih
      | split
      | with_reducible refine Keep.of_pair (by assumption) ?_
      | rfl)
  | cons x l ih =>
    unfold State.mbLoadElems
    repeat' (first
      | with_reducible assumption
      | with_reducible apply State.mbLoad_keep
      | with_reducible apply ih
      | split
      | with_reducible refine Keep.of_pair (by assumption) ?_
      | rfl)

theorem State.mbLoadElems_keep {wr : Nat} {s₀ : State} (s : State) (g bytes : Nat) (a : Nat) (x : Vec) (n0 : List Nat) (hk : Keep wr s₀ s)
    (hs : 13965007478 &&& wr = 13965007478) : Keep wr s₀ (State.mbLoadElems s g bytes a x n0).2 :=
  Keep.app hk (State.mbLoadElems_rec _ _ _ _ _ _ (Keep.refl _)) hs

theorem State.mbRaise_keep {wr : Nat} {s₀ : State} (s : State) (g cause a n : Nat) (write : Bool) (hk : Keep wr s₀ s) (hs : 4297317396 &&& wr = 4297317396) :
    Keep wr s₀ (State.mbRaise s g cause a n write) := by
  refine Keep.app hk ?_ hs
  unfold State.mbRaise
  repeat' (first
    | with_reducible exact Keep.refl _
    | with_reducible apply State.raiseSync_keep
    | with_reducible apply State.mbDenied_keep
    | rfl)

theorem State.mbLoadOp_keep {wr : Nat} {s₀ : State} (s : State) (g sz : Nat) (signed : Bool) (d : BitVec 4) (p : BitVec 3) (m : MbMode) (hk : Keep wr s₀ s) (hs : 14233624182 &&& wr = 14233624182) :
    Keep wr s₀ (State.mbLoadOp s g sz signed d p m) := by
  refine Keep.app hk ?_ hs
  unfold State.mbLoadOp
  repeat' (first
    | with_reducible exact Keep.refl _
    | (fail_if_no_progress (extract_lets +onlyGivenNames x); first
        | clear_value x)
    | with_reducible apply State.raiseSync_keep
    | with_reducible apply State.mbRaise_keep
    | with_reducible apply State.holdE4_keep
    | with_reducible apply State.mbLoad_keep
    | with_reducible apply State.poisonReset_keep
    | with_reducible apply State.retire_keep
    | split
    | with_reducible refine Keep.of_pair (by assumption) ?_
    | rfl)

theorem State.mbStore_keep {wr : Nat} {s₀ : State} (s : State) (g a n v : Nat) (hk : Keep wr s₀ s) (hs : 82718038644 &&& wr = 82718038644) :
    Keep wr s₀ (State.mbStore s g a n v).2 := by
  refine Keep.app hk ?_ hs
  unfold State.mbStore
  repeat' (first
    | with_reducible exact Keep.refl _
    | with_reducible apply State.storeBytes_keep
    | with_reducible apply State.viewWrite_keep
    | with_reducible refine Keep.ite_snd ?_ ?_
    | split
    | rfl)

theorem State.mbStoreElems_rec {s₀ : State} (s : State) (g bytes : Nat) (a : Nat) (x : Vec) (n0 : List Nat) (hk : Keep 82718055028 s₀ s) :
    Keep 82718055028 s₀ (State.mbStoreElems s g bytes a x n0) := by
  induction n0 generalizing s g bytes a x with
  | nil =>
    unfold State.mbStoreElems
    repeat' (first
      | with_reducible assumption
      | (fail_if_no_progress (extract_lets +onlyGivenNames x); first
          | (with_reducible refine Keep.cut (t := x.2) ?_ ?_; (on_goal 1 => (unfold x; clear x)); (on_goal 2 => (intro hx; clear_value x))))
      | with_reducible apply State.mbStore_keep
      | with_reducible apply State.poisonJob_keep
      | with_reducible apply ih
      | with_reducible refine Keep.ite ?_ ?_
      | rfl)
  | cons x l ih =>
    unfold State.mbStoreElems
    repeat' (first
      | with_reducible assumption
      | (fail_if_no_progress (extract_lets +onlyGivenNames x); first
          | (with_reducible refine Keep.cut (t := x.2) ?_ ?_; (on_goal 1 => (unfold x; clear x)); (on_goal 2 => (intro hx; clear_value x))))
      | with_reducible apply State.mbStore_keep
      | with_reducible apply State.poisonJob_keep
      | with_reducible apply ih
      | with_reducible refine Keep.ite ?_ ?_
      | rfl)

theorem State.mbStoreElems_keep {wr : Nat} {s₀ : State} (s : State) (g bytes : Nat) (a : Nat) (x : Vec) (n0 : List Nat) (hk : Keep wr s₀ s)
    (hs : 82718055028 &&& wr = 82718055028) : Keep wr s₀ (State.mbStoreElems s g bytes a x n0) :=
  Keep.app hk (State.mbStoreElems_rec _ _ _ _ _ _ (Keep.refl _)) hs

theorem State.mbStoreOp_keep {wr : Nat} {s₀ : State} (s : State) (g sz : Nat) (d : BitVec 4) (p : BitVec 3) (m : MbMode) (hk : Keep wr s₀ s) (hs : 82986655348 &&& wr = 82986655348) :
    Keep wr s₀ (State.mbStoreOp s g sz d p m) := by
  refine Keep.app hk ?_ hs
  unfold State.mbStoreOp
  repeat' (first
    | with_reducible exact Keep.refl _
    | with_reducible assumption
    | (fail_if_no_progress (extract_lets +onlyGivenNames x); first
        | (with_reducible refine Keep.cut (t := x) ?_ ?_; (on_goal 1 => (unfold x; clear x)); (on_goal 2 => (intro hx; clear_value x)))
        | (with_reducible refine Keep.cut (t := x.2) ?_ ?_; (on_goal 1 => (unfold x; clear x)); (on_goal 2 => (intro hx; clear_value x)))
        | clear_value x)
    | with_reducible apply State.raiseSync_keep
    | with_reducible apply State.mbRaise_keep
    | with_reducible apply State.holdE4_keep
    | with_reducible apply State.mbStore_keep
    | with_reducible apply State.poisonJob_keep
    | with_reducible apply State.retire_keep
    | with_reducible refine Keep.ite ?_ ?_
    | split
    | rfl)

theorem State.mbVecMem_keep {wr : Nat} {s₀ : State} (s : State) (g : Nat) (write : Bool) (t : ElemType) (v : BitVec 5) (p : BitVec 3) (m : MbMode) (hk : Keep wr s₀ s) (hs : 82986655350 &&& wr = 82986655350) :
    Keep wr s₀ (State.mbVecMem s g write t v p m) := by
  refine Keep.app hk ?_ hs
  unfold State.mbVecMem
  repeat' (first
    | with_reducible exact Keep.refl _
    | with_reducible assumption
    | (fail_if_no_progress (extract_lets +onlyGivenNames x); first
        | (with_reducible refine Keep.cut (t := x) ?_ ?_; (on_goal 1 => (unfold x; clear x)); (on_goal 2 => (intro hx; clear_value x)))
        | (with_reducible refine Keep.cut (t := x.2) ?_ ?_; (on_goal 1 => (unfold x; clear x)); (on_goal 2 => (intro hx; clear_value x)))
        | clear_value x)
    | with_reducible apply State.raiseSync_keep
    | with_reducible apply State.holdE4_keep
    | with_reducible apply State.mbStoreElems_keep
    | with_reducible apply State.mbLoadElems_keep
    | with_reducible apply State.poisonReset_keep
    | with_reducible apply State.retire_keep
    | with_reducible apply State.setEng_keep
    | with_reducible apply State.takeException_keep
    | with_reducible apply State.mbDenied_keep
    | with_reducible refine Keep.ite ?_ ?_
    | with_reducible refine Keep.ite_snd ?_ ?_
    | split
    | rfl)

theorem execMbDspOperation_keep (engine : Nat) (op : MbOp) (s : State) : KeepOut 82986655350 s (execMbDspOperation engine op s) := by
  unfold execMbDspOperation
  repeat' (first
    | with_reducible exact Keep.refl _
    | (intro _)
    | with_reducible refine Keep.out ?_
    | with_reducible apply State.mbNative_keep
    | with_reducible apply State.illegal_keep
    | with_reducible apply State.jumpTo_keep
    | with_reducible apply State.retire_keep
    | with_reducible apply State.mbLoadOp_keep
    | with_reducible apply State.mbStoreOp_keep
    | with_reducible apply State.mbVecMem_keep
    | with_reducible refine Keep.ite ?_ ?_
    | split
    | rfl)

theorem execMbStatusWrite_keep (engine : Nat) (source : BitVec 4) (s : State) : KeepOut 4297315348 s (execMbStatusWrite engine source s) := by
  unfold execMbStatusWrite
  repeat' (first
    | with_reducible exact Keep.refl _
    | (intro _)
    | with_reducible refine Keep.out ?_
    | (fail_if_no_progress (extract_lets +onlyGivenNames x); first
        | clear_value x)
    | with_reducible apply State.mbNative_keep
    | with_reducible apply State.retire_keep
    | with_reducible apply State.illegal_keep
    | with_reducible refine Keep.ite ?_ ?_
    | rfl)

theorem execMbGussetCommand_keep (engine : Nat) (tag : BitVec 4) (op : MbGusset) (s : State) : KeepOut 4297315348 s (execMbGussetCommand engine tag op s) := by
  unfold execMbGussetCommand
  repeat' (first
    | with_reducible exact Keep.refl _
    | (intro _)
    | with_reducible refine Keep.out ?_
    | (fail_if_no_progress (extract_lets +onlyGivenNames x); first
        | clear_value x)
    | with_reducible apply State.mbNative_keep
    | with_reducible apply State.illegal_keep
    | with_reducible apply State.raiseSync_keep
    | with_reducible apply State.retire_keep
    | with_reducible apply State.setGus_keep
    | with_reducible apply State.setEng_keep
    | with_reducible refine Keep.ite ?_ ?_
    | rfl)

theorem execMbGussetRead_keep (engine : Nat) (vd : BitVec 5) (qs : BitVec 4) (read : RowRead) (s : State) : KeepOut 4297317398 s (execMbGussetRead engine vd qs read s) := by
  unfold execMbGussetRead
  repeat' (first
    | with_reducible exact Keep.refl _
    | (intro _)
    | with_reducible refine Keep.out ?_
    | (fail_if_no_progress (extract_lets +onlyGivenNames x); first
        | clear_value x)
    | with_reducible apply State.mbNative_keep
    | with_reducible apply State.illegal_keep
    | with_reducible apply State.raiseSync_keep
    | with_reducible apply State.setEng_keep
    | with_reducible apply State.gussetBadRead_keep
    | with_reducible apply State.retire_keep
    | with_reducible apply State.gussetCorrected_keep
    | with_reducible refine Keep.ite ?_ ?_
    | rfl)

theorem execMbSendMessage_keep (engine : Nat) (core : BitVec 6) (inbox : BitVec 2) (p : BitVec 3) (mode : MbMode) (s : State) : KeepOut 14233624182 s (execMbSendMessage engine core inbox p mode s) := by
  unfold execMbSendMessage
  repeat' (first
    | with_reducible exact Keep.refl _
    | with_reducible assumption
    | (intro _)
    | with_reducible refine Keep.out ?_
    | (fail_if_no_progress (extract_lets +onlyGivenNames x); first
        | (with_reducible refine Keep.cut (t := x) ?_ ?_; (on_goal 1 => (unfold x; clear x)); (on_goal 2 => (intro hx; clear_value x)))
        | (with_reducible refine Keep.cut (t := x.2) ?_ ?_; (on_goal 1 => (unfold x; clear x)); (on_goal 2 => (intro hx; clear_value x)))
        | clear_value x)
    | with_reducible apply State.mbNative_keep
    | with_reducible apply State.mbRaise_keep
    | with_reducible apply State.raiseSync_keep
    | with_reducible apply State.whenOpen_keep
    | with_reducible apply State.readWords_keep
    | with_reducible apply State.poisonJob_keep
    | with_reducible apply State.setEng_keep
    | with_reducible apply State.pushEntry_keep
    | with_reducible apply State.takeAsync_keep
    | with_reducible apply State.releaseEngine_keep
    | with_reducible refine Keep.ite ?_ ?_
    | split
    | rfl)

theorem execMbReceiveMessage_keep (engine : Nat) (inbox : BitVec 2) (result : Option (BitVec 4)) (p : BitVec 3) (mode : MbMode) (s : State) : KeepOut 14267178614 s (execMbReceiveMessage engine inbox result p mode s) := by
  unfold execMbReceiveMessage
  repeat' (first
    | with_reducible exact Keep.refl _
    | with_reducible assumption
    | (intro _)
    | with_reducible refine Keep.out ?_
    | (fail_if_no_progress (extract_lets +onlyGivenNames x); first
        | (with_reducible refine Keep.cut (t := x) ?_ ?_; (on_goal 1 => (unfold x; clear x)); (on_goal 2 => (intro hx; clear_value x)))
        | clear_value x)
    | with_reducible apply State.mbNative_keep
    | with_reducible apply State.mbRaise_keep
    | with_reducible apply State.whenOpen_keep
    | with_reducible apply State.popQueue_keep
    | with_reducible apply State.raiseSync_keep
    | with_reducible apply State.setEng_keep
    | with_reducible apply State.retire_keep
    | with_reducible apply State.takeAsync_keep
    | with_reducible apply State.storeEntry_keep
    | with_reducible refine Keep.ite ?_ ?_
    | split
    | with_reducible refine Keep.of_pair (by assumption) ?_
    | rfl)

theorem execMbRaiseHostInterrupt_keep (engine : Nat) (s : State) : KeepOut 4297315348 s (execMbRaiseHostInterrupt engine s) := by
  unfold execMbRaiseHostInterrupt
  repeat' (first
    | with_reducible exact Keep.refl _
    | (intro _)
    | with_reducible refine Keep.out ?_
    | with_reducible apply State.mbNative_keep
    | with_reducible apply State.retire_keep
    | with_reducible apply State.engEvent_keep
    | rfl)

theorem execMbHalt_keep (engine : Nat) (s : State) : KeepOut 4297315350 s (execMbHalt engine s) := by
  unfold execMbHalt
  repeat' (first
    | with_reducible exact Keep.refl _
    | (intro _)
    | with_reducible refine Keep.out ?_
    | with_reducible apply State.mbNative_keep
    | with_reducible apply State.waitJob_keep
    | with_reducible apply State.illegal_keep
    | with_reducible refine Keep.ite ?_ ?_
    | rfl)

theorem execMbReadCycleCounter_keep (engine : Nat) (d : BitVec 4) (s : State) : KeepOut 4297315348 s (execMbReadCycleCounter engine d s) := by
  unfold execMbReadCycleCounter
  repeat' (first
    | with_reducible exact Keep.refl _
    | (intro _)
    | with_reducible refine Keep.out ?_
    | with_reducible apply State.mbNative_keep
    | with_reducible apply State.retire_keep
    | rfl)

end Sys2Proof.Machine
end

