-- ==== Sys2Proof/Laws/KeepSeamReceive.lean ====
section
/-!
SUPPORT. The parts of the state that the operations of Machine/SeamReceive.lean may write.
-/

namespace Sys2Proof.Machine

open Reg Ob

theorem State.arrive_keep {wr : Nat} {s₀ : State} (s : State) (n : Nat) (b : SeamBody) (hk : Keep wr s₀ s) (hs : 2097152 &&& wr = 2097152) :
    Keep wr s₀ (State.arrive s n b) := by
  refine Keep.app hk ?_ hs
  unfold State.arrive
  repeat' (first
    | with_reducible exact Keep.refl _
    | (fail_if_no_progress (extract_lets +onlyGivenNames x); first
        | clear_value x)
    | with_reducible apply State.setSeam_keep
    | rfl)

theorem State.bodyStalls_keep (s : State) (n e : Nat) (b : SeamBody) {t : State} (h : s.bodyStalls n e b = some t) :
    Keep 14233443958 s t := by
  have hm : ∀ a : Nat, (s.peerStops n a).map s.stallOn = some t → Keep 14233443958 s t := fun a h => by
    obtain ⟨x, -, rfl⟩ := Option.map_eq_some_iff.1 h
    exact State.stallOn_keep _ _ (Keep.refl _) (by decide)
  unfold State.bodyStalls at h
  split at h
  · split at h
    · exact hm _ h
    · cases h
  · split at h
    · exact hm _ h
    · cases h
  · split at h
    · exact hm _ h
    · cases h
  · split at h
    · split at h
      · cases h
        exact State.stallAt_keep _ _ _ (Keep.refl _) (by decide)
      · split at h
        · cases h
          exact Keep.of_pair (by assumption) (State.popQueue_keep _ _ _ (Keep.refl _) (by decide))
        · cases h
    · cases h
  · cases h

theorem State.crossBody_keep {wr : Nat} {s₀ : State} (s : State) (unit : Nat) (b : SeamBody) (errors : List (BitVec 80)) (hk : Keep wr s₀ s) (hs : 4297134102 &&& wr = 4297134102) :
    Keep wr s₀ (State.crossBody s unit b errors).2 := by
  refine Keep.app hk ?_ hs
  unfold State.crossBody
  repeat' (first
    | with_reducible exact Keep.refl _
    | with_reducible assumption
    | (fail_if_no_progress (extract_lets +onlyGivenNames x); first
        | (with_reducible refine Keep.cut (t := x.2) ?_ ?_; (on_goal 1 => (unfold x; clear x)); (on_goal 2 => (intro hx; clear_value x))))
    | with_reducible apply State.crossWords_keep
    | split
    | rfl)

theorem State.seamDenied_keep {wr : Nat} {s₀ : State} (s : State) (n : Nat) (hk : Keep wr s₀ s) (hs : 4297134100 &&& wr = 4297134100) :
    Keep wr s₀ (State.seamDenied s n) := by
  refine Keep.app hk ?_ hs
  unfold State.seamDenied
  repeat' (first
    | with_reducible exact Keep.refl _
    | with_reducible apply State.raise_keep
    | with_reducible apply State.incf_keep
    | rfl)

theorem State.peerFetch_keep {wr : Nat} {s₀ : State} (s : State) (n a : Nat) (hk : Keep wr s₀ s) (hs : 14065671030 &&& wr = 14065671030) :
    Keep wr s₀ (State.peerFetch s n a).2 := by
  refine Keep.app hk ?_ hs
  unfold State.peerFetch
  repeat' (first
    | with_reducible exact Keep.refl _
    | with_reducible assumption
    | (fail_if_no_progress (extract_lets +onlyGivenNames x); first
        | (with_reducible refine Keep.cut (t := x.2) ?_ ?_; (on_goal 1 => (unfold x; clear x)); (on_goal 2 => (intro hx; clear_value x)))
        | clear_value x)
    | with_reducible apply State.regRead_keep
    | with_reducible apply State.readWordAt_keep
    | split
    | rfl)

theorem State.peerStore_keep {wr : Nat} {s₀ : State} (s : State) (n a : Nat) (w : Carried) (hk : Keep wr s₀ s) (hs : 83072385014 &&& wr = 83072385014) :
    Keep wr s₀ (State.peerStore s n a w) := by
  refine Keep.app hk ?_ hs
  unfold State.peerStore
  repeat' (first
    | with_reducible exact Keep.refl _
    | with_reducible apply State.regWrite_keep
    | with_reducible apply State.writeWordAt_keep
    | split
    | rfl)

theorem State.peerWrite_keep {wr : Nat} {s₀ : State} (s : State) (n a : Nat) (w : List (Option Byte)) (hk : Keep wr s₀ s) (hs : 83072385014 &&& wr = 83072385014) :
    Keep wr s₀ (State.peerWrite s n a w) := by
  refine Keep.app hk ?_ hs
  unfold State.peerWrite
  repeat' (first
    | with_reducible exact Keep.refl _
    | (fail_if_no_progress (extract_lets +onlyGivenNames x); first
        | clear_value x)
    | with_reducible apply State.regWrite_keep
    | with_reducible apply State.mergeWordAt_keep
    | with_reducible refine Keep.ite ?_ ?_
    | split
    | rfl)

theorem State.takeOffer_keep {wr : Nat} {s₀ : State} (s : State) (n number : Nat) (hk : Keep wr s₀ s) (hs : 131072 &&& wr = 131072) :
    Keep wr s₀ (State.takeOffer s n number) := by
  refine Keep.app hk ?_ hs
  unfold State.takeOffer
  repeat' (first
    | with_reducible exact Keep.refl _
    | with_reducible assumption
    | (fail_if_no_progress (extract_lets +onlyGivenNames x); first
        | (with_reducible refine Keep.cut (t := x) ?_ ?_; (on_goal 1 => (unfold x; clear x)); (on_goal 2 => (intro hx; clear_value x)))
        | clear_value x)
    | with_reducible apply State.setSh_keep
    | with_reducible apply State.reportJob_keep
    | with_reducible refine Keep.ite ?_ ?_
    | split
    | rfl)

theorem State.deliver_keep {wr : Nat} {s₀ : State} (s : State) (n e : Nat) (x : SeamBody) (hk : Keep wr s₀ s) (hs : 83072385014 &&& wr = 83072385014) :
    Keep wr s₀ (State.deliver s n e x) := by
  refine Keep.app hk ?_ hs
  unfold State.deliver
  repeat' (first
    | with_reducible exact Keep.refl _
    | with_reducible assumption
    | (fail_if_no_progress (extract_lets +onlyGivenNames x); first
        | (with_reducible refine Keep.cut (t := x) ?_ ?_; (on_goal 1 => (unfold x; clear x)); (on_goal 2 => (intro hx; clear_value x)))
        | (with_reducible refine Keep.cut (t := x.2) ?_ ?_; (on_goal 1 => (unfold x; clear x)); (on_goal 2 => (intro hx; clear_value x)))
        | clear_value x)
    | with_reducible apply State.setSeam_keep
    | with_reducible apply State.addFlit_keep
    | with_reducible apply State.setPort_keep
    | with_reducible apply State.post_keep
    | with_reducible apply State.seamDenied_keep
    | with_reducible apply State.serve_keep
    | with_reducible apply State.popQueue_keep
    | with_reducible apply State.peerFetch_keep
    | with_reducible apply State.peerStore_keep
    | with_reducible apply State.peerWrite_keep
    | with_reducible apply State.entryLanded_keep
    | with_reducible apply State.creditsArrive_keep
    | with_reducible apply State.takeAsync_keep
    | with_reducible apply State.peerPopped_keep
    | with_reducible apply State.send_keep
    | with_reducible apply State.setSh_keep
    | with_reducible apply State.takeOffer_keep
    | with_reducible apply State.jobPush_keep
    | with_reducible apply State.reportJob_keep
    | with_reducible apply State.postChange_keep
    | with_reducible apply State.arrive_keep
    | with_reducible refine Keep.ite ?_ ?_
    | split
    | with_reducible refine Keep.of_pair (by assumption) ?_
    | rfl
    | fail_if_no_progress (with_reducible refine Keep.set_weft (by decide) ?_))

theorem State.forward_keep {wr : Nat} {s₀ : State} (s : State) (l : Nat) (u : SeamUnit) (hk : Keep wr s₀ s) (hs : 2097168 &&& wr = 2097168) :
    Keep wr s₀ (State.forward s l u) := by
  refine Keep.app hk ?_ hs
  unfold State.forward
  repeat' (first
    | with_reducible exact Keep.refl _
    | with_reducible assumption
    | (fail_if_no_progress (extract_lets +onlyGivenNames x); first
        | (with_reducible refine Keep.cut (t := x) ?_ ?_; (on_goal 1 => (unfold x; clear x)); (on_goal 2 => (intro hx; clear_value x)))
        | clear_value x)
    | with_reducible apply State.incf_keep
    | with_reducible apply State.setLink_keep
    | with_reducible apply State.postUnit_keep
    | with_reducible refine Keep.ite ?_ ?_
    | split
    | rfl)

theorem State.takeUnit_keep {wr : Nat} {s₀ : State} (s : State) (l : Nat) (u : SeamUnit) (route : BitVec 80) (errors : List (BitVec 80)) (hk : Keep wr s₀ s) (hs : 83072385014 &&& wr = 83072385014) :
    Keep wr s₀ (State.takeUnit s l u route errors) := by
  refine Keep.app hk ?_ hs
  unfold State.takeUnit
  repeat' (first
    | with_reducible exact Keep.refl _
    | with_reducible assumption
    | (fail_if_no_progress (extract_lets +onlyGivenNames x); first
        | (with_reducible refine Keep.cut (t := x) ?_ ?_; (on_goal 1 => (unfold x; clear x)); (on_goal 2 => (intro hx; clear_value x)))
        | (with_reducible refine Keep.cut (t := x.2) ?_ ?_; (on_goal 1 => (unfold x; clear x)); (on_goal 2 => (intro hx; clear_value x)))
        | clear_value x)
    | with_reducible apply State.setLink_keep
    | with_reducible apply State.setSeam_keep
    | with_reducible apply State.forward_keep
    | with_reducible apply State.deliver_keep
    | with_reducible apply State.incf_keep
    | with_reducible apply State.fenceFlit_keep
    | with_reducible apply State.raise_keep
    | with_reducible apply State.routeCopy_keep
    | with_reducible apply State.crossBody_keep
    | with_reducible refine Keep.ite ?_ ?_
    | rfl)

/-- What a unit that has to wait leaves. -/
theorem State.unitStalls_keep {wr : Nat} {s₀ : State} (s : State) (l : Nat) (u : SeamUnit) (route : BitVec 80) {c : Prop}
    [Decidable c] {t : State} (h : (if c then s.unitStalls l u route else none) = some t) (hk : Keep wr s₀ s)
    (hs : 14233443958 &&& wr = 14233443958) : Keep wr s₀ t := by
  refine Keep.app hk ?_ hs
  split at h
  · unfold State.unitStalls at h
    split at h
    · exact State.bodyStalls_keep _ _ _ _ h
    · cases h
  · cases h

theorem execSeamUnitReceive_keep (link : Nat) (header : SeamHeader) (unit : SeamUnit) (route : BitVec 80) (errors : List (BitVec 80)) (s : State) : KeepOut 83072385014 s (execSeamUnitReceive link header unit route errors s) := by
  unfold execSeamUnitReceive
  repeat' (first
    | with_reducible exact Keep.refl _
    | with_reducible assumption
    | with_reducible refine Keep.out ?_
    | (fail_if_no_progress (extract_lets +onlyGivenNames x); first
        | (with_reducible refine Keep.cut (t := x) ?_ ?_; (on_goal 1 => (unfold x; clear x)); (on_goal 2 => (intro hx; clear_value x)))
        | clear_value x)
    | with_reducible apply State.setLink_keep
    | with_reducible apply State.acked_keep
    | with_reducible apply State.takeUnit_keep
    | with_reducible apply State.sendControl_keep
    | with_reducible refine Keep.ite ?_ ?_
    | split
    | exact State.unitStalls_keep _ _ _ _ (by assumption) (Keep.refl _) (by decide)
    | rfl)

end Sys2Proof.Machine
end

