-- ==== Sys2Proof/Laws/KeepThermal.lean ====
section
/-!
SUPPORT. The parts of the state that the operations of Machine/Thermal.lean may write.
-/

namespace Sys2Proof.Machine

open Reg Ob

theorem State.allSelfRefresh_keep {wr : Nat} {s₀ : State} (s : State) (hk : Keep wr s₀ s) (hs : 4194304 &&& wr = 4194304) :
    Keep wr s₀ (State.allSelfRefresh s) := by
  refine Keep.app hk ?_ hs
  unfold State.allSelfRefresh
  repeat' (first
    | with_reducible exact Keep.refl _
    | with_reducible assumption
    | with_reducible apply State.enterSelfRefresh_keep
    | with_reducible refine Keep.ite ?_ ?_
    | refine Keep.foldl ?_ (fun t x ht => ?_)
    | rfl)

theorem State.sense_keep {wr : Nat} {s₀ : State} (s : State) (readings : List (Nat × Int)) (hk : Keep wr s₀ s) (hs : 147102629936 &&& wr = 147102629936) :
    Keep wr s₀ (State.sense s readings) := by
  refine Keep.app hk ?_ hs
  unfold State.sense
  repeat' (first
    | with_reducible exact Keep.refl _
    | with_reducible assumption
    | (fail_if_no_progress (extract_lets +onlyGivenNames x); first
        | (with_reducible refine Keep.cut (t := x) ?_ ?_; (on_goal 1 => (unfold x; clear x)); (on_goal 2 => (intro hx; clear_value x)))
        | clear_value x)
    | with_reducible apply State.sf_keep
    | with_reducible apply State.so_keep
    | with_reducible refine Keep.ite ?_ ?_
    | refine Keep.foldl ?_ (fun t x ht => ?_)
    | rfl
    | fail_if_no_progress (with_reducible refine Keep.set_thermal (by decide) ?_))

theorem State.setIr_keep {wr : Nat} {s₀ : State} (s : State) (ir : JtagIr) (hk : Keep wr s₀ s) (hs : 274877906944 &&& wr = 274877906944) :
    Keep wr s₀ (State.setIr s ir) := by
  refine Keep.app hk ?_ hs
  unfold State.setIr
  repeat' (first
    | with_reducible exact Keep.refl _
    | (fail_if_no_progress (extract_lets +onlyGivenNames x); first
        | clear_value x)
    | fail_if_no_progress (with_reducible refine Keep.set_jtag (by decide) ?_))

theorem State.setTarget_keep {wr : Nat} {s₀ : State} (s : State) (pct : Nat) (hk : Keep wr s₀ s) (hs : 137438953488 &&& wr = 137438953488) :
    Keep wr s₀ (State.setTarget s pct) := by
  refine Keep.app hk ?_ hs
  unfold State.setTarget
  repeat' (first
    | with_reducible exact Keep.refl _
    | (fail_if_no_progress (extract_lets +onlyGivenNames x); first
        | clear_value x)
    | with_reducible apply State.sf_keep
    | rfl
    | fail_if_no_progress (with_reducible refine Keep.set_thermal (by decide) ?_))

theorem State.thermalEvent_keep {wr : Nat} {s₀ : State} (s : State) (reason : Nat) (hk : Keep wr s₀ s) (hs : 4297134100 &&& wr = 4297134100) :
    Keep wr s₀ (State.thermalEvent s reason) := by
  refine Keep.app hk ?_ hs
  unfold State.thermalEvent
  repeat' (first
    | with_reducible exact Keep.refl _
    | with_reducible apply State.raise_keep
    | rfl)

theorem execThermWarn_keep (readings : Readings) (s : State) : KeepOut 151399764020 s (execThermWarn readings s) := by
  unfold execThermWarn
  repeat' (first
    | with_reducible exact Keep.refl _
    | with_reducible assumption
    | with_reducible refine Keep.out ?_
    | (fail_if_no_progress (extract_lets +onlyGivenNames x); first
        | (with_reducible refine Keep.cut (t := x) ?_ ?_; (on_goal 1 => (unfold x; clear x)); (on_goal 2 => (intro hx; clear_value x)))
        | clear_value x)
    | with_reducible apply State.sense_keep
    | with_reducible apply State.thermalEvent_keep
    | with_reducible refine Keep.ite ?_ ?_
    | rfl
    | fail_if_no_progress (with_reducible refine Keep.set_thermal (by decide) ?_))

theorem execThrottleStep_keep (readings : Readings) (s : State) : KeepOut 151399764020 s (execThrottleStep readings s) := by
  unfold execThrottleStep
  repeat' (first
    | with_reducible exact Keep.refl _
    | with_reducible assumption
    | with_reducible refine Keep.out ?_
    | (fail_if_no_progress (extract_lets +onlyGivenNames x); first
        | (with_reducible refine Keep.cut (t := x) ?_ ?_; (on_goal 1 => (unfold x; clear x)); (on_goal 2 => (intro hx; clear_value x)))
        | clear_value x)
    | with_reducible apply State.sense_keep
    | with_reducible apply State.setTarget_keep
    | with_reducible apply State.thermalEvent_keep
    | with_reducible refine Keep.ite ?_ ?_
    | rfl)

theorem execThrottleReleaseStep_keep (readings : Readings) (s : State) : KeepOut 151399764020 s (execThrottleReleaseStep readings s) := by
  unfold execThrottleReleaseStep
  repeat' (first
    | with_reducible exact Keep.refl _
    | with_reducible assumption
    | with_reducible refine Keep.out ?_
    | (fail_if_no_progress (extract_lets +onlyGivenNames x); first
        | (with_reducible refine Keep.cut (t := x) ?_ ?_; (on_goal 1 => (unfold x; clear x)); (on_goal 2 => (intro hx; clear_value x)))
        | clear_value x)
    | with_reducible apply State.sense_keep
    | with_reducible apply State.setTarget_keep
    | with_reducible apply State.thermalEvent_keep
    | with_reducible refine Keep.ite ?_ ?_
    | rfl)

theorem execThermalTrip_keep (readings : Readings) (s : State) : KeepOut 151403958324 s (execThermalTrip readings s) := by
  unfold execThermalTrip
  repeat' (first
    | with_reducible exact Keep.refl _
    | with_reducible assumption
    | with_reducible refine Keep.out ?_
    | (fail_if_no_progress (extract_lets +onlyGivenNames x); first
        | (with_reducible refine Keep.cut (t := x) ?_ ?_; (on_goal 1 => (unfold x; clear x)); (on_goal 2 => (intro hx; clear_value x)))
        | clear_value x)
    | with_reducible apply State.sense_keep
    | with_reducible apply State.send_keep
    | with_reducible apply State.sf_keep
    | with_reducible apply State.allSelfRefresh_keep
    | with_reducible apply State.thermalEvent_keep
    | with_reducible refine Keep.ite ?_ ?_
    | rfl
    | fail_if_no_progress (with_reducible refine Keep.set_thermal (by decide) ?_))

theorem execThermalTripRelease_keep (readings : Readings) (s : State) : KeepOut 151399764020 s (execThermalTripRelease readings s) := by
  unfold execThermalTripRelease
  repeat' (first
    | with_reducible exact Keep.refl _
    | with_reducible assumption
    | with_reducible refine Keep.out ?_
    | (fail_if_no_progress (extract_lets +onlyGivenNames x); first
        | (with_reducible refine Keep.cut (t := x) ?_ ?_; (on_goal 1 => (unfold x; clear x)); (on_goal 2 => (intro hx; clear_value x)))
        | clear_value x)
    | with_reducible apply State.sense_keep
    | with_reducible apply State.send_keep
    | with_reducible apply State.sf_keep
    | with_reducible apply State.thermalEvent_keep
    | with_reducible refine Keep.ite ?_ ?_
    | split
    | rfl
    | fail_if_no_progress (with_reducible refine Keep.set_thermal (by decide) ?_))

theorem execSupplyAlert_keep (s : State) : KeepOut 4297134100 s (execSupplyAlert s) := by
  unfold execSupplyAlert
  repeat' (first
    | with_reducible exact Keep.refl _
    | with_reducible refine Keep.out ?_
    | with_reducible apply State.raise_keep
    | rfl)

theorem execJtagExtest_keep (levels : List Bool) (s : State) : KeepOut 274877906948 s (execJtagExtest levels s) := by
  unfold execJtagExtest
  repeat' (first
    | with_reducible exact Keep.refl _
    | with_reducible refine Keep.out ?_
    | with_reducible apply State.send_keep
    | with_reducible apply State.setIr_keep
    | rfl)

theorem execJtagSamplePreload_keep (levels preload : List Bool) (s : State) : KeepOut 274877906948 s (execJtagSamplePreload levels preload s) := by
  unfold execJtagSamplePreload
  repeat' (first
    | with_reducible exact Keep.refl _
    | with_reducible assumption
    | with_reducible refine Keep.out ?_
    | (fail_if_no_progress (extract_lets +onlyGivenNames x); first
        | (with_reducible refine Keep.cut (t := x) ?_ ?_; (on_goal 1 => (unfold x; clear x)); (on_goal 2 => (intro hx; clear_value x)))
        | clear_value x)
    | with_reducible apply State.setIr_keep
    | with_reducible apply State.send_keep
    | rfl
    | fail_if_no_progress (with_reducible refine Keep.set_jtag (by decide) ?_))

theorem execJtagBypass_keep (tdi : List Bool) (s : State) : KeepOut 274877906948 s (execJtagBypass tdi s) := by
  unfold execJtagBypass
  repeat' (first
    | with_reducible exact Keep.refl _
    | with_reducible refine Keep.out ?_
    | with_reducible apply State.send_keep
    | with_reducible apply State.setIr_keep
    | rfl)

theorem execJtagIdcode_keep (s : State) : KeepOut 274877906948 s (execJtagIdcode s) := by
  unfold execJtagIdcode
  repeat' (first
    | with_reducible exact Keep.refl _
    | with_reducible refine Keep.out ?_
    | with_reducible apply State.send_keep
    | with_reducible apply State.setIr_keep
    | rfl)

end Sys2Proof.Machine
end

