-- ==== Sys2Proof/Laws/KeepTransform.lean ====
section
/-!
SUPPORT. The parts of the state that the operations of Machine/Transform.lean may write.
-/

namespace Sys2Proof.Machine



theorem fftBlock_keep {wr : Nat} {s₀ : State} (inverse : Bool) (j : Job) (b : Nat) (r : AccRun) (hk : Keep wr s₀ r.st) (hs : 13998561910 &&& wr = 13998561910) :
    Keep wr s₀ (fftBlock inverse j b r).st := by
  refine Keep.app hk ?_ hs
  unfold fftBlock
  repeat' (first
    | with_reducible exact Keep.refl _
    | (fail_if_no_progress (extract_lets +onlyGivenNames x); first
        | clear_value x)
    | with_reducible apply AccRun.read_keep
    | with_reducible apply AccRun.block_keep
    | with_reducible apply AccRun.write_keep
    | split
    | with_reducible refine Keep.of_pair_st (by assumption) ?_
    | rfl)

theorem execFft_keep (unit : Nat) (s : State) : KeepOut 14267129462 s (execFft unit s) := by
  unfold execFft
  repeat' (first
    | with_reducible exact Keep.refl _
    | with_reducible assumption
    | (intro _)
    | with_reducible refine Keep.out ?_
    | with_reducible apply State.accRun_keep
    | with_reducible apply AccRun.each_keep
    | with_reducible apply fftBlock_keep
    | rfl)

theorem execIfft_keep (unit : Nat) (s : State) : KeepOut 14267129462 s (execIfft unit s) := by
  unfold execIfft
  repeat' (first
    | with_reducible exact Keep.refl _
    | with_reducible assumption
    | (intro _)
    | with_reducible refine Keep.out ?_
    | with_reducible apply State.accRun_keep
    | with_reducible apply AccRun.each_keep
    | with_reducible apply fftBlock_keep
    | rfl)

end Sys2Proof.Machine
end

