-- ==== Sys2Proof/Laws/KeepExec.lean ====
section
/-!
SUPPORT. What a command and a step may write: the laws of the meanings, put together over all commands.
-/

namespace Sys2Proof.Machine

/-- The mask of some parts. -/
def maskOf : List Part → Nat
  | [] => 0
  | k :: l => 2 ^ k.toNat ||| maskOf l

theorem Part.toNat_inj : ∀ {a b : Part}, a.toNat = b.toNat → a = b := by
  intro a b h
  cases a <;> cases b <;> first | rfl | exact absurd h (by decide)

theorem maskOf_testBit {k : Part} : ∀ {l : List Part}, k ∉ l → (maskOf l).testBit k.toNat = false
  | [], _ => by simp [maskOf]
  | j :: l, h => by
    have hj : j.toNat ≠ k.toNat := fun e => h (by rw [Part.toNat_inj e]; exact List.mem_cons_self ..)
    rw [maskOf, Nat.testBit_or, Nat.testBit_two_pow_of_ne hj, maskOf_testBit (fun hm => h (List.mem_cons_of_mem _ hm))]
    rfl

/-- A command writes nothing outside the parts that `writes` names, and keeps memory canonical. -/
theorem exec_keep (c : Instr) (s : State) : KeepOut (maskOf (writes c)) s (exec c s) := by
  cases c with
  | registerWrite requester page address width value => exact execRegisterWrite_keep requester page address width value s
  | registerLowHalfRead requester page address => exact execRegisterLowHalfRead_keep requester page address s
  | registerHighHalfRead requester page address => exact execRegisterHighHalfRead_keep requester page address s
  | rcRegisterRead requester page address width => exact execRcRegisterRead_keep requester page address width s
  | partCreate session part => exact execPartCreate_keep session part s
  | partStart session part => exact execPartStart_keep session part s
  | partUnitsReady part => exact execPartUnitsReady_keep part s
  | partStop session part => exact execPartStop_keep session part s
  | partDrainDone part => exact execPartDrainDone_keep part s
  | partDelete session part => exact execPartDelete_keep session part s
  | partitionReset part => exact execPartitionReset_keep part s
  | stitchTransfer sender receiver routeA routeB errors requests answers => exact execStitchTransfer_keep sender receiver routeA routeB errors requests answers s
  | clockFloor island mhz => exact execClockFloor_keep island mhz s
  | queueEntryLand queue unit => exact execQueueEntryLand_keep queue unit s
  | queuePopRequest queue unit => exact execQueuePopRequest_keep queue unit s
  | creditRequest queue unit => exact execCreditRequest_keep queue unit s
  | creditGrantArrive queue unit => exact execCreditGrantArrive_keep queue unit s
  | queueStall queue unit => exact execQueueStall_keep queue unit s
  | queueEnable requester queue depthLog grantLog consumer => exact execQueueEnable_keep requester queue depthLog grantLog consumer s
  | queueDisable requester queue depthLog grantLog consumer => exact execQueueDisable_keep requester queue depthLog grantLog consumer s
  | queueDrainMark queue unit => exact execQueueDrainMark_keep queue unit s
  | drainMarkResend queue unit => exact execDrainMarkResend_keep queue unit s
  | tbStep requester delta => exact execTbStep_keep requester delta s
  | syncSourceValid error => exact execSyncSourceValid_keep error s
  | syncSourceLost => exact execSyncSourceLost_keep s
  | syncLocked => exact execSyncLocked_keep s
  | holdoverExpired => exact execHoldoverExpired_keep s
  | hostStateWrite value => exact execHostStateWrite_keep value s
  | hostStateTimeout => exact execHostStateTimeout_keep s
  | deferredStep error => exact execDeferredStep_keep error s
  | sysrefLost => exact execSysrefLost_keep s
  | sysrefReturn => exact execSysrefReturn_keep s
  | ppsOutEdge => exact execPpsOutEdge_keep s
  | ppsInEdge sub => exact execPpsInEdge_keep sub s
  | ppsInLost => exact execPpsInLost_keep s
  | todRxMessage message => exact execTodRxMessage_keep message s
  | todTxMessage => exact execTodTxMessage_keep s
  | carrierTimerConfig requester carrier register value => exact execCarrierTimerConfig_keep requester carrier register value s
  | carrierTimerStart carrier => exact execCarrierTimerStart_keep carrier s
  | carrierSlotStart carrier => exact execCarrierSlotStart_keep carrier s
  | comparatorArm requester comparator control => exact execComparatorArm_keep requester comparator control s
  | comparatorWrite requester comparator register value => exact execComparatorWrite_keep requester comparator register value s
  | comparatorFire => exact execComparatorFire_keep s
  | descriptorStage => exact execDescriptorStage_keep s
  | shuttleTriggerFire => exact execShuttleTriggerFire_keep s
  | shTriggerWrite requester p value => exact execShTriggerWrite_keep requester p value s
  | shCancel requester p value => exact execShCancel_keep requester p value s
  | jobCancel => exact execJobCancel_keep s
  | jobDispatch => exact execJobDispatch_keep s
  | jobLateCheck job => exact execJobLateCheck_keep job s
  | jobCompletionReport => exact execJobCompletionReport_keep s
  | completionRecordPush => exact execCompletionRecordPush_keep s
  | sqEnable requester index value => exact execSqEnable_keep requester index value s
  | sqDisable requester index value => exact execSqDisable_keep requester index value s
  | forecastSend island => exact execForecastSend_keep island s
  | offerSend => exact execOfferSend_keep s
  | offerReceive => exact execOfferReceive_keep s
  | offerAccept => exact execOfferAccept_keep s
  | offerTimeout => exact execOfferTimeout_keep s
  | offerAdvertise => exact execOfferAdvertise_keep s
  | iNop engine => exact execINop_keep engine s
  | iFence engine => exact execIFence_keep engine s
  | iEret engine => exact execIEret_keep engine s
  | iBreak engine => exact execIBreak_keep engine s
  | iSignal engine => exact execISignal_keep engine s
  | iWaitjob engine => exact execIWaitjob_keep engine s
  | iExit engine gs => exact execIExit_keep engine gs s
  | iMfs engine gd sr => exact execIMfs_keep engine gd sr s
  | iMts engine sr gs => exact execIMts_keep engine sr gs s
  | iAdd engine gd gs gt => exact execIAdd_keep engine gd gs gt s
  | iSub engine gd gs gt => exact execISub_keep engine gd gs gt s
  | iAnd engine gd gs gt => exact execIAnd_keep engine gd gs gt s
  | iOr engine gd gs gt => exact execIOr_keep engine gd gs gt s
  | iXor engine gd gs gt => exact execIXor_keep engine gd gs gt s
  | iSll engine gd gs gt => exact execISll_keep engine gd gs gt s
  | iSrl engine gd gs gt => exact execISrl_keep engine gd gs gt s
  | iSra engine gd gs gt => exact execISra_keep engine gd gs gt s
  | iSlt engine gd gs gt => exact execISlt_keep engine gd gs gt s
  | iSltu engine gd gs gt => exact execISltu_keep engine gd gs gt s
  | iMin engine gd gs gt => exact execIMin_keep engine gd gs gt s
  | iMax engine gd gs gt => exact execIMax_keep engine gd gs gt s
  | iMinu engine gd gs gt => exact execIMinu_keep engine gd gs gt s
  | iMaxu engine gd gs gt => exact execIMaxu_keep engine gd gs gt s
  | iMul engine gd gs gt => exact execIMul_keep engine gd gs gt s
  | iMulh engine gd gs gt => exact execIMulh_keep engine gd gs gt s
  | iMulhu engine gd gs gt => exact execIMulhu_keep engine gd gs gt s
  | iAddi engine gd gs imm => exact execIAddi_keep engine gd gs imm s
  | iAndi engine gd gs imm => exact execIAndi_keep engine gd gs imm s
  | iOri engine gd gs imm => exact execIOri_keep engine gd gs imm s
  | iXori engine gd gs imm => exact execIXori_keep engine gd gs imm s
  | iSlti engine gd gs imm => exact execISlti_keep engine gd gs imm s
  | iSltiu engine gd gs imm => exact execISltiu_keep engine gd gs imm s
  | iSlli engine gd gs count => exact execISlli_keep engine gd gs count s
  | iSrli engine gd gs count => exact execISrli_keep engine gd gs count s
  | iSrai engine gd gs count => exact execISrai_keep engine gd gs count s
  | iLis engine gd imm hw => exact execILis_keep engine gd imm hw s
  | iLik engine gd imm hw => exact execILik_keep engine gd imm hw s
  | iBeq engine gs gt off => exact execIBeq_keep engine gs gt off s
  | iBne engine gs gt off => exact execIBne_keep engine gs gt off s
  | iBlt engine gs gt off => exact execIBlt_keep engine gs gt off s
  | iBge engine gs gt off => exact execIBge_keep engine gs gt off s
  | iBltu engine gs gt off => exact execIBltu_keep engine gs gt off s
  | iBgeu engine gs gt off => exact execIBgeu_keep engine gs gt off s
  | iJ engine off => exact execIJ_keep engine off s
  | iJal engine off => exact execIJal_keep engine off s
  | iJr engine gs => exact execIJr_keep engine gs s
  | iJalr engine gd gs => exact execIJalr_keep engine gd gs s
  | iLd engine sz gd gb mode => exact execILd_keep engine sz gd gb mode s
  | iLdu engine sz gd gb mode => exact execILdu_keep engine sz gd gb mode s
  | iSt engine sz gs gb mode => exact execISt_keep engine sz gs gb mode s
  | iPush engine gq gb mode => exact execIPush_keep engine gq gb mode s
  | iPop engine gd gb mode => exact execIPop_keep engine gd gb mode s
  | iPopw engine gq gb mode => exact execIPopw_keep engine gq gb mode s
  | iMacr engine gs gt => exact execIMacr_keep engine gs gt s
  | iMsur engine gs gt => exact execIMsur_keep engine gs gt s
  | iCmac engine pair gs gt => exact execICmac_keep engine pair gs gt s
  | iCmacj engine pair gs gt => exact execICmacj_keep engine pair gs gt s
  | iAccz engine mask => exact execIAccz_keep engine mask s
  | iAccx engine gd k n wide => exact execIAccx_keep engine gd k n wide s
  | iCaccx engine gd pair n => exact execICaccx_keep engine gd pair n s
  | iAccr engine gd k => exact execIAccr_keep engine gd k s
  | iAccw engine k gs => exact execIAccw_keep engine k gs s
  | iSrchi engine gs => exact execISrchi_keep engine gs s
  | iSmax engine gs => exact execISmax_keep engine gs s
  | iSmin engine gs => exact execISmin_keep engine gs s
  | iCmaxm engine gs => exact execICmaxm_keep engine gs s
  | iVadd engine t vd vs vt => exact execIVadd_keep engine t vd vs vt s
  | iVsub engine t vd vs vt => exact execIVsub_keep engine t vd vs vt s
  | iVadds engine t vd vs vt => exact execIVadds_keep engine t vd vs vt s
  | iVsubs engine t vd vs vt => exact execIVsubs_keep engine t vd vs vt s
  | iVnegs engine t vd vs => exact execIVnegs_keep engine t vd vs s
  | iVabss engine t vd vs => exact execIVabss_keep engine t vd vs s
  | iVconjs engine t vd vs => exact execIVconjs_keep engine t vd vs s
  | iVmaxe engine t vd vs vt => exact execIVmaxe_keep engine t vd vs vt s
  | iVmine engine t vd vs vt => exact execIVmine_keep engine t vd vs vt s
  | iVand engine t vd vs vt => exact execIVand_keep engine t vd vs vt s
  | iVor engine t vd vs vt => exact execIVor_keep engine t vd vs vt s
  | iVxor engine t vd vs vt => exact execIVxor_keep engine t vd vs vt s
  | iVshrr engine t vd vs count => exact execIVshrr_keep engine t vd vs count s
  | iVshls engine t vd vs count => exact execIVshls_keep engine t vd vs count s
  | iVperm engine t vd vs vt => exact execIVperm_keep engine t vd vs vt s
  | iVmulq engine t vd vs vt => exact execIVmulq_keep engine t vd vs vt s
  | iVcmulq engine t vd vs vt => exact execIVcmulq_keep engine t vd vs vt s
  | iVcmuljq engine t vd vs vt => exact execIVcmuljq_keep engine t vd vs vt s
  | iVmacr engine t vs vt => exact execIVmacr_keep engine t vs vt s
  | iVcmac engine t pair vs vt => exact execIVcmac_keep engine t pair vs vt s
  | iVcmacj engine t pair vs vt => exact execIVcmacj_keep engine t pair vs vt s
  | iVsmax engine t vs => exact execIVsmax_keep engine t vs s
  | iVsmin engine t vs => exact execIVsmin_keep engine t vs s
  | iVcmaxm engine t vs => exact execIVcmaxm_keep engine t vs s
  | iVexp engine t gd vs => exact execIVexp_keep engine t gd vs s
  | iVsplat engine t vd gs => exact execIVsplat_keep engine t vd gs s
  | iVinsr engine t vd gs k => exact execIVinsr_keep engine t vd gs k s
  | iVextr engine t gd vs k => exact execIVextr_keep engine t gd vs k s
  | iVwidl engine t vd vs => exact execIVwidl_keep engine t vd vs s
  | iVwidh engine t vd vs => exact execIVwidh_keep engine t vd vs s
  | iSetvl engine t gd gs => exact execISetvl_keep engine t gd gs s
  | iVnarw engine t vd vs vt count => exact execIVnarw_keep engine t vd vs vt count s
  | iVld engine t vd gb mode => exact execIVld_keep engine t vd gb mode s
  | iVst engine t vd gb mode => exact execIVst_keep engine t vd gb mode s
  | iVldff engine t vd gb mode => exact execIVldff_keep engine t vd gb mode s
  | iVlds engine t vd gb k => exact execIVlds_keep engine t vd gb k s
  | iVsts engine t vd gb k => exact execIVsts_keep engine t vd gb k s
  | iVgather engine t vd gb vi sc => exact execIVgather_keep engine t vd gb vi sc s
  | iVscatter engine t vd gb vi sc => exact execIVscatter_keep engine t vd gb vi sc s
  | iVgatherff engine t vd gb vi sc => exact execIVgatherff_keep engine t vd gb vi sc s
  | iGmovt engine qd vs row => exact execIGmovt_keep engine qd vs row s
  | iGmovf engine vd qs row => exact execIGmovf_keep engine vd qs row s
  | iGmul engine qd qa qb => exact execIGmul_keep engine qd qa qb s
  | iGmulh engine qd qa qb => exact execIGmulh_keep engine qd qa qb s
  | iGmulbh engine qd qa qb => exact execIGmulbh_keep engine qd qa qb s
  | iGmac engine qd qa qb => exact execIGmac_keep engine qd qa qb s
  | iGmsu engine qd qa qb => exact execIGmsu_keep engine qd qa qb s
  | iGadd engine qd qa qb => exact execIGadd_keep engine qd qa qb s
  | iGsub engine qd qa qb => exact execIGsub_keep engine qd qa qb s
  | iGherm engine qd qa => exact execIGherm_keep engine qd qa s
  | iGzero engine qd => exact execIGzero_keep engine qd s
  | iGshr engine qd qa count => exact execIGshr_keep engine qd qa count s
  | iGstat engine gd => exact execIGstat_keep engine gd s
  | gussetAccept gusset => exact execGussetAccept_keep gusset s
  | gussetBegin gusset bank corrected uncorrectable => exact execGussetBegin_keep gusset bank corrected uncorrectable s
  | gussetCommit gusset work => exact execGussetCommit_keep gusset work s
  | gussetSreset requester gusset control => exact execGussetSreset_keep requester gusset control s
  | engSreset requester engine control => exact execEngSreset_keep requester engine control s
  | engGo requester engine control => exact execEngGo_keep requester engine control s
  | engOpen requester engine control => exact execEngOpen_keep requester engine control s
  | engHaltReq requester engine control => exact execEngHaltReq_keep requester engine control s
  | engineJobLateSignal engine => exact execEngineJobLateSignal_keep engine s
  | lateJobStop engine => exact execLateJobStop_keep engine s
  | engineEventDeliver => exact execEngineEventDeliver_keep s
  | mbDspOperation engine op => exact execMbDspOperation_keep engine op s
  | mbStatusWrite engine source => exact execMbStatusWrite_keep engine source s
  | mbGussetCommand engine tag op => exact execMbGussetCommand_keep engine tag op s
  | mbGussetRead engine vd qs read => exact execMbGussetRead_keep engine vd qs read s
  | mbSendMessage engine core inbox p mode => exact execMbSendMessage_keep engine core inbox p mode s
  | mbReceiveMessage engine inbox result p mode => exact execMbReceiveMessage_keep engine inbox result p mode s
  | mbRaiseHostInterrupt engine => exact execMbRaiseHostInterrupt_keep engine s
  | mbHalt engine => exact execMbHalt_keep engine s
  | mbReadCycleCounter engine d => exact execMbReadCycleCounter_keep engine d s
  | ldpcDecode unit => exact execLdpcDecode_keep unit s
  | ldpcEncode unit => exact execLdpcEncode_keep unit s
  | turboDecode unit => exact execTurboDecode_keep unit s
  | polarDecode unit => exact execPolarDecode_keep unit s
  | polarEncode unit => exact execPolarEncode_keep unit s
  | tbccDecode unit => exact execTbccDecode_keep unit s
  | tbccEncode unit => exact execTbccEncode_keep unit s
  | tbSegment unit => exact execTbSegment_keep unit s
  | tbAssemble unit => exact execTbAssemble_keep unit s
  | ldpcRateMatch unit => exact execLdpcRateMatch_keep unit s
  | ldpcRateRecover unit => exact execLdpcRateRecover_keep unit s
  | turboEncode unit => exact execTurboEncode_keep unit s
  | turboRateMatch unit => exact execTurboRateMatch_keep unit s
  | turboRateRecover unit => exact execTurboRateRecover_keep unit s
  | chest unit => exact execChest_keep unit s
  | eqWeights unit => exact execEqWeights_keep unit s
  | bfWeights unit => exact execBfWeights_keep unit s
  | weightApply unit => exact execWeightApply_keep unit s
  | eqApply unit => exact execEqApply_keep unit s
  | jmStats unit => exact execJmStats_keep unit s
  | jmSolve unit => exact execJmSolve_keep unit s
  | softDemap unit => exact execSoftDemap_keep unit s
  | modMap unit => exact execModMap_keep unit s
  | fft unit => exact execFft_keep unit s
  | ifft unit => exact execIfft_keep unit s
  | prachDetect chain => exact execPrachDetect_keep chain s
  | seqDetect chain => exact execSeqDetect_keep chain s
  | patchJob patch => exact execPatchJob_keep patch s
  | patchJobEnd patch code result ext outputs => exact execPatchJobEnd_keep patch code result ext outputs s
  | patchJobLateTimeout patch => exact execPatchJobLateTimeout_keep patch s
  | accSreset requester unit control => exact execAccSreset_keep requester unit control s
  | hemIntakeEntry chain => exact execHemIntakeEntry_keep chain s
  | hemWindowProcess chain stream fft => exact execHemWindowProcess_keep chain stream fft s
  | hemWindowMissing chain stream => exact execHemWindowMissing_keep chain stream s
  | hemTransmitRequest chain => exact execHemTransmitRequest_keep chain s
  | hemSgainWrite requester chain stream value => exact execHemSgainWrite_keep requester chain stream value s
  | hemStreamEnable requester chain stream config => exact execHemStreamEnable_keep requester chain stream config s
  | hemStreamDisable requester chain stream config => exact execHemStreamDisable_keep requester chain stream config s
  | hemSreset requester chain control => exact execHemSreset_keep requester chain control s
  | laneEnable requester lane control => exact execLaneEnable_keep requester lane control s
  | laneDisable requester lane control => exact execLaneDisable_keep requester lane control s
  | laneCalDone lane => exact execLaneCalDone_keep lane s
  | laneAdaptDone lane eye => exact execLaneAdaptDone_keep lane eye s
  | trainingRequestAccept lane frames => exact execTrainingRequestAccept_keep lane frames s
  | laneTrainingDone lane => exact execLaneTrainingDone_keep lane s
  | laneTrainTimeout lane => exact execLaneTrainTimeout_keep lane s
  | laneFailedRetry lane => exact execLaneFailedRetry_keep lane s
  | laneAligned received => exact execLaneAligned_keep received s
  | laneAlignLost received => exact execLaneAlignLost_keep received s
  | laneLos lane => exact execLaneLos_keep lane s
  | laneSignalReturn lane => exact execLaneSignalReturn_keep lane s
  | laneRetrain requester lane control => exact execLaneRetrain_keep requester lane control s
  | pllEnable requester quad pllB value => exact execPllEnable_keep requester quad pllB value s
  | pllLockLost quad pllB => exact execPllLockLost_keep quad pllB s
  | loopbackSlip drift => exact execLoopbackSlip_keep drift s
  | checkerLock lane arriving looped inverted => exact execCheckerLock_keep lane arriving looped inverted s
  | laneInject requester lane value => exact execLaneInject_keep requester lane value s
  | lanePowerRequest requester lane control frozen => exact execLanePowerRequest_keep requester lane control frozen s
  | lanePowerWakeDone lane transmit => exact execLanePowerWakeDone_keep lane transmit s
  | laneRetire lane => exact execLaneRetire_keep lane s
  | lanesRetireCommand value => exact execLanesRetireCommand_keep value s
  | fhPortEnable requester port control => exact execFhPortEnable_keep requester port control s
  | frameReceive port sub frame => exact execFrameReceive_keep port sub frame s
  | uplinkSymbolClose entry => exact execUplinkSymbolClose_keep entry s
  | cplaneSend port => exact execCplaneSend_keep port s
  | downlinkRequest port => exact execDownlinkRequest_keep port s
  | downlinkSymbolSend port => exact execDownlinkSymbolSend_keep port s
  | stWrite requester part index => exact execStWrite_keep requester part index s
  | stRead requester part index => exact execStRead_keep requester part index s
  | stInvalidate requester part index => exact execStInvalidate_keep requester part index s
  | cpriEnable requester lane value => exact execCpriEnable_keep requester lane value s
  | cpriHfsyncAchieved lane => exact execCpriHfsyncAchieved_keep lane s
  | cpriHfsyncLost lane => exact execCpriHfsyncLost_keep lane s
  | cpriHyperframeRx lane sub hfn bfn rai => exact execCpriHyperframeRx_keep lane sub hfn bfn rai s
  | cpriBasicFrameRx lane x hfn bfn control iq credit => exact execCpriBasicFrameRx_keep lane x hfn bfn control iq credit s
  | cpriBasicFrameTx lane supplied => exact execCpriBasicFrameTx_keep lane supplied s
  | seamLinkEnable requester link control => exact execSeamLinkEnable_keep requester link control s
  | seamCodewordReceive place errors uncorrectable blocks => exact execSeamCodewordReceive_keep place errors uncorrectable blocks s
  | seamIdentReceive link self boltId peerLink leader => exact execSeamIdentReceive_keep link self boltId peerLink leader s
  | seamUnitReceive link header unit route errors => exact execSeamUnitReceive_keep link header unit route errors s
  | seamUnitSend link => exact execSeamUnitSend_keep link s
  | seamAckSend link => exact execSeamAckSend_keep link s
  | seamAckReceive link seq => exact execSeamAckReceive_keep link seq s
  | seamNakReceive link seq => exact execSeamNakReceive_keep link seq s
  | seamNakResendTimeout link => exact execSeamNakResendTimeout_keep link s
  | seamReplayTimeout link => exact execSeamReplayTimeout_keep link s
  | seamPowerReceive link op index => exact execSeamPowerReceive_keep link op index s
  | seamLaneQuiet lane => exact execSeamLaneQuiet_keep lane s
  | seamTimeReceive link tick delay => exact execSeamTimeReceive_keep link tick delay s
  | boltFormAlone reachable => exact execBoltFormAlone_keep reachable s
  | boltJoin nonce most => exact execBoltJoin_keep nonce most s
  | boltChal => exact execBoltChal_keep s
  | boltProof measured => exact execBoltProof_keep measured s
  | boltAdmit => exact execBoltAdmit_keep s
  | boltRefuse => exact execBoltRefuse_keep s
  | boltAdmissionTimeout => exact execBoltAdmissionTimeout_keep s
  | epochChangePropose links rights eligible => exact execEpochChangePropose_keep links rights eligible s
  | epochChangeReceive => exact execEpochChangeReceive_keep s
  | epochChangeDecide => exact execEpochChangeDecide_keep s
  | epochCommitReceive => exact execEpochCommitReceive_keep s
  | epochAbandonReceive => exact execEpochAbandonReceive_keep s
  | epochChangeApply => exact execEpochChangeApply_keep s
  | epochWindowSwitch => exact execEpochWindowSwitch_keep s
  | epochChangeNoOutcome => exact execEpochChangeNoOutcome_keep s
  | boltHeartbeatSend => exact execBoltHeartbeatSend_keep s
  | boltHeartbeatReceive => exact execBoltHeartbeatReceive_keep s
  | boltPeerLost peer first => exact execBoltPeerLost_keep peer first s
  | boltCommandJoin nonce => exact execBoltCommandJoin_keep nonce s
  | boltCommandLeave => exact execBoltCommandLeave_keep s
  | boltCommandRepublish => exact execBoltCommandRepublish_keep s
  | remoteReadTimeout => exact execRemoteReadTimeout_keep s
  | peerEventReceive => exact execPeerEventReceive_keep s
  | seamPeerEvtPop requester => exact execSeamPeerEvtPop_keep requester s
  | memoryReadRequest unit address words upsets => exact execMemoryReadRequest_keep unit address words upsets s
  | memoryWriteRequest unit address data upsets => exact execMemoryWriteRequest_keep unit address data upsets s
  | scrubRead memid word upset => exact execScrubRead_keep memid word upset s
  | darningWatchExpire memid word => exact execDarningWatchExpire_keep memid word s
  | rowRepairCopyDone => exact execRowRepairCopyDone_keep s
  | dramRequest channel sub arrivals => exact execDramRequest_keep channel sub arrivals s
  | dramRhThrottleEnd channel unit => exact execDramRhThrottleEnd_keep channel unit s
  | dramRhWindowEnd channel => exact execDramRhWindowEnd_keep channel s
  | dramPortUrgent port => exact execDramPortUrgent_keep port s
  | dramRefresh channel rank pull => exact execDramRefresh_keep channel rank pull s
  | dramTempPoll channel rank rate => exact execDramTempPoll_keep channel rank rate s
  | dramZqCal channel rank => exact execDramZqCal_keep channel rank s
  | dramDqsOscRead channel rank drift inRange => exact execDramDqsOscRead_keep channel rank drift inRange s
  | dramRankRetrain channel rank blocked => exact execDramRankRetrain_keep channel rank blocked s
  | dramPowerDown channel rank => exact execDramPowerDown_keep channel rank s
  | dramSelfRefreshEntry channel rank => exact execDramSelfRefreshEntry_keep channel rank s
  | dramSelfRefreshExit channel rank => exact execDramSelfRefreshExit_keep channel rank s
  | dramRowRepair chip row resource blocked => exact execDramRowRepair_keep chip row resource blocked s
  | dramRetireRankCommand value => exact execDramRetireRankCommand_keep value s
  | dramMigrationRegion channel => exact execDramMigrationRegion_keep channel s
  | dramXlate requester address => exact execDramXlate_keep requester address s
  | dmaChEnable requester channel prio => exact execDmaChEnable_keep requester channel prio s
  | dmaChDisable requester channel prio => exact execDmaChDisable_keep requester channel prio s
  | dmaRing requester channel => exact execDmaRing_keep requester channel s
  | dmaTrig requester channel => exact execDmaTrig_keep requester channel s
  | dmaChSreset requester channel => exact execDmaChSreset_keep requester channel s
  | dmaTriggerArrive => exact execDmaTriggerArrive_keep s
  | dmaTriggerQueuePop channel => exact execDmaTriggerQueuePop_keep channel s
  | dmaChLinksWrite requester channel value => exact execDmaChLinksWrite_keep requester channel value s
  | dmaDescriptorFetch channel => exact execDmaDescriptorFetch_keep channel s
  | dmaTriggerTake channel => exact execDmaTriggerTake_keep channel s
  | dmaBurst engine => exact execDmaBurst_keep engine s
  | dmaDescriptorComplete channel => exact execDmaDescriptorComplete_keep channel s
  | dmaLinkReread channel => exact execDmaLinkReread_keep channel s
  | quiltBegin requester patch => exact execQuiltBegin_keep requester patch s
  | quiltStart requester patch => exact execQuiltStart_keep requester patch s
  | quiltStop requester patch => exact execQuiltStop_keep requester patch s
  | quiltAbort requester patch => exact execQuiltAbort_keep requester patch s
  | quiltReadFrame requester patch => exact execQuiltReadFrame_keep requester patch s
  | quiltReset requester patch => exact execQuiltReset_keep requester patch s
  | quiltAuthorize requester patch => exact execQuiltAuthorize_keep requester patch s
  | quiltStreamWord patch => exact execQuiltStreamWord_keep patch s
  | qpFdroRead requester patch => exact execQpFdroRead_keep requester patch s
  | qpEndpointBind requester patch endpoint out value => exact execQpEndpointBind_keep requester patch endpoint out value s
  | quiltUserEvent patch output level => exact execQuiltUserEvent_keep patch output level s
  | quiltPoisonRead patch block word => exact execQuiltPoisonRead_keep patch block word s
  | scrubSweepStart upsets => exact execScrubSweepStart_keep upsets s
  | quiltFrameScrub upsets lost => exact execQuiltFrameScrub_keep upsets lost s
  | firmwareQuiltSweep upsets => exact execFirmwareQuiltSweep_keep upsets s
  | hostLinkRetrain cause requester value repaired0 width0 repaired1 width1 => exact execHostLinkRetrain_keep cause requester value repaired0 width0 repaired1 width1 s
  | hostLinkDown => exact execHostLinkDown_keep s
  | hostLinkDownTimeout => exact execHostLinkDownTimeout_keep s
  | hostLinkUp rate repaired0 width0 repaired1 width1 => exact execHostLinkUp_keep rate repaired0 width0 repaired1 width1 s
  | hostMemoryRead function window offset bytes upsets => exact execHostMemoryRead_keep function window offset bytes upsets s
  | hostMemoryWrite function window offset data poisoned upsets => exact execHostMemoryWrite_keep function window offset data poisoned upsets s
  | hostCompletionReceive unit addr status ring data => exact execHostCompletionReceive_keep unit addr status ring data s
  | hostCompletionTimeout unit addr words ring => exact execHostCompletionTimeout_keep unit addr words ring s
  | hostRingEnable requester function ring config => exact execHostRingEnable_keep requester function ring config s
  | hostRingDisable requester function ring config => exact execHostRingDisable_keep requester function ring config s
  | hostRingDoorbell requester function ring index => exact execHostRingDoorbell_keep requester function ring index s
  | hostRingEntryPush function ring entry => exact execHostRingEntryPush_keep function ring entry s
  | hostRingEntryWrite function ring => exact execHostRingEntryWrite_keep function ring s
  | eventRaise event info => exact execEventRaise_keep event info s
  | mailboxGo requester function control => exact execMailboxGo_keep requester function control s
  | mailboxTimeout function => exact execMailboxTimeout_keep function s
  | functionLevelReset function => exact execFunctionLevelReset_keep function s
  | hotReset => exact execHotReset_keep s
  | swatchOpen via bytes sensed => exact execSwatchOpen_keep via bytes sensed s
  | swatchProof via bytes sensed => exact execSwatchProof_keep via bytes sensed s
  | swatchOpenTimeout session => exact execSwatchOpenTimeout_keep session s
  | swatchRead via bytes sensed => exact execSwatchRead_keep via bytes sensed s
  | swatchWrite via bytes sensed => exact execSwatchWrite_keep via bytes sensed s
  | swatchDescribe via bytes sensed => exact execSwatchDescribe_keep via bytes sensed s
  | swatchSubscribe via bytes sensed => exact execSwatchSubscribe_keep via bytes sensed s
  | swatchUnsubscribe via bytes sensed => exact execSwatchUnsubscribe_keep via bytes sensed s
  | swatchPoll via bytes sensed => exact execSwatchPoll_keep via bytes sensed s
  | swatchKeepalive via bytes sensed => exact execSwatchKeepalive_keep via bytes sensed s
  | swatchClose via bytes sensed => exact execSwatchClose_keep via bytes sensed s
  | swatchNotify session sub subindex => exact execSwatchNotify_keep session sub subindex s
  | swatchRelay via bytes => exact execSwatchRelay_keep via bytes s
  | swatchSessionIdleTimeout session => exact execSwatchSessionIdleTimeout_keep session s
  | rwsApply => exact execRwsApply_keep s
  | storeCompact => exact execStoreCompact_keep s
  | storeClear session value => exact execStoreClear_keep session value s
  | toleranceWrite group us hits => exact execToleranceWrite_keep group us hits s
  | nextUseReceive hits => exact execNextUseReceive_keep hits s
  | islandQuietExpire island quiet => exact execIslandQuietExpire_keep island quiet s
  | islandEntryStep island => exact execIslandEntryStep_keep island s
  | powerVoteRetry hits => exact execPowerVoteRetry_keep hits s
  | islandPrewake island => exact execIslandPrewake_keep island s
  | islandWakeRequest island bank => exact execIslandWakeRequest_keep island bank s
  | islandWakeComplete island => exact execIslandWakeComplete_keep island s
  | retentionBankSweepDone memid upsets corrected lost => exact execRetentionBankSweepDone_keep memid upsets corrected lost s
  | wakePin => exact execWakePin_keep s
  | pmEndDeepHold => exact execPmEndDeepHold_keep s
  | pmDeviceDeep hits => exact execPmDeviceDeep_keep hits s
  | pmDeviceOff => exact execPmDeviceOff_keep s
  | upsetReport cls ident => exact execUpsetReport_keep cls ident s
  | unitRetire cls ident cause => exact execUnitRetire_keep cls ident cause s
  | faultRetireCommand value => exact execFaultRetireCommand_keep value s
  | faultReinstateCommand record => exact execFaultReinstateCommand_keep record s
  | panelReset requester panel => exact execPanelReset_keep requester panel s
  | faultWarmResetCommand session value => exact execFaultWarmResetCommand_keep session value s
  | warmNAssert => exact execWarmNAssert_keep s
  | warmReset cause link => exact execWarmReset_keep cause link s
  | thimbleCheckpoint => exact execThimbleCheckpoint_keep s
  | thimbleFailover pair => exact execThimbleFailover_keep pair s
  | thimbleRestart passes => exact execThimbleRestart_keep passes s
  | coldBoot failed badCopies badRecords config untrained link => exact execColdBoot_keep failed badCopies badRecords config untrained link s
  | fwUpdate session address programmed => exact execFwUpdate_keep session address programmed s
  | fwSwitch session => exact execFwSwitch_keep session s
  | fwConfirm session => exact execFwConfirm_keep session s
  | fwRevert session => exact execFwRevert_keep session s
  | fwTrialTimeout => exact execFwTrialTimeout_keep s
  | fwRaiseFwSvn session millivolts => exact execFwRaiseFwSvn_keep session millivolts s
  | fwRaiseMbSvn session millivolts => exact execFwRaiseMbSvn_keep session millivolts s
  | attestNonceWrite session nonce => exact execAttestNonceWrite_keep session nonce s
  | attestReportRead session => exact execAttestReportRead_keep session s
  | keySlot0Write session value millivolts => exact execKeySlot0Write_keep session value millivolts s
  | keySlot1Write session value => exact execKeySlot1Write_keep session value s
  | fuseCustKey session value millivolts => exact execFuseCustKey_keep session value millivolts s
  | fuseRevoke session key millivolts => exact execFuseRevoke_keep session key millivolts s
  | fusePolicy session value millivolts => exact execFusePolicy_keep session value millivolts s
  | imageLoad session value => exact execImageLoad_keep session value s
  | quiltAuth session value => exact execQuiltAuth_keep session value s
  | diagChallenge session nonce => exact execDiagChallenge_keep session nonce s
  | diagUnlock session signature => exact execDiagUnlock_keep session signature s
  | tamper => exact execTamper_keep s
  | mbFramingStore session address programmed => exact execMbFramingStore_keep session address programmed s
  | thermWarn readings => exact execThermWarn_keep readings s
  | throttleStep readings => exact execThrottleStep_keep readings s
  | throttleReleaseStep readings => exact execThrottleReleaseStep_keep readings s
  | thermalTrip readings => exact execThermalTrip_keep readings s
  | thermalTripRelease readings => exact execThermalTripRelease_keep readings s
  | supplyAlert => exact execSupplyAlert_keep s
  | mbCoreRelease requester slot core => exact execMbCoreRelease_keep requester slot core s
  | mbCoreStart requester slot core address => exact execMbCoreStart_keep requester slot core address s
  | mbCoreStop requester slot core => exact execMbCoreStop_keep requester slot core s
  | mbCoreClearFault requester slot core => exact execMbCoreClearFault_keep requester slot core s
  | mbCmdqDoorbell requester slot queue commands => exact execMbCmdqDoorbell_keep requester slot queue commands s
  | mbCmdqCompletion slot queue => exact execMbCmdqCompletion_keep slot queue s
  | mbCounterWrite requester slot value => exact execMbCounterWrite_keep requester slot value s
  | mbTimerSet requester slot timer value => exact execMbTimerSet_keep requester slot timer value s
  | mbEndOfInterrupt requester slot vector => exact execMbEndOfInterrupt_keep requester slot vector s
  | mbMailboxCommand requester slot command argument board => exact execMbMailboxCommand_keep requester slot command argument board s
  | jtagExtest levels => exact execJtagExtest_keep levels s
  | jtagSamplePreload levels preload => exact execJtagSamplePreload_keep levels preload s
  | jtagBypass tdi => exact execJtagBypass_keep tdi s
  | jtagIdcode => exact execJtagIdcode_keep s
  | timeBaseReferencePeriod lags => exact execTimeBaseReferencePeriod_keep lags s
  | todMessageMissing => exact execTodMessageMissing_keep s
  | laneReferenceLost => exact execLaneReferenceLost_keep s
  | seamTimeBlockSend link => exact execSeamTimeBlockSend_keep link s
  | seamIdentBlockSend link => exact execSeamIdentBlockSend_keep link s
  | boltJoinRetry nonce => exact execBoltJoinRetry_keep nonce s
  | pcsRemoteFault port localFault remoteFault => exact execPcsRemoteFault_keep port localFault remoteFault s
  | thimblePairSelfTestDone pair passes => exact execThimblePairSelfTestDone_keep pair passes s
  | porNAssert => exact execPorNAssert_keep s
  | vbatLoss => exact execVbatLoss_keep s
  | illegalEncoding engine word => exact execIllegalEncoding_keep engine word s

/-- A part that a command does not write is as it was. -/
theorem exec_same {c : Instr} {s t : State} (h : exec c s = .next t) {k : Part} (hk : k ∉ writes c) : k.same s t := by
  have := exec_keep c s
  rw [h] at this
  exact this.same k (maskOf_testBit hk)

/-- A command keeps memory canonical. -/
theorem exec_wf {c : Instr} {s t : State} (h : exec c s = .next t) (hw : Memory.wf s.mem = true) :
    Memory.wf t.mem = true := by
  have := exec_keep c s
  rw [h] at this
  exact this.wf hw

end Sys2Proof.Machine
end

