-- ==== Sys2Proof/Tests/Slice0.lean ====
section
/-!
SUPPORT. Tests: worked examples of the spec, a check of each well-formedness predicate, and for each statement a state and
operands that meet its hypotheses.
-/

open Sys2Proof Sys2Proof.Machine Sys2Proof.Machine.Reg Sys2Proof.Machine.Ob

set_option Elab.async false

namespace Sys2Proof.Tests

/-- An entry on its way, which has crossed to the queue manager. -/
def someFlit : Flit := ⟨FlitKind.entry, 0, 0x440, 0, some (0x5100 + 81), false, List.replicate 8 (some 0)⟩
/-- A drain mark on its way. -/
def someMark : Flit := ⟨FlitKind.drain, 0, 0x440, 0, some (0x5100 + 81), false, []⟩
/-- The state at reset with flits on their way. -/
def withFlits (l : List Flit) : State := { State.reset with weft := { State.reset.weft with flits := l } }
/-- The state at reset with a count. -/
def atTick (n : Nat) : State := { State.reset with tb := { State.reset.tb with count := n } }

/-- A job of a type whose descriptor's first word has more bits `w`, in a phase. -/
def someJob (typ w : Nat) (phase : JobPhase) : Job :=
  { Job.staged 0 0 0 0 [some (BitVec.ofNat 64 (typ * 2 ^ 56 + w)), some 0, some 0, some 0, some 0, some 0, some 0, some 0] with
    phase := phase, estimate := 10 }
/-- The state at reset with jobs in the Shuttle. -/
def withJobs (l : List Job) : State := State.reset.setSh { State.reset.sh with jobs := l }
/-- The state with an arrival from a bolt peer. -/
def withArrival (s : State) (n : Nat) (b : SeamBody) : State := s.setSeam { s.seam with arrivals := [(n, b)] }

/-- Engine 0, a lead, running. -/
def running : State := State.reset.setEng 0 { State.reset.eng 0 with state := .running }
/-- Engine 0 running in a panel of an MB partition. -/
def runningMb : State := ((running.so oPART_STATE 0 3).so oPART_PERSONALITY 0 1).so oPART_PANEL_MASK 0 1

/-- Engine 0 running, with g1 at the start of its data memory, whose first word is zero. -/
def runningData : State :=
  let s := { (running.so oPART_STATE 0 3).so oPART_PANEL_MASK 0 1 with
    mem := State.reset.mem.storeWord (engineDataBase 0) (some 0) }
  let s := ((s.sf PM_ISLAND_STATE_STATE 0 0).so oPART_STATE 0 3)
  s.setEng 0 { (s.eng 0).setReg 1 (BitVec.ofNat 64 (engineDataBase 0)) with evec := 0x100 }

/-- A job of a type that runs on a unit, with some words of its descriptor. -/
def jobOn (typ unit : Nat) (l : List (Nat × Nat)) : State :=
  withJobs [{ someJob typ 0 .running with
    unit := unit, desc := l.foldl (fun d p => d.set p.1 (some (BitVec.ofNat 64 p.2))) (someJob typ 0 .running).desc }]
/-- The job that runs on a unit. -/
def jobAt (s : State) (u : Nat) : Job := (s.runningOn u).getD (someJob 0 0 .waiting)
/-- The same in a partition that owns panel 0, whose island runs. -/
def owning (s : State) : State := ((s.so oPART_STATE 0 3).so oPART_PANEL_MASK 0 1).sf PM_ISLAND_STATE_STATE 0 0
/-- Channel 0 enabled with rank 0 active, a number of ticks after reset. -/
def dramAt (n : Nat) : State := ((atTick n).sf DRAM_CH_CFG_ENABLE 0 1).sf DRAM_CH_STATE_RANK_STATE 0 1
/-- An accepted session 1 of a role, with a nonce. -/
def someSession (role part : Nat) (nonce : Option (List Byte)) : Session :=
  ⟨1, role, part, true, .mailbox 0, [], [], [], [], 0, 0, [], [], 0, none, [], [], 0, nonce, false, []⟩
/-- The state at reset with that session. -/
def withSession (role part : Nat) : State := { State.reset with sessions := [someSession role part none] }
/-- Panel memory of zeros where an image is read, with a session of partition 0. -/
def imageZeros : State :=
  let s := owning (withSession 1 0)
  { s with mem := (List.range 40).foldl (fun m i => m.storeWord (0x40000000 + 8 * i) (some 0)) s.mem }
/-- Queue q with one entry of zeros, in panel 0, for a consumer. -/
def entryQueue (s : State) (q u : Nat) : State :=
  let s := ((s.sf QM_QCFG_ENABLE q 1).sf QM_QCFG_CONSUMER q u).sf QM_QPTR_TAIL q 1
  let s := { s with mem := (List.range 8).foldl (fun (m : Memory) i => m.storeWord (panelBase 0 + 8 * i) (some 0)) s.mem }
  s.sf QM_QBASE_BASE q (panelBase 0 / 64)
/-- Channel 0 of partition 0, enabled, in a state. -/
def dmaOn (st : Nat) : State :=
  (((((State.reset.so oPART_STATE 0 3).so oDMA_P_CH_COUNT 0 8).sf PM_ISLAND_STATE_STATE 77 0).sf DMA_CH_CFG_ENABLE 0 1)).sf
    DMA_CH_STATE_STATE 0 st
/-- Ring 0 of PF0 enabled. -/
def ringOn (dir : Nat) : State :=
  let s := ((((State.reset.so oPART_STATE 0 3).so oPART_QUEUE_COUNT 0 8).sf HR_CFG_ENABLE 0 1).sf HR_CFG_DIR 0 dir).sf
    HR_CFG_SIZE_LOG2 0 4
  (s.sf QM_QCFG_ENABLE 0 1).sf QM_QCFG_CONSUMER 0 (functionUnit 0)
/-- Partition 0 in slot 0, an MB partition of panels 0 to 3 in a state. -/
def slotIn (st : Nat) : State :=
  ((((((State.reset.so oPART_STATE 0 st).so oPART_PERSONALITY 0 1).so oPART_HOST_FUNCTION 0 1).so oPART_PANEL_MASK 0 15).sf
    PM_ISLAND_STATE_STATE 0 0).so oPART_QUEUE_COUNT 0 512).so oDMA_P_CH_COUNT 0 32

/-! ## Worked examples of the spec -/

/-- R31: engine 175 (site 5 of P10), its instruction memory, and the shared memory of P10. -/
theorem test_addresses : engineDataBase 175 = 0x82BC0000 ∧ engineCodeBase 175 = 0x82BE0000 ∧ panelBase 10 = 0x42800000 := by
  decide
/-- R31: the last word of engine 175's data memory is data memory; the first byte past it maps nothing. -/
theorem test_decode_error : regionOf 0x82BD7FF8 = .engineData 175 0x17FF8 ∧ regionOf 0x82BD8000 = .nothing := by decide
/-- R81: carrier 5 runs NR µ = 1 with OFFSET 0 at count 1,000,000,000,000: SFN 746, slot 1, symbol 9. -/
theorem test_carrier_position :
    (let s := atTick 1000000000000;
      (s.setCarrier 5 { s.carrier 5 with on := true, ty := 1, start := some 0 }).carPos 5) = (746, 1, 9) := by decide +kernel
/-- R385: data byte 3 hit by the error 0x05 is corrected. -/
theorem test_selvage_example : decodeSymbols [0, 0, 0, 5, 0, 0, 0, 0, 0, 0] = .corrected 0 := by decide +kernel
/-- R417: at D = 11,200 ns with tREFI 1,950 ns and tRFC1 410 ns three commands pay the debt down. -/
theorem test_pay_down : payCount 11200 1950 410 = 3 := by decide
/-- R199, MD1: 16,384 squared adds 2^29 in MB-DSP decode; −32,768 squared gives 2^31 − 1 and saturates. -/
theorem test_mb_product : mbProduct 16384 16384 = (2 ^ 29, false) ∧ mbProduct (-32768) (-32768) = (2 ^ 31 - 1, true) := by decide
/-- R199, MD4: x = (16,384, 16,385) and y = (16,385, 16,385) give re 0 and im 16,386; (1, 1) by (16,384, 16,384) im 2. -/
theorem test_mb_complex :
    ((mbCmulq false 0 (16384, 16385) (16385, 16385)).1.1, (mbCmulq false 0 (16384, 16385) (16385, 16385)).2.1) = (0, 16386) ∧
    (mbCmulq false 0 (1, 1) (16384, 16384)).2.1 = 2 := by decide
/-- R199: the native real part of the first of these is −1. -/
theorem test_native_complex : roundShift 0 15 (16384 * 16385 - 16385 * 16385) = -1 := by decide
/-- R621: slot 2 holds the partition on P56 to P59; core 37 is engine 991. -/
theorem test_mb_addresses :
    (let s := ((((State.reset.so oPART_STATE 0 3).so oPART_PERSONALITY 0 1).so oPART_PANEL_MASK 0 (0xF * 2 ^ 56)).so
        oPART_HOST_FUNCTION 0 3).so oMB_P_DRAM_BASE 0 0x010080000000;
      (s.mbAddress 0 none 0x04800000, s.mbAddress 0 none 0x08309400)) = (.device 0x4E800000, .view 0x309400) := by
  decide +kernel
/-- R515: a write processed at 1,000,000,000,000 applies at the first boundary at least 2,048 ticks later. -/
theorem test_apply_tick : applyTick 1000000000000 % 61440 = 0 ∧ 1000000000000 + 2048 ≤ applyTick 1000000000000 ∧
    applyTick 1000000000000 - 61440 < 1000000000000 + 2048 := by decide
/-- R658: the IDCODE of the CX-9840 at stepping 0. -/
theorem test_idcode : (match exec .jtagIdcode State.reset with
    | .next t => t.out.head?
    | _ => none) = some (.tdo ((List.range 32).map (fun i => (0x0984055B : BitVec 32).getLsbD i))) := by decide +kernel
/-- R297: a best value at t = 37 of 839, with TSEQ 1,572,864, gives 69,363. -/
theorem test_delay : roundUp (37 * 1572864) 839 = 69363 := by decide

/-! ## Well-formedness: for each check a term that it refuses -/

theorem test_wf_unitNo : (Instr.queueEntryLand 0 4096).wf = false := by decide
theorem test_wf_partNo : (Instr.partCreate 0 8).wf = false := by decide
theorem test_wf_islandNo : (Instr.clockFloor 83 0).wf = false := by decide
theorem test_wf_queueNo : (Instr.queueEntryLand 65536 0).wf = false := by decide
theorem test_wf_log4 : (Instr.queueEnable 0 0 16 0 0).wf = false := by decide
theorem test_wf_carrierNo : (Instr.carrierTimerConfig 0 64 0 0).wf = false := by decide
theorem test_wf_comparatorNo : (Instr.comparatorArm 0 1024 0).wf = false := by decide
theorem test_wf_engineNo : (Instr.iNop 1088).wf = false := by decide
theorem test_wf_gussetNo : (Instr.gussetAccept 256).wf = false := by decide
theorem test_wf_bankNo : (Instr.gussetCommit 0 ⟨4, 0⟩).wf = false := by decide
theorem test_wf_chainNo : (Instr.prachDetect 4).wf = false := by decide
theorem test_wf_patchNo : (Instr.patchJob 8).wf = false := by decide
theorem test_wf_streamNo : (Instr.hemWindowProcess 0 32 0).wf = false := by decide
theorem test_wf_laneNo : (Instr.laneEnable 0 66 0).wf = false := by decide
theorem test_wf_quadNo : (Instr.pllEnable 0 17 false 0).wf = false := by decide
theorem test_wf_portNo : (Instr.fhPortEnable 0 48 0).wf = false := by decide
theorem test_wf_linkNo : (Instr.seamLinkEnable 0 8 0).wf = false := by decide
theorem test_wf_dieNo : (Instr.boltPeerLost 8 false).wf = false := by decide
theorem test_wf_dramChannelNo : (Instr.dramRhThrottleEnd 8 0).wf = false := by decide
theorem test_wf_dramPortNo : (Instr.dramPortUrgent 12).wf = false := by decide
theorem test_wf_rankNo : (Instr.dramRefresh 0 4 false).wf = false := by decide
theorem test_wf_dmaChannelNo : (Instr.dmaChEnable 0 4096 0).wf = false := by decide
theorem test_wf_endpointNo : (Instr.qpEndpointBind 0 0 8 false 0).wf = false := by decide
theorem test_wf_outputNo : (Instr.quiltUserEvent 0 32 false).wf = false := by decide
theorem test_wf_functionNo : (Instr.hostRingEnable 0 5 0 0).wf = false := by decide
theorem test_wf_ringNo : (Instr.hostRingEnable 0 0 256 0).wf = false := by decide
theorem test_wf_eventNo : (Instr.eventRaise 8192 0).wf = false := by decide
theorem test_wf_panelNo : (Instr.panelReset 0 64).wf = false := by decide
theorem test_wf_slotNo : (Instr.mbCoreRelease 0 4 0).wf = false := by decide
theorem test_wf_coreNo : (Instr.mbCoreRelease 0 0 64).wf = false := by decide
theorem test_wf_mbQueueNo : (Instr.mbCmdqCompletion 0 16).wf = false := by decide
theorem test_wf_timerNo : (Instr.mbTimerSet 0 0 16 0).wf = false := by decide
theorem test_wf_mbVectorNo : (Instr.mbEndOfInterrupt 0 0 32).wf = false := by decide
theorem test_wf_widthOk : (Instr.registerWrite 0 none 0 2 0).wf = false := by decide
theorem test_wf_groupNo : (Instr.toleranceWrite 16 0 []).wf = false := by decide
theorem test_wf_accepts : (Instr.registerWrite 0x980 none 0x3000008 8 0).wf = true ∧ (Instr.islandPrewake 82).wf = true ∧
    (Instr.hostRingEnable 0 16 255 0).wf = true := by decide

/-! ## Instruction words, written from their formats (R179, R180) -/

theorem test_word_vadd_w : elrynOf 0 0xE0642A00 = some (.iVadd 0 .w 3 4 5) := by decide +kernel
theorem test_word_vcmac : elrynOf 0 0xE4242C04 = some (.iVcmac 0 .ch true 4 5) := by decide +kernel
theorem test_word_vinsr : elrynOf 0 0xE8640A01 = some (.iVinsr 0 .w 3 4 1) := by decide +kernel
theorem test_word_vgather : elrynOf 0 0xD8643242 = some (.iVgather 0 .w 3 4 6 2) := by decide +kernel
theorem test_word_macr : elrynOf 0 0xA0042800 = some (.iMacr 0 4 5) := by decide +kernel
theorem test_word_srchi : elrynOf 0 0xA4070000 = some (.iSrchi 0 7) := by decide +kernel
theorem test_word_gmul : elrynOf 0 0xF1E21810 = some (.iGmul 0 15 2 3) := by decide +kernel
theorem test_word_gusset_reserved : elrynOf 0 0xF2021810 = none := by decide +kernel
theorem test_word_vldff_mode : elrynOf 0 0xD0649008 = none := by decide +kernel
theorem test_wf_epochNo : (Instr.queuePopRequest 0 ⟨0, 256⟩).wf = false := by decide

/-! ## StepRunsTheFrontCommand -/

theorem test_step_witness : (State.reset.command .supplyAlert).pending = [.supplyAlert] ∧ State.reset.pending = [] := by
  decide

/-! ## ResetHoldsTheStatedValues -/

theorem test_reset_witness : (0x40000000 : Nat) % 8 = 0 ∧ 0x40000000 + 8 ≤ checkBase ∧
    decodeSymbols (storedSymbols State.reset.mem 0x40000000) = .poison := by decide +kernel

/-! ## EveryStepKeepsMemoryCanonical -/

theorem test_canonical_witness : State.reset.MemoryOk ∧ ∃ t, step State.reset = .next t := ⟨by show Memory.wf _ = true; decide, _, rfl⟩

/-! ## EveryStepTakesOneCommandAndKeepsTheDie -/

theorem test_queue_witness : ∃ t, step (State.reset.command .wakePin) = .next t := ⟨_, rfl⟩

/-! ## CommandsWriteOnlyTheirParts -/

theorem test_frames_witness : Part.mem ∉ writes (.tbStep 0 0) ∧ Part.sessions ∉ writes (.iAdd 0 1 2 3) ∧
    (∃ t, exec (.tbStep 0 0) State.reset = .next t) := ⟨by decide, by decide, _, rfl⟩

/-! ## KeysSessionsAndChannelsChangeOnlyByTheirCommands -/

theorem test_only_these_witness : ∃ t, exec .supplyAlert State.reset = .next t := ⟨_, rfl⟩

/-! ## SelvageCheckSymbolsMakeBothSyndromesZero -/

theorem test_selvage_checks : (wordBytes 0x0102030405060708).length = 8 ∧
    gfSum (codewordOf (some 0x0102030405060708)) = 0 ∧ gfWeighted 0 (codewordOf (some 0x0102030405060708)) = 0 := by
  decide +kernel

/-! ## SelvageDecoderClassifiesBySyndromes -/

theorem test_selvage_decoder :
    gfSum [0, 0, 0, 5, 0, 0, 0, 0, 0, 0] = gfAlphaPow 50 1 ∧ gfWeighted 0 [0, 0, 0, 5, 0, 0, 0, 0, 0, 0] = gfAlphaPow 53 1 ∧
    (53 + 255 - 50) % 255 = 3 ∧ gfSum [0, 0, 0, 0, 0, 0, 0, 0, 2, 3] = 0x01 ∧
    gfWeighted 0 [0, 0, 0, 0, 0, 0, 0, 0, 2, 3] = 0x74 ∧ gfSum [1, 1, 0, 0, 0, 0, 0, 0, 0, 0] = 0 ∧
    gfWeighted 0 [1, 1, 0, 0, 0, 0, 0, 0, 0, 0] ≠ 0 ∧ gfSum [2, 1, 0, 0, 0, 0, 0, 0, 0, 0] ≠ 0 ∧
    gfWeighted 0 [2, 1, 0, 0, 0, 0, 0, 0, 0, 0] = 0 ∧ gfSum [0, 0, 0, 0, 0, 0, 0, 0, 0, 7] ≠ 0 := by
  decide +kernel

/-! ## SelvageDecodesWhatItEncodesAndAnyOneWrongSymbol -/

theorem test_selvage_corrects_witness : (5 : Byte) ≠ 0 ∧
    decodeSymbols ((codewordOf (some 0xFF)).set 9 ((codewordOf (some 0xFF)).getD 9 0 ^^^ 5)) = .corrected 0xFF := by
  decide +kernel

/-! ## StoredWordsReadBackAndOthersStay -/

theorem test_stored_witness : Memory.wf State.reset.mem = true ∧ 0x40000000 % 8 = 0 ∧ 0x40000000 < checkBase ∧
    (0x40000008 : Nat) ≠ 0x40000000 ∧
    ((State.reset.writeCell 0x40000000 0x2000 (some 7)).readCell 0x40000000 0x2000 0 0).1 = some 7 := by decide +kernel

/-! ## WeftEntriesMove -/

theorem test_weft_entries_witness :
    ((withFlits [{ someFlit with buffer := none }]).islandStops 81 = false ∧
      arbitrate bidOf ((withFlits [{ someFlit with buffer := none }]).nowAt 64) (Tab.get 4095 [] (64 * 256 + 81))
        (((withFlits []).competing 64 81).map Sum.inl ++
          ([⟨0x600, 0, 0, 0, .pop 0⟩].filter (fun f => (withFlits []).linkCredit (64 * 256 + 81) (looseVc f.body))).map Sum.inr)
        = some (.inr ⟨0x600, 0, 0, 0, .pop 0⟩)) ∧
    ((withFlits [someFlit]).firstFlit 0 0x440 = some someFlit ∧ someFlit.kind = FlitKind.entry ∧ someFlit.crossed = true ∧
      someFlit.dropped = false ∧ (withFlits [someFlit]).aliasOf 0 = none ∧
      (withFlits [someFlit]).accessStops unitQueueManager ((withFlits [someFlit]).slotAddr 0 0) 64 = none) ∧
    (State.reset.mayPop 5 0 = true ∧ State.reset.islandStops weftIsland = false ∧
      State.reset.epochCurrent 5 0 weftIsland = true ∧ State.reset.aliasOf 0 = none ∧
      State.reset.rf QM_QCFG_CONSUMER 0 = 0xFFF ∧ State.reset.occupancy 0 = 0 ∧
      State.reset.rf QM_QCFG_CONSUMER 0 ≠ 1 ∧ (State.reset.sf QM_QPTR_TAIL 0 1).occupancy 0 ≠ 0 ∧
      State.reset.accessStops unitQueueManager (State.reset.slotAddr 0 0) 64 = none) ∧
    ((withFlits [{ someMark with kind := .request }]).arrived (fun f => f.kind == .request && f.queue == 0 && f.producer == 0x440)
        = some { someMark with kind := .request } ∧ State.reset.aliasOf 0 = none ∧
      (withFlits [{ someMark with kind := .grant 1, buffer := some (0x5100 + 64) }]).arrived (fun f => f.grantTo 0 0x440)
        = some { someMark with kind := .grant 1, buffer := some (0x5100 + 64) }) ∧
    (let s : State := (State.setPort { State.reset with tb := { State.reset.tb with count := 2 ^ 20 } } 0 5
        { Port.idle with stalled := [(0, [])] }).sf QM_STALL_LIMIT_LIMIT 0 100
     (s.port 0 5).stalled ≠ [] ∧ (s.port 0 5).raised = false ∧ s.rf QM_STALL_LIMIT_LIMIT ≠ 0 ∧
      s.rf QM_STALL_LIMIT_LIMIT < s.tb.count - (s.port 0 5).since) ∧
    ((withFlits [someMark]).firstFlit 0 0x440 = some someMark ∧ someMark.kind = FlitKind.drain ∧ someMark.crossed = true) ∧
    (let s : State := { atTick 100000 with weft := { State.reset.weft with drains := [(0, 5, 3)] } }
     s.weft.drains.find? (fun d => d.1 == 0 && d.2.1 == 5) = some (0, 5, 3) ∧ spansNs (s.tb.count - 3) 10000 = true) ∧
    (82 < 83 ∧ (State.reset.sf PM_ISLAND_FREQ_CUR_MHZ 82 1).targetMhz 82 = 500) := by
  have hc : (withFlits []).linkCredit (64 * 256 + 81) (looseVc (.pop 0)) = true :=
    decide_eq_true (by show 0 < 1 + _; omega)
  refine ⟨⟨by decide +kernel, ?_⟩, ?_, ?_, ?_, ?_, ?_, ?_, ?_⟩
  · simp only [List.filter, hc]; rfl
  all_goals decide +kernel

/-! ## TimeSynchronizationFollowsItsStates -/

theorem test_time_sync_witness :
    (State.reset.anyRunning = false ∧ (State.reset.so oPART_STATE 0 3).anyRunning = true) ∧
    ((State.reset.so oTIME_SOURCE 0 1).ob oTIME_SOURCE ≠ 0 ∧ (State.reset.so oTIME_SOURCE 0 1).ob oTIME_SOURCE ≠ 3 ∧
      (State.reset.so oTIME_SOURCE 0 1).sync ≠ locked) ∧
    (State.reset.ob oTIME_SOURCE ≠ 3 ∧ (State.reset.sf TB_STATUS_STATE 0 1).sync = acquiring ∧
      (State.reset.sf TB_STATUS_STATE 0 2).sync = locked) ∧
    (let s := (atTick (2 ^ 40)).sf TB_STATUS_STATE 0 1
     let s := s.setTb { s.tb with within := some 0 }
     s.sync = acquiring ∧ s.ob oTIME_SOURCE ≠ 3 ∧ s.tb.stepWaiting = none ∧
      s.tb.within = some 0 ∧ 0 + 60 * ticksPerSecond ≤ s.tb.count) ∧
    (let s := (atTick (2 ^ 50)).sf TB_STATUS_STATE 0 3
     s.sync = holdover ∧ s.tb.stateSince + s.ob oTIME_HOLDOVER_LIMIT_S * ticksPerSecond ≤ s.tb.count) ∧
    (let s := (atTick (2 * ticksPerSecond)).so oTIME_SOURCE 0 3
     let t := s.setTb { s.tb with hostStateTick := some 0 }
     t.ob oTIME_SOURCE = 3 ∧ t.tb.hostStateTick = some 0 ∧ 0 + 2 * ticksPerSecond ≤ t.tb.count) ∧
    (let s := State.reset.setTb { State.reset.tb with stepWaiting := some 5 }
     s.tb.stepWaiting.isSome = true ∧ s.anyRunning = false) ∧
    (State.reset.islandStops 80 = false ∧ State.reset.tb.sysrefLost = false ∧
      ({ State.reset.tb with sysrefLost := true, sysrefBack := true } : TimeBase).sysrefBack = true) ∧
    (State.reset.tb.count < 2 ^ 60) ∧
    (let s := (atTick (11 * ticksPerSecond / 10)).so oTIME_SOURCE 0 2
     s.ob oTIME_SOURCE = 2 ∧ s.tb.ppsInLost = false ∧
      max (s.tb.ppsInTick.getD 0) s.tb.sourceTick + 11 * ticksPerSecond / 10 ≤ s.tb.count) ∧
    (State.reset.sync ≠ 4) := by
  refine ⟨?_, ?_, ?_, ?_, ?_, ?_, ?_, ?_, ?_, ?_, ?_⟩ <;> decide +kernel

/-! ## TimeBaseTimersAndComparatorsAct -/

theorem test_time_timers_witness :
    (State.reset.tb.count + 2 < 2 ^ 64 ∧ State.reset.tb.frac < 2 ^ 44 ∧ -2 ^ 44 ≤ State.reset.adj ∧
      State.reset.adj < 2 ^ 44) ∧
    (todGood (todMessage 1 37 4 6) = true ∧ todGood [] = false ∧ State.reset.tb.ppsInTick = none ∧
      State.reset.tb.todBad < 2) ∧
    (let s := (State.reset.so oTIME_SOURCE 0 2).setTb { State.reset.tb with todBad := 2 }
     todGood [] = false ∧ 2 ≤ s.tb.todBad ∧ s.ob oTIME_SOURCE = 2) ∧
    (let s := (atTick ticksPerSecond).setTb { (atTick ticksPerSecond).tb with ppsInTick := some 0, todSeen := false }
     s.tb.ppsInTick = some 0 ∧ s.tb.todSeen = false ∧ 0 + 9 * ticksPerSecond / 10 ≤ s.tb.count) ∧
    (let s := atTick (ticksPerSecond / 10)
     s.tb.todSent ≠ some (s.tb.count / ticksPerSecond) ∧ ticksPerSecond / 10 ≤ s.tb.count % ticksPerSecond ∧
      s.tb.count % ticksPerSecond ≤ 9 * ticksPerSecond / 10) ∧
    (State.reset.islandStops 80 = false ∧ State.reset.mayWriteCar unitThimble 63 = true ∧
      State.reset.bit TM_CAR_CFG_ENABLE 63 = false) ∧
    (let s := (State.reset.sf TM_CAR_CFG_ENABLE 63 1).setCarrier 63 { Carrier.off with written := true }
     let t := s.sf TM_CAR_OFFSET_OFFSET 63 frameTicks
     (s.carrier 63).written = true ∧ s.bit TM_CAR_CFG_ENABLE 63 = true ∧ (s.carrier 63).on = false ∧
      s.rf TM_CAR_CFG_TYPE 63 < 6 ∧ s.bit TM_CAR_CFG_ECP 63 = false ∧ s.rf TM_CAR_OFFSET_OFFSET 63 < frameTicks ∧
      (t.carrier 63).written = true ∧ t.bit TM_CAR_CFG_ENABLE 63 = true ∧ (t.carrier 63).on = false ∧
      frameTicks ≤ t.rf TM_CAR_OFFSET_OFFSET 63) ∧
    (let s := (atTick frameTicks).setCarrier 0 ⟨true, true, 0, false, 0, false, 0, none, none⟩
     let t := (atTick frameTicks).setCarrier 0 ⟨true, true, 0, false, 0, false, 0, some 0, none⟩
     (s.carrier 0).on = true ∧ (s.carrier 0).start = none ∧ s.carStart 0 ≤ s.tb.count ∧
      (t.carrier 0).on = true ∧ (t.carrier 0).slotEvent = true ∧ (t.carrier 0).start.isSome = true ∧
      (t.carrier 0).lastSlot ≠ some (t.slotStart 0)) ∧
    (State.reset.mayWriteCmp unitThimble 1023 = true) ∧
    (let s := (State.reset.sf TM_CMP_CTRL_ARM 3 1).setCmp 3 { Comparator.idle with ctrl := true }
     (s.cmp 3).ctrl = true ∧ s.bit TM_CMP_CTRL_ARM 3 = true) ∧
    (let s := State.reset.setCmp 3 { Comparator.idle with arm := true, due := 100 }
     let t := State.reset.setCmp 3 { Comparator.idle with arm := true, mode := 3 }
     s.armValid 3 = true ∧ (s.cmp 3).mode < 2 ∧ deadlinePassed (s.cmp 3).due s.now = false ∧ t.armValid 3 = false) ∧
    (let s := State.reset.setCmp 3 { Comparator.idle with arm := true, due := 0 }
     s.tb.fired < 16 ∧ s.cmpFirst s.cmpKeys = some 3 ∧ s.cmpLate 3 = 0 ∧ (s.cmp 3).kind = 0 ∧ (s.cmp 3).mode = 0 ∧
      s.comparatorOwner 3 = none ∧ 16 ≤ ({ State.reset.tb with fired := 16 } : TimeBase).fired) := by
  refine ⟨?_, ?_, ?_, ?_, ?_, ?_, ?_, ?_, ?_, ?_, ?_, ?_⟩ <;> decide +kernel

/-! ## ShuttleCommandsComplete -/

/-- A state whose submission queue 0 of partition 0 has one descriptor. -/
def submitted : State :=
  ((((((State.reset.so oPART_STATE 0 3).so oSHUTTLE_P_MAX_PENDING 0 8).sf SH_SQ_CFG_ENABLE 0 1).sf SH_SQ_CFG_SQ 0 0).sf
    QM_QPTR_TAIL 0 1).sf QM_QCFG_CONSUMER 0 unitShuttle)


theorem test_shuttle_witness :
    (let s := submitted
     let w := (s.markStep 2).setSh { (s.markStep 2).sh with next := 1 }
     let x := (w.popQueue 0 unitShuttle).2
     let e := List.replicate 8 (some (0 : Word))
     let j := Job.staged x.sh.nextJob 0 0 (x.rf SH_SQ_CFG_CQ 0) e
     let y := x.setSh { x.sh with jobs := x.sh.jobs ++ [j], nextJob := x.sh.nextJob + 1 }
     s.stepMay 2 = true ∧ s.servable 0 = true ∧ s.nextSq = some 0 ∧ w.popQueue (w.rf SH_SQ_CFG_SQ 0) unitShuttle = (.entry e, x) ∧
      x.sh.rejecting.contains 0 = false ∧ j.endOfPlan = false ∧
      ((y.modJob j.id (fun i => { i with early := y.stagingCode i (argsOk y i) })).plan 0 0).length
        < y.ob oSHUTTLE_P_MAX_PENDING 0) ∧
    (shuttleTrigger [Trigger.dma 0 0 0, Trigger.shuttle 1023 7] = some (1023, 7) ∧ State.reset.stepMay 3 = true ∧ State.reset.stepMay 4 = true ∧ State.reset.stepMay 1 = true ∧
      State.reset.islandStops weftIsland = false) ∧
    (let s := ((State.reset.so oPART_STATE 7 1).so oSHUTTLE_P_TRIG_BASE 7 1020).so oSHUTTLE_P_TRIG_COUNT 7 4
     s.mayWritePart unitThimble 7 = true ∧ s.triggerOwner 1023 = some 7) ∧
    ((withJobs [someJob 0 0 .ready]).bestJob (withJobs [someJob 0 0 .ready]).sh.jobs
        = some (someJob 0 0 .ready, unitNone) ∧
      (withJobs [someJob 0 0 .ready]).stepMay 6 = true ∧ (withJobs [someJob 0 0 .ready]).inputsStop (someJob 0 0 .ready) = none ∧
      (withJobs [someJob 0 0 .ready]).dispatchesNow < 4 ∧ State.reset.reportsNow < 4) ∧
    (let s := { withJobs [someJob 0 0 .ready] with tb := (atTick 1).tb }
     let r := { withJobs [someJob 0 0 .running] with tb := (atTick 1).tb }
     let g := { withJobs [someJob 0 0 .staged] with tb := (atTick 1).tb }
     s.stepMay 5 = true ∧ r.stepMay 5 = true ∧ g.stepMay 5 = true ∧ g.job 0 = some (someJob 0 0 .staged) ∧
      g.dropDue (someJob 0 0 .staged) (g.jobSlack (someJob 0 0 .staged)) = true ∧ (someJob 0 0 .staged).early = none ∧
      s.job 0 = some (someJob 0 0 .ready) ∧ s.dropDue (someJob 0 0 .ready) (s.jobSlack (someJob 0 0 .ready)) = true ∧
      r.job 0 = some (someJob 0 0 .running) ∧ (someJob 0 0 .running).abandoned = false ∧
      r.dropDue (someJob 0 0 .running) (r.jobSlack (someJob 0 0 .running)) = true) ∧
    ((withJobs [someJob 0 0 .ended]).nextRecord = some (someJob 0 0 .ended)) ∧
    (State.reset.mayWritePart unitThimble (127 / 16) = true ∧ State.reset.bit SH_SQ_CFG_ENABLE 127 = false ∧
      (State.reset.sf SH_SQ_CFG_ENABLE 127 1).bit SH_SQ_CFG_ENABLE 127 = true) := by
  refine ⟨?_, ?_, ?_, ?_, ?_, ?_, ?_⟩ <;> decide +kernel

/-! ## ForecastsAndOffersComplete -/

/-- A member of a bolt of two with offers on, and an LDPC decode job that may be offered. -/
def offering : State :=
  (((withJobs [someJob 0x10 (2 ^ 50) .ready]).so oBOLT_OFFERS_EN 0 1).sf SEAM_BOLT_VALID 0 1).sf SEAM_BOLT_MEMBERS 0 0x81


theorem test_offers_witness :
    (State.reset.sh.sent.find? (fun e => e.1 == 71) = none) ∧
    (offering.sh.jobs.find? offering.offerable = some (someJob 0x10 (2 ^ 50) .ready) ∧
      (offering.peers.filter (fun n => !offering.offersSuspended n)).foldr (insertBySpare (fun _ => 0)) [] ≠ []) ∧
    (let d := (someJob 0x10 0 .ready).desc
     let s := withArrival offering 7 (.offer 3 d [])
     let x := s.setSeam { s.seam with arrivals := [] }
     s.seam.arrivals = [(7, .offer 3 d [])] ∧ (Job.staged 0 0 0 0 d).accType = some .ldpcDec ∧ x.offersOn = true ∧
      x.offersSuspended 7 = false ∧ 0 < x.spareOf .ldpcDec ∧ (x.freeAcc .ldpcDec).head? = some (accUnit 0 0)) ∧
    (let j := { someJob 0x10 0 .ready with offerUntil := some 5 }
     let x := withJobs [j]
     let x := x.setSh { x.sh with dispatchTick := x.shTick, dispatchCount := 4 }
     x.stepMay 7 = true ∧ x.job 0 = some j ∧ j.offerUntil = some 5 ∧ x.shTick ≤ 5 ∧ x.atHead j = true ∧ State.reset.job 0 = none) ∧
    (offering.offersOn = true ∧ offering.seam.advertTick = none) := by
  refine ⟨?_, ?_, ?_, ?_, ?_⟩ <;> decide +kernel

/-! ## QueueContextsAreWrittenAsTheRuleSays -/

theorem test_queue_config_witness :
    State.reset.islandStops weftIsland = false ∧ isThimble unitThimble = true ∧ isThimble 0x980 = false ∧ State.reset.queueOwner 3 = none ∧
    ((State.reset.sf QM_QCFG_ENABLE 3 1).bit QM_QCFG_ENABLE 3) = true ∧ State.reset.bit QM_QCFG_ENABLE 3 = false ∧
    ((15, 0, 0) : Nat × Nat × Nat) ≠ (State.reset.rf QM_QCFG_DEPTH_LOG2 3, State.reset.rf QM_QCFG_GRANT_LOG2 3,
      State.reset.rf QM_QCFG_CONSUMER 3) ∧
    (((State.reset.so oPART_STATE 0 3).so oPART_QUEUE_COUNT 0 8).queueOwner 3) = some 0 ∧
    State.reset.queueValid 3 (State.reset.queueShape 3) = false ∧ bitsOf 64 47 6 ≠ State.reset.rf QM_QBASE_BASE 3 := by
  decide +kernel

/-! ## DeadlinesAreComparedModulo48Bits -/

theorem test_deadlines_witness : deadlineDiff 5 (2 ^ 48 + 3) = 2 ∧ deadlinePassed 5 7 = true ∧ slack 5 7 = -2 ∧
    deadlineDiff (2 ^ 47) 0 = 2 ^ 47 ∧ deadlinePassed (2 ^ 47) 0 = true ∧ deadlineDiff (2 ^ 47 - 1) 0 < 2 ^ 47 := by decide

/-! ## EngineWindowsAndStartTakeWritesOnlyWhileStopped -/

theorem test_engine_windows_witness :
    ((regAt none 0x10008008).map (fun h => h.reg.is ENG_START_PC_PC)) = some true ∧
    ((regAt none 0x10008028).map (fun h => (h.reg.is ENG_WIN_LIMIT_LAST, State.reset.mayWriteReg unitThimble h.reg h.index 0)))
      = some (true, true) ∧ (State.reset.eng 0).state = .held ∧ running.executes 0 = true := by decide +kernel

/-! ## ScalarArithmeticWritesItsRegister -/

theorem test_runs_witness :
    (running.executes 0 = true ∧ running.mbDsp 0 = false) ∧ (runningMb.executes 0 = true ∧ runningMb.mbDsp 0 = true) := by
  decide +kernel

/-! ## ControlInstructionsGoWhereTheRulesSay -/

theorem test_control_witness :
    ((running.eng 0).state = .running ∧ running.storesDone 0 = true ∧ (running.eng 0).pc % 4 = 0 ∧
      (running.setSeam { running.seam with awaited := [(0, 0, none)] }).storesDone 0 = false ∧ (running.eng 0).reg 7 = 0) ∧
    (let s := running.setEng 0 { running.eng 0 with evec := 0x100, job := some 3, g := Vector.replicate 32 1 }
     s.executes 0 = true ∧ s.mbDsp 0 = false ∧ (s.eng 0).evec ≠ 0 ∧ (s.eng 0).exc = false ∧ ((s.eng 0).reg 7).toNat % 4 ≠ 0 ∧
      (s.eng 0).job.isSome = true ∧ s.pushesLanded 0 = true) ∧
    (let f := { someFlit with producer := 0 }
     let s := (withFlits [f]).setEng 0 { (withFlits [f]).eng 0 with state := .running, job := some 3 }
     s.executes 0 = true ∧ s.pushesLanded 0 = false) ∧
    (let s := running.setEng 0 { running.eng 0 with state := .free }
     s.executes 0 = true ∧ s.mbDsp 0 = false ∧ (s.eng 0).state = .free) ∧
    ((running.readSpecial 0 0).isSome = true ∧ (running.readSpecial 0 31).isNone = true ∧
      ((running.eng 0).writeSpecial 0 1 5).isSome = true ∧ ((running.eng 0).writeSpecial 0 0 5).isNone = true) := by
  refine ⟨?_, ?_, ?_, ?_, ?_⟩ <;> decide +kernel

/-! ## ScalarMemoryAndQueueInstructionsComplete -/

theorem test_engine_memory_witness :
    (runningData.executes 0 = true ∧ runningData.mbDsp 0 = false) ∧
    (runningData.addressAligned 0 1 (.offset 0) 8 = .at (engineDataBase 0) (BitVec.ofNat 64 (engineDataBase 0)) ∧
      runningData.place (engineDataBase 0 / 8 * 8) = .cell (engineDataBase 0) 0 ∧
      decodeSymbols (storedSymbols runningData.mem (engineDataBase 0)) = .clean 0) ∧
    (runningData.accessFault 0 (engineDataBase 0) 8 8 false = none ∧
      runningData.accessFault 0 (engineDataBase 0) 8 8 true = none ∧
      runningData.accessStops 0 (engineDataBase 0) 8 = none ∧ runningData.accessStops 0 (engineDataBase 0) 64 = none ∧
      (runningData.setIsl 0 { runningData.isl 0 with closed := [0] }).accessStops 0 (engineDataBase 0) 8 = some (0, some 0) ∧
      runningData.accessFault 0 (engineDataBase 0) 64 8 false = none ∧
      runningData.accessFault 0 (engineDataBase 0) 64 8 true = none ∧
      runningData.accessFault 0 0x18000 8 8 false = some causeAccess ∧
      runningData.accessFault 0 0x18000 8 8 true = some causeAccess) ∧
    (runningData.queueReach 0 = true ∧ runningData.aliasOf 0 = none) ∧
    ((runningData.popQueue 0 0).1 = .denied ∧ ((runningData.sf QM_QCFG_CONSUMER 0 0).popQueue 0 0).1 = .empty ∧
      (((runningData.sf QM_QCFG_CONSUMER 0 0).sf QM_QPTR_TAIL 0 1).popQueue 0 0).1 = .entry (List.replicate 8 (some 0))) := by
  refine ⟨?_, ?_, ?_, ?_, ?_⟩ <;> decide +kernel

/-! ## VectorPartsAreWrittenPartByPart -/

theorem test_vector_parts_witness :
    8 ≤ ElemType.count .h ∧ 7 * ElemType.partWidth .h < 128 ∧ 7 < 8 * ElemType.parts .h ∧ 3 * ElemType.parts .h ≤ 7 ∧
      (0 : BitVec 5) ≠ 1 := by
  decide

/-! ## VectorMemoryInstructionsComplete -/

theorem test_vector_memory_witness :
    (let s := runningData.setEng 0 { runningData.eng 0 with vl := 16 }
     s.executes 0 = true ∧ s.mbDsp 0 = false ∧
      s.address 0 1 (.offset 0) = .at (engineDataBase 0) (BitVec.ofNat 64 (engineDataBase 0)) ∧
      (s.eng 0).vle .d = 2 ∧ (s.eng 0).elements .d = [0, 1] ∧
      s.elementFault 0 8 false (fun n => (engineDataBase 0 + n * 8) % 2 ^ 48) [0, 1] = none ∧
      s.elementFault 0 8 true (fun n => (engineDataBase 0 + n * 8) % 2 ^ 48) [0, 1] = none ∧
      s.elementFault 0 8 false (fun n => engineDataBase 0 + n * 12) [0, 1] = some (1, causeMisaligned) ∧
      (s.loadElems 0 8 (fun n => (engineDataBase 0 + n * 12)) 0 [0]).1 = some 0 ∧ some 0 ≠ some 1 ∧
      s.elementFault 0 8 true (fun n => engineDataBase 0 + n * 12) [0, 1] = some (1, causeMisaligned) ∧
      s.elementStop 0 8 (fun n => engineDataBase 0 + n * 8) [0, 1] = none ∧ (s.eng 0).accepted = 0 ∧
      (s.setIsl 0 { s.isl 0 with closed := [0] }).elementStop 0 8 (fun n => engineDataBase 0 + n * 8) [0, 1]
        = some (0, 0, some 0)) ∧
    ({ runningData.eng 0 with vl := 0 }.vle .d = 0) ∧
    (let s := { runningData with mem := runningData.mem.storeWord (engineDataBase 0 + 8) (some 7) }
     (s.loadElems 0 8 (fun n => engineDataBase 0 + n * 8) 0 [0, 1]).1.isSome = true) ∧
    ((3 : BitVec 5).toNat % 2 = 1) := by
  refine ⟨?_, ?_, ?_, ?_⟩ <;> decide +kernel

/-! ## GussetCommandsComplete -/

theorem test_gusset_witness :
    (let s := running.sf PNL_STATE_RETIRED 63 0
     s.executes 0 = true ∧ s.mbDsp 0 = false ∧ s.gussetUp (gussetOf 0) = true ∧ 0 % 17 ≠ 16 ∧ 16 % 17 = 16) ∧
    (let w : GWork := ⟨0, .mul 1 2 3, 0, none, false, false, 0, false⟩
     let s := State.reset.setGus 255 { Gusset.reset with presented := [(0, w)] }
     s.gussetReady 255 0 = true ∧ s.gussetOffer 255 0 = some w ∧
      ((List.range 4).map (fun i => ((s.gus 255).next + i) % 4)).find? (fun b => s.gussetReady 255 b) = some 0) ∧
    (let w : GWork := ⟨3, .mul 1 2 3, 0, none, false, false, 0, false⟩
     let x := { Gusset.reset with work := [w] }
     x.work.find? (fun w => w.bank == 3 && !w.begun) = some w ∧ x.readsPoison 3 w.op = false ∧
      { x with work := [{ w with begun := true, retired := true }] }.committing 3 0
        = some { w with begun := true, retired := true }) ∧
    (State.reset.islandStops 63 = false ∧ State.reset.mayWritePanel unitThimble (255 / 4) = true ∧ State.reset.present (gussetId 255) = true ∧
      State.reset.bit GUS_STATE_RETIRED 255 = false) := by
  refine ⟨?_, ?_, ?_, ?_⟩ <;> decide +kernel

/-! ## EngineControlCommandsComplete -/

theorem test_engine_control_witness :
    (State.reset.islandStops 63 = false ∧ State.reset.mayWritePanel unitThimble (1087 / 17) = true ∧ State.reset.siteUp 1087 = true ∧
      ((State.reset.setEng 1087 { State.reset.eng 1087 with state := .halted }).eng 1087).state = .halted ∧
      ((State.reset.setEng 1087 { State.reset.eng 1087 with state := .waiting }).eng 1087).state = .waiting) ∧
    (let e := { State.reset.eng 5 with job := some 0, lateTick := none }
     let s := (withJobs [{ someJob 1 0 .running with abandoned := true }]).setEng 5 e
     (s.eng 5).job = some 0 ∧ s.sh.jobs.any (fun j => j.id == 0 && j.abandoned) = true ∧ (s.eng 5).lateTick = none ∧
      (s.eng 5).lie = false ∧ ({ e with status := 2 }).lie = true) ∧
    (let s := { State.reset with engineEvents := [(1087, 7)] }
     s.engineEvents = [(1087, 7)] ∧ s.siteUp 1087 = true ∧ (s.eng 1087).inbox.length < 8) ∧
    (running.executes 0 = true ∧ (running.eng 0).asyncCause = none ∧ elrynOf 0 0xFFFFFFFF = none ∧
      elrynOf 0 0x00DB0010 = some (.iMfs 0 6 27) ∧ running.illegalHere 0 (.iMfs 0 6 27) = true ∧
      ({ State.reset.eng 5 with lateTick := some 3 } : Engine).lateTick = some 3) := by
  refine ⟨?_, ?_, ?_, ?_⟩ <;> decide +kernel

/-! ## MbDspOperationsExecuteOnTheEngine -/

/-- Engine 0 of an MB partition, with pointer 0 at the start of its data memory, which holds a message of zeros. -/
def mbCore : State :=
  let s := runningData.so oPART_PERSONALITY 0 1
  let m := fun (m : Memory) i => m.storeWord (engineDataBase 0 + 8 * i) (some 0)
  let s := { s with mem := (List.range 4).foldl m s.mem }
  (s.setEng 0 { (((s.eng 0).setReg 8 0).setReg 20 0x104) with evec := 0x100 }).setPort 0 0 { Port.idle with credits := 1 }

theorem test_mb_dsp_witness :
    (mbCore.executes 0 = true ∧ mbCore.mbDsp 0 = true ∧ ((mbCore.eng 0).dGet 4).toNat % 4 = 0 ∧
      ((mbCore.eng 0).dGet 4) &&& ~~~(0x103 : Half) ≠ 0 ∧ ((mbCore.eng 0).dGet 5) &&& ~~~(0x103 : Half) = 0) ∧
    (mbCore.gussetUp (gussetOf 0) = true ∧ 0 % 17 ≠ 16 ∧ (mbCore.gus (gussetOf 0)).mbCount (bankOf 0) < 8 ∧
      (mbCore.gus (gussetOf 0)).rowUsable (bankOf 0) 3 = true ∧
      (mbCore.gus (gussetOf 0)).readsPoison (bankOf 0) (.movf 1 3 2) = false ∧ mbCore.accessStops 0 (engineDataBase 0) 32 = none) ∧
    (mbCore.mbMessage 0 0 (.offset 0) false = .inl (engineDataBase 0, 0) ∧
      mbCore.mbInbox (mbCore.mbPart 0) 0 0 = 0 ∧ mbCore.queueReach 0 = true ∧
      (mbCore.readWords (engineDataBase 0) 0 1 4).1 = List.replicate 4 (some 0) ∧
      ((mbCore.readWords (engineDataBase 0) 0 1 4).2.port 0 0).stalled = [] ∧
      ((mbCore.readWords (engineDataBase 0) 0 1 4).2.port 0 0).credits = 1) ∧
    (mbCore.mbMessage 0 0 (.offset 0) true = .inl (engineDataBase 0, 0) ∧
      mbCore.coreOf (mbCore.mbPart 0) 0 = 0 ∧
      (((mbCore.sf QM_QCFG_CONSUMER 0 0).sf QM_QPTR_TAIL 0 1).popQueue 0 0).1 = .entry (List.replicate 8 (some 0))) ∧
    ((mbCore.eng 0).state = .running) := by
  refine ⟨?_, ?_, ?_, ?_, ?_⟩ <;> decide +kernel

/-! ## RetiringTakesAsynchronousCauses -/

theorem test_retire_witness :
    (let e := { running.eng 0 with evec := 0x100, status := 6, late := true, inbox := [3] }
     e.state = .running ∧ e.exc = false ∧ e.evec ≠ 0 ∧ e.lie = true ∧ e.eie = true ∧ e.inbox ≠ []) ∧
    ((running.eng 0).late = false ∧ (running.eng 0).inbox = [] ∧ (running.eng 0).evec = 0) := by
  refine ⟨?_, ?_⟩ <;> decide +kernel

/-! ## EngineCommandsNeedTheirDecodeMode -/

/-- The running engine with a late job and that cause enabled. -/
def lateRunning : State := running.setEng 0 { running.eng 0 with late := true, status := 2 }

theorem test_decode_mode_witness :
    elrynOn (.iNop 0) = some 0 ∧ mbDspOn (.mbHalt 0) = some 0 ∧ State.reset.executes 0 = false ∧
    (State.reset.eng 0).wait ≠ .gusset ∧ lateRunning.executes 0 = true ∧ (lateRunning.eng 0).asyncCause ≠ none ∧
    running.executes 0 = true ∧ running.mbDsp 0 = false ∧ runningMb.executes 0 = true ∧ runningMb.mbDsp 0 = true ∧
    (running.eng 0).asyncCause = none ∧ (runningMb.eng 0).asyncCause = none := by
  decide +kernel

/-! ## CodingJobsCompleteWithTheirReport -/

theorem test_coding_witness :
    (let s := jobOn 0x10 0x600 []
     s.accJob 0x600 0x10 = some (jobAt s 0x600) ∧ (jobAt s 0x600).outCount = 0 ∧
      ((AccRun.start s (jobAt s 0x600)).each (jobAt s 0x600).count (ldpcDecodeJob (jobAt s 0x600))).stop = none ∧
      (tbSegment (jobAt s 0x600) (AccRun.start s (jobAt s 0x600))).stop = none ∧
      (tbAssemble (jobAt s 0x600) (AccRun.start s (jobAt s 0x600))).spoiled = false ∧
      (matchJob (rateJob false (jobAt s 0x600)) (jobAt s 0x600) (AccRun.start s (jobAt s 0x600))).stop = none) ∧
    (let s := jobOn 0x38 0x600 [(4, 2 ^ 52)]
     s.accJob 0x600 0x38 = some (jobAt s 0x600) ∧
      ((AccRun.start s (jobAt s 0x600)).each ((jobAt s 0x600).fld 1 63 52) (fftBlock false (jobAt s 0x600))).stop
        = some codeDenied) ∧
    (let s := owning (jobOn 0x38 0x600 [(3, panelBase 0), (4, 2 ^ 52)])
     ((AccRun.start s (jobAt s 0x600)).each ((jobAt s 0x600).fld 1 63 52) (fftBlock false (jobAt s 0x600))).stop
        = some codePoison) ∧
    (let s := jobOn 0x10 0x600 [(2, 2 ^ 40)]
     (jobAt s 0x600).outCount = 1 ∧ s.queueReach (jobAt s 0x600).outQueue = true) ∧
    (isThimble unitThimble = true ∧ State.reset.usable 0x600 = true ∧ State.reset.runningOn 0x600 = none ∧
      (jobOn 0x10 0x600 []).runningOn 0x600 = some (jobAt (jobOn 0x10 0x600 []) 0x600) ∧
      (jobAt (jobOn 0x10 0x600 []) 0x600).report = none ∧ State.reset.islandStops (islandOf 0x600) = false) ∧
    (let s := (owning (jobOn 0x38 0x600 [(3, panelBase 0), (4, 2 ^ 52)])).sf PM_ISLAND_STATE_STATE 0 1
     ((AccRun.start s (jobAt s 0x600)).each ((jobAt s 0x600).fld 1 63 52) (fftBlock false (jobAt s 0x600))).stall.isSome
        = true) := by
  refine ⟨?_, ?_, ?_, ?_, ?_, ?_⟩ <;> decide +kernel

/-! ## MatrixJobsCompleteWithTheirReport -/

theorem test_matrix_witness :
    (let s := jobOn 0x41 0x622 []
     s.accJob 0x622 0x41 = some (jobAt s 0x622) ∧ (jobAt s 0x622).eqSrc ≠ 2 ∧
      (AccRun.withAlloc (AccRun.start s (jobAt s 0x622)) (jobAt s 0x622) (fun _ => []) (fun _ r => r)).stop = some codeDenied) ∧
    (let s := owning (jobOn 0x41 0x622 [(3, panelBase 0)])
     (AccRun.withAlloc (AccRun.start s (jobAt s 0x622)) (jobAt s 0x622) (fun _ => []) (fun _ r => r)).stop
        = some codePoison) ∧
    (let s := owning (jobOn 0x70 0x622 [])
     (AccRun.start s (jobAt s 0x622)).stop = none ∧ (softDemap (jobAt s 0x622) (AccRun.start s (jobAt s 0x622))).stop = none ∧
      (softDemap (jobAt s 0x622) (AccRun.start s (jobAt s 0x622))).spoiled = false) := by
  refine ⟨?_, ?_, ?_⟩ <;> decide +kernel

/-! ## HemCommandsComplete -/

/-- Chain 0 belongs to partition 0, whose stream 0 receives 128 samples a symbol on carrier timer 0, which runs. -/
def hemOn : State :=
  let s := (owning State.reset).so oHEM_OWNER 0 0
  let s := ((s.sf TM_CAR_CFG_ENABLE 0 1).setCarrier 0 { Carrier.off with on := true, start := some 0 }).sf HEM_SCFG_ENABLE 0 1
  let s := ((s.sf HEM_SCFG_LOG2N 0 7).sf HEM_SCFG_RING_LOG2 0 12).sf HEM_SCFG_NSC 0 12
  let s := (s.sf HEM_SRING_BASE 0 (panelBase 1 / 64)).sf HEM_SGRID_BASE 0 (panelBase 1 / 64)
  let s := s.so oPART_PANEL_MASK 0 3
  let s := ((s.sf QM_QCFG_ENABLE 0 1).sf QM_QCFG_CONSUMER 0 (hemUnit 0)).sf QM_QPTR_TAIL 0 1
  let s := { s with mem := (List.range 8).foldl (fun (m : Memory) i => m.storeWord (panelBase 0 + 8 * i) (some 0)) s.mem }
  (s.sf QM_QBASE_BASE 0 (panelBase 0 / 64)).so oHEM_FFT_RESERVE 0 8

/-- The same with the first word of the entry at the head of the intake queue, and with samples in the ring. -/
def hemGiven (w : Nat) (runs : List HemRun) : State :=
  { hemOn with mem := hemOn.mem.storeWord (panelBase 0) (some (BitVec.ofNat 64 w)) }.setStream 0 { hemOn.stream 0 with runs := runs }

theorem test_hem_witness :
    (let s := jobOn 0x80 0x740 []
     ((owning s).so oHEM_OWNER 0 0).so oHEM_FFT_RESERVE 0 8 |>.reservedFfts 0 ≠ []) ∧
    (let s := jobOn 0x80 0x740 []
     s.accJob (hemUnit 0) 0x80 = some (jobAt s 0x740) ∧ (jobAt s 0x740).outCount = 0 ∧
      (prachDetect (jobAt s 0x740) (AccRun.start s (jobAt s 0x740))).stop = some codeDenied) ∧
    (let s := owning (jobOn 0x80 0x740 [(3, panelBase 0), (4, panelBase 0), (5, panelBase 0), (6, 2 ^ 56 + panelBase 0)])
     (prachDetect (jobAt s 0x740) (AccRun.start s (jobAt s 0x740))).stop = some codePoison) ∧
    (let s := hemGiven (128 * 65536) []
     let e := intakeOf (s.peek 0 0)
     s.intakeHead 0 0 = true ∧ (s.popQueue (s.rf HEM_CFG_INQ 0) (hemUnit 0)).1 = .entry (s.peek 0 0) ∧ e.ok = true ∧
      (s.popQueue 0 (hemUnit 0)).2.bit HEM_SCFG_ENABLE (streamIx 0 e.stream) = true ∧
      (s.popQueue 0 (hemUnit 0)).2.bit HEM_SCFG_DIR (streamIx 0 e.stream) = false ∧
      s.onGrid (s.shape 0) (fullTick (s.hemTick 0) e.tick) = true ∧ (s.stream 0).done = none) ∧
    ((intakeOf (hemOn.peek 0 0)).ok = false) ∧
    (let s := hemGiven 0 [⟨0, 1000, 0⟩]
     s.hemOwner 0 = some 0 ∧ s.windowOpen 0 0 = true ∧ s.windowComplete 0 (s.stream 0).next = true ∧ s.streamStops 0 0 = none ∧
      s.fftReserved (accUnit 0 21) = true ∧
      (s.readSamples 0 0 0 64 (s.windowStart 0 0) 128).1.any Option.isNone = false ∧
      ((s.sf HEM_SRING_BASE 0 (panelBase 0 / 64)).readSamples 0 0 0 64 (s.windowStart 0 0) 128).1.any Option.isNone = true) ∧
    (let s := hemOn.setTb { hemOn.tb with count := 100000 }
     s.windowOpen 0 0 = true ∧ s.windowComplete 0 (s.stream 0).next = false ∧ s.streamStops 0 0 = none ∧
      ((s.sf PM_ISLAND_STATE_STATE 0 1).sf PM_ISLAND_STATE_STATE 1 1).streamStops 0 0 ≠ none ∧
      s.windowEnd 0 0 + s.rf HEM_BUDGET_TICKS 0 ≤ s.hemTick 0) ∧
    ((hemGiven 256 []).intakeHead 0 1 = true ∧ (hemGiven 256 []).reservedFfts 0 ≠ [] ∧ (hemGiven 256 []).streamStops 0 0 = none) ∧
    (hemOn.mayWriteHem unitThimble 0 = true ∧ hemOn.bit HEM_SCFG_ENABLE 0 = true ∧ hemOn.bit HEM_SCFG_DIR 0 = false ∧
      hemOn.bit HEM_SCFG_ENABLE 1 = false ∧ State.reset.usable (hemUnit 0) = true ∧ State.reset.runningOn (hemUnit 0) = none ∧
      State.reset.islandStops (islandOf 0x740) = false) ∧
    (let f := fun (s : State) => ((((((s.sf HEM_SCFG_DIR 31 0).sf HEM_SCFG_HALF 31 0).sf HEM_SCFG_AGC 31 1).sf
        HEM_SCFG_CARRIER 31 3).sf HEM_SCFG_LOG2N 31 9).sf HEM_SCFG_RING_LOG2 31 13).sf HEM_SCFG_NSC 31 12
     (f State.reset).streamValid 31 = true ∧ (f (State.reset.sf HEM_SWIN_SHIFT 31 13)).streamValid 31 = false) := by
  refine ⟨?_, ?_, ?_, ?_, ?_, ?_, ?_, ?_, ?_, ?_⟩ <;> decide +kernel

/-! ## LaneCommandsComplete -/

/-- A lane that is enabled in a state. -/
def laneIn (n st : Nat) : State := (State.reset.sf LANE_CTRL_ENABLE n 1).sf LANE_STATE_STATE n st

/-- The PLL of quad 12 is on at the rate of a Seam lane. -/
def pllOn : State := ((State.reset.sf LQ_PLL_A_ENABLE 12 1).sf LQ_PLL_A_RATE 12 6).sf LQ_PLL_A_LOCKED 12 1

theorem test_lane_witness :
    (State.reset.mayWriteLane unitThimble 48 = true ∧ State.reset.die.variant.lanePresent 48 = true ∧
      State.reset.bit LANE_CTRL_ENABLE 48 = false ∧ State.reset.islandStops (laneIsland 48) = false ∧
      (let f := fun (s : State) => ((((((s.sf LANE_CTRL_PLL_SEL 48 (0x80000000 / 2 ^ 30)).sf LANE_CTRL_MODE 48 (0x80000000 / 2 ^ 28)).sf
         LANE_CTRL_LOOP 48 (0x80000000 / 2 ^ 26)).sf LANE_CTRL_TRAIN_EN 48 (0x80000000 / 2 ^ 25)).sf LANE_CTRL_POL_TX 48
         (0x80000000 / 2 ^ 24)).sf LANE_CTRL_POL_RX 48 (0x80000000 / 2 ^ 23)).sf LANE_CTRL_PRECODE 48 (0x80000000 / 2 ^ 22)
       (f pllOn).laneEnableOk 48 = true ∧ (f State.reset).laneEnableOk 48 = false ∧ 0x80000000 / 2 ^ 20 % 4 = (f pllOn).rf LANE_CTRL_TX_PWR 48 ∧
         0x80000000 / 2 ^ 18 % 4 = (f pllOn).rf LANE_CTRL_RX_PWR 48)) ∧
    (let s := ((laneIn 48 laneUp).sf SEAM_LINK_CTRL_ENABLE 0 1).sf SEAM_LINK_CTRL_SLOT_MASK 0 3
     let s := (s.sf SEAM_LINK_STATE_STATE 0 linkUp).sf LANE_STATE_STATE 49 laneUp
     s.bit LANE_CTRL_ENABLE 48 = true ∧ s.seamActive 48 = true ∧ (s.disableLane 48).seamActive 48 = true) ∧
    ((laneIn 0 laneUp).seamActive 0 = false ∧ (laneIn 0 laneUp).rf LANE_CTRL_TX_PWR 0 = 0) ∧
    ((laneIn 65 laneCal).laneState 65 = laneCal ∧ (laneIn 65 laneAdapt).rf LANE_CTRL_MODE 65 ≠ 1 ∧
      (laneIn 65 laneAdapt).bit LANE_CTRL_TRAIN_EN 65 = false ∧
      ((laneIn 65 laneTraining).lane 65).result = 0) ∧
    (let s := ((laneIn 48 laneTraining).setLane 48
      { Lane.idle with farReady := true, readySent := 3, heard := 2 ^ 13, heardFor := 2, control := 1 })
     (s.lane 48).farReady = true ∧ 3 ≤ (s.lane 48).readySent ∧ (s.lane 48).result = 0 ∧ (s.lane 48).heard = 1 * 2 ^ 13 ∧
      (s.lane 48).heardFor = 2 ∧ (s.lane 48).control = 1) ∧
    (let s := (laneIn 0 laneAligning).sf LQ_PLL_A_RATE 0 4
     s.laneHears 0 = true ∧ inputFits (s.laneRate 0) .pcs = true ∧ ((s.lane 0).search.seek .pcs).aligned = true ∧
      (LaneSearch.idle.watch .pcs).lost = true ∧ (LaneSearch.idle.seek (.bits [])).aligned = false ∧
      inputFits 1 (.bits []) = true ∧ (LaneSearch.idle.watch (.bits [])).lost = false) ∧
    (let s := (((laneIn 3 laneTest).sf LANE_CTRL_LOOP 3 1).sf LANE_TEST_GEN_PAT 3 0).sf LANE_TEST_CHK_PAT 3 0
     s.rf LANE_TEST_GEN_PAT 3 = 0x500000 / 2 ^ 28 % 16 ∧ s.bit LANE_TEST_GEN_EN 3 = natBit 0x500000 23 ∧
      s.rf LANE_TEST_CHK_PAT 3 = 0x500000 / 2 ^ 24 % 16 ∧ natBit 0x500000 22 = true ∧
      ((0x400000 : Half) ||| 0x100000).toNat = 0x500000 ∧ s.laneState 3 = laneTest ∧ s.rf LANE_CTRL_LOOP 3 = 1) ∧
    ((laneIn 3 laneTest).receivedBits 3 [true] 0 [] = ([true], laneIn 3 laneTest)) ∧
    (let s := { laneIn 3 laneFailed with tb := (atTick ticksPerSecond).tb }
     s.laneState 3 = laneFailed ∧ (s.lane 3).since + ticksPerSecond ≤ s.tb.count) ∧
    ((laneIn 3 laneUp).losArmed 3 = true ∧ ((laneIn 3 laneUp).sf LANE_STATE_LOS 3 1).bit LANE_STATE_LOS 3 = true) ∧
    (((laneIn 3 laneTest).sf LANE_CTRL_LOOP 3 3).rf LANE_CTRL_LOOP 3 = 3 ∧
      ((laneIn 3 laneTest).sf LANE_TEST_CHK_EN 3 1).bit LANE_TEST_CHK_EN 3 = true ∧
      State.reset.rf LANE_TEST_CHK_PAT 3 ≤ 10) ∧
    ((State.reset.sf LANE_STATE_TX_PWR_NOW 3 1).rf LANE_STATE_TX_PWR_NOW 3 = 1 ∧ State.reset.rf LANE_CTRL_TX_PWR 3 = 0) ∧
    (isThimble unitThimble = true ∧ State.reset.islandStops (laneIsland 48) = false ∧
      (quadLanes 12).any State.reset.die.variant.lanePresent = true ∧ State.reset.bit LQ_PLL_A_ENABLE 12 = false ∧
      (quadLanes 12).any (fun n => State.reset.rateAllowed n 6) = true ∧
      ((State.reset.sf LQ_PLL_A_RATE 12 (0x80060000 / 2 ^ 16)).sf LQ_PLL_A_SPREAD_PPM 12 0x80060000).rf LQ_PLL_A_RATE 12 = 6) ∧
    (pllOn.bit LQ_PLL_A_ENABLE 12 = true ∧ pllOn.bit LQ_PLL_A_LOCKED 12 = true) := by
  refine ⟨?_, ?_, ?_, ?_, ?_, ?_, ?_, ?_, ?_, ?_, ?_, ?_, ?_, ?_⟩ <;> decide +kernel

/-! ## FronthaulCommandsComplete -/

/-- Port 0 of one lane at 25 Gb/s, whose lane runs. -/
def portLane : State :=
  ((State.reset.sf LANE_CTRL_ENABLE 0 1).sf LQ_PLL_A_ENABLE 0 1).sf LQ_PLL_A_RATE 0 3

/-- The state with port 0 up. -/
def portUp (s : State) : State := (s.sf FH_PORT_CTRL_ENABLE 0 1).sf FH_PORT_STATE_UP 0 1

/-- Partition 0 has entry 0 of the stream table, and stages words for it. -/
def stOwner : State :=
  let s := ((owning State.reset).so oFH_P_ST_COUNT 0 1).so oTIMER_CARRIER_MASK 0 1
  (((s.sf FH_ST_DATA0_W 0 (2 ^ 62)).sf FH_ST_DATA1_W 0 (2 ^ 55 + panelBase 0)).sf FH_ST_DATA3_W 0 (2 ^ 32))

/-- A queue of the port at the start of panel 0, with one entry of zeros. -/
def portQueue (s : State) : State :=
  let s := ((s.sf QM_QCFG_ENABLE 0 1).sf QM_QCFG_CONSUMER 0 (portUnit 0)).sf QM_QPTR_TAIL 0 1
  let s := { s with mem := (List.range 8).foldl (fun (m : Memory) i => m.storeWord (panelBase 0 + 8 * i) (some 0)) s.mem }
  s.sf QM_QBASE_BASE 0 (panelBase 0 / 64)

/-- The state with lane 0 in service in both directions. -/
def laneOn (s : State) : State :=
  ((((s.sf LANE_CTRL_ENABLE 0 1).sf LANE_STATE_RX_PWR_NOW 0 0).sf LANE_STATE_TX_PWR_NOW 0 0).sf LANE_STATE_STATE 0 laneUp)

theorem test_fronthaul_witness :
    (let s := portUp (laneOn (portQueue (owning State.reset)))
     s.portHears 0 = true ∧ s.portSends 0 = true ∧ s.frameStops 0 (ethernetFcs []) = none ∧ s.islandStops 72 = false ∧
      s.die.variant.lanePresent 0 = true ∧ Tab.get none s.fh.held 0 = none ∧ s.cplaneDue 0 = some 0 ∧ s.nextDown 0 = none ∧
      (s.sf FH_PORT_QUEUES_TXQ_C 0 0).cplaneDue 0 = some 0) ∧
    (let s := laneOn (((runningMb.so oPART_LANE_MASK 0 1).so oPART_STATE 0 3).setQstate 0 qRunning)
     s.laneHearsData 0 = true ∧ s.laneSendsData 0 = true ∧ s.framingRuns 0 = true) ∧
    (let k := (BitVec.ofNat 32 (1500 * 2 ^ 11) ||| (0x80000000 : Half)).toNat
     let f := fun (s : State) => (((s.sf FH_PORT_CTRL_SPEED 0 (k / 2 ^ 28)).sf FH_PORT_CTRL_LANES 0 (k / 2 ^ 26)).sf
       FH_PORT_CTRL_FEC 0 (k / 2 ^ 25)).sf FH_PORT_CTRL_MTU 0 (k / 2 ^ 11 % 2 ^ 14)
     k / 2 ^ 11 % 2 ^ 14 = 1500 ∧ portLane.bit FH_PORT_CTRL_ENABLE 0 = false ∧ (f portLane).portValid 0 = true ∧
      (f State.reset).portValid 0 = false) ∧
    (let l := ethernetFcs []
     let m := buildFrame 1 2 0 0 0x88F7 []
     let s := (portUp State.reset).so oTIME_PTP_PORT_MASK 0 1
     s.bit FH_PORT_STATE_UP 0 = true ∧ ([] : List Byte) ≠ ethernetFcs [] ∧ l.drop (l.length - 4) = ethernetFcs [] ∧
      s.ingressBytes 0 = 0 ∧ m.length = 64 ∧ m.drop 60 = ethernetFcs (m.take 60) ∧ (parseFrame m).ethertype = 0x88F7 ∧
      64 ≤ s.rf FH_PORT_CTRL_MTU 0 + 22 ∧ natBit (s.ob oTIME_PTP_PORT_MASK) 0 = true) ∧
    (stOwner.mayWritePart unitThimble 0 = true ∧ stOwner.stWriteStatus 0 0 = 0 ∧ stOwner.stWriteStatus 0 1 = 1 ∧
      stOwner.entryOwner 0 = some 0 ∧ stOwner.entryOwner 32767 = none) ∧
    (let y : UpSymbol := ⟨0, 0, 0, 0, 0, false, [], false, false, false, false, 0, 0⟩
     let s := State.reset.setFh { State.reset.fh with ups := [y] }
     s.fh.ups.find? (fun y => y.entry == 0 && decide (y.close ≤ s.tb.count)) = some y ∧ y.closed = false) ∧
    (let s := portUp (portQueue (owning State.reset))
     s.bit FH_PORT_STATE_UP 0 = true ∧ 0 < s.occupancy (s.rf FH_PORT_QUEUES_TXQ_C 0) ∧
      (s.popQueue 0 (portUnit 0)).1 = .entry (List.replicate 8 (some 0)) ∧
      fieldAt (carriedBytes (s.peek 0 0)) 16 6 = s.now ∧ deadlinePassed 0 ({ s with tb := (atTick 5).tb }).now = true) ∧
    (let s := portUp (portQueue stOwner)
     let e := List.replicate 8 (some (0 : Word))
     let t := s.setSt 0 ⟨2 ^ 63 + 2 ^ 62, 2 ^ 55, 0, 2 ^ 32⟩
     (s.st 0).valid = false ∧ (t.st 0).valid = true ∧ (t.st 0).dir = 1 ∧ (t.st 0).port = 0 ∧
      (e.take 7).all Option.isSome = true ∧ (((carriedBytes e).drop 7).take 49).all (fun b => b == 0) = true ∧
      0 < 20 * (t.carNum 0).perHalf / (t.carNum 0).perSlot) ∧
    (let d : DownSymbol := ⟨0, 0, 0, 0, 0, 100⟩
     let t := (portUp stOwner).setSt 0 ⟨2 ^ 63 + 2 ^ 62, 2 ^ 55, 0, 2 ^ 39⟩
     let s := t.setFh { t.fh with downs := [d] }
     s.nextDown 0 = some d ∧ d.start ≤ s.tb.count + (s.st 0).winEarly ∧ s.tb.count + (s.st 0).winLate ≤ d.start ∧
      (s.st 0).valid = true ∧ (s.st 0).dir = 1 ∧ d.start < (atTick 200).tb.count + (s.st 0).winLate) ∧
    (let s := ((runningMb.so oPART_LANE_MASK 0 1).so oPART_STATE 0 3)
     s.mayWriteCpri unitThimble 0 = true ∧ s.cpriAllowed 0 = true ∧ s.bit CPRI_CFG_ENABLE 0 = false) ∧
    (let s := State.reset.sf CPRI_CFG_ENABLE 0 1
     s.bit CPRI_CFG_ENABLE 0 = true ∧ s.bit CPRI_STATE_HFSYNC 0 = false ∧ (s.sf CPRI_STATE_HFSYNC 0 1).bit CPRI_STATE_HFSYNC 0 = true ∧
      (s.cpri 0).waiting.length < 64 ∧ cpriTerminated 1 = false ∧ 32 % 8192 / 32 = 1) := by
  refine ⟨?_, ?_, ?_, ?_, ?_, ?_, ?_, ?_, ?_, ?_, ?_⟩ <;> decide +kernel

/-! ## SeamLinkCommandsComplete -/

/-- Link 0 of the lanes of slot 0, both up, with a member at its far end. -/
def linkOn : State :=
  let s := (State.reset.sf SEAM_LINK_CTRL_ENABLE 0 1).sf SEAM_LINK_CTRL_SLOT_MASK 0 1
  let s := ((laneUpAt s 48).sf SEAM_LINK_STATE_STATE 0 linkUp).sf SEAM_LINK_STATE_PEER 0 1
  ((laneUpAt s 49).sf SEAM_LINK_STATE_PEER_VALID 0 1).sf SEAM_BOLT_MEMBERS 0 3
where laneUpAt (s : State) (n : Nat) : State := (s.sf LANE_CTRL_ENABLE n 1).sf LANE_STATE_STATE n laneUp

/-- The same with the link's own state, at tick 1,000,000. -/
def linkWith (x : SeamLink) : State := { linkOn with tb := (atTick 1000000).tb }.setLink 0 x

theorem test_seam_witness :
    (isThimble unitThimble = true ∧ State.reset.islandStops 73 = false ∧ State.reset.die.variant.boltMax ≠ 0 ∧
      State.reset.bit SEAM_LINK_CTRL_ENABLE 7 = false ∧
      (let x := State.reset.sf SEAM_LINK_CTRL_SLOT_MASK 7 0x80000001
       (bitsSet 8 0x80000001).all (fun j => x.slotUsable j && !x.slotTaken 7 j) = true) ∧
      (let x := linkOn.sf SEAM_LINK_CTRL_SLOT_MASK 7 0x80000001
       (bitsSet 8 0x80000001).all (fun j => x.slotUsable j && !x.slotTaken 7 j) = false)) ∧
    (let s := linkOn.so oBOLT_ID 0 9
     s.bit SEAM_LINK_CTRL_ENABLE 0 = true ∧ s.rf SEAM_LINK_STATE_STATE 0 = linkUp ∧
      s.identFinds 0 9 (1 % 8) = (linkUp, some 0x01) ∧ s.identFinds 0 8 (1 % 8) = (linkForeign, some 0x02)) ∧
    (linkOn.linkIsUp 0 = true ∧ (4095 % 4096 + 4096 - (linkOn.slink 0).expected) % 4096 = 4095 ∧ (linkOn.slink 0).nak = none ∧
      linkOn.unitStalls 0 (linkOn.newUnit 0 .heartbeat) 0 = none ∧ (linkOn.linkLaneList 0).contains 48 = true ∧
      (linkOn.sf LANE_STATE_RX_PWR_NOW 48 0).laneHearsData 48 = true) ∧
    (let u := linkOn.newUnit 1 .heartbeat
     let s := linkWith { SeamLink.idle with queue := [u], replay := [(0, u)], unacked := 1, nak := some 0 }
     let t := s.wakeLanes 0
     t.unitLane 0 = some 48 ∧ (t.slink 0).queue.length = 1 ∧ t.peerMember 0 = true ∧ s.linkIsUp 0 = true ∧ 0 < (s.slink 0).unacked ∧
      0 + twoMicros ≤ s.tb.count ∧ (s.slink 0).progress + twoMicros ≤ s.tb.count ∧ (s.slink 0).replay = [(0, u)]) ∧
    (let s := (linkWith SeamLink.idle).sf SEAM_LINK_PWR_SLEEP_EN 0 1
     s.linkOf 49 = some 0 ∧ s.bit SEAM_LINK_PWR_SLEEP_EN 0 = true ∧ s.laneState 49 = laneUp ∧ s.keeper 0 = some 48 ∧
      (s.slink 0).idleSince + s.rf SEAM_LINK_PWR_IDLE_TICKS 0 ≤ s.tb.count ∧ (s.linkLaneList 0)[1]? = some 49 ∧
      s.rf LANE_STATE_RX_PWR_NOW 49 = 0 ∧ s.rf LANE_CTRL_TX_PWR 49 = 0 ∧ (s.slink 0).timeSent = none ∧
      s.bit SEAM_BOLT_VALID = false ∧ s.beyondTol 0 = false ∧ s.beyondTol (2 ^ 40) = true) := by
  refine ⟨?_, ?_, ?_, ?_, ?_⟩ <;> decide +kernel

/-! ## BoltAdmissionCommandsComplete -/

theorem test_bolt_witness :
    (let s := (State.reset.so oBOLT_FOUNDER 0 1).so oBOLT_ID 0 9
     s.ob oBOLT_FOUNDER = 1 ∧ s.ob oBOLT_ID ≠ 0 ∧ s.boltState = boltAlone) ∧
    (let s := { State.reset with tb := (atTick 5).tb }.so oBOLT_STATE 0 boltJoining
     let s := s.setSeam { s.seam with retryAt := 5 }
     s.boltState = boltJoining ∧ s.seam.joining = none ∧ s.seam.retryAt ≠ 0 ∧ s.seam.retryAt ≤ s.tb.count) ∧
    (let s := withArrival (State.reset.so oBOLT_STATE 0 boltLeader) 2 (.join 0 [] [])
     s.boltState = boltLeader ∧ s.seam.arrivals = [(2, .join 0 [] [])] ∧ s.ob oBOLT_ID = 0) ∧
    (let a : Admission := ⟨2, 1, 0, [], [], []⟩
     let s := withArrival State.reset 2 (.chal 0 1 [] [] [])
     let s := s.setSeam { s.seam with joining := some a }
     s.seam.joining = some a ∧ s.seam.arrivals = [(2, .chal 0 1 [] [] [])] ∧ a.stage = 1 ∧ s.seam.joiners = [] ∧
      a.tick + hundredMillis < (atTick 20000000).tb.count) ∧
    (let a : Admission := ⟨2, 2, 0, [], [], []⟩
     let s := withArrival State.reset 2 (.proof 0 [] 0 [])
     let s := s.setSeam { s.seam with joiners := [a] }
     s.seam.arrivals = [(2, .proof 0 [] 0 [])] ∧ s.seam.joiners.find? (fun a => a.peer == 2) = some a ∧ s.ob oBOLT_ID = 0 ∧
      s.beyondTol (slack 0 0) = false ∧ s.beyondTol (slack 0 (2 ^ 40)) = true) ∧
    ((withArrival State.reset 2 .admitted).seam.arrivals = [(2, .admitted)] ∧
      (withArrival State.reset 2 (.refuse 3)).seam.arrivals = [(2, .refuse 3)]) := by
  refine ⟨?_, ?_, ?_, ?_, ?_, ?_⟩ <;> decide +kernel

theorem test_bolt_fault_witness :
    ((State.reset.joinFault 2 7 []).isSome = true) ∧ ((State.reset.chalFault 2 1 [] [] [] []).isSome = true) := by
  have k : State.reset.keyListed [] = false := by decide +kernel
  constructor
  · unfold State.joinFault
    rw [k]
    cases Config.certOk [] <;> rfl
  · unfold State.chalFault
    rw [k]
    cases Config.ed448Ok [] (State.reset.signed tagChal 2 [] [] (valBytes 4 1)) [] <;> cases Config.certOk [] <;> rfl

/-! ## BoltEpochCommandsComplete -/

/-- A die of a bolt, in a state of membership with members and a leader, at a tick. -/
def boltOf (st members leader tick : Nat) : State :=
  (({ State.reset with tb := (atTick tick).tb }.so oBOLT_STATE 0 st).sf SEAM_BOLT_MEMBERS 0 members).sf SEAM_BOLT_LEADER 0 leader

/-- A change to epoch 1. -/
def someChange (members te : Nat) : SeamChange :=
  ⟨1, members, 0, te, List.replicate 8 1, List.replicate 8 (0, 0), List.replicate 8 SeamRights.none⟩

theorem test_bolt_epoch_witness :
    (let s := boltOf boltLeader 1 0 0
     s.boltState = boltLeader ∧ s.seam.proposal = none ∧ s.seam.candidate = false ∧ s.rf SEAM_BOLT_MEMBERS = 2 ^ s.self ∧
      s.newMembers = 2 ^ s.self ∧ bitsSet 8 (2 ^ s.self) = [s.self]) ∧
    (let s := withArrival (boltOf boltMember 3 1 0) 1 (.change (someChange 3 5))
     s.tb.count + 8192 ≤ (someChange 3 9000).te ∧ s.seam.arrivals = [(1, .change (someChange 3 5))] ∧ boltMember ≤ s.boltState ∧ (someChange 3 5).epoch = s.rf SEAM_EPOCH_EPOCH + 1 ∧
      s.seam.ackedEpoch ≠ (someChange 3 5).epoch) ∧
    (let p : Proposal := ⟨1, 5, 1, 1, [0], none⟩
     let h : HeldChange := ⟨someChange 1 5, 0, none⟩
     let s := boltOf boltLeader 1 0 5
     let s := s.setSeam { s.seam with proposal := some p, held := some h }
     s.seam.proposal = some p ∧ p.te ≤ s.tb.count + 8192 ∧ s.seam.held = some h ∧ h.proposer = s.self ∧ h.change.epoch = 1 ∧
      h.change.te ≤ s.tb.count ∧ natBit h.change.members s.self = true ∧ natBit (someChange 2 5).members s.self = false) ∧
    (let s := boltOf boltLeader 3 0 9000
     let s := s.setSeam { s.seam with switchAt := some 9000, missed := [(1, 100)] }
     s.seam.switchAt = some 9000 ∧ 9000 ≤ s.tb.count ∧ s.seam.beatSent = none ∧ s.member 1 = true ∧ 1 ≠ s.self ∧
      s.seam.lost.contains 1 = false ∧ s.ob oBOLT_MISS_LIMIT ≤ Tab.get 0 s.seam.missed 1 ∧ s.seam.beatSent.getD 0 + 1024 ≤ s.tb.count) ∧
    (let s := boltOf boltMember 3 1 9000000
     s.boltState = boltMember ∧ s.rf SEAM_BOLT_LEADER = 1 ∧ s.seam.beatHeard + s.ob oBOLT_MISS_LIMIT * 1024 < s.tb.count) ∧
    (let r : PeerRead := ⟨1, 5, 0, 0⟩
     let s := boltOf boltMember 3 1 1000000000
     let s := s.setSeam { s.seam with reads := [r] }
     s.seam.reads.find? (fun r => decide (r.tick + s.ob oBOLT_READ_TIMEOUT_TICKS ≤ s.tb.count)) = some r) ∧
    ((withArrival State.reset 1 (.event 3)).seam.arrivals = [(1, .event 3)] ∧ State.reset.seam.events.length < 16 ∧
      16 ≤ (List.replicate 16 ((1 : Nat), (2 : Nat))).length ∧ State.reset.seam.events = [] ∧
      State.reset.islandStops 73 = false) := by
  refine ⟨?_, ?_, ?_, ?_, ?_, ?_, ?_⟩ <;> decide +kernel

/-! ## DramServingCommandsComplete -/

theorem test_dram_serving_witness :
    ((isThimble unitThimble || isPf0 unitThimble) = true ∧ State.reset.islandStops 75 = false) ∧
    (let s := State.reset.sf DRAM_CAPACITY_BYTES 0 0x1000
     (dramBase ≤ (BitVec.ofNat 64 dramBase).toNat % 2 ^ 48) ∧
      (BitVec.ofNat 64 dramBase).toNat % 2 ^ 48 - dramBase < (s.sf DRAM_XLATE_ADDR_ADDR 0 dramBase).rf DRAM_CAPACITY_BYTES 0 ∧
      (0 : Word).toNat % 2 ^ 48 < dramBase) ∧
    ((dramAt 0).rankLive 0 0 = true ∧ ((dramAt 0).drank 0 0).selfRefresh = none ∧ (dramAt 0).rankIdle 0 0 = true ∧
      4 * ((((dramAt 0).drank 0 0).trefi : Nat) : Int) ≤ (dramAt 2000).debt ((dramAt 2000).drank 0 0) ∧
      ((((dramAt 0).drank 0 0).trefi : Nat) : Int) ≤ (dramAt 500).debt ((dramAt 500).drank 0 0) ∧
      -4 * ((((dramAt 0).drank 0 0).trefi : Nat) : Int)
        ≤ (dramAt 0).debt ((dramAt 0).drank 0 0) - ((((dramAt 0).drank 0 0).trefi : Nat) : Int)) ∧
    (((dramAt 0).drank 0 0).polled = none ∧ ((dramAt 0).drank 0 0).fast = false ∧
      4 * 1950 < (dramAt 2000).debt ((dramAt 2000).drank 0 0)) ∧
    ((dramAt 0).bit DRAM_CH_STATE_TEMP_2X 0 = false ∧ ((dramAt 0).dch 0).window + 32 * 122880 ≤ (dramAt 4000000).tb.count ∧
      ((dramAt 0).sf DRAM_CH_STATE_TEMP_2X 0 1).bit DRAM_CH_STATE_TEMP_2X 0 = true) := by
  refine ⟨?_, ?_, ?_, ?_, ?_⟩ <;> decide +kernel

/-- A waiting request of engine 0 to DRAM. -/
def someReq : DramReq := ⟨0, false, dramBase, 0, 0, 0⟩

theorem test_dram_queue_witness :
    (let s := (dramAt 5000).sf DRAM_PORT_CFG_TARGET_NS 0 100
     let s := s.setDch 0 { s.dch 0 with waiting := [someReq] }
     s.portOver 0 = true ∧ s.bit DRAM_PORT_CFG_URGENT 0 = false ∧ Tab.get none s.dramPorts 0 = none ∧
      Tab.get none ({ s with dramPorts := s.dramPorts.set 0 (some 4000) } : State).dramPorts 0 = some 4000 ∧
      s.tb.count < 4000 + 122880 ∧ s.rankIdle 0 (s.reqPlace someReq).rank = false ∧
      s.debt (s.drank 0 1) < 4000 * (s.drank 0 1).trefi) ∧
    (dramAt 0).nextReq 0 0 = none := by
  refine ⟨?_, ?_⟩ <;> decide +kernel

/-! ## DramCareCommandsComplete -/

theorem test_dram_care_witness :
    (let s := (dramAt 0)
     s.rankLive 0 0 = true ∧ s.periodic (s.drank 0 0).zq 128 = true ∧ s.periodic (s.drank 0 0).dqs 64 = true ∧
      (s.setDrank 0 0 { s.drank 0 0 with retrain := true }).rankLive 0 0 = true ∧
      ((s.setDrank 0 0 { s.drank 0 0 with retrain := true }).drank 0 0).retrain = true ∧ s.rankIdle 0 0 = true ∧
      (s.drank 0 0).selfRefresh = none ∧
      (dramAt 9999999).ob oDRAM_PD_IDLE_NS ≤ nsOf ((dramAt 9999999).tb.count - ((dramAt 9999999).drank 0 0).used) ∧
      (s.sf PM_ISLAND_STATE_STATE 75 2).rf PM_ISLAND_STATE_STATE 75 = 2) ∧
    (let s := (dramAt 9999999).setDrank 0 0 { DramRank.idle with selfRefresh := some 1 }
     (s.drank 0 0).selfRefresh = some 1 ∧ s.rf DRAM_CH_SRTIME_SR_MIN_NS 0 ≤ nsOf (s.tb.count - 1) ∧
      (s.setDch 0 { s.dch 0 with waiting := [⟨0, false, dramBase, 0, 0, 0⟩] }).rankIdle 0 (s.reqPlace ⟨0, false, dramBase, 0, 0, 0⟩).rank = false) ∧
    (natBit ((dramAt 0).rf DRAM_CH_STATE_DEGRADED 0) 0 = false ∧ (dramAt 0).rankState 0 0 = 1 ∧
      (dramAt 0).spareRank 0 = none ∧
      ((dramAt 0).sf DRAM_CH_STATE_RANK_STATE 0 9).rankState 0 0 = 1 ∧
      ((dramAt 0).sf DRAM_CH_STATE_RANK_STATE 0 9).spareRank 0 = some 1 ∧ (dramAt 0).rf DRAM_MIG_STATE_STATE 0 ≠ 1) ∧
    (let s := ((dramAt 0).sf DRAM_MIG_STATE_STATE 0 1).sf DRAM_MIG_STATE_TO 0 1
     s.rf DRAM_MIG_STATE_STATE 0 = 1 ∧ s.bit PM_THERM_STATE_TRIP = false ∧ natBit (s.rf DRAM_CH_STATE_DEGRADED 0) (s.rf DRAM_MIG_STATE_TO 0) = false ∧
      natBit ((s.sf DRAM_CH_STATE_DEGRADED 0 2).rf DRAM_CH_STATE_DEGRADED 0) (s.rf DRAM_MIG_STATE_TO 0) = true ∧
      (s.rf DRAM_MIG_STATE_REGION 0 + 1) * 2 ^ 20 < s.rankBytes 0 ∧
      s.rankBytes 0 ≤ ((s.sf DRAM_MIG_STATE_REGION 0 100000).rf DRAM_MIG_STATE_REGION 0 + 1) * 2 ^ 20) ∧
    (let s := { dramAt 0 with protect := { (dramAt 0).protect with copying := [(0x6000, 0, 0, dramBase)] } }
     s.protect.copying.find? (fun c => c.1 / 0x1000 == 6) = some (0x6000, 0, 0, dramBase) ∧
      (((s.tb.count :: (s.drank 0 0).chips).filter
        (fun n => decide (s.tb.count < n + s.ob oDRAM_CHIP_WINDOW_S * ticksPerSecond))).length < s.ob oDRAM_CHIP_CE_LIMIT)) := by
  refine ⟨?_, ?_, ?_, ?_, ?_⟩ <;> decide +kernel

/-! ## MemoryCommandsComplete -/

theorem test_memory_witness :
    (let s := owning State.reset
     s.epochCurrent 0 (s.epoch 0) (s.accessIsland 0x40000000) = true ∧
      (s.sf PM_ISLAND_STATE_STATE 1 0).epochCurrent 17 1 (s.accessIsland 0x40000000) = false ∧
      s.unmapped 0x40000000 8 = false ∧ s.unmapped 0x40000000 0 = false ∧ s.accessStops 0 0x40000000 8 = none ∧
      s.unmapped (2 ^ 47) 8 = true) ∧
    (owning State.reset).passes 0 0x40000000 8 false = true ∧ State.reset.passes 0 0 8 false = false ∧
    (owning State.reset).passes 0 0x40000000 8 true = true ∧ State.reset.passes 0 0 8 true = false ∧
    consumes 0 = true ∧ ((owning State.reset).readWords 0x40000000 0 0 1).1.any Option.isNone = true ∧
    consumes 0x800 = false ∧ State.reset.passes 0x800 0x40000000 8 false = true ∧
    (runningData.readWords (engineDataBase 0) 0 0 1).1.any Option.isNone = false := by
  refine ⟨?_, ?_, ?_, ?_, ?_, ?_, ?_, ?_, ?_, ?_⟩ <;> decide +kernel

theorem test_scrub_witness :
    (owning State.reset).scrubs 0 = true ∧ mapped 0 = true ∧ (owning State.reset).scrubs 0x5000 = true ∧
      mapped 0x5000 = false ∧ decodeSymbols (storedSymbols ([] : Memory) 0x40000000) = .poison ∧
    decodeSymbols (storedSymbols (Memory.storeWord [] 0x40000000 (some 5)) 0x40000000) = .clean 5 ∧
    decodeSymbols (codewordSymbols 0) = .clean 0 ∧ decodeSymbols (codewordSymbols 1) = .corrected 0 ∧
    decodeSymbols (codewordSymbols 0x10101) = .bad := by
  refine ⟨?_, ?_, ?_, ?_, ?_, ?_, ?_, ?_, ?_⟩ <;> decide +kernel

theorem test_row_copy_witness :
    ([(0, 1, 2, 0x40000000)] : List (Nat × Nat × Nat × Nat)).find? (fun c => c.1 / 0x1000 != 6)
      = some (0, 1, 2, 0x40000000) := by
  decide +kernel

/-! ## DmaCommandsComplete -/

/-- It with a descriptor and its items. -/
def dmaWith (st : Nat) (f : DmaCh → DmaCh) : State := (dmaOn st).setDmaCh 0 (f DmaCh.idle)

theorem test_dma_witness :
    ((dmaOn 0).islandStops 77 = false ∧ (dmaOn 0).mayWriteDma unitThimble 0 = true ∧ (dmaOn 0).bit DMA_CH_CFG_ENABLE 0 = true ∧
      State.reset.bit DMA_CH_CFG_ENABLE 0 = false ∧ (dmaOn 0).channelOwner 0 = some 0) ∧
    ((dmaOn 0).dmaUp 0 = true ∧ (dmaOn 0).dstate 0 = dmaIdle ∧ (dmaOn 5).dstate 0 = dmaError ∧ (dmaOn 4).dstate 0 = dmaParked ∧
      ((dmaOn 4).dmaCh 0).link = none ∧ (dmaOn 3).dstate 0 = dmaRun ∧ ((dmaOn 0).dmaCh 0).items.length < 255 ∧
      ((dmaWith 0 (fun x => { x with items := List.replicate 255 (.trigger none) })).dmaUp 0 = true) ∧
      255 ≤ ((dmaWith 0 (fun x => { x with items := List.replicate 255 (.trigger none) })).dmaCh 0).items.length) ∧
    ((dmaOn 1).dstate 0 = dmaFetch ∧ (dmaOn 1).dmaExtent ((dmaOn 1).dmaCur 0) 64 = false) ∧
    (let s := dmaWith 2 (fun x => { x with desc := some (dmaDesc []), items := [.trigger none] })
     s.channelOwner 0 = some 0 ∧ (s.dmaCh 0).desc = some (dmaDesc []) ∧ s.dmaUp 0 = true ∧ s.dstate 0 = dmaWait ∧
      (s.dmaCh 0).items = [.trigger none]) ∧
    (let d := { dmaDesc [] with len := 8, dst := 0x40000000 }
     let s := dmaWith 3 (fun x => { x with desc := some d })
     s.dmaPick (((List.range 256).map (fun k => 256 * 0 + (Tab.get 0 s.dma.last 0 + 1 + k) % 256)).filter
      (fun c => s.dmaReady c)) = some 0 ∧ s.dstate 0 = dmaRun) ∧
    (let s := dmaWith 3 (fun x => { x with desc := some (dmaDesc []) })
     (s.dmaCh 0).desc = some (dmaDesc []) ∧ s.dstate 0 = dmaRun ∧ (s.dmaCh 0).link = none ∧
      (dmaDesc []).len ≤ (s.dmaCh 0).moved ∧ (dmaDesc []).wb = false) ∧
    (let s := dmaWith 3 (fun x => { x with link := some (some (some (2 ^ 63))) })
     (s.dmaCh 0).link = some (some (some (2 ^ 63))) ∧ natBit ((2 ^ 63 : Word)).toNat 63 = true ∧
      s.bit DMA_CH_STATE_DB_PENDING 0 = false ∧ natBit (64 : Word).toNat 63 = false ∧ bitsOf (64 : Word).toNat 47 0 % 64 = 0) := by
  refine ⟨?_, ?_, ?_, ?_, ?_, ?_, ?_⟩ <;> decide +kernel

/-- Channel 0 about to fetch its descriptor from panel memory, whose words are zero. -/
def dmaFetching : State :=
  (((owning (dmaOn 1)).sf DMA_CH_CUR_ADDR 0 (0x40000000 / 64)).sf PM_ISLAND_STATE_STATE 0 0)

theorem test_dma_fetch_witness :
    dmaFetching.channelOwner 0 = some 0 ∧ dmaFetching.dmaUp 0 = true ∧ dmaFetching.dstate 0 = dmaFetch ∧
      dmaFetching.dmaExtent (dmaFetching.dmaCur 0) 64 = true ∧ dmaFetching.mayAccess 0 (dmaFetching.dmaCur 0) 64 false = true ∧
      (dmaFetching.readWords (dmaFetching.dmaCur 0) (dmaUnit 0) 0 8).1.any Option.isNone = true ∧
      (let s := dmaFetching.setDmaCh 0 { DmaCh.idle with items := [] }
       s.tb.triggers = [] ∧ ({ s with tb := { s.tb with triggers := [.dma 0 3 7] } } : State).tb.triggers = [.dma 0 3 7]) := by
  refine ⟨?_, ?_, ?_, ?_, ?_, ?_, ?_⟩ <;> decide +kernel

/-- It, with a descriptor of zeros. -/
def dmaZeros : State :=
  { dmaFetching with mem := (List.range 8).foldl (fun m i => m.storeWord (0x40000000 + 8 * i) (some 0)) dmaFetching.mem }

theorem test_dma_check_witness :
    dmaZeros.channelOwner 0 = some 0 ∧ dmaZeros.dmaUp 0 = true ∧ dmaZeros.mayAccess 0 (dmaZeros.dmaCur 0) 64 false = true ∧
    (dmaZeros.readWords (dmaZeros.dmaCur 0) (dmaUnit 0) 0 8).1 = List.replicate 8 (some 0) ∧
    dmaZeros.accessStops (dmaUnit 0) (dmaZeros.dmaCur 0) 64 = none ∧
    (dmaZeros.readWords (dmaZeros.dmaCur 0) (dmaUnit 0) 0 8).2.dmaCheck 0 (List.replicate 8 0) = true ∧
    (dmaZeros.readWords (dmaZeros.dmaCur 0) (dmaUnit 0) 0 8).2.dmaNoUnit (dmaDesc (List.replicate 8 0)) = false ∧
    dmaZeros.dmaCheck 0 (List.replicate 8 1) = false := by
  refine ⟨?_, ?_, ?_, ?_, ?_, ?_, ?_, ?_⟩ <;> decide +kernel

/-! ## QuiltCommandsComplete -/

/-- Patch 0 of partition 0, in a state, with its island running. -/
def patchIn (st : Nat) : State :=
  ((((State.reset.so oPART_STATE 0 3).so oPART_PATCH_MASK 0 1).sf PM_ISLAND_STATE_STATE 78 0).setQstate 0 st).sf
    QP_START_ORDER_STEPS 0 0x654321

/-- It running a patch job. -/
def patchBusy (given : Bool) : State :=
  let s := (patchIn qRunning).setSh { State.reset.sh with jobs := [{ someJob 0x88 0 .running with unit := patchUnit 0 }] }
  s.setPatch 0 { s.patch 0 with given := if given then some 0 else none, late := if given then some 0 else none }

theorem test_quilt_witness :
    ((patchBusy false).runningOn (patchUnit 0)).isSome = true ∧ (jobAt (patchBusy false) (patchUnit 0)).typ = 0x88 ∧
    (jobAt (patchBusy false) (patchUnit 0)).report = none ∧ (patchBusy false).patchRuns 0 = true ∧
    ((patchBusy true).patch 0).given = some (jobAt (patchBusy true) (patchUnit 0)).id ∧ ((patchBusy true).patch 0).late = some 0 ∧
    1024 * (patchBusy true).rf QP_CLK_DIV 0 * 12288 ≤ (9999999 - 0) * 60000 ∧
    (patchIn 0).islandStops 78 = false ∧ (patchIn 0).patchOwner 0 = some 0 ∧ (patchIn 0).present (patchUnit 0) = true ∧
    ((patchIn 0).sf QP_CMD_OP 0 1).qstate 0 = qEmpty ∧ ((patchIn 2).sf QP_CMD_OP 0 2).startOrderOk 0 = true ∧
    (((patchIn 2).sf QP_CMD_OP 0 2).sf QP_STATE_AUTH 0 1).bit QP_STATE_AUTH 0 = true ∧
    ((patchIn 4).sf QP_CMD_OP 0 3).qstate 0 = qRunning ∧ ((patchIn 2).sf QP_CMD_OP 0 7).qstate 0 = qLoaded ∧
    ((patchIn 2).sf QP_CMD_OP 0 5).rf QP_FAR_COLUMN 0 ≤ 47 ∧ ((patchIn 2).sf QP_CMD_OP 0 5).rf QP_FAR_FRAME 0 ≤ 95 ∧
    (patchIn 2).bit QP_STATE_ENCRYPTED 0 = false := by
  refine ⟨?_, ?_, ?_, ?_, ?_, ?_, ?_, ?_, ?_, ?_, ?_, ?_, ?_, ?_, ?_, ?_, ?_, ?_⟩ <;> decide +kernel

theorem test_quilt_stream_witness :
    (let s := (patchIn 1).setPatch 0 { Patch.empty with stream := [some 5] }
     (s.patch 0).stream = [some 5] ∧ (s.setPatch 0 { s.patch 0 with stream := [] }).qstate 0 = qLoading) ∧
    (((patchIn 0).so oPART_QUEUE_COUNT 0 8).queueOwner 0 = some 0) ∧
    natBit ((patchIn 4).patch 0).outs 3 ≠ true ∧
    ((patchIn 4).readCell (0xA0000000) 0x7000 (patchUnit 0) 0).1 = none ∧
    (({ patchIn 4 with mem := (patchIn 4).mem.storeWord 0xA0000000 (some 3) } : State).readCell
      (0xA0000000) 0x7000 (patchUnit 0) 0).1 = some 3 := by
  refine ⟨?_, ?_, ?_, ?_, ?_⟩ <;> decide +kernel

theorem test_quilt_scrub_witness :
    (let s := (patchIn 2).sf QS_CTRL_ENABLE 0 1
     s.bit QS_STATUS_FAULTY = false ∧ s.bit QS_CTRL_ENABLE = true ∧ s.scrub.left = [] ∧ s.rf PM_ISLAND_STATE_STATE 78 = 0 ∧ s.rf PM_ISLAND_STATE_STATE 79 = 0 ∧
      s.scrub.since = none ∧ (s.upsetCopies []).vote.bit QS_STATUS_FAULTY = false ∧
      (s.upsetCopies [(1, 0), (0, 1)]).vote.bit QS_STATUS_FAULTY = true) ∧
    (let s := { patchIn 2 with scrub := { (patchIn 2).scrub with left := [0], frame := sentinel } }
     s.scrub.left = [0] ∧ s.swept 0 = true ∧ s.scrub.frame = sentinel ∧ s.repairStops 0 sentinel [] false = none ∧
      sentinelFound 0 (scrubRead ((s.patch 0).frameAt sentinel) [sentinelError 0]) = true ∧
      sentinelFound 0 (scrubRead ((s.patch 0).frameAt sentinel) []) = false ∧ (patchIn 0).swept 0 = false) ∧
    ((patchIn 2).sf QS_STATUS_FAULTY 0 1).bit QS_STATUS_FAULTY = true := by
  refine ⟨?_, ?_, ?_⟩ <;> decide +kernel

/-! ## HostLinkRingAndEventCommandsComplete -/

/-- The link up. -/
def hostUp : State := State.reset.sf HP_LINK_STATE_UP 0 1

theorem test_host_witness :
    hostUp.bit HP_LINK_STATE_UP = true ∧
    (hostUp.countReplays 9000).ob oHOST_RETRAIN_REPLAYS < (hostUp.countReplays 9000).host.replayCount ∧
    (hostUp.countReplays 0).host.replayCount ≤ (hostUp.countReplays 0).ob oHOST_RETRAIN_REPLAYS ∧
    (hostUp.countReplays 0).bit HP_LINK_STATE_RETRAINING = false ∧ State.reset.islandStops 76 = false ∧ (ringOn 0).islandStops 76 = false ∧
    (State.reset.rf HP_CTRL_CPL_TIMEOUT_US 0 * 12288 ≤ (10 ^ 9 - State.reset.host.downSince) * 100) ∧
    isPf0 0x980 = true ∧ (hostUp.sf HP_LINK_STATE_UP 0 0).bit HP_LINK_STATE_UP = false := by
  refine ⟨?_, ?_, ?_, ?_, ?_, ?_, ?_, ?_, ?_⟩ <;> decide +kernel

theorem test_ring_witness :
    mayWriteRing 0x980 (ringIx 0 0) = true ∧ hasPage 0 = true ∧ (ringIx 0 0) % 256 < ringCount 0 ∧
    State.reset.bit HR_CFG_ENABLE (ringIx 0 0) = false ∧ (ringOn 0).bit HR_CFG_ENABLE (ringIx 0 0) = true ∧
    ((ringOn 0).ring 0).disabling = false ∧ (ringOn 0).ringFlying 0 = 0 ∧
    ({ ringOn 0 with host := { (ringOn 0).host with pushes := [(0x980, 0, 0)] } } : State).ringFlying 0 ≠ 0 ∧
    2 ^ (ringOn 0).rf HR_CFG_SIZE_LOG2 0 < (17 + 65536 - (ringOn 0).rf HR_PTR_DEVICE 0) % 65536 ∧
    (16 + 65536 - (ringOn 0).rf HR_PTR_DEVICE 0) % 65536 ≤ 2 ^ (ringOn 0).rf HR_CFG_SIZE_LOG2 0 ∧
    ((ringOn 1).rf HR_PTR_DEVICE 0 + 65536 - 65520) % 65536 ≤ 2 ^ (ringOn 1).rf HR_CFG_SIZE_LOG2 0 ∧
    2 ^ (ringOn 1).rf HR_CFG_SIZE_LOG2 0 < ((ringOn 1).rf HR_PTR_DEVICE 0 + 65536 - 65519) % 65536 ∧
    (ringOn 0).ringRuns 0 = true ∧ (ringOn 1).bit HR_CFG_DIR 0 = true ∧
    ((ringOn 0).sf HR_PTR_HOST 0 1).ringFlying 0 < min ((((ringOn 0).sf HR_PTR_HOST 0 1).rf HR_PTR_HOST 0 + 65536
      - ((ringOn 0).sf HR_PTR_HOST 0 1).rf HR_PTR_DEVICE 0) % 65536) 16 := by
  refine ⟨?_, ?_, ?_, ?_, ?_, ?_, ?_, ?_, ?_, ?_, ?_, ?_, ?_, ?_, ?_⟩ <;> decide +kernel

/-! ## PowerManagerCommandsComplete -/

/-- Island 72 in a state, with a target and so many steps taken. -/
def islandIn (st target steps : Nat) : State :=
  ((atTick 1000).setIstate 72 st target steps).setIsl 72 { (atTick 1000).isl 72 with step := steps, nextUse := some 1000 }

theorem test_power_witness :
    (((islandIn 0 2 0).isl 72).waking = none ∧ (islandIn 0 2 0).istate 72 ≠ 4 ∧
      ((islandIn 0 2 0).isl 72).step + 1 < stateSteps ((islandIn 0 2 0).rf PM_ISLAND_STATE_TARGET 72) ∧
      ((islandIn 1 2 2).isl 72).step + 1 = stateSteps ((islandIn 1 2 2).rf PM_ISLAND_STATE_TARGET 72)) ∧
    (([(16, 5)] : List (Nat × Nat)).find? (fun (r : Nat × Nat) => decide (r.2 ≤ 5)) = some (16, 5) ∧
      ([(3, 5)] : List (Nat × Nat)).find? (fun (r : Nat × Nat) => decide (r.2 ≤ 5)) = some (3, 5)) ∧
    (let s := islandIn 2 2 3
     s.istate 72 = 2 ∧ s.pmNextUse 72 = some 1000 ∧ s.bit PM_DEVICE_HOLD_DEEP = false ∧ 1000 < s.tb.count + s.ob oSHUTTLE_FORECAST_HORIZON ∧
      1000 ≤ s.tb.count + (wakeNs 2 * 12288 + 99999) / 100000 ∧ (s.isl 72).step = stateSteps 2 ∧
      s.rf PM_ISLAND_STATE_TARGET 72 = 2 ∧ s.islandStops 72 = true ∧ (s.isl 72).stall = none) ∧
    (let s := (islandIn 2 0 3)
     let s := s.setIsl 72 { s.isl 72 with waking := some false }
     (s.isl 72).waking = some false ∧ s.istate 72 = 2 ∧
      ((((s.setIstate 72 0 0 0).incf PM_ISLAND_WAKES_COUNT 72).isl 72).stall = none)) ∧
    (let s := State.reset.setIsl (memIsland 0x3440) { State.reset.isl 0 with closed := [0x3440] }
     0x3440 / 0x1000 = 3 ∧ (s.isl (memIsland 0x3440)).closed.contains 0x3440 = true ∧ (s.isl (memIsland 0x3440)).stall = none) ∧
    ((State.reset.sf PM_DEVICE_HOLD_DEEP 0 1).bit PM_DEVICE_HOLD_DEEP = true ∧
      State.reset.bit PM_DEVICE_HOLD_DEEP = false) := by
  refine ⟨?_, ?_, ?_, ?_, ?_, ?_⟩ <;> decide +kernel

theorem test_device_vote_witness :
    ((State.reset.sf PM_DEVICE_HOLD_DEEP 0 1).collectVotes 16 [(78, 5)] [] State.reset.deepTargets).1 = false := by
  decide +kernel

/-! ## HealthAndResetCommandsComplete -/

/-- The state with one record of a retirement, of a unit of class 2. -/
def withRecord (cls : Nat) : State :=
  State.reset.sdom oFAULT_RETIREMENTS 0 (valBytes 2 cls ++ valBytes 2 0x600 ++ List.replicate 28 0)

theorem test_health_witness :
    State.reset.healthPresent 2 0x600 = true ∧ State.reset.healthRetired 2 0x600 = false ∧
    (State.reset.handleUpset 2 0x600).thimbleUp = true ∧ State.reset.healthPresent 4 0 = true ∧
    State.reset.healthRetired 4 0 = false ∧ (State.reset.handleUpset 4 0).thimbleUp = true ∧
    (1 : Nat) < State.reset.upsetLimit 2 ∧ ((State.reset.so oFAULT_ACCEL_LIMIT 0 1).upsetLimit 2 ≤ 1) ∧
    natBit ((State.reset.so oFAULT_AUTO_RETIRE 0 4).ob oFAULT_AUTO_RETIRE) 2 = true ∧
    natBit ((State.reset.so oFAULT_AUTO_RETIRE 0 0).ob oFAULT_AUTO_RETIRE) 2 = false ∧
    State.reset.healthPresent 2 0x999 = false ∧ (State.reset.sf QM_EPOCH_RETIRED 0x600 1).healthRetired 2 0x600 = true := by
  refine ⟨?_, ?_, ?_, ?_, ?_, ?_, ?_, ?_, ?_, ?_, ?_, ?_⟩ <;> decide +kernel

theorem test_reinstate_witness :
    (State.reset.dom oFAULT_RETIREMENTS).length < 32 * (0 + 1) ∧ 32 * (0 + 1) ≤ ((withRecord 2).dom oFAULT_RETIREMENTS).length ∧
    fieldAt ((withRecord 2).dom oFAULT_RETIREMENTS) 0 1 = 2 ∧ fieldAt ((withRecord 2).dom oFAULT_RETIREMENTS) 2 2 = 0x600 ∧
    natBit (fieldAt ((withRecord 2).dom oFAULT_RETIREMENTS) 5 1) 2 = false ∧ returnPanel 2 0x600 = none ∧
    (returnUnits 2 0x600).all (fun k => decide (Tab.get 0 (withRecord 2).health.epochs k < 250)) = true ∧
    returnPanel 1 0x441 = some 0 := by
  refine ⟨?_, ?_, ?_, ?_, ?_, ?_, ?_, ?_⟩ <;> decide +kernel

theorem test_pair_witness :
    State.reset.standbyReady = true ∧ State.reset.health.checkpoint + ticksPerSecond / 1000 ≤ (atTick 9999999).tb.count ∧
    State.reset.thimbleUp = true ∧ State.reset.pairRetired State.reset.activePair = false ∧
    State.reset.health.testing.contains State.reset.activePair = false ∧ State.reset.mismatchesOf State.reset.activePair = 0 ∧
    (State.reset.so oFAULT_THIMBLE 0 2).standbyReady = false ∧ (State.reset.so oFAULT_THIMBLE 0 4).ob oFAULT_THIMBLE = 4 ∧
    ({ State.reset with health := { State.reset.health with testing := [1] } } : State).health.testing.contains 1 = true ∧
    State.reset.mayWritePanel unitThimble 0 = true ∧
    (((State.reset.so oPART_STATE 0 3).so oPART_PANEL_MASK 0 1).sf PM_ISLAND_STATE_STATE 0 0).panelUp 0 = true ∧
    (State.reset.sf PM_ISLAND_STATE_STATE 0 0).islandStops 0 = false ∧
    ({ State.reset with boot := { State.reset.boot with phase := 0 } } : State).boot.phase = 0 ∧
    State.reset.isAdmin 0 = false := by
  refine ⟨?_, ?_, ?_, ?_, ?_, ?_, ?_, ?_, ?_, ?_, ?_, ?_, ?_, ?_⟩ <;> decide +kernel

/-! ## BootAndImageCommandsComplete -/

theorem test_boot_admin_witness :
    State.reset.isAdmin 1 = false ∧ (withSession 0 0).isAdmin 1 = true ∧ (withSession 0 0).ob oFW_UPDATE_STATE ≠ 1 ∧
    ({ withSession 0 0 with boot := { State.reset.boot with dirs := [(0, ⟨1, 1, false, 0⟩)] } } : State).directory.active = 1 ∧
    ((withSession 0 0).so oFW_UPDATE_STATE 0 2).ob oFW_UPDATE_STATE = 2 ∧ (withSession 0 0).standbyReady = true ∧
    ({ withSession 0 0 with boot := { State.reset.boot with trial := some (0, 0) } } : State).boot.trial = some (0, 0) ∧
    fuseSupply 1800 = true ∧ (withSession 0 0).bit SEC_STATUS_FW_TRIAL = false ∧
    (withSession 1 0).session 1 = some (someSession 1 0 none) ∧ (List.replicate 32 (0 : Byte)).length = 32 ∧
    (withSession 0 0).allUnassigned = true ∧ (withSession 0 0).boltState = boltAlone ∧
    partitions.all (fun p => decide (State.reset.pstate p ≤ 1)) = true ∧
    3 * 0x200000 ≤ (State.reset.so oSTORE_JOURNAL_USED 0 0x180000).ob oSTORE_JOURNAL_USED * 4 ∧
    State.reset.ob oSTORE_STATE ≠ 3 ∧ (State.reset.so oPM_DEVICE_STATE 0 3).ob oPM_DEVICE_STATE = 3 := by
  refine ⟨?_, ?_, ?_, ?_, ?_, ?_, ?_, ?_, ?_, ?_, ?_, ?_, ?_, ?_, ?_, ?_, ?_⟩ <;> decide +kernel

/-- A value of SEC.IMAGE_LOAD: one engine from its address. -/
def loadValue : List Byte := valBytes 6 0x40000000 ++ valBytes 2 0 ++ valBytes 2 0 ++ valBytes 2 1 ++ valBytes 4 0

theorem test_image_witness :
    (imageZeros.readImage 0x40000000).1 = some (List.replicate 320 0) ∧ loadValue.length = 16 ∧
    headerZero loadValue 12 4 = true ∧ fieldAt loadValue 10 2 = 1 ∧
    fieldAt loadValue 8 2 = 0 ∧ fieldAt loadValue 0 6 = 0x40000000 ∧ imageZeros.session 1 = some (someSession 1 0 none) := by
  refine ⟨?_, ?_, ?_, ?_, ?_, ?_, ?_⟩ <;> decide +kernel

/-- A value of SEC.QUILT_AUTH for patch 0. -/
def authValue : List Byte := valBytes 1 0 ++ valBytes 7 0 ++ valBytes 6 0x40000000 ++ valBytes 2 0

theorem test_auth_witness :
    (imageZeros.so oPART_PATCH_MASK 0 1).patchOwner 0 = some 0 ∧ imageZeros.isMb 0 = false ∧ authValue.length = 16 ∧
    headerZero authValue 1 7 = true ∧ headerZero authValue 14 2 = true ∧
    (((imageZeros.so oPART_PATCH_MASK 0 1).firmwareWaits (fieldAt authValue 8 6) 320).readBytes (fieldAt authValue 8 6) 320 unitThimble 0).1 = some (List.replicate 320 0) := by
  refine ⟨?_, ?_, ?_, ?_, ?_, ?_⟩ <;> decide +kernel

/-! ## KeyFuseAndDiagnosticCommandsComplete -/

/-- A customer key for place 1. -/
def keyValue : List Byte := valBytes 65 1

theorem test_security_witness :
    (withSession 0 0).session 1 = some (someSession 0 0 none) ∧ (someSession 1 0 none).role ≠ 0 ∧
    (withSession 0 0).bit SEC_STATUS_SLOT0_VALID = false ∧ fuseSupply 1800 = true ∧ fuseSupply 0 = false ∧
    (List.range 8).all (fun p => (withSession 0 0).qstate p != qLoading) = true ∧
    ({ State.reset with boot := { State.reset.boot with phase := 0 } } : State).boot.phase = 0 ∧
    ({ State.reset with boot := { State.reset.boot with phase := 1 } } : State).boot.phase ≠ 0 ∧
    (withSession 0 0).isAdmin 1 = true ∧ (withSession 0 0).allUnassigned = true ∧ keyValue.length = 65 ∧
    fieldAt keyValue 0 1 = 1 ∧ natBit ((withSession 0 0).rf SEC_POLICY_KEY_PRESENT) 0 = false ∧
    (withSession 0 0).boot.nonce = none ∧ (withSession 0 0).bit SEC_POLICY_DIAG_LOCK = false ∧
    ({ withSession 0 0 with boot := { State.reset.boot with nonce := some [] } } : State).boot.nonce = some [] := by
  refine ⟨?_, ?_, ?_, ?_, ?_, ?_, ?_, ?_, ?_, ?_, ?_, ?_, ?_, ?_, ?_, ?_⟩ <;> decide +kernel

/-! ## MbPersonalityCommandsComplete -/

/-- A command that names no address. -/
def someCommand (op : Nat) : MbCommand := ⟨op, 7, 0, 0, 0, 0, 0, 0, [], []⟩

theorem test_mb_slot_witness :
    (slotIn 3).slotLive 0 = some 0 ∧ (slotIn 3).mayWriteView unitThimble 0 = true ∧
    (slotIn 3).siteUp ((slotIn 3).mbCore 0 0) = true ∧ (slotIn 3).islandStops ((slotIn 3).mbCore 0 0 / 17) = false ∧
    (slotIn 4).slotPart 0 = some 0 ∧ (slotIn 4).pstate 0 = 4 ∧ (slotIn 3).slotPart 0 = some 0 ∧ (slotIn 3).pstate 0 = 3 ∧
    mbJobType 0x06 = some 0x33 ∧ mbJobType 0x30 = none ∧
    (slotIn 3).mbArgs 0 [] [] = some [] ∧ (slotIn 3).mbArgs 0 [] [(0, 0, 0x2000000)] = none := by
  refine ⟨?_, ?_, ?_, ?_, ?_, ?_, ?_, ?_, ?_, ?_, ?_, ?_⟩ <;> decide +kernel

theorem test_mb_interrupt_witness :
    (slotIn 3).mbVectorPending 0 0 3 = false ∧ ((slotIn 3).raise 0).mbVectorPending 0 0 0 = true ∧
    (withSession 0 0).isAdmin 1 = true ∧ State.reset.isAdmin 1 = false ∧
    (imageZeros.readImage 0x40000000).1.isSome = true ∧ ((owning (withSession 0 0)).readImage 0x40000000).1 = none := by
  refine ⟨?_, ?_, ?_, ?_, ?_, ?_⟩ <;> decide +kernel

theorem test_pop_witness :
    ((entryQueue (owning (slotIn 3)) 272 unitThimble).popQueue ((slotIn 3).ob oPART_QUEUE_BASE 0 + 272) unitThimble).1
      = .entry (List.replicate 8 (some 0)) ∧
    ((entryQueue (owning (ringOn 1)) 0 (functionUnit 0)).popQueue 0 (functionUnit 0)).1
      = .entry (List.replicate 8 (some 0)) ∧
    ((entryQueue (owning ((dmaOn 2).sf DMA_CH_LINKS_TRIGQ_EN 0 1)) 0 (dmaUnit 0)).popQueue 0 (dmaUnit 0)).1
      = .entry (List.replicate 8 (some 0)) ∧ (voidCode (List.replicate 8 (some 0))).isSome = false := by
  refine ⟨?_, ?_, ?_, ?_⟩ <;> decide +kernel

/-! ## PartitionAndFunctionResetCommandsComplete -/

theorem test_partition_witness :
    (withSession 0 0).session 1 = some (someSession 0 0 none) ∧ (someSession 0 0 none).commands 3 = true ∧
    (someSession 1 0 none).commands 3 = false ∧ (withSession 0 0).pstate 0 = 0 ∧
    ((withSession 0 0).so oPART_STATE 0 1).pstate 0 = 1 ∧
    (((withSession 0 0).so oPART_STATE 0 1).copyWindows 0).startValid 0 = false ∧
    ((((withSession 0 0).so oPART_STATE 0 1).so oPART_PANEL_MASK 0 1).copyWindows 0).startValid 0 = true ∧
    ((withSession 0 0).so oPART_STATE 0 3).pstate 0 = 3 ∧ ((withSession 0 0).so oPART_STATE 0 2).pstate 0 = 2 ∧
    ((withSession 0 0).so oPART_STATE 0 2).isMb 0 = false ∧ ((withSession 0 0).so oPART_STATE 0 2).bit PM_THERM_STATE_TRIP = false ∧ ((withSession 0 0).so oPART_STATE 0 4).pstate 0 = 4 ∧
    (withSession 0 0).sh.jobs.any (fun j => j.part == 0) = false := by
  refine ⟨?_, ?_, ?_, ?_, ?_, ?_, ?_, ?_, ?_, ?_, ?_, ?_, ?_⟩ <;> decide +kernel

theorem test_flr_witness :
    (State.reset.clearFunction 2).functionPartition 2 = none ∧ (slotIn 3).functionPartition 1 = some 0 ∧
    (slotIn 2).isMb 0 = true ∧ (slotIn 2).pstate 0 = 2 ∧
    (((slotIn 2).setQstate 0 qLoaded).so oPART_PATCH_MASK 0 1 |>.sf QP_STATE_AUTH 0 1).framingLoaded 0 = true ∧
    (slotIn 2).framingLoaded 0 = false ∧ (slotIn 2).framingImage 0 = none ∧
    (slotIn 3).ob oMB_P_AUTO_RESTART 0 = 1 ∧ ((slotIn 3).so oMB_P_AUTO_RESTART 0 0).ob oMB_P_AUTO_RESTART 0 ≠ 1 := by
  refine ⟨?_, ?_, ?_, ?_, ?_, ?_, ?_, ?_, ?_⟩ <;> decide +kernel

/-! ## ThermalSupplyAndTestPortCommandsComplete -/

theorem test_thermal_witness :
    (State.reset.sense [(5, 16 * 125)]).bit PM_THERM_STATE_WARN = true ∧
    (State.reset.sense [(5, 16 * 125)]).thermal.warnTick = none ∧ (State.reset.sense []).bit PM_THERM_STATE_WARN = false ∧
    (State.reset.sense [(5, 16 * 125)]).hotAtLeast ((State.reset.sense [(5, 16 * 125)]).celsius oTHERM_THROTTLE_C) = true ∧
    (State.reset.sense [(5, 16 * 125)]).stepDue 12288 = true ∧
    (State.reset.sense [(5, 16 * 125)]).rf PM_THERM_STATE_FREQ_PCT = 100 ∧
    ((State.reset.sf PM_THERM_STATE_THROTTLE 0 1).sense []).bit PM_THERM_STATE_THROTTLE = true ∧
    (State.reset.sense []).hotAtMost ((State.reset.sense []).celsius oTHERM_THROTTLE_C - 3) = true ∧
    (State.reset.sense [(5, 16 * 120)]).hotAtLeast 120 = true ∧ (State.reset.sense [(5, 16 * 120)]).bit PM_THERM_STATE_TRIP = false ∧
    ((State.reset.sf PM_THERM_STATE_TRIP 0 1).sense []).bit PM_THERM_STATE_TRIP = true ∧
    (State.reset.sense [(5, 16 * 110)]).hotAtMost 110 = true ∧ (State.reset.sense [(5, 16 * 111)]).hotAtMost 110 = false ∧
    (State.reset.sense []).thermal.cool = none := by
  refine ⟨?_, ?_, ?_, ?_, ?_, ?_, ?_, ?_, ?_, ?_, ?_, ?_, ?_, ?_⟩ <;> decide +kernel

/-! ## SwatchAndMailboxCommandsComplete -/

/-- A message's bytes with a tag of zeros. -/
def plainMessage (type device session seq : Nat) (body : List Byte) : List Byte :=
  [1] ++ valBytes 1 type ++ valBytes 2 (48 + body.length) ++ valBytes 1 device ++ [0, 0, 0] ++ valBytes 4 session ++
    valBytes 4 seq ++ body ++ List.replicate 32 0

/-- Mailbox 0 with that request, while Thimble serves. -/
def mailed (l : List Byte) : State :=
  let s := ((withSession 0 0xFF).sf MBX_CTRL_BUSY 0 1).sf MBX_CTRL_REQ_LEN 0 l.length
  ({ s with boot := { s.boot with phase := 0 } } : State).setMailbox 0 { s.mailboxOf 0 with request := l }

theorem test_swatch_witness_serves :
    ((mailed (plainMessage 0x30 0xFF 1 1 [])).serves = true ∧
      (mailed (plainMessage 0x30 0xFF 1 1 [])).incoming (.mailbox 0) [] = (some (plainMessage 0x30 0xFF 1 1 [], .mailbox 0),
        mailed (plainMessage 0x30 0xFF 1 1 []))) ∧
    [0x02, 0x10, 0x11, 0x12, 0x13, 0x14, 0x15, 0x30, 0x31].all (fun t => swRequest (plainMessage t 0xFF 1 1 [])
      && swType (plainMessage t 0xFF 1 1 []) == t) = true ∧ swRequest (plainMessage 0x01 0xFF 0 1 []) = true ∧
    (mailed []).foreign (plainMessage 0x30 0xFF 1 1 []) = false ∧
    swRequest (plainMessage 0x99 0xFF 1 1 []) = false ∧
    (mailed []).anySession 1 = some (someSession 0 0xFF none) ∧ (mailed []).alive (someSession 0 0xFF none) = true ∧
    swSeq (plainMessage 0x30 0xFF 1 1 []) = (someSession 0 0xFF none).last + 1 := by
  refine ⟨⟨?_, ?_⟩, ?_, ?_, ?_, ?_, ?_, ?_, ?_⟩
  · decide +kernel
  · simp [State.incoming, mailed, State.mailboxOf, State.setMailbox]; decide +kernel
  all_goals decide +kernel

theorem test_swatch_witness_requests :
    (swBody (plainMessage 0x10 0xFF 1 1 (valBytes 2 0xA100 ++ [1, 0, 0, 0, 0, 0, 16, 0, 0, 0]))).length = 12 ∧
    (objectAt 0xA100 3).isSome = true ∧
    (swBody (plainMessage 0x01 0xFF 0 1 ([0, 0xFF] ++ List.replicate 150 0))).length = 152 ∧
    headerZero (swBody (plainMessage 0x01 0xFF 0 1 ([0, 0xFF] ++ List.replicate 150 0))) 2 2 = true ∧
    fieldAt (swBody (plainMessage 0x01 0xFF 0 1 ([0, 0xFF] ++ List.replicate 150 0))) 1 1 = 0xFF ∧
    State.reset.dom oSWATCH_CLIENT_KEYS = [] ∧ swBody (plainMessage 0x30 0xFF 1 1 []) = [] ∧
    swRequest (plainMessage 0x30 3 1 1 []) = true ∧ (mailed []).foreign (plainMessage 0x30 3 1 1 []) = true ∧
    (mailed []).boltState ≠ boltLeader ∧ swReply (plainMessage 0xB0 3 1 1 []) = true ∧
    swRequest (plainMessage 0xB0 3 1 1 []) = false := by
  refine ⟨?_, ?_, ?_, ?_, ?_, ?_, ?_, ?_, ?_, ?_, ?_, ?_⟩ <;> decide +kernel

theorem test_swatch_witness_times :
    (({ atTick (2 * ticksPerSecond) with sessions := [{ someSession 0 0xFF none with accepted := false }] } : State).anySession
      1).isSome = true ∧ 0 + ticksPerSecond < (atTick (2 * ticksPerSecond)).tb.count ∧
    0 + State.reset.ob oSWATCH_IDLE_S * ticksPerSecond ≤ (atTick (60 * ticksPerSecond)).tb.count ∧
    ((atTick ticksPerSecond).so oFAULT_THIMBLE 0 4).ob oFAULT_THIMBLE = 4 ∧
    ((atTick ticksPerSecond).mailboxOf 0).since + ticksPerSecond / 100 ≤ (atTick ticksPerSecond).tb.count ∧
    ((withSession 0 0xFF).writeBarred (someSession 0 0xFF none) oSWATCH_IDLE_S 0) = none ∧
    ((withSession 0 0xFF).stateRule oSWATCH_IDLE_S 0) = none ∧ (withSession 0 0xFF).roleReads (someSession 0 0xFF none) oSWATCH_IDLE_S
      0 = true := by
  refine ⟨?_, ?_, ?_, ?_, ?_, ?_, ?_, ?_⟩ <;> decide +kernel

/-- A subscription to SWATCH.IDLE_S each second, and a session that holds it. -/
def idleSub : Sub := ⟨3, 0xA100, 3, 1, 0, 1000, 0, [(oSWATCH_IDLE_S.key 0, 0, 0, none)]⟩

def idleSession (r : Reply) : Session := { someSession 0 0xFF none with reply := r, subs := [idleSub] }

/-- The die at two seconds with that session. -/
def noticing (r : Reply) : State := { atTick (2 * ticksPerSecond) with sessions := [idleSession r] }

theorem test_swatch_witness_notice :
    (noticing (.mailbox 0)).session 1 = some (idleSession (.mailbox 0)) ∧ (noticing (.relay 2)).session 1 = some (idleSession (.relay 2)) ∧
    (idleSession (.relay 2)).subs.find? (fun u => u.id == 3) = some idleSub ∧
    objectAt idleSub.index 3 = some (oSWATCH_IDLE_S, 0) ∧
    idleSub.marks.find? (fun (e : Nat × Nat × Nat × Option Nat) => e.1 == oSWATCH_IDLE_S.key 0)
      = some (oSWATCH_IDLE_S.key 0, 0, 0, none) ∧
    (noticing (.relay 2)).noticeDue idleSub oSWATCH_IDLE_S 0 (0, 0, none) = some false ∧
    (atTick 5).noticeDue idleSub oSWATCH_IDLE_S 0 (0, 0, none) = none ∧ State.reset.islandStops 76 = false := by
  refine ⟨?_, ?_, ?_, ?_, ?_, ?_, ?_, ?_⟩ <;> decide +kernel

/-! ## RegisterAndHostMemoryCommandsComplete -/

theorem test_registers_witness :
    viewOf none 0x10 = none ∧ reaches unitThimble none = true ∧ reaches 0x440 none = false ∧
    (regAt none 0x3000000).isSome = true ∧
    ((regAt none 0x3000004).map (fun h => (h.off, h.reg.bytes))) = some (4, 8) ∧
    ((regAt none 0x3000000).map (fun h => (State.reset.regGone h.reg h.index, State.reset.regForeign unitThimble h.reg h.index)))
      = some (false, false) ∧
    State.reset.ownRegister none 0x3000000 = 0x3000000 ∧ (∀ n, State.reset.regStops unitThimble none 0x3000000 n = none) ∧
    State.reset.regStops unitThimble none 0x3000004 4 = none ∧ ((State.reset.sf PM_ISLAND_STATE_STATE 73 2).regStops unitThimble none 0x5000000 4).isSome = true ∧
    (State.reset.sf PM_ISLAND_STATE_STATE 0 0).accessStops (functionUnit 0) 0x40000000 8 = none ∧
    (State.reset.sf PM_ISLAND_STATE_STATE 0 2).accessStops (functionUnit 0) 0x40000000 8 = some (0, none) ∧
    functionExists 0 = true ∧ hasPage 0 = true ∧ State.reset.rangeUnmapped 0x40000000 8 = false ∧
    State.reset.rangeUnmapped (2 ^ 41 - 8) 8 = true ∧ State.reset.hostPasses 0 0x40000000 8 true = true ∧
    State.reset.hostPasses 0x10 0x40000000 8 true = false := by
  refine ⟨?_, ?_, ?_, ?_, ?_, ?_, ?_, fun n => ?_, ?_, ?_, ?_, ?_, ?_, ?_, ?_, ?_, ?_, ?_⟩
  rotate_left 7
  · unfold State.regStops; rw [show viewOf none 0x3000000 = none from by decide +kernel]; dsimp only; decide +kernel
  all_goals decide +kernel

/-! ## CommandsToAStoppedIslandOnlyNoteTheStall -/

theorem test_stopped_witness :
    (State.reset.sf PM_ISLAND_STATE_STATE 77 2).islandStops 77 = true ∧ 77 ≠ islandOf unitThimble ∧
    ((State.reset.sf PM_ISLAND_STATE_STATE 77 2).isl 77).stall = none ∧
    (((State.reset.sf PM_ISLAND_STATE_STATE 77 2).stallAt 77).isl 77).stall ≠ none := by
  refine ⟨?_, ?_, ?_, ?_⟩ <;> decide +kernel

/-! ## ElrynWordsSpellTheirInstructions -/

theorem test_elryn_reserved_witness :
    ((0x3F : BitVec 6).toNat ∈ ([0x3E, 0x3F] : List Nat)) ∧ (3 : BitVec 5) ≠ 0 ∧ (1 : BitVec 2) ≠ 3 := by decide

end Sys2Proof.Tests
end

section
/-!
PROOFS. The step and its frame: which command a step runs, what it takes from the queue, and the parts of the state that it
leaves as they are.
-/

namespace Sys2Proof.Machine

/-- On an empty queue the block idles. -/
theorem step_of_pending_nil {s : State} (h : s.pending = []) : step s = .next s := by
  simp [step, h]

/-- A step runs the command at the front of the queue on the state with the queue's rest. -/
theorem step_of_pending_cons {c : Instr} {l : List Instr} {s : State} (h : s.pending = c :: l) :
    step s = exec c { s with pending := l } := by
  simp [step, h]

/-- The very next step runs a command that is put in front of the queue, and leaves the queue as it was before. -/
theorem step_command (c : Instr) (s : State) : step (s.command c) = exec c s := step_of_pending_cons rfl

/-- Settles O1, from the equations of `step` for the two shapes of a queue. -/
theorem stepRunsTheFrontCommand : Obligations.StepRunsTheFrontCommand :=
  ⟨fun _ _ _ h => step_of_pending_cons h, fun _ h => step_of_pending_nil h, fun c s => step_command c s⟩

/-- Command by command, the list of parts names neither the queue nor the die (a computation on each list). -/
theorem writes_all_ne_pending_die (c : Instr) : (writes c).all (fun k => k != .pending && k != .die) = true := by
  cases c <;> rfl

theorem pending_notMem_writes (c : Instr) : Part.pending ∉ writes c := fun h => by
  simpa using List.all_eq_true.mp (writes_all_ne_pending_die c) _ h

theorem die_notMem_writes (c : Instr) : Part.die ∉ writes c := fun h => by
  simpa using List.all_eq_true.mp (writes_all_ne_pending_die c) _ h

/-- The meaning of a command neither takes from the queue nor adds to it: only `step` does. -/
theorem exec_pending {c : Instr} {s t : State} (h : exec c s = .next t) : t.pending = s.pending :=
  exec_same h (pending_notMem_writes c)

/-- The meaning of a command leaves the die as it is. -/
theorem exec_die {c : Instr} {s t : State} (h : exec c s = .next t) : t.die = s.die :=
  exec_same h (die_notMem_writes c)

/-- Settles O4, by the two shapes of the queue: an idle step is the identity, and the front command runs on the queue's rest
and keeps both the queue and the die. -/
theorem everyStepTakesOneCommandAndKeepsTheDie : Obligations.EveryStepTakesOneCommandAndKeepsTheDie := by
  intro s t h
  cases hq : s.pending with
  | nil =>
    rw [step_of_pending_nil hq] at h
    cases h
    exact ⟨hq, rfl⟩
  | cons c l =>
    rw [step_of_pending_cons hq] at h
    have hpending : t.pending = l := exec_pending h
    have hdie := exec_die h
    exact ⟨hpending, hdie⟩

/-- Settles O5, from the frame of `exec` over all commands; the three instances look up the parts in the command's list. -/
theorem commandsWriteOnlyTheirParts : Obligations.CommandsWriteOnlyTheirParts := by
  refine ⟨fun c s t k h hk => exec_same h hk, fun s t u d h => ?tbStep, fun s t h => ?sysrefReturn,
    fun s t l m h => ?jtagSamplePreload⟩
  case tbStep =>
    have frame (k : Part) (hk : k ∉ eventsAnd [Part.tb, .pm, .mb]) : k.same s t := exec_same h hk
    exact ⟨frame .mem (by decide), frame .engines (by decide), frame .weft (by decide), frame .sessions (by decide)⟩
  case sysrefReturn =>
    have frame (k : Part) (hk : k ∉ [Part.tb]) : k.same s t := exec_same h hk
    exact ⟨frame .mem (by decide), frame .sh (by decide), frame .engines (by decide), frame .objs (by decide)⟩
  case jtagSamplePreload =>
    have frame (k : Part) (hk : k ∉ [Part.out, .jtag]) : k.same s t := exec_same h hk
    exact ⟨frame .mem (by decide), frame .flds (by decide), frame .objs (by decide), frame .engines (by decide),
      frame .sh (by decide)⟩

end Sys2Proof.Machine
end

section
/-!
PROOFS. Deadlines modulo 2^48 (R6): the distance of a deadline, whether it has passed, and the signed distance.
-/

namespace Sys2Proof.Machine

/-- A value without its top bit reads as itself. -/
theorem toSigned_of_lt {w v : Nat} (h : v < 2 ^ (w - 1)) : toSigned w v = v := if_pos h

/-- A value with its top bit reads as negative. -/
theorem toSigned_of_le {w v : Nat} (h : 2 ^ (w - 1) ≤ v) : toSigned w v = v - 2 ^ w := if_neg (Nat.not_lt.mpr h)

theorem deadlineDiff_lt (d now : Nat) : deadlineDiff d now < 2 ^ 48 := Nat.mod_lt _ (by decide)

/-- The natural-number formula of `deadlineDiff` never truncates: it is the difference modulo 2^48. -/
theorem deadlineDiff_cast (d now : Nat) : (deadlineDiff d now : Int) = ((d : Int) - (now : Int)) % 2 ^ 48 := by
  unfold deadlineDiff
  omega

/-- The deadline is the time plus its distance. -/
theorem add_deadlineDiff_mod (d now : Nat) : (now + deadlineDiff d now) % 2 ^ 48 = d % 2 ^ 48 := by
  have := deadlineDiff_cast d now
  omega

/-- The distance the other way round: what takes the deadline forward to the time. -/
theorem add_sub_deadlineDiff_mod (d now : Nat) : (d + (2 ^ 48 - deadlineDiff d now)) % 2 ^ 48 = now % 2 ^ 48 := by
  have := deadlineDiff_cast d now
  have := deadlineDiff_lt d now
  omega

theorem deadlineDiff_eq_zero_iff {d : Nat} (now : Nat) (hd : d < 2 ^ 48) : deadlineDiff d now = 0 ↔ d = now % 2 ^ 48 := by
  have := deadlineDiff_cast d now
  omega

/-- A deadline has passed where its distance is in the upper half of the modulus (R6). -/
theorem deadlinePassed_iff {d now : Nat} : deadlinePassed d now = true ↔ 2 ^ 47 ≤ deadlineDiff d now := decide_eq_true_iff

theorem deadlinePassed_eq_false_iff {d now : Nat} : deadlinePassed d now = false ↔ deadlineDiff d now < 2 ^ 47 := by
  rw [← Bool.not_eq_true, deadlinePassed_iff, Nat.not_le]

/-- A deadline that lies ahead has a signed distance that is its distance. -/
theorem slack_of_ahead {d now : Nat} (h : deadlineDiff d now < 2 ^ 47) : slack d now = deadlineDiff d now :=
  toSigned_of_lt h

/-- A deadline that has passed has a signed distance that is minus the time since. -/
theorem slack_of_passed {d now : Nat} (h : 2 ^ 47 ≤ deadlineDiff d now) :
    slack d now = -((2 ^ 48 - deadlineDiff d now : Nat) : Int) := by
  have hs : slack d now = deadlineDiff d now - 2 ^ 48 := toSigned_of_le h
  have := deadlineDiff_lt d now
  omega

/-- Settles O17: the distance is the difference modulo 2^48, and bit 47 of it tells ahead from passed. -/
theorem deadlinesAreComparedModulo48Bits : Obligations.DeadlinesAreComparedModulo48Bits := by
  intro d now hd
  refine ⟨deadlineDiff_cast d now, fun ahead => ⟨deadlinePassed_eq_false_iff.mpr ahead, ?_, slack_of_ahead ahead⟩,
    deadlineDiff_eq_zero_iff now hd,
    fun passed => ⟨deadlinePassed_iff.mpr passed, add_sub_deadlineDiff_mod d now, slack_of_passed passed⟩⟩
  rw [add_deadlineDiff_mod, Nat.mod_eq_of_lt hd]

end Sys2Proof.Machine
end

section
/-!
PROOFS. Register accesses (R3, R30, R31) and the host's accesses to memory (R397, R493, R494, R506): an equation for each outcome
of an access at its island, at its address and at the register or the words it names, and the clauses from them.
-/

namespace Sys2Proof.Machine

open Ob Reg

/-! ## At the island -/

section
variable {s t : State} {u a w : Nat} {page : Option Nat}

theorem State.presentWrite_of_stops {x : Nat × Option Nat} (v : Nat) (h : s.regStops u page a w = some x) :
    s.presentWrite u page a w v = s.stallOn x := by
  simp [State.presentWrite, h]

theorem State.presentWrite_of_passes (v : Nat) (h : s.regStops u page a w = none) :
    s.presentWrite u page a w v = s.regWrite u page a w v := by
  simp [State.presentWrite, h]

theorem State.answerRead_of_stops {x : Nat × Option Nat} (h : s.regStops u page a w = some x) :
    s.answerRead u page a w = s.stallOn x := by
  simp [State.answerRead, h]

theorem State.answerRead_of_value {v : Nat} (h : s.regStops u page a w = none) (hr : s.regRead u page a w = (some v, t)) :
    s.answerRead u page a w = t.send (.registerRead u (regKey page a) (BitVec.ofNat 64 v)) := by
  simp [State.answerRead, h, hr]

theorem State.answerRead_of_none (h : s.regStops u page a w = none) (hr : s.regRead u page a w = (none, t)) :
    s.answerRead u page a w = t.send (.unsupported u (regKey page a)) := by
  simp [State.answerRead, h, hr]

/-! ## At the address -/

/-- The access is by a requester that does not reach the registers, misaligned, or to an address without a register (R31). -/
def DecodeError (u : Nat) (page : Option Nat) (a w : Nat) : Prop := reaches u page = false ∨ a % w ≠ 0 ∨ regAt page a = none

theorem State.regWrite_of_decodeError (v : Nat) (hview : viewOf page a = none) (h : DecodeError u page a w) :
    s.regWrite u page a w v = s := by
  rcases h with h | h | h <;> simp [State.regWrite, hview, h]

theorem State.regRead_of_decodeError (hview : viewOf page a = none) (h : DecodeError u page a w) :
    s.regRead u page a w = (none, s) := by
  rcases h with h | h | h <;> simp [State.regRead, hview, h]

variable {h : RegHit}

theorem State.regWrite_of_hit (v : Nat) (hview : viewOf page a = none) (hu : reaches u page = true) (ha : a % w = 0)
    (hit : regAt page a = some h) : s.regWrite u page a w v = s.hitWrite u (regKey page (a - h.off)) h w v := by
  simp [State.regWrite, hview, hu, ha, hit]

theorem State.regRead_of_hit (hview : viewOf page a = none) (hu : reaches u page = true) (ha : a % w = 0)
    (hit : regAt page a = some h) : s.regRead u page a w = s.hitRead u (regKey page (a - h.off)) h w := by
  simp [State.regRead, hview, hu, ha, hit]

end

/-! ## At the register -/

section
variable {s t : State} {u k w : Nat} {h : RegHit}

theorem State.hitWrite_of_gone (v : Nat) (hg : s.regGone h.reg h.index = true) : s.hitWrite u k h w v = s := by
  simp [State.hitWrite, hg]

theorem State.hitWrite_whole (v : Nat) (hg : s.regGone h.reg h.index = false) (hoff : h.off = 0) (hw : w = h.reg.bytes) :
    s.hitWrite u k h w v = (s.touchReg h.reg).writeReg u h.reg h.index (v % 2 ^ (8 * w)) := by
  simp [State.hitWrite, hg, hoff, hw]

/-- The low half is staged until the high half comes (R30). -/
theorem State.hitWrite_low (v : Nat) (hg : s.regGone h.reg h.index = false) (hoff : h.off = 0) (hb : h.reg.bytes = 8) :
    s.hitWrite u k h 4 v = { s with staged := halfKeep s.staged u k (v % 2 ^ 32) } := by
  simp [State.hitWrite, hg, hoff, hb]

/-- The high half takes effect with the low half that is staged, or that stands (R30). -/
theorem State.hitWrite_high (v : Nat) (hg : s.regGone h.reg h.index = false) (hoff : h.off = 4) (hb : h.reg.bytes = 8) :
    s.hitWrite u k h 4 v = { s with staged := halfDrop s.staged u k }.writeReg u h.reg h.index
      (v % 2 ^ 32 * 2 ^ 32 + (halfOf s.staged u k).getD (s.lowAsItStands h.reg h.index)) := by
  simp [State.hitWrite, hg, hoff, hb]

theorem State.hitRead_whole_of_foreign (hf : s.regForeign u h.reg h.index = true) (hoff : h.off = 0)
    (hw : w = h.reg.bytes) : s.hitRead u k h w = (some 0, s) := by
  simp [State.hitRead, hf, hoff, hw]

variable (hg : s.regGone h.reg h.index = false) (hf : s.regForeign u h.reg h.index = false)
include hg hf

theorem State.hitRead_whole (hoff : h.off = 0) (hw : w = h.reg.bytes) : s.hitRead u k h w
    = (some ((s.touchReg h.reg).regValue u h.reg h.index), (s.touchReg h.reg).clearRead h.reg h.index 0) := by
  simp [State.hitRead, hg, hf, hoff, hw]

variable (hb : h.reg.bytes = 8) (ht : t = s.touchReg h.reg)
include hb ht

/-- A read of the low half latches the high half (R30). -/
theorem State.hitRead_low (hoff : h.off = 0) : s.hitRead u k h 4
    = (some (t.regValue u h.reg h.index % 2 ^ 32), { t.clearRead h.reg h.index 0 with
        latched := halfKeep t.latched u k (t.regValue u h.reg h.index / 2 ^ 32) }) := by
  simp [State.hitRead, hg, hf, hb, ht, hoff]

/-- A read of the high half takes the latched one (R30). -/
theorem State.hitRead_high_of_latched {x : Nat} (hoff : h.off = 4) (hx : halfOf t.latched u k = some x) :
    s.hitRead u k h 4 = (some x, { t with latched := halfDrop t.latched u k }) := by
  subst ht
  simp [State.hitRead, hg, hf, hb, hoff, hx]

theorem State.hitRead_high_of_none (hoff : h.off = 4) (hx : halfOf t.latched u k = none) :
    s.hitRead u k h 4 = (some (t.regValue u h.reg h.index / 2 ^ 32), t.clearRead h.reg h.index 32) := by
  subst ht
  simp [State.hitRead, hg, hf, hb, hoff, hx]

end

/-! ## Memory through the device window -/

section
variable {s : State} {f a n : Nat}

/-- Beyond the registers the device window of a function reads memory (R493). -/
theorem exec_hostMemoryRead_of_memory (e : List (BitVec 80)) (hf : functionExists f = true) (hp : hasPage f = true)
    (ha : 0x40000000 ≤ a) (hn : a + n ≤ 2 ^ 41) :
    exec (.hostMemoryRead f .bar0 a n e) s = .next (s.hostFetch f a a n e) := by
  simp [exec_hostMemoryRead, execHostMemoryRead, State.hostRead, hf, hp, Nat.not_lt.mpr ha, Nat.not_lt.mpr hn, -Nat.reducePow]

/-- Beyond the registers the device window of a function writes memory, and a poisoned write is counted (R493, R506). -/
theorem exec_hostMemoryWrite_of_memory (poisoned : Bool) (d : List (Option Byte)) (e : List (BitVec 80))
    (hf : functionExists f = true) (hp : hasPage f = true) (ha : 0x40000000 ≤ a) (hn : a + d.length ≤ 2 ^ 41) :
    exec (.hostMemoryWrite f .bar0 a d poisoned e) s
      = .next ((if poisoned then s.incf HP_RX_POISONED_COUNT else s).hostStore f a d poisoned e) := by
  simp [exec_hostMemoryWrite, execHostMemoryWrite, State.hostWrite, hf, hp, Nat.not_lt.mpr ha, Nat.not_lt.mpr hn, -Nat.reducePow]

theorem State.hostFetch_of_unmapped (shown : Nat) (e : List (BitVec 80)) (hm : s.rangeUnmapped a n = true) :
    s.hostFetch f shown a n e = s.send (.unsupported (functionUnit f) shown) := by
  simp [State.hostFetch, hm]

theorem State.hostStore_of_unmapped {d : List (Option Byte)} (poisoned : Bool) (e : List (BitVec 80))
    (hm : s.rangeUnmapped a d.length = true) : s.hostStore f a d poisoned e = s := by
  simp [State.hostStore, hm]

section
variable (hm : s.rangeUnmapped a n = false)
include hm

theorem State.hostFetch_of_denied (shown : Nat) (e : List (BitVec 80)) (hp : s.hostPasses f a n false = false) :
    s.hostFetch f shown a n e = (s.hostDenied f a false).send (.unsupported (functionUnit f) shown) := by
  simp [State.hostFetch, hm, hp]

variable (hp : s.hostPasses f a n false = true)
include hp

theorem State.hostFetch_of_stops {x : Nat × Option Nat} (shown : Nat) (e : List (BitVec 80))
    (hx : s.accessStops (functionUnit f) a n = some x) : s.hostFetch f shown a n e = s.stallOn x := by
  simp [State.hostFetch, hm, hp, hx]

theorem State.hostFetch_of_passes {r : List Carried × State} (shown : Nat) (e : List (BitVec 80))
    (hx : s.accessStops (functionUnit f) a n = none)
    (hr : r = (s.upsetWords (a / 8 * 8) e).readWords (a / 8 * 8) (functionUnit f) 1 (wordsOf a n).length) :
    s.hostFetch f shown a n e = r.2.send (.readData (functionUnit f) shown r.1) := by
  simp [State.hostFetch, hm, hp, hx, hr]

end

section
variable {d : List (Option Byte)} (hm : s.rangeUnmapped a d.length = false)
include hm

theorem State.hostStore_of_denied (poisoned : Bool) (e : List (BitVec 80)) (hp : s.hostPasses f a d.length true = false) :
    s.hostStore f a d poisoned e = s.hostDenied f a true := by
  simp [State.hostStore, hm, hp]

variable (hp : s.hostPasses f a d.length true = true)
include hp

theorem State.hostStore_of_stops {x : Nat × Option Nat} (poisoned : Bool) (e : List (BitVec 80))
    (hx : s.accessStops (functionUnit f) a d.length = some x) : s.hostStore f a d poisoned e = s.stallOn x := by
  simp [State.hostStore, hm, hp, hx]

variable (hx : s.accessStops (functionUnit f) a d.length = none)
include hx

theorem State.hostStore_of_passes (e : List (BitVec 80)) : s.hostStore f a d false e
    = ((s.upsetWords (a / 8 * 8) e).writeEnabled (functionUnit f) (enabledWords a d)).2 := by
  simp [State.hostStore, hm, hp, hx]

/-- A poisoned write stores the poison mark in every word it touches (R506). -/
theorem State.hostStore_of_poisoned (e : List (BitVec 80)) : s.hostStore f a d true e
    = (wordsOf a d.length).foldl (fun s w => s.writeWordAt w (functionUnit f) none) (s.upsetWords (a / 8 * 8) e) := by
  simp [State.hostStore, hm, hp, hx]

end

theorem State.hostPasses_of_some {p : Nat} (h : s.functionPartition f = some p) (a n : Nat) (w : Bool) :
    s.hostPasses f a n w = s.mayAccess p a n w := by
  simp [State.hostPasses, h]

theorem State.hostPasses_of_none (h : s.functionPartition f = none) (hf : f ≠ 0) (a n : Nat) (w : Bool) :
    s.hostPasses f a n w = false := by
  simp [State.hostPasses, h, hf]

end

/-! ## The obligation -/

section
variable {s : State} {u b a w : Nat} {page : Option Nat}

theorem exec_registerWrite_at (v : Word) (ha : a = s.ownRegister page b) :
    exec (.registerWrite u page b w v) s = .next (s.presentWrite u page a w v.toNat) := by
  rw [exec_registerWrite, execRegisterWrite, ha]

theorem exec_rcRegisterRead_at (ha : a = s.ownRegister page b) :
    exec (.rcRegisterRead u page b w) s = .next (s.answerRead u page a w) := by
  rw [exec_rcRegisterRead, execRcRegisterRead, ha]

theorem exec_registerLowHalfRead_at (ha : a = s.ownRegister page b) :
    exec (.registerLowHalfRead u page b) s = .next (s.answerRead u page a 4) := by
  rw [exec_registerLowHalfRead, execRegisterLowHalfRead, ha]

theorem exec_registerHighHalfRead_at (ha : a = s.ownRegister page b) :
    exec (.registerHighHalfRead u page b) s = .next (s.answerRead u page (a + 4) 4) := by
  rw [exec_registerHighHalfRead, execRegisterHighHalfRead, ha]

end

/-- Settles O53: each clause follows the access from its island to its address to the register or the words it names. That
a decode error answers every requester alike, comes before a denial, and that a stopped access waits are the model's (log entries
25, 36 and 60). -/
theorem registerAndHostMemoryCommandsComplete : Obligations.RegisterAndHostMemoryCommandsComplete := by
  refine ⟨fun s u b a w page v ha hview => ?registers,
    fun s t u b a page h k ha hstop hview hu hit hk hoff hb ha4 hg hf ht => ?highHalf,
    fun s f a n e d hf hp ha hn hd => ?memory,
    fun s f p hfp => ⟨fun q a n w hq => State.hostPasses_of_some (hfp.trans hq) a n w,
      fun a n w hq h0 => State.hostPasses_of_none (hfp.trans hq) h0 a n w⟩⟩
  case registers =>
    have write (w : Nat) := exec_registerWrite_at (u := u) (w := w) v ha
    have read := exec_rcRegisterRead_at (u := u) (w := w) ha
    have lowRead := exec_registerLowHalfRead_at (u := u) ha
    rw [read, lowRead]
    simp only [write]
    refine ⟨fun x hx => ⟨?_, ?_⟩, fun x hx => ?_, fun hpass => ?passes⟩
    · rw [State.presentWrite_of_stops _ hx]
    · rw [State.answerRead_of_stops hx]
    · rw [State.answerRead_of_stops hx]
    case passes =>
      refine ⟨fun herr => ⟨?_, ?_⟩, fun herr => ?_, fun h k hu hit hk haw hg => ?gone,
        fun h k hu hit hk hoff haw hg => ?atBase, fun h k hu hit hk hoff hb ha4 hg => ?highWrite⟩
      · rw [State.presentWrite_of_passes _ (hpass w), State.regWrite_of_decodeError _ hview herr]
      · rw [State.answerRead_of_none (hpass w) (State.regRead_of_decodeError hview herr)]
      · rw [State.answerRead_of_none (hpass 4) (State.regRead_of_decodeError hview herr)]
      case gone =>
        rw [State.presentWrite_of_passes _ (hpass w), State.regWrite_of_hit _ hview hu haw hit, State.hitWrite_of_gone _ hg]
      case highWrite =>
        rw [State.presentWrite_of_passes _ (hpass 4), State.regWrite_of_hit _ hview hu ha4 hit,
          State.hitWrite_high _ hg hoff hb, ← hk]
        rfl
      case atBase =>
        have hread := State.regRead_of_hit (s := s) hview hu haw hit
        rw [State.presentWrite_of_passes _ (hpass w), State.regWrite_of_hit _ hview hu haw hit]
        refine ⟨fun hw => ?_, fun hw hb => ?_, fun hw hf => ?_, fun hw hf => ?_, fun t x ht hx hw hb hf => ?_⟩
        · rw [State.hitWrite_whole _ hg hoff hw]
        · subst hw
          rw [State.hitWrite_low _ hg hoff hb, ← hk]
          rfl
        · rw [State.answerRead_of_value (hpass w) (hread.trans (State.hitRead_whole hg hf hoff hw))]
        · rw [State.answerRead_of_value (hpass w) (hread.trans (State.hitRead_whole_of_foreign hf hoff hw))]
          rfl
        · subst hw hx
          rw [State.answerRead_of_value (hpass 4) (hread.trans (State.hitRead_low hg hf hb ht hoff)), ← hk]
          rfl
  case highHalf =>
    have hread := State.regRead_of_hit (s := s) hview hu ha4 hit
    rw [← hk] at hread
    rw [exec_registerHighHalfRead_at ha]
    refine ⟨fun x hx => ?_, fun hx => ?_⟩
    · rw [State.answerRead_of_value hstop (hread.trans (State.hitRead_high_of_latched hg hf hb ht hoff hx))]
      rfl
    · rw [State.answerRead_of_value hstop (hread.trans (State.hitRead_high_of_none hg hf hb ht hoff hx))]
  case memory =>
    subst hd
    have write (poisoned : Bool) := exec_hostMemoryWrite_of_memory (s := s) poisoned d e hf hp ha hn
    rw [exec_hostMemoryRead_of_memory e hf hp ha hn, write, write]
    refine ⟨fun hm => ⟨?_, ?_⟩, fun hm => ⟨fun hd => ?_, fun hd => ?_, fun x hx => ⟨fun hd => ?_, fun hd => ?_⟩,
      fun hd hx r hr => ?_, fun hd hx => ?_⟩, ?poisoned⟩
    · rw [State.hostFetch_of_unmapped a e hm]
    · exact congrArg _ (State.hostStore_of_unmapped false e hm)
    · rw [State.hostFetch_of_denied hm a e hd, State.hostDenied]
    · exact congrArg _ (State.hostStore_of_denied hm false e hd)
    · rw [State.hostFetch_of_stops hm hd a e hx]
    · exact congrArg _ (State.hostStore_of_stops hm hd false e hx)
    · rw [State.hostFetch_of_passes hm hd a e hx hr]
    · exact congrArg _ (State.hostStore_of_passes hm hd hx e)
    case poisoned =>
      rintro t rfl hm hd hx
      exact congrArg _ (State.hostStore_of_poisoned hm hd hx e)

end Sys2Proof.Machine
end

section
/-!
PROOFS. Partition commands and resets (R17 to R26) and the resets of host functions (R508, R635): an equation for each outcome
of a command, and the clauses from them.
-/

namespace Sys2Proof.Machine

open Ob Reg

/-! ## Who commands a partition -/

section
variable {s : State} {n p : Nat} {x : Session}

theorem State.partCommand_of_denied (f : State → Nat × State) (hx : s.session n = some x) (hp : p < 8)
    (hc : x.commands p = false) :
    s.partCommand n p f = s.send (.objectDone (0x2100 + p) 9 codeDenied) := by
  simp [State.partCommand, hx, hc, Nat.not_le.mpr hp]

theorem State.partCommand_of_commands {f : State → Nat × State} {code : Nat} {t : State} (hx : s.session n = some x)
    (hp : p < 8) (hc : x.commands p = true) (hf : f s = (code, t)) :
    s.partCommand n p f = t.send (.objectDone (0x2100 + p) 9 code) := by
  simp [State.partCommand, hx, hc, hf, Nat.not_le.mpr hp]

theorem State.partCommand_of_beyond (f : State → Nat × State) (hx : s.session n = some x) (hp : 8 ≤ p) :
    s.partCommand n p f = s.send (.objectDone (0x2100 + p) 9 codeBadDescriptor) := by
  simp [State.partCommand, hx, hp]

theorem exec_partStart_of_denied (hx : s.session n = some x) (hp : p < 8) (hc : x.commands p = false) :
    exec (.partStart n p) s = .next (s.send (.objectDone (0x2100 + p) 9 codeDenied)) := by
  simp [exec_partStart, execPartStart, hx, hc, Nat.not_le.mpr hp, codeDenied, codeDone]

/-- A start that fails is answered at once. -/
theorem exec_partStart_of_fails {code : Nat} {t : State} (hx : s.session n = some x) (hp : p < 8)
    (hc : x.commands p = true) (hf : s.startPart p = (code, t)) (hcode : code ≠ codeDone) :
    exec (.partStart n p) s = .next (t.send (.objectDone (0x2100 + p) 9 code)) := by
  simp [exec_partStart, execPartStart, hx, hc, hf, hcode, Nat.not_le.mpr hp]

/-- A start that succeeds is answered later, when the partition runs or is reset. -/
theorem exec_partStart_of_starts {t : State} (hx : s.session n = some x) (hp : p < 8) (hc : x.commands p = true)
    (hf : s.startPart p = (codeDone, t)) : exec (.partStart n p) s = .next t := by
  simp [exec_partStart, execPartStart, hx, hc, hf, Nat.not_le.mpr hp]

end

/-! ## What each command does in each state of the partition -/

section
variable {s : State} {p : Nat}

theorem State.createPart_of_unassigned (h : s.pstate p = 0) : s.createPart p
    = (codeDone, { s.so oPART_STATE p 1 with measures := s.measures.set (2 + p) (List.replicate 64 0) }) :=
  if_neg (not_not.mpr h)

theorem State.createPart_of_busy (h : s.pstate p ≠ 0) : s.createPart p = (codeBusy, s) := if_pos h

theorem State.startPart_of_busy (h : s.pstate p ≠ 1) : s.startPart p = (codeBusy, s) := if_pos h

theorem State.startPart_of_invalid (h : s.pstate p = 1) (hv : (s.copyWindows p).startValid p = false) :
    s.startPart p = (codeBadDescriptor, s.copyWindows p) := by
  simp [State.startPart, h, hv]

theorem State.startPart_of_valid (h : s.pstate p = 1) (hv : (s.copyWindows p).startValid p = true) :
    s.startPart p = (codeDone, ((bitsSet 64 ((s.copyWindows p).ob oPART_PANEL_MASK p)).foldl
      (fun s n => s.panelUpFrom n) (s.copyWindows p)).so oPART_STATE p 2) := by
  simp [State.startPart, h, hv]

theorem State.deletePart_of_busy (h : s.pstate p ≠ 1) : s.deletePart p = (codeBusy, s) := if_pos h

/-- The timers and channels of a deleted partition stop, from the ownership at the command. -/
def State.stopTimersAndChannels (s : State) (p : Nat) : State :=
  (((List.range 64).filter (fun c => s.carrierOwner c == some p)).foldl (fun s c => s.disableCarrier c)
    (((List.range 1024).filter (fun n => s.comparatorOwner n == some p)).foldl (fun s n => s.disarm n) s)).dmaResetAll p

/-- The units of a deleted partition are given back: panels and patches off, lanes off, chains without an owner. -/
def State.freeUnits (s : State) (p : Nat) : State :=
  let t := (bitsSet 8 (s.ob oPART_PATCH_MASK p)).foldl (fun s n => s.patchOff n)
    ((bitsSet 64 (s.ob oPART_PANEL_MASK p)).foldl (fun s n => s.panelOff n) s)
  ((List.range 4).filter (fun h => s.ob oHEM_OWNER h == p)).foldl (fun s h => s.so oHEM_OWNER h 0xFF)
    ((bitsSet 48 (t.ob oPART_LANE_MASK p)).foldl (fun s n => s.laneOff n) t)

theorem State.deletePart_of_stopped (h : s.pstate p = 1) : s.deletePart p = (codeDone,
    ((partObjects p).foldl (fun s e => s.dropObject e.1 e.2) ((s.stopTimersAndChannels p).freeUnits p)).so oPART_STATE p 0) :=
  if_neg (not_not.mpr h)

theorem State.stopPart_of_running (h : s.pstate p = 3) :
    s.stopPart p = (codeDone, (s.so oPART_STATE p 4).abortPending p) := if_neg (not_not.mpr h)

theorem State.stopPart_of_busy (h : s.pstate p ≠ 3) : s.stopPart p = (codeBusy, s) := if_pos h

/-! ## Resets -/

theorem State.resetPart_of_unassigned (h : s.pstate p = 0) : s.resetPart p = s := by
  simp [State.resetPart, h]

theorem State.resetPart_of_stopped (h : s.pstate p = 1) :
    s.resetPart p = ((s.resetSymbols p).resetQueues p).dmaResetAll p := by
  simp [State.resetPart, h]

/-- A start under way is answered ABORTED before the reset (R26). -/
theorem State.resetPart_of_starting (h : s.pstate p = 2) : s.resetPart p
    = (((((((s.startDone p codeAborted).abortAll p).holdUnits p).resetSymbols p).resetQueues p).dmaResetAll p).so
      oPART_STATE p 1) := by
  simp [State.resetPart, h]

theorem State.resetPart_of_live (h : s.pstate p = 3 ∨ s.pstate p = 4) : s.resetPart p
    = ((((((s.abortAll p).holdUnits p).resetSymbols p).resetQueues p).dmaResetAll p).so oPART_STATE p 1) := by
  rcases h with h | h <;> simp [State.resetPart, h]

variable {t : State} {f : Nat}

theorem State.flrOne_of_none (ht : t = (s.clearFunction f).endMailbox f) (hp : t.functionPartition f = none) :
    s.flrOne f = t := by
  subst ht
  simp [State.flrOne, hp]

/-- Only PF1 to PF4 start their partition again, and only where MB.P.AUTO_RESTART says so (R635). -/
theorem State.flrOne_of_some (ht : t = (s.clearFunction f).endMailbox f) (hp : t.functionPartition f = some p) :
    s.flrOne f = if 1 ≤ f ∧ f ≤ 4 ∧ (t.resetPart p).ob oMB_P_AUTO_RESTART p = 1 ∧ (t.resetPart p).isMb p = true
      then ((t.resetPart p).startPart p).2 else t.resetPart p := by
  subst ht
  simp [State.flrOne, hp]

/-- A reset of any function but PF0 is that of the one function. -/
theorem exec_functionLevelReset_of_ne (hf : f ≠ 0) : exec (.functionLevelReset f) s = .next (s.flrOne f) := by
  simp [exec_functionLevelReset, execFunctionLevelReset, hf]

end

/-! ## A partition's units -/

section
variable {s t : State} {p : Nat}

/-- What a partition in STARTING becomes once its units are ready (R23). -/
theorem exec_partUnitsReady_of_native (hp : p < 8) (hs : s.pstate p = 2) (ht : s.bit PM_THERM_STATE_TRIP = false)
    (hm : s.isMb p = false) :
    exec (.partUnitsReady p) s = .next (((s.releaseUnits p).so oPART_STATE p 3).startDone p codeDone) := by
  simp [exec_partUnitsReady, execPartUnitsReady, hs, ht, hm, Nat.not_le.mpr hp]

theorem exec_partUnitsReady_of_mb (hp : p < 8) (hs : s.pstate p = 2) (ht : s.bit PM_THERM_STATE_TRIP = false)
    (hm : s.isMb p = true) (hl : (s.mbZeroFill p).mbFraming p = (true, t)) :
    exec (.partUnitsReady p) s
      = .next (((((t.mbEnable p).mbEngines p).releaseUnits p).so oPART_STATE p 3).startDone p codeDone) := by
  simp [exec_partUnitsReady, execPartUnitsReady, hs, ht, hm, hl, Nat.not_le.mpr hp]

/-- Without its framing image an MB partition stays in STARTING (R634). -/
theorem exec_partUnitsReady_of_noImage (hp : p < 8) (hs : s.pstate p = 2) (ht : s.bit PM_THERM_STATE_TRIP = false)
    (hm : s.isMb p = true) (hl : (s.mbZeroFill p).mbFraming p = (false, t)) :
    exec (.partUnitsReady p) s = .next t := by
  simp [exec_partUnitsReady, execPartUnitsReady, hs, ht, hm, hl, Nat.not_le.mpr hp]

theorem exec_partDrainDone_of_drained (hp : p < 8) (hs : s.pstate p = 4)
    (hj : s.sh.jobs.any (fun j => j.part == p) = false) :
    exec (.partDrainDone p) s = .next ((s.holdUnits p).so oPART_STATE p 1) := by
  simp only [exec_partDrainDone, execPartDrainDone, hs, hj]
  simp [Nat.not_le.mpr hp]

theorem exec_partitionReset_of_lt (hp : p < 8) : exec (.partitionReset p) s = .next (s.resetPart p) := by
  simp [exec_partitionReset, execPartitionReset, hp]

end

/-! ## The obligation -/

/-- Settles O50, clause by clause: who may command a partition, what each command does in each of its states, its units' start
and drain, its reset, and the resets of functions. When a start is answered, what a delete clears and that a thermal trip holds the
units back are the model's (log entries 186, 187 and 188). -/
theorem partitionAndFunctionResetCommandsComplete : Obligations.PartitionAndFunctionResetCommandsComplete := by
  refine ⟨fun s n p x hx => ⟨fun hp hc => ?denied, fun hp hc => ?commands, fun hp => ?beyond⟩,
    fun s t p hp hs htrip => ⟨exec_partUnitsReady_of_native hp hs htrip, exec_partUnitsReady_of_mb hp hs htrip,
      exec_partUnitsReady_of_noImage hp hs htrip⟩,
    fun s p hp => ⟨exec_partDrainDone_of_drained hp, ?resets⟩,
    fun s t f p hf ht => ⟨fun hn => ?noPartition, fun hq => ⟨fun hstay => ?stays, fun h4 hauto hmb => ?restarts⟩, rfl, rfl⟩⟩
  case denied =>
    have denied (f : State → Nat × State) :=
      congrArg (Host.Outcome.next (φ := Fault) (ρ := Refusal)) (State.partCommand_of_denied f hx hp hc)
    exact ⟨denied _, exec_partStart_of_denied hx hp hc, denied _, denied _⟩
  case commands =>
    have answered {f : State → Nat × State} {code : Nat} {t : State} (hf : f s = (code, t)) :=
      congrArg (Host.Outcome.next (φ := Fault) (ρ := Refusal)) (State.partCommand_of_commands hx hp hc hf)
    refine ⟨fun h => answered (State.createPart_of_unassigned h), fun h => answered (State.createPart_of_busy h),
      fun h => ⟨exec_partStart_of_fails hx hp hc (State.startPart_of_busy h) (by decide), answered (State.deletePart_of_busy h)⟩,
      fun h => ⟨fun hv => exec_partStart_of_fails hx hp hc (State.startPart_of_invalid h hv) (by decide),
        fun hv => exec_partStart_of_starts hx hp hc (State.startPart_of_valid h hv), ?deletes⟩,
      fun h => answered (State.stopPart_of_running h), fun h => answered (State.stopPart_of_busy h)⟩
    case deletes =>
      intro a b c l d ha hb hc hl hd
      rw [hd, hl, hc, hb, ha]
      exact answered (State.deletePart_of_stopped h)
  case beyond => exact congrArg Host.Outcome.next (State.partCommand_of_beyond _ hx hp)
  case resets =>
    rw [exec_partitionReset_of_lt hp]
    exact ⟨fun h => congrArg _ (State.resetPart_of_unassigned h), fun h => congrArg _ (State.resetPart_of_stopped h),
      fun h => congrArg _ (State.resetPart_of_live h), fun h => congrArg _ (State.resetPart_of_starting h)⟩
  case noPartition => rw [exec_functionLevelReset_of_ne hf, State.flrOne_of_none ht hn]
  case stays =>
    rw [exec_functionLevelReset_of_ne hf, State.flrOne_of_some ht hq, if_neg]
    rintro ⟨_, h4, hauto, _⟩
    exact hstay.elim (fun h => h hauto) (Nat.not_lt.mpr h4)
  case restarts =>
    rw [exec_functionLevelReset_of_ne hf, State.flrOne_of_some ht hq, if_pos ⟨Nat.pos_of_ne_zero hf, h4, hauto, hmb⟩]

end Sys2Proof.Machine
end

section
/-!
PROOFS. Commands to a stopped island (R14, R553): every command that goes to one island is an access at that island's stitches.
-/

namespace Sys2Proof.Machine

/-- The command of requester r takes effect in island i alone, past the island's stitches. -/
def GoesToIsland (r i : Nat) (c : Instr) : Prop := ∃ f : State → State, ∀ s, exec c s = .next (s.atIsland r i f)

/-- A command to a stopped island waits there, whatever it would do. -/
theorem GoesToIsland.waits {r i : Nat} {c : Instr} {s : State} (hc : GoesToIsland r i c) (hi : i ≠ islandOf r)
    (hs : s.islandStops i = true) : exec c s = .next (s.stallAt i) := by
  obtain ⟨f, hf⟩ := hc
  rw [hf, State.atIsland_waits f hi hs]

/-- The first flit that waits at an island is noted with the tick. -/
theorem State.stallAt_of_none {s : State} {i : Nat} (bank : Option Nat) (h : (s.isl i).stall = none) :
    s.stallAt i bank = s.setIsl i { s.isl i with stall := some (s.tb.count, bank) } := by
  simp [State.stallAt, h]

/-- A flit that comes after the first changes nothing. -/
theorem State.stallAt_of_ne_none {s : State} {i : Nat} (bank : Option Nat) (h : (s.isl i).stall ≠ none) :
    s.stallAt i bank = s := by
  simp [State.stallAt, h]

/-- Settles O54: each of the listed commands is by its definition an access at its block's island, and such an access waits. That
nothing but the note of the stall changes is the model's choice (log entry 60). -/
theorem commandsToAStoppedIslandOnlyNoteTheStall : Obligations.CommandsToAStoppedIslandOnlyNoteTheStall := by
  refine ⟨fun s island c i k p q r x1 x2 x3 h w b hs hr hmem => ?waits,
    fun s island => ⟨State.stallAt_of_none none, State.stallAt_of_ne_none none⟩⟩
  case waits =>
    have hc : GoesToIsland r island c := by
      refine (List.forall_iff_forall_mem (p := fun e => GoesToIsland r e.1 e.2)).mp ?_ (island, c) hmem
      simp only [List.Forall]
      and_intros <;> exact ⟨_, fun _ => rfl⟩
    exact hc.waits hr hs

end Sys2Proof.Machine
end

section
/-!
PROOFS. Queue contexts (R60, R61): who may write one, an equation for each outcome of a write of QM_QCFG and of QM_QBASE, and the
clauses from them.
-/

namespace Sys2Proof.Machine

open Reg

/-! ## Who writes a context -/

/-- Thimble firmware writes a queue's context, and host software of the partition that owns the queue (R60). -/
theorem State.mayWriteQueue_iff {s : State} {u q : Nat} : s.mayWriteQueue u q = true ↔
    isThimble u = true ∨ ∃ p, s.queueOwner q = some p ∧ s.isHostOf u p = true := by
  cases h : s.queueOwner q <;> simp [State.mayWriteQueue, State.isOwnerHost, h]

/-- Anyone but Thimble firmware and host software of the owner is denied, and where no partition owns the queue, anyone but Thimble
firmware. -/
theorem State.mayWriteQueue_eq_false {s : State} {u q : Nat} (hu : isThimble u = false)
    (hp : (∀ p, s.queueOwner q = some p → s.isHostOf u p = false) ∨ s.queueOwner q = none) : s.mayWriteQueue u q = false := by
  rw [Bool.eq_false_iff, Ne, State.mayWriteQueue_iff]
  rintro (ht | ⟨p, ho, hh⟩)
  · simp [hu] at ht
  · rcases hp with hp | hn
    · simp [hp p ho] at hh
    · simp [hn] at ho

/-! ## A write of QM_QCFG -/

section
variable {s : State} {u q d g c : Nat}

theorem exec_queueEnable_of_runs (h : s.islandStops weftIsland = false) :
    exec (.queueEnable u q d g c) s = .next (s.writeQcfg u q true ⟨d % 16, g % 16, c % 4096⟩) :=
  congrArg Host.Outcome.next (State.atIsland_runs u _ h)

theorem exec_queueDisable_of_runs (h : s.islandStops weftIsland = false) :
    exec (.queueDisable u q d g c) s = .next (s.writeQcfg u q false ⟨d % 16, g % 16, c % 4096⟩) :=
  congrArg Host.Outcome.next (State.atIsland_runs u _ h)

/-- A shape is the queue's where its three parts read as the three fields. -/
theorem State.mk_eq_queueShape_iff : (⟨d, g, c⟩ : QueueShape) = s.queueShape q ↔
    (d, g, c) = (s.rf QM_QCFG_DEPTH_LOG2 q, s.rf QM_QCFG_GRANT_LOG2 q, s.rf QM_QCFG_CONSUMER q) := by
  simp [State.queueShape]

theorem State.writeQcfg_of_denied (e : Bool) (x : QueueShape) (hw : s.mayWriteQueue u q = false) :
    s.writeQcfg u q e x = s := by
  simp [State.writeQcfg, hw]

variable {x : QueueShape} (hw : s.mayWriteQueue u q = true)
include hw

theorem State.writeQcfg_of_changes (e : Bool) (hon : s.bit QM_QCFG_ENABLE q = true) (hx : x ≠ s.queueShape q) :
    s.writeQcfg u q e x = s.raise evQueueConfig q := by
  simp [State.writeQcfg, hw, hon, hx]

theorem State.writeQcfg_enable_of_keeps (hon : s.bit QM_QCFG_ENABLE q = true) (hx : x = s.queueShape q) :
    s.writeQcfg u q true x = s := by
  simp [State.writeQcfg, hw, hon, hx]

theorem State.writeQcfg_disable_of_keeps (hon : s.bit QM_QCFG_ENABLE q = true) (hx : x = s.queueShape q)
    (hd : s.bit QM_QSTAT_DISABLING q = false) : s.writeQcfg u q false x = s.beginDisable q := by
  simp [State.writeQcfg, hw, hon, hx, hd]

theorem State.writeQcfg_disable_of_off (hoff : s.bit QM_QCFG_ENABLE q = false) :
    s.writeQcfg u q false x = s.setShape q x := by
  simp [State.writeQcfg, hw, hoff]

theorem State.writeQcfg_enable_of_off (hoff : s.bit QM_QCFG_ENABLE q = false) :
    s.writeQcfg u q true x = (s.setShape q x).enableQueue q := by
  simp [State.writeQcfg, hw, hoff]

end

section
variable {s : State} {q : Nat}

theorem State.enableQueue_of_invalid (h : s.queueValid q (s.queueShape q) = false) :
    s.enableQueue q = s.raise evQueueConfig q := by
  simp [State.enableQueue, h]

/-- A queue that passes the checks starts with no port granted anything and its pointers and credits afresh (R61). -/
theorem State.enableQueue_of_valid (h : s.queueValid q (s.queueShape q) = true) : s.enableQueue q
    = ((((s.portsOf q).foldl (fun s u => s.setPort q u { s.port q u with granted := false }) s).clearQueue q).sf
        QM_QCFG_ENABLE q 1).serve q := by
  simp [State.enableQueue, h]

end

/-! ## A write of QM_QBASE -/

section
variable {s : State} {u q b : Nat}

theorem State.writeReg_qbase {r : RegDef} (h : r.is QM_QBASE_BASE = true) : s.writeReg u r q b = s.writeQbase u q b := by
  simp [State.writeReg, writeHooks0, h]

theorem State.writeQbase_of_denied (hw : s.mayWriteQueue u q = false) : s.writeQbase u q b = s := by
  simp [State.writeQbase, hw]

theorem State.writeQbase_of_keeps (h : bitsOf b 47 6 = s.rf QM_QBASE_BASE q) : s.writeQbase u q b = s := by
  simp [State.writeQbase, h]

variable (hw : s.mayWriteQueue u q = true) (h : bitsOf b 47 6 ≠ s.rf QM_QBASE_BASE q)
include hw h

theorem State.writeQbase_of_on (hon : s.bit QM_QCFG_ENABLE q = true) : s.writeQbase u q b = s.raise evQueueConfig q := by
  simp [State.writeQbase, hw, h, hon]

theorem State.writeQbase_of_off (hoff : s.bit QM_QCFG_ENABLE q = false) :
    s.writeQbase u q b = s.sf QM_QBASE_BASE q (bitsOf b 47 6) := by
  simp [State.writeQbase, hw, h, hoff]

end

/-! ## The obligation -/

/-- Settles O16, by who writes and whether ENABLE stands: denied, on, off. The checks of an enable are those of R61; that the
windows grant the storage both reading and writing is the model's choice (log entry 16). -/
theorem queueContextsAreWrittenAsTheRuleSays : Obligations.QueueContextsAreWrittenAsTheRuleSays := by
  refine ⟨rfl, fun s u q d g c b r hr => State.writeReg_qbase hr, fun s u q d g c b hrun hu hp => ?denied,
    fun s u q d g c b hrun hmay hon => ?on, fun s u q d g c b hrun hmay hoff => ?off⟩ <;>
    rw [exec_queueEnable_of_runs hrun, exec_queueDisable_of_runs hrun]
  case denied =>
    have hw := State.mayWriteQueue_eq_false hu hp
    rw [State.writeQcfg_of_denied _ _ hw, State.writeQcfg_of_denied _ _ hw]
    exact ⟨rfl, rfl, State.writeQbase_of_denied hw⟩
  case on =>
    have hw := State.mayWriteQueue_iff.mpr hmay
    refine ⟨fun hx => ?changes, fun hx => ?keeps, fun hb => State.writeQbase_of_on hw hb hon, State.writeQbase_of_keeps⟩
    case changes =>
      have hx := mt State.mk_eq_queueShape_iff.mp hx
      rw [State.writeQcfg_of_changes hw _ hon hx, State.writeQcfg_of_changes hw _ hon hx]
      exact ⟨rfl, rfl⟩
    case keeps =>
      have hx := State.mk_eq_queueShape_iff.mpr hx
      rw [State.writeQcfg_enable_of_keeps hw hon hx]
      exact ⟨rfl, fun hd => congrArg _ (State.writeQcfg_disable_of_keeps hw hon hx hd)⟩
  case off =>
    have hw := State.mayWriteQueue_iff.mpr hmay
    rintro t rfl
    rw [State.writeQcfg_disable_of_off hw hoff, State.writeQcfg_enable_of_off hw hoff]
    refine ⟨rfl, fun hv => congrArg _ (State.enableQueue_of_invalid hv), ?_, fun hb => State.writeQbase_of_off hw hb hoff⟩
    rintro x hv rfl
    exact congrArg _ (State.enableQueue_of_valid hv)

end Sys2Proof.Machine
end

section
/-!
PROOFS. The state after reset (R57, R65, R388): tables that list nothing read as their defaults, and memory as poison.
-/

namespace Sys2Proof.Machine

/-! ## Memory -/

/-- A word that nothing has written is stored as the poison mark, data symbols 0 and c8, c9 = 2, 3 (R388). -/
theorem storedSymbols_nil {a : Nat} (h8 : a % 8 = 0) (h : a + 8 ≤ checkBase) : storedSymbols [] a = codewordOf none := by
  have data : (List.range 8).map (fun i => unwritten (a + i)) = List.replicate 8 0 := by
    rw [List.eq_replicate_iff]
    simp only [List.length_map, List.length_range, List.mem_map, List.mem_range, true_and]
    rintro _ ⟨i, hi, rfl⟩
    exact if_pos (by omega)
  have c8 : unwritten (checkBase + a) = 2 := by
    rw [unwritten, if_neg (by omega), if_pos (by unfold checkBase; omega)]
  have c9 : unwritten (checkBase + a + 1) = 3 := by
    rw [unwritten, if_neg (by omega), if_neg (by unfold checkBase; omega)]
  simp only [storedSymbols, Memory.get, data, c8, c9]
  rfl

/-- The poison mark decodes to POISON: its syndromes are 0x01 and 0x74 (R385). -/
theorem decodeSymbols_poisonMark : decodeSymbols (codewordOf none) = .poison := by decide

/-! ## Engines -/

@[simp] theorem Engine.reg_cleared (st : EngState) (i : BitVec 5) : (Engine.cleared st).reg i = 0 := by
  simp [Engine.reg, Engine.cleared]

@[simp] theorem Engine.off_cleared (st : EngState) (k : BitVec 3) : (Engine.cleared st).off k = 0 := by
  simp [Engine.off, Engine.cleared]

@[simp] theorem Engine.acc_cleared (st : EngState) (j : BitVec 2) : (Engine.cleared st).acc j = 0 := by
  simp [Engine.acc, Engine.cleared]

theorem State.eng_reset (n : Nat) : State.reset.eng n = Engine.cleared .held := rfl

/-! ## The obligation -/

/-- Settles O2: the tables of the state after reset are empty, so a field or an object reads its default, an engine is the cleared
one, and a word is the poison mark. Values that the spec does not state are the model's (log entry 2). -/
theorem resetHoldsTheStatedValues : Obligations.ResetHoldsTheStatedValues := by
  refine ⟨rfl, rfl, rfl, rfl, rfl, rfl, fun f i => rfl, fun o i => rfl, ⟨rfl, rfl, rfl, rfl, rfl⟩, fun n i k j => ?engine,
    fun a h8 h => ?memory⟩
  case engine =>
    rw [State.eng_reset]
    exact ⟨Engine.reg_cleared _ i, Engine.off_cleared _ k, Engine.acc_cleared _ j, rfl, rfl⟩
  case memory =>
    rw [show State.reset.mem = [] from rfl, storedSymbols_nil h8 h, decodeSymbols_poisonMark]

end Sys2Proof.Machine
end

section
/-!
PROOFS. Queue entries, credits and drain marks on the Weft (R37 to R50, R61): an equation for each outcome of a command, and the
clauses from them.
-/

namespace Sys2Proof.Machine

open Reg

/-! ## Stitches and landing -/

/-- The flit that wins the stitch between two islands: of the queue flits that compete there and of the requests and answers that
hold link credit (R41, R42). -/
def State.stitchWinner (s : State) (sender receiver : Nat) (rq an : List LooseFlit) : Option (Flit ⊕ LooseFlit) :=
  arbitrate bidOf (s.nowAt sender) (Tab.get 4095 s.weft.served (sender * 256 + receiver))
    ((s.competing sender receiver).map Sum.inl
      ++ ((rq ++ an).filter (fun f => s.linkCredit (sender * 256 + receiver) (looseVc f.body))).map Sum.inr)

section
variable {s : State} {sender receiver : Nat} {rq an : List LooseFlit} (ra rb : BitVec 80) (es : List (BitVec 80))
  (hrun : s.islandStops receiver = false)
include hrun

theorem exec_stitchTransfer_of_queueFlit {f : Flit} (hwin : s.stitchWinner sender receiver rq an = some (.inl f)) :
    exec (.stitchTransfer sender receiver ra rb es rq an) s
      = .next (s.crossFlit f (sender * 256 + receiver) ra rb es) := by
  unfold State.stitchWinner at hwin
  simp only [exec_stitchTransfer, execStitchTransfer, hwin, hrun, Bool.false_eq_true, if_false]

theorem exec_stitchTransfer_of_looseFlit {f : LooseFlit} (hwin : s.stitchWinner sender receiver rq an = some (.inr f)) :
    exec (.stitchTransfer sender receiver ra rb es rq an) s
      = .next (s.crossLoose f sender (sender * 256 + receiver) ra rb es) := by
  unfold State.stitchWinner at hwin
  simp only [exec_stitchTransfer, execStitchTransfer, hwin, hrun, Bool.false_eq_true, if_false]

end

section
variable {s : State} {q u : Nat} {f : Flit}

/-- A crossed entry lands at a local queue whose slot the queue manager reaches (R46). -/
theorem exec_queueEntryLand_of_local (hf : s.firstFlit q u = some f) (hk : f.kind = .entry) (hx : f.crossed = true)
    (hd : f.dropped = false) (ha : s.aliasOf q = none)
    (hs : s.accessStops unitQueueManager (s.slotAddr q (s.rf QM_QPTR_TAIL q)) 64 = none) :
    exec (.queueEntryLand q u) s
      = .next ((((s.dropFlit f).landEntry q f.payload).entryArrived q).entryLanded q u) := by
  have ha' : (s.dropFlit f).aliasOf q = none := ha
  simp [exec_queueEntryLand, execQueueEntryLand, hf, hk, hx, hd, hs, ha']

/-! ## Pops -/

/-- A pop under its unit's epoch that the Weft's island takes in is served (R46, R54). -/
theorem exec_queuePopRequest_of_runs {e : Nat} (hm : s.mayPop u q = true) (hrun : s.islandStops weftIsland = false)
    (he : s.epochCurrent u e weftIsland = true) : exec (.queuePopRequest q ⟨u, e⟩) s = .next (s.servePop q u) := by
  simp [exec_queuePopRequest, execQueuePopRequest, hm, hrun, he]

section
variable (ha : s.aliasOf q = none)
include ha

theorem State.servePop_of_denied (hc : s.rf QM_QCFG_CONSUMER q ≠ u) : s.servePop q u = s.send (.popDenied q u) := by
  simp [State.servePop, State.popQueue, ha, hc]

variable (hc : s.rf QM_QCFG_CONSUMER q = u) (hrun : s.islandStops weftIsland = false)
include hc hrun

theorem State.servePop_of_empty (h0 : s.occupancy q = 0) : s.servePop q u = s.send (.popEmpty q u) := by
  simp [State.servePop, State.popQueue, ha, hc, hrun, h0]

/-- The consumer is answered with the entry at HEAD (R46). -/
theorem State.servePop_of_entry (h0 : s.occupancy q ≠ 0)
    (hs : s.accessStops unitQueueManager (s.slotAddr q (s.rf QM_QPTR_HEAD q)) 64 = none) : s.servePop q u
      = (s.popQueue q u).2.send (.popEntry q u (s.readSlot (s.slotAddr q (s.rf QM_QPTR_HEAD q))).1) := by
  simp [State.servePop, State.popQueue, ha, hc, hrun, h0, hs]

end

/-! ## Credits -/

theorem exec_creditRequest_of_local (hf : s.arrived (fun f => f.kind == .request && f.queue == q && f.producer == u) = some f)
    (ha : s.aliasOf q = none) :
    exec (.creditRequest q u) s = .next (State.serve { s.dropFlit f with weft := { (s.dropFlit f).weft with
      waiting := s.weft.waiting ++ [(q, u)] } } q) := by
  have ha' : (s.dropFlit f).aliasOf q = none := ha
  simp only [exec_creditRequest, execCreditRequest, hf, ha']
  rfl

/-- A grant to a port that is neither an engine's nor a bolt peer's adds its credits there, and no more (R48). -/
theorem exec_creditGrantArrive_of_plain (hf : s.arrived (fun f => f.grantTo q u) = some f) (heng : 0x440 ≤ u)
    (hbolt : u < 0x900 ∨ 0x908 ≤ u) :
    exec (.creditGrantArrive q u) s = .next ((s.dropFlit f).creditsArrive q u f.credits) := by
  have hpeer : ¬(0x900 ≤ u ∧ u < 0x908) := by omega
  simp [exec_creditGrantArrive, execCreditGrantArrive, hf, hpeer, Nat.not_lt.mpr heng]

/-- A stall past the limit is reported once, with the queue and the unit in one number (R50, log entry 44). -/
theorem exec_queueStall_of_due (hst : (s.port q u).stalled ≠ []) (hr : (s.port q u).raised = false)
    (h0 : s.rf QM_STALL_LIMIT_LIMIT ≠ 0) (hl : s.rf QM_STALL_LIMIT_LIMIT < s.tb.count - (s.port q u).since) :
    exec (.queueStall q u) s
      = .next ((((((s.setPort q u { s.port q u with raised := true }).sf QM_QSTAT_STALLED q 1).maxf QM_QSTALL_MAX_TICKS q
          (s.tb.count - (s.port q u).since)).sf QM_STALL_LAST_PRODUCER 0 u).sf QM_STALL_LAST_QUEUE 0 q).raise
          evQueueStall (q * 4096 + u)) := by
  refine congrArg Host.Outcome.next (if_neg ?_)
  simp [hst, hr, h0, Nat.not_le.mpr hl]

/-! ## Drain marks -/

theorem exec_queueDrainMark_of_crossed (hf : s.firstFlit q u = some f) (hk : f.kind = .drain) (hx : f.crossed = true) :
    exec (.queueDrainMark q u) s = .next (State.endDisable { s.dropFlit f with weft := { (s.dropFlit f).weft with
      drains := s.weft.drains.filter (fun d => !(d.1 == q && d.2.1 == u)) } } q) := by
  simp only [exec_queueDrainMark, execQueueDrainMark, hf, hk, hx]
  rfl

theorem exec_drainMarkResend_of_due {tick : Nat}
    (hd : s.weft.drains.find? (fun d => d.1 == q && d.2.1 == u) = some (q, u, tick))
    (ht : spansNs (s.tb.count - tick) 10000 = true) : exec (.drainMarkResend q u) s = .next (s.sendDrain q u) := by
  simp [exec_drainMarkResend, execDrainMarkResend, hd, ht]

end

/-! ## The floor of a clock -/

/-- A measurement is recorded, and reported where the watch is due (R36, R37). -/
theorem exec_clockFloor_of_lt {s t : State} {i mhz : Nat} {x : FloorWatch} (hi : i < 83)
    (ht : t = (s.sf PM_ISLAND_FREQ_CUR_MHZ i mhz).sf PM_ISLAND_FMIN_MIN_MHZ i (min mhz (s.rf PM_ISLAND_FMIN_MIN_MHZ i)))
    (hx : x = (Tab.get FloorWatch.idle s.weft.floors i).measured s.tb.count mhz (t.targetMhz i)) :
    exec (.clockFloor i mhz) s = .next (if x.due s.tb.count then
        State.raise { t with weft := { t.weft with floors := t.weft.floors.set i { x with raised := true } } } evClockFloor i
      else { t with weft := { t.weft with floors := t.weft.floors.set i x } }) := by
  have hmin : (s.sf PM_ISLAND_FREQ_CUR_MHZ i mhz).rf PM_ISLAND_FMIN_MIN_MHZ i = s.rf PM_ISLAND_FMIN_MIN_MHZ i :=
    State.rf_sf_other _ _ _ _ (by decide)
  rw [exec_clockFloor, execClockFloor, if_neg (Nat.not_le.mpr hi)]
  simp only [hmin, ← ht]
  have hweft : t.weft = s.weft := by rw [ht]; rfl
  have htb : t.tb = s.tb := by rw [ht]; rfl
  rw [hweft, htb, ← hx]
  cases x.due s.tb.count <;> simp

/-! ## The obligation -/

/-- Settles O11, command by command. That the information of EV_QUEUE_STALL is the queue times 4096 plus the unit is the model's
choice (log entry 44). -/
theorem weftEntriesMove : Obligations.WeftEntriesMove := by
  refine ⟨fun s sender receiver ra rb es rq an w hrun hwin => ?transfer,
    fun s q u f => exec_queueEntryLand_of_local, fun s q u e hm hrun he ha hc h0 hs => ?entry,
    fun s q u e hm hrun he ha hc h0 => ?empty, fun s q u e hm hrun he ha hc => ?denied,
    fun s q u f => exec_creditRequest_of_local, fun s q u f => exec_creditGrantArrive_of_plain,
    fun s q u => exec_queueStall_of_due, fun s q u f => exec_queueDrainMark_of_crossed,
    fun s q u tick => exec_drainMarkResend_of_due, fun s i mhz t x => exec_clockFloor_of_lt⟩
  case transfer =>
    cases w with
    | inl f => exact exec_stitchTransfer_of_queueFlit ra rb es hrun hwin
    | inr f => exact exec_stitchTransfer_of_looseFlit ra rb es hrun hwin
  case entry => rw [exec_queuePopRequest_of_runs hm hrun he, State.servePop_of_entry ha hc hrun h0 hs]
  case empty => rw [exec_queuePopRequest_of_runs hm hrun he, State.servePop_of_empty ha hc hrun h0]
  case denied => rw [exec_queuePopRequest_of_runs hm hrun he, State.servePop_of_denied ha hc]

end Sys2Proof.Machine
end

section
/-!
PROOFS. The time base's steps, its synchronization states and its references (R66 to R77): what entering a synchronization state
and losing the source do, an equation for each outcome of a command, and the clauses from them.
-/

namespace Sys2Proof.Machine

open Ob Reg

/-! ## The time base beside registers and objects -/

@[simp] theorem State.tb_setTb (s : State) (t : TimeBase) : (s.setTb t).tb = t := rfl
@[simp] theorem State.rf_setTb (s : State) (t : TimeBase) (f : Fld) (i : Nat) : (s.setTb t).rf f i = s.rf f i := rfl
@[simp] theorem State.ob_setTb (s : State) (t : TimeBase) (o : Obj) (i : Nat) : (s.setTb t).ob o i = s.ob o i := rfl
@[simp] theorem State.sync_setTb (s : State) (t : TimeBase) : (s.setTb t).sync = s.sync := rfl
@[simp] theorem State.setTb_setTb (s : State) (t u : TimeBase) : (s.setTb t).setTb u = s.setTb u := rfl

/-- A register written leaves the synchronization state, where it is not the state's own. -/
theorem State.sync_sf (s : State) {f : Fld} (i v : Nat) (h : f.id % 1024 ≠ TB_STATUS_STATE.id % 1024) :
    (s.sf f i v).sync = s.sync :=
  State.rf_sf_other _ _ _ _ h

@[simp] theorem State.sync_raise (s : State) (e i : Nat) : (s.raise e i).sync = s.sync := State.rf_raise _ _ _ _ (by decide)

@[simp] theorem State.bit_sf (s : State) (f : Fld) (i v : Nat) : (s.sf f i v).bit f i = (v % 2 ^ f.width == 1) := by
  rw [State.bit, State.rf_sf]

/-! ## Entering a synchronization state -/

@[simp] theorem State.sync_setAdj (s : State) (v : Int) : (s.setAdj v).sync = s.sync := State.sync_sf _ _ _ (by decide)

@[simp] theorem State.tb_setClass (s : State) (st : Nat) : (s.setClass st).tb = s.tb := State.so_tb ..

@[simp] theorem State.sync_setClass (s : State) (st : Nat) : (s.setClass st).sync = s.sync := State.rf_so ..

@[simp] theorem State.sync_setPps (s : State) (level : Bool) : (s.setPps level).sync = s.sync := by
  unfold State.setPps; split <;> rfl

@[simp] theorem State.tb_setPps (s : State) (level : Bool) : (s.setPps level).tb = { s.tb with ppsOut := level } := by
  unfold State.setPps
  split
  · next h => rw [← h]
  · rfl

/-- A change of the synchronization state reads back (R70). -/
theorem State.sync_enterSync (s : State) {st : Nat} (h : st < 8) : (s.enterSync st).sync = st := by
  unfold State.enterSync
  dsimp only
  split
  · assumption
  · have hw : ((s.sf TB_STATUS_STATE 0 st).so oTIME_STATE 0 st).sync = st := by
      unfold State.sync
      rw [State.rf_so, State.rf_sf]
      exact Nat.mod_eq_of_lt h
    split <;> simp [hw]

/-- A change of the synchronization state raises EV_TIME_STATE (R70). -/
theorem State.pending_enterSync {s : State} {st : Nat} (h : s.sync ≠ st) : (s.enterSync st).Pending evTimeState := by
  simp [State.enterSync, h]

/-- A change of the synchronization state touches neither a waiting step nor the watch on TIME.HOST_STATE. -/
theorem State.waits_enterSync (s : State) (st : Nat) : (s.enterSync st).tb.stepWaiting = s.tb.stepWaiting ∧
    (s.enterSync st).tb.hostStateTick = s.tb.hostStateTick := by
  unfold State.enterSync
  dsimp only
  split
  · exact ⟨rfl, rfl⟩
  · split <;> simp

/-! ## Losing the source -/

/-- The state in which neither a step waits nor the count is watched for 60 s: what a lost source leaves of them. -/
def State.forgetSource (s : State) : State := s.setTb { s.tb with stepWaiting := none, within := none }

@[simp] theorem State.sync_forgetSource (s : State) : s.forgetSource.sync = s.sync := rfl

theorem State.loseSource_of_acquiring {s : State} (h : s.sync = acquiring) :
    s.loseSource = s.forgetSource.enterSync freerun := by
  simp only [State.loseSource, State.sync_setTb, h, if_true]
  rfl

/-- From LOCKED the rate is frozen, unless host software runs the servo, and HOLDOVER follows (R70, R71). -/
theorem State.loseSource_of_locked {s : State} (h : s.sync = locked) :
    ∃ t : State, s.loseSource = t.enterSync holdover ∧ t.sync = locked ∧ t.tb.hostStateTick = s.tb.hostStateTick := by
  simp only [State.loseSource, State.sync_setTb, h, if_true]
  refine ⟨_, rfl, ?_⟩
  split
  · exact ⟨h, rfl⟩
  · exact ⟨(State.sync_setAdj ..).trans h, rfl⟩

theorem State.loseSource_of_other {s : State} (hl : s.sync ≠ locked) (ha : s.sync ≠ acquiring) :
    s.loseSource = s.forgetSource := by
  simp only [State.loseSource, State.sync_setTb, hl, ha, if_false]
  rfl

theorem State.hostStateTick_loseSource (s : State) : s.loseSource.tb.hostStateTick = s.tb.hostStateTick := by
  by_cases hl : s.sync = locked
  · obtain ⟨t, heq, -, htick⟩ := State.loseSource_of_locked hl
    rw [heq, (State.waits_enterSync t holdover).2, htick]
  · by_cases ha : s.sync = acquiring
    · rw [State.loseSource_of_acquiring ha, (State.waits_enterSync _ freerun).2]
      rfl
    · rw [State.loseSource_of_other hl ha]
      rfl

/-- From LOCKED a lost source gives HOLDOVER and its event. -/
theorem State.holdover_loseSource {s : State} (h : s.sync = locked) :
    s.loseSource.sync = holdover ∧ s.loseSource.Pending evTimeState := by
  obtain ⟨t, heq, hsync, -⟩ := State.loseSource_of_locked h
  rw [heq]
  exact ⟨State.sync_enterSync t (by decide), State.pending_enterSync (by rw [hsync]; decide)⟩

/-- From ACQUIRING a lost source gives FREERUN and its event, and no step waits any more. -/
theorem State.freerun_loseSource {s : State} (h : s.sync = acquiring) :
    s.loseSource.sync = freerun ∧ s.loseSource.Pending evTimeState ∧ s.loseSource.tb.stepWaiting = none := by
  rw [State.loseSource_of_acquiring h]
  exact ⟨State.sync_enterSync _ (by decide), State.pending_enterSync (by rw [State.sync_forgetSource, h]; decide),
    (State.waits_enterSync _ freerun).1⟩

/-- A lost source that changes the synchronization state raises EV_TIME_STATE. -/
theorem State.pending_loseSource {s : State} (h : s.loseSource.sync ≠ s.sync) : s.loseSource.Pending evTimeState := by
  by_cases hl : s.sync = locked
  · exact (State.holdover_loseSource hl).2
  · by_cases ha : s.sync = acquiring
    · exact (State.freerun_loseSource ha).2.1
    · rw [State.loseSource_of_other hl ha] at h
      exact absurd rfl h

/-! ## The commands -/

section
variable {s : State}

/-- Thimble's write of TB_STEP arrives at the timing island, where it is made or denied (R66, R67). -/
theorem exec_tbStep_of_thimble (d : Word) (h : s.islandStops 80 = false) : exec (.tbStep unitThimble d) s
    = .next (if s.anyRunning then (s.sf TB_STATUS_STEP_DENIED 0 1).raise evTbStep else s.stepCount d.toInt) := by
  rw [exec_tbStep, execTbStep, State.atIsland_runs _ _ h]
  rfl

/-- A source within 1 ms of the count is acquired by slewing (R70, R73). -/
theorem exec_syncSourceValid_of_close {e : Int} (h0 : s.ob oTIME_SOURCE ≠ 0) (h3 : s.ob oTIME_SOURCE ≠ 3)
    (hl : s.sync ≠ locked) (he : e.natAbs ≤ 122880) :
    exec (.syncSourceValid e) s = .next ((s.enterSync acquiring).servoUpdate e) := by
  simp [exec_syncSourceValid, execSyncSourceValid, State.sourceValid, h0, h3, hl, he]

theorem exec_syncSourceLost_of_judged (h : s.ob oTIME_SOURCE ≠ 3) : exec .syncSourceLost s = .next s.loseSource := by
  simp [exec_syncSourceLost, execSyncSourceLost, h]

theorem exec_syncLocked_of_within {k : Nat} (ha : s.sync = acquiring) (h3 : s.ob oTIME_SOURCE ≠ 3)
    (hw : s.tb.stepWaiting = none) (hk : s.tb.within = some k) (ht : k + 60 * ticksPerSecond ≤ s.tb.count) :
    exec .syncLocked s = .next (s.enterSync locked) := by
  simp [exec_syncLocked, execSyncLocked, ha, h3, hw, hk, ht]

theorem exec_holdoverExpired_of_due (hs : s.sync = holdover)
    (ht : s.tb.stateSince + s.ob oTIME_HOLDOVER_LIMIT_S * ticksPerSecond ≤ s.tb.count) :
    exec .holdoverExpired s = .next (s.enterSync holdoverExpired) := by
  simp [exec_holdoverExpired, execHoldoverExpired, hs, ht]

/-- What a write of TIME.HOST_STATE notes before the synchronization state follows it. -/
def State.noteHostState (s : State) (v : Nat) : State :=
  (s.so oTIME_HOST_STATE 0 v).setTb { s.tb with hostStateTick := some s.tb.count }

theorem State.source_noteHostState (s : State) (v : Nat) : (s.noteHostState v).ob oTIME_SOURCE = s.ob oTIME_SOURCE :=
  State.ob_so_other _ _ _ _ _ _ (by decide) (by decide) (by decide)

/-- With source 3 the synchronization state follows host software's 1, 2 or 3: these are the states' own numbers (R70, R72). -/
theorem exec_hostStateWrite_of_host {v : Nat} (hv : v ≤ 3) (h0 : v ≠ 0) (h3 : s.ob oTIME_SOURCE = 3) :
    exec (.hostStateWrite v) s = .next ((s.noteHostState v).enterSync v) := by
  have hsrc := not_not_intro ((State.source_noteHostState s v).trans h3)
  rw [exec_hostStateWrite, execHostStateWrite, if_pos hv]
  refine congrArg _ ?_
  obtain rfl | rfl | rfl : v = 1 ∨ v = 2 ∨ v = 3 := by omega
  all_goals exact if_neg hsrc

/-- The state after a lost source, with EV_TIME_STATE raised where nothing else did. -/
theorem exec_hostStateTimeout_of_due {k : Nat} (hk : s.tb.hostStateTick = some k) (h3 : s.ob oTIME_SOURCE = 3)
    (ht : k + 2 * ticksPerSecond ≤ s.tb.count) (r : State)
    (hr : r = (s.setTb { s.tb with hostStateTick := none }).loseSource) :
    exec .hostStateTimeout s = .next (if r.sync = s.sync then r.raise evTimeState r.sync else r) := by
  subst hr
  simp only [exec_hostStateTimeout, execHostStateTimeout, hk, h3, ht, and_self, if_true]

theorem exec_deferredStep_of_waiting (e : Int) (hw : s.tb.stepWaiting.isSome = true) (hr : s.anyRunning = false) :
    exec (.deferredStep e) s
      = .next (((s.setTb { s.tb with stepWaiting := none }).stepCount (-e)).servoUpdate 0) := by
  simp [exec_deferredStep, execDeferredStep, hw, hr]

theorem exec_sysrefLost_of_good (h : s.tb.sysrefLost = false) : exec .sysrefLost s
    = .next (((s.setTb { s.tb with sysrefLost := true, sysrefBack := false }).sf TB_STATUS_FALLBACK 0 1).raise
        evSysrefLost) := by
  simp [exec_sysrefLost, execSysrefLost, h]

theorem exec_sysrefReturn_of_lost (h : s.tb.sysrefLost = true) :
    exec .sysrefReturn s = .next (s.setTb { s.tb with sysrefBack := true }) := by
  simp [exec_sysrefReturn, execSysrefReturn, h]

/-- The tick after the system reference has returned switches back to it (R75). -/
theorem State.reference_countTick (lags : List (Nat × Nat)) (h : s.tb.sysrefBack = true) :
    (s.countTick lags).bit TB_STATUS_FALLBACK = false ∧ (s.countTick lags).tb.sysrefLost = false := by
  unfold State.countTick
  dsimp only
  rw [if_pos h]
  exact ⟨State.bit_sf .., rfl⟩

/-- The timestamp of a PPS_IN edge reads back (R65, R77). -/
theorem exec_ppsInEdge_stamps {sub : Nat} (hsub : sub < 16) (hc : s.tb.count < 2 ^ 60) :
    ∃ t, exec (.ppsInEdge sub) s = .next t ∧ t.rf TB_PPS_IN_TS_TICKS = s.tb.count ∧ t.rf TB_PPS_IN_TS_SUB = sub := by
  refine ⟨_, rfl, ?_, ?_⟩
  · rw [State.rf_setTb, State.rf_sf_other _ _ _ _ (by decide), State.rf_sf]
    exact Nat.mod_eq_of_lt hc
  · rw [State.rf_setTb, State.rf_sf]
    exact Nat.mod_eq_of_lt hsub

theorem exec_ppsInLost_of_due (h2 : s.ob oTIME_SOURCE = 2) (hl : s.tb.ppsInLost = false)
    (ht : max (s.tb.ppsInTick.getD 0) s.tb.sourceTick + 11 * ticksPerSecond / 10 ≤ s.tb.count) :
    exec .ppsInLost s = .next (((s.setTb { s.tb with ppsInLost := true }).raise evPpsInLost).loseSource) := by
  rw [exec_ppsInLost, execPpsInLost, if_pos ⟨h2, hl, ht⟩]

end

/-! ## The obligation -/

/-- Settles O12, clause by clause. That HOST_STATE 3 takes HOLDOVER_EXPIRED back to HOLDOVER and that becoming LOCKED leaves
TIME.PHASE_ERR_NS are the model's choices (log entries 20 and 21). -/
theorem timeSynchronizationFollowsItsStates : Obligations.TimeSynchronizationFollowsItsStates := by
  refine ⟨fun s d hrun hidle => ?step, fun s d hrun hbusy => ?stepDenied,
    fun s e => exec_syncSourceValid_of_close, fun s h3 ha => ?lostAcquiring, fun s h3 hl => ?lostLocked,
    fun s k ha h3 hw hk ht => exec_syncLocked_of_within ha h3 hw hk ht, fun s => exec_holdoverExpired_of_due,
    fun s v hv h0 h3 => ?hostWrite, fun s k hk h3 ht => ?hostTimeout, fun s e => exec_deferredStep_of_waiting e,
    fun s h => ?sysrefLost, fun s => exec_sysrefReturn_of_lost, fun s lags => State.reference_countTick lags,
    fun s => rfl, fun s => ?ppsOut, fun s sub => exec_ppsInEdge_stamps, fun s => exec_ppsInLost_of_due,
    fun s st hst hne => ⟨State.sync_enterSync s (by omega), State.pending_enterSync hne⟩⟩
  case step => rw [exec_tbStep_of_thimble d hrun, hidle]; rfl
  case stepDenied => rw [exec_tbStep_of_thimble d hrun, hbusy]; rfl
  case lostAcquiring => exact ⟨_, exec_syncSourceLost_of_judged h3, State.freerun_loseSource ha⟩
  case lostLocked => exact ⟨_, exec_syncSourceLost_of_judged h3, State.holdover_loseSource hl⟩
  case hostWrite =>
    exact ⟨_, exec_hostStateWrite_of_host hv h0 h3, State.sync_enterSync _ (by omega), (State.waits_enterSync _ v).2⟩
  case hostTimeout =>
    refine ⟨_, exec_hostStateTimeout_of_due hk h3 ht _ rfl, ?_⟩
    have htick := State.hostStateTick_loseSource (s.setTb { s.tb with hostStateTick := none })
    split
    · exact ⟨State.Pending_raise .., by rw [State.raise_tb]; exact htick⟩
    · next hne => exact ⟨State.pending_loseSource hne, htick⟩
  case sysrefLost =>
    refine ⟨_, exec_sysrefLost_of_good h, ?_, State.Pending_raise .., by simp⟩
    rw [State.bit, State.rf_raise _ _ _ _ (by decide), State.rf_sf]
    rfl
  case ppsOut => exact ⟨_, rfl, congrArg TimeBase.ppsOut (State.tb_setPps s _)⟩

end Sys2Proof.Machine
end

section
/-!
PROOFS. A reference period, time-of-day messages, carrier timers and comparators (R62 to R64, R78 to R85): an equation for each
outcome of a command or of what takes effect at a tick, and the clauses from them.
-/

namespace Sys2Proof.Machine

open Ob Reg

/-! ## A reference period -/

/-- A table built from one that has a property of every key and value, by writes that have it, has it too. -/
theorem Tab.get_foldl_set {α : Type} {d : α} {P : Nat → α → Prop} {f : Nat × Nat → α} (hf : ∀ p, P p.1 (f p))
    (l : List (Nat × Nat)) {t : Tab α} (ht : ∀ i, P i (Tab.get d t i)) (i : Nat) :
    P i (Tab.get d (l.foldl (fun t p => t.set p.1 (f p)) t) i) := by
  induction l generalizing t with
  | nil => exact ht i
  | cons p l ih =>
    refine ih fun j => ?_
    rw [Tab.get_set]
    split
    · next h => exact h ▸ hf p
    · exact ht j

/-- A refreshed replica lags at most 8 ticks, and no more than takes it back to where it stood (R64). -/
theorem newLag_le (oldCount oldLag newCount l : Nat) :
    newLag oldCount oldLag newCount l ≤ 8 ∧ newLag oldCount oldLag newCount l ≤ newCount - (oldCount - oldLag) := by
  unfold newLag
  omega

section
variable {s : State} {lags : List (Nat × Nat)}

/-- A tick adds one tick and ADJ to the count and its fraction, exactly, where the count does not wrap (R62). -/
theorem State.count_tick (hc : s.tb.count + 2 < 2 ^ 64) (hf : s.tb.frac < 2 ^ 44) (hlo : -2 ^ 44 ≤ s.adj)
    (hhi : s.adj < 2 ^ 44) :
    2 ^ 44 * ((s.tick lags).tb.count : Int) + (s.tick lags).tb.frac
        = 2 ^ 44 * ((s.tb.count : Int) + 1) + s.tb.frac + s.adj ∧
      s.tb.count ≤ (s.tick lags).tb.count := by
  have hclock := (State.clock_tick s lags).trans (State.clock_countTick s lags)
  have hcount : (s.tick lags).tb.count
      = (s.tb.count + ((s.tb.frac : Int) + 2 ^ 44 + s.adj).toNat / 2 ^ 44) % 2 ^ 64 := congrArg Prod.fst hclock
  have hfrac : (s.tick lags).tb.frac = ((s.tb.frac : Int) + 2 ^ 44 + s.adj).toNat % 2 ^ 44 :=
    congrArg (fun c => c.2.1) hclock
  rw [hcount, hfrac]
  omega

/-- After a tick each island's lag is a new one, or none (R64). -/
theorem State.lag_tick (i : Nat) : Tab.get 0 (s.tick lags).tb.lags i ≤ 8 ∧
    Tab.get 0 (s.tick lags).tb.lags i ≤ (s.tick lags).tb.count - s.replica i := by
  have hclock := (State.clock_tick s lags).trans (State.clock_countTick s lags)
  have hcount := congrArg Prod.fst hclock
  have hlags := congrArg (fun c => c.2.2.1) hclock
  simp only [State.clock] at hcount hlags
  rw [hlags, hcount]
  exact Tab.get_foldl_set (P := fun i v => v ≤ 8 ∧ v ≤ _ - s.replica i) (fun p => newLag_le ..) lags
    (fun j => ⟨Nat.zero_le _, Nat.zero_le _⟩) i

/-- After a tick that does not take the count back, a replica lags at most 8 ticks and has not run backward (R64). -/
theorem State.replica_tick (h : s.tb.count ≤ (s.tick lags).tb.count) (i : Nat) :
    (s.tick lags).tb.count - (s.tick lags).replica i ≤ 8 ∧ s.replica i ≤ (s.tick lags).replica i := by
  obtain ⟨h8, hback⟩ := State.lag_tick (s := s) (lags := lags) i
  have hle : s.replica i ≤ s.tb.count := Nat.sub_le ..
  have hr : (s.tick lags).replica i = (s.tick lags).tb.count - Tab.get 0 (s.tick lags).tb.lags i := rfl
  omega

end

/-! ## Time of day -/

@[simp] theorem length_valBytes (n v : Nat) : (valBytes n v).length = n := by
  induction n generalizing v with
  | zero => rfl
  | succ n ih => simp [valBytes, ih]

theorem length_todMessage (seconds offset flags cls : Nat) : (todMessage seconds offset flags cls).length = 16 := by
  simp [todMessage]

section
variable {s : State} {m : List Byte}

/-- A good message in its interval after the last edge ends the run of bad ones (R78). -/
theorem exec_todRxMessage_of_good (hm : todGood m = true) (ht : ∀ e, s.tb.ppsInTick = some e →
      s.tb.count ≤ e + 9 * ticksPerSecond / 10 ∧ e + ticksPerSecond / 10 ≤ s.tb.count) :
    exec (.todRxMessage m) s = .next (s.setTb { s.tb with todBad := 0, todSeen := true }) := by
  cases he : s.tb.ppsInTick with
  | none => simp [exec_todRxMessage, execTodRxMessage, hm, he]
  | some e =>
    obtain ⟨hlate, hearly⟩ := ht e he
    simp [exec_todRxMessage, execTodRxMessage, hm, he, Nat.not_lt.mpr hlate, Nat.not_lt.mpr hearly]

theorem exec_todRxMessage_of_bad (hm : todGood m = false) : exec (.todRxMessage m) s = .next s.todError := by
  simp [exec_todRxMessage, execTodRxMessage, hm]

theorem exec_todMessageMissing_of_due {e : Nat} (he : s.tb.ppsInTick = some e) (hs : s.tb.todSeen = false)
    (ht : e + 9 * ticksPerSecond / 10 ≤ s.tb.count) : exec .todMessageMissing s = .next s.todError := by
  simp [exec_todMessageMissing, execTodMessageMissing, he, hs, ht]

/-- A bad second that is not the third in a row of source 2 is counted and reported (R78). -/
theorem State.todError_of_few (h : s.tb.todBad < 2 ∨ s.ob oTIME_SOURCE ≠ 2) :
    s.todError.tb.todBad = s.tb.todBad + 1 ∧ s.todError.Pending evTodError := by
  have hkeep : ¬(2 ≤ s.tb.todBad ∧ s.ob oTIME_SOURCE = 2) := by omega
  simp [State.todError, hkeep]

/-- The third bad second in a row loses source 2 (R78). -/
theorem State.todError_of_third (h : 2 ≤ s.tb.todBad) (h2 : s.ob oTIME_SOURCE = 2) :
    s.todError = ((s.setTb { s.tb with todBad := s.tb.todBad + 1, todSeen := true }).raise evTodError).loseSource := by
  simp [State.todError, h, h2]

/-- In the interval of a second whose message has not gone out, one message of 16 bytes does (R78). -/
theorem exec_todTxMessage_of_due (hs : s.tb.todSent ≠ some (s.tb.count / ticksPerSecond))
    (hlo : ticksPerSecond / 10 ≤ s.tb.count % ticksPerSecond)
    (hhi : s.tb.count % ticksPerSecond ≤ 9 * ticksPerSecond / 10) :
    ∃ t m, exec .todTxMessage s = .next t ∧ t.out = .todTx m :: s.out ∧ m.length = 16 ∧
      t.tb.todSent = some (s.tb.count / ticksPerSecond) := by
  rw [exec_todTxMessage, execTodTxMessage]
  dsimp only
  rw [if_pos ⟨hs, hlo, hhi⟩]
  exact ⟨_, _, rfl, rfl, length_todMessage .., rfl⟩

end

/-! ## Carrier timers -/

@[simp] theorem State.carrier_sf (s : State) (f : Fld) (i v c : Nat) : (s.sf f i v).carrier c = s.carrier c := rfl

@[simp] theorem State.rf_setCarrier (s : State) (c : Nat) (x : Carrier) (f : Fld) (i : Nat) :
    (s.setCarrier c x).rf f i = s.rf f i := rfl
@[simp] theorem State.bit_setCarrier (s : State) (c : Nat) (x : Carrier) (f : Fld) (i : Nat) :
    (s.setCarrier c x).bit f i = s.bit f i := rfl
@[simp] theorem State.count_setCarrier (s : State) (c : Nat) (x : Carrier) :
    (s.setCarrier c x).tb.count = s.tb.count := rfl

@[simp] theorem State.carrier_setCarrier (s : State) (c : Nat) (x : Carrier) : (s.setCarrier c x).carrier c = x := by
  simp [State.carrier, State.setCarrier]

@[simp] theorem State.setCarrier_setCarrier (s : State) (c : Nat) (x y : Carrier) :
    (s.setCarrier c x).setCarrier c y = s.setCarrier c y := by
  simp [State.setCarrier, Tab.set_set]

section
variable {s : State} {c : Nat}

/-- TM_CAR_CFG of a timer that is disabled takes all its fields (R80, R81). -/
theorem exec_carrierTimerConfig_cfg {u : Nat} (v : Half) (hc : c < 64) (hrun : s.islandStops 80 = false)
    (hw : s.mayWriteCar u c = true) (hoff : s.bit TM_CAR_CFG_ENABLE c = false) :
    exec (.carrierTimerConfig u c 0 v) s = .next (((((s.sf TM_CAR_CFG_ENABLE c (v.toNat / 2 ^ 31)).sf TM_CAR_CFG_SLOT_EVENT c
      (v.toNat / 2 ^ 30)).sf TM_CAR_CFG_TYPE c (v.toNat / 2 ^ 24)).sf TM_CAR_CFG_ECP c (v.toNat / 2 ^ 23)).setCarrier c
      { s.carrier c with written := true }) := by
  rw [exec_carrierTimerConfig, execCarrierTimerConfig, State.atIsland_runs _ _ hrun, Nat.mod_eq_of_lt hc, if_pos rfl]
  simp [State.writeCarCfg, hw, hoff, -Nat.reducePow]

theorem exec_carrierTimerConfig_offset {u : Nat} (v : Half) (hc : c < 64) (hrun : s.islandStops 80 = false)
    (hw : s.mayWriteCar u c = true) (hoff : s.bit TM_CAR_CFG_ENABLE c = false) :
    exec (.carrierTimerConfig u c 1 v) s
      = .next ((s.sf TM_CAR_OFFSET_OFFSET c v.toNat).setCarrier c { s.carrier c with written := true }) := by
  rw [exec_carrierTimerConfig, execCarrierTimerConfig, State.atIsland_runs _ _ hrun, Nat.mod_eq_of_lt hc,
    if_neg Nat.one_ne_zero]
  simp [State.writeCarOffset, hw, hoff]

/-- The enable checks of a carrier timer fail (R81): a reserved TYPE, ECP with a TYPE that has none, or OFFSET out of range. -/
def State.CarInvalid (s : State) (c : Nat) : Prop :=
  6 ≤ s.rf TM_CAR_CFG_TYPE c ∨ (s.bit TM_CAR_CFG_ECP c = true ∧ s.rf TM_CAR_CFG_TYPE c ≠ 2 ∧ s.rf TM_CAR_CFG_TYPE c ≠ 5) ∨
    frameTicks ≤ s.rf TM_CAR_OFFSET_OFFSET c

section
variable (hw : (s.carrier c).written = true) (hen : s.bit TM_CAR_CFG_ENABLE c = true) (hoff : (s.carrier c).on = false)
include hw hen hoff

/-- A valid enable takes TYPE, ECP and OFFSET and begins at the tick (R81). -/
theorem State.takeCarrier_of_valid (h : ¬s.CarInvalid c) : s.takeCarrier c
    = State.rescheduleAll (s.setCarrier c ⟨true, s.bit TM_CAR_CFG_SLOT_EVENT c, s.rf TM_CAR_CFG_TYPE c,
      s.bit TM_CAR_CFG_ECP c, s.rf TM_CAR_OFFSET_OFFSET c, false, s.tb.count, none, none⟩) c := by
  unfold State.CarInvalid at h
  simp [State.takeCarrier, hw, hen, hoff, h]

theorem State.takeCarrier_of_invalid (h : s.CarInvalid c) : s.takeCarrier c = State.raise
    ((s.setCarrier c { s.carrier c with slotEvent := s.bit TM_CAR_CFG_SLOT_EVENT c, written := false }).sf
      TM_CAR_CFG_ENABLE c 0) evTimerConfig c := by
  unfold State.CarInvalid at h
  simp [State.takeCarrier, hw, hen, hoff, h]

end

/-- At its boundary an enabled timer starts (R81). -/
theorem exec_carrierTimerStart_of_due (hc : c < 64) (hon : (s.carrier c).on = true) (hst : (s.carrier c).start = none)
    (ht : s.carStart c ≤ s.tb.count) : exec (.carrierTimerStart c) s
      = .next (s.setCarrier c { s.carrier c with start := some (s.carStart c) }) := by
  simp [exec_carrierTimerStart, execCarrierTimerStart, Nat.mod_eq_of_lt hc, hon, hst, ht]

theorem exec_carrierSlotStart_of_new (hc : c < 64) (hon : (s.carrier c).on = true) (hev : (s.carrier c).slotEvent = true)
    (hst : (s.carrier c).start.isSome = true) (hnew : (s.carrier c).lastSlot ≠ some (s.slotStart c)) :
    exec (.carrierSlotStart c) s
      = .next ((s.setCarrier c { s.carrier c with lastSlot := some (s.slotStart c) }).raise (evCarrierSlot c)) := by
  simp [exec_carrierSlotStart, execCarrierSlotStart, Nat.mod_eq_of_lt hc, hon, hev, hst, hnew]

end

/-! ## Comparators -/

@[simp] theorem State.cmp_sf (s : State) (f : Fld) (i v n : Nat) : (s.sf f i v).cmp n = s.cmp n := rfl

@[simp] theorem State.cmp_raise (s : State) (e i n : Nat) : (s.raise e i).cmp n = s.cmp n := by
  simp [State.cmp]

@[simp] theorem State.cmp_setCmp (s : State) (n : Nat) (x : Comparator) : (s.setCmp n x).cmp n = x := by
  simp [State.cmp, State.setCmp]

/-- A comparator that the device disarms is disarmed, whatever software has written. -/
theorem State.cmp_clearArm (s : State) (n : Nat) : (s.clearArm n).cmp n = { s.cmp n with arm := false, next := none } := by
  unfold State.clearArm
  dsimp only
  split <;> simp

/-- The owner of a comparator is read from the objects alone. -/
theorem State.comparatorOwner_congr {s t : State} (h : t.objs = s.objs) (n : Nat) :
    t.comparatorOwner n = s.comparatorOwner n := by
  unfold State.comparatorOwner State.timerOwner State.pstate State.ob
  rw [h]

section
variable {s : State} {u n : Nat}

section
variable (hn : n < 1024) (hrun : s.islandStops 80 = false)
include hn hrun

/-- A write of one of the four registers of a comparator arrives at the timing island (R85). -/
theorem exec_comparatorWrite_of_runs {r : Nat} (v : Word) (hr : r ≠ 4) :
    exec (.comparatorWrite u n r v) s = .next (s.writeCmpField u n r v.toNat) := by
  rw [exec_comparatorWrite, execComparatorWrite, State.atIsland_runs _ _ hrun, Nat.mod_eq_of_lt hn, if_neg hr]

theorem exec_comparatorArm_of_runs (hw : s.mayWriteCmp u n = true) (v : Half) :
    exec (.comparatorArm u n v) s
      = .next ((((((((s.sf TM_CMP_CTRL_MODE n ((v.toNat % 2 ^ 31 + 2 ^ 31) / 2 ^ 29)).sf TM_CMP_CTRL_KIND n
      ((v.toNat % 2 ^ 31 + 2 ^ 31) / 2 ^ 27)).sf TM_CMP_CTRL_ANCHOR n ((v.toNat % 2 ^ 31 + 2 ^ 31) / 2 ^ 25)).sf
      TM_CMP_CTRL_CARRIER n ((v.toNat % 2 ^ 31 + 2 ^ 31) / 2 ^ 19)).sf TM_CMP_CTRL_TARGET n (v.toNat % 2 ^ 31 + 2 ^ 31)).sf
      TM_CMP_CTRL_ARM n ((v.toNat % 2 ^ 31 + 2 ^ 31) / 2 ^ 31)).setCmp n { s.cmp n with ctrl := true })) := by
  rw [exec_comparatorArm, execComparatorArm, State.atIsland_runs _ _ hrun, Nat.mod_eq_of_lt hn]
  simp [State.writeCmpCtrl, hw, -Nat.reducePow]

end

/-- A written arming takes effect with every register of the comparator (R85). -/
theorem State.takeCmp_of_arming (hc : (s.cmp n).ctrl = true) (ha : s.bit TM_CMP_CTRL_ARM n = true) :
    s.takeCmp n = State.arm (s.setCmp n { s.cmp n with
      arm := true, mode := s.rf TM_CMP_CTRL_MODE n, kind := s.rf TM_CMP_CTRL_KIND n, anchor := s.rf TM_CMP_CTRL_ANCHOR n,
      carrier := s.rf TM_CMP_CTRL_CARRIER n, target := s.rf TM_CMP_CTRL_TARGET n,
      due := if (s.cmp n).matched then s.rf TM_CMP_MATCH_MATCH n else (s.cmp n).due,
      period := s.rf TM_CMP_PERIOD_PERIOD n, mask := s.rf TM_CMP_SEL_SYMBOL_MASK n, offset := s.rf TM_CMP_OFFSET_OFFSET n,
      ctrl := false, matched := false, other := false }) n := by
  simp [State.takeCmp, hc, ha]

/-- An arming in mode 0 or 1 that passes the checks with its match ahead clears SKIPPED and waits (R85). -/
theorem State.arm_of_ahead (hv : s.armValid n = true) (hm : (s.cmp n).mode < 2)
    (ha : deadlinePassed (s.cmp n).due s.now = false) : s.arm n
    = (s.sf TM_CMP_STAT_SKIPPED n 0).setCmp n { s.cmp n with armedAt := s.tb.count, next := none, lastBoundary := none } := by
  have h2 : (s.cmp n).mode ≠ 2 := Nat.ne_of_lt hm
  have hnow (x : Comparator) : ((s.sf TM_CMP_STAT_SKIPPED n 0).setCmp n x).now = s.now := rfl
  simp [State.arm, hv, h2, ha, hnow]

/-- An arming that fails the checks leaves the comparator disarmed and is reported (R83). -/
theorem State.arm_of_invalid (hv : s.armValid n = false) : s.arm n = (s.clearArm n).raise evTimerConfig n := by
  simp [State.arm, hv]

theorem exec_comparatorFire_of_due (hf : s.tb.fired < 16) (hn : s.cmpFirst s.cmpKeys = some n) :
    exec .comparatorFire s = .next (s.fireCmp n (s.cmpLate n)) := by
  simp [exec_comparatorFire, execComparatorFire, Nat.not_le.mpr hf, hn]

theorem exec_comparatorFire_of_sixteen (h : 16 ≤ s.tb.fired) : exec .comparatorFire s = .next s := by
  simp [exec_comparatorFire, execComparatorFire, h]

/-- The event of a comparator that no partition owns reaches no timer of an MB slot. -/
theorem State.fireFlit_of_unowned (hk : (s.cmp n).kind = 0) (ho : s.comparatorOwner n = none) :
    s.fireFlit n = s.raise evComparator n := by
  have ho' := (State.comparatorOwner_congr (State.raise_objs s evComparator n) n).trans ho
  simp [State.fireFlit, hk, State.mbTimer, ho']

/-- A one-shot comparator that fires on time disarms (R84). -/
theorem State.fireCmp_of_oneShot (hk : (s.cmp n).kind = 0) (hm : (s.cmp n).mode = 0) (ho : s.comparatorOwner n = none) :
    s.fireCmp n 0
      = ((s.raise evComparator n).setTb { s.tb with fired := s.tb.fired + 1 }).clearArm n := by
  have hcmp : ((s.raise evComparator n).setTb { s.tb with fired := s.tb.fired + 1 }).cmp n = s.cmp n := rfl
  simp [State.fireCmp, State.fireFlit_of_unowned hk ho, hcmp, hm]

end

/-! ## The obligation -/

/-- Settles O13, clause by clause. The replicas' clause bounds a subtraction of natural numbers; a replica never runs ahead because
it is by its definition the count less a lag. A message earlier than 100 ms after an edge counts as late for it (log entry 65), so
the clause of a good one asks for both bounds. -/
theorem timeBaseTimersAndComparatorsAct : Obligations.TimeBaseTimersAndComparatorsAct := by
  refine ⟨fun s lags hc hf hlo hhi => ?period, fun s m => exec_todRxMessage_of_good, fun s m hm hfew => ?todBad,
    fun s e he hs ht hfew => ?todMissing, fun s => exec_todTxMessage_of_due, fun s m hm h2 hsrc => ?todThird,
    fun s u c v hc hrun hw hoff =>
      ⟨exec_carrierTimerConfig_cfg v hc hrun hw hoff, exec_carrierTimerConfig_offset v hc hrun hw hoff⟩,
    fun s c hw hen hoff hty hecp hofs => ?enable, fun s c hw hen hoff hbad => ?enableFails,
    fun s c => exec_carrierTimerStart_of_due, fun s c => exec_carrierSlotStart_of_new,
    fun s u n v hn hrun hw => ?cmpWrite, fun s u n v hn hrun hw => exec_comparatorArm_of_runs hn hrun hw v,
    fun s n => State.takeCmp_of_arming, fun s n => State.arm_of_ahead, fun s n hv => ?armFails,
    fun s n hf hn hlate hk hm ho => ?fire, fun s => exec_comparatorFire_of_sixteen⟩
  case period =>
    obtain ⟨hsum, hle⟩ := State.count_tick (lags := lags) hc hf hlo hhi
    exact ⟨_, rfl, hsum, State.replica_tick hle⟩
  case todBad => exact ⟨_, exec_todRxMessage_of_bad hm, State.todError_of_few hfew⟩
  case todMissing => exact ⟨_, exec_todMessageMissing_of_due he hs ht, State.todError_of_few hfew⟩
  case todThird => rw [exec_todRxMessage_of_bad hm, State.todError_of_third h2 hsrc]
  case enable =>
    refine State.takeCarrier_of_valid hw hen hoff ?_
    rintro (h | ⟨h, h2, h5⟩ | h)
    · omega
    · exact (hecp h).elim h2 h5
    · omega
  case enableFails =>
    rw [State.takeCarrier_of_invalid hw hen hoff hbad]
    refine ⟨State.Pending_raise .., ?_⟩
    rw [State.bit, State.rf_raise _ _ _ _ (by decide), State.rf_sf]
    rfl
  case cmpWrite =>
    refine ⟨?_, ?_, ?_, ?_⟩ <;>
      rw [exec_comparatorWrite_of_runs hn hrun v (by decide)] <;> simp [State.writeCmpField, hw]
  case armFails =>
    rw [State.arm_of_invalid hv, State.cmp_raise, State.cmp_clearArm]
    exact ⟨State.Pending_raise .., rfl⟩
  case fire => rw [exec_comparatorFire_of_due hf hn, hlate, State.fireCmp_of_oneShot hk hm ho]

end Sys2Proof.Machine
end

section
/-!
PROOFS. The Shuttle's commands on its own jobs (R87 to R112, R118): an equation for each command where its step may act and its
work is there, and the clauses from them.
-/

namespace Sys2Proof.Machine

open Ob Reg

/-! ## Steps 1 to 6 of a tick -/

@[simp] theorem State.shTick_markStep (s : State) (n : Nat) : (s.markStep n).shTick = s.shTick := rfl

section
variable {s : State}

/-- DESCRIPTOR_STAGE stages from the submission queue that is next in the round robin (R89). -/
theorem exec_descriptorStage_of_next {k : Nat} (hmay : s.stepMay 2 = true) (hk : s.nextSq = some k) :
    exec .descriptorStage s = .next ((s.markStep 2).stage k argsOk) := by
  simp [exec_descriptorStage, execDescriptorStage, hmay, hk]

/-- A descriptor in the middle of a plan that is not rejected and has room stays staged, with the code of its checks
(R87, R92). -/
theorem State.stage_of_midPlan {w x y z : State} {k : Nat} {e : List Carried} {j : Job}
    (hw : w = s.setSh { s.sh with next := (k + 1) % 128 })
    (hpop : w.popQueue (w.rf SH_SQ_CFG_SQ k) unitShuttle = (.entry e, x))
    (hj : j = Job.staged x.sh.nextJob (k / 16) (k % 16) (x.rf SH_SQ_CFG_CQ k) e)
    (hy : y = x.setSh { x.sh with jobs := x.sh.jobs ++ [j], nextJob := x.sh.nextJob + 1 })
    (hz : z = y.modJob j.id (fun i => { i with early := y.stagingCode i (argsOk y i) }))
    (hrej : x.sh.rejecting.contains k = false) (hmid : j.endOfPlan = false)
    (hroom : (z.plan (k / 16) (k % 16)).length < y.ob oSHUTTLE_P_MAX_PENDING (k / 16)) :
    s.stage k argsOk = z := by
  subst hw hj hy hz
  have haccepting := ne_true_of_eq_false hrej
  have hopen := ne_true_of_eq_false hmid
  have hfits := Nat.not_le.mpr hroom
  unfold State.stage
  dsimp only
  rw [hpop]
  exact (if_neg haccepting).trans ((if_neg hopen).trans (if_neg hfits))

theorem exec_shuttleTriggerFire_of_some {t d : Nat} (hmay : s.stepMay 3 = true)
    (ht : shuttleTrigger s.tb.triggers = some (t, d)) : exec .shuttleTriggerFire s
      = .next (State.fireTrigger { s.markStep 3 with
          tb := { s.tb with triggers := s.tb.triggers.erase (.shuttle t d) } } t) := by
  simp [exec_shuttleTriggerFire, execShuttleTriggerFire, hmay, ht]

theorem exec_jobCancel_of_cons {p v m : Nat} {r : List (Nat × Nat × Nat)} (hmay : s.stepMay 4 = true)
    (hc : s.sh.cancels = (p, v, m) :: r) : exec .jobCancel s
      = .next (((s.markStep 4).setSh { (s.markStep 4).sh with cancels := r }).cancelJobs p v m) := by
  simp [exec_jobCancel, execJobCancel, hmay, hc]

theorem exec_jobDispatch_of_best {j : Job} {u : Nat} (hroom : s.dispatchesNow < 4) (hmay : s.stepMay 6 = true)
    (hbest : s.bestJob s.sh.jobs = some (j, u)) (hin : s.inputsStop j = none) : exec .jobDispatch s
      = .next (((s.markStep 6).setSh { (s.markStep 6).sh with
          dispatchTick := s.shTick, dispatchCount := s.dispatchesNow + 1 }).dispatch j u) := by
  simp [exec_jobDispatch, execJobDispatch, Nat.not_le.mpr hroom, hmay, hbest, hin]

theorem exec_jobCompletionReport_of_cons {id : Nat} {r : List Nat} (hmay : s.stepMay 1 = true)
    (hr : s.sh.reports = id :: r) (hroom : s.reportsNow < 4) : exec .jobCompletionReport s
      = .next ((((s.markStep 1).setSh { (s.markStep 1).sh with
          reports := r, reportTick := s.shTick, reportCount := s.reportsNow + 1 }).processReport id).settle) := by
  simp [exec_jobCompletionReport, execJobCompletionReport, hmay, hr, Nat.not_le.mpr hroom]

theorem exec_completionRecordPush_of_next {j : Job} (hj : s.nextRecord = some j) :
    exec .completionRecordPush s = .next (s.pushRecord j) := by
  simp [exec_completionRecordPush, execCompletionRecordPush, hj]

section
variable {j : Job} {id : Nat} (hmay : s.stepMay 5 = true) (hj : s.job id = some j)
  (hdue : s.dropDue j (s.jobSlack j) = true)
include hmay hj hdue

/-- The policy ends a job that is accepted and not dispatched (R104). -/
theorem exec_jobLateCheck_of_accepted (hp : j.phase = .waiting ∨ j.phase = .ready) : exec (.jobLateCheck id) s
    = .next (((s.markStep 5).endJob j.id codeDroppedLate s.shTick false).settle) := by
  rcases hp with hp | hp <;> simp [exec_jobLateCheck, execJobLateCheck, State.lateWaits, hmay, hj, hdue, hp]

theorem exec_jobLateCheck_of_staged (hp : j.phase = .staged) (he : j.early = none) : exec (.jobLateCheck id) s
    = .next ((s.markStep 5).modJob j.id (fun i => { i with early := some codeDroppedLate })) := by
  simp [exec_jobLateCheck, execJobLateCheck, State.lateWaits, hmay, hj, hdue, hp, he]

theorem exec_jobLateCheck_of_running (hp : j.phase = .running) (ha : j.abandoned = false) :
    exec (.jobLateCheck id) s = .next ((s.markStep 5).abandonJob j) := by
  simp [exec_jobLateCheck, execJobLateCheck, State.lateWaits, hmay, hj, hdue, hp, ha]

end

end

/-! ## Writes to the Shuttle's registers -/

/-- SQ_ENABLE writes ENABLE 1. -/
theorem natBit_63_or (v : Word) : natBit (v ||| 0x8000000000000000).toNat 63 = true := by
  rw [natBit, BitVec.testBit_toNat]
  simp

/-- SQ_DISABLE writes ENABLE 0. -/
theorem natBit_63_and (v : Word) : natBit (v &&& 0x7FFFFFFFFFFFFFFF).toNat 63 = false := by
  rw [natBit, BitVec.testBit_toNat]
  simp

/-- SH_SQ_CFG of submission queue k meets the conditions of R118: both queues are the partition's and enabled, and the Shuttle
consumes the submission queue. -/
def State.sqMeets (s : State) (k : Nat) : Bool :=
  s.inRange (k / 16) (s.rf SH_SQ_CFG_SQ k) && s.inRange (k / 16) (s.rf SH_SQ_CFG_CQ k)
    && s.bit QM_QCFG_ENABLE (s.rf SH_SQ_CFG_SQ k) && s.bit QM_QCFG_ENABLE (s.rf SH_SQ_CFG_CQ k)
    && s.rf QM_QCFG_CONSUMER (s.rf SH_SQ_CFG_SQ k) == unitShuttle

section
variable {s : State} {u p k : Nat} (hrun : s.islandStops weftIsland = false)
include hrun

theorem exec_sqEnable_of_runs (v : Word) :
    exec (.sqEnable u k v) s = .next (s.writeSqCfg u k (v ||| 0x8000000000000000).toNat) :=
  congrArg Host.Outcome.next (State.atIsland_runs u _ hrun)

theorem exec_sqDisable_of_runs (v : Word) :
    exec (.sqDisable u k v) s = .next (s.writeSqCfg u k (v &&& 0x7FFFFFFFFFFFFFFF).toNat) :=
  congrArg Host.Outcome.next (State.atIsland_runs u _ hrun)

variable (hmay : s.mayWritePart u p = true)
include hmay

theorem exec_shTriggerWrite_of_owner {v : Half} (ho : s.triggerOwner (v.toNat % 1024) = some p) :
    exec (.shTriggerWrite u p v) s
      = .next { s with tb := { s.tb with triggers := s.tb.triggers ++ [.shuttle (v.toNat % 1024) s.now] } } := by
  rw [exec_shTriggerWrite, execShTriggerWrite, State.atIsland_runs _ _ hrun]
  simp [State.writeTrigger, hmay, ho]

theorem exec_shCancel_of_mayWrite (v : Word) : exec (.shCancel u p v) s
    = .next (s.setSh { s.sh with cancels := s.sh.cancels ++ [(p, v.toNat / 2 ^ 32 % 2 ^ 32, v.toNat % 2 ^ 32)] }) := by
  rw [exec_shCancel, execShCancel, State.atIsland_runs _ _ hrun]
  simp [State.writeCancel, hmay]

end

section
variable {s : State} {u k v : Nat} (hmay : s.mayWritePart u (k / 16) = true)
include hmay

/-- A write with ENABLE 1 to a disabled submission queue takes CQ and SQ and then checks them (R118). -/
theorem State.writeSqCfg_enable_of_off {x : State} (hv : natBit v 63 = true) (hoff : s.bit SH_SQ_CFG_ENABLE k = false)
    (hx : x = (s.sf SH_SQ_CFG_CQ k (v / 2 ^ 16)).sf SH_SQ_CFG_SQ k v) :
    s.writeSqCfg u k v = if x.sqMeets k then (x.sf SH_SQ_CFG_ENABLE k 1).sf SH_SQ_CFG_ERROR k 0
      else (x.sf SH_SQ_CFG_ERROR k 1).shEvent (k / 16) 0 := by
  subst hx
  simp only [State.writeSqCfg, hmay, hoff, hv]
  rfl

/-- A write with ENABLE 0 to an enabled submission queue disables it and ends its plan with ABORTED (R118). -/
theorem State.writeSqCfg_disable_of_on (hv : natBit v 63 = false) (hon : s.bit SH_SQ_CFG_ENABLE k = true) :
    s.writeSqCfg u k v = (((s.sf SH_SQ_CFG_ENABLE k 0).setSh { s.sh with
        rejecting := s.sh.rejecting.filter (fun i => i != k) }).endPlan (k / 16) (k % 16) codeAborted).settle := by
  simp [State.writeSqCfg, hmay, hon, hv]

end

/-! ## The obligation -/

/-- Settles O14, clause by clause: what each step of a tick does where it may act and has work, and what the writes to the Shuttle's
registers do. That an earlier step with work left holds a later one back, that a staged job whose policy is due completes with its
plan, and that records go out in the order of the ends are the model's (log entries 68, 69 and 71). -/
theorem shuttleCommandsComplete : Obligations.ShuttleCommandsComplete := by
  refine ⟨fun s w x y k e j hmay hk hw hpop hj hy hrej hmid hroom => ?stage,
    fun s t d => exec_shuttleTriggerFire_of_some, fun s u p v hrun hmay => exec_shTriggerWrite_of_owner hrun hmay,
    fun s u p v hrun hmay => exec_shCancel_of_mayWrite hrun hmay v, fun s p v m r => exec_jobCancel_of_cons,
    fun s x j u hx hroom hmay hbest hin => ?dispatch, fun s j id => exec_jobLateCheck_of_accepted,
    fun s j id => exec_jobLateCheck_of_staged, fun s j id => exec_jobLateCheck_of_running,
    fun s x id r hx hmay hr hroom => ?report, fun s j => exec_completionRecordPush_of_next,
    fun s x u k v hrun hmay hoff hx => ?enable, fun s x u k v hrun hmay hon hx => ?disable⟩
  case stage =>
    rw [exec_descriptorStage_of_next hmay hk, State.stage_of_midPlan hw hpop hj hy rfl hrej hmid hroom]
  case dispatch =>
    subst hx
    exact exec_jobDispatch_of_best hroom hmay hbest hin
  case report =>
    subst hx
    exact exec_jobCompletionReport_of_cons hmay hr hroom
  case enable =>
    rw [exec_sqEnable_of_runs hrun, State.writeSqCfg_enable_of_off hmay (natBit_63_or v) hoff hx]
    rfl
  case disable =>
    subst hx
    rw [exec_sqDisable_of_runs hrun, State.writeSqCfg_disable_of_on hmay (natBit_63_and v) hon]

end Sys2Proof.Machine
end

section
/-!
PROOFS. Forecasts (R113) and offers to bolt peers (R114, R115, R376): what a message that has just arrived leaves, an equation for
each command where it has something to do, and the clauses from them.
-/

namespace Sys2Proof.Machine

open Ob Reg

section
variable {s x : State}

/-- FORECAST_SEND of an island for which nothing was sent sends what NEXT_USE is (R113). -/
theorem exec_forecastSend_of_first {i : Nat} {v : Option Nat} (hi : i < 72)
    (hnone : s.sh.sent.find? (fun e => e.1 == i) = none) (hv : v = (s.nextUse i).map (fun d => s.shTick + d)) :
    exec (.forecastSend i) s
      = .next (s.setSh { s.sh with sent := s.sh.sent.set i (v, s.shTick), forecasts := s.sh.forecasts ++ [(i, v)] }) := by
  subst hv
  simp [exec_forecastSend, execForecastSend, Nat.not_le.mpr hi, hnone]

/-! ## Offers that go out -/

/-- The peers to which job j is offered, the one that last advertised the most spare units of its type first (R115). -/
def State.offerOrder (s : State) (j : Job) : List Nat :=
  (s.peers.filter (fun n => !s.offersSuspended n)).foldr
    (insertBySpare (fun n => Tab.get 0 s.sh.adverts (n * 8 + (j.accType.map accTypeIndex).getD 0))) []

theorem exec_offerSend_of_peers {j : Job} (hj : s.sh.jobs.find? s.offerable = some j) (hp : s.offerOrder j ≠ []) :
    exec .offerSend s = .next ((s.offerOrder j).foldl (fun t n => t.post n (.offer j.id j.desc (s.inputsOf j)))
      (s.modJob j.id (fun j =>
        { j with offeredOnce := true, offerUntil := some (s.shTick + s.ob oSHUTTLE_OFFER_TIMEOUT_TICKS) }))) := by
  have hp' := mt List.isEmpty_iff.mp hp
  rw [exec_offerSend, execOfferSend, hj]
  exact congrArg Host.Outcome.next (if_neg hp')

/-- OFFER_ADVERTISE, where none was sent, sends the advertisement at once (R376). -/
theorem exec_offerAdvertise_of_first (hon : s.offersOn = true) (hfirst : s.seam.advertTick = none) :
    exec .offerAdvertise s = .next (s.peers.foldl (fun t n => t.post n (.advert (accTypes.map s.spareOf)))
      (s.setSeam { s.seam with advertTick := some s.tb.count })) := by
  simp [exec_offerAdvertise, execOfferAdvertise, hon, hfirst]

/-! ## Messages of offers that arrive -/

/-- An only arrival that a function accepts is taken, and no arrival is left. -/
theorem State.takeArrival_of_only {α : Type} {f : SeamBody → Option α} {n : Nat} {b : SeamBody} {a : α}
    (h : s.seam.arrivals = [(n, b)]) (hx : x = s.setSeam { s.seam with arrivals := [] }) (hf : f b = some a) :
    s.takeArrival f = (some (n, a), x) := by
  subst hx
  simp [State.takeArrival, h, hf]

/-- OFFER_RECEIVE with a free unit of the type beyond the guarantees reserves the first one and accepts (R115, R376). -/
theorem exec_offerReceive_of_spare {n k u : Nat} {d : List Carried} {l : List (List Carried)} {t : AccType} {us : List Nat}
    (ha : s.seam.arrivals = [(n, .offer k d l)]) (hx : x = s.setSeam { s.seam with arrivals := [] })
    (ht : (Job.staged 0 0 0 0 d).accType = some t) (hon : x.offersOn = true) (hn : x.offersSuspended n = false)
    (hspare : 0 < x.spareOf t) (hfree : x.freeAcc t = u :: us) : exec .offerReceive s
      = .next ((x.setSh { x.sh with reservations := x.sh.reservations ++
          [⟨n, k, u, x.shTick + x.ob oSHUTTLE_OFFER_TIMEOUT_TICKS, d, l, argsOk x (Job.staged 0 (8 + n) 0 0 d), false⟩]
        }).post n (.offerAccept k)) := by
  rw [exec_offerReceive, execOfferReceive, State.takeArrival_of_only (a := (k, d, l)) ha hx]
  · simp [ht, hon, hn, hspare, hfree]
  · rfl

section
variable {n k : Nat} (hmay : s.stepMay 7 = true) (ha : s.seam.arrivals = [(n, .offerAccept k)])
  (hx : x = s.setSeam { s.seam with arrivals := [] })
include hmay ha hx

/-- The peer that accepts in time runs the job, which counts as offered (R115). -/
theorem exec_offerAccept_of_open {j : Job} {until_ : Nat} (hj : x.job k = some j) (hp : j.phase = .ready)
    (hu : j.offerUntil = some until_) (ht : x.shTick ≤ until_) (hhead : x.atHead j = true) : exec .offerAccept s
      = .next (((((x.incf SH_OFFERED_COUNT_COUNT j.part).takeInputs j).modJob k (fun i => { i with
          phase := .running, unit := 0x900 + n, attempts := i.attempts + 1, dispatchTick := x.shTick, peer := some n,
          offerUntil := none })).post n (.offerTake k)).settle) := by
  rw [exec_offerAccept, execOfferAccept, State.takeArrival_of_only (a := k) ha hx]
  · simp [hmay, hj, hp, hu, ht, hhead]
  · rfl

/-- An acceptance for a job that is gone is answered with a withdrawal (R115). -/
theorem exec_offerAccept_of_gone (hj : x.job k = none) : exec .offerAccept s = .next (x.post n (.offerWithdraw k)) := by
  rw [exec_offerAccept, execOfferAccept, State.takeArrival_of_only (a := k) ha hx]
  · simp [hmay, hj]
  · rfl

end

end

/-! ## The obligation -/

/-- Settles O15, clause by clause: a forecast, offers and advertisements that go out, an offer or an acceptance that arrives, and
offers whose time has passed. That an offer goes to every peer whose advertisements are not suspended, and that the peer checks only
the windows of ARGS, are the model's (log entries 73 and 76), as is the order of the steps that an acceptance waits for (68). -/
theorem forecastsAndOffersComplete : Obligations.ForecastsAndOffersComplete := by
  refine ⟨fun s i v => exec_forecastSend_of_first, fun s j order hj ho hp => ?send,
    fun s n k d u l t us ha ht => exec_offerReceive_of_spare ha rfl ht,
    fun s x n k until_ j hmay ha hx => exec_offerAccept_of_open hmay ha hx, fun s x n k => exec_offerAccept_of_gone,
    fun s => rfl, fun s => exec_offerAdvertise_of_first⟩
  case send =>
    subst ho
    exact exec_offerSend_of_peers hj hp

end Sys2Proof.Machine
end

section
/-!
PROOFS. What an engine takes between instructions (R144 to R147): the asynchronous cause that is due, an exception that is handled
and one that resets the engine, and the clauses of retiring from them.
-/

namespace Sys2Proof.Machine

open Reg

/-! ## An engine set, beside the rest of the state -/

theorem State.statusOf_setEng (s : State) (g : Nat) {e f : Engine} (h : f.status = e.status) :
    (s.setEng g f).statusOf g = (s.setEng g e).statusOf g := by
  simp only [State.statusOf, State.eng_setEng, h]
  rfl

/-- Squashing fused instructions touches the Gusset alone. -/
theorem State.squashFused_setEng (s : State) (g : Nat) (e : Engine) :
    (s.setEng g e).squashFused g = (s.squashFused g).setEng g e := by
  unfold State.squashFused
  dsimp only
  rw [apply_ite (fun t : State => t.setEng g e)]
  rfl

/-! ## The asynchronous cause that is due -/

section
variable {e : Engine}

/-- Neither cause is due while STATUS.EXC is 1, and a cause only where it waits and is enabled (R144). -/
theorem Engine.asyncCause_eq_none
    (h : e.exc = true ∨ ((e.late = false ∨ e.lie = false) ∧ (e.inbox = [] ∨ e.eie = false))) : e.asyncCause = none := by
  unfold Engine.asyncCause
  rcases h with hexc | ⟨hlate, hevent⟩
  · simp [hexc]
  · have hl : (e.late && e.lie) = false := by rcases hlate with h | h <;> simp [h]
    have hi : (e.eie && !e.inbox.isEmpty) = false := by rcases hevent with h | h <;> simp [h]
    simp [hl, hi]

variable (hstate : e.state = .running ∨ e.state = .free) (hbetween : e.between = true) (hexc : e.exc = false)
include hstate hbetween hexc

theorem Engine.asyncCause_of_late (hlate : e.late = true) (hlie : e.lie = true) : e.asyncCause = some causeJobLate := by
  rcases hstate with h | h <;> simp [Engine.asyncCause, h, hbetween, hexc, hlate, hlie]

/-- JOB_LATE comes before EVENT (R144). -/
theorem Engine.asyncCause_of_event (hlate : e.late = false ∨ e.lie = false) (hinbox : e.inbox ≠ []) (heie : e.eie = true) :
    e.asyncCause = some causeEvent := by
  have hl : (e.late && e.lie) = false := by rcases hlate with h | h <;> simp [h]
  have hi : e.inbox.isEmpty = false := by simpa using hinbox
  rcases hstate with h | h <;> simp [Engine.asyncCause, h, hbetween, hexc, hl, hi, heie]

end

section
variable {s : State} {g : Nat}

theorem State.takeAsync_of_none (h : (s.eng g).asyncCause = none) : s.takeAsync g = s := by
  simp [State.takeAsync, h]

theorem State.takeAsync_of_late (h : (s.eng g).asyncCause = some causeJobLate) : s.takeAsync g
    = (s.setEng g { s.eng g with late := false }).takeException g causeJobLate (s.eng g).pc 0 := by
  simp [State.takeAsync, h]

theorem State.takeAsync_of_event (h : (s.eng g).asyncCause = some causeEvent) :
    s.takeAsync g = s.takeException g causeEvent (s.eng g).pc 0 := by
  simp [State.takeAsync, h, causeEvent, causeJobLate]

/-! ## Exceptions -/

/-- An exception that can be handled enters the handler at EVEC (R145, R146). -/
theorem State.takeException_of_handled {cause : Nat} (epc a : Nat) (hvec : (s.eng g).evec ≠ 0)
    (hexc : (s.eng g).exc = false) : s.takeException g cause epc a = (s.squashFused g).setEng g { s.eng g with
      estatus := s.statusOf g, epc := epc, ecause := cause, eaddr := a % 2 ^ 48
      status := ((s.eng g).status ||| 1) &&& ~~~(6 : BitVec 32), pc := (s.eng g).evec, wait := .none
      popAsked := (s.eng g).asked, resumed := false, eindex := 0 } := by
  simp [State.takeException, hvec, hexc]

/-- A synchronous exception inside a handler, and one without a handler, cannot be handled (R147). -/
theorem State.takeException_of_unhandled {cause : Nat} (epc a : Nat) (hc : cause < 0x10)
    (h : (s.eng g).exc = true ∨ (s.eng g).evec = 0) : s.takeException g cause epc a = s.unhandled g cause epc :=
  if_pos (h.symm.imp_right fun hexc => ⟨hexc, hc⟩)

end

/-- What an exception between instructions leaves of engine e, whose next word is at pc (R145, R146). -/
def State.interrupted (s : State) (g : Nat) (e : Engine) (pc : Nat) : Engine :=
  { e with
    estatus := (s.setEng g e).statusOf g, epc := pc % 2 ^ 15, eaddr := 0, eindex := 0, resumed := false, wait := .none
    status := (e.status ||| 1) &&& ~~~(6 : BitVec 32), pc := e.evec }

/-- An exception taken behind an instruction that has retired saves the next program counter (R144 to R146). -/
theorem State.takeException_goesOn (s : State) {g pc : Nat} {e : Engine} (cause : Nat) (hexc : e.exc = false)
    (hvec : e.evec ≠ 0) : (s.goesOn g e pc).takeException g cause (pc % 2 ^ 15) 0
      = (s.squashFused g).setEng g { s.interrupted g e pc with ecause := cause } := by
  have hstatus : (s.setEng g { e with pc := pc % 2 ^ 15, resumed := false, wait := .none }).statusOf g
      = (s.setEng g e).statusOf g := State.statusOf_setEng s g rfl
  rw [State.goesOn, State.takeException_of_handled _ _ (by rwa [State.eng_setEng]) (by rwa [State.eng_setEng]), hstatus,
    State.squashFused_setEng, State.setEng_setEng, State.eng_setEng]
  rfl

section
variable {s : State} {g pc : Nat} {e : Engine}

theorem State.retireAt_of_none (h : e.exc = true ∨ ((e.late = false ∨ e.lie = false) ∧ (e.inbox = [] ∨ e.eie = false))) :
    s.retireAt g e pc = s.goesOn g e pc := by
  refine State.takeAsync_of_none ?_
  rw [State.eng_setEng]
  exact Engine.asyncCause_eq_none h

variable (hstate : e.state = .running ∨ e.state = .free) (hexc : e.exc = false) (hvec : e.evec ≠ 0)
include hstate hexc hvec

theorem State.retireAt_of_late (hlate : e.late = true) (hlie : e.lie = true) : s.retireAt g e pc
    = (s.squashFused g).setEng g { s.interrupted g e pc with ecause := causeJobLate, late := false } := by
  have hdue : ((s.goesOn g e pc).eng g).asyncCause = some causeJobLate := by
    rw [State.goesOn, State.eng_setEng]
    exact Engine.asyncCause_of_late hstate rfl hexc hlate hlie
  have hstatus : (s.setEng g { e with late := false }).statusOf g = (s.setEng g e).statusOf g :=
    State.statusOf_setEng s g rfl
  refine (State.takeAsync_of_late hdue).trans ?_
  rw [State.goesOn, State.eng_setEng, State.setEng_setEng]
  refine (State.takeException_goesOn s (e := { e with late := false }) _ hexc hvec).trans ?_
  rw [State.interrupted, State.interrupted, hstatus]

theorem State.retireAt_of_event (hlate : e.late = false ∨ e.lie = false) (hinbox : e.inbox ≠ []) (heie : e.eie = true) :
    s.retireAt g e pc = (s.squashFused g).setEng g { s.interrupted g e pc with ecause := causeEvent } := by
  have hdue : ((s.goesOn g e pc).eng g).asyncCause = some causeEvent := by
    rw [State.goesOn, State.eng_setEng]
    exact Engine.asyncCause_of_event hstate rfl hexc hlate hinbox heie
  refine (State.takeAsync_of_event hdue).trans ?_
  rw [State.goesOn, State.eng_setEng]
  exact State.takeException_goesOn s _ hexc hvec

end

/-! ## The obligation -/

/-- Settles O29: what retiring leads to for each asynchronous cause that is due, and a synchronous exception that is handled or resets
the engine. -/
theorem retiringTakesAsynchronousCauses : Obligations.RetiringTakesAsynchronousCauses := by
  refine ⟨fun s g pc e => State.retireAt_of_none, fun s g pc e f hstate hexc hvec hf => ?async,
    fun s g cause a e he hc => ?sync⟩
  case async =>
    subst hf
    exact ⟨State.retireAt_of_late hstate hexc hvec, State.retireAt_of_event hstate hexc hvec⟩
  case sync =>
    subst he
    exact ⟨fun hexc hvec => State.takeException_of_handled _ _ hvec hexc, State.takeException_of_unhandled _ _ hc⟩

end Sys2Proof.Machine
end

section
/-!
PROOFS. Engine instructions and their decode mode (R144, R195): every command of an engine executes under its mode, and what such a
command leads to where the engine does not execute, takes a cause first, or decodes the other mode.
-/

namespace Sys2Proof.Machine

/-! ## Under either mode -/

section
variable {s : State} {g : Nat}

theorem State.execute_of_not_executes (body : Engine → State) (h : s.executes g = false) : s.execute g body = s := by
  simp [State.execute, h]

/-- An asynchronous cause that is due is taken in the instruction's place (R144). -/
theorem State.execute_of_asyncCause (body : Engine → State) (h : s.executes g = true) (hc : (s.eng g).asyncCause ≠ none) :
    s.execute g body = s.takeAsync g := by
  simp [State.execute, h, Option.isSome_iff_ne_none.mpr hc]

theorem State.execute_of_runs (body : Engine → State) (h : s.executes g = true) (hc : (s.eng g).asyncCause = none) :
    s.execute g body = body (s.eng g) := by
  simp [State.execute, h, hc]

theorem State.native_of_mbDsp (body : Engine → State) (h : s.executes g = true) (hc : (s.eng g).asyncCause = none)
    (hm : s.mbDsp g = true) : s.native g body = s.illegal g := by
  rw [State.native, State.execute_of_runs _ h hc, if_pos hm]

theorem State.mbNative_of_elryn (body : Engine → State) (h : s.executes g = true) (hc : (s.eng g).asyncCause = none)
    (hm : s.mbDsp g = false) : s.mbNative g body = s.illegal g := by
  rw [State.mbNative, State.execute_of_runs _ h hc, if_neg (by simp [hm])]

/-- An engine that executes waits at no fused instruction, behind which another could be sent ahead (R130). -/
theorem State.gussetAhead_of_executes (op : GOp) (h : s.executes g = true) : s.gussetAhead g op = false := by
  have hready : (s.eng g).ready = true := by
    simp only [State.executes, Bool.and_eq_true] at h
    exact h.1.2
  have hwait : (s.eng g).wait ≠ .gusset := fun hw => by simp [Engine.ready, hw] at hready
  simp [State.gussetAhead, hwait]

theorem State.gussetOp_of_not_ahead (op : Engine → GOp) (h : ∀ o, s.gussetAhead g o = false) :
    ∃ body, s.gussetOp g op = s.native g body :=
  ⟨_, if_neg (by simp [h])⟩

end

theorem State.alu_eq_native (s : State) (g : Nat) (d : BitVec 5) (f : Engine → Word) :
    s.alu g d f = s.native g (fun e => s.retire g (e.setReg d (f e))) := rfl

theorem State.vecLogic_eq_native (s : State) (g : Nat) (t : ElemType) (d a b : BitVec 5) (f : Nat → Nat → Nat) :
    s.vecLogic g t d a b f = s.native g (fun e => if typesBHWD t then s.retire g (e.setVec d (vFill (e.vec d) t.width (e.vle t)
      (fun i => f (vField (e.vec a) t.width i) (vField (e.vec b) t.width i)))) else s.illegal g) := rfl

/-! ## Command by command -/

/-- A command of an Elryn instruction executes it natively, where it is not sent ahead. -/
theorem exec_of_elrynOn {c : Instr} {g : Nat} {s : State} (h : elrynOn c = some g)
    (ha : ∀ op, s.gussetAhead g op = false) : ∃ body, exec c s = .next (s.native g body) := by
  have fused (op : Engine → GOp) : ∃ body,
      (.next (s.gussetOp g op) : Host.Outcome State Fault Refusal) = .next (s.native g body) :=
    (State.gussetOp_of_not_ahead op ha).imp fun _ => congrArg _
  have scalar (d : BitVec 5) (f : Engine → Word) : ∃ body,
      (.next (s.alu g d f) : Host.Outcome State Fault Refusal) = .next (s.native g body) :=
    ⟨_, congrArg _ (State.alu_eq_native s g d f)⟩
  have logic (t : ElemType) (d a b : BitVec 5) (f : Nat → Nat → Nat) : ∃ body,
      (.next (s.vecLogic g t d a b f) : Host.Outcome State Fault Refusal) = .next (s.native g body) :=
    ⟨_, congrArg _ (State.vecLogic_eq_native s g t d a b f)⟩
  cases c <;> cases h
  case iAdd | iSub | iAnd | iOr | iXor | iSll | iSrl | iSra | iSlt | iSltu | iMin | iMax | iMinu | iMaxu | iMul | iMulh |
      iMulhu | iAddi | iAndi | iOri | iXori | iSlti | iSltiu | iSlli | iSrli | iSrai | iLis | iLik => exact scalar _ _
  case iVand | iVor | iVxor => exact logic _ _ _ _ _
  case iVldff m => cases m <;> exact ⟨_, rfl⟩
  case iGmovt | iGmovf | iGmul | iGmulh | iGmulbh | iGmac | iGmsu | iGadd | iGsub | iGherm | iGzero | iGshr | iGstat =>
    exact fused _
  case iLdu sz _ _ _ =>
    by_cases hsz : sz = 3
    · exact ⟨_, congrArg _ (if_pos hsz)⟩
    · exact ⟨_, congrArg _ (if_neg hsz)⟩
  all_goals exact ⟨_, rfl⟩

/-- A command of an MB-DSP operation executes it under that mode. -/
theorem exec_of_mbDspOn {c : Instr} {g : Nat} {s : State} (h : mbDspOn c = some g) :
    ∃ body, exec c s = .next (s.mbNative g body) := by
  cases c <;> cases h
  all_goals exact ⟨_, rfl⟩

/-- A command of an engine, of either mode, executes on it. -/
theorem exec_of_engine {c : Instr} {g : Nat} {s : State} (h : elrynOn c = some g ∨ mbDspOn c = some g)
    (ha : ∀ op, s.gussetAhead g op = false) : ∃ body, exec c s = .next (s.execute g body) := by
  rcases h with h | h
  · exact (exec_of_elrynOn h ha).elim fun _ hb => ⟨_, hb⟩
  · exact (exec_of_mbDspOn h).elim fun _ hb => ⟨_, hb⟩

/-! ## The obligation -/

/-- Settles O30: every such command executes under its mode. That the command of an engine that does not execute changes nothing,
that one of the other mode is ILLEGAL, and what is sent ahead are the model's (log entries 47, 46 and 84). -/
theorem engineCommandsNeedTheirDecodeMode : Obligations.EngineCommandsNeedTheirDecodeMode := by
  refine fun c s g => ⟨fun h hn ha => ?idle, fun h hx hc => ?cause, fun h hx hc hm => ?elryn, fun h hx hc hm => ?mbDsp⟩
  case idle =>
    obtain ⟨body, hb⟩ := exec_of_engine h ha
    rw [hb, State.execute_of_not_executes body hn]
  case cause =>
    obtain ⟨body, hb⟩ := exec_of_engine h fun op => State.gussetAhead_of_executes op hx
    rw [hb, State.execute_of_asyncCause body hx hc]
  case elryn =>
    obtain ⟨body, hb⟩ := exec_of_elrynOn h fun op => State.gussetAhead_of_executes op hx
    rw [hb, State.native_of_mbDsp body hx hc hm]
    rfl
  case mbDsp =>
    obtain ⟨body, hb⟩ := exec_of_mbDspOn (s := s) h
    rw [hb, State.mbNative_of_elryn body hx hc hm]
    rfl

end Sys2Proof.Machine
end

section
/-!
PROOFS. Scalar arithmetic, accumulators and searches (R125, R139 to R141, R184, R185, R188): each such instruction changes the engine's
registers and retires at the next word; MACR and MSUR accumulator by accumulator.
-/

namespace Sys2Proof.Machine

/-! ## Instructions that only change the engine -/

/-- Settles O19: each of these instructions writes one register, and retiring follows. -/
theorem scalarArithmeticWritesItsRegister : Obligations.ScalarArithmeticWritesItsRegister := by
  intro s g e d a b imm n hw x y hrun he hx hy
  have writes (f : Engine → Word) :
      (.next (s.alu g d f) : Host.Outcome State Fault Refusal) = .next (s.retireAt g (e.setReg d (f e)) (e.pc + 4)) := by
    rw [State.alu_runs hrun, he]
  subst hx hy
  and_intros <;> exact writes _

/-! ## Accumulators -/

/-- ACCZ clears accumulators alone (R139). -/
theorem Engine.calm_clearAccs (e : Engine) (mask : BitVec 4) : e.Calm ((List.range 4).foldl
    (fun e k => if mask.getLsbD k then e.setAcc (BitVec.ofNat 2 k) 0 else e) e) := by
  refine Engine.Calm.foldl _ _ (fun e k => ?_) e
  split
  · exact Engine.calm_setAcc ..
  · exact .refl e

theorem Engine.acc_setAcc (e : Engine) (j k : BitVec 2) (v : Int) :
    (e.setAcc k v).acc j = if j = k then (BitVec.ofInt 40 v).toInt else e.acc j := by
  have hjk : k.toNat = j.toNat ↔ j = k := by rw [eq_comm, BitVec.toNat_inj]
  simp only [Engine.acc, Engine.setAcc, Vector.getElem_set, hjk]
  split <;> rfl

@[simp] theorem Engine.acc_orAsat (e : Engine) (b : Bool) (k : BitVec 2) : (e.orAsat b).acc k = e.acc k := by
  cases b <;> rfl

/-- What sat40 keeps fits an accumulator (R139). -/
theorem toInt_satTo_40 (v : Int) : (BitVec.ofInt 40 (satTo 40 v).1).toInt = max (-2 ^ 39) (min (2 ^ 39 - 1) v) := by
  have hclamp : (satTo 40 v).1 = max (-2 ^ 39) (min (2 ^ 39 - 1) v) := by
    unfold satTo
    split
    · omega
    · split <;> omega
  rw [hclamp, BitVec.toInt_ofInt, Int.bmod_eq_of_le] <;> omega

/-- Accumulation adds to one accumulator, clamped to 40 bits, and leaves the others (R139). -/
theorem Engine.acc_accumulate (e : Engine) (j k : BitVec 2) (v : Int) : (e.accumulate k v).acc j
    = if j = k then max (-2 ^ 39) (min (2 ^ 39 - 1) (e.acc k + v)) else e.acc j := by
  rw [Engine.accumulate, Engine.acc_orAsat, Engine.acc_setAcc, toInt_satTo_40]

/-- Accumulation writes neither a scalar nor a vector register. -/
theorem Engine.regs_accumulate (e : Engine) (k : BitVec 2) (v : Int) :
    (e.accumulate k v).g = e.g ∧ (e.accumulate k v).v = e.v := by
  rw [Engine.accumulate]
  cases (satTo 40 (e.acc k + v)).2 <;> exact ⟨rfl, rfl⟩

/-- MACR and MSUR accumulate into each accumulator once. -/
theorem Engine.acc_macr (e : Engine) (sign : Int) (x y : Word) (k : BitVec 2) : (e.macr sign x y).acc k
    = max (-2 ^ 39) (min (2 ^ 39 - 1) (e.acc k + sign * (half16 x k.toNat * half16 y k.toNat))) := by
  obtain rfl | rfl | rfl | rfl : k = 0 ∨ k = 1 ∨ k = 2 ∨ k = 3 := by decide +revert
  all_goals simp [Engine.macr, Engine.acc_accumulate]

theorem Engine.regs_macr (e : Engine) (sign : Int) (x y : Word) :
    (e.macr sign x y).g = e.g ∧ (e.macr sign x y).v = e.v := by
  simp [Engine.macr, Engine.regs_accumulate]

/-- An accumulator written from a register reads as the register's low 40 bits. -/
theorem Engine.acc_setAcc_toInt (e : Engine) (k : BitVec 2) (x : Word) :
    (e.setAcc k x.toInt).acc k = (x.setWidth 40).toInt := by
  rw [Engine.acc_setAcc, if_pos rfl, ← BitVec.signExtend_eq_setWidth_of_le x (by decide)]
  rfl

/-! ## The obligation -/

/-- Settles O22: each of these instructions is an engine update that keeps the program counter, and MACR's accumulators clamp. -/
theorem accumulatorsAndSearchesComplete : Obligations.AccumulatorsAndSearchesComplete := by
  refine ⟨fun s g e d a b k n wide pair mask x y hrun he hx hy => ?retires, fun e sign x y k => ?macr,
    Engine.acc_setAcc_toInt⟩
  case macr => exact ⟨Engine.acc_macr e sign x y k, Engine.regs_macr e sign x y⟩
  case retires =>
    have retires (f : Engine → Engine) (hf : ∀ e : Engine, e.Calm (f e)) :
        (.next (s.regOp g f) : Host.Outcome State Fault Refusal) = .next (s.retireAt g (f e) (e.pc + 4)) := by
      rw [State.regOp_runs hrun f hf, he]
    subst hx hy
    refine ⟨retires _ fun e => Engine.calm_macr .., retires _ fun e => Engine.calm_macr ..,
      retires _ fun e => Engine.calm_cmac .., retires _ fun e => Engine.calm_cmac ..,
      retires _ fun e => Engine.calm_clearAccs e mask, retires _ fun e => ?_, retires _ fun e => ?_,
      retires _ fun e => Engine.calm_setReg .., retires _ fun e => Engine.calm_setAcc .., retires _ fun e => ⟨rfl, rfl, rfl⟩,
      retires _ fun e => Engine.calm_search .., retires _ fun e => Engine.calm_search ..,
      retires _ fun e => Engine.calm_search ..⟩
    · exact (Engine.calm_setReg ..).trans (Engine.calm_orSat ..)
    · exact (Engine.calm_setReg ..).trans (Engine.calm_orSat ..)

end Sys2Proof.Machine
end

section
/-!
PROOFS. Branches, jumps, special registers and the system group (R126, R129, R134, R145, R146, R150, R153, R183, R186): an equation for
each outcome of an instruction, and the clauses from them.
-/

namespace Sys2Proof.Machine

/-! ## Branches and jumps -/

/-- A taken branch or jump retires at a multiple of 4 and raises MISALIGNED elsewhere (R129). -/
theorem State.jumpTo_eq (s : State) (g : Nat) (e : Engine) (pc : Nat) : s.jumpTo g e pc
    = if pc % 4 = 0 then s.retireAt g e pc else s.raiseSync g causeMisaligned pc :=
  ite_not ..

/-- From an aligned program counter an offset in words leads to an aligned target. -/
theorem branchTarget_mod_four {pc : Nat} (off : Int) (h : pc % 4 = 0) : branchTarget pc off % 4 = 0 := by
  unfold branchTarget
  omega

section
variable {s : State} {g : Nat} (hrun : s.runsElryn g)
include hrun

/-- A conditional branch jumps where its condition holds and retires where it does not (R186). -/
theorem State.branch_runs (off : BitVec 16) {cond : Engine → Bool} {p : Prop} [Decidable p]
    (h : cond (s.eng g) = true ↔ p) : s.branch g off cond
      = if p then s.jumpTo g (s.eng g) (branchTarget (s.eng g).pc off.toInt) else s.retire g (s.eng g) := by
  simp only [State.branch, State.native_runs hrun, h]

theorem State.jumpReg_runs (a : BitVec 5) (link : Option (BitVec 5)) : s.jumpReg g a link
    = s.jumpTo g (match link with
      | some d => (s.eng g).link d
      | none => s.eng g) (((s.eng g).reg a).toNat % 2 ^ 15) :=
  State.native_runs hrun _

/-! ## The system group -/

theorem exec_iFence_of_done (h : s.storesDone g = true) :
    exec (.iFence g) s = .next (s.retireAt g (s.eng g) ((s.eng g).pc + 4)) := by
  rw [exec_iFence, execIFence, State.native_runs hrun, if_pos h]
  rfl

/-- Until its stores are acknowledged the engine presents FENCE again (R134). -/
theorem exec_iFence_of_pending (h : s.storesDone g = false) :
    exec (.iFence g) s = .next (s.setEng g { s.eng g with wait := .again 0 }) := by
  rw [exec_iFence, execIFence, State.native_runs hrun, if_neg (ne_true_of_eq_false h)]

theorem exec_iWaitjob_of_free (h : (s.eng g).state = .free) : exec (.iWaitjob g) s = .next (s.waitJob g) := by
  rw [exec_iWaitjob, execIWaitjob, State.native_runs hrun, if_pos h]

section
variable (a : BitVec 5) (hstate : (s.eng g).state = .running) (hjob : (s.eng g).job.isSome = true)
include hstate hjob

theorem exec_iExit_of_landed (h : s.pushesLanded g = true) : exec (.iExit g a) s = .next (s.finishExit g
    (((s.eng g).reg a).toNat % 256) (((s.eng g).reg 4).toNat % 2 ^ 32) ((s.eng g).reg 5).toNat) := by
  rw [exec_iExit, execIExit, State.native_runs hrun, if_pos ⟨hstate, hjob⟩]
  exact congrArg _ (if_pos h)

/-- EXIT waits until the job's pushes have landed (R150). -/
theorem exec_iExit_of_pushing (h : s.pushesLanded g = false) : exec (.iExit g a) s = .next (s.setEng g { s.eng g with
    wait := .exit (((s.eng g).reg a).toNat % 256) (((s.eng g).reg 4).toNat % 2 ^ 32) ((s.eng g).reg 5).toNat }) := by
  rw [exec_iExit, execIExit, State.native_runs hrun, if_pos ⟨hstate, hjob⟩]
  exact congrArg _ (if_neg (ne_true_of_eq_false h))

end

/-! ## Special registers -/

theorem exec_iMfs_of_some (d : BitVec 5) {r : BitVec 5} {v : Word} {t : State} (h : s.readSpecial g r = some (v, t)) :
    exec (.iMfs g d r) s = .next (t.retire g ((t.eng g).setReg d v)) := by
  rw [exec_iMfs, execIMfs, State.native_runs hrun, h]

theorem exec_iMfs_of_none (d : BitVec 5) {r : BitVec 5} (h : s.readSpecial g r = none) :
    exec (.iMfs g d r) s = .next (s.illegal g) := by
  rw [exec_iMfs, execIMfs, State.native_runs hrun, h]

theorem exec_iMts_of_none {r a : BitVec 5} (h : (s.eng g).writeSpecial g r ((s.eng g).reg a) = none) :
    exec (.iMts g r a) s = .next (s.illegal g) := by
  simp only [exec_iMts, execIMts, State.native_runs hrun, h]

end

/-- MTS writes no program counter: PC is read only (R126). -/
theorem Engine.calm_writeSpecial {e f : Engine} {g : Nat} {r : BitVec 5} {v : Word} (h : e.writeSpecial g r v = some f) :
    e.Calm f := by
  unfold Engine.writeSpecial at h
  split at h
  case h_13 =>
    split at h
    · cases h
      exact ⟨rfl, rfl, rfl⟩
    · split at h <;> cases h
      exact ⟨rfl, rfl, rfl⟩
  all_goals
    cases h
    exact ⟨rfl, rfl, rfl⟩

theorem exec_iMts_of_some {s : State} {g : Nat} (hrun : s.runsElryn g) {r a : BitVec 5} {f : Engine}
    (h : (s.eng g).writeSpecial g r ((s.eng g).reg a) = some f) :
    exec (.iMts g r a) s = .next (s.retireAt g f ((s.eng g).pc + 4)) := by
  simp only [exec_iMts, execIMts, State.native_runs hrun, h, State.retire_eq (Engine.calm_writeSpecial h)]

/-! ## The obligation -/

/-- Settles O20, instruction by instruction. That EADDR of a misaligned branch or jump is its target is the model's (log entry 82). -/
theorem controlInstructionsGoWhereTheRulesSay : Obligations.ControlInstructionsGoWhereTheRulesSay := by
  intro s g e d a b off far x y hrun he hx hy
  subst he
  refine ⟨?branches, ?links, fun f => rfl, fun h => ⟨branchTarget_mod_four _ h, branchTarget_mod_four _ h⟩, ?nop,
    exec_iFence_of_done hrun, exec_iFence_of_pending hrun, ?eret, fun hvec hexc => ?breaks, ?signal, ?waitjob,
    fun hstate hjob hl => ?exits, fun hstate hjob hl => ?exitWaits, fun v t => exec_iMfs_of_some hrun d,
    exec_iMfs_of_none hrun d, fun f hf => ?mts, fun hf => ?mtsIllegal⟩
  case branches =>
    rintro go rfl
    subst hx hy
    simp only [← State.jumpTo_eq]
    have taken {cond : Engine → Bool} {p : Prop} [Decidable p] (h : cond (s.eng g) = true ↔ p) :=
      congrArg (Host.Outcome.next (φ := Fault) (ρ := Refusal)) (State.branch_runs hrun off h)
    exact ⟨taken beq_iff_eq, taken bne_iff_ne, taken (by simp [BitVec.slt]), taken (by simp [BitVec.slt]),
      taken (by simp [BitVec.ult]), taken (by simp [BitVec.ult]), congrArg _ (State.native_runs hrun _),
      congrArg _ (State.jumpReg_runs hrun a none)⟩
  case links =>
    rintro go rfl
    subst hx
    simp only [← State.jumpTo_eq]
    exact ⟨congrArg _ (State.native_runs hrun _), congrArg _ (State.jumpReg_runs hrun a (some d))⟩
  case nop => exact congrArg _ (State.regOp_runs hrun id Engine.Calm.refl)
  case eret => exact congrArg _ (State.native_runs hrun _)
  case signal => exact congrArg _ (State.native_runs hrun _)
  case breaks =>
    exact congrArg _ ((State.native_runs hrun _).trans (State.takeException_of_handled _ _ hvec hexc))
  case waitjob =>
    rintro z rfl hfree
    exact exec_iWaitjob_of_free hrun hfree
  case exits => exact hx ▸ exec_iExit_of_landed hrun a hstate hjob hl
  case exitWaits => exact hx ▸ exec_iExit_of_pushing hrun a hstate hjob hl
  case mts => exact exec_iMts_of_some hrun (hx ▸ hf)
  case mtsIllegal => exact exec_iMts_of_none hrun (hx ▸ hf)

end Sys2Proof.Machine
end

section
/-!
PROOFS. Scalar loads and stores and the queue instructions (R135 to R138, R142 to R144, R187): an equation for each outcome of an
access that is checked, and the clauses from them.
-/

namespace Sys2Proof.Machine

/-! ## A read of a clean word -/

/-- A clean word outside DRAM is read without any accounting (R388). -/
theorem State.readWordAt_of_clean {s : State} {a c k : Nat} {w : Word} (unit kind : Nat) (hp : s.place a = .cell c k)
    (hw : decodeSymbols (storedSymbols s.mem c) = .clean w) :
    (s.readWordAt a unit kind).1 = some w ∧ (k / 0x1000 ≠ 6 → (s.readWordAt a unit kind).2 = s) := by
  simp only [State.readWordAt, hp, State.readCell, hw, State.watchBurst]
  exact ⟨trivial, fun hk => if_neg hk⟩

/-- A load from a clean word gives the word's bytes at the address (R136). -/
theorem State.loadBytes_of_clean {s : State} {g ea n c k : Nat} {w : Word} (hp : s.place (ea / 8 * 8) = .cell c k)
    (hw : decodeSymbols (storedSymbols s.mem c) = .clean w) :
    (s.loadBytes g ea n).1 = some (w.toNat / 2 ^ (ea % 8 * 8) % 2 ^ (8 * n)) ∧
      (k / 0x1000 ≠ 6 → (s.loadBytes g ea n).2 = s) := by
  obtain ⟨hvalue, hstate⟩ := State.readWordAt_of_clean g 0 hp hw
  exact ⟨by rw [State.loadBytes, hvalue]; rfl, hstate⟩

/-! ## Loads and stores -/

section
variable {s : State} {g ea n : Nat} {base : Word} {b : BitVec 5} {m : AddrMode}

theorem State.whenOpen_of_none (body : State) (h : s.accessStops g ea n = none) : s.whenOpen g ea n body = body := by
  simp [State.whenOpen, h]

theorem State.whenOpen_of_some {x : Nat × Option Nat} (body : State) (h : s.accessStops g ea n = some x) :
    s.whenOpen g ea n body = s.holdE4 g x := by
  simp [State.whenOpen, h]

variable (hrun : s.runsElryn g)
include hrun

section
variable {sz : Nat} (signed : Bool) (d : BitVec 5) (ha : s.addressAligned g b m (2 ^ sz) = .at ea base)
include ha

theorem State.loadOp_of_fault {c : Nat} (hf : s.accessFault g ea (2 ^ sz) (2 ^ sz) false = some c) :
    s.loadOp g sz signed d b m = s.raiseFault g c ea (2 ^ sz) false := by
  simp only [State.loadOp, State.native_runs hrun, ha, hf]

variable (hf : s.accessFault g ea (2 ^ sz) (2 ^ sz) false = none)
include hf

theorem State.loadOp_of_stops {x : Nat × Option Nat} (hs : s.accessStops g ea (2 ^ sz) = some x) :
    s.loadOp g sz signed d b m = s.holdE4 g x := by
  simp only [State.loadOp, State.native_runs hrun, ha, hf]
  exact State.whenOpen_of_some _ hs

variable {r : Option Nat × State} (hs : s.accessStops g ea (2 ^ sz) = none) (hr : r = s.loadBytes g ea (2 ^ sz))
include hs hr

/-- The loaded value stands where the base register is the same register (R137). -/
theorem State.loadOp_of_value {v : Nat} (hv : r.1 = some v) : s.loadOp g sz signed d b m
    = r.2.retire g (((r.2.eng g).setReg b base).setReg d
        (if signed then BitVec.ofInt 64 (toSigned (8 * 2 ^ sz) v) else BitVec.ofNat 64 v)) := by
  obtain ⟨v', t⟩ := r
  subst hv
  simp only [State.loadOp, State.native_runs hrun, ha, hf, State.whenOpen_of_none _ hs, ← hr]

theorem State.loadOp_of_bad (hv : r.1 = none) : s.loadOp g sz signed d b m = r.2.poisonReset g := by
  obtain ⟨v', t⟩ := r
  subst hv
  simp only [State.loadOp, State.native_runs hrun, ha, hf, State.whenOpen_of_none _ hs, ← hr]

end

section
variable {sz : BitVec 2} (d : BitVec 5) (ha : s.addressAligned g b m (2 ^ sz.toNat) = .at ea base)
include ha

theorem exec_iSt_of_fault {c : Nat} (hf : s.accessFault g ea (2 ^ sz.toNat) (2 ^ sz.toNat) true = some c) :
    exec (.iSt g sz d b m) s = .next (s.raiseFault g c ea (2 ^ sz.toNat) true) := by
  simp only [exec_iSt, execISt, State.native_runs hrun, ha, hf]

variable (hf : s.accessFault g ea (2 ^ sz.toNat) (2 ^ sz.toNat) true = none)
include hf

theorem exec_iSt_of_stops {x : Nat × Option Nat} (hs : s.accessStops g ea (2 ^ sz.toNat) = some x) :
    exec (.iSt g sz d b m) s = .next (s.holdE4 g x) := by
  simp only [exec_iSt, execISt, State.native_runs hrun, ha, hf, State.whenOpen_of_some _ hs]

/-- A store into a bad word marks the job (R136). -/
theorem exec_iSt_of_open {r : Bool × State} {t : State} (hs : s.accessStops g ea (2 ^ sz.toNat) = none)
    (hr : r = s.storeBytes g ea (2 ^ sz.toNat) ((s.eng g).reg d).toNat) (ht : t = if r.1 then r.2.poisonJob g else r.2) :
    exec (.iSt g sz d b m) s = .next (t.retire g ((t.eng g).setReg b base)) := by
  simp only [exec_iSt, execISt, State.native_runs hrun, ha, hf, State.whenOpen_of_none _ hs, ← hr, ← ht]

end

theorem exec_iLdu_of_reserved (d b : BitVec 5) (m : AddrMode) : exec (.iLdu g 3 d b m) s = .next (s.illegal g) :=
  congrArg Host.Outcome.next ((if_pos rfl).trans (State.native_runs hrun _))

/-! ## Queue instructions -/

section
variable {q : Nat} {d : BitVec 5} (hq : q = ((s.eng g).reg d).toNat % 65536) (ha : s.addressAligned g b m 8 = .at ea base)
  (hs : s.accessStops g ea 64 = none)
include hq ha hs

/-- PUSH puts the seven words at ea and its tag at its port, and goes on where the port has a credit and nothing stalled (R143). -/
theorem exec_iPush_of_reach {r : List Carried × State} {t : State} (hf : s.accessFault g ea 64 8 false = none)
    (hreach : s.queueReach q = true) (hr : r = s.readWords ea g 1 7)
    (ht : t = if r.1.any Option.isNone then r.2.poisonJob g else r.2) : exec (.iPush g d b m) s = .next (
      let u := t.setEng g { t.eng g with wait := .credit q b.toNat base }
      let v := u.pushEntry q g (r.1 ++ [some (u.pushTag g)])
      if !(t.port q g).stalled.isEmpty || (t.port q g).credits == 0 then v else (v.releaseEngine q g).takeAsync g) := by
  simp only [exec_iPush, execIPush, State.native_runs hrun, ha, hf, ← hq, hreach, State.whenOpen_of_none _ hs, ← hr, ← ht]
  rfl

variable (hf : s.accessFault g ea 64 8 true = none) (hn : s.aliasOf q = none)
include hf hn

variable {p : Popped} {t : State} (hp : s.popQueue q g = (p, t))
include hp

/-- What POP makes of what the local queue answers (R143). -/
theorem exec_iPop_of_local : exec (.iPop g d b m) s = .next (match p with
    | .denied => s.raiseSync g causeAccess ea
    | .stalled => t.setEng g { s.eng g with wait := .again 0 }
    | .empty => t.retire g (((t.eng g).setReg b base).setReg d 0)
    | .entry w => (t.storeEntry g ea w).retire g ((((t.storeEntry g ea w).eng g).setReg b base).setReg d 1)) := by
  simp only [exec_iPop, execIPop, State.native_runs hrun, ha, hf, ← hq, hn, State.whenOpen_of_none _ hs, hp]
  cases p <;> rfl

/-- POPW waits at an empty queue, and leaves the queue's number as it is (R143). -/
theorem exec_iPopw_of_local : exec (.iPopw g d b m) s = .next (match p with
    | .denied => s.raiseSync g causeAccess ea
    | .stalled => t.setEng g { s.eng g with wait := .again 0 }
    | .empty => (t.setEng g { t.eng g with wait := .entry q ea b.toNat base }).takeAsync g
    | .entry w => (t.storeEntry g ea w).retire g (((t.storeEntry g ea w).eng g).setReg b base)) := by
  simp only [exec_iPopw, execIPopw, State.native_runs hrun, ha, hf, ← hq, hn, State.whenOpen_of_none _ hs, hp]
  cases p <;> rfl

end

end

/-! ## The obligation -/

/-- Settles O21: loads and stores by what the checks and the stops answer, PUSH by its port and the pops by what the queue answers.
That an access to a stopped island or bank is presented again is the model's (log entry 60). -/
theorem scalarMemoryAndQueueInstructionsComplete : Obligations.ScalarMemoryAndQueueInstructionsComplete := by
  intro s g e sz d b m ea base q hrun he hq
  subst he
  refine ⟨fun r ha hf hs hr => ⟨fun v hv => ⟨?ld, fun hsz => ?ldu⟩, fun hv => ?bad, fun c k w hp hw => ?clean⟩,
    fun x ha hs => ⟨fun hf => ?ldStops, fun hf => exec_iSt_of_stops hrun d ha hf hs⟩, exec_iLdu_of_reserved hrun d b m,
    fun r t ha hf hs hr ht => exec_iSt_of_open hrun d ha hf hs hr ht,
    fun c ha => ⟨fun hf => ?ldFault, fun hf => exec_iSt_of_fault hrun d ha hf⟩,
    fun r t ha hf hreach hs hr ht => exec_iPush_of_reach hrun hq ha hs hf hreach hr ht, fun ha hf hn hs => ?pops⟩
  case ld => exact congrArg _ (State.loadOp_of_value hrun true d ha hf hs hr hv)
  case ldu => exact congrArg _ ((if_neg hsz).trans (State.loadOp_of_value hrun false d ha hf hs hr hv))
  case bad => exact congrArg _ (State.loadOp_of_bad hrun true d ha hf hs hr hv)
  case clean => exact hr ▸ State.loadBytes_of_clean hp hw
  case ldStops => exact congrArg _ (State.loadOp_of_stops hrun true d ha hf hs)
  case ldFault => exact congrArg _ (State.loadOp_of_fault hrun true d ha hf)
  case pops =>
    have pop {p : Popped} {t : State} (hp : s.popQueue q g = (p, t)) := exec_iPop_of_local hrun hq ha hs hf hn hp
    have popw {p : Popped} {t : State} (hp : s.popQueue q g = (p, t)) := exec_iPopw_of_local hrun hq ha hs hf hn hp
    exact ⟨fun w t h => ⟨pop h, popw h⟩, fun t h => ⟨pop h, popw h⟩, fun t h => ⟨pop h, popw h⟩,
      fun t h => ⟨pop h, popw h⟩⟩

end Sys2Proof.Machine
end

section
/-!
PROOFS. The registers of an engine that take writes only in HELD and HALTED (R156), and windows that match nothing.
-/

namespace Sys2Proof.Machine

open Reg

/-- A register whose first field has a hook is written by that hook: a register is told by its first field's number. -/
theorem State.writeReg_of_hook {f : Fld} {k : State → Nat → RegDef → Nat → Nat → State} {r : RegDef} (s : State)
    (u i v : Nat) (hf : r.is f = true)
    (hk : (writeHooks0 ++ writeHooks1 ++ writeHooks2 ++ writeHooks3).find? (fun e => f.id == e.1.id) = some (f, k)) :
    s.writeReg u r i v = k s u r i v := by
  have his (e : Fld) : r.is e = (f.id == e.id) := by
    unfold RegDef.is at hf ⊢
    split at hf
    · rw [beq_iff_eq.mp hf]
    · contradiction
  simp only [State.writeReg, his, hk]

theorem State.siteQuiet_iff {s : State} {g : Nat} :
    s.siteQuiet g = true ↔ (s.eng g).state = .held ∨ (s.eng g).state = .halted := by
  simp [State.siteQuiet]

section
variable {s : State} {u i v : Nat} {r : RegDef} {c : Bool}

theorem State.writeIf_of_false (h : ¬c = true) : s.writeIf c u r i v = s := if_neg h

theorem State.writeIf_of_true (h : c = true) (hw : s.mayWriteReg u r i v = true) :
    s.writeIf c u r i v = s.writeFields r.flds i v :=
  (if_pos h).trans (if_pos hw)

theorem State.writeReg_startPc (h : r.is ENG_START_PC_PC = true) :
    s.writeReg u r i v = s.writeIf (s.siteQuiet i) u r i v :=
  State.writeReg_of_hook s u i v h rfl

theorem State.writeReg_window (h : r.is ENG_WIN_BASE_BASE = true ∨ r.is ENG_WIN_LIMIT_LAST = true) :
    s.writeReg u r i v = s.writeIf (s.siteQuiet (i / 8)) u r i v := by
  rcases h with h | h <;> exact State.writeReg_of_hook s u i v h rfl

end

/-- A window that grants neither reading nor writing matches nothing (R156). -/
theorem windowGrants_neither (base last a n : Nat) (write : Bool) : windowGrants base last false false a n write = false := by
  simp [windowGrants]

/-- Settles O18: the three registers are written under the condition that their engine is in HELD or HALTED. -/
theorem engineWindowsAndStartTakeWritesOnlyWhileStopped : Obligations.EngineWindowsAndStartTakeWritesOnlyWhileStopped := by
  refine ⟨fun s u i v r => ⟨fun hr hheld hhalted => ?_, fun hr hheld hhalted => ?_, fun hr hq hw => ?_, fun hr hq hw => ?_⟩,
    windowGrants_neither⟩
  · rw [State.writeReg_startPc hr, State.writeIf_of_false (mt State.siteQuiet_iff.mp (not_or.mpr ⟨hheld, hhalted⟩))]
  · rw [State.writeReg_window hr, State.writeIf_of_false (mt State.siteQuiet_iff.mp (not_or.mpr ⟨hheld, hhalted⟩))]
  · rw [State.writeReg_startPc hr, State.writeIf_of_true (State.siteQuiet_iff.mpr hq) hw]
  · rw [State.writeReg_window hr, State.writeIf_of_true (State.siteQuiet_iff.mpr hq) hw]

end Sys2Proof.Machine
end

section
/-!
PROOFS. The engine control register (R153, R155), late jobs (R151), the engine's inbox (R154), and words that are no instruction
(R136, R193, R194): an equation for each outcome of a command, and the clauses from them.
-/

namespace Sys2Proof.Machine

open Reg

/-! ## The control register -/

/-- A register other than the one that says which site serves an engine leaves the engines as they are. -/
theorem State.eng_sf (s : State) {f : Fld} (i v g : Nat) (h : f.id % 1024 ≠ ENG_STATE_PHYS_SITE.id % 1024) :
    (s.sf f i v).eng g = s.eng g := by
  simp only [State.eng, State.physical, State.rf_sf_other s i g v h]
  rfl

section
variable {s : State} {g : Nat}

/-- The state with the two fields of ENG_CTRL that hold a value written (R155). -/
def State.setCtrl (s : State) (g action halt : Nat) : State :=
  (s.sf ENG_CTRL_RESET_ACTION g action).sf ENG_CTRL_HALT_REQ g halt

@[simp] theorem State.eng_setCtrl (s : State) (g action halt k : Nat) : (s.setCtrl g action halt).eng k = s.eng k := by
  rw [State.setCtrl, State.eng_sf _ _ _ _ (by decide), State.eng_sf _ _ _ _ (by decide)]

@[simp] theorem State.bit_setCtrl (s : State) (g action halt : Nat) :
    (s.setCtrl g action halt).bit ENG_CTRL_HALT_REQ g = (halt % 2 == 1) := by
  rw [State.setCtrl, State.bit, State.rf_sf]
  rfl

theorem State.startPc_setCtrl (s : State) (g action halt : Nat) : (s.setCtrl g action halt).startPc g = s.startPc g := by
  rw [State.startPc, State.setCtrl, State.rf_sf_other _ _ _ _ (by decide), State.rf_sf_other _ _ _ _ (by decide)]
  rfl

theorem State.haltWaiting_of_off (h : s.bit ENG_CTRL_HALT_REQ g = false) : s.haltWaiting g = s := by
  simp [State.haltWaiting, h]

/-- A control word without HALT_REQ halts no engine. -/
theorem State.haltWaiting_setCtrl (s : State) (g action : Nat) :
    (s.setCtrl g action 0).haltWaiting g = s.setCtrl g action 0 :=
  State.haltWaiting_of_off (State.bit_setCtrl ..)

/-- From WAITING with HALT_REQ an engine is HALTED (R153). -/
theorem State.haltWaiting_of_on (hw : (s.eng g).state = .waiting) (h : s.bit ENG_CTRL_HALT_REQ g = true) :
    s.haltWaiting g = (s.countCycles g).setEng g { (s.countCycles g).eng g with state := .halted } :=
  if_pos ⟨hw, h⟩

/-- Counting cycles writes no register. -/
theorem State.bit_countCycles (s : State) (g : Nat) (f : Fld) (i : Nat) : (s.countCycles g).bit f i = s.bit f i := by
  unfold State.countCycles
  dsimp only
  split <;> rfl

/-- Without HALT_REQ an engine that is opened stays in WAITING (R153). -/
theorem State.openEngine_of_halted (h : (s.eng g).state = .halted) (hoff : s.bit ENG_CTRL_HALT_REQ g = false) :
    s.openEngine g = (s.countCycles g).setEng g { (s.countCycles g).eng g with state := .waiting } := by
  refine (if_pos h).trans (State.haltWaiting_of_off ?_)
  exact (State.bit_countCycles s g _ g).trans hoff

theorem State.goEngine_of_halted (h : (s.eng g).state = .halted) :
    s.goEngine g = s.setEng g { s.eng g with state := .free, pc := s.startPc g, fresh := false } :=
  if_pos h

end

section
variable {s : State} {u g : Nat} (hrun : s.islandStops (g / 17) = false) (hmay : s.mayWritePanel u (g / 17) = true)
  (hup : s.siteUp g = true)
include hmay hup

/-- A permitted write of ENG_CTRL takes RESET_ACTION and HALT_REQ, and then SRESET, GO and OPEN in this order (R155). -/
theorem State.writeEngCtrl_of_may (v : Nat) : s.writeEngCtrl u g v = (
    let t := (s.setCtrl g (v / 16) (v / 4)).haltWaiting g
    let t := if natBit v 8 then t.resetEngine g else t
    let t := if natBit v 0 then t.goEngine g else t
    if natBit v 1 then t.openEngine g else t) := by
  simp only [State.writeEngCtrl, hmay, hup]
  rfl

include hrun

theorem exec_engSreset_alone : exec (.engSreset u g 0) s = .next ((s.setCtrl g 0 0).resetEngine g) := by
  rw [exec_engSreset, execEngSreset, State.atIsland_runs _ _ hrun, State.writeEngCtrl_of_may hmay hup]
  exact congrArg _ (congrArg (fun t : State => t.resetEngine g) (State.haltWaiting_setCtrl s g 0))

theorem exec_engGo_of_halted (h : (s.eng g).state = .halted) : exec (.engGo u g 0) s
    = .next ((s.setCtrl g 0 0).setEng g { s.eng g with state := .free, pc := s.startPc g, fresh := false }) := by
  have hgo := State.goEngine_of_halted (s := s.setCtrl g 0 0) (g := g) (by simpa using h)
  rw [State.eng_setCtrl, State.startPc_setCtrl] at hgo
  rw [exec_engGo, execEngGo, State.atIsland_runs _ _ hrun, State.writeEngCtrl_of_may hmay hup]
  exact congrArg _ ((congrArg (fun t : State => t.goEngine g) (State.haltWaiting_setCtrl s g 0)).trans hgo)

theorem exec_engOpen_of_halted (h : (s.eng g).state = .halted) : exec (.engOpen u g 0) s
    = .next (((s.setCtrl g 0 0).countCycles g).setEng g
        { ((s.setCtrl g 0 0).countCycles g).eng g with state := .waiting }) := by
  have hopen := State.openEngine_of_halted (s := s.setCtrl g 0 0) (g := g) (by simpa using h) (State.bit_setCtrl ..)
  rw [exec_engOpen, execEngOpen, State.atIsland_runs _ _ hrun, State.writeEngCtrl_of_may hmay hup]
  exact congrArg _ ((congrArg (fun t : State => t.openEngine g) (State.haltWaiting_setCtrl s g 0)).trans hopen)

theorem exec_engHaltReq_of_waiting (h : (s.eng g).state = .waiting) : exec (.engHaltReq u g 0) s
    = .next (((s.setCtrl g 0 1).countCycles g).setEng g
        { ((s.setCtrl g 0 1).countCycles g).eng g with state := .halted }) := by
  rw [exec_engHaltReq, execEngHaltReq, State.atIsland_runs _ _ hrun, State.writeEngCtrl_of_may hmay hup]
  exact congrArg _ (State.haltWaiting_of_on (by simpa using h) (by simp))

end

/-! ## Late jobs -/

section
variable {s : State} {g : Nat}

/-- The signal reaches an engine whose job the Shuttle has abandoned (R151). -/
theorem exec_engineJobLateSignal_of_abandoned {id : Nat} (hj : (s.eng g).job = some id)
    (ha : s.sh.jobs.any (fun j => j.id == id && j.abandoned) = true) :
    exec (.engineJobLateSignal g) s = .next (s.jobLate g) := by
  simp only [exec_engineJobLateSignal, execEngineJobLateSignal, hj, ha, if_true]

section
variable (hj : (s.eng g).job ≠ none) (hn : (s.eng g).lateTick = none)
include hj hn

/-- With LIE 0 the job stops at once (R151). -/
theorem State.jobLate_of_masked (h : (s.eng g).lie = false) :
    s.jobLate g = (s.setEng g { s.eng g with lateTick := some s.tb.count }).stopLate g := by
  simp [State.jobLate, hj, hn, h]

/-- With LIE 1 the job is marked late (R151). -/
theorem State.jobLate_of_enabled (h : (s.eng g).lie = true) :
    s.jobLate g = (s.setEng g { s.eng g with late := true, lateTick := some s.tb.count }).takeAsync g := by
  simp [State.jobLate, hj, hn, h]

end

theorem exec_lateJobStop_of_due {tick : Nat} (h : (s.eng g).lateTick = some tick) (ht : tick + 69 ≤ s.tb.count) :
    exec (.lateJobStop g) s = .next (s.stopLate g) := by
  simp only [exec_lateJobStop, execLateJobStop, h, ht, if_true]

/-! ## Events -/

/-- The oldest event on its way goes to the inbox of its engine, where the site answers (R154). -/
theorem exec_engineEventDeliver_of_cons {ev : Nat} {r : List (Nat × Nat)} (h : s.engineEvents = (g, ev) :: r)
    (hup : s.siteUp g = true) : exec .engineEventDeliver s = .next (State.enterInbox { s with engineEvents := r } g ev) := by
  simp only [exec_engineEventDeliver, execEngineEventDeliver, h]
  exact congrArg _ (if_pos hup)

theorem State.enterInbox_of_room (ev : Nat) (h : (s.eng g).inbox.length < 8) : s.enterInbox g ev
    = (s.setEng g { s.eng g with inbox := (s.eng g).inbox ++ [ev] }).takeAsync g :=
  if_pos h

/-- An event at a full inbox is counted as lost (R154). -/
theorem State.enterInbox_of_full (ev : Nat) (h : 8 ≤ (s.eng g).inbox.length) :
    s.enterInbox g ev = s.incf ENG_EVQ_LOST_COUNT g :=
  if_neg (Nat.not_lt.mpr h)

/-! ## Words that are no instruction -/

section
variable (hx : s.executes g = true) (hc : (s.eng g).asyncCause = none)
include hx hc

/-- A word that was bad as it was fetched resets the engine (R136). -/
theorem exec_illegalEncoding_of_bad : exec (.illegalEncoding g none) s = .next (s.poisonReset g) := by
  rw [exec_illegalEncoding, execIllegalEncoding, State.execute_of_runs _ hx hc]

/-- A word of the other decode mode, one without an Elryn meaning, or one that the engine's state makes illegal, raises ILLEGAL
(R193 to R195). -/
theorem exec_illegalEncoding_of_word {w : Half}
    (h : s.mbDsp g = true ∨ elrynOf g w = none ∨ ∃ i, elrynOf g w = some i ∧ s.illegalHere g i = true) :
    exec (.illegalEncoding g (some w)) s = .next (s.illegal g) := by
  rw [exec_illegalEncoding, execIllegalEncoding, State.execute_of_runs _ hx hc]
  rcases h with hm | hw | ⟨i, hw, hi⟩
  · simp only [hm, if_true]
  · simp only [hw, ite_self]
  · simp only [hw, hi, if_true, ite_self]

end

end

/-! ## The obligation -/

/-- Settles O27, command by command. That a job that stays late stops 69 ticks after the signal is the model's (log entry 81). -/
theorem engineControlCommandsComplete : Obligations.EngineControlCommandsComplete := by
  refine ⟨fun s x u g hrun hmay hup h hx => ?start, fun s x u g hrun hmay hup hx => ?sreset,
    fun s x u g hrun hmay hup h hx => ?haltReq, fun s g id hj ha hn => ?late, fun s g tick => exec_lateJobStop_of_due,
    fun s x g ev r h hx hup => ?deliver, fun s g w hexe hc => ⟨exec_illegalEncoding_of_bad hexe hc, ?illegal⟩⟩
  case start =>
    subst hx
    refine ⟨exec_engGo_of_halted hrun hmay hup h, ?_⟩
    rintro y rfl
    exact exec_engOpen_of_halted hrun hmay hup h
  case sreset =>
    subst hx
    exact exec_engSreset_alone hrun hmay hup
  case haltReq =>
    subst hx
    rintro y rfl
    exact exec_engHaltReq_of_waiting hrun hmay hup h
  case late =>
    have hsome : (s.eng g).job ≠ none := by simp [hj]
    rw [exec_engineJobLateSignal_of_abandoned hj ha]
    exact ⟨fun h => congrArg _ (State.jobLate_of_masked hsome hn h),
      fun h => congrArg _ (State.jobLate_of_enabled hsome hn h)⟩
  case deliver =>
    subst hx
    rw [exec_engineEventDeliver_of_cons h hup]
    exact ⟨fun hroom => congrArg _ (State.enterInbox_of_room ev hroom),
      fun hfull => congrArg _ (State.enterInbox_of_full ev hfull)⟩
  case illegal =>
    have illegal := exec_illegalEncoding_of_word hexe hc (w := w)
    exact ⟨fun hm => illegal (.inl hm), fun hw => illegal (.inr (.inl hw)),
      fun i hw hi => illegal (.inr (.inr ⟨i, hw, hi⟩))⟩

end Sys2Proof.Machine
end

section
/-!
PROOFS. Vector instructions that access no memory (R161, R163, R164, R168 to R171, R189): each retires with the engine of
its operation or is ILLEGAL for its fields, and what a part-by-part operation writes.
-/

namespace Sys2Proof.Machine

/-! ## Fields of a vector register -/

theorem testBit_vField (x : Vec) (w i k : Nat) : (vField x w i).testBit k = (decide (k < w) && x.getLsbD (w * i + k)) := by
  rw [vField, Nat.testBit_mod_two_pow, Nat.testBit_div_two_pow, Nat.add_comm]
  rfl

/-- Bit k of a register with a field replaced is a bit of the value inside the field, and the old bit elsewhere. -/
theorem getLsbD_vPut (x : Vec) (w i v k : Nat) (hk : k < 128) : (vPut x w i v).getLsbD k
    = if w * i ≤ k ∧ k < w * i + w then v.testBit (k - w * i) else x.getLsbD k := by
  simp only [vPut, BitVec.getLsbD_or, BitVec.getLsbD_and, BitVec.getLsbD_not, BitVec.getLsbD_ofNat, Nat.testBit_mul_two_pow,
    Nat.testBit_mod_two_pow, Nat.testBit_two_pow_sub_one, hk, decide_true, Bool.true_and]
  by_cases hlo : w * i ≤ k
  · have hhi : k < w * i + w ↔ k - w * i < w := by omega
    by_cases hin : k - w * i < w <;> simp [hlo, hhi, hin]
  · simp [hlo]

/-- The field that is put reads as the value, cut to its width. -/
theorem vField_vPut_same (x : Vec) {w i : Nat} (v : Nat) (hw : w * i + w ≤ 128) : vField (vPut x w i v) w i = v % 2 ^ w := by
  refine Nat.eq_of_testBit_eq fun k => ?_
  rw [testBit_vField, Nat.testBit_mod_two_pow]
  by_cases hk : k < w
  · rw [getLsbD_vPut _ _ _ _ _ (by omega), if_pos (by omega), Nat.add_sub_cancel_left]
  · simp [hk]

/-- Two fields of one width do not overlap. -/
theorem field_disjoint {w i j k : Nat} (hij : j ≠ i) (hk : k < w) :
    ¬(w * i ≤ w * j + k ∧ w * j + k < w * i + w) := by
  rcases Nat.lt_or_gt_of_ne hij with h | h <;>
    · have := Nat.mul_le_mul_left w (Nat.succ_le_of_lt h)
      rw [Nat.mul_succ] at this
      omega

/-- The other fields of that width stay. -/
theorem vField_vPut_other (x : Vec) {w i j : Nat} (v : Nat) (hij : j ≠ i) (hw : w * j + w ≤ 128) :
    vField (vPut x w i v) w j = vField x w j := by
  refine Nat.eq_of_testBit_eq fun k => ?_
  rw [testBit_vField, testBit_vField]
  by_cases hk : k < w
  · rw [getLsbD_vPut _ _ _ _ _ (by omega), if_neg (field_disjoint hij hk)]
  · simp [hk]

theorem vFill_succ (x : Vec) (w n : Nat) (f : Nat → Nat) : vFill x w (n + 1) f = vPut (vFill x w n f) w n (f n) := by
  simp [vFill, List.range_succ]

/-- Filling writes the fields below n, each with its own value, and leaves the others. -/
theorem vField_vFill (x : Vec) {w j : Nat} (n : Nat) (f : Nat → Nat) (hw : w * j + w ≤ 128) :
    vField (vFill x w n f) w j = if j < n then f j % 2 ^ w else vField x w j := by
  induction n with
  | zero => rfl
  | succ n ih =>
    rw [vFill_succ]
    by_cases hj : j = n
    · subst hj
      rw [vField_vPut_same _ _ hw, if_pos (Nat.lt_succ_self j)]
    · rw [vField_vPut_other _ _ hj hw, ih]
      simp only [Nat.lt_succ_iff_lt_or_eq, hj, or_false]

/-- A part that begins inside a register ends inside it: part widths divide 128 (R161). -/
theorem ElemType.part_fits {t : ElemType} {i : Nat} (h : i * t.partWidth < 128) :
    t.partWidth * i + t.partWidth ≤ 128 := by
  cases t <;> simp only [ElemType.partWidth, ElemType.width] at h ⊢ <;> omega

/-! ## Clamping -/

/-- What saturation keeps: the value clamped to the width (R168). -/
theorem satTo_fst (w : Nat) (v : Int) : (satTo w v).1 = max (-2 ^ (w - 1)) (min (2 ^ (w - 1) - 1) v) := by
  have hpos : (0 : Int) < 2 ^ (w - 1) := Int.pow_pos (by decide)
  unfold satTo
  split
  · omega
  · split <;> omega

/-- Saturation reports that the value did not fit. -/
theorem satTo_snd (w : Nat) (v : Int) : (satTo w v).2 = true ↔ 2 ^ (w - 1) - 1 < v ∨ v < -2 ^ (w - 1) := by
  unfold satTo
  split
  · simp_all
  · split <;> simp_all

theorem ofSigned_mod (w : Nat) (v : Int) : ofSigned w v % 2 ^ w = ofSigned w v := by
  have hpos : (0 : Int) < 2 ^ w := Int.pow_pos (by decide)
  refine Nat.mod_eq_of_lt ?_
  have := Int.emod_lt_of_pos v hpos
  have := Int.emod_nonneg v hpos.ne'
  unfold ofSigned
  zify
  omega

/-! ## Registers of an engine -/

theorem Engine.vec_setVec_same (e : Engine) (d : BitVec 5) (x : Vec) : (e.setVec d x).vec d = x := by
  simp [Engine.vec, Engine.setVec]

theorem Engine.vec_setVec_other (e : Engine) {d r : BitVec 5} (x : Vec) (h : r ≠ d) : (e.setVec d x).vec r = e.vec r := by
  have hne : d.toNat ≠ r.toNat := fun h' => h (BitVec.eq_of_toNat_eq h'.symm)
  simp [Engine.vec, Engine.setVec, hne]

theorem Engine.regs_orSat (e : Engine) (b : Bool) : (e.orSat b).g = e.g ∧ (e.orSat b).a = e.a := by
  cases b <;> exact ⟨rfl, rfl⟩

theorem Engine.vec_orSat (e : Engine) (b : Bool) (r : BitVec 5) : (e.orSat b).vec r = e.vec r := by
  cases b <;> rfl

theorem Engine.sat_orSat (e : Engine) (b : Bool) : (e.orSat b).sat = (e.sat || b) := by
  cases b <;> simp [Engine.orSat, Engine.sat]

/-! ## Part-by-part operations -/

section
variable (e : Engine) (t : ElemType) (len : Nat) (d : BitVec 5) (f : Nat → Int × Bool)

/-- The parts of the active elements are written, the others stay (R163). -/
theorem Engine.vField_vParts {i : Nat} (h : i * t.partWidth < 128) :
    vField ((e.vParts t len d f).vec d) t.partWidth i
      = if i < len * t.parts then ofSigned t.partWidth (f i).1 else vField (e.vec d) t.partWidth i := by
  rw [Engine.vParts, Engine.vec_orSat, Engine.vec_setVec_same, vField_vFill _ _ _ (ElemType.part_fits h), ofSigned_mod]

theorem Engine.vec_vParts_other {r : BitVec 5} (h : r ≠ d) : (e.vParts t len d f).vec r = e.vec r := by
  rw [Engine.vParts, Engine.vec_orSat, Engine.vec_setVec_other _ _ h]

/-- A part-by-part operation writes neither a scalar register nor an accumulator. -/
theorem Engine.regs_vParts : (e.vParts t len d f).g = e.g ∧ (e.vParts t len d f).a = e.a :=
  (e.setVec d _).regs_orSat _

/-- SAT is sticky, and set where an active part clamped (R168). -/
theorem Engine.sat_vParts :
    (e.vParts t len d f).sat = true ↔ e.sat = true ∨ ∃ i < len * t.parts, (f i).2 = true := by
  have hkeep (x : Vec) : (e.setVec d x).sat = e.sat := rfl
  rw [Engine.vParts, Engine.sat_orSat, hkeep]
  simp

end

/-- Settles O24: a binary operation is part-by-part, with the clamped or the plain result in each part. -/
theorem vectorPartsAreWrittenPartByPart : Obligations.VectorPartsAreWrittenPartByPart := by
  intro e t len sat d a b r f i v h _ hi hh hv
  subst hh hv
  have hpart := e.vField_vParts t len d (fun i =>
    let v := f (vPart (e.vec a) t.partWidth i) (vPart (e.vec b) t.partWidth i)
    if sat then satTo t.partWidth v else (v, false)) hi
  obtain ⟨hg, ha⟩ := e.regs_vParts t len d _
  refine ⟨fun hlt => ?active, fun hle => hpart.trans (if_neg (Nat.not_lt.mpr hle)),
    fun hr => e.vec_vParts_other t len d _ hr, hg, ha, (e.sat_vParts t len d _).trans ?clamped⟩
  case active =>
    refine hpart.trans ((if_pos hlt).trans (congrArg _ ?_))
    cases sat
    · rfl
    · exact satTo_fst _ _
  case clamped =>
    cases sat <;> simp [satTo_snd]

/-! ## Instructions -/

/-- A vector instruction retires with its update, or is ILLEGAL for its fields (R193). -/
theorem State.vecOp_eq {s : State} {g : Nat} (hrun : s.runsElryn g) (ok : Bool) (f : Engine → Engine)
    (hf : ∀ e : Engine, e.Calm (f e)) : s.vecOp g ok f
      = if ok then s.retireAt g (f (s.eng g)) ((s.eng g).pc + 4) else s.illegal g := by
  rw [State.vecOp, State.native_runs hrun, State.retire_eq (hf _)]

theorem Engine.calm_setVl (e : Engine) (n : Nat) : e.Calm { e with vl := n } := ⟨rfl, rfl, rfl⟩

/-- Settles O23: each of these instructions is an update that keeps the program counter, under its condition on type and count. -/
theorem vectorInstructionsComplete : Obligations.VectorInstructionsComplete := by
  intro s g e t d a b n pair hrun he
  subst he
  have always (f : Engine → Engine) (hf : ∀ e : Engine, e.Calm (f e)) :
      (.next (s.vecOp g true f) : Host.Outcome State Fault Refusal)
        = .next (s.retireAt g (f (s.eng g)) ((s.eng g).pc + 4)) := by
    rw [State.vecOp_runs hrun f hf]
  have typed (ok : Bool) (f : Engine → Engine) (hf : ∀ e : Engine, e.Calm (f e)) :
      (.next (s.vecOp g ok f) : Host.Outcome State Fault Refusal)
        = .next (if ok then s.retireAt g (f (s.eng g)) ((s.eng g).pc + 4) else s.illegal g) := by
    rw [State.vecOp_eq hrun ok f hf]
  have parts {ok : Bool} {u : ElemType} {len : Engine → Nat} {f : Engine → Nat → Int × Bool} :=
    typed ok (fun e => e.vParts u (len e) d (f e)) fun e => Engine.calm_vParts ..
  have vector {ok : Bool} {f : Engine → Vec} := typed ok (fun e => e.setVec d (f e)) fun e => Engine.calm_setVec ..
  have scalar {ok : Bool} {f : Engine → Word} := typed ok (fun e => e.setReg d (f e)) fun e => Engine.calm_setReg ..
  have searches {ok : Bool} {l : Engine → List (BitVec 32)} {f : BitVec 32 → BitVec 32 → Bool} :=
    typed ok (fun e => e.search (l e) f) fun e => Engine.calm_search ..
  exact ⟨
    -- VADD to VMINE
    always _ fun e => Engine.calm_vParts .., always _ fun e => Engine.calm_vParts .., parts, parts, parts, parts, parts, parts,
    parts,
    -- VAND, VOR, VXOR, the shifts, VPERM, and the multiplies
    vector, vector, vector, parts, parts, vector, parts, parts, parts,
    -- VMACR, VCMAC, VCMACJ
    typed _ _ fun e => Engine.calm_vMac _ _ _ _ _ fun e k x y => Engine.calm_accumulate ..,
    typed _ _ fun e => Engine.calm_vCmac _ _ _ _ _ fun e x y => Engine.calm_cmac ..,
    typed _ _ fun e => Engine.calm_vCmac _ _ _ _ _ fun e x y => Engine.calm_cmac ..,
    -- the searches, VEXP, VSPLAT, VINSR, VEXTR
    searches, searches, searches, scalar, always _ fun e => Engine.calm_setVec .., vector, scalar,
    -- the widenings, VNARW, SETVL
    parts, parts, parts, always _ fun e => (Engine.calm_setVl e _).trans (Engine.calm_setReg ..)⟩

end Sys2Proof.Machine
end

section
/-!
PROOFS. Vector loads, stores, gathers and scatters (R163, R172 to R177, R190): the addresses of the elements by the
access's form, and an equation for each outcome of acting on them.
-/

namespace Sys2Proof.Machine

/-! ## Addresses -/

section
variable {s : State} {g : Nat} (hrun : s.runsElryn g)
include hrun

/-- A contiguous access acts on the elements from the address that its mode gives (R172). -/
theorem State.vecContiguous_runs (mode : VMode) (t : ElemType) (d : BitVec 5) {b : BitVec 5} {m : AddrMode} {ea : Nat}
    {base : Word} (ha : s.address g b m = .at ea base) : s.vecContiguous g mode t d b m
      = s.vecMem g mode t true d (fun n => (ea + n * (t.width / 8)) % 2 ^ 48) (b, base) := by
  simp only [State.vecContiguous, State.native_runs hrun, ha]

/-- A strided access acts on the elements that lie the offset register's value apart (R172). -/
theorem State.vecStrided_runs (mode : VMode) (t : ElemType) (d b : BitVec 5) (k : BitVec 3) : s.vecStrided g mode t d b k
    = s.vecMem g mode t false d ((s.eng g).stride b k) (b, (s.eng g).reg b) :=
  State.native_runs hrun _

section
variable (mode : VMode) (t : ElemType) (d b i : BitVec 5) (c : BitVec 3)

/-- Bytes take their indices from a pair of registers, which starts at an even one (R172). -/
theorem State.vecGather_of_odd (h : t = .b ∧ i.toNat % 2 = 1) : s.vecGather g mode t d b i c = s.illegal g :=
  (State.native_runs hrun _).trans (if_pos h)

theorem State.vecGather_runs (h : ¬(t = .b ∧ i.toNat % 2 = 1)) : s.vecGather g mode t d b i c
    = s.vecMem g mode t false d ((s.eng g).gatherAt b i c) (b, (s.eng g).reg b) :=
  (State.native_runs hrun _).trans (if_neg h)

end

/-- VLDFF is an instruction in offset mode alone (R175). -/
theorem exec_iVldff_of_other (t : ElemType) (d b : BitVec 5) {m : AddrMode} (h : ∀ imm, m ≠ .offset imm) :
    exec (.iVldff g t d b m) s = .next (s.illegal g) := by
  cases m with
  | offset imm => exact absurd rfl (h imm)
  | postImm | postReg | circular => exact congrArg _ (State.native_runs hrun _)

end

/-! ## Elements -/

section
variable {s : State} {g : Nat} {t : ElemType} {run : Bool} {d : BitVec 5} {addr : Nat → Nat} {base : BitVec 5 × Word}

/-- Without an active element the instruction only retires (R163). -/
theorem State.vecMem_of_idle {mode : VMode} (h : (s.eng g).vle t = 0) :
    s.vecMem g mode t run d addr base = s.retire g (s.eng g) :=
  if_pos h

variable {l : List Nat} (hl : l = (s.eng g).elements t) (hv : (s.eng g).vle t ≠ 0)
include hl hv

/-! ### Loads -/

section
variable {mode : VMode} (hm : (mode == .store) = false)
include hm

section
variable (hf : s.elementFault g (t.width / 8) false addr l = none)
include hf

/-- A load that an island or a bank holds up waits, and has read nothing (R176). -/
theorem State.vecMem_load_of_stop {j : Nat} {x : Nat × Option Nat}
    (hs : s.elementStop g (t.width / 8) addr l = some (j, x)) :
    s.vecMem g mode t run d addr base = s.holdE4 g x := by
  simp [State.vecMem, hv, hm, ← hl, hf, hs]

variable (hs : s.elementStop g (t.width / 8) addr l = none) {u : State}
include hs

/-- A load of good words writes its register, clears EINDEX and, where it is first-fault, VFAULT, and updates the base (R172 to
R175). -/
theorem State.vecMem_load_of_good {x : Vec} (hr : s.loadAll g (t.width / 8) run addr ((s.eng g).vec d) l = (some x, u)) :
    s.vecMem g mode t run d addr base = u.retire g ({ (u.eng g).setVec d x with
      eindex := 0, vfault := if mode == VMode.firstFault then 0 else ((u.eng g).setVec d x).vfault }.setReg base.1 base.2) := by
  simp [State.vecMem, hv, hm, ← hl, hf, hs, hr]

/-- A bad word resets the engine, and no element is written (R176). -/
theorem State.vecMem_load_of_bad (hr : s.loadAll g (t.width / 8) run addr ((s.eng g).vec d) l = (none, u)) :
    s.vecMem g mode t run d addr base = u.poisonReset g := by
  simp [State.vecMem, hv, hm, ← hl, hf, hs, hr]

end

section
variable {j c : Nat} {u : State} {x : Vec} (hf : s.elementFault g (t.width / 8) false addr l = some (j, c))
  (hs : s.elementStop g (t.width / 8) addr (l.filter fun n => decide (n < j)) = none)
  (hr : s.loadAll g (t.width / 8) run addr ((s.eng g).vec d) (l.filter fun n => decide (n < j)) = (some x, u))
include hf hs hr

/-- A first-fault load whose first element passes shortens VL to the elements it loaded (R175). -/
theorem State.vecMem_load_of_laterFault (h : mode = .firstFault ∧ l.head? ≠ some j) : s.vecMem g mode t run d addr base
    = u.retire g { (u.eng g).setVec d x with vfault := BitVec.ofNat 16 (2 ^ j), vl := j, eindex := 0 } := by
  simp only [State.vecMem, if_neg hv, hm, ← hl, hf, Bool.false_eq_true, if_false, hs, hr]
  exact if_pos h

/-- Any other load writes the elements below the faulting one and takes the exception for that one's address (R174, R175). -/
theorem State.vecMem_load_of_fault (h : ¬(mode = .firstFault ∧ l.head? ≠ some j)) (hc : c ≠ causeAccess) :
    s.vecMem g mode t run d addr base
      = (u.setEng g { (u.eng g).setVec d x with vfault := BitVec.ofNat 16 (2 ^ j), eindex := j }).takeException g c
          ((u.eng g).setVec d x).pc (addr j) true := by
  simp [State.vecMem, hv, hm, ← hl, hf, hs, hr, h, hc]

end
end

/-! ### Stores -/

section
variable {due : List Nat} {u : State}

section
variable (hdue : due = l.filter fun n => decide ((s.eng g).accepted ≤ n))
  (hf : s.elementFault g (t.width / 8) true addr l = none)
include hdue hf

/-- A store that an island or a bank holds up waits behind the elements below it, which memory has accepted (R176, R177). -/
theorem State.vecMem_store_of_stop {j : Nat} {x : Nat × Option Nat}
    (hs : s.elementStop g (t.width / 8) addr due = some (j, x)) : s.vecMem g .store t run d addr base
      = (s.storeAll g (t.width / 8) run addr ((s.eng g).vec d) (due.filter fun n => decide (n < j))).holdE4 g x j := by
  simp [State.vecMem, hv, ← hl, hf, ← hdue, hs]

theorem State.vecMem_store_of_open (hs : s.elementStop g (t.width / 8) addr due = none)
    (hu : u = s.storeAll g (t.width / 8) run addr ((s.eng g).vec d) due) : s.vecMem g .store t run d addr base
      = u.retire g ({ (u.eng g).setVec d ((s.eng g).vec d) with eindex := 0 }.setReg base.1 base.2) := by
  simp [State.vecMem, hv, ← hl, hf, ← hdue, hs, ← hu]

end

/-- A store writes the elements below the faulting one and takes the exception for that one's address (R174). -/
theorem State.vecMem_store_of_fault {j c : Nat} (hf : s.elementFault g (t.width / 8) true addr l = some (j, c))
    (hdue : due = (l.filter fun n => decide (n < j)).filter fun n => decide ((s.eng g).accepted ≤ n))
    (hs : s.elementStop g (t.width / 8) addr due = none)
    (hu : u = s.storeAll g (t.width / 8) run addr ((s.eng g).vec d) due) (hc : c ≠ causeAccess) :
    s.vecMem g .store t run d addr base
      = (u.setEng g { (u.eng g).setVec d ((s.eng g).vec d) with vfault := BitVec.ofNat 16 (2 ^ j), eindex := j }).takeException
          g c ((u.eng g).setVec d ((s.eng g).vec d)).pc (addr j) true := by
  simp [State.vecMem, hv, ← hl, hf, ← hdue, hs, ← hu, hc]

end
end

/-! ## The obligation -/

/-- Settles O25: the addresses by the access's form, and the outcome by the elements that fault or are held up. That the elements of a
store which memory accepted before it waits stay written, and the store is presented again, is the model's (log entry 79). -/
theorem vectorMemoryInstructionsComplete : Obligations.VectorMemoryInstructionsComplete := by
  refine ⟨fun s g e t d b i m k c hrun he => ?addresses,
    fun s u g e t run d addr base x mode j cause at_ l due he hl hdue => ?elements⟩
  case addresses =>
    subst he
    refine ⟨fun ea base ha => ⟨congrArg _ (State.vecContiguous_runs hrun .load t d ha),
        congrArg _ (State.vecContiguous_runs hrun .store t d ha), ?vldff⟩,
      congrArg _ (State.vecStrided_runs hrun .load t d b k), congrArg _ (State.vecStrided_runs hrun .store t d b k),
      fun hodd => ?odd, fun heven => ?even⟩
    case vldff =>
      cases m with
      | offset imm => exact congrArg _ (State.vecContiguous_runs hrun .firstFault t d ha)
      | postImm | postReg | circular => exact exec_iVldff_of_other hrun t d b nofun
    case odd =>
      have illegal (mode : VMode) := congrArg (Host.Outcome.next (φ := Fault) (ρ := Refusal))
        (State.vecGather_of_odd hrun mode t d b i c hodd)
      exact ⟨illegal .load, illegal .store, illegal .firstFault⟩
    case even =>
      have acts (mode : VMode) := congrArg (Host.Outcome.next (φ := Fault) (ρ := Refusal))
        (State.vecGather_runs hrun mode t d b i c heven)
      exact ⟨acts .load, acts .store, acts .firstFault⟩
  case elements =>
    subst he
    refine ⟨State.vecMem_of_idle, fun hv hm hf hs => ?loads, fun hv => State.vecMem_store_of_open hl hv hdue,
      fun hv hm hf hs => State.vecMem_load_of_stop hl hv (beq_false_of_ne hm) hf hs,
      fun hv hf hs => State.vecMem_store_of_stop hl hv hdue hf hs,
      fun hv hf hm hs hr => ⟨fun hmode hfirst => ?later, fun hmode hc => ?fault⟩,
      fun hv hf hc hs hu => State.vecMem_store_of_fault hl hv hf rfl hs hu hc⟩
    case loads =>
      have hw := beq_false_of_ne hm
      exact ⟨State.vecMem_load_of_good hl hv hw hf hs, State.vecMem_load_of_bad hl hv hw hf hs⟩
    case later => exact State.vecMem_load_of_laterFault hl hv (beq_false_of_ne hm) hf hs hr ⟨hmode, hfirst⟩
    case fault => exact State.vecMem_load_of_fault hl hv (beq_false_of_ne hm) hf hs hr (by simp [hmode]) hc

end Sys2Proof.Machine
end

section
/-!
PROOFS. The Gusset (R192, R201 to R216): what a fused instruction of an engine that runs leads to, and an equation for each outcome
of acceptance, beginning, commit and the control register that the clauses speak of.
-/

namespace Sys2Proof.Machine

open Reg

/-! ## Presenting an instruction -/

section
variable {s : State} {g : Nat} (hrun : s.runsElryn g)
include hrun

/-- An instruction of an engine that runs is not sent ahead: it is presented or raises GUSSET (R192). -/
theorem State.gussetOp_runs (op : Engine → GOp) : s.gussetOp g op
    = if s.gussetUp (gussetOf g) && g % 17 != 16 then s.gussetPresent g (s.eng g).rnd (op (s.eng g))
      else s.raiseSync g causeGusset 0 := by
  rw [State.gussetOp, State.gussetAhead_of_executes _ hrun.1, State.native_runs hrun]
  rfl

theorem State.gussetOp_of_up (op : Engine → GOp) (hup : s.gussetUp (gussetOf g) = true) (hsite : g % 17 ≠ 16) :
    s.gussetOp g op = s.gussetPresent g (s.eng g).rnd (op (s.eng g)) := by
  rw [State.gussetOp_runs hrun, if_pos (by simp [hup, hsite])]

/-- A panel's site 16 has no Gusset (R201). -/
theorem State.gussetOp_of_down (op : Engine → GOp) (h : s.gussetUp (gussetOf g) = false ∨ g % 17 = 16) :
    s.gussetOp g op = s.raiseSync g causeGusset 0 := by
  rw [State.gussetOp_runs hrun, if_neg]
  rcases h with h | h <;> simp [h]

end

/-! ## Acceptance and beginning -/

@[simp] theorem State.gussetCorrected_nil (s : State) (n b : Nat) (op : GOp) : s.gussetCorrected n b op [] = s := rfl

section
variable {s : State} {n b : Nat} {w : GWork}

/-- The first bank from the round-robin pointer on that is ready has its offer taken (R204). -/
theorem exec_gussetAccept_of_ready
    (hb : ((List.range 4).map fun i => ((s.gus n).next + i) % 4).find? (fun b => s.gussetReady n b) = some b)
    (hw : s.gussetOffer n b = some w) : exec (.gussetAccept n) s = .next (s.gussetTake n b w) := by
  simp only [exec_gussetAccept, execGussetAccept, hb, hw]

variable (hw : (s.gus n).work.find? (fun w => w.bank == b && !w.begun) = some w)
include hw

/-- An instruction that reads no poison, and whose reads are not corrected, computes on the shadow registers (R206). -/
theorem exec_gussetBegin_of_clean (hp : (s.gus n).readsPoison b w.op = false) : exec (.gussetBegin n b [] false) s
    = .next (s.setGus n ((s.gus n).mapWork (fun w => w.bank == b && !w.begun) (fun y => { y with
        begun := true, value := (gResult w.op w.rnd ((s.gus n).shadow b)).1
        saturated := (gResult w.op w.rnd ((s.gus n).shadow b)).2 }))) := by
  simp only [exec_gussetBegin, execGussetBegin, hw, hp, Bool.or_self, Bool.false_eq_true, if_false, State.gussetCorrected_nil]

/-- An uncorrectable word of the register file is counted, and resets the Gusset (R215, R216). -/
theorem exec_gussetBegin_of_uncorrectable (corrected : List Nat) :
    exec (.gussetBegin n b corrected true) s = .next (s.gussetBadRead n true) := by
  simp only [exec_gussetBegin, execGussetBegin, hw, Bool.true_or, if_true]

end

/-! ## Commit -/

section
variable {x : Gusset} {b order : Nat} {w : GWork}

/-- Work that is no GMOVF commits without giving its engine a row (R209). -/
theorem exec_gussetCommit_of_register {s : State} {n : Nat} (hw : (s.gus n).committing b order = some w)
    (hop : w.op.isMovf = false) : exec (.gussetCommit n ⟨b, order⟩) s = .next (State.mbHeldEnters
      ((w.op.writes.map (fun v => 8 * (128 * b + v))).foldl (fun s a => s.darnWrite (gussetMem n) a)
        (s.setGus n ((s.gus n).commit b order w))) n b) := by
  simp only [exec_gussetCommit, execGussetCommit, hw]
  cases ho : w.op
  case movf => simp [ho, GOp.isMovf] at hop
  all_goals rfl

/-- The register that an operation names takes the work's value. -/
theorem Gusset.regs_commit {d : Nat} (h : w.op.dest = some d) : (x.commit b order w).regs = x.regs.set (16 * b + d) w.value := by
  simp [Gusset.commit, h]

/-- A saturation sets its bank's QSAT (R208). -/
theorem Gusset.mem_qsat_commit (h : w.saturated = true) : b ∈ (x.commit b order w).qsat := by
  by_cases hb : b ∈ x.qsat <;> simp [Gusset.commit, h, hb]

/-- Nothing is older than a bank's oldest work, so it commits once it has begun, and has retired or is a GMOVF (R209). -/
theorem Gusset.committing_oldest (hw : x.work.find? (fun w => w.bank == b) = some w) (hbegun : w.begun = true)
    (h : w.retired = true ∨ w.op.isMovf = true) : x.committing b 0 = some w := by
  have hfirst : (x.work.filter fun w => w.bank == b)[0]? = some w := by
    rw [← List.head?_eq_getElem?, List.head?_filter, hw]
  rcases h with h | h <;> simp [Gusset.committing, hfirst, hbegun, h]

end

/-! ## The control register -/

/-- EXCLUDE is no field of GUS_STATE. -/
theorem State.retired_sf_exclude (s : State) (n v : Nat) :
    (s.sf GUS_CTRL_EXCLUDE n v).bit GUS_STATE_RETIRED n = s.bit GUS_STATE_RETIRED n := by
  rw [State.bit, State.rf_sf_other _ _ _ _ (by decide)]
  rfl

/-- A permitted write with SRESET takes EXCLUDE and resets a Gusset that is not retired (R216, R219). -/
theorem State.writeGusCtrl_of_sreset {s : State} {u n v : Nat} (hmay : s.mayWritePanel u (n / 4) = true)
    (hp : s.present (gussetId n) = true) (hr : s.bit GUS_STATE_RETIRED n = false) (hv : natBit v 8 = true) :
    s.writeGusCtrl u n v = (s.sf GUS_CTRL_EXCLUDE n v).resetGusset n 0x02 := by
  simp [State.writeGusCtrl, hmay, hp, State.retired_sf_exclude, hr, hv]

theorem natBit_8_or (v : Half) : natBit (v ||| 0x100).toNat 8 = true := by
  rw [natBit, BitVec.testBit_toNat]
  simp

/-! ## The obligation -/

/-- Settles O26: a fused instruction is presented or refused by its Gusset, and each command of a Gusset by its equation. At which
offset a bad register-file word is logged is the model's free value (log entry 86). -/
theorem gussetCommandsComplete : Obligations.GussetCommandsComplete := by
  refine ⟨fun s g e x p a qd qa qb row hrun he hx hp => ⟨fun hup hsite => ?presents, fun hdown => ?refuses⟩,
    fun s n b w => exec_gussetAccept_of_ready, fun s n b w x hx hw hpoison => ?begins,
    fun s n b ⟨w, hw⟩ => exec_gussetBegin_of_uncorrectable hw [], fun s n b order d qa qb w x hx hw hop => ?commits,
    fun x b w => Gusset.committing_oldest, fun s u n v hrun hmay hp hr => ?sreset⟩
  case presents =>
    subst he hx hp
    have presents (op : Engine → GOp) := congrArg (Host.Outcome.next (φ := Fault) (ρ := Refusal))
      (State.gussetOp_of_up hrun op hup hsite)
    and_intros <;> exact presents _
  case refuses =>
    have refuses (op : Engine → GOp) := congrArg (Host.Outcome.next (φ := Fault) (ρ := Refusal))
      (State.gussetOp_of_down hrun op hdown)
    and_intros <;> exact refuses _
  case begins =>
    subst hx
    exact exec_gussetBegin_of_clean hw hpoison
  case commits =>
    subst hx
    exact ⟨exec_gussetCommit_of_register hw (by rw [hop]; rfl), Gusset.regs_commit (by rw [hop]; rfl), Gusset.mem_qsat_commit⟩
  case sreset =>
    rw [exec_gussetSreset, execGussetSreset, State.atIsland_runs _ _ hrun,
      State.writeGusCtrl_of_sreset hmay hp hr (natBit_8_or v)]

end Sys2Proof.Machine
end

section
/-!
PROOFS. MB-DSP decode (R195 to R200, R212 to R214, R626): what an operation that computes, jumps or is refused leads to on an engine
that runs, and an equation for each outcome of the Gusset commands, the messages and the job operations of an MB core.
-/

namespace Sys2Proof.Machine

/-! ## Registers (R196, R197) -/

section
variable (e : Engine)

theorem Engine.calm_dSet (n : BitVec 4) (v : Half) : e.Calm (e.dSet n v) := Engine.calm_setReg ..

theorem Engine.calm_pSet (p : BitVec 3) (v : Half) : e.Calm (e.pSet p v) := Engine.calm_setReg ..

theorem Engine.calm_mbMacOne (k : BitVec 2) (sign x y : Int) : e.Calm (e.mbMacOne k sign x y) :=
  ((Engine.calm_setAcc ..).trans (Engine.calm_orAsat ..)).trans (Engine.calm_orSat ..)

theorem Engine.g_orAsat (b : Bool) : (e.orAsat b).g = e.g := by
  cases b <;> rfl

/-- Accumulation writes no scalar register. -/
theorem Engine.dGet_mbMacOne (k : BitVec 2) (sign x y : Int) (n : BitVec 4) : (e.mbMacOne k sign x y).dGet n = e.dGet n := by
  have hregs : (e.mbMacOne k sign x y).g = e.g := by
    rw [Engine.mbMacOne, (Engine.regs_orSat _ _).1, Engine.mbAccumulate, Engine.g_orAsat]
    rfl
  simp only [Engine.dGet, Engine.reg, hregs]

/-- A multiply-accumulate on D registers accumulates the products of their halves into a0 and a1 (MD1, MD2, log entry 50). -/
theorem Engine.mbCompute_macr (a b : BitVec 4) : e.mbCompute (.macr false false a b)
    = (e.mbMacOne 0 1 (dHalf (e.dGet a) 0) (dHalf (e.dGet b) 0)).mbMacOne 1 1 (dHalf (e.dGet a) 1) (dHalf (e.dGet b) 1) := by
  simp [Engine.mbCompute, List.range_succ, Engine.dGet_mbMacOne]

theorem Engine.calm_mbCompute_macr (a b : BitVec 4) : e.Calm (e.mbCompute (.macr false false a b)) := by
  rw [Engine.mbCompute_macr]
  exact (Engine.calm_mbMacOne ..).trans (Engine.calm_mbMacOne ..)

end

/-- The Gusset serves an engine beside its panel's site 16 while it is present and not retired (R192). -/
theorem State.gusset_serves {s : State} {g : Nat} (hup : s.gussetUp (gussetOf g) = true) (hsite : g % 17 ≠ 16) :
    (!s.gussetUp (gussetOf g) || g % 17 == 16) = false := by
  simp [hup, hsite]

/-! ## Operations (R198) -/

section
variable {s : State} {g : Nat} (hrun : s.runsMbDsp g)
include hrun

/-- An operation that names a register that MB-DSP lacks, or a type that its counterpart refuses, raises ILLEGAL (R200). -/
theorem exec_mbDspOperation_of_illegal {op : MbOp} (h : mbLegal op = false) :
    exec (.mbDspOperation g op) s = .next (s.illegal g) := by
  rw [exec_mbDspOperation, execMbDspOperation, State.mbNative_runs hrun, if_pos (by rw [h]; rfl)]

/-- An operation that only computes changes the engine's registers and retires at the next word. -/
theorem exec_mbDspOperation_of_computes {op : MbOp}
    (hop : exec (.mbDspOperation g op) s
      = .next (s.mbNative g fun e => if !mbLegal op then s.illegal g else s.retire g (e.mbCompute op)))
    (hl : mbLegal op = true) (hcalm : (s.eng g).Calm ((s.eng g).mbCompute op)) :
    exec (.mbDspOperation g op) s = .next (s.retireAt g ((s.eng g).mbCompute op) ((s.eng g).pc + 4)) := by
  rw [hop, State.mbNative_runs hrun, if_neg (by simp [hl]), State.retire_eq hcalm]

theorem exec_mbDspOperation_branch (c : MbCond) (a b : BitVec 4) (off : BitVec 16) :
    exec (.mbDspOperation g (.branch c a b off)) s
      = .next (if mbCond c ((s.eng g).dGet a) ((s.eng g).dGet b)
          then s.jumpTo g (s.eng g) (branchTarget (s.eng g).pc off.toInt) else s.retire g (s.eng g)) :=
  congrArg _ (State.mbNative_runs hrun _)

theorem exec_mbDspOperation_jumpReg (a : BitVec 4) : exec (.mbDspOperation g (.jumpReg a none)) s
    = .next (s.jumpTo g (s.eng g) (((s.eng g).dGet a).toNat % 2 ^ 15)) :=
  congrArg _ (State.mbNative_runs hrun _)

/-- A status write with a reserved bit set raises ILLEGAL, and stores nothing (R200). -/
theorem exec_mbStatusWrite_runs (a : BitVec 4) : exec (.mbStatusWrite g a) s
    = .next (if (s.eng g).dGet a &&& ~~~mbStatusMask = 0
        then s.retire g ((s.eng g).setMbStatus ((s.eng g).dGet a)) else s.illegal g) :=
  congrArg _ (State.mbNative_runs hrun _)

/-! ## Gusset commands (R212, R213) -/

section
variable (hup : s.gussetUp (gussetOf g) = true) (hsite : g % 17 ≠ 16)
include hup hsite

/-- A command enters the queue of eight and retires, or waits while eight are queued or uncommitted (R212, log entry 87). -/
theorem exec_mbGussetCommand_of_up (tag : BitVec 4) {op : MbGusset} (hop : mbGussetLegal op = true) {w : GWork}
    (hw : w = ⟨bankOf g, mbGussetOp (s.eng g) op, (s.eng g).rndm, some tag.toNat, true, false, 0, false⟩) :
    exec (.mbGussetCommand g tag op) s = .next (
      if (s.gus (gussetOf g)).mbCount (bankOf g) < 8 then (s.setGus (gussetOf g) { s.gus (gussetOf g) with
        queued := (s.gus (gussetOf g)).queued ++ [w] }).retire g (s.eng g)
      else (s.setGus (gussetOf g) { s.gus (gussetOf g) with
        presented := (s.gus (gussetOf g)).presented.set (bankOf g) w }).setEng g { s.eng g with wait := .gusset }) := by
  subst hw
  simp only [exec_mbGussetCommand, execMbGussetCommand, State.mbNative_runs hrun, hop, State.gusset_serves hup hsite,
    Bool.not_true, Bool.false_eq_true, if_false]

variable {v : BitVec 5} (hv : v.toNat < 16) (d : BitVec 4) (row : BitVec 2)
include hv

/-- A read waits until no queued or uncommitted command writes its row (R213). -/
theorem exec_mbGussetRead_of_pending (h : (s.gus (gussetOf g)).rowUsable (bankOf g) d.toNat = false) (read : RowRead) :
    exec (.mbGussetRead g v d read) s = .next (s.setEng g { s.eng g with wait := .again 0 }) := by
  simp [exec_mbGussetRead, execMbGussetRead, State.mbNative_runs hrun, mbV, hv, hup, hsite, h]

/-- A read of a usable row that holds no poison moves it. -/
theorem exec_mbGussetRead_of_usable (h : (s.gus (gussetOf g)).rowUsable (bankOf g) d.toNat = true)
    (hp : (s.gus (gussetOf g)).readsPoison (bankOf g) (.movf v.toNat d.toNat row.toNat) = false) :
    exec (.mbGussetRead g v d ⟨row, [], false⟩) s = .next (s.retire g ((s.eng g).setVec v
      ((gResult (.movf v.toNat d.toNat row.toNat) 0 ((s.gus (gussetOf g)).shadow (bankOf g))).1.setWidth 128))) := by
  simp only [exec_mbGussetRead, execMbGussetRead, State.mbNative_runs hrun, mbV, hv, State.gusset_serves hup hsite, h, hp,
    State.gussetCorrected_nil, decide_true, Bool.not_true, Bool.or_self, Bool.false_eq_true, if_false]

end

/-! ## Messages (R626) -/

section
variable {p : BitVec 3} {m : MbMode} {d : Nat} {base : Word} (hs : s.accessStops g d 32 = none) {q : Nat}
include hs

/-- A message of clean words goes to a queue that takes it at once. -/
theorem exec_mbSendMessage_of_taken {core : BitVec 6} {inbox : BitVec 2} {ws : List Carried} {t u : State}
    (hm : s.mbMessage g p m false = .inl (d, base)) (hq : q = s.mbInbox (s.mbPart g) core.toNat inbox.toNat)
    (hreach : s.queueReach q = true) (hr : s.readWords d g 1 4 = (ws, t)) (hclean : ws.any Option.isNone = false)
    (hst : (t.port q g).stalled = []) (hcr : (t.port q g).credits ≠ 0)
    (hu : u = t.setEng g { t.eng g with
      wait := .credit q (pReg p).toNat (((t.eng g).pSet p (base.setWidth 32)).reg (pReg p)) }) :
    exec (.mbSendMessage g core inbox p m) s = .next (((u.pushEntry q g
      (ws ++ [some 0, some 0, some 0, some (u.pushTag g)])).releaseEngine q g).takeAsync g) := by
  subst hu
  simp [exec_mbSendMessage, execMbSendMessage, State.mbNative_runs hrun, hm, ← hq, hreach, State.whenOpen_of_none _ hs, hr,
    hclean, hst, hcr]

/-- A received entry's first four words are stored, and POP answers 1. -/
theorem exec_mbReceiveMessage_of_entry {inbox : BitVec 2} (r : BitVec 4) {ws : List Carried} {t u : State}
    (hm : s.mbMessage g p m true = .inl (d, base)) (hq : q = s.mbInbox (s.mbPart g) (s.coreOf (s.mbPart g) g) inbox.toNat)
    (hpop : s.popQueue q g = (.entry ws, t)) (hu : u = t.storeEntry g d (ws.take 4)) :
    exec (.mbReceiveMessage g inbox (some r) p m) s
      = .next (u.retireAt g (((u.eng g).pSet p (base.setWidth 32)).dSet r 1) ((u.eng g).pc + 4)) := by
  subst hu
  rw [← State.retire_eq ((Engine.calm_pSet ..).trans (Engine.calm_dSet ..))]
  simp only [exec_mbReceiveMessage, execMbReceiveMessage, State.mbNative_runs hrun, hm, ← hq, State.whenOpen_of_none _ hs, hpop]

end

/-! ## Jobs and events (R626) -/

theorem exec_mbRaiseHostInterrupt_runs :
    exec (.mbRaiseHostInterrupt g) s = .next ((s.engEvent g 0x04).retireAt g (s.eng g) ((s.eng g).pc + 4)) :=
  congrArg _ (State.mbNative_runs hrun _)

/-- Halt is WAITJOB, which is of FREE alone (R183). -/
theorem exec_mbHalt_runs : exec (.mbHalt g) s
    = .next (if (s.eng g).state = .free then s.waitJob g else s.illegal g) :=
  congrArg _ (State.mbNative_runs hrun _)

theorem exec_mbReadCycleCounter_runs (d : BitVec 4) : exec (.mbReadCycleCounter g d) s = .next (s.retireAt g
    ((s.eng g).dSet d (BitVec.ofNat 32 ((s.replica (g / 17) - (s.eng g).resetTick) * 3125 / 384))) ((s.eng g).pc + 4)) := by
  rw [← State.retire_eq (Engine.calm_dSet ..), exec_mbReadCycleCounter, execMbReadCycleCounter, State.mbNative_runs hrun]

end

/-! ## The obligation -/

/-- Settles O28, by the equations of the operations. That a multiply-accumulate on D registers takes their halves, and that the count
of eight includes what is not committed, are the model's (log entries 50 and 87). -/
theorem mbDspOperationsExecuteOnTheEngine : Obligations.MbDspOperationsExecuteOnTheEngine := by
  refine ⟨fun s g e d a b x y off v1 v2 hrun he hx hy => ?operations,
    fun s g e x tag d a b w v row hrun he hx hup hsite hw => ?gusset,
    fun s t u g d core inbox p m base ws hrun hm hs hreach hr hclean hst hcr hu => ?send,
    fun s t u g d q inbox r p m base ws hrun hm hs hq hpop hu => ?receive, fun s g e d hrun he => ?jobs⟩
  case operations =>
    subst he hx hy
    refine ⟨exec_mbDspOperation_of_computes hrun rfl rfl (Engine.calm_dSet ..),
      exec_mbDspOperation_of_computes hrun rfl rfl (Engine.calm_dSet ..), ?macr, ?branch, fun h => ?misaligned,
      fun h => ?jump, fun h => exec_mbDspOperation_of_illegal hrun ?vector, fun h => ?reserved, fun h => ?status⟩
    case macr =>
      rw [exec_mbDspOperation_of_computes hrun rfl rfl (Engine.calm_mbCompute_macr ..), Engine.mbCompute_macr]
    case branch =>
      rintro dst rfl
      rw [exec_mbDspOperation_branch hrun, ← State.jumpTo_eq]
      simp only [mbCond, beq_iff_eq]
    case misaligned => rw [exec_mbDspOperation_jumpReg hrun, State.jumpTo_eq, if_neg (by omega)]
    case jump => rw [exec_mbDspOperation_jumpReg hrun, State.jumpTo_eq, if_pos (by omega)]
    case vector => simp [mbLegal, mbV, Nat.not_lt.mpr h]
    case reserved => rw [exec_mbStatusWrite_runs hrun]; exact congrArg _ (if_neg h)
    case status => rw [exec_mbStatusWrite_runs hrun]; exact congrArg _ (if_pos h)
  case gusset =>
    subst he hx
    have command := exec_mbGussetCommand_of_up hrun hup hsite tag (op := .mul d a b) rfl hw
    refine ⟨fun h => ?room, fun h => ?full, fun hv => exec_mbGussetRead_of_usable hrun hup hsite hv d row,
      fun hv hrow => exec_mbGussetRead_of_pending hrun hup hsite hv d hrow _⟩
    case room => rw [command, if_pos h]; rfl
    case full => rw [command, if_neg (Nat.not_lt.mpr h)]
  case send => exact exec_mbSendMessage_of_taken hrun hs hm rfl hreach hr hclean hst hcr hu
  case receive => exact exec_mbReceiveMessage_of_entry hrun hs r hm hq hpop hu
  case jobs =>
    subst he
    refine ⟨exec_mbRaiseHostInterrupt_runs hrun, ?free, fun h => ?running, exec_mbReadCycleCounter_runs hrun d⟩
    case free =>
      rintro z rfl hfree
      rw [exec_mbHalt_runs hrun, if_pos hfree]
      rfl
    case running => rw [exec_mbHalt_runs hrun, if_neg (by simp [h])]

end Sys2Proof.Machine
end

section
/-!
PROOFS. Elryn instruction words (R178 to R193): the fields that a word of each format holds, the group that its major opcode decodes
in, and the instruction that its fields spell there.
-/

namespace Sys2Proof.Machine

/-! ## Fields of a word (R179, R180) -/

section
variable (op : BitVec 6) (d x y : BitVec 5)

theorem formatI_fields (i : BitVec 16) :
    (op ++ d ++ x ++ i).extractLsb' 26 6 = op ∧ (op ++ d ++ x ++ i).extractLsb' 21 5 = d ∧
      (op ++ d ++ x ++ i).extractLsb' 16 5 = x ∧ (op ++ d ++ x ++ i).extractLsb' 0 16 = i := by
  simp (disch := decide) only [BitVec.extractLsb'_append_eq_of_le, BitVec.extractLsb'_append_eq_of_add_le,
    BitVec.extractLsb'_eq_self, Nat.reduceSub, and_self]

theorem formatJ_fields (o : BitVec 26) : (op ++ o).extractLsb' 26 6 = op ∧ (op ++ o).extractLsb' 0 26 = o := by
  simp (disch := decide) only [BitVec.extractLsb'_append_eq_of_le, BitVec.extractLsb'_append_eq_of_add_le,
    BitVec.extractLsb'_eq_self, Nat.reduceSub, and_self]

theorem formatR_fields (fn : BitVec 11) :
    (op ++ d ++ x ++ y ++ fn).extractLsb' 26 6 = op ∧ (op ++ d ++ x ++ y ++ fn).extractLsb' 21 5 = d ∧
      (op ++ d ++ x ++ y ++ fn).extractLsb' 16 5 = x ∧ (op ++ d ++ x ++ y ++ fn).extractLsb' 11 5 = y ∧
      (op ++ d ++ x ++ y ++ fn).extractLsb' 0 11 = fn := by
  simp (disch := decide) only [BitVec.extractLsb'_append_eq_of_le, BitVec.extractLsb'_append_eq_of_add_le,
    BitVec.extractLsb'_eq_self, Nat.reduceSub, and_self]

/-- A shift by an immediate: eight reserved bits, the kind of shift and its amount (R185). -/
theorem shiftWord_fields (r : BitVec 8) (k : BitVec 2) (n : BitVec 6) :
    (op ++ d ++ x ++ r ++ k ++ n).extractLsb' 26 6 = op ∧ (op ++ d ++ x ++ r ++ k ++ n).extractLsb' 21 5 = d ∧
      (op ++ d ++ x ++ r ++ k ++ n).extractLsb' 16 5 = x ∧ (op ++ d ++ x ++ r ++ k ++ n).extractLsb' 8 8 = r ∧
      (op ++ d ++ x ++ r ++ k ++ n).extractLsb' 6 2 = k ∧ (op ++ d ++ x ++ r ++ k ++ n).extractLsb' 0 6 = n := by
  simp (disch := decide) only [BitVec.extractLsb'_append_eq_of_le, BitVec.extractLsb'_append_eq_of_add_le,
    BitVec.extractLsb'_eq_self, Nat.reduceSub, and_self]

/-- An immediate load: whether the register is kept, two reserved bits and the half that is written (R185). -/
theorem loadImmWord_fields (keep : BitVec 1) (r h : BitVec 2) (i : BitVec 16) :
    (op ++ d ++ keep ++ r ++ h ++ i).extractLsb' 26 6 = op ∧ (op ++ d ++ keep ++ r ++ h ++ i).extractLsb' 21 5 = d ∧
      (op ++ d ++ keep ++ r ++ h ++ i).getLsbD 20 = keep.getLsbD 0 ∧
      (op ++ d ++ keep ++ r ++ h ++ i).extractLsb' 18 2 = r ∧ (op ++ d ++ keep ++ r ++ h ++ i).extractLsb' 16 2 = h ∧
      (op ++ d ++ keep ++ r ++ h ++ i).extractLsb' 0 16 = i := by
  simp (disch := decide) only [BitVec.extractLsb'_append_eq_of_le, BitVec.extractLsb'_append_eq_of_add_le,
    BitVec.extractLsb'_eq_self, Nat.reduceSub, BitVec.getLsbD_append, Nat.reduceLT, if_false, if_true, and_self]

section
variable (z m : BitVec 2)

theorem formatM_fields (i : BitVec 12) :
    (op ++ d ++ x ++ z ++ m ++ i).extractLsb' 26 6 = op ∧ (op ++ d ++ x ++ z ++ m ++ i).extractLsb' 21 5 = d ∧
      (op ++ d ++ x ++ z ++ m ++ i).extractLsb' 16 5 = x ∧ (op ++ d ++ x ++ z ++ m ++ i).extractLsb' 14 2 = z ∧
      (op ++ d ++ x ++ z ++ m ++ i).extractLsb' 12 2 = m ∧ (op ++ d ++ x ++ z ++ m ++ i).extractLsb' 0 12 = i := by
  simp (disch := decide) only [BitVec.extractLsb'_append_eq_of_le, BitVec.extractLsb'_append_eq_of_add_le,
    BitVec.extractLsb'_eq_self, Nat.reduceSub, and_self]

/-- Where imm12 names an offset register behind nine reserved bits (R138). -/
theorem formatM_postReg (r : BitVec 9) (k : BitVec 3) :
    op ++ d ++ x ++ z ++ m ++ r ++ k = op ++ d ++ x ++ z ++ m ++ (r ++ k) :=
  BitVec.append_assoc

/-- Where imm12 names a ring and an offset register behind seven reserved bits (R138). -/
theorem formatM_circular (r : BitVec 7) (c : BitVec 2) (k : BitVec 3) :
    op ++ d ++ x ++ z ++ m ++ r ++ c ++ k = op ++ d ++ x ++ z ++ m ++ (r ++ (c ++ k)) :=
  BitVec.append_assoc.trans BitVec.append_assoc

end

end

/-- The two fields of an imm12 that names an offset register. -/
theorem postReg_fields (r : BitVec 9) (k : BitVec 3) : (r ++ k).extractLsb' 3 9 = r ∧ (r ++ k).extractLsb' 0 3 = k :=
  ⟨BitVec.extractLsb'_append_eq_left, BitVec.extractLsb'_append_eq_right⟩

/-- The three fields of an imm12 that names a ring. -/
theorem circular_fields (r : BitVec 7) (c : BitVec 2) (k : BitVec 3) :
    (r ++ (c ++ k)).extractLsb' 5 7 = r ∧ (r ++ (c ++ k)).extractLsb' 3 2 = c ∧ (r ++ (c ++ k)).extractLsb' 0 3 = k :=
  ⟨BitVec.extractLsb'_append_eq_left,
    (BitVec.extractLsb'_append_eq_of_add_le (by decide)).trans BitVec.extractLsb'_append_eq_left,
    (BitVec.extractLsb'_append_eq_of_add_le (by decide)).trans BitVec.extractLsb'_append_eq_right⟩

/-! ## Groups (R181) -/

section
variable (g : Nat) {w : Half}

theorem elrynOf_system (h : w.extractLsb' 26 6 = 0x00#6) : elrynOf g w = systemOf g w := by simp only [elrynOf, h]; rfl
theorem elrynOf_alu (h : w.extractLsb' 26 6 = 0x01#6) : elrynOf g w = aluOf g w := by simp only [elrynOf, h]; rfl
theorem elrynOf_shift (h : w.extractLsb' 26 6 = 0x08#6) : elrynOf g w = shiftOf g w := by simp only [elrynOf, h]; rfl
theorem elrynOf_loadImm (h : w.extractLsb' 26 6 = 0x09#6) : elrynOf g w = loadImmOf g w := by simp only [elrynOf, h]; rfl
theorem elrynOf_jump (h : w.extractLsb' 26 6 = 0x18#6) : elrynOf g w = jumpOf g w := by simp only [elrynOf, h]; rfl

/-- The major opcodes outside format M that have a meaning (R181). -/
def groupOpcodes : List Nat := [0x00, 0x01, 0x02, 0x03, 0x04, 0x05, 0x06, 0x07, 0x08, 0x09, 0x10, 0x11, 0x12, 0x13, 0x14, 0x15,
  0x16, 0x17, 0x18, 0x28, 0x29, 0x36, 0x38, 0x39, 0x3A, 0x3C]

/-- Every other major opcode is one of format M or spells nothing (R181, R187, R190). -/
theorem elrynOf_otherwise {op : BitVec 6} (h : w.extractLsb' 26 6 = op) (hop : op.toNat ∉ groupOpcodes) : elrynOf g w
    = if (0x20 ≤ op.toNat ∧ op.toNat ≤ 0x25) ∨ (0x30 ≤ op.toNat ∧ op.toNat ≤ 0x35)
      then (modeOf w).bind fun m => memoryOf g op.toNat m w else none := by
  unfold elrynOf
  dsimp only
  rw [h]
  split
  case h_27 => rfl
  all_goals simp_all [groupOpcodes]

/-- A word of format M decodes in its group with its addressing mode (R187, R190). -/
theorem elrynOf_memory {op : BitVec 6} (h : w.extractLsb' 26 6 = op)
    (hop : op.toNat ∈ ([0x20, 0x21, 0x22, 0x23, 0x24, 0x25, 0x30, 0x31, 0x32, 0x33, 0x34, 0x35] : List Nat)) :
    elrynOf g w = (modeOf w).bind fun m => memoryOf g op.toNat m w := by
  simp only [List.mem_cons, List.not_mem_nil, or_false] at hop
  rw [elrynOf_otherwise g h (by simp [groupOpcodes]; omega), if_pos (by omega)]

end

/-! ## Addressing modes (R137, R138) -/

section
variable (op : BitVec 6) (d b : BitVec 5) (z : BitVec 2)

theorem modeOf_offset (i : BitVec 12) : modeOf (op ++ d ++ b ++ z ++ 0#2 ++ i) = some (.offset i) := by
  simp [modeOf, formatM_fields]

theorem modeOf_postImm (i : BitVec 12) : modeOf (op ++ d ++ b ++ z ++ 1#2 ++ i) = some (.postImm i) := by
  simp [modeOf, formatM_fields]

theorem modeOf_postReg (k : BitVec 3) : modeOf (op ++ d ++ b ++ z ++ 2#2 ++ (0#9 ++ k)) = some (.postReg k) := by
  simp [modeOf, formatM_fields, postReg_fields]

theorem modeOf_circular (c : BitVec 2) (k : BitVec 3) :
    modeOf (op ++ d ++ b ++ z ++ 3#2 ++ (0#7 ++ (c ++ k))) = some (.circular c k) := by
  simpa [modeOf, formatM_fields] using circular_fields 0#7 c k

end

/-! ## The obligation -/

/-- Settles O55: the fields of each format, the group of the major opcode, and the group's decoding of those fields. -/
theorem elrynWordsSpellTheirInstructions : Obligations.ElrynWordsSpellTheirInstructions := by
  refine ⟨fun g d x i => ?formatI, fun g o => ?formatJ, fun g d x y => ?formatR, fun g d x n i h => ?immediates,
    fun g d b z i c k => ?formatM, fun g op o hop => ?reserved⟩
  case formatI => simp [elrynOf, fieldD, fieldS, fieldI, formatI_fields]
  case formatJ => simp [elrynOf, formatJ_fields]
  case formatR =>
    have alu (fn : BitVec 11) := elrynOf_alu g (formatR_fields 0x01#6 d x y fn).1
    have system (d x y : BitVec 5) (fn : BitVec 11) := elrynOf_system g (formatR_fields 0x00#6 d x y fn).1
    have jump (d x y : BitVec 5) (fn : BitVec 11) := elrynOf_jump g (formatR_fields 0x18#6 d x y fn).1
    simp +contextual [alu, system, jump, aluOf, systemOf, jumpOf, onlyIf, fieldD, fieldS, fieldT, formatR_fields,
      -BitVec.reduceAppend]
  case immediates =>
    have shift (k : BitVec 2) := elrynOf_shift g (shiftWord_fields 0x08#6 d x 0#8 k n).1
    have load (keep : BitVec 1) := elrynOf_loadImm g (loadImmWord_fields 0x09#6 d keep 0#2 h i).1
    simp [shift, load, shiftOf, loadImmOf, fieldD, fieldS, fieldI, shiftWord_fields, loadImmWord_fields,
      -BitVec.getLsbD_eq_getElem]
  case formatM =>
    have memory (op : BitVec 6) (z m : BitVec 2) (i : BitVec 12) := elrynOf_memory g (formatM_fields op d b z m i).1
    have ld {m : BitVec 2} {i : BitVec 12} {mode : AddrMode} (hm : modeOf (0x20#6 ++ d ++ b ++ z ++ m ++ i) = some mode) :
        elrynOf g (0x20#6 ++ d ++ b ++ z ++ m ++ i) = some (.iLd g z d b mode) := by
      simp [memory, hm, memoryOf, fieldD, fieldS, formatM_fields]
    refine ⟨ld (modeOf_offset ..), ld (modeOf_postImm ..), (congrArg _ (formatM_postReg ..)).trans (ld (modeOf_postReg ..)),
      (congrArg _ (formatM_circular ..)).trans (ld (modeOf_circular ..)), ?_⟩
    simp +contextual [memory, modeOf_offset, modeOf_postImm, memoryOf, onlyIf, typeOf, fieldD, fieldS, formatM_fields]
  case reserved =>
    simp only [List.mem_cons, List.not_mem_nil, or_false] at hop
    rw [elrynOf_otherwise g (formatJ_fields op o).1 (by simp [groupOpcodes]; omega), if_neg (by omega)]

end Sys2Proof.Machine
end

section
/-!
PROOFS. Channel coding and transform jobs (R226 to R255): each of their commands runs its instance's job, and every run ends by one
law; what SRESET does to an instance.
-/

namespace Sys2Proof.Machine

/-! ## Commands that run a job (R226 to R230) -/

/-- The command has unit u run job j, its instance's job of the command's type: r is the state that the run reaches, and info bytes
32 to 47 of its result entry. -/
inductive RunsJob (s : State) (u : Nat) (j : Job) (c : Instr) (r : AccRun) (info : List Byte) : Prop
  | intro (typ : Nat) (body : Job → AccRun → AccRun) (inf : AccRun → List Byte)
      (run : exec c s = .next (s.accRun u typ body inf)) (job : s.accJob u typ = some j)
      (reaches : r = body j (AccRun.start s j)) (informs : info = inf r)

/-! ## The control register (R254, R255) -/

/-- Thimble and PF0 reset a usable instance by a write with SRESET. -/
theorem State.writeAccCtrl_of_sreset {s : State} {w u v : Nat} (hmay : isThimble w = true ∨ isPf0 w = true)
    (hup : s.usable u = true) (hv : natBit v 8 = true) : s.writeAccCtrl w u v = s.resetAccByWrite u := by
  simp [State.writeAccCtrl, hmay, hup, hv]

theorem exec_accSreset_of_permitted {s : State} {w u : Nat} (v : Half) (hrun : s.islandStops (islandOf u) = false)
    (hmay : isThimble w = true ∨ isPf0 w = true) (hup : s.usable u = true) :
    exec (.accSreset w u v) s = .next (s.resetAccByWrite u) := by
  rw [exec_accSreset, execAccSreset, State.atIsland_runs _ _ hrun, State.writeAccCtrl_of_sreset hmay hup (natBit_8_or v)]

theorem State.resetAccByWrite_of_idle {s : State} {u : Nat} (h : s.runningOn u = none) :
    s.resetAccByWrite u = s.resetAcc u 0x02 := by
  simp only [State.resetAccByWrite, h]

/-- The job that runs is ABORTED before its instance resets. -/
theorem State.resetAccByWrite_of_running {s : State} {u : Nat} {j : Job} (h : s.runningOn u = some j) (hr : j.report = none) :
    s.resetAccByWrite u = (s.reportJob j.id ⟨codeAborted, 0, 0, false⟩).resetAcc u 0x02 := by
  simp only [State.resetAccByWrite, h, hr, if_true]

/-! ## The obligation -/

/-- Settles O31: each command runs its type's job, and `State.accRun_ends` says how every run ends. That a run which an island stops
only notes the stall and begins anew is the model's (log entries 60 and 95). -/
theorem codingJobsCompleteWithTheirReport : Obligations.CodingJobsCompleteWithTheirReport := by
  refine ⟨fun s u j r0 r info t c hstart hc ht => ?jobs, fun s w u v j hrun hmay hup => ⟨fun h => ?idle, fun h hr => ?running⟩⟩
  case jobs =>
    subst hstart
    have hruns : RunsJob s u j c r info := by
      rcases hc with ⟨rfl, hj, hr, hi⟩ | ⟨rfl, hj, hi, hr⟩ | ⟨rfl, hj, hr, hi⟩ | ⟨rfl, hj, hi, hr⟩ |
        ⟨rfl, hj, hi, x, rfl, p, rfl, hr⟩ | ⟨rfl, hj, hi, x, rfl, hr⟩ | ⟨rfl, hj, hi, x, rfl, hr⟩ | ⟨rfl, hj, hi, x, rfl, hr⟩ |
        ⟨rfl, hj, hr, hi⟩ | ⟨rfl, hj, hr, hi⟩ | ⟨rfl, hj, hr, hi⟩ | ⟨rfl, hj, hr, hi⟩ | ⟨rfl, hj, hr, hi⟩ | ⟨rfl, hj, hr, hi⟩ |
        ⟨rfl, hj, hr, hi⟩ | ⟨rfl, hj, hr, hi⟩
      · exact .intro _ _ _ (exec_ldpcDecode u s) hj hr hi
      · exact .intro _ _ _ (exec_ldpcEncode u s) hj hr hi
      · exact .intro _ _ _ (exec_turboDecode u s) hj hr hi
      · exact .intro _ _ _ (exec_turboEncode u s) hj hr hi
      · exact .intro _ _ _ (exec_polarDecode u s) hj hr hi
      · exact .intro _ _ _ (exec_polarEncode u s) hj hr hi
      · exact .intro _ _ _ (exec_tbccDecode u s) hj hr hi
      · exact .intro _ _ _ (exec_tbccEncode u s) hj hr hi
      · exact .intro _ _ _ (exec_tbSegment u s) hj hr hi
      · exact .intro _ _ _ (exec_tbAssemble u s) hj hr hi
      · exact .intro _ _ _ (exec_ldpcRateMatch u s) hj hr hi
      · exact .intro _ _ _ (exec_turboRateMatch u s) hj hr hi
      · exact .intro _ _ _ (exec_ldpcRateRecover u s) hj hr hi
      · exact .intro _ _ _ (exec_turboRateRecover u s) hj hr hi
      · exact .intro _ _ _ (exec_fft u s) hj hr hi
      · exact .intro _ _ _ (exec_ifft u s) hj hr hi
    obtain ⟨typ, body, inf, hexec, hj, hr, hi⟩ := hruns
    simpa only [hexec, Host.Outcome.next.injEq] using State.accRun_ends s u typ j r info t body inf hj hr hi ht
  case idle => rw [exec_accSreset_of_permitted v hrun hmay hup, State.resetAccByWrite_of_idle h]
  case running => rw [exec_accSreset_of_permitted v hrun hmay hup, State.resetAccByWrite_of_running h hr]

end Sys2Proof.Machine
end

section
/-!
PROOFS. Matrix and equalization jobs (R257 to R282): each of their commands runs its instance's job, and every run ends by the law
of all jobs.
-/

namespace Sys2Proof.Machine

/-! ## Commands that run a job (R226 to R230) -/

/-- EQ_APPLY runs from a table of partial elements where SRC is 2, and from a grid otherwise (R268, R271). -/
theorem RunsJob.eqApply {s : State} {u : Nat} {j : Job} {r : AccRun} {info : List Byte} (hj : s.accJob u 0x44 = some j)
    (hi : info = packedInfo r)
    (hr : (j.eqSrc = 2 ∧ r = (AccRun.start s j).withAlloc j (fun _ => []) (eqPartials j)) ∨
      (j.eqSrc ≠ 2 ∧ r = (AccRun.start s j).withAlloc j (eqGridBuffers j) (eqGrid j))) :
    RunsJob s u j (.eqApply u) r info := by
  refine .intro _ _ _ (exec_eqApply u s) hj ?_ hi
  rcases hr with ⟨hsrc, hr⟩ | ⟨hsrc, hr⟩
  · exact hr.trans (if_pos hsrc).symm
  · exact hr.trans (if_neg hsrc).symm

/-! ## The obligation -/

/-- Settles O32: each command runs its type's job, and `State.accRun_ends` says how every run ends. That a run which an island stops
only notes the stall and begins anew is the model's (log entries 60 and 95). The statement
writes by projections the results that the model's runs bind by patterns; the two are the same terms by eta. -/
theorem matrixJobsCompleteWithTheirReport : Obligations.MatrixJobsCompleteWithTheirReport := by
  intro s u j r0 r info t c hstart hc ht
  subst hstart
  have hruns : RunsJob s u j c r info := by
    rcases hc with ⟨rfl, hj, hr, hi⟩ | ⟨rfl, hj, hi, hr⟩ | ⟨rfl, hj, hi, hr⟩ | ⟨rfl, hj, hi, hr⟩ | ⟨rfl, hj, hi, hr⟩ |
      ⟨rfl, hj, hi, hr⟩ | ⟨rfl, hj, hi, hr⟩ | ⟨rfl, hj, hr, hi⟩ | ⟨rfl, hj, hr, hi⟩
    · exact .intro _ _ _ (exec_chest u s) hj hr hi
    · exact .intro _ _ _ (exec_eqWeights u s) hj hr hi
    · exact .intro _ _ _ (exec_bfWeights u s) hj hr hi
    · exact .intro _ _ _ (exec_weightApply u s) hj hr hi
    · exact .eqApply hj hi hr
    · exact .intro _ _ _ (exec_jmStats u s) hj hr hi
    · exact .intro _ _ _ (exec_jmSolve u s) hj hr hi
    · exact .intro _ _ _ (exec_softDemap u s) hj hr hi
    · exact .intro _ _ _ (exec_modMap u s) hj hr hi
  obtain ⟨typ, body, inf, hexec, hj, hr, hi⟩ := hruns
  simpa only [hexec, Host.Outcome.next.injEq] using State.accRun_ends s u typ j r info t body inf hj hr hi ht

end Sys2Proof.Machine
end

section
/-!
PROOFS. Hem chains (R288 to R300): detection jobs, intake, receive windows, transmit requests, and the writes to a chain's registers.
-/

namespace Sys2Proof.Machine

open Reg

/-! ## Detection jobs (R287, R296, R297) -/

section
variable {r : AccRun} {n : Nat} (info : List Byte) (reset : State → State)

/-- A run that went to its end, of a job that asks for no result entry, reports DONE. -/
theorem AccRun.finish_of_done (hstop : r.stop = none) (hclean : r.spoiled = false) (hout : n = 0) :
    r.finish n info reset = r.st.reportJob r.job ⟨codeDone, r.result, fieldAt info 0 8, false⟩ := by
  subst hout
  simp only [AccRun.finish, hstop, hclean]
  cases r.st.job r.job <;> simp

/-- A run that stopped otherwise than on poison reports the code of its stop. -/
theorem AccRun.finish_of_stop {k : Nat} (hstop : r.stop = some k) (hk : k ≠ codePoison) :
    r.finish n info reset = r.st.reportJob r.job ⟨k, r.result, fieldAt info 0 8, false⟩ := by
  simp only [AccRun.finish, hstop, if_neg hk]

/-- A run that stopped on poison reports POISON and resets its instance. -/
theorem AccRun.finish_of_poison (hstop : r.stop = some codePoison) :
    r.finish n info reset = reset (r.st.reportJob r.job ⟨codePoison, r.result, fieldAt info 0 8, false⟩) := by
  simp only [AccRun.finish, hstop, if_true]

end

section
variable {s : State} {h typ : Nat} {j : Job} {r : AccRun} {body : Job → AccRun → AccRun}
  (hfft : s.reservedFfts h ≠ []) (hj : s.accJob (hemUnit h) typ = some j) (hr : r = body j (AccRun.start s j))
include hfft hj hr

theorem State.hemRun_of_stall {x : Nat × Option Nat} (hx : r.stall = some x) : s.hemRun h typ body = s.stallOn x := by
  simp [State.hemRun, hfft, hj, ← hr, hx]

theorem State.hemRun_of_end (hn : r.stall = none) :
    s.hemRun h typ body = r.finish j.outCount (packedInfo r) (fun s => (s.resetHem h).hemEvent h 0 0x04) := by
  simp [State.hemRun, hfft, hj, ← hr, hn]

end

/-! ## Intake (R288, R289) -/

/-- The entry at the head of the intake queue, of received samples, is popped and its run accepted or discarded. -/
theorem exec_hemIntakeEntry_of_head {s t : State} {h : Nat} {w : List Carried} (hhead : s.intakeHead h 0 = true)
    (hpop : s.popQueue (s.rf HEM_CFG_INQ h) (hemUnit h) = (.entry w, t)) :
    exec (.hemIntakeEntry h) s = .next (t.acceptRun h (intakeOf w)) := by
  simp only [exec_hemIntakeEntry, execHemIntakeEntry, hhead, hpop, if_true]

section
variable {s : State} {h i tick : Nat} {e : Intake} {x : HemShape} {y : HemStream}
  (hi : i = streamIx h e.stream) (hy : y = s.stream i) (hx : x = s.shape i) (ht : tick = fullTick (s.hemTick h) e.tick)
include hi hy hx ht

/-- A run that may enter the stream stands in front of the runs that the ring still holds. -/
theorem State.acceptRun_of_fit (hok : e.ok = true) (hon : s.bit HEM_SCFG_ENABLE i = true)
    (hdir : s.bit HEM_SCFG_DIR i = false) (hgrid : s.onGrid x tick = true) (hlate : ∀ d, y.done = some d → d < tick) :
    s.acceptRun h e = s.setStream i { y with
      runs := ⟨tick, e.count, e.pos⟩ ::
        y.runs.filter (fun r => decide (tick < r.first + (r.count + 2 ^ s.rf HEM_SCFG_RING_LOG2 i) * x.d)) } := by
  subst hi hy hx ht
  cases hd : (s.stream (streamIx h e.stream)).done with
  | none => simp [State.acceptRun, hok, hon, hdir, hgrid, hd]
  | some d => simp [State.acceptRun, hok, hon, hdir, hgrid, hd, hlate d hd]

/-- A malformed run, one of a stream that is off, one off the sample grid and one not later than the last window are discarded. -/
theorem State.acceptRun_of_unfit (hbad : e.ok = false ∨ s.bit HEM_SCFG_ENABLE i = false ∨ s.onGrid x tick = false ∨
    ∃ d, y.done = some d ∧ tick ≤ d) : s.acceptRun h e = (s.incf HEM_DISCARDS_COUNT h).hemEvent h e.stream 0x01 := by
  subst hi hy hx ht
  rcases hbad with hok | hoff | hgrid | ⟨d, hd, hlate⟩
  · simp [State.acceptRun, State.discardRun, hok]
  · simp [State.acceptRun, State.discardRun, hoff]
  · simp [State.acceptRun, State.discardRun, hgrid]
  · simp [State.acceptRun, State.discardRun, hd, hlate]

end

/-! ## Windows (R290, R291) -/

section
variable {s : State} {h st p : Nat} (howner : s.hemOwner h = some p) (hopen : s.windowOpen h st = true)
include howner hopen

section
variable {u : Nat} (hfull : s.windowComplete (streamIx h st) (s.stream (streamIx h st)).next = true)
  (hfft : s.fftReserved u = true) (hchain : (u - 0x600) / 39 = h)
include hfull hfft hchain

theorem exec_hemWindowProcess_of_stop {x : Nat × Option Nat} (hx : s.streamStops h st = some x) :
    exec (.hemWindowProcess h st u) s = .next (s.stallOn x) := by
  simp [exec_hemWindowProcess, execHemWindowProcess, howner, hopen, hfull, hfft, hchain, hx]

theorem exec_hemWindowProcess_of_complete (hn : s.streamStops h st = none) :
    exec (.hemWindowProcess h st u) s = .next (s.processWindow h st p u) := by
  simp [exec_hemWindowProcess, execHemWindowProcess, howner, hopen, hfull, hfft, hchain, hn]

end

section
variable (hpart : s.windowComplete (streamIx h st) (s.stream (streamIx h st)).next = false)
  (hlate : s.windowEnd (streamIx h st) (s.stream (streamIx h st)).next + s.rf HEM_BUDGET_TICKS h ≤ s.hemTick h)
include hpart hlate

theorem exec_hemWindowMissing_of_stop {x : Nat × Option Nat} (hx : s.streamStops h st = some x) :
    exec (.hemWindowMissing h st) s = .next (s.stallOn x) := by
  simp [exec_hemWindowMissing, execHemWindowMissing, howner, hopen, hpart, hlate, hx]

/-- A window still incomplete at its budget leaves a row of zeros (R291). -/
theorem exec_hemWindowMissing_of_late {i row tick : Nat} {x : HemShape} (hi : i = streamIx h st) (ht : tick = (s.stream i).next)
    (hx : x = s.shape i) (hrow : row = s.gridRow i (x.position (s.symAt x tick)).2.1 (x.position (s.symAt x tick)).2.2)
    (hn : s.streamStops h st = none) :
    exec (.hemWindowMissing h st) s = .next ((((s.writeRow h p row (.inl (valBytes (4 * s.rf HEM_SCFG_NSC i) 0))).lostWindow
      h st tick false).incf HEM_MISSING_COUNT h).hemEvent h st 0x02) := by
  subst hi ht hx hrow
  simp [exec_hemWindowMissing, execHemWindowMissing, howner, hopen, hpart, hlate, hn]

end

end

section
variable {s t : State} {h st p u i row tick : Nat} {x : HemShape} {vals : List (Option (Int × Int))}
  (hi : i = streamIx h st) (ht : tick = (s.stream i).next) (hx : x = s.shape i)
  (hrow : row = s.gridRow i (x.position (s.symAt x tick)).2.1 (x.position (s.symAt x tick)).2.2)
  (hread : s.readSamples h p i x.d (s.windowStart i tick) x.n = (vals, t))
include hi ht hx hrow hread

/-- A window with a bad sample leaves a row of poison and resets the instance (R391). -/
theorem State.processWindow_of_bad (hbad : vals.any Option.isNone = true) : s.processWindow h st p u
    = (((t.writeRow h p row (.inr (4 * t.rf HEM_SCFG_NSC i))).lostWindow h st tick true).hemEvent h st 0x04).resetAcc u 0x01 := by
  subst hi ht hx hrow
  simp only [State.processWindow, hread, hbad, if_true]

/-- A window of good samples leaves its transform as the row, and its level, saturations and burst (R290, R294). -/
theorem State.processWindow_of_good {v y : List (Int × Int)} (hv : v = vals.map (fun o => o.getD (0, 0)))
    (hy : y = (v.map (gained (linearGain (t.gain i)))).map (fun e => e.1)) (hgood : vals.any Option.isNone = false) :
    s.processWindow h st p u
      = (t.writeRow h p row (.inl ((t.windowRow i y).flatMap (fun e => pairBytes e.1)))).endWindow h st tick
          ⟨(windowLevel v (t.rf HEM_SAGC1_BURST i) (t.stream i).level).1,
           ((v.map (gained (linearGain (t.gain i)))).map (fun e => e.2)).sum,
           (windowLevel v (t.rf HEM_SAGC1_BURST i) (t.stream i).level).2, false, false,
           (t.windowRow i y).any (fun e => e.2)⟩ := by
  subst hi ht hx hrow hv hy
  simp only [State.processWindow, hread, hgood, Bool.false_eq_true, if_false]

end

/-! ## Transmission (R293) -/

section
variable {s : State} {h p f st : Nat} {fs : List Nat} (howner : s.hemOwner h = some p) (hhead : s.intakeHead h 1 = true)
  (hfft : s.reservedFfts h = f :: fs) (hst : st = (intakeOf (s.peek (s.rf HEM_CFG_INQ h) 0)).stream)
include howner hhead hfft hst

theorem exec_hemTransmitRequest_of_stop {x : Nat × Option Nat} (hx : s.streamStops h st = some x) :
    exec (.hemTransmitRequest h) s = .next (s.stallOn x) := by
  subst hst
  simp only [exec_hemTransmitRequest, execHemTransmitRequest, howner, hfft, hhead, hx, if_true]

theorem exec_hemTransmitRequest_of_head {t : State} {w : List Carried} (hn : s.streamStops h st = none)
    (hpop : s.popQueue (s.rf HEM_CFG_INQ h) (hemUnit h) = (.entry w, t)) :
    exec (.hemTransmitRequest h) s = .next (t.transmit h p f (intakeOf w)) := by
  subst hst
  simp only [exec_hemTransmitRequest, execHemTransmitRequest, howner, hfft, hhead, hn, hpop, if_true]

end

/-! ## Writes to a stream's registers (R299) -/

/-- HEM_STREAM_DISABLE writes ENABLE 0. -/
theorem natBit_31_and (v : Half) : natBit (v &&& 0x7FFFFFFF).toNat 31 = false := by
  rw [natBit, BitVec.testBit_toNat]
  simp

/-- A field takes the low bits of what is written. -/
theorem State.sf_eq_of_mod_eq (s : State) {f : Fld} (i : Nat) {v w : Nat} (h : v % 2 ^ f.width = w % 2 ^ f.width) :
    s.sf f i v = s.sf f i w := by
  simp only [State.sf, h]

/-- HEM_SCFG of stream i as a write of v leaves it, but for ENABLE. -/
def State.takeScfg (s : State) (i v : Nat) : State :=
  ((((((s.sf HEM_SCFG_DIR i (v / 2 ^ 30)).sf HEM_SCFG_HALF i (v / 2 ^ 29)).sf HEM_SCFG_AGC i (v / 2 ^ 28)).sf
    HEM_SCFG_CARRIER i (v / 2 ^ 22)).sf HEM_SCFG_LOG2N i (v / 2 ^ 18)).sf HEM_SCFG_RING_LOG2 i (v / 2 ^ 13)).sf HEM_SCFG_NSC i v

section
variable {s : State} {u h st : Nat} (hmay : s.mayWriteHem u h = true) (hst : st < 32) (hup : s.usable (hemUnit h) = true)
include hmay hst hup

theorem State.writeSgain_of_receiving {v : Nat} (hon : s.bit HEM_SCFG_ENABLE (streamIx h st) = true)
    (hdir : s.bit HEM_SCFG_DIR (streamIx h st) = false) : s.writeSgain u h st v
      = s.setStream (streamIx h st) { s.stream (streamIx h st) with gain := some (v % 65536) } := by
  simp [State.writeSgain, hmay, hst, hup, hon, hdir]

theorem State.writeSgain_of_notReceiving {v : Nat}
    (hnot : s.bit HEM_SCFG_ENABLE (streamIx h st) = false ∨ s.bit HEM_SCFG_DIR (streamIx h st) = true) :
    s.writeSgain u h st v = s.sf HEM_SGAIN_G (streamIx h st) v := by
  rcases hnot with hoff | hdir
  · simp [State.writeSgain, hmay, hst, hup, hoff]
  · simp [State.writeSgain, hmay, hst, hup, hdir]

theorem State.writeScfg_disable_of_on {v : Nat} (hv : natBit v 31 = false)
    (hon : s.bit HEM_SCFG_ENABLE (streamIx h st) = true) :
    s.writeScfg u h st v = (s.sf HEM_SCFG_ENABLE (streamIx h st) 0).quietStream (streamIx h st) := by
  simp [State.writeScfg, hmay, hst, hup, hon, hv]

/-- A write with ENABLE 1 to a disabled stream takes the other fields and then checks them. -/
theorem State.writeScfg_enable_of_off {v : Nat} {x : State} (hv : natBit v 31 = true)
    (hoff : s.bit HEM_SCFG_ENABLE (streamIx h st) = false) (hx : x = s.takeScfg (streamIx h st) v) :
    s.writeScfg u h st v = if x.streamValid (streamIx h st)
      then (x.sf HEM_SCFG_ENABLE (streamIx h st) 1).clearStream (streamIx h st) (x.hemTick h) else x.hemEvent h st 0x03 := by
  subst hx
  simp only [State.writeScfg, hmay, hst, hup, hoff, hv]
  rfl

end

section
variable {s : State} {h : Nat} (u st : Nat) (v : Half) (hrun : s.islandStops (islandOf (0x740 + h)) = false)
include hrun

theorem exec_hemSgainWrite_of_runs : exec (.hemSgainWrite u h st v) s = .next (s.writeSgain u h st v.toNat) :=
  congrArg Host.Outcome.next (State.atIsland_runs u _ hrun)

theorem exec_hemStreamDisable_of_runs :
    exec (.hemStreamDisable u h st v) s = .next (s.writeScfg u h st (v &&& 0x7FFFFFFF).toNat) :=
  congrArg Host.Outcome.next (State.atIsland_runs u _ hrun)

theorem exec_hemStreamEnable_of_runs :
    exec (.hemStreamEnable u h st v) s = .next (s.writeScfg u h st (v ||| 0x80000000).toNat) :=
  congrArg Host.Outcome.next (State.atIsland_runs u _ hrun)

theorem exec_hemSreset_of_runs : exec (.hemSreset u h v) s = .next (s.hemSreset u h (v ||| 0x100).toNat) :=
  congrArg Host.Outcome.next (State.atIsland_runs u _ hrun)

end

/-- The fields that the command word 0x10E5A00C holds: a receive stream with AGC on carrier timer 3, of 512 samples a symbol, with
a ring of 8192 and 12 subcarriers. -/
theorem State.takeScfg_10E5A00C (s : State) (i : Nat) : s.takeScfg i ((0x10E5A00C : Half) ||| 0x80000000).toNat
    = ((((((s.sf HEM_SCFG_DIR i 0).sf HEM_SCFG_HALF i 0).sf HEM_SCFG_AGC i 1).sf HEM_SCFG_CARRIER i 3).sf HEM_SCFG_LOG2N i 9).sf
        HEM_SCFG_RING_LOG2 i 13).sf HEM_SCFG_NSC i 12 := by
  rw [State.takeScfg, State.sf_eq_of_mod_eq _ (f := HEM_SCFG_DIR) i (w := 0) (by decide),
    State.sf_eq_of_mod_eq _ (f := HEM_SCFG_HALF) i (w := 0) (by decide),
    State.sf_eq_of_mod_eq _ (f := HEM_SCFG_AGC) i (w := 1) (by decide),
    State.sf_eq_of_mod_eq _ (f := HEM_SCFG_CARRIER) i (w := 3) (by decide),
    State.sf_eq_of_mod_eq _ (f := HEM_SCFG_LOG2N) i (w := 9) (by decide),
    State.sf_eq_of_mod_eq _ (f := HEM_SCFG_RING_LOG2) i (w := 13) (by decide),
    State.sf_eq_of_mod_eq _ (f := HEM_SCFG_NSC) i (w := 12) (by decide)]

/-! ## The chain's reset (R299) -/

section
variable {s : State} {u h v : Nat} (hmay : s.mayWriteHem u h = true) (hup : s.usable (hemUnit h) = true) (hv : natBit v 8 = true)
include hmay hup hv

theorem State.hemSreset_of_idle (hidle : s.runningOn (hemUnit h) = none) : s.hemSreset u h v = s.resetHem h := by
  simp [State.hemSreset, hmay, hup, hv, hidle]

/-- The job that runs is ABORTED before its chain resets. -/
theorem State.hemSreset_of_running {j : Job} (hj : s.runningOn (hemUnit h) = some j) (hr : j.report = none) :
    s.hemSreset u h v = (s.reportJob j.id ⟨codeAborted, 0, 0, false⟩).resetHem h := by
  simp [State.hemSreset, hmay, hup, hv, hj, hr]

end

/-! ## The obligation -/

/-- Settles O33, command by command. That a command which an island stops only notes the stall, and that a job so stopped begins
anew, are the model's (log entries 60 and 95); so are the free values of a lost window (106), the answers to a malformed entry and to
a poisoned row (107), the gain that a disable writes (109), and the reason of a poisoned job (110). -/
theorem hemCommandsComplete : Obligations.HemCommandsComplete := by
  refine ⟨fun s h j r info c hfft hc hinfo => ?jobs, fun s t h i w e y x tick hhead hpop he hi hy hx ht => ?intake,
    fun s t h st p u i row tick x vals v y howner hopen hi ht hx hfull hfft hchain => ?process,
    fun s h st p i row tick x howner hopen hi ht hx hpart hlate => ?missing,
    fun s t h p f st fs w howner hhead hfft hst => ⟨fun x => exec_hemTransmitRequest_of_stop howner hhead hfft hst,
      exec_hemTransmitRequest_of_head howner hhead hfft hst⟩,
    fun s x u h st i v hrun hmay hst hup hi => ?registers, fun s u h v j hrun hmay hup => ?sreset⟩
  case jobs =>
    obtain ⟨typ, body, hexec, hj, hr⟩ : ∃ typ body, exec c s = .next (s.hemRun h typ body) ∧
        s.accJob (hemUnit h) typ = some j ∧ r = body j (AccRun.start s j) := by
      rcases hc with ⟨rfl, hj, hr⟩ | ⟨rfl, hj, hr⟩
      · exact ⟨_, _, exec_prachDetect h s, hj, hr⟩
      · exact ⟨_, _, exec_seqDetect h s, hj, hr⟩
    subst hinfo
    rw [hexec]
    refine ⟨fun x hx => congrArg _ (State.hemRun_of_stall hfft hj hr hx), fun hn => ?_⟩
    rw [State.hemRun_of_end hfft hj hr hn]
    exact ⟨fun hstop hclean hout => congrArg _ (AccRun.finish_of_done _ _ hstop hclean hout),
      fun k hstop hk => congrArg _ (AccRun.finish_of_stop _ _ hstop hk),
      fun hstop => congrArg _ (AccRun.finish_of_poison _ _ hstop)⟩
  case intake =>
    subst he
    rw [exec_hemIntakeEntry_of_head hhead hpop]
    exact ⟨fun hok hon hdir hgrid hlate => congrArg _ (State.acceptRun_of_fit hi hy hx ht hok hon hdir hgrid hlate),
      fun hbad => congrArg _ (State.acceptRun_of_unfit hi hy hx ht hbad)⟩
  case process =>
    subst hi ht
    refine ⟨fun x => exec_hemWindowProcess_of_stop howner hopen hfull hfft hchain, fun hn hrow hread hv hy => ?_⟩
    rw [exec_hemWindowProcess_of_complete howner hopen hfull hfft hchain hn]
    exact ⟨fun hbad => congrArg _ (State.processWindow_of_bad rfl rfl hx hrow hread hbad),
      fun hgood => congrArg _ (State.processWindow_of_good rfl rfl hx hrow hread hv hy hgood)⟩
  case missing =>
    subst hi ht
    exact ⟨fun x => exec_hemWindowMissing_of_stop howner hopen hpart hlate,
      fun hn hrow => exec_hemWindowMissing_of_late howner hopen hpart hlate rfl rfl hx hrow hn⟩
  case registers =>
    subst hi
    rw [exec_hemSgainWrite_of_runs u st v hrun, exec_hemStreamDisable_of_runs u st v hrun,
      exec_hemStreamEnable_of_runs u st _ hrun]
    refine ⟨fun hon hdir => ?_, fun hnot => ?_, fun hon => ?_, fun hoff hx => ?_⟩
    · exact congrArg _ (State.writeSgain_of_receiving hmay hst hup hon hdir)
    · exact congrArg _ (State.writeSgain_of_notReceiving hmay hst hup hnot)
    · exact congrArg _ (State.writeScfg_disable_of_on hmay hst hup (natBit_31_and v) hon)
    · rw [State.writeScfg_enable_of_off hmay hst hup (by decide) hoff (hx.trans (s.takeScfg_10E5A00C _).symm)]
      exact ⟨fun hvalid => by rw [if_pos hvalid], fun hvalid => by rw [hvalid]; rfl⟩
  case sreset =>
    rw [exec_hemSreset_of_runs u v hrun]
    exact ⟨fun hidle => congrArg _ (State.hemSreset_of_idle hmay hup (natBit_8_or v) hidle),
      fun hj hr => congrArg _ (State.hemSreset_of_running hmay hup (natBit_8_or v) hj hr)⟩

end Sys2Proof.Machine
end

section
/-!
PROOFS. What every step keeps: the canonical form of memory, and the customer keys, sessions, relays and DMA channels outside the
commands that their rules name.
-/

namespace Sys2Proof.Machine

/-- Settles O3, by the two shapes of the queue: an idle step is the identity, and the front command's meaning keeps memory
canonical, whatever the rest of the queue. The form is the model's own (log entry 9). -/
theorem everyStepKeepsMemoryCanonical : Obligations.EveryStepKeepsMemoryCanonical := by
  intro s t hs h
  cases hq : s.pending with
  | nil =>
    rw [step_of_pending_nil hq] at h
    cases h
    exact hs
  | cons c l =>
    rw [step_of_pending_cons hq] at h
    exact exec_wf h hs

/-- A part that the computed list of a command's parts does not contain is as it was. -/
theorem exec_same_of_not_contains {c : Instr} {s t : State} {k : Part} (h : exec c s = .next t)
    (hk : (writes c).contains k = false) : k.same s t :=
  exec_same h (by simpa using hk)

/-- Settles O6: command by command, the part is either excepted or not among the parts that the command may write, and a part that
a command may not write is as it was. -/
theorem keysSessionsAndChannelsChangeOnlyByTheirCommands :
    Obligations.KeysSessionsAndChannelsChangeOnlyByTheirCommands := by
  refine ⟨fun c s t h => ?keys, fun c s t h => ?sessions, fun c s t h => ?dma, fun c s t h => ?relays⟩
  case keys =>
    have frame : (writes c).contains .keys = false → t.keys = s.keys := exec_same_of_not_contains h
    cases c <;> first | exact trivial | exact frame rfl
  case sessions =>
    have frame : (writes c).contains .sessions = false → t.sessions = s.sessions := exec_same_of_not_contains h
    cases c <;> first | exact trivial | exact frame rfl
  case dma =>
    have frame : (writes c).contains .dma = false → t.dma = s.dma := exec_same_of_not_contains h
    cases c <;> first | exact trivial | exact frame rfl
  case relays =>
    have frame : (writes c).contains .relays = false → t.relays = s.relays := exec_same_of_not_contains h
    cases c <;> first | exact trivial | exact frame rfl

end Sys2Proof.Machine
end

section
/-!
PROOFS. The Selvage code (R383 to R385): multiplication by powers of alpha, the two syndromes of a codeword and of one with a single
wrong symbol, and what the decoder makes of them.
-/

namespace Sys2Proof.Machine

/-! ## Powers of alpha -/

theorem gfAlpha_eq (b : Byte) : gfAlpha b = b <<< 1 ^^^ (if b.getLsbD 7 then 0x1D else 0) := by
  unfold gfAlpha
  split <;> simp

/-- Multiplication by alpha is linear. -/
theorem gfAlpha_xor (a b : Byte) : gfAlpha (a ^^^ b) = gfAlpha a ^^^ gfAlpha b := by
  simp only [gfAlpha_eq, BitVec.shiftLeft_xor_distrib, BitVec.getLsbD_xor]
  have swap (p q x y : Byte) : (p ^^^ q) ^^^ (x ^^^ y) = p ^^^ x ^^^ (q ^^^ y) := by ac_rfl
  rw [← swap]
  cases a.getLsbD 7 <;> cases b.getLsbD 7 <;> rfl

theorem gfAlphaPow_eq_iterate (n : Nat) (b : Byte) : gfAlphaPow n b = gfAlpha^[n] b := by
  induction n generalizing b with
  | zero => rfl
  | succ n ih => exact ih (gfAlpha b)

theorem gfAlphaPow_add (m n : Nat) (b : Byte) : gfAlphaPow (m + n) b = gfAlphaPow m (gfAlphaPow n b) := by
  simp only [gfAlphaPow_eq_iterate, Function.iterate_add_apply]

@[simp] theorem gfAlphaPow_xor (n : Nat) (a b : Byte) : gfAlphaPow n (a ^^^ b) = gfAlphaPow n a ^^^ gfAlphaPow n b := by
  induction n generalizing a b with
  | zero => rfl
  | succ n ih => rw [gfAlphaPow, gfAlpha_xor, ih]; rfl

@[simp] theorem gfAlphaPow_zero (n : Nat) : gfAlphaPow n 0 = 0 := by
  have h := gfAlphaPow_xor n 0 0
  rwa [BitVec.xor_self, BitVec.xor_self] at h

/-! ## Products -/

/-- A power of alpha in the first factor comes out of a product. -/
theorem gfMul_gfAlphaPow (n : Nat) (a b : Byte) : gfMul (gfAlphaPow n a) b = gfAlphaPow n (gfMul a b) := by
  have hfold (l : List Nat) (acc : Byte) :
      l.foldl (fun acc i => if b.getLsbD i then acc ^^^ gfAlphaPow i (gfAlphaPow n a) else acc) (gfAlphaPow n acc)
        = gfAlphaPow n (l.foldl (fun acc i => if b.getLsbD i then acc ^^^ gfAlphaPow i a else acc) acc) := by
    induction l generalizing acc with
    | nil => rfl
    | cons i l ih =>
      rw [List.foldl_cons, List.foldl_cons, ← ih]
      congr 1
      split
      · rw [gfAlphaPow_xor, ← gfAlphaPow_add, ← gfAlphaPow_add, Nat.add_comm]
      · rfl
  have h := hfold (List.range 8) 0
  rwa [gfAlphaPow_zero] at h

theorem gfMul_one : ∀ b : Byte, gfMul 1 b = b := by decide +kernel

/-- A product with a power of alpha is that many multiplications by alpha. -/
theorem gfMul_gfAlphaPow_one (n : Nat) (b : Byte) : gfMul (gfAlphaPow n 1) b = gfAlphaPow n b := by
  rw [gfMul_gfAlphaPow, gfMul_one]

theorem gfAlphaPow_222_one : gfAlphaPow 222 1 = 0x8A := by decide +kernel

theorem gfMul_8A (b : Byte) : gfMul 0x8A b = gfAlphaPow 222 b := by
  rw [← gfAlphaPow_222_one, gfMul_gfAlphaPow_one]

/-! ## The order of alpha -/

/-- The 255th power of alpha is 1. -/
theorem gfAlphaPow_255 (b : Byte) : gfAlphaPow 255 b = b := by
  have hone : gfAlphaPow 255 1 = 1 := by decide +kernel
  rw [← gfMul_gfAlphaPow_one, hone, gfMul_one]

theorem gfAlphaPow_injective (n : Nat) : Function.Injective (gfAlphaPow n) := by
  have hinj : Function.Injective gfAlpha :=
    Function.LeftInverse.injective (g := gfAlphaPow 254) fun b => gfAlphaPow_255 b
  rw [show gfAlphaPow n = gfAlpha^[n] from funext (gfAlphaPow_eq_iterate n)]
  exact hinj.iterate n

theorem gfAlphaPow_eq_zero_iff {n : Nat} {b : Byte} : gfAlphaPow n b = 0 ↔ b = 0 :=
  ⟨fun h => gfAlphaPow_injective n (h.trans (gfAlphaPow_zero n).symm), fun h => h ▸ gfAlphaPow_zero n⟩

/-- Alpha generates every nonzero symbol: its order on 1 is no proper divisor of 255. -/
theorem minimalPeriod_gfAlpha : Function.minimalPeriod gfAlpha 1 = 255 := by
  have hdvd : Function.minimalPeriod gfAlpha 1 ∣ 255 :=
    Function.IsPeriodicPt.minimalPeriod_dvd ((gfAlphaPow_eq_iterate 255 1).symm.trans (gfAlphaPow_255 1))
  have hper : gfAlphaPow (Function.minimalPeriod gfAlpha 1) 1 = 1 :=
    (gfAlphaPow_eq_iterate _ 1).trans (Function.isPeriodicPt_minimalPeriod gfAlpha 1)
  have hproper : ∀ d ∈ Nat.properDivisors 255, gfAlphaPow d 1 ≠ 1 := by decide +kernel
  by_contra hne
  exact hproper _ (Nat.mem_properDivisors.mpr ⟨hdvd, lt_of_le_of_ne (Nat.le_of_dvd (by decide) hdvd) hne⟩) hper

/-- Powers of alpha are equal where their exponents are, modulo 255. -/
theorem gfAlphaPow_one_eq_iff {m n : Nat} : gfAlphaPow m 1 = gfAlphaPow n 1 ↔ m % 255 = n % 255 := by
  have hred (k : Nat) : gfAlphaPow k 1 = gfAlpha^[k % 255] 1 := by
    rw [gfAlphaPow_eq_iterate, ← minimalPeriod_gfAlpha, Function.iterate_mod_minimalPeriod_eq]
  have hlt (k : Nat) : k % 255 < Function.minimalPeriod gfAlpha 1 := by
    rw [minimalPeriod_gfAlpha]; exact Nat.mod_lt _ (by decide)
  rw [hred, hred, Function.iterate_eq_iterate_iff_of_lt_minimalPeriod (hlt m) (hlt n)]

/-- Alpha + 1 is alpha^25, so that alpha^222 is the inverse of alpha^8 + alpha^9. -/
theorem gfAlphaPow_222_inverse (b : Byte) : gfAlphaPow 8 (gfAlphaPow 222 b) ^^^ gfAlphaPow 9 (gfAlphaPow 222 b) = b := by
  have hsucc : ∀ x : Byte, x ^^^ gfAlphaPow 1 x = gfAlphaPow 25 x := by decide +kernel
  rw [show gfAlphaPow 9 (gfAlphaPow 222 b) = gfAlphaPow 8 (gfAlphaPow 1 (gfAlphaPow 222 b)) from gfAlphaPow_add 8 1 _,
    ← gfAlphaPow_xor, hsucc, ← gfAlphaPow_add, ← gfAlphaPow_add, gfAlphaPow_255]

/-! ## Syndromes -/

theorem gfSum_eq_foldr (c : List Byte) : gfSum c = c.foldr (· ^^^ ·) 0 := by
  induction c with
  | nil => rfl
  | cons x c ih => exact congrArg (x ^^^ ·) ih

theorem gfSum_append (c d : List Byte) : gfSum (c ++ d) = gfSum c ^^^ gfSum d := by
  induction c with
  | nil => simp [gfSum]
  | cons x c ih => simp [gfSum, ih, BitVec.xor_assoc]

theorem gfWeighted_append (n : Nat) (c d : List Byte) :
    gfWeighted n (c ++ d) = gfWeighted n c ^^^ gfWeighted (n + c.length) d := by
  induction c generalizing n with
  | nil => simp [gfWeighted]
  | cons x c ih => simp [gfWeighted, ih, BitVec.xor_assoc, Nat.add_assoc, Nat.add_comm 1]

/-- One wrong symbol adds its error to the sum. -/
theorem gfSum_set {c : List Byte} {i : Nat} (e : Byte) (hi : i < c.length) :
    gfSum (c.set i (c.getD i 0 ^^^ e)) = gfSum c ^^^ e := by
  induction c generalizing i with
  | nil => simp at hi
  | cons x c ih =>
    cases i with
    | zero => simp only [List.set_cons_zero, List.getD_cons_zero, gfSum]; ac_rfl
    | succ i =>
      simp only [List.set_cons_succ, List.getD_cons_succ, gfSum, ih (Nat.lt_of_succ_lt_succ hi), BitVec.xor_assoc]

/-- One wrong symbol adds its error at its place to the weighted sum. -/
theorem gfWeighted_set {c : List Byte} {i : Nat} (n : Nat) (e : Byte) (hi : i < c.length) :
    gfWeighted n (c.set i (c.getD i 0 ^^^ e)) = gfWeighted n c ^^^ gfAlphaPow (n + i) e := by
  induction c generalizing n i with
  | nil => simp at hi
  | cons x c ih =>
    cases i with
    | zero => simp only [List.set_cons_zero, List.getD_cons_zero, gfWeighted, gfAlphaPow_xor, Nat.add_zero]; ac_rfl
    | succ i =>
      simp only [List.set_cons_succ, List.getD_cons_succ, gfWeighted, ih (n + 1) (Nat.lt_of_succ_lt_succ hi),
        BitVec.xor_assoc, Nat.add_assoc, Nat.add_comm 1]

/-! ## Codewords -/

/-- The check symbols of data bytes make both syndromes zero (R383). -/
theorem syndromes_checkSymbols {d : List Byte} (hd : d.length = 8) :
    gfSum (d ++ [(checkSymbols d).1, (checkSymbols d).2]) = 0 ∧
      gfWeighted 0 (d ++ [(checkSymbols d).1, (checkSymbols d).2]) = 0 := by
  refine ⟨?_, ?_⟩
  · simp [gfSum_append, gfSum, checkSymbols]
  · rw [gfWeighted_append, hd]
    simp only [gfWeighted, checkSymbols, gfMul_8A]
    generalize hx : gfWeighted 0 d ^^^ gfAlphaPow 8 (gfSum d) = x
    calc gfWeighted 0 d ^^^ (gfAlphaPow 8 (gfSum d ^^^ gfAlphaPow 222 x) ^^^ (gfAlphaPow 9 (gfAlphaPow 222 x) ^^^ 0))
        = (gfWeighted 0 d ^^^ gfAlphaPow 8 (gfSum d))
            ^^^ (gfAlphaPow 8 (gfAlphaPow 222 x) ^^^ gfAlphaPow 9 (gfAlphaPow 222 x)) := by
          rw [gfAlphaPow_xor, show gfAlphaPow 9 (gfAlphaPow 222 x) ^^^ 0 = _ from BitVec.xor_zero]; ac_rfl
      _ = 0 := by rw [hx, gfAlphaPow_222_inverse]; exact BitVec.xor_self

@[simp] theorem length_wordBytes (w : Word) : (wordBytes w).length = 8 := length_valBytes 8 _

theorem codewordOf_some (w : Word) :
    codewordOf (some w) = wordBytes w ++ [(checkSymbols (wordBytes w)).1, (checkSymbols (wordBytes w)).2] := rfl

@[simp] theorem length_codewordOf (w : Carried) : (codewordOf w).length = 10 := by
  cases w <;> simp [codewordOf]

theorem syndromes_codewordOf (w : Word) :
    gfSum (codewordOf (some w)) = 0 ∧ gfWeighted 0 (codewordOf (some w)) = 0 :=
  syndromes_checkSymbols (length_wordBytes w)

theorem getD_valBytes {n i : Nat} (v : Nat) (hi : i < n) : (valBytes n v).getD i 0 = BitVec.ofNat 8 (v / 2 ^ (8 * i)) := by
  induction n generalizing i v with
  | zero => simp at hi
  | succ n ih =>
    cases i with
    | zero => simp [valBytes]
    | succ i =>
      rw [valBytes, List.getD_cons_succ, ih _ (Nat.lt_of_succ_lt_succ hi), Nat.div_div_eq_div_mul, Nat.mul_succ,
        Nat.pow_add, Nat.mul_comm]

theorem getD_wordBytes (w : Word) {i : Nat} (hi : i < 8) :
    (wordBytes w).getD i 0 = BitVec.ofNat 8 (w.toNat / 2 ^ (8 * i)) := getD_valBytes _ hi

theorem bytesVal_valBytes {n v : Nat} (h : v < 256 ^ n) : bytesVal (valBytes n v) = v := by
  induction n generalizing v with
  | zero => simp at h; simp [valBytes, bytesVal, h]
  | succ n ih =>
    rw [valBytes, bytesVal, ih (by rw [Nat.pow_succ] at h; omega), BitVec.toNat_ofNat]
    omega

/-- The data word of a codeword is the word. -/
theorem dataWord_codewordOf (w : Word) : dataWord (codewordOf (some w)) = w := by
  have hslice : sliceBytes (codewordOf (some w)) 0 8 = wordBytes w := by
    simp only [sliceBytes, codewordOf_some, wordBytes, valBytes, List.range, List.range.loop]
    rfl
  have hval : bytesVal (wordBytes w) = w.toNat := bytesVal_valBytes (Nat.lt_of_lt_of_le w.isLt (by decide))
  rw [dataWord, fieldAt, hslice, hval, BitVec.ofNat_toNat, BitVec.setWidth_eq]

/-- Settles O7: the two syndromes of the check symbols from the inverse alpha^222, and a product with a power of alpha by linearity. -/
theorem selvageCheckSymbolsMakeBothSyndromesZero : Obligations.SelvageCheckSymbolsMakeBothSyndromesZero := by
  refine ⟨gfAlpha_eq, ⟨by decide, gfAlphaPow_222_one⟩, fun a b n => gfMul_gfAlphaPow_one n b, gfSum_eq_foldr,
    fun c x n => ⟨rfl, rfl⟩, fun d hd => ⟨rfl, rfl, syndromes_checkSymbols hd⟩,
    fun w => ⟨codewordOf_some w, length_wordBytes w, fun i hi => getD_wordBytes w hi⟩, by decide⟩

/-! ## The decoder (R384) -/

section
variable {c : List Byte}

theorem decodeSymbols_clean (h0 : gfSum c = 0) (h1 : gfWeighted 0 c = 0) : decodeSymbols c = .clean (dataWord c) := by
  simp only [decodeSymbols, h0, h1, and_self, if_true]

theorem decodeSymbols_poison (h0 : gfSum c = 0x01) (h1 : gfWeighted 0 c = 0x74) : decodeSymbols c = .poison := by
  have hne : ¬((0x01 : Byte) = 0 ∧ (0x74 : Byte) = 0) := by decide
  simp only [decodeSymbols, h0, h1, if_neg hne, and_self, if_true]

/-- One syndrome zero and the other not: no single wrong symbol does that. -/
theorem decodeSymbols_bad_of_zero (h : ¬(gfSum c = 0 ∧ gfWeighted 0 c = 0)) (hz : gfSum c = 0 ∨ gfWeighted 0 c = 0) :
    decodeSymbols c = .bad := by
  have hp : ¬(gfSum c = 0x01 ∧ gfWeighted 0 c = 0x74) := by
    rintro ⟨h0, h1⟩
    rw [h0, h1] at hz
    exact absurd hz (by decide)
  simp only [decodeSymbols, if_neg h, if_neg hp, if_pos hz]

/-- Two syndromes that are not zero and not those of the poison mark are searched for a place. -/
theorem decodeSymbols_of_nonzero (h0 : gfSum c ≠ 0) (h1 : gfWeighted 0 c ≠ 0)
    (hp : ¬(gfSum c = 0x01 ∧ gfWeighted 0 c = 0x74)) :
    decodeSymbols c = match (List.range 10).find? (fun j => gfAlphaPow j (gfSum c) = gfWeighted 0 c) with
      | some j => .corrected (dataWord (c.set j (c.getD j 0 ^^^ gfSum c)))
      | none => .bad := by
  have hn : ¬(gfSum c = 0 ∧ gfWeighted 0 c = 0) := fun h => h0 h.1
  have hz : ¬(gfSum c = 0 ∨ gfWeighted 0 c = 0) := fun h => h.elim h0 h1
  simp only [decodeSymbols, if_neg hn, if_neg hp, if_neg hz] <;> rfl

/-- The only place whose power of alpha takes one syndrome to the other is the one that is corrected. -/
theorem decodeSymbols_corrected {j : Nat} (h0 : gfSum c ≠ 0) (h1 : gfWeighted 0 c ≠ 0)
    (hp : ¬(gfSum c = 0x01 ∧ gfWeighted 0 c = 0x74)) (hj : j < 10) (hplace : gfAlphaPow j (gfSum c) = gfWeighted 0 c)
    (honly : ∀ i < j, gfAlphaPow i (gfSum c) ≠ gfWeighted 0 c) :
    decodeSymbols c = .corrected (dataWord (c.set j (c.getD j 0 ^^^ gfSum c))) := by
  have hfind : (List.range 10).find? (fun j => gfAlphaPow j (gfSum c) = gfWeighted 0 c) = some j := by
    simpa [List.find?_range_eq_some, hj, hplace] using honly
  rw [decodeSymbols_of_nonzero h0 h1 hp, hfind]

theorem decodeSymbols_bad_of_noPlace (h0 : gfSum c ≠ 0) (h1 : gfWeighted 0 c ≠ 0)
    (hp : ¬(gfSum c = 0x01 ∧ gfWeighted 0 c = 0x74)) (hnone : ∀ i < 10, gfAlphaPow i (gfSum c) ≠ gfWeighted 0 c) :
    decodeSymbols c = .bad := by
  have hfind : (List.range 10).find? (fun j => gfAlphaPow j (gfSum c) = gfWeighted 0 c) = none := by
    simpa [List.find?_range_eq_none] using hnone
  rw [decodeSymbols_of_nonzero h0 h1 hp, hfind]

end

/-- With syndromes alpha^k0 and alpha^k1, place i takes the one to the other where i is the difference of the logarithms modulo 255. -/
theorem gfAlphaPow_logs_iff {k0 k1 i : Nat} (h0 : k0 < 255) (h1 : k1 < 255) (hi : i < 10) :
    gfAlphaPow i (gfAlphaPow k0 1) = gfAlphaPow k1 1 ↔ i = (k1 + 255 - k0) % 255 := by
  rw [← gfAlphaPow_add, gfAlphaPow_one_eq_iff]
  omega

/-- Settles O8, row by row of the table. -/
theorem selvageDecoderClassifiesBySyndromes : Obligations.SelvageDecoderClassifiesBySyndromes := by
  intro c _
  refine ⟨decodeSymbols_clean, decodeSymbols_poison, fun h0 h1 => decodeSymbols_bad_of_zero (fun h => h1 h.2) (.inl h0),
    fun h0 h1 => decodeSymbols_bad_of_zero (fun h => h0 h.1) (.inr h1), fun k0 k1 j hk0 hk1 h0 h1 hp hj => ?_⟩
  have hone : (1 : Byte) ≠ 0 := by decide
  have hs0 : gfSum c ≠ 0 := fun h => hone (gfAlphaPow_eq_zero_iff.mp (h0.symm.trans h))
  have hs1 : gfWeighted 0 c ≠ 0 := fun h => hone (gfAlphaPow_eq_zero_iff.mp (h1.symm.trans h))
  have hplace {i : Nat} (hi : i < 10) : gfAlphaPow i (gfSum c) = gfWeighted 0 c ↔ i = j := by
    rw [h0, h1, gfAlphaPow_logs_iff hk0 hk1 hi, hj]
  refine ⟨fun hle => ?_, fun hlt => ?_⟩
  · have hj10 : j < 10 := Nat.lt_succ_of_le hle
    exact decodeSymbols_corrected hs0 hs1 hp hj10 ((hplace hj10).mpr rfl)
      fun i hi h => Nat.ne_of_lt hi ((hplace (hi.trans hj10)).mp h)
  · exact decodeSymbols_bad_of_noPlace hs0 hs1 hp fun i hi h => by have := (hplace hi).mp h; omega

/-! ## Decoding what was encoded -/

theorem decodeSymbols_codewordOf (w : Word) : decodeSymbols (codewordOf (some w)) = .clean w := by
  obtain ⟨h0, h1⟩ := syndromes_codewordOf w
  rw [decodeSymbols_clean h0 h1, dataWord_codewordOf]

/-- The same error at two of the ten places gives different syndromes. -/
theorem gfAlphaPow_place_injective {e : Byte} {i j : Nat} (he : e ≠ 0) (hi : i < j) (hj : j < 10) :
    gfAlphaPow i e ≠ gfAlphaPow j e := by
  have hmoves : ∀ d < 10, ∀ b : Byte, gfAlphaPow d b = b → d = 0 ∨ b = 0 := by decide +kernel
  intro h
  rw [show j = i + (j - i) by omega, gfAlphaPow_add] at h
  rcases hmoves (j - i) (by omega) e (gfAlphaPow_injective i h).symm with hd | hd
  · omega
  · exact he hd

/-- No single wrong symbol gives the syndromes of the poison mark (R385). -/
theorem poison_not_single : ∀ i < 10, gfAlphaPow i 1 ≠ 0x74 := by decide

/-- A codeword with one wrong symbol is corrected. -/
theorem decodeSymbols_codewordOf_set (w : Word) {i : Nat} {e : Byte} (hi : i < 10) (he : e ≠ 0) :
    decodeSymbols ((codewordOf (some w)).set i ((codewordOf (some w)).getD i 0 ^^^ e)) = .corrected w := by
  obtain ⟨hc0, hc1⟩ := syndromes_codewordOf w
  generalize hc : codewordOf (some w) = c at hc0 hc1
  have hlen : i < c.length := by rw [← hc, length_codewordOf]; exact hi
  have h0 : gfSum (c.set i (c.getD i 0 ^^^ e)) = e := by rw [gfSum_set e hlen, hc0]; exact BitVec.zero_xor
  have h1 : gfWeighted 0 (c.set i (c.getD i 0 ^^^ e)) = gfAlphaPow i e := by
    rw [gfWeighted_set 0 e hlen, hc1, Nat.zero_add]; exact BitVec.zero_xor
  have hback : (c.set i (c.getD i 0 ^^^ e)).set i ((c.set i (c.getD i 0 ^^^ e)).getD i 0 ^^^ e) = c := by
    have hget : (c.set i (c.getD i 0 ^^^ e)).getD i 0 ^^^ e = c.getD i 0 := by
      rw [List.getD_eq_getElem _ _ (by simpa using hlen), List.getElem_set_self, BitVec.xor_assoc, BitVec.xor_self,
        BitVec.xor_zero]
    rw [List.set_set, hget, List.getD_eq_getElem _ _ hlen, List.set_getElem_self]
  have hdecode := decodeSymbols_corrected (c := c.set i (c.getD i 0 ^^^ e)) (j := i) (by rwa [h0])
    (by rwa [h1, ne_eq, gfAlphaPow_eq_zero_iff])
    (by rw [h0, h1]; rintro ⟨rfl, h⟩; exact poison_not_single i hi h) hi (by rw [h0, h1])
    (by rw [h0, h1]; exact fun j hj => gfAlphaPow_place_injective he hj hi)
  rw [hdecode, h0, hback, ← hc, dataWord_codewordOf]

/-- Settles O9: the clean codeword, the single wrong symbol at each place, and the mark's syndromes. -/
theorem selvageDecodesWhatItEncodesAndAnyOneWrongSymbol :
    Obligations.SelvageDecodesWhatItEncodesAndAnyOneWrongSymbol :=
  ⟨decodeSymbols_codewordOf, fun w _ _ hi he => decodeSymbols_codewordOf_set w hi he, decodeSymbols_poisonMark⟩

end Sys2Proof.Machine
end

section
/-!
PROOFS. Words in memory (R383, R385, R390): the ten cells of a word, what they hold after a store, and what a read then answers.
-/

namespace Sys2Proof.Machine

open Reg

/-! ## The ten cells of a word -/

/-- The cell of symbol i of the word at address `a`. -/
def symbolCell (a i : Nat) : Nat := if i < 8 then a + i else checkBase + a + (i - 8)

theorem storeSymbols_eq (m : Memory) (a : Nat) (l : List Byte) :
    storeSymbols m a l = (List.range 10).foldl (fun m i => m.put (symbolCell a i) (l.getD i 0)) m := rfl

theorem storedSymbols_eq (m : Memory) (a : Nat) :
    storedSymbols m a = (List.range 10).map (fun i => m.get (symbolCell a i)) := rfl

/-- The words at two different addresses share no cell, nor do two symbols of a word. -/
theorem symbolCell_inj {a b i j : Nat} (ha : a % 8 = 0) (hac : a < checkBase) (hb : b % 8 = 0) (hbc : b < checkBase)
    (hi : i < 10) (hj : j < 10) (h : symbolCell a i = symbolCell b j) : a = b ∧ i = j := by
  simp only [symbolCell, checkBase] at *
  split at h <;> split at h <;> omega

/-! ## Many symbols stored -/

section
variable {f : Nat → Nat} {g : Nat → Byte}

theorem Memory.wf_foldl_put {m : Memory} (hm : m.wf = true) (l : List Nat) :
    Memory.wf (l.foldl (fun m i => m.put (f i) (g i)) m) = true :=
  Memory.foldl_wf (p := True) (fun _ => hm) (fun _ _ h _ => Memory.put_wf _ _ _ (h trivial)) trivial

/-- A cell that none of the writes names is as it was. -/
theorem Memory.get_foldl_put_of_ne {m : Memory} (hm : m.wf = true) {x : Nat} :
    ∀ {l : List Nat}, (∀ i ∈ l, f i ≠ x) → Memory.get (l.foldl (fun m i => m.put (f i) (g i)) m) x = m.get x
  | [], _ => rfl
  | i :: l, h => by
    rw [List.foldl_cons, Memory.get_foldl_put_of_ne (Memory.put_wf _ _ _ hm) fun j hj => h j (List.mem_cons_of_mem _ hj),
      Memory.get_put _ _ _ _ hm, if_neg (h i List.mem_cons_self).symm]

/-- A cell that one of the writes names holds what that write stored, no two of them naming the same. -/
theorem Memory.get_foldl_put_of_mem {m : Memory} (hm : m.wf = true) {i : Nat} :
    ∀ {l : List Nat}, l.Nodup → (∀ j ∈ l, f j = f i → j = i) → i ∈ l →
      Memory.get (l.foldl (fun m i => m.put (f i) (g i)) m) (f i) = g i
  | k :: l, hnodup, hinj, hi => by
    obtain ⟨hk, hl⟩ := List.nodup_cons.mp hnodup
    rw [List.foldl_cons]
    by_cases hmem : i ∈ l
    · exact Memory.get_foldl_put_of_mem (Memory.put_wf _ _ _ hm) hl (fun j hj => hinj j (List.mem_cons_of_mem _ hj)) hmem
    · obtain rfl : i = k := (List.mem_cons.mp hi).resolve_right hmem
      have hne : ∀ j ∈ l, f j ≠ f i := fun j hj h => hmem (hinj j (List.mem_cons_of_mem _ hj) h ▸ hj)
      rw [Memory.get_foldl_put_of_ne (Memory.put_wf _ _ _ hm) hne, Memory.get_put _ _ _ _ hm, if_pos rfl]

end

/-! ## A word stored -/

section
variable {m : Memory} (hm : m.wf = true) {a b : Nat} (ha : a % 8 = 0) (hac : a < checkBase)
include hm ha hac

/-- Ten symbols stored are the ten symbols read. -/
theorem storedSymbols_storeSymbols {l : List Byte} (hl : l.length = 10) : storedSymbols (storeSymbols m a l) a = l := by
  have hget : ∀ i ∈ List.range 10, Memory.get (storeSymbols m a l) (symbolCell a i) = l.getD i 0 := fun i hi =>
    Memory.get_foldl_put_of_mem hm List.nodup_range
      (fun j hj h => (symbolCell_inj ha hac ha hac (List.mem_range.mp hj) (List.mem_range.mp hi) h).2) hi
  rw [storedSymbols_eq, List.map_congr_left hget]
  refine List.ext_getElem (by simp [hl]) fun i _ hi => ?_
  simp [List.getElem?_eq_getElem hi]

/-- The symbols of every other word stay. -/
theorem storedSymbols_storeSymbols_ne (l : List Byte) (hb : b % 8 = 0) (hbc : b < checkBase) (hne : b ≠ a) :
    storedSymbols (storeSymbols m a l) b = storedSymbols m b := by
  rw [storedSymbols_eq, storedSymbols_eq]
  refine List.map_congr_left fun i hi => Memory.get_foldl_put_of_ne hm fun j hj h => hne ?_
  exact (symbolCell_inj ha hac hb hbc (List.mem_range.mp hj) (List.mem_range.mp hi) h).1.symm

theorem storedSymbols_storeWord (w : Carried) : storedSymbols (m.storeWord a w) a = codewordOf w :=
  storedSymbols_storeSymbols hm ha hac (length_codewordOf w)

theorem storedSymbols_storeWord_ne (w : Carried) (hb : b % 8 = 0) (hbc : b < checkBase) (hne : b ≠ a) :
    storedSymbols (m.storeWord a w) b = storedSymbols m b :=
  storedSymbols_storeSymbols_ne hm ha hac _ hb hbc hne

end

/-! ## Reads -/

@[simp] theorem State.writeCell_mem (s : State) (a memid : Nat) (w : Carried) :
    (s.writeCell a memid w).mem = s.mem.storeWord a w := rfl

theorem State.watchBurst_of_sram {s : State} {memid : Nat} (before : Memory) (a : Nat) (h : memid / 0x1000 ≠ 6) :
    s.watchBurst before memid a = s := if_neg h

section
variable {s : State} {a : Nat} (memid unit kind : Nat)

/-- A read of a clean word gives the word; only the watch on DRAM ranks notes it. -/
theorem State.readCell_of_clean {w : Word} (h : decodeSymbols (storedSymbols s.mem a) = .clean w) :
    s.readCell a memid unit kind = (some w, s.watchBurst s.mem memid a) := by
  simp only [State.readCell, h]

/-- A read of a poisoned word gives POISON and is counted. -/
theorem State.readCell_of_poison (h : decodeSymbols (storedSymbols s.mem a) = .poison) :
    s.readCell a memid unit kind = (none, (s.incf MP_POISON_READS_COUNT).watchBurst s.mem memid a) := by
  simp only [State.readCell, h]

end

/-- Settles O10, from the cells of a word, its codeword and the decoder. The canonical form is the model's own (log entry 9). -/
theorem storedWordsReadBackAndOthersStay : Obligations.StoredWordsReadBackAndOthersStay := by
  intro s a memid unit kind hm ha hac
  have hread (w : Carried) : storedSymbols (s.writeCell a memid w).mem a = codewordOf w :=
    storedSymbols_storeWord hm ha hac w
  refine ⟨fun w => ?word, ?mark, fun w b hb hbc hne => storedSymbols_storeWord_ne hm ha hac w hb hbc hne,
    fun w => Memory.storeWord_wf (p := True) (fun _ => hm) trivial⟩
  case word =>
    have hclean : decodeSymbols (storedSymbols (s.writeCell a memid (some w)).mem a) = .clean w := by
      rw [hread, decodeSymbols_codewordOf]
    rw [State.readCell_of_clean memid unit kind hclean]
    exact ⟨rfl, fun hsram => State.watchBurst_of_sram _ a hsram⟩
  case mark =>
    have hpoison : decodeSymbols (storedSymbols (s.writeCell a memid none).mem a) = .poison := by
      rw [hread, decodeSymbols_poisonMark]
    rw [State.readCell_of_poison memid unit kind hpoison]
    exact ⟨rfl, fun hsram => State.watchBurst_of_sram _ a hsram⟩

end Sys2Proof.Machine
end

section
/-!
PROOFS. Serial lanes (R302 to R321): writes of a lane's registers, what happens on a lane in each of its states, direction power,
retirement, and PLLs.
-/

namespace Sys2Proof.Machine

open Reg Ob

/-! ## Bits of a written word -/

/-- A bit that a mask sets is set. -/
theorem natBit_or {w : Nat} {v m : BitVec w} {i : Nat} (h : m.getLsbD i = true) : natBit (v ||| m).toNat i = true := by
  simp only [natBit, BitVec.testBit_toNat, BitVec.getLsbD_or, h, Bool.or_true]

/-- A bit that a mask clears is clear. -/
theorem natBit_and {w : Nat} {v m : BitVec w} {i : Nat} (h : m.getLsbD i = false) : natBit (v &&& m).toNat i = false := by
  simp only [natBit, BitVec.testBit_toNat, BitVec.getLsbD_and, h, Bool.and_false]

/-! ## What a lane holds -/

@[simp] theorem State.lane_setLane (s : State) (n : Nat) (x : Lane) : (s.setLane n x).lane n = x := by
  simp [State.lane, State.setLane]

@[simp] theorem State.setLane_setLane (s : State) (n : Nat) (x y : Lane) : (s.setLane n x).setLane n y = s.setLane n y := by
  simp [State.setLane, Tab.set_set]

@[simp] theorem State.rf_setLane (s : State) (n : Nat) (x : Lane) (f : Fld) (i : Nat) : (s.setLane n x).rf f i = s.rf f i := rfl

@[simp] theorem State.bit_setLane (s : State) (n : Nat) (x : Lane) (f : Fld) (i : Nat) : (s.setLane n x).bit f i = s.bit f i := rfl

/-- What a lane holds reads only the part of lanes. -/
theorem State.lane_congr {s t : State} (h : t.lanes = s.lanes) (n : Nat) : t.lane n = s.lane n := by
  simp only [State.lane, h]

@[simp] theorem State.lane_sf (s : State) (f : Fld) (i v n : Nat) : (s.sf f i v).lane n = s.lane n := rfl

theorem State.inLane_of {s : State} {n st : Nat} (f : State → State) (he : s.bit LANE_CTRL_ENABLE n = true)
    (hst : s.laneState n = st) : s.inLane n st f = f s := by
  simp [State.inLane, he, hst]

/-- Requests that take effect write the two power states alone. -/
theorem State.rf_applyDeferred (s : State) (n : Nat) {f : Fld} (i : Nat)
    (ht : LANE_STATE_TX_PWR_NOW.id % 1024 ≠ f.id % 1024) (hr : LANE_STATE_RX_PWR_NOW.id % 1024 ≠ f.id % 1024) :
    (s.applyDeferred n).rf f i = s.rf f i := by
  unfold State.applyDeferred
  dsimp only
  repeat' split
  all_goals simp only [State.rf_setLane, State.rf_sf_other _ _ _ _ ht, State.rf_sf_other _ _ _ _ hr]

/-! ## Writes of a lane's registers (R306, R315, R316, R322) -/

section
variable {s : State} {u n v : Nat} (hmay : s.mayWriteLane u n = true) (hup : s.die.variant.lanePresent n = true)
include hmay hup

/-- The power fields of a write are ignored on a lane of a link that is up, and ask for nothing where they name the present requests. -/
theorem State.writeLaneCtrl_of_off {x : State} (frozen : Bool) (hoff : s.bit LANE_CTRL_ENABLE n = false)
    (hx : x = ((((((s.sf LANE_CTRL_PLL_SEL n (v / 2 ^ 30)).sf LANE_CTRL_MODE n (v / 2 ^ 28)).sf LANE_CTRL_LOOP n (v / 2 ^ 26)).sf
      LANE_CTRL_TRAIN_EN n (v / 2 ^ 25)).sf LANE_CTRL_POL_TX n (v / 2 ^ 24)).sf LANE_CTRL_POL_RX n (v / 2 ^ 23)).sf
      LANE_CTRL_PRECODE n (v / 2 ^ 22))
    (hpower : x.seamActive n = true ∨ (v / 2 ^ 20 % 4 = x.rf LANE_CTRL_TX_PWR n ∧ v / 2 ^ 18 % 4 = x.rf LANE_CTRL_RX_PWR n))
    (hon : natBit v 31 = true) :
    s.writeLaneCtrl u n v frozen
      = if x.laneEnableOk n then (x.sf LANE_CTRL_ENABLE n 1).enterLane n laneCal else x.laneEvent n 0x04 := by
  have hkeep : (if x.seamActive n then x else
      let t := if v / 2 ^ 20 % 4 = x.rf LANE_CTRL_TX_PWR n then x else x.requestPower n true (v / 2 ^ 20 % 4) frozen
      if v / 2 ^ 18 % 4 = t.rf LANE_CTRL_RX_PWR n then t else t.requestPower n false (v / 2 ^ 18 % 4) frozen) = x := by
    rcases hpower with h | ⟨htx, hrx⟩
    · rw [if_pos h]
    · simp only [if_pos htx, if_pos hrx, ite_self]
  simp only [State.writeLaneCtrl, hmay, hup, hoff, hon, ← hx, hkeep, Bool.not_true, Bool.or_self, if_false, Bool.false_eq_true]

theorem State.writeLaneCtrl_disable (frozen : Bool) (hon : s.bit LANE_CTRL_ENABLE n = true) (hv : natBit v 31 = false)
    (hseam : (s.disableLane n).seamActive n = true) : s.writeLaneCtrl u n v frozen = s.disableLane n := by
  simp [State.writeLaneCtrl, hmay, hup, hon, hv, hseam]

theorem State.writeLaneCtrl_retrain (frozen : Bool) (hon : s.bit LANE_CTRL_ENABLE n = true) (hv : natBit v 31 = true)
    (hretrain : natBit v 17 = true) (hseam : s.seamActive n = true) :
    s.writeLaneCtrl u n v frozen = (s.sf LANE_STATE_LOS n 0).enterLane n laneAdapt := by
  simp [State.writeLaneCtrl, hmay, hup, hon, hv, hretrain, hseam]

/-- A write that leaves the generator and the checker as they are changes the enables and patterns alone, and injects an error. -/
theorem State.writeLaneTest_inject {y : State} (hy : y = (((s.sf LANE_TEST_GEN_PAT n (v / 2 ^ 28)).sf LANE_TEST_CHK_PAT n
      (v / 2 ^ 24)).sf LANE_TEST_GEN_EN n (v / 2 ^ 23)).sf LANE_TEST_CHK_EN n (v / 2 ^ 22))
    (hgp : s.rf LANE_TEST_GEN_PAT n = v / 2 ^ 28 % 16) (hge : s.bit LANE_TEST_GEN_EN n = natBit v 23)
    (hcp : s.rf LANE_TEST_CHK_PAT n = v / 2 ^ 24 % 16) (hce : natBit v 22 = true) (hinject : natBit v 20 = true) :
    s.writeLaneTest u n v
      = if y.laneState n = laneTest ∧ (y.rf LANE_CTRL_LOOP n = 1 ∨ y.rf LANE_CTRL_LOOP n = 2) then
          y.setLane n { y.lane n with inject := true } else y.send (.laneInvert n) := by
  simp only [State.writeLaneTest, hmay, hup, hgp, hge, hcp, hce, hinject, ← hy, Bool.not_true, Bool.or_self, Bool.and_self,
    beq_self_eq_true, if_true, if_false, Bool.false_eq_true]

end

/-- A request for STANDBY of the transmitter, both directions ACTIVE before it, takes effect. -/
theorem State.writeLaneCtrl_standby {s : State} {u n : Nat} (hmay : s.mayWriteLane u n = true)
    (hup : s.die.variant.lanePresent n = true) (hon : s.bit LANE_CTRL_ENABLE n = true) (hseam : s.seamActive n = false)
    (htx : s.rf LANE_CTRL_TX_PWR n = 0) (hrx : s.rf LANE_CTRL_RX_PWR n = 0) :
    s.writeLaneCtrl u n 0x80100000 false = (s.sf LANE_CTRL_TX_PWR n 1).applyDeferred n := by
  have hrx' : ((s.sf LANE_CTRL_TX_PWR n 1).applyDeferred n).rf LANE_CTRL_RX_PWR n = 0 := by
    rw [State.rf_applyDeferred _ _ _ (by decide) (by decide), State.rf_sf_other _ _ _ _ (by decide), hrx]
  have h31 : natBit 0x80100000 31 = true := by decide
  have h17 : natBit 0x80100000 17 = false := by decide
  simp [State.writeLaneCtrl, State.requestPower, hmay, hup, hon, hseam, htx, hrx', h31, h17]

/-! ## What happens on a lane -/

section
variable {s : State} {n : Nat}

theorem exec_laneTrainingDone_of_ready (hst : s.laneState n = laneTraining) (he : s.bit LANE_CTRL_ENABLE n = true)
    (hfar : (s.lane n).farReady = true) (hsent : 3 ≤ (s.lane n).readySent) :
    exec (.laneTrainingDone n) s = .next ((s.sendTraining n true).enterLane n laneAligning) := by
  simp only [exec_laneTrainingDone, execLaneTrainingDone, State.inLane_of _ he hst, hfar, hsent, decide_true, Bool.and_self,
    if_true]

@[simp] theorem State.lane_sendTraining (s : State) (n : Nat) (last : Bool) (k : Nat) : (s.sendTraining n last).lane k = s.lane k := rfl

/-- A receiver that is ready and asks for nothing keeps what it sends (R310). -/
theorem State.stepRequest_of_hold (status : Nat) (h : (s.lane n).control = 1) : s.stepRequest n status = s := by
  have hasks : laneAsks 1 = false := by decide
  simp only [State.stepRequest, h, hasks, or_true, if_true, if_false, Bool.false_eq_true]

/-- The third frame in a row with a preset's control value has the preset taken up and acknowledged (R310). -/
theorem State.trainFrame_of_preset {preset : Nat} {x : Lane} {y : State} (status : BitVec 16) (h1 : 1 ≤ preset) (h4 : preset ≤ 4)
    (hresult : (s.lane n).result = 0) (hheard : (s.lane n).heard = preset * 2 ^ 13) (htwice : (s.lane n).heardFor = 2)
    (hcontrol : (s.lane n).control = 1) (hx : x = { s.lane n with heardFor := 3, readySent := (s.lane n).readySent + 1 })
    (hy : y = s.setLane n x) :
    s.trainFrame n (BitVec.ofNat 16 (preset * 2 ^ 13), status)
      = ((y.setTaps n (lanePreset preset)).setLane n { x with farReady := false, ack := preset, tap := 0, result := 1 }).sendTraining
          n false := by
  have hc : (BitVec.ofNat 16 (preset * 2 ^ 13)).toNat = preset * 2 ^ 13 := by rw [BitVec.toNat_ofNat]; omega
  have hpreset : preset * 2 ^ 13 / 2 ^ 13 = preset := by omega
  have htap : preset * 2 ^ 13 / 2 ^ 10 % 8 = 0 := by omega
  have hcmd : preset * 2 ^ 13 / 2 ^ 8 % 4 = 0 := by omega
  have hfar : natBit (preset * 2 ^ 13) 0 = false := by simp [natBit]; omega
  have hanswer : trainingAnswer (y.txTaps n) preset 0 0 = (preset, 1, lanePreset preset) := by
    simp only [trainingAnswer]
    rw [if_neg (by omega), if_pos (by omega)]
  have hheard' : y = s.setLane n { s.lane n with heard := preset * 2 ^ 13, heardFor := 3, readySent := (s.lane n).readySent + 1 } := by
    rw [hy, hx, ← hheard]
  have haccept : y.acceptControl n (preset * 2 ^ 13)
      = ((y.setTaps n (lanePreset preset)).setLane n { x with farReady := false, ack := preset, tap := 0, result := 1 }).sendTraining
          n false := by
    have hlane : y.lane n = x := by rw [hy, State.lane_setLane]
    have hr : x.result = 0 := by rw [hx]; exact hresult
    simp only [State.acceptControl, hpreset, htap, hcmd, hfar, hlane, hr, hanswer]
    rw [if_neg (by omega)]
    simp
  have hcontrol' : x.control = 1 := by rw [hx]; exact hcontrol
  have hframe : s.trainFrame n (BitVec.ofNat 16 (preset * 2 ^ 13), status)
      = (y.acceptControl n (preset * 2 ^ 13)).stepRequest n status.toNat := by
    simp only [State.trainFrame, hc, hheard, htwice, hcontrol, if_true, hheard']
  rw [hframe, haccept]
  refine State.stepRequest_of_hold _ ?_
  rw [State.lane_sendTraining, State.lane_setLane]
  exact hcontrol'

/-- Words in the buffer of a far-end loop: within its 64 words nothing slips (R315). -/
theorem exec_loopbackSlip_of_test {drift w : Int} {y : State} (hst : s.laneState n = laneTest)
    (he : s.bit LANE_CTRL_ENABLE n = true) (hloop : s.rf LANE_CTRL_LOOP n = 3) (hw : w = (s.lane n).loopWords + drift)
    (hy : y = s.setLane n { s.lane n with loopWords := (max 0 (min w 64)).toNat }) :
    exec (.loopbackSlip ⟨n, drift⟩) s = .next (if w < 0 ∨ 64 < w then y.laneEvent n 0x06 else y) := by
  simp only [exec_loopbackSlip, execLoopbackSlip, State.inLane_of _ he hst, hloop, ne_eq, not_true_eq_false, if_false, ← hw, ← hy]

/-- What a receiver in ALIGNING takes goes through the lane's search (R312 to R314). -/
theorem exec_laneAligned_of_hears {input : LineInput} {y : State} (he : s.bit LANE_CTRL_ENABLE n = true)
    (hst : s.laneState n = laneAligning) (hhears : s.laneHears n = true) (hfits : inputFits (s.laneRate n) input = true)
    (hy : y = s.setLane n { s.lane n with search := (s.lane n).search.seek input }) :
    exec (.laneAligned ⟨n, input⟩) s = .next (if (y.lane n).search.aligned then y.enterLane n laneUp else y) := by
  simp only [exec_laneAligned, execLaneAligned, State.inLane_of _ he hst, hhears, hfits, ← hy, Bool.not_true, Bool.or_self,
    if_false, Bool.false_eq_true]

/-- What a receiver that is UP takes is watched for its loss of alignment (R314). -/
theorem exec_laneAlignLost_of_hears {input : LineInput} {y : State} (he : s.bit LANE_CTRL_ENABLE n = true)
    (hst : s.laneState n = laneUp) (hhears : s.laneHears n = true) (hfits : inputFits (s.laneRate n) input = true)
    (hy : y = s.setLane n { s.lane n with search := (s.lane n).search.watch input }) :
    exec (.laneAlignLost ⟨n, input⟩) s = .next (if (y.lane n).search.lost then
      (((y.enterLane n laneAligning).incf LANE_ALIGN_LOSS_COUNT n).laneEvent n 0x02).laneFailure n else y) := by
  simp only [exec_laneAlignLost, execLaneAlignLost, State.inLane_of _ he hst, hhears, hfits, ← hy, Bool.not_true, Bool.or_self,
    if_false, Bool.false_eq_true]

end

/-! ## PLLs (R321) -/

/-- A permitted enable of PLL A of a quad with a lane here, at a rate that one of its lanes allows and without spread, locks at once. -/
theorem State.writePll_enable {s x : State} {u k i : Nat} (hu : isThimble u = true ∨ isPf0 u = true)
    (hup : (quadLanes k).any s.die.variant.lanePresent = true) (hoff : s.bit LQ_PLL_A_ENABLE k = false) (hon : natBit i 31 = true)
    (hx : x = (s.sf LQ_PLL_A_RATE k (i / 2 ^ 16)).sf LQ_PLL_A_SPREAD_PPM k i) (hspread : x.rf LQ_PLL_A_SPREAD_PPM k = 0)
    (hrate : (quadLanes k).any (fun n => x.rateAllowed n (x.rf LQ_PLL_A_RATE k)) = true) :
    s.writePll u k false i = (x.sf LQ_PLL_A_ENABLE k 1).sf LQ_PLL_A_LOCKED k 1 := by
  have hmay : (isThimble u || isPf0 u || (quadLanes k).any (fun n => s.mayWriteLane u n)) = true := by
    rcases hu with h | h <;> simp [h]
  have hfields : pllFields false = ⟨LQ_PLL_A_ENABLE, LQ_PLL_A_LOCKED, LQ_PLL_A_RATE, LQ_PLL_A_SPREAD_PPM⟩ := rfl
  simp only [State.writePll, hfields, hmay, hup, hoff, hon, ← hx, hspread, hrate, Bool.not_true, Bool.or_self, Bool.and_self,
    Bool.true_or, beq_self_eq_true, Nat.zero_le, decide_true, if_true, if_false, Bool.false_eq_true]

/-! ## The obligation -/

/-- Settles O34, command by command. That a PLL locks at its enable and that a power change is atomic are the model's (log entry 120). -/
theorem laneCommandsComplete : Obligations.LaneCommandsComplete := by
  refine ⟨fun s x u n k v hrun hmay hup => ⟨fun hoff hk hx hpower => ?enable, fun hon hseam hseam' => ?disable,
      fun hon hseam hv => ?retrain, fun hon hseam htx hrx => ?standby, fun y hk hy hgp hge hcp hce => ?inject⟩,
    fun s n eye he => ⟨fun hst => ?calDone, fun hst x hx => ?adaptDone, fun hst => ⟨exec_laneTrainingDone_of_ready hst he,
      fun hdue => ?trainTimeout, fun preset x y st h1 h4 hresult hheard htwice hcontrol hx hy => ?trainingRequest⟩,
      fun hst hdue => ?failedRetry, fun input y hhears hfits => ⟨fun hst hy => ?aligned, fun hst hy => ?alignLost⟩,
      fun harmed => ?los, fun hlos => ?signalReturn, fun hst hloop drift w y hw hy => ?slip,
      fun hchk hpat line inverted l looped t r hl hr => ?checker⟩,
    fun s n => ⟨fun hreq hnow => ?wakeTx, fun hreq hnow => ?wakeRx, rfl, fun hn => ?retire, rfl⟩,
    fun s x u k i v hrun hu hup hoff hi hx hspread hrate => ?pllEnable, fun s k hon hlocked => ?pllLost⟩
  case enable =>
    subst hk
    rw [exec_laneEnable, execLaneEnable, State.atIsland_runs u _ hrun,
      State.writeLaneCtrl_of_off hmay hup true hoff hx hpower (natBit_or rfl)]
    exact ⟨fun hok => by rw [if_pos hok], fun hbad => by rw [hbad]; rfl⟩
  case disable =>
    rw [exec_laneDisable, execLaneDisable, State.atIsland_runs u _ hrun,
      State.writeLaneCtrl_disable hmay hup true hon (natBit_and rfl) hseam']
  case retrain =>
    have hv' : natBit (v ||| 0x20000).toNat 31 = true := by
      simp only [natBit, BitVec.testBit_toNat, BitVec.getLsbD_or] at hv ⊢
      rw [hv, Bool.true_or]
    rw [exec_laneRetrain, execLaneRetrain, State.atIsland_runs u _ hrun,
      State.writeLaneCtrl_retrain hmay hup true hon hv' (natBit_or rfl) hseam]
  case standby =>
    rw [exec_lanePowerRequest, execLanePowerRequest, State.atIsland_runs u _ hrun]
    exact congrArg _ (State.writeLaneCtrl_standby hmay hup hon hseam htx hrx)
  case inject =>
    subst hk
    rw [exec_laneInject, execLaneInject, State.atIsland_runs u _ hrun,
      State.writeLaneTest_inject hmay hup hy hgp hge hcp hce (natBit_or rfl)]
    refine ⟨fun hst hloop => by rw [if_pos ⟨hst, hloop⟩], fun hno => by rw [if_neg]; omega⟩
  case calDone => rw [exec_laneCalDone, execLaneCalDone, State.inLane_of _ he hst]
  case adaptDone =>
    rw [exec_laneAdaptDone, execLaneAdaptDone, State.inLane_of _ he hst, ← hx]
    exact ⟨fun hmode => by rw [if_pos hmode], fun hmode htrain => by rw [if_neg hmode, if_pos htrain]; rfl,
      fun hmode htrain => by rw [if_neg hmode, htrain]; rfl⟩
  case trainTimeout => rw [exec_laneTrainTimeout, execLaneTrainTimeout, State.inLane_of _ he hst, if_pos hdue]
  case trainingRequest =>
    rw [exec_trainingRequestAccept, execTrainingRequestAccept, State.inLane_of _ he hst]
    exact congrArg _ (State.trainFrame_of_preset st h1 h4 hresult hheard htwice hcontrol hx hy)
  case failedRetry => rw [exec_laneFailedRetry, execLaneFailedRetry, State.inLane_of _ he hst, if_pos hdue]
  case aligned =>
    rw [exec_laneAligned_of_hears he hst hhears hfits hy]
    exact ⟨fun h => by rw [if_pos h], fun h => by rw [h]; rfl⟩
  case alignLost =>
    rw [exec_laneAlignLost_of_hears he hst hhears hfits hy]
    exact ⟨fun h => by rw [if_pos h], fun h => by rw [h]; rfl⟩
  case los => rw [exec_laneLos, execLaneLos, if_pos harmed]
  case signalReturn => rw [exec_laneSignalReturn, execLaneSignalReturn, he, hlos]; rfl
  case slip =>
    rw [exec_loopbackSlip_of_test hst he hloop hw hy]
    exact ⟨fun h0 h64 => by rw [if_neg (by omega)], fun hslip => by rw [if_pos hslip]⟩
  case checker =>
    subst hr
    simp only [exec_checkerLock, execCheckerLock, he, hchk, hpat, hl, decide_true, Bool.and_self, if_true]
    rfl
  case wakeTx => simp [exec_lanePowerWakeDone, execLanePowerWakeDone, hreq, hnow]
  case wakeRx => simp [exec_lanePowerWakeDone, execLanePowerWakeDone, hreq, hnow]
  case retire => rw [exec_lanesRetireCommand, execLanesRetireCommand, if_pos hn]
  case pllEnable =>
    rw [exec_pllEnable, execPllEnable, State.atIsland_runs u _ hrun, ← hi,
      State.writePll_enable hu hup hoff (by rw [hi]; exact natBit_or rfl) hx hspread hrate]
  case pllLost =>
    have hfields : pllFields false = ⟨LQ_PLL_A_ENABLE, LQ_PLL_A_LOCKED, LQ_PLL_A_RATE, LQ_PLL_A_SPREAD_PPM⟩ := rfl
    simp only [exec_pllLockLost, execPllLockLost, hfields, hon, hlocked, Bool.and_self, if_true]

end Sys2Proof.Machine
end

section
/-!
PROOFS. Fronthaul ports and streams (R326 to R342) and CPRI links (R344 to R351): enables, received frames, stream-table commands, uplink
and downlink symbols, and basic frames.
-/

namespace Sys2Proof.Machine

open Reg Ob

/-! ## Ports (R326) -/

/-- A permitted write of a port that is off, with a valid MTU and ENABLE 1, takes its fields and enables it where they are valid. -/
theorem State.writePortCtrl_of_off {s x : State} {u p v : Nat} (hu : isThimble u = true ∨ isPf0 u = true) (hp : p < 48)
    (hup : s.die.variant.lanePresent p = true) (hoff : s.bit FH_PORT_CTRL_ENABLE p = false) (hon : natBit v 31 = true)
    (hmin : 1500 ≤ v / 2 ^ 11 % 2 ^ 14) (hmax : v / 2 ^ 11 % 2 ^ 14 ≤ 9194)
    (hx : x = (((s.sf FH_PORT_CTRL_SPEED p (v / 2 ^ 28)).sf FH_PORT_CTRL_LANES p (v / 2 ^ 26)).sf FH_PORT_CTRL_FEC p
      (v / 2 ^ 25)).sf FH_PORT_CTRL_MTU p (v / 2 ^ 11 % 2 ^ 14)) :
    s.writePortCtrl u p v
      = if x.portValid p then (x.sf FH_PORT_CTRL_ENABLE p 1).refreshPort p 0x01 else x.portEvent p 0x03 := by
  have hmay : (isThimble u || isPf0 u) = true := by simpa using hu
  have hpresent : decide (48 ≤ p) = false := decide_eq_false (Nat.not_le.mpr hp)
  simp only [State.writePortCtrl, hmay, hpresent, hup, hoff, hon, if_pos (And.intro hmin hmax), ← hx, Bool.not_true, Bool.or_self,
    if_false, Bool.false_eq_true]

/-! ## Received frames (R327) -/

section
variable {s x : State} {p sub n : Nat} {l : List Byte} (hn : n = l.length)
include hn

theorem State.receiveFrame_of_badFcs (hfcs : l.drop (n - 4) ≠ ethernetFcs (l.take (n - 4))) :
    s.receiveFrame p sub l = s.incf FH_RX_FCS_ERR_COUNT p := by
  subst hn
  simp only [State.receiveFrame, if_pos hfcs]

variable (hx : x = (s.incf FH_RX_FRAMES_COUNT p).incf FH_RX_BYTES_COUNT p n)
  (hfcs : l.drop (n - 4) = ethernetFcs (l.take (n - 4))) (hroom : x.ingressBytes p + n ≤ 262144)
include hx hfcs hroom

theorem State.receiveFrame_of_short (hshort : n < 64) : s.receiveFrame p sub l = x.incf FH_RX_OTHER_COUNT p := by
  subst hn
  simp only [State.receiveFrame, ne_eq, hfcs, not_true_eq_false, if_false, ← hx, if_neg (Nat.not_lt.mpr hroom),
    if_pos (Or.inl hshort)]

theorem State.receiveFrame_of_ptp (hlong : 64 ≤ n) (hmtu : n ≤ x.rf FH_PORT_CTRL_MTU p + 22)
    (htype : (parseFrame l).ethertype = 0x88F7) (hport : natBit (x.ob oTIME_PTP_PORT_MASK) p = true) :
    s.receiveFrame p sub l = x.send (.thimbleFrame p (x.stamp FH_PORT_RX_CORR_PS p sub) l) := by
  subst hn
  have htag : isTag 0x88F7 = false := by decide
  have hother : ¬(l.length < 64 ∨ x.rf FH_PORT_CTRL_MTU p + 22 < l.length ∨ isTag (parseFrame l).ethertype = true) := by
    rw [htype, htag]
    simp only [Bool.false_eq_true, or_false]
    omega
  simp only [State.receiveFrame, ne_eq, hfcs, not_true_eq_false, if_false, ← hx, if_neg (Nat.not_lt.mpr hroom), if_neg hother]
  rw [if_pos ⟨htype, hport⟩]

end

/-- On a port that hears, a frame that nothing stalls is handled, its FEC's report counted first. -/
theorem exec_frameReceive_of_hears {s z : State} {p uc : Nat} {l : List Byte} (sub : Nat) (hhears : s.portHears p = true)
    (hstop : s.frameStops p l = none) (hz : z = (if s.bit FH_PORT_CTRL_FEC p then s.incf FH_FEC_UNCORR_COUNT p uc else s)) :
    exec (.frameReceive p sub ⟨l, uc⟩) s = .next (z.receiveFrame p (sub % 16) l) := by
  simp only [exec_frameReceive, execFrameReceive, hhears, hstop, ← hz, Bool.not_true, if_false, Bool.false_eq_true]

/-! ## Stream-table commands (R336, R350) -/

section
variable {s x : State} {u p i : Nat} (hmay : s.mayWritePart u p = true) (hi : i < 2 ^ 15)
include hmay hi

/-- A write of FH_ST_CMD with OP 1 writes the staged words where they may stand, and ends with its status. -/
theorem State.writeStCmd_write (hx : x = (s.sf FH_ST_CMD_INDEX p i).sf FH_ST_CMD_OP p 1) :
    s.writeStCmd u p (2 ^ 15 + i % 2 ^ 15)
      = (if x.stWriteStatus p i = 0 then x.setSt i (x.stagedEntry p) else x).stDone p (x.stWriteStatus p i) := by
  have hindex : (2 ^ 15 + i % 2 ^ 15) % 2 ^ 15 = i := by omega
  have hop : (2 ^ 15 + i % 2 ^ 15) / 2 ^ 15 % 4 = 1 := by omega
  simp only [State.writeStCmd, hmay, hindex, hop, ← hx, Bool.not_true, if_false, Bool.false_eq_true]

/-- A write of FH_ST_CMD with OP 2 reads an entry of the partition. -/
theorem State.writeStCmd_read (hx : x = (s.sf FH_ST_CMD_INDEX p i).sf FH_ST_CMD_OP p 2) :
    s.writeStCmd u p (2 * 2 ^ 15 + i % 2 ^ 15)
      = if x.entryOwner i ≠ some p then x.stDone p 1 else
          ((((x.sf FH_ST_DATA0_W p (x.st i).w0).sf FH_ST_DATA1_W p (x.st i).w1).sf FH_ST_DATA2_W p (x.st i).w2).sf FH_ST_DATA3_W p
            (x.st i).w3).stDone p 0 := by
  have hindex : (2 * 2 ^ 15 + i % 2 ^ 15) % 2 ^ 15 = i := by omega
  have hop : (2 * 2 ^ 15 + i % 2 ^ 15) / 2 ^ 15 % 4 = 2 := by omega
  simp only [State.writeStCmd, hmay, hindex, hop, ← hx, Bool.not_true, if_false, Bool.false_eq_true]

/-- A write of FH_ST_CMD with OP 3 invalidates an entry of the partition and abandons its symbols. -/
theorem State.writeStCmd_invalidate (hx : x = (s.sf FH_ST_CMD_INDEX p i).sf FH_ST_CMD_OP p 3) :
    s.writeStCmd u p (3 * 2 ^ 15 + i % 2 ^ 15)
      = if x.entryOwner i ≠ some p then x.stDone p 1 else
          ((x.abandonSymbols i).setSt i { (x.abandonSymbols i).st i with w0 := ((x.abandonSymbols i).st i).w0 % 2 ^ 63 }).stDone p 0 := by
  have hindex : (3 * 2 ^ 15 + i % 2 ^ 15) % 2 ^ 15 = i := by omega
  have hop : (3 * 2 ^ 15 + i % 2 ^ 15) / 2 ^ 15 % 4 = 3 := by omega
  simp only [State.writeStCmd, hmay, hindex, hop, ← hx, Bool.not_true, if_false, Bool.false_eq_true]

end

theorem State.stDone_zero (s : State) (p : Nat) : s.stDone p 0 = s.sf FH_ST_CMD_STATUS p 0 := by
  rw [State.stDone, if_pos rfl]

theorem State.stDone_of_ne {k : Nat} (s : State) (p : Nat) (hk : k ≠ 0) :
    s.stDone p k = (s.sf FH_ST_CMD_STATUS p k).raise (0x08B8 + p) := if_neg hk

/-! ## Symbols (R340, R342) -/

section
variable {s t x : State} {p i : Nat} {e : List Carried}

/-- A symbol whose window has ended closes: zeros for its missing PRBs, and its record. -/
theorem State.closeSymbol_of_open {y : UpSymbol} {missing : List Nat}
    (hy : s.fh.ups.find? (fun y => y.entry == i && decide (y.close ≤ s.fhTick)) = some y) (hopen : y.closed = false)
    (hx : x = s.setFh { s.fh with ups := s.fh.ups.erase y })
    (hmissing : missing = ((List.range (x.st i).nprb).map (fun n => (x.st i).prbStart + n)).filter (fun n => !y.prbs.contains n))
    (hstops : missing.findSome? (fun n => x.accessStops (portUnit (x.st i).port) ((x.st i).prbAddr y.slot y.sym n) 48) = none) :
    s.closeSymbol i = (missing.foldl (fun t n => (t.writeBytes ((x.st i).prbAddr y.slot y.sym n)
      (portUnit (x.st i).port) (List.replicate 48 0)).2) x).pushSymbol y missing.length false := by
  simp only [State.closeSymbol, hy, ← hx, hopen, ← hmissing, hstops, if_false, Bool.false_eq_true]

/-- The entry at the head of TXQ_C that is due, with no symbol due before it, is popped (R342). -/
theorem exec_cplaneSend_of_due {since : Nat} (hsends : s.portSends p = true) (hheld : Tab.get none s.fh.held p = none)
    (hdue : s.cplaneDue p = some since) (hfirst : ∀ d, s.nextDown p = some d → s.downSince d ≤ since)
    (hpop : s.popQueue (s.rf FH_PORT_QUEUES_TXQ_C p) (portUnit p) = (.entry e, t)) :
    exec (.cplaneSend p) s = .next (if since = 0 then t.sendCplane p e else t.incf FH_TX_LATE_COUNT p) := by
  have hnone : (s.nextDown p).any (fun d => decide ((since : Int) < s.downSince d)) = false := by
    cases hd : s.nextDown p with
    | none => rfl
    | some d => exact decide_eq_false (Int.not_lt.mpr (hfirst d hd))
  simp only [exec_cplaneSend, execCplaneSend, hsends, hheld, hdue, hnone, hpop, Bool.not_true, if_false, Bool.false_eq_true]

/-- A request whose entry is not a valid one of the port is refused (R342). -/
theorem State.downlinkRequest_of_bad (hx : (s.st (fieldAt (carriedBytes e) 0 2)).valid = false
    ∨ (s.st (fieldAt (carriedBytes e) 0 2)).port ≠ p) : s.downlinkRequest p e = s.refuseTx p := by
  unfold State.downlinkRequest
  rcases hx with h | h
  · simp [h]
  · simp [bne_iff_ne.mpr h]

/-- A good request has its symbols scheduled, those already late only counted (R342). -/
theorem State.downlinkRequest_of_good {x : StEntry} {n : Numerology} {frame : Nat} (hi : i = fieldAt (carriedBytes e) 0 2)
    (hx : x = s.st i) (hclean : (e.take 7).all Option.isSome = true) (hlt : i < 32768) (hvalid : x.valid = true) (hdir : x.dir = 1)
    (hport : x.port = p) (hmask : fieldAt (carriedBytes e) 2 2 < 16384)
    (hzero : (((carriedBytes e).drop 7).take 49).all (fun b => b == 0) = true) (hn : n = s.carNum x.carrier)
    (hslot : fieldAt (carriedBytes e) 6 1 < 20 * n.perHalf / n.perSlot)
    (hframe : frame = (((s.carRel x.carrier s.fhTick / frameTicks : Nat) : Int)
        + toSigned 10 ((fieldAt (carriedBytes e) 4 2 % 1024 + 1024 - s.carRel x.carrier s.fhTick / frameTicks % 1024)
          % 1024)).toNat) :
    s.downlinkRequest p e = ((bitsSet 14 (fieldAt (carriedBytes e) 2 2)).filter (fun m => decide (m < n.perSlot))).foldl (fun s m =>
      let start := s.carTick x.carrier (n.symbolTick (frame * (20 * n.perHalf) + fieldAt (carriedBytes e) 6 1 * n.perSlot + m))
      if start < s.fhTick + x.winLate then s.incf FH_TX_LATE_COUNT p
      else s.setFh { s.fh with downs := s.fh.downs ++ [⟨p, i, frame % 1024, fieldAt (carriedBytes e) 6 1, m, start⟩] }) s := by
  have hgood : (!(e.take 7).all Option.isSome || decide (32768 ≤ i) || !x.valid || x.dir != 1 || x.port != p
      || decide (16384 ≤ fieldAt (carriedBytes e) 2 2) || !((carriedBytes e).drop 7 |>.take 49).all (fun b => b == 0)) = false := by
    simp only [hclean, hvalid, hdir, hport, hzero, decide_eq_false (Nat.not_le.mpr hlt), decide_eq_false (Nat.not_le.mpr hmask),
      bne_self_eq_false, Bool.not_true, Bool.or_self]
  simp only [State.downlinkRequest, ← hi, ← hx, hgood, ← hn, if_neg (Nat.not_le.mpr hslot), ← hframe, if_false, Bool.false_eq_true]

/-- The next symbol of a port whose window has opened, and that no entry of TXQ_C precedes (R342). -/
theorem exec_downlinkSymbolSend_of_next {d : DownSymbol} (hd : s.nextDown p = some d) (hsends : s.portSends p = true)
    (hheld : (Tab.get none s.fh.held p).isSome = false) (hfirst : ∀ since, s.cplaneDue p = some since → (since : Int) < s.downSince d)
    (hopen : d.start ≤ s.fhTick + (s.st d.entry).winEarly) :
    exec (.downlinkSymbolSend p) s = .next (match s.downStops d with
      | some i => s.stallOn i
      | none =>
        if d.start < s.fhTick + (s.st d.entry).winLate then
          (s.setFh { s.fh with downs := s.fh.downs.erase d }).incf FH_TX_LATE_COUNT p
        else if (s.st d.entry).valid && (s.st d.entry).dir == 1 then
          (s.setFh { s.fh with downs := s.fh.downs.erase d }).sendDown d
        else (s.setFh { s.fh with downs := s.fh.downs.erase d }).refuseTx p) := by
  have hnone : (s.cplaneDue p).any (fun since => decide (s.downSince d ≤ since)) = false := by
    cases hdue : s.cplaneDue p with
    | none => rfl
    | some since => exact decide_eq_false (Int.not_le.mpr (hfirst since hdue))
  have htick (x) : (s.setFh x).fhTick = s.fhTick := rfl
  cases hstops : s.downStops d <;>
    simp only [exec_downlinkSymbolSend, execDownlinkSymbolSend, hd, hsends, hheld, hnone, hstops, htick,
      decide_eq_false (Nat.not_lt.mpr hopen), Bool.not_true, Bool.or_self, if_false, Bool.false_eq_true]

end

/-! ## CPRI links (R344 to R346, R351) -/

section
variable {s : State} {n : Nat}

/-- A permitted enable of a CPRI lane that is off and allowed starts its link afresh. -/
theorem State.writeCpriCfg_enable {x : State} {u v : Nat} (hup : s.die.variant.lanePresent n = true)
    (hmay : s.mayWriteCpri u n = true) (hon : natBit v 31 = true)
    (hx : x = ((s.sf CPRI_CFG_L1_RESET n (v / 2 ^ 30)).sf CPRI_CFG_PVER n (v / 2 ^ 27)).sf CPRI_CFG_CARRIER n (v / 2 ^ 21))
    (hoff : x.bit CPRI_CFG_ENABLE n = false) (hallowed : x.cpriAllowed n = true) :
    s.writeCpriCfg u n v = (x.sf CPRI_CFG_ENABLE n 1).setCpri n { Cpri.idle with last := x.tb.count } := by
  simp only [State.writeCpriCfg, hmay, hup, hon, ← hx, hoff, hallowed, Bool.not_true, Bool.or_self, if_true, if_false,
    Bool.false_eq_true]

/-- A basic frame received without credit waits while fewer than 64 do, and is lost otherwise. -/
theorem exec_cpriBasicFrameRx_of_synchronised {x hfn bfn : Nat} {ctl iq : List Byte} {e : List (List Byte)} (credit : Bool)
    (hon : s.bit CPRI_CFG_ENABLE n = true) (hsync : s.bit CPRI_STATE_HFSYNC n = true) (hhears : s.laneHearsData n = true)
    (he : e = cpriEntries x hfn bfn (if cpriTerminated x then ctl.drop 1 else ctl) iq) :
    exec (.cpriBasicFrameRx n x hfn bfn ctl iq credit) s = .next (
      if credit && s.framingRuns n then ((s.cpri n).waiting ++ [e]).foldl
        (fun t w => t.send (.cpriPatch n w)) (s.setCpri n { s.cpri n with waiting := [] })
      else if (s.cpri n).waiting.length < 64 then s.setCpri n { s.cpri n with waiting := (s.cpri n).waiting ++ [e] }
      else (s.incf CPRI_RX_OVERFLOW_COUNT n).cpriEvent n 0x02) := by
  simp only [exec_cpriBasicFrameRx, execCpriBasicFrameRx, hon, hsync, hhears, ← he, Bool.not_true, Bool.or_self, if_false,
    Bool.false_eq_true]

/-- The basic frame whose send time has come goes out with what the running patch has supplied, or with zeros (R345, R346). -/
theorem exec_cpriBasicFrameTx_of_sends {supplied : Option (List Byte × List Byte)} {rel x w bfn hfn : Nat} {ctl iq : List Byte}
    (hon : s.bit CPRI_CFG_ENABLE n = true) (hsends : s.laneSendsData n = true)
    (hrel : rel = s.carRel (s.rf CPRI_CFG_CARRIER n) s.tb.count) (hbfn : bfn = (rel / frameTicks + 3072) % 4096)
    (hhfn : hfn = rel % frameTicks / 8192) (hx : x = rel % 8192 / 32) (hw : w = cpriWordBytes (s.laneRate n))
    (hdata : (if s.framingRuns n then supplied else none).getD (List.replicate w 0, List.replicate (15 * w) 0) = (ctl, iq)) :
    exec (.cpriBasicFrameTx n supplied) s = .next (
      let t := s.send (.cpriFrame n bfn hfn x ((if cpriTerminated x then s.cpriControl n x hfn bfn :: ctl.drop 1 else ctl) ++ iq))
      if (if s.framingRuns n then supplied else none).isSome then t
      else (t.incf CPRI_TX_UNDERRUN_COUNT n).cpriEvent n 0x03) := by
  simp only [exec_cpriBasicFrameTx, execCpriBasicFrameTx, hon, hsends, ← hrel, ← hbfn, ← hhfn, ← hx, ← hw, hdata, Bool.not_true,
    Bool.or_self, if_false, Bool.false_eq_true]

end

/-! ## The obligation -/

/-- Settles O35, command by command. The ingress level and stalled frames (log entry 125), the popped entry kept at the port (127), and
stream-table commands that act at once with their status order (128) are the model's. -/
theorem fronthaulCommandsComplete : Obligations.FronthaulCommandsComplete := by
  refine ⟨fun s x u p k v hrun hup hu hp hoff hk hmin hmax hx => ?enable, fun s p a b he => ?fault,
    fun s z x p sub n uc l hhears hn hz hx => ⟨fun i hstop => ?frameStall, fun hstop => ⟨fun hfcs => ?badFcs,
      fun hfcs hroom hshort => ?short, fun hfcs hroom hlong hmtu htype hport => ?ptp⟩⟩,
    fun s x u p i e hrun hmay hi => ⟨fun hx => ?stWrite, fun hx he => ?stRead, fun hx he => ?stInvalidate⟩,
    fun s x i y missing hy hopen hx hmissing hstops =>
      congrArg _ (State.closeSymbol_of_open hy hopen hx hmissing hstops),
    fun s t p since e hsends => ⟨fun hheld => ?held, fun hheld hdue hfirst hpop => ?cplane⟩,
    fun s t p i frame e x n hup hpop hi hx => ⟨fun hbad => ?refused,
      fun hclean hlt hvalid hdir hport hmask hzero hn hslot hframe => ?scheduled⟩,
    fun s x p d hd hsends hheld hfirst hopen hx => ?symbol,
    fun s x u n k v hrun hup hmay hk hx hoff hallowed => ?cpriEnable,
    fun s n c hon hc => ⟨fun sub hfn bfn rai hhears => ?hyperframe, fun hsync hgood => ?achieved, fun hsync hlate => ?lost,
      fun x hfn bfn ctl iq e hsync hhears he => ?received,
      fun rel x w bfn hfn ctl iq hrel hbfn hhfn hx hw hsends => ⟨fun hown hruns => ?sent, fun hown hruns => ?sentControl,
        fun hown => ?underrun⟩⟩⟩
  case enable =>
    subst hk
    rw [exec_fhPortEnable, execFhPortEnable, State.atIsland_runs u _ hrun,
      State.writePortCtrl_of_off hu hp hup hoff (natBit_or rfl) hmin hmax hx]
    exact ⟨fun hok => by rw [if_pos hok], fun hbad => by rw [hbad]; rfl⟩
  case fault => rw [exec_pcsRemoteFault, execPcsRemoteFault, if_pos he]
  case frameStall => simp only [exec_frameReceive, execFrameReceive, hhears, hstop, Bool.not_true, if_false, Bool.false_eq_true]
  case badFcs => rw [exec_frameReceive_of_hears sub hhears hstop hz, State.receiveFrame_of_badFcs hn hfcs]
  case short => rw [exec_frameReceive_of_hears sub hhears hstop hz, State.receiveFrame_of_short hn hx hfcs hroom hshort]
  case ptp =>
    rw [exec_frameReceive_of_hears sub hhears hstop hz,
      State.receiveFrame_of_ptp hn hx hfcs hroom hlong hmtu htype hport]
  case stWrite =>
    rw [exec_stWrite, execStWrite, State.atIsland_runs u _ hrun, State.writeStCmd_write hmay hi hx]
    refine ⟨fun h0 => by rw [if_pos h0, h0, State.stDone_zero], fun k hk => ?_⟩
    rw [hk, if_neg k.succ_ne_zero, State.stDone_of_ne x p k.succ_ne_zero]
  case stRead =>
    subst he
    rw [exec_stRead, execStRead, State.atIsland_runs u _ hrun, State.writeStCmd_read hmay hi hx]
    exact ⟨fun hown => by rw [if_neg (not_not.mpr hown), State.stDone_zero],
      fun hother => by rw [if_pos hother, State.stDone_of_ne x p Nat.one_ne_zero]⟩
  case stInvalidate =>
    subst he
    rw [exec_stInvalidate, execStInvalidate, State.atIsland_runs u _ hrun, State.writeStCmd_invalidate hmay hi hx]
    exact ⟨fun hown => by rw [if_neg (not_not.mpr hown), State.stDone_zero],
      fun hother => by rw [if_pos hother, State.stDone_of_ne x p Nat.one_ne_zero]⟩
  case held => simp only [exec_cplaneSend, execCplaneSend, hsends, hheld, Bool.not_true, if_false, Bool.false_eq_true]
  case cplane =>
    rw [exec_cplaneSend_of_due hsends hheld hdue hfirst hpop]
    exact ⟨fun h0 => by rw [if_pos h0], fun hne => by rw [if_neg hne]⟩
  case refused =>
    subst hi hx
    simp only [exec_downlinkRequest, execDownlinkRequest, hup, hpop, if_true, State.downlinkRequest_of_bad hbad]
  case scheduled =>
    simp only [exec_downlinkRequest, execDownlinkRequest, hup, hpop, if_true,
      State.downlinkRequest_of_good hi hx hclean hlt hvalid hdir hport hmask hzero hn hslot hframe]
  case symbol =>
    subst hx
    rw [exec_downlinkSymbolSend_of_next hd hsends hheld hfirst hopen]
    refine ⟨fun i hstop => by rw [hstop], fun hstop => ⟨fun hlate hvalid hdir => ?_, fun hlate => ?_⟩⟩
    · rw [hstop, hvalid, hdir]
      exact congrArg _ (if_neg (Nat.not_lt.mpr hlate))
    · rw [hstop]
      exact congrArg _ (if_pos hlate)
  case cpriEnable =>
    rw [exec_cpriEnable, execCpriEnable, State.atIsland_runs u _ hrun, ← hk,
      State.writeCpriCfg_enable hup hmay (by rw [hk]; exact natBit_or rfl) hx hoff hallowed]
  case hyperframe =>
    subst hc
    simp only [exec_cpriHyperframeRx, execCpriHyperframeRx, hon, hhears, Bool.not_true, Bool.or_self, if_false, Bool.false_eq_true]
    rfl
  case achieved =>
    subst hc
    simp only [exec_cpriHfsyncAchieved, execCpriHfsyncAchieved, hon, hsync, hgood, decide_true, Bool.not_false, Bool.and_self, if_true]
  case lost =>
    subst hc
    simp only [exec_cpriHfsyncLost, execCpriHfsyncLost, hon, hsync, hlate, decide_true, Bool.and_self, if_true]
  case received =>
    subst hc
    rw [exec_cpriBasicFrameRx_of_synchronised true hon hsync hhears he, exec_cpriBasicFrameRx_of_synchronised false hon hsync hhears he]
    exact ⟨fun hruns => by rw [hruns]; rfl, fun hroom => by rw [Bool.false_and, if_neg Bool.false_ne_true, if_pos hroom],
      fun hfull => by rw [Bool.false_and, if_neg Bool.false_ne_true, if_neg (Nat.not_lt.mpr hfull)]⟩
  case sent =>
    rw [exec_cpriBasicFrameTx_of_sends (ctl := ctl) (iq := iq) hon hsends hrel hbfn hhfn hx hw (by rw [if_pos hruns]; rfl)]
    simp only [hown, hruns, if_true, if_false, Option.isSome_some, Bool.false_eq_true]
  case sentControl =>
    rw [exec_cpriBasicFrameTx_of_sends (ctl := ctl) (iq := iq) hon hsends hrel hbfn hhfn hx hw (by rw [if_pos hruns]; rfl)]
    simp only [hown, hruns, if_true, Option.isSome_some, List.cons_append]
  case underrun =>
    rw [exec_cpriBasicFrameTx_of_sends (ctl := List.replicate w 0) (iq := List.replicate (15 * w) 0) hon hsends hrel hbfn hhfn hx hw
      (by rw [ite_self]; rfl)]
    simp only [hown, ite_self, if_false, Option.isSome_none, Bool.false_eq_true]

end Sys2Proof.Machine
end

section
/-!
PROOFS. Seam links (R305, R354 to R365, R370, R376, R380): enabling, codewords and blocks received, units sent, received, acknowledged and
replayed, and the power of a link's lanes.
-/

namespace Sys2Proof.Machine

open Reg Ob

@[simp] theorem State.slink_setLink (s : State) (l : Nat) (x : SeamLink) : (s.setLink l x).slink l = x := by
  simp [State.slink, State.setLink]

/-! ## Enabling and blocks received -/

section
variable {s x : State} {l : Nat}

/-- A permitted enable of a link that is off (R380). -/
theorem State.writeLinkCtrl_enable {u k : Nat} (hbolt : s.die.variant.boltMax ≠ 0) (hu : isThimble u = true ∨ isPf0 u = true)
    (hoff : s.bit SEAM_LINK_CTRL_ENABLE l = false) (hon : natBit k 31 = true) (hx : x = s.sf SEAM_LINK_CTRL_SLOT_MASK l k) :
    s.writeLinkCtrl u l k = if (bitsSet 8 k).all (fun j => x.slotUsable j && !x.slotTaken l j) then
        ((x.sf SEAM_LINK_CTRL_ENABLE l 1).sf SEAM_LINK_STATE_STATE l linkLanes).refreshLink l
      else x.linkEvent l 0x05 := by
  have hmay : (isThimble u || isPf0 u) = true := by simpa using hu
  simp only [State.writeLinkCtrl, hmay, beq_eq_false_iff_ne.mpr hbolt, hoff, hon, ← hx, Bool.not_true, Bool.or_self, if_false,
    Bool.false_eq_true]

section
variable {n : Nat} {e : Bool} {h : List (BitVec 80)} {drift w : Int} (hon : s.bit SEAM_LINK_CTRL_ENABLE l = true)
  (hlane : (s.linkLaneList l).contains n = true) (hhears : s.laneHearsData n = true)
  (hw : w = max (-16) (min 16 (Tab.get 0 (s.slink l).elastic n + drift)))
include hon hlane hhears hw

/-- A codeword that cannot be corrected moves the elastic buffer by its drift alone, and is counted. -/
theorem exec_seamCodewordReceive_of_bad (hx : x = s.setLink l { s.slink l with elastic := (s.slink l).elastic.set n w }) :
    exec (.seamCodewordReceive ⟨l, n⟩ e true ⟨h, drift⟩) s = .next (x.incf SEAM_CW_UNCORR_COUNT l) := by
  simp only [exec_seamCodewordReceive, execSeamCodewordReceive, hon, hlane, hhears, ← hw, if_true, ← hx, Bool.not_true, Bool.or_self,
    if_false, Bool.false_eq_true]

/-- The header blocks of any other codeword fill the elastic buffer, and those of a reserved type are counted. -/
theorem exec_seamCodewordReceive_of_good
    (hx : x = s.setLink l { s.slink l with elastic := (s.slink l).elastic.set n (elasticLevel w h) }) :
    exec (.seamCodewordReceive ⟨l, n⟩ e false ⟨h, drift⟩) s
      = .next ((if e then x.incf SEAM_CW_CORR_COUNT l else x).incf SEAM_BAD_BLOCKS_COUNT 0 (h.filter badBlock).length) := by
  simp only [exec_seamCodewordReceive, execSeamCodewordReceive, hon, hlane, hhears, ← hw, ← hx, Bool.not_true, Bool.or_self,
    if_false, Bool.false_eq_true]

end

section
variable {self id next : Nat} (pl : Nat) (ld : Bool) {reason : Option Nat} (hon : s.bit SEAM_LINK_CTRL_ENABLE l = true)
  (hst : s.rf SEAM_LINK_STATE_STATE l = linkIdent ∨ s.rf SEAM_LINK_STATE_STATE l = linkUp ∨
    s.rf SEAM_LINK_STATE_STATE l = linkForeign)
  (hfinds : s.identFinds l id (self % 8) = (next, reason))
  (hx : x = (s.sf SEAM_LINK_STATE_PEER l self).sf SEAM_LINK_STATE_PEER_VALID l 1)
include hst in
/-- Links that identify take IDENT blocks: those in IDENT, UP and FOREIGN. -/
theorem State.link_identifies (hon : s.bit SEAM_LINK_CTRL_ENABLE l = true) : (!s.bit SEAM_LINK_CTRL_ENABLE l
    || s.rf SEAM_LINK_STATE_STATE l == linkDown || s.rf SEAM_LINK_STATE_STATE l == linkLanes
    || s.rf SEAM_LINK_STATE_STATE l == linkFailed) = false := by
  rcases hst with h | h | h <;> rw [hon, h] <;> rfl

include hon hst hfinds hx

/-- An IDENT block that leaves STATE stores the peer. -/
theorem exec_seamIdentReceive_of_stays (hsame : next = s.rf SEAM_LINK_STATE_STATE l) :
    exec (.seamIdentReceive l self id pl ld) s = .next x := by
  simp only [exec_seamIdentReceive, execSeamIdentReceive, State.link_identifies hst hon, hfinds, ← hx, if_pos hsame, if_false,
    Bool.false_eq_true]

/-- One that moves STATE also reports the reason that R365 finds. -/
theorem exec_seamIdentReceive_of_moves {r : Nat} (hnew : next ≠ s.rf SEAM_LINK_STATE_STATE l) (hr : reason = some r) :
    exec (.seamIdentReceive l self id pl ld) s = .next ((x.sf SEAM_LINK_STATE_STATE l next).linkEvent l r) := by
  subst hr
  simp only [exec_seamIdentReceive, execSeamIdentReceive, State.link_identifies hst hon, hfinds, ← hx, if_neg hnew, if_false,
    Bool.false_eq_true]

end

/-! ## Units received (R359, R360) -/

section
variable {y : State} {x z : SeamLink} {h : SeamHeader} {u v : SeamUnit} {route : BitVec 80} {errors : List (BitVec 80)}
  (hup : s.linkIsUp l = true) (hx : x = s.slink l) (hv : v = { u with src := u.src % 8, dest := u.dest % 8 })
include hup hx hv

theorem exec_seamUnitReceive_of_stalls {t : State} (hseq : h.seq % 4096 = x.expected) (hstall : s.unitStalls l v route = some t) :
    exec (.seamUnitReceive l h u route errors) s = .next t := by
  subst hx
  simp only [exec_seamUnitReceive, execSeamUnitReceive, hup, ← hv, if_pos hseq, hstall, Bool.not_true, if_false, Bool.false_eq_true]

variable (hack : h.ackValid = false) (hy : y = s.setLink l { x with
    spent := x.spent.set (h.crVc * 8 + h.crHop) (Tab.get 0 x.spent (h.crVc * 8 + h.crHop) - h.crCount) }) (hz : z = y.slink l)
include hack hy hz

/-- A unit that nothing stalls returns its credits and is taken by its place in the sequence. -/
theorem exec_seamUnitReceive_of_runs (hstall : (if h.seq % 4096 = x.expected then s.unitStalls l v route else none) = none) :
    exec (.seamUnitReceive l h u route errors) s = .next (
      if (h.seq % 4096 + 4096 - x.expected) % 4096 = 0 then
        (y.setLink l { z with expected := (x.expected + 1) % 4096, unacked := x.unacked + 1, nak := none }).takeUnit l v route errors
      else if (h.seq % 4096 + 4096 - x.expected) % 4096 < 2048 then
        if x.nak.isSome then y else (y.setLink l { z with nak := some s.tb.count }).sendControl l (.seamNak l x.expected)
      else y.setLink l { z with unacked := x.unacked + 1 }) := by
  have hz' : z = { x with
      spent := x.spent.set (h.crVc * 8 + h.crHop) (Tab.get 0 x.spent (h.crVc * 8 + h.crHop) - h.crCount) } := by
    rw [hz, hy, State.slink_setLink]
  have hexpected : z.expected = x.expected := by rw [hz']
  have hunacked : z.unacked = x.unacked := by rw [hz']
  have hnak : z.nak = x.nak := by rw [hz']
  have htick : y.tb.count = s.tb.count := by rw [hy]; rfl
  simp only [exec_seamUnitReceive, execSeamUnitReceive, hup, ← hx, ← hv, hstall, hack, ← hy, ← hz, hexpected, hunacked, hnak, htick,
    Bool.not_true, if_false, Bool.false_eq_true]

end

end

/-! ## Units sent, and what is acknowledged (R358, R359) -/

section
variable {s t : State} {l lane : Nat} {x : SeamLink}

/-- The first unit that may go out is sent on its lane and kept for replay. -/
theorem exec_seamUnitSend_of_first {u : SeamUnit} {q : List SeamUnit} (hup : s.linkIsUp l = true) (ht : t = s.wakeLanes l)
    (hx : x = t.slink l) (hu : x.queue.find? (t.sendable l) = some u) (hlane : t.unitLane l = some lane)
    (hroom : x.replay.length < 1024) (hq : q = x.queue.erase u) :
    exec (.seamUnitSend l) s = .next ((t.setLink l { x with
      queue := q
      idleSince := if q.length = 1 then t.tb.count else x.idleSince
      replay := x.replay ++ [(x.nextSeq, u)]
      progress := if x.replay.isEmpty then t.tb.count else x.progress
      nextSeq := (x.nextSeq + 1) % 4096
      spent := x.spent.set (bufferOf u) (Tab.get 0 x.spent (bufferOf u) + 1) }).emit l lane x.nextSeq u) := by
  simp only [exec_seamUnitSend, execSeamUnitSend, hup, ← ht, ← hx, hu, hlane, if_neg (Nat.not_le.mpr hroom), ← hq, Bool.not_true,
    if_false, Bool.false_eq_true]

/-- A TIME block goes out where none has for 1,024 ticks (R358). -/
theorem exec_seamTimeBlockSend_of_due (hup : s.linkIsUp l = true) (hx : x = s.slink l) (hkeeper : (s.keeper l).isSome = true)
    (hdue : ∀ t, x.timeSent = some t → t + 1024 ≤ s.tb.count) :
    exec (.seamTimeBlockSend l) s
      = .next ((s.setLink l { x with timeSent := some s.tb.count }).sendControl l (.seamTime l s.now)) := by
  cases ht : x.timeSent with
  | none => simp only [exec_seamTimeBlockSend, execSeamTimeBlockSend, hup, hkeeper, ← hx, ht, Bool.and_self, if_true]
  | some t =>
    simp only [exec_seamTimeBlockSend, execSeamTimeBlockSend, hup, hkeeper, ← hx, ht, hdue t ht, decide_true, Bool.and_self, if_true]

/-- An IDENT block goes out where none has for a superframe (R358). -/
theorem exec_seamIdentBlockSend_of_due (hup : s.linkIsUp l = true) (hx : x = s.slink l) (hon : s.bit SEAM_LINK_CTRL_ENABLE l = true)
    (hkeeper : (s.keeper l).isSome = true) (hdue : ∀ t, x.identSent = some t → t + superframeTicks ≤ s.tb.count) :
    exec (.seamIdentBlockSend l) s = .next ((s.setLink l { x with identSent := some s.tb.count }).sendControl l
      (.seamIdent l s.self (s.ob oBOLT_ID) (s.ob oBOLT_STATE == 3))) := by
  have hst : (s.rf SEAM_LINK_STATE_STATE l == linkUp) = true := hup
  cases ht : x.identSent with
  | none =>
    simp only [exec_seamIdentBlockSend, execSeamIdentBlockSend, hon, hkeeper, hst, ← hx, ht, Bool.or_true, Bool.true_or,
      Bool.and_self, if_true]
  | some t =>
    simp only [exec_seamIdentBlockSend, execSeamIdentBlockSend, hon, hkeeper, hst, ← hx, ht, hdue t ht, decide_true, Bool.or_true,
      Bool.true_or, Bool.and_self, if_true]

/-- An idle lane that is not the keeper goes quiet (R362). -/
theorem exec_seamLaneQuiet_of_idle (hup : s.linkIsUp l = true) (hx : x = s.slink l) (hlink : s.linkOf lane = some l)
    (hsleep : s.bit SEAM_LINK_PWR_SLEEP_EN l = true) (hst : s.laneState lane = laneUp) (hkeeper : s.keeper l ≠ some lane)
    (hawake : x.quiet.contains lane = false) (hqueue : x.queue.length ≤ 1)
    (hidle : x.idleSince + s.rf SEAM_LINK_PWR_IDLE_TICKS l ≤ s.tb.count) :
    exec (.seamLaneQuiet lane) s = .next (((s.setLink l { x with quiet := x.quiet ++ [lane] }).sendControl l
      (.seamPower l 0 (s.laneIndex l lane))).requestPower lane true 1 true) := by
  simp only [exec_seamLaneQuiet, execSeamLaneQuiet, hlink, ← hx, hsleep, hup, hst, bne_iff_ne.mpr hkeeper, hawake, hqueue, hidle,
    decide_true, Bool.not_false, beq_self_eq_true, Bool.and_self, if_true]

/-- A POWER block for a lane of a link that is up (R362). -/
theorem exec_seamPowerReceive_of_lane {i : Nat} (op : Nat) (hup : s.linkIsUp l = true) (hlane : (s.linkLaneList l)[i]? = some lane) :
    exec (.seamPowerReceive l op i) s = .next (
      if op = 0 then s.requestPower lane false 1 true
      else if op = 1 then (if s.rf LANE_STATE_RX_PWR_NOW lane = 0 then (s.requestPower lane false 0 true).answerWake lane
        else s.requestPower lane false 0 true)
      else if op = 2 then (if s.rf LANE_CTRL_TX_PWR lane = 0 then
        s.setLink l { s.slink l with quiet := (s.slink l).quiet.filter (fun k => k != lane) } else s)
      else s) := by
  simp only [exec_seamPowerReceive, execSeamPowerReceive, hup, hlane, beq_iff_eq]

/-- A TIME block on a link that is up stores the peer's offset; outside a bolt it reports an offset that leaves the tolerance (R376). -/
theorem exec_seamTimeReceive_of_outside {y : State} {tick delay : Nat} {d : Int} (hup : s.linkIsUp l = true)
    (hd : d = toSigned 48 ((s.now + 2 ^ 48 - (tick + delay) % 2 ^ 48) % 2 ^ 48))
    (hy : y = s.setSeam { s.seam with offsets := s.seam.offsets.set (s.rf SEAM_LINK_STATE_PEER l) d })
    (hout : y.bit SEAM_BOLT_VALID = false) :
    exec (.seamTimeReceive l tick delay) s
      = .next (if y.beyondTol d && !s.beyondTol (Tab.get 0 s.seam.offsets (s.rf SEAM_LINK_STATE_PEER l)) then
          y.raise 0x0914 (s.rf SEAM_LINK_STATE_PEER l) else y) := by
  simp only [exec_seamTimeReceive, execSeamTimeReceive, hup, ← hd, ← hy, hout, Bool.not_true, Bool.false_and, if_false,
    Bool.false_eq_true]

end

/-! ## The obligation -/

/-- Settles O36, command by command. That a unit which a stopped island holds up is not accepted (log entry 136) and that an elastic
buffer holds 16 words either way (115) are the model's. -/
theorem seamLinkCommandsComplete : Obligations.SeamLinkCommandsComplete := by
  refine ⟨fun s x u l k v hrun hbolt hu hoff hk hx => ?enable,
    fun s x y l n e h drift w hon hlane hhears hw hx hy => ⟨exec_seamCodewordReceive_of_bad hon hlane hhears hw hx,
      exec_seamCodewordReceive_of_good hon hlane hhears hw hy, exec_seamCodewordReceive_of_good hon hlane hhears hw hy⟩,
    fun s x l self id pl next ld reason hon hst hfinds hx => ⟨exec_seamIdentReceive_of_stays pl ld hon hst hfinds hx,
      fun r => exec_seamIdentReceive_of_moves pl ld hon hst hfinds hx⟩,
    fun s y l x z h u route errors hup hx hack hy hz => ?unit,
    fun s t l lane x u q hup ht hx hu hlane hroom hq => exec_seamUnitSend_of_first hup ht hx hu hlane hroom hq,
    fun s l n x hup hx => ⟨fun hunacked => ?ackSend, ?ackReceive, ?nakReceive, fun t hnak hdue => ?nakResend,
      fun u r hreplay hdue => ?replay, fun lane hlink hsleep hst hkeeper hawake hqueue hidle =>
        exec_seamLaneQuiet_of_idle hup hx hlink hsleep hst hkeeper hawake hqueue hidle,
      fun i lane hlane => ?power, fun hkeeper hdue => exec_seamTimeBlockSend_of_due hup hx hkeeper hdue,
      fun hon hkeeper hdue => exec_seamIdentBlockSend_of_due hup hx hon hkeeper hdue,
      fun tick delay d y hd hy hout => ?time⟩⟩
  case enable =>
    rw [exec_seamLinkEnable, execSeamLinkEnable, State.atIsland_runs u _ hrun, ← hk,
      State.writeLinkCtrl_enable hbolt hu hoff (by rw [hk]; exact natBit_or rfl) hx]
    exact ⟨fun hok => by rw [if_pos hok], fun hbad => by rw [hbad]; rfl⟩
  case unit =>
    refine ⟨fun t hseq hstall => exec_seamUnitReceive_of_stalls hup hx rfl hseq hstall, fun hseq hstall => ?expected,
      fun hahead hnear => ?ahead, fun hbehind => ?before⟩
    case expected =>
      rw [exec_seamUnitReceive_of_runs hup hx rfl hack hy hz (by rw [if_pos hseq]; exact hstall), if_pos (by omega)]
    case ahead =>
      rw [exec_seamUnitReceive_of_runs hup hx rfl hack hy hz (if_neg (by omega)), if_neg (by omega), if_pos hnear]
      exact ⟨fun hnone => by rw [hnone]; rfl, fun hsome => by rw [if_pos hsome]⟩
    case before =>
      rw [exec_seamUnitReceive_of_runs hup hx rfl hack hy hz (if_neg (by omega)), if_neg (by omega), if_neg (by omega)]
  case ackSend => simp only [exec_seamAckSend, execSeamAckSend, hup, ← hx, hunacked, decide_true, Bool.and_self, if_true]
  case ackReceive => rw [exec_seamAckReceive, execSeamAckReceive, if_pos hup]
  case nakReceive => rw [exec_seamNakReceive, execSeamNakReceive, if_pos hup]
  case nakResend =>
    simp only [exec_seamNakResendTimeout, execSeamNakResendTimeout, hup, ← hx, hnak, hdue, decide_true, Bool.and_self, if_true]
  case replay =>
    simp only [exec_seamReplayTimeout, execSeamReplayTimeout, hup, ← hx, hreplay, hdue, decide_true, Bool.and_self, if_true]
  case power =>
    subst hx
    simp only [exec_seamPowerReceive_of_lane _ hup hlane]
    exact ⟨rfl, fun hawake => by rw [hawake]; rfl, fun hasleep => congrArg _ (if_neg hasleep), fun hactive => by rw [hactive]; rfl⟩
  case time =>
    rw [exec_seamTimeReceive_of_outside hup hd hy hout]
    exact ⟨fun hbeyond hwas => by rw [hbeyond, hwas]; rfl, fun hwithin => by rw [hwithin]; rfl⟩

end Sys2Proof.Machine
end

section
/-!
PROOFS. Bolts (R363 to R381): messages of other dies taken in their order, admission, epoch changes and their decision, heartbeats and
losses, remote reads, and events of peers.
-/

namespace Sys2Proof.Machine

open Reg Ob

/-! ## Messages that wait -/

/-- The oldest message of a kind is the oldest of all where that is of the kind. -/
theorem State.takeArrival_of_head {α : Type} {s : State} {f : SeamBody → Option α} {n : Nat} {b : SeamBody}
    {rest : List (Nat × SeamBody)} (h : s.seam.arrivals = (n, b) :: rest) (hf : (f b).isSome = true) :
    s.takeArrival f = ((f b).map (fun v => (n, v)), s.setSeam { s.seam with arrivals := rest }) := by
  obtain ⟨v, hv⟩ := Option.isSome_iff_exists.mp hf
  simp [State.takeArrival, h, hv]

/-! ## Forming a bolt and joining one (R363, R366) -/

section
variable {s t x : State} {n : Nat} {rest : List (Nat × SeamBody)}

theorem exec_boltFormAlone_of_founder (hfounder : s.ob oBOLT_FOUNDER = 1) (hid : s.ob oBOLT_ID ≠ 0)
    (hst : s.boltState ≤ boltJoining) : exec (.boltFormAlone false) s = .next s.formAlone := by
  simp only [exec_boltFormAlone, execBoltFormAlone, hfounder, bne_iff_ne.mpr hid, hst, beq_self_eq_true, decide_true, Bool.false_and,
    Bool.not_false, Bool.and_self, if_true]

/-- The leader takes the oldest JOIN of its bolt. -/
theorem exec_boltJoin_of_head {nonce nc cert : List Byte} {most id : Nat} (hleader : s.boltState = boltLeader)
    (harr : s.seam.arrivals = (n, .join id nc cert) :: rest) (ht : t = s.setSeam { s.seam with arrivals := rest })
    (hid : id = t.ob oBOLT_ID) :
    exec (.boltJoin nonce most) s = .next (match t.joinFault n most cert with
      | some r => t.refuseJoin n r
      | none => (t.setSeam { t.seam with
          joiners := t.seam.joiners.filter (fun x => x.peer != n) ++ [⟨n, 2, t.tb.count, nc, nonce, cert⟩] }).postAdmission n
        (.chal id (t.rf SEAM_EPOCH_EPOCH) nonce t.die.certificate
          (Config.ed448Sign (t.signed tagChal t.self nc nonce (valBytes 4 (t.rf SEAM_EPOCH_EPOCH)))))) := by
  cases hfault : t.joinFault n most cert <;>
    simp only [exec_boltJoin, execBoltJoin, hleader, State.takeArrival_of_head harr, Option.isSome_some, Option.map_some, ← ht, ← hid,
      hfault, ne_eq, not_true_eq_false, if_false]

/-- The candidate takes the oldest CHAL of the bolt that it has asked to join. -/
theorem exec_boltChal_of_head {a : Admission} {id e : Nat} {nl c g m : List Byte} (hjoining : s.seam.joining = some a)
    (harr : s.seam.arrivals = (n, .chal id e nl c g) :: rest) (ht : t = s.setSeam { s.seam with arrivals := rest })
    (hid : id = t.ob oBOLT_ID) (hstage : a.stage = 1) (hm : m = sliceBytes (Tab.get [] t.measures 0) 0 64) :
    exec .boltChal s = .next (match t.chalFault n e a.nonceC nl c g with
      | some r => (t.refuseJoin n r).endJoining
      | none => (t.setSeam { t.seam with
          joining := some { a with peer := n, stage := 3, tick := t.tb.count, nonceL := nl } }).postAdmission n
        (.proof id m t.now (Config.ed448Sign (t.signed tagProof t.self a.nonceC nl m)))) := by
  simp only [exec_boltChal, execBoltChal, State.takeArrival_of_head harr, Option.isSome_some, Option.map_some, ← ht]
  cases hfault : t.chalFault n e a.nonceC nl c g <;>
    simp only [hjoining, ← hid, hstage, ← hm, hfault, ne_eq, not_true_eq_false, or_self, if_false]

/-- The leader takes the oldest PROOF of a die whose admission is under way. -/
theorem exec_boltProof_of_head {a : Admission} {id tick measured : Nat} {m g : List Byte}
    (harr : s.seam.arrivals = (n, .proof id m tick g) :: rest) (ht : t = s.setSeam { s.seam with arrivals := rest })
    (ha : t.seam.joiners.find? (fun a => a.peer == n) = some a)
    (hx : x = t.setSeam { t.seam with joiners := t.seam.joiners.filter (fun x => x.peer != n) }) (hid : id = x.ob oBOLT_ID) :
    exec (.boltProof measured) s = .next (
      if !Config.ed448Ok a.certificate (x.signed tagProof n a.nonceC a.nonceL m) g then x.refuseJoin n 5
      else if x.beyondTol (slack tick measured) then x.refuseJoin n 6
      else (x.setSeam { x.seam with admitted := x.seam.admitted ||| 2 ^ n }).postAdmission n .admitted) := by
  simp only [exec_boltProof, execBoltProof, State.takeArrival_of_head harr, Option.isSome_some, Option.map_some, ← ht, ha, ← hx,
    ← hid, ne_eq, not_true_eq_false, if_false]

/-- An exchange that has waited longer than 100 ms ends with reason 7, no other being as old. -/
theorem exec_boltAdmissionTimeout_of_joining {a : Admission} (hlate : a.tick + hundredMillis < s.tb.count)
    (hjoining : s.seam.joining = some a) (hx : x = (s.refuseJoin a.peer 7).endJoining)
    (hothers : x.seam.joiners.all (fun b => decide (s.tb.count ≤ b.tick + hundredMillis)) = true) :
    exec .boltAdmissionTimeout s = .next x := by
  have hnone : x.seam.joiners.filter (fun b => decide (b.tick + hundredMillis < s.tb.count)) = [] := by
    refine List.filter_eq_nil_iff.mpr fun b hb => ?_
    have := of_decide_eq_true (List.all_eq_true.mp hothers b hb)
    simpa using this
  simp only [exec_boltAdmissionTimeout, execBoltAdmissionTimeout, hjoining, hlate, decide_true, if_true, ← hx, hnone, List.foldl_nil]

/-- The leader's one exchange, too old, ends with reason 7. -/
theorem exec_boltAdmissionTimeout_of_joiner {a : Admission} (hlate : a.tick + hundredMillis < s.tb.count)
    (hjoining : s.seam.joining = none) (hjoiners : s.seam.joiners = [a]) :
    exec .boltAdmissionTimeout s = .next ((s.setSeam { s.seam with joiners := [] }).refuseJoin a.peer 7) := by
  simp [exec_boltAdmissionTimeout, execBoltAdmissionTimeout, hjoining, hjoiners, hlate]

end

/-- Settles O37, step by step of the admission. That the nonces are operands is the model's (log entry 134). -/
theorem boltAdmissionCommandsComplete : Obligations.BoltAdmissionCommandsComplete := by
  refine ⟨fun s => exec_boltFormAlone_of_founder, fun s nonce => ⟨fun halone hid => ?join, fun hst hnone hretry hdue => ?retry⟩,
    fun s t nonce nc cert most n id rest hleader harr ht hid => ?joinTaken,
    fun s t a n id e nl c g m rest hjoining harr ht hid hstage hm => ?chalTaken,
    fun s t x a n id tick measured m g rest harr ht ha hx hid => ?proofTaken,
    fun s t n r rest ht => ⟨fun harr => ?admitted, fun harr hjoining => ?refused⟩,
    fun s x a hlate => ⟨exec_boltAdmissionTimeout_of_joining hlate, exec_boltAdmissionTimeout_of_joiner hlate⟩⟩
  case join => rw [exec_boltCommandJoin, execBoltCommandJoin, State.joinCommand, if_pos ⟨halone, hid⟩]
  case retry => rw [exec_boltJoinRetry, execBoltJoinRetry, if_pos ⟨hst, hnone, hretry, hdue⟩]
  case joinTaken =>
    rw [exec_boltJoin_of_head hleader harr ht hid]
    exact ⟨fun r hr => by rw [hr], fun hnone => by rw [hnone]⟩
  case chalTaken =>
    rw [exec_boltChal_of_head hjoining harr ht hid hstage hm]
    exact ⟨fun r hr => by rw [hr], fun hnone => by rw [hnone]⟩
  case proofTaken =>
    rw [exec_boltProof_of_head harr ht ha hx hid]
    refine ⟨fun hbad => by rw [hbad]; rfl, fun hok => ?_⟩
    rw [hok]
    exact ⟨fun hbeyond => by rw [hbeyond]; rfl, fun hwithin => by rw [hwithin]; rfl⟩
  case admitted =>
    simp only [exec_boltAdmit, execBoltAdmit, State.takeArrival_of_head harr, Option.isSome_some, Option.map_some, ← ht]
  case refused =>
    have hjoining' : (t.so oBOLT_LAST_REFUSAL 0 r).seam.joining.isSome = true := by
      rw [State.so_seam, ht]
      exact hjoining
    simp only [exec_boltRefuse, execBoltRefuse, State.takeArrival_of_head harr, Option.isSome_some, Option.map_some, ← ht, hjoining',
      if_true]

/-! ## Epoch changes (R367) -/

section
variable {s t : State} {n : Nat} {rest : List (Nat × SeamBody)}

/-- A leader that is and stays the only member proposes to itself and holds the change. -/
theorem exec_epochChangePropose_of_alone {links : List (Nat × Nat × Nat)} {rights : List (Nat × Nat × SeamRights)} {el e ld : Nat}
    (hleader : s.boltState = boltLeader) (hnone : s.seam.proposal = none) (hcandidate : s.seam.candidate = false)
    (he : e = s.rf SEAM_EPOCH_EPOCH + 1) (hold : s.rf SEAM_BOLT_MEMBERS = 2 ^ s.self) (hnew : s.newMembers = 2 ^ s.self)
    (hld : ld = lowestDie (s.newMembers &&& (if s.ob oBOLT_ELIGIBLE == 1 then el ||| 2 ^ s.self else el)))
    (hself : bitsSet 8 (2 ^ s.self) = [s.self]) :
    exec (.epochChangePropose links rights el) s = .next (s.setSeam { s.seam with
      proposal := some ⟨e, s.changeTick, s.rf SEAM_BOLT_MEMBERS, s.newMembers, [s.self], none⟩
      held := some ⟨s.changeFor s.newMembers ld s.changeTick s.self links rights, s.self, none⟩
      ackedEpoch := e }) := by
  have hdies : bitsSet 8 (s.rf SEAM_BOLT_MEMBERS ||| s.newMembers) = [s.self] := by rw [hold, hnew, Nat.or_self, hself]
  simp only [exec_epochChangePropose, execEpochChangePropose, hleader, hnone, hcandidate, ← he, ← hld, hdies, List.foldl_cons,
    List.foldl_nil, beq_self_eq_true, Bool.true_or, Bool.not_true, Bool.or_self, if_false, Bool.false_eq_true]
  exact congrArg _ (if_pos rfl)

/-- A member takes the oldest CHANGE, acknowledges one of each epoch number, and only in time. -/
theorem exec_epochChangeReceive_of_member {c : SeamChange} (harr : s.seam.arrivals = (n, .change c) :: rest)
    (ht : t = s.setSeam { s.seam with arrivals := rest }) (hmember : boltMember ≤ t.boltState)
    (hepoch : c.epoch = t.rf SEAM_EPOCH_EPOCH + 1) :
    exec .epochChangeReceive s = .next (if t.seam.ackedEpoch ≠ c.epoch ∧ t.tb.count + 8192 ≤ c.te then
        (t.setSeam { t.seam with held := some ⟨c, n, none⟩, ackedEpoch := c.epoch }).postChange n (.changeAck c.epoch)
      else t) := by
  simp only [exec_epochChangeReceive, execEpochChangeReceive, State.takeArrival_of_head harr, Option.isSome_some, Option.map_some,
    ← ht, if_pos hmember, ← hepoch, beq_self_eq_true, Bool.true_and, Bool.and_eq_true, bne_iff_ne, decide_eq_true_eq]

/-- From 8,192 ticks before T_E the proposer decides and tells the others. -/
theorem exec_epochChangeDecide_of_due {p : Proposal} {h : HeldChange} (hp : s.seam.proposal = some p) (hopen : p.outcome = none)
    (hdue : p.te ≤ s.tb.count + 8192) (hheld : s.seam.held = some h) (hproposer : h.proposer = s.self)
    (ht : t = s.setSeam { s.seam with
      proposal := some { p with outcome := some p.carried }, held := some { h with outcome := some p.carried }
      ackedEpoch := if p.carried then s.seam.ackedEpoch else 0 }) :
    exec .epochChangeDecide s = .next ((bitsSet 8 (p.old ||| p.new)).foldl (fun s n =>
      if n = s.self then s else s.postChange n (if p.carried then .commit p.epoch else .abandon p.epoch)) t) := by
  have hnow : ¬(p.outcome.isSome = true ∨ s.tb.count + 8192 < p.te) := by
    rw [hopen, Option.isSome_none]
    simpa using hdue
  simp only [exec_epochChangeDecide, execEpochChangeDecide, hp, if_neg hnow, hheld, if_pos hproposer, ← ht]

/-- At T_E a die that holds COMMIT applies the change that keeps it a member, and is expelled by one that does not. -/
theorem exec_epochChangeApply_of_commit {h : HeldChange} (hheld : s.seam.held = some h) (hdue : h.change.te ≤ s.tb.count)
    (hcommit : h.outcome = some true) : exec .epochChangeApply s
      = .next (if natBit h.change.members s.self then s.applyChange h.change else s.expelled) := by
  simp only [exec_epochChangeApply, execEpochChangeApply, hheld, if_pos (And.intro hcommit hdue)]

/-! ## Heartbeats and losses (R368) -/

theorem exec_boltHeartbeatSend_of_due (hleader : s.boltState = boltLeader)
    (hdue : ∀ t, s.seam.beatSent = some t → t + 1024 ≤ s.tb.count) :
    exec .boltHeartbeatSend s = .next (s.peers.foldl (fun s n =>
      (s.setSeam { s.seam with missed := s.seam.missed.set n (Tab.get 0 s.seam.missed n + 1) }).post n .heartbeat)
      (s.setSeam { s.seam with beatSent := some s.tb.count })) := by
  cases ht : s.seam.beatSent with
  | none => simp only [exec_boltHeartbeatSend, execBoltHeartbeatSend, hleader, ht, beq_self_eq_true, Bool.and_self, if_true]
  | some t =>
    simp only [exec_boltHeartbeatSend, execBoltHeartbeatSend, hleader, ht, hdue t ht, decide_true, beq_self_eq_true, Bool.and_self,
      if_true]

section
variable (first : Bool) (hmember : s.member n = true) (hother : n ≠ s.self) (hknown : s.seam.lost.contains n = false)
include hmember hother hknown

/-- A leader whose heartbeats a member has missed up to the limit declares it lost. -/
theorem exec_boltPeerLost_of_leader (hleader : s.boltState = boltLeader) (hmissed : s.ob oBOLT_MISS_LIMIT ≤ Tab.get 0 s.seam.missed n)
    (hbeat : s.seam.beatSent.getD 0 + 1024 ≤ s.tb.count) : exec (.boltPeerLost n first) s
      = .next ((s.setSeam { s.seam with lost := s.seam.lost ++ [n], wanted := true }).raise 0x0912 n) := by
  simp only [exec_boltPeerLost, execBoltPeerLost, hmember, beq_eq_false_iff_ne.mpr hother, hknown, hleader,
    if_pos (And.intro hmissed hbeat), Bool.not_true, Bool.or_self, if_true, if_false, Bool.false_eq_true]

/-- A member that has not heard its leader up to the limit declares it lost. -/
theorem exec_boltPeerLost_of_member (hst : s.boltState = boltMember) (hleader : s.rf SEAM_BOLT_LEADER = n)
    (hsilent : s.seam.beatHeard + s.ob oBOLT_MISS_LIMIT * 1024 < s.tb.count) : exec (.boltPeerLost n first) s
      = .next ((s.setSeam { s.seam with lost := s.seam.lost ++ [n]
                                        candidate := first && s.ob oBOLT_ELIGIBLE == 1 }).raise 0x0912 n) := by
  have hnot : ¬s.boltState = boltLeader := by rw [hst]; decide
  simp only [exec_boltPeerLost, execBoltPeerLost, hmember, beq_eq_false_iff_ne.mpr hother, hknown, if_neg hnot,
    if_pos (And.intro hst (And.intro hleader hsilent)), Bool.not_true, Bool.or_self, if_false, Bool.false_eq_true]

end

/-- The oldest event of a peer joins the FIFO of 16, or is counted as lost, and is raised (R375). -/
theorem exec_peerEventReceive_of_head {e : Nat} (harr : s.seam.arrivals = (n, .event e) :: rest)
    (ht : t = s.setSeam { s.seam with arrivals := rest }) : exec .peerEventReceive s
      = .next ((if s.seam.events.length < 16 then t.setSeam { t.seam with events := t.seam.events ++ [(n, e)] }
          else t.incf SEAM_PEER_EVT_LOST_COUNT).raise (0x0940 + n) e) := by
  have hevents : t.seam.events = s.seam.events := by rw [ht]; rfl
  simp only [exec_peerEventReceive, execPeerEventReceive, State.takeArrival_of_head harr, Option.isSome_some, Option.map_some, ← ht,
    hevents]

end

/-- Settles O38, command by command. -/
theorem boltEpochCommandsComplete : Obligations.BoltEpochCommandsComplete := by
  refine ⟨fun s t links rights el e ld hleader hnone hcandidate he hold hnew hld hself =>
      exec_epochChangePropose_of_alone hleader hnone hcandidate he hold hnew hld hself,
    fun s t n c rest harr ht hmember hepoch => ?change,
    fun s t p h hp hopen hdue hheld hproposer ht => exec_epochChangeDecide_of_due hp hopen hdue hheld hproposer ht,
    fun s t n e h rest ht hheld hproposer hepoch => ⟨fun harr => ?commit, fun harr => ?abandon⟩,
    fun s h hheld hdue => ⟨fun hcommit hmember => ?apply, fun hcommit hmember => ?expelled, fun hnone => ?ask⟩,
    fun s t hswitch hdue => ?windows, fun s => exec_boltHeartbeatSend_of_due,
    fun s t n rest ht => ⟨fun harr hleader => ?heartbeat, fun harr => ?answer⟩,
    fun s n first hmember hother hknown => ⟨exec_boltPeerLost_of_leader first hmember hother hknown,
      exec_boltPeerLost_of_member first hmember hother hknown⟩,
    fun s => ⟨fun hleader => ?leaderCommands, fun hmember => ?memberCommands⟩, fun s r hr => ?readTimeout,
    fun s t n e u rest q ht => ⟨fun harr hroom => ?eventTaken, fun harr hfull => ?eventLost, fun hq hrun => ?pop,
      fun hnil hrun => ?popEmpty⟩⟩
  case change =>
    rw [exec_epochChangeReceive_of_member harr ht hmember hepoch]
    exact ⟨fun hnew hearly => by rw [if_pos ⟨hnew, hearly⟩], fun hno => by rw [if_neg]; omega⟩
  case commit =>
    simp only [exec_epochCommitReceive, execEpochCommitReceive, State.takeArrival_of_head harr, Option.isSome_some, Option.map_some,
      ← ht, State.heldOutcome, hheld, if_pos (And.intro hproposer hepoch), if_true]
  case abandon =>
    simp only [exec_epochAbandonReceive, execEpochAbandonReceive, State.takeArrival_of_head harr, Option.isSome_some, Option.map_some,
      ← ht, State.heldOutcome, hheld, if_pos (And.intro hproposer hepoch), if_false, Bool.false_eq_true]
  case apply => rw [exec_epochChangeApply_of_commit hheld hdue hcommit, if_pos hmember]
  case expelled => rw [exec_epochChangeApply_of_commit hheld hdue hcommit, if_neg (ne_true_of_eq_false hmember)]
  case ask => simp only [exec_epochChangeNoOutcome, execEpochChangeNoOutcome, hheld, if_pos (And.intro hnone hdue)]
  case windows => simp only [exec_epochWindowSwitch, execEpochWindowSwitch, hswitch, if_pos hdue]
  case heartbeat =>
    simp only [exec_boltHeartbeatReceive, execBoltHeartbeatReceive, State.takeArrival_of_head harr, Option.isSome_some,
      Option.map_some, ← ht, if_pos hleader]
  case answer =>
    simp only [exec_boltHeartbeatReceive, execBoltHeartbeatReceive, State.takeArrival_of_head harr, Option.isSome_some,
      Option.map_some, ← ht]
  case leaderCommands =>
    simp only [exec_boltCommandLeave, execBoltCommandLeave, exec_boltCommandRepublish, execBoltCommandRepublish,
      State.leaveCommand, State.republishCommand, if_pos hleader, and_self]
  case memberCommands =>
    have hnot : ¬s.boltState = boltLeader := by rw [hmember]; decide
    simp only [exec_boltCommandLeave, execBoltCommandLeave, exec_boltCommandRepublish, execBoltCommandRepublish,
      State.leaveCommand, State.republishCommand, if_neg hnot, if_pos hmember, and_self]
  case readTimeout => simp only [exec_remoteReadTimeout, execRemoteReadTimeout, hr]
  case eventTaken => rw [exec_peerEventReceive_of_head harr ht, if_pos hroom]
  case eventLost => rw [exec_peerEventReceive_of_head harr ht, if_neg (Nat.not_lt.mpr hfull)]
  case pop => simp only [exec_seamPeerEvtPop, execSeamPeerEvtPop, State.atIsland_runs u _ hrun, hq]
  case popEmpty => simp only [exec_seamPeerEvtPop, execSeamPeerEvtPop, State.atIsland_runs u _ hrun, hnil]

end Sys2Proof.Machine
end

section
/-!
PROOFS. The DMA engines (R437 to R457): register writes, triggers, fetches, bursts, completion and the link word.
-/

namespace Sys2Proof.Machine

open Reg Ob

/-! ## The channel registers (R449, R457) -/

/-- A write of DMA_CH_CFG carries ENABLE in bit 31 and PRIO below it. -/
theorem dmaCfg_enabled : ∀ prio < 4, bitsOf (2 ^ 31 + prio % 4 * 2 ^ 29) 30 29 = prio
    ∧ natBit (2 ^ 31 + prio % 4 * 2 ^ 29) 31 = true := by decide

theorem dmaCfg_disabled : ∀ prio < 4, bitsOf (prio % 4 * 2 ^ 29) 30 29 = prio ∧ natBit (prio % 4 * 2 ^ 29) 31 = false := by decide

section
variable {s : State} {r c : Nat}

theorem exec_dmaChEnable_of_owner {prio : Nat} (hrun : s.islandStops 77 = false) (hmay : s.mayWriteDma r c = true)
    (hprio : prio < 4) :
    exec (.dmaChEnable r c prio) s = .next ((s.sf DMA_CH_CFG_PRIO c prio).sf DMA_CH_CFG_ENABLE c 1) := by
  obtain ⟨hfield, hbit⟩ := dmaCfg_enabled prio hprio
  simp only [exec_dmaChEnable, execDmaChEnable, State.atIsland_runs r _ hrun, State.writeDmaCfg, hmay, hfield, hbit, Bool.not_true,
    if_true, if_false, Bool.false_eq_true]

/-- Disabling stops a channel that is enabled. -/
theorem exec_dmaChDisable_of_owner {prio : Nat} (hrun : s.islandStops 77 = false) (hmay : s.mayWriteDma r c = true)
    (hprio : prio < 4) : exec (.dmaChDisable r c prio) s
      = .next (if s.bit DMA_CH_CFG_ENABLE c then ((s.sf DMA_CH_CFG_PRIO c prio).sf DMA_CH_CFG_ENABLE c 0).dmaStop c
        else (s.sf DMA_CH_CFG_PRIO c prio).sf DMA_CH_CFG_ENABLE c 0) := by
  obtain ⟨hfield, hbit⟩ := dmaCfg_disabled prio hprio
  simp only [exec_dmaChDisable, execDmaChDisable, State.atIsland_runs r _ hrun, State.writeDmaCfg, hmay, hfield, hbit, Bool.not_true,
    if_false, Bool.false_eq_true]

section
variable (hrun : s.islandStops 77 = false) (hmay : s.mayWriteDma r c = true) (howner : (s.channelOwner c).isSome = true)
include hrun hmay howner

/-- A write of a doorbell with one of its bits does that one thing. -/
theorem exec_dmaDoorbell : exec (.dmaChSreset r c) s = .next (s.dmaReset c) ∧ exec (.dmaRing r c) s = .next (s.dmaRing c)
    ∧ exec (.dmaTrig r c) s = .next (s.dmaTrigger c none) := by
  have hnone : (s.channelOwner c).isNone = false := by rw [← Option.not_isSome, howner]; rfl
  have hbits : natBit 4 2 = true ∧ natBit 1 2 = false ∧ natBit 1 1 = false ∧ natBit 1 0 = true ∧ natBit 2 2 = false
    ∧ natBit 2 1 = true ∧ natBit 2 0 = false := by decide
  obtain ⟨h42, h12, h11, h10, h22, h21, h20⟩ := hbits
  simp only [exec_dmaChSreset, execDmaChSreset, exec_dmaRing, execDmaRing, exec_dmaTrig, execDmaTrig,
    State.atIsland_runs r _ hrun, State.writeDmaDoorbell, hmay, hnone, h42, h12, h11, h10, h22, h21, h20, Bool.not_true, Bool.or_self,
    if_true, if_false, Bool.false_eq_true, and_self]

end

/-- A LINKS write that names the partition's own channel and queue stores its fields (R446). -/
theorem exec_dmaChLinksWrite_of_owner {p : Nat} {v : Half} (hrun : s.islandStops 77 = false) (hmay : s.mayWriteDma r c = true)
    (howner : s.channelOwner c = some p)
    (hchain : natBit v.toNat 31 = true → s.channelOwner (bitsOf v.toNat 27 16) = some p)
    (hqueue : natBit v.toNat 30 = true → s.queueOwner (bitsOf v.toNat 15 0) = some p) :
    exec (.dmaChLinksWrite r c v) s = .next ((((s.sf DMA_CH_LINKS_CHAIN_EN c (bitsOf v.toNat 31 31)).sf DMA_CH_LINKS_TRIGQ_EN c
      (bitsOf v.toNat 30 30)).sf DMA_CH_LINKS_CHAIN c (bitsOf v.toNat 27 16)).sf DMA_CH_LINKS_TRIGQ c (bitsOf v.toNat 15 0)) := by
  have hc : (natBit v.toNat 31 && ((some p).isNone || s.channelOwner (bitsOf v.toNat 27 16) != some p)) = false := by
    cases h : natBit v.toNat 31 with
    | false => rfl
    | true => rw [hchain h, bne_self_eq_false]; rfl
  have hq : (natBit v.toNat 30 && ((some p).isNone || s.queueOwner (bitsOf v.toNat 15 0) != some p)) = false := by
    cases h : natBit v.toNat 30 with
    | false => rfl
    | true => rw [hqueue h, bne_self_eq_false]; rfl
  simp only [exec_dmaChLinksWrite, execDmaChLinksWrite, State.atIsland_runs r _ hrun, State.writeDmaLinks, hmay, howner, hc, hq,
    Bool.not_true, if_false, Bool.false_eq_true]

/-- RING acts by the channel's state (R449, R451). -/
theorem State.dmaRing_of_rest (hup : s.dmaUp c = true) (hst : s.dstate c = dmaIdle ∨ s.dstate c = dmaError) :
    s.dmaRing c = s.dmaFetchAt c (s.rf DMA_CH_HEAD_ADDR c * 64) := by
  have : (s.dstate c == dmaIdle || s.dstate c == dmaError) = true := by simpa using hst
  simp only [State.dmaRing, hup, this, Bool.not_true, if_true, if_false, Bool.false_eq_true]

theorem State.dmaRing_of_parked (hup : s.dmaUp c = true) (hst : s.dstate c = dmaParked) (hlink : (s.dmaCh c).link = none) :
    s.dmaRing c = s.dmaReadLink c := by
  have : (dmaParked == dmaIdle || dmaParked == dmaError) = false := by decide
  simp only [State.dmaRing, hup, hst, hlink, this, beq_self_eq_true, Option.isNone_none, Bool.and_self, Bool.not_true, if_true,
    if_false, Bool.false_eq_true]

theorem State.dmaRing_of_busy (hup : s.dmaUp c = true) (hst : s.dstate c = dmaFetch ∨ s.dstate c = dmaWait ∨ s.dstate c = dmaRun) :
    s.dmaRing c = s.sf DMA_CH_STATE_DB_PENDING c 1 := by
  have hrest : (s.dstate c == dmaIdle || s.dstate c == dmaError) = false ∧ (s.dstate c == dmaParked) = false := by
    rcases hst with h | h | h <;> rw [h] <;> decide
  simp only [State.dmaRing, hup, hrest.1, hrest.2, Bool.false_and, Bool.not_true, if_false, Bool.false_eq_true]

/-! ## Triggers (R445, R446) -/

/-- A trigger joins the items of a channel that has room. -/
theorem State.dmaTrigger_of_room (hup : s.dmaUp c = true) (hroom : (s.dmaCh c).items.length < 255) (tag : Option (Nat × Nat)) :
    s.dmaTrigger c tag = s.setDmaCh c { s.dmaCh c with items := (s.dmaCh c).items ++ [.trigger tag] } := by
  simp only [State.dmaTrigger, hup, hroom, decide_true, Bool.and_self, if_true]

/-- A trigger of a full channel is lost and counted. -/
theorem State.dmaTrigger_of_full (hfull : 255 ≤ (s.dmaCh c).items.length) (tag : Option (Nat × Nat)) :
    s.dmaTrigger c tag = (s.incf DMA_CH_TRIG_LOST_COUNT c).dmaEvent c 3 := by
  simp only [State.dmaTrigger, decide_eq_false (Nat.not_lt.mpr hfull), Bool.and_false, if_false, Bool.false_eq_true]

/-- An entry of the trigger queue gives its code if it is void, and is a trigger with its tag otherwise. -/
theorem exec_dmaTriggerQueuePop_of_entry {t : State} {w : List Carried} (hup : s.dmaUp c = true)
    (hen : s.bit DMA_CH_LINKS_TRIGQ_EN c = true) (hroom : (s.dmaCh c).items.length < 255)
    (hpop : s.popQueue (s.rf DMA_CH_LINKS_TRIGQ c) (dmaUnit c) = (.entry w, t)) :
    exec (.dmaTriggerQueuePop c) s = .next (match voidCode w with
      | some code => t.setDmaCh c { t.dmaCh c with items := (t.dmaCh c).items ++ [.gone code] }
      | none => t.dmaTrigger c (some ((entryTag w).2, (entryTag w).1))) := by
  cases hvoid : voidCode w <;>
    simp only [exec_dmaTriggerQueuePop, execDmaTriggerQueuePop, hup, hen, hroom, hpop, hvoid, decide_true, Bool.and_self, if_true]

/-! ## Fetching (R438) -/

section
variable {t : State} {p : Nat} (howner : s.channelOwner c = some p) (hup : s.dmaUp c = true) (hst : s.dstate c = dmaFetch)
include howner hup hst

theorem exec_dmaDescriptorFetch_of_no_extent (hext : s.dmaExtent (s.dmaCur c) 64 = false) :
    exec (.dmaDescriptorFetch c) s = .next (s.dmaUnread c codeBadDescriptor) := by
  simp only [exec_dmaDescriptorFetch, execDmaDescriptorFetch, howner, hup, hst, hext, bne_self_eq_false, Bool.not_true, Bool.or_self,
    Bool.not_false, if_true, if_false, Bool.false_eq_true]

theorem exec_dmaDescriptorFetch_of_denied (hext : s.dmaExtent (s.dmaCur c) 64 = true)
    (hmay : s.mayAccess p (s.dmaCur c) 64 false = false) : exec (.dmaDescriptorFetch c) s
      = .next ((s.countDenial p (dmaUnit c) (s.dmaCur c) false).dmaUnread c codeDenied) := by
  simp only [exec_dmaDescriptorFetch, execDmaDescriptorFetch, howner, hup, hst, hext, hmay, bne_self_eq_false, Bool.not_true,
    Bool.or_self, Bool.not_false, if_true, if_false, Bool.false_eq_true]

theorem exec_dmaDescriptorFetch_of_stall {i : Nat × Option Nat} (hext : s.dmaExtent (s.dmaCur c) 64 = true)
    (hmay : s.mayAccess p (s.dmaCur c) 64 false = true) (hstop : s.accessStops (dmaUnit c) (s.dmaCur c) 64 = some i) :
    exec (.dmaDescriptorFetch c) s = .next (s.stallOn i) := by
  simp only [exec_dmaDescriptorFetch, execDmaDescriptorFetch, howner, hup, hst, hext, hmay, hstop, bne_self_eq_false, Bool.not_true,
    Bool.or_self, if_false, Bool.false_eq_true]

/-- A descriptor whose words are read is checked, and then waits or runs. -/
theorem exec_dmaDescriptorFetch_of_read {l : List Carried} (hext : s.dmaExtent (s.dmaCur c) 64 = true)
    (hmay : s.mayAccess p (s.dmaCur c) 64 false = true) (hgo : s.accessStops (dmaUnit c) (s.dmaCur c) 64 = none)
    (hread : s.readWords (s.dmaCur c) (dmaUnit c) 0 8 = (l, t)) :
    exec (.dmaDescriptorFetch c) s = .next (
      if l.any Option.isNone then t.dmaUnread c codePoison else
      let w := l.map (fun v => (v.getD 0).toNat)
      let x := t.setDmaCh c { t.dmaCh c with desc := some (dmaDesc w), cls := (dmaDesc w).cls, deadline := (dmaDesc w).deadline,
                                             moved := 0, poisoned := false, behind := 0, link := none }
      if x.dmaCheck p w then
        if x.dmaNoUnit (dmaDesc w) then x.dmaComplete c p codeNoUnit
        else x.setDstate c (if (dmaDesc w).wait then dmaWait else dmaRun)
      else x.dmaComplete c p codeBadDescriptor) := by
  simp only [exec_dmaDescriptorFetch, execDmaDescriptorFetch, howner, hup, hst, hext, hmay, hgo, hread, bne_self_eq_false,
    Bool.not_true, Bool.or_self, if_false, Bool.false_eq_true, Bool.not_eq_true', ← Bool.not_eq_true, ite_not]
  split
  · rfl
  · split
    · split
      · rfl
      · split <;> rfl
    · rfl

end

/-! ## Waiting, moving and completing (R442 to R451) -/

section
variable {p : Nat} {d : DmaDesc} {rest : List DmaItem} (howner : s.channelOwner c = some p) (hdesc : (s.dmaCh c).desc = some d)
  (hup : s.dmaUp c = true)
include howner hdesc hup

theorem exec_dmaTriggerTake_of_gone {code : Nat} (hst : s.dstate c = dmaWait) (hitems : (s.dmaCh c).items = .gone code :: rest) :
    exec (.dmaTriggerTake c) s = .next ((s.setDmaCh c { s.dmaCh c with items := rest }).dmaComplete c p code) := by
  simp only [exec_dmaTriggerTake, execDmaTriggerTake, howner, hdesc, hitems, hup, hst, bne_self_eq_false, Bool.not_true, Bool.or_self,
    if_false, Bool.false_eq_true]

/-- With TAGSRC 1 the descriptor takes the tag that a trigger brings, else its own. -/
theorem exec_dmaTriggerTake_of_trigger {tag : Option (Nat × Nat)} (hst : s.dstate c = dmaWait)
    (hitems : (s.dmaCh c).items = .trigger tag :: rest) : exec (.dmaTriggerTake c) s
      = .next ((s.setDmaCh c { s.dmaCh c with
          items := rest
          cls := (if d.tagSrc then tag.getD (d.cls, d.deadline) else (d.cls, d.deadline)).1
          deadline := (if d.tagSrc then tag.getD (d.cls, d.deadline) else (d.cls, d.deadline)).2 }).setDstate c dmaRun) := by
  simp only [exec_dmaTriggerTake, execDmaTriggerTake, howner, hdesc, hitems, hup, hst, bne_self_eq_false, Bool.not_true, Bool.or_self,
    if_false, Bool.false_eq_true]
  cases tag <;> cases d.tagSrc <;> rfl

/-- A descriptor whose bytes have been moved and acknowledged completes, unless its status word waits for a stopped island. -/
theorem exec_dmaDescriptorComplete_of_moved (hst : s.dstate c = dmaRun) (hlink : (s.dmaCh c).link = none)
    (hmoved : d.len ≤ (s.dmaCh c).moved)
    (hpush : d.op = 2 → d.len ≠ 0 → s.dmaFlight (dmaUnit c) d.dst ≤ (s.dmaCh c).behind)
    (hstore : d.op ≠ 2 → d.len ≠ 0 → s.storesDone (dmaUnit c) = true) :
    exec (.dmaDescriptorComplete c) s = .next (
      match (if d.wb then s.accessStops (dmaUnit c) (s.dmaCur c + 48) 8 else none) with
      | some i => s.stallOn i
      | none => s.dmaComplete c p (if (s.dmaCh c).poisoned then codePoison
          else if slack (s.dmaCh c).deadline (s.nowAt dmaIsland) < 0 then codeDoneLate else codeDone)) := by
  have hlanded : (d.op == 2 && d.len != 0 && decide ((s.dmaCh c).behind < s.dmaFlight (dmaUnit c) d.dst)) = false := by
    simpa using hpush
  have hstored : (d.op != 2 && d.len != 0 && !s.storesDone (dmaUnit c)) = false := by simpa using hstore
  cases hstop : (if d.wb then s.accessStops (dmaUnit c) (s.dmaCur c + 48) 8 else none) <;>
    simp only [exec_dmaDescriptorComplete, execDmaDescriptorComplete, howner, hdesc, hup, hst, hlink, hlanded, hstored, hstop,
      decide_eq_false (Nat.not_lt.mpr hmoved), bne_self_eq_false, Option.isSome_none, Bool.not_true, Bool.or_self, if_false,
      Bool.false_eq_true]

end

/-- The engine serves the pick among its ready channels. -/
theorem exec_dmaBurst_of_pick {t : State} {e p : Nat} {d : DmaDesc} (he : e < 16)
    (hpick : s.dmaPick (((List.range 256).map (fun k => 256 * e + (Tab.get 0 s.dma.last e + 1 + k) % 256)).filter
      (fun c => s.dmaReady c)) = some c)
    (ht : t = { s with dma := { s.dma with last := s.dma.last.set e (c % 256) } }) (howner : t.channelOwner c = some p)
    (hdesc : (t.dmaCh c).desc = some d) : exec (.dmaBurst e) s
      = .next (if d.op = 2 then t.dmaPush c p d else t.dmaMove c p d (burstLen d (t.dmaCh c).moved)) := by
  simp only [exec_dmaBurst, execDmaBurst, if_neg (Nat.not_le.mpr he), hpick, ← ht, howner, hdesc]

/-- The link word that is back goes on, parks, fetches again at RING, or fails (R451). -/
theorem exec_dmaLinkReread_of_word {t : State} {v : Word} (ht : t = s.setDmaCh c { s.dmaCh c with link := none })
    (hlink : (s.dmaCh c).link = some (some (some v))) : exec (.dmaLinkReread c) s = .next (
      if natBit v.toNat 63 then
        if t.bit DMA_CH_STATE_DB_PENDING c then (t.sf DMA_CH_STATE_DB_PENDING c 0).dmaReadLink c else t.setDstate c dmaParked
      else if bitsOf v.toNat 47 0 % 64 = 0 then t.dmaFetchAt c (bitsOf v.toNat 47 0)
      else (t.sf DMA_CH_STATE_LAST_CODE c codeBadDescriptor).dmaFail c) := by
  simp only [exec_dmaLinkReread, execDmaLinkReread, hlink, ← ht]
  cases natBit v.toNat 63 <;> rfl

end

/-- Settles O42, command by command. NO_UNIT for the memory of an absent unit, status words, and a disabled channel that stops at
once are the model's (log entries 146, 147 and 149). -/
theorem dmaCommandsComplete : Obligations.DmaCommandsComplete := by
  refine ⟨fun s r c prio hrun hmay hprio => ⟨exec_dmaChEnable_of_owner hrun hmay hprio, fun hon => ?stopped, fun hoff => ?disabled⟩,
    fun s r c hrun hmay howner => ?doorbell, fun s r c p v => exec_dmaChLinksWrite_of_owner,
    fun s t c k d rest htrig ht hup hroom => ?arrive, fun s t c w hup hen hroom hpop => ⟨fun code hvoid => ?gone, fun hvoid => ?popped⟩,
    fun s t x c p l w howner hup hst => ⟨exec_dmaDescriptorFetch_of_no_extent howner hup hst, fun hext =>
      ⟨exec_dmaDescriptorFetch_of_denied howner hup hst hext, fun i => exec_dmaDescriptorFetch_of_stall howner hup hst hext,
        fun hmay hgo hread => ?fetch⟩⟩,
    fun s c p d rest howner hdesc hup hst => ⟨fun code => exec_dmaTriggerTake_of_gone howner hdesc hup hst,
      fun k n hitems htag => ?tagged, fun tag hitems hown => ?untagged⟩,
    fun s t e c p d he hpick ht howner hdesc => ⟨fun hop => ?push, fun hop => ?move⟩,
    fun s c p d howner hdesc hup hst hlink hmoved hpush hstore => ⟨fun i hwb hstop => ?statusStalls, fun hgo => ?completes⟩,
    fun s t c ht => ⟨fun hlink => ?again, fun hlink => ?poison, fun v hlink => ?word⟩⟩
  case stopped => rw [exec_dmaChDisable_of_owner hrun hmay hprio, if_pos hon]
  case disabled => rw [exec_dmaChDisable_of_owner hrun hmay hprio, hoff]; rfl
  case doorbell =>
    obtain ⟨hreset, hring, htrig⟩ := exec_dmaDoorbell hrun hmay howner
    refine ⟨hreset, fun hup => ⟨fun hst => ?_, fun hst hlink => ?_, fun hst => ?_, fun hroom => ?_, fun hfull => ?_⟩⟩
    · rw [hring, State.dmaRing_of_rest hup hst]
    · rw [hring, State.dmaRing_of_parked hup hst hlink]
    · rw [hring, State.dmaRing_of_busy hup hst]
    · rw [htrig, State.dmaTrigger_of_room hup hroom]
    · rw [htrig, State.dmaTrigger_of_full hfull]
  case arrive =>
    simp only [exec_dmaTriggerArrive, execDmaTriggerArrive, htrig, dmaTriggerFlit, List.erase_cons_head, ← ht,
      State.dmaTrigger_of_room hup hroom]
  case gone => simp only [exec_dmaTriggerQueuePop_of_entry hup hen hroom hpop, hvoid]
  case popped => simp only [exec_dmaTriggerQueuePop_of_entry hup hen hroom hpop, hvoid]
  case fetch =>
    rw [exec_dmaDescriptorFetch_of_read howner hup hst hext hmay hgo hread]
    refine ⟨fun hbad => by rw [if_pos hbad], fun hgood hw hx => ?_⟩
    simp only [hgood, ← hw, ← hx, if_false, Bool.false_eq_true]
    exact ⟨fun hno => by rw [hno]; rfl, fun hok hnone => by rw [if_pos hok, if_pos hnone],
      fun hok hnone => by rw [if_pos hok, hnone]; rfl⟩
  case tagged =>
    simp only [exec_dmaTriggerTake_of_trigger howner hdesc hup hst hitems, htag, if_true, Option.getD_some]
  case untagged =>
    rw [exec_dmaTriggerTake_of_trigger howner hdesc hup hst hitems]
    rcases hown with rfl | hown
    · simp only [Option.getD_none, ite_self]
    · simp only [hown, if_false, Bool.false_eq_true]
  case push => rw [exec_dmaBurst_of_pick he hpick ht howner hdesc, if_pos hop]
  case move => rw [exec_dmaBurst_of_pick he hpick ht howner hdesc, if_neg hop]
  case statusStalls =>
    simp only [exec_dmaDescriptorComplete_of_moved howner hdesc hup hst hlink hmoved hpush hstore, hwb, hstop, if_true]
  case completes =>
    have hnone : (if d.wb then s.accessStops (dmaUnit c) (s.dmaCur c + 48) 8 else none) = none := by
      split
      · exact hgo ‹_›
      · rfl
    simp only [exec_dmaDescriptorComplete_of_moved howner hdesc hup hst hlink hmoved hpush hstore, hnone]
  case again => simp only [exec_dmaLinkReread, execDmaLinkReread, hlink]
  case poison => simp only [exec_dmaLinkReread, execDmaLinkReread, hlink, ← ht]
  case word =>
    rw [exec_dmaLinkReread_of_word ht hlink]
    refine ⟨fun hgo => ?_, fun hstop => ?_⟩
    · rw [hgo]
      exact ⟨fun haligned => congrArg _ (if_pos haligned), fun hodd => congrArg _ (if_neg hodd)⟩
    · rw [if_pos hstop]
      exact ⟨fun hpending => by rw [if_pos hpending], fun hnone => by rw [hnone]; rfl⟩

end Sys2Proof.Machine
end

section
/-!
PROOFS. The Quilt (R462 to R484): patch jobs, the commands of QP_CMD, endpoints, the configuration stream, and the scrubber.
-/

namespace Sys2Proof.Machine

open Reg Ob

section
variable {s t x : State} {r n p : Nat}

/-! ## Patch jobs (R465) -/

section
variable {j : Job} (hj : s.runningOn (patchUnit n) = some j) (hreport : j.report = none)
include hj hreport

theorem exec_patchJob_of_new (hruns : s.patchRuns n = true) (htyp : j.typ = 0x88) (hnew : (s.patch n).given ≠ some j.id) :
    exec (.patchJob n) s = .next (((s.setPatch n { s.patch n with given := some j.id }).incf QP_JOBS_COUNT n).send
      (.patchJob n j.desc j.inputs)) := by
  simp only [exec_patchJob, execPatchJob, hj, if_pos (⟨htyp, hreport, hnew, hruns⟩ : _ ∧ _ ∧ _ ∧ _)]

theorem exec_patchJobEnd_of_given {code : Nat} {result : Half} {ext : Word} {outs : List (List Word)} (hruns : s.patchRuns n = true)
    (hgiven : (s.patch n).given = some j.id) (ht : t = outs.foldl (fun s e => s.jobPush j.id (e.map some)) s) :
    exec (.patchJobEnd n code result ext outs) s = .next ((t.reportJob j.id
      ⟨patchCode code, result.toNat, ext.toNat, false⟩).setPatch n { t.patch n with given := none, late := none }) := by
  simp only [exec_patchJobEnd, execPatchJobEnd, hj, if_pos (⟨hgiven, hreport, hruns⟩ : _ ∧ _ ∧ _), ← ht]

theorem exec_patchJobLateTimeout_of_late {k : Nat} (hlate : (s.patch n).late = some k)
    (hdue : 1024 * s.rf QP_CLK_DIV n * 12288 ≤ (s.tb.count - k) * 60000)
    (ht : t = s.reportJob j.id ⟨codeDroppedLate, 0, 0, false⟩) :
    exec (.patchJobLateTimeout n) s = .next (t.setPatch n { t.patch n with given := none, late := none }) := by
  simp only [exec_patchJobLateTimeout, execPatchJobLateTimeout, hlate, hj, if_pos (And.intro hreport hdue), State.endPatchJob,
    if_pos hreport, ← ht]

end

/-! ## The commands of QP_CMD (R466, R467) -/

theorem State.patchOwner_sf (f : Fld) (i v : Nat) : (s.sf f i v).patchOwner n = s.patchOwner n := rfl

theorem State.isMb_sf (f : Fld) (i v : Nat) : (s.sf f i v).isMb p = s.isMb p := rfl

/-- A write of QP_CMD whose command is done leaves STATUS 0. -/
theorem State.writeQpCmd_of_ok {op : Nat} (hop : op < 16) (hne : op ≠ 0)
    (hwriter : isThimble r = true ∨ s.isOwnerHost r (s.patchOwner n) = true) (hpresent : s.present (patchUnit n) = true)
    (hx : x = s.sf QP_CMD_OP n op) (hok : x.patchCommand r n op = .ok t) : s.writeQpCmd r n op = t.sf QP_CMD_STATUS n 0 := by
  have hw : (isThimble r || s.isOwnerHost r (s.patchOwner n)) = true := by simpa using hwriter
  simp only [State.writeQpCmd, Nat.mod_eq_of_lt hop, hw, hpresent, beq_eq_false_iff_ne.mpr hne, ← hx, hok, Bool.not_true, Bool.or_self,
    if_false, Bool.false_eq_true]

section
variable (howner : s.patchOwner n = some p) (hpermit : (!isThimble r && s.isMb p) = false)
include howner hpermit

theorem State.patchCommand_begin (hst : s.qstate n = qEmpty ∨ s.qstate n = qLoaded ∨ s.qstate n = qFaulted) :
    s.patchCommand r n 1 = .ok (s.clearPatch n qLoading) := by
  simp only [State.patchCommand, howner, hpermit, hst, Option.isSome_some, and_self, if_true, if_false, Bool.false_eq_true]

theorem State.patchCommand_start (hst : s.qstate n = qLoaded) (hauth : s.bit QP_STATE_AUTH n = true)
    (horder : s.startOrderOk n = true) : s.patchCommand r n 2 = .ok (s.setQstate n qRunning) := by
  simp only [State.patchCommand, howner, hpermit, hst, hauth, horder, ne_eq, not_true_eq_false, Bool.not_true, if_false,
    Bool.false_eq_true]

theorem State.patchCommand_stop (hst : s.qstate n = qRunning) : s.patchCommand r n 3 = .ok (s.stopPatch n) := by
  simp only [State.patchCommand, howner, hpermit, hst, if_true, if_false, Bool.false_eq_true]

theorem State.patchCommand_abort (hst : s.qstate n = qLoading ∨ s.qstate n = qLoaded ∨ s.qstate n = qFaulted) :
    s.patchCommand r n 4 = .ok (s.clearPatch n qEmpty) := by
  simp only [State.patchCommand, howner, hpermit, hst, if_true, if_false, Bool.false_eq_true]

theorem State.patchCommand_readFrame (hst : s.qstate n ≠ qRetired)
    (hplain : isThimble r = true ∨ s.bit QP_STATE_ENCRYPTED n = false) (hcolumn : s.rf QP_FAR_COLUMN n ≤ 47)
    (hframe : s.rf QP_FAR_FRAME n ≤ 95) : s.patchCommand r n 5 = .ok (s.readFrame n) := by
  have hreadable : (!isThimble r && s.bit QP_STATE_ENCRYPTED n) = false := by
    rcases hplain with h | h <;> rw [h] <;> simp
  have hinside : ¬(47 < s.rf QP_FAR_COLUMN n ∨ 95 < s.rf QP_FAR_FRAME n) := by omega
  simp only [State.patchCommand, howner, hpermit, if_neg hst, hreadable, if_neg hinside, if_false, Bool.false_eq_true]

theorem State.patchCommand_reset (hst : s.qstate n = qRunning) : s.patchCommand r n 6 = .ok (s.resetPatch n) := by
  simp only [State.patchCommand, howner, hpermit, hst, if_true, if_false, Bool.false_eq_true]

end

theorem State.patchCommand_authorize (howner : s.patchOwner n = some p) (hfw : isThimble r = true) (hst : s.qstate n = qLoaded) :
    s.patchCommand r n 7 = .ok (s.sf QP_STATE_AUTH n 1) := by
  simp only [State.patchCommand, howner, hfw, hst, Bool.not_true, Bool.false_and, if_true, if_false, Bool.false_eq_true]

/-- An endpoint of a patch that is EMPTY or LOADED is bound to a queue of its partition (R484). -/
theorem State.writeEndpoint_of_owner {e v q : Nat} (hwriter : isThimble r = true ∨ s.isOwnerHost r (s.patchOwner n) = true)
    (hpresent : s.present (patchUnit n) = true) (hst : s.qstate n = qEmpty ∨ s.qstate n = qLoaded) (hq : q = bitsOf v 15 0)
    (howner : s.queueOwner q = s.patchOwner n) (hsome : (s.queueOwner q).isSome = true) (out : Bool) :
    s.writeEndpoint r n e v out = if out then (s.sf QP_EPOUT_EN (n * 8 + e) (bitsOf v 31 31)).sf QP_EPOUT_QUEUE (n * 8 + e) q
      else (s.sf QP_EPIN_EN (n * 8 + e) (bitsOf v 31 31)).sf QP_EPIN_QUEUE (n * 8 + e) q := by
  have hw : (isThimble r || s.isOwnerHost r (s.patchOwner n)) = true := by simpa using hwriter
  have hopen : (s.qstate n == qEmpty || s.qstate n == qLoaded) = true := by simpa using hst
  have hown : ((s.queueOwner q).isNone || s.queueOwner q != s.patchOwner n) = false := by
    rw [howner, bne_self_eq_false, ← howner, ← Option.not_isSome, hsome]; rfl
  simp only [State.writeEndpoint, ← hq, hw, hpresent, hopen, hown, Bool.not_true, Bool.or_self, if_false, Bool.false_eq_true]

/-! ## The stream and the logic (R462, R468, R474) -/

theorem exec_quiltStreamWord_of_word {w : Word} {rest : List Carried} (hs : (s.patch n).stream = some w :: rest)
    (ht : t = s.setPatch n { s.patch n with stream := rest }) (hst : t.qstate n = qLoading) :
    exec (.quiltStreamWord n) s = .next (t.streamStep n
      { (t.streamPlain { s.patch n with stream := rest } w).2 with
        count := (s.patch n).count + 1
        plain := (s.patch n).plain ++ [(t.streamPlain { s.patch n with stream := rest } w).1] }
      (t.streamPlain { s.patch n with stream := rest } w).1) := by
  simp only [exec_quiltStreamWord, execQuiltStreamWord, State.streamTake, hs, ← ht, hst, if_true]

/-- An output that changes drives its pins; one of the first 16 that rises raises its event. -/
theorem exec_quiltUserEvent_of_change {k : Nat} {level : Bool} (hruns : s.patchRuns n = true) (hk : k < 32)
    (hchange : natBit (s.patch n).outs k ≠ level) : exec (.quiltUserEvent n k level) s
      = .next (if level && decide (k < 16) then
          ((s.setPatch n { s.patch n with outs := (s.patch n).outs ^^^ 2 ^ k }).drivePins s).raise (0xA00 + n * 16 + k)
        else (s.setPatch n { s.patch n with outs := (s.patch n).outs ^^^ 2 ^ k }).drivePins s) := by
  simp only [exec_quiltUserEvent, execQuiltUserEvent, hruns, hk, decide_eq_true hchange, decide_true, Bool.and_self, if_true]

/-! ## The scrubber (R476 to R480) -/

/-- A sweep that is due begins after the vote over the copies of the control registers. -/
theorem exec_scrubSweepStart_of_due {u : List (Nat × Nat)} (hgood : s.bit QS_STATUS_FAULTY = false)
    (hen : s.bit QS_CTRL_ENABLE = true) (hleft : s.scrub.left = []) (hquilt : s.rf PM_ISLAND_STATE_STATE 78 = 0)
    (hscrub : s.rf PM_ISLAND_STATE_STATE 79 = 0)
    (hdue : s.scrub.since = none ∨ (∃ k, s.scrub.since = some k ∧ s.rf QS_PERIOD_US * 12288 ≤ (s.tb.count - k) * 100))
    (ht : t = (s.upsetCopies u).vote)
    (hx : x = ((List.range 8).filter t.swept).foldl (fun y n => y.testSentinel (t.rf QS_STATUS_SWEEPS) n) t) :
    exec (.scrubSweepStart u) s = .next (if t.bit QS_STATUS_FAULTY then t else
      { x.sf QS_STATUS_SWEEPS 0 (t.rf QS_STATUS_SWEEPS + 1) with
        scrub := { x.scrub with
          since := some x.tb.count, left := (List.range 8).filter t.swept, frame := 0, test := t.rf QS_STATUS_SWEEPS } }) := by
  rcases hdue with hnone | ⟨k, hsome, hdue⟩
  · simp only [exec_scrubSweepStart, execScrubSweepStart, hgood, hen, hleft, hnone, hscrub, quiltIsland, hquilt, ← ht, ← hx,
      List.isEmpty_nil, bne_self_eq_false, Bool.not_true, Bool.or_self, if_false, Bool.false_eq_true]
  · simp only [exec_scrubSweepStart, execScrubSweepStart, hgood, hen, hleft, hsome, hdue, hscrub, quiltIsland, hquilt, ← ht, ← hx,
      List.isEmpty_nil, bne_self_eq_false, decide_true, Bool.not_true, Bool.or_self, if_false, Bool.false_eq_true]

section
variable {rest : List Nat} {up : List (BitVec 80)} {lost : Bool} (hleft : s.scrub.left = n :: rest)
  (hquilt : s.rf PM_ISLAND_STATE_STATE 78 = 0) (hscrub : s.rf PM_ISLAND_STATE_STATE 79 = 0)
include hleft hquilt hscrub

theorem exec_quiltFrameScrub_of_unswept (hno : s.swept n = false) : exec (.quiltFrameScrub up lost) s
    = .next { s with scrub := { s.scrub with left := rest, frame := 0 } } := by
  simp only [exec_quiltFrameScrub, execQuiltFrameScrub, hleft, quiltIsland, hquilt, hscrub, hno, ne_eq, not_true_eq_false, or_self,
    if_true, if_false]

theorem exec_quiltFrameScrub_of_stall {i : Nat × Option Nat} (hswept : s.swept n = true)
    (hstop : s.repairStops n s.scrub.frame up lost = some i) : exec (.quiltFrameScrub up lost) s = .next (s.stallOn i) := by
  simp only [exec_quiltFrameScrub, execQuiltFrameScrub, hleft, quiltIsland, hquilt, hscrub, hswept, hstop, ne_eq, not_true_eq_false,
    or_self, if_false, Bool.true_eq_false]

/-- A frame is checked; after the sentinel the sweep goes to the next patch, and a test error that was not found is a fault of
the scrubber. -/
theorem exec_quiltFrameScrub_of_swept (hswept : s.swept n = true) (hgo : s.repairStops n s.scrub.frame up lost = none)
    (ht : t = s.scrubFrame n s.scrub.frame up lost) : exec (.quiltFrameScrub up lost) s
      = .next (if s.scrub.frame = sentinel then
          (if sentinelFound s.scrub.test (scrubRead ((s.patch n).frameAt sentinel) up) then
            { t with scrub := { t.scrub with left := rest, frame := 0 } }
          else ({ t with scrub := { t.scrub with left := rest, frame := 0 } } : State).scrubFaulty 2)
        else { t with scrub := { t.scrub with frame := s.scrub.frame + 1 } }) := by
  by_cases hframe : s.scrub.frame = sentinel
  · rw [hframe] at hgo ht
    simp only [exec_quiltFrameScrub, execQuiltFrameScrub, hleft, quiltIsland, hquilt, hscrub, hswept, hgo, ← ht, ne_eq,
      not_true_eq_false, or_self, false_or, if_true, if_false, Bool.true_eq_false, hframe]
  · simp only [exec_quiltFrameScrub, execQuiltFrameScrub, hleft, quiltIsland, hquilt, hscrub, hswept, hgo, ← ht, ne_eq,
      not_true_eq_false, or_self, if_false, Bool.true_eq_false, hframe, not_false_eq_true, true_or, if_true]

end

end

/-- Settles O43, command by command. Patch commands that act at once with their status are the model's (log entry 150), and so is
the note of a stall (log entry 60). -/
theorem quiltCommandsComplete : Obligations.QuiltCommandsComplete := by
  refine ⟨fun s t n j hj hreport hruns => ⟨fun htyp hnew => exec_patchJob_of_new hj hreport hruns htyp hnew,
      fun hgiven code result ext outs ht => exec_patchJobEnd_of_given hj hreport hruns hgiven ht⟩,
    fun s t n k j hj hreport hlate hdue ht => exec_patchJobLateTimeout_of_late hj hreport hlate hdue ht,
    fun s r n p x hrun howner hpresent hwho hx => ?commands,
    fun s r n e q v hrun hn he hpresent hwriter hst hq howner hsome => ?endpoints,
    fun s t n w rest => exec_quiltStreamWord_of_word,
    fun s n k level r => ⟨fun hrun => ?fdro, fun hruns hchange => ⟨fun hlevel hk => ?event, fun hquiet hk => ?quiet⟩⟩,
    fun s t n b w hruns hb hw => ⟨fun v hread => ?good, fun hread => ?poison⟩,
    fun s t x u hgood hen hleft hquilt hscrub hdue ht => ⟨fun hfaulty => ?vote, fun hclean hx => ?sweep⟩,
    fun s t n rest up lost hleft hquilt hscrub => ⟨exec_quiltFrameScrub_of_unswept hleft hquilt hscrub,
      fun i => exec_quiltFrameScrub_of_stall hleft hquilt hscrub, fun hswept hgo ht => ?frame⟩,
    fun s t u hfaulty hdue ht => ?firmware⟩
  case commands =>
    have hwriter : isThimble r = true ∨ s.isOwnerHost r (s.patchOwner n) = true := by
      rw [howner]; exact hwho.imp id And.left
    have hpermit (op) : (!isThimble r && (x op).isMb p) = false := by
      rw [hx, State.isMb_sf]
      rcases hwho with h | ⟨-, h⟩ <;> rw [h] <;> simp
    have hown (op) : (x op).patchOwner n = some p := by rw [hx, State.patchOwner_sf, howner]
    have hdo {op : Nat} {t : State} (hop : op < 16) (hne : op ≠ 0) (hok : (x op).patchCommand r n op = .ok t) :
        s.writeQpCmd r n op = t.sf QP_CMD_STATUS n 0 := State.writeQpCmd_of_ok hop hne hwriter hpresent (hx op) hok
    refine ⟨fun hst => ?_, fun hst hauth horder => ?_, fun hst => ?_, fun hst => ?_, fun hst hplain hcolumn hframe => ?_, fun hst => ?_,
      fun hfw hst => ?_⟩
    · rw [exec_quiltBegin, execQuiltBegin, State.atIsland_runs r _ hrun,
        hdo (by decide) (by decide) (State.patchCommand_begin (hown 1) (hpermit 1) hst)]
    · rw [exec_quiltStart, execQuiltStart, State.atIsland_runs r _ hrun,
        hdo (by decide) (by decide) (State.patchCommand_start (hown 2) (hpermit 2) hst hauth horder)]
    · rw [exec_quiltStop, execQuiltStop, State.atIsland_runs r _ hrun,
        hdo (by decide) (by decide) (State.patchCommand_stop (hown 3) (hpermit 3) hst)]
      rfl
    · rw [exec_quiltAbort, execQuiltAbort, State.atIsland_runs r _ hrun,
        hdo (by decide) (by decide) (State.patchCommand_abort (hown 4) (hpermit 4) hst)]
    · rw [exec_quiltReadFrame, execQuiltReadFrame, State.atIsland_runs r _ hrun,
        hdo (by decide) (by decide) (State.patchCommand_readFrame (hown 5) (hpermit 5) hst hplain hcolumn hframe)]
    · rw [exec_quiltReset, execQuiltReset, State.atIsland_runs r _ hrun,
        hdo (by decide) (by decide) (State.patchCommand_reset (hown 6) (hpermit 6) hst)]
      rfl
    · rw [exec_quiltAuthorize, execQuiltAuthorize, State.atIsland_runs r _ hrun,
        hdo (by decide) (by decide) (State.patchCommand_authorize (hown 7) hfw hst)]
  case endpoints =>
    have hinside : ¬(8 ≤ n ∨ 8 ≤ e) := by omega
    simp only [exec_qpEndpointBind, execQpEndpointBind, State.atIsland_runs r _ hrun, if_neg hinside,
      State.writeEndpoint_of_owner hwriter hpresent hst hq howner hsome, if_true, if_false, Bool.false_eq_true, and_self]
  case fdro => simp only [exec_qpFdroRead, execQpFdroRead, State.atIsland_runs r _ hrun, State.readFdro, fdroAddr]
  case event =>
    subst hlevel
    rw [exec_quiltUserEvent_of_change hruns (Nat.lt_trans hk (by decide)) hchange, decide_eq_true hk, Bool.and_self, if_pos rfl]
  case quiet =>
    have : (level && decide (k < 16)) = false := by
      rcases hquiet with h | h
      · rw [h]; rfl
      · rw [decide_eq_false (Nat.not_lt.mpr h), Bool.and_false]
    simp only [exec_quiltUserEvent_of_change hruns hk hchange, this, if_false, Bool.false_eq_true]
  case good =>
    simp only [exec_quiltPoisonRead, execQuiltPoisonRead, hruns, hb, hw, hread, decide_true, Bool.and_self, if_true]
  case poison =>
    simp only [exec_quiltPoisonRead, execQuiltPoisonRead, hruns, hb, hw, hread, decide_true, Bool.and_self, if_true]
  case vote => rw [exec_scrubSweepStart_of_due hgood hen hleft hquilt hscrub hdue ht rfl, if_pos hfaulty]
  case sweep => rw [exec_scrubSweepStart_of_due hgood hen hleft hquilt hscrub hdue ht hx, if_neg (ne_true_of_eq_false hclean)]
  case frame =>
    rw [exec_quiltFrameScrub_of_swept hleft hquilt hscrub hswept hgo ht]
    exact ⟨fun hno => by rw [if_neg hno], fun hlast hfound => by rw [if_pos hlast, if_pos hfound],
      fun hlast hlost => by rw [if_pos hlast, if_neg (ne_true_of_eq_false hlost)]⟩
  case firmware =>
    -- The statement's search of the upsets compiles to a match of its own, equal to the model's by computation.
    rcases hdue with hnone | ⟨k, hsome, hdue⟩
    · simp only [exec_firmwareQuiltSweep, execFirmwareQuiltSweep, hfaulty, hnone, ← ht, Bool.not_true, Bool.or_self, if_false,
        Bool.false_eq_true] <;> rfl
    · simp only [exec_firmwareQuiltSweep, execFirmwareQuiltSweep, hfaulty, hsome, hdue, ← ht, decide_true, Bool.not_true, Bool.or_self,
        if_false, Bool.false_eq_true] <;> rfl

end Sys2Proof.Machine
end

section
/-!
PROOFS. The host port (R489 to R507): the link, completions, rings and events.
-/

namespace Sys2Proof.Machine

open Reg Ob

section
variable {s t : State}

/-! ## The link (R488 to R490, R507) -/

section
variable {req v r0 w0 r1 w1 : Nat}

/-- Replays retrain a link that is up where more than HOST.RETRAIN_REPLAYS have been counted in a second. -/
theorem exec_hostLinkRetrain_of_replays (ht : t = s.countReplays v) (hup : t.bit HP_LINK_STATE_UP = true)
    (hmany : t.ob oHOST_RETRAIN_REPLAYS < t.host.replayCount) : exec (.hostLinkRetrain 0 req v r0 w0 r1 w1) s
      = .next ((t.trainLink r0 w0 r1 w1).sf HP_LINK_STATE_RETRAINING 0 0).releaseHeldRequests := by
  have hallowed : ((0 : Nat) != 1 || isThimble req || isPf0 req) = true := rfl
  simp only [exec_hostLinkRetrain, execHostLinkRetrain, ← ht, zero_ne_one, false_and, hallowed, hup, State.retrainDue, decide_eq_true hmany,
    Bool.or_true, Bool.and_self, if_true, if_false]

theorem exec_hostLinkRetrain_of_few_replays (ht : t = s.countReplays v)
    (hfew : t.host.replayCount ≤ t.ob oHOST_RETRAIN_REPLAYS) (hidle : t.bit HP_LINK_STATE_RETRAINING = false) :
    exec (.hostLinkRetrain 0 req v r0 w0 r1 w1) s = .next t := by
  simp only [exec_hostLinkRetrain, execHostLinkRetrain, ← ht, zero_ne_one, false_and, hidle, State.retrainDue,
    decide_eq_false (Nat.not_lt.mpr hfew), bne_self_eq_false, Bool.or_self, Bool.and_false, if_true, if_false, Bool.false_eq_true]

/-- A write of HP_CTRL by Thimble or PF0 sets the limit that it names, where that lies in its range, and retrains. -/
theorem exec_hostLinkRetrain_of_write (hwho : isThimble req = true ∨ isPf0 req = true)
    (ht : t = (if 1000 ≤ v ∧ v ≤ 1000000 then s.sf HP_CTRL_CPL_TIMEOUT_US 0 v else s)) (hup : t.bit HP_LINK_STATE_UP = true) :
    exec (.hostLinkRetrain 1 req v r0 w0 r1 w1) s
      = .next ((t.trainLink r0 w0 r1 w1).sf HP_LINK_STATE_RETRAINING 0 0).releaseHeldRequests := by
  have hallowed : ((1 : Nat) != 1 || isThimble req || isPf0 req) = true := by simpa using hwho
  have hdue : t.retrainDue 1 = true := rfl
  simp only [exec_hostLinkRetrain, execHostLinkRetrain, hallowed, true_and, Nat.one_ne_zero, if_false, ← ht, hup, hdue,
    Bool.and_self, Bool.or_true, if_true]

theorem exec_hostLinkRetrain_of_partner (hup : s.bit HP_LINK_STATE_UP = true) : exec (.hostLinkRetrain 2 req v r0 w0 r1 w1) s
    = .next ((s.trainLink r0 w0 r1 w1).sf HP_LINK_STATE_RETRAINING 0 0).releaseHeldRequests := by
  have hallowed : ((2 : Nat) != 1 || isThimble req || isPf0 req) = true := rfl
  have hdue : s.retrainDue 2 = true := rfl
  simp only [exec_hostLinkRetrain, execHostLinkRetrain, hallowed, OfNat.ofNat_ne_one, false_and, hup, hdue, OfNat.ofNat_ne_zero, if_false,
    Bool.and_self, Bool.or_true, if_true]

end

/-- The word of HP_LINK_STATE is not that of HP_CTRL. -/
theorem State.linkUp_sf_timeout (v : Nat) : (s.sf HP_CTRL_CPL_TIMEOUT_US 0 v).bit HP_LINK_STATE_UP = s.bit HP_LINK_STATE_UP := by
  rw [State.bit, State.bit, State.rf_sf_other _ _ _ _ (by decide)]

theorem exec_hostLinkDown_of_up (hup : s.bit HP_LINK_STATE_UP = true)
    (ht : t = ((s.sf HP_LINK_STATE_UP 0 0).sf HP_LINK_STATE_RETRAINING 0 0).hostLinkEvent 3) :
    exec .hostLinkDown s = .next { t with host := { t.host with downSince := t.tb.count } } := by
  simp only [exec_hostLinkDown, execHostLinkDown, hup, ← ht, if_true]

theorem exec_hostLinkDownTimeout_of_late (hdown : s.bit HP_LINK_STATE_UP = false)
    (hlate : s.rf HP_CTRL_CPL_TIMEOUT_US * 12288 ≤ (s.tb.count - s.host.downSince) * 100) :
    exec .hostLinkDownTimeout s = .next (({ s with host := { s.host with held := [] } } : State).dropHeld s.host.held) := by
  simp only [exec_hostLinkDownTimeout, execHostLinkDownTimeout, State.linkTimedOut, hdown, hlate, Bool.not_false, decide_true,
    Bool.and_self, if_true]

/-! ## Rings (R497 to R501) -/

section
variable {u i : Nat}

/-- A write of a ring's configuration that turns a ring on that is off (R498). -/
theorem State.writeRingCfg_of_off {v : Nat} (hallowed : (!mayWriteRing u i || !hasPage (i / 256)
    || decide (ringCount (i / 256) ≤ i % 256)) = false) (hoff : s.bit HR_CFG_ENABLE i = false) (hset : natBit v 31 = true)
    (ht : t = ((((((s.sf HR_CFG_DIR i (v / 2 ^ 30)).sf HR_CFG_INTR i (v / 2 ^ 29)).sf HR_CFG_SIZE_LOG2 i (v / 2 ^ 24)).sf
        HR_CFG_QUEUE i v).sf HR_PTR_DEVICE i 0).sf HR_PTR_HOST i 0).setRing i Ring.off) :
    s.writeRingCfg u i v = if t.ringValid i then (t.sf HR_CFG_ENABLE i 1).sf HR_CFG_ERROR i 0 else t.sf HR_CFG_ERROR i 1 := by
  simp only [State.writeRingCfg, hallowed, hoff, hset, ← ht, if_true, if_false, Bool.false_eq_true]

/-- A ring that is on keeps its configuration at a write with ENABLE 1, and goes off at one without, once nothing is on its way. -/
theorem State.writeRingCfg_of_on {v : Nat} (hallowed : (!mayWriteRing u i || !hasPage (i / 256)
    || decide (ringCount (i / 256) ≤ i % 256)) = false) (hon : s.bit HR_CFG_ENABLE i = true) :
    s.writeRingCfg u i v = if natBit v 31 || (s.ring i).disabling then s
      else if s.ringFlying i = 0 then s.ringOff i else s.setRing i { s.ring i with disabling := true } := by
  simp only [State.writeRingCfg, hallowed, hon, if_true, if_false, Bool.false_eq_true]

section
variable {index : Nat} (hallowed : (!mayWriteRing u i || !hasPage (i / 256) || decide (ringCount (i / 256) ≤ i % 256)) = false)
  (hindex : index < 65536)
include hallowed hindex

theorem State.ringDoorbell_of_off (hoff : s.bit HR_CFG_ENABLE i = false) : s.ringDoorbell u i index = s.sf HR_PTR_HOST i index := by
  simp only [State.ringDoorbell, hallowed, Nat.mod_eq_of_lt hindex, hoff, Bool.not_false, if_true, if_false, Bool.false_eq_true]

/-- A doorbell of a host-to-device ring: what the host has written is ahead of DEVICE by no more than the ring holds. -/
theorem State.ringDoorbell_of_toDevice (hon : s.bit HR_CFG_ENABLE i = true) (hdir : s.bit HR_CFG_DIR i = false) :
    s.ringDoorbell u i index = if 2 ^ s.rf HR_CFG_SIZE_LOG2 i < (index + 65536 - s.rf HR_PTR_DEVICE i) % 65536 then
      s.stopRing i codeBadDescriptor else s.sf HR_PTR_HOST i index := by
  have hstays : (s.sf HR_PTR_HOST i index).bit HR_CFG_DIR i = false := by
    rw [State.bit, State.rf_sf_other _ _ _ _ (by decide)]; exact hdir
  simp only [State.ringDoorbell, hallowed, Nat.mod_eq_of_lt hindex, hon, hdir, hstays, Bool.not_true, if_false, Bool.false_eq_true]

/-- A doorbell of a device-to-host ring: the host has not taken more than DEVICE has written; its vector may be sent again. -/
theorem State.ringDoorbell_of_toHost (hon : s.bit HR_CFG_ENABLE i = true) (hdir : s.bit HR_CFG_DIR i = true) :
    s.ringDoorbell u i index = if 2 ^ s.rf HR_CFG_SIZE_LOG2 i < (s.rf HR_PTR_DEVICE i + 65536 - index) % 65536 then
      s.stopRing i codeBadDescriptor
      else (s.sf HR_PTR_HOST i index).setRing i { (s.sf HR_PTR_HOST i index).ring i with vectorSent := false } := by
  have hstays : (s.sf HR_PTR_HOST i index).bit HR_CFG_DIR i = true := by
    rw [State.bit, State.rf_sf_other _ _ _ _ (by decide)]; exact hdir
  simp only [State.ringDoorbell, hallowed, Nat.mod_eq_of_lt hindex, hon, hdir, hstays, Bool.not_true, if_true, if_false,
    Bool.false_eq_true]

end

section
variable (hruns : s.ringRuns i = true)
include hruns

theorem State.ringPush_of_room (hdir : s.bit HR_CFG_DIR i = false)
    (hroom : s.ringFlying i < min ((s.rf HR_PTR_HOST i + 65536 - s.rf HR_PTR_DEVICE i) % 65536) 16)
    (ht : t = { s with host := { s.host with
      pushes := s.host.pushes ++ [(functionUnit (i / 256), s.rf HR_CFG_QUEUE i, i)] } }) (e : List Word) :
    s.ringPush i e = t.pushEntry (s.rf HR_CFG_QUEUE i) (functionUnit (i / 256)) (e.map some) := by
  simp only [State.ringPush, hruns, hdir, decide_eq_true hroom, ← ht, Bool.not_false, Bool.and_self, if_true]

/-- A device-to-host ring with room writes an entry to its slot, then the write-back word, then the vector. -/
theorem State.ringWrite_of_entry {x y : State} {w : List Carried} {slot : Nat} (hdir : s.bit HR_CFG_DIR i = true)
    (hroom : (s.rf HR_PTR_DEVICE i + 65536 - s.rf HR_PTR_HOST i) % 65536 < 2 ^ s.rf HR_CFG_SIZE_LOG2 i)
    (hpop : s.popQueue (s.rf HR_CFG_QUEUE i) (functionUnit (i / 256)) = (.entry w, x))
    (hslot : slot = x.rf HR_BASE_BASE i * 64 + s.rf HR_PTR_DEVICE i % 2 ^ x.rf HR_CFG_SIZE_LOG2 i * 64)
    (hy : y = ((x.hostRequest (.write (functionUnit (i / 256)) (some i) slot (carriedBytes w) (w.any Option.isNone))).sf
      HR_PTR_DEVICE i (s.rf HR_PTR_DEVICE i + 1)).writeBack i) :
    s.ringWrite i = if y.bit HR_CFG_INTR i && !(y.ring i).vectorSent then
      (y.sendVector (i / 256) (y.rf HR_VEC_VECTOR i)).setRing i { y.ring i with vectorSent := true } else y := by
  subst hslot
  simp only [State.ringWrite, hruns, hdir, decide_eq_true hroom, hpop, ← hy, Bool.and_self, if_true]

end

end

end

/-- Settles O44, command by command. That a failed read for a ring ends it with POISON is the model's (log entry 159). -/
theorem hostLinkRingAndEventCommandsComplete : Obligations.HostLinkRingAndEventCommandsComplete := by
  refine ⟨fun s t v r0 w0 r1 w1 req hup => ⟨fun ht hmany hup => exec_hostLinkRetrain_of_replays ht hup hmany,
      fun ht => exec_hostLinkRetrain_of_few_replays ht, fun hwho ht => ?write, exec_hostLinkRetrain_of_partner hup,
      exec_hostLinkDown_of_up hup⟩,
    fun s t rate r0 w0 r1 w1 => ⟨exec_hostLinkDownTimeout_of_late, fun ht => ?linkUp⟩,
    fun s u a n i d => ⟨rfl, rfl, fun st hst => ?unsupported, rfl, rfl, fun st hst => ?ringUnsupported, rfl, rfl⟩,
    fun s t u f r i v c hi hrun hmay hpage hcount => ?rings, fun s t f r i hi hruns => ?entries, fun s e info he => ?event⟩
  case write =>
    refine exec_hostLinkRetrain_of_write hwho ht ?_
    rw [ht]
    split
    · rw [State.linkUp_sf_timeout, hup]
    · exact hup
  case linkUp => simp only [exec_hostLinkUp, execHostLinkUp, ← ht]
  case unsupported =>
    obtain ⟨k, rfl⟩ := Nat.exists_eq_add_of_le' hst
    rfl
  case ringUnsupported =>
    obtain ⟨k, rfl⟩ := Nat.exists_eq_add_of_le' hst
    rfl
  case rings =>
    have hallowed : (!mayWriteRing u i || !hasPage (i / 256) || decide (ringCount (i / 256) ≤ i % 256)) = false := by
      rw [hmay, hpage, decide_eq_false (Nat.not_le.mpr hcount)]; rfl
    have hset : natBit (c ||| 0x80000000).toNat 31 = true := natBit_or rfl
    have hclear : natBit (c &&& 0x7FFFFFFF).toNat 31 = false := natBit_31_and c
    have henable : exec (.hostRingEnable u f r c) s = .next (s.writeRingCfg u i (c ||| 0x80000000).toNat) := by
      rw [exec_hostRingEnable, execHostRingEnable, State.atIsland_runs u _ hrun, hi]
    have hdisable : exec (.hostRingDisable u f r c) s = .next (s.writeRingCfg u i (c &&& 0x7FFFFFFF).toNat) := by
      rw [exec_hostRingDisable, execHostRingDisable, State.atIsland_runs u _ hrun, hi]
    have hbell (index) : exec (.hostRingDoorbell u f r index) s = .next (s.ringDoorbell u i index) := by
      rw [exec_hostRingDoorbell, execHostRingDoorbell, State.atIsland_runs u _ hrun, hi]
    refine ⟨fun hoff hv ht => ?_, fun hon => ⟨?_, fun hgoes hnone => ?_, fun hgoes hsome => ?_, fun index hindex =>
      ⟨fun hdir hfar => ?_, fun hdir hfar => ?_, fun hdir hnear => ?_, fun hdir hnear => ?_⟩⟩, fun hoff index hindex => ?_⟩
    · rw [henable, ← hv, State.writeRingCfg_of_off hallowed hoff (hv ▸ hset) ht]
    · rw [henable, State.writeRingCfg_of_on hallowed hon, hset, Bool.true_or, if_pos rfl]
    · rw [hdisable, State.writeRingCfg_of_on hallowed hon, hclear, hgoes, if_neg (by decide), if_pos hnone]
    · rw [hdisable, State.writeRingCfg_of_on hallowed hon, hclear, hgoes, if_neg (by decide), if_neg hsome]
    · rw [hbell, State.ringDoorbell_of_toDevice hallowed hindex hon hdir, if_pos hfar]
    · rw [hbell, State.ringDoorbell_of_toHost hallowed hindex hon hdir, if_pos hfar]
    · rw [hbell, State.ringDoorbell_of_toDevice hallowed hindex hon hdir, if_neg (Nat.not_lt.mpr hnear)]
    · rw [hbell, State.ringDoorbell_of_toHost hallowed hindex hon hdir, if_neg (Nat.not_lt.mpr hnear)]
    · rw [hbell, State.ringDoorbell_of_off hallowed hindex hoff]
  case entries =>
    refine ⟨fun e hdir hroom ht => ?_, fun x y w slot hdir hroom hpop hslot hy => ⟨fun hsend => ?_, fun hquiet => ?_⟩⟩
    · rw [exec_hostRingEntryPush, execHostRingEntryPush, ← hi, State.ringPush_of_room hruns hdir hroom ht]
    · rw [exec_hostRingEntryWrite, execHostRingEntryWrite, ← hi, State.ringWrite_of_entry hruns hdir hroom hpop hslot hy,
        if_pos hsend]
    · rw [exec_hostRingEntryWrite, execHostRingEntryWrite, ← hi, State.ringWrite_of_entry hruns hdir hroom hpop hslot hy,
        if_neg (ne_true_of_eq_false hquiet)]
  case event => rw [exec_eventRaise, execEventRaise, if_pos he]

end Sys2Proof.Machine
end

section
/-!
PROOFS. The power manager (R549 to R566): tolerances and forecasts, entry and waking of islands, votes, retention, and the
DEEP hold of the device.
-/

namespace Sys2Proof.Machine

open Reg Ob

section
variable {s t : State} {i : Nat}

@[simp] theorem State.isl_setIsl (s : State) (i : Nat) (x : Isl) : (s.setIsl i x).isl i = x := Tab.get_set_self _ _ _ _

/-! ## Entry and waking (R552 to R554) -/

/-- An island takes the next step of its entry; the last one is counted, and the island evaluated. -/
theorem exec_islandEntryStep_of_entering {k v : Nat} (hawake : (s.isl i).waking = none) (hst : s.istate i ≠ 4)
    (hk : k = (s.isl i).step) (hv : v = s.rf PM_ISLAND_STATE_TARGET i) (hle : v ≤ 3) (hleft : k < stateSteps v)
    (ht : t = s.setIstate i (stepState (k + 1)) v (k + 1)) : exec (.islandEntryStep i) s
      = .next ((if stateSteps v = k + 1 then (t.incf PM_ISLAND_ENTRIES_COUNT i).evaluate i else t).followQuilt i).refreshDevice := by
  simp only [exec_islandEntryStep, execIslandEntryStep, hawake, ← hk, ← hv, ← ht, beq_eq_false_iff_ne.mpr hst,
    decide_eq_false (Nat.not_le.mpr hleft), decide_eq_false (Nat.not_lt.mpr hle), Option.isSome_none, Bool.or_self, if_false,
    Bool.false_eq_true]

/-- An island that has entered a state, and is in no transition, begins to wake from it. -/
theorem State.startWake_of_entered (hst : s.istate i = 2 ∨ s.istate i = 3) (hawake : (s.isl i).waking = none)
    (hstep : (s.isl i).step = stateSteps (s.istate i)) (htarget : s.rf PM_ISLAND_STATE_TARGET i = s.istate i)
    (ht : t = s.setIstate i (s.istate i) 0 (s.isl i).step) :
    s.startWake i 0 = t.setIsl i { t.isl i with waking := some false } := by
  have hgo : s.istate i ≠ 4 ∧ 0 < s.istate i := by rcases hst with h | h <;> rw [h] <;> decide
  have hstays : (decide (s.istate i < s.istate i) || decide (stateSteps (s.istate i) < stateSteps (s.istate i))) = false := by
    rw [decide_eq_false (Nat.lt_irrefl _), decide_eq_false (Nat.lt_irrefl _)]; rfl
  rw [hstep] at ht
  simp only [State.startWake, if_neg hgo.1, hawake, htarget, hstep, hstays, if_pos hgo.2, ← ht, Option.isSome_none, if_false,
    Bool.false_eq_true]

/-- NEXT_USE is within the forecast horizon and the wake latency (R552). -/
theorem exec_islandPrewake_of_near {n : Nat} (hst : s.istate i = 2 ∨ s.istate i = 3) (hnext : s.pmNextUse i = some n)
    (hhold : s.bit PM_DEVICE_HOLD_DEEP = false) (hhorizon : n < s.tb.count + s.ob oSHUTTLE_FORECAST_HORIZON)
    (hnear : n ≤ s.tb.count + (wakeNs (s.istate i) * 12288 + 99999) / 100000) :
    exec (.islandPrewake i) s = .next (s.startWake i 0) := by
  simp only [exec_islandPrewake, execIslandPrewake, hnext, if_pos (⟨hst, hhold, hhorizon, hnear⟩ : _ ∧ _ ∧ _ ∧ _)]

/-- The first flit that waits at an island's stitches begins a stall and wakes it (R553). -/
theorem exec_islandWakeRequest_of_first {b : Option Nat} (hst : s.istate i ≠ 4)
    (hwaits : s.islandStops i = true ∨ (∃ m, b = some m ∧ (s.isl i).closed.contains m = true)) (hfirst : (s.isl i).stall = none)
    (ht : t = (s.setIsl i { s.isl i with lastFlit := s.tb.count, stall := some (s.tb.count, b) }).startWake i 0) :
    exec (.islandWakeRequest i b) s
      = .next (((if t.islandStops i then t else t.endStall i).followQuilt i).refreshDevice) := by
  rcases hwaits with h | ⟨m, rfl, h⟩
  · simp only [exec_islandWakeRequest, execIslandWakeRequest, h, Bool.true_or, hst, Bool.true_eq_false, or_self, if_false, hfirst,
      Option.isNone_none, if_true, ← ht]
  · simp only [exec_islandWakeRequest, execIslandWakeRequest, h, Bool.or_true, hst, Bool.true_eq_false, or_self, if_false, hfirst,
      Option.isNone_none, if_true, ← ht]

/-- A wake from SLEEP, which was no abort, is counted and opens nothing; without a stall the island is evaluated. -/
theorem State.wakeDone_of_sleep {v : Nat} (hwaking : (s.isl i).waking = some false) (hst : s.istate i = 2)
    (hv : v = s.rf PM_ISLAND_STATE_TARGET i) (hi : i ≠ quiltIsland)
    (ht : t = (s.setIstate i v v (stateSteps v)).incf PM_ISLAND_WAKES_COUNT i) (hstall : (t.isl i).stall = none) :
    s.wakeDone i = (t.setIsl i { t.isl i with waking := none, closed := (t.isl i).closed }).evaluate i := by
  have hshallow : ¬(2 : Nat) = 3 := by decide
  have hother : ¬(i = quiltIsland ∧ v = 0) := fun h => hi h.1
  simp only [State.wakeDone, hwaking, hst, ← hv, if_neg hshallow, if_neg hother, ← ht, State.isl_setIsl, hstall, if_false,
    Bool.false_eq_true]

/-! ## Retained banks (R560, R561) -/

/-- The sweep of a retained Gusset register file opens its bank; one that is lost becomes POISON. -/
theorem exec_retentionBankSweepDone_of_gusset {m : Nat} {up : List (Nat × BitVec 80)} (hkind : m / 0x1000 = 3)
    (hclosed : (s.isl (memIsland m)).closed.contains m = true)
    (ht : t = s.setIsl (memIsland m) { s.isl (memIsland m) with closed := (s.isl (memIsland m)).closed.erase m }) (lost : Bool)
    (hstall : ((if lost then t.bankLost (memIsland m) m else t).isl (memIsland m)).stall = none) :
    exec (.retentionBankSweepDone m up 0 lost) s = .next (if lost then t.bankLost (memIsland m) m else t) := by
  simp only [exec_retentionBankSweepDone, execRetentionBankSweepDone, hclosed, if_pos hkind, ← ht, List.range_zero, List.foldl_nil,
    hstall, Bool.not_true, if_false, Bool.false_eq_true]

/-! ## The DEEP hold (R564 to R566) -/

theorem exec_pmEndDeepHold_of_hold (hhold : s.bit PM_DEVICE_HOLD_DEEP = true) : exec .pmEndDeepHold s
    = .next ((((((List.range 80).foldl (fun s i => s.evaluate i) (s.sf PM_DEVICE_HOLD_DEEP 0 0)).startWake 81 0).refreshDevice)).send
      (.objectDone 0x8000 2 codeDone)) := by
  simp only [exec_pmEndDeepHold, execPmEndDeepHold, State.endHoldCommand, State.endHold, if_pos hhold]

/-- The vote over the device: where every island agrees each gets its goal, and the hold is in force (R565). -/
theorem exec_pmDeviceDeep_of_vote {hits : List (Nat × Nat)} {agreed : Bool} (hhold : s.bit PM_DEVICE_HOLD_DEEP = false)
    (hvote : (s.sf PM_DEVICE_HOLD_DEEP 0 1).collectVotes 16 hits [] s.deepTargets = (agreed, t)) : exec (.pmDeviceDeep hits) s
      = .next ((if agreed then (s.deepTargets.foldl (fun s e => s.setIsl e.1 { s.isl e.1 with goal := e.2 }) t).refreshDevice
        else (t.sf PM_DEVICE_HOLD_DEEP 0 0).refreshDevice).send (.objectDone 0x8000 2 codeDone)) := by
  simp only [exec_pmDeviceDeep, execPmDeviceDeep, State.deepCommand, State.deviceDeep, hhold, hvote, if_false, Bool.false_eq_true]

end

/-- Settles O45, command by command. That an aborted wake is no wake and STALL_MAX takes every stall is the model's (log entry 164),
and so is the goal under the DEEP hold (log entry 165). -/
theorem powerManagerCommandsComplete : Obligations.PowerManagerCommandsComplete := by
  refine ⟨fun s g us hits => ⟨fun hg hus => ?tolerance, fun hfar => ?farTolerance⟩, fun s t hits ht => ?nextUse, fun s i q => rfl,
    fun s t i k v hawake hst hk hv hle ht => ⟨fun hmore => ?entry, fun hlast => ?entered⟩,
    fun s t hits r hr ht => ⟨fun hdevice => ?deviceRetry, fun hgroup => ?groupRetry⟩,
    fun s i n hst hnext hhold hhorizon hnear hawake hstep htarget => ?prewake,
    fun s t i b hst hwaits hfirst ht => ⟨fun hstops => ?wakes, fun hgoes => ?goesOn⟩,
    fun s t i v hwaking hst hv hi ht hstall => ?woken,
    fun s t m up hkind hclosed ht hstall => ⟨?kept, fun hlost =>
      exec_retentionBankSweepDone_of_gusset hkind hclosed ht true hlost⟩,
    fun s hits => ⟨fun hhold => ⟨exec_pmEndDeepHold_of_hold hhold, ?held⟩,
      fun hhold => ⟨?noHold, fun t hvote => exec_pmDeviceDeep_of_vote hhold hvote, fun t hvote => ?refused⟩⟩⟩
  case tolerance => simp only [exec_toleranceWrite, execToleranceWrite, if_pos (And.intro hg hus)]
  case farTolerance =>
    rw [exec_toleranceWrite, execToleranceWrite, if_neg fun h => Nat.not_le.mpr hfar h.2]
  case nextUse => simp only [exec_nextUseReceive, execNextUseReceive, ← ht]
  case entry =>
    rw [exec_islandEntryStep_of_entering hawake hst hk hv hle (by omega) ht, if_neg (Nat.ne_of_gt hmore)]
  case entered => rw [exec_islandEntryStep_of_entering hawake hst hk hv hle (by omega) ht, if_pos hlast.symm]
  case deviceRetry => simp only [exec_powerVoteRetry, execPowerVoteRetry, hr, ← ht, if_pos hdevice]
  case groupRetry => simp only [exec_powerVoteRetry, execPowerVoteRetry, hr, ← ht, if_neg hgroup]
  case prewake =>
    rw [exec_islandPrewake_of_near hst hnext hhold hhorizon hnear, State.startWake_of_entered hst hawake hstep htarget rfl]
  case wakes => rw [exec_islandWakeRequest_of_first hst hwaits hfirst ht, if_pos hstops]
  case goesOn => rw [exec_islandWakeRequest_of_first hst hwaits hfirst ht, if_neg (ne_true_of_eq_false hgoes)]
  case woken =>
    rw [exec_islandWakeComplete, execIslandWakeComplete, State.wakeDone_of_sleep hwaking hst hv hi ht hstall]
  case kept =>
    refine exec_retentionBankSweepDone_of_gusset hkind hclosed ht false ?_
    rw [if_neg (by decide), ht, State.isl_setIsl]
    exact hstall
  case held => simp only [exec_pmDeviceDeep, execPmDeviceDeep, State.deepCommand, if_pos hhold]
  case noHold => simp only [exec_pmEndDeepHold, execPmEndDeepHold, State.endHoldCommand, if_neg (ne_true_of_eq_false hhold)]
  case refused => exact exec_pmDeviceDeep_of_vote hhold hvote

end Sys2Proof.Machine
end

section
/-!
PROOFS. Faults, spares and continuity (R573 to R594): upsets and retirement, reinstatement, the Thimble pairs, and warm resets.
-/

namespace Sys2Proof.Machine

open Reg Ob

section
variable {s t x : State} {c u n v p : Nat}

/-! ## Upsets (R573, R574) -/

/-- An upset of a usable unit is handled at once, and recorded while firmware runs. -/
theorem exec_upsetReport_of_usable (hpresent : s.healthPresent c u = true) (hused : s.healthRetired c u = false)
    (ht : t = s.handleUpset c u) (hup : t.thimbleUp = true) : exec (.upsetReport c u) s
      = .next (if c < 8 ∧ c ≠ 4 then t.countUpset c u else t.noteUpset c u) := by
  simp only [exec_upsetReport, execUpsetReport, hpresent, hused, ← ht, hup, Bool.not_true, Bool.or_self, if_false, Bool.false_eq_true]

/-- The count of a unit's upsets in the window decides what follows. -/
theorem State.countUpset_eq {l : List (Nat × Nat × Nat)} (hl : l = ((c, u, t.tb.count) :: t.health.upsets).filter
      (fun e => decide (t.tb.count < e.2.2 + t.ob oFAULT_WINDOW_S * ticksPerSecond)))
    (hx : x = { t with health := { t.health with upsets := l } })
    (hn : n = (l.filter (fun e => e.1 == c && e.2.1 == u)).length) :
    t.countUpset c u = if n < x.upsetLimit c then x.noteUpset c u
      else if natBit (x.ob oFAULT_AUTO_RETIRE) c then x.retireUnit c u causeLimit
      else (x.noteUpset c u).raise evRetireDue (c * 65536 + u) := by
  simp only [State.countUpset, ← hl, ← hx, ← hn]

/-! ## FAULT.RETIRE and FAULT.REINSTATE (R574, R581, R592) -/

section
variable (hc : c = v / 2 ^ 24 % 256) (hu : u = v % 65536)
include hc

theorem State.faultRetire_of_reserved (hbad : v / 65536 % 256 ≠ 0 ∨ 9 < c) : s.faultRetire v = (codeBadDescriptor, s) := by
  simp only [State.faultRetire, ← hc, if_pos hbad]

include hu
variable (hzero : v / 65536 % 256 = 0)
include hzero

theorem State.faultRetire_of_absent (hcls : c ≤ 9) (habsent : s.healthPresent c u = false) :
    s.faultRetire v = (codeNoUnit, s) := by
  have hgood : ¬(v / 65536 % 256 ≠ 0 ∨ 9 < c) := by omega
  simp only [State.faultRetire, ← hc, ← hu, if_neg hgood, habsent, Bool.not_false, if_true]

variable (hcls : c ≤ 8) (hpresent : s.healthPresent c u = true)
include hcls hpresent

theorem State.faultRetire_of_retired (hgone : s.healthRetired c u = true) : s.faultRetire v = (codeDone, s) := by
  have hgood : ¬(v / 65536 % 256 ≠ 0 ∨ 9 < c) := by omega
  simp only [State.faultRetire, ← hc, ← hu, if_neg hgood, hpresent, hgone, Bool.not_true, if_true, if_false, Bool.false_eq_true]

theorem State.faultRetire_of_used (hused : s.healthRetired c u = false) (hup : s.thimbleUp = true) :
    s.faultRetire v = (codeDone, s.retireUnit c u causeManual) := by
  have hgood : ¬(v / 65536 % 256 ≠ 0 ∨ 9 < c) := by omega
  have hpair : ¬(c = 9 ∧ u = s.activePair) := by omega
  simp only [State.faultRetire, ← hc, ← hu, if_neg hgood, if_neg hpair, hpresent, hused, hup, Bool.not_true, if_true, if_false,
    Bool.false_eq_true]

end

/-- A record of a unit that may come back is marked, and its unit returns with its panel where it has one. -/
theorem State.faultReinstate_of_record {r : Nat} {l : List Byte} (hl : l = s.dom oFAULT_RETIREMENTS) (hlen : 32 * (r + 1) ≤ l.length)
    (hc : c = fieldAt l (32 * r) 1) (hu : u = fieldAt l (32 * r + 2) 2) (hnew : natBit (fieldAt l (32 * r + 5) 1) 2 = false)
    (hcls : c < 8) (hepochs : (returnUnits c u).all (fun k => decide (Tab.get 0 s.health.epochs k < 250)) = true)
    (ht : t = s.sdom oFAULT_RETIREMENTS 0 (markReinstated l r))
    (hx : x = { t with health := { t.health with returns := t.health.returns ++ [(c, u, r)] } }) :
    s.faultReinstate r = (codeDone, match returnPanel c u with
      | some p => x.resetPanel p
      | none => x) := by
  have hworn : (returnUnits c u).any (fun k => decide (250 ≤ Tab.get 0 s.health.epochs k)) = false := by
    refine List.any_eq_false.mpr fun k hk => ?_
    have := of_decide_eq_true (List.all_eq_true.mp hepochs k hk)
    simpa using this
  have hrank : ¬(c = 8 ∧ s.rf DRAM_MIG_STATE_STATE (u / 4) = 1) := by omega
  cases hpanel : returnPanel c u <;>
    simp only [State.faultReinstate, ← hl, if_neg (Nat.not_lt.mpr hlen), ← hc, ← hu, if_neg (Nat.ne_of_lt (Nat.lt_trans hcls (by decide :
      8 < 9))), hnew, if_neg hrank, hworn, ← ht, ← hx, hpanel, if_false, Bool.false_eq_true]

/-! ## The Thimble pairs (R587 to R589) -/

theorem State.activePair_lt (s : State) : s.activePair < 2 := by
  unfold State.activePair
  split <;> decide

/-- A first mismatch of the active pair hands over to a standby that is ready; without one the restart begins. -/
theorem State.pairFails_of_active (hup : s.thimbleUp = true) (hp : p = s.activePair) (hused : s.pairRetired p = false)
    (htest : s.health.testing.contains p = false) (hfirst : s.mismatchesOf p = 0)
    (ht : t = { s with health := { s.health with mismatches := (p, s.tb.count) :: s.health.mismatches } }) :
    s.pairFails p = if t.standbyReady then t.failover else t.restartThimble := by
  have hworks : ¬(s.thimbleUp = false ∨ 2 ≤ p ∨ s.pairRetired p = true ∨ s.health.testing.contains p = true) := by
    have := s.activePair_lt
    rw [hup, hused, htest, hp]
    simpa using this
  have hactive : p = t.activePair := by rw [hp, ht]; rfl
  have honce : decide (1 ≤ s.mismatchesOf p) = false := by rw [hfirst]; rfl
  simp only [State.pairFails, if_neg hworks, honce, ← ht, if_pos hactive, Bool.false_and, if_false, Bool.false_eq_true]

/-- A restart ends with the pairs that pass their self-test. -/
theorem exec_thimbleRestart_of_passes {ok : List Nat} (hdown : s.ob oFAULT_THIMBLE = 4) (hA : s.pairRetired 0 = false)
    (hB : s.pairRetired 1 = false) (hok : ok.contains 0 = true ∨ ok.contains 1 = true)
    (ht : t = s.so oFAULT_THIMBLE 0 (if ok.contains 0 && ok.contains 1 then 0 else if ok.contains 0 then 2 else 3)) :
    exec (.thimbleRestart ok) s
      = .next (({ t with health := { t.health with testing := [] } } : State).flushInbox.raise evThimbleRestart) := by
  have hsome : (!ok.contains 0 && !ok.contains 1) = false := by rcases hok with h | h <;> rw [h] <;> simp
  simp only [exec_thimbleRestart, execThimbleRestart, hdown, hA, hB, Bool.not_false, Bool.and_true, hsome, ← ht, ne_eq,
    not_true_eq_false, if_false, Bool.false_eq_true]

end

/-- Settles O46, command by command. That a retirement is one step with its record, that a manual retirement of the active pair fails
it over, and what a warm reset keeps are the model's (log entries 168 to 171 and 176). -/
theorem healthAndResetCommandsComplete : Obligations.HealthAndResetCommandsComplete := by
  refine ⟨fun s t c u n hpresent hused ht hup => ⟨fun hcls => ?noted, fun x l hlt hne hl hx hn => ?counted⟩,
    fun s c u cause hpresent hused => ?retire,
    fun s v c u hc hu => ⟨fun hbad => ?reserved, fun hzero hcls habsent => ?absent, fun hzero hcls hpresent hgone => ?gone,
      fun hzero hcls hpresent hused hup => ?manual⟩,
    fun s t r c u l hl => ⟨fun hshort => ?noRecord, fun hlen hc hu hnew hcls hepochs ht => ⟨fun hnone => ?returns,
      fun p hpanel => ?returnsWithPanel⟩⟩,
    fun s hready hdue => ?checkpoint,
    fun s t p hup hp hused htest hfirst ht => ⟨fun hready => ?failover, fun hno => ?restart⟩,
    fun s t ok hdown hA hB hok ht => exec_thimbleRestart_of_passes hdown hA hB hok ht,
    fun s t p hup htest => ⟨fun ht => ?passes, ?fails⟩,
    fun s r p hrun hmay hpanel => ?panelReset,
    fun s session v cause link => ⟨fun hno => ?denied, fun hadmin hv => ?badValue, fun hadmin => ?asked, fun hphase => ?pin,
      fun hphase hdue => ?warm⟩⟩
  case noted =>
    rw [exec_upsetReport_of_usable hpresent hused ht hup, if_neg (by omega)]
  case counted =>
    rw [exec_upsetReport_of_usable hpresent hused ht hup, if_pos ⟨hlt, hne⟩, State.countUpset_eq hl hx hn]
    exact ⟨fun hfew => by rw [if_pos hfew], fun hlimit hauto => by rw [if_neg (Nat.not_lt.mpr hlimit), if_pos hauto],
      fun hlimit hauto => by rw [if_neg (Nat.not_lt.mpr hlimit), if_neg (ne_true_of_eq_false hauto)]⟩
  case retire => simp only [exec_unitRetire, execUnitRetire, hpresent, hused, Bool.not_false, Bool.and_self, if_true]
  case reserved => rw [exec_faultRetireCommand, execFaultRetireCommand, State.faultRetire_of_reserved hc hbad]
  case absent => rw [exec_faultRetireCommand, execFaultRetireCommand, State.faultRetire_of_absent hc hu hzero hcls habsent]
  case gone => rw [exec_faultRetireCommand, execFaultRetireCommand, State.faultRetire_of_retired hc hu hzero hcls hpresent hgone]
  case manual => rw [exec_faultRetireCommand, execFaultRetireCommand, State.faultRetire_of_used hc hu hzero hcls hpresent hused hup]
  case noRecord =>
    rw [hl] at hshort
    simp only [exec_faultReinstateCommand, execFaultReinstateCommand, State.faultReinstate, if_pos hshort]
  case returns =>
    simp only [exec_faultReinstateCommand, execFaultReinstateCommand,
      State.faultReinstate_of_record hl hlen hc hu hnew hcls hepochs ht rfl, hnone]
  case returnsWithPanel =>
    simp only [exec_faultReinstateCommand, execFaultReinstateCommand,
      State.faultReinstate_of_record hl hlen hc hu hnew hcls hepochs ht rfl, hpanel]
  case checkpoint =>
    simp only [exec_thimbleCheckpoint, execThimbleCheckpoint, hready, decide_eq_true hdue, Bool.and_self, if_true]
  case failover =>
    rw [exec_thimbleFailover, execThimbleFailover, State.pairFails_of_active hup hp hused htest hfirst ht, if_pos hready]
  case restart =>
    rw [exec_thimbleFailover, execThimbleFailover, State.pairFails_of_active hup hp hused htest hfirst ht,
      if_neg (ne_true_of_eq_false hno)]
  case passes =>
    simp only [exec_thimblePairSelfTestDone, execThimblePairSelfTestDone, hup, htest, ← ht, Bool.not_true, Bool.or_self, if_true,
      if_false, Bool.false_eq_true]
  case fails =>
    simp only [exec_thimblePairSelfTestDone, execThimblePairSelfTestDone, hup, htest, Bool.not_true, Bool.or_self, if_false,
      Bool.false_eq_true]
  case panelReset =>
    simp only [exec_panelReset, execPanelReset, State.atIsland_runs r _ hrun, hmay, hpanel, Bool.and_self, if_true]
  case denied => simp only [exec_faultWarmResetCommand, execFaultWarmResetCommand, State.warmCommand, hno, Bool.not_false, if_true]
  case badValue =>
    simp only [exec_faultWarmResetCommand, execFaultWarmResetCommand, State.warmCommand, hadmin, if_pos hv, Bool.not_true, if_false,
      Bool.false_eq_true]
  case asked =>
    simp only [exec_faultWarmResetCommand, execFaultWarmResetCommand, State.warmCommand, hadmin, ne_eq, not_true_eq_false,
      Bool.not_true, if_false, Bool.false_eq_true]
  case pin => rw [exec_warmNAssert, execWarmNAssert, if_pos hphase]
  case warm =>
    have : s.warmDue cause = true := by simpa [State.warmDue, hphase] using hdue
    rw [exec_warmReset, execWarmReset, if_pos this]

end Sys2Proof.Machine
end

section
/-!
PROOFS. Boot, firmware, images, attestation, the store and device power (R518, R542, R568, R598 to R608).
-/

namespace Sys2Proof.Machine

open Reg Ob

section
variable {s t x y : State} {n k : Nat}

/-! ## Cold boot (R599, R600) -/

section
variable {slots : List Nat} {trial reverted : Bool} (failed : List (Nat × Nat)) (bc br : List Nat) (cfg un : List (Nat × Nat))
  (link : Nat × Nat × Nat × Nat × Nat) (hselect : (s.coldReset 0).selectSlot = (slots, trial, reverted, t))
include hselect

/-- With no image that passes, the boot stops with GPIO15 low. -/
theorem exec_coldBoot_of_no_image
    (hnone : slots.find? (fun k => (t.imageFault (t.slotImage k) 1 (bodyDigest (t.slotImage k)) true).isNone) = none) :
    exec (.coldBoot failed bc br cfg un link) s
      = .next (({ t with boot := { t.boot with phase := 2 } } : State).send (.pin "GPIO15" false)) := by
  simp only [exec_coldBoot, execColdBoot, hselect, hnone]

/-- The first image that passes starts. -/
theorem exec_coldBoot_of_image
    (hsome : slots.find? (fun k => (t.imageFault (t.slotImage k) 1 (bodyDigest (t.slotImage k)) true).isNone) = some k) :
    exec (.coldBoot failed bc br cfg un link) s
      = .next (((t.bootFirmware k (trial && k == slots.headD 0) reverted s.boot.tampered bc br).bootUnits failed cfg un
        link).raise evBootDone) := by
  simp only [exec_coldBoot, execColdBoot, hselect, hsome]

end

/-- The steps of a firmware start, in their order: measurement, the store, the names, retirements, the count of boots, and what is
announced. -/
theorem State.bootFirmware_eq {a b c d : State} {inTrial reverted : Bool} {bc br : List Nat}
    (ha : a = s.extend 0 (imageDigest (s.slotImage k)))
    (hb : b = ((((a.extendEvent (valBytes 4 a.policyWord ++ (List.range 4).flatMap (fun i =>
      Tab.get [] a.boot.custKeys (i + 1)))).openStore bc br).countJournal).restoreScrub).nameFirmware k inTrial)
    (hc : c = ({ b with boot := { b.boot with
      tampered := false, trial := if inTrial then some (b.tb.count, 1 - k) else none } } : State).reapplyAll)
    (hd : d = (if reverted then (c.so oID_BOOT_COUNT 0 (c.ob oID_BOOT_COUNT + 1)).raise evFw 4
      else c.so oID_BOOT_COUNT 0 (c.ob oID_BOOT_COUNT + 1))) (tampered : Bool) :
    s.bootFirmware k inTrial reverted tampered bc br
      = if tampered then (d.extendEvent (textBytes "TAMPER")).raise evTamper else d := by
  simp only [State.bootFirmware, ← ha, ← hb, ← hc, ← hd]

/-! ## Firmware updates (R601, R602) -/

/-- FW commands of a session that is not ADMIN are DENIED. -/
theorem exec_firmware_of_other {a mv : Nat} {b : Bool} (hno : s.isAdmin n = false) :
    exec (.fwUpdate n a b) s = .next (s.send (.objectDone 0xA000 4 codeDenied)) ∧
    exec (.fwSwitch n) s = .next (s.send (.objectDone 0xA000 6 codeDenied)) ∧
    exec (.fwConfirm n) s = .next (s.send (.objectDone 0xA000 6 codeDenied)) ∧
    exec (.fwRevert n) s = .next (s.send (.objectDone 0xA000 6 codeDenied)) ∧
    exec (.fwRaiseFwSvn n mv) s = .next (s.send (.objectDone 0xA000 6 codeDenied)) ∧
    exec (.fwRaiseMbSvn n mv) s = .next (s.send (.objectDone 0xA000 6 codeDenied)) := by
  simp only [exec_fwUpdate, execFwUpdate, exec_fwSwitch, execFwSwitch, exec_fwConfirm, execFwConfirm, exec_fwRevert, execFwRevert,
    exec_fwRaiseFwSvn, execFwRaiseFwSvn, exec_fwRaiseMbSvn, execFwRaiseMbSvn, State.raiseFwSvn, State.raiseMbSvn, hno, Bool.not_false,
    Bool.true_or, if_true, if_false, Bool.false_eq_true, and_self]

section
variable {a : Nat} {l : List Byte} (hidle : s.ob oFW_UPDATE_STATE ≠ 1) (hread : s.readImage (a % 2 ^ 48) = (some l, t))
include hidle hread

theorem State.fwUpdate_of_fault (programmed : Bool) (hbad : t.imageFault l 1 (bodyDigest l) true = some k) :
    s.fwUpdate a programmed = (codeDone, ((t.rejectImage k).so oFW_UPDATE_STATE 0 3).raise evFw 2) := by
  simp only [State.fwUpdate, if_neg hidle, hread, hbad]

theorem State.fwUpdate_of_good (hactive : s.directory.active = 1)
    (hgood : t.imageFault l 1 (bodyDigest l) true = none) :
    s.fwUpdate a true = (codeDone, ((({ t with boot := { t.boot with slots := t.boot.slots.set 0 l } } : State).so oFW_VERSION_A 0
      (imageVersion l)).so oFW_UPDATE_STATE 0 2).raise evFw 1) := by
  simp only [State.fwUpdate, if_neg hidle, hread, hgood, hactive, Nat.sub_self, if_true]

end

theorem State.fwSwitch_of_ready (hupdated : s.ob oFW_UPDATE_STATE = 2) (hready : s.standbyReady = true)
    (ht : t = (s.writeDirectory (1 - s.directory.active) true 0).switchTo (1 - s.directory.active) true) :
    s.fwSwitch = (codeDone, (({ t with boot := { t.boot with trial := some (t.tb.count, s.rf SEC_STATUS_FW_SLOT) } } : State).so
      oFW_UPDATE_STATE 0 0).raise evFw 3) := by
  simp only [State.fwSwitch, hupdated, hready, ne_eq, not_true_eq_false, Bool.true_eq_false, or_self, if_false, ← ht]

theorem State.fwConfirm_of_trial (htrial : s.boot.trial.isSome = true) (ht : t = s.writeDirectory s.directory.active false 0) :
    s.fwConfirm = (codeDone, (({ t with boot := { t.boot with trial := none } } : State).sf SEC_STATUS_FW_TRIAL 0 0).raise evFw 5) := by
  have hnone : s.boot.trial.isNone = false := by rw [← Option.not_isSome, htrial]; rfl
  simp only [State.fwConfirm, hnone, Bool.false_and, if_false, Bool.false_eq_true, ← ht]

theorem State.fwRevert_of_trial {w m : Nat} (hready : s.standbyReady = true) (htrial : s.boot.trial = some (w, m))
    (ht : t = (s.writeDirectory (if m = 2 then 0 else m) false 0).switchTo m false) :
    s.fwRevert = (codeDone, ({ t with boot := { t.boot with trial := none } } : State).raise evFw 4) := by
  simp only [State.fwRevert, hready, htrial, Bool.true_eq_false, if_false, ← ht]

/-! ## Engine code and patch images (R606 to R608) -/

/-- A request to load engine code whose image can be read: the image is rejected, or every engine of the range is loaded and the
image measured for their partitions. -/
theorem State.imageLoad_of_read {x : Session} {v l : List Byte} {gs : List Nat} (hlen : v.length = 16)
    (hzero : headerZero v 12 4 = true) (hcount : fieldAt v 10 2 ≠ 0) (hrange : fieldAt v 8 2 + fieldAt v 10 2 ≤ 1088)
    (hread : s.readImage (fieldAt v 0 6) = (some l, t))
    (hgs : gs = (List.range (fieldAt v 10 2)).map (fun i => fieldAt v 8 2 + i))
    (hy : y = gs.foldl (fun s g => (s.firmwareWaits (engineCodeBase g) 0x8000).writeWords (engineCodeBase g) unitThimble
      (codeWords (imageBody l))) t) :
    (∀ k, t.imageFault l 4 (bodyDigest l) (gs.all (fun g => t.loadable x g)) = some k →
      s.imageLoad x v = (codeDenied, t.rejectImage k)) ∧
    (t.imageFault l 4 (bodyDigest l) (gs.all (fun g => t.loadable x g)) = none → s.imageLoad x v
      = (codeDone, (partitions.filter (fun p => gs.any (fun g => y.panelOwner (g / 17) == some p))).foldl
        (fun s p => s.extend (2 + p) (imageDigest l)) y)) := by
  have hformed : ¬(v.length ≠ 16 ∨ headerZero v 12 4 = false ∨ fieldAt v 10 2 = 0 ∨ 1088 < fieldAt v 8 2 + fieldAt v 10 2) := by
    rw [hlen, hzero]
    simp only [ne_eq, not_true_eq_false, Bool.true_eq_false, false_or]
    omega
  refine ⟨fun k hbad => ?_, fun hgood => ?_⟩
  · simp only [State.imageLoad, if_neg hformed, hread, ← hgs, hbad]
  · simp only [State.imageLoad, if_neg hformed, hread, ← hgs, hgood, ← hy]

/-- A request to authorize a patch whose image can be read is checked against the patch. -/
theorem State.quiltAuth_of_read {x : Session} {v l : List Byte} {p : Nat} (hlen : v.length = 16) (hlow : headerZero v 1 7 = true)
    (hhigh : headerZero v 14 2 = true) (hk : k = fieldAt v 0 1) (howner : s.patchOwner k = some p) (hmb : s.isMb p = false)
    (hread : (s.firmwareWaits (fieldAt v 8 6) 320).readBytes (fieldAt v 8 6) 320 unitThimble 0 = (some l, t)) :
    s.quiltAuth x v = t.authorize k p l 2 (x.role == 0 || (x.role == 1 && x.part == p)) := by
  have hformed : ¬(v.length ≠ 16 ∨ headerZero v 1 7 = false ∨ headerZero v 14 2 = false) := by
    rw [hlen, hlow, hhigh]; decide
  simp only [State.quiltAuth, if_neg hformed, ← hk, howner, hmb, hread, if_false, Bool.false_eq_true]

/-! ## The store and device power (R518, R542, R563, R568) -/

theorem exec_storeCompact_of_full {c : Nat × Nat × Tab (List Byte)} (hc : c = (s.storeCopy []).getD (1, 0, []))
    (hfull : 3 * 0x200000 ≤ s.ob oSTORE_JOURNAL_USED * 4) (hgood : s.ob oSTORE_STATE ≠ 3)
    (ht : t = { s with boot := { s.boot with
      copies := s.boot.copies.set (1 - c.1) (c.2.1 + 1, mergeStore c.2.2 s.boot.journal), journal := [] } }) :
    exec .storeCompact s = .next ((t.so oSTORE_GENERATION 0 (c.2.1 + 1)).so oSTORE_JOURNAL_USED 0 0) := by
  have hdue : ¬(s.ob oSTORE_JOURNAL_USED * 4 < 3 * 0x200000 ∨ s.ob oSTORE_STATE = 3) := fun h => h.elim (Nat.not_lt.mpr hfull) hgood
  simp only [exec_storeCompact, execStoreCompact, if_neg hdue, ← hc, ← ht]

theorem State.clearStore_of_admin (hclear : s.allUnassigned = true)
    (ht : t = { s with boot := { s.boot with
      copies := s.boot.copies.map (fun c => (c.1, c.2.1, c.2.2.filter (fun (e : Nat × List Byte) => isHistory e.1)))
      journal := s.boot.journal.filter (fun e => isHistory e.1) } }) : s.clearStore true 1 = (codeDone, t.countJournal) := by
  simp only [State.clearStore, hclear, Bool.not_true, Bool.or_self, ne_eq, not_true_eq_false, if_false, Bool.false_eq_true, ← ht]

theorem State.deviceOff_of_idle (hidle : partitions.all (fun p => decide (s.pstate p ≤ 1)) = true) (halone : s.boltState = boltAlone)
    (ht : t = (s.coldReset 3).send (.rails false)) :
    s.deviceOff = (codeDone, { t with pm := { t.pm with off := true } }) := by
  simp only [State.deviceOff, hidle, halone, beq_self_eq_true, Bool.and_self, if_true, ← ht]

theorem State.deviceOff_of_bolt (hbolt : s.boltState ≠ boltAlone) : s.deviceOff = (codeDenied, s) := by
  simp only [State.deviceOff, beq_eq_false_iff_ne.mpr hbolt, Bool.and_false, if_false, Bool.false_eq_true]

end

/-- Settles O47, command by command. When FW.COMMAND is taken and that an update is one step are the model's (log entries 172 and
173). -/
theorem bootAndImageCommandsComplete : Obligations.BootAndImageCommandsComplete := by
  refine ⟨fun s => rfl,
    fun s t slots trial reverted failed bc br cfg un link r hselect hr =>
      ⟨fun hnone => exec_coldBoot_of_no_image failed bc br cfg un link hselect (hr.trans hnone),
        fun k hsome => exec_coldBoot_of_image failed bc br cfg un link hselect (hr.trans hsome)⟩,
    fun s a b c d k inTrial reverted bc br ha hb hc hd =>
      ⟨State.bootFirmware_eq ha hb hc hd false, State.bootFirmware_eq ha hb hc hd true⟩,
    fun s n a mv b => exec_firmware_of_other,
    fun s t n a l r hadmin hidle hactive hread hr => ?update,
    fun s t n hadmin => ⟨fun hupdated hready ht => ?switch, fun htrial ht => ?confirm, fun w m hready htrial ht => ⟨?revert,
      fun hdue => ?timeout⟩⟩,
    fun s n mv hadmin hsupply htrial => ?svn,
    fun s n x nonce hx => ?attest,
    fun s t y n x v l gs r hx hlen hzero hcount hrange hread hgs hr hy => ?load,
    fun s t n p k x v l r hx hlen hlow hhigh hk howner hmb hread hr => ?authorize,
    fun s t n v c => ⟨fun hc hfull hgood ht => exec_storeCompact_of_full hc hfull hgood ht, fun hadmin hclear hv ht => ?clear,
      fun hno => ?clearDenied⟩,
    fun s t => ⟨fun hidle halone ht => ?off, fun hbolt => ?offDenied, fun hphase ht => ?railsBack, fun hphase hdeep => ?endHold,
      fun hphase hawake => ?pin⟩⟩
  case update =>
    cases r with
    | none => simp only [exec_fwUpdate, execFwUpdate, hadmin, if_true, State.fwUpdate_of_good hidle hread hactive hr]
    | some k => simp only [exec_fwUpdate, execFwUpdate, hadmin, if_true, State.fwUpdate_of_fault hidle hread true hr]
  case switch => simp only [exec_fwSwitch, execFwSwitch, hadmin, if_true, State.fwSwitch_of_ready hupdated hready ht]
  case confirm => simp only [exec_fwConfirm, execFwConfirm, hadmin, if_true, State.fwConfirm_of_trial htrial ht]
  case revert => simp only [exec_fwRevert, execFwRevert, hadmin, if_true, State.fwRevert_of_trial hready htrial ht]
  case timeout =>
    simp only [exec_fwTrialTimeout, execFwTrialTimeout, htrial, if_pos hdue, State.fwRevert_of_trial hready htrial ht]
  case svn =>
    simp only [exec_fwRaiseFwSvn, execFwRaiseFwSvn, exec_fwRaiseMbSvn, execFwRaiseMbSvn, State.raiseFwSvn, State.raiseMbSvn, hadmin,
      hsupply, htrial, Bool.not_true, Bool.or_self, if_false, Bool.false_eq_true, and_self]
  case attest =>
    simp only [exec_attestNonceWrite, execAttestNonceWrite, exec_attestReportRead, execAttestReportRead, State.attestWrite, hx]
    exact ⟨fun hlen => by rw [if_neg (not_not.mpr hlen)], fun hlen => by rw [if_pos hlen], fun hnone => by rw [hnone],
      fun c hc => by rw [hc]⟩
  case load =>
    obtain ⟨hbad, hgood⟩ := State.imageLoad_of_read (x := x) hlen hzero hcount hrange hread hgs hy
    cases r with
    | none => simp only [exec_imageLoad, execImageLoad, hx, hgood hr]
    | some k => simp only [exec_imageLoad, execImageLoad, hx, hbad k hr]
  case authorize =>
    rw [exec_quiltAuth, execQuiltAuth]
    cases r <;> simp only [hx, State.quiltAuth_of_read hlen hlow hhigh hk howner hmb hread, State.authorize, hr]
  case clear => rw [exec_storeClear, execStoreClear, hadmin, hv, State.clearStore_of_admin hclear ht]
  case clearDenied => simp only [exec_storeClear, execStoreClear, State.clearStore, hno, Bool.not_false, Bool.true_or, if_true]
  case off => rw [exec_pmDeviceOff, execPmDeviceOff, State.deviceOff_of_idle hidle halone ht]
  case offDenied => rw [exec_pmDeviceOff, execPmDeviceOff, State.deviceOff_of_bolt hbolt]
  case railsBack => simp only [exec_wakePin, execWakePin, if_pos hphase, ← ht]
  case endHold =>
    have hnot : ¬(0 : Nat) = 3 := by decide
    simp only [exec_wakePin, execWakePin, if_neg hnot, hphase, hdeep, ne_eq, not_true_eq_false, if_true, if_false]
  case pin =>
    have hnot : ¬(0 : Nat) = 3 := by decide
    simp only [exec_wakePin, execWakePin, if_neg hnot, hphase, if_neg hawake, ne_eq, not_true_eq_false, if_false]

end Sys2Proof.Machine
end

section
/-!
PROOFS. Key slots, tampering, fuses and the diagnostics lock (R602, R609 to R612, R652).
-/

namespace Sys2Proof.Machine

open Reg Ob

section
variable {s t : State} {x : Session} {v : List Byte} {mv : Nat}

/-! ## Key slots (R609) -/

theorem State.keyWrite_of_other_role (hrole : x.role ≠ 0) (slot : Nat) : s.keyWrite x slot v mv = (codeDenied, s) := by
  simp only [State.keyWrite, if_pos hrole]

/-- Slot 0 is written once, and only with the fuse supply. -/
theorem State.keyWrite_slot0_of_closed (hclosed : s.bit SEC_STATUS_SLOT0_VALID = true ∨ fuseSupply mv = false) :
    s.keyWrite x 0 v mv = (codeDenied, s) := by
  simp only [State.keyWrite, hclosed, and_self, if_true, ite_self]

/-- A value of slot 0 that unwraps is stored, marked valid and measured. -/
theorem State.keyWrite_slot0_of_open (hrole : x.role = 0) (hnew : s.bit SEC_STATUS_SLOT0_VALID = false)
    (hsupply : fuseSupply mv = true) :
    (x.unwrap 2 v = none → s.keyWrite x 0 v mv = (codeBadDescriptor, s)) ∧
    (∀ k, x.unwrap 2 v = some k → s.keyWrite x 0 v mv
      = (codeDone, (({ s with keys := s.keys.set 0 k } : State).sf SEC_STATUS_SLOT0_VALID 0 1).extendEvent (textBytes "SLOT0"))) := by
  refine ⟨fun h => ?_, fun k h => ?_⟩ <;>
    simp only [State.keyWrite, hrole, hnew, hsupply, h, ne_eq, not_true_eq_false, Bool.true_eq_false, Bool.false_eq_true, or_self,
      and_false, zero_ne_one, false_and, Nat.add_zero, if_true, if_false]

/-- A value of slot 1 that unwraps, while no stream loads, is stored, marked valid and measured. -/
theorem State.keyWrite_slot1_of_quiet (hrole : x.role = 0) (hquiet : (List.range 8).all (fun p => s.qstate p != qLoading) = true) :
    (x.unwrap 3 v = none → s.keyWrite x 1 v mv = (codeBadDescriptor, s)) ∧
    (∀ k, x.unwrap 3 v = some k → s.keyWrite x 1 v mv
      = (codeDone, (({ s with keys := s.keys.set 1 k } : State).sf SEC_STATUS_SLOT1_VALID 0 1).extendEvent (textBytes "SLOT1"))) := by
  have hidle (f : Nat → Bool) : (List.range 8).any (fun n => s.qstate n == qLoading && f n) = false := by
    refine List.any_eq_false.mpr fun n hn => ?_
    rw [beq_eq_false_iff_ne.mpr (bne_iff_ne.mp (List.all_eq_true.mp hquiet n hn)), Bool.false_and]
    decide
  refine ⟨fun h => ?_, fun k h => ?_⟩ <;>
    simp only [State.keyWrite, hrole, hidle, h, ne_eq, not_true_eq_false, one_ne_zero, Bool.false_eq_true, false_and, and_false,
      Nat.reduceAdd, if_false]

/-! ## Fuses (R602, R611) -/

theorem State.mayFuse_true (hclear : s.allUnassigned = true) (hsupply : fuseSupply mv = true) : s.mayFuse true mv = true := by
  rw [State.mayFuse, hclear, hsupply]; rfl

theorem State.mayFuse_false : s.mayFuse false mv = false := rfl

/-- A customer key whose number is free is fused. -/
theorem State.fuseKey_of_free {k : Nat} (hmay : s.mayFuse true mv = true) (hlen : v.length = 65) (hk : k = fieldAt v 0 1) (hlow : 1 ≤ k)
    (hhigh : k ≤ 4) (hfree : natBit (s.rf SEC_POLICY_KEY_PRESENT) (k - 1) = false)
    (ht : t = { s with boot := { s.boot with custKeys := s.boot.custKeys.set k (sliceBytes v 1 64) } }) :
    s.fuseKey true v mv = (codeDone, t.sf SEC_POLICY_KEY_PRESENT 0 (t.rf SEC_POLICY_KEY_PRESENT ||| 2 ^ (k - 1))) := by
  have hformed : ¬(v.length ≠ 65 ∨ k < 1 ∨ 4 < k) := by omega
  simp only [State.fuseKey, hmay, ← hk, if_neg hformed, hfree, ← ht, Bool.not_true, if_false, Bool.false_eq_true]

theorem State.fuseKey_of_bad_length (hmay : s.mayFuse true mv = true) (hlen : v.length ≠ 65) :
    s.fuseKey true v mv = (codeBadDescriptor, s) := by
  simp only [State.fuseKey, hmay, if_pos (Or.inl hlen : v.length ≠ 65 ∨ _), Bool.not_true, if_false, Bool.false_eq_true]

end

/-- Settles O48, command by command. That policy bits but DIAG_LOCK wait for a cold reset and that only ADMIN reads the challenge
is the model's (log entries 175 and 192). -/
theorem keyFuseAndDiagnosticCommandsComplete : Obligations.KeyFuseAndDiagnosticCommandsComplete := by
  refine ⟨fun s n mv x v hx => ⟨fun hrole => ?otherRole, fun hclosed => ?closed, fun hrole hnew hsupply => ?slot0,
      fun hrole hquiet => ?slot1⟩,
    fun s t ht => ⟨fun hphase => ?tamper, fun hphase => ?tamperLater, rfl⟩,
    fun s t n k w mv v => ⟨fun hno => ?fuseDenied, fun hadmin hclear hsupply => ?fuse⟩,
    fun s n nonce => ⟨fun hadmin => ?challenge, fun hno => ?challengeDenied⟩,
    fun s n x sig c hx => ⟨fun hnone => ?noNonce, fun hc => ⟨fun hlocked => ?locked, fun hrole hopen => ?unlock⟩⟩⟩
  case otherRole =>
    simp only [exec_keySlot0Write, execKeySlot0Write, exec_keySlot1Write, execKeySlot1Write, hx, State.keyWrite_of_other_role hrole,
      and_self]
  case closed => simp only [exec_keySlot0Write, execKeySlot0Write, hx, State.keyWrite_slot0_of_closed hclosed]
  case slot0 =>
    obtain ⟨hbad, hgood⟩ := State.keyWrite_slot0_of_open (v := v) hrole hnew hsupply
    cases hkey : x.unwrap 2 v with
    | none => simp only [exec_keySlot0Write, execKeySlot0Write, hx, hbad hkey]
    | some k => simp only [exec_keySlot0Write, execKeySlot0Write, hx, hgood k hkey]
  case slot1 =>
    obtain ⟨hbad, hgood⟩ := State.keyWrite_slot1_of_quiet (v := v) (mv := 0) hrole hquiet
    cases hkey : x.unwrap 3 v with
    | none => simp only [exec_keySlot1Write, execKeySlot1Write, hx, hbad hkey]
    | some k => simp only [exec_keySlot1Write, execKeySlot1Write, hx, hgood k hkey]
  case tamper => simp only [exec_tamper, execTamper, State.eraseSlot1, ← ht, if_pos hphase]
  case tamperLater => simp only [exec_tamper, execTamper, State.eraseSlot1, ← ht, if_neg hphase]
  case fuseDenied =>
    simp only [exec_fuseCustKey, execFuseCustKey, exec_fuseRevoke, execFuseRevoke, exec_fusePolicy, execFusePolicy, State.fuseKey,
      State.fuseRevoke, State.fusePolicy, hno, State.mayFuse_false, Bool.not_false, if_true, and_self]
  case fuse =>
    have hmay := State.mayFuse_true hclear hsupply
    refine ⟨fun hlen hk hlow hhigh hfree ht => ?_, fun hlen => ?_, fun hlow hhigh => ?_, fun hbad => ?_, fun hbad => ?_, fun hw ht => ?_⟩
    · simp only [exec_fuseCustKey, execFuseCustKey, hadmin, State.fuseKey_of_free hmay hlen hk hlow hhigh hfree ht]
    · simp only [exec_fuseCustKey, execFuseCustKey, hadmin, State.fuseKey_of_bad_length hmay hlen]
    · have hgood : ¬(k < 1 ∨ 4 < k) := by omega
      simp only [exec_fuseRevoke, execFuseRevoke, State.fuseRevoke, hadmin, hmay, if_neg hgood, Bool.not_true, if_false,
        Bool.false_eq_true]
    · simp only [exec_fuseRevoke, execFuseRevoke, State.fuseRevoke, hadmin, hmay, if_pos hbad, Bool.not_true, if_false,
        Bool.false_eq_true]
    · simp only [exec_fusePolicy, execFusePolicy, State.fusePolicy, hadmin, hmay, if_pos hbad, Bool.not_true, if_false,
        Bool.false_eq_true]
    · simp only [exec_fusePolicy, execFusePolicy, State.fusePolicy, hadmin, hmay, if_neg (Nat.not_le.mpr hw), ← ht, Bool.not_true,
        if_false, Bool.false_eq_true]
  case challenge => simp only [exec_diagChallenge, execDiagChallenge, hadmin, State.challenge, if_true]
  case challengeDenied => simp only [exec_diagChallenge, execDiagChallenge, hno, if_false, Bool.false_eq_true]
  case noNonce => simp only [exec_diagUnlock, execDiagUnlock, State.diagUnlock, hx, hnone]
  case locked =>
    have : x.role ≠ 0 ∨ s.bit SEC_POLICY_DIAG_LOCK = true ∨ Config.ed448Verify Config.diagKey
        (shakeBytes 64 (textBytes "DIAG" ++ (c ++ valBytes 8 s.die.serial))) sig = false := hlocked.imp id Or.inl
    simp only [exec_diagUnlock, execDiagUnlock, State.diagUnlock, hx, hc, if_pos this]
  case unlock =>
    simp only [exec_diagUnlock, execDiagUnlock, State.diagUnlock, hx, hc, hrole, hopen, ne_eq, not_true_eq_false, Bool.false_eq_true,
      false_or]
    split <;> rfl

end Sys2Proof.Machine
end

section
/-!
PROOFS. Thermal limits, the supply alert and the test port (R658 to R668).
-/

namespace Sys2Proof.Machine

open Reg Ob

section
variable {s t x : State} {l : List (Nat × Int)} (ht : t = s.sense l)
include ht

/-- EV_THERMAL reason 1 is raised where none was in the second before. -/
theorem exec_thermWarn_of_due (hwarn : t.bit PM_THERM_STATE_WARN = true)
    (hdue : t.thermal.warnTick = none ∨ (∃ n, t.thermal.warnTick = some n ∧ n + ticksPerSecond ≤ t.tb.count)) :
    exec (.thermWarn l) s
      = .next (({ t with thermal := { t.thermal with warnTick := some t.tb.count } } : State).raise evThermal 1) := by
  rcases hdue with hnone | ⟨n, hsome, hdue⟩
  · simp only [exec_thermWarn, execThermWarn, ← ht, hwarn, hnone, Bool.and_self, if_true, State.thermalEvent]
  · simp only [exec_thermWarn, execThermWarn, ← ht, hwarn, hsome, decide_eq_true hdue, Bool.and_self, if_true, State.thermalEvent]

theorem exec_thermWarn_of_cool (hcool : t.bit PM_THERM_STATE_WARN = false) : exec (.thermWarn l) s = .next t := by
  simp only [exec_thermWarn, execThermWarn, ← ht, hcool, Bool.false_and, if_false, Bool.false_eq_true]

/-- A step down, the first of which raises reason 2. -/
theorem exec_throttleStep_of_hot (hhot : t.hotAtLeast (t.celsius oTHERM_THROTTLE_C) = true) (hdue : t.stepDue 12288 = true)
    (hleft : 50 < t.rf PM_THERM_STATE_FREQ_PCT) : exec (.throttleStep l) s
      = .next (if t.rf PM_THERM_STATE_FREQ_PCT = 100 then
          (t.setTarget (max 50 (t.rf PM_THERM_STATE_FREQ_PCT - 5))).raise evThermal 2
        else t.setTarget (max 50 (t.rf PM_THERM_STATE_FREQ_PCT - 5))) := by
  simp only [exec_throttleStep, execThrottleStep, ← ht, hhot, hdue, decide_eq_true hleft, Bool.and_self, if_true, State.thermalEvent]

/-- A step up, the last of which raises reason 3. -/
theorem exec_throttleReleaseStep_of_cool (hthrottle : t.bit PM_THERM_STATE_THROTTLE = true)
    (hcool : t.hotAtMost (t.celsius oTHERM_THROTTLE_C - 3) = true) (hdue : t.stepDue 122880 = true) :
    exec (.throttleReleaseStep l) s = .next (if 95 ≤ t.rf PM_THERM_STATE_FREQ_PCT then
        (t.setTarget (min 100 (t.rf PM_THERM_STATE_FREQ_PCT + 5))).raise evThermal 3
      else t.setTarget (min 100 (t.rf PM_THERM_STATE_FREQ_PCT + 5))) := by
  simp only [exec_throttleReleaseStep, execThrottleReleaseStep, ← ht, hthrottle, hcool, hdue, Bool.and_self, if_true,
    State.thermalEvent]

theorem exec_thermalTrip_of_hot (hhot : t.hotAtLeast 120 = true) (hnew : t.bit PM_THERM_STATE_TRIP = false)
    (hx : x = (t.allSelfRefresh.sf PM_THERM_STATE_TRIP 0 1).send (.pin "THERMTRIP_N" false)) :
    exec (.thermalTrip l) s = .next (({ x with thermal := { x.thermal with cool := none } } : State).raise evThermal 4) := by
  simp only [exec_thermalTrip, execThermalTrip, ← ht, hhot, hnew, ← hx, Bool.not_false, Bool.and_self, if_true, State.thermalEvent]

section
variable (htrip : t.bit PM_THERM_STATE_TRIP = true)
include htrip

theorem exec_thermalTripRelease_of_hot (hhot : t.hotAtMost 110 = false) :
    exec (.thermalTripRelease l) s = .next { t with thermal := { t.thermal with cool := none } } := by
  simp only [exec_thermalTripRelease, execThermalTripRelease, ← ht, htrip, hhot, if_true, if_false, Bool.false_eq_true]

theorem exec_thermalTripRelease_of_first (hcool : t.hotAtMost 110 = true) (hfirst : t.thermal.cool = none) :
    exec (.thermalTripRelease l) s = .next { t with thermal := { t.thermal with cool := some t.tb.count } } := by
  simp only [exec_thermalTripRelease, execThermalTripRelease, ← ht, htrip, hcool, hfirst, if_true]

/-- A second at 110 degrees or below ends the trip with reason 5. -/
theorem exec_thermalTripRelease_of_second {n : Nat} (hcool : t.hotAtMost 110 = true) (hsince : t.thermal.cool = some n)
    (hdue : n + ticksPerSecond ≤ t.tb.count) (hx : x = (t.sf PM_THERM_STATE_TRIP 0 0).send (.pin "THERMTRIP_N" true)) :
    exec (.thermalTripRelease l) s
      = .next (({ x with thermal := { x.thermal with cool := none } } : State).raise evThermal 5) := by
  simp only [exec_thermalTripRelease, execThermalTripRelease, ← ht, htrip, hcool, hsince, if_pos hdue, ← hx, if_true,
    State.thermalEvent]

end

end

/-- Settles O51, command by command. How the mean of the sensors is rounded is the model's (log entry 197). -/
theorem thermalSupplyAndTestPortCommandsComplete : Obligations.ThermalSupplyAndTestPortCommandsComplete := by
  refine ⟨fun s t l ht => ⟨exec_thermWarn_of_due ht, exec_thermWarn_of_cool ht,
      fun hhot hdue hleft => ⟨fun hfull => ?first, fun hless => ?further⟩,
      fun hthrottle hcool hdue => ⟨fun hlow => ?rise, fun hhigh => ?last⟩,
      fun x hhot hnew hx => exec_thermalTrip_of_hot ht hhot hnew hx,
      fun htrip => ⟨exec_thermalTripRelease_of_hot ht htrip, exec_thermalTripRelease_of_first ht htrip,
        fun n x => exec_thermalTripRelease_of_second ht htrip⟩⟩,
    fun s p => rfl, fun s l m => ⟨rfl, rfl, rfl, rfl, rfl⟩⟩
  case first =>
    rw [exec_throttleStep_of_hot ht hhot hdue hleft, if_pos hfull, hfull, (by decide : max 50 (100 - 5) = 95)]
  case further => rw [exec_throttleStep_of_hot ht hhot hdue hleft, if_neg hless]
  case rise =>
    rw [exec_throttleReleaseStep_of_cool ht hthrottle hcool hdue, if_neg (Nat.not_le.mpr hlow), Nat.min_eq_right (by omega)]
  case last => rw [exec_throttleReleaseStep_of_cool ht hthrottle hcool hdue, if_pos hhigh, Nat.min_eq_left (by omega)]

end Sys2Proof.Machine
end

section
/-!
PROOFS. The MB-416 personality (R623 to R641): cores, command queues, counter, timers, interrupts, the mailbox, and framing images.
-/

namespace Sys2Proof.Machine

open Reg Ob

section
variable {s t : State} {u k p : Nat}

/-! ## Cores (R625) -/

/-- A write of a core's control block by a permitted requester acts on the engine that the core is. -/
theorem State.coreWrite_of_live {c g : Nat} (hlive : s.slotLive k = some p) (hc : c < 64) (hmay : s.mayWriteView u k = true)
    (hg : g = s.mbCore p c) (hsite : s.siteUp g = true) (hrun : s.islandStops (g / 17) = false) (f : State → Nat → State) :
    s.coreWrite u k c f = f s g := by
  subst hg
  simp only [State.coreWrite, hlive, if_pos (⟨hc, hmay, hsite⟩ : _ ∧ _ ∧ _), State.atIsland_runs u _ hrun]

/-! ## Command queues (R628 to R630) -/

/-- A doorbell of a slot that runs or drains takes each new command. -/
theorem exec_mbCmdqDoorbell_of_command {q : Nat} {c : MbCommand} (hslot : s.slotPart k = some p) (hq : q < 16)
    (hmay : s.mayWriteView u k = true) (hst : s.pstate p = 3 ∨ s.pstate p = 4) :
    exec (.mbCmdqDoorbell u k q [c]) s = .next (s.mbCommand p k q c) := by
  simp only [exec_mbCmdqDoorbell, execMbCmdqDoorbell, hslot, if_pos (⟨hst, hq, hmay⟩ : _ ∧ _ ∧ _), List.foldl_cons, List.foldl_nil]

section
variable {q : Nat} {c : MbCommand} (hst : s.pstate p = 3)
include hst

theorem State.mbCommand_of_no_opcode (hno : mbJobType c.opcode = none) : s.mbCommand p k q c = s.mbComplete k q c.number 4 := by
  have hrun : ¬s.pstate p = 4 := by rw [hst]; decide
  simp only [State.mbCommand, if_neg hrun, hno]

theorem State.mbCommand_of_no_memory (hno : s.mbArgs p c.args c.addrs = none) :
    s.mbCommand p k q c = s.mbComplete k q c.number 4 := by
  have hrun : ¬s.pstate p = 4 := by rw [hst]; decide
  cases htyp : mbJobType c.opcode <;> simp only [State.mbCommand, if_neg hrun, hno, htyp]

/-- A command that names a job and memory becomes the job's descriptor. -/
theorem State.mbCommand_of_job {typ : Nat} {args : List Word} (htyp : mbJobType c.opcode = some typ)
    (hargs : s.mbArgs p c.args c.addrs = some args) :
    s.mbCommand p k q c = s.pushBytes (s.ob oPART_QUEUE_BASE p + 256 + q) unitThimble (mbDescriptor c typ args)
      (1 + 2 * (c.priority % 4)) ((s.now + s.ob oMB_P_CMD_BUDGET_TICKS p) % 2 ^ 48) := by
  have hrun : ¬s.pstate p = 4 := by rw [hst]; decide
  simp only [State.mbCommand, if_neg hrun, htyp, hargs]

end

section
variable {q : Nat} {e : List Carried} {v : Word} (hslot : s.slotPart k = some p) (hq : q < 16)
  (hpop : s.popQueue (s.ob oPART_QUEUE_BASE p + 272 + q) unitThimble = (.entry e, t))
include hslot hq hpop

/-- A completion record that can be read becomes a completion with its status, result and extension. -/
theorem exec_mbCmdqCompletion_of_record {w : Word} {x : State} (hw : e.getD 0 none = some w) (hv : e.getD 1 none = some v)
    (hx : x = (if w.toNat / 2 ^ 56 = codeDoneLate then t.inco oMB_P_LATE_CMDS p 32 else t)) :
    exec (.mbCmdqCompletion k q) s = .next (x.mbComplete k q (v.toNat / 2 ^ 32) (mbStatus (w.toNat / 2 ^ 56))
      (v.toNat % 2 ^ 32) (((e.getD 6 none).map (fun y => y.toNat)).getD 0)
      (mbCrcFail (w.toNat / 2 ^ 48 % 256) (v.toNat % 2 ^ 32) (Config.mbCrcFlag x.free))).fresh := by
  simp only [exec_mbCmdqCompletion, execMbCmdqCompletion, hslot, if_neg (Nat.not_le.mpr hq), hpop, hw, hv, ← hx]

theorem exec_mbCmdqCompletion_of_poisoned_code (hw : e.getD 0 none = none) (hv : e.getD 1 none = some v) :
    exec (.mbCmdqCompletion k q) s = .next (t.mbComplete k q (v.toNat / 2 ^ 32) (mbStatus codePoison)) := by
  simp only [exec_mbCmdqCompletion, execMbCmdqCompletion, hslot, if_neg (Nat.not_le.mpr hq), hpop, hw, hv]

theorem exec_mbCmdqCompletion_of_poisoned_number (hv : e.getD 1 none = none) :
    exec (.mbCmdqCompletion k q) s = .next (t.mbComplete k q 0xFFFFFFFF (mbStatus codePoison)) := by
  cases hw : e.getD 0 none <;>
    simp only [exec_mbCmdqCompletion, execMbCmdqCompletion, hslot, if_neg (Nat.not_le.mpr hq), hpop, hw, hv]

end

/-! ## Counter, timers and interrupts (R627, R631) -/

section
variable (hlive : s.slotLive k = some p) (hmay : s.mayWriteView u k = true)
include hlive hmay

theorem exec_mbTimerSet_of_live (v : Word) {n : Nat} (hn : n < 16) : exec (.mbTimerSet u k n v) s
    = .next (((s.writeCmpCtrl unitThimble (s.ob oTIMER_CMP_BASE p + n) 0).writeCmpField
      unitThimble (s.ob oTIMER_CMP_BASE p + n) 0 ((4 * ((v.toNat : Int) - (s.mbSlot k).toffset)) % 2 ^ 48).toNat).writeCmpCtrl
        unitThimble (s.ob oTIMER_CMP_BASE p + n) (2 ^ 31)) := by
  simp only [exec_mbTimerSet, execMbTimerSet, hlive, if_pos (And.intro hn hmay)]

/-- An end of interrupt lets its vector send again, which it does where a source is pending. -/
theorem exec_mbEndOfInterrupt_of_live {n : Nat}
    (ht : t = s.setMsix (k + 1) { s.msixOf (k + 1) with sent := (s.msixOf (k + 1)).sent.filter (fun v => v != n) }) :
    exec (.mbEndOfInterrupt u k n) s = .next (if t.mbVectorPending p k n then t.sendVector (k + 1) n else t) := by
  simp only [exec_mbEndOfInterrupt, execMbEndOfInterrupt, hlive, hmay, if_true, ← ht]

end

/-! ## Framing images (R641) -/

theorem State.framingStore_of_unread {a : Nat} (hread : s.readImage (a % 2 ^ 48) = (none, t)) :
    s.framingStore a true = (codeDone, (t.rejectImage 1).so oMB_FRAMING_STATE 0 3) := by
  simp only [State.framingStore, hread]

theorem State.framingStore_of_fault {a r : Nat} {l : List Byte} (hread : s.readImage (a % 2 ^ 48) = (some l, t))
    (hbad : t.imageFault l 3 (t.streamDigest l) true = some r) :
    s.framingStore a true = (codeDone, (t.rejectImage r).so oMB_FRAMING_STATE 0 3) := by
  simp only [State.framingStore, hread, hbad]

/-- An image that passes takes the place of one with its IMAGE_ID. -/
theorem State.framingStore_of_good {a : Nat} {l : List Byte} (hread : s.readImage (a % 2 ^ 48) = (some l, t))
    (hgood : t.imageFault l 3 (t.streamDigest l) true = none) : s.framingStore a true
      = (codeDone, (({ t with boot := { t.boot with
        images := t.boot.images.filter (fun m => !(imageType m == 3 && imageId m == imageId l)) ++ [l] } } : State).refreshImages).so
          oMB_FRAMING_STATE 0 2) := by
  simp only [State.framingStore, hread, hgood, if_true]

end

/-- Settles O49, command by command. The layouts of the view are the manual's and stay free (log entries 40 and 178). -/
theorem mbPersonalityCommandsComplete : Obligations.MbPersonalityCommandsComplete := by
  refine ⟨fun s u k p c g hlive hc hmay hg hsite hrun => ?core,
    fun s u k p q c hslot hq hmay => ⟨fun hdrains => ?drains, fun hruns => ⟨fun hno => ?noOpcode, fun hno => ?noMemory,
      fun typ args htyp hargs => ?job⟩⟩,
    fun s t k p q e hslot hq hpop => ⟨fun w v x hw hv hx => exec_mbCmdqCompletion_of_record hslot hq hpop hw hv hx,
      fun v => exec_mbCmdqCompletion_of_poisoned_code hslot hq hpop, exec_mbCmdqCompletion_of_poisoned_number hslot hq hpop⟩,
    fun s t u k p v hlive hmay => ⟨?counter, fun n => exec_mbTimerSet_of_live hlive hmay v, fun n ht => ⟨fun hpending => ?sends,
      fun hquiet => ?silent⟩, fun c a => ?mailbox⟩,
    fun s t n a l r => ⟨fun hno => ?storeDenied, fun hadmin hread => ?unread, fun hadmin hread hr => ?stored⟩⟩
  case core =>
    have hdo := State.coreWrite_of_live hlive hc hmay hg hsite hrun
    refine ⟨?_, fun a => ?_, ?_, ?_⟩
    · rw [exec_mbCoreRelease, execMbCoreRelease, hdo]
    · rw [exec_mbCoreStart, execMbCoreStart, hdo]
    · rw [exec_mbCoreStop, execMbCoreStop, hdo]
    · rw [exec_mbCoreClearFault, execMbCoreClearFault, hdo]
  case drains =>
    rw [exec_mbCmdqDoorbell_of_command hslot hq hmay (Or.inr hdrains), State.mbCommand, if_pos hdrains]
  case noOpcode => rw [exec_mbCmdqDoorbell_of_command hslot hq hmay (Or.inl hruns), State.mbCommand_of_no_opcode hruns hno]
  case noMemory => rw [exec_mbCmdqDoorbell_of_command hslot hq hmay (Or.inl hruns), State.mbCommand_of_no_memory hruns hno]
  case job => rw [exec_mbCmdqDoorbell_of_command hslot hq hmay (Or.inl hruns), State.mbCommand_of_job hruns htyp hargs]
  case counter =>
    simp only [exec_mbCounterWrite, execMbCounterWrite, hlive, hmay, Option.isSome_some, Bool.and_self, if_true]
  case sends => rw [exec_mbEndOfInterrupt_of_live hlive hmay ht, if_pos hpending]
  case silent => rw [exec_mbEndOfInterrupt_of_live hlive hmay ht, if_neg (ne_true_of_eq_false hquiet)]
  case mailbox =>
    simp only [exec_mbMailboxCommand, execMbMailboxCommand, hlive, hmay, Option.isSome_some, Bool.and_self, if_true, if_false,
      Bool.false_eq_true, and_self]
  case storeDenied => simp only [exec_mbFramingStore, execMbFramingStore, hno, if_false, Bool.false_eq_true]
  case unread => simp only [exec_mbFramingStore, execMbFramingStore, hadmin, if_true, State.framingStore_of_unread hread]
  case stored =>
    cases r with
    | none => simp only [exec_mbFramingStore, execMbFramingStore, hadmin, if_true, State.framingStore_of_good hread hr]
    | some e => simp only [exec_mbFramingStore, execMbFramingStore, hadmin, if_true, State.framingStore_of_fault hread hr]

end Sys2Proof.Machine
end

section
/-!
PROOFS. Swatch (R505, R516, R521 to R539): receiving, sequence numbers, sessions, requests by their type, notices, relays, timeouts,
the mailbox, and values that wait for a slot boundary.
-/

namespace Sys2Proof.Machine

open Reg Ob

section
variable {s t s1 : State} {v : SwatchVia} {b m : List Byte} {r : Reply} {x : Session}

/-! ## Receiving (R522 to R524) -/

section
variable (hserves : s.serves = true) (hin : s.incoming v b = (some (m, r), s1))
include hserves hin

/-- A well-formed request of a command's own type for this die is served. -/
theorem State.receive_of_request {z : State} {k : Nat} (y : List Sensed) (hreq : swRequest m = true) (hmine : s.foreign m = false)
    (htype : swType m = k)
    (hz : z = (if (s1.request m r y).sessions.any (fun x => x.starts.any (fun w => w.reply == r))
      then s1.request m r y else (s1.request m r y).unanswered r)) : s.receive k v b y = z := by
  have hserve : ¬(swType m ≠ k ∨ s.foreign m = true) := fun h =>
    h.elim (absurd htype) (fun hother => Bool.false_ne_true (hmine.symm.trans hother))
  rw [hz]
  unfold State.receive
  simp only [hserves, hin, hreq, if_neg hserve, Bool.not_true, if_false, Bool.false_eq_true]

/-- A malformed request is discarded and counted. -/
theorem State.receive_of_malformed (k : Nat) (y : List Sensed) (hbad : swRequest m = false) (hway : ∀ d, v ≠ .relay d) :
    s.receive k v b y = (s1.inco oSWATCH_DISCARDS 0 32).unanswered r := by
  unfold State.receive
  cases v with
  | relay d => exact absurd rfl (hway d)
  | mailbox f => simp [hserves, hin, hbad, State.discard]
  | lane n => simp [hserves, hin, hbad, State.discard]
  | port p => simp [hserves, hin, hbad, State.discard]

theorem exec_swatchRelay_of_malformed (hbad : swRequest m = false) (hway : ∀ d, v ≠ .relay d) :
    exec (.swatchRelay v b) s = .next ((s1.inco oSWATCH_DISCARDS 0 32).unanswered r) := by
  cases v with
  | relay d => exact absurd rfl (hway d)
  | mailbox f => simp [exec_swatchRelay, execSwatchRelay, hserves, hin, hbad, State.discard]
  | lane n => simp [exec_swatchRelay, execSwatchRelay, hserves, hin, hbad, State.discard]
  | port p => simp [exec_swatchRelay, execSwatchRelay, hserves, hin, hbad, State.discard]

/-- A request for another die goes to the relay. -/
theorem exec_swatchRelay_of_foreign (hreq : swRequest m = true) (hother : s.foreign m = true) :
    exec (.swatchRelay v b) s = .next (s1.relayRequest m r) := by
  simp only [exec_swatchRelay, execSwatchRelay, hserves, hin, hreq, hother, Bool.not_true, if_true, if_false, Bool.false_eq_true]

end

/-- A request of an accepted session whose tag holds goes by its sequence number. -/
theorem State.request_of_accepted (y : List Sensed) (htype : swType m ≠ 0x01) (hx : s.anySession (swSession m) = some x)
    (halive : s.alive x = true) (haccepted : x.accepted = true) :
    s.request m r y = if swTagOk x.kcd m then
      (s.setSession { x with tick := s.tb.count, fails := 0, reply := r }).sequence
        { x with tick := s.tb.count, fails := 0, reply := r } r m y
      else s.tagFailed x := by
  simp only [State.request, if_neg htype, hx, halive, haccepted, Bool.not_true, Bool.false_and, if_true, if_false, Bool.false_eq_true]
  cases swTagOk x.kcd m <;> rfl

theorem State.sequence_of_next (y : List Sensed) (hnext : swSeq m = x.last + 1) :
    s.sequence x r m y = (s.process x r m (y.headD Sensed.none)).drainHeld x.id r 8 y.tail := by
  simp only [State.sequence, if_pos hnext]

/-- A request answered before gets the reply kept for it. -/
theorem State.sequence_of_kept {l : List Byte} (y : List Sensed) (hold : swSeq m ≤ x.last) (hkept : x.last ≤ swSeq m + 7)
    (hl : x.replies.find? (fun (e : Nat × List Byte) => e.1 == swSeq m) = some (swSeq m, l)) :
    s.sequence x r m y = s.answer r l := by
  have hnext : ¬swSeq m = x.last + 1 := by omega
  have hahead : ¬(x.last + 2 ≤ swSeq m ∧ swSeq m ≤ x.last + 8) := by omega
  simp only [State.sequence, if_neg hnext, if_neg hahead, if_pos (And.intro hold hkept), hl]

/-! ## OPEN without a key list (R531, R534) -/

/-- An OPEN for ADMIN while no key list is stored is allowed only by the mailbox of PF0. -/
theorem State.openAllowed_of_no_keys (part : Nat) (client : List Byte) (hkeys : s.dom oSWATCH_CLIENT_KEYS = []) :
    s.openAllowed r 0 part client = (r == .mailbox 0, true) := by
  simp [State.openAllowed, hkeys]

section
variable (y : Sensed) (hlen : (swBody m).length = 152) (hlow : headerZero (swBody m) 2 2 = true)
  (hhigh : headerZero (swBody m) 149 3 = true) (hrole : fieldAt (swBody m) 0 1 = 0) (hpart : fieldAt (swBody m) 1 1 = 0xFF)
  (hkeys : s.dom oSWATCH_CLIENT_KEYS = [])
include hlen hlow hhigh hrole hpart hkeys

theorem State.openRequest_of_other_way (hway : r ≠ .mailbox 0) : s.openRequest m r y
    = s.answer r (swMessage 0x81 (swDevice m) 0 codeDenied 0 (swSeq m) [] zeroKey) := by
  have hno : (r == .mailbox 0) = false := beq_eq_false_iff_ne.mpr hway
  simp [State.openRequest, hlen, hlow, hhigh, hrole, hpart, State.openAllowed_of_no_keys _ _ hkeys, hno]

theorem State.openRequest_of_full (hway : r = .mailbox 0) (hfull : 16 ≤ s.sessions.length) : s.openRequest m r y
    = (s.answer r (swMessage 0x81 (swDevice m) 0 codeBusy 0 (swSeq m) [] zeroKey)).raise evSwatch 0x02 := by
  have hyes : (r == .mailbox 0) = true := beq_iff_eq.mpr hway
  simp [State.openRequest, hlen, hlow, hhigh, hrole, hpart, State.openAllowed_of_no_keys _ _ hkeys, hyes, hfull]

end

/-! ## The requests of a session (R526 to R528, R531, R535, R536) -/

theorem State.proofRequest_of_first (hlen : b.length = 116) (hzero : headerZero b 114 2 = true) (hnew : x.accepted = false) :
    s.proofRequest x b
      = if Config.ed448Verify x.client (shakeBytes 64 (textBytes "SWATCH-C" ++ x.transcript)) (sliceBytes b 0 114) then
          (⟨codeDone, 0, valBytes 1 x.role ++ valBytes 1 x.part ++ [0, 0] ++ valBytes 4 (s.ob oSWATCH_IDLE_S)⟩,
            s.modSession x.id (fun x => { x with accepted := true, tick := s.tb.count }))
        else (.bare codeDenied, s.closeSession x.id) := by
  have hformed : ¬(b.length ≠ 116 ∨ headerZero b 114 2 = false ∨ x.accepted = true) := by rw [hlen, hzero, hnew]; decide
  simp only [State.proofRequest, if_neg hformed]

section
variable {o : Obj} {i : Nat} (hobj : objectAt (fieldAt b 0 2) (fieldAt b 2 1) = some (o, i)) (hindex : fieldAt b 0 2 < 0xF000)
include hobj hindex

/-- A READ of a value, from an offset inside it, returns at most MAXLEN bytes. -/
theorem State.readRequest_of_value {n : Nat} (y : Sensed) (hlen : b.length = 12) (hlow : headerZero b 3 1 = true)
    (hhigh : headerZero b 10 2 = true) (hsome : 1 ≤ fieldAt b 8 2) (hmost : fieldAt b 8 2 ≤ 1024) (hacc : o.acc ≠ .wo)
    (hreads : s.roleReads x o i = true) (hattest : o ≠ oSEC_ATTEST) (hchallenge : o ≠ oSEC_DIAG_CHALLENGE)
    (hoff : fieldAt b 4 4 ≤ (s.valueOf o i).length) (hlong : o.ty.isLong = true ∨ fieldAt b 4 4 = 0)
    (hn : n = min (fieldAt b 8 2) ((s.valueOf o i).length - fieldAt b 4 4)) :
    s.readRequest x b y = (⟨codeDone, (if fieldAt b 4 4 + n < (s.valueOf o i).length then 4 else 0) + (if s.waits o i then 1 else 0),
      valBytes 2 (fieldAt b 0 2) ++ valBytes 1 (fieldAt b 2 1) ++ valBytes 1 o.ty.code ++ valBytes 4 (fieldAt b 4 4)
        ++ valBytes 4 (s.valueOf o i).length ++ valBytes 2 n ++ valBytes 2 (s.changesOf o i).1
        ++ sliceBytes (s.valueOf o i) (fieldAt b 4 4) n⟩, s) := by
  have hformed : ¬(b.length ≠ 12 ∨ headerZero b 3 1 = false ∨ headerZero b 10 2 = false ∨ fieldAt b 8 2 < 1
      ∨ 1024 < fieldAt b 8 2) := by
    rw [hlow, hhigh]
    simp only [Bool.true_eq_false, false_or]
    omega
  have hmay : ¬(o.acc = .wo ∨ s.roleReads x o i = false) := by rw [hreads]; simpa using hacc
  have hvalue : s.readValue x o i y = (.ok (s.valueOf o i), s) := by
    simp only [State.readValue, if_neg hmay, if_neg hattest, if_neg hchallenge]
  have hinside : ¬((s.valueOf o i).length < fieldAt b 4 4 ∨ (o.ty.isLong = false ∧ fieldAt b 4 4 ≠ 0)) := by
    rintro (h | ⟨hshort, hne⟩)
    · omega
    · rcases hlong with h | h
      · exact Bool.false_ne_true (hshort.symm.trans h)
      · exact hne h
  simp only [State.readRequest, if_neg hformed, if_neg (Nat.not_le.mpr hindex), hobj, hvalue, if_neg hinside, ← hn]

/-- A WRITE of a number that nothing bars stores it; the reply names the tick at which a slot object takes it. -/
theorem State.writeRequest_of_number {w : Nat × State} (y : Sensed) (hlen : 12 ≤ b.length) (hzero : headerZero b 10 2 = true)
    (hmost : fieldAt b 8 2 ≤ 1024) (hdata : (b.drop 12).length = fieldAt b 8 2) (hbar : s.writeBarred x o i = none)
    (hrule : s.stateRule o i = none) (hty : fieldAt b 3 1 = o.ty.code) (hshort : o.ty.isLong = false) (hoff : fieldAt b 4 4 = 0)
    (hsize : fieldAt b 8 2 = o.ty.size) (hw : w = s.writeNumber x o i (bytesVal (b.drop 12)) y) :
    s.writeRequest x true b y = if w.1 = codeDone ∨ w.1 = codePartial
      then (⟨w.1, if o.acc = .rws then 1 else 0, writeBody (fieldAt b 0 2) (fieldAt b 2 1)
        (if o.acc = .rws then applyTick s.tb.count % 2 ^ 48 else 0)⟩, w.2)
      else (.bare w.1, w.2) := by
  have hformed : ¬(b.length < 12 ∨ headerZero b 10 2 = false ∨ 1024 < fieldAt b 8 2 ∨ (b.drop 12).length ≠ fieldAt b 8 2) := by
    rw [hzero, hdata]
    simp only [Bool.true_eq_false, false_or, ne_eq, not_true_eq_false, or_false]
    omega
  simp only [State.writeRequest, if_neg hformed, if_neg (Nat.not_le.mpr hindex), hobj, hbar, hrule, hty, hshort, ne_eq,
    not_true_eq_false, Bool.false_eq_true, if_false, if_pos (⟨hoff, hsize, trivial⟩ : _ ∧ _ ∧ True), ← hw, beq_iff_eq]

theorem State.describeRequest_of_object (hlen : b.length = 12) (hzero : headerZero b 3 9 = true) :
    (s.describeRequest x b).1.code = codeDone ∧ (s.describeRequest x b).2 = s := by
  have hformed : ¬(b.length ≠ 12 ∨ headerZero b 3 9 = false) := by rw [hlen, hzero]; decide
  simp only [State.describeRequest, if_neg hformed, if_neg (Nat.not_le.mpr hindex), hobj, and_self]

end

theorem State.subscribeRequest_of_full {e : Obj × Nat} (hlen : b.length = 8) (hindex : fieldAt b 0 2 < 0xF000)
    (hobj : subObjects (fieldAt b 0 2) (fieldAt b 2 1) = [e]) (hacc : e.1.acc ≠ .wo) (hreads : s.roleReads x e.1 e.2 = true)
    (hfull : 64 ≤ x.subs.length) : s.subscribeRequest x b = (.bare codeBusy, s) := by
  have hmay : ([e].any (fun e => e.1.acc == .wo || !s.roleReads x e.1 e.2)) = false := by
    simp [hreads, hacc]
  simp only [State.subscribeRequest, hlen, ne_eq, not_true_eq_false, if_false, if_neg (Nat.not_le.mpr hindex), hobj, List.isEmpty_cons,
    Bool.false_eq_true, hmay, hfull, true_or, if_true]

theorem State.unsubscribeRequest_of_sub (hlen : b.length = 8) (hzero : headerZero b 1 7 = true)
    (hsub : x.subs.any (fun u => u.id == fieldAt b 0 1) = true) : s.unsubscribeRequest x b = (.bare codeDone,
      s.modSession x.id (fun x => { x with subs := x.subs.filter (fun u => u.id != fieldAt b 0 1) })) := by
  have hformed : ¬(b.length ≠ 8 ∨ headerZero b 1 7 = false ∨ x.subs.any (fun u => u.id == fieldAt b 0 1) = false) := by
    rw [hlen, hzero, hsub]; decide
  simp only [State.unsubscribeRequest, if_neg hformed]

/-! ## Notices (R536) -/

section
variable {f u p i : Nat} {w : Sub} {o : Obj} {mark : Nat × Nat × Option Nat} {n : Nat} (hx : s.session n = some x)
  (hw : x.subs.find? (fun u => u.id == f) = some w) (hobj : objectAt w.index u = some (o, i))
  (hmark : w.marks.find? (fun (e : Nat × Nat × Nat × Option Nat) => e.1 == o.key i) = some (p, mark))
include hx hw hobj hmark

theorem exec_swatchNotify_of_none (hnone : s.noticeDue w o i mark = none) : exec (.swatchNotify n f u) s = .next s := by
  simp only [exec_swatchNotify, execSwatchNotify, hx, hw, hobj, hmark, hnone]

/-- A notice that is due marks its value and goes to the session's client. -/
theorem exec_swatchNotify_of_due {change : Bool} {val body : List Byte} (hdue : s.noticeDue w o i mark = some change)
    (hval : val = (if (s.valueOf o i).length ≤ 64 then s.valueOf o i else []))
    (hbody : body = valBytes 1 w.id ++ valBytes 1 u ++ valBytes 2 w.index ++ valBytes 4 ((s.changesOf o i).1 - mark.1)
      ++ valBytes 8 (if change then (s.changesOf o i).2 else s.now) ++ valBytes 1 o.ty.code ++ valBytes 1 val.length
      ++ [0, 0] ++ val)
    (ht : t = s.modSession x.id (fun x => { x with subs := x.subs.map (fun (w : Sub) => if w.id = f then
      { w with marks := w.marks.set (o.key i) (mark.1, (s.changesOf o i).1, some s.tb.count) } else w) })) :
    exec (.swatchNotify n f u) s = .next (t.notify x body) := by
  simp only [exec_swatchNotify, execSwatchNotify, hx, hw, hobj, hmark, hdue, ← hval, ← hbody, ← ht]

end

/-- The client of a mailbox polls for its notices, of which 64 are kept. -/
theorem State.notify_of_mailbox {g : Nat} (body : List Byte) (hway : x.reply = .mailbox g) :
    s.notify x body = s.modSession x.id (fun x => { x with
      notes := (x.notes ++ [body]).drop ((x.notes ++ [body]).length - 64) }) := by
  simp only [State.notify, hway]

theorem State.notify_of_other (body : List Byte) (hway : ∀ g, x.reply ≠ .mailbox g) :
    s.notify x body = (s.modSession x.id (fun x => { x with notifySeq := x.notifySeq + 1 })).answer x.reply
      (swMessage 0x40 0xFF 0 0 x.id x.notifySeq body x.kdc) := by
  cases hr : x.reply with
  | mailbox g => exact absurd hr (hway g)
  | lane n mac vlan => simp only [State.notify, hr]
  | port p mac vlan => simp only [State.notify, hr]
  | relay d => simp only [State.notify, hr]

end

/-- Settles O52, command by command. RSP_LEN 0 for what gets no reply, what counts as malformed, and answers without a body are the
model's (log entries 189, 190 and 191). -/
theorem swatchAndMailboxCommandsComplete : Obligations.SwatchAndMailboxCommandsComplete := by
  refine ⟨fun s v b y hserves => ⟨fun m r s1 z hin hreq hmine hz => ?served, fun m r s1 c hin hbad hway hc => ?malformed⟩,
    fun s m r y => ⟨fun htype => ?openTag, fun x htype hx halive haccepted => ⟨fun hnext => ?next, fun l hold hkept hl => ?kept⟩⟩,
    fun s s1 x r m y a ha => ⟨fun hlater => ?later, fun hnow => ⟨_, rfl, ?answered⟩⟩,
    fun s m r y hlen hlow hhigh hrole hpart hkeys =>
      ⟨State.openRequest_of_other_way y hlen hlow hhigh hrole hpart hkeys,
        State.openRequest_of_full y hlen hlow hhigh hrole hpart hkeys⟩,
    fun s x m y => ⟨fun htype hlen hzero hnew => ?proof,
      fun o i n htype hlen hlow hhigh hsome hmost hindex hobj hacc hreads hattest hchallenge hoff hlong hn => ?read,
      fun o i r htype hlen hzero hmost hdata hindex hobj hbar hrule hty hshort hoff hsize hfinal hr => ?write,
      fun o i htype hlen hzero hindex hobj => ?describe, fun e htype hlen hindex hobj hacc hreads hfull => ?subscribe,
      fun htype hlen hzero hsub => ?unsubscribe, fun htype hempty => ⟨fun hnone => ?pollNone, fun n l hnotes => ?poll⟩,
      fun htype hempty => ?keepalive, fun htype hempty => ?close⟩,
    fun s s1 v b m r hserves hin => ⟨fun hreq hother => ⟨fun hleader hmember hsession => ?relay, fun hno => ?relayFails⟩,
      fun d hv hno hreply => ?relayReply⟩,
    fun s n f u x c => ⟨fun hx hnew hlate => ?openTimeout, fun hx haccepted hlate => ?idleTimeout,
      fun w o i p mark hx hw hobj hmark => ⟨exec_swatchNotify_of_none hx hw hobj hmark,
        fun change t val body hdue hval hbody ht => ⟨fun g hway => ?toMailbox, fun hway => ?toClient⟩⟩,
      fun hrun => ?mailboxGo, fun hdown hlate hbusy => ?mailboxTimeout⟩,
    fun s => ⟨fun hnone => ?noneDue, fun hall => ?allDue⟩⟩
  case served =>
    have hdo (k : Nat) (htype : swType m = k) : s.receive k v b y = z := State.receive_of_request hserves hin y hreq hmine htype hz
    exact ⟨fun h => congrArg _ (hdo _ h), fun h => congrArg _ (hdo _ h), fun h => congrArg _ (hdo _ h), fun h => congrArg _ (hdo _ h),
      fun h => congrArg _ (hdo _ h), fun h => congrArg _ (hdo _ h), fun h => congrArg _ (hdo _ h), fun h => congrArg _ (hdo _ h),
      fun h => congrArg _ (hdo _ h), fun h => congrArg _ (hdo _ h)⟩
  case malformed =>
    have hdo (k : Nat) := State.receive_of_malformed hserves hin k y hbad hway
    simp only [List.mem_cons, List.not_mem_nil, or_false] at hc
    rcases hc with rfl | rfl | rfl | rfl | rfl | rfl | rfl | rfl | rfl | rfl | rfl
    case inr.inr.inr.inr.inr.inr.inr.inr.inr.inr => exact exec_swatchRelay_of_malformed hserves hin hbad hway
    all_goals exact congrArg _ (hdo _)
  case openTag => exact if_pos htype
  case next => rw [State.request_of_accepted y htype hx halive haccepted,
      State.sequence_of_next (x := { x with tick := s.tb.count, fails := 0, reply := r }) y hnext]
  case kept => rw [State.request_of_accepted y htype hx halive haccepted,
      State.sequence_of_kept (x := { x with tick := s.tb.count, fails := 0, reply := r }) y hold hkept hl]
  case later => simp only [State.process, ha, if_pos hlater]
  case answered => simp only [State.process, ha, if_neg hnow]
  case proof => simp only [State.serve1, htype, State.proofRequest_of_first hlen hzero hnew]
  case read =>
    simp only [State.serve1, htype, State.readRequest_of_value hobj hindex y hlen hlow hhigh hsome hmost hacc hreads hattest hchallenge
      hoff hlong hn]
  case write =>
    simp only [State.serve1, htype, hfinal, State.writeRequest_of_number hobj hindex y hlen hzero hmost hdata hbar hrule hty hshort hoff
      hsize hr]
  case describe =>
    simp only [State.serve1, htype]
    exact State.describeRequest_of_object hobj hindex hlen hzero
  case subscribe => simp only [State.serve1, htype, State.subscribeRequest_of_full hlen hindex hobj hacc hreads hfull]
  case unsubscribe => simp only [State.serve1, htype, State.unsubscribeRequest_of_sub hlen hzero hsub]
  case pollNone =>
    simp only [State.serve1, htype, State.pollRequest, hempty, List.isEmpty_nil, Bool.not_true, if_false, Bool.false_eq_true, hnone]
  case poll =>
    simp only [State.serve1, htype, State.pollRequest, hempty, List.isEmpty_nil, Bool.not_true, if_false, Bool.false_eq_true, hnotes]
  case keepalive => simp only [State.serve1, htype, State.keepaliveRequest, hempty, List.isEmpty_nil, if_true]
  case close => simp only [State.serve1, htype, State.closeRequest, hempty, List.isEmpty_nil, if_true]
  case relay =>
    simp only [exec_swatchRelay_of_foreign hserves hin hreq hother, State.relayRequest, if_pos (And.intro hleader hmember),
      if_pos hsession]
  case relayFails =>
    have hnot : ¬(s1.boltState = boltLeader ∧ natBit (s1.ob oBOLT_MEMBERS) (swDevice m) = true) := by
      rintro ⟨hleader, hmember⟩
      rcases hno with h | h
      · exact h hleader
      · exact Bool.false_ne_true (h.symm.trans hmember)
    simp only [exec_swatchRelay_of_foreign hserves hin hreq hother, State.relayRequest, if_neg hnot]
  case relayReply =>
    subst hv
    simp only [exec_swatchRelay, execSwatchRelay, hserves, hin, hno, hreply, Bool.not_true, if_true, if_false, Bool.false_eq_true]
  case openTimeout =>
    have hdead : s.alive x = false := by
      simp only [State.alive, hnew, if_false, Bool.false_eq_true]
      exact decide_eq_false (Nat.not_le.mpr hlate)
    simp only [exec_swatchOpenTimeout, execSwatchOpenTimeout, hx, if_pos (And.intro hnew hdead), State.closeSession]
  case idleTimeout =>
    have hdead : s.alive x = false := by
      simp only [State.alive, haccepted, if_true]
      exact decide_eq_false (Nat.not_lt.mpr hlate)
    simp only [exec_swatchSessionIdleTimeout, execSwatchSessionIdleTimeout, hx, if_pos hdead, State.closeSession]
  case toMailbox =>
    rw [exec_swatchNotify_of_due hx hw hobj hmark hdue hval hbody ht, State.notify_of_mailbox body hway]
  case toClient =>
    rw [exec_swatchNotify_of_due hx hw hobj hmark hdue hval hbody ht, State.notify_of_other body hway]
  case mailboxGo => rw [exec_mailboxGo, execMailboxGo, State.atIsland_runs u _ hrun]
  case mailboxTimeout =>
    have hoff : s.thimbleUp = false := by rw [State.thimbleUp, hdown]; rfl
    simp only [exec_mailboxTimeout, execMailboxTimeout, if_pos (And.intro hoff hlate), State.mailboxDone, hbusy, if_true,
      List.isEmpty_nil, List.length_nil]
  case noneDue =>
    have hdue : s.rws.filter (fun (e : Nat × Nat × Nat) => decide (e.2.2 ≤ s.tb.count)) = [] :=
      List.filter_eq_nil_iff.mpr fun e he => by simpa using hnone e he
    have hrest : s.rws.filter (fun (e : Nat × Nat × Nat) => !decide (e.2.2 ≤ s.tb.count)) = s.rws :=
      List.filter_eq_self.mpr fun e he => by simpa using hnone e he
    simp only [exec_rwsApply, execRwsApply, hdue, hrest, List.foldl_nil]
  case allDue =>
    have hdue : s.rws.filter (fun (e : Nat × Nat × Nat) => decide (e.2.2 ≤ s.tb.count)) = s.rws :=
      List.filter_eq_self.mpr fun e he => by simpa using hall e he
    have hrest : s.rws.filter (fun (e : Nat × Nat × Nat) => !decide (e.2.2 ≤ s.tb.count)) = [] :=
      List.filter_eq_nil_iff.mpr fun e he => by simpa using hall e he
    simp only [exec_rwsApply, execRwsApply, hdue, hrest]

end Sys2Proof.Machine
end

section
/-!
PROOFS. Serving DRAM (R406 to R421): translation, requests, refresh and its debt, temperature polls, urgent ports, and row hammer.
-/

namespace Sys2Proof.Machine

open Reg Ob

section
variable {s t : State} {c r p : Nat}

/-! ## Translation (R406) -/

section
variable {u a : Nat} (hmay : (isThimble u || isPf0 u) = true)
include hmay

/-- An address of DRAM fills DRAM_XLATE_OUT from the mapping. -/
theorem State.writeXlate_of_dram {x : State} {q : DramPlace} (hx : x = s.sf DRAM_XLATE_ADDR_ADDR 0 a) (hlow : dramBase ≤ a % 2 ^ 48)
    (hhigh : a % 2 ^ 48 - dramBase < x.rf DRAM_CAPACITY_BYTES 0) (hq : q = x.dramPlace (a % 2 ^ 48 - dramBase)) :
    s.writeXlate u a = ((((((((x.sf DRAM_XLATE_OUT_VALID 0 1).sf DRAM_XLATE_OUT_CHANNEL 0 q.channel).sf DRAM_XLATE_OUT_SUB 0 q.sub).sf
      DRAM_XLATE_OUT_RANK 0 q.rank).sf DRAM_XLATE_OUT_LRANK 0 q.lrank).sf DRAM_XLATE_OUT_BG 0 q.bg).sf DRAM_XLATE_OUT_BANK 0
        q.bank).sf DRAM_XLATE_OUT_ROW 0 q.row).sf DRAM_XLATE_OUT_COLUMN 0 q.column := by
  simp only [State.writeXlate, hmay, ← hx, if_pos (And.intro hlow hhigh), ← hq, Bool.not_true, if_false, Bool.false_eq_true]

/-- An address below DRAM clears it. -/
theorem State.writeXlate_of_below (hlow : a % 2 ^ 48 < dramBase) : s.writeXlate u a = [DRAM_XLATE_OUT_CHANNEL, DRAM_XLATE_OUT_SUB,
      DRAM_XLATE_OUT_RANK, DRAM_XLATE_OUT_LRANK, DRAM_XLATE_OUT_BG, DRAM_XLATE_OUT_BANK, DRAM_XLATE_OUT_ROW,
      DRAM_XLATE_OUT_COLUMN].foldl (fun s f => s.sf f 0 0) ((s.sf DRAM_XLATE_ADDR_ADDR 0 a).sf DRAM_XLATE_OUT_VALID 0 0) := by
  have hout : ¬(dramBase ≤ a % 2 ^ 48
      ∧ a % 2 ^ 48 - dramBase < (s.sf DRAM_XLATE_ADDR_ADDR 0 a).rf DRAM_CAPACITY_BYTES) := fun h => Nat.not_le.mpr hlow h.1
  simp only [State.writeXlate, hmay, if_neg hout, Bool.not_true, if_false, Bool.false_eq_true]

end

/-! ## Requests (R410, R414) -/

section
variable {sub : Nat} {l : List (Nat × Bool × Nat × Nat × Nat)} {new : List DramReq}
  (hnew : new = (l.map (fun a => (⟨a.1, a.2.1, a.2.2.1, a.2.2.2.1 % 2 ^ 48, a.2.2.2.2 % 8, s.replica 75⟩ : DramReq))).filter
    (fun q => (s.reqPlace q).channel == c))
  (ht : t = (((s.setDch c { s.dch c with held := (s.dch c).held ++ new }).admitHeld c).answerBuffered c).setDraining c sub)
include hnew ht

theorem exec_dramRequest_of_choice {q : DramReq} {passed : Bool} (hnext : t.nextReq c sub = some (q, passed)) :
    exec (.dramRequest c sub l) s = .next ((t.serveReq c sub q passed).setDraining c sub) := by
  simp only [exec_dramRequest, execDramRequest, ← hnew, ← ht, hnext]

theorem exec_dramRequest_of_none (hnext : t.nextReq c sub = none) : exec (.dramRequest c sub l) s = .next t := by
  simp only [exec_dramRequest, execDramRequest, ← hnew, ← ht, hnext]

end

/-! ## Refresh and temperature (R415 to R418) -/

theorem exec_dramRefresh_of_busy {pull : Bool} {d v : Int} (hd : d = s.debt (s.drank c r)) (hv : v = (s.drank c r).trefi)
    (hearly : d < 4 * v) (hbusy : s.rankIdle c r = false) : exec (.dramRefresh c r pull) s = .next s := by
  simp only [exec_dramRefresh, execDramRefresh, ← hd, ← hv, decide_eq_false (Int.not_le.mpr hearly), hbusy, Bool.false_and,
    Bool.or_self, Bool.and_false, if_false, Bool.false_eq_true]

section
variable (hlive : s.rankLive c r = true) (hawake : (s.drank c r).selfRefresh = none)
include hlive hawake

/-- A refresh goes out at the limit, and on an idle rank where one is owed or may be pulled in. -/
theorem exec_dramRefresh_of_due {pull : Bool} {d v : Int} (hd : d = s.debt (s.drank c r)) (hv : v = (s.drank c r).trefi)
    (hdue : 4 * v ≤ d ∨ (s.rankIdle c r = true ∧ (v ≤ d ∨ (pull = true ∧ -4 * v ≤ d - v)))) :
    exec (.dramRefresh c r pull) s
      = .next ((s.setDrank c r (s.withDebt (s.drank c r) (d - v))).refreshCounts c r 1) := by
  have hgo : (decide (4 * v ≤ d) || (s.rankIdle c r && (decide (v ≤ d) || (pull && decide (-4 * v ≤ d - v))))) = true := by
    simpa only [Bool.or_eq_true, Bool.and_eq_true, decide_eq_true_eq] using hdue
  simp only [exec_dramRefresh, execDramRefresh, hlive, hawake, ← hd, ← hv, hgo, Option.isNone_none, Bool.and_self, if_true]

variable {rate : Nat} {d : Int} (hfirst : (s.drank c r).polled = none) (hd : d = s.debt (s.drank c r))
include hfirst hd

/-- A poll that leaves no debt to be paid at once sets the rank's rate. -/
theorem exec_dramTempPoll_of_no_debt (hrate : rate ≤ 2) (hlow : rate < 2 ∨ (s.drank c r).fast = true ∨ d ≤ 4 * 1950)
    (ht : t = (s.setDrank c r { s.withDebt (s.drank c r) d with
      fast := decide (2 ≤ rate), polled := some s.tb.count, pollFirst := false }).refreshCounts c r 0) :
    exec (.dramTempPoll c r rate) s = .next (t.sf DRAM_CH_STATE_TEMP_2X c
      ((List.range 4).any (fun r => t.rankLive c r && (t.drank c r).fast)).toNat) := by
  have hpay : (decide (2 ≤ rate) && !(s.drank c r).fast && decide (4 * 1950 < d)) = false := by
    rcases hlow with h | h | h
    · rw [decide_eq_false (Nat.not_le.mpr h), Bool.false_and, Bool.false_and]
    · rw [h, Bool.not_true, Bool.and_false, Bool.false_and]
    · rw [decide_eq_false (Int.not_lt.mpr h), Bool.and_false]
  simp only [exec_dramTempPoll, execDramTempPoll, hlive, hawake, hfirst, ← hd, hpay, Option.isSome_none, Bool.not_true, Bool.or_self,
    if_false, Bool.false_eq_true, Nat.cast_zero, Int.zero_mul, Int.sub_zero, ← ht, if_neg (Nat.not_lt.mpr hrate)]

/-- A rank that comes to the 2x rate with too large a debt pays it, which stalls it (R417). -/
theorem exec_dramTempPoll_of_debt {k : Nat} (hslow : (s.drank c r).fast = false) (hlarge : 4 * 1950 < d)
    (hk : k = payCount d 1950 (s.rf DRAM_CH_TIMING_TRFC_NS c))
    (ht : t = (s.setDrank c r { s.withDebt (s.drank c r) (d - k * 1950) with
      fast := true, polled := some s.tb.count, pollFirst := false }).refreshCounts c r k) :
    exec (.dramTempPoll c r 2) s = .next ((((t.sf DRAM_CH_STATE_TEMP_2X c
      ((List.range 4).any (fun r => t.rankLive c r && (t.drank c r).fast)).toNat).incf DRAM_RANK_STALL_NS (c * 4 + r)
        (k * s.rf DRAM_CH_TIMING_TRFC_NS c)).incf DRAM_RANK_FORCED_COUNT (c * 4 + r)).dramEvent c 2) := by
  simp only [exec_dramTempPoll, execDramTempPoll, hlive, hawake, hfirst, ← hd, hslow, decide_eq_true hlarge, Option.isSome_none,
    Bool.not_true, Bool.not_false, Bool.or_self, Bool.and_self, Nat.le_refl, decide_true, if_true, if_false, Bool.false_eq_true, ← hk,
    ← ht, Nat.lt_irrefl]

end

/-! ## Urgent ports (R413) -/

section
variable (hp : p < 12) (hover : s.portOver p = true) (hcalm : s.bit DRAM_PORT_CFG_URGENT p = false)
  (ht : t = (s.sf DRAM_PORT_CFG_URGENT p 1).incf DRAM_PORT_OVERRUNS_COUNT p)
include hp hover hcalm ht

theorem exec_dramPortUrgent_of_first (hfirst : Tab.get none t.dramPorts p = none) : exec (.dramPortUrgent p) s
    = .next (({ t with dramPorts := t.dramPorts.set p (some t.tb.count) } : State).raise (0x09A0 + p)) := by
  simp only [exec_dramPortUrgent, execDramPortUrgent, decide_eq_true hp, hover, hcalm, ← ht, hfirst, Bool.not_false, Bool.and_self,
    if_true]

/-- An overrun within a millisecond of a report is counted and not reported again. -/
theorem exec_dramPortUrgent_of_reported {n : Nat} (hlast : Tab.get none t.dramPorts p = some n) (hsoon : t.tb.count < n + 122880) :
    exec (.dramPortUrgent p) s = .next t := by
  simp only [exec_dramPortUrgent, execDramPortUrgent, decide_eq_true hp, hover, hcalm, ← ht, hlast,
    decide_eq_false (Nat.not_le.mpr hsoon), Bool.not_false, Bool.and_self, if_true, if_false, Bool.false_eq_true]

end

/-- The row-hammer window lasts 32 ms, and 16 ms at the 2x rate (R421). -/
theorem exec_dramRhWindowEnd_of_past (hpast : (s.dch c).window + (if s.bit DRAM_CH_STATE_TEMP_2X c then 16 else 32) * 122880
    ≤ s.tb.count) :
    exec (.dramRhWindowEnd c) s = .next (s.setDch c { s.dch c with tracker := [], window := s.tb.count }) := by
  simp only [exec_dramRhWindowEnd, execDramRhWindowEnd, if_pos hpast]

end

/-- Settles O39, command by command. -/
theorem dramServingCommandsComplete : Obligations.DramServingCommandsComplete := by
  refine ⟨fun s u a p hrun hmay => ⟨fun hlow hhigh hp => ?inside, fun hlow => ?below⟩,
    fun s t c sub l new hnew ht => ⟨fun q passed => exec_dramRequest_of_choice hnew ht, exec_dramRequest_of_none hnew ht⟩,
    fun s c r pull d v hlive hawake hd hv => ⟨exec_dramRefresh_of_due hlive hawake hd hv,
      exec_dramRefresh_of_busy hd hv⟩,
    fun s t c r rate k d hlive hawake hfirst hd hrate => ⟨exec_dramTempPoll_of_no_debt hlive hawake hfirst hd hrate,
      fun htwo hslow hlarge hk ht => ?pays⟩,
    fun s t p hp hover hcalm ht => ⟨exec_dramPortUrgent_of_first hp hover hcalm ht,
      fun n => exec_dramPortUrgent_of_reported hp hover hcalm ht⟩,
    fun s c u => ⟨rfl, fun hslow hpast => ?window, fun hfast hpast => ?fastWindow⟩⟩
  case inside => rw [exec_dramXlate, execDramXlate, State.atIsland_runs u _ hrun, State.writeXlate_of_dram hmay rfl hlow hhigh hp]
  case below => rw [exec_dramXlate, execDramXlate, State.atIsland_runs u _ hrun, State.writeXlate_of_below hmay hlow]
  case pays => rw [htwo, exec_dramTempPoll_of_debt hlive hawake hfirst hd hslow hlarge hk ht]
  case window => exact exec_dramRhWindowEnd_of_past (by rw [hslow]; exact hpast)
  case fastWindow => exact exec_dramRhWindowEnd_of_past (by rw [hfast]; exact hpast)

end Sys2Proof.Machine
end

section
/-!
PROOFS. The care of DRAM (R408, R422 to R433): periodic actions, power states, rank retirement, migration, and row repair.
-/

namespace Sys2Proof.Machine

open Reg Ob

section
variable {s t x y : State} {c r : Nat}

/-! ## Periodic actions and power states (R408, R422 to R424) -/

section
variable (hlive : s.rankLive c r = true)
include hlive

theorem exec_dramZqCal_of_due (hdue : s.periodic (s.drank c r).zq 128 = true) :
    exec (.dramZqCal c r) s = .next (s.setDrank c r { s.drank c r with zq := some s.tb.count }) := by
  simp only [exec_dramZqCal, execDramZqCal, hlive, hdue, Bool.and_self, if_true]

/-- A drift in range adjusts the timing; one beyond it has the rank retrained. -/
theorem exec_dramDqsOscRead_of_due (hdue : s.periodic (s.drank c r).dqs 64 = true) (drift : Int) (inRange : Bool) :
    exec (.dramDqsOscRead c r drift inRange) s
      = .next (s.setDrank c r (if inRange then { s.drank c r with dqs := some s.tb.count, drift := drift }
        else { s.drank c r with dqs := some s.tb.count, retrain := true })) := by
  simp only [exec_dramDqsOscRead, execDramDqsOscRead, hlive, hdue, Bool.and_self, if_true]

theorem exec_dramRankRetrain_of_wanted (hwanted : (s.drank c r).retrain = true) (blocked : Nat) :
    exec (.dramRankRetrain c r blocked) s
      = .next (((s.setDrank c r { s.drank c r with retrain := false, drift := 0 }).incf DRAM_RANK_STALL_NS (c * 4 + r)
        (min blocked 50000)).dramEvent c 3) := by
  simp only [exec_dramRankRetrain, execDramRankRetrain, hlive, hwanted, Bool.and_self, if_true]

section
variable (hawake : (s.drank c r).selfRefresh = none) (hidle : s.rankIdle c r = true)
include hawake hidle

theorem exec_dramPowerDown_of_idle (hlong : s.ob oDRAM_PD_IDLE_NS ≤ nsOf (s.tb.count - (s.drank c r).used)) :
    exec (.dramPowerDown c r) s = .next (s.setDrank c r { s.drank c r with powerDown := true }) := by
  simp only [exec_dramPowerDown, execDramPowerDown, hlive, hawake, hidle, decide_eq_true hlong, Option.isNone_none, Bool.and_self,
    if_true]

/-- An idle rank enters self-refresh where the DRAM island sleeps. -/
theorem exec_dramSelfRefreshEntry_of_sleep (hsleep : s.rf PM_ISLAND_STATE_STATE 75 = 2 ∨ s.rf PM_ISLAND_STATE_STATE 75 = 3) :
    exec (.dramSelfRefreshEntry c r) s = .next (s.setDrank c r { s.withDebt (s.drank c r) 0 with
      selfRefresh := some s.tb.count, powerDown := false }) := by
  have hwanted : (s.rf PM_ISLAND_STATE_STATE 75 == 2 || s.rf PM_ISLAND_STATE_STATE 75 == 3) = true := by simpa using hsleep
  simp only [exec_dramSelfRefreshEntry, execDramSelfRefreshEntry, hlive, hawake, hidle, hwanted, Option.isNone_none, Bool.true_or,
    Bool.and_self, if_true, State.enterSelfRefresh]

end

end

theorem exec_dramSelfRefreshExit_of_request {n : Nat} (hsince : (s.drank c r).selfRefresh = some n)
    (hlong : s.rf DRAM_CH_SRTIME_SR_MIN_NS c ≤ nsOf (s.tb.count - n)) (hbusy : s.rankIdle c r = false) :
    exec (.dramSelfRefreshExit c r) s = .next (s.setDrank c r { s.withDebt (s.drank c r) 0 with
      selfRefresh := none, polled := none, pollFirst := true, used := s.tb.count }) := by
  simp only [exec_dramSelfRefreshExit, execDramSelfRefreshExit, hsince, if_pos (And.intro hlong hbusy)]

/-! ## Retirement and migration of ranks (R427 to R430) -/

section
variable {cause : Nat} (hgood : natBit (s.rf DRAM_CH_STATE_DEGRADED c) r = false) (hst : s.rankState c r = 1 ∨ s.rankState c r = 2)
  (ht : t = ((s.sf DRAM_CH_STATE_DEGRADED c (s.rf DRAM_CH_STATE_DEGRADED c ||| 2 ^ r)).so oDRAM_RETIRED 0
    ((s.sf DRAM_CH_STATE_DEGRADED c (s.rf DRAM_CH_STATE_DEGRADED c ||| 2 ^ r)).ob oDRAM_RETIRED
      ||| 2 ^ (4 * c + r))).recordRetirement 8 cause (4 * c + r) 0 false 0xFFFF)
include hgood hst ht

/-- A rank that degrades is recorded; what follows depends on a spare that is good. -/
theorem State.degradeRank_of_no_spare (hnone : t.spareRank c = none) : s.degradeRank c r cause = t.dramEvent c 9 := by
  have hused : (natBit (s.rf DRAM_CH_STATE_DEGRADED c) r || s.rankState c r == 0 || s.rankState c r == 3) = false := by
    rw [hgood]; rcases hst with h | h <;> rw [h] <;> rfl
  simp only [State.degradeRank, hused, ← ht, hnone, Option.filter_none, if_false, Bool.false_eq_true]

theorem State.degradeRank_of_spare {k : Nat} (hspare : t.spareRank c = some k) (hother : k ≠ r)
    (hkeeps : natBit (t.rf DRAM_CH_STATE_DEGRADED c) k = false) :
    s.degradeRank c r cause = if t.rf DRAM_MIG_STATE_STATE c = 1 then t.dramEvent c 9
      else ((((t.sf DRAM_MIG_STATE_STATE c 1).sf DRAM_MIG_STATE_FROM c r).sf DRAM_MIG_STATE_TO c k).sf
        DRAM_MIG_STATE_REGION c 0).dramEvent c 7 := by
  have hused : (natBit (s.rf DRAM_CH_STATE_DEGRADED c) r || s.rankState c r == 0 || s.rankState c r == 3) = false := by
    rw [hgood]; rcases hst with h | h <;> rw [h] <;> rfl
  have hfit : (some k).filter (fun t' => t' != r && !natBit (t.rf DRAM_CH_STATE_DEGRADED c) t') = some k := by
    simp [hother, hkeeps]
  simp only [State.degradeRank, hused, ← ht, hspare, hfit, if_false, Bool.false_eq_true]

end

section
variable {k : Nat} (hmoving : s.rf DRAM_MIG_STATE_STATE c = 1) (htrip : s.bit PM_THERM_STATE_TRIP = false)
include hmoving htrip

theorem exec_dramMigrationRegion_of_bad_spare (hbad : natBit (s.rf DRAM_CH_STATE_DEGRADED c) (s.rf DRAM_MIG_STATE_TO c) = true) :
    exec (.dramMigrationRegion c) s = .next ((s.sf DRAM_MIG_STATE_STATE c 3).dramEvent c 10) := by
  simp only [exec_dramMigrationRegion, execDramMigrationRegion, hmoving, htrip, hbad, ne_eq, not_true_eq_false, Bool.false_eq_true,
    or_self, if_true, if_false]

/-- A region is copied; the last one retires the rank. -/
theorem exec_dramMigrationRegion_of_good_spare (hk : s.rf DRAM_MIG_STATE_REGION c = k) (hr : r = s.rf DRAM_MIG_STATE_FROM c)
    (hgood : natBit (s.rf DRAM_CH_STATE_DEGRADED c) (s.rf DRAM_MIG_STATE_TO c) = false)
    (ht : t = ({ s with mem := (s.regionWords c r k).foldl copyWord s.mem } : State).sf DRAM_MIG_STATE_REGION c (k + 1)) :
    exec (.dramMigrationRegion c) s = .next (if (k + 1) * 2 ^ 20 < t.rankBytes c then t
      else (((t.sf DRAM_MIG_STATE_STATE c 2).setRankState c r 3).setRankState c (s.rf DRAM_MIG_STATE_TO c) 1).dramEvent c 8) := by
  simp only [exec_dramMigrationRegion, execDramMigrationRegion, hmoving, htrip, hgood, hk, ← hr, ← ht, ne_eq, not_true_eq_false,
    Bool.false_eq_true, or_self, if_false]

end

/-! ## Row repair (R426) -/

section
variable {f : Nat × Nat × Nat × Nat} {p : DramPlace} {chip blocked : Nat} {row : List Nat}
  (hf : s.protect.copying.find? (fun c => c.1 / 0x1000 == 6) = some f) (hp : p = s.dramPlace (f.2.2.2 - dramBase))
  (hx : x = { s with protect := { s.protect with copying := s.protect.copying.erase f } })
  (ht : t = x.setLog f.1 ((x.log f.1).filter (fun d => d.word != f.2.2.2)))
include hf hp hx ht

/-- With a repair resource the row is copied and recorded. -/
theorem exec_dramRowRepair_of_resource (hy : y = { t with mem := (row.map (fun w => w / 8 * 8)).foldl copyWord t.mem }) :
    exec (.dramRowRepair chip row true blocked) s
      = .next (((y.incf DRAM_RANK_STALL_NS (p.channel * 4 + p.rank) (min blocked 5000)).sdom oDRAM_REPAIRS 0
        (y.dom oDRAM_REPAIRS ++ y.repairRecord p chip)).dramEvent p.channel 5) := by
  simp only [exec_dramRowRepair, execDramRowRepair, hf, ← hp, ← hx, ← ht, ← hy, if_true]

/-- Without one it counts toward the limit of its chip. -/
theorem exec_dramRowRepair_of_no_resource {l : List Nat}
    (hl : l = (t.tb.count :: (t.drank p.channel p.rank).chips).filter
      (fun n => decide (t.tb.count < n + t.ob oDRAM_CHIP_WINDOW_S * ticksPerSecond)))
    (hy : y = (t.setDrank p.channel p.rank { t.drank p.channel p.rank with chips := l }).dramEvent p.channel 6)
    (hfew : l.length < y.ob oDRAM_CHIP_CE_LIMIT) : exec (.dramRowRepair chip row false blocked) s = .next y := by
  simp only [exec_dramRowRepair, execDramRowRepair, hf, ← hp, ← hx, ← ht, ← hl, ← hy, decide_eq_false (Nat.not_le.mpr hfew),
    Bool.and_false, if_false, Bool.false_eq_true]

end

end

/-- Settles O40, command by command. The record of a rank retired by DRAM.RETIRE_RANK, with SPARE 0, is the model's (log entry
169). -/
theorem dramCareCommandsComplete : Obligations.DramCareCommandsComplete := by
  refine ⟨fun s c r hlive => ⟨exec_dramZqCal_of_due hlive, fun hdue drift => ⟨exec_dramDqsOscRead_of_due hlive hdue drift true,
        exec_dramDqsOscRead_of_due hlive hdue drift false⟩,
      exec_dramRankRetrain_of_wanted hlive, fun hawake hidle => ⟨exec_dramPowerDown_of_idle hlive hawake hidle,
        exec_dramSelfRefreshEntry_of_sleep hlive hawake hidle⟩⟩,
    fun s c r n => exec_dramSelfRefreshExit_of_request,
    fun s t v c r hv hc hr hgood hst ht => ?retire,
    fun s t c r k hmoving hk hr htrip => ⟨exec_dramMigrationRegion_of_bad_spare hmoving htrip, fun hgood ht => ⟨fun hmore => ?region,
      fun hlast => ?last⟩⟩,
    fun s t x f p chip blocked row l hf hp hx ht => ⟨fun y => exec_dramRowRepair_of_resource hf hp hx ht,
      fun hl hfew => exec_dramRowRepair_of_no_resource hf hp hx ht hl rfl hfew⟩⟩
  case retire =>
    have hdo : exec (.dramRetireRankCommand v) s = .next (s.degradeRank c r 3) := by
      rw [exec_dramRetireRankCommand, execDramRetireRankCommand, if_pos hv, hc, hr]
    rw [hdo]
    refine ⟨fun hnone => ?_, fun k hspare hother hkeeps => ⟨fun hmoving => ?_, fun hfree => ?_⟩⟩
    · rw [State.degradeRank_of_no_spare hgood hst ht hnone]
    · rw [State.degradeRank_of_spare hgood hst ht hspare hother hkeeps, if_pos hmoving]
    · rw [State.degradeRank_of_spare hgood hst ht hspare hother hkeeps, if_neg hfree]
  case region => rw [exec_dramMigrationRegion_of_good_spare hmoving htrip hk hr hgood ht, if_pos hmore]
  case last =>
    rw [exec_dramMigrationRegion_of_good_spare hmoving htrip hk hr hgood ht, if_neg (Nat.not_lt.mpr hlast)]

end Sys2Proof.Machine
end
